-- ==== Sys2Proof/Word.lean ====
section
/-!
DEFINITION. The basic types of the model: octets and octet strings, and the marker values that several
formats share.  Bit vectors are used only for what the manual treats as octets; counts, times, phases and
rates are exact integers, since the manual computes them exactly and narrows them explicitly.
-/

namespace Sys2Proof

/-- An octet of a frame, a record, a BLOB or the on-chip SRAM. -/
abbrev Byte := BitVec 8

/-- A string of octets, the first octet first. -/
abbrev Octets := List Byte

/-- The BOUND32 value that means "unbounded" (R81). -/
def unbounded : Nat := 0xFFFF_FFFF

end Sys2Proof
end

