-- ==== Sys2Proof/Machine/Sparse.lean ====
section
/-!
DEFINITION. Sparse tables: a list of key and value pairs in one canonical form (keys strictly rising, no entry
equal to what its key reads as when it is not listed).  The object dictionary, the SRAM and every table of like
units (ports, stampers, channels, sessions, …) are held so; what an unlisted key reads as is the table's default.
-/

namespace Sys2Proof.Machine

/-- A sparse table of values. -/
abbrev Tbl (α : Type) := List (Nat × α)

namespace Sparse

variable {α : Type}

/-- The value at a key: the listed value, or the default of that key. -/
def get (d : Nat → α) (t : Tbl α) (k : Nat) : α := (t.lookup k).getD (d k)

/-- The table without a key. -/
def erase (t : Tbl α) (k : Nat) : Tbl α := t.filter fun p => p.1 != k

/-- A pair inserted at its place in the order of the keys. -/
def insert (k : Nat) (v : α) : Tbl α → Tbl α
  | [] => [(k, v)]
  | p :: t => if k < p.1 then (k, v) :: p :: t else p :: insert k v t

/-- The table with a value written at a key; writing the default removes the entry. -/
def put [DecidableEq α] (d : Nat → α) (t : Tbl α) (k : Nat) (v : α) : Tbl α :=
  if v = d k then erase t k else insert k v (erase t k)

/-- The canonical form: keys strictly rising and no entry equal to its default. -/
def wf [DecidableEq α] (d : Nat → α) : Tbl α → Bool
  | [] => true
  | [p] => p.2 ≠ d p.1
  | p :: q :: t => p.2 ≠ d p.1 && p.1 < q.1 && wf d (q :: t)

end Sparse

end Sys2Proof.Machine
end

