-- ==== Sys2Proof/Machine/TypesCore.lean ====
section
/-!
DEFINITION. Modes, ticks, time and faults: the operand types of their commands and the state behind their
objects (01, 02, 03, 15).
-/

namespace Sys2Proof.Machine

/-- A source of one or more clock domains, whose loss is one event (R35, R36). -/
inductive ClockSource where
  /-- XO_IN, the crystal oscillator. -/
  | xo
  /-- The reference clock input CLK_INn. -/
  | clkIn (n : Fin 4)
  /-- One of the PLLs T, S, N0, N1, J, O. -/
  | apll (k : Fin 6)
  /-- The TPL ÷ 8 tree of the stamp queues. -/
  | stampTree
  /-- The clock recovered from network lane NLn. -/
  | lane (n : Fin 16)
  /-- The clock recovered from the JESD lanes. -/
  | jesd
  /-- The PCIe PHY PLL. -/
  | pcie
  /-- The management SerDes PLL. -/
  | mgmtPll
  /-- The clock recovered from the management lane. -/
  | mgmtRx
  /-- The clock recovered from the Yethal lanes. -/
  | yethalRx
  /-- The Yethal SerDes PLL. -/
  | yethalPll
  deriving DecidableEq, Repr

/-- Where the current tick stands: the window begun last, or the guard after W3 (R41, R42). -/
inductive Window where
  | none | w0 | w1 | w2 | w3
  deriving DecidableEq, Repr

/-- The unfinished work of a window at its end position (R53). (Log entry 19, DEDUCED) -/
inductive Unfinished where
  /-- W0: stamp-queue words of a port that were not drained. -/
  | stampWords (port : Fin 64) (discarded : Nat)
  /-- W0: the GNSS epoch dump. -/
  | gnssDump
  /-- W0: frames not handed off to a grove. -/
  | handOff (grove : Fin 16) (frames : Nat)
  /-- W1: the Canopy computation; whether the Bobbin capture was complete by then. -/
  | canopy (captureComplete : Bool)
  /-- W2: the service items of a grove not finished. -/
  | items (grove : Fin 16) (count : Nat)
  /-- W3: the checkpoint of an engine. -/
  | checkpoint (grove : Fin 16) (engine : Fin 17)
  /-- W3: dictionary batch preparation. -/
  | batch
  /-- W3: a telemetry or counter dump. -/
  | telemetry
  /-- W3: key work. -/
  | keyWork
  /-- W3: the keyframe of the next record. -/
  | keyframe
  deriving DecidableEq, Repr

/-- A request for a step of the timescale, applied as a realignment at a boundary (R40, R207). -/
structure StepRequest where
  /-- The step, in 2^-32 ns. -/
  delta : Int
  /-- True for an operator step (R207); false for a first setting. -/
  operator : Bool
  deriving DecidableEq, Repr

/-- How the count of the tick after a realignment tick is set (R40 item 3). -/
inductive Follow where
  | none | first | later
  deriving DecidableEq, Repr

/-- The timescale state and bound in force for one tick (R17). -/
structure TsState where
  /-- The count of the tick. -/
  tick : Nat
  /-- Device time at its boundary, 2^-32 ns. -/
  time : Int
  /-- Plane time at its boundary, 2^-20 ns. -/
  plane : Int
  /-- The plane-time length of the tick, 2^-20 ns. -/
  len : Nat
  /-- RATE_Y, 2^-64. -/
  rateY : Int
  /-- The bound in force, BOUND32. -/
  bound : Nat
  /-- BOUND_SOURCE (R231). -/
  source : Nat
  /-- FLAGS of R236 but SMEARED and the leap bits, MODE, REF_ID and CAL_ID that a published bound of the tick names. -/
  flags : Nat := 0
  mode : Nat := 0
  ref : Nat := 0
  cal : Nat := 0
  deriving DecidableEq, Repr, Inhabited

/-- An armed injection request (R407). -/
structure Injection where
  checker : Nat
  mode : Nat
  count : Nat
  inst : Nat
  addr : Nat
  deriving DecidableEq, Repr

/-- A write of an object whose effect is an action of the device (R60): what it does at the boundary at which it
applies. -/
inductive DueWrite where
  /-- MODE_REQUEST (R27). -/
  | modeRequest (v : Nat)
  /-- LEAP_ENTRY_WRITE: E and the new offset (R77). -/
  | leapEntry (e : Int) (newOffset : Int)
  /-- LEAP_ENTRY_WRITE with E = 0 (R84). -/
  | leapCancel
  /-- TIMESCALE_STEP by a number of nanoseconds (R207). -/
  | step (ns : Int)
  /-- TIMESCALE_STEP by the last servo error (R207). -/
  | stepToRef
  /-- NTS_ROTATE_NOW (R296). -/
  | rotateNow
  /-- INJ_REQUEST (R407). -/
  | arm (inj : Injection)
  /-- INJ_CANCEL (R407). -/
  | disarm
  /-- TWIN_ACTION (R436, R442). -/
  | twinAction (a : Nat)
  /-- JOURNAL_NOW (R475). -/
  | journalNow
  /-- REMASK_REQUEST (R313). -/
  | remask
  deriving DecidableEq, Repr

/-- A write waiting for its boundary: the boundaries still to pass, and whether it waits for tick index 0. -/
structure Due where
  wait : Nat
  second : Bool
  write : DueWrite
  deriving DecidableEq, Repr

/-- Mode, reset, clock and tick state behind the objects of 0x2000, 0x2100 and 0x2101.
(Log entries 7, DESIGN CHOICE; 8, DESIGN CHOICE) -/
structure SysState where
  /-- The PWR_OK pin is high (R27). -/
  pwrOk : Bool := false
  /-- The RESET_N pin is high, after its filter (R499). -/
  resetN : Bool := false
  /-- Boundaries passed since entry to WARMUP (R56). -/
  warmupTick : Nat := 0
  /-- Boundaries passed since the latest APLL-T lock; none while unlocked (R27 transition 5). -/
  sinceLock : Option Nat := none
  /-- The local-oscillator offset was beyond ±4e-6 at the last boundary that measured it (R22). -/
  loOut : Bool := false
  /-- Accepted writes with an effect of their own that wait for their boundary, oldest first (R60). -/
  due : List Due := []
  /-- The mode request to be judged at this boundary (R28). -/
  modeReq : Nat := 0
  /-- The window of the current tick (R41). -/
  window : Window := .none
  /-- Consecutive ticks that coasted (R54). -/
  coastRun : Nat := 0
  /-- W1 of the current tick overran, or its computation was discarded (R54). -/
  coast : Bool := false
  /-- Windows W0–W3 that already counted an overrun in this tick (R52). -/
  overran : Nat := 0
  /-- W1 of a coming tick may not publish a finite bound: a cause of transition 8 arose in the tick (R27). -/
  forceUnbounded : Bool := false
  /-- The step taken at the next boundary (R40, R207). -/
  step : Option StepRequest := none
  /-- The last step of the timescale, 2^-32 ns (R280). -/
  lastStep : Int := 0
  /-- The current tick is a realignment tick (R40). -/
  realignTick : Bool := false
  /-- How the count after the realignment tick is set. -/
  follow : Follow := .none
  /-- Device time of the next boundary, 2^-32 ns. -/
  nextTime : Int := 0
  /-- The states in force for the current tick and the two before it, newest first (R17). -/
  history : List TsState := []
  /-- Per grove: its engines in service and its AES lanes in service, as at the last boundary (R47, R62). -/
  units : Tbl (Nat × Nat) := []
  /-- Service was allowed at the last boundary (R57). -/
  serviceWas : Bool := false
  /-- The 48-bit hardware counters that passed 2^48 − 1 and whose sticky overflow bit no object shows (R82). -/
  wrapped : List Nat := []
  /-- Per grove: boundaries until it enters SERVING; listed while a slot is due (R57). -/
  rampWait : Tbl (Option Nat) := []
  /-- Global count of values drawn where the manual leaves a value open (the model's own field). -/
  free : Nat := 0
  deriving DecidableEq, Repr

/-- A leap entry: E, the new TAI−UTC offset, and the offset before it (R76). -/
structure LeapEntry where
  e : Int
  newOffset : Int
  oldOffset : Int
  deriving DecidableEq, Repr, Inhabited

/-- What W3 meets: DICT_APPLY is detected while the immediate set applies, and the number of items of key work that fit in this W3 where not
all do (R53, R402). -/
structure W3Work where
  bad : Bool
  keys : Option Nat
  deriving DecidableEq, Repr

/-- Leap and smear state behind the objects of 0x2310–0x2312. -/
structure LeapState where
  /-- Applied entries, oldest first, at most 64 (R77). -/
  table : List LeapEntry := []
  /-- The entry just applied, while its smear window is open (R80). -/
  justApplied : Option LeapEntry := none
  /-- Leaps announced by each constellation (R77): constellation, E, new offset. -/
  announced : List (Nat × Int × Int) := []
  deriving DecidableEq, Repr

/-- A fault report or event, from its detection until it is acknowledged (R384, R389). -/
structure Report where
  /-- Identity of the record within the model. -/
  ident : Nat
  code : Nat
  /-- 1 C, 2 U, 3 F; 0 for events (R385). -/
  cls : Nat
  flags : Nat
  source : Nat
  detail : Nat
  tick : Nat
  subtick : Nat
  deriving DecidableEq, Repr, Inhabited

/-- An unacknowledged C or U record (R389). -/
structure OpenRecord where
  ident : Nat
  code : Nat
  cls : Nat
  source : Nat
  /-- The boundary at which an automatic acknowledgement falls due. -/
  due : Nat
  /-- The SEQ of its log entry, once written. -/
  seq : Option Nat
  deriving DecidableEq, Repr, Inhabited

/-- The HALTED registers of R397. -/
structure FatalRegs where
  code : Nat := 0
  source : Nat := 0
  tick : Nat := 0
  subtick : Nat := 0
  flags : Nat := 0
  deriving DecidableEq, Repr

/-- The collector, the log, ALIVE and injection (15). -/
structure FaultState where
  /-- Reports held for the current and the previous tick, in order of arrival (R386). -/
  held : List Report := []
  /-- Unacknowledged C and U records (R389). -/
  unacked : List OpenRecord := []
  /-- The entries of the log with their SEQ, oldest first, at most 65,536 (R385). -/
  log : List (Nat × Report) := []
  /-- The log is frozen after an F-class fault (R386). -/
  frozen : Bool := false
  /-- The identity given to the next report. -/
  nextIdent : Nat := 0
  /-- SUBTICK and INJECTED of the report being handled (R384, R409). -/
  context : Option (Nat × Bool) := none
  /-- The HALTED registers (R397). -/
  fatal : FatalRegs := {}
  /-- Boundaries passed since BOOT, the counter of ALIVE (R395). -/
  aliveCount : Nat := 0
  /-- Per grove: its age at entry to OUT, while OUT (R393). -/
  outSince : Tbl (Option Nat) := []
  /-- Groves out for good after an error in their firmware region (R393). -/
  firmwareOut : List Nat := []
  /-- Age at the last boundary at which a grove entered STARTING (R393). -/
  lastStart : Option Nat := none
  /-- Groves taken OUT by a fault, applied at the next boundary (R55). -/
  outDue : List Nat := []
  /-- The armed injection request (R407). -/
  armed : Option Injection := none
  deriving DecidableEq, Repr

/-- How a fault found by a checker outside the other commands is reported (R384): code, source, detail and
whether the check was an injected one. -/
structure FaultOperand where
  code : Nat
  source : Nat
  detail : Nat
  subtick : Nat
  injected : Bool
  deriving DecidableEq, Repr

end Sys2Proof.Machine
end

