-- ==== Sys2Proof/Machine/TypesBus.lean ====
section
/-!
DEFINITION. Side buses and pins: operand types and state behind 0x5120 and 0xE140–0xE170 (19).
-/

namespace Sys2Proof.Machine

/-- An I2C transaction: a host transaction of I2C_XFER, or a digital steering write of a DS channel (R501). -/
structure I2cTrans where
  addr : Nat
  wlen : Nat
  rlen : Nat
  repeated : Bool
  data : Octets
  /-- The DS channel of a steering write; none for a host transaction. -/
  steer : Option (Fin 4)
  deriving DecidableEq, Repr

/-- One I2C controller (R501–R503). -/
structure I2cCtl where
  /-- The transaction in progress. -/
  current : Option I2cTrans := none
  steerQ : List I2cTrans := []
  hostQ : List I2cTrans := []
  /-- Arbitration losses of the transaction in progress (R502). -/
  losses : Nat := 0
  /-- The controller lost arbitration and waits for bus-free. -/
  waitFree : Bool := false
  /-- Timed recovery attempts made since the reset (R503). -/
  attempts : Nat := 0
  deriving DecidableEq, Repr

/-- How an I2C transaction ended (R501). -/
inductive I2cEnd where
  | done (read : Octets)
  | addrNack
  | dataNack
  deriving DecidableEq, Repr

/-- What a controller's reset finds (R503): both lines high; SDA low and freed by the pulses of step 2; still low. -/
inductive I2cLines where
  | high
  | freed
  | stuck
  deriving DecidableEq, Repr

/-- The instructions of the test port (R509). -/
inductive Jtag where
  | bypass | idcode | samplePreload | extest | extestPulse | extestTrain
  deriving DecidableEq, Repr

/-- Side-bus and pin state. (Log entry 7, DESIGN CHOICE) -/
structure BusState where
  /-- The I2C controllers. -/
  i2c : Tbl I2cCtl := []
  /-- The read offset of the I2C target (R504). -/
  targetOffset : Nat := 0
  /-- The octets last returned by the I2C target. -/
  targetOut : Octets := []
  /-- Console lines waiting in the transmit buffer: SEQ and octets left (R507). -/
  uart : List (Nat × Nat) := []
  /-- Fraction of an octet already sent, in 1/81,920 octet. -/
  uartCredit : Nat := 0
  /-- The instruction in effect in the test port (R509). -/
  jtag : Jtag := .bypass
  /-- The value that the test port shifts out. -/
  jtagOut : Nat := 0
  /-- The boundary register as loaded by PRELOAD or captured by SAMPLE. -/
  boundary : Octets := []
  deriving DecidableEq, Repr

end Sys2Proof.Machine
end

