-- ==== Sys2Proof/Machine/TypesCanopy.lean ====
section
/-!
DEFINITION. The ensemble and the bounds: the state behind 0x3100 and 0x3200 (08, 09).
-/

namespace Sys2Proof.Machine

/-- The 51 states and the covariance (R200, R201): x by state index, P by 51 × row + column with row ≤ column, and
the clocks whose store saturated (0 the plane, m + 1 member m). -/
structure EnsModel where
  x : Tbl Int := []
  p : Tbl Int := []
  sat : List Nat := []
  deriving DecidableEq, Repr

/-- What slot 0 takes for a member (R204): its measurement in 2^-32 ns, the noise in 2^-64 ns², the output of the
phase-tracking filter, and the origin used. -/
structure MemberMeas where
  m : Nat
  z : Int
  r : Nat
  fx : Int
  fy : Int
  origin : Int
  deriving DecidableEq, Repr

/-- One member besides its objects. -/
structure Member where
  /-- The declaration in force, empty while UNDECLARED; ENS_MEMBER_CFG can read a newer one (R202). -/
  cfg : Octets := []
  /-- A newer declaration is held until the first epoch after HOLDOVER (R202). -/
  held : Bool := false
  /-- The origin of the phase, 2^-32 ns; the phase-tracking filter (R204). -/
  origin : Int := 0
  fx : Int := 0
  fy : Int := 0
  /-- The measurement and its noise at the last epoch. -/
  z : Int := 0
  r : Nat := 0
  /-- Consecutive gating failures, missed epochs and epochs in which it alone disagreed (R211, R213, R218). -/
  fails : Nat := 0
  missed : Nat := 0
  alone : Nat := 0
  /-- Controls applied since the epoch before: Σ Δu, Σ Δu × instant (age in ticks), Σ Δu²; and those of the epoch
  being computed (R214). -/
  ctl : Int × Int × Nat := (0, 0, 0)
  due : Int × Int × Nat := (0, 0, 0)
  /-- Digital writes whose latency runs: age of the effect, Δu. -/
  latent : List (Nat × Int) := []
  /-- The frequency offset applied at the oscillator, 2^-64. -/
  applied : Int := 0
  deriving DecidableEq, Repr

/-- A decision of slot 35: member, new state, whether it counts as an ejection, the admission count, and the runs of gating failures, missed
epochs and epochs alone. -/
structure Decision where
  m : Nat
  state : Nat
  ejected : Bool
  joinSecs : Nat
  fails : Nat := 0
  missed : Nat := 0
  alone : Nat := 0
  deriving DecidableEq, Repr

/-- The update of one epoch in progress, from slot 0 to the boundary of tick index 37 (R209). -/
structure EpochWork where
  model : EnsModel
  /-- Seconds propagated over. -/
  tau : Nat
  /-- Age of the epoch, and the plane's reading there. -/
  at_ : Nat
  reading : Int
  meas : List MemberMeas
  /-- Sum and number of z_T over the second. -/
  zt : Int × Nat
  /-- Members whose update failed the gate, and those missed. -/
  failed : List Nat := []
  missed : List Nat := []
  /-- Pairs compared, and pairs failed with the measured difference beyond the predicted one in ps and k² times its variance in ps²
  (R218). -/
  pairs : List (Nat × Nat) := []
  bad : List ((Nat × Nat) × Rat × Rat) := []
  /-- Steps of the plane since slot 0: the step in 2^-32 ns, the change of rate in 2^-64 and the reading (R181). -/
  moved : List (Int × Int × Int) := []
  decisions : List Decision := []
  /-- NIS of the members, 2^-16; what slot 35 gives: steering words, ENS_CONFLICT with C, the weights where they change with what they stand
  on, the members whose held declaration takes effect, and the digest. -/
  nis : List (Nat × Nat) := []
  steer : List (Nat × Int) := []
  conflict : Bool := false
  conflictPs : Option Nat := none
  weights : Option (List (Nat × Octets) × List (Nat × Nat)) := none
  redeclared : List Nat := []
  digest : Nat := 0
  /-- Slot 36 has run: the update takes effect at the next boundary. -/
  done : Bool := false
  /-- Slot 35 has given the digest (R222). -/
  digested : Bool := false
  deriving DecidableEq, Repr

/-- A holdover segment (R215–R218). -/
structure HoldSeg where
  /-- Age at its start, and B_s. -/
  start : Nat
  base : Nat
  /-- ΣΣ w w P over y·y, y·d and d·d at the start, in 2^-64 × the unit of the block. -/
  pyy : Int
  pyd : Int
  pdd : Int
  /-- C, and the terms of R54 and of operator steps that fell in the segment, in ps. -/
  conflict : Nat := 0
  extra : Nat := 0
  /-- Low 32 bits of ENS_STATE_DIGEST at the start. -/
  digest : Nat := 0
  deriving DecidableEq, Repr

/-- HOLDOVER (R215): the constant c, Σ w x^E and its rate and drift (2^-32 × the state's format) at the last epoch,
whose plane reading is `at_`. -/
structure Hold where
  entry : Nat
  seg : HoldSeg
  c : Int
  at_ : Int
  x : Int
  y : Int
  d : Int
  /-- H of the tick in force and of the next, less TWIN. -/
  last : Nat
  pending : Nat
  deriving DecidableEq, Repr

/-- A measured APLL-T step that an epoch takes (R180, R211): age at which S_m became known, the plane's reading of the switch, S_m in
2^-20 ns, the change of the plane's rate in 2^-64, U_m in ps, and σ² of the new input's frequency in 2^-160. -/
structure MeasuredStep where
  known : Nat
  reading : Int
  step : Int
  rate : Int
  um : Nat
  vy : Nat
  deriving DecidableEq, Repr

/-- What the servo term stands on (R230): number, sum of e, sum of the instants (2^-32 ns), and s, u, CAL_ID and ID of
the reference. -/
structure ServoBase where
  n : Nat
  e : Int
  t : Int
  s : Nat
  u : Nat
  cal : Nat
  ref : Nat
  deriving DecidableEq, Repr

/-- The bound of the next tick with what is published beside it. -/
structure CoreBound where
  bound : Nat
  source : Nat
  /-- BOUND_SYS_PS, BOUND_RAND_PS, BOUND_SERVO_PS while BOUND_SOURCE is 1. -/
  pub : Option (Nat × Nat × Nat)
  prov : Octets
  /-- CAL_ID of the REF_SYS record, or of HOLD. -/
  cal : Nat
  deriving DecidableEq, Repr

/-- The Canopy state and the bound engine. (Log entry 7, DESIGN CHOICE) -/
structure CanopyState where
  model : EnsModel := {}
  members : Tbl Member := []
  /-- I and the RATE_Y that the servo last gave, 2^-64; ρ of R206, 2^-64 of 2^-20 ns. -/
  integral : Int := 0
  rate : Int := 0
  rho : Int := 0
  /-- The loop of the last applied observation (a reference ID, or 0x100 for E) and its age (R205). -/
  loop : Nat := 0
  lastObs : Option Nat := none
  /-- The selection that the servo saw last (R205). -/
  selSeen : Nat := 0
  /-- The device was in TRACK when observations were last taken (R205). -/
  track : Bool := false
  /-- The plane's reading is plane time plus this, 2^-32 ns (R199). -/
  origin : Int := 0
  /-- Σ z_T and the number of observations of the current second. -/
  zSum : Int := 0
  zN : Nat := 0
  /-- The plane moved in the current second (R211), and in the second that slot 0 takes. -/
  touched : Bool := false
  touchedLast : Bool := false
  /-- Age and plane reading of the last tick of index 4,096. -/
  epochAt : Nat := 0
  epochReading : Int := 0
  /-- The plane's reading at the epoch whose states and measurements are in force (R215). -/
  modelReading : Int := 0
  work : Option EpochWork := none
  /-- Seconds over which the next epoch propagates beyond one: a discarded epoch (R211). -/
  skipped : Nat := 0
  /-- The timing plane was lost since the last epoch. -/
  tplLost : Bool := false
  /-- The plane's model octets in force and the input that they belong to. -/
  planeInput : Nat := 255
  /-- An APLL-T step whose measurement an epoch takes (R211). -/
  planeStep : Option MeasuredStep := none
  /-- What the plane's reading was found to have stepped by: age of the boundary at which Canopy takes it, 2^-32 ns, and the change of the
  plane's rate in 2^-64 (R180, R225). -/
  switched : Option (Nat × Int × Int) := none
  /-- Members with the declarations that the weights in force stand on. -/
  weighted : List (Nat × Octets) := []
  hold : Option Hold := none
  /-- The e_n of the first observation after HOLDOVER is awaited; H of the last HOLDOVER tick (R220). -/
  returning : Option Nat := none
  /-- Observations of the last 8,192 ticks, each made while its reference was selected: age, reference, instant, e; and the reference of
  the carried component (R230). -/
  window : List (Nat × Nat × Int × Int) := []
  windowRef : Nat := 0
  carry : Option ServoBase := none
  /-- Sum of the coast increments since the last completed W1 (R226). -/
  coastSum : Nat := 0
  /-- A plane state saturated (R221). -/
  planeSat : Bool := false
  /-- The bound computed for the next tick. -/
  next : Option CoreBound := none
  deriving DecidableEq, Repr

end Sys2Proof.Machine
end

