-- ==== Sys2Proof/Machine/TypesGlade.lean ====
section
/-!
DEFINITION. Glade: operand types and state behind the objects of 0x4000 and 0x4100 (05, 06).
-/

namespace Sys2Proof.Machine

/-- One leg of a measurement: the channel, and the system time, within the GPS week in 2^-32 ns, at which the navigation unit
in progress started. (Log entry 41, DEDUCED) -/
structure Leg where
  ch : Fin 256
  unitStart : Int
  deriving DecidableEq, Repr

/-- One (satellite, antenna) pair of an epoch, with what the broadcast navigation data give of its satellite (R151, R153, R156).
(Log entry 41, DEDUCED) -/
structure Measurement where
  /-- 1 GPS, 2 Galileo, 3 BeiDou, 4 GLONASS. -/
  system : Nat
  sv : Nat
  antenna : Fin 4
  /-- Elevation at the antenna's position, 2^-7 degree. -/
  elevation : Nat
  /-- Broadcast ephemeris and clock passed their checks and the satellite is marked healthy. -/
  healthy : Bool
  /-- Legs by band; band 0 first. -/
  band0 : Option Leg
  band1 : Option Leg
  band2 : Option Leg
  /-- Broadcast satellite position, 0.1 mm, and clock correction in ps. -/
  x : Int
  y : Int
  z : Int
  clock : Int
  /-- Broadcast ionosphere correction at 1,575.42 MHz, by the model of the satellite's own system and by the GPS model, in ps. -/
  ionoOwn : Int
  ionoGps : Int
  deriving DecidableEq, Repr

/-- A Glade epoch (R131). (Log entry 41, DEDUCED) -/
structure GladeEpoch where
  /-- Plane time of the epoch, 2^-20 ns, where no earlier epoch fixes it. -/
  plane : Nat
  /-- Links whose internal SYSREF sample is misaligned (R119). -/
  sysrefBad : List (Fin 4)
  /-- The octets that JL00–JL15 delivered since the epoch before, and after them the frames that BLANK_PRE looks ahead to (R116, R124). -/
  lanes : List Octets
  pairs : List Measurement
  /-- Time of the reference system less UTC(k), from its broadcast UTC parameters, 2^-32 ns (R155). -/
  utcOffset : Int
  deriving DecidableEq, Repr

/-- Why a link in DATA goes to FAULT (R120). -/
inductive LinkFault where
  | syncHeaders | bufferSlip | crc
  deriving DecidableEq, Repr

/-- A multiblock that fails CRC-12: its link, its logical lane and its number since the last epoch (R122). -/
structure BadBlock where
  link : Fin 4
  lane : Fin 4
  block : Nat
  deriving DecidableEq, Repr

/-- What comes with the end of a coherent integration besides its sums (R138, R141, R142). -/
structure Integration where
  /-- Accumulators whose parity check failed, by tap number. -/
  parity : List (Fin 9)
  /-- The millisecond of code, in the channel's count, at which a symbol begins, while bit sync holds. -/
  bitSync : Option Nat
  frameSync : Bool
  deriving DecidableEq, Repr

/-- The sums of a coherent integration (R133, R136, R138): its length in ms, its unblanked samples, and E2, E1, P, L1, L2, MPE, MPL, NOISE, SPARE
and the data prompt, I and Q. -/
structure TapSums where
  ms : Nat := 0
  live : Nat := 0
  taps : List (Int × Int) := []
  deriving DecidableEq, Repr

/-- A snapshot of one stream for one signal (R134): the epoch at which it was taken, the milliseconds still to come, and its decimated samples,
2^-96. (Log entry 101, DEDUCED) -/
structure Snapshot where
  epoch : Nat := 0
  left : Nat := 0
  samples : List (Int × Int) := []
  deriving DecidableEq, Repr

/-- One entry of the visible-satellite list (R143); GLONASS with its frequency channel (R136). -/
structure Visible where
  system : Nat
  sv : Nat
  elevation : Nat
  gloK : Int
  deriving DecidableEq, Repr

/-- A week number carried by a navigation unit (R161): source 1–3 with a full week field, or the LNAV 10-bit
week. -/
inductive WeekField where
  | cnav (w : Nat) | galileo (w : Nat) | beidou (w : Nat) | lnav (w : Nat)
  deriving DecidableEq, Repr

/-- A navigation unit decoded by a channel, before its check (R144). (Log entry 41, DEDUCED) -/
structure NavUnit where
  /-- The unit's symbols from the data prompts, polarity resolved, first transmitted first. -/
  symbols : List Bool
  inverted : Bool
  /-- Epochs that have fallen since the first one after the unit's last bit, and whole primary code periods since that bit. -/
  epochs : Nat
  periods : Nat
  /-- What its fields carry: a week, a leap announced by UTC parameters (E and the new TAI−UTC offset), the frequency channel of a GLONASS
  slot. -/
  week : Option WeekField
  leap : Option (Int × Int)
  gloK : Option (Nat × Int)
  deriving DecidableEq, Repr

/-- A surveyed antenna: X, Y, Z in 0.1 mm and the 3D standard deviation in mm. -/
structure SurveyPos where
  x : Int
  y : Int
  z : Int
  sigma : Nat
  deriving DecidableEq, Repr

/-- One measurement of a survey (R149): antenna, system, the epoch's instant by it in ps without range and troposphere, its variance in ps²,
the elevation, and the broadcast satellite position, 0.1 mm. -/
structure SurveyObs where
  antenna : Nat
  system : Nat
  instant : Rat
  var : Rat
  elevation : Nat
  x : Int
  y : Int
  z : Int
  deriving DecidableEq, Repr

/-- One carrier double difference of a survey (R150, R159): baseline, what stays as long as its four channels count on without a break, its value
in 2^-32 cycle, and the positions of satellite and reference satellite, 0.1 mm. -/
structure SurveyDiff where
  baseline : Nat
  arc : List Nat
  value : Int
  sat : Int × Int × Int
  ref : Int × Int × Int
  deriving DecidableEq, Repr

/-- One second of a survey (R149). -/
structure SurveySecond where
  obs : List SurveyObs
  diffs : List SurveyDiff
  deriving DecidableEq, Repr

/-- What a survey estimated (R149, R150): positions of the antennas that it determines, and baselines 1–3. -/
structure SurveyResult where
  positions : List (Option SurveyPos)
  baselines : List (Option SurveyPos)
  deriving DecidableEq, Repr

/-- A satellite of the spoofing check: its elevation, 2^-7 degree, and its broadcast position, 0.1 mm (R159). -/
structure SpoofSat where
  system : Nat
  sv : Nat
  elevation : Nat
  x : Int
  y : Int
  z : Int
  deriving DecidableEq, Repr

/-- A term of the spoofing metric: measured and expected double difference in 2^-32 cycle (R159). -/
structure SpoofTerm where
  measured : Int
  expected : Int
  deriving DecidableEq, Repr

/-- One tracking channel. -/
structure TrackChannel where
  /-- The age at entry to the state. -/
  entry : Nat := 0
  /-- Signal, SV and antenna in force; signal 0 for none. -/
  asg : Nat × Nat × Nat := (0, 0, 0)
  /-- The SEARCH has a detection, at a Doppler in Hz and a cell of code phase, that waits for its confirmation dwell (R135). -/
  confirming : Option (Int × Nat) := none
  /-- Whole windows searched without detection (R141). -/
  windows : Nat := 0
  /-- The epoch of the snapshot that the channel was last searched in (R134). -/
  searched : Option Nat := none
  /-- An assignment that takes effect at the next epoch: signal, SV, antenna, PIN (R143). -/
  next : Option (Nat × Nat × Nat × Nat) := none
  /-- The replica at the last epoch (R133): code phase in 2^-32 chip, carrier phase in 2^-32 cycle with its remainder in 2^-32/1000, Doppler in
  2^-8 Hz, and the code loop's rate in 2^-32 chip/s. -/
  codePhase : Nat := 0
  carrier : Int := 0
  carrierRem : Int := 0
  doppler : Int := 0
  codeRate : Int := 0
  /-- Code phase and carrier phase before the last epoch, and how far each moved in it. -/
  sweep : Nat × Int × Int × Int := (0, 0, 0, 0)
  /-- The code phase counted from the start of the navigation unit in progress, once a unit has passed, 2^-32 chip (R133). -/
  unitCode : Option Nat := none
  /-- The age at the last entry to PULL_IN, from which the carrier phase counts (R133). -/
  pulled : Nat := 0
  /-- State of the carrier loop's filter. -/
  loop : List Int := []
  /-- Realised offsets of the nine taps from P in 2^-32 chip; none for an idle tap (R137). -/
  offsets : List (Option Int) := []
  /-- Milliseconds of code since PULL_IN, the integration in progress, and those that ended and whose loops are to be closed (R138). -/
  codeMs : Nat := 0
  sums : Option TapSums := none
  done : List TapSums := []
  /-- The last data prompt (R136). -/
  dataPrompt : Int × Int := (0, 0)
  /-- Carrier smoothing: epochs in the mean, and the mean of code less carrier in 2^-32 ns (R151). -/
  smooth : Option (Nat × Int) := none
  /-- The millisecond of code at which a symbol begins; none before bit sync (R138). -/
  edge : Option Nat := none
  /-- Milliseconds of the runs of R141: pull-in, loss. -/
  goodMs : Nat := 0
  weakMs : Nat := 0
  /-- Prompt and noise powers of the last second with their lengths, newest first (R139). -/
  powers : List (Nat × Nat × Nat) := []
  /-- The PLI block in progress: sum of the ratio in 2^-32, integrations, milliseconds (R139). -/
  pliSum : Int := 0
  pliN : Nat := 0
  pliMs : Nat := 0
  /-- Consecutive means below 0.60. -/
  pliLow : Nat := 0
  /-- Multipath ratios of the last second with their lengths, 2^-32, newest first (R140). -/
  ratios : List (Int × Nat) := []
  cn0 : Nat := 0
  mpMetric : Int := 0
  slip : Bool := false
  newAcc : Bool := false
  frameSync : Bool := false
  navPassed : Bool := false
  halfCycle : Bool := true
  /-- The tap replaced by SPARE, and the one to be replaced from the next epoch (R142). -/
  spared : Option Nat := none
  spareDue : Option Nat := none
  out : Bool := false
  /-- The taps of the last integration (R133). -/
  taps : List (Int × Int) := []
  /-- The record of the last epoch. -/
  record : Octets := []
  valid : Bool := false
  notchDelay : Int := 0
  /-- D29* and D30* of the previous LNAV word, if it was received (R144). -/
  lnavPrev : Option (Bool × Bool) := none
  deriving DecidableEq, Repr

/-- One link. -/
structure GladeLink where
  entry : Nat := 0
  /-- The multiblocks that failed CRC-12 since the last epoch: logical lane and number (R122). -/
  bad : List (Nat × Nat) := []
  /-- An epoch has begun in DATA: the next one to end is complete (R128). -/
  whole : Bool := false
  latKnown : Bool := false
  /-- DISCONT for the next epoch (R121). -/
  discont : Bool := false
  deriving DecidableEq, Repr

/-- One notch: assigned bin, present frequency in Hz from the stream centre, averages below the release level, and the two last inputs and
outputs of its filter for I and Q (R126). -/
structure Notch where
  home : Nat
  freq : Int
  below : Nat := 0
  memI : Int × Int × Int × Int := (0, 0, 0, 0)
  memQ : Int × Int × Int × Int := (0, 0, 0, 0)
  deriving DecidableEq, Repr, Inhabited

/-- One stream. -/
structure GladeStream where
  /-- A complete epoch of the link has set σ (R128). -/
  sigmaSet : Bool := false
  jammed : Bool := false
  notches : List (Option Notch) := []
  /-- The spectrum summed so far with its epochs, and the last one that is complete (R126). -/
  spectrum : List Nat := []
  spectrumEpochs : Nat := 0
  average : Option (List Nat) := none
  /-- Notches that come into force at the next epoch (R127). -/
  nextNotches : Option (List (Option Notch)) := none
  /-- Samples after the last epoch that BLANK_POST still blanks (R124). -/
  postLeft : Nat := 0
  /-- The requantised samples of the last epoch: blank bit, I code, Q code (R129). -/
  codes : List Nat := []
  deriving DecidableEq, Repr

/-- Sums of weighted residuals for the position correction of one antenna: the symmetric normal matrix (xx, xy, xz, yy, yz, zz) and the
right-hand side, in mm and ps (R158). -/
structure PosSums where
  a : List Rat := []
  b : List Rat := []
  deriving DecidableEq, Repr

/-- The signal path and the solution. (Log entry 7, DESIGN CHOICE) -/
structure GladeState where
  /-- The age at entry to CLOCKS. -/
  entry : Nat := 0
  /-- Glade has been in RUN (R131). -/
  started : Bool := false
  sysrefLeft : Nat := 0
  links : Tbl GladeLink := []
  streams : Tbl GladeStream := []
  channels : Tbl TrackChannel := []
  /-- Pairs not searched again before an age: signal, SV, antenna, until (R141). -/
  banned : List (Nat × Nat × Nat × Nat) := []
  /-- Snapshots by 256 × stream + signal (R134). -/
  snaps : Tbl (Option Snapshot) := []
  /-- The records in the navigation ring, oldest first, by the octet count at which each begins and its length (R145), and octets ever written. -/
  navRecords : List (Nat × Nat) := []
  navWritten : Nat := 0
  /-- The descriptor of the last epoch and its records, waiting for W0 (R132). -/
  descriptor : Octets := []
  epochPending : Bool := false
  /-- The last dump handed over in W0: descriptor and records. -/
  dump : Octets := []
  dumpRecords : List Octets := []
  /-- The solution record of the last epoch, handed over with the next dump (R163). -/
  record : Octets := []
  /-- The solution record handed over last, with the plane time and tick boundary of its epoch. -/
  handed : Option Octets := none
  /-- The descriptor of that epoch. -/
  handedDesc : Octets := []
  /-- Plane time of the epochs: of the last epoch, and of the epoch whose record was handed over; the last one fixes the next (R131). -/
  epochPlane : Int := 0
  phased : Bool := false
  /-- The age of the tick that held the last epoch, and the state in force for that tick. -/
  epochAge : Option Nat := none
  epochState : Option TsState := none
  recordPlane : Option (Int × Option TsState) := none
  handedPlane : Int := 0
  handedState : Option TsState := none
  /-- The frequency channels of the GLONASS slots (R136). -/
  gloK : Tbl Int := []
  /-- Residuals summed for the position check, by antenna, from an epoch count on; a suspect position waits for the next epoch (R158). -/
  posSums : Tbl PosSums := []
  posSince : Nat := 0
  suspect : Bool := false
  /-- The consistency test of the last epoch failed (R157). -/
  testFailed : Bool := false
  /-- Solution: system, SV and the epoch count until which each is excluded (R157). -/
  excluded : List (Nat × Nat × Nat) := []
  /-- Consecutive epochs that passed in INTEGRITY_FAIL (R162). -/
  passes : Nat := 0
  calChanged : Bool := false
  /-- No VALID before this epoch count: parity of the processor's memory (R165). -/
  parityUntil : Nat := 0
  /-- Spoofing runs: raise, clear, unavailable seconds (R160). -/
  raiseRun : Nat := 0
  clearRun : Nat := 0
  unavailRun : Nat := 0
  /-- The latest decoded week of each source 1–3, and the LNAV week (R161). -/
  weeks : Tbl (Option Nat) := []
  lnav : Option Nat := none
  /-- The epoch count of the last spoofing check (R160). -/
  spoofAt : Option Nat := none
  /-- The seconds of the survey in progress, newest first (R149). -/
  survey : List SurveySecond := []
  /-- The checkpointed GPS week of the journal. -/
  checkpointWeek : Option Nat := none
  deriving DecidableEq, Repr

end Sys2Proof.Machine
end

