-- ==== Sys2Proof/Machine/Bits.lean ====
section
/-!
DEFINITION. Octet order, bit fields, checks and roundings that several chapters share.  Multi-octet fields are
sent most significant octet first (R7, R330).
-/

namespace Sys2Proof.Machine

/-- The unsigned value of an octet string, most significant octet first. -/
def beNat (bs : Octets) : Nat := bs.foldl (fun a b => a * 256 + b.toNat) 0

/-- `n` octets of an unsigned value, most significant octet first, modulo 2^(8n). -/
def toBE : Nat → Nat → Octets
  | 0, _ => []
  | n + 1, v => BitVec.ofNat 8 (v / 256 ^ n) :: toBE n v

/-- `n` octets of a signed value in two's complement. -/
def toBEInt (n : Nat) (v : Int) : Octets := toBE n (v.emod (256 ^ n)).toNat

/-- A value of `w` bits read as two's complement. -/
def signed (w v : Nat) : Int := if v < 2 ^ (w - 1) then v else (v : Int) - 2 ^ w

/-- The octet at an offset (0 beyond the end). -/
def octetAt (bs : Octets) (i : Nat) : Nat := (bs.getD i 0).toNat

/-- `n` octets from an offset, with zeros beyond the end. -/
def octets (bs : Octets) (off n : Nat) : Octets :=
  let x := (bs.drop off).take n
  x ++ List.replicate (n - x.length) 0

/-- The unsigned field of `n` octets at an offset. -/
def fieldN (bs : Octets) (off n : Nat) : Nat := beNat (octets bs off n)

/-- The signed field of `n` octets at an offset. -/
def fieldI (bs : Octets) (off n : Nat) : Int := signed (8 * n) (fieldN bs off n)

/-- `n` octets of zero. -/
def zeros (n : Nat) : Octets := List.replicate n 0

/-- An octet string cut or padded with zeros to `n` octets. -/
def padTo (n : Nat) (bs : Octets) : Octets := octets bs 0 n

/-- An octet string with the octets from `off` replaced. -/
def patch (bs : Octets) (off : Nat) (new : Octets) : Octets :=
  padTo off bs ++ new ++ bs.drop (off + new.length)

/-- The quotient rounded up. -/
def ceilDiv (a b : Nat) : Nat := (a + b - 1) / b

/-- The signed quotient by a positive divisor, rounded up. -/
def ceilDivI (a b : Int) : Int := -((-a) / b)

/-- Round to nearest, ties up: floor(a/b + 1/2) for b > 0. -/
def roundUpHalf (a b : Int) : Int := (2 * a + b) / (2 * b)

/-- Round to nearest, ties to even, for b > 0. -/
def roundEven (a b : Int) : Int :=
  let q := a / b
  let r := a - q * b
  if 2 * r < b then q else if 2 * r > b then q + 1 else if q % 2 = 0 then q else q + 1

/-- A value kept inside an interval. -/
def clampI (lo hi v : Int) : Int := if v < lo then lo else if hi < v then hi else v

/-- Bit `k` of a number as a Bool. -/
def bitOf (v k : Nat) : Bool := v.testBit k

/-- A number with bit `k` set. -/
def setBit (v k : Nat) : Nat := v ||| 2 ^ k

/-- A number with bit `k` cleared. -/
def clearBit (v k : Nat) : Nat := if v.testBit k then v ^^^ 2 ^ k else v

/-- The number of bits of value 1 among the lowest `n`. -/
def popCount (v : Nat) : Nat → Nat
  | 0 => 0
  | n + 1 => (if v.testBit n then 1 else 0) + popCount v n

/-- The integer square root, rounded down, by bits from `n` downwards. -/
def isqrtGo (v : Nat) : Nat → Nat → Nat
  | 0, r => r
  | n + 1, r => let c := r + 2 ^ n; if c * c ≤ v then isqrtGo v n c else isqrtGo v n r

/-- The integer square root rounded down (of values below 2^256). -/
def isqrt (v : Nat) : Nat := isqrtGo v 128 0

/-- The integer square root rounded up. -/
def isqrtUp (v : Nat) : Nat := let r := isqrt v; if r * r = v then r else r + 1

/-- One bit step of a reflected CRC. -/
def crcStepReflected (poly c : Nat) : Nat := if c % 2 = 1 then (c / 2) ^^^ poly else c / 2

/-- Eight bit steps of a reflected CRC. -/
def crcByteReflected (poly c b : Nat) : Nat :=
  (List.range 8).foldl (fun c _ => crcStepReflected poly c) (c ^^^ b)

/-- CRC-32C (Castagnoli), as R445, R473 and R309 use it. -/
def crc32c (bs : Octets) : Nat :=
  (bs.foldl (fun c b => crcByteReflected 0x82F63B78 c b.toNat) 0xFFFF_FFFF) ^^^ 0xFFFF_FFFF

/-- One octet of an unreflected CRC of `w` bits. -/
def crcByteForward (w poly c b : Nat) : Nat :=
  (List.range 8).foldl
    (fun c _ => if c.testBit (w - 1) then ((c * 2) % 2 ^ w) ^^^ poly else (c * 2) % 2 ^ w)
    (c ^^^ (b * 2 ^ (w - 8)))

/-- CRC-64 with the ECMA-182 polynomial, initial value 0, unreflected (R222). -/
def crc64 (bs : Octets) : Nat := bs.foldl (fun c b => crcByteForward 64 0x42F0E1EBA9EA3693 c b.toNat) 0

/-- CRC-16 with polynomial 0x1021 and initial value 0xFFFF (R241). -/
def crc16 (bs : Octets) : Nat := bs.foldl (fun c b => crcByteForward 16 0x1021 c b.toNat) 0xFFFF

/-- The saturating sum of two BOUND32 values (R81). -/
def boundAdd (a b : Nat) : Nat := if a + b > 0xFFFF_FFFE ∨ a = unbounded ∨ b = unbounded then unbounded else a + b

/-- A count of picoseconds saturated to BOUND32 (R81). -/
def toBound (v : Int) : Nat := if v > 0xFFFF_FFFE then unbounded else v.toNat

/-- Insertion of an element into a sorted list, after the elements that are not greater. -/
def insertBy {α : Type} (lt : α → α → Bool) (x : α) : List α → List α
  | [] => [x]
  | y :: t => if lt x y then x :: y :: t else y :: insertBy lt x t

/-- Stable insertion sort. -/
def sortBy {α : Type} (lt : α → α → Bool) (l : List α) : List α := l.foldl (fun t x => insertBy lt x t) []

/-- The elements of a list with their positions. -/
def enum {α : Type} (l : List α) : List (Nat × α) := (List.range l.length).zip l

/-- A list with the element at a position replaced. -/
def setAt {α : Type} (l : List α) (i : Nat) (x : α) : List α := l.set i x

/-- The sum of a list of integers. -/
def sumI (l : List Int) : Int := l.foldl (· + ·) 0

/-- The sum of a list of naturals. -/
def sumN (l : List Nat) : Nat := l.foldl (· + ·) 0

/-- The largest of a list of naturals (0 for none). -/
def maxN (l : List Nat) : Nat := l.foldl max 0

end Sys2Proof.Machine
end

