-- ==== Sys2Proof/Machine/ObjTypes.lean ====
section
/-!
DEFINITION. The columns of the object tables: value types, access marks, application points and port classes.
-/

namespace Sys2Proof.Machine

/-- The value types of dictionary objects (R330). -/
inductive ObjTy where
  | bool | u8 | u16 | u32 | u64 | i16 | i32 | i64 | bound32 | time80 | keyref | str | blob
  deriving DecidableEq, Repr

/-- The access mark of one port class on one object (R331). -/
inductive Access where
  | no | r | w | rw
  deriving DecidableEq, Repr

/-- When a write applies (R334). -/
inductive Applies where
  | immediate | nextTick | nextSecond
  deriving DecidableEq, Repr

/-- The five port classes: H and h are the PCIe functions, M the management port, N the network, T the
twin peer (R11, R331). -/
inductive PortClass where
  | hostH | hosth | mgmtM | netN | twinT
  deriving DecidableEq, Repr

/-- One row of an object table: the range of indices and sub-indices, the type, the access marks in the
order H, h, M, N, T, the application point and the numeric default. -/
structure ObjRow where
  idxLo : Nat
  idxHi : Nat
  subLo : Nat
  subHi : Nat
  ty : ObjTy
  accH : Access
  acch : Access
  accM : Access
  accN : Access
  accT : Access
  applies : Applies
  dflt : Int
  deriving DecidableEq, Repr

/-- The access mark of a class on a row. -/
def ObjRow.access (r : ObjRow) : PortClass → Access
  | .hostH => r.accH
  | .hosth => r.acch
  | .mgmtM => r.accM
  | .netN => r.accN
  | .twinT => r.accT

end Sys2Proof.Machine
end

