-- ==== Sys2Proof/Machine/TypesHost.lean ====
section
/-!
DEFINITION. Dictionary and host interface: operand types and state behind the objects of 0x1000 and 0xE000 (13).
-/

namespace Sys2Proof.Machine

/-- The kinds of ring in BAR0 (R346, R351–R355). -/
inductive RingKind where
  | rx | tx | dump | stamp
  deriving DecidableEq, Repr

/-- The route a message came by (R11, R340, R342, R343, R347). -/
inductive Carrier where
  /-- A mailbox channel: 0–7 are MBS0–MBS7 of PF0, 8–15 MBN0–MBN7 of PF1. -/
  | mailbox (ch : Fin 16)
  /-- A management datagram, by source address, source port and TRANSACTION (R341). -/
  | mgmt (addr : Octets) (port : Nat) (transaction : Nat)
  /-- An in-band datagram on a MAC (R342). -/
  | inband (mac : Fin 16) (addr : Octets) (port : Nat) (transaction : Nat)
  /-- The Yethal link (R343). -/
  | yethal
  deriving DecidableEq, Repr

/-- The port class of a carrier (R11). -/
def Carrier.cls : Carrier → PortClass
  | .mailbox ch => if ch.val < 8 then .hostH else .hosth
  | .mgmt _ _ _ => .mgmtM
  | .inband _ _ _ _ => .netN
  | .yethal => .twinT

/-- The port number of a carrier: 0–15 the MACs, 16 the Yethal link, 17 the management port, 18 PF0, 19 PF1
(R320). -/
def Carrier.port : Carrier → Nat
  | .mailbox ch => if ch.val < 8 then 18 else 19
  | .mgmt _ _ _ => 17
  | .inband mac _ _ _ => mac.val
  | .yethal => 16

/-- One record of a dictionary message (R336). -/
inductive DictRec where
  | read (idx sub : Nat)
  | write (idx sub : Nat) (data : Octets)
  | describe (idx sub : Nat)
  /-- A record with an ACTION that does not exist. -/
  | other (action idx sub : Nat)
  deriving DecidableEq, Repr

/-- How a message reached the device: carrier, arrival instant (tick and sub-tick), whether it arrived after the
W3 of its tick began (R60, R334), and the SEQ and LEN of its doorbell. -/
structure MsgSource where
  carrier : Carrier
  tick : Nat
  subtick : Nat
  /-- True when the message arrived at or after the start of the current tick's W3. -/
  late : Bool
  /-- SEQ of the doorbell, or 0 off the mailboxes. -/
  seq : Nat
  /-- LEN of the message in octets. -/
  len : Nat
  /-- Source MAC address and VLAN tags of an in-band request, to which its reply goes back (R258, R342). -/
  back : Octets := []
  tags : List Octets := []
  deriving DecidableEq, Repr

/-- A dictionary message (R336). -/
structure DictMsg where
  src : MsgSource
  tag : Nat
  recs : List DictRec
  deriving DecidableEq, Repr

/-- One admitted write: the object and its new value's octets. -/
structure DictWrite where
  key : Nat
  data : Octets
  deriving DecidableEq, Repr

/-- An admitted batch not yet applied (R333). -/
structure Batch where
  port : Nat
  tag : Nat
  tick : Nat
  subtick : Nat
  cls : PortClass
  applies : Applies
  writes : List DictWrite
  /-- The age from whose boundary it can apply (R60). -/
  due : Nat := 0
  deriving DecidableEq, Repr

/-- What a mailbox channel is doing (R348). -/
inductive ChanPhase where
  /-- No message. -/
  | idle
  /-- BUSY with a message not begun to be served. -/
  | waiting
  /-- BUSY with a message in service. -/
  | serving
  deriving DecidableEq, Repr

/-- A mailbox channel (R347–R349). -/
structure Channel where
  phase : ChanPhase := .idle
  done : Bool := false
  overrun : Bool := false
  abandoned : Bool := false
  irqEn : Bool := false
  /-- SEQ of the message held. -/
  seq : Nat := 0
  ackSeq : Nat := 0
  ackCode : Nat := 0
  rspLen : Nat := 0
  /-- A CHAN_RESET written and not yet taken (R349). -/
  resetDue : Bool := false
  /-- The request, reply and notice buffers (R345). -/
  request : Octets := []
  reply : Octets := []
  notice : Octets := []
  /-- Code and reply of a message completed while the link was down (R348). -/
  held : Option (Nat × Octets) := none
  /-- OP of a message of no known OP that waits in RESET or HALTED. -/
  op : Nat := 0
  deriving DecidableEq, Repr

/-- A notice to the host (R350). -/
structure Notice where
  tick : Nat
  /-- KIND and VALUE of each entry. -/
  entries : List (Nat × Nat)
  deriving DecidableEq, Repr

/-- LEN of a notice (R347, R350). -/
def Notice.len (x : Notice) : Nat := 16 + 16 * x.entries.length

/-- The octets of a notice with its LOST count (R350). -/
def Notice.octets (x : Notice) (lost : Nat) : Octets :=
  toBE 2 0x0401 ++ toBE 2 x.entries.length ++ toBE 4 (min lost 0xFFFFFFFF) ++ toBE 8 x.tick ++
    (x.entries.map fun e => toBE 1 e.1 ++ zeros 7 ++ toBE 8 e.2).flatten

/-- The notices of one channel (R350). -/
structure NoticeQueue where
  /-- The notice outstanding, with its SEQ and LOST. -/
  out : Option (Nat × Nat × Notice) := none
  queued : List Notice := []
  nextSeq : Nat := 0
  deriving DecidableEq, Repr

/-- An event that a notice can carry (R350). -/
inductive HostEvent where
  | modeChange
  | faultRaised (ident : Nat)
  | serviceChange
  | keyRotation
  deriving DecidableEq, Repr

/-- An entry of the management reply cache (R341). -/
structure CacheEntry where
  addr : Octets
  port : Nat
  transaction : Nat
  /-- The age in ticks at which the reply was sent; none while it is pending. -/
  sent : Option Nat
  reply : Octets
  deriving DecidableEq, Repr

/-- A management datagram, after the Ethernet, IP and UDP layers (R339, R340). -/
structure MgmtDatagram where
  /-- Source and destination address, IPv4 mapped into 16 octets. -/
  addr : Octets
  dst : Octets
  port : Nat
  /-- Whether the frame was tagged, or the datagram a fragment. -/
  tagged : Bool
  fragment : Bool
  /-- Destination UDP port. -/
  dstPort : Nat
  magic : Nat
  version : Nat
  transaction : Nat
  /-- The message is a dictionary message, or one vault message of OP 0x0206–0x0209, or neither. -/
  op : Nat
  /-- The message's own lengths agree with the datagram. -/
  complete : Bool
  deriving DecidableEq, Repr

/-- Dictionary and host interface state. (Log entry 7, DESIGN CHOICE) -/
structure HostState where
  /-- The numeric objects as they stood at the boundary that began the current tick (R334). -/
  snapObj : Tbl Int := []
  /-- The hardware counters whose sticky bit was set at that boundary (R354). -/
  snapWrapped : List Nat := []
  /-- The BLOB and STR objects at that boundary. -/
  snapBlobs : Tbl Octets := []
  /-- Messages waiting for a W3, in order of arrival (R334). -/
  waiting : List DictMsg := []
  /-- Messages and records served in the current W3 (R338). -/
  served : Nat := 0
  servedRecs : Nat := 0
  /-- Admitted batches not yet applied, in order of admission (R333). -/
  batches : List Batch := []
  /-- Boundary batches rolled back after DICT_APPLY, to be re-applied first (R402). -/
  rolled : List Batch := []
  /-- Immediate batches admitted and not yet applied: the set of the current W3, and before it one that was rolled back
  (R335, R402). -/
  immediate : List Batch := []
  /-- The batches due at the boundary were not prepared in W3 and wait one boundary (R53). -/
  deferred : Bool := false
  /-- The mailbox channels (R347). -/
  chans : Tbl Channel := []
  /-- The notices of each channel, and by function those dropped or discarded since the last one delivered (R349, R350). -/
  notices : Tbl NoticeQueue := []
  noticeLost : Tbl Nat := []
  /-- The events of the tick, in the order in which they arose, with their tick (R350). -/
  events : List (Nat × HostEvent) := []
  /-- MSI-X vectors raised: function * 64 + vector, oldest first, until the host takes them. -/
  vectors : List Nat := []
  /-- BAR0 registers of the rings and the capture block, by function * 65,536 + offset (R351–R356, R451). -/
  regs : Tbl Nat := []
  /-- Functions whose DMA and rings are stopped until their function-level reset (PCIE_INTERNAL, R391). -/
  stopped : List Nat := []
  /-- TICK_HI of each function (R346). -/
  tickHi : Tbl Nat := []
  /-- The reply cache, oldest first (R341). -/
  cache : List CacheEntry := []
  /-- Replies of the management port, in-band ports and the Yethal link, by port number: the last one sent. -/
  replies : Tbl Octets := []
  /-- Address and port that the management port's last reply went to (R340). -/
  repliedTo : Option (Octets × Nat) := none
  /-- APLL-N0 has locked since the device left BOOT: the management port is available (R339). -/
  mgmtUp : Bool := false
  /-- The code that the last reply of each of those carriers reported (R332, R338). -/
  codes : Tbl Nat := []
  /-- The NDICT bucket: tokens in 1/8,192 requests (R342). -/
  ndictTokens : Option Nat := none
  /-- Answers of ARP and neighbour discovery sent (R339): the last target answered for. -/
  arpAnswered : Option Octets := none
  /-- The counter dumps written to host memory: the last one of each function (R354). -/
  dumps : Tbl Octets := []
  /-- Snapshots lost since the last dump, per function (R354). -/
  dumpLost : Tbl Nat := []
  /-- The last stamp-ring record of each function and the ticks skipped since (R355). -/
  stampRec : Tbl Octets := []
  stampLost : Tbl Nat := []
  deriving DecidableEq, Repr

end Sys2Proof.Machine
end

