-- ==== Sys2Proof/Machine/TypesNet.lean ====
section
/-!
DEFINITION. Network ports: operand types and the state behind the objects of 0x6000 (10).
-/

namespace Sys2Proof.Machine

/-- What the PHY found in a frame (ERRORS bits 0, 3 and 4 of R253). -/
structure PhyErrors where
  fcs : Bool
  pcs : Bool
  fec : Bool
  deriving DecidableEq, Repr

/-- The frame classes of the Loom (R48, R256). -/
inductive FrameClass where
  | nts | ntp | ptpEvent | ptpGeneral | esmc
  deriving DecidableEq, Repr

/-- The headers of a frame as the parser of R254 reads them. -/
structure Parsed where
  dst : Octets := []
  src : Octets := []
  /-- The VLAN tags, outermost first, 4 octets each. -/
  tags : List Octets := []
  rtag : Bool := false
  etherType : Nat := 0
  /-- 4 or 6; 0 for no IP. -/
  ip : Nat := 0
  srcIp : Octets := []
  dstIp : Octets := []
  proto : Option Nat := none
  fragment : Bool := false
  srcPort : Option Nat := none
  dstPort : Option Nat := none
  /-- The UDP payload, or what follows the EtherType of a frame without IP. -/
  payload : Octets := []
  /-- ERRORS bits 5–7. -/
  errors : Nat := 0
  deriving DecidableEq, Repr

/-- A frame steered to a grove (R254–R257). -/
structure RxFrame where
  mac : Nat
  cls : FrameClass
  grove : Nat
  lane : Nat
  /-- Ingress time at the reference plane, 2^-32 ns, and the tick of the capture. -/
  ingress : Int
  tick : Nat
  p : Parsed
  /-- The client session whose peer sent it (R249). -/
  session : Option Nat := none
  /-- Forwarded by the twin peer: BOUND_NOW of its capture and the peer's PORT term (R58, R435). -/
  forwarded : Option (Nat × Nat) := none
  deriving DecidableEq, Repr

/-- Where a queued frame comes from. -/
inductive TxKind where
  /-- A message of the Shuttles, with the grove and item that committed it. -/
  | service (grove item : Nat)
  | esmc
  /-- A host frame: ring, descriptor index, TS_REQUEST. -/
  | host (ring index : Nat) (ts : Bool)
  /-- An answer to a class N request. -/
  | dict
  /-- A message of a reference client session. -/
  | client (c : Nat)
  /-- The second copy of a DUP frame of the host. -/
  | copy
  deriving DecidableEq, Repr

/-- A frame in a transmit queue (R258–R263). -/
structure TxFrame where
  queue : Nat
  kind : TxKind
  /-- The service whose ceiling applied: 0 PTP, 1 NTP, 2 NTS; 3 none. -/
  svc : Nat := 3
  /-- The departure instant D of an EXACT frame, 2^-32 ns. -/
  exact : Option Int := none
  /-- LAUNCH of a host frame in CNS ns (0 none), and LATE_MAX_NS. -/
  launch : Nat := 0
  lateMax : Nat := 0
  /-- Octets from destination address to FCS. -/
  len : Nat
  dst : Octets := []
  src : Octets := []
  tags : List Octets := []
  /-- IP 4 or 6 with addresses and ports, or 0 and the EtherType. -/
  ip : Nat := 0
  srcIp : Octets := []
  dstIp : Octets := []
  srcPort : Nat := 0
  dstPort : Nat := 0
  etherType : Nat := 0
  body : Octets := []
  /-- The ticks whose states converted its values (R234). -/
  ticks : List Nat := []
  /-- An answer, which leaves before the boundary after its queueing (R44); age at the queueing. -/
  response : Bool := false
  queuedAt : Nat := 0
  /-- DUP, and the redundancy number taken (R267). -/
  dup : Bool := false
  red : Option Nat := none
  /-- Its bound became unbounded since it was queued (R234). -/
  void : Bool := false
  /-- What learns of the launch: a two-step Sync or Pdelay_Resp by its stream, a client session's Delay_Req. -/
  notify : Option (Nat × Nat) := none
  deriving DecidableEq, Repr

/-- A frame that left: the frame, its egress time, and the tag or trailer inserted (R267). -/
structure Sent where
  frame : TxFrame
  egress : Int
  redundancy : Octets
  deriving DecidableEq, Repr

/-- One MAC. -/
structure Mac where
  queue : List TxFrame := []
  /-- EXACT refused since a verify fault, from the next boundary (R261). -/
  exactOff : Bool := false
  exactOffDue : Bool := false
  /-- Code sent last in an information PDU (R265). -/
  esmcSent : Option Nat := none
  /-- What fixes the phase of the transmit grid since the MAC came UP (R259). -/
  grid : Nat := 0
  /-- Age of the last valid ESMC PDU, or of the entry to UP (R266). -/
  esmcRx : Nat := 0
  /-- The last frame sent, and the last ESMC PDU. -/
  sent : Option Sent := none
  esmcPdu : Octets := []
  deriving DecidableEq, Repr

/-- An open host batch (R253). -/
structure RxBatch where
  tick : Nat
  openedAt : Nat
  gen : Nat
  set : Bool
  descs : List Octets
  deriving DecidableEq, Repr

/-- The network block. (Log entry 7, DESIGN CHOICE) -/
structure NetState where
  macs : Tbl Mac := []
  /-- Frames captured in this tick and steered to groves, in order of arrival (R44). -/
  rx : List RxFrame := []
  /-- Open batches of receive ring r and MAC m at 16 r + m; completion batches of transmit ring r at 256 + 16 r + m. -/
  batches : Tbl (Option RxBatch) := []
  /-- Frames dropped for a receive ring since its previous batch, by ring. -/
  lost : Tbl Nat := []
  /-- The batch written last to each ring, by ring, or 16 + ring for completions. -/
  written : Tbl Octets := []
  /-- Descriptors fetched whose completion is not written, by transmit ring. -/
  outstanding : Tbl Nat := []
  deriving DecidableEq, Repr

end Sys2Proof.Machine
end

