-- ==== Sys2Proof/Machine/TypesPower.lean ====
section
/-!
DEFINITION. Power, boot, flash, thermal and ageing: operand types and state behind 0xA000 and 0xE100–0xE130 (18).
-/

namespace Sys2Proof.Machine

/-- What a completed Selvage plan sets (R483). -/
structure Plan where
  vcore : Nat
  recal : Nat
  slack : Nat
  scrub : Nat
  days : Nat
  limiter : Nat
  deriving DecidableEq, Repr

/-- The body of a journal slot (R473, R474): SEQ, TIME, FW_BOOT_ID; remap tables; positions of 4 antennas and 3 baselines;
the cookie keys with the second of the last rotation and the JOURNAL_WRAP that seals them; the pair identity; AGE_EQ_HOURS
and the plan in force, with the sentinel baselines and the weak words. -/
structure Journal where
  seq : Nat
  time : Int
  fw : Nat
  remaps : List Octets
  positions : List Octets
  keys : List (Nat × Octets)
  rotated : Int
  wrap : Octets
  identity : Nat
  age : Nat
  plan : Option Plan
  sentinels : List Nat
  weak : Tbl Nat
  deriving DecidableEq, Repr

/-- A slot of the CS1 journal (R473). (Log entries 12, DEDUCED; 84, DEDUCED) -/
inductive JournalSlot where
  | erased
  | torn
  | valid (j : Journal)
  deriving DecidableEq, Repr

/-- A journal write in progress: its target slot and what it programs (R475). -/
structure JournalWrite where
  slot : Nat
  body : Journal
  /-- The target block's erase has been issued. -/
  started : Bool := false
  deriving DecidableEq, Repr

/-- A host flash command (R470). -/
structure FlashCmd where
  op : Nat
  cs : Nat
  addr : Nat
  data : Octets
  deriving DecidableEq, Repr

/-- Who asks for a flash command: the host through the dictionary, or the Forester (R469, R470). -/
inductive FlashBy where
  | host (onH : Bool)
  | forester
  deriving DecidableEq, Repr

/-- What BOOT reads outside the device (R467, R468, R472, R506): the CS0 copy whose signatures verify, whether the Shuttle
and microcode images verify, SHA-384 of the three images, the JEDEC identifiers, the regulator's answer in mV, and the
duration of the fill in µs. -/
structure BootRead where
  copy : Option (Fin 2)
  shuttleOk : Bool
  microcodeOk : Bool
  digests : List Octets
  jedec : List Nat
  vout : Option Nat
  fillUs : Nat
  /-- The cost coefficients that the images carry, in the order of 0x2206:01–0A (R49). -/
  costs : List Nat
  deriving DecidableEq, Repr

/-- A sentinel's measurement (R481). -/
inductive Sentinel where
  | ring (pair : Fin 32) (degradation : Nat)
  | eye (lane : Fin 16) (margin : Fin 65536)
  | sram (bank : Fin 21) (mv : Fin 65536)
  | vco (pll : Fin 6) (permille : Fin 65536)
  deriving DecidableEq, Repr

/-- Boot, journal, thermal and Selvage state. (Log entry 7, DESIGN CHOICE) -/
structure PowerState where
  /-- A journal write is due; its snapshot is taken at the next boundary (R475). -/
  journalDue : Bool := false
  /-- The CS1 slots A and B, the write in progress, and the age at which the last write started (R473–R476). -/
  slots : List JournalSlot := [.erased, .erased]
  write : Option JournalWrite := none
  lastWrite : Nat := 0
  /-- The journal read at BOOT (R477). -/
  read : Option Journal := none
  /-- Flash octets written since manufacture, by CS × 2^32 + address; an unlisted one holds what the environment gave it. -/
  flash : Tbl (BitVec 8) := []
  /-- The host command in progress, and the one queued behind a journal write (R470). -/
  command : Option FlashCmd := none
  queued : Option FlashCmd := none
  /-- The voltage commanded now, mV; a failed read-back holds it (R472). -/
  vout : Nat := 0
  /-- A trip detected in RESET (R479). -/
  tripLatch : Bool := false
  trippedBy : Nat := 0
  /-- Ages since which Tj has been at 110 °C or more, and below 105 °C (R478). -/
  hotSince : Option Nat := none
  coolSince : Option Nat := none
  /-- BOOT is complete but for the hold of R480. -/
  held : Bool := false
  /-- The memory fill is complete: the PCIe PHY is on, and the link and both functions are available (R344, R372). -/
  filled : Bool := false
  /-- The images are checked and loaded (R467). -/
  loaded : Bool := false
  /-- Selvage: last measurement of each sentinel; age at the start of the last plan; a completed plan not yet applied; plans
  without the conditions of SCRUB_PASS_LOG2 in a row, and the reduction in force (R481–R483). -/
  sentAt : Tbl (Option Nat) := []
  planStart : Option Nat := none
  planDone : Option Plan := none
  plan : Option Plan := none
  clean : Nat := 0
  /-- Since the last plan: the largest drift of a delay line (change of F, ticks), ages of the tables in force, MEM_CE_COUNT at
  its start, corrections by bank × 2^21 + word, write-backs of the current tick by bank × 32 + sub-bank, and the most in one. -/
  drift : Option (Nat × Nat) := none
  tableAt : Tbl Nat := []
  ceBase : Tbl Nat := []
  corrected : Tbl Nat := []
  wbAge : Nat := 0
  wbNow : Tbl Nat := []
  wbMost : Nat := 0
  /-- AGE_EQ_HOURS below its unit, in 2^-96 of 2^-16 h (R484). -/
  ageRest : Int := 0
  deriving DecidableEq, Repr

end Sys2Proof.Machine
end

