-- ==== Sys2Proof/Config.lean ====
section
/-!
DEFINITION. What the part, its image or the environment fixes and the manual does not: constants without a
body.  A proof can see nothing of their values, so a statement about the model holds for every value.
-/

namespace Sys2Proof.Config

/-- The value of an identity or fuse object that the manual gives as "Fused", "From fuses", "From image",
"From firmware", "From microcode" or "Solahus OUI", by the object's key. (Log entry 6, DESIGN CHOICE) -/
opaque fused : Nat → Nat

/-- The octets of an identity object that the manual gives as "Fused" or "Derived", by the object's key.
(Log entry 6, DESIGN CHOICE) -/
opaque fusedOctets : Nat → Octets

/-- The sub-tick of a report whose detection instant inside the tick the command does not carry, by the
count of free values drawn so far. (Log entries 8, DESIGN CHOICE; 9, DESIGN CHOICE) -/
opaque freeSubtick : Nat → Nat

/-- A random number (R296, R319): by the count of free values drawn so far.
(Log entries 8, DESIGN CHOICE; 69, DESIGN CHOICE) -/
opaque freeNat : Nat → Nat

/-- Random octets: by the count of free values drawn so far and the number of octets.
(Log entries 8, DESIGN CHOICE; 69, DESIGN CHOICE) -/
opaque freeOctets : Nat → Nat → Octets

/-- The length in octets of the console line of a log entry (R507 gives its fields, not its text), by SEQ.
(Log entry 92, DESIGN CHOICE) -/
opaque uartLineOctets : Nat → Nat

/-- The position that a tap code stands for in a stamper without a calibration table, by stamper and tap.
(Log entry 34, DESIGN CHOICE) -/
opaque noTable : Nat → Nat → Nat

/-- The calibration ID of the n-th table that comes into force (R93 says only that it is new).
(Log entry 34, DESIGN CHOICE) -/
opaque calId : Nat → Nat

/-- The EEC filter of R178 (gain peaking at most 0.1 dB), whose discrete form the manual does not give: the next
NCO rate from the bandwidth in µHz, the present rate, the selected input's fractional frequency against the plane, and RATE_Y.
(Log entry 44, DESIGN CHOICE) -/
opaque eecFilter : Nat → Int → Int → Int → Int

/-- The phase-tracking filter of R178 on a member's measurements, whose discrete form the manual does not give: from
the bandwidth in µHz, its phase and frequency (2^-32 ns, 2^-64), and the measured phase and frequency.
(Log entry 44, DESIGN CHOICE) -/
opaque phaseFilter : Nat → Int × Int → Int → Int → Int × Int

/-- The fractional bits of K for a state (R221 gives its rounding, not its format), by state index.
(Log entry 48, DESIGN CHOICE) -/
opaque gainScale : Nat → Nat

/-- The place of a MAC's transmit grid at a moment of queueing, in 2^-32 ns modulo its step (R259 gives the step, not the
phase): by the count of free values drawn so far. (Log entry 56, DESIGN CHOICE) -/
opaque gridPhase : Nat → Int

/-- The SSM code sent on behalf of a selected SyncE input whose code has not been decoded (R265 gives none), by the
value that ESMC_RX_SSM holds instead. (Log entry 59, DEDUCED) -/
opaque ssmWithoutCode : Nat → Nat

/-- The clockAccuracy announced by an instance while it is not taken from the bound (R238 gives none).
(Log entry 59, DEDUCED) -/
opaque clockAccuracy : Nat → Nat

/-- The PCIe vendor ID of Solahus Semiconductor (R344 names it without its value). (Log entry 6, DESIGN CHOICE) -/
opaque vendorId : Nat

/-- The root secret, fused and never read (R311). (Log entry 6, DESIGN CHOICE) -/
opaque rootSecret : Octets

/-- SHA-256. (Log entry 70, DEDUCED) -/
opaque sha256 : Octets → Octets

/-- SHA-384. (Log entry 70, DEDUCED) -/
opaque sha384 : Octets → Octets

/-- HMAC-SHA-256 of a message under a key. (Log entry 70, DEDUCED) -/
opaque hmac256 : Octets → Octets → Octets

/-- HKDF-SHA-256 (RFC 5869): salt, input key material, info, octets of output. (Log entry 70, DEDUCED) -/
opaque hkdf : Octets → Octets → Octets → Nat → Octets

/-- SHA-512. (Log entry 70, DEDUCED) -/
opaque sha512 : Octets → Octets

/-- The nonces of RFC 6979 in the order in which it tries them: by algorithm, private key, hash and attempt.
(Log entry 70, DEDUCED) -/
opaque rfc6979 : Nat → Nat → Octets → Nat → Nat

/-- AES-CMAC with a 128-bit key (R286). (Log entry 70, DEDUCED) -/
opaque cmac : Octets → Octets → Octets

/-- AEAD_AES_SIV_CMAC_256 (R295): sealing with a key, associated data and nonce; 16 octets of SIV and the ciphertext.
(Log entry 70, DEDUCED) -/
opaque sivSeal : Octets → Octets → Octets → Octets → Octets

/-- AEAD_AES_SIV_CMAC_256: opening; none when it does not authenticate. (Log entry 70, DEDUCED) -/
opaque sivOpen : Octets → Octets → Octets → Octets → Option Octets

/-- A key wrapped by the vault under another, which only a vault opens again (R322). (Log entry 70, DEDUCED) -/
opaque keyWrap : Octets → Octets → Octets

/-- The key that a wrapped one holds, if the vault's key opens it (R322). (Log entry 70, DEDUCED) -/
opaque keyUnwrap : Octets → Octets → Option Octets

/-- The sign of the local replica of a signal's primary code, subcarrier included, by satellite and code phase in 2^-12 chip: true for +1,
false for −1. The codes stand in the signals' own specifications (R134, R136). (Log entry 101, DEDUCED) -/
opaque replicaSign : Nat → Nat → Nat → Bool

/-- The sign of the local replica of the data component of a signal, as replicaSign (R136).
(Log entry 101, DEDUCED) -/
opaque dataSign : Nat → Nat → Nat → Bool

/-- The frequency discriminator of the FLL, 2^-8 Hz, over two prompt sums and the integration time in ms (R138).
(Log entry 44, DESIGN CHOICE) -/
opaque freqDiscriminator : Int × Int → Int × Int → Nat → Int

/-- The phase discriminator of the PLL, 2^-32 cycle: Costas, or pure phase (R138). (Log entry 44, DESIGN CHOICE) -/
opaque phaseDiscriminator : Bool → Int × Int → Int

/-- The carrier loop of R138: FLL (0) or third-order PLL (1), bandwidth in 2^-4 Hz, ms, its filter state and the discriminator; answers the
filter state and the Doppler in 2^-8 Hz. (Log entry 44, DESIGN CHOICE) -/
opaque carrierLoop : Nat → Nat → Nat → List Int → Int → List Int × Int

/-- The first-order code loop of R138: bandwidth in 2^-8 Hz, ms, realised spacing of E1 and L1 in GBB cycles, that of E2 and L2 where the
discriminator uses it, and the discriminator; answers the code rate beside the carrier's, 2^-32 chip/s.
(Log entry 44, DESIGN CHOICE) -/
opaque codeLoop : Nat → Nat → Int → Option Int → Int → Int

/-- The gradient step of a notch (R126 does not give its size): NOTCH_R, the notch's frequency in Hz from the stream centre and the samples of an
epoch at its output; answers the next frequency. (Log entry 39, DEDUCED) -/
opaque notchGradient : Nat → Int → List (Int × Int) → Int

/-- The FEC decoding of a navigation unit of a signal that has one (R144): its bits with their check bits, and whether an error was corrected.
(Log entry 57, PRESUMED) -/
opaque fecDecode : Nat → List Bool → List Bool × Bool

/-- The troposphere correction in ps of a position (POS_ECEF) at an elevation in 2^-7 degree: the standard atmosphere and the mapping function
are not given (R153). (Log entry 41, DEDUCED) -/
opaque troposphere : Octets → Nat → Int

/-- The JEDEC identity code of the maker, 11 bits (R509 names it without its value). (Log entry 6, DESIGN CHOICE) -/
opaque jedecId : Nat

/-- Octets of the flash device on a chip select (R506 gives the least sizes). (Log entry 85, DEDUCED) -/
opaque flashSize : Nat → Nat

/-- The octet that a flash device held when the part was first powered, by CS × 2^32 + address.
(Log entry 85, DEDUCED) -/
opaque flashOctet : Nat → BitVec 8

/-- MARGIN_REMAIN_DAYS and the limiter of a plan with 30 plans of history (R484 names the fit, not its method).
(Log entry 87, DEDUCED) -/
opaque marginFit : Nat → Nat × Nat

/-- KF_VERSION, the layout of a keyframe's BODY, by microcode build (R448). (Log entry 82, DEDUCED) -/
opaque keyframeVersion : Nat → Nat

/-- A raw DEFLATE stream of an octet string (R445 names RFC 1951, which admits many). (Log entry 82, DEDUCED) -/
opaque deflate : Octets → Octets

end Sys2Proof.Config
end

