-- ==== Sys2Proof/Machine/TypesServ.lean ====
section
/-!
DEFINITION. PTP, NTP and NTS services: operand types and the state behind the objects of 0x7000 (11).
-/

namespace Sys2Proof.Machine

/-- A unicast grant (R283–R285). -/
structure Grant where
  /-- Age at the tick of the grant, and the duration in s. -/
  start : Nat
  dur : Nat
  log : Int
  phase : Nat := 0
  /-- Cancelled; ends at the next boundary. -/
  ending : Bool := false
  deriving DecidableEq, Repr

/-- A unicast session of an instance (R283). -/
structure Session where
  inst : Nat
  /-- What identifies the client: its protocol address and its portIdentity. -/
  addr : Octets
  portId : Octets
  grove : Nat
  /-- How it is reached. -/
  mac : Nat
  tags : List Octets
  dst : Octets
  ip : Nat
  announce : Option Grant := none
  sync : Option Grant := none
  delay : Option Grant := none
  /-- Next sequenceIds of Sync, Announce and Signaling. -/
  seqSync : Nat := 0
  seqAnnounce : Nat := 0
  seqSignal : Nat := 0
  deriving DecidableEq, Repr

/-- A message stream that a grove originates (R280, R282). -/
inductive PtpStream where
  /-- Multicast of an instance on a MAC. -/
  | multi (inst : Fin 16) (mac : Fin 16)
  /-- A unicast session, by its line in the session store. -/
  | uni (line : Fin 262144)
  /-- The Pdelay_Resp_Follow_Up that a peer-to-peer instance owes on a MAC (R281). -/
  | peer (inst : Fin 16) (mac : Fin 16)
  deriving DecidableEq, Repr

/-- The message types that a unicast client can be granted (R283). -/
inductive GrantType where
  | announce | sync | delayResp
  deriving DecidableEq, Repr

/-- messageType of what is granted (R283). -/
def GrantType.code : GrantType → Nat
  | .announce => 11
  | .sync => 0
  | .delayResp => 9

/-- What a reference session sends next (R291). -/
inductive ClientMsg where
  | delayReq | signaling
  deriving DecidableEq, Repr

/-- A reference client session (R288–R290). -/
structure Client where
  /-- Age at the entry to the state. -/
  since : Nat := 0
  /-- Grants received, with what was granted. -/
  announce : Option Grant := none
  sync : Option Grant := none
  delay : Option Grant := none
  /-- sequenceIds taken next: Delay_Req or Pdelay_Req, Signaling. -/
  seqDelay : Nat := 0
  seqSignal : Nat := 0
  /-- The last Sync: sequenceId, t1 with its corrections (none until a Follow_Up brings it), t2, and its tick. -/
  syncSeq : Nat := 0
  t1 : Option Int := none
  t2 : Int := 0
  /-- correctionField of a two-step Sync. -/
  syncCorr : Int := 0
  /-- The last Delay_Req sent: sequenceId and its egress time t3. -/
  reqSeq : Nat := 0
  t3 : Option Int := none
  /-- s of the peer's vendor TLV in ps, if it carries one. -/
  tlv : Option Nat := none
  /-- Age of the last Announce. -/
  lastAnnounce : Nat := 0
  /-- Announce interval of the peer, log2 s. -/
  logAnnounce : Int := 1
  /-- portIdentity of the peer's last Announce: in multicast mode the session measures this peer (R290). -/
  peerPort : Octets := []
  /-- Age plus 1 of the tick of the last Delay_Req, of the last requests, and of the last renewal of each grant. -/
  sentDelay : Nat := 0
  sentSignal : Nat := 0
  sentRenewal : Tbl Nat := []
  /-- The grandmaster that the peer announced last (R167). -/
  grandmaster : Octets := []
  deriving DecidableEq, Repr

/-- Peer delay of a peer-to-peer instance on a MAC (R281). -/
structure PeerDelay where
  seq : Nat := 0
  t1 : Option Int := none
  t2 : Option Int := none
  t4 : Option Int := none
  corr : Int := 0
  /-- The measured mean link delay, 2^-32 ns. -/
  delay : Option Int := none
  deriving DecidableEq, Repr

/-- A frame that carries time and has left, for the message that reports its egress time (R280, R281). -/
structure Departed where
  /-- 0 Sync of a stream, 1 Pdelay_Resp, 2 Delay_Req of a client, 3 Pdelay_Req of an instance. -/
  kind : Nat
  key : Nat
  egress : Int
  tick : Nat
  deriving DecidableEq, Repr

/-- A Pdelay_Resp_Follow_Up owed once its Pdelay_Resp has left (R281). -/
structure OwedFollowUp where
  /-- 16 × instance + MAC, with the item of the request from bit 8 on; and the tick in which its response is sent. -/
  key : Nat
  tick : Nat
  frame : TxFrame
  mac : Nat
  deriving DecidableEq, Repr

/-- The services. (Log entry 7, DESIGN CHOICE) -/
structure ServState where
  /-- The session store, by line (R378). -/
  sessions : Tbl (Option Session) := []
  /-- Next sequenceIds of multicast streams: (16 inst + MAC) × 16 + messageType (R282). -/
  seqs : Tbl Nat := []
  /-- The due tick, plus one, of the last message of a stream and type, by (stream key) × 16 + messageType. -/
  lastDue : Tbl Nat := []
  /-- The keys of the PTP security associations held by the AES lanes: current and next, empty when not loaded (R309). -/
  saKeys : Tbl (Octets × Octets) := []
  clients : Tbl Client := []
  pdelay : Tbl PeerDelay := []
  /-- The items of each grove in this tick that are not yet committed: item number and frame (R362). -/
  items : Tbl (List (Nat × RxFrame)) := []
  /-- The number given to the next originated item of each grove in this tick. -/
  nextItem : Tbl Nat := []
  /-- Messages of client sessions sent in this tick, by grove × 8 + class (2 event, 3 general), for the caps (R270, R271). -/
  originated : Tbl Nat := []
  /-- The Reed journal: bits by grove × 8,192 + item (R365). -/
  reed : Tbl Nat := []
  /-- Heddle buckets: group and word; one that is not listed is full (R273). -/
  buckets : Tbl (Option (Nat × Nat)) := []
  /-- Per group: TOKENS and time in units of 8 ticks at which the unlisted buckets of the group stood when its rate or burst changed
  (R273). -/
  bucketBase : Tbl (Option (Nat × Nat)) := []
  sweep : Nat := 0
  /-- Cookie master keys with their IDs, current first, with the count of the tick from which each set is in force,
  newest set first (R296, R297). -/
  keySets : List (Nat × List (Nat × Octets)) := []
  /-- Device second of the last rotation, and NTS_ROTATE_NOW written (R296). -/
  lastRotate : Int := 0
  rotateNow : Bool := false
  /-- Cookies minted in this W3 (R302). -/
  minted : Nat := 0
  departed : List Departed := []
  owed : List OwedFollowUp := []
  /-- Frames received for a peer unit to answer or forwarded by it, in order (R435). -/
  forwarded : List RxFrame := []
  deriving DecidableEq, Repr

end Sys2Proof.Machine
end

