-- ==== Sys2Proof/Machine/TypesStamp.lean ====
section
/-!
DEFINITION. Edge stamping: operand types and state behind the objects of 0x5000 (04).  Stamping ports are
numbered 0–63 for TP00–TP63, 64–83 for the monitor ports MP00–MP19 (R168) and 84 for the twin timing port
(R420); stamper s of port p is number 2p + s.
-/

namespace Sys2Proof.Machine

/-- What one stamper would capture at an edge: the TPL cycle count, sampled twice, and the tap code. -/
structure Capture where
  cycle : Nat
  again : Nat
  tap : Fin 512
  deriving DecidableEq, Repr

/-- A stamp: the edge's count, its plane time in 2^-20 ns, the stamper (0 A, 1 B) and SOLO (R98). -/
structure Stamp where
  count : Nat
  time : Int
  stamper : Nat
  solo : Bool
  deriving DecidableEq, Repr, Inhabited

/-- A stamp not yet verified (R111), or the place of one that was lost. -/
structure HeldStamp where
  stamp : Stamp
  /-- The DLL check that follows the capture has passed (R92). -/
  checked : Bool
  /-- Due for the raw queue (R88). -/
  raw : Bool
  /-- Lost: missed by R90 or discarded by R111. -/
  lost : Bool
  deriving DecidableEq, Repr

/-- A code of the raw queue (R103). -/
inductive RawCode where
  | residual (c : Int)
  | gap
  | escape (word : Nat)
  deriving DecidableEq, Repr

/-- The raw block of a port for one tick (R106). -/
structure RawBlock where
  /-- The codes, newest first. -/
  codes : List RawCode := []
  bits : Nat := 0
  stamps : Nat := 0
  /-- The block took its cap; later stamps of the tick are discarded. -/
  full : Bool := false
  /-- Stamps discarded by the cap. -/
  drops : Nat := 0
  deriving DecidableEq, Repr

/-- The raw coder of a port as it stood before a reset at a boundary: its history, k and the caps, for the stamps of the tick before that
still wait there (R104). -/
structure OldCoder where
  hist : List Int
  k : Nat
  on : Bool
  cap : Nat × Nat
  deriving DecidableEq, Repr

/-- One tick of a monitor port for the sliding fit (R169): its boundary, whether it carries FAULT, RANGE or TPL_LOST, its other flags, and
its stamps, newest first. -/
structure SlideTick where
  start : Int
  bad : Bool
  flags : Nat
  stamps : List (Nat × Int)
  deriving DecidableEq, Repr, Inhabited

/-- The sums of R108. -/
structure GateSums where
  n : Nat := 0
  sn : Int := 0
  sn2 : Int := 0
  se : Int := 0
  sne : Int := 0
  se2 : Int := 0
  deriving DecidableEq, Repr

/-- A gate in progress (R107–R110). -/
structure Gate where
  sums : GateSums := {}
  /-- The count of the gate's first stamp. -/
  first : Option Nat := none
  /-- Plane time of the starting boundary. -/
  start : Int := 0
  /-- The age (boundaries passed) at the starting boundary. -/
  startTick : Nat := 0
  /-- G in force for the gate (R107). -/
  span : Nat := 1
  /-- P_nom × D_s and D_s in force for the gate. -/
  period : Nat := 0
  divider : Nat := 1
  trunc : Bool := false
  solo : Bool := false
  missed : Bool := false
  fault : Bool := false
  skewStale : Bool := false
  /-- To be closed at the next boundary, aligned or not (R107, R112). -/
  closing : Bool := false
  deriving DecidableEq, Repr

/-- What R109 gives for a closed gate or a sliding fit. -/
structure Fit where
  n : Nat := 0
  /-- Y, 2^-64. -/
  y : Int := 0
  /-- Φ, 2^-20 ns. -/
  phase : Int := 0
  /-- The edge count of edge n*. -/
  edgeMid : Int := 0
  /-- Residual variance m × 2^e in square units. -/
  varMant : Nat := 0
  varExp : Nat := 0
  /-- FLAGS of R110. -/
  flags : Nat := 0
  /-- Plane time of the midpoint M. -/
  mid : Int := 0
  /-- The fitted period P + β, in 2^-52 ns. -/
  period : Int := 0
  /-- The age of the tick in which the fit ended. -/
  tick : Nat := 0
  deriving DecidableEq, Repr, Inhabited

/-- One stamping port. -/
structure StampPort where
  lastEdge : Option Int := none
  lastSel : Option Int := none
  /-- The stamper that took the previous edge. -/
  lastTook : Nat := 1
  /-- Plane time at which each stamper has recovered (R89). -/
  readyA : Int := 0
  readyB : Int := 0
  /-- Stamps waiting in the burst FIFO, and the plane time of the next read (R89, R90). -/
  waiting : Nat := 0
  drainAt : Int := 0
  held : List HeldStamp := []
  /-- Edge count of a port that has no TP_EDGES object. -/
  edges : Nat := 0
  /-- Raw coder history: h1, h2 as far as held, in plane time from the boundary of the current tick (R102). -/
  hist : List Int := []
  /-- The coder before a reset at the boundary now passing, and before the last one, for stamps of the tick before (R104). -/
  resetCoder : Option OldCoder := none
  oldCoder : Option OldCoder := none
  /-- The raw stream ends in a gap marker: the run of lost stamps that it stands for goes on (R99). -/
  gapRun : Bool := false
  /-- Regression is enabled in the current tick, and was in the tick before (R110). -/
  regNow : Bool := false
  regWas : Bool := false
  /-- Stamps for the 1PPS+ToD references bound to the port, in plane time with the stamper, oldest first (R105). -/
  fresh : List (Int × Nat) := []
  block : RawBlock := {}
  /-- The block of the previous tick, waiting for its drain. -/
  done : RawBlock := {}
  gate : Option Gate := none
  /-- The fit of the gate that ended at the boundary of the current tick. -/
  ended : Option Fit := none
  /-- The last fit with VALID set. -/
  lastValid : Option Fit := none
  /-- N of the gate at the last boundary, for the record of a tick without a gate end. -/
  soFar : Nat × Nat := (0, 0)
  /-- The last stamp taken. -/
  lastStamp : Option Stamp := none
  /-- Parallel captures of the last tick of a run: plane-time cycles and taps of A and B (R94). -/
  pairs : List ((Nat × Nat) × (Nat × Nat)) := []
  /-- The skew could not be re-measured (R94). -/
  skewStale : Bool := false
  /-- TP_SKEW_B of a port without the object. -/
  skewB : Int := 0
  /-- The last complete ticks for the sliding fit, newest first (R169). -/
  recent : List SlideTick := []
  /-- The stamps of the current tick for the sliding fit. -/
  current : List (Nat × Int) := []
  /-- The last valid sliding fit and the age at which it was made. -/
  sliding : Option (Fit × Nat) := none
  /-- The one before it. -/
  slidingOld : Option (Fit × Nat) := none
  deriving DecidableEq, Repr

/-- One stamper. -/
structure Stamper where
  /-- State of a stamper that has no object (R95). -/
  state : Nat := 0
  /-- The age at which its state was entered. -/
  entry : Nat := 0
  /-- Consecutive DLL updates within ±1 tap, up to 8,192, and lock (R92). -/
  run : Nat := 0
  locked : Bool := false
  /-- The earliest plane time at which the last DLL update can have fallen (R92). -/
  dllAt : Int := 0
  /-- Runs completed since the entry to CAL_INIT (R95). -/
  runs : Nat := 0
  /-- The stored histograms, newest first, at most 16 (R93). -/
  hists : List (List Nat) := []
  /-- The table in force, empty before the first (R93). -/
  table : List Nat := []
  /-- A run waits for the twin to be ACTIVE (R96). -/
  deferred : Bool := false
  deriving DecidableEq, Repr

/-- Ports, stampers and the stamp buffer. (Log entry 7, DESIGN CHOICE) -/
structure StampState where
  ports : Tbl StampPort := []
  stampers : Tbl Stamper := []
  /-- Tables brought into force so far, over all stampers. -/
  calCount : Nat := 0
  /-- The drain descriptor and the port blocks of the last drained tick (R100). -/
  descriptor : Octets := []
  blocks : Tbl Octets := []
  /-- FLAGS of the previous tick: the timescale was set; it was a realignment tick; it lacked the timing plane. -/
  lastSet : Bool := false
  lastRealign : Bool := false
  lastTplLost : Bool := false
  /-- The current tick lacks the timing plane. -/
  tplLost : Bool := false
  deriving DecidableEq, Repr

end Sys2Proof.Machine
end

