-- ==== Sys2Proof/Machine/TypesSynth.lean ====
section
/-!
DEFINITION. References and clock synthesis: operand types and state behind the objects of 0x2110–0x2112, 0x3000,
0x3020, 0x3040, 0x3080–0x3092 and 0x5100 (07).
-/

namespace Sys2Proof.Machine

/-- A PLL that meets the lock criterion, with the frequency of its reference in kHz (R19, R184). -/
structure PllLock where
  pll : Fin 6
  khz : Nat
  deriving DecidableEq, Repr

/-- What an observation of a class T reference is (R167). -/
inductive ObsKind where
  | absent | valid | invalid
  deriving DecidableEq, Repr

/-- An observation of a class T reference. -/
structure RefObs where
  id : Nat
  kind : ObsKind
  /-- Reference time minus device time at the observation instant, 2^-32 ns. -/
  e : Int := 0
  /-- Device time of the observation instant, 2^-32 ns. -/
  instant : Int := 0
  /-- Systematic part in ps, random part in 2^-8 ps, calibration ID (R229). -/
  s : Nat := 0
  u : Nat := 0
  cal : Nat := 0
  /-- Mean path delay of a PTP exchange, 2^-16 ns; the message of a 1PPS+ToD observation (R446). -/
  mpd : Int := 0
  tod : Octets := []
  /-- Device times of its other captures in this unit (R181). -/
  captures : List Int := []
  deriving DecidableEq, Repr

/-- Sums over the valid offsets of a qualification run, for the frequency fit of R207: number, first instant, and the
sums of t, e, t², t·e and e² with t from the first instant, in 2^-32 ns. -/
structure RunFit where
  n : Nat := 0
  t0 : Int := 0
  st : Int := 0
  se : Int := 0
  stt : Int := 0
  ste : Int := 0
  see : Int := 0
  deriving DecidableEq, Repr

/-- One reference (R166–R176). -/
structure Ref where
  /-- QUALIFIED once since BOOT. -/
  ever : Bool := false
  /-- Age at the start of the run in progress, and the absent ticks inside it (R173). -/
  runStart : Nat := 0
  absentTicks : Nat := 0
  /-- Age at which the present absence began. -/
  absentFrom : Option Nat := none
  /-- Age of the last valid or invalid observation. -/
  lastSeen : Nat := 0
  /-- What the observations of this tick amount to, for the next boundary. -/
  result : Option ObsKind := none
  /-- To FAILED at the next boundary. -/
  failNext : Bool := false
  /-- Sum and number of e over the current second (R174). -/
  secSum : Int := 0
  secN : Nat := 0
  /-- The last valid offset and its instant, 2^-32 ns, and the sums of the offsets of the qualification run (R207). -/
  lastE : Int := 0
  lastT : Int := 0
  fit : RunFit := {}
  /-- Systematic part and calibration ID of the last valid observation (R229). -/
  s : Nat := 0
  cal : Nat := 0
  /-- The last 16 offsets of a PTP reference, newest first (R229). -/
  offsets : List Int := []
  /-- 1PPS+ToD: device time, stamper and age of the edge whose message is awaited. -/
  edge : Option (Int × Nat × Nat) := none
  /-- Device time of the previous edge, and the second that its message named. -/
  prevEdge : Option Int := none
  prevSecond : Option Int := none
  /-- Class F: age at the start of the accept run, and whether a VALID gate has ended within it (R172). -/
  acceptStart : Nat := 0
  acceptGate : Bool := false
  /-- Class F: age and edge count at the start of the activity window (R170). -/
  winStart : Nat := 0
  winCount : Nat := 0
  deriving DecidableEq, Repr

/-- Where an APLL-T switch stands (R179–R181). -/
inductive StepPhase where
  /-- The plane moves, or the boundary after relock has not come. -/
  | moving
  /-- The predicted step is applied; the measurement is awaited. -/
  | predicted
  /-- The difference is being slewed out. -/
  | slewing
  /-- The correction is complete; U_m is charged. -/
  | done
  deriving DecidableEq, Repr

/-- An APLL-T switch in progress or not yet retired. -/
structure PlaneStep where
  input : Nat
  phase : StepPhase
  /-- LOCKED has been declared again. -/
  relocked : Bool := false
  /-- S_p in 2^-20 ns and the new input's Y, 2^-64; none when unmeasured (R182). -/
  predicted : Option (Int × Int) := none
  /-- Plane time of the connection, and the new input's lateness there by the fit before (2^-20 ns). -/
  at_ : Int := 0
  before : Int := 0
  /-- 2^20 × the phase standard deviation of that fit, in 2^-20 ns. -/
  sigma : Nat := 0
  sigmaAfter : Nat := 0
  /-- Age at the switch and at the boundary after relock. -/
  started : Nat := 0
  applied : Nat := 0
  /-- What is left of S_m − S_p, 2^-20 ns. -/
  left : Int := 0
  deriving DecidableEq, Repr

/-- One output synthesiser (R186–R190). -/
structure OutPort where
  /-- Latched low by a placement fault (R187). -/
  latched : Bool := false
  /-- Driving state at the last boundary, and the first device time at which an edge may be driven (R188). -/
  driving : Bool := false
  startAt : Int := 0
  /-- Ramp: the segments left (ticks, slope), y_r in 2^-64, φ_r in 2^-84 ns (R189). -/
  segs : List (Nat × Int) := []
  y : Int := 0
  phi : Int := 0
  /-- Verification: edges measured, sum of the offsets over the first 1,024, consecutive misses (R187). -/
  edges : Nat := 0
  offSum : Int := 0
  misses : Nat := 0
  /-- The last edge driven: its number and device time, 2^-20 ns. -/
  last : Option (Nat × Int) := none
  /-- The last pulse: device times of its rising and falling edge, 2^-20 ns (R186). -/
  pulse : Option (Int × Int) := none
  /-- Device time before which no edge follows a forward step under policy 0, 2^-20 ns (R190). -/
  notBefore : Option Int := none
  /-- E of that edge, and the state in force for its tick (R241). -/
  lastE : Nat := 0
  lastState : Option TsState := none
  /-- A ToD port: the number of the edge that its last message described, and the message (R241). -/
  todFor : Option Nat := none
  tod : Octets := []
  deriving DecidableEq, Repr

/-- One digital steering channel (R194). -/
structure Dsteer where
  /-- Age at the start of the interval. -/
  start : Nat := 0
  /-- The value last written with success, and the one being written. -/
  value : Int := 0
  want : Int := 0
  started : Bool := false
  fails : Nat := 0
  /-- CENTRE has been written in INIT; and the write in progress is that of CENTRE. -/
  inited : Bool := false
  initTry : Bool := false
  /-- A write is outstanding. -/
  busy : Bool := false
  deriving DecidableEq, Repr

/-- References, PLLs, outputs, steering and SyncE. (Log entry 7, DESIGN CHOICE) -/
structure SynthState where
  refs : Tbl Ref := []
  /-- The class T references in use as they stood before the ingestion of the tick, with their REF_BOUND_PS and REF_RAND_U (R54). -/
  refsWas : List (Nat × Ref × Int × Int) := []
  /-- Observations that arrived in this tick and are ingested in the next one. -/
  arrived : List RefObs := []
  /-- Valid observations ingested in this tick: reference, e, instant. -/
  ingested : List (Nat × Int × Int) := []
  /-- Age at the last change of class T selection. -/
  selSince : Nat := 0
  /-- Device time of that boundary, in the timescale in force (R230). -/
  selTime : Int := 0
  /-- A CLK_IN has been QUALIFIED since BOOT (R177). -/
  clkQualified : Bool := false
  /-- The conflict term of R174 in ps. -/
  conflictPs : Nat := 0
  /-- The input that APLL-T is to switch to. -/
  pendingInput : Option Nat := none
  /-- The reference and feedback dividers of APLL-T (R19). -/
  dividers : Nat × Nat := (1, 256)
  step : Option PlaneStep := none
  /-- The plane moved in the current tick: its captures are not consumed (R181). -/
  planeMoved : Bool := false
  /-- The ticks of the last seconds in which the plane moved: device times of their start and end (R181). -/
  movedSpans : List (Int × Int) := []
  /-- Device time before which captures stand on a plane that an unmeasured step has replaced (R182). -/
  staleBefore : Option Int := none
  outs : Tbl OutPort := []
  ds : Tbl Dsteer := []
  /-- Rate of SYN-N0 and SYN-N1 for the NP ports, 2^-64, and the rates of the last second, newest first; and the rate of the Yethal lanes
  (R195). -/
  ncoRate : Int := 0
  ncoYethal : Int := 0
  ncoHist : List Int := []
  /-- A change of source is being slewed. -/
  ncoSlew : Bool := false
  /-- The mean held after the loss of every SyncE input. -/
  ncoHold : Option Int := none
  deriving DecidableEq, Repr

end Sys2Proof.Machine
end

