-- ==== Sys2Proof/Machine/TypesTwin.lean ====
section
/-!
DEFINITION. Twin operation: operand types and state behind 0xB000 (16).
-/

namespace Sys2Proof.Machine

/-- The peer's HELLO (R415 step 1). (Log entry 76, DEDUCED) -/
structure Hello where
  serial : Octets
  deviceId : Octets
  cert : Octets
  pairKey : Octets
  microcode : Octets
  shuttle : Octets
  boot : Octets
  preferred : Bool
  identity : Nat
  /-- PTP_CLOCK_IDENTITY of the peer, which class T reads (R413, R418). -/
  clock : Nat
  own : Bool
  mode : Nat
  nonce : Octets
  /-- Sent by a unit that leaves (R442). -/
  leaving : Bool
  deriving DecidableEq, Repr

/-- One entry of COMMITS (R419). -/
structure Commit where
  stream : Nat
  due : Nat
  type : Nat
  seq : Nat
  deriving DecidableEq, Repr

/-- The owner's Canopy inputs of one tick (R26, R419): whether it coasted, the mode and selection, the tick's state, the
observations taken, and the gate records that ended. -/
structure TwinInputs where
  coast : Bool
  mode : Nat
  sel : Nat
  index : Nat
  state : TsState
  ingested : List (Nat × Int × Int)
  fits : List (Nat × Fit)
  /-- The offset that each member's steering gives its oscillator. -/
  steer : List (Nat × Int) := []
  /-- The per-reference and per-port objects that Canopy reads, and APLLT_SOURCE. -/
  view : List (Nat × Int) := []
  /-- The plane moved in the tick; the timing plane was lost; a measured APLL-T step. -/
  moved : Bool := false
  tplLost : Bool := false
  planeStep : Option MeasuredStep := none
  /-- What the plane's reading stepped by at the tick's boundary (R180); the timing plane is lost in the tick. -/
  switched : Option (Int × Int) := none
  lost : Bool := false
  /-- Device time of the selection in force, and the bound of the tick before. -/
  selTime : Int := 0
  before : Nat := 0xFFFFFFFF
  /-- The timescale stepped at the tick's boundary; true for a first setting. -/
  stepped : Option (Int × Bool) := none
  /-- Age of the unit whose inputs these are. -/
  age : Nat := 0
  /-- The selected reference, the APLL-T switch in progress, the conflict term and TWIN in ps, and whether the bound of the
  tick was unbounded for a cause outside Canopy. -/
  ref : Ref := {}
  step : Option PlaneStep := none
  conflict : Nat := 0
  charge : Nat := 0
  forced : Bool := false
  /-- The tick is counted on XO_IN. -/
  xo : Bool := false
  deriving DecidableEq, Repr

/-- A member's own gate record against the shadow's state (R422): phase and origin in 2^-32 ns, frequency in 2^-64, and
the variance of the fit's frequency in 2^-160. -/
structure OwnMeas where
  z : Int
  origin : Int
  y : Int
  var : Nat
  deriving DecidableEq, Repr

/-- A pair-agreed batch of the CONFIG section: the writes and its apply tick X. -/
structure AgreedBatch where
  batch : Batch
  x : Nat
  deriving DecidableEq, Repr

/-- A key that the pair shares, and as an entry of the VAULT section that key wrapped under the pair key (R417, R419): a cookie master key with its ID and activation boundary, or a shared slot's
content with its slot, GEN and apply tick (R417, R419, R435). -/
inductive AgreedKey where
  | cookie (id : Nat) (key : Octets) (at_ : Nat)
  | slot (slot gen : Nat) (content : Octets) (x : Nat)
  deriving DecidableEq, Repr

/-- The entry of the VAULT section that carries a key, wrapped under TWIN_LINK (R419, R322). -/
def wrapKey (link : Octets) : AgreedKey → AgreedKey
  | .cookie id key at_ => .cookie id (Config.keyWrap link key) at_
  | .slot k gen content x => .slot k gen (Config.keyWrap link content) x

/-- The key that an entry of the VAULT section carries, where this vault's TWIN_LINK opens it (R419, R322). -/
def openKey (link : Octets) : AgreedKey → Option AgreedKey
  | .cookie id w at_ => (Config.keyUnwrap link w).map fun key => .cookie id key at_
  | .slot k gen w x => (Config.keyUnwrap link w).map fun content => .slot k gen content x

/-- An AGREE message (R419). (Log entry 76, DEDUCED) -/
structure Agree where
  ownHeld : Bool := false
  ready : Bool := false
  emit : Bool := false
  release : Bool := false
  timeMaster : Bool := false
  leaving : Bool := false
  preferred : Bool := false
  tick : Nat := 0
  coreNext : Nat := unbounded
  mode : Nat := 0
  selRef : Nat := 0
  clockClass : Nat := 0
  timeSource : Nat := 0
  releaseAt : Nat := 0
  digest : Nat := 0
  digestEpoch : Nat := 0
  configGen : Nat := 0
  /-- Device time of the peer's stamp of the sender's pulse, and the tick in which that pulse was scheduled. -/
  twpRx : Option Int := none
  twpRxTick : Nat := 0
  inputs : Option TwinInputs := none
  commits : List Commit := []
  sessions : List (Nat × Option Session) := []
  config : List AgreedBatch := []
  vault : List AgreedKey := []
  deriving DecidableEq, Repr

/-- A BULK transfer (R415 step 6, R423): a Canopy state with its digest, and at a join the rest.
(Log entry 76, DEDUCED) -/
structure Bulk where
  /-- The ATTEST report of step 3 verified. -/
  attested : Bool
  /-- Pair-agreed objects: numeric ones and octets. -/
  objs : List (Nat × Int)
  blobs : List (Nat × Octets)
  /-- Cookie keys with their IDs, wrapped under TWIN_LINK. -/
  keySets : List (Nat × List (Nat × Octets))
  /-- Contents of the shared slots, wrapped under TWIN_LINK. -/
  slots : List (Nat × Octets)
  sessions : Tbl (Option Session)
  seqs : Tbl Nat
  canopy : CanopyState
  /-- The canopy objects of 0x3100–0x3121 that go with it. -/
  canopyObjs : List (Nat × Int)
  /-- Age of the sender at the boundary at which the state stands. -/
  age : Nat
  digest : Nat
  /-- The tick-index-0 boundary at which a transferred state is installed, or J. -/
  boundary : Nat
  deriving DecidableEq, Repr

/-- A message on FORWARD (R434, R435): a client's request with its capture, or a Signaling message.
(Log entry 76, DEDUCED) -/
structure Forward where
  frame : RxFrame
  /-- BOUND_NOW of the capture's tick on the receiving unit, and its PORT term. -/
  bound : Nat
  port : Nat
  /-- True for a Signaling message of unicast negotiation. -/
  signaling : Bool
  deriving DecidableEq, Repr

/-- How a release of OWN was announced (R436). -/
inductive ReleaseWhy where
  | fault | operator | leave | revert | lostBound
  deriving DecidableEq, Repr

/-- A message sent to the peer besides AGREE, the last of each kind kept. (Log entry 76, DEDUCED) -/
inductive TwinSend where
  | hello (leaving : Bool) (nonce : Octets)
  | urgent (at_ : Nat)
  | bulk (at_ : Nat)
  | stateRequest
  | forward (f : Forward)
  deriving DecidableEq, Repr

/-- The pair state. (Log entry 7, DESIGN CHOICE) -/
structure TwinState where
  /-- This unit is the time master of a joined pair (R421). -/
  master : Bool := false
  /-- The pair identity in use at the last boundary, whose change makes a journal write due (R418, R475). -/
  identity : Nat := 0
  /-- A release of OWN waits for the next boundary after a fault marked O (R392). -/
  releaseDue : Bool := false
  /-- TWIN, the switchover contribution to the core bound, ps (R226), and the age at which it was charged. -/
  charge : Nat := 0
  chargedAt : Nat := 0
  /-- Age at entry to the state; LEAVE in force; a refused join waits for its retry. -/
  since : Nat := 0
  left : Bool := false
  retryAt : Nat := 0
  /-- The HELLO taken from the peer, and the nonce sent. -/
  hello : Option Hello := none
  nonce : Octets := []
  /-- Boundary J, once the transfer is complete, and whether this unit is owner-elect. -/
  joinAt : Option Nat := none
  elect : Bool := false
  /-- The last AGREE taken and its age; whether one came for this tick; consecutive missing ones. -/
  peer : Option Agree := none
  peerAge : Nat := 0
  gotAgree : Bool := false
  missing : Nat := 0
  /-- Raise YETHAL_DOWN at the next boundary; the peer has left. -/
  downDue : Bool := false
  peerLeft : Bool := false
  /-- Session lines received, to be installed at the next boundary (R434). -/
  sessionsDue : List (Nat × Option Session) := []
  /-- The AGREE sent last, and the other messages sent last. -/
  sent : Option Agree := none
  sends : List TwinSend := []
  /-- Own commits of the last ticks, with their age; due instants withheld, not yet known from the peer. -/
  commits : List (Nat × Commit) := []
  withheld : List Commit := []
  /-- Session lines changed by the commits of this tick and the one before. -/
  lines : List Nat := []
  linesLast : List Nat := []
  /-- AGREE messages in a row whose CONFIG_GEN differs. -/
  configSkew : Nat := 0
  /-- Timing pair: own stamps by scheduled tick, the peer's stamps, θ of the last 64 exchanges (2^-32 ns), and those of
  the last 8,192 ticks with their age. -/
  rxOwn : Tbl (Option Int) := []
  rxPeer : Tbl (Option Int) := []
  coreAt : Tbl Nat := []
  thetas : List Int := []
  window : List (Nat × Int) := []
  /-- The last pulse driven. -/
  pulseAt : Option Nat := none
  /-- The owner's inputs to be consumed in the next W1; none when it was missing. -/
  inputs : Option TwinInputs := none
  /-- Nothing is to be consumed in the next W1: the state has just been installed, or OWN just released. -/
  skip : Bool := false
  /-- The shadow's servo and holdover: those fields of a Canopy state and the objects that go with them (R422). -/
  shadow : CanopyState := {}
  shadowObjs : List (Nat × Int) := []
  /-- Ages in the Canopy state less this unit's own: the state follows the ages of the unit that owns it. -/
  frame : Int := 0
  /-- This unit's own inputs of the tick, taken at the start of W1. -/
  mine : Option TwinInputs := none
  /-- Shadow digests: the epochs matched in a row; a shadow discarded and awaiting a transfer. -/
  matched : Nat := 0
  stale : Bool := false
  /-- A transferred Canopy state waiting for its boundary. -/
  bulkDue : Option Bulk := none
  /-- z_i,own of R422 by member. -/
  own : Tbl (Option OwnMeas) := []
  /-- An announced release: boundary, why; and one announced by the peer. -/
  releaseAt : Option (Nat × ReleaseWhy) := none
  peerRelease : Option Nat := none
  /-- The take or release decided for the boundary just passed, executed at W. -/
  switching : Option Bool := none
  /-- OWN was taken in this tick: its W1 completes the shadow's last tick and coasts its own (R439). -/
  took : Bool := false
  /-- A take falls due at the next boundary: OWN_IN fell without a release (R437). -/
  takeDue : Bool := false
  /-- The unit leaves once its release has taken place (R442). -/
  leaveDue : Bool := false
  /-- OWN_IN has been low since this age, or has been high since. -/
  lowSince : Option Nat := none
  highSince : Option Nat := none
  /-- STANDBY continuously since this age. -/
  standbySince : Option Nat := none
  /-- Ticks in a row with an unbounded bound while owner (R436). -/
  lostRun : Nat := 0
  /-- Pair-agreed batches waiting for X (R417). -/
  agreed : List AgreedBatch := []
  /-- Cookie keys and slots waiting for their boundary (R417, R435). -/
  keys : List AgreedKey := []
  deriving DecidableEq, Repr

end Sys2Proof.Machine
end

