-- ==== Sys2Proof/Machine/TypesRecord.lean ====
section
/-!
DEFINITION. Record and replay: operand types and state behind 0xC000 (17).
-/

namespace Sys2Proof.Machine

/-- A whole record in the Bobbin ring: its free-running octet position, length, TICK and FLAGS, and whether its copy holds an
uncorrectable word (R375, R445, R449). -/
structure BobEntry where
  pos : Nat
  len : Nat
  tick : Nat
  flags : Nat
  bad : Bool := false
  deriving DecidableEq, Repr

/-- What Canopy holds at the start of W1, put back when the computation of the tick is discarded (R54). -/
structure W1Save where
  canopy : CanopyState
  /-- The objects of 0x3100–0x32FF. -/
  obj : Tbl Int
  blobs : Tbl Octets
  step : Option StepRequest
  coastRun : Nat
  /-- The servo of the shadow of the peer's Canopy, with its objects, its ages and the unit's own records (R422). -/
  shadow : CanopyState
  shadowObjs : List (Nat × Int)
  frame : Int
  own : Tbl (Option OwnMeas)
  deriving DecidableEq, Repr

/-- A Canopy state with the objects that Canopy reads: the body of a keyframe (R448), and what a replay runs on. -/
structure CanopyImage where
  canopy : CanopyState
  obj : Tbl Int
  blobs : Tbl Octets
  deriving DecidableEq, Repr

/-- A record of the replay feed, decoded (R445, R446, R448): whether its CRC is correct, the header, the keyframe with the
digest that it states, the inputs, the writes of DICT, and OUTPUT and DIGEST with ENS_EPOCH. -/
structure FeedRecord where
  crcOk : Bool
  version : Nat
  flags : Nat
  len : Nat
  tick : Nat
  microcode : Nat
  digest : Nat
  image : Option CanopyImage
  inputs : TwinInputs
  dict : List DictWrite
  output : Octets
  ensDigest : Option (Nat × Nat)
  deriving DecidableEq, Repr

/-- What a replay holds at the start of W1, put back when the computation of the tick is discarded (R54, R457). -/
structure ReplaySave where
  image : Option CanopyImage
  next : Nat
  differed : Bool
  replayed : Octets
  copied : Octets
  /-- The objects of 0xC100 that a replayed tick writes, and RD of the feed and WR of the capture ring. -/
  objs : List (Nat × Int)
  rd : Nat
  wr : Nat
  deriving DecidableEq, Repr

/-- The Bobbin ring, capture and replay. (Log entry 7, DESIGN CHOICE) -/
structure RecordState where
  /-- The record of the tick carries the loss marker (R26, R450). -/
  lossDue : Bool := false
  /-- W1 of the tick overran after the capture was complete (R450). -/
  coast : Bool := false
  /-- No record has been appended since BOOT or REPLAY, or the last one carried LOSS (R448). -/
  keyDue : Bool := true
  /-- The keyframe formed for the next record. -/
  keyframe : Octets := []
  /-- W3 overran before a keyframe was formed: it is formed for the next tick (R448). -/
  keyLate : Bool := false
  /-- The sections staged in W1 of the tick, by TYPE (R449). -/
  staged : List (Nat × Octets) := []
  /-- OBS of the tick; batches applied since the last record; the first SEQ not yet recorded; the provenance recorded last;
  the values of the steering channels recorded last, plus one, and their failures. -/
  obs : List Octets := []
  applied : List Batch := []
  nextSeq : Nat := 1
  prov : Octets := []
  steer : Tbl Nat := []
  steerFails : Tbl Nat := []
  /-- The whole records in the ring, oldest first (R449). -/
  entries : List BobEntry := []
  /-- Octets appended in the current second. -/
  second : Nat := 0
  /-- Ring position of the next record to be copied; first and last tick lost, with their number (R452). -/
  capPos : Nat := 0
  gap : Option (Nat × Nat × Nat) := none
  /-- The record copied to the host last. -/
  copied : Octets := []
  /-- Canopy at the start of W1. -/
  w1 : Option W1Save := none
  /-- The replay at the start of W1. -/
  replayW1 : Option ReplaySave := none
  /-- The owner's inputs whose shadow record is appended in this tick (R454). -/
  shadow : Option TwinInputs := none
  /-- The replay (R455–R460): the image that it runs on, and its last output record. -/
  image : Option CanopyImage := none
  replayed : Octets := []
  /-- The tick that the next replayed record must have, and whether this replay has met a difference. -/
  next : Nat := 0
  differed : Bool := false
  deriving DecidableEq, Repr

end Sys2Proof.Machine
end

