-- ==== Sys2Proof/Machine/TypesShuttle.lean ====
section
/-!
DEFINITION. Groves and memory: operand types and state behind 0xD000 (14).
-/

namespace Sys2Proof.Machine

/-- What a read of an SRAM word finds (R373, R375): nothing, a correctable error, or an uncorrectable one.  In the
control-core bank, whose layout the manual does not give, the latter names the timing port whose stamp buffer it hits,
or none for the Forester's region. -/
inductive MemError where
  | none
  | correctable
  | uncorrectable (port : Option (Fin 64))
  deriving DecidableEq, Repr

/-- A request to the directory (R379). -/
inductive DirReq where
  | getS (g : Fin 16)
  | getM (g : Fin 16)
  | putM (g : Fin 16)
  deriving DecidableEq, Repr

/-- The directory's record of a session line (R379). -/
inductive DirState where
  | uncached
  | shared (groves : List Nat)
  | owned (g : Nat)
  deriving DecidableEq, Repr

/-- A checkpoint (R364): count of its tick, lane, whether an orphaned lane was served, firmware; `ok` its CRC. -/
structure Checkpoint where
  tick : Nat
  lane : Nat
  orphan : Bool
  fw : Nat
  ok : Bool
  deriving DecidableEq, Repr

/-- A takeover in progress (R367): spare, lane, failed engine, and whether the failure came before W3, with its tick. -/
structure Takeover where
  spare : Nat
  lane : Nat
  failed : Nat
  early : Bool
  tick : Nat
  deriving DecidableEq, Repr

/-- The cycles of one engine in a tick, by account (R381). -/
structure WorkTally where
  grove : Fin 16
  engine : Fin 17
  committed : Nat
  lost : Nat
  idle : Nat
  wait : Nat
  upkeep : Nat
  deriving DecidableEq, Repr

/-- A request of a port of a bank for one word: a read, or the value to write (R369, R370). -/
structure MemRequest where
  port : Nat
  word : Nat
  write : Option Nat := none
  deriving DecidableEq, Repr

/-- The requests that stand at one sub-bank in one MEM cycle (R370). (Log entry 95, DESIGN CHOICE) -/
structure MemCycle where
  bank : Fin 21
  sub : Fin 32
  requests : List MemRequest
  deriving DecidableEq, Repr

/-- What a port gets back in the cycle that serves it: the value read, or whether its write collided (R371).
(Log entry 95, DESIGN CHOICE) -/
structure MemResponse where
  bank : Nat
  port : Nat
  word : Nat
  value : Nat
  collision : Bool
  deriving DecidableEq, Repr

/-- Engines, lanes, banks and the session directory. (Log entry 7, DESIGN CHOICE) -/
structure ShuttleState where
  /-- Checkpoint slots: (17 g + e) × 2 + slot (R364). -/
  checkpoints : Tbl (Option Checkpoint) := []
  /-- Takeovers in progress, by grove. -/
  takeovers : Tbl (Option Takeover) := []
  /-- Lanes that no engine serves in this tick: 16 g + lane, with true where a spare is loading it (R361, R367). -/
  down : List (Nat × Bool) := []
  /-- Groves whose Reed journal of the current tick is lost (R365). -/
  journalBad : List Nat := []
  /-- Lane of the items of the current tick, plus one, by 8,192 g + item (R361, R362). -/
  lanes : Tbl Nat := []
  /-- Self-tests ended, waiting for the next boundary: the grove and the engines that passed (R55, R360). -/
  ready : List (Nat × List Nat) := []
  /-- The AES lanes: engine cycle of the tick at which lane 2 g + l is free, and the engine that it served last (R368). -/
  aesFree : Tbl Nat := []
  aesServed : Tbl (Option Nat) := []
  /-- Words corrected and to be written back, written back and to be read again, and hard faults: bank and word (R373,
  R374). -/
  writeBacks : List (Nat × Nat) := []
  rereads : List (Nat × Nat) := []
  hard : List (Nat × Nat) := []
  /-- The scrubbers: next word, age at the start of the pass, ticks spent in retention, late already counted (R376). -/
  scrubAt : Tbl Nat := []
  scrubStart : Tbl Nat := []
  scrubPaused : Tbl Nat := []
  scrubLate : List Nat := []
  /-- The banks that a boundary found idle: at reset every grove and Glade are OFF (R377). -/
  idle : List Nat := List.range 16 ++ [19]
  /-- The directory and the grove caches: per grove × 512 + set, the lines held, most recently used first, true for M
  (R378, R379). -/
  dir : Tbl DirState := []
  caches : Tbl (List (Nat × Bool)) := []
  /-- Groves whose engine clocks are running (R43, R471). -/
  clocked : List Nat := []
  /-- The responses of the memory cycles of the latest W2, oldest first (R371). -/
  responses : List MemResponse := []
  deriving DecidableEq, Repr

end Sys2Proof.Machine
end

