-- ==== Sys2Proof/Machine/TypesVault.lean ====
section
/-!
DEFINITION. The key vault: operand types and state behind 0x8000 (12).
-/

namespace Sys2Proof.Machine

/-- A vault operation's message (R316), with how it came. -/
structure VaultMsg where
  src : MsgSource
  slot : Nat
  alg : Nat
  tag : Nat
  dst : Nat
  body : Octets
  deriving DecidableEq, Repr

/-- The operations of R317, with their OP numbers. -/
inductive VaultOp where
  | sign | verify | ecdh | generate | derive | proof | chalIssue | chalRespond | attest
  deriving DecidableEq, Repr

/-- OP of an operation. -/
def VaultOp.code : VaultOp → Nat
  | .sign => 0x0201
  | .verify => 0x0202
  | .ecdh => 0x0203
  | .generate => 0x0204
  | .derive => 0x0205
  | .proof => 0x0206
  | .chalIssue => 0x0207
  | .chalRespond => 0x0208
  | .attest => 0x0209

/-- A mint request (R301), with how it came. -/
structure MintMsg where
  src : MsgSource
  count : Nat
  aead : Nat
  tag : Nat
  c2s : Octets
  s2c : Octets
  deriving DecidableEq, Repr

/-- A slot's content and description (R306, R307). -/
structure Slot where
  type : Nat := 0
  origin : Nat := 0
  state : Nat := 0
  loaded : Bool := false
  gen : Nat := 0
  keyId : Nat := 0
  content : Octets := []
  pub : Octets := []
  deriving DecidableEq, Repr

/-- An accepted KEY_WRITE that waits for its boundary (R309). -/
structure KeyWrite where
  wait : Nat
  slot : Nat
  type : Nat
  material : Octets
  deriving DecidableEq, Repr

/-- A challenge not yet consumed (R319, R320). -/
structure Challenge where
  id : Nat
  slot : Nat
  nonce : Octets
  expiry : Nat
  deriving DecidableEq, Repr

/-- An operation in the public-key engine (R325): the request that it answers, or the slot whose public key it computes;
what it will answer; and the key that an ECDH leaves. -/
structure PkJob where
  msg : Option (VaultOp × VaultMsg)
  slot : Nat
  cycles : Nat
  code : Nat
  body : Octets
  /-- Destination slot and secret of an ECDH. -/
  key : Option (Nat × Octets) := none
  /-- Public key to be shown in the slot, with the GEN it belongs to. -/
  pub : Option (Octets × Nat) := none
  /-- The place in the order of arrival: tick and sub-tick. -/
  tick : Nat := 0
  subtick : Nat := 0
  /-- Algorithm of a public key still to be computed. -/
  alg : Nat := 0
  done : Bool := false
  deriving DecidableEq, Repr

/-- Slots, queue, challenges and the public-key engine. (Log entry 7, DESIGN CHOICE) -/
structure VaultState where
  slots : Tbl Slot := []
  writes : List KeyWrite := []
  /-- Operations in order of arrival (R318). -/
  queue : List (VaultOp × VaultMsg) := []
  /-- Mint requests waiting for a W3 (R302). -/
  mints : List MintMsg := []
  /-- Jobs for the engine that the queue does not hold: public keys of written and generated slots, with the request that
  a GENERATE answers (R309, R318). -/
  jobs : List PkJob := []
  engine : Option PkJob := none
  challenges : List Challenge := []
  nextChal : Nat := 0
  /-- The entropy source has failed its health test (R312). -/
  entropyFailed : Bool := false
  /-- Tamper: the latch, and a fuse being programmed (R323, R324). -/
  tampered : Bool := false
  fuseDue : Bool := false
  /-- W3s left of a re-masking pass, and a recovery pass due (R313). -/
  remask : Nat := 0
  recovery : Bool := false
  deriving DecidableEq, Repr

end Sys2Proof.Machine
end

