-- ==== Sys2Proof/Syntax.lean ====
section
/-!
DEFINITION. The commands of the block: one constructor per row of the table of operations and events.  The table
gives no operands; a command's operands are what the manual says the event carries from outside the block (the
port, the captured instant, the octets received, the value measured or written).
-/

namespace Sys2Proof

open Sys2Proof.Machine

/-- The commands, in the order of the table.  Each docstring is the rule and the event it names.
(Log entries 10, DEDUCED; 94, DESIGN CHOICE) -/
inductive Instr where
  /-- R27: PWR_OK and RESET_N both high release reset; the device enters BOOT and the memory fill starts. -/
  | resetRelease (twinEn : Bool) (avsAddr : Fin 8) (i2c0 i2c1 : I2cLines)
  /-- R37: PWR_OK low enters RESET asynchronously from any mode, HALTED included, and clears the tamper latch. -/
  | pwrOkFall
  /-- R499: RESET_N held low for 20 AON cycles enters RESET from any mode except HALTED. -/
  | resetNAssert
  /-- R372: The SRAM fill ends; the Forester is released and runs the boot sequence. -/
  | fillComplete (b : BootRead)
  /-- R315: The vault finishes its re-mask, known-answer tests and derivations and goes to READY, or to ZEROISED if a test fails. -/
  | vaultInitComplete (failed : Option (Fin 4))
  /-- R480: While Tj is 115 °C or more, BOOT re-checks Tj every 10 ms and holds. -/
  | bootThermalRecheck (us : Fin 4294967296)
  /-- R467: BOOT ends and the device enters WARMUP; tick 0 starts on XO_IN. -/
  | bootComplete (us : Fin 4294967296)
  /-- R38: A tick boundary of the device timescale: new states come into force and every boundary-timed change applies. -/
  | tickBoundary (cycles : Fin 4294967296) (gpio : Fin 4294967296) (ownIn : Bool) (work : List WorkTally)
  /-- R41: W0 begins: stamp queues are drained, the GNSS epoch is dumped, and the packet batch is handed to the groves. -/
  | w0Ingest
  /-- R41: W1 begins: Canopy qualifies, runs the servo and this tick's ensemble slot, and computes the bound. -/
  | w1Solve (feed : List FeedRecord)
  /-- R41: W2 begins: the Shuttles process the batch handed off in W0. -/
  | w2Serve (feed : List FeedRecord) (cycles : List MemCycle)
  /-- R41: W3 begins: checkpoints, journal close, telemetry, key work and recording run. -/
  | w3Maintain (x : W3Work)
  /-- R52: A window reaches its end position with work unfinished; the current and unstarted items are discarded. -/
  | windowOverrun (work : Unfinished)
  /-- R471: From engine cycle 34,976 the grove clocks are enabled in stages. -/
  | shuttleClockEnable (g : Fin 16)
  /-- R471: From engine cycle 155,000 the grove engines are gated in stages. -/
  | shuttleClockGate (g : Fin 16)
  /-- R27: MODE_REQUEST value 1 on class H requests REPLAY at the next boundary. -/
  | enterReplay (cls : PortClass)
  /-- R27: MODE_REQUEST value 2 on class H requests a return to ACQUIRE at the next boundary. -/
  | exitReplay (cls : PortClass)
  /-- R36: A clock source is lost; domain status bits change and the domain's reaction is applied. -/
  | lossOfClock (c : ClockSource)
  /-- R56: In WARMUP, grove Gk enters STARTING at tick 64k and its engines begin self-test. -/
  | groveStart (g : Fin 16)
  /-- R360: Self-tests end; passing engines take lanes or become the spare, and the grove goes to READY or OUT. -/
  | engineSelftestComplete (g : Fin 16) (passed : List (Fin 17)) (aes : Fin 4)
  /-- R57: A READY grove enters SERVING at its ramp slot after service is allowed. -/
  | groveRampSlot (g : Fin 16)
  /-- R78: An operator leap entry is checked and made pending, or refused. -/
  | leapEntryWrite (cls : PortClass) (e : Int) (newOffset : Int)
  /-- R84: Writing E = 0 to LEAP_ENTRY_WRITE cancels a pending operator entry. -/
  | leapEntryCancel (cls : PortClass)
  /-- R77: At E the pending entry becomes the newest applied entry and TAI_UTC_OFFSET changes. -/
  | leapApply
  /-- R80: A smear window opens and SMEAR_ACTIVE reads 1. -/
  | smearWindowStart
  /-- R80: The smear window ends; smeared UTC equals UTC and SMEAR_ACTIVE clears. -/
  | smearWindowEnd
  /-- R90: A selected edge arrives at a timing port; it is counted and stamped if a stamper is ready and the FIFO has room. -/
  | edgeArrival (port : Fin 84) (time : Nat) (a b : Capture)
  /-- R92: Every 64 TPL cycles the DLL bias code is adjusted and lock is checked. -/
  | dllUpdate (st : Fin 170) (error : Int) (code : Fin 4096)
  /-- R96: At its due boundary a stamper enters RECAL and starts histogramming. -/
  | codeDensityRunStart (st : Fin 170)
  /-- R95: After 4 ticks the new table and skew come into force and the stamper returns to ACTIVE. -/
  | codeDensityRunEnd (st : Fin 170) (hits : List Nat)
  /-- R95: A stamper not locked 64 ticks after entering LOCKING goes to FAULT. -/
  | stamperLockTimeout (st : Fin 170)
  /-- R95: At the 72nd boundary after entering CAL_INIT, the stamper becomes ACTIVE. -/
  | calInitComplete (st : Fin 170) (train : List ((Nat × Nat) × (Nat × Nat)))
  /-- R95: 8,192 ticks after entering FAULT, a stamper returns to LOCKING. -/
  | stamperFaultRetry (st : Fin 170)
  /-- R107: A regression gate ends at its aligned boundary or is closed early. -/
  | gateEnd (port : Fin 84)
  /-- R120: 64 valid sync headers on every lane take the link from DOWN to SH_LOCK. -/
  | jesdSyncHeaderLock (a : Fin 4)
  /-- R120: Four valid extended-multiblock markers take the link to EMB_LOCK. -/
  | jesdEmbLock (a : Fin 4)
  /-- R121: At the SYSREF-aligned boundary the link enters DATA and its latency is measured. -/
  | linkDataEntry (a : Fin 4) (latency : Fin 65536)
  /-- R120: A link with no progress 10 ms after entering SH_LOCK goes to FAULT. -/
  | linkProgressTimeout (a : Fin 4)
  /-- R120: Invalid sync headers, elastic-buffer slip or excess CRC errors put a link in FAULT. -/
  | linkFaultDetect (a : Fin 4) (why : LinkFault)
  /-- R120: After 10 ms in FAULT the link returns to DOWN. -/
  | linkFaultRestart (a : Fin 4)
  /-- R122: A multiblock that fails CRC-12 is counted and its samples are blanked. -/
  | multiblockCrcFail (x : BadBlock)
  /-- R123: FE_SETTLE_MS after CLOCKS, Glade enters LINK and releases its lanes. -/
  | gladeLinkStart
  /-- R131: A 1 ms Glade epoch falls; stream statistics update and a solution is formed. -/
  | gladeEpoch (e : GladeEpoch)
  /-- R126: At the end of a 64-epoch average, notches are assigned or released. The operands of type Unit carry nothing. -/
  | notchAverageEnd (k : Fin 12) (spare1 spare2 : Unit)
  /-- R135: An FFT search ends; a detection goes to confirmation, otherwise the search repeats. -/
  | acqSearchComplete (c : Fin 256) (predicted : Int)
  /-- R135: A confirmation dwell moves the channel to PULL_IN, or counts a false alarm. The operand of type Unit carries nothing. (Log
  entry 110, DESIGN CHOICE) -/
  | acqConfirmComplete (c : Fin 256) (spare : Unit)
  /-- R138: A channel closes its loops at the end of a coherent integration. -/
  | coherentIntegrationEnd (c : Fin 256) (x : Integration)
  /-- R141: 500 ms in PULL_IN without code lock returns the channel to SEARCH. -/
  | chPullInTimeout (c : Fin 256)
  /-- R141: 10 s in LOST returns the channel to SEARCH. -/
  | chLostTimeout (c : Fin 256)
  /-- R143: At each 1 s boundary the planner assigns channels. -/
  | channelPlan (vis : List Visible)
  /-- R144: A decoded navigation unit is checked and delivered, or dropped and counted. -/
  | navUnitDecode (c : Fin 256) (u : NavUnit)
  /-- R149: A survey meets its time and sigma; positions are written and POS_MODE becomes 0. The operand of type Unit carries nothing. (Log entry
  110, DESIGN CHOICE) -/
  | surveyComplete (spare : Unit)
  /-- R149: A survey unfinished after 4 × SURVEY_MIN_S restarts and is counted. -/
  | surveyTimeout
  /-- R158: Every 1,000 s a position correction is estimated; an excess enters POSITION_SUSPECT. -/
  | positionCheck (epoch : Nat)
  /-- R159: Once a second the spoofing metric M is formed from double differences. -/
  | spoofCheck (sats : List SpoofSat)
  /-- R173: A class T reference absent beyond REF_ABSENT_S goes to FAILED. -/
  | refAbsentTimeout (id : Fin 256)
  /-- R170: An activity window ends; an inactive window disqualifies the reference. -/
  | classFActivityWindow (id : Fin 256)
  /-- R174: Once a second, qualified class T references are compared pairwise. -/
  | consistencyCheck
  /-- R179: No reference edge for 2 periods freezes APLL-T (HOLD), or sends it to BYPASS. -/
  | aplltMissingEdge
  /-- R179: The selector connects the new input at its first edge after the divider edge, and slewing starts. -/
  | aplltInputConnect (plane khz : Nat)
  /-- R184: A PLL meets the lock criterion and goes to LOCKED. -/
  | apllLock (x : PllLock)
  /-- R184: A PLL's phase error exceeds ±4 ns for 4 cycles, or its reference is lost, and it goes to BYPASS. -/
  | apllLossOfLock (k : Fin 6)
  /-- R184: A PLL not locked within 10 ms goes to BYPASS. -/
  | apllAcquireTimeout (k : Fin 6)
  /-- R184: APLL-T not relocked within 200 µs of a switch goes to BYPASS. -/
  | aplltRelockTimeout
  /-- R184: After 100 ms in BYPASS with a reference present, a PLL acquires again. -/
  | apllBypassRetry (k : Fin 6)
  /-- R180: 64 ticks after a switch, the measured step is formed and its difference from the predicted step is slewed out. -/
  | stepMeasure
  /-- R186: An output drives an edge at its placed target. -/
  | outputEdge (port : Fin 64) (n : Nat) (measured : Int)
  /-- R194: In W3 of an interval's last tick a digital steering value is written to the oscillator. -/
  | dsteerInterval (ds : Fin 4)
  /-- R207: An operator step of Δ ns requests a realignment at the next tick. -/
  | timescaleStep (cls : PortClass) (ns : Int)
  /-- R207: The value 0x8000_0000_0000_0000 requests a step by the last servo error. -/
  | timescaleStepToRef (cls : PortClass)
  /-- R219: When ENS_HOLD_MAX_S has passed in HOLDOVER, the bound becomes unbounded. -/
  | holdMaxExpire
  /-- R241: A ToD message starts 1 ms after each driven 1PPS edge. -/
  | todMessageSend (port : Fin 64)
  /-- R242: A received ToD message is checked and judged for its 1PPS observation. -/
  | todMessageReceive (port : Fin 64) (message : Octets) (endNs : Nat)
  /-- R248: The receiver recovers a clock; the MAC goes to SIGNAL. -/
  | npLinkSignal (m : Fin 16)
  /-- R248: PCS and FEC lock take the MAC to ALIGNED. -/
  | npLinkAligned (m : Fin 16)
  /-- R248: No lock within 100 ms returns the MAC to DOWN. -/
  | npAlignTimeout (m : Fin 16)
  /-- R248: 10 ms without a fault take the MAC to UP. -/
  | npLinkUp (m : Fin 16)
  /-- R248: A fault sequence or the high-error condition takes the MAC to FAULT. -/
  | npLinkFault (m : Fin 16)
  /-- R248: 10 ms without the fault condition return the MAC to ALIGNED. -/
  | npFaultClear (m : Fin 16)
  /-- R248: Loss of signal or lock, or a mode change, takes the MAC to DOWN. -/
  | npLinkDown (m : Fin 16)
  /-- R254: A received frame is timestamped, filtered, gated by mode, parsed and steered. -/
  | frameReceive (m : Fin 16) (frame : Octets) (capture : Nat) (phy : PhyErrors)
  /-- R253: A host batch closes at 256 descriptors, at tick b+3, or at a realignment. -/
  | hostBatchClose (completion : Bool) (ring : Fin 16) (m : Fin 16)
  /-- R260: A queued frame starts transmission at D, or when the queues allow. -/
  | frameLaunch (m : Fin 16) (q : Fin 8) (capture : Nat)
  /-- R263: The device fetches a host transmit descriptor and queues its frame, or refuses it with DESC. -/
  | hostTxDescriptor (ring : Fin 16) (desc : Octets) (frame : Octets)
  /-- R263: A host frame not started by LAUNCH + LATE_MAX_NS is discarded with a LATE completion. -/
  | hostFrameLate (m : Fin 16) (pos : Nat) (now : Int)
  /-- R265: Each MAC sends its ESMC information PDU at its tick index every second. -/
  | esmcInfoPdu (m : Fin 16)
  /-- R266: 5 s without a valid PDU set ESMC_RX_SSM to 0xF0. -/
  | esmcRxExpire (m : Fin 16)
  /-- R274: One cycle in 4,096 refreshes the next bucket with cost 0. -/
  | heddleSweep
  /-- R293: A Shuttle checks an NTP request and commits an EXACT response. -/
  | ntpRequest (g : Fin 16) (n : Fin 8192) (now : Int)
  /-- R294: An NTS request is checked, then answered with fresh cookies or a NAK. -/
  | ntsRequest (g : Fin 16) (n : Fin 8192) (now : Int)
  /-- R281: A Delay_Req is answered with a Delay_Resp carrying its ingress time. -/
  | ptpDelayReq (g : Fin 16) (n : Fin 8192) (now : Int)
  /-- R281: A Pdelay_Req is answered with a Pdelay_Resp and, in two-step operation, a Follow_Up. -/
  | ptpPdelayReq (g : Fin 16) (n : Fin 8192) (now : Int)
  /-- R283: A REQUEST_UNICAST_TRANSMISSION is granted with a chosen phase, or denied with a reason. -/
  | ptpGrantRequest (g : Fin 16) (n : Fin 8192)
  /-- R283: A CANCEL ends a grant at the next boundary and is acknowledged. -/
  | ptpGrantCancel (g : Fin 16) (n : Fin 8192)
  /-- R285: A grant not renewed within its duration expires. -/
  | ptpGrantExpire (line : Fin 262144)
  /-- R280: A Sync due next tick is committed as an EXACT frame with the next sequenceId. -/
  | ptpSyncDue (x : PtpStream) (dup : Bool) (now : Int)
  /-- R280: A two-step Follow_Up carrying the Sync's egress time is queued in the next W2. -/
  | ptpFollowUpDue (x : PtpStream)
  /-- R279: An Announce is built with clockClass and flags from the current mode. -/
  | ptpAnnounceDue (x : PtpStream)
  /-- R281: A peer-to-peer instance sends its own Pdelay_Req once a second on each MAC. -/
  | ptpPdelayReqDue (inst : Fin 16) (m : Fin 16)
  /-- R290: A client session's received message completes an exchange and yields an offset observation. -/
  | ptpClientRx (g : Fin 16) (n : Fin 8192)
  /-- R291: A reference session sends its Delay_Req, Pdelay_Req or Signaling to its peer. -/
  | clientRequestDue (c : Fin 24) (msg : ClientMsg)
  /-- R289: A session renews each grant when half its duration has passed. -/
  | clientGrantRenew (c : Fin 24) (t : GrantType)
  /-- R289: After 60 s in BACKOFF the session returns to SEEKING. -/
  | clientBackoffExpire (c : Fin 24)
  /-- R289: An unrenewed grant or 3 missed Announce intervals return the session to SEEKING. -/
  | clientAnnounceTimeout (c : Fin 24)
  /-- R266: The grove decodes a received ESMC PDU and writes its SSM code. -/
  | esmcPduReceive (g : Fin 16) (n : Fin 8192)
  /-- R296: At an index-0 boundary after NTS_ROTATE_S, a new cookie key becomes current and the oldest is retired. -/
  | ntsKeyRotation
  /-- R296: A write of 1 forces a rotation at the next index-0 boundary. -/
  | ntsRotateNow (cls : PortClass)
  /-- R302: A mint request on the mint channel is served in W3 and returns up to 8 cookies. -/
  | ntsMintRequest (m : MintMsg)
  /-- R308: A clear-text key write on class H is checked and made PENDING, or refused. -/
  | keyWrite (cls : PortClass) (blob : Octets)
  /-- R309: At the boundary the slot takes its new content, GEN increments and lane registers reload. -/
  | keyWriteApply
  /-- R313: A test re-mask is requested; it is accepted only in WARMUP and REPLAY. -/
  | remaskRequest (cls : PortClass)
  /-- R312: A failed health test is a U fault, and operations needing randomness are refused. -/
  | entropyHealthFail
  /-- R312: A restarted entropy source that passes 1,024 start-up samples restores fresh randomness. -/
  | entropyRestartPass
  /-- R317: A class H request to sign a hash or message with a slot's key. -/
  | pkSign (m : VaultMsg)
  /-- R326: A request to verify a signature under a supplied public key. -/
  | pkVerify (m : VaultMsg)
  /-- R317: An ECDH of a slot with a peer key, derived into a destination slot. -/
  | pkEcdh (m : VaultMsg)
  /-- R317: A new key pair is generated in a PK_USER slot. -/
  | generate (m : VaultMsg)
  /-- R311: A key is derived by HKDF into a DERIVED slot. -/
  | derive (m : VaultMsg)
  /-- R319: Returns the HMAC proof of a slot's key over a challenge. -/
  | proof (m : VaultMsg)
  /-- R319: Issues a challenge with a nonce bound to a slot, up to 64 outstanding. -/
  | chalIssue (m : VaultMsg)
  /-- R320: A challenge response is judged in W3 of the next tick, in ingress order. -/
  | chalRespond (m : VaultMsg)
  /-- R322: Returns a signed attestation report for an attestable slot. -/
  | attest (m : VaultMsg)
  /-- R325: The public-key engine starts the next queued operation at the first VLT cycle of a W3. -/
  | pkEngineStart
  /-- R325: An operation finishes its fixed time; its result is posted in the next W3. -/
  | pkEngineComplete
  /-- R323: TAMPER_N low for 100 ns erases every key, latches tamper and halts the device. -/
  | tamperEvent
  /-- R324: The next tamper-count fuse finishes programming. -/
  | tamperFuseProgrammed
  /-- R334: A READ record returns the value in force at the start of the serving tick. -/
  | dictRead (m : DictMsg)
  /-- R333: WRITE records form a batch that is admitted whole or refused whole. -/
  | dictWrite (m : DictMsg)
  /-- R337: Returns an object's type, timing, access and length. -/
  | dictDescribe (m : DictMsg)
  /-- R333: An admitted batch applies at its boundary or W3, in arrival order. -/
  | dictBatchApply (bad : Bool)
  /-- R348: A mailbox message whose OP the channel does not serve returns 0x0011. -/
  | mbxUnknownOp (k : Fin 16) (seq : Fin 65536) (op : Fin 65536)
  /-- R341: A management datagram is checked, source-filtered and matched against the reply cache. -/
  | mgmtRequestReceive (d : MgmtDatagram)
  /-- R341: A cached reply expires 65,536 ticks after it was sent. -/
  | mgmtCacheExpiry
  /-- R339: The management port answers ARP and neighbour discovery for its addresses. -/
  | mgmtArpNd (target : Octets)
  /-- R344: The PCIe link reaches its active state; PCIE_LINK reads the negotiated rate and width. -/
  | pcieLinkUp (rate : Fin 6) (width : Fin 16)
  /-- R344: A PCIe link loss or retrain is counted; the device keeps running. -/
  | pcieLinkDown
  /-- R349: A function-level reset abandons channels, disables rings and discards notices of that function. -/
  | pcieFlr (fn : Fin 2)
  /-- R349: At the next W3 an unserved message is abandoned with 0x0014; a message in service completes. -/
  | chanReset (k : Fin 16)
  /-- R350: The host acknowledges the outstanding notice by SEQ. -/
  | d2hAck (k : Fin 16) (seq : Fin 65536)
  /-- R350: The next queued notice is placed in the channel's notice buffer. -/
  | d2hNoticeDeliver (k : Fin 16)
  /-- R351: Setting a ring's enable bit sets both of its pointers to 0. -/
  | ringEnable (fn : Fin 2) (kind : RingKind) (ring : Fin 8) (vectorEn : Bool)
  /-- R352: The host advances a consumer pointer, freeing room so that stalled device work resumes. -/
  | ringConsumerWrite (fn : Fin 2) (kind : RingKind) (ring : Fin 8) (off : Nat) (value : Nat)
  /-- R346: Reading TICK_LO latches the high half into TICK_HI. -/
  | tickLoRead (fn : Fin 2)
  /-- R354: At each INTERVAL boundary every counter is snapshotted into the dump ring. -/
  | counterDump (fn : Fin 2)
  /-- R351: A write to a BAR0 register that has no row of its own. -/
  | registerWrite (fn : Fin 2) (off : Fin 65536) (value : Fin 4294967296)
  /-- R366: A failed self-check puts an engine in FAILED, and its D reservations are cancelled. -/
  | engineFail (g : Fin 16) (e : Fin 17)
  /-- R366: An engine idle on held items for 16,384 cycles is FAILED. -/
  | engineWatchdogExpire (g : Fin 16) (e : Fin 17)
  /-- R367: The spare finishes loading and resumes the lane, or starts from the entry state. -/
  | takeoverLoadComplete (g : Fin 16)
  /-- R368: An engine's AES job is served by a free lane in submission order. -/
  | aesJob (g : Fin 16) (e : Fin 17) (cycle : Nat) (nts : Bool) (parity : Bool) (fail : Bool)
  /-- R373: A corrected word is written back in the sub-bank's next cycle. -/
  | memWriteBack (bank : Fin 21) (word : Nat) (value : Fin 18446744073709551616)
  /-- R374: A written-back word is re-read at an idle cycle; if still in error it is a hard fault. -/
  | memReread (bank : Fin 21) (word : Nat) (still : Bool)
  /-- R376: The scrubber reads the next word of its bank on an idle cycle. -/
  | scrubRead (bank : Fin 21) (found : MemError)
  /-- R376: A scrub pass that overruns its due time is counted once. -/
  | scrubPassLate (bank : Fin 21)
  /-- R379: A grove requests a shared copy of a session line. -/
  | dirGets (line : Fin 262144) (g : Fin 16) (others : List DirReq)
  /-- R379: A grove requests ownership of a line; other copies are invalidated or recalled. -/
  | dirGetm (line : Fin 262144) (g : Fin 16) (others : List DirReq)
  /-- R380: An owner writes its line back, on eviction or on recall. -/
  | dirPutm (line : Fin 262144) (g : Fin 16)
  /-- R384: A checker reports a fault; the collector stamps, classes, counts and reacts. -/
  | faultReport (f : FaultOperand)
  /-- R384: The XO_IN monitor forces HALTED with FATAL_CODE 0x0203 and no log entry. -/
  | aonClockLoss
  /-- R386: 2 µs after a boundary, the previous tick's reports are written to the log in sorted order. -/
  | eventLogWrite
  /-- R389: A record whose due boundary has come is acknowledged under an automatic policy. -/
  | faultAutoAck
  /-- R389: An operator write acknowledges every record up to a SEQ. -/
  | faultAck (cls : PortClass) (v : Nat)
  /-- R393: A grove in OUT returns to STARTING once its retry conditions are met. -/
  | groveRetryExpire (g : Fin 16)
  /-- R395: ALIVE changes level at every eighth tick boundary. -/
  | aliveToggle
  /-- R407: An injection request arms a checker for COUNT detections, or is refused. -/
  | injRequest (cls : PortClass) (blob : Octets)
  /-- R407: An armed injection request is disarmed at the next tick. -/
  | injCancel (cls : PortClass)
  /-- R414: The Yethal lanes recover a clock; an ALONE unit goes to LINKING. -/
  | twinLinkDetect
  /-- R414: No join progress within 10 s returns the unit to ALONE. -/
  | twinJoinTimeout
  /-- R414: A refused join is retried 10 s later. -/
  | twinJoinRetry
  /-- R415: The peer's HELLO is checked and, if it passes, the unit goes to AUTH. -/
  | twinHelloReceive (h : Hello)
  /-- R415: Transferred configuration, keys, sessions and state are installed and their digest is checked. -/
  | twinBulkReceive (b : Bulk)
  /-- R415: At J both units take their roles and the shadow starts. -/
  | twinJoinBoundary
  /-- R419: The peer's AGREE message is taken for the tick. -/
  | twinAgreeReceive (a : Agree) (late : Bool)
  /-- R419: An AGREE not arrived by engine cycle 48,000 counts as missing. -/
  | twinAgreeDeadline
  /-- R436: An URGENT release announcement is received for boundary h. -/
  | twinUrgentReceive (at_ : Nat) (inTime : Bool)
  /-- R435: A forwarded request or Signaling message from the peer is answered, or handed to the owner. -/
  | twinForwardReceive (f : Forward) (late : Bool)
  /-- R420: Every 8 ticks each joined unit drives a 100 ns pulse on TWP. -/
  | twpPulseDrive
  /-- R420: The peer's TWP pulse is stamped and an offset observation θ is formed. -/
  | twpEdgeReceive (time : Nat) (a b : Capture)
  /-- R427: At W the releasing unit drops OWN_OUT and the taking unit sets its latch. -/
  | ownSwitchInstant (cut : Fin 65)
  /-- R437: OWN_IN falling without an announced release makes a STANDBY unit take at the next boundary. -/
  | ownInFall
  /-- R428: OWN_IN high for a whole tick while holding OWN is resolved by TWIN_PREFERRED. -/
  | ownContention
  /-- R429: An ALONE unit in service takes OWN after OWN_IN has stayed low long enough. -/
  | coldTake
  /-- R436: TWIN_ACTION 1 on the owner announces a release to a READY peer. -/
  | twinHandover (cls : PortClass)
  /-- R442: TWIN_ACTION 2 releases OWN if held, sends LEAVING and stays ALONE. -/
  | twinLeave (cls : PortClass)
  /-- R442: TWIN_ACTION 3 allows the unit to link again. -/
  | twinRejoin (cls : PortClass)
  /-- R452: The capture DMA copies the next whole ring record to the host on idle cycles. -/
  | captureCopy (bad : Bool)
  /-- R456: The first feed record is checked; the replay becomes LOADED or returns to IDLE. -/
  | replayLoad (rec_ : FeedRecord)
  /-- R470: Host flash OP 1 reads 256 octets into FLASH_DATA. -/
  | flashRead (who : FlashBy) (cs : Fin 2) (addr : Fin 4294967296)
  /-- R470: Host flash OP 2 programs one page. -/
  | flashProgram (who : FlashBy) (cs : Fin 2) (addr : Fin 4294967296) (data : Octets)
  /-- R470: Host flash OP 3 erases a 4 KiB sector. -/
  | flashSectorErase (who : FlashBy) (cs : Fin 2) (addr : Fin 4294967296)
  /-- R470: Host flash OP 4 erases a 64 KiB block. -/
  | flashBlockErase (who : FlashBy) (cs : Fin 2) (addr : Fin 4294967296)
  /-- R506: A flash program or erase completes and is verified by read-back. -/
  | flashCommandComplete (ok : Bool)
  /-- R475: JOURNAL_INTERVAL_S since the last write makes a journal write due. -/
  | journalIntervalExpire
  /-- R475: A write of JOURNAL_NOW makes a journal write due. -/
  | journalNow (cls : PortClass)
  /-- R475: A journal write ends with its header page programmed and verified. -/
  | journalWriteComplete (ok : Bool)
  /-- R472: Once a second READ_VOUT is read back. -/
  | avsReadback (mv : Option (Fin 65536))
  /-- R505: A fall of PMBUS_ALERT_N triggers an immediate read-back. -/
  | pmbusAlert (mv : Option (Fin 65536))
  /-- R478: Every 8 µs the sensors are read and Tj is formed. -/
  | thermalSensorRead (t : List Int)
  /-- R479: A sensor at 125 °C or more in 2 samples trips and halts the device, or latches in RESET. -/
  | thermalTrip (sensor : Fin 8)
  /-- R481: A sentinel is measured in W3 on its schedule. -/
  | sentinelMeasure (x : Sentinel)
  /-- R482: A plan starts at least 24 h after the previous start. -/
  | selvagePlanStart
  /-- R483: The plan's rules are finished and a journal write falls due. -/
  | selvagePlanComplete
  /-- R484: Once a second AGE_EQ_HOURS advances by the thermal acceleration factor. -/
  | ageUpdate
  /-- R501: A host I2C transaction is queued on a controller. -/
  | i2cXfer (cls : PortClass) (ctl : Fin 2) (blob : Octets)
  /-- R501: The controller starts the next queued transaction, steering writes first. -/
  | i2cTransactionStart (ctl : Fin 2)
  /-- R501: A transaction ends with STOP and its result status. -/
  | i2cTransactionDone (ctl : Fin 2) (e : I2cEnd)
  /-- R502: Sampling 0 while driving 1 releases SDA, and the controller follows the winner passively. -/
  | i2cArbitrationLost (ctl : Fin 2)
  /-- R502: After bus-free, the lost transaction restarts, or is dropped after the third retry. -/
  | i2cBusFree (ctl : Fin 2)
  /-- R503: SCL stretched beyond 25 ms ends the transaction and resets the controller. -/
  | i2cStretchTimeout (ctl : Fin 2) (lines : I2cLines)
  /-- R503: A write of 0 to I2C_BUS_STATE resets the controller and frees the bus. -/
  | i2cBusReset (cls : PortClass) (ctl : Fin 2) (lines : I2cLines)
  /-- R503: A timed recovery attempt pulses SCL and sends STOP. -/
  | i2cRecoveryAttempt (ctl : Fin 2) (freed : Bool)
  /-- R504: A one-octet write to the I2C target sets its read offset. -/
  | i2cTargetSetOffset (off : Fin 256)
  /-- R504: The target returns mirrored BAR0 status octets from the offset, wrapping at 64. -/
  | i2cTargetRead (n : Fin 256)
  /-- R509: The BYPASS instruction. -/
  | jtagBypass
  /-- R509: IDCODE returns the JEDEC identity, part number and revision. -/
  | jtagIdcode
  /-- R509: SAMPLE/PRELOAD captures or loads the boundary register. -/
  | jtagSamplePreload (register : Octets)
  /-- R509: EXTEST drives pins only in RESET with PWR_OK high; otherwise it acts as BYPASS. -/
  | jtagExtest
  /-- R509: EXTEST_PULSE on AC-coupled pins, only in RESET. -/
  | jtagExtestPulse
  /-- R509: EXTEST_TRAIN on AC-coupled pins, only in RESET. -/
  | jtagExtestTrain
  /-- R36: A lost clock source returns; the CD_STATUS bits of the domains it feeds are set again and the function it served resumes. -/
  | clockReturn (c : ClockSource)
  /-- R419: The Yethal link leaves its aligned PCS state, which raises YETHAL_DOWN at the next boundary. -/
  | yethalAlignmentLoss
  /-- R423: The owner receives a non-owner's request for a BULK transfer of its Canopy state and names the tick-index-0 boundary for installation. -/
  | twinStateTransferRequest
  deriving DecidableEq, Repr

end Sys2Proof
end

