-- ==== Sys2Proof/Decode.lean ====
section
/-!
DEFINITION. The block decodes no words: a command is an event with its operands, and no row of the table of operations and
events gives bits.
-/

namespace Sys2Proof

/-- The command that a word spells by the bits of the table: none, since no row of the table gives bits.
(Log entry 1, DESIGN CHOICE) -/
def decodeTableWord (_nbits _w : Nat) : Option Instr := none

end Sys2Proof
end

