-- ==== Sys2Proof/Machine/Objects.lean ====
section
/-!
DEFINITION. The keys of the object dictionary: an object `index:sub` of the manual has the key
`index * 256 + sub`. One definition per row of the object tables of the manual (R33, R61, R84, R113, R146,
R164, R197, R224, R243, R268, R304, R327, R357, R382, R410, R441, R463, R485, R511); a row with a range of
sub-indices (or of indices) takes the instance number.
-/

namespace Sys2Proof.Machine.Obj

/-- `0x2100:01 MODE_CURRENT` (R33). -/
def modeCurrent : Nat := 0x210001

/-- `0x2100:02 MODE_PREVIOUS` (R33). -/
def modePrevious : Nat := 0x210002

/-- `0x2100:03 MODE_ENTRY_TICK` (R33). -/
def modeEntryTick : Nat := 0x210003

/-- `0x2100:04 MODE_REQUEST` (R33). -/
def modeRequest : Nat := 0x210004

/-- `0x2100:05 MODE_REQUEST_STATUS` (R33). -/
def modeRequestStatus : Nat := 0x210005

/-- `0x2100:06 WARMUP_MIN_S` (R33). -/
def warmupMinS : Nat := 0x210006

/-- `0x2100:07 MODE_TRANSITIONS` (R33). -/
def modeTransitions : Nat := 0x210007

/-- `0x2100:0A TICK_LENGTH_CYCLES` (R33). -/
def tickLengthCycles : Nat := 0x21000A

/-- `0x2100:0C MODE_REQ_REFUSED` (R33). -/
def modeReqRefused : Nat := 0x21000C

/-- `0x2101:00 CD_STATUS` (R33). -/
def cdStatus : Nat := 0x210100

/-- `0x2101:01 CD_LOST_STICKY` (R33). -/
def cdLostSticky : Nat := 0x210101

/-- `0x2101:02 CD_LOSS_COUNT` (R33). -/
def cdLossCount : Nat := 0x210102

/-- `0x2101:03 LO_RANGE_EXCEEDED` (R33). -/
def loRangeExceeded : Nat := 0x210103

/-- `0x2000:01 TICK_COUNT` (R61). -/
def tickCount : Nat := 0x200001

/-- `0x2000:02 TICK_INDEX` (R61). -/
def tickIndex : Nat := 0x200002

/-- `0x2000:03 TICK_COUNT_OFFSET` (R61). -/
def tickCountOffset : Nat := 0x200003

/-- `0x2000:04 TICK_SOURCE` (R61). -/
def tickSource : Nat := 0x200004

/-- `0x2000:05 TICK_REALIGNMENTS` (R61). -/
def tickRealignments : Nat := 0x200005

/-- `0x2000:06 TICK_XO_COUNT` (R61). -/
def tickXoCount : Nat := 0x200006

/-- `0x2200:01–04 WINDOW_END_W0–W3` (R61). -/
def windowEnd (n : Nat) : Nat := 0x220001 + n

/-- `0x2200:05 STROBE_SYNC_CYCLES` (R61). -/
def strobeSyncCycles : Nat := 0x220005

/-- `0x2200:06 SLACK_PLAN_PM` (R61). -/
def slackPlanPm : Nat := 0x220006

/-- `0x2200:07 SLACK_FLOOR_PM` (R61). -/
def slackFloorPm : Nat := 0x220007

/-- `0x2200:08 SLACK_EFFECTIVE_PM` (R61). -/
def slackEffectivePm : Nat := 0x220008

/-- `0x2200:09 SLACK_SHORTFALL` (R61). -/
def slackShortfall : Nat := 0x220009

/-- `0x2200:0A ENG_CYCLES_LAST_TICK` (R61). -/
def engCyclesLastTick : Nat := 0x22000A

/-- `0x2201:01–04 LOAD_W0–W3_PM` (R61). -/
def loadPm (n : Nat) : Nat := 0x220101 + n

/-- `0x2201:05 ADMIT_REFUSALS` (R61). -/
def admitRefusals : Nat := 0x220105

/-- `0x2201:06 ADMIT_LAST_WINDOW` (R61). -/
def admitLastWindow : Nat := 0x220106

/-- `0x2201:07 ADMIT_LAST_RESOURCE` (R61). -/
def admitLastResource : Nat := 0x220107

/-- `0x2201:08 ADMIT_LAST_DEFICIT` (R61). -/
def admitLastDeficit : Nat := 0x220108

/-- `0x2202:01–04 OVERRUN_W0–W3` (R61). (Log entry 19, DEDUCED) -/
def overrun (n : Nat) : Nat := 0x220201 + n

/-- `0x2202:05 OVERRUN_ITEMS_DROPPED` (R61). -/
def overrunItemsDropped : Nat := 0x220205

/-- `0x2202:06 OVERRUN_LAST_TICK` (R61). -/
def overrunLastTick : Nat := 0x220206

/-- `0x2202:07 CANOPY_COAST_TICKS` (R61). -/
def canopyCoastTicks : Nat := 0x220207

/-- `0x2202:08 PRE_SERVICE_DROPS` (R61). -/
def preServiceDrops : Nat := 0x220208

/-- `0x2202:09 INTAKE_CAP_DROPS` (R61). -/
def intakeCapDrops : Nat := 0x220209

/-- `0x2202:0A TX_LATE_DROPS` (R61). -/
def txLateDrops : Nat := 0x22020A

/-- `0x2202:0B BATCH_DEFERRALS` (R61). -/
def batchDeferrals : Nat := 0x22020B

/-- `0x2203:01 CAP_NTS` (R61). -/
def capNts : Nat := 0x220301

/-- `0x2203:02 CAP_NTP` (R61). -/
def capNtp : Nat := 0x220302

/-- `0x2203:03 CAP_PTP_EVENT` (R61). -/
def capPtpEvent : Nat := 0x220303

/-- `0x2203:04 CAP_PTP_GENERAL` (R61). -/
def capPtpGeneral : Nat := 0x220304

/-- `0x2203:05 CAP_ESMC` (R61). -/
def capEsmc : Nat := 0x220305

/-- `0x2203:06 MIRROR_ALLOWANCE` (R61). -/
def mirrorAllowance : Nat := 0x220306

/-- `0x2204:01–10 GROVE_STATE` (R61). -/
def groveState (n : Nat) : Nat := 0x220401 + n

/-- `0x2205:01–10 GROVE_ACTIVE_ENGINES` (R61). -/
def groveActiveEngines (n : Nat) : Nat := 0x220501 + n

/-- `0x2206:01 COST_ENGINE_FIXED` (R61). -/
def costEngineFixed : Nat := 0x220601

/-- `0x2206:02 COST_NTS_ENG` (R61). -/
def costNtsEng : Nat := 0x220602

/-- `0x2206:03 COST_NTS_AES` (R61). -/
def costNtsAes : Nat := 0x220603

/-- `0x2206:04 COST_NTP_ENG` (R61). -/
def costNtpEng : Nat := 0x220604

/-- `0x2206:05 COST_PTP_EVENT_ENG` (R61). -/
def costPtpEventEng : Nat := 0x220605

/-- `0x2206:06 COST_PTP_EVENT_AES` (R61). -/
def costPtpEventAes : Nat := 0x220606

/-- `0x2206:07 COST_PTP_GENERAL_ENG` (R61). -/
def costPtpGeneralEng : Nat := 0x220607

/-- `0x2206:08 COST_ESMC_ENG` (R61). -/
def costEsmcEng : Nat := 0x220608

/-- `0x2206:09 COST_HANDOFF_W0` (R61). -/
def costHandoffW0 : Nat := 0x220609

/-- `0x2206:0A COST_CHECKPOINT_W3` (R61). -/
def costCheckpointW3 : Nat := 0x22060A

/-- `0x2206:0B COST_CANOPY_W1` (R61). -/
def costCanopyW1 : Nat := 0x22060B

/-- `0x2206:0C COST_FORESTER_W1` (R61). -/
def costForesterW1 : Nat := 0x22060C

/-- `0x2206:0D COST_FORESTER_W3` (R61). -/
def costForesterW3 : Nat := 0x22060D

/-- `0x2206:0E COST_VAULT_W3` (R61). -/
def costVaultW3 : Nat := 0x22060E

/-- `0x2207:01 SERVICE_ALLOWED` (R61). -/
def serviceAllowed : Nat := 0x220701

/-- `0x2207:02 SERVICE_ALLOWED_TICK` (R61). -/
def serviceAllowedTick : Nat := 0x220702

/-- `0x2300:01 TIME_NOW` (R84). -/
def timeNow : Nat := 0x230001

/-- `0x2300:02 BOUND_NOW` (R84). -/
def boundNow : Nat := 0x230002

/-- `0x2300:03 ANCHOR_GEN` (R84). -/
def anchorGen : Nat := 0x230003

/-- `0x2300:04 ANCHOR_VALID_FROM` (R84). -/
def anchorValidFrom : Nat := 0x230004

/-- `0x2300:05 ANCHOR_TICK` (R84). -/
def anchorTick : Nat := 0x230005

/-- `0x2300:06 ANCHOR_CNS` (R84). -/
def anchorCns : Nat := 0x230006

/-- `0x2300:07 PREV_ANCHOR_TICK` (R84). -/
def prevAnchorTick : Nat := 0x230007

/-- `0x2300:08 PREV_ANCHOR_CNS` (R84). -/
def prevAnchorCns : Nat := 0x230008

/-- `0x2300:09 ANCHOR_RECORD` (R84). -/
def anchorRecord : Nat := 0x230009

/-- `0x2300:0A TIME_INPUT_MALFORMED` (R84). -/
def timeInputMalformed : Nat := 0x23000A

/-- `0x2300:0B TIMESCALE_SET` (R84). -/
def timescaleSet : Nat := 0x23000B

/-- `0x2310:01 TAI_UTC_OFFSET` (R84). -/
def taiUtcOffset : Nat := 0x231001

/-- `0x2310:02 LEAP_PENDING` (R84). -/
def leapPending : Nat := 0x231002

/-- `0x2310:03 LEAP_PENDING_E` (R84). -/
def leapPendingE : Nat := 0x231003

/-- `0x2310:04 LEAP_SOURCE` (R84). -/
def leapSource : Nat := 0x231004

/-- `0x2310:05 LEAP_CONFLICTS` (R84). -/
def leapConflicts : Nat := 0x231005

/-- `0x2310:06 LEAP_ENTRY_WRITE` (R84). -/
def leapEntryWrite : Nat := 0x231006

/-- `0x2310:07 LEAP_TABLE_COUNT` (R84). -/
def leapTableCount : Nat := 0x231007

/-- `0x2311:01–40 LEAP_TABLE` (R84). -/
def leapTable (n : Nat) : Nat := 0x231101 + n

/-- `0x2312:01 SMEAR_ENABLE` (R84). -/
def smearEnable : Nat := 0x231201

/-- `0x2312:02 SMEAR_LENGTH_S` (R84). -/
def smearLengthS : Nat := 0x231202

/-- `0x2312:03 SMEAR_ACTIVE` (R84). -/
def smearActive : Nat := 0x231203

/-- `0x5000:01–40 TP_ROLE` (R113). -/
def tpRole (n : Nat) : Nat := 0x500001 + n

/-- `0x5001:01–40 TP_EDGE_SELECT` (R113). -/
def tpEdgeSelect (n : Nat) : Nat := 0x500101 + n

/-- `0x5002:01–40 TP_NOMINAL_PERIOD` (R113). -/
def tpNominalPeriod (n : Nat) : Nat := 0x500201 + n

/-- `0x5003:01–40 TP_STAMP_DIVIDER` (R113). -/
def tpStampDivider (n : Nat) : Nat := 0x500301 + n

/-- `0x5004:01–40 TP_GATE_LOG2` (R113). -/
def tpGateLog2 (n : Nat) : Nat := 0x500401 + n

/-- `0x5005:01–40 TP_REG_ENABLE` (R113). -/
def tpRegEnable (n : Nat) : Nat := 0x500501 + n

/-- `0x5006:01–40 TP_RAW_MODE` (R113). -/
def tpRawMode (n : Nat) : Nat := 0x500601 + n

/-- `0x5007:01–40 TP_RAW_K` (R113). -/
def tpRawK (n : Nat) : Nat := 0x500701 + n

/-- `0x5008:01–40 TP_RAW_DIVIDER` (R113). -/
def tpRawDivider (n : Nat) : Nat := 0x500801 + n

/-- `0x5009:01–40 TP_RAW_RATE` (R113). -/
def tpRawRate (n : Nat) : Nat := 0x500901 + n

/-- `0x500A:01–40 TP_RECAL_INTERVAL_S` (R113). -/
def tpRecalIntervalS (n : Nat) : Nat := 0x500A01 + n

/-- `0x5010:01–80 STAMPER_STATE` (R113). -/
def stamperState (n : Nat) : Nat := 0x501001 + n

/-- `0x5011:01–80 STAMPER_CAL_ID` (R113). -/
def stamperCalId (n : Nat) : Nat := 0x501101 + n

/-- `0x5012:01–80 STAMPER_DLL_CODE` (R113). -/
def stamperDllCode (n : Nat) : Nat := 0x501201 + n

/-- `0x5013:01–40 TP_SKEW_B` (R113). -/
def tpSkewB (n : Nat) : Nat := 0x501301 + n

/-- `0x5014:01–40 TP_LAST` (R113). -/
def tpLast (n : Nat) : Nat := 0x501401 + n

/-- `0x5015:01–40 TP_RAW_CHARGE` (R113). -/
def tpRawCharge (n : Nat) : Nat := 0x501501 + n

/-- `0x5020:01–40 TP_EDGES` (R113). -/
def tpEdges (n : Nat) : Nat := 0x502001 + n

/-- `0x5021:01–40 TP_EDGES_WRAPPED` (R113). -/
def tpEdgesWrapped (n : Nat) : Nat := 0x502101 + n

/-- `0x5022:01–40 TP_MISSED_STAMPS` (R113). -/
def tpMissedStamps (n : Nat) : Nat := 0x502201 + n

/-- `0x5023:01–40 TP_GAP_MARKERS` (R113). -/
def tpGapMarkers (n : Nat) : Nat := 0x502301 + n

/-- `0x5024:01–40 TP_RAW_ESCAPES` (R113). -/
def tpRawEscapes (n : Nat) : Nat := 0x502401 + n

/-- `0x5025:01–40 TP_RAW_CAP_DROPS` (R113). -/
def tpRawCapDrops (n : Nat) : Nat := 0x502501 + n

/-- `0x5026:01–40 TP_REG_INVALID` (R113). -/
def tpRegInvalid (n : Nat) : Nat := 0x502601 + n

/-- `0x5027:01–80 STAMPER_RECALS` (R113). -/
def stamperRecals (n : Nat) : Nat := 0x502701 + n

/-- `0x5028:01–80 STAMPER_FAULTS` (R113). -/
def stamperFaults (n : Nat) : Nat := 0x502801 + n

/-- `0x5029:01–40 TP_RANGE_EXCEEDED` (R113). -/
def tpRangeExceeded (n : Nat) : Nat := 0x502901 + n

/-- `0x502A:01–80 STAMPER_TABLE_REJECTS` (R113). -/
def stamperTableRejects (n : Nat) : Nat := 0x502A01 + n

/-- `0x4000:01 GLADE_ENABLE` (R146). -/
def gladeEnable : Nat := 0x400001

/-- `0x4000:02 GLADE_STATE` (R146). -/
def gladeState : Nat := 0x400002

/-- `0x4000:03 GLADE_EPOCH_COUNT` (R146). -/
def gladeEpochCount : Nat := 0x400003

/-- `0x4000:04 FE_SETTLE_MS` (R146). -/
def feSettleMs : Nat := 0x400004

/-- `0x4000:05 SYSREF_MODE` (R146). -/
def sysrefMode : Nat := 0x400005

/-- `0x4000:06 SAMPLE_DIVIDER` (R146). -/
def sampleDivider : Nat := 0x400006

/-- `0x4000:07 LANE_RATE_MBPS` (R146). -/
def laneRateMbps : Nat := 0x400007

/-- `0x4001:01–04 LINK_BANDS` (R146). -/
def linkBands (n : Nat) : Nat := 0x400101 + n

/-- `0x4002:01–04 LINK_LANES` (R146). -/
def linkLanes (n : Nat) : Nat := 0x400201 + n

/-- `0x4003:01–04 LINK_STATE` (R146). -/
def linkState (n : Nat) : Nat := 0x400301 + n

/-- `0x4004:01–04 LINK_LATENCY` (R146). -/
def linkLatency (n : Nat) : Nat := 0x400401 + n

/-- `0x4005:01–04 LINK_LAT_REF` (R146). -/
def linkLatRef (n : Nat) : Nat := 0x400501 + n

/-- `0x4006:01–10 LANE_MAP` (R146). -/
def laneMap (n : Nat) : Nat := 0x400601 + n

/-- `0x4007:01–04 LINK_RESTARTS` (R146). -/
def linkRestarts (n : Nat) : Nat := 0x400701 + n

/-- `0x4008:01–04 LINK_CRC_ERRORS` (R146). -/
def linkCrcErrors (n : Nat) : Nat := 0x400801 + n

/-- `0x4009:01–04 LINK_SYSREF_ERRORS` (R146). -/
def linkSysrefErrors (n : Nat) : Nat := 0x400901 + n

/-- `0x400A:01–04 LINK_LAT_CHANGES` (R146). -/
def linkLatChanges (n : Nat) : Nat := 0x400A01 + n

/-- `0x4010:01–0C STREAM_CENTRE` (R146). -/
def streamCentre (n : Nat) : Nat := 0x401001 + n

/-- `0x4011:01–0C FE_LATENCY_PS` (R146). -/
def feLatencyPs (n : Nat) : Nat := 0x401101 + n

/-- `0x4012:01–0C STREAM_RMS` (R146). -/
def streamRms (n : Nat) : Nat := 0x401201 + n

/-- `0x4013:01–0C STREAM_CLIPPED` (R146). -/
def streamClipped (n : Nat) : Nat := 0x401301 + n

/-- `0x4020:01–0C BLANK_K` (R146). -/
def blankK (n : Nat) : Nat := 0x402001 + n

/-- `0x4021:01–0C BLANK_PRE` (R146). -/
def blankPre (n : Nat) : Nat := 0x402101 + n

/-- `0x4022:01–0C BLANK_POST` (R146). -/
def blankPost (n : Nat) : Nat := 0x402201 + n

/-- `0x4023:01–0C BLANK_DUTY` (R146). -/
def blankDuty (n : Nat) : Nat := 0x402301 + n

/-- `0x4024:01–0C BLANK_SAMPLES` (R146). -/
def blankSamples (n : Nat) : Nat := 0x402401 + n

/-- `0x4025:01–0C BLANK_DUTY_MAX` (R146). -/
def blankDutyMax (n : Nat) : Nat := 0x402501 + n

/-- `0x4026:01–0C JAMMED_EPOCHS` (R146). -/
def jammedEpochs (n : Nat) : Nat := 0x402601 + n

/-- `0x4030:01–0C NOTCH_ENABLE` (R146). -/
def notchEnable (n : Nat) : Nat := 0x403001 + n

/-- `0x4031:01–0C NOTCH_DETECT_DB` (R146). -/
def notchDetectDb (n : Nat) : Nat := 0x403101 + n

/-- `0x4032:01–0C NOTCH_R` (R146). -/
def notchR (n : Nat) : Nat := 0x403201 + n

/-- `0x4033:01–0C NOTCH_ACTIVE` (R146). -/
def notchActive (n : Nat) : Nat := 0x403301 + n

/-- `0x4034:01–0C NOTCH_FREQ` (R146). -/
def notchFreq (n : Nat) : Nat := 0x403401 + n

/-- `0x4035:01–0C NOTCH_OVERFLOWS` (R146). -/
def notchOverflows (n : Nat) : Nat := 0x403501 + n

/-- `0x4036:01–0C NOTCH_ASSIGNS` (R146). -/
def notchAssigns (n : Nat) : Nat := 0x403601 + n

/-- `0x4040:01–0C REQ_MODE` (R146). -/
def reqMode (n : Nat) : Nat := 0x404001 + n

/-- `0x4041:01–0C REQ_RATIO` (R146). -/
def reqRatio (n : Nat) : Nat := 0x404101 + n

/-- `0x4042:01–0C REQ_FIXED_STEP` (R146). -/
def reqFixedStep (n : Nat) : Nat := 0x404201 + n

/-- `0x4043:01–0C REQ_STEP` (R146). -/
def reqStep (n : Nat) : Nat := 0x404301 + n

/-- `0x4050:01 ACQ_K` (R146). -/
def acqK : Nat := 0x405001

/-- `0x4050:02 ACQ_BIN_HZ` (R146). -/
def acqBinHz : Nat := 0x405002

/-- `0x4050:03 ACQ_THRESH` (R146). -/
def acqThresh : Nat := 0x405003

/-- `0x4050:04 ACQ_WINDOW_HZ` (R146). -/
def acqWindowHz : Nat := 0x405004

/-- `0x4050:05 ACQ_SEARCHES` (R146). -/
def acqSearches : Nat := 0x405005

/-- `0x4050:06 ACQ_DETECTIONS` (R146). -/
def acqDetections : Nat := 0x405006

/-- `0x4050:07 ACQ_FALSE_ALARMS` (R146). -/
def acqFalseAlarms : Nat := 0x405007

/-- `0x4060:xx SIGNAL_ENABLE` (R146). -/
def signalEnable (id : Nat) : Nat := 0x406000 + id

/-- `0x4061:xx TAP_D1` (R146). -/
def tapD1 (id : Nat) : Nat := 0x406100 + id

/-- `0x4062:xx TAP_D2` (R146). -/
def tapD2 (id : Nat) : Nat := 0x406200 + id

/-- `0x4063:xx TAP_DM` (R146). -/
def tapDm (id : Nat) : Nat := 0x406300 + id

/-- `0x4064:xx PLL_BW` (R146). -/
def pllBw (id : Nat) : Nat := 0x406400 + id

/-- `0x4065:xx DLL_BW` (R146). -/
def dllBw (id : Nat) : Nat := 0x406500 + id

/-- `0x4066:xx FLL_BW` (R146). -/
def fllBw (id : Nat) : Nat := 0x406600 + id

/-- `0x4067:xx T_COH_MS` (R146). -/
def tCohMs (id : Nat) : Nat := 0x406700 + id

/-- `0x4068:xx DLL_DISC` (R146). -/
def dllDisc (id : Nat) : Nat := 0x406800 + id

/-- `0x4069:xx MP_LIMIT` (R146). -/
def mpLimit (id : Nat) : Nat := 0x406900 + id

/-- `0x406A:xx NAV_CHECK_FAIL` (R146). -/
def navCheckFail (id : Nat) : Nat := 0x406A00 + id

/-- `0x406B:xx NAV_DELIVERED` (R146). -/
def navDelivered (id : Nat) : Nat := 0x406B00 + id

/-- `0x406C:xx NAV_UNCHECKED` (R146). -/
def navUnchecked (id : Nat) : Nat := 0x406C00 + id

/-- `0x406D:xx CN0_LOSS` (R146). -/
def cn0Loss (id : Nat) : Nat := 0x406D00 + id

/-- `0x4070:00–FF CH_ASSIGN` (R146). -/
def chAssign (n : Nat) : Nat := 0x407000 + n

/-- `0x4071:00–FF CH_STATE` (R146). -/
def chState (n : Nat) : Nat := 0x407100 + n

/-- `0x4072:00–FF CH_SPARE_OFFSET` (R146). -/
def chSpareOffset (n : Nat) : Nat := 0x407200 + n

/-- `0x4073:00–FF CH_TAP_SPARED` (R146). -/
def chTapSpared (n : Nat) : Nat := 0x407300 + n

/-- `0x4074:00–FF CH_LOSSES` (R146). -/
def chLosses (n : Nat) : Nat := 0x407400 + n

/-- `0x4075:00–FF CH_SLIPS` (R146). -/
def chSlips (n : Nat) : Nat := 0x407500 + n

/-- `0x4078:01 PLAN_MODE` (R146). -/
def planMode : Nat := 0x407801

/-- `0x4078:02 PLAN_MIN_ANT_SV` (R146). -/
def planMinAntSv : Nat := 0x407802

/-- `0x4079:00 NAV_RING_OVERWRITES` (R146). -/
def navRingOverwrites : Nat := 0x407900

/-- `0x4100:01 SOL_STATE` (R164). -/
def solState : Nat := 0x410001

/-- `0x4100:02 SOL_REF_SYSTEM` (R164). -/
def solRefSystem : Nat := 0x410002

/-- `0x4100:03 TIME_REALISATION` (R164). -/
def timeRealisation : Nat := 0x410003

/-- `0x4100:04 REALISATION_UNC_PS` (R164). -/
def realisationUncPs : Nat := 0x410004

/-- `0x4100:05 SOL_ELEV_MASK` (R164). -/
def solElevMask : Nat := 0x410005

/-- `0x4100:06 SOL_SMOOTH_S` (R164). -/
def solSmoothS : Nat := 0x410006

/-- `0x4100:07 SOL_ISB_MODE` (R164). -/
def solIsbMode : Nat := 0x410007

/-- `0x4100:08 SOL_SIGMA0_MM` (R164). -/
def solSigma0Mm : Nat := 0x410008

/-- `0x4100:09 SOL_LAST` (R164). -/
def solLast : Nat := 0x410009

/-- `0x4100:0A SOL_EPOCHS_VALID` (R164). -/
def solEpochsValid : Nat := 0x41000A

/-- `0x4100:0B SOL_EPOCHS_INVALID` (R164). -/
def solEpochsInvalid : Nat := 0x41000B

/-- `0x4100:0C SOL_CAL_ID` (R164). -/
def solCalId : Nat := 0x41000C

/-- `0x4110:01–04 CABLE_DELAY_PS` (R164). -/
def cableDelayPs (n : Nat) : Nat := 0x411001 + n

/-- `0x4111:01–04 CABLE_UNC_PS` (R164). -/
def cableUncPs (n : Nat) : Nat := 0x411101 + n

/-- `0x4112:01–0C FE_LATENCY_UNC_PS` (R164). -/
def feLatencyUncPs (n : Nat) : Nat := 0x411201 + n

/-- `0x4113:01–0C BAND_BIAS_PS` (R164). -/
def bandBiasPs (n : Nat) : Nat := 0x411301 + n

/-- `0x4114:01–0C BAND_BIAS_UNC_PS` (R164). -/
def bandBiasUncPs (n : Nat) : Nat := 0x411401 + n

/-- `0x4115:xx SIGNAL_BIAS_PS` (R164). -/
def signalBiasPs (id : Nat) : Nat := 0x411500 + id

/-- `0x4116:xx SIGNAL_BIAS_UNC_PS` (R164). -/
def signalBiasUncPs (id : Nat) : Nat := 0x411600 + id

/-- `0x4117:01–04 SYSTEM_BIAS_PS` (R164). -/
def systemBiasPs (n : Nat) : Nat := 0x411701 + n

/-- `0x4118:01–04 SYSTEM_BIAS_UNC_PS` (R164). -/
def systemBiasUncPs (n : Nat) : Nat := 0x411801 + n

/-- `0x4119:01–04 SYSTEM_BIAS_EST` (R164). -/
def systemBiasEst (n : Nat) : Nat := 0x411901 + n

/-- `0x411A:00 GLO_IFB` (R164). -/
def gloIfb : Nat := 0x411A00

/-- `0x4120:01–04 POS_ECEF` (R164). -/
def posEcef (n : Nat) : Nat := 0x412001 + n

/-- `0x4121:00 POS_MODE` (R164). -/
def posMode : Nat := 0x412100

/-- `0x4122:01 SURVEY_MIN_S` (R164). -/
def surveyMinS : Nat := 0x412201

/-- `0x4122:02 SURVEY_SIGMA_MM` (R164). -/
def surveySigmaMm : Nat := 0x412202

/-- `0x4122:03 SURVEY_ELAPSED_S` (R164). -/
def surveyElapsedS : Nat := 0x412203

/-- `0x4122:04 SURVEY_FAILS` (R164). -/
def surveyFails : Nat := 0x412204

/-- `0x4122:05 POS_TOL_MM` (R164). -/
def posTolMm : Nat := 0x412205

/-- `0x4122:06 POS_SUSPECT_EVENTS` (R164). -/
def posSuspectEvents : Nat := 0x412206

/-- `0x4123:01–03 BASELINE` (R164). -/
def baseline (n : Nat) : Nat := 0x412301 + n

/-- `0x4130:01 RAIM_Z` (R164). -/
def raimZ : Nat := 0x413001

/-- `0x4130:02 RAIM_MAX_EXCLUDE` (R164). -/
def raimMaxExclude : Nat := 0x413002

/-- `0x4130:03 RAIM_EXCLUSIONS` (R164). -/
def raimExclusions : Nat := 0x413003

/-- `0x4130:04 RAIM_FAIL_EPOCHS` (R164). -/
def raimFailEpochs : Nat := 0x413004

/-- `0x4140:01 SPOOF_MODE` (R164). -/
def spoofMode : Nat := 0x414001

/-- `0x4140:02 SPOOF_RAISE` (R164). -/
def spoofRaise : Nat := 0x414002

/-- `0x4140:03 SPOOF_CLEAR` (R164). -/
def spoofClear : Nat := 0x414003

/-- `0x4140:04 SPOOF_PERSIST_S` (R164). -/
def spoofPersistS : Nat := 0x414004

/-- `0x4140:05 SPOOF_CLEAR_S` (R164). -/
def spoofClearS : Nat := 0x414005

/-- `0x4140:06 SPOOF_MIN_TERMS` (R164). -/
def spoofMinTerms : Nat := 0x414006

/-- `0x4140:07 SPOOF_UNAVAIL_S` (R164). -/
def spoofUnavailS : Nat := 0x414007

/-- `0x4140:08 SPOOF_METRIC` (R164). -/
def spoofMetric : Nat := 0x414008

/-- `0x4140:09 SPOOF_FLAG` (R164). -/
def spoofFlag : Nat := 0x414009

/-- `0x4140:0A SPOOF_DETECTIONS` (R164). -/
def spoofDetections : Nat := 0x41400A

/-- `0x4140:0B SPOOF_UNAVAIL_SECONDS` (R164). -/
def spoofUnavailSeconds : Nat := 0x41400B

/-- `0x4150:01 WEEK_BUILD` (R164). -/
def weekBuild : Nat := 0x415001

/-- `0x4150:02 WEEK_RESOLVED` (R164). -/
def weekResolved : Nat := 0x415002

/-- `0x4150:03 WEEK_SOURCE` (R164). -/
def weekSource : Nat := 0x415003

/-- `0x4150:04 WEEK_CONFLICTS` (R164). -/
def weekConflicts : Nat := 0x415004

/-- `0x2110:01–06 APLL_STATE` (R197). -/
def apllState (n : Nat) : Nat := 0x211001 + n

/-- `0x2110:07–0C APLL_BYPASS_COUNT` (R197). -/
def apllBypassCount (n : Nat) : Nat := 0x211007 + n

/-- `0x2111:01–04 APLLT_PRIORITY` (R197). -/
def aplltPriority (n : Nat) : Nat := 0x211101 + n

/-- `0x2111:05 APLLT_REVERTIVE` (R197). -/
def aplltRevertive : Nat := 0x211105

/-- `0x2111:06 APLLT_FORCE` (R197). -/
def aplltForce : Nat := 0x211106

/-- `0x2111:07 APLLT_SOURCE` (R197). -/
def aplltSource : Nat := 0x211107

/-- `0x2112:01 SSC_MODE` (R197). -/
def sscMode : Nat := 0x211201

/-- `0x2112:02 SSC_DEPTH` (R197). -/
def sscDepth : Nat := 0x211202

/-- `0x3000:01 SEL_T_CURRENT` (R197). -/
def selTCurrent : Nat := 0x300001

/-- `0x3000:02 SEL_T_PREVIOUS` (R197). -/
def selTPrevious : Nat := 0x300002

/-- `0x3000:03 SEL_REVERTIVE` (R197). -/
def selRevertive : Nat := 0x300003

/-- `0x3000:04 SEL_SWITCHES` (R197). -/
def selSwitches : Nat := 0x300004

/-- `0x3000:05 REF_FIRST_S` (R197). -/
def refFirstS : Nat := 0x300005

/-- `0x3000:06 MONITOR_BASIS` (R197). -/
def monitorBasis : Nat := 0x300006

/-- `0x3000:07 SEL_FORCE` (R197). -/
def selForce : Nat := 0x300007

/-- `0x3000:08 REF_ACCEPT_S` (R197). -/
def refAcceptS : Nat := 0x300008

/-- `0x3000:09 REF_CONSIST_MARGIN_PS` (R197). -/
def refConsistMarginPs : Nat := 0x300009

/-- `0x3000:0A REF_CONFLICT` (R197). -/
def refConflict : Nat := 0x30000A

/-- `0x3001:xx REF_PRIORITY` (R197). -/
def refPriority (id : Nat) : Nat := 0x300100 + id

/-- `0x3002:xx REF_WTR_S` (R197). -/
def refWtrS (id : Nat) : Nat := 0x300200 + id

/-- `0x3003:xx REF_STATE` (R197). -/
def refState (id : Nat) : Nat := 0x300300 + id

/-- `0x3004:xx REF_BW` (R197). -/
def refBw (id : Nat) : Nat := 0x300400 + id

/-- `0x3005:xx REF_ACCEPT_LIMIT` (R197). -/
def refAcceptLimit (id : Nat) : Nat := 0x300500 + id

/-- `0x3006:xx REF_REJECT_LIMIT` (R197). -/
def refRejectLimit (id : Nat) : Nat := 0x300600 + id

/-- `0x3007:xx REF_FREQ_OFFSET` (R197). -/
def refFreqOffset (id : Nat) : Nat := 0x300700 + id

/-- `0x3008:xx REF_DISQUALIFICATIONS` (R197). -/
def refDisqualifications (id : Nat) : Nat := 0x300800 + id

/-- `0x3009:xx REF_WTR_REMAINING` (R197). -/
def refWtrRemaining (id : Nat) : Nat := 0x300900 + id

/-- `0x300A:xx REF_BINDING` (R197). -/
def refBinding (id : Nat) : Nat := 0x300A00 + id

/-- `0x300B:xx REF_DELAY_PS` (R197). -/
def refDelayPs (id : Nat) : Nat := 0x300B00 + id

/-- `0x300C:xx REF_CONSIST_FAILS` (R197). -/
def refConsistFails (id : Nat) : Nat := 0x300C00 + id

/-- `0x300D:xx REF_F_TYPE` (R197). -/
def refFType (id : Nat) : Nat := 0x300D00 + id

/-- `0x300E:xx REF_PPS_WINDOW_NS` (R197). -/
def refPpsWindowNs (id : Nat) : Nat := 0x300E00 + id

/-- `0x300F:xx REF_ABSENT_S` (R197). -/
def refAbsentS (id : Nat) : Nat := 0x300F00 + id

/-- `0x3020:01 STEP_PREDICTED` (R197). -/
def stepPredicted : Nat := 0x302001

/-- `0x3020:02 STEP_MEASURED` (R197). -/
def stepMeasured : Nat := 0x302002

/-- `0x3020:03 STEP_CHARGE_PS` (R197). -/
def stepChargePs : Nat := 0x302003

/-- `0x3020:04 STEP_COUNT` (R197). -/
def stepCount : Nat := 0x302004

/-- `0x3020:05 STEP_UNMEASURED` (R197). -/
def stepUnmeasured : Nat := 0x302005

/-- `0x3040:01 SYNCE_TX_SOURCE` (R197). -/
def synceTxSource : Nat := 0x304001

/-- `0x3040:02 SYNCE_SEL_CURRENT` (R197). -/
def synceSelCurrent : Nat := 0x304002

/-- `0x3040:03 SYNCE_QL_ENABLE` (R197). -/
def synceQlEnable : Nat := 0x304003

/-- `0x3080:01–04 EFC_ENABLE` (R197). -/
def efcEnable (n : Nat) : Nat := 0x308001 + n

/-- `0x3081:01–04 EFC_INIT_CODE` (R197). -/
def efcInitCode (n : Nat) : Nat := 0x308101 + n

/-- `0x3082:01–04 EFC_CENTRE` (R197). -/
def efcCentre (n : Nat) : Nat := 0x308201 + n

/-- `0x3083:01–04 EFC_GAIN` (R197). -/
def efcGain (n : Nat) : Nat := 0x308301 + n

/-- `0x3084:01–04 EFC_MIN, EFC_MAX` (R197). -/
def efcMinmax (n : Nat) : Nat := 0x308401 + n

/-- `0x3085:01–04 EFC_SLEW` (R197). -/
def efcSlew (n : Nat) : Nat := 0x308501 + n

/-- `0x3086:01–04 EFC_STATE` (R197). -/
def efcState (n : Nat) : Nat := 0x308601 + n

/-- `0x3087:01–04 EFC_LIMITED` (R197). -/
def efcLimited (n : Nat) : Nat := 0x308701 + n

/-- `0x3088:01–04 EFC_LIMIT_TICKS` (R197). -/
def efcLimitTicks (n : Nat) : Nat := 0x308801 + n

/-- `0x3089:01–04 EFC_CODE` (R197). -/
def efcCode (n : Nat) : Nat := 0x308901 + n

/-- `0x3090:01–04 DSTEER_CFG` (R197). -/
def dsteerCfg (n : Nat) : Nat := 0x309001 + n

/-- `0x3091:01–04 DSTEER_FAILS` (R197). -/
def dsteerFails (n : Nat) : Nat := 0x309101 + n

/-- `0x3092:01–04 DSTEER_STATE` (R197). -/
def dsteerState (n : Nat) : Nat := 0x309201 + n

/-- `0x5100:01–40 OUT_MODE` (R197). -/
def outMode (n : Nat) : Nat := 0x510001 + n

/-- `0x5101:01–40 OUT_SLEW_MAX` (R197). -/
def outSlewMax (n : Nat) : Nat := 0x510101 + n

/-- `0x5102:01–40 OUT_SLEW_ACCEL` (R197). -/
def outSlewAccel (n : Nat) : Nat := 0x510201 + n

/-- `0x5103:01–40 OUT_STEP_POLICY` (R197). -/
def outStepPolicy (n : Nat) : Nat := 0x510301 + n

/-- `0x5104:01–40 OUT_DELAY_PS` (R197). -/
def outDelayPs (n : Nat) : Nat := 0x510401 + n

/-- `0x5105:01–40 OUT_DELAY_UNC_PS` (R197). -/
def outDelayUncPs (n : Nat) : Nat := 0x510501 + n

/-- `0x5106:01–40 OUT_TOD_PAIR` (R197). -/
def outTodPair (n : Nat) : Nat := 0x510601 + n

/-- `0x5107:01–40 OUT_TOD_BAUD` (R197). -/
def outTodBaud (n : Nat) : Nat := 0x510701 + n

/-- `0x5108:01–40 OUT_PLACE_TOL_PS` (R197). -/
def outPlaceTolPs (n : Nat) : Nat := 0x510801 + n

/-- `0x5109:01–40 OUT_RAMP_PROFILE` (R197). -/
def outRampProfile (n : Nat) : Nat := 0x510901 + n

/-- `0x510A:01–40 OUT_UNVERIFIED` (R197). -/
def outUnverified (n : Nat) : Nat := 0x510A01 + n

/-- `0x510B:01–40 OUT_PLACE_FAULTS` (R197). -/
def outPlaceFaults (n : Nat) : Nat := 0x510B01 + n

/-- `0x510C:01–40 OUT_RAMP_OFFSET` (R197). -/
def outRampOffset (n : Nat) : Nat := 0x510C01 + n

/-- `0x510D:01–40 OUT_RAMP_ACTIVE` (R197). -/
def outRampActive (n : Nat) : Nat := 0x510D01 + n

/-- `0x510E:01–40 OUT_PERIOD` (R197). -/
def outPeriod (n : Nat) : Nat := 0x510E01 + n

/-- `0x510F:01–40 OUT_PHASE_OFFSET` (R197). -/
def outPhaseOffset (n : Nat) : Nat := 0x510F01 + n

/-- `0x5110:01–40 OUT_HIGH_TIME` (R197). -/
def outHighTime (n : Nat) : Nat := 0x511001 + n

/-- `0x3100:01–10 ENS_MEMBER_CFG` (R224). -/
def ensMemberCfg (n : Nat) : Nat := 0x310001 + n

/-- `0x3101:01–10 ENS_MEMBER_ENV_Y` (R224). -/
def ensMemberEnvY (n : Nat) : Nat := 0x310101 + n

/-- `0x3102:01–10 ENS_STEER_POLICY` (R224). -/
def ensSteerPolicy (n : Nat) : Nat := 0x310201 + n

/-- `0x3103:01–10 ENS_STEER_TAU_S` (R224). -/
def ensSteerTauS (n : Nat) : Nat := 0x310301 + n

/-- `0x3104:01–10 ENS_MEMBER_STATE` (R224). -/
def ensMemberState (n : Nat) : Nat := 0x310401 + n

/-- `0x3105:01–10 ENS_MEMBER_WEIGHT` (R224). -/
def ensMemberWeight (n : Nat) : Nat := 0x310501 + n

/-- `0x3106:01–10 ENS_MEMBER_PHASE` (R224). -/
def ensMemberPhase (n : Nat) : Nat := 0x310601 + n

/-- `0x3107:01–10 ENS_MEMBER_FREQ` (R224). -/
def ensMemberFreq (n : Nat) : Nat := 0x310701 + n

/-- `0x3108:01–10 ENS_MEMBER_DRIFT` (R224). -/
def ensMemberDrift (n : Nat) : Nat := 0x310801 + n

/-- `0x3109:01–10 ENS_MEMBER_NIS` (R224). -/
def ensMemberNis (n : Nat) : Nat := 0x310901 + n

/-- `0x310A:01–10 ENS_MEMBER_EJECTIONS` (R224). -/
def ensMemberEjections (n : Nat) : Nat := 0x310A01 + n

/-- `0x310B:01–10 ENS_MEMBER_ADMIT_ELAPSED` (R224). -/
def ensMemberAdmitElapsed (n : Nat) : Nat := 0x310B01 + n

/-- `0x310C:01–10 ENS_MEMBER_MISSED` (R224). -/
def ensMemberMissed (n : Nat) : Nat := 0x310C01 + n

/-- `0x310D:01–10 ENS_MEMBER_STEER_Y` (R224). -/
def ensMemberSteerY (n : Nat) : Nat := 0x310D01 + n

/-- `0x3110:01 ENS_ACTIVE_COUNT` (R224). -/
def ensActiveCount : Nat := 0x311001

/-- `0x3110:02 ENS_WEIGHT_TAU_S` (R224). -/
def ensWeightTauS : Nat := 0x311002

/-- `0x3110:03 ENS_WEIGHT_MAX` (R224). -/
def ensWeightMax : Nat := 0x311003

/-- `0x3110:04 ENS_ADMIT_S` (R224). -/
def ensAdmitS : Nat := 0x311004

/-- `0x3110:05 ENS_ADMIT_FREQ_UNC` (R224). -/
def ensAdmitFreqUnc : Nat := 0x311005

/-- `0x3110:06 ENS_EJECT_NIS` (R224). -/
def ensEjectNis : Nat := 0x311006

/-- `0x3110:07 ENS_EJECT_COUNT` (R224). -/
def ensEjectCount : Nat := 0x311007

/-- `0x3110:08 ENS_HOLD_BW` (R224). -/
def ensHoldBw : Nat := 0x311008

/-- `0x3110:09 ENS_HOLD_MAX_S` (R224). -/
def ensHoldMaxS : Nat := 0x311009

/-- `0x3110:0A ENS_MEAS_FLOOR_PS` (R224). -/
def ensMeasFloorPs : Nat := 0x31100A

/-- `0x3110:0B ENS_STEER_GAIN_UNC` (R224). -/
def ensSteerGainUnc : Nat := 0x31100B

/-- `0x3110:0C ENS_FREQ_UNC` (R224). -/
def ensFreqUnc : Nat := 0x31100C

/-- `0x3110:0D ENS_HOLD_ENTRY_TICK` (R224). -/
def ensHoldEntryTick : Nat := 0x31100D

/-- `0x3110:0E ENS_HOLD_BASE` (R224). -/
def ensHoldBase : Nat := 0x31100E

/-- `0x3110:0F ENS_HOLD_SEG_TICK` (R224). -/
def ensHoldSegTick : Nat := 0x31100F

/-- `0x3110:10 ENS_HOLD_ERROR` (R224). -/
def ensHoldError : Nat := 0x311010

/-- `0x3110:11 ENS_HOLD_EXCEEDED` (R224). -/
def ensHoldExceeded : Nat := 0x311011

/-- `0x3110:12 ENS_CONFLICT` (R224). -/
def ensConflict : Nat := 0x311012

/-- `0x3110:13 ENS_REWEIGHTS` (R224). -/
def ensReweights : Nat := 0x311013

/-- `0x3110:14 ENS_SKIPPED_EPOCHS` (R224). -/
def ensSkippedEpochs : Nat := 0x311014

/-- `0x3110:15 ENS_STATE_DIGEST` (R224). -/
def ensStateDigest : Nat := 0x311015

/-- `0x3110:16 ENS_MICROCODE_ID` (R224). -/
def ensMicrocodeId : Nat := 0x311016

/-- `0x3110:17 ENS_EPOCH` (R224). -/
def ensEpoch : Nat := 0x311017

/-- `0x3120:01 SERVO_ERROR` (R224). -/
def servoError : Nat := 0x312001

/-- `0x3120:02 SERVO_INTEGRATOR` (R224). -/
def servoIntegrator : Nat := 0x312002

/-- `0x3120:03 SERVO_RATE_Y` (R224). -/
def servoRateY : Nat := 0x312003

/-- `0x3120:04 SERVO_SLEW_MAX` (R224). -/
def servoSlewMax : Nat := 0x312004

/-- `0x3120:05 SERVO_CLAMP_TICKS` (R224). -/
def servoClampTicks : Nat := 0x312005

/-- `0x3120:06 COAST_INCREMENT` (R224). -/
def coastIncrement : Nat := 0x312006

/-- `0x3120:07 TIMESCALE_STEP` (R224). -/
def timescaleStep : Nat := 0x312007

/-- `0x3120:08 TIMESCALE_STEPS` (R224). -/
def timescaleSteps : Nat := 0x312008

/-- `0x3120:09 HOLD_SERVO_ERROR` (R224). -/
def holdServoError : Nat := 0x312009

/-- `0x3121:01–04 ENS_PLANE_MODEL` (R224). -/
def ensPlaneModel (n : Nat) : Nat := 0x312101 + n

/-- `0x3200:01 BOUND_K` (R243). -/
def boundK : Nat := 0x320001

/-- `0x3200:02 BOUND_SYS_PS` (R243). -/
def boundSysPs : Nat := 0x320002

/-- `0x3200:03 BOUND_RAND_PS` (R243). -/
def boundRandPs : Nat := 0x320003

/-- `0x3200:04 BOUND_SERVO_PS` (R243). -/
def boundServoPs : Nat := 0x320004

/-- `0x3200:05 BOUND_SOURCE` (R243). -/
def boundSource : Nat := 0x320005

/-- `0x3200:06 BOUND_CAL_ID` (R243). -/
def boundCalId : Nat := 0x320006

/-- `0x3200:08 BOUND_UNBOUNDED_TICKS` (R243). -/
def boundUnboundedTicks : Nat := 0x320008

/-- `0x3200:09 TIME_AND_BOUND` (R243). -/
def timeAndBound : Nat := 0x320009

/-- `0x3202:00 BOUND_PROVENANCE` (R243). -/
def boundProvenance : Nat := 0x320200

/-- `0x3210:xx REF_SYS_PS` (R243). -/
def refSysPs (id : Nat) : Nat := 0x321000 + id

/-- `0x3211:xx REF_BOUND_PS` (R243). -/
def refBoundPs (id : Nat) : Nat := 0x321100 + id

/-- `0x3212:xx REF_RAND_U` (R243). -/
def refRandU (id : Nat) : Nat := 0x321200 + id

/-- `0x3213:xx REF_TOD_INVALID` (R243). -/
def refTodInvalid (id : Nat) : Nat := 0x321300 + id

/-- `0x3220:01 CEILING_PTP` (R243). -/
def ceilingPtp : Nat := 0x322001

/-- `0x3220:02 CEILING_NTP` (R243). -/
def ceilingNtp : Nat := 0x322002

/-- `0x3220:03 CEILING_NTS` (R243). -/
def ceilingNts : Nat := 0x322003

/-- `0x3220:04 CEILING_OUT` (R243). -/
def ceilingOut : Nat := 0x322004

/-- `0x3221:01–03 CEILING_DROPS` (R243). -/
def ceilingDrops (n : Nat) : Nat := 0x322101 + n

/-- `0x3222:01–03 CEILING_OK` (R243). -/
def ceilingOk (n : Nat) : Nat := 0x322201 + n

/-- `0x3230:01 BOUND_TLV_ENABLE` (R243). -/
def boundTlvEnable : Nat := 0x323001

/-- `0x3230:02 BOUND_TLV_ORG_ID` (R243). -/
def boundTlvOrgId : Nat := 0x323002

/-- `0x3230:03 BOUND_EF_MODE` (R243). -/
def boundEfMode : Nat := 0x323003

/-- `0x3230:04 BOUND_EF_TYPE` (R243). -/
def boundEfType : Nat := 0x323004

/-- `0x3230:05 ANNOUNCE_ACC_FROM_BOUND` (R243). -/
def announceAccFromBound : Nat := 0x323005

/-- `0x6000:01–08 NP_MODE` (R268). -/
def npMode (n : Nat) : Nat := 0x600001 + n

/-- `0x6001:01–10 NP_FEC` (R268). -/
def npFec (n : Nat) : Nat := 0x600101 + n

/-- `0x6002:01 HEDDLE_HASH_SEED` (R268). -/
def heddleHashSeed : Nat := 0x600201

/-- `0x6002:02 NP_DEFAULT_RING` (R268). -/
def npDefaultRing : Nat := 0x600202

/-- `0x6002:03 HEDDLE_NO_RULE` (R268). -/
def heddleNoRule : Nat := 0x600203

/-- `0x6003:01–10 NP_LINK_STATE` (R268). -/
def npLinkState (n : Nat) : Nat := 0x600301 + n

/-- `0x6004:01–10 NP_MAX_FRAME` (R268). -/
def npMaxFrame (n : Nat) : Nat := 0x600401 + n

/-- `0x6005:01–10 NP_DELIVER_ERRORED` (R268). -/
def npDeliverErrored (n : Nat) : Nat := 0x600501 + n

/-- `0x6006:01–10 NP_ACCEPT_BCAST` (R268). -/
def npAcceptBcast (n : Nat) : Nat := 0x600601 + n

/-- `0x6007:01–10 NP_LANE_POLARITY` (R268). -/
def npLanePolarity (n : Nat) : Nat := 0x600701 + n

/-- `0x6010:01–10 NP_TX_DELAY_PS` (R268). -/
def npTxDelayPs (n : Nat) : Nat := 0x601001 + n

/-- `0x6011:01–10 NP_RX_DELAY_PS` (R268). -/
def npRxDelayPs (n : Nat) : Nat := 0x601101 + n

/-- `0x6012:01–10 NP_ASYM_BOUND_PS` (R268). -/
def npAsymBoundPs (n : Nat) : Nat := 0x601201 + n

/-- `0x6013:01–10 NP_TS_UNC_PS` (R268). -/
def npTsUncPs (n : Nat) : Nat := 0x601301 + n

/-- `0x6014:01–10 NP_DELAY_ASYM_PS` (R268). -/
def npDelayAsymPs (n : Nat) : Nat := 0x601401 + n

/-- `0x6015:01–10 NP_EXACT_TOL_PS` (R268). -/
def npExactTolPs (n : Nat) : Nat := 0x601501 + n

/-- `0x6020:01–10 NP_MAC_TABLE` (R268). -/
def npMacTable (n : Nat) : Nat := 0x602001 + n

/-- `0x6030:01–40 HEDDLE_RULE` (R268). -/
def heddleRule (n : Nat) : Nat := 0x603001 + n

/-- `0x6031:01–40 HEDDLE_RULE_HITS` (R268). -/
def heddleRuleHits (n : Nat) : Nat := 0x603101 + n

/-- `0x6040:01–08 RED_PAIR` (R268). -/
def redPair (n : Nat) : Nat := 0x604001 + n

/-- `0x6041:01–08 RED_SEQ` (R268). -/
def redSeq (n : Nat) : Nat := 0x604101 + n

/-- `0x6050:01–10 ESMC_ENABLE` (R268). -/
def esmcEnable (n : Nat) : Nat := 0x605001 + n

/-- `0x6051:01 ESMC_OPTION` (R268). -/
def esmcOption : Nat := 0x605101

/-- `0x6051:02 ESMC_SSM_TRACK` (R268). -/
def esmcSsmTrack : Nat := 0x605102

/-- `0x6051:03 ESMC_SSM_HOLD` (R268). -/
def esmcSsmHold : Nat := 0x605103

/-- `0x6051:04 ESMC_SSM_SYNCE_HOLD` (R268). -/
def esmcSsmSynceHold : Nat := 0x605104

/-- `0x6052:01–10 ESMC_RX_SSM` (R268). -/
def esmcRxSsm (n : Nat) : Nat := 0x605201 + n

/-- `0x6053:01–10 ESMC_RX_EXPIRED` (R268). -/
def esmcRxExpired (n : Nat) : Nat := 0x605301 + n

/-- `0x6060:01–10 NP_RX_FRAMES` (R268). -/
def npRxFrames (n : Nat) : Nat := 0x606001 + n

/-- `0x6061:01–10 NP_RX_OCTETS` (R268). -/
def npRxOctets (n : Nat) : Nat := 0x606101 + n

/-- `0x6062:01–10 NP_TX_FRAMES` (R268). -/
def npTxFrames (n : Nat) : Nat := 0x606201 + n

/-- `0x6063:01–10 NP_TX_OCTETS` (R268). -/
def npTxOctets (n : Nat) : Nat := 0x606301 + n

/-- `0x6064:01–10 NP_HW_WRAPPED` (R268). -/
def npHwWrapped (n : Nat) : Nat := 0x606401 + n

/-- `0x6065:01–10 NP_RX_ERR_FCS` (R268). -/
def npRxErrFcs (n : Nat) : Nat := 0x606501 + n

/-- `0x6066:01–10 NP_RX_ERR_SIZE` (R268). -/
def npRxErrSize (n : Nat) : Nat := 0x606601 + n

/-- `0x6067:01–10 NP_RX_ERR_PHY` (R268). -/
def npRxErrPhy (n : Nat) : Nat := 0x606701 + n

/-- `0x6068:01–10 NP_RX_ERR_L3L4` (R268). -/
def npRxErrL3l4 (n : Nat) : Nat := 0x606801 + n

/-- `0x6069:01–10 NP_RX_NO_MATCH` (R268). -/
def npRxNoMatch (n : Nat) : Nat := 0x606901 + n

/-- `0x606A:01–10 NP_RX_MODE_DROPS` (R268). -/
def npRxModeDrops (n : Nat) : Nat := 0x606A01 + n

/-- `0x606B:01–10 NP_RX_RING_DROPS` (R268). -/
def npRxRingDrops (n : Nat) : Nat := 0x606B01 + n

/-- `0x606C:01–10 NP_EXACT_REFUSED` (R268). -/
def npExactRefused (n : Nat) : Nat := 0x606C01 + n

/-- `0x606D:01–10 NP_EXACT_MISSED` (R268). -/
def npExactMissed (n : Nat) : Nat := 0x606D01 + n

/-- `0x606E:01–10 NP_LAUNCH_LATE_DROPS` (R268). -/
def npLaunchLateDrops (n : Nat) : Nat := 0x606E01 + n

/-- `0x606F:01–10 NP_LINK_DOWNS` (R268). -/
def npLinkDowns (n : Nat) : Nat := 0x606F01 + n

/-- `0x6070:01–10 NP_EXACT_VERIFY_FAULTS` (R268). -/
def npExactVerifyFaults (n : Nat) : Nat := 0x607001 + n

/-- `0x7000:01 SVC_ENABLE` (R304). -/
def svcEnable : Nat := 0x700001

/-- `0x7000:02 RATE_NTS` (R304). -/
def rateNts : Nat := 0x700002

/-- `0x7000:03 RATE_NTP` (R304). -/
def rateNtp : Nat := 0x700003

/-- `0x7000:04 RATE_PTP_EVENT` (R304). -/
def ratePtpEvent : Nat := 0x700004

/-- `0x7000:05 RATE_PTP_GENERAL` (R304). -/
def ratePtpGeneral : Nat := 0x700005

/-- `0x7000:06 RATE_ESMC` (R304). -/
def rateEsmc : Nat := 0x700006

/-- `0x7010:01 RL_SEED` (R304). -/
def rlSeed : Nat := 0x701001

/-- `0x7010:02 RL_PREFIX_V6` (R304). -/
def rlPrefixV6 : Nat := 0x701002

/-- `0x7011:01–03 RL_RATE` (R304). -/
def rlRate (n : Nat) : Nat := 0x701101 + n

/-- `0x7012:01–03 RL_BURST` (R304). -/
def rlBurst (n : Nat) : Nat := 0x701201 + n

/-- `0x7013:01–03 RL_DROPS` (R304). -/
def rlDrops (n : Nat) : Nat := 0x701301 + n

/-- `0x7020:01 NTP_RESPONSES` (R304). -/
def ntpResponses : Nat := 0x702001

/-- `0x7020:02 NTP_MALFORMED` (R304). -/
def ntpMalformed : Nat := 0x702002

/-- `0x7030:01 NTS_ROTATE_S` (R304). -/
def ntsRotateS : Nat := 0x703001

/-- `0x7030:02 NTS_KEY_ID_CURRENT` (R304). -/
def ntsKeyIdCurrent : Nat := 0x703002

/-- `0x7030:03 NTS_ROTATIONS` (R304). -/
def ntsRotations : Nat := 0x703003

/-- `0x7030:04 NTS_ROTATE_NOW` (R304). -/
def ntsRotateNow : Nat := 0x703004

/-- `0x7030:05 NTS_KEYS_RESTORED` (R304). -/
def ntsKeysRestored : Nat := 0x703005

/-- `0x7030:06 NTS_MINT_CHANNEL` (R304). -/
def ntsMintChannel : Nat := 0x703006

/-- `0x7030:07 NTS_COOKIES_MINTED` (R304). -/
def ntsCookiesMinted : Nat := 0x703007

/-- `0x7030:08 NTS_RESPONSES` (R304). -/
def ntsResponses : Nat := 0x703008

/-- `0x7030:09 NTS_MALFORMED` (R304). -/
def ntsMalformed : Nat := 0x703009

/-- `0x7031:01–03 NTS_NAKS` (R304). -/
def ntsNaks (n : Nat) : Nat := 0x703101 + n

/-- `0x7032:01–03 NTS_MASTER_SLOT` (R304). -/
def ntsMasterSlot (n : Nat) : Nat := 0x703201 + n

/-- `0x7040:01–10 PTP_INSTANCE_CFG` (R304). -/
def ptpInstanceCfg (n : Nat) : Nat := 0x704001 + n

/-- `0x7041:00 PTP_CLOCK_IDENTITY` (R304). -/
def ptpClockIdentity : Nat := 0x704100

/-- `0x7042:01–10 PTP_UNICAST_SESSIONS` (R304). -/
def ptpUnicastSessions (n : Nat) : Nat := 0x704201 + n

/-- `0x7043:01–04 PTP_GRANT_DENIED` (R304). -/
def ptpGrantDenied (n : Nat) : Nat := 0x704301 + n

/-- `0x7044:01–10 PTP_AUTH_FAIL` (R304). -/
def ptpAuthFail (n : Nat) : Nat := 0x704401 + n

/-- `0x7045:01–10 PTP_NO_GRANT_DROPS` (R304). -/
def ptpNoGrantDrops (n : Nat) : Nat := 0x704501 + n

/-- `0x7046:01–10 PTP_UNSUPPORTED` (R304). -/
def ptpUnsupported (n : Nat) : Nat := 0x704601 + n

/-- `0x7050:01–10 PTP_SA` (R304). -/
def ptpSa (n : Nat) : Nat := 0x705001 + n

/-- `0x7060:01–18 PTP_CLIENT_CFG` (R304). -/
def ptpClientCfg (n : Nat) : Nat := 0x706001 + n

/-- `0x7061:01–18 PTP_CLIENT_STATE` (R304). -/
def ptpClientState (n : Nat) : Nat := 0x706101 + n

/-- `0x7062:01–18 PTP_CLIENT_OFFSET` (R304). -/
def ptpClientOffset (n : Nat) : Nat := 0x706201 + n

/-- `0x7063:01–18 PTP_CLIENT_MPD` (R304). -/
def ptpClientMpd (n : Nat) : Nat := 0x706301 + n

/-- `0x7064:01–18 PTP_CLIENT_EXCHANGES` (R304). -/
def ptpClientExchanges (n : Nat) : Nat := 0x706401 + n

/-- `0x7070:01–10 SVC_IP_ADDR` (R304). -/
def svcIpAddr (n : Nat) : Nat := 0x707001 + n

/-- `0x8000:01 VAULT_STATE` (R327). -/
def vaultState : Nat := 0x800001

/-- `0x8000:02 BOOT_DIGEST` (R327). -/
def bootDigest : Nat := 0x800002

/-- `0x8000:03 TAMPER_COUNT` (R327). -/
def tamperCount : Nat := 0x800003

/-- `0x8000:05 REMASK_PASSES` (R327). -/
def remaskPasses : Nat := 0x800005

/-- `0x8000:06 CHAL_LIFETIME_TICKS` (R327). -/
def chalLifetimeTicks : Nat := 0x800006

/-- `0x8000:07 MINT_PER_TICK` (R327). -/
def mintPerTick : Nat := 0x800007

/-- `0x8000:08 REMASK_REQUEST` (R327). -/
def remaskRequest : Nat := 0x800008

/-- `0x8001:00 KEY_WRITE` (R327). -/
def keyWrite : Nat := 0x800100

/-- `0x8002:00 ATTEST_CERT` (R327). -/
def attestCert : Nat := 0x800200

/-- `0x8003:00 DEVICE_ID_PUBLIC` (R327). -/
def deviceIdPublic : Nat := 0x800300

/-- `0x8010:01–60 SLOT_INFO` (R327). -/
def slotInfo (n : Nat) : Nat := 0x801001 + n

/-- `0x8011:01–60 SLOT_PUBLIC` (R327). -/
def slotPublic (n : Nat) : Nat := 0x801101 + n

/-- `0x8020:01 VAULT_OPS` (R327). -/
def vaultOps : Nat := 0x802001

/-- `0x8020:02 KEY_WRITES` (R327). -/
def keyWrites : Nat := 0x802002

/-- `0x8020:03 KEY_WRITE_REFUSED` (R327). -/
def keyWriteRefused : Nat := 0x802003

/-- `0x8020:04 PROOFS_ANSWERED` (R327). -/
def proofsAnswered : Nat := 0x802004

/-- `0x8020:05 CHAL_ISSUED` (R327). -/
def chalIssued : Nat := 0x802005

/-- `0x8020:06 CHAL_ACCEPTED` (R327). -/
def chalAccepted : Nat := 0x802006

/-- `0x8020:07 CHAL_FAILED` (R327). -/
def chalFailed : Nat := 0x802007

/-- `0x8020:08 CHAL_STALE` (R327). -/
def chalStale : Nat := 0x802008

/-- `0x8020:09 CHAL_EXPIRED` (R327). -/
def chalExpired : Nat := 0x802009

/-- `0x8020:0A SLOT_FAILURES` (R327). -/
def slotFailures : Nat := 0x80200A

/-- `0x8020:0B ENTROPY_FAILS` (R327). -/
def entropyFails : Nat := 0x80200B

/-- `0x8020:0C OP_QUEUE_FULL` (R327). -/
def opQueueFull : Nat := 0x80200C

/-- `0x8030:01–06 PK_OUTCOMES` (R327). -/
def pkOutcomes (n : Nat) : Nat := 0x803001 + n

/-- `0x1000:01 PART_NUMBER` (R357). -/
def partNumber : Nat := 0x100001

/-- `0x1000:02 SILICON_REV` (R357). -/
def siliconRev : Nat := 0x100002

/-- `0x1000:03 SERIAL` (R357). -/
def serial : Nat := 0x100003

/-- `0x1000:04 BASE_MAC` (R357). -/
def baseMac : Nat := 0x100004

/-- `0x1000:05 FW_BOOT_ID` (R357). -/
def fwBootId : Nat := 0x100005

/-- `0x1000:06 FW_SHUTTLE_ID` (R357). -/
def fwShuttleId : Nat := 0x100006

/-- `0x1000:07 DICT_VERSION` (R357). -/
def dictVersion : Nat := 0x100007

/-- `0xE000:01 PCIE_LINK` (R357). -/
def pcieLink : Nat := 0xE00001

/-- `0xE000:02 PCIE_LINK_DOWNS` (R357). -/
def pcieLinkDowns : Nat := 0xE00002

/-- `0xE000:03 PCIE_FLRS` (R357). -/
def pcieFlrs : Nat := 0xE00003

/-- `0xE010:01–10 MBX_STATE` (R357). -/
def mbxState (n : Nat) : Nat := 0xE01001 + n

/-- `0xE011:01–10 MBX_MESSAGES` (R357). -/
def mbxMessages (n : Nat) : Nat := 0xE01101 + n

/-- `0xE012:01–10 MBX_OVERRUNS` (R357). -/
def mbxOverruns (n : Nat) : Nat := 0xE01201 + n

/-- `0xE013:01–10 MBX_ABANDONED` (R357). -/
def mbxAbandoned (n : Nat) : Nat := 0xE01301 + n

/-- `0xE014:01–10 D2H_DROPS` (R357). -/
def d2hDrops (n : Nat) : Nat := 0xE01401 + n

/-- `0xE015:01–02 EVT_CHANNEL` (R357). -/
def evtChannel (n : Nat) : Nat := 0xE01501 + n

/-- `0xE016:01–02 EVT_MASK` (R357). -/
def evtMask (n : Nat) : Nat := 0xE01601 + n

/-- `0xE020:01 MGMT_IPV4` (R357). -/
def mgmtIpv4 : Nat := 0xE02001

/-- `0xE020:02 MGMT_IPV6` (R357). -/
def mgmtIpv6 : Nat := 0xE02002

/-- `0xE020:03 MGMT_ALLOW` (R357). -/
def mgmtAllow : Nat := 0xE02003

/-- `0xE020:04 MGMT_REQUESTS` (R357). -/
def mgmtRequests : Nat := 0xE02004

/-- `0xE020:05 MGMT_DUPLICATES` (R357). -/
def mgmtDuplicates : Nat := 0xE02005

/-- `0xE020:06 MGMT_REJECTED_SRC` (R357). -/
def mgmtRejectedSrc : Nat := 0xE02006

/-- `0xE020:07 MGMT_MALFORMED` (R357). -/
def mgmtMalformed : Nat := 0xE02007

/-- `0xE020:08 MGMT_CACHE_EVICTIONS` (R357). -/
def mgmtCacheEvictions : Nat := 0xE02008

/-- `0xE030:01 NDICT_MACS` (R357). -/
def ndictMacs : Nat := 0xE03001

/-- `0xE030:02 NDICT_RATE` (R357). -/
def ndictRate : Nat := 0xE03002

/-- `0xE030:03 NDICT_REQUESTS` (R357). -/
def ndictRequests : Nat := 0xE03003

/-- `0xE030:04 NDICT_DROPS` (R357). -/
def ndictDrops : Nat := 0xE03004

/-- `0xE050:01 DICT_BATCHES` (R357). -/
def dictBatches : Nat := 0xE05001

/-- `0xE050:02 DICT_REFUSED` (R357). -/
def dictRefused : Nat := 0xE05002

/-- `0xE050:03 DICT_REAPPLIED` (R357). -/
def dictReapplied : Nat := 0xE05003

/-- `0xD000:01–10 GROVE_FAILOVERS` (R382). -/
def groveFailovers (n : Nat) : Nat := 0xD00001 + n

/-- `0xD001:01–10 GROVE_SPARE_AVAILABLE` (R382). -/
def groveSpareAvailable (n : Nat) : Nat := 0xD00101 + n

/-- `0xD002:01–10 REED_SKIPS` (R382). -/
def reedSkips (n : Nat) : Nat := 0xD00201 + n

/-- `0xD003:01–10 REED_DUP_BLOCKED` (R382). -/
def reedDupBlocked (n : Nat) : Nat := 0xD00301 + n

/-- `0xD004:01–10 FAILOVER_DROPS` (R382). -/
def failoverDrops (n : Nat) : Nat := 0xD00401 + n

/-- `0xD005:01–10 AES_LANE_STATE` (R382). -/
def aesLaneState (n : Nat) : Nat := 0xD00501 + n

/-- `0xD010–0xD01F:01–11 ENGINE_STATE` (R382). -/
def engineState (g e : Nat) : Nat := 0xD01001 + 256 * g + e

/-- `0xD030–0xD03F:01–11 ENGINE_LANE` (R382). -/
def engineLane (g e : Nat) : Nat := 0xD03001 + 256 * g + e

/-- `0xD100:01–15 MEM_CE_COUNT` (R382). -/
def memCeCount (n : Nat) : Nat := 0xD10001 + n

/-- `0xD101:01–15 MEM_UE_COUNT` (R382). -/
def memUeCount (n : Nat) : Nat := 0xD10101 + n

/-- `0xD102:01–15 MEM_REMAP_USED` (R382). -/
def memRemapUsed (n : Nat) : Nat := 0xD10201 + n

/-- `0xD103:01–15 MEM_HARD_UNREMAPPED` (R382). -/
def memHardUnremapped (n : Nat) : Nat := 0xD10301 + n

/-- `0xD104:01–15 MEM_SCRUB_PASSES` (R382). -/
def memScrubPasses (n : Nat) : Nat := 0xD10401 + n

/-- `0xD105:01–15 MEM_SCRUB_LATE` (R382). -/
def memScrubLate (n : Nat) : Nat := 0xD10501 + n

/-- `0xD106:01–15 MEM_COLLISIONS` (R382). -/
def memCollisions (n : Nat) : Nat := 0xD10601 + n

/-- `0xD107:01–15 MEM_RETENTION` (R382). -/
def memRetention (n : Nat) : Nat := 0xD10701 + n

/-- `0xD108:01–15 MEM_REMAP_TABLE` (R382). -/
def memRemapTable (n : Nat) : Nat := 0xD10801 + n

/-- `0xD109:00 MEM_RETAIN_ENABLE` (R382). -/
def memRetainEnable : Nat := 0xD10900

/-- `0xD110:00 SCRUB_PASS_LOG2` (R382). -/
def scrubPassLog2 : Nat := 0xD11000

/-- `0xD111:00 FILL_TIME_US` (R382). -/
def fillTimeUs : Nat := 0xD11100

/-- `0xD121:01–10 CACHE_HITS` (R382). -/
def cacheHits (n : Nat) : Nat := 0xD12101 + n

/-- `0xD122:00 SESSION_POISONED` (R382). -/
def sessionPoisoned : Nat := 0xD12200

/-- `0xD123:01–10 CACHE_MISSES` (R382). -/
def cacheMisses (n : Nat) : Nat := 0xD12301 + n

/-- `0xD200–0xD24F:01–11 WA_COMMITTED, WA_LOST, WA_IDLE, WA_WAIT, WA_UPKEEP` (R382). -/
def waCount (g a e : Nat) : Nat := 0xD20001 + 256 * (5 * g + a) + e

/-- `0xD250–0xD25F:01–11 WA_WRAPPED` (R382). -/
def waWrapped (g e : Nat) : Nat := 0xD25001 + 256 * g + e

/-- `0x9000:01 FAULT_UNACKED_C` (R410). -/
def faultUnackedC : Nat := 0x900001

/-- `0x9000:02 FAULT_UNACKED_U` (R410). -/
def faultUnackedU : Nat := 0x900002

/-- `0x9001:01 ACK_POLICY` (R410). -/
def ackPolicy : Nat := 0x900101

/-- `0x9001:02 ACK_HOLD_TICKS` (R410). -/
def ackHoldTicks : Nat := 0x900102

/-- `0x9002:00 FAULT_ACK` (R410). -/
def faultAck : Nat := 0x900200

/-- `0x9003:01–02 FAULT_TOTAL` (R410). -/
def faultTotal (n : Nat) : Nat := 0x900301 + n

/-- `0x9004:00 ESCALATIONS_CU` (R410). -/
def escalationsCu : Nat := 0x900400

/-- `0x9005:01 GROVE_RETRY_S` (R410). -/
def groveRetryS : Nat := 0x900501

/-- `0x9005:02 GROVE_RETRY_MAX` (R410). -/
def groveRetryMax : Nat := 0x900502

/-- `0x9006:01–10 GROVE_RETRIES` (R410). -/
def groveRetries (n : Nat) : Nat := 0x900601 + n

/-- `0x9010:01 EVTLOG_NEXT_SEQ` (R410). -/
def evtlogNextSeq : Nat := 0x901001

/-- `0x9010:02 EVTLOG_OVERWRITTEN` (R410). -/
def evtlogOverwritten : Nat := 0x901002

/-- `0x9010:03 EVTLOG_DROPPED` (R410). -/
def evtlogDropped : Nat := 0x901003

/-- `0x9011:00 ALIVE_LEVEL` (R410). -/
def aliveLevel : Nat := 0x901100

/-- `0x9100–0x910F:00–FF EVTLOG_PAGE` (R410). -/
def evtlogPage (p : Nat) : Nat := 0x910000 + p

/-- `0x9201–0x920E:01–FF FAULT_CODE_COUNT` (R410). -/
def faultCodeCount (code : Nat) : Nat := 0x920000 + code

/-- `0xF000:01 INJ_ARM` (R410). -/
def injArm : Nat := 0xF00001

/-- `0xF000:02 INJ_REQUEST` (R410). -/
def injRequest : Nat := 0xF00002

/-- `0xF000:03 INJ_CANCEL` (R410). -/
def injCancel : Nat := 0xF00003

/-- `0xF000:04 INJ_REMAINING` (R410). -/
def injRemaining : Nat := 0xF00004

/-- `0xF000:05 INJ_DETECTIONS` (R410). -/
def injDetections : Nat := 0xF00005

/-- `0xF000:06 INJ_REFUSED` (R410). -/
def injRefused : Nat := 0xF00006

/-- `0xB000:01 TWIN_ENABLE` (R441). -/
def twinEnable : Nat := 0xB00001

/-- `0xB000:02 TWIN_PREFERRED` (R441). -/
def twinPreferred : Nat := 0xB00002

/-- `0xB000:03 TWIN_REVERTIVE` (R441). -/
def twinRevertive : Nat := 0xB00003

/-- `0xB000:04 TWIN_REVERT_WTR_S` (R441). -/
def twinRevertWtrS : Nat := 0xB00004

/-- `0xB000:05 TWIN_ALONE_TAKE_MS` (R441). -/
def twinAloneTakeMs : Nat := 0xB00005

/-- `0xB000:06 TWIN_PEER_ID` (R441). -/
def twinPeerId : Nat := 0xB00006

/-- `0xB000:07 TWIN_PAIR_IDENTITY` (R441). -/
def twinPairIdentity : Nat := 0xB00007

/-- `0xB000:08 TWIN_ACTION` (R441). -/
def twinAction : Nat := 0xB00008

/-- `0xB001:01 TWIN_STATE` (R441). -/
def twinState : Nat := 0xB00101

/-- `0xB001:02 TWIN_OWN` (R441). -/
def twinOwn : Nat := 0xB00102

/-- `0xB001:03 TWIN_OWN_IN` (R441). -/
def twinOwnIn : Nat := 0xB00103

/-- `0xB001:04 TWIN_READY` (R441). -/
def twinReady : Nat := 0xB00104

/-- `0xB001:05 TWIN_PEER_SERIAL` (R441). -/
def twinPeerSerial : Nat := 0xB00105

/-- `0xB001:06 TWIN_JOIN_TICK` (R441). -/
def twinJoinTick : Nat := 0xB00106

/-- `0xB001:07 TWIN_ALIGN_PS` (R441). -/
def twinAlignPs : Nat := 0xB00107

/-- `0xB001:08 TWIN_OFFSET` (R441). -/
def twinOffset : Nat := 0xB00108

/-- `0xB001:09 TWIN_JOIN_STATUS` (R441). -/
def twinJoinStatus : Nat := 0xB00109

/-- `0xB001:0A CONFIG_GEN` (R441). -/
def configGen : Nat := 0xB0010A

/-- `0xB001:0B TWIN_ACTION_STATUS` (R441). -/
def twinActionStatus : Nat := 0xB0010B

/-- `0xB002:01 TWIN_JOINS` (R441). -/
def twinJoins : Nat := 0xB00201

/-- `0xB002:02 TWIN_TAKES` (R441). -/
def twinTakes : Nat := 0xB00202

/-- `0xB002:03 TWIN_RELEASES` (R441). -/
def twinReleases : Nat := 0xB00203

/-- `0xB002:04 TWIN_COLD_TAKES` (R441). -/
def twinColdTakes : Nat := 0xB00204

/-- `0xB002:05 TWIN_CONTENTIONS` (R441). -/
def twinContentions : Nat := 0xB00205

/-- `0xB002:06 TWIN_AGREE_MISSED` (R441). -/
def twinAgreeMissed : Nat := 0xB00206

/-- `0xB002:07 TWIN_DIGEST_MISMATCH` (R441). -/
def twinDigestMismatch : Nat := 0xB00207

/-- `0xB002:08 TWIN_JOIN_REFUSED` (R441). -/
def twinJoinRefused : Nat := 0xB00208

/-- `0xB002:09 TWIN_FORWARDED` (R441). -/
def twinForwarded : Nat := 0xB00209

/-- `0xB002:0A TWIN_FORWARD_DROPS` (R441). -/
def twinForwardDrops : Nat := 0xB0020A

/-- `0xB002:0B TWIN_SEQ_ADOPTED` (R441). -/
def twinSeqAdopted : Nat := 0xB0020B

/-- `0xB002:0C TWIN_RUNTS` (R441). -/
def twinRunts : Nat := 0xB0020C

/-- `0xB010:01 TWIN_PAIR_ASYM_PS` (R441). -/
def twinPairAsymPs : Nat := 0xB01001

/-- `0xB010:02 TWIN_ASYM_BOUND_PS` (R441). -/
def twinAsymBoundPs : Nat := 0xB01002

/-- `0xB010:03 TWIN_OUT_CAL_PS` (R441). -/
def twinOutCalPs : Nat := 0xB01003

/-- `0xB010:04 TWIN_READY_LIMIT_PS` (R441). -/
def twinReadyLimitPs : Nat := 0xB01004

/-- `0xB010:05 TWIN_CAL_ID` (R441). -/
def twinCalId : Nat := 0xB01005

/-- `0xB020:01 TWIN_MIRROR` (R441). -/
def twinMirror : Nat := 0xB02001

/-- `0xB020:02 TWIN_MIRROR_RATE` (R441). -/
def twinMirrorRate : Nat := 0xB02002

/-- `0xC000:01 BOB_STATE` (R463). -/
def bobState : Nat := 0xC00001

/-- `0xC000:02 BOB_RECORDS` (R463). -/
def bobRecords : Nat := 0xC00002

/-- `0xC000:03 BOB_LOSS_TICKS` (R463). -/
def bobLossTicks : Nat := 0xC00003

/-- `0xC000:04 BOB_KEYFRAMES` (R463). -/
def bobKeyframes : Nat := 0xC00004

/-- `0xC000:05 BOB_OCTETS` (R463). -/
def bobOctets : Nat := 0xC00005

/-- `0xC000:06 BOB_RATE` (R463). -/
def bobRate : Nat := 0xC00006

/-- `0xC000:07 BOB_RING_WR` (R463). -/
def bobRingWr : Nat := 0xC00007

/-- `0xC000:08 BOB_RING_OLDEST_TICK` (R463). -/
def bobRingOldestTick : Nat := 0xC00008

/-- `0xC010:01 CAP_GAPS` (R463). -/
def capGaps : Nat := 0xC01001

/-- `0xC010:02 CAP_RECORDS_LOST` (R463). -/
def capRecordsLost : Nat := 0xC01002

/-- `0xC010:03 CAP_BEHIND` (R463). -/
def capBehind : Nat := 0xC01003

/-- `0xC100:01 REPLAY_STATE` (R463). -/
def replayState : Nat := 0xC10001

/-- `0xC100:02 REPLAY_START_TICK` (R463). -/
def replayStartTick : Nat := 0xC10002

/-- `0xC100:03 REPLAY_END_TICK` (R463). -/
def replayEndTick : Nat := 0xC10003

/-- `0xC100:04 REPLAY_SPEED` (R463). -/
def replaySpeed : Nat := 0xC10004

/-- `0xC100:05 REPLAY_TICK` (R463). (Log entry 91, DEDUCED) -/
def replayTick : Nat := 0xC10005

/-- `0xC100:06 REPLAY_STATUS` (R463). -/
def replayStatus : Nat := 0xC10006

/-- `0xC100:07 REPLAY_TICKS_DONE` (R463). -/
def replayTicksDone : Nat := 0xC10007

/-- `0xC100:08 REPLAY_MISMATCHES` (R463). -/
def replayMismatches : Nat := 0xC10008

/-- `0xC100:09 REPLAY_FIRST_MISMATCH` (R463). -/
def replayFirstMismatch : Nat := 0xC10009

/-- `0xC100:0A REPLAY_ON_MISMATCH` (R463). -/
def replayOnMismatch : Nat := 0xC1000A

/-- `0xA000:01 SELVAGE_STATE` (R485). -/
def selvageState : Nat := 0xA00001

/-- `0xA000:02 PLAN_COUNT` (R485). -/
def planCount : Nat := 0xA00002

/-- `0xA000:03 LAST_PLAN_TICK` (R485). -/
def lastPlanTick : Nat := 0xA00003

/-- `0xA000:04 MARGIN_REMAIN_DAYS` (R485). -/
def marginRemainDays : Nat := 0xA00004

/-- `0xA000:05 MARGIN_LIMITER` (R485). -/
def marginLimiter : Nat := 0xA00005

/-- `0xA000:06 AGE_EQ_HOURS` (R485). -/
def ageEqHours : Nat := 0xA00006

/-- `0xA000:07 LIFE_USED_PM` (R485). -/
def lifeUsedPm : Nat := 0xA00007

/-- `0xA010:01–20 RO_DEGRADATION` (R485). -/
def roDegradation (n : Nat) : Nat := 0xA01001 + n

/-- `0xA011:01–15 SRAM_VMIN_MV` (R485). -/
def sramVminMv (n : Nat) : Nat := 0xA01101 + n

/-- `0xA012:01–10 LANE_EYE_MARGIN` (R485). -/
def laneEyeMargin (n : Nat) : Nat := 0xA01201 + n

/-- `0xA013:01–06 APLL_VCO_TUNE` (R485). -/
def apllVcoTune (n : Nat) : Nat := 0xA01301 + n

/-- `0xA020:01 AVS_MARGIN_MV` (R485). -/
def avsMarginMv : Nat := 0xA02001

/-- `0xE100:01 VCORE_TARGET_MV` (R485). -/
def vcoreTargetMv : Nat := 0xE10001

/-- `0xE100:02 VCORE_MEASURED_MV` (R485). -/
def vcoreMeasuredMv : Nat := 0xE10002

/-- `0xE100:03 VCORE_FUSE_MV` (R485). -/
def vcoreFuseMv : Nat := 0xE10003

/-- `0xE100:04 AVS_ADDR` (R485). -/
def avsAddr : Nat := 0xE10004

/-- `0xE100:05 AVS_FAILS` (R485). -/
def avsFails : Nat := 0xE10005

/-- `0xE101:01–08 TJ_SENSOR` (R485). -/
def tjSensor (n : Nat) : Nat := 0xE10101 + n

/-- `0xE101:09 TJ_MAX` (R485). -/
def tjMax : Nat := 0xE10109

/-- `0xE102:01 THERMAL_STATE` (R485). -/
def thermalState : Nat := 0xE10201

/-- `0xE102:02 THERMAL_WARNINGS` (R485). -/
def thermalWarnings : Nat := 0xE10202

/-- `0xE102:03 TJ_PEAK` (R485). -/
def tjPeak : Nat := 0xE10203

/-- `0xE110:02 JOURNAL_SEQ` (R485). -/
def journalSeq : Nat := 0xE11002

/-- `0xE110:03 JOURNAL_SLOT` (R485). -/
def journalSlot : Nat := 0xE11003

/-- `0xE110:04 JOURNAL_INTERVAL_S` (R485). -/
def journalIntervalS : Nat := 0xE11004

/-- `0xE110:05 JOURNAL_WRITES` (R485). -/
def journalWrites : Nat := 0xE11005

/-- `0xE110:06 JOURNAL_FAILS` (R485). -/
def journalFails : Nat := 0xE11006

/-- `0xE110:07 JOURNAL_TORN_SLOTS` (R485). -/
def journalTornSlots : Nat := 0xE11007

/-- `0xE110:08 JOURNAL_NOW` (R485). -/
def journalNow : Nat := 0xE11008

/-- `0xE120:01 FLASH_CMD` (R485). -/
def flashCmd : Nat := 0xE12001

/-- `0xE120:02 FLASH_STATUS` (R485). -/
def flashStatus : Nat := 0xE12002

/-- `0xE120:03 FLASH_DATA` (R485). -/
def flashData : Nat := 0xE12003

/-- `0xE120:04 XIP_CS0` (R485). -/
def xipCs0 : Nat := 0xE12004

/-- `0xE120:05 FLASH_SELF_ARRAY` (R485). -/
def flashSelfArray : Nat := 0xE12005

/-- `0xE120:06 FLASH_WAITS` (R485). -/
def flashWaits : Nat := 0xE12006

/-- `0xE130:01 BOOT_TIME_US` (R485). -/
def bootTimeUs : Nat := 0xE13001

/-- `0xE130:02 BOOT_IMAGE_COPY` (R485). -/
def bootImageCopy : Nat := 0xE13002

/-- `0x5120:01–40 TP_PAD_CFG` (R511). -/
def tpPadCfg (n : Nat) : Nat := 0x512001 + n

/-- `0xE140:01–02 I2C_SPEED` (R511). -/
def i2cSpeed (n : Nat) : Nat := 0xE14001 + n

/-- `0xE141:01–02 I2C_XFER` (R511). -/
def i2cXfer (n : Nat) : Nat := 0xE14101 + n

/-- `0xE142:01–02 I2C_RESULT` (R511). -/
def i2cResult (n : Nat) : Nat := 0xE14201 + n

/-- `0xE143:01–02 I2C_BUS_STATE` (R511). -/
def i2cBusState (n : Nat) : Nat := 0xE14301 + n

/-- `0xE144:01–02 I2C_ARB_LOST` (R511). -/
def i2cArbLost (n : Nat) : Nat := 0xE14401 + n

/-- `0xE145:01–02 I2C_DROPPED` (R511). -/
def i2cDropped (n : Nat) : Nat := 0xE14501 + n

/-- `0xE146:01–02 I2C_NACKS` (R511). -/
def i2cNacks (n : Nat) : Nat := 0xE14601 + n

/-- `0xE147:01–02 I2C_RECOVERIES` (R511). -/
def i2cRecoveries (n : Nat) : Nat := 0xE14701 + n

/-- `0xE148:01–02 I2C_STUCK_EVENTS` (R511). -/
def i2cStuckEvents (n : Nat) : Nat := 0xE14801 + n

/-- `0xE149:00 I2C_TGT_ADDR` (R511). -/
def i2cTgtAddr : Nat := 0xE14900

/-- `0xE150:01 QSPI_SCK_DIV` (R511). -/
def qspiSckDiv : Nat := 0xE15001

/-- `0xE150:02–03 QSPI_JEDEC_ID` (R511). -/
def qspiJedecId (n : Nat) : Nat := 0xE15002 + n

/-- `0xE160:01 UART_BAUD` (R511). -/
def uartBaud : Nat := 0xE16001

/-- `0xE160:02 UART_LOG_LEVEL` (R511). -/
def uartLogLevel : Nat := 0xE16002

/-- `0xE160:03 UART_LINES_DROPPED` (R511). -/
def uartLinesDropped : Nat := 0xE16003

/-- `0xE170:01 GPIO_DIR` (R511). -/
def gpioDir : Nat := 0xE17001

/-- `0xE170:02 GPIO_OUT` (R511). -/
def gpioOut : Nat := 0xE17002

/-- `0xE170:03 GPIO_IN` (R511). -/
def gpioIn : Nat := 0xE17003

/-- `0xE170:04 GPIO_PULL` (R511). -/
def gpioPull : Nat := 0xE17004

end Sys2Proof.Machine.Obj
end

