-- ==== Sys2Proof/Machine/Catalogue.lean ====
section
/-!
DEFINITION. The catalogue of the object dictionary: for every row of the manual's object tables its index and
sub-index range, type, access per port class (R331), the point at which a write applies (R334) and default.
Where the manual gives no number as default ("fused", "from image"), the default is a constant of Config.
-/

namespace Sys2Proof.Machine

/-- Object rows of index page 0x10, part 0. -/
def catalogue10x0 : List ObjRow :=
  [ ⟨0x1000, 0x1000, 1, 1, .str, .r, .r, .r, .r, .r, .immediate, 0⟩
  , ⟨0x1000, 0x1000, 2, 2, .u16, .r, .r, .r, .r, .r, .immediate, (Config.fused 0x100002 : Nat)⟩
  , ⟨0x1000, 0x1000, 3, 3, .str, .r, .r, .r, .r, .r, .immediate, 0⟩
  , ⟨0x1000, 0x1000, 4, 4, .blob, .r, .r, .r, .no, .no, .immediate, 0⟩
  , ⟨0x1000, 0x1000, 5, 5, .u32, .r, .r, .r, .no, .r, .immediate, (Config.fused 0x100005 : Nat)⟩
  , ⟨0x1000, 0x1000, 6, 6, .u32, .r, .r, .r, .no, .r, .immediate, (Config.fused 0x100006 : Nat)⟩
  , ⟨0x1000, 0x1000, 7, 7, .u16, .r, .r, .r, .r, .r, .immediate, 1⟩ ]

/-- Object rows of index page 0x20, part 0. -/
def catalogue20x0 : List ObjRow :=
  [ ⟨0x2000, 0x2000, 1, 1, .u64, .r, .r, .r, .r, .r, .immediate, 0⟩
  , ⟨0x2000, 0x2000, 2, 2, .u16, .r, .r, .r, .r, .r, .immediate, 0⟩
  , ⟨0x2000, 0x2000, 3, 3, .i64, .r, .r, .r, .no, .r, .immediate, 0⟩
  , ⟨0x2000, 0x2000, 4, 4, .u8, .r, .r, .r, .no, .no, .immediate, 0⟩
  , ⟨0x2000, 0x2000, 5, 5, .u64, .r, .r, .r, .no, .no, .immediate, 0⟩
  , ⟨0x2000, 0x2000, 6, 6, .u64, .r, .r, .r, .no, .no, .immediate, 0⟩ ]

/-- Object rows of index page 0x21, part 0. -/
def catalogue21x0 : List ObjRow :=
  [ ⟨0x2100, 0x2100, 1, 1, .u8, .r, .r, .r, .r, .r, .immediate, 0⟩
  , ⟨0x2100, 0x2100, 2, 2, .u8, .r, .r, .r, .no, .r, .immediate, 0⟩
  , ⟨0x2100, 0x2100, 3, 3, .u64, .r, .r, .r, .no, .r, .immediate, 0⟩
  , ⟨0x2100, 0x2100, 4, 4, .u8, .rw, .no, .no, .no, .no, .nextTick, 0⟩
  , ⟨0x2100, 0x2100, 5, 5, .u16, .r, .r, .r, .no, .no, .immediate, 0⟩
  , ⟨0x2100, 0x2100, 6, 6, .u16, .rw, .r, .rw, .no, .no, .immediate, 120⟩
  , ⟨0x2100, 0x2100, 7, 7, .u64, .r, .r, .r, .no, .no, .immediate, 0⟩
  , ⟨0x2100, 0x2100, 10, 10, .u32, .r, .r, .r, .no, .no, .immediate, 312500⟩
  , ⟨0x2100, 0x2100, 12, 12, .u64, .r, .r, .r, .no, .no, .immediate, 0⟩
  , ⟨0x2101, 0x2101, 0, 0, .u64, .r, .r, .r, .no, .no, .immediate, 0⟩
  , ⟨0x2101, 0x2101, 1, 1, .u64, .rw, .r, .r, .no, .no, .immediate, 0⟩
  , ⟨0x2101, 0x2101, 2, 2, .u64, .r, .r, .r, .no, .no, .immediate, 0⟩
  , ⟨0x2101, 0x2101, 3, 3, .u64, .r, .r, .r, .no, .no, .immediate, 0⟩
  , ⟨0x2110, 0x2110, 1, 6, .u8, .r, .r, .r, .no, .no, .immediate, 0⟩
  , ⟨0x2110, 0x2110, 7, 12, .u64, .r, .r, .r, .no, .no, .immediate, 0⟩
  , ⟨0x2111, 0x2111, 1, 1, .u8, .rw, .r, .rw, .no, .no, .nextTick, 1⟩
  , ⟨0x2111, 0x2111, 2, 2, .u8, .rw, .r, .rw, .no, .no, .nextTick, 2⟩
  , ⟨0x2111, 0x2111, 3, 3, .u8, .rw, .r, .rw, .no, .no, .nextTick, 3⟩
  , ⟨0x2111, 0x2111, 4, 4, .u8, .rw, .r, .rw, .no, .no, .nextTick, 4⟩
  , ⟨0x2111, 0x2111, 5, 5, .bool, .rw, .r, .rw, .no, .no, .nextTick, 0⟩
  , ⟨0x2111, 0x2111, 6, 6, .u8, .rw, .no, .rw, .no, .no, .nextTick, 255⟩
  , ⟨0x2111, 0x2111, 7, 7, .u8, .r, .r, .r, .no, .r, .immediate, 255⟩
  , ⟨0x2112, 0x2112, 1, 1, .u8, .rw, .r, .no, .no, .no, .nextSecond, 0⟩
  , ⟨0x2112, 0x2112, 2, 2, .u8, .rw, .r, .no, .no, .no, .nextSecond, 0⟩ ]

/-- Object rows of index page 0x22, part 0. -/
def catalogue22x0 : List ObjRow :=
  [ ⟨0x2200, 0x2200, 1, 1, .u32, .r, .r, .r, .no, .no, .immediate, 12000⟩
  , ⟨0x2200, 0x2200, 2, 2, .u32, .r, .r, .r, .no, .no, .immediate, 36000⟩
  , ⟨0x2200, 0x2200, 3, 3, .u32, .r, .r, .r, .no, .no, .immediate, 140000⟩
  , ⟨0x2200, 0x2200, 4, 4, .u32, .r, .r, .r, .no, .no, .immediate, 155000⟩
  , ⟨0x2200, 0x2200, 5, 5, .u8, .r, .r, .r, .no, .no, .immediate, 4⟩
  , ⟨0x2200, 0x2200, 6, 6, .u16, .r, .r, .r, .no, .no, .nextTick, 80⟩
  , ⟨0x2200, 0x2200, 7, 7, .u16, .rw, .r, .rw, .no, .no, .nextTick, 0⟩
  , ⟨0x2200, 0x2200, 8, 8, .u16, .r, .r, .r, .no, .no, .immediate, 80⟩
  , ⟨0x2200, 0x2200, 9, 9, .bool, .r, .r, .r, .no, .no, .immediate, 0⟩
  , ⟨0x2200, 0x2200, 10, 10, .u32, .r, .r, .r, .no, .no, .immediate, 156250⟩
  , ⟨0x2201, 0x2201, 1, 1, .u16, .r, .r, .r, .no, .no, .immediate, 171⟩
  , ⟨0x2201, 0x2201, 2, 2, .u16, .r, .r, .r, .no, .no, .immediate, 147⟩
  , ⟨0x2201, 0x2201, 3, 3, .u16, .r, .r, .r, .no, .no, .immediate, 0⟩
  , ⟨0x2201, 0x2201, 4, 4, .u16, .r, .r, .r, .no, .no, .immediate, 856⟩
  , ⟨0x2201, 0x2201, 5, 5, .u64, .r, .r, .r, .no, .no, .immediate, 0⟩
  , ⟨0x2201, 0x2201, 6, 6, .u8, .r, .r, .r, .no, .no, .immediate, 255⟩
  , ⟨0x2201, 0x2201, 7, 7, .u16, .r, .r, .r, .no, .no, .immediate, 65535⟩
  , ⟨0x2201, 0x2201, 8, 8, .u32, .r, .r, .r, .no, .no, .immediate, 0⟩
  , ⟨0x2202, 0x2202, 1, 4, .u64, .r, .r, .r, .no, .no, .immediate, 0⟩
  , ⟨0x2202, 0x2202, 5, 5, .u64, .r, .r, .r, .no, .no, .immediate, 0⟩
  , ⟨0x2202, 0x2202, 6, 6, .u64, .r, .r, .r, .no, .no, .immediate, 0⟩
  , ⟨0x2202, 0x2202, 7, 7, .u64, .r, .r, .r, .no, .no, .immediate, 0⟩
  , ⟨0x2202, 0x2202, 8, 8, .u64, .r, .r, .r, .no, .no, .immediate, 0⟩
  , ⟨0x2202, 0x2202, 9, 9, .u64, .r, .r, .r, .no, .no, .immediate, 0⟩
  , ⟨0x2202, 0x2202, 10, 10, .u64, .r, .r, .r, .no, .no, .immediate, 0⟩
  , ⟨0x2202, 0x2202, 11, 11, .u64, .r, .r, .r, .no, .no, .immediate, 0⟩
  , ⟨0x2203, 0x2203, 1, 1, .u16, .r, .r, .r, .no, .no, .nextTick, 123⟩
  , ⟨0x2203, 0x2203, 2, 2, .u16, .r, .r, .r, .no, .no, .nextTick, 31⟩
  , ⟨0x2203, 0x2203, 3, 3, .u16, .r, .r, .r, .no, .no, .nextTick, 31⟩
  , ⟨0x2203, 0x2203, 4, 4, .u16, .r, .r, .r, .no, .no, .nextTick, 16⟩
  , ⟨0x2203, 0x2203, 5, 5, .u16, .r, .r, .r, .no, .no, .nextTick, 1⟩
  , ⟨0x2203, 0x2203, 6, 6, .u16, .r, .r, .r, .no, .no, .nextTick, 0⟩
  , ⟨0x2204, 0x2204, 1, 16, .u8, .r, .r, .r, .no, .r, .immediate, 0⟩
  , ⟨0x2205, 0x2205, 1, 16, .u8, .r, .r, .r, .no, .no, .immediate, 16⟩
  , ⟨0x2206, 0x2206, 1, 1, .u32, .r, .r, .r, .no, .no, .immediate, 1500⟩
  , ⟨0x2206, 0x2206, 2, 2, .u32, .r, .r, .r, .no, .no, .immediate, 7800⟩
  , ⟨0x2206, 0x2206, 3, 3, .u32, .r, .r, .r, .no, .no, .immediate, 960⟩
  , ⟨0x2206, 0x2206, 4, 4, .u32, .r, .r, .r, .no, .no, .immediate, 2400⟩
  , ⟨0x2206, 0x2206, 5, 5, .u32, .r, .r, .r, .no, .no, .immediate, 4800⟩
  , ⟨0x2206, 0x2206, 6, 6, .u32, .r, .r, .r, .no, .no, .immediate, 400⟩ ]

/-- Object rows of index page 0x22, part 1. -/
def catalogue22x1 : List ObjRow :=
  [ ⟨0x2206, 0x2206, 7, 7, .u32, .r, .r, .r, .no, .no, .immediate, 2000⟩
  , ⟨0x2206, 0x2206, 8, 8, .u32, .r, .r, .r, .no, .no, .immediate, 600⟩
  , ⟨0x2206, 0x2206, 9, 9, .u32, .r, .r, .r, .no, .no, .immediate, 2⟩
  , ⟨0x2206, 0x2206, 10, 10, .u32, .r, .r, .r, .no, .no, .immediate, 3000⟩
  , ⟨0x2206, 0x2206, 11, 11, .u32, .r, .r, .r, .no, .no, .nextTick, 3520⟩
  , ⟨0x2206, 0x2206, 12, 12, .u32, .r, .r, .r, .no, .no, .nextTick, 1735⟩
  , ⟨0x2206, 0x2206, 13, 13, .u32, .r, .r, .r, .no, .no, .nextTick, 10656⟩
  , ⟨0x2206, 0x2206, 14, 14, .u32, .r, .r, .r, .no, .no, .nextTick, 12840⟩
  , ⟨0x2207, 0x2207, 1, 1, .bool, .r, .r, .r, .r, .r, .immediate, 0⟩
  , ⟨0x2207, 0x2207, 2, 2, .u64, .r, .r, .r, .no, .r, .immediate, 0⟩ ]

/-- Object rows of index page 0x23, part 0. -/
def catalogue23x0 : List ObjRow :=
  [ ⟨0x2300, 0x2300, 1, 1, .time80, .r, .r, .r, .r, .r, .immediate, 0⟩
  , ⟨0x2300, 0x2300, 2, 2, .bound32, .r, .r, .r, .r, .r, .immediate, 4294967295⟩
  , ⟨0x2300, 0x2300, 3, 3, .u32, .r, .r, .r, .no, .no, .immediate, 0⟩
  , ⟨0x2300, 0x2300, 4, 4, .u64, .r, .r, .r, .no, .no, .immediate, 0⟩
  , ⟨0x2300, 0x2300, 5, 5, .u64, .r, .r, .r, .no, .no, .immediate, 0⟩
  , ⟨0x2300, 0x2300, 6, 6, .u64, .r, .r, .r, .no, .no, .immediate, 0⟩
  , ⟨0x2300, 0x2300, 7, 7, .u64, .r, .r, .r, .no, .no, .immediate, 0⟩
  , ⟨0x2300, 0x2300, 8, 8, .u64, .r, .r, .r, .no, .no, .immediate, 0⟩
  , ⟨0x2300, 0x2300, 9, 9, .blob, .r, .r, .r, .no, .no, .immediate, 0⟩
  , ⟨0x2300, 0x2300, 10, 10, .u64, .r, .r, .r, .no, .no, .immediate, 0⟩
  , ⟨0x2300, 0x2300, 11, 11, .bool, .r, .r, .r, .r, .r, .immediate, 0⟩
  , ⟨0x2310, 0x2310, 1, 1, .i16, .rw, .r, .rw, .r, .r, .nextSecond, 37⟩
  , ⟨0x2310, 0x2310, 2, 2, .u8, .r, .r, .r, .r, .r, .immediate, 0⟩
  , ⟨0x2310, 0x2310, 3, 3, .u64, .r, .r, .r, .no, .r, .immediate, 0⟩
  , ⟨0x2310, 0x2310, 4, 4, .u8, .r, .r, .r, .no, .r, .immediate, 0⟩
  , ⟨0x2310, 0x2310, 5, 5, .u64, .r, .r, .r, .no, .no, .immediate, 0⟩
  , ⟨0x2310, 0x2310, 6, 6, .blob, .w, .no, .w, .no, .no, .nextSecond, 0⟩
  , ⟨0x2310, 0x2310, 7, 7, .u8, .r, .r, .r, .no, .no, .immediate, 0⟩
  , ⟨0x2311, 0x2311, 1, 64, .blob, .r, .r, .r, .no, .r, .immediate, 0⟩
  , ⟨0x2312, 0x2312, 1, 1, .u8, .rw, .r, .rw, .no, .r, .nextSecond, 0⟩
  , ⟨0x2312, 0x2312, 2, 2, .u32, .rw, .r, .rw, .no, .r, .nextSecond, 86400⟩
  , ⟨0x2312, 0x2312, 3, 3, .bool, .r, .r, .r, .r, .r, .immediate, 0⟩ ]

/-- Object rows of index page 0x30, part 0. -/
def catalogue30x0 : List ObjRow :=
  [ ⟨0x3000, 0x3000, 1, 1, .u8, .r, .r, .r, .r, .r, .immediate, 0⟩
  , ⟨0x3000, 0x3000, 2, 2, .u8, .r, .r, .r, .no, .r, .immediate, 0⟩
  , ⟨0x3000, 0x3000, 3, 3, .bool, .rw, .r, .rw, .no, .no, .nextTick, 1⟩
  , ⟨0x3000, 0x3000, 4, 4, .u64, .r, .r, .r, .no, .no, .immediate, 0⟩
  , ⟨0x3000, 0x3000, 5, 5, .u16, .rw, .r, .rw, .no, .no, .nextTick, 10⟩
  , ⟨0x3000, 0x3000, 6, 6, .u8, .r, .r, .r, .no, .no, .immediate, 0⟩
  , ⟨0x3000, 0x3000, 7, 7, .u8, .rw, .no, .rw, .no, .no, .nextTick, 0⟩
  , ⟨0x3000, 0x3000, 8, 8, .u16, .rw, .r, .rw, .no, .no, .nextTick, 10⟩
  , ⟨0x3000, 0x3000, 9, 9, .u32, .rw, .r, .rw, .no, .no, .nextSecond, 100⟩
  , ⟨0x3000, 0x3000, 10, 10, .bool, .r, .r, .r, .no, .r, .immediate, 0⟩
  , ⟨0x3001, 0x3001, 0, 255, .u8, .rw, .r, .rw, .no, .no, .nextTick, 0⟩
  , ⟨0x3002, 0x3002, 0, 255, .u16, .rw, .r, .rw, .no, .no, .nextTick, 300⟩
  , ⟨0x3003, 0x3003, 0, 255, .u8, .r, .r, .r, .no, .r, .immediate, 0⟩
  , ⟨0x3004, 0x3004, 1, 1, .u32, .rw, .r, .rw, .no, .no, .nextSecond, 10000⟩
  , ⟨0x3004, 0x3004, 16, 31, .u32, .rw, .r, .rw, .no, .no, .nextSecond, 10000⟩
  , ⟨0x3004, 0x3004, 32, 55, .u32, .rw, .r, .rw, .no, .no, .nextSecond, 1000⟩
  , ⟨0x3004, 0x3004, 63, 63, .u32, .rw, .r, .rw, .no, .no, .nextSecond, 1000000⟩
  , ⟨0x3004, 0x3004, 64, 67, .u32, .rw, .r, .rw, .no, .no, .nextSecond, 1000⟩
  , ⟨0x3004, 0x3004, 96, 111, .u32, .rw, .r, .rw, .no, .no, .nextSecond, 3000000⟩
  , ⟨0x3004, 0x3004, 128, 191, .u32, .rw, .r, .rw, .no, .no, .nextSecond, 1000⟩
  , ⟨0x3004, 0x3004, 0, 255, .u32, .rw, .r, .rw, .no, .no, .nextSecond, 0⟩
  , ⟨0x3005, 0x3005, 0, 255, .u32, .rw, .r, .rw, .no, .no, .nextTick, 100000⟩
  , ⟨0x3006, 0x3006, 0, 255, .u32, .rw, .r, .rw, .no, .no, .nextTick, 500000⟩
  , ⟨0x3007, 0x3007, 0, 255, .i64, .r, .r, .r, .no, .no, .immediate, 0⟩
  , ⟨0x3008, 0x3008, 0, 255, .u64, .r, .r, .r, .no, .no, .immediate, 0⟩
  , ⟨0x3009, 0x3009, 0, 255, .u32, .r, .r, .r, .no, .no, .immediate, 0⟩
  , ⟨0x300A, 0x300A, 0, 255, .blob, .rw, .r, .rw, .no, .no, .nextTick, 0⟩
  , ⟨0x300B, 0x300B, 0, 255, .i32, .rw, .r, .rw, .no, .no, .nextSecond, 0⟩
  , ⟨0x300C, 0x300C, 0, 255, .u64, .r, .r, .r, .no, .no, .immediate, 0⟩
  , ⟨0x300D, 0x300D, 0, 255, .u8, .rw, .r, .rw, .no, .no, .nextTick, 1⟩
  , ⟨0x300E, 0x300E, 0, 255, .u32, .rw, .r, .rw, .no, .no, .nextTick, 1000⟩
  , ⟨0x300F, 0x300F, 0, 255, .u16, .rw, .r, .rw, .no, .no, .nextTick, 2⟩
  , ⟨0x3020, 0x3020, 1, 1, .i64, .r, .r, .r, .no, .no, .immediate, 0⟩
  , ⟨0x3020, 0x3020, 2, 2, .i64, .r, .r, .r, .no, .no, .immediate, 0⟩
  , ⟨0x3020, 0x3020, 3, 3, .bound32, .r, .r, .r, .no, .no, .immediate, 0⟩
  , ⟨0x3020, 0x3020, 4, 4, .u64, .r, .r, .r, .no, .no, .immediate, 0⟩
  , ⟨0x3020, 0x3020, 5, 5, .u64, .r, .r, .r, .no, .no, .immediate, 0⟩
  , ⟨0x3040, 0x3040, 1, 1, .u8, .rw, .r, .rw, .no, .no, .nextSecond, 0⟩
  , ⟨0x3040, 0x3040, 2, 2, .u8, .r, .r, .r, .no, .no, .immediate, 0⟩
  , ⟨0x3040, 0x3040, 3, 3, .bool, .rw, .r, .rw, .no, .no, .nextTick, 1⟩ ]

/-- Object rows of index page 0x30, part 1. -/
def catalogue30x1 : List ObjRow :=
  [ ⟨0x3080, 0x3080, 1, 4, .bool, .rw, .r, .rw, .no, .no, .nextTick, 0⟩
  , ⟨0x3081, 0x3081, 1, 4, .u32, .rw, .r, .rw, .no, .no, .nextTick, 8388608⟩
  , ⟨0x3082, 0x3082, 1, 4, .u32, .rw, .r, .rw, .no, .no, .nextTick, 8388608⟩
  , ⟨0x3083, 0x3083, 1, 4, .i64, .rw, .r, .rw, .no, .no, .nextTick, 0⟩
  , ⟨0x3084, 0x3084, 1, 4, .blob, .rw, .r, .rw, .no, .no, .nextTick, 0⟩
  , ⟨0x3085, 0x3085, 1, 4, .u32, .rw, .r, .rw, .no, .no, .nextTick, 4096⟩
  , ⟨0x3086, 0x3086, 1, 4, .u8, .r, .r, .r, .no, .r, .immediate, 0⟩
  , ⟨0x3087, 0x3087, 1, 4, .bool, .r, .r, .r, .no, .no, .immediate, 0⟩
  , ⟨0x3088, 0x3088, 1, 4, .u64, .r, .r, .r, .no, .no, .immediate, 0⟩
  , ⟨0x3089, 0x3089, 1, 4, .u32, .r, .r, .r, .no, .r, .immediate, 0⟩
  , ⟨0x3090, 0x3090, 1, 4, .blob, .rw, .r, .rw, .no, .no, .nextTick, 0⟩
  , ⟨0x3091, 0x3091, 1, 4, .u64, .r, .r, .r, .no, .no, .immediate, 0⟩
  , ⟨0x3092, 0x3092, 1, 4, .u8, .r, .r, .r, .no, .no, .immediate, 0⟩ ]

/-- Object rows of index page 0x31, part 0. -/
def catalogue31x0 : List ObjRow :=
  [ ⟨0x3100, 0x3100, 1, 16, .blob, .rw, .r, .rw, .no, .no, .nextSecond, 0⟩
  , ⟨0x3101, 0x3101, 1, 16, .u32, .rw, .r, .rw, .no, .no, .nextSecond, 10000⟩
  , ⟨0x3102, 0x3102, 1, 16, .u8, .rw, .r, .rw, .no, .no, .nextSecond, 0⟩
  , ⟨0x3103, 0x3103, 1, 16, .u32, .rw, .r, .rw, .no, .no, .nextSecond, 86400⟩
  , ⟨0x3104, 0x3104, 1, 16, .u8, .r, .r, .r, .no, .r, .immediate, 0⟩
  , ⟨0x3105, 0x3105, 1, 16, .u32, .r, .r, .r, .no, .r, .immediate, 0⟩
  , ⟨0x3106, 0x3106, 1, 16, .i64, .r, .r, .r, .no, .r, .immediate, 0⟩
  , ⟨0x3107, 0x3107, 1, 16, .i64, .r, .r, .r, .no, .r, .immediate, 0⟩
  , ⟨0x3108, 0x3108, 1, 16, .i64, .r, .r, .r, .no, .r, .immediate, 0⟩
  , ⟨0x3109, 0x3109, 1, 16, .u32, .r, .r, .r, .no, .no, .immediate, 0⟩
  , ⟨0x310A, 0x310A, 1, 16, .u64, .r, .r, .r, .no, .no, .immediate, 0⟩
  , ⟨0x310B, 0x310B, 1, 16, .u32, .r, .r, .r, .no, .no, .immediate, 0⟩
  , ⟨0x310C, 0x310C, 1, 16, .u64, .r, .r, .r, .no, .no, .immediate, 0⟩
  , ⟨0x310D, 0x310D, 1, 16, .i64, .r, .r, .r, .no, .r, .immediate, 0⟩
  , ⟨0x3110, 0x3110, 1, 1, .u8, .r, .r, .r, .r, .r, .immediate, 0⟩
  , ⟨0x3110, 0x3110, 2, 2, .u32, .rw, .r, .rw, .no, .no, .nextSecond, 86400⟩
  , ⟨0x3110, 0x3110, 3, 3, .u32, .rw, .r, .rw, .no, .no, .nextSecond, 2147483648⟩
  , ⟨0x3110, 0x3110, 4, 4, .u32, .rw, .r, .rw, .no, .no, .nextSecond, 43200⟩
  , ⟨0x3110, 0x3110, 5, 5, .u32, .rw, .r, .rw, .no, .no, .nextSecond, 100000⟩
  , ⟨0x3110, 0x3110, 6, 6, .u32, .rw, .r, .rw, .no, .no, .nextSecond, 1638400⟩
  , ⟨0x3110, 0x3110, 7, 7, .u8, .rw, .r, .rw, .no, .no, .nextSecond, 3⟩
  , ⟨0x3110, 0x3110, 8, 8, .u32, .rw, .r, .rw, .no, .no, .nextSecond, 10000⟩
  , ⟨0x3110, 0x3110, 9, 9, .u32, .rw, .r, .rw, .no, .no, .nextSecond, 0⟩
  , ⟨0x3110, 0x3110, 10, 10, .u16, .rw, .r, .rw, .no, .no, .nextSecond, 1⟩
  , ⟨0x3110, 0x3110, 11, 11, .u16, .rw, .r, .rw, .no, .no, .nextSecond, 3277⟩
  , ⟨0x3110, 0x3110, 12, 12, .u64, .r, .r, .r, .no, .r, .immediate, 0⟩
  , ⟨0x3110, 0x3110, 13, 13, .u64, .r, .r, .r, .no, .r, .immediate, 0⟩
  , ⟨0x3110, 0x3110, 14, 14, .bound32, .r, .r, .r, .no, .r, .immediate, 4294967295⟩
  , ⟨0x3110, 0x3110, 15, 15, .u64, .r, .r, .r, .no, .r, .immediate, 0⟩
  , ⟨0x3110, 0x3110, 16, 16, .i64, .r, .r, .r, .no, .no, .immediate, 0⟩
  , ⟨0x3110, 0x3110, 17, 17, .u64, .r, .r, .r, .no, .no, .immediate, 0⟩
  , ⟨0x3110, 0x3110, 18, 18, .bool, .r, .r, .r, .no, .r, .immediate, 0⟩
  , ⟨0x3110, 0x3110, 19, 19, .u64, .r, .r, .r, .no, .no, .immediate, 0⟩
  , ⟨0x3110, 0x3110, 20, 20, .u64, .r, .r, .r, .no, .no, .immediate, 0⟩
  , ⟨0x3110, 0x3110, 21, 21, .u64, .r, .r, .r, .no, .r, .immediate, 0⟩
  , ⟨0x3110, 0x3110, 22, 22, .u32, .r, .r, .r, .no, .r, .immediate, (Config.fused 0x311016 : Nat)⟩
  , ⟨0x3110, 0x3110, 23, 23, .u64, .r, .r, .r, .no, .r, .immediate, 0⟩
  , ⟨0x3120, 0x3120, 1, 1, .i64, .r, .r, .r, .no, .r, .immediate, 0⟩
  , ⟨0x3120, 0x3120, 2, 2, .i64, .r, .r, .r, .no, .r, .immediate, 0⟩
  , ⟨0x3120, 0x3120, 3, 3, .i64, .r, .r, .r, .no, .r, .immediate, 0⟩ ]

/-- Object rows of index page 0x31, part 1. -/
def catalogue31x1 : List ObjRow :=
  [ ⟨0x3120, 0x3120, 4, 4, .u32, .rw, .r, .rw, .no, .no, .nextTick, 100000⟩
  , ⟨0x3120, 0x3120, 5, 5, .u64, .r, .r, .r, .no, .no, .immediate, 0⟩
  , ⟨0x3120, 0x3120, 6, 6, .bound32, .r, .r, .r, .no, .r, .immediate, 1⟩
  , ⟨0x3120, 0x3120, 7, 7, .i64, .w, .no, .w, .no, .no, .nextTick, 0⟩
  , ⟨0x3120, 0x3120, 8, 8, .u64, .r, .r, .r, .no, .no, .immediate, 0⟩
  , ⟨0x3120, 0x3120, 9, 9, .i64, .r, .r, .r, .no, .r, .immediate, 0⟩
  , ⟨0x3121, 0x3121, 1, 4, .blob, .rw, .r, .rw, .no, .no, .nextSecond, 0⟩ ]

/-- Object rows of index page 0x32, part 0. -/
def catalogue32x0 : List ObjRow :=
  [ ⟨0x3200, 0x3200, 1, 1, .u16, .rw, .r, .rw, .no, .r, .nextSecond, 768⟩
  , ⟨0x3200, 0x3200, 2, 2, .u32, .r, .r, .r, .no, .r, .immediate, 0⟩
  , ⟨0x3200, 0x3200, 3, 3, .u32, .r, .r, .r, .no, .r, .immediate, 0⟩
  , ⟨0x3200, 0x3200, 4, 4, .bound32, .r, .r, .r, .no, .r, .immediate, 0⟩
  , ⟨0x3200, 0x3200, 5, 5, .u8, .r, .r, .r, .r, .r, .immediate, 0⟩
  , ⟨0x3200, 0x3200, 6, 6, .u32, .r, .r, .r, .no, .r, .immediate, 0⟩
  , ⟨0x3200, 0x3200, 8, 8, .u64, .r, .r, .r, .no, .no, .immediate, 0⟩
  , ⟨0x3200, 0x3200, 9, 9, .blob, .r, .r, .r, .r, .r, .immediate, 0⟩
  , ⟨0x3202, 0x3202, 0, 0, .blob, .r, .r, .r, .no, .r, .immediate, 0⟩
  , ⟨0x3210, 0x3210, 0, 255, .u32, .rw, .r, .rw, .no, .no, .nextSecond, 0⟩
  , ⟨0x3211, 0x3211, 0, 255, .bound32, .r, .r, .r, .no, .r, .immediate, 4294967295⟩
  , ⟨0x3212, 0x3212, 0, 255, .u32, .r, .r, .r, .no, .r, .immediate, 0⟩
  , ⟨0x3213, 0x3213, 0, 255, .u64, .r, .r, .r, .no, .no, .immediate, 0⟩
  , ⟨0x3220, 0x3220, 1, 1, .bound32, .rw, .r, .rw, .no, .r, .nextTick, 100000⟩
  , ⟨0x3220, 0x3220, 2, 2, .bound32, .rw, .r, .rw, .no, .r, .nextTick, 1000000000⟩
  , ⟨0x3220, 0x3220, 3, 3, .bound32, .rw, .r, .rw, .no, .r, .nextTick, 1000000000⟩
  , ⟨0x3220, 0x3220, 4, 4, .bound32, .rw, .r, .rw, .no, .r, .nextTick, 1000000⟩
  , ⟨0x3221, 0x3221, 1, 3, .u64, .r, .r, .r, .no, .no, .immediate, 0⟩
  , ⟨0x3222, 0x3222, 1, 3, .bool, .r, .r, .r, .r, .r, .immediate, 0⟩
  , ⟨0x3230, 0x3230, 1, 1, .u8, .rw, .r, .rw, .no, .r, .nextTick, 15⟩
  , ⟨0x3230, 0x3230, 2, 2, .u32, .r, .r, .r, .r, .r, .immediate, (Config.fused 0x323002 % 2 ^ 24 : Nat)⟩
  , ⟨0x3230, 0x3230, 3, 3, .u8, .rw, .r, .rw, .no, .r, .nextTick, 1⟩
  , ⟨0x3230, 0x3230, 4, 4, .u16, .rw, .r, .rw, .no, .r, .nextTick, 62897⟩
  , ⟨0x3230, 0x3230, 5, 5, .bool, .rw, .r, .rw, .no, .r, .nextTick, 1⟩ ]

/-- Object rows of index page 0x40, part 0. -/
def catalogue40x0 : List ObjRow :=
  [ ⟨0x4000, 0x4000, 1, 1, .bool, .rw, .r, .rw, .no, .no, .nextTick, 1⟩
  , ⟨0x4000, 0x4000, 2, 2, .u8, .r, .r, .r, .no, .no, .immediate, 0⟩
  , ⟨0x4000, 0x4000, 3, 3, .u64, .r, .r, .r, .no, .no, .immediate, 0⟩
  , ⟨0x4000, 0x4000, 4, 4, .u16, .rw, .r, .rw, .no, .no, .nextTick, 50⟩
  , ⟨0x4000, 0x4000, 5, 5, .u8, .rw, .r, .rw, .no, .no, .nextSecond, 1⟩
  , ⟨0x4000, 0x4000, 6, 6, .u8, .rw, .r, .rw, .no, .no, .nextSecond, 1⟩
  , ⟨0x4000, 0x4000, 7, 7, .u32, .r, .r, .r, .no, .no, .immediate, 6083⟩
  , ⟨0x4001, 0x4001, 1, 4, .u8, .rw, .r, .rw, .no, .no, .nextSecond, 7⟩
  , ⟨0x4002, 0x4002, 1, 4, .u8, .rw, .r, .rw, .no, .no, .nextSecond, 4⟩
  , ⟨0x4003, 0x4003, 1, 4, .u8, .r, .r, .r, .no, .no, .immediate, 0⟩
  , ⟨0x4004, 0x4004, 1, 4, .u16, .r, .r, .r, .no, .no, .immediate, 0⟩
  , ⟨0x4005, 0x4005, 1, 4, .u16, .r, .r, .r, .no, .no, .immediate, 0⟩
  , ⟨0x4006, 0x4006, 1, 1, .u8, .rw, .r, .rw, .no, .no, .nextSecond, 0⟩
  , ⟨0x4006, 0x4006, 2, 2, .u8, .rw, .r, .rw, .no, .no, .nextSecond, 1⟩
  , ⟨0x4006, 0x4006, 3, 3, .u8, .rw, .r, .rw, .no, .no, .nextSecond, 2⟩
  , ⟨0x4006, 0x4006, 4, 4, .u8, .rw, .r, .rw, .no, .no, .nextSecond, 3⟩
  , ⟨0x4006, 0x4006, 5, 5, .u8, .rw, .r, .rw, .no, .no, .nextSecond, 0⟩
  , ⟨0x4006, 0x4006, 6, 6, .u8, .rw, .r, .rw, .no, .no, .nextSecond, 1⟩
  , ⟨0x4006, 0x4006, 7, 7, .u8, .rw, .r, .rw, .no, .no, .nextSecond, 2⟩
  , ⟨0x4006, 0x4006, 8, 8, .u8, .rw, .r, .rw, .no, .no, .nextSecond, 3⟩
  , ⟨0x4006, 0x4006, 9, 9, .u8, .rw, .r, .rw, .no, .no, .nextSecond, 0⟩
  , ⟨0x4006, 0x4006, 10, 10, .u8, .rw, .r, .rw, .no, .no, .nextSecond, 1⟩
  , ⟨0x4006, 0x4006, 11, 11, .u8, .rw, .r, .rw, .no, .no, .nextSecond, 2⟩
  , ⟨0x4006, 0x4006, 12, 12, .u8, .rw, .r, .rw, .no, .no, .nextSecond, 3⟩
  , ⟨0x4006, 0x4006, 13, 13, .u8, .rw, .r, .rw, .no, .no, .nextSecond, 0⟩
  , ⟨0x4006, 0x4006, 14, 14, .u8, .rw, .r, .rw, .no, .no, .nextSecond, 1⟩
  , ⟨0x4006, 0x4006, 15, 15, .u8, .rw, .r, .rw, .no, .no, .nextSecond, 2⟩
  , ⟨0x4006, 0x4006, 16, 16, .u8, .rw, .r, .rw, .no, .no, .nextSecond, 3⟩
  , ⟨0x4007, 0x4007, 1, 4, .u64, .r, .r, .r, .no, .no, .immediate, 0⟩
  , ⟨0x4008, 0x4008, 1, 4, .u64, .r, .r, .r, .no, .no, .immediate, 0⟩
  , ⟨0x4009, 0x4009, 1, 4, .u64, .r, .r, .r, .no, .no, .immediate, 0⟩
  , ⟨0x400A, 0x400A, 1, 4, .u64, .r, .r, .r, .no, .no, .immediate, 0⟩
  , ⟨0x4010, 0x4010, 1, 1, .u64, .rw, .r, .rw, .no, .no, .nextSecond, 103246725120000⟩
  , ⟨0x4010, 0x4010, 2, 2, .u64, .rw, .r, .rw, .no, .no, .nextSecond, 80451993600000⟩
  , ⟨0x4010, 0x4010, 3, 3, .u64, .rw, .r, .rw, .no, .no, .nextSecond, 77099827200000⟩
  , ⟨0x4010, 0x4010, 4, 4, .u64, .rw, .r, .rw, .no, .no, .nextSecond, 103246725120000⟩
  , ⟨0x4010, 0x4010, 5, 5, .u64, .rw, .r, .rw, .no, .no, .nextSecond, 80451993600000⟩
  , ⟨0x4010, 0x4010, 6, 6, .u64, .rw, .r, .rw, .no, .no, .nextSecond, 77099827200000⟩
  , ⟨0x4010, 0x4010, 7, 7, .u64, .rw, .r, .rw, .no, .no, .nextSecond, 103246725120000⟩
  , ⟨0x4010, 0x4010, 8, 8, .u64, .rw, .r, .rw, .no, .no, .nextSecond, 80451993600000⟩ ]

/-- Object rows of index page 0x40, part 1. -/
def catalogue40x1 : List ObjRow :=
  [ ⟨0x4010, 0x4010, 9, 9, .u64, .rw, .r, .rw, .no, .no, .nextSecond, 77099827200000⟩
  , ⟨0x4010, 0x4010, 10, 10, .u64, .rw, .r, .rw, .no, .no, .nextSecond, 103246725120000⟩
  , ⟨0x4010, 0x4010, 11, 11, .u64, .rw, .r, .rw, .no, .no, .nextSecond, 80451993600000⟩
  , ⟨0x4010, 0x4010, 12, 12, .u64, .rw, .r, .rw, .no, .no, .nextSecond, 77099827200000⟩
  , ⟨0x4011, 0x4011, 1, 12, .i32, .rw, .r, .rw, .no, .no, .nextSecond, 0⟩
  , ⟨0x4012, 0x4012, 1, 12, .u16, .r, .r, .r, .no, .no, .immediate, 0⟩
  , ⟨0x4013, 0x4013, 1, 12, .u64, .r, .r, .r, .no, .no, .immediate, 0⟩
  , ⟨0x4020, 0x4020, 1, 12, .u16, .rw, .r, .rw, .no, .no, .nextSecond, 64⟩
  , ⟨0x4021, 0x4021, 1, 12, .u8, .rw, .r, .rw, .no, .no, .nextSecond, 8⟩
  , ⟨0x4022, 0x4022, 1, 12, .u16, .rw, .r, .rw, .no, .no, .nextSecond, 32⟩
  , ⟨0x4023, 0x4023, 1, 12, .u16, .r, .r, .r, .no, .no, .immediate, 0⟩
  , ⟨0x4024, 0x4024, 1, 12, .u64, .r, .r, .r, .no, .no, .immediate, 0⟩
  , ⟨0x4025, 0x4025, 1, 12, .u16, .rw, .r, .rw, .no, .no, .nextSecond, 32768⟩
  , ⟨0x4026, 0x4026, 1, 12, .u64, .r, .r, .r, .no, .no, .immediate, 0⟩
  , ⟨0x4030, 0x4030, 1, 12, .bool, .rw, .r, .rw, .no, .no, .nextSecond, 1⟩
  , ⟨0x4031, 0x4031, 1, 12, .u8, .rw, .r, .rw, .no, .no, .nextSecond, 15⟩
  , ⟨0x4032, 0x4032, 1, 12, .u8, .rw, .r, .rw, .no, .no, .nextSecond, 7⟩
  , ⟨0x4033, 0x4033, 1, 12, .u8, .r, .r, .r, .no, .no, .immediate, 0⟩
  , ⟨0x4034, 0x4034, 1, 12, .blob, .r, .r, .r, .no, .no, .immediate, 0⟩
  , ⟨0x4035, 0x4035, 1, 12, .u64, .r, .r, .r, .no, .no, .immediate, 0⟩
  , ⟨0x4036, 0x4036, 1, 12, .u64, .r, .r, .r, .no, .no, .immediate, 0⟩
  , ⟨0x4040, 0x4040, 1, 12, .u8, .rw, .r, .rw, .no, .no, .nextSecond, 0⟩
  , ⟨0x4041, 0x4041, 1, 12, .u16, .rw, .r, .rw, .no, .no, .nextSecond, 600⟩
  , ⟨0x4042, 0x4042, 1, 12, .u16, .rw, .r, .rw, .no, .no, .nextSecond, 3000⟩
  , ⟨0x4043, 0x4043, 1, 12, .u16, .r, .r, .r, .no, .no, .immediate, 0⟩
  , ⟨0x4050, 0x4050, 1, 1, .u8, .rw, .r, .rw, .no, .no, .nextSecond, 4⟩
  , ⟨0x4050, 0x4050, 2, 2, .u16, .rw, .r, .rw, .no, .no, .nextSecond, 500⟩
  , ⟨0x4050, 0x4050, 3, 3, .u16, .rw, .r, .rw, .no, .no, .nextSecond, 1536⟩
  , ⟨0x4050, 0x4050, 4, 4, .u32, .rw, .r, .rw, .no, .no, .nextSecond, 12000⟩
  , ⟨0x4050, 0x4050, 5, 5, .u64, .r, .r, .r, .no, .no, .immediate, 0⟩
  , ⟨0x4050, 0x4050, 6, 6, .u64, .r, .r, .r, .no, .no, .immediate, 0⟩
  , ⟨0x4050, 0x4050, 7, 7, .u64, .r, .r, .r, .no, .no, .immediate, 0⟩
  , ⟨0x4060, 0x4060, 0, 255, .bool, .rw, .r, .rw, .no, .no, .nextSecond, 1⟩
  , ⟨0x4061, 0x4061, 0, 255, .u16, .rw, .r, .rw, .no, .no, .nextSecond, 410⟩
  , ⟨0x4062, 0x4062, 0, 255, .u16, .rw, .r, .rw, .no, .no, .nextSecond, 2048⟩
  , ⟨0x4063, 0x4063, 0, 255, .u16, .rw, .r, .rw, .no, .no, .nextSecond, 102⟩
  , ⟨0x4064, 0x4064, 0, 255, .u16, .rw, .r, .rw, .no, .no, .nextSecond, 96⟩
  , ⟨0x4065, 0x4065, 0, 255, .u16, .rw, .r, .rw, .no, .no, .nextSecond, 128⟩
  , ⟨0x4066, 0x4066, 0, 255, .u16, .rw, .r, .rw, .no, .no, .nextSecond, 96⟩
  , ⟨0x4067, 0x4067, 34, 34, .u8, .rw, .r, .rw, .no, .no, .nextSecond, 10⟩ ]

/-- Object rows of index page 0x40, part 2. -/
def catalogue40x2 : List ObjRow :=
  [ ⟨0x4067, 0x4067, 35, 35, .u8, .rw, .r, .rw, .no, .no, .nextSecond, 5⟩
  , ⟨0x4067, 0x4067, 49, 50, .u8, .rw, .r, .rw, .no, .no, .nextSecond, 10⟩
  , ⟨0x4067, 0x4067, 0, 255, .u8, .rw, .r, .rw, .no, .no, .nextSecond, 20⟩
  , ⟨0x4068, 0x4068, 0, 255, .u8, .rw, .r, .rw, .no, .no, .nextSecond, 0⟩
  , ⟨0x4069, 0x4069, 0, 255, .u16, .rw, .r, .rw, .no, .no, .nextSecond, 3277⟩
  , ⟨0x406A, 0x406A, 0, 255, .u64, .r, .r, .r, .no, .no, .immediate, 0⟩
  , ⟨0x406B, 0x406B, 0, 255, .u64, .r, .r, .r, .no, .no, .immediate, 0⟩
  , ⟨0x406C, 0x406C, 0, 255, .u64, .r, .r, .r, .no, .no, .immediate, 0⟩
  , ⟨0x406D, 0x406D, 0, 255, .u16, .rw, .r, .rw, .no, .no, .nextSecond, 6400⟩
  , ⟨0x4070, 0x4070, 0, 255, .blob, .rw, .r, .rw, .no, .no, .nextTick, 0⟩
  , ⟨0x4071, 0x4071, 0, 255, .u8, .r, .r, .r, .no, .no, .immediate, 0⟩
  , ⟨0x4072, 0x4072, 0, 255, .i16, .rw, .r, .rw, .no, .no, .nextTick, (-32768)⟩
  , ⟨0x4073, 0x4073, 0, 255, .bool, .r, .r, .r, .no, .no, .immediate, 0⟩
  , ⟨0x4074, 0x4074, 0, 255, .u64, .r, .r, .r, .no, .no, .immediate, 0⟩
  , ⟨0x4075, 0x4075, 0, 255, .u64, .r, .r, .r, .no, .no, .immediate, 0⟩
  , ⟨0x4078, 0x4078, 1, 1, .u8, .rw, .r, .rw, .no, .no, .nextSecond, 0⟩
  , ⟨0x4078, 0x4078, 2, 2, .u8, .rw, .r, .rw, .no, .no, .nextSecond, 8⟩
  , ⟨0x4079, 0x4079, 0, 0, .u64, .r, .r, .r, .no, .no, .immediate, 0⟩ ]

/-- Object rows of index page 0x41, part 0. -/
def catalogue41x0 : List ObjRow :=
  [ ⟨0x4100, 0x4100, 1, 1, .u8, .r, .r, .r, .no, .r, .immediate, 0⟩
  , ⟨0x4100, 0x4100, 2, 2, .u8, .rw, .r, .rw, .no, .no, .nextSecond, 1⟩
  , ⟨0x4100, 0x4100, 3, 3, .u8, .rw, .r, .rw, .no, .no, .nextSecond, 1⟩
  , ⟨0x4100, 0x4100, 4, 4, .u32, .rw, .r, .rw, .no, .no, .nextSecond, 2000⟩
  , ⟨0x4100, 0x4100, 5, 5, .u16, .rw, .r, .rw, .no, .no, .nextSecond, 1280⟩
  , ⟨0x4100, 0x4100, 6, 6, .u16, .rw, .r, .rw, .no, .no, .nextSecond, 100⟩
  , ⟨0x4100, 0x4100, 7, 7, .u8, .rw, .r, .rw, .no, .no, .nextSecond, 0⟩
  , ⟨0x4100, 0x4100, 8, 8, .u16, .rw, .r, .rw, .no, .no, .nextSecond, 300⟩
  , ⟨0x4100, 0x4100, 9, 9, .blob, .r, .r, .r, .no, .no, .immediate, 0⟩
  , ⟨0x4100, 0x4100, 10, 10, .u64, .r, .r, .r, .no, .no, .immediate, 0⟩
  , ⟨0x4100, 0x4100, 11, 11, .u64, .r, .r, .r, .no, .no, .immediate, 0⟩
  , ⟨0x4100, 0x4100, 12, 12, .u32, .r, .r, .r, .no, .no, .immediate, 0⟩
  , ⟨0x4110, 0x4110, 1, 4, .i32, .rw, .r, .rw, .no, .no, .nextSecond, 0⟩
  , ⟨0x4111, 0x4111, 1, 4, .u32, .rw, .r, .rw, .no, .no, .nextSecond, 500⟩
  , ⟨0x4112, 0x4112, 1, 12, .u32, .rw, .r, .rw, .no, .no, .nextSecond, 500⟩
  , ⟨0x4113, 0x4113, 1, 12, .i32, .rw, .r, .rw, .no, .no, .nextSecond, 0⟩
  , ⟨0x4114, 0x4114, 1, 12, .u32, .rw, .r, .rw, .no, .no, .nextSecond, 300⟩
  , ⟨0x4115, 0x4115, 0, 255, .i32, .rw, .r, .rw, .no, .no, .nextSecond, 0⟩
  , ⟨0x4116, 0x4116, 0, 255, .u32, .rw, .r, .rw, .no, .no, .nextSecond, 300⟩
  , ⟨0x4117, 0x4117, 1, 4, .i32, .rw, .r, .rw, .no, .no, .nextSecond, 0⟩
  , ⟨0x4118, 0x4118, 1, 4, .u32, .rw, .r, .rw, .no, .no, .nextSecond, 2000⟩
  , ⟨0x4119, 0x4119, 1, 4, .i32, .r, .r, .r, .no, .no, .immediate, 0⟩
  , ⟨0x411A, 0x411A, 0, 0, .blob, .rw, .r, .rw, .no, .no, .nextSecond, 0⟩
  , ⟨0x4120, 0x4120, 1, 4, .blob, .rw, .r, .rw, .no, .no, .nextSecond, 0⟩
  , ⟨0x4121, 0x4121, 0, 0, .u8, .rw, .r, .rw, .no, .no, .nextSecond, 1⟩
  , ⟨0x4122, 0x4122, 1, 1, .u32, .rw, .r, .rw, .no, .no, .nextSecond, 86400⟩
  , ⟨0x4122, 0x4122, 2, 2, .u16, .rw, .r, .rw, .no, .no, .nextSecond, 300⟩
  , ⟨0x4122, 0x4122, 3, 3, .u32, .r, .r, .r, .no, .no, .immediate, 0⟩
  , ⟨0x4122, 0x4122, 4, 4, .u64, .r, .r, .r, .no, .no, .immediate, 0⟩
  , ⟨0x4122, 0x4122, 5, 5, .u16, .rw, .r, .rw, .no, .no, .nextSecond, 1000⟩
  , ⟨0x4122, 0x4122, 6, 6, .u64, .r, .r, .r, .no, .no, .immediate, 0⟩
  , ⟨0x4123, 0x4123, 1, 3, .blob, .rw, .r, .rw, .no, .no, .nextSecond, 0⟩
  , ⟨0x4130, 0x4130, 1, 1, .u16, .rw, .r, .rw, .no, .no, .nextSecond, 17469⟩
  , ⟨0x4130, 0x4130, 2, 2, .u8, .rw, .r, .rw, .no, .no, .nextSecond, 2⟩
  , ⟨0x4130, 0x4130, 3, 3, .u64, .r, .r, .r, .no, .no, .immediate, 0⟩
  , ⟨0x4130, 0x4130, 4, 4, .u64, .r, .r, .r, .no, .no, .immediate, 0⟩
  , ⟨0x4140, 0x4140, 1, 1, .u8, .rw, .r, .rw, .no, .no, .nextSecond, 2⟩
  , ⟨0x4140, 0x4140, 2, 2, .i32, .rw, .r, .rw, .no, .no, .nextSecond, 13107⟩
  , ⟨0x4140, 0x4140, 3, 3, .i32, .rw, .r, .rw, .no, .no, .nextSecond, (-13107)⟩
  , ⟨0x4140, 0x4140, 4, 4, .u8, .rw, .r, .rw, .no, .no, .nextSecond, 3⟩ ]

/-- Object rows of index page 0x41, part 1. -/
def catalogue41x1 : List ObjRow :=
  [ ⟨0x4140, 0x4140, 5, 5, .u16, .rw, .r, .rw, .no, .no, .nextSecond, 60⟩
  , ⟨0x4140, 0x4140, 6, 6, .u8, .rw, .r, .rw, .no, .no, .nextSecond, 12⟩
  , ⟨0x4140, 0x4140, 7, 7, .u16, .rw, .r, .rw, .no, .no, .nextSecond, 600⟩
  , ⟨0x4140, 0x4140, 8, 8, .i32, .r, .r, .r, .no, .r, .immediate, (-2147483648)⟩
  , ⟨0x4140, 0x4140, 9, 9, .bool, .r, .r, .r, .no, .r, .immediate, 0⟩
  , ⟨0x4140, 0x4140, 10, 10, .u64, .r, .r, .r, .no, .no, .immediate, 0⟩
  , ⟨0x4140, 0x4140, 11, 11, .u64, .r, .r, .r, .no, .no, .immediate, 0⟩
  , ⟨0x4150, 0x4150, 1, 1, .u16, .r, .r, .r, .no, .no, .immediate, (Config.fused 0x415001 : Nat)⟩
  , ⟨0x4150, 0x4150, 2, 2, .u16, .r, .r, .r, .no, .r, .immediate, 0⟩
  , ⟨0x4150, 0x4150, 3, 3, .u8, .r, .r, .r, .no, .r, .immediate, 0⟩
  , ⟨0x4150, 0x4150, 4, 4, .u64, .r, .r, .r, .no, .no, .immediate, 0⟩ ]

/-- Object rows of index page 0x50, part 0. -/
def catalogue50x0 : List ObjRow :=
  [ ⟨0x5000, 0x5000, 1, 64, .u8, .rw, .r, .rw, .no, .no, .nextTick, 0⟩
  , ⟨0x5001, 0x5001, 1, 64, .u8, .rw, .r, .rw, .no, .no, .nextTick, 0⟩
  , ⟨0x5002, 0x5002, 1, 64, .u64, .rw, .r, .rw, .no, .no, .nextTick, 104857600⟩
  , ⟨0x5003, 0x5003, 1, 64, .u32, .rw, .r, .rw, .no, .no, .nextTick, 1⟩
  , ⟨0x5004, 0x5004, 1, 64, .u8, .rw, .r, .rw, .no, .no, .nextSecond, 13⟩
  , ⟨0x5005, 0x5005, 1, 64, .bool, .rw, .r, .rw, .no, .no, .nextTick, 0⟩
  , ⟨0x5006, 0x5006, 1, 64, .u8, .rw, .r, .rw, .no, .no, .nextTick, 0⟩
  , ⟨0x5007, 0x5007, 1, 64, .u8, .rw, .r, .rw, .no, .no, .nextTick, 6⟩
  , ⟨0x5008, 0x5008, 1, 64, .u32, .rw, .r, .rw, .no, .no, .nextTick, 10⟩
  , ⟨0x5009, 0x5009, 1, 64, .u32, .r, .r, .r, .no, .no, .nextTick, 0⟩
  , ⟨0x500A, 0x500A, 1, 64, .u32, .r, .r, .r, .no, .no, .nextTick, 600⟩
  , ⟨0x5010, 0x5010, 1, 128, .u8, .r, .r, .r, .no, .no, .immediate, 0⟩
  , ⟨0x5011, 0x5011, 1, 128, .u32, .r, .r, .r, .no, .no, .immediate, 0⟩
  , ⟨0x5012, 0x5012, 1, 128, .u16, .r, .r, .r, .no, .no, .immediate, 0⟩
  , ⟨0x5013, 0x5013, 1, 64, .i32, .r, .r, .r, .no, .no, .immediate, 0⟩
  , ⟨0x5014, 0x5014, 1, 64, .blob, .r, .r, .r, .no, .no, .immediate, 0⟩
  , ⟨0x5015, 0x5015, 1, 64, .bound32, .r, .r, .r, .no, .no, .nextTick, 0⟩
  , ⟨0x5020, 0x5020, 1, 64, .u64, .r, .r, .r, .no, .no, .immediate, 0⟩
  , ⟨0x5021, 0x5021, 1, 64, .bool, .rw, .r, .r, .no, .no, .immediate, 0⟩
  , ⟨0x5022, 0x5022, 1, 64, .u64, .r, .r, .r, .no, .no, .immediate, 0⟩
  , ⟨0x5023, 0x5023, 1, 64, .u64, .r, .r, .r, .no, .no, .immediate, 0⟩
  , ⟨0x5024, 0x5024, 1, 64, .u64, .r, .r, .r, .no, .no, .immediate, 0⟩
  , ⟨0x5025, 0x5025, 1, 64, .u64, .r, .r, .r, .no, .no, .immediate, 0⟩
  , ⟨0x5026, 0x5026, 1, 64, .u64, .r, .r, .r, .no, .no, .immediate, 0⟩
  , ⟨0x5027, 0x5027, 1, 128, .u64, .r, .r, .r, .no, .no, .immediate, 0⟩
  , ⟨0x5028, 0x5028, 1, 128, .u64, .r, .r, .r, .no, .no, .immediate, 0⟩
  , ⟨0x5029, 0x5029, 1, 64, .u64, .r, .r, .r, .no, .no, .immediate, 0⟩
  , ⟨0x502A, 0x502A, 1, 128, .u64, .r, .r, .r, .no, .no, .immediate, 0⟩ ]

/-- Object rows of index page 0x51, part 0. -/
def catalogue51x0 : List ObjRow :=
  [ ⟨0x5100, 0x5100, 1, 64, .u8, .rw, .r, .rw, .no, .no, .nextSecond, 0⟩
  , ⟨0x5101, 0x5101, 1, 64, .u32, .rw, .r, .rw, .no, .no, .nextTick, 1000000⟩
  , ⟨0x5102, 0x5102, 1, 64, .u32, .rw, .r, .rw, .no, .no, .nextTick, 10000⟩
  , ⟨0x5103, 0x5103, 1, 64, .u8, .rw, .r, .rw, .no, .no, .nextTick, 1⟩
  , ⟨0x5104, 0x5104, 1, 64, .i32, .rw, .r, .rw, .no, .no, .nextSecond, 0⟩
  , ⟨0x5105, 0x5105, 1, 64, .u32, .rw, .r, .rw, .no, .no, .nextSecond, 50⟩
  , ⟨0x5106, 0x5106, 1, 64, .u8, .rw, .r, .rw, .no, .no, .nextSecond, 255⟩
  , ⟨0x5107, 0x5107, 1, 64, .u32, .rw, .r, .rw, .no, .no, .nextSecond, 9600⟩
  , ⟨0x5108, 0x5108, 1, 64, .u16, .rw, .r, .rw, .no, .no, .nextTick, 10⟩
  , ⟨0x5109, 0x5109, 1, 64, .blob, .rw, .r, .rw, .no, .no, .nextTick, 0⟩
  , ⟨0x510A, 0x510A, 1, 64, .bool, .r, .r, .r, .no, .no, .immediate, 0⟩
  , ⟨0x510B, 0x510B, 1, 64, .u64, .r, .r, .r, .no, .no, .immediate, 0⟩
  , ⟨0x510C, 0x510C, 1, 64, .i64, .r, .r, .r, .no, .r, .immediate, 0⟩
  , ⟨0x510D, 0x510D, 1, 64, .bool, .r, .r, .r, .no, .r, .immediate, 0⟩
  , ⟨0x510E, 0x510E, 1, 64, .u64, .rw, .r, .rw, .no, .no, .nextSecond, 1048576000000000⟩
  , ⟨0x510F, 0x510F, 1, 64, .i64, .rw, .r, .rw, .no, .no, .nextSecond, 0⟩
  , ⟨0x5110, 0x5110, 1, 64, .u64, .rw, .r, .rw, .no, .no, .nextSecond, 104857600000⟩
  , ⟨0x5120, 0x5120, 1, 64, .u8, .rw, .r, .rw, .no, .no, .nextSecond, 1⟩ ]

/-- Object rows of index page 0x60, part 0. -/
def catalogue60x0 : List ObjRow :=
  [ ⟨0x6000, 0x6000, 1, 8, .u8, .rw, .r, .rw, .no, .no, .nextSecond, 0⟩
  , ⟨0x6001, 0x6001, 1, 16, .u8, .rw, .r, .rw, .no, .no, .nextSecond, 0⟩
  , ⟨0x6002, 0x6002, 1, 1, .u32, .rw, .r, .rw, .no, .no, .nextSecond, 0⟩
  , ⟨0x6002, 0x6002, 2, 2, .u8, .rw, .r, .rw, .no, .no, .nextTick, 0⟩
  , ⟨0x6002, 0x6002, 3, 3, .u64, .r, .r, .r, .no, .no, .immediate, 0⟩
  , ⟨0x6003, 0x6003, 1, 16, .u8, .r, .r, .r, .r, .no, .immediate, 0⟩
  , ⟨0x6004, 0x6004, 1, 16, .u16, .rw, .r, .rw, .no, .no, .nextSecond, 1522⟩
  , ⟨0x6005, 0x6005, 1, 16, .bool, .rw, .r, .rw, .no, .no, .nextTick, 0⟩
  , ⟨0x6006, 0x6006, 1, 16, .bool, .rw, .r, .rw, .no, .no, .nextTick, 1⟩
  , ⟨0x6007, 0x6007, 1, 16, .u8, .rw, .r, .rw, .no, .no, .nextSecond, 0⟩
  , ⟨0x6010, 0x6010, 1, 16, .i32, .rw, .r, .rw, .no, .no, .nextSecond, 0⟩
  , ⟨0x6011, 0x6011, 1, 16, .i32, .rw, .r, .rw, .no, .no, .nextSecond, 0⟩
  , ⟨0x6012, 0x6012, 1, 16, .u32, .rw, .r, .rw, .no, .no, .nextSecond, 50⟩
  , ⟨0x6013, 0x6013, 1, 16, .u32, .r, .r, .r, .no, .no, .immediate, 0⟩
  , ⟨0x6014, 0x6014, 1, 16, .i32, .rw, .r, .rw, .no, .no, .nextSecond, 0⟩
  , ⟨0x6015, 0x6015, 1, 16, .u16, .rw, .r, .rw, .no, .no, .nextTick, 10⟩
  , ⟨0x6020, 0x6020, 1, 16, .blob, .rw, .r, .rw, .no, .no, .nextTick, 0⟩
  , ⟨0x6030, 0x6030, 1, 64, .blob, .rw, .r, .rw, .no, .no, .nextTick, 0⟩
  , ⟨0x6031, 0x6031, 1, 64, .u64, .r, .r, .r, .no, .no, .immediate, 0⟩
  , ⟨0x6040, 0x6040, 1, 8, .blob, .rw, .r, .rw, .no, .no, .nextSecond, 0⟩
  , ⟨0x6041, 0x6041, 1, 8, .u16, .r, .r, .r, .no, .no, .immediate, 0⟩
  , ⟨0x6050, 0x6050, 1, 16, .bool, .rw, .r, .rw, .no, .no, .nextTick, 1⟩
  , ⟨0x6051, 0x6051, 1, 1, .u8, .rw, .r, .rw, .no, .no, .nextTick, 1⟩
  , ⟨0x6051, 0x6051, 2, 2, .u8, .rw, .r, .rw, .no, .no, .nextTick, 2⟩
  , ⟨0x6051, 0x6051, 3, 3, .u8, .rw, .r, .rw, .no, .no, .nextTick, 4⟩
  , ⟨0x6051, 0x6051, 4, 4, .u8, .rw, .r, .rw, .no, .no, .nextTick, 11⟩
  , ⟨0x6052, 0x6052, 1, 16, .u8, .r, .r, .r, .r, .no, .immediate, 255⟩
  , ⟨0x6053, 0x6053, 1, 16, .u64, .r, .r, .r, .no, .no, .immediate, 0⟩
  , ⟨0x6060, 0x6060, 1, 16, .u64, .r, .r, .r, .no, .no, .immediate, 0⟩
  , ⟨0x6061, 0x6061, 1, 16, .u64, .r, .r, .r, .no, .no, .immediate, 0⟩
  , ⟨0x6062, 0x6062, 1, 16, .u64, .r, .r, .r, .no, .no, .immediate, 0⟩
  , ⟨0x6063, 0x6063, 1, 16, .u64, .r, .r, .r, .no, .no, .immediate, 0⟩
  , ⟨0x6064, 0x6064, 1, 16, .u8, .rw, .r, .r, .no, .no, .immediate, 0⟩
  , ⟨0x6065, 0x6065, 1, 16, .u64, .r, .r, .r, .no, .no, .immediate, 0⟩
  , ⟨0x6066, 0x6066, 1, 16, .u64, .r, .r, .r, .no, .no, .immediate, 0⟩
  , ⟨0x6067, 0x6067, 1, 16, .u64, .r, .r, .r, .no, .no, .immediate, 0⟩
  , ⟨0x6068, 0x6068, 1, 16, .u64, .r, .r, .r, .no, .no, .immediate, 0⟩
  , ⟨0x6069, 0x6069, 1, 16, .u64, .r, .r, .r, .no, .no, .immediate, 0⟩
  , ⟨0x606A, 0x606A, 1, 16, .u64, .r, .r, .r, .no, .no, .immediate, 0⟩
  , ⟨0x606B, 0x606B, 1, 16, .u64, .r, .r, .r, .no, .no, .immediate, 0⟩ ]

/-- Object rows of index page 0x60, part 1. -/
def catalogue60x1 : List ObjRow :=
  [ ⟨0x606C, 0x606C, 1, 16, .u64, .r, .r, .r, .no, .no, .immediate, 0⟩
  , ⟨0x606D, 0x606D, 1, 16, .u64, .r, .r, .r, .no, .no, .immediate, 0⟩
  , ⟨0x606E, 0x606E, 1, 16, .u64, .r, .r, .r, .no, .no, .immediate, 0⟩
  , ⟨0x606F, 0x606F, 1, 16, .u64, .r, .r, .r, .no, .no, .immediate, 0⟩
  , ⟨0x6070, 0x6070, 1, 16, .u64, .r, .r, .r, .no, .no, .immediate, 0⟩ ]

/-- Object rows of index page 0x70, part 0. -/
def catalogue70x0 : List ObjRow :=
  [ ⟨0x7000, 0x7000, 1, 1, .u8, .rw, .r, .rw, .r, .no, .nextTick, 7⟩
  , ⟨0x7000, 0x7000, 2, 2, .u32, .rw, .r, .rw, .no, .no, .nextTick, 16000000⟩
  , ⟨0x7000, 0x7000, 3, 3, .u32, .rw, .r, .rw, .no, .no, .nextTick, 4000000⟩
  , ⟨0x7000, 0x7000, 4, 4, .u32, .rw, .r, .rw, .no, .no, .nextTick, 4000000⟩
  , ⟨0x7000, 0x7000, 5, 5, .u32, .rw, .r, .rw, .no, .no, .nextTick, 2000000⟩
  , ⟨0x7000, 0x7000, 6, 6, .u32, .rw, .r, .rw, .no, .no, .nextTick, 131072⟩
  , ⟨0x7010, 0x7010, 1, 1, .u32, .rw, .r, .rw, .no, .no, .nextSecond, 0⟩
  , ⟨0x7010, 0x7010, 2, 2, .u8, .rw, .r, .rw, .no, .no, .nextSecond, 64⟩
  , ⟨0x7011, 0x7011, 1, 1, .u16, .rw, .r, .rw, .no, .no, .nextTick, 16⟩
  , ⟨0x7011, 0x7011, 2, 2, .u16, .rw, .r, .rw, .no, .no, .nextTick, 16⟩
  , ⟨0x7011, 0x7011, 3, 3, .u16, .rw, .r, .rw, .no, .no, .nextTick, 1024⟩
  , ⟨0x7012, 0x7012, 1, 1, .u8, .rw, .r, .rw, .no, .no, .nextTick, 8⟩
  , ⟨0x7012, 0x7012, 2, 2, .u8, .rw, .r, .rw, .no, .no, .nextTick, 8⟩
  , ⟨0x7012, 0x7012, 3, 3, .u8, .rw, .r, .rw, .no, .no, .nextTick, 32⟩
  , ⟨0x7013, 0x7013, 1, 3, .u64, .r, .r, .r, .no, .no, .immediate, 0⟩
  , ⟨0x7020, 0x7020, 1, 1, .u64, .r, .r, .r, .no, .no, .immediate, 0⟩
  , ⟨0x7020, 0x7020, 2, 2, .u64, .r, .r, .r, .no, .no, .immediate, 0⟩
  , ⟨0x7030, 0x7030, 1, 1, .u32, .rw, .r, .rw, .no, .no, .nextSecond, 86400⟩
  , ⟨0x7030, 0x7030, 2, 2, .u32, .r, .r, .r, .no, .r, .immediate, 0⟩
  , ⟨0x7030, 0x7030, 3, 3, .u64, .r, .r, .r, .no, .no, .immediate, 0⟩
  , ⟨0x7030, 0x7030, 4, 4, .bool, .w, .no, .no, .no, .no, .nextSecond, 0⟩
  , ⟨0x7030, 0x7030, 5, 5, .bool, .r, .r, .r, .no, .no, .immediate, 0⟩
  , ⟨0x7030, 0x7030, 6, 6, .u8, .rw, .no, .no, .no, .no, .immediate, 1⟩
  , ⟨0x7030, 0x7030, 7, 7, .u64, .r, .r, .r, .no, .no, .immediate, 0⟩
  , ⟨0x7030, 0x7030, 8, 8, .u64, .r, .r, .r, .no, .no, .immediate, 0⟩
  , ⟨0x7030, 0x7030, 9, 9, .u64, .r, .r, .r, .no, .no, .immediate, 0⟩
  , ⟨0x7031, 0x7031, 1, 3, .u64, .r, .r, .r, .no, .no, .immediate, 0⟩
  , ⟨0x7032, 0x7032, 1, 3, .keyref, .r, .r, .r, .no, .no, .immediate, 0⟩
  , ⟨0x7040, 0x7040, 1, 16, .blob, .rw, .r, .rw, .no, .no, .nextSecond, 0⟩
  , ⟨0x7041, 0x7041, 0, 0, .u64, .r, .r, .r, .r, .r, .immediate, (Config.fused 0x704100 : Nat)⟩
  , ⟨0x7042, 0x7042, 1, 16, .u32, .r, .r, .r, .no, .no, .immediate, 0⟩
  , ⟨0x7043, 0x7043, 1, 4, .u64, .r, .r, .r, .no, .no, .immediate, 0⟩
  , ⟨0x7044, 0x7044, 1, 16, .u64, .r, .r, .r, .no, .no, .immediate, 0⟩
  , ⟨0x7045, 0x7045, 1, 16, .u64, .r, .r, .r, .no, .no, .immediate, 0⟩
  , ⟨0x7046, 0x7046, 1, 16, .u64, .r, .r, .r, .no, .no, .immediate, 0⟩
  , ⟨0x7050, 0x7050, 1, 16, .blob, .rw, .no, .rw, .no, .no, .nextTick, 0⟩
  , ⟨0x7060, 0x7060, 1, 24, .blob, .rw, .r, .rw, .no, .no, .nextSecond, 0⟩
  , ⟨0x7061, 0x7061, 1, 24, .u8, .r, .r, .r, .no, .no, .immediate, 0⟩
  , ⟨0x7062, 0x7062, 1, 24, .i64, .r, .r, .r, .no, .no, .immediate, 0⟩
  , ⟨0x7063, 0x7063, 1, 24, .i64, .r, .r, .r, .no, .no, .immediate, 0⟩ ]

/-- Object rows of index page 0x70, part 1. -/
def catalogue70x1 : List ObjRow :=
  [ ⟨0x7064, 0x7064, 1, 24, .u64, .r, .r, .r, .no, .no, .immediate, 0⟩
  , ⟨0x7070, 0x7070, 1, 16, .blob, .rw, .r, .rw, .no, .no, .nextSecond, 0⟩ ]

/-- Object rows of index page 0x80, part 0. -/
def catalogue80x0 : List ObjRow :=
  [ ⟨0x8000, 0x8000, 1, 1, .u8, .r, .r, .r, .no, .r, .immediate, 0⟩
  , ⟨0x8000, 0x8000, 2, 2, .blob, .r, .r, .r, .no, .r, .immediate, 0⟩
  , ⟨0x8000, 0x8000, 3, 3, .u8, .r, .r, .r, .no, .no, .immediate, (Config.fused 0x800003 : Nat)⟩
  , ⟨0x8000, 0x8000, 5, 5, .u64, .r, .r, .r, .no, .no, .immediate, 0⟩
  , ⟨0x8000, 0x8000, 6, 6, .u16, .rw, .r, .rw, .no, .no, .nextTick, 8192⟩
  , ⟨0x8000, 0x8000, 7, 7, .u16, .rw, .r, .rw, .no, .no, .nextTick, 256⟩
  , ⟨0x8000, 0x8000, 8, 8, .bool, .w, .no, .no, .no, .no, .nextTick, 0⟩
  , ⟨0x8001, 0x8001, 0, 0, .blob, .w, .no, .no, .no, .no, .nextTick, 0⟩
  , ⟨0x8002, 0x8002, 0, 0, .blob, .r, .r, .r, .r, .r, .immediate, 0⟩
  , ⟨0x8003, 0x8003, 0, 0, .blob, .r, .r, .r, .r, .r, .immediate, 0⟩
  , ⟨0x8010, 0x8010, 1, 96, .blob, .r, .r, .r, .no, .r, .immediate, 0⟩
  , ⟨0x8011, 0x8011, 1, 96, .blob, .r, .r, .r, .no, .r, .immediate, 0⟩
  , ⟨0x8020, 0x8020, 1, 1, .u64, .r, .r, .r, .no, .no, .immediate, 0⟩
  , ⟨0x8020, 0x8020, 2, 2, .u64, .r, .r, .r, .no, .no, .immediate, 0⟩
  , ⟨0x8020, 0x8020, 3, 3, .u64, .r, .r, .r, .no, .no, .immediate, 0⟩
  , ⟨0x8020, 0x8020, 4, 4, .u64, .r, .r, .r, .no, .no, .immediate, 0⟩
  , ⟨0x8020, 0x8020, 5, 5, .u64, .r, .r, .r, .no, .no, .immediate, 0⟩
  , ⟨0x8020, 0x8020, 6, 6, .u64, .r, .r, .r, .no, .no, .immediate, 0⟩
  , ⟨0x8020, 0x8020, 7, 7, .u64, .r, .r, .r, .no, .no, .immediate, 0⟩
  , ⟨0x8020, 0x8020, 8, 8, .u64, .r, .r, .r, .no, .no, .immediate, 0⟩
  , ⟨0x8020, 0x8020, 9, 9, .u64, .r, .r, .r, .no, .no, .immediate, 0⟩
  , ⟨0x8020, 0x8020, 10, 10, .u64, .r, .r, .r, .no, .no, .immediate, 0⟩
  , ⟨0x8020, 0x8020, 11, 11, .u64, .r, .r, .r, .no, .no, .immediate, 0⟩
  , ⟨0x8020, 0x8020, 12, 12, .u64, .r, .r, .r, .no, .no, .immediate, 0⟩
  , ⟨0x8030, 0x8030, 1, 6, .u64, .r, .r, .r, .no, .no, .immediate, 0⟩ ]

/-- Object rows of index page 0x90, part 0. -/
def catalogue90x0 : List ObjRow :=
  [ ⟨0x9000, 0x9000, 1, 1, .u32, .r, .r, .r, .no, .r, .immediate, 0⟩
  , ⟨0x9000, 0x9000, 2, 2, .u32, .r, .r, .r, .no, .r, .immediate, 0⟩
  , ⟨0x9001, 0x9001, 1, 1, .u8, .rw, .r, .rw, .no, .no, .nextTick, 0⟩
  , ⟨0x9001, 0x9001, 2, 2, .u32, .rw, .r, .rw, .no, .no, .nextTick, 8192⟩
  , ⟨0x9002, 0x9002, 0, 0, .u64, .w, .no, .w, .no, .no, .immediate, 0⟩
  , ⟨0x9003, 0x9003, 1, 2, .u64, .r, .r, .r, .no, .no, .immediate, 0⟩
  , ⟨0x9004, 0x9004, 0, 0, .u64, .r, .r, .r, .no, .no, .immediate, 0⟩
  , ⟨0x9005, 0x9005, 1, 1, .u16, .rw, .r, .rw, .no, .no, .nextTick, 10⟩
  , ⟨0x9005, 0x9005, 2, 2, .u8, .rw, .r, .rw, .no, .no, .nextTick, 3⟩
  , ⟨0x9006, 0x9006, 1, 16, .u8, .r, .r, .r, .no, .no, .immediate, 0⟩
  , ⟨0x9010, 0x9010, 1, 1, .u64, .r, .r, .r, .no, .no, .immediate, 1⟩
  , ⟨0x9010, 0x9010, 2, 2, .u64, .r, .r, .r, .no, .no, .immediate, 0⟩
  , ⟨0x9010, 0x9010, 3, 3, .u64, .r, .r, .r, .no, .no, .immediate, 0⟩
  , ⟨0x9011, 0x9011, 0, 0, .bool, .r, .r, .r, .r, .r, .immediate, 0⟩ ]

/-- Object rows of index page 0x91, part 0. -/
def catalogue91x0 : List ObjRow :=
  [ ⟨0x9100, 0x910F, 0, 255, .blob, .r, .r, .r, .no, .no, .immediate, 0⟩ ]

/-- Object rows of index page 0x92, part 0. -/
def catalogue92x0 : List ObjRow :=
  [ ⟨0x9201, 0x920E, 1, 255, .u64, .r, .r, .r, .no, .no, .immediate, 0⟩ ]

/-- Object rows of index page 0xA0, part 0. -/
def catalogueA0x0 : List ObjRow :=
  [ ⟨0xA000, 0xA000, 1, 1, .u8, .r, .r, .r, .no, .no, .immediate, 0⟩
  , ⟨0xA000, 0xA000, 2, 2, .u64, .r, .r, .r, .no, .no, .immediate, 0⟩
  , ⟨0xA000, 0xA000, 3, 3, .u64, .r, .r, .r, .no, .no, .immediate, 0⟩
  , ⟨0xA000, 0xA000, 4, 4, .u32, .r, .r, .r, .no, .r, .immediate, 4294967295⟩
  , ⟨0xA000, 0xA000, 5, 5, .u8, .r, .r, .r, .no, .r, .immediate, 0⟩
  , ⟨0xA000, 0xA000, 6, 6, .u64, .r, .r, .r, .no, .no, .immediate, 0⟩
  , ⟨0xA000, 0xA000, 7, 7, .u16, .r, .r, .r, .no, .r, .immediate, 0⟩
  , ⟨0xA010, 0xA010, 1, 32, .u32, .r, .r, .r, .no, .no, .immediate, 0⟩
  , ⟨0xA011, 0xA011, 1, 21, .u16, .r, .r, .r, .no, .no, .immediate, 0⟩
  , ⟨0xA012, 0xA012, 1, 16, .u16, .r, .r, .r, .no, .no, .immediate, 0⟩
  , ⟨0xA013, 0xA013, 1, 6, .u16, .r, .r, .r, .no, .no, .immediate, 0⟩
  , ⟨0xA020, 0xA020, 1, 1, .u16, .rw, .r, .rw, .no, .no, .nextSecond, 20⟩ ]

/-- Object rows of index page 0xB0, part 0. -/
def catalogueB0x0 : List ObjRow :=
  [ ⟨0xB000, 0xB000, 1, 1, .bool, .r, .r, .r, .r, .r, .immediate, 0⟩
  , ⟨0xB000, 0xB000, 2, 2, .bool, .rw, .r, .rw, .no, .r, .nextSecond, 0⟩
  , ⟨0xB000, 0xB000, 3, 3, .bool, .rw, .r, .rw, .no, .r, .nextSecond, 1⟩
  , ⟨0xB000, 0xB000, 4, 4, .u16, .rw, .r, .rw, .no, .r, .nextSecond, 300⟩
  , ⟨0xB000, 0xB000, 5, 5, .u16, .rw, .r, .rw, .no, .r, .nextTick, 100⟩
  , ⟨0xB000, 0xB000, 6, 6, .blob, .rw, .r, .rw, .no, .no, .nextTick, 0⟩
  , ⟨0xB000, 0xB000, 7, 7, .u64, .rw, .r, .rw, .no, .r, .nextSecond, 0⟩
  , ⟨0xB000, 0xB000, 8, 8, .u8, .w, .no, .w, .no, .no, .nextTick, 0⟩
  , ⟨0xB001, 0xB001, 1, 1, .u8, .r, .r, .r, .r, .r, .immediate, 0⟩
  , ⟨0xB001, 0xB001, 2, 2, .bool, .r, .r, .r, .r, .r, .immediate, 0⟩
  , ⟨0xB001, 0xB001, 3, 3, .bool, .r, .r, .r, .no, .r, .immediate, 0⟩
  , ⟨0xB001, 0xB001, 4, 4, .bool, .r, .r, .r, .no, .r, .immediate, 0⟩
  , ⟨0xB001, 0xB001, 5, 5, .str, .r, .r, .r, .no, .no, .immediate, 0⟩
  , ⟨0xB001, 0xB001, 6, 6, .u64, .r, .r, .r, .no, .r, .immediate, 0⟩
  , ⟨0xB001, 0xB001, 7, 7, .bound32, .r, .r, .r, .no, .r, .immediate, 4294967295⟩
  , ⟨0xB001, 0xB001, 8, 8, .i64, .r, .r, .r, .no, .r, .immediate, 0⟩
  , ⟨0xB001, 0xB001, 9, 9, .u8, .r, .r, .r, .no, .no, .immediate, 0⟩
  , ⟨0xB001, 0xB001, 10, 10, .u32, .r, .r, .r, .no, .r, .immediate, 0⟩
  , ⟨0xB001, 0xB001, 11, 11, .u8, .r, .r, .r, .no, .r, .immediate, 0⟩
  , ⟨0xB002, 0xB002, 1, 1, .u64, .r, .r, .r, .no, .no, .immediate, 0⟩
  , ⟨0xB002, 0xB002, 2, 2, .u64, .r, .r, .r, .no, .no, .immediate, 0⟩
  , ⟨0xB002, 0xB002, 3, 3, .u64, .r, .r, .r, .no, .no, .immediate, 0⟩
  , ⟨0xB002, 0xB002, 4, 4, .u64, .r, .r, .r, .no, .no, .immediate, 0⟩
  , ⟨0xB002, 0xB002, 5, 5, .u64, .r, .r, .r, .no, .no, .immediate, 0⟩
  , ⟨0xB002, 0xB002, 6, 6, .u64, .r, .r, .r, .no, .no, .immediate, 0⟩
  , ⟨0xB002, 0xB002, 7, 7, .u64, .r, .r, .r, .no, .no, .immediate, 0⟩
  , ⟨0xB002, 0xB002, 8, 8, .u64, .r, .r, .r, .no, .no, .immediate, 0⟩
  , ⟨0xB002, 0xB002, 9, 9, .u64, .r, .r, .r, .no, .no, .immediate, 0⟩
  , ⟨0xB002, 0xB002, 10, 10, .u64, .r, .r, .r, .no, .no, .immediate, 0⟩
  , ⟨0xB002, 0xB002, 11, 11, .u64, .r, .r, .r, .no, .no, .immediate, 0⟩
  , ⟨0xB002, 0xB002, 12, 12, .u64, .r, .r, .r, .no, .no, .immediate, 0⟩
  , ⟨0xB010, 0xB010, 1, 1, .i32, .rw, .r, .rw, .no, .no, .nextSecond, 0⟩
  , ⟨0xB010, 0xB010, 2, 2, .u32, .rw, .r, .rw, .no, .no, .nextSecond, 5⟩
  , ⟨0xB010, 0xB010, 3, 3, .u32, .rw, .r, .rw, .no, .no, .nextSecond, 5⟩
  , ⟨0xB010, 0xB010, 4, 4, .u32, .rw, .r, .rw, .no, .no, .nextSecond, 20⟩
  , ⟨0xB010, 0xB010, 5, 5, .u32, .r, .r, .r, .no, .r, .immediate, 0⟩
  , ⟨0xB020, 0xB020, 1, 1, .u8, .rw, .r, .rw, .no, .r, .nextTick, 0⟩
  , ⟨0xB020, 0xB020, 2, 2, .u32, .rw, .r, .rw, .no, .r, .nextTick, 0⟩ ]

/-- Object rows of index page 0xC0, part 0. -/
def catalogueC0x0 : List ObjRow :=
  [ ⟨0xC000, 0xC000, 1, 1, .u8, .r, .r, .r, .no, .no, .immediate, 0⟩
  , ⟨0xC000, 0xC000, 2, 2, .u64, .r, .r, .r, .no, .no, .immediate, 0⟩
  , ⟨0xC000, 0xC000, 3, 3, .u64, .r, .r, .r, .no, .no, .immediate, 0⟩
  , ⟨0xC000, 0xC000, 4, 4, .u64, .r, .r, .r, .no, .no, .immediate, 0⟩
  , ⟨0xC000, 0xC000, 5, 5, .u64, .r, .r, .r, .no, .no, .immediate, 0⟩
  , ⟨0xC000, 0xC000, 6, 6, .u32, .r, .r, .r, .no, .no, .immediate, 0⟩
  , ⟨0xC000, 0xC000, 7, 7, .u64, .r, .r, .r, .no, .no, .immediate, 0⟩
  , ⟨0xC000, 0xC000, 8, 8, .u64, .r, .r, .r, .no, .no, .immediate, 0⟩
  , ⟨0xC010, 0xC010, 1, 1, .u64, .r, .r, .r, .no, .no, .immediate, 0⟩
  , ⟨0xC010, 0xC010, 2, 2, .u64, .r, .r, .r, .no, .no, .immediate, 0⟩
  , ⟨0xC010, 0xC010, 3, 3, .u32, .r, .r, .r, .no, .no, .immediate, 0⟩ ]

/-- Object rows of index page 0xC1, part 0. -/
def catalogueC1x0 : List ObjRow :=
  [ ⟨0xC100, 0xC100, 1, 1, .u8, .r, .r, .r, .no, .no, .immediate, 0⟩
  , ⟨0xC100, 0xC100, 2, 2, .u64, .rw, .r, .r, .no, .no, .immediate, 0⟩
  , ⟨0xC100, 0xC100, 3, 3, .u64, .rw, .r, .r, .no, .no, .immediate, 0⟩
  , ⟨0xC100, 0xC100, 4, 4, .u8, .rw, .r, .r, .no, .no, .nextTick, 1⟩
  , ⟨0xC100, 0xC100, 5, 5, .u64, .r, .r, .r, .no, .no, .immediate, 0⟩
  , ⟨0xC100, 0xC100, 6, 6, .u16, .r, .r, .r, .no, .no, .immediate, 0⟩
  , ⟨0xC100, 0xC100, 7, 7, .u64, .r, .r, .r, .no, .no, .immediate, 0⟩
  , ⟨0xC100, 0xC100, 8, 8, .u64, .r, .r, .r, .no, .no, .immediate, 0⟩
  , ⟨0xC100, 0xC100, 9, 9, .u64, .r, .r, .r, .no, .no, .immediate, 0⟩
  , ⟨0xC100, 0xC100, 10, 10, .u8, .rw, .r, .r, .no, .no, .nextTick, 0⟩ ]

/-- Object rows of index page 0xD0, part 0. -/
def catalogueD0x0 : List ObjRow :=
  [ ⟨0xD000, 0xD000, 1, 16, .u64, .r, .r, .r, .no, .no, .immediate, 0⟩
  , ⟨0xD001, 0xD001, 1, 16, .bool, .r, .r, .r, .no, .no, .immediate, 0⟩
  , ⟨0xD002, 0xD002, 1, 16, .u64, .r, .r, .r, .no, .no, .immediate, 0⟩
  , ⟨0xD003, 0xD003, 1, 16, .u64, .r, .r, .r, .no, .no, .immediate, 0⟩
  , ⟨0xD004, 0xD004, 1, 16, .u64, .r, .r, .r, .no, .no, .immediate, 0⟩
  , ⟨0xD005, 0xD005, 1, 16, .u8, .r, .r, .r, .no, .no, .immediate, 0⟩
  , ⟨0xD010, 0xD01F, 1, 17, .u8, .r, .r, .r, .no, .no, .immediate, 0⟩
  , ⟨0xD030, 0xD03F, 1, 17, .u8, .r, .r, .r, .no, .no, .immediate, 255⟩ ]

/-- Object rows of index page 0xD1, part 0. -/
def catalogueD1x0 : List ObjRow :=
  [ ⟨0xD100, 0xD100, 1, 21, .u64, .r, .r, .r, .no, .no, .immediate, 0⟩
  , ⟨0xD101, 0xD101, 1, 21, .u64, .r, .r, .r, .no, .no, .immediate, 0⟩
  , ⟨0xD102, 0xD102, 1, 21, .u8, .r, .r, .r, .no, .no, .immediate, 0⟩
  , ⟨0xD103, 0xD103, 1, 21, .u64, .r, .r, .r, .no, .no, .immediate, 0⟩
  , ⟨0xD104, 0xD104, 1, 21, .u64, .r, .r, .r, .no, .no, .immediate, 0⟩
  , ⟨0xD105, 0xD105, 1, 21, .u64, .r, .r, .r, .no, .no, .immediate, 0⟩
  , ⟨0xD106, 0xD106, 1, 21, .u64, .r, .r, .r, .no, .no, .immediate, 0⟩
  , ⟨0xD107, 0xD107, 1, 21, .u8, .r, .r, .r, .no, .no, .immediate, 0⟩
  , ⟨0xD108, 0xD108, 1, 21, .blob, .r, .r, .r, .no, .no, .immediate, 0⟩
  , ⟨0xD109, 0xD109, 0, 0, .bool, .rw, .r, .rw, .no, .no, .nextTick, 1⟩
  , ⟨0xD110, 0xD110, 0, 0, .u8, .r, .r, .r, .no, .no, .nextTick, 16⟩
  , ⟨0xD111, 0xD111, 0, 0, .u32, .r, .r, .r, .no, .no, .immediate, 0⟩
  , ⟨0xD121, 0xD121, 1, 16, .u64, .r, .r, .r, .no, .no, .immediate, 0⟩
  , ⟨0xD122, 0xD122, 0, 0, .u64, .r, .r, .r, .no, .no, .immediate, 0⟩
  , ⟨0xD123, 0xD123, 1, 16, .u64, .r, .r, .r, .no, .no, .immediate, 0⟩ ]

/-- Object rows of index page 0xD2, part 0. -/
def catalogueD2x0 : List ObjRow :=
  [ ⟨0xD200, 0xD24F, 1, 17, .u64, .r, .r, .r, .no, .no, .immediate, 0⟩
  , ⟨0xD250, 0xD25F, 1, 17, .u8, .rw, .r, .r, .no, .no, .immediate, 0⟩ ]

/-- Object rows of index page 0xE0, part 0. -/
def catalogueE0x0 : List ObjRow :=
  [ ⟨0xE000, 0xE000, 1, 1, .u16, .r, .r, .r, .no, .no, .immediate, 0⟩
  , ⟨0xE000, 0xE000, 2, 2, .u64, .r, .r, .r, .no, .no, .immediate, 0⟩
  , ⟨0xE000, 0xE000, 3, 3, .u64, .r, .r, .r, .no, .no, .immediate, 0⟩
  , ⟨0xE010, 0xE010, 1, 16, .u8, .r, .r, .r, .no, .no, .immediate, 0⟩
  , ⟨0xE011, 0xE011, 1, 16, .u64, .r, .r, .r, .no, .no, .immediate, 0⟩
  , ⟨0xE012, 0xE012, 1, 16, .u64, .r, .r, .r, .no, .no, .immediate, 0⟩
  , ⟨0xE013, 0xE013, 1, 16, .u64, .r, .r, .r, .no, .no, .immediate, 0⟩
  , ⟨0xE014, 0xE014, 1, 16, .u64, .r, .r, .r, .no, .no, .immediate, 0⟩
  , ⟨0xE015, 0xE015, 1, 2, .u8, .rw, .rw, .r, .no, .no, .nextTick, 255⟩
  , ⟨0xE016, 0xE016, 1, 2, .u32, .rw, .rw, .r, .no, .no, .nextTick, 0⟩
  , ⟨0xE020, 0xE020, 1, 1, .blob, .rw, .r, .rw, .no, .no, .nextSecond, 0⟩
  , ⟨0xE020, 0xE020, 2, 2, .blob, .rw, .r, .rw, .no, .no, .nextSecond, 0⟩
  , ⟨0xE020, 0xE020, 3, 3, .blob, .rw, .r, .rw, .no, .no, .nextTick, 0⟩
  , ⟨0xE020, 0xE020, 4, 4, .u64, .r, .r, .r, .no, .no, .immediate, 0⟩
  , ⟨0xE020, 0xE020, 5, 5, .u64, .r, .r, .r, .no, .no, .immediate, 0⟩
  , ⟨0xE020, 0xE020, 6, 6, .u64, .r, .r, .r, .no, .no, .immediate, 0⟩
  , ⟨0xE020, 0xE020, 7, 7, .u64, .r, .r, .r, .no, .no, .immediate, 0⟩
  , ⟨0xE020, 0xE020, 8, 8, .u64, .r, .r, .r, .no, .no, .immediate, 0⟩
  , ⟨0xE030, 0xE030, 1, 1, .u16, .rw, .r, .rw, .no, .no, .nextTick, 0⟩
  , ⟨0xE030, 0xE030, 2, 2, .u16, .rw, .r, .rw, .no, .no, .nextTick, 256⟩
  , ⟨0xE030, 0xE030, 3, 3, .u64, .r, .r, .r, .no, .no, .immediate, 0⟩
  , ⟨0xE030, 0xE030, 4, 4, .u64, .r, .r, .r, .no, .no, .immediate, 0⟩
  , ⟨0xE050, 0xE050, 1, 1, .u64, .r, .r, .r, .no, .no, .immediate, 0⟩
  , ⟨0xE050, 0xE050, 2, 2, .u64, .r, .r, .r, .no, .no, .immediate, 0⟩
  , ⟨0xE050, 0xE050, 3, 3, .u64, .r, .r, .r, .no, .no, .immediate, 0⟩ ]

/-- Object rows of index page 0xE1, part 0. -/
def catalogueE1x0 : List ObjRow :=
  [ ⟨0xE100, 0xE100, 1, 1, .u16, .r, .r, .r, .no, .no, .immediate, 0⟩
  , ⟨0xE100, 0xE100, 2, 2, .u16, .r, .r, .r, .no, .no, .immediate, 0⟩
  , ⟨0xE100, 0xE100, 3, 3, .u16, .r, .r, .r, .no, .no, .immediate, (Config.fused 0xE10003 : Nat)⟩
  , ⟨0xE100, 0xE100, 4, 4, .u8, .r, .r, .r, .no, .no, .immediate, 0⟩
  , ⟨0xE100, 0xE100, 5, 5, .u64, .r, .r, .r, .no, .no, .immediate, 0⟩
  , ⟨0xE101, 0xE101, 1, 8, .i16, .r, .r, .r, .no, .no, .immediate, 0⟩
  , ⟨0xE101, 0xE101, 9, 9, .i16, .r, .r, .r, .r, .r, .immediate, 0⟩
  , ⟨0xE102, 0xE102, 1, 1, .u8, .r, .r, .r, .r, .r, .immediate, 0⟩
  , ⟨0xE102, 0xE102, 2, 2, .u64, .r, .r, .r, .no, .no, .immediate, 0⟩
  , ⟨0xE102, 0xE102, 3, 3, .i16, .r, .r, .r, .no, .no, .immediate, 0⟩
  , ⟨0xE110, 0xE110, 2, 2, .u64, .r, .r, .r, .no, .no, .immediate, 0⟩
  , ⟨0xE110, 0xE110, 3, 3, .u8, .r, .r, .r, .no, .no, .immediate, 255⟩
  , ⟨0xE110, 0xE110, 4, 4, .u32, .rw, .r, .rw, .no, .no, .nextTick, 3600⟩
  , ⟨0xE110, 0xE110, 5, 5, .u64, .r, .r, .r, .no, .no, .immediate, 0⟩
  , ⟨0xE110, 0xE110, 6, 6, .u64, .r, .r, .r, .no, .no, .immediate, 0⟩
  , ⟨0xE110, 0xE110, 7, 7, .u64, .r, .r, .r, .no, .no, .immediate, 0⟩
  , ⟨0xE110, 0xE110, 8, 8, .bool, .w, .no, .w, .no, .no, .nextTick, 0⟩
  , ⟨0xE120, 0xE120, 1, 1, .blob, .w, .no, .no, .no, .no, .immediate, 0⟩
  , ⟨0xE120, 0xE120, 2, 2, .u16, .r, .r, .r, .no, .no, .immediate, 0⟩
  , ⟨0xE120, 0xE120, 3, 3, .blob, .r, .no, .no, .no, .no, .immediate, 0⟩
  , ⟨0xE120, 0xE120, 4, 4, .bool, .r, .r, .r, .no, .no, .immediate, 1⟩
  , ⟨0xE120, 0xE120, 5, 5, .u64, .r, .r, .r, .no, .no, .immediate, 0⟩
  , ⟨0xE120, 0xE120, 6, 6, .u64, .r, .r, .r, .no, .no, .immediate, 0⟩
  , ⟨0xE130, 0xE130, 1, 1, .u32, .r, .r, .r, .no, .no, .immediate, 0⟩
  , ⟨0xE130, 0xE130, 2, 2, .u8, .r, .r, .r, .no, .r, .immediate, 0⟩
  , ⟨0xE140, 0xE140, 1, 2, .u8, .rw, .r, .rw, .no, .no, .nextSecond, 1⟩
  , ⟨0xE141, 0xE141, 1, 2, .blob, .w, .no, .w, .no, .no, .immediate, 0⟩
  , ⟨0xE142, 0xE142, 1, 2, .blob, .r, .no, .r, .no, .no, .immediate, 0⟩
  , ⟨0xE143, 0xE143, 1, 2, .u8, .rw, .r, .r, .no, .no, .immediate, 0⟩
  , ⟨0xE144, 0xE144, 1, 2, .u64, .r, .r, .r, .no, .no, .immediate, 0⟩
  , ⟨0xE145, 0xE145, 1, 2, .u64, .r, .r, .r, .no, .no, .immediate, 0⟩
  , ⟨0xE146, 0xE146, 1, 2, .u64, .r, .r, .r, .no, .no, .immediate, 0⟩
  , ⟨0xE147, 0xE147, 1, 2, .u64, .r, .r, .r, .no, .no, .immediate, 0⟩
  , ⟨0xE148, 0xE148, 1, 2, .u64, .r, .r, .r, .no, .no, .immediate, 0⟩
  , ⟨0xE149, 0xE149, 0, 0, .u8, .rw, .r, .rw, .no, .no, .nextSecond, 88⟩
  , ⟨0xE150, 0xE150, 1, 1, .u8, .rw, .r, .no, .no, .no, .nextSecond, 2⟩
  , ⟨0xE150, 0xE150, 2, 3, .u32, .r, .r, .r, .no, .no, .immediate, 0⟩
  , ⟨0xE160, 0xE160, 1, 1, .u32, .rw, .r, .rw, .no, .no, .nextSecond, 115200⟩
  , ⟨0xE160, 0xE160, 2, 2, .u8, .rw, .r, .rw, .no, .no, .nextTick, 2⟩
  , ⟨0xE160, 0xE160, 3, 3, .u64, .r, .r, .r, .no, .no, .immediate, 0⟩ ]

/-- Object rows of index page 0xE1, part 1. -/
def catalogueE1x1 : List ObjRow :=
  [ ⟨0xE170, 0xE170, 1, 1, .u32, .rw, .r, .rw, .no, .no, .nextTick, 0⟩
  , ⟨0xE170, 0xE170, 2, 2, .u32, .rw, .r, .rw, .no, .no, .nextTick, 0⟩
  , ⟨0xE170, 0xE170, 3, 3, .u32, .r, .r, .r, .no, .no, .immediate, 0⟩
  , ⟨0xE170, 0xE170, 4, 4, .u32, .rw, .r, .rw, .no, .no, .nextTick, 4294967295⟩ ]

/-- Object rows of index page 0xF0, part 0. -/
def catalogueF0x0 : List ObjRow :=
  [ ⟨0xF000, 0xF000, 1, 1, .u8, .rw, .no, .no, .no, .no, .nextTick, 0⟩
  , ⟨0xF000, 0xF000, 2, 2, .blob, .w, .no, .no, .no, .no, .nextTick, 0⟩
  , ⟨0xF000, 0xF000, 3, 3, .bool, .w, .no, .no, .no, .no, .nextTick, 0⟩
  , ⟨0xF000, 0xF000, 4, 4, .u16, .r, .r, .r, .no, .no, .immediate, 0⟩
  , ⟨0xF000, 0xF000, 5, 5, .u64, .r, .r, .r, .no, .no, .immediate, 0⟩
  , ⟨0xF000, 0xF000, 6, 6, .u64, .r, .r, .r, .no, .no, .immediate, 0⟩ ]

/-- The rows of one index page (the high octet of the index). -/
def cataloguePage (page : Nat) : List ObjRow :=
  match page with
  | 0x10 => catalogue10x0
  | 0x20 => catalogue20x0
  | 0x21 => catalogue21x0
  | 0x22 => catalogue22x0 ++ catalogue22x1
  | 0x23 => catalogue23x0
  | 0x30 => catalogue30x0 ++ catalogue30x1
  | 0x31 => catalogue31x0 ++ catalogue31x1
  | 0x32 => catalogue32x0
  | 0x40 => catalogue40x0 ++ catalogue40x1 ++ catalogue40x2
  | 0x41 => catalogue41x0 ++ catalogue41x1
  | 0x50 => catalogue50x0
  | 0x51 => catalogue51x0
  | 0x60 => catalogue60x0 ++ catalogue60x1
  | 0x70 => catalogue70x0 ++ catalogue70x1
  | 0x80 => catalogue80x0
  | 0x90 => catalogue90x0
  | 0x91 => catalogue91x0
  | 0x92 => catalogue92x0
  | 0xA0 => catalogueA0x0
  | 0xB0 => catalogueB0x0
  | 0xC0 => catalogueC0x0
  | 0xC1 => catalogueC1x0
  | 0xD0 => catalogueD0x0
  | 0xD1 => catalogueD1x0
  | 0xD2 => catalogueD2x0
  | 0xE0 => catalogueE0x0
  | 0xE1 => catalogueE1x0 ++ catalogueE1x1
  | 0xF0 => catalogueF0x0
  | _ => []

/-- The row that describes the object with key `k`, if the manual has one. (Log entry 72, DEDUCED) -/
def objRow (k : Nat) : Option ObjRow :=
  (cataloguePage (k / 65536)).find? fun r =>
    r.idxLo ≤ k / 256 && k / 256 ≤ r.idxHi && r.subLo ≤ k % 256 && k % 256 ≤ r.subHi

/-- The default value of a numeric object (0 for one without a default). (Log entry 5, DESIGN CHOICE) -/
def objDefault (k : Nat) : Int :=
  match objRow k with
  | some r => r.dflt
  | none => 0

end Sys2Proof.Machine
end

