-- ==== Sys2Proof/Machine/State.lean ====
section
/-!
DEFINITION. The state of the block, its reset value, and the reasons a step can stop.  The registers that
software reads or writes through the dictionary are the entries of `obj` and `blobs`, one per object of the
manual; the state behind them stands in one structure per block.
-/

namespace Sys2Proof.Machine

/-- Why a command stops the machine. (Log entry 3, DESIGN CHOICE) -/
inductive Fault where
  /-- Raised by MEM_WRITE_BACK and MEM_REREAD for a word address that the bank does not have (R369):
  the manual gives no such word.  Safe: the machine stops where the hardware has nothing to do. -/
  | noSuchWord (bank : Nat) (word : Nat)
  deriving DecidableEq, Repr

/-- Why a command is refused by the model. -/
inductive Refusal where
  /-- Raised by `exec` for a command that has no meaning yet, with its mnemonic.  Safe: the machine stops. -/
  | notModelled (mnemonic : String)
  deriving DecidableEq, Repr

/-- The octets of a BLOB or STR object that has not been written: the manual's default, with "zeros" as the
empty string, which reads as zeros. -/
def blobDefault (k : Nat) : Octets :=
  if k = 0x100001 then [0x4C, 0x44, 0x56, 0x2D, 0x38, 0x38, 0x30]
  else if k = 0x100003 ∨ k = 0x100004 ∨ k = 0x800300 then Config.fusedOctets k
  else if 0x308401 ≤ k ∧ k ≤ 0x308404 then [0, 0, 0, 0, 0, 0xFF, 0xFF, 0xFF]
  else if 0x300A10 ≤ k ∧ k ≤ 0x300A1F then [0xFF, 0xFF, 0, 0, 0, 0, 0, 0]
  -- the default destination filter (R254): own address, three group addresses, the rest disabled
  else if 0x602001 ≤ k ∧ k ≤ 0x602010 then
    let base := beNat (Config.fusedOctets 0x100004)
    toBE 6 ((base + (k - 0x602001)) % 2 ^ 48) ++ [1, 0, 0x01, 0x80, 0xC2, 0, 0, 0x02, 1, 0, 0x01, 0x1B, 0x19, 0, 0, 0, 1, 0,
      0x01, 0x80, 0xC2, 0, 0, 0x0E, 1, 0] ++ zeros 96
  -- the default Heddle rules (R255)
  else if k = 0x603001 then [0x19, 1, 0, 0, 0, 0, 0, 0, 17, 0, 0, 123, 0, 0, 0, 0]
  else if k = 0x603002 then [0x19, 3, 0, 0, 0, 0, 0, 0, 17, 0, 1, 63, 0, 0, 0, 0]
  else if k = 0x603003 then [0x19, 3, 0, 0, 0, 0, 0, 0, 17, 0, 1, 64, 0, 0, 0, 0]
  else if k = 0x603004 then [0x05, 3, 0, 0, 0, 0, 0x88, 0xF7, 0, 0, 0, 0, 0, 0, 0, 0]
  else if k = 0x603005 then [0x05, 5, 0, 0, 0, 0, 0x88, 0x09, 0, 0, 0, 0, 0, 0, 0, 0]
  else if k = 0x603006 then [0x05, 6, 0, 0, 0, 0, 0x08, 0x06, 0, 0, 0, 0, 0, 0, 0, 0]
  else if k = 0x603007 then [0x09, 6, 0, 0, 0, 0, 0, 0, 58, 0, 0, 0, 0, 0, 0, 0]
  else if k = 0x603008 then [0x19, 6, 1, 0, 0, 0, 0, 0, 6, 0, 0x11, 0x6C, 0, 0, 0, 0]
  -- Q1, Q2, Q3 of the plane (R224)
  else if 0x312101 ≤ k ∧ k ≤ 0x312104 then
    [0, 0, 0, 0, 0, 0x01, 0x35, 0x7C, 0, 0x5C, 0xD8, 0x72, 0xE1, 0x8F, 0x79, 0x8A, 0x01, 0x54, 0x48, 0x49, 0x32, 0xD2, 0xE7, 0x26]
  -- the fixed bindings of R166
  else if 0x300A20 ≤ k ∧ k ≤ 0x300A37 then [0, BitVec.ofNat 8 (k - 0x300A20), 0, 0, 0, 0, 0, 0]
  else if 0x300A40 ≤ k ∧ k ≤ 0x300A43 then [0, BitVec.ofNat 8 (k - 0x300A40), 0, 0, 0, 0, 0, 0]
  else if 0x300A60 ≤ k ∧ k ≤ 0x300A6F then [0, BitVec.ofNat 8 (k - 0x300A60), 0, 0, 0, 0, 0, 0]
  else if 0x300A80 ≤ k ∧ k ≤ 0x300ABF then [0, BitVec.ofNat 8 (k - 0x300A80), 0, 0, 0, 0, 0, 0]
  else []

/-- The state of the LDV-880. -/
structure State where
  /-- The commands waiting, first in, first out. -/
  pending : List Instr
  /-- The numeric objects of the dictionary, by key; an unlisted object holds its default. -/
  obj : Tbl Int
  /-- The BLOB and STR objects, by key; an unlisted object holds its default. -/
  blobs : Tbl Octets
  /-- The 64 MiB of SRAM, by octet address; an unlisted octet is 0, the value of the fill (R372). -/
  mem : List Host.Cell
  sys : SysState
  leap : LeapState
  fault : FaultState
  stamp : StampState
  glade : GladeState
  synth : SynthState
  canopy : CanopyState
  net : NetState
  serv : ServState
  vault : VaultState
  host : HostState
  shuttle : ShuttleState
  twin : TwinState
  record : RecordState
  power : PowerState
  bus : BusState
  deriving DecidableEq, Repr

/-- The machine held in reset, as the manual gives it (R27, R31, R37): mode RESET, every object at its default,
every queue, ring and table empty. (Log entry 5, DESIGN CHOICE) -/
def State.reset : State where
  pending := []
  obj := []
  blobs := []
  mem := []
  sys := {}
  leap := {}
  fault := {}
  stamp := {}
  glade := {}
  synth := {}
  canopy := {}
  net := {}
  serv := {}
  vault := {}
  host := {}
  shuttle := {}
  twin := {}
  record := {}
  power := {}
  bus := {}

end Sys2Proof.Machine
end

