-- ==== Sys2Proof/Machine/Ops.lean ====
section
/-!
DEFINITION. The named operations over the state that every family uses: reading and writing objects, counters,
the modes, and the values the manual leaves open.
-/

namespace Sys2Proof.Machine

/-- The default of a numeric object, as the default function of the object store. -/
abbrev objDflt : Nat → Int := objDefault

/-- The reference IDs of class T (R166). -/
def classT (id : Nat) : Bool := id == 0x01 || decide (0x10 ≤ id ∧ id ≤ 0x37) || id == 0x3F

/-- The reference IDs of class F (R166). -/
def classF (id : Nat) : Bool :=
  decide (0x40 ≤ id ∧ id ≤ 0x43) || decide (0x60 ≤ id ∧ id ≤ 0x6F) || decide (0x80 ≤ id ∧ id ≤ 0xBF)

/-- Every class T reference ID in order. -/
def classTIds : List Nat := 0x01 :: ((List.range 40).map (· + 0x10)) ++ [0x3F]

/-- Every class F reference ID in order. -/
def classFIds : List Nat :=
  (List.range 4).map (· + 0x40) ++ (List.range 16).map (· + 0x60) ++ (List.range 64).map (· + 0x80)

namespace State

/-- The value of a numeric object. -/
def o (s : State) (k : Nat) : Int := Sparse.get objDefault s.obj k

/-- The value of a numeric object that is never negative. -/
def n (s : State) (k : Nat) : Nat := (s.o k).toNat

/-- A BOOL object. -/
def flag (s : State) (k : Nat) : Bool := s.o k != 0

/-- The state with a numeric object written. -/
def setO (s : State) (k : Nat) (v : Int) : State := { s with obj := Sparse.put objDefault s.obj k v }

/-- The state with a numeric object written with a natural number. -/
def setN (s : State) (k : Nat) (v : Nat) : State := s.setO k v

/-- The state with a BOOL object written. -/
def setF (s : State) (k : Nat) (b : Bool) : State := s.setO k (if b then 1 else 0)

/-- The state with a service counter advanced by `d`. -/
def addN (s : State) (k d : Nat) : State := s.setO k (s.o k + d)

/-- The state with a service counter advanced by one. -/
def inc (s : State) (k : Nat) : State := s.addN k 1

/-- The state with a 48-bit hardware counter advanced by `d`, and its sticky overflow bit `b` of object `w` set
when it passes 2^48 − 1 (R82). -/
def addHw (s : State) (k d w b : Nat) : State :=
  let v := s.n k + d
  let s1 := s.setN k (v % 2 ^ 48)
  if v < 2 ^ 48 then s1 else s1.setN w (setBit (s1.n w) b)

/-- The state with a 48-bit hardware counter advanced by `d` whose sticky overflow bit no object shows: the counter dump alone carries it
(R82). (Log entry 99, DESIGN CHOICE) -/
def addHwKey (s : State) (k d : Nat) : State :=
  let v := s.n k + d
  let s1 := s.setN k (v % 2 ^ 48)
  if v < 2 ^ 48 ∨ s1.sys.wrapped.contains k then s1 else { s1 with sys := { s1.sys with wrapped := s1.sys.wrapped ++ [k] } }

/-- The octets of a BLOB or STR object. -/
def blob (s : State) (k : Nat) : Octets := Sparse.get blobDefault s.blobs k

/-- The state with a BLOB or STR object written. -/
def setBlob (s : State) (k : Nat) (v : Octets) : State := { s with blobs := Sparse.put blobDefault s.blobs k v }

end State

/-! ### Modes (R27) -/

/-- The mode codes of R27. -/
def mReset : Int := 0
/-- BOOT. -/
def mBoot : Int := 1
/-- WARMUP. -/
def mWarmup : Int := 2
/-- ACQUIRE. -/
def mAcquire : Int := 3
/-- TRACK. -/
def mTrack : Int := 4
/-- HOLDOVER. -/
def mHoldover : Int := 5
/-- REPLAY. -/
def mReplay : Int := 6
/-- HALTED. -/
def mHalted : Int := 7

namespace State

/-- MODE_CURRENT. -/
def mode (s : State) : Int := s.o Obj.modeCurrent

/-- The device has ticks: WARMUP through REPLAY (R28, R31). -/
def running (s : State) : Bool := decide (2 ≤ s.mode ∧ s.mode ≤ 6)

/-- The device runs the Forester: BOOT through REPLAY. -/
def alive (s : State) : Bool := decide (1 ≤ s.mode ∧ s.mode ≤ 6)

/-- TRACK or HOLDOVER, the modes in which service can be allowed (R57). -/
def inService (s : State) : Bool := decide (s.mode = 4 ∨ s.mode = 5)

/-- The global count of the current tick. -/
def tick (s : State) : Nat := s.n Obj.tickCount

/-- Boundaries passed since entry to WARMUP: the measure of every span, whatever the count does at a realignment
(R40). -/
def age (s : State) : Nat := s.sys.warmupTick

/-- The tick index of the current tick. -/
def index (s : State) : Nat := s.n Obj.tickIndex

/-- BOUND_NOW, the bound in force for the current tick. -/
def bound (s : State) : Nat := s.n Obj.boundNow

/-- Device time at the boundary of the current tick, in 2^-32 ns. -/
def timeNow (s : State) : Int := s.o Obj.timeNow

/-- The second of the device timescale in which the current tick began. -/
def second (s : State) : Int := s.timeNow / (1000000000 * 4294967296)

/-- The Yethal link has its clocks, domains 38 and 39 (R36). (Log entry 11, DEDUCED) -/
def yethalClocked (s : State) : Bool := bitOf (s.n Obj.cdStatus) 38 && bitOf (s.n Obj.cdStatus) 39

/-- Plane time of the boundary of the current tick. -/
def planeNow (s : State) : Int := match s.sys.history with
  | h :: _ => h.plane
  | [] => 0

/-- The unit is twin-joined: SHADOW, STANDBY or OWNER (R414). -/
def joined (s : State) : Bool := decide (5 ≤ s.o Obj.twinState ∧ s.o Obj.twinState ≤ 7)

/-- The pair identity in use, 0 for none: TWIN_PAIR_IDENTITY, or while joined the lower of the two units' own (R418).
(Log entry 65, DEDUCED) -/
def pairInUse (s : State) : Nat :=
  let pair := s.n Obj.twinPairIdentity
  if pair ≠ 0 then pair
  else if s.joined then (match s.twin.hello with | some h => min (s.n Obj.ptpClockIdentity) h.clock | none => s.n Obj.ptpClockIdentity)
  else 0

/-- The interlock lets the timing and EFC outputs drive (R425). -/
def interlockOpen (s : State) : Bool :=
  !s.flag Obj.twinEnable || (s.flag Obj.twinOwn && !s.flag Obj.twinOwnIn)

/-- A value that the manual leaves open is drawn: the count of the draws advances. (Log entry 8, DESIGN CHOICE) -/
def drew (s : State) : State := { s with sys := { s.sys with free := s.sys.free + 1 } }

/-- A bound that becomes unbounded in the current tick and in the next W1 (R27 transition 8). -/
def forceUnbounded (s : State) : State := { s with sys := { s.sys with forceUnbounded := true } }

end State

/-- The length of a tick of device time, 122.0703125 µs, in 2^-32 ns (R38). -/
def tickUnits : Int := 524288000000000

/-- One second in 2^-32 ns. -/
def secondUnits : Int := 4294967296000000000

/-- A nanosecond in 2^-32 ns. -/
def nsUnits : Int := 4294967296

/-- One TPL cycle, 390.625 ps, in 2^-20 ns. -/
def cyclePlane : Int := 409600

/-- The nominal plane length of a tick, 122,070.3125 ns, in 2^-20 ns. -/
def tickPlane : Int := 128000000000

/-! ### Conversions of device time (R63–R76, R80) -/

/-- SECONDS of a device time. -/
def timeSeconds (t : Int) : Int := t / secondUnits

/-- NANOSECONDS of a device time. -/
def timeNanos (t : Int) : Int := (t % secondUnits) / nsUnits

/-- FRACTION of a device time. -/
def timeFraction (t : Int) : Int := t % nsUnits

/-- The 14 octets of a TIME80 value (R63). -/
def encTime80 (t : Int) : Octets :=
  toBE 6 (timeSeconds t).toNat ++ toBE 4 (timeNanos t).toNat ++ toBE 4 (timeFraction t).toNat

/-- A TIME80 value read; none when NANOSECONDS is 10^9 or more (R64, R330). -/
def decTime80 (bs : Octets) : Option Int :=
  let ns : Nat := fieldN bs 6 4 % 2 ^ 30
  if ns < 1000000000 then some ((fieldN bs 0 6 : Int) * secondUnits + (ns : Int) * nsUnits + (fieldN bs 10 4 : Int)) else none

/-- The tick index of a device time (R66). -/
def timeIndex (t : Int) : Int := ((t % secondUnits) * 8192) / secondUnits

/-- The continuous nanosecond count of a device time (R67). -/
def timeCns (t : Int) : Nat := ((t / nsUnits) % 2 ^ 64).toNat

/-- A descriptor timestamp (R68). -/
def descStamp (t : Int) : Nat := timeCns t % 2 ^ 32

/-- The host's extension of a descriptor timestamp `d` of a batch with header tick `b` by an anchor record:
VALID_FROM, TICK, CNS, PREV_TICK, PREV_CNS (R71). -/
def extendNs (d b validFrom tick cns prevTick prevCns : Nat) : Nat :=
  let cur := decide (validFrom ≤ b)
  let at_ := if cur then tick else prevTick
  let ac := if cur then cns else prevCns
  let dt : Int := (b : Int) - at_
  let off := (dt * 1953125).tdiv 16
  let e := (((ac : Int) + off) % 2 ^ 64).toNat
  let k := signed 32 ((((d : Int) - ((e % 2 ^ 32 : Nat) : Int)) % 2 ^ 32).toNat)
  (((e : Int) + k) % 2 ^ 64).toNat

/-- A PTP Timestamp: 48-bit seconds and 32-bit nanoseconds, with the fraction as a correction in 2^-16 ns rounded
to nearest with ties up (R72). -/
def ptpTimestamp (t : Int) : Octets × Int :=
  (toBE 6 (timeSeconds t).toNat ++ toBE 4 (timeNanos t).toNat, roundUpHalf (timeFraction t) 65536)

/-- An inbound PTP Timestamp and correctionField; none when nanoseconds reach 10^9 (R72, R74). -/
def ptpToDevice (secs ns : Nat) (corr : Int) : Option Int :=
  if ns < 1000000000 then some (secs * secondUnits + ns * nsUnits + corr * 65536) else none

/-- The 64-bit NTP value of a UTC time given in 2^-32 ns since 1970 (R73). -/
def ntp64 (utc : Int) : Nat :=
  let f := roundUpHalf ((utc % secondUnits) * 4294967296) secondUnits
  let secs := utc / secondUnits + (if f = 4294967296 then 1 else 0) + 2208988800
  ((secs % 4294967296) * 4294967296 + f % 4294967296).toNat

/-- An inbound NTP value placed in the era nearest to the device's UTC time; none when two eras are equally
near (R72, R75). -/
def ntpToUtc (v : Nat) (utcNow : Int) : Option Int :=
  let secs : Int := ((v / 2 ^ 32 : Nat) : Int) - 2208988800
  let now := utcNow / secondUnits
  let diff := (now - secs) % 4294967296
  if diff = 2147483648 then none
  else
    let place := if diff < 2147483648 then now - diff else now + (4294967296 - diff)
    let f : Int := ((v % 2 ^ 32 : Nat) : Int)
    some (place * secondUnits + ((f * 1000000000) / 4294967296) * nsUnits + (f * 1000000000) % 4294967296)

namespace State

/-- The pending leap entry of the objects, if any (R77). -/
def leapPending (s : State) : Option LeapEntry :=
  if s.o Obj.leapPending = 0 then none
  else
    let old := s.o Obj.taiUtcOffset
    some ⟨s.o Obj.leapPendingE, if s.o Obj.leapPending = 1 then old + 1 else old - 1, old⟩

/-- UTC of a device time, in 2^-32 ns (R76): the offset of the last entry whose E is not after the time. -/
def utcOf (s : State) (t : Int) : Int :=
  let secs := timeSeconds t
  let off := match s.leapPending with
    | some e => if e.e ≤ secs then e.newOffset else s.o Obj.taiUtcOffset
    | none => s.o Obj.taiUtcOffset
  let off := match s.leap.justApplied with
    | some e => if secs < e.e then e.oldOffset else off
    | none => off
  t - off * secondUnits

/-- The entry whose smear window is open at a device time, if any (R80). -/
def smearEntry (s : State) (t : Int) : Option LeapEntry :=
  let half := s.o Obj.smearLengthS * secondUnits / 2
  let inside (e : LeapEntry) : Bool := decide (e.e * secondUnits - half ≤ t ∧ t < e.e * secondUnits + half)
  match s.leapPending, s.leap.justApplied with
  | some e, j => if inside e then some e else match j with
    | some e' => if inside e' then some e' else none
    | none => none
  | none, some e => if inside e then some e else none
  | none, none => none

/-- Smeared UTC of a device time, in 2^-32 ns (R80). -/
def smearedUtc (s : State) (t : Int) : Int :=
  match s.smearEntry t with
  | none => s.utcOf t
  | some e =>
    let l := s.o Obj.smearLengthS
    let m := (t - (e.e * secondUnits - l * secondUnits / 2)) / l
    if e.oldOffset < e.newOffset then t - e.oldOffset * secondUnits - m else t - e.oldOffset * secondUnits + m

/-- The leap warning interval of the pending or just-applied entry holds at a device time (R79): 1 for an
insertion, 2 for a deletion, 0 outside it. -/
def leapWarning (s : State) (t : Int) : Nat :=
  let test (e : LeapEntry) : Nat :=
    let ins := decide (e.oldOffset < e.newOffset)
    -- 00:00:00 UTC of the day that ends at the leap, in TAI seconds
    let start := if ins then e.e - 86400 else e.e - 86399
    let stop := if ins then e.e + 1 else e.e
    if start * secondUnits ≤ t ∧ t < stop * secondUnits then (if ins then 1 else 2) else 0
  let now := match s.leapPending with | some e => test e | none => 0
  if now ≠ 0 then now
  else match s.leap.justApplied with
    | some e => test e
    | none => 0

/-! ### BAR0 registers and MSI-X vectors (R346) -/

/-- A BAR0 register of function `fn`. -/
def reg (s : State) (fn off : Nat) : Nat := Sparse.get (fun _ => 0) s.host.regs (fn * 65536 + off)

/-- The state with a BAR0 register written. -/
def setReg (s : State) (fn off v : Nat) : State :=
  { s with host := { s.host with regs := Sparse.put (fun _ => 0) s.host.regs (fn * 65536 + off) (v % 2 ^ 32) } }

/-- The PCIe link is in its active state and has its clock, domain 35 (R36). (Log entry 11, DEDUCED) -/
def pcieUp (s : State) : Bool := s.o Obj.pcieLink != 0 && bitOf (s.n Obj.cdStatus) 35

/-- An MSI-X vector raised, or pending while its entry of the table is masked. (Log entry 106, PRESUMED) -/
def vector (s : State) (fn v : Nat) : State :=
  if bitOf (s.reg fn (0x400C + 16 * v)) 0 then
    let p := 0x5000 + 4 * (v / 32)
    s.setReg fn p (setBit (s.reg fn p) (v % 32))
  else { s with host := { s.host with vectors := s.host.vectors ++ [fn * 64 + v] } }

/-- The vector control of a table entry written: one that was pending is raised once its mask is clear (R346).
(Log entry 106, PRESUMED) -/
def unmask (s : State) (fn v : Nat) : State :=
  let p := 0x5000 + 4 * (v / 32)
  if bitOf (s.reg fn p) (v % 32) && !bitOf (s.reg fn (0x400C + 16 * v)) 0 then (s.setReg fn p (clearBit (s.reg fn p) (v % 32))).vector fn v
  else s

/-- The count of the tick that follows: after a realignment that set the timescale it takes the value of R40, else it is one
more. -/
def nextTick (s : State) : Nat :=
  let delta := match s.sys.step with | some p => p.delta | none => 0
  if s.sys.realignTick && s.sys.follow == .first then max ((s.sys.nextTime + delta) / tickUnits).toNat (s.tick + 1) else s.tick + 1

end State

end Sys2Proof.Machine
end

