-- ==== Sys2Proof/Machine/GladeBase.lean ====
section
/-!
DEFINITION. The links, streams and channels of Glade and their states, and Glade's way to OFF (R119, R120, R123, R141).
-/

namespace Sys2Proof.Machine.State

/-- A tracking channel. -/
def chan (s : State) (c : Nat) : TrackChannel := Sparse.get (fun _ => {}) s.glade.channels c

/-- The state with a tracking channel written. -/
def setChan (s : State) (c : Nat) (v : TrackChannel) : State :=
  { s with glade := { s.glade with channels := Sparse.put (fun _ => {}) s.glade.channels c v } }

/-- A Glade link. -/
def glink (s : State) (a : Nat) : GladeLink := Sparse.get (fun _ => {}) s.glade.links a

/-- The state with a Glade link written. -/
def setGlink (s : State) (a : Nat) (v : GladeLink) : State :=
  { s with glade := { s.glade with links := Sparse.put (fun _ => {}) s.glade.links a v } }

/-- A stream. -/
def strm (s : State) (k : Nat) : GladeStream := Sparse.get (fun _ => {}) s.glade.streams k

/-- The state with a stream written. -/
def setStrm (s : State) (k : Nat) (v : GladeStream) : State :=
  { s with glade := { s.glade with streams := Sparse.put (fun _ => {}) s.glade.streams k v } }

/-- The signal of a channel, as its assignment in force names it (R143). -/
def chanSignal (s : State) (c : Nat) : Nat := (s.chan c).asg.1

/-- The SV of a channel. -/
def chanSv (s : State) (c : Nat) : Nat := (s.chan c).asg.2.1

/-- The antenna of a channel. -/
def chanAnt (s : State) (c : Nat) : Nat := (s.chan c).asg.2.2

/-- The state code of a channel (R141). -/
def chanState (s : State) (c : Nat) : Nat := s.n (Obj.chState c)

/-- A channel enters a state; the carrier phase counts from PULL_IN, the code phase of a SYNCED channel from its navigation unit, and a channel that
is neither phase-locked nor SYNCED has no frame sync and no checked unit (R133, R141). -/
def chanEnter (s : State) (c code : Nat) : State :=
  let v := s.chan c
  let st := s.chanState c
  let fresh : TrackChannel := { v with
    entry := s.age, confirming := none, goodMs := 0, pliLow := 0, halfCycle := code != 5, windows := if code = 1 then 0 else v.windows
    weakMs := if 3 ≤ st ∧ st ≤ 5 ∧ 3 ≤ code ∧ code ≤ 5 then v.weakMs else 0, codePhase := if code = 5 then v.unitCode.getD v.codePhase else v.codePhase }
  let begun : TrackChannel := if code = 2 then { fresh with
    carrier := 0, carrierRem := 0, pulled := s.age, loop := [], codeRate := 0, smooth := none, codeMs := 0, sums := none, done := [] } else fresh
  let held : TrackChannel := if code = 4 ∨ code = 5 then begun else { begun with navPassed := false }
  let kept : TrackChannel := if 3 ≤ code ∧ code ≤ 5 then held
    else { held with frameSync := false, edge := none, lnavPrev := none, unitCode := none, sums := none, done := [] }
  let s1 := (s.setChan c kept).setN (Obj.chState c) code
  if code = 6 then s1.inc (Obj.chLosses c) else s1

/-- A channel that loses its signal, if it was locked (R141). -/
def chanLose (s : State) (c : Nat) : State :=
  let st := s.chanState c
  if 3 ≤ st ∧ st ≤ 5 then s.chanEnter c 6 else s

/-- The channels with a predicate on state and stream. -/
def forChans (s : State) (f : State → Nat → State) : State := (List.range 256).foldl f s

/-- A link leaves DATA: its channels lose their signal (R141). -/
def linkChannelsLost (s : State) (a : Nat) : State :=
  s.forChans fun s c => if s.chanAnt c = a ∧ s.chanSignal c ≠ 0 then s.chanLose c else s

/-- Glade is in LINK or RUN. -/
def gladeLinking (s : State) : Bool := s.o Obj.gladeState == 2 || s.o Obj.gladeState == 3

/-- An enabled link that starts while Glade links gets its burst of 8 SYSREF edges (R119). -/
def linkStarts (s : State) (a : Nat) : State :=
  if s.gladeLinking = true ∧ s.n (Obj.linkBands a) ≠ 0 then { s with glade := { s.glade with sysrefLeft := 8 } } else s

/-- A link enters a state; DOWN is its start (R119, R120). -/
def linkEnter (s : State) (a code : Nat) : State :=
  let was := s.n (Obj.linkState a)
  let s1 := (s.setGlink a { s.glink a with entry := s.age, bad := [], whole := false }).setN (Obj.linkState a) code
  let s2 := if code = 4 then s1.inc (Obj.linkRestarts a)
    else if code = 0 then s1.linkStarts a else s1
  if was = 3 ∧ code ≠ 3 then
    let s3 := (List.range 3).foldl (fun s b => s.setStrm (3 * a + b) { s.strm (3 * a + b) with
      sigmaSet := false, postLeft := 0, spectrum := [], spectrumEpochs := 0 }) s2
    s3.linkChannelsLost a
  else s2

/-- Every link goes to DOWN (R120). -/
def linksDown (s : State) : State :=
  (List.range 4).foldl (fun s a => if s.n (Obj.linkState a) = 0 then s else s.linkEnter a 0) s

/-- The survey in progress starts from zero (R149). -/
def surveyRestart (s : State) : State := { (s.setO Obj.surveyElapsedS 0) with glade := { s.glade with survey := [] } }

/-- The runs of the spoofing check are broken (R160). -/
def spoofBreak (s : State) : State := { s with glade := { s.glade with raiseRun := 0, clearRun := 0, unavailRun := 0, spoofAt := none } }

/-- The solution record that no further dump will carry is dropped: the one of an epoch whose dump is still to come goes with that dump (R163). -/
def dropRecord (s : State) : State :=
  if s.glade.epochPending then s else { s with glade := { s.glade with recordPlane := none, record := [] } }

/-- Glade goes to OFF: links DOWN, channels LOST, survey restarted without a count, runs and record of the solution ended (R123, R149, R160,
R162, R163). -/
def gladeOff (s : State) : State :=
  if s.o Obj.gladeState = 0 then s
  else
    let s1 := s.setO Obj.gladeState 0
    let s2 := s1.linksDown
    let s3 := s2.forChans fun s c => let st := s.chanState c; if st = 0 ∨ st = 6 then s else s.chanEnter c 6
    let s4 := (if s3.o Obj.solState = 1 then s3.surveyRestart else s3).spoofBreak.dropRecord
    if s4.o Obj.solState = 3 ∨ s4.o Obj.solState = 4 then s4.setO Obj.solState 2 else s4

end Sys2Proof.Machine.State
end

