-- ==== Sys2Proof/Machine/Memory.lean ====
section
/-!
DEFINITION. The 64 MiB of SRAM in 21 banks with their spare words and remap tables (R369, R374): words by bank and word
address, octets by bank and offset.  The banks lie one after another in one space of octet addresses, the spare words of
all banks behind them.
-/

namespace Sys2Proof.Machine

/-- The canonical form of the memory. (Log entry 3, DESIGN CHOICE) -/
abbrev Memory.wf (m : List Host.Cell) : Bool := Sparse.wf (fun _ => (0 : Byte)) m

/-- Words of a bank (R369). (Log entry 3, DESIGN CHOICE) -/
def bankWords (b : Nat) : Nat :=
  if b = 16 then 2097152 else if b = 17 then 1048576 else if b = 18 then 524288 else if b ≤ 20 then 262144 else 0

/-- Sub-banks of a bank (R369). -/
def subBanks (b : Nat) : Nat := if b = 16 then 32 else 8

/-- Processor ports of a bank (R369). -/
def procPorts (b : Nat) : Nat :=
  if b < 16 then 20 else if b = 16 then 16 else if b = 17 then 1 else if b = 18 then 2 else 3

/-- Ports of a bank, the DMA ports after the processor ports (R369). -/
def memPorts (b : Nat) : Nat :=
  if b < 16 then 22 else if b = 16 then 17 else if b = 17 then 3 else if b = 18 then 3 else 5

/-- The first octet address of a bank. -/
def bankBase (b : Nat) : Nat := (List.range b).foldl (fun a k => a + 8 * bankWords k) 0

/-- The octets of all banks. -/
def bankTop : Nat := 0x400_0000

namespace State

/-- Spare word `i` of a bank in use: the word that it stands for (R374). -/
def remapEntry (s : State) (b i : Nat) : Option Nat :=
  let e := s.blob (Obj.memRemapTable b)
  if bitOf (octetAt e (8 * i)) 7 then some (fieldN e (8 * i + 5) 3) else none

/-- The address of a word, through the bank's remap table (R374). (Log entry 3, DESIGN CHOICE) -/
def wordAddr (s : State) (b w : Nat) : Nat :=
  match (List.range 16).find? fun i => s.remapEntry b i == some w with
  | some i => bankTop + 128 * b + 8 * i
  | none => bankBase b + 8 * w

/-- An octet of the SRAM. (Log entry 3, DESIGN CHOICE) -/
def readByte (s : State) (a : Nat) : Byte := Sparse.get (fun _ => (0 : Byte)) s.mem a

/-- The state with an octet of the SRAM written. (Log entry 3, DESIGN CHOICE) -/
def writeByte (s : State) (a : Nat) (v : Byte) : State := { s with mem := Sparse.put (fun _ => (0 : Byte)) s.mem a v }

/-- The state with octets written from an address on. -/
def writeBytes (s : State) (a : Nat) : Octets → State
  | [] => s
  | v :: t => (s.writeByte a v).writeBytes (a + 1) t

/-- A word, its most significant octet first (R7). -/
def readWord (s : State) (b w : Nat) : Nat := beNat ((List.range 8).map fun i => s.readByte (s.wordAddr b w + i))

/-- The state with a word written. -/
def writeWord (s : State) (b w v : Nat) : State := s.writeBytes (s.wordAddr b w) (toBE 8 v)

/-- The state with whole words written from an octet offset of a bank on; the bank has no words past its last one.
(Log entry 3, DESIGN CHOICE) -/
def writeBank (s : State) (b off : Nat) (v : Octets) : State :=
  (List.range (v.length / 8)).foldl
    (fun s i => if off / 8 + i < bankWords b then s.writeWord b (off / 8 + i) (fieldN v (8 * i) 8) else s) s

end State

end Sys2Proof.Machine
end

