-- ==== Sys2Proof/Machine/Bobbin.lean ====
section
/-!
DEFINITION. The Bobbin ring (R445, R449, R450): the octets of a record, the appending of a record, and what an
overwritten record means to the capture (R452).
-/

namespace Sys2Proof.Machine

/-- The octets of the Bobbin ring (R449). (Log entry 83, DEDUCED) -/
def bobRing : Nat := 2 ^ 23

/-- An octet string padded with zeros to a multiple of 8. -/
def pad8 (b : Octets) : Octets := b ++ zeros ((8 - b.length % 8) % 8)

/-- A section of a body; one with nothing to carry is omitted (R445). -/
def bobSection (type : Nat) (c : Octets) : Octets :=
  if c.isEmpty then [] else toBE 1 type ++ zeros 3 ++ toBE 4 c.length ++ pad8 c

/-- The header fields of a record besides LENGTH, CODING, BODY_LEN and CRC (R445). -/
structure BobHead where
  flags : Nat
  tick : Nat
  bound : Nat
  source : Nat
  mode : Nat
  aux : Nat := 0
  deriving DecidableEq, Repr

/-- A record with a body, encoded where DEFLATE makes it shorter and the body is not longer than 53,248 octets (R445,
R449). -/
def bobRecord (h : BobHead) (body : Octets) : Octets :=
  let d := Config.deflate body
  let coded := decide (body.length ≤ 53248) && decide (d.length < body.length)
  let data := pad8 (if coded then d else body)
  let head (crc : Nat) : Octets := [0x42, 0x4F, 1] ++ toBE 1 h.flags ++ toBE 4 (40 + data.length) ++ toBE 8 h.tick ++
    toBE 4 h.bound ++ toBE 1 h.source ++ toBE 1 h.mode ++ toBE 1 (if coded then 1 else 0) ++ zeros 1 ++ toBE 4 body.length ++
    toBE 4 crc ++ toBE 8 h.aux
  head (crc32c (head 0 ++ data)) ++ data

namespace State

/-- Capture is enabled on PF0 (R451). -/
def capOn (s : State) : Bool := bitOf (Sparse.get (fun _ => 0) s.host.regs 0x3814) 0

/-- CAP_BEHIND and the oldest tick as the ring stands (R452, R463). -/
def showRing (s : State) : State :=
  let waits := s.record.entries.filter fun e => decide (s.record.capPos ≤ e.pos)
  let oldest := match s.record.entries with | e :: _ => e.tick | [] => 0
  (s.setN Obj.capBehind (if s.capOn then sumN (waits.map (·.len)) else 0)).setN Obj.bobRingOldestTick oldest

/-- The records that a ring position leaves whole; those that capture still had to copy are lost to it (R452). -/
def ringTo (s : State) (wr : Nat) : State :=
  let gone := s.record.entries.filter fun e => decide (e.pos + bobRing < wr)
  let kept := s.record.entries.filter fun e => !decide (e.pos + bobRing < wr)
  let lost := if s.capOn then gone.filter fun e => decide (s.record.capPos ≤ e.pos) else []
  let gap := match s.record.gap, lost, lost.getLast? with
    | some (a, _, n), _, some z => some (a, z.tick, n + lost.length)
    | none, a :: _, some z => some (a.tick, z.tick, lost.length)
    | g, _, _ => g
  let cap := if lost.isEmpty then s.record.capPos else match kept with | e :: _ => e.pos | [] => wr
  { s with record := { s.record with entries := kept, gap := gap, capPos := cap } }

/-- A record appended to the ring, after a pad where it would cross the end (R449, R450). (Log entry 83, DEDUCED) -/
def bobAppend (s : State) (h : BobHead) (body : Octets) : State :=
  let r := bobRecord h body
  let wr := s.n Obj.bobRingWr
  let room := bobRing - wr % bobRing
  let pad := if r.length ≤ room then 0 else room
  let padding := padTo pad (bobRecord ⟨0, 0, 0, 0, 0, 0⟩ [])
  let padded := if pad = 0 then s else s.writeBank 17 (wr % bobRing) (patch padding 4 (toBE 4 pad) |>.take pad)
  let pos := wr + pad
  let s1 := padded.ringTo (pos + r.length)
  let s2 := s1.writeBank 17 (pos % bobRing) r
  let e : BobEntry := { pos := pos, len := r.length, tick := h.tick, flags := h.flags }
  let s3 : State := { s2 with record := { s2.record with
    entries := s2.record.entries ++ [e], second := s2.record.second + r.length, keyDue := bitOf h.flags 7 } }
  let s4 := ((s3.setN Obj.bobRingWr (pos + r.length)).inc Obj.bobRecords).addN Obj.bobOctets r.length
  let s5 := if bitOf h.flags 7 then s4.inc Obj.bobLossTicks else s4
  (if bitOf h.flags 5 then s5.inc Obj.bobKeyframes else s5).showRing

/-- An uncorrectable word of the ring: the record that holds it carries the loss marker, and capture replaces it (R375, R450, R452). -/
def bobBad (s : State) (w : Nat) : State :=
  let hit (e : BobEntry) : Bool := decide (e.pos % bobRing ≤ 8 * w ∧ 8 * w < e.pos % bobRing + e.len)
  let fresh := s.record.entries.filter fun e => hit e && !bitOf e.flags 7
  let mark (e : BobEntry) : BobEntry := if hit e then { e with flags := setBit e.flags 7, bad := true } else e
  { s with record := { s.record with entries := s.record.entries.map mark } }.addN Obj.bobLossTicks fresh.length

/-- The body of the current record from the sections staged (R445). -/
def bobBody (s : State) (more : List (Nat × Octets)) : Octets :=
  let all := sortBy (fun (a b : Nat × Octets) => decide (a.1 < b.1)) (s.record.staged ++ more)
  (all.map fun x => bobSection x.1 x.2).flatten

/-- The header of the record of the current tick, with the flags that the tick itself gives (R445). -/
def bobHead (s : State) (flags : Nat) : BobHead :=
  let f := flags + (if s.sys.realignTick then 16 else 0) + (if s.stamp.tplLost then 8 else 0)
  ⟨f, s.tick, s.bound, s.n Obj.boundSource, s.mode.toNat, 0⟩

/-- The record of the tick of an F-class fault: its sections are incomplete, and the ring freezes after it (R450, R453). -/
def bobHalt (s : State) : State :=
  if s.o Obj.bobState = 1 then
    let s1 := s.bobAppend (s.bobHead 128) (s.bobBody [])
    { s1 with record := { s1.record with staged := [] } }
  else s

end State

end Sys2Proof.Machine
end

