-- ==== Sys2Proof/Machine/Collector.lean ====
section
/-!
DEFINITION. The fault collector: the fault list, the recording and escalation of a fault, the event log, and the
entry to HALTED (R384–R397).  What a fault does to the unit that raised it stands with that unit's commands.
-/

namespace Sys2Proof.Machine

/-- A row of the fault list (R391): code, class (1 C, 2 U, 3 F), the Esc mark, and the O column (1 O, 2 Twin). -/
structure FaultRow where
  code : Nat
  cls : Nat
  esc : Bool
  own : Nat
  deriving DecidableEq, Repr

/-- The fault list (R391). -/
def faultList : List FaultRow :=
  [ ⟨0x0101, 1, false, 0⟩, ⟨0x0102, 1, false, 0⟩, ⟨0x0201, 2, true, 1⟩, ⟨0x0202, 3, false, 1⟩, ⟨0x0203, 3, false, 1⟩,
    ⟨0x0204, 2, true, 0⟩, ⟨0x0205, 2, true, 1⟩, ⟨0x0206, 2, true, 0⟩, ⟨0x0207, 1, false, 0⟩, ⟨0x0208, 2, true, 0⟩,
    ⟨0x0209, 2, true, 0⟩, ⟨0x0301, 1, true, 0⟩, ⟨0x0302, 2, true, 0⟩, ⟨0x0303, 2, true, 0⟩, ⟨0x0401, 1, false, 0⟩,
    ⟨0x0402, 2, false, 0⟩, ⟨0x0403, 2, true, 0⟩, ⟨0x0501, 2, false, 0⟩, ⟨0x0502, 2, true, 1⟩, ⟨0x0503, 2, false, 0⟩,
    ⟨0x0504, 2, false, 0⟩, ⟨0x0601, 2, false, 0⟩, ⟨0x0801, 2, true, 0⟩, ⟨0x0802, 1, true, 0⟩, ⟨0x0803, 2, true, 0⟩,
    ⟨0x0804, 3, false, 1⟩, ⟨0x0805, 3, false, 1⟩ ] ++
  [ ⟨0x0901, 2, false, 0⟩, ⟨0x0902, 1, true, 0⟩, ⟨0x0903, 2, false, 0⟩, ⟨0x0904, 2, true, 0⟩, ⟨0x0905, 2, true, 0⟩,
    ⟨0x0906, 1, false, 0⟩, ⟨0x0A01, 1, false, 0⟩, ⟨0x0A02, 1, false, 0⟩, ⟨0x0A03, 2, false, 0⟩, ⟨0x0A04, 2, true, 0⟩,
    ⟨0x0A05, 3, false, 1⟩, ⟨0x0A06, 1, true, 0⟩, ⟨0x0B01, 3, false, 1⟩, ⟨0x0B02, 3, false, 1⟩, ⟨0x0B03, 1, true, 0⟩,
    ⟨0x0B05, 2, true, 0⟩, ⟨0x0B06, 3, false, 0⟩, ⟨0x0C01, 2, false, 2⟩, ⟨0x0C02, 2, true, 2⟩, ⟨0x0C03, 2, false, 2⟩,
    ⟨0x0E01, 1, false, 0⟩, ⟨0x0E02, 3, false, 1⟩, ⟨0x0E03, 2, false, 0⟩, ⟨0x0E04, 2, true, 0⟩, ⟨0x0E05, 1, false, 0⟩,
    ⟨0x0E06, 2, true, 0⟩ ]

/-- The row of a code, if the fault list has one. -/
def faultRow (code : Nat) : Option FaultRow := faultList.find? fun r => r.code == code

/-- Whether a fault makes a joined unit release OWN: the O column, with MEM_UE marked for bank 18 alone (R391). -/
def faultReleases (code source : Nat) : Bool :=
  match faultRow code with
  | some r => r.own == 1 || (code == 0x0A04 && source == 18)
  | none => false

/-- An entry of the log as the 32 octets of R385. -/
def logOctets (seq : Nat) (r : Report) : Octets :=
  toBE 8 seq ++ toBE 8 r.tick ++ toBE 4 r.subtick ++ toBE 2 r.code ++ toBE 1 r.cls ++ toBE 1 r.flags ++
    toBE 2 r.source ++ zeros 2 ++ toBE 4 r.detail

/-- The order of the log: TICK, SUBTICK, CODE, SOURCE, ascending (R386). -/
def reportLt (a b : Report) : Bool :=
  decide (a.tick < b.tick) || (a.tick == b.tick &&
    (decide (a.subtick < b.subtick) || (a.subtick == b.subtick &&
      (decide (a.code < b.code) || (a.code == b.code && decide (a.source < b.source))))))

namespace State

/-- The counts of unacknowledged C and U records (R410). -/
def countOpen (s : State) : State :=
  (s.setN Obj.faultUnackedC ((s.fault.unacked.filter fun r => r.cls == 1).length)).setN Obj.faultUnackedU
    ((s.fault.unacked.filter fun r => r.cls == 2).length)

/-- One console line for a log entry, dropped when the 4 KiB buffer has no room (R507).  `faults` entries are
sent at level 1 and 2, events and C entries at level 2 only. -/
def uartLine (s : State) (seq : Nat) (r : Report) : State :=
  let level := s.o Obj.uartLogLevel
  let wanted := decide (level = 2) || (decide (level = 1) && decide (2 ≤ r.cls))
  if wanted then
    let len := Config.uartLineOctets seq
    if sumN (s.bus.uart.map (·.2)) + len ≤ 4096 then { s with bus := { s.bus with uart := s.bus.uart ++ [(seq, len)] } }
    else s.inc Obj.uartLinesDropped
  else s

/-- One entry written to the log: SEQ, the page that shows it, the overwriting of the entry 65,536 places older,
and the SEQ of its open record (R385, R387). -/
def logEntry (s : State) (r : Report) : State :=
  let seq := s.n Obj.evtlogNextSeq
  let pos := seq % 65536
  let page := Obj.evtlogPage (pos / 16)
  let s1 := s.setBlob page (padTo 512 (patch (s.blob page) (32 * (pos % 16)) (logOctets seq r)))
  let s2 := if 65536 ≤ s1.fault.log.length then
      { s1.inc Obj.evtlogOverwritten with fault := { s1.fault with log := s1.fault.log.drop 1 ++ [(seq, r)] } }
    else { s1 with fault := { s1.fault with log := s1.fault.log ++ [(seq, r)] } }
  let named := s2.fault.unacked.map (fun u => if u.ident = r.ident then { u with seq := some seq } else u)
  let s3 := { s2 with fault := { s2.fault with unacked := named } }
  (s3.setN Obj.evtlogNextSeq (seq + 1)).uartLine seq r

/-- A list of reports written to the log in order. -/
def logEntries (s : State) (rs : List Report) : State := rs.foldl logEntry s

/-- Reports dropped from the log: counted, and no records any more (R386, R390). -/
def dropReports (s : State) (rs : List Report) : State :=
  let gone (i : Nat) : Bool := rs.any fun r => r.ident == i
  let left := s.fault.unacked.filter (fun u => !gone u.ident)
  countOpen { s.addN Obj.evtlogDropped rs.length with fault := { s.fault with unacked := left } }

/-- The reports of one tick cut to the 64 that the log takes: the first 64 in order, an F-class entry replacing
the last that is not F (R386). -/
def cut64 (rs : List Report) : List Report × List Report :=
  let keep := rs.take 64
  let rest := rs.drop 64
  let fs := rest.filter fun r => r.cls == 3
  let spare := rest.filter fun r => r.cls != 3
  let nonF := keep.filter fun r => r.cls != 3
  let victims := nonF.drop (nonF.length - fs.length)
  ((keep.filter fun r => !(victims.any fun v => v.ident == r.ident)) ++ fs, victims ++ spare)

/-- The held reports of the ticks before `n`, or all of them, written in order (R386). -/
def flushLog (s : State) (before : Nat) (all : Bool) : State :=
  let due := sortBy reportLt (s.fault.held.filter fun r => all || decide (r.tick < before))
  let keep := s.fault.held.filter fun r => !(all || decide (r.tick < before))
  let ticks := (due.map (·.tick)).eraseDups
  let parts := ticks.map fun t => cut64 (due.filter fun r => r.tick == t)
  let s1 := { s with fault := { s.fault with held := keep } }
  parts.foldl (fun s p => (s.logEntries p.1).dropReports p.2) s1

/-- An event held for the log of its tick: an operator acknowledgement (0x0001) or a mode change (0x0002)
(R385). -/
def holdEvent (s : State) (code detail subtick : Nat) : State :=
  let r : Report := ⟨s.fault.nextIdent, code, 0, 0, 0, detail, s.tick, subtick⟩
  if s.fault.frozen then s
  else { s with fault := { s.fault with held := s.fault.held ++ [r], nextIdent := s.fault.nextIdent + 1 } }

/-- An event of the tick that a notice can carry (R350). -/
def hostEvent (s : State) (e : HostEvent) : State :=
  { s with host := { s.host with events := s.host.events ++ [(s.tick, e)] } }

/-- A change of mode: the objects of 0x2100, the log entry with SUBTICK 0, and the notice (R33, R350, R385). -/
def changeMode (s : State) (m : Int) : State :=
  let old := s.mode
  let s1 := (((s.setO Obj.modePrevious old).setO Obj.modeCurrent m).setN Obj.modeEntryTick s.tick).inc
    Obj.modeTransitions
  (s1.holdEvent 0x0002 (old.toNat * 256 + m.toNat) 0).hostEvent .modeChange

/-- The objects that HALTED puts back to their "off" value: the PLLs, the stampers, Glade, the links, the groves and
the EFC outputs (R31, R95, R120, R184, R193). -/
def haltedOff (k : Nat) : Bool :=
  decide (0x211001 ≤ k ∧ k ≤ 0x211006) || decide (0x501001 ≤ k ∧ k ≤ 0x501080) || k == Obj.gladeState ||
    decide (0x400301 ≤ k ∧ k ≤ 0x400304) || decide (Obj.groveState 0 ≤ k ∧ k ≤ Obj.groveState 15) ||
    decide (Obj.efcState 0 ≤ k ∧ k ≤ Obj.efcState 3) || k == Obj.twinOwn || k == Obj.serviceAllowed ||
    decide (Obj.ptpUnicastSessions 0 ≤ k ∧ k ≤ Obj.ptpUnicastSessions 15)

/-- A MAC goes to DOWN; from UP the entry is counted (R248). -/
def macDown (s : State) (m : Nat) : State :=
  if s.o (Obj.npLinkState m) = 0 then s
  else (if s.o (Obj.npLinkState m) = 3 then s.inc (Obj.npLinkDowns m) else s).setO (Obj.npLinkState m) 0

/-- An I2C controller ends its byte with STOP and leaves the bus (R497, R512). -/
def i2cRelease (s : State) (k : Nat) : State :=
  let c : I2cCtl := Sparse.get (fun _ => {}) s.bus.i2c k
  let s1 : State := { s with bus := { s.bus with i2c := Sparse.put (fun _ => {}) s.bus.i2c k { c with current := none, waitFree := false } } }
  if s1.o (Obj.i2cBusState k) = 1 then s1.setO (Obj.i2cBusState k) 0 else s1

/-- What HALTED stops and holds: outputs and EFC at high impedance, groves, PLLs and stampers off, OWN released, the
recorder frozen (R31, R392, R396, R444). -/
def haltUnits (s : State) : State :=
  let s1 := (List.range 16).foldl macDown s.gladeOff
  let macs := (List.range 16).foldl (fun (l : Tbl Mac) m =>
    let v := Sparse.get (fun _ => {}) l m
    Sparse.put (fun _ => {}) l m { v with queue := v.queue.filter fun f => f.exact.isNone }) s1.net.macs
  let s2 : State := { s1 with obj := s1.obj.filter fun p => !haltedOff p.1, net := { s1.net with macs := macs }, serv := { s1.serv with sessions := [] } }
  (List.range 2).foldl i2cRelease (s2.setO Obj.bobState 3)

/-- The console's dump of LAST_ENTRIES at entry to HALTED (R507). -/
def haltDump (s : State) : State :=
  let last := s.fault.log.drop (s.fault.log.length - 4)
  { s with bus := { s.bus with uart := s.bus.uart ++ last.map fun e => (e.1, Config.uartLineOctets e.1) } }

/-- Entry to HALTED for an F-class record: every held entry that precedes it and the F entry are written, the log freezes, the
HALTED registers take the record, ALIVE stops, and the units stop (R386, R395–R397). -/
def halt (s : State) (r : Report) : State :=
  let first := s.fault.held.filter fun x => x.ident == r.ident || reportLt x r
  let s1 := State.flushLog { s with fault := { s.fault with held := first } } 0 true
  let regs : FatalRegs := ⟨r.code, r.source, r.tick, r.subtick, r.flags⟩
  let s2 := { s1 with fault := { s1.fault with frozen := true, held := [], fatal := regs } }
  s2.haltDump.bobHalt.haltUnits.changeMode mHalted

/-- A fault detected: classed and escalated, counted, recorded and held for the log; F enters HALTED.  Answers
the class it was recorded with (R384, R390–R392, R409). -/
def recordFault (s : State) (code source detail subtick : Nat) (injected : Bool) : State × Nat :=
  match faultRow code with
  | none => (s, 0)
  | some row =>
    if s.mode = mHalted ∨ s.fault.frozen then (s, 0)
    else
      let again := row.esc && s.fault.unacked.any fun u =>
        u.cls == row.cls && u.code / 256 == code / 256 && u.source == source &&
          (match faultRow u.code with | some r => r.esc | none => false)
      let toF := again && row.cls == 2
      let suppressed := toF && injected && !(bitOf (s.n Obj.injArm) 1)
      let cls := if again && !suppressed then row.cls + 1 else row.cls
      let releases := faultReleases code source && s.joined && s.flag Obj.twinOwn
      let flags := (if again && !suppressed then 1 else 0) + (if injected then 2 else 0) +
        (if releases then 4 else 0) + (if suppressed then 8 else 0)
      let r : Report := ⟨s.fault.nextIdent, code, cls, flags, source, detail, s.tick, subtick⟩
      let s1 := s.inc (Obj.faultCodeCount code)
      let s2 := if cls ≤ 2 then s1.inc (Obj.faultTotal (cls - 1)) else s1
      let s3 := if again && row.cls == 1 then s2.inc Obj.escalationsCu else s2
      let opened := if cls ≤ 2 then
          [⟨r.ident, code, cls, source, s.tick + s.n Obj.ackHoldTicks, none⟩] else ([] : List OpenRecord)
      let s4 := { s3 with
        fault := { s3.fault with
          held := s3.fault.held ++ [r], nextIdent := s3.fault.nextIdent + 1, unacked := s3.fault.unacked ++ opened },
        -- the release is announced at once, for the first boundary after the fault (R436)
        twin := if releases then { s3.twin with releaseDue := true, sends := s3.twin.sends ++ [TwinSend.urgent (s3.tick + 1)] } else s3.twin }
      let s5 := (s4.countOpen).hostEvent (.faultRaised r.ident)
      if cls = 3 then (s5.halt r, 3) else (s5, cls)

/-- A fault found while a command runs: at the sub-tick that the command carries, or at one that it does not.
(Log entry 9, DESIGN CHOICE) -/
def raise (s : State) (code source detail : Nat) : State × Nat :=
  match s.fault.context with
  | some (sub, inj) => s.recordFault code source detail sub inj
  | none => s.drew.recordFault code source detail (Config.freeSubtick s.sys.free) false

/-- The state after a fault whose recorded class makes no difference to the unit. (Log entry 9, DESIGN CHOICE) -/
def faulted (s : State) (code source detail : Nat) : State := (s.raise code source detail).1

end State

end Sys2Proof.Machine
end

