-- ==== Sys2Proof/Machine/Leap.lean ====
section
/-!
DEFINITION. Leap seconds and smearing: LEAP_ENTRY_WRITE, LEAP_ENTRY_CANCEL, LEAP_APPLY, SMEAR_WINDOW_START and
SMEAR_WINDOW_END (R76–R80, R84, R85).
-/

namespace Sys2Proof.Machine

/-- The day of the month (1–31) and a number of the month, of a day counted from 1970-01-01 in the Gregorian
calendar. -/
def civilMonth (days : Int) : Int × Int :=
  let z := days + 719468
  let era := z / 146097
  let doe := z % 146097
  let yoe := (doe - doe / 1460 + doe / 36524 - doe / 146096) / 365
  let doy := doe - (365 * yoe + yoe / 4 - yoe / 100)
  let mp := (5 * doy + 2) / 153
  (doy - (153 * mp + 2) / 5 + 1, (era * 400 + yoe) * 12 + mp)

/-- The UTC second that must fall at 00:00:00 on the first day of a month for an entry (R78). -/
def leapMidnight (e oldOffset newOffset : Int) : Int :=
  e - oldOffset + (if newOffset < oldOffset then 1 else 0)

/-- The month at whose start an entry takes effect. -/
def leapMonth (e oldOffset newOffset : Int) : Int := (civilMonth (leapMidnight e oldOffset newOffset / 86400)).2

namespace State

/-- The checks of R78 on an operator entry (E, ΔAT_new) at the time of the write.
(Log entries 53, DEDUCED; 104, DESIGN CHOICE) -/
def leapEntryOk (s : State) (e newOffset : Int) : Bool :=
  let old := s.o Obj.taiUtcOffset
  let mid := leapMidnight e old newOffset
  let otherMonth := match s.leapPending with
    | some p => s.o Obj.leapSource == 2 && leapMonth p.e p.oldOffset p.newOffset != leapMonth e old newOffset
    | none => false
  decide (newOffset = old + 1 ∨ newOffset = old - 1) && decide (mid % 86400 = 0) &&
    decide ((civilMonth (mid / 86400)).1 = 1) && decide (s.timeNow + 172800 * secondUnits ≤ e * secondUnits) && !otherMonth

/-- A leap entry made pending, from GNSS (1) or the operator (2) (R77).  It takes the place of a GNSS entry that was pending, whatever
the month of either. (Log entry 97, DESIGN CHOICE) -/
def setLeapPending (s : State) (e newOffset : Int) (source : Int) : State :=
  let kind := if s.o Obj.taiUtcOffset < newOffset then 1 else 2
  ((s.setO Obj.leapPending kind).setO Obj.leapPendingE e).setO Obj.leapSource source

/-- No entry pending (R77). -/
def clearLeapPending (s : State) : State :=
  ((s.setO Obj.leapPending 0).setO Obj.leapPendingE 0).setO Obj.leapSource 0

/-- An accepted write waits for its boundary: one that arrives in W3 or the guard waits one boundary more
(R60). (Log entry 23, DEDUCED) -/
def addDue (s : State) (second : Bool) (w : DueWrite) : State :=
  let d : Due := ⟨if s.sys.window = .w3 then 2 else 1, second, w⟩
  { s with sys := { s.sys with due := s.sys.due ++ [d] } }

/-- The octets of an applied leap entry, laid out as LEAP_ENTRY_WRITE (R84). -/
def leapOctets (l : LeapEntry) : Octets := toBE 8 l.e.toNat ++ toBEInt 2 l.newOffset ++ zeros 6

/-- The leap table shown in its objects, oldest first (R84). -/
def showLeapTable (s : State) : State :=
  (enum s.leap.table).foldl (fun s p => s.setBlob (Obj.leapTable p.1) (leapOctets p.2))
    (s.setN Obj.leapTableCount s.leap.table.length)

/-- At E the pending entry becomes the newest applied entry and the offset in force changes; a full table drops
its oldest entry (R77). -/
def applyLeap (s : State) (p : LeapEntry) : State :=
  let table := (s.leap.table ++ [p]).drop (s.leap.table.length - 63)
  let s1 := { s with leap := { s.leap with table := table, justApplied := some p } }
  (s1.setO Obj.taiUtcOffset p.newOffset).clearLeapPending.showLeapTable

end State

/-- LEAP_ENTRY_WRITE: on port class H or M an entry that passes R78 waits for the next-second boundary at which
it becomes pending; any other changes nothing. -/
def execLeapEntryWrite (cls : PortClass) (e : Int) (newOffset : Int) (s : State) :
    Host.Outcome State Fault Refusal :=
  if s.running && (cls == .hostH || cls == .mgmtM) && s.leapEntryOk e newOffset then
    .next (s.addDue true (.leapEntry e newOffset))
  else .next s

/-- LEAP_ENTRY_CANCEL: E = 0 written on port class H or M cancels a pending operator entry at the next-second
boundary (R84). -/
def execLeapEntryCancel (cls : PortClass) (s : State) : Host.Outcome State Fault Refusal :=
  if s.running && (cls == .hostH || cls == .mgmtM) then .next (s.addDue true .leapCancel) else .next s

/-- LEAP_APPLY: once device time has reached E (R76, R77). -/
def execLeapApply (s : State) : Host.Outcome State Fault Refusal :=
  match s.leapPending with
  | some p => if s.running ∧ p.e ≤ s.second then .next (s.applyLeap p) else .next s
  | none => .next s

/-- SMEAR_WINDOW_START: inside a smear window SMEAR_ACTIVE reads 1 (R80). -/
def execSmearWindowStart (s : State) : Host.Outcome State Fault Refusal :=
  if s.running && (s.smearEntry s.timeNow).isSome then .next (s.setF Obj.smearActive true) else .next s

/-- SMEAR_WINDOW_END: at E + L/2 SMEAR_ACTIVE clears (R80). -/
def execSmearWindowEnd (s : State) : Host.Outcome State Fault Refusal :=
  if s.running && (s.smearEntry s.timeNow).isNone then .next (s.setF Obj.smearActive false) else .next s

end Sys2Proof.Machine
end

