-- ==== Sys2Proof/Machine/Fixed.lean ====
section
/-!
DEFINITION. Real functions that the manual's formulas name (cosine, sine, powers of ten, exponentials, decibels),
in fixed point with 96 fractional bits, every product rounded down.  The manual rounds its results at most to
2^-64; these values carry about thirty bits more.
-/

namespace Sys2Proof.Machine

/-- One, with 96 fractional bits. -/
def fpOne : Int := 2 ^ 96

/-- A fixed-point product. -/
def fpMul (a b : Int) : Int := (a * b) / fpOne

/-- A quotient as a fixed-point value. -/
def fpDiv (a b : Int) : Int := if b = 0 then 0 else (a * fpOne) / b

/-- π with 96 fractional bits, rounded down. -/
def fpPi : Int := 248902613312231085230521944622

/-- ln 10 with 96 fractional bits, rounded down. -/
def fpLn10 : Int := 182429585950654714090129938606

/-- The terms of the exponential series from the k-th on, given the k-th. -/
def expGo (x : Int) : Nat → Nat → Int → Int
  | 0, _, _ => 0
  | f + 1, k, t => t + expGo x f (k + 1) (fpMul t x / (k + 1 : Nat))

/-- e^x for |x| below 16. (Log entry 40, DEDUCED) -/
def fpExp (x : Int) : Int := expGo x 100 0 fpOne

/-- The terms of the cosine series (even powers) from the k-th on. -/
def cosGo (x2 : Int) : Nat → Nat → Int → Int
  | 0, _, _ => 0
  | f + 1, k, t => t + cosGo x2 f (k + 2) (-(fpMul t x2 / ((k + 1) * (k + 2) : Nat)))

/-- The cosine of a fixed-point number of turns. (Log entry 40, DEDUCED) -/
def fpCosTurn (x : Int) : Int :=
  let r := (x + fpOne / 2) % fpOne - fpOne / 2
  let a := 2 * fpMul fpPi r
  cosGo (fpMul a a) 40 0 fpOne

/-- The sine of a fixed-point number of turns. -/
def fpSinTurn (x : Int) : Int := fpCosTurn (x - fpOne / 4)

/-- 10^(n/2560) with 96 fractional bits. -/
def fpPow10 (n : Int) : Int :=
  let q := n / 2560
  let r := n % 2560
  let m := fpExp (fpLn10 * r / 2560)
  if 0 ≤ q then m * 10 ^ q.toNat else m / 10 ^ (-q).toNat

/-- The largest k below 2^n with 10^k × den^2560 ≤ num^2560, by bits from n downwards. -/
def dbGo (num den : Nat) : Nat → Nat → Nat
  | 0, r => r
  | n + 1, r =>
    let c := r + 2 ^ n
    if 10 ^ c * den ^ 2560 ≤ num ^ 2560 then dbGo num den n c else dbGo num den n r

/-- 10·log10(num / den) in 2^-8 dB, rounded down and limited to 0–65,535; 0 when num is not positive.
(Log entry 40, DEDUCED) -/
def decibels (num den : Nat) : Nat := if num = 0 ∨ den = 0 ∨ num < den then 0 else dbGo num den 16 0

/-- The natural logarithm of a positive fixed-point value, by Newton steps on e^y = x from a binary guess.
(Log entry 40, DEDUCED) -/
def fpLn (x : Int) : Int :=
  -- ln 2 with 96 fractional bits
  let ln2 : Int := 54916777467707473351141471128
  let b : Int := (Nat.log2 x.toNat : Nat)
  let e := b - 96
  let m := if 0 ≤ e then x / 2 ^ e.toNat else x * 2 ^ (-e).toNat
  let step (y : Int) : Int := y + fpDiv (2 * (m - fpExp y)) (m + fpExp y)
  e * ln2 + step (step (step (step (step (fpDiv (m - fpOne) (m + fpOne) * 2)))))

end Sys2Proof.Machine
end

