-- ==== Sys2Proof/Machine/Intake.lean ====
section
/-!
DEFINITION. The sample path of a Glade stream as functions on samples: the transport layer of JESD204C, pulse blanking, the notch cascade with its
group delay, and requantisation (R116, R124, R126, R127, R129).
-/

namespace Sys2Proof.Machine

/-! ### JESD204C transport layer (R116) -/

/-- A raw complex sample, with whether a multiblock that carries a part of it failed CRC-12 (R122). -/
structure RawSample where
  i : Int
  q : Int
  bad : Bool
  deriving DecidableEq, Repr

/-- A converter's sample: the upper 10 of its 16 bits, two's complement (N = 10, N' = 16).
(Log entry 102, PRESUMED) -/
def sample10 (hi lo : Nat) : Int := signed 10 ((hi * 256 + lo) / 64)

/-- Octet `o` of frame `n`, of `f` octets on each logical lane. (Log entry 102, PRESUMED) -/
def frameOctet (lanes : List Octets) (f n o : Nat) : Nat := octetAt (lanes.getD (o / f) []) (n * f + o % f)

/-- The sample of converter `c` in frame `n`. -/
def converter (lanes : List Octets) (f n c : Nat) : Int := sample10 (frameOctet lanes f n (2 * c)) (frameOctet lanes f n (2 * c + 1))

/-- The complex sample whose I is converter `c` and whose Q is the next; a multiblock holds 256 octets of a lane. -/
def rawSample (lanes : List Octets) (bad : List (Nat × Nat)) (f c n : Nat) : RawSample :=
  { i := converter lanes f n c, q := converter lanes f n (c + 1)
    bad := (List.range 4).any fun d => bad.contains ((2 * c + d) / f, (n * f + (2 * c + d) % f) / 256) }

/-- Whole frames that every logical lane holds. -/
def frameCount (lanes : List Octets) (f : Nat) : Nat := match lanes with
  | [] => 0
  | l :: t => t.foldl (fun k x => min k (x.length / f)) (l.length / f)

/-! ### Pulse blanking (R124) -/

/-- A component at full scale. -/
def fullScale (r : RawSample) : Bool := r.i == -512 || r.i == 511 || r.q == -512 || r.q == 511

/-- The sample is blanked for a reason of its own: over BLANK_K × σ where a σ is in force, at full scale, or of an errored multiblock. -/
def blankCause (k sigma : Nat) (useSigma : Bool) (r : RawSample) : Bool :=
  r.bad || fullScale r || (useSigma && decide (k * sigma < max r.i.natAbs r.q.natAbs * 1024))

/-- A mark spread over the `len` samples after it, with `left` samples still marked from before; answers the marks and how many samples are still
to be marked. -/
def spread (len : Nat) : Nat → List Bool → List Bool × Nat
  | left, [] => ([], left)
  | left, b :: t =>
    let r := spread len (if b then len else left - 1) t
    ((b || decide (0 < left)) :: r.1, r.2)

/-- The blank bits of the first `n` samples, and how many samples after them BLANK_POST still blanks. -/
def blankBits (pre post left n : Nat) (causes : List Bool) : List Bool × Nat :=
  let after := spread post left (causes.take n)
  let before := (spread pre 0 causes.reverse).1.reverse
  ((after.1.zip before).map fun x => x.1 || x.2, after.2)

/-! ### Notches (R126, R127) -/

/-- r = 1 − 2^-NOTCH_R, in 2^-96. -/
def notchRadius (e : Nat) : Int := fpOne - fpOne / 2 ^ e

/-- A frequency from the stream centre, in 2^-16 Hz, as turns per sample at 245.76 MS/s ÷ `d`, in 2^-96. -/
def turnOf (d : Nat) (f : Int) : Int := f * d * fpOne / (245760000 * 65536)

/-- One component through one notch: two inputs and two outputs back, R126's H(z). (Log entry 40, DEDUCED) -/
def notchStep (c r : Int) (m : Int × Int × Int × Int) (x : Int) : Int × (Int × Int × Int × Int) :=
  let y := x - 2 * fpMul c m.1 + m.2.1 + 2 * fpMul (fpMul r c) m.2.2.1 - fpMul (fpMul r r) m.2.2.2
  (y, (x, m.1, y, m.2.2.1))

/-- One sample through the cascade. -/
def cascadeOne (r : Int) (d : Nat) : List (Option Notch) → Int × Int → List (Option Notch) × (Int × Int)
  | [], x => ([], x)
  | none :: t, x => let z := cascadeOne r d t x; (none :: z.1, z.2)
  | some n :: t, x =>
    let c := fpCosTurn (turnOf d (n.freq * 65536))
    let i := notchStep c r n.memI x.1
    let q := notchStep c r n.memQ x.2
    let z := cascadeOne r d t (i.1, q.1)
    (some { n with memI := i.2, memQ := q.2 } :: z.1, z.2)

/-- A run of samples through the cascade. -/
def cascade (r : Int) (d : Nat) : List (Option Notch) → List (Int × Int) → List (Option Notch) × List (Int × Int)
  | ns, [] => (ns, [])
  | ns, x :: t =>
    let y := cascadeOne r d ns x
    let z := cascade r d y.1 t
    (z.1, y.2 :: z.2)

/-- The group delay of one notch at a frequency, in samples × 2^96: that of its zeros, 1, less that of its poles.
(Log entry 40, DEDUCED) -/
def notchDelay (c r w : Int) : Int :=
  let d1 := -2 * fpMul r c
  let d2 := fpMul r r
  let re (k : Int) : Int := fpCosTurn (k * w)
  let im (k : Int) : Int := -fpSinTurn (k * w)
  let dr := fpOne + fpMul d1 (re 1) + fpMul d2 (re 2)
  let di := fpMul d1 (im 1) + fpMul d2 (im 2)
  let nr := fpMul d1 (re 1) + 2 * fpMul d2 (re 2)
  let ni := fpMul d1 (im 1) + 2 * fpMul d2 (im 2)
  fpOne - fpDiv (fpMul nr dr + fpMul ni di) (fpMul dr dr + fpMul di di)

/-- The group delay of a cascade at an offset from the stream centre in 2^-16 Hz, to the nearest picosecond (R127). -/
def cascadeDelayPs (e d : Nat) (ns : List (Option Notch)) (f : Int) : Int :=
  let r := notchRadius e
  let sum := sumI (ns.map fun n => match n with
    | some v => notchDelay (fpCosTurn (turnOf d (v.freq * 65536))) r (turnOf d f)
    | none => 0)
  roundUpHalf (sum * d * 100000000) (fpOne * 24576)

/-! ### Requantisation (R129) -/

/-- The code of a component `y` in 2^-96 LSB for a step in 2^-6 LSB: the thresholds from −3Δ to 3Δ that it reaches. -/
def reqCode (delta : Nat) (y : Int) : Nat :=
  ((List.range 7).filter fun (k : Nat) => decide (((k : Int) - 3) * delta * (fpOne / 64) ≤ y)).length

/-- The level of a code. -/
def reqLevel (code : Nat) : Int := 2 * (code : Int) - 7

/-- The levels of a requantised sample; a blanked one contributes 0 (R124). -/
def sampleLevels (code : Nat) : Int × Int := if bitOf code 6 then (0, 0) else (reqLevel (code / 8 % 8), reqLevel (code % 8))

/-- A sample turned back by a number of turns, 2^-96. -/
def unturn (t : Int) (x : Int × Int) : Int × Int :=
  let c := fpCosTurn t
  let q := fpSinTurn t
  (x.1 * c + x.2 * q, x.2 * c - x.1 * q)

/-- A component-wise sum. -/
def addC (a b : Int × Int) : Int × Int := (a.1 + b.1, a.2 + b.2)

/-! ### The spectral monitor (R126) -/

/-- The power of one bin over 1,024 samples. -/
def binPower (b : Nat) (x : List (Int × Int)) : Nat :=
  let z := (enum x).foldl (fun a e => addC a (unturn ((b * e.1 : Nat) * fpOne / 1024) e.2)) (0, 0)
  ((z.1 * z.1 + z.2 * z.2) / (fpOne * fpOne)).toNat

/-- The 1,024-bin power spectrum of the samples of an epoch, over its segments of 1,024 samples. -/
def spectrumOf (x : List (Int × Int)) : List Nat :=
  let segments := (List.range (x.length / 1024)).map fun m => (x.drop (1024 * m)).take 1024
  (List.range 1024).map fun b => sumN (segments.map (binPower b))

/-- Two spectra summed; an empty one is 0. -/
def addSpectrum (a b : List Nat) : List Nat := (enum b).map fun e => a.getD e.1 0 + e.2

/-! ### Decimation (R134) -/

/-- The samples of one millisecond brought from `f` (2^-16 Hz from the stream centre) to 0 and summed into `len` samples; `n0` counts the samples of
the stream before them. -/
def decimate (len d : Nat) (f : Int) (n0 : Nat) (codes : List Nat) : List (Int × Int) :=
  let n := codes.length
  let x := (enum codes).map fun e => unturn (turnOf d f * (n0 + e.1 : Nat)) (sampleLevels e.2)
  (List.range len).map fun m =>
    let a := ceilDiv (m * n) len
    ((x.drop a).take (ceilDiv ((m + 1) * n) len - a)).foldl addC (0, 0)

/-- A requantised sample: the blank bit, the I code and the Q code. -/
def reqSample (delta : Nat) (blank : Bool) (y : Int × Int) : Nat :=
  (if blank then 64 else 0) + reqCode delta y.1 * 8 + reqCode delta y.2

end Sys2Proof.Machine
end

