-- ==== Sys2Proof/Machine/Acquire.lean ====
section
/-!
DEFINITION. The signals of R136 and acquisition by circular correlation: cells, Doppler bins, the noise level and the strongest cell (R134, R135).
-/

namespace Sys2Proof.Machine

/-! ### The signals (R136) -/

/-- The band of a signal code (R136). (Log entry 37, PRESUMED) -/
def signalBand (g : Nat) : Nat := if g = 0x02 ∨ g = 0x32 then 1 else if g = 0x03 ∨ g = 0x12 ∨ g = 0x23 then 2 else 0

/-- The system of a signal code: 1 GPS, 2 Galileo, 3 BeiDou, 4 GLONASS. -/
def signalSystem (g : Nat) : Nat := g / 16 + 1

/-- The signal codes of R136 in order. (Log entry 37, PRESUMED) -/
def signalCodes : List Nat := [0x01, 0x02, 0x03, 0x11, 0x12, 0x21, 0x22, 0x23, 0x31, 0x32]

/-- The carrier of a signal in Hz, for GLONASS on frequency channel `k` (R136). (Log entry 37, PRESUMED) -/
def signalCarrier (g : Nat) (k : Int) : Int :=
  if g = 0x02 then 1227600000 else if g = 0x03 ∨ g = 0x12 ∨ g = 0x23 then 1176450000
  else if g = 0x21 then 1561098000 else if g = 0x31 then 1602000000 + 562500 * k else if g = 0x32 then 1246000000 + 437500 * k
  else 1575420000

/-- The longest coherent integration of a signal in ms (R136). (Log entry 37, PRESUMED) -/
def signalMaxCoherent (g : Nat) : Nat :=
  if g = 0x11 ∨ g = 0x12 then 100 else if g = 0x22 ∨ g = 0x31 ∨ g = 0x32 then 10 else if g = 0x23 then 5 else 20

/-- The chip rate of a signal in chips per second (R136). -/
def signalChipRate (g : Nat) : Nat :=
  if g = 0x03 ∨ g = 0x12 ∨ g = 0x23 then 10230000 else if g = 0x21 then 2046000 else if g = 0x31 ∨ g = 0x32 then 511000 else 1023000

/-- The signal has no pilot: its taps correlate the data component (R136). (Log entry 37, PRESUMED) -/
def signalDataOnly (g : Nat) : Bool := g == 0x01 || g == 0x21 || g == 0x31 || g == 0x32

/-- The length of the primary code in chips. (Log entry 37, PRESUMED) -/
def signalCodeLength (g : Nat) : Nat :=
  if g = 0x01 then 1023 else if g = 0x02 then 1534500 else if g = 0x11 then 4092 else if g = 0x21 then 2046
  else if g = 0x31 ∨ g = 0x32 then 511 else 10230

/-- The duration of a navigation unit in ms (R144); 0 for a signal without one. (Log entry 37, PRESUMED) -/
def signalUnitMs (g : Nat) : Nat :=
  if g = 0x01 then 600 else if g = 0x02 then 12000 else if g = 0x03 then 6000 else if g = 0x11 then 2000 else if g = 0x12 then 10000
  else if g = 0x22 then 18000 else if g = 0x23 then 3000 else if g = 0x31 ∨ g = 0x32 then 2000 else 0

/-! ### Tap offsets (R137) -/

/-- An offset in 2^-12 chip as the nearest whole GBB cycle, at 491.52 MHz. -/
def gbbCycles (g : Nat) (off : Int) : Int := roundUpHalf (off * 491520000) (4096 * signalChipRate g)

/-- A tap offset, at least one GBB cycle. -/
def tapCycles (g : Nat) (off : Int) : Int := max 1 (gbbCycles g off)

/-- GBB cycles as code phase, 2^-32 chip. -/
def cyclesToChips (g : Nat) (cycles : Int) : Int := cycles * signalChipRate g * 4294967296 / 491520000

/-- A code phase in 2^-32 chip as one of the primary code in 2^-12 chip. -/
def replicaPhase (g : Nat) (phase : Int) : Nat := (phase / 1048576 % (signalCodeLength g * 4096 : Nat)).toNat

/-- The signs of the ten replicas of a channel at a code phase: the nine taps at their offsets, the late ones behind, and the data component at P
(R136, R137). -/
def replicas (g sv : Nat) (offsets : List (Option Int)) (phase : Int) : List (Option Bool) :=
  ((List.range 9).map fun k => (offsets.getD k none).map fun o => Config.replicaSign g sv (replicaPhase g (phase - o))) ++
    [some (Config.dataSign g sv (replicaPhase g phase))]

/-- The length of a symbol of a data component in ms, the longest coherent integration of the signal after bit sync (R136). -/
def signalSymbolMs (g : Nat) : Nat := signalMaxCoherent g

/-- An integration may begin and end at a millisecond of code: any one before bit sync, those at T_COH from a symbol edge after it, and every T_COH
of a pilot (R138). -/
def cohEdge (g t : Nat) (edge : Option Nat) (ms : Nat) : Bool :=
  if signalDataOnly g then match edge with
    | none => true
    | some e => (ms + signalSymbolMs g - e % signalSymbolMs g) % signalSymbolMs g % t == 0
  else ms % t == 0

/-- One sample more in the sums of an integration. -/
def TapSums.add (x : TapSums) (signs : List (Option Bool)) (live : Bool) (v : Int × Int) : TapSums :=
  { x with
    live := if live then x.live + 1 else x.live
    taps := (enum signs).map fun e => addC (x.taps.getD e.1 (0, 0)) (match e.2 with
      | some b => if b then v else (-v.1, -v.2)
      | none => (0, 0)) }

/-- The sums that an integration ends with, in units of the levels. -/
def TapSums.close (x : TapSums) : TapSums := { x with taps := x.taps.map fun t => (t.1 / fpOne, t.2 / fpOne) }

/-- TAP_EXP: the least exponent with which every tap has a mantissa of 14 bits (R133). (Log entry 42, DEDUCED) -/
def tapExpOf (taps : List (Int × Int)) : Nat :=
  let fits (e : Nat) (v : Int) : Bool := decide (-8192 ≤ v / 2 ^ e ∧ v / 2 ^ e ≤ 8191)
  ((List.range 16).find? fun e => taps.all fun t => fits e t.1 && fits e t.2).getD 15

/-! ### Acquisition (R134, R135) -/

/-- The samples per second and per transform of a search (R134). -/
def acqRate (g : Nat) : Nat := if signalChipRate g ≤ 2046000 then 4096000 else 32768000

/-- Samples per millisecond. -/
def acqLen (g : Nat) : Nat := acqRate g / 1000

/-- One coherent sum of 1 ms from sample `n0` on, for a Doppler in Hz and a delay in samples: real and imaginary part, 2^-96. -/
def acqSum (g sv : Nat) (x : List (Int × Int)) (hz : Int) (tau n0 : Nat) : Int × Int :=
  let len := acqLen g
  (List.range len).foldl (fun a n =>
    let phase := ((n + len - tau % len) % len) * signalChipRate g * 4096 / acqRate g
    let level : Int := if Config.replicaSign g sv phase then 1 else -1
    let t := hz * ((n0 + n : Nat) : Int) * fpOne / acqRate g
    let c := level * fpCosTurn t
    let q := level * fpSinTurn t
    let v := x.getD (n0 + n) (0, 0)
    (a.1 + v.1 * c + v.2 * q, a.2 + v.2 * c - v.1 * q)) (0, 0)

/-- A cell: the non-coherent sum of `k` coherent sums of 1 ms, divided by `k` (R135). -/
def acqCell (g sv k : Nat) (x : List (Int × Int)) (hz : Int) (tau : Nat) : Nat :=
  sumN ((List.range k).map fun j =>
    let z := acqSum g sv x hz tau (j * acqLen g)
    ((z.1 * z.1 + z.2 * z.2) / fpOne).toNat) / max 1 k

/-- The cells of some Doppler bins: value, bin, delay. -/
def acqCells (g sv k : Nat) (x : List (Int × Int)) (bins : List Int) : List (Nat × Int × Nat) :=
  (bins.map fun hz => (List.range (acqLen g)).map fun tau => (acqCell g sv k x hz tau, hz, tau)).flatten

/-- The strongest of some cells; the first of equal ones. -/
def strongest : List (Nat × Int × Nat) → Nat × Int × Nat
  | [] => (0, 0, 0)
  | c :: t => t.foldl (fun b x => if b.1 < x.1 then x else b) c

/-- Two delays lie within 2 chips of each other, on the circle of 1 ms. -/
def nearChips (g a b : Nat) : Bool :=
  let d := if a ≤ b then b - a else a - b
  decide (min d (acqLen g - d) * signalChipRate g ≤ 2 * acqRate g)

/-- The noise level: the mean of the cells outside ±2 chips of a delay (R135). -/
def noiseLevel (g : Nat) (cells : List (Nat × Int × Nat)) (tau : Nat) : Nat :=
  let far := cells.filter fun c => !nearChips g c.2.2 tau
  sumN (far.map fun c => c.1) / max 1 far.length

/-- The Doppler bins `step` apart that span ±`w` about a centre, in Hz (R134). -/
def dopplerBins (centre : Int) (w step : Nat) : List Int :=
  let k := w / max 1 step
  (List.range (2 * k + 1)).map fun (j : Nat) => centre + ((j : Int) - k) * step

end Sys2Proof.Machine
end

