-- ==== Sys2Proof/Machine/NavCheck.lean ====
section
/-!
DEFINITION. The checks of navigation units and the data bits that they deliver (R144).
-/

namespace Sys2Proof.Machine

/-- CRC-24Q over bits, first transmitted first; 0 over a unit followed by its correct check bits.
(Log entry 57, PRESUMED) -/
def crc24q (bits : List Bool) : Nat :=
  bits.foldl (fun c b => if (c.testBit 23) != b then ((c * 2) % 2 ^ 24) ^^^ 0x864CFB else (c * 2) % 2 ^ 24) 0

/-- The parity of the bits at some positions, counted from 1. -/
def parityOf (bits : List Bool) (at_ : List Nat) : Bool := at_.foldl (fun p k => p != bits.getD (k - 1) false) false

/-- The 24 data bits of an LNAV word: its bits less D30* of the word before. (Log entry 57, PRESUMED) -/
def lnavData (d30 : Bool) (bits : List Bool) : List Bool := (bits.take 24).map fun b => b != d30

/-- The six parity bits of an LNAV word agree with D29* and D30* of the word before. (Log entry 57, PRESUMED) -/
def lnavOk (prev : Bool × Bool) (bits : List Bool) : Bool :=
  let d := lnavData prev.2 bits
  let p (x : Bool) (l : List Nat) : Bool := x != parityOf d l
  bits.length == 30 && bits.drop 24 ==
    [p prev.1 [1, 2, 3, 5, 6, 10, 11, 12, 13, 14, 17, 18, 20, 23], p prev.2 [2, 3, 4, 6, 7, 11, 12, 13, 14, 15, 18, 19, 21, 24],
     p prev.1 [1, 3, 4, 5, 7, 8, 12, 13, 14, 15, 16, 19, 20, 22], p prev.2 [2, 4, 5, 6, 8, 9, 13, 14, 15, 16, 17, 20, 21, 23],
     p prev.2 [1, 3, 5, 6, 7, 9, 10, 14, 15, 16, 17, 18, 21, 22, 24], p prev.1 [3, 5, 6, 8, 9, 10, 11, 13, 15, 19, 22, 23, 24]]

/-- The first `n` numbers from 3 on that are no power of two: the Hamming positions of data bits. -/
def hammingPositions (n : Nat) : List Nat :=
  ((List.range 128).filter fun k => decide (3 ≤ k) && !([4, 8, 16, 32, 64].contains k)).take n

/-- The 8 check bits of a GLONASS string agree with its 77 data bits: bits 1 to 8 of the string are the last ones sent, and bit 9 on the data
bits from the last one back. (Log entry 57, PRESUMED) -/
def stringOk (bits : List Bool) : Bool :=
  let b := bits.reverse
  let data := b.drop 8
  let syn := ((hammingPositions 77).zip data).foldl (fun a x => if x.2 then a ^^^ x.1 else a) 0
  let check := (enum (b.take 7)).foldl (fun a x => if x.2 then a ^^^ 2 ^ x.1 else a) 0
  bits.length == 85 && syn == check && !(b.foldl (fun p x => p != x) false)

/-- Bits packed from the most significant bit, with zeros after them (R145). -/
def packBits (bits : List Bool) : Octets :=
  (List.range (ceilDiv bits.length 8)).map fun i =>
    BitVec.ofNat 8 ((List.range 8).foldl (fun a j => 2 * a + (if bits.getD (8 * i + j) false then 1 else 0)) 0)

/-- The length of a unit with its check bits, by signal (R144); B-CNAV1 has two. (Log entry 57, PRESUMED) -/
def unitLengths (g : Nat) : List Nat :=
  if g = 0x01 then [30] else if g = 0x02 ∨ g = 0x03 then [300] else if g = 0x11 then [220] else if g = 0x12 then [244]
  else if g = 0x22 then [600, 264] else if g = 0x23 then [288] else if g = 0x31 ∨ g = 0x32 then [85] else []

/-- The bits of a unit before its tail: an F/NAV page of 244 bits ends with 6 tail bits behind its CRC. -/
def unitBody (g : Nat) (bits : List Bool) : List Bool := if g = 0x12 then bits.take 238 else bits

/-- The bits of a unit after the FEC of its signal, and whether the FEC corrected an error: LNAV and GLONASS strings have none (R144). -/
def unitBits (g : Nat) (symbols : List Bool) : List Bool × Bool :=
  if g = 0x01 ∨ g = 0x31 ∨ g = 0x32 then (symbols, false) else Config.fecDecode g symbols

/-- The data bits that a unit delivers (R144): of an I/NAV page pair the 112 and 16 bits of its word.
(Log entry 57, PRESUMED) -/
def unitData (g : Nat) (prev : Bool × Bool) (bits : List Bool) : List Bool :=
  if g = 0x01 then lnavData prev.2 bits
  else if g = 0x11 then (bits.drop 2).take 112 ++ (bits.drop 116).take 16
  else if g = 0x31 ∨ g = 0x32 then bits.take 77
  else (unitBody g bits).take ((unitBody g bits).length - 24)

/-- UNIT_TYPE by signal (R144, R145). -/
def unitType (g : Nat) : Nat :=
  if g = 0x01 then 0 else if g = 0x02 ∨ g = 0x03 ∨ g = 0x23 then 1 else if g = 0x11 ∨ g = 0x12 then 2 else if g = 0x22 then 3 else 4

/-- The check of a unit of a signal (R144). -/
def unitOk (g : Nat) (prev : Bool × Bool) (bits : List Bool) : Bool :=
  (unitLengths g).contains bits.length &&
    (if g = 0x01 then lnavOk prev bits else if g = 0x31 ∨ g = 0x32 then stringOk bits else crc24q (unitBody g bits) == 0)

end Sys2Proof.Machine
end

