-- ==== Sys2Proof/Machine/Glade.lean ====
section
/-!
DEFINITION. Glade's signal path: the JESD links, the epoch statistics of the streams, the notches, acquisition,
the tracking channels, the channel planner and the navigation units (R115–R147).
-/

namespace Sys2Proof.Machine

/-- A difference of phases wrapped into [−0.5, +0.5) cycle, 2^-32 cycle. -/
def wrapTurn (x : Int) : Int := (x + 2147483648) % 4294967296 - 2147483648

namespace State

/-- The frequency channel of a GLONASS slot, as far as it was received (R136). -/
def gloChannel (s : State) (sv : Nat) : Int := Sparse.get (fun _ => 0) s.glade.gloK sv
/-- GLO_K of a signal and satellite: 0 for the other systems (R133). -/
def gloKOf (s : State) (sig sv : Nat) : Int := if signalSystem sig = 4 then s.gloChannel sv else 0
/-- The carrier of a channel in Hz (R136). -/
def chanCarrier (s : State) (c : Nat) : Int := signalCarrier (s.chanSignal c) (s.gloKOf (s.chanSignal c) (s.chanSv c))
/-- The channel is pinned (R143). -/
def chanPinned (s : State) (c : Nat) : Bool := octetAt (s.blob (Obj.chAssign c)) 3 == 1
/-- The stream that a channel works on (R115). -/
def chanStream (s : State) (c : Nat) : Nat := 3 * s.chanAnt c + signalBand (s.chanSignal c)

/-- APLL-J is locked. -/
def apllJLocked (s : State) : Bool := s.o (Obj.apllState 4) == 2

/-- The bands enabled on a link. -/
def linkBandCount (s : State) (a : Nat) : Nat := popCount (s.n (Obj.linkBands a)) 3

/-- The lane rate of a link in units of 61.44 kb/s × 33, or none when F is not a whole number of at least 2 (R116,
R117): F × 8 × 245.76 MS/s × 33/32 ÷ D, as F × 33 × 61,440 kb/s ÷ D. -/
def linkRateKbps (bands lanes d : Nat) : Option Nat :=
  let m := 2 * popCount bands 3
  if lanes = 0 ∨ d = 0 then none
  else if 2 * m % lanes ≠ 0 ∨ 2 * m / lanes < 2 then none
  else some (2 * m / lanes * 33 * 61440 / d)

/-- The links' configuration is one that the device supports (R117): one lane rate of at most 16.22016 Gb/s. -/
def linksOk (bands lanes : List Nat) (d : Nat) : Bool :=
  let rates := (bands.zip lanes).filterMap fun x => if x.1 = 0 then none else some (linkRateKbps x.1 x.2 d)
  rates.all fun r => match r with
    | none => false
    | some v => decide (v ≤ 16220160) && rates.all fun r' => r' == some v

/-- LANE_RATE_MBPS from the configuration in force; with no link enabled it keeps the last one (R117).
(Log entry 104, DESIGN CHOICE) -/
def deriveLaneRate (s : State) : State :=
  let rates := (List.range 4).filterMap fun a =>
    if s.n (Obj.linkBands a) = 0 then none else linkRateKbps (s.n (Obj.linkBands a)) (s.n (Obj.linkLanes a)) (s.n Obj.sampleDivider)
  match rates with
  | r :: _ => s.setO Obj.laneRateMbps (roundUpHalf r 1000)
  | [] => s

/-! ### Channel states (R141) -/

/-- The pair is not to be searched yet on that signal and antenna (R141). -/
def chanBanned (s : State) (t : Nat × Nat × Nat) : Bool :=
  s.glade.banned.any fun b => b.1 == t.1 && b.2.1 == t.2.1 && b.2.2.1 == t.2.2 && decide (s.age < b.2.2.2)

/-- The SYNCED channel that another signal or antenna of the same satellite starts from (R135). -/
def chanAid (s : State) (c sig sv : Nat) : Option Nat :=
  (List.range 256).find? fun k => k != c && s.chanState k == 5 && signalSystem (s.chanSignal k) == signalSystem sig && s.chanSv k == sv

/-- The assignment of a channel begins to be worked on: PULL_IN by aided handover, with the SYNCED channel's code phase in time and its Doppler
scaled by the carrier ratio, else SEARCH, unless the channel is out of service or the pair is banned (R135, R141, R142). -/
def chanBegin (s : State) (c : Nat) : State :=
  let v := s.chan c
  let sig := v.asg.1
  if v.out then s
  else match s.chanAid c sig v.asg.2.1 with
    | some k =>
      let w := s.chan k
      let span := signalCodeLength sig * 4294967296
      let code := (w.codePhase * signalChipRate sig / signalChipRate (s.chanSignal k)) % span
      let dop := roundUpHalf (w.doppler * s.chanCarrier c) (s.chanCarrier k)
      (s.setChan c { v with codePhase := code, doppler := dop }).chanEnter c 2
    | none => if s.chanBanned v.asg then s else s.chanEnter c 1

/-- A new assignment takes effect, from IDLE (R135, R143). -/
def chanAssignNow (s : State) (c : Nat) (t : Nat × Nat × Nat × Nat) : State :=
  let keep := s.chan c
  let asg : Nat × Nat × Nat := if t.1 = 0 then (0, 0, 0) else (t.1, t.2.1, t.2.2.1)
  let clean : TrackChannel := { spared := keep.spared, spareDue := keep.spareDue, out := keep.out, asg := asg }
  let s1 := (s.setChan c clean).chanEnter c 0
  let s2 := s1.setBlob (Obj.chAssign c) (if t.1 = 0 then zeros 4 else
    [BitVec.ofNat 8 t.1, BitVec.ofNat 8 t.2.1, BitVec.ofNat 8 t.2.2.1, BitVec.ofNat 8 t.2.2.2])
  if t.1 = 0 then s2 else s2.chanBegin c

/-- A channel assignment that takes effect at the next epoch (R143): signal, SV, antenna, PIN. -/
def chanPlan (s : State) (c : Nat) (t : Nat × Nat × Nat × Nat) : State := s.setChan c { s.chan c with next := some t }

/-- Glade at a boundary: OFF to CLOCKS, any other state to OFF when disabled or unlocked (R123). -/
def gladeBoundary (s : State) : State :=
  if s.o Obj.gladeState = 0 then
    if s.apllJLocked && s.flag Obj.gladeEnable && s.running then
      let s1 := s.setO Obj.gladeState 1
      { s1 with glade := { s1.glade with entry := s1.age, phased := false } }
    else s
  else if s.apllJLocked && s.flag Obj.gladeEnable && s.running then s
  else s.gladeOff

/-- Glade enters RUN at the first link in DATA; a survey starts if POS_MODE is 1 (R123, R162). -/
def gladeRun (s : State) : State :=
  if s.o Obj.gladeState = 2 then
    let s1 := s.setO Obj.gladeState 3
    let s2 := { s1 with glade := { s1.glade with started := true } }
    if s2.o Obj.solState = 0 ∧ s2.o Obj.posMode = 1 then (s2.setO Obj.solState 1).surveyRestart else s2
  else s

/-- Glade's clock domains JSC, JRX and GBB are present; without one its measurements are invalid (R36). -/
def gladeClocked (s : State) : Bool := [32, 33, 34].all fun k => bitOf (s.n Obj.cdStatus) k

/-- The stream of a link is DATA and not JAMMED (R132), with Glade's clocks (R36). -/
def streamOk (s : State) (k : Nat) : Bool := s.o (Obj.linkState (k / 3)) == 3 && !(s.strm k).jammed && s.gladeClocked

/-! ### The lanes of a link (R115, R116) -/

/-- Octets per frame on a lane, F = 2M / L (R116). -/
def linkF (s : State) (a : Nat) : Nat := 4 * s.linkBandCount a / max 1 (s.n (Obj.linkLanes a))

/-- A lane JL00–JL15 is out of reset: one of the L lanes of a link that is not DOWN (R115, R120). -/
def jesdLaneOn (s : State) (n : Nat) : Bool :=
  s.o (Obj.linkState (n / 4)) != 0 && s.n (Obj.linkBands (n / 4)) != 0 && decide (n % 4 < s.n (Obj.linkLanes (n / 4)))

/-- The octets of a link's logical lanes, by LANE_MAP: its lane number, and inverted polarity undone (R115, R146). -/
def logicalLanes (s : State) (a : Nat) (lanes : List Octets) : List Octets :=
  (List.range (s.n (Obj.linkLanes a))).map fun j =>
    match (List.range 4).find? fun p => s.jesdLaneOn (4 * a + p) && s.n (Obj.laneMap (4 * a + p)) % 4 == j with
    | some p =>
      let x := lanes.getD (4 * a + p) []
      if bitOf (s.n (Obj.laneMap (4 * a + p))) 7 then x.map fun b => ~~~b else x
    | none => []

/-- The samples of band `b` of a link: converters in order of the enabled bands, I before Q (R116).
(Log entry 102, PRESUMED) -/
def bandSamples (s : State) (a b : Nat) (lanes : List Octets) : List RawSample :=
  let l := s.logicalLanes a lanes
  let f := s.linkF a
  let c := 2 * popCount (s.n (Obj.linkBands a)) b
  (List.range (frameCount l (max 1 f))).map fun n => rawSample l (s.glink a).bad (max 1 f) c n

/-! ### Notches (R126) -/

/-- The distance of two bins of the 1,024-bin spectrum, on its circle. -/
def binGap (a b : Nat) : Nat :=
  let d := if a ≤ b then b - a else a - b
  min d (1024 - d)

/-- The frequency of a bin from the stream centre, in Hz (R126). -/
def binHz (d b : Nat) : Int := ((if b < 512 then (b : Int) else (b : Int) - 1024) * 240000) / (max 1 d : Nat)

/-- NOTCH_ACTIVE and NOTCH_FREQ from the notches of a stream. -/
def showNotches (s : State) (k : Nat) : State :=
  let ns := (List.range 8).map fun j => ((s.strm k).notches.getD j none)
  let act := (enum ns).foldl (fun m x => if x.2.isSome then setBit m x.1 else m) 0
  let fr := (ns.map fun n => toBEInt 4 (match n with | some v => v.freq | none => 0)).flatten
  (s.setN (Obj.notchActive k) act).setBlob (Obj.notchFreq k) (if act = 0 then [] else fr)

/-- Every notch of a stream released at the next epoch (NOTCH_ENABLE = 0; R127). -/
def releaseNotches (s : State) (k : Nat) : State := s.setStrm k { s.strm k with nextNotches := some [] }

/-- The notches at the end of an average: release, then assignment of the strongest
interferers, in force from the next epoch (R126, R127).  `power` holds the 1,024 bins. (Log entry 39, DEDUCED) -/
def notchAverage (s : State) (k : Nat) (power : List Nat) : State :=
  if !s.flag (Obj.notchEnable k) then s.releaseNotches k
  else
    let d := s.n Obj.sampleDivider
    let sorted := sortBy (fun a b => decide (a < b)) power
    let median2 := sorted.getD 511 0 + sorted.getD 512 0
    -- power over the median by a number of dB: 2 × power × 2^96 against median2 × 10^(dB/10)
    let above (p : Nat) (db : Int) : Bool := decide ((2 * p : Nat) * fpOne > median2 * fpPow10 (256 * db))
    let det := s.o (Obj.notchDetectDb k)
    let now := (s.strm k).nextNotches.getD (s.strm k).notches
    let old := (List.range 8).map fun j => now.getD j none
    let kept := (enum old).map fun x => match x.2 with
      | none => none
      | some n =>
        let below := if above (power.getD n.home 0) (det - 3) then 0 else n.below + 1
        if 16 ≤ below then none else some ({ n with below := below } : Notch)
    let inter := sortBy (fun a b => decide (a.2 > b.2)) ((enum power).filter fun x => above x.2 det)
    let res := inter.foldl (fun (acc : List (Option Notch) × Nat × Nat) x =>
      let near := acc.1.any fun n => match n with | some v => decide (binGap v.home x.1 ≤ 2) | none => false
      if near then acc
      else match acc.1.findIdx? (fun n => n.isNone) with
        | some j => (setAt acc.1 j (some { home := x.1, freq := binHz d x.1 }), acc.2.1 + 1, acc.2.2)
        | none => (acc.1, acc.2.1, acc.2.2 + 1)) (kept, 0, 0)
    let s1 := s.setStrm k { s.strm k with nextNotches := some (if res.1.all (fun n => n.isNone) then [] else res.1) }
    (s1.addN (Obj.notchAssigns k) res.2.1).addN (Obj.notchOverflows k) res.2.2

/-! ### The epoch (R124–R133) -/

/-- The notches of a stream after an epoch: each one adapts to its own output within ±2 bins of its assignment (R126). -/
def trackNotches (s : State) (k : Nat) (ns : List (Option Notch)) (x : List (Int × Int)) : List (Option Notch) :=
  let d := max 1 (s.n Obj.sampleDivider)
  let e := s.n (Obj.notchR k)
  let hz := (240000 : Int) / (d : Nat)
  (enum ns).map fun n => n.2.map fun v =>
    let out := (cascade (notchRadius e) d ((s.strm k).notches.take (n.1 + 1)) x).2
    { v with freq := clampI (binHz d v.home - 2 * hz) (binHz d v.home + 2 * hz) (Config.notchGradient e v.freq out) }

/-- The spectrum of an epoch in the average of 64 (R126). -/
def monitored (v : GladeStream) (x : List (Int × Int)) : GladeStream :=
  let sum := addSpectrum v.spectrum (spectrumOf x)
  if 64 ≤ v.spectrumEpochs + 1 then { v with spectrum := [], spectrumEpochs := 0, average := some sum }
  else { v with spectrum := sum, spectrumEpochs := v.spectrumEpochs + 1 }

/-- One stream over an epoch in which its link was in DATA (R124–R129): blanking, the spectral monitor, the notch cascade, the requantised samples,
the duty, σ and the step of the next epoch; a stream without samples is not JAMMED any longer (R125).  Until a complete epoch of the link has ended every sample is blanked; that epoch's σ is formed over the samples that
have no reason of their own to be blanked. (Log entry 35, DEDUCED) -/
def streamEpoch (s : State) (k : Nat) (lanes : List Octets) : State :=
  let a := k / 3
  if s.o (Obj.linkState a) ≠ 3 ∨ bitOf (s.n (Obj.linkBands a)) (k % 3) = false then
    (if (s.strm k).jammed || !(s.strm k).codes.isEmpty then s.setStrm k { s.strm k with jammed := false, codes := [] } else s)
  else
    let d := max 1 (s.n Obj.sampleDivider)
    let v := s.strm k
    let raw := s.bandSamples a (k % 3) lanes
    let first := !v.sigmaSet
    let causes := raw.map (blankCause (s.n (Obj.blankK k)) (s.n (Obj.streamRms k)) (!first))
    let own := blankBits (s.n (Obj.blankPre k)) (s.n (Obj.blankPost k)) v.postLeft (245760 / d) causes
    let xs := (raw.take (245760 / d)).zip own.1
    let in_ := xs.map fun x => if first || x.2 then ((0 : Int), (0 : Int)) else (x.1.i, x.1.q)
    let path := cascade (notchRadius (s.n (Obj.notchR k))) d v.notches (xs.map fun x => if x.2 then (0, 0) else (x.1.i * fpOne, x.1.q * fpOne))
    let clear := (path.2.zip own.1).filter fun y => !y.2
    let power := sumI (clear.map fun y => y.1.1 * y.1.1 + y.1.2 * y.1.2)
    let blanked := if first then xs.length else (own.1.filter id).length
    let clipped := (xs.filter fun x => fullScale x.1).length
    let duty := ceilDiv (blanked * 65536) (245760 / d)
    let jam := decide (s.n (Obj.blankDutyMax k) < duty)
    let whole := (s.glink a).whole
    let s1 := s.setN (Obj.blankDuty k) (min 65535 duty)
    let s2 := (s1.addHwKey (Obj.blankSamples k) blanked).addHwKey (Obj.streamClipped k) clipped
    let s3 := if jam then s2.inc (Obj.jammedEpochs k) else s2
    let s4 := if clear.isEmpty || (first && !whole) then s3
      else s3.setN (Obj.streamRms k) (min 65535 (isqrt (power * 4096 / (2 * clear.length * fpOne * fpOne)).toNat))
    let s5 := s4.setStrm k { (monitored v in_) with
      jammed := jam, sigmaSet := v.sigmaSet || (whole && !clear.isEmpty), postLeft := own.2
      notches := s.trackNotches k path.1 (in_.map fun x => (x.1 * fpOne, x.2 * fpOne))
      codes := (path.2.zip own.1).map fun y => reqSample (s.n (Obj.reqStep k)) (first || y.2) y.1 }
    if s5.o (Obj.reqMode k) = 1 then s5.setO (Obj.reqStep k) (s5.o (Obj.reqFixedStep k))
    else s5.setN (Obj.reqStep k) (s5.n (Obj.streamRms k) * s5.n (Obj.reqRatio k) / 1024)

/-- Words 4–7 of a channel record: TAP_EXP and the nine taps, 14 bits each for I and Q (R133). -/
def tapOctets (taps : List (Int × Int)) : Octets :=
  let e := tapExpOf taps
  let v := (List.range 9).foldl (fun a k =>
    let t := taps.getD k (0, 0)
    (a * 2 ^ 14 + (t.1 / 2 ^ e % 16384).toNat) * 2 ^ 14 + (t.2 / 2 ^ e % 16384).toNat) e
  toBE 32 v

/-- NOTCH_DELAY of a channel: the group delay of its stream's cascade at its carrier (R127). -/
def chanNotchDelay (s : State) (c : Nat) : Int :=
  let k := s.chanStream c
  cascadeDelayPs (s.n (Obj.notchR k)) (max 1 (s.n Obj.sampleDivider)) (s.strm k).notches (s.chanCarrier c * 65536 - s.o (Obj.streamCentre k))

/-- The chips over which the code phase of a channel counts: the navigation unit once SYNCED, before that the primary code (R133). -/
def chanSpan (s : State) (c : Nat) : Nat :=
  let sig := s.chanSignal c
  if s.chanState c = 5 ∧ signalUnitMs sig ≠ 0 then signalChipRate sig * signalUnitMs sig / 1000 else signalCodeLength sig

/-- The chips of the navigation unit of a signal, 2^-32 chip (R133). -/
def unitSpan (sig : Nat) : Nat := signalChipRate sig * signalUnitMs sig / 1000 * 4294967296

/-- The replica of a channel `n` epochs of 1 ms of plane time on: at its Doppler, and with the code loop's rate (R131, R133, R138).
(Log entry 42, DEDUCED) -/
def chanAdvance (s : State) (c n : Nat) : State :=
  let v := s.chan c
  let car := max 1 (s.chanCarrier c)
  let acc := v.carrierRem + v.doppler * 16777216 * n
  let step := roundUpHalf (signalChipRate v.asg.1 * 4294967296 * (256 * car + v.doppler) * n) (256000 * car) + roundUpHalf (v.codeRate * n) 1000
  s.setChan c { v with
    codePhase := ((v.codePhase + step) % (s.chanSpan c * 4294967296 : Nat)).toNat, carrier := v.carrier + acc / 1000, carrierRem := acc % 1000
    unitCode := v.unitCode.map fun (u : Nat) => ((u + step) % (max 1 (unitSpan v.asg.1) : Nat)).toNat, sweep := (v.codePhase, step, v.carrier, acc / 1000) }

/-- The realised offsets of the nine taps from P, 2^-32 chip: whole GBB cycles, NOISE by half the code; SPARE stands where the tap that it replaces
stood (R137, R142). -/
def tapOffsets (s : State) (c : Nat) : List (Option Int) :=
  let g := s.chanSignal c
  let at_ (off : Int) : Int := cyclesToChips g (tapCycles g off)
  let d1 := at_ (s.o (Obj.tapD1 g))
  let d2 := at_ (s.o (Obj.tapD2 g))
  let dm := at_ (s.o (Obj.tapDm g))
  let own : List (Option Int) :=
    [some (-d2), some (-d1), some 0, some d1, some d2, some (-dm), some dm, some (signalCodeLength g / 2 * 4294967296 : Nat)]
  let spare : Option Int := match (s.chan c).spared with
    | some t => own.getD t none
    | none => if s.o (Obj.chSpareOffset c) = -32768 then none else some (cyclesToChips g (gbbCycles g (s.o (Obj.chSpareOffset c))))
  own ++ [spare]

/-- The channel record of an epoch, and whether it is VALID (R133). -/
def chanRecord (s : State) (c : Nat) (discont : Bool) : Octets × Bool :=
  let v := s.chan c
  let st := s.chanState c
  let k := s.chanStream c
  let sig := s.chanSignal c
  let multi := decide (s.n (Obj.mpLimit sig) < v.mpMetric.natAbs)
  let valid := decide (st = 5) && s.streamOk k && !v.slip && !discont
  let fl := (if valid then 2 ^ 15 else 0) + (if st = 4 ∨ st = 5 then 2 ^ 14 else 0) + (if v.halfCycle then 2 ^ 13 else 0) +
    (if v.slip then 2 ^ 12 else 0) + (if multi then 2 ^ 11 else 0) + (if (s.strm k).jammed then 2 ^ 10 else 0) +
    (if s.n (Obj.notchActive k) ≠ 0 then 2 ^ 9 else 0) + (if discont then 2 ^ 8 else 0) +
    (if v.newAcc then 2 ^ 7 else 0) + (if v.spared.isSome then 2 ^ 6 else 0)
  (toBE 8 v.codePhase ++ toBEInt 8 v.carrier ++ toBEInt 4 v.doppler ++ toBE 2 v.cn0 ++ toBE 2 fl ++
    toBE 1 sig ++ toBE 1 (s.chanSv c) ++ toBE 1 (s.chanAnt c * 16 + st) ++ toBEInt 1 (s.gloKOf sig (s.chanSv c)) ++
    toBEInt 2 (clampI (-32768) 32767 v.notchDelay) ++ toBEInt 2 v.mpMetric ++ tapOctets v.taps, valid)

/-- One channel at an epoch: a new assignment takes effect with an IDLE record, an assigned channel in IDLE is tried again, any other one gives its
record; SPARE takes the place of a failed tap from here on (R133, R141–R143). -/
def chanEpoch (s : State) (c : Nat) : State :=
  let v := s.chan c
  match v.next with
  | some t => (s.setChan c { v with next := none }).chanAssignNow c t
  | none =>
    if s.chanState c = 0 then
      let s1 := if v.record.isEmpty then s else s.setChan c { v with record := [], valid := false }
      if v.asg.1 = 0 then s1 else s1.chanBegin c
    else
      let s1 := if 2 ≤ s.chanState c then s.chanAdvance c 1 else s
      let s2 := s1.setChan c { s1.chan c with notchDelay := s1.chanNotchDelay c }
      let r := s2.chanRecord c (s2.glink (s2.chanAnt c)).discont
      let s3 := if v.slip then s2.inc (Obj.chSlips c) else s2
      let w := s3.chan c
      let spared := match w.spareDue with | some t => some t | none => w.spared
      let s4 := s3.setChan c { w with record := r.1, valid := r.2, slip := false, newAcc := false, spared := spared, spareDue := none }
      s4.setChan c { s4.chan c with offsets := s4.tapOffsets c }

/-- The frequency of a channel's carrier from the centre of its stream, 2^-16 Hz (R136). -/
def chanOffset (s : State) (c : Nat) : Int := s.chanCarrier c * 65536 - s.o (Obj.streamCentre (s.chanStream c))

/-- The correlation of a channel with the samples of an epoch, its replica going from the phase at the epoch before to that at this one: every sample
enters the ten sums, a blanked one as 0, and an integration ends and the next begins at a millisecond of code that T_COH allows (R124, R133, R136,
R138).  T_COH of a data component is 1 ms before bit sync. -/
def correlate (s : State) (c : Nat) : State :=
  let v := s.chan c
  let g := s.chanSignal c
  let codes := (s.strm (s.chanStream c)).codes
  let n := codes.length
  let ms : Int := signalChipRate g / 1000 * 4294967296
  let turn := turnOf (max 1 (s.n Obj.sampleDivider)) (s.chanOffset c)
  let phase (j : Int) : Int := v.sweep.1 + v.sweep.2.1 * j / (max 1 n : Nat)
  let carrier (j : Nat) : Int := (v.sweep.2.2.1 + v.sweep.2.2.2 * j / (max 1 n : Nat)) * fpOne / 4294967296 + turn * (s.n Obj.gladeEpochCount * n + j : Nat)
  s.setChan c ((enum codes).foldl (fun (v : TrackChannel) (e : Nat × Nat) =>
    let here := phase e.1
    let w : TrackChannel := if here / ms = phase ((e.1 : Int) - 1) / ms then v
      else
        let grown := v.sums.map fun x => { x with ms := x.ms + 1 }
        let m : TrackChannel := { v with codeMs := v.codeMs + 1, sums := grown }
        if cohEdge g (max 1 (s.n (Obj.tCohMs g))) v.edge m.codeMs then
          { m with sums := some {}, done := match grown with | some x => m.done ++ [x.close] | none => m.done }
        else m
    { w with sums := w.sums.map fun (x : TapSums) =>
        TapSums.add x (replicas g (s.chanSv c) v.offsets here) (!bitOf e.2 6) (unturn (carrier e.1) (sampleLevels e.2)) }) v)

/-- The channels that track correlate the epoch's samples. -/
def correlateAll (s : State) : State := s.forChans fun s c => if 2 ≤ s.chanState c ∧ s.chanState c ≤ 5 then s.correlate c else s

/-! ### Snapshots (R134) -/

/-- The channels that wait for a search of a signal, for GLONASS on frequency channel `glo`, on a stream. -/
def searchers (s : State) (k sig : Nat) (glo : Int) : List Nat :=
  (List.range 256).filter fun c => (s.chanState c == 1 || s.chanState c == 6) && s.chanSignal c == sig && s.chanStream c == k &&
    s.gloKOf sig (s.chanSv c) == glo

/-- The place of the snapshot of a stream for a signal and GLONASS frequency channel. -/
def snapKey (k sig : Nat) (glo : Int) : Nat := (256 * k + sig) * 16 + (glo + 8).toNat

/-- The snapshot of a stream for a signal. -/
def snap (s : State) (k sig : Nat) (glo : Int) : Option Snapshot := Sparse.get (fun _ => none) s.glade.snaps (snapKey k sig glo)

/-- The state with a snapshot written. -/
def setSnap (s : State) (k sig : Nat) (glo : Int) (x : Option Snapshot) : State :=
  { s with glade := { s.glade with snaps := Sparse.put (fun _ => none) s.glade.snaps (snapKey k sig glo) x } }

/-- A snapshot at an epoch: one in progress takes the millisecond that ends, and a new one of ACQ_K milliseconds begins where every channel that waits
has been searched in the last one (R134). -/
def snapEpoch (s : State) (k sig : Nat) (glo : Int) : State :=
  let wait := s.searchers k sig glo
  let fresh : Option Snapshot := some { epoch := s.n Obj.gladeEpochCount, left := s.n Obj.acqK }
  match s.snap k sig glo with
  | none => if wait.isEmpty || s.o (Obj.linkState (k / 3)) != 3 then s else s.setSnap k sig glo fresh
  | some x =>
    let codes := (s.strm k).codes
    if codes.isEmpty then s.setSnap k sig glo none
    else if 0 < x.left then
      let f := signalCarrier sig glo * 65536 - s.o (Obj.streamCentre k)
      let ms := decimate (acqLen sig) (max 1 (s.n Obj.sampleDivider)) f (x.samples.length / acqLen sig * codes.length) codes
      s.setSnap k sig glo (some { x with left := x.left - 1, samples := x.samples ++ ms })
    else if wait.all fun c => (s.chan c).searched == some x.epoch then s.setSnap k sig glo (if wait.isEmpty then none else fresh)
    else s

/-- The snapshots of every stream and signal at an epoch; those of a GLONASS signal by frequency channel. -/
def snapAll (s : State) : State :=
  signalCodes.foldl (fun s sig => [0, 3, 6, 9].foldl (fun s a =>
    if signalSystem sig = 4 then (List.range 14).foldl (fun (s : State) (j : Nat) => s.snapEpoch (a + signalBand sig) sig ((j : Int) - 7)) s
    else s.snapEpoch (a + signalBand sig) sig 0) s) s

/-- The complete snapshot that a channel has not been searched in yet. -/
def chanSnap (s : State) (c : Nat) : Option Snapshot := match s.snap (s.chanStream c) (s.chanSignal c) (s.gloKOf (s.chanSignal c) (s.chanSv c)) with
  | some x => if x.left = 0 ∧ (s.chan c).searched ≠ some x.epoch then some x else none
  | none => none

/-- A channel searched in a snapshot. -/
def searchedIn (s : State) (c : Nat) (x : Snapshot) : State := s.setChan c { s.chan c with searched := some x.epoch }

/-- A bit mask over 12 streams. -/
def streamMask (f : Nat → Bool) : Nat := (List.range 12).foldl (fun m k => if f k then setBit m k else m) 0

/-- The notches of a stream that come into force at an epoch; one that stays keeps its filter's samples and its frequency (R127). -/
def notchesNow (s : State) (k : Nat) : State :=
  let v := s.strm k
  match v.nextNotches with
  | none => if v.notches.all fun n => n.isNone then s else s.showNotches k
  | some l =>
    let carry (x : Nat × Option Notch) : Option Notch := match x.2, v.notches.getD x.1 none with
      | some n, some o => some (if n.home = o.home then { o with below := n.below } else n)
      | n, _ => n
    (s.setStrm k { v with notches := (enum l).map carry, nextNotches := none }).showNotches k

/-- Plane time of an epoch: 1 ms after the one before it, or on the timing plane's grid where Glade's clocks have just started (R118, R131). -/
def epochTime (s : State) (e : GladeEpoch) : Int :=
  if s.glade.phased then s.glade.epochPlane + 1048576000000 else (e.plane : Int) / 409600 * 409600

/-- What every epoch does: the count since the first entry to RUN, the SYSREF edge and its check, and the time of the epoch (R119, R131). -/
def epochFalls (s : State) (e : GladeEpoch) : State :=
  let s1 := if s.glade.started then s.inc Obj.gladeEpochCount else s
  let s2 := e.sysrefBad.foldl (fun s a => s.inc (Obj.linkSysrefErrors a)) s1
  { s2 with glade := { s2.glade with
    epochPlane := s.epochTime e, phased := s2.o Obj.gladeState != 0, epochAge := some s2.age, epochState := s2.sys.history.head?
    sysrefLeft := if s2.gladeLinking then s2.glade.sysrefLeft - 1 else s2.glade.sysrefLeft } }

/-- The signal path's part of an epoch: the records, the descriptor, the statistics, notches and multiblocks that go with the next epoch, and in
RUN the correlation and the snapshots of the samples that end with it (R122, R125, R127, R128, R131, R132, R134). -/
def gladeEpochPath (s : State) (e : GladeEpoch) : State :=
  let s1 := s.epochFalls e
  let s2 := (List.range 256).foldl chanEpoch s1
  let ok := streamMask s2.streamOk
  let disc := streamMask fun k => (s2.glink (k / 3)).discont
  let active := ((List.range 256).filter fun c => s2.chanState c != 0).length
  let off := (s2.glade.epochPlane - s2.planeNow).toNat
  let desc := toBE 8 (s2.n Obj.gladeEpochCount) ++ toBE 8 off ++ toBE 2 ok ++ toBE 2 disc ++ toBE 4 active ++ zeros 8
  let s3 := (List.range 12).foldl (fun s k => (s.streamEpoch k e.lanes).notchesNow k) s2
  let s4 := (List.range 4).foldl (fun s a =>
    if s.n (Obj.linkState a) = 3 then s.setGlink a { s.glink a with discont := false, bad := [], whole := true } else s) s3
  let s5 : State := { s4 with glade := { s4.glade with descriptor := desc, epochPending := true } }
  if s5.o Obj.gladeState = 3 then s5.correlateAll.snapAll else s5

/-- The epoch descriptor and the 256 records handed over in W0 (R132, R163): an epoch that has just fallen, with
the solution record of the epoch before it; an epoch outside RUN leaves no record for the next dump.
(Log entry 41, DEDUCED) -/
def gladeDump (s : State) : State :=
  if s.glade.epochPending then
    let recs := (List.range 256).map fun c => padTo 64 (s.chan c).record
    let handed := s.glade.recordPlane.map fun _ => s.glade.record
    let of := s.glade.recordPlane.getD (0, none)
    { s with glade := { s.glade with
      epochPending := false, dump := s.glade.descriptor, dumpRecords := recs, handedDesc := padTo 32 s.glade.dump, handed := handed
      handedPlane := of.1, handedState := of.2, recordPlane := if s.o Obj.gladeState = 3 then some (s.glade.epochPlane, s.glade.epochState) else none
      record := if s.o Obj.gladeState = 3 then s.blob Obj.solLast else [] } }
  else { s with glade := { s.glade with handed := none } }

/-- W0 overran before the Glade dump: the epoch's measurements and the record it carried are missing (R53,
R163). -/
def gladeDumpMissing (s : State) : State :=
  { s with glade := { s.glade with dump := [], dumpRecords := [], handed := none } }

/-! ### Loops (R138–R142) -/

/-- The newest entries that cover a span in ms. -/
def window {α : Type} (len : α → Nat) (span : Nat) : List α → Nat → List α
  | [], _ => []
  | x :: t, have_ => if span ≤ have_ then [] else x :: window len span t (have_ + len x)

/-- The tap parity of an integration: SPARE replaces the first failing tap from the next epoch on; a second tap, or SPARE itself, takes the
channel out of service (R142). -/
def tapParity (s : State) (c : Nat) (bad : List (Fin 9)) : State :=
  bad.foldl (fun (s : State) (t : Fin 9) =>
    let v := s.chan c
    if v.out || v.spared == some t.val || v.spareDue == some t.val then s
    else if t.val = 8 ∨ v.spared.isSome = true ∨ v.spareDue.isSome = true then
      let s1 := (s.faulted 0x0402 c 0).chanEnter c 0
      s1.setChan c { s1.chan c with out := true }
    else
      let s1 := s.setChan c { v with spareDue := some t.val }
      ((s1.setF (Obj.chTapSpared c) true).setO (Obj.chSpareOffset c) (-32768)).faulted 0x0401 c 0) s

/-- The state transitions at the end of an integration, given a completed PLI mean if any (R141).
(Log entry 42, DEDUCED) -/
def loopTransition (s : State) (c : Nat) (pliMean : Option Int) : State :=
  let v := s.chan c
  let st := s.chanState c
  if 3 ≤ st ∧ st ≤ 5 ∧ 1000 ≤ v.weakMs then s.chanEnter c 6
  else if st = 2 ∧ 100 ≤ v.goodMs then s.chanEnter c 3
  else match pliMean with
    | none => if st = 4 ∧ v.frameSync ∧ v.navPassed then s.chanEnter c 5 else s
    | some m =>
      -- PLI in 2^-32: 0.80 and 0.60
      if st = 3 ∧ 5 * m ≥ 4 * 4294967296 then s.chanEnter c 4
      else if (st = 4 ∨ st = 5) ∧ 3 ≤ v.pliLow then
        let s1 := s.chanEnter c 3
        s1.setChan c { s1.chan c with slip := true, navPassed := false }
      else if st = 4 ∧ v.frameSync ∧ v.navPassed then s.chanEnter c 5
      else s

/-- The power of a tap. -/
def tapPower (t : Int × Int) : Int := t.1 * t.1 + t.2 * t.2

/-- The magnitude of a tap, with 24 fractional bits. -/
def tapMag (t : Int × Int) : Int := (isqrt ((tapPower t).toNat * 2 ^ 48) : Nat)

/-- The DLL discriminator (R138), 2^-32: 0, the normalised early-minus-late power on E1 and L1; 1, double-delta on the magnitudes.
(Log entry 42, DEDUCED) -/
def dllDiscriminator (mode : Nat) (taps : List (Int × Int)) : Int :=
  let t (k : Nat) : Int × Int := taps.getD k (0, 0)
  if mode = 0 then
    let sum := tapPower (t 1) + tapPower (t 3)
    if sum = 0 then 0 else (tapPower (t 1) - tapPower (t 3)) * 4294967296 / sum
  else (2 * (tapMag (t 1) - tapMag (t 3)) - (tapMag (t 0) - tapMag (t 4))) * 256

/-- The loops closed at the end of an integration: the FLL in PULL_IN, the PLL after it, and the DLL with the realised offsets of the taps that
its discriminator uses (R137, R138). -/
def closeLoops (s : State) (c ms : Nat) (freqErr : Int) (taps : List (Int × Int)) : State :=
  let v := s.chan c
  let g := s.chanSignal c
  let carrier := if s.chanState c = 2 then Config.carrierLoop 0 (s.n (Obj.fllBw g)) ms v.loop freqErr
    else Config.carrierLoop 1 (s.n (Obj.pllBw g)) ms v.loop (Config.phaseDiscriminator (signalDataOnly g) (taps.getD 2 (0, 0)))
  let rate := Config.codeLoop (s.n (Obj.dllBw g)) ms (tapCycles g (s.o (Obj.tapD1 g)))
    (if s.n (Obj.dllDisc g) = 0 then none else some (tapCycles g (s.o (Obj.tapD2 g)))) (dllDiscriminator (s.n (Obj.dllDisc g)) taps)
  s.setChan c { v with loop := carrier.1, doppler := carrier.2, codeRate := rate }

/-- The metrics and the loops of an integration (R138–R141); one without an unblanked sample leaves the loops and the lock indicator to coast
(R147). (Log entry 42, DEDUCED) -/
def integrate (s : State) (c : Nat) (y : TapSums) (x : Integration) : State :=
  let v := s.chan c
  let sig := s.chanSignal c
  let ms := y.ms
  let use := match v.spared with
    | some t => setAt y.taps t (y.taps.getD 8 (0, 0))
    | none => y.taps
  let tap (k : Nat) : Int × Int := use.getD k (0, 0)
  let pw (t : Int × Int) : Nat := (tapPower t).toNat
  let powers := window (fun p : Nat × Nat × Nat => p.2.2) 1000 ((pw (tap 2), pw (tap 7), ms) :: v.powers) 0
  let sp := sumN (powers.map fun p => p.1)
  let sn := sumN (powers.map fun p => p.2.1)
  let cn0 := decibels ((sp - sn) * 1000) (sn * ms)
  let p2 := tap 2
  let den := tapPower p2
  let ratio := if den = 0 then 0 else ((p2.1 * p2.1 - p2.2 * p2.2) * 4294967296) / den
  let mpr := if tapMag p2 = 0 then 0 else ((tapMag (tap 5) - tapMag (tap 6)) * 4294967296) / tapMag p2
  let ratios := window (fun p : Int × Nat => p.2) 1000 ((mpr, ms) :: v.ratios) 0
  let mp := clampI (-32768) 32767 (roundUpHalf (sumI (ratios.map fun r => r.1)) (131072 * ratios.length))
  let full := decide (100 ≤ v.pliMs + ms)
  let mean := (v.pliSum + ratio) / (v.pliN + 1 : Nat)
  let freqErr := Config.freqDiscriminator p2 (v.taps.getD 2 (0, 0)) ms
  let strong := decide (s.n (Obj.cn0Loss sig) ≤ cn0)
  let base : TrackChannel := { v with
    powers := powers, cn0 := cn0, newAcc := true, taps := use.take 9, dataPrompt := tap 9, weakMs := if strong then 0 else v.weakMs + ms
    edge := x.bitSync, frameSync := x.frameSync }
  if y.live = 0 then (((s.setChan c base).loopTransition c none)).tapParity c x.parity
  else
    let s1 := (s.setChan c base).closeLoops c ms freqErr use
    let w : TrackChannel := { s1.chan c with
      ratios := ratios, mpMetric := mp
      pliSum := if full then 0 else v.pliSum + ratio, pliN := if full then 0 else v.pliN + 1
      pliMs := if full then 0 else v.pliMs + ms
      pliLow := if full then (if 5 * mean < 3 * 4294967296 then v.pliLow + 1 else 0) else v.pliLow
      goodMs := if decide (freqErr.natAbs < 1280) && strong then v.goodMs + ms else 0 }
    (((s1.setChan c w).loopTransition c (if full then some mean else none))).tapParity c x.parity

/-- The next integration that has ended, if there is one, closes its loops (R138). -/
def integrationEnd (s : State) (c : Nat) (x : Integration) : State := match (s.chan c).done with
  | y :: t => (s.setChan c { s.chan c with done := t }).integrate c y x
  | [] => s

/-! ### Acquisition (R134, R135) -/

/-- The centre of a search window in Hz: with a qualified class F reference the predicted Doppler plus the local-oscillator offset, else 0
(R134). -/
def searchCentre (s : State) (c : Nat) (predicted : Int) : Int :=
  if classFIds.any fun id => s.o (Obj.refState id) == 4 then
    roundUpHalf predicted 256 + roundUpHalf (s.canopy.rate * s.chanCarrier c) 18446744073709551616
  else 0

/-- The Doppler bins of a search: ±W, ACQ_WINDOW_HZ scaled by the carrier ratio; the narrow search of a LOST channel takes the bin of its last
Doppler and its neighbours (R134, R141). (Log entry 39, DEDUCED) -/
def searchBins (s : State) (c : Nat) (predicted : Int) : List Int :=
  let step := s.n Obj.acqBinHz
  if s.chanState c = 6 then dopplerBins (roundUpHalf (s.chan c).doppler 256) step step
  else dopplerBins (s.searchCentre c predicted) (s.n Obj.acqWindowHz * (s.chanCarrier c).toNat / 1575420000) step

/-- The strongest cell of some bins in a snapshot, and the noise level about it (R135). -/
def searchResult (s : State) (c : Nat) (x : Snapshot) (bins : List Int) : (Nat × Int × Nat) × Nat :=
  let g := s.chanSignal c
  let cells := acqCells g (s.chanSv c) (s.n Obj.acqK) x.samples bins
  let top := strongest cells
  (top, noiseLevel g cells top.2.2)

/-- A cell exceeds ACQ_THRESH times the noise level (R135). -/
def detects (s : State) (cell noise : Nat) : Bool := decide (s.n Obj.acqThresh * noise < cell * 256)

/-- The winning cell of a search, if it is a detection. -/
def searchWins (s : State) (c : Nat) (x : Snapshot) (predicted : Int) : Option (Int × Nat) :=
  let r := s.searchResult c x (s.searchBins c predicted)
  if s.detects r.1.1 r.2 then some r.1.2 else none

/-- The second dwell: the winning code phase and bin in a new snapshot, against the noise of that bin (R135).
(Log entry 39, DEDUCED) -/
def confirms (s : State) (c : Nat) (x : Snapshot) (hz : Int) (tau : Nat) : Bool :=
  let g := s.chanSignal c
  let cells := acqCells g (s.chanSv c) (s.n Obj.acqK) x.samples [hz]
  s.detects (acqCell g (s.chanSv c) (s.n Obj.acqK) x.samples hz tau) (noiseLevel g cells tau)

/-- A confirmed cell moves a channel to PULL_IN with its code phase, brought forward from the snapshot's epoch, and its Doppler
(R135, R141). (Log entry 39, DEDUCED) -/
def detected (s : State) (c : Nat) (x : Snapshot) (hz : Int) (tau : Nat) : State :=
  let g := s.chanSignal c
  let phase := ((acqLen g - tau % acqLen g) * signalChipRate g * 4294967296 / acqRate g) % (signalCodeLength g * 4294967296)
  let s1 := s.setChan c { s.chan c with codePhase := phase, doppler := hz * 256, codeRate := 0, unitCode := none }
  (s1.chanAdvance c (s.n Obj.gladeEpochCount - x.epoch)).chanEnter c 2

/-! ### The channel planner (R143) -/

/-- A signal can be assigned on an antenna: enabled, its band on the link, and the carrier, for GLONASS that of the satellite, within ±0.4 × Fs
of the stream centre (R136). (Log entries 38, DEDUCED; 104, DESIGN CHOICE) -/
def assignable (s : State) (sig sv ant : Nat) : Bool :=
  let k := 3 * ant + signalBand sig
  let fs := 245760000 / max 1 (s.n Obj.sampleDivider)
  let off : Int := signalCarrier sig (s.gloKOf sig sv) * 65536 - s.o (Obj.streamCentre k)
  s.flag (Obj.signalEnable sig) && bitOf (s.n (Obj.linkBands ant)) (signalBand sig) &&
    decide (5 * off.natAbs ≤ 2 * fs * 65536)

/-- The (signal, SV, antenna) triples the planner wants, in order (R143). (Log entry 38, DEDUCED) -/
def planWanted (s : State) (vis : List Visible) : List (Nat × Nat × Nat) :=
  let byElev := sortBy (fun (a b : Visible) => decide (b.elevation < a.elevation)) vis
  let sigs (v : Visible) : List Nat := signalCodes.filter fun g => signalSystem g == v.system
  let can (t : Nat × Nat × Nat) : Bool := s.assignable t.1 t.2.1 t.2.2 && !s.chanBanned t
  let on (a : Nat) (v : Visible) (f : Nat → Bool) : List (Nat × Nat × Nat) := (((sigs v).filter f).map fun g => (g, v.sv, a)).filter can
  let band0 (g : Nat) : Bool := signalBand g == 0 && g != 0x21
  let one := (byElev.map fun v => on 0 v fun _ => true).flatten
  let best (a : Nat) : List (Nat × Nat × Nat) :=
    ((byElev.filter fun v => !(on a v band0).isEmpty).take (s.n Obj.planMinAntSv)).map (fun v => on a v band0) |>.flatten
  let two := ([1, 2, 3].map best).flatten
  let three := (byElev.map fun v => ([1, 2, 3].map fun a => on a v fun _ => true).flatten).flatten
  (one ++ two ++ three).eraseDups

/-- The planner's assignments: what is wanted and tracked stays, the rest of its channels is unassigned, and free
channels take the wanted triples in order (R143). (Log entry 38, DEDUCED) -/
def planChannels (s0 : State) (vis : List Visible) : State :=
  let learn (t : Tbl Int) (v : Visible) : Tbl Int := if v.system = 4 then Sparse.put (fun _ => 0) t v.sv v.gloK else t
  let s : State := { s0 with glade := { s0.glade with gloK := vis.foldl learn s0.glade.gloK } }
  let held (c : Nat) : Nat × Nat × Nat := match (s.chan c).next with | some t => (t.1, t.2.1, t.2.2.1) | none => (s.chan c).asg
  let usable := (List.range 256).filter fun c => !(s.chan c).out && !s.chanPinned c
  let pinned := ((List.range 256).filter s.chanPinned).map held
  let want := ((s.planWanted vis).filter fun t => !pinned.contains t).take usable.length
  let stay := usable.filter fun c => want.contains (held c)
  let freed := usable.filter fun c => !stay.contains c
  let need := want.filter fun t => !((stay.map held).contains t)
  let s1 := (freed.zip (need.map some ++ List.replicate freed.length none)).foldl (fun s x => match x.2 with
    | some t => s.chanPlan x.1 (t.1, t.2.1, t.2.2, 0)
    | none => if (held x.1).1 = 0 then s else s.chanPlan x.1 (0, 0, 0, 0)) s
  { s1 with glade := { s1.glade with banned := s1.glade.banned.filter fun b => decide (s1.age < b.2.2.2) } }

/-! ### Navigation units (R144, R145, R161, R77) -/

/-- One record of the navigation ring: header and data bits padded to 64-bit words; EPOCH is that of the first epoch after the unit's last bit
(R145). -/
def navRecord (s : State) (c : Nat) (u : NavUnit) (data : List Bool) : Octets :=
  toBE 8 (s.n Obj.gladeEpochCount - u.epochs) ++ toBE 1 (s.chanSignal c) ++ toBE 1 (s.chanSv c) ++ toBE 1 (s.chanAnt c * 16) ++
    toBE 1 c ++ toBE 2 data.length ++ toBE 1 (unitType (s.chanSignal c)) ++
    toBE 1 ((if u.inverted then 1 else 0) + (if (unitBits (s.chanSignal c) u.symbols).2 then 2 else 0)) ++ padTo (8 * ceilDiv data.length 64) (packBits data)

/-- The records of the ring once `top` octets have been written, and how many of them were overwritten: those that lie more than 262,144 octets
behind (R356). (Log entry 3, DESIGN CHOICE) -/
def ringDrop (top : Nat) (l : List (Nat × Nat)) : List (Nat × Nat) × Nat :=
  let kept := l.filter fun r => decide (top ≤ r.1 + 262144)
  (kept, l.length - kept.length)

/-- The octet offset of the navigation ring in the GNSS bank. -/
def navBase : Nat := 0

/-- Octets written in the navigation ring of 262,144 octets from a free-running offset on, where it wraps (R356).
(Log entry 3, DESIGN CHOICE) -/
def navPut (s : State) (at_ : Nat) (r : Octets) : State :=
  let first := min r.length (262144 - at_ % 262144)
  (s.writeBank 19 (navBase + at_ % 262144) (r.take first)).writeBank 19 navBase (r.drop first)

/-- A record packed behind the last one in the navigation ring, and vector 34 of each function (R145, R346, R356). -/
def navWrite (s : State) (r : Octets) : State :=
  let at_ := s.glade.navWritten
  let s1 := s.navPut at_ r
  let x := ringDrop (at_ + r.length) s1.glade.navRecords
  let s2 := { s1 with glade := { s1.glade with navRecords := x.1 ++ [(at_, r.length)], navWritten := at_ + r.length } }
  let s3 := if x.2 = 0 then s2 else s2.addN Obj.navRingOverwrites x.2
  if s3.pcieUp then (s3.vector 0 34).vector 1 34 else s3

/-- The navigation record that a word of the GNSS bank belongs to is discarded: it is removed and reads as zeros (R375). -/
def navDiscard (s : State) (w : Nat) : State :=
  let hit (r : Nat × Nat) : Bool := decide (navBase ≤ 8 * w ∧ 8 * w < navBase + 262144 ∧ (8 * w - navBase + 262144 - r.1 % 262144) % 262144 < r.2)
  match s.glade.navRecords.find? hit with
  | some r => { (s.navPut r.1 (zeros r.2)) with glade := { s.glade with navRecords := s.glade.navRecords.filter fun x => x != r } }
  | none => s

/-- An octet of BAR4: the navigation ring, read-only (R345, R356). -/
def navOctet (s : State) (off : Nat) : Byte := s.readByte (s.wordAddr 19 ((navBase + off) / 8) + off % 8)

/-- NAV_WR: the free-running octet offset at which the next record will be written (R346, R356). -/
def navWr (s : State) : Nat := s.glade.navWritten % 4294967296

/-- The candidate LNAV week in a window of 1,024 weeks that starts at `lo` (R161). -/
def lnavCandidate (wn lo : Nat) : Nat := lo + (wn + 1024 * (lo / 1024 + 1) - lo) % 1024

/-- The week resolution after the fields in hand: a decoded week when the decoded sources agree, else LNAV by the
checkpoint, else LNAV by the build week (R161). (Log entry 104, DESIGN CHOICE) -/
def resolveWeek (s : State) : State :=
  let wk (k : Nat) : Option Nat := Sparse.get (fun _ => none) s.glade.weeks k
  let dec := [1, 2, 3].filterMap fun k => (wk k).map fun w => (k, w)
  let build := s.n Obj.weekBuild
  match dec with
  | (k, w) :: t =>
    if t.all (fun x => x.2 == w) then
      let was := s.n Obj.weekSource
      let s1 := if (was = 4 ∨ was = 5) ∧ s.n Obj.weekResolved ≠ w then s.inc Obj.weekConflicts else s
      (s1.setN Obj.weekResolved w).setN Obj.weekSource k
    else
      let s1 := if s.n Obj.weekSource = 0 ∧ s.n Obj.weekResolved = 0 then s else s.inc Obj.weekConflicts
      (s1.setN Obj.weekResolved 0).setN Obj.weekSource 0
  | [] => match s.glade.lnav with
    | none => s
    | some wn => match s.glade.checkpointWeek with
      | some c =>
        if build ≤ c then (s.setN Obj.weekResolved (lnavCandidate wn (c - 1))).setN Obj.weekSource 4
        else (s.setN Obj.weekResolved (lnavCandidate wn build)).setN Obj.weekSource 5
      | none => (s.setN Obj.weekResolved (lnavCandidate wn build)).setN Obj.weekSource 5

/-- A week field received (R161). -/
def weekField (s : State) (f : WeekField) : State :=
  let decoded (k w : Nat) : State :=
    if w < s.n Obj.weekBuild then s.inc Obj.weekConflicts
    else ({ s with glade := { s.glade with weeks := Sparse.put (fun _ => none) s.glade.weeks k (some w) } }).resolveWeek
  match f with
  | .cnav w => decoded 1 w
  | .galileo w => decoded 2 (w + 1024)
  | .beidou w => decoded 3 (w + 1356)
  | .lnav w => ({ s with glade := { s.glade with lnav := some (w % 1024) } }).resolveWeek

/-- A leap announced by a constellation: pending once two agree; a disagreement with an operator entry is ignored
and counted (R77); a new agreed entry takes the place of a GNSS entry that differs.
(Log entries 97, DESIGN CHOICE; 104, DESIGN CHOICE) -/
def leapAnnounce (s : State) (system : Nat) (e newOffset : Int) : State :=
  let rest := s.leap.announced.filter fun a => a.1 != system
  let s1 := { s with leap := { s.leap with announced := rest ++ [(system, e, newOffset)] } }
  let old := s1.o Obj.taiUtcOffset
  if rest.any (fun a => a.2.1 == e && a.2.2 == newOffset) ∧ (newOffset = old + 1 ∨ newOffset = old - 1) ∧ s1.second < e then
    match s1.leapPending with
    | none => s1.setLeapPending e newOffset 1
    | some p =>
      if s1.o Obj.leapSource = 2 then
        if p.e = e ∧ p.newOffset = newOffset then s1 else s1.inc Obj.leapConflicts
      else s1.setLeapPending e newOffset 1
  else s1

/-- What the fields of a delivered unit say: a week, a leap, a frequency channel (R136, R161, R77). -/
def navFields (s : State) (c : Nat) (u : NavUnit) : State :=
  let s1 : State := match u.week with | some w => s.weekField w | none => s
  let s2 : State := match u.leap with | some l => s1.leapAnnounce (signalSystem (s.chanSignal c)) l.1 l.2 | none => s1
  match u.gloK with
  | some k => { s2 with glade := { s2.glade with gloK := Sparse.put (fun _ => 0) s2.glade.gloK k.1 k.2 } }
  | none => s2

/-- A navigation unit of a channel checked, delivered or dropped; one that passes tells where the unit in progress began (R133, R144, R145). -/
def navUnit (s : State) (c : Nat) (u : NavUnit) : State :=
  let sig := s.chanSignal c
  let v := s.chan c
  let bits := (unitBits sig u.symbols).1
  let last := (bits.getD 28 false, bits.getD 29 false)
  if sig = 1 ∧ v.lnavPrev = none then (s.setChan c { v with lnavPrev := some last }).inc (Obj.navUnchecked sig)
  else
    let prev := v.lnavPrev.getD (false, false)
    if !unitOk sig prev bits then (s.setChan c { v with lnavPrev := none }).inc (Obj.navCheckFail sig)
    else
      let span := signalCodeLength sig * 4294967296
      let s1 := s.setChan c { v with
        navPassed := true, lnavPrev := if sig = 1 then some last else none
        unitCode := some ((v.codePhase % span + u.periods * span) % unitSpan sig) }
      let s2 := ((s1.inc (Obj.navDelivered sig)).navWrite (s1.navRecord c u (unitData sig prev bits))).navFields c u
      if s2.chanState c = 4 ∧ (s2.chan c).frameSync then s2.chanEnter c 5 else s2

end State

/-! ### Commands -/

/-- JESD_SYNC_HEADER_LOCK: 64 consecutive valid sync headers on each lane of a link (R120). -/
def execJesdSyncHeaderLock (a : Fin 4) (s : State) : Host.Outcome State Fault Refusal :=
  if s.gladeLinking && s.n (Obj.linkState a) == 0 && s.n (Obj.linkBands a) != 0 then .next (s.linkEnter a 1) else .next s

/-- A link in EMB_LOCK: the 10 ms limit of R120 runs from entry to SH_LOCK. -/
def State.embLocked (s : State) (a : Nat) : State :=
  let s1 := s.linkEnter a 2
  s1.setGlink a { s1.glink a with entry := (s.glink a).entry }

/-- JESD_EMB_LOCK: 4 consecutive valid end-of-extended-multiblock markers on each lane (R120). -/
def execJesdEmbLock (a : Fin 4) (s : State) : Host.Outcome State Fault Refusal :=
  if s.gladeLinking && s.n (Obj.linkState a) == 1 then
    .next (s.embLocked a)
  else .next s

/-- A link in DATA, with its latency: the first one is the reference, and a change is a discontinuity (R120, R121). -/
def State.linkData (s : State) (a latency : Nat) : State :=
  let s1 := (s.linkEnter a 3).setN (Obj.linkLatency a) latency
  let l := s1.glink a
  let s2 := if !l.latKnown then (s1.setGlink a { l with latKnown := true }).setN (Obj.linkLatRef a) latency
    else if s1.n (Obj.linkLatRef a) = latency then s1
    else ((s1.setGlink a { l with discont := true }).setN (Obj.linkLatRef a) latency).inc (Obj.linkLatChanges a)
  s2.gladeRun

/-- LINK_DATA_ENTRY: the link enters DATA and its latency, in JSC cycles, is measured (R120, R121, R123). -/
def execLinkDataEntry (a : Fin 4) (latency : Fin 65536) (s : State) : Host.Outcome State Fault Refusal :=
  if s.gladeLinking && s.n (Obj.linkState a) == 2 then
    .next (s.linkData a latency)
  else .next s

/-- LINK_PROGRESS_TIMEOUT: no progress within 10 ms of entering SH_LOCK (R120). -/
def execLinkProgressTimeout (a : Fin 4) (s : State) : Host.Outcome State Fault Refusal :=
  if (s.n (Obj.linkState a) == 1 || s.n (Obj.linkState a) == 2) && decide ((s.glink a).entry + 81 ≤ s.age) then
    .next (s.linkEnter a 4)
  else .next s

/-- LINK_FAULT_DETECT: invalid sync headers, a slip of the elastic buffer, or 8 CRC-12 errors in one epoch (R120). -/
def execLinkFaultDetect (a : Fin 4) (why : LinkFault) (s : State) : Host.Outcome State Fault Refusal :=
  let holds := match why with
    | .crc => decide (8 ≤ (s.glink a).bad.length)
    | _ => true
  if s.n (Obj.linkState a) == 3 && holds then .next (s.linkEnter a 4) else .next s

/-- LINK_FAULT_RESTART: 10 ms in FAULT (R120). -/
def execLinkFaultRestart (a : Fin 4) (s : State) : Host.Outcome State Fault Refusal :=
  if s.n (Obj.linkState a) == 4 && decide ((s.glink a).entry + 81 ≤ s.age) then .next (s.linkEnter a 0) else .next s

/-- MULTIBLOCK_CRC_FAIL: a multiblock of a logical lane of a link fails CRC-12: its samples are blanked in the epoch, and the eighth of an epoch takes the link to FAULT (R120, R122, R124). -/
def execMultiblockCrcFail (x : BadBlock) (s : State) : Host.Outcome State Fault Refusal :=
  if s.n (Obj.linkState x.link) == 3 then
    let l := s.glink x.link
    let s1 := (s.setGlink x.link { l with bad := l.bad ++ [(x.lane.val, x.block)] }).inc (Obj.linkCrcErrors x.link)
    .next (if 7 ≤ l.bad.length then s1.linkEnter x.link 4 else s1)
  else .next s

/-- The receiver enters LINK: 8 SYSREF edges are due (R119, R123). -/
def State.gladeLinks (s : State) : State :=
  let s1 := s.setO Obj.gladeState 2
  { s1 with glade := { s1.glade with sysrefLeft := 8 } }

/-- GLADE_LINK_START: FE_SETTLE_MS after CLOCKS, Glade enters LINK and sends its 8 SYSREF edges (R119, R123). -/
def execGladeLinkStart (s : State) : Host.Outcome State Fault Refusal :=
  if s.o Obj.gladeState == 1 && decide (s.glade.entry * 1000 + s.n Obj.feSettleMs * 8192 ≤ (s.age + 1) * 1000) then
    .next s.gladeLinks
  else .next s

/-- NOTCH_AVERAGE_END: the notches of a stream at the end of a 64-epoch average (R126, R127).
(Log entries 39, DEDUCED; 110, DESIGN CHOICE) -/
def execNotchAverageEnd (k : Fin 12) (_ _ : Unit) (s : State) : Host.Outcome State Fault Refusal :=
  match (s.strm k).average with
  | some p => .next ((s.setStrm k { s.strm k with average := none }).notchAverage k p)
  | none => .next s

/-- The end of a search of a channel in SEARCH (R135, R141): a detection awaits its second dwell; after the third whole window without one the pair
is banned for 60 s and the channel is IDLE, where a pinned one keeps its assignment (R143).
(Log entry 38, DEDUCED) -/
def State.searchDone (s : State) (c : Nat) (x : Snapshot) (predicted : Int) : State :=
  let v := s.chan c
  match s.searchWins c x predicted with
  | some cell => s.setChan c { v with confirming := some cell }
  | none =>
    if 3 ≤ v.windows + 1 then
      let s1 : State := { s with glade := { s.glade with banned := s.glade.banned ++ [(v.asg.1, v.asg.2.1, v.asg.2.2, s.age + 60 * 8192)] } }
      let s2 := s1.chanEnter c 0
      let w := s2.chan c
      if s.chanPinned c then s2.setChan c { w with windows := 0 }
      else (s2.setChan c { w with windows := 0, asg := (0, 0, 0) }).setBlob (Obj.chAssign c) (zeros 4)
    else s.setChan c { v with windows := v.windows + 1 }

/-- A search of a channel in a snapshot of its stream ends: one in SEARCH, or the narrow search of a LOST one (R134, R135, R141). -/
def State.searchEnds (s : State) (c : Nat) (x : Snapshot) (predicted : Int) : State :=
  let s1 := (s.inc Obj.acqSearches).searchedIn c x
  if s.chanState c = 1 then (if (s.chan c).confirming.isSome then s else s1.searchDone c x predicted)
  else if s.chanState c = 6 then
    (match s1.searchWins c x predicted with
      | some cell => if s1.age < (s1.chan c).entry + 81920 then s1.detected c x cell.1 cell.2 else s1
      | none => s1)
  else s

/-- ACQ_SEARCH_COMPLETE: the search of a channel in the snapshot of its stream ends, with the predicted Doppler of its satellite in 2^-8 Hz
(R134, R135, R141). -/
def execAcqSearchComplete (c : Fin 256) (predicted : Int) (s : State) : Host.Outcome State Fault Refusal :=
  match s.chanSnap c with
  | some x => if s.o Obj.gladeState == 3 then .next (s.searchEnds c x predicted) else .next s
  | none => .next s

/-- The second dwell of a channel on its winning cell in a new snapshot ends (R135). -/
def State.confirmEnds (s : State) (c : Nat) (x : Snapshot) (cell : Int × Nat) : State :=
  let s1 := s.searchedIn c x
  if s.confirms c x cell.1 cell.2 then (s1.inc Obj.acqDetections).detected c x cell.1 cell.2
  else (s1.setChan c { s1.chan c with confirming := none }).inc Obj.acqFalseAlarms

/-- ACQ_CONFIRM_COMPLETE: the second dwell on the winning cell, on a new snapshot (R135).
(Log entry 110, DESIGN CHOICE) -/
def execAcqConfirmComplete (c : Fin 256) (_ : Unit) (s : State) : Host.Outcome State Fault Refusal :=
  match s.chanSnap c, (s.chan c).confirming with
  | some x, some cell => if s.o Obj.gladeState == 3 && s.chanState c == 1 then .next (s.confirmEnds c x cell) else .next s
  | _, _ => .next s

/-- COHERENT_INTEGRATION_END: a channel closes its loops (R138–R142). -/
def execCoherentIntegrationEnd (c : Fin 256) (x : Integration) (s : State) : Host.Outcome State Fault Refusal :=
  let st := s.chanState c
  if s.o Obj.gladeState == 3 && decide (2 ≤ st ∧ st ≤ 5) then .next (s.integrationEnd c x) else .next s

/-- CH_PULL_IN_TIMEOUT: 500 ms without CODE_LOCK (R141). -/
def execChPullInTimeout (c : Fin 256) (s : State) : Host.Outcome State Fault Refusal :=
  if s.chanState c == 2 && decide ((s.chan c).entry + 4096 ≤ s.age) then .next (s.chanEnter c 1) else .next s

/-- CH_LOST_TIMEOUT: 10 s in LOST (R141). -/
def execChLostTimeout (c : Fin 256) (s : State) : Host.Outcome State Fault Refusal :=
  if s.chanState c == 6 && decide ((s.chan c).entry + 81920 ≤ s.age) then .next (s.chanEnter c 1) else .next s

/-- CHANNEL_PLAN: the planner assigns channels at a 1 s boundary (R143). -/
def execChannelPlan (vis : List Visible) (s : State) : Host.Outcome State Fault Refusal :=
  if s.o Obj.gladeState == 3 && s.o Obj.planMode == 0 && decide (s.index = 0) then .next (s.planChannels vis) else .next s

/-- NAV_UNIT_DECODE: a decoded navigation unit of a channel (R144, R145). -/
def execNavUnitDecode (c : Fin 256) (u : NavUnit) (s : State) : Host.Outcome State Fault Refusal :=
  let st := s.chanState c
  if s.o Obj.gladeState == 3 && decide (3 ≤ st ∧ st ≤ 5) && s.chanSignal c != 0x21 then .next (s.navUnit c u) else .next s

end Sys2Proof.Machine
end

