-- ==== Sys2Proof/Machine/Solution.lean ====
section
/-!
DEFINITION. Glade's timing solution and integrity: GLADE_EPOCH, SURVEY_COMPLETE, SURVEY_TIMEOUT, POSITION_CHECK and
SPOOF_CHECK (R148–R165).
-/

namespace Sys2Proof.Machine

/-- A measurement as the estimate uses it: the epoch instant in ps from the start of the GPS week on TAI, its
variance in ps², U in ps, and what the flags of R163 need. -/
structure Obs where
  system : Nat
  sv : Nat
  antenna : Nat
  /-- Components of the unit vector from the antenna to the satellite. -/
  unit : List Rat
  instant : Rat
  var : Rat
  unc : Rat
  single : Bool
  streams : List Nat

/-- The ceiling of a rational. -/
def ratCeil (r : Rat) : Int := -((-r).floor)

/-- The largest integer at most a rational. -/
def ratFloor (r : Rat) : Int := r.floor

/-- Round to nearest, ties up. -/
def ratRound (r : Rat) : Int := (r + 1 / 2).floor

/-- The absolute value of a rational. -/
def ratAbs (r : Rat) : Rat := if r < 0 then -r else r

/-- σ² of one channel in ps²: (SOL_SIGMA0_MM × 10^((45 − C/N0)/20) / sin(elevation))² at 3,335.641 ps per metre,
times 9 while MULTIPATH is set (R156).  `cn0` in 2^-8 dB-Hz, `elev` in 2^-7 degree. -/
def legVar (sigma0 : Nat) (cn0 : Nat) (elev : Nat) (multi : Bool) : Rat :=
  let sn := fpSinTurn ((elev : Int) * fpOne / 46080)
  let sin2 := max 1 (fpMul sn sn)
  let base : Rat := (((sigma0 : Int) * sigma0 * 3335641 * 3335641 * fpPow10 (11520 - (cn0 : Int)) : Int) : Rat) /
    ((1000000000000 * sin2 : Int) : Rat)
  if multi then 9 * base else base

namespace State

/-- The receiver-side delay of a channel in ps (R152). -/
def legDelay (s : State) (c : Nat) : Int :=
  let v := s.chan c
  let a := s.chanAnt c
  let k := s.chanStream c
  let g := s.chanSignal c
  let ifb := if signalSystem g = 4 then fieldI (padTo 56 (s.blob Obj.gloIfb)) (4 * (s.gloKOf g v.asg.2.1 + 7).toNat) 4 else 0
  s.o (Obj.cableDelayPs a) + s.o (Obj.feLatencyPs k) + v.notchDelay + s.o (Obj.bandBiasPs k) + s.o (Obj.signalBiasPs g) + ifb

/-- The per-band items of U_i of a channel in ps (R156). -/
def legUnc (s : State) (c : Nat) : Nat :=
  let k := s.chanStream c
  s.n (Obj.feLatencyUncPs k) + s.n (Obj.bandBiasUncPs k) + s.n (Obj.signalBiasUncPs (s.chanSignal c)) +
    ceilDiv (s.chan c).notchDelay.natAbs 10 + 1

/-- MULTIPATH of a channel (R140). -/
def chanMulti (s : State) (c : Nat) : Bool := decide (s.n (Obj.mpLimit (s.chanSignal c)) < (s.chan c).mpMetric.natAbs)

/-- TAI of the start of the GPS week for instants of a system, in ps within the epoch's arithmetic: the instants
carry their system's time within the GPS week (R154, R155). -/
def systemOffset (s : State) (system : Nat) : Int :=
  let base : Int := 315964800 + s.o Obj.weekResolved * 604800
  if system = 3 then base + 33 else if system = 4 then base + s.o Obj.taiUtcOffset - 10800 else base + 19

/-- GLONASS may be used: TIMESCALE_SET, without which TAI_UTC_OFFSET says nothing of the present, and no leap entry within 1 s of application
(R154). (Log entry 38, DEDUCED) -/
def glonassOk (s : State) : Bool :=
  let near (e : LeapEntry) : Bool := decide ((s.timeNow - e.e * secondUnits).natAbs ≤ secondUnits.natAbs)
  s.flag Obj.timescaleSet && !(match s.leapPending with | some e => near e | none => false) &&
    !(match s.leap.justApplied with | some e => near e | none => false)

/-- A leg of a pair on a band whose channel is VALID and assigned to the pair's satellite and antenna on that band (R133, R151). -/
def legValid (s : State) (m : Measurement) (band : Nat) (l : Option Leg) : Option Leg :=
  match l with
  | some x =>
    let g := s.chanSignal x.ch
    if (s.chan x.ch).valid && signalSystem g == m.system && signalBand g == band && s.chanSv x.ch == m.sv && s.chanAnt x.ch == m.antenna.val
    then some x else none
  | none => none

/-- The legs of a pair, bands 0 to 2, whose channels are VALID. -/
def legs (s : State) (m : Measurement) : List Leg :=
  [s.legValid m 0 m.band0, s.legValid m 1 m.band1, s.legValid m 2 m.band2].filterMap id

/-! ### Code, carrier and geometry (R151, R156) -/

/-- The system time within the week, 2^-32 ns, of the code at the epoch: the start of the navigation unit in progress and CODE_PHASE after it. -/
def codeInstant (s : State) (l : Leg) : Int :=
  l.unitStart + (s.chan l.ch).codePhase * 1000000000 / (signalChipRate (s.chanSignal l.ch) : Nat)

/-- The same time as the carrier counts it: the epochs and CARRIER_PHASE. -/
def carrierInstant (s : State) (c : Nat) : Int :=
  s.o Obj.gladeEpochCount * 4294967296000000 + (s.chan c).carrier * 1000000000 / max 1 (s.chanCarrier c)

/-- The last record of a channel carries SLIP or DISCONT. -/
def chanBroken (s : State) (c : Nat) : Bool :=
  let fl := fieldN (s.chan c).record 22 2
  bitOf fl 12 || bitOf fl 8

/-- Half a GPS week in 2^-32 ns. -/
def halfWeek : Int := 302400 * 1000000000 * 4294967296

/-- One channel's mean of code less carrier over SOL_SMOOTH_S; it goes on over the end of the week (R151).
(Log entry 41, DEDUCED) -/
def smoothLeg (s : State) (broken : Bool) (l : Leg) : State :=
  let v := s.chan l.ch
  let d := s.codeInstant l - s.carrierInstant l.ch
  let next : Nat × Int := match (if broken then none else v.smooth) with
    | some (n, m) =>
      let k := min (n + 1) (1000 * s.n Obj.solSmoothS)
      let step := (d - m + halfWeek) % (2 * halfWeek) - halfWeek
      (k, d - step + roundUpHalf step (max 1 k : Nat))
    | none => (1, d)
  s.setChan l.ch { v with smooth := some next }

/-- The smoothing of one pair at an epoch; a SLIP or DISCONT on the pair restarts it (R151). -/
def smoothPair (s : State) (m : Measurement) : State :=
  let legs := [m.band0, m.band1, m.band2].filterMap id
  let broken := legs.any fun l => s.chanBroken l.ch
  let s1 := if broken then legs.foldl (fun s l => s.setChan l.ch { s.chan l.ch with smooth := none }) s else s
  (s1.legs m).foldl (fun s l => s.smoothLeg broken l) s1

/-- The smoothed code of a leg, 2^-32 ns within the week. -/
def smoothed (s : State) (l : Leg) : Int := match (s.chan l.ch).smooth with
  | some (_, m) => m + s.carrierInstant l.ch
  | none => s.codeInstant l

/-- The position of an antenna, 0.1 mm. -/
def antennaPos (s : State) (a : Nat) : Int × Int × Int :=
  let b := padTo 32 (s.blob (Obj.posEcef a))
  (fieldI b 0 8, fieldI b 8 8, fieldI b 16 8)

/-- The vector from antenna `a` to a broadcast satellite position, and its length in 0.1 mm × 2^20. -/
def lineOfSight (s : State) (a : Nat) (x y z : Int) : (Int × Int × Int) × Int :=
  let p := s.antennaPos a
  let d := (x - p.1, y - p.2.1, z - p.2.2)
  (d, (isqrt ((d.1 * d.1 + d.2.1 * d.2.1 + d.2.2 * d.2.2).toNat * 2 ^ 40) : Nat))

/-- The ionosphere correction of a single-band leg: the model of its own system, for GLONASS and BeiDou B1I that of GPS, scaled by
(1,575.42 MHz / f)² (R153). -/
def legIono (s : State) (m : Measurement) (l : Leg) : Rat :=
  let f : Rat := s.chanCarrier l.ch
  let model := if m.system = 4 ∨ s.chanSignal l.ch = 0x21 then m.ionoGps else m.ionoOwn
  (model : Rat) * (1575420000 * 1575420000) / (f * f)

/-- A pair as an observation, if the epoch uses it (R151–R154, R156), before range and troposphere: the epoch's instant by this pair is the emission
by the satellite's clock, the delays and the corrections. Bands 1 and 2 without band 0 make no combination: band 2 stands alone.
(Log entry 104, DESIGN CHOICE) -/
def observe (s : State) (m : Measurement) : Option Obs :=
  let b0 := s.legValid m 0 m.band0
  let other := match s.legValid m 2 m.band2 with
    | some x => some x
    | none => s.legValid m 1 m.band1
  let excluded := s.glade.excluded.any fun e => e.1 == m.system && e.2.1 == m.sv && decide (s.n Obj.gladeEpochCount < e.2.2)
  let mode1 := decide (s.o Obj.solIsbMode = 1)
  let ref := decide (m.system = s.n Obj.solRefSystem)
  if excluded || !m.healthy || decide (m.elevation < s.n Obj.solElevMask) ||
      (m.system == 4 && !s.glonassOk) then none
  else
    let ps (i : Int) : Rat := (i : Rat) * 1000 / 4294967296
    let sys : Rat := ((s.systemOffset m.system * 1000000000000 : Int) : Rat) -
      (if mode1 || ref then 0 else (s.o (Obj.systemBiasPs (m.system - 1)) : Rat))
    let sysUnc : Rat := if mode1 || ref then 0 else (s.n (Obj.systemBiasUncPs (m.system - 1)) : Rat)
    let common : Rat := sys + (m.clock : Rat)
    let commonUnc : Rat := sysUnc + (s.n (Obj.cableUncPs m.antenna) : Rat)
    let var (l : Leg) : Rat := legVar (s.n Obj.solSigma0Mm) (s.chan l.ch).cn0 m.elevation (s.chanMulti l.ch)
    let code (l : Leg) : Rat := ps (s.smoothed l) + (s.legDelay l.ch : Rat)
    let base : Obs := ⟨m.system, m.sv, m.antenna, [], common, 0, commonUnc, false, []⟩
    match b0, other with
    | some x, some y =>
      let f1 : Rat := s.chanCarrier x.ch
      let f2 : Rat := s.chanCarrier y.ch
      if f1 = f2 then none
      else
        let a1 := f1 * f1 / (f1 * f1 - f2 * f2)
        let a2 := -(f2 * f2) / (f1 * f1 - f2 * f2)
        some { base with
          instant := common + a1 * code x + a2 * code y, var := a1 * a1 * var x + a2 * a2 * var y
          unc := commonUnc + ratAbs a1 * (s.legUnc x.ch : Rat) + ratAbs a2 * (s.legUnc y.ch : Rat)
          streams := [s.chanStream x.ch, s.chanStream y.ch] }
    | _, _ =>
      match (match b0 with | some x => some x | none => other) with
      | none => none
      | some x =>
        let iono := s.legIono m x
        some { base with
          instant := common + code x + iono, var := var x, single := true, streams := [s.chanStream x.ch]
          unc := commonUnc + (s.legUnc x.ch : Rat) + (ratCeil (ratAbs iono / 2) : Rat) }

/-- An observation of a pair from the known position of its antenna: the range at 3,335.641 ps per metre and the troposphere (R148, R153, R156). -/
def sighted (s : State) (m : Measurement) : Option Obs :=
  if (s.blob (Obj.posEcef m.antenna)).all fun b => b == 0 then none
  else (s.observe m).map fun o =>
    let sight := s.lineOfSight m.antenna m.x m.y m.z
    let range : Rat := ((sight.2 * 3335641 : Int) : Rat) / ((10000000 * 1048576 : Int) : Rat)
    let tropo : Int := Config.troposphere (s.blob (Obj.posEcef m.antenna)) m.elevation
    { o with
      unit := [sight.1.1, sight.1.2.1, sight.1.2.2].map fun (d : Int) => ((d * 1048576 : Int) : Rat) / ((max 1 sight.2 : Int) : Rat)
      instant := o.instant + range + (tropo : Rat), unc := o.unc + (ceilDiv tropo.natAbs 10 : Nat) }

end State

/-- The sum of a list of rationals. -/
def sumR (l : List Rat) : Rat := l.foldl (· + ·) 0

/-- The weighted mean of a set of observations. -/
def weightedMean (l : List Obs) : Rat :=
  let w := sumR (l.map fun o => 1 / o.var)
  if w = 0 then 0 else sumR (l.map fun o => o.instant / o.var) / w

/-- A weighted least-squares solution: the observations used, the clock instant, the system biases, the number of
unknowns (R156). -/
structure Solved where
  used : List Obs
  clock : Rat
  biases : List (Nat × Rat)
  unknowns : Nat
  /-- Σ 1/σ² over the observations that determine the clock. -/
  weight : Rat
  base : List Obs

/-- The least-squares solution.  With estimated biases (mode 1) each non-reference system with at least 2
measurements determines its own bias, so the clock rests on the reference system's measurements alone; a system
with fewer is not used (R154, R156). -/
def solve (mode1 : Bool) (ref : Nat) (obs : List Obs) : Solved :=
  if mode1 then
    let base := obs.filter fun o => o.system == ref
    let others := [1, 2, 3, 4].filter fun k => k != ref && decide (2 ≤ (obs.filter fun o => o.system == k).length)
    let clock := weightedMean base
    let bias := others.map fun k => (k, weightedMean (obs.filter fun o => o.system == k) - clock)
    { used := base ++ obs.filter (fun o => others.any fun k => k == o.system), clock := clock, biases := bias
      unknowns := 1 + others.length, weight := sumR (base.map fun o => 1 / o.var), base := base }
  else
    { used := obs, clock := weightedMean obs, biases := [], unknowns := 1
      weight := sumR (obs.map fun o => 1 / o.var), base := obs }

/-- The post-fit residual of an observation. -/
def Solved.residual (x : Solved) (o : Obs) : Rat :=
  let b := match x.biases.find? fun p => p.1 == o.system with | some p => p.2 | none => 0
  o.instant - x.clock - b

/-- T, the test statistic (R157). -/
def Solved.stat (x : Solved) : Rat := sumR (x.used.map fun o => x.residual o * x.residual o / o.var)

/-- d, the degrees of freedom (R157). -/
def Solved.dof (x : Solved) : Int := (x.used.length : Int) - x.unknowns

/-- T ≤ T_th(d), decided exactly: with A = 1 − 2/(9d), B = 2/(9d) and z, the cube (A + z√B)³ is P + Q√B with
P = A³ + 3Az²B and Q = 3A²z + z³B (R157). -/
def raimPass (t : Rat) (d : Int) (z : Rat) : Bool :=
  if d ≤ 0 then true
  else
    let a : Rat := 1 - 2 / (9 * (d : Rat))
    let b : Rat := 2 / (9 * (d : Rat))
    let p := a * a * a + 3 * a * z * z * b
    let q := 3 * a * a * z + z * z * z * b
    let l := t / (d : Rat) - p
    decide (l ≤ 0) || decide (l * l ≤ q * q * b)

/-- The satellite with the largest |r|/σ, ties to the lower system and then the lower number (R157). -/
def worst (x : Solved) : Option (Nat × Nat) :=
  let scored := x.used.map fun o => (x.residual o * x.residual o / o.var, o.system, o.sv)
  (scored.foldl (fun (best : Option (Rat × Nat × Nat)) y => match best with
    | none => some y
    | some b =>
      if b.1 < y.1 ∨ (b.1 = y.1 ∧ (y.2.1 < b.2.1 ∨ (y.2.1 = b.2.1 ∧ y.2.2 < b.2.2))) then some y else best) none).map
    fun y => (y.2.1, y.2.2)

/-- The exclusion loop of R157: answers the solution, the satellites excluded in this epoch, and whether the test
passed. -/
def raim (mode1 : Bool) (ref : Nat) (z : Rat) : Nat → List Obs → List (Nat × Nat) → Solved × List (Nat × Nat) × Bool
  | 0, obs, ex =>
    let x := solve mode1 ref obs
    (x, ex, raimPass x.stat x.dof z)
  | n + 1, obs, ex =>
    let x := solve mode1 ref obs
    if x.dof < 2 ∨ raimPass x.stat x.dof z = true then (x, ex, raimPass x.stat x.dof z)
    else if x.dof < 3 then (x, ex, false)
    else match worst x with
      | none => (x, ex, false)
      | some w => raim mode1 ref z n (obs.filter fun o => !(o.system == w.1 && o.sv == w.2)) (ex ++ [w])

namespace State

/-- A new calibration record of the solution: SOL_CAL_ID increments (R163). -/
def solCalChange (s : State) : State :=
  let s1 := s.setN Obj.solCalId ((s.n Obj.solCalId + 1) % 2 ^ 32)
  { s1 with glade := { s1.glade with calChanged := true } }

/-- Antenna 0 has a position (R148, R162). -/
def hasPosition (s : State) : Bool := !((s.blob (Obj.posEcef 0)).all fun b => b == 0)

/-- A position or POS_MODE write takes effect: the solution state is discarded (R148, R162).  Outside RUN a survey waits in NO_POSITION for Glade
to enter it. -/
def positionWritten (s : State) : State :=
  let s1 := s.solCalChange
  let s2 := { s1 with glade := { s1.glade with excluded := [], passes := 0, suspect := false, posSums := [], posSince := s1.n Obj.gladeEpochCount } }
  if s2.o Obj.posMode = 1 then
    (if s2.o Obj.gladeState = 3 then (s2.setO Obj.solState 1).surveyRestart else s2.setO Obj.solState 0)
  else s2.setO Obj.solState (if s2.hasPosition then 2 else 0)

/-- The spoofing check has been unavailable for SPOOF_UNAVAIL_S (R160). -/
def spoofUnavail (s : State) : Bool := decide (s.n Obj.spoofUnavailS ≤ s.glade.unavailRun)

/-- The residuals of the position check are summed anew from this epoch on (R158). -/
def posBegin (s : State) : State := { s with glade := { s.glade with posSums := [], posSince := s.n Obj.gladeEpochCount } }

/-- The solution state after an epoch: the first of the transitions in R162's order that applies. -/
def solTransition (s0 : State) (usable passed : Bool) : State :=
  let st := s0.o Obj.solState
  let suspect := s0.glade.suspect
  let s : State := { s0 with glade := { s0.glade with suspect := false } }
  let spoofed := s.flag Obj.spoofFlag && s.o Obj.spoofMode == 2
  let week := decide (1 ≤ s.o Obj.weekSource ∧ s.o Obj.weekSource ≤ 4)
  let blocked := s.o Obj.spoofMode == 2 && s.spoofUnavail
  let set (k : Int) : State := { s.setO Obj.solState k with glade := { s.glade with passes := 0 } }
  if st = 5 then (if spoofed then s else set 2)
  else if st = 2 ∨ st = 3 ∨ st = 4 then
    if spoofed then set 5
    else if suspect && st != 2 then (set 6).inc Obj.posSuspectEvents
    else if !usable || !week || blocked then (if st = 2 then s else set 2)
    else if !passed then (if st = 3 then set 4 else { s with glade := { s.glade with passes := 0 } })
    else if st = 2 then (if s.flag Obj.spoofFlag then s else (set 3).posBegin)
    else if st = 4 then
      (if 1000 ≤ s.glade.passes + 1 then set 3
       else { s with glade := { s.glade with passes := s.glade.passes + 1 } })
    else s
  else s

/-- The solution record of an epoch (R163). -/
def solRecord (s : State) (tai : Int) (sigma sys : Nat) (x : Solved) (excl : Nat) (disc : Bool) : Octets :=
  let st := s.o Obj.solState
  let parity := decide (s.n Obj.gladeEpochCount < s.glade.parityUntil)
  let valid := decide (st = 3) && !parity
  let single := x.used.any fun o => o.single
  let fl := (if valid then 2 ^ 15 else 0) + (if st = 4 ∨ s.glade.testFailed = true then 2 ^ 14 else 0) + (if s.flag Obj.spoofFlag then 2 ^ 13 else 0) +
    (if s.o Obj.spoofMode ≠ 0 ∧ s.spoofUnavail then 2 ^ 12 else 0) + (if st = 6 then 2 ^ 11 else 0) +
    (if single then 2 ^ 10 else 0) + (if s.o Obj.solIsbMode = 1 then 2 ^ 9 else 0) + (if disc then 2 ^ 8 else 0) +
    (if st = 1 then 2 ^ 7 else 0) + (if s.o Obj.weekSource = 5 then 2 ^ 6 else 0) +
    (if s.o Obj.timeRealisation = 1 then 2 ^ 5 else 0)
  let sysMask := [1, 2, 3, 4].foldl (fun m k => if x.used.any (fun o => o.system == k) then setBit m (k - 1) else m) 0
  let t := (ratCeil (x.stat * 256)).toNat
  toBE 8 (s.n Obj.gladeEpochCount) ++ (if valid then encTime80 tai else zeros 14) ++ toBE 2 fl ++
    toBE 4 (min sigma 0xFFFFFFFF) ++ toBE 4 (min sys 0xFFFFFFFF) ++ toBE 2 x.used.length ++ toBE 1 (min 255 excl) ++
    toBE 1 (min 255 x.dof.toNat) ++ toBE 4 (min t 0xFFFFFFFF) ++ toBEInt 4 (s.o Obj.spoofMetric) ++
    toBE 4 (s.n Obj.solCalId) ++ toBE 1 sysMask ++ toBE 1 (s.n Obj.weekSource) ++ toBE 2 (s.n Obj.weekResolved) ++ zeros 12

/-- The residuals of a second added to the sums of each antenna's position correction, in VALID and INTEGRITY_FAIL (R158): with κ = 3.335641 ps per
mm and the unit vector u, the normal equations Σ κ² u uᵀ/σ² and Σ κ u r/σ². (Log entry 41, DEDUCED) -/
def posAdd (s : State) (x : Solved) : State :=
  if (s.o Obj.solState = 3 ∨ s.o Obj.solState = 4) ∧ s.n Obj.gladeEpochCount % 1000 = 0 then
    x.used.foldl (fun s o =>
      let v := Sparse.get (fun _ => {}) s.glade.posSums o.antenna
      let k : Rat := 3335641 / 1000000
      let u (j : Nat) : Rat := o.unit.getD j 0
      let a := [(0, 0), (0, 1), (0, 2), (1, 1), (1, 2), (2, 2)].map fun (p : Nat × Nat) => k * k * u p.1 * u p.2 / o.var
      let b := [0, 1, 2].map fun (j : Nat) => k * u j * x.residual o / o.var
      let add (l m : List Rat) : List Rat := (enum m).map fun e => l.getD e.1 0 + e.2
      { s with glade := { s.glade with posSums := Sparse.put (fun _ => {}) s.glade.posSums o.antenna ⟨add v.a a, add v.b b⟩ } }) s
  else s

/-- The estimate of an epoch: RAIM, the three values of R156, the state, the record and the counters. -/
def solution (s0 : State) (e : GladeEpoch) : State :=
  let s := e.pairs.foldl smoothPair s0
  let mode1 := decide (s.o Obj.solIsbMode = 1)
  let ref := s.n Obj.solRefSystem
  let obs := e.pairs.filterMap fun m => s.sighted m
  let disc := s.glade.calChanged
  let z : Rat := (s.o Obj.raimZ : Rat) / 4096
  let r := raim mode1 ref z (s.n Obj.raimMaxExclude) obs []
  let x : Solved := r.1
  let ex : List (Nat × Nat) := r.2.1
  let usable := decide (2 ≤ x.dof) && (!mode1 || decide (2 ≤ x.base.length)) && decide (0 < x.weight)
  let until_ := s.n Obj.gladeEpochCount + 60000
  let s1 := (s.addN Obj.raimExclusions ex.length)
  let s2 := { s1 with glade := { s1.glade with
    excluded := (s1.glade.excluded.filter fun (q : Nat × Nat × Nat) => decide (s1.n Obj.gladeEpochCount < q.2.2)) ++
      ex.map (fun (w : Nat × Nat) => (w.1, w.2, until_)) } }
  let failed := decide (2 ≤ x.dof) && !r.2.2
  let sf : State := { s2 with glade := { s2.glade with testFailed := failed } }
  let s3 := if failed then sf.inc Obj.raimFailEpochs else sf
  let s4 := if mode1 then x.biases.foldl (fun s b => s.setO (Obj.systemBiasEst (b.1 - 1)) (ratRound b.2)) s3 else s3
  let s5 := (s4.solTransition usable r.2.2).posAdd x
  -- the clock instant in 2^-32 ns, and its realisation (R155)
  let corr : Rat := if s5.o Obj.timeRealisation = (1 : Int) then
      (((s5.o Obj.taiUtcOffset - (if ref = 3 then 33 else 19)) * secondUnits - e.utcOffset : Int) : Rat)
    else 0
  let tai := ratRound (x.clock * 4294967296 / 1000 + corr)
  let inv : Rat := if 0 < x.weight then 1 / x.weight else 0
  let sigma := isqrtUp (ratCeil inv).toNat
  let sys := (ratCeil ((if 0 < x.weight then sumR (x.base.map fun o => o.unc / o.var) / x.weight else 0) +
    (s5.n Obj.realisationUncPs : Rat))).toNat
  let streamDisc := x.used.any fun o => o.streams.any fun k => bitOf (fieldN s5.glade.descriptor 18 2) k
  let rec_ := s5.solRecord tai sigma sys x ex.length (disc || streamDisc)
  let s6 := (s5.setBlob Obj.solLast rec_).inc (if s5.o Obj.solState = 3 then Obj.solEpochsValid else Obj.solEpochsInvalid)
  { s6 with glade := { s6.glade with calChanged := false } }

end State

/-! ### Least squares -/

/-- One step of Gauss and Jordan on column `k`; a column without a pivot stays. -/
def pivotOn (m : List (List Rat)) (k : Nat) : List (List Rat) :=
  let p := (m.getD k []).getD k 0
  if p = 0 then m
  else
    let r := (m.getD k []).map fun x => x / p
    (enum m).map fun e => if e.1 = k then r else (enum e.2).map fun x => x.2 - e.2.getD k 0 * r.getD x.1 0

/-- The solution of normal equations in `n` unknowns with its variances; none for an unknown that they do not determine. -/
def solveNormal (n : Nat) (a : List (List Rat)) (b : List Rat) : List (Option (Rat × Rat)) :=
  let wide := (List.range n).map fun i => ((List.range n).map fun j => (a.getD i []).getD j 0) ++
    ((List.range n).map fun j => if i = j then (1 : Rat) else 0) ++ [b.getD i 0]
  let m := (List.range n).foldl pivotOn wide
  (List.range n).map fun i =>
    let r := m.getD i []
    if r.getD i 0 = 0 then none else some (r.getD (2 * n) 0, r.getD (n + i) 0)

/-- A row of a least-squares problem: weight, coefficients, value. -/
abbrev LsRow := Rat × List Rat × Rat

/-- The normal equations of groups of rows that each have an offset of their own: every group enters less its weighted mean. -/
def groupedNormal (n : Nat) (groups : List (List LsRow)) : List (List Rat) × List Rat :=
  let rows : List LsRow := (groups.map fun g =>
    let w := sumR (g.map fun r => r.1)
    let mean (f : LsRow → Rat) : Rat := if w = 0 then 0 else sumR (g.map fun r => r.1 * f r) / w
    let a0 := (List.range n).map fun i => mean fun r => r.2.1.getD i 0
    let y0 := mean fun r => r.2.2
    g.map fun r => (r.1, (enum a0).map fun e => r.2.1.getD e.1 0 - e.2, r.2.2 - y0)).flatten
  ((List.range n).map fun i => (List.range n).map fun j => sumR (rows.map fun r => r.1 * r.2.1.getD i 0 * r.2.1.getD j 0),
    (List.range n).map fun i => sumR (rows.map fun r => r.1 * r.2.1.getD i 0 * r.2.2))

/-- The unit vector and the distance in 0.1 mm × 2^20 from a position to a satellite, 0.1 mm. -/
def sightFrom (p : SurveyPos) (x y z : Int) : List Rat × Int :=
  let d := [x - p.x, y - p.y, z - p.z]
  let len : Int := (isqrt ((sumI (d.map fun v => v * v)).toNat * 2 ^ 40) : Nat)
  (d.map fun v => ((v * 1048576 : Int) : Rat) / ((max 1 len : Int) : Rat), len)

/-- The squared length of a baseline, in (0.1 mm)². -/
def length2 (p : SurveyPos) : Int := p.x * p.x + p.y * p.y + p.z * p.z

/-- A surveyed baseline is accepted: σ at most 20 mm, at least 0.5 m long, within 1 m of the difference of the
surveyed positions (R150). -/
def baselineOk (b p0 pk : SurveyPos) : Bool :=
  let d : SurveyPos := ⟨b.x - (pk.x - p0.x), b.y - (pk.y - p0.y), b.z - (pk.z - p0.z), 0⟩
  decide (b.sigma ≤ 20) && decide (5000 * 5000 ≤ length2 b) && decide (length2 d ≤ 10000 * 10000)

/-- The octets of a POS_ECEF entry (R164). -/
def posOctets (p : SurveyPos) : Octets := toBEInt 8 p.x ++ toBEInt 8 p.y ++ toBEInt 8 p.z ++ toBE 4 p.sigma ++ zeros 4

/-- The octets of a surveyed BASELINE entry (R164). -/
def baselineOctets (b : SurveyPos) : Octets :=
  toBEInt 4 b.x ++ toBEInt 4 b.y ++ toBEInt 4 b.z ++ toBE 2 b.sigma ++ toBE 1 2 ++ zeros 1

/-- One second of a survey as a group with its clock offset: from the assumed positions, 12 unknowns of position in 0.1 mm, at 0.3335641 ps each, and
the biases of four systems in ps where they are estimated, for systems other than the reference with two measurements (R149, R154). -/
def surveyRows (mode1 : Bool) (ref : Nat) (p : List SurveyPos) (x : SurveySecond) : List LsRow :=
  let count (k : Nat) : Nat := (x.obs.filter fun o => o.system == k).length
  let used := x.obs.filter fun o => !mode1 || o.system == ref || decide (2 ≤ count o.system)
  used.map fun o =>
    let from_ := p.getD o.antenna ⟨0, 0, 0, 0⟩
    let sight := sightFrom from_ o.x o.y o.z
    let range : Rat := ((sight.2 * 3335641 : Int) : Rat) / ((10000000 * 1048576 : Int) : Rat)
    let tropo : Int := Config.troposphere (posOctets from_) o.elevation
    let a := (List.range 12).map fun j => if j / 3 = o.antenna then sight.1.getD (j % 3) 0 * 3335641 / 10000000 else 0
    let bias := [1, 2, 3, 4].map fun k => if mode1 && k == o.system && k != ref then (1 : Rat) else 0
    (1 / o.var, a ++ bias, o.instant + range + (tropo : Rat))

/-- One step of the estimate of the positions: their corrections with variances, and the positions corrected. -/
def surveyStep (mode1 : Bool) (ref : Nat) (l : List SurveySecond) (p : List SurveyPos) : List (Option SurveyPos) :=
  let eq := groupedNormal 16 (l.map (surveyRows mode1 ref p))
  let sol := solveNormal 16 eq.1 eq.2
  (List.range 4).map fun a => match sol.getD (3 * a) none, sol.getD (3 * a + 1) none, sol.getD (3 * a + 2) none with
    | some x, some y, some z =>
      let q := p.getD a ⟨0, 0, 0, 0⟩
      some ⟨q.x + ratRound x.1, q.y + ratRound y.1, q.z + ratRound z.1, isqrtUp (ratCeil ((x.2 + y.2 + z.2) / 100)).toNat⟩
    | _, _, _ => none

/-- The weighted least-squares positions of a survey, by repeated steps from the Earth's centre (R149). -/
def surveyPositions (mode1 : Bool) (ref : Nat) (l : List SurveySecond) : List (Option SurveyPos) :=
  (List.range 16).foldl (fun p _ => surveyStep mode1 ref l (p.map fun x => x.getD ⟨0, 0, 0, 0⟩)) (List.replicate 4 none)

/-- The float solution of a baseline over a survey: double differences less −(u − u_ref) · b / λ, every arc with an ambiguity of its own; its standard
deviation is that of the residuals (R150, R159). -/
def surveyBaseline (p0 : SurveyPos) (k : Nat) (l : List SurveySecond) : Option SurveyPos :=
  let diffs := ((l.map fun x => x.diffs).flatten).filter fun d => d.baseline == k
  let row (d : SurveyDiff) : LsRow :=
    let u := (sightFrom p0 d.sat.1 d.sat.2.1 d.sat.2.2).1
    let r := (sightFrom p0 d.ref.1 d.ref.2.1 d.ref.2.2).1
    (1, [0, 1, 2].map fun i => -(u.getD i 0 - r.getD i 0) * 1000 / 1902937, (d.value : Rat) / 4294967296)
  let arcs := (diffs.map fun d => d.arc).eraseDups
  let groups := arcs.map fun a => (diffs.filter fun d => d.arc == a).map row
  let eq := groupedNormal 3 groups
  match solveNormal 3 eq.1 eq.2 with
  | [some x, some y, some z] =>
    let yy := sumR (groups.map fun g =>
      let mean := sumR (g.map fun r => r.2.2) / ((max 1 g.length : Nat) : Rat)
      sumR (g.map fun r => (r.2.2 - mean) * (r.2.2 - mean)))
    let rest := yy - (x.1 * eq.2.getD 0 0 + y.1 * eq.2.getD 1 0 + z.1 * eq.2.getD 2 0)
    let free := diffs.length - arcs.length - 3
    let var : Rat := if free = 0 then 0 else rest / (free : Rat) * (x.2 + y.2 + z.2) / 100
    some ⟨ratRound x.1, ratRound y.1, ratRound z.1, isqrtUp (ratCeil var).toNat⟩
  | _ => none

namespace State

/-- The spoofing metric in 2^-16 units over the kept terms (R159): M = (1/K) Σ (cos 2πs − cos 2πg). -/
def spoofMetricOf (terms : List SpoofTerm) : Int :=
  let one (t : SpoofTerm) : Int :=
    let g := wrapTurn (t.measured - t.expected)
    fpCosTurn (t.measured * fpOne / 4294967296) - fpCosTurn (g * fpOne / 4294967296)
  roundUpHalf (sumI (terms.map one) * 65536) (fpOne * (max 1 terms.length : Nat))

/-- The channel of a satellite's signal at 1,575.42 MHz on an antenna, VALID with PHASE_LOCK (R159). -/
def spoofChan (s : State) (t : SpoofSat) (a : Nat) : Option Nat :=
  (List.range 256).find? fun c =>
    let v := s.chan c
    (v.asg.1 == 0x01 || v.asg.1 == 0x11 || v.asg.1 == 0x22) && signalSystem v.asg.1 == t.system && v.asg.2.1 == t.sv && v.asg.2.2 == a &&
      v.valid && bitOf (fieldN v.record 22 2) 14

/-- Δφ of a satellite on a baseline: the carrier phase of antenna `k` less that of antenna 0, with the sign of range, 2^-32 cycle (R159). -/
def spoofPhase (s : State) (t : SpoofSat) (k : Nat) : Option Int :=
  match s.spoofChan t 0, s.spoofChan t k with
  | some x, some y => if t.elevation ≤ s.n Obj.solElevMask then none else some ((s.chan x).carrier - (s.chan y).carrier)
  | _, _ => none

/-- The expected phase −u · b / λ of a satellite on a baseline, 2^-32 cycle, with λ = 0.1902937 m (R159). -/
def spoofGeometry (s : State) (t : SpoofSat) (k : Nat) : Int :=
  let d := s.lineOfSight 0 t.x t.y t.z
  let b := padTo 16 (s.blob (Obj.baseline (k - 1)))
  let dot := d.1.1 * fieldI b 0 4 + d.1.2.1 * fieldI b 4 4 + d.1.2.2 * fieldI b 8 4
  roundUpHalf (-dot * 1048576 * 4294967296 * 1000) (max 1 d.2 * 1902937)

/-- The satellites tracked on antenna 0 and antenna `k` with their Δφ, the reference satellite first: the highest one, ties to the lower system and
number (R159). -/
def spoofBoth (s : State) (sats : List SpoofSat) (k : Nat) : List (SpoofSat × Int) :=
  (sortBy (fun (a b : SpoofSat) => decide (b.elevation < a.elevation ∨
    (b.elevation = a.elevation ∧ (a.system < b.system ∨ (a.system = b.system ∧ a.sv < b.sv))))) sats).filterMap fun t =>
      (s.spoofPhase t k).map fun p => (t, p)

/-- The terms of one baseline: double differences against the reference satellite, kept where the expected one is at least 0.15 cycle (R159). -/
def spoofTerms (s : State) (sats : List SpoofSat) (k : Nat) : List SpoofTerm :=
  if (s.blob (Obj.baseline (k - 1))).all (fun b => b == 0) then []
  else match s.spoofBoth sats k with
    | [] => []
    | r :: rest =>
      let terms := rest.map fun x => SpoofTerm.mk (wrapTurn (x.2 - r.2)) (wrapTurn (s.spoofGeometry x.1 k - s.spoofGeometry r.1 k))
      terms.filter fun t => decide (644245095 ≤ t.expected.natAbs)

/-! ### The survey (R149, R150) -/

/-- What tells an arc of a channel's carrier: the channel, its last entry to PULL_IN and its slips. -/
def chanArc (s : State) (t : SpoofSat) (a : Nat) : List Nat := match s.spoofChan t a with
  | some c => [c, (s.chan c).pulled, s.n (Obj.chSlips c)]
  | none => []

/-- The double differences of a second of a survey on a baseline (R150, R159). -/
def surveyDiffs (s : State) (sats : List SpoofSat) (k : Nat) : List SurveyDiff := match s.spoofBoth sats k with
  | [] => []
  | r :: rest => rest.map fun x =>
    { baseline := k, arc := s.chanArc x.1 0 ++ s.chanArc x.1 k ++ s.chanArc r.1 0 ++ s.chanArc r.1 k, value := x.2 - r.2
      sat := (x.1.x, x.1.y, x.1.z), ref := (r.1.x, r.1.y, r.1.z) }

/-- The measurements of an epoch as a second of a survey (R149, R150). -/
def surveySample (s : State) (e : GladeEpoch) : SurveySecond :=
  let sats := (e.pairs.filter fun m => m.antenna == 0).map fun m => SpoofSat.mk m.system m.sv m.elevation m.x m.y m.z
  { obs := e.pairs.filterMap fun m => (s.observe m).map fun o => ⟨o.antenna, o.system, o.instant, o.var, m.elevation, m.x, m.y, m.z⟩
    diffs := ([1, 2, 3].map (s.surveyDiffs sats)).flatten }

/-- SURVEY_ELAPSED_S and the measurements of an epoch that ends a second of a survey (R149). -/
def surveySecond (s : State) (e : GladeEpoch) : State :=
  if s.o Obj.solState = 1 ∧ s.n Obj.gladeEpochCount % 1000 = 0 then
    { (s.inc Obj.surveyElapsedS) with glade := { s.glade with survey := s.surveySample e :: s.glade.survey } }
  else s

/-- What the survey in progress estimates (R149, R150). (Log entry 105, DESIGN CHOICE) -/
def surveyResult (s : State) : SurveyResult :=
  let p := surveyPositions (decide (s.o Obj.solIsbMode = 1)) (s.n Obj.solRefSystem) s.glade.survey
  { positions := p, baselines := [1, 2, 3].map fun k => match p.getD 0 none with
    | some p0 => surveyBaseline p0 k s.glade.survey
    | none => none }

/-- Every enabled antenna has a position within SURVEY_SIGMA_MM (R149). -/
def surveyMet (s : State) (r : SurveyResult) : Bool :=
  (List.range 4).all fun a => s.n (Obj.linkBands a) == 0 || (match r.positions.getD a none with
    | some p => decide (p.sigma ≤ s.n Obj.surveySigmaMm)
    | none => false)

/-- The results of a completed survey written (R149, R150). -/
def surveyDone (s : State) (r : SurveyResult) : State :=
  let s1 := (enum r.positions).foldl (fun s x => match x.2 with
    | some p => if x.1 < 4 ∧ s.n (Obj.linkBands x.1) ≠ 0 then s.setBlob (Obj.posEcef x.1) (posOctets p) else s
    | none => s) s
  let good (k : Nat) : Option SurveyPos := match r.baselines.getD (k - 1) none, r.positions.getD 0 none, r.positions.getD k none with
    | some b, some p0, some pk => if baselineOk b p0 pk then some b else none
    | _, _, _ => none
  let s2 := [1, 2, 3].foldl (fun s k => s.setBlob (Obj.baseline (k - 1)) (match good k with | some b => baselineOctets b | none => [])) s1
  let s3 := ((s2.setO Obj.posMode 0).setO Obj.solState 2).solCalChange
  { s3 with power := { s3.power with journalDue := true }, glade := { s3.glade with survey := [] } }

/-- The runs of R160 after one computation of M, or after a second without one; a second without a check breaks them. -/
def spoofSecond (s0 : State) (sats : List SpoofSat) : State :=
  let now := s0.n Obj.gladeEpochCount
  let joined : State := if s0.glade.spoofAt.map (· + 1000) = some now then s0 else s0.spoofBreak
  let s : State := { joined with glade := { joined.glade with spoofAt := some now } }
  let kept := ([1, 2, 3].map (s.spoofTerms sats)).flatten
  if kept.length < s.n Obj.spoofMinTerms then
    let s1 := (s.inc Obj.spoofUnavailSeconds).setO Obj.spoofMetric (-2147483648)
    { s1 with glade := { s1.glade with raiseRun := 0, clearRun := 0, unavailRun := s1.glade.unavailRun + 1 } }
  else
    let m := spoofMetricOf kept
    let up := if s.o Obj.spoofRaise < m then s.glade.raiseRun + 1 else 0
    let down := if m < s.o Obj.spoofClear then s.glade.clearRun + 1 else 0
    let s1 := s.setO Obj.spoofMetric m
    let s2 := { s1 with glade := { s1.glade with raiseRun := up, clearRun := down, unavailRun := 0 } }
    if !s2.flag Obj.spoofFlag && decide (s2.n Obj.spoofPersistS ≤ up) then
      (s2.setF Obj.spoofFlag true).inc Obj.spoofDetections
    else if s2.flag Obj.spoofFlag && decide (s2.n Obj.spoofClearS ≤ down) then s2.setF Obj.spoofFlag false
    else s2

/-- The position correction of an antenna exceeds POS_TOL_MM with a standard deviation below a third of it (R158), decided without roots: the
correction solves the normal equations, its variance is the trace of their inverse. -/
def posMoved (tol : Rat) (v : PosSums) : Bool :=
  let a (k : Nat) : Rat := v.a.getD k 0
  let b (k : Nat) : Rat := v.b.getD k 0
  -- cofactors of the symmetric matrix (xx, xy, xz, yy, yz, zz)
  let cxx := a 3 * a 5 - a 4 * a 4
  let cxy := a 2 * a 4 - a 1 * a 5
  let cxz := a 1 * a 4 - a 2 * a 3
  let cyy := a 0 * a 5 - a 2 * a 2
  let cyz := a 1 * a 2 - a 0 * a 4
  let czz := a 0 * a 3 - a 1 * a 1
  let det := a 0 * cxx + a 1 * cxy + a 2 * cxz
  if det ≤ 0 then false
  else
    let x := (cxx * b 0 + cxy * b 1 + cxz * b 2) / det
    let y := (cxy * b 0 + cyy * b 1 + cyz * b 2) / det
    let z := (cxz * b 0 + cyz * b 1 + czz * b 2) / det
    decide (tol * tol < x * x + y * y + z * z) && decide (9 * (cxx + cyy + czz) / det < tol * tol)

end State

/-- GLADE_EPOCH: a 1 ms epoch falls; no tick holds more than one.  The streams and channels are updated at every one, the solution in RUN; outside
RUN no solution record is formed (R119, R131, R143, R156). (Log entry 104, DESIGN CHOICE) -/
def execGladeEpoch (e : GladeEpoch) (s : State) : Host.Outcome State Fault Refusal :=
  if s.glade.epochAge = some s.age then .next s
  else if s.o Obj.gladeState == 3 then .next (((s.gladeEpochPath e).solution e).surveySecond e)
  else .next (s.gladeEpochPath e)

/-- SURVEY_COMPLETE: the survey's time and sigmas are met; positions and accepted baselines are written, POS_MODE
becomes 0 and a journal write falls due (R149, R150, R475). (Log entry 110, DESIGN CHOICE) -/
def execSurveyComplete (_ : Unit) (s : State) : Host.Outcome State Fault Refusal :=
  if s.o Obj.solState == 1 && decide (s.n Obj.surveyMinS ≤ s.n Obj.surveyElapsedS) && s.surveyMet s.surveyResult then .next (s.surveyDone s.surveyResult)
  else .next s

/-- SURVEY_TIMEOUT: not complete after 4 × SURVEY_MIN_S (R149). -/
def execSurveyTimeout (s : State) : Host.Outcome State Fault Refusal :=
  if s.o Obj.solState == 1 && decide (4 * s.n Obj.surveyMinS ≤ s.n Obj.surveyElapsedS) then
    .next (s.surveyRestart.inc Obj.surveyFails)
  else .next s

/-- POSITION_CHECK: at epoch `epoch` 1,000 s of residuals are judged, for every antenna; the state moves at the next epoch (R158, R162). -/
def execPositionCheck (epoch : Nat) (s : State) : Host.Outcome State Fault Refusal :=
  let st := s.o Obj.solState
  if (st == 3 || st == 4) && epoch == s.n Obj.gladeEpochCount && decide (s.glade.posSince + 1000000 ≤ s.n Obj.gladeEpochCount) then
    let bad := s.glade.posSums.any fun p => State.posMoved (s.n Obj.posTolMm : Nat) p.2
    .next { s with glade := { s.glade with suspect := s.glade.suspect || bad, posSums := [], posSince := s.n Obj.gladeEpochCount } }
  else .next s

/-- SPOOF_CHECK: the double differences of one second, once at an epoch of RUN (R159, R160).
(Log entry 104, DESIGN CHOICE) -/
def execSpoofCheck (sats : List SpoofSat) (s : State) : Host.Outcome State Fault Refusal :=
  if s.o Obj.gladeState == 3 && s.o Obj.spoofMode != 0 && s.n Obj.gladeEpochCount % 1000 == 0 && s.glade.spoofAt != some (s.n Obj.gladeEpochCount) then
    .next (s.spoofSecond sats)
  else .next s

end Sys2Proof.Machine
end

