-- ==== Sys2Proof/Machine/Stamp.lean ====
section
/-!
DEFINITION. Edge stamping, the raw queue and frequency regression: DLL_UPDATE, the code-density
runs, the stamper states, and the fit of a gate (R86–R114, R168, R169).
-/

namespace Sys2Proof.Machine

/-! ### Regression (R108–R110) -/

/-- The sums with one more stamp at index `n` and error `e` (R108). -/
def GateSums.add (g : GateSums) (n e : Int) : GateSums :=
  ⟨g.n + 1, g.sn + n, g.sn2 + n * n, g.se + e, g.sne + n * e, g.se2 + e * e⟩

/-- The smallest exponent e, up to 31, for which ceil(num / (den × 2^e)) < 2^19 (R110). -/
def varExpGo (num den : Nat) : Nat → Nat → Nat
  | 0, e => e
  | f + 1, e => if ceilDiv num (den * 2 ^ e) < 2 ^ 19 then e else varExpGo num den f (e + 1)

/-- The variance encoded upwards: mantissa, exponent, VAR_SAT (R110). -/
def encodeVar (num den : Nat) : Nat × Nat × Bool :=
  let e := varExpGo num den 31 0
  let m := ceilDiv num (den * 2 ^ e)
  if m < 2 ^ 19 then (m, e, false) else (524287, 31, true)

/-- A quotient rounded to nearest with ties upwards, by a divisor of either sign. -/
def roundQuot (num den : Int) : Int := if den < 0 then roundUpHalf (-num) (-den) else roundUpHalf num den

/-- The fit of R109 in exact rational arithmetic; none where R109 gives no values: D or the fitted period is 0.  Of two stamps it gives
all but the variance.  `len` is the plane-time length of the interval. -/
def fitSums (g : GateSums) (period first divider len : Nat) : Option Fit :=
  let n : Int := g.n
  let d := n * g.sn2 - g.sn * g.sn
  let bn := n * g.sne - g.sn * g.se
  let an := d * g.se - bn * g.sn
  let pb := (period : Int) * d + bn
  if d ≤ 0 ∨ pb = 0 then none
  else
    let m : Int := ((len / 2 : Nat) : Int)
    let nStar := roundQuot (m * n * d - an) (n * pb)
    let phase := roundUpHalf (an + n * nStar * pb - m * n * d) (n * d)
    let s2 := n * d * g.se2 - an * g.se - n * bn * g.sne
    let v := if g.n < 3 then (0, 0, false) else encodeVar s2.toNat (n * d * (n - 2)).toNat
    let range := decide (g.n < 3) || decide (1000 * bn.natAbs > pb.natAbs)
    some {
      n := g.n, y := roundQuot (-bn * 18446744073709551616) pb, phase := phase
      edgeMid := (first : Int) + nStar * divider, varMant := v.1, varExp := v.2.1
      flags := (if range then 2 ^ 9 else 0) + (if v.2.2 then 2 ^ 8 else 0)
      period := roundUpHalf (pb * 4294967296) d }

/-- The record of R110, 32 octets. -/
def Fit.octets (f : Fit) : Octets :=
  toBEInt 8 f.y ++ toBEInt 8 f.phase ++ toBE 6 (f.edgeMid % 2 ^ 48).toNat ++ toBE 2 f.flags ++
    toBE 5 f.n ++ toBE 3 (f.varExp * 2 ^ 19 + f.varMant)

/-! ### The raw coder (R102–R106) -/

/-- Bits of a code. -/
def RawCode.bits : RawCode → Nat
  | .escape _ => 74
  | _ => 10

/-- A code as a number of its bits, most significant first (R103). -/
def RawCode.value : RawCode → Nat
  | .residual c => (c % 1024).toNat
  | .gap => 0x201
  | .escape w => 0x200 * 2 ^ 64 + w % 2 ^ 64

/-- The packed block: whole 64-bit words, filled from bit 63 downwards, with zeros at the end (R103). -/
def RawBlock.octets (b : RawBlock) : Octets :=
  let words := ceilDiv b.bits 64
  let v := b.codes.reverse.foldl (fun a c => a * 2 ^ c.bits + c.value) 0
  toBE (8 * words) (v * 2 ^ (64 * words - b.bits))

/-- A block with one more code. -/
def RawBlock.push (b : RawBlock) (c : RawCode) : RawBlock :=
  { b with codes := c :: b.codes, bits := b.bits + c.bits }

namespace State

/-! ### Ports and stampers -/

/-- A stamping port. -/
def port (s : State) (p : Nat) : StampPort := Sparse.get (fun _ => {}) s.stamp.ports p

/-- The state with a stamping port written. -/
def setPort (s : State) (p : Nat) (v : StampPort) : State :=
  { s with stamp := { s.stamp with ports := Sparse.put (fun _ => {}) s.stamp.ports p v } }

/-- A stamper. -/
def stamper (s : State) (k : Nat) : Stamper := Sparse.get (fun _ => {}) s.stamp.stampers k

/-- The state with a stamper written. -/
def setStamper (s : State) (k : Nat) (v : Stamper) : State :=
  { s with stamp := { s.stamp with stampers := Sparse.put (fun _ => {}) s.stamp.stampers k v } }

/-- The state code of a stamper (R95): the object for the timing ports. -/
def stState (s : State) (k : Nat) : Nat := if k < 128 then s.n (Obj.stamperState k) else (s.stamper k).state

/-- A stamper enters a state (R95). -/
def setStState (s : State) (k c : Nat) : State :=
  let s1 := s.setStamper k { s.stamper k with entry := s.age, state := if k < 128 then 0 else c }
  if k < 128 then s1.setN (Obj.stamperState k) c else s1

/-- The port takes part in stamping (R86); monitor ports and TWP always do. -/
def portOn (s : State) (p : Nat) : Bool := decide (64 ≤ p) || s.o (Obj.tpRole p) != 0

/-- P_nom (R88, R168). -/
def portPeriod (s : State) (p : Nat) : Nat :=
  if p < 64 then s.n (Obj.tpNominalPeriod p)
  else if p < 68 then 1048576000 else if p < 84 then 67108864000 else 8 * 128000000000

/-- D_s. -/
def portDivider (s : State) (p : Nat) : Nat := if p < 64 then s.n (Obj.tpStampDivider p) else 1

/-- G in ticks (R107, R168). -/
def portGate (s : State) (p : Nat) : Nat := 2 ^ (if p < 64 then s.n (Obj.tpGateLog2 p) else 13)

/-- The port yields regression records (R86, R110). -/
def portReg (s : State) (p : Nat) : Bool := if p < 64 then s.flag (Obj.tpRegEnable p) && s.portOn p else decide (p < 84)

/-- The raw queue of the port is on. -/
def portRaw (s : State) (p : Nat) : Bool := decide (p < 64) && s.o (Obj.tpRawMode p) != 0

/-- The skew correction of stamper B (R94). -/
def portSkew (s : State) (p : Nat) : Int := if p < 64 then s.o (Obj.tpSkewB p) else (s.port p).skewB

/-- The recalibration interval in ticks (R96). -/
def recalTicks (s : State) (p : Nat) : Nat :=
  (if p < 64 then s.n (Obj.tpRecalIntervalS p) else 600) * 8192

/-- The edge count of the port. -/
def portEdges (s : State) (p : Nat) : Nat := if p < 64 then s.n (Obj.tpEdges p) else (s.port p).edges

/-- One more edge counted (R87, R82). (Log entry 32, DESIGN CHOICE) -/
def countEdge (s : State) (p : Nat) : State :=
  if p < 64 then
    let v := s.n (Obj.tpEdges p) + 1
    let s1 := s.setN (Obj.tpEdges p) (v % 2 ^ 48)
    if v < 2 ^ 48 then s1 else s1.setF (Obj.tpEdgesWrapped p) true
  else s.setPort p { s.port p with edges := (s.port p).edges + 1 }

/-- Plane time of the boundary that ends the current tick, as its state places it. -/
def planeEnd (s : State) : Int := match s.sys.history with
  | h :: _ => h.plane + h.len
  | [] => 0

/-- Plane time of the boundary of the tick before the current one, with its PLANE_LENGTH. -/
def planeBefore (s : State) : Int × Int := match s.sys.history with
  | _ :: h :: _ => (h.plane, h.len)
  | _ => (s.planeNow, 0)

/-- A stamp that belongs to the tick before the current one (R97). -/
def lateStamp (s : State) (t : Int) : Bool := decide (t < s.planeNow)

/-- Plane time of the boundary of the tick to which a stamp belongs: the current one, the one before it or the one after (R97). -/
def tickPlaneOf (s : State) (t : Int) : Int :=
  if s.lateStamp t then s.planeBefore.1 else if s.planeEnd ≤ t then s.planeEnd else s.planeNow

/-- The port is the edge input of a 1PPS+ToD reference (R166). -/
def ppsPort (s : State) (p : Nat) : Bool := decide (p < 64) && (List.range 16).any fun j => octetAt (s.blob (Obj.refBinding (0x10 + j))) 0 == p

/-- TP_RAW_RATE and TP_RAW_CHARGE of a port, from its settings (R88, R105). -/
def deriveRaw (s : State) (p : Nat) : State :=
  let rate := if s.portRaw p then
      ceilDiv (2 ^ 20 * 1000000000) (max 1 (s.portPeriod p * s.portDivider p * s.n (Obj.tpRawDivider p))) else 0
  let k := s.n (Obj.tpRawK p)
  let charge := if s.o (Obj.tpRawMode p) = 2 ∧ 0 < k then ceilDiv (2 ^ (k - 1) * 1000) (2 ^ 20) else 0
  (s.setN (Obj.tpRawRate p) rate).setN (Obj.tpRawCharge p) charge

/-- The stamp-queue tree runs (R35, R36). -/
def stampTreeOn (s : State) : Bool := bitOf (s.n Obj.cdStatus) 7

/-- The FIFO read by the regression lane up to plane time `t`, one stamp each 10 ns (R89). -/
def fifoDrain (v : StampPort) (t : Int) : StampPort :=
  if v.waiting = 0 ∨ t < v.drainAt then v
  else
    let k := ((t - v.drainAt) / 10485760).toNat + 1
    if v.waiting ≤ k then { v with waiting := 0 }
    else { v with waiting := v.waiting - k, drainAt := v.drainAt + 10485760 * k }

/-- FLAGS common to a gate's records (R110), before VALID. -/
def gateFlags (g : Gate) : Nat :=
  (if g.trunc then 2 ^ 13 else 0) + (if g.solo then 2 ^ 12 else 0) + (if g.missed then 2 ^ 11 else 0) +
    (if g.fault then 2 ^ 10 else 0) + (if g.skewStale then 2 ^ 7 else 0)

/-! ### Raw queue -/

/-- m and B of R106 for a port: stamps and bits of one tick's block. -/
def rawCap (s : State) (p : Nat) : Nat × Nat :=
  let m := ceilDiv (s.n (Obj.tpRawRate p)) 8192
  (m, 64 * ceilDiv (m * 74) 64)

/-- The raw block that takes a code: of the current tick, or of the tick before it. -/
def blockOf (s : State) (p : Nat) (late : Bool) : RawBlock := if late then (s.port p).done else (s.port p).block

/-- The state with that block written. -/
def setBlock (s : State) (p : Nat) (late : Bool) (b : RawBlock) : State :=
  s.setPort p (if late then { s.port p with done := b } else { s.port p with block := b })

/-- The raw coder that takes a stamp: the port's own, or for a stamp of the tick before that a reset has followed, the one before the
reset (R104). -/
def coderOf (s : State) (p : Nat) (late : Bool) : OldCoder :=
  match late, (s.port p).oldCoder with
  | true, some c => c
  | _, _ => ⟨(s.port p).hist, if s.o (Obj.tpRawMode p) = 2 then s.n (Obj.tpRawK p) else 0, s.portRaw p, s.rawCap p⟩

/-- That coder's history written. -/
def setCoderHist (s : State) (p : Nat) (late : Bool) (h : List Int) : State :=
  let v := s.port p
  match late, v.oldCoder with
  | true, some c => s.setPort p { v with oldCoder := some { c with hist := h } }
  | _, _ => s.setPort p { v with hist := h }

/-- The history of a port is reset; what the coder was stays for the stamps of the tick that ends (R104). -/
def resetHist (s : State) (p : Nat) (c : OldCoder) : State :=
  let v := s.port p
  s.setPort p { v with hist := [], resetCoder := some (v.resetCoder.getD c) }

/-- A gap marker, one for each run of lost stamps, whatever boundaries the run crosses (R99, R103, R104).
(Log entry 83, DEDUCED) -/
def gapMarker (s : State) (p : Nat) (late : Bool) : State :=
  let b := s.blockOf p late
  let c := s.coderOf p late
  if !c.on || b.full || (s.port p).gapRun then s
  else if c.cap.2 < b.bits + 10 then s
  else
    let s1 := (s.setBlock p late (b.push .gap)).setCoderHist p late []
    (s1.setPort p { s1.port p with gapRun := true }).inc (Obj.tpGapMarkers p)

/-- The full stamp word (R98). -/
def stampWord (st : Stamp) (boundary : Int) : Nat :=
  (st.count % 65536) * 2 ^ 40 + st.stamper * 2 ^ 39 + (if st.solo then 2 ^ 38 else 0) +
    ((st.time - boundary) % 2 ^ 38).toNat

/-- The code of a stamp at `off` from the boundary of the current tick, with the stamp that a decoder reconstructs (R102–R105). -/
def codeBy (c : OldCoder) (off : Int) (word : Nat) : RawCode × Int :=
  let q : Int := 2 ^ c.k
  match c.hist with
  | h1 :: h2 :: _ =>
    let pred := 2 * h1 - h2
    let c := (off - pred + q / 2) / q
    if -510 ≤ c ∧ c ≤ 511 then (.residual c, pred + c * q) else (.escape word, off)
  | _ => (.escape word, off)

/-- A stamp, coded, enters the raw block of its tick, with what a decoder reconstructs; or the block is full (R102–R106). -/
def codeStamp (s : State) (p : Nat) (st : Stamp) : State :=
  let late := s.lateStamp st.time
  let before := s.planeBefore
  -- a stamp of the tick before stands in the frame of the current tick by the length that decoders take off the history (R102)
  let off := if late then st.time - before.1 - before.2 else st.time - s.planeNow
  let coder := s.coderOf p late
  let coded := codeBy coder off (stampWord st (if late then before.1 else s.planeNow))
  let cap := coder.cap
  let b := s.blockOf p late
  if b.full then (s.inc (Obj.tpRawCapDrops p)).setBlock p late { b with drops := b.drops + 1 }
  else if b.stamps < cap.1 ∧ b.bits + coded.1.bits + 10 ≤ cap.2 then
    let b1 := b.push coded.1
    let s1 := s.setBlock p late { b1 with stamps := b1.stamps + 1 }
    let w := s1.port p
    let fresh := if s.ppsPort p then w.fresh ++ [(st.time + (coded.2 - off), st.stamper)] else w.fresh
    let s2 := (s1.setPort p { w with gapRun := false, fresh := fresh }).setCoderHist p late (coded.2 :: coder.hist.take 1)
    match coded.1 with
    | .escape _ => s2.inc (Obj.tpRawEscapes p)
    | _ => s2
  else
    let s1 := (s.inc (Obj.tpRawCapDrops p)).gapMarker p late
    let c := s1.blockOf p late
    (s1.setBlock p late { c with full := true, drops := c.drops + 1 }).setCoderHist p late []

/-- A verified stamp enters the gate and, if due, the raw queue; a lost one leaves its gap marker.  Indexes count modulo 2^48, as the edge
counter does (R82, R108). -/
def commitStamp (s : State) (p : Nat) (h : HeldStamp) : State :=
  let late := s.lateStamp h.stamp.time
  if h.lost then (if h.raw then s.gapMarker p late else s)
  else
    let v := s.port p
    let gate := v.gate.map fun g =>
      let first : Nat := g.first.getD h.stamp.count
      let n : Int := (((h.stamp.count : Int) - first) % 281474976710656) / g.divider
      let e := h.stamp.time - g.start - n * g.period
      { g with first := some first, sums := g.sums.add n e, solo := g.solo || h.stamp.solo }
    let near := if 64 ≤ p ∧ p < 68 then (h.stamp.count, h.stamp.time) :: v.current else v.current
    let soFar := if late then (match gate with | some g => (g.sums.n, gateFlags g) | none => v.soFar) else v.soFar
    let raw := (s.coderOf p late).on
    let plain := s.ppsPort p && !raw
    let fresh := if plain then v.fresh ++ [(h.stamp.time, h.stamp.stamper)] else v.fresh
    let s1 := s.setPort p { v with gate := gate, current := near, soFar := soFar, fresh := fresh }
    if h.raw && raw then s1.codeStamp p h.stamp else s1

/-- The part of the queue that the regression lane has read, when `k` of its stamps are read; the place of a lost
stamp takes no FIFO entry. -/
def readPart : Nat → List HeldStamp → List HeldStamp
  | _, [] => []
  | k, h :: t => if h.lost then h :: readPart k t else match k with
    | 0 => []
    | k + 1 => h :: readPart k t

/-- How many stamps at the head of the queue the regression lane has read, each with its lost neighbours before it. -/
def readCount (v : StampPort) : Nat := (readPart ((v.held.filter fun h => !h.lost).length - v.waiting) v.held).length

/-- The stamps at the head of the queue that are read and checked, and lie in the current tick or before it, are committed; all of them
when `all`, with the FIFO emptied (R97, R99, R111). (Log entry 31, DEDUCED) -/
def commitHeld (s : State) (p : Nat) (all : Bool) : State :=
  let v := s.port p
  let done := if all then v.held else (v.held.take (readCount v)).takeWhile fun h => h.checked && decide (h.stamp.time < s.planeEnd)
  let s1 := s.setPort p { v with held := v.held.drop done.length, waiting := if all then 0 else v.waiting }
  done.foldl (fun s h => s.commitStamp p h) s1

/-- The stamps of the tick before that still wait for their check are committed, when the record of that tick is made up
(R97, R100, R107). (Log entry 31, DEDUCED) -/
def commitLate (s : State) (p : Nat) : State :=
  let v := s.port p
  let done := v.held.takeWhile fun h => s.lateStamp h.stamp.time
  let s1 := s.setPort p { v with held := v.held.drop done.length }
  done.foldl (fun s h => s.commitStamp p h) s1

/-! ### Stamper states (R95) -/

/-- The number of the twin of a stamper. -/
def twinOf (k : Nat) : Nat := if k % 2 = 0 then k + 1 else k - 1

/-- The stamper stamps on its own account. -/
def stActive (s : State) (k : Nat) : Bool := s.stState k == 3

/-- FAULT set on the gate of a port. -/
def gateFault (s : State) (p : Nat) : State :=
  s.setPort p { s.port p with gate := (s.port p).gate.map fun g => { g with fault := true } }

/-- The unverified stamps of stamper `k`, which lack their check or were not read from the FIFO, are lost with one gap marker, and the
gate carries FAULT; a skew measurement loses its captures of the same edges (R94, R111). -/
def discardUnverified (s : State) (k : Nat) : State :=
  let p := k / 2
  let v := s.port p
  let read := readCount v
  let bad (x : Nat × HeldStamp) : Bool := x.2.stamp.stamper == k % 2 && !x.2.lost && (!x.2.checked || decide (read ≤ x.1))
  let mark := (enum v.held).map fun x => if bad x then { x.2 with lost := true, checked := true } else x.2
  let unread := ((enum v.held).filter fun x => bad x && decide (read ≤ x.1)).length
  let gone : HeldStamp := ⟨⟨0, s.planeNow, k % 2, false⟩, true, true, true⟩
  let held := if mark.any (fun h => h.lost && h.raw) then mark else mark ++ [gone]
  let lost := ((enum v.held).filter bad).length
  ((s.setPort p { v with held := held, waiting := v.waiting - unread, pairs := v.pairs.drop lost }).gateFault p).commitHeld p false

/-- A stamper that its checks can put out of service: CAL_INIT, ACTIVE or RECAL (R95). -/
def stIn (s : State) (k : Nat) : Bool := decide (2 ≤ s.stState k ∧ s.stState k ≤ 4)

/-- A stamper goes to FAULT, with the loss of its unverified stamps (R95, R111). -/
def stamperOut (s : State) (k : Nat) : State :=
  let s1 := s.setStState k 5
  let s2 := s1.setStamper k { s1.stamper k with locked := false, run := 0, hists := [], deferred := false }
  (if k < 128 then s2.inc (Obj.stamperFaults k) else s2).discardUnverified k

/-- The port whose both stampers are out stops stamping (R111). -/
def portStop (s : State) (k : Nat) : State :=
  let t := s.stState (twinOf k)
  if t = 5 ∨ t = 0 then s.faulted 0x0303 (k / 2) 0 else s

/-- A stamper fault: FAULT, the loss of its unverified stamps, and the codes of R111. -/
def stamperFault (s : State) (k : Nat) : State := ((s.stamperOut k).faulted 0x0302 k 0).portStop k

/-- A table rejected: the old one is kept, and a repeat escalates to a stamper fault (R93, R391). -/
def tableReject (s : State) (k : Nat) : State :=
  let (s1, cls) := (if k < 128 then s.inc (Obj.stamperTableRejects k) else s).raise 0x0301 k 0
  if cls = 2 ∧ s1.stIn k = true then (s1.stamperOut k).portStop k else s1

/-- A stamper goes to OFF at once; the raw history of its port is reset (R95, R104).
(Log entry 104, DESIGN CHOICE) -/
def stamperOff (s : State) (k : Nat) : State :=
  if s.stState k = 0 then s
  else
    let s1 := s.setStState k 0
    let s2 := s1.setStamper k { s1.stamper k with locked := false, run := 0, deferred := false }
    s2.resetHist (k / 2) (s2.coderOf (k / 2) false)

/-- Both stampers of a port go to OFF (TP_ROLE written 0, R86). -/
def portOff (s : State) (p : Nat) : State := (s.stamperOff (2 * p)).stamperOff (2 * p + 1)

/-- APLL-T unlocked: every stamper off, a gap marker on each raw port, every open gate closed with FAULT
(R112). (Log entry 104, DESIGN CHOICE) -/
def stampersLost (s : State) : State :=
  let s1 := (List.range 85).foldl (fun s p =>
    let s1 := ((s.commitHeld p true).portOff p).gapMarker p false
    s1.setPort p { s1.port p with gate := (s1.port p).gate.map fun g => { g with fault := true, closing := true } }) s
  { s1 with stamp := { s1.stamp with tplLost := true } }

/-- The stamp-queue tree stalled: gap markers, and the regression outputs invalid (R36). -/
def stampTreeLost (s : State) : State :=
  (List.range 85).foldl (fun s p => (s.gapMarker p false).gateFault p) s

/-- Every stamper off (RESET, BOOT, HALTED). -/
def stampersOff (s : State) : State := (List.range 85).foldl (fun s p => s.portOff p) s

/-- A run of stamper `k` is due at the current boundary (R96). -/
def recalDue (s : State) (k : Nat) : Bool :=
  let p := k / 2
  let i := s.recalTicks p
  let at_ := s.tick + 8 * p
  decide (0 < i) && (if k % 2 = 0 then at_ % i == 0 else at_ % i == i / 2)

/-- A run that is due at the current boundary waits until it can start (R96). -/
def markRecal (s : State) (k : Nat) : State :=
  if s.stActive k && s.recalDue k then s.setStamper k { s.stamper k with deferred := true } else s

/-- A stamper takes up its duty: ACTIVE, with a run that falls due at that boundary (R95, R96). -/
def stamperActive (s : State) (k : Nat) : State := (s.setStState k 3).markRecal k

/-- The boundary's part of one stamper: OFF to LOCKING, LOCKING to CAL_INIT, and a run that falls due
(R95, R96). -/
def stamperBoundary (s : State) (k : Nat) : State :=
  let c := s.stState k
  if c = 0 then (if s.portOn (k / 2) && s.sys.sinceLock.isSome then s.setStState k 1 else s)
  else if c = 1 then
    (if (s.stamper k).locked then
      let s1 := s.setStState k 2
      let s2 := s1.setStamper k { s1.stamper k with runs := 0 }
      s2.setPort (k / 2) { s2.port (k / 2) with pairs := [] }
    else s)
  else s.markRecal k

/-! ### Gates (R107–R110) -/

/-- A gate opened at the current boundary; the first gate after enabling carries TRUNC when it is shorter than
G. -/
def openGate (s : State) (p : Nat) : State :=
  let aligned := (s.second * 8192 + s.index) % s.portGate p == 0
  let g : Gate := {
    start := s.planeNow, startTick := s.age, span := s.portGate p, period := s.portPeriod p * s.portDivider p
    divider := max 1 (s.portDivider p), trunc := !aligned, fault := !s.stampTreeOn, skewStale := (s.port p).skewStale }
  s.setPort p { s.port p with gate := some g }

/-- The gate of a port is to be closed at the current boundary (R107). -/
def gateDue (s : State) (p : Nat) : Bool :=
  match (s.port p).gate with
  | none => false
  | some g => decide (g.startTick < s.age) &&
      (g.closing || (s.second * 8192 + s.index) % g.span == 0)

/-- The values of a gate for which R109 gives none: free values, with RANGE (R109). (Log entry 33, DESIGN CHOICE) -/
def freeFit (s : State) (n : Nat) : Fit :=
  { n := n, y := signed 64 (Config.freeNat s.sys.free % 2 ^ 64)
    phase := signed 64 (Config.freeNat (s.sys.free + 1) % 2 ^ 64), edgeMid := Config.freeNat (s.sys.free + 2)
    varMant := Config.freeNat (s.sys.free + 3) % 2 ^ 19, varExp := Config.freeNat (s.sys.free + 4) % 32
    flags := 2 ^ 9 + (if Config.freeNat (s.sys.free + 5) % 2 = 1 then 2 ^ 8 else 0) }

/-- A number that an I64 holds. -/
def inI64 (v : Int) : Bool := decide (-9223372036854775808 ≤ v ∧ v ≤ 9223372036854775807)

/-- A fit with free values where R109 gives none: all of them where it has no fit, the variance of two stamps, and a Y or a phase that
no I64 holds (R109, R110). (Log entry 33, DESIGN CHOICE) -/
def closedFit (s : State) (n : Nat) (base : Option Fit) : Fit :=
  let free := s.freeFit n
  match base with
  | none => free
  | some f =>
    let f1 := if n < 3 then { f with varMant := free.varMant, varExp := free.varExp, flags := free.flags } else f
    { f1 with y := if inI64 f.y then f.y else free.y, phase := if inI64 f.phase then f.phase else free.phase }

/-- The boundary is one at which a gate of `span` ticks ends where the timescale is not stepped (R107). -/
def gateAligned (s : State) (span : Nat) : Bool :=
  let t := s.timeNow - (if s.sys.realignTick then s.sys.lastStep else 0)
  (t / secondUnits * 8192 + timeIndex t) % span == 0

/-- The gate of a port ends at the current boundary and the next one starts there (R107–R110).
(Log entry 33, DESIGN CHOICE) -/
def endGate (s : State) (p : Nat) : State :=
  match (s.port p).gate with
  | none => s
  | some _ =>
    let s1 := s.commitLate p
    match (s1.port p).gate with
    | none => s1
    | some g =>
      let g := { g with trunc := g.trunc || !s1.gateAligned g.span }
      let len := (s1.planeNow - g.start).toNat
      let base := fitSums g.sums g.period (g.first.getD 0) g.divider len
      let s2 : State := { s1 with sys := { s1.sys with free := s1.sys.free + 6 } }
      let f := s1.closedFit g.sums.n base
      let range := bitOf f.flags 9
      let valid := !range && !g.fault
      let flags := f.flags + gateFlags g + 2 ^ 14 + (if valid then 2 ^ 15 else 0)
      let mid := g.start + ((len / 2 : Nat) : Int)
      let fit := { f with flags := flags, mid := mid, tick := s1.age - 1 }
      let v := s2.port p
      -- a tick that carries RANGE takes the sliding fit of its boundary with it (R169)
      let recent := if range then (match v.recent with | h :: t => { h with bad := true } :: t | [] => []) else v.recent
      let undo := range && (match v.sliding with | some x => x.2 == s2.age | none => false)
      let s3 := s2.setPort p { v with
        ended := some fit, lastValid := if valid then some fit else v.lastValid, recent := recent
        sliding := if undo then v.slidingOld else v.sliding }
      let s4 := if p < 64 then
          let a := if valid then s3 else s3.inc (Obj.tpRegInvalid p)
          if range then a.inc (Obj.tpRangeExceeded p) else a
        else s3
      let s5 := s4.openGate p
      s5.setPort p { s5.port p with gate := (s5.port p).gate.map fun g => { g with trunc := false } }

/-- A gate must close at the next boundary (a change of 0x5001–0x5004, R107). -/
def closeGate (s : State) (p : Nat) : State :=
  s.setPort p { s.port p with gate := (s.port p).gate.map fun g => { g with closing := true } }

/-- The sliding fit of a monitor port over its last 64 complete ticks (R169). -/
def slidingFit (s : State) (p : Nat) : State :=
  let v := s.port p
  if v.recent.length < 64 ∨ v.recent.any (fun t => t.bad) then s
  else match v.recent.getLast? with
    | none => s
    | some oldest =>
      let start := oldest.start
      let stamps := (v.recent.map fun t => t.stamps).flatten.reverse
      let first : Nat := match stamps with | (c, _) :: _ => c | [] => 0
      let period := s.portPeriod p
      let sums := stamps.foldl (fun g st =>
        let n : Int := ((st.1 : Int) - first) % 281474976710656
        g.add n (st.2 - start - n * period)) ({} : GateSums)
      let len := (s.planeNow - start).toNat
      match fitSums sums period first 1 len with
      | none => s
      | some f =>
        if bitOf f.flags 9 then s
        else
          -- SOLO, MISSED and SKEW_STALE of any of its ticks
          let marks := [12, 11, 7].foldl (fun a b => if v.recent.any fun t => bitOf t.flags b then a + 2 ^ b else a) 0
          let fit := { f with mid := start + ((len / 2 : Nat) : Int), flags := f.flags + 2 ^ 15 + marks, tick := s.age - 1 }
          s.setPort p { v with sliding := some (fit, s.age), slidingOld := v.sliding }

/-- One port at a boundary: what the tick before left is closed, and the raw history moves with the plane
(R97, R102).  `len` is the PLANE_LENGTH of the tick before; `planeNow` is the new boundary. -/
def portBoundary (len : Int) (flagged : Bool) (before : Int) (s : State) (p : Nat) : State :=
  let v := s.port p
  if v = {} ∧ s.portReg p = false then s
  else
    let gflags := match v.gate with | some g => gateFlags g | none => 0
    let n := match v.gate with | some g => g.sums.n | none => 0
    let bad := flagged || (match v.gate with | some g => g.fault | none => false)
    let recent := if 64 ≤ p ∧ p < 68 then (SlideTick.mk before bad gflags v.current :: v.recent).take 64 else []
    s.setPort p { v with
      hist := v.hist.map (· - len), done := v.block, block := {}, ended := none, soFar := (n, gflags), resetCoder := none
      oldCoder := v.resetCoder.map fun c => { c with hist := c.hist.map (· - len) }
      recent := recent, current := [], regWas := v.regNow, regNow := s.portReg p
      gate := if s.portReg p then v.gate else none }

/-- What each port has read and verified by the end of the tick is committed; the monitors of CLK_IN0–CLK_IN3, which keep sliding fits,
take all of it (R97, R111, R169). (Log entry 31, DEDUCED) -/
def commitAll (s : State) : State :=
  (List.range 85).foldl (fun s p =>
    let s1 := if (s.port p).waiting = 0 then s else s.setPort p (fifoDrain (s.port p) s.planeEnd)
    s1.commitHeld p (decide (64 ≤ p ∧ p < 68))) s

/-- Ports and stampers at a boundary, once the new tick is in force (R95, R102, R169).  A realignment tick closes
every gate at its boundary (R107). -/
def stampBoundary (s : State) (len before : Int) : State :=
  let s1 := { s with stamp := { s.stamp with lastTplLost := s.stamp.tplLost, tplLost := s.o Obj.tickSource = 0 } }
  let s2 := (List.range 85).foldl (portBoundary len s1.stamp.lastTplLost before) s1
  let s3 := if s2.sys.realignTick then (List.range 85).foldl closeGate s2 else s2
  let s4 := (List.range 170).foldl stamperBoundary s3
  let s5 := (List.range 84).foldl
    (fun s p => if s.portReg p && (s.port p).gate.isNone then s.openGate p else s) s4
  [64, 65, 66, 67].foldl slidingFit s5

/-! ### The stamp drain (R100) -/

/-- The block of one port for the last tick: regression record if enabled, then its raw words.  Answers the block
and its PORT word. -/
def portBlock (s : State) (p : Nat) : Octets × Nat :=
  let v := s.port p
  let reg := if v.regWas then
      (match v.ended with
        | some f => f.octets
        | none => toBE 8 0 ++ toBE 8 0 ++ toBE 6 0 ++ toBE 2 v.soFar.2 ++ toBE 5 v.soFar.1 ++ toBE 3 0)
    else []
  let raw := v.done.octets
  (reg ++ raw, (raw.length / 8) * 65536 + v.done.codes.length * 2 + (if reg.isEmpty then 0 else 1))

/-- The stamps of the last tick that still wait are committed, and the realignment tick before a W0 that drains less than it holds is
counted as an overrun, with the stamps dropped (R62, R100). (Log entries 31, DEDUCED; 83, DEDUCED) -/
def drainLast (s : State) : State :=
  let s1 := (List.range 85).foldl commitLate s
  let drops := sumN ((List.range 64).map fun p => (s1.port p).done.drops)
  if s1.stamp.lastRealign && drops != 0 && !bitOf s1.sys.overran 0 then
    let s2 := ({ s1 with sys := { s1.sys with overran := setBit s1.sys.overran 0 } }).inc (Obj.overrun 0)
    (s2.addN Obj.overrunItemsDropped drops).setN Obj.overrunLastTick s2.tick
  else s1

/-- The drain descriptor of the last tick and the port blocks written to the stamp buffer; TP_LAST takes the
last record (R100, R113). -/
def drainStamps (s : State) : State :=
  match s.sys.history with
  | _ :: h :: _ =>
    let each := (List.range 64).map fun p => (p, s.portBlock p)
    let flags := (if s.stamp.lastSet then 1 else 0) + (if s.stamp.lastRealign then 2 else 0) +
      (if s.stamp.lastTplLost then 4 else 0)
    let desc := toBE 8 h.tick ++ encTime80 h.time ++ zeros 2 ++ toBE 8 h.len ++ toBEInt 8 h.rateY ++
      toBE 4 h.bound ++ toBE 4 flags ++ ((each.map fun e => toBE 4 e.2.2).flatten)
    let blocks : Tbl Octets := each.filterMap fun e => if e.2.1.isEmpty then none else some (e.1, e.2.1)
    let s1 := { s with stamp := { s.stamp with descriptor := desc, blocks := blocks } }
    each.foldl (fun s e =>
      if (s.port e.1).regWas then s.setBlob (Obj.tpLast e.1) (patch (padTo 40 (s.blob (Obj.tpLast e.1))) 0 (e.2.1.take 32))
      else s) s1
  | _ => s

/-- W0 overran before the block of a port was drained: its stamps are discarded with a gap marker and its record
is invalid (R53). -/
def stampOverrun (s : State) (p : Nat) : State :=
  let b : RawBlock := (({} : RawBlock).push .gap)
  let s1 := if s.portRaw p then s.inc (Obj.tpGapMarkers p) else s
  let v := s1.port p
  let ended := v.ended.map fun f => { f with flags := clearBit f.flags 15 }
  let s2 := s1.setPort p { v with done := if s.portRaw p then b else {}, hist := [], gapRun := s.portRaw p, ended := ended }
  s2.drainStamps

/-! ### Captures (R89–R94) -/

/-- The position of a capture in plane time (R92–R94). (Log entry 34, DESIGN CHOICE) -/
def position (s : State) (k : Nat) (c : Capture) : Int :=
  let t := (s.stamper k).table
  let f := if t.isEmpty then Config.noTable k c.tap.val else t.getD c.tap.val 0
  ((c.cycle * 409600 + f : Nat) : Int) + (if k % 2 = 1 then s.portSkew (k / 2) else 0)

/-- Stamper `k` takes a selected edge: the stamp waits in the FIFO for its check (R89–R92). -/
def takeStamp (s : State) (p k : Nat) (t : Int) (c : Capture) (solo raw : Bool) : State :=
  if c.cycle ≠ c.again then (s.stamperFault k)
  else
    let v := s.port p
    let st : Stamp := ⟨s.portEdges p, s.position k c, k % 2, solo⟩
    let h : HeldStamp := ⟨st, false, raw, false⟩
    let ready := t + 2621440
    let s1 := s.setPort p { v with
      lastStamp := some st, held := v.held ++ [h], waiting := v.waiting + 1, drainAt := if v.waiting = 0 then t + 10485760 else v.drainAt
      lastTook := k % 2, readyA := if k % 2 = 0 then ready else v.readyA
      readyB := if k % 2 = 1 then ready else v.readyB
      gate := v.gate.map fun g => { g with solo := g.solo || solo } }
    if p < 64 then s1.setBlob (Obj.tpLast p) (patch (padTo 40 (s1.blob (Obj.tpLast p))) 32 (toBE 8 (stampWord st (s1.tickPlaneOf st.time))))
    else s1

/-- A selected edge that cannot be stamped (R90). -/
def missStamp (s : State) (p : Nat) (raw : Bool) : State :=
  let s1 := if p < 64 then s.inc (Obj.tpMissedStamps p) else s
  let v := s1.port p
  let gone : HeldStamp := ⟨⟨s1.portEdges p, s1.planeNow, 0, false⟩, true, raw, true⟩
  let s2 := s1.setPort p { v with
    gate := v.gate.map fun g => { g with missed := true }
    held := if raw then v.held ++ [gone] else v.held }
  s2.commitHeld p false

/-- A stamper in the last tick of a code-density run, or in the skew measurement of its CAL_INIT, stamps in parallel with its twin (R94). -/
def parallelPair (s : State) (p : Nat) (a b : Capture) : State :=
  let last (k : Nat) : Bool := (s.stState k == 4 && decide ((s.stamper k).entry + 3 ≤ s.age)) ||
    (s.stState k == 2 && decide ((s.stamper k).entry + 64 ≤ s.age))
  -- coarse samples that disagree put the measuring stamper into FAULT (R95)
  if last (2 * p) && a.cycle != a.again then s.stamperFault (2 * p)
  else if last (2 * p + 1) && b.cycle != b.again then s.stamperFault (2 * p + 1)
  else if a.cycle ≠ a.again ∨ b.cycle ≠ b.again then s
  else if last (2 * p) || last (2 * p + 1) then
    let v := s.port p
    s.setPort p { v with pairs := ((a.cycle, a.tap.val), (b.cycle, b.tap.val)) :: v.pairs }
  else s

/-- A selected edge while the stamp-queue tree stands: its place in the raw queue is a gap marker, and the regression is invalid
(R36). (Log entry 108, DEDUCED) -/
def stalledStamp (s : State) (p : Nat) (raw : Bool) : State :=
  let v := s.port p
  let gone : HeldStamp := ⟨⟨s.portEdges p, s.planeNow, 0, false⟩, true, raw, true⟩
  ((s.setPort p { v with held := if raw then v.held ++ [gone] else v.held }).gateFault p).commitHeld p false

/-- A selected edge at plane time `t` (R89, R90).  Where both stampers are ready for the first edge, A takes it; an edge that finds no
stamper working is neither stamped nor counted as missed. (Log entry 32, DESIGN CHOICE) -/
def selectedEdge (s : State) (p : Nat) (t : Int) (a b : Capture) (raw : Bool) : State :=
  let v := fifoDrain (s.port p) t
  let last := v.lastSel
  let s1 := (s.setPort p { v with lastSel := some t }).commitHeld p false
  let v := s1.port p
  let wa := s1.stActive (2 * p)
  let wb := s1.stActive (2 * p + 1)
  let gapOk (d : Int) : Bool := match last with | some l => decide (l + d ≤ t) | none => true
  if !s1.stampTreeOn then (if wa || wb then s1.stalledStamp p raw else s1)
  else if wa && wb then
    if gapOk 1310720 && decide (v.waiting < 64) then
      let ra := decide (v.readyA ≤ t)
      let rb := decide (v.readyB ≤ t)
      let useA := if ra && rb then v.lastTook == 1 else ra
      if useA then s1.takeStamp p (2 * p) t a false raw else s1.takeStamp p (2 * p + 1) t b false raw
    else s1.missStamp p raw
  else if wa || wb then
    if gapOk 2621440 && decide (v.waiting < 32) then
      ((if wa then s1.takeStamp p (2 * p) t a true raw else s1.takeStamp p (2 * p + 1) t b true raw).parallelPair p a b)
    else s1.missStamp p raw
  else s1

/-- An edge of the selected polarity at plane time `t` (R87–R90).  Whether an edge less than 1.25 ns after the
previous one is counted is left open (R114). (Log entry 32, DESIGN CHOICE) -/
def edge (s : State) (p : Nat) (t : Int) (a b : Capture) : State :=
  let close := match (s.port p).lastEdge with | some l => decide (t < l + 1310720) | none => false
  if close && Config.freeNat s.sys.free % 2 == 0 then s.drew
  else
    let s0 := if close then s.drew else s
    let s1 := (s0.setPort p { s0.port p with lastEdge := some t }).countEdge p
    let d := max 1 (s1.portDivider p)
    let count := s1.portEdges p
    if count % d = 0 then
      let raw := s1.portRaw p && (count / d) % (max 1 (s1.n (Obj.tpRawDivider p))) == 0
      s1.selectedEdge p t a b raw
    else s1

/-! ### Calibration (R93, R94) -/

/-- The table of the summed histograms, or none where a tap width lies outside 0.19–3.05 ps (R93). -/
def buildTable (hists : List (List Nat)) : Option (List Nat) :=
  let sum := (List.range 512).map fun c => sumN (hists.map fun h => h.getD c 0)
  let total := sumN sum
  let widthOk := decide (0 < total) && sum.all fun h =>
    -- 0.19 ps ≤ h / H × 390.625 ps ≤ 3.05 ps
    decide (190 * total ≤ h * 390625 ∧ h * 390625 ≤ 3050 * total)
  if widthOk then
    some ((sum.foldl (fun (acc : List Nat × Nat) (h : Nat) =>
      ((roundUpHalf (409600 * (2 * (acc.2 : Int) + h)) (2 * total)).toNat :: acc.1, acc.2 + h)) ([], 0)).1.reverse)
  else none

/-- The mean of (B − A) over captures of one edge by both stampers, without the skew correction, rounded to nearest with ties upwards.
(Log entry 34, DESIGN CHOICE) -/
def skewMean (s : State) (p : Nat) (pairs : List ((Nat × Nat) × (Nat × Nat))) : Int :=
  let pos (k : Nat) (c : Nat × Nat) : Int :=
    let t := (s.stamper k).table
    ((c.1 * 409600 + (if t.isEmpty then Config.noTable k c.2 else t.getD c.2 0) : Nat) : Int)
  roundUpHalf (sumI (pairs.map fun x => pos (2 * p + 1) x.2 - pos (2 * p) x.1)) (max 1 pairs.length)

/-- The skew of a port re-measured, or left stale (R94). -/
def measureSkew (s : State) (p : Nat) (pairs : List ((Nat × Nat) × (Nat × Nat))) (needed : Nat) : State :=
  let v := s.port p
  if needed ≤ pairs.length then
    let m := s.skewMean p pairs
    let s1 := s.setPort p { v with pairs := [], skewStale := false, skewB := if p < 64 then 0 else m }
    if p < 64 then s1.setO (Obj.tpSkewB p) m else s1
  else
    s.setPort p { v with pairs := [], skewStale := true, gate := v.gate.map fun g => { g with skewStale := true } }

/-- A table comes into force with a new calibration ID (R93). (Log entry 34, DESIGN CHOICE) -/
def newTable (s : State) (k : Nat) (hists : List (List Nat)) (t : List Nat) : State :=
  let n := s.stamp.calCount
  let s1 := s.setStamper k { s.stamper k with table := t, hists := hists }
  -- the largest change of any F[c] since the table before, for the Selvage planner (R481)
  let old := (s.stamper k).table
  let df := maxN ((List.range t.length).map fun c => ((t.getD c 0 : Int) - (old.getD c 0 : Int)).natAbs)
  let da := s.age - Sparse.get (fun _ => 0) s.power.tableAt k
  let worse := match s.power.drift with | some (f, a) => decide (f * da < df * a) | none => true
  let drift := if old.isEmpty || da == 0 || !worse then s.power.drift else some (df, da)
  let s2 := { s1 with
    stamp := { s1.stamp with calCount := n + 1 }
    power := { s1.power with drift := drift, tableAt := Sparse.put (fun _ => 0) s1.power.tableAt k s.age } }
  if k < 128 then s2.setN (Obj.stamperCalId k) (Config.calId n % 2 ^ 32) else s2

/-- The histogram of a run joined to the last 16, and the table built or rejected (R93). -/
def addRun (s : State) (k : Nat) (hist : List Nat) : State :=
  let hists := (hist :: (s.stamper k).hists).take 16
  match buildTable hists with
  | some t => s.newTable k hists t
  | none => s.tableReject k

end State

/-- A DLL check beyond ±4 taps: a stamper that calibrates or stamps goes to FAULT; any other loses its run of checks (R92, R95). -/
def State.dllFail (s : State) (k : Nat) : State :=
  let c := s.stState k
  if c = 2 ∨ c = 3 ∨ c = 4 then s.stamperFault k
  else s.setStamper k { s.stamper k with run := 0, locked := false }

/-- A DLL check within ±4 taps: the run of checks within ±1 tap counts toward the lock, and the captures it verifies are
committed as they may be (R92, R95, R111). -/
def State.dllPass (s : State) (k : Nat) (error : Int) : State :=
  let v := s.stamper k
  let run := if error.natAbs ≤ 800 then min 8192 (v.run + 1) else 0
  let s2 := s.setStamper k { v with run := run, locked := v.locked || decide (8192 ≤ run) }
  let w := s2.port (k / 2)
  let held := w.held.map (fun h => if h.stamp.stamper = k % 2 then { h with checked := true } else h)
  (s2.setPort (k / 2) { w with held := held }).commitHeld (k / 2) false

/-- Stamper `k` makes a DLL update: it falls 64 TPL cycles after the one before, and not before the last edge, and the FIFO is read up to
there (R89, R92, R111). (Log entry 108, DEDUCED) -/
def State.dllReads (s : State) (k : Nat) : State :=
  let w := s.port (k / 2)
  let t := max ((s.stamper k).dllAt + 26214400) (max s.planeNow (w.lastSel.getD s.planeNow))
  (s.setStamper k { s.stamper k with dllAt := t }).setPort (k / 2) (fifoDrain w t)

/-- DLL_UPDATE: the bias code is adjusted and the error, in 2^-20 ns, is checked against ±1 and ±4 taps of 800
units; a check that passes verifies the captures before it (R92, R95, R111). -/
def execDllUpdate (st : Fin 170) (error : Int) (code : Fin 4096) (s : State) : Host.Outcome State Fault Refusal :=
  let k := st.val
  if s.stState k = 0 ∨ !s.running then .next s
  else
    let s1 := (if k < 128 then s.setN (Obj.stamperDllCode k) code else s).dllReads k
    if 3200 < error.natAbs then .next (s1.dllFail k) else .next (s1.dllPass k error)

/-- A code-density run begins: the stamper leaves ACTIVE for it, and the port's pairs start again (R93, R94, R96). -/
def State.recalStart (s : State) (k : Nat) : State :=
  let s1 := s.setStState k 4
  let s2 := s1.setStamper k { s1.stamper k with deferred := false }
  s2.setPort (k / 2) { s2.port (k / 2) with pairs := [] }

/-- CODE_DENSITY_RUN_START: at its due boundary, or at the first boundary at which the twin is ACTIVE, an ACTIVE
stamper enters RECAL (R95, R96). -/
def execCodeDensityRunStart (st : Fin 170) (s : State) : Host.Outcome State Fault Refusal :=
  let k := st.val
  if s.running && s.stActive k && s.stActive (State.twinOf k) && (s.recalDue k || (s.stamper k).deferred) then
    .next (s.recalStart k)
  else .next s

/-- The end of a re-calibration run: the table is rebuilt, the skew re-measured and the stamper ACTIVE again; a rejection
that escalates leaves it in FAULT (R93 to R95). -/
def State.recalEnd (s : State) (k : Nat) (hits : List Nat) : State :=
  let s0 := if k < 128 then s.inc (Obj.stamperRecals k) else s
  let s1 := s0.addRun k hits
  if s1.stState k ≠ 4 then s1
  else (s1.measureSkew (k / 2) (s1.port (k / 2)).pairs 1024).stamperActive k

/-- The end of a run of CAL_INIT: the first table is built once the store holds 16 runs (R93, R95). -/
def State.initRun (s : State) (k : Nat) (hits : List Nat) : State :=
  let s0 := if k < 128 then s.inc (Obj.stamperRecals k) else s
  let hists := (hits :: (s0.stamper k).hists).take 16
  let s1 := s0.setStamper k { s0.stamper k with runs := (s0.stamper k).runs + 1 }
  if hists.length < 16 then s1.setStamper k { s1.stamper k with hists := hists }
  else match State.buildTable hists with
    | some t => s1.newTable k hists t
    | none => s1.tableReject k

/-- CODE_DENSITY_RUN_END: the hits counted against each tap code build the table; in RECAL the skew is
re-measured and the stamper returns to ACTIVE, in CAL_INIT the run joins the 16 (R93–R95). -/
def execCodeDensityRunEnd (st : Fin 170) (hits : List Nat) (s : State) : Host.Outcome State Fault Refusal :=
  let k := st.val
  let c := s.stState k
  if s.running && c == 4 && decide ((s.stamper k).entry + 4 ≤ s.age) then .next (s.recalEnd k hits)
  else if s.running && c == 2 then .next (s.initRun k hits)
  else .next s

/-- STAMPER_LOCK_TIMEOUT: not locked 64 ticks after entry to LOCKING (R95). -/
def execStamperLockTimeout (st : Fin 170) (s : State) : Host.Outcome State Fault Refusal :=
  let v := s.stamper st
  if s.running && s.stState st == 1 && !v.locked && decide (v.entry + 64 ≤ s.age) then .next (s.stamperFault st)
  else .next s

/-- CAL_INIT ends: the skew of the pair measured, with the check train where both stampers are ready, and the stamper ACTIVE (R94, R95). -/
def State.calibrated (s : State) (k : Nat) (train : List ((Nat × Nat) × (Nat × Nat))) : State :=
  let t := State.twinOf k
  let both := s.stState t == 2 || (s.stState t == 3 && (s.stamper t).entry == s.age)
  let s1 := if both then s.measureSkew (k / 2) train 1 else s.measureSkew (k / 2) (s.port (k / 2)).pairs 1024
  s1.stamperActive k

/-- CAL_INIT_COMPLETE: at the 72nd boundary after entry, its 16 runs done, the stamper goes to ACTIVE; `train` holds the captures of
the internal check train by A and B, used when both stampers are in CAL_INIT (R94, R95). -/
def execCalInitComplete (st : Fin 170) (train : List ((Nat × Nat) × (Nat × Nat))) (s : State) :
    Host.Outcome State Fault Refusal :=
  let k := st.val
  if s.running && s.stState k == 2 && decide (16 ≤ (s.stamper k).runs) && decide ((s.stamper k).entry + 72 ≤ s.age) then
    .next (s.calibrated k train)
  else .next s

/-- A stamper in FAULT locks again (R95). -/
def State.stamperRelock (s : State) (k : Nat) : State :=
  let s1 := s.setStState k 1
  s1.setStamper k { s1.stamper k with locked := false, run := 0, hists := [] }

/-- STAMPER_FAULT_RETRY: 8,192 ticks after entry to FAULT a stamper of a port in use goes to LOCKING with an empty
histogram store (R95). -/
def execStamperFaultRetry (st : Fin 170) (s : State) : Host.Outcome State Fault Refusal :=
  let k := st.val
  if s.running && s.stState k == 5 && decide ((s.stamper k).entry + 8192 ≤ s.age) && s.portOn (k / 2) then
    .next (s.stamperRelock k)
  else .next s

end Sys2Proof.Machine
end

