-- ==== Sys2Proof/Machine/Refs.lean ====
section
/-!
DEFINITION. Reference qualification and selection: the observations of class T references, the class F monitors,
the consistency check and the selection (R166–R176, R229), with GATE_END, EDGE_ARRIVAL of a bound 1PPS input,
CLASS_F_ACTIVITY_WINDOW, REF_ABSENT_TIMEOUT and CONSISTENCY_CHECK.
-/

namespace Sys2Proof.Machine

/-- The stamping port whose lane monitors a class F reference (R168). -/
def monitorPort (id : Nat) : Nat := if id < 0x60 then 64 + (id - 0x40) else if id < 0x80 then 68 + (id - 0x60) else id - 0x80

/-- Q of a set of random values, in ps: the smallest q with (65,536 q)² ≥ K² Σ U² (R228). -/
def boundQ (k : Nat) (us : List Nat) : Nat := ceilDiv (isqrtUp (k * k * sumN (us.map fun u => u * u))) 65536

/-- The sample standard deviation of the last 16 offsets (2^-32 ns) in 2^-8 ps rounded up, or the largest deviation
from the mean before there are 16; at least 256 units (R229). -/
def offsetSpread (l : List Int) : Nat :=
  let n : Int := l.length
  if n = 0 then 256
  else
    let sum := sumI l
    -- deviations times n, in 2^-32 ns; one 2^-8 ps unit is 2^24 / 1000 of them times 2^-32 ns
    let devs := l.map fun x => x * n - sum
    if l.length < 16 then max 256 (ceilDiv (maxN (devs.map Int.natAbs) * 256000) (2 ^ 32 * n.toNat))
    else
      let ss := sumN (devs.map fun d => d.natAbs * d.natAbs)
      -- variance = ss / (n² (n − 1)); its root times 256,000 / 2^32, rounded up
      max 256 (isqrtUp (ceilDiv (ss * 256000 * 256000) (2 ^ 64 * (n * n * (n - 1)).toNat)))

/-- An offset added to the sums of a run. -/
def RunFit.add (f : RunFit) (t e : Int) : RunFit :=
  let t0 := if f.n = 0 then t else f.t0
  let x := t - t0
  ⟨f.n + 1, t0, f.st + x, f.se + e, f.stt + x * x, f.ste + x * e, f.see + e * e⟩

/-- The sums after a step of the timescale by Δ: every offset less Δ, every instant plus Δ. -/
def RunFit.stepped (f : RunFit) (d : Int) : RunFit :=
  { f with t0 := f.t0 + d, se := f.se - d * f.n, ste := f.ste - d * f.st, see := f.see - 2 * d * f.se + d * d * f.n }

namespace State

/-- A reference. -/
def ref (s : State) (id : Nat) : Ref := Sparse.get (fun _ => {}) s.synth.refs id

/-- The state with a reference written. -/
def setRef (s : State) (id : Nat) (v : Ref) : State :=
  { s with synth := { s.synth with refs := Sparse.put (fun _ => {}) s.synth.refs id v } }

/-- REF_STATE of a reference. -/
def refSt (s : State) (id : Nat) : Int := s.o (Obj.refState id)

/-- A reference leaves a state: entries to FAILED from QUALIFIED are counted (R172, R173).
(Log entry 46, DEDUCED) -/
def refEnter (s : State) (id : Nat) (code : Int) : State :=
  let s1 := if code = 1 ∧ s.refSt id = 4 then s.inc (Obj.refDisqualifications id) else s
  s1.setO (Obj.refState id) code

/-- The binding of a 1PPS+ToD reference: the 1PPS port and the ToD port, none when empty (R166). -/
def ppsBinding (s : State) (id : Nat) : Option (Nat × Nat) :=
  let b := s.blob (Obj.refBinding id)
  let p := octetAt b 0
  let t := octetAt b 1
  if p < 64 ∧ t < 64 then some (p, t) else none

/-- CEILING_OK by the bound in force (R233). -/
def showCeilings (s : State) : State :=
  ((s.setF (Obj.ceilingOk 0) (decide (s.bound < s.n Obj.ceilingPtp))).setF (Obj.ceilingOk 1) (decide (s.bound < s.n Obj.ceilingNtp))).setF
    (Obj.ceilingOk 2) (decide (s.bound < s.n Obj.ceilingNts))

/-- TIME_AND_BOUND of the tick (R236). -/
def publishTime (s : State) : State := s.setBlob Obj.timeAndBound (encTime80 s.timeNow ++ toBE 4 s.bound ++ toBE 8 s.tick)

/-- The coverage factor in force (R228). -/
def boundK (s : State) : Nat := s.n Obj.boundK

/-! ### Class T (R167, R173, R229) -/

/-- An observation arrives during the tick; it is ingested in the next one (R15, R17). -/
def refArrive (s : State) (x : RefObs) : State :=
  { s with synth := { s.synth with arrived := s.synth.arrived ++ [x] } }

/-- The ticks from one observation of a class T reference to the next: a Glade epoch, a second of a 1PPS+ToD input, the
interval of a client session, the exchanges of the pair (R167, R420). (Log entry 96, DEDUCED) -/
def obsGap (s : State) (id : Nat) : Nat :=
  if id = 0x01 then 8
  else if id < 0x20 then 8192
  else if id < 0x38 then
    let b := s.blob (Obj.ptpClientCfg (id - 0x20))
    2 ^ (13 + max (fieldI b 4 1) (fieldI b 5 1)).toNat
  else 8

/-- Age at which the absence in progress began: where the observation that is missing was due (R167, R173); for the twin
reference, when the link is found down. (Log entry 96, DEDUCED) -/
def absentSince (s : State) (id : Nat) : Nat :=
  let r := s.ref id
  r.absentFrom.getD (if id = 0x3F then s.age else min s.age (r.lastSeen + s.obsGap id))

/-- A capture at a device time was made in a tick in which the plane moved, or on a plane that is no longer known (R181, R182).
(Log entry 46, DEDUCED) -/
def captureMoved (s : State) (t : Int) : Bool :=
  s.synth.movedSpans.any (fun w => decide (w.1 ≤ t ∧ t < w.2)) || (match s.synth.staleBefore with | some x => decide (t < x) | none => false)

/-- The tick that has ended is noted if the plane moved in it, and kept while a measurement may still rest on it (R181). -/
def noteMoved (s : State) : State :=
  let kept := s.synth.movedSpans.filter fun w => decide (s.timeNow < w.2 + 4 * secondUnits)
  let ended : List (Int × Int) := match s.sys.history with
    | h :: g :: _ => if s.synth.planeMoved then [(g.time, h.time - (if s.sys.realignTick then s.sys.lastStep else 0))] else []
    | _ => []
  { s with synth := { s.synth with movedSpans := ended ++ kept } }

/-- An observation ingested: it is judged, and a valid one sets the reference component, unless the plane moved in the tick of a capture
(R167, R181, R229). -/
def refIngest (s : State) (x : RefObs) : State :=
  if s.refSt x.id = 0 then s
  else
    let r := s.ref x.id
    let r1 := match x.kind with
      | .absent => { r with absentFrom := some (s.absentSince x.id) }
      | _ => { r with
          absentTicks := r.absentTicks + (match r.absentFrom with | some a => s.age - a | none => 0)
          absentFrom := none, lastSeen := s.age }
    -- one invalid observation in a tick outweighs a valid one
    let res := match r.result, x.kind with
      | some .invalid, _ => some .invalid
      | some .valid, .absent => some .valid
      | _, k => some k
    let r2 := { r1 with result := res }
    match x.kind with
    | .valid =>
      if (x.instant :: x.captures).any s.captureMoved then s.setRef x.id r2
      else
      let r3 := { r2 with s := x.s, cal := x.cal, secSum := r2.secSum + x.e, secN := r2.secN + 1
                          lastE := x.e, lastT := x.instant, fit := r2.fit.add x.instant x.e }
      let b := boundAdd (min x.s 0xFFFFFFFF) (boundQ s.boundK [x.u])
      let s1 := ((s.setRef x.id r3).setN (Obj.refBoundPs x.id) b).setN (Obj.refRandU x.id) (min x.u 0xFFFFFFFF)
      { s1 with synth := { s1.synth with ingested := s1.synth.ingested ++ [(x.id, x.e, x.instant)] } }
    | _ => s.setRef x.id r2

/-- The ticks that a run has lasted: absent time does not count (R173). -/
def refRun (s : State) (r : Ref) : Nat :=
  s.age - r.runStart - (r.absentTicks + (match r.absentFrom with | some a => s.age - a | none => 0))

/-- One class T reference at a boundary (R173). -/
def refBoundaryT (s : State) (id : Nat) : State :=
  let st := s.refSt id
  if st = 0 then s
  else
    let r := s.ref id
    let res := if r.failNext then some ObsKind.invalid else r.result
    let r1 := { r with result := none, failNext := false }
    let s1 := s.setRef id r1
    let bad := res == some .invalid
    let s2 :=
      if st = 1 then
        (if res == some .valid then
          (s1.setRef id { r1 with runStart := s.age - 1, absentTicks := 0, absentFrom := none, fit := ({} : RunFit).add r1.lastT r1.lastE }).refEnter id
            (if r.ever then 3 else 2)
        else s1)
      else if bad then s1.refEnter id 1
      else if st = 2 ∨ st = 3 then
        let need := if st = 2 then s.n Obj.refFirstS else s.n (Obj.refWtrS id)
        if need * 8192 ≤ s1.refRun r1 then (s1.setRef id { r1 with ever := true }).refEnter id 4 else s1
      else s1
    if s2.refSt id = 3 then
      s2.setN (Obj.refWtrRemaining id) (ceilDiv (s2.n (Obj.refWtrS id) * 8192 - s2.refRun (s2.ref id)) 8192)
    else s2.setO (Obj.refWtrRemaining id) 0

/-- A written priority: any to DISABLED, DISABLED to FAILED (R172, R173). -/
def refPriorityWritten (s : State) (id : Nat) : State :=
  if s.o (Obj.refPriority id) = 0 then
    (if s.refSt id = 0 then s else ((s.setRef id { ever := (s.ref id).ever }).setO (Obj.refState id) 0).setO (Obj.refWtrRemaining id) 0)
  else if s.refSt id = 0 then
    (s.setRef id { ever := (s.ref id).ever, lastSeen := s.age, winStart := s.age
                   winCount := if classF id then s.portEdges (monitorPort id) else 0 }).setO (Obj.refState id) 1
  else s

/-! ### 1PPS+ToD inputs (R167, R242) -/

/-- Device time of a plane time, in its own tick as far as descriptors are kept (R101). -/
def deviceTime (s : State) (plane : Int) : Int := match s.sys.history.dropWhile (fun h => decide (plane < h.plane)) ++ s.sys.history with
  | h :: _ => h.time + roundUpHalf ((plane - h.plane) * 4096 * (18446744073709551616 + h.rateY)) 18446744073709551616
  | [] => 0

/-- The observation of an awaited edge is invalid (R167). -/
def ppsInvalid (s : State) (id : Nat) : State :=
  let r := s.ref id
  match r.edge with
  | none => s
  | some e => (s.setRef id { r with edge := none, prevEdge := some e.1, prevSecond := none }).refArrive { id := id, kind := .invalid, instant := e.1 }

/-- The awaited message of an edge has not come: an invalid observation, counted (R242). (Log entry 43, DEDUCED) -/
def ppsNoMessage (s : State) (id : Nat) : State := if (s.ref id).edge.isSome then (s.inc (Obj.refTodInvalid id)).ppsInvalid id else s

/-- A stamped edge on the 1PPS port of an enabled reference (R167). -/
def ppsEdge (s : State) (port : Nat) (time : Int) (stamper : Nat) : State :=
  ((List.range 16).map (· + 0x10)).foldl (fun s id =>
    match s.ppsBinding id with
    | some (p, _) =>
      if p = port ∧ s.refSt id ≠ 0 ∧ s.o (Obj.tpRole p) = 1 then
        let s1 := s.ppsNoMessage id
        s1.setRef id { s1.ref id with edge := some (s1.deviceTime time, 2 * port + stamper, s1.age) }
      else s
    | none => s) s

/-- The edges that Canopy takes from the stamps of a port: as its raw stream gives them, or, with raw stamping off, as they were stamped
(R105, R447). (Log entry 100, DEDUCED) -/
def ppsPortNews (s : State) (port : Nat) : State :=
  let v := s.port port
  if v.fresh.isEmpty then s
  else v.fresh.foldl (fun s e => s.ppsEdge port e.1 e.2) (s.setPort port { v with fresh := [] })

/-- Those of every port. -/
def ppsNews (s : State) : State := (List.range 64).foldl ppsPortNews s

/-- The 1PPS inputs at a boundary: a message that has not ended by 900 ms, and an edge missing for 1 s + 1 ms
(R167, R242). -/
def ppsBoundary (s : State) (id : Nat) : State :=
  if s.refSt id = 0 then s
  else
    let s1 := match (s.ref id).edge with
      | some e => if e.1 + 900000000 * nsUnits < s.timeNow then s.ppsNoMessage id else s
      | none => s
    let r := s1.ref id
    match r.prevEdge with
    | some e =>
      if e + 1001000000 * nsUnits < s1.timeNow ∧ r.edge.isNone then
        (s1.setRef id { r with prevEdge := none, prevSecond := none }).refArrive { id := id, kind := .absent }
      else s1
    | none => s1

/-- A client session without an exchange for its interval plus 50 %, and the twin reference while the link is not joined
(R167, R420). (Log entry 96, DEDUCED) -/
def silentBoundary (s : State) (id : Nat) : State :=
  let r := s.ref id
  if s.refSt id = 0 ∨ r.absentFrom.isSome = true then s
  else if (if id = 0x3F then !s.joined else decide (2 * r.lastSeen + 3 * s.obsGap id < 2 * s.age)) then
    s.refArrive { id := id, kind := .absent }
  else s

/-! ### The Glade reference (R167, R229) -/

/-- The solution record handed over in W0 as an observation of reference 0x01.  The record's epoch gives the
instant; e is EPOCH_TAI less the device time of the epoch.  An epoch without a record is an absent observation.
(Log entry 96, DEDUCED) -/
def gladeObs (s : State) : State :=
  match s.glade.handed with
  | none =>
    let r := s.ref 0x01
    if r.absentFrom.isNone && decide (r.lastSeen + 9 < s.age) then s.refIngest { id := 0x01, kind := .absent } else s
  | some rec_ =>
    let fl := fieldN rec_ 22 2
    let kind : ObsKind := if bitOf fl 14 || bitOf fl 13 || bitOf fl 11 || bitOf fl 6 then .invalid
      else if bitOf fl 15 then .valid else .absent
    -- the device time of the epoch, by the state in force for its tick
    let t := match s.glade.handedState with
      | some h => h.time + roundUpHalf ((s.glade.handedPlane - h.plane) * 4096 * (18446744073709551616 + h.rateY)) 18446744073709551616
      | none => s.timeNow
    let tai := (decTime80 (octets rec_ 8 14)).getD 0
    s.refIngest { id := 0x01, kind := kind, e := tai - t, instant := t, s := fieldN rec_ 28 4
                  u := fieldN rec_ 24 4 * 256, cal := fieldN rec_ 44 4 }

/-! ### Class F (R170–R172) -/

/-- The fractional frequency of a gate on the basis in force, 2^-64 (R171). -/
def onBasis (s : State) (y : Int) : Int :=
  if s.o Obj.monitorBasis = 0 then y
  else
    let rate := match s.sys.history with | h :: _ => h.rateY | [] => 0
    roundUpHalf ((18446744073709551616 + y) * (18446744073709551616 + rate)) 18446744073709551616 - 18446744073709551616

/-- |y| beyond a limit in 1e-12 units, widened by 4e-6 on the plane basis (R171). -/
def beyond (s : State) (y : Int) (limit : Nat) : Bool :=
  let l := limit + (if s.o Obj.monitorBasis = 0 then 4000000 else 0)
  decide (l * 18446744073709551616 < y.natAbs * 1000000000000)

/-- A VALID gate of a class F reference (R171, R172). -/
def refGate (s : State) (id : Nat) (y : Int) : State :=
  let st := s.refSt id
  if st = 0 then s
  else
    let v := s.onBasis y
    let s1 := s.setO (Obj.refFreqOffset id) v
    if st = 2 then
      (if s1.beyond v (s1.n (Obj.refAcceptLimit id)) then s1.refEnter id 1
       else s1.setRef id { s1.ref id with acceptGate := true })
    else if st = 4 ∧ s1.beyond v (s1.n (Obj.refRejectLimit id)) = true then s1.refEnter id 1
    else s1

/-- The activity window of a class F reference, in ticks: W = max(1, ceil(16 × 8,192 / f)) with f = 2^20 × 10^9 / period (R170). -/
def activityTicks (s : State) (id : Nat) : Nat := max 1 (ceilDiv (16 * 8192 * s.portPeriod (monitorPort id)) (2 ^ 20 * 1000000000))

/-- The monitor of a class F reference has no gate and no window that ends at this boundary and is still to be judged. -/
def monitorSettled (s : State) (id : Nat) : Bool :=
  !s.gateDue (monitorPort id) && decide (s.age < (s.ref id).winStart + s.activityTicks id)

/-- A class F reference at a boundary: an accept run of REF_ACCEPT_S with a VALID gate qualifies it, after the gate and the window that end
there are judged (R172). -/
def refBoundaryF (s : State) (id : Nat) : State :=
  let r := s.ref id
  if s.refSt id = 2 ∧ r.acceptGate ∧ r.acceptStart + s.n Obj.refAcceptS * 8192 ≤ s.age ∧ s.monitorSettled id = true then
    let s1 := s.refEnter id 4
    if id < 0x44 then { s1 with synth := { s1.synth with clkQualified := true } } else s1
  else s

/-- The basis at a boundary; a change restarts every accept run (R171). -/
def basisBoundary (s : State) : State :=
  let b : Int := if s.mode = mTrack ∨ s.mode = mHoldover then 1 else 0
  if s.o Obj.monitorBasis = b then s
  else
    classFIds.foldl (fun s id => if s.refSt id = 2 then s.setRef id { s.ref id with acceptStart := s.age, acceptGate := false } else s)
      (s.setO Obj.monitorBasis b)

/-! ### Selection (R174, R175) -/

/-- The reference that R175 selects. -/
def selectRef (s : State) : Nat :=
  let joined := s.joined
  let q := classTIds.filter fun id => s.refSt id == 4 && !(id == 0x3F && joined && s.twin.master)
  let cur := s.n Obj.selTCurrent
  let force := s.n Obj.selForce
  if joined && !s.twin.master && q.any (fun id => id == 0x3F) then 0x3F
  else if force ≠ 0 ∧ q.any (fun id => id == force) then force
  else if !s.flag Obj.selRevertive ∧ q.any (fun id => id == cur) then cur
  else
    let key (id : Nat) : Nat := (s.n (Obj.refPriority id) * 2 ^ 32 + s.n (Obj.refBoundPs id)) * 256 + id
    (q.foldl (fun (best : Option Nat) id => match best with
      | none => some id
      | some b => if key id < key b then some id else some b) none).getD 0

/-- The selection at a boundary (R175). -/
def selectBoundary (s : State) : State :=
  let new := s.selectRef
  if new = s.n Obj.selTCurrent then s
  else
    let s1 := ((s.setO Obj.selTPrevious (s.o Obj.selTCurrent)).setN Obj.selTCurrent new).inc Obj.selSwitches
    { s1 with synth := { s1.synth with selSince := s1.age, selTime := s1.timeNow } }

/-- The class T references in use with the objects that an ingestion writes. -/
def refsHeld (s : State) : List (Nat × Ref × Int × Int) :=
  (classTIds.filter fun id => s.refSt id != 0).map fun id => (id, s.ref id, s.o (Obj.refBoundPs id), s.o (Obj.refRandU id))

/-- All references at a boundary: class T transitions on the observations of the tick before, class F runs, then the ingestion of what
arrived, then the selection (R172–R175). -/
def refsBoundary (s : State) : State :=
  let s1 := classTIds.foldl refBoundaryT s
  let s2 := classFIds.foldl refBoundaryF s1
  let due := s2.synth.arrived
  let s3 := { s2 with synth := { s2.synth with arrived := [], ingested := [], refsWas := s2.refsHeld } }
  let s4 := due.foldl refIngest s3
  let s5 := (List.range 16).foldl (fun s k => s.ppsBoundary (0x10 + k)) s4
  (((List.range 24).map (· + 0x20) ++ [0x3F]).foldl silentBoundary s5).selectBoundary

/-- What the ingestion of a discarded tick changed in the references is put back; what arrived in the tick stays (R54). -/
def refsUndone (s : State) : State :=
  s.synth.refsWas.foldl (fun s x =>
    if s.refSt x.1 = 0 then s
    else
      let r := s.ref x.1
      let w := x.2.1
      let back : Ref := { r with
        result := w.result, absentFrom := w.absentFrom, absentTicks := w.absentTicks, lastSeen := w.lastSeen, s := w.s, cal := w.cal
        secSum := if r.secN = 0 then 0 else w.secSum, secN := if r.secN = 0 then 0 else w.secN, lastE := w.lastE, lastT := w.lastT, fit := w.fit }
      ((s.setRef x.1 back).setO (Obj.refBoundPs x.1) x.2.2.1).setO (Obj.refRandU x.1) x.2.2.2)
    { s with synth := { s.synth with ingested := [] } }

/-- REF_BOUND_PS of the class T references under a new BOUND_K (R228, R229). -/
def boundKWritten (s : State) : State :=
  classTIds.foldl (fun s id =>
    if s.n (Obj.refBoundPs id) = unbounded then s
    else s.setN (Obj.refBoundPs id) (boundAdd (min (s.ref id).s 0xFFFFFFFF) (boundQ s.boundK [s.n (Obj.refRandU id)]))) s

end State

/-- A reference in a timescale stepped by Δ (R230). -/
def Ref.stepped (r : Ref) (delta : Int) : Ref := { r with
  lastE := r.lastE - delta, lastT := r.lastT + delta, fit := r.fit.stepped delta
  offsets := r.offsets.map (· - delta), secSum := r.secSum - delta * r.secN
  edge := r.edge.map (fun e => (e.1 + delta, e.2)), prevEdge := r.prevEdge.map (· + delta) }

namespace State

/-- After a step of the timescale by Δ the offsets and instants kept describe the stepped timescale (R230). -/
def refsStepped (s0 : State) (delta : Int) : State :=
  let s : State := { s0 with synth := { s0.synth with
    movedSpans := s0.synth.movedSpans.map (fun w => (w.1 + delta, w.2 + delta)), staleBefore := s0.synth.staleBefore.map (· + delta)
    selTime := s0.synth.selTime + delta, refsWas := s0.synth.refsWas.map fun x => (x.1, x.2.1.stepped delta, x.2.2) } }
  classTIds.foldl (fun s id => if s.refSt id = 0 then s else s.setRef id ((s.ref id).stepped delta)) s

/-- A conflict without a single outlier: the largest excess over the inconsistent pairs that include the selected
reference (R174). -/
def consistConflict (s : State) (wrong : List (Nat × Nat)) (diff : Nat → Nat → Nat × Nat) : State :=
  let cur := s.n Obj.selTCurrent
  let mine := wrong.filter fun p => p.1 == cur || p.2 == cur
  let excess := maxN (mine.map fun p =>
    let d := diff p.1 p.2
    ceilDiv d.1 d.2 - (s.n (Obj.refBoundPs p.1) + s.n (Obj.refBoundPs p.2)))
  let s1 := s.setF Obj.refConflict true
  { s1 with synth := { s1.synth with conflictPs := excess } }

/-- The mean offsets compared once a second (R174). -/
def consistency (s : State) : State :=
  let q := classTIds.filter fun id => s.refSt id == 4 && decide (0 < (s.ref id).secN)
  -- |difference of means| in ps as a fraction: 1000 / 2^32 of (a·m − b·n) / (n·m)
  let diff (i j : Nat) : Nat × Nat :=
    let a := s.ref i
    let b := s.ref j
    ((a.secSum * b.secN - b.secSum * a.secN).natAbs * 1000, 2 ^ 32 * a.secN * b.secN)
  let lim (i j : Nat) : Nat := boundAdd (s.n (Obj.refBoundPs i)) (s.n (Obj.refBoundPs j))
  let bad (i j : Nat) : Bool :=
    let d := diff i j
    lim i j != unbounded && decide ((lim i j + s.n Obj.refConsistMarginPs) * d.2 < d.1)
  let pairs := (q.map fun i => (q.filter fun j => decide (i < j)).map fun j => (i, j)).flatten
  let wrong := pairs.filter fun p => bad p.1 p.2
  let out := q.filter fun i => q.all fun j => j == i || bad i j
  let clean := { s with synth := { s.synth with conflictPs := 0 } }
  let s1 := classTIds.foldl (fun s id => let r := s.ref id; if r.secN = 0 then s else s.setRef id { r with secSum := 0, secN := 0 })
    (clean.setF Obj.refConflict false)
  if wrong.isEmpty then s1
  else match out with
    | [o] =>
      if 3 ≤ q.length ∧ wrong.all (fun p => p.1 == o || p.2 == o) then
        (s1.setRef o { s1.ref o with failNext := true }).inc (Obj.refConsistFails o)
      else s1.consistConflict wrong diff
    | _ => s1.consistConflict wrong diff
end State

/-- EDGE_ARRIVAL: an edge of the selected polarity arrives at a timing port or a monitor port, at plane time
`time`, with what each stamper of the port would capture (R87–R91).  A stamped edge of a bound 1PPS port awaits
its message (R167).  While TP_ROLE is 0 no edge is counted. (Log entry 100, DEDUCED) -/
def execEdgeArrival (port : Fin 84) (time : Nat) (a b : Capture) (s : State) : Host.Outcome State Fault Refusal :=
  if s.running && s.portOn port then
    .next ((s.edge port time a b).ppsPortNews port)
  else .next s

/-- REF_ABSENT_TIMEOUT: a class T reference absent for longer than REF_ABSENT_S goes to FAILED at the next boundary (R173).
(Log entry 96, DEDUCED) -/
def execRefAbsentTimeout (id : Fin 256) (s : State) : Host.Outcome State Fault Refusal :=
  let r := s.ref id
  if s.running && classT id && decide (2 ≤ s.refSt id) && (match r.absentFrom with | some a => decide (a + s.n (Obj.refAbsentS id) * 8192 < s.age) | none => false) then
    .next (s.setRef id { r with failNext := true })
  else .next s

/-- CONSISTENCY_CHECK: once a second, in the tick of index 0, the QUALIFIED class T references measured in the
second are compared in pairs (R174). -/
def execConsistencyCheck (s : State) : Host.Outcome State Fault Refusal :=
  if s.running && decide (s.index = 0) then .next s.consistency else .next s

end Sys2Proof.Machine
end

