-- ==== Sys2Proof/Machine/Synth.lean ====
section
/-!
DEFINITION. The six PLLs, the APLL-T switch and its step, the output synthesisers and their ramps, the EFC outputs,
digital steering and the SyncE transmit rate (R35, R36, R177–R198), with GATE_END and CLASS_F_ACTIVITY_WINDOW,
whose results can move the APLL-T selector.
-/

namespace Sys2Proof.Machine

/-- The clock domains that a source feeds (R35). -/
def ClockSource.domains : ClockSource → List Nat
  | .xo => [0]
  | .clkIn n => [1 + n.val]
  | .apll k => match k.val with
    | 0 => [6, 7]
    | 1 => [9, 10, 11, 12, 13]
    | 2 => [14]
    | 3 => [15]
    | 4 => [32, 34]
    | _ => [8]
  | .stampTree => [7]
  | .lane n => [16 + n.val]
  | .jesd => [33]
  | .pcie => [35]
  | .mgmtPll => [36]
  | .mgmtRx => [37]
  | .yethalRx => [38]
  | .yethalPll => [39]

/-- The fault that the loss of a source raises, if any (R36, R391). -/
def ClockSource.fault : ClockSource → Option Nat
  | .xo => some 0x0202
  | .clkIn _ => none
  | .apll k => match k.val with
    | 0 => some 0x0201
    | 1 => some 0x0202
    | 2 => some 0x0206
    | 3 => some 0x0206
    | 4 => some 0x0208
    | _ => some 0x0205
  | .stampTree => some 0x0204
  | .lane _ => some 0x0207
  | .jesd => some 0x0208
  | _ => some 0x0209

/-- SOURCE of that fault: the lane for NRX_LOST, else the lowest domain fed (R36, R391). -/
def ClockSource.faultSource (c : ClockSource) : Nat := match c with
  | .lane n => n.val
  | _ => c.domains.headD 0

/-- A provenance record (R235). -/
structure Prov where
  comp : Nat
  flags : Nat
  ref : Nat
  value : Nat
  cal : Nat
  deriving DecidableEq, Repr

/-- The 24 octets of a provenance record; its LAST_UPDATE_TICK is that of the record before when nothing else
changed (R235). -/
def Prov.octets (p : Prov) (old : Octets) (tick : Nat) : Octets :=
  let head := toBE 1 p.comp ++ toBE 1 p.flags ++ toBE 1 p.ref ++ zeros 1 ++ toBE 4 p.value ++ toBE 4 p.cal
  let last := if padTo 12 old = head then Sys2Proof.Machine.octets old 12 8 else toBE 8 tick
  head ++ last ++ zeros 4

namespace State

/-- CD_STATUS holds the bits of a source. -/
def clockPresent (s : State) (c : ClockSource) : Bool := c.domains.all fun d => bitOf (s.n Obj.cdStatus) d

/-- A source's clock is back: the bits of its domains are set. (Log entry 11, DEDUCED) -/
def clockBack (s : State) (c : ClockSource) : State :=
  s.setN Obj.cdStatus (c.domains.foldl setBit (s.n Obj.cdStatus))

/-- The records of the eight core components as octets, in code order; one that does not apply has VALUE 0 (R235). -/
def provOver (s : State) (old : Octets) (l : List Prov) : Octets :=
  ((List.range 8).map fun k =>
    let p := match l.find? (fun p => p.comp == k + 1) with
      | some p => p
      | none => ⟨k + 1, if k = 1 then 0x40 else if k = 6 then 0xC0 else 0x80, 0, 0, 0⟩
    let q := if p.value = unbounded then { p with flags := p.flags ||| 0x20 } else p
    q.octets (Sys2Proof.Machine.octets old (24 * k) 24) s.tick).flatten

/-- The same after the records of the bound that W1 gives, or those in force. -/
def provOctets (s : State) (l : List Prov) : Octets :=
  s.provOver (match s.canopy.next with | some c => c.prov | none => s.blob Obj.boundProvenance) l

/-- A bound in force that becomes unbounded within its tick; no component applies (R36, R234, R235, R375). -/
def boundLost (s : State) : State :=
  if s.bound = unbounded then s.forceUnbounded
  else
    let prov := s.provOver (s.blob Obj.boundProvenance) []
    let s1 := (((s.setN Obj.boundNow unbounded).setO Obj.boundSource 0).inc Obj.boundUnboundedTicks).setBlob Obj.boundProvenance prov
    let hist := match s.sys.history with | h :: t => { h with bound := unbounded, source := 0 } :: t | [] => []
    ({ s1 with sys := { s1.sys with history := hist } }).forceUnbounded.showCeilings.publishTime

/-- The device's reaction to a loss besides the bits and the fault (R36, R112, R248). (Log entry 20, DEDUCED) -/
def lossReaction (s : State) (c : ClockSource) : State :=
  match c with
  | .apll k => match k.val with
    | 0 =>
      let s1 := s.stampersLost.boundLost
      { s1 with sys := { s1.sys with sinceLock := none }, synth := { s1.synth with step := none, pendingInput := none } }
    | 2 => (List.range 8).foldl macDown s
    | 3 => (List.range 8).foldl (fun s m => s.macDown (8 + m)) s
    | 4 => (s.gladeOff).setRef 0x01 { s.ref 0x01 with failNext := true }
    | _ => s
  | .lane n => s.macDown (if s.o (Obj.npMode (n.val / 2)) = 1 then n.val / 2 * 2 else n.val)
  | .stampTree => s.stampTreeLost
  | .jesd => s.setRef 0x01 { s.ref 0x01 with failNext := true }
  | _ => s

/-- A loss-of-clock event (R36): status, sticky bits, count, reaction, fault. (Log entry 20, DEDUCED) -/
def clockLost (s : State) (c : ClockSource) : State :=
  let st := c.domains.foldl clearBit (s.n Obj.cdStatus)
  let sticky := c.domains.foldl setBit (s.n Obj.cdLostSticky)
  let s1 := (((s.setN Obj.cdStatus st).setN Obj.cdLostSticky sticky).inc Obj.cdLossCount).lossReaction c
  match c.fault with
  | some f => s1.faulted f c.faultSource 0
  | none => s1

/-! ### The PLLs (R184) -/

/-- The state code of a PLL. -/
def pll (s : State) (k : Nat) : Int := s.o (Obj.apllState k)

/-- A PLL goes to BYPASS; one that was locked makes a loss-of-clock event, and the PLLs referenced to it follow
(R36, R184). -/
def pllBypassOne (s : State) (k : Nat) : State :=
  let was := s.pll k
  let s1 := (s.setO (Obj.apllState k) 3).inc (Obj.apllBypassCount k)
  let s2 := if k = 0 then s1.setO Obj.aplltSource 255 else s1
  if was = 2 ∨ was = 4 ∨ was = 5 then
    (if h : k < 6 then s2.clockLost (.apll ⟨k, h⟩) else s2)
  else s2

/-- BYPASS with its consequences: APLL-T takes APLL-J and APLL-O with it, APLL-O takes APLL-N0 and APLL-N1.
(Log entry 20, DEDUCED) -/
def pllBypass (s : State) (k : Nat) : State :=
  let follow (s : State) (j : Nat) : State := if s.pll j = 2 then s.pllBypassOne j else s
  let s1 := s.pllBypassOne k
  if k = 0 then [4, 5, 2, 3].foldl follow s1
  else if k = 5 then [2, 3].foldl follow s1
  else s1

/-- A PLL leaves OFF for ACQUIRING (R184). -/
def pllStart (s : State) (k : Nat) : State := if s.pll k = 0 then s.setO (Obj.apllState k) 1 else s

/-- The candidates of the APLL-T selector in order: QUALIFIED inputs by APLLT_PRIORITY, then number (R177). -/
def aplltCandidates (s : State) : List Nat :=
  let ok := (List.range 4).filter fun n => s.refSt (0x40 + n) == 4 && s.n (Obj.aplltPriority n) != 0
  sortBy (fun a b => decide (s.n (Obj.aplltPriority a) * 4 + a < s.n (Obj.aplltPriority b) * 4 + b)) ok

/-- The input that APLL-T acquires: a candidate, or before the first qualification the input of lowest priority
that shows activity (R177). -/
def aplltAcquire (s : State) : Option Nat :=
  if s.synth.clkQualified then s.aplltCandidates.head?
  else
    let act := (List.range 4).filter fun n => bitOf (s.n Obj.cdStatus) (1 + n) && s.n (Obj.aplltPriority n) != 0
    (sortBy (fun a b => decide (s.n (Obj.aplltPriority a) * 4 + a < s.n (Obj.aplltPriority b) * 4 + b)) act).head?

/-- The selector's judgement while APLL-T is LOCKED: the selected input left QUALIFIED, an operator's choice, or a
revertive choice; `boundary` allows the last two (R177). -/
def aplltJudge (s : State) (boundary : Bool) : Option Nat :=
  let cur := s.n Obj.aplltSource
  let c := s.aplltCandidates
  let forced := s.n Obj.aplltForce
  if s.pll 0 ≠ 2 ∨ !s.synth.clkQualified then none
  else if boundary && forced != 255 && c.any (fun n => n == forced) then (if forced = cur then none else some forced)
  else if !(c.any fun n => n == cur) then c.head?
  else if boundary && s.flag Obj.aplltRevertive then
    (match c.head? with | some n => if n = cur then none else some n | none => none)
  else none

/-- An operator, revertive or qualification switch starts from LOCKED (R179, R184). -/
def aplltSwitch (s : State) (n : Nat) : State :=
  let s1 := s.setO (Obj.apllState 0) 5
  { s1 with synth := { s1.synth with pendingInput := some n, planeMoved := true } }

/-- The selector judged outside a boundary. -/
def aplltReact (s : State) : State := match s.aplltJudge false with
  | some n => s.aplltSwitch n
  | none => s

/-! ### The step of a switch (R179–R182) -/

/-- The lateness of an input's edges against the nominal grid at plane time `x`, extrapolated from a fit, in
2^-20 ns (R180). -/
def lateness (s : State) (f : Fit) (port : Nat) (x : Int) : Int :=
  let p : Int := s.portPeriod port
  f.mid + f.phase + roundUpHalf ((f.period - p * 4294967296) * (x - f.mid)) (max 1 (p * 4294967296))

/-- wrap into (−T/2, +T/2] for the reference period in 2^-20 ns (R179). -/
def wrapPeriod (t x : Int) : Int :=
  let r := x % t
  if 2 * r > t then r - t else r

/-- The phase standard deviation of a fit, 2^-20 ns scaled by 2^20, rounded up. -/
def fitSigma (f : Fit) : Nat := isqrtUp (ceilDiv (f.varMant * 2 ^ f.varExp * 2 ^ 40) (max 1 f.n))

/-- The variance of the frequency of a fit whose stamps stand one period apart, in 2^-160: s² / Σ(t − mean)².
(Log entry 48, DESIGN CHOICE) -/
def fitFreqVar (f : Fit) (period : Nat) : Nat :=
  ceilDiv (12 * f.varMant * 2 ^ f.varExp * 2 ^ 160) (max 1 (f.n * (f.n * f.n - 1) * period * period))

/-- A valid sliding fit of an input not older than 64 ticks (R182). -/
def slidingOf (s : State) (n : Nat) : Option Fit := match (s.port (64 + n)).sliding with
  | some (f, at_) => if s.age ≤ at_ + 64 then some f else none
  | none => none

/-- A step that cannot be predicted or measured: the bound is unbounded from the tick on, until an observation is made on the plane that the
device now has (R182). -/
def stepUnmeasured (s : State) : State :=
  let s1 := (s.inc Obj.stepUnmeasured).boundLost
  { s1 with
    synth := { s1.synth with staleBefore := some s1.timeNow }
    canopy := { s1.canopy with window := [], carry := none } }

/-- ceil(|x|) ps of a plane-time span in 2^-20 ns. -/
def planePs (x : Int) : Nat := ceilDiv (x.natAbs * 1000) (2 ^ 20)

/-- The plane's reading at a plane time (R199). -/
def planeReading (s : State) (plane : Int) : Int := plane * 4096 + s.canopy.origin

/-- A holdover segment with the charge of the switch under way, if the switch began in it (R181, R216). -/
def segCharged (s : State) (g : HoldSeg) : HoldSeg :=
  match s.synth.step with
  | some p => if g.start ≤ p.started then { g with extra := boundAdd g.extra (s.n Obj.stepChargePs) } else g
  | none => g

/-- The term that an earlier switch charged in the holdover segment stays in its H (R216). -/
def chargeKept (s : State) : State :=
  { s with canopy := { s.canopy with hold := s.canopy.hold.map fun h => { h with seg := s.segCharged h.seg } } }

/-- The selector connects an input at plane time `x`: the prediction of R180, or an unmeasured step (R182).
`period` is the reference period at the phase detector in 2^-20 ns. (Log entry 46, DEDUCED) -/
def connect (s : State) (n : Nat) (x : Int) (period : Nat) : State :=
  let old := s.n Obj.aplltSource
  let s1 := ((s.chargeKept.setN Obj.aplltSource n).inc Obj.stepCount).setO (Obj.apllState 0) 5
  let monitorOn := s.stActive (2 * (64 + n)) || s.stActive (2 * (64 + n) + 1)
  let base : PlaneStep := { input := n, phase := .moving, at_ := x, started := s.age }
  let put (s : State) (p : PlaneStep) : State :=
    { s with synth := { s.synth with step := some p, pendingInput := none, planeMoved := true } }
  let charge (sp : Int) (s : State) : State := s.setN Obj.stepChargePs (min unbounded (planePs sp + 50))
  match (if old < 4 then s.slidingOf old else none), s.slidingOf n with
  | some fo, some fn =>
    if monitorOn then
      let lo := s.lateness fo (64 + old) x
      let ln := s.lateness fn (64 + n) x
      let sp := wrapPeriod period (lo - ln)
      put (charge sp (s1.setO Obj.stepPredicted sp)) { base with predicted := some (sp, fn.y), before := ln, sigma := fitSigma fn }
    else (put (charge 0 s1) base).stepUnmeasured
  | _, _ => (put (charge 0 s1) base).stepUnmeasured

/-- U_m of R181 in ps. (Log entry 46, DEDUCED) -/
def stepUm (p : PlaneStep) : Nat := ceilDiv (6 * 2 ^ 40 + 30 * 1000 * (p.sigma + p.sigmaAfter)) (10 * 2 ^ 40)

/-- The step at a boundary: the charge of R181, the predicted step and rate at the first boundary after relock, the
slew of what is left, and the retirement of U_m.  Answers the state and the shift of the boundary's plane position
(R180, R181). (Log entry 46, DEDUCED) -/
def stepBoundary (s : State) : State × Int :=
  match s.synth.step with
  | none => (s.setO Obj.stepChargePs 0, 0)
  | some p =>
    let put (s : State) (p : Option PlaneStep) : State := { s with synth := { s.synth with step := p } }
    match p.phase with
    | .moving =>
      if p.relocked then
        match p.predicted with
        | some (sp, y) =>
          -- the rate change: 1 + RATE_Y becomes (1 + RATE_Y) / (1 + y)
          let one : Int := 18446744073709551616
          let i := s.canopy.integral
          let i' := roundUpHalf ((one + i) * one) (one + y) - one
          let r' := roundUpHalf ((one + s.canopy.rate) * one) (one + y) - one
          let s1 := put (s.setO Obj.stepChargePs 50) (some { p with phase := .predicted, applied := s.age + 1 })
          ({ s1 with canopy := { s1.canopy with integral := i', rate := r', switched := some (s.age + 1, sp * 4096, y) } }, sp)
        | none => (put (s.setO Obj.stepChargePs 50) (some { p with phase := .predicted, applied := s.age + 1 }), 0)
      else
        let sp := match p.predicted with | some x => planePs x.1 | none => 0
        (s.setN Obj.stepChargePs (min unbounded (sp + 50)), 0)
    | .predicted => (s.setO Obj.stepChargePs 50, 0)
    | .slewing =>
      -- at no more than 1e-9: 128 units of 2^-20 ns in a tick of 128,000,000,000
      let d := clampI (-128) 128 p.left
      let left := p.left - d
      if left = 0 then (put (s.setN Obj.stepChargePs (stepUm p)) (some { p with left := 0, phase := .done }), d)
      else (put (s.setO Obj.stepChargePs 50) (some { p with left := left }), d)
    | .done =>
      let since := max p.started s.synth.selSince
      let bw := s.n (Obj.refBw (s.n Obj.selTCurrent))
      if s.o Obj.selTCurrent ≠ 0 ∧ s.mode ≠ mHoldover ∧ 5000000 * 8192 ≤ (s.age - since) * bw then
        (put (s.setO Obj.stepChargePs 0) none, 0)
      else (s.setN Obj.stepChargePs (stepUm p), 0)

/-! ### Outputs (R186–R190) -/

/-- An output synthesiser. -/
def out (s : State) (p : Nat) : OutPort := Sparse.get (fun _ => {}) s.synth.outs p

/-- The state with an output synthesiser written. -/
def setOut (s : State) (p : Nat) (v : OutPort) : State :=
  { s with synth := { s.synth with outs := Sparse.put (fun _ => {}) s.synth.outs p v } }

/-- φ_r in 2^-20 ns, rounded to nearest. (Log entry 35, DEDUCED) -/
def rampOffset (s : State) (p : Nat) : Int := roundUpHalf (s.out p).phi 18446744073709551616

/-- ceil(|φ_r|) in ps, from its exact value (R190, R227). -/
def rampPs (s : State) (p : Nat) : Nat := ceilDiv ((s.out p).phi.natAbs * 1000) (2 ^ 84)

/-- The bound stated for an output: the core bound with PLACE and RAMP; unbounded while OSY is lost (R36, R187, R190, R226). -/
def outBound (s : State) (p : Nat) : Nat :=
  if s.pll 5 = 2 then boundAdd (boundAdd s.bound (2 + s.n (Obj.outDelayUncPs p))) (s.rampPs p) else unbounded

/-- An output may drive edges now (R188, R32, R57, R233): mode, bound, interlock, OSY, ceiling, no latch. -/
def outAllowed (s : State) (p : Nat) : Bool :=
  s.inService && s.o (Obj.tpRole p) == 2 && (s.o (Obj.outMode p) == 1 || s.o (Obj.outMode p) == 2) &&
    s.bound != unbounded && s.interlockOpen && s.pll 5 == 2 && !(s.out p).latched &&
    decide (s.outBound p < s.n Obj.ceilingOut)

/-- Device time of edge n in 2^-20 ns (R186). -/
def edgeTarget (s : State) (p n : Nat) : Int :=
  (n : Int) * s.o (Obj.outPeriod p) + s.o (Obj.outPhaseOffset p) + s.rampOffset p

/-- The plane time at which an edge is placed: by the state in force, less OUT_DELAY_PS, on the grid of 800 units
with ties upwards (R186). -/
def placed (s : State) (p : Nat) (t : Int) : Int :=
  let plane := match s.sys.history with
    | h :: _ => h.plane + roundUpHalf ((t * 4096 - h.time) * 18446744073709551616) (4096 * (18446744073709551616 + h.rateY))
    | [] => t
  let d := roundUpHalf (s.o (Obj.outDelayPs p) * 1048576) 1000
  800 * roundUpHalf (plane - d) 800

/-- The slew profile that returns φ_r to 0 (R190), within limits in 1e-12 and 1e-12 per second.  With SLOPE `a` and `t` ticks a half, a profile that
holds its peak for `h` ticks moves a·t·(t + h) rate units × ticks; what is left of a placement step or more is moved by one more tick at level a·j on
either side, and what that leaves by one tick at half of it before and after. (Log entry 45, DEDUCED) -/
def slewProfile (phi : Int) (maxY accel : Nat) : List (Nat × Int) :=
  let peak := maxY * 18446744073709551616 / 1000000000000
  let a := min peak (accel * 18446744073709551616 / 8192000000000000)
  if a = 0 then []
  else
    let sgn : Int := if phi < 0 then 1 else -1
    -- the rate × ticks that move φ_r over ticks of 128e9 units
    let y := phi.natAbs / 128000000000
    let t := min (isqrt (y / a)) (peak / a)
    -- one placement step of 800 units
    let big (r : Nat) : Bool := decide (800 * 18446744073709551616 ≤ r * 128000000000)
    let r1 := y - a * t * t
    let h := if big r1 then r1 / (a * max 1 t) else 0
    let r2 := r1 - h * a * t
    let j := if big r2 then r2 / (2 * a) else 0
    let r3 := r2 - 2 * a * j
    let blip (v : Nat) : List (Nat × Int) := if big r3 then [(1, sgn * v), (1, -(sgn * v))] else []
    let up : List (Nat × Int) := if j = 0 then [(t, sgn * a)] else [(j, sgn * a), (1, 0), (t - j, sgn * a)]
    let down : List (Nat × Int) := if j = 0 then [(t, -(sgn * a))] else [(t - j, -(sgn * a)), (1, 0), (j, -(sgn * a))]
    (blip (r3 / 2) ++ up ++ [(h, 0)] ++ down ++ blip (r3 - r3 / 2)).filter fun x => x.1 != 0

/-- An output's φ_r set, in 2^-84 ns, and slewed away (R190). (Log entry 45, DEDUCED) -/
def slewOut (s : State) (p : Nat) (phi : Int) : State :=
  let segs := slewProfile phi (s.n (Obj.outSlewMax p)) (s.n (Obj.outSlewAccel p))
  let s1 := s.setOut p { s.out p with phi := phi, y := 0, segs := segs }
  (s1.setO (Obj.outRampOffset p) (s1.rampOffset p)).setF (Obj.outRampActive p) (!segs.isEmpty)

/-- An output's last pulse after a step by Δ, in the stepped timescale; under policy 0 a forward step lengthens the period that it falls in
(R190). -/
def pulseStepped (s : State) (p : Nat) (d : Int) : State :=
  let v := s.out p
  let wait : Option Int := match v.last with
    | some x => if 0 < d ∧ s.o (Obj.outStepPolicy p) = 0 ∧ v.driving = true then some (x.2 + d + s.o (Obj.outPeriod p)) else none
    | none => none
  s.setOut p { v with pulse := v.pulse.map fun w => (w.1 + d, w.2 + d), notBefore := wait }

/-- A step of the timescale by Δ (2^-32 ns) at a realignment tick: the outputs under policy 1 slew (R190). -/
def outsStepped (s0 : State) (delta : Int) : State :=
  let s := (List.range 64).foldl (fun s p => s.pulseStepped p (roundUpHalf delta 4096)) s0
  (List.range 64).foldl (fun s p =>
    if s.o (Obj.tpRole p) = 2 ∧ s.o (Obj.outMode p) ≠ 0 ∧ s.o (Obj.outStepPolicy p) = 1 then
      s.slewOut p (-(roundUpHalf delta 4096) * 18446744073709551616)
    else s) s

/-- A written profile replaces the one in progress; y_r carries over, but one without segments is at its end (R189). -/
def rampWritten (s : State) (p : Nat) : State :=
  let b := s.blob (Obj.outRampProfile p)
  let segs := ((List.range (b.length / 16)).map fun k => (fieldN b (16 * k) 4, fieldI b (16 * k + 8) 8)).filter
    fun x => x.1 != 0
  (s.setOut p { s.out p with segs := segs, y := if segs.isEmpty then 0 else (s.out p).y }).setF (Obj.outRampActive p) (!segs.isEmpty)

/-- A ramp generator at a boundary: y_r += SLOPE, φ_r += y_r × 122.0703125 µs; at the end of the last segment y_r
is exactly 0 (R189). -/
def rampBoundary (s : State) (p : Nat) : State :=
  let v := s.out p
  match v.segs with
  | [] => s
  | (n, sl) :: t =>
    let y := v.y + sl
    let phi := v.phi + y * 128000000000
    let segs := if n ≤ 1 then t else (n - 1, sl) :: t
    let s1 := s.setOut p { v with segs := segs, y := if segs.isEmpty then 0 else y, phi := phi }
    (s1.setO (Obj.outRampOffset p) (s1.rampOffset p)).setF (Obj.outRampActive p) (!segs.isEmpty)

/-- The ramp and the driving state of an output at a boundary (R188, R189). -/
def outDrive (s : State) (p : Nat) : State :=
  if s.o (Obj.outMode p) = 0 ∧ (s.out p).segs.isEmpty ∧ !(s.out p).driving then s
  else
    let s1 := s.rampBoundary p
    let go := s1.outAllowed p
    let v := s1.out p
    let entered := s1.sys.history.head?.map (fun h => h.time)
    let start := if go && !v.driving then (entered.getD 0) + 2 * tickUnits else v.startAt
    let w := { v with driving := go, startAt := start
                      edges := if go && !v.driving then 0 else v.edges, offSum := if go && !v.driving then 0 else v.offSum
                      misses := if go then v.misses else 0 }
    s1.setOut p w

/-- An output at a boundary: its ramp, its driving state, and its verification, suspended while both its stampers are out (R187–R189). -/
def outBoundary (s : State) (p : Nat) : State :=
  let s1 := s.outDrive p
  let un := decide (s1.o (Obj.tpRole p) = 2) && !s1.stActive (2 * p) && !s1.stActive (2 * p + 1)
  if s1.flag (Obj.outUnverified p) = un then s1 else s1.setF (Obj.outUnverified p) un

/-- An edge may rise: the pulse before it is complete, and a period that a forward step lengthened is over (R188, R190). -/
def edgeFree (s : State) (p n : Nat) : Bool :=
  (match (s.out p).pulse with | some w => decide (w.2 ≤ s.edgeTarget p n) | none => true) &&
    (match (s.out p).notBefore with | some x => decide (x ≤ s.edgeTarget p n) | none => true)

/-- An edge driven and verified, with its pulse: `measured` is the plane time that the port's stampers give it (R186, R187). -/
def driveEdge (s : State) (p n : Nat) (measured : Int) : State :=
  let t := s.edgeTarget p n
  let v := s.out p
  let v1 := { v with
    last := some (n, t), lastE := s.outBound p, lastState := s.sys.history.head?
    pulse := some (t, t + s.o (Obj.outHighTime p)), notBefore := none }
  if s.flag (Obj.outUnverified p) then s.setOut p v1
  else
    let err := measured - s.placed p t
    if v.edges < 1024 then s.setOut p { v1 with edges := v.edges + 1, offSum := v.offSum + err }
    else
      let dev := err * 1024 - v.offSum
      -- |deviation| in 2^-20 ns × 1024 against the tolerance in ps
      if dev.natAbs * 1000 ≤ s.n (Obj.outPlaceTolPs p) * 2 ^ 20 * 1024 then s.setOut p { v1 with misses := 0 }
      else if v.misses + 1 ≤ 8 then s.setOut p { v1 with misses := v.misses + 1 }
      else
        let s1 := s.setOut p { v1 with latched := true, driving := false, misses := 0, pulse := none }
        (s1.inc (Obj.outPlaceFaults p)).faulted 0x0503 p 0

/-- OUT_MODE written: a latched output restarts (R187). -/
def outModeWritten (s : State) (p : Nat) : State := s.setOut p { s.out p with latched := false, driving := false, misses := 0 }

/-! ### EFC and digital steering (R191–R194) -/

/-- The state that R193 gives an EFC output; `bound` tells whether a member is bound to it. -/
def efcWanted (s : State) (k : Nat) (bound : Bool) : Int :=
  if s.mode < 2 ∨ s.mode = mHalted ∨ !s.flag (Obj.efcEnable k) ∨ s.pll 5 ≠ 2 ∨ !s.interlockOpen then 0
  else if s.mode = mWarmup ∨ s.mode = mAcquire then 1
  else if s.inService && bound && s.o (Obj.efcGain k) != 0 then 2
  else 3

/-- Round to nearest with ties away from zero. -/
def roundAway (a b : Int) : Int :=
  let m := (2 * a.natAbs + b.natAbs) / (2 * b.natAbs)
  if (a < 0) = (b < 0) then (m : Int) else -(m : Int)

/-- An EFC output at a boundary: its state and code (R192, R193).  `word` is the steering word of the member bound
to it. -/
def efcBoundary (s : State) (k : Nat) (word : Option Int) : State :=
  let was := s.o (Obj.efcState k)
  let st := s.efcWanted k word.isSome
  let s1 := s.setO (Obj.efcState k) st
  let old := s.o (Obj.efcCode k)
  let slew := s.o (Obj.efcSlew k)
  let toward (want : Int) : Int := clampI (old - slew) (old + slew) want
  if st = 0 then s1.setF (Obj.efcLimited k) false
  else if was = 0 then
    -- on leaving HIGHZ the output starts at EFC_INIT_CODE, except into REPLAY's HOLD
    (if s.mode = mReplay then s1 else s1.setO (Obj.efcCode k) (s.o (Obj.efcInitCode k)))
  else if st = 1 then s1.setO (Obj.efcCode k) (toward (s.o (Obj.efcInitCode k)))
  else if st = 2 then
    let b := s.blob (Obj.efcMinmax k)
    let lo : Int := fieldN b 0 4
    let hi : Int := fieldN b 4 4
    let raw := s.o (Obj.efcCentre k) + roundAway (word.getD 0) (s.o (Obj.efcGain k))
    let c := clampI lo hi raw
    let code := toward c
    let limited := c != raw || code != c
    let s2 := (s1.setO (Obj.efcCode k) code).setF (Obj.efcLimited k) limited
    if limited then s2.inc (Obj.efcLimitTicks k) else s2
  else s1.setF (Obj.efcLimited k) false

/-- A digital steering channel. -/
def dst (s : State) (k : Nat) : Dsteer := Sparse.get (fun _ => {}) s.synth.ds k

/-- The state with a digital steering channel written. -/
def setDst (s : State) (k : Nat) (v : Dsteer) : State :=
  { s with synth := { s.synth with ds := Sparse.put (fun _ => {}) s.synth.ds k v } }

/-- The octets that carry a steering value (R194). -/
def steerOctets (cfg : Octets) (v : Int) : Octets :=
  let n := octetAt cfg 3
  let f := octetAt cfg 8
  let raw := if bitOf f 0 then v + 2 ^ (8 * n - 1) else v
  let b := toBEInt n raw
  octets cfg 4 (octetAt cfg 2) ++ (if bitOf f 1 then b.reverse else b)

/-- The steering mode of a channel: 0 no write, 1 CENTRE once, 2 steer (R193, R194). -/
def steerMode (s : State) (bound : Bool) : Nat :=
  if s.mode < 2 ∨ s.mode = mHalted ∨ !s.interlockOpen then 0
  else if s.mode = mWarmup ∨ s.mode = mAcquire then 1
  else if s.inService && bound then 2 else 0

/-- A steering write failed: counted, and after 8 in a row the channel is FAILED with its fault (R194). -/
def steerFail (s : State) (k : Nat) : State :=
  let v := s.dst k
  let s1 := (s.setDst k { v with fails := v.fails + 1, busy := false, inited := v.inited && !v.initTry, initTry := false }).inc (Obj.dsteerFails k)
  if v.fails + 1 = 8 then (s1.setO (Obj.dsteerState k) 2).faulted 0x0504 k 0 else s1

/-- A steering write succeeded. -/
def steerDone (s : State) (k : Nat) : State :=
  s.setDst k { s.dst k with fails := 0, busy := false, started := true, value := (s.dst k).want }

/-! ### SyncE (R195, R196) -/

/-- The SyncE input selected among the QUALIFIED lanes (R196); `quality` is a lane's rank, best lowest, 100 and above for one
that is not to be selected while QL ranking is on (R266). -/
def synceSelect (s : State) (quality : Nat → Nat) : Nat :=
  let on := s.flag Obj.synceQlEnable
  let q := (List.range 16).filter fun n => s.refSt (0x60 + n) == 4 && !(on && decide (100 ≤ quality n))
  let cur := s.n Obj.synceSelCurrent
  let ql (n : Nat) : Nat := if on then quality n else 0
  let best := minOf (q.map ql)
  let top := q.filter fun n => ql n == best
  if top.any (fun n => 0x60 + n == cur) then cur
  else
    let key (n : Nat) : Nat := s.n (Obj.refPriority (0x60 + n)) * 16 + n
    match (top.foldl (fun (b : Option Nat) n => match b with
      | none => some n
      | some m => if key n < key m then some n else some m) none) with
    | some n => 0x60 + n
    | none => 0
where
  /-- The smallest of a list (0 for none). -/
  minOf : List Nat → Nat
    | [] => 0
    | x :: t => t.foldl min x

/-- The mean rate of the NCO over its last 8,192 ticks, which it holds when its source is lost (R196). -/
def ncoMean (s : State) : Int :=
  if s.synth.ncoHist.length = 0 then s.synth.ncoRate else sumI s.synth.ncoHist / (s.synth.ncoHist.length : Nat)

/-- The rate to which the EEC filter leads the NCO while it follows receive clock `sel` (R196). -/
def synceTarget (s : State) (sel : Nat) (rate : Int) : Int :=
  Config.eecFilter (s.n (Obj.refBw sel)) s.synth.ncoRate (match (s.port (68 + (sel - 0x60))).lastValid with | some f => f.y | none => 0) rate

/-- The SyncE input and the NCO rate at a boundary (R195, R196). (Log entry 44, DESIGN CHOICE) -/
def synceBoundary (s : State) (quality : Nat → Nat) : State :=
  let follow := s.o Obj.synceTxSource = 1
  let sel := if follow then s.synceSelect quality else 0
  let was := s.n Obj.synceSelCurrent
  let s1 := if sel = was then s else s.setN Obj.synceSelCurrent sel
  let rate := match s.sys.history with | h :: _ => h.rateY | [] => 0
  let lost := follow && sel == 0 && was != 0
  let hold := if sel ≠ 0 then none else if lost then some s.ncoMean else s.synth.ncoHold
  let target := if !follow then rate else if sel ≠ 0 then s.synceTarget sel rate else hold.getD s.synth.ncoRate
  -- 1e-8 per second is 22,517,998 units of 2^-64 per tick
  let slew := s.synth.ncoSlew || (follow && sel != 0 && was == 0)
  let next := if slew then clampI (s.synth.ncoRate - 22517998) (s.synth.ncoRate + 22517998) target else target
  { s1 with synth := { s1.synth with
    ncoRate := next, ncoYethal := rate, ncoSlew := slew && decide (next ≠ target), ncoHold := hold
    ncoHist := if follow then (next :: s1.synth.ncoHist).take 8192 else [] } }

end State

/-! ### Commands -/

/-- A gate ends: its record judges the class F reference that the port monitors, and the input of APLL-T follows (R107, R172, R177). -/
def State.gateClosed (s : State) (p : Nat) : State :=
  let s1 := s.endGate p
  let id := if p < 64 then 0x80 + p else if p < 68 then 0x40 + (p - 64) else 0x60 + (p - 68)
  match (s1.port p).ended with
  | some f => ((if bitOf f.flags 15 then s1.refGate id f.y else s1).refBoundaryF id).aplltReact
  | none => s1.refBoundaryF id

/-- GATE_END: the gate of a port ends at the current boundary, and a class F reference on its lane is judged
(R107–R110, R171, R172, R177). -/
def execGateEnd (port : Fin 84) (s : State) : Host.Outcome State Fault Refusal :=
  if s.running && s.gateDue port then
    .next (s.gateClosed port)
  else .next s

/-- An activity window of a class F reference judged, and the next one begun (R170, R172). -/
def State.activityEnd (s : State) (id : Nat) : State :=
  let p := monitorPort id
  let w := s.activityTicks id
  let r := s.ref id
  let count := (s.portEdges p + 2 ^ 48 - r.winCount) % 2 ^ 48
  let num := 2 ^ 20 * 1000000000 * w
  let den := s.portPeriod p * 8192
  let active := decide (num / den - 1 ≤ count) && decide (count ≤ ceilDiv num den + 1)
  let s1 := s.setRef id { r with winStart := s.age, winCount := s.portEdges p }
  if !active then (if s.refSt id = 1 then s1 else s1.refEnter id 1).aplltReact
  else if s.refSt id = 1 then (s1.setRef id { s1.ref id with acceptStart := s.age, acceptGate := false }).refEnter id 2
  else s1.refBoundaryF id

/-- CLASS_F_ACTIVITY_WINDOW: an activity window of a class F reference ends; the edges its monitor counted in it
decide (R170, R172, R177). -/
def execClassFActivityWindow (id : Fin 256) (s : State) : Host.Outcome State Fault Refusal :=
  if s.running && classF id && decide (1 ≤ s.refSt id) && decide ((s.ref id).winStart + s.activityTicks id ≤ s.age) then .next (s.activityEnd id)
  else .next s

/-- APLLT_MISSING_EDGE: no reference edge for 2 periods; HOLD with a candidate, else BYPASS (R179, R184). -/
def execAplltMissingEdge (s : State) : Host.Outcome State Fault Refusal :=
  if s.pll 0 == 2 then
    let cur := s.n Obj.aplltSource
    match s.aplltCandidates.find? fun n => n != cur with
    | some n =>
      let s1 := s.setO (Obj.apllState 0) 4
      .next { s1 with synth := { s1.synth with pendingInput := some n, planeMoved := true } }
    | none => .next (s.pllBypass 0)
  else if s.pll 0 == 4 || s.pll 0 == 5 then .next (s.pllBypass 0)
  else .next s

/-- The reference and feedback dividers of APLL-T for a reference of `khz` kHz; it accepts no other (R19). -/
def aplltDividers (khz : Nat) : Option (Nat × Nat) := if khz = 10000 then some (1, 256) else if khz = 100000 then some (5, 128) else none

/-- The reference period at the phase detector in 2^-20 ns: that of 2.56 GHz divided by the feedback divider (R19, R179). -/
def pfdPeriod (d : Nat × Nat) : Nat := d.2 * 409600

/-- APLL-T connected to its new input, with the divider pair of that input (R177, R180). -/
def State.inputConnected (s : State) (n plane : Nat) (d : Nat × Nat) : State :=
  let s1 := s.connect n plane (pfdPeriod d)
  { s1 with synth := { s1.synth with dividers := d } }

/-- APLLT_INPUT_CONNECT: the selector connects the new input, of `khz` kHz, at plane time `plane` (R19, R179, R180). -/
def execAplltInputConnect (plane khz : Nat) (s : State) : Host.Outcome State Fault Refusal :=
  match s.synth.pendingInput, aplltDividers khz with
  | some n, some d =>
    if s.pll 0 = 4 ∨ s.pll 0 = 5 then
      .next (s.inputConnected n plane d)
    else .next s
  | _, _ => .next s

/-- APLL_LOCK: the lock criterion is met; APLL-T's reference has a frequency that its dividers accept (R19, R184). -/
def execApllLock (x : PllLock) (s : State) : Host.Outcome State Fault Refusal :=
  if x.pll.val == 0 && (aplltDividers x.khz).isNone then .next s
  else if s.pll x.pll == 1 then
    let s1 := (s.setO (Obj.apllState x.pll) 2).clockBack (.apll x.pll)
    match x.pll.val with
    | 0 => .next (({ s1 with sys := { s1.sys with sinceLock := some 0 }
                             synth := { s1.synth with dividers := (aplltDividers x.khz).getD (1, 256) } }.pllStart 4).pllStart 5)
    | 2 => .next { s1 with host := { s1.host with mgmtUp := true } }
    | 5 => .next ((s1.pllStart 2).pllStart 3)
    | _ => .next s1
  else if x.pll.val == 0 && s.pll 0 == 5 && s.synth.pendingInput.isNone then
    let s1 := s.setO (Obj.apllState 0) 2
    .next { s1 with synth := { s1.synth with step := s1.synth.step.map fun p => { p with relocked := true } } }
  else .next s

/-- APLL_LOSS_OF_LOCK: the phase error exceeds ±4 ns for 4 cycles, or the reference is lost (R184). -/
def execApllLossOfLock (k : Fin 6) (s : State) : Host.Outcome State Fault Refusal :=
  if s.pll k == 2 then .next (s.pllBypass k) else .next s

/-- APLL_ACQUIRE_TIMEOUT: not locked within 10 ms (R184). -/
def execApllAcquireTimeout (k : Fin 6) (s : State) : Host.Outcome State Fault Refusal :=
  if s.pll k == 1 then .next (s.pllBypass k) else .next s

/-- APLLT_RELOCK_TIMEOUT: APLL-T not relocked within 200 µs of a switch (R179, R184). -/
def execAplltRelockTimeout (s : State) : Host.Outcome State Fault Refusal :=
  if s.pll 0 == 4 || s.pll 0 == 5 then .next (s.pllBypass 0) else .next s

/-- APLL_BYPASS_RETRY: after 100 ms in BYPASS with the reference present (R184). -/
def execApllBypassRetry (k : Fin 6) (s : State) : Host.Outcome State Fault Refusal :=
  let present := match k.val with
    | 0 => s.aplltAcquire.isSome
    | 1 => bitOf (s.n Obj.cdStatus) 0
    | 2 => s.pll 5 == 2
    | 3 => s.pll 5 == 2
    | _ => s.pll 0 == 2 || s.pll 0 == 4 || s.pll 0 == 5
  if s.pll k == 3 && present then
    let s1 := s.setO (Obj.apllState k) 1
    .next (if k.val = 0 then s1.setN Obj.aplltSource (s.aplltAcquire.getD 255) else s1)
  else .next s

/-- The new input's monitor has no fit of the 64 ticks after a switch: the step stays unmeasured (R182, R198). -/
def State.stepLost (s : State) : State :=
  let s1 := s.stepUnmeasured
  { s1 with synth := { s1.synth with step := none } }

/-- STEP_MEASURE: the fit of the 64 ticks after a switch gives the measured step; its difference from the predicted one is slewed out
(R180, R182). -/
def execStepMeasure (s : State) : Host.Outcome State Fault Refusal :=
  match s.synth.step with
  | some p =>
    if s.running ∧ p.phase = .predicted ∧ p.applied + 64 ≤ s.age then
      match p.predicted, (s.port (64 + p.input)).sliding with
      | some (sp, y), some (f, at_) =>
        if s.age ≤ at_ + 1 then
          let sm := sp + State.wrapPeriod (pfdPeriod s.synth.dividers) (s.lateness f (64 + p.input) p.at_ - p.before - sp)
          let q : PlaneStep := { p with phase := .slewing, left := sm - sp, sigmaAfter := State.fitSigma f }
          -- the plane's rate changed as the input's rate against it did: (1 + y before) / (1 + y after)
          let one : Int := 18446744073709551616
          let rate := roundUpHalf ((one + y) * one) (one + f.y) - one
          let vy := State.fitFreqVar f (s.portPeriod (64 + p.input))
          .next { s.setO Obj.stepMeasured sm with
            synth := { s.synth with step := some q }
            canopy := { s.canopy with
              planeStep := some ⟨s.age, s.planeReading (p.at_ + sp), sm, rate, State.stepUm q, vy⟩
              switched := some (s.age + 1, (sm - sp) * 4096, rate - y) } }
        else .next s.stepLost
      | some _, none => .next s.stepLost
      -- the switch found no prediction and was counted then (R182)
      | none, _ => .next { s with synth := { s.synth with step := none } }
    else .next s
  | none => .next s

/-- OUTPUT_EDGE: a driving output drives edge `n` at its placed target; `measured` is the plane time the port's
stampers give it (R186–R188). -/
def execOutputEdge (port : Fin 64) (n : Nat) (measured : Int) (s : State) : Host.Outcome State Fault Refusal :=
  let v := s.out port
  if v.driving && s.outAllowed port && decide (v.startAt ≤ s.edgeTarget port n * 4096) && s.edgeFree port n then
    .next (s.driveEdge port n measured)
  else .next s

end Sys2Proof.Machine
end

