-- ==== Sys2Proof/Machine/Canopy.lean ====
section
/-!
DEFINITION. Canopy: the member models, the servo of every tick, the update of every second in its slots, the weights,
the member states, steering, and holdover (R199–R225), with TIMESCALE_STEP, TIMESCALE_STEP_TO_REF and
HOLD_MAX_EXPIRE.  The slots and the servo run in W1_SOLVE.
-/

namespace Sys2Proof.Machine

/-! ### Declarations (R202) -/

/-- A member's declaration. -/
structure Decl where
  ref : Nat
  model : Nat
  kind : Nat
  ch : Nat
  lat : Nat
  q1 : Nat
  q2 : Nat
  q3 : Nat
  deriving DecidableEq, Repr

/-- The fields of ENS_MEMBER_CFG; Q3 is ignored for MODEL 1. -/
def declOf (b : Octets) : Decl :=
  ⟨octetAt b 0, octetAt b 1, octetAt b 2, octetAt b 3, fieldN b 4 2, fieldN b 8 8, fieldN b 16 8,
    if octetAt b 1 = 1 then 0 else fieldN b 24 8⟩

/-- A BLOB that holds zeros alone. -/
def allZero (b : Octets) : Bool := b.all fun x => x == 0

/-! ### The model of the states (R200, R201, R203, R210, R221)

Products and sums are exact rationals; every store is rounded to nearest with ties up and saturates. -/

/-- Units of a state in one second, one, or one per second: x, y, d. -/
def stateScale (i : Nat) : Rat :=
  if i % 3 = 0 then 4294967296000000000 else if i % 3 = 1 then ((2 ^ 64 : Int) : Rat) else ((2 ^ 96 : Int) : Rat)

/-- Units of a state's factor in the covariance. -/
def covScale (i : Nat) : Rat :=
  if i % 3 = 0 then 4294967296000000000 else if i % 3 = 1 then ((2 ^ 80 : Int) : Rat) else ((2 ^ 112 : Int) : Rat)

/-- A value kept in `w` bits of two's complement, and whether it saturated. -/
def saturate (w : Nat) (v : Int) : Int × Bool :=
  let c := clampI (-(2 ^ (w - 1) : Int)) (2 ^ (w - 1) - 1) v
  (c, c != v)

/-- A table entry with 0 as the default. -/
def tget (t : Tbl Int) (k : Nat) : Int := Sparse.get (fun _ => 0) t k

/-- A table entry written, with 0 as the default. -/
def tput (t : Tbl Int) (k : Nat) (v : Int) : Tbl Int := Sparse.put (fun _ => 0) t k v

/-- The place of an element of P. -/
def covKey (i j : Nat) : Nat := if i ≤ j then 51 * i + j else 51 * j + i

namespace EnsModel

/-- A state in seconds, one, or one per second. -/
def xr (m : EnsModel) (i : Nat) : Rat := (tget m.x i : Rat) / stateScale i

/-- An element of P in the same units. -/
def pr (m : EnsModel) (i j : Nat) : Rat := (tget m.p (covKey i j) : Rat) / (covScale i * covScale j)

/-- A state stored. -/
def setX (m : EnsModel) (i : Nat) (r : Rat) : EnsModel :=
  let (v, sat) := saturate 64 (ratRound (r * stateScale i))
  { m with x := tput m.x i v, sat := if sat then m.sat ++ [i / 3] else m.sat }

/-- An element of P stored; a diagonal element below 0 is stored as 0. -/
def setP (m : EnsModel) (i j : Nat) (r : Rat) : EnsModel :=
  let raw := ratRound (r * covScale i * covScale j)
  let (v, sat) := saturate 128 (if i = j ∧ raw < 0 then 0 else raw)
  { m with p := tput m.p (covKey i j) v, sat := if sat then m.sat ++ [i / 3, j / 3] else m.sat }

/-- Zeros in every state and element of a clock. -/
def clear (m : EnsModel) (k : Nat) : EnsModel :=
  let own (i : Nat) : Bool := i / 3 == k
  { m with x := m.x.filter (fun e => !own e.1), p := m.p.filter fun e => !(own (e.1 / 51) || own (e.1 % 51)) }

/-- A list of elements of P stored in ascending order of their index. -/
def setPs (m : EnsModel) (l : List ((Nat × Nat) × Rat)) : EnsModel := l.foldl (fun m e => m.setP e.1.1 e.1.2 e.2) m

/-- The propagation of one clock over τ seconds with its process noise (R203); `live` lists the states in use.
(Log entry 49, DEDUCED) -/
def propagate (m : EnsModel) (live : List Nat) (k tau q1 q2 q3 : Nat) : EnsModel :=
  let t : Rat := (tau : Int)
  let a1 : Rat := (q1 : Rat) / ((2 ^ 96 : Nat) : Rat)
  let a2 : Rat := (q2 : Rat) / ((2 ^ 136 : Nat) : Rat)
  let a3 : Rat := (q3 : Rat) / ((2 ^ 176 : Nat) : Rat)
  let b := 3 * k
  -- row a of F as coefficients of x, y, d
  let f (a c : Nat) : Rat := if a = c then 1 else if a = 0 ∧ c = 1 then t else if a = 0 ∧ c = 2 then t * t / 2
    else if a = 1 ∧ c = 2 then t else 0
  let q (a c : Nat) : Rat := match a + c, a * c with
    | 0, _ => a1 * t + a2 * t * t * t / 3 + a3 * t * t * t * t * t / 20
    | 1, _ => a2 * t * t / 2 + a3 * t * t * t * t / 8
    | 2, 0 => a3 * t * t * t / 6
    | 2, _ => a2 * t + a3 * t * t * t / 3
    | 3, _ => a3 * t * t / 2
    | _, _ => a3 * t
  let three : List Nat := [0, 1, 2]
  let fx (a : Nat) (g : Nat → Rat) : Rat := three.foldl (fun acc c => acc + f a c * g c) 0
  let own := (three.map fun a => (three.filter fun c => decide (a ≤ c)).map fun c =>
    ((b + a, b + c), fx a (fun u => fx c (fun v => m.pr (b + u) (b + v))) + q a c)).flatten
  let cross := (three.map fun a => (live.filter fun j => j / 3 != k).map fun j =>
    ((b + a, j), fx a (fun u => m.pr (b + u) j))).flatten
  let m1 := three.foldl (fun acc a => acc.setX (b + a) (fx a (fun u => m.xr (b + u)))) m
  m1.setPs (cross ++ own)

/-- H P Hᵀ + R of a measurement, for H as a list of states with their signs, and the columns P Hᵀ.
(Log entry 48, DESIGN CHOICE) -/
def gain (m : EnsModel) (h : List (Nat × Int)) (r : Rat) (i : Nat) : Rat × Rat :=
  let col (j : Nat) : Rat := h.foldl (fun a e => a + (e.2 : Rat) * m.pr j e.1) 0
  (col i, h.foldl (fun a e => a + (e.2 : Rat) * col e.1) r)

/-- The innovation of a measurement. (Log entry 48, DESIGN CHOICE) -/
def innovation (m : EnsModel) (h : List (Nat × Int)) (z : Rat) : Rat :=
  z - h.foldl (fun a e => a + (e.2 : Rat) * m.xr e.1) 0

/-- An element of K: the quotient rounded to nearest with ties up, in the format that Config gives it (R221). -/
def gainOf (col sv : Rat) (i : Nat) : Rat :=
  let unit : Rat := ((2 ^ Config.gainScale i : Nat) : Rat)
  (ratRound (col / sv * unit) : Rat) / unit

/-- The scalar update of R210: x̂ + K ν and (I − K H) P (I − K H)ᵀ + K R Kᵀ, written out for a measurement of one row.
(Log entry 48, DESIGN CHOICE) -/
def update (m : EnsModel) (live : List Nat) (h : List (Nat × Int)) (z r : Rat) : EnsModel :=
  let sv := (m.gain h r 0).2
  let nu := m.innovation h z
  let cols := live.map fun i => let g := (m.gain h r i).1; (i, g, gainOf g sv i)
  let cells := (cols.map fun a => (cols.filter fun b => decide (a.1 ≤ b.1)).map fun b =>
    ((a.1, b.1), m.pr a.1 b.1 - a.2.2 * b.2.1 - b.2.2 * a.2.1 + a.2.2 * b.2.2 * sv)).flatten
  let m1 := cols.foldl (fun acc a => acc.setX a.1 (m.xr a.1 + a.2.2 * nu)) m
  m1.setPs cells

end EnsModel

/-- A member's measurements, taken at a reading of the plane, after a step of the plane: the step, the change of its rate and its reading
(R181, R204). -/
def Member.switched (v : Member) (reading : Int) (q : Int × Int × Int) : Member :=
  let d := roundUpHalf (q.2.1 * (q.2.2 - reading)) 18446744073709551616 - q.1
  { v with z := v.z + d, fx := v.fx + d, fy := v.fy - q.2.1 }

/-- The seconds of plane time from a holdover's epoch to a reading. -/
def Hold.since (h : Hold) (r : Int) : Rat := ((r - h.at_ : Int) : Rat) / 4294967296000000000

/-- Σ w (x̂ − z) of a holdover at a reading of the plane, 2^-64 ns (R215). -/
def Hold.estimate (h : Hold) (r : Int) : Rat :=
  let t := h.since r
  (h.x : Rat) + (h.y : Rat) * t * 1000000000 / 4294967296 + (h.d : Rat) * t * t * 1000000000 / ((2 ^ 65 : Int) : Rat)

/-- A holdover carried through a step of the plane that ends at a reading (R181, R225). -/
def Hold.switched (h : Hold) (now shift rate : Int) : Hold :=
  let r := now - shift
  { h with
    x := ratRound (h.estimate r) + shift * 4294967296, y := h.y + ratRound ((h.d : Rat) * h.since r / 4294967296) + rate * 4294967296
    at_ := now }

/-- N(τ) of a model in s² (R203). -/
def phaseGrowth (d : Decl) (t : Rat) : Rat :=
  (d.q1 : Rat) / ((2 ^ 96 : Nat) : Rat) * t + (d.q2 : Rat) / ((2 ^ 136 : Nat) : Rat) * t * t * t / 3 +
    (d.q3 : Rat) / ((2 ^ 176 : Nat) : Rat) * t * t * t * t * t / 20

/-- The smallest whole number of ps whose square is not below k² × a variance in s²; k in 2^-8. -/
def rootPs (k : Nat) (v : Rat) : Nat :=
  isqrtUp (ratCeil ((k : Rat) * (k : Rat) / 65536 * v * 1000000000000000000000000)).toNat

/-- n₁ − √a₁ is below n₂ − √a₂. -/
def surdLt (x y : Rat × Rat) : Bool :=
  -- with d = n₁ − n₂: d + √a₂ < √a₁
  let d := x.1 - y.1
  if decide (d < 0) && decide (y.2 < d * d) then true
  else
    -- (d + √a₂)² < a₁, that is 2 d √a₂ < t
    let t := x.2 - y.2 - d * d
    if d < 0 then decide (0 < t) || decide (t * t < 4 * d * d * y.2) else decide (0 < t) && decide (4 * d * d * y.2 < t * t)

/-- ⌈n − √a⌉, 0 at least. -/
def surdCeil (n a : Rat) : Nat :=
  let low := ratCeil n - (Nat.sqrt (ratFloor a).toNat : Int) - 1
  let r := n - (low : Rat)
  (if r * r ≤ a then low else low + 1).toNat

/-! ### Weights (R212) -/

/-- The redistribution of the excess over the cap, at most `n` times: members with raw weight, weight and whether
capped. -/
def capWeights (cap : Rat) : Nat → List (Nat × Rat × Rat × Bool) → List (Nat × Rat × Rat × Bool)
  | 0, l => l
  | n + 1, l =>
    let above (e : Nat × Rat × Rat × Bool) : Bool := !e.2.2.2 && decide (cap < e.2.2.1)
    if l.all (fun e => !above e) then l
    else
      let excess := sumR ((l.filter above).map fun e => e.2.2.1 - cap)
      let l1 := l.map fun e => if above e then (e.1, e.2.1, cap, true) else e
      let free := sumR ((l1.filter fun e => !e.2.2.2).map fun e => e.2.1)
      if free = 0 then l1
      else capWeights cap n (l1.map fun e => if e.2.2.2 then e else (e.1, e.2.1, e.2.2.1 + excess * e.2.1 / free, false))

/-- The U32 weights of ACTIVE members, given with their declarations (R212); a member whose model gives N(τ_w) = 0 has no
place here, since Q1 is not 0. -/
def weightsOf (tau cap : Nat) (active : List (Nat × Decl)) : List (Nat × Nat) :=
  let raw := active.map fun e => (e.1, 1 / phaseGrowth e.2 (tau : Int))
  let total := sumR (raw.map fun e => e.2)
  let norm := raw.map fun e => (e.1, e.2, e.2 / total, false)
  let limit : Rat := if cap = 0xFFFFFFFF then 1 else (cap : Rat) / 4294967296
  let fin := if 3 ≤ active.length then capWeights limit 16 norm else norm
  let w := fin.map fun e => (e.1, (e.2.2.1 * 4294967296).floor.toNat)
  let rest := 4294967296 - sumN (w.map fun e => e.2)
  let best := w.foldl (fun (b : Option (Nat × Nat)) e => match b with
    | none => some e
    | some x => if x.2 < e.2 then some e else some x) none
  w.map fun e => if best.map (fun b => b.1) = some e.1 then (e.1, e.2 + rest) else e

namespace State

/-- A member. (Log entry 49, DEDUCED) -/
def member (s : State) (m : Nat) : Member := Sparse.get (fun _ => {}) s.canopy.members m

/-- The state with a member written. -/
def setMember (s : State) (m : Nat) (v : Member) : State :=
  { s with canopy := { s.canopy with members := Sparse.put (fun _ => {}) s.canopy.members m v } }

/-- ENS_MEMBER_STATE of a member. -/
def ensSt (s : State) (m : Nat) : Nat := s.n (Obj.ensMemberState m)

/-- The declaration in force of a member. (Log entry 51, DEDUCED) -/
def decl (s : State) (m : Nat) : Decl := declOf (s.member m).cfg

/-- Every member number. -/
def memberIds : List Nat := List.range 16

/-- The declared members. -/
def declared (s : State) : List Nat := memberIds.filter fun m => s.ensSt m != 0

/-- The ACTIVE members. -/
def activeMembers (s : State) : List Nat := memberIds.filter fun m => s.ensSt m == 3

/-- The states in use: the plane's and those of the declared members, without the drift of MODEL 1 (R200). -/
def liveStates (s : State) : List Nat :=
  [0, 1, 2] ++ (s.declared.map fun m => [3 * m + 3, 3 * m + 4] ++ (if (s.decl m).model = 1 then [] else [3 * m + 5])).flatten

/-- A member whose phase is anchored predicts (R211, R213). -/
def predicts (s : State) (m : Nat) : Bool :=
  s.ensSt m == 3 && decide (tget s.canopy.model.p (covKey (3 * m + 3) (3 * m + 3)) < 2 ^ 126)

/-- An ACTIVE member with a finite prediction exists (transition 7 of R27). -/
def canHold (s : State) : Bool := memberIds.any s.predicts

/-- A member's timing port, if it has one, is configured as its declaration requires (R202). -/
def bindingOk (s : State) (ref : Nat) : Bool :=
  decide (ref < 0x80) || (s.flag (Obj.tpRegEnable (ref - 0x80)) && s.n (Obj.tpGateLog2 (ref - 0x80)) == 13)

/-- The declaration can be refused with 0x0304, or 0x0306 in HOLDOVER (R202): the code, if any.  A non-zero declaration
of MODEL 0 declares nothing and is taken as undeclared. -/
def memberCfgRefused (s : State) (m : Nat) (b : Octets) : Option Nat :=
  let d := declOf b
  let others := memberIds.filter fun k => k != m
  let uses (f : Decl → Bool) (b : Octets) : Bool := !allZero b && f (declOf b)
  let other (f : Decl → Bool) : Bool := others.any fun k =>
    uses f (s.blob (Obj.ensMemberCfg k)) || ((s.member k).held && uses f (s.member k).cfg)
  if s.ensSt m = 3 ∧ s.mode = mHoldover then some 0x0306
  else if allZero b then none
  else if !((decide (0x40 ≤ d.ref ∧ d.ref ≤ 0x43)) || (decide (0x80 ≤ d.ref ∧ d.ref ≤ 0xBF))) then some 0x0304
  else if other (fun x => x.ref == d.ref) then some 0x0304
  else if !s.bindingOk d.ref then some 0x0304
  else if d.kind ≠ 0 ∧ other (fun x => x.kind == d.kind && x.ch == d.ch) = true then some 0x0304
  else if d.q1 = 0 ∨ 5 < d.model ∨ 2 < d.kind ∨ 3 < d.ch then some 0x0304
  else none

/-- A declaration comes into force: UNDECLARED with zeros, else WAITING (R202, R213). (Log entry 51, DEDUCED) -/
def declare (s : State) (m : Nat) (b : Octets) : State :=
  let off := allZero b || (declOf b).model == 0
  let old := s.member m
  let s1 := { s with canopy := { s.canopy with model := s.canopy.model.clear (m + 1) } }
  let s2 := s1.setMember m (if off then {} else { cfg := b, missed := old.missed, applied := old.applied })
  (((s2.setO (Obj.ensMemberState m) (if off then 0 else 1)).setO (Obj.ensMemberAdmitElapsed m) 0).setN Obj.ensActiveCount
    (memberIds.filter fun k => k != m && s.ensSt k == 3).length)

/-- A written declaration at its next-second boundary; held while the member is ACTIVE in HOLDOVER (R202).
(Log entry 51, DEDUCED) -/
def memberCfgWritten (s : State) (m : Nat) : State :=
  if s.ensSt m = 3 ∧ s.mode = mHoldover then s.setMember m { s.member m with held := true }
  else s.declare m (s.blob (Obj.ensMemberCfg m))

/-! ### The plane's reading (R199, R204) -/

/-- The plane's reading at a device time, by the state in force for its tick. -/
def readingAt (s : State) (t : Int) : Int :=
  match (match s.sys.history.find? (fun h => decide (h.time ≤ t)) with | some h => some h | none => s.sys.history.getLast?) with
  | some h => h.plane * 4096 + roundUpHalf ((t - h.time) * 18446744073709551616) (18446744073709551616 + h.rateY) + s.canopy.origin
  | none => t + s.canopy.origin

/-- The model of the plane: that of the member on the APLL-T input, else ENS_PLANE_MODEL of the input (R203). -/
def planeDecl (s : State) : Decl :=
  let n := s.canopy.planeInput
  let onInput := s.declared.find? fun m => (s.decl m).ref == 0x40 + n
  match onInput with
  | some m => s.decl m
  | none =>
    let b := s.blob (Obj.ensPlaneModel (if n < 4 then n else 0))
    ⟨0, 5, 0, 0, 0, fieldN b 0 8, fieldN b 8 8, fieldN b 16 8⟩

/-! ### The servo (R205–R208) -/

/-- REF_BW of the loop in use, in µHz: that of the reference, or ENS_HOLD_BW for E. -/
def loopBw (s : State) (loop : Nat) : Nat := if loop = 0x100 then s.n Obj.ensHoldBw else s.n (Obj.refBw loop)

/-- K_P in 2^-96 per second (R205). -/
def servoKp (bw : Nat) : Int := roundUpHalf (1414 * 2 * fpPi * bw) (1000 * 2058000)

/-- K_I in 2^-96 per second squared (R205). -/
def servoKi (bw : Nat) : Int := roundUpHalf (4 * fpPi * fpPi * bw * bw) (2058000 * 2058000 * 2 ^ 96)

/-- A state of the plane saturated: its fault, and an unbounded bound (R221). -/
def planeSaturated (s : State) : State :=
  if s.canopy.planeSat then s
  else ({ s with canopy := { s.canopy with planeSat := true } }.faulted 0x0502 0 0).forceUnbounded

/-- One update of the servo on an error `e`, of the loop `loop` (R205). -/
def servo (s : State) (loop : Nat) (e : Int) : State :=
  let c := s.canopy
  let dt : Int := if c.loop = loop then (match c.lastObs with | some a => ((s.age - a : Nat) : Int) | none => 0) else 0
  let bw := s.loopBw loop
  let kp0 := servoKp bw
  let ki0 := servoKi bw
  -- 0.5 / Δ and 0.0625 / Δ² with Δ = dt / 8,192 s, in 2^-96
  let kp := if dt ≤ 0 then kp0 else min kp0 (roundUpHalf (4096 * 2 ^ 96) dt)
  let ki := if dt ≤ 0 then ki0 else min ki0 (roundUpHalf (4194304 * 2 ^ 96) (dt * dt))
  -- e in 2^-32 ns times a rate per second is e × 2^32 / 10^9 in 2^-64
  let di := roundUpHalf (ki * dt * e * 4294967296) (8192 * 1000000000 * 2 ^ 96)
  let p := roundUpHalf (kp * e * 4294967296) (1000000000 * 2 ^ 96)
  let lim := roundUpHalf (s.o Obj.servoSlewMax * 2 ^ 64) 1000000000000
  let pc := clampI (-lim) lim p
  let (i, sat1) := saturate 64 (c.integral + di)
  let (r, sat2) := saturate 64 (i + pc)
  let s1 := (s.setO Obj.servoError e).setO Obj.servoIntegrator i
  let s2 := if pc = p then s1 else s1.inc Obj.servoClampTicks
  let s3 := { s2 with canopy := { s2.canopy with integral := i, rate := r, loop := loop, lastObs := some s.age } }
  if sat1 || sat2 then s3.planeSaturated else s3

/-- σ_yP in 2^-80, rounded up, times k in 2^-8 (R208, R230). (Log entry 48, DESIGN CHOICE) -/
def kSigma (s : State) : Nat := isqrtUp (s.boundK * s.boundK * (tget s.canopy.model.p (covKey 1 1)).toNat)

/-- The unit follows its twin: joined and not the time master, it drives its servo with 0x3F (R421). -/
def follows (s : State) : Bool := s.joined && !s.twin.master

/-- The loop in use: 0x3F on a unit that follows its twin, E in HOLDOVER, else the selected reference (R205, R215, R421). -/
def loopNow (s : State) : Nat := if s.follows then 0x3F else if s.mode = mHoldover then 0x100 else s.n Obj.selTCurrent

/-- The K_P of the loop in use. -/
def kpNow (s : State) : Int := servoKp (s.loopBw s.loopNow)

/-- ⌈(|K_P e| + k σ_yP) × t⌉ in ps, for e in 2^-32 ns (as a rational) and t in seconds. -/
def ageTerm (s : State) (e : Rat) (t : Rat) : Nat :=
  let a : Rat := (s.kpNow : Rat) / ((2 ^ 96 : Int) : Rat) * ratAbs e * 1000 / 4294967296
  let b : Rat := (s.kSigma : Rat) * 1000000000000 / (256 * ((2 ^ 80 : Int) : Rat))
  (ratCeil ((a + b) * t)).toNat

/-- The coast increment published for the tick (R208). -/
def publishCoast (s : State) : State :=
  s.setN Obj.coastIncrement (min unbounded (max 1 (s.ageTerm (s.o Obj.servoError : Rat) (1 / 8192))))

/-- The plane-time length of a tick at a rate, with ρ (R206): L and the new ρ; `units` is its length of device time in
2^-32 ns. -/
def tickLength (s : State) (rate units : Int) : Int × Int :=
  let want := roundUpHalf (units * 2 ^ 64 * 2 ^ 64) (4096 * (2 ^ 64 + rate)) + s.canopy.rho
  let l := roundUpHalf want (2 ^ 64)
  (l, want - l * 2 ^ 64)

/-- Device time from the start of a tick to its end: a realignment tick ends at the first boundary of the stepped timescale at
least one tick away (R40). -/
def tickSpan (t : Int) (realign : Bool) : Int :=
  if realign then ceilDivI (t + tickUnits) tickUnits * tickUnits - t else tickUnits

/-- The length of a tick that begins, with the residue carried (R206).  Ticks counted on XO_IN have the nominal length. -/
def takeLength (s : State) (xo : Bool) (span : Int) : State × Int :=
  if xo then (s, span * 128000000000 / tickUnits)
  else
    let (l, rho) := s.tickLength s.canopy.rate span
    ({ s with canopy := { s.canopy with rho := rho } }, l)

/-- The first setting of the timescale is due: the selected reference has entered QUALIFIED (R207). -/
def firstSettingDue (s : State) : Bool :=
  !s.flag Obj.timescaleSet && s.o Obj.selTCurrent != 0 && s.sys.step.isNone && decide (s.mode = mAcquire ∨ s.mode = mWarmup)

/-- The request of the first setting: the step by the latest offset, I from the frequency fitted over the qualification
run, and the plane's states (R207). -/
def requestFirst (s : State) : State :=
  let id := s.n Obj.selTCurrent
  let r := s.ref id
  let f := r.fit
  let n : Int := f.n
  let den := n * f.stt - f.st * f.st
  let num := n * f.ste - f.st * f.se
  let slope : Rat := if den = 0 then 0 else (num : Rat) / (den : Rat)
  -- the reference's rate against plane time, through the rate in force
  let rate : Rat := (s.canopy.rate : Rat) / ((2 ^ 64 : Int) : Rat)
  let y := (1 + slope) * (1 + rate) - 1
  let (i, sat) := saturate 64 (ratRound (y * ((2 ^ 64 : Int) : Rat)))
  -- the variance of the slope: s² / Σ(t − mean)²
  let resid : Rat := (f.see : Rat) - (f.se * f.se : Int) / (n : Rat) - slope * (num : Rat) / (n : Rat)
  let var : Rat := if den = 0 ∨ n ≤ 2 then 0 else ratAbs resid / ((n - 2 : Int) : Rat) * (n : Rat) / (den : Rat)
  let u : Rat := (s.n (Obj.refRandU id) : Rat) / 256000000000000
  let d := s.planeDecl
  let m0 := s.canopy.model.clear 0
  let m1 := (((m0.setX 1 (-y)).setP 1 1 var).setP 0 0 (u * u)).setP 2 2 ((d.q3 : Rat) / ((2 ^ 176 : Nat) : Rat))
  let s1 : State := { s with
    sys := { s.sys with step := some ⟨r.lastE, false⟩ }
    canopy := { s.canopy with model := if s.follows then s.canopy.model else { m1 with sat := [] }, integral := i, lastObs := none, work := none
                              planeInput := s.n Obj.aplltSource, planeSat := false } }
  if sat || (!s.follows && !m1.sat.isEmpty) then s1.planeSaturated else s1

/-- The selected reference's observations of the tick, taken by the servo in TRACK, and in ACQUIRE once the timescale is
set; and e_hold in HOLDOVER (R205, R215). -/
def holdError (s : State) : Int :=
  match s.canopy.hold with
  | none => 0
  | some h =>
    let r := s.planeReading s.planeNow
    r - ratRound (h.estimate r / 4294967296) + h.c - s.timeNow

/-- Holdover's first observation of the reference: the measured error, counted beyond H plus the component (R220). -/
def recordReturn (s : State) (e : Int) : State :=
  match s.canopy.returning with
  | none => s
  | some h =>
    let ps := roundAway (e * 1000) 4294967296
    let lim := boundAdd h (s.n (Obj.refBoundPs (s.n Obj.selTCurrent)))
    let s1 := { s with canopy := { s.canopy with returning := none } }.setO Obj.ensHoldError ps
    if lim ≠ unbounded ∧ lim < ps.natAbs then s1.inc Obj.ensHoldExceeded else s1

/-- The servo of one tick; a change of selection starts a new loop (R205, R215, R421). (Log entry 47, DEDUCED) -/
def servoTick (s0 : State) : State :=
  let anew := decide (s0.n Obj.selTCurrent ≠ s0.canopy.selSeen)
  let s : State := { s0 with canopy := { s0.canopy with
    selSeen := s0.n Obj.selTCurrent, lastObs := if anew && s0.canopy.loop != 0x100 then none else s0.canopy.lastObs } }
  let set := decide (s.mode = mTrack) || (decide (s.mode = mAcquire) && s.flag Obj.timescaleSet)
  if s.follows then
    match (s.synth.ingested.filter fun x => x.1 == 0x3F).getLast? with
    | some x =>
      if set || s.mode == mHoldover then
        (if s.o Obj.selTCurrent = 0x3F then s.recordReturn x.2.1 else s).servo 0x3F x.2.1
      else s
    | none => s
  else if s.mode = mHoldover then
    let e := s.holdError
    (s.setO Obj.holdServoError e).servo 0x100 e
  else
    let cur := s.n Obj.selTCurrent
    let mine := s.synth.ingested.filter fun x => x.1 == cur
    if cur ≠ 0 ∧ set = true then
      match mine.getLast? with
      | some x => (s.recordReturn x.2.1).servo cur x.2.1
      | none => s
    else s

/-! ### The observations that the bound and the filter use (R204, R230) -/

/-- The observations of the tick enter the second's z_T and the window of ē. (Log entry 47, DEDUCED) -/
def takeObservations (s : State) : State :=
  let cur := s.n Obj.selTCurrent
  let mine := s.synth.ingested.filter fun x => x.1 == cur && cur != 0
  let zs := mine.map fun x => x.2.1 + x.2.2 - s.readingAt x.2.2
  let c := s.canopy
  let made := mine.filter fun x => decide (s.synth.selTime ≤ x.2.2)
  let win := (c.window ++ made.map fun x => (s.age, cur, x.2.2, x.2.1)).filter fun x => decide (s.age < x.1 + 8192)
  let own := win.filter fun x => x.2.1 == cur
  let ref := if mine.isEmpty then c.windowRef else cur
  let r := s.ref cur
  let carry := if ref = cur ∧ cur ≠ 0 ∧ !own.isEmpty then
      some ⟨own.length, sumI (own.map fun x => x.2.2.2), sumI (own.map fun x => x.2.2.1), r.s, s.n (Obj.refRandU cur), r.cal, cur⟩
    else c.carry
  let set := s.flag Obj.timescaleSet
  let track := decide (s.mode = mTrack)
  { s with canopy := { c with
    lastObs := if track && !c.track then none else c.lastObs, track := track
    zSum := if track then c.zSum + sumI zs else 0, zN := if track then c.zN + mine.length else 0
    window := if set then win else [], windowRef := ref, carry := if set then carry else none } }

/-! ### The slots of the second (R209–R211, R218) -/

/-- What slot 0 takes of a member, if its gate ended valid at this boundary. -/
def measure (s : State) (m : Nat) : Option MemberMeas :=
  let d := s.decl m
  let port := monitorPort d.ref
  match (s.port port).ended with
  | none => none
  | some f =>
    if f.tick ≠ s.age ∨ !bitOf f.flags 15 ∨ s.canopy.touchedLast ∨ !s.bindingOk d.ref then none
    else
      let v := s.member m
      let period : Int := (s.portPeriod port * s.portDivider port : Nat)
      let reading := f.edgeMid * period * 4096
      let plane := s.planeReading (f.mid + f.phase)
      let floor2 := roundUpHalf ((s.n Obj.ensMeasFloorPs ^ 2 : Nat) * 2 ^ 64) 1000000
      let s2 := roundUpHalf (f.varMant * 2 ^ f.varExp * 2 ^ 24 : Nat) (max 1 f.n : Nat)
      let r := (max floor2 s2).toNat
      if s.ensSt m = 2 ∨ s.ensSt m = 3 then
        -- EDGE_MID counts modulo 2^48; the phase is continuous
        let turn := 281474976710656 * period * 4096
        let off := reading - v.origin - plane - v.fx
        let z := v.fx + ((off + turn / 2) % turn - turn / 2)
        let (x, y) := Config.phaseFilter (s.n (Obj.refBw d.ref)) (v.fx, v.fy) z f.y
        some ⟨m, x, r, x, y, v.origin⟩
      else some ⟨m, 0, r, 0, f.y, reading - plane⟩

/-- Slot 0: the records of the second, and the copy that the update works on. -/
def slot0 (s : State) : State :=
  let c := s.canopy
  let meas := (s.declared.filter fun m => s.ensSt m != 5).filterMap s.measure
  let w : EpochWork := { model := { c.model with sat := [] }, tau := 1 + c.skipped, at_ := c.epochAt, reading := c.epochReading
                         meas := meas, zt := (c.zSum, c.zN) }
  { s with canopy := { c with work := some w, zSum := 0, zN := 0 } }

/-- The measurement of a member in an epoch. (Log entry 49, DEDUCED) -/
def measOf (w : EpochWork) (m : Nat) : Option MemberMeas := w.meas.find? fun x => x.m == m

/-- The timing plane is there, and has been since the epoch before (R211). -/
def planeKept (s : State) : Bool := !s.canopy.tplLost && !s.stamp.tplLost

/-- The work of an epoch written. -/
def setWork (s : State) (w : EpochWork) : State := { s with canopy := { s.canopy with work := some w } }

/-- Saturation or a zero divisor in a member's computation: FAULT (R213, R221). -/
def memberFault (s : State) (m : Nat) : State :=
  if s.ensSt m = 5 then s
  else
    let s1 := s.setO (Obj.ensMemberState m) 5
    (s1.setN Obj.ensActiveCount s1.activeMembers.length).faulted 0x0501 m 0

/-- Members whose store saturated go to FAULT at once; the plane makes the bound unbounded (R213, R221). -/
def takeSaturation (s : State) : State :=
  match s.canopy.work with
  | none => s
  | some w =>
    let ks := w.model.sat.eraseDups
    let s1 := s.setWork { w with model := { w.model with sat := [] } }
    ks.foldl (fun s k =>
      if k = 0 then s.planeSaturated else s.memberFault (k - 1)) s1

/-- Slots 1–17: a clock propagated over τ, then the steering applied before the epoch (R209, R214). -/
def slotPropagate (s : State) (w : EpochWork) (k : Nat) : State :=
  let d := if k = 0 then s.planeDecl else s.decl (k - 1)
  if k ≠ 0 ∧ (s.ensSt (k - 1) = 0 ∨ s.ensSt (k - 1) = 5) then s
  else
    let m1 := w.model.propagate s.liveStates k w.tau d.q1 d.q2 d.q3
    let b := 3 * k
    -- Δu in 2^-64 and instants in ticks: x gains Σ Δu (t_e − t_c)
    let add (m : EnsModel) (du : Int × Int × Nat) : EnsModel :=
      if du = (0, 0, 0) then m
      else
        let y : Rat := (du.1 : Rat) / ((2 ^ 64 : Int) : Rat)
        let x : Rat := ((du.1 * w.at_ - du.2.1 : Int) : Rat) / (8192 * ((2 ^ 64 : Int) : Rat))
        let g : Rat := (s.n Obj.ensSteerGainUnc * s.n Obj.ensSteerGainUnc * du.2.2 : Nat) / ((2 ^ 160 : Nat) : Rat)
        ((m.setX b (m.xr b + x)).setX (b + 1) (m.xr (b + 1) + y)).setP (b + 1) (b + 1) (m.pr (b + 1) (b + 1) + g)
    let steered := if k = 0 then
        (match s.declared.find? (fun m => (s.decl m).ref == 0x40 + s.canopy.planeInput) with
         | some m => (s.member m).due | none => (0, 0, 0))
      else (s.member (k - 1)).due
    s.setWork { w with model := add m1 steered }

/-- Slot 18: the reference's update, in TRACK alone, always applied (R209, R210). -/
def slotReference (s : State) (w : EpochWork) : State :=
  if s.mode = mTrack ∧ w.zt.2 ≠ 0 ∧ s.planeKept then
    let z : Rat := (roundUpHalf w.zt.1 w.zt.2 : Rat) / 4294967296000000000
    let u : Rat := (s.n (Obj.refRandU (s.n Obj.selTCurrent)) : Rat) / 256000000000000
    let h : List (Nat × Int) := [(0, -1)]
    if (w.model.gain h (u * u) 0).2 = 0 then s
    else s.setWork { w with model := w.model.update s.liveStates h z (u * u) }
  else s

/-- A measurement's noise in s². -/
def noise2 (r : Nat) : Rat := (r : Rat) / (4294967296000000000 * 4294967296000000000)

/-- Slots 19–34 in TRACK: one member's update behind the gate (R210, R211). -/
def slotMember (s : State) (w : EpochWork) (m : Nat) : State :=
  if s.ensSt m ≠ 2 ∧ s.ensSt m ≠ 3 then s
  else match measOf w m with
    | none => s.setWork { w with missed := w.missed ++ [m] }
    | some x =>
      if s.mode ≠ mTrack ∨ s.planeKept = false then s
      else
        let h : List (Nat × Int) := [(3 * m + 3, 1), (0, -1)]
        let z : Rat := (x.z : Rat) / 4294967296000000000
        let sv := (w.model.gain h (noise2 x.r) 0).2
        let nu := w.model.innovation h z
        if sv = 0 then s.memberFault m
        else
          let nis := ratRound (nu * nu / sv * 65536)
          let w1 : EpochWork := { w with nis := w.nis ++ [(m, min unbounded nis.toNat)] }
          if nis ≤ s.o Obj.ensEjectNis then s.setWork { w1 with model := w.model.update s.liveStates h z (noise2 x.r) }
          else s.setWork { w1 with failed := w.failed ++ [m] }

/-- Slots 19–34 in HOLDOVER: the pairs of a member with those below it (R218). -/
def slotPairs (s : State) (w : EpochWork) (m : Nat) : State :=
  if s.ensSt m ≠ 3 then s
  else match measOf w m with
    | none => s
    | some xm => (memberIds.filter fun j => decide (j < m) && s.ensSt j == 3).foldl (fun s j =>
        match s.canopy.work with
        | none => s
        | some w => match measOf w j with
          | none => s
          | some xj =>
            let i1 := 3 * j + 3
            let i2 := 3 * m + 3
            let nu : Rat := ((xj.z - xm.z : Int) : Rat) / 4294967296000000000 - (w.model.xr i1 - w.model.xr i2)
            let sv := w.model.pr i1 i1 + w.model.pr i2 i2 + noise2 xj.r + noise2 xm.r
            if sv = 0 then (s.memberFault j).memberFault m
            else
              let w1 := { w with pairs := w.pairs ++ [(j, m)] }
              if s.o Obj.ensEjectNis < ratRound (nu * nu / sv * 65536) then
                let k2 : Rat := (s.boundK * s.boundK : Nat) / 65536
                s.setWork { w1 with bad := w1.bad ++ [((j, m), ratAbs nu * 1000000000000, k2 * sv * 1000000000000000000000000)] }
              else s.setWork w1) s

/-! ### Slot 35: decisions, steering words, digest -/

/-- A member enters CALIBRATING: its states and variances; `drift` tells that its model has a drift (R200, R213). -/
def calibrate (m : EnsModel) (k : Nat) (x : MemberMeas) (limit : Nat) (drift : Bool) : EnsModel :=
  let b := 3 * k + 3
  let c := m.clear (k + 1)
  let z : Rat := (x.z : Rat) / 4294967296000000000
  let f : Rat := (x.fy : Rat) / ((2 ^ 64 : Int) : Rat)
  let lim : Rat := (limit : Rat) / 1000000000000
  let dr : Rat := if drift then 1 / 100000000000000 else 0
  let s1 := (c.setX b (m.xr 0 + z)).setX (b + 1) (m.xr 1 + f)
  let cross := ([0, 1, 2].map fun j => ((j, b), m.pr 0 j)) ++ ([0, 1, 2].map fun j => ((j, b + 1), m.pr 1 j))
  s1.setPs (cross ++ [((b, b), m.pr 0 0 + noise2 x.r), ((b + 1, b + 1), lim * lim), ((b + 2, b + 2), dr * dr)])

/-- The member that alone disagrees with all others in this epoch (R218). -/
def culprit (s : State) (w : EpochWork) : Option Nat :=
  let act := s.activeMembers
  if act.length < 3 then none
  else act.find? fun m =>
    let isBad (p : Nat × Nat) : Bool := w.bad.any fun b => b.1 == p
    let mine := w.pairs.filter fun p => p.1 == m || p.2 == m
    mine.length + 1 == act.length && mine.all isBad && (w.pairs.filter fun p => p.1 != m && p.2 != m).all fun p => !isBad p

/-- The decision on one member at slot 35 (R213, R218). -/
def decide1 (s : State) (w : EpochWork) (m : Nat) : State :=
  let st := s.ensSt m
  let v := s.member m
  let d := s.decl m
  let qual := s.refSt d.ref == 4
  let put (s : State) (x : Decision) : State := match s.canopy.work with
    | some w => s.setWork { w with decisions := w.decisions ++ [x] }
    | none => s
  let calib (s : State) (x : MemberMeas) : State := match s.canopy.work with
    | some w => s.setWork { w with model := calibrate w.model m x (s.n (Obj.refAcceptLimit d.ref)) (decide (d.model ≠ 1)) }
    | none => s
  if st = 1 ∨ st = 4 then
    match measOf w m with
    | some x => if s.mode = mTrack ∧ qual = true ∧ s.planeKept then put (calib s x) { m := m, state := 2, ejected := false, joinSecs := 0 } else s
    | none => s
  else if st = 2 ∨ st = 3 then
    let missed := if w.missed.any (fun k => k == m) then v.missed + 1 else 0
    let gate := w.failed.any fun k => k == m
    let fails := if gate then v.fails + 1 else if s.mode = mTrack then 0 else v.fails
    let alone := if s.mode = mHoldover then (if s.culprit w = some m then v.alone + 1 else 0) else 0
    let stay : Decision := ⟨m, st, false, s.n (Obj.ensMemberAdmitElapsed m), fails, missed, alone⟩
    if !qual ∨ 60 ≤ missed ∨ (0 < alone ∧ s.n Obj.ensEjectCount ≤ alone) then
      put s { m := m, state := 4, ejected := true, joinSecs := 0 }
    else if s.mode = mTrack then
      if s.n Obj.ensEjectCount ≤ fails then
        let again : Decision := { stay with state := 2, ejected := true, joinSecs := 0, fails := 0 }
        match measOf w m with
        | some x => put (calib s x) again
        | none => put s again
      else if st = 2 then
        let count := if gate then 0 else s.n (Obj.ensMemberAdmitElapsed m) + 1
        let unc := s.n Obj.ensAdmitFreqUnc
        let p := tget w.model.p (covKey (3 * m + 4) (3 * m + 4))
        let ok := s.n Obj.ensAdmitS ≤ count ∧ p * 10 ^ 36 ≤ ((unc * unc * 2 ^ 160 : Nat) : Int)
        put s { stay with state := if ok then 3 else 2, joinSecs := count }
      else put s stay
    else put s stay
  else s

/-- The steering word of one member, if it is steered, and whether it saturated (R214, R221). -/
def steerWord (s : State) (w : EpochWork) (m : Nat) : Option (Nat × Int × Bool) :=
  let d := s.decl m
  -- a member whose digital channel is FAILED is treated as unsteered (R194)
  if d.kind = 0 ∨ s.ensSt m = 0 ∨ s.ensSt m = 5 ∨ (d.kind = 2 ∧ s.o (Obj.dsteerState d.ch) = 2) then none
  else
    let b := 3 * m + 3
    let y := tget w.model.x (b + 1)
    let u := s.o (Obj.ensMemberSteerY m) - y
    let x := roundUpHalf (tget w.model.x b * 4294967296) (1000000000 * s.o (Obj.ensSteerTauS m))
    let v := if s.o (Obj.ensSteerPolicy m) = 0 then u else u - x
    some (m, saturate 64 v)

/-- The conflict in HOLDOVER (R218): C, if there is one. (Log entry 50, DEDUCED) -/
def conflictOf (s : State) (w : EpochWork) : Option Nat :=
  if s.mode ≠ mHoldover ∨ s.activeMembers.length < 2 ∨ w.bad.isEmpty = true ∨ (s.culprit w).isSome = true then none
  else
    let wt (m : Nat) : Nat := s.n (Obj.ensMemberWeight m)
    let worst := w.bad.foldl (fun (a : Option (Nat × Rat × Rat)) b =>
      let x := (max (wt b.1.1) (wt b.1.2), b.2)
      match a with
      | none => some x
      | some y => if surdLt y.2 x.2 then some x else some y) none
    worst.map fun x =>
      let f : Rat := (x.1 : Rat) / 4294967296
      surdCeil (f * x.2.1) (f * f * x.2.2)

/-- The state digest, given the weights by member (R222). -/
def digestOf (s : State) (m : EnsModel) (wt : Nat → Nat) : Nat :=
  let xs := ((List.range 51).map fun i => toBEInt 8 (tget m.x i)).flatten
  let ps := ((List.range 51).map fun i => ((List.range 51).filter fun j => decide (i ≤ j)).map fun j =>
    toBEInt 16 (tget m.p (covKey i j))).flatten.flatten
  let ws := (memberIds.map fun k => toBE 4 (wt k)).flatten
  let c := match s.canopy.hold with | some h => h.c | none => 0
  crc64 (xs ++ ps ++ ws ++ toBEInt 8 s.canopy.integral ++ toBEInt 8 s.canopy.rho ++ toBEInt 8 c)

/-- The state digest with the weights in force (R222). -/
def digest (s : State) (m : EnsModel) : Nat := s.digestOf m fun k => s.n (Obj.ensMemberWeight k)

/-- The step of an APLL-T switch taken at an epoch: the plane's states carried through it, its variances set, and its
model changed (R211). -/
def takePlaneStep (s : State) (w : EpochWork) : State :=
  match s.canopy.planeStep with
  | none => if s.synth.step.isNone then { s with canopy := { s.canopy with planeInput := s.n Obj.aplltSource } } else s
  | some q =>
    if w.at_ ≤ q.known then s
    else
    let m := w.model
    let f : Rat := (q.rate : Rat) / ((2 ^ 64 : Int) : Rat)
    let u : Rat := (q.um : Rat) / 1000000000000
    -- the propagation ran at the old rate since the switch
    let x1 := m.setX 0 (m.xr 0 + (q.step * 4096 : Int) / 4294967296000000000 + f * (w.reading - q.reading : Int) / 4294967296000000000)
    let x2 := x1.setX 1 ((1 + m.xr 1) * (1 + f) - 1)
    let live := s.liveStates.filter fun j => decide (2 < j)
    let p1 := x2.setPs ((live.map fun j => ((0, j), (0 : Rat))) ++ (live.map fun j => ((1, j), (0 : Rat))))
    let p2 := p1.setPs [((0, 0), u * u), ((0, 1), 0), ((0, 2), 0), ((1, 1), (q.vy : Rat) / ((2 ^ 160 : Nat) : Rat)), ((1, 2), 0)]
    let s1 := s.setWork { w with model := p2 }
    { s1 with canopy := { s1.canopy with planeStep := none, planeInput := s.n Obj.aplltSource } }

/-- The members whose held declaration takes effect: at the first epoch after HOLDOVER (R202). -/
def heldDecls (s : State) : List Nat := if s.mode = mHoldover then [] else s.declared.filter fun m => (s.member m).held

/-- The members that an epoch's decisions leave ACTIVE. -/
def activeAfter (s : State) (w : EpochWork) : List Nat :=
  memberIds.filter fun m => s.ensSt m != 5 && !w.redeclared.contains m && (match w.decisions.find? (fun d => d.m == m) with
    | some d => d.state == 3
    | none => s.ensSt m == 3)

/-- The weights that an epoch gives its ACTIVE members, where membership or a declaration changed (R212). -/
def weightsDue (s : State) (act : List Nat) : Option (List (Nat × Octets) × List (Nat × Nat)) :=
  let now := act.map fun m => (m, (s.member m).cfg)
  if now = s.canopy.weighted then none
  else some (now, weightsOf (s.n Obj.ensWeightTauS) (s.n Obj.ensWeightMax) (act.map fun m => (m, s.decl m)))

/-- Slot 35: decisions, weights, steering words and digest, which the boundary of index 37 puts into force (R209). -/
def slot35 (s : State) : State :=
  match s.canopy.work with
  | none => s
  | some w0 =>
    let c := s.conflictOf w0
    let w : EpochWork := { w0 with conflict := c.isSome, conflictPs := c, redeclared := s.heldDecls }
    let s1 := memberIds.foldl (fun s m => s.decide1 w m) (s.setWork w)
    match s1.canopy.work with
    | none => s1
    | some w1 =>
      let ws := s1.weightsDue (s1.activeAfter w1)
      let wt (k : Nat) : Nat := match ws with | some x => (x.2.lookup k).getD 0 | none => s1.n (Obj.ensMemberWeight k)
      let words := memberIds.filterMap (s1.steerWord w1)
      let sat := (words.filter fun x => x.2.2).map fun x => x.1 + 1
      s1.setWork { w1 with steer := words.map (fun x => (x.1, x.2.1)), weights := ws, digest := s1.digestOf w1.model wt, digested := true
                           model := { w1.model with sat := w1.model.sat ++ sat } }

/-- The last slot-35 digest with its epoch: that of the update in progress, or the one published at index 37 (R209, R222). -/
def lastDigest (s : State) : Nat × Nat :=
  let shown := (s.n Obj.ensStateDigest, s.n Obj.ensEpoch)
  match s.canopy.work with
  | some w => if w.digested then (w.digest, s.n Obj.ensEpoch + 1) else shown
  | none => shown

/-- The slot of the tick (R209). -/
def ensembleSlot (s : State) : State :=
  let i := s.index
  if i = 0 then s.slot0
  else match s.canopy.work with
    | none => s
    | some w =>
      (if i ≤ 17 then (if i = 1 then
          (let s1 := s.takePlaneStep w
           match s1.canopy.work with | some w1 => s1.slotPropagate w1 0 | none => s1)
        else s.slotPropagate w (i - 1))
      else if i = 18 then s.slotReference w
      else if i ≤ 34 then (if s.mode = mHoldover then (s.slotMember w (i - 19) |>.slotPairs w (i - 19)) else s.slotMember w (i - 19))
      else if i = 35 then s.slot35
      else if i = 36 then s.setWork { w with done := true }
      else s).takeSaturation

/-! ### The boundary of tick index 37 -/

/-- The weights of an epoch taken (R212). -/
def takeWeights (s : State) (x : List (Nat × Octets) × List (Nat × Nat)) : State :=
  let s1 := memberIds.foldl (fun s m => s.setN (Obj.ensMemberWeight m) ((x.2.lookup m).getD 0)) s
  ({ s1 with canopy := { s1.canopy with weighted := x.1 } }).inc Obj.ensReweights

/-- A weight in 2^-32. -/
def weight (s : State) (m : Nat) : Nat := s.n (Obj.ensMemberWeight m)

/-- ΣΣ w w P over two kinds of state (1 y, 2 d), in 2^-64 × the unit of the block (R216). -/
def weightedCov (s : State) (a b : Nat) : Int :=
  let act := s.activeMembers
  sumI (act.map fun i => sumI (act.map fun j =>
    (s.weight i * s.weight j : Nat) * tget s.canopy.model.p (covKey (3 * i + 3 + a) (3 * j + 3 + b))))

/-- ENS_FREQ_UNC: √ΣΣ w w P_yy in 2^-64, rounded up (R216). -/
def publishFreqUnc (s : State) : State :=
  -- 2^-64 (weights) × 2^-160: the root is in 2^-112
  s.setN Obj.ensFreqUnc (ceilDiv (isqrtUp (s.weightedCov 1 1).toNat) (2 ^ 48))

/-- A holdover segment starting now (R216, R217). (Log entry 50, DEDUCED) -/
def startSegment (s : State) (base : Nat) : State × HoldSeg :=
  let seg : HoldSeg := { start := s.age, base := base, pyy := s.weightedCov 1 1, pyd := s.weightedCov 1 2, pdd := s.weightedCov 2 2
                         digest := s.n Obj.ensStateDigest % 2 ^ 32 }
  (((s.setN Obj.ensHoldBase base).setN Obj.ensHoldSegTick s.tick).publishFreqUnc, seg)

/-- Σ w (x̂ − z), its rate and its drift over the ACTIVE members (R215). (Log entry 50, DEDUCED) -/
def ensembleState (s : State) : Int × Int × Int :=
  let act := s.activeMembers
  let sum (f : Nat → Int) : Int := sumI (act.map fun m => (s.weight m : Int) * f m)
  (sum fun m => tget s.canopy.model.x (3 * m + 3) - (s.member m).z,
   sum fun m => tget s.canopy.model.x (3 * m + 4) - (s.member m).fy,
   sum fun m => tget s.canopy.model.x (3 * m + 5))

/-- A holdover taken up, with c such that E equals device time at the boundary (R215).
(Log entries 50, DEDUCED; 79, DEDUCED) -/
def anchorHold (s : State) (h : Hold) : State :=
  let s1 : State := { s with canopy := { s.canopy with hold := some { h with c := 0 } } }
  { s1 with canopy := { s1.canopy with hold := some { h with c := -s1.holdError } } }

/-- The W1 before the boundary coasted (R54). -/
def coasted (s : State) : Bool := match s.canopy.next with
  | some c => c.source == 3
  | none => false

/-- Entry to HOLDOVER (R215): segment 0, and c such that E equals device time at the boundary. -/
def enterHoldover (s : State) (base : Nat) : State :=
  let r := (s.setN Obj.ensHoldEntryTick s.tick).startSegment base
  let s1 : State := { r.1 with canopy := { r.1.canopy with lastObs := none, loop := 0x100 } }
  let (x, y, d) := r.1.ensembleState
  let seg : HoldSeg := if r.1.coasted then { r.2 with extra := s.n Obj.coastIncrement } else r.2
  s1.anchorHold
    { entry := s.age, seg := seg, c := 0, at_ := r.1.canopy.modelReading, x := x, y := y, d := d, last := base, pending := base }

/-- HOLDOVER is left; transition 9 awaits the first observation (R220). -/
def leaveHoldover (s : State) (toTrack : Bool) : State :=
  match s.canopy.hold with
  | none => s
  | some h =>
    { s with canopy := { s.canopy with hold := none, returning := if toTrack then some h.last else none, lastObs := none } }.setO
      Obj.holdServoError 0

/-- A decision taken at the boundary, unless the member has gone to FAULT (R213). -/
def applyDecision (w : EpochWork) (s : State) (d : Decision) : State :=
  if s.ensSt d.m = 5 then s
  else
  let s1 := (s.setMember d.m { s.member d.m with fails := d.fails, missed := d.missed, alone := d.alone }).setN (Obj.ensMemberState d.m) d.state
  let s2 := if d.ejected then s1.inc (Obj.ensMemberEjections d.m) else s1
  let s3 := s2.setN (Obj.ensMemberAdmitElapsed d.m) d.joinSecs
  match measOf w d.m with
  | some x => if d.state = 2 ∧ (s.ensSt d.m ≠ 2 ∨ d.ejected) then s3.setMember d.m { s3.member d.m with origin := x.origin } else s3
  | none => s3

/-- The measurements of the epoch kept by the members; one that was missed goes on at its own rate. -/
def keepMeas (w : EpochWork) (s : State) (m : Nat) : State :=
  let v := s.member m
  match measOf w m with
  | some x =>
    let n : Member := { v with z := x.z, r := x.r, fx := x.fx, fy := x.fy, due := (0, 0, 0) }
    s.setMember m (w.moved.foldl (fun n q => n.switched w.reading q) n)
  | none => s.setMember m { v with z := v.z + roundUpHalf (v.fy * (w.tau : Int) * 1000000000) 4294967296, due := (0, 0, 0) }

/-- What the members' objects show of an epoch: NIS, missed epochs, steering words, ENS_CONFLICT, the digest, and the states
(R209–R211, R214, R218, R222). -/
def showEpoch (s : State) (w : EpochWork) : State :=
  let s1 := w.nis.foldl (fun s e => s.setN (Obj.ensMemberNis e.1) e.2) s
  let s2 := w.missed.foldl (fun s m => s.inc (Obj.ensMemberMissed m)) s1
  let s3 := w.steer.foldl (fun s e => s.setO (Obj.ensMemberSteerY e.1) e.2) s2
  let s4 := (s3.setF Obj.ensConflict w.conflict).setN Obj.ensStateDigest w.digest
  memberIds.foldl (fun s m =>
    ((s.setO (Obj.ensMemberPhase m) (tget w.model.x (3 * m + 3))).setO (Obj.ensMemberFreq m) (tget w.model.x (3 * m + 4))).setO
      (Obj.ensMemberDrift m) (tget w.model.x (3 * m + 5))) s4

/-- An update publishes the model, its decisions, declarations and weights (R209–R214, R222). -/
def publishModel (s : State) (w : EpochWork) : State :=
  let s1 := { s with canopy := { s.canopy with model := w.model, modelReading := w.reading, work := none, skipped := 0, tplLost := false } }
  let s2 := s1.declared.foldl (keepMeas w) s1
  let s3 := w.decisions.foldl (applyDecision w) s2
  let s4 := w.redeclared.foldl (fun s m => s.declare m (s.blob (Obj.ensMemberCfg m))) ((s3.inc Obj.ensEpoch).showEpoch w)
  let s5 := match w.weights with | some x => s4.takeWeights x | none => s4
  let s6 := s5.setN Obj.ensActiveCount s5.activeMembers.length
  if s6.mode = mHoldover then s6 else s6.publishFreqUnc

/-- In HOLDOVER an update moves the anchor to its reading, and new weights start a segment (R215–R218). -/
def publishHold (s : State) (w : EpochWork) (h : Hold) : State :=
  let kept : HoldSeg := match w.conflictPs with | some c => { h.seg with conflict := c } | none => h.seg
  let (s1, seg) := if w.weights.isSome then s.startSegment h.last else (s, kept)
  let (x, y, d) := s1.ensembleState
  let h1 := { h with seg := seg, at_ := w.reading, x := x, y := y, d := d }
  let s2 := { s1 with canopy := { s1.canopy with hold := some h1 } }
  if s2.activeMembers.isEmpty then s2.forceUnbounded else s2

/-- The boundary of tick index 37: the update of the epoch takes effect (R209, R212, R213, R217). -/
def publishEpoch (s : State) : State :=
  match s.canopy.work with
  | none => s
  | some w =>
    if !w.done then s
    else
      let s1 := s.publishModel w
      match s1.canopy.hold with
      | none => s1
      | some h => s1.publishHold w h

/-- The plane stepped by `shift`, 2^-32 ns, and its rate by `rate`, 2^-64: the measurements in force, the update in progress and the
holdover carry it through; a unit that follows its twin holds the owner's measurements (R180, R181, R225). -/
def canopySwitched (s : State) (shift rate : Int) : State :=
  let c := s.canopy
  let now := s.planeReading s.planeNow
  let q := (shift, rate, now)
  let own := if s.follows then [] else s.declared
  let s1 := own.foldl (fun s m => s.setMember m ((s.member m).switched c.modelReading q)) s
  { s1 with canopy := { s1.canopy with
    hold := c.hold.map fun h => h.switched now shift rate
    work := if s.follows then c.work else c.work.map fun w => { w with moved := w.moved ++ [q] } } }

/-- The step that Canopy takes at this boundary, if there is one. -/
def takeSwitched (s : State) : State := match s.canopy.switched with
  | some (a, shift, rate) => if a = s.age then s.canopySwitched shift rate else s
  | none => s

/-- The work of an epoch discarded by a coast in slots 0–36; in slot 0 the offsets of its second go with it (R211). -/
def discardEpoch (s : State) : State :=
  if s.index ≤ 36 ∧ (s.index = 0 ∨ s.canopy.work.isSome) then
    let own := decide (s.index = 0)
    { s with canopy := { s.canopy with
      work := none, skipped := s.canopy.skipped + 1, zSum := if own then 0 else s.canopy.zSum, zN := if own then 0 else s.canopy.zN } }.inc
        Obj.ensSkippedEpochs
  else s

/-- A tick boundary of Canopy besides the servo's results: the latency of digital steering, the epoch instant, the
switches of the second, and the update of index 37 (R204, R209, R211, R214). -/
def canopyBoundary (s : State) : State :=
  let s1 := s.declared.foldl (fun s m =>
    let v := s.member m
    let now := v.latent.filter fun x => decide (x.1 ≤ s.age)
    if now.isEmpty then s
    else
      let c := now.foldl (fun (c : Int × Int × Nat) x => (c.1 + x.2, c.2.1 + x.2 * x.1, c.2.2 + x.2.natAbs * x.2.natAbs)) v.ctl
      s.setMember m { v with latent := v.latent.filter (fun x => decide (s.age < x.1)), ctl := c }) s
  let s2 := if s1.synth.planeMoved then { s1 with canopy := { s1.canopy with touched := true } } else s1
  let s3 := if s2.index = 4096 then
      let moved := s2.declared.foldl (fun s m =>
        let v := s.member m
        s.setMember m { v with due := (v.due.1 + v.ctl.1, v.due.2.1 + v.ctl.2.1, v.due.2.2 + v.ctl.2.2), ctl := (0, 0, 0) }) s2
      { moved with canopy := { moved.canopy with epochAt := moved.age, epochReading := moved.planeReading moved.planeNow } }
    else s2
  let s4 := if s3.index = 0 then { s3 with canopy := { s3.canopy with touchedLast := s3.canopy.touched, touched := false } } else s3
  if s4.index = 37 then s4.publishEpoch else s4

/-- The frequency offset that a member's steering gives its oscillator changed now, at an EFC code or with the latency
of a digital write (R214). -/
def steerApplied (s : State) (m : Nat) (u : Int) : State :=
  let v := s.member m
  let du := u - v.applied
  if du = 0 then s
  else
    let lat := (s.decl m).lat
    if (s.decl m).kind = 2 ∧ lat ≠ 0 then s.setMember m { v with applied := u, latent := v.latent ++ [(s.age + lat, du)] }
    else
      let c := (v.ctl.1 + du, v.ctl.2.1 + du * s.age, v.ctl.2.2 + du.natAbs * du.natAbs)
      s.setMember m { v with applied := u, ctl := c }

/-- The member bound to a steering output: kind 1 EFC, 2 digital (R202). -/
def steeredBy (s : State) (kind ch : Nat) : Option Nat :=
  s.declared.find? fun m => (s.decl m).kind == kind && (s.decl m).ch == ch && s.ensSt m != 5

/-- An EFC output at a boundary: its code, and what it does to the member (R192, R214). -/
def efcTick (s : State) (k : Nat) : State :=
  match s.steeredBy 1 k with
  | none => s.efcBoundary k none
  | some m =>
    let s1 := s.efcBoundary k (some (s.o (Obj.ensMemberSteerY m)))
    if s1.o (Obj.efcState k) = 0 then s1
    else s1.steerApplied m ((s1.o (Obj.efcCode k) - s1.o (Obj.efcCentre k)) * s1.o (Obj.efcGain k))

/-- Every phase variance of some members and the plane at 2^126 units (R211). -/
def unanchored (ms : List Nat) (m : EnsModel) : EnsModel :=
  let l := ms.foldl (fun (m : EnsModel) k => { m with p := tput m.p (covKey (3 * k + 3) (3 * k + 3)) (2 ^ 126) }) m
  { l with p := tput l.p (covKey 0 0) (2 ^ 126) }

/-- The timing plane is back: every phase is unanchored, in the update in progress too (R211). -/
def unanchor (s : State) : State :=
  { s with canopy := { s.canopy with
    model := unanchored s.declared s.canopy.model, tplLost := true
    work := s.canopy.work.map fun w => { w with model := unanchored s.declared w.model } } }

/-- The servo's fields of one Canopy state put into another; the rest is the ensemble's (R422). -/
def putServo (c into : CanopyState) : CanopyState :=
  { into with
    integral := c.integral, rate := c.rate, rho := c.rho, loop := c.loop, lastObs := c.lastObs, selSeen := c.selSeen, track := c.track, origin := c.origin
    planeStep := c.planeStep, switched := c.switched, hold := c.hold, returning := c.returning, window := c.window, windowRef := c.windowRef
    carry := c.carry, coastSum := c.coastSum, next := c.next }

/-- The objects that go with those fields. -/
def servoObj (k : Nat) : Bool :=
  [0x312001, 0x312002, 0x312003, 0x312005, 0x312006, 0x312009, 0x31100D, 0x31100E, 0x31100F, 0x311010, 0x311011].contains k

/-- The values of those objects. -/
def servoObjs (s : State) : List (Nat × Int) := s.obj.filter fun p => servoObj p.1

/-- Those objects replaced. -/
def putServoObjs (s : State) (l : List (Nat × Int)) : State :=
  l.foldl (fun s p => s.setO p.1 p.2) { s with obj := s.obj.filter fun p => !servoObj p.1 }

/-- The state digest of the ensemble that the unit holds: its own, or its shadow (R222, R422). -/
def ensembleDigest (s : State) : Nat :=
  if s.follows then State.digest { s with canopy := putServo s.twin.shadow s.canopy } s.canopy.model else s.digest s.canopy.model

/-- A shadow state is discarded, and the owner's is asked for (R423). -/
def discardShadow (s : State) : State :=
  { s with twin := { s.twin with stale := true, matched := 0, sends := s.twin.sends ++ [TwinSend.stateRequest] } }

/-- A step of the timescale by Δ at the current boundary, as Canopy sees it (R207, R225, R230).  `first` tells a first
setting: the plane's reading then starts at device time. (Log entry 50, DEDUCED) -/
def canopyStepped (s : State) (delta : Int) (first : Bool) : State :=
  let c := s.canopy
  let win := c.window.map fun x => (x.1, x.2.1, x.2.2.1 + delta, x.2.2.2 - delta)
  let carry := c.carry.map fun b => { b with e := b.e - delta * b.n, t := b.t + delta * b.n }
  let hold := c.hold.map fun h =>
    { h with c := h.c + delta, seg := { h.seg with extra := boundAdd h.seg.extra (ceilDiv (delta.natAbs * 1000) 4294967296) } }
  let origin := if first then s.timeNow - s.planeNow * 4096 else c.origin
  { s with canopy := { c with window := win, carry := carry, hold := hold, origin := origin
                              lastObs := if first then none else c.lastObs } }

/-- COST_CANOPY_W1 for the configuration (R223). -/
def canopyCost (s : State) : Nat :=
  3520 + 600 * s.declared.length + 80 * (classTIds.filter fun id => s.o (Obj.refPriority id) != 0).length +
    40 * (classFIds.filter fun id => s.o (Obj.refPriority id) != 0).length

end State

/-! ### Commands -/

/-- TIMESCALE_STEP: a write on port class H or M requests a realignment by `ns` at the next tick; refused in REPLAY
(R207). -/
def execTimescaleStep (cls : PortClass) (ns : Int) (s : State) : Host.Outcome State Fault Refusal :=
  if s.running && decide (s.mode ≠ mReplay) && (cls == .hostH || cls == .mgmtM) then .next (s.addDue false (.step ns))
  else .next s

/-- TIMESCALE_STEP_TO_REF: the same for a step by e_n, refused too while no reference is selected (R207). -/
def execTimescaleStepToRef (cls : PortClass) (s : State) : Host.Outcome State Fault Refusal :=
  if s.running && decide (s.mode ≠ mReplay) && (cls == .hostH || cls == .mgmtM) && s.o Obj.selTCurrent != 0 then
    .next (s.addDue false .stepToRef)
  else .next s

/-- HOLD_MAX_EXPIRE: ENS_HOLD_MAX_S seconds after entry to HOLDOVER the bound becomes unbounded (R219). -/
def execHoldMaxExpire (s : State) : Host.Outcome State Fault Refusal :=
  match s.canopy.hold with
  | some h =>
    if s.mode = mHoldover ∧ s.o Obj.ensHoldMaxS ≠ 0 ∧ s.n Obj.ensHoldMaxS * 8192 ≤ s.age - h.entry then .next s.forceUnbounded
    else .next s
  | none => .next s

end Sys2Proof.Machine
end

