-- ==== Sys2Proof/Machine/Bound.lean ====
section
/-!
DEFINITION. The mode that Canopy asks for, and the bound: the holdover bound, the core bound and its provenance, the bound of an emitted value, the
published fields, and the ToD messages (R216, R226–R244), with TOD_MESSAGE_SEND and TOD_MESSAGE_RECEIVE.  The core
bound is computed in W1_SOLVE.
-/

namespace Sys2Proof.Machine

/-- The saturating sum of counts of picoseconds (R81). -/
def boundSum (l : List Nat) : Nat := l.foldl boundAdd 0

/-- The clockAccuracy codes of IEEE 1588-2019 from 0x17 with their accuracies in ps (R238). -/
def accuracyTable : List (Nat × Nat) :=
  [ (0x17, 1), (0x18, 2), (0x19, 10), (0x1A, 25), (0x1B, 100), (0x1C, 250), (0x1D, 1000), (0x1E, 2500), (0x1F, 10000),
    (0x20, 25000), (0x21, 100000), (0x22, 250000), (0x23, 1000000), (0x24, 2500000), (0x25, 10000000),
    (0x26, 25000000), (0x27, 100000000), (0x28, 250000000), (0x29, 1000000000), (0x2A, 2500000000),
    (0x2B, 10000000000) ]

/-- The smallest code whose accuracy is at least a bound (R238); 0xFE, unknown, for none. -/
def accuracyOf (b : Nat) : Nat :=
  if b = unbounded then 0xFE else match accuracyTable.find? fun e => decide (b ≤ e.2) with
    | some e => e.1
    | none => 0xFE

namespace State

/-- H at the end of the tick that ends `ahead` boundaries from the start of the current one, without TWIN (R216).
(Log entry 50, DEDUCED) -/
def holdBound (s : State) (h : Hold) (ahead : Nat) : Nat :=
  let g := h.seg
  let act := s.activeMembers
  let tau : Rat := ((s.age + ahead - g.start : Nat) : Int) / 8192
  let wr (m : Nat) : Rat := (s.weight m : Rat) / 4294967296
  let env := sumR (act.map fun m => wr m * (s.n (Obj.ensMemberEnvY m) : Rat))
  let w2 : Rat := ((2 ^ 64 : Int) : Rat)
  let pyy : Rat := (g.pyy : Rat) / (w2 * ((2 ^ 160 : Int) : Rat))
  let pyd : Rat := (g.pyd : Rat) / (w2 * ((2 ^ 192 : Int) : Rat))
  let pdd : Rat := (g.pdd : Rat) / (w2 * ((2 ^ 224 : Int) : Rat))
  let noise := sumR (act.map fun m => wr m * wr m * (phaseGrowth (s.decl m) tau + noise2 (s.member m).r))
  let v := tau * tau * pyy + tau * tau * tau * pyd + tau * tau * tau * tau / 4 * pdd + noise
  -- ENV_Y in 1e-18: × 1e-18 s/s × 1e12 ps
  let envPs := (ratCeil (tau * env / 1000000)).toNat
  let eh := ceilDiv ((s.o Obj.holdServoError).natAbs * 1000) 4294967296
  let step := match s.synth.step with
    | some p => if g.start ≤ p.started then s.n Obj.stepChargePs else 0
    | none => 0
  boundSum [g.base, envPs, rootPs s.boundK v, eh, g.conflict, g.extra, step]

/-- The servo term (R230): SERVO in ps. -/
def servoTerm (s : State) (b : ServoBase) : Nat :=
  let n : Rat := (max 1 b.n : Nat)
  let e : Rat := (b.e : Rat) / n
  let tend : Int := s.timeNow + 2 * tickUnits
  let ta : Rat := ((tend : Rat) - (b.t : Rat) / n) / 4294967296000000000
  let t0 : Rat := if ta < 0 then 0 else ta
  (ratCeil (ratAbs e * 1000 / 4294967296)).toNat + s.ageTerm e t0

/-! ### The transitions that Canopy decides (R22, R27) -/

/-- A class T reference is QUALIFIED. -/
def qualifiedT (s : State) : Bool := classTIds.any fun id => s.refSt id == 4

/-- The local oscillator is measured against a qualified reference, one of class F in HOLDOVER, and lies beyond ±4e-6 (R22):
RATE_Y is its offset. (Log entry 24, DEDUCED) -/
def loBeyond (s : State) : Bool :=
  (s.qualifiedT || (s.mode == mHoldover && classFIds.any fun id => s.refSt id == 4)) && decide (73786976294838 < s.canopy.rate.natAbs)

/-- The mode of transitions 6 to 9 whose condition holds under a bound in force, if any; 8 comes first (R27, R28). -/
def canopyMode (s : State) (bound : Nat) : Option Int :=
  let off := bound == unbounded || s.loBeyond
  if s.mode = mAcquire then (if s.qualifiedT && !off then some mTrack else none)
  else if s.mode = mTrack then
    (if off then some mAcquire else if !s.qualifiedT && s.canHold then some mHoldover else none)
  else if s.mode = mHoldover then
    (if off then some mAcquire else if s.qualifiedT then some mTrack else none)
  else none

/-- The mode that OUTPUT names (R446). -/
def wantedMode (s : State) : Nat := ((s.canopyMode s.bound).getD s.mode).toNat

/-- The bound is unbounded whatever its terms (R231). -/
def boundOff (s : State) : Bool :=
  let m := s.mode
  decide (m < 3) || decide (6 ≤ m) || !s.flag Obj.timescaleSet || s.stamp.tplLost || s.canopy.planeSat ||
    s.sys.forceUnbounded || (m == mAcquire && s.o Obj.selTCurrent == 0) ||
    (m == mTrack && !s.canHold && classTIds.all fun id => s.refSt id != 4)

/-- A bound with its source for the next tick; a finite one is at least 1 ps (R231). -/
def setNext (s : State) (b source : Nat) (pub : Option (Nat × Nat × Nat)) (prov : List Prov) (cal : Nat) : State :=
  let b1 := if b = unbounded then b else max 1 b
  { s with canopy := { s.canopy with
    next := some ⟨b1, if b1 = unbounded then 0 else source, pub, s.provOctets prov, cal⟩ } }

/-- H as the bound of a tick that ends `ahead` boundaries on, with TWIN added (R231). -/
def setHold (s : State) (h : Hold) (ahead : Nat) : State :=
  let v := if s.activeMembers.isEmpty then unbounded else s.holdBound h ahead
  let s1 := { s with canopy := { s.canopy with hold := some { h with pending := v } } }
  s1.setNext (boundAdd v s.twin.charge) 2 none [⟨4, 0x80, 0, h.seg.conflict, 0⟩,
    ⟨5, 0x80, 0, s.n Obj.stepChargePs, s.n Obj.stepCount % 2 ^ 32⟩, ⟨7, 0xC0, 0, v, h.seg.digest⟩, ⟨8, 0x80, 0, s.twin.charge, 0⟩] h.seg.digest

/-- H of the tick that begins in HOLDOVER, over what its boundary changed: the entry, a new segment, C, a step (R215–R218, R225); a tick
after a coast keeps the bound of R54. (Log entry 50, DEDUCED) -/
def holdNow (s : State) : State :=
  match s.canopy.hold, s.canopy.next with
  | some h, some c => if s.mode ≠ mHoldover ∨ c.bound = unbounded ∨ c.source = 3 then s else s.setHold h 1
  | _, _ => s

/-- H of the tick in force is that of the tick that begins. -/
def holdBegins (s : State) : State :=
  { s with canopy := { s.canopy with hold := s.canopy.hold.map fun h => { h with last := h.pending } } }

/-- The core bound of the next tick, in a W1 that completed (R230, R231). (Log entry 80, DEDUCED) -/
def coreBound (s : State) : State :=
  let s0 := { s with canopy := { s.canopy with coastSum := 0 } }
  if s.boundOff then s0.setNext unbounded 0 none [] 0
  else if s.mode = mHoldover then
    match s.canopy.hold with
    | none => s0.setNext unbounded 0 none [] 0
    | some h => s0.setHold h 2
  else
    match s.canopy.carry with
    | none => s0.setNext unbounded 0 none [] 0
    | some b =>
      let cur := s.n Obj.selTCurrent
      let carried := decide (s.canopy.windowRef ≠ cur) || !s.canopy.window.any fun x => x.2.1 == cur
      let cf := if carried then 0x10 else 0
      let servo := s.servoTerm b
      let q := boundQ s.boundK [b.u]
      let sys := boundSum [b.s, servo, s.synth.conflictPs, s.n Obj.stepChargePs, s.twin.charge]
      let prov : List Prov := [ ⟨1, 0x80 + cf, b.ref, min unbounded b.s, b.cal⟩, ⟨2, 0x40 + cf, b.ref, b.u, b.cal⟩,
        ⟨3, 0x80 + cf, 0, min unbounded servo, 0⟩, ⟨4, 0x80, 0, min unbounded s.synth.conflictPs, 0⟩,
        ⟨5, 0x80, 0, s.n Obj.stepChargePs, s.n Obj.stepCount % 2 ^ 32⟩, ⟨8, 0x80, 0, s.twin.charge, 0⟩ ]
      s0.setNext (boundAdd sys q) 1 (some (sys, q, min unbounded servo)) prov b.cal

/-- The bound of the next tick after a W1 that coasted (R54, R231): the bound in force and the increment published with
it; unbounded after 8 in a row. -/
def coastBound (s : State) : State :=
  let inc := s.n Obj.coastIncrement
  let sum := boundAdd s.canopy.coastSum inc
  let more (h : Hold) : Hold := { h with pending := boundAdd h.last inc, seg := { h.seg with extra := boundAdd h.seg.extra inc } }
  let s1 := { s with
    sys := { s.sys with coast := true, coastRun := s.sys.coastRun + 1 }
    canopy := { s.canopy with
      coastSum := sum, hold := s.canopy.hold.map more } }
  let old := match s.canopy.next with | some c => c.prov | none => s.blob Obj.boundProvenance
  let rec6 := (⟨6, 0x80, 0, sum, 0⟩ : Prov).octets (Sys2Proof.Machine.octets old 120 24) s.tick
  let b := if 8 ≤ s.sys.coastRun + 1 ∨ s.boundOff = true then unbounded else boundAdd s.bound inc
  let cal := match s.sys.history with | h :: _ => h.cal | [] => 0
  let prov := if b = unbounded then s.provOver old [] else patch (padTo 192 old) 120 rec6
  { s1 with canopy := { s1.canopy with next := some ⟨b, if b = unbounded then 0 else 3, none, prov, cal⟩ } }

/-- FLAGS of R236 for the tick that begins, without SMEARED and the leap bits. (Log entry 52, DEDUCED) -/
def boundFlags (s : State) (source : Nat) : Nat :=
  (if s.mode = mHoldover then 0x80 else 0) + (if s.flag Obj.refConflict || s.flag Obj.ensConflict then 0x40 else 0) +
    (if s.o Obj.stepChargePs ≠ 0 then 0x20 else 0) + (if source = 3 then 0x10 else 0) + (if s.joined then 0x08 else 0)

/-- The bound that comes into force at a boundary: its objects (R231, R233, R236).  Answers the bound, its source and
its CAL_ID. (Log entry 14, DEDUCED) -/
def commitBound (s : State) : State × Nat × Nat × Nat :=
  let c : CoreBound := (s.canopy.next).getD ⟨unbounded, 0, none, zeros 192, 0⟩
  let b := if s.sys.forceUnbounded then unbounded else c.bound
  let src := if b = unbounded then 0 else c.source
  let prov := if src = 0 then s.provOver c.prov [] else c.prov
  let s1 := ((s.setN Obj.boundNow b).setN Obj.boundSource src).setBlob Obj.boundProvenance prov
  let s2 := match c.pub with
    | some (x, q, v) => ((s1.setN Obj.boundSysPs x).setN Obj.boundRandPs q).setN Obj.boundServoPs v
    | none => s1
  let s3 := if b = unbounded then s2.inc Obj.boundUnboundedTicks else s2
  (s3.showCeilings, b, src, c.cal)



/-! ### Emitted values (R232, R236) -/

/-- The FLAGS that the next tick will have by what W1 gave: its mode, the conflicts as they stand, STEP and COAST (R236).
(Log entry 52, DEDUCED) -/
def nextFlags (s : State) (c : CoreBound) : Nat :=
  (if s.wantedMode = 5 then 0x80 else 0) + (if s.flag Obj.refConflict || s.flag Obj.ensConflict then 0x40 else 0) +
    (if fieldN c.prov 100 4 ≠ 0 then 0x20 else 0) + (if c.source = 3 then 0x10 else 0) + (if s.joined then 0x08 else 0)

/-- The state in force for a tick: the current one, the two before, or the next as W1 gave it. -/
def tickState (s : State) (t : Nat) : Option TsState :=
  match s.sys.history.find? fun h => h.tick == t with
  | some h => some h
  | none =>
    match s.sys.history.head?, s.canopy.next with
    | some h, some c =>
      if t = h.tick + 1 then
        some { h with tick := t, time := s.sys.nextTime, plane := h.plane + h.len, rateY := s.canopy.rate, bound := c.bound
                      source := c.source, cal := c.cal, flags := s.nextFlags c, mode := s.wantedMode, ref := s.n Obj.selTCurrent }
      else none
    | _, _ => none

/-- B* and the state of BOUND_TICK over the ticks of the values carried: the largest bound, and of equals the latest
(R18, R236). -/
def coreOf (s : State) (ticks : List Nat) : TsState :=
  let none_ : TsState := { tick := s.tick, time := 0, plane := 0, len := 0, rateY := 0, bound := unbounded, source := 0 }
  let sts := ticks.map fun t => (s.tickState t).getD { none_ with tick := t }
  match sts with
  | [] => none_
  | h :: t => t.foldl (fun b x => if b.bound < x.bound ∨ (b.bound = x.bound ∧ b.tick < x.tick) then x else b) h

/-- SMEARED and the leap bits of FLAGS (R236). (Log entry 52, DEDUCED) -/
def valueFlags (s : State) (t : Int) (smeared : Bool) : Nat :=
  let w := s.leapWarning t
  (if smeared then 4 else 0) + (if w = 1 then 2 else 0) + (if w = 2 then 1 else 0)

/-- The vendor TLV (R237) for a value with bound `e` over the state `c` of BOUND_TICK. -/
def vendorTlv (s : State) (e : Nat) (c : TsState) (t : Int) : Octets :=
  toBE 2 3 ++ toBE 2 36 ++ toBE 3 (s.n Obj.boundTlvOrgId) ++ toBE 3 1 ++ toBE 1 1 ++ toBE 1 (c.flags + s.valueFlags t false) ++
    toBE 4 e ++ toBE 4 c.bound ++ toBE 1 c.ref ++ toBE 1 c.mode ++ toBE 2 s.boundK ++ toBE 8 c.tick ++ toBE 4 c.cal ++ zeros 4

/-- The extension field of R240. -/
def boundEf (s : State) (e : Nat) (c : TsState) (t : Int) (smeared : Bool) : Octets :=
  toBE 2 (s.n Obj.boundEfType) ++ toBE 2 24 ++ toBE 1 1 ++ toBE 1 (c.flags + s.valueFlags t smeared) ++ toBE 1 c.ref ++
    toBE 1 c.mode ++ toBE 4 e ++ toBE 4 c.bound ++ toBE 8 c.tick

/-- A value of a service is emitted: E strictly below its ceiling (R233); 0 PTP, 1 NTP, 2 NTS. -/
def belowCeiling (s : State) (svc e : Nat) : Bool := decide (e < s.n (Obj.ceilingPtp + svc))

/-- rootDispersion of an E, in 2^-16 s (R239). -/
def rootDispersion (e : Nat) : Nat := max 1 (ceilDiv (e * 10000) 152587890625)

/-! ### ToD messages (R241, R242) -/

/-- The 44 octets of the message for the last edge of port `p` (R241): UTC, or smeared UTC under SMEAR_ENABLE bit 2.
(Log entry 43, DEDUCED) -/
def todMessage (s : State) (p : Nat) : Octets :=
  let v := s.out p
  let t := match v.last with | some x => x.2 * 4096 | none => 0
  let smear := bitOf (s.n Obj.smearEnable) 2
  let secs := roundUpHalf t secondUnits * secondUnits
  let time := if smear then s.smearedUtc t else s.utcOf secs
  let lastE := if s.pll 5 = 2 then v.lastE else unbounded
  let e := if smear then boundAdd lastE 1 else lastE
  let c := (v.lastState).getD (s.coreOf [s.tick])
  let off := (secs - s.utcOf secs) / secondUnits
  let body := [0x4C, 0x44] ++ toBE 1 1 ++ toBE 1 44 ++ encTime80 time ++ toBE 1 (c.flags + s.valueFlags t smear) ++
    toBE 1 c.ref ++ toBEInt 2 off ++ toBE 1 (if smear then 2 else 1) ++ toBE 1 c.mode ++ toBE 4 e ++ toBE 4 c.bound ++
    toBE 8 c.tick ++ zeros 2
  body ++ toBE 2 (crc16 body)

/-- The second that a received message names, when it passes its checksum (R242). -/
def todSecond (b : Octets) : Option Int :=
  if b.length = 44 ∧ fieldN b 0 2 = 0x4C44 ∧ octetAt b 2 = 1 ∧ octetAt b 3 = 44 ∧ octetAt b 22 ≤ 1 ∧
      crc16 (padTo 42 b) = fieldN b 42 2 then
    some (if octetAt b 22 = 0 then (fieldN b 4 6 : Int) else (fieldN b 4 6 : Int) + fieldI b 20 2)
  else none

/-- The coding loss that a port's raw stamps charge (R105). -/
def rawCharge (s : State) (port : Nat) : Nat := if s.portRaw port then s.n (Obj.tpRawCharge port) else 0

/-- A message that ended in time judged for the edge of a reference (R167, R229, R242).
(Log entries 43, DEDUCED; 100, DEDUCED) -/
def todJudge (s : State) (id : Nat) (b : Octets) : State :=
  let r := s.ref id
  match todSecond b with
  | none => (s.inc (Obj.refTodInvalid id)).ppsInvalid id
  | some sec =>
    match r.edge with
    | none => s
    | some (t, st, _) =>
      let inst := t - roundUpHalf (s.o (Obj.refDelayPs id) * nsUnits) 1000
      let near := match r.prevEdge with | some p => decide (t ≤ p + 1001000000 * nsUnits) | none => false
      -- a nanoseconds field of 10^9 or more: the measurement is dropped and counted (R74)
      if (decTime80 (octets b 4 14)).isNone then
        (s.setRef id { r with edge := none, prevEdge := some t, prevSecond := some sec }).inc Obj.timeInputMalformed
      else
      let e := sec * secondUnits - inst
      let follows := match r.prevSecond with | some p => !near || decide (sec = p + 1) | none => true
      let inWindow := !s.flag Obj.timescaleSet || decide (e.natAbs ≤ s.n (Obj.refPpsWindowNs id) * 4294967296)
      let bd := fieldN b 24 4
      let ok := follows && inWindow && bd != unbounded
      let s1 := s.setRef id { r with edge := none, prevEdge := some t, prevSecond := some sec }
      s1.refArrive { id := id, kind := if ok then .valid else .invalid, e := e, instant := inst
                     s := bd + s.n (Obj.refSysPs id) + 1 + s.rawCharge (st / 2), u := 180, cal := s.n (Obj.stamperCalId st), tod := b }

end State

/-- TOD_MESSAGE_SEND: a port in OUT_MODE 3 starts the message of the edge that its paired port drove 1 ms before
(R241). -/
def execTodMessageSend (port : Fin 64) (s : State) : Host.Outcome State Fault Refusal :=
  let pair := s.n (Obj.outTodPair port)
  let v := s.out port
  if s.inService && decide (s.o (Obj.outMode port) = 3) && decide (s.o (Obj.tpRole port) = 2) && decide (pair < 64) &&
      s.interlockOpen then
    match (s.out pair).last with
    | some (n, _) => if v.todFor = some n then .next s else .next (s.setOut port { v with todFor := some n, tod := s.todMessage pair })
    | none => .next s
  else .next s

/-- A ToD message that ended `endNs` after its second's edge judged for the references bound to its port (R166, R242). -/
def State.todArrive (s : State) (port : Nat) (message : Octets) (endNs : Nat) : State :=
  ((List.range 16).map (· + 0x10)).foldl (fun s id =>
    match s.ppsBinding id with
    | some (_, t) =>
      if t = port ∧ s.refSt id ≠ 0 ∧ s.o (Obj.tpRole port) = 1 ∧ 1000000 ≤ endNs then
        (if endNs ≤ 900000000 then s.todJudge id message else s.ppsNoMessage id)
      else s
    | none => s) s.ppsNews

/-- TOD_MESSAGE_RECEIVE: a message on a ToD port whose last stop bit ends `endNs` after the edge awaited; it is checked in
full when that lies between 1 ms and 900 ms (R167, R242). -/
def execTodMessageReceive (port : Fin 64) (message : Octets) (endNs : Nat) (s : State) : Host.Outcome State Fault Refusal :=
  if s.running then .next (s.todArrive port message endNs) else .next s

end Sys2Proof.Machine
end

