-- ==== Sys2Proof/Machine/Rings.lean ====
section
/-!
DEFINITION. The PCIe registers, vectors and rings of the host interface: register reads and writes, the room of a ring,
and the writing of batches, dumps and stamp records (R344–R346, R351–R356), with RING_ENABLE, RING_CONSUMER_WRITE,
TICK_LO_READ, COUNTER_DUMP and REGISTER_WRITE.
-/

namespace Sys2Proof.Machine

/-- Offset of a ring's register block in BAR0. -/
def RingKind.base (k : RingKind) (r : Nat) : Nat := match k with
  | .rx => 0x2000 + 64 * r
  | .tx => 0x2400 + 64 * r
  | .dump => 0x3000
  | .stamp => 0x3100

/-- Offset of its CONTROL register in the block. -/
def RingKind.control (k : RingKind) : Nat := match k with
  | .rx => 0x28
  | .tx => 0x2C
  | .dump => 0x20
  | .stamp => 0x14

/-- Offsets of its pointers, all set to 0 when it is enabled. -/
def RingKind.pointers (k : RingKind) : List Nat := match k with
  | .rx => [0x18, 0x1C, 0x20, 0x24]
  | .tx => [0x0C, 0x10, 0x24, 0x28]
  | .dump => [0x10]
  | .stamp => [0x0C, 0x10]

/-- Offsets of its consumer or producer registers that the host writes while it runs (R352, R353, R355). -/
def RingKind.hostPointers (k : RingKind) : List Nat := match k with
  | .rx => [0x1C, 0x24]
  | .tx => [0x0C, 0x28]
  | .dump => []
  | .stamp => [0x10]

/-- Offsets of its base and size registers, which are fixed while it runs (R351). -/
def RingKind.setup (k : RingKind) : List Nat := match k with
  | .rx => [0x00, 0x04, 0x08, 0x0C, 0x10, 0x14]
  | .tx => [0x00, 0x04, 0x08, 0x18, 0x1C, 0x20]
  | .dump => [0x00, 0x04, 0x08]
  | .stamp => [0x00, 0x04, 0x08]

/-- Objects indexed by a reference ID, a signal code or a fault code exist for those that the manual gives (R136, R166,
R391, R410). -/
def keyed (k : Nat) : Bool :=
  let idx := k / 256
  let sub := k % 256
  if idx = 0x3002 ∨ idx = 0x3210 then classT sub
  else if idx = 0x3005 ∨ idx = 0x3006 then classF sub
  else if (0x3001 ≤ idx ∧ idx ≤ 0x300F) ∨ (0x3211 ≤ idx ∧ idx ≤ 0x3213) then classT sub || classF sub
  else if (0x4060 ≤ idx ∧ idx ≤ 0x406D) ∨ idx = 0x4115 ∨ idx = 0x4116 then signalCodes.contains sub
  else if 0x9200 ≤ idx ∧ idx ≤ 0x92FF then (faultRow (k - 0x920000)).isSome
  else true

/-- Identity of a function: vendor, device and class code (R344); the vendor ID is the one assigned to Solahus. -/
def pcieIdentity (fn : Nat) : Nat × Nat × Nat := (Config.vendorId % 2 ^ 16, 0x0880 + fn, 0x0B4000)

namespace State

/-- A register of ring `r` (0–7) of a function. -/
def ringReg (s : State) (fn : Nat) (k : RingKind) (r off : Nat) : Nat := s.reg fn (k.base r + off)

/-- The state with a ring register written. -/
def setRingReg (s : State) (fn : Nat) (k : RingKind) (r off v : Nat) : State := s.setReg fn (k.base r + off) v

/-- A ring is enabled. -/
def ringOn (s : State) (fn : Nat) (k : RingKind) (r : Nat) : Bool := bitOf (s.ringReg fn k r k.control) 0

/-- Used space between a producer and a consumer, modulo 2^32 (R351). -/
def used (p c : Nat) : Nat := (p + 2 ^ 32 - c % 2 ^ 32) % 2 ^ 32

/-- Size of an area given as a LOG2 register with its limits. -/
def areaSize (lo hi v : Nat) : Nat := 2 ^ (if v < lo then lo else if hi < v then hi else v)

/-- Free octets of the descriptor area of receive ring `r` of `fn`. -/
def rxDescFree (s : State) (fn r : Nat) : Nat :=
  areaSize 12 26 (s.ringReg fn .rx r 0x08) - used (s.ringReg fn .rx r 0x18) (s.ringReg fn .rx r 0x1C)

/-- Free octets of the completion area of transmit ring `r` of `fn`. -/
def txCplFree (s : State) (fn r : Nat) : Nat :=
  areaSize 12 26 (s.ringReg fn .tx r 0x20) - used (s.ringReg fn .tx r 0x24) (s.ringReg fn .tx r 0x28)

/-- The placing of a frame of `len` octets in a data area: its position and the octets taken with any skip, if they fit
(R352). -/
def rxPlace (s : State) (fn r len : Nat) : Option (Nat × Nat) :=
  let size := areaSize 16 30 (s.ringReg fn .rx r 0x0C)
  let wr := s.ringReg fn .rx r 0x20
  let free := size - used wr (s.ringReg fn .rx r 0x24)
  let span := 64 * ceilDiv len 64
  let pos := wr % size
  let skip := if pos + span ≤ size then 0 else size - pos
  if skip + span ≤ free then some (if skip = 0 then pos else 0, skip + span) else none

/-- The register block of a ring disabled (R349). -/
def ringOff (s : State) (fn : Nat) (k : RingKind) (r : Nat) : State :=
  let c := s.ringReg fn k r k.control
  s.setRingReg fn k r k.control (clearBit c 0)

/-- An entry of a dump, with the values of the boundary that began the tick: index, sub, whether a 48-bit hardware counter, and the object of its sticky
bits with the bit (R354). -/
def dumpEntry (s : State) (k : Nat) (hw : Bool × Option (Nat × Nat)) : Octets :=
  let was (k : Nat) : Nat := (Sparse.get objDefault s.host.snapObj k).toNat
  let fl := (if hw.1 then 1 else 0) + match hw.2 with
    | some (w, b) => if bitOf (was w) b then 2 else 0
    | none => if hw.1 && s.host.snapWrapped.contains k then 2 else 0
  toBE 2 (k / 256) ++ toBE 1 (k % 256) ++ toBE 1 fl ++ zeros 4 ++ toBE 8 (was k)

/-- Whether the U64 object of an index and sub-index is a 48-bit hardware counter, and the object and bit of its sticky
overflow bit where the manual gives it one (R82). (Log entry 99, DESIGN CHOICE) -/
def hwCounter (k : Nat) : Bool × Option (Nat × Nat) :=
  let idx := k / 256
  let sub := k % 256
  if 0x6060 ≤ idx ∧ idx ≤ 0x6063 then (true, some (Obj.npHwWrapped (sub - 1), idx - 0x6060))
  else if 0xD200 ≤ idx ∧ idx ≤ 0xD24F then (true, some (Obj.waWrapped ((idx - 0xD200) / 5) (sub - 1), (idx - 0xD200) % 5))
  else if idx = 0x5020 then (true, some (Obj.tpEdgesWrapped (sub - 1), 0))
  else (idx == 0x4013 || idx == 0x4024 || idx == 0xD121 || idx == 0xD123, none)

/-- U64 objects that no class writes and that count nothing: times, identities, places and masks. -/
def statusU64 : List Nat :=
  [ 0x200001, 0x210003, 0x210100, 0x210101, 0x220206, 0x220702, 0x230004, 0x230005, 0x230006, 0x230007, 0x230008,
    0x231003, 0x31100C, 0x31100D, 0x31100F, 0x311015, 0x704100, 0x901001, 0xB00007, 0xB00106, 0xC00007, 0xC00008,
    0xC10005, 0xC10009, 0xA00003, 0xA00006, 0xE11002 ]

/-- Every counter object in order of index and sub-index: the U64 service counters and the hardware counters (R354). -/
def counterKeys : List Nat :=
  let rows := ((List.range 256).map cataloguePage).flatten.filter fun r =>
    r.ty == .u64 && [r.accH, r.acch, r.accM].all (fun a => a == .r || a == .no) && r.accH == .r
  let keys := (rows.map fun r => ((List.range (r.idxHi - r.idxLo + 1)).map fun i =>
    (List.range (r.subHi - r.subLo + 1)).map fun j => (r.idxLo + i) * 256 + r.subLo + j).flatten).flatten
  keys.filter fun k => keyed k && !(statusU64.any fun x => x == k)

/-- A counter dump of one function at a boundary (R354). -/
def counterDump (s : State) (fn : Nat) : State :=
  let ents := (counterKeys.map fun k => s.dumpEntry k (hwCounter k)).flatten
  let n := counterKeys.length
  let seq := s.reg fn 0x3018 * 2 ^ 32 + s.reg fn 0x301C + 1
  let lost := Sparse.get (fun _ => 0) s.host.dumpLost fn
  let rec_ := toBE 8 seq ++ toBE 8 s.tick ++ toBE 4 n ++ toBE 4 (32 + 16 * n) ++ toBE 4 (min lost unbounded) ++ zeros 4 ++ ents
  let s1 := ((s.setReg fn 0x3018 (seq / 2 ^ 32)).setReg fn 0x301C seq).setReg fn 0x3010 (s.reg fn 0x3010 + rec_.length)
  let s2 := { s1 with host := { s1.host with
    dumps := Sparse.put (fun _ => []) s1.host.dumps fn rec_, dumpLost := Sparse.put (fun _ => 0) s1.host.dumpLost fn 0 } }
  s2.vector fn 32

/-- A counter dump of the current tick that was not written whole by the end of W3: it is discarded, and the next dump says how many
were (R53, R354). (Log entry 19, DEDUCED) -/
def dumpDiscard (s : State) (fn : Nat) : State :=
  let r := Sparse.get (fun _ => []) s.host.dumps fn
  if r.isEmpty || fieldN r 8 8 != s.tick then s
  else
    let seq := s.reg fn 0x3018 * 2 ^ 32 + s.reg fn 0x301C - 1
    let s1 := ((s.setReg fn 0x3018 (seq / 2 ^ 32)).setReg fn 0x301C seq).setReg fn 0x3010 (s.reg fn 0x3010 + 2 ^ 32 - r.length)
    { s1 with host := { s1.host with
      dumps := Sparse.put (fun _ => []) s1.host.dumps fn [], dumpLost := Sparse.put (fun _ => 0) s1.host.dumpLost fn (fieldN r 24 4 + 1)
      vectors := s1.host.vectors.erase (fn * 64 + 32) } }

/-- The stamp record of the tick just drained, for one function (R355): written whole or counted as lost. -/
def stampRecord (s : State) (fn tick : Nat) : State :=
  if s.ringOn fn .stamp 0 then
    let body := s.stamp.descriptor ++ ((s.stamp.blocks.map fun b => b.2).flatten)
    let lost := Sparse.get (fun _ => 0) s.host.stampLost fn
    let rec_ := toBE 4 (16 + body.length) ++ toBE 4 (min lost unbounded) ++ toBE 8 tick ++ body
    let size := areaSize 16 30 (s.reg fn 0x3108)
    let free := size - used (s.reg fn 0x310C) (s.reg fn 0x3110)
    if rec_.length ≤ free ∧ s.pcieUp = true then
      let s1 := s.setReg fn 0x310C (s.reg fn 0x310C + rec_.length)
      let s2 := { s1 with host := { s1.host with
        stampRec := Sparse.put (fun _ => []) s1.host.stampRec fn rec_, stampLost := Sparse.put (fun _ => 0) s1.host.stampLost fn 0 } }
      s2.vector fn 33
    else { s with host := { s.host with stampLost := Sparse.put (fun _ => 0) s.host.stampLost fn (lost + 1) } }
  else s

/-- The content of a read-only device status register (R346, R397). (Log entry 26, DEDUCED) -/
def statusReg (s : State) (fn off : Nat) : Nat :=
  if off = 0 then s.mode.toNat + (if s.flag Obj.serviceAllowed then 256 else 0) +
    (if s.flag Obj.timescaleSet then 512 else 0) + (if s.flag Obj.aliveLevel then 1024 else 0)
  else if off = 4 then s.tick % 2 ^ 32
  else if off = 8 then Sparse.get (fun _ => 0) s.host.tickHi fn
  else if off = 12 then s.bound
  else if off = 0x10 then s.fault.fatal.code
  else if off = 0x14 then s.fault.fatal.source
  else if off = 0x18 then s.fault.fatal.tick % 2 ^ 32
  else if off = 0x1C then s.fault.fatal.tick / 2 ^ 32
  else if off = 0x20 then s.fault.fatal.subtick
  else if off = 0x24 then s.fault.fatal.flags
  else if 0x40 ≤ off ∧ off < 0xC0 ∧ s.mode = mHalted then
    -- LAST_ENTRIES, oldest first, with zeros in place of entries never written
    let last := (s.fault.log.drop (s.fault.log.length - 4)).map fun e => logOctets e.1 e.2
    fieldN (last.flatten ++ zeros (128 - 32 * last.length)) (off - 0x40) 4
  else 0

/-- A register of ring `r` of a function at `off` of its block that the host may set: base and size while the ring is
off, INTERVAL at any time, CONTROL but for the enable bit, which has a row of its own (R351, R354). -/
def ringWrite (s : State) (fn : Nat) (k : RingKind) (r off v : Nat) : State :=
  if k.setup.any (fun x => x == off) then (if s.ringOn fn k r then s else s.setRingReg fn k r off v)
  else if k = .dump ∧ off = 0x0C then s.setRingReg fn k r off v
  else if off = k.control then
    s.setRingReg fn k r off ((if bitOf v 0 && s.ringOn fn k r then 1 else 0) + (if bitOf v 1 then 2 else 0))
  else s

/-- A write to the capture block of PF0: base and size while its enable is 0; enabling capture starts it with the oldest whole
record, enabling either sets its pointers to 0, and disabling the feed ends a replay (R451, R455). -/
def captureWrite (s : State) (off v : Nat) : State :=
  let cap := s.capOn
  let feed := bitOf (s.reg 0 0x3854) 0
  if off = 0x3800 ∨ off = 0x3804 ∨ off = 0x3808 then (if cap then s else s.setReg 0 off v)
  else if off = 0x3840 ∨ off = 0x3844 ∨ off = 0x3848 then (if feed then s else s.setReg 0 off v)
  else if off = 0x3810 ∨ off = 0x384C then s.setReg 0 off v
  else if off = 0x3814 then
    let s1 := s.setReg 0 off (v % 4)
    if bitOf v 0 && !cap then
      let pos := match s.record.entries with | e :: _ => e.pos | [] => s.n Obj.bobRingWr
      let s2 := (s1.setReg 0 0x380C 0).setReg 0 0x3810 0
      { s2 with record := { s2.record with capPos := pos, gap := none } }.showRing
    else s1.showRing
  else if off = 0x3854 then
    let s1 := s.setReg 0 off (v % 2)
    if bitOf v 0 && !feed then (s1.setReg 0 0x384C 0).setReg 0 0x3850 0
    else if !bitOf v 0 && feed then { s1 with record := { s1.record with image := none } }.setO Obj.replayState 0
    else s1
  else s

/-- The content of a mailbox channel's register, by its offset in the channel's block (R347). -/
def chanReg (s : State) (ch off : Nat) : Nat :=
  let c := Sparse.get (fun _ => ({} : Channel)) s.host.chans ch
  let q := Sparse.get (fun _ => ({} : NoticeQueue)) s.host.notices ch
  match off with
  | 0x04 => c.ackSeq % 2 ^ 16 * 2 ^ 16 + c.ackCode % 2 ^ 16
  | 0x08 => c.rspLen % 2 ^ 16 * 2 ^ 16 + (if c.abandoned then 8 else 0) + (if c.overrun then 4 else 0) + (if c.done then 2 else 0) +
      (if c.phase = .idle then 0 else 1)
  | 0x0C => if c.irqEn then 1 else 0
  | 0x10 => match q.out with
    | some (n, _, x) => n * 2 ^ 16 + x.len
    | none => 0
  | 0x18 => if q.out.isSome then 1 else 0
  | _ => 0

/-- What the host reads in a BAR0 register; registers that are written alone and reserved offsets read 0 (R346, R347, R351–R356). -/
def readReg (s : State) (fn off : Nat) : Nat :=
  if off < 0x100 then s.statusReg fn off
  else if 0x1000 ≤ off ∧ off < 0x1200 then s.chanReg (8 * fn + (off - 0x1000) / 64) (off % 64)
  else if off = 0x3200 then s.navWr
  else if (0x2000 ≤ off ∧ off < 0x2200) ∨ (0x2400 ≤ off ∧ off < 0x2600) ∨ (0x3000 ≤ off ∧ off < 0x3040) ∨ (0x3100 ≤ off ∧ off < 0x3140) ∨
      (fn = 0 ∧ 0x3800 ≤ off ∧ off < 0x3900) ∨ (0x4000 ≤ off ∧ off < 0x4400) ∨ (0x5000 ≤ off ∧ off < 0x5008) then s.reg fn off
  else 0

/-- An octet that the host reads in BAR2: the request, reply and notice buffers of channel `off` / 0x4000 (R345). -/
def bar2Octet (s : State) (fn off : Nat) : Byte :=
  let ch := 8 * fn + off / 0x4000
  let at_ := off % 0x4000
  let c := Sparse.get (fun _ => ({} : Channel)) s.host.chans ch
  if at_ < 0x1000 then c.request.getD at_ 0
  else if at_ < 0x2000 then c.reply.getD (at_ - 0x1000) 0
  else if at_ < 0x3000 then c.notice.getD (at_ - 0x2000) 0
  else 0

/-- An octet that the host reads in BAR4: the navigation ring (R345, R356). -/
def bar4Octet (s : State) (off : Nat) : Byte := s.navOctet (off % 262144)

/-- A write to a BAR0 register that has no row of its own (R346, R347, R351). -/
def registerWrite (s : State) (fn off v : Nat) : State :=
  if 0x1000 ≤ off ∧ off < 0x1200 then
    let ch := 8 * fn + (off - 0x1000) / 64
    let c := Sparse.get (fun _ => ({} : Channel)) s.host.chans ch
    let put (c : Channel) : State := { s with host := { s.host with chans := Sparse.put (fun _ => {}) s.host.chans ch c } }
    match off % 64 with
    | 0x08 => put { c with overrun := c.overrun && !bitOf v 2, abandoned := c.abandoned && !bitOf v 3 }
    | 0x0C => put { c with irqEn := bitOf v 0 }
    | _ => s
  else if 0x2000 ≤ off ∧ off < 0x2200 then s.ringWrite fn .rx ((off - 0x2000) / 64) (off % 64) v
  else if 0x2400 ≤ off ∧ off < 0x2600 then s.ringWrite fn .tx ((off - 0x2400) / 64) (off % 64) v
  else if 0x3000 ≤ off ∧ off < 0x3040 then s.ringWrite fn .dump 0 (off - 0x3000) v
  else if 0x3100 ≤ off ∧ off < 0x3140 then s.ringWrite fn .stamp 0 (off - 0x3100) v
  else if fn = 0 ∧ 0x3800 ≤ off ∧ off < 0x3900 then s.captureWrite off v
  else if 0x4000 ≤ off ∧ off < 0x4400 then (s.setReg fn off v).unmask fn ((off - 0x4000) / 16)
  else s

end State

/-- A ring enabled with its pointers at 0 (R351). -/
def State.ringStart (s : State) (fn : Nat) (kind : RingKind) (ring : Nat) (vectorEn : Bool) : State :=
  let s1 := kind.pointers.foldl (fun s o => s.setRingReg fn kind ring o 0) s
  s1.setRingReg fn kind ring kind.control (1 + (if vectorEn then 2 else 0))

/-- RING_ENABLE: CONTROL bit 0 of a ring goes to 1; both pointers become 0 (R351). -/
def execRingEnable (fn : Fin 2) (kind : RingKind) (ring : Fin 8) (vectorEn : Bool) (s : State) :
    Host.Outcome State Fault Refusal :=
  if s.pcieUp && !s.ringOn fn kind ring && !s.host.stopped.contains fn.val then
    .next (s.ringStart fn kind ring vectorEn)
  else .next s

/-- RING_CONSUMER_WRITE: the host advances a pointer of its own (R351–R353, R355). -/
def execRingConsumerWrite (fn : Fin 2) (kind : RingKind) (ring : Fin 8) (off : Nat) (value : Nat) (s : State) :
    Host.Outcome State Fault Refusal :=
  if s.pcieUp && kind.hostPointers.any (fun x => x == off) then .next (s.setRingReg fn kind ring off value) else .next s

/-- TICK_LO_READ: reading TICK_LO latches the high half into TICK_HI of that function (R346). -/
def execTickLoRead (fn : Fin 2) (s : State) : Host.Outcome State Fault Refusal :=
  if s.pcieUp then
    .next { s with host := { s.host with tickHi := Sparse.put (fun _ => 0) s.host.tickHi fn (s.tick / 2 ^ 32 % 2 ^ 32) } }
  else .next s

/-- COUNTER_DUMP: at a boundary where TICK_COUNT is a multiple of INTERVAL (64 at least) an enabled dump ring takes a
snapshot of every counter (R354). -/
def execCounterDump (fn : Fin 2) (s : State) : Host.Outcome State Fault Refusal :=
  if s.running && s.pcieUp && s.ringOn fn .dump 0 && s.tick % (max 64 (s.reg fn 0x300C)) == 0 then .next (s.counterDump fn)
  else .next s

/-- REGISTER_WRITE: a write to a BAR0 register that has no row of its own (R346, R351). -/
def execRegisterWrite (fn : Fin 2) (off : Fin 65536) (value : Fin 4294967296) (s : State) :
    Host.Outcome State Fault Refusal :=
  if s.pcieUp then .next (s.registerWrite fn off value) else .next s

end Sys2Proof.Machine
end

