-- ==== Sys2Proof/Machine/Bus.lean ====
section
/-!
DEFINITION. Side buses, pins and the test port (R194, R501–R509): what stands behind 0xE140–0xE170.
-/

namespace Sys2Proof.Machine

namespace State

/-- An I2C controller. -/
def i2c (s : State) (k : Nat) : I2cCtl := Sparse.get (fun _ => {}) s.bus.i2c k

/-- The state with an I2C controller written. -/
def setI2c (s : State) (k : Nat) (v : I2cCtl) : State := { s with bus := { s.bus with i2c := Sparse.put (fun _ => {}) s.bus.i2c k v } }

/-- The result of a host transaction: STATUS, 2 reserved octets, the octets read (R501). -/
def i2cResult (s : State) (k status : Nat) (read : Octets) : State := s.setBlob (Obj.i2cResult k) (toBE 2 status ++ zeros 2 ++ read)

/-! ### Digital steering (R194) -/

/-- A steering value has reached the oscillator's register: the channel is well, and the member's control changes with its
own latency (R194, R214). -/
def steerSent (s : State) (k : Nat) : State :=
  let cfg := s.blob (Obj.dsteerCfg k)
  let s1 := s.steerDone k
  match s1.steeredBy 2 k with
  | some m => s1.steerApplied m (((s1.dst k).value - fieldI cfg 24 8) * fieldI cfg 12 8)
  | none => s1

/-- A transaction ends without success: the host's result, or a steering failure (R194, R501). -/
def i2cFailed (s : State) (k : Nat) (t : I2cTrans) (status : Nat) : State := match t.steer with
  | some d => s.steerFail d.val
  | none => s.i2cResult k status []

/-- The value for an interval: CENTRE and the steering word over GAIN, limited by MAX_STEP; `mode` 1 sends CENTRE.
(Log entry 88, DEDUCED) -/
def steerNext (s : State) (k mode : Nat) : Int :=
  let cfg := s.blob (Obj.dsteerCfg k)
  let centre := fieldI cfg 24 8
  let v := s.dst k
  let old := if v.started then v.value else centre
  let step : Int := fieldN cfg 20 4
  let y := match s.steeredBy 2 k with | some m => s.o (Obj.ensMemberSteerY m) | none => 0
  if mode = 1 then centre else clampI (old - step) (old + step) (centre + (if fieldI cfg 12 8 = 0 then 0 else roundAway y (fieldI cfg 12 8)))

/-- A write of a steering value, over I2C or the steering SPI. (Log entry 88, DEDUCED) -/
def steerWrite (s : State) (k : Nat) (value : Int) : State :=
  let cfg := s.blob (Obj.dsteerCfg k)
  let s1 := s.setDst k { s.dst k with want := value, busy := true }
  let bus := octetAt cfg 0
  if bus = 2 then s1.steerSent k
  else if s1.o (Obj.i2cBusState bus) = 3 then (s1.inc (Obj.i2cDropped bus)).steerFail k
  else
    let data := steerOctets cfg value
    let t : I2cTrans := ⟨octetAt cfg 1, data.length, 0, false, data, some (Fin.ofNat 4 k)⟩
    s1.setI2c bus { s1.i2c bus with steerQ := (s1.i2c bus).steerQ ++ [t] }

/-- W3 of an interval's last tick (R193, R194). -/
def steerInterval (s : State) (k : Nat) : State :=
  let cfg := s.blob (Obj.dsteerCfg k)
  let v := s.dst k
  let every := fieldN cfg 10 2
  if every = 0 ∨ s.o (Obj.dsteerState k) ≠ 1 ∨ s.age + 1 < v.start + every then s
  else
    let s1 := s.setDst k { v with start := s.age + 1 }
    let mode := s1.steerMode (s1.steeredBy 2 k).isSome
    if v.busy ∨ mode = 0 ∨ (mode = 1 ∧ v.inited) then s1
    else
      let s2 := s1.setDst k { s1.dst k with inited := decide (mode = 1), initTry := decide (mode = 1) }
      s2.steerWrite k (s2.steerNext k mode)

/-! ### I2C controllers (R501–R503) -/

/-- A host transaction as I2C_XFER holds it; none where its fields do not agree. -/
def i2cParse (b : Octets) : Option I2cTrans :=
  let wlen := octetAt b 1
  if octetAt b 0 < 128 ∧ wlen ≤ 64 ∧ octetAt b 2 ≤ 64 ∧ b.length = 8 + wlen then
    some ⟨octetAt b 0, wlen, octetAt b 2, bitOf (octetAt b 3) 0, b.drop 8, none⟩
  else none

/-- A host transaction queued, replacing one that waits; refused at once where the bus is out of service. -/
def i2cXfer (s : State) (k : Nat) (t : I2cTrans) : State :=
  if s.o (Obj.i2cBusState k) = 3 then (s.inc (Obj.i2cDropped k)).i2cResult k 0x0E24 []
  else (s.setI2c k { s.i2c k with hostQ := [t] }).i2cResult k 0x0E25 []

/-- The next transaction starts on an idle bus: steering writes first. -/
def i2cStart (s : State) (k : Nat) : State :=
  let c := s.i2c k
  if c.current.isSome ∨ s.o (Obj.i2cBusState k) ≠ 0 then s
  else match c.steerQ, c.hostQ with
    | t :: rest, _ => (s.setI2c k { c with current := some t, steerQ := rest, losses := 0, waitFree := false }).setO (Obj.i2cBusState k) 1
    | [], t :: rest => (s.setI2c k { c with current := some t, hostQ := rest, losses := 0, waitFree := false }).setO (Obj.i2cBusState k) 1
    | [], [] => s

/-- The transaction in progress leaves the bus. -/
def i2cFree (s : State) (k : Nat) : State :=
  (s.setI2c k { s.i2c k with current := none, losses := 0, waitFree := false }).setO (Obj.i2cBusState k) 0

/-- A transaction ends with STOP and its status; a NACK is counted and not retried. -/
def i2cDone (s : State) (k : Nat) (e : I2cEnd) : State :=
  let c := s.i2c k
  match c.current with
  | none => s
  | some t =>
    if c.waitFree then s
    else
      let s1 := s.i2cFree k
      match e, t.steer with
      | .done _, some d => s1.steerSent d.val
      | .done r, none => s1.i2cResult k 0 (padTo t.rlen r)
      | .addrNack, _ => (s1.inc (Obj.i2cNacks k)).i2cFailed k t 0x0E20
      | .dataNack, _ => (s1.inc (Obj.i2cNacks k)).i2cFailed k t 0x0E21

/-- Arbitration lost: counted; the controller follows the winner and waits for bus-free (R502). -/
def i2cLost (s : State) (k : Nat) : State :=
  let c := s.i2c k
  if c.current.isNone ∨ c.waitFree then s
  else (s.setI2c k { c with losses := c.losses + 1, waitFree := true }).inc (Obj.i2cArbLost k)

/-- Bus-free: the transaction restarts from START, or is dropped after its third retry lost (R502). -/
def i2cBusFree (s : State) (k : Nat) : State :=
  let c := s.i2c k
  match c.current with
  | none => s
  | some t =>
    if !c.waitFree then s
    else if 4 ≤ c.losses then ((s.i2cFree k).inc (Obj.i2cDropped k)).i2cFailed k t 0x0E22
    else s.setI2c k { c with waitFree := false }

/-- A controller's reset: an idle bus, or the recovery begun (R503 steps 1 and 2).
(Log entries 88, DEDUCED; 89, DEDUCED) -/
def i2cReset (s : State) (k : Nat) (l : I2cLines) : State :=
  let s1 := s.setI2c k { s.i2c k with attempts := 0, waitFree := false, losses := 0 }
  match l with
  | .high => s1.setO (Obj.i2cBusState k) (if (s1.i2c k).current.isSome then 1 else 0)
  | .freed => s1.setO (Obj.i2cBusState k) (if (s1.i2c k).current.isSome then 1 else 0)
  | .stuck => s1.setO (Obj.i2cBusState k) 2

/-- The bus is out of service: every transaction is answered 0x0E24 and counted (R503 step 4). -/
def i2cStuck (s : State) (k : Nat) : State :=
  let c := s.i2c k
  let all := c.current.toList ++ c.steerQ ++ c.hostQ
  let s1 := s.setI2c k { c with current := none, steerQ := [], hostQ := [], waitFree := false }
  let s2 := all.foldl (fun s t => (s.inc (Obj.i2cDropped k)).i2cFailed k t 0x0E24) s1
  ((s2.inc (Obj.i2cStuckEvents k)).setO (Obj.i2cBusState k) 3).faulted 0x0E03 k 0

/-- SCL stretched beyond 25 ms: the transaction ends and the controller resets (R503). -/
def i2cStretch (s : State) (k : Nat) (l : I2cLines) : State :=
  match (s.i2c k).current with
  | none => s
  | some t => ((s.i2cFree k).i2cFailed k t 0x0E23).i2cReset k l

/-- A timed recovery attempt: eight after a reset, then one a second (R503 steps 3 to 5). -/
def i2cAttempt (s : State) (k : Nat) (freed : Bool) : State :=
  let c := s.i2c k
  let st := s.o (Obj.i2cBusState k)
  if st = 2 then
    if freed then (s.setI2c k { c with attempts := 0 }).setO (Obj.i2cBusState k) (if c.current.isSome then 1 else 0)
    else if c.attempts + 1 < 8 then s.setI2c k { c with attempts := c.attempts + 1 }
    else (s.setI2c k { c with attempts := 8 }).i2cStuck k
  else if st = 3 then (if freed then (s.inc (Obj.i2cRecoveries k)).setO (Obj.i2cBusState k) 0 else s)
  else s

/-! ### Target, console, test port (R504, R507, R509) -/

/-- An octet of BAR0 0x0000–0x003F as the I2C target mirrors it. -/
def targetOctet (s : State) (off : Nat) : Byte := BitVec.ofNat 8 (s.statusReg 0 (off / 4 * 4) / 256 ^ (off % 4))

/-- The console sends for a tick: UART_BAUD / 10 octets a second, lines in order. -/
def uartTick (s : State) : State :=
  let credit := s.bus.uartCredit + s.n Obj.uartBaud
  let send (l : List (Nat × Nat)) (n : Nat) : List (Nat × Nat) := l.foldl (fun (a : List (Nat × Nat) × Nat) x =>
    if x.2 ≤ a.2 then (a.1, a.2 - x.2) else (a.1 ++ [(x.1, x.2 - a.2)], 0)) ([], n) |>.1
  let left := send s.bus.uart (credit / 81920)
  { s with bus := { s.bus with uart := left, uartCredit := if left.isEmpty then 0 else credit % 81920 } }

/-- IDCODE: revision, part number 0x0880, maker, and a 1 (R509). -/
def idcode (s : State) : Nat := (s.n Obj.siliconRev % 16) * 2 ^ 28 + 0x0880 * 2 ^ 12 + (Config.jedecId % 2 ^ 11) * 2 + 1

/-- An instruction that drives pins is accepted only in RESET with PWR_OK high; otherwise it acts as BYPASS. -/
def jtagDrive (s : State) (i : Jtag) : State :=
  { s with bus := { s.bus with jtag := if s.mode = mReset ∧ s.sys.pwrOk = true then i else .bypass } }

end State

/-! ### Commands -/

/-- DSTEER_INTERVAL: W3 of an interval's last tick (R194). -/
def execDsteerInterval (ds : Fin 4) (s : State) : Host.Outcome State Fault Refusal :=
  if s.running && s.sys.window == .w3 then .next (s.steerInterval ds.val) else .next s

/-- I2C_XFER: a host transaction (R501). -/
def execI2cXfer (cls : PortClass) (ctl : Fin 2) (blob : Octets) (s : State) : Host.Outcome State Fault Refusal :=
  if s.running && (cls == .hostH || cls == .mgmtM) then
    match State.i2cParse blob with
    | some t => .next (s.i2cXfer ctl.val t)
    | none => .next s
  else .next s

/-- I2C_TRANSACTION_START (R501). -/
def execI2cTransactionStart (ctl : Fin 2) (s : State) : Host.Outcome State Fault Refusal :=
  if s.alive then .next (s.i2cStart ctl.val) else .next s

/-- I2C_TRANSACTION_DONE (R501). -/
def execI2cTransactionDone (ctl : Fin 2) (e : I2cEnd) (s : State) : Host.Outcome State Fault Refusal :=
  if s.alive then .next (s.i2cDone ctl.val e) else .next s

/-- I2C_ARBITRATION_LOST (R502). -/
def execI2cArbitrationLost (ctl : Fin 2) (s : State) : Host.Outcome State Fault Refusal :=
  if s.alive then .next (s.i2cLost ctl.val) else .next s

/-- I2C_BUS_FREE (R502). -/
def execI2cBusFree (ctl : Fin 2) (s : State) : Host.Outcome State Fault Refusal :=
  if s.alive then .next (s.i2cBusFree ctl.val) else .next s

/-- I2C_STRETCH_TIMEOUT (R503). -/
def execI2cStretchTimeout (ctl : Fin 2) (lines : I2cLines) (s : State) : Host.Outcome State Fault Refusal :=
  if s.alive then .next (s.i2cStretch ctl.val lines) else .next s

/-- I2C_BUS_RESET: a write of 0 to I2C_BUS_STATE on class H (R503). -/
def execI2cBusReset (cls : PortClass) (ctl : Fin 2) (lines : I2cLines) (s : State) : Host.Outcome State Fault Refusal :=
  if s.running && cls == .hostH then .next (s.i2cReset ctl.val lines) else .next s

/-- I2C_RECOVERY_ATTEMPT (R503). -/
def execI2cRecoveryAttempt (ctl : Fin 2) (freed : Bool) (s : State) : Host.Outcome State Fault Refusal :=
  if s.alive then .next (s.i2cAttempt ctl.val freed) else .next s

/-- I2C_TARGET_SET_OFFSET: served from BOOT to HALTED (R504). -/
def execI2cTargetSetOffset (off : Fin 256) (s : State) : Host.Outcome State Fault Refusal :=
  if s.mode = mReset then .next s else .next { s with bus := { s.bus with targetOffset := off.val % 64 } }

/-- Octets read from the target's offset on, wrapping at 64 (R504). (Log entry 88, DEDUCED) -/
def State.targetRead (s : State) (n : Nat) : State :=
  let out := (List.range n).map fun i => s.targetOctet ((s.bus.targetOffset + i) % 64)
  { s with bus := { s.bus with targetOut := out, targetOffset := (s.bus.targetOffset + n) % 64 } }

/-- I2C_TARGET_READ: octets from the offset on, wrapping at 64 (R504). (Log entry 88, DEDUCED) -/
def execI2cTargetRead (n : Fin 256) (s : State) : Host.Outcome State Fault Refusal :=
  if s.mode = mReset then .next s else .next (s.targetRead n)

/-- JTAG_BYPASS (R509). -/
def execJtagBypass (s : State) : Host.Outcome State Fault Refusal := .next { s with bus := { s.bus with jtag := .bypass, jtagOut := 0 } }

/-- JTAG_IDCODE (R509). -/
def execJtagIdcode (s : State) : Host.Outcome State Fault Refusal :=
  .next { s with bus := { s.bus with jtag := .idcode, jtagOut := s.idcode } }

/-- JTAG_SAMPLE_PRELOAD: the boundary register captures the pins, or is loaded (R509). -/
def execJtagSamplePreload (register : Octets) (s : State) : Host.Outcome State Fault Refusal :=
  .next { s with bus := { s.bus with jtag := .samplePreload, boundary := register } }

/-- JTAG_EXTEST (R509). -/
def execJtagExtest (s : State) : Host.Outcome State Fault Refusal := .next (s.jtagDrive .extest)

/-- JTAG_EXTEST_PULSE (R509). -/
def execJtagExtestPulse (s : State) : Host.Outcome State Fault Refusal := .next (s.jtagDrive .extestPulse)

/-- JTAG_EXTEST_TRAIN (R509). -/
def execJtagExtestTrain (s : State) : Host.Outcome State Fault Refusal := .next (s.jtagDrive .extestTrain)

end Sys2Proof.Machine
end

