-- ==== Sys2Proof/Machine/Directory.lean ====
section
/-!
DEFINITION. The session directory and the grove caches (R378–R380): the requests that a grove makes for a line, the order in which a slice
serves them, and the ownership that a commit needs (R363).
-/

namespace Sys2Proof.Machine

namespace State

/-- The set of a grove cache: the lines held, most recently used first, true for M. -/
def cacheSet (s : State) (g line : Nat) : List (Nat × Bool) := Sparse.get (fun _ => []) s.shuttle.caches (512 * g + line % 512)

/-- The directory's record of a line. -/
def dirOf (s : State) (line : Nat) : DirState := Sparse.get (fun _ => .uncached) s.shuttle.dir line

/-- The directory's record written. -/
def setDir (s : State) (line : Nat) (d : DirState) : State :=
  { s with shuttle := { s.shuttle with dir := Sparse.put (fun _ => .uncached) s.shuttle.dir line d } }

/-- A grove's copy of a line dropped from its cache. -/
def dropCopy (s : State) (g line : Nat) : State :=
  { s with shuttle := { s.shuttle with caches := Sparse.put (fun _ => []) s.shuttle.caches (512 * g + line % 512) ((s.cacheSet g line).filter fun x => x.1 != line) } }

/-- A line that the directory writes itself: no grove holds it any more (R375). -/
def recallAll (s : State) (line : Nat) : State :=
  ((List.range 16).foldl (fun s g => if (s.cacheSet g line).any fun x => x.1 == line then s.dropCopy g line else s) s).setDir line .uncached

/-- The owner writes its line back and gives it up: an eviction or a recall (R379). -/
def putLine (s : State) (g line : Nat) : State :=
  match s.dirOf line with
  | .owned h => if h = g then (s.dropCopy g line).setDir line .uncached else s
  | _ => s

/-- A line placed in a cache of 8 ways, the least recently used leaving it (R378). -/
def placeCopy (s : State) (g line : Nat) (m : Bool) : State :=
  let old := (s.cacheSet g line).filter fun x => x.1 != line
  let s1 := match (if 8 ≤ old.length then old.getLast? else none) with
    | some (l, true) => s.putLine g l
    | some (l, false) =>
      let s1 := s.dropCopy g l
      (match s1.dirOf l with
        | .shared gs => s1.setDir l (if (gs.filter fun x => x != g).isEmpty then .uncached else .shared (gs.filter fun x => x != g))
        | _ => s1)
    | none => s
  let rest := (s1.cacheSet g line).filter fun x => x.1 != line
  { s1 with shuttle := { s1.shuttle with caches := Sparse.put (fun _ => []) s1.shuttle.caches (512 * g + line % 512) ((line, m) :: rest) } }

/-- A 48-bit hardware counter without a sticky bit of its own advances by one (R82). (Log entry 74, DEDUCED) -/
def incHw (s : State) (k : Nat) : State := s.addHwKey k 1

/-- GetS: the grove joins the sharers, the owner recalled first (R379). -/
def getLine (s : State) (g line : Nat) : State :=
  if (s.cacheSet g line).any fun x => x.1 == line then (s.placeCopy g line (((s.cacheSet g line).find? fun x => x.1 == line).map (·.2) == some true)).incHw (Obj.cacheHits g)
  else
    let s1 := match s.dirOf line with | .owned h => s.putLine h line | _ => s
    let gs := match s1.dirOf line with | .shared l => l | _ => []
    (((s1.placeCopy g line false).setDir line (.shared ((gs.filter fun x => x != g) ++ [g])))).incHw (Obj.cacheMisses g)

/-- An S line in which a grove's cache finds an error is invalidated and fetched again (R378). -/
def refetch (s : State) (g line : Nat) : State :=
  if (s.cacheSet g line).any fun x => x.1 == line then (s.dropCopy g line).getLine g line else s

/-- GetM: every other copy is invalidated or recalled, and the grove owns the line (R379). -/
def ownLine (s : State) (g line : Nat) : State :=
  match s.dirOf line with
  | .owned h =>
    if h = g then (s.placeCopy g line true).incHw (Obj.cacheHits g)
    else (((s.putLine h line).placeCopy g line true).setDir line (.owned g)).incHw (Obj.cacheMisses g)
  | .shared gs =>
    let s1 := (gs.filter fun x => x != g).foldl (fun s x => s.dropCopy x line) s
    ((s1.placeCopy g line true).setDir line (.owned g)).incHw (if gs.contains g then Obj.cacheHits g else Obj.cacheMisses g)
  | .uncached => ((s.placeCopy g line true).setDir line (.owned g)).incHw (Obj.cacheMisses g)

/-- The rank of a grove in a tick (R380). -/
def dirRank (s : State) (g : Nat) : Nat := (g + 16 - s.tick % 16) % 16

/-- The requests for one line that reach its slice in one cycle: every PutM, then the others by rank (R380). -/
def dirServe (s : State) (line : Nat) (rs : List DirReq) : State :=
  let gone := rs.filterMap fun r => match r with | .putM g => some g.val | _ => none
  let s1 := gone.foldl (fun s g => s.putLine g line) s
  let asks := rs.filterMap fun r => match r with | .getS g => some (g.val, false) | .getM g => some (g.val, true) | .putM _ => none
  let ordered := sortBy (fun (a b : Nat × Bool) => decide (s.dirRank a.1 < s.dirRank b.1)) asks
  ordered.foldl (fun s x => if x.2 then s.ownLine x.1 line else s.getLine x.1 line) s1

end State

end Sys2Proof.Machine
end

