-- ==== Sys2Proof/Machine/Net.lean ====
section
/-!
DEFINITION. Network ports: link state, receive filtering and steering, host batches, the transmit queues and launch at a
time, SyncE quality and ESMC, redundancy emission, and the Heddle buckets (R245–R275, R342).
-/

namespace Sys2Proof.Machine

/-- Picoseconds in 2^-32 ns, rounded to nearest. -/
def psUnits (ps : Int) : Int := roundUpHalf (ps * nsUnits) 1000

/-- The ones' complement sum of an octet string, with the carries folded in. -/
def onesSum (bs : Octets) : Nat :=
  let rec go : Octets → Nat → Nat
    | a :: b :: t, acc => go t (acc + a.toNat * 256 + b.toNat)
    | [a], acc => acc + a.toNat * 256
    | [], acc => acc
  let v := go bs 0
  if v = 0 then 0 else (v - 1) % 65535 + 1

/-- A header or a message with its checksum inside sums to all ones. -/
def sumOk (bs : Octets) : Bool := onesSum bs == 65535

/-- The UDP or TCP part of a packet (R254 stage 4): ports, payload, ERRORS. -/
def parseL4 (p : Parsed) (l4 : Octets) : Parsed :=
  let pseudo := p.srcIp ++ p.dstIp ++ toBE 2 (p.proto.getD 0) ++ toBE 4 l4.length
  let trunc : Parsed := { p with errors := setBit p.errors 7 }
  let ports : Parsed := { p with srcPort := some (fieldN l4 0 2), dstPort := some (fieldN l4 2 2) }
  if p.proto = some 17 then
    if l4.length < 8 then trunc
    else
      let n := fieldN l4 4 2
      if n < 8 ∨ l4.length < n then { ports with errors := setBit p.errors 7 }
      else
        let seg := l4.take n
        let pseudo := p.srcIp ++ p.dstIp ++ toBE 2 17 ++ toBE 4 n
        let ok := (fieldN l4 6 2 == 0 && p.ip == 4) || (fieldN l4 6 2 != 0 && sumOk (pseudo ++ seg))
        { ports with payload := seg.drop 8, errors := if ok then p.errors else setBit p.errors 6 }
  else if p.proto = some 6 then
    if l4.length < 20 ∨ l4.length < 4 * (octetAt l4 12 / 16) then trunc
    else
      let ok := sumOk (pseudo ++ l4)
      { ports with payload := l4.drop (4 * (octetAt l4 12 / 16)), errors := if ok then p.errors else setBit p.errors 6 }
  else p

/-- The next header names an IPv6 extension header (R254). -/
def isExtension (n : Nat) : Bool := [0, 43, 44, 50, 51, 60, 135, 139, 140, 253, 254].contains n

/-- What follows the EtherType (R254 stage 4). -/
def parseL3 (p : Parsed) (r : Octets) : Parsed :=
  if p.etherType = 0x0800 then
    let hl := 4 * (octetAt r 0 % 16)
    let total := fieldN r 2 2
    if r.length < 20 ∨ r.length < hl then { p with errors := setBit p.errors 7 }
    else
      let bad := octetAt r 0 / 16 != 4 || decide (hl < 20) || decide (total < hl) || decide (r.length < total) ||
        !sumOk (r.take hl)
      let frag := decide (fieldN r 6 2 % 2 ^ 14 ≠ 0)
      let q : Parsed := { p with ip := 4, srcIp := octets r 12 4, dstIp := octets r 16 4, proto := some (octetAt r 9), fragment := frag }
      if bad then { q with errors := setBit q.errors 5 }
      else if frag then q
      else parseL4 q ((r.take total).drop hl)
  else if p.etherType = 0x86DD then
    if r.length < 40 then { p with errors := setBit p.errors 7 }
    else
      let len := fieldN r 4 2
      let q : Parsed := { p with ip := 6, srcIp := octets r 8 16, dstIp := octets r 24 16 }
      if octetAt r 0 / 16 ≠ 6 ∨ r.length < 40 + len then { q with errors := setBit q.errors 5 }
      else
        let next := octetAt r 6
        if next = 44 then
          (if len < 8 then { q with errors := setBit q.errors 7 }
           else if isExtension (octetAt r 40) then p
           else { q with proto := some (octetAt r 40), fragment := true })
        else if isExtension next then p
        else parseL4 { q with proto := some next } ((r.take (40 + len)).drop 40)
  else { p with payload := r }

/-- The headers of a frame given from its destination address, without FCS (R254 stage 4).
(Log entry 57, PRESUMED) -/
def parseFrame (f : Octets) : Parsed :=
  let isTag (r : Octets) : Bool := fieldN r 0 2 == 0x8100 || fieldN r 0 2 == 0x88A8
  let base : Parsed := { dst := octets f 0 6, src := octets f 6 6 }
  if f.length < 14 then { base with errors := 128 }
  else
    let r0 := f.drop 12
    let t1 := isTag r0
    let r1 := if t1 then r0.drop 4 else r0
    let t2 := t1 && isTag r1
    let r2 := if t2 then r1.drop 4 else r1
    let rt := fieldN r2 0 2 == 0xF1C1
    let r3 := if rt then r2.drop 6 else r2
    let p : Parsed := { base with
      tags := (if t1 then [r0.take 4] else []) ++ (if t2 then [r1.take 4] else []), rtag := rt, etherType := fieldN r3 0 2 }
    if r3.length < 2 then { p with errors := 128 } else parseL3 p (r3.drop 2)

/-- The records of a dictionary message, `n` at most; none when a length disagrees with the message (R336). -/
def parseRecs : Nat → Octets → Option (List DictRec)
  | 0, _ => some []
  | n + 1, b =>
    if b.length < 8 then none
    else
      let len := fieldN b 4 2
      let span := 8 + 8 * ceilDiv len 8
      if b.length < span then none
      else
        let sub := octetAt b 1
        let idx := fieldN b 2 2
        let r := match octetAt b 0 with
          | 1 => DictRec.read idx sub
          | 2 => DictRec.write idx sub (octets b 8 len)
          | 3 => DictRec.describe idx sub
          | a => DictRec.other a idx sub
        (parseRecs n (b.drop span)).map fun t => r :: t

/-- TAG and records of a dictionary message; none when it is malformed (R336, R348). -/
def parseDict (b : Octets) : Option (Nat × List DictRec) :=
  if b.length < 16 ∨ fieldN b 0 2 ≠ 1 then none
  else (parseRecs (fieldN b 2 2) (b.drop 16)).map fun l => (fieldN b 4 4, l)

/-- The vendor's 16 octets of an address: IPv4 mapped into IPv6, or a MAC address first (R288). -/
def addr16 (ip : Nat) (a : Octets) : Octets :=
  if ip = 4 then zeros 10 ++ [0xFF, 0xFF] ++ a else if ip = 6 then a else a ++ zeros 10

namespace State

/-! ### Ports and MACs (R245–R248) -/

/-- The mode of the port that MAC `m` belongs to. -/
def macMode (s : State) (m : Nat) : Nat := s.n (Obj.npMode (m / 2))

/-- MAC `m` exists in the mode of its port. -/
def macUsed (s : State) (m : Nat) : Bool :=
  let k := s.macMode m
  if k = 1 then m % 2 == 0 else decide (2 ≤ k ∧ k ≤ 4)

/-- The MAC that lane `n` belongs to. -/
def laneMac (s : State) (n : Nat) : Nat := if s.macMode n = 1 then 2 * (n / 2) else n

/-- The APLL of the MAC's port group: 2 for N0, 3 for N1 (R246). -/
def macApll (m : Nat) : Nat := if m < 8 then 2 else 3

/-- MAC `m` is UP. -/
def macUp (s : State) (m : Nat) : Bool := s.macUsed m && s.o (Obj.npLinkState m) == 3

/-- A MAC. -/
def mac (s : State) (m : Nat) : Mac := Sparse.get (fun _ => {}) s.net.macs m

/-- The state with a MAC written. -/
def setMac (s : State) (m : Nat) (v : Mac) : State := { s with net := { s.net with macs := Sparse.put (fun _ => {}) s.net.macs m v } }

/-- The rate of a MAC in Gb/s. -/
def macRate (s : State) (m : Nat) : Nat := match s.macMode m with
  | 1 => 100
  | 2 => 50
  | 3 => 25
  | _ => 10

/-- The time of `k` octets on the wire of a MAC, in 2^-32 ns, rounded up. -/
def wireTime (s : State) (m k : Nat) : Int := ceilDivI ((k * 8 : Nat) * nsUnits) (s.macRate m)

/-- The uncertainty of a capture by the mode of the port (R245). -/
def modeUnc (k : Nat) : Nat := match k with
  | 0 => 0
  | 1 => 15
  | 2 => 15
  | 3 => 20
  | _ => 40

/-- The PORT term of a MAC (R251). -/
def portTerm (s : State) (m : Nat) : Nat := boundAdd (s.n (Obj.npTsUncPs m)) (s.n (Obj.npAsymBoundPs m))

/-- A MAC's own address: the fused base address plus its number (R254). -/
def macAddr (s : State) (m : Nat) : Octets := toBE 6 ((beNat (s.blob 0x100004) + m) % 2 ^ 48)

/-- A MAC enters UP: no ESMC PDU has been decoded since (R266). (Log entry 56, DESIGN CHOICE) -/
def macEnterUp (s : State) (m : Nat) : State :=
  (((s.setO (Obj.npLinkState m) 3).setN (Obj.esmcRxSsm m) 0xFF).setMac m { s.mac m with esmcRx := s.age, grid := s.sys.free }).drew

/-- The lane rate of a MAC in Mb/s (R245). -/
def laneRate (s : State) (m : Nat) : Nat := match s.macMode m with
  | 0 => 0
  | 1 => 53125
  | 2 => 53125
  | 3 => 25781
  | _ => 10312

/-- The redundancy pair of a MAC, if any, of two MACs at one lane rate: the pair, its kind, and the partner; `true` on the first MAC
(R267). -/
def redPairOf (s : State) (m : Nat) : Option (Nat × Nat × Nat × Bool) :=
  (List.range 8).findSome? fun k =>
    let b := s.blob (Obj.redPair k)
    let a := octetAt b 0
    let c := octetAt b 1
    let kind := octetAt b 2
    if (kind = 1 ∨ kind = 2) ∧ a ≠ c ∧ s.laneRate a = s.laneRate c then
      (if a = m then some (k, kind, c, true) else if c = m then some (k, kind, a, false) else none)
    else none

/-- The next redundancy number of a pair, taken (R267). -/
def takeRed (s : State) (k : Nat) : State × Nat :=
  let v := s.n (Obj.redSeq k)
  (s.setN (Obj.redSeq k) ((v + 1) % 65536), v)

/-! ### Host batches (R253, R352, R353) -/

/-- The octets of all open batches of a ring, written with their headers. -/
def openOctets (s : State) (base : Nat) : Nat :=
  sumN ((List.range 16).map fun m => match Sparse.get (fun _ => none) s.net.batches (base + m) with
    | some b => 32 + 16 * b.descs.length
    | none => 0)

/-- The 32-octet header of a batch (R253). -/
def batchHeader (b : RxBatch) (mac lost : Nat) (completion : Bool) : Octets :=
  toBE 8 b.tick ++ toBE 4 b.gen ++ toBE 2 b.descs.length ++ toBE 1 mac ++
    toBE 1 ((if b.set then 1 else 0) + (if lost ≠ 0 then 2 else 0) + (if completion then 4 else 0)) ++
    toBE 4 (min lost 0xFFFFFFFF) ++ zeros 12

/-- An open batch written to its ring and closed: key 16 r + m for receive ring r, 256 + 16 r + m for the completions of
transmit ring r (R253, R352, R353). -/
def closeBatch (s : State) (key : Nat) : State :=
  match Sparse.get (fun _ => none) s.net.batches key with
  | none => s
  | some b =>
    let cpl := decide (256 ≤ key)
    let ring := key % 256 / 16
    let fn := ring / 8
    let r := ring % 8
    let k := if cpl then RingKind.tx else RingKind.rx
    let lost := if cpl then 0 else Sparse.get (fun _ => 0) s.net.lost ring
    let rec_ := batchHeader b (key % 16) lost cpl ++ b.descs.flatten
    let gone : State := { s with net := { s.net with batches := Sparse.put (fun _ => none) s.net.batches key none } }
    let s0 : State := if cpl then
        { gone with net := { gone.net with
          outstanding := Sparse.put (fun _ => 0) gone.net.outstanding ring (Sparse.get (fun _ => 0) gone.net.outstanding ring - b.descs.length) } }
      else gone
    -- a completion is never dropped: its batch waits for the link (R353)
    if cpl && s.ringOn fn k r && !s.pcieUp then s
    else if s.ringOn fn k r && s.pcieUp then
      let wr := if cpl then 0x24 else 0x18
      let s1 := s0.setRingReg fn k r wr (s.ringReg fn k r wr + rec_.length)
      let s2 : State := { s1 with net := { s1.net with
        lost := if cpl then s1.net.lost else Sparse.put (fun _ => 0) s1.net.lost ring 0
        written := Sparse.put (fun _ => []) s1.net.written (ring + if cpl then 16 else 0) rec_ } }
      if bitOf (s.ringReg fn k r k.control) 1 then s2.vector fn ((if cpl then 24 else 16) + r) else s2
    else s0

/-- A batch is due to be closed (R253). -/
def batchDue (s : State) (b : RxBatch) : Bool :=
  decide (256 ≤ b.descs.length) || decide (b.openedAt + 3 ≤ s.age) || (s.sys.realignTick && b.openedAt != s.age)

/-- A descriptor added to the batch of its MAC and ring; a batch that is due is closed first (R253). -/
def pushDesc (s : State) (key : Nat) (d : Octets) : State :=
  let s1 := match Sparse.get (fun _ => none) s.net.batches key with
    | some b => if s.batchDue b then s.closeBatch key else s
    | none => s
  let b : RxBatch := match Sparse.get (fun _ => none) s1.net.batches key with
    | some b => { b with descs := b.descs ++ [d] }
    | none => { tick := s1.tick, openedAt := s1.age, gen := s1.n Obj.anchorGen, set := s1.flag Obj.timescaleSet, descs := [d] }
  let s2 : State := { s1 with net := { s1.net with batches := Sparse.put (fun _ => none) s1.net.batches key (some b) } }
  if 256 ≤ b.descs.length then s2.closeBatch key else s2

/-- A received frame of `len` octets with FCS placed for a host ring, or dropped for lack of room (R253, R352). -/
def hostDeliver (s : State) (m ring rule : Nat) (p : Parsed) (len errors : Nat) (ingress : Int) : State :=
  let fn := ring / 8
  let r := ring % 8
  let key := 16 * ring + m
  -- the batch that would contain it grows by a descriptor, or begins with a header and one
  let more := match Sparse.get (fun _ => none) s.net.batches key with
    | some b => if s.batchDue b then 48 else 16
    | none => 48
  let room := match s.rxPlace fn r len with
    | some x => if s.openOctets (16 * ring) + more ≤ s.rxDescFree fn r then some x else none
    | none => none
  match (if s.ringOn fn .rx r && s.pcieUp then room else none) with
  | none =>
    let s1 := s.inc (Obj.npRxRingDrops m)
    { s1 with net := { s1.net with lost := Sparse.put (fun _ => 0) s1.net.lost ring (Sparse.get (fun _ => 0) s1.net.lost ring + 1) } }
  | some (pos, span) =>
    let info := (if p.fragment then 1 else 0) + (if p.tags.isEmpty then 0 else 2) + (if p.rtag then 4 else 0)
    let tci := match p.tags with | t :: _ => fieldN t 2 2 | [] => 0
    let d := toBE 4 (descStamp ingress) ++ toBE 2 len ++ toBE 2 errors ++ toBE 1 rule ++ toBE 1 info ++ toBE 2 tci ++ toBE 4 pos
    (s.setRingReg fn .rx r 0x20 (s.ringReg fn .rx r 0x20 + span)).pushDesc key d

/-- A frame for NP_DEFAULT_RING, dropped when that holds 0xFF (R255). -/
def defaultDeliver (s : State) (m rule : Nat) (p : Parsed) (len errors : Nat) (ingress : Int) : State :=
  let r := s.n Obj.npDefaultRing
  if r < 16 then s.hostDeliver m r rule p len errors ingress else s

/-- The completion of a host frame: ERRORS bit 0 LATE, 1 LINK, 2 DESC (R253, R263). (Log entry 58, DEDUCED) -/
def complete (s : State) (m ring index len errors : Nat) (egress : Option Int) : State :=
  let d := toBE 4 (match egress with | some t => descStamp t | none => 0) ++ toBE 2 len ++ toBE 2 errors ++ toBE 1 0xFF ++
    zeros 3 ++ toBE 4 index
  s.pushDesc (256 + 16 * ring + m) d

/-! ### Heddle buckets (R273–R275) -/

/-- One run of the bucket function of R273 on a word: whether it admits, and the word after. -/
def heddleAdmit (w now rate burst cost : Nat) : Bool × Nat :=
  let tok := w / 2 ^ 20 % 4096
  let st := w % 2 ^ 20
  let e := (now + 2 ^ 20 - st) % 2 ^ 20
  let add := e * rate / 1024
  let full := decide (burst * 16 ≤ tok + add)
  let tok1 := if full then burst * 16 else tok + add
  let st1 := if full then now else if add ≠ 0 then (st + add * 1024 / rate) % 2 ^ 20 else st
  let ok := decide (cost ≤ tok1)
  (ok, (if ok then tok1 - cost else tok1) * 2 ^ 20 + st1)

/-- TOKENS and STAMP, without its modulus, that the buckets of group `g` which are not listed hold now: full, or what has refilled since a
change of RL_RATE or RL_BURST found them full at the old burst (R273). -/
def bucketLevel (s : State) (g : Nat) : Nat × Nat :=
  let now := s.tick / 8
  let rate := s.n (Obj.rlRate (g - 1))
  let top := s.n (Obj.rlBurst (g - 1)) * 16
  match Sparse.get (fun _ => none) s.serv.bucketBase g with
  | none => (top, now)
  | some (tok, at_) =>
    let add := (now - at_) * rate / 1024
    if top ≤ tok + add then (top, now) else (tok + add, if add = 0 then at_ else at_ + add * 1024 / rate)

/-- The bucket of index `k` run for group `g` (R273): one that is not listed holds what `bucketLevel` says. -/
def runBucket (s : State) (k g now cost : Nat) : State × Bool :=
  let rate := s.n (Obj.rlRate (g - 1))
  let burst := s.n (Obj.rlBurst (g - 1))
  let full := burst * 16 * 2 ^ 20 + now
  let level := s.bucketLevel g
  let w := match Sparse.get (fun _ => none) s.serv.buckets k with | some b => b.2 | none => level.1 * 2 ^ 20 + level.2 % 2 ^ 20
  let x := heddleAdmit w now rate burst cost
  let entry := if x.2 = full ∧ level.1 = burst * 16 then none else some (g, x.2)
  ({ s with serv := { s.serv with buckets := Sparse.put (fun _ => none) s.serv.buckets k entry } }, x.1)

/-- The bucket index of a frame (R273). (Log entry 63, DEDUCED) -/
def bucketOf (s : State) (g : Nat) (p : Parsed) : Nat :=
  let key := if p.ip = 4 then p.srcIp
    else if p.ip = 6 then
      let n := s.n Obj.rlPrefixV6
      toBE 16 (beNat p.srcIp / 2 ^ (128 - n) * 2 ^ (128 - n))
    else p.src
  crc32c (toBE 4 (s.n Obj.rlSeed) ++ toBE 1 g ++ key) % 2 ^ 22

/-- The time of the bucket function for the current tick (R273). -/
def bucketNow (s : State) : Nat := s.tick / 8 % 2 ^ 20

/-- The rate-limit group of a frame class: 1 NTP, 2 NTS, 3 PTP, 0 none (R273). -/
def groupOf (c : FrameClass) : Nat := match c with
  | .ntp => 1
  | .nts => 2
  | .ptpEvent => 3
  | .ptpGeneral => 3
  | .esmc => 0

/-! ### Receive stages (R254–R257, R272) -/

/-- The destination filter (R254 stage 2). -/
def destOk (s : State) (m : Nat) (dst : Octets) : Bool :=
  let b := s.blob (Obj.npMacTable m)
  (List.range 16).any (fun k => octetAt b (8 * k + 6) % 2 == 1 && octets b (8 * k) 6 == dst) ||
    (s.flag (Obj.npAcceptBcast m) && dst == List.replicate 6 0xFF)

/-- A frame carries a PTP message: its octets, if so. -/
def ptpPayload (p : Parsed) : Option Octets :=
  if p.ip = 0 then (if p.etherType = 0x88F7 then some p.payload else none)
  else if p.proto = some 17 ∧ (p.dstPort = some 319 ∨ p.dstPort = some 320) then some p.payload else none

/-- The client session that a frame belongs to: a PTP message of the kinds that a peer sends to its client, in the
session's domain, on its MAC and transport, and in unicast mode from its peer (R249, R288). -/
def clientOf (s : State) (m : Nat) (p : Parsed) : Option Nat :=
  match ptpPayload p with
  | none => none
  | some b =>
    let mt := octetAt b 0 % 16
    if mt = 0 ∨ mt = 8 ∨ mt = 9 ∨ mt = 0xB ∨ mt = 0xC then
      (List.range 24).find? fun c =>
        let g := s.blob (Obj.ptpClientCfg c)
        let trans := if p.ip = 4 then 1 else if p.ip = 6 then 2 else 0
        let from_ := if p.ip = 0 then p.src ++ zeros 10 else addr16 p.ip p.srcIp
        s.o (Obj.ptpClientState c) != 0 && octetAt g 0 == m && octetAt g 1 == trans && octetAt g 2 == octetAt b 4 &&
          (octetAt g 3 == 2 || (octetAt g 3 == 1 &&
            (if p.ip = 0 then octets g 8 6 == p.src else octets g 8 16 == from_)))
    else none

/-- A Heddle rule matches a frame on MAC `m` (R255). -/
def ruleMatches (b : Octets) (m : Nat) (p : Parsed) : Bool :=
  let f := octetAt b 0
  let vid := match p.tags with | t :: _ => some (fieldN t 2 2 % 4096) | [] => none
  let mask := fieldN b 12 2
  bitOf f 0 && (!bitOf f 1 || vid == some (fieldN b 4 2 % 4096)) && (!bitOf f 2 || p.etherType == fieldN b 6 2) &&
    (!bitOf f 3 || p.proto == some (octetAt b 8)) && (!bitOf f 4 || p.dstPort == some (fieldN b 10 2)) &&
    (mask == 0 || bitOf mask m) && (!p.fragment || octetAt b 1 == 6 || octetAt b 1 == 7)

/-- The hash by which a frame of a refined class is steered (R257). -/
def steerHash (s : State) (m : Nat) (c : FrameClass) (p : Parsed) : Nat :=
  let key := if c = .esmc then toBE 1 m else if p.ip = 0 then p.src else p.srcIp ++ toBE 2 (p.srcPort.getD 0)
  crc32c (toBE 4 (s.n Obj.heddleHashSeed) ++ key)

/-- The grove of a frame of a refined class (R257). -/
def groveOf (s : State) (m : Nat) (c : FrameClass) (p : Parsed) : Nat := s.steerHash m c p % 16

/-- The lane of its grove: (H >> 4) mod 16 (R361). (Log entry 74, DEDUCED) -/
def laneOf (s : State) (m : Nat) (c : FrameClass) (p : Parsed) : Nat := s.steerHash m c p / 16 % 16

/-- The grove of a message of a Pdelay exchange: that of the peer-to-peer instance it belongs to, by MAC, transport and domain (R278). -/
def pdelayGrove (s : State) (m : Nat) (c : FrameClass) (p : Parsed) : Option Nat :=
  let t := octetAt p.payload 0 % 16
  if (c = .ptpEvent ∧ (t = 2 ∨ t = 3)) ∨ (c = .ptpGeneral ∧ t = 10) then
    (List.range 16).find? fun i =>
      let b := s.blob (Obj.ptpInstanceCfg i)
      (octetAt b 0 == 2 || octetAt b 0 == 5) && bitOf (fieldN b 4 2) m && octetAt b 1 == octetAt p.payload 4 &&
        octetAt b 2 == (if p.ip = 4 then 1 else if p.ip = 6 then 2 else 0)
  else none

/-- A frame of a service class, or of a reference session, steered to its grove: stages 2 and 3 of R272. -/
def steer (s : State) (m : Nat) (c : FrameClass) (limit : Bool) (session : Option Nat) (p : Parsed) (ingress : Int) : State :=
  let g := match session, s.pdelayGrove m c p with
    | some k, _ => k % 16
    | none, some i => i
    | none, none => s.groveOf m c p
  let f : RxFrame := { mac := m, cls := c, grove := g, lane := s.laneOf m c p, ingress := ingress, tick := s.tick, p := p, session := session }
  let push (s : State) : State := { s with net := { s.net with rx := s.net.rx ++ [f] } }
  let st := s.o (Obj.groveState g)
  if session.isSome then (if st = 2 ∨ st = 3 then push s else s.inc Obj.preServiceDrops)
  else if st = 3 ∧ s.flag Obj.serviceAllowed = true then
    let grp := groupOf c
    if limit && grp != 0 then
      let x := s.runBucket (s.bucketOf grp p) grp s.bucketNow 16
      if x.2 then push x.1 else x.1.inc (Obj.rlDrops (grp - 1))
    else push s
  else s.inc Obj.preServiceDrops

/-- The class of a frame of a refined Heddle class; none for a class 5 frame of another subtype (R256). -/
def refine (cls : Nat) (p : Parsed) : Option FrameClass :=
  if cls = 1 then
    some (if p.proto = some 17 ∧ 50 ≤ p.payload.length ∧ fieldN p.payload 48 2 = 0x0104 then .nts else .ntp)
  else if cls = 3 then some (if octetAt p.payload 0 % 16 ≤ 3 then .ptpEvent else .ptpGeneral)
  else if octetAt p.payload 0 = 0x0A then some .esmc
  else none

/-- Stage 6 of R254: the Heddle rules. (Log entry 109, DESIGN CHOICE) -/
def heddle (s : State) (m : Nat) (p : Parsed) (len : Nat) (ingress : Int) : State :=
  let session := if s.mode = 3 ∨ s.mode = 4 ∨ s.mode = 5 then s.clientOf m p else none
  let rule := (List.range 64).find? fun k => ruleMatches (s.blob (Obj.heddleRule k)) m p
  match session with
  | some _ =>
    let s1 := match rule with | some k => s.inc (Obj.heddleRuleHits k) | none => s
    s1.steer m (if octetAt p.payload 0 % 16 ≤ 3 then .ptpEvent else .ptpGeneral) false session p ingress
  | none =>
    match rule with
    | none => (s.inc Obj.heddleNoRule).defaultDeliver m 0xFF p len 0 ingress
    | some k =>
      let b := s.blob (Obj.heddleRule k)
      let s1 := s.inc (Obj.heddleRuleHits k)
      let cls := octetAt b 1
      if cls = 6 then s1.hostDeliver m (octetAt b 2 % 16) k p len 0 ingress
      else if cls = 7 then s1
      else match refine cls p with
        | some c => s1.steer m c (octetAt b 3 == 1) none p ingress
        | none => s1.defaultDeliver m k p len 0 ingress

/-- The SVC_IP_ADDR of a MAC for an IP version (R278). -/
def svcIp (s : State) (m ip : Nat) : Octets :=
  let b := s.blob (Obj.svcIpAddr m)
  if ip = 4 then octets b 0 4 else octets b 4 16

/-- A class N request (R342): a UDP datagram to port 47300 at the MAC's own address. (Log entry 63, DEDUCED) -/
def isNdict (s : State) (m : Nat) (p : Parsed) : Bool :=
  bitOf (s.n Obj.ndictMacs) m && p.proto == some 17 && p.dstPort == some 47300 && !p.fragment && p.ip != 0 &&
    p.dstIp == s.svcIp m p.ip

/-- A class N request admitted by its bucket and queued for a W3, or dropped (R342). (Log entry 63, DEDUCED) -/
def ndict (s : State) (m : Nat) (p : Parsed) (late : Bool) (subtick : Nat) : State :=
  let b := p.payload
  let rate := s.n Obj.ndictRate
  let tokens := (s.host.ndictTokens).getD (rate * 8192)
  let form := decide (8 ≤ b.length) && fieldN b 0 2 == 0x4F44 && octetAt b 2 == 1
  match (if form && s.flag Obj.serviceAllowed && decide (8192 ≤ tokens) then parseDict (b.drop 8) else none) with
  | none => s.inc Obj.ndictDrops
  | some (tag, recs) =>
    let src : MsgSource := { carrier := .inband ⟨m % 16, Nat.mod_lt _ (by decide)⟩ (addr16 p.ip p.srcIp) (p.srcPort.getD 0) (fieldN b 4 4)
                             tick := s.tick, subtick := subtick, late := late, seq := 0, len := b.length - 8, back := p.src, tags := p.tags }
    { s with host := { s.host with ndictTokens := some (tokens - 8192), waiting := s.host.waiting ++ [⟨src, tag, recs⟩] } }

/-- A frame received on a MAC: the stages of R254 in order. -/
def frameReceive (s : State) (m : Nat) (f : Octets) (capture : Nat) (phy : PhyErrors) : State :=
  let ingress := s.deviceTime capture - psUnits (s.o (Obj.npRxDelayPs m))
  let len := f.length + 4
  let p := parseFrame f
  let size := (if len < 64 then 2 else 0) + (if s.n (Obj.npMaxFrame m) < len then 4 else 0)
  let e0 := (if phy.fcs then 1 else 0) + size + (if phy.pcs then 8 else 0) + (if phy.fec then 16 else 0)
  let s1 := (s.addHw (Obj.npRxFrames m) 1 (Obj.npHwWrapped m) 0).addHw (Obj.npRxOctets m) len (Obj.npHwWrapped m) 1
  if !s.destOk m p.dst then s1.inc (Obj.npRxNoMatch m)
  else if !s.inService && !(s.mode == 3 && (s.clientOf m p).isSome) then s1.inc (Obj.npRxModeDrops m)
  else
    let errors := e0 + p.errors
    if errors ≠ 0 then
      let c (s : State) (t : Bool) (k : Nat) : State := if t then s.inc k else s
      let s2 := c (c (c (c s1 phy.fcs (Obj.npRxErrFcs m)) (decide (size ≠ 0)) (Obj.npRxErrSize m))
        (phy.pcs || phy.fec) (Obj.npRxErrPhy m)) (decide (p.errors ≠ 0)) (Obj.npRxErrL3l4 m)
      if s.flag (Obj.npDeliverErrored m) then s2.defaultDeliver m 0xFF p len errors ingress else s2
    else if s.isNdict m p then s1.ndict m p (decide (s.sys.window = .w3)) (capture - s.planeNow.toNat)
    else s1.heddle m p len ingress

/-! ### Transmit queues (R258–R263, R267) -/

/-- Octets of a frame on the wire, with a redundancy tag or trailer (R267). -/
def wireLen (s : State) (m : Nat) (f : TxFrame) : Nat := f.len + if (s.redPairOf m).isSome then 6 else 0

/-- The span of a transmission whose timestamp point crosses at `t`: from its preamble to the end of the gap after it. -/
def txSpan (s : State) (m : Nat) (t : Int) (len : Nat) : Int × Int := (t - s.wireTime m 8, t + s.wireTime m (len + 12))

/-- The EXACT frames accepted on a MAC, by D. -/
def exacts (s : State) (m : Nat) : List (Int × Nat) :=
  sortBy (fun a b => decide (a.1 < b.1)) ((s.mac m).queue.filterMap fun f => f.exact.map fun d => (d, s.wireLen m f))

/-- The grid step G of a mode in ns, as numerator and denominator (R245). -/
def gridStep (mode : Nat) : Int × Int :=
  if mode ≤ 2 then (512, 425) else if mode = 3 then (2048, 825) else (2048, 330)

/-- The first grid instant at or after `x`, with the grid through `p` (R245, R259). (Log entry 56, DESIGN CHOICE) -/
def gridAfter (mode : Nat) (p x : Int) : Int :=
  let g := gridStep mode
  let k := ceilDivI ((x - p) * g.2) (g.1 * nsUnits)
  p + ceilDivI (k * g.1 * nsUnits) g.2

/-- The EXACT frame launched last, which can still be on the wire: its D and length (R259). -/
def launched (s : State) (m : Nat) : List (Int × Nat) := match (s.mac m).sent with
  | some x => match x.frame.exact with | some d => [(d, x.frame.len + x.redundancy.length)] | none => []
  | none => []

/-- D for an EXACT frame of `len` octets wanted at `launch`: the first grid instant at which it would overlap no EXACT
frame already accepted (R259). -/
def departure (s : State) (m len : Nat) (launch : Int) : Int :=
  let p := Config.gridPhase (s.mac m).grid
  let mode := s.macMode m
  (s.launched m ++ s.exacts m).foldl (fun d x =>
    let a := s.txSpan m d len
    let b := s.txSpan m x.1 x.2
    if a.1 < b.2 ∧ b.1 < a.2 then gridAfter mode p (b.2 + s.wireTime m 8) else d) (gridAfter mode p launch)

/-- The queueing of an EXACT frame asked for at the moment `now`: D, or the refusal (R259, R261). -/
def exactReserve (s : State) (m len : Nat) (launch now : Int) : State × Option Int :=
  let d := s.departure m (len + if (s.redPairOf m).isSome then 6 else 0) launch
  if (s.mac m).exactOff || decide (d - now < 600 * nsUnits) || decide (4096 ≤ (s.exacts m).length) then
    (s.inc (Obj.npExactRefused m), none)
  else (s, some d)

/-- A frame put at the end of its queue. -/
def enqueue (s : State) (m : Nat) (f : TxFrame) : State :=
  let v := s.mac m
  s.setMac m { v with queue := v.queue ++ [{ f with queuedAt := s.age }] }

/-- The state without the frame at a position of a MAC's queues. -/
def dequeue (s : State) (m i : Nat) : State :=
  let v := s.mac m
  s.setMac m { v with queue := v.queue.eraseIdx i }

/-- The mode lets a frame leave (R31, R249, R291). (Log entry 55, DEDUCED) -/
def mayLeave (s : State) (f : TxFrame) : Bool := match f.kind with
  | .esmc => s.running
  | .client _ => decide (3 ≤ s.mode ∧ s.mode ≤ 5)
  | _ => s.inService

/-- The position of the head frame of a queue, of those that the mode lets leave (R31, R258). -/
def headOf (s : State) (m q : Nat) : Option (Nat × TxFrame) := (enum (s.mac m).queue).find? fun x => x.2.queue == q && s.mayLeave x.2

/-- The departure instant of an EXACT frame has passed at `t`: the next instant of the grid has come (R260).
(Log entry 55, DEDUCED) -/
def exactPast (s : State) (m : Nat) (f : TxFrame) (t : Int) : Bool := match f.exact with
  | some d => let g := gridStep (s.macMode m); decide (d * g.2 + g.1 * nsUnits ≤ t * g.2)
  | none => false

/-- A queued message whose bound has become unbounded since (R234). (Log entry 55, DEDUCED) -/
def boundGone (s : State) (f : TxFrame) : Bool :=
  decide (f.svc < 3) && (f.void || f.ticks.any fun t => match s.tickState t with
    | some x => x.bound == unbounded
    | none => false)

/-- The head frame of queue `q` may start with its timestamp point at `t`: its launch time has come and its transmission
ends before the next EXACT frame begins (R258, R260, R263). -/
def canStart (s : State) (m : Nat) (f : TxFrame) (t : Int) : Bool :=
  match f.exact with
  | some d => decide (d - s.wireTime m 8 ≤ t)
  | none =>
    let a := s.txSpan m t (s.wireLen m f)
    s.mayLeave f && (f.launch == 0 || decide (f.launch ≤ timeCns t)) &&
      (s.exacts m).all fun x => let b := s.txSpan m x.1 x.2; decide (a.2 ≤ b.1 ∨ b.2 ≤ a.1)

/-- The frame that a transmit opportunity of queue `q` at `t` is for: an EXACT frame whose instant D has come, else the head of
the queue. An EXACT frame leaves at its D whatever stands before it (R258, R259). (Log entry 56, DESIGN CHOICE) -/
def nextOf (s : State) (m q : Nat) (t : Int) : Option (Nat × TxFrame) :=
  match (enum (s.mac m).queue).find? fun x => x.2.queue == q && x.2.exact.isSome && s.canStart m x.2 t with
  | some x => some x
  | none => s.headOf m q

/-- The LATE limit of a host frame has passed at `t` (R263). -/
def launchLate (f : TxFrame) (t : Int) : Bool :=
  f.lateMax != 0 && f.launch != 0 && decide (f.launch + f.lateMax < timeCns t)

/-- A frame as it leaves: an ESMC PDU queued before the mode left service carries DNU (R31, R265).
(Log entry 55, DEDUCED) -/
def leaving (s : State) (f : TxFrame) : TxFrame :=
  if f.kind = .esmc ∧ s.inService = false then { f with body := patch f.body 13 [0x0F] } else f

/-- The completion that a host frame's end gives, if it owes one. -/
def completeOf (s : State) (m : Nat) (f : TxFrame) (errors : Nat) (egress : Option Int) : State :=
  match f.kind with
  | .host ring index ts => s.complete m ring index f.len errors (if ts then egress else none)
  | _ => s

/-- The trailer or tag inserted at egress, with the number taken if the frame has none (R267).
(Log entry 57, PRESUMED) -/
def redundancy (s : State) (m : Nat) (f : TxFrame) : State × Octets :=
  match s.redPairOf m with
  | none => (s, [])
  | some (k, kind, _, first) =>
    let (s1, n) := match f.red with
      | some n => (s, n)
      | none => s.takeRed k
    if kind = 1 then
      let lsdu := (f.len - 18 - 4 * f.tags.length + 6) % 4096
      (s1, toBE 2 n ++ toBE 2 ((if first then 0xA else 0xB) * 4096 + lsdu) ++ toBE 2 0x88FB)
    else (s1, toBE 2 0xF1C1 ++ zeros 2 ++ toBE 2 n)

/-- The frame at position `i` leaves with its timestamp point at the reference plane at `egress`. -/
def send (s : State) (m i : Nat) (f : TxFrame) (egress : Int) : State :=
  let (s1, red) := (s.dequeue m i).redundancy m f
  let len := f.len + red.length
  let s2 := (s1.addHw (Obj.npTxFrames m) 1 (Obj.npHwWrapped m) 2).addHw (Obj.npTxOctets m) len (Obj.npHwWrapped m) 3
  let v := s2.mac m
  let s3 := s2.setMac m { v with sent := some ⟨f, egress, red⟩, esmcPdu := if f.kind = .esmc then f.body else v.esmcPdu }
  let s4 : State := match f.notify with
    | some (k, key) => { s3 with serv := { s3.serv with departed := s3.serv.departed ++ [⟨k, key, egress, s.tick⟩] } }
    | none => s3
  let s5 := s4.completeOf m f 0 (some egress)
  match f.exact with
  | some d =>
    if s.n (Obj.npExactTolPs m) * 4294967296 < (egress - d).natAbs * 1000 then
      let s6 := s5.inc (Obj.npExactVerifyFaults m)
      (s6.setMac m { s6.mac m with exactOffDue := true }).faulted 0x0601 m 0
    else s5
  | none => s5

/-- The head frame of queue `q` of a MAC at a transmit opportunity whose timestamp point is captured at `capture`: sent, or discarded
where it is late, its link is down, its instant is past, its bound has gone or the mode sends none (R31, R234, R260, R263). -/
def frameLaunch (s : State) (m q capture : Nat) : State :=
  let egress := s.deviceTime capture + psUnits (s.o (Obj.npTxDelayPs m))
  match s.nextOf m q egress with
  | none => s
  | some (i, f) =>
    let higher := (List.range 8).any fun k => decide (q < k) && match s.nextOf m k egress with
      | some (_, g) => s.canStart m g egress
      | none => false
    if !s.canStart m f egress || (higher && f.exact.isNone) then s
    else if launchLate f egress then ((s.dequeue m i).inc (Obj.npLaunchLateDrops m)).completeOf m f 1 none
    else if !s.macUp m || s.exactPast m f egress then
      match f.exact with
      | some _ => (s.dequeue m i).inc (Obj.npExactMissed m)
      | none => (s.dequeue m i).completeOf m f 2 none
    else if s.boundGone f then (s.dequeue m i).inc (Obj.ceilingDrops f.svc)
    else if !s.mayLeave f then (s.dequeue m i).inc (Obj.npExactMissed m)
    else s.send m i (s.leaving f) egress

/-- A host transmit descriptor fetched from a ring, with the octets at BUFFER (R263, R267, R353).
(Log entries 36, DEDUCED; 58, DEDUCED) -/
def hostTx (s : State) (ring : Nat) (desc frame : Octets) : State :=
  let fn := ring / 8
  let r := ring % 8
  let tail := s.ringReg fn .tx r 0x0C
  let head := s.ringReg fn .tx r 0x10
  let out := Sparse.get (fun _ => 0) s.net.outstanding ring
  let room := decide (48 * (out + 1) ≤ s.txCplFree fn r)
  if s.running && s.pcieUp && s.ringOn fn .tx r && used tail head != 0 && room then
    let index := head % areaSize 6 16 (s.ringReg fn .tx r 0x08)
    let s0 := s.setRingReg fn .tx r 0x10 (head + 1)
    let s1 : State := { s0 with net := { s0.net with outstanding := Sparse.put (fun _ => 0) s0.net.outstanding ring (out + 1) } }
    let len := fieldN desc 8 2
    let m := octetAt desc 10
    let q := octetAt desc 11
    let flags := octetAt desc 24
    if 5 < q ∨ 15 < m ∨ len < 60 ∨ s.n (Obj.npMaxFrame (m % 16)) < len + 4 then s1.complete (m % 16) ring index (len + 4) 4 none
    else if !s.macUp m then s1.complete m ring index (len + 4) 2 none
    else
      let f : TxFrame := { queue := q, kind := .host ring index (bitOf flags 0), launch := fieldN desc 12 8, lateMax := fieldN desc 20 4
                           len := len + 4, dst := octets frame 0 6, src := octets frame 6 6, tags := (parseFrame frame).tags
                           etherType := (parseFrame frame).etherType, body := padTo len frame }
      match (if bitOf flags 1 then s.redPairOf m else none) with
      | some (k, _, other, _) =>
        let (s2, n) := s1.takeRed k
        (s2.enqueue m { f with dup := true, red := some n }).enqueue other { f with kind := .copy, dup := true, red := some n }
      | none => s1.enqueue m f
  else s

/-! ### SyncE quality and ESMC (R264–R266) -/

/-- The rank of an SSM code under the network option, best lowest: the order of ITU-T G.781 for options 1 and 2, other
codes after it; 0xFF and 0xF0 below every real code; DNU and DUS 100, never selected (R266).
(Log entry 57, PRESUMED) -/
def ssmRank (option code : Nat) : Nat :=
  let order := if option = 2 then [0x1, 0x0, 0x7, 0x4, 0xD, 0xA, 0xC, 0xE] else [0x2, 0x4, 0x8, 0xB]
  match (enum order).find? fun x => x.2 == code with
  | some x => x.1
  | none => if code = 0xF then 100 else if code = 0xFF ∨ code = 0xF0 then 99 else 50

/-- The rank of lane `n` for R196. -/
def laneQuality (s : State) (n : Nat) : Nat := ssmRank (s.n Obj.esmcOption) (s.n (Obj.esmcRxSsm (s.laneMac n)))

/-- The SSM code sent on a MAC (R265). (Log entry 59, DEDUCED) -/
def ssmSent (s : State) (m : Nat) : Nat :=
  let sel := s.n Obj.synceSelCurrent
  let lane := sel - 0x60
  if !s.inService then 0xF
  else if s.o Obj.synceTxSource = 1 then
    if sel = 0 then s.n Obj.esmcSsmSynceHold
    else if s.laneMac lane = m then 0xF
    else
      let c := s.n (Obj.esmcRxSsm (s.laneMac lane))
      if c < 16 then c else Config.ssmWithoutCode c % 16
  else if s.mode = mTrack then s.n Obj.esmcSsmTrack
  else s.n Obj.esmcSsmHold

/-- The octets of an ESMC PDU after its EtherType: subtype, ITU-T OUI, subtype, version with the event flag, and the QL
TLV (R265). (Log entry 57, PRESUMED) -/
def esmcBody (code : Nat) (event : Bool) : Octets :=
  padTo 46 ([0x0A, 0x00, 0x19, 0xA7] ++ toBE 2 1 ++ toBE 1 (if event then 0x18 else 0x10) ++ zeros 3 ++ [1] ++ toBE 2 4 ++ toBE 1 code)

/-- An ESMC PDU queued on a MAC. -/
def esmcSend (s : State) (m : Nat) (event : Bool) : State :=
  let code := s.ssmSent m
  let f : TxFrame := { queue := 7, kind := .esmc, len := 64, dst := [0x01, 0x80, 0xC2, 0, 0, 0x02], src := s.macAddr m
                       etherType := 0x8809, body := esmcBody code event }
  (s.setMac m { s.mac m with esmcSent := some code }).enqueue m f

/-- The event PDU of a MAC at a boundary after a change of the code sent (R265). (Log entry 55, DEDUCED) -/
def esmcBoundary (s : State) (m : Nat) : State :=
  match (s.mac m).esmcSent with
  | some c => if s.running && s.macUp m && s.flag (Obj.esmcEnable m) && c != s.ssmSent m then s.esmcSend m true else s
  | none => s

/-- What a boundary does to the network block: EXACT refused after a verify fault, the ESMC codes of groves that do not
serve, the event PDUs, and the refill of the class N bucket (R261, R265, R266, R342). -/
def netBoundary (s : State) : State :=
  let s1 := (List.range 16).foldl (fun s m =>
    let v := s.mac m
    let s1 := if v.exactOffDue then s.setMac m { v with exactOff := true, exactOffDue := false } else s
    let g := s.groveOf m .esmc {}
    let s2 := if s.o (Obj.groveState g) ≠ 3 ∧ s.n (Obj.esmcRxSsm m) ≠ 0xFF then s1.setN (Obj.esmcRxSsm m) 0xFF else s1
    s2.esmcBoundary m) s
  -- no batch holds captures from both sides of a realignment (R69)
  let s1 := if s1.sys.realignTick then (s1.net.batches.map fun x => x.1).foldl closeBatch s1 else s1
  let rate := s.n Obj.ndictRate
  let tokens := match s1.host.ndictTokens with
    | some t => if rate * 8192 ≤ t + rate then none else some (t + rate)
    | none => none
  { s1 with host := { s1.host with ndictTokens := tokens } }

/-- The queues at a boundary: EXACT frames whose instant has passed and responses that had to leave by now are discarded, and messages
whose bound has gone are marked (R44, R234, R260). -/
def dropLate (s : State) : State :=
  (List.range 16).foldl (fun s m =>
    let v := s.mac m
    let past (f : TxFrame) : Bool := s.exactPast m f s.timeNow
    let late (f : TxFrame) : Bool := !past f && f.response && decide (f.queuedAt < s.age)
    let n := (v.queue.filter late).length
    let k := (v.queue.filter past).length
    let gone (f : TxFrame) : TxFrame := if s.boundGone f then { f with void := true } else f
    if v.queue.isEmpty then s
    else
      let s1 := s.setMac m { v with queue := (v.queue.filter fun f => !late f && !past f).map gone }
      (s1.addN Obj.txLateDrops n).addN (Obj.npExactMissed m) k) s

/-- NP_MODE of port `p` was written: EXACT is accepted again; where it changed, its lanes go through DOWN and the uncertainty
follows the mode (R246, R251, R261). -/
def npModeWritten (s : State) (p : Nat) (changed : Bool) : State :=
  [2 * p, 2 * p + 1].foldl (fun s m =>
    let s1 := if changed then s.macDown m else s
    (s1.setMac m { s1.mac m with exactOff := false, exactOffDue := false }).setN (Obj.npTsUncPs m) (modeUnc (s.macMode m))) s

/-- RL_SEED in force: every bucket full (R274). -/
def fillBuckets (s : State) : State := { s with serv := { s.serv with buckets := [], bucketBase := [] } }

/-- RL_RATE or RL_BURST of a group changed: the buckets that are full at the old burst keep their tokens (R273). -/
def bucketChanged (old s : State) (g : Nat) : State :=
  { s with serv := { s.serv with bucketBase := Sparse.put (fun _ => none) s.serv.bucketBase g (some (old.bucketLevel g)) } }

end State

/-! ### Commands -/

/-- NP_LINK_SIGNAL: the receiver recovers a clock while the group's APLL is LOCKED (R248). -/
def execNpLinkSignal (m : Fin 16) (s : State) : Host.Outcome State Fault Refusal :=
  if s.running && s.macUsed m && s.o (Obj.apllState (State.macApll m)) == 2 && s.o (Obj.npLinkState m) == 0 then
    .next (s.setO (Obj.npLinkState m) 1)
  else .next s

/-- NP_LINK_ALIGNED: PCS and FEC lock (R248). -/
def execNpLinkAligned (m : Fin 16) (s : State) : Host.Outcome State Fault Refusal :=
  if s.macUsed m && s.o (Obj.npLinkState m) == 1 then .next (s.setO (Obj.npLinkState m) 2) else .next s

/-- NP_ALIGN_TIMEOUT: no lock within 100 ms (R248). -/
def execNpAlignTimeout (m : Fin 16) (s : State) : Host.Outcome State Fault Refusal :=
  if s.o (Obj.npLinkState m) = 1 then .next (s.setO (Obj.npLinkState m) 0) else .next s

/-- NP_LINK_UP: 10 ms without a fault (R248). (Log entry 4, DESIGN CHOICE) -/
def execNpLinkUp (m : Fin 16) (s : State) : Host.Outcome State Fault Refusal :=
  if s.macUsed m && s.o (Obj.npLinkState m) == 2 then .next (s.macEnterUp m) else .next s

/-- NP_LINK_FAULT: a fault sequence or the high-error condition (R248). -/
def execNpLinkFault (m : Fin 16) (s : State) : Host.Outcome State Fault Refusal :=
  if s.o (Obj.npLinkState m) = 2 ∨ s.o (Obj.npLinkState m) = 3 then .next (s.setO (Obj.npLinkState m) 4) else .next s

/-- NP_FAULT_CLEAR: 10 ms without the condition (R248). -/
def execNpFaultClear (m : Fin 16) (s : State) : Host.Outcome State Fault Refusal :=
  if s.o (Obj.npLinkState m) = 4 then .next (s.setO (Obj.npLinkState m) 2) else .next s

/-- NP_LINK_DOWN: loss of signal or of lock (R248). -/
def execNpLinkDown (m : Fin 16) (s : State) : Host.Outcome State Fault Refusal := .next (s.macDown m)

/-- FRAME_RECEIVE: a frame, from its destination address without FCS, with the corrected capture of its timestamp point
in plane time and what the PHY found (R250, R254). -/
def execFrameReceive (m : Fin 16) (frame : Octets) (capture : Nat) (phy : PhyErrors) (s : State) :
    Host.Outcome State Fault Refusal :=
  if s.running && s.macUp m then .next (s.frameReceive m frame capture phy) else .next s

/-- HOST_BATCH_CLOSE: an open batch of a receive ring, or of the completions of a transmit ring, is closed when it is due
(R253). -/
def execHostBatchClose (completion : Bool) (ring : Fin 16) (m : Fin 16) (s : State) : Host.Outcome State Fault Refusal :=
  let key := (if completion then 256 else 0) + 16 * ring.val + m.val
  match Sparse.get (fun _ => none) s.net.batches key with
  | some b => if s.batchDue b then .next (s.closeBatch key) else .next s
  | none => .next s

/-- FRAME_LAUNCH: a transmit opportunity of queue `q` whose timestamp point is captured at a plane time (R258–R263). -/
def execFrameLaunch (m : Fin 16) (q : Fin 8) (capture : Nat) (s : State) : Host.Outcome State Fault Refusal :=
  if s.running then .next (s.frameLaunch m q capture) else .next s

/-- HOST_TX_DESCRIPTOR: the next descriptor of a transmit ring with the octets at its BUFFER (R263, R353). -/
def execHostTxDescriptor (ring : Fin 16) (desc : Octets) (frame : Octets) (s : State) : Host.Outcome State Fault Refusal :=
  .next (s.hostTx ring desc frame)

/-- A frame past its launch time dropped, counted and completed (R263). -/
def State.lateDrop (s : State) (m pos : Nat) (f : TxFrame) : State :=
  ((s.dequeue m pos).inc (Obj.npLaunchLateDrops m)).completeOf m f 1 none

/-- HOST_FRAME_LATE: at a device time, the host frame at a position of a MAC's queues has passed LAUNCH + LATE_MAX_NS
without starting (R263). -/
def execHostFrameLate (m : Fin 16) (pos : Nat) (now : Int) (s : State) : Host.Outcome State Fault Refusal :=
  match (s.mac m).queue[pos]? with
  | some f =>
    if State.launchLate f now then .next (s.lateDrop m pos f) else .next s
  | none => .next s

/-- ESMC_INFO_PDU: at tick index 8 × MAC the MAC sends its information PDU (R265). -/
def execEsmcInfoPdu (m : Fin 16) (s : State) : Host.Outcome State Fault Refusal :=
  if s.running && s.macUp m && s.flag (Obj.esmcEnable m) && s.index == 8 * m.val then .next (s.esmcSend m false) else .next s

/-- ESMC_RX_EXPIRE: 5 s without a valid PDU (R266). -/
def execEsmcRxExpire (m : Fin 16) (s : State) : Host.Outcome State Fault Refusal :=
  if s.running && s.macUp m && s.n (Obj.esmcRxSsm m) != 0xF0 && s.o (Obj.groveState (s.groveOf m .esmc {})) == 3 &&
      decide ((s.mac m).esmcRx + 40960 ≤ s.age) then
    .next ((s.setN (Obj.esmcRxSsm m) 0xF0).inc (Obj.esmcRxExpired m))
  else .next s

/-- One bucket of the sweep run up to now (R274). -/
def State.sweepOne (s : State) : State :=
  let k := s.serv.sweep
  let s1 : State := match Sparse.get (fun _ => none) s.serv.buckets k with
    | some b => (s.runBucket k b.1 s.bucketNow 0).1
    | none => s
  { s1 with serv := { s1.serv with sweep := (k + 1) % 4194304 } }

/-- HEDDLE_SWEEP: the function of R273 with cost 0 on the next bucket in index order (R274). -/
def execHeddleSweep (s : State) : Host.Outcome State Fault Refusal :=
  if s.running then .next s.sweepOne else .next s

end Sys2Proof.Machine
end

