-- ==== Sys2Proof/Machine/Serv.lean ====
section
/-!
DEFINITION. PTP: the hand-off of W0, instances, messages, unicast negotiation, emission and answers (R44, R48, R58,
R270–R287, R362–R365, R430–R434).
-/

namespace Sys2Proof.Machine

/-- An instance's configuration (R277). -/
structure PtpCfg where
  profile : Nat
  domain : Nat
  transport : Nat
  flags : Nat
  macs : Nat
  logSync : Int
  logAnnounce : Int
  logDelay : Int
  prio1 : Nat
  prio2 : Nat
  spp : Nat
  ccIn : Nat
  ccOut : Nat
  oslv : Nat
  cc7 : Nat
  grantMax : Nat
  deriving DecidableEq, Repr

/-- The octets of 0x7040 read as a configuration; a zero field with a default takes it (R277).
(Log entry 103, DESIGN CHOICE) -/
def ptpCfg (b : Octets) : PtpCfg :=
  let p := octetAt b 0
  let dflt (v d : Nat) : Nat := if v = 0 then d else v
  { profile := p, domain := octetAt b 1, transport := octetAt b 2, flags := octetAt b 3, macs := fieldN b 4 2
    logSync := fieldI b 6 1, logAnnounce := fieldI b 7 1, logDelay := fieldI b 8 1, prio1 := octetAt b 9, prio2 := octetAt b 10
    spp := octetAt b 11, ccIn := dflt (octetAt b 12) 7, ccOut := dflt (octetAt b 13) (if p ≤ 2 then 52 else if p ≤ 4 then 140 else 248)
    oslv := dflt (fieldN b 14 2) 0x4E5D, cc7 := dflt (fieldN b 16 4) 1100000, grantMax := dflt (fieldN b 20 2) 300 }

/-- The instance uses the peer-to-peer delay mechanism (R276). -/
def PtpCfg.p2p (c : PtpCfg) : Bool := c.profile == 2 || c.profile == 5

/-- The 34 octets of a PTP header: messageType, whole length, domain, flags, correctionField in 2^-16 ns, portIdentity,
sequenceId, logMessageInterval. (Log entry 57, PRESUMED) -/
def ptpHeader (sdo type len domain flags : Nat) (corr : Int) (portId : Octets) (seq : Nat) (logInt : Int) : Octets :=
  let control := if type = 0 then 0 else if type = 1 then 1 else if type = 8 then 2 else if type = 9 then 3 else 5
  toBE 1 (sdo * 16 + type) ++ toBE 1 0x12 ++ toBE 2 len ++ toBE 1 domain ++ zeros 1 ++ toBE 2 flags ++ toBEInt 8 corr ++
    zeros 4 ++ padTo 10 portId ++ toBE 2 seq ++ toBE 1 control ++ toBEInt 1 logInt

/-- The length of a message before its TLVs. -/
def ptpBase (type : Nat) : Nat := match type with
  | 2 => 54
  | 3 => 54
  | 9 => 54
  | 10 => 54
  | 11 => 64
  | _ => 44

/-- The TLVs of a message: offset, type, value; `n` at most. (Log entry 57, PRESUMED) -/
def ptpTlvs : Nat → Octets → Nat → List (Nat × Nat × Octets)
  | 0, _, _ => []
  | n + 1, b, off =>
    if b.length < off + 4 then []
    else
      let len := fieldN b (off + 2) 2
      if b.length < off + 4 + len then [] else (off, fieldN b off 2, octets b (off + 4) len) :: ptpTlvs n b (off + 4 + len)

/-- The TLVs of a whole message. -/
def tlvsOf (b : Octets) : List (Nat × Nat × Octets) :=
  let b := b.take (fieldN b 2 2)
  ptpTlvs b.length b (ptpBase (octetAt b 0 % 16))

/-- A received PTP value: seconds, nanoseconds and a correction, as device time (R72, R74). -/
def ptpTime (b : Octets) (off : Nat) (corr : Int) : Option Int := ptpToDevice (fieldN b off 6) (fieldN b (off + 6) 4) corr

/-- Whether a destination is a group address. -/
def groupAddr (p : Parsed) : Bool := octetAt p.dst 0 % 2 == 1

namespace State

/-- An instance's configuration in force. -/
def inst (s : State) (i : Nat) : PtpCfg := ptpCfg (s.blob (Obj.ptpInstanceCfg i))

/-- The services that R270 enables: 0 PTP, 1 NTP, 2 NTS. -/
def svcOn (s : State) (k : Nat) : Bool := bitOf (s.n Obj.svcEnable) k

/-- The clockIdentity of instance messages: the pair identity while joined, or while ALONE with one written (R278, R418).
(Log entry 65, DEDUCED) -/
def instIdentity (s : State) : Octets :=
  let own := s.n Obj.ptpClockIdentity
  let pair := s.n Obj.twinPairIdentity
  if pair ≠ 0 ∧ (s.joined = true ∨ s.o Obj.twinState = 1) then toBE 8 pair
  else if s.joined then toBE 8 (match s.twin.hello with | some h => min own h.clock | none => own)
  else toBE 8 own

/-- The portIdentity of an instance message on a MAC (R278). -/
def instPort (s : State) (m : Nat) : Octets := s.instIdentity ++ toBE 2 (m + 1)

/-! ### Sessions, items and the hand-off -/

/-- A unicast session of the store, by line. -/
def session (s : State) (k : Nat) : Option Session := Sparse.get (fun _ => none) s.serv.sessions k

/-- The state with a line of the session store written; the line is noted for the twin peer (R419). -/
def setSession (s : State) (k : Nat) (v : Option Session) : State :=
  { s with serv := { s.serv with sessions := Sparse.put (fun _ => none) s.serv.sessions k v },
           twin := { s.twin with lines := s.twin.lines.filter (fun x => x != k) ++ [k] } }

/-- A session line written by a commit of grove `g`, whose cache first holds it in state M (R363, R378).
(Log entry 107, DESIGN CHOICE) -/
def commitSession (s : State) (g k : Nat) (v : Option Session) : State := (s.ownLine g k).setSession k v

/-- PTP_UNICAST_SESSIONS of every instance as the session store holds them (R304). -/
def countSessions (s : State) : State :=
  (List.range 16).foldl (fun t i => t.setN (Obj.ptpUnicastSessions i)
    (s.serv.sessions.filter fun p => match p.2 with | some v => v.inst == i | none => false).length) s

/-- A grant runs at the present tick (R285). -/
def grantLive (s : State) (g : Grant) : Bool := decide (s.age < g.start + g.dur * 8192)

/-- The interval of a grant or a multicast message in ticks (R284). -/
def period (log : Int) : Nat := if 0 ≤ log then 8192 * 2 ^ log.toNat else 8192 / 2 ^ (-log).toNat

/-- 8,192 × S + i of a boundary with a device time (R284). -/
def gridNo (t : Int) : Nat := (t / tickUnits).toNat

/-- The periods and phases of the messages of a grove, Sync for the event class and Announce with two-step Follow_Up for
the general class (R271, R278). -/
def emissions (s : State) (g : Nat) (event : Bool) : List (Nat × Nat) :=
  let c := s.inst g
  let macs := (List.range 16).filter fun m => bitOf c.macs m && s.macUsed m
  let multi := if c.profile ≠ 0 ∧ bitOf c.flags 1 = true then
      macs.flatMap fun _ => if event then [(period c.logSync, 0)]
        else (period c.logAnnounce, 0) :: (if bitOf c.flags 0 then [(period c.logSync, 0)] else [])
    else ([] : List (Nat × Nat))
  let uni := s.serv.sessions.flatMap fun e => match e.2 with
    | some v =>
      if v.grove = g then
        let two := bitOf (s.inst v.inst).flags 0
        let of (x : Option Grant) : List (Nat × Nat) := match x with
          | some x => if s.grantLive x then [(period x.log, x.phase)] else []
          | none => []
        let sy := of v.sync
        let an := of v.announce
        if event then sy else an ++ (if two then sy else [])
      else []
    | none => []
  multi ++ uni

/-- The Pdelay_Req and the Delay_Req that a grove originates, as periods and phases of the event class (R271, R278). -/
def requests (s : State) (g : Nat) : List (Nat × Nat) :=
  let c := s.inst g
  let pd := if c.p2p then List.replicate (popCount c.macs 16) (8192, 0) else []
  let cl := ((List.range 24).filter fun k => k % 16 == g && s.o (Obj.ptpClientState k) == 2).map fun k =>
    (max 1 (period (fieldI (s.blob (Obj.ptpClientCfg k)) 5 1)), 0)
  pd ++ cl

/-- The messages of a list of periods and phases that fall due in a tick. (Log entry 60, DEDUCED) -/
def dueCount (l : List (Nat × Nat)) (t : Nat) : Nat := (l.filter fun e => (t + e.1 - e.2 % e.1) % e.1 == 0).length

/-- The most messages due in any tick that a stream of period `T` and phase `φ` covers. -/
def phaseLoad (l : List (Nat × Nat)) (period phase : Nat) : Nat :=
  let top := maxN (period :: l.map (·.1))
  maxN ((List.range (top / period)).map fun k => dueCount l (phase + k * period))

/-- The phase with the fewest messages due, the lowest of equals, with that number (R284). -/
def choosePhase (l : List (Nat × Nat)) (period : Nat) : Nat × Nat :=
  (List.range period).foldl (fun (b : Nat × Nat) p =>
    let x := phaseLoad l period p
    if x < b.2 then (p, x) else b) (0, phaseLoad l period 0)

/-- The cap of a class (R48). -/
def capOf (s : State) (c : FrameClass) : Nat := match c with
  | .nts => s.n Obj.capNts
  | .ntp => s.n Obj.capNtp
  | .ptpEvent => s.n Obj.capPtpEvent
  | .ptpGeneral => s.n Obj.capPtpGeneral
  | .esmc => s.n Obj.capEsmc

/-- The service of a class: 0 PTP, 1 NTP, 2 NTS, 3 none (ESMC). -/
def svcOf (c : FrameClass) : Nat := match c with
  | .nts => 2
  | .ntp => 1
  | .ptpEvent => 0
  | .ptpGeneral => 0
  | .esmc => 3

/-- A Delay_Req of client session `c` falls due in this tick: its number is a multiple of the interval (R288).
(Log entry 60, DEDUCED) -/
def delayReqDue (s : State) (c : Nat) : Bool :=
  s.o (Obj.ptpClientState c) == 2 && gridNo s.timeNow % max 1 (period (fieldI (s.blob (Obj.ptpClientCfg c)) 5 1)) == 0

/-- A grant of a client session is due for renewal: half its duration has passed (R289). -/
def renewalDue (s : State) (g : Option Grant) : Bool := match g with
  | some x => decide (x.start + x.dur * 4096 ≤ s.age)
  | none => false

/-- Signaling messages that client session `c` may send in this tick: its requests while it seeks grants, and each renewal that
is due (R271, R289). (Log entry 60, DEDUCED) -/
def signalsDue (s : State) (c : Nat) : Nat :=
  let v := Sparse.get (fun _ => ({} : Client)) s.serv.clients c
  if octetAt (s.blob (Obj.ptpClientCfg c)) 3 ≠ 1 then 0
  else if s.o (Obj.ptpClientState c) = 1 then 1
  else if s.o (Obj.ptpClientState c) = 2 then ([v.announce, v.sync, v.delay].filter s.renewalDue).length
  else 0

/-- Messages that grove `g` is scheduled to originate in W2 of this tick: for the event class the Sync of the next tick and
the Pdelay_Req and Delay_Req of this one, for the general class its Announce and Follow_Up and the Signaling of its client
sessions (R271). -/
def scheduled (s : State) (g : Nat) (c : FrameClass) : Nat :=
  let next := gridNo s.sys.nextTime
  let here := gridNo s.timeNow
  match c with
  | .ptpEvent =>
    let x := s.inst g
    let pd := if x.p2p && here % 8192 == 0 then popCount x.macs 16 else 0
    let cl := ((List.range 24).filter fun k => k % 16 == g && s.delayReqDue k).length
    dueCount (s.emissions g true) next + pd + cl
  | .ptpGeneral => dueCount (s.emissions g false) here + sumN (((List.range 24).filter fun k => k % 16 == g).map s.signalsDue)
  | _ => 0

/-- Client session `c` may send one more message of a class in this tick: what its grove originates besides and what its sessions have
sent stay below the cap (R270, R271). -/
def clientRoom (s : State) (c : Nat) (event : Bool) : Bool :=
  let g := c % 16
  let sent := Sparse.get (fun _ => 0) s.serv.originated (8 * g + if event then 2 else 3)
  let x := s.inst g
  let own := if event then
      dueCount (s.emissions g true) (gridNo s.sys.nextTime) + (if x.p2p && gridNo s.timeNow % 8192 == 0 then popCount x.macs 16 else 0)
    else dueCount (s.emissions g false) (gridNo s.timeNow)
  decide (own + sent < s.capOf (if event then .ptpEvent else .ptpGeneral))

/-- The frames of the last tick handed to grove `g` in W0: forwarded ones first, then by ingress time and MAC, each class
within its cap after the reserve for originated messages; the items numbered from 0 (R44, R48, R58, R270–R272, R362). -/
def handOffGrove (s : State) (frames : List RxFrame) (g : Nat) : State :=
  let mine := frames.filter fun f => f.grove == g
  let order (a b : RxFrame) : Bool := decide (a.ingress < b.ingress) || (a.ingress == b.ingress && decide (a.mac < b.mac))
  let sorted := sortBy order (mine.filter fun f => f.forwarded.isSome) ++ sortBy order (mine.filter fun f => f.forwarded.isNone)
  let st := s.o (Obj.groveState g)
  let key (c : FrameClass) : Nat := match c with | .nts => 0 | .ntp => 1 | .ptpEvent => 2 | .ptpGeneral => 3 | .esmc => 4
  let step (acc : State × Tbl Nat × List RxFrame) (f : RxFrame) : State × Tbl Nat × List RxFrame :=
    let (s, usedBy, took) := acc
    let ok := st == 3 || ((f.session.isSome || f.forwarded.isSome) && st == 2)
    if !ok then (s.inc Obj.preServiceDrops, usedBy, took)
    else if f.forwarded.isSome then (s, usedBy, took ++ [f])
    else
      let k := key f.cls
      let u := Sparse.get (fun _ => 0) usedBy k
      let on := f.session.isSome || svcOf f.cls == 3 || s.svcOn (svcOf f.cls)
      let room := s.capOf f.cls - s.scheduled g f.cls
      if on && decide (u < room) then (s, Sparse.put (fun _ => 0) usedBy k (u + 1), took ++ [f])
      else (s.inc Obj.intakeCapDrops, usedBy, took)
  let (s1, _, took) := sorted.foldl step (s, [], [])
  let lanes := (enum took).foldl (fun (l : Tbl Nat) x => Sparse.put (fun _ => 0) l (8192 * g + x.1) (x.2.lane % 16 + 1)) s1.shuttle.lanes
  { s1 with
    serv := { s1.serv with items := Sparse.put (fun _ => []) s1.serv.items g (enum took), nextItem := Sparse.put (fun _ => 0) s1.serv.nextItem g took.length }
    shuttle := { s1.shuttle with lanes := lanes } }

/-- The hand-off of W0 (R44): the frames captured before the current tick. -/
def handOff (s : State) : State :=
  let old := s.net.rx.filter fun f => f.tick != s.tick
  let s1 : State := { s with net := { s.net with rx := s.net.rx.filter fun f => f.tick == s.tick }, serv := { s.serv with items := [], nextItem := [], originated := [] } }
  (List.range 16).foldl (fun s g => s.handOffGrove old g) s1

/-- An engine serves the lane, or that of a stream, in this tick (R361, R367). -/
def laneUp (s : State) (g lane : Nat) : Bool := !(s.shuttle.down.any fun x => x.1 == 16 * g + lane % 16)

/-- The lane whose ACTIVE engine serves a lane: its own, or that of the next higher lane that has one (R361). -/
def laneServer (s : State) (g lane : Nat) : Option Nat :=
  ((List.range 16).map fun k => (lane + k) % 16).find? fun l => (List.range 17).any fun e =>
    s.o (Obj.engineState g e) == 2 && s.n (Obj.engineLane g e) == l

/-- The item of a grove with a number, if its lane is served and has committed every item before it: a lane takes its items in order of
ingress, and an engine its own lane's before those of an orphaned one (R272, R361). -/
def item (s : State) (g n : Nat) : Option RxFrame :=
  let l := Sparse.get (fun _ => []) s.serv.items g
  let first (lane : Nat) : Bool := match s.laneServer g lane with
    | some k => k == lane || l.all fun y => y.2.lane % 16 != k
    | none => true
  (l.find? fun x => x.1 == n && s.laneUp g x.2.lane && first (x.2.lane % 16) &&
    l.all fun y => decide (n ≤ y.1) || y.2.lane % 16 != x.2.lane % 16).map (·.2)

/-- The state without an item. -/
def itemDone (s : State) (g n : Nat) : State :=
  { s with serv := { s.serv with
    items := Sparse.put (fun _ => []) s.serv.items g ((Sparse.get (fun _ => []) s.serv.items g).filter fun x => x.1 != n) } }

/-- A new item number for a message of a stream that the grove originates (R361, R362). -/
def newItem (s : State) (g stream : Nat) : State × Nat :=
  let n := Sparse.get (fun _ => 0) s.serv.nextItem g
  let lanes := Sparse.put (fun _ => 0) s.shuttle.lanes (8192 * g + n % 8192) (stream % 16 + 1)
  ({ s with serv := { s.serv with nextItem := Sparse.put (fun _ => 0) s.serv.nextItem g (n + 1) }, shuttle := { s.shuttle with lanes := lanes } }, n)

/-- A frame released by a commit: its Reed bit is set and the frame queued; one whose bit is already set is blocked (R363,
R365). -/
def release (s : State) (g n bit m : Nat) (f : TxFrame) : State :=
  let key := g * 8192 + n % 8192
  let w := Sparse.get (fun _ => 0) s.serv.reed key
  if bitOf w bit then s.inc (Obj.reedDupBlocked g)
  else
    let s1 : State := { s with serv := { s.serv with reed := Sparse.put (fun _ => 0) s.serv.reed key (setBit w bit) } }
    s1.enqueue m f

/-- W2, in a mode with service, and a grove that serves and may commit (R43, R57, R365). -/
def serves (s : State) (g : Nat) : Bool :=
  s.inService && s.sys.window == .w2 && s.o (Obj.groveState g) == 3 && !s.shuttle.journalBad.contains g

/-- The grove works on an item: it serves, or it is READY and the twin peer forwarded the item (R58). -/
def servesItem (s : State) (g : Nat) (f : RxFrame) : Bool :=
  s.serves g || (f.forwarded.isSome && s.inService && s.sys.window == .w2 && s.o (Obj.groveState g) == 2 && !s.shuttle.journalBad.contains g)

/-- W2 and a grove that may work for its reference sessions (R249). -/
def works (s : State) (g : Nat) : Bool :=
  decide (3 ≤ s.mode ∧ s.mode ≤ 5) && s.sys.window == .w2 && (s.o (Obj.groveState g) == 2 || s.o (Obj.groveState g) == 3)

/-- The tick in whose span a device time at or after the present boundary lies. -/
def tickAt (s : State) (t : Int) : Nat := if s.sys.nextTime ≤ t then s.tick + 1 else s.tick

/-! ### Bounds and identity of the pair (R433) -/

/-- The peer's AGREE of this tick, if it came. -/
def peerNow (s : State) : Option Agree := if s.joined && s.twin.gotAgree then s.twin.peer else none

/-- The core of a pair-stream message: the larger of the unit's own and an emitting peer's (R433). -/
def pairCore (s : State) (c : TsState) : TsState := match s.peerNow with
  | some a => if a.emit && decide (c.bound < a.coreNext) then { c with bound := a.coreNext } else c
  | none => c

/-- clockClass of an instance (R279). (Log entry 65, DEDUCED) -/
def ownClass (s : State) (c : PtpCfg) : Nat :=
  if s.mode = mTrack then 6 else if s.bound ≤ c.cc7 then c.ccIn else c.ccOut

/-- timeSource (R279). -/
def ownSource (s : State) : Nat :=
  if s.mode = mHoldover then
    (if s.activeMembers.any fun m => decide (1 ≤ (s.decl m).model ∧ (s.decl m).model ≤ 3) then 0x10 else 0xA0)
  else
    let r := s.n Obj.selTCurrent
    if r = 1 then 0x20 else if r / 16 = 1 then 0x90 else 0x40

/-- The reference ID, mode, clockClass and timeSource that pair streams announce: the time master's (R433). -/
def pairView (s : State) (c : PtpCfg) : Nat × Nat × Nat × Nat :=
  let own := (if s.mode = mHoldover then 0 else s.n Obj.selTCurrent, s.mode.toNat, s.ownClass c, s.ownSource)
  if s.joined && !s.twin.master then
    match s.twin.peer with
    | some a => (if a.mode = 5 then 0 else a.selRef, a.mode, a.clockClass, a.timeSource)
    | none => own
  else own

/-! ### Building messages -/

/-- Octets of Ethernet, IP and UDP headers of a transport, with tags. -/
def headLen (transport tags : Nat) : Nat := 14 + 4 * tags + (if transport = 1 then 28 else if transport = 2 then 48 else 0)

/-- A queued PTP message with a body; event messages go to queue 7 and port 319, others to queue 6 and port 320. -/
def ptpFrame (kind : TxKind) (transport : Nat) (dst src : Octets) (tags : List Octets) (srcIp dstIp : Octets) (body : Octets)
    (ticks : List Nat) : TxFrame :=
  let event := decide (octetAt body 0 % 16 ≤ 3)
  let len := max 64 (headLen transport tags.length + body.length + 4)
  let port := if event then 319 else 320
  { queue := if event then 7 else 6, kind := kind, svc := 0, len := len, dst := dst, src := src, tags := tags
    ip := if transport = 1 then 4 else if transport = 2 then 6 else 0, srcIp := srcIp, dstIp := dstIp
    srcPort := if transport = 0 then 0 else port, dstPort := if transport = 0 then 0 else port
    etherType := if transport = 0 then 0x88F7 else if transport = 1 then 0x0800 else 0x86DD, body := body, ticks := ticks }

/-- The group destination of an instance's messages on its transport: MAC and IP (R276). (Log entry 57, PRESUMED) -/
def groupDst (c : PtpCfg) (pdelay : Bool) : Octets × Octets :=
  if c.transport = 0 then
    (if c.profile = 5 ∨ pdelay = true ∨ (c.profile = 3 ∧ bitOf c.flags 4 = true) then ([0x01, 0x80, 0xC2, 0, 0, 0x0E], [])
     else ([0x01, 0x1B, 0x19, 0, 0, 0], []))
  else if c.transport = 1 then
    (if pdelay then ([0x01, 0, 0x5E, 0, 0, 0x6B], [224, 0, 0, 107]) else ([0x01, 0, 0x5E, 0, 0x01, 0x81], [224, 0, 1, 129]))
  else if pdelay then ([0x33, 0x33, 0, 0, 0, 0x6B], [0xFF, 0x02] ++ zeros 13 ++ [0x6B])
  else ([0x33, 0x33, 0, 0, 0x01, 0x81], [0xFF, 0x0E] ++ zeros 12 ++ [0x01, 0x81])

/-- The AUTHENTICATION TLV over a message (R286): none when the lanes hold no key of that association. -/
def authTlv (s : State) (spp : Nat) (msg : Octets) : Option Octets :=
  let sa := s.blob (Obj.ptpSa spp)
  let keys := Sparse.get (fun _ => ([], [])) s.serv.saKeys spp
  if 16 ≤ spp ∨ octetAt sa 0 ≠ 1 ∨ keys.1 = [] then none
  else
    let head := toBE 2 0x8009 ++ toBE 2 22 ++ toBE 1 spp ++ zeros 1 ++ octets sa 4 4
    some (head ++ padTo 16 (Config.cmac keys.1 (msg ++ head)))

/-- A message's AUTHENTICATION TLV is the last one and passes (R286). -/
def authOk (s : State) (spp : Nat) (msg : Octets) : Bool :=
  let b := msg.take (fieldN msg 2 2)
  let sa := s.blob (Obj.ptpSa spp)
  let keys := Sparse.get (fun _ => ([], [])) s.serv.saKeys spp
  match (tlvsOf b).getLast? with
  | some (off, t, v) =>
    let id := fieldN v 2 4
    let key := if id = fieldN sa 4 4 then keys.1 else if octetAt sa 3 ≠ 0xFF ∧ id = fieldN sa 8 4 then keys.2 else []
    t == 0x8009 && v.length == 22 && octetAt v 0 == spp && octetAt sa 0 == 1 && decide (spp < 16) && key != [] &&
      decide (b.length = off + 26) && padTo 16 (Config.cmac key (b.take (off + 10))) == octets v 6 16
  | none => false

/-- A message completed: the vendor TLV where its class carries it, the AUTHENTICATION TLV where the instance needs one, and
the whole length (R237, R286).  None when authentication is not possible. -/
def finish (s : State) (auth : Option Nat) (msg tlvs : Octets) : Option Octets :=
  let total := msg.length + tlvs.length + (if auth.isSome then 26 else 0)
  let m := patch msg 2 (toBE 2 total) ++ tlvs
  match auth with
  | none => some m
  | some spp => (s.authTlv spp m).map fun t => m ++ t

/-- The SPP of an instance that needs authentication. (Log entry 62, DEDUCED) -/
def authOf (c : PtpCfg) : Option Nat := if bitOf c.flags 3 then some c.spp else none

/-- The vendor TLV of a message class: bit 0 Sync or Follow_Up, 1 Delay_Resp, 2 Pdelay, 3 Announce (R237). -/
def tlvFor (s : State) (bit e : Nat) (c : TsState) (t : Int) : Octets :=
  if bitOf (s.n Obj.boundTlvEnable) bit then s.vendorTlv e c t else []

/-- The flags of a PTP message: two-step, unicast. -/
def ptpFlags (two uni : Bool) : Nat := (if two then 0x0200 else 0) + (if uni then 0x0400 else 0)

/-- The leap, validity and traceability flags of Announce (R279). -/
def announceFlags (s : State) (cls : Nat) (c : PtpCfg) (mode : Nat) : Nat :=
  let w := s.leapWarning s.timeNow
  let trace := mode == 4 || (mode == 5 && cls == c.ccIn)
  (if w = 1 then 1 else 0) + (if w = 2 then 2 else 0) + 4 + 8 + (if trace then 0x30 else 0)

/-! ### Streams -/

/-- Instance, MAC, session line and stream key of a stream (R419: kind in bits 31–28). -/
def streamKey : PtpStream → Nat
  | .multi i m => 16 * i.val + m.val
  | .uni l => 0x10000000 + l.val
  | .peer i m => 0x20000000 + 16 * i.val + m.val

/-- The stream of a STREAM field (R419). -/
def streamOfKey (k : Nat) : Option PtpStream :=
  if k / 2 ^ 28 = 0 then (if h : k % 256 / 16 < 16 ∧ k % 16 < 16 then some (.multi ⟨k % 256 / 16, h.1⟩ ⟨k % 16, h.2⟩) else none)
  else if k / 2 ^ 28 = 1 then (if h : k % 2 ^ 28 < 262144 then some (.uni ⟨k % 2 ^ 28, h⟩) else none)
  else none

/-- The instance of a stream, its MAC, its grove, its session, and period and phase of the given grant; none where the
stream does not run (R276–R284). -/
def streamOf (s : State) (x : PtpStream) (announce : Bool) : Option (Nat × Nat × Nat × Option Session × Nat × Nat) :=
  match x with
  | .multi i m =>
    let c := s.inst i
    if c.profile ≠ 0 ∧ bitOf c.flags 1 = true ∧ bitOf c.macs m = true ∧ s.macUsed m = true then
      some (i.val, m.val, i.val, none, period (if announce then c.logAnnounce else c.logSync), 0)
    else none
  | .uni l => match s.session l with
    | some v =>
      match (if announce then v.announce else v.sync) with
      | some g => if s.grantLive g && (s.inst v.inst).profile != 0 then some (v.inst, v.mac, v.grove, some v, period g.log, g.phase) else none
      | none => none
    | none => none
  | .peer _ _ => none

/-- The next sequenceId of a stream for a messageType. -/
def nextSeq (s : State) (x : PtpStream) (type : Nat) : Nat := match x with
  | .uni l => match s.session l with
    | some v => if type = 0 then v.seqSync else if type = 11 then v.seqAnnounce else v.seqSignal
    | none => 0
  | _ => Sparse.get (fun _ => 0) s.serv.seqs (streamKey x * 16 + type)

/-- The next sequenceId set. -/
def setSeq (s : State) (x : PtpStream) (type v : Nat) : State :=
  let v := v % 65536
  match x with
  | .uni l => match s.session l with
    | some e => s.commitSession e.grove l (some (if type = 0 then { e with seqSync := v } else if type = 11 then { e with seqAnnounce := v }
        else { e with seqSignal := v }))
    | none => s
  | _ => { s with serv := { s.serv with seqs := Sparse.put (fun _ => 0) s.serv.seqs (streamKey x * 16 + type) v } }

/-- The number of a pair-stream message committed now: one more than the last due instant at which either unit committed; a
due instant that this unit withheld, and of which the peer has not told, counts as committed while the peer emits (R282,
R430). -/
def pairSeq (s : State) (x : PtpStream) (type : Nat) : State × Nat :=
  let key := streamKey x
  let open_ := s.twin.withheld.filter fun w => w.stream == key && w.type == type
  let guess := s.joined && !open_.isEmpty && (match s.twin.peer with | some a => a.emit | none => false)
  let n := (s.nextSeq x type + if guess then open_.length else 0) % 65536
  ({ s with twin := { s.twin with withheld := s.twin.withheld.filter fun w => !(w.stream == key && w.type == type) } }, n)

/-- A commit of a pair-stream message noted for COMMITS, and its number taken. -/
def committed (s : State) (x : PtpStream) (type seq due : Nat) : State :=
  let s1 := s.setSeq x type (seq + 1)
  if s.joined then
    { s1 with twin := { s1.twin with commits := s1.twin.commits ++ [(s.age, ⟨streamKey x, due % 2 ^ 32, type, seq⟩)] } }
  else s1

/-- A pair-stream message withheld at its ceiling or at queueing: counted by the caller, noted for its number (R430). -/
def withheld (s : State) (x : PtpStream) (type due : Nat) : State :=
  if s.joined then
    { s with twin := { s.twin with withheld := s.twin.withheld ++ [⟨streamKey x, due % 2 ^ 32, type, 0⟩] } }
  else s

/-- A stream's message of a type for a due tick has been handled already. -/
def doneDue (s : State) (x : PtpStream) (type grid : Nat) : Bool :=
  Sparse.get (fun _ => 0) s.serv.lastDue (streamKey x * 16 + type) == grid + 1

/-- A stream's message of a type handled for a due tick. -/
def markDue (s : State) (x : PtpStream) (type grid : Nat) : State :=
  { s with serv := { s.serv with lastDue := Sparse.put (fun _ => 0) s.serv.lastDue (streamKey x * 16 + type) (grid + 1) } }

/-- Destination, source and addresses of a message of a stream. -/
def streamAddr (s : State) (c : PtpCfg) (m : Nat) (v : Option Session) : Octets × List Octets × Octets × Octets :=
  match v with
  | some v => (v.dst, v.tags, if v.ip = 0 then [] else s.svcIp m v.ip, if v.ip = 4 then octets v.addr 12 4 else if v.ip = 6 then v.addr else [])
  | none =>
    let d := groupDst c false
    (d.1, [], if c.transport = 0 then [] else s.svcIp m (if c.transport = 1 then 4 else 6), d.2)

/-- The octets of a Sync that leaves a MAC at time d: the time itself in one-step mode, with the vendor TLV (R237, R280). -/
def syncBody (s : State) (c : PtpCfg) (v : Option Session) (seq e : Nat) (core : TsState) (m : Nat) (d : Int) : Option Octets :=
  let two := bitOf c.flags 0
  let (ts, f) := ptpTimestamp d
  let body := ptpHeader (if c.profile = 5 then 1 else 0) 0 44 c.domain (ptpFlags two v.isSome) (if two then 0 else f) (s.instPort m) seq
    (if v.isSome then 0x7F else c.logSync) ++ (if two then zeros 10 else ts)
  s.finish (authOf c) body (if two then [] else s.tlvFor 0 e core d)

/-- The frame of a Sync, queued EXACT for time d; a two-step one is followed up (R259, R280). -/
def syncFrame (s : State) (x : PtpStream) (c : PtpCfg) (v : Option Session) (g n m : Nat) (dup : Bool) (red : Option Nat) (d : Int)
    (b : Octets) : TxFrame :=
  let (dst, tags, srcIp, dstIp) := s.streamAddr c m v
  { ptpFrame (.service g n) c.transport dst (s.macAddr m) tags srcIp dstIp b [s.tickAt d] with
    exact := some d, dup := dup, red := red, notify := if bitOf c.flags 0 then some (0, streamKey x) else none }

/-- A Sync reserves its EXACT departure from the start of the tick after this one, and is released with its octets for that time (R259, R280);
answers whether it was queued. -/
def syncQueue (s : State) (g n bit m len : Nat) (now : Int) (build : Int → Option Octets) (frame : Int → Octets → TxFrame) : State × Bool :=
  match s.exactReserve m len s.sys.nextTime now with
  | (s1, none) => (s1, false)
  | (s1, some d) => match build d with
    | none => (s1, false)
    | some b => (s1.release g n bit m (frame d b), true)

/-- The Sync of a stream for the next tick, queued EXACT; a DUP one also on the other MAC of its pair (R237, R259, R262,
R267, R280, R286). (Log entries 60, DEDUCED; 64, DEDUCED; 66, DEDUCED) -/
def syncDue (s : State) (x : PtpStream) (dup : Bool) (now : Int) : State :=
  match s.streamOf x false with
  | none => s
  | some (i, m, g, v, per, phase) =>
    let c := s.inst i
    let launch := s.sys.nextTime
    let grid := gridNo launch
    let pd := Sparse.get (fun _ => ({} : PeerDelay)) s.serv.pdelay (16 * i + m)
    let linkOk := !c.p2p || (match pd.delay with | some d => decide (d ≤ 800 * nsUnits) | none => false)
    if !(s.serves g && s.laneUp g (streamKey x) && s.svcOn 0 && s.macUp m && linkOk && (grid + per - phase % per) % per == 0 && !s.doneDue x 0 grid) then s
    else
      let due := s.tick + 1
      let s1 := s.markDue x 0 grid
      let core := s.pairCore (s.coreOf [due])
      let e (m : Nat) : Nat := boundSum [core.bound, 1, s.portTerm m]
      if !s.belowCeiling 0 (e m) then ((s1.inc (Obj.ceilingDrops 0)).withheld x 0 due)
      else
        let (s2, seq) := s1.pairSeq x 0
        let build (m : Nat) (d : Int) : Option Octets := s.syncBody c v seq (e m) core m d
        let tags := (s.streamAddr c m v).2.1
        let len0 := match build m launch with | some b => max 64 (headLen c.transport tags.length + b.length + 4) | none => 64
        let (s3, n) := s2.newItem g (streamKey x)
        let queue (s : State) (bit m : Nat) (red : Option Nat) : State × Bool :=
          s.syncQueue g n bit m len0 now (build m) fun d b => s.syncFrame x c v g n m dup red d b
        match (if dup then s.redPairOf m else none) with
        | some (k, _, other, _) =>
          let red := s.n (Obj.redSeq k)
          let (s4, ok1) := queue s3 0 m (some red)
          -- the copy stands its own ceiling test, on its own MAC
          let (s5, ok2) := if s.belowCeiling 0 (e other) then queue s4 1 other (some red) else (s4.inc (Obj.ceilingDrops 0), false)
          if ok1 || ok2 then ((s5.takeRed k).1).committed x 0 seq due else s5.withheld x 0 due
        | none =>
          let (s4, ok) := queue s3 0 m none
          if ok then s4.committed x 0 seq due else s4.withheld x 0 due

/-- The Follow_Up information TLV of IEEE 802.1AS-2020 (R280): cumulativeScaledRateOffset 0, gmTimeBaseIndicator from
TIMESCALE_STEPS, lastGmPhaseChange the last step. -/
def asTlv (s : State) : Octets :=
  toBE 2 3 ++ toBE 2 28 ++ [0x00, 0x80, 0xC2, 0, 0, 1] ++ zeros 4 ++ toBE 2 (s.n Obj.timescaleSteps) ++
    toBEInt 12 (roundUpHalf s.sys.lastStep 65536) ++ zeros 4

/-- A Follow_Up of a stream whose two-step Sync has left, or the Pdelay_Resp_Follow_Up owed on a MAC (R262, R280, R281). -/
def followUpDue (s : State) (x : PtpStream) : State :=
  match x with
  | .peer i m =>
    let key := 16 * i.val + m.val
    let sent := s.serv.departed.filter fun d => d.kind == 1 && d.key % 256 == key
    match sent.findSome? fun d => (s.serv.owed.find? fun o => o.key == d.key && o.tick == d.tick).map fun o => (d, o) with
    | some (d, o) =>
      if !(s.serves i && s.laneUp i (streamKey x) && s.macUp m) then s
      else
        let s0 : State := { s with serv := { s.serv with
          departed := s.serv.departed.filter (fun y => y != d), owed := s.serv.owed.filter (fun y => y != o) } }
        let c := s.inst i
        let core := s.coreOf [d.tick]
        let e := boundSum [core.bound, 1, s.portTerm m]
        if !s.belowCeiling 0 e then s0.inc (Obj.ceilingDrops 0)
        else
          let (ts, f) := ptpTimestamp d.egress
          let b := patch (patch o.frame.body 34 ts) 8 (toBEInt 8 (fieldI o.frame.body 8 8 + f))
          match s.finish (authOf c) b (s.tlvFor 2 e core d.egress) with
          | none => s0
          | some b1 =>
            let (s1, n) := s0.newItem i (streamKey x)
            s1.release i n 0 o.mac { o.frame with body := b1, ticks := [d.tick], len := max 64 (headLen c.transport o.frame.tags.length + b1.length + 4) }
    | none => s
  | _ =>
    match s.serv.departed.find? (fun d => d.kind == 0 && d.key == streamKey x), s.streamOf x false with
    | some d, some (i, m, g, v, _, _) =>
      if !(s.serves g && s.laneUp g (streamKey x) && s.svcOn 0 && s.macUp m) then s
      else
        let s0 : State := { s with serv := { s.serv with departed := s.serv.departed.filter (fun y => y != d) } }
        let c := s.inst i
        let core := s.pairCore (s.coreOf [d.tick])
        let e := boundSum [core.bound, 1, s.portTerm m]
        if !s.belowCeiling 0 e then s0.inc (Obj.ceilingDrops 0)
        else
          let (dst, tags, srcIp, dstIp) := s.streamAddr c m v
          let (ts, f) := ptpTimestamp d.egress
          let seq := (s.nextSeq x 0 + 65535) % 65536
          let body := ptpHeader (if c.profile = 5 then 1 else 0) 8 44 c.domain (ptpFlags false v.isSome) f (s.instPort m) seq
            (if v.isSome then 0x7F else c.logSync) ++ ts
          match s.finish (authOf c) body ((if c.profile = 5 then s.asTlv else []) ++ s.tlvFor 0 e core d.egress) with
          | none => s0
          | some b =>
            let (s1, n) := s0.newItem g (streamKey x)
            let s2 := s1.release g n 0 m (ptpFrame (.service g n) c.transport dst (s.macAddr m) tags srcIp dstIp b [d.tick])
            if s.joined then
              { s2 with twin := { s2.twin with commits := s2.twin.commits ++ [(s.age, ⟨streamKey x, s.tick % 2 ^ 32, 8, seq⟩)] } }
            else s2
    | _, _ => s

/-- The Announce of a stream due in the current tick (R237, R238, R279, R433). (Log entry 60, DEDUCED) -/
def announceDue (s : State) (x : PtpStream) : State :=
  match s.streamOf x true with
  | none => s
  | some (i, m, g, v, per, phase) =>
    let c := s.inst i
    let grid := gridNo s.timeNow
    if !(s.serves g && s.laneUp g (streamKey x) && s.svcOn 0 && s.macUp m && (grid + per - phase % per) % per == 0 && !s.doneDue x 11 grid) then s
    else
      let s1 := s.markDue x 11 grid
      let core := s.pairCore (s.coreOf [s.tick])
      if !s.belowCeiling 0 core.bound then (s1.inc (Obj.ceilingDrops 0)).withheld x 11 s.tick
      else
        let (s2, seq) := s1.pairSeq x 11
        let (_, mode, cls, source) := s.pairView c
        let (dst, tags, srcIp, dstIp) := s.streamAddr c m v
        let acc := if s.flag Obj.announceAccFromBound then accuracyOf core.bound else Config.clockAccuracy i % 256
        let body := ptpHeader (if c.profile = 5 then 1 else 0) 11 64 c.domain (ptpFlags false v.isSome + s.announceFlags cls c mode) 0 (s.instPort m)
            seq (if v.isSome then 0x7F else c.logAnnounce) ++
          zeros 10 ++ toBEInt 2 (s.o Obj.taiUtcOffset) ++ zeros 1 ++ toBE 1 c.prio1 ++ toBE 1 cls ++ toBE 1 acc ++ toBE 2 c.oslv ++
          toBE 1 c.prio2 ++ s.instIdentity ++ toBE 2 0 ++ toBE 1 source
        match s.finish (authOf c) body (s.tlvFor 3 core.bound core s.timeNow) with
        | none => s2.withheld x 11 s.tick
        | some b =>
          let (s3, n) := s2.newItem g (streamKey x)
          (s3.release g n 0 m (ptpFrame (.service g n) c.transport dst (s.macAddr m) tags srcIp dstIp b [s.tick])).committed x 11 seq s.tick

/-- The Pdelay_Req that a peer-to-peer instance sends once a second on a MAC (R281). (Log entry 60, DEDUCED) -/
def pdelayReqDue (s : State) (i m : Nat) : State :=
  let c := s.inst i
  let x : PtpStream := .peer ⟨i % 16, Nat.mod_lt _ (by decide)⟩ ⟨m % 16, Nat.mod_lt _ (by decide)⟩
  let grid := gridNo s.timeNow
  if !(s.serves i && s.laneUp i (streamKey x) && s.svcOn 0 && c.p2p && bitOf c.macs m && s.macUp m && grid % 8192 == 0 && !s.doneDue x 2 grid) then s
  else
    let s1 := s.markDue x 2 grid
    let seq := s.nextSeq x 2
    let d := groupDst c true
    let body := ptpHeader (if c.profile = 5 then 1 else 0) 2 54 c.domain 0 0 (s.instPort m) seq 0 ++ zeros 20
    match s.finish (authOf c) body [] with
    | none => s1
    | some b =>
      let (s2, n) := s1.newItem i (streamKey x)
      let f := ptpFrame (.service i n) c.transport d.1 (s.macAddr m) [] (if c.transport = 0 then [] else s.svcIp m (if c.transport = 1 then 4 else 6)) d.2 b []
      let pd := Sparse.get (fun _ => ({} : PeerDelay)) s2.serv.pdelay (16 * i + m)
      let s3 := (s2.release i n 0 m { f with svc := 3, notify := some (3, 16 * i + m) }).setSeq x 2 (seq + 1)
      { s3 with serv := { s3.serv with
        pdelay := Sparse.put (fun _ => {}) s3.serv.pdelay (16 * i + m) { pd with seq := seq, t1 := none, t2 := none, t4 := none, corr := 0 } } }

/-! ### Received messages -/

/-- The instance that a received PTP message belongs to: its MAC, transport and domain; none when there is none (R276,
R277). -/
def instOf (s : State) (f : RxFrame) : Option Nat :=
  let tr := if f.p.ip = 4 then 1 else if f.p.ip = 6 then 2 else 0
  (List.range 16).find? fun i =>
    let c := s.inst i
    c.profile != 0 && bitOf c.macs f.mac && c.transport == tr && c.domain == octetAt f.p.payload 4

/-- A received message that does not pass its instance's authentication is dropped and counted (R286).
(Log entry 62, DEDUCED) -/
def authCheck (s : State) (i : Nat) (msg : Octets) : Bool :=
  let c := s.inst i
  !bitOf c.flags 3 || s.authOk c.spp msg

/-- The reply frame to a received one: its addresses turned round, on its MAC with its tags (R258, R278). -/
def replyTo (s : State) (kind : TxKind) (f : RxFrame) (body : Octets) (ticks : List Nat) : TxFrame :=
  let tr := if f.p.ip = 4 then 1 else if f.p.ip = 6 then 2 else 0
  let x := ptpFrame kind tr f.p.src (s.macAddr f.mac) f.p.tags f.p.dstIp f.p.srcIp body ticks
  { x with response := true, dstPort := if f.p.ip = 0 then 0 else x.dstPort }

/-- The session line of a client of an instance: its protocol address and portIdentity (R283). -/
def lineOf (s : State) (i : Nat) (addr portId : Octets) : Option Nat :=
  (s.serv.sessions.find? fun e => match e.2 with
    | some v => v.inst == i && v.addr == addr && v.portId == portId
    | none => false).map (·.1)

/-- The address that identifies the sender of a frame. -/
def senderOf (f : RxFrame) : Octets := addr16 f.p.ip (if f.p.ip = 0 then f.p.src else f.p.srcIp)

/-- The answer to a Delay_Req (R281, R283): the item's message is dropped, withheld, or answered EXACT.
(Log entry 60, DEDUCED) -/
def delayReq (s : State) (g n : Nat) (f : RxFrame) (now : Int) : State :=
  let s0 := s.itemDone g n
  let b := f.p.payload
  match s.instOf f with
  | none => s0
  | some i =>
    let c := s.inst i
    let uni := bitOf (fieldN b 6 2) 10 || !groupAddr f.p
    if !s.authCheck i b then s0.inc (Obj.ptpAuthFail i)
    else if c.p2p then s0.inc (Obj.ptpUnsupported i)
    else
      let granted := match s.lineOf i (senderOf f) (octets b 20 10) with
        | some l => match s.session l with
          | some v => match v.delay with | some x => s.grantLive x | none => false
          | none => false
        | none => false
      if uni && !granted then s0.inc (Obj.ptpNoGrantDrops i)
      else
        let core := s.coreOf [f.tick]
        let e := boundSum [core.bound, 1, s.portTerm f.mac]
        if !s.belowCeiling 0 e then s0.inc (Obj.ceilingDrops 0)
        else
          let (ts, fr) := ptpTimestamp f.ingress
          let body := ptpHeader (octetAt b 0 / 16) 9 54 c.domain (ptpFlags false uni) (fieldI b 8 8 + fr) (s.instPort f.mac) (fieldN b 30 2)
            (if uni then 0x7F else c.logDelay) ++ ts ++ octets b 20 10
          match s.finish (authOf c) body (s.tlvFor 1 e core f.ingress) with
          | none => s0
          | some m =>
            let r := s.replyTo (.service g n) f m [f.tick]
            let d := groupDst c false
            let r1 := if uni then r else { r with dst := d.1, dstIp := d.2 }
            let (s1, od) := s0.exactReserve f.mac r1.len (now + 600 * nsUnits) now
            match od with
            | none => s1
            | some t => s1.release g n 0 f.mac { r1 with exact := some t }

/-- The answer to a Pdelay_Req (R281). (Log entry 60, DEDUCED) -/
def pdelayReq (s : State) (g n : Nat) (f : RxFrame) (now : Int) : State :=
  let s0 := s.itemDone g n
  let b := f.p.payload
  match s.instOf f with
  | none => s0
  | some i =>
    let c := s.inst i
    if !s.authCheck i b then s0.inc (Obj.ptpAuthFail i)
    else if !c.p2p then s0.inc (Obj.ptpUnsupported i)
    else
      let two := bitOf c.flags 0
      let (s1, od) := if two then (s0, none) else s0.exactReserve f.mac
        (max 64 (headLen c.transport f.p.tags.length + 58 + (if bitOf (s.n Obj.boundTlvEnable) 2 then 40 else 0) + (if bitOf c.flags 3 then 26 else 0)))
        (now + 600 * nsUnits) now
      let ticks := match od with | some t => [f.tick, s.tickAt t] | none => [f.tick]
      let core := s.coreOf ticks
      let e := boundSum [core.bound, 1, s.portTerm f.mac]
      if !two && od.isNone then s1
      else if !s.belowCeiling 0 e then s0.inc (Obj.ceilingDrops 0)
      else
        let (ts, fr) := ptpTimestamp f.ingress
        let turn := match od with | some t => roundUpHalf (t - f.ingress) 65536 | none => 0
        let sdo := if c.profile = 5 then 1 else 0
        let body := ptpHeader sdo 3 54 c.domain (ptpFlags two false) ((if two then 0 else fieldI b 8 8) + fr + turn) (s.instPort f.mac) (fieldN b 30 2) 0x7F ++
          ts ++ octets b 20 10
        match s.finish (authOf c) body (s.tlvFor 2 e core f.ingress) with
        | none => s0
        | some m =>
          let d := groupDst c true
          let r := s.replyTo (.service g n) f m ticks
          let r1 := if groupAddr f.p then { r with dst := d.1, dstIp := d.2 } else r
          let key := 16 * i + f.mac + 256 * (8192 * g + n)
          let s2 := s1.release g n 0 f.mac { r1 with exact := od, notify := if two then some (1, key) else none }
          if two then
            let fu := ptpHeader sdo 10 54 c.domain 0 (fieldI b 8 8) (s.instPort f.mac) (fieldN b 30 2) 0x7F ++ zeros 10 ++ octets b 20 10
            let r2 := s.replyTo (.service g n) f fu [f.tick]
            let r3 := if groupAddr f.p then { r2 with dst := d.1, dstIp := d.2 } else r2
            let owed : OwedFollowUp := ⟨key, s.tick, { r3 with response := false }, f.mac⟩
            { s2 with serv := { s2.serv with owed := s2.serv.owed ++ [owed] } }
          else s2

/-! ### Unicast negotiation (R283–R285) -/

/-- The grant of a session for a message type: 0xB Announce, 0 Sync, 9 Delay_Resp; no other type has one.
(Log entry 61, DEDUCED) -/
def grantOfType (v : Session) (t : Nat) : Option Grant :=
  if t = 11 then v.announce else if t = 0 then v.sync else if t = 9 then v.delay else none

/-- A session with one of its grants replaced. -/
def setGrant (v : Session) (t : Nat) (g : Option Grant) : Session :=
  if t = 11 then { v with announce := g } else if t = 0 then { v with sync := g } else if t = 9 then { v with delay := g } else v

/-- A renewal of a session's grant captured before the current boundary waits for its W2 (R285, R305). -/
def renewalWaits (s : State) (v : Session) (t : Nat) : Bool :=
  let held := (Sparse.get (fun _ => []) s.serv.items v.grove).map fun x => x.2
  (held ++ s.net.rx).any fun f =>
    let b := f.p.payload
    f.tick != s.tick && f.cls == .ptpGeneral && octetAt b 0 % 16 == 12 && s.instOf f == some v.inst && senderOf f == v.addr &&
      octets b 20 10 == v.portId && (tlvsOf b).any fun y => y.2.1 == 4 && octetAt y.2.2 0 / 16 == t

/-- A line with what has ended taken out: grants that have run out, but for one that ends at this boundary and whose renewal
waits, and where asked grants cancelled; a session without a grant is gone (R283, R285). -/
def pruneLine (s : State) (l : Nat) (cancelled : Bool) : State :=
  match s.session l with
  | none => s
  | some v =>
    let keep (t : Nat) (g : Option Grant) : Option Grant := match g with
      | some x =>
        let lives := s.grantLive x || (decide (s.age = x.start + x.dur * 8192) && s.renewalWaits v t)
        if !lives || (cancelled && x.ending) then none else some x
      | none => none
    let w := { v with announce := keep 11 v.announce, sync := keep 0 v.sync, delay := keep 9 v.delay }
    if w = v then s
    else if w.announce.isNone && w.sync.isNone && w.delay.isNone then
      (s.commitSession v.grove l none).setN (Obj.ptpUnicastSessions v.inst) (s.n (Obj.ptpUnicastSessions v.inst) - 1)
    else s.commitSession v.grove l (some w)

/-- One REQUEST_UNICAST_TRANSMISSION: the new state, the GRANT TLV that answers it (R283, R284).  A grant that has run out before
is no grant to renew; the load of a new phase leaves out the grant that it replaces. (Log entry 61, DEDUCED) -/
def grantOne (s : State) (i g : Nat) (f : RxFrame) (portId : Octets) (authed : Bool) (v : Octets) : State × Octets :=
  let s := match s.lineOf i (senderOf f) portId with | some l => s.pruneLine l false | none => s
  let c := s.inst i
  let type := octetAt v 0 / 16
  let log := fieldI v 1 1
  let dur := min (fieldN v 2 4) c.grantMax
  let fastest := if type = 11 then c.logAnnounce else if type = 0 then c.logSync else c.logDelay
  let tlv (dur : Nat) : Octets := toBE 2 5 ++ toBE 2 8 ++ toBE 1 (type * 16) ++ toBEInt 1 log ++ toBE 4 dur ++ zeros 1 ++ [1]
  let deny (s : State) (why : Nat) : State × Octets := (s.inc (Obj.ptpGrantDenied (why - 1)), tlv 0)
  let line := s.lineOf i (senderOf f) portId
  let old := match line with | some l => s.session l | none => none
  let held := match old with | some x => grantOfType x type | none => none
  if !(bitOf c.flags 2) || (bitOf c.flags 3 && !authed) then deny s 4
  else if log < fastest ∨ (type ≠ 11 ∧ type ≠ 0 ∧ type ≠ 9) then deny s 2
  else if line.isNone ∧ 262144 ≤ s.serv.sessions.length then deny s 1
  else
    let per := period log
    let others : State := match line, old with
      | some l, some x => s.setSession l (some (setGrant x type none))
      | _, _ => s
    let load := others.emissions g (type == 0) ++ (if type = 0 then others.requests g else [])
    let fits (p k : Nat) : Option Nat := if s.capOf (if type = 0 then .ptpEvent else .ptpGeneral) / 2 < k + 1 then none else some p
    let choice : Option Nat :=
      if type = 9 then some 0
      else match held with
        -- a renewal keeps its phase; at another interval the reserve is tested anew
        | some x => if x.log = log then some x.phase else fits (x.phase % per) (phaseLoad load per (x.phase % per))
        | none => let (p, k) := choosePhase load per; fits p k
    match choice with
    | none => deny s 3
    | some phase =>
      let l := line.getD (((List.range (s.serv.sessions.length + 1)).find? fun k => (s.session k).isNone).getD 0)
      let base : Session := old.getD { inst := i, addr := senderOf f, portId := portId, grove := g, mac := f.mac, tags := f.p.tags
                                       dst := f.p.src, ip := f.p.ip }
      let s1 := s.commitSession g l (some (setGrant base type (some { start := s.age, dur := dur, log := log, phase := phase })))
      (if line.isNone then s1.addN (Obj.ptpUnicastSessions i) 1 else s1, tlv dur)

/-- One CANCEL_UNICAST_TRANSMISSION: the grant ends at the next boundary, and the ACKNOWLEDGE (R283).
(Log entry 61, DEDUCED) -/
def cancelOne (s : State) (i : Nat) (f : RxFrame) (portId v : Octets) : State × Octets :=
  let type := octetAt v 0 / 16
  let ack := toBE 2 7 ++ toBE 2 2 ++ toBE 1 (type * 16) ++ zeros 1
  match s.lineOf i (senderOf f) portId with
  | none => (s, ack)
  | some l => match s.session l with
    | none => (s, ack)
    | some x => (s.commitSession x.grove l (some (setGrant x type ((grantOfType x type).map fun g => { g with ending := true }))), ack)

/-- A Signaling message of unicast negotiation (R283): every request and cancel in order, and one answer.  A non-owner of a
joined pair hands it to the owner (R434). (Log entry 61, DEDUCED) -/
def signaling (s : State) (g n : Nat) (f : RxFrame) : State :=
  let s0 := s.itemDone g n
  let b := f.p.payload
  match s.instOf f with
  | none => s0
  | some i =>
    let c := s.inst i
    if s.joined && !s.flag Obj.twinOwn && f.forwarded.isNone then
      let fw : Forward := ⟨f, s.bound, s.portTerm f.mac, true⟩
      ({ s0 with twin := { s0.twin with sends := s0.twin.sends ++ [TwinSend.forward fw] } }).inc Obj.twinForwarded
    else if !s.belowCeiling 0 s.bound then s0.inc (Obj.ceilingDrops 0)
    else
      let authed := !bitOf c.flags 3 || s.authOk c.spp b
      let portId := octets b 20 10
      let step (acc : State × Octets) (t : Nat × Nat × Octets) : State × Octets :=
        if t.2.1 = 4 then
          let (s, o) := acc.1.grantOne i g f portId authed t.2.2
          (s, acc.2 ++ o)
        else if t.2.1 = 6 then
          (if authed then
            let (s, o) := acc.1.cancelOne i f portId t.2.2
            (s, acc.2 ++ o)
          else acc)
        else acc
      let (s0, tlvs) := (tlvsOf b).foldl step (s, [])
      let s1 := s0.itemDone g n
      let s2 := if authed then s1 else s1.inc (Obj.ptpAuthFail i)
      if tlvs = [] then s2
      else
        let line := s2.lineOf i (senderOf f) portId
        let seq := match line with
          | some l => match s2.session l with | some v => v.seqSignal | none => 0
          | none => Config.freeNat s2.sys.free % 65536
        let s3 := match line with
          | some l => match s2.session l with
            | some v => s2.commitSession g l (some { v with seqSignal := (v.seqSignal + 1) % 65536 })
            | none => s2
          | none => s2.drew
        let body := ptpHeader 0 12 44 c.domain (ptpFlags false true) 0 (s.instPort f.mac) seq 0x7F ++ portId
        match s.finish (authOf c) body tlvs with
        | none => s3
        | some m => s3.release g n 0 f.mac (s.replyTo (.service g n) f m [s.tick])


/-- A received message that its instance does not use: dropped and counted (R276). -/
def unsupported (s : State) (g n : Nat) (f : RxFrame) : State :=
  match s.instOf f with
  | some i => (s.itemDone g n).inc (Obj.ptpUnsupported i)
  | none => s.itemDone g n

/-- PROFILE 0 in force for instance `i`: each of its grants is cancelled once, by a message of the configuration `c` that it had
(R285, R286). -/
def instanceOff (s : State) (c : PtpCfg) (i : Nat) : State :=
  (s.serv.sessions.map (·.1)).foldl (fun s l => match s.session l with
    | some v =>
      if v.inst = i then
        let types := (if v.announce.isSome then [11] else []) ++ (if v.sync.isSome then [0] else []) ++ (if v.delay.isSome then [9] else [])
        let tlvs := (types.map fun t => toBE 2 6 ++ toBE 2 2 ++ toBE 1 (t * 16) ++ zeros 1).flatten
        let body := ptpHeader 0 12 44 c.domain (ptpFlags false true) 0 (s.instPort v.mac) v.seqSignal 0x7F ++ v.portId
        let tr := if v.ip = 4 then 1 else if v.ip = 6 then 2 else 0
        let dstIp := if v.ip = 4 then octets v.addr 12 4 else if v.ip = 6 then v.addr else []
        let s1 := if s.o (Obj.groveState v.grove) = 3 ∧ s.inService = true then
            (if s.belowCeiling 0 s.bound then
              (match s.finish (authOf c) body tlvs with
               | some m =>
                 let srcIp := if v.ip = 0 then [] else s.svcIp v.mac v.ip
                 s.enqueue v.mac (ptpFrame (.service v.grove 0) tr v.dst (s.macAddr v.mac) v.tags srcIp dstIp m [s.tick])
               | none => s)
             else s.inc (Obj.ceilingDrops 0))
          else s
        (s1.commitSession v.grove l none).setN (Obj.ptpUnicastSessions i) 0
      else s
    | none => s) s

/-- What a boundary does to the services: cancelled grants end, the egress times of requests reach their senders, and egress
times that no Follow_Up took are forgotten (R280, R283, R290). -/
def servBoundary (s : State) : State :=
  let s1 := (s.serv.sessions.map (·.1)).foldl (fun s l => match s.session l with
    | some v =>
      let e (g : Option Grant) : Bool := match g with | some x => x.ending | none => false
      if e v.announce || e v.sync || e v.delay then s.pruneLine l true else s
    | none => s) s
  let s2 := s1.serv.departed.foldl (fun s d =>
    if d.kind = 2 then
      let c := Sparse.get (fun _ => ({} : Client)) s.serv.clients d.key
      { s with serv := { s.serv with clients := Sparse.put (fun _ => {}) s.serv.clients d.key { c with t3 := some d.egress } } }
    else if d.kind = 3 then
      let p := Sparse.get (fun _ => ({} : PeerDelay)) s.serv.pdelay d.key
      { s with serv := { s.serv with pdelay := Sparse.put (fun _ => {}) s.serv.pdelay d.key { p with t1 := some d.egress } } }
    else s) s1
  let keep := s2.serv.departed.filter fun d => decide (d.kind < 2) && decide (s.tick ≤ d.tick + 2)
  { s2 with serv := { s2.serv with departed := keep, owed := s2.serv.owed.filter fun o => decide (s2.tick ≤ o.tick + 2) } }

/-- The due instants of the pair streams that pass in this tick without a commit of this unit, noted as withheld (R282, R430). -/
def missedDues (s : State) : State :=
  if s.joined && s.svcOn 0 then
    let keys := (List.range 256) ++ s.serv.sessions.map fun e => 0x10000000 + e.1
    (keys.filterMap streamOfKey).foldl (fun s x =>
      let note (s : State) (announce : Bool) (type grid due : Nat) : State := match s.streamOf x announce with
        | some (_, _, _, _, per, phase) =>
          if (grid + per - phase % per) % per == 0 && !s.doneDue x type grid then (s.markDue x type grid).withheld x type due else s
        | none => s
      note (note s false 0 (gridNo s.sys.nextTime) (s.tick + 1)) true 11 (gridNo s.timeNow) s.tick) s
  else s

end State

/-! ### Commands -/

/-- PTP_DELAY_REQ: item `n` of grove `g` is a Delay_Req; its answer is queued at the device time `now` (R281). -/
def execPtpDelayReq (g : Fin 16) (n : Fin 8192) (now : Int) (s : State) : Host.Outcome State Fault Refusal :=
  match s.item g n with
  | some f => if s.serves g && f.cls == .ptpEvent && octetAt f.p.payload 0 % 16 == 1 && f.session.isNone then .next (s.delayReq g n f now) else .next s
  | none => .next s

/-- PTP_PDELAY_REQ: item `n` of grove `g` is a Pdelay_Req (R281). -/
def execPtpPdelayReq (g : Fin 16) (n : Fin 8192) (now : Int) (s : State) : Host.Outcome State Fault Refusal :=
  match s.item g n with
  | some f => if s.serves g && f.cls == .ptpEvent && octetAt f.p.payload 0 % 16 == 2 && f.session.isNone then .next (s.pdelayReq g n f now) else .next s
  | none => .next s

/-- PTP_GRANT_REQUEST: item `n` of grove `g` is a Signaling message with a request for a grant (R283, R284). -/
def execPtpGrantRequest (g : Fin 16) (n : Fin 8192) (s : State) : Host.Outcome State Fault Refusal :=
  match s.item g n with
  | some f =>
    if s.serves g && f.cls == .ptpGeneral && octetAt f.p.payload 0 % 16 == 12 && f.session.isNone && (tlvsOf f.p.payload).any (fun t => t.2.1 == 4) then
      .next (s.signaling g n f)
    else .next s
  | none => .next s

/-- PTP_GRANT_CANCEL: item `n` of grove `g` is a Signaling message that cancels a grant, or a message of a type that no instance
uses, which is dropped and counted (R276, R283). -/
def execPtpGrantCancel (g : Fin 16) (n : Fin 8192) (s : State) : Host.Outcome State Fault Refusal :=
  match s.item g n with
  | some f =>
    let t := octetAt f.p.payload 0 % 16
    if s.serves g && (f.cls == .ptpGeneral || (f.cls == .ptpEvent && (t == 0 || decide (4 ≤ t)))) && f.session.isNone then
      if t = 12 ∧ (tlvsOf f.p.payload).any (fun t => t.2.1 == 6 || t.2.1 == 4) = true then .next (s.signaling g n f)
      else if t = 10 then .next s
      else .next (s.unsupported g n f)
    else .next s
  | none => .next s

/-- PTP_GRANT_EXPIRE: the grants of a session that have run their duration end (R285). -/
def execPtpGrantExpire (line : Fin 262144) (s : State) : Host.Outcome State Fault Refusal :=
  if s.running then .next (s.pruneLine line false) else .next s

/-- PTP_SYNC_DUE: the Sync of a stream for the next tick is committed at the device time `now`; `dup` when the firmware marks
it DUP (R267, R280). -/
def execPtpSyncDue (x : PtpStream) (dup : Bool) (now : Int) (s : State) : Host.Outcome State Fault Refusal :=
  .next (s.syncDue x dup now)

/-- PTP_FOLLOW_UP_DUE: the Follow_Up of a two-step Sync that has left, or an owed Pdelay_Resp_Follow_Up (R280, R281). -/
def execPtpFollowUpDue (x : PtpStream) (s : State) : Host.Outcome State Fault Refusal := .next (s.followUpDue x)

/-- PTP_ANNOUNCE_DUE: the Announce of a stream (R279). -/
def execPtpAnnounceDue (x : PtpStream) (s : State) : Host.Outcome State Fault Refusal := .next (s.announceDue x)

/-- PTP_PDELAY_REQ_DUE: the Pdelay_Req of an instance on a MAC (R281). -/
def execPtpPdelayReqDue (inst : Fin 16) (m : Fin 16) (s : State) : Host.Outcome State Fault Refusal := .next (s.pdelayReqDue inst m)

/-- ESMC_PDU_RECEIVE: item `n` of grove `g` is an ESMC PDU; its SSM code is written (R264, R266). -/
def execEsmcPduReceive (g : Fin 16) (n : Fin 8192) (s : State) : Host.Outcome State Fault Refusal :=
  match s.item g n with
  | some f =>
    let b := f.p.payload
    if s.serves g && f.cls == .esmc then
      let s1 := s.itemDone g n
      if octets b 1 3 = [0x00, 0x19, 0xA7] ∧ fieldN b 4 2 = 1 ∧ octetAt b 10 = 1 ∧ fieldN b 11 2 = 4 then
        .next ((s1.setN (Obj.esmcRxSsm f.mac) (octetAt b 13 % 16)).setMac f.mac { s1.mac f.mac with esmcRx := s.age })
      else .next s1
    else .next s
  | none => .next s

end Sys2Proof.Machine
end

