-- ==== Sys2Proof/Machine/Slots.lean ====
section
/-!
DEFINITION. The slots of the key vault and what is shown of them (R306, R307, R309, R314).
-/

namespace Sys2Proof.Machine

/-- A slot that can be attested (R306). -/
def attestable (k : Nat) : Bool := decide (k ≤ 6)

/-- A slot that is written in the clear (R306, R308). -/
def writable (k : Nat) : Bool := decide ((0x10 ≤ k ∧ k ≤ 0x2F) ∨ (0x50 ≤ k ∧ k ≤ 0x5F))

namespace State

/-- A slot. -/
def slot (s : State) (k : Nat) : Slot := Sparse.get (fun _ => {}) s.vault.slots k

/-- TWIN_LINK, the pair key in slot 0x03 (R307, R415). -/
def linkKey (s : State) : Octets := (s.slot 3).content

/-- SLOT_INFO and SLOT_PUBLIC of a slot (R307). -/
def slotOctets (k : Nat) (v : Slot) : Octets :=
  toBE 1 v.type ++ toBE 1 v.origin ++ toBE 1 v.state ++
    toBE 1 ((if attestable k then 128 else 0) + (if writable k then 64 else 0) + (if v.loaded then 32 else 0)) ++
    toBE 4 v.gen ++ toBE 4 v.keyId ++ zeros 4

/-- The state with a slot written and shown. -/
def setSlot (s : State) (k : Nat) (v : Slot) : State :=
  let s1 : State := { s with vault := { s.vault with slots := Sparse.put (fun _ => {}) s.vault.slots k v } }
  (s1.setBlob (Obj.slotInfo k) (slotOctets k v)).setBlob (Obj.slotPublic k) (if v.pub.isEmpty then [] else padTo 97 v.pub)

/-- A slot that the AES lanes hold: a cookie master with content, or one that a security association names (R307). -/
def inLanes (s : State) (k : Nat) (v : Slot) : Bool :=
  (List.range 16).any (fun j =>
    let c := s.blob (Obj.ptpSa j)
    octetAt c 0 == 1 && (octetAt c 2 == k || octetAt c 3 == k)) || (decide (4 ≤ k ∧ k ≤ 6) && !v.content.isEmpty)

/-- A slot written, with FLAGS bit 5 as the lanes hold it. -/
def putSlot (s : State) (k : Nat) (v : Slot) : State := s.setSlot k { v with loaded := s.inLanes k v }

/-- A slot's content changes: GEN becomes 1 at the first content since power-up and rises at every later change (R307). -/
def fillSlot (s : State) (k type origin : Nat) (content pub : Octets) (keyId : Nat) : State :=
  let v := s.slot k
  let empty := content.isEmpty
  s.putSlot k { type := if empty then 0 else type, origin := if empty then 0 else origin, state := if empty then 0 else 1
                gen := if empty && v.gen == 0 then 0 else v.gen + 1
                keyId := if empty then 0 else keyId, content := content, pub := pub }

/-- The AES lanes load the keys of a security association from the slots that it names (R287, R309, R368). -/
def loadSa (s : State) (k : Nat) : State :=
  let b := s.blob (Obj.ptpSa k)
  let keyOf (n : Nat) : Octets := if n = 0xFF then [] else (s.slot n).content
  let keys := if octetAt b 0 = 1 then (keyOf (octetAt b 2), keyOf (octetAt b 3)) else ([], [])
  let s1 : State := { s with serv := { s.serv with saKeys := Sparse.put (fun _ => ([], [])) s.serv.saKeys k keys } }
  (List.range 96).foldl (fun s n => if (s.slot n).loaded = s.inLanes n (s.slot n) then s else s.putSlot n (s.slot n)) s1

/-- The lanes that held a slot's key load it again (R309). -/
def reloadLanes (s : State) (n : Nat) : State :=
  (List.range 16).foldl (fun s k =>
    let b := s.blob (Obj.ptpSa k)
    if octetAt b 0 = 1 ∧ (octetAt b 2 = n ∨ octetAt b 3 = n) then s.loadSa k else s) s

/-- GEN of a slot whose content goes (R307). -/
def genGone (v : Slot) : Nat := if v.content.isEmpty then v.gen else v.gen + 1

/-- A share check fails: the slot is FAILED and cleared, the failure is counted, and a recovery pass falls due (R314).
(Log entry 29, DEDUCED) -/
def slotFail (s : State) (k : Nat) : State :=
  let v := s.slot k
  let s1 := (s.putSlot k { v with state := 3, gen := genGone v, content := [], pub := [] }).inc Obj.slotFailures
  { s1 with vault := { s1.vault with recovery := true } }

/-- The KEYREF objects of the cookie masters (R330). -/
def showMaster (s : State) (j : Nat) : State :=
  let v := s.slot (4 + j)
  s.setN (Obj.ntsMasterSlot j) ((4 + j) * 2 ^ 56 + v.type * 2 ^ 48 + v.gen)

/-- The three COOKIE_MASTER slots follow the newest key set (R296, R306). -/
def showKeys (s : State) : State := match s.serv.keySets with
  | (_, l) :: _ =>
    let s1 := match l with | k :: _ => s.setN Obj.ntsKeyIdCurrent k.1 | [] => s
    (List.range 3).foldl (fun s j => match l[j]? with
      | some k => if (s.slot (4 + j)).content = k.2 then s else (s.fillSlot (4 + j) 3 2 k.2 [] k.1).showMaster j
      | none => s) s1
  | [] => s

end State

end Sys2Proof.Machine
end

