-- ==== Sys2Proof/Machine/Ntp.lean ====
section
/-!
DEFINITION. NTP and NTS: requests and answers, cookies, the cookie master keys and their rotation (R239, R240,
R292–R302).
-/

namespace Sys2Proof.Machine

/-- An extension field: offset, type, body. -/
structure ExtField where
  off : Nat
  type : Nat
  body : Octets
  deriving DecidableEq, Repr

/-- The extension fields of an octet string from an offset, `n` at most; none when a length does not fit. -/
def extFields : Nat → Octets → Nat → Option (List ExtField)
  | 0, _, _ => some []
  | n + 1, b, off =>
    if b.length ≤ off then some []
    else
      let len := fieldN b (off + 2) 2
      if len < 4 ∨ len % 4 ≠ 0 ∨ b.length < off + len then none
      else (extFields n b (off + len)).map fun t => ⟨off, fieldN b off 2, octets b (off + 4) (len - 4)⟩ :: t

/-- An extension field encoded. -/
def extOctets (type : Nat) (body : Octets) : Octets := toBE 2 type ++ toBE 2 (4 + body.length) ++ body

/-- A request passes R292. -/
def ntpValid (b : Octets) : Bool :=
  decide (48 ≤ b.length) && b.length != 68 && b.length != 72 && (octetAt b 0 / 8 % 8 == 3 || octetAt b 0 / 8 % 8 == 4) &&
    octetAt b 0 % 8 == 3

/-- The smallest p ≥ −32 with 2^p s ≥ E ps (R293). -/
def ntpPrecision (e : Nat) : Int :=
  match (List.range 64).find? fun k => decide (e * 2 ^ 32 ≤ 2 ^ k * 1000000000000) with
  | some k => (k : Int) - 32
  | none => 32

/-- What an NTS request that passes step 2 of R294 carries. -/
structure NtsParts where
  uid : Octets
  cookie : Octets
  placeholders : Nat
  /-- Offset, nonce and ciphertext of the authenticator; none where these do not fit in it. -/
  authOff : Nat
  sealed : Option (Octets × Octets)
  types : List Nat
  deriving DecidableEq, Repr

/-- Steps 1 and 2 of R294. -/
def ntsParts (b : Octets) : Option NtsParts :=
  if !ntpValid b then none
  else match extFields b.length b 48 with
    | none => none
    | some l =>
      let uids := l.filter fun x => x.type == 0x0104
      let cookies := l.filter fun x => x.type == 0x0204
      let holders := l.filter fun x => x.type == 0x0304
      match uids, cookies, l.getLast? with
      | [u], [c], some a =>
        if 32 ≤ u.body.length ∧ a.type = 0x0404 ∧ holders.all (fun h => h.body.length == 104) = true then
          let nl := fieldN a.body 0 2
          let cl := fieldN a.body 2 2
          let fits := if 4 + 4 * ceilDiv nl 4 + cl ≤ a.body.length then
              some (octets a.body 4 nl, octets a.body (4 + 4 * ceilDiv nl 4) cl) else none
          some ⟨u.body, c.body, holders.length, a.off, fits, l.map (·.type)⟩
        else none
      | _, _, _ => none

/-- The cookies of an answer, `n` at most, that keep `base` octets and 108 for each within a limit (R299).
(Log entry 109, DESIGN CHOICE) -/
def ntsCookies (limit base n : Nat) : Nat := min n ((limit - base) / 108)

namespace State

/-- The Reference ID (R293), by the time master's selection on a non-owner (R434). -/
def ntpRefId (s : State) : Octets :=
  let (ref, mode) := if s.joined && !s.twin.master then
      (match s.twin.peer with | some a => (a.selRef, a.mode) | none => (s.n Obj.selTCurrent, s.mode.toNat))
    else (s.n Obj.selTCurrent, s.mode.toNat)
  if mode = 5 then [0x48, 0x4F, 0x4C, 0x44]
  else if ref = 1 then [0x47, 0x4E, 0x53, 0x53]
  else if ref / 16 = 1 then [0x50, 0x50, 0x53, 0]
  else if ref = 0x3F then [0x54, 0x57, 0x49, 0x4E]
  else [0x50, 0x54, 0x50, 0]

/-- The device time of the last servo observation, or of the entry to HOLDOVER (R293). -/
def refTime (s : State) : Int :=
  if s.mode = mHoldover then
    (match s.canopy.hold with | some h => s.timeNow - ((s.age - h.entry : Nat) : Int) * tickUnits | none => s.timeNow)
  else (s.ref (s.n Obj.selTCurrent)).lastT

/-- The NTP value of a device time: of smeared UTC, or of UTC, where a fraction that rounds up to 2^32 takes the UTC second that follows,
the repeated 23:59:59 before an inserted leap (R73, R85). -/
def ntpOf (s : State) (t : Int) (smear : Bool) : Nat :=
  if smear then ntp64 (s.smearedUtc t)
  else if roundUpHalf ((t % secondUnits) * 4294967296) secondUnits = 4294967296 then ntp64 (s.utcOf ((timeSeconds t + 1) * secondUnits))
  else ntp64 (s.utcOf t)

/-- The transmit timestamp of a request has its place in one era, near the time in force (R75).
(Log entry 98, DEDUCED) -/
def ntpPlaced (s : State) (b : Octets) : Bool := (ntpToUtc (fieldN b 40 8) (s.utcOf s.timeNow)).isSome

/-- The 48 octets of an answer (R79, R239, R293): received `rx`, transmitted at `d`, with bound `e`.
(Log entry 57, PRESUMED) -/
def ntpHeader (s : State) (b : Octets) (rx d : Int) (e : Nat) (smear : Bool) : Octets :=
  let conv (t : Int) : Octets := toBE 8 (s.ntpOf t smear)
  let li := if smear then 0 else s.leapWarning d
  toBE 1 (li * 64 + octetAt b 0 / 8 % 8 * 8 + 4) ++ [1] ++ octets b 2 1 ++ toBEInt 1 (ntpPrecision e) ++ toBE 4 0 ++
    toBE 4 (rootDispersion e) ++ s.ntpRefId ++ conv s.refTime ++ octets b 40 8 ++ conv rx ++ conv d

/-- The UDP answer to a received frame with a payload. -/
def ntpReply (s : State) (g n : Nat) (f : RxFrame) (svc : Nat) (payload : Octets) (ticks : List Nat) : TxFrame :=
  let tr := if f.p.ip = 4 then 1 else 2
  { queue := 6, kind := .service g n, svc := svc, len := max 64 (headLen tr f.p.tags.length + payload.length + 4)
    dst := f.p.src, src := s.macAddr f.mac, tags := f.p.tags, ip := f.p.ip, srcIp := f.p.dstIp, dstIp := f.p.srcIp
    srcPort := (f.p.dstPort).getD 0, dstPort := (f.p.srcPort).getD 0, etherType := if f.p.ip = 4 then 0x0800 else 0x86DD
    body := payload, ticks := ticks, response := true }

/-- E of an answer: the core over the ticks of its values, FORMAT, PORT and SMEAR; for a request that the twin peer forwarded
the larger of the two units' bounds and ports (R232, R435). -/
def ntpBound (s : State) (f : RxFrame) (d : Int) (smear : Bool) : Nat × TsState :=
  let own := match f.forwarded with
    | some _ => s.coreOf [s.tickAt d]
    | none => s.coreOf [f.tick, s.tickAt d]
  let (core, port) := match f.forwarded with
    | some (b, p) => (if own.bound < b then { own with bound := b } else own, max p (s.portTerm f.mac))
    | none => (own, s.portTerm f.mac)
  let extra := if smear then 1 else 0
  (boundSum [core.bound, 117, port, extra], core)

/-- A request that passes stage 5 is forwarded to the peer while its class is mirrored (R435). -/
def mirror (s : State) (bit : Nat) (f : RxFrame) : State :=
  if s.joined && bitOf (s.n Obj.twinMirror) bit && f.forwarded.isNone then
    let fw : Forward := ⟨f, (s.coreOf [f.tick]).bound, s.portTerm f.mac, false⟩
    ({ s with twin := { s.twin with sends := s.twin.sends ++ [TwinSend.forward fw] } }).inc Obj.twinForwarded
  else s

/-- An item of class NTP checked and answered EXACT, 600 ns after its queueing (R292, R293). -/
def ntpRequest (s : State) (g n : Nat) (f : RxFrame) (now : Int) : State :=
  let s0 := s.itemDone g n
  let b := f.p.payload
  if !ntpValid b then s0.inc Obj.ntpMalformed
  else if !s.flag Obj.timescaleSet then s0
  else if !s0.ntpPlaced b then s0.inc Obj.timeInputMalformed
  else
    let s1 := s0.mirror 0 f
    let smear := bitOf (s.n Obj.smearEnable) 0
    let len := max 64 (headLen (if f.p.ip = 4 then 1 else 2) f.p.tags.length + 52)
    let (s2, od) := s1.exactReserve f.mac len (now + 600 * nsUnits) now
    match od with
    | none => s2
    | some d =>
      let (e, _) := s.ntpBound f d smear
      if !s.belowCeiling 1 e then s1.inc (Obj.ceilingDrops 1)
      else
        let r := s.ntpReply g n f 1 (s.ntpHeader b f.ingress d e smear) [f.tick, s.tickAt d]
        (s2.release g n 0 f.mac { r with exact := some d }).inc Obj.ntpResponses

/-! ### Cookies and keys (R295–R297) -/

/-- The key set in force in a tick: IDs with keys, the current one first (R297). -/
def keySetAt (s : State) (tick : Nat) : List (Nat × Octets) :=
  match s.serv.keySets.find? fun x => decide (x.1 ≤ tick) with
  | some x => x.2
  | none => match s.serv.keySets.getLast? with | some x => x.2 | none => []

/-- A cookie sealed under a key (R295); its nonce is random. -/
def sealCookie (s : State) (k : Nat × Octets) (c2s s2c : Octets) : State × Octets :=
  let nonce := padTo 16 (Config.freeOctets s.sys.free 16)
  let ad := toBE 4 k.1
  (s.drew, ad ++ nonce ++ padTo 84 (Config.sivSeal k.2 ad nonce (toBE 2 15 ++ zeros 2 ++ c2s ++ s2c)))

/-- `n` cookies. -/
def sealCookies (k : Nat × Octets) (c2s s2c : Octets) : Nat → State → State × List Octets
  | 0, s => (s, [])
  | n + 1, s =>
    let (s1, c) := s.sealCookie k c2s s2c
    let (s2, l) := sealCookies k c2s s2c n s1
    (s2, c :: l)

/-- An NTS NAK (R298): 1 key ID, 2 cookie, 3 authenticator; only while NTS is under its ceiling. -/
def ntsNak (s : State) (g n : Nat) (f : RxFrame) (uid : Octets) (why : Nat) : State :=
  if !s.flag (Obj.ceilingOk 2) then s.inc (Obj.ceilingDrops 2)
  else
    let b := f.p.payload
    let head := toBE 1 (0xC0 + octetAt b 0 / 8 % 8 * 8 + 4) ++ [0] ++ octets b 2 1 ++ zeros 1 ++ zeros 8 ++ [0x4E, 0x54, 0x53, 0x4E] ++ zeros 8 ++
      octets b 40 8 ++ zeros 16
    (s.release g n 0 f.mac (s.ntpReply g n f 2 (head ++ extOctets 0x0104 uid) [s.tick])).inc (Obj.ntsNaks (why - 1))

/-- An item of class NTS checked in the order of R294 and answered with fresh cookies, or with a NAK (R294–R299). -/
def ntsRequest (s : State) (g n : Nat) (f : RxFrame) (now : Int) : State :=
  let s0 := s.itemDone g n
  let b := f.p.payload
  match ntsParts b with
  | none => s0.inc Obj.ntsMalformed
  | some x =>
    let keys := s.keySetAt f.tick
    let id := fieldN x.cookie 0 4
    match (if x.cookie.length = 104 then keys.find? (fun k => k.1 == id) else none), keys with
    | some master, cur :: _ =>
      match Config.sivOpen master.2 (octets x.cookie 0 4) (octets x.cookie 4 16) (octets x.cookie 20 84) with
      | none => s0.ntsNak g n f x.uid 2
      | some pt =>
        if fieldN pt 0 2 ≠ 15 then s0.ntsNak g n f x.uid 2
        else
          let c2s := octets pt 4 32
          let s2c := octets pt 36 32
          match x.sealed.bind fun y => Config.sivOpen c2s (b.take x.authOff) y.1 y.2 with
          | none => s0.ntsNak g n f x.uid 3
          | some inner =>
            let s1 := s0.mirror 1 f
            let innerTypes := match extFields inner.length inner 0 with | some l => l.map (·.type) | none => []
            let efType := s.n Obj.boundEfType
            let mode := s.n Obj.boundEfMode
            let wantEf := mode == 2 || (mode == 1 && (x.types ++ innerTypes).any fun t => t == efType)
            -- no longer than the request but for the bound field, where it calls for more than the client's own field took
            let field := (((extFields b.length b 48).getD []) ++ ((extFields inner.length inner 0).getD [])).find? fun y => y.type == efType
            let slack := if mode = 2 ∨ (match field with | some y => decide (y.body.length + 4 < 24) | none => false) = true then 24 else 0
            let count := ntsCookies (b.length + slack) (48 + 4 + x.uid.length + 40 + (if wantEf then 24 else 0)) (min 8 (1 + x.placeholders))
            let smear := bitOf (s.n Obj.smearEnable) 1
            -- header, Unique Identifier, and the authenticator with a 16-octet nonce around SIV and plaintext
            let plainLen := 108 * count + (if wantEf then 24 else 0)
            let total := 48 + 4 + x.uid.length + 4 + 4 + 16 + 16 + plainLen
            let len := max 64 (headLen (if f.p.ip = 4 then 1 else 2) f.p.tags.length + total + 4)
            let (s2, od) := s1.exactReserve f.mac len (now + 600 * nsUnits) now
            match od with
            | none => s2
            | some d =>
              let (e, core) := s.ntpBound f d smear
              if !s.belowCeiling 2 e then s1.inc (Obj.ceilingDrops 2)
              else
                let (s3, cookies) := sealCookies cur c2s s2c count s2
                let plain := (cookies.map fun c => extOctets 0x0204 c).flatten ++
                  (if wantEf then s.boundEf e core d (smear && (s.smearEntry d).isSome) else [])
                let head := s.ntpHeader b f.ingress d e smear ++ extOctets 0x0104 x.uid
                let nonce := padTo 16 (Config.freeOctets s3.sys.free 16)
                let auth := extOctets 0x0404 (toBE 2 16 ++ toBE 2 (16 + plainLen) ++ nonce ++ padTo (16 + plainLen) (Config.sivSeal s2c head nonce plain))
                let r := s.ntpReply g n f 2 (head ++ auth) [f.tick, s.tickAt d]
                (s3.drew.release g n 0 f.mac { r with exact := some d }).inc Obj.ntsResponses
    | _, _ => s0.ntsNak g n f x.uid 1

/-- The key sets kept: that of the current tick and those of the two before it (R297). -/
def pruneKeys (s : State) : State :=
  let recent := s.serv.keySets.filter fun x => decide (s.tick < x.1 + 2)
  let older := (s.serv.keySets.filter fun x => decide (x.1 + 2 ≤ s.tick)).take 1
  { s with serv := { s.serv with keySets := recent ++ older } }

/-- The first key, made at entry to WARMUP when none was restored: a random ID and a random key (R296). -/
def firstCookieKey (s : State) : State :=
  if s.serv.keySets.isEmpty then
    let id := Config.freeNat s.sys.free % 2 ^ 32
    let key := padTo 32 (Config.freeOctets (s.sys.free + 1) 32)
    let s1 := s.drew.drew
    ({ s1 with serv := { s1.serv with keySets := [(s1.tick, [(id, key)])], lastRotate := s1.second } }).showKeys
  else s

/-- A rotation: ID n + 1 becomes current and ID n − 2 is retired; the set is journalled (R296, R297, R300). -/
def rotateKeys (s : State) (key : Octets) : State :=
  let old := match s.serv.keySets with | x :: _ => x.2 | [] => []
  let id := match old with | k :: _ => (k.1 + 1) % 2 ^ 32 | [] => 0
  let s1 : State := { s with
    serv := { s.serv with keySets := (s.tick, ((id, key) :: old).take 3) :: s.serv.keySets, lastRotate := s.second, rotateNow := false }
    power := { s.power with journalDue := true } }
  ((s1.inc Obj.ntsRotations).showKeys).hostEvent .keyRotation

/-- The rotation that falls due at the current boundary (R296, R435): a joined unit takes the key that the owner sent. -/
def keyRotation (s : State) : State :=
  let due := s.index == 0 && s.flag Obj.timescaleSet && !s.serv.keySets.isEmpty &&
    (s.serv.rotateNow || decide (s.serv.lastRotate + s.o Obj.ntsRotateS ≤ s.second))
  if s.joined then
    match s.twin.keys.find? (fun k => match k with | .cookie _ _ at_ => decide (at_ ≤ s.tick) | _ => false) with
    | some (.cookie _ key at_) =>
      if s.index = 0 then
        let left := s.twin.keys.filter fun k => match k with | .cookie _ _ a => a != at_ | _ => true
        ({ s with twin := { s.twin with keys := left } }).rotateKeys key
      else s
    | _ => s
  else if due && !s.vault.entropyFailed then s.drew.rotateKeys (padTo 32 (Config.freeOctets s.sys.free 32))
  else s

/-- While joined, the owner makes the next key at least 8,192 ticks ahead and sends it in VAULT; both units hold it for its
boundary (R435). -/
def prepareKey (s : State) : State :=
  let soon := decide (s.serv.lastRotate + s.o Obj.ntsRotateS ≤ s.second + 2) || s.serv.rotateNow
  let have_ := s.twin.keys.any fun k => match k with | .cookie _ _ _ => true | _ => false
  if s.joined && s.flag Obj.twinOwn && s.flag Obj.timescaleSet && soon && !have_ && !s.vault.entropyFailed && s.index == 0 then
    let id := match s.serv.keySets with | (_, k :: _) :: _ => (k.1 + 1) % 2 ^ 32 | _ => 0
    let k : AgreedKey := .cookie id (padTo 32 (Config.freeOctets s.sys.free 32)) (s.tick + 16384)
    let s1 := s.drew
    { s1 with twin := { s1.twin with keys := s1.twin.keys ++ [k] } }
  else s

end State

/-! ### Commands -/

/-- NTP_REQUEST: item `n` of grove `g` is of class NTP; its answer is queued at the device time `now` (R293). -/
def execNtpRequest (g : Fin 16) (n : Fin 8192) (now : Int) (s : State) : Host.Outcome State Fault Refusal :=
  match s.item g n with
  | some f => if s.servesItem g f && f.cls == .ntp then .next (s.ntpRequest g n f now) else .next s
  | none => .next s

/-- NTS_REQUEST: item `n` of grove `g` is of class NTS (R294). -/
def execNtsRequest (g : Fin 16) (n : Fin 8192) (now : Int) (s : State) : Host.Outcome State Fault Refusal :=
  match s.item g n with
  | some f => if s.servesItem g f && f.cls == .nts then .next (s.ntsRequest g n f now) else .next s
  | none => .next s

/-- NTS_KEY_ROTATION: the rotation of an index-0 boundary (R296). -/
def execNtsKeyRotation (s : State) : Host.Outcome State Fault Refusal :=
  if s.running then .next s.keyRotation else .next s

/-- NTS_ROTATE_NOW: a write of 1 to 0x7030:04, which port class H alone may make; it acts at the next second (R296). -/
def execNtsRotateNow (cls : PortClass) (s : State) : Host.Outcome State Fault Refusal :=
  if cls = .hostH ∧ s.running = true then .next (s.addDue true .rotateNow) else .next s

end Sys2Proof.Machine
end

