-- ==== Sys2Proof/Machine/Client.lean ====
section
/-!
DEFINITION. Reference client sessions: their states, requests, received messages and offset observations, and the peer
delay of peer-to-peer instances (R229, R249, R281, R288–R291).
-/

namespace Sys2Proof.Machine

/-- A client session's configuration (R288). -/
structure ClientCfg where
  mac : Nat
  transport : Nat
  domain : Nat
  mode : Nat
  logSync : Int
  logDelay : Int
  spp : Nat
  peer : Octets
  clock : Octets
  grantS : Nat
  deriving DecidableEq, Repr

/-- The octets of 0x7060 read as a configuration. -/
def clientCfg (b : Octets) : ClientCfg :=
  { mac := octetAt b 0 % 16, transport := octetAt b 1, domain := octetAt b 2, mode := octetAt b 3, logSync := fieldI b 4 1
    logDelay := fieldI b 5 1, spp := octetAt b 6, peer := octets b 8 16, clock := octets b 24 8, grantS := fieldN b 32 4 }

namespace State

/-- Configuration of client session `c`. -/
def ccfg (s : State) (c : Nat) : ClientCfg := clientCfg (s.blob (Obj.ptpClientCfg c))

/-- A client session. -/
def client (s : State) (c : Nat) : Client := Sparse.get (fun _ => {}) s.serv.clients c

/-- The state with a client session written. -/
def setClient (s : State) (c : Nat) (v : Client) : State :=
  { s with serv := { s.serv with clients := Sparse.put (fun _ => {}) s.serv.clients c v } }

/-- PTP_CLIENT_STATE. -/
def cst (s : State) (c : Nat) : Nat := s.n (Obj.ptpClientState c)

/-- A client session enters a state (R289). -/
def clientEnter (s : State) (c code : Nat) : State :=
  let v := s.client c
  let keep : Client := if code = 2 then { v with since := s.age, lastAnnounce := s.age, t1 := none, t3 := none }
    else { since := s.age, seqDelay := v.seqDelay, seqSignal := v.seqSignal, reqSeq := v.reqSeq }
  (s.setN (Obj.ptpClientState c) code).setClient c keep

/-- The portIdentity of a client session: always PTP_CLOCK_IDENTITY, portNumber MAC + 1 (R278). -/
def clientPort (s : State) (c : Nat) : Octets := toBE 8 (s.n Obj.ptpClockIdentity) ++ toBE 2 ((s.ccfg c).mac + 1)

/-- A client session should run: configured, with a priority, in a mode that uses references (R289). -/
def clientWanted (s : State) (c : Nat) : Bool :=
  (s.ccfg c).mode != 0 && s.o (Obj.refPriority (0x20 + c)) != 0 && decide (3 ≤ s.mode ∧ s.mode ≤ 5)

/-- The client sessions at a boundary: OFF to SEEKING, and any state to OFF (R289). -/
def clientsBoundary (s : State) : State :=
  (List.range 24).foldl (fun s c =>
    if s.clientWanted c then (if s.cst c = 0 then s.clientEnter c 1 else s)
    else if s.cst c ≠ 0 then s.clientEnter c 0 else s) s

/-- A message of a client session queued on its MAC; event messages without EXACT (R258, R291). -/
def clientSend (s : State) (c : Nat) (body : Octets) (notify : Bool) : State :=
  let k := s.ccfg c
  let d := groupDst (ptpCfg (toBE 1 1 ++ toBE 1 k.domain ++ toBE 1 k.transport)) false
  let uni := k.mode == 1
  let dst := if uni then (if k.transport = 0 then octets k.peer 0 6 else []) else d.1
  let dstIp := if k.transport = 0 then [] else if uni then (if k.transport = 1 then octets k.peer 12 4 else k.peer) else d.2
  let srcIp := if k.transport = 0 then [] else s.svcIp k.mac (if k.transport = 1 then 4 else 6)
  let f := ptpFrame (.client c) k.transport dst (s.macAddr k.mac) [] srcIp dstIp body []
  let cls := 8 * (c % 16) + (if notify then 2 else 3)
  let s : State := { s with serv := { s.serv with
    originated := Sparse.put (fun _ => 0) s.serv.originated cls (Sparse.get (fun _ => 0) s.serv.originated cls + 1) } }
  s.enqueue k.mac { f with svc := 3, notify := if notify then some (2, c) else none }

/-- The SPP of a session that authenticates. -/
def clientAuth (k : ClientCfg) : Option Nat := if k.spp = 0xFF then none else some k.spp

/-- REQUEST_UNICAST_TRANSMISSION for a message type (R283, R289). -/
def requestTlv (k : ClientCfg) (t : GrantType) : Octets :=
  let log : Int := match t with
    | .announce => 1
    | .sync => k.logSync
    | .delayResp => k.logDelay
  toBE 2 4 ++ toBE 2 6 ++ toBE 1 (t.code * 16) ++ toBEInt 1 log ++ toBE 4 k.grantS

/-- A Signaling message with TLVs to the peer (R289). -/
def clientSignal (s : State) (c : Nat) (tlvs : Octets) : State :=
  let k := s.ccfg c
  let v := s.client c
  let body := ptpHeader 0 12 44 k.domain (ptpFlags false true) 0 (s.clientPort c) v.seqSignal 0x7F ++ List.replicate 10 0xFF
  match s.finish (clientAuth k) body tlvs with
  | none => s
  | some m => (s.setClient c { v with seqSignal := (v.seqSignal + 1) % 65536 }).clientSend c m false

/-- The three requests of a session that seeks grants (R289). -/
def clientRequest (s : State) (c : Nat) : State :=
  let tlvs := ([GrantType.announce, .sync, .delayResp].map fun t => requestTlv (s.ccfg c) t).flatten
  (s.setClient c { s.client c with sentSignal := s.age + 1 }).clientSignal c tlvs

/-- A grant requested again (R289). -/
def clientRenew (s : State) (c : Nat) (t : GrantType) : State :=
  let v := s.client c
  (s.setClient c { v with sentRenewal := Sparse.put (fun _ => 0) v.sentRenewal t.code (s.age + 1) }).clientSignal c (requestTlv (s.ccfg c) t)

/-- A Delay_Req to the peer (R290, R291). -/
def clientDelayReq (s : State) (c : Nat) : State :=
  let k := s.ccfg c
  let v := s.client c
  let body := ptpHeader 0 1 44 k.domain (ptpFlags false (k.mode == 1)) 0 (s.clientPort c) v.seqDelay 0x7F ++ zeros 10
  match s.finish (clientAuth k) body [] with
  | none => s
  | some m =>
    (s.setClient c { v with seqDelay := (v.seqDelay + 1) % 65536, reqSeq := v.seqDelay, t3 := none, sentDelay := s.age + 1 }).clientSend c m true

/-- A client session's work is possible: its grove is READY or SERVING, its MAC UP (R249, R260). -/
def clientWorks (s : State) (c : Nat) : Bool := s.works (c % 16) && s.macUp (s.ccfg c).mac

/-- An invalid observation of a client session's reference (R167). -/
def clientInvalid (s : State) (c : Nat) : State := s.refArrive { id := 0x20 + c, kind := .invalid, instant := s.timeNow }

/-- A denial or another grandmaster: BACKOFF (R289, R305). -/
def clientBackoff (s : State) (c : Nat) : State := (s.clientEnter c 3).clientInvalid c

/-- The received grants of a Signaling message taken (R289). -/
def clientGrants (s : State) (c : Nat) (b : Octets) : State :=
  let grants := (tlvsOf b).filter fun t => t.2.1 == 5
  if grants.any fun t => fieldN t.2.2 2 4 == 0 then (if s.cst c = 1 ∨ s.cst c = 2 then s.clientBackoff c else s)
  else
    let v := grants.foldl (fun (v : Client) t =>
      let g : Grant := { start := s.age, dur := fieldN t.2.2 2 4, log := fieldI t.2.2 1 1 }
      match octetAt t.2.2 0 / 16 with
      | 11 => { v with announce := some g }
      | 0 => { v with sync := some g }
      | 9 => { v with delay := some g }
      | _ => v) (s.client c)
    let s1 := s.setClient c v
    if s.cst c = 1 ∧ (s.ccfg c).mode = 1 ∧ v.announce.isSome = true ∧ v.sync.isSome = true ∧ v.delay.isSome = true then
      let s2 := s1.setN (Obj.ptpClientState c) 2
      s2.setClient c { v with since := s.age, lastAnnounce := s.age }
    else s1

/-- An Announce from the peer (R288, R289). -/
def clientAnnounce (s : State) (c : Nat) (b : Octets) : State :=
  let k := s.ccfg c
  let gm := octets b 53 8
  if k.clock ≠ zeros 8 ∧ gm ≠ k.clock then (if s.cst c = 1 ∨ s.cst c = 2 then s.clientBackoff c else s)
  else
    let v := s.client c
    let log := fieldI b 33 1
    let s0 := s.setClient c { v with
      lastAnnounce := s.age, logAnnounce := if log = 0x7F then v.logAnnounce else log, peerPort := octets b 20 10, grandmaster := gm }
    let s1 := if v.grandmaster.isEmpty || v.grandmaster == gm then s0 else s0.clientInvalid c
    if s.cst c = 1 ∧ k.mode = 2 then
      let s2 := s1.setN (Obj.ptpClientState c) 2
      s2.setClient c { s1.client c with since := s.age }
    else s1

/-- BOUND of a vendor TLV of this version in a message, if it carries one (R237). -/
def tlvBound (s : State) (b : Octets) : Option Nat :=
  match (tlvsOf b).find? fun t => t.2.1 == 3 && t.2.2.length == 36 && fieldN t.2.2 0 3 == s.n Obj.boundTlvOrgId &&
      fieldN t.2.2 3 3 == 1 && octetAt t.2.2 6 == 1 with
  | some t => some (fieldN t.2.2 8 4)
  | none => none

/-- A completed exchange: the offset and the mean path delay published, and one observation (R229, R290). -/
def clientExchange (s : State) (c : Nat) (t1 t2 t3 t4 : Int) (tlv : Option Nat) : State :=
  let k := s.ccfg c
  let id := 0x20 + c
  let off := ((t2 - t1) - (t4 - t3)) / 2 - psUnits (s.o (Obj.npDelayAsymPs k.mac))
  let mpd := ((t2 - t1) + (t4 - t3)) / 2
  let s1 := ((s.setO (Obj.ptpClientOffset c) (roundUpHalf off 65536)).setO (Obj.ptpClientMpd c) (roundUpHalf mpd 65536)).inc (Obj.ptpClientExchanges c)
  let r := s1.ref id
  let offs := (off :: r.offsets).take 16
  let s2 := s1.setRef id { r with offsets := offs }
  let sys := s.n (Obj.refSysPs id)
  let base := match tlv with | some b => b | none => sys
  let ok := base ≠ unbounded && !(tlv.isNone && sys == 0)
  s2.refArrive { id := id, kind := if ok then .valid else .invalid, e := -off, instant := t2
                 s := boundAdd base (s.portTerm k.mac), u := offsetSpread offs, cal := s.n Obj.boundCalId, mpd := roundUpHalf mpd 65536
                 captures := [t3] }

/-- A message of a client session's peer received (R289, R290). -/
def clientRx (s : State) (c : Nat) (f : RxFrame) : State :=
  let k := s.ccfg c
  let b := f.p.payload
  let v := s.client c
  let type := octetAt b 0 % 16
  let corr := fieldI b 8 8
  let seq := fieldN b 30 2
  let authed := match clientAuth k with | some spp => s.authOk spp b | none => true
  if !authed then s.clientInvalid c
  else if type = 12 then s.clientGrants c b
  else if type = 11 then s.clientAnnounce c b
  else if s.cst c ≠ 2 ∨ (k.mode = 2 ∧ v.peerPort ≠ [] ∧ octets b 20 10 ≠ v.peerPort) then s
  else if type = 0 then
    if bitOf (fieldN b 6 2) 9 then
      s.setClient c { v with syncSeq := seq, t1 := none, t2 := f.ingress, syncCorr := corr, tlv := none }
    else match ptpTime b 34 corr with
      | some t => s.setClient c { v with syncSeq := seq, t1 := some t, t2 := f.ingress, tlv := s.tlvBound b }
      | none => s.inc Obj.timeInputMalformed
  else if type = 8 then
    if seq ≠ v.syncSeq ∨ v.t1.isSome = true then s
    else match ptpTime b 34 (corr + v.syncCorr) with
      | some t => s.setClient c { v with t1 := some t, tlv := s.tlvBound b }
      | none => s.inc Obj.timeInputMalformed
  else if type = 9 then
    if seq ≠ v.reqSeq ∨ octets b 44 10 ≠ s.clientPort c then s
    else match ptpTime b 34 corr, v.t1, v.t3 with
      | none, _, _ => s.inc Obj.timeInputMalformed
      | some t4, some t1, some t3 => (s.setClient c { v with t3 := none }).clientExchange c t1 v.t2 t3 t4 v.tlv
      | _, _, _ => s
  else s

/-- A Pdelay_Resp or Pdelay_Resp_Follow_Up that answers an instance's own Pdelay_Req: the mean link delay (R281).
(Log entry 64, DEDUCED) -/
def pdelayRx (s : State) (f : RxFrame) : State :=
  match s.instOf f with
  | none => s
  | some i =>
    if !(s.inst i).p2p then s.inc (Obj.ptpUnsupported i) else
    let b := f.p.payload
    let key := 16 * i + f.mac
    let p := Sparse.get (fun _ => ({} : PeerDelay)) s.serv.pdelay key
    let put (p : PeerDelay) : State := { s with serv := { s.serv with pdelay := Sparse.put (fun _ => {}) s.serv.pdelay key p } }
    let corr := fieldI b 8 8
    if !s.authCheck i b then s.inc (Obj.ptpAuthFail i)
    else if fieldN b 30 2 ≠ p.seq ∨ octets b 44 10 ≠ s.instPort f.mac then s
    else if octetAt b 0 % 16 = 3 then
      if bitOf (fieldN b 6 2) 9 then
        match ptpTime b 34 0 with
        | some t2 => put { p with t2 := some t2, t4 := some f.ingress, corr := corr }
        | none => s.inc Obj.timeInputMalformed
      else match p.t1 with
        | some t1 => put { p with delay := some ((f.ingress - t1 - corr * 65536) / 2), t1 := none }
        | none => s
    else match ptpTime b 34 corr, p.t1, p.t2, p.t4 with
      | some t3, some t1, some t2, some t4 => put { p with delay := some (((t4 - t1) - (t3 - t2) - p.corr * 65536) / 2), t1 := none, t2 := none, t4 := none }
      | none, _, _, _ => s.inc Obj.timeInputMalformed
      | _, _, _, _ => s

end State

/-! ### Commands -/

/-- PTP_CLIENT_RX: item `n` of grove `g` is a message of a client session's peer, or the answer to an instance's own
Pdelay_Req (R281, R290). -/
def execPtpClientRx (g : Fin 16) (n : Fin 8192) (s : State) : Host.Outcome State Fault Refusal :=
  match s.item g n with
  | some f =>
    match f.session with
    | some c => if s.works g then .next ((s.itemDone g n).clientRx c f) else .next s
    | none =>
      let t := octetAt f.p.payload 0 % 16
      if s.serves g && ((f.cls == .ptpEvent && t == 3) || (f.cls == .ptpGeneral && t == 10)) then .next ((s.itemDone g n).pdelayRx f) else .next s
  | none => .next s

/-- CLIENT_REQUEST_DUE: a session sends its Delay_Req in a tick of its interval while RUNNING, or its Signaling with the three
requests while SEEKING in unicast mode; each once in a tick (R271, R289, R291). -/
def execClientRequestDue (c : Fin 24) (msg : ClientMsg) (s : State) : Host.Outcome State Fault Refusal :=
  if !s.clientWorks c then .next s
  else match msg with
    | .delayReq => if s.delayReqDue c && s.clientRoom c true && (s.client c).sentDelay != s.age + 1 then .next (s.clientDelayReq c) else .next s
    | .signaling =>
      if s.cst c = 1 ∧ (s.ccfg c).mode = 1 ∧ (s.client c).sentSignal ≠ s.age + 1 ∧ s.clientRoom c false = true then .next (s.clientRequest c) else .next s

/-- CLIENT_GRANT_RENEW: half of a grant's duration has passed and it is requested again (R289). -/
def execClientGrantRenew (c : Fin 24) (t : GrantType) (s : State) : Host.Outcome State Fault Refusal :=
  let v := s.client c
  let g := match t with | .announce => v.announce | .sync => v.sync | .delayResp => v.delay
  if s.clientWorks c && s.clientRoom c false && s.cst c == 2 && (s.ccfg c).mode == 1 && s.renewalDue g &&
      Sparse.get (fun _ => 0) v.sentRenewal t.code != s.age + 1 then .next (s.clientRenew c t)
  else .next s

/-- CLIENT_BACKOFF_EXPIRE: 60 s in BACKOFF (R289). -/
def execClientBackoffExpire (c : Fin 24) (s : State) : Host.Outcome State Fault Refusal :=
  if s.cst c = 3 ∧ (s.client c).since + 491520 ≤ s.age then .next (s.clientEnter c 1) else .next s

/-- CLIENT_ANNOUNCE_TIMEOUT: a grant has expired unrenewed, or 3 Announce intervals have passed without one (R289). -/
def execClientAnnounceTimeout (c : Fin 24) (s : State) : Host.Outcome State Fault Refusal :=
  let v := s.client c
  let ended (g : Option Grant) : Bool := match g with | some x => !s.grantLive x | none => false
  let lapsed := (s.ccfg c).mode == 1 && (ended v.announce || ended v.sync || ended v.delay)
  if s.cst c = 2 ∧ (lapsed = true ∨ v.lastAnnounce + 3 * State.period v.logAnnounce ≤ s.age) then .next (s.clientEnter c 1)
  else .next s

end Sys2Proof.Machine
end

