-- ==== Sys2Proof/Machine/Record.lean ====
section
/-!
DEFINITION. Recording and capture (R444–R454), and what a discarded W1 puts back (R54).
-/

namespace Sys2Proof.Machine

/-- The objects of 0x3100–0x31FF, which W1 writes. -/
def w1Page (k : Nat) : Bool := decide (0x31_0000 ≤ k ∧ k < 0x32_0000)

namespace State

/-! ### A discarded W1 (R54) -/

/-- Canopy as it stands at the start of W1, kept until the next. -/
def saveW1 (s : State) : State :=
  let v : W1Save := ⟨s.canopy, s.obj.filter fun p => w1Page p.1, s.blobs.filter fun p => w1Page p.1, s.sys.step, s.sys.coastRun,
    s.twin.shadow, s.twin.shadowObjs, s.twin.frame, s.twin.own⟩
  { s with record := { s.record with w1 := some v, staged := [], lossDue := false, coast := false } }

/-- Canopy put back as it stood at the start of W1, and the references as they stood before the observations of the tick. -/
def restoreW1 (s : State) : State := match s.record.w1 with
  | none => s
  | some v =>
    let merge {α : Type} (old new : Tbl α) : Tbl α :=
      (old.filter fun p => decide (p.1 < 0x31_0000)) ++ new ++ (old.filter fun p => decide (0x32_0000 ≤ p.1))
    let c := s.canopy
    -- a switch, its measurement and an unmeasured step in the tick are no results of W1
    let canopy : CanopyState := { v.canopy with
      planeStep := if c.planeStep.isSome then c.planeStep else v.canopy.planeStep, switched := c.switched, hold := c.hold
      carry := if c.carry.isNone then none else v.canopy.carry, window := if c.carry.isNone then [] else v.canopy.window }
    let s0 := s.refsUndone
    { s0 with
      canopy := canopy, obj := merge s0.obj v.obj, blobs := merge s0.blobs v.blobs
      sys := { s.sys with step := v.step, coastRun := v.coastRun }
      twin := { s.twin with shadow := v.shadow, shadowObjs := v.shadowObjs, frame := v.frame, own := v.own } }

/-- The objects that a replayed tick writes. -/
def replayObjs : List Nat :=
  [Obj.replayState, Obj.replayStatus, Obj.replayTick, Obj.replayTicksDone, Obj.replayMismatches, Obj.replayFirstMismatch]

/-- A replay as it stands at the start of W1, kept until the next. -/
def saveReplay (s : State) : State :=
  let r := s.record
  let v : ReplaySave := ⟨r.image, r.next, r.differed, r.replayed, r.copied, replayObjs.map fun k => (k, s.o k), s.reg 0 0x3850, s.reg 0 0x380C⟩
  { s with record := { r with replayW1 := some v, coast := false } }

/-- A replay put back as it stood at the start of W1: the record that it was consuming is consumed again.
(Log entry 91, DEDUCED) -/
def restoreReplay (s : State) : State := match s.record.replayW1 with
  | none => s
  | some v =>
    let s1 := ((v.objs.foldl (fun s p => s.setO p.1 p.2) s).setReg 0 0x3850 v.rd).setReg 0 0x380C v.wr
    { s1 with record := { s1.record with image := v.image, next := v.next, differed := v.differed, replayed := v.replayed, copied := v.copied } }

/-- The tick's computation discarded: the state of the start of W1, the coasted bound, and no epoch work (R54, R211). -/
def coastTick (s : State) : State :=
  if s.sys.coast then s
  else if s.mode = mReplay then s.restoreReplay.coastBound.inc Obj.canopyCoastTicks
  else (s.restoreW1.coastBound.discardEpoch).inc Obj.canopyCoastTicks

/-! ### The sections (R446, R447) -/

/-- Plane time of a device time, by the state in force (R17). -/
def planeOf (s : State) (t : Int) : Int := match s.sys.history with
  | h :: _ => h.plane + roundUpHalf ((t - h.time) * 18446744073709551616) (4096 * (18446744073709551616 + h.rateY))
  | [] => 0

/-- Timing ports bound to 1PPS+ToD references in use, whose raw stamps Canopy consumes. -/
def rawPorts (s : State) : List Nat := (List.range 16).filterMap fun k =>
  match s.ppsBinding (0x10 + k) with
  | some (p, _) => if s.refSt (0x10 + k) = 0 then none else some p
  | none => none

/-- Ports whose records Canopy consumes: the monitors of class F references in use, the raw ports, and the pair's pulse. -/
def consumedPorts (s : State) : List Nat :=
  let fs := (classFIds.filter fun id => s.refSt id != 0).map monitorPort
  (List.range 85).filter fun p => fs.contains p || s.rawPorts.contains p || (p == 84 && s.flag Obj.twinEnable)

/-- STAMPS: the drain descriptor, then each consumed port with its regression record and raw block. -/
def stampSection (s : State) : Octets :=
  let each (p : Nat) : Octets :=
    let b := if p < 64 then Sparse.get (fun _ => []) s.stamp.blocks p else (s.portBlock p).1
    let reg := if (s.port p).regWas then b.take 32 else []
    let raw := if s.rawPorts.contains p then (if (s.port p).regWas then b.drop 32 else b) else []
    toBE 1 p ++ toBE 1 ((if reg.isEmpty then 0 else 1) + (if raw.isEmpty then 0 else 2)) ++ toBE 2 (raw.length / 8) ++ zeros 4 ++ reg ++ raw
  if s.stamp.descriptor.isEmpty then [] else padTo 48 s.stamp.descriptor ++ (s.consumedPorts.map each).flatten

/-- One observation of a class T reference other than GNSS. -/
def obsOctets (s : State) (x : RefObs) : Octets :=
  let result := match x.kind with | .valid => 0 | .invalid => 1 | .absent => 2
  toBE 1 x.id ++ toBE 1 result ++ zeros 2 ++ toBE 4 x.cal ++ toBE 8 (s.planeOf x.instant).toNat ++ toBEInt 8 (roundUpHalf x.e 65536) ++
    toBEInt 8 x.mpd ++ toBE 4 x.s ++ toBE 4 x.u ++ zeros 8 ++ (if x.tod.isEmpty then [] else padTo 48 x.tod)

/-- The observations that arrived in the tick that ends, staged as they are ingested. -/
def stageObs (s : State) : State :=
  { s with record := { s.record with obs := (s.synth.arrived.filter fun x => x.id != 1).map s.obsOctets } }

/-- A WRITE record of DICT; KEY_WRITE keeps DATA octets 0–7 alone (R447). -/
def dictWriteOctets (w : DictWrite) : Octets :=
  let data := if w.key = Obj.keyWrite then w.data.take 8 else w.data
  toBE 1 2 ++ toBE 1 (w.key % 256) ++ toBE 2 (w.key / 256) ++ toBE 2 data.length ++ zeros 2 ++ pad8 data

/-- One batch of DICT. -/
def batchOctets (b : Batch) : Octets :=
  toBE 1 b.port ++ zeros 1 ++ toBE 2 b.writes.length ++ toBE 4 b.tag ++ (b.writes.map dictWriteOctets).flatten

/-- EVENTS: the entries that the collector wrote since the last record. -/
def eventSection (s : State) : Octets :=
  ((s.fault.log.filter fun e => decide (s.record.nextSeq ≤ e.1)).map fun e => logOctets e.1 e.2).flatten

/-- PROVENANCE: the records that changed, all eight at tick index 0 (R235). -/
def provSection (s : State) : Octets :=
  let now := padTo 192 (s.blob Obj.boundProvenance)
  ((List.range 8).filterMap fun k =>
    let r := octets now (24 * k) 24
    if s.index = 0 ∨ r ≠ octets s.record.prov (24 * k) 24 then some r else none).flatten

/-- The value applied on a steering channel: 0–3 EFC, 4–7 DS. -/
def steerValue (s : State) (k : Nat) : Option Nat :=
  if k < 4 then (if s.o (Obj.efcState k) = 0 then none else some (s.n (Obj.efcCode k)))
  else if (s.dst (k - 4)).started && !(s.dst (k - 4)).busy then some ((s.dst (k - 4)).value % 2 ^ 32).toNat else none

/-- The tick in which the value of a steering channel takes effect: now, or after the latency of the member it steers. -/
def steerEffect (s : State) (k : Nat) : Nat :=
  if k < 4 then s.tick else match s.steeredBy 2 (k - 4) with | some m => s.tick + (s.decl m).lat | none => s.tick

/-- STEER: the channels whose applied value changed, and the DS writes that failed. -/
def steerSection (s : State) : Octets :=
  ((List.range 8).map fun k =>
    let was := Sparse.get (fun _ => 0) s.record.steer k
    let ok := match s.steerValue k with
      | some v => if was = v + 1 then [] else toBE 1 k ++ zeros 3 ++ toBE 4 v ++ toBE 8 (s.steerEffect k)
      | none => []
    let bad := if 4 ≤ k ∧ Sparse.get (fun _ => 0) s.record.steerFails k ≠ s.n (Obj.dsteerFails (k - 4)) then
        toBE 1 k ++ toBE 1 1 ++ zeros 2 ++ toBE 4 ((s.dst (k - 4)).value % 2 ^ 32).toNat ++ toBE 8 s.tick else []
    ok ++ bad).flatten

/-- OUTPUT: what W1 gives for the next tick, with the mode that Canopy requests. -/
def outputOctets (s : State) (wanted : Nat) : Octets :=
  let l := (s.tickLength s.canopy.rate tickUnits).1
  let b := match s.canopy.next with | some c => (c.bound, c.source) | none => (unbounded, 0)
  toBEInt 8 s.canopy.rate ++ toBE 8 l.toNat ++ toBE 4 b.1 ++ toBE 1 b.2 ++ toBE 1 (s.n Obj.selTCurrent) ++ toBE 1 wanted ++ zeros 1 ++
    toBE 4 (s.n Obj.coastIncrement) ++ toBEInt 8 (s.o Obj.holdServoError) ++ toBEInt 8 (s.o Obj.servoIntegrator) ++
    toBE 8 (s.n Obj.ensHoldSegTick) ++ zeros 12

/-- DIGEST of slot 35: what the update in progress gives (R222). -/
def digestOctets (s : State) : Octets := match s.canopy.work with
  | some _ => toBE 8 s.lastDigest.1 ++ toBE 8 s.lastDigest.2
  | none => []

/-- A section staged for the record of the tick. -/
def stage (s : State) (type : Nat) (c : Octets) : State :=
  if c.isEmpty then s else { s with record := { s.record with staged := s.record.staged ++ [(type, c)] } }

/-- The inputs staged as Canopy consumes them (R449). -/
def stageInputs (s : State) : State :=
  let glade := match s.glade.handed with | some r => s.glade.handedDesc ++ padTo 64 r | none => []
  let s1 := (((s.stage 1 s.stampSection).stage 2 glade).stage 3 s.record.obs.flatten).stage 4 (s.record.applied.map batchOctets).flatten
  { s1 with record := { s1.record with applied := [] } }

/-- The results staged when W1 is complete. -/
def stageOutputs (s : State) (wanted : Nat) (slot35 : Bool) : State :=
  (s.stage 8 (s.outputOctets wanted)).stage 9 (if slot35 then s.digestOctets else [])

/-! ### Keyframes and the record of a tick (R448–R450, R454) -/

/-- The keyframe of the next record; its TICK is set when it is appended, and the layout of BODY is the microcode's.
(Log entry 82, DEDUCED) -/
def formKeyframe (s : State) : State :=
  let serial := match s.joined && !s.flag Obj.twinOwn, s.twin.hello with
    | true, some h => h.serial
    | _, _ => s.blob Obj.serial
  let k := toBE 4 (s.n Obj.ensMicrocodeId) ++ toBE 4 (Config.keyframeVersion (s.n Obj.ensMicrocodeId)) ++ zeros 8 ++ padTo 16 serial ++
    toBE 8 s.ensembleDigest ++ zeros 8 ++ padTo 49104 (Config.freeOctets s.sys.free 49104)
  { s.drew with record := { s.record with keyframe := k, keyLate := false } }

/-- What the sections of the record have now told. -/
def recorded (s : State) : State :=
  let steer := (List.range 8).foldl (fun (t : Tbl Nat) k => match s.steerValue k with
    | some v => Sparse.put (fun _ => 0) t k (v + 1)
    | none => t) s.record.steer
  let fails := (List.range 4).foldl (fun (t : Tbl Nat) k => Sparse.put (fun _ => 0) t (k + 4) (s.n (Obj.dsteerFails k))) s.record.steerFails
  { s with record := { s.record with
    staged := [], obs := [], nextSeq := s.n Obj.evtlogNextSeq, prov := padTo 192 (s.blob Obj.boundProvenance)
    steer := steer, steerFails := fails, keyframe := [], shadow := none, lossDue := false, coast := false } }

/-- The sections of a shadow record: the owner's inputs as they arrived (R454). -/
def shadowBody (s : State) (x : TwinInputs) : Octets :=
  let h := x.state
  let desc := toBE 8 h.tick ++ encTime80 h.time ++ zeros 2 ++ toBE 8 h.len ++ toBEInt 8 h.rateY ++ toBE 4 h.bound ++ toBE 4 1
  let fits := (x.fits.map fun f => toBE 1 f.1 ++ toBE 1 1 ++ zeros 6 ++ f.2.octets).flatten
  let obs := (x.ingested.map fun o => s.obsOctets { id := o.1, kind := .valid, e := o.2.1, instant := o.2.2 }).flatten
  bobSection 1 (desc ++ fits) ++ bobSection 3 obs

/-- The record of the tick appended in W3, then the keyframe of the next one formed when one is due (R448, R449). -/
def appendRecord (s : State) : State :=
  if s.o Obj.bobState ≠ 1 then s
  else
    let key := s.record.keyframe
    let loss := s.record.lossDue
    let flags := (if loss then 128 else 0) + (if s.record.coast then 64 else 0) + (if key.isEmpty then 0 else 32)
    let kf (tick : Nat) : Octets := if key.isEmpty then [] else patch key 8 (toBE 8 tick)
    let s1 := match s.joined && !s.flag Obj.twinOwn, s.record.shadow with
      | true, some x =>
        let marks := (if x.coast && !s.record.coast then 64 else 0) + (if x.stepped.isSome then 16 else 0) + (if x.lost then 8 else 0)
        let h : BobHead := ⟨flags + 4 + marks, x.state.tick, x.state.bound, x.state.source, x.mode, 0⟩
        s.bobAppend h (s.shadowBody x ++ bobSection 10 (kf x.state.tick))
      | true, none => s
      | false, _ =>
        let more := [(5, s.eventSection), (6, s.provSection), (7, s.steerSection), (10, kf s.tick)]
        let staged := if s.record.coast then s.record.staged.filter fun (x : Nat × Octets) => x.1 != 8 && x.1 != 9 else s.record.staged
        let s0 : State := { s with record := { s.record with staged := staged } }
        s0.bobAppend (s0.bobHead flags) (s0.bobBody more)
    let s2 := s1.recorded
    let shadow := s2.joined && !s2.flag Obj.twinOwn
    -- a shadow record follows the owner's tick by one
    let next := if shadow then (s2.index : Int) else timeIndex (s2.sys.nextTime + (match s2.sys.step with | some p => p.delta | none => 0))
    if next = 0 ∨ s2.record.keyDue = true ∨ s2.record.keyLate = true then s2.formKeyframe else s2

/-- W3 overran before the keyframe of the next record was formed (R53, R448). -/
def keyframeMissed (s : State) : State :=
  if s.record.keyframe.isEmpty then s else { s with record := { s.record with keyframe := [], keyLate := true } }

/-- BOB_RATE at the boundary of tick index 0, and the vector of a second (R449, R451). -/
def recordSecond (s : State) : State :=
  if s.index = 0 then
    let s1 := s.setN Obj.bobRate s.record.second
    let s2 : State := { s1 with record := { s1.record with second := 0 } }
    if s2.capOn && bitOf (s2.reg 0 0x3814) 1 then s2.vector 0 35 else s2
  else s

/-! ### Host capture (R451–R453) -/

/-- A record written to the host buffer; vector 35 where CAP_WR passes a multiple of 1 MiB. -/
def toHost (s : State) (r : Octets) : State :=
  let wr := s.reg 0 0x380C
  let now := (wr + r.length) % 2 ^ 32
  let s1 : State := { s.setReg 0 0x380C now with record := { s.record with copied := r } }
  if bitOf (s.reg 0 0x3814) 1 ∧ wr / 2 ^ 20 ≠ now / 2 ^ 20 then s1.vector 0 35 else s1

/-- Room in the host buffer. -/
def capRoom (s : State) : Nat := areaSize 20 30 (s.reg 0 0x3808) - used (s.reg 0 0x380C) (s.reg 0 0x3810)

/-- A GAP record for ticks lost (R452). -/
def capGap (s : State) (first last n : Nat) : State :=
  let r := bobRecord ⟨1, first, s.bound, s.n Obj.boundSource, s.mode.toNat, last⟩ []
  (s.toHost r |>.inc Obj.capGaps).addN Obj.capRecordsLost n

/-- The next whole record copied to the host, after the GAP record of those overwritten; one with an uncorrectable word is
replaced by a GAP record (R452). (Log entry 83, DEDUCED) -/
def captureCopy (s : State) (bad : Bool) : State :=
  if !s.capOn || !s.pcieUp || s.o Obj.replayState == 4 then s
  else
    let s1 := match s.record.gap with
      | some (a, z, n) =>
        if 40 ≤ s.capRoom then { s.capGap a z n with record := { (s.capGap a z n).record with gap := none } } else s
      | none => s
    if s1.record.gap.isSome then s1
    else match s1.record.entries.find? fun e => decide (s1.record.capPos ≤ e.pos) with
      | none => s1.showRing
      | some e =>
        let bad := bad || e.bad
        let len := if bad then 40 else e.len
        if s1.capRoom < len then s1.showRing
        else
          let r := (List.range (e.len / 8)).map fun i => toBE 8 (s1.readWord 17 ((e.pos % bobRing) / 8 + i))
          let s2 := if bad then s1.capGap e.tick e.tick 1 else s1.toHost r.flatten
          { s2 with record := { s2.record with capPos := e.pos + e.len } }.showRing

end State

/-- CAPTURE_COPY: the capture DMA copies the next whole ring record to the host; `bad` tells that its ring copy holds an
uncorrectable word (R452). -/
def execCaptureCopy (bad : Bool) (s : State) : Host.Outcome State Fault Refusal := .next (s.captureCopy bad)

end Sys2Proof.Machine
end

