-- ==== Sys2Proof/Machine/Curves.lean ====
section
/-!
DEFINITION. The curves of the public-key engine: the input checks of R326 in their order, the group laws, and the operations of
FIPS 186-5, RFC 6979 and RFC 8032 that R312 and R326 name.
-/

namespace Sys2Proof.Machine

/-- b^e mod m, over the 2^0 … 2^(n−1) bits of e. -/
def powMod (m : Nat) : Nat → Nat → Nat → Nat
  | 0, _, _ => 1 % m
  | n + 1, b, e =>
    let h := powMod m n (b * b % m) (e / 2)
    if e % 2 = 1 then b * h % m else h

/-- The field prime of an algorithm: 1 P-256, 2 P-384, 3 Ed25519. -/
def fieldPrime (alg : Nat) : Nat :=
  if alg = 1 then 2 ^ 256 - 2 ^ 224 + 2 ^ 192 + 2 ^ 96 - 1
  else if alg = 2 then 2 ^ 384 - 2 ^ 128 - 2 ^ 96 + 2 ^ 32 - 1
  else 2 ^ 255 - 19

/-- The group order n of P-256 and P-384, L of Ed25519. -/
def groupOrder (alg : Nat) : Nat :=
  if alg = 1 then 0xFFFFFFFF00000000FFFFFFFFFFFFFFFFBCE6FAADA7179E84F3B9CAC2FC632551
  else if alg = 2 then
    0xFFFFFFFFFFFFFFFFFFFFFFFFFFFFFFFFFFFFFFFFFFFFFFFFC7634D81F4372DDF581A0DB248B0A77AECEC196ACCC52973
  else 2 ^ 252 + 27742317777372353535851937790883648493

/-- The coefficient b of P-256 and P-384. -/
def curveB (alg : Nat) : Nat :=
  if alg = 1 then 0x5AC635D8AA3A93E7B3EBBD55769886BC651D06B0CC53B0F63BCE3C3E27D2604B
  else 0xB3312FA7E23EE7E4988E056BE3F82D19181D9C6EFE8141120314088F5013875AC656398D8A2ED19D2A85C8EDD3EC2AEF

/-- The coefficient d of Ed25519. -/
def edD : Nat := 37095705934669439343138083508754565189542113879843219016388785533085940283555

/-- Octets of a coordinate or scalar. -/
def coordLen (alg : Nat) : Nat := if alg = 2 then 48 else 32

/-- Octets of a signature. -/
def sigLen (alg : Nat) : Nat := 2 * coordLen alg

/-- A little-endian number. -/
def leNat (b : Octets) : Nat := beNat b.reverse

/-- The affine point of a public key in the format of R307: none for the point at infinity; the Bool says that its first octet
is one of SEC1's two here. -/
def sec1Point (alg : Nat) (b : Octets) : Option (Nat × Nat) × Bool :=
  let n := coordLen alg
  if octetAt b 0 = 0 then (none, true) else (some (fieldN b 1 n, fieldN b (1 + n) n), octetAt b 0 == 4)

/-- The curve equation y² = x³ − 3x + b. (Log entry 70, DEDUCED) -/
def onCurve (alg x y : Nat) : Bool :=
  let p := fieldPrime alg
  y * y % p == (x * x % p * x + (p - 3) * x + curveB alg) % p

/-- The code of the first check that a Weierstrass input point fails, 0 for none (R326, checks 2 to 4). -/
def pointCheck (alg : Nat) (b : Octets) : Nat :=
  match sec1Point alg b with
  | (none, _) => 0x0204
  | (some (x, y), ok) =>
    let p := fieldPrime alg
    if p ≤ x ∨ p ≤ y then 0x0202 else if !ok || !onCurve alg x y then 0x0203 else 0

/-- The x-coordinate and y-coordinate of an Ed25519 encoding whose y is in range, or none where it does not decompress
(RFC 8032). -/
def edDecompress (b : Octets) : Option (Nat × Nat) :=
  let p := fieldPrime 3
  let e := leNat (octets b 0 32)
  let sign := e / 2 ^ 255
  let y := e % 2 ^ 255
  let u := (y * y + p - 1) % p
  let v := (edD * (y * y % p) + 1) % p
  let v3 := v * v % p * v % p
  let x := u * v3 % p * powMod p 256 (u * (v3 * v3 % p * v % p) % p) ((p - 5) / 8) % p
  let vx := v * (x * x % p) % p
  let root := powMod p 256 2 ((p - 1) / 4)
  let r := if vx = u then some x else if vx = (p - u) % p then some (x * root % p) else none
  match r with
  | none => none
  | some x => if x = 0 ∧ sign = 1 then none else some (if x % 2 = sign then x else p - x, y)

/-- Doubling in projective coordinates on the twisted Edwards curve with a = −1. -/
def edDouble (q : Nat × Nat × Nat) : Nat × Nat × Nat :=
  let p := fieldPrime 3
  let (x, y, z) := q
  let a := x * x % p
  let b := y * y % p
  let c := 2 * z * z % p
  let h := (a + b) % p
  let e := (h + p - (x + y) * (x + y) % p) % p
  let g := (a + p - b) % p
  let f := (c + g) % p
  (e * f % p, g * h % p, f * g % p)

/-- The point has an order dividing 8. -/
def edSmall (x y : Nat) : Bool :=
  let (x, y, z) := edDouble (edDouble (edDouble (x, y, 1)))
  x == 0 && y == z

/-- The encoded y of an Ed25519 point is in range. -/
def edRange (b : Octets) : Bool := decide (leNat (octets b 0 32) % 2 ^ 255 < fieldPrime 3)

/-- The checks of R326 on a signature to be verified, before its arithmetic: 0, or the code of the first that fails.
(Log entry 70, DEDUCED) -/
def verifyChecks (alg : Nat) (pub sig : Octets) : Nat :=
  let n := coordLen alg
  if alg = 3 then
    if groupOrder 3 ≤ leNat (octets sig 32 32) then 0x0201
    else if !edRange pub || !edRange sig then 0x0202
    else match edDecompress pub, edDecompress sig with
      | some (x, y), some _ => if edSmall x y then 0x0204 else 0
      | _, _ => 0x0203
  else
    let r := fieldN sig 0 n
    let v := fieldN sig n n
    if r = 0 ∨ groupOrder alg ≤ r ∨ v = 0 ∨ groupOrder alg ≤ v then 0x0201 else pointCheck alg pub

/-- A private scalar is in 1 ≤ d < n; a seed of Ed25519 always is. -/
def scalarOk (alg : Nat) (k : Octets) : Bool := alg == 3 || decide (1 ≤ beNat k ∧ beNat k < groupOrder alg)

/-! ### Arithmetic (R326) -/

/-- The base point of P-256, P-384 or Ed25519. (Log entry 70, DEDUCED) -/
def basePoint (alg : Nat) : Nat × Nat :=
  if alg = 1 then (0x6B17D1F2E12C4247F8BCE6E563A440F277037D812DEB33A0F4A13945D898C296,
    0x4FE342E2FE1A7F9B8EE7EB4A7C0F9E162BCE33576B315ECECBB6406837BF51F5)
  else if alg = 2 then (0xAA87CA22BE8B05378EB1C71EF320AD746E1D3B628BA79B9859F741E082542A385502F25DBF55296C3A545E3872760AB7,
    0x3617DE4A96262C6F5D9E98BF9292DC29F8F41DBD289A147CE9DA3113B5F0B8C00A60B1CE1D7E819D7A431D7C90EA0E5F)
  else (15112221349535400772501151409588531511454012693041857206046113283949847762202,
    46316835694926478169428394003475163141307993866256225615783033603165251855960)

/-- 1 / a modulo a prime. -/
def invMod (p a : Nat) : Nat := powMod p 384 a (p - 2)

/-- The sum of two points of a Weierstrass curve; none is the point at infinity. (Log entry 70, DEDUCED) -/
def curveAdd (alg : Nat) (a b : Option (Nat × Nat)) : Option (Nat × Nat) :=
  let p := fieldPrime alg
  match a, b with
  | none, q => q
  | q, none => q
  | some (x1, y1), some (x2, y2) =>
    if x1 = x2 ∧ (y1 + y2) % p = 0 then none
    else
      let l := if x1 = x2 then (3 * x1 * x1 + p - 3) * invMod p (2 * y1 % p) % p
        else (y2 + p - y1) * invMod p ((x2 + p - x1) % p) % p
      let x := (l * l + 2 * p - x1 - x2) % p
      some (x, (l * (x1 + p - x) + p - y1) % p)

/-- A multiple of a point, over the lowest `n` bits of the scalar. -/
def curveMul (alg : Nat) : Nat → Nat → Option (Nat × Nat) → Option (Nat × Nat)
  | 0, _, _ => none
  | n + 1, k, q =>
    let h := curveMul alg n (k / 2) (curveAdd alg q q)
    if k % 2 = 1 then curveAdd alg q h else h

/-- The number that a hash stands for: its leftmost octets of the length of n. -/
def hashNat (alg : Nat) (h : Octets) : Nat := beNat (h.take (coordLen alg))

/-- ECDSA verification of r and s over a hash: 0 verified, 0x0204 R' at infinity, 0x0205 not verified (FIPS 186-5). -/
def ecdsaVerify (alg : Nat) (q : Nat × Nat) (r v : Nat) (h : Octets) : Nat :=
  let n := groupOrder alg
  let w := invMod n v
  let a := curveMul alg 384 (hashNat alg h * w % n) (some (basePoint alg))
  match curveAdd alg a (curveMul alg 384 (r * w % n) (some q)) with
  | none => 0x0204
  | some (x, _) => if x % n = r then 0 else 0x0205

/-- ECDSA signature with the nonces of RFC 6979 in their order: r and s from the first that gives neither as 0. -/
def ecdsaSign (alg d : Nat) (h : Octets) : Nat → Nat → Nat × Nat
  | 0, _ => (0, 0)
  | m + 1, i =>
    let n := groupOrder alg
    let k := Config.rfc6979 alg d h i
    let r := ((curveMul alg 384 k (some (basePoint alg))).map fun q => q.1 % n).getD 0
    let v := invMod n k * (hashNat alg h + r * d) % n
    if r = 0 ∨ v = 0 then ecdsaSign alg d h m (i + 1) else (r, v)

/-- The sum of two points in projective coordinates on the twisted Edwards curve (RFC 8032). -/
def edAdd (a b : Nat × Nat × Nat) : Nat × Nat × Nat :=
  let p := fieldPrime 3
  let z := a.2.2 * b.2.2 % p
  let z2 := z * z % p
  let c := a.1 * b.1 % p
  let d := a.2.1 * b.2.1 % p
  let e := edD * (c * d % p) % p
  let f := (z2 + p - e) % p
  let g := (z2 + e) % p
  let cross := ((a.1 + a.2.1) * (b.1 + b.2.1) + 2 * p - c - d) % p
  (z * f % p * cross % p, z * g % p * (d + c) % p, f * g % p)

/-- A multiple of a point, over the lowest `n` bits of the scalar. -/
def edMul : Nat → Nat → Nat × Nat × Nat → Nat × Nat × Nat
  | 0, _, _ => (0, 1, 1)
  | n + 1, k, q =>
    let h := edMul n (k / 2) (edAdd q q)
    if k % 2 = 1 then edAdd q h else h

/-- The encoding of a point (RFC 8032). -/
def edEncode (q : Nat × Nat × Nat) : Octets :=
  let p := fieldPrime 3
  let i := invMod p q.2.2
  (toBE 32 (q.2.1 * i % p + (q.1 * i % p) % 2 * 2 ^ 255)).reverse

/-- A point of its affine coordinates. -/
def edPoint (q : Nat × Nat) : Nat × Nat × Nat := (q.1, q.2, 1)

/-- Ed25519 verification without cofactors: [S]B = R + [k]A (R326). -/
def edVerify (pub sig msg : Octets) (a r : Nat × Nat) : Bool :=
  let p := fieldPrime 3
  let k := leNat (Config.sha512 (octets sig 0 32 ++ octets pub 0 32 ++ msg)) % groupOrder 3
  let x := edMul 256 (leNat (octets sig 32 32)) (edPoint (basePoint 3))
  let y := edAdd (edPoint r) (edMul 256 k (edPoint a))
  x.1 * y.2.2 % p == y.1 * x.2.2 % p && x.2.1 * y.2.2 % p == y.2.1 * x.2.2 % p

/-- The scalar and the prefix of an Ed25519 seed (RFC 8032). -/
def edSecret (seed : Octets) : Nat × Octets :=
  let h := padTo 64 (Config.sha512 seed)
  (leNat (h.take 32) % 2 ^ 254 / 8 * 8 + 2 ^ 254, h.drop 32)

/-- The public key of a private one in the format of R307. (Log entry 70, DEDUCED) -/
def publicKey (alg : Nat) (k : Octets) : Octets :=
  if alg = 3 then edEncode (edMul 256 (edSecret k).1 (edPoint (basePoint 3)))
  else
    let q := (curveMul alg 384 (beNat k) (some (basePoint alg))).getD (0, 0)
    [4] ++ toBE (coordLen alg) q.1 ++ toBE (coordLen alg) q.2

/-- A signature under a private key: ECDSA over a hash, or Ed25519 over a message (R312, R317).
(Log entry 70, DEDUCED) -/
def pkSignature (alg : Nat) (k msg : Octets) : Octets :=
  if alg = 3 then
    let x := edSecret k
    let b := edPoint (basePoint 3)
    let l := groupOrder 3
    let r := leNat (Config.sha512 (x.2 ++ msg)) % l
    let head := edEncode (edMul 256 r b)
    let h := leNat (Config.sha512 (head ++ edEncode (edMul 256 x.1 b) ++ msg)) % l
    head ++ (toBE 32 ((r + h * x.1) % l)).reverse
  else
    let q := ecdsaSign alg (beNat k) msg 8 0
    toBE (coordLen alg) q.1 ++ toBE (coordLen alg) q.2

/-- Verification of a signature with the checks of R326: 0, or the code of its outcome. (Log entry 70, DEDUCED) -/
def pkVerify (alg : Nat) (pub sig msg : Octets) : Nat :=
  let c := verifyChecks alg pub sig
  if c ≠ 0 then c
  else if alg = 3 then
    match edDecompress pub, edDecompress sig with
    | some a, some r => if edVerify pub sig msg a r then 0 else 0x0205
    | _, _ => 0x0203
  else
    let n := coordLen alg
    match (sec1Point alg pub).1 with
    | some q => ecdsaVerify alg q (fieldN sig 0 n) (fieldN sig n n) msg
    | none => 0x0204

/-- The shared x-coordinate of a private key and a public key that passed its checks; none at infinity (R326). -/
def pkShared (alg : Nat) (k pub : Octets) : Option Octets :=
  (curveMul alg 384 (beNat k) (sec1Point alg pub).1).map fun q => toBE (coordLen alg) q.1

/-- A private key by the candidate method: 64 or 80 octets reduced mod n − 1, plus 1 (R311). -/
def candidateKey (alg : Nat) (b : Octets) : Octets := toBE (coordLen alg) (beNat b % (groupOrder alg - 1) + 1)

/-- Octets of the candidate. -/
def candidateLen (alg : Nat) : Nat := if alg = 2 then 80 else 64

end Sys2Proof.Machine
end

