-- ==== Sys2Proof/Machine/Host.lean ====
section
/-!
DEFINITION. Mailboxes, notices, the management port and the PCIe link: how messages arrive and are answered
(R330–R350), with MBX_UNKNOWN_OP, MGMT_REQUEST_RECEIVE, MGMT_CACHE_EXPIRY, MGMT_ARP_ND, PCIE_LINK_UP, PCIE_LINK_DOWN,
PCIE_FLR, CHAN_RESET, D2H_ACK and D2H_NOTICE_DELIVER.
-/

namespace Sys2Proof.Machine

/-- The service that a mailbox OP asks for (R348). -/
def opServed (mint : Bool) (op : Nat) : Bool := op == 1 || (mint && op == 0x0101) || (!mint && decide (0x0201 ≤ op ∧ op ≤ 0x0209))

/-- LEN of a doorbell agrees with the message's own lengths, `n` octets in all (R347, R348). -/
def lenAgrees (src : MsgSource) (n : Nat) : Bool := match src.carrier with
  | .mailbox _ => src.len == n
  | _ => true

/-- An address matches a prefix of `n` bits. -/
def prefixMatch (a p : Octets) (n : Nat) : Bool := beNat (padTo 16 a) / 2 ^ (128 - min n 128) == beNat (padTo 16 p) / 2 ^ (128 - min n 128)

namespace State

/-- A mailbox channel. -/
def chan_ (s : State) (k : Nat) : Channel := Sparse.get (fun _ => {}) s.host.chans k

/-- The state with a channel written, and MBX_STATE with it: 0 idle, 1 busy, 2 reply ready. -/
def setChan_ (s : State) (k : Nat) (c : Channel) : State :=
  let s1 : State := { s with host := { s.host with chans := Sparse.put (fun _ => {}) s.host.chans k c } }
  s1.setN (Obj.mbxState k) (if c.phase ≠ .idle then 1 else if c.done then 2 else 0)

/-- The channel is the mint channel (R301). -/
def isMint (s : State) (k : Nat) : Bool := decide (k < 8) && s.n Obj.ntsMintChannel == k

/-- A doorbell: BUSY is set and DONE cleared; while BUSY it is ignored and counted (R348).  The Bool says whether it was
taken. -/
def doorbell (s : State) (k seq : Nat) : State × Bool :=
  let c := s.chan_ k
  if !s.pcieUp then (s, false)
  else if c.phase ≠ .idle then ((s.setChan_ k { c with overrun := true }).inc (Obj.mbxOverruns k), false)
  else (s.setChan_ k { c with phase := .waiting, done := false, seq := seq }, true)

/-- The end of a message on a channel: reply, ACK, DONE, the vector; while the link is down the channel stays BUSY with its result
(R348). -/
def chanDone (s : State) (k code : Nat) (reply : Octets) : State :=
  let c := s.chan_ k
  if !s.pcieUp then s.setChan_ k { c with phase := .serving, held := some (code, reply) }
  else
    let c1 := { c with phase := ChanPhase.idle, done := true, ackSeq := c.seq, ackCode := code, rspLen := reply.length, reply := reply
                       resetDue := false, held := none }
    let s1 := (s.setChan_ k c1).inc (Obj.mbxMessages k)
    if c.irqEn then s1.vector (k / 8) (k % 8) else s1

/-- The results that waited for the link are posted once it is up (R348). -/
def postHeld (s : State) : State :=
  (List.range 16).foldl (fun s k => match (s.chan_ k).held with
    | some (code, reply) => s.chanDone k code reply
    | none => s) s

/-- A message that its carrier cannot answer waits: a mailbox message while the link is down (R348). -/
def reachable (s : State) (src : MsgSource) : Bool := match src.carrier with
  | .mailbox _ => s.pcieUp
  | _ => true

/-- The octets of a message that arrived by a mailbox stand in its request buffer (R345, R348). -/
def placeRequest (s : State) (src : MsgSource) (b : Octets) : State := match src.carrier with
  | .mailbox k => s.setChan_ k { s.chan_ k with request := b }
  | _ => s

/-- A reply sent on the carrier of its message (R340–R343, R348). -/
def reply (s : State) (src : MsgSource) (code : Nat) (body : Octets) : State :=
  let coded (s : State) (port : Nat) : State := { s with host := { s.host with codes := Sparse.put (fun _ => 0) s.host.codes port code } }
  match src.carrier with
  | .mailbox k => s.chanDone k code body
  | .mgmt a p t =>
    let head := toBE 2 0x4F44 ++ [1, 1] ++ toBE 4 t
    let cache := s.host.cache.map fun e => if e.addr = a ∧ e.port = p ∧ e.transaction = t then { e with sent := some s.age, reply := body } else e
    coded { s with host := { s.host with
      cache := cache, replies := Sparse.put (fun _ => []) s.host.replies 17 (head ++ body), repliedTo := some (a, p) } } 17
  | .inband m a p t =>
    let head := toBE 2 0x4F44 ++ [1, 1] ++ toBE 4 t
    let v4 := octets a 10 2 == [0xFF, 0xFF] && octets a 0 10 == zeros 10
    let tr := if v4 then 1 else 2
    let f : TxFrame := { queue := 6, kind := .dict, len := max 64 (headLen tr src.tags.length + head.length + body.length + 4)
                         dst := src.back, src := s.macAddr m, tags := src.tags, ip := if v4 then 4 else 6, srcIp := s.svcIp m (if v4 then 4 else 6), dstIp := if v4 then octets a 12 4 else a
                         srcPort := 47300, dstPort := p, etherType := if v4 then 0x0800 else 0x86DD, body := head ++ body }
    let s1 : State := { s with host := { s.host with replies := Sparse.put (fun _ => []) s.host.replies m (head ++ body) } }
    ((coded s1 m).inc Obj.ndictRequests).enqueue m f
  | .yethal => coded { s with host := { s.host with replies := Sparse.put (fun _ => []) s.host.replies 16 body } } 16

/-- The management port answers: from the first APLL-N0 lock in WARMUP, while it has its clocks, domains 36 and 37 (R36, R339).
(Log entry 11, DEDUCED) -/
def mgmtOn (s : State) : Bool :=
  s.running && s.host.mgmtUp && bitOf (s.n Obj.cdStatus) 36 && bitOf (s.n Obj.cdStatus) 37

/-- The Yethal link carries DICT: from AUTH onwards (R413, R415). -/
def yethalOn (s : State) : Bool := decide (3 ≤ s.o Obj.twinState ∧ s.o Obj.twinState ≤ 7) && s.yethalClocked

/-- A message taken from its carrier: true when it is to be served. (Log entry 63, DEDUCED) -/
def accept (s : State) (src : MsgSource) : State × Bool :=
  match src.carrier with
  | .mailbox k => s.doorbell k src.seq
  | .mgmt a p t => (s, s.mgmtOn && s.host.cache.any fun e => e.addr == a && e.port == p && e.transaction == t && e.sent.isNone)
  | .inband _ _ _ _ => (s, false)
  | .yethal => (s, s.yethalOn)

/-- The device serves messages: BOOT, once the Forester is released and the images are loaded, through REPLAY (R348, R467). -/
def serving (s : State) : Bool := s.running || (s.mode == mBoot && s.power.loaded)

/-! ### Notices (R350) -/

/-- The notices of a channel. -/
def notices (s : State) (k : Nat) : NoticeQueue := Sparse.get (fun _ => {}) s.host.notices k

/-- The state with the notices of a channel written. -/
def setNotices (s : State) (k : Nat) (q : NoticeQueue) : State :=
  { s with host := { s.host with notices := Sparse.put (fun _ => {}) s.host.notices k q } }

/-- KIND and VALUE of an event (R350, R388); the manual gives VALUE for faults alone.
(Log entry 30, DESIGN CHOICE) -/
def eventEntry (s : State) (e : HostEvent) : Nat × Nat :=
  match e with
  | .modeChange => (0, Config.freeNat s.sys.free % 2 ^ 64)
  | .serviceChange => (2, Config.freeNat s.sys.free % 2 ^ 64)
  | .keyRotation => (3, Config.freeNat s.sys.free % 2 ^ 64)
  | .faultRaised i =>
    let hit := (s.fault.log.find? fun x => x.2.ident == i)
    let held := s.fault.held.find? fun r => r.ident == i
    match hit, held with
    | some (q, r), _ => (1, r.code * 2 ^ 48 + r.cls * 2 ^ 40 + r.flags * 2 ^ 32 + r.source * 2 ^ 16 + q % 2 ^ 16)
    | none, some r => (1, r.code * 2 ^ 48 + r.cls * 2 ^ 40 + r.flags * 2 ^ 32 + r.source * 2 ^ 16 + Config.freeNat s.sys.free % 2 ^ 16)
    | none, none => (1, Config.freeNat s.sys.free % 2 ^ 64)

/-- Entries in parts of 255 (R350). -/
def split255 : Nat → List (Nat × Nat) → List (List (Nat × Nat))
  | 0, _ => []
  | n + 1, l => if l.isEmpty then [] else l.take 255 :: split255 n (l.drop 255)

/-- Notices that a function will be told of as lost (R349, R350). -/
def addLost (s : State) (fn n : Nat) : State :=
  { s with host := { s.host with noticeLost := Sparse.put (fun _ => 0) s.host.noticeLost fn (Sparse.get (fun _ => 0) s.host.noticeLost fn + n) } }

/-- A notice put behind the others of its channel, or dropped beyond 64 (R350). -/
def queueNotice (s : State) (k : Nat) (x : Notice) : State :=
  let q := s.notices k
  if 64 ≤ q.queued.length then (s.addLost (k / 8) 1).inc (Obj.d2hDrops k)
  else s.setNotices k { q with queued := q.queued ++ [x] }

/-- The notices of the events of ticks before `t`, for both functions (R350). -/
def formNotices (s : State) (t : Nat) : State :=
  let old := s.host.events.filter fun e => decide (e.1 < t)
  let s0 : State := { s with host := { s.host with events := s.host.events.filter fun e => !decide (e.1 < t) } }
  let ticks := (old.map (·.1)).eraseDups
  (List.range 2).foldl (fun s fn =>
    let ch := s.n (Obj.evtChannel fn)
    let mask := s.n (Obj.evtMask fn)
    if 8 ≤ ch then s
    else ticks.foldl (fun s tk =>
      let mine := (old.filter fun e => e.1 == tk).map (·.2)
      let (s1, ents) := mine.foldl (fun (a : State × List (Nat × Nat)) e =>
        let x := a.1.eventEntry e
        if bitOf mask x.1 then (a.1.drew, a.2 ++ [x]) else a) (s, [])
      (split255 (ents.length + 1) ents).foldl (fun s l => s.queueNotice (8 * fn + ch) ⟨tk, l⟩) s1) s) s0

/-- The next queued notice placed in the channel's buffer (R350). -/
def deliverNotice (s : State) (k : Nat) : State :=
  let q := s.notices k
  match q.out, q.queued with
  | none, x :: rest =>
    let lost := Sparse.get (fun _ => 0) s.host.noticeLost (k / 8)
    let s1 := s.setNotices k { out := some (q.nextSeq, lost, x), queued := rest, nextSeq := (q.nextSeq + 1) % 65536 }
    let s2 := s1.setChan_ k { s1.chan_ k with notice := x.octets lost }
    { s2 with host := { s2.host with noticeLost := Sparse.put (fun _ => 0) s2.host.noticeLost (k / 8) 0 } }.vector (k / 8) (8 + k % 8)
  | _, _ => s

/-- CHAN_RESET at the start of a W3: a message not begun is discarded with 0x0014 (R349). -/
def chanResets (s : State) : State :=
  (List.range 16).foldl (fun s k =>
    let c := s.chan_ k
    if !c.resetDue then s
    else if c.phase = .waiting then
      let mine (x : MsgSource) : Bool := match x.carrier with | .mailbox j => j.val == k | _ => false
      let s1 : State := { s with
        host := { s.host with waiting := s.host.waiting.filter fun m => !mine m.src }
        vault := { s.vault with queue := s.vault.queue.filter (fun m => !mine m.2.src), mints := s.vault.mints.filter fun m => !mine m.src } }
      let c1 := { c with phase := ChanPhase.idle, done := true, abandoned := true, ackSeq := c.seq, ackCode := 0x0014, rspLen := 0, reply := [], resetDue := false }
      let s2 := (s1.setChan_ k c1).inc (Obj.mbxAbandoned k)
      if c.irqEn then s2.vector (k / 8) (k % 8) else s2
    else s.setChan_ k { c with resetDue := false }) s

/-- A message begun to be served (R349). -/
def markServing (s : State) (src : MsgSource) : State := match src.carrier with
  | .mailbox k => s.setChan_ k { s.chan_ k with phase := .serving }
  | _ => s

/-! ### The management port (R339–R341) -/

/-- The source passes MGMT_ALLOW: no entry enabled, or one that matches (R339). -/
def allowed (s : State) (addr : Octets) : Bool :=
  let b := s.blob Obj.mgmtAllow
  let on := (List.range 8).filter fun k => octetAt b (20 * k + 17) == 1
  on.isEmpty || on.any fun k => prefixMatch addr (octets b (20 * k) 16) (octetAt b (20 * k + 16))

/-- The reply cache without the entries whose reply was sent 65,536 ticks ago (R341). -/
def expireCache (s : State) : State :=
  let old (e : CacheEntry) : Bool := match e.sent with | some t => decide (t + 65536 ≤ s.age) | none => false
  { s with host := { s.host with cache := s.host.cache.filter fun e => !old e } }

/-- The MAC address of the management port: the fused base address plus 16 (R339). -/
def mgmtMac (s : State) : Octets := toBE 6 ((beNat (s.blob 0x100004) + 16) % 2 ^ 48)

/-- An address of the management port, IPv4 mapped into 16 octets: MGMT_IPV4, MGMT_IPV6, or the link-local address, fe80::/64 with the
EUI-64 of the MAC address (R339). -/
def mgmtAddress (s : State) (a : Octets) : Bool :=
  let mac := s.mgmtMac
  let local_ := [0xFE, 0x80] ++ zeros 6 ++ toBE 1 (octetAt mac 0 ^^^ 2) ++ octets mac 1 2 ++ [0xFF, 0xFE] ++ octets mac 3 3
  let v4 := octets (s.blob Obj.mgmtIpv4) 0 4
  let v6 := octets (s.blob Obj.mgmtIpv6) 0 16
  (a == zeros 10 ++ [0xFF, 0xFF] ++ v4 && v4 != zeros 4) || (a == v6 && v6 != zeros 16) || a == local_

/-- A management datagram: dropped, answered from the cache, or accepted for service with an entry in the cache
(R339–R341). -/
def mgmtReceive (s : State) (d : MgmtDatagram) : State :=
  let s := s.expireCache
  if !s.mgmtOn || d.tagged || !s.mgmtAddress d.dst then s
  else if d.fragment then s.inc Obj.mgmtMalformed
  else if d.dstPort ≠ 47300 then s
  else if !s.allowed d.addr then s.inc Obj.mgmtRejectedSrc
  else if d.magic ≠ 0x4F44 ∨ d.version ≠ 1 ∨ d.complete = false ∨ !(d.op == 1 || decide (0x0206 ≤ d.op ∧ d.op ≤ 0x0209)) then s.inc Obj.mgmtMalformed
  else
    let same (e : CacheEntry) : Bool := e.addr == d.addr && e.port == d.port && e.transaction == d.transaction
    match s.host.cache.find? same with
    | some e =>
      let s1 := s.inc Obj.mgmtDuplicates
      match e.sent with
      | some _ =>
        let out := toBE 2 0x4F44 ++ [1, 3] ++ toBE 4 d.transaction ++ e.reply
        { s1 with host := { s1.host with replies := Sparse.put (fun _ => []) s1.host.replies 17 out, repliedTo := some (d.addr, d.port) } }
      | none => s1
    | none =>
      let fresh : List CacheEntry := [CacheEntry.mk d.addr d.port d.transaction none []]
      let add (s : State) : State :=
        ({ s with host := { s.host with cache := s.host.cache ++ fresh } }).inc Obj.mgmtRequests
      if s.host.cache.length < 4096 then add s
      else match s.host.cache.findIdx? fun e => e.sent.isSome with
        | some i => add (({ s with host := { s.host with cache := s.host.cache.eraseIdx i } }).inc Obj.mgmtCacheEvictions)
        | none => s.inc Obj.mgmtRejectedSrc

end State

/-! ### Commands -/

/-- The code of a message whose OP the channel does not serve: minting asked for on PF1 is 0x0104 (R301, R348). -/
def unknownCode (k op : Nat) : Nat := if op = 0x0101 ∧ 8 ≤ k then 0x0104 else 0x0011

/-- A request of an operation that its channel does not serve: answered by name in a mode that serves, else it waits (R347, R348). -/
def State.unknownOp (s : State) (k seq op : Nat) : State :=
  let (s1, took) := s.doorbell k seq
  if took && s1.serving then s1.chanDone k (unknownCode k op) []
  else if took then s1.setChan_ k { s1.chan_ k with op := op }
  else s1

/-- MBX_UNKNOWN_OP: a message whose OP the channel does not serve returns 0x0011 (R301, R348). -/
def execMbxUnknownOp (k : Fin 16) (seq : Fin 65536) (op : Fin 65536) (s : State) : Host.Outcome State Fault Refusal :=
  if opServed (s.isMint k) op then .next s else .next (s.unknownOp k seq op)

/-- MGMT_REQUEST_RECEIVE: a datagram on the management port (R339–R341). -/
def execMgmtRequestReceive (d : MgmtDatagram) (s : State) : Host.Outcome State Fault Refusal := .next (s.mgmtReceive d)

/-- MGMT_CACHE_EXPIRY: entries whose reply was sent 65,536 ticks ago go (R341). -/
def execMgmtCacheExpiry (s : State) : Host.Outcome State Fault Refusal := .next s.expireCache

/-- MGMT_ARP_ND: ARP or neighbour discovery for an address; one of the port's own is answered (R339). -/
def execMgmtArpNd (target : Octets) (s : State) : Host.Outcome State Fault Refusal :=
  let own := s.mgmtAddress (if target.length = 4 then zeros 10 ++ [0xFF, 0xFF] ++ target else target)
  if s.mgmtOn && own then .next { s with host := { s.host with arpAnswered := some target } } else .next s

/-- PCIE_LINK_UP: the link reaches its active state at a rate and width (R344). (Log entry 11, DEDUCED) -/
def execPcieLinkUp (rate : Fin 6) (width : Fin 16) (s : State) : Host.Outcome State Fault Refusal :=
  if s.mode ≠ mReset ∧ s.power.filled = true ∧ 1 ≤ rate.val ∧ (width.val = 1 ∨ width.val = 2 ∨ width.val = 4 ∨ width.val = 8) ∧
      bitOf (s.n Obj.cdStatus) 35 = true then
    .next (s.setN Obj.pcieLink (rate.val + 16 * width.val)).postHeld
  else .next s

/-- PCIE_LINK_DOWN: the link is lost or retrains (R344). -/
def execPcieLinkDown (s : State) : Host.Outcome State Fault Refusal :=
  if s.o Obj.pcieLink ≠ 0 then .next ((s.setN Obj.pcieLink 0).inc Obj.pcieLinkDowns) else .next s

/-- A function-level reset: its rings off, its notices dropped, and its busy channels reset (R344, R349, R358). -/
def State.functionReset (s : State) (f : Nat) : State :=
  let s0 : State := { s with host := { s.host with stopped := s.host.stopped.filter fun x => x != f } }
  let s1 := s0.inc Obj.pcieFlrs
  let s2 := (List.range 8).foldl (fun s r => (s.ringOff f .rx r).ringOff f .tx r) s1
  let s3 := (s2.ringOff f .dump 0).ringOff f .stamp 0
  (List.range 8).foldl (fun s k =>
    let ch := 8 * f + k
    let q := s.notices ch
    let n := q.queued.length + (if q.out.isSome then 1 else 0)
    let s1 := (s.setNotices ch { q with out := none, queued := [] }).addLost f n
    if (s1.chan_ ch).phase = .idle then s1 else s1.setChan_ ch { s1.chan_ ch with resetDue := true }) s3

/-- PCIE_FLR: a function-level reset of one function (R344, R349). -/
def execPcieFlr (fn : Fin 2) (s : State) : Host.Outcome State Fault Refusal :=
  if s.pcieUp then .next (s.functionReset fn) else .next s

/-- CHAN_RESET: CONTROL bit 1 of a channel is written; it takes effect at the start of the next W3 (R347, R349). -/
def execChanReset (k : Fin 16) (s : State) : Host.Outcome State Fault Refusal :=
  if s.pcieUp && (s.chan_ k).phase != .idle then .next (s.setChan_ k { s.chan_ k with resetDue := true }) else .next s

/-- D2H_ACK: the host writes D2H_ACK with a SEQ (R350). -/
def execD2hAck (k : Fin 16) (seq : Fin 65536) (s : State) : Host.Outcome State Fault Refusal :=
  let q := s.notices k
  match q.out with
  | some (n, _, _) => if s.pcieUp && n == seq.val then .next (s.setNotices k { q with out := none }) else .next s
  | none => .next s

/-- D2H_NOTICE_DELIVER: the next queued notice of a channel with none outstanding (R350). -/
def execD2hNoticeDeliver (k : Fin 16) (s : State) : Host.Outcome State Fault Refusal :=
  if s.pcieUp && s.alive then .next (s.deliverNotice k) else .next s

end Sys2Proof.Machine
end

