-- ==== Sys2Proof/Machine/Vault.lean ====
section
/-!
DEFINITION. The Ferinlia key vault (12): key writes, operations, challenges, the public-key engine, tamper, and minting, with
the commands KEY_WRITE, KEY_WRITE_APPLY, REMASK_REQUEST, ENTROPY_HEALTH_FAIL, ENTROPY_RESTART_PASS, PK_SIGN, PK_VERIFY,
PK_ECDH, GENERATE, DERIVE, PROOF, CHAL_ISSUE, CHAL_RESPOND, ATTEST, PK_ENGINE_START, PK_ENGINE_COMPLETE, TAMPER_EVENT,
TAMPER_FUSE_PROGRAMMED, VAULT_INIT_COMPLETE and NTS_MINT_REQUEST.
-/

namespace Sys2Proof.Machine

/-- "FKV1". -/
def tagFkv1 : Octets := [0x46, 0x4B, 0x56, 0x31]
/-- "FKVP". -/
def tagFkvp : Octets := [0x46, 0x4B, 0x56, 0x50]
/-- "FKVA". -/
def tagFkva : Octets := [0x46, 0x4B, 0x56, 0x41]
/-- "FKVC". -/
def tagFkvc : Octets := [0x46, 0x4B, 0x56, 0x43]
/-- "FKVK". -/
def tagFkvk : Octets := [0x46, 0x4B, 0x56, 0x4B]

/-- The algorithm of a slot's type: 5 P-256, 6 P-384, 7 Ed25519; 0 for the others (R307). -/
def typeAlg (type : Nat) : Nat := if 5 ≤ type ∧ type ≤ 7 then type - 4 else 0

/-- A material's length suits a type (R308). -/
def lengthSuits (type len : Nat) : Bool :=
  if type = 1 then len == 16 else if type = 2 then len == 32 else if type = 4 then decide (16 ≤ len ∧ len ≤ 64)
  else if type = 5 ∨ type = 7 then len == 32 else if type = 6 then len == 48 else false

/-- The range check of a KEY_WRITE (R308, R309). -/
def keyWriteOk (b : Octets) : Bool :=
  let slot := octetAt b 0
  let type := octetAt b 1
  let len := fieldN b 2 2
  let material := octets b 8 len
  let suits := if 0x10 ≤ slot ∧ slot ≤ 0x2F then type == 1 || type == 2 || type == 4
    else if 0x50 ≤ slot ∧ slot ≤ 0x5F then decide (5 ≤ type ∧ type ≤ 7) else false
  suits && b.length == 8 + len && (len == 0 || (lengthSuits type len && (type == 7 || typeAlg type == 0 || scalarOk (typeAlg type) material)))

/-- The classes that may request an operation (R317). -/
def opClasses (op : VaultOp) : List PortClass := match op with
  | .sign | .ecdh | .generate | .derive => [.hostH]
  | .verify => [.hostH, .hosth]
  | .proof | .chalIssue | .chalRespond => [.hostH, .mgmtM, .twinT]
  | .attest => [.hostH, .hosth, .mgmtM, .twinT]

/-- An operation for the public-key engine (R318, R325). -/
def engineOp (op : VaultOp) : Bool := match op with
  | .sign | .verify | .ecdh | .attest => true
  | _ => false

/-- VLT cycles of an operation (R325): 0 sign, 1 verify, 2 ECDH or key computation. -/
def pkCycles (what alg : Nat) : Nat :=
  if what = 0 then (if alg = 1 then 67200 else if alg = 2 then 131200 else 51200)
  else if what = 1 then (if alg = 1 then 83200 else if alg = 2 then 166400 else 76800)
  else (if alg = 1 then 64000 else if alg = 2 then 128000 else 48000)

/-- The reply of an operation: the header with OP + 0x8000 and STATUS, and a body (R316). -/
def vaultReply (op : VaultOp) (m : VaultMsg) (code : Nat) (body : Octets) : Octets :=
  toBE 2 (op.code + 0x8000) ++ toBE 1 m.slot ++ toBE 1 m.alg ++ toBE 4 m.tag ++ toBE 2 body.length ++ toBE 1 m.dst ++ [0] ++
    toBE 2 code ++ [0, 0] ++ body

/-- The octets of a request (R316). -/
def vaultRequest (op : VaultOp) (m : VaultMsg) : Octets :=
  toBE 2 op.code ++ toBE 1 m.slot ++ toBE 1 m.alg ++ toBE 4 m.tag ++ toBE 2 m.body.length ++ toBE 1 m.dst ++ zeros 5 ++ m.body

/-- The octets of a mint request (R301). -/
def mintRequest (m : MintMsg) : Octets :=
  toBE 2 0x0101 ++ toBE 1 m.count ++ [0] ++ toBE 2 m.aead ++ [0, 0] ++ toBE 4 m.tag ++ zeros 4 ++ padTo 32 m.c2s ++ padTo 32 m.s2c

/-- An operation arrived early enough for the W3 of tick `t` (R318, R320). -/
def dueIn (t : Nat) (op : VaultOp) (src : MsgSource) : Bool :=
  if op = .chalRespond then decide (src.tick < t) else decide (src.tick < t) || !src.late

/-- Order of ingress instants, then port numbers (R320). -/
def ingressLt (a b : MsgSource) : Bool :=
  decide (a.tick < b.tick) || (a.tick == b.tick && (decide (a.subtick < b.subtick) || (a.subtick == b.subtick && decide (a.carrier.port < b.carrier.port))))

namespace State

/-- An operation answered, and counted as completed (R316, R318). -/
def vaultAnswer (s : State) (op : VaultOp) (m : VaultMsg) (code : Nat) (body : Octets) : State :=
  (s.inc Obj.vaultOps).reply m.src code (vaultReply op m code body)

/-- What a slot answers before anything else: 0x0212 FAILED, 0x0210 empty, 0 otherwise (R314, R319).
(Log entry 67, DEDUCED) -/
def slotCode (s : State) (k : Nat) : Nat :=
  let v := s.slot k
  if v.state = 3 then 0x0212 else if v.content.isEmpty then 0x0210 else 0

/-- BOOT_DIGEST, 48 octets. -/
def bootDigest (s : State) : Octets := padTo 48 (s.blob Obj.bootDigest)

/-- TAMPER_COUNT as JOURNAL_WRAP takes it: 0xFF once all 32 fuses are used (R324). -/
def tamperOctet (s : State) : Octets := let n := s.n Obj.tamperCount; toBE 1 (if 32 ≤ n then 0xFF else n)

/-- A slot's proof over a challenge (R319). -/
def proofMac (s : State) (k : Nat) (c : Octets) : Octets := padTo 32 (Config.hmac256 (s.slot k).content (tagFkvp ++ toBE 1 k ++ c))

/-- A challenge outstanding: neither consumed nor past its EXPIRY_TICK (R320). -/
def challengesOut (s : State) : Nat := (s.vault.challenges.filter fun c => decide (s.tick ≤ c.expiry)).length

/-- PROOF (R319). (Log entry 68, DEDUCED) -/
def vaultProof (s : State) (m : VaultMsg) : State :=
  if m.slot = 7 then s.vaultAnswer .proof m 0x0213 []
  else if s.slotCode m.slot ≠ 0 then s.vaultAnswer .proof m (s.slotCode m.slot) []
  else (s.inc Obj.proofsAnswered).vaultAnswer .proof m 0 (s.proofMac m.slot m.body)

/-- CHAL_ISSUE (R319, R320). (Log entry 69, DESIGN CHOICE) -/
def chalIssue (s : State) (m : VaultMsg) : State :=
  if s.slotCode m.slot ≠ 0 then s.vaultAnswer .chalIssue m (s.slotCode m.slot) []
  else if s.vault.entropyFailed then s.vaultAnswer .chalIssue m 0x0215 []
  else if 64 ≤ s.challengesOut then s.vaultAnswer .chalIssue m 0x0224 []
  else
    let nonce := padTo 32 (Config.freeOctets s.sys.free 32)
    let c : Challenge := ⟨s.vault.nextChal % 2 ^ 32, m.slot, nonce, s.tick + s.n Obj.chalLifetimeTicks⟩
    let s1 := s.drew
    let s2 : State := { s1 with vault := { s1.vault with challenges := (s1.vault.challenges.filter fun x => x.id != c.id) ++ [c], nextChal := s1.vault.nextChal + 1 } }
    (s2.inc Obj.chalIssued).vaultAnswer .chalIssue m 0 (toBE 4 c.id ++ nonce ++ toBE 8 c.expiry)

/-- A pair-key proof accepted over Yethal in AUTH: the unit goes to SYNCING (R414, R415). -/
def pairProved (s : State) (m : VaultMsg) (slot : Nat) : State :=
  if m.src.carrier = .yethal ∧ slot = 3 ∧ s.o Obj.twinState = 3 then
    let s1 := s.setN Obj.twinState 4
    { s1 with twin := { s1.twin with since := s1.age } }
  else s

/-- CHAL_RESPOND: the first response consumes its challenge, whether it is valid or not (R320).
(Log entry 68, DEDUCED) -/
def chalRespond (s : State) (m : VaultMsg) : State :=
  let id := fieldN m.body 0 4
  match s.vault.challenges.find? fun c => c.id == id with
  | none =>
    if id < s.vault.nextChal then (s.inc Obj.chalStale).vaultAnswer .chalRespond m 0x0221 []
    else s.vaultAnswer .chalRespond m 0x0220 []
  | some c =>
    let s1 : State := { s with vault := { s.vault with challenges := s.vault.challenges.filter fun c => c.id != id } }
    if c.expiry < m.src.tick then (s1.inc Obj.chalExpired).vaultAnswer .chalRespond m 0x0222 []
    else if s.slotCode c.slot ≠ 0 then (s1.inc Obj.chalFailed).vaultAnswer .chalRespond m (s.slotCode c.slot) []
    else if octets m.body 4 32 = s.proofMac c.slot c.nonce then
      ((s1.inc Obj.chalAccepted).vaultAnswer .chalRespond m 0 []).pairProved m c.slot
    else (s1.inc Obj.chalFailed).vaultAnswer .chalRespond m 0x0223 []

/-- A public-key job put behind the others. -/
def addJob (s : State) (j : PkJob) : State := { s with vault := { s.vault with jobs := s.vault.jobs ++ [j] } }

/-- GENERATE: the key is made at once, and its public key by the engine, whose reply answers the request (R311, R312,
R317, R318). (Log entry 69, DESIGN CHOICE) -/
def vaultGenerate (s : State) (m : VaultMsg) : State :=
  if m.slot < 0x50 ∨ 0x5F < m.slot ∨ m.alg = 0 ∨ 3 < m.alg then s.vaultAnswer .generate m 0x0211 []
  else if s.vault.entropyFailed then s.vaultAnswer .generate m 0x0215 []
  else
    let raw := Config.freeOctets s.sys.free (candidateLen m.alg)
    let key := if m.alg = 3 then padTo 32 raw else candidateKey m.alg raw
    let s1 := s.drew.fillSlot m.slot (m.alg + 4) 2 key [] 0
    let j : PkJob := { msg := some (.generate, m), slot := m.slot, cycles := pkCycles 2 m.alg, code := 0, body := [], alg := m.alg
                       tick := m.src.tick, subtick := m.src.subtick }
    (s1.addJob j).markServing m.src

/-- The octets of a symmetric key derived by HKDF, by type: 16, 32 or, for an HMAC secret, 32. -/
def derivedLen (type : Nat) : Nat := if type = 1 then 16 else 32

/-- DERIVE (R311, R317). (Log entry 68, DEDUCED) -/
def vaultDerive (s : State) (m : VaultMsg) : State :=
  if m.dst < 0x30 ∨ 0x4F < m.dst ∨ m.alg ≠ 0 ∨ !(m.slot == 1 || m.slot == 2 || m.slot == 4) then s.vaultAnswer .derive m 0x0211 []
  else
    let n := derivedLen m.slot
    let key := padTo n (Config.hkdf s.bootDigest Config.rootSecret (tagFkv1 ++ toBE 1 m.dst ++ m.body) n)
    (s.fillSlot m.dst m.slot 3 key [] 0).vaultAnswer .derive m 0 []

/-- The report of ATTEST (R322). -/
def attestReport (s : State) (k : Nat) (nonce : Octets) : Octets :=
  let v := s.slot k
  let commit := if typeAlg v.type ≠ 0 then padTo 32 (Config.sha256 v.pub) else padTo 32 (Config.hmac256 v.content (tagFkvk ++ nonce))
  tagFkva ++ [1] ++ toBE 1 k ++ toBE 1 v.type ++ toBE 1 v.origin ++ zeros 4 ++ toBE 4 v.gen ++ toBE 4 v.keyId ++ toBE 8 s.tick ++
    nonce ++ commit ++ zeros 4

/-- A public-key operation as the engine takes it: an answer at once where its slot or its algorithm does not serve, or a job
with its outcome (R317, R325, R326). -/
def engineJob (s : State) (op : VaultOp) (m : VaultMsg) : Nat ⊕ PkJob :=
  let v := s.slot m.slot
  let base : PkJob := { msg := some (op, m), slot := m.slot, cycles := 0, code := 0, body := [] }
  match op with
  | .sign =>
    if s.slotCode m.slot ≠ 0 then .inl (s.slotCode m.slot)
    else if m.alg = 0 ∨ typeAlg v.type ≠ m.alg then .inl 0x0211
    else
      let ok := scalarOk m.alg v.content
      let sig := padTo (sigLen m.alg) (pkSignature m.alg v.content m.body)
      .inr { base with cycles := pkCycles 0 m.alg, code := if ok then 0 else 0x0201, body := if ok then sig else [] }
  | .verify =>
    if m.alg = 0 ∨ 3 < m.alg then .inl 0x0211
    else
      let pub := octets m.body 0 97
      let sig := octets m.body 97 (sigLen m.alg)
      .inr { base with cycles := pkCycles 1 m.alg, code := pkVerify m.alg pub sig (m.body.drop (97 + sigLen m.alg)) }
  | .ecdh =>
    if s.slotCode m.slot ≠ 0 then .inl (s.slotCode m.slot)
    else if !(m.alg == 1 || m.alg == 2) || typeAlg v.type ≠ m.alg || !(m.dst == 3 || decide (0x30 ≤ m.dst ∧ m.dst ≤ 0x4F)) then .inl 0x0211
    else
      let pub := octets m.body 0 97
      let c := if !scalarOk m.alg v.content then 0x0201 else pointCheck m.alg pub
      let b := { base with cycles := pkCycles 2 m.alg }
      if c ≠ 0 then .inr { b with code := c }
      else match pkShared m.alg v.content pub with
        | none => .inr { b with code := 0x0204 }
        | some x =>
          let info := tagFkv1 ++ [0xEC] ++ toBE 1 m.dst ++ m.body.drop 97
          let key := padTo 32 (Config.hkdf s.bootDigest (padTo (coordLen m.alg) x) info 32)
          .inr { b with key := some (m.dst, key) }
  | _ =>
    if !attestable m.slot then .inl 0x0225
    else if s.slotCode m.slot ≠ 0 then .inl (s.slotCode m.slot)
    else if s.slotCode 1 ≠ 0 then .inl (s.slotCode 1)
    else
      let rep := s.attestReport m.slot (padTo 32 m.body)
      let sig := padTo 96 (pkSignature 2 (s.slot 1).content (Config.sha384 rep))
      .inr { base with cycles := pkCycles 0 2, body := rep ++ sig }

/-- The lengths of a message suit its operation (R317). (Log entry 67, DEDUCED) -/
def bodyOk (op : VaultOp) (m : VaultMsg) : Bool :=
  let n := m.body.length
  match op with
  | .sign => if m.alg = 3 then decide (n ≤ 1024) else n == 32 || n == 48
  | .verify =>
    let head := 97 + sigLen m.alg
    if m.alg = 3 then decide (head ≤ n ∧ n ≤ head + 1024) else n == head + 32 || n == head + 48
  | .ecdh => decide (97 ≤ n ∧ n ≤ 161)
  | .derive => decide (n ≤ 64)
  | .proof | .attest => n == 32
  | .chalRespond => n == 36
  | .generate | .chalIssue => n == 0

/-- The mailbox channel of a message, if it came by one. -/
def chanOf (src : MsgSource) : Option Nat := match src.carrier with | .mailbox k => some k.val | _ => none

/-- A vault message taken: refused on the mint channel, from a class that the operation does not list, in BOOT or outside READY,
with a body that does not suit it, or with the queue full; otherwise queued (R301, R315, R317, R318, R348).
(Log entry 67, DEDUCED) -/
def vaultJudge (s : State) (op : VaultOp) (m : VaultMsg) : State :=
  let onMint := match chanOf m.src with | some k => s.isMint k | none => false
  let no (code : Nat) : State := s.reply m.src code (vaultReply op m code [])
  let add : State := { s with vault := { s.vault with queue := s.vault.queue ++ [(op, m)] } }
  if !s.serving then add
  else if onMint then no 0x0011
  else if !s.running then no 0x0226
  else if !(opClasses op).contains m.src.carrier.cls then no 0x0213
  else if s.o Obj.vaultState != 2 then no 0x0226
  else if !(bodyOk op m && lenAgrees m.src (16 + m.body.length)) then no 0x0012
  else if 256 ≤ s.vault.queue.length then (s.inc Obj.opQueueFull).reply m.src 0x0214 (vaultReply op m 0x0214 [])
  else add

/-- A vault message arrives. (Log entry 67, DEDUCED) -/
def vaultArrive (s : State) (op : VaultOp) (m : VaultMsg) : State :=
  let (s1, took) := s.accept m.src
  if took then (s1.placeRequest m.src (vaultRequest op m)).vaultJudge op m else s1

/-- A mint request taken on a mailbox channel: it waits in RESET and HALTED, is refused off the mint channel and in BOOT, and else is
queued (R301, R302, R348). (Log entry 25, DEDUCED) -/
def mintJudge (s : State) (m : MintMsg) : State :=
  let k := (chanOf m.src).getD 0
  let add : State := { s with vault := { s.vault with mints := s.vault.mints ++ [m] } }
  if !s.serving then add
  else if 8 ≤ k then s.reply m.src 0x0104 []
  else if !s.isMint k then s.reply m.src 0x0011 []
  else if !s.running then s.reply m.src 0x0013 []
  else if !lenAgrees m.src 80 then s.reply m.src 0x0012 []
  else add

/-! ### The work of W3 (R318, R325) -/

/-- The result of the engine posted: outcome counted, key or public key stored, reply sent (R325, R326).
(Log entry 68, DEDUCED) -/
def collectEngine (s : State) : State := match s.vault.engine with
  | some j =>
    if !j.done then s
    else
      let idx := if j.code = 0 then 0 else if j.code = 0x0205 then 5 else j.code - 0x0200
      let s1 : State := { s with vault := { s.vault with engine := none } }
      let s2 := s1.inc (Obj.pkOutcomes idx)
      let s3 := match j.key with | some (d, k) => s2.fillSlot d 4 3 k [] 0 | none => s2
      let s4 := match j.pub with
        | some (p, gen) => if (s3.slot j.slot).gen = gen then s3.setSlot j.slot { s3.slot j.slot with pub := p } else s3
        | none => s3
      match j.msg with
      | some (op, m) => s4.vaultAnswer op m j.code j.body
      | none => s4
  | none => s

/-- The queue with the responses due put in the order of their ingress (R320). -/
def orderResponses (t : Nat) (q : List (VaultOp × VaultMsg)) : List (VaultOp × VaultMsg) :=
  let isDue (x : VaultOp × VaultMsg) : Bool := x.1 == .chalRespond && dueIn t x.1 x.2.src
  let sorted := sortBy (fun (a b : VaultOp × VaultMsg) => ingressLt a.2.src b.2.src) (q.filter isDue)
  (q.foldl (fun (a : List (VaultOp × VaultMsg) × List (VaultOp × VaultMsg)) x =>
    if isDue x then match a.2 with | y :: rest => (a.1 ++ [y], rest) | [] => (a.1 ++ [x], [])
    else (a.1 ++ [x], a.2)) ([], sorted)).1

/-- One operation that W3 itself completes. (Log entry 68, DEDUCED) -/
def vaultOne (s : State) (op : VaultOp) (m : VaultMsg) : State := match op with
  | .proof => s.vaultProof m
  | .chalIssue => s.chalIssue m
  | .chalRespond => s.chalRespond m
  | .generate => s.vaultGenerate m
  | .derive => s.vaultDerive m
  | _ => s

/-- The queue walked in order within the limits of R318: 16 proofs and challenges, 4 generations and derivations. -/
def vaultQueue (s : State) (room : Nat) : State × Nat :=
  let q := orderResponses s.tick s.vault.queue
  let t := s.tick
  let s0 : State := { s with vault := { s.vault with queue := [] } }
  let r := q.foldl (fun (a : State × Nat × Nat × List (VaultOp × VaultMsg)) x =>
    let (s, n, g, left) := a
    let small := x.1 == .generate || x.1 == .derive
    if engineOp x.1 || !dueIn t x.1 x.2.src || !s.reachable x.2.src || decide (room ≤ n + g) then (s, n, g, left ++ [x])
    else if small then (if g < 4 then (s.vaultOne x.1 x.2, n, g + 1, left) else (s, n, g, left ++ [x]))
    else if n < 16 then (s.vaultOne x.1 x.2, n + 1, g, left) else (s, n, g, left ++ [x])) (s0, 0, 0, [])
  let s1 := r.1
  ({ s1 with vault := { s1.vault with queue := r.2.2.2 } }, room - (r.2.1 + r.2.2.1))

/-- A mint request answered (R301). -/
def mintOne (s : State) (m : MintMsg) : State :=
  let keys := s.keySetAt s.tick
  match keys with
  | k :: _ =>
    let (s1, cs) := sealCookies k m.c2s m.s2c m.count s
    let body := toBE 2 0x8101 ++ toBE 1 m.count ++ [0] ++ toBE 4 m.tag ++ toBE 4 k.1 ++ zeros 4 ++ cs.flatten
    (s1.addN Obj.ntsCookiesMinted m.count).reply m.src 0 body
  | [] => s.reply m.src 0x0103 []

/-- Mint requests served whole in order, within MINT_PER_TICK; one that does not fit holds those behind it (R302). -/
def mintQueue (s : State) (items : Nat) : State :=
  let t := s.tick
  let s0 : State := { s with vault := { s.vault with mints := [] } }
  let r := (s.vault.mints.take items).foldl (fun (a : State × Nat × Bool × List MintMsg) m =>
    let (s, room, stop, left) := a
    let bad := if m.aead ≠ 15 then 0x0101 else if m.count = 0 ∨ 8 < m.count then 0x0102 else if (s.keySetAt s.tick).isEmpty then 0x0103 else 0
    if !s.reachable m.src then (s, room, stop, left ++ [m])
    else if stop || !(decide (m.src.tick < t) || !m.src.late) then (s, room, true, left ++ [m])
    else if bad ≠ 0 then (s.reply m.src bad [], room, false, left)
    else if m.count ≤ room then (s.mintOne m, room - m.count, false, left)
    else (s, room, true, left ++ [m])) (s0, s.n Obj.mintPerTick, false, [])
  let s1 := r.1
  { s1 with vault := { s1.vault with mints := r.2.2.2 ++ s.vault.mints.drop items } }

/-- The vault's part of W3: the engine's result, the queue, minting, and one step of a re-masking pass (R313, R318).
(Log entry 19, DEDUCED) -/
def vaultW3 (s : State) (keys : Option Nat) : State :=
  let (s0, left) := s.collectEngine.vaultQueue (keys.getD (s.vault.queue.length + s.vault.mints.length))
  let s1 := s0.mintQueue left
  if s1.vault.remask = 0 ∨ (3 ≤ s1.mode ∧ s1.mode ≤ 5) then s1
  else
    let s2 : State := { s1 with vault := { s1.vault with remask := s1.vault.remask - 1 } }
    if s2.vault.remask = 0 then s2.inc Obj.remaskPasses else s2

/-- A job with the public key of its slot, as the engine takes it. -/
def pubJob (s : State) (j : PkJob) : PkJob :=
  let v := s.slot j.slot
  let p := padTo 97 (publicKey j.alg v.content)
  { j with pub := some (p, v.gen), body := if j.msg.isSome then p else [] }

/-- The engine takes the oldest waiting operation; one that its slot or algorithm turns away is answered at once, and the next
is taken (R318, R325). -/
def startEngine : Nat → State → State
  | 0, s => s
  | n + 1, s =>
    let job := s.vault.jobs.head?
    let op := s.vault.queue.find? fun x => engineOp x.1 && dueIn s.tick x.1 x.2.src
    let jobFirst := match job, op with
      | some j, some (_, m) => decide (j.tick < m.src.tick ∨ (j.tick = m.src.tick ∧ j.subtick ≤ m.src.subtick))
      | some _, none => true
      | none, _ => false
    if jobFirst then
      match job with
      | some j => { s with vault := { s.vault with engine := some (s.pubJob j), jobs := s.vault.jobs.drop 1 } }
      | none => s
    else match op with
      | some (o, m) =>
        let i := s.vault.queue.findIdx fun x => engineOp x.1 && dueIn s.tick x.1 x.2.src
        let s1 : State := { s with vault := { s.vault with queue := s.vault.queue.eraseIdx i } }
        match s.engineJob o m with
        | .inl code => startEngine n (s1.vaultAnswer o m code [])
        | .inr j =>
          let s2 := s1.markServing m.src
          { s2 with vault := { s2.vault with engine := some j } }
      | none => s

/-! ### Key writes (R308, R309) -/

/-- The slot is named in a PTP security association. -/
def saNames (s : State) (k : Nat) : Bool := (List.range 16).any fun j =>
  let b := s.blob (Obj.ptpSa j)
  octetAt b 0 == 1 && (octetAt b 2 == k || octetAt b 3 == k)

/-- A KEY_WRITE accepted: the slot is PENDING until the boundary at which the write applies (R309, R60). -/
def keyWriteTake (s : State) (b : Octets) : State :=
  let k := octetAt b 0
  let w : KeyWrite := ⟨if s.sys.window = .w3 then 2 else 1, k, octetAt b 1, octets b 8 (fieldN b 2 2)⟩
  let s1 : State := { s with vault := { s.vault with writes := s.vault.writes ++ [w] } }
  s1.setSlot k { s1.slot k with state := 2 }

/-- One applied key write of the boundary that begins tick `t` (R309, R318). (Log entry 71, DEDUCED) -/
def keyWriteOne (s : State) (t : Nat) (w : KeyWrite) : State :=
  let s1 := (s.fillSlot w.slot w.type 1 w.material [] 0).inc Obj.keyWrites
  let more := s1.vault.writes.any fun x => x.slot == w.slot
  let s2 := if more then s1.setSlot w.slot { s1.slot w.slot with state := 2 } else s1
  let s3 := s2.reloadLanes w.slot
  if typeAlg w.type ≠ 0 ∧ w.material ≠ [] then
    let j : PkJob := { msg := none, slot := w.slot, cycles := pkCycles 2 (typeAlg w.type), code := 0, body := [], alg := typeAlg w.type, tick := t }
    s3.addJob j
  else s3

/-- The key writes due at the boundary that ends the tick, in record order (R60, R309, R318).
(Log entry 71, DEDUCED) -/
def keyWritesApply (s : State) : State :=
  let due := s.vault.writes.filter fun w => decide (w.wait ≤ 1)
  let s1 : State := { s with vault := { s.vault with writes := s.vault.writes.filter fun w => decide (1 < w.wait) } }
  due.foldl (fun s w => s.keyWriteOne s.nextTick w) s1

/-! ### Boot, tamper (R310–R315, R321–R324) -/

/-- Keys of INIT: DEVICE_ID, ATTEST, JOURNAL_WRAP, and the certificate that DEVICE_ID signs (R311, R321). -/
def bootKeys (s : State) : State :=
  let wide (salt info : Octets) : Octets := candidateKey 2 (padTo 80 (Config.hkdf salt Config.rootSecret info 80))
  let dev := wide (zeros 48) (tagFkv1 ++ [0])
  let att := wide s.bootDigest (tagFkv1 ++ [1])
  let wrap := padTo 32 (Config.hkdf s.bootDigest Config.rootSecret (tagFkv1 ++ [7] ++ s.tamperOctet) 32)
  let pub (k : Octets) : Octets := padTo 97 (publicKey 2 k)
  let s1 := ((s.fillSlot 0 6 4 dev (pub dev) 0).fillSlot 1 6 4 att (pub att) 0).fillSlot 7 2 4 wrap [] 0
  let head := tagFkvc ++ [1] ++ toBE 1 (s.n Obj.tamperCount) ++ [0, 0] ++ s.bootDigest ++ pub att
  let sig := padTo 96 (pkSignature 2 dev (Config.sha384 head))
  (s1.setBlob Obj.attestCert (head ++ sig)).setBlob Obj.deviceIdPublic (pub dev)

/-- Every key, lane register, engine register and intermediate destroyed; the vault is ZEROISED (R315, R323). -/
def zeroise (s : State) : State :=
  let s1 := (List.range 96).foldl (fun s k =>
    if (s.slot k).content.isEmpty && (s.slot k).state == 0 then s else s.setSlot k { gen := genGone (s.slot k) }) s
  let s2 : State := { s1 with
    vault := { s1.vault with queue := [], mints := [], jobs := [], engine := none, writes := [], challenges := [] }
    serv := { s1.serv with saKeys := [], keySets := [] }
    twin := { s1.twin with keys := [] } }
  s2.setN Obj.vaultState 3

/-- TWIN_PAIR and the first cookie key, at entry to WARMUP (R296, R306, R315). -/
def warmupKeys (s : State) : State :=
  let key := candidateKey 1 (Config.freeOctets s.sys.free 64)
  let s1 := s.drew.fillSlot 2 5 2 key (padTo 97 (publicKey 1 key)) 0
  s1.firstCookieKey

/-- The recovery pass at entry to WARMUP or REPLAY (R313). (Log entry 29, DEDUCED) -/
def recoveryRemask (s : State) : State :=
  if s.vault.recovery then { s with vault := { s.vault with recovery := false, remask := 8 } } else s

end State

/-! ### Commands -/

/-- KEY_WRITE: a clear-text key write (R308, R309); on a class other than H it is refused at the dictionary. -/
def execKeyWrite (cls : PortClass) (blob : Octets) (s : State) : Host.Outcome State Fault Refusal :=
  if cls ≠ .hostH ∨ s.running = false ∨ s.o Obj.vaultState ≠ 2 then .next s
  else if s.joined && !s.flag Obj.twinOwn && s.saNames (octetAt blob 0) then .next s
  else if keyWriteOk blob then .next (s.keyWriteTake blob)
  else .next (s.inc Obj.keyWriteRefused)

/-- KEY_WRITE_APPLY: at the end of a tick, the accepted key writes due at its boundary apply; the boundary itself then finds none
left (R309). -/
def execKeyWriteApply (s : State) : Host.Outcome State Fault Refusal :=
  if s.running && s.sys.window == .w3 then .next s.keyWritesApply else .next s

/-- REMASK_REQUEST: 1 is written to 0x8000:08 (R313). -/
def execRemaskRequest (cls : PortClass) (s : State) : Host.Outcome State Fault Refusal :=
  if cls = .hostH ∧ (s.mode = mWarmup ∨ s.mode = mReplay) then .next (s.addDue false .remask) else .next s

/-- ENTROPY_HEALTH_FAIL: a health test of the entropy source fails (R312). (Log entry 27, DEDUCED) -/
def execEntropyHealthFail (s : State) : Host.Outcome State Fault Refusal :=
  if !s.alive then .next s
  else
    let s1 : State := { s with vault := { s.vault with entropyFailed := true } }
    .next ((s1.inc Obj.entropyFails).faulted 0x0803 0 0)

/-- ENTROPY_RESTART_PASS: the restarted source passes its start-up test (R312). -/
def execEntropyRestartPass (s : State) : Host.Outcome State Fault Refusal :=
  .next { s with vault := { s.vault with entropyFailed := false } }

/-- PK_SIGN (R317). -/
def execPkSign (m : VaultMsg) (s : State) : Host.Outcome State Fault Refusal := .next (s.vaultArrive .sign m)

/-- PK_VERIFY (R317, R326). -/
def execPkVerify (m : VaultMsg) (s : State) : Host.Outcome State Fault Refusal := .next (s.vaultArrive .verify m)

/-- PK_ECDH (R317). -/
def execPkEcdh (m : VaultMsg) (s : State) : Host.Outcome State Fault Refusal := .next (s.vaultArrive .ecdh m)

/-- GENERATE (R317). -/
def execGenerate (m : VaultMsg) (s : State) : Host.Outcome State Fault Refusal := .next (s.vaultArrive .generate m)

/-- DERIVE (R311, R317). -/
def execDerive (m : VaultMsg) (s : State) : Host.Outcome State Fault Refusal := .next (s.vaultArrive .derive m)

/-- PROOF (R319). -/
def execProof (m : VaultMsg) (s : State) : Host.Outcome State Fault Refusal := .next (s.vaultArrive .proof m)

/-- CHAL_ISSUE (R319). -/
def execChalIssue (m : VaultMsg) (s : State) : Host.Outcome State Fault Refusal := .next (s.vaultArrive .chalIssue m)

/-- CHAL_RESPOND: captured in its tick, judged in W3 of the next (R320). -/
def execChalRespond (m : VaultMsg) (s : State) : Host.Outcome State Fault Refusal := .next (s.vaultArrive .chalRespond m)

/-- ATTEST (R322). -/
def execAttest (m : VaultMsg) (s : State) : Host.Outcome State Fault Refusal := .next (s.vaultArrive .attest m)

/-- PK_ENGINE_START: the first VLT cycle of a W3 in which the engine is free (R325). -/
def execPkEngineStart (s : State) : Host.Outcome State Fault Refusal :=
  if s.sys.window = .w3 ∧ s.vault.engine.isNone = true ∧ s.o Obj.vaultState = 2 then
    .next (State.startEngine (s.vault.queue.length + 1) s)
  else .next s

/-- PK_ENGINE_COMPLETE: the operation's fixed time ends; its result is posted in the next W3 (R325). -/
def execPkEngineComplete (s : State) : Host.Outcome State Fault Refusal :=
  .next { s with vault := { s.vault with engine := s.vault.engine.map fun j => { j with done := true } } }

/-- A tamper event: the keys erased, the latch set, the fuse due, and outside RESET the fault (R323). -/
def State.tamper (s : State) : State :=
  let s1 := s.zeroise
  let s2 : State := { s1 with vault := { s1.vault with tampered := true, fuseDue := true } }
  if s2.alive then s2.faulted 0x0805 0 0 else s2

/-- TAMPER_EVENT: TAMPER_N low for 100 ns while PWR_OK is high (R323). -/
def execTamperEvent (s : State) : Host.Outcome State Fault Refusal :=
  if s.sys.pwrOk then .next s.tamper else .next s

/-- TAMPER_FUSE_PROGRAMMED: the next of the 32 tamper-count fuses is programmed (R324). -/
def execTamperFuseProgrammed (s : State) : Host.Outcome State Fault Refusal :=
  if s.vault.fuseDue && s.sys.pwrOk then
    let s1 : State := { s with vault := { s.vault with fuseDue := false } }
    .next (s1.setN Obj.tamperCount (min 32 (s1.n Obj.tamperCount + 1)))
  else .next s

/-- The vault READY: its self-tests passed, and its keys made (R300, R313, R315). -/
def State.vaultReady (s : State) : State :=
  let s1 : State := { s with vault := { s.vault with recovery := false } }
  (s1.inc Obj.remaskPasses).bootKeys.setN Obj.vaultState 2

/-- VAULT_INIT_COMPLETE: re-mask, known-answer tests, derivations and certificate done; `failed` is the unit whose test
failed, or the latch holds and nothing is derived (R313, R315, R321). -/
def execVaultInitComplete (failed : Option (Fin 4)) (s : State) : Host.Outcome State Fault Refusal :=
  if s.mode ≠ mBoot ∨ s.o Obj.vaultState ≠ 1 then .next s
  else match failed with
    | some u => .next (s.zeroise.faulted 0x0804 u.val 0)
    | none =>
      if s.vault.tampered then .next s.zeroise
      else .next s.vaultReady

/-- NTS_MINT_REQUEST: a message of OP 0x0101 on a mailbox channel (R301, R302). -/
def execNtsMintRequest (m : MintMsg) (s : State) : Host.Outcome State Fault Refusal :=
  match State.chanOf m.src with
  | none => .next s
  | some _ =>
    let (s1, took) := s.accept m.src
    .next (if took then (s1.placeRequest m.src (mintRequest m)).mintJudge m else s1)

end Sys2Proof.Machine
end

