-- ==== Sys2Proof/Machine/Twin.lean ====
section
/-!
DEFINITION. Twin operation: the join, the agreement of every tick, the timing pair, the shadow, and the passing of OWN
(R412–R443), with the commands of the pair but TWIN_JOIN_BOUNDARY, which installs configuration.
-/

namespace Sys2Proof.Machine

/-- The sample standard deviation of offsets in 2^-32 ns, in 2^-8 ps rounded up; at least 256 units (R421). -/
def pairSpread (l : List Int) : Nat :=
  let n : Int := l.length
  if l.length < 2 then 256
  else
    let sum := sumI l
    let ss := sumN (l.map fun x => (x * n - sum).natAbs * (x * n - sum).natAbs)
    max 256 (isqrtUp (ceilDiv (ss * 256000 * 256000) (2 ^ 64 * (n * n * (n - 1)).toNat)))

/-- Ages within a Canopy state moved by `d` (R422): the shadow's state counts in the ages of the unit that owns it. -/
def shiftAges (d : Int) (c : CanopyState) : CanopyState :=
  let at_ (n : Nat) : Nat := ((n : Int) + d).toNat
  let sum (x : Int × Int × Nat) : Int × Int × Nat := (x.1, x.2.1 + d * x.1, x.2.2)
  let mem (m : Member) : Member := { m with
    ctl := sum m.ctl, due := sum m.due, latent := m.latent.map fun x => (at_ x.1, x.2) }
  { c with
    members := c.members.map fun x => (x.1, mem x.2)
    lastObs := c.lastObs.map at_, epochAt := at_ c.epochAt, work := c.work.map fun w => { w with at_ := at_ w.at_ }
    hold := c.hold.map fun h => { h with entry := at_ h.entry, seg := { h.seg with start := at_ h.seg.start } }
    window := c.window.map fun x => (at_ x.1, x.2), planeStep := c.planeStep.map fun q => { q with known := at_ q.known }
    switched := c.switched.map fun x => (at_ x.1, x.2) }

/-- Octet strings compared octet by octet. -/
def octetsLt : Octets → Octets → Bool
  | [], [] => false
  | [], _ => true
  | _, [] => false
  | a :: s, b :: t => decide (a.toNat < b.toNat) || (a == b && octetsLt s t)

namespace State

/-! ### Canopy's inputs (R26, R422) -/

/-- The objects outside the ensemble that Canopy reads. -/
def canopyKeys (s : State) : List Nat :=
  let refs := (s.n Obj.selTCurrent :: s.declared.map fun m => (s.decl m).ref).filter fun id => classT id || classF id
  let ports := (s.declared.map fun m => (s.decl m).ref).filter fun id => decide (0x80 ≤ id)
  [Obj.timescaleSet, Obj.stepChargePs] ++ classTIds.map Obj.refState ++ (List.range 4).map Obj.dsteerState ++
    (refs.map fun id => [Obj.refState id, Obj.refBw id, Obj.refRandU id, Obj.refBoundPs id, Obj.refAcceptLimit id]).flatten ++
    ports.map fun id => Obj.tpNominalPeriod (id - 0x80)

/-- The inputs of the current tick, at the start of its W1. (Log entry 77, DEDUCED) -/
def inputsOf (s : State) : TwinInputs :=
  let sel := s.n Obj.selTCurrent
  let now : TsState := (s.sys.history.head?).getD { tick := s.tick, time := s.timeNow, plane := 0, len := 0, rateY := 0, bound := unbounded, source := 0 }
  let fits := s.declared.filterMap fun m =>
    let p := monitorPort (s.decl m).ref
    match (s.port p).ended with
    | some f => if f.tick = s.age then some (p, f) else none
    | none => none
  { coast := false, mode := s.mode.toNat, sel := sel, index := s.index, state := now, ingested := s.synth.ingested, fits := fits
    steer := s.declared.map (fun m => (m, (s.member m).applied)), view := s.canopyKeys.map (fun k => (k, s.o k))
    moved := s.canopy.touched || (s.index == 0 && s.canopy.touchedLast), tplLost := s.canopy.tplLost, planeStep := s.canopy.planeStep
    switched := match s.canopy.switched with | some (a, x) => if a = s.age then some x else none | none => none
    lost := s.stamp.tplLost, selTime := s.synth.selTime, before := (s.sys.history.getD 1 now).bound
    stepped := if s.sys.realignTick then some (s.sys.lastStep, s.sys.follow == .first) else none
    age := s.age, ref := s.ref sel, step := s.synth.step, conflict := s.synth.conflictPs, charge := s.twin.charge
    forced := s.sys.forceUnbounded || s.stamp.tplLost
    xo := s.o Obj.tickSource == 0 }

/-- The objects that a run on given inputs takes from them. -/
def inputObjs (x : TwinInputs) : List (Nat × Int) :=
  let own : List (Nat × Int) :=
    [(Obj.modeCurrent, (x.mode : Int)), (Obj.tickIndex, (x.index : Int)), (Obj.tickCount, (x.state.tick : Int)), (Obj.boundNow, (x.state.bound : Int)),
     (Obj.timeNow, x.state.time), (Obj.selTCurrent, (x.sel : Int)), (Obj.servoRateY, x.state.rateY)]
  x.view ++ own

/-- The state as Canopy sees it on given inputs. -/
def project (s : State) (x : TwinInputs) : State :=
  let s1 := (inputObjs x).foldl (fun s p => s.setO p.1 p.2) s
  let s2 := x.fits.foldl (fun s p => s.setPort p.1 { s.port p.1 with ended := some { p.2 with tick := x.age } }) s1
  let s3 := s2.setRef x.sel x.ref
  { s3 with
    sys := { s3.sys with history := [x.state], warmupTick := x.age, nextTime := x.state.time + tickUnits, step := none
                         forceUnbounded := x.forced, coast := false, realignTick := x.stepped.isSome }
    synth := { s3.synth with selTime := x.selTime, ingested := x.ingested, planeMoved := x.moved, step := x.step, conflictPs := x.conflict }
    stamp := { s3.stamp with tplLost := x.lost }
    canopy := { s3.canopy with planeStep := x.planeStep, switched := x.switched.map fun q => (x.age, q) }
    twin := { s3.twin with master := true, charge := x.charge } }

/-- What a run projected is put back; a run that halted the device keeps what it stopped. -/
def unproject (s0 s : State) (x : TwinInputs) : State :=
  if s.fault.frozen && !s0.fault.frozen then
    { s with sys := { s.sys with history := s0.sys.history, warmupTick := s0.sys.warmupTick }, twin := s0.twin, stamp := s0.stamp }
  else
    let s1 := (inputObjs x).foldl (fun s p => s.setO p.1 (s0.o p.1)) s
    let sys : SysState := { s0.sys with free := s.sys.free, coastRun := s.sys.coastRun }
    { s1 with sys := sys, synth := s0.synth, stamp := s0.stamp, twin := { s.twin with master := s0.twin.master, charge := s0.twin.charge } }

/-- What a tick of the ensemble takes at its boundary: the length of the tick, applied steering, a lost clock of the plane, a step and a switch. -/
def canopyInputs (s : State) (x : TwinInputs) : State :=
  let s0 := (s.takeLength x.xo (tickSpan x.state.time x.stepped.isSome)).1
  let s1 := x.steer.foldl (fun s p => s.steerApplied p.1 p.2) s0
  let s2 := if x.tplLost && !s1.canopy.tplLost then s1.unanchor else s1
  let s3 := match x.stepped with | some (d, first) => s2.canopyStepped d first | none => s2
  s3.takeSwitched.canopyBoundary

/-- The ensemble enters or leaves its holdover with the mode of the device (R215, R220). -/
def holdoverMode (s : State) (x : TwinInputs) (was : Bool) : State :=
  (if x.mode = 5 ∧ !was then s.enterHoldover x.before else if x.mode ≠ 5 ∧ was then s.leaveHoldover (decide (x.mode = 4)) else s)
    |>.holdNow.holdBegins

/-- W1 of a tick that does not coast: the observations, a first setting, the servo, the slot of the ensemble and the bound (R204–R221, R226). -/
def canopyUpdate (s : State) : State :=
  let s1 := { s with sys := { s.sys with coastRun := 0 } }.takeObservations
  let s2 := if s1.firstSettingDue then s1.requestFirst else s1
  s2.servoTick.ensembleSlot.publishCoast.coreBound

/-- One tick of Canopy on given inputs, boundary and W1, by the live arithmetic (R422, R456). -/
def canopyTick (s : State) (x : TwinInputs) : State :=
  let s1 := (s.canopyInputs x).holdoverMode x s.canopy.hold.isSome
  if x.coast then s1.coastBound.discardEpoch else s1.canopyUpdate

/-- A run of Canopy on inputs that are not the unit's own. -/
def runInputs (s : State) (x : TwinInputs) : State := unproject s ((s.project x).canopyTick x) x

/-! ### The shadow (R422, R423) -/

/-- The Canopy state as the shadow holds it, with its servo and its ages counted from `frame`. -/
def withShadow (s : State) (frame : Int) : State :=
  let c := shiftAges (frame - s.twin.frame) (putServo s.twin.shadow s.canopy)
  ({ s with canopy := c, twin := { s.twin with frame := frame } }).putServoObjs s.twin.shadowObjs

/-- The unit's own servo put back beside the shadow's ensemble. -/
def withOwn (s : State) (own : CanopyState) (objs : List (Nat × Int)) : State :=
  let s1 : State := { s with
    canopy := putServo own s.canopy, twin := { s.twin with shadow := s.canopy, shadowObjs := s.servoObjs } }
  s1.putServoObjs objs

/-- The inputs of a tick whose AGREE is missing: the shadow coasts it (R422). (Log entry 77, DEDUCED) -/
def missingInputs (s : State) : TwinInputs :=
  let (mode, sel) := match s.twin.peer with | some a => (a.mode, a.selRef) | none => (s.mode.toNat, 0)
  let st : TsState := match s.sys.history with
    | _ :: h :: _ => h
    | _ => { tick := s.tick - 1, time := s.timeNow - tickUnits, plane := 0, len := 0, rateY := 0, bound := unbounded, source := 0 }
  { coast := true, mode := mode, sel := sel, index := (s.index + 8191) % 8192, state := st, ingested := [], fits := []
    age := (((s.age : Int) - 1 + s.twin.frame).toNat) }

/-- The shadow's digest compared with the owner's at slot 35 (R423). -/
def compareDigest (s : State) (x : TwinInputs) : State :=
  let (digest, epoch) := s.lastDigest
  if x.index ≠ 35 ∨ x.coast = true then s
  else match s.twin.peer with
    | none => s
    | some a =>
      if a.digestEpoch ≠ epoch then s
      else if a.digest = digest then { s with twin := { s.twin with matched := s.twin.matched + 1 } }
      else ((s.inc Obj.twinDigestMismatch).faulted 0x0C03 0 0).discardShadow

/-- The shadow's tick, in W1: the owner's tick before (R422). (Log entry 77, DEDUCED) -/
def shadowTick (s : State) : State :=
  if s.twin.skip then { s with twin := { s.twin with skip := false, inputs := none } }
  else if s.twin.stale then { s with twin := { s.twin with inputs := none } }
  else
    let own := s.canopy
    let objs := s.servoObjs
    let x := (s.twin.inputs).getD s.missingInputs
    let s1 := s.withShadow ((x.age : Int) + 1 - s.age)
    let s2 := (s1.runInputs x).compareDigest x
    let s3 := s2.withOwn own objs
    { s3 with twin := { s3.twin with inputs := none }, record := { s3.record with shadow := some x } }

/-- A member's own gate record of the tick against the shadow's state (R422).  Its whole periods are counted from the first
record, at which the two agree. (Log entry 79, DEDUCED) -/
def ownRecord (s : State) (m : Nat) : State :=
  let d := s.decl m
  let p := monitorPort d.ref
  match (s.port p).ended with
  | none => s
  | some f =>
    if f.tick ≠ s.age ∨ !bitOf f.flags 15 then s
    else
      let x := f.edgeMid * (s.portPeriod p : Int) * 4096 - s.planeReading (f.mid + f.phase)
      let origin := match Sparse.get (fun _ => none) s.twin.own m with
        | some o => o.origin
        | none => x - (tget s.canopy.model.x (3 * m + 3) - tget s.canopy.model.x 0)
      let v : OwnMeas := ⟨x - origin, origin, f.y, State.fitFreqVar f (s.portPeriod p)⟩
      { s with twin := { s.twin with own := Sparse.put (fun _ => none) s.twin.own m (some v) } }

/-- The plane's pseudo-member replaced with the local plane estimate, the origins of the members' phases with the unit's own,
and the shadow's ages with its own (R422, R439). (Log entry 79, DEDUCED) -/
def adoptPlane (s : State) : State :=
  let c0 := putServo s.canopy (shiftAges (-s.twin.frame) s.canopy)
  let s0 : State := { s with canopy := { c0 with zSum := 0, zN := 0 }, twin := { s.twin with frame := 0, shadow := {}, shadowObjs := [], inputs := none } }
  let act := s0.activeMembers.filterMap fun m => (Sparse.get (fun _ => none) s0.twin.own m).map fun o => (m, o)
  let total : Rat := sumR (act.map fun x => (s0.weight x.1 : Rat))
  let mean (f : Nat × OwnMeas → Int) : Rat := if total = 0 then 0 else sumR (act.map fun x => (s0.weight x.1 : Rat) * (f x : Rat)) / total
  let m := s0.canopy.model
  let px := if total = 0 then tget m.x 0 else ratRound (mean fun x => tget m.x (3 * x.1 + 3) - x.2.z)
  let py := if total = 0 then tget m.x 1 else ratRound (mean fun x => tget m.x (3 * x.1 + 4) - x.2.y)
  let u : Rat := (s0.n Obj.twinAlignPs : Rat) / 1000000000000
  let vy : Rat := if total = 0 then 0 else
    sumR (act.map fun x => (s0.weight x.1 : Rat) * (s0.weight x.1 : Rat) * (x.2.var : Rat)) / (total * total) / ((2 ^ 160 : Nat) : Rat)
  let cross := (s0.liveStates.filter fun j => decide (2 ≤ j)).map fun j => [((0, j), (0 : Rat)), ((1, j), (0 : Rat))]
  let m1 := ({ m with x := tput (tput m.x 0 px) 1 py }).setPs (cross.flatten ++ [((0, 0), u * u), ((0, 1), 0), ((1, 1), vy)])
  let s1 : State := { s0 with canopy := { s0.canopy with model := { m1 with sat := [] }, planeInput := s0.n Obj.aplltSource } }
  act.foldl (fun s x => s.setMember x.1 { s.member x.1 with origin := x.2.origin, z := x.2.z }) s1

/-! ### Objects and states of the pair -/

/-- TWIN_STATE entered, with the age. -/
def twinEnter (s : State) (st : Nat) : State :=
  let s1 := s.setN Obj.twinState st
  { s1 with twin := { s1.twin with since := s1.age } }

/-- A message sent to the peer. -/
def twinSend (s : State) (m : TwinSend) : State := { s with twin := { s.twin with sends := s.twin.sends ++ [m] } }

/-- The first boundary of tick index 0 at least `n` ticks from now. -/
def firstZero (s : State) (n : Nat) : Nat := s.tick + n + (8192 - (s.index + n) % 8192) % 8192

/-- A join that ends: its status, and the retry 10 s later (R414, R415). (Log entry 81, DEDUCED) -/
def joinRefuse (s : State) (status : Nat) : State :=
  let s1 := ((s.twinEnter 1).inc Obj.twinJoinRefused).setN Obj.twinJoinStatus status
  { s1 with twin := { s1.twin with retryAt := s1.age + 81920, hello := none, joinAt := none, bulkDue := none } }

/-- The number of a due instant that this unit withheld, taken as committed by the peer (R430). -/
def seqTaken (s : State) (w : Commit) : State := match streamOfKey w.stream with
  | some x => s.setSeq x w.type (s.nextSeq x w.type + 1)
  | none => s

/-- The numbers that a unit leaving the pair takes as committed: those of due instants that it withheld, of which the peer has not told,
while the peer's last EMIT was 1 (R3, R430). -/
def settleSeqs (s : State) : State :=
  if s.joined && (match s.twin.peer with | some a => a.emit | none => false) then
    s.twin.withheld.foldl seqTaken s
  else s

/-- The unit goes to ALONE from a joined state; the shadow becomes its own ensemble, and OWN stays where it is (R414,
R440). -/
def twinAlone (sIn : State) : State :=
  let s := sIn.settleSeqs
  let s1 := if s.follows then
      let a := s.adoptPlane
      { a with canopy := { a.canopy with work := none, skipped := a.canopy.skipped + (if a.canopy.work.isSome then 1 else 0) } }
    else s
  let t := s1.twin
  let s2 := (s1.twinEnter 1).setF Obj.twinReady false
  { s2 with twin := { t with
      since := s2.age, master := s2.flag Obj.twinOwn, peer := none, gotAgree := false, missing := 0, downDue := false
      peerLeft := false, inputs := none, skip := false, stale := false, matched := 0, bulkDue := none, own := [], releaseAt := none
      peerRelease := none, took := false, takeDue := false, standbySince := none, lostRun := 0, joinAt := none, hello := none
      rxOwn := [], rxPeer := [], coreAt := [], thetas := [], window := [], agreed := [], withheld := [], commits := []
      sessionsDue := [], releaseDue := false, configSkew := 0 } }

/-- EMIT of R433. -/
def pairEmit (s : State) : Bool := match s.canopy.next with
  | some c => c.bound != unbounded && decide (c.bound < s.n Obj.ceilingPtp)
  | none => false

/-- The AGREE of the current tick, when W1 ends (R419). (Log entry 81, DEDUCED) -/
def agreeOf (s : State) : Agree :=
  let c := s.inst 0
  let rx := match (s.twin.rxOwn.reverse).find? fun e => e.2.isSome with | some e => (e.2, e.1) | none => (none, 0)
  { ownHeld := s.flag Obj.twinOwn, ready := s.flag Obj.twinReady, emit := s.pairEmit, release := s.twin.releaseAt.isSome
    timeMaster := s.twin.master, leaving := s.twin.leaveDue, preferred := s.flag Obj.twinPreferred, tick := s.tick
    coreNext := match s.canopy.next with | some n => (if s.sys.forceUnbounded then unbounded else n.bound) | none => unbounded
    mode := s.mode.toNat, selRef := s.n Obj.selTCurrent, clockClass := s.ownClass c, timeSource := s.ownSource
    releaseAt := match s.twin.releaseAt with | some r => r.1 | none => 0
    digest := s.lastDigest.1, digestEpoch := s.lastDigest.2, configGen := s.n Obj.configGen, twpRx := rx.1, twpRxTick := rx.2
    inputs := if s.twin.master then s.twin.mine else none
    commits := (s.twin.commits.filter fun e => decide (s.age ≤ e.1 + 2) && e.1 != s.age).map (·.2)
    sessions := if s.flag Obj.twinOwn then s.twin.linesLast.map (fun l => (l, s.session l)) else []
    config := if s.flag Obj.twinOwn then s.twin.agreed else [], vault := if s.flag Obj.twinOwn then s.twin.keys.map (wrapKey s.linkKey) else [] }

/-- The AGREE sent at the end of W1, whether the tick completed or coasts. (Log entry 77, DEDUCED) -/
def sendAgree (s : State) (coast : Bool) : State :=
  if !s.joined then s
  else
    let s1 : State := { s with twin := { s.twin with mine := s.twin.mine.map fun x => { x with coast := coast } } }
    { s1 with twin := { s1.twin with sent := some s1.agreeOf } }

/-! ### The timing pair (R420, R421, R424) -/

/-- An exchange whose stamps of both units are known: θ, and the observation of 0x3F. (Log entry 81, DEDUCED) -/
def pairObserve (s : State) (k : Nat) : State :=
  match Sparse.get (fun _ => none) s.twin.rxOwn k, Sparse.get (fun _ => none) s.twin.rxPeer k with
  | some a, some b =>
    let theta := roundUpHalf ((a - b) * 1000 - s.o Obj.twinPairAsymPs * nsUnits) 2000
    let thetas := (theta :: s.twin.thetas).take 64
    let win := ((s.age, theta) :: s.twin.window).filter fun x => decide (s.age < x.1 + 8192)
    let core := Sparse.get (fun _ => unbounded) s.twin.coreAt k
    let drop {α : Type} (t : Tbl α) : Tbl α := t.filter fun e => decide (k < e.1)
    let s1 : State := { s with twin := { s.twin with
      thetas := thetas, window := win, rxPeer := drop s.twin.rxPeer, coreAt := drop s.twin.coreAt
      rxOwn := s.twin.rxOwn.filter fun e => decide (k ≤ e.1) } }
    let x : RefObs := { id := 0x3F, kind := if core = unbounded then .invalid else .valid, e := -theta, instant := a
                        s := boundSum [core, s.n Obj.twinAsymBoundPs, 6], u := pairSpread thetas, cal := s.n Obj.twinCalId }
    s1.refArrive x
  | _, _ => s

/-- TWIN_OFFSET and TWIN_ALIGN_PS over the last second. (Log entry 78, DESIGN CHOICE) -/
def publishOffset (s : State) : State :=
  let w := s.twin.window.filter fun x => decide (s.age < x.1 + 8192)
  let s0 : State := { s with twin := { s.twin with window := w } }
  if w.isEmpty then s0.setN Obj.twinAlignPs unbounded
  else
    let n : Int := w.length
    let sum := sumI (w.map (·.2))
    let mean := ceilDiv (sum.natAbs * 1000) (2 ^ 32 * w.length)
    let a := boundSum [mean, boundQ s.boundK [pairSpread s.twin.thetas], s.n Obj.twinAsymBoundPs, 4, s.n Obj.twinOutCalPs]
    (s0.setO Obj.twinOffset (roundUpHalf sum (4096 * n))).setN Obj.twinAlignPs a

/-- READY (R424). -/
def readyNow (s : State) : Bool :=
  decide (10 ≤ s.twin.matched) && !s.twin.stale && s.refSt 0x3F == 4 && s.twin.peer.isSome && decide (s.age ≤ s.twin.peerAge + 8) &&
    decide (s.n Obj.twinAlignPs ≤ s.n Obj.twinReadyLimitPs)

/-! ### Release and take (R425–R439) -/

/-- A release announced for the first tick-index-0 boundary at least 1 s later. -/
def announce (s : State) (why : ReleaseWhy) : State :=
  if s.twin.releaseAt.isSome then s
  else
    let s1 := s.setN Obj.twinActionStatus 1
    { s1 with twin := { s1.twin with releaseAt := some (s1.firstZero 8192, why) } }

/-- The unit's ensemble kept as the shadow of its peer (R439). -/
def keepShadow (s : State) : State :=
  { s with twin := { s.twin with
      master := false, shadow := s.canopy, shadowObjs := s.servoObjs, frame := 0, matched := 0, own := [] } }

/-- A release of OWN at the current boundary: the unit becomes SHADOW; it stays time master while the peer is not READY to take
(R421, R436, R439). (Log entry 81, DEDUCED) -/
def releaseNow (s : State) (peerReady : Bool) : State :=
  let s1 := (s.twinEnter 5).inc Obj.twinReleases
  let s2 : State := { s1 with twin := { s1.twin with
      releaseAt := none, releaseDue := false, switching := some false, skip := peerReady, matched := 0, standbySince := none, lostRun := 0 } }
  if peerReady then s2.keepShadow else s2

/-- A take of OWN at the current boundary (R436, R437, R439). (Log entries 79, DEDUCED; 81, DEDUCED) -/
def takeNow (s : State) : State :=
  let s1 := (s.twinEnter 7).inc Obj.twinTakes
  let align := s1.n Obj.twinAlignPs
  let s2 := s1.setF Obj.twinReady false
  { s2 with twin := { s2.twin with
      switching := some true, took := true, peerRelease := none, takeDue := false, charge := align, chargedAt := s2.age, standbySince := none } }

/-- The segment of a holdover that goes on after a take, which includes TWIN (R439). (Log entry 80, DEDUCED) -/
def segmentOfTake (s : State) : State :=
  match s.canopy.hold with
  | some h =>
    if s.mode = mHoldover then
      let r := s.startSegment (boundAdd h.pending s.twin.charge)
      let (x, y, d) := r.1.ensembleState
      r.1.anchorHold { h with last := h.pending, seg := r.2, at_ := r.1.planeReading r.1.planeNow, x := x, y := y, d := d }
    else s
  | none => s

/-- The taking unit's W1 of the tick of the take, after the shadow's last tick: its own boundary, the local plane, and the
segment that includes TWIN (R439).  The tick then coasts. -/
def finishTake (s : State) : State :=
  let s1 := s.adoptPlane
  let s2 : State := { s1 with twin := { s1.twin with master := true, took := false, skip := false } }
  (s2.canopyBoundary).segmentOfTake

/-- TWIN is retired once the selected reference has been in use for 5 / REF_BW since the take (R181, R439). -/
def retireCharge (s : State) : State :=
  if s.twin.charge = 0 then s
  else
    let since := max s.twin.chargedAt s.synth.selSince
    let bw := s.n (Obj.refBw (s.n Obj.selTCurrent))
    if s.o Obj.selTCurrent ≠ 0 ∧ s.mode ≠ mHoldover ∧ 5000000 * 8192 ≤ (s.age - since) * bw then
      { s with twin := { s.twin with charge := 0 } }
    else s

/-- The EFC outputs of a taking unit leave HIGHZ into STEER at the code of the owner's steering word (R439). -/
def takeEfc (s : State) (k : Nat) : State :=
  match s.steeredBy 1 k with
  | none => s
  | some m =>
    if s.efcWanted k true = 2 then
      let b := s.blob (Obj.efcMinmax k)
      let raw := s.o (Obj.efcCentre k) + roundAway (s.o (Obj.ensMemberSteerY m)) (s.o (Obj.efcGain k))
      (s.setO (Obj.efcState k) 2).setO (Obj.efcCode k) (clampI (fieldN b 0 4) (fieldN b 4 4) raw)
    else s

/-- The switch instant W: the latch, the drivers, and the pulses cut short (R425, R427). (Log entry 81, DEDUCED) -/
def switchOwn (s : State) (cut : Nat) : State :=
  match s.twin.switching with
  | none => s
  | some take =>
    let s0 : State := { s with twin := { s.twin with switching := none } }
    let s1 := (s0.setF Obj.twinOwn take).addN Obj.twinRunts cut
    if take && s1.joined then
      let s2 := (List.range 4).foldl takeEfc s1
      (List.range 64).foldl (fun s p => if s.outAllowed p then s.setOut p { s.out p with driving := true, startAt := s.timeNow } else s) s2
    else if take then s1
    else
      let s2 := (List.range 64).foldl (fun s p => if (s.out p).driving then s.setOut p { s.out p with driving := false } else s) s1
      (List.range 4).foldl (fun s k => s.setO (Obj.efcState k) 0) s2

/-- The unit leaves: HELLO with LEAVING, and ALONE until it rejoins (R442). -/
def leaveNow (s : State) : State :=
  let s1 := if s.joined then (s.twinSend (.hello true s.twin.nonce)).twinAlone
    else if decide (2 ≤ s.o Obj.twinState ∧ s.o Obj.twinState ≤ 4) then s.joinRefuse (s.n Obj.twinJoinStatus) else s
  { s1 with twin := { s1.twin with left := true, leaveDue := false } }

/-- A write of TWIN_ACTION at its boundary (R436, R442). (Log entry 81, DEDUCED) -/
def twinAct (s : State) (a : Nat) : State :=
  if s.o Obj.twinState = 0 then s
  else if a = 1 then (if s.o Obj.twinState = 7 then s.announce .operator else s)
  else if a = 2 then
    (if s.o Obj.twinState = 7 then
      let s1 := s.announce .leave
      { s1 with twin := { s1.twin with leaveDue := true } }
    else s.leaveNow)
  else if a = 3 then { s with twin := { s.twin with left := false, retryAt := s.age } }
  else s

/-- TWIN_ACTION 1 or 2 on the owner is refused while the peer is not READY (R436). -/
def actionRefused (s : State) (a : Nat) : Bool :=
  (a == 1 || a == 2) && s.o Obj.twinState == 7 && !(match s.twin.peer with | some p => p.ready | none => false)

/-! ### The boundary of the pair -/

/-- A transferred Canopy state installed as the shadow (R415, R423). -/
def installCanopy (s : State) (b : Bulk) : State :=
  let own := s.canopy
  let s1 := (b.canopyObjs.filter fun p => !servoObj p.1).foldl (fun s p => s.setO p.1 p.2) s
  { s1 with
    canopy := putServo own b.canopy
    twin := { s1.twin with
      shadow := b.canopy, shadowObjs := b.canopyObjs.filter (fun p => servoObj p.1), frame := (b.age : Int) - s1.age
      skip := true, stale := false, matched := 0, bulkDue := none, own := [] } }

/-- The digest of a transferred state as this unit computes it (R415, R423). -/
def bulkDigest (s : State) (b : Bulk) : Nat :=
  let s1 := b.canopyObjs.foldl (fun s p => s.setO p.1 p.2) s
  State.digest { s1 with canopy := b.canopy } b.canopy.model

/-- Session lines received from the owner (R304, R434). -/
def installSessions (s : State) : State :=
  if s.twin.sessionsDue.isEmpty then s
  else
    let t := s.twin.sessionsDue.foldl (fun t p => Sparse.put (fun _ => none) t p.1 p.2) s.serv.sessions
    { s with serv := { s.serv with sessions := t }, twin := { s.twin with sessionsDue := [] } }.countSessions

/-- YETHAL_DOWN (R419, R440). -/
def yethalDown (s : State) : State := (s.faulted 0x0C01 0 0).twinAlone

/-- The releases of an owner at a boundary (R392, R428, R436). (Log entry 78, DESIGN CHOICE) -/
def ownerBoundary (s : State) : State :=
  let peerReady := match s.twin.peer with | some a => a.ready && s.twin.gotAgree | none => false
  if s.twin.releaseDue then
    (if s.twin.releaseAt.isSome then s.setN Obj.twinActionStatus 2 else s).releaseNow peerReady
  else match s.twin.releaseAt with
    | some (h, why) =>
      if s.tick < h then s
      else if peerReady || why == .lostBound then (s.releaseNow peerReady).setN Obj.twinActionStatus 2
      else
        let s1 := s.setN Obj.twinActionStatus 3
        { s1 with twin := { s1.twin with releaseAt := none, leaveDue := false } }
    | none =>
      let standby := match s.twin.peer with | some a => a.ready && a.preferred | none => false
      let since := if standby then some (s.twin.standbySince.getD s.age) else none
      let run := if s.bound = unbounded then s.twin.lostRun + 1 else 0
      let s1 : State := { s with twin := { s.twin with standbySince := since, lostRun := run } }
      let finite := match s.twin.peer with | some a => a.coreNext != unbounded | none => false
      let revert := match since with
        | some a => s.flag Obj.twinRevertive && decide (a + s.n Obj.twinRevertWtrS * 8192 ≤ s.age)
        | none => false
      if revert then s1.announce .revert
      else if decide (8192 ≤ run) && finite then s1.announce .lostBound
      else s1

/-- The takes and READY of a non-owner at a boundary (R414, R424, R436, R437).  An announced release is taken by a unit that is READY and
was so in its last AGREE, from which the owner judges whether it goes through. (Log entry 81, DEDUCED) -/
def shadowBoundary (s : State) : State :=
  let ready := s.readyNow
  let due := match s.twin.peerRelease with | some h => decide (h ≤ s.tick) | none => false
  if ready && s.flag Obj.twinReady && due || (s.twin.takeDue && s.o Obj.twinState == 6) then s.takeNow
  else
    let s0 : State := { s with twin := { s.twin with takeDue := false } }
    let s1 := s0.setF Obj.twinReady ready
    if ready && s1.o Obj.twinState == 5 then s1.twinEnter 6
    else if !ready && s1.o Obj.twinState == 6 then s1.twinEnter 5
    else s1

/-- A change of the pair identity in use makes a journal write due (R475). -/
def identityWatch (s : State) : State :=
  if s.pairInUse = s.twin.identity then s
  else { s with twin := { s.twin with identity := s.pairInUse }, power := { s.power with journalDue := true } }

/-- The watch of a boundary over the pair: the pin OWN_IN and how long it has been low (R428), the identity in use (R418, R475), and the loss of
Yethal or of the peer (R440). -/
def twinWatch (s : State) (ownIn : Bool) : State :=
  let s0 := s.identityWatch.setF Obj.twinOwnIn ownIn
  let low := if ownIn then none else some (s0.twin.lowSince.getD s0.age)
  let s1 : State := { s0 with twin := { s0.twin with lowSince := low } }
  if !s1.joined then s1 else if s1.twin.downDue then s1.yethalDown else if s1.twin.peerLeft then s1.twinAlone else s1

/-- A boundary of a unit that is not joined: a contention of an ALONE unit is resolved by its release (R428), and the elected side of a resync
names the boundary at which the units join (R423). -/
def apartBoundary (s : State) : State :=
  let s1 := if s.twin.releaseDue && s.flag Obj.twinOwn then
      ({ s with twin := { s.twin with releaseDue := false, switching := some false } }).inc Obj.twinReleases else s
  if s1.o Obj.twinState = 4 ∧ s1.twin.elect = true ∧ s1.twin.joinAt = none then
    let j := s1.firstZero 8192
    ({ s1 with twin := { s1.twin with joinAt := some j } }).twinSend (.bulk j)
  else s1

/-- A boundary of a joined unit: what the peer's messages gave takes effect, the owner and the shadow do their parts, and a unit whose departure
is due leaves (R420–R439). -/
def joinedBoundary (s : State) : State :=
  let s1 := (s.publishOffset.installSessions).retireCharge
  let s2 := if s1.o Obj.twinState = 7 then s1.ownerBoundary else s1.shadowBoundary
  let s3 := match s2.twin.bulkDue with | some b => if b.boundary ≤ s2.tick then s2.installCanopy b else s2 | none => s2
  let s4 := if s3.twin.leaveDue && s3.o Obj.twinState != 7 && !s3.flag Obj.twinOwn then s3.leaveNow else s3
  { s4 with twin := { s4.twin with
      gotAgree := false, linesLast := s4.twin.lines, lines := []
      commits := s4.twin.commits.filter fun e => decide (s4.age ≤ e.1 + 3) } }

/-- The pair at a tick boundary. (Log entry 80, DEDUCED) -/
def twinBoundary (s : State) (ownIn : Bool) : State :=
  if !s.flag Obj.twinEnable then s
  else
    let s1 := s.twinWatch ownIn
    if !s1.joined then s1.apartBoundary else s1.joinedBoundary

/-! ### Messages of the peer -/

/-- Whether this unit is the owner-elect (R416). -/
def electBy (s : State) (h : Hello) : Bool :=
  if s.flag Obj.twinOwn != h.own then s.flag Obj.twinOwn
  else if s.flag Obj.twinPreferred != h.preferred then s.flag Obj.twinPreferred
  else octetsLt (padTo 16 (s.blob Obj.serial)) (padTo 16 h.serial)

/-- The first check of R415 that a HELLO fails, 0 for none. -/
def helloStatus (s : State) (h : Hello) : Nat :=
  let id := padTo 32 (s.blob Obj.twinPeerId)
  let signed := octets h.cert 0 153
  let sig := octets h.cert 153 96
  let pair := s.n Obj.twinPairIdentity
  if allZero id || id != padTo 32 (Config.sha256 h.deviceId) then 1
  else if pkVerify 2 h.deviceId sig (Config.sha384 signed) ≠ 0 then 2
  else if toBE 4 (s.n Obj.ensMicrocodeId) ≠ padTo 4 h.microcode ∨ toBE 4 (s.n Obj.fwShuttleId) ≠ padTo 4 h.shuttle then 3
  else if pair ≠ h.identity ∧ pair ≠ 0 ∧ h.identity ≠ 0 then 6
  else if h.mode = 6 then 7
  else 0

/-- The peer's HELLO (R415, R442). (Log entry 76, DEDUCED) -/
def helloReceive (s : State) (h : Hello) : State :=
  let st := s.o Obj.twinState
  if h.leaving then
    (if s.joined then { s with twin := { s.twin with peerLeft := true } }
     else if decide (2 ≤ st ∧ st ≤ 4) then s.joinRefuse (s.n Obj.twinJoinStatus) else s)
  else if st ≠ 2 then s
  else
    let c := s.helloStatus h
    if c ≠ 0 then s.joinRefuse c
    else
      let s1 := (s.twinEnter 3).setBlob Obj.twinPeerSerial h.serial
      { s1 with twin := { s1.twin with hello := some h, elect := s1.electBy h, joinAt := none } }

/-- One entry of the peer's COMMITS (R430, R432). (Log entry 81, DEDUCED) -/
def commitLearn (s : State) (c : Commit) : State :=
  let mine := s.twin.commits.find? fun e => e.2.stream == c.stream && e.2.due == c.due && e.2.type == c.type
  match streamOfKey c.stream with
  | none => s
  | some x =>
    match mine with
    | some e =>
      if e.2.seq = c.seq then s
      else
        let s1 := if s.flag Obj.twinOwn then s else s.faulted 0x0C02 0 0
        (s1.setSeq x c.type (max e.2.seq c.seq + 1)).inc Obj.twinSeqAdopted
    | none =>
      let ahead := (c.seq + 1 + 65536 - s.nextSeq x c.type) % 65536
      let s1 := if ahead ≠ 0 ∧ ahead < 32768 then s.setSeq x c.type (c.seq + 1) else s
      { s1 with twin := { s1.twin with withheld := s1.twin.withheld.filter fun w => !(w.stream == c.stream && w.type == c.type && w.due == c.due) } }

/-- Pair-agreed batches and keys named by the owner, kept until their boundary (R417, R419). -/
def agreedLearn (s : State) (a : Agree) : State :=
  if s.flag Obj.twinOwn then s
  else
    let own (b : AgreedBatch) : AgreedBatch := { b with batch := { b.batch with writes := b.batch.writes.filter fun w => w.key != Obj.keyWrite } }
    let batches := (a.config.map own).filter fun b => !(s.twin.agreed.contains b) && decide (s.tick < b.x)
    let keys := (a.vault.filterMap (openKey s.linkKey)).filter fun k => !(s.twin.keys.contains k) && (match k with
      | .cookie _ _ t => decide (s.tick < t)
      | .slot _ _ _ x => decide (s.tick < x))
    { s with twin := { s.twin with agreed := s.twin.agreed ++ batches, keys := s.twin.keys ++ keys, sessionsDue := s.twin.sessionsDue ++ a.sessions } }

/-- What an AGREE says of the peer, its tick and its release (R419, R436). -/
def agreePeer (s : State) (a : Agree) : State :=
  let t := s.twin
  -- an owner that still holds OWN after its boundary has abandoned the release
  let kept := match t.peerRelease with
    | some h => if a.ownHeld && decide (h ≤ a.tick) then none else some h
    | none => none
  let rel := if s.flag Obj.twinOwn then none else if a.release then some a.releaseAt else kept
  -- the peer has taken OWN from a time master that had released it
  let taken := a.ownHeld && !s.flag Obj.twinOwn && t.master
  let s0 := if taken then s.keepShadow else s
  let inputs := if taken || s.follows then a.inputs else none
  let core := Sparse.put (fun _ => unbounded) s0.twin.coreAt (a.tick + 1) a.coreNext
  -- COMMITS tell of the two ticks before the peer's; what was withheld earlier and never told counts as committed while the peer emits
  let at_ (w : Commit) : Nat := if w.type = 0 then w.due - 1 else w.due
  let n := a.tick % 2 ^ 32
  let emits := s0.joined && (match t.peer with | some p => p.emit | none => false)
  let s1 := if emits then (s0.twin.withheld.filter fun w => decide (at_ w + 2 < n)).foldl seqTaken s0 else s0
  let held := s1.twin.withheld.filter fun w => decide (n ≤ at_ w)
  { s1 with twin := { s1.twin with
    peer := some a, peerAge := s.age, gotAgree := true, missing := 0, peerRelease := rel, inputs := inputs, coreAt := core, withheld := held } }

/-- The peer's stamp of this unit's pulse (R420). -/
def agreePulse (s : State) (a : Agree) : State := match a.twpRx with
  | some r => ({ s with twin := { s.twin with rxPeer := Sparse.put (fun _ => none) s.twin.rxPeer a.twpRxTick (some r) } }).pairObserve a.twpRxTick
  | none => s

/-- Two AGREE messages in a row whose CONFIG_GEN differs (R417). -/
def agreeConfig (s : State) (a : Agree) : State :=
  let skew := if a.configGen = s.n Obj.configGen then 0 else s.twin.configSkew + 1
  let s1 : State := { s with twin := { s.twin with configSkew := if skew = 2 then 0 else skew } }
  if skew = 2 ∧ !s1.flag Obj.twinOwn then s1.faulted 0x0C02 0 0 else s1

/-- The peer's AGREE of the tick, arrived by its deadline; each entry of its COMMITS comes in two of them and is learned once
(R419–R423, R430–R432, R436). -/
def agreeReceive (s : State) (a : Agree) : State :=
  let news := match s.twin.peer with
    | some p => a.commits.filter fun c => !(p.commits.contains c)
    | none => a.commits
  let s2 := (news.foldl commitLearn (s.agreePeer a)).agreedLearn a
  let s5 := (s2.agreePulse a).agreeConfig a
  if a.leaving && !a.release && !s5.flag Obj.twinOwn && !a.ownHeld then { s5 with twin := { s5.twin with peerLeft := true } } else s5

/-- The peer's pulse stamped on TWP (R420). -/
def twpEdge (s : State) (t : Int) (a b : Capture) : State :=
  let s1 := s.edge 84 t a b
  match (s1.port 84).lastStamp with
  | none => s1
  | some st =>
    if (s.port 84).lastStamp = some st then s1
    else
      let k := s1.tick - s1.index % 8
      let rx := Sparse.put (fun _ => none) s1.twin.rxOwn k (some (s1.deviceTime st.time))
      ({ s1 with twin := { s1.twin with rxOwn := rx } }).pairObserve k

/-- A frame forwarded by the peer, for the hand-off of the next tick (R434, R435). -/
def forwardReceive (s : State) (f : Forward) (late : Bool) : State :=
  if !s.joined then s
  else if late then s.inc Obj.twinForwardDrops
  else
    let x : RxFrame := { f.frame with tick := s.tick, forwarded := some (f.bound, f.port) }
    if f.signaling && !s.flag Obj.twinOwn then s
    else { s with net := { s.net with rx := s.net.rx ++ [x] } }

end State

/-! ### Commands -/

/-- An ALONE unit links: a fresh nonce and its HELLO (R414, R415). -/
def State.twinLink (s : State) : State :=
  let nonce := padTo 32 (Config.freeOctets s.sys.free 32)
  let s1 := s.drew.twinEnter 2
  ({ s1 with twin := { s1.twin with nonce := nonce, hello := none, joinAt := none } }).twinSend (.hello false nonce)

/-- TWIN_LINK_DETECT: the Yethal lanes recover a clock; an ALONE unit goes to LINKING (R414). -/
def execTwinLinkDetect (s : State) : Host.Outcome State Fault Refusal :=
  if s.o Obj.twinState = 1 ∧ 2 ≤ s.mode ∧ s.mode ≤ 5 ∧ s.twin.left = false ∧ s.twin.retryAt ≤ s.age then
    .next s.twinLink
  else .next s

/-- TWIN_JOIN_TIMEOUT: no progress within 10 s (R414, R415). -/
def execTwinJoinTimeout (s : State) : Host.Outcome State Fault Refusal :=
  let st := s.o Obj.twinState
  if 2 ≤ st ∧ st ≤ 4 ∧ s.twin.since + 81920 ≤ s.age then
    .next (s.joinRefuse (if st = 4 then 8 else if st = 3 then 5 else s.n Obj.twinJoinStatus))
  else .next s

/-- TWIN_JOIN_RETRY: 10 s after a join was refused it is tried again (R414). -/
def execTwinJoinRetry (s : State) : Host.Outcome State Fault Refusal := execTwinLinkDetect s

/-- TWIN_HELLO_RECEIVE: the peer's HELLO (R415). -/
def execTwinHelloReceive (h : Hello) (s : State) : Host.Outcome State Fault Refusal :=
  if s.yethalClocked then .next (s.helloReceive h) else .next s

/-- TWIN_BULK_RECEIVE: a transfer, its digest checked against this unit's own computation (R415, R423). -/
def execTwinBulkReceive (b : Bulk) (s : State) : Host.Outcome State Fault Refusal :=
  if !s.yethalClocked then .next s
  else if s.o Obj.twinState = 4 ∧ s.twin.elect = false then
    if !b.attested then .next (s.joinRefuse 4)
    else if s.bulkDigest b ≠ b.digest then .next (s.joinRefuse 8)
    else .next { s with twin := { s.twin with bulkDue := some b, joinAt := some b.boundary } }
  else if s.follows && s.twin.stale && s.bulkDigest b == b.digest then
    .next { s with twin := { s.twin with bulkDue := some b } }
  else .next s

/-- TWIN_AGREE_RECEIVE: the peer's AGREE; one that arrives after its deadline is not used (R419). -/
def execTwinAgreeReceive (a : Agree) (late : Bool) (s : State) : Host.Outcome State Fault Refusal :=
  if s.joined && !late && s.yethalClocked then .next (s.agreeReceive a) else .next s

/-- TWIN_AGREE_DEADLINE: engine cycle 48,000 of the tick (R419). -/
def execTwinAgreeDeadline (s : State) : Host.Outcome State Fault Refusal :=
  if s.joined && !s.twin.gotAgree then
    let n := s.twin.missing + 1
    .next ({ s with twin := { s.twin with missing := n, downDue := s.twin.downDue || decide (4 ≤ n) } }.inc Obj.twinAgreeMissed)
  else .next s

/-- YETHAL_ALIGNMENT_LOSS: the PCS leaves its aligned state (R414, R419). -/
def execYethalAlignmentLoss (s : State) : Host.Outcome State Fault Refusal :=
  if s.joined then .next { s with twin := { s.twin with downDue := true } }
  else if 2 ≤ s.o Obj.twinState ∧ s.o Obj.twinState ≤ 4 then .next (s.joinRefuse (s.n Obj.twinJoinStatus))
  else .next s

/-- TWIN_URGENT_RECEIVE: a release announced for boundary `at_`; `inTime` tells that it came at least 10 µs before (R436). -/
def execTwinUrgentReceive (at_ : Nat) (inTime : Bool) (s : State) : Host.Outcome State Fault Refusal :=
  if s.joined && !s.flag Obj.twinOwn && s.yethalClocked then
    .next { s with twin := { s.twin with peerRelease := some (if inTime then at_ else max at_ s.tick + 1) } }
  else .next s

/-- TWIN_FORWARD_RECEIVE: a frame that the peer forwards; `late` tells that its tick's hand-off has passed (R434, R435). -/
def execTwinForwardReceive (f : Forward) (late : Bool) (s : State) : Host.Outcome State Fault Refusal :=
  if s.yethalClocked then .next (s.forwardReceive f late) else .next s

/-- TWP_PULSE_DRIVE: the pulse of a tick whose index is a multiple of 8 (R420, R426). -/
def execTwpPulseDrive (s : State) : Host.Outcome State Fault Refusal :=
  if s.joined && s.index % 8 == 0 then .next { s with twin := { s.twin with pulseAt := some s.tick } } else .next s

/-- TWP_EDGE_RECEIVE: the peer's pulse on TWP at plane time `time`, with what the two stampers capture (R420). -/
def execTwpEdgeReceive (time : Nat) (a b : Capture) (s : State) : Host.Outcome State Fault Refusal :=
  if s.joined then .next (s.twpEdge time a b) else .next s

/-- OWN_SWITCH_INSTANT: W; `cut` pulses were high there (R427). -/
def execOwnSwitchInstant (cut : Fin 65) (s : State) : Host.Outcome State Fault Refusal := .next (s.switchOwn cut)

/-- OWN_IN low for 1 µs (R429, R437). -/
def State.ownInLow (s : State) : State :=
  let s1 := s.setF Obj.twinOwnIn false
  let t := s1.twin
  { s1 with twin := { t with
    lowSince := some (t.lowSince.getD s1.age), takeDue := t.takeDue || (s1.o Obj.twinState == 6 && t.peerRelease.isNone) } }

/-- OWN_IN_FALL: OWN_IN has been low for 1 µs; a STANDBY unit to which no release was announced takes at the next boundary
(R437). -/
def execOwnInFall (s : State) : Host.Outcome State Fault Refusal := .next s.ownInLow

/-- Contention counted, and resolved by the release of the unit that is not preferred, of both where they are alike (R428). -/
def State.contention (s : State) : State :=
  let mine := s.flag Obj.twinPreferred
  let out := match s.twin.peer with
    | some a => if a.preferred = mine then true else !mine
    | none => !mine
  { s with twin := { s.twin with releaseDue := s.twin.releaseDue || out } }.inc Obj.twinContentions

/-- OWN_CONTENTION: OWN held with OWN_IN high for a whole tick (R428). -/
def execOwnContention (s : State) : Host.Outcome State Fault Refusal :=
  if s.flag Obj.twinEnable && s.flag Obj.twinOwn && s.flag Obj.twinOwnIn then
    .next s.contention
  else .next s

/-- COLD_TAKE: an ALONE unit in service takes OWN once OWN_IN has been low long enough (R429).
(Log entry 90, DEDUCED) -/
def execColdTake (s : State) : Host.Outcome State Fault Refusal :=
  let ms := s.n Obj.twinAloneTakeMs + (if s.flag Obj.twinPreferred then 0 else 1000)
  match s.twin.lowSince with
  | some a =>
    if s.o Obj.twinState = 1 ∧ s.inService = true ∧ s.flag Obj.twinOwn = false ∧ s.twin.switching = none ∧ ms * 8192 ≤ (s.age - a) * 1000 then
      .next ({ s with twin := { s.twin with switching := some true, master := true } }.inc Obj.twinColdTakes)
    else .next s
  | none => .next s

/-- TWIN_HANDOVER: TWIN_ACTION 1 (R436). -/
def execTwinHandover (cls : PortClass) (s : State) : Host.Outcome State Fault Refusal :=
  if s.running && (cls == .hostH || cls == .mgmtM) && !s.actionRefused 1 then .next (s.addDue false (.twinAction 1)) else .next s

/-- TWIN_LEAVE: TWIN_ACTION 2 (R436, R442). -/
def execTwinLeave (cls : PortClass) (s : State) : Host.Outcome State Fault Refusal :=
  if s.running && (cls == .hostH || cls == .mgmtM) && !s.actionRefused 2 then .next (s.addDue false (.twinAction 2)) else .next s

/-- TWIN_REJOIN: TWIN_ACTION 3 (R442). -/
def execTwinRejoin (cls : PortClass) (s : State) : Host.Outcome State Fault Refusal :=
  if s.running && (cls == .hostH || cls == .mgmtM) then .next (s.addDue false (.twinAction 3)) else .next s

/-- TWIN_STATE_TRANSFER_REQUEST: the peer asks for the owner's Canopy state, which it sends with the boundary of its
installation (R423). -/
def execTwinStateTransferRequest (s : State) : Host.Outcome State Fault Refusal :=
  if s.joined && s.twin.master then .next (s.twinSend (.bulk (s.firstZero 8192))) else .next s

end Sys2Proof.Machine
end

