-- ==== Sys2Proof/Machine/Shuttle.lean ====
section
/-!
DEFINITION. Shuttle engines, groves and on-chip memory (14), the reactions of units to their faults (15) and fault injection,
with the commands ENGINE_FAIL, ENGINE_WATCHDOG_EXPIRE, TAKEOVER_LOAD_COMPLETE, ENGINE_SELFTEST_COMPLETE, GROVE_START,
GROVE_RAMP_SLOT, GROVE_RETRY_EXPIRE, AES_JOB, MEM_WRITE_BACK, MEM_REREAD, SCRUB_READ, SCRUB_PASS_LATE, DIR_GETS, DIR_GETM
and DIR_PUTM.
-/

namespace Sys2Proof.Machine

/-- Octets of a session line address: line `l` lies at 64 l of the session store (R378). -/
def lineOffset (l : Nat) : Nat := 64 * l

namespace State

/-! ### Engines and lanes (R359–R367) -/

/-- ENGINE_STATE. -/
def eng (s : State) (g e : Nat) : Int := s.o (Obj.engineState g e)

/-- GROVE_ACTIVE_ENGINES follows the engine states (R360). -/
def countEngines (s : State) (g : Nat) : State :=
  s.setN (Obj.groveActiveEngines g) ((List.range 17).filter fun e => s.eng g e == 2).length

/-- The items of a lane in the current tick (R361). -/
def laneItems (s : State) (g lane : Nat) : List (Nat × RxFrame) :=
  (Sparse.get (fun _ => []) s.serv.items g).filter fun x => x.2.lane % 16 == lane

/-- The items of a lane dropped (R361, R367). (Log entry 74, DEDUCED) -/
def dropLane (s : State) (g lane : Nat) : State :=
  let left := (Sparse.get (fun _ => []) s.serv.items g).filter fun x => x.2.lane % 16 != lane
  { s with serv := { s.serv with items := Sparse.put (fun _ => []) s.serv.items g left } }

/-- A grove-level fault: GROVE_OUT, and OUT from the next boundary (R55, R361). -/
def groveFault (s : State) (g : Nat) : State :=
  if s.fault.outDue.contains g then s
  else
    let s1 := s.faulted 0x0904 g 0
    { s1 with fault := { s1.fault with outDue := s1.fault.outDue ++ [g] } }

/-- A grove that can go to OUT: STARTING, READY or SERVING (R55). -/
def groveIn (s : State) (g : Nat) : Bool := decide (1 ≤ s.o (Obj.groveState g) ∧ s.o (Obj.groveState g) ≤ 3)

/-- A lane whose engine failed: served by no engine in the rest of this tick (R361, R367). -/
def laneDown (s : State) (g lane : Nat) (loading : Bool) : State :=
  { s with shuttle := { s.shuttle with down := (s.shuttle.down.filter fun x => x.1 != 16 * g + lane) ++ [(16 * g + lane, loading)] } }

/-- The spare of a grove, if it has one. -/
def spareOf (s : State) (g : Nat) : Option Nat := (List.range 17).find? fun e => s.eng g e == 3

/-- An engine goes to FAILED: its lane to the spare, or to no engine until the next boundary; with no engine left the grove
goes OUT (R360, R361, R366). -/
def engineOut (s : State) (g e : Nat) : State :=
  let st := s.eng g e
  if !(st == 2 || st == 3 || st == 4) then s
  else
    let lane := s.n (Obj.engineLane g e)
    let s1 := (s.setO (Obj.engineState g e) 5).setO (Obj.engineLane g e) 255
    let s2 := (if st = 3 then s1.setF (Obj.groveSpareAvailable g) false else s1).countEngines g
    if st = 3 then s2
    else
      let s3 := if st = 4 then { s2 with shuttle := { s2.shuttle with takeovers := Sparse.put (fun _ => none) s2.shuttle.takeovers g none } } else s2
      let s4 := match s3.spareOf g with
        | some k =>
          let t : Takeover := ⟨k, lane, e, s3.sys.window != .w3, s3.tick⟩
          let s4 := ((s3.setO (Obj.engineState g k) 4).setN (Obj.engineLane g k) lane).setF (Obj.groveSpareAvailable g) false
          let s5 : State := { s4 with shuttle := { s4.shuttle with takeovers := Sparse.put (fun _ => none) s4.shuttle.takeovers g (some t) } }
          (s5.inc (Obj.groveFailovers g)).laneDown g lane true
        | none => (s3.dropLane g lane).laneDown g lane false
      if (List.range 17).all (fun k => s4.eng g k != 2 && s4.eng g k != 4) then s4.groveFault g else s4

/-- A failed self-check of an engine: the U-class fault and what follows (R366). -/
def engineFail (s : State) (g e : Nat) : State :=
  let st := s.eng g e
  if st == 2 || st == 3 || st == 4 then (s.faulted 0x0901 (17 * g + e) 0).engineOut g e else s

/-- The checkpoint that a takeover may load in tick `t`: CRC correct, of the tick before, of this firmware (R364). -/
def checkpointFor (s : State) (g e t : Nat) : Option Checkpoint :=
  if t = 0 then none
  else match Sparse.get (fun _ => none) s.shuttle.checkpoints ((17 * g + e) * 2 + (t - 1) % 2) with
    | some c => if c.ok && c.tick + 1 == t && c.fw == s.n Obj.fwShuttleId then some c else none
    | none => none

/-- Items of a lane in the current tick whose journal bits show a release (R365). -/
def reedSkips (s : State) (g lane : Nat) : Nat :=
  (s.serv.reed.filter fun x => x.1 / 8192 == g && x.2 != 0 && Sparse.get (fun _ => 0) s.shuttle.lanes x.1 == lane + 1).length

/-- The spare has loaded: it resumes the lane from a valid checkpoint for as long as W2 of the same tick lasts, or takes it from the
entry state, the lane's items of this tick dropped (R367). (Log entry 74, DEDUCED) -/
def takeoverDone (s : State) (g : Nat) : State :=
  match Sparse.get (fun _ => none) s.shuttle.takeovers g with
  | none => s
  | some t =>
    let s1 : State := { s with shuttle := { s.shuttle with takeovers := Sparse.put (fun _ => none) s.shuttle.takeovers g none } }
    let s2 := (s1.setO (Obj.engineState g t.spare) 2).countEngines g
    if t.early && t.tick == s.tick && s.sys.window != .w3 && (s.checkpointFor g t.failed s.tick).isSome then
      let s3 := s2.addN (Obj.reedSkips g) (s2.reedSkips g t.lane)
      { s3 with shuttle := { s3.shuttle with down := s3.shuttle.down.filter fun x => x.1 != 16 * g + t.lane } }
    else
      let n := (s2.laneItems g t.lane).length
      ((s2.addN (Obj.failoverDrops g) n).dropLane g t.lane).laneDown g t.lane false

/-- The checkpoint that an ACTIVE engine writes in W3, in its slot of the grove bank; its BODY is the firmware's own, here
of no octets (R364, R369). -/
def checkpoint (s : State) (g e : Nat) : State :=
  if s.eng g e ≠ 2 then s
  else
    let lane := s.n (Obj.engineLane g e)
    let k := (17 * g + e) * 2 + s.tick % 2
    let held (l : Nat) : Bool := (List.range 17).any fun j => (s.eng g j == 2 || s.eng g j == 4) && s.n (Obj.engineLane g j) == l
    let orphan := (List.range 16).any fun l => !held l && s.laneServer g l == some lane
    let c : Checkpoint := ⟨s.tick, lane, orphan, s.n Obj.fwShuttleId, true⟩
    let head := toBE 8 s.tick ++ toBE 1 g ++ toBE 1 e ++ toBE 1 lane ++ [if orphan then 1 else 0] ++ toBE 4 0 ++ toBE 4 c.fw
    let s1 := s.writeBank g (0x10_0000 + (2 * e + s.tick % 2) * 0x1000) (head ++ toBE 4 (crc32c head))
    { s1 with shuttle := { s1.shuttle with checkpoints := Sparse.put (fun _ => none) s1.shuttle.checkpoints k (some c) } }

/-- The checkpoints of every grove, and the Reed journals closed (R364, R365). -/
def checkpoints (s : State) : State :=
  let s1 := (List.range 16).foldl (fun s g =>
    let st := s.o (Obj.groveState g)
    if st = 2 ∨ st = 3 then (List.range 17).foldl (fun s e => s.checkpoint g e) s else s) s
  { s1 with serv := { s1.serv with reed := [] }, shuttle := { s1.shuttle with lanes := [] } }

/-- A grove leaves service for OFF or OUT: engines and AES lanes off (R360). -/
def groveStop (s : State) (g : Nat) : State :=
  let s1 := (List.range 17).foldl (fun s e => (s.setO (Obj.engineState g e) 0).setO (Obj.engineLane g e) 255) s
  let s2 := ((s1.setF (Obj.groveSpareAvailable g) false).setO (Obj.aesLaneState g) 0).countEngines g
  { s2 with
    serv := { s2.serv with items := Sparse.put (fun _ => []) s2.serv.items g [] }
    shuttle := { s2.shuttle with takeovers := Sparse.put (fun _ => none) s2.shuttle.takeovers g none, down := s2.shuttle.down.filter fun x => x.1 / 16 != g
                                 ready := s2.shuttle.ready.filter fun x => x.1 != g } }

/-- A grove enters STARTING: its bank wakes and its engines run their self-tests (R55, R360, R377, R393). -/
def groveStarting (s : State) (g : Nat) : State :=
  let s1 := (List.range 17).foldl (fun s e => (s.setO (Obj.engineState g e) 1).setO (Obj.engineLane g e) 255) s
  let s2 := (s1.setO (Obj.groveState g) 1).countEngines g
  let s3 := if s2.o (Obj.memRetention g) = 2 then s2.setO (Obj.memRetention g) 1 else s2
  { s3 with fault := { s3.fault with lastStart := some s3.age, outSince := Sparse.put (fun _ => none) s3.fault.outSince g none } }

/-- Groves whose self-tests ended take their lanes and go to READY (R55, R359, R360); a grove that becomes READY while
service is allowed enters SERVING 64 ticks later, in place of a slot of the ramp that it still has before it (R57).
(Log entry 17, DEDUCED) -/
def grovesReady (s : State) : State :=
  let due := s.shuttle.ready
  let s0 : State := { s with shuttle := { s.shuttle with ready := [] } }
  due.foldl (fun s x =>
    let (g, pass) := x
    if s.o (Obj.groveState g) ≠ 1 then s
    else
      let s1 := (enum pass).foldl (fun s p =>
        if p.1 < 16 then (s.setO (Obj.engineState g p.2) 2).setN (Obj.engineLane g p.2) p.1
        else (s.setO (Obj.engineState g p.2) 3).setF (Obj.groveSpareAvailable g) true) s
      let s2 := (s1.countEngines g).setO (Obj.groveState g) 2
      if s2.flag Obj.serviceAllowed then
        { s2 with sys := { s2.sys with rampWait := Sparse.put (fun _ => none) s2.sys.rampWait g (some 64) } }
      else s2) s0

/-- Groves taken OUT by a fault go there at the boundary (R55). -/
def grovesOut (s : State) : State :=
  let due := s.fault.outDue
  let s0 : State := { s with fault := { s.fault with outDue := [] } }
  due.foldl (fun s g =>
    if !s.groveIn g then s
    else
      let s1 := (s.groveStop g).setO (Obj.groveState g) 4
      { s1 with fault := { s1.fault with outSince := Sparse.put (fun _ => none) s1.fault.outSince g (some s1.age) } }) s0

/-! ### AES lanes (R368) -/

/-- An AES lane goes out of service: with both out the grove goes OUT, and at the next boundary u falls (R368). -/
def aesOut (s : State) (g l : Nat) : State :=
  let s1 := s.setN (Obj.aesLaneState g) (clearBit (s.n (Obj.aesLaneState g)) l)
  if s1.n (Obj.aesLaneState g) = 0 then s1.groveFault g else s1

/-- The lane that takes a job submitted at an engine cycle: a free one, lane 0 before lane 1, or the one free first; with the
cycle at which it starts. (Log entry 75, DEDUCED) -/
def aesPick (s : State) (g cycle : Nat) : Option (Nat × Nat) :=
  let up := (List.range 2).filter fun l => bitOf (s.n (Obj.aesLaneState g)) l
  let at_ (l : Nat) : Nat := Sparse.get (fun _ => 0) s.shuttle.aesFree (2 * g + l)
  match up.find? fun l => decide (at_ l ≤ cycle) with
  | some l => some (l, cycle)
  | none => ((sortBy (fun a b => decide (at_ a < at_ b)) up).head?).map fun l => (l, at_ l)

/-- A job served: the lane is busy for its cost. (Log entry 75, DEDUCED) -/
def aesServe (s : State) (g e cycle cost : Nat) : State :=
  match s.aesPick g cycle with
  | none => s
  | some (l, start) =>
    { s with shuttle := { s.shuttle with
      aesFree := Sparse.put (fun _ => 0) s.shuttle.aesFree (2 * g + l) (start + cost)
      aesServed := Sparse.put (fun _ => none) s.shuttle.aesServed (2 * g + l) (some e) } }

/-! ### Injection (R406–R409) -/

/-- A pairing of checker and mode that R408 does not mark refused, with an instance and a count in range. -/
def injPairOk (c m count inst : Nat) : Bool :=
  let both : List Nat := [0x01, 0x02, 0x03, 0x05, 0x08, 0x0F]
  let one : List Nat := [0x06, 0x07, 0x09, 0x0E]
  let two : List Nat := [0x04, 0x0A, 0x0B, 0x0C, 0x0D, 0x10, 0x11]
  let top (c : Nat) : Nat :=
    if c = 1 then 20 else if c = 2 ∨ c = 0x0F then 15 else if c = 3 ∨ c = 4 ∨ c = 0x0E then 271 else if c = 5 then 169
    else if c = 6 then 16 * 255 + 8 else if c = 8 then 95 else if c = 9 ∨ c = 10 then 31 else if c = 0x10 then 63
    else if c = 0x11 then 15 else 0
  decide (1 ≤ count) && decide (inst ≤ top c) && (decide (c ≠ 0x06) || decide (inst % 16 ≤ 8)) &&
    ((both.contains c && (m == 1 || m == 2)) || (one.contains c && m == 1) || (two.contains c && m == 2))

/-- Mode and arming allow a request (R406). -/
def injAllowed (s : State) (c inst : Nat) : Bool :=
  let arm := s.n Obj.injArm
  (s.mode == mWarmup || s.mode == mAcquire || s.mode == mReplay || (bitOf arm 0 && s.inService)) &&
    (bitOf arm 1 || !(c == 0x0B || (c == 0x01 && inst == 20)))

/-- The armed request aims at a check: checker, instance, and the address where the checker has one. -/
def injAims (s : State) (c inst : Nat) (addr : Option Nat) : Option Injection :=
  match s.fault.armed with
  | some j => if j.checker == c && j.inst == inst && (match addr with | some a => j.addr == 2 ^ 64 - 1 || j.addr == a | none => true) then some j else none
  | none => none

/-- One detection consumed (R407). -/
def injConsume (s : State) : State :=
  match s.fault.armed with
  | none => s
  | some j =>
    let left := j.count - 1
    let next : Option Injection := if left = 0 then none else some { j with count := left }
    let s1 : State := { s with fault := { s.fault with armed := next } }
    (s1.inc Obj.injDetections).setN Obj.injRemaining left

/-- The armed request put into force at its boundary, replacing one still armed (R407). -/
def injArmNow (s : State) (j : Injection) : State :=
  { s with fault := { s.fault with armed := some j } }.setN Obj.injRemaining j.count

/-- A request disarmed (R407). -/
def injDisarm (s : State) : State := { s with fault := { s.fault with armed := none } }.setN Obj.injRemaining 0

/-! ### Memory errors (R373–R375) -/

/-- A session line poisoned: it reads as zeros, and its session ends without a message (R375). -/
def poisonLine (s : State) (l : Nat) : State :=
  let s1 := ((s.recallAll l).writeBank 16 (lineOffset l) (zeros 64)).inc Obj.sessionPoisoned
  match Sparse.get (fun _ => none) s1.serv.sessions l with
  | none => s1
  | some v =>
    let s2 : State := { s1 with
      serv := { s1.serv with sessions := Sparse.put (fun _ => none) s1.serv.sessions l none },
      twin := { s1.twin with lines := s1.twin.lines.filter (fun x => x != l) ++ [l] } }
    s2.setN (Obj.ptpUnicastSessions v.inst) (s2.n (Obj.ptpUnicastSessions v.inst) - 1)

/-- The uncommitted items of a grove dropped and its commits stopped for the rest of the tick (R365). -/
def reedLost (s : State) (g : Nat) : State :=
  let n := (Sparse.get (fun _ => []) s.serv.items g).length
  let s1 := s.addN (Obj.failoverDrops g) n
  { s1 with serv := { s1.serv with items := Sparse.put (fun _ => []) s1.serv.items g [] }
            shuttle := { s1.shuttle with journalBad := s1.shuttle.journalBad ++ [g] } }

/-- An error in the ensemble bank: every declared member returns to WAITING, the plane is re-initialised, and the bound is
unbounded from the next boundary (R375); a unit that holds a shadow asks for the state again (R423). -/
def ensembleLost (s : State) : State :=
  if s.follows then s.discardShadow.forceUnbounded
  else
    let s1 := s.declared.foldl (fun s m => s.declare m (s.member m).cfg) s
    let s2 : State := { s1 with canopy := { s1.canopy with model := {}, planeSat := false, hold := none } }
    s2.unanchor.forceUnbounded

/-- No VALID record before the next 1 s boundary (R165, R375). -/
def solutionLost (s : State) : State :=
  let n := s.n Obj.gladeEpochCount
  { s with glade := { s.glade with parityUntil := n + (1000 - n % 1000) } }

/-- Reactions to an uncorrectable error by the place of the word, without the fault's own record: `read` tells an engine that
read it (R375). (Log entry 29, DEDUCED) -/
def ueReact (s : State) (b w : Nat) (engine : Option Nat) (port : Option Nat) : State :=
  if b < 16 then
    let off := 8 * w
    if off < 0x10_0000 then
      let s1 := s.groveFault b
      { s1 with fault := { s1.fault with firmwareOut := if s1.fault.firmwareOut.contains b then s1.fault.firmwareOut else s1.fault.firmwareOut ++ [b] } }
    else match engine with
      | some e => s.engineFail b e
      | none => s
  else if b = 16 then s.poisonLine (w / 8)
  else if b = 17 then s.bobBad w
  else if b = 18 then s.ensembleLost
  else if b = 19 then s.solutionLost.navDiscard w
  else match port with
    | some p => if p < 64 then s.stampOverrun p else s
    | none => s

/-- An uncorrectable error: counted, recorded under its code, and answered where it lies (R375).
(Log entry 28, DEDUCED) -/
def memUe (s : State) (b w : Nat) (engine port : Option Nat) : State :=
  let s1 := s.inc (Obj.memUeCount b)
  let off := 8 * w
  if b < 16 ∧ 0x10_0000 ≤ off ∧ off < 0x12_2000 then
    let k := (off - 0x10_0000) / 0x1000
    let bad := (Sparse.get (fun _ => none) s1.shuttle.checkpoints (17 * 2 * b + k)).map fun (c : Checkpoint) => { c with ok := false }
    let s2 : State := { s1 with shuttle := { s1.shuttle with checkpoints := Sparse.put (fun _ => none) s1.shuttle.checkpoints (17 * 2 * b + k) bad } }
    s2.faulted 0x0906 (17 * b + k / 2) 0
  else if b < 16 ∧ 0x12_2000 ≤ off ∧ off < 0x12_2800 then (s1.faulted 0x0905 b 0).reedLost b
  else if b = 20 ∧ port.isNone then s1.faulted 0x0A05 20 w
  else
    let s2 := s1.faulted 0x0A04 b w
    if s2.mode = mHalted then s2 else s2.ueReact b w engine port

/-- A correctable error: counted, recorded, its write-back scheduled (R373). (Log entry 28, DEDUCED) -/
def memCe (s : State) (b w : Nat) : State :=
  let s1 := (s.inc (Obj.memCeCount b)).faulted 0x0A01 b w
  let k := b * 2 ^ 21 + w
  let n := Sparse.get (fun _ => 0) s1.power.corrected k
  { s1 with
    shuttle := { s1.shuttle with writeBacks := s1.shuttle.writeBacks ++ [(b, w)] }
    power := { s1.power with corrected := Sparse.put (fun _ => 0) s1.power.corrected k (n + 1) } }

/-- A write-back cycle of a sub-bank in the current tick; the planner takes the most in one (R369, R483).
(Log entry 75, DEDUCED) -/
def countWriteBack (s : State) (b w : Nat) : State :=
  let k := 32 * b + w % (if b = 16 then 32 else 8)
  let now := if s.power.wbAge = s.age then s.power.wbNow else []
  let n := Sparse.get (fun _ => 0) now k + 1
  { s with power := { s.power with wbAge := s.age, wbNow := Sparse.put (fun _ => 0) now k n, wbMost := max n s.power.wbMost } }

/-- The requests that a sub-bank serves in a cycle: none while a write-back waits for it; else those of the processor ports for the
word of the port of lowest rank (port − TICK_COUNT) mod 32; else one of a DMA port (R370).
(Log entry 95, DESIGN CHOICE) -/
def memServed (s : State) (c : MemCycle) : List MemRequest :=
  let b := c.bank.val
  let mine := c.requests.filter fun r => decide (r.word % subBanks b = c.sub.val ∧ r.word < bankWords b)
  let rank (r : MemRequest) : Nat := (((r.port : Int) - s.tick) % 32).toNat
  -- a retained bank is accessed by no master before it wakes (R377)
  if s.o (Obj.memRetention b) ≠ 0 then []
  else if s.shuttle.writeBacks.any fun x => x.1 == b && x.2 % subBanks b == c.sub.val then []
  else
    let proc := mine.filter fun r => decide (r.port < procPorts b)
    match sortBy (fun x y => decide (rank x < rank y)) proc with
    | first :: _ => proc.filter fun r => r.word == first.word
    | [] => mine.take 1

/-- One access of a sub-bank: every read answers the value from before the cycle, the lowest-numbered writing port's data is stored,
and every other writing port's response carries COLLISION (R371).  The firmware of a grove bank is written by no port (R369).
(Log entry 95, DESIGN CHOICE) -/
def memCycle (s : State) (c : MemCycle) : State :=
  let b := c.bank.val
  match s.memServed c with
  | [] => s
  | r :: t =>
    let old := s.readWord b r.word
    let writers := sortBy (fun (x y : MemRequest) => decide (x.port < y.port)) ((r :: t).filter fun x => x.write.isSome)
    let fixed := decide (b < 16 ∧ r.word < 0x20000)
    let answers := (r :: t).map fun x => (⟨b, x.port, x.word, if x.write.isSome then 0 else old,
      x.write.isSome && (match writers with | w :: _ => w.port != x.port | [] => false)⟩ : MemResponse)
    let s1 : State := { s with shuttle := { s.shuttle with responses := s.shuttle.responses ++ answers } }
    let s2 := match writers with
      | w :: _ => if fixed then s1 else s1.writeWord b w.word (w.write.getD 0)
      | [] => s1
    if writers.length ≤ 1 then s2 else s2.addN (Obj.memCollisions b) (writers.length - 1)

/-- The memory cycles of a W2, in order (R370, R371). (Log entry 95, DESIGN CHOICE) -/
def memCycles (s : State) (cs : List MemCycle) : State :=
  cs.foldl memCycle { s with shuttle := { s.shuttle with responses := [] } }

/-- A hard fault is remapped: the value moves to the first free spare word, and the table directs later accesses there; with
all 16 in use the word stays (R374). -/
def remapWord (s : State) (b w : Nat) : State :=
  if (s.remapEntry b 15).isSome || (List.range 16).all (fun i => (s.remapEntry b i).isSome) then
    (s.inc (Obj.memHardUnremapped b)).faulted 0x0A03 b w
  else match (List.range 16).find? fun i => (s.remapEntry b i).isNone with
    | none => s
    | some i =>
      let v := s.readWord b w
      let s1 := s.setBlob (Obj.memRemapTable b) (padTo 128 (patch (padTo 128 (s.blob (Obj.memRemapTable b))) (8 * i) (toBE 8 (2 ^ 63 + w))))
      let s2 := (s1.setN (Obj.memRemapUsed b) (s1.n (Obj.memRemapUsed b) + 1)).writeWord b w v
      s2.faulted 0x0A02 b w

/-- Remaps of W3 (R374). -/
def remapHard (s : State) : State :=
  let due := s.shuttle.hard
  let s0 : State := { s with shuttle := { s.shuttle with hard := [] } }
  due.foldl (fun s x => s.remapWord x.1 x.2) s0

/-- The scrubber of a bank reads word w and goes on to the next; the last word ends a pass (R376). -/
def scrubStep (s : State) (b w : Nat) : State :=
  let last := decide (bankWords b ≤ w + 1)
  let start := if w = 0 then Sparse.put (fun _ => 0) s.shuttle.scrubStart b s.age else s.shuttle.scrubStart
  let paused := if w = 0 then Sparse.put (fun _ => 0) s.shuttle.scrubPaused b 0 else s.shuttle.scrubPaused
  let s1 : State := { s with shuttle := { s.shuttle with
    scrubAt := Sparse.put (fun _ => 0) s.shuttle.scrubAt b (if last then 0 else w + 1), scrubStart := start, scrubPaused := paused
    scrubLate := if last then s.shuttle.scrubLate.filter (fun x => x != b) else s.shuttle.scrubLate } }
  if last then s1.inc (Obj.memScrubPasses b) else s1

/-- What a scrub read finds in a word (R373–R376). -/
def scrubFound (s : State) (b w : Nat) (e : MemError) : State :=
  match e with
  | .none => s
  | .correctable => s.memCe b w
  | .uncorrectable p => s.memUe b w none (p.map (·.val))

/-- A read by the scrubber of a bank: the next word in address order; a pass that ends is counted (R376). -/
def scrubRead (s : State) (b : Nat) (e : MemError) : State :=
  if s.o (Obj.memRetention b) ≠ 0 then s
  else
    let w := Sparse.get (fun _ => 0) s.shuttle.scrubAt b
    let s1 := s.scrubStep b w
    match s1.injAims 0x01 b (some w) with
    | some j =>
      let s2 := s1.injConsume
      let s3 : State := { s2.drew with fault := { s2.fault with context := some (Config.freeSubtick s2.sys.free, true) } }
      let s4 := s3.scrubFound b w (if j.mode = 1 then .correctable else .uncorrectable none)
      { s4 with fault := { s4.fault with context := none } }
    | none => s1.scrubFound b w e

/-! ### Boundaries and windows -/

/-- Retention of banks idle since the boundary before, the takeovers left over, and what the tick's failures leave (R361, R377). -/
def shuttleBoundary (s : State) : State :=
  let idle := ((List.range 16) ++ [19]).filter fun b =>
    if b < 16 then s.o (Obj.groveState b) == 0 || s.o (Obj.groveState b) == 4 else s.o Obj.gladeState == 0
  let was := s.shuttle.idle
  let s1 : State := { s with shuttle := { s.shuttle with
    down := s.shuttle.down.filter (fun x => x.2), journalBad := [], aesFree := [], idle := idle } }
  let on := s1.flag Obj.memRetainEnable
  ((List.range 16) ++ [19]).foldl (fun s b =>
    let r := s.o (Obj.memRetention b)
    let s2 : State := if r = 0 then s else { s with shuttle := { s.shuttle with
      scrubPaused := Sparse.put (fun _ => 0) s.shuttle.scrubPaused b (Sparse.get (fun _ => 0) s.shuttle.scrubPaused b + 1) } }
    if on && idle.contains b then (if r = 0 ∧ was.contains b = true then s2.setO (Obj.memRetention b) 2 else s2)
    else if r = 2 then s2.setO (Obj.memRetention b) 1
    else s2) s1

/-- A waking bank is on within 40 µs of its boundary: from W2 (R377). (Log entry 75, DEDUCED) -/
def banksWake (s : State) : State :=
  ((List.range 16) ++ [19]).foldl (fun s b => if s.o (Obj.memRetention b) = 1 then s.setO (Obj.memRetention b) 0 else s) s

/-- Takeovers left from before this tick's W2 go on from the entry state (R367): their lane's items of the tick are dropped
when the load completes.  The work accounts of a tick are added (R381). -/
def accountWork (s : State) (w : WorkTally) : State :=
  let add (s : State) (a v : Nat) : State := s.addHw (Obj.waCount w.grove a w.engine) v (Obj.waWrapped w.grove w.engine) a
  add (add (add (add (add s 0 w.committed) 1 w.lost) 2 w.idle) 3 w.wait) 4 w.upkeep

end State

/-! ### Commands -/

/-- ENGINE_FAIL: a self-check of engine `e` of grove `g` fails (R366). -/
def execEngineFail (g : Fin 16) (e : Fin 17) (s : State) : Host.Outcome State Fault Refusal := .next (s.engineFail g e)

/-- ENGINE_WATCHDOG_EXPIRE: an ACTIVE engine that holds items has neither committed nor fetched one for 16,384 engine cycles
(R366). -/
def execEngineWatchdogExpire (g : Fin 16) (e : Fin 17) (s : State) : Host.Outcome State Fault Refusal :=
  if s.eng g e = 2 ∧ (s.laneItems g (s.n (Obj.engineLane g e))).isEmpty = false then .next (s.engineFail g e) else .next s

/-- TAKEOVER_LOAD_COMPLETE: the spare of grove `g` has loaded its lane (R367). -/
def execTakeoverLoadComplete (g : Fin 16) (s : State) : Host.Outcome State Fault Refusal := .next (s.takeoverDone g)

/-- GROVE_START: in WARMUP, at tick 64 g of it (R55, R56). -/
def execGroveStart (g : Fin 16) (s : State) : Host.Outcome State Fault Refusal :=
  if s.mode = mWarmup ∧ s.age = 64 * g.val ∧ s.o (Obj.groveState g) = 0 then .next (s.groveStarting g) else .next s

/-- The self-test of a grove in STARTING ends: failed engines, the lanes in service, and the engines that passed, or OUT (R55, R360). -/
def State.selftested (s : State) (g : Nat) (passed : List (Fin 17)) (aes : Nat) : State :=
  let pass := (List.range 17).filter fun e => passed.any fun p => p.val == e
  let s1 := (List.range 17).foldl (fun s e => if pass.contains e then s else s.setO (Obj.engineState g e) 5) s
  let s2 := s1.setN (Obj.aesLaneState g) aes
  if pass.isEmpty || aes == 0 then s2.groveFault g
  else { s2 with shuttle := { s2.shuttle with ready := (s2.shuttle.ready.filter fun x => x.1 != g) ++ [(g, pass)] } }

/-- ENGINE_SELFTEST_COMPLETE: the self-tests of a grove end: engines and AES lanes that passed (R55, R359, R360). -/
def execEngineSelftestComplete (g : Fin 16) (passed : List (Fin 17)) (aes : Fin 4) (s : State) : Host.Outcome State Fault Refusal :=
  if s.o (Obj.groveState g) = 1 then .next (s.selftested g passed aes) else .next s

/-- GROVE_RAMP_SLOT: the slot of a READY grove after service is allowed (R57). (Log entry 17, DEDUCED) -/
def execGroveRampSlot (g : Fin 16) (s : State) : Host.Outcome State Fault Refusal :=
  if Sparse.get (fun _ => none) s.sys.rampWait g.val = some 0 then
    let s1 : State := { s with sys := { s.sys with rampWait := Sparse.put (fun _ => none) s.sys.rampWait g.val none } }
    if s1.flag Obj.serviceAllowed && s1.o (Obj.groveState g) == 2 then .next (s1.setO (Obj.groveState g) 3) else .next s1
  else .next s

/-- GROVE_RETRY_EXPIRE: a grove in OUT meets its retry conditions, and no lower one does (R393). -/
def execGroveRetryExpire (g : Fin 16) (s : State) : Host.Outcome State Fault Refusal :=
  let due (k : Nat) : Bool :=
    s.o (Obj.groveState k) == 4 && !s.fault.firmwareOut.contains k && decide (s.n (Obj.groveRetries k) < s.n Obj.groveRetryMax) &&
      (match Sparse.get (fun _ => none) s.fault.outSince k with | some a => decide (a + 8192 * s.n Obj.groveRetryS ≤ s.age) | none => false)
  let free := match s.fault.lastStart with | some a => decide (a + 64 ≤ s.age) | none => true
  if decide (2 ≤ s.mode ∧ s.mode ≤ 5) && free && due g.val && !((List.range g.val).any due) then
    .next ((s.inc (Obj.groveRetries g)).groveStarting g)
  else .next s

/-- AES_JOB: engine `e` of grove `g` submits a job at an engine cycle of W2, of an NTS or a PTP item; its lane's key register
or duplicated check may fail (R314, R368). -/
def execAesJob (g : Fin 16) (e : Fin 17) (cycle : Nat) (nts : Bool) (parity : Bool) (fail : Bool) (s : State) : Host.Outcome State Fault Refusal :=
  let cost := s.n (if nts then Obj.costNtsAes else Obj.costPtpEventAes)
  if s.sys.window ≠ .w2 ∨ s.eng g e ≠ 2 then .next s
  else match s.aesPick g cycle with
    | none => .next s
    | some (l, _) =>
      let k := 2 * g.val + l
      let hitP := (s.injAims 0x09 k none).isSome
      let s1 := if hitP then s.injConsume else s
      let hitF := (s1.injAims 0x0A k none).isSome
      let s2 := if hitF then s1.injConsume else s1
      let ctx (b : Bool) (s : State) : State := { s with fault := { s.fault with context := if b then some (Config.freeSubtick s.sys.free, true) else none } }
      let clear (s : State) : State := { s with fault := { s.fault with context := none } }
      -- a parity error reloads the register before its use; a repeat takes the lane out (R314, R391)
      let (s3, out1) := if parity || hitP then
          let (a, cls) := (ctx hitP s2).raise 0x0802 k 0
          (clear a, decide (cls = 2))
        else (s2, false)
      let s4 := if out1 then s3.aesOut g l else s3
      let s5 := if (fail || hitF) && !out1 then clear (((ctx hitF s4).faulted 0x0903 k 0).aesOut g l) else s4
      .next (s5.aesServe g e cycle cost)

/-- MEM_WRITE_BACK: the corrected value of a word is written back in the sub-bank's next cycle (R370, R373). -/
def execMemWriteBack (bank : Fin 21) (word : Nat) (value : Fin 18446744073709551616) (s : State) : Host.Outcome State Fault Refusal :=
  if bankWords bank ≤ word then .fault (.noSuchWord bank word)
  else if s.shuttle.writeBacks.contains (bank.val, word) then
    let s1 : State := { s with shuttle := { s.shuttle with writeBacks := s.shuttle.writeBacks.erase (bank.val, word), rereads := s.shuttle.rereads ++ [(bank.val, word)] } }
    .next ((s1.writeWord bank word value).countWriteBack bank word)
  else .next s

/-- MEM_REREAD: a word written back is read again; one still in error is a hard fault, remapped at the next W3 (R374). -/
def execMemReread (bank : Fin 21) (word : Nat) (still : Bool) (s : State) : Host.Outcome State Fault Refusal :=
  if bankWords bank ≤ word then .fault (.noSuchWord bank word)
  else if s.shuttle.rereads.contains (bank.val, word) then
    let hard := if still && !s.shuttle.hard.contains (bank.val, word) then s.shuttle.hard ++ [(bank.val, word)] else s.shuttle.hard
    .next { s with shuttle := { s.shuttle with rereads := s.shuttle.rereads.erase (bank.val, word), hard := hard } }
  else .next s

/-- SCRUB_READ: the scrubber of a bank reads its next word (R376). -/
def execScrubRead (bank : Fin 21) (found : MemError) (s : State) : Host.Outcome State Fault Refusal :=
  if s.alive then .next (s.scrubRead bank found) else .next s

/-- SCRUB_PASS_LATE: a pass is not complete 2^L ticks after its start, retention apart; it is counted once (R376, R377). -/
def execScrubPassLate (bank : Fin 21) (s : State) : Host.Outcome State Fault Refusal :=
  let b := bank.val
  let due := Sparse.get (fun _ => 0) s.shuttle.scrubStart b + 2 ^ s.n Obj.scrubPassLog2 + Sparse.get (fun _ => 0) s.shuttle.scrubPaused b
  if Sparse.get (fun _ => 0) s.shuttle.scrubAt b ≠ 0 ∧ due ≤ s.age ∧ s.shuttle.scrubLate.contains b = false then
    .next ({ s with shuttle := { s.shuttle with scrubLate := s.shuttle.scrubLate ++ [b] } }.inc (Obj.memScrubLate b))
  else .next s

/-- DIR_GETS: a grove asks for a shared copy of a session line, with the requests that reach the slice in the same cycle
(R379, R380). -/
def execDirGets (line : Fin 262144) (g : Fin 16) (others : List DirReq) (s : State) : Host.Outcome State Fault Refusal :=
  .next (s.dirServe line (.getS g :: others))

/-- DIR_GETM: a grove asks to own a line (R379, R380). -/
def execDirGetm (line : Fin 262144) (g : Fin 16) (others : List DirReq) (s : State) : Host.Outcome State Fault Refusal :=
  .next (s.dirServe line (.getM g :: others))

/-- DIR_PUTM: an owner writes its line back (R379, R380). -/
def execDirPutm (line : Fin 262144) (g : Fin 16) (s : State) : Host.Outcome State Fault Refusal := .next (s.putLine g line)

end Sys2Proof.Machine
end

