-- ==== Sys2Proof/Machine/Power.lean ====
section
/-!
DEFINITION. Flash and the journal, temperature, the core supply, and ageing (R467–R484): what stands behind
0xA000 and 0xE100–0xE130.
-/

namespace Sys2Proof.Machine

namespace State

/-! ### The journal (R473–R477) -/

/-- The newest valid slot: the one with the higher SEQ. -/
def journalNewest (s : State) : Option (Nat × Journal) :=
  (enum s.power.slots).foldl (fun (best : Option (Nat × Journal)) x => match x.2, best with
    | .valid j, some b => if b.2.seq < j.seq then some (x.1, j) else best
    | .valid j, none => some (x.1, j)
    | _, _ => best) none

/-- What the journal carries at a snapshot (R474). (Log entry 84, DEDUCED) -/
def journalBody (s : State) : Journal :=
  let old := s.journalNewest.map (·.2)
  let keys := match s.serv.keySets with | x :: _ => x.2 | [] => []
  { seq := (match old with | some j => j.seq + 1 | none => 1)
    time := if s.flag Obj.timescaleSet then s.timeNow else (match old with | some j => j.time | none => 0)
    fw := s.n Obj.fwBootId
    remaps := (List.range 21).map fun b => padTo 128 (s.blob (Obj.memRemapTable b))
    positions := ((List.range 4).map fun a => s.blob (Obj.posEcef a)) ++ ((List.range 3).map fun a => s.blob (Obj.baseline a))
    keys := keys, rotated := s.serv.lastRotate, wrap := (s.slot 7).content
    identity := s.pairInUse, age := s.n Obj.ageEqHours, plan := s.power.plan
    sentinels := (List.range 32).map (fun j => s.n (Obj.roDegradation j)), weak := s.power.corrected }

/-- The slot that a write targets: not the one with the newest valid copy; A with none (R475). -/
def journalTarget (s : State) : Nat := match s.journalNewest with | some (0, _) => 1 | _ => 0

/-- The erase of the target block is issued (R475 step 2). -/
def journalBegin (s : State) : State := match s.power.write with
  | some w => if w.started then s else
      { s with power := { s.power with write := some { w with started := true }, slots := setAt s.power.slots w.slot .torn } }
  | none => s

/-- The snapshot of a due write at a boundary; the write waits for a host command in progress (R470, R475). -/
def journalSnapshot (s : State) : State :=
  if s.power.journalDue && s.power.write.isNone then
    let w : JournalWrite := { slot := s.journalTarget, body := s.journalBody }
    let s1 : State := { s with power := { s.power with journalDue := false, write := some w, lastWrite := s.age } }
    if s1.power.command.isNone then s1.journalBegin else s1
  else s

/-- A write of the journal becomes due (R475). -/
def journalTrigger (s : State) : State := { s with power := { s.power with journalDue := true } }

/-! ### Flash commands (R469, R470, R506) -/

/-- The octets of a flash device. (Log entry 85, DEDUCED) -/
def flashSize (cs : Nat) : Nat := max (if cs = 0 then 2 ^ 24 else 2 ^ 17) (Config.flashSize cs)

/-- An octet of flash. -/
def flashByte (s : State) (cs a : Nat) : Byte := Sparse.get Config.flashOctet s.power.flash (cs * 2 ^ 32 + a)

/-- Octets of flash written. (Log entries 12, DEDUCED; 84, DEDUCED) -/
def flashPut (s : State) (cs a : Nat) : Octets → State
  | [] => s
  | v :: t =>
    let s1 : State := { s with power := { s.power with flash := Sparse.put Config.flashOctet s.power.flash (cs * 2 ^ 32 + a) v } }
    s1.flashPut cs (a + 1) t

/-- Octets that a command touches. -/
def flashSpan (c : FlashCmd) : Nat :=
  if c.op = 1 then 256 else if c.op = 2 then c.data.length else if c.op = 3 then 4096 else 65536

/-- Why a command is not carried out: SELF_ARRAY, JOURNAL_AREA, or an address outside the device or misaligned; 0 if it is.
(Log entry 85, DEDUCED) -/
def flashRefusal (s : State) (c : FlashCmd) : Nat :=
  let align := if c.op = 1 then 1 else if c.op = 2 then 256 else if c.op = 3 then 4096 else 65536
  if c.cs = 0 ∧ c.op ≠ 1 ∧ s.flag Obj.xipCs0 = true then 0x0E10
  else if c.cs = 1 ∧ c.addr < 0x2_0000 then 0x0E11
  else if flashSize c.cs < c.addr + flashSpan c ∨ c.addr % align ≠ 0 then 0x0E12
  else 0

/-- A command carried out: a read answers at once, a program or erase is in progress until it completes. -/
def flashStart (s : State) (c : FlashCmd) : State :=
  if c.op = 1 then
    (s.setBlob Obj.flashData ((List.range 256).map fun i => s.flashByte c.cs (c.addr + i))).setN Obj.flashStatus 0
  else { s with power := { s.power with command := some c } }.setN Obj.flashStatus 1

/-- A command taken: refused by name, queued behind a journal write, or carried out (R469, R470). -/
def flashCommand (s : State) (c : FlashCmd) : State :=
  let r := s.flashRefusal c
  if r ≠ 0 then
    let s1 := s.setN Obj.flashStatus r
    if r = 0x0E10 then s1.inc Obj.flashSelfArray else s1
  else if s.power.write.isSome then
    let s1 : State := { s with power := { s.power with queued := some c } }
    (s1.setN Obj.flashStatus 1).inc Obj.flashWaits
  else s.flashStart c

/-- The command queued behind a journal write starts when the write has ended. -/
def flashNext (s : State) : State := match s.power.queued, s.power.write with
  | some c, none => ({ s with power := { s.power with queued := none } } : State).flashStart c
  | _, _ => s

/-- A journal write ends with a failure: the slot is not tried again until the next write falls due (R476).
(Log entry 84, DEDUCED) -/
def journalFail (s : State) (w : JournalWrite) : State :=
  let s1 : State := { s with power := { s.power with write := none } }
  ((s1.inc Obj.journalFails).faulted 0x0E04 w.slot 0).flashNext

/-- A host command ends: programmed octets are the old ones and the new ones joined, erased ones 0xFF; where verification
fails, what the array holds is open (R470, R506). -/
def flashDone (s : State) (c : FlashCmd) (ok : Bool) : State :=
  let n := flashSpan c
  let old := (List.range n).map fun i => s.flashByte c.cs (c.addr + i)
  let want := if c.op = 2 then (List.range n).map fun i => (old.getD i 0) &&& (c.data.getD i 0) else List.replicate n 0xFF
  let good := ok && (c.op != 2 || want == c.data)
  let s1 := if ok then s.flashPut c.cs c.addr want
    else s.drew.flashPut c.cs c.addr (padTo n (Config.freeOctets s.sys.free n))
  let s2 : State := { s1 with power := { s1.power with command := none } }
  let s3 := s2.setN Obj.flashStatus (if good then 0 else 0x0E13)
  if s3.mode = mHalted then s3 else if s3.power.write.isSome then s3.journalBegin else s3.flashNext

/-- A program or erase has completed and been read back. -/
def flashComplete (s : State) (ok : Bool) : State := match s.power.command, s.power.write with
  | some c, _ => s.flashDone c ok
  | none, some w => if w.started && !ok && s.running then s.journalFail w else s
  | none, none => s

/-- The header page of a journal write is programmed and verified, or not (R475, R476). -/
def journalDone (s : State) (ok : Bool) : State := match s.power.write with
  | none => s
  | some w =>
    if !w.started || !s.running then s
    else if ok then
      let s1 : State := { s with power := { s.power with write := none, slots := setAt s.power.slots w.slot (.valid w.body) } }
      (((s1.setN Obj.journalSeq w.body.seq).setN Obj.journalSlot w.slot).inc Obj.journalWrites).flashNext
    else s.journalFail w

/-- The tables that a journal slot restores: remapped words, positions and baselines, and with them POS_MODE and the state of the solution (R149,
R162, R477). (Log entry 104, DESIGN CHOICE) -/
def journalTables (s : State) (j : Journal) : State :=
  let s1 := (enum j.remaps).foldl (fun s x =>
    let used := ((List.range 16).filter fun i => bitOf (octetAt x.2 (8 * i)) 7).length
    (s.setBlob (Obj.memRemapTable x.1) x.2).setN (Obj.memRemapUsed x.1) used) s
  let s2 := (enum j.positions).foldl (fun s x =>
    if x.2.isEmpty then s else s.setBlob (if x.1 < 4 then Obj.posEcef x.1 else Obj.baseline (x.1 - 4)) x.2) s1
  -- a journalled survey is restored, and no new one starts (R149); entries of zeros are no positions
  let s3 := if (j.positions.take 4).all (fun p => p.all fun b => b == 0) then s2 else s2.setO Obj.posMode 0
  -- with a position of antenna 0 the solution waits for its first usable epoch (R162)
  if s3.o Obj.posMode = 0 ∧ s3.hasPosition = true then s3.setO Obj.solState 2 else s3

/-- The values that a journal slot restores: age, the pair's identity, the week, sentinels and the plan (R418, R477). -/
def journalValues (s : State) (j : Journal) : State :=
  let s1 := (s.setN Obj.ageEqHours j.age).setN Obj.lifeUsedPm (j.age * 1000 / (219150 * 65536))
  let s2 := if s1.flag Obj.twinEnable then
      { s1.setN Obj.twinPairIdentity j.identity with twin := { s1.twin with identity := j.identity } } else s1
  let week := if j.time = 0 then none else some ((timeSeconds j.time - 315964819) / 604800).toNat
  let s3 := (enum j.sentinels).foldl (fun s x => s.setN (Obj.roDegradation x.1) x.2) s2
  let s4 := match j.plan with
    | some p => ((s3.setN Obj.slackPlanPm p.slack).setN Obj.scrubPassLog2 p.scrub).setN Obj.vcoreTargetMv p.vcore
    | none => s3
  { s4 with
    power := { s4.power with read := some j, plan := j.plan, corrected := j.weak }
    glade := { s4.glade with checkpointWeek := week } }

/-- The journal read in BOOT: each torn slot is a fault, the valid slot with the higher SEQ is used (R477).
(Log entries 65, DEDUCED; 104, DESIGN CHOICE) -/
def journalRead (s : State) : State :=
  let s1 := (enum s.power.slots).foldl (fun s x => if x.2 = .torn then (s.inc Obj.journalTornSlots).faulted 0x0E05 x.1 0 else s) s
  match s1.journalNewest with
  | none => s1
  | some (k, j) =>
    (((s1.setN Obj.journalSeq j.seq).setN Obj.journalSlot k).journalTables j).journalValues j

/-- The journalled cookie keys restored where the digest, and with it JOURNAL_WRAP, matches, and tamper-count fuses are left (R300,
R324). -/
def restoreKeys (s : State) : State := match s.power.read with
  | some j =>
    if !j.keys.isEmpty && j.wrap == (s.slot 7).content && !j.wrap.isEmpty && decide (s.n Obj.tamperCount < 32) then
      let s1 : State := { s with serv := { s.serv with keySets := [(s.tick, j.keys)], lastRotate := j.rotated } }
      (s1.setF Obj.ntsKeysRestored true).showKeys
    else s
  | none => s

/-! ### The core supply (R472, R505) -/

/-- The start of the regulator at step 4 of BOOT: the plan of the journal, or the fused value and the margin.
(Log entry 86, DEDUCED) -/
def avsStart (s : State) (read : Option Nat) : State :=
  let t := match s.power.plan with
    | some p => p.vcore
    | none => max 700 (min 850 (5 * ceilDiv (s.n Obj.vcoreFuseMv + s.n Obj.avsMarginMv) 5))
  let s1 : State := { s.setN Obj.vcoreTargetMv t with power := { s.power with vout := t } }
  match read with
  | some v => s1.setN Obj.vcoreMeasuredMv v
  | none => (s1.inc Obj.avsFails).faulted 0x0E06 0 0

/-- READ_VOUT compared with the voltage commanded; a good reading lets a new target be approached by 5 mV a second.
(Log entry 86, DEDUCED) -/
def avsRead (s : State) (read : Option Nat) (second : Bool) : State :=
  let v := s.power.vout
  let near (x : Nat) : Bool := decide (x ≤ v + 10 ∧ v ≤ x + 10)
  let s1 := match read with | some x => s.setN Obj.vcoreMeasuredMv x | none => s
  if (match read with | some x => near x | none => false) = true then
    let t := s1.n Obj.vcoreTargetMv
    let next := if v < t then min t (v + 5) else if t < v then max t (v - 5) else v
    if second then { s1 with power := { s1.power with vout := next } } else s1
  else (s1.inc Obj.avsFails).faulted 0x0E06 0 0

/-! ### Temperature (R478–R480) -/

/-- The sensors read: Tj, the peak, the warning and its end. -/
def thermalRead (s : State) (t : List Int) : State :=
  let tj := t.foldl max (t.headD 0)
  let s1 := (enum t).foldl (fun s x => s.setO (Obj.tjSensor x.1) x.2) s
  let s2 := (s1.setO Obj.tjMax tj).setO Obj.tjPeak (max tj (s1.o Obj.tjPeak))
  let hot := if 1760 ≤ tj then some ((s2.power.hotSince).getD s2.age) else none
  let cool := if tj < 1680 then some ((s2.power.coolSince).getD s2.age) else none
  let s3 : State := { s2 with power := { s2.power with hotSince := hot, coolSince := cool } }
  if !s3.running then s3
  else match s3.o Obj.thermalState == 0, hot, cool with
    | true, some a, _ =>
      if a + 8 ≤ s3.age then ((s3.setO Obj.thermalState 1).inc Obj.thermalWarnings).faulted 0x0E01 ((t.findIdx fun x => x == tj)) 0 else s3
    | false, _, some a => if a + 8192 ≤ s3.age then s3.setO Obj.thermalState 0 else s3
    | _, _, _ => s3

/-- A trip: HALTED, or latched in RESET; no further flash command is issued (R479). -/
def thermalTrip (s : State) (sensor : Nat) : State :=
  if s.mode = mReset then
    (if s.sys.pwrOk then { s with power := { s.power with tripLatch := true, trippedBy := sensor } } else s)
  else
    let s1 : State := { s with power := { s.power with write := none, queued := none } }
    s1.faulted 0x0E02 sensor 0

/-! ### Sentinels, ageing and the plan (R481–R484) -/

/-- The object of a sentinel, its measurement, and its interval in ticks. -/
def sentinelOf (x : Sentinel) : Nat × Nat × Nat := match x with
  | .ring j d => (Obj.roDegradation j.val, d % 2 ^ 32, 60 * 8192)
  | .eye n m => (Obj.laneEyeMargin n.val, m.val, 3600 * 8192)
  | .sram b m => (Obj.sramVminMv b.val, m.val, 86400 * 8192)
  | .vco k m => (Obj.apllVcoTune k.val, m.val, 8192)

/-- A sentinel measured in W3, on its schedule. (Log entry 87, DEDUCED) -/
def sentinelTake (s : State) (x : Sentinel) : State :=
  let (k, v, every) := sentinelOf x
  let due := match Sparse.get (fun _ => none) s.power.sentAt k with | some a => decide (a + every ≤ s.age) | none => true
  if s.running && s.sys.window == .w3 && due then
    { s.setN k v with power := { s.power with sentAt := Sparse.put (fun _ => none) s.power.sentAt k (some s.age) } }
  else s

/-- The thermal acceleration of a second at Tj, in 2^-96 of 2^-16 h: exp of 0.7 eV / k × (1/368.15 K − 1/T), with k =
8.617333262×10^-5 eV/K, over 3,600. (Log entry 87, DEDUCED) -/
def ageStep (tj : Int) : Int :=
  let t := 10 * tj + 43704
  if t ≤ 0 then 0
  else
    let x := 70000000000000 * (100 * t - 160 * 36815) * fpOne / (8617333262 * 36815 * t)
    65536 * fpExp x / 3600

/-- A second of ageing. -/
def ageSecond (s : State) : State :=
  let sum := s.power.ageRest + ageStep (s.o Obj.tjMax)
  let h := s.n Obj.ageEqHours + (sum / fpOne).toNat
  let s1 := (s.setN Obj.ageEqHours h).setN Obj.lifeUsedPm (h * 1000 / (219150 * 65536))
  { s1 with power := { s1.power with ageRest := sum % fpOne } }

/-- The voltage that a plan gives, and whether the rule was held at 850 mV (R483). (Log entry 86, DEDUCED) -/
def planVoltage (s : State) : Nat × Bool :=
  let dmax := maxN ((List.range 32).map fun j => s.n (Obj.roDegradation j))
  let base := max 700 (s.n Obj.vcoreFuseMv + 5 * ceilDiv (dmax * 500) (2 ^ 24) + s.n Obj.avsMarginMv)
  let vmin := maxN ((List.range 21).map fun b => s.n (Obj.sramVminMv b))
  let raised := if vmin + 50 ≤ base then base else base + 5 * ceilDiv (vmin + 50 - base) 5
  let even := 5 * ceilDiv raised 5
  (min 850 even, decide (850 < even))

/-- TP_RECAL_INTERVAL_S from the largest drift: 60 × floor(0.05 ps / (ρ × 60 s)); F counts 2^-20 ns (R483). -/
def planRecal (s : State) : Nat := match s.power.drift with
  | some (df, da) => if df = 0 then 3600 else max 60 (min 3600 (60 * (da / (9375 * df))))
  | none => 3600

/-- The plan computed (R483, R484). (Log entries 40, DEDUCED; 87, DEDUCED) -/
def planCompute (s : State) : State × Plan :=
  let full := (List.range 21).filter fun b => decide (12 ≤ s.n (Obj.memRemapUsed b))
  let b := full.length
  let slack := max 80 (min 250 (80 + ceilDiv (1000 * s.power.wbMost) 155000 + 10 * b))
  let rose := (List.range 21).any fun k => decide (Sparse.get (fun _ => 0) s.power.ceBase k + 1000 < s.n (Obj.memCeCount k))
  let clean := if rose || decide (0 < b) then 0 else s.power.clean + 1
  let was := match s.power.plan with | some p => p.scrub | none => 16
  let scrub := if rose || decide (0 < b) then 16 - (if rose then 1 else 0) - (if 0 < b then 1 else 0) else if 7 ≤ clean then 16 else was
  let (v, held) := s.planVoltage
  let fit := Config.marginFit s.sys.free
  let history := decide (30 ≤ s.n Obj.planCount + 1)
  let days := if history then fit.1 % 2 ^ 32 else 0xFFFF_FFFF
  let limiter := if held then 2 else if history then 1 + fit.2 % 5 else 0
  ({ s.drew with power := { s.power with clean := clean } }, ⟨v, s.planRecal, slack, scrub, days, limiter⟩)

/-- Words corrected 3 times or more are remapped ahead of failure, while the bank keeps at least 4 free entries (R483). -/
def planSpares (s : State) : State :=
  let words := s.power.corrected.filter fun x => decide (3 ≤ x.2)
  words.foldl (fun s x =>
    let bank := x.1 / 2 ^ 21
    let waiting := (s.shuttle.hard.filter fun w => w.1 == bank).length
    if s.n (Obj.memRemapUsed bank) + waiting + 1 ≤ 12 ∧ !s.shuttle.hard.contains (bank, x.1 % 2 ^ 21) then
      { s with shuttle := { s.shuttle with hard := s.shuttle.hard ++ [(bank, x.1 % 2 ^ 21)] } }
    else s) s

/-- A plan starts at a boundary of tick index 0, 24 h after the last start (R482). -/
def planStart (s : State) : State :=
  let due := match s.power.planStart with | some a => decide (a + 707788800 ≤ s.age) | none => true
  if s.running && s.index == 0 && due && s.o Obj.selvageState == 0 then
    { s.setO Obj.selvageState 1 with power := { s.power with planStart := some s.age } }.setN Obj.lastPlanTick s.tick
  else s

/-- A plan is complete: its results wait for the next boundary of tick index 0, and the journal is written (R482).
(Log entry 87, DEDUCED) -/
def planComplete (s : State) : State :=
  if s.o Obj.selvageState = 1 ∧ s.running = true then
    let (s1, p) := s.planSpares.planCompute
    let base := (List.range 21).foldl (fun (t : Tbl Nat) b => Sparse.put (fun _ => 0) t b (s1.n (Obj.memCeCount b))) []
    let s2 : State := { s1 with power := { s1.power with
      planDone := some p, drift := none, ceBase := base, corrected := [], wbMost := 0 } }
    ((s2.setO Obj.selvageState 0).inc Obj.planCount).journalTrigger
  else s

/-- The results of a completed plan written to their objects at a boundary of tick index 0 (R482). -/
def planApply (s : State) : State := match s.power.planDone with
  | some p =>
    if s.index = 0 then
      let s1 := ((s.setN Obj.vcoreTargetMv p.vcore).setN Obj.slackPlanPm p.slack).setN Obj.scrubPassLog2 p.scrub
      let s2 := (s1.setN Obj.marginRemainDays p.days).setN Obj.marginLimiter p.limiter
      let s3 := (List.range 64).foldl (fun s q => s.setN (Obj.tpRecalIntervalS q) p.recal) s2
      { s3 with power := { s3.power with planDone := none, plan := some p } }
    else s
  | none => s

end State

/-! ### Commands -/

/-- A host or Forester command for the flash (R470). -/
def State.flashAsk (s : State) (by_ : FlashBy) (c : FlashCmd) : State :=
  let may := match by_ with
    | .host h => h && s.running && s.o Obj.flashStatus != 1
    | .forester => s.alive && s.power.command.isNone && s.power.queued.isNone
  if may then s.flashCommand c else s

/-- FLASH_READ: OP 1 reads 256 octets into FLASH_DATA. -/
def execFlashRead (who : FlashBy) (cs : Fin 2) (addr : Fin 4294967296) (s : State) : Host.Outcome State Fault Refusal :=
  .next (s.flashAsk who ⟨1, cs.val, addr.val, []⟩)

/-- FLASH_PROGRAM: OP 2 programs one page. -/
def execFlashProgram (who : FlashBy) (cs : Fin 2) (addr : Fin 4294967296) (data : Octets) (s : State) :
    Host.Outcome State Fault Refusal :=
  if 1 ≤ data.length ∧ data.length ≤ 256 then .next (s.flashAsk who ⟨2, cs.val, addr.val, data⟩) else .next s

/-- FLASH_SECTOR_ERASE: OP 3 erases a 4 KiB sector. -/
def execFlashSectorErase (who : FlashBy) (cs : Fin 2) (addr : Fin 4294967296) (s : State) : Host.Outcome State Fault Refusal :=
  .next (s.flashAsk who ⟨3, cs.val, addr.val, []⟩)

/-- FLASH_BLOCK_ERASE: OP 4 erases a 64 KiB block. -/
def execFlashBlockErase (who : FlashBy) (cs : Fin 2) (addr : Fin 4294967296) (s : State) : Host.Outcome State Fault Refusal :=
  .next (s.flashAsk who ⟨4, cs.val, addr.val, []⟩)

/-- FLASH_COMMAND_COMPLETE: a program or erase ends; `ok` tells that its read-back agrees (R470, R475, R506). -/
def execFlashCommandComplete (ok : Bool) (s : State) : Host.Outcome State Fault Refusal := .next (s.flashComplete ok)

/-- JOURNAL_INTERVAL_EXPIRE: JOURNAL_INTERVAL_S has passed since the last write started (R475). -/
def execJournalIntervalExpire (s : State) : Host.Outcome State Fault Refusal :=
  if s.running && decide (s.power.lastWrite + s.n Obj.journalIntervalS * 8192 ≤ s.age) then .next s.journalTrigger else .next s

/-- JOURNAL_NOW: 1 is written to 0xE110:08 (R475); it applies at the next boundary. -/
def execJournalNow (cls : PortClass) (s : State) : Host.Outcome State Fault Refusal :=
  if s.running && (cls == .hostH || cls == .mgmtM) then .next (s.addDue false .journalNow) else .next s

/-- JOURNAL_WRITE_COMPLETE: the last page of a journal write ends; `ok` tells that it is verified (R475, R476). -/
def execJournalWriteComplete (ok : Bool) (s : State) : Host.Outcome State Fault Refusal := .next (s.journalDone ok)

/-- AVS_READBACK: once a second READ_VOUT is read; none where the regulator does not answer (R472). -/
def execAvsReadback (mv : Option (Fin 65536)) (s : State) : Host.Outcome State Fault Refusal :=
  if s.running then .next (s.avsRead (mv.map (·.val)) true) else .next s

/-- PMBUS_ALERT: a fall of PMBUS_ALERT_N triggers the read-back at once (R505). -/
def execPmbusAlert (mv : Option (Fin 65536)) (s : State) : Host.Outcome State Fault Refusal :=
  if s.running then .next (s.avsRead (mv.map (·.val)) false) else .next s

/-- THERMAL_SENSOR_READ: the eight sensors, in 2^-4 °C (R478). -/
def execThermalSensorRead (t : List Int) (s : State) : Host.Outcome State Fault Refusal :=
  if s.mode ≠ mReset ∧ t.length = 8 ∧ (t.all fun x => decide (-32768 ≤ x ∧ x ≤ 32767)) = true then .next (s.thermalRead t) else .next s

/-- THERMAL_TRIP: a sensor at 125 °C or more in two consecutive samples (R479). -/
def execThermalTrip (sensor : Fin 8) (s : State) : Host.Outcome State Fault Refusal := .next (s.thermalTrip sensor.val)

/-- SENTINEL_MEASURE (R481). -/
def execSentinelMeasure (x : Sentinel) (s : State) : Host.Outcome State Fault Refusal := .next (s.sentinelTake x)

/-- SELVAGE_PLAN_START (R482). -/
def execSelvagePlanStart (s : State) : Host.Outcome State Fault Refusal := .next s.planStart

/-- SELVAGE_PLAN_COMPLETE (R482–R484). -/
def execSelvagePlanComplete (s : State) : Host.Outcome State Fault Refusal := .next s.planComplete

/-- AGE_UPDATE: once a second (R484). -/
def execAgeUpdate (s : State) : Host.Outcome State Fault Refusal := if s.running then .next s.ageSecond else .next s

end Sys2Proof.Machine
end

