-- ==== Sys2Proof/Machine/Loom.lean ====
section
/-!
DEFINITION. The Loom: cost coefficients, loads and admission (R45–R51, R58).  A load is a function of the objects alone,
so that it can be taken of the configuration that a batch would leave.
-/

namespace Sys2Proof.Machine

/-- A resource of R47: its code (R51), window, pooled units, and L_r. -/
structure LoomRes where
  code : Nat
  window : Nat
  units : Nat
  load : Nat
  deriving DecidableEq, Repr

/-- The length of a window in engine cycles (R41). -/
def windowLen (w : Nat) : Nat := if w = 0 then 12000 else if w = 1 then 24000 else if w = 2 then 104000 else 15000

namespace State

/-- A rate as a cap per grove and tick: ceil(ρ / 131,072) (R48). -/
def rateCap (s : State) (k : Nat) : Nat := ceilDiv (s.n k) 131072

/-- The five caps in the order of 0x2203: NTS, NTP, PTP event, PTP general, ESMC. -/
def caps (s : State) : List Nat := [Obj.rateNts, Obj.rateNtp, Obj.ratePtpEvent, Obj.ratePtpGeneral, Obj.rateEsmc].map s.rateCap

/-- MIRROR_ALLOWANCE (R435). -/
def mirrorCap (s : State) : Nat := s.rateCap Obj.twinMirrorRate

/-- The members declared by the configuration. -/
def cfgMembers (s : State) : Nat :=
  (memberIds.filter fun m => let b := s.blob (Obj.ensMemberCfg m); !allZero b && octetAt b 1 != 0).length

/-- COST_CANOPY_W1 of a configuration (R223). -/
def cfgCanopyCost (s : State) : Nat :=
  3520 + 600 * s.cfgMembers + 80 * (classTIds.filter fun id => s.o (Obj.refPriority id) != 0).length +
    40 * (classFIds.filter fun id => s.o (Obj.refPriority id) != 0).length

/-- Words of the raw allowance of a port: ceil(m × 74 / 64) with m = ceil(rate / 8,192) (R47, R88). -/
def rawWords (s : State) (p : Nat) : Nat :=
  if s.o (Obj.tpRawMode p) = 0 ∨ s.o (Obj.tpRole p) = 0 then 0
  else
    let rate := ceilDiv (2 ^ 20 * 1000000000) (max 1 (s.n (Obj.tpNominalPeriod p) * s.n (Obj.tpStampDivider p) * s.n (Obj.tpRawDivider p)))
    ceilDiv (ceilDiv rate 8192 * 74) 64

/-- The stamp drain path (R47). (Log entry 54, DEDUCED) -/
def stampLoad (s : State) : Nat :=
  sumN ((List.range 64).map fun p => s.rawWords p + (if s.flag (Obj.tpRegEnable p) && s.o (Obj.tpRole p) != 0 then 4 else 0))

/-- COST_FORESTER_W1 = 1,600 + K_w (R49). (Log entry 54, DEDUCED) -/
def foresterCost (s : State) : Nat :=
  let reg := 5 * (((List.range 64).filter fun p => s.flag (Obj.tpRegEnable p)).length + 21)
  let pps := (List.range 16).map (· + 0x10)
  let raw := sumN (pps.map fun id =>
    let p := octetAt (s.blob (Obj.refBinding id)) 0
    if p < 64 ∧ s.o (Obj.tpRawMode p) ≠ 0 then s.rawWords p + 1 else 0)
  let on := classTIds.filter fun id => id != 1 && s.o (Obj.refPriority id) != 0
  let obs := sumN (on.map fun id => if id < 0x20 then 12 else 6)
  1600 + reg + raw + obs + (if s.flag Obj.gladeEnable then 14 else 0) + 16

/-- COST_VAULT_W3 (R318). -/
def vaultCost (s : State) : Nat := 2600 + 40 * s.n Obj.mintPerTick

/-- The engines and AES lanes of a grove in service, as at the last boundary (R47, R62). -/
def unitsOf (s : State) (g : Nat) : Nat × Nat := Sparse.get (fun _ => (16, 2)) s.sys.units g

/-- The engines and AES lanes that a grove has for work: 16 unless more than one of its 17 engines is out, and both lanes until its
self-test finds one out (R47). (Log entry 54, DEDUCED) -/
def unitsNow (s : State) (g : Nat) : Nat × Nat :=
  let out := ((List.range 17).filter fun e => s.o (Obj.engineState g e) == 5).length
  let tested := s.o (Obj.groveState g) != 1 || s.shuttle.ready.any fun x => x.1 == g
  (min 16 (17 - out), if tested then popCount (s.n (Obj.aesLaneState g)) 2 else 2)

/-- The units of every grove that carries load, taken at a boundary (R47, R62). -/
def latchUnits (s : State) : State :=
  (List.range 16).foldl (fun s g => if 1 ≤ s.o (Obj.groveState g) ∧ s.o (Obj.groveState g) ≤ 3 then
    { s with sys := { s.sys with units := Sparse.put (fun _ => (16, 2)) s.sys.units g (s.unitsNow g) } } else s) s

/-- A grove that carries load: STARTING, READY or SERVING (R47). -/
def groveLoaded (s : State) (g : Nat) : Bool := let st := s.o (Obj.groveState g); decide (1 ≤ st ∧ st ≤ 3)

/-- The resources of one grove with their loads (R46, R47, R58). -/
def groveLoads (s : State) (g : Nat) : List LoomRes :=
  if !s.groveLoaded g then []
  else
    let c := s.caps
    let m := s.mirrorCap
    let hand := (sumN c + m) * s.n Obj.costHandoffW0
    let eng := [Obj.costNtsEng, Obj.costNtpEng, Obj.costPtpEventEng, Obj.costPtpGeneralEng, Obj.costEsmcEng].map s.n
    let u := (s.unitsOf g).1
    let work := sumN ((c.zip eng).map fun x => x.1 * x.2) + m * s.n Obj.costNtsEng
    let engines := u * s.n Obj.costEngineFixed + work + (if 1 < u then maxN (s.n Obj.costEngineFixed :: eng) else 0)
    let lanes := (s.unitsOf g).2
    let nts := s.n Obj.costNtsAes
    let ptp := s.n Obj.costPtpEventAes
    let aes := c.getD 0 0 * nts + c.getD 2 0 * ptp + (if bitOf (s.n Obj.twinMirror) 1 then m * nts else 0) + (if 1 < lanes then max nts ptp else 0)
    [⟨g, 0, 1, hand⟩, ⟨0x0300 + g, 2, u, engines⟩, ⟨0x0400 + g, 2, lanes, aes⟩, ⟨0x0500 + g, 3, 1, s.n Obj.costCheckpointW3⟩]

/-- Every resource with its load, in the order of their codes within a kind (R47, R51). (Log entry 54, DEDUCED) -/
def loomLoads (s : State) : List LoomRes :=
  ((List.range 16).map s.groveLoads).flatten ++
    [⟨0x0100, 0, 1, s.stampLoad⟩, ⟨0x0101, 0, 1, if s.flag Obj.gladeEnable then 2048 else 0⟩, ⟨0x0200, 1, 1, s.cfgCanopyCost⟩,
     ⟨0x0201, 1, 1, s.foresterCost⟩, ⟨0x0600, 3, 1, s.n Obj.costForesterW3⟩, ⟨0x0601, 3, 1, s.vaultCost⟩]

/-- K_r at the effective slack in force (R46). (Log entry 54, DEDUCED) -/
def loomRoom (s : State) (r : LoomRes) : Nat := r.units * windowLen r.window * (1000 - s.n Obj.slackEffectivePm) / 1000

/-- The load of a resource in a list, 0 where it is left out. -/
def loadIn (l : List LoomRes) (code : Nat) : Nat := match l.find? fun r => r.code == code with
  | some r => r.load
  | none => 0

/-- The resources that do not fit, with their deficits. -/
def loomOver (s : State) (l : List LoomRes) : List (LoomRes × Nat) :=
  l.filterMap fun r => if s.loomRoom r < r.load then some (r, r.load - s.loomRoom r) else none

/-- The resources whose load rises from one configuration to another. -/
def loomRaised (before after : List LoomRes) : List LoomRes := after.filter fun r => decide (loadIn before r.code < r.load)

/-- The failing resource that is recorded: the largest deficit, then the lowest code (R51). -/
def loomWorst (l : List (LoomRes × Nat)) : Option (LoomRes × Nat) :=
  l.foldl (fun b x => match b with
    | none => some x
    | some y => if y.2 < x.2 ∨ (y.2 = x.2 ∧ x.1.code < y.1.code) then some x else some y) none

/-- Admission of a configuration `after` against `before`, at the slack of `s` (R46, R50): none when it is admitted, else
the resource to record with its deficit.  Under SLACK_SHORTFALL a raised resource that fits has the deficit 0, and where all of them
fit the lowest code is recorded (R51). (Log entry 54, DEDUCED) -/
def loomAdmit (s : State) (before after : List LoomRes) : Option (LoomRes × Nat) :=
  if s.flag Obj.slackShortfall then
    loomWorst ((loomRaised before after).map fun r => (r, r.load - s.loomRoom r))
  else loomWorst (s.loomOver after)

/-- A refusal recorded (R51). -/
def loomRefuse (s : State) (x : LoomRes × Nat) : State :=
  (((s.setN Obj.admitLastWindow x.1.window).setN Obj.admitLastResource x.1.code).setN Obj.admitLastDeficit x.2).inc Obj.admitRefusals

/-- The caps, costs and loads that the running configuration gives (R47–R49), the effective slack, and SLACK_SHORTFALL, which
is set when the slack in force changes or a grove's units fall, and clears once every resource fits (R50, R62). -/
def loomBoundary (s : State) : State :=
  let c := s.caps
  let s1 := (enum c).foldl (fun s x => s.setN (Obj.capNts + x.1) x.2) s.latchUnits
  let s2 := (((s1.setN Obj.mirrorAllowance s.mirrorCap).setN Obj.costCanopyW1 s.cfgCanopyCost).setN Obj.costForesterW1 s.foresterCost).setN
    Obj.costVaultW3 s.vaultCost
  let s3 := s2.setN Obj.slackEffectivePm (max (s.n Obj.slackPlanPm) (s.n Obj.slackFloorPm))
  let l := s3.loomLoads
  let pm (w : Nat) : Nat := maxN ((l.filter fun r => r.window == w).map fun r => ceilDiv (r.load * 1000) (max 1 (r.units * windowLen w)))
  let s4 := (List.range 4).foldl (fun s w => s.setN (Obj.loadPm w) (pm w)) s3
  s4.setF Obj.slackShortfall (!(s4.loomOver l).isEmpty)

end State

end Sys2Proof.Machine
end

