-- ==== Sys2Proof/Machine/Values.lean ====
section
/-!
DEFINITION. The values of the object dictionary: which objects exist, the octets of a value, the limits that the object
tables state, and reserved fields (R8, R329–R331, and the Notes of every object table).
-/

namespace Sys2Proof.Machine

/-- The limits of a numeric object or of a range of objects. -/
structure ValueRange where
  keyLo : Nat
  keyHi : Nat
  lo : Int
  hi : Int
  deriving DecidableEq, Repr

/-- Ranges of numeric objects, part 0. -/
def ranges0 : List ValueRange :=
  [ ⟨0x210004, 0x210004, 0, 2⟩, ⟨0x210006, 0x210006, 0, 3600⟩, ⟨0x220007, 0x220007, 0, 300⟩, ⟨0x231202, 0x231202, 3600, 172800⟩,
    ⟨0x500000, 0x5000FF, 0, 2⟩, ⟨0x500100, 0x5001FF, 0, 1⟩, ⟨0x500200, 0x5002FF, 1310720, 10485760000000000⟩, ⟨0x500300, 0x5003FF, 1, 16777216⟩,
    ⟨0x500400, 0x5004FF, 0, 23⟩, ⟨0x500600, 0x5006FF, 0, 2⟩, ⟨0x500700, 0x5007FF, 0, 15⟩, ⟨0x500800, 0x5008FF, 1, 16777216⟩,
    ⟨0x400004, 0x400004, 1, 1000⟩, ⟨0x400005, 0x400005, 0, 1⟩, ⟨0x400006, 0x400006, 1, 4⟩, ⟨0x400200, 0x4002FF, 1, 4⟩,
    ⟨0x402000, 0x4020FF, 32, 128⟩, ⟨0x402100, 0x4021FF, 0, 32⟩, ⟨0x402200, 0x4022FF, 0, 1024⟩, ⟨0x403100, 0x4031FF, 6, 40⟩,
    ⟨0x403200, 0x4032FF, 4, 12⟩, ⟨0x404000, 0x4040FF, 0, 1⟩, ⟨0x404100, 0x4041FF, 460, 770⟩, ⟨0x405001, 0x405001, 1, 32⟩,
    ⟨0x405002, 0x405002, 125, 1000⟩, ⟨0x405003, 0x405003, 768, 4096⟩, ⟨0x405004, 0x405004, 500, 50000⟩, ⟨0x406400, 0x4064FF, 32, 400⟩,
    ⟨0x406500, 0x4065FF, 13, 512⟩, ⟨0x406600, 0x4066FF, 32, 320⟩ ]

/-- Ranges of numeric objects, part 1. -/
def ranges1 : List ValueRange :=
  [ ⟨0x406800, 0x4068FF, 0, 1⟩, ⟨0x407801, 0x407801, 0, 1⟩, ⟨0x407802, 0x407802, 4, 32⟩, ⟨0x410002, 0x410002, 1, 3⟩,
    ⟨0x410003, 0x410003, 0, 1⟩, ⟨0x410005, 0x410005, 0, 5760⟩, ⟨0x410006, 0x410006, 1, 600⟩, ⟨0x410007, 0x410007, 0, 1⟩,
    ⟨0x410008, 0x410008, 10, 10000⟩, ⟨0x412100, 0x4121FF, 0, 1⟩, ⟨0x412201, 0x412201, 3600, 604800⟩, ⟨0x412202, 0x412202, 10, 5000⟩,
    ⟨0x412205, 0x412205, 100, 10000⟩, ⟨0x413002, 0x413002, 0, 4⟩, ⟨0x414001, 0x414001, 0, 2⟩, ⟨0x414004, 0x414004, 1, 60⟩,
    ⟨0x414005, 0x414005, 1, 3600⟩, ⟨0x414006, 0x414006, 3, 255⟩, ⟨0x414007, 0x414007, 1, 3600⟩, ⟨0x211201, 0x211201, 0, 2⟩,
    ⟨0x211202, 0x211202, 0, 10⟩, ⟨0x300005, 0x300005, 0, 600⟩, ⟨0x300008, 0x300008, 1, 600⟩, ⟨0x300200, 0x3002FF, 0, 3600⟩,
    ⟨0x300D00, 0x300DFF, 0, 1⟩, ⟨0x300E00, 0x300EFF, 10, 1000000⟩, ⟨0x300F00, 0x300FFF, 1, 60⟩, ⟨0x304001, 0x304001, 0, 1⟩,
    ⟨0x308100, 0x3081FF, 0, 16777215⟩, ⟨0x308200, 0x3082FF, 0, 16777215⟩ ]

/-- Ranges of numeric objects, part 2. -/
def ranges2 : List ValueRange :=
  [ ⟨0x510000, 0x5100FF, 0, 3⟩, ⟨0x510300, 0x5103FF, 0, 1⟩, ⟨0x510700, 0x5107FF, 4800, 921600⟩, ⟨0x510800, 0x5108FF, 5, 1000⟩,
    ⟨0x510E00, 0x510EFF, 2621440, 10485760000000000⟩, ⟨0x310200, 0x3102FF, 0, 1⟩, ⟨0x310300, 0x3103FF, 1000, 2592000⟩, ⟨0x311002, 0x311002, 1000, 2592000⟩,
    ⟨0x311003, 0x311003, 1073741824, 4294967295⟩, ⟨0x311004, 0x311004, 600, 604800⟩, ⟨0x311006, 0x311006, 589824, 26214400⟩, ⟨0x311007, 0x311007, 1, 60⟩,
    ⟨0x311008, 0x311008, 1000, 100000⟩, ⟨0x311009, 0x311009, 0, 31536000⟩, ⟨0x31100A, 0x31100A, 1, 1000⟩, ⟨0x312004, 0x312004, 1000, 10000000⟩,
    ⟨0x320001, 0x320001, 256, 1536⟩, ⟨0x322000, 0x3220FF, 1, 4294967294⟩, ⟨0x323003, 0x323003, 0, 2⟩, ⟨0x600000, 0x6000FF, 0, 4⟩,
    ⟨0x600100, 0x6001FF, 0, 2⟩, ⟨0x600400, 0x6004FF, 64, 9216⟩, ⟨0x601500, 0x6015FF, 5, 1000⟩, ⟨0x605101, 0x605101, 1, 2⟩,
    ⟨0x605102, 0x605102, 0, 15⟩, ⟨0x605103, 0x605103, 0, 15⟩, ⟨0x605104, 0x605104, 0, 15⟩, ⟨0x700004, 0x700004, 0, 16000000⟩,
    ⟨0x700005, 0x700005, 0, 16000000⟩, ⟨0x701002, 0x701002, 48, 128⟩ ]

/-- Ranges of numeric objects, part 3. -/
def ranges3 : List ValueRange :=
  [ ⟨0x701100, 0x7011FF, 1, 4096⟩, ⟨0x701200, 0x7012FF, 1, 255⟩, ⟨0x703001, 0x703001, 3600, 604800⟩, ⟨0x703006, 0x703006, 0, 7⟩,
    ⟨0x800006, 0x800006, 8, 65535⟩, ⟨0x800007, 0x800007, 0, 256⟩, ⟨0xE03002, 0xE03002, 1, 4096⟩, ⟨0x900102, 0x900102, 8, 8388608⟩,
    ⟨0x900501, 0x900501, 1, 3600⟩, ⟨0x900502, 0x900502, 0, 15⟩, ⟨0xB00004, 0xB00004, 0, 3600⟩, ⟨0xB00005, 0xB00005, 10, 10000⟩,
    ⟨0xB00008, 0xB00008, 1, 3⟩, ⟨0xB01002, 0xB01002, 0, 10⟩, ⟨0xB01003, 0xB01003, 0, 10⟩, ⟨0xB01004, 0xB01004, 5, 20⟩,
    ⟨0xC10004, 0xC10004, 1, 4⟩, ⟨0xC1000A, 0xC1000A, 0, 1⟩, ⟨0xA02001, 0xA02001, 0, 50⟩, ⟨0xE11004, 0xE11004, 600, 86400⟩,
    ⟨0xE14000, 0xE140FF, 0, 2⟩, ⟨0xE14300, 0xE143FF, 0, 0⟩, ⟨0xE14900, 0xE149FF, 8, 119⟩, ⟨0xE16001, 0xE16001, 9600, 921600⟩,
    ⟨0xE16002, 0xE16002, 0, 2⟩ ]

/-- The ranges that the object tables state. -/
def valueRanges : List ValueRange := ranges0 ++ ranges1 ++ ranges2 ++ ranges3


/-- The row of an object, none where the manual has no such object (R329). -/
def objectRow (idx sub : Nat) : Option ObjRow :=
  let k := idx * 256 + sub
  if keyed k then objRow k else none

/-- The code of a type (R330). -/
def ObjTy.code : ObjTy → Nat
  | .bool => 1 | .u8 => 2 | .u16 => 3 | .u32 => 4 | .u64 => 5 | .i16 => 7 | .i32 => 8 | .i64 => 9
  | .time80 => 0x0A | .bound32 => 0x0B | .str => 0x0C | .blob => 0x0D | .keyref => 0x0E

/-- Octets of a value of fixed length. -/
def ObjTy.octets : ObjTy → Nat
  | .bool | .u8 => 1 | .u16 | .i16 => 2 | .u32 | .i32 | .bound32 => 4 | .u64 | .i64 | .keyref => 8 | .time80 => 14 | .str | .blob => 0

/-- A signed type. -/
def ObjTy.isSigned : ObjTy → Bool
  | .i16 | .i32 | .i64 => true
  | _ => false

/-- A type whose values are octets. -/
def ObjTy.isOctets : ObjTy → Bool
  | .str | .blob => true
  | _ => false

/-- The smallest and largest length of a BLOB or STR object, as its row states. -/
def blobLen (k : Nat) : Nat × Nat :=
  let fix (n : Nat) : Nat × Nat := (n, n)
  let idx := k / 256
  if k = Obj.anchorRecord then fix 48 else if k = Obj.leapEntryWrite then fix 16 else if idx = 0x2311 then fix 16
  else if idx = 0x5014 then fix 40 else if idx = 0x4034 then fix 32 else if idx = 0x4070 then fix 4
  else if k = Obj.solLast then fix 64 else if idx = 0x411A then fix 56 else if idx = 0x4120 then fix 32 else if idx = 0x4123 then fix 16
  else if idx = 0x300A then fix 8 else if idx = 0x3084 then fix 8 else if idx = 0x3090 then fix 32 else if idx = 0x5109 then (0, 256)
  else if idx = 0x3100 then fix 32 else if idx = 0x3121 then fix 24 else if k = Obj.timeAndBound then fix 26 else if idx = 0x3202 then fix 192
  else if idx = 0x6020 then fix 128 else if idx = 0x6030 then fix 16 else if idx = 0x6040 then fix 4 else if idx = 0x7040 then fix 32
  else if idx = 0x7050 then fix 16 else if idx = 0x7060 then fix 40 else if idx = 0x7070 then fix 20 else if k = Obj.bootDigest then fix 48
  else if idx = 0x8001 then (8, 72) else if idx = 0x8002 then fix 249 else if idx = 0x8003 then fix 97 else if idx = 0x8010 then fix 16
  else if idx = 0x8011 then fix 97 else if k = 0x100003 then fix 16 else if k = 0x100004 then fix 6 else if k = Obj.mgmtIpv4 then fix 12
  else if k = Obj.mgmtIpv6 then fix 36 else if k = Obj.mgmtAllow then fix 160 else if idx = 0xD108 then fix 128
  else if 0x9100 ≤ idx ∧ idx ≤ 0x910F then fix 512 else if k = 0xF00002 then fix 16 else if k = Obj.twinPeerId then fix 32
  else if k = 0xE12001 then (16, 272) else if k = 0xE12003 then fix 256 else if idx = 0xE141 then (8, 72) else if idx = 0xE142 then (4, 68)
  else (0, 255)

/-- The largest length of a value (R337). -/
def ObjRow.maxLen (r : ObjRow) (k : Nat) : Nat := if r.ty.isOctets then (blobLen k).2 else r.ty.octets

/-- A written length is one that the type or the object allows (R330). -/
def ObjRow.lengthOk (r : ObjRow) (k : Nat) (data : Octets) : Bool :=
  if r.ty.isOctets then decide ((blobLen k).1 ≤ data.length ∧ data.length ≤ (blobLen k).2) &&
    (k / 256 != 0x5109 || data.length % 16 == 0)
  else data.length == r.ty.octets

/-- The number that the octets of a value of fixed length stand for; a TIME80 with NANOSECONDS out of range stands for none. -/
def ObjTy.number (t : ObjTy) (data : Octets) : Option Int :=
  if t = .time80 then decTime80 data
  else if t = .bool then (if beNat data ≤ 1 then some (beNat data : Int) else none)
  else some (if t.isSigned then signed (8 * t.octets) (beNat data) else (beNat data : Int))

/-- The octets of a number of a type. -/
def ObjTy.encode (t : ObjTy) (v : Int) : Octets := if t = .time80 then encTime80 v else toBEInt t.octets v

/-- Bits that a numeric object keeps; the rest are reserved (R8). -/
def keptBits (k : Nat) : Option Nat :=
  let idx := k / 256
  if k = Obj.smearEnable then some 0x07 else if idx = 0x4001 then some 0x07 else if idx = 0x4006 then some 0x83
  else if k = Obj.boundTlvEnable then some 0x0F else if idx = 0x6007 then some 0x03 else if k = Obj.svcEnable then some 0x07
  else if idx = 0xE016 then some 0x0F else if k = Obj.ackPolicy then some 0x03 else if k = Obj.injArm then some 0x03
  else if k = Obj.twinMirror then some 0x03 else if idx = 0x5120 then some 0x07
  else none

/-- A numeric value with its reserved bits cleared. -/
def keepNum (k : Nat) (v : Int) : Int := match keptBits k with
  | some m => ((v.toNat &&& m : Nat) : Int)
  | none => v

/-- An octet string with the octets of a list of offsets cleared. -/
def clearAt (b : Octets) (offs : List Nat) : Octets := (enum b).map fun x => if offs.contains x.1 then 0 else x.2

/-- An octet string with bits of one octet kept. (Log entry 14, DEDUCED) -/
def keepAt (b : Octets) (off mask : Nat) : Octets := (enum b).map fun x => if x.1 = off then BitVec.ofNat 8 (x.2.toNat &&& mask) else x.2

/-- A BLOB value with its reserved fields cleared (R8). -/
def keepBlob (k : Nat) (b : Octets) : Octets :=
  let idx := k / 256
  let from_ (a n : Nat) : List Nat := (List.range n).map (· + a)
  let every (step : Nat) (offs : List Nat) : List Nat := ((List.range (b.length / step)).map fun j => offs.map (· + step * j)).flatten
  if idx = 0x4120 then clearAt b (from_ 28 4) else if idx = 0x4123 then clearAt b [15]
  else if idx = 0x300A then clearAt b (from_ 2 6) else if idx = 0x3090 then keepAt (clearAt b [9]) 8 3
  else if idx = 0x5109 then clearAt b (every 16 [4, 5, 6, 7]) else if idx = 0x3100 then clearAt b [6, 7]
  else if idx = 0x6020 then
    let c := clearAt b (every 8 [7])
    (List.range (b.length / 8)).foldl (fun b j => keepAt b (8 * j + 6) 1) c
  else if idx = 0x6030 then keepAt (clearAt b [9, 14, 15]) 0 0x1F
  else if idx = 0x6040 then clearAt b [3] else if idx = 0x7040 then keepAt (clearAt b (from_ 22 10)) 3 0x1F
  else if idx = 0x7050 then clearAt b (from_ 12 4) else if idx = 0x7060 then clearAt b (7 :: from_ 36 4)
  else if k = Obj.mgmtIpv4 then clearAt b (from_ 5 3) else if k = Obj.mgmtIpv6 then clearAt b (from_ 17 3)
  else if k = Obj.mgmtAllow then clearAt b (every 20 [18, 19])
  else b

/-- The range of REF_BW for a reference, in µHz (R178). -/
def refBwRange (id : Nat) : Int × Int :=
  if id = 0x3F then (1000000, 1000000)
  else if id = 1 ∨ (0x10 ≤ id ∧ id ≤ 0x1F) then (1000, 100000)
  else if 0x60 ≤ id ∧ id ≤ 0x6F then (1000000, 10000000)
  else (100, 10000)

/-- A numeric value lies within what its row states. -/
def numOk (k : Nat) (v : Int) : Bool :=
  let idx := k / 256
  let inTable := match valueRanges.find? fun r => decide (r.keyLo ≤ k ∧ k ≤ r.keyHi) with
    | some r => decide (r.lo ≤ v ∧ v ≤ r.hi)
    | none => true
  inTable && (
    if k = Obj.smearLengthS then v % 2 == 0
    else if idx = 0x4067 then decide (1 ≤ v ∧ v ≤ signalMaxCoherent (k % 256))
    else if idx = 0x4072 then v == -32768 || decide (-8192 ≤ v ∧ v ≤ 8192)
    else if k = Obj.aplltForce then v == 255 || decide (v ≤ 3)
    else if k = Obj.selForce then v == 0 || classT v.toNat
    else if idx = 0x3004 then decide ((refBwRange (k % 256)).1 ≤ v ∧ v ≤ (refBwRange (k % 256)).2)
    else if idx = 0x5106 then v == 255 || decide (v ≤ 63)
    else if k = Obj.npDefaultRing then v == 255 || decide (v ≤ 15)
    else if idx = 0xE015 then v == 255 || decide (v ≤ 7)
    else if k = Obj.qspiSckDiv then v == 2 || v == 4 || v == 8
    else true)

/-- The limits of a profile (R276): transports, domains, and the intervals of Sync and Announce. -/
def profileOk (b : Octets) : Bool :=
  let p := octetAt b 0
  let dom := octetAt b 1
  let tr := octetAt b 2
  let fl := octetAt b 3
  let sync := fieldI b 6 1
  let ann := fieldI b 7 1
  let grant := fieldN b 20 2
  decide (p ≤ 5 ∧ tr ≤ 2) && (p == 0 || (decide (60 ≤ grant ∧ grant ≤ 1000) && (
    if p ≤ 2 then decide (dom ≤ 127 ∧ -7 ≤ sync ∧ sync ≤ 1 ∧ -3 ≤ ann ∧ ann ≤ 4) && (p == 1 || !bitOf fl 2)
    else if p = 3 then tr == 0 && decide (24 ≤ dom ∧ dom ≤ 43) && sync == -4 && ann == -3 && !bitOf fl 2
    else if p = 4 then decide (1 ≤ tr ∧ 44 ≤ dom ∧ dom ≤ 63 ∧ -7 ≤ sync ∧ sync ≤ 0 ∧ -3 ≤ ann ∧ ann ≤ 0) && bitOf fl 2 && !bitOf fl 1
    else tr == 0 && dom == 0 && decide (-7 ≤ sync ∧ sync ≤ 0) && ann == 0 && !bitOf fl 2)))

/-- The content of a BLOB is one that its rules allow, taken by itself. -/
def blobOk (k : Nat) (b : Octets) : Bool :=
  let idx := k / 256
  if idx = 0x4070 then
    octetAt b 0 == 0 || (signalCodes.contains (octetAt b 0) && decide (octetAt b 2 ≤ 3 ∧ octetAt b 3 ≤ 1))
  else if idx = 0x4123 then decide (octetAt b 14 ≤ 2)
  else if idx = 0x300A then
    let id := k % 256
    if 0x10 ≤ id ∧ id ≤ 0x1F then [octetAt b 0, octetAt b 1].all fun x => decide (x < 64) || x == 255
    else keepBlob k b == padTo 8 (blobDefault k)
  else if idx = 0x3084 then decide (fieldN b 0 4 ≤ fieldN b 4 4 ∧ fieldN b 4 4 < 2 ^ 24)
  else if idx = 0x3090 then allZero b ||
    (decide (octetAt b 0 ≤ 2 ∧ octetAt b 1 < 128 ∧ octetAt b 2 ≤ 4 ∧ 1 ≤ octetAt b 3 ∧ octetAt b 3 ≤ 8 ∧ 8 ≤ fieldN b 10 2))
  else if idx = 0x6030 then [1, 3, 5, 6, 7].contains (octetAt b 1) && decide (octetAt b 2 ≤ 15 ∧ octetAt b 3 ≤ 1)
  else if idx = 0x6040 then decide (octetAt b 2 ≤ 2 ∧ octetAt b 0 < 16 ∧ octetAt b 1 < 16)
  else if idx = 0x7040 then profileOk b
  else if idx = 0x7050 then allZero b || (decide (octetAt b 0 ≤ 1) && octetAt b 1 == 1)
  else if idx = 0x7060 then
    let g := fieldN b 32 4
    decide (octetAt b 3 ≤ 2) && (octetAt b 3 == 0 ||
      (decide (octetAt b 0 ≤ 15 ∧ octetAt b 1 ≤ 2) && (octetAt b 3 == 2 || decide (60 ≤ g ∧ g ≤ 1000))))
  else if k = Obj.mgmtIpv4 then decide (octetAt b 4 ≤ 32)
  else if k = Obj.mgmtIpv6 then decide (octetAt b 16 ≤ 128)
  else if k = Obj.mgmtAllow then (List.range 8).all fun j => decide (octetAt b (20 * j + 16) ≤ 128 ∧ octetAt b (20 * j + 17) ≤ 1)
  else if k = 0xE12001 then
    let op := octetAt b 0
    let n := fieldN b 8 2
    decide (1 ≤ op ∧ op ≤ 4 ∧ octetAt b 1 ≤ 1) && (if op = 2 then decide (1 ≤ n ∧ n ≤ 256) && b.length == 16 + n else b.length == 16)
  else true

namespace State

/-- The octets of an object in a table of values (R330, R334). -/
def valueOf (r : ObjRow) (k : Nat) (obj : Tbl Int) (blobs : Tbl Octets) : Octets :=
  if r.ty.isOctets then
    let b := Sparse.get blobDefault blobs k
    let (lo, hi) := blobLen k
    if lo = hi then padTo lo b else b
  else r.ty.encode (Sparse.get objDefault obj k)

/-- A value stored, with its reserved fields cleared (R8). -/
def storeValue (s : State) (r : ObjRow) (k : Nat) (data : Octets) : State :=
  if r.ty.isOctets then s.setBlob k (keepBlob k data)
  else match r.ty.number data with
    | some v => s.setO k (keepNum k v)
    | none => s

/-- A write stored for the configuration that it would leave, without any other effect. -/
def storeWrite (s : State) (w : DictWrite) : State := match objRow w.key with
  | some r => s.storeValue r w.key w.data
  | none => s

end State

end Sys2Proof.Machine
end

