-- ==== Sys2Proof/Machine/Dict.lean ====
section
/-!
DEFINITION. The object dictionary: reads, writes and descriptions, the refusals of a batch, its admission by the Loom, and
what each applied write does (R331–R343, R402, R417, and the write rules of every object), with DICT_READ, DICT_WRITE,
DICT_DESCRIBE and DICT_BATCH_APPLY.
-/

namespace Sys2Proof.Machine

/-- The objects that a pair agrees on (R417). (Log entry 72, DEDUCED) -/
def pairAgreed (k : Nat) : Bool :=
  let idx := k / 256
  decide (0x2310 ≤ idx ∧ idx ≤ 0x2312) || decide (0x3100 ≤ idx ∧ idx ≤ 0x3121) || k == Obj.boundK || idx == 0x3220 || idx == 0x3230 ||
    decide (0x5100 ≤ idx ∧ idx ≤ 0x5110) || k == 0x600201 ||
    (decide (0x7000 ≤ idx ∧ idx ≤ 0x7070) && k != 0x703006 && !decide (0x7060 ≤ idx ∧ idx ≤ 0x7064)) ||
    [0xB00003, 0xB00004, 0xB00005, 0xB00007].contains k || idx == 0xB020

/-- The two access bits of a class (R337). -/
def Access.bits : Access → Nat
  | .no => 0 | .w => 1 | .r => 2 | .rw => 3

/-- The APPLIES code. -/
def Applies.code : Applies → Nat
  | .immediate => 0 | .nextTick => 1 | .nextSecond => 2

/-- A class may read, or write, an object. -/
def Access.reads (a : Access) : Bool := a == .r || a == .rw

/-- A class may write an object. -/
def Access.writes (a : Access) : Bool := a == .w || a == .rw

/-- The 8 octets of a description (R337). -/
def describe (r : ObjRow) (k : Nat) : Octets :=
  let acc := r.accH.bits * 256 + r.acch.bits * 64 + r.accM.bits * 16 + r.accN.bits * 4 + r.accT.bits
  toBE 1 r.ty.code ++ toBE 1 r.applies.code ++ toBE 2 acc ++ toBE 2 (r.maxLen k) ++ zeros 2

/-- The injection that INJ_REQUEST asks for (R407). -/
def injOf (b : Octets) : Injection := ⟨octetAt b 0, octetAt b 1, fieldN b 2 2, fieldN b 4 4, fieldN b 8 8⟩

/-- The action that a written object asks for at its boundary, if it is one of those. (Log entry 23, DEDUCED) -/
def dueOf (w : DictWrite) : Option DueWrite :=
  let k := w.key
  let on := beNat w.data == 1
  let flagged (d : DueWrite) : Option DueWrite := if on then some d else none
  if k = Obj.modeRequest then some (.modeRequest (beNat w.data))
  else if k = Obj.leapEntryWrite then
    (if fieldN w.data 0 8 = 0 then some .leapCancel else some (.leapEntry (fieldN w.data 0 8) (fieldI w.data 8 2)))
  else if k = Obj.timescaleStep then
    (let v := fieldI w.data 0 8
     if v = -9223372036854775808 then some .stepToRef else some (.step v))
  else if k = Obj.ntsRotateNow then flagged .rotateNow
  else if k = Obj.injRequest then some (.arm (injOf w.data))
  else if k = Obj.injCancel then flagged .disarm
  else if k = Obj.twinAction then some (.twinAction (beNat w.data))
  else if k = Obj.journalNow then flagged .journalNow
  else if k = Obj.remaskRequest then flagged .remask
  else none

/-- Objects whose write is an action and stores nothing. -/
def actionKey (k : Nat) : Bool :=
  [Obj.modeRequest, Obj.leapEntryWrite, Obj.timescaleStep, Obj.ntsRotateNow, Obj.injRequest, Obj.injCancel, Obj.twinAction, Obj.journalNow,
   Obj.remaskRequest].contains k

/-- The flash command of FLASH_CMD (R470). -/
def flashOf (b : Octets) : FlashCmd := ⟨octetAt b 0, octetAt b 1, fieldN b 4 4, b.drop 16⟩

namespace State

/-! ### Actions -/

/-- An operator step taken at the boundary at hand; steps of one boundary add up (R207). (Log entry 22, DEDUCED) -/
def addStep (s : State) (d : Int) : State :=
  if s.mode = mReplay then s
  else
    let old := match s.sys.step with | some p => p.delta | none => 0
    { s with sys := { s.sys with step := some ⟨old + d, true⟩ } }.inc Obj.timescaleSteps

/-- An action at its boundary (R60). (Log entry 23, DEDUCED) -/
def fireDue (s : State) (d : DueWrite) : State := match d with
  | .modeRequest v => { s with sys := { s.sys with modeReq := v } }
  | .leapEntry e off => s.setLeapPending e off 2
  | .leapCancel => if s.o Obj.leapSource = 2 then s.clearLeapPending else s
  | .step ns => s.addStep (ns * nsUnits)
  | .stepToRef => s.addStep (roundAway (s.o Obj.servoError) nsUnits * nsUnits)
  | .rotateNow => { s with serv := { s.serv with rotateNow := true } }
  | .arm j => s.injArmNow j
  | .disarm => s.injDisarm
  | .twinAction a => s.twinAct a
  | .journalNow => s.journalTrigger
  | .remask => { s with vault := { s.vault with remask := 8 } }

/-- An operator acknowledgement up to SEQ `v` (R389). -/
def ackUpTo (s : State) (v : Nat) : State :=
  let left := s.fault.unacked.filter fun u => match u.seq with | some q => decide (v < q) | none => true
  ({ s with fault := { s.fault with unacked := left } }.countOpen).holdEvent 0x0001 (v % 2 ^ 32) 0

/-- What the reset of an I2C controller finds on its lines where the command does not carry it. -/
def freeLines (s : State) : I2cLines := match Config.freeNat s.sys.free % 3 with
  | 0 => .high
  | 1 => .freed
  | _ => .stuck

/-! ### What a stored write does -/

/-- The targets of an output changed while it drives: under policy 1 the edges stay where they were and slew (R190). -/
def outMoved (old s : State) (p : Nat) : State :=
  if (s.out p).driving && s.o (Obj.outStepPolicy p) == 1 then
    let t := s.timeNow / 4096
    let po := max 1 (old.o (Obj.outPeriod p))
    let pn := max 1 (s.o (Obj.outPeriod p))
    let off := s.rampOffset p
    let n0 := ceilDivI (t - old.o (Obj.outPhaseOffset p) - off) po
    let e0 := n0 * po + old.o (Obj.outPhaseOffset p) + off
    let n1 := roundUpHalf (e0 - s.o (Obj.outPhaseOffset p) - off) pn
    s.slewOut p ((s.out p).phi - (n1 * pn + s.o (Obj.outPhaseOffset p) + off - e0) * 18446744073709551616)
  else s

/-- A timing port's input configuration changed: the gate closes and the coder's history is empty (R102, R107). -/
def portChanged (old s : State) (p : Nat) (gate hist : Bool) : State :=
  let s1 := if gate then s.closeGate p else s
  (if hist then s1.resetHist p (old.coderOf p false) else s1).deriveRaw p

/-- The steps that a stored value takes beside its object, for the timing ports and Glade.
(Log entries 20, DEDUCED; 104, DESIGN CHOICE) -/
def afterInput (old s : State) (idx sub : Nat) : State :=
  let i := sub - 1
  let changed := s.o (idx * 256 + sub) != old.o (idx * 256 + sub)
  if idx = 0x5000 then (if s.o (Obj.tpRole i) = 0 then s.portOff i else s)
  else if decide (0x5001 ≤ idx ∧ idx ≤ 0x5004) || decide (0x5006 ≤ idx ∧ idx ≤ 0x5008) then
    old.portChanged s i (changed && decide (idx ≤ 0x5004)) (changed && idx != 0x5004)
  else if idx * 256 + sub = Obj.gladeEnable then (if s.flag Obj.gladeEnable then s else s.gladeOff)
  else if idx * 256 + sub = Obj.sampleDivider then s.deriveLaneRate.linksDown
  else if idx = 0x4001 ∨ idx = 0x4002 then
    (if s.n (Obj.linkBands i) = 0 ∧ s.n (Obj.linkState i) ≠ 0 then s.deriveLaneRate.linkEnter i 0
     else if old.n (Obj.linkBands i) = 0 then s.deriveLaneRate.linkStarts i else s.deriveLaneRate)
  else if idx = 0x4030 then (if s.flag (Obj.notchEnable i) then s else s.releaseNotches i)
  else if idx = 0x4070 then
    (let b := s.blob (Obj.chAssign sub)
     s.chanPlan sub (octetAt b 0, octetAt b 1, octetAt b 2, octetAt b 3))
  else if idx = 0x4011 ∨ (0x4110 ≤ idx ∧ idx ≤ 0x4118) ∨ idx = 0x411A ∨ idx = 0x4123 ∨ (idx = 0x4100 ∧ 2 ≤ sub ∧ sub ≤ 4) then s.solCalChange
  else if idx = 0x4120 then (if s.o Obj.posMode = 0 then s.positionWritten else s.solCalChange)
  else if idx = 0x4121 then s.positionWritten
  else if idx * 256 + sub = Obj.spoofMode then (if s.o Obj.spoofMode = 0 then (s.setF Obj.spoofFlag false).spoofBreak else s)
  else s

/-- The same for references, outputs, the ensemble, network ports and services. -/
def afterService (old s : State) (idx sub : Nat) : State :=
  let i := sub - 1
  if idx = 0x3001 then s.refPriorityWritten sub
  else if idx = 0x300A then s.setRef sub { s.ref sub with edge := none, prevEdge := none, prevSecond := none }
  else if idx * 256 + sub = Obj.synceTxSource then
    (if s.o Obj.synceTxSource = old.o Obj.synceTxSource then s else { s with synth := { s.synth with ncoSlew := true } })
  else if idx = 0x3090 then (s.setDst i {}).setO (Obj.dsteerState i) (if allZero (s.blob (Obj.dsteerCfg i)) then 0 else 1)
  else if idx = 0x5100 then s.outModeWritten i
  else if idx = 0x5109 then s.rampWritten i
  else if idx = 0x510E ∨ idx = 0x510F then old.outMoved s i
  else if idx = 0x3100 then s.memberCfgWritten i
  else if idx = 0x6000 then s.npModeWritten i (s.o (idx * 256 + sub) != old.o (idx * 256 + sub))
  else if idx * 256 + sub = Obj.rlSeed then s.fillBuckets
  else if (idx = 0x7011 ∨ idx = 0x7012) ∧ s.o (idx * 256 + sub) ≠ old.o (idx * 256 + sub) then old.bucketChanged s sub
  else if idx * 256 + sub = Obj.ndictRate then
    -- the tokens held stay as they are, within the new burst (R342)
    (let t := (s.host.ndictTokens).getD (old.n Obj.ndictRate * 8192)
     { s with host := { s.host with ndictTokens := if s.n Obj.ndictRate * 8192 ≤ t then none else some t } })
  else if idx = 0x7040 then (if (s.inst i).profile = 0 then s.instanceOff (old.inst i) i else s)
  else if idx = 0x7050 then s.loadSa i
  else if idx = 0xB010 then s.setN Obj.twinCalId ((s.n Obj.twinCalId + 1) % 2 ^ 32)
  else if idx * 256 + sub = Obj.replayStartTick then
    (if s.o Obj.replayStartTick = 0 ∧ s.mode ≠ mReplay then { s.setO Obj.replayState 0 with record := { s.record with image := none } } else s)
  else s

/-- What a stored write does beside its object. (Log entry 89, DEDUCED) -/
def afterWrite (old s : State) (k : Nat) : State :=
  let idx := k / 256
  let sub := k % 256
  let s0 := if k = Obj.boundK ∧ s.o k ≠ old.o k then s.boundKWritten else s
  let s1 := afterService old (afterInput old s0 idx sub) idx sub
  -- a change of what bounds stand on (R228), and every write of a declared delay (R251)
  if decide (0x6010 ≤ idx ∧ idx ≤ 0x6012) || ((k == Obj.boundK || [0x3210, 0x5105, 0x6000, 0x6014].contains idx) && s.o k != old.o k) then
    s1.setN Obj.boundCalId ((s1.n Obj.boundCalId + 1) % 2 ^ 32)
  else if idx = 0x3220 then s1.showCeilings
  else s1

/-- The sticky objects, whose written ones clear bits. -/
def writeOneClears (k : Nat) : Bool :=
  let idx := k / 256
  k == Obj.cdLostSticky || idx == 0x5021 || idx == 0x6064 || decide (0xD250 ≤ idx ∧ idx ≤ 0xD25F)

/-- A write applied: the action it asks for, or its value stored with what follows (R333, R335). -/
def applyWrite (s : State) (w : DictWrite) : State :=
  let k := w.key
  match dueOf w with
  | some d => s.fireDue d
  | none =>
    if actionKey k then s
    else if k = Obj.keyWrite then s.keyWriteOne s.tick ⟨0, octetAt w.data 0, octetAt w.data 1, octets w.data 8 (fieldN w.data 2 2)⟩
    else if k = Obj.faultAck then s.ackUpTo (beNat w.data)
    else if k = Obj.flashCmd then s.flashCommand (flashOf w.data)
    else if k / 256 = 0xE141 then (match i2cParse w.data with | some t => s.i2cXfer (k % 256 - 1) t | none => s)
    else if k / 256 = 0xE143 then s.drew.i2cReset (k % 256 - 1) s.freeLines
    else if writeOneClears k then s.setO k ((s.n k - (s.n k &&& beNat w.data) : Nat) : Int)
    else afterWrite s (s.storeWrite w) k

/-! ### Refusals (R331–R333) -/

/-- The second at which a next-second batch served now applies, pair-agreed while joined (R60, R334, R417). -/
def nextSecond (s : State) : Int :=
  let n := s.firstZero (if s.joined then 2 else 1) - s.tick
  s.second + ((s.index + n) / 8192 : Nat)

/-- The smear window of a pending entry is open, or would begin before a write made now applies, with the length in force or with the
one that the batch would leave (R80). (Log entry 53, DEDUCED) -/
def smearSoon (s c : State) : Bool :=
  let apply := s.nextSecond * secondUnits
  let begins (e : LeapEntry) (l : Int) : Int := e.e * secondUnits - l * secondUnits / 2
  s.flag Obj.smearActive || (match s.leapPending with
    | some e => decide (begins e (max (s.o Obj.smearLengthS) (c.o Obj.smearLengthS)) < apply)
    | none => false)

/-- A slot named by a security association holds an AES-128 key, READY, or PENDING by the last write that waits for it; `written`
lists the slots that the batch writes with one (R309). (Log entries 62, DEDUCED; 72, DEDUCED) -/
def saSlotOk (s : State) (written : List Nat) (n : Nat) : Bool :=
  let v := s.slot n
  let batched := ((s.host.rolled ++ s.host.batches ++ s.twin.agreed.map (·.batch)).flatMap (·.writes)).filter fun w =>
    w.key == Obj.keyWrite && octetAt w.data 0 == n
  written.contains n || (v.state == 1 && v.type == 1) ||
    (v.state == 2 && match batched.getLast?, (s.vault.writes.filter fun w => w.slot == n).getLast? with
      | some w, _ => octetAt w.data 1 == 1 && fieldN w.data 2 2 != 0
      | none, some w => w.type == 1 && !w.material.isEmpty
      | none, none => false)

/-- A test of a value against the configuration `c` that the batch would leave (0x0304).
(Log entries 53, DEDUCED; 100, DEDUCED) -/
def configOk (s c : State) (written : List Nat) (k : Nat) (data : Octets) : Bool :=
  let idx := k / 256
  let sub := k % 256
  let i := sub - 1
  if idx = 0x5002 ∨ idx = 0x5003 ∨ idx = 0x5006 ∨ idx = 0x5008 then
    let d := c.n (Obj.tpNominalPeriod i) * c.n (Obj.tpStampDivider i)
    decide (10485760 ≤ d) && (c.o (Obj.tpRawMode i) == 0 || decide (2 ^ 20 * 1000000000 ≤ d * c.n (Obj.tpRawDivider i) * 1000000))
  else if k = Obj.sampleDivider ∨ idx = 0x4001 ∨ idx = 0x4002 then
    let ants := List.range 4
    linksOk (ants.map fun a => c.n (Obj.linkBands a)) (ants.map fun a => c.n (Obj.linkLanes a)) (c.n Obj.sampleDivider) &&
      (c.o Obj.spoofMode != 2 || ants.all fun a => bitOf (c.n (Obj.linkBands a)) 0)
  else if k = Obj.spoofMode then c.o Obj.spoofMode != 2 || (List.range 4).all fun a => bitOf (c.n (Obj.linkBands a)) 0
  else if k = Obj.spoofRaise ∨ k = Obj.spoofClear then decide (c.o Obj.spoofClear < c.o Obj.spoofRaise)
  else if 0x4061 ≤ idx ∧ idx ≤ 0x4063 then decide (c.o (Obj.tapDm sub) < c.o (Obj.tapD1 sub) ∧ c.o (Obj.tapD1 sub) < c.o (Obj.tapD2 sub))
  else if 0x4064 ≤ idx ∧ idx ≤ 0x4067 then
    let t := c.n (Obj.tCohMs sub)
    decide (c.n (Obj.pllBw sub) * t ≤ 2400 ∧ c.n (Obj.fllBw sub) * t ≤ 2400 ∧ c.n (Obj.dllBw sub) * t ≤ 38400)
  else if idx = 0x3005 ∨ idx = 0x3006 then decide (c.o (Obj.refAcceptLimit sub) < c.o (Obj.refRejectLimit sub))
  else if k = Obj.sscMode ∨ k = Obj.sscDepth ∨ k = Obj.qspiSckDiv then
    (c.o Obj.sscMode == 0 || decide (1 ≤ c.o Obj.sscDepth ∧ c.o Obj.sscDepth ≤ 10)) && (c.o Obj.sscMode != 2 || c.o Obj.qspiSckDiv != 2)
  else if idx = 0x510E ∨ idx = 0x5110 then
    decide (1310720 ≤ c.o (Obj.outHighTime i) ∧ c.o (Obj.outHighTime i) < c.o (Obj.outPeriod i) - 1310720)
  else if idx = 0x6000 ∨ idx = 0x6001 then
    let rate (m : Nat) : Nat := if m = 1 ∨ m = 2 then 1 else m
    let group (g : Nat) : Bool :=
      let used := ((List.range 4).map fun j => rate (c.n (Obj.npMode (4 * g + j)))).filter fun r => r != 0
      used.all fun r => used.all fun q => r == q
    let fec := (List.range 16).all fun m => c.n (Obj.npMode (m / 2)) != 4 || decide (c.n (Obj.npFec m) ≤ 1)
    group 0 && group 1 && fec
  else if idx = 0x7040 then
    (List.range 16).all fun m => !bitOf (fieldN data 4 2) m || c.o (Obj.npMode (m / 2)) != 0
  else if idx = 0x6040 then
    octetAt data 2 == 0 || (octetAt data 0 != octetAt data 1 && c.laneRate (octetAt data 0) == c.laneRate (octetAt data 1))
  else if idx = 0x7050 then
    octetAt data 0 == 0 || (s.saSlotOk written (octetAt data 2) && (octetAt data 3 == 0xFF || s.saSlotOk written (octetAt data 3)))
  else if idx = 0x4070 then octetAt data 0 == 0 || c.assignable (octetAt data 0) (octetAt data 1) (octetAt data 2)
  else true

/-- A refusal of a valid value by the state, for the objects of time and references (0 where there is none). -/
def stateCodeTime (s c : State) (k : Nat) (data : Octets) : Nat :=
  let idx := k / 256
  if k = Obj.taiUtcOffset then (if s.o Obj.leapPending ≠ 0 ∨ s.flag Obj.smearActive = true then 0x0306 else 0)
  else if k = Obj.smearEnable ∨ k = Obj.smearLengthS then (if s.smearSoon c then 0x0306 else 0)
  else if k = Obj.leapEntryWrite then
    let e : Int := fieldN data 0 8
    let off := fieldI data 8 2
    let other := match s.leapPending with
      | some p => s.o Obj.leapSource == 2 && leapMonth p.e p.oldOffset p.newOffset != leapMonth e (s.o Obj.taiUtcOffset) off
      | none => false
    if e = 0 ∨ s.leapEntryOk e off = true then 0 else if other then 0x0306 else 0x0304
  else if k = Obj.timescaleStep then
    (if s.mode = mReplay ∨ (fieldI data 0 8 = -9223372036854775808 ∧ s.o Obj.selTCurrent = 0) then 0x0306 else 0)
  else if idx = 0x3100 then (c.memberCfgRefused (k % 256 - 1) data).getD 0
  else if idx = 0x3001 then
    let id := k % 256
    if beNat data ≠ 0 ∧ 0x10 ≤ id ∧ id ≤ 0x1F ∧ (c.ppsBinding id).isNone = true then 0x0306 else 0
  else 0

/-- The same for the other objects. (Log entry 72, DEDUCED) -/
def stateCodeRest (s : State) (k : Nat) (data : Octets) : Nat :=
  let idx := k / 256
  if k = Obj.keyWrite then
    (if s.o Obj.vaultState ≠ 2 then 0x0306
     else if s.joined && !s.flag Obj.twinOwn && s.saNames (octetAt data 0) then 0x0306
     else if keyWriteOk data then 0 else 0x0304)
  else if k = Obj.remaskRequest then (if s.mode = mWarmup ∨ s.mode = mReplay then 0 else 0x0306)
  else if k = Obj.injRequest then
    (let j := injOf data
     if !injPairOk j.checker j.mode j.count j.inst then 0x0304 else if s.injAllowed j.checker j.inst then 0 else 0x0306)
  else if k = Obj.twinAction then (if s.actionRefused (beNat data) then 0x0306 else 0)
  else if k = Obj.flashCmd then (if s.o Obj.flashStatus = 1 then 0x0306 else 0)
  else if idx = 0x5120 then
    (if s.o (Obj.outMode (k % 256 - 1)) ≠ 0 ∨ ((List.range 16).any fun j => match s.ppsBinding (0x10 + j) with
        | some (a, b) => a == k % 256 - 1 || b == k % 256 - 1
        | none => false) = true then 0x0306 else 0)
  else if k = Obj.faultAck then (if s.n Obj.evtlogNextSeq ≤ beNat data then 0x0304 else 0)
  else if idx = 0xE141 then (if (i2cParse data).isSome then 0 else 0x0304)
  else 0

/-- The code of one write before the Loom judges its batch (R330–R332); `c` is the configuration that the batch would
leave. (Log entry 72, DEDUCED) -/
def writeCode (s c : State) (cls : PortClass) (written : List Nat) (idx sub : Nat) (data : Octets) : Nat :=
  let k := idx * 256 + sub
  match objectRow idx sub with
  | none => if s.mode = mBoot then 0x0306 else 0x0301
  | some r =>
    if s.mode = mBoot then 0x0306
    else if !(r.access cls).writes then 0x0302
    else if !r.lengthOk k data then 0x0303
    else if (if r.ty.isOctets then !blobOk k (keepBlob k data) else match r.ty.number data with | some v => !numOk k (keepNum k v) | none => true)
      then 0x0304
    else if s.joined && !s.flag Obj.twinOwn && pairAgreed k then 0x0306
    else
      -- reserved fields are ignored (R8)
      let kept := if r.ty.isOctets then keepBlob k data else data
      let a := s.stateCodeTime c k kept
      let b := s.stateCodeRest k kept
      if a ≠ 0 then a else if b ≠ 0 then b else if s.configOk c written k kept then 0 else 0x0304

/-- The configuration that the running one and the admitted batches would leave (R333). -/
def pendingConfig (s : State) : State :=
  ((s.host.rolled ++ s.host.immediate ++ s.host.batches ++ s.twin.agreed.map (·.batch)).flatMap (·.writes)).foldl (fun s w => if actionKey w.key then s else s.storeWrite w) s

/-! ### Reads -/

/-- The answer to a read or a description: its code and its octets (R331, R334, R337); in BOOT only reads of identity and host
objects are served (R348). -/
def readRec (s : State) (cls : PortClass) (idx sub : Nat) (desc : Bool) : Nat × Octets :=
  let k := idx * 256 + sub
  if s.mode = mBoot ∧ (desc = true ∨ ¬((0x1000 ≤ idx ∧ idx ≤ 0x1FFF) ∨ (0xE000 ≤ idx ∧ idx ≤ 0xE0FF))) then (0x0306, [])
  else match objectRow idx sub with
  | none => (0x0301, [])
  | some r =>
    let a := r.access cls
    if desc then (if a = .no then (0x0302, []) else (0, describe r k))
    else if !a.reads then (0x0302, [])
    else if s.mode = mBoot then (0, State.valueOf r k s.obj s.blobs)
    else (0, State.valueOf r k s.host.snapObj s.host.snapBlobs)

/-! ### Messages (R333–R338) -/

/-- The writes of a message with their places. -/
def messageWrites (m : DictMsg) : List (Nat × Nat × Nat × Octets) :=
  (enum m.recs).filterMap fun x => match x.2 with
    | .write i s d => some (x.1, i, s, d)
    | _ => none

/-- The count and the device time of the tick that begins `n` + 1 boundaries on, through a realignment that is requested (R40). -/
def laterTick (s : State) (n : Nat) : Nat × Int :=
  let delta := match s.sys.step with | some p => p.delta | none => 0
  let t1 := s.sys.nextTime + delta
  let t2 := t1 + tickSpan t1 s.sys.step.isSome
  let c2 := if s.sys.step.isSome && !s.flag Obj.timescaleSet then max (t2 / tickUnits).toNat (s.nextTick + 1) else s.nextTick + 1
  if n = 0 then (s.nextTick, t1) else (c2 + (n - 1), t2 + (n - 1 : Nat) * tickUnits)

/-- The tick that the reply to a batch names: that of the boundary at which it applies (R335, R417). -/
def applyTick (s : State) (a : Applies) (pair : Bool) : Nat :=
  let n := if pair then 1 else 0
  match a with
  | .immediate => s.tick
  | .nextTick => (s.laterTick n).1
  | .nextSecond =>
    if n = 0 ∧ timeIndex (s.laterTick 0).2 = 0 then (s.laterTick 0).1
    else (s.laterTick (1 + ((8192 - timeIndex (s.laterTick 1).2) % 8192).toNat)).1

/-- A key write of a batch: its slot is PENDING from now on, and its new content goes to the peer while the pair agrees on
the slot (R309, R417). (Log entry 71, DEDUCED) -/
def keyAdmitted (s : State) (x : Nat) (w : DictWrite) : State :=
  if w.key ≠ Obj.keyWrite then s
  else
    let k := octetAt w.data 0
    let s1 := s.setSlot k { s.slot k with state := 2 }
    if s.joined && s.saNames k then
      { s1 with twin := { s1.twin with keys := s1.twin.keys ++ [AgreedKey.slot k ((s.slot k).gen + 1) (octets w.data 8 (fieldN w.data 2 2)) x] } }
    else s1

/-- A batch applied: its writes in order, its count, and its record (R333, R335, R417). -/
def applyBatch (s : State) (b : Batch) : State :=
  let s1 := b.writes.foldl (fun s w =>
    let t := s.applyWrite w
    if s.joined && pairAgreed w.key then t.setN Obj.configGen ((t.n Obj.configGen + 1) % 2 ^ 32) else t) s
  let s2 := s1.inc Obj.dictBatches
  { s2 with record := { s2.record with applied := s2.record.applied ++ [b] } }

/-- One more entry of a discarded set: an escalated U record that escalates nothing and is not counted as an escalation
(R402). -/
def discardEntry (s : State) (detail subtick : Nat) (injected : Bool) : State :=
  let r : Report := ⟨s.fault.nextIdent, 0x0B03, 2, 1 + (if injected then 2 else 0), 0, detail, s.tick, subtick⟩
  let o : OpenRecord := ⟨r.ident, 0x0B03, 2, 0, s.tick + s.n Obj.ackHoldTicks, none⟩
  let s1 := (s.inc (Obj.faultCodeCount 0x0B03)).inc (Obj.faultTotal 1)
  ({ s1 with fault := { s1.fault with
    held := s1.fault.held ++ [r], nextIdent := r.ident + 1, unacked := s1.fault.unacked ++ [o] } }.countOpen).hostEvent (.faultRaised r.ident)

/-- DETAIL of DICT_APPLY: the port and the TAG of a batch (R385). (Log entry 73, DEDUCED) -/
def batchDetail (b : Batch) : Nat := b.port + b.tag % 2 ^ 24 * 256

/-- A set of batches applied in one step.  Where the apply check fails, none of it is: the set is rolled back, or discarded
once the fault escalates; true tells that the set is to be applied again (R402, R407). -/
def applySet (s : State) (set : List Batch) (bad : Bool) : State × Bool := match set with
  | [] => (s, false)
  | b :: t =>
    let hit := (s.injAims 0x0D 0 none).isSome
    if !(bad || hit) then (set.foldl applyBatch s, false)
    else
      let s0 := if hit then s.injConsume else s
      let sub := Config.freeSubtick s0.sys.free
      let (s1, cls) := s0.drew.recordFault 0x0B03 0 (batchDetail b) sub hit
      if cls ≤ 1 then (set.foldl (fun s _ => s.inc Obj.dictReapplied) s1, true)
      else (t.foldl (fun s x => s.discardEntry (batchDetail x) sub hit) s1, false)

/-- The immediate set of a W3 applied (R335, R402). -/
def applyImmediate (s : State) (bad : Bool) : State :=
  let set := s.host.immediate
  let (s1, again) := State.applySet { s with host := { s.host with immediate := [] } } set bad
  if again then { s1 with host := { s1.host with immediate := set } } else s1

/-- A batch admitted: an immediate one joins the set of the W3, another waits for its boundary (R333–R335). -/
def admitBatch (s : State) (m : DictMsg) (writes : List DictWrite) : State × Nat :=
  let rows := writes.filterMap fun w => objRow w.key
  let a : Applies := if rows.all fun r => r.applies == .immediate then .immediate
    else if rows.any fun r => r.applies == .nextSecond then .nextSecond else .nextTick
  let named := writes.any fun w => w.key == Obj.keyWrite && s.saNames (octetAt w.data 0)
  let pair := s.joined && a != .immediate && (named || writes.any fun w => pairAgreed w.key)
  let x := s.applyTick a pair
  let b : Batch := { port := m.src.carrier.port, tag := m.tag, tick := m.src.tick, subtick := m.src.subtick, cls := m.src.carrier.cls
                     applies := a, writes := writes, due := s.age + 1 }
  let s1 := writes.foldl (fun s w => s.keyAdmitted x w) s
  if a = .immediate then ({ s1 with host := { s1.host with immediate := s1.host.immediate ++ [b] } }, x)
  else if pair then ({ s1 with twin := { s1.twin with agreed := s1.twin.agreed ++ [⟨b, x⟩] } }, x)
  else ({ s1 with host := { s1.host with batches := s1.host.batches ++ [b] } }, x)

/-- The codes of the writes of a message, and the state after its admission or refusal, with the tick to name (R333). -/
def judgeBatch (s : State) (m : DictMsg) : State × List (Nat × Nat) × Nat :=
  let ws := messageWrites m
  let writes : List DictWrite := ws.map fun w => ⟨w.2.1 * 256 + w.2.2.1, w.2.2.2⟩
  let cls := m.src.carrier.cls
  let base := s.pendingConfig
  let store (c : State) (w : DictWrite) : State := if actionKey w.key then c else c.storeWrite w
  let c := writes.foldl store base
  let written := (writes.filter fun w => w.key == Obj.keyWrite && octetAt w.data 1 == 1 && fieldN w.data 2 2 != 0).map fun w => octetAt w.data 0
  let codes := ws.map fun w => (w.1, s.writeCode c cls written w.2.1 w.2.2.1 w.2.2.2)
  let refused (s : State) : State :=
    let s1 := s.inc Obj.dictRefused
    let keyBad := ((codes.zip writes).filter fun x => x.2.key == Obj.keyWrite && x.1.2 == 0x0304).length
    let injBad := (codes.zip writes).any fun x => x.2.key == Obj.injRequest && x.1.2 == 0x0306
    let s2 := s1.addN Obj.keyWriteRefused keyBad
    if injBad then s2.inc Obj.injRefused else s2
  if writes.isEmpty then (s, [], s.tick)
  else if codes.any fun x => x.2 != 0 then
    (refused s, codes.map (fun x => (x.1, if x.2 = 0 then 0x030A else x.2)), s.tick)
  else match s.loomAdmit base.loomLoads c.loomLoads with
    | some r =>
      let raises (w : DictWrite) : Bool := !(loomRaised base.loomLoads (store base w).loomLoads).isEmpty
      (refused (s.loomRefuse r), (ws.zip writes).map (fun x => (x.1.1, if raises x.2 then 0x0305 else 0x030A)), s.tick)
    | none =>
      let (s1, x) := s.admitBatch m writes
      (s1, codes, x)

/-- The octets of one reply record (R336). -/
def recReply (action idx sub code : Nat) (data : Octets) : Octets :=
  toBE 1 action ++ toBE 1 sub ++ toBE 2 idx ++ toBE 2 data.length ++ toBE 2 code ++ pad8 data

/-- A message beyond the limits of R338. -/
def overLimit (m : DictMsg) : Bool :=
  let top := match m.src.carrier with
    | .mailbox _ => 4096
    | .yethal => 4096
    | _ => 1464
  m.recs.isEmpty || decide (64 < m.recs.length) || decide (top < m.src.len)

/-- The octets of a request, by its records (R336). -/
def requestLen (m : DictMsg) : Nat :=
  16 + sumN (m.recs.map fun r => match r with
    | .write _ _ d => 8 + 8 * ceilDiv d.length 8
    | _ => 8)

/-- A message served, and answered; the code is that of the first record that fails; a class N request is dropped once service is not allowed
(R333–R338, R342, R348). -/
def serveMsg (s : State) (m : DictMsg) : State :=
  if m.src.carrier.cls = .netN ∧ s.flag Obj.serviceAllowed = false then s.inc Obj.ndictDrops
  else if overLimit m then s.reply m.src 0x0307 []
  else if !lenAgrees m.src (requestLen m) then s.reply m.src 0x0012 []
  else
    let cls := m.src.carrier.cls
    let (s1, codes, x) := s.judgeBatch m
    let one (r : Nat × DictRec) : Nat × Octets := match r.2 with
      | .read i b =>
        let a := s.readRec cls i b false
        (a.1, recReply 1 i b a.1 a.2)
      | .describe i b =>
        let a := s.readRec cls i b true
        (a.1, recReply 3 i b a.1 a.2)
      | .write i b _ =>
        let c := (codes.lookup r.1).getD 0x030A
        (c, recReply 2 i b c (if c = 0 then toBE 8 x else []))
      | .other a i b =>
        let c := if s.mode = mBoot then 0x0306 else 0x0303
        (c, recReply a i b c [])
    let head := toBE 2 0x8001 ++ toBE 2 m.recs.length ++ toBE 4 m.tag ++ toBE 8 s.tick
    let answers := (enum m.recs).map one
    let code := ((answers.map (·.1)).find? fun c => c != 0).getD 0
    s1.reply m.src code (head ++ (answers.map (·.2)).flatten)

/-- The records that a message executes: none where it exceeds the limits (R338). -/
def recordsOf (m : DictMsg) : Nat := if overLimit m then 0 else m.recs.length

/-- Messages and records served in a W3 counted. -/
def servedOne (s : State) (m : DictMsg) : State :=
  { s with host := { s.host with served := s.host.served + 1, servedRecs := s.host.servedRecs + recordsOf m } }

/-- One more message fits the limits of the W3 (R338). -/
def canServe (s : State) (m : DictMsg) : Bool := decide (s.host.served < 32 ∧ s.host.servedRecs + recordsOf m ≤ 256)

/-- The octets of a request, its records padded (R336). -/
def requestOctets (m : DictMsg) : Octets :=
  let one (r : DictRec) : Octets := match r with
    | .read i b => toBE 1 1 ++ toBE 1 b ++ toBE 2 i ++ zeros 4
    | .describe i b => toBE 1 3 ++ toBE 1 b ++ toBE 2 i ++ zeros 4
    | .write i b d => toBE 1 2 ++ toBE 1 b ++ toBE 2 i ++ toBE 2 d.length ++ zeros 2 ++ pad8 d
    | .other a i b => toBE 1 a ++ toBE 1 b ++ toBE 2 i ++ zeros 4
  toBE 2 1 ++ toBE 2 m.recs.length ++ toBE 4 m.tag ++ zeros 8 ++ (m.recs.map one).flatten

/-- The waiting messages served in order, as far as the limits of the W3 go; one of a function whose link is down waits
(R334, R338, R348). -/
def serveWaiting : Nat → State → State
  | 0, s => s
  | n + 1, s => match (enum s.host.waiting).find? fun x => s.reachable x.2.src with
    | none => s
    | some (i, m) =>
      if s.canServe m then
        serveWaiting n ((State.servedOne { s with host := { s.host with waiting := s.host.waiting.eraseIdx i } } m).serveMsg m)
      else s

/-- A dictionary message arrives (R334, R340–R343, R348). (Log entry 25, DEDUCED) -/
def dictArrive (s : State) (m : DictMsg) : State :=
  let (s0, took) := s.accept m.src
  let s1 := if took then s0.placeRequest m.src (requestOctets m) else s0
  let wait : State := { s1 with host := { s1.host with waiting := s1.host.waiting ++ [m] } }
  if !took then s1
  else if s1.mode == mBoot && s1.power.loaded then s1.serveMsg m
  else if s1.running && s1.sys.window == .w3 && !m.src.late && s1.host.waiting.isEmpty && s1.canServe m then ((s1.servedOne m).serveMsg m).applyImmediate false
  else wait

/-! ### The boundary of batches (R334, R402, R417) -/

/-- The order of batches due at one boundary (R334). -/
def batchLt (a b : Batch) : Bool :=
  decide (a.tick < b.tick) || (a.tick == b.tick && (decide (a.subtick < b.subtick) || (a.subtick == b.subtick && decide (a.port < b.port))))

/-- A batch is due at the current boundary (R60). -/
def dictDue (s : State) (b : Batch) : Bool := decide (b.due ≤ s.age) && (b.applies != .nextSecond || s.index == 0)

/-- The batches to apply at the current boundary, those rolled back first (R402). (Log entry 73, DEDUCED) -/
def dueBatches (s : State) : List Batch :=
  s.host.rolled ++ sortBy batchLt (s.host.batches.filter s.dictDue ++ (s.twin.agreed.filter fun a => decide (a.x ≤ s.tick)).map (·.batch))

/-- Contents of shared slots installed at X, before the batches (R417). -/
def installSlots (s : State) : State :=
  let due := s.twin.keys.filter fun k => match k with | .slot _ _ _ x => decide (x ≤ s.tick) | _ => false
  let s1 : State := { s with twin := { s.twin with keys := s.twin.keys.filter fun k => match k with | .slot _ _ _ x => decide (s.tick < x) | _ => true } }
  if s.flag Obj.twinOwn then s1
  else due.foldl (fun s k => match k with
    | .slot n _ c _ => (s.fillSlot n 1 1 c [] 0).reloadLanes n
    | _ => s) s1

/-- Every batch due at the current boundary applied in order; those whose preparation W3 did not finish wait for the next one
(R53, R334, R402). -/
def applyBatches (s : State) (bad : Bool) : State :=
  if s.host.deferred then
    let late := s.host.batches.map fun b => if s.dictDue b then { b with applies := Applies.nextTick, due := s.age + 1 } else b
    { s with host := { s.host with deferred := false, batches := late } }
  else
    let due := s.dueBatches
    let s1 : State := { s with
      host := { s.host with rolled := [], batches := s.host.batches.filter fun b => !s.dictDue b }
      twin := { s.twin with agreed := s.twin.agreed.filter fun a => decide (s.tick < a.x) } }
    let (s2, again) := s1.installSlots.applySet due bad
    if again then { s2 with host := { s2.host with rolled := due } } else s2

/-- The current boundary as the state of the tick that begins there shows it: count, index, device time and age. -/
def atNext (s : State) (f : State → State) : State :=
  let v : State := { s with sys := { s.sys with warmupTick := s.age + 1 } }
  let v1 := f (((v.setN Obj.tickCount s.nextTick).setO Obj.tickIndex (timeIndex s.sys.nextTime)).setO Obj.timeNow s.sys.nextTime)
  if v1.mode = mHalted then v1
  else
    let v2 : State := { v1 with sys := { v1.sys with warmupTick := s.age } }
    ((v2.setN Obj.tickCount s.tick).setN Obj.tickIndex s.index).setO Obj.timeNow s.timeNow

/-- The batches of the boundary that ends the current tick, applied there (R334). (Log entry 73, DEDUCED) -/
def boundaryBatches (s : State) (bad : Bool) : State := s.atNext fun v => v.applyBatches bad

end State

/-! ### Commands -/

/-- DICT_READ: a message of READ records (R334, R336). -/
def execDictRead (m : DictMsg) (s : State) : Host.Outcome State Fault Refusal := .next (s.dictArrive m)

/-- DICT_WRITE: a message with WRITE records, one batch (R333, R336). -/
def execDictWrite (m : DictMsg) (s : State) : Host.Outcome State Fault Refusal := .next (s.dictArrive m)

/-- DICT_DESCRIBE: a message with DESCRIBE records (R336, R337). -/
def execDictDescribe (m : DictMsg) (s : State) : Host.Outcome State Fault Refusal := .next (s.dictArrive m)

/-- DICT_BATCH_APPLY: at the end of a tick, the Forester applies every batch due at the boundary; `bad` tells that DICT_APPLY
is detected during the step (R333–R335, R402).  The boundary itself then finds nothing left to apply. -/
def execDictBatchApply (bad : Bool) (s : State) : Host.Outcome State Fault Refusal :=
  if s.running && s.sys.window == .w3 then .next (s.boundaryBatches bad) else .next s

end Sys2Proof.Machine
end

