-- ==== Sys2Proof/Machine/Replay.lean ====
section
/-!
DEFINITION. The deterministic replay: loading, the replayed ticks, their comparison and
their stops (R27, R455–R461), with REPLAY_LOAD.
-/

namespace Sys2Proof.Machine

namespace State

/-! ### Loading (R455, R456) -/

/-- A status of the replay, with the state it goes to. -/
def replayEnd (s : State) (st status : Nat) : State := (s.setN Obj.replayState st).setN Obj.replayStatus status

/-- The digest computed over the body of a keyframe (R222, R448). -/
def imageDigest (s : State) (i : CanopyImage) : Nat :=
  State.digest { s with canopy := i.canopy, obj := i.obj, blobs := i.blobs } i.canopy.model

/-- The first check of R456 that a record fails, 0 for none. -/
def loadStatus (s : State) (r : FeedRecord) : Nat :=
  if !r.crcOk || r.version != 1 then 4
  else match r.image with
    | none => 2
    | some i =>
      if !bitOf r.flags 5 || r.tick != s.n Obj.replayStartTick then 2
      else if r.microcode ≠ s.n Obj.ensMicrocodeId then 3
      else if r.digest ≠ s.imageDigest i then 10
      else if s.n Obj.replayEndTick < s.n Obj.replayStartTick then 11
      else 0

/-- The feed is enabled (R451). -/
def feedOn (s : State) : Bool := bitOf (s.reg 0 0x3854) 0

/-- The feed ring holds all of a record (R451). -/
def inFeed (s : State) (r : FeedRecord) : Bool := decide (r.len ≤ used (s.reg 0 0x384C) (s.reg 0 0x3850))

/-- A record of the feed consumed. -/
def feedPast (s : State) (r : FeedRecord) : State := s.setReg 0 0x3850 ((s.reg 0 0x3850 + r.len) % 2 ^ 32)

/-- The first record of the feed, checked while LOADING; it is consumed when it is replayed. -/
def replayLoad (s : State) (r : FeedRecord) : State :=
  if s.o Obj.replayState ≠ 1 ∨ s.inFeed r = false then s
  else
    let c := s.loadStatus r
    if c ≠ 0 then s.replayEnd 0 c
    else { s.replayEnd 2 1 with record := { s.record with image := r.image, next := r.tick, differed := false } }

/-- IDLE to LOADING, in a W3 (R455). -/
def replayBegin (s : State) : State :=
  if s.o Obj.replayState = 0 ∧ s.feedOn = true ∧ s.o Obj.replayStartTick ≠ 0 ∧ 3 ≤ s.mode ∧ s.mode ≤ 5 then s.setO Obj.replayState 1 else s

/-! ### Running (R457–R460) -/

/-- Capture has copied the live records, or is off. -/
def captureDone (s : State) : Bool := !s.capOn || s.o Obj.capBehind == 0

/-- The replay at a boundary in REPLAY; `entry` tells the boundary of entry.  In RUNNING the ring stages the feed (R444,
R455). -/
def replayBoundary (s : State) (entry : Bool) : State :=
  let st := s.o Obj.replayState
  if st = 2 ∧ entry = true then (if s.captureDone then s else s.setO Obj.replayState 3)
  else if (st = 2 ∨ st = 3) ∧ s.captureDone = true then
    let s1 := s.setO Obj.replayState 4
    { s1 with record := { s1.record with entries := [], gap := none } }.showRing
  else s

/-- A recorded write in the replay's configuration image; an action reaches Canopy through the sections (R457, R459).
(Log entry 91, DEDUCED) -/
def imageWrite (t : State) (w : DictWrite) : State :=
  if actionKey w.key then t
  else if 0x300000 ≤ w.key ∧ w.key < 0x330000 then t.applyWrite w
  else t.storeWrite w

/-- One recorded tick on an image: what Canopy gives before it is put back, and the new image (R457). -/
def replayRun (s : State) (i : CanopyImage) (r : FeedRecord) : State × CanopyImage :=
  let x : TwinInputs := { r.inputs with coast := bitOf r.flags 6 }
  let t0 : State := { s with canopy := i.canopy, obj := i.obj, blobs := i.blobs }
  let t1 := r.dict.foldl imageWrite t0
  let t2 := (t1.project x).canopyTick x
  let t3 := unproject t1 t2 x
  (t2, ⟨t3.canopy, t3.obj, t3.blobs⟩)

/-- The output record of a replayed tick (R458). -/
def replayRecord (t : State) (r : FeedRecord) (out dig : Octets) (aux : Nat) : Octets :=
  let x := r.inputs
  let prov := match t.canopy.next with | some n => n.prov | none => []
  let h : BobHead := ⟨2, r.tick, x.state.bound, x.state.source, x.mode, aux⟩
  bobRecord h (bobSection 6 prov ++ bobSection 8 out ++ bobSection 9 dig)

/-- The output record of a replayed tick, to the host when the capture buffer has room (R459). -/
def replayOut (s : State) (rec_ : Octets) : State :=
  let s1 : State := { s with record := { s.record with replayed := rec_ } }
  if s1.capOn && s1.pcieUp && decide (rec_.length ≤ s1.capRoom) then s1.toHost rec_ else s1

/-- A difference between a replayed tick and its record (R458). (Log entry 91, DEDUCED) -/
def replayDiffer (s : State) (tick : Nat) : State :=
  let s4 := s.inc Obj.replayMismatches
  let s5 := if s4.record.differed then s4 else s4.setN Obj.replayFirstMismatch tick
  { s5 with record := { s5.record with differed := true } }

/-- The record consumed (R457). (Log entry 91, DEDUCED) -/
def replayPast (s : State) (i : CanopyImage) (r : FeedRecord) : State :=
  let s6 : State := { s with record := { s.record with image := some i, next := r.tick + 1 } }
  let s7 := ((s6.feedPast r).setN Obj.replayTick r.tick).inc Obj.replayTicksDone
  if r.tick = s7.n Obj.replayEndTick then s7.replayEnd 7 8 else s7

/-- One record of the feed replayed, or the stop before it (R457, R458, R460). (Log entry 91, DEDUCED) -/
def replayTick (s : State) (r : FeedRecord) : State :=
  match s.record.image with
  | none => s
  | some i =>
    if !r.crcOk || r.version != 1 then s.replayEnd 6 4
    else if r.tick ≠ s.record.next ∨ bitOf r.flags 0 = true then s.replayEnd 6 5
    else if bitOf r.flags 7 then s.replayEnd 6 6
    else
      let (t, i') := s.replayRun i r
      let coast := bitOf r.flags 6
      let out := if coast then [] else t.outputOctets t.wantedMode
      let digest := t.lastDigest
      let dig := if r.inputs.index = 35 ∧ !coast then t.digestOctets else []
      let bad := (!coast && out != r.output) || (match r.ensDigest with | some d => d != digest | none => false)
      let aux := (if bad then 1 else 0) + (if r.ensDigest.isSome then 2 else 0)
      let s2 := s.replayOut (replayRecord t r out dig aux)
      let s3 := if bad then s2.replayDiffer r.tick else s2
      if bad && s3.o Obj.replayOnMismatch == 0 then s3.replayEnd 6 7 else s3.replayPast i' r

/-- Recorded ticks replayed in a row while the replay runs and the feed holds them. -/
def replayTicks (s : State) : Nat → List FeedRecord → State
  | 0, _ => s
  | _, [] => s
  | n + 1, r :: t => if s.o Obj.replayState = 4 ∧ s.inFeed r = true then replayTicks (s.replayTick r) n t else s

/-- The replay in W1: STARVED when the next record is not in the feed, RUNNING again once it is (R455, R457). -/
def replayW1 (s0 : State) (feed : List FeedRecord) : State :=
  let s := s0.saveReplay
  let st := s.o Obj.replayState
  let here := match feed with | r :: _ => s.inFeed r | [] => false
  if st = 4 ∨ st = 5 then
    (if here then (s.setO Obj.replayState 4).replayTicks 1 feed else s.setO Obj.replayState 5)
  else s

/-- The replay in W2: the rest of REPLAY_SPEED (R457). -/
def replayW2 (s : State) (feed : List FeedRecord) : State := s.replayTicks (s.n Obj.replaySpeed - 1) feed

/-! ### Entry and exit (R27, R29, R461) -/

/-- The class T references start again from FAILED, with no selection, and the ensemble's members from WAITING (R29).
(Log entry 91, DEDUCED) -/
def requalify (s : State) : State :=
  let s1 := classTIds.foldl (fun s id => if s.refSt id = 0 then s else (s.setRef id { ever := (s.ref id).ever }).refEnter id 1) s
  let s2 := s1.declared.foldl (fun s m => s.declare m (if (s.member m).held then s.blob (Obj.ensMemberCfg m) else (s.member m).cfg)) s1
  let c := s2.canopy
  let s3 : State := { s2 with
    synth := { s2.synth with arrived := [], ingested := [] }
    canopy := { c with model := {}, work := none, hold := none, returning := none, window := [], carry := none, lastObs := none } }
  s3.selectBoundary

/-- The boundary of entry to REPLAY: the live timescale is discarded and runs on unsteered, and recording is suspended.
(Log entry 91, DEDUCED) -/
def replayEnter (s : State) : State :=
  let s1 := (s.linksDown.requalify.setF Obj.timescaleSet false).setO Obj.bobState 2
  let s2 : State := { s1 with
    sys := { s1.sys with step := none }, canopy := { s1.canopy with next := none, planeSat := false }
    record := { s1.record with staged := [], obs := [], applied := [], keyframe := [], keyDue := true } }
  s2.replayBoundary true

/-- The boundary of EXIT_REPLAY: the replayed state is discarded, and recording resumes with a keyframe (R448, R461). -/
def replayLeave (s : State) : State :=
  let st := s.o Obj.replayState
  let s1 := if st = 6 ∨ st = 7 then s.setO Obj.replayState 0 else s.replayEnd 0 9
  let s2 : State := { s1 with record := { s1.record with image := none, keyDue := true, nextSeq := s1.n Obj.evtlogNextSeq } }
  (s2.setO Obj.bobState 1).requalify.formKeyframe

end State

/-- REPLAY_LOAD: the first record of the feed, checked in LOADING (R456). -/
def execReplayLoad (rec_ : FeedRecord) (s : State) : Host.Outcome State Fault Refusal := .next (s.replayLoad rec_)

end Sys2Proof.Machine
end

