-- ==== Sys2Proof/Machine/Faults.lean ====
section
/-!
DEFINITION. Reports to the fault collector with their reactions, the log, acknowledgement, ALIVE, and injection (R384–R411).
A fault that another command finds is recorded by that command; FAULT_REPORT carries the others and their reactions.
-/

namespace Sys2Proof.Machine

/-- What an armed request makes its target's check find: the code and the SOURCE, 0 where the outcome is no fault (R408). -/
def injGives (j : Injection) (code source : Nat) : Bool :=
  let c := j.checker
  let one := j.mode == 1
  let is_ (x src : Nat) : Bool := code == x && source == src
  if c = 0x01 then
    (if one then is_ 0x0A01 j.inst
     else if j.inst = 20 then is_ 0x0A05 20 || is_ 0x0A04 20
     else is_ 0x0A04 j.inst || (decide (j.inst < 16) && (is_ 0x0905 j.inst || (code == 0x0906 && source / 17 == j.inst))))
  else if c = 0x02 then (if one then is_ 0x0A01 16 else is_ 0x0A06 j.inst || is_ 0x0A04 16)
  else if c = 0x03 then is_ (if one then 0x0902 else 0x0901) j.inst
  else if c = 0x04 then is_ 0x0901 j.inst
  else if c = 0x05 then (if one then code == 0 else is_ 0x0302 j.inst)
  else if c = 0x06 then is_ 0x0401 (j.inst / 16) || is_ 0x0402 (j.inst / 16)
  else if c = 0x07 then code == 0x0403
  else if c = 0x08 then is_ 0x0801 j.inst
  else if c = 0x09 then is_ 0x0802 j.inst
  else if c = 0x0A then is_ 0x0903 j.inst
  else if c = 0x0B then code == 0x0B01
  else if c = 0x0C then code == 0x0102
  else if c = 0x0E then is_ 0x0906 j.inst
  else if c = 0x0F then (if one then code == 0 else is_ 0x0905 j.inst)
  else if c = 0x10 then is_ 0x0503 j.inst
  else if c = 0x11 then is_ 0x0601 j.inst
  else false

namespace State

/-- The armed request explains an injected report (R407, R408). -/
def injExplains (s : State) (f : FaultOperand) : Bool := match s.fault.armed with
  | some j => injGives j f.code f.source && (decide (j.checker ≠ 0x01) || j.addr == 2 ^ 64 - 1 || j.addr == f.detail)
  | none => false

/-- A clock fault reported for a source: the loss-of-clock event with its fault, or the record alone where the source is lost
already (R36). -/
def reportClock (s : State) (c : ClockSource) (f : FaultOperand) : State :=
  if s.clockPresent c then
    match c with
    | .apll k => if s.pll k.val = 2 then s.pllBypass k.val else s.clockLost c
    | _ => s.clockLost c
  else s.faulted f.code f.source 0

/-- The clock that a fault of block 0x02 names by its SOURCE (R391). -/
def clockOfSource (source : Nat) : ClockSource :=
  if source = 0 then .xo else if source = 6 then .apll 0 else if source = 7 then .stampTree else if source = 8 then .apll 5
  else if source = 9 then .apll 1 else if source = 14 then .apll 2 else if source = 15 then .apll 3
  else if source = 33 then .jesd else if source = 35 then .pcie else if source = 36 then .mgmtPll else if source = 37 then .mgmtRx
  else if source = 38 then .yethalRx else if source = 39 then .yethalPll else .apll 4

/-- A placement miss forced on an output: the ninth in a row latches it low (R187, R408). -/
def forcedMiss (s : State) (p : Nat) (raise : Bool) : State :=
  let v := s.out p
  if raise || decide (8 ≤ v.misses) then
    ((s.setOut p { v with latched := true, driving := false, misses := 0 }).inc (Obj.outPlaceFaults p)).faulted 0x0503 p 0
  else s.setOut p { v with misses := v.misses + 1 }

/-- Faults of the stampers, Glade, Canopy and the outputs, with their reactions (R391). -/
def faultTiming (s : State) (f : FaultOperand) (tap : Option Nat) : State :=
  let k := f.source
  match f.code with
  | 0x0101 => (s.faulted 0x0101 0 0).coastTick
  | 0x0102 => (s.faulted 0x0102 0 0).coastTick
  | 0x0301 => s.tableReject k
  | 0x0302 => if s.stIn k then s.stamperFault k else s.faulted 0x0302 k 0
  | 0x0303 =>
    let out (s : State) (j : Nat) : State := if s.stIn j then s.stamperOut j else s
    (out (out s (2 * k)) (2 * k + 1)).faulted 0x0303 k 0
  | 0x0401 => s.drew.tapParity k [Fin.ofNat 9 (tap.getD (Config.freeNat s.sys.free % 8))]
  | 0x0402 => s.tapParity k [Fin.ofNat 9 (tap.getD 8)]
  | 0x0403 => (s.faulted 0x0403 0 0).solutionLost
  | 0x0501 => s.memberFault k
  | 0x0502 =>
    let s1 := s.faulted 0x0502 0 0
    { s1 with canopy := { s1.canopy with planeSat := true } }.forceUnbounded
  | 0x0503 => s.forcedMiss k (!f.injected)
  | 0x0504 =>
    let s1 := s.setDst k { s.dst k with busy := false }
    (s1.setO (Obj.dsteerState k) 2).faulted 0x0504 k 0
  | 0x0601 =>
    let s1 := s.inc (Obj.npExactVerifyFaults k)
    (s1.setMac k { s1.mac k with exactOffDue := true }).faulted 0x0601 k 0
  | _ => s.faulted f.code f.source 0

/-- A share check that fails: a COOKIE_MASTER is regenerated at once with a new ID, where a key can be drawn (R312, R314). -/
def slotCheck (s : State) (k : Nat) : State :=
  let s1 := (s.faulted 0x0801 k 0).slotFail k
  if 4 ≤ k ∧ k ≤ 6 ∧ s1.vault.entropyFailed = false ∧ s1.mode ≠ mHalted then
    let j := k - 4
    let s2 := s1.drew.drew
    let id := Config.freeNat s1.sys.free % 2 ^ 32
    let key := padTo 32 (Config.freeOctets (s1.sys.free + 1) 32)
    match s2.serv.keySets with
    | (_, l) :: _ =>
      let l1 := (enum l).map fun x => if x.1 = j then (id, key) else x.2
      State.showKeys { s2 with serv := { s2.serv with keySets := (s2.tick, l1) :: s2.serv.keySets }, power := { s2.power with journalDue := true } }
    | [] => s2
  else s1

/-- Faults of the vault, the groves and the memories, with their reactions (R391). -/
def faultGroves (s : State) (f : FaultOperand) : State :=
  let k := f.source
  match f.code with
  | 0x0801 => s.slotCheck k
  | 0x0802 =>
    let (s1, cls) := s.raise 0x0802 k 0
    if cls = 2 then s1.aesOut (k / 2) (k % 2) else s1
  | 0x0803 =>
    let s1 : State := { s with vault := { s.vault with entropyFailed := true } }
    (s1.inc Obj.entropyFails).faulted 0x0803 0 0
  | 0x0804 => s.zeroise.faulted 0x0804 k 0
  | 0x0805 => s.zeroise.faulted 0x0805 0 0
  | 0x0901 => s.engineFail (k / 17) (k % 17)
  | 0x0902 =>
    let (s1, cls) := s.raise 0x0902 k 0
    if cls = 2 then s1.engineOut (k / 17) (k % 17) else s1
  | 0x0903 => (s.faulted 0x0903 k 0).aesOut (k / 2) (k % 2)
  | 0x0904 => s.groveFault k
  | 0x0905 => (s.faulted 0x0905 k 0).reedLost k
  | 0x0906 =>
    let s1 := s.faulted 0x0906 k 0
    let bad (t : Tbl (Option Checkpoint)) (i : Nat) : Tbl (Option Checkpoint) :=
      Sparse.put (fun _ => none) t i ((Sparse.get (fun _ => none) t i).map fun c => { c with ok := false })
    { s1 with shuttle := { s1.shuttle with checkpoints := bad s1.shuttle.checkpoints (2 * k + s1.tick % 2) } }
  | 0x0A01 => s.memCe k f.detail
  | 0x0A02 => s.remapWord k f.detail
  | 0x0A03 => (s.inc (Obj.memHardUnremapped k)).faulted 0x0A03 k f.detail
  | 0x0A04 => s.memUe k f.detail none (if k = 20 then some (f.detail % 64) else none)
  | 0x0A05 => (s.inc (Obj.memUeCount 20)).faulted 0x0A05 20 f.detail
  | 0x0A06 =>
    let (s1, cls) := s.raise 0x0A06 k f.detail
    if cls = 2 then s1.poisonLine (f.detail % 262144) else s1.refetch k (f.detail % 262144)
  | _ => s.faulted f.code f.source 0

/-- Faults of the Forester, the host interface, the pair and the side units (R391). -/
def faultRest (s : State) (f : FaultOperand) : State :=
  let k := f.source
  match f.code with
  | 0x0B05 =>
    let s1 := s.faulted 0x0B05 k 0
    { s1 with host := { s1.host with stopped := if s1.host.stopped.contains k then s1.host.stopped else s1.host.stopped ++ [k] } }
  | 0x0C01 => if s.joined then { s with twin := { s.twin with downDue := true } } else s.faulted 0x0C01 0 0
  | 0x0C03 => if s.follows then (s.faulted 0x0C03 0 0).discardShadow else s.faulted 0x0C03 0 0
  | 0x0E03 => s.i2cStuck k
  | _ => s.faulted f.code f.source 0

/-- The reaction to a report by its code block. -/
def faultReact (s : State) (f : FaultOperand) (tap : Option Nat) : State :=
  let b := f.code / 256
  if b = 2 then s.reportClock (if f.code = 0x0207 then (if h : f.source < 16 then .lane ⟨f.source, h⟩ else .xo) else clockOfSource f.source) f
  else if b ≤ 6 then s.faultTiming f tap
  else if b ≤ 10 then s.faultGroves f
  else s.faultRest f

/-- A SOURCE that the unit of a code has (R391). (Log entry 27, DEDUCED) -/
def sourceOk (f : FaultOperand) : Bool :=
  let k := f.source
  match f.code with
  | 0x0207 => decide (k < 16) | 0x0301 => decide (k < 170) | 0x0302 => decide (k < 170) | 0x0303 => decide (k < 85)
  | 0x0401 => decide (k < 256) | 0x0402 => decide (k < 256) | 0x0501 => decide (k < 16) | 0x0503 => decide (k < 64)
  | 0x0504 => decide (k < 4) | 0x0601 => decide (k < 16) | 0x0801 => decide (k < 96) | 0x0802 => decide (k < 32)
  | 0x0901 => decide (k < 272) | 0x0902 => decide (k < 272) | 0x0903 => decide (k < 32) | 0x0904 => decide (k < 16)
  | 0x0905 => decide (k < 16) | 0x0906 => decide (k < 272) | 0x0A01 => decide (k < 21) | 0x0A02 => decide (k < 21)
  | 0x0A03 => decide (k < 21) | 0x0A04 => decide (k < 21) | 0x0A06 => decide (k < 16) | 0x0B05 => decide (k < 2) | 0x0E03 => decide (k < 2)
  | _ => true

/-- A report of the collector (R384, R390, R391, R409).  An injected one consumes one detection of the request that explains
it. (Log entries 27, DEDUCED; 28, DEDUCED; 66, DEDUCED) -/
def report (s : State) (f : FaultOperand) : State :=
  if !s.alive || !sourceOk f || f.code == 0x0203 || f.code == 0x0B03 || (f.injected && !s.injExplains f) then s
  else
    let s1 := if f.injected then s.injConsume else s
    if f.code = 0 then s1
    else
      let s2 : State := { s1 with fault := { s1.fault with context := some (f.subtick, f.injected) } }
      -- an injected tap fault is one of the tap that the request names (R408)
      let tap : Option Nat := if f.injected then s.fault.armed.map fun j => j.inst % 16 else none
      let s3 := s2.faultReact f tap
      { s3 with fault := { s3.fault with context := none } }

/-- The automatic acknowledgement of a boundary (R389). -/
def autoAck (s : State) : State :=
  let policy := s.n Obj.ackPolicy
  let left := s.fault.unacked.filter fun u => !(decide (u.due ≤ s.tick) && !bitOf policy (u.cls - 1))
  if left.length = s.fault.unacked.length then s
  else { s with fault := { s.fault with unacked := left } }.countOpen

/-- The AON clock lost: HALTED without a log entry (R384). -/
def aonLost (s : State) : State :=
  let old := s.o Obj.modeCurrent
  let s1 : State := { s with fault := { s.fault with frozen := true, held := [], fatal := { code := 0x0203, source := 5 } } }
  let s2 := (((s1.haltDump.bobHalt.haltUnits.setO Obj.modePrevious old).setO Obj.modeCurrent mHalted).setN Obj.modeEntryTick s.tick).inc Obj.modeTransitions
  let st := [5].foldl clearBit (s2.n Obj.cdStatus)
  (((s2.inc (Obj.faultCodeCount 0x0203)).setN Obj.cdStatus st).setN Obj.cdLostSticky (setBit (s2.n Obj.cdLostSticky) 5)).inc Obj.cdLossCount

end State

/-! ### Commands -/

/-- FAULT_REPORT: a checker reports a fault (R384). -/
def execFaultReport (f : FaultOperand) (s : State) : Host.Outcome State Fault Refusal := .next (s.report f)

/-- AON_CLOCK_LOSS: the monitor on XO_IN finds the AON clock lost (R384, R397). (Log entry 27, DEDUCED) -/
def execAonClockLoss (s : State) : Host.Outcome State Fault Refusal := if s.alive then .next s.aonLost else .next s

/-- EVENT_LOG_WRITE: 2 µs after a boundary the entries of the ticks before are written, and their notices formed (R350,
R386). -/
def execEventLogWrite (s : State) : Host.Outcome State Fault Refusal :=
  if s.alive then .next ((s.flushLog s.tick false).formNotices s.tick) else .next s

/-- FAULT_AUTO_ACK: at a boundary, the records that are due are acknowledged (R389). -/
def execFaultAutoAck (s : State) : Host.Outcome State Fault Refusal := if s.running then .next s.autoAck else .next s

/-- FAULT_ACK: `v` written to 0x9002:00 on port class H or M; a value above the last SEQ written is refused (R389). -/
def execFaultAck (cls : PortClass) (v : Nat) (s : State) : Host.Outcome State Fault Refusal :=
  if s.running && (cls == .hostH || cls == .mgmtM) && decide (v < s.n Obj.evtlogNextSeq) then .next (s.ackUpTo v) else .next s

/-- ALIVE_TOGGLE: at every eighth boundary from the first WARMUP tick on, ALIVE changes level (R395).
(Log entry 26, DEDUCED) -/
def execAliveToggle (s : State) : Host.Outcome State Fault Refusal :=
  if s.running && s.fault.aliveCount != 0 && s.fault.aliveCount % 8 == 0 then .next (s.setF Obj.aliveLevel (!s.flag Obj.aliveLevel)) else .next s

/-- INJ_REQUEST: 16 octets written to 0xF000:02 on port class H; a request refused for its mode or arming is counted (R406,
R407). -/
def execInjRequest (cls : PortClass) (blob : Octets) (s : State) : Host.Outcome State Fault Refusal :=
  let j := injOf blob
  if !s.running || cls != .hostH || blob.length != 16 || !State.injPairOk j.checker j.mode j.count j.inst then .next s
  else if s.injAllowed j.checker j.inst then .next (s.addDue false (.arm j))
  else .next (s.inc Obj.injRefused)

/-- INJ_CANCEL: 1 written to 0xF000:03 on port class H (R407). -/
def execInjCancel (cls : PortClass) (s : State) : Host.Outcome State Fault Refusal :=
  if s.running && cls == .hostH then .next (s.addDue false .disarm) else .next s

end Sys2Proof.Machine
end

