-- ==== Sys2Proof/Machine/Pair.lean ====
section
/-!
DEFINITION. The join boundary J of a pair: both units take their roles, and the one that is not the owner takes the owner's
configuration, keys, sessions and Canopy state (R414–R418), with TWIN_JOIN_BOUNDARY.
-/

namespace Sys2Proof.Machine

namespace State

/-- The writes that give pair-agreed objects the owner's values; an object that is not one is not taken (R417). -/
def bulkWrites (b : Bulk) : List DictWrite :=
  (b.objs.filterMap fun p => if pairAgreed p.1 && !actionKey p.1 then (objRow p.1).map fun r => DictWrite.mk p.1 (r.ty.encode p.2) else none) ++
    b.blobs.filterMap fun p => if pairAgreed p.1 && !actionKey p.1 then some (DictWrite.mk p.1 p.2) else none

/-- What the owner-elect sent, installed on the other unit (R415, R417, R434, R435). -/
def installBulk (s : State) (b : Bulk) : State :=
  let link := s.linkKey
  let slots := b.slots.filterMap fun p => (Config.keyUnwrap link p.2).map fun c => (p.1, c)
  let sets := b.keySets.map fun x => (x.1, x.2.filterMap fun k => (Config.keyUnwrap link k.2).map fun c => (k.1, c))
  let s1 := slots.foldl (fun s p => s.fillSlot p.1 1 1 p.2 [] 0) s
  let s2 := (bulkWrites b).foldl applyWrite s1
  let s3 : State := { s2 with serv := { s2.serv with keySets := sets, sessions := b.sessions, seqs := b.seqs } }
  let s4 := (slots.foldl (fun s p => s.reloadLanes p.1) s3.countSessions).showKeys
  s4.installCanopy b

/-- A role taken at J: the state, the counts and the status (R414, R415). -/
def joinAs (s : State) (st : Nat) (master : Bool) : State :=
  let s1 := (((s.twinEnter st).inc Obj.twinJoins).setN Obj.twinJoinStatus 0).setN Obj.twinJoinTick s.tick
  { s1 with twin := { s1.twin with joinAt := none, master := master, gotAgree := true, missing := 0 } }

/-- The join at J (R415 step 7, R416). -/
def joinNow (s : State) : State :=
  let own := s.flag Obj.twinOwn
  if s.twin.elect then
    let s1 := s.joinAs 7 true
    if own then s1 else { s1 with twin := { s1.twin with switching := some true } }.inc Obj.twinTakes
  else match s.twin.bulkDue with
    | none => s
    | some b =>
      let s1 := (s.installBulk b).joinAs 5 false
      if own then { s1 with twin := { s1.twin with switching := some false } }.inc Obj.twinReleases else s1

end State

/-- TWIN_JOIN_BOUNDARY: J, a boundary of tick index 0 that both units know (R415). -/
def execTwinJoinBoundary (s : State) : Host.Outcome State Fault Refusal :=
  match s.twin.joinAt with
  | some j => if s.running = true ∧ s.o Obj.twinState = 4 ∧ j ≤ s.tick ∧ s.index = 0 then .next s.joinNow else .next s
  | none => .next s

end Sys2Proof.Machine
end

