-- ==== Sys2Proof/Machine/Modes.lean ====
section
/-!
DEFINITION. Modes, reset, BOOT, the tick boundary and the four windows (R27–R57, R465–R471), with the commands
RESET_RELEASE, PWR_OK_FALL, RESET_N_ASSERT, FILL_COMPLETE, BOOT_THERMAL_RECHECK, BOOT_COMPLETE, TICK_BOUNDARY, W0_INGEST,
W1_SOLVE, W2_SERVE, W3_MAINTAIN, WINDOW_OVERRUN, SHUTTLE_CLOCK_ENABLE, SHUTTLE_CLOCK_GATE, ENTER_REPLAY, EXIT_REPLAY,
LOSS_OF_CLOCK and CLOCK_RETURN.
-/

namespace Sys2Proof.Machine

/-- The windows in the order of a tick (R41). -/
def Window.rank : Window → Nat
  | .none => 0
  | .w0 => 1
  | .w1 => 2
  | .w2 => 3
  | .w3 => 4

namespace State

/-! ### Reset (R27, R30, R37, R323, R479, R499) -/

/-- RESET entered: everything as at power-up but the flash, with a journal write or command cut short, the tamper-count fuses, and,
while PWR_OK stays high, the latches of a tamper and of a trip. (Log entries 11, DEDUCED; 12, DEDUCED) -/
def toReset (s : State) (pwrOk : Bool) : State :=
  let slots := match s.power.write with
    | some w => if w.started then setAt s.power.slots w.slot .torn else s.power.slots
    | none => s.power.slots
  let cut := match s.power.command with
    | some c => s.drew.flashPut c.cs c.addr (padTo (flashSpan c) (Config.freeOctets s.sys.free (flashSpan c)))
    | none => s
  let tampered := pwrOk && s.vault.tampered
  let fresh : State := { State.reset with
    pending := s.pending
    sys := { State.reset.sys with pwrOk := pwrOk, free := cut.sys.free }
    vault := { State.reset.vault with tampered := tampered, fuseDue := pwrOk && s.vault.fuseDue }
    power := { State.reset.power with
      slots := slots, flash := cut.power.flash, tripLatch := pwrOk && s.power.tripLatch, trippedBy := s.power.trippedBy } }
  let s1 := fresh.setN Obj.tamperCount (s.n Obj.tamperCount)
  if tampered then s1.setN Obj.vaultState 3 else s1

/-- Reset released: BOOT begins, with the straps sampled, APLL-S acquiring, the vault in INIT and the side buses reset; a latched
tamper or trip is raised at once (R27, R184, R315, R323, R479, R498, R503). (Log entry 11, DEDUCED) -/
def released (s : State) (twinEn : Bool) (avsAddr : Nat) (lines : I2cLines × I2cLines) : State :=
  let s0 : State := { s with sys := { s.sys with pwrOk := true, resetN := true }, bus := { s.bus with jtag := .bypass } }
  let s1 := ((((s0.changeMode mBoot).setF Obj.twinEnable twinEn).setN Obj.avsAddr avsAddr).setN Obj.twinState (if twinEn then 1 else 0)).setO
    Obj.xipCs0 1
  let s2 := (s1.pllStart 1).setN Obj.cdStatus (setBit (setBit (s1.n Obj.cdStatus) 0) 5)
  let s3 := ((if s2.vault.tampered then s2 else s2.setN Obj.vaultState 1).i2cReset 0 lines.1).i2cReset 1 lines.2
  if s3.vault.tampered then s3.faulted 0x0805 0 0
  else if s3.power.tripLatch then s3.faulted 0x0E02 s3.power.trippedBy 0
  else s3

/-! ### BOOT (R310, R372, R467–R469, R477, R480) -/

/-- The boot digest extended with the SHA-384 of a checked image (R310). -/
def extendDigest (s : State) (image : Octets) : State :=
  s.setBlob Obj.bootDigest (padTo 48 (Config.sha384 (s.bootDigest ++ padTo 48 image)))

/-- The cost coefficients 0x2206:01–0A that the Shuttle firmware and the Canopy microcode carry (R49); one that an image leaves out
keeps the catalogue's default. -/
def loadCosts (s : State) (l : List Nat) : State :=
  (enum (l.take 10)).foldl (fun s x => s.setN (Obj.costEngineFixed + x.1) (x.2 % 2 ^ 32)) s

/-- The images checked in load order; the first that fails ends BOOT (R467, R468). -/
def checkImages (s : State) (b : BootRead) : State :=
  match b.copy with
  | none => s.faulted 0x0B06 0 0
  | some c =>
    let s1 := ((s.setN Obj.bootImageCopy c.val).extendDigest (b.digests.getD 0 [])).setO Obj.xipCs0 0
    if !b.shuttleOk then s1.faulted 0x0B06 1 0
    else
      let s2 := s1.extendDigest (b.digests.getD 1 [])
      if !b.microcodeOk then s2.faulted 0x0B06 2 0
      else
        let s3 := (s2.extendDigest (b.digests.getD 2 [])).loadCosts b.costs
        { s3 with power := { s3.power with loaded := true } }

/-- The messages that waited in RESET, served once the Forester runs (R348). (Log entry 25, DEDUCED) -/
def serveHeld (s : State) : State :=
  let s0 : State := { s with host := { s.host with waiting := [] }, vault := { s.vault with queue := [], mints := [] } }
  let s1 := s.host.waiting.foldl serveMsg s0
  let s2 := s.vault.queue.foldl (fun s x => s.vaultJudge x.1 x.2) s1
  let s3 := s.vault.mints.foldl mintJudge s2
  (List.range 16).foldl (fun s k =>
    if (s.chan_ k).phase = .waiting then s.chanDone k (unknownCode k (s.chan_ k).op) [] else s) s3

/-- The fill is complete: the memory reads 0, the journal and the remap tables are read, the supply's target is set, and the images
are checked and loaded. -/
def filled (s : State) (b : BootRead) : State :=
  let s0 := s.setN Obj.fillTimeUs b.fillUs
  let s1 : State := { s0 with mem := [], power := { s0.power with filled := true } }
  let s2 := (enum (b.jedec.take 2)).foldl (fun s x => s.setN (Obj.qspiJedecId x.1) x.2) s1
  let s3 := (s2.journalRead.avsStart b.vout).checkImages b
  if s3.mode = mBoot then s3.serveHeld else s3

/-- Time at the first tick of WARMUP: the last time that the journal holds, or 0 s (R65). (Log entry 13, DEDUCED) -/
def firstTime (s : State) : Int := match s.power.read with
  | some j => j.time
  | none => 0

/-- The anchor record of the tick (R70); `prev` is TICK and CNS as they stood in the tick before a realignment tick. -/
def anchor (s : State) (prev : Option (Nat × Nat)) : State :=
  let tick := (((s.tick : Int) - s.index) % 2 ^ 64).toNat
  let cns := ((s.second * 1000000000) % 2 ^ 64).toNat
  let s1 := match prev with
    | some (t, c) =>
      (((s.setN Obj.anchorGen ((s.n Obj.anchorGen + 1) % 2 ^ 32)).setN Obj.anchorValidFrom s.tick).setN Obj.prevAnchorTick t).setN
        Obj.prevAnchorCns c
    | none => s
  let s2 := (s1.setN Obj.anchorTick tick).setN Obj.anchorCns cns
  s2.setBlob Obj.anchorRecord (toBE 4 (s2.n Obj.anchorGen) ++ zeros 4 ++ toBE 8 (s2.n Obj.anchorValidFrom) ++ toBE 8 tick ++ toBE 8 cns ++
    toBE 8 (s2.n Obj.prevAnchorTick) ++ toBE 8 (s2.n Obj.prevAnchorCns))

/-- The objects as they stand at the start of a tick, which reads in the tick answer from (R334). -/
def snapshot (s : State) : State := { s with host := { s.host with snapObj := s.obj, snapBlobs := s.blobs, snapWrapped := s.sys.wrapped } }

/-- The bound and the state of the tick come into force (R17, R231): the newest entry of the history.
(Log entry 14, DEDUCED) -/
def inForce (s : State) (h : TsState) : State :=
  let (s1, b, src, cal) := s.commitBound
  let now : TsState := { h with bound := b, source := src, flags := s1.boundFlags src, mode := s1.mode.toNat, ref := s1.n Obj.selTCurrent, cal := cal }
  let older := s1.sys.history.drop 1
  { s1 with sys := { s1.sys with history := now :: older.take 2, forceUnbounded := false }, canopy := { s1.canopy with next := none } }.publishTime

/-- The tick generator starts on XO_IN: tick 0 of WARMUP (R30, R39, R65). (Log entry 13, DEDUCED) -/
def startTicks (s : State) : State :=
  let t := s.firstTime
  let span := tickSpan t true
  let h : TsState := { tick := 0, time := t, plane := 0, len := (span * tickPlane / tickUnits).toNat, rateY := 0, bound := unbounded, source := 0 }
  let s1 : State := { s with sys := { s.sys with warmupTick := 0, nextTime := t + span, history := [h], window := .none } }
  let s2 := (((s1.setO Obj.timeNow t).setN Obj.tickCount 0).setO Obj.tickIndex (timeIndex t)).setO Obj.tickCountOffset (-(t / tickUnits))
  let s3 := ((s2.setO Obj.tickSource 0).inc Obj.tickXoCount).setN Obj.tickLengthCycles 3125
  (s3.inForce h).anchor none

/-- Entry to WARMUP (R27 transition 4, R31, R184, R310, R313, R315). (Log entry 13, DEDUCED) -/
def enterWarmup (s : State) (us : Nat) : State :=
  let s1 := ((s.changeMode mWarmup).setN Obj.bootTimeUs us).startTicks
  let s2 := s1.restoreKeys.warmupKeys.recoveryRemask
  let s3 := (s2.pllStart 0).setN Obj.aplltSource (s2.aplltAcquire.getD 255)
  ((s3.setO Obj.bobState 1).formKeyframe.loomBoundary).snapshot

/-- BOOT is complete, or held while Tj is 115 °C or more (R467, R480). (Log entry 21, DEDUCED) -/
def bootDone (s : State) (us : Nat) : State :=
  if 1840 ≤ s.o Obj.tjMax then
    let s1 := s.setO Obj.thermalState 2
    { s1 with power := { s1.power with held := true } }
  else
    let s1 := s.setO Obj.thermalState 0
    State.enterWarmup { s1 with power := { s1.power with held := false } } us

/-! ### The tick boundary: what the tick that ends leaves (R60, R381, R508) -/

/-- The end of a tick: its engine cycles, its work accounts, its stamps and its observations. -/
def closeTick (s : State) (cycles : Nat) (work : List WorkTally) : State :=
  let s1 := work.foldl accountWork (s.setN Obj.engCyclesLastTick (cycles % 2 ^ 32))
  s1.commitAll.ppsNews.stageObs.missedDues

/-- The actions due at the boundary, in order of arrival (R60). (Log entry 22, DEDUCED) -/
def fireActions (s : State) : State :=
  let zero := timeIndex s.sys.nextTime == 0
  let now := s.sys.due.filter fun d => decide (d.wait ≤ 1) && (!d.second || zero)
  let left := (s.sys.due.filter fun d => !(decide (d.wait ≤ 1) && (!d.second || zero))).map fun d => { d with wait := d.wait - 1 }
  let s1 : State := { s with sys := { s.sys with due := left } }
  s1.atNext fun v => now.foldl (fun s d => s.fireDue d.write) v

/-- Every write due at the boundary: actions, batches, and key writes (R60, R309, R334). (Log entry 22, DEDUCED) -/
def boundaryApply (s : State) : State :=
  let s1 := s.fireActions
  let s2 := (s1.boundaryBatches false).keyWritesApply
  { s2 with vault := { s2.vault with writes := s2.vault.writes.map fun w => { w with wait := w.wait - 1 } } }

/-! ### The tick that begins (R30, R38–R40, R206) -/

/-- The tick that begins: count, index, device time, source and length, with the realignment of a requested step.  `shift` moves the
plane position of the boundary (R180). (Log entry 16, DEDUCED) -/
def advance (s : State) (shift : Int) : State :=
  let old : TsState := (s.sys.history.head?).getD { tick := s.tick, time := s.timeNow, plane := 0, len := 0, rateY := 0, bound := unbounded, source := 0 }
  let realign := s.sys.step.isSome
  let delta := match s.sys.step with | some p => p.delta | none => 0
  let t := s.sys.nextTime + delta
  let count := s.nextTick
  let first := realign && !s.flag Obj.timescaleSet
  let locked := s.pll 0 == 2 || s.pll 0 == 4 || s.pll 0 == 5
  let span := tickSpan t realign
  let wasXo := s.o Obj.tickSource == 0
  let prev := (s.n Obj.anchorTick, s.n Obj.anchorCns)
  let (s1, len) := s.takeLength (!locked) span
  let plane := old.plane + old.len + shift
  let cycles := if wasXo then 3125 else (plane / cyclePlane - old.plane / cyclePlane).toNat
  let now : TsState := { tick := count, time := t, plane := plane, len := len.toNat, rateY := s1.canopy.rate, bound := unbounded, source := 0 }
  let s2 : State := { s1 with
    sys := { s1.sys with
      warmupTick := s1.age + 1, sinceLock := s1.sys.sinceLock.map (· + 1), step := none, lastStep := if realign then delta else s1.sys.lastStep
      realignTick := realign, follow := if !realign then .none else if first then .first else .later
      nextTime := t + span, history := now :: s1.sys.history, window := .none, coast := false, overran := 0 }
    stamp := { s1.stamp with lastRealign := s.sys.realignTick, lastSet := s.flag Obj.timescaleSet } }
  let s3 := ((((s2.setN Obj.tickCount count).setO Obj.tickIndex (timeIndex t)).setO Obj.tickCountOffset ((count : Int) - t / tickUnits)).setO
    Obj.timeNow t).setN Obj.tickLengthCycles cycles
  let s4 := (s3.setF Obj.tickSource locked).setO Obj.servoRateY s3.canopy.rate
  let s5 := if locked then s4 else s4.inc Obj.tickXoCount
  if realign then ((s5.inc Obj.tickRealignments).setF Obj.timescaleSet true).anchor (some prev) else s5.anchor none

/-- What a realignment does to the references, Canopy and the outputs (R190, R207, R230). (Log entry 16, DEDUCED) -/
def realigned (s : State) : State :=
  if s.sys.realignTick then
    ((s.refsStepped s.sys.lastStep).canopyStepped s.sys.lastStep (s.sys.follow == .first)).outsStepped s.sys.lastStep
  else s

/-! ### Modes (R22, R27, R28) -/

/-- The excursions of the local oscillator beyond ±4e-6 (R22). (Log entry 24, DEDUCED) -/
def loCheck (s : State) : State :=
  let out := s.loBeyond
  let s1 := if out && !s.sys.loOut then s.inc Obj.loRangeExceeded else s
  { s1 with sys := { s1.sys with loOut := out } }

/-- Transition 5: every PLL locked, every grove past STARTING, and WARMUP_MIN_S since the latest APLL-T lock. -/
def warmupDone (s : State) : Bool :=
  s.mode == mWarmup && (List.range 6).all (fun k => s.pll k == 2) && (List.range 16).all (fun g => decide (2 ≤ s.o (Obj.groveState g))) &&
    (match s.sys.sinceLock with | some n => decide (s.n Obj.warmupMinS * 8192 < n) | none => false)

/-- The status of a mode request at its boundary, but for a transition of higher priority (R33). -/
def requestStatus (s : State) (req : Nat) : Nat :=
  if req = 1 then
    (if s.mode < 3 ∨ 5 < s.mode then 1 else if s.joined then 2 else if s.o Obj.replayState ≠ 2 then 3 else 0)
  else if s.mode = mReplay then 0 else 1

/-- The transition of the boundary, judged with the bound in force in the tick that ends: the mode to enter (R27, R28).
(Log entry 15, DEDUCED) -/
def transition (s : State) (bound : Nat) : Option Int :=
  if s.warmupDone then some mAcquire else s.canopyMode bound

/-- A mode entered at a boundary, with what Canopy does there; Glade's links start anew where the device leaves WARMUP to HOLDOVER (R27, R29, R120,
R215, R220). -/
def enterMode (s : State) (m : Int) (bound : Nat) : State :=
  let was := s.mode
  let s1 := if was = mHoldover then s.leaveHoldover (decide (m = mTrack)) else s
  let s2 := s1.changeMode m
  if m = mHoldover then s2.enterHoldover bound
  else if m = mReplay then s2.linksDown.replayEnter.recoveryRemask
  else if was = mReplay then s2.replayLeave
  else s2

/-- The mode of the boundary: at most one transition, and the judgement of a request (R28).
(Log entry 15, DEDUCED) -/
def judgeMode (s : State) (bound : Nat) : State :=
  let req := s.sys.modeReq
  let s0 : State := { s with sys := { s.sys with modeReq := 0 } }
  let c := s0.transition bound
  let code := if req = 0 then 0 else let x := s0.requestStatus req; if x = 0 ∧ c.isSome then 4 else x
  let s1 := if req = 0 then s0 else if code = 0 then s0.setN Obj.modeRequestStatus 0
    else (s0.setN Obj.modeRequestStatus code).inc Obj.modeReqRefused
  match c with
  | some m => s1.enterMode m bound
  | none => if req ≠ 0 ∧ code = 0 then s1.enterMode (if req = 1 then mReplay else mAcquire) bound else s1

/-! ### Service (R55, R57) -/

/-- Service is allowed: TRACK or HOLDOVER, with the bound below the ceiling of an enabled service. -/
def allowedNow (s : State) : Bool :=
  s.inService && (List.range 3).any fun k => s.svcOn k && s.flag (Obj.ceilingOk k)

/-- Service and the ramp at a boundary: the groves return to READY one boundary after service stopped; from boundary a each grove
has its slot 64 ticks after the grove before it (R55, R57, R62). (Log entry 17, DEDUCED) -/
def serviceBoundary (s : State) : State :=
  let was := s.flag Obj.serviceAllowed
  let now := s.allowedNow
  let s1 := if !was && s.sys.serviceWas then
      (List.range 16).foldl (fun s g => if s.o (Obj.groveState g) = 3 then s.setO (Obj.groveState g) 2 else s) s
    else s
  let wait : Tbl (Option Nat) :=
    if now && !was then (List.range 16).map fun g => (g, some (64 * g))
    else if now then s1.sys.rampWait.filterMap fun e => match e.2 with | some (n + 1) => some (e.1, some n) | _ => none
    else []
  let s2 : State := { s1 with sys := { s1.sys with serviceWas := was, rampWait := wait } }
  let s3 := if now = was then s2 else (s2.setF Obj.serviceAllowed now).hostEvent .serviceChange
  if now && !was then s3.setN Obj.serviceAllowedTick s3.tick else s3

/-! ### The boundary as a whole -/

/-- Canopy at a boundary on its own inputs; a unit that follows its twin runs the ensemble in W1 (R209, R422). -/
def canopyAt (s : State) : State :=
  let s1 := (if s.stamp.lastTplLost && !s.stamp.tplLost then s.unanchor else s).takeSwitched
  let s2 := if s1.follows then s1 else s1.canopyBoundary
  { s2 with synth := { s2.synth with planeMoved := s2.pll 0 == 4 || s2.pll 0 == 5 } }

/-- The references at a boundary; in REPLAY no observation is taken (R31, R171–R175). -/
def refsAt (s : State) : State :=
  if s.mode = mReplay then
    let s1 := classFIds.foldl refBoundaryF s
    { s1 with synth := { s1.synth with arrived := [], ingested := [] } }
  else s.refsBoundary

/-- The outputs, the steering and the transmit rate at a boundary (R186–R196). -/
def outputsAt (s : State) : State :=
  let s1 := (List.range 64).foldl outBoundary s
  let s2 := (List.range 4).foldl efcTick s1
  s2.synceBoundary s2.laneQuality

/-- The selector of APLL-T at a boundary: an operator or revertive switch starts here (R177).
(Log entry 4, DESIGN CHOICE) -/
def apllAt (s : State) : State :=
  if s.sys.realignTick then s.aplltReact
  else match s.aplltJudge true with
    | some n => s.aplltSwitch n
    | none => s

/-- The tick that begins, from its place in time to its state in force. -/
def tickBegins (s : State) (bound : Nat) : State :=
  let (s1, shift) := s.stepBoundary
  let s2 := s1.advance shift
  let old := s2.sys.history.getD 1 { tick := 0, time := 0, plane := 0, len := 0, rateY := 0, bound := unbounded, source := 0 }
  let s3 := s2.stampBoundary old.len old.plane
  let s4 := s3.noteMoved.refsAt.realigned.loCheck.canopyAt
  let s5 := (s4.judgeMode bound).basisBoundary
  let s6 := if s5.mode = mReplay ∧ s4.mode = mReplay then s5.replayBoundary false else s5
  match s6.sys.history with
  | h :: _ => s6.holdNow.holdBegins.inForce h
  | [] => s6

/-- The units at the boundary, once the state of the tick is in force. -/
def unitsAt (s : State) (ownIn : Bool) : State :=
  let s1 := s.apllAt.gladeBoundary.outputsAt
  let s2 := s1.dropLate.netBoundary.servBoundary.clientsBoundary
  let s3 := (s2.serviceBoundary.grovesReady.grovesOut).shuttleBoundary
  let s4 := s3.twinBoundary ownIn
  s4.pruneKeys.keyRotation

/-- The Forester's work at the boundary: the plan's results, the journal, the record's second, the console, the Loom, ALIVE's
counter (R50, R395, R475, R482, R507). (Log entry 14, DEDUCED) -/
def keepAt (s : State) : State :=
  let s1 := s.planApply.journalSnapshot.recordSecond.uartTick.loomBoundary
  { s1 with fault := { s1.fault with aliveCount := s1.fault.aliveCount + 1 } }

/-- A tick boundary (R38). -/
def boundary (s : State) (cycles gpio : Nat) (ownIn : Bool) (work : List WorkTally) : State :=
  let bound := s.bound
  let s1 := (s.closeTick cycles work).boundaryApply
  if s1.mode = mHalted then s1
  else
    let s2 := s1.tickBegins bound
    let s3 := (s2.setN Obj.gpioIn (gpio % 2 ^ 32)).unitsAt ownIn
    if s3.mode = mHalted then s3 else s3.keepAt.snapshot

/-! ### The windows (R41, R43, R52–R54) -/

/-- A window may begin: those of a tick begin in order.
(Log entries 4, DESIGN CHOICE; 18, DESIGN CHOICE; 93, DESIGN CHOICE) -/
def mayBegin (s : State) (w : Window) : Bool := s.running && decide (s.sys.window.rank < w.rank)

/-- A window begins. (Log entry 18, DESIGN CHOICE) -/
def begin_ (s : State) (w : Window) : State := { s with sys := { s.sys with window := w } }

/-- W0: the stamp queues drained, the stamp rings written, the GNSS epoch dumped, the frames handed off (R48, R100, R132, R355). -/
def ingest (s : State) : State :=
  let s1 := s.drainLast.drainStamps.ppsNews
  let s2 := match s1.sys.history with
    | _ :: h :: _ => (s1.stampRecord 0 h.tick).stampRecord 1 h.tick
    | _ => s1
  s2.gladeDump.handOff

/-- W1 of a unit on its own inputs (R205–R216, R231). (Log entry 78, DESIGN CHOICE) -/
def solveOwn (s : State) : State :=
  let s1 : State := { s with sys := { s.sys with coastRun := 0 } }
  let s2 := s1.takeObservations
  let s3 := if s2.firstSettingDue then s2.requestFirst else s2
  s3.servoTick.ensembleSlot.publishCoast.coreBound

/-- W1 of a unit that follows its twin: the shadow runs the owner's last tick, the unit its own servo and bound (R421, R422). -/
def solveShadow (s : State) : State :=
  let s1 := s.shadowTick
  if s1.mode = mHalted then s1
  else
    let s2 := s1.declared.foldl ownRecord s1
    let s3 : State := { s2 with sys := { s2.sys with coastRun := 0 } }
    let s4 := s3.takeObservations
    let s5 := if s4.firstSettingDue then s4.requestFirst else s4
    s5.servoTick.publishCoast.coreBound

/-- W1 of the tick of a take: the shadow's last tick, the unit's own plane, and a tick that coasts (R439). -/
def solveTake (s : State) : State :=
  let s1 := s.shadowTick
  if s1.mode = mHalted then s1
  else
    let s2 := s1.finishTake.saveW1.coastTick
    { s2 with record := { s2.record with coast := true } }.sendAgree true

/-- W1 outside REPLAY (R41, R419, R449). -/
def solve (s : State) : State :=
  let s1 := s.gladeObs.saveW1
  let s2 : State := { s1 with twin := { s1.twin with mine := some s1.inputsOf } }
  let s3 := s2.stageInputs
  if s3.twin.took then s3.solveTake
  else
    let s4 := if s3.follows then s3.solveShadow else s3.solveOwn
    if s4.mode = mHalted then s4
    else (s4.stageOutputs s4.wantedMode (s4.index == 35)).sendAgree false

/-- W3: checkpoints, messages and batches, key work, remaps, the record of the tick, a replay asked for (R313, R334, R364, R374, R435,
R449, R455); `keys` limits the items of key work that this W3 finishes, and the others resume in the next (R53, R59). -/
def maintain (s : State) (bad : Bool) (keys : Option Nat) : State :=
  let s1 : State := { s with host := { s.host with served := 0, servedRecs := 0 } }
  let s2 := (s1.chanResets.vaultW3 keys).checkpoints.remapHard
  let s3 := (State.serveWaiting 32 s2).applyImmediate bad
  if s3.mode = mHalted then s3 else s3.prepareKey.appendRecord.replayBegin

/-- Work unfinished at the end of a window (R53): the items discarded, and what the device does.
(Log entry 19, DEDUCED) -/
def unfinished (s : State) (u : Unfinished) : State × Nat :=
  match u with
  | .stampWords p n => (s.stampOverrun p, n)
  | .gnssDump => (s.gladeDumpMissing, 1)
  | .handOff g n =>
    let items := Sparse.get (fun _ => []) s.serv.items g.val
    let k := min n items.length
    ({ s with serv := { s.serv with items := Sparse.put (fun _ => []) s.serv.items g.val (items.take (items.length - k)) } }, k)
  | .canopy captured =>
    let s1 := (s.faulted 0x0101 0 0).coastTick
    let s2 : State := { s1 with record := { s1.record with coast := captured, lossDue := !captured } }
    (s2.sendAgree true, 1)
  | .items g n =>
    let items := Sparse.get (fun _ => []) s.serv.items g.val
    let k := min n items.length
    ({ s with serv := { s.serv with items := Sparse.put (fun _ => []) s.serv.items g.val (items.take (items.length - k)) } }, k)
  | .checkpoint g e =>
    let k := (17 * g.val + e.val) * 2 + s.tick % 2
    let torn := (Sparse.get (fun _ => none) s.shuttle.checkpoints k).map fun (c : Checkpoint) => { c with ok := false }
    let s1 : State := { s with shuttle := { s.shuttle with checkpoints := Sparse.put (fun _ => none) s.shuttle.checkpoints k torn } }
    (s1.engineFail g e, 1)
  | .batch => ({ s with host := { s.host with deferred := true } }.inc Obj.batchDeferrals, 0)
  | .telemetry => ((s.dumpDiscard 0).dumpDiscard 1, 1)
  | .keyWork => (s, 0)
  | .keyframe => (s.keyframeMissed, 0)

end State

/-- The window in which a kind of work runs (R53). -/
def Unfinished.window : Unfinished → Window
  | .stampWords _ _ => .w0
  | .gnssDump => .w0
  | .handOff _ _ => .w0
  | .canopy _ => .w1
  | .items _ _ => .w2
  | .checkpoint _ _ => .w3
  | .batch => .w3
  | .telemetry => .w3
  | .keyWork => .w3
  | .keyframe => .w3

namespace State

/-- A window that overran: counted once for its tick, with the items dropped (R52). (Log entry 19, DEDUCED) -/
def overrun (s : State) (u : Unfinished) : State :=
  let w := u.window.rank - 1
  let (s1, n) := s.unfinished u
  let s2 := if bitOf s1.sys.overran w then s1
    else ({ s1 with sys := { s1.sys with overran := setBit s1.sys.overran w } }).inc (Obj.overrun w)
  (s2.addN Obj.overrunItemsDropped n).setN Obj.overrunLastTick s2.tick

/-! ### Clocks (R36) -/

/-- A lost source is back: its bits, and for a CLK_IN the reference that APLL-T acquires (R36, R177).
(Log entry 20, DEDUCED) -/
def clockReturned (s : State) (c : ClockSource) : State :=
  let s1 := s.clockBack c
  if s1.pll 0 = 1 ∧ s1.n Obj.aplltSource = 255 then s1.setN Obj.aplltSource (s1.aplltAcquire.getD 255) else s1

end State

/-! ### Commands -/

/-- RESET_RELEASE: PWR_OK and RESET_N both high; the straps and the I2C lines as they are sampled (R27, R498, R503). -/
def execResetRelease (twinEn : Bool) (avsAddr : Fin 8) (i2c0 i2c1 : I2cLines) (s : State) : Host.Outcome State Fault Refusal :=
  if s.mode = mReset then .next (s.released twinEn avsAddr.val (i2c0, i2c1)) else .next s

/-- PWR_OK_FALL: RESET from any mode, HALTED included (R27, R37). -/
def execPwrOkFall (s : State) : Host.Outcome State Fault Refusal := .next (s.toReset false)

/-- RESET_N_ASSERT: RESET from any mode except HALTED (R30, R37, R499). -/
def execResetNAssert (s : State) : Host.Outcome State Fault Refusal :=
  if s.mode = mHalted then .next s else .next (s.toReset s.sys.pwrOk)

/-- FILL_COMPLETE: the SRAM fill ends and the Forester runs the boot sequence, with what it reads outside the device (R372, R467). -/
def execFillComplete (b : BootRead) (s : State) : Host.Outcome State Fault Refusal :=
  if s.mode = mBoot ∧ s.power.loaded = false then .next (s.filled b) else .next s

/-- BOOT_COMPLETE: the images are loaded and the vault is READY; `us` is the time since reset release (R27, R467, R480). -/
def execBootComplete (us : Fin 4294967296) (s : State) : Host.Outcome State Fault Refusal :=
  if s.mode = mBoot ∧ s.power.loaded = true ∧ s.o Obj.vaultState = 2 ∧ s.power.held = false then .next (s.bootDone us.val) else .next s

/-- BOOT_THERMAL_RECHECK: BOOT is held and Tj is checked again (R480). (Log entry 21, DEDUCED) -/
def execBootThermalRecheck (us : Fin 4294967296) (s : State) : Host.Outcome State Fault Refusal :=
  if s.mode = mBoot ∧ s.power.held = true then .next (s.bootDone us.val) else .next s

/-- TICK_BOUNDARY: the engine cycles of the tick that ends, the levels of the GPIO pins and of OWN_IN, and the work accounts of the
tick (R38, R42, R381, R425, R508). (Log entry 93, DESIGN CHOICE) -/
def execTickBoundary (cycles : Fin 4294967296) (gpio : Fin 4294967296) (ownIn : Bool) (work : List WorkTally) (s : State) :
    Host.Outcome State Fault Refusal :=
  if s.running then .next (s.boundary cycles.val gpio.val ownIn work) else .next s

/-- W0_INGEST (R41). -/
def execW0Ingest (s : State) : Host.Outcome State Fault Refusal :=
  if s.mayBegin .w0 then .next (s.begin_ .w0).ingest else .next s

/-- W1_SOLVE: in REPLAY one recorded tick, from the records that stand in the feed (R41, R457). -/
def execW1Solve (feed : List FeedRecord) (s : State) : Host.Outcome State Fault Refusal :=
  if s.mayBegin .w1 then
    let s1 := s.begin_ .w1
    .next (if s1.mode = mReplay then s1.replayW1 feed else s1.solve)
  else .next s

/-- W2_SERVE: the Shuttles may work on the items handed off, whose rows follow; in REPLAY the rest of REPLAY_SPEED; `cycles` are the
requests that masters bring to the sub-banks in the window (R41, R370, R371, R457). -/
def execW2Serve (feed : List FeedRecord) (cycles : List MemCycle) (s : State) : Host.Outcome State Fault Refusal :=
  if s.mayBegin .w2 then
    let s1 := (s.begin_ .w2).banksWake.memCycles cycles
    .next (if s1.mode = mReplay then s1.replayW2 feed else s1)
  else .next s

/-- W3_MAINTAIN: W3 begins (R41, R53, R402). -/
def execW3Maintain (x : W3Work) (s : State) : Host.Outcome State Fault Refusal :=
  if s.mayBegin .w3 then .next ((s.begin_ .w3).maintain x.bad x.keys) else .next s

/-- WINDOW_OVERRUN: a window reaches its end position with work unfinished (R52, R53). -/
def execWindowOverrun (work : Unfinished) (s : State) : Host.Outcome State Fault Refusal :=
  if s.running && s.sys.window == work.window then .next (s.overrun work) else .next s

/-- SHUTTLE_CLOCK_ENABLE: the engine clocks of a grove are enabled over the last 1,024 cycles of W1 (R43, R471). -/
def execShuttleClockEnable (g : Fin 16) (s : State) : Host.Outcome State Fault Refusal :=
  if s.running && s.sys.window == .w1 && decide (1 ≤ s.o (Obj.groveState g) ∧ s.o (Obj.groveState g) ≤ 3) && !s.shuttle.clocked.contains g.val then
    .next { s with shuttle := { s.shuttle with clocked := s.shuttle.clocked ++ [g.val] } }
  else .next s

/-- SHUTTLE_CLOCK_GATE: the engine clocks of a grove are gated after W3 (R43, R471). -/
def execShuttleClockGate (g : Fin 16) (s : State) : Host.Outcome State Fault Refusal :=
  if s.running && s.sys.window == .w3 then
    .next { s with shuttle := { s.shuttle with clocked := s.shuttle.clocked.filter fun k => k != g.val } }
  else .next s

/-- ENTER_REPLAY: MODE_REQUEST written 1 on port class H; judged at its boundary (R27, R28, R34). -/
def execEnterReplay (cls : PortClass) (s : State) : Host.Outcome State Fault Refusal :=
  if s.running && cls == .hostH then .next (s.addDue false (.modeRequest 1)) else .next s

/-- EXIT_REPLAY: MODE_REQUEST written 2 on port class H; judged at its boundary (R27, R28, R34). -/
def execExitReplay (cls : PortClass) (s : State) : Host.Outcome State Fault Refusal :=
  if s.running && cls == .hostH then .next (s.addDue false (.modeRequest 2)) else .next s

/-- LOSS_OF_CLOCK: a source stops; a PLL that was locked goes to BYPASS (R36, R184). -/
def execLossOfClock (c : ClockSource) (s : State) : Host.Outcome State Fault Refusal :=
  if s.alive && s.clockPresent c then
    match c with
    | .apll k => if s.pll k.val = 2 ∨ s.pll k.val = 4 ∨ s.pll k.val = 5 then .next (s.pllBypass k.val) else .next (s.clockLost c)
    | _ => .next (s.clockLost c)
  else .next s

/-- CLOCK_RETURN: a lost source is back; a PLL returns by its lock, and the PCIe PHY locks after the memory fill (R36, R184, R344). -/
def execClockReturn (c : ClockSource) (s : State) : Host.Outcome State Fault Refusal :=
  match c with
  | .apll _ => .next s
  | .pcie => if s.alive && s.power.filled then .next (s.clockReturned c) else .next s
  | _ => if s.alive then .next (s.clockReturned c) else .next s

end Sys2Proof.Machine
end

