-- ==== Sys2Proof/Machine/Dispatch.lean ====
section
/-!
DEFINITION. One arm per command: each calls the meaning of its command.
-/

namespace Sys2Proof.Machine

/-- The effect of a command on everything but the queue.
(Log entries 4, DESIGN CHOICE; 10, DEDUCED; 94, DESIGN CHOICE) -/
def exec (i : Instr) (s : State) : Host.Outcome State Fault Refusal :=
  match i with
  | .resetRelease twinEn avsAddr i2c0 i2c1 => Sys2Proof.Machine.execResetRelease twinEn avsAddr i2c0 i2c1 s
  | .pwrOkFall => Sys2Proof.Machine.execPwrOkFall s
  | .resetNAssert => Sys2Proof.Machine.execResetNAssert s
  | .fillComplete b => Sys2Proof.Machine.execFillComplete b s
  | .vaultInitComplete failed => Sys2Proof.Machine.execVaultInitComplete failed s
  | .bootThermalRecheck us => Sys2Proof.Machine.execBootThermalRecheck us s
  | .bootComplete us => Sys2Proof.Machine.execBootComplete us s
  | .tickBoundary cycles gpio ownIn work => Sys2Proof.Machine.execTickBoundary cycles gpio ownIn work s
  | .w0Ingest => Sys2Proof.Machine.execW0Ingest s
  | .w1Solve feed => Sys2Proof.Machine.execW1Solve feed s
  | .w2Serve feed cycles => Sys2Proof.Machine.execW2Serve feed cycles s
  | .w3Maintain x => Sys2Proof.Machine.execW3Maintain x s
  | .windowOverrun work => Sys2Proof.Machine.execWindowOverrun work s
  | .shuttleClockEnable g => Sys2Proof.Machine.execShuttleClockEnable g s
  | .shuttleClockGate g => Sys2Proof.Machine.execShuttleClockGate g s
  | .enterReplay cls => Sys2Proof.Machine.execEnterReplay cls s
  | .exitReplay cls => Sys2Proof.Machine.execExitReplay cls s
  | .lossOfClock c => Sys2Proof.Machine.execLossOfClock c s
  | .groveStart g => Sys2Proof.Machine.execGroveStart g s
  | .engineSelftestComplete g passed aes => Sys2Proof.Machine.execEngineSelftestComplete g passed aes s
  | .groveRampSlot g => Sys2Proof.Machine.execGroveRampSlot g s
  | .leapEntryWrite cls e newOffset => Sys2Proof.Machine.execLeapEntryWrite cls e newOffset s
  | .leapEntryCancel cls => Sys2Proof.Machine.execLeapEntryCancel cls s
  | .leapApply => Sys2Proof.Machine.execLeapApply s
  | .smearWindowStart => Sys2Proof.Machine.execSmearWindowStart s
  | .smearWindowEnd => Sys2Proof.Machine.execSmearWindowEnd s
  | .edgeArrival port time a b => Sys2Proof.Machine.execEdgeArrival port time a b s
  | .dllUpdate st error code => Sys2Proof.Machine.execDllUpdate st error code s
  | .codeDensityRunStart st => Sys2Proof.Machine.execCodeDensityRunStart st s
  | .codeDensityRunEnd st hits => Sys2Proof.Machine.execCodeDensityRunEnd st hits s
  | .stamperLockTimeout st => Sys2Proof.Machine.execStamperLockTimeout st s
  | .calInitComplete st train => Sys2Proof.Machine.execCalInitComplete st train s
  | .stamperFaultRetry st => Sys2Proof.Machine.execStamperFaultRetry st s
  | .gateEnd port => Sys2Proof.Machine.execGateEnd port s
  | .jesdSyncHeaderLock a => Sys2Proof.Machine.execJesdSyncHeaderLock a s
  | .jesdEmbLock a => Sys2Proof.Machine.execJesdEmbLock a s
  | .linkDataEntry a latency => Sys2Proof.Machine.execLinkDataEntry a latency s
  | .linkProgressTimeout a => Sys2Proof.Machine.execLinkProgressTimeout a s
  | .linkFaultDetect a why => Sys2Proof.Machine.execLinkFaultDetect a why s
  | .linkFaultRestart a => Sys2Proof.Machine.execLinkFaultRestart a s
  | .multiblockCrcFail x => Sys2Proof.Machine.execMultiblockCrcFail x s
  | .gladeLinkStart => Sys2Proof.Machine.execGladeLinkStart s
  | .gladeEpoch e => Sys2Proof.Machine.execGladeEpoch e s
  | .notchAverageEnd k x y => Sys2Proof.Machine.execNotchAverageEnd k x y s
  | .acqSearchComplete c predicted => Sys2Proof.Machine.execAcqSearchComplete c predicted s
  | .acqConfirmComplete c x => Sys2Proof.Machine.execAcqConfirmComplete c x s
  | .coherentIntegrationEnd c x => Sys2Proof.Machine.execCoherentIntegrationEnd c x s
  | .chPullInTimeout c => Sys2Proof.Machine.execChPullInTimeout c s
  | .chLostTimeout c => Sys2Proof.Machine.execChLostTimeout c s
  | .channelPlan vis => Sys2Proof.Machine.execChannelPlan vis s
  | .navUnitDecode c u => Sys2Proof.Machine.execNavUnitDecode c u s
  | .surveyComplete x => Sys2Proof.Machine.execSurveyComplete x s
  | .surveyTimeout => Sys2Proof.Machine.execSurveyTimeout s
  | .positionCheck epoch => Sys2Proof.Machine.execPositionCheck epoch s
  | .spoofCheck sats => Sys2Proof.Machine.execSpoofCheck sats s
  | .refAbsentTimeout id => Sys2Proof.Machine.execRefAbsentTimeout id s
  | .classFActivityWindow id => Sys2Proof.Machine.execClassFActivityWindow id s
  | .consistencyCheck => Sys2Proof.Machine.execConsistencyCheck s
  | .aplltMissingEdge => Sys2Proof.Machine.execAplltMissingEdge s
  | .aplltInputConnect plane khz => Sys2Proof.Machine.execAplltInputConnect plane khz s
  | .apllLock x => Sys2Proof.Machine.execApllLock x s
  | .apllLossOfLock k => Sys2Proof.Machine.execApllLossOfLock k s
  | .apllAcquireTimeout k => Sys2Proof.Machine.execApllAcquireTimeout k s
  | .aplltRelockTimeout => Sys2Proof.Machine.execAplltRelockTimeout s
  | .apllBypassRetry k => Sys2Proof.Machine.execApllBypassRetry k s
  | .stepMeasure => Sys2Proof.Machine.execStepMeasure s
  | .outputEdge port n measured => Sys2Proof.Machine.execOutputEdge port n measured s
  | .dsteerInterval ds => Sys2Proof.Machine.execDsteerInterval ds s
  | .timescaleStep cls ns => Sys2Proof.Machine.execTimescaleStep cls ns s
  | .timescaleStepToRef cls => Sys2Proof.Machine.execTimescaleStepToRef cls s
  | .holdMaxExpire => Sys2Proof.Machine.execHoldMaxExpire s
  | .todMessageSend port => Sys2Proof.Machine.execTodMessageSend port s
  | .todMessageReceive port message endNs => Sys2Proof.Machine.execTodMessageReceive port message endNs s
  | .npLinkSignal m => Sys2Proof.Machine.execNpLinkSignal m s
  | .npLinkAligned m => Sys2Proof.Machine.execNpLinkAligned m s
  | .npAlignTimeout m => Sys2Proof.Machine.execNpAlignTimeout m s
  | .npLinkUp m => Sys2Proof.Machine.execNpLinkUp m s
  | .npLinkFault m => Sys2Proof.Machine.execNpLinkFault m s
  | .npFaultClear m => Sys2Proof.Machine.execNpFaultClear m s
  | .npLinkDown m => Sys2Proof.Machine.execNpLinkDown m s
  | .frameReceive m frame capture phy => Sys2Proof.Machine.execFrameReceive m frame capture phy s
  | .hostBatchClose completion ring m => Sys2Proof.Machine.execHostBatchClose completion ring m s
  | .frameLaunch m q capture => Sys2Proof.Machine.execFrameLaunch m q capture s
  | .hostTxDescriptor ring desc frame => Sys2Proof.Machine.execHostTxDescriptor ring desc frame s
  | .hostFrameLate m pos now => Sys2Proof.Machine.execHostFrameLate m pos now s
  | .esmcInfoPdu m => Sys2Proof.Machine.execEsmcInfoPdu m s
  | .esmcRxExpire m => Sys2Proof.Machine.execEsmcRxExpire m s
  | .heddleSweep => Sys2Proof.Machine.execHeddleSweep s
  | .ntpRequest g n now => Sys2Proof.Machine.execNtpRequest g n now s
  | .ntsRequest g n now => Sys2Proof.Machine.execNtsRequest g n now s
  | .ptpDelayReq g n now => Sys2Proof.Machine.execPtpDelayReq g n now s
  | .ptpPdelayReq g n now => Sys2Proof.Machine.execPtpPdelayReq g n now s
  | .ptpGrantRequest g n => Sys2Proof.Machine.execPtpGrantRequest g n s
  | .ptpGrantCancel g n => Sys2Proof.Machine.execPtpGrantCancel g n s
  | .ptpGrantExpire line => Sys2Proof.Machine.execPtpGrantExpire line s
  | .ptpSyncDue x dup now => Sys2Proof.Machine.execPtpSyncDue x dup now s
  | .ptpFollowUpDue x => Sys2Proof.Machine.execPtpFollowUpDue x s
  | .ptpAnnounceDue x => Sys2Proof.Machine.execPtpAnnounceDue x s
  | .ptpPdelayReqDue inst m => Sys2Proof.Machine.execPtpPdelayReqDue inst m s
  | .ptpClientRx g n => Sys2Proof.Machine.execPtpClientRx g n s
  | .clientRequestDue c msg => Sys2Proof.Machine.execClientRequestDue c msg s
  | .clientGrantRenew c t => Sys2Proof.Machine.execClientGrantRenew c t s
  | .clientBackoffExpire c => Sys2Proof.Machine.execClientBackoffExpire c s
  | .clientAnnounceTimeout c => Sys2Proof.Machine.execClientAnnounceTimeout c s
  | .esmcPduReceive g n => Sys2Proof.Machine.execEsmcPduReceive g n s
  | .ntsKeyRotation => Sys2Proof.Machine.execNtsKeyRotation s
  | .ntsRotateNow cls => Sys2Proof.Machine.execNtsRotateNow cls s
  | .ntsMintRequest m => Sys2Proof.Machine.execNtsMintRequest m s
  | .keyWrite cls blob => Sys2Proof.Machine.execKeyWrite cls blob s
  | .keyWriteApply => Sys2Proof.Machine.execKeyWriteApply s
  | .remaskRequest cls => Sys2Proof.Machine.execRemaskRequest cls s
  | .entropyHealthFail => Sys2Proof.Machine.execEntropyHealthFail s
  | .entropyRestartPass => Sys2Proof.Machine.execEntropyRestartPass s
  | .pkSign m => Sys2Proof.Machine.execPkSign m s
  | .pkVerify m => Sys2Proof.Machine.execPkVerify m s
  | .pkEcdh m => Sys2Proof.Machine.execPkEcdh m s
  | .generate m => Sys2Proof.Machine.execGenerate m s
  | .derive m => Sys2Proof.Machine.execDerive m s
  | .proof m => Sys2Proof.Machine.execProof m s
  | .chalIssue m => Sys2Proof.Machine.execChalIssue m s
  | .chalRespond m => Sys2Proof.Machine.execChalRespond m s
  | .attest m => Sys2Proof.Machine.execAttest m s
  | .pkEngineStart => Sys2Proof.Machine.execPkEngineStart s
  | .pkEngineComplete => Sys2Proof.Machine.execPkEngineComplete s
  | .tamperEvent => Sys2Proof.Machine.execTamperEvent s
  | .tamperFuseProgrammed => Sys2Proof.Machine.execTamperFuseProgrammed s
  | .dictRead m => Sys2Proof.Machine.execDictRead m s
  | .dictWrite m => Sys2Proof.Machine.execDictWrite m s
  | .dictDescribe m => Sys2Proof.Machine.execDictDescribe m s
  | .dictBatchApply bad => Sys2Proof.Machine.execDictBatchApply bad s
  | .mbxUnknownOp k seq op => Sys2Proof.Machine.execMbxUnknownOp k seq op s
  | .mgmtRequestReceive d => Sys2Proof.Machine.execMgmtRequestReceive d s
  | .mgmtCacheExpiry => Sys2Proof.Machine.execMgmtCacheExpiry s
  | .mgmtArpNd target => Sys2Proof.Machine.execMgmtArpNd target s
  | .pcieLinkUp rate width => Sys2Proof.Machine.execPcieLinkUp rate width s
  | .pcieLinkDown => Sys2Proof.Machine.execPcieLinkDown s
  | .pcieFlr fn => Sys2Proof.Machine.execPcieFlr fn s
  | .chanReset k => Sys2Proof.Machine.execChanReset k s
  | .d2hAck k seq => Sys2Proof.Machine.execD2hAck k seq s
  | .d2hNoticeDeliver k => Sys2Proof.Machine.execD2hNoticeDeliver k s
  | .ringEnable fn kind ring vectorEn => Sys2Proof.Machine.execRingEnable fn kind ring vectorEn s
  | .ringConsumerWrite fn kind ring off value => Sys2Proof.Machine.execRingConsumerWrite fn kind ring off value s
  | .tickLoRead fn => Sys2Proof.Machine.execTickLoRead fn s
  | .counterDump fn => Sys2Proof.Machine.execCounterDump fn s
  | .registerWrite fn off value => Sys2Proof.Machine.execRegisterWrite fn off value s
  | .engineFail g e => Sys2Proof.Machine.execEngineFail g e s
  | .engineWatchdogExpire g e => Sys2Proof.Machine.execEngineWatchdogExpire g e s
  | .takeoverLoadComplete g => Sys2Proof.Machine.execTakeoverLoadComplete g s
  | .aesJob g e cycle nts parity fail => Sys2Proof.Machine.execAesJob g e cycle nts parity fail s
  | .memWriteBack bank word value => Sys2Proof.Machine.execMemWriteBack bank word value s
  | .memReread bank word still => Sys2Proof.Machine.execMemReread bank word still s
  | .scrubRead bank found => Sys2Proof.Machine.execScrubRead bank found s
  | .scrubPassLate bank => Sys2Proof.Machine.execScrubPassLate bank s
  | .dirGets line g others => Sys2Proof.Machine.execDirGets line g others s
  | .dirGetm line g others => Sys2Proof.Machine.execDirGetm line g others s
  | .dirPutm line g => Sys2Proof.Machine.execDirPutm line g s
  | .faultReport f => Sys2Proof.Machine.execFaultReport f s
  | .aonClockLoss => Sys2Proof.Machine.execAonClockLoss s
  | .eventLogWrite => Sys2Proof.Machine.execEventLogWrite s
  | .faultAutoAck => Sys2Proof.Machine.execFaultAutoAck s
  | .faultAck cls v => Sys2Proof.Machine.execFaultAck cls v s
  | .groveRetryExpire g => Sys2Proof.Machine.execGroveRetryExpire g s
  | .aliveToggle => Sys2Proof.Machine.execAliveToggle s
  | .injRequest cls blob => Sys2Proof.Machine.execInjRequest cls blob s
  | .injCancel cls => Sys2Proof.Machine.execInjCancel cls s
  | .twinLinkDetect => Sys2Proof.Machine.execTwinLinkDetect s
  | .twinJoinTimeout => Sys2Proof.Machine.execTwinJoinTimeout s
  | .twinJoinRetry => Sys2Proof.Machine.execTwinJoinRetry s
  | .twinHelloReceive h => Sys2Proof.Machine.execTwinHelloReceive h s
  | .twinBulkReceive b => Sys2Proof.Machine.execTwinBulkReceive b s
  | .twinJoinBoundary => Sys2Proof.Machine.execTwinJoinBoundary s
  | .twinAgreeReceive a late => Sys2Proof.Machine.execTwinAgreeReceive a late s
  | .twinAgreeDeadline => Sys2Proof.Machine.execTwinAgreeDeadline s
  | .twinUrgentReceive at_ inTime => Sys2Proof.Machine.execTwinUrgentReceive at_ inTime s
  | .twinForwardReceive f late => Sys2Proof.Machine.execTwinForwardReceive f late s
  | .twpPulseDrive => Sys2Proof.Machine.execTwpPulseDrive s
  | .twpEdgeReceive time a b => Sys2Proof.Machine.execTwpEdgeReceive time a b s
  | .ownSwitchInstant cut => Sys2Proof.Machine.execOwnSwitchInstant cut s
  | .ownInFall => Sys2Proof.Machine.execOwnInFall s
  | .ownContention => Sys2Proof.Machine.execOwnContention s
  | .coldTake => Sys2Proof.Machine.execColdTake s
  | .twinHandover cls => Sys2Proof.Machine.execTwinHandover cls s
  | .twinLeave cls => Sys2Proof.Machine.execTwinLeave cls s
  | .twinRejoin cls => Sys2Proof.Machine.execTwinRejoin cls s
  | .captureCopy bad => Sys2Proof.Machine.execCaptureCopy bad s
  | .replayLoad rec_ => Sys2Proof.Machine.execReplayLoad rec_ s
  | .flashRead who cs addr => Sys2Proof.Machine.execFlashRead who cs addr s
  | .flashProgram who cs addr data => Sys2Proof.Machine.execFlashProgram who cs addr data s
  | .flashSectorErase who cs addr => Sys2Proof.Machine.execFlashSectorErase who cs addr s
  | .flashBlockErase who cs addr => Sys2Proof.Machine.execFlashBlockErase who cs addr s
  | .flashCommandComplete ok => Sys2Proof.Machine.execFlashCommandComplete ok s
  | .journalIntervalExpire => Sys2Proof.Machine.execJournalIntervalExpire s
  | .journalNow cls => Sys2Proof.Machine.execJournalNow cls s
  | .journalWriteComplete ok => Sys2Proof.Machine.execJournalWriteComplete ok s
  | .avsReadback mv => Sys2Proof.Machine.execAvsReadback mv s
  | .pmbusAlert mv => Sys2Proof.Machine.execPmbusAlert mv s
  | .thermalSensorRead t => Sys2Proof.Machine.execThermalSensorRead t s
  | .thermalTrip sensor => Sys2Proof.Machine.execThermalTrip sensor s
  | .sentinelMeasure x => Sys2Proof.Machine.execSentinelMeasure x s
  | .selvagePlanStart => Sys2Proof.Machine.execSelvagePlanStart s
  | .selvagePlanComplete => Sys2Proof.Machine.execSelvagePlanComplete s
  | .ageUpdate => Sys2Proof.Machine.execAgeUpdate s
  | .i2cXfer cls ctl blob => Sys2Proof.Machine.execI2cXfer cls ctl blob s
  | .i2cTransactionStart ctl => Sys2Proof.Machine.execI2cTransactionStart ctl s
  | .i2cTransactionDone ctl e => Sys2Proof.Machine.execI2cTransactionDone ctl e s
  | .i2cArbitrationLost ctl => Sys2Proof.Machine.execI2cArbitrationLost ctl s
  | .i2cBusFree ctl => Sys2Proof.Machine.execI2cBusFree ctl s
  | .i2cStretchTimeout ctl lines => Sys2Proof.Machine.execI2cStretchTimeout ctl lines s
  | .i2cBusReset cls ctl lines => Sys2Proof.Machine.execI2cBusReset cls ctl lines s
  | .i2cRecoveryAttempt ctl freed => Sys2Proof.Machine.execI2cRecoveryAttempt ctl freed s
  | .i2cTargetSetOffset off => Sys2Proof.Machine.execI2cTargetSetOffset off s
  | .i2cTargetRead n => Sys2Proof.Machine.execI2cTargetRead n s
  | .jtagBypass => Sys2Proof.Machine.execJtagBypass s
  | .jtagIdcode => Sys2Proof.Machine.execJtagIdcode s
  | .jtagSamplePreload register => Sys2Proof.Machine.execJtagSamplePreload register s
  | .jtagExtest => Sys2Proof.Machine.execJtagExtest s
  | .jtagExtestPulse => Sys2Proof.Machine.execJtagExtestPulse s
  | .jtagExtestTrain => Sys2Proof.Machine.execJtagExtestTrain s
  | .clockReturn c => Sys2Proof.Machine.execClockReturn c s
  | .yethalAlignmentLoss => Sys2Proof.Machine.execYethalAlignmentLoss s
  | .twinStateTransferRequest => Sys2Proof.Machine.execTwinStateTransferRequest s

end Sys2Proof.Machine
end

