-- ==== Sys2Proof/Safety.lean ====
section
/-!
DEFINITION. What counts as a safe run, in the terms that the statements use: the canonical form of the SRAM, the states that a run
reaches, and for each command the parts of the state that it may change.
-/

namespace Sys2Proof.Machine

/-- The canonical form of the SRAM: octet addresses strictly rising, and no listed octet equal to what an unlisted one
reads as. -/
def Safety.memCanonical (s : State) : Prop := Memory.wf s.mem = true

/-- A state from which some run of steps leads to another. -/
inductive Safety.Reaches : State → State → Prop where
  | refl (s : State) : Safety.Reaches s s
  | step (s t u : State) (h : Sys2Proof.Machine.step s = .next t) (r : Safety.Reaches t u) : Safety.Reaches s u

/-- The words of a bank, and its spare words (R369, R374): the octet addresses at which something written to the bank lies. -/
def Safety.inBank (b a : Nat) : Prop :=
  (bankBase b ≤ a ∧ a < bankBase b + 8 * bankWords b) ∨ (bankTop + 128 * b ≤ a ∧ a < bankTop + 128 * (b + 1))

/-- The parts of the state. -/
inductive Safety.Part where
  /-- The commands waiting. -/
  | queue
  /-- The numeric objects of the dictionary. -/
  | objects
  /-- The BLOB and STR objects. -/
  | blobs
  /-- The SRAM, octet by octet. -/
  | memory
  /-- Ticks, modes, clocks and the writes that wait for a boundary. -/
  | sys
  /-- The leap table. -/
  | leap
  /-- The collector: open records, held reports, the event log. -/
  | fault
  /-- The stampers and timing ports. -/
  | stamp
  /-- The radio and the channels of Glade. -/
  | glade
  /-- The references, PLLs and outputs. -/
  | synth
  /-- The ensemble and the bound of Canopy. -/
  | canopy
  /-- The MACs and their queues. -/
  | net
  /-- Service items, sessions, buckets and clients. -/
  | serv
  /-- Keys, slots, challenges and the public-key engine. -/
  | vault
  /-- Mailboxes, rings, registers and the management port. -/
  | host
  /-- Engines, checkpoints, memory checking and the directory. -/
  | shuttle
  /-- The twin link. -/
  | twin
  /-- Bobbin and replay. -/
  | record
  /-- Flash, journal, supply, temperature and wear. -/
  | power
  /-- I2C, JTAG and the console. -/
  | bus
  deriving DecidableEq, Repr

/-- A part of the state is the same in two states; the SRAM, where every octet reads the same. -/
def Safety.same (p : Safety.Part) (s t : State) : Prop :=
  match p with
  | .queue => t.pending = s.pending
  | .objects => t.obj = s.obj
  | .blobs => t.blobs = s.blobs
  | .memory => ∀ a, t.readByte a = s.readByte a
  | .sys => t.sys = s.sys
  | .leap => t.leap = s.leap
  | .fault => t.fault = s.fault
  | .stamp => t.stamp = s.stamp
  | .glade => t.glade = s.glade
  | .synth => t.synth = s.synth
  | .canopy => t.canopy = s.canopy
  | .net => t.net = s.net
  | .serv => t.serv = s.serv
  | .vault => t.vault = s.vault
  | .host => t.host = s.host
  | .shuttle => t.shuttle = s.shuttle
  | .twin => t.twin = s.twin
  | .record => t.record = s.record
  | .power => t.power = s.power
  | .bus => t.bus = s.bus

/-- Two states agree on every part but those listed. -/
def Safety.onlyChanges (ps : List Safety.Part) (s t : State) : Prop := ∀ p, p ∉ ps → Safety.same p s t

/-- The parts of the state that a command may change when it answers a next state. -/
def Safety.footprint : Instr → List Safety.Part
  | .resetRelease _ _ _ _ => [.objects, .blobs, .memory, .sys, .fault, .glade, .net, .serv, .host, .twin, .record, .bus]
  | .pwrOkFall => [.objects, .blobs, .memory, .sys, .leap, .fault, .stamp, .glade, .synth, .canopy, .net, .serv, .vault, .host, .shuttle, .twin, .record, .power, .bus]
  | .resetNAssert => [.objects, .blobs, .memory, .sys, .leap, .fault, .stamp, .glade, .synth, .canopy, .net, .serv, .vault, .host, .shuttle, .twin, .record, .power, .bus]
  | .fillComplete _ => [.objects, .blobs, .memory, .sys, .fault, .glade, .net, .serv, .vault, .host, .twin, .record, .power, .bus]
  | .vaultInitComplete _ => [.objects, .blobs, .memory, .sys, .fault, .glade, .net, .serv, .vault, .host, .twin, .record, .bus]
  | .bootThermalRecheck _ => [.objects, .blobs, .sys, .fault, .canopy, .serv, .vault, .host, .record, .power]
  | .bootComplete _ => [.objects, .blobs, .sys, .fault, .canopy, .serv, .vault, .host, .record, .power]
  | .tickBoundary _ _ _ _ => [.objects, .blobs, .memory, .sys, .fault, .stamp, .glade, .synth, .canopy, .net, .serv, .vault, .host, .shuttle, .twin, .record, .power, .bus]
  | .w0Ingest => [.objects, .blobs, .sys, .stamp, .glade, .synth, .net, .serv, .host, .shuttle]
  | .w1Solve _ => [.objects, .blobs, .memory, .sys, .fault, .stamp, .glade, .synth, .canopy, .net, .serv, .vault, .host, .shuttle, .twin, .record, .power, .bus]
  | .w2Serve _ _ => [.objects, .blobs, .memory, .sys, .fault, .stamp, .glade, .synth, .canopy, .net, .serv, .vault, .host, .shuttle, .twin, .record, .power, .bus]
  | .w3Maintain _ => [.objects, .blobs, .memory, .sys, .fault, .stamp, .glade, .synth, .canopy, .net, .serv, .vault, .host, .shuttle, .twin, .record, .power, .bus]
  | .windowOverrun _ => [.objects, .blobs, .memory, .sys, .fault, .stamp, .glade, .synth, .canopy, .net, .serv, .host, .shuttle, .twin, .record, .bus]
  | .shuttleClockEnable _ => [.shuttle]
  | .shuttleClockGate _ => [.shuttle]
  | .enterReplay _ => [.sys]
  | .exitReplay _ => [.sys]
  | .lossOfClock _ => [.objects, .blobs, .memory, .sys, .fault, .stamp, .glade, .synth, .net, .serv, .host, .twin, .record, .bus]
  | .groveStart _ => [.objects, .fault]
  | .engineSelftestComplete _ _ _ => [.objects, .blobs, .memory, .sys, .fault, .glade, .net, .serv, .host, .shuttle, .twin, .record, .bus]
  | .groveRampSlot _ => [.objects, .sys]
  | .leapEntryWrite _ _ _ => [.sys]
  | .leapEntryCancel _ => [.sys]
  | .leapApply => [.objects, .blobs, .leap]
  | .smearWindowStart => [.objects]
  | .smearWindowEnd => [.objects]
  | .edgeArrival _ _ _ _ => [.objects, .blobs, .memory, .sys, .fault, .stamp, .glade, .synth, .net, .serv, .host, .twin, .record, .bus]
  | .dllUpdate _ _ _ => [.objects, .blobs, .memory, .sys, .fault, .stamp, .glade, .net, .serv, .host, .twin, .record, .bus]
  | .codeDensityRunStart _ => [.objects, .stamp]
  | .codeDensityRunEnd _ _ => [.objects, .blobs, .memory, .sys, .fault, .stamp, .glade, .net, .serv, .host, .twin, .record, .power, .bus]
  | .stamperLockTimeout _ => [.objects, .blobs, .memory, .sys, .fault, .stamp, .glade, .net, .serv, .host, .twin, .record, .bus]
  | .calInitComplete _ _ => [.objects, .stamp]
  | .stamperFaultRetry _ => [.objects, .stamp]
  | .gateEnd _ => [.objects, .sys, .stamp, .synth]
  | .jesdSyncHeaderLock _ => [.objects, .glade]
  | .jesdEmbLock _ => [.objects, .glade]
  | .linkDataEntry _ _ => [.objects, .glade]
  | .linkProgressTimeout _ => [.objects, .glade]
  | .linkFaultDetect _ _ => [.objects, .glade]
  | .linkFaultRestart _ => [.objects, .glade]
  | .multiblockCrcFail _ => [.objects, .glade]
  | .gladeLinkStart => [.objects, .glade]
  | .gladeEpoch _ => [.objects, .blobs, .sys, .glade]
  | .notchAverageEnd _ _ _ => [.objects, .glade]
  | .acqSearchComplete _ _ => [.objects, .blobs, .glade]
  | .acqConfirmComplete _ _ => [.objects, .glade]
  | .coherentIntegrationEnd _ _ => [.objects, .blobs, .memory, .sys, .fault, .glade, .net, .serv, .host, .twin, .record, .bus]
  | .chPullInTimeout _ => [.objects, .glade]
  | .chLostTimeout _ => [.objects, .glade]
  | .channelPlan _ => [.glade]
  | .navUnitDecode _ _ => [.objects, .memory, .leap, .glade, .host]
  | .surveyComplete _ => [.objects, .blobs, .glade, .power]
  | .surveyTimeout => [.objects, .glade]
  | .positionCheck _ => [.glade]
  | .spoofCheck _ => [.objects, .glade]
  | .refAbsentTimeout _ => [.synth]
  | .classFActivityWindow _ => [.objects, .synth]
  | .consistencyCheck => [.objects, .synth]
  | .aplltMissingEdge => [.objects, .blobs, .memory, .sys, .fault, .stamp, .glade, .synth, .net, .serv, .host, .twin, .record, .bus]
  | .aplltInputConnect _ _ => [.objects, .blobs, .sys, .synth, .canopy]
  | .apllLock _ => [.objects, .sys, .synth, .host]
  | .apllLossOfLock _ => [.objects, .blobs, .memory, .sys, .fault, .stamp, .glade, .synth, .net, .serv, .host, .twin, .record, .bus]
  | .apllAcquireTimeout _ => [.objects, .blobs, .memory, .sys, .fault, .stamp, .glade, .synth, .net, .serv, .host, .twin, .record, .bus]
  | .aplltRelockTimeout => [.objects, .blobs, .memory, .sys, .fault, .stamp, .glade, .synth, .net, .serv, .host, .twin, .record, .bus]
  | .apllBypassRetry _ => [.objects]
  | .stepMeasure => [.objects, .blobs, .sys, .synth, .canopy]
  | .outputEdge _ _ _ => [.objects, .blobs, .memory, .sys, .fault, .glade, .synth, .net, .serv, .host, .twin, .record, .bus]
  | .dsteerInterval _ => [.objects, .blobs, .memory, .sys, .fault, .glade, .synth, .canopy, .net, .serv, .host, .twin, .record, .bus]
  | .timescaleStep _ _ => [.sys]
  | .timescaleStepToRef _ => [.sys]
  | .holdMaxExpire => [.sys]
  | .todMessageSend _ => [.synth]
  | .todMessageReceive _ _ _ => [.objects, .stamp, .synth]
  | .npLinkSignal _ => [.objects]
  | .npLinkAligned _ => [.objects]
  | .npAlignTimeout _ => [.objects]
  | .npLinkUp _ => [.objects, .sys, .net]
  | .npLinkFault _ => [.objects]
  | .npFaultClear _ => [.objects]
  | .npLinkDown _ => [.objects]
  | .frameReceive _ _ _ _ => [.objects, .net, .serv, .host]
  | .hostBatchClose _ _ _ => [.net, .host]
  | .frameLaunch _ _ _ => [.objects, .blobs, .memory, .sys, .fault, .glade, .net, .serv, .host, .twin, .record, .bus]
  | .hostTxDescriptor _ _ _ => [.objects, .net, .host]
  | .hostFrameLate _ _ _ => [.objects, .net, .host]
  | .esmcInfoPdu _ => [.net]
  | .esmcRxExpire _ => [.objects]
  | .heddleSweep => [.serv]
  | .ntpRequest _ _ _ => [.objects, .net, .serv, .twin]
  | .ntsRequest _ _ _ => [.objects, .sys, .net, .serv, .twin]
  | .ptpDelayReq _ _ _ => [.objects, .net, .serv]
  | .ptpPdelayReq _ _ _ => [.objects, .net, .serv]
  | .ptpGrantRequest _ _ => [.objects, .sys, .net, .serv, .shuttle, .twin]
  | .ptpGrantCancel _ _ => [.objects, .sys, .net, .serv, .shuttle, .twin]
  | .ptpGrantExpire _ => [.objects, .sys, .serv, .shuttle, .twin]
  | .ptpSyncDue _ _ _ => [.objects, .sys, .net, .serv, .shuttle, .twin]
  | .ptpFollowUpDue _ => [.objects, .net, .serv, .shuttle, .twin]
  | .ptpAnnounceDue _ => [.objects, .sys, .net, .serv, .shuttle, .twin]
  | .ptpPdelayReqDue _ _ => [.objects, .sys, .net, .serv, .shuttle, .twin]
  | .ptpClientRx _ _ => [.objects, .synth, .serv]
  | .clientRequestDue _ _ => [.net, .serv]
  | .clientGrantRenew _ _ => [.net, .serv]
  | .clientBackoffExpire _ => [.objects, .serv]
  | .clientAnnounceTimeout _ => [.objects, .serv]
  | .esmcPduReceive _ _ => [.objects, .net, .serv]
  | .ntsKeyRotation => [.objects, .blobs, .sys, .serv, .vault, .host, .twin, .power]
  | .ntsRotateNow _ => [.sys]
  | .ntsMintRequest _ => [.objects, .net, .vault, .host]
  | .keyWrite _ _ => [.objects, .blobs, .vault]
  | .keyWriteApply => [.objects, .blobs, .serv, .vault]
  | .remaskRequest _ => [.sys]
  | .entropyHealthFail => [.objects, .blobs, .memory, .sys, .fault, .glade, .net, .serv, .vault, .host, .twin, .record, .bus]
  | .entropyRestartPass => [.vault]
  | .pkSign _ => [.objects, .net, .vault, .host]
  | .pkVerify _ => [.objects, .net, .vault, .host]
  | .pkEcdh _ => [.objects, .net, .vault, .host]
  | .generate _ => [.objects, .net, .vault, .host]
  | .derive _ => [.objects, .net, .vault, .host]
  | .proof _ => [.objects, .net, .vault, .host]
  | .chalIssue _ => [.objects, .net, .vault, .host]
  | .chalRespond _ => [.objects, .net, .vault, .host]
  | .attest _ => [.objects, .net, .vault, .host]
  | .pkEngineStart => [.objects, .net, .vault, .host]
  | .pkEngineComplete => [.vault]
  | .tamperEvent => [.objects, .blobs, .memory, .sys, .fault, .glade, .net, .serv, .vault, .host, .twin, .record, .bus]
  | .tamperFuseProgrammed => [.objects, .vault]
  | .dictRead _ => [.objects, .blobs, .memory, .sys, .fault, .stamp, .glade, .synth, .canopy, .net, .serv, .vault, .host, .shuttle, .twin, .record, .power, .bus]
  | .dictWrite _ => [.objects, .blobs, .memory, .sys, .fault, .stamp, .glade, .synth, .canopy, .net, .serv, .vault, .host, .shuttle, .twin, .record, .power, .bus]
  | .dictDescribe _ => [.objects, .blobs, .memory, .sys, .fault, .stamp, .glade, .synth, .canopy, .net, .serv, .vault, .host, .shuttle, .twin, .record, .power, .bus]
  | .dictBatchApply _ => [.objects, .blobs, .memory, .sys, .fault, .stamp, .glade, .synth, .canopy, .net, .serv, .vault, .host, .shuttle, .twin, .record, .power, .bus]
  | .mbxUnknownOp _ _ _ => [.objects, .host]
  | .mgmtRequestReceive _ => [.objects, .host]
  | .mgmtCacheExpiry => [.host]
  | .mgmtArpNd _ => [.host]
  | .pcieLinkUp _ _ => [.objects, .host]
  | .pcieLinkDown => [.objects]
  | .pcieFlr _ => [.objects, .host]
  | .chanReset _ => [.objects, .host]
  | .d2hAck _ _ => [.host]
  | .d2hNoticeDeliver _ => [.objects, .host]
  | .ringEnable _ _ _ _ => [.host]
  | .ringConsumerWrite _ _ _ _ _ => [.host]
  | .tickLoRead _ => [.host]
  | .counterDump _ => [.host]
  | .registerWrite _ _ _ => [.objects, .host, .record]
  | .engineFail _ _ => [.objects, .blobs, .memory, .sys, .fault, .glade, .net, .serv, .host, .shuttle, .twin, .record, .bus]
  | .engineWatchdogExpire _ _ => [.objects, .blobs, .memory, .sys, .fault, .glade, .net, .serv, .host, .shuttle, .twin, .record, .bus]
  | .takeoverLoadComplete _ => [.objects, .serv, .shuttle]
  | .aesJob _ _ _ _ _ _ => [.objects, .blobs, .memory, .sys, .fault, .glade, .net, .serv, .host, .shuttle, .twin, .record, .bus]
  | .memWriteBack _ _ _ => [.memory, .shuttle, .power]
  | .memReread _ _ _ => [.shuttle]
  | .scrubRead _ _ => [.objects, .blobs, .memory, .sys, .fault, .stamp, .glade, .canopy, .net, .serv, .host, .shuttle, .twin, .record, .power, .bus]
  | .scrubPassLate _ => [.objects, .shuttle]
  | .dirGets _ _ _ => [.objects, .sys, .shuttle]
  | .dirGetm _ _ _ => [.objects, .sys, .shuttle]
  | .dirPutm _ _ => [.shuttle]
  | .faultReport _ => [.objects, .blobs, .memory, .sys, .fault, .stamp, .glade, .synth, .canopy, .net, .serv, .vault, .host, .shuttle, .twin, .record, .power, .bus]
  | .aonClockLoss => [.objects, .memory, .fault, .glade, .net, .serv, .record, .bus]
  | .eventLogWrite => [.objects, .blobs, .sys, .fault, .host, .bus]
  | .faultAutoAck => [.objects, .fault]
  | .faultAck _ _ => [.objects, .fault]
  | .groveRetryExpire _ => [.objects, .fault]
  | .aliveToggle => [.objects]
  | .injRequest _ _ => [.objects, .sys]
  | .injCancel _ => [.sys]
  | .twinLinkDetect => [.objects, .sys, .twin]
  | .twinJoinTimeout => [.objects, .twin]
  | .twinJoinRetry => [.objects, .sys, .twin]
  | .twinHelloReceive _ => [.objects, .blobs, .twin]
  | .twinBulkReceive _ => [.objects, .canopy, .twin]
  | .twinJoinBoundary => [.objects, .blobs, .sys, .fault, .stamp, .glade, .synth, .canopy, .net, .serv, .vault, .host, .shuttle, .twin, .record, .power, .bus]
  | .twinAgreeReceive _ _ => [.objects, .blobs, .memory, .sys, .fault, .glade, .synth, .net, .serv, .host, .shuttle, .twin, .record, .bus]
  | .twinAgreeDeadline => [.objects, .twin]
  | .twinUrgentReceive _ _ => [.twin]
  | .twinForwardReceive _ _ => [.objects, .net]
  | .twpPulseDrive => [.twin]
  | .twpEdgeReceive _ _ _ => [.objects, .blobs, .memory, .sys, .fault, .stamp, .glade, .synth, .net, .serv, .host, .twin, .record, .bus]
  | .ownSwitchInstant _ => [.objects, .synth, .twin]
  | .ownInFall => [.objects, .twin]
  | .ownContention => [.objects, .twin]
  | .coldTake => [.objects, .twin]
  | .twinHandover _ => [.sys]
  | .twinLeave _ => [.sys]
  | .twinRejoin _ => [.sys]
  | .captureCopy _ => [.objects, .host, .record]
  | .replayLoad _ => [.objects, .blobs, .canopy, .record]
  | .flashRead _ _ _ => [.objects, .blobs, .power]
  | .flashProgram _ _ _ _ => [.objects, .blobs, .power]
  | .flashSectorErase _ _ _ => [.objects, .blobs, .power]
  | .flashBlockErase _ _ _ => [.objects, .blobs, .power]
  | .flashCommandComplete _ => [.objects, .blobs, .memory, .sys, .fault, .glade, .net, .serv, .host, .twin, .record, .power, .bus]
  | .journalIntervalExpire => [.power]
  | .journalNow _ => [.sys]
  | .journalWriteComplete _ => [.objects, .blobs, .memory, .sys, .fault, .glade, .net, .serv, .host, .twin, .record, .power, .bus]
  | .avsReadback _ => [.objects, .blobs, .memory, .sys, .fault, .glade, .net, .serv, .host, .twin, .record, .power, .bus]
  | .pmbusAlert _ => [.objects, .blobs, .memory, .sys, .fault, .glade, .net, .serv, .host, .twin, .record, .power, .bus]
  | .thermalSensorRead _ => [.objects, .blobs, .memory, .sys, .fault, .glade, .net, .serv, .host, .twin, .record, .power, .bus]
  | .thermalTrip _ => [.objects, .blobs, .memory, .sys, .fault, .glade, .net, .serv, .host, .twin, .record, .power, .bus]
  | .sentinelMeasure _ => [.objects, .power]
  | .selvagePlanStart => [.objects, .power]
  | .selvagePlanComplete => [.objects, .sys, .shuttle, .power]
  | .ageUpdate => [.objects, .power]
  | .i2cXfer _ _ _ => [.objects, .blobs, .bus]
  | .i2cTransactionStart _ => [.objects, .bus]
  | .i2cTransactionDone _ _ => [.objects, .blobs, .memory, .sys, .fault, .glade, .synth, .canopy, .net, .serv, .host, .twin, .record, .bus]
  | .i2cArbitrationLost _ => [.objects, .bus]
  | .i2cBusFree _ => [.objects, .blobs, .memory, .sys, .fault, .glade, .synth, .net, .serv, .host, .twin, .record, .bus]
  | .i2cStretchTimeout _ _ => [.objects, .blobs, .memory, .sys, .fault, .glade, .synth, .net, .serv, .host, .twin, .record, .bus]
  | .i2cBusReset _ _ _ => [.objects, .bus]
  | .i2cRecoveryAttempt _ _ => [.objects, .blobs, .memory, .sys, .fault, .glade, .synth, .net, .serv, .host, .twin, .record, .bus]
  | .i2cTargetSetOffset _ => [.bus]
  | .i2cTargetRead _ => [.bus]
  | .jtagBypass => [.bus]
  | .jtagIdcode => [.bus]
  | .jtagSamplePreload _ => [.bus]
  | .jtagExtest => [.bus]
  | .jtagExtestPulse => [.bus]
  | .jtagExtestTrain => [.bus]
  | .clockReturn _ => [.objects]
  | .yethalAlignmentLoss => [.objects, .twin]
  | .twinStateTransferRequest => [.twin]

/-- The families of commands. -/
inductive Safety.Family where
  /-- Reset, boot, ticks, windows, clocks and leap seconds. -/
  | modes
  /-- Edge stamping and frequency regression. -/
  | stamping
  /-- The radio, its channels and the timing solution. -/
  | radio
  /-- References, the ensemble, the bound, PLLs and outputs. -/
  | timing
  /-- MAC links and frames. -/
  | network
  /-- NTP, NTS, PTP and client sessions. -/
  | services
  /-- Keys and the vault. -/
  | vault
  /-- Mailboxes, the dictionary, rings, registers and management. -/
  | host
  /-- Groves, engines, memory and the directory. -/
  | shuttle
  /-- Faults, the log and injection. -/
  | faults
  /-- The twin link. -/
  | twin
  /-- Records, replay, flash, the supply, temperature and wear. -/
  | storage
  /-- I2C, JTAG and digital steering. -/
  | sideBuses
  deriving DecidableEq, Repr

/-- The family of a command. -/
def Safety.family : Instr → Safety.Family
  | .resetRelease _ _ _ _ => .modes
  | .pwrOkFall => .modes
  | .resetNAssert => .modes
  | .fillComplete _ => .modes
  | .vaultInitComplete _ => .vault
  | .bootThermalRecheck _ => .modes
  | .bootComplete _ => .modes
  | .tickBoundary _ _ _ _ => .modes
  | .w0Ingest => .modes
  | .w1Solve _ => .modes
  | .w2Serve _ _ => .modes
  | .w3Maintain _ => .modes
  | .windowOverrun _ => .modes
  | .shuttleClockEnable _ => .modes
  | .shuttleClockGate _ => .modes
  | .enterReplay _ => .modes
  | .exitReplay _ => .modes
  | .lossOfClock _ => .modes
  | .groveStart _ => .shuttle
  | .engineSelftestComplete _ _ _ => .shuttle
  | .groveRampSlot _ => .shuttle
  | .leapEntryWrite _ _ _ => .modes
  | .leapEntryCancel _ => .modes
  | .leapApply => .modes
  | .smearWindowStart => .modes
  | .smearWindowEnd => .modes
  | .edgeArrival _ _ _ _ => .timing
  | .dllUpdate _ _ _ => .stamping
  | .codeDensityRunStart _ => .stamping
  | .codeDensityRunEnd _ _ => .stamping
  | .stamperLockTimeout _ => .stamping
  | .calInitComplete _ _ => .stamping
  | .stamperFaultRetry _ => .stamping
  | .gateEnd _ => .timing
  | .jesdSyncHeaderLock _ => .radio
  | .jesdEmbLock _ => .radio
  | .linkDataEntry _ _ => .radio
  | .linkProgressTimeout _ => .radio
  | .linkFaultDetect _ _ => .radio
  | .linkFaultRestart _ => .radio
  | .multiblockCrcFail _ => .radio
  | .gladeLinkStart => .radio
  | .gladeEpoch _ => .radio
  | .notchAverageEnd _ _ _ => .radio
  | .acqSearchComplete _ _ => .radio
  | .acqConfirmComplete _ _ => .radio
  | .coherentIntegrationEnd _ _ => .radio
  | .chPullInTimeout _ => .radio
  | .chLostTimeout _ => .radio
  | .channelPlan _ => .radio
  | .navUnitDecode _ _ => .radio
  | .surveyComplete _ => .radio
  | .surveyTimeout => .radio
  | .positionCheck _ => .radio
  | .spoofCheck _ => .radio
  | .refAbsentTimeout _ => .timing
  | .classFActivityWindow _ => .timing
  | .consistencyCheck => .timing
  | .aplltMissingEdge => .timing
  | .aplltInputConnect _ _ => .timing
  | .apllLock _ => .timing
  | .apllLossOfLock _ => .timing
  | .apllAcquireTimeout _ => .timing
  | .aplltRelockTimeout => .timing
  | .apllBypassRetry _ => .timing
  | .stepMeasure => .timing
  | .outputEdge _ _ _ => .timing
  | .dsteerInterval _ => .sideBuses
  | .timescaleStep _ _ => .timing
  | .timescaleStepToRef _ => .timing
  | .holdMaxExpire => .timing
  | .todMessageSend _ => .timing
  | .todMessageReceive _ _ _ => .timing
  | .npLinkSignal _ => .network
  | .npLinkAligned _ => .network
  | .npAlignTimeout _ => .network
  | .npLinkUp _ => .network
  | .npLinkFault _ => .network
  | .npFaultClear _ => .network
  | .npLinkDown _ => .network
  | .frameReceive _ _ _ _ => .network
  | .hostBatchClose _ _ _ => .network
  | .frameLaunch _ _ _ => .network
  | .hostTxDescriptor _ _ _ => .network
  | .hostFrameLate _ _ _ => .network
  | .esmcInfoPdu _ => .network
  | .esmcRxExpire _ => .network
  | .heddleSweep => .network
  | .ntpRequest _ _ _ => .services
  | .ntsRequest _ _ _ => .services
  | .ptpDelayReq _ _ _ => .services
  | .ptpPdelayReq _ _ _ => .services
  | .ptpGrantRequest _ _ => .services
  | .ptpGrantCancel _ _ => .services
  | .ptpGrantExpire _ => .services
  | .ptpSyncDue _ _ _ => .services
  | .ptpFollowUpDue _ => .services
  | .ptpAnnounceDue _ => .services
  | .ptpPdelayReqDue _ _ => .services
  | .ptpClientRx _ _ => .services
  | .clientRequestDue _ _ => .services
  | .clientGrantRenew _ _ => .services
  | .clientBackoffExpire _ => .services
  | .clientAnnounceTimeout _ => .services
  | .esmcPduReceive _ _ => .services
  | .ntsKeyRotation => .services
  | .ntsRotateNow _ => .services
  | .ntsMintRequest _ => .vault
  | .keyWrite _ _ => .vault
  | .keyWriteApply => .vault
  | .remaskRequest _ => .vault
  | .entropyHealthFail => .vault
  | .entropyRestartPass => .vault
  | .pkSign _ => .vault
  | .pkVerify _ => .vault
  | .pkEcdh _ => .vault
  | .generate _ => .vault
  | .derive _ => .vault
  | .proof _ => .vault
  | .chalIssue _ => .vault
  | .chalRespond _ => .vault
  | .attest _ => .vault
  | .pkEngineStart => .vault
  | .pkEngineComplete => .vault
  | .tamperEvent => .vault
  | .tamperFuseProgrammed => .vault
  | .dictRead _ => .host
  | .dictWrite _ => .host
  | .dictDescribe _ => .host
  | .dictBatchApply _ => .host
  | .mbxUnknownOp _ _ _ => .host
  | .mgmtRequestReceive _ => .host
  | .mgmtCacheExpiry => .host
  | .mgmtArpNd _ => .host
  | .pcieLinkUp _ _ => .host
  | .pcieLinkDown => .host
  | .pcieFlr _ => .host
  | .chanReset _ => .host
  | .d2hAck _ _ => .host
  | .d2hNoticeDeliver _ => .host
  | .ringEnable _ _ _ _ => .host
  | .ringConsumerWrite _ _ _ _ _ => .host
  | .tickLoRead _ => .host
  | .counterDump _ => .host
  | .registerWrite _ _ _ => .host
  | .engineFail _ _ => .shuttle
  | .engineWatchdogExpire _ _ => .shuttle
  | .takeoverLoadComplete _ => .shuttle
  | .aesJob _ _ _ _ _ _ => .shuttle
  | .memWriteBack _ _ _ => .shuttle
  | .memReread _ _ _ => .shuttle
  | .scrubRead _ _ => .shuttle
  | .scrubPassLate _ => .shuttle
  | .dirGets _ _ _ => .shuttle
  | .dirGetm _ _ _ => .shuttle
  | .dirPutm _ _ => .shuttle
  | .faultReport _ => .faults
  | .aonClockLoss => .faults
  | .eventLogWrite => .faults
  | .faultAutoAck => .faults
  | .faultAck _ _ => .faults
  | .groveRetryExpire _ => .shuttle
  | .aliveToggle => .faults
  | .injRequest _ _ => .faults
  | .injCancel _ => .faults
  | .twinLinkDetect => .twin
  | .twinJoinTimeout => .twin
  | .twinJoinRetry => .twin
  | .twinHelloReceive _ => .twin
  | .twinBulkReceive _ => .twin
  | .twinJoinBoundary => .twin
  | .twinAgreeReceive _ _ => .twin
  | .twinAgreeDeadline => .twin
  | .twinUrgentReceive _ _ => .twin
  | .twinForwardReceive _ _ => .twin
  | .twpPulseDrive => .twin
  | .twpEdgeReceive _ _ _ => .twin
  | .ownSwitchInstant _ => .twin
  | .ownInFall => .twin
  | .ownContention => .twin
  | .coldTake => .twin
  | .twinHandover _ => .twin
  | .twinLeave _ => .twin
  | .twinRejoin _ => .twin
  | .captureCopy _ => .storage
  | .replayLoad _ => .storage
  | .flashRead _ _ _ => .storage
  | .flashProgram _ _ _ _ => .storage
  | .flashSectorErase _ _ _ => .storage
  | .flashBlockErase _ _ _ => .storage
  | .flashCommandComplete _ => .storage
  | .journalIntervalExpire => .storage
  | .journalNow _ => .storage
  | .journalWriteComplete _ => .storage
  | .avsReadback _ => .storage
  | .pmbusAlert _ => .storage
  | .thermalSensorRead _ => .storage
  | .thermalTrip _ => .storage
  | .sentinelMeasure _ => .storage
  | .selvagePlanStart => .storage
  | .selvagePlanComplete => .storage
  | .ageUpdate => .storage
  | .i2cXfer _ _ _ => .sideBuses
  | .i2cTransactionStart _ => .sideBuses
  | .i2cTransactionDone _ _ => .sideBuses
  | .i2cArbitrationLost _ => .sideBuses
  | .i2cBusFree _ => .sideBuses
  | .i2cStretchTimeout _ _ => .sideBuses
  | .i2cBusReset _ _ _ => .sideBuses
  | .i2cRecoveryAttempt _ _ => .sideBuses
  | .i2cTargetSetOffset _ => .sideBuses
  | .i2cTargetRead _ => .sideBuses
  | .jtagBypass => .sideBuses
  | .jtagIdcode => .sideBuses
  | .jtagSamplePreload _ => .sideBuses
  | .jtagExtest => .sideBuses
  | .jtagExtestPulse => .sideBuses
  | .jtagExtestTrain => .sideBuses
  | .clockReturn _ => .modes
  | .yethalAlignmentLoss => .twin
  | .twinStateTransferRequest => .twin

end Sys2Proof.Machine
end

