-- ==== Sys2Proof/Certificates/Slice0/Obligations.lean ====
section
/-!
DEFINITION. The statements for the provers: rules over every command, what each command may change, and for each command that it
completes and what it then leaves.
-/

open Sys2Proof Sys2Proof.Machine

/-! ### The queue, reset, and rules over all commands -/

/-- With a command at the front of the queue, a step is the command's effect on the state with the rest of the queue (the queue is the model's: log
entry 1). -/
def Obligations.StepRunsTheFrontCommand : Prop :=
  ∀ (c : Instr) (rest : List Instr) (s : State), s.pending = c :: rest →
    Sys2Proof.Machine.step s = exec c { s with pending := rest }

/-- With no command waiting, a step leaves the state as it is: the model's choice (log entry 2). -/
def Obligations.StepIdlesOnAnEmptyQueue : Prop :=
  ∀ s : State, s.pending = [] → Sys2Proof.Machine.step s = .next s

/-- The machine held in reset: mode RESET, no ticks, every object at its default, every SRAM octet reads 0, no command waiting (R27, R31, R37, R372).
Where the objects give no default, the value is the model's (log entries 5 and 6), and so is the empty queue (log entry 1). -/
def Obligations.ResetHoldsDefaults : Prop :=
  State.reset.mode = mReset ∧ State.reset.running = false ∧ State.reset.alive = false ∧
    (∀ k, State.reset.o k = objDefault k) ∧ (∀ k, State.reset.blob k = blobDefault k) ∧
    (∀ a, State.reset.readByte a = 0) ∧ State.reset.pending = []

/-- The reset state has a canonical SRAM and an empty queue: the invariants hold where a run starts (the form of the memory is the model's: log entry
3). -/
def Obligations.ResetMeetsInvariants : Prop :=
  Safety.memCanonical State.reset ∧ State.reset.pending = []

/-- Every command but MEM_WRITE_BACK and MEM_REREAD answers a next state in every state; those two do when the word exists (R369). That an event out
of place changes nothing is the model's choice (log entry 4). -/
def Obligations.EveryCommandAnswers : Prop :=
  ∀ (c : Instr) (s : State),
    (∀ bank word value, c = .memWriteBack bank word value → word < bankWords bank) →
    (∀ bank word still, c = .memReread bank word still → word < bankWords bank) →
    ∃ t, exec c s = .next t

/-- A command that names a word that its bank does not have (R369) stops with the fault that names the bank and the word; the stop is the model's (log
entry 3). -/
def Obligations.AbsentWordsFault : Prop :=
  (∀ bank word value s, bankWords bank.val ≤ word → exec (.memWriteBack bank word value) s = .fault (.noSuchWord bank word)) ∧
  (∀ bank word still s, bankWords bank.val ≤ word → exec (.memReread bank word still) s = .fault (.noSuchWord bank word))

/-- No command changes the queue of the commands that wait (the queue is the model's: log entry 1). -/
def Obligations.CommandsKeepTheQueue : Prop :=
  ∀ (c : Instr) (s t : State), exec c s = .next t → t.pending = s.pending

/-- From every state whose SRAM is in canonical form, every step that answers a next state leaves it in canonical form (the form is the model's: log
entry 3). -/
def Obligations.StepsKeepMemoryCanonical : Prop :=
  ∀ s t : State, Safety.memCanonical s → Sys2Proof.Machine.step s = .next t → Safety.memCanonical t

/-- HALTED is left only by PWR_OK low (R30, R398): every other command leaves the mode HALTED, RESET_N changes nothing there, and PWR_OK falling leads
to RESET. -/
def Obligations.HaltedIsLeftOnlyByPower : Prop :=
  (∀ (c : Instr) (s t : State), s.mode = mHalted → c ≠ .pwrOkFall → exec c s = .next t → t.mode = mHalted) ∧
  (∀ s : State, s.mode = mHalted → exec .resetNAssert s = .next s) ∧
  (∀ s : State, s.mode = mHalted → ∃ t, exec .pwrOkFall s = .next t ∧ t.mode = mReset)

/-- Outside Bobbin's bank and the navigation bank, the SRAM is written only by the fill, the two resets, MEM_WRITE_BACK, the W3 work of checkpoints
and remaps, a session word poisoned by SCRUB_READ, a fault reported there, a navigation unit, and the requests of masters in W2: every other command
leaves every octet outside Bobbin's bank (R145, R364, R369, R372 to R376). -/
def Obligations.OnlyBobbinWritesMemory : Prop :=
  ∀ (c : Instr) (s t : State), exec c s = .next t →
    (∀ b, c ≠ .fillComplete b) → c ≠ .pwrOkFall → c ≠ .resetNAssert → (∀ b w v, c ≠ .memWriteBack b w v) →
    (∀ x, c ≠ .w3Maintain x) → (∀ b x, c ≠ .scrubRead b x) → (∀ f, c ≠ .faultReport f) → (∀ k u, c ≠ .navUnitDecode k u) →
    (∀ feed cycles, c = .w2Serve feed cycles → cycles = []) →
    ∀ a, ¬ Safety.inBank 17 a → t.readByte a = s.readByte a


/-! ### What a command may change -/

/-- Each command of modes, ticks, clocks and leap seconds leaves every part of the state but those of its footprint as it was, the SRAM octet by
octet. -/
def Obligations.ModeCommandsFrame : Prop :=
  ∀ (c : Instr) (s t : State), Safety.family c = .modes → exec c s = .next t → Safety.onlyChanges (Safety.footprint c) s t

/-- Each command of stamping and the radio leaves every part of the state but those of its footprint as it was, the SRAM octet by octet. -/
def Obligations.StampAndRadioCommandsFrame : Prop :=
  ∀ (c : Instr) (s t : State), (Safety.family c = .stamping ∨ Safety.family c = .radio) → exec c s = .next t → Safety.onlyChanges (Safety.footprint c) s t

/-- Each command of references, PLLs and outputs leaves every part of the state but those of its footprint as it was, the SRAM octet by octet. -/
def Obligations.TimingCommandsFrame : Prop :=
  ∀ (c : Instr) (s t : State), Safety.family c = .timing → exec c s = .next t → Safety.onlyChanges (Safety.footprint c) s t

/-- Each command of the network leaves every part of the state but those of its footprint as it was, the SRAM octet by octet. -/
def Obligations.NetworkCommandsFrame : Prop :=
  ∀ (c : Instr) (s t : State), Safety.family c = .network → exec c s = .next t → Safety.onlyChanges (Safety.footprint c) s t

/-- Each command of the time services leaves every part of the state but those of its footprint as it was, the SRAM octet by octet. -/
def Obligations.ServiceCommandsFrame : Prop :=
  ∀ (c : Instr) (s t : State), Safety.family c = .services → exec c s = .next t → Safety.onlyChanges (Safety.footprint c) s t

/-- Each command of the vault leaves every part of the state but those of its footprint as it was, the SRAM octet by octet. -/
def Obligations.VaultCommandsFrame : Prop :=
  ∀ (c : Instr) (s t : State), Safety.family c = .vault → exec c s = .next t → Safety.onlyChanges (Safety.footprint c) s t

/-- Each command of the host leaves every part of the state but those of its footprint as it was, the SRAM octet by octet. -/
def Obligations.HostCommandsFrame : Prop :=
  ∀ (c : Instr) (s t : State), Safety.family c = .host → exec c s = .next t → Safety.onlyChanges (Safety.footprint c) s t

/-- Each command of groves and memory leaves every part of the state but those of its footprint as it was, the SRAM octet by octet. -/
def Obligations.ShuttleCommandsFrame : Prop :=
  ∀ (c : Instr) (s t : State), Safety.family c = .shuttle → exec c s = .next t → Safety.onlyChanges (Safety.footprint c) s t

/-- Each command of faults and the twin leaves every part of the state but those of its footprint as it was, the SRAM octet by octet. -/
def Obligations.FaultAndTwinCommandsFrame : Prop :=
  ∀ (c : Instr) (s t : State), (Safety.family c = .faults ∨ Safety.family c = .twin) → exec c s = .next t → Safety.onlyChanges (Safety.footprint c) s t

/-- Each command of records, flash, the supply and the side buses leaves every part of the state but those of its footprint as it was, the SRAM octet
by octet. -/
def Obligations.StorageAndBusCommandsFrame : Prop :=
  ∀ (c : Instr) (s t : State), (Safety.family c = .storage ∨ Safety.family c = .sideBuses) → exec c s = .next t → Safety.onlyChanges (Safety.footprint c) s t

/-! ### Reset, boot and the tick -/

/-- PWR_OK_FALL answers a next state in every state, and RESET_N_ASSERT in every mode but HALTED: mode RESET, no SRAM octet listed, every blob at its
default and every object but TAMPER_COUNT (after RESET_N_ASSERT also but VAULT_STATE) at its default, every unit named here as in State.reset, the
queue kept (R27, R37); with no flash command in progress (and, for RESET_N_ASSERT, the vault not tampered) two clauses give that state whole: the
flash, the slots of the journal and the sensor that tripped stay, a slot that was being written is torn. In HALTED, RESET_N_ASSERT changes nothing
(R30). In RESET, RESET_RELEASE answers State.released: with no tamper and no trip latched, mode BOOT, the vault in INIT, AVS_ADDR and TWIN_ENABLE as
strapped, the SRAM kept (R27, R315, R498); with one latched, where the fault records are not frozen, mode HALTED (R323, R479). What a reset keeps of
the supply is the model's (log entries 5 and 6). -/
def Obligations.ResetCommandsComplete : Prop :=
  (∀ s : State, exec .pwrOkFall s = .next (s.toReset false)) ∧
  (∀ s : State, s.mode ≠ mHalted → exec .resetNAssert s = .next (s.toReset s.sys.pwrOk)) ∧
  (∀ (twinEn : Bool) (avsAddr : Fin 8) (a b : I2cLines) (s : State), s.mode = mReset →
    exec (.resetRelease twinEn avsAddr a b) s = .next (s.released twinEn avsAddr.val (a, b))) ∧
  (∀ s : State, s.power.command = none → exec .pwrOkFall s = .next (State.setN { State.reset with
    pending := s.pending
    sys := { State.reset.sys with pwrOk := false, free := s.sys.free }
    power := { State.reset.power with
      slots := match s.power.write with
        | some w => if w.started then setAt s.power.slots w.slot .torn else s.power.slots
        | none => s.power.slots
      flash := s.power.flash, trippedBy := s.power.trippedBy } } Obj.tamperCount (s.n Obj.tamperCount))) ∧
  (∀ s : State, s.mode ≠ mHalted → s.power.command = none → s.vault.tampered = false → exec .resetNAssert s = .next (State.setN { State.reset with
    pending := s.pending
    sys := { State.reset.sys with pwrOk := s.sys.pwrOk, free := s.sys.free }
    vault := { State.reset.vault with fuseDue := s.sys.pwrOk && s.vault.fuseDue }
    power := { State.reset.power with
      slots := match s.power.write with
        | some w => if w.started then setAt s.power.slots w.slot .torn else s.power.slots
        | none => s.power.slots
      flash := s.power.flash, tripLatch := s.sys.pwrOk && s.power.tripLatch, trippedBy := s.power.trippedBy } }
      Obj.tamperCount (s.n Obj.tamperCount))) ∧
  (∀ s : State, ∃ t, exec .pwrOkFall s = .next t ∧ t.mode = mReset ∧ t.pending = s.pending ∧ t.mem = [] ∧
    t.o Obj.tamperCount = s.n Obj.tamperCount ∧ (∀ k, k ≠ Obj.tamperCount → t.o k = objDefault k) ∧
    (∀ k, t.blob k = blobDefault k) ∧ t.sys.pwrOk = false ∧ t.vault.tampered = false ∧ t.power.tripLatch = false ∧
    t.leap = State.reset.leap ∧ t.fault = State.reset.fault ∧ t.stamp = State.reset.stamp ∧ t.glade = State.reset.glade ∧
    t.synth = State.reset.synth ∧ t.canopy = State.reset.canopy ∧ t.net = State.reset.net ∧ t.serv = State.reset.serv ∧
    t.host = State.reset.host ∧ t.shuttle = State.reset.shuttle ∧ t.twin = State.reset.twin ∧ t.record = State.reset.record ∧
    t.bus = State.reset.bus) ∧
  (∀ s : State, s.mode ≠ mHalted → ∃ t, exec .resetNAssert s = .next t ∧ t.mode = mReset ∧ t.pending = s.pending ∧ t.mem = [] ∧
    t.o Obj.tamperCount = s.n Obj.tamperCount ∧
    (∀ k, k ≠ Obj.tamperCount → k ≠ Obj.vaultState → t.o k = objDefault k) ∧ (∀ k, t.blob k = blobDefault k) ∧
    t.sys.pwrOk = s.sys.pwrOk ∧ t.leap = State.reset.leap ∧ t.fault = State.reset.fault ∧ t.stamp = State.reset.stamp ∧
    t.glade = State.reset.glade ∧ t.synth = State.reset.synth ∧ t.canopy = State.reset.canopy ∧ t.net = State.reset.net ∧
    t.serv = State.reset.serv ∧ t.host = State.reset.host ∧ t.shuttle = State.reset.shuttle ∧ t.twin = State.reset.twin ∧
    t.record = State.reset.record ∧ t.bus = State.reset.bus) ∧
  (∀ s : State, s.mode = mHalted → exec .resetNAssert s = .next s) ∧
  (∀ (twinEn : Bool) (avsAddr : Fin 8) (a b : I2cLines) (s : State), s.mode = mReset → s.vault.tampered = false → s.power.tripLatch = false →
    ∃ t, exec (.resetRelease twinEn avsAddr a b) s = .next t ∧ t.mode = mBoot ∧ t.sys.pwrOk = true ∧ t.sys.resetN = true ∧
      t.o Obj.vaultState = 1 ∧ t.o Obj.avsAddr = avsAddr.val ∧ t.flag Obj.twinEnable = twinEn ∧
      t.o Obj.twinState = (if twinEn then 1 else 0) ∧ t.mem = s.mem ∧ t.pending = s.pending) ∧
  (∀ (twinEn : Bool) (avsAddr : Fin 8) (a b : I2cLines) (s : State), s.mode = mReset → s.fault.frozen = false → s.fault.context = none →
    (s.vault.tampered = true ∨ s.power.tripLatch = true) →
    ∃ t, exec (.resetRelease twinEn avsAddr a b) s = .next t ∧ t.mode = mHalted)

/-- PWR_OK_FALL, and RESET_N_ASSERT outside HALTED, enter RESET with no SRAM octet listed; in RESET with no tamper and no trip latched, RESET_RELEASE
enters BOOT (R27, R37). In BOOT: with images not loaded, FILL_COMPLETE answers State.filled, and where a copy was read and both images pass, they are
loaded (R372, R468). With the vault in INIT, VAULT_INIT_COMPLETE of a self-test that passed answers State.vaultReady, with VAULT_STATE READY and one
more pass in REMASK_PASSES, or State.zeroise where a tamper is latched; of one that failed, the zeroised state with fault 0x0804, which halts where
the fault records are not frozen (R315). With the images loaded, the vault READY and BOOT not held, BOOT_COMPLETE enters WARMUP below 115 °C and holds
BOOT from 115 °C; while it is held, BOOT_THERMAL_RECHECK does the same (R467, R480). -/
def Obligations.BootCommandsComplete : Prop :=
  (∀ s : State, ∃ t, exec .pwrOkFall s = .next t ∧ t.mode = mReset ∧ t.mem = [] ∧ t.pending = s.pending) ∧
  (∀ s : State, s.mode ≠ mHalted → ∃ t, exec .resetNAssert s = .next t ∧ t.mode = mReset ∧ t.mem = [] ∧ t.pending = s.pending) ∧
  (∀ (twinEn : Bool) (avsAddr : Fin 8) (a b : I2cLines) (s : State), s.mode = mReset → s.vault.tampered = false → s.power.tripLatch = false →
    ∃ t, exec (.resetRelease twinEn avsAddr a b) s = .next t ∧ t.mode = mBoot ∧ t.mem = s.mem ∧ t.pending = s.pending) ∧
  (∀ (b : BootRead) (s : State), s.mode = mBoot → s.power.loaded = false → exec (.fillComplete b) s = .next (s.filled b)) ∧
  (∀ s : State, s.mode = mBoot → s.o Obj.vaultState = 1 → s.vault.tampered = false → exec (.vaultInitComplete none) s = .next s.vaultReady) ∧
  (∀ s : State, s.mode = mBoot → s.o Obj.vaultState = 1 → s.vault.tampered = true → exec (.vaultInitComplete none) s = .next s.zeroise) ∧
  (∀ (u : Fin 4) (s : State), s.mode = mBoot → s.o Obj.vaultState = 1 →
    exec (.vaultInitComplete (some u)) s = .next (s.zeroise.faulted 0x0804 u.val 0)) ∧
  (∀ (us : Fin 4294967296) (s : State), s.mode = mBoot → s.power.loaded = true → s.o Obj.vaultState = 2 → s.power.held = false →
    s.o Obj.tjMax < 1840 → exec (.bootComplete us) s =
      .next (State.enterWarmup { s.setO Obj.thermalState 0 with power := { s.power with held := false } } us.val)) ∧
  (∀ (us : Fin 4294967296) (s : State), s.mode = mBoot → s.power.held = true → s.o Obj.tjMax < 1840 →
    exec (.bootThermalRecheck us) s =
      .next (State.enterWarmup { s.setO Obj.thermalState 0 with power := { s.power with held := false } } us.val)) ∧
  (∀ (b : BootRead) (s : State), s.mode = mBoot → s.power.loaded = false → ∃ t, exec (.fillComplete b) s = .next t ∧
    t.pending = s.pending ∧ (b.copy.isSome = true → b.shuttleOk = true → b.microcodeOk = true → t.power.loaded = true)) ∧
  (∀ s : State, s.mode = mBoot → s.o Obj.vaultState = 1 → s.vault.tampered = false →
    ∃ t, exec (.vaultInitComplete none) s = .next t ∧ t.o Obj.vaultState = 2 ∧ t.o Obj.remaskPasses = s.o Obj.remaskPasses + 1 ∧
      t.mode = mBoot ∧ t.vault.recovery = false) ∧
  (∀ (u : Fin 4) (s : State), s.mode = mBoot → s.o Obj.vaultState = 1 → s.fault.frozen = false → s.fault.context = none →
    ∃ t, exec (.vaultInitComplete (some u)) s = .next t ∧ t.mode = mHalted) ∧
  (∀ (us : Fin 4294967296) (s : State), s.mode = mBoot → s.power.loaded = true → s.o Obj.vaultState = 2 → s.power.held = false →
    s.o Obj.tjMax < 1840 → ∃ t, exec (.bootComplete us) s = .next t ∧ t.power.held = false ∧ t.mem = s.mem ∧ t.host.snapObj = t.obj ∧
      t.host.snapBlobs = t.blobs ∧ t.pending = s.pending) ∧
  (∀ (us : Fin 4294967296) (s : State), s.mode = mBoot → s.power.loaded = true → s.o Obj.vaultState = 2 → s.power.held = false →
    1840 ≤ s.o Obj.tjMax → exec (.bootComplete us) s =
      .next { s.setO Obj.thermalState 2 with power := { s.power with held := true } }) ∧
  (∀ (us : Fin 4294967296) (s : State), s.mode = mBoot → s.power.held = true → s.o Obj.tjMax < 1840 →
    ∃ t, exec (.bootThermalRecheck us) s = .next t ∧ t.power.held = false ∧ t.mem = s.mem ∧ t.host.snapObj = t.obj) ∧
  (∀ (us : Fin 4294967296) (s : State), s.mode = mBoot → s.power.held = true → 1840 ≤ s.o Obj.tjMax →
    exec (.bootThermalRecheck us) s = .next { s.setO Obj.thermalState 2 with power := { s.power with held := true } })

/-- In every mode with ticks TICK_BOUNDARY answers State.boundary, keeps the queue, and unless that halts the device the dictionary shown to the host
is then the dictionary (R38, R334, R402). In a mode with ticks, W0_INGEST, W1_SOLVE, W2_SERVE and W3_MAINTAIN answer the work of their window where no
later window has begun in the tick: W0 keeps the SRAM, the ensemble, the vault and the records; W2 without requests of masters keeps the SRAM; in
REPLAY, W1 and W2 answer the replay's work (R41). WINDOW_OVERRUN of work of the window in progress answers State.overrun, which sets OVERRUN_LAST_TICK
to the tick and keeps the queue (R52, R53). -/
def Obligations.TickCommandsComplete : Prop :=
  (∀ (cycles gpio : Fin 4294967296) (ownIn : Bool) (work : List WorkTally) (s : State), s.running = true →
    exec (.tickBoundary cycles gpio ownIn work) s = .next (s.boundary cycles.val gpio.val ownIn work)) ∧
  (∀ s : State, s.running = true → s.sys.window.rank < 1 → exec .w0Ingest s = .next (s.begin_ .w0).ingest) ∧
  (∀ (work : Unfinished) (s : State), s.running = true → s.sys.window = work.window → exec (.windowOverrun work) s = .next (s.overrun work)) ∧
  (∀ (cycles gpio : Fin 4294967296) (ownIn : Bool) (work : List WorkTally) (s : State), s.running = true →
    ∃ t, exec (.tickBoundary cycles gpio ownIn work) s = .next t ∧ t.pending = s.pending ∧
      (t.mode ≠ mHalted → t.host.snapObj = t.obj ∧ t.host.snapBlobs = t.blobs)) ∧
  (∀ s : State, s.running = true → s.sys.window.rank < 1 →
    ∃ t, exec .w0Ingest s = .next t ∧ t.mem = s.mem ∧ t.canopy = s.canopy ∧ t.vault = s.vault ∧ t.record = s.record) ∧
  (∀ (feed : List FeedRecord) (s : State), s.running = true → s.sys.window.rank < 2 → s.mode ≠ mReplay →
    exec (.w1Solve feed) s = .next (State.solve { s with sys := { s.sys with window := .w1 } })) ∧
  (∀ (feed : List FeedRecord) (s : State), s.running = true → s.sys.window.rank < 2 → s.mode = mReplay →
    exec (.w1Solve feed) s = .next (State.replayW1 { s with sys := { s.sys with window := .w1 } } feed)) ∧
  (∀ (feed : List FeedRecord) (cycles : List MemCycle) (s : State), s.running = true → s.sys.window.rank < 3 → s.mode ≠ mReplay →
    ∃ t, exec (.w2Serve feed cycles) s = .next t ∧ t.sys = { s.sys with window := .w2 } ∧ t.serv = s.serv ∧ (cycles = [] → t.mem = s.mem)) ∧
  (∀ (feed : List FeedRecord) (cycles : List MemCycle) (s : State), s.running = true → s.sys.window.rank < 3 → s.mode = mReplay →
    exec (.w2Serve feed cycles) s =
      .next (State.replayW2 (State.memCycles (State.banksWake { s with sys := { s.sys with window := .w2 } }) cycles) feed)) ∧
  (∀ (bad : Bool) (keys : Option Nat) (s : State), s.running = true → s.sys.window.rank < 4 →
    exec (.w3Maintain ⟨bad, keys⟩) s = .next (State.maintain { s with sys := { s.sys with window := .w3 } } bad keys)) ∧
  (∀ (work : Unfinished) (s : State), s.running = true → s.sys.window = work.window →
    ∃ t, exec (.windowOverrun work) s = .next t ∧ t.o Obj.overrunLastTick = (t.tick : Int) ∧ t.pending = s.pending)

/-- In W1, SHUTTLE_CLOCK_ENABLE of a grove in state 1 to 3 that is not clocked adds it to the clocked groves; in W3, SHUTTLE_CLOCK_GATE takes it off
(R43). In a mode with ticks ENTER_REPLAY and EXIT_REPLAY on port class H wait for the boundary of their tick, or of the next tick from W3 on (R34,
R60); on another class they change nothing. LOSS_OF_CLOCK of a source that is present answers State.clockLost, for CLK_IN n: its bit of CD_STATUS
cleared, its sticky bit set, one loss counted; of a PLL in LOCKED, SWITCHING or RELOCK, BYPASS (R36, R184). CLOCK_RETURN of a source that is no PLL
(of the PCIe clock: once the fill ended) sets the bits of its domains, and changes no other object, but APLLT_SOURCE where APLL-T acquires without a
source; of a PLL it changes nothing (R36). -/
def Obligations.ClockCommandsComplete : Prop :=
  (∀ (g : Fin 16) (s : State), s.running = true → s.sys.window = .w1 → 1 ≤ s.o (Obj.groveState g) → s.o (Obj.groveState g) ≤ 3 →
    g.val ∉ s.shuttle.clocked → exec (.shuttleClockEnable g) s =
      .next { s with shuttle := { s.shuttle with clocked := s.shuttle.clocked ++ [g.val] } }) ∧
  (∀ (g : Fin 16) (s : State), s.running = true → s.sys.window = .w3 → exec (.shuttleClockGate g) s =
    .next { s with shuttle := { s.shuttle with clocked := s.shuttle.clocked.filter fun k => k != g.val } }) ∧
  (∀ s : State, s.running = true → s.sys.window ≠ .w3 → exec (.enterReplay .hostH) s =
    .next { s with sys := { s.sys with due := s.sys.due ++ [⟨1, false, .modeRequest 1⟩] } }) ∧
  (∀ s : State, s.running = true → s.sys.window = .w3 → exec (.enterReplay .hostH) s =
    .next { s with sys := { s.sys with due := s.sys.due ++ [⟨2, false, .modeRequest 1⟩] } }) ∧
  (∀ s : State, s.running = true → s.sys.window ≠ .w3 → exec (.exitReplay .hostH) s =
    .next { s with sys := { s.sys with due := s.sys.due ++ [⟨1, false, .modeRequest 2⟩] } }) ∧
  (∀ s : State, s.running = true → s.sys.window = .w3 → exec (.exitReplay .hostH) s =
    .next { s with sys := { s.sys with due := s.sys.due ++ [⟨2, false, .modeRequest 2⟩] } }) ∧
  (∀ (cls : PortClass) (s : State), cls ≠ .hostH → exec (.enterReplay cls) s = .next s ∧ exec (.exitReplay cls) s = .next s) ∧
  (∀ (n : Fin 4) (s : State), s.alive = true → s.clockPresent (.clkIn n) = true → exec (.lossOfClock (.clkIn n)) s =
    .next (((s.setN Obj.cdStatus (clearBit (s.n Obj.cdStatus) (1 + n))).setN Obj.cdLostSticky
      (setBit (s.n Obj.cdLostSticky) (1 + n))).inc Obj.cdLossCount)) ∧
  (∀ (c : ClockSource) (s : State), s.alive = true → s.clockPresent c = true → (∀ k, c ≠ .apll k) →
    exec (.lossOfClock c) s = .next (s.clockLost c)) ∧
  (∀ (k : Fin 6) (s : State), s.alive = true → s.clockPresent (.apll k) = true → (s.pll k = 2 ∨ s.pll k = 4 ∨ s.pll k = 5) →
    exec (.lossOfClock (.apll k)) s = .next (s.pllBypass k)) ∧
  (∀ (c : ClockSource) (s : State), s.alive = true → (∀ k, c ≠ .apll k) → (c = .pcie → s.power.filled = true) → s.pll 0 ≠ 1 →
    exec (.clockReturn c) s = .next (s.setN Obj.cdStatus (c.domains.foldl setBit (s.n Obj.cdStatus)))) ∧
  (∀ (c : ClockSource) (s : State), s.alive = true → (∀ k, c ≠ .apll k) → (c = .pcie → s.power.filled = true) → s.pll 0 = 1 → s.n Obj.aplltSource = 255 →
    ∃ t, exec (.clockReturn c) s = .next t ∧ t.n Obj.cdStatus = c.domains.foldl setBit (s.n Obj.cdStatus) ∧
      (∀ k, k ≠ Obj.cdStatus → k ≠ Obj.aplltSource → t.o k = s.o k) ∧ t.mem = s.mem ∧ t.synth = s.synth) ∧
  (∀ (k : Fin 6) (s : State), exec (.clockReturn (.apll k)) s = .next s)

/-- In a mode with ticks, LEAP_ENTRY_WRITE of an entry that State.leapEntryOk accepts and LEAP_ENTRY_CANCEL, on port class H or M, wait for a second's
boundary, from W3 on not for the one that ends the tick (R60, R78, R84); an entry not accepted, or one on another class, changes nothing. Once its
instant has come, LEAP_APPLY answers State.applyLeap: TAI_UTC_OFFSET is the new offset, nothing is pending, and the entry ends the table of the 64
last (R76, R77). SMEAR_WINDOW_START inside a smear window sets SMEAR_ACTIVE, SMEAR_WINDOW_END outside clears it (R80). -/
def Obligations.LeapCommandsComplete : Prop :=
  (∀ (cls : PortClass) (e newOffset : Int) (s : State), s.running = true → (cls = .hostH ∨ cls = .mgmtM) → s.leapEntryOk e newOffset = true →
    s.sys.window ≠ .w3 → exec (.leapEntryWrite cls e newOffset) s =
      .next { s with sys := { s.sys with due := s.sys.due ++ [⟨1, true, .leapEntry e newOffset⟩] } }) ∧
  (∀ (cls : PortClass) (e newOffset : Int) (s : State), s.running = true → (cls = .hostH ∨ cls = .mgmtM) → s.leapEntryOk e newOffset = true →
    s.sys.window = .w3 → exec (.leapEntryWrite cls e newOffset) s =
      .next { s with sys := { s.sys with due := s.sys.due ++ [⟨2, true, .leapEntry e newOffset⟩] } }) ∧
  (∀ (cls : PortClass) (e newOffset : Int) (s : State), s.leapEntryOk e newOffset = false ∨ (cls ≠ .hostH ∧ cls ≠ .mgmtM) →
    exec (.leapEntryWrite cls e newOffset) s = .next s) ∧
  (∀ (cls : PortClass) (s : State), s.running = true → (cls = .hostH ∨ cls = .mgmtM) → s.sys.window ≠ .w3 →
    exec (.leapEntryCancel cls) s = .next { s with sys := { s.sys with due := s.sys.due ++ [⟨1, true, .leapCancel⟩] } }) ∧
  (∀ (cls : PortClass) (s : State), s.running = true → (cls = .hostH ∨ cls = .mgmtM) → s.sys.window = .w3 →
    exec (.leapEntryCancel cls) s = .next { s with sys := { s.sys with due := s.sys.due ++ [⟨2, true, .leapCancel⟩] } }) ∧
  (∀ (p : LeapEntry) (s : State), s.running = true → s.leapPending = some p → p.e ≤ s.second → exec .leapApply s = .next (s.applyLeap p)) ∧
  (∀ (p : LeapEntry) (s : State), s.running = true → s.leapPending = some p → p.e ≤ s.second →
    ∃ t, exec .leapApply s = .next t ∧ t.o Obj.taiUtcOffset = p.newOffset ∧ t.o Obj.leapPending = 0 ∧ t.o Obj.leapPendingE = 0 ∧
      t.o Obj.leapSource = 0 ∧ t.leap.justApplied = some p ∧ t.leap.table = (s.leap.table ++ [p]).drop (s.leap.table.length - 63) ∧
      t.mem = s.mem ∧ t.sys = s.sys) ∧
  (∀ s : State, s.running = true → (s.smearEntry s.timeNow).isSome = true → exec .smearWindowStart s = .next (s.setO Obj.smearActive 1)) ∧
  (∀ s : State, s.running = true → (s.smearEntry s.timeNow).isNone = true → exec .smearWindowEnd s = .next (s.setO Obj.smearActive 0))

/-! ### Stamping, the radio and the solution -/

/-- In a mode with ticks, each form answers a next state, and its clauses say which. EDGE_ARRIVAL on a port in use answers State.edge with its PPS
news; an edge 20 ns or more after the last that is not the D_s-th, with nothing on the port unread, adds 1 to TP_EDGES modulo 2^48 and changes no
other object but the wrap bit (R87, R88). DLL_UPDATE of a stamper not OFF takes the delay code (stampers 0 to 127); within ±4 taps it counts the
passing run, 0 where the error is over 1 tap, and locks at 8,192; beyond ±4 taps a run of LOCK or FAULT starts over, and CAL_INIT, ACTIVE or RECAL
goes to FAULT (R92, R95). CODE_DENSITY_RUN_START of a stamper whose re-calibration is due or deferred, with its twin ACTIVE too, enters RECAL with no
pairs (R93). CODE_DENSITY_RUN_END in CAL_INIT takes the histogram, adds one run and counts it; in RECAL, 4 ticks after its start, a table that can be
built takes force and the stamper is ACTIVE (R93, R95). STAMPER_LOCK_TIMEOUT of a stamper 64 ticks unlocked in LOCK: FAULT; CAL_INIT_COMPLETE after 16
runs and 72 ticks: ACTIVE; STAMPER_FAULT_RETRY after 1 s on a port in use: LOCK, its histograms emptied (R95, R96). GATE_END of a gate that is due
answers State.gateClosed and keeps the SRAM (R107, R108). -/
def Obligations.StampCommandsComplete : Prop :=
  (∀ (p : Fin 84) (time : Nat) (a b : Capture) (s : State), s.running = true → s.portOn p = true →
    exec (.edgeArrival p time a b) s = .next ((s.edge p time a b).ppsPortNews p)) ∧
  (∀ (p : Fin 84) (time : Nat) (a b : Capture) (s : State), s.running = true → s.portOn p = true → (s.port p).fresh = [] →
    (∀ l, (s.port p).lastEdge = some l → l + 1310720 ≤ time) → p.val < 64 →
    (s.n (Obj.tpEdges p) + 1) % 2 ^ 48 % max 1 (s.portDivider p) ≠ 0 →
    ∃ t, exec (.edgeArrival p time a b) s = .next t ∧ t.n (Obj.tpEdges p) = (s.n (Obj.tpEdges p) + 1) % 2 ^ 48 ∧
      (∀ k, k ≠ Obj.tpEdges p → k ≠ Obj.tpEdgesWrapped p → t.o k = s.o k) ∧ t.mem = s.mem ∧ t.sys = s.sys) ∧
  (∀ (k : Fin 170) (error : Int) (code : Fin 4096) (s : State), s.running = true → s.stState k ≠ 0 → error.natAbs ≤ 3200 →
    exec (.dllUpdate k error code) s =
      .next (State.dllPass ((if k.val < 128 then s.setN (Obj.stamperDllCode k) code else s).dllReads k) k error)) ∧
  (∀ (k : Fin 170) (error : Int) (code : Fin 4096) (s : State), s.running = true → s.stState k ≠ 0 → error.natAbs ≤ 3200 →
    (s.port (k / 2)).held = [] → ∃ t, exec (.dllUpdate k error code) s = .next t ∧
      (t.stamper k).run = (if error.natAbs ≤ 800 then min 8192 ((s.stamper k).run + 1) else 0) ∧
      (t.stamper k).locked = ((s.stamper k).locked || decide (8192 ≤ (t.stamper k).run)) ∧
      (k.val < 128 → t.n (Obj.stamperDllCode k) = code.val) ∧ (∀ j, j ≠ Obj.stamperDllCode k → t.o j = s.o j) ∧
      t.mem = s.mem ∧ t.sys = s.sys) ∧
  (∀ (k : Fin 170) (error : Int) (code : Fin 4096) (s : State), s.running = true → (s.stState k = 1 ∨ s.stState k = 5) →
    3200 < error.natAbs → ∃ t, exec (.dllUpdate k error code) s = .next t ∧ (t.stamper k).run = 0 ∧ (t.stamper k).locked = false ∧
      (k.val < 128 → t.n (Obj.stamperDllCode k) = code.val) ∧ (∀ j, j ≠ Obj.stamperDllCode k → t.o j = s.o j) ∧
      t.mem = s.mem ∧ t.sys = s.sys) ∧
  (∀ (k : Fin 170) (error : Int) (code : Fin 4096) (s : State), s.running = true → (s.stState k = 2 ∨ s.stState k = 3 ∨ s.stState k = 4) →
    3200 < error.natAbs → exec (.dllUpdate k error code) s =
      .next (State.stamperFault ((if k.val < 128 then s.setN (Obj.stamperDllCode k) code else s).dllReads k) k)) ∧
  (∀ (k : Fin 170) (s : State), s.running = true → s.stActive k = true → s.stActive (State.twinOf k) = true →
    (s.recalDue k = true ∨ (s.stamper k).deferred = true) → exec (.codeDensityRunStart k) s = .next (s.recalStart k) ∧
      (s.recalStart k).stState k = 4 ∧ ((s.recalStart k).stamper k).deferred = false ∧ ((s.recalStart k).stamper k).entry = s.age ∧
      ((s.recalStart k).port (k / 2)).pairs = [] ∧ (s.recalStart k).sys = s.sys ∧ (s.recalStart k).mem = s.mem) ∧
  (∀ (k : Fin 170) (hits : List Nat) (s : State), s.running = true → s.stState k = 2 →
    exec (.codeDensityRunEnd k hits) s = .next (s.initRun k hits)) ∧
  (∀ (k : Fin 170) (hits : List Nat) (s : State), s.running = true → s.stState k = 2 → (s.stamper k).hists.length < 15 →
    ∃ t, exec (.codeDensityRunEnd k hits) s = .next t ∧ (t.stamper k).hists = hits :: (s.stamper k).hists ∧
      (t.stamper k).runs = (s.stamper k).runs + 1 ∧ (k.val < 128 → t.o (Obj.stamperRecals k) = s.o (Obj.stamperRecals k) + 1) ∧
      (∀ j, j ≠ Obj.stamperRecals k → t.o j = s.o j) ∧ t.mem = s.mem ∧ t.sys = s.sys) ∧
  (∀ (k : Fin 170) (hits : List Nat) (s : State), s.running = true → s.stState k = 4 → (s.stamper k).entry + 4 ≤ s.age →
    exec (.codeDensityRunEnd k hits) s = .next (s.recalEnd k hits)) ∧
  (∀ (k : Fin 170) (hits table : List Nat) (s : State), s.running = true → s.stState k = 4 → (s.stamper k).entry + 4 ≤ s.age →
    State.buildTable ((hits :: (s.stamper k).hists).take 16) = some table → ∃ t, exec (.codeDensityRunEnd k hits) s = .next t ∧
      t.stState k = 3 ∧ (t.stamper k).table = table ∧ (t.stamper k).hists = (hits :: (s.stamper k).hists).take 16 ∧
      t.mem = s.mem ∧ t.sys = s.sys) ∧
  (∀ (k : Fin 170) (s : State), s.running = true → s.stState k = 1 → (s.stamper k).locked = false → (s.stamper k).entry + 64 ≤ s.age →
    exec (.stamperLockTimeout k) s = .next (s.stamperFault k)) ∧
  (∀ (k : Fin 170) (train : List ((Nat × Nat) × (Nat × Nat))) (s : State), s.running = true → s.stState k = 2 → 16 ≤ (s.stamper k).runs →
    (s.stamper k).entry + 72 ≤ s.age → exec (.calInitComplete k train) s = .next (s.calibrated k train) ∧
      (s.calibrated k train).stState k = 3 ∧ ((s.calibrated k train).stamper k).entry = s.age ∧
      (s.calibrated k train).sys = s.sys ∧ (s.calibrated k train).mem = s.mem) ∧
  (∀ (k : Fin 170) (s : State), s.running = true → s.stState k = 5 → (s.stamper k).entry + 8192 ≤ s.age → s.portOn (k / 2) = true →
    exec (.stamperFaultRetry k) s = .next (s.stamperRelock k) ∧ (s.stamperRelock k).stState k = 1 ∧
      ((s.stamperRelock k).stamper k).locked = false ∧ ((s.stamperRelock k).stamper k).run = 0 ∧
      ((s.stamperRelock k).stamper k).hists = [] ∧ ((s.stamperRelock k).stamper k).entry = s.age ∧
      (s.stamperRelock k).sys = s.sys ∧ (s.stamperRelock k).mem = s.mem) ∧
  (∀ (p : Fin 84) (s : State), s.running = true → s.gateDue p = true →
    exec (.gateEnd p) s = .next (s.gateClosed p) ∧ (s.gateClosed p).mem = s.mem)

/-- While Glade links or runs, JESD_SYNC_HEADER_LOCK of a link in RESET with a band enabled enters SH_LOCK, JESD_EMB_LOCK in SH_LOCK enters EMB_LOCK,
LINK_DATA_ENTRY in EMB_LOCK answers State.linkData; a link 81 ticks in SH_LOCK or EMB_LOCK goes to FAULT and counts a restart, one in DATA goes to
FAULT at a link fault (of CRC: after 8 bad multiblocks of the epoch), one 81 ticks in FAULT goes to RESET (R120, R121). MULTIBLOCK_CRC_FAIL in DATA is
counted, and the 8th bad one leads to FAULT (R120, R122). GLADE_LINK_START once the front ends settled starts LINK with a burst of 8 SYSREF edges
(R119, R123). GLADE_EPOCH, at most once a tick, answers the stream path of the epoch, and in RUN the solution and the second of a survey after it; it
keeps the SRAM, the vault, the ensemble and the groves (R131). NOTCH_AVERAGE_END of a stream with a completed average answers State.notchAverage of
it, and without one changes nothing (R126). -/
def Obligations.LinkCommandsComplete : Prop :=
  (∀ (a : Fin 4) (s : State), s.gladeLinking = true → s.n (Obj.linkState a) = 0 → s.n (Obj.linkBands a) ≠ 0 →
    exec (.jesdSyncHeaderLock a) s = .next (s.linkEnter a 1) ∧ (s.linkEnter a 1).n (Obj.linkState a) = 1 ∧
      ((s.linkEnter a 1).glink a).entry = s.age ∧ (∀ k, k ≠ Obj.linkState a → (s.linkEnter a 1).o k = s.o k) ∧
      (s.linkEnter a 1).mem = s.mem ∧ (s.linkEnter a 1).sys = s.sys) ∧
  (∀ (a : Fin 4) (s : State), s.gladeLinking = true → s.n (Obj.linkState a) = 1 →
    exec (.jesdEmbLock a) s = .next (s.embLocked a) ∧ (s.embLocked a).n (Obj.linkState a) = 2 ∧
      ((s.embLocked a).glink a).entry = (s.glink a).entry ∧ (∀ k, k ≠ Obj.linkState a → (s.embLocked a).o k = s.o k) ∧
      (s.embLocked a).mem = s.mem ∧ (s.embLocked a).sys = s.sys) ∧
  (∀ (a : Fin 4) (latency : Fin 65536) (s : State), s.gladeLinking = true → s.n (Obj.linkState a) = 2 →
    exec (.linkDataEntry a latency) s = .next (s.linkData a latency)) ∧
  (∀ (a : Fin 4) (s : State), (s.n (Obj.linkState a) = 1 ∨ s.n (Obj.linkState a) = 2) → (s.glink a).entry + 81 ≤ s.age →
    exec (.linkProgressTimeout a) s = .next (s.linkEnter a 4) ∧ (s.linkEnter a 4).n (Obj.linkState a) = 4 ∧
      (s.linkEnter a 4).o (Obj.linkRestarts a) = s.o (Obj.linkRestarts a) + 1 ∧
      (∀ k, k ≠ Obj.linkState a → k ≠ Obj.linkRestarts a → (s.linkEnter a 4).o k = s.o k) ∧ (s.linkEnter a 4).mem = s.mem) ∧
  (∀ (a : Fin 4) (why : LinkFault) (s : State), s.n (Obj.linkState a) = 3 → (why = .crc → 8 ≤ (s.glink a).bad.length) →
    exec (.linkFaultDetect a why) s = .next (s.linkEnter a 4)) ∧
  (∀ (a : Fin 4) (s : State), s.n (Obj.linkState a) = 4 → (s.glink a).entry + 81 ≤ s.age →
    exec (.linkFaultRestart a) s = .next (s.linkEnter a 0) ∧ (s.linkEnter a 0).n (Obj.linkState a) = 0 ∧
      (∀ k, k ≠ Obj.linkState a → (s.linkEnter a 0).o k = s.o k) ∧ (s.linkEnter a 0).mem = s.mem) ∧
  (∀ (a lane : Fin 4) (block : Nat) (s : State), s.n (Obj.linkState a) = 3 → (s.glink a).bad.length < 7 →
    exec (.multiblockCrcFail ⟨a, lane, block⟩) s =
      .next ((s.setGlink a { s.glink a with bad := (s.glink a).bad ++ [(lane.val, block)] }).inc (Obj.linkCrcErrors a))) ∧
  (∀ (a lane : Fin 4) (block : Nat) (s : State), s.n (Obj.linkState a) = 3 → 7 ≤ (s.glink a).bad.length →
    exec (.multiblockCrcFail ⟨a, lane, block⟩) s =
      .next (((s.setGlink a { s.glink a with bad := (s.glink a).bad ++ [(lane.val, block)] }).inc (Obj.linkCrcErrors a)).linkEnter a 4)) ∧
  (∀ s : State, s.o Obj.gladeState = 1 → s.glade.entry * 1000 + s.n Obj.feSettleMs * 8192 ≤ (s.age + 1) * 1000 →
    exec .gladeLinkStart s = .next { s.setO Obj.gladeState 2 with glade := { s.glade with sysrefLeft := 8 } }) ∧
  (∀ (e : GladeEpoch) (s : State), s.glade.epochAge ≠ some s.age → s.o Obj.gladeState = 3 → exec (.gladeEpoch e) s =
    .next (((s.gladeEpochPath e).solution e).surveySecond e)) ∧
  (∀ (e : GladeEpoch) (s : State), s.glade.epochAge ≠ some s.age → s.o Obj.gladeState ≠ 3 →
    exec (.gladeEpoch e) s = .next (s.gladeEpochPath e)) ∧
  (∀ (e : GladeEpoch) (s : State), s.glade.epochAge = some s.age → exec (.gladeEpoch e) s = .next s) ∧
  (∀ (e : GladeEpoch) (s : State), s.glade.epochAge ≠ some s.age → ∃ t, exec (.gladeEpoch e) s = .next t ∧
    t.mem = s.mem ∧ t.vault = s.vault ∧ t.canopy = s.canopy ∧ t.shuttle = s.shuttle) ∧
  (∀ (k : Fin 12) (s : State), (s.strm k).average = none → exec (.notchAverageEnd k () ()) s = .next s) ∧
  (∀ (k : Fin 12) (power : List Nat) (s : State), (s.strm k).average = some power → exec (.notchAverageEnd k () ()) s =
    .next (State.notchAverage (s.setStrm k { s.strm k with average := none }) k power))

/-- In RUN with a snapshot taken for the channel (R134): ACQ_SEARCH_COMPLETE of a channel in SEARCH with no cell to confirm counts a search; a winning
cell is noted for confirmation; no cell adds a window, and at the third the channel is IDLE with its assignment banned for 60 s; in LOST, before 10 s,
a winning cell is a detection. ACQ_CONFIRM_COMPLETE of a cell that confirms counts a detection and enters PULL_IN; of one that does not, a false
alarm, in SEARCH still (R135, R141). COHERENT_INTEGRATION_END in states 2 to 5 answers State.integrationEnd (R138). CH_PULL_IN_TIMEOUT after 500 ms
and CH_LOST_TIMEOUT after 10 s enter SEARCH (R141). At tick index 0 with PLAN_MODE 0, CHANNEL_PLAN answers State.planChannels (R143). NAV_UNIT_DECODE
of a channel in states 3 to 5 on a signal with data answers State.navUnit; a unit that fails its check, on a signal but 1, is counted in
NAV_CHECK_FAIL and clears the channel's last unit (R144). -/
def Obligations.ChannelCommandsComplete : Prop :=
  (∀ (c : Fin 256) (d : Int) (x : Snapshot) (s : State), s.o Obj.gladeState = 3 → s.chanSnap c = some x → s.chanState c = 1 →
    (s.chan c).confirming = none → exec (.acqSearchComplete c d) s = .next (((s.inc Obj.acqSearches).searchedIn c x).searchDone c x d)) ∧
  (∀ (c : Fin 256) (d : Int) (x : Snapshot) (cell : Int × Nat) (s : State), s.o Obj.gladeState = 3 → s.chanSnap c = some x →
    s.chanState c = 1 → (s.chan c).confirming = none → ((s.inc Obj.acqSearches).searchedIn c x).searchWins c x d = some cell →
    ∃ t, exec (.acqSearchComplete c d) s = .next t ∧
      t.o Obj.acqSearches = s.o Obj.acqSearches + 1 ∧ (t.chan c).confirming = some cell ∧ (t.chan c).searched = some x.epoch ∧
      (∀ k, k ≠ Obj.acqSearches → t.o k = s.o k) ∧ t.mem = s.mem) ∧
  (∀ (c : Fin 256) (d : Int) (x : Snapshot) (s : State), s.o Obj.gladeState = 3 → s.chanSnap c = some x → s.chanState c = 1 →
    (s.chan c).confirming = none → ((s.inc Obj.acqSearches).searchedIn c x).searchWins c x d = none → (s.chan c).windows < 2 →
    ∃ t, exec (.acqSearchComplete c d) s = .next t ∧ t.chanState c = 1 ∧ (t.chan c).windows = (s.chan c).windows + 1 ∧
      t.o Obj.acqSearches = s.o Obj.acqSearches + 1 ∧ t.glade.banned = s.glade.banned ∧ t.mem = s.mem) ∧
  (∀ (c : Fin 256) (d : Int) (x : Snapshot) (s : State), s.o Obj.gladeState = 3 → s.chanSnap c = some x → s.chanState c = 1 →
    (s.chan c).confirming = none → ((s.inc Obj.acqSearches).searchedIn c x).searchWins c x d = none → 2 ≤ (s.chan c).windows →
    ∃ t, exec (.acqSearchComplete c d) s = .next t ∧
      t.chanState c = 0 ∧ (t.chan c).windows = 0 ∧ t.o Obj.acqSearches = s.o Obj.acqSearches + 1 ∧ t.mem = s.mem ∧
      t.glade.banned = s.glade.banned ++ [((s.chan c).asg.1, (s.chan c).asg.2.1, (s.chan c).asg.2.2, s.age + 60 * 8192)]) ∧
  (∀ (c : Fin 256) (d : Int) (x : Snapshot) (cell : Int × Nat) (s : State), s.o Obj.gladeState = 3 → s.chanSnap c = some x →
    s.chanState c = 6 → ((s.inc Obj.acqSearches).searchedIn c x).searchWins c x d = some cell → s.age < (s.chan c).entry + 81920 →
    exec (.acqSearchComplete c d) s = .next (((s.inc Obj.acqSearches).searchedIn c x).detected c x cell.1 cell.2)) ∧
  (∀ (c : Fin 256) (x : Snapshot) (cell : Int × Nat) (s : State), s.o Obj.gladeState = 3 → s.chanSnap c = some x → s.chanState c = 1 →
    (s.chan c).confirming = some cell → s.confirms c x cell.1 cell.2 = true →
    exec (.acqConfirmComplete c ()) s = .next (((s.searchedIn c x).inc Obj.acqDetections).detected c x cell.1 cell.2)) ∧
  (∀ (c : Fin 256) (x : Snapshot) (cell : Int × Nat) (s : State), s.o Obj.gladeState = 3 → s.chanSnap c = some x → s.chanState c = 1 →
    (s.chan c).confirming = some cell → s.confirms c x cell.1 cell.2 = true → ∃ t, exec (.acqConfirmComplete c ()) s = .next t ∧
      t.chanState c = 2 ∧ t.o Obj.acqDetections = s.o Obj.acqDetections + 1 ∧ (t.chan c).entry = s.age ∧ t.mem = s.mem) ∧
  (∀ (c : Fin 256) (x : Snapshot) (cell : Int × Nat) (s : State), s.o Obj.gladeState = 3 → s.chanSnap c = some x → s.chanState c = 1 →
    (s.chan c).confirming = some cell → s.confirms c x cell.1 cell.2 = false → ∃ t, exec (.acqConfirmComplete c ()) s = .next t ∧
      t.chanState c = 1 ∧ (t.chan c).confirming = none ∧ t.o Obj.acqFalseAlarms = s.o Obj.acqFalseAlarms + 1 ∧
      (∀ k, k ≠ Obj.acqFalseAlarms → t.o k = s.o k) ∧ t.mem = s.mem) ∧
  (∀ (c : Fin 256) (x : Integration) (s : State), s.o Obj.gladeState = 3 → 2 ≤ s.chanState c → s.chanState c ≤ 5 →
    exec (.coherentIntegrationEnd c x) s = .next (s.integrationEnd c x)) ∧
  (∀ (c : Fin 256) (s : State), s.chanState c = 2 → (s.chan c).entry + 4096 ≤ s.age →
    exec (.chPullInTimeout c) s = .next (s.chanEnter c 1) ∧ (s.chanEnter c 1).chanState c = 1 ∧ ((s.chanEnter c 1).chan c).entry = s.age ∧
      (∀ k, k ≠ Obj.chState c → (s.chanEnter c 1).o k = s.o k) ∧ (s.chanEnter c 1).mem = s.mem ∧ (s.chanEnter c 1).sys = s.sys) ∧
  (∀ (c : Fin 256) (s : State), s.chanState c = 6 → (s.chan c).entry + 81920 ≤ s.age →
    exec (.chLostTimeout c) s = .next (s.chanEnter c 1) ∧ (s.chanEnter c 1).chanState c = 1 ∧ ((s.chanEnter c 1).chan c).entry = s.age ∧
      (∀ k, k ≠ Obj.chState c → (s.chanEnter c 1).o k = s.o k) ∧ (s.chanEnter c 1).mem = s.mem ∧ (s.chanEnter c 1).sys = s.sys) ∧
  (∀ (vis : List Visible) (s : State), s.o Obj.gladeState = 3 → s.o Obj.planMode = 0 → s.index = 0 →
    exec (.channelPlan vis) s = .next (s.planChannels vis)) ∧
  (∀ (c : Fin 256) (u : NavUnit) (s : State), s.o Obj.gladeState = 3 → 3 ≤ s.chanState c → s.chanState c ≤ 5 → s.chanSignal c ≠ 0x21 →
    exec (.navUnitDecode c u) s = .next (s.navUnit c u)) ∧
  (∀ (c : Fin 256) (u : NavUnit) (s : State), s.o Obj.gladeState = 3 → 3 ≤ s.chanState c → s.chanState c ≤ 5 → s.chanSignal c ≠ 0x21 →
    s.chanSignal c ≠ 1 → unitOk (s.chanSignal c) ((s.chan c).lnavPrev.getD (false, false)) (unitBits (s.chanSignal c) u.symbols).1 = false → exec (.navUnitDecode c u) s =
      .next ((s.setChan c { s.chan c with lnavPrev := none }).inc (Obj.navCheckFail (s.chanSignal c))))

/-- In SURVEY, after SURVEY_MIN_S, SURVEY_COMPLETE of an estimate that meets the limits answers State.surveyDone of it: NO_TIME, POS_MODE 0, the
journal due, the survey's sums emptied; earlier, or of an estimate outside the limits, it changes nothing; SURVEY_TIMEOUT after four times
SURVEY_MIN_S counts a failed survey and starts over (R149, R162). 1,000,000 epochs after the last one, POSITION_CHECK in VALID or POSITION_SUSPECT
starts new sums, and a position moved by more than POS_TOL_MM makes the solution suspect (R158). In RUN with SPOOF_MODE not 0, SPOOF_CHECK at an epoch
count that 1,000 divides answers State.spoofSecond, once; with fewer terms than SPOOF_MIN_TERMS it counts an unavailable second and sets SPOOF_METRIC
to the most negative value (R159, R160). The estimate itself is the model's reading of R149 (log entry 105). -/
def Obligations.SolutionCommandsComplete : Prop :=
  (∀ s : State, s.o Obj.solState = 1 → s.n Obj.surveyMinS ≤ s.n Obj.surveyElapsedS → s.surveyMet s.surveyResult = true →
    ∃ t, exec (.surveyComplete ()) s = .next t ∧ t = s.surveyDone s.surveyResult ∧ t.o Obj.solState = 2 ∧
      t.o Obj.posMode = 0 ∧ t.power.journalDue = true ∧ t.glade.survey = [] ∧ t.mem = s.mem ∧ t.sys = s.sys) ∧
  (∀ s : State, s.o Obj.solState = 1 → (s.n Obj.surveyElapsedS < s.n Obj.surveyMinS ∨ s.surveyMet s.surveyResult = false) →
    exec (.surveyComplete ()) s = .next s) ∧
  (∀ s : State, s.o Obj.solState = 1 → 4 * s.n Obj.surveyMinS ≤ s.n Obj.surveyElapsedS →
    ∃ t, exec .surveyTimeout s = .next t ∧ t.o Obj.surveyElapsedS = 0 ∧ t.o Obj.surveyFails = s.o Obj.surveyFails + 1 ∧
      t.glade.survey = [] ∧ (∀ k, k ≠ Obj.surveyElapsedS → k ≠ Obj.surveyFails → t.o k = s.o k) ∧ t.mem = s.mem ∧ t.sys = s.sys) ∧
  (∀ s : State, (s.o Obj.solState = 3 ∨ s.o Obj.solState = 4) → s.glade.posSince + 1000000 ≤ s.n Obj.gladeEpochCount →
    (s.glade.posSums.any fun p => State.posMoved (s.n Obj.posTolMm : Nat) p.2) = true →
    exec (.positionCheck (s.n Obj.gladeEpochCount)) s = .next { s with glade := { s.glade with suspect := true, posSums := [], posSince := s.n Obj.gladeEpochCount } }) ∧
  (∀ s : State, (s.o Obj.solState = 3 ∨ s.o Obj.solState = 4) → s.glade.posSince + 1000000 ≤ s.n Obj.gladeEpochCount →
    (s.glade.posSums.any fun p => State.posMoved (s.n Obj.posTolMm : Nat) p.2) = false →
    exec (.positionCheck (s.n Obj.gladeEpochCount)) s = .next { s with glade := { s.glade with posSums := [], posSince := s.n Obj.gladeEpochCount } }) ∧
  (∀ (l : List SpoofSat) (s : State), s.o Obj.gladeState = 3 → s.o Obj.spoofMode ≠ 0 → s.n Obj.gladeEpochCount % 1000 = 0 →
    s.glade.spoofAt ≠ some (s.n Obj.gladeEpochCount) →
    exec (.spoofCheck l) s = .next (s.spoofSecond l)) ∧
  (∀ (l : List SpoofSat) (s : State), s.o Obj.gladeState = 3 → s.o Obj.spoofMode ≠ 0 → s.n Obj.gladeEpochCount % 1000 = 0 →
    s.glade.spoofAt ≠ some (s.n Obj.gladeEpochCount) →
    (([1, 2, 3].map (s.spoofTerms l)).flatten).length < s.n Obj.spoofMinTerms → ∃ t, exec (.spoofCheck l) s = .next t ∧
      t.o Obj.spoofUnavailSeconds = s.o Obj.spoofUnavailSeconds + 1 ∧ t.o Obj.spoofMetric = -2147483648 ∧ t.mem = s.mem)

/-! ### References, the ensemble, PLLs and outputs -/

/-- In a mode with ticks: REF_ABSENT_TIMEOUT of a class T reference in state 2 or above, absent for more than REF_ABSENT_S, notes that it fails at the
next evaluation (R173). CLASS_F_ACTIVITY_WINDOW of a class F reference in state 1 or above whose window has passed answers State.activityEnd; without
one edge in it, where more than one was due, the reference is LISTED again (R170, R172). CONSISTENCY_CHECK at tick index 0 answers State.consistency
(R174). TIMESCALE_STEP and, with a class T reference selected, TIMESCALE_STEP_TO_REF, on port class H or M outside REPLAY, wait for the boundary of
their tick, or of the next from W3 on (R60, R207). HOLD_MAX_EXPIRE in HOLDOVER after HOLD_MAX_S, where that is not 0, makes the next bound unbounded
(R219). TOD_MESSAGE_SEND of an output in ToD mode on the edge that its pair last drove, not sent yet, holds State.todMessage for that edge (R241).
TOD_MESSAGE_RECEIVE answers State.todArrive, which is the PPS news alone on a port that no PPS reference is bound to (R242). -/
def Obligations.ReferenceCommandsComplete : Prop :=
  (∀ (id : Fin 256) (a : Nat) (s : State), s.running = true → classT id = true → 2 ≤ s.refSt id →
    (s.ref id).absentFrom = some a → a + s.n (Obj.refAbsentS id) * 8192 < s.age →
    exec (.refAbsentTimeout id) s = .next (s.setRef id { s.ref id with failNext := true })) ∧
  (∀ (id : Fin 256) (s : State), s.running = true → classF id = true → 1 ≤ s.refSt id →
    (s.ref id).winStart + s.activityTicks id ≤ s.age → exec (.classFActivityWindow id) s = .next (s.activityEnd id) ∧
      (s.activityEnd id).mem = s.mem ∧ (s.activityEnd id).sys = s.sys ∧ (s.activityEnd id).stamp = s.stamp) ∧
  (∀ (id : Fin 256) (s : State), s.running = true → classF id = true → 2 ≤ s.refSt id →
    (s.ref id).winStart + s.activityTicks id ≤ s.age → s.portEdges (monitorPort id) = (s.ref id).winCount → s.portEdges (monitorPort id) < 2 ^ 48 →
    1 < 2 ^ 20 * 1000000000 * s.activityTicks id / (s.portPeriod (monitorPort id) * 8192) → exec (.classFActivityWindow id) s =
      .next (((s.setRef id { s.ref id with winStart := s.age, winCount := s.portEdges (monitorPort id) }).refEnter id 1).aplltReact)) ∧
  (∀ s : State, s.running = true → s.index = 0 → exec .consistencyCheck s = .next s.consistency) ∧
  (∀ (cls : PortClass) (ns : Int) (s : State), s.running = true → s.mode ≠ mReplay → (cls = .hostH ∨ cls = .mgmtM) → s.sys.window ≠ .w3 →
    exec (.timescaleStep cls ns) s = .next { s with sys := { s.sys with due := s.sys.due ++ [⟨1, false, .step ns⟩] } }) ∧
  (∀ (cls : PortClass) (ns : Int) (s : State), s.running = true → s.mode ≠ mReplay → (cls = .hostH ∨ cls = .mgmtM) → s.sys.window = .w3 →
    exec (.timescaleStep cls ns) s = .next { s with sys := { s.sys with due := s.sys.due ++ [⟨2, false, .step ns⟩] } }) ∧
  (∀ (cls : PortClass) (s : State), s.running = true → s.mode ≠ mReplay → (cls = .hostH ∨ cls = .mgmtM) → s.o Obj.selTCurrent ≠ 0 →
    s.sys.window ≠ .w3 →
    exec (.timescaleStepToRef cls) s = .next { s with sys := { s.sys with due := s.sys.due ++ [⟨1, false, .stepToRef⟩] } }) ∧
  (∀ (cls : PortClass) (s : State), s.running = true → s.mode ≠ mReplay → (cls = .hostH ∨ cls = .mgmtM) → s.o Obj.selTCurrent ≠ 0 →
    s.sys.window = .w3 →
    exec (.timescaleStepToRef cls) s = .next { s with sys := { s.sys with due := s.sys.due ++ [⟨2, false, .stepToRef⟩] } }) ∧
  (∀ (h : Hold) (s : State), s.canopy.hold = some h → s.mode = mHoldover → s.o Obj.ensHoldMaxS ≠ 0 →
    s.n Obj.ensHoldMaxS * 8192 ≤ s.age - h.entry →
    exec .holdMaxExpire s = .next { s with sys := { s.sys with forceUnbounded := true } }) ∧
  (∀ (port : Fin 64) (n : Nat) (x : Int) (s : State), s.inService = true → s.o (Obj.outMode port) = 3 → s.o (Obj.tpRole port) = 2 →
    s.n (Obj.outTodPair port) < 64 → s.interlockOpen = true → (s.out (s.n (Obj.outTodPair port))).last = some (n, x) →
    (s.out port).todFor ≠ some n → exec (.todMessageSend port) s =
      .next (s.setOut port { s.out port with todFor := some n, tod := s.todMessage (s.n (Obj.outTodPair port)) })) ∧
  (∀ (port : Fin 64) (message : Octets) (endNs : Nat) (s : State), s.running = true →
    (∀ id, 0x10 ≤ id → id < 0x20 → ∀ a b, s.ppsNews.ppsBinding id = some (a, b) → b ≠ port.val) →
    exec (.todMessageReceive port message endNs) s = .next s.ppsNews) ∧
  (∀ (port : Fin 64) (message : Octets) (endNs : Nat) (s : State), s.running = true →
    exec (.todMessageReceive port message endNs) s = .next (s.todArrive port message endNs) ∧
      (s.todArrive port message endNs).sys = s.sys ∧ (s.todArrive port message endNs).mem = s.mem)

/-- APLL_LOCK of a PLL in ACQUIRING sets LOCKED and, of APLL-T, starts the lock age, takes the dividers of its input and starts APLL-N0 and APLL-O
where they are OFF; of PLL 5, starts PLLs 2 and 3; of PLL 2, lets the management port serve from then on; of APLL-T for an input that has no dividers
it changes nothing; in RELOCK it sets LOCKED (R184, R339). A loss of lock, a relock time-out and a time-out of ACQUIRING end in BYPASS;
APLL_BYPASS_RETRY acquires again where the source is there (R184). APLLT_MISSING_EDGE in LOCKED starts a switch to the next candidate, and ends in
BYPASS without one or in a switch (R177, R179); APLLT_INPUT_CONNECT of the candidate enters RELOCK with its source and dividers and counts a plane
step (R179, R180). STEP_MEASURE, 64 ticks after, of a step without a prediction only ends it; of one whose input has no fit it answers State.stepLost;
of one with a fit up to the last tick it sets STEP_MEASURED to the figure named (R180 to R182). OUTPUT_EDGE of a port that drives answers
State.driveEdge, and below 1,024 edges on a verified port it changes no object and notes the edge (R186, R188). DSTEER_INTERVAL in W3 answers
State.steerInterval (R194). -/
def Obligations.PllCommandsComplete : Prop :=
  (∀ (n : Nat) (s : State), s.pll 0 = 2 → s.aplltCandidates.find? (fun n => n != s.n Obj.aplltSource) = some n →
    exec .aplltMissingEdge s = .next { s.setO (Obj.apllState 0) 4 with
      synth := { s.synth with pendingInput := some n, planeMoved := true } }) ∧
  (∀ s : State, s.pll 0 = 2 → s.aplltCandidates.find? (fun n => n != s.n Obj.aplltSource) = none →
    exec .aplltMissingEdge s = .next (s.pllBypass 0)) ∧
  (∀ s : State, s.pll 0 = 4 ∨ s.pll 0 = 5 → exec .aplltMissingEdge s = .next (s.pllBypass 0)) ∧
  (∀ (n plane khz : Nat) (d : Nat × Nat) (s : State), s.synth.pendingInput = some n → aplltDividers khz = some d →
    (s.pll 0 = 4 ∨ s.pll 0 = 5) → exec (.aplltInputConnect plane khz) s = .next (s.inputConnected n plane d)) ∧
  (∀ (n plane khz : Nat) (d : Nat × Nat) (s : State), s.synth.pendingInput = some n → aplltDividers khz = some d →
    (s.pll 0 = 4 ∨ s.pll 0 = 5) → ∃ t, exec (.aplltInputConnect plane khz) s = .next t ∧ t.pll 0 = 5 ∧ t.o Obj.aplltSource = (n : Int) ∧
      t.o Obj.stepCount = s.o Obj.stepCount + 1 ∧ t.synth.pendingInput = none ∧ t.synth.dividers = d ∧ t.mem = s.mem ∧ t.stamp = s.stamp) ∧
  (∀ (khz : Nat) (d : Nat × Nat) (s : State), s.pll 0 = 1 → aplltDividers khz = some d → ∃ t, exec (.apllLock ⟨0, khz⟩) s = .next t ∧
    t.pll 0 = 2 ∧ t.sys = { s.sys with sinceLock := some 0 } ∧ t.synth.dividers = d ∧
    (s.pll 4 = 0 → t.pll 4 = 1) ∧ (s.pll 5 = 0 → t.pll 5 = 1) ∧ t.mem = s.mem) ∧
  (∀ (khz : Nat) (s : State), aplltDividers khz = none → exec (.apllLock ⟨0, khz⟩) s = .next s) ∧
  (∀ (khz : Nat) (s : State), s.pll 5 = 1 → ∃ t, exec (.apllLock ⟨5, khz⟩) s = .next t ∧ t.pll 5 = 2 ∧ t.sys = s.sys ∧
    (s.pll 2 = 0 → t.pll 2 = 1) ∧ (s.pll 3 = 0 → t.pll 3 = 1) ∧ t.mem = s.mem) ∧
  (∀ (khz : Nat) (d : Nat × Nat) (s : State), s.pll 0 = 5 → s.synth.pendingInput = none → aplltDividers khz = some d →
    exec (.apllLock ⟨0, khz⟩) s = .next { s.setO (Obj.apllState 0) 2 with
      synth := { s.synth with step := s.synth.step.map fun p => { p with relocked := true } } }) ∧
  (∀ (k : Fin 6) (khz : Nat) (s : State), k ≠ 0 → k ≠ 2 → k ≠ 5 → s.pll k = 1 → exec (.apllLock ⟨k, khz⟩) s =
    .next ((s.setO (Obj.apllState k) 2).clockBack (.apll k))) ∧
  (∀ (khz : Nat) (s : State), s.pll 2 = 1 → ∃ t, exec (.apllLock ⟨2, khz⟩) s = .next t ∧ t = { (s.setO (Obj.apllState 2) 2).clockBack (.apll 2) with
    host := t.host } ∧ t.host = { s.host with mgmtUp := true }) ∧
  (∀ (k : Fin 6) (s : State), s.pll k = 2 → exec (.apllLossOfLock k) s = .next (s.pllBypass k)) ∧
  (∀ (k : Fin 6) (s : State), k ≠ 0 → k ≠ 5 → s.pll k = 1 → exec (.apllAcquireTimeout k) s =
    .next ((s.setO (Obj.apllState k) 3).inc (Obj.apllBypassCount k))) ∧
  (∀ (k : Fin 6) (s : State), s.pll k = 1 → exec (.apllAcquireTimeout k) s = .next (s.pllBypass k)) ∧
  (∀ s : State, s.pll 0 = 4 ∨ s.pll 0 = 5 → exec .aplltRelockTimeout s = .next (s.pllBypass 0)) ∧
  (∀ s : State, s.pll 1 = 3 → bitOf (s.n Obj.cdStatus) 0 = true → exec (.apllBypassRetry 1) s = .next (s.setO (Obj.apllState 1) 1)) ∧
  (∀ s : State, s.pll 0 = 3 → s.aplltAcquire.isSome = true → exec (.apllBypassRetry 0) s =
    .next ((s.setO (Obj.apllState 0) 1).setN Obj.aplltSource (s.aplltAcquire.getD 255))) ∧
  (∀ (k : Fin 6) (s : State), (k = 2 ∨ k = 3) → s.pll k = 3 → s.pll 5 = 2 → exec (.apllBypassRetry k) s =
    .next (s.setO (Obj.apllState k) 1)) ∧
  (∀ (k : Fin 6) (s : State), (k = 4 ∨ k = 5) → s.pll k = 3 → (s.pll 0 = 2 ∨ s.pll 0 = 4 ∨ s.pll 0 = 5) → exec (.apllBypassRetry k) s =
    .next (s.setO (Obj.apllState k) 1)) ∧
  (∀ (p : PlaneStep) (s : State), s.running = true → s.synth.step = some p → p.phase = .predicted → p.applied + 64 ≤ s.age →
    p.predicted = none → exec .stepMeasure s = .next { s with synth := { s.synth with step := none } }) ∧
  (∀ (p : PlaneStep) (x : Int × Int) (s : State), s.running = true → s.synth.step = some p → p.phase = .predicted → p.applied + 64 ≤ s.age →
    p.predicted = some x → (s.port (64 + p.input)).sliding = none → exec .stepMeasure s = .next s.stepLost) ∧
  (∀ (p : PlaneStep) (sp y : Int) (f : Fit) (at_ : Nat) (s : State), s.running = true → s.synth.step = some p → p.phase = .predicted →
    p.applied + 64 ≤ s.age → p.predicted = some (sp, y) → (s.port (64 + p.input)).sliding = some (f, at_) → s.age ≤ at_ + 1 →
    ∃ t, exec .stepMeasure s = .next t ∧
      t.o Obj.stepMeasured = sp + State.wrapPeriod (pfdPeriod s.synth.dividers) (s.lateness f (64 + p.input) p.at_ - p.before - sp) ∧
      (t.synth.step.map (·.phase)) = some .slewing ∧ t.canopy.planeStep.isSome = true ∧ (∀ k, k ≠ Obj.stepMeasured → t.o k = s.o k) ∧
      t.sys = s.sys ∧ t.mem = s.mem) ∧
  (∀ (port : Fin 64) (n : Nat) (measured : Int) (s : State), (s.out port).driving = true → s.outAllowed port = true →
    (s.out port).startAt ≤ s.edgeTarget port n * 4096 → s.edgeFree port n = true →
    exec (.outputEdge port n measured) s = .next (s.driveEdge port n measured)) ∧
  (∀ (port : Fin 64) (n : Nat) (measured : Int) (s : State), (s.out port).driving = true → s.outAllowed port = true →
    (s.out port).startAt ≤ s.edgeTarget port n * 4096 → s.edgeFree port n = true →
    s.flag (Obj.outUnverified port) = false → (s.out port).edges < 1024 →
    ∃ t, exec (.outputEdge port n measured) s = .next t ∧ (t.out port).edges = (s.out port).edges + 1 ∧
      (t.out port).last = some (n, s.edgeTarget port n) ∧ t.obj = s.obj ∧ t.sys = s.sys ∧ t.mem = s.mem) ∧
  (∀ (ds : Fin 4) (s : State), s.running = true → s.sys.window = .w3 → exec (.dsteerInterval ds) s = .next (s.steerInterval ds))

/-! ### The network and the services -/

/-- The link of a MAC moves through R248: signal, alignment, up, fault and back, with an unaligned link back to DOWN, and DOWN from any
state, where leaving UP counts. -/
def Obligations.MacLinkCommandsComplete : Prop :=
  (∀ (m : Fin 16) (s : State), s.running = true → s.macUsed m = true → s.o (Obj.apllState (State.macApll m)) = 2 →
    s.o (Obj.npLinkState m) = 0 → exec (.npLinkSignal m) s = .next (s.setO (Obj.npLinkState m) 1)) ∧
  (∀ (m : Fin 16) (s : State), s.macUsed m = true → s.o (Obj.npLinkState m) = 1 →
    exec (.npLinkAligned m) s = .next (s.setO (Obj.npLinkState m) 2)) ∧
  (∀ (m : Fin 16) (s : State), s.o (Obj.npLinkState m) = 1 → exec (.npAlignTimeout m) s = .next (s.setO (Obj.npLinkState m) 0)) ∧
  (∀ (m : Fin 16) (s : State), s.macUsed m = true → s.o (Obj.npLinkState m) = 2 → exec (.npLinkUp m) s = .next (s.macEnterUp m) ∧
    (s.macEnterUp m).o (Obj.npLinkState m) = 3 ∧ (s.macEnterUp m).mem = s.mem ∧ (s.macEnterUp m).serv = s.serv) ∧
  (∀ (m : Fin 16) (s : State), s.o (Obj.npLinkState m) = 2 ∨ s.o (Obj.npLinkState m) = 3 →
    exec (.npLinkFault m) s = .next (s.setO (Obj.npLinkState m) 4)) ∧
  (∀ (m : Fin 16) (s : State), s.o (Obj.npLinkState m) = 4 → exec (.npFaultClear m) s = .next (s.setO (Obj.npLinkState m) 2)) ∧
  (∀ (m : Fin 16) (s : State), s.o (Obj.npLinkState m) = 3 →
    exec (.npLinkDown m) s = .next ((s.inc (Obj.npLinkDowns m)).setO (Obj.npLinkState m) 0)) ∧
  (∀ (m : Fin 16) (s : State), s.o (Obj.npLinkState m) ≠ 3 → s.o (Obj.npLinkState m) ≠ 0 →
    exec (.npLinkDown m) s = .next (s.setO (Obj.npLinkState m) 0))

/-- FRAME_RECEIVE in a mode with ticks on a MAC that is up answers State.frameReceive; a frame for no address of the device counts in the octets, the
frames and NP_RX_NO_MATCH alone (R249, R254). HOST_BATCH_CLOSE of a batch that is due answers State.closeBatch, and with the link up (of a receive
batch: always) the batch is gone and no object changes (R253, R353). FRAME_LAUNCH in a mode with ticks answers State.frameLaunch; the frame that its
queue offers at the instant, with none offered by a higher queue, not late, not past its opportunity, with a bound that stands and a mode that lets it
leave, is sent (R258 to R260). HOST_TX_DESCRIPTOR answers State.hostTx; one that passes every test named here adds one frame to the MAC's queue and
one completion to come, and changes no object (R263, R353). HOST_FRAME_LATE of a frame past its launch time takes it off and counts it (R263).
ESMC_INFO_PDU in its slot queues one PDU (R265); ESMC_RX_EXPIRE after 5 s sets the received SSM to 0xF0 and counts it (R266); HEDDLE_SWEEP goes on by
one bucket and changes no object (R274). -/
def Obligations.FrameCommandsComplete : Prop :=
  (∀ (m : Fin 16) (frame : Octets) (capture : Nat) (phy : PhyErrors) (s : State), s.running = true → s.macUp m = true →
    exec (.frameReceive m frame capture phy) s = .next (s.frameReceive m frame capture phy)) ∧
  (∀ (m : Fin 16) (frame : Octets) (capture : Nat) (phy : PhyErrors) (s : State), s.running = true → s.macUp m = true →
    s.destOk m (parseFrame frame).dst = false → exec (.frameReceive m frame capture phy) s =
      .next (((s.addHw (Obj.npRxFrames m) 1 (Obj.npHwWrapped m) 0).addHw (Obj.npRxOctets m) (frame.length + 4) (Obj.npHwWrapped m) 1).inc
        (Obj.npRxNoMatch m))) ∧
  (∀ (completion : Bool) (ring m : Fin 16) (b : RxBatch) (s : State),
    Sparse.get (fun _ => none) s.net.batches ((if completion then 256 else 0) + 16 * ring.val + m.val) = some b → s.batchDue b = true →
    exec (.hostBatchClose completion ring m) s = .next (s.closeBatch ((if completion then 256 else 0) + 16 * ring.val + m.val))) ∧
  (∀ (completion : Bool) (ring m : Fin 16) (b : RxBatch) (s : State),
    Sparse.get (fun _ => none) s.net.batches ((if completion then 256 else 0) + 16 * ring.val + m.val) = some b → s.batchDue b = true →
    (completion = true → s.pcieUp = true) → ∃ t, exec (.hostBatchClose completion ring m) s = .next t ∧
      Sparse.get (fun _ => none) t.net.batches ((if completion then 256 else 0) + 16 * ring.val + m.val) = none ∧ t.obj = s.obj ∧
      t.sys = s.sys ∧ t.mem = s.mem) ∧
  (∀ (m : Fin 16) (q : Fin 8) (capture : Nat) (s : State), s.running = true →
    exec (.frameLaunch m q capture) s = .next (s.frameLaunch m q capture)) ∧
  (∀ (m : Fin 16) (q : Fin 8) (capture i : Nat) (f : TxFrame) (s : State), s.running = true → s.macUp m = true →
    s.nextOf m q (s.deviceTime capture + psUnits (s.o (Obj.npTxDelayPs m))) = some (i, f) →
    s.canStart m f (s.deviceTime capture + psUnits (s.o (Obj.npTxDelayPs m))) = true →
    (∀ k, k < 8 → q.val < k → s.nextOf m k (s.deviceTime capture + psUnits (s.o (Obj.npTxDelayPs m))) = none) →
    State.launchLate f (s.deviceTime capture + psUnits (s.o (Obj.npTxDelayPs m))) = false →
    s.exactPast m f (s.deviceTime capture + psUnits (s.o (Obj.npTxDelayPs m))) = false → s.boundGone f = false → s.mayLeave f = true →
    exec (.frameLaunch m q capture) s = .next (s.send m i (s.leaving f) (s.deviceTime capture + psUnits (s.o (Obj.npTxDelayPs m))))) ∧
  (∀ (ring : Fin 16) (desc frame : Octets) (s : State), exec (.hostTxDescriptor ring desc frame) s = .next (s.hostTx ring desc frame)) ∧
  (∀ (ring : Fin 16) (desc frame : Octets) (s : State), s.running = true → s.pcieUp = true → s.ringOn (ring / 8) .tx (ring % 8) = true →
    State.used (s.ringReg (ring / 8) .tx (ring % 8) 0x0C) (s.ringReg (ring / 8) .tx (ring % 8) 0x10) ≠ 0 →
    48 * (Sparse.get (fun _ => 0) s.net.outstanding ring + 1) ≤ s.txCplFree (ring / 8) (ring % 8) → octetAt desc 11 ≤ 5 → octetAt desc 10 ≤ 15 →
    60 ≤ fieldN desc 8 2 → fieldN desc 8 2 + 4 ≤ s.n (Obj.npMaxFrame (octetAt desc 10)) → s.macUp (octetAt desc 10) = true →
    bitOf (octetAt desc 24) 1 = false → ∃ t, exec (.hostTxDescriptor ring desc frame) s = .next t ∧
      Sparse.get (fun _ => 0) t.net.outstanding ring = Sparse.get (fun _ => 0) s.net.outstanding ring + 1 ∧
      (t.mac (octetAt desc 10)).queue.length = (s.mac (octetAt desc 10)).queue.length + 1 ∧
      t.obj = s.obj ∧ t.sys = s.sys ∧ t.mem = s.mem) ∧
  (∀ (m : Fin 16) (pos : Nat) (now : Int) (f : TxFrame) (s : State), (s.mac m).queue[pos]? = some f → State.launchLate f now = true →
    exec (.hostFrameLate m pos now) s = .next (s.lateDrop m pos f)) ∧
  (∀ (m : Fin 16) (pos : Nat) (now : Int) (f : TxFrame) (s : State), (s.mac m).queue[pos]? = some f → State.launchLate f now = true →
    ∃ t, exec (.hostFrameLate m pos now) s = .next t ∧ (t.mac m).queue = (s.mac m).queue.eraseIdx pos ∧
      t.o (Obj.npLaunchLateDrops m) = s.o (Obj.npLaunchLateDrops m) + 1 ∧ (∀ k, k ≠ Obj.npLaunchLateDrops m → t.o k = s.o k) ∧
      t.sys = s.sys ∧ t.mem = s.mem) ∧
  (∀ (m : Fin 16) (s : State), s.running = true → s.macUp m = true → s.flag (Obj.esmcEnable m) = true → s.index = 8 * m.val →
    exec (.esmcInfoPdu m) s = .next (s.esmcSend m false) ∧ ((s.esmcSend m false).mac m).esmcSent = some (s.ssmSent m) ∧
      ((s.esmcSend m false).mac m).queue.length = (s.mac m).queue.length + 1 ∧ (s.esmcSend m false).obj = s.obj ∧
      (s.esmcSend m false).mem = s.mem) ∧
  (∀ (m : Fin 16) (s : State), s.running = true → s.macUp m = true → s.n (Obj.esmcRxSsm m) ≠ 0xF0 →
    s.o (Obj.groveState (s.groveOf m .esmc {})) = 3 → (s.mac m).esmcRx + 40960 ≤ s.age →
    exec (.esmcRxExpire m) s = .next ((s.setN (Obj.esmcRxSsm m) 0xF0).inc (Obj.esmcRxExpired m))) ∧
  (∀ s : State, s.running = true → exec .heddleSweep s = .next s.sweepOne ∧ s.sweepOne.serv.sweep = (s.serv.sweep + 1) % 4194304 ∧
    s.sweepOne.obj = s.obj ∧ s.sweepOne.mem = s.mem)

/-- For an item before a Shuttle of its grove (s.item), in W2 of a grove that serves (an NTP or NTS item that was forwarded: also of one that is
READY, R58): NTP_REQUEST answers State.ntpRequest: an invalid request is only counted, one while TIMESCALE_SET is 0 only dropped, one that era
placement discards only counted (R75); an ALONE unit takes any other off the queue and, where the frame gets its place, the bound is below the ceiling
and the item was not copied out, counts a response and queues it (R292, R293). NTS_REQUEST answers State.ntsRequest (R294). PTP_DELAY_REQ and
PTP_PDELAY_REQ answer State.delayReq and State.pdelayReq; the two result clauses, for an instance without a key, say when the answer is queued and the
owed follow-up noted (R281). PTP_GRANT_REQUEST and PTP_GRANT_CANCEL of a Signaling message answer State.signaling, and the latter of another message
type counts it as unsupported (R283). PTP_GRANT_EXPIRE answers State.pruneLine; where every grant of the line has run out, the line is given up and
the session count falls by 1 (R285). ESMC_PDU_RECEIVE of an information PDU takes its SSM and its instant (R266). PTP_CLIENT_RX of an item for a
session answers State.clientRx, and of another Pdelay response State.pdelayRx (R281, R290). -/
def Obligations.RequestCommandsComplete : Prop :=
  (∀ (g : Fin 16) (n : Fin 8192) (now : Int) (f : RxFrame) (s : State), s.item g n = some f → s.servesItem g f = true → f.cls = .ntp →
    exec (.ntpRequest g n now) s = .next (s.ntpRequest g n f now)) ∧
  (∀ (g : Fin 16) (n : Fin 8192) (now : Int) (f : RxFrame) (s : State), s.item g n = some f → s.servesItem g f = true → f.cls = .ntp →
    ntpValid f.p.payload = false → exec (.ntpRequest g n now) s = .next ((s.itemDone g n).inc Obj.ntpMalformed)) ∧
  (∀ (g : Fin 16) (n : Fin 8192) (now : Int) (f : RxFrame) (s : State), s.item g n = some f → s.servesItem g f = true → f.cls = .ntp →
    ntpValid f.p.payload = true → s.flag Obj.timescaleSet = false → exec (.ntpRequest g n now) s = .next (s.itemDone g n)) ∧
  (∀ (g : Fin 16) (n : Fin 8192) (now : Int) (f : RxFrame) (s : State), s.item g n = some f → s.servesItem g f = true → f.cls = .ntp →
    ntpValid f.p.payload = true → s.flag Obj.timescaleSet = true → (s.itemDone g n).ntpPlaced f.p.payload = false →
    exec (.ntpRequest g n now) s = .next ((s.itemDone g n).inc Obj.timeInputMalformed)) ∧
  (∀ (g : Fin 16) (n : Fin 8192) (now : Int) (f : RxFrame) (s : State), s.item g n = some f → s.servesItem g f = true → f.cls = .ntp →
    ntpValid f.p.payload = true → s.flag Obj.timescaleSet = true → (s.itemDone g n).ntpPlaced f.p.payload = true → s.joined = false →
    ∃ t, exec (.ntpRequest g n now) s = .next t ∧
      (∀ x ∈ Sparse.get (fun _ => []) t.serv.items g, x.1 ≠ n.val) ∧ t.mem = s.mem ∧
      (∀ u d, (s.itemDone g n).exactReserve f.mac (max 64 (State.headLen (if f.p.ip = 4 then 1 else 2) f.p.tags.length + 52)) (now + 600 * nsUnits) now = (u, some d) →
        s.belowCeiling 1 (s.ntpBound f d (bitOf (s.n Obj.smearEnable) 0)).1 = true →
        bitOf (Sparse.get (fun _ => 0) s.serv.reed (g * 8192 + n)) 0 = false →
        t.o Obj.ntpResponses = s.o Obj.ntpResponses + 1 ∧ (t.mac f.mac).queue.length = (s.mac f.mac).queue.length + 1)) ∧
  (∀ (g : Fin 16) (n : Fin 8192) (now : Int) (f : RxFrame) (s : State), s.item g n = some f → s.servesItem g f = true → f.cls = .nts →
    exec (.ntsRequest g n now) s = .next (s.ntsRequest g n f now)) ∧
  (∀ (g : Fin 16) (n : Fin 8192) (now : Int) (f : RxFrame) (s : State), s.item g n = some f → s.serves g = true → f.cls = .ptpEvent →
    octetAt f.p.payload 0 % 16 = 1 → f.session = none → exec (.ptpDelayReq g n now) s = .next (s.delayReq g n f now)) ∧
  (∀ (g : Fin 16) (n : Fin 8192) (now : Int) (f : RxFrame) (i : Nat) (s : State), s.item g n = some f → s.serves g = true → f.cls = .ptpEvent →
    octetAt f.p.payload 0 % 16 = 1 → f.session = none → s.instOf f = some i → bitOf (s.inst i).flags 3 = false → (s.inst i).p2p = false →
    bitOf (fieldN f.p.payload 6 2) 10 = false → groupAddr f.p = true →
    s.belowCeiling 0 (boundSum [(s.coreOf [f.tick]).bound, 1, s.portTerm f.mac]) = true → ∃ t, exec (.ptpDelayReq g n now) s = .next t ∧
      (∀ x ∈ Sparse.get (fun _ => []) t.serv.items g, x.1 ≠ n.val) ∧ t.mem = s.mem ∧ t.o (Obj.ceilingDrops 0) = s.o (Obj.ceilingDrops 0) ∧
      (t.o (Obj.npExactRefused f.mac) = s.o (Obj.npExactRefused f.mac) →
        bitOf (Sparse.get (fun _ => 0) s.serv.reed (g * 8192 + n)) 0 = false → (t.mac f.mac).queue.length = (s.mac f.mac).queue.length + 1)) ∧
  (∀ (g : Fin 16) (n : Fin 8192) (now : Int) (f : RxFrame) (s : State), s.item g n = some f → s.serves g = true → f.cls = .ptpEvent →
    octetAt f.p.payload 0 % 16 = 2 → f.session = none → exec (.ptpPdelayReq g n now) s = .next (s.pdelayReq g n f now)) ∧
  (∀ (g : Fin 16) (n : Fin 8192) (now : Int) (f : RxFrame) (i : Nat) (s : State), s.item g n = some f → s.serves g = true → f.cls = .ptpEvent →
    octetAt f.p.payload 0 % 16 = 2 → f.session = none → s.instOf f = some i → bitOf (s.inst i).flags 3 = false → (s.inst i).p2p = true →
    bitOf (s.inst i).flags 0 = true → s.belowCeiling 0 (boundSum [(s.coreOf [f.tick]).bound, 1, s.portTerm f.mac]) = true →
    ∃ t, exec (.ptpPdelayReq g n now) s = .next t ∧ (∀ x ∈ Sparse.get (fun _ => []) t.serv.items g, x.1 ≠ n.val) ∧
      t.mem = s.mem ∧ t.sys = s.sys ∧ (∃ o ∈ t.serv.owed, o.key = 16 * i + f.mac + 256 * (8192 * g + n) ∧ o.tick = s.tick) ∧
      (bitOf (Sparse.get (fun _ => 0) s.serv.reed (g * 8192 + n)) 0 = false → (t.mac f.mac).queue.length = (s.mac f.mac).queue.length + 1)) ∧
  (∀ (g : Fin 16) (n : Fin 8192) (f : RxFrame) (s : State), s.item g n = some f → s.serves g = true → f.cls = .ptpGeneral →
    octetAt f.p.payload 0 % 16 = 12 → f.session = none → (tlvsOf f.p.payload).any (fun t => t.2.1 == 4) = true →
    exec (.ptpGrantRequest g n) s = .next (s.signaling g n f)) ∧
  (∀ (g : Fin 16) (n : Fin 8192) (f : RxFrame) (s : State), s.item g n = some f → s.serves g = true → f.cls = .ptpGeneral →
    octetAt f.p.payload 0 % 16 = 12 → f.session = none → (tlvsOf f.p.payload).any (fun t => t.2.1 == 6 || t.2.1 == 4) = true →
    exec (.ptpGrantCancel g n) s = .next (s.signaling g n f)) ∧
  (∀ (g : Fin 16) (n : Fin 8192) (f : RxFrame) (i : Nat) (s : State), s.item g n = some f → s.serves g = true → f.cls = .ptpGeneral →
    octetAt f.p.payload 0 % 16 ≠ 12 → octetAt f.p.payload 0 % 16 ≠ 10 → f.session = none → s.instOf f = some i →
    exec (.ptpGrantCancel g n) s = .next ((s.itemDone g n).inc (Obj.ptpUnsupported i))) ∧
  (∀ (line : Fin 262144) (s : State), s.running = true → exec (.ptpGrantExpire line) s = .next (s.pruneLine line false)) ∧
  (∀ (line : Fin 262144) (v : Session) (s : State), s.running = true → s.session line = some v →
    (∀ x, v.announce = some x → x.start + x.dur * 8192 < s.age) → (∀ x, v.sync = some x → x.start + x.dur * 8192 < s.age) →
    (∀ x, v.delay = some x → x.start + x.dur * 8192 < s.age) → (v.announce.isSome = true ∨ v.sync.isSome = true ∨ v.delay.isSome = true) →
    exec (.ptpGrantExpire line) s = .next ((s.commitSession v.grove line none).setN (Obj.ptpUnicastSessions v.inst)
      (s.n (Obj.ptpUnicastSessions v.inst) - 1))) ∧
  (∀ (g : Fin 16) (n : Fin 8192) (f : RxFrame) (s : State), s.item g n = some f → s.serves g = true → f.cls = .esmc →
    octets f.p.payload 1 3 = [0x00, 0x19, 0xA7] → fieldN f.p.payload 4 2 = 1 → octetAt f.p.payload 10 = 1 → fieldN f.p.payload 11 2 = 4 →
    exec (.esmcPduReceive g n) s = .next (((s.itemDone g n).setN (Obj.esmcRxSsm f.mac) (octetAt f.p.payload 13 % 16)).setMac f.mac
      { s.mac f.mac with esmcRx := s.age })) ∧
  (∀ (g : Fin 16) (n : Fin 8192) (f : RxFrame) (c : Nat) (s : State), s.item g n = some f → f.session = some c → s.works g = true →
    exec (.ptpClientRx g n) s = .next ((s.itemDone g n).clientRx c f)) ∧
  (∀ (g : Fin 16) (n : Fin 8192) (f : RxFrame) (s : State), s.item g n = some f → f.session = none → s.serves g = true →
    (f.cls = .ptpEvent ∧ octetAt f.p.payload 0 % 16 = 3 ∨ f.cls = .ptpGeneral ∧ octetAt f.p.payload 0 % 16 = 10) →
    exec (.ptpClientRx g n) s = .next ((s.itemDone g n).pdelayRx f))

/-- PTP_SYNC_DUE, PTP_FOLLOW_UP_DUE, PTP_ANNOUNCE_DUE and PTP_PDELAY_REQ_DUE answer State.syncDue, State.followUpDue, State.announceDue and
State.pdelayReqDue. At a due instant of a stream, in W2 of a grove that serves with its lane, the PTP service and the MAC up, Sync, Announce and
Pdelay_Req mark the instant done; a Sync at or over its ceiling is counted in the drops; an Announce or Pdelay_Req of an instance without a key, for
an item not copied out, and for Announce below its ceiling, queues one frame; a follow-up takes its departure (and its owed message) off, and below
the ceiling queues one frame (R279 to R282). A client session that may send: its Delay_Req when due, its requests in REQUESTING, a renewal at half of
a grant's duration, where the cap leaves room (R270, R289); BACKOFF ends after 60 s in REQUESTING; three Announce intervals without Announce, or a
grant that has run out, lead from ACTIVE to REQUESTING (R289, R291). -/
def Obligations.SentMessageCommandsComplete : Prop :=
  (∀ (x : PtpStream) (dup : Bool) (now : Int) (s : State), exec (.ptpSyncDue x dup now) s = .next (s.syncDue x dup now) ∧
    exec (.ptpFollowUpDue x) s = .next (s.followUpDue x) ∧ exec (.ptpAnnounceDue x) s = .next (s.announceDue x)) ∧
  (∀ (i m : Fin 16) (s : State), exec (.ptpPdelayReqDue i m) s = .next (s.pdelayReqDue i m)) ∧
  (∀ (x : PtpStream) (dup : Bool) (now : Int) (i m g per phase : Nat) (v : Option Session) (s : State),
    s.streamOf x false = some (i, m, g, v, per, phase) → s.serves g = true → s.laneUp g (State.streamKey x) = true → s.svcOn 0 = true →
    s.macUp m = true → (s.inst i).p2p = false → (State.gridNo s.sys.nextTime + per - phase % per) % per = 0 →
    s.doneDue x 0 (State.gridNo s.sys.nextTime) = false → ∃ t, exec (.ptpSyncDue x dup now) s = .next t ∧ t = s.syncDue x dup now ∧
      t.doneDue x 0 (State.gridNo s.sys.nextTime) = true ∧ t.mem = s.mem ∧
      (s.belowCeiling 0 (boundSum [(s.pairCore (s.coreOf [s.tick + 1])).bound, 1, s.portTerm m]) = false →
        t.o (Obj.ceilingDrops 0) = s.o (Obj.ceilingDrops 0) + 1)) ∧
  (∀ (x : PtpStream) (d : Departed) (i m g per phase : Nat) (v : Option Session) (s : State), (∀ i m, x ≠ .peer i m) →
    s.serv.departed.find? (fun d => d.kind == 0 && d.key == State.streamKey x) = some d →
    s.streamOf x false = some (i, m, g, v, per, phase) → s.serves g = true → s.laneUp g (State.streamKey x) = true → s.svcOn 0 = true →
    s.macUp m = true → ∃ t, exec (.ptpFollowUpDue x) s = .next t ∧ t = s.followUpDue x ∧ d ∉ t.serv.departed ∧ t.mem = s.mem ∧
      (s.belowCeiling 0 (boundSum [(s.pairCore (s.coreOf [d.tick])).bound, 1, s.portTerm m]) = true → bitOf (s.inst i).flags 3 = false →
        bitOf (Sparse.get (fun _ => 0) s.serv.reed (g * 8192 + Sparse.get (fun _ => 0) s.serv.nextItem g % 8192)) 0 = false →
        (t.mac m).queue.length = (s.mac m).queue.length + 1)) ∧
  (∀ (i m : Fin 16) (d : Departed) (o : OwedFollowUp) (s : State),
    ((s.serv.departed.filter fun d => d.kind == 1 && d.key % 256 == 16 * i.val + m.val).findSome? fun d =>
      (s.serv.owed.find? fun o => o.key == d.key && o.tick == d.tick).map fun o => (d, o)) = some (d, o) →
    s.serves i = true → s.laneUp i (State.streamKey (.peer i m)) = true → s.macUp m = true → ∃ t, exec (.ptpFollowUpDue (.peer i m)) s = .next t ∧
      t = s.followUpDue (.peer i m) ∧ d ∉ t.serv.departed ∧ o ∉ t.serv.owed ∧ t.mem = s.mem) ∧
  (∀ (x : PtpStream) (i m g per phase : Nat) (v : Option Session) (s : State),
    s.streamOf x true = some (i, m, g, v, per, phase) → s.serves g = true → s.laneUp g (State.streamKey x) = true → s.svcOn 0 = true →
    s.macUp m = true → (State.gridNo s.timeNow + per - phase % per) % per = 0 → s.doneDue x 11 (State.gridNo s.timeNow) = false →
    ∃ t, exec (.ptpAnnounceDue x) s = .next t ∧ t = s.announceDue x ∧ t.doneDue x 11 (State.gridNo s.timeNow) = true ∧ t.mem = s.mem ∧
      (s.belowCeiling 0 (s.pairCore (s.coreOf [s.tick])).bound = true → bitOf (s.inst i).flags 3 = false →
        bitOf (Sparse.get (fun _ => 0) s.serv.reed (g * 8192 + Sparse.get (fun _ => 0) s.serv.nextItem g % 8192)) 0 = false →
        (t.mac m).queue.length = (s.mac m).queue.length + 1)) ∧
  (∀ (i m : Fin 16) (s : State), s.serves i = true → s.laneUp i (State.streamKey (.peer i m)) = true → s.svcOn 0 = true → (s.inst i).p2p = true →
    bitOf (s.inst i).macs m = true → s.macUp m = true → State.gridNo s.timeNow % 8192 = 0 → s.doneDue (.peer i m) 2 (State.gridNo s.timeNow) = false →
    ∃ t, exec (.ptpPdelayReqDue i m) s = .next t ∧ t = s.pdelayReqDue i m ∧ t.doneDue (.peer i m) 2 (State.gridNo s.timeNow) = true ∧
      t.mem = s.mem ∧ (bitOf (s.inst i).flags 3 = false →
        bitOf (Sparse.get (fun _ => 0) s.serv.reed (i * 8192 + Sparse.get (fun _ => 0) s.serv.nextItem i % 8192)) 0 = false →
        (t.mac m).queue.length = (s.mac m).queue.length + 1)) ∧
  (∀ (c : Fin 24) (s : State), s.clientWorks c = true → s.delayReqDue c = true → s.clientRoom c true = true → (s.client c).sentDelay ≠ s.age + 1 →
    exec (.clientRequestDue c .delayReq) s = .next (s.clientDelayReq c)) ∧
  (∀ (c : Fin 24) (s : State), s.clientWorks c = true → s.cst c = 1 → (s.ccfg c).mode = 1 → s.clientRoom c false = true → (s.client c).sentSignal ≠ s.age + 1 →
    exec (.clientRequestDue c .signaling) s = .next ((s.setClient c { s.client c with sentSignal := s.age + 1 }).clientSignal c
      (State.requestTlv (s.ccfg c) .announce ++ (State.requestTlv (s.ccfg c) .sync ++ State.requestTlv (s.ccfg c) .delayResp)))) ∧
  (∀ (c : Fin 24) (t : GrantType) (x : Grant) (s : State), s.clientWorks c = true → s.clientRoom c false = true → s.cst c = 2 → (s.ccfg c).mode = 1 →
    x.start + x.dur * 4096 ≤ s.age → Sparse.get (fun _ => 0) (s.client c).sentRenewal t.code ≠ s.age + 1 →
    (t = .announce → (s.client c).announce = some x) → (t = .sync → (s.client c).sync = some x) →
    (t = .delayResp → (s.client c).delay = some x) → exec (.clientGrantRenew c t) s = .next (s.clientRenew c t)) ∧
  (∀ (c : Fin 24) (s : State), s.cst c = 3 → (s.client c).since + 491520 ≤ s.age →
    exec (.clientBackoffExpire c) s = .next (s.clientEnter c 1) ∧ (s.clientEnter c 1).cst c = 1 ∧ ((s.clientEnter c 1).client c).since = s.age ∧
      (∀ k, k ≠ Obj.ptpClientState c → (s.clientEnter c 1).o k = s.o k) ∧ (s.clientEnter c 1).mem = s.mem ∧
      (s.clientEnter c 1).sys = s.sys ∧ (s.clientEnter c 1).net = s.net) ∧
  (∀ (c : Fin 24) (s : State), s.cst c = 2 → (s.client c).lastAnnounce + 3 * State.period (s.client c).logAnnounce ≤ s.age →
    exec (.clientAnnounceTimeout c) s = .next (s.clientEnter c 1) ∧ (s.clientEnter c 1).cst c = 1 ∧
      ((s.clientEnter c 1).client c).since = s.age ∧ (∀ k, k ≠ Obj.ptpClientState c → (s.clientEnter c 1).o k = s.o k) ∧
      (s.clientEnter c 1).mem = s.mem ∧ (s.clientEnter c 1).sys = s.sys ∧ (s.clientEnter c 1).net = s.net) ∧
  (∀ (c : Fin 24) (x : Grant) (s : State), s.cst c = 2 → (s.ccfg c).mode = 1 → s.grantLive x = false →
    ((s.client c).announce = some x ∨ (s.client c).sync = some x ∨ (s.client c).delay = some x) →
    exec (.clientAnnounceTimeout c) s = .next (s.clientEnter c 1))

/-! ### The vault -/

/-- NTS_KEY_ROTATION answers State.keyRotation; NTS_ROTATE_NOW on port class H waits for its boundary (R60, R296). NTS_MINT_REQUEST that its carrier
takes answers State.mintJudge with the request in the channel, and on a mint channel of a running device with the right length it waits (R301, R302).
KEY_WRITE on port class H in a mode with ticks, the vault READY and the unit ALONE, answers State.keyWriteTake of a blob that is right, and counts
another as refused; on another class it changes nothing; KEY_WRITE_APPLY in W3 answers State.keyWritesApply (R308, R309). REMASK_REQUEST in WARMUP and
REPLAY waits for its boundary (R313). ENTROPY_HEALTH_FAIL of a device that is neither in RESET nor HALTED is counted and raises fault 0x0803; a
restart that passes ends the failure (R312). TAMPER_EVENT with PWR_OK high answers State.tamper: the tamper is latched, the fuse due, and a live
device whose fault records are not frozen halts; the fuse programmed with PWR_OK high adds 1 to TAMPER_COUNT up to 32 (R323, R324). -/
def Obligations.KeyCommandsComplete : Prop :=
  (∀ s : State, s.running = true → exec .ntsKeyRotation s = .next s.keyRotation) ∧
  (∀ s : State, s.running = true → s.sys.window ≠ .w3 → exec (.ntsRotateNow .hostH) s =
    .next { s with sys := { s.sys with due := s.sys.due ++ [⟨1, true, .rotateNow⟩] } }) ∧
  (∀ s : State, s.running = true → s.sys.window = .w3 → exec (.ntsRotateNow .hostH) s =
    .next { s with sys := { s.sys with due := s.sys.due ++ [⟨2, true, .rotateNow⟩] } }) ∧
  (∀ (m : MintMsg) (s : State), (State.chanOf m.src).isSome = true → (s.accept m.src).2 = true →
    exec (.ntsMintRequest m) s = .next (((s.accept m.src).1.placeRequest m.src (mintRequest m)).mintJudge m)) ∧
  (∀ (m : MintMsg) (k : Nat) (s u v : State), State.chanOf m.src = some k → s.accept m.src = (v, true) →
    v.placeRequest m.src (mintRequest m) = u → k < 8 → u.isMint k = true → u.running = true → lenAgrees m.src 80 = true →
    exec (.ntsMintRequest m) s = .next { u with vault := { u.vault with mints := u.vault.mints ++ [m] } }) ∧
  (∀ (blob : Octets) (s : State), s.running = true → s.o Obj.vaultState = 2 → s.joined = false → keyWriteOk blob = true →
    exec (.keyWrite .hostH blob) s = .next (s.keyWriteTake blob)) ∧
  (∀ (blob : Octets) (s : State), s.running = true → s.o Obj.vaultState = 2 → s.joined = false → keyWriteOk blob = false →
    exec (.keyWrite .hostH blob) s = .next (s.inc Obj.keyWriteRefused)) ∧
  (∀ (cls : PortClass) (blob : Octets) (s : State), cls ≠ .hostH → exec (.keyWrite cls blob) s = .next s) ∧
  (∀ s : State, s.running = true → s.sys.window = .w3 → exec .keyWriteApply s = .next s.keyWritesApply) ∧
  (∀ s : State, (s.mode = mWarmup ∨ s.mode = mReplay) → s.sys.window ≠ .w3 → exec (.remaskRequest .hostH) s =
    .next { s with sys := { s.sys with due := s.sys.due ++ [⟨1, false, .remask⟩] } }) ∧
  (∀ s : State, (s.mode = mWarmup ∨ s.mode = mReplay) → s.sys.window = .w3 → exec (.remaskRequest .hostH) s =
    .next { s with sys := { s.sys with due := s.sys.due ++ [⟨2, false, .remask⟩] } }) ∧
  (∀ s : State, s.alive = true → exec .entropyHealthFail s =
    .next (State.faulted (State.inc { s with vault := { s.vault with entropyFailed := true } } Obj.entropyFails) 0x0803 0 0)) ∧
  (∀ s : State, exec .entropyRestartPass s = .next { s with vault := { s.vault with entropyFailed := false } }) ∧
  (∀ s : State, s.sys.pwrOk = true → exec .tamperEvent s = .next s.tamper) ∧
  (∀ s : State, s.sys.pwrOk = true → s.alive = true → s.fault.frozen = false → s.fault.context = none →
    ∃ t, exec .tamperEvent s = .next t ∧ t.mode = mHalted ∧ t.vault.tampered = true ∧ t.vault.fuseDue = true) ∧
  (∀ s : State, s.sys.pwrOk = true → s.alive = false → ∃ t, exec .tamperEvent s = .next t ∧ t.mode = s.mode ∧
    t.vault.tampered = true ∧ t.vault.fuseDue = true ∧ t.mem = s.mem) ∧
  (∀ s : State, s.vault.fuseDue = true → s.sys.pwrOk = true → exec .tamperFuseProgrammed s =
    .next { s.setN Obj.tamperCount (min 32 (s.n Obj.tamperCount + 1)) with vault := { s.vault with fuseDue := false } })

/-- Each of the nine vault operations that its carrier takes answers State.vaultJudge with the request in the channel (R316, R317); on a channel
without minting, of a class that the operation allows, with the vault READY, its body and length right, fewer than 256 waiting, in a mode with ticks,
it waits at the end of the queue (R318). In W3 with the engine free and the vault READY, PK_ENGINE_START answers State.startEngine (R318, R325);
PK_ENGINE_COMPLETE notes the job in the engine as done (R325). -/
def Obligations.VaultOperationsComplete : Prop :=
  (∀ (m : VaultMsg) (s : State), (s.accept m.src).2 = true →
    exec (.pkSign m) s = .next (((s.accept m.src).1.placeRequest m.src (vaultRequest .sign m)).vaultJudge .sign m) ∧
    exec (.pkVerify m) s = .next (((s.accept m.src).1.placeRequest m.src (vaultRequest .verify m)).vaultJudge .verify m) ∧
    exec (.pkEcdh m) s = .next (((s.accept m.src).1.placeRequest m.src (vaultRequest .ecdh m)).vaultJudge .ecdh m) ∧
    exec (.generate m) s = .next (((s.accept m.src).1.placeRequest m.src (vaultRequest .generate m)).vaultJudge .generate m) ∧
    exec (.derive m) s = .next (((s.accept m.src).1.placeRequest m.src (vaultRequest .derive m)).vaultJudge .derive m) ∧
    exec (.proof m) s = .next (((s.accept m.src).1.placeRequest m.src (vaultRequest .proof m)).vaultJudge .proof m) ∧
    exec (.chalIssue m) s = .next (((s.accept m.src).1.placeRequest m.src (vaultRequest .chalIssue m)).vaultJudge .chalIssue m) ∧
    exec (.chalRespond m) s = .next (((s.accept m.src).1.placeRequest m.src (vaultRequest .chalRespond m)).vaultJudge .chalRespond m) ∧
    exec (.attest m) s = .next (((s.accept m.src).1.placeRequest m.src (vaultRequest .attest m)).vaultJudge .attest m)) ∧
  (∀ (op : VaultOp) (m : VaultMsg) (s u v : State), s.accept m.src = (v, true) →
    v.placeRequest m.src (vaultRequest op m) = u → u.running = true →
    (∀ k, State.chanOf m.src = some k → u.isMint k = false) → m.src.carrier.cls ∈ opClasses op → u.o Obj.vaultState = 2 →
    State.bodyOk op m = true → lenAgrees m.src (16 + m.body.length) = true → u.vault.queue.length < 256 → ∀ c : Instr,
    (op = .sign ∧ c = .pkSign m ∨ op = .verify ∧ c = .pkVerify m ∨ op = .ecdh ∧ c = .pkEcdh m ∨ op = .generate ∧ c = .generate m ∨
      op = .derive ∧ c = .derive m ∨ op = .proof ∧ c = .proof m ∨ op = .chalIssue ∧ c = .chalIssue m ∨
      op = .chalRespond ∧ c = .chalRespond m ∨ op = .attest ∧ c = .attest m) →
    exec c s = .next { u with vault := { u.vault with queue := u.vault.queue ++ [(op, m)] } }) ∧
  (∀ s : State, s.sys.window = .w3 → s.vault.engine = none → s.o Obj.vaultState = 2 →
    exec .pkEngineStart s = .next (State.startEngine (s.vault.queue.length + 1) s)) ∧
  (∀ (j : PkJob) (s : State), s.vault.engine = some j → exec .pkEngineComplete s =
    .next { s with vault := { s.vault with engine := some { j with done := true } } })

/-! ### The host -/

/-- DICT_READ, DICT_WRITE and DICT_DESCRIBE answer State.dictArrive: a message that its carrier takes stands in the channel and, outside BOOT and
before W3, waits in the host's queue; in BOOT, once the images are loaded, it is served at once; in W3 in time with nothing waiting before it and time
left, it is served and its immediate writes apply (R334, R336). DICT_BATCH_APPLY in W3 answers State.boundaryBatches (R333, R402). MBX_UNKNOWN_OP of
an operation that the channel does not serve, with the link up in a mode with ticks, ends with the channel idle again and its sequence number
acknowledged, and on a channel that is not idle counts an overrun (R348). -/
def Obligations.DictionaryCommandsComplete : Prop :=
  (∀ (m : DictMsg) (s : State), exec (.dictRead m) s = .next (s.dictArrive m) ∧ exec (.dictWrite m) s = .next (s.dictArrive m) ∧
    exec (.dictDescribe m) s = .next (s.dictArrive m)) ∧
  (∀ (k : Fin 16) (seq op : Fin 65536) (s : State), opServed (s.isMint k) op = false →
    exec (.mbxUnknownOp k seq op) s = .next (s.unknownOp k seq op)) ∧
  (∀ (m : DictMsg) (s u : State), (s.accept m.src).2 = true → (s.accept m.src).1.placeRequest m.src (State.requestOctets m) = u →
    u.mode ≠ mBoot → u.sys.window ≠ .w3 →
    ∀ c : Instr, (c = .dictRead m ∨ c = .dictWrite m ∨ c = .dictDescribe m) →
      exec c s = .next { u with host := { u.host with waiting := u.host.waiting ++ [m] } }) ∧
  (∀ (m : DictMsg) (s u : State), (s.accept m.src).2 = true → (s.accept m.src).1.placeRequest m.src (State.requestOctets m) = u →
    u.mode = mBoot → u.power.loaded = true →
    ∀ c : Instr, (c = .dictRead m ∨ c = .dictWrite m ∨ c = .dictDescribe m) → exec c s = .next (u.serveMsg m)) ∧
  (∀ (m : DictMsg) (s u : State), (s.accept m.src).2 = true → (s.accept m.src).1.placeRequest m.src (State.requestOctets m) = u →
    u.running = true → u.sys.window = .w3 → m.src.late = false → u.host.waiting = [] → u.canServe m = true → ∀ c : Instr, (c = .dictRead m ∨ c = .dictWrite m ∨ c = .dictDescribe m) →
      exec c s = .next (((u.servedOne m).serveMsg m).applyImmediate false)) ∧
  (∀ (bad : Bool) (s : State), s.running = true → s.sys.window = .w3 → exec (.dictBatchApply bad) s = .next (s.boundaryBatches bad)) ∧
  (∀ (k : Fin 16) (seq op : Fin 65536) (s : State), opServed (s.isMint k) op = false → s.pcieUp = true → (s.chan_ k).phase = .idle →
    s.running = true → ∃ t, exec (.mbxUnknownOp k seq op) s = .next t ∧ (t.chan_ k).phase = .idle ∧ (t.chan_ k).done = true ∧
      (t.chan_ k).ackSeq = seq.val ∧ t.mem = s.mem ∧ t.sys = s.sys) ∧
  (∀ (k : Fin 16) (seq op : Fin 65536) (s : State), opServed (s.isMint k) op = false → s.pcieUp = true → (s.chan_ k).phase ≠ .idle →
    ∃ t, exec (.mbxUnknownOp k seq op) s = .next t ∧ (t.chan_ k).overrun = true ∧
      t.o (Obj.mbxOverruns k) = s.o (Obj.mbxOverruns k) + 1 ∧ t.mem = s.mem ∧ t.sys = s.sys)

/-- With the management port on, an untagged datagram for an address of the port: a fragment is counted as malformed; one to UDP port 47300 from an
address that is not allowed is counted as rejected; one from an allowed address with the right prefix and an operation that the port takes, whose
transaction is not in the cache, with room there, gets an entry and is counted (R339, R340). MGMT_CACHE_EXPIRY takes out the entries whose reply left
8 s ago or more (R341). MGMT_ARP_ND for the port's own address, not 0, is answered (R339). -/
def Obligations.ManagementCommandsComplete : Prop :=
  (∀ (d : MgmtDatagram) (s : State), s.mgmtOn = true → d.tagged = false → s.mgmtAddress d.dst = true → d.fragment = true →
    exec (.mgmtRequestReceive d) s = .next (s.expireCache.inc Obj.mgmtMalformed)) ∧
  (∀ (d : MgmtDatagram) (s : State), s.mgmtOn = true → d.tagged = false → s.mgmtAddress d.dst = true → d.fragment = false → d.dstPort = 47300 →
    s.allowed d.addr = false → exec (.mgmtRequestReceive d) s = .next (s.expireCache.inc Obj.mgmtRejectedSrc)) ∧
  (∀ (d : MgmtDatagram) (s : State), s.mgmtOn = true → d.tagged = false → s.mgmtAddress d.dst = true → d.fragment = false → d.dstPort = 47300 → s.allowed d.addr = true →
    d.magic = 0x4F44 → d.version = 1 → d.complete = true → (d.op = 1 ∨ (0x0206 ≤ d.op ∧ d.op ≤ 0x0209)) →
    (∀ e ∈ s.expireCache.host.cache, ¬(e.addr = d.addr ∧ e.port = d.port ∧ e.transaction = d.transaction)) →
    s.expireCache.host.cache.length < 4096 → exec (.mgmtRequestReceive d) s = .next (State.inc { s with host := { s.host with
      cache := s.expireCache.host.cache ++ [⟨d.addr, d.port, d.transaction, none, []⟩] } } Obj.mgmtRequests)) ∧
  (∀ s : State, exec .mgmtCacheExpiry s = .next { s with host := { s.host with
    cache := s.host.cache.filter fun e => match e.sent with | some t => !decide (t + 65536 ≤ s.age) | none => true } }) ∧
  (∀ (target : Octets) (s : State), s.mgmtOn = true → target.length = 4 → target = octets (s.blob Obj.mgmtIpv4) 0 4 → target ≠ zeros 4 →
    exec (.mgmtArpNd target) s = .next { s with host := { s.host with arpAnswered := some target } }) ∧
  (∀ (target : Octets) (s : State), s.mgmtOn = true → target.length = 16 → target = octets (s.blob Obj.mgmtIpv6) 0 16 → target ≠ zeros 16 →
    exec (.mgmtArpNd target) s = .next { s with host := { s.host with arpAnswered := some target } })

/-- PCIE_LINK_UP outside RESET, after the fill, with its clock present, at a rate and one of the four widths, sets PCIE_LINK and lets the completions
held go; PCIE_LINK_DOWN of a link that is up sets it to 0 and counts (R344). With the link up: PCIE_FLR counts, stops every ring of the function,
marks its busy channels for reset and empties its notices; CHAN_RESET of a busy channel marks it (R347, R349). D2H_ACK of the notice shown takes it
off; D2H_NOTICE_DELIVER with none shown shows the next one of the channel with the function's lost count, its octets in the channel's buffer, and
raises its vector unless masked (R350). RING_ENABLE starts the ring with its pointers at 0; RING_CONSUMER_WRITE sets a host pointer; TICK_LO_READ
latches the high half of the tick count (R346, R351, R352). COUNTER_DUMP at its tick answers State.counterDump, which changes no object (R354).
REGISTER_WRITE answers State.registerWrite; of an MSI-X table word, the word and the vector it unmasks (R346). -/
def Obligations.PcieCommandsComplete : Prop :=
  (∀ (rate : Fin 6) (width : Fin 16) (s : State), s.mode ≠ mReset → s.power.filled = true → rate.val ≠ 0 →
    (width.val = 1 ∨ width.val = 2 ∨ width.val = 4 ∨ width.val = 8) → bitOf (s.n Obj.cdStatus) 35 = true →
    exec (.pcieLinkUp rate width) s = .next (s.setN Obj.pcieLink (rate.val + 16 * width.val)).postHeld) ∧
  (∀ (rate : Fin 6) (width : Fin 16) (s : State), s.mode ≠ mReset → s.power.filled = true → rate.val ≠ 0 →
    (width.val = 1 ∨ width.val = 2 ∨ width.val = 4 ∨ width.val = 8) → bitOf (s.n Obj.cdStatus) 35 = true →
    (∀ k, k < 16 → (s.chan_ k).held = none) →
    exec (.pcieLinkUp rate width) s = .next (s.setN Obj.pcieLink (rate.val + 16 * width.val))) ∧
  (∀ s : State, s.pcieUp = true → exec .pcieLinkDown s = .next ((s.setN Obj.pcieLink 0).inc Obj.pcieLinkDowns)) ∧
  (∀ (fn : Fin 2) (s : State), s.pcieUp = true → exec (.pcieFlr fn) s = .next (s.functionReset fn)) ∧
  (∀ (fn : Fin 2) (s : State), s.pcieUp = true → ∃ t, exec (.pcieFlr fn) s = .next t ∧ fn.val ∉ t.host.stopped ∧
    t.o Obj.pcieFlrs = s.o Obj.pcieFlrs + 1 ∧ (∀ k, k ≠ Obj.pcieFlrs → (∀ c, c < 16 → k ≠ Obj.mbxState c) → t.o k = s.o k) ∧
    (∀ r, r < 8 → t.ringOn fn .rx r = false ∧ t.ringOn fn .tx r = false) ∧ t.ringOn fn .dump 0 = false ∧ t.ringOn fn .stamp 0 = false ∧
    (∀ k, k < 8 → ((s.chan_ (8 * fn + k)).phase ≠ .idle → (t.chan_ (8 * fn + k)).resetDue = true) ∧ (t.notices (8 * fn + k)).out = none ∧
      (t.notices (8 * fn + k)).queued = []) ∧
    t.mem = s.mem ∧ t.sys = s.sys) ∧
  (∀ (k : Fin 16) (s : State), s.pcieUp = true → (s.chan_ k).phase ≠ .idle →
    exec (.chanReset k) s = .next (s.setChan_ k { s.chan_ k with resetDue := true })) ∧
  (∀ (k : Fin 16) (seq : Fin 65536) (x : Nat × Notice) (s : State), s.pcieUp = true → (s.notices k).out = some (seq.val, x) →
    exec (.d2hAck k seq) s = .next (s.setNotices k { s.notices k with out := none })) ∧
  (∀ (k : Fin 16) (s : State), s.pcieUp = true → s.alive = true → exec (.d2hNoticeDeliver k) s = .next (s.deliverNotice k)) ∧
  (∀ (k : Fin 16) (x : Notice) (rest : List Notice) (s : State), s.pcieUp = true → s.alive = true → (s.notices k).out = none →
    (s.notices k).queued = x :: rest → ∃ t, exec (.d2hNoticeDeliver k) s = .next t ∧
      t.notices k = { out := some ((s.notices k).nextSeq, Sparse.get (fun _ => 0) s.host.noticeLost (k.val / 8), x), queued := rest,
                      nextSeq := ((s.notices k).nextSeq + 1) % 65536 } ∧
      (t.chan_ k).notice = x.octets (Sparse.get (fun _ => 0) s.host.noticeLost (k.val / 8)) ∧
      Sparse.get (fun _ => 0) t.host.noticeLost (k.val / 8) = 0 ∧
      (bitOf (s.reg (k.val / 8) (0x400C + 16 * (8 + k.val % 8))) 0 = false →
        t.host.vectors = s.host.vectors ++ [(k.val / 8) * 64 + (8 + k.val % 8)]) ∧ t.obj = s.obj ∧ t.mem = s.mem) ∧
  (∀ (fn : Fin 2) (kind : RingKind) (ring : Fin 8) (vectorEn : Bool) (s : State), s.pcieUp = true → s.ringOn fn kind ring = false →
    fn.val ∉ s.host.stopped → exec (.ringEnable fn kind ring vectorEn) s = .next (s.ringStart fn kind ring vectorEn)) ∧
  (∀ (fn : Fin 2) (kind : RingKind) (ring : Fin 8) (vectorEn : Bool) (s : State), s.pcieUp = true → s.ringOn fn kind ring = false →
    fn.val ∉ s.host.stopped → ∃ t, exec (.ringEnable fn kind ring vectorEn) s = .next t ∧ t.ringOn fn kind ring = true ∧
      (∀ o ∈ kind.pointers, o ≠ kind.control → t.ringReg fn kind ring o = 0) ∧ t.obj = s.obj ∧ t.mem = s.mem ∧ t.sys = s.sys) ∧
  (∀ (fn : Fin 2) (kind : RingKind) (ring : Fin 8) (off value : Nat) (s : State), s.pcieUp = true → off ∈ kind.hostPointers →
    exec (.ringConsumerWrite fn kind ring off value) s = .next (s.setRingReg fn kind ring off value)) ∧
  (∀ (fn : Fin 2) (s : State), s.pcieUp = true → exec (.tickLoRead fn) s = .next { s with
    host := { s.host with tickHi := Sparse.put (fun _ => 0) s.host.tickHi fn (s.tick / 2 ^ 32 % 2 ^ 32) } }) ∧
  (∀ (fn : Fin 2) (s : State), s.running = true → s.pcieUp = true → s.ringOn fn .dump 0 = true → s.tick % max 64 (s.reg fn 0x300C) = 0 →
    exec (.counterDump fn) s = .next (s.counterDump fn) ∧ (bitOf (s.reg fn (0x400C + 16 * 32)) 0 = false →
        (s.counterDump fn).host.vectors = s.host.vectors ++ [fn.val * 64 + 32]) ∧
      Sparse.get (fun _ => 0) (s.counterDump fn).host.dumpLost fn = 0 ∧ (s.counterDump fn).obj = s.obj ∧ (s.counterDump fn).mem = s.mem ∧
      (s.counterDump fn).sys = s.sys) ∧
  (∀ (fn : Fin 2) (off : Fin 65536) (value : Fin 4294967296) (s : State), s.pcieUp = true →
    exec (.registerWrite fn off value) s = .next (s.registerWrite fn off value)) ∧
  (∀ (fn : Fin 2) (off : Fin 65536) (value : Fin 4294967296) (s : State), s.pcieUp = true → 0x4000 ≤ off.val → off.val < 0x4400 →
    exec (.registerWrite fn off value) s = .next ((s.setReg fn off value).unmask fn ((off.val - 0x4000) / 16)))

/-! ### Memory, engines and groves -/

/-- MEM_WRITE_BACK stores a corrected word where the bank's remap table puts it and nowhere else (R373, R374); MEM_REREAD takes the word off the list,
and a word still in error is noted for a remap (R374); a scrub read goes on by one word, and a pass that is late is counted once (R376). -/
def Obligations.MemoryCommandsComplete : Prop :=
  (∀ (bank : Fin 21) (word : Nat) (value : Fin 18446744073709551616) (s : State), word < bankWords bank.val →
    (bank.val, word) ∈ s.shuttle.writeBacks → ∃ t, exec (.memWriteBack bank word value) s = .next t ∧
      (∀ i, i < 8 → t.readByte (s.wordAddr bank word + i) = ((toBE 8 value.val).getD i 0)) ∧
      (∀ a, a < s.wordAddr bank word ∨ s.wordAddr bank word + 8 ≤ a → t.readByte a = s.readByte a) ∧
      t.shuttle.writeBacks = s.shuttle.writeBacks.erase (bank.val, word) ∧ (bank.val, word) ∈ t.shuttle.rereads ∧
      t.obj = s.obj ∧ t.blobs = s.blobs ∧ t.sys = s.sys) ∧
  (∀ (bank : Fin 21) (word : Nat) (still : Bool) (s : State), word < bankWords bank.val → (bank.val, word) ∈ s.shuttle.rereads →
    ∃ t, exec (.memReread bank word still) s = .next t ∧ t.shuttle.rereads = s.shuttle.rereads.erase (bank.val, word) ∧
      (still = true → (bank.val, word) ∈ t.shuttle.hard) ∧ (still = false → t.shuttle.hard = s.shuttle.hard) ∧
      (∀ a, t.readByte a = s.readByte a) ∧ t.obj = s.obj ∧ t.sys = s.sys) ∧
  (∀ (bank : Fin 21) (s : State), s.alive = true → s.o (Obj.memRetention bank) = 0 → s.fault.context = none →
    s.injAims 0x01 bank (some (Sparse.get (fun _ => 0) s.shuttle.scrubAt bank)) = none →
    ∃ t, exec (.scrubRead bank .none) s = .next t ∧
      Sparse.get (fun _ => 0) t.shuttle.scrubAt bank =
        (if bankWords bank.val ≤ Sparse.get (fun _ => 0) s.shuttle.scrubAt bank + 1 then 0 else Sparse.get (fun _ => 0) s.shuttle.scrubAt bank + 1) ∧
      (∀ a, t.readByte a = s.readByte a) ∧ t.sys = s.sys) ∧
  (∀ (bank : Fin 21) (found : MemError) (s : State), s.alive = true → exec (.scrubRead bank found) s = .next (s.scrubRead bank found)) ∧
  (∀ (bank : Fin 21) (s : State), Sparse.get (fun _ => 0) s.shuttle.scrubAt bank ≠ 0 →
    Sparse.get (fun _ => 0) s.shuttle.scrubStart bank + 2 ^ s.n Obj.scrubPassLog2 + Sparse.get (fun _ => 0) s.shuttle.scrubPaused bank ≤ s.age →
    bank.val ∉ s.shuttle.scrubLate → exec (.scrubPassLate bank) s =
      .next (State.inc { s with shuttle := { s.shuttle with scrubLate := s.shuttle.scrubLate ++ [bank.val] } } (Obj.memScrubLate bank)))

/-- When two processor ports write one word of a bank in one MEM cycle and no write-back waits for its sub-bank, the lowest-numbered port's data is
stored, the response of the other carries COLLISION, and MEM_COLLISIONS of the bank counts it (R370, R371; the firmware range of a grove bank is
written by no port, R369). -/
def Obligations.MergedWrites : Prop :=
  ∀ (s : State) (b : Fin 21) (sub : Fin 32) (w p q u v : Nat), w < bankWords b.val → w % subBanks b.val = sub.val → p < q →
    q < procPorts b.val → (b.val < 16 → 0x20000 ≤ w) → (∀ x ∈ s.shuttle.writeBacks, x.1 = b.val → x.2 % subBanks b.val ≠ sub.val) →
    v < 2 ^ 64 →
    let t := State.memCycle s ⟨b, sub, [⟨q, w, some u⟩, ⟨p, w, some v⟩]⟩
    t.readWord b.val w = v ∧ t.o (Obj.memCollisions b.val) = s.o (Obj.memCollisions b.val) + 1 ∧
      t.shuttle.responses = s.shuttle.responses ++ [⟨b.val, q, w, 0, true⟩, ⟨b.val, p, w, 0, false⟩]

/-- The session directory serves the requests for a line in the order of R380, and a line put back by its owner is UNCACHED (R379, R380). -/
def Obligations.DirectoryCommandsComplete : Prop :=
  (∀ (line : Fin 262144) (g : Fin 16) (others : List DirReq) (s : State),
    exec (.dirGets line g others) s = .next (s.dirServe line (.getS g :: others))) ∧
  (∀ (line : Fin 262144) (g : Fin 16) (others : List DirReq) (s : State),
    exec (.dirGetm line g others) s = .next (s.dirServe line (.getM g :: others))) ∧
  (∀ (line : Fin 262144) (g : Fin 16) (s : State), s.dirOf line = .uncached → (∀ x ∈ s.cacheSet g line, x.1 ≠ line.val) →
    ∃ t, exec (.dirGets line g []) s = .next t ∧ t.dirOf line = .shared [g.val] ∧ t.o (Obj.cacheMisses g) = (s.n (Obj.cacheMisses g) + 1) % 2 ^ 48 ∧
      (∀ k, k ≠ Obj.cacheMisses g → t.o k = s.o k) ∧ t.mem = s.mem ∧ t.sys = s.sys) ∧
  (∀ (line : Fin 262144) (g : Fin 16) (s : State), s.dirOf line = .uncached →
    ∃ t, exec (.dirGetm line g []) s = .next t ∧ t.dirOf line = .owned g.val ∧ t.o (Obj.cacheMisses g) = (s.n (Obj.cacheMisses g) + 1) % 2 ^ 48 ∧
      (∀ k, k ≠ Obj.cacheMisses g → t.o k = s.o k) ∧ t.mem = s.mem ∧ t.sys = s.sys) ∧
  (∀ (line : Fin 262144) (g : Fin 16) (s : State), exec (.dirPutm line g) s = .next (s.putLine g line)) ∧
  (∀ (line : Fin 262144) (g : Fin 16) (s : State), s.dirOf line = .owned g → ∃ t, exec (.dirPutm line g) s = .next t ∧
    t.dirOf line = .uncached ∧ t.obj = s.obj ∧ t.mem = s.mem ∧ t.sys = s.sys) ∧
  (∀ (line : Fin 262144) (g : Fin 16) (s : State), (∀ h, s.dirOf line = .owned h → h ≠ g.val) → exec (.dirPutm line g) s = .next s)

/-- In WARMUP at tick 64 × k grove Gk, OFF, starts (R56). ENGINE_SELFTEST_COMPLETE of a grove STARTING answers State.selftested; with an engine and an
AES lane passed, the lanes are as tested, the engines that failed are out and those that passed wait for the grove to be READY (R360). GROVE_RAMP_SLOT
of a READY grove whose slot has come, with service allowed: SERVING (R57). GROVE_RETRY_EXPIRE of a grove OUT, after its retry time, with retries left,
the earlier groves in and 64 ticks after the last start: the grove starts and the retry is counted (R393). ENGINE_FAIL and ENGINE_WATCHDOG_EXPIRE of
an engine named there raise fault 0x0901 and answer State.engineOut (R361, R366); TAKEOVER_LOAD_COMPLETE of a takeover in progress sets the spare's
state to 2 and ends it (R367). AES_JOB in W2 for an engine in state 2 that finds a lane books the lane for its cost (R368). -/
def Obligations.GroveCommandsComplete : Prop :=
  (∀ (g : Fin 16) (s : State), s.mode = mWarmup → s.age = 64 * g.val → s.o (Obj.groveState g) = 0 →
    exec (.groveStart g) s = .next (s.groveStarting g) ∧ (s.groveStarting g).o (Obj.groveState g) = 1 ∧
      (s.groveStarting g).fault.lastStart = some s.age ∧ (s.groveStarting g).sys = s.sys ∧ (s.groveStarting g).mem = s.mem) ∧
  (∀ (g : Fin 16) (passed : List (Fin 17)) (aes : Fin 4) (s : State), s.o (Obj.groveState g) = 1 →
    exec (.engineSelftestComplete g passed aes) s = .next (s.selftested g passed aes)) ∧
  (∀ (g : Fin 16) (passed : List (Fin 17)) (aes : Fin 4) (s : State), s.o (Obj.groveState g) = 1 → passed ≠ [] → aes.val ≠ 0 →
    ∃ t, exec (.engineSelftestComplete g passed aes) s = .next t ∧ t.o (Obj.aesLaneState g) = aes.val ∧ t.o (Obj.groveState g) = 1 ∧
      (∀ e, e < 17 → (∀ p ∈ passed, p.val ≠ e) → t.o (Obj.engineState g e) = 5) ∧
      (∃ l, (g.val, l) ∈ t.shuttle.ready ∧ ∀ e, e ∈ l ↔ e < 17 ∧ ∃ p ∈ passed, p.val = e) ∧ t.sys = s.sys ∧ t.mem = s.mem) ∧
  (∀ (g : Fin 16) (s : State), Sparse.get (fun _ => none) s.sys.rampWait g.val = some 0 → s.flag Obj.serviceAllowed = true →
    s.o (Obj.groveState g) = 2 → exec (.groveRampSlot g) s = .next (State.setO { s with
      sys := { s.sys with rampWait := Sparse.put (fun _ => none) s.sys.rampWait g.val none } } (Obj.groveState g) 3)) ∧
  (∀ (g : Fin 16) (a : Nat) (s : State), 2 ≤ s.mode → s.mode ≤ 5 → (∀ b, s.fault.lastStart = some b → b + 64 ≤ s.age) →
    s.o (Obj.groveState g) = 4 → g.val ∉ s.fault.firmwareOut → s.n (Obj.groveRetries g) < s.n Obj.groveRetryMax →
    Sparse.get (fun _ => none) s.fault.outSince g.val = some a → a + 8192 * s.n Obj.groveRetryS ≤ s.age →
    (∀ k, k < g.val → s.o (Obj.groveState k) ≠ 4) → exec (.groveRetryExpire g) s = .next ((s.inc (Obj.groveRetries g)).groveStarting g) ∧
      ((s.inc (Obj.groveRetries g)).groveStarting g).o (Obj.groveState g) = 1 ∧
      ((s.inc (Obj.groveRetries g)).groveStarting g).o (Obj.groveRetries g) = s.o (Obj.groveRetries g) + 1 ∧
      ((s.inc (Obj.groveRetries g)).groveStarting g).fault.lastStart = some s.age ∧
      ((s.inc (Obj.groveRetries g)).groveStarting g).sys = s.sys ∧ ((s.inc (Obj.groveRetries g)).groveStarting g).mem = s.mem) ∧
  (∀ (g : Fin 16) (e : Fin 17) (s : State), (s.eng g e = 2 ∨ s.eng g e = 3 ∨ s.eng g e = 4) →
    exec (.engineFail g e) s = .next ((s.faulted 0x0901 (17 * g + e) 0).engineOut g e)) ∧
  (∀ (g : Fin 16) (e : Fin 17) (s : State), s.eng g e = 2 → s.laneItems g (s.n (Obj.engineLane g e)) ≠ [] →
    exec (.engineWatchdogExpire g e) s = .next ((s.faulted 0x0901 (17 * g + e) 0).engineOut g e)) ∧
  (∀ (g : Fin 16) (s : State), exec (.takeoverLoadComplete g) s = .next (s.takeoverDone g)) ∧
  (∀ (g : Fin 16) (x : Takeover) (s : State), Sparse.get (fun _ => none) s.shuttle.takeovers g.val = some x →
    ∃ t, exec (.takeoverLoadComplete g) s = .next t ∧ t.o (Obj.engineState g x.spare) = 2 ∧
      Sparse.get (fun _ => none) t.shuttle.takeovers g.val = none ∧ t.sys = s.sys ∧ t.mem = s.mem) ∧
  (∀ (g : Fin 16) (e : Fin 17) (cycle : Nat) (nts : Bool) (l start : Nat) (s : State), s.sys.window = .w2 → s.eng g e = 2 →
    s.aesPick g cycle = some (l, start) → s.injAims 0x09 (2 * g + l) none = none → s.injAims 0x0A (2 * g + l) none = none →
    exec (.aesJob g e cycle nts false false) s = .next { s with shuttle := { s.shuttle with
      aesFree := Sparse.put (fun _ => 0) s.shuttle.aesFree (2 * g + l) (start + s.n (if nts then Obj.costNtsAes else Obj.costPtpEventAes))
      aesServed := Sparse.put (fun _ => none) s.shuttle.aesServed (2 * g + l) (some e.val) } })

/-! ### Faults -/

/-- FAULT_REPORT, on a device neither in RESET nor HALTED, of a code and a source that exist, not injected and not one of the two codes that the
device raises itself, answers State.faultReact; code 0x0E06 with none of its group open, the records not frozen, counts in its code and its class, is
held for the log and changes no mode (R384, R385, R390, R391). AON_CLOCK_LOSS halts with the fatal record 0x0203 and the log frozen (R384, R397).
EVENT_LOG_WRITE answers the log of the tick flushed and its notices formed (R386). FAULT_AUTO_ACK takes off the open records that are due and that the
policy does not keep; FAULT_ACK on port class H or M of a number below the next answers State.ackUpTo (R389). ALIVE_TOGGLE at a count that 8 divides,
not 0, inverts ALIVE (R395). INJ_REQUEST on port class H of a right blob waits for its boundary where allowed and is counted where refused; INJ_CANCEL
waits (R406, R407). -/
def Obligations.FaultCommandsComplete : Prop :=
  (∀ (f : FaultOperand) (s : State), s.alive = true → State.sourceOk f = true → f.code ≠ 0 → f.code ≠ 0x0203 → f.code ≠ 0x0B03 → f.injected = false →
    ∃ u, u = State.faultReact { s with fault := { s.fault with context := some (f.subtick, false) } } f none ∧
      exec (.faultReport f) s = .next { u with fault := { u.fault with context := none } }) ∧
  (∀ (f : FaultOperand) (s : State), s.alive = true → f.code = 0x0E06 → f.injected = false → s.fault.frozen = false →
    (∀ u ∈ s.fault.unacked, u.code / 256 ≠ 0x0E) → ∃ t, exec (.faultReport f) s = .next t ∧
      t.o (Obj.faultCodeCount 0x0E06) = s.o (Obj.faultCodeCount 0x0E06) + 1 ∧ t.o (Obj.faultTotal 1) = s.o (Obj.faultTotal 1) + 1 ∧
      t.fault.held.length = s.fault.held.length + 1 ∧ t.mode = s.mode ∧ t.mem = s.mem ∧ t.sys = s.sys) ∧
  (∀ s : State, s.alive = true → exec .aonClockLoss s = .next s.aonLost ∧ s.aonLost.mode = mHalted ∧ s.aonLost.fault.frozen = true ∧
    s.aonLost.fault.held = [] ∧ s.aonLost.fault.fatal.code = 0x0203 ∧ s.aonLost.o Obj.modePrevious = s.mode ∧ s.aonLost.sys = s.sys) ∧
  (∀ s : State, s.alive = true → exec .eventLogWrite s = .next ((s.flushLog s.tick false).formNotices s.tick)) ∧
  (∀ s : State, s.running = true → exec .faultAutoAck s = .next s.autoAck ∧
    s.autoAck.fault.unacked = (s.fault.unacked.filter fun u => !(decide (u.due ≤ s.tick) && !bitOf (s.n Obj.ackPolicy) (u.cls - 1))) ∧
    s.autoAck.mem = s.mem ∧ s.autoAck.sys = s.sys ∧ s.autoAck.fault.log = s.fault.log) ∧
  (∀ (cls : PortClass) (v : Nat) (s : State), s.running = true → (cls = .hostH ∨ cls = .mgmtM) → v < s.n Obj.evtlogNextSeq →
    exec (.faultAck cls v) s = .next (s.ackUpTo v)) ∧
  (∀ s : State, s.running = true → s.fault.aliveCount ≠ 0 → s.fault.aliveCount % 8 = 0 →
    exec .aliveToggle s = .next (s.setF Obj.aliveLevel (!s.flag Obj.aliveLevel))) ∧
  (∀ (blob : Octets) (s : State), s.running = true → blob.length = 16 → s.sys.window ≠ .w3 →
    State.injPairOk (injOf blob).checker (injOf blob).mode (injOf blob).count (injOf blob).inst = true →
    s.injAllowed (injOf blob).checker (injOf blob).inst = true → exec (.injRequest .hostH blob) s =
      .next { s with sys := { s.sys with due := s.sys.due ++ [⟨1, false, .arm (injOf blob)⟩] } }) ∧
  (∀ (blob : Octets) (s : State), s.running = true → blob.length = 16 → s.sys.window = .w3 →
    State.injPairOk (injOf blob).checker (injOf blob).mode (injOf blob).count (injOf blob).inst = true →
    s.injAllowed (injOf blob).checker (injOf blob).inst = true → exec (.injRequest .hostH blob) s =
      .next { s with sys := { s.sys with due := s.sys.due ++ [⟨2, false, .arm (injOf blob)⟩] } }) ∧
  (∀ (blob : Octets) (s : State), s.running = true → blob.length = 16 →
    State.injPairOk (injOf blob).checker (injOf blob).mode (injOf blob).count (injOf blob).inst = true →
    s.injAllowed (injOf blob).checker (injOf blob).inst = false → exec (.injRequest .hostH blob) s = .next (s.inc Obj.injRefused)) ∧
  (∀ s : State, s.running = true → s.sys.window ≠ .w3 → exec (.injCancel .hostH) s =
    .next { s with sys := { s.sys with due := s.sys.due ++ [⟨1, false, .disarm⟩] } }) ∧
  (∀ s : State, s.running = true → s.sys.window = .w3 → exec (.injCancel .hostH) s =
    .next { s with sys := { s.sys with due := s.sys.due ++ [⟨2, false, .disarm⟩] } })

/-! ### The twin -/

/-- An ALONE unit in modes 2 to 5 that has not left, after its retry time: TWIN_LINK_DETECT and TWIN_JOIN_RETRY enter LINKING, with a hello to send
(R415). TWIN_JOIN_TIMEOUT after 10 s in LINKING, AUTH or SYNCING ends in ALONE with status 8 or 5 by the state, one refusal counted and a retry 10 s
later (R414, R415). In LINKING with the link's clock there, TWIN_HELLO_RECEIVE of a hello that passes every check takes the peer's serial and the
owner-elect and goes on; of another it refuses with its status; a leaving hello of a joined peer is noted (R415, R416). TWIN_BULK_RECEIVE of the unit
not elect: attested with its digest right, it waits for its boundary; with another digest, refused with 8; not attested, refused with 4 (R423).
TWIN_JOIN_BOUNDARY at the boundary J, tick index 0, answers State.joinNow. YETHAL_ALIGNMENT_LOSS of a joined unit ends the pair at the boundary, of
one that joins refuses (R414, R419). -/
def Obligations.TwinJoinCommandsComplete : Prop :=
  (∀ s : State, s.o Obj.twinState = 1 → 2 ≤ s.mode → s.mode ≤ 5 → s.twin.left = false → s.twin.retryAt ≤ s.age →
    exec .twinLinkDetect s = .next s.twinLink ∧ exec .twinJoinRetry s = .next s.twinLink) ∧
  (∀ s : State, s.o Obj.twinState = 1 → 2 ≤ s.mode → s.mode ≤ 5 → s.twin.left = false → s.twin.retryAt ≤ s.age →
    ∀ c : Instr, (c = .twinLinkDetect ∨ c = .twinJoinRetry) → ∃ t, exec c s = .next t ∧ t.o Obj.twinState = 2 ∧ t.twin.since = s.age ∧
      t.twin.hello = none ∧ t.twin.joinAt = none ∧ t.twin.sends = s.twin.sends ++ [.hello false t.twin.nonce] ∧
      (∀ k, k ≠ Obj.twinState → t.o k = s.o k) ∧ t.mem = s.mem) ∧
  (∀ s : State, 2 ≤ s.o Obj.twinState → s.o Obj.twinState ≤ 4 → s.twin.since + 81920 ≤ s.age → exec .twinJoinTimeout s =
    .next (s.joinRefuse (if s.o Obj.twinState = 4 then 8 else if s.o Obj.twinState = 3 then 5 else s.n Obj.twinJoinStatus))) ∧
  (∀ s : State, 2 ≤ s.o Obj.twinState → s.o Obj.twinState ≤ 4 → s.twin.since + 81920 ≤ s.age → ∃ t, exec .twinJoinTimeout s = .next t ∧
    t.o Obj.twinState = 1 ∧ t.o Obj.twinJoinRefused = s.o Obj.twinJoinRefused + 1 ∧
    (s.o Obj.twinState = 4 → t.o Obj.twinJoinStatus = 8) ∧ (s.o Obj.twinState = 3 → t.o Obj.twinJoinStatus = 5) ∧
    t.twin.retryAt = s.age + 81920 ∧ t.mem = s.mem ∧ t.sys = s.sys) ∧
  (∀ (h : Hello) (s : State), s.yethalClocked = true → h.leaving = false → s.o Obj.twinState = 2 → ∃ t, exec (.twinHelloReceive h) s = .next t ∧
    (s.helloStatus h = 0 → t.o Obj.twinState = 3 ∧ t.blob Obj.twinPeerSerial = h.serial ∧ t.twin.hello = some h ∧
      t.twin.elect = s.electBy h ∧ t.mem = s.mem ∧ t.sys = s.sys) ∧
    (s.helloStatus h ≠ 0 → t = s.joinRefuse (s.helloStatus h))) ∧
  (∀ (h : Hello) (s : State), s.yethalClocked = true → h.leaving = true → s.joined = true →
    exec (.twinHelloReceive h) s = .next { s with twin := { s.twin with peerLeft := true } }) ∧
  (∀ (b : Bulk) (s : State), s.yethalClocked = true → s.o Obj.twinState = 4 → s.twin.elect = false → b.attested = true → exec (.twinBulkReceive b) s = .next
    (if s.bulkDigest b = b.digest then { s with twin := { s.twin with bulkDue := some b, joinAt := some b.boundary } }
     else s.joinRefuse 8)) ∧
  (∀ (b : Bulk) (s : State), s.yethalClocked = true → s.o Obj.twinState = 4 → s.twin.elect = false → b.attested = false →
    exec (.twinBulkReceive b) s = .next (s.joinRefuse 4)) ∧
  (∀ (j : Nat) (s : State), s.twin.joinAt = some j → s.running = true → s.o Obj.twinState = 4 → j ≤ s.tick → s.index = 0 →
    exec .twinJoinBoundary s = .next s.joinNow) ∧
  (∀ s : State, s.joined = true → exec .yethalAlignmentLoss s = .next { s with twin := { s.twin with downDue := true } }) ∧
  (∀ s : State, 2 ≤ s.o Obj.twinState → s.o Obj.twinState ≤ 4 →
    exec .yethalAlignmentLoss s = .next (s.joinRefuse (s.n Obj.twinJoinStatus)))

/-- In a tick of a joined pair: AGREE, its deadline and the fourth that is missed (R419), an urgent release (R436), a forwarded frame (R434, R435),
the pulse on TWP and its stamp (R420, R426), and a request for the state (R423). -/
def Obligations.TwinTickCommandsComplete : Prop :=
  (∀ (a : Agree) (s : State), s.yethalClocked = true → s.joined = true → exec (.twinAgreeReceive a false) s = .next (s.agreeReceive a)) ∧
  (∀ (a : Agree) (s : State), exec (.twinAgreeReceive a true) s = .next s) ∧
  (∀ s : State, s.joined = true → s.twin.gotAgree = false → exec .twinAgreeDeadline s = .next (State.inc { s with
    twin := { s.twin with missing := s.twin.missing + 1, downDue := s.twin.downDue || decide (4 ≤ s.twin.missing + 1) } } Obj.twinAgreeMissed)) ∧
  (∀ (w : Nat) (s : State), s.yethalClocked = true → s.joined = true → s.flag Obj.twinOwn = false → exec (.twinUrgentReceive w true) s =
    .next { s with twin := { s.twin with peerRelease := some w } }) ∧
  (∀ (w : Nat) (s : State), s.yethalClocked = true → s.joined = true → s.flag Obj.twinOwn = false → exec (.twinUrgentReceive w false) s =
    .next { s with twin := { s.twin with peerRelease := some (max w s.tick + 1) } }) ∧
  (∀ (f : Forward) (s : State), s.yethalClocked = true → s.joined = true → exec (.twinForwardReceive f true) s = .next (s.inc Obj.twinForwardDrops)) ∧
  (∀ (f : Forward) (s : State), s.yethalClocked = true → s.joined = true → (f.signaling = false ∨ s.flag Obj.twinOwn = true) → exec (.twinForwardReceive f false) s =
    .next { s with net := { s.net with rx := s.net.rx ++ [{ f.frame with tick := s.tick, forwarded := some (f.bound, f.port) }] } }) ∧
  (∀ s : State, s.joined = true → s.index % 8 = 0 → exec .twpPulseDrive s = .next { s with twin := { s.twin with pulseAt := some s.tick } }) ∧
  (∀ (time : Nat) (a b : Capture) (s : State), s.joined = true → exec (.twpEdgeReceive time a b) s = .next (s.twpEdge time a b)) ∧
  (∀ s : State, s.joined = true → s.twin.master = true → exec .twinStateTransferRequest s =
    .next { s with twin := { s.twin with sends := s.twin.sends ++ [.bulk (s.firstZero 8192)] } })

/-- OWN goes to the unit that takes it at the instant of the switch (R425, R427, R436, R439), OWN_IN falling starts a take of a STANDBY unit (R437),
contention makes the unit that is not preferred release (R428), an ALONE unit takes after its time (R429), and the operator's actions on port class H
or M wait for their boundary (R60, R436, R442). -/
def Obligations.TwinOwnCommandsComplete : Prop :=
  (∀ (cut : Fin 65) (s : State), s.twin.switching = none → exec (.ownSwitchInstant cut) s = .next s) ∧
  (∀ (cut : Fin 65) (s : State), exec (.ownSwitchInstant cut) s = .next (s.switchOwn cut)) ∧
  (∀ (cut : Fin 65) (s : State), s.twin.switching = some true → s.joined = false → exec (.ownSwitchInstant cut) s =
    .next ((State.setF { s with twin := { s.twin with switching := none } } Obj.twinOwn true).addN Obj.twinRunts cut)) ∧
  (∀ (cut : Fin 65) (s : State), s.twin.switching = some false → ∃ t, exec (.ownSwitchInstant cut) s = .next t ∧ t.flag Obj.twinOwn = false ∧
    (∀ p, p < 64 → (t.out p).driving = false) ∧ (∀ k, k < 4 → t.o (Obj.efcState k) = 0) ∧ t.twin.switching = none ∧ t.mem = s.mem ∧
    t.sys = s.sys) ∧
  (∀ (cut : Fin 65) (s : State), s.twin.switching = some true → s.joined = true → ∃ t, exec (.ownSwitchInstant cut) s = .next t ∧
    t.flag Obj.twinOwn = true ∧ t.twin.switching = none ∧ t.mem = s.mem ∧ t.sys = s.sys) ∧
  (∀ s : State, exec .ownInFall s = .next s.ownInLow ∧ s.ownInLow.flag Obj.twinOwnIn = false ∧
    s.ownInLow.twin.lowSince = some (s.twin.lowSince.getD s.age) ∧
    (s.o Obj.twinState = 6 → s.twin.peerRelease = none → s.ownInLow.twin.takeDue = true) ∧
    (∀ k, k ≠ Obj.twinOwnIn → s.ownInLow.o k = s.o k) ∧ s.ownInLow.mem = s.mem ∧ s.ownInLow.sys = s.sys) ∧
  (∀ s : State, s.flag Obj.twinEnable = true → s.flag Obj.twinOwn = true → s.flag Obj.twinOwnIn = true →
    exec .ownContention s = .next s.contention ∧ s.contention.o Obj.twinContentions = s.o Obj.twinContentions + 1 ∧
    ((s.twin.peer = none ∨ ∃ a, s.twin.peer = some a ∧ a.preferred ≠ s.flag Obj.twinPreferred) → s.flag Obj.twinPreferred = false →
      s.contention.twin.releaseDue = true) ∧
    (∀ k, k ≠ Obj.twinContentions → s.contention.o k = s.o k) ∧ s.contention.mem = s.mem ∧ s.contention.sys = s.sys) ∧
  (∀ (a : Nat) (s : State), s.o Obj.twinState = 1 → s.inService = true → s.flag Obj.twinOwn = false → s.twin.switching = none →
    s.twin.lowSince = some a → (s.n Obj.twinAloneTakeMs + (if s.flag Obj.twinPreferred then 0 else 1000)) * 8192 ≤ (s.age - a) * 1000 →
    exec .coldTake s = .next (State.inc { s with twin := { s.twin with switching := some true, master := true } } Obj.twinColdTakes)) ∧
  (∀ (cls : PortClass) (s : State), s.running = true → (cls = .hostH ∨ cls = .mgmtM) → s.actionRefused 1 = false →
    exec (.twinHandover cls) s = .next (s.addDue false (.twinAction 1))) ∧
  (∀ (cls : PortClass) (s : State), s.running = true → (cls = .hostH ∨ cls = .mgmtM) → s.actionRefused 2 = false →
    exec (.twinLeave cls) s = .next (s.addDue false (.twinAction 2))) ∧
  (∀ (cls : PortClass) (s : State), s.running = true → (cls = .hostH ∨ cls = .mgmtM) →
    exec (.twinRejoin cls) s = .next (s.addDue false (.twinAction 3))) ∧
  (∀ (w : DueWrite) (s : State), s.addDue false w = { s with sys := { s.sys with
    due := s.sys.due ++ [⟨if s.sys.window = .w3 then 2 else 1, false, w⟩] } })

/-! ### Records, flash, the supply and the buses -/

/-- CAPTURE_COPY answers State.captureCopy; with capture on, the link up, no gap to write and room for the next record, which is not marked bad, the
record's octets are copied as Bobbin's bank holds them and the position moves past it (R451, R452). REPLAY_LOAD in LOADING of a record of the feed
that is refused ends with its status; of one that passes, replay is loaded with its image (R455, R456). FLASH_READ, FLASH_PROGRAM, FLASH_SECTOR_ERASE
and FLASH_BLOCK_ERASE with no journal write begun and none of another master start or are refused as State.flashRefusal says; FLASH_COMMAND_COMPLETE
answers State.flashDone (R470, R506). JOURNAL_INTERVAL_EXPIRE after JOURNAL_INTERVAL_S makes a write due; JOURNAL_NOW on port class H or M waits for
its boundary; JOURNAL_WRITE_COMPLETE of a write begun leaves the slot valid with its number counted, or answers State.journalFail (R475, R476). -/
def Obligations.StorageCommandsComplete : Prop :=
  (∀ (e : BobEntry) (s : State), s.capOn = true → s.pcieUp = true → s.o Obj.replayState ≠ 4 → s.record.gap = none →
    s.record.entries.find? (fun e => decide (s.record.capPos ≤ e.pos)) = some e → e.bad = false → e.len ≤ s.capRoom →
    ∃ t, exec (.captureCopy false) s = .next t ∧ t.record.capPos = e.pos + e.len ∧
      t.record.copied = ((List.range (e.len / 8)).map fun i => toBE 8 (s.readWord 17 ((e.pos % bobRing) / 8 + i))).flatten ∧
      t.mem = s.mem ∧ t.sys = s.sys) ∧
  (∀ (bad : Bool) (s : State), exec (.captureCopy bad) s = .next (s.captureCopy bad)) ∧
  (∀ (r : FeedRecord) (s : State), s.o Obj.replayState = 1 → s.inFeed r = true → s.loadStatus r ≠ 0 →
    exec (.replayLoad r) s = .next (s.replayEnd 0 (s.loadStatus r))) ∧
  (∀ (r : FeedRecord) (s : State), s.o Obj.replayState = 1 → s.inFeed r = true → s.loadStatus r = 0 →
    exec (.replayLoad r) s = .next { s.replayEnd 2 1 with
      record := { s.record with image := r.image, next := r.tick, differed := false } }) ∧
  (∀ (who : FlashBy) (cs : Fin 2) (addr : Fin 4294967296) (s : State), 
    (who = .host true ∧ s.running = true ∧ s.o Obj.flashStatus ≠ 1 ∨
      who = .forester ∧ s.alive = true ∧ s.power.command = none ∧ s.power.queued = none) → s.power.write = none →
    exec (.flashRead who cs addr) s = .next
      (if s.flashRefusal ⟨1, cs.val, addr.val, []⟩ = 0 then s.flashStart ⟨1, cs.val, addr.val, []⟩
       else s.flashCommand ⟨1, cs.val, addr.val, []⟩)) ∧
  (∀ (who : FlashBy) (cs : Fin 2) (addr : Fin 4294967296) (data : Octets) (s : State), 1 ≤ data.length → data.length ≤ 256 →
    (who = .host true ∧ s.running = true ∧ s.o Obj.flashStatus ≠ 1 ∨
      who = .forester ∧ s.alive = true ∧ s.power.command = none ∧ s.power.queued = none) → s.power.write = none →
    exec (.flashProgram who cs addr data) s = .next
      (if s.flashRefusal ⟨2, cs.val, addr.val, data⟩ = 0 then s.flashStart ⟨2, cs.val, addr.val, data⟩
       else s.flashCommand ⟨2, cs.val, addr.val, data⟩)) ∧
  (∀ (who : FlashBy) (cs : Fin 2) (addr : Fin 4294967296) (s : State), 
    (who = .host true ∧ s.running = true ∧ s.o Obj.flashStatus ≠ 1 ∨
      who = .forester ∧ s.alive = true ∧ s.power.command = none ∧ s.power.queued = none) → s.power.write = none →
    exec (.flashSectorErase who cs addr) s = .next
      (if s.flashRefusal ⟨3, cs.val, addr.val, []⟩ = 0 then s.flashStart ⟨3, cs.val, addr.val, []⟩
       else s.flashCommand ⟨3, cs.val, addr.val, []⟩)) ∧
  (∀ (who : FlashBy) (cs : Fin 2) (addr : Fin 4294967296) (s : State), 
    (who = .host true ∧ s.running = true ∧ s.o Obj.flashStatus ≠ 1 ∨
      who = .forester ∧ s.alive = true ∧ s.power.command = none ∧ s.power.queued = none) → s.power.write = none →
    exec (.flashBlockErase who cs addr) s = .next
      (if s.flashRefusal ⟨4, cs.val, addr.val, []⟩ = 0 then s.flashStart ⟨4, cs.val, addr.val, []⟩
       else s.flashCommand ⟨4, cs.val, addr.val, []⟩)) ∧
  (∀ (ok : Bool) (c : FlashCmd) (s : State), s.power.command = some c → exec (.flashCommandComplete ok) s = .next (s.flashDone c ok)) ∧
  (∀ s : State, s.running = true → s.power.lastWrite + s.n Obj.journalIntervalS * 8192 ≤ s.age →
    exec .journalIntervalExpire s = .next { s with power := { s.power with journalDue := true } }) ∧
  (∀ (cls : PortClass) (s : State), s.running = true → (cls = .hostH ∨ cls = .mgmtM) →
    exec (.journalNow cls) s = .next (s.addDue false .journalNow)) ∧
  (∀ (w : JournalWrite) (s : State), s.power.write = some w → w.started = true → s.running = true →
    exec (.journalWriteComplete true) s = .next (State.flashNext (((State.setN { s with
      power := { s.power with write := none, slots := setAt s.power.slots w.slot (.valid w.body) } } Obj.journalSeq w.body.seq).setN
        Obj.journalSlot w.slot).inc Obj.journalWrites))) ∧
  (∀ (w : JournalWrite) (s : State), s.power.write = some w → w.started = true → s.running = true →
    exec (.journalWriteComplete false) s = .next (s.journalFail w))

/-- In a mode with ticks PMBUS_ALERT with a reading within 10 mV of the commanded voltage takes the reading; AVS_READBACK answers State.avsRead, and
with a reading within 10 mV takes it, changes no other object and moves the commanded voltage by at most 5 mV; without a reading both count a failure
and raise fault 0x0E06 (R472, R505). THERMAL_SENSOR_READ outside RESET answers State.thermalRead; in BOOT it sets the eight sensors, Tj and its peak
(R478). THERMAL_TRIP in RESET with PWR_OK high latches the trip, and a live device whose fault records are not frozen halts (R479). SENTINEL_MEASURE
in W3, once a tick of each object, takes its figure; SELVAGE_PLAN_START at tick index 0 and SELVAGE_PLAN_COMPLETE move SELVAGE_STATE; AGE_UPDATE
answers State.ageSecond, which never lowers AGE_EQ_HOURS and sets LIFE_USED_PM from it (R481 to R484). -/
def Obligations.SupplyCommandsComplete : Prop :=
  (∀ (mv : Fin 65536) (s : State), s.running = true → mv.val ≤ s.power.vout + 10 → s.power.vout ≤ mv.val + 10 →
    exec (.pmbusAlert (some mv)) s = .next (s.setN Obj.vcoreMeasuredMv mv)) ∧
  (∀ (mv : Option (Fin 65536)) (s : State), s.running = true → exec (.avsReadback mv) s = .next (s.avsRead (mv.map (·.val)) true)) ∧
  (∀ (mv : Fin 65536) (s : State), s.running = true → mv.val ≤ s.power.vout + 10 → s.power.vout ≤ mv.val + 10 →
    ∃ t, exec (.avsReadback (some mv)) s = .next t ∧ t.o Obj.vcoreMeasuredMv = mv.val ∧
      (∀ k, k ≠ Obj.vcoreMeasuredMv → t.o k = s.o k) ∧ t.power.vout ≤ s.power.vout + 5 ∧ s.power.vout ≤ t.power.vout + 5 ∧
      t.mem = s.mem ∧ t.sys = s.sys) ∧
  (∀ (c : Instr) (s : State), s.running = true → (c = .avsReadback none ∨ c = .pmbusAlert none) →
    exec c s = .next ((s.inc Obj.avsFails).faulted 0x0E06 0 0)) ∧
  (∀ (l : List Int) (s : State), s.mode = mBoot → l.length = 8 → (∀ x ∈ l, -32768 ≤ x ∧ x ≤ 32767) →
    ∃ t, exec (.thermalSensorRead l) s = .next t ∧ t.o Obj.tjMax = l.foldl max (l.headD 0) ∧
      t.o Obj.tjPeak = max (l.foldl max (l.headD 0)) (s.o Obj.tjPeak) ∧ (∀ k, k < 8 → t.o (Obj.tjSensor k) = l.getD k 0) ∧
      t.mem = s.mem ∧ t.sys = s.sys) ∧
  (∀ (l : List Int) (s : State), s.mode ≠ mReset → l.length = 8 → (∀ x ∈ l, -32768 ≤ x ∧ x ≤ 32767) →
    exec (.thermalSensorRead l) s = .next (s.thermalRead l)) ∧
  (∀ (k : Fin 8) (s : State), s.mode = mReset → s.sys.pwrOk = true →
    exec (.thermalTrip k) s = .next { s with power := { s.power with tripLatch := true, trippedBy := k.val } }) ∧
  (∀ (k : Fin 8) (s : State), s.alive = true → s.fault.frozen = false → s.fault.context = none →
    ∃ t, exec (.thermalTrip k) s = .next t ∧ t.mode = mHalted) ∧
  (∀ (x : Sentinel) (s : State), s.running = true → s.sys.window = .w3 →
    Sparse.get (fun _ => none) s.power.sentAt (State.sentinelOf x).1 = none → exec (.sentinelMeasure x) s =
      .next { s.setN (State.sentinelOf x).1 (State.sentinelOf x).2.1 with power := { s.power with
        sentAt := Sparse.put (fun _ => none) s.power.sentAt (State.sentinelOf x).1 (some s.age) } }) ∧
  (∀ s : State, s.running = true → s.index = 0 → s.power.planStart = none → s.o Obj.selvageState = 0 → exec .selvagePlanStart s =
    .next (State.setN { s.setO Obj.selvageState 1 with power := { s.power with planStart := some s.age } } Obj.lastPlanTick s.tick)) ∧
  (∀ s : State, s.running = true → s.o Obj.selvageState = 1 → exec .selvagePlanComplete s = .next s.planComplete ∧
    s.planComplete.o Obj.selvageState = 0 ∧ s.planComplete.power.planDone.isSome = true ∧ s.planComplete.power.journalDue = true ∧
    s.planComplete.mem = s.mem) ∧
  (∀ s : State, s.running = true → exec .ageUpdate s = .next s.ageSecond ∧ s.n Obj.ageEqHours ≤ s.ageSecond.n Obj.ageEqHours ∧
    s.ageSecond.n Obj.lifeUsedPm = s.ageSecond.n Obj.ageEqHours * 1000 / (219150 * 65536) ∧ s.ageSecond.mem = s.mem ∧ s.ageSecond.sys = s.sys)

/-- An I2C transaction waits, starts on an idle bus, ends with its status, loses and retries up to three times, and a bus that stays low is recovered
or put out of service (R501 to R503); the target keeps an offset modulo 64 and answers from the mirror of BAR0 (R504). -/
def Obligations.I2cCommandsComplete : Prop :=
  (∀ (cls : PortClass) (k : Fin 2) (blob : Octets) (x : I2cTrans) (s : State), s.running = true → (cls = .hostH ∨ cls = .mgmtM) →
    State.i2cParse blob = some x → s.o (Obj.i2cBusState k) ≠ 3 → exec (.i2cXfer cls k blob) s =
      .next ((s.setI2c k { s.i2c k with hostQ := [x] }).setBlob (Obj.i2cResult k) (toBE 2 0x0E25 ++ zeros 2))) ∧
  (∀ (cls : PortClass) (k : Fin 2) (blob : Octets) (x : I2cTrans) (s : State), s.running = true → (cls = .hostH ∨ cls = .mgmtM) →
    State.i2cParse blob = some x → s.o (Obj.i2cBusState k) = 3 → exec (.i2cXfer cls k blob) s =
      .next ((s.inc (Obj.i2cDropped k)).setBlob (Obj.i2cResult k) (toBE 2 0x0E24 ++ zeros 2))) ∧
  (∀ (k : Fin 2) (x : I2cTrans) (rest : List I2cTrans) (s : State), s.alive = true → (s.i2c k).current = none → s.o (Obj.i2cBusState k) = 0 →
    (s.i2c k).steerQ = [] → (s.i2c k).hostQ = x :: rest → exec (.i2cTransactionStart k) s =
      .next ((s.setI2c k { s.i2c k with current := some x, hostQ := rest, losses := 0, waitFree := false }).setO (Obj.i2cBusState k) 1)) ∧
  (∀ (k : Fin 2) (x : I2cTrans) (rest : List I2cTrans) (s : State), s.alive = true → (s.i2c k).current = none → s.o (Obj.i2cBusState k) = 0 →
    (s.i2c k).steerQ = x :: rest → exec (.i2cTransactionStart k) s =
      .next ((s.setI2c k { s.i2c k with current := some x, steerQ := rest, losses := 0, waitFree := false }).setO (Obj.i2cBusState k) 1)) ∧
  (∀ (k : Fin 2) (e : I2cEnd) (l : I2cLines) (s : State), s.alive = true → exec (.i2cTransactionDone k e) s = .next (s.i2cDone k e) ∧
    exec (.i2cStretchTimeout k l) s = .next (s.i2cStretch k l)) ∧
  (∀ (k : Fin 2) (l : I2cLines) (s : State), s.running = true → exec (.i2cBusReset .hostH k l) s = .next (s.i2cReset k l)) ∧
  (∀ (k : Fin 2) (x : I2cTrans) (e : I2cEnd) (s : State), s.alive = true → (s.i2c k).current = some x → (s.i2c k).waitFree = false →
    x.steer = none → ∃ t, exec (.i2cTransactionDone k e) s = .next t ∧ t.o (Obj.i2cBusState k) = 0 ∧ (t.i2c k).current = none ∧
      (∀ r, e = .done r → t.blob (Obj.i2cResult k) = toBE 2 0 ++ zeros 2 ++ padTo x.rlen r) ∧
      (e = .addrNack → t.blob (Obj.i2cResult k) = toBE 2 0x0E20 ++ zeros 2 ∧ t.o (Obj.i2cNacks k) = s.o (Obj.i2cNacks k) + 1) ∧
      (e = .dataNack → t.blob (Obj.i2cResult k) = toBE 2 0x0E21 ++ zeros 2 ∧ t.o (Obj.i2cNacks k) = s.o (Obj.i2cNacks k) + 1) ∧
      t.mem = s.mem ∧ t.sys = s.sys) ∧
  (∀ (k : Fin 2) (x : I2cTrans) (s : State), s.alive = true → (s.i2c k).current = some x → (s.i2c k).waitFree = false →
    exec (.i2cArbitrationLost k) s = .next ((s.setI2c k { s.i2c k with losses := (s.i2c k).losses + 1, waitFree := true }).inc (Obj.i2cArbLost k))) ∧
  (∀ (k : Fin 2) (x : I2cTrans) (s : State), s.alive = true → (s.i2c k).current = some x → (s.i2c k).waitFree = true → (s.i2c k).losses < 4 →
    exec (.i2cBusFree k) s = .next (s.setI2c k { s.i2c k with waitFree := false })) ∧
  (∀ (k : Fin 2) (x : I2cTrans) (s : State), s.alive = true → (s.i2c k).current = some x → (s.i2c k).waitFree = true → 4 ≤ (s.i2c k).losses →
    x.steer = none → ∃ t, exec (.i2cBusFree k) s = .next t ∧ (t.i2c k).current = none ∧ t.o (Obj.i2cDropped k) = s.o (Obj.i2cDropped k) + 1 ∧
      t.blob (Obj.i2cResult k) = toBE 2 0x0E22 ++ zeros 2 ∧ t.mem = s.mem ∧ t.sys = s.sys) ∧
  (∀ (k : Fin 2) (l : I2cLines) (x : I2cTrans) (s : State), s.alive = true → (s.i2c k).current = some x → x.steer = none →
    ∃ t, exec (.i2cStretchTimeout k l) s = .next t ∧ t.blob (Obj.i2cResult k) = toBE 2 0x0E23 ++ zeros 2 ∧
      t.o (Obj.i2cBusState k) = (if l = .stuck then 2 else 0) ∧ (t.i2c k).current = none ∧ t.mem = s.mem ∧ t.sys = s.sys) ∧
  (∀ (k : Fin 2) (l : I2cLines) (s : State), s.running = true → ∃ t, exec (.i2cBusReset .hostH k l) s = .next t ∧
    (l = .stuck → t.o (Obj.i2cBusState k) = 2) ∧
    (l ≠ .stuck → t.o (Obj.i2cBusState k) = if (s.i2c k).current.isSome then 1 else 0) ∧ (t.i2c k).attempts = 0 ∧
    (∀ j, j ≠ Obj.i2cBusState k → t.o j = s.o j) ∧ t.mem = s.mem ∧ t.sys = s.sys) ∧
  (∀ (k : Fin 2) (s : State), s.alive = true → s.o (Obj.i2cBusState k) = 2 → exec (.i2cRecoveryAttempt k true) s =
    .next ((s.setI2c k { s.i2c k with attempts := 0 }).setO (Obj.i2cBusState k) (if (s.i2c k).current.isSome then 1 else 0))) ∧
  (∀ (k : Fin 2) (s : State), s.alive = true → s.o (Obj.i2cBusState k) = 3 → exec (.i2cRecoveryAttempt k true) s =
    .next ((s.inc (Obj.i2cRecoveries k)).setO (Obj.i2cBusState k) 0)) ∧
  (∀ (k : Fin 2) (s : State), s.alive = true → s.o (Obj.i2cBusState k) = 2 → (s.i2c k).attempts < 7 → exec (.i2cRecoveryAttempt k false) s =
    .next (s.setI2c k { s.i2c k with attempts := (s.i2c k).attempts + 1 })) ∧
  (∀ (off : Fin 256) (s : State), s.mode ≠ mReset → exec (.i2cTargetSetOffset off) s =
    .next { s with bus := { s.bus with targetOffset := off.val % 64 } }) ∧
  (∀ (n : Fin 256) (s : State), s.mode ≠ mReset → exec (.i2cTargetRead n) s = .next (s.targetRead n) ∧
    (s.targetRead n).bus.targetOffset = (s.bus.targetOffset + n.val) % 64 ∧
    (∀ i, i < n.val → (s.targetRead n).bus.targetOut[i]? = some (s.targetOctet ((s.bus.targetOffset + i) % 64))) ∧
    (s.targetRead n).obj = s.obj ∧ (s.targetRead n).mem = s.mem)

/-- The test port takes its instructions in every mode; one that drives pins is taken in RESET with PWR_OK high and else acts as BYPASS (R509). -/
def Obligations.JtagCommandsComplete : Prop :=
  (∀ s : State, exec .jtagBypass s = .next { s with bus := { s.bus with jtag := .bypass, jtagOut := 0 } }) ∧
  (∀ s : State, exec .jtagIdcode s = .next { s with bus := { s.bus with jtag := .idcode, jtagOut := s.idcode } }) ∧
  (∀ (b : Octets) (s : State), exec (.jtagSamplePreload b) s = .next { s with bus := { s.bus with jtag := .samplePreload, boundary := b } }) ∧
  (∀ s : State, s.mode = mReset → s.sys.pwrOk = true →
    exec .jtagExtest s = .next { s with bus := { s.bus with jtag := .extest } } ∧
    exec .jtagExtestPulse s = .next { s with bus := { s.bus with jtag := .extestPulse } } ∧
    exec .jtagExtestTrain s = .next { s with bus := { s.bus with jtag := .extestTrain } }) ∧
  (∀ s : State, s.mode ≠ mReset ∨ s.sys.pwrOk = false →
    exec .jtagExtest s = .next { s with bus := { s.bus with jtag := .bypass } } ∧
    exec .jtagExtestPulse s = .next { s with bus := { s.bus with jtag := .bypass } } ∧
    exec .jtagExtestTrain s = .next { s with bus := { s.bus with jtag := .bypass } })

/-! ### Rules about time, ticks and faults -/

/-- The tick index of a device time (R66): floor((NANOSECONDS × 2^32 + FRACTION) × 8,192 / (10^9 × 2^32)); a boundary belongs to the tick that begins there. -/
def Obligations.TickIndexOfATime : Prop :=
  (∀ secs ns frac : Nat, ns < 1000000000 → frac < 4294967296 →
    timeIndex ((secs : Int) * secondUnits + ns * nsUnits + frac) = (((ns * 4294967296 + frac) * 8192 / (1000000000 * 4294967296) : Nat) : Int)) ∧
  (∀ secs i : Nat, i < 8192 → timeIndex ((secs : Int) * secondUnits + i * tickUnits) = i) ∧
  (∀ secs i : Nat, i < 8192 → timeIndex ((secs : Int) * secondUnits + (i + 1) * tickUnits - 1) = i)

/-- The continuous nanosecond count of a device time (R67): SECONDS × 10^9 + NANOSECONDS modulo 2^64, the fraction dropped. -/
def Obligations.ContinuousNanoseconds : Prop :=
  ∀ secs ns frac : Nat, ns < 1000000000 → frac < 4294967296 →
    timeCns ((secs : Int) * secondUnits + ns * nsUnits + frac) = (secs * 1000000000 + ns) % 2 ^ 64

/-- No TIME80 value has 10^9 ns or more, and an addition carries out of FRACTION first, then out of NANOSECONDS into SECONDS (R64). -/
def Obligations.Time80Carries : Prop :=
  (∀ t : Int, timeNanos t < 1000000000 ∧ 0 ≤ timeNanos t ∧ fieldN (encTime80 t) 6 4 < 1000000000) ∧
  (∀ secs ns frac n f : Nat, ns < 1000000000 → frac < 4294967296 → n < 1000000000 → f < 4294967296 →
    let t : Int := ((secs : Int) * secondUnits + ns * nsUnits + frac) + (n * nsUnits + f)
    let m := ns + n + (frac + f) / 4294967296
    timeFraction t = (((frac + f) % 4294967296 : Nat) : Int) ∧
      (m < 1000000000 → timeSeconds t = secs ∧ timeNanos t = m) ∧
      (1000000000 ≤ m → timeSeconds t = secs + 1 ∧ timeNanos t = m - 1000000000))

/-- A tick begins one count and one tick after the one before it, and a realignment moves its device time by the step and counts one; the tick after
a first setting takes the larger of its count by its device time and the next count (R38 to R40). -/
def Obligations.TicksAdvance : Prop :=
  (∀ (shift : Int) (s : State), s.sys.step = none → (s.advance shift).tick = s.nextTick ∧ (s.advance shift).timeNow = s.sys.nextTime ∧
    (s.advance shift).o Obj.tickIndex = timeIndex s.sys.nextTime ∧ (s.advance shift).age = s.age + 1 ∧
    (s.advance shift).sys.window = .none ∧ (s.advance shift).sys.realignTick = false) ∧
  (∀ (shift : Int) (p : StepRequest) (s : State), s.sys.step = some p →
    ((s.sys.realignTick && s.sys.follow == .first) = false → (s.advance shift).tick = s.tick + 1) ∧
    ((s.sys.realignTick && s.sys.follow == .first) = true →
      (s.advance shift).tick = max ((s.sys.nextTime + p.delta) / tickUnits).toNat (s.tick + 1)) ∧
    (s.advance shift).timeNow = s.sys.nextTime + p.delta ∧ (s.advance shift).o Obj.tickIndex = timeIndex (s.sys.nextTime + p.delta) ∧
    (s.advance shift).age = s.age + 1 ∧ (s.advance shift).sys.realignTick = true ∧ (s.advance shift).flag Obj.timescaleSet = true ∧
    (s.advance shift).o Obj.tickRealignments = s.o Obj.tickRealignments + 1)

/-- In WARMUP grove Gk starts at WARMUP tick 64 × k and at no other, and transition 5 needs every grove past STARTING (R56; the other conditions of
the transition are those of R27). -/
def Obligations.GrovesStartInTheirSlots : Prop :=
  (∀ (g : Fin 16) (s : State), s.mode = mWarmup → s.o (Obj.groveState g) = 0 → s.age = 64 * g.val →
    ∃ t, exec (.groveStart g) s = .next t ∧ t.o (Obj.groveState g) = 1) ∧
  (∀ (g : Fin 16) (s : State), s.mode = mWarmup → s.age ≠ 64 * g.val → exec (.groveStart g) s = .next s) ∧
  (∀ s : State, s.warmupDone = true ↔ s.mode = mWarmup ∧ (∀ k, k < 6 → s.pll k = 2) ∧ (∀ g, g < 16 → 2 ≤ s.o (Obj.groveState g)) ∧
    ∃ n, s.sys.sinceLock = some n ∧ s.n Obj.warmupMinS * 8192 < n)

/-- The owner-elect is the only unit holding OWN, else the only unit with TWIN_PREFERRED 1, else the unit with the lower SERIAL (R416). -/
def Obligations.OwnerElect : Prop :=
  ∀ (s : State) (h : Hello),
    (s.flag Obj.twinOwn = true → h.own = false → s.electBy h = true) ∧ (s.flag Obj.twinOwn = false → h.own = true → s.electBy h = false) ∧
    (s.flag Obj.twinOwn = h.own → s.flag Obj.twinPreferred = true → h.preferred = false → s.electBy h = true) ∧
    (s.flag Obj.twinOwn = h.own → s.flag Obj.twinPreferred = false → h.preferred = true → s.electBy h = false) ∧
    (s.flag Obj.twinOwn = h.own → s.flag Obj.twinPreferred = h.preferred →
      s.electBy h = octetsLt (padTo 16 (s.blob Obj.serial)) (padTo 16 h.serial))

/-- The VALUE of a fault notice holds CODE, CLASS, FLAGS, SOURCE and the low 16 bits of SEQ of the fault's log entry (R388). -/
def Obligations.FaultNoticeValue : Prop :=
  ∀ (s : State) (i q : Nat) (r : Report), (s.fault.log.find? fun x => x.2.ident == i) = some (q, r) →
    r.code < 2 ^ 16 → r.cls < 2 ^ 8 → r.flags < 2 ^ 8 → r.source < 2 ^ 16 →
    let v := (s.eventEntry (.faultRaised i)).2
    (s.eventEntry (.faultRaised i)).1 = 1 ∧ v / 2 ^ 48 = r.code ∧ v / 2 ^ 40 % 2 ^ 8 = r.cls ∧ v / 2 ^ 32 % 2 ^ 8 = r.flags ∧
      v / 2 ^ 16 % 2 ^ 16 = r.source ∧ v % 2 ^ 16 = q % 2 ^ 16

/-- A fault of class F enters HALTED, freezes the log and keeps its record in the HALTED registers (R384, R396, R397). -/
def Obligations.FatalFaultsHalt : Prop :=
  ∀ (code source detail : Nat) (row : FaultRow) (s : State), faultRow code = some row → row.cls = 3 → s.mode ≠ mHalted →
    s.fault.frozen = false → (s.faulted code source detail).mode = mHalted ∧ (s.faulted code source detail).fault.frozen = true ∧
      (s.faulted code source detail).fault.fatal.code = code ∧ (s.faulted code source detail).fault.fatal.source = source ∧
      (s.faulted code source detail).fault.fatal.tick = s.tick ∧ (s.faulted code source detail).o Obj.modePrevious = s.mode ∧
      (s.faulted code source detail).o Obj.bobState = 3
end

