-- ==== Sys2Proof/Laws/Frame.lean ====
section
/-!
SUPPORT. Frames by component: which components of the state an operation may change.  A mask has one bit per component,
in the order of the fields of `State`: bit 0 the queue, bit 1 the numeric objects, bit 2 the octet objects, bit 3 the
SRAM, then one bit per unit.  The lemmas here say how frames compose; the files Frames… give the frame of every
operation and command.  To prove such a law again for an operation whose body changed: unfold it, `dsimp only`, `simp only
[State.mk_make]`, and try in turn the lemmas below (`refl`, `mk1`, `of` with the frame of each operation inside, `foldl`, `ite`,
`split`, `decide`) on every goal until none is left.
-/

namespace Sys2Proof.Machine

/-- A state with the components of a mask blanked. -/
def State.hide (m : Nat) (s : State) : State where
  pending := if m.testBit 0 then [] else s.pending
  obj := if m.testBit 1 then [] else s.obj
  blobs := if m.testBit 2 then [] else s.blobs
  mem := if m.testBit 3 then [] else s.mem
  sys := if m.testBit 4 then {} else s.sys
  leap := if m.testBit 5 then {} else s.leap
  fault := if m.testBit 6 then {} else s.fault
  stamp := if m.testBit 7 then {} else s.stamp
  glade := if m.testBit 8 then {} else s.glade
  synth := if m.testBit 9 then {} else s.synth
  canopy := if m.testBit 10 then {} else s.canopy
  net := if m.testBit 11 then {} else s.net
  serv := if m.testBit 12 then {} else s.serv
  vault := if m.testBit 13 then {} else s.vault
  host := if m.testBit 14 then {} else s.host
  shuttle := if m.testBit 15 then {} else s.shuttle
  twin := if m.testBit 16 then {} else s.twin
  record := if m.testBit 17 then {} else s.record
  power := if m.testBit 18 then {} else s.power
  bus := if m.testBit 19 then {} else s.bus

/-- Two states agree on every component outside a mask. -/
def Frame (m : Nat) (r s : State) : Prop := s.hide m = r.hide m

theorem Frame.refl (m : Nat) (s : State) : Frame m s s := rfl

theorem Frame.trans {m : Nat} {r s t : State} (h : Frame m r s) (k : Frame m s t) : Frame m r t := Eq.trans k h

theorem Frame.pending_eq {m : Nat} {r s : State} (h : Frame m r s) (hm : m.testBit 0 = false) : s.pending = r.pending := by
  have := congrArg State.pending h
  simpa [State.hide, hm] using this

theorem Frame.obj_eq {m : Nat} {r s : State} (h : Frame m r s) (hm : m.testBit 1 = false) : s.obj = r.obj := by
  have := congrArg State.obj h
  simpa [State.hide, hm] using this

theorem Frame.blobs_eq {m : Nat} {r s : State} (h : Frame m r s) (hm : m.testBit 2 = false) : s.blobs = r.blobs := by
  have := congrArg State.blobs h
  simpa [State.hide, hm] using this

theorem Frame.mem_eq {m : Nat} {r s : State} (h : Frame m r s) (hm : m.testBit 3 = false) : s.mem = r.mem := by
  have := congrArg State.mem h
  simpa [State.hide, hm] using this

theorem Frame.sys_eq {m : Nat} {r s : State} (h : Frame m r s) (hm : m.testBit 4 = false) : s.sys = r.sys := by
  have := congrArg State.sys h
  simpa [State.hide, hm] using this

theorem Frame.leap_eq {m : Nat} {r s : State} (h : Frame m r s) (hm : m.testBit 5 = false) : s.leap = r.leap := by
  have := congrArg State.leap h
  simpa [State.hide, hm] using this

theorem Frame.fault_eq {m : Nat} {r s : State} (h : Frame m r s) (hm : m.testBit 6 = false) : s.fault = r.fault := by
  have := congrArg State.fault h
  simpa [State.hide, hm] using this

theorem Frame.stamp_eq {m : Nat} {r s : State} (h : Frame m r s) (hm : m.testBit 7 = false) : s.stamp = r.stamp := by
  have := congrArg State.stamp h
  simpa [State.hide, hm] using this

theorem Frame.glade_eq {m : Nat} {r s : State} (h : Frame m r s) (hm : m.testBit 8 = false) : s.glade = r.glade := by
  have := congrArg State.glade h
  simpa [State.hide, hm] using this

theorem Frame.synth_eq {m : Nat} {r s : State} (h : Frame m r s) (hm : m.testBit 9 = false) : s.synth = r.synth := by
  have := congrArg State.synth h
  simpa [State.hide, hm] using this

theorem Frame.canopy_eq {m : Nat} {r s : State} (h : Frame m r s) (hm : m.testBit 10 = false) : s.canopy = r.canopy := by
  have := congrArg State.canopy h
  simpa [State.hide, hm] using this

theorem Frame.net_eq {m : Nat} {r s : State} (h : Frame m r s) (hm : m.testBit 11 = false) : s.net = r.net := by
  have := congrArg State.net h
  simpa [State.hide, hm] using this

theorem Frame.serv_eq {m : Nat} {r s : State} (h : Frame m r s) (hm : m.testBit 12 = false) : s.serv = r.serv := by
  have := congrArg State.serv h
  simpa [State.hide, hm] using this

theorem Frame.vault_eq {m : Nat} {r s : State} (h : Frame m r s) (hm : m.testBit 13 = false) : s.vault = r.vault := by
  have := congrArg State.vault h
  simpa [State.hide, hm] using this

theorem Frame.host_eq {m : Nat} {r s : State} (h : Frame m r s) (hm : m.testBit 14 = false) : s.host = r.host := by
  have := congrArg State.host h
  simpa [State.hide, hm] using this

theorem Frame.shuttle_eq {m : Nat} {r s : State} (h : Frame m r s) (hm : m.testBit 15 = false) : s.shuttle = r.shuttle := by
  have := congrArg State.shuttle h
  simpa [State.hide, hm] using this

theorem Frame.twin_eq {m : Nat} {r s : State} (h : Frame m r s) (hm : m.testBit 16 = false) : s.twin = r.twin := by
  have := congrArg State.twin h
  simpa [State.hide, hm] using this

theorem Frame.record_eq {m : Nat} {r s : State} (h : Frame m r s) (hm : m.testBit 17 = false) : s.record = r.record := by
  have := congrArg State.record h
  simpa [State.hide, hm] using this

theorem Frame.power_eq {m : Nat} {r s : State} (h : Frame m r s) (hm : m.testBit 18 = false) : s.power = r.power := by
  have := congrArg State.power h
  simpa [State.hide, hm] using this

theorem Frame.bus_eq {m : Nat} {r s : State} (h : Frame m r s) (hm : m.testBit 19 = false) : s.bus = r.bus := by
  have := congrArg State.bus h
  simpa [State.hide, hm] using this

/-- Two states agree outside a mask when they agree on each component outside it. -/
theorem Frame.intro {m : Nat} {r s : State}
    (h0 : m.testBit 0 = true ∨ s.pending = r.pending)
    (h1 : m.testBit 1 = true ∨ s.obj = r.obj)
    (h2 : m.testBit 2 = true ∨ s.blobs = r.blobs)
    (h3 : m.testBit 3 = true ∨ s.mem = r.mem)
    (h4 : m.testBit 4 = true ∨ s.sys = r.sys)
    (h5 : m.testBit 5 = true ∨ s.leap = r.leap)
    (h6 : m.testBit 6 = true ∨ s.fault = r.fault)
    (h7 : m.testBit 7 = true ∨ s.stamp = r.stamp)
    (h8 : m.testBit 8 = true ∨ s.glade = r.glade)
    (h9 : m.testBit 9 = true ∨ s.synth = r.synth)
    (h10 : m.testBit 10 = true ∨ s.canopy = r.canopy)
    (h11 : m.testBit 11 = true ∨ s.net = r.net)
    (h12 : m.testBit 12 = true ∨ s.serv = r.serv)
    (h13 : m.testBit 13 = true ∨ s.vault = r.vault)
    (h14 : m.testBit 14 = true ∨ s.host = r.host)
    (h15 : m.testBit 15 = true ∨ s.shuttle = r.shuttle)
    (h16 : m.testBit 16 = true ∨ s.twin = r.twin)
    (h17 : m.testBit 17 = true ∨ s.record = r.record)
    (h18 : m.testBit 18 = true ∨ s.power = r.power)
    (h19 : m.testBit 19 = true ∨ s.bus = r.bus)
    : Frame m r s := by
  unfold Frame State.hide
  congr 1
  · rcases h0 with h | h <;> simp [h]
  · rcases h1 with h | h <;> simp [h]
  · rcases h2 with h | h <;> simp [h]
  · rcases h3 with h | h <;> simp [h]
  · rcases h4 with h | h <;> simp [h]
  · rcases h5 with h | h <;> simp [h]
  · rcases h6 with h | h <;> simp [h]
  · rcases h7 with h | h <;> simp [h]
  · rcases h8 with h | h <;> simp [h]
  · rcases h9 with h | h <;> simp [h]
  · rcases h10 with h | h <;> simp [h]
  · rcases h11 with h | h <;> simp [h]
  · rcases h12 with h | h <;> simp [h]
  · rcases h13 with h | h <;> simp [h]
  · rcases h14 with h | h <;> simp [h]
  · rcases h15 with h | h <;> simp [h]
  · rcases h16 with h | h <;> simp [h]
  · rcases h17 with h | h <;> simp [h]
  · rcases h18 with h | h <;> simp [h]
  · rcases h19 with h | h <;> simp [h]

/-- A larger mask says less. -/
theorem Frame.mono {k m : Nat} {r s : State} (h : Frame k r s) (hm : k ||| m = m) : Frame m r s := by
  have key : ∀ i, m.testBit i = true ∨ k.testBit i = false := by
    intro i
    rw [← hm, Nat.testBit_or]
    cases k.testBit i <;> simp
  apply Frame.intro
  · exact (key 0).imp id h.pending_eq
  · exact (key 1).imp id h.obj_eq
  · exact (key 2).imp id h.blobs_eq
  · exact (key 3).imp id h.mem_eq
  · exact (key 4).imp id h.sys_eq
  · exact (key 5).imp id h.leap_eq
  · exact (key 6).imp id h.fault_eq
  · exact (key 7).imp id h.stamp_eq
  · exact (key 8).imp id h.glade_eq
  · exact (key 9).imp id h.synth_eq
  · exact (key 10).imp id h.canopy_eq
  · exact (key 11).imp id h.net_eq
  · exact (key 12).imp id h.serv_eq
  · exact (key 13).imp id h.vault_eq
  · exact (key 14).imp id h.host_eq
  · exact (key 15).imp id h.shuttle_eq
  · exact (key 16).imp id h.twin_eq
  · exact (key 17).imp id h.record_eq
  · exact (key 18).imp id h.power_eq
  · exact (key 19).imp id h.bus_eq

/-- A frame carried on by an operation with a smaller mask. -/
theorem Frame.of {k m : Nat} {r s t : State} (g : Frame k s t) (h : Frame m r s) (hm : k ||| m = m) : Frame m r t :=
  h.trans (g.mono hm)

/-- The constructor of states, under a name that unification does not see through. -/
def State.make (pending : List Instr) (x1 : Tbl Int) (x2 : Tbl Octets) (x3 : List Host.Cell) (x4 : SysState) (x5 : LeapState) (x6 : FaultState) (x7 : StampState) (x8 : GladeState) (x9 : SynthState) (x10 : CanopyState) (x11 : NetState) (x12 : ServState) (x13 : VaultState) (x14 : HostState) (x15 : ShuttleState) (x16 : TwinState) (x17 : RecordState) (x18 : PowerState) (x19 : BusState) : State := ⟨pending, x1, x2, x3, x4, x5, x6, x7, x8, x9, x10, x11, x12, x13, x14, x15, x16, x17, x18, x19⟩

theorem State.mk_make (pending : List Instr) (x1 : Tbl Int) (x2 : Tbl Octets) (x3 : List Host.Cell) (x4 : SysState) (x5 : LeapState) (x6 : FaultState) (x7 : StampState) (x8 : GladeState) (x9 : SynthState) (x10 : CanopyState) (x11 : NetState) (x12 : ServState) (x13 : VaultState) (x14 : HostState) (x15 : ShuttleState) (x16 : TwinState) (x17 : RecordState) (x18 : PowerState) (x19 : BusState) : State.mk pending x1 x2 x3 x4 x5 x6 x7 x8 x9 x10 x11 x12 x13 x14 x15 x16 x17 x18 x19 = State.make pending x1 x2 x3 x4 x5 x6 x7 x8 x9 x10 x11 x12 x13 x14 x15 x16 x17 x18 x19 :=
  of_eq_true (eq_self (State.make pending x1 x2 x3 x4 x5 x6 x7 x8 x9 x10 x11 x12 x13 x14 x15 x16 x17 x18 x19))

/-- A frame carried on by a record update of components in the mask. -/
theorem Frame.mk1 {m : Nat} {r s : State}
    {x1 : Tbl Int}
    {x2 : Tbl Octets}
    {x3 : List Host.Cell}
    {x4 : SysState}
    {x5 : LeapState}
    {x6 : FaultState}
    {x7 : StampState}
    {x8 : GladeState}
    {x9 : SynthState}
    {x10 : CanopyState}
    {x11 : NetState}
    {x12 : ServState}
    {x13 : VaultState}
    {x14 : HostState}
    {x15 : ShuttleState}
    {x16 : TwinState}
    {x17 : RecordState}
    {x18 : PowerState}
    {x19 : BusState}
    (h : Frame m r s)
    (h1 : m.testBit 1 = true ∨ x1 = s.obj)
    (h2 : m.testBit 2 = true ∨ x2 = s.blobs)
    (h3 : m.testBit 3 = true ∨ x3 = s.mem)
    (h4 : m.testBit 4 = true ∨ x4 = s.sys)
    (h5 : m.testBit 5 = true ∨ x5 = s.leap)
    (h6 : m.testBit 6 = true ∨ x6 = s.fault)
    (h7 : m.testBit 7 = true ∨ x7 = s.stamp)
    (h8 : m.testBit 8 = true ∨ x8 = s.glade)
    (h9 : m.testBit 9 = true ∨ x9 = s.synth)
    (h10 : m.testBit 10 = true ∨ x10 = s.canopy)
    (h11 : m.testBit 11 = true ∨ x11 = s.net)
    (h12 : m.testBit 12 = true ∨ x12 = s.serv)
    (h13 : m.testBit 13 = true ∨ x13 = s.vault)
    (h14 : m.testBit 14 = true ∨ x14 = s.host)
    (h15 : m.testBit 15 = true ∨ x15 = s.shuttle)
    (h16 : m.testBit 16 = true ∨ x16 = s.twin)
    (h17 : m.testBit 17 = true ∨ x17 = s.record)
    (h18 : m.testBit 18 = true ∨ x18 = s.power)
    (h19 : m.testBit 19 = true ∨ x19 = s.bus)
    : Frame m r (State.make s.pending x1 x2 x3 x4 x5 x6 x7 x8 x9 x10 x11 x12 x13 x14 x15 x16 x17 x18 x19) :=
  h.trans (Frame.intro (Or.inr rfl) h1 h2 h3 h4 h5 h6 h7 h8 h9 h10 h11 h12 h13 h14 h15 h16 h17 h18 h19)

theorem Frame.up1 {m : Nat} {r s : State} {x : Tbl Int} (h : Frame m r s) (k : m.testBit 1 = true) :
    Frame m r (State.make s.pending x s.blobs s.mem s.sys s.leap s.fault s.stamp s.glade s.synth s.canopy s.net s.serv s.vault s.host s.shuttle s.twin s.record s.power s.bus) :=
  h.trans (Frame.intro (.inr rfl) (.inl k) (.inr rfl) (.inr rfl) (.inr rfl) (.inr rfl) (.inr rfl) (.inr rfl) (.inr rfl) (.inr rfl) (.inr rfl) (.inr rfl) (.inr rfl) (.inr rfl) (.inr rfl) (.inr rfl) (.inr rfl) (.inr rfl) (.inr rfl) (.inr rfl))

theorem Frame.up2 {m : Nat} {r s : State} {x : Tbl Octets} (h : Frame m r s) (k : m.testBit 2 = true) :
    Frame m r (State.make s.pending s.obj x s.mem s.sys s.leap s.fault s.stamp s.glade s.synth s.canopy s.net s.serv s.vault s.host s.shuttle s.twin s.record s.power s.bus) :=
  h.trans (Frame.intro (.inr rfl) (.inr rfl) (.inl k) (.inr rfl) (.inr rfl) (.inr rfl) (.inr rfl) (.inr rfl) (.inr rfl) (.inr rfl) (.inr rfl) (.inr rfl) (.inr rfl) (.inr rfl) (.inr rfl) (.inr rfl) (.inr rfl) (.inr rfl) (.inr rfl) (.inr rfl))

theorem Frame.up3 {m : Nat} {r s : State} {x : List Host.Cell} (h : Frame m r s) (k : m.testBit 3 = true) :
    Frame m r (State.make s.pending s.obj s.blobs x s.sys s.leap s.fault s.stamp s.glade s.synth s.canopy s.net s.serv s.vault s.host s.shuttle s.twin s.record s.power s.bus) :=
  h.trans (Frame.intro (.inr rfl) (.inr rfl) (.inr rfl) (.inl k) (.inr rfl) (.inr rfl) (.inr rfl) (.inr rfl) (.inr rfl) (.inr rfl) (.inr rfl) (.inr rfl) (.inr rfl) (.inr rfl) (.inr rfl) (.inr rfl) (.inr rfl) (.inr rfl) (.inr rfl) (.inr rfl))

theorem Frame.up4 {m : Nat} {r s : State} {x : SysState} (h : Frame m r s) (k : m.testBit 4 = true) :
    Frame m r (State.make s.pending s.obj s.blobs s.mem x s.leap s.fault s.stamp s.glade s.synth s.canopy s.net s.serv s.vault s.host s.shuttle s.twin s.record s.power s.bus) :=
  h.trans (Frame.intro (.inr rfl) (.inr rfl) (.inr rfl) (.inr rfl) (.inl k) (.inr rfl) (.inr rfl) (.inr rfl) (.inr rfl) (.inr rfl) (.inr rfl) (.inr rfl) (.inr rfl) (.inr rfl) (.inr rfl) (.inr rfl) (.inr rfl) (.inr rfl) (.inr rfl) (.inr rfl))

theorem Frame.up5 {m : Nat} {r s : State} {x : LeapState} (h : Frame m r s) (k : m.testBit 5 = true) :
    Frame m r (State.make s.pending s.obj s.blobs s.mem s.sys x s.fault s.stamp s.glade s.synth s.canopy s.net s.serv s.vault s.host s.shuttle s.twin s.record s.power s.bus) :=
  h.trans (Frame.intro (.inr rfl) (.inr rfl) (.inr rfl) (.inr rfl) (.inr rfl) (.inl k) (.inr rfl) (.inr rfl) (.inr rfl) (.inr rfl) (.inr rfl) (.inr rfl) (.inr rfl) (.inr rfl) (.inr rfl) (.inr rfl) (.inr rfl) (.inr rfl) (.inr rfl) (.inr rfl))

theorem Frame.up6 {m : Nat} {r s : State} {x : FaultState} (h : Frame m r s) (k : m.testBit 6 = true) :
    Frame m r (State.make s.pending s.obj s.blobs s.mem s.sys s.leap x s.stamp s.glade s.synth s.canopy s.net s.serv s.vault s.host s.shuttle s.twin s.record s.power s.bus) :=
  h.trans (Frame.intro (.inr rfl) (.inr rfl) (.inr rfl) (.inr rfl) (.inr rfl) (.inr rfl) (.inl k) (.inr rfl) (.inr rfl) (.inr rfl) (.inr rfl) (.inr rfl) (.inr rfl) (.inr rfl) (.inr rfl) (.inr rfl) (.inr rfl) (.inr rfl) (.inr rfl) (.inr rfl))

theorem Frame.up7 {m : Nat} {r s : State} {x : StampState} (h : Frame m r s) (k : m.testBit 7 = true) :
    Frame m r (State.make s.pending s.obj s.blobs s.mem s.sys s.leap s.fault x s.glade s.synth s.canopy s.net s.serv s.vault s.host s.shuttle s.twin s.record s.power s.bus) :=
  h.trans (Frame.intro (.inr rfl) (.inr rfl) (.inr rfl) (.inr rfl) (.inr rfl) (.inr rfl) (.inr rfl) (.inl k) (.inr rfl) (.inr rfl) (.inr rfl) (.inr rfl) (.inr rfl) (.inr rfl) (.inr rfl) (.inr rfl) (.inr rfl) (.inr rfl) (.inr rfl) (.inr rfl))

theorem Frame.up8 {m : Nat} {r s : State} {x : GladeState} (h : Frame m r s) (k : m.testBit 8 = true) :
    Frame m r (State.make s.pending s.obj s.blobs s.mem s.sys s.leap s.fault s.stamp x s.synth s.canopy s.net s.serv s.vault s.host s.shuttle s.twin s.record s.power s.bus) :=
  h.trans (Frame.intro (.inr rfl) (.inr rfl) (.inr rfl) (.inr rfl) (.inr rfl) (.inr rfl) (.inr rfl) (.inr rfl) (.inl k) (.inr rfl) (.inr rfl) (.inr rfl) (.inr rfl) (.inr rfl) (.inr rfl) (.inr rfl) (.inr rfl) (.inr rfl) (.inr rfl) (.inr rfl))

theorem Frame.up9 {m : Nat} {r s : State} {x : SynthState} (h : Frame m r s) (k : m.testBit 9 = true) :
    Frame m r (State.make s.pending s.obj s.blobs s.mem s.sys s.leap s.fault s.stamp s.glade x s.canopy s.net s.serv s.vault s.host s.shuttle s.twin s.record s.power s.bus) :=
  h.trans (Frame.intro (.inr rfl) (.inr rfl) (.inr rfl) (.inr rfl) (.inr rfl) (.inr rfl) (.inr rfl) (.inr rfl) (.inr rfl) (.inl k) (.inr rfl) (.inr rfl) (.inr rfl) (.inr rfl) (.inr rfl) (.inr rfl) (.inr rfl) (.inr rfl) (.inr rfl) (.inr rfl))

theorem Frame.up10 {m : Nat} {r s : State} {x : CanopyState} (h : Frame m r s) (k : m.testBit 10 = true) :
    Frame m r (State.make s.pending s.obj s.blobs s.mem s.sys s.leap s.fault s.stamp s.glade s.synth x s.net s.serv s.vault s.host s.shuttle s.twin s.record s.power s.bus) :=
  h.trans (Frame.intro (.inr rfl) (.inr rfl) (.inr rfl) (.inr rfl) (.inr rfl) (.inr rfl) (.inr rfl) (.inr rfl) (.inr rfl) (.inr rfl) (.inl k) (.inr rfl) (.inr rfl) (.inr rfl) (.inr rfl) (.inr rfl) (.inr rfl) (.inr rfl) (.inr rfl) (.inr rfl))

theorem Frame.up11 {m : Nat} {r s : State} {x : NetState} (h : Frame m r s) (k : m.testBit 11 = true) :
    Frame m r (State.make s.pending s.obj s.blobs s.mem s.sys s.leap s.fault s.stamp s.glade s.synth s.canopy x s.serv s.vault s.host s.shuttle s.twin s.record s.power s.bus) :=
  h.trans (Frame.intro (.inr rfl) (.inr rfl) (.inr rfl) (.inr rfl) (.inr rfl) (.inr rfl) (.inr rfl) (.inr rfl) (.inr rfl) (.inr rfl) (.inr rfl) (.inl k) (.inr rfl) (.inr rfl) (.inr rfl) (.inr rfl) (.inr rfl) (.inr rfl) (.inr rfl) (.inr rfl))

theorem Frame.up12 {m : Nat} {r s : State} {x : ServState} (h : Frame m r s) (k : m.testBit 12 = true) :
    Frame m r (State.make s.pending s.obj s.blobs s.mem s.sys s.leap s.fault s.stamp s.glade s.synth s.canopy s.net x s.vault s.host s.shuttle s.twin s.record s.power s.bus) :=
  h.trans (Frame.intro (.inr rfl) (.inr rfl) (.inr rfl) (.inr rfl) (.inr rfl) (.inr rfl) (.inr rfl) (.inr rfl) (.inr rfl) (.inr rfl) (.inr rfl) (.inr rfl) (.inl k) (.inr rfl) (.inr rfl) (.inr rfl) (.inr rfl) (.inr rfl) (.inr rfl) (.inr rfl))

theorem Frame.up13 {m : Nat} {r s : State} {x : VaultState} (h : Frame m r s) (k : m.testBit 13 = true) :
    Frame m r (State.make s.pending s.obj s.blobs s.mem s.sys s.leap s.fault s.stamp s.glade s.synth s.canopy s.net s.serv x s.host s.shuttle s.twin s.record s.power s.bus) :=
  h.trans (Frame.intro (.inr rfl) (.inr rfl) (.inr rfl) (.inr rfl) (.inr rfl) (.inr rfl) (.inr rfl) (.inr rfl) (.inr rfl) (.inr rfl) (.inr rfl) (.inr rfl) (.inr rfl) (.inl k) (.inr rfl) (.inr rfl) (.inr rfl) (.inr rfl) (.inr rfl) (.inr rfl))

theorem Frame.up14 {m : Nat} {r s : State} {x : HostState} (h : Frame m r s) (k : m.testBit 14 = true) :
    Frame m r (State.make s.pending s.obj s.blobs s.mem s.sys s.leap s.fault s.stamp s.glade s.synth s.canopy s.net s.serv s.vault x s.shuttle s.twin s.record s.power s.bus) :=
  h.trans (Frame.intro (.inr rfl) (.inr rfl) (.inr rfl) (.inr rfl) (.inr rfl) (.inr rfl) (.inr rfl) (.inr rfl) (.inr rfl) (.inr rfl) (.inr rfl) (.inr rfl) (.inr rfl) (.inr rfl) (.inl k) (.inr rfl) (.inr rfl) (.inr rfl) (.inr rfl) (.inr rfl))

theorem Frame.up15 {m : Nat} {r s : State} {x : ShuttleState} (h : Frame m r s) (k : m.testBit 15 = true) :
    Frame m r (State.make s.pending s.obj s.blobs s.mem s.sys s.leap s.fault s.stamp s.glade s.synth s.canopy s.net s.serv s.vault s.host x s.twin s.record s.power s.bus) :=
  h.trans (Frame.intro (.inr rfl) (.inr rfl) (.inr rfl) (.inr rfl) (.inr rfl) (.inr rfl) (.inr rfl) (.inr rfl) (.inr rfl) (.inr rfl) (.inr rfl) (.inr rfl) (.inr rfl) (.inr rfl) (.inr rfl) (.inl k) (.inr rfl) (.inr rfl) (.inr rfl) (.inr rfl))

theorem Frame.up16 {m : Nat} {r s : State} {x : TwinState} (h : Frame m r s) (k : m.testBit 16 = true) :
    Frame m r (State.make s.pending s.obj s.blobs s.mem s.sys s.leap s.fault s.stamp s.glade s.synth s.canopy s.net s.serv s.vault s.host s.shuttle x s.record s.power s.bus) :=
  h.trans (Frame.intro (.inr rfl) (.inr rfl) (.inr rfl) (.inr rfl) (.inr rfl) (.inr rfl) (.inr rfl) (.inr rfl) (.inr rfl) (.inr rfl) (.inr rfl) (.inr rfl) (.inr rfl) (.inr rfl) (.inr rfl) (.inr rfl) (.inl k) (.inr rfl) (.inr rfl) (.inr rfl))

theorem Frame.up17 {m : Nat} {r s : State} {x : RecordState} (h : Frame m r s) (k : m.testBit 17 = true) :
    Frame m r (State.make s.pending s.obj s.blobs s.mem s.sys s.leap s.fault s.stamp s.glade s.synth s.canopy s.net s.serv s.vault s.host s.shuttle s.twin x s.power s.bus) :=
  h.trans (Frame.intro (.inr rfl) (.inr rfl) (.inr rfl) (.inr rfl) (.inr rfl) (.inr rfl) (.inr rfl) (.inr rfl) (.inr rfl) (.inr rfl) (.inr rfl) (.inr rfl) (.inr rfl) (.inr rfl) (.inr rfl) (.inr rfl) (.inr rfl) (.inl k) (.inr rfl) (.inr rfl))

theorem Frame.up18 {m : Nat} {r s : State} {x : PowerState} (h : Frame m r s) (k : m.testBit 18 = true) :
    Frame m r (State.make s.pending s.obj s.blobs s.mem s.sys s.leap s.fault s.stamp s.glade s.synth s.canopy s.net s.serv s.vault s.host s.shuttle s.twin s.record x s.bus) :=
  h.trans (Frame.intro (.inr rfl) (.inr rfl) (.inr rfl) (.inr rfl) (.inr rfl) (.inr rfl) (.inr rfl) (.inr rfl) (.inr rfl) (.inr rfl) (.inr rfl) (.inr rfl) (.inr rfl) (.inr rfl) (.inr rfl) (.inr rfl) (.inr rfl) (.inr rfl) (.inl k) (.inr rfl))

theorem Frame.up19 {m : Nat} {r s : State} {x : BusState} (h : Frame m r s) (k : m.testBit 19 = true) :
    Frame m r (State.make s.pending s.obj s.blobs s.mem s.sys s.leap s.fault s.stamp s.glade s.synth s.canopy s.net s.serv s.vault s.host s.shuttle s.twin s.record s.power x) :=
  h.trans (Frame.intro (.inr rfl) (.inr rfl) (.inr rfl) (.inr rfl) (.inr rfl) (.inr rfl) (.inr rfl) (.inr rfl) (.inr rfl) (.inr rfl) (.inr rfl) (.inr rfl) (.inr rfl) (.inr rfl) (.inr rfl) (.inr rfl) (.inr rfl) (.inr rfl) (.inr rfl) (.inl k))

/-- A frame carried on by a fold. -/
theorem Frame.foldl {α : Type} {m : Nat} {r s : State} {f : State → α → State} {l : List α} (k : ∀ t x, Frame m t (f t x))
    (h : Frame m r s) : Frame m r (l.foldl f s) := by
  induction l generalizing s with
  | nil => exact h
  | cons x l ih => exact ih (h.trans (k s x))

/-- A frame carried on by an if. -/
theorem Frame.ite {m : Nat} {r a b : State} {c : Prop} {d : Decidable c} (h : Frame m r a) (k : Frame m r b) :
    Frame m r (if c then a else b) := by
  split <;> assumption

/-- A frame carried on over the channels of Glade. -/
theorem State.forChans_frame {m : Nat} {r s : State} {f : State → Nat → State} (k : ∀ t x, Frame m t (f t x)) (h : Frame m r s) :
    Frame m r (s.forChans f) := Frame.foldl k h

/-- A frame carried on by a fold whose accumulator holds the state first. -/
theorem Frame.foldlFst {α β : Type} {m : Nat} {r : State} {f : State × β → α → State × β} {l : List α} {p : State × β}
    (k : ∀ q x, Frame m q.1 (f q x).1) (h : Frame m r p.1) : Frame m r (l.foldl f p).1 := by
  induction l generalizing p with
  | nil => exact h
  | cons x l ih => exact ih (h.trans (k p x))

theorem Frame.orBit {k m i : Nat} {p : Prop} (hm : k ||| m = m) (hb : k.testBit i = true) : m.testBit i = true ∨ p := by
  left
  rw [← hm, Nat.testBit_or, hb, Bool.true_or]

theorem Frame.orMask {j k m : Nat} (hm : k ||| m = m) (hj : j ||| k = k) : j ||| m = m := by
  rw [← hm, ← Nat.or_assoc, hj]

/-- A frame carried on by an if of pairs. -/
theorem Frame.iteFst {β : Type} {m : Nat} {r : State} {a b : State × β} {c : Prop} {d : Decidable c} (h : Frame m r a.1)
    (k : Frame m r b.1) : Frame m r (if c then a else b).1 := by
  split <;> assumption

/-- The state of a pair. -/
theorem Frame.fst {α : Type} {m : Nat} {r a : State} {p : State × α} {b : α} (e : p = (a, b)) (h : Frame m r p.1) : Frame m r a := by
  rw [e] at h
  exact h

/-- The outcome of a command, where it is a next state, agrees with the state before outside a mask. -/
def FrameO (m : Nat) (r : State) (o : Host.Outcome State Fault Refusal) : Prop := ∀ t, o = .next t → Frame m r t

theorem FrameO.next {m : Nat} {r s : State} (h : Frame m r s) : FrameO m r (.next s) := by
  intro t e
  cases e
  exact h

theorem FrameO.of {k m : Nat} {r s : State} {o : Host.Outcome State Fault Refusal} (g : FrameO k s o) (h : Frame m r s)
    (hm : k ||| m = m) : FrameO m r o := fun t e => Frame.of (g t e) h hm

theorem FrameO.fault (m : Nat) (r : State) (f : Fault) : FrameO m r (.fault f) := by
  intro t e
  cases e

end Sys2Proof.Machine
end

