-- ==== Sys2Proof/Laws/Sparse.lean ====
section
/-!
SUPPORT. Sparse tables: reading after writing, and the canonical form.
-/

namespace Sys2Proof.Machine

variable {α : Type}

/-- Looking up a key after inserting it in a table that does not hold it. -/
theorem Sparse.lookup_insert_self (t : Tbl α) (k : Nat) (v : α) (h : ∀ p ∈ t, p.1 ≠ k) : (Sparse.insert k v t).lookup k = some v := by
  induction t with
  | nil => simp [Sparse.insert]
  | cons p t ih =>
    unfold Sparse.insert
    split
    · simp
    · have hp : (k == p.1) = false := by
        have := h p (by simp)
        simpa using Ne.symm this
      obtain ⟨a, b⟩ := p
      rw [List.lookup_cons]
      simp only [hp]
      exact ih fun q hq => h q (by simp [hq])

/-- Inserting a key leaves the other keys as they are. -/
theorem Sparse.lookup_insert_ne (t : Tbl α) (k j : Nat) (v : α) (h : j ≠ k) : (Sparse.insert k v t).lookup j = t.lookup j := by
  induction t with
  | nil =>
    have : (j == k) = false := by simpa using h
    simp [Sparse.insert, List.lookup_cons, this]
  | cons p t ih =>
    unfold Sparse.insert
    split
    · have : (j == k) = false := by simpa using h
      rw [List.lookup_cons, this]
    · obtain ⟨a, b⟩ := p
      rw [List.lookup_cons, List.lookup_cons, ih]

/-- Removing a key leaves the other keys as they are. -/
theorem Sparse.lookup_erase_ne (t : Tbl α) (k j : Nat) (h : j ≠ k) : (Sparse.erase t k).lookup j = t.lookup j := by
  induction t with
  | nil => rfl
  | cons p t ih =>
    obtain ⟨a, b⟩ := p
    unfold Sparse.erase at *
    rw [List.filter_cons]
    split
    · rw [List.lookup_cons, List.lookup_cons, ih]
    · rename_i hk
      have hk' : a = k := by simpa using hk
      have : (j == a) = false := by simpa [hk'] using h
      rw [List.lookup_cons, this, ih]

theorem Sparse.lookup_erase_self (t : Tbl α) (k : Nat) : (Sparse.erase t k).lookup k = none := by
  induction t with
  | nil => rfl
  | cons p t ih =>
    obtain ⟨a, b⟩ := p
    unfold Sparse.erase at *
    rw [List.filter_cons]
    split
    · rename_i hk
      have hk' : a ≠ k := by simpa using hk
      have : (k == a) = false := by simpa using Ne.symm hk'
      rw [List.lookup_cons, this]
      exact ih
    · exact ih

theorem Sparse.not_mem_erase (t : Tbl α) (k : Nat) : ∀ p ∈ Sparse.erase t k, p.1 ≠ k := by
  intro p hp
  simpa using (List.mem_filter.mp hp).2

variable [DecidableEq α]

/-- Reading the key just written gives the value written. -/
@[simp] theorem Sparse.get_put_self (d : Nat → α) (t : Tbl α) (k : Nat) (v : α) : Sparse.get d (Sparse.put d t k v) k = v := by
  unfold Sparse.get Sparse.put
  split
  · rename_i h
    rw [Sparse.lookup_erase_self, h]
    rfl
  · rw [Sparse.lookup_insert_self _ _ _ (Sparse.not_mem_erase t k)]
    rfl

/-- Reading another key gives what it gave before. -/
theorem Sparse.get_put_ne (d : Nat → α) (t : Tbl α) {k j : Nat} (v : α) (h : j ≠ k) :
    Sparse.get d (Sparse.put d t k v) j = Sparse.get d t j := by
  unfold Sparse.get Sparse.put
  split
  · rw [Sparse.lookup_erase_ne _ _ _ h]
  · rw [Sparse.lookup_insert_ne _ _ _ _ h, Sparse.lookup_erase_ne _ _ _ h]

/-- The canonical form, as a property of the list: no entry at its default, and keys rising. -/
theorem Sparse.wf_iff (d : Nat → α) (t : Tbl α) :
    Sparse.wf d t = true ↔ (∀ p ∈ t, p.2 ≠ d p.1) ∧ t.Pairwise fun p q => p.1 < q.1 := by
  induction t with
  | nil => simp [Sparse.wf]
  | cons p t ih =>
    cases t with
    | nil => simp [Sparse.wf]
    | cons q t =>
      simp only [Sparse.wf, Bool.and_eq_true, decide_eq_true_eq, ih, List.pairwise_cons, List.mem_cons]
      constructor
      · rintro ⟨⟨h1, h2⟩, h3, h4, h5⟩
        refine ⟨?_, ?_, h4, h5⟩
        · rintro a (rfl | ha)
          · simpa using h1
          · exact h3 a ha
        · rintro a (rfl | ha)
          · exact h2
          · exact Nat.lt_trans h2 (h4 a ha)
      · rintro ⟨h1, h2, h4, h5⟩
        refine ⟨⟨?_, h2 q (Or.inl rfl)⟩, ?_, h4, h5⟩
        · simpa using h1 p (Or.inl rfl)
        · intro a ha
          exact h1 a (Or.inr ha)

omit [DecidableEq α] in
/-- The entries of a table after an insertion. -/
theorem Sparse.mem_insert (t : Tbl α) (k : Nat) (v : α) (p : Nat × α) : p ∈ Sparse.insert k v t ↔ p = (k, v) ∨ p ∈ t := by
  induction t with
  | nil => simp [Sparse.insert]
  | cons q t ih =>
    unfold Sparse.insert
    split
    · simp
    · simp only [List.mem_cons, ih]
      exact or_left_comm

/-- A write keeps the canonical form. -/
theorem Sparse.wf_put (d : Nat → α) (t : Tbl α) (k : Nat) (v : α) (h : Sparse.wf d t = true) : Sparse.wf d (Sparse.put d t k v) = true := by
  rw [Sparse.wf_iff] at *
  have he : (∀ p ∈ Sparse.erase t k, p.2 ≠ d p.1) ∧ (Sparse.erase t k).Pairwise fun p q => p.1 < q.1 :=
    ⟨fun p hp => h.1 p (List.mem_filter.mp hp).1, h.2.filter _⟩
  unfold Sparse.put
  split
  · exact he
  · rename_i hv
    refine ⟨?_, ?_⟩
    · intro p hp
      rcases (Sparse.mem_insert _ _ _ _).mp hp with rfl | hp
      · exact hv
      · exact he.1 p hp
    · have hn := Sparse.not_mem_erase t k
      revert hn
      generalize Sparse.erase t k = u at he
      intro hn
      have hu := he.2
      clear he
      induction u with
      | nil => simp [Sparse.insert]
      | cons q u ih =>
        unfold Sparse.insert
        rw [List.pairwise_cons] at hu
        split
        · rename_i hk
          rw [List.pairwise_cons]
          refine ⟨?_, List.pairwise_cons.mpr hu⟩
          intro a ha
          rcases List.mem_cons.mp ha with rfl | ha
          · exact hk
          · exact Nat.lt_trans hk (hu.1 a ha)
        · rename_i hk
          rw [List.pairwise_cons]
          refine ⟨?_, ih (fun p hp => hn p (List.mem_cons_of_mem _ hp)) hu.2⟩
          intro a ha
          rcases (Sparse.mem_insert _ _ _ _).mp ha with rfl | ha
          · have := hn q (by simp)
            show q.1 < k
            omega
          · exact hu.1 a ha

end Sys2Proof.Machine
end

