-- ==== Sys2Proof/Laws/State.lean ====
section
/-!
SUPPORT. Reading the state after its basic updates: one lemma per component and update, and the laws of the objects, of the
octet objects and of the SRAM.
-/

namespace Sys2Proof.Machine.State

@[simp] theorem setO_pending (s : State) (k : Nat) (v : Int) : (s.setO k v).pending = s.pending := rfl
@[simp] theorem setO_blobs (s : State) (k : Nat) (v : Int) : (s.setO k v).blobs = s.blobs := rfl
@[simp] theorem setO_mem (s : State) (k : Nat) (v : Int) : (s.setO k v).mem = s.mem := rfl
@[simp] theorem setO_sys (s : State) (k : Nat) (v : Int) : (s.setO k v).sys = s.sys := rfl
@[simp] theorem setO_leap (s : State) (k : Nat) (v : Int) : (s.setO k v).leap = s.leap := rfl
@[simp] theorem setO_fault (s : State) (k : Nat) (v : Int) : (s.setO k v).fault = s.fault := rfl
@[simp] theorem setO_stamp (s : State) (k : Nat) (v : Int) : (s.setO k v).stamp = s.stamp := rfl
@[simp] theorem setO_glade (s : State) (k : Nat) (v : Int) : (s.setO k v).glade = s.glade := rfl
@[simp] theorem setO_synth (s : State) (k : Nat) (v : Int) : (s.setO k v).synth = s.synth := rfl
@[simp] theorem setO_canopy (s : State) (k : Nat) (v : Int) : (s.setO k v).canopy = s.canopy := rfl
@[simp] theorem setO_net (s : State) (k : Nat) (v : Int) : (s.setO k v).net = s.net := rfl
@[simp] theorem setO_serv (s : State) (k : Nat) (v : Int) : (s.setO k v).serv = s.serv := rfl
@[simp] theorem setO_vault (s : State) (k : Nat) (v : Int) : (s.setO k v).vault = s.vault := rfl
@[simp] theorem setO_host (s : State) (k : Nat) (v : Int) : (s.setO k v).host = s.host := rfl
@[simp] theorem setO_shuttle (s : State) (k : Nat) (v : Int) : (s.setO k v).shuttle = s.shuttle := rfl
@[simp] theorem setO_twin (s : State) (k : Nat) (v : Int) : (s.setO k v).twin = s.twin := rfl
@[simp] theorem setO_record (s : State) (k : Nat) (v : Int) : (s.setO k v).record = s.record := rfl
@[simp] theorem setO_power (s : State) (k : Nat) (v : Int) : (s.setO k v).power = s.power := rfl
@[simp] theorem setO_bus (s : State) (k : Nat) (v : Int) : (s.setO k v).bus = s.bus := rfl

@[simp] theorem setN_pending (s : State) (k v : Nat) : (s.setN k v).pending = s.pending := rfl
@[simp] theorem setN_blobs (s : State) (k v : Nat) : (s.setN k v).blobs = s.blobs := rfl
@[simp] theorem setN_mem (s : State) (k v : Nat) : (s.setN k v).mem = s.mem := rfl
@[simp] theorem setN_sys (s : State) (k v : Nat) : (s.setN k v).sys = s.sys := rfl
@[simp] theorem setN_leap (s : State) (k v : Nat) : (s.setN k v).leap = s.leap := rfl
@[simp] theorem setN_fault (s : State) (k v : Nat) : (s.setN k v).fault = s.fault := rfl
@[simp] theorem setN_stamp (s : State) (k v : Nat) : (s.setN k v).stamp = s.stamp := rfl
@[simp] theorem setN_glade (s : State) (k v : Nat) : (s.setN k v).glade = s.glade := rfl
@[simp] theorem setN_synth (s : State) (k v : Nat) : (s.setN k v).synth = s.synth := rfl
@[simp] theorem setN_canopy (s : State) (k v : Nat) : (s.setN k v).canopy = s.canopy := rfl
@[simp] theorem setN_net (s : State) (k v : Nat) : (s.setN k v).net = s.net := rfl
@[simp] theorem setN_serv (s : State) (k v : Nat) : (s.setN k v).serv = s.serv := rfl
@[simp] theorem setN_vault (s : State) (k v : Nat) : (s.setN k v).vault = s.vault := rfl
@[simp] theorem setN_host (s : State) (k v : Nat) : (s.setN k v).host = s.host := rfl
@[simp] theorem setN_shuttle (s : State) (k v : Nat) : (s.setN k v).shuttle = s.shuttle := rfl
@[simp] theorem setN_twin (s : State) (k v : Nat) : (s.setN k v).twin = s.twin := rfl
@[simp] theorem setN_record (s : State) (k v : Nat) : (s.setN k v).record = s.record := rfl
@[simp] theorem setN_power (s : State) (k v : Nat) : (s.setN k v).power = s.power := rfl
@[simp] theorem setN_bus (s : State) (k v : Nat) : (s.setN k v).bus = s.bus := rfl

@[simp] theorem setF_pending (s : State) (k : Nat) (b : Bool) : (s.setF k b).pending = s.pending := rfl
@[simp] theorem setF_blobs (s : State) (k : Nat) (b : Bool) : (s.setF k b).blobs = s.blobs := rfl
@[simp] theorem setF_mem (s : State) (k : Nat) (b : Bool) : (s.setF k b).mem = s.mem := rfl
@[simp] theorem setF_sys (s : State) (k : Nat) (b : Bool) : (s.setF k b).sys = s.sys := rfl
@[simp] theorem setF_leap (s : State) (k : Nat) (b : Bool) : (s.setF k b).leap = s.leap := rfl
@[simp] theorem setF_fault (s : State) (k : Nat) (b : Bool) : (s.setF k b).fault = s.fault := rfl
@[simp] theorem setF_stamp (s : State) (k : Nat) (b : Bool) : (s.setF k b).stamp = s.stamp := rfl
@[simp] theorem setF_glade (s : State) (k : Nat) (b : Bool) : (s.setF k b).glade = s.glade := rfl
@[simp] theorem setF_synth (s : State) (k : Nat) (b : Bool) : (s.setF k b).synth = s.synth := rfl
@[simp] theorem setF_canopy (s : State) (k : Nat) (b : Bool) : (s.setF k b).canopy = s.canopy := rfl
@[simp] theorem setF_net (s : State) (k : Nat) (b : Bool) : (s.setF k b).net = s.net := rfl
@[simp] theorem setF_serv (s : State) (k : Nat) (b : Bool) : (s.setF k b).serv = s.serv := rfl
@[simp] theorem setF_vault (s : State) (k : Nat) (b : Bool) : (s.setF k b).vault = s.vault := rfl
@[simp] theorem setF_host (s : State) (k : Nat) (b : Bool) : (s.setF k b).host = s.host := rfl
@[simp] theorem setF_shuttle (s : State) (k : Nat) (b : Bool) : (s.setF k b).shuttle = s.shuttle := rfl
@[simp] theorem setF_twin (s : State) (k : Nat) (b : Bool) : (s.setF k b).twin = s.twin := rfl
@[simp] theorem setF_record (s : State) (k : Nat) (b : Bool) : (s.setF k b).record = s.record := rfl
@[simp] theorem setF_power (s : State) (k : Nat) (b : Bool) : (s.setF k b).power = s.power := rfl
@[simp] theorem setF_bus (s : State) (k : Nat) (b : Bool) : (s.setF k b).bus = s.bus := rfl

@[simp] theorem addN_pending (s : State) (k d : Nat) : (s.addN k d).pending = s.pending := rfl
@[simp] theorem addN_blobs (s : State) (k d : Nat) : (s.addN k d).blobs = s.blobs := rfl
@[simp] theorem addN_mem (s : State) (k d : Nat) : (s.addN k d).mem = s.mem := rfl
@[simp] theorem addN_sys (s : State) (k d : Nat) : (s.addN k d).sys = s.sys := rfl
@[simp] theorem addN_leap (s : State) (k d : Nat) : (s.addN k d).leap = s.leap := rfl
@[simp] theorem addN_fault (s : State) (k d : Nat) : (s.addN k d).fault = s.fault := rfl
@[simp] theorem addN_stamp (s : State) (k d : Nat) : (s.addN k d).stamp = s.stamp := rfl
@[simp] theorem addN_glade (s : State) (k d : Nat) : (s.addN k d).glade = s.glade := rfl
@[simp] theorem addN_synth (s : State) (k d : Nat) : (s.addN k d).synth = s.synth := rfl
@[simp] theorem addN_canopy (s : State) (k d : Nat) : (s.addN k d).canopy = s.canopy := rfl
@[simp] theorem addN_net (s : State) (k d : Nat) : (s.addN k d).net = s.net := rfl
@[simp] theorem addN_serv (s : State) (k d : Nat) : (s.addN k d).serv = s.serv := rfl
@[simp] theorem addN_vault (s : State) (k d : Nat) : (s.addN k d).vault = s.vault := rfl
@[simp] theorem addN_host (s : State) (k d : Nat) : (s.addN k d).host = s.host := rfl
@[simp] theorem addN_shuttle (s : State) (k d : Nat) : (s.addN k d).shuttle = s.shuttle := rfl
@[simp] theorem addN_twin (s : State) (k d : Nat) : (s.addN k d).twin = s.twin := rfl
@[simp] theorem addN_record (s : State) (k d : Nat) : (s.addN k d).record = s.record := rfl
@[simp] theorem addN_power (s : State) (k d : Nat) : (s.addN k d).power = s.power := rfl
@[simp] theorem addN_bus (s : State) (k d : Nat) : (s.addN k d).bus = s.bus := rfl

@[simp] theorem inc_pending (s : State) (k : Nat) : (s.inc k).pending = s.pending := rfl
@[simp] theorem inc_blobs (s : State) (k : Nat) : (s.inc k).blobs = s.blobs := rfl
@[simp] theorem inc_mem (s : State) (k : Nat) : (s.inc k).mem = s.mem := rfl
@[simp] theorem inc_sys (s : State) (k : Nat) : (s.inc k).sys = s.sys := rfl
@[simp] theorem inc_leap (s : State) (k : Nat) : (s.inc k).leap = s.leap := rfl
@[simp] theorem inc_fault (s : State) (k : Nat) : (s.inc k).fault = s.fault := rfl
@[simp] theorem inc_stamp (s : State) (k : Nat) : (s.inc k).stamp = s.stamp := rfl
@[simp] theorem inc_glade (s : State) (k : Nat) : (s.inc k).glade = s.glade := rfl
@[simp] theorem inc_synth (s : State) (k : Nat) : (s.inc k).synth = s.synth := rfl
@[simp] theorem inc_canopy (s : State) (k : Nat) : (s.inc k).canopy = s.canopy := rfl
@[simp] theorem inc_net (s : State) (k : Nat) : (s.inc k).net = s.net := rfl
@[simp] theorem inc_serv (s : State) (k : Nat) : (s.inc k).serv = s.serv := rfl
@[simp] theorem inc_vault (s : State) (k : Nat) : (s.inc k).vault = s.vault := rfl
@[simp] theorem inc_host (s : State) (k : Nat) : (s.inc k).host = s.host := rfl
@[simp] theorem inc_shuttle (s : State) (k : Nat) : (s.inc k).shuttle = s.shuttle := rfl
@[simp] theorem inc_twin (s : State) (k : Nat) : (s.inc k).twin = s.twin := rfl
@[simp] theorem inc_record (s : State) (k : Nat) : (s.inc k).record = s.record := rfl
@[simp] theorem inc_power (s : State) (k : Nat) : (s.inc k).power = s.power := rfl
@[simp] theorem inc_bus (s : State) (k : Nat) : (s.inc k).bus = s.bus := rfl

@[simp] theorem setBlob_pending (s : State) (k : Nat) (v : Octets) : (s.setBlob k v).pending = s.pending := rfl
@[simp] theorem setBlob_obj (s : State) (k : Nat) (v : Octets) : (s.setBlob k v).obj = s.obj := rfl
@[simp] theorem setBlob_mem (s : State) (k : Nat) (v : Octets) : (s.setBlob k v).mem = s.mem := rfl
@[simp] theorem setBlob_sys (s : State) (k : Nat) (v : Octets) : (s.setBlob k v).sys = s.sys := rfl
@[simp] theorem setBlob_leap (s : State) (k : Nat) (v : Octets) : (s.setBlob k v).leap = s.leap := rfl
@[simp] theorem setBlob_fault (s : State) (k : Nat) (v : Octets) : (s.setBlob k v).fault = s.fault := rfl
@[simp] theorem setBlob_stamp (s : State) (k : Nat) (v : Octets) : (s.setBlob k v).stamp = s.stamp := rfl
@[simp] theorem setBlob_glade (s : State) (k : Nat) (v : Octets) : (s.setBlob k v).glade = s.glade := rfl
@[simp] theorem setBlob_synth (s : State) (k : Nat) (v : Octets) : (s.setBlob k v).synth = s.synth := rfl
@[simp] theorem setBlob_canopy (s : State) (k : Nat) (v : Octets) : (s.setBlob k v).canopy = s.canopy := rfl
@[simp] theorem setBlob_net (s : State) (k : Nat) (v : Octets) : (s.setBlob k v).net = s.net := rfl
@[simp] theorem setBlob_serv (s : State) (k : Nat) (v : Octets) : (s.setBlob k v).serv = s.serv := rfl
@[simp] theorem setBlob_vault (s : State) (k : Nat) (v : Octets) : (s.setBlob k v).vault = s.vault := rfl
@[simp] theorem setBlob_host (s : State) (k : Nat) (v : Octets) : (s.setBlob k v).host = s.host := rfl
@[simp] theorem setBlob_shuttle (s : State) (k : Nat) (v : Octets) : (s.setBlob k v).shuttle = s.shuttle := rfl
@[simp] theorem setBlob_twin (s : State) (k : Nat) (v : Octets) : (s.setBlob k v).twin = s.twin := rfl
@[simp] theorem setBlob_record (s : State) (k : Nat) (v : Octets) : (s.setBlob k v).record = s.record := rfl
@[simp] theorem setBlob_power (s : State) (k : Nat) (v : Octets) : (s.setBlob k v).power = s.power := rfl
@[simp] theorem setBlob_bus (s : State) (k : Nat) (v : Octets) : (s.setBlob k v).bus = s.bus := rfl

@[simp] theorem drew_pending (s : State) : (s.drew).pending = s.pending := rfl
@[simp] theorem drew_obj (s : State) : (s.drew).obj = s.obj := rfl
@[simp] theorem drew_blobs (s : State) : (s.drew).blobs = s.blobs := rfl
@[simp] theorem drew_mem (s : State) : (s.drew).mem = s.mem := rfl
@[simp] theorem drew_leap (s : State) : (s.drew).leap = s.leap := rfl
@[simp] theorem drew_fault (s : State) : (s.drew).fault = s.fault := rfl
@[simp] theorem drew_stamp (s : State) : (s.drew).stamp = s.stamp := rfl
@[simp] theorem drew_glade (s : State) : (s.drew).glade = s.glade := rfl
@[simp] theorem drew_synth (s : State) : (s.drew).synth = s.synth := rfl
@[simp] theorem drew_canopy (s : State) : (s.drew).canopy = s.canopy := rfl
@[simp] theorem drew_net (s : State) : (s.drew).net = s.net := rfl
@[simp] theorem drew_serv (s : State) : (s.drew).serv = s.serv := rfl
@[simp] theorem drew_vault (s : State) : (s.drew).vault = s.vault := rfl
@[simp] theorem drew_host (s : State) : (s.drew).host = s.host := rfl
@[simp] theorem drew_shuttle (s : State) : (s.drew).shuttle = s.shuttle := rfl
@[simp] theorem drew_twin (s : State) : (s.drew).twin = s.twin := rfl
@[simp] theorem drew_record (s : State) : (s.drew).record = s.record := rfl
@[simp] theorem drew_power (s : State) : (s.drew).power = s.power := rfl
@[simp] theorem drew_bus (s : State) : (s.drew).bus = s.bus := rfl

@[simp] theorem forceUnbounded_pending (s : State) : (s.forceUnbounded).pending = s.pending := rfl
@[simp] theorem forceUnbounded_obj (s : State) : (s.forceUnbounded).obj = s.obj := rfl
@[simp] theorem forceUnbounded_blobs (s : State) : (s.forceUnbounded).blobs = s.blobs := rfl
@[simp] theorem forceUnbounded_mem (s : State) : (s.forceUnbounded).mem = s.mem := rfl
@[simp] theorem forceUnbounded_leap (s : State) : (s.forceUnbounded).leap = s.leap := rfl
@[simp] theorem forceUnbounded_fault (s : State) : (s.forceUnbounded).fault = s.fault := rfl
@[simp] theorem forceUnbounded_stamp (s : State) : (s.forceUnbounded).stamp = s.stamp := rfl
@[simp] theorem forceUnbounded_glade (s : State) : (s.forceUnbounded).glade = s.glade := rfl
@[simp] theorem forceUnbounded_synth (s : State) : (s.forceUnbounded).synth = s.synth := rfl
@[simp] theorem forceUnbounded_canopy (s : State) : (s.forceUnbounded).canopy = s.canopy := rfl
@[simp] theorem forceUnbounded_net (s : State) : (s.forceUnbounded).net = s.net := rfl
@[simp] theorem forceUnbounded_serv (s : State) : (s.forceUnbounded).serv = s.serv := rfl
@[simp] theorem forceUnbounded_vault (s : State) : (s.forceUnbounded).vault = s.vault := rfl
@[simp] theorem forceUnbounded_host (s : State) : (s.forceUnbounded).host = s.host := rfl
@[simp] theorem forceUnbounded_shuttle (s : State) : (s.forceUnbounded).shuttle = s.shuttle := rfl
@[simp] theorem forceUnbounded_twin (s : State) : (s.forceUnbounded).twin = s.twin := rfl
@[simp] theorem forceUnbounded_record (s : State) : (s.forceUnbounded).record = s.record := rfl
@[simp] theorem forceUnbounded_power (s : State) : (s.forceUnbounded).power = s.power := rfl
@[simp] theorem forceUnbounded_bus (s : State) : (s.forceUnbounded).bus = s.bus := rfl

@[simp] theorem writeByte_pending (s : State) (a : Nat) (v : Byte) : (s.writeByte a v).pending = s.pending := rfl
@[simp] theorem writeByte_obj (s : State) (a : Nat) (v : Byte) : (s.writeByte a v).obj = s.obj := rfl
@[simp] theorem writeByte_blobs (s : State) (a : Nat) (v : Byte) : (s.writeByte a v).blobs = s.blobs := rfl
@[simp] theorem writeByte_sys (s : State) (a : Nat) (v : Byte) : (s.writeByte a v).sys = s.sys := rfl
@[simp] theorem writeByte_leap (s : State) (a : Nat) (v : Byte) : (s.writeByte a v).leap = s.leap := rfl
@[simp] theorem writeByte_fault (s : State) (a : Nat) (v : Byte) : (s.writeByte a v).fault = s.fault := rfl
@[simp] theorem writeByte_stamp (s : State) (a : Nat) (v : Byte) : (s.writeByte a v).stamp = s.stamp := rfl
@[simp] theorem writeByte_glade (s : State) (a : Nat) (v : Byte) : (s.writeByte a v).glade = s.glade := rfl
@[simp] theorem writeByte_synth (s : State) (a : Nat) (v : Byte) : (s.writeByte a v).synth = s.synth := rfl
@[simp] theorem writeByte_canopy (s : State) (a : Nat) (v : Byte) : (s.writeByte a v).canopy = s.canopy := rfl
@[simp] theorem writeByte_net (s : State) (a : Nat) (v : Byte) : (s.writeByte a v).net = s.net := rfl
@[simp] theorem writeByte_serv (s : State) (a : Nat) (v : Byte) : (s.writeByte a v).serv = s.serv := rfl
@[simp] theorem writeByte_vault (s : State) (a : Nat) (v : Byte) : (s.writeByte a v).vault = s.vault := rfl
@[simp] theorem writeByte_host (s : State) (a : Nat) (v : Byte) : (s.writeByte a v).host = s.host := rfl
@[simp] theorem writeByte_shuttle (s : State) (a : Nat) (v : Byte) : (s.writeByte a v).shuttle = s.shuttle := rfl
@[simp] theorem writeByte_twin (s : State) (a : Nat) (v : Byte) : (s.writeByte a v).twin = s.twin := rfl
@[simp] theorem writeByte_record (s : State) (a : Nat) (v : Byte) : (s.writeByte a v).record = s.record := rfl
@[simp] theorem writeByte_power (s : State) (a : Nat) (v : Byte) : (s.writeByte a v).power = s.power := rfl
@[simp] theorem writeByte_bus (s : State) (a : Nat) (v : Byte) : (s.writeByte a v).bus = s.bus := rfl

/-- An object just written reads as the value written. -/
@[simp] theorem o_setO_self (s : State) (k : Nat) (v : Int) : (s.setO k v).o k = v := Sparse.get_put_self _ _ _ _

/-- Writing one object leaves the others. -/
theorem o_setO_ne (s : State) {k j : Nat} (v : Int) (h : j ≠ k) : (s.setO k v).o j = s.o j := Sparse.get_put_ne _ _ _ h

/-- Reading an object after a write. -/
theorem o_setO (s : State) (k j : Nat) (v : Int) : (s.setO k v).o j = if j = k then v else s.o j := by
  split
  · rename_i h
    rw [h, o_setO_self]
  · rename_i h
    exact o_setO_ne s v h

theorem o_setN (s : State) (k j v : Nat) : (s.setN k v).o j = if j = k then (v : Int) else s.o j := o_setO s k j v

theorem o_setF (s : State) (k j : Nat) (b : Bool) : (s.setF k b).o j = if j = k then (if b then 1 else 0) else s.o j := o_setO s k j _

theorem o_addN (s : State) (k j d : Nat) : (s.addN k d).o j = if j = k then s.o k + d else s.o j := o_setO s k j _

theorem o_inc (s : State) (k j : Nat) : (s.inc k).o j = if j = k then s.o k + 1 else s.o j := o_addN s k j 1

/-- Objects are read from the component `obj` alone. -/
theorem o_congr {s t : State} (h : s.obj = t.obj) (k : Nat) : s.o k = t.o k := by
  unfold o
  rw [h]

/-- An octet object just written reads as the octets written. -/
@[simp] theorem blob_setBlob_self (s : State) (k : Nat) (v : Octets) : (s.setBlob k v).blob k = v := Sparse.get_put_self _ _ _ _

/-- Writing one octet object leaves the others. -/
theorem blob_setBlob_ne (s : State) {k j : Nat} (v : Octets) (h : j ≠ k) : (s.setBlob k v).blob j = s.blob j := Sparse.get_put_ne _ _ _ h

/-- An octet of the SRAM just written reads as the value written. -/
@[simp] theorem readByte_writeByte_self (s : State) (a : Nat) (v : Byte) : (s.writeByte a v).readByte a = v := Sparse.get_put_self _ _ _ _

/-- Writing one octet of the SRAM leaves the others. -/
theorem readByte_writeByte_ne (s : State) {a b : Nat} (v : Byte) (h : b ≠ a) : (s.writeByte a v).readByte b = s.readByte b :=
  Sparse.get_put_ne _ _ _ h

/-- Writing an octet keeps the canonical form of the SRAM. -/
theorem wf_writeByte (s : State) (a : Nat) (v : Byte) (h : Memory.wf s.mem = true) : Memory.wf (s.writeByte a v).mem = true :=
  Sparse.wf_put _ _ _ _ h

/-- Writing octets keeps the canonical form of the SRAM. -/
theorem wf_writeBytes (s : State) (a : Nat) (l : Octets) (h : Memory.wf s.mem = true) : Memory.wf (s.writeBytes a l).mem = true := by
  induction l generalizing s a with
  | nil => exact h
  | cons v t ih => exact ih _ _ (wf_writeByte s a v h)

/-- Octets outside the range written read as before. -/
theorem readByte_writeBytes_ne (s : State) (a b : Nat) (l : Octets) (h : b < a ∨ a + l.length ≤ b) :
    (s.writeBytes a l).readByte b = s.readByte b := by
  induction l generalizing s a with
  | nil => rfl
  | cons v t ih =>
    rw [List.length_cons] at h
    have h1 : b < a + 1 ∨ a + 1 + t.length ≤ b := by omega
    have h2 : b ≠ a := by omega
    exact (ih (s.writeByte a v) (a + 1) h1).trans (readByte_writeByte_ne s v h2)

/-- Writing a word keeps the canonical form of the SRAM. -/
theorem wf_writeWord (s : State) (b w v : Nat) (h : Memory.wf s.mem = true) : Memory.wf (s.writeWord b w v).mem = true :=
  wf_writeBytes _ _ _ h

/-- Writing whole words of a bank keeps the canonical form of the SRAM. -/
theorem wf_writeBank (s : State) (b off : Nat) (v : Octets) (h : Memory.wf s.mem = true) : Memory.wf (s.writeBank b off v).mem = true := by
  unfold writeBank
  generalize List.range (v.length / 8) = l
  induction l generalizing s with
  | nil => exact h
  | cons i l ih =>
    rw [List.foldl_cons]
    apply ih
    split
    · exact wf_writeWord _ _ _ _ h
    · exact h

end Sys2Proof.Machine.State
end

