-- ==== Sys2Proof/Laws/Bob.lean ====
section
/-!
SUPPORT. The SRAM outside Bobbin's bank under the operations that write it nowhere else.
-/

namespace Sys2Proof.Machine

/-- Every octet outside Bobbin's bank reads in a state as it reads in `r`. -/
def Outside (r s : State) : Prop := ∀ a, ¬ Safety.inBank 17 a → s.readByte a = r.readByte a

theorem Outside.mk1 {r s : State} {x0 : List Instr} {x1 : Tbl Int} {x2 : Tbl Octets} {x4 : SysState} {x5 : LeapState} {x6 : FaultState} {x7 : StampState} {x8 : GladeState} {x9 : SynthState} {x10 : CanopyState} {x11 : NetState} {x12 : ServState} {x13 : VaultState} {x14 : HostState} {x15 : ShuttleState} {x16 : TwinState} {x17 : RecordState} {x18 : PowerState} {x19 : BusState} (h : Outside r s) :
    Outside r (State.make x0 x1 x2 s.mem x4 x5 x6 x7 x8 x9 x10 x11 x12 x13 x14 x15 x16 x17 x18 x19) := h

theorem Outside.of {k : Nat} {r s t : State} (g : Frame k s t) (h : Outside r s) (hm : k.testBit 3 = false) : Outside r t := by
  intro a ha
  unfold State.readByte
  rw [g.mem_eq hm]
  exact h a ha

theorem Outside.foldl {α : Type} {f : State → α → State} {l : List α} {r s : State} (k : ∀ t x, Outside r t → Outside r (f t x)) (h : Outside r s) :
    Outside r (l.foldl f s) := by
  induction l generalizing s with
  | nil => exact h
  | cons x l ih => exact ih (k s x h)

theorem Outside.foldlFst {α β : Type} {r : State} {f : State × β → α → State × β} {l : List α} {p : State × β}
    (k : ∀ q x, Outside r q.1 → Outside r (f q x).1) (h : Outside r p.1) : Outside r (l.foldl f p).1 := by
  induction l generalizing p with
  | nil => exact h
  | cons x l ih => exact ih (k p x h)

theorem Outside.ite {r a b : State} {c : Prop} {d : Decidable c} (h : Outside r a) (k : Outside r b) : Outside r (if c then a else b) := by
  split <;> assumption

theorem Outside.iteFst {β : Type} {r : State} {a b : State × β} {c : Prop} {d : Decidable c} (h : Outside r a.1) (k : Outside r b.1) :
    Outside r (if c then a else b).1 := by
  split <;> assumption

theorem Outside.fst {α : Type} {r a : State} {p : State × α} {b : α} (e : p = (a, b)) (h : Outside r p.1) : Outside r a := by
  rw [e] at h
  exact h

/-- A next state, if there is one, reads outside Bobbin's bank as `r`. -/
def OutsideO (r : State) (o : Host.Outcome State Fault Refusal) : Prop := ∀ t, o = .next t → Outside r t

theorem OutsideO.next {r s : State} (h : Outside r s) : OutsideO r (.next s) := by
  intro t e
  cases e
  exact h

theorem OutsideO.fault {r : State} (f : Fault) : OutsideO r (.fault f) := by
  intro t e
  cases e

theorem Outside.writeByte {r s : State} {a : Nat} {v : Byte} (h : Outside r s) (k : Safety.inBank 17 a) : Outside r (s.writeByte a v) := by
  intro b hb
  rw [State.readByte_writeByte_ne _ _ (by rintro rfl; exact hb k)]
  exact h b hb

theorem Outside.writeBytes {r s : State} {a : Nat} {l : Octets} (h : Outside r s) (k : ∀ i, i < l.length → Safety.inBank 17 (a + i)) :
    Outside r (s.writeBytes a l) := by
  induction l generalizing s a with
  | nil => exact h
  | cons v l ih =>
    apply ih (h.writeByte (k 0 (by simp)))
    intro i hi
    have := k (i + 1) (by simpa using hi)
    rwa [show a + 1 + i = a + (i + 1) by omega]

/-- A word that bank 17 has lies in the bank or in its spare words. -/
theorem Outside.wordAddr (s : State) (w i : Nat) (h : w < bankWords 17) (hi : i < 8) : Safety.inBank 17 (s.wordAddr 17 w + i) := by
  unfold State.wordAddr
  split
  · rename_i j hj
    have := List.mem_range.mp (List.mem_of_find?_eq_some hj)
    right
    omega
  · left
    omega

theorem Outside.writeWord {r s : State} {w v : Nat} (h : Outside r s) (k : w < bankWords 17) : Outside r (s.writeWord 17 w v) := by
  apply h.writeBytes
  intro i hi
  apply Outside.wordAddr _ _ _ k
  have : (toBE 8 v).length = 8 := rfl
  omega

theorem Outside.writeBank {r s : State} {off : Nat} {v : Octets} (h : Outside r s) : Outside r (s.writeBank 17 off v) := by
  unfold State.writeBank
  apply Outside.foldl _ h
  intro t x ht
  split
  · exact ht.writeWord (by assumption)
  · exact ht

end Sys2Proof.Machine
end

