-- ==== Sys2Proof/Laws/Frames0.lean ====
section
/-!
SUPPORT. The frames of operations and commands, part 0.
-/

namespace Sys2Proof.Machine

theorem State.setO_frame (s : Sys2Proof.Machine.State) (a1 : Nat) (a2 : Int) : Frame 2 s (State.setO s a1 a2) := by
  unfold State.setO
  simp only [State.mk_make]
  with_reducible exact Frame.up1 (m := 2) (Frame.refl 2 _) (by decide)

theorem State.addN_frame (s : Sys2Proof.Machine.State) (a1 : Nat) (a2 : Nat) : Frame 2 s (State.addN s a1 a2) := by
  unfold State.addN
  with_reducible exact Frame.mono (m := 2) (State.setO_frame _ _ _) (by decide)

theorem State.inc_frame (s : Sys2Proof.Machine.State) (a1 : Nat) : Frame 2 s (State.inc s a1) := by
  unfold State.inc
  with_reducible exact Frame.mono (m := 2) (State.addN_frame _ _ _) (by decide)

theorem State.setN_frame (s : Sys2Proof.Machine.State) (a1 : Nat) (a2 : Nat) : Frame 2 s (State.setN s a1 a2) := by
  unfold State.setN
  with_reducible exact Frame.mono (m := 2) (State.setO_frame _ _ _) (by decide)

theorem State.setChan__frame (s : Sys2Proof.Machine.State) (a1 : Nat) (a2 : Sys2Proof.Machine.Channel) : Frame 16386 s (State.setChan_ s a1 a2) := by
  unfold State.setChan_
  dsimp only
  simp only [State.mk_make]
  with_reducible exact Frame.of (m := 16386) (State.setN_frame _ _ _) (Frame.up14 (m := 16386) (Frame.refl 16386 _) (by decide)) (by decide)

theorem State.doorbell_frame (s : Sys2Proof.Machine.State) (a1 : Nat) (a2 : Nat) : Frame 16386 s (State.doorbell s a1 a2).1 := by
  unfold State.doorbell
  dsimp only
  with_reducible exact Frame.iteFst (m := 16386) (Frame.refl 16386 _) (Frame.iteFst (m := 16386) (Frame.of (m := 16386) (State.inc_frame _
                   _) (Frame.mono (m := 16386) (State.setChan__frame _ _ _) (by decide)) (by decide)) (Frame.mono (m := 16386) (State.setChan__frame _ _ _)
                   (by decide)))

theorem State.accept_frame (s : Sys2Proof.Machine.State) (a1 : Sys2Proof.Machine.MsgSource) : Frame 16386 s (State.accept s a1).1 := by
  unfold State.accept
  split
  · with_reducible exact Frame.mono (m := 16386) (State.doorbell_frame _ _ _) (by decide)
  · with_reducible exact Frame.refl 16386 _
  · with_reducible exact Frame.refl 16386 _
  · with_reducible exact Frame.refl 16386 _

theorem State.addHw_frame (s : Sys2Proof.Machine.State) (a1 : Nat) (a2 : Nat) (a3 : Nat) (a4 : Nat) : Frame 2 s (State.addHw s a1 a2 a3 a4) := by
  unfold State.addHw
  dsimp only
  with_reducible exact Frame.ite (m := 2) (Frame.mono (m := 2) (State.setN_frame _ _ _) (by decide)) (Frame.of (m := 2) (State.setN_frame _
                   _ _) (Frame.mono (m := 2) (State.setN_frame _ _ _) (by decide)) (by decide))

theorem State.accountWork_frame (s : Sys2Proof.Machine.State) (a1 : Sys2Proof.Machine.WorkTally) : Frame 2 s (State.accountWork s a1) := by
  unfold State.accountWork
  dsimp only
  with_reducible exact Frame.of (m := 2) (State.addHw_frame _ _ _ _ _) (Frame.of (m := 2) (State.addHw_frame _ _ _ _ _) (Frame.of (m := 2)
                   (State.addHw_frame _ _ _ _ _) (Frame.of (m := 2) (State.addHw_frame _ _ _ _ _) (Frame.mono (m := 2) (State.addHw_frame _ _ _ _ _)
                   (by decide)) (by decide)) (by decide)) (by decide)) (by decide)

theorem State.countOpen_frame (s : Sys2Proof.Machine.State) : Frame 2 s (State.countOpen s) := by
  unfold State.countOpen
  with_reducible exact Frame.of (m := 2) (State.setN_frame _ _ _) (Frame.mono (m := 2) (State.setN_frame _ _ _) (by decide)) (by decide)

theorem State.holdEvent_frame (s : Sys2Proof.Machine.State) (a1 : Nat) (a2 : Nat) (a3 : Nat) : Frame 64 s (State.holdEvent s a1 a2 a3) := by
  unfold State.holdEvent
  dsimp only
  simp only [State.mk_make]
  with_reducible exact Frame.ite (m := 64) (Frame.refl 64 _) (Frame.up6 (m := 64) (Frame.refl 64 _) (by decide))

theorem State.ackUpTo_frame (s : Sys2Proof.Machine.State) (a1 : Nat) : Frame 66 s (State.ackUpTo s a1) := by
  unfold State.ackUpTo
  dsimp only
  simp only [State.mk_make]
  with_reducible exact Frame.of (m := 66) (State.holdEvent_frame _ _ _ _) (Frame.of (m := 66) (State.countOpen_frame _) (Frame.up6 (m := 66)
                   (Frame.refl 66 _) (by decide)) (by decide)) (by decide)

theorem State.aplltSwitch_frame (s : Sys2Proof.Machine.State) (a1 : Nat) : Frame 514 s (State.aplltSwitch s a1) := by
  unfold State.aplltSwitch
  dsimp only
  simp only [State.mk_make]
  with_reducible exact Frame.up9 (m := 514) (Frame.mono (m := 514) (State.setO_frame _ _ _) (by decide)) (by decide)

theorem State.aplltReact_frame (s : Sys2Proof.Machine.State) : Frame 514 s (State.aplltReact s) := by
  unfold State.aplltReact
  split
  · with_reducible exact Frame.mono (m := 514) (State.aplltSwitch_frame _ _) (by decide)
  · with_reducible exact Frame.refl 514 _

theorem State.refEnter_frame (s : Sys2Proof.Machine.State) (a1 : Nat) (a2 : Int) : Frame 2 s (State.refEnter s a1 a2) := by
  unfold State.refEnter
  dsimp only
  with_reducible exact Frame.of (m := 2) (State.setO_frame _ _ _) (Frame.ite (m := 2) (Frame.mono (m := 2) (State.inc_frame _ _)
                   (by decide)) (Frame.refl 2 _)) (by decide)

theorem State.refBoundaryF_frame (s : Sys2Proof.Machine.State) (a1 : Nat) : Frame 514 s (State.refBoundaryF s a1) := by
  unfold State.refBoundaryF
  dsimp only
  simp only [State.mk_make]
  with_reducible exact Frame.ite (m := 514) (Frame.ite (m := 514) (Frame.up9 (m := 514) (Frame.mono (m := 514) (State.refEnter_frame _ _ _)
                   (by decide)) (by decide)) (Frame.mono (m := 514) (State.refEnter_frame _ _ _) (by decide))) (Frame.refl 514 _)

theorem State.setRef_frame (s : Sys2Proof.Machine.State) (a1 : Nat) (a2 : Sys2Proof.Machine.Ref) : Frame 512 s (State.setRef s a1 a2) := by
  unfold State.setRef
  dsimp only
  simp only [State.mk_make]
  with_reducible exact Frame.up9 (m := 512) (Frame.refl 512 _) (by decide)

theorem State.activityEnd_frame (s : Sys2Proof.Machine.State) (a1 : Nat) : Frame 514 s (State.activityEnd s a1) := by
  unfold State.activityEnd
  dsimp only
  with_reducible exact Frame.ite (m := 514) (Frame.of (m := 514) (State.aplltReact_frame _) (Frame.ite (m := 514) (Frame.mono (m := 514)
                   (State.setRef_frame _ _ _) (by decide)) (Frame.of (m := 514) (State.refEnter_frame _ _ _) (Frame.mono (m := 514) (State.setRef_frame _ _
                   _) (by decide)) (by decide))) (by decide)) (Frame.ite (m := 514) (Frame.of (m := 514) (State.refEnter_frame _ _ _) (Frame.of (m := 514)
                   (State.setRef_frame _ _ _) (Frame.mono (m := 514) (State.setRef_frame _ _ _) (by decide)) (by decide)) (by decide)) (Frame.of (m := 514)
                   (State.refBoundaryF_frame _ _) (Frame.mono (m := 514) (State.setRef_frame _ _ _) (by decide)) (by decide)))

theorem State.addDue_frame (s : Sys2Proof.Machine.State) (a1 : Bool) (a2 : Sys2Proof.Machine.DueWrite) : Frame 16 s (State.addDue s a1 a2) := by
  unfold State.addDue
  dsimp only
  simp only [State.mk_make]
  with_reducible refine Frame.mk1 (m := 16) (Frame.refl 16 _) (.inr rfl) (.inr rfl) (.inr rfl) ?_ (.inr rfl) (.inr rfl) (.inr rfl)
                   (.inr rfl) (.inr rfl) (.inr rfl) (.inr rfl) (.inr rfl) (.inr rfl) (.inr rfl) (.inr rfl) (.inr rfl) (.inr rfl) (.inr rfl) (.inr rfl)
  split
  · with_reducible exact (.inl (by decide))
  · with_reducible exact (.inl (by decide))

theorem State.addHwKey_frame (s : Sys2Proof.Machine.State) (a1 : Nat) (a2 : Nat) : Frame 18 s (State.addHwKey s a1 a2) := by
  unfold State.addHwKey
  dsimp only
  simp only [State.mk_make]
  with_reducible exact Frame.ite (m := 18) (Frame.mono (m := 18) (State.setN_frame _ _ _) (by decide)) (Frame.up4 (m := 18) (Frame.mono
                   (m := 18) (State.setN_frame _ _ _) (by decide)) (by decide))

theorem State.addJob_frame (s : Sys2Proof.Machine.State) (a1 : Sys2Proof.Machine.PkJob) : Frame 8192 s (State.addJob s a1) := by
  unfold State.addJob
  dsimp only
  simp only [State.mk_make]
  with_reducible exact Frame.up13 (m := 8192) (Frame.refl 8192 _) (by decide)

theorem State.addLost_frame (s : Sys2Proof.Machine.State) (a1 : Nat) (a2 : Nat) : Frame 16384 s (State.addLost s a1 a2) := by
  unfold State.addLost
  dsimp only
  simp only [State.mk_make]
  with_reducible exact Frame.up14 (m := 16384) (Frame.refl 16384 _) (by decide)

theorem State.setStamper_frame (s : Sys2Proof.Machine.State) (a1 : Nat) (a2 : Sys2Proof.Machine.Stamper) : Frame 128 s (State.setStamper s a1 a2) := by
  unfold State.setStamper
  dsimp only
  simp only [State.mk_make]
  with_reducible exact Frame.up7 (m := 128) (Frame.refl 128 _) (by decide)

theorem State.newTable_frame (s : Sys2Proof.Machine.State) (a1 : Nat) (a2 : List (List Nat)) (a3 : List Nat) : Frame 262274 s (State.newTable s a1 a2 a3) := by
  unfold State.newTable
  dsimp only
  simp only [State.mk_make]
  with_reducible refine Frame.ite (m := 262274) (Frame.of (m := 262274) (State.setN_frame _ _ _) (Frame.mk1 (m := 262274) (Frame.mono
                   (m := 262274) (State.setStamper_frame _ _ _) (by decide)) (.inr rfl) (.inr rfl) (.inr rfl) (.inr rfl) (.inr rfl) (.inr rfl) (.inl
                   (by decide)) (.inr rfl) (.inr rfl) (.inr rfl) (.inr rfl) (.inr rfl) (.inr rfl) (.inr rfl) (.inr rfl) (.inr rfl) (.inr rfl) ?_ (.inr rfl))
                   (by decide)) (Frame.mk1 (m := 262274) (Frame.mono (m := 262274) (State.setStamper_frame _ _ _) (by decide)) (.inr rfl) (.inr rfl)
                   (.inr rfl) (.inr rfl) (.inr rfl) (.inr rfl) (.inl (by decide)) (.inr rfl) (.inr rfl) (.inr rfl) (.inr rfl) (.inr rfl) (.inr rfl)
                   (.inr rfl) (.inr rfl) (.inr rfl) (.inr rfl) ?_ (.inr rfl))
  · split
    · split
      · with_reducible exact (.inl (by decide))
      · with_reducible exact (.inl (by decide))
    · split
      · with_reducible exact (.inl (by decide))
      · with_reducible exact (.inl (by decide))
  · split
    · split
      · with_reducible exact (.inl (by decide))
      · with_reducible exact (.inl (by decide))
    · split
      · with_reducible exact (.inl (by decide))
      · with_reducible exact (.inl (by decide))

theorem State.drew_frame (s : Sys2Proof.Machine.State) : Frame 16 s (State.drew s) := by
  unfold State.drew
  dsimp only
  simp only [State.mk_make]
  with_reducible exact Frame.up4 (m := 16) (Frame.refl 16 _) (by decide)

theorem State.ringTo_frame (s : Sys2Proof.Machine.State) (a1 : Nat) : Frame 131072 s (State.ringTo s a1) := by
  unfold State.ringTo
  dsimp only
  simp only [State.mk_make]
  with_reducible refine Frame.mk1 (m := 131072) (Frame.refl 131072 _) (.inr rfl) (.inr rfl) (.inr rfl) (.inr rfl) (.inr rfl) (.inr rfl)
                   (.inr rfl) (.inr rfl) (.inr rfl) (.inr rfl) (.inr rfl) (.inr rfl) (.inr rfl) (.inr rfl) (.inr rfl) (.inr rfl) ?_ (.inr rfl) (.inr rfl)
  split
  · split
    · split
      · with_reducible exact (.inl (by decide))
      · with_reducible exact (.inl (by decide))
      · with_reducible exact (.inl (by decide))
    · split
      · split
        · with_reducible exact (.inl (by decide))
        · with_reducible exact (.inl (by decide))
        · with_reducible exact (.inl (by decide))
      · split
        · with_reducible exact (.inl (by decide))
        · with_reducible exact (.inl (by decide))
        · with_reducible exact (.inl (by decide))
  · split
    · split
      · with_reducible exact (.inl (by decide))
      · with_reducible exact (.inl (by decide))
      · with_reducible exact (.inl (by decide))
    · split
      · split
        · with_reducible exact (.inl (by decide))
        · with_reducible exact (.inl (by decide))
        · with_reducible exact (.inl (by decide))
      · split
        · with_reducible exact (.inl (by decide))
        · with_reducible exact (.inl (by decide))
        · with_reducible exact (.inl (by decide))

theorem State.showRing_frame (s : Sys2Proof.Machine.State) : Frame 2 s (State.showRing s) := by
  unfold State.showRing
  dsimp only
  with_reducible exact Frame.of (m := 2) (State.setN_frame _ _ _) (Frame.mono (m := 2) (State.setN_frame _ _ _) (by decide)) (by decide)

theorem State.writeByte_frame (s : Sys2Proof.Machine.State) (a1 : Nat) (a2 : Sys2Proof.Byte) : Frame 8 s (State.writeByte s a1 a2) := by
  unfold State.writeByte
  simp only [State.mk_make]
  with_reducible exact Frame.up3 (m := 8) (Frame.refl 8 _) (by decide)

theorem State.writeBytes_frame (s : Sys2Proof.Machine.State) (a1 : Nat) (a2 : Sys2Proof.Octets) : Frame 8 s (State.writeBytes s a1 a2) := by
  induction a2 generalizing s a1 with
  | nil => exact Frame.refl _ _
  | cons v t ih =>
  unfold State.writeBytes
  try dsimp only
  try simp only [State.mk_make]
  repeat' first
    | with_reducible apply Frame.refl
    | with_reducible assumption
    | with_reducible intro _
    | with_reducible apply Or.inr rfl
    | with_reducible apply Frame.mk1
    | with_reducible apply Frame.of (ih _ _)
    | with_reducible apply Frame.of (State.writeByte_frame _ _ _)
    | with_reducible apply Frame.foldl
    | with_reducible apply Frame.foldlFst
    | with_reducible refine Frame.fst (by assumption) ?_
    | with_reducible apply Frame.ite
    | with_reducible apply Frame.iteFst
    | split
    | exact Or.inl (by decide)
    | decide


theorem State.writeWord_frame (s : Sys2Proof.Machine.State) (a1 : Nat) (a2 : Nat) (a3 : Nat) : Frame 8 s (State.writeWord s a1 a2 a3) := by
  unfold State.writeWord
  with_reducible exact Frame.mono (m := 8) (State.writeBytes_frame _ _ _) (by decide)

theorem State.writeBank_frame (s : Sys2Proof.Machine.State) (a1 : Nat) (a2 : Nat) (a3 : Sys2Proof.Octets) : Frame 8 s (State.writeBank s a1 a2 a3) := by
  unfold State.writeBank
  with_reducible exact Frame.foldl (m := 8) (fun _ => fun _ => Frame.ite (m := 8) (Frame.mono (m := 8) (State.writeWord_frame _ _ _ _)
                   (by decide)) (Frame.refl 8 _)) (Frame.refl 8 _)

theorem State.bobAppend_frame (s : Sys2Proof.Machine.State) (a1 : Sys2Proof.Machine.BobHead) (a2 : Sys2Proof.Octets) : Frame 131082 s (State.bobAppend s a1 a2) := by
  unfold State.bobAppend
  dsimp only
  simp only [State.mk_make]
  with_reducible refine Frame.of (m := 131082) (State.showRing_frame _) (Frame.ite (m := 131082) (Frame.of (m := 131082) (State.inc_frame _
                   _) (Frame.ite (m := 131082) (Frame.of (m := 131082) (State.inc_frame _ _) (Frame.of (m := 131082) (State.addN_frame _ _ _) (Frame.of
                   (m := 131082) (State.inc_frame _ _) (Frame.of (m := 131082) (State.setN_frame _ _ _) (Frame.mk1 (m := 131082) (Frame.of (m := 131082)
                   (State.writeBank_frame _ _ _ _) (Frame.of (m := 131082) (State.ringTo_frame _ _) (Frame.ite (m := 131082) (Frame.refl 131082 _)
                   (Frame.mono (m := 131082) (State.writeBank_frame _ _ _ _) (by decide))) (by decide)) (by decide)) (.inr rfl) (.inr rfl) (.inr rfl)
                   (.inr rfl) (.inr rfl) (.inr rfl) (.inr rfl) (.inr rfl) (.inr rfl) (.inr rfl) (.inr rfl) (.inr rfl) (.inr rfl) (.inr rfl) (.inr rfl)
                   (.inr rfl) ?_ (.inr rfl) (.inr rfl)) (by decide)) (by decide)) (by decide)) (by decide)) (Frame.of (m := 131082) (State.addN_frame _ _ _)
                   (Frame.of (m := 131082) (State.inc_frame _ _) (Frame.of (m := 131082) (State.setN_frame _ _ _) (Frame.mk1 (m := 131082) (Frame.of
                   (m := 131082) (State.writeBank_frame _ _ _ _) (Frame.of (m := 131082) (State.ringTo_frame _ _) (Frame.ite (m := 131082) (Frame.refl 131082
                   _) (Frame.mono (m := 131082) (State.writeBank_frame _ _ _ _) (by decide))) (by decide)) (by decide)) (.inr rfl) (.inr rfl) (.inr rfl)
                   (.inr rfl) (.inr rfl) (.inr rfl) (.inr rfl) (.inr rfl) (.inr rfl) (.inr rfl) (.inr rfl) (.inr rfl) (.inr rfl) (.inr rfl) (.inr rfl)
                   (.inr rfl) ?_ (.inr rfl) (.inr rfl)) (by decide)) (by decide)) (by decide))) (by decide)) (Frame.ite (m := 131082) (Frame.of (m := 131082)
                   (State.inc_frame _ _) (Frame.of (m := 131082) (State.addN_frame _ _ _) (Frame.of (m := 131082) (State.inc_frame _ _) (Frame.of
                   (m := 131082) (State.setN_frame _ _ _) (Frame.mk1 (m := 131082) (Frame.of (m := 131082) (State.writeBank_frame _ _ _ _) (Frame.of
                   (m := 131082) (State.ringTo_frame _ _) (Frame.ite (m := 131082) (Frame.refl 131082 _) (Frame.mono (m := 131082) (State.writeBank_frame _ _
                   _ _) (by decide))) (by decide)) (by decide)) (.inr rfl) (.inr rfl) (.inr rfl) (.inr rfl) (.inr rfl) (.inr rfl) (.inr rfl) (.inr rfl)
                   (.inr rfl) (.inr rfl) (.inr rfl) (.inr rfl) (.inr rfl) (.inr rfl) (.inr rfl) (.inr rfl) ?_ (.inr rfl) (.inr rfl)) (by decide))
                   (by decide)) (by decide)) (by decide)) (Frame.of (m := 131082) (State.addN_frame _ _ _) (Frame.of (m := 131082) (State.inc_frame _ _)
                   (Frame.of (m := 131082) (State.setN_frame _ _ _) (Frame.mk1 (m := 131082) (Frame.of (m := 131082) (State.writeBank_frame _ _ _ _)
                   (Frame.of (m := 131082) (State.ringTo_frame _ _) (Frame.ite (m := 131082) (Frame.refl 131082 _) (Frame.mono (m := 131082)
                   (State.writeBank_frame _ _ _ _) (by decide))) (by decide)) (by decide)) (.inr rfl) (.inr rfl) (.inr rfl) (.inr rfl) (.inr rfl) (.inr rfl)
                   (.inr rfl) (.inr rfl) (.inr rfl) (.inr rfl) (.inr rfl) (.inr rfl) (.inr rfl) (.inr rfl) (.inr rfl) (.inr rfl) ?_ (.inr rfl) (.inr rfl))
                   (by decide)) (by decide)) (by decide)))) (by decide)
  · split
    · split
      · with_reducible exact (.inl (by decide))
      · with_reducible exact (.inl (by decide))
    · split
      · with_reducible exact (.inl (by decide))
      · with_reducible exact (.inl (by decide))
  · split
    · split
      · with_reducible exact (.inl (by decide))
      · with_reducible exact (.inl (by decide))
    · split
      · with_reducible exact (.inl (by decide))
      · with_reducible exact (.inl (by decide))
  · split
    · split
      · with_reducible exact (.inl (by decide))
      · with_reducible exact (.inl (by decide))
    · split
      · with_reducible exact (.inl (by decide))
      · with_reducible exact (.inl (by decide))
  · split
    · split
      · with_reducible exact (.inl (by decide))
      · with_reducible exact (.inl (by decide))
    · split
      · with_reducible exact (.inl (by decide))
      · with_reducible exact (.inl (by decide))

theorem State.bobHalt_frame (s : Sys2Proof.Machine.State) : Frame 131082 s (State.bobHalt s) := by
  unfold State.bobHalt
  dsimp only
  simp only [State.mk_make]
  with_reducible exact Frame.ite (m := 131082) (Frame.up17 (m := 131082) (Frame.mono (m := 131082) (State.bobAppend_frame _ _ _)
                   (by decide)) (by decide)) (Frame.refl 131082 _)

theorem State.hostEvent_frame (s : Sys2Proof.Machine.State) (a1 : Sys2Proof.Machine.HostEvent) : Frame 16384 s (State.hostEvent s a1) := by
  unfold State.hostEvent
  dsimp only
  simp only [State.mk_make]
  with_reducible exact Frame.up14 (m := 16384) (Frame.refl 16384 _) (by decide)

theorem State.changeMode_frame (s : Sys2Proof.Machine.State) (a1 : Int) : Frame 16450 s (State.changeMode s a1) := by
  unfold State.changeMode
  dsimp only
  with_reducible exact Frame.of (m := 16450) (State.hostEvent_frame _ _) (Frame.of (m := 16450) (State.holdEvent_frame _ _ _ _) (Frame.of
                   (m := 16450) (State.inc_frame _ _) (Frame.of (m := 16450) (State.setN_frame _ _ _) (Frame.of (m := 16450) (State.setO_frame _ _ _)
                   (Frame.mono (m := 16450) (State.setO_frame _ _ _) (by decide)) (by decide)) (by decide)) (by decide)) (by decide)) (by decide)

theorem State.dropReports_frame (s : Sys2Proof.Machine.State) (a1 : List Sys2Proof.Machine.Report) : Frame 66 s (State.dropReports s a1) := by
  unfold State.dropReports
  dsimp only
  simp only [State.mk_make]
  with_reducible exact Frame.of (m := 66) (State.countOpen_frame _) (Frame.up6 (m := 66) (Frame.mono (m := 66) (State.addN_frame _ _ _)
                   (by decide)) (by decide)) (by decide)

theorem State.setBlob_frame (s : Sys2Proof.Machine.State) (a1 : Nat) (a2 : Sys2Proof.Octets) : Frame 4 s (State.setBlob s a1 a2) := by
  unfold State.setBlob
  simp only [State.mk_make]
  with_reducible exact Frame.up2 (m := 4) (Frame.refl 4 _) (by decide)

theorem State.uartLine_frame (s : Sys2Proof.Machine.State) (a1 : Nat) (a2 : Sys2Proof.Machine.Report) : Frame 524290 s (State.uartLine s a1 a2) := by
  unfold State.uartLine
  dsimp only
  simp only [State.mk_make]
  with_reducible exact Frame.ite (m := 524290) (Frame.ite (m := 524290) (Frame.up19 (m := 524290) (Frame.refl 524290 _) (by decide))
                   (Frame.mono (m := 524290) (State.inc_frame _ _) (by decide))) (Frame.refl 524290 _)

theorem State.logEntry_frame (s : Sys2Proof.Machine.State) (a1 : Sys2Proof.Machine.Report) : Frame 524358 s (State.logEntry s a1) := by
  unfold State.logEntry
  dsimp only
  simp only [State.mk_make]
  with_reducible refine Frame.of (m := 524358) (State.uartLine_frame _ _ _) (Frame.of (m := 524358) (State.setN_frame _ _ _) (Frame.mk1
                   (m := 524358) (Frame.ite (m := 524358) (Frame.up6 (m := 524358) (Frame.of (m := 524358) (State.inc_frame _ _) (Frame.mono (m := 524358)
                   (State.setBlob_frame _ _ _) (by decide)) (by decide)) (by decide)) (Frame.up6 (m := 524358) (Frame.mono (m := 524358) (State.setBlob_frame
                   _ _ _) (by decide)) (by decide))) (.inr rfl) (.inr rfl) (.inr rfl) (.inr rfl) (.inr rfl) ?_ (.inr rfl) (.inr rfl) (.inr rfl) (.inr rfl)
                   (.inr rfl) (.inr rfl) (.inr rfl) (.inr rfl) (.inr rfl) (.inr rfl) (.inr rfl) (.inr rfl) (.inr rfl)) (by decide)) (by decide)
  split
  · with_reducible exact (.inl (by decide))
  · with_reducible exact (.inl (by decide))

theorem State.logEntries_frame (s : Sys2Proof.Machine.State) (a1 : List Sys2Proof.Machine.Report) : Frame 524358 s (State.logEntries s a1) := by
  unfold State.logEntries
  with_reducible exact Frame.foldl (m := 524358) (fun _ => fun _ => Frame.mono (m := 524358) (State.logEntry_frame _ _) (by decide))
                   (Frame.refl 524358 _)

theorem State.flushLog_frame (s : Sys2Proof.Machine.State) (a1 : Nat) (a2 : Bool) : Frame 524358 s (State.flushLog s a1 a2) := by
  unfold State.flushLog
  dsimp only
  simp only [State.mk_make]
  with_reducible exact Frame.foldl (m := 524358) (fun _ => fun _ => Frame.of (m := 524358) (State.dropReports_frame _ _) (Frame.mono
                   (m := 524358) (State.logEntries_frame _ _) (by decide)) (by decide)) (Frame.up6 (m := 524358) (Frame.refl 524358 _) (by decide))

theorem State.haltDump_frame (s : Sys2Proof.Machine.State) : Frame 524288 s (State.haltDump s) := by
  unfold State.haltDump
  dsimp only
  simp only [State.mk_make]
  with_reducible exact Frame.up19 (m := 524288) (Frame.refl 524288 _) (by decide)

theorem State.setChan_frame (s : Sys2Proof.Machine.State) (a1 : Nat) (a2 : Sys2Proof.Machine.TrackChannel) : Frame 256 s (State.setChan s a1 a2) := by
  unfold State.setChan
  dsimp only
  simp only [State.mk_make]
  with_reducible exact Frame.up8 (m := 256) (Frame.refl 256 _) (by decide)

theorem State.chanEnter_frame (s : Sys2Proof.Machine.State) (a1 : Nat) (a2 : Nat) : Frame 258 s (State.chanEnter s a1 a2) := by
  unfold State.chanEnter
  dsimp only
  with_reducible exact Frame.ite (m := 258) (Frame.of (m := 258) (State.inc_frame _ _) (Frame.of (m := 258) (State.setN_frame _ _ _)
                   (Frame.mono (m := 258) (State.setChan_frame _ _ _) (by decide)) (by decide)) (by decide)) (Frame.of (m := 258) (State.setN_frame _ _ _)
                   (Frame.mono (m := 258) (State.setChan_frame _ _ _) (by decide)) (by decide))

theorem State.dropRecord_frame (s : Sys2Proof.Machine.State) : Frame 256 s (State.dropRecord s) := by
  unfold State.dropRecord
  dsimp only
  simp only [State.mk_make]
  with_reducible exact Frame.ite (m := 256) (Frame.refl 256 _) (Frame.up8 (m := 256) (Frame.refl 256 _) (by decide))

theorem State.chanLose_frame (s : Sys2Proof.Machine.State) (a1 : Nat) : Frame 258 s (State.chanLose s a1) := by
  unfold State.chanLose
  dsimp only
  with_reducible exact Frame.ite (m := 258) (Frame.mono (m := 258) (State.chanEnter_frame _ _ _) (by decide)) (Frame.refl 258 _)

theorem State.linkChannelsLost_frame (s : Sys2Proof.Machine.State) (a1 : Nat) : Frame 258 s (State.linkChannelsLost s a1) := by
  unfold State.linkChannelsLost
  with_reducible exact State.forChans_frame (m := 258) (fun _ => fun _ => Frame.ite (m := 258) (Frame.mono (m := 258) (State.chanLose_frame
                   _ _) (by decide)) (Frame.refl 258 _)) (Frame.refl 258 _)

theorem State.linkStarts_frame (s : Sys2Proof.Machine.State) (a1 : Nat) : Frame 256 s (State.linkStarts s a1) := by
  unfold State.linkStarts
  dsimp only
  simp only [State.mk_make]
  with_reducible exact Frame.ite (m := 256) (Frame.up8 (m := 256) (Frame.refl 256 _) (by decide)) (Frame.refl 256 _)

theorem State.setGlink_frame (s : Sys2Proof.Machine.State) (a1 : Nat) (a2 : Sys2Proof.Machine.GladeLink) : Frame 256 s (State.setGlink s a1 a2) := by
  unfold State.setGlink
  dsimp only
  simp only [State.mk_make]
  with_reducible exact Frame.up8 (m := 256) (Frame.refl 256 _) (by decide)

theorem State.setStrm_frame (s : Sys2Proof.Machine.State) (a1 : Nat) (a2 : Sys2Proof.Machine.GladeStream) : Frame 256 s (State.setStrm s a1 a2) := by
  unfold State.setStrm
  dsimp only
  simp only [State.mk_make]
  with_reducible exact Frame.up8 (m := 256) (Frame.refl 256 _) (by decide)

end Sys2Proof.Machine
end

