-- ==== Sys2Proof/Laws/Frames1.lean ====
section
/-!
SUPPORT. The frames of operations and commands, part 1.
-/

namespace Sys2Proof.Machine

theorem State.linkEnter_frame (s : Sys2Proof.Machine.State) (a1 : Nat) (a2 : Nat) : Frame 258 s (State.linkEnter s a1 a2) := by
  unfold State.linkEnter
  dsimp only
  with_reducible exact Frame.ite (m := 258) (Frame.of (m := 258) (State.linkChannelsLost_frame _ _) (Frame.foldl (m := 258) (fun _ => fun _
                   => Frame.mono (m := 258) (State.setStrm_frame _ _ _) (by decide)) (Frame.ite (m := 258) (Frame.of (m := 258) (State.inc_frame _ _)
                   (Frame.of (m := 258) (State.setN_frame _ _ _) (Frame.mono (m := 258) (State.setGlink_frame _ _ _) (by decide)) (by decide)) (by decide))
                   (Frame.ite (m := 258) (Frame.of (m := 258) (State.linkStarts_frame _ _) (Frame.of (m := 258) (State.setN_frame _ _ _) (Frame.mono
                   (m := 258) (State.setGlink_frame _ _ _) (by decide)) (by decide)) (by decide)) (Frame.of (m := 258) (State.setN_frame _ _ _) (Frame.mono
                   (m := 258) (State.setGlink_frame _ _ _) (by decide)) (by decide))))) (by decide)) (Frame.ite (m := 258) (Frame.of (m := 258)
                   (State.inc_frame _ _) (Frame.of (m := 258) (State.setN_frame _ _ _) (Frame.mono (m := 258) (State.setGlink_frame _ _ _) (by decide))
                   (by decide)) (by decide)) (Frame.ite (m := 258) (Frame.of (m := 258) (State.linkStarts_frame _ _) (Frame.of (m := 258) (State.setN_frame _
                   _ _) (Frame.mono (m := 258) (State.setGlink_frame _ _ _) (by decide)) (by decide)) (by decide)) (Frame.of (m := 258) (State.setN_frame _ _
                   _) (Frame.mono (m := 258) (State.setGlink_frame _ _ _) (by decide)) (by decide))))

theorem State.linksDown_frame (s : Sys2Proof.Machine.State) : Frame 258 s (State.linksDown s) := by
  unfold State.linksDown
  with_reducible exact Frame.foldl (m := 258) (fun _ => fun _ => Frame.ite (m := 258) (Frame.refl 258 _) (Frame.mono (m := 258)
                   (State.linkEnter_frame _ _ _) (by decide))) (Frame.refl 258 _)

theorem State.spoofBreak_frame (s : Sys2Proof.Machine.State) : Frame 256 s (State.spoofBreak s) := by
  unfold State.spoofBreak
  dsimp only
  simp only [State.mk_make]
  with_reducible exact Frame.up8 (m := 256) (Frame.refl 256 _) (by decide)

theorem State.surveyRestart_frame (s : Sys2Proof.Machine.State) : Frame 258 s (State.surveyRestart s) := by
  unfold State.surveyRestart
  dsimp only
  simp only [State.mk_make]
  with_reducible exact Frame.up8 (m := 258) (Frame.mono (m := 258) (State.setO_frame _ _ _) (by decide)) (by decide)

theorem State.gladeOff_frame (s : Sys2Proof.Machine.State) : Frame 258 s (State.gladeOff s) := by
  unfold State.gladeOff
  dsimp only
  with_reducible exact Frame.ite (m := 258) (Frame.refl 258 _) (Frame.ite (m := 258) (Frame.of (m := 258) (State.setO_frame _ _ _) (Frame.of
                   (m := 258) (State.dropRecord_frame _) (Frame.of (m := 258) (State.spoofBreak_frame _) (Frame.ite (m := 258) (Frame.of (m := 258)
                   (State.surveyRestart_frame _) (State.forChans_frame (m := 258) (fun _ => fun _ => Frame.ite (m := 258) (Frame.refl 258 _) (Frame.mono
                   (m := 258) (State.chanEnter_frame _ _ _) (by decide))) (Frame.of (m := 258) (State.linksDown_frame _) (Frame.mono (m := 258)
                   (State.setO_frame _ _ _) (by decide)) (by decide))) (by decide)) (State.forChans_frame (m := 258) (fun _ => fun _ => Frame.ite (m := 258)
                   (Frame.refl 258 _) (Frame.mono (m := 258) (State.chanEnter_frame _ _ _) (by decide))) (Frame.of (m := 258) (State.linksDown_frame _)
                   (Frame.mono (m := 258) (State.setO_frame _ _ _) (by decide)) (by decide)))) (by decide)) (by decide)) (by decide)) (Frame.of (m := 258)
                   (State.dropRecord_frame _) (Frame.of (m := 258) (State.spoofBreak_frame _) (Frame.ite (m := 258) (Frame.of (m := 258)
                   (State.surveyRestart_frame _) (State.forChans_frame (m := 258) (fun _ => fun _ => Frame.ite (m := 258) (Frame.refl 258 _) (Frame.mono
                   (m := 258) (State.chanEnter_frame _ _ _) (by decide))) (Frame.of (m := 258) (State.linksDown_frame _) (Frame.mono (m := 258)
                   (State.setO_frame _ _ _) (by decide)) (by decide))) (by decide)) (State.forChans_frame (m := 258) (fun _ => fun _ => Frame.ite (m := 258)
                   (Frame.refl 258 _) (Frame.mono (m := 258) (State.chanEnter_frame _ _ _) (by decide))) (Frame.of (m := 258) (State.linksDown_frame _)
                   (Frame.mono (m := 258) (State.setO_frame _ _ _) (by decide)) (by decide)))) (by decide)) (by decide)))

theorem State.i2cRelease_frame (s : Sys2Proof.Machine.State) (a1 : Nat) : Frame 524290 s (State.i2cRelease s a1) := by
  unfold State.i2cRelease
  dsimp only
  simp only [State.mk_make]
  with_reducible exact Frame.ite (m := 524290) (Frame.of (m := 524290) (State.setO_frame _ _ _) (Frame.up19 (m := 524290) (Frame.refl 524290
                   _) (by decide)) (by decide)) (Frame.up19 (m := 524290) (Frame.refl 524290 _) (by decide))

theorem State.macDown_frame (s : Sys2Proof.Machine.State) (a1 : Nat) : Frame 2 s (State.macDown s a1) := by
  unfold State.macDown
  with_reducible exact Frame.ite (m := 2) (Frame.refl 2 _) (Frame.of (m := 2) (State.setO_frame _ _ _) (Frame.ite (m := 2) (Frame.mono
                   (m := 2) (State.inc_frame _ _) (by decide)) (Frame.refl 2 _)) (by decide))

theorem State.haltUnits_frame (s : Sys2Proof.Machine.State) : Frame 530690 s (State.haltUnits s) := by
  unfold State.haltUnits
  dsimp only
  simp only [State.mk_make]
  with_reducible exact Frame.foldl (m := 530690) (fun _ => fun _ => Frame.mono (m := 530690) (State.i2cRelease_frame _ _) (by decide))
                   (Frame.of (m := 530690) (State.setO_frame _ _ _) (Frame.mk1 (m := 530690) (Frame.foldl (m := 530690) (fun _ => fun _ => Frame.mono
                   (m := 530690) (State.macDown_frame _ _) (by decide)) (Frame.mono (m := 530690) (State.gladeOff_frame _) (by decide))) (.inl (by decide))
                   (.inr rfl) (.inr rfl) (.inr rfl) (.inr rfl) (.inr rfl) (.inr rfl) (.inr rfl) (.inr rfl) (.inr rfl) (.inl (by decide)) (.inl (by decide))
                   (.inr rfl) (.inr rfl) (.inr rfl) (.inr rfl) (.inr rfl) (.inr rfl) (.inr rfl)) (by decide))

theorem State.halt_frame (s : Sys2Proof.Machine.State) (a1 : Sys2Proof.Machine.Report) : Frame 678222 s (State.halt s a1) := by
  unfold State.halt
  dsimp only
  simp only [State.mk_make]
  with_reducible exact Frame.of (m := 678222) (State.changeMode_frame _ _) (Frame.of (m := 678222) (State.haltUnits_frame _) (Frame.of
                   (m := 678222) (State.bobHalt_frame _) (Frame.of (m := 678222) (State.haltDump_frame _) (Frame.up6 (m := 678222) (Frame.of (m := 678222)
                   (State.flushLog_frame _ _ _) (Frame.up6 (m := 678222) (Frame.refl 678222 _) (by decide)) (by decide)) (by decide)) (by decide))
                   (by decide)) (by decide)) (by decide)

theorem State.recordFault_frame (s : Sys2Proof.Machine.State) (a1 : Nat) (a2 : Nat) (a3 : Nat) (a4 : Nat) (a5 : Bool) : Frame 743758 s (State.recordFault s a1 a2 a3 a4 a5).1 := by
  unfold State.recordFault
  dsimp only
  simp only [State.mk_make]
  split
  · with_reducible exact Frame.refl 743758 _
  · with_reducible refine Frame.iteFst (m := 743758) (Frame.refl 743758 _) (Frame.iteFst (m := 743758) (Frame.of (m := 743758)
                     (State.halt_frame _ _) (Frame.of (m := 743758) (State.hostEvent_frame _ _) (Frame.of (m := 743758) (State.countOpen_frame _) (Frame.mk1
                     (m := 743758) (Frame.ite (m := 743758) (Frame.of (m := 743758) (State.inc_frame _ _) (Frame.ite (m := 743758) (Frame.of (m := 743758)
                     (State.inc_frame _ _) (Frame.mono (m := 743758) (State.inc_frame _ _) (by decide)) (by decide)) (Frame.mono (m := 743758)
                     (State.inc_frame _ _) (by decide))) (by decide)) (Frame.ite (m := 743758) (Frame.of (m := 743758) (State.inc_frame _ _) (Frame.mono
                     (m := 743758) (State.inc_frame _ _) (by decide)) (by decide)) (Frame.mono (m := 743758) (State.inc_frame _ _) (by decide)))) (.inr rfl)
                     (.inr rfl) (.inr rfl) (.inr rfl) (.inr rfl) ?_ (.inr rfl) (.inr rfl) (.inr rfl) (.inr rfl) (.inr rfl) (.inr rfl) (.inr rfl) (.inr rfl)
                     (.inr rfl) ?_ (.inr rfl) (.inr rfl) (.inr rfl)) (by decide)) (by decide)) (by decide)) (Frame.of (m := 743758) (State.hostEvent_frame _
                     _) (Frame.of (m := 743758) (State.countOpen_frame _) (Frame.mk1 (m := 743758) (Frame.ite (m := 743758) (Frame.of (m := 743758)
                     (State.inc_frame _ _) (Frame.ite (m := 743758) (Frame.of (m := 743758) (State.inc_frame _ _) (Frame.mono (m := 743758) (State.inc_frame
                     _ _) (by decide)) (by decide)) (Frame.mono (m := 743758) (State.inc_frame _ _) (by decide))) (by decide)) (Frame.ite (m := 743758)
                     (Frame.of (m := 743758) (State.inc_frame _ _) (Frame.mono (m := 743758) (State.inc_frame _ _) (by decide)) (by decide)) (Frame.mono
                     (m := 743758) (State.inc_frame _ _) (by decide)))) (.inr rfl) (.inr rfl) (.inr rfl) (.inr rfl) (.inr rfl) ?_ (.inr rfl) (.inr rfl)
                     (.inr rfl) (.inr rfl) (.inr rfl) (.inr rfl) (.inr rfl) (.inr rfl) (.inr rfl) ?_ (.inr rfl) (.inr rfl) (.inr rfl)) (by decide))
                     (by decide)))
    · split
      · split
        · split
          · split
            · split
              · split
                · with_reducible exact (.inl (by decide))
                · with_reducible exact (.inl (by decide))
              · split
                · with_reducible exact (.inl (by decide))
                · with_reducible exact (.inl (by decide))
            · split
              · split
                · with_reducible exact (.inl (by decide))
                · with_reducible exact (.inl (by decide))
              · split
                · with_reducible exact (.inl (by decide))
                · with_reducible exact (.inl (by decide))
          · split
            · split
              · split
                · with_reducible exact (.inl (by decide))
                · with_reducible exact (.inl (by decide))
              · split
                · with_reducible exact (.inl (by decide))
                · with_reducible exact (.inl (by decide))
            · split
              · split
                · with_reducible exact (.inl (by decide))
                · with_reducible exact (.inl (by decide))
              · split
                · with_reducible exact (.inl (by decide))
                · with_reducible exact (.inl (by decide))
        · split
          · split
            · split
              · split
                · with_reducible exact (.inl (by decide))
                · with_reducible exact (.inl (by decide))
              · split
                · with_reducible exact (.inl (by decide))
                · with_reducible exact (.inl (by decide))
            · split
              · split
                · with_reducible exact (.inl (by decide))
                · with_reducible exact (.inl (by decide))
              · split
                · with_reducible exact (.inl (by decide))
                · with_reducible exact (.inl (by decide))
          · split
            · split
              · split
                · with_reducible exact (.inl (by decide))
                · with_reducible exact (.inl (by decide))
              · split
                · with_reducible exact (.inl (by decide))
                · with_reducible exact (.inl (by decide))
            · split
              · split
                · with_reducible exact (.inl (by decide))
                · with_reducible exact (.inl (by decide))
              · split
                · with_reducible exact (.inl (by decide))
                · with_reducible exact (.inl (by decide))
      · split
        · split
          · split
            · split
              · split
                · with_reducible exact (.inl (by decide))
                · with_reducible exact (.inl (by decide))
              · split
                · with_reducible exact (.inl (by decide))
                · with_reducible exact (.inl (by decide))
            · split
              · split
                · with_reducible exact (.inl (by decide))
                · with_reducible exact (.inl (by decide))
              · split
                · with_reducible exact (.inl (by decide))
                · with_reducible exact (.inl (by decide))
          · split
            · split
              · split
                · with_reducible exact (.inl (by decide))
                · with_reducible exact (.inl (by decide))
              · split
                · with_reducible exact (.inl (by decide))
                · with_reducible exact (.inl (by decide))
            · split
              · split
                · with_reducible exact (.inl (by decide))
                · with_reducible exact (.inl (by decide))
              · split
                · with_reducible exact (.inl (by decide))
                · with_reducible exact (.inl (by decide))
        · split
          · split
            · split
              · split
                · with_reducible exact (.inl (by decide))
                · with_reducible exact (.inl (by decide))
              · split
                · with_reducible exact (.inl (by decide))
                · with_reducible exact (.inl (by decide))
            · split
              · split
                · with_reducible exact (.inl (by decide))
                · with_reducible exact (.inl (by decide))
              · split
                · with_reducible exact (.inl (by decide))
                · with_reducible exact (.inl (by decide))
          · split
            · split
              · split
                · with_reducible exact (.inl (by decide))
                · with_reducible exact (.inl (by decide))
              · split
                · with_reducible exact (.inl (by decide))
                · with_reducible exact (.inl (by decide))
            · split
              · split
                · with_reducible exact (.inl (by decide))
                · with_reducible exact (.inl (by decide))
              · split
                · with_reducible exact (.inl (by decide))
                · with_reducible exact (.inl (by decide))
    · split
      · split
        · split
          · split
            · with_reducible exact (.inl (by decide))
            · with_reducible exact (.inl (by decide))
          · split
            · with_reducible exact (.inl (by decide))
            · with_reducible exact (.inl (by decide))
        · split
          · split
            · with_reducible exact (.inl (by decide))
            · with_reducible exact (.inl (by decide))
          · split
            · with_reducible exact (.inl (by decide))
            · with_reducible exact (.inl (by decide))
      · with_reducible exact (.inr rfl)
    · split
      · split
        · split
          · split
            · split
              · split
                · with_reducible exact (.inl (by decide))
                · with_reducible exact (.inl (by decide))
              · split
                · with_reducible exact (.inl (by decide))
                · with_reducible exact (.inl (by decide))
            · split
              · split
                · with_reducible exact (.inl (by decide))
                · with_reducible exact (.inl (by decide))
              · split
                · with_reducible exact (.inl (by decide))
                · with_reducible exact (.inl (by decide))
          · split
            · split
              · split
                · with_reducible exact (.inl (by decide))
                · with_reducible exact (.inl (by decide))
              · split
                · with_reducible exact (.inl (by decide))
                · with_reducible exact (.inl (by decide))
            · split
              · split
                · with_reducible exact (.inl (by decide))
                · with_reducible exact (.inl (by decide))
              · split
                · with_reducible exact (.inl (by decide))
                · with_reducible exact (.inl (by decide))
        · split
          · split
            · split
              · split
                · with_reducible exact (.inl (by decide))
                · with_reducible exact (.inl (by decide))
              · split
                · with_reducible exact (.inl (by decide))
                · with_reducible exact (.inl (by decide))
            · split
              · split
                · with_reducible exact (.inl (by decide))
                · with_reducible exact (.inl (by decide))
              · split
                · with_reducible exact (.inl (by decide))
                · with_reducible exact (.inl (by decide))
          · split
            · split
              · split
                · with_reducible exact (.inl (by decide))
                · with_reducible exact (.inl (by decide))
              · split
                · with_reducible exact (.inl (by decide))
                · with_reducible exact (.inl (by decide))
            · split
              · split
                · with_reducible exact (.inl (by decide))
                · with_reducible exact (.inl (by decide))
              · split
                · with_reducible exact (.inl (by decide))
                · with_reducible exact (.inl (by decide))
      · split
        · split
          · split
            · split
              · split
                · with_reducible exact (.inl (by decide))
                · with_reducible exact (.inl (by decide))
              · split
                · with_reducible exact (.inl (by decide))
                · with_reducible exact (.inl (by decide))
            · split
              · split
                · with_reducible exact (.inl (by decide))
                · with_reducible exact (.inl (by decide))
              · split
                · with_reducible exact (.inl (by decide))
                · with_reducible exact (.inl (by decide))
          · split
            · split
              · split
                · with_reducible exact (.inl (by decide))
                · with_reducible exact (.inl (by decide))
              · split
                · with_reducible exact (.inl (by decide))
                · with_reducible exact (.inl (by decide))
            · split
              · split
                · with_reducible exact (.inl (by decide))
                · with_reducible exact (.inl (by decide))
              · split
                · with_reducible exact (.inl (by decide))
                · with_reducible exact (.inl (by decide))
        · split
          · split
            · split
              · split
                · with_reducible exact (.inl (by decide))
                · with_reducible exact (.inl (by decide))
              · split
                · with_reducible exact (.inl (by decide))
                · with_reducible exact (.inl (by decide))
            · split
              · split
                · with_reducible exact (.inl (by decide))
                · with_reducible exact (.inl (by decide))
              · split
                · with_reducible exact (.inl (by decide))
                · with_reducible exact (.inl (by decide))
          · split
            · split
              · split
                · with_reducible exact (.inl (by decide))
                · with_reducible exact (.inl (by decide))
              · split
                · with_reducible exact (.inl (by decide))
                · with_reducible exact (.inl (by decide))
            · split
              · split
                · with_reducible exact (.inl (by decide))
                · with_reducible exact (.inl (by decide))
              · split
                · with_reducible exact (.inl (by decide))
                · with_reducible exact (.inl (by decide))
    · split
      · split
        · split
          · split
            · with_reducible exact (.inl (by decide))
            · with_reducible exact (.inl (by decide))
          · split
            · with_reducible exact (.inl (by decide))
            · with_reducible exact (.inl (by decide))
        · split
          · split
            · with_reducible exact (.inl (by decide))
            · with_reducible exact (.inl (by decide))
          · split
            · with_reducible exact (.inl (by decide))
            · with_reducible exact (.inl (by decide))
      · with_reducible exact (.inr rfl)

theorem State.raise_frame (s : Sys2Proof.Machine.State) (a1 : Nat) (a2 : Nat) (a3 : Nat) : Frame 743774 s (State.raise s a1 a2 a3).1 := by
  unfold State.raise
  split
  · with_reducible exact Frame.mono (m := 743774) (State.recordFault_frame _ _ _ _ _ _) (by decide)
  · with_reducible exact Frame.of (m := 743774) (State.recordFault_frame _ _ _ _ _ _) (Frame.mono (m := 743774) (State.drew_frame _)
                     (by decide)) (by decide)

theorem State.faulted_frame (s : Sys2Proof.Machine.State) (a1 : Nat) (a2 : Nat) (a3 : Nat) : Frame 743774 s (State.faulted s a1 a2 a3) := by
  unfold State.faulted
  with_reducible exact Frame.mono (m := 743774) (State.raise_frame _ _ _ _) (by decide)

theorem State.portStop_frame (s : Sys2Proof.Machine.State) (a1 : Nat) : Frame 743774 s (State.portStop s a1) := by
  unfold State.portStop
  dsimp only
  with_reducible exact Frame.ite (m := 743774) (Frame.mono (m := 743774) (State.faulted_frame _ _ _ _) (by decide)) (Frame.refl 743774 _)

theorem State.setPort_frame (s : Sys2Proof.Machine.State) (a1 : Nat) (a2 : Sys2Proof.Machine.StampPort) : Frame 128 s (State.setPort s a1 a2) := by
  unfold State.setPort
  dsimp only
  simp only [State.mk_make]
  with_reducible exact Frame.up7 (m := 128) (Frame.refl 128 _) (by decide)

theorem State.setBlock_frame (s : Sys2Proof.Machine.State) (a1 : Nat) (a2 : Bool) (a3 : Sys2Proof.Machine.RawBlock) : Frame 128 s (State.setBlock s a1 a2 a3) := by
  unfold State.setBlock
  dsimp only
  with_reducible exact Frame.mono (m := 128) (State.setPort_frame _ _ _) (by decide)

theorem State.setCoderHist_frame (s : Sys2Proof.Machine.State) (a1 : Nat) (a2 : Bool) (a3 : List Int) : Frame 128 s (State.setCoderHist s a1 a2 a3) := by
  unfold State.setCoderHist
  dsimp only
  split
  · with_reducible exact Frame.mono (m := 128) (State.setPort_frame _ _ _) (by decide)
  · with_reducible exact Frame.mono (m := 128) (State.setPort_frame _ _ _) (by decide)

theorem State.gapMarker_frame (s : Sys2Proof.Machine.State) (a1 : Nat) (a2 : Bool) : Frame 130 s (State.gapMarker s a1 a2) := by
  unfold State.gapMarker
  dsimp only
  with_reducible exact Frame.ite (m := 130) (Frame.refl 130 _) (Frame.ite (m := 130) (Frame.refl 130 _) (Frame.of (m := 130)
                   (State.inc_frame _ _) (Frame.of (m := 130) (State.setPort_frame _ _ _) (Frame.of (m := 130) (State.setCoderHist_frame _ _ _ _) (Frame.mono
                   (m := 130) (State.setBlock_frame _ _ _ _) (by decide)) (by decide)) (by decide)) (by decide)))

theorem State.codeStamp_frame (s : Sys2Proof.Machine.State) (a1 : Nat) (a2 : Sys2Proof.Machine.Stamp) : Frame 130 s (State.codeStamp s a1 a2) := by
  unfold State.codeStamp
  dsimp only
  with_reducible refine Frame.ite (m := 130) (Frame.of (m := 130) (State.setBlock_frame _ _ _ _) (Frame.mono (m := 130) (State.inc_frame _
                   _) (by decide)) (by decide)) (Frame.ite (m := 130) ?_ (Frame.of (m := 130) (State.setCoderHist_frame _ _ _ _) (Frame.of (m := 130)
                   (State.setBlock_frame _ _ _ _) (Frame.of (m := 130) (State.gapMarker_frame _ _ _) (Frame.mono (m := 130) (State.inc_frame _ _)
                   (by decide)) (by decide)) (by decide)) (by decide)))
  split
  · with_reducible exact Frame.of (m := 130) (State.inc_frame _ _) (Frame.of (m := 130) (State.setCoderHist_frame _ _ _ _) (Frame.of
                     (m := 130) (State.setPort_frame _ _ _) (Frame.mono (m := 130) (State.setBlock_frame _ _ _ _) (by decide)) (by decide)) (by decide))
                     (by decide)
  · with_reducible exact Frame.of (m := 130) (State.setCoderHist_frame _ _ _ _) (Frame.of (m := 130) (State.setPort_frame _ _ _) (Frame.mono
                     (m := 130) (State.setBlock_frame _ _ _ _) (by decide)) (by decide)) (by decide)

theorem State.commitStamp_frame (s : Sys2Proof.Machine.State) (a1 : Nat) (a2 : Sys2Proof.Machine.HeldStamp) : Frame 130 s (State.commitStamp s a1 a2) := by
  unfold State.commitStamp
  dsimp only
  with_reducible exact Frame.ite (m := 130) (Frame.ite (m := 130) (Frame.mono (m := 130) (State.gapMarker_frame _ _ _) (by decide))
                   (Frame.refl 130 _)) (Frame.ite (m := 130) (Frame.of (m := 130) (State.codeStamp_frame _ _ _) (Frame.mono (m := 130) (State.setPort_frame _
                   _ _) (by decide)) (by decide)) (Frame.mono (m := 130) (State.setPort_frame _ _ _) (by decide)))

theorem State.commitHeld_frame (s : Sys2Proof.Machine.State) (a1 : Nat) (a2 : Bool) : Frame 130 s (State.commitHeld s a1 a2) := by
  unfold State.commitHeld
  dsimp only
  with_reducible exact Frame.foldl (m := 130) (fun _ => fun _ => Frame.mono (m := 130) (State.commitStamp_frame _ _ _) (by decide))
                   (Frame.mono (m := 130) (State.setPort_frame _ _ _) (by decide))

theorem State.gateFault_frame (s : Sys2Proof.Machine.State) (a1 : Nat) : Frame 128 s (State.gateFault s a1) := by
  unfold State.gateFault
  dsimp only
  with_reducible exact Frame.mono (m := 128) (State.setPort_frame _ _ _) (by decide)

theorem State.discardUnverified_frame (s : Sys2Proof.Machine.State) (a1 : Nat) : Frame 130 s (State.discardUnverified s a1) := by
  unfold State.discardUnverified
  dsimp only
  with_reducible exact Frame.of (m := 130) (State.commitHeld_frame _ _ _) (Frame.of (m := 130) (State.gateFault_frame _ _) (Frame.mono
                   (m := 130) (State.setPort_frame _ _ _) (by decide)) (by decide)) (by decide)

theorem State.setStState_frame (s : Sys2Proof.Machine.State) (a1 : Nat) (a2 : Nat) : Frame 130 s (State.setStState s a1 a2) := by
  unfold State.setStState
  dsimp only
  with_reducible exact Frame.ite (m := 130) (Frame.of (m := 130) (State.setN_frame _ _ _) (Frame.mono (m := 130) (State.setStamper_frame _ _
                   _) (by decide)) (by decide)) (Frame.mono (m := 130) (State.setStamper_frame _ _ _) (by decide))

theorem State.stamperOut_frame (s : Sys2Proof.Machine.State) (a1 : Nat) : Frame 130 s (State.stamperOut s a1) := by
  unfold State.stamperOut
  dsimp only
  with_reducible exact Frame.of (m := 130) (State.discardUnverified_frame _ _) (Frame.ite (m := 130) (Frame.of (m := 130) (State.inc_frame _
                   _) (Frame.of (m := 130) (State.setStamper_frame _ _ _) (Frame.mono (m := 130) (State.setStState_frame _ _ _) (by decide)) (by decide))
                   (by decide)) (Frame.of (m := 130) (State.setStamper_frame _ _ _) (Frame.mono (m := 130) (State.setStState_frame _ _ _) (by decide))
                   (by decide))) (by decide)

theorem State.tableReject_frame (s : Sys2Proof.Machine.State) (a1 : Nat) : Frame 743902 s (State.tableReject s a1) := by
  unfold State.tableReject
  dsimp only
  with_reducible exact Frame.ite (m := 743902) (Frame.of (m := 743902) (State.portStop_frame _ _) (Frame.of (m := 743902)
                   (State.stamperOut_frame _ _) (Frame.of (m := 743902) (State.raise_frame _ _ _ _) (Frame.ite (m := 743902) (Frame.mono (m := 743902)
                   (State.inc_frame _ _) (by decide)) (Frame.refl 743902 _)) (by decide)) (by decide)) (by decide)) (Frame.of (m := 743902)
                   (State.raise_frame _ _ _ _) (Frame.ite (m := 743902) (Frame.mono (m := 743902) (State.inc_frame _ _) (by decide)) (Frame.refl 743902 _))
                   (by decide))

theorem State.addRun_frame (s : Sys2Proof.Machine.State) (a1 : Nat) (a2 : List Nat) : Frame 1006046 s (State.addRun s a1 a2) := by
  unfold State.addRun
  dsimp only
  split
  · with_reducible exact Frame.mono (m := 1006046) (State.newTable_frame _ _ _ _) (by decide)
  · with_reducible exact Frame.mono (m := 1006046) (State.tableReject_frame _ _) (by decide)

theorem State.addStep_frame (s : Sys2Proof.Machine.State) (a1 : Int) : Frame 18 s (State.addStep s a1) := by
  unfold State.addStep
  dsimp only
  simp only [State.mk_make]
  with_reducible refine Frame.ite (m := 18) (Frame.refl 18 _) (Frame.of (m := 18) (State.inc_frame _ _) (Frame.mk1 (m := 18) (Frame.refl 18
                   _) (.inr rfl) (.inr rfl) (.inr rfl) ?_ (.inr rfl) (.inr rfl) (.inr rfl) (.inr rfl) (.inr rfl) (.inr rfl) (.inr rfl) (.inr rfl) (.inr rfl)
                   (.inr rfl) (.inr rfl) (.inr rfl) (.inr rfl) (.inr rfl) (.inr rfl)) (by decide))
  split
  · with_reducible exact (.inl (by decide))
  · with_reducible exact (.inl (by decide))

theorem State.setSlot_frame (s : Sys2Proof.Machine.State) (a1 : Nat) (a2 : Sys2Proof.Machine.Slot) : Frame 8196 s (State.setSlot s a1 a2) := by
  unfold State.setSlot
  dsimp only
  simp only [State.mk_make]
  with_reducible exact Frame.of (m := 8196) (State.setBlob_frame _ _ _) (Frame.of (m := 8196) (State.setBlob_frame _ _ _) (Frame.up13
                   (m := 8196) (Frame.refl 8196 _) (by decide)) (by decide)) (by decide)

theorem State.keyAdmitted_frame (s : Sys2Proof.Machine.State) (a1 : Nat) (a2 : Sys2Proof.Machine.DictWrite) : Frame 73732 s (State.keyAdmitted s a1 a2) := by
  unfold State.keyAdmitted
  dsimp only
  simp only [State.mk_make]
  with_reducible exact Frame.ite (m := 73732) (Frame.refl 73732 _) (Frame.ite (m := 73732) (Frame.up16 (m := 73732) (Frame.mono (m := 73732)
                   (State.setSlot_frame _ _ _) (by decide)) (by decide)) (Frame.mono (m := 73732) (State.setSlot_frame _ _ _) (by decide)))

theorem State.admitBatch_frame (s : Sys2Proof.Machine.State) (a1 : Sys2Proof.Machine.DictMsg) (a2 : List Sys2Proof.Machine.DictWrite) : Frame 90116 s (State.admitBatch s a1 a2).1 := by
  unfold State.admitBatch
  dsimp only
  simp only [State.mk_make]
  with_reducible refine Frame.iteFst (m := 90116) (Frame.mk1 (m := 90116) (Frame.foldl (m := 90116) (fun _ => fun _ => Frame.mono
                   (m := 90116) (State.keyAdmitted_frame _ _ _) (by decide)) (Frame.refl 90116 _)) (.inr rfl) (.inr rfl) (.inr rfl) (.inr rfl) (.inr rfl)
                   (.inr rfl) (.inr rfl) (.inr rfl) (.inr rfl) (.inr rfl) (.inr rfl) (.inr rfl) (.inr rfl) ?_ (.inr rfl) (.inr rfl) (.inr rfl) (.inr rfl)
                   (.inr rfl)) (Frame.iteFst (m := 90116) (Frame.mk1 (m := 90116) (Frame.foldl (m := 90116) (fun _ => fun _ => Frame.mono (m := 90116)
                   (State.keyAdmitted_frame _ _ _) (by decide)) (Frame.refl 90116 _)) (.inr rfl) (.inr rfl) (.inr rfl) (.inr rfl) (.inr rfl) (.inr rfl)
                   (.inr rfl) (.inr rfl) (.inr rfl) (.inr rfl) (.inr rfl) (.inr rfl) (.inr rfl) (.inr rfl) (.inr rfl) ?_ (.inr rfl) (.inr rfl) (.inr rfl))
                   (Frame.mk1 (m := 90116) (Frame.foldl (m := 90116) (fun _ => fun _ => Frame.mono (m := 90116) (State.keyAdmitted_frame _ _ _) (by decide))
                   (Frame.refl 90116 _)) (.inr rfl) (.inr rfl) (.inr rfl) (.inr rfl) (.inr rfl) (.inr rfl) (.inr rfl) (.inr rfl) (.inr rfl) (.inr rfl)
                   (.inr rfl) (.inr rfl) (.inr rfl) ?_ (.inr rfl) (.inr rfl) (.inr rfl) (.inr rfl) (.inr rfl)))
  · split
    · with_reducible exact (.inl (by decide))
    · split
      · with_reducible exact (.inl (by decide))
      · with_reducible exact (.inl (by decide))
  · split
    · with_reducible exact (.inl (by decide))
    · split
      · with_reducible exact (.inl (by decide))
      · with_reducible exact (.inl (by decide))
  · split
    · with_reducible exact (.inl (by decide))
    · split
      · with_reducible exact (.inl (by decide))
      · with_reducible exact (.inl (by decide))

theorem State.setMember_frame (s : Sys2Proof.Machine.State) (a1 : Nat) (a2 : Sys2Proof.Machine.Member) : Frame 1024 s (State.setMember s a1 a2) := by
  unfold State.setMember
  dsimp only
  simp only [State.mk_make]
  with_reducible exact Frame.up10 (m := 1024) (Frame.refl 1024 _) (by decide)

theorem State.adoptPlane_frame (s : Sys2Proof.Machine.State) : Frame 66560 s (State.adoptPlane s) := by
  unfold State.adoptPlane
  dsimp only
  simp only [State.mk_make]
  with_reducible refine Frame.foldl (m := 66560) (fun _ => fun _ => Frame.mono (m := 66560) (State.setMember_frame _ _ _) (by decide))
                   (Frame.mk1 (m := 66560) (Frame.refl 66560 _) (.inr rfl) (.inr rfl) (.inr rfl) (.inr rfl) (.inr rfl) (.inr rfl) (.inr rfl) (.inr rfl)
                   (.inr rfl) ?_ (.inr rfl) (.inr rfl) (.inr rfl) (.inr rfl) (.inr rfl) (.inl (by decide)) (.inr rfl) (.inr rfl) (.inr rfl))
  split
  · with_reducible exact (.inl (by decide))
  · with_reducible exact (.inl (by decide))

theorem State.anchor_frame (s : Sys2Proof.Machine.State) (a1 : Option (Nat × Nat)) : Frame 6 s (State.anchor s a1) := by
  unfold State.anchor
  dsimp only
  with_reducible refine Frame.of (m := 6) (State.setBlob_frame _ _ _) (Frame.of (m := 6) (State.setN_frame _ _ _) (Frame.of (m := 6)
                   (State.setN_frame _ _ _) ?_ (by decide)) (by decide)) (by decide)
  split
  · with_reducible exact Frame.of (m := 6) (State.setN_frame _ _ _) (Frame.of (m := 6) (State.setN_frame _ _ _) (Frame.of (m := 6)
                     (State.setN_frame _ _ _) (Frame.mono (m := 6) (State.setN_frame _ _ _) (by decide)) (by decide)) (by decide)) (by decide)
  · with_reducible exact Frame.refl 6 _

theorem State.setF_frame (s : Sys2Proof.Machine.State) (a1 : Nat) (a2 : Bool) : Frame 2 s (State.setF s a1 a2) := by
  unfold State.setF
  with_reducible exact Frame.mono (m := 2) (State.setO_frame _ _ _) (by decide)

theorem State.takeLength_frame (s : Sys2Proof.Machine.State) (a1 : Bool) (a2 : Int) : Frame 1024 s (State.takeLength s a1 a2).1 := by
  unfold State.takeLength
  dsimp only
  simp only [State.mk_make]
  with_reducible exact Frame.iteFst (m := 1024) (Frame.refl 1024 _) (Frame.up10 (m := 1024) (Frame.refl 1024 _) (by decide))

theorem State.advance_frame (s : Sys2Proof.Machine.State) (a1 : Int) : Frame 1174 s (State.advance s a1) := by
  unfold State.advance
  dsimp only
  simp only [State.mk_make]
  with_reducible refine Frame.ite (m := 1174) (Frame.of (m := 1174) (State.anchor_frame _ _) (Frame.of (m := 1174) (State.setF_frame _ _ _)
                   (Frame.of (m := 1174) (State.inc_frame _ _) (Frame.ite (m := 1174) (Frame.of (m := 1174) (State.setO_frame _ _ _) (Frame.of (m := 1174)
                   (State.setF_frame _ _ _) (Frame.of (m := 1174) (State.setN_frame _ _ _) (Frame.of (m := 1174) (State.setO_frame _ _ _) (Frame.of
                   (m := 1174) (State.setO_frame _ _ _) (Frame.of (m := 1174) (State.setO_frame _ _ _) (Frame.of (m := 1174) (State.setN_frame _ _ _)
                   (Frame.mk1 (m := 1174) (Frame.mono (m := 1174) (State.takeLength_frame _ _ _) (by decide)) (.inr rfl) (.inr rfl) (.inr rfl) ?_ (.inr rfl)
                   (.inr rfl) ?_ (.inr rfl) (.inr rfl) (.inr rfl) (.inr rfl) (.inr rfl) (.inr rfl) (.inr rfl) (.inr rfl) (.inr rfl) (.inr rfl) (.inr rfl)
                   (.inr rfl)) (by decide)) (by decide)) (by decide)) (by decide)) (by decide)) (by decide)) (by decide)) (Frame.of (m := 1174)
                   (State.inc_frame _ _) (Frame.of (m := 1174) (State.setO_frame _ _ _) (Frame.of (m := 1174) (State.setF_frame _ _ _) (Frame.of (m := 1174)
                   (State.setN_frame _ _ _) (Frame.of (m := 1174) (State.setO_frame _ _ _) (Frame.of (m := 1174) (State.setO_frame _ _ _) (Frame.of
                   (m := 1174) (State.setO_frame _ _ _) (Frame.of (m := 1174) (State.setN_frame _ _ _) (Frame.mk1 (m := 1174) (Frame.mono (m := 1174)
                   (State.takeLength_frame _ _ _) (by decide)) (.inr rfl) (.inr rfl) (.inr rfl) ?_ (.inr rfl) (.inr rfl) ?_ (.inr rfl) (.inr rfl) (.inr rfl)
                   (.inr rfl) (.inr rfl) (.inr rfl) (.inr rfl) (.inr rfl) (.inr rfl) (.inr rfl) (.inr rfl) (.inr rfl)) (by decide)) (by decide)) (by decide))
                   (by decide)) (by decide)) (by decide)) (by decide)) (by decide))) (by decide)) (by decide)) (by decide)) (Frame.of (m := 1174)
                   (State.anchor_frame _ _) (Frame.ite (m := 1174) (Frame.of (m := 1174) (State.setO_frame _ _ _) (Frame.of (m := 1174) (State.setF_frame _ _
                   _) (Frame.of (m := 1174) (State.setN_frame _ _ _) (Frame.of (m := 1174) (State.setO_frame _ _ _) (Frame.of (m := 1174) (State.setO_frame _
                   _ _) (Frame.of (m := 1174) (State.setO_frame _ _ _) (Frame.of (m := 1174) (State.setN_frame _ _ _) (Frame.mk1 (m := 1174) (Frame.mono
                   (m := 1174) (State.takeLength_frame _ _ _) (by decide)) (.inr rfl) (.inr rfl) (.inr rfl) ?_ (.inr rfl) (.inr rfl) ?_ (.inr rfl) (.inr rfl)
                   (.inr rfl) (.inr rfl) (.inr rfl) (.inr rfl) (.inr rfl) (.inr rfl) (.inr rfl) (.inr rfl) (.inr rfl) (.inr rfl)) (by decide)) (by decide))
                   (by decide)) (by decide)) (by decide)) (by decide)) (by decide)) (Frame.of (m := 1174) (State.inc_frame _ _) (Frame.of (m := 1174)
                   (State.setO_frame _ _ _) (Frame.of (m := 1174) (State.setF_frame _ _ _) (Frame.of (m := 1174) (State.setN_frame _ _ _) (Frame.of
                   (m := 1174) (State.setO_frame _ _ _) (Frame.of (m := 1174) (State.setO_frame _ _ _) (Frame.of (m := 1174) (State.setO_frame _ _ _)
                   (Frame.of (m := 1174) (State.setN_frame _ _ _) (Frame.mk1 (m := 1174) (Frame.mono (m := 1174) (State.takeLength_frame _ _ _) (by decide))
                   (.inr rfl) (.inr rfl) (.inr rfl) ?_ (.inr rfl) (.inr rfl) ?_ (.inr rfl) (.inr rfl) (.inr rfl) (.inr rfl) (.inr rfl) (.inr rfl) (.inr rfl)
                   (.inr rfl) (.inr rfl) (.inr rfl) (.inr rfl) (.inr rfl)) (by decide)) (by decide)) (by decide)) (by decide)) (by decide)) (by decide))
                   (by decide)) (by decide))) (by decide))
  · split
    · split
      · split
        · with_reducible exact (.inl (by decide))
        · split
          · with_reducible exact (.inl (by decide))
          · with_reducible exact (.inl (by decide))
      · split
        · with_reducible exact (.inl (by decide))
        · split
          · with_reducible exact (.inl (by decide))
          · with_reducible exact (.inl (by decide))
    · split
      · split
        · with_reducible exact (.inl (by decide))
        · split
          · with_reducible exact (.inl (by decide))
          · with_reducible exact (.inl (by decide))
      · split
        · with_reducible exact (.inl (by decide))
        · split
          · with_reducible exact (.inl (by decide))
          · with_reducible exact (.inl (by decide))
  · split
    · with_reducible exact (.inl (by decide))
    · with_reducible exact (.inl (by decide))
  · split
    · split
      · split
        · with_reducible exact (.inl (by decide))
        · split
          · with_reducible exact (.inl (by decide))
          · with_reducible exact (.inl (by decide))
      · split
        · with_reducible exact (.inl (by decide))
        · split
          · with_reducible exact (.inl (by decide))
          · with_reducible exact (.inl (by decide))
    · split
      · split
        · with_reducible exact (.inl (by decide))
        · split
          · with_reducible exact (.inl (by decide))
          · with_reducible exact (.inl (by decide))
      · split
        · with_reducible exact (.inl (by decide))
        · split
          · with_reducible exact (.inl (by decide))
          · with_reducible exact (.inl (by decide))
  · split
    · with_reducible exact (.inl (by decide))
    · with_reducible exact (.inl (by decide))
  · split
    · split
      · split
        · with_reducible exact (.inl (by decide))
        · split
          · with_reducible exact (.inl (by decide))
          · with_reducible exact (.inl (by decide))
      · split
        · with_reducible exact (.inl (by decide))
        · split
          · with_reducible exact (.inl (by decide))
          · with_reducible exact (.inl (by decide))
    · split
      · split
        · with_reducible exact (.inl (by decide))
        · split
          · with_reducible exact (.inl (by decide))
          · with_reducible exact (.inl (by decide))
      · split
        · with_reducible exact (.inl (by decide))
        · split
          · with_reducible exact (.inl (by decide))
          · with_reducible exact (.inl (by decide))
  · split
    · with_reducible exact (.inl (by decide))
    · with_reducible exact (.inl (by decide))
  · split
    · split
      · split
        · with_reducible exact (.inl (by decide))
        · split
          · with_reducible exact (.inl (by decide))
          · with_reducible exact (.inl (by decide))
      · split
        · with_reducible exact (.inl (by decide))
        · split
          · with_reducible exact (.inl (by decide))
          · with_reducible exact (.inl (by decide))
    · split
      · split
        · with_reducible exact (.inl (by decide))
        · split
          · with_reducible exact (.inl (by decide))
          · with_reducible exact (.inl (by decide))
      · split
        · with_reducible exact (.inl (by decide))
        · split
          · with_reducible exact (.inl (by decide))
          · with_reducible exact (.inl (by decide))
  · split
    · with_reducible exact (.inl (by decide))
    · with_reducible exact (.inl (by decide))

theorem State.groveFault_frame (s : Sys2Proof.Machine.State) (a1 : Nat) : Frame 743774 s (State.groveFault s a1) := by
  unfold State.groveFault
  dsimp only
  simp only [State.mk_make]
  with_reducible exact Frame.ite (m := 743774) (Frame.refl 743774 _) (Frame.up6 (m := 743774) (Frame.mono (m := 743774) (State.faulted_frame
                   _ _ _ _) (by decide)) (by decide))

theorem State.aesOut_frame (s : Sys2Proof.Machine.State) (a1 : Nat) (a2 : Nat) : Frame 743774 s (State.aesOut s a1 a2) := by
  unfold State.aesOut
  dsimp only
  with_reducible exact Frame.ite (m := 743774) (Frame.of (m := 743774) (State.groveFault_frame _ _) (Frame.mono (m := 743774)
                   (State.setN_frame _ _ _) (by decide)) (by decide)) (Frame.mono (m := 743774) (State.setN_frame _ _ _) (by decide))

theorem State.aesServe_frame (s : Sys2Proof.Machine.State) (a1 : Nat) (a2 : Nat) (a3 : Nat) (a4 : Nat) : Frame 32768 s (State.aesServe s a1 a2 a3 a4) := by
  unfold State.aesServe
  dsimp only
  simp only [State.mk_make]
  split
  · with_reducible exact Frame.refl 32768 _
  · with_reducible exact Frame.up15 (m := 32768) (Frame.refl 32768 _) (by decide)

theorem State.chanPlan_frame (s : Sys2Proof.Machine.State) (a1 : Nat) (a2 : Nat × Nat × Nat × Nat) : Frame 256 s (State.chanPlan s a1 a2) := by
  unfold State.chanPlan
  dsimp only
  with_reducible exact Frame.mono (m := 256) (State.setChan_frame _ _ _) (by decide)

theorem State.deriveLaneRate_frame (s : Sys2Proof.Machine.State) : Frame 2 s (State.deriveLaneRate s) := by
  unfold State.deriveLaneRate
  dsimp only
  split
  · with_reducible exact Frame.mono (m := 2) (State.setO_frame _ _ _) (by decide)
  · with_reducible exact Frame.refl 2 _

theorem State.closeGate_frame (s : Sys2Proof.Machine.State) (a1 : Nat) : Frame 128 s (State.closeGate s a1) := by
  unfold State.closeGate
  dsimp only
  with_reducible exact Frame.mono (m := 128) (State.setPort_frame _ _ _) (by decide)

theorem State.deriveRaw_frame (s : Sys2Proof.Machine.State) (a1 : Nat) : Frame 2 s (State.deriveRaw s a1) := by
  unfold State.deriveRaw
  dsimp only
  with_reducible exact Frame.of (m := 2) (State.setN_frame _ _ _) (Frame.mono (m := 2) (State.setN_frame _ _ _) (by decide)) (by decide)

theorem State.resetHist_frame (s : Sys2Proof.Machine.State) (a1 : Nat) (a2 : Sys2Proof.Machine.OldCoder) : Frame 128 s (State.resetHist s a1 a2) := by
  unfold State.resetHist
  dsimp only
  with_reducible exact Frame.mono (m := 128) (State.setPort_frame _ _ _) (by decide)

theorem State.portChanged_frame (a0 : Sys2Proof.Machine.State) (s : Sys2Proof.Machine.State) (a2 : Nat) (a3 : Bool) (a4 : Bool) : Frame 130 s (State.portChanged a0 s a2 a3 a4) := by
  unfold State.portChanged
  dsimp only
  with_reducible exact Frame.of (m := 130) (State.deriveRaw_frame _ _) (Frame.ite (m := 130) (Frame.of (m := 130) (State.resetHist_frame _ _
                   _) (Frame.ite (m := 130) (Frame.mono (m := 130) (State.closeGate_frame _ _) (by decide)) (Frame.refl 130 _)) (by decide)) (Frame.ite
                   (m := 130) (Frame.mono (m := 130) (State.closeGate_frame _ _) (by decide)) (Frame.refl 130 _))) (by decide)

theorem State.stamperOff_frame (s : Sys2Proof.Machine.State) (a1 : Nat) : Frame 130 s (State.stamperOff s a1) := by
  unfold State.stamperOff
  dsimp only
  with_reducible exact Frame.ite (m := 130) (Frame.refl 130 _) (Frame.of (m := 130) (State.resetHist_frame _ _ _) (Frame.of (m := 130)
                   (State.setStamper_frame _ _ _) (Frame.mono (m := 130) (State.setStState_frame _ _ _) (by decide)) (by decide)) (by decide))

theorem State.portOff_frame (s : Sys2Proof.Machine.State) (a1 : Nat) : Frame 130 s (State.portOff s a1) := by
  unfold State.portOff
  with_reducible exact Frame.of (m := 130) (State.stamperOff_frame _ _) (Frame.mono (m := 130) (State.stamperOff_frame _ _) (by decide))
                   (by decide)

theorem State.solCalChange_frame (s : Sys2Proof.Machine.State) : Frame 258 s (State.solCalChange s) := by
  unfold State.solCalChange
  dsimp only
  simp only [State.mk_make]
  with_reducible exact Frame.up8 (m := 258) (Frame.mono (m := 258) (State.setN_frame _ _ _) (by decide)) (by decide)

theorem State.positionWritten_frame (s : Sys2Proof.Machine.State) : Frame 258 s (State.positionWritten s) := by
  unfold State.positionWritten
  dsimp only
  simp only [State.mk_make]
  with_reducible exact Frame.ite (m := 258) (Frame.ite (m := 258) (Frame.of (m := 258) (State.surveyRestart_frame _) (Frame.of (m := 258)
                   (State.setO_frame _ _ _) (Frame.up8 (m := 258) (Frame.mono (m := 258) (State.solCalChange_frame _) (by decide)) (by decide)) (by decide))
                   (by decide)) (Frame.of (m := 258) (State.setO_frame _ _ _) (Frame.up8 (m := 258) (Frame.mono (m := 258) (State.solCalChange_frame _)
                   (by decide)) (by decide)) (by decide))) (Frame.of (m := 258) (State.setO_frame _ _ _) (Frame.up8 (m := 258) (Frame.mono (m := 258)
                   (State.solCalChange_frame _) (by decide)) (by decide)) (by decide))

theorem State.releaseNotches_frame (s : Sys2Proof.Machine.State) (a1 : Nat) : Frame 256 s (State.releaseNotches s a1) := by
  unfold State.releaseNotches
  dsimp only
  with_reducible exact Frame.mono (m := 256) (State.setStrm_frame _ _ _) (by decide)

end Sys2Proof.Machine
end

