-- ==== Sys2Proof/Laws/Frames2.lean ====
section
/-!
SUPPORT. The frames of operations and commands, part 2.
-/

namespace Sys2Proof.Machine

theorem State.afterInput_frame (a0 : Sys2Proof.Machine.State) (s : Sys2Proof.Machine.State) (a2 : Nat) (a3 : Nat) : Frame 386 s (State.afterInput a0 s a2 a3) := by
  unfold State.afterInput
  dsimp only
  with_reducible exact Frame.ite (m := 386) (Frame.ite (m := 386) (Frame.mono (m := 386) (State.portOff_frame _ _) (by decide)) (Frame.refl
                   386 _)) (Frame.ite (m := 386) (Frame.mono (m := 386) (State.portChanged_frame _ _ _ _ _) (by decide)) (Frame.ite (m := 386) (Frame.ite
                   (m := 386) (Frame.refl 386 _) (Frame.mono (m := 386) (State.gladeOff_frame _) (by decide))) (Frame.ite (m := 386) (Frame.of (m := 386)
                   (State.linksDown_frame _) (Frame.mono (m := 386) (State.deriveLaneRate_frame _) (by decide)) (by decide)) (Frame.ite (m := 386) (Frame.ite
                   (m := 386) (Frame.of (m := 386) (State.linkEnter_frame _ _ _) (Frame.mono (m := 386) (State.deriveLaneRate_frame _) (by decide))
                   (by decide)) (Frame.ite (m := 386) (Frame.of (m := 386) (State.linkStarts_frame _ _) (Frame.mono (m := 386) (State.deriveLaneRate_frame _)
                   (by decide)) (by decide)) (Frame.mono (m := 386) (State.deriveLaneRate_frame _) (by decide)))) (Frame.ite (m := 386) (Frame.ite (m := 386)
                   (Frame.refl 386 _) (Frame.mono (m := 386) (State.releaseNotches_frame _ _) (by decide))) (Frame.ite (m := 386) (Frame.mono (m := 386)
                   (State.chanPlan_frame _ _ _) (by decide)) (Frame.ite (m := 386) (Frame.mono (m := 386) (State.solCalChange_frame _) (by decide))
                   (Frame.ite (m := 386) (Frame.ite (m := 386) (Frame.mono (m := 386) (State.positionWritten_frame _) (by decide)) (Frame.mono (m := 386)
                   (State.solCalChange_frame _) (by decide))) (Frame.ite (m := 386) (Frame.mono (m := 386) (State.positionWritten_frame _) (by decide))
                   (Frame.ite (m := 386) (Frame.ite (m := 386) (Frame.of (m := 386) (State.spoofBreak_frame _) (Frame.mono (m := 386) (State.setF_frame _ _
                   _) (by decide)) (by decide)) (Frame.refl 386 _)) (Frame.refl 386 _)))))))))))

theorem State.bucketChanged_frame (a0 : Sys2Proof.Machine.State) (s : Sys2Proof.Machine.State) (a2 : Nat) : Frame 4096 s (State.bucketChanged a0 s a2) := by
  unfold State.bucketChanged
  dsimp only
  simp only [State.mk_make]
  with_reducible exact Frame.up12 (m := 4096) (Frame.refl 4096 _) (by decide)

theorem State.fillBuckets_frame (s : Sys2Proof.Machine.State) : Frame 4096 s (State.fillBuckets s) := by
  unfold State.fillBuckets
  dsimp only
  simp only [State.mk_make]
  with_reducible exact Frame.up12 (m := 4096) (Frame.refl 4096 _) (by decide)

theorem State.dropCopy_frame (s : Sys2Proof.Machine.State) (a1 : Nat) (a2 : Nat) : Frame 32768 s (State.dropCopy s a1 a2) := by
  unfold State.dropCopy
  dsimp only
  simp only [State.mk_make]
  with_reducible exact Frame.up15 (m := 32768) (Frame.refl 32768 _) (by decide)

theorem State.incHw_frame (s : Sys2Proof.Machine.State) (a1 : Nat) : Frame 18 s (State.incHw s a1) := by
  unfold State.incHw
  with_reducible exact Frame.mono (m := 18) (State.addHwKey_frame _ _ _) (by decide)

theorem State.setDir_frame (s : Sys2Proof.Machine.State) (a1 : Nat) (a2 : Sys2Proof.Machine.DirState) : Frame 32768 s (State.setDir s a1 a2) := by
  unfold State.setDir
  dsimp only
  simp only [State.mk_make]
  with_reducible exact Frame.up15 (m := 32768) (Frame.refl 32768 _) (by decide)

theorem State.putLine_frame (s : Sys2Proof.Machine.State) (a1 : Nat) (a2 : Nat) : Frame 32768 s (State.putLine s a1 a2) := by
  unfold State.putLine
  split
  · with_reducible exact Frame.ite (m := 32768) (Frame.of (m := 32768) (State.setDir_frame _ _ _) (Frame.mono (m := 32768)
                     (State.dropCopy_frame _ _ _) (by decide)) (by decide)) (Frame.refl 32768 _)
  · with_reducible exact Frame.refl 32768 _

theorem State.placeCopy_frame (s : Sys2Proof.Machine.State) (a1 : Nat) (a2 : Nat) (a3 : Bool) : Frame 32768 s (State.placeCopy s a1 a2 a3) := by
  unfold State.placeCopy
  dsimp only
  simp only [State.mk_make]
  with_reducible refine Frame.mk1 (m := 32768) ?_ (.inr rfl) (.inr rfl) (.inr rfl) (.inr rfl) (.inr rfl) (.inr rfl) (.inr rfl) (.inr rfl)
                   (.inr rfl) (.inr rfl) (.inr rfl) (.inr rfl) (.inr rfl) (.inr rfl) ?_ (.inr rfl) (.inr rfl) (.inr rfl) (.inr rfl)
  · split
    · with_reducible exact Frame.mono (m := 32768) (State.putLine_frame _ _ _) (by decide)
    · split
      · with_reducible exact Frame.of (m := 32768) (State.setDir_frame _ _ _) (Frame.mono (m := 32768) (State.dropCopy_frame _ _ _)
                         (by decide)) (by decide)
      · with_reducible exact Frame.mono (m := 32768) (State.dropCopy_frame _ _ _) (by decide)
    · with_reducible exact Frame.refl 32768 _
  · split
    · with_reducible exact (.inl (by decide))
    · split
      · split
        · with_reducible exact (.inl (by decide))
        · with_reducible exact (.inl (by decide))
      · with_reducible exact (.inl (by decide))
    · with_reducible exact (.inl (by decide))

theorem State.ownLine_frame (s : Sys2Proof.Machine.State) (a1 : Nat) (a2 : Nat) : Frame 32786 s (State.ownLine s a1 a2) := by
  unfold State.ownLine
  dsimp only
  split
  · with_reducible exact Frame.ite (m := 32786) (Frame.of (m := 32786) (State.incHw_frame _ _) (Frame.mono (m := 32786)
                     (State.placeCopy_frame _ _ _ _) (by decide)) (by decide)) (Frame.of (m := 32786) (State.incHw_frame _ _) (Frame.of (m := 32786)
                     (State.setDir_frame _ _ _) (Frame.of (m := 32786) (State.placeCopy_frame _ _ _ _) (Frame.mono (m := 32786) (State.putLine_frame _ _ _)
                     (by decide)) (by decide)) (by decide)) (by decide))
  · with_reducible exact Frame.of (m := 32786) (State.incHw_frame _ _) (Frame.of (m := 32786) (State.setDir_frame _ _ _) (Frame.of
                     (m := 32786) (State.placeCopy_frame _ _ _ _) (Frame.foldl (m := 32786) (fun _ => fun _ => Frame.mono (m := 32786) (State.dropCopy_frame
                     _ _ _) (by decide)) (Frame.refl 32786 _)) (by decide)) (by decide)) (by decide)
  · with_reducible exact Frame.of (m := 32786) (State.incHw_frame _ _) (Frame.of (m := 32786) (State.setDir_frame _ _ _) (Frame.mono
                     (m := 32786) (State.placeCopy_frame _ _ _ _) (by decide)) (by decide)) (by decide)

theorem State.setSession_frame (s : Sys2Proof.Machine.State) (a1 : Nat) (a2 : Option Sys2Proof.Machine.Session) : Frame 69632 s (State.setSession s a1 a2) := by
  unfold State.setSession
  dsimp only
  simp only [State.mk_make]
  with_reducible exact Frame.mk1 (m := 69632) (Frame.refl 69632 _) (.inr rfl) (.inr rfl) (.inr rfl) (.inr rfl) (.inr rfl) (.inr rfl)
                   (.inr rfl) (.inr rfl) (.inr rfl) (.inr rfl) (.inr rfl) (.inl (by decide)) (.inr rfl) (.inr rfl) (.inr rfl) (.inl (by decide)) (.inr rfl)
                   (.inr rfl) (.inr rfl)

theorem State.commitSession_frame (s : Sys2Proof.Machine.State) (a1 : Nat) (a2 : Nat) (a3 : Option Sys2Proof.Machine.Session) : Frame 102418 s (State.commitSession s a1 a2 a3) := by
  unfold State.commitSession
  with_reducible exact Frame.of (m := 102418) (State.setSession_frame _ _ _) (Frame.mono (m := 102418) (State.ownLine_frame _ _ _)
                   (by decide)) (by decide)

theorem State.setMac_frame (s : Sys2Proof.Machine.State) (a1 : Nat) (a2 : Sys2Proof.Machine.Mac) : Frame 2048 s (State.setMac s a1 a2) := by
  unfold State.setMac
  dsimp only
  simp only [State.mk_make]
  with_reducible exact Frame.up11 (m := 2048) (Frame.refl 2048 _) (by decide)

theorem State.enqueue_frame (s : Sys2Proof.Machine.State) (a1 : Nat) (a2 : Sys2Proof.Machine.TxFrame) : Frame 2048 s (State.enqueue s a1 a2) := by
  unfold State.enqueue
  dsimp only
  with_reducible exact Frame.mono (m := 2048) (State.setMac_frame _ _ _) (by decide)

theorem State.instanceOff_frame (s : Sys2Proof.Machine.State) (a1 : Sys2Proof.Machine.PtpCfg) (a2 : Nat) : Frame 104466 s (State.instanceOff s a1 a2) := by
  unfold State.instanceOff
  dsimp only
  with_reducible refine Frame.foldl (m := 104466) (fun _ => fun _ => ?_) (Frame.refl 104466 _)
  split
  · with_reducible refine Frame.ite (m := 104466) (Frame.of (m := 104466) (State.setN_frame _ _ _) (Frame.of (m := 104466)
                     (State.commitSession_frame _ _ _ _) (Frame.ite (m := 104466) (Frame.ite (m := 104466) ?_ (Frame.mono (m := 104466) (State.inc_frame _ _)
                     (by decide))) (Frame.refl 104466 _)) (by decide)) (by decide)) (Frame.refl 104466 _)
    split
    · with_reducible exact Frame.mono (m := 104466) (State.enqueue_frame _ _ _) (by decide)
    · with_reducible exact Frame.refl 104466 _
  · with_reducible exact Frame.refl 104466 _

theorem State.putSlot_frame (s : Sys2Proof.Machine.State) (a1 : Nat) (a2 : Sys2Proof.Machine.Slot) : Frame 8196 s (State.putSlot s a1 a2) := by
  unfold State.putSlot
  with_reducible exact Frame.mono (m := 8196) (State.setSlot_frame _ _ _) (by decide)

theorem State.loadSa_frame (s : Sys2Proof.Machine.State) (a1 : Nat) : Frame 12292 s (State.loadSa s a1) := by
  unfold State.loadSa
  dsimp only
  simp only [State.mk_make]
  with_reducible refine Frame.foldl (m := 12292) (fun _ => fun _ => Frame.ite (m := 12292) (Frame.refl 12292 _) (Frame.mono (m := 12292)
                   (State.putSlot_frame _ _ _) (by decide))) (Frame.mk1 (m := 12292) (Frame.refl 12292 _) (.inr rfl) (.inr rfl) (.inr rfl) (.inr rfl)
                   (.inr rfl) (.inr rfl) (.inr rfl) (.inr rfl) (.inr rfl) (.inr rfl) (.inr rfl) ?_ (.inr rfl) (.inr rfl) (.inr rfl) (.inr rfl) (.inr rfl)
                   (.inr rfl) (.inr rfl))
  split
  · split
    · split
      · with_reducible exact (.inl (by decide))
      · with_reducible exact (.inl (by decide))
    · split
      · with_reducible exact (.inl (by decide))
      · with_reducible exact (.inl (by decide))
  · with_reducible exact (.inl (by decide))

theorem State.declare_frame (s : Sys2Proof.Machine.State) (a1 : Nat) (a2 : Sys2Proof.Octets) : Frame 1026 s (State.declare s a1 a2) := by
  unfold State.declare
  dsimp only
  simp only [State.mk_make]
  with_reducible exact Frame.of (m := 1026) (State.setN_frame _ _ _) (Frame.of (m := 1026) (State.setO_frame _ _ _) (Frame.of (m := 1026)
                   (State.setO_frame _ _ _) (Frame.of (m := 1026) (State.setMember_frame _ _ _) (Frame.up10 (m := 1026) (Frame.refl 1026 _) (by decide))
                   (by decide)) (by decide)) (by decide)) (by decide)

theorem State.memberCfgWritten_frame (s : Sys2Proof.Machine.State) (a1 : Nat) : Frame 1026 s (State.memberCfgWritten s a1) := by
  unfold State.memberCfgWritten
  dsimp only
  with_reducible exact Frame.ite (m := 1026) (Frame.mono (m := 1026) (State.setMember_frame _ _ _) (by decide)) (Frame.mono (m := 1026)
                   (State.declare_frame _ _ _) (by decide))

theorem State.npModeWritten_frame (s : Sys2Proof.Machine.State) (a1 : Nat) (a2 : Bool) : Frame 2050 s (State.npModeWritten s a1 a2) := by
  unfold State.npModeWritten
  dsimp only
  with_reducible exact Frame.foldl (m := 2050) (fun _ => fun _ => Frame.of (m := 2050) (State.setN_frame _ _ _) (Frame.of (m := 2050)
                   (State.setMac_frame _ _ _) (Frame.ite (m := 2050) (Frame.mono (m := 2050) (State.macDown_frame _ _) (by decide)) (Frame.refl 2050 _))
                   (by decide)) (by decide)) (Frame.refl 2050 _)

theorem State.setOut_frame (s : Sys2Proof.Machine.State) (a1 : Nat) (a2 : Sys2Proof.Machine.OutPort) : Frame 512 s (State.setOut s a1 a2) := by
  unfold State.setOut
  dsimp only
  simp only [State.mk_make]
  with_reducible exact Frame.up9 (m := 512) (Frame.refl 512 _) (by decide)

theorem State.outModeWritten_frame (s : Sys2Proof.Machine.State) (a1 : Nat) : Frame 512 s (State.outModeWritten s a1) := by
  unfold State.outModeWritten
  dsimp only
  with_reducible exact Frame.mono (m := 512) (State.setOut_frame _ _ _) (by decide)

theorem State.slewOut_frame (s : Sys2Proof.Machine.State) (a1 : Nat) (a2 : Int) : Frame 514 s (State.slewOut s a1 a2) := by
  unfold State.slewOut
  dsimp only
  with_reducible exact Frame.of (m := 514) (State.setF_frame _ _ _) (Frame.of (m := 514) (State.setO_frame _ _ _) (Frame.mono (m := 514)
                   (State.setOut_frame _ _ _) (by decide)) (by decide)) (by decide)

theorem State.outMoved_frame (a0 : Sys2Proof.Machine.State) (s : Sys2Proof.Machine.State) (a2 : Nat) : Frame 514 s (State.outMoved a0 s a2) := by
  unfold State.outMoved
  dsimp only
  with_reducible exact Frame.ite (m := 514) (Frame.mono (m := 514) (State.slewOut_frame _ _ _) (by decide)) (Frame.refl 514 _)

theorem State.rampWritten_frame (s : Sys2Proof.Machine.State) (a1 : Nat) : Frame 514 s (State.rampWritten s a1) := by
  unfold State.rampWritten
  dsimp only
  with_reducible exact Frame.of (m := 514) (State.setF_frame _ _ _) (Frame.mono (m := 514) (State.setOut_frame _ _ _) (by decide))
                   (by decide)

theorem State.refPriorityWritten_frame (s : Sys2Proof.Machine.State) (a1 : Nat) : Frame 514 s (State.refPriorityWritten s a1) := by
  unfold State.refPriorityWritten
  with_reducible exact Frame.ite (m := 514) (Frame.ite (m := 514) (Frame.refl 514 _) (Frame.of (m := 514) (State.setO_frame _ _ _) (Frame.of
                   (m := 514) (State.setO_frame _ _ _) (Frame.mono (m := 514) (State.setRef_frame _ _ _) (by decide)) (by decide)) (by decide))) (Frame.ite
                   (m := 514) (Frame.of (m := 514) (State.setO_frame _ _ _) (Frame.mono (m := 514) (State.setRef_frame _ _ _) (by decide)) (by decide))
                   (Frame.refl 514 _))

theorem State.setDst_frame (s : Sys2Proof.Machine.State) (a1 : Nat) (a2 : Sys2Proof.Machine.Dsteer) : Frame 512 s (State.setDst s a1 a2) := by
  unfold State.setDst
  dsimp only
  simp only [State.mk_make]
  with_reducible exact Frame.up9 (m := 512) (Frame.refl 512 _) (by decide)

theorem State.afterService_frame (a0 : Sys2Proof.Machine.State) (s : Sys2Proof.Machine.State) (a2 : Nat) (a3 : Nat) : Frame 261654 s (State.afterService a0 s a2 a3) := by
  unfold State.afterService
  dsimp only
  simp only [State.mk_make]
  with_reducible refine Frame.ite (m := 261654) (Frame.mono (m := 261654) (State.refPriorityWritten_frame _ _) (by decide)) (Frame.ite
                   (m := 261654) (Frame.mono (m := 261654) (State.setRef_frame _ _ _) (by decide)) (Frame.ite (m := 261654) (Frame.ite (m := 261654)
                   (Frame.refl 261654 _) (Frame.up9 (m := 261654) (Frame.refl 261654 _) (by decide))) (Frame.ite (m := 261654) (Frame.of (m := 261654)
                   (State.setO_frame _ _ _) (Frame.mono (m := 261654) (State.setDst_frame _ _ _) (by decide)) (by decide)) (Frame.ite (m := 261654)
                   (Frame.mono (m := 261654) (State.outModeWritten_frame _ _) (by decide)) (Frame.ite (m := 261654) (Frame.mono (m := 261654)
                   (State.rampWritten_frame _ _) (by decide)) (Frame.ite (m := 261654) (Frame.mono (m := 261654) (State.outMoved_frame _ _ _) (by decide))
                   (Frame.ite (m := 261654) (Frame.mono (m := 261654) (State.memberCfgWritten_frame _ _) (by decide)) (Frame.ite (m := 261654) (Frame.mono
                   (m := 261654) (State.npModeWritten_frame _ _ _) (by decide)) (Frame.ite (m := 261654) (Frame.mono (m := 261654) (State.fillBuckets_frame
                   _) (by decide)) (Frame.ite (m := 261654) (Frame.mono (m := 261654) (State.bucketChanged_frame _ _ _) (by decide)) (Frame.ite (m := 261654)
                   (Frame.mk1 (m := 261654) (Frame.refl 261654 _) (.inr rfl) (.inr rfl) (.inr rfl) (.inr rfl) (.inr rfl) (.inr rfl) (.inr rfl) (.inr rfl)
                   (.inr rfl) (.inr rfl) (.inr rfl) (.inr rfl) (.inr rfl) ?_ (.inr rfl) (.inr rfl) (.inr rfl) (.inr rfl) (.inr rfl)) (Frame.ite (m := 261654)
                   (Frame.ite (m := 261654) (Frame.mono (m := 261654) (State.instanceOff_frame _ _ _) (by decide)) (Frame.refl 261654 _)) (Frame.ite
                   (m := 261654) (Frame.mono (m := 261654) (State.loadSa_frame _ _) (by decide)) (Frame.ite (m := 261654) (Frame.mono (m := 261654)
                   (State.setN_frame _ _ _) (by decide)) (Frame.ite (m := 261654) (Frame.ite (m := 261654) (Frame.up17 (m := 261654) (Frame.mono
                   (m := 261654) (State.setO_frame _ _ _) (by decide)) (by decide)) (Frame.refl 261654 _)) (Frame.refl 261654 _))))))))))))))))
  split
  · with_reducible exact (.inl (by decide))
  · with_reducible exact (.inl (by decide))

theorem State.boundKWritten_frame (s : Sys2Proof.Machine.State) : Frame 2 s (State.boundKWritten s) := by
  unfold State.boundKWritten
  with_reducible exact Frame.foldl (m := 2) (fun _ => fun _ => Frame.ite (m := 2) (Frame.refl 2 _) (Frame.mono (m := 2) (State.setN_frame _
                   _ _) (by decide))) (Frame.refl 2 _)

theorem State.showCeilings_frame (s : Sys2Proof.Machine.State) : Frame 2 s (State.showCeilings s) := by
  unfold State.showCeilings
  with_reducible exact Frame.of (m := 2) (State.setF_frame _ _ _) (Frame.of (m := 2) (State.setF_frame _ _ _) (Frame.mono (m := 2)
                   (State.setF_frame _ _ _) (by decide)) (by decide)) (by decide)

theorem State.afterWrite_frame (a0 : Sys2Proof.Machine.State) (s : Sys2Proof.Machine.State) (a2 : Nat) : Frame 262038 s (State.afterWrite a0 s a2) := by
  unfold State.afterWrite
  dsimp only
  with_reducible exact Frame.ite (m := 262038) (Frame.of (m := 262038) (State.setN_frame _ _ _) (Frame.of (m := 262038)
                   (State.afterService_frame _ _ _ _) (Frame.of (m := 262038) (State.afterInput_frame _ _ _ _) (Frame.ite (m := 262038) (Frame.mono
                   (m := 262038) (State.boundKWritten_frame _) (by decide)) (Frame.refl 262038 _)) (by decide)) (by decide)) (by decide)) (Frame.ite
                   (m := 262038) (Frame.of (m := 262038) (State.showCeilings_frame _) (Frame.of (m := 262038) (State.afterService_frame _ _ _ _) (Frame.of
                   (m := 262038) (State.afterInput_frame _ _ _ _) (Frame.ite (m := 262038) (Frame.mono (m := 262038) (State.boundKWritten_frame _)
                   (by decide)) (Frame.refl 262038 _)) (by decide)) (by decide)) (by decide)) (Frame.of (m := 262038) (State.afterService_frame _ _ _ _)
                   (Frame.of (m := 262038) (State.afterInput_frame _ _ _ _) (Frame.ite (m := 262038) (Frame.mono (m := 262038) (State.boundKWritten_frame _)
                   (by decide)) (Frame.refl 262038 _)) (by decide)) (by decide)))

theorem State.ageSecond_frame (s : Sys2Proof.Machine.State) : Frame 262146 s (State.ageSecond s) := by
  unfold State.ageSecond
  dsimp only
  simp only [State.mk_make]
  with_reducible exact Frame.up18 (m := 262146) (Frame.of (m := 262146) (State.setN_frame _ _ _) (Frame.mono (m := 262146) (State.setN_frame
                   _ _ _) (by decide)) (by decide)) (by decide)

theorem State.agreeConfig_frame (s : Sys2Proof.Machine.State) (a1 : Sys2Proof.Machine.Agree) : Frame 743774 s (State.agreeConfig s a1) := by
  unfold State.agreeConfig
  dsimp only
  simp only [State.mk_make]
  with_reducible refine Frame.ite (m := 743774) (Frame.of (m := 743774) (State.faulted_frame _ _ _ _) (Frame.mk1 (m := 743774) (Frame.refl
                   743774 _) (.inr rfl) (.inr rfl) (.inr rfl) (.inr rfl) (.inr rfl) (.inr rfl) (.inr rfl) (.inr rfl) (.inr rfl) (.inr rfl) (.inr rfl)
                   (.inr rfl) (.inr rfl) (.inr rfl) (.inr rfl) ?_ (.inr rfl) (.inr rfl) (.inr rfl)) (by decide)) (Frame.mk1 (m := 743774) (Frame.refl 743774
                   _) (.inr rfl) (.inr rfl) (.inr rfl) (.inr rfl) (.inr rfl) (.inr rfl) (.inr rfl) (.inr rfl) (.inr rfl) (.inr rfl) (.inr rfl) (.inr rfl)
                   (.inr rfl) (.inr rfl) (.inr rfl) ?_ (.inr rfl) (.inr rfl) (.inr rfl))
  · split
    · split
      · with_reducible exact (.inl (by decide))
      · with_reducible exact (.inl (by decide))
    · split
      · with_reducible exact (.inl (by decide))
      · with_reducible exact (.inl (by decide))
  · split
    · split
      · with_reducible exact (.inl (by decide))
      · with_reducible exact (.inl (by decide))
    · split
      · with_reducible exact (.inl (by decide))
      · with_reducible exact (.inl (by decide))

theorem State.keepShadow_frame (s : Sys2Proof.Machine.State) : Frame 65536 s (State.keepShadow s) := by
  unfold State.keepShadow
  dsimp only
  simp only [State.mk_make]
  with_reducible exact Frame.up16 (m := 65536) (Frame.refl 65536 _) (by decide)

theorem State.setSeq_frame (s : Sys2Proof.Machine.State) (a1 : Sys2Proof.Machine.PtpStream) (a2 : Nat) (a3 : Nat) : Frame 102418 s (State.setSeq s a1 a2 a3) := by
  unfold State.setSeq
  dsimp only
  simp only [State.mk_make]
  split
  · split
    · with_reducible exact Frame.mono (m := 102418) (State.commitSession_frame _ _ _ _) (by decide)
    · with_reducible exact Frame.refl 102418 _
  · with_reducible exact Frame.up12 (m := 102418) (Frame.refl 102418 _) (by decide)

theorem State.seqTaken_frame (s : Sys2Proof.Machine.State) (a1 : Sys2Proof.Machine.Commit) : Frame 102418 s (State.seqTaken s a1) := by
  unfold State.seqTaken
  split
  · with_reducible exact Frame.mono (m := 102418) (State.setSeq_frame _ _ _ _) (by decide)
  · with_reducible exact Frame.refl 102418 _

theorem State.agreePeer_frame (s : Sys2Proof.Machine.State) (a1 : Sys2Proof.Machine.Agree) : Frame 102418 s (State.agreePeer s a1) := by
  unfold State.agreePeer
  dsimp only
  simp only [State.mk_make]
  with_reducible refine Frame.mk1 (m := 102418) (Frame.ite (m := 102418) (Frame.foldl (m := 102418) (fun _ => fun _ => Frame.mono
                   (m := 102418) (State.seqTaken_frame _ _) (by decide)) (Frame.ite (m := 102418) (Frame.mono (m := 102418) (State.keepShadow_frame _)
                   (by decide)) (Frame.refl 102418 _))) (Frame.ite (m := 102418) (Frame.mono (m := 102418) (State.keepShadow_frame _) (by decide))
                   (Frame.refl 102418 _))) (.inr rfl) (.inr rfl) (.inr rfl) (.inr rfl) (.inr rfl) (.inr rfl) (.inr rfl) (.inr rfl) (.inr rfl) (.inr rfl)
                   (.inr rfl) (.inr rfl) (.inr rfl) (.inr rfl) (.inr rfl) ?_ (.inr rfl) (.inr rfl) (.inr rfl)
  split
  · split
    · split
      · split
        · split
          · with_reducible exact (.inl (by decide))
          · split
            · with_reducible exact (.inl (by decide))
            · split
              · split
                · with_reducible exact (.inl (by decide))
                · with_reducible exact (.inl (by decide))
              · with_reducible exact (.inl (by decide))
        · split
          · with_reducible exact (.inl (by decide))
          · split
            · with_reducible exact (.inl (by decide))
            · split
              · split
                · with_reducible exact (.inl (by decide))
                · with_reducible exact (.inl (by decide))
              · with_reducible exact (.inl (by decide))
      · split
        · split
          · with_reducible exact (.inl (by decide))
          · split
            · with_reducible exact (.inl (by decide))
            · split
              · split
                · with_reducible exact (.inl (by decide))
                · with_reducible exact (.inl (by decide))
              · with_reducible exact (.inl (by decide))
        · split
          · with_reducible exact (.inl (by decide))
          · split
            · with_reducible exact (.inl (by decide))
            · split
              · split
                · with_reducible exact (.inl (by decide))
                · with_reducible exact (.inl (by decide))
              · with_reducible exact (.inl (by decide))
    · split
      · split
        · split
          · with_reducible exact (.inl (by decide))
          · split
            · with_reducible exact (.inl (by decide))
            · split
              · split
                · with_reducible exact (.inl (by decide))
                · with_reducible exact (.inl (by decide))
              · with_reducible exact (.inl (by decide))
        · split
          · with_reducible exact (.inl (by decide))
          · split
            · with_reducible exact (.inl (by decide))
            · split
              · split
                · with_reducible exact (.inl (by decide))
                · with_reducible exact (.inl (by decide))
              · with_reducible exact (.inl (by decide))
      · split
        · split
          · with_reducible exact (.inl (by decide))
          · split
            · with_reducible exact (.inl (by decide))
            · split
              · split
                · with_reducible exact (.inl (by decide))
                · with_reducible exact (.inl (by decide))
              · with_reducible exact (.inl (by decide))
        · split
          · with_reducible exact (.inl (by decide))
          · split
            · with_reducible exact (.inl (by decide))
            · split
              · split
                · with_reducible exact (.inl (by decide))
                · with_reducible exact (.inl (by decide))
              · with_reducible exact (.inl (by decide))
  · split
    · split
      · split
        · split
          · with_reducible exact (.inl (by decide))
          · split
            · with_reducible exact (.inl (by decide))
            · split
              · split
                · with_reducible exact (.inl (by decide))
                · with_reducible exact (.inl (by decide))
              · with_reducible exact (.inl (by decide))
        · split
          · with_reducible exact (.inl (by decide))
          · split
            · with_reducible exact (.inl (by decide))
            · split
              · split
                · with_reducible exact (.inl (by decide))
                · with_reducible exact (.inl (by decide))
              · with_reducible exact (.inl (by decide))
      · split
        · split
          · with_reducible exact (.inl (by decide))
          · split
            · with_reducible exact (.inl (by decide))
            · split
              · split
                · with_reducible exact (.inl (by decide))
                · with_reducible exact (.inl (by decide))
              · with_reducible exact (.inl (by decide))
        · split
          · with_reducible exact (.inl (by decide))
          · split
            · with_reducible exact (.inl (by decide))
            · split
              · split
                · with_reducible exact (.inl (by decide))
                · with_reducible exact (.inl (by decide))
              · with_reducible exact (.inl (by decide))
    · split
      · split
        · split
          · with_reducible exact (.inl (by decide))
          · split
            · with_reducible exact (.inl (by decide))
            · split
              · split
                · with_reducible exact (.inl (by decide))
                · with_reducible exact (.inl (by decide))
              · with_reducible exact (.inl (by decide))
        · split
          · with_reducible exact (.inl (by decide))
          · split
            · with_reducible exact (.inl (by decide))
            · split
              · split
                · with_reducible exact (.inl (by decide))
                · with_reducible exact (.inl (by decide))
              · with_reducible exact (.inl (by decide))
      · split
        · split
          · with_reducible exact (.inl (by decide))
          · split
            · with_reducible exact (.inl (by decide))
            · split
              · split
                · with_reducible exact (.inl (by decide))
                · with_reducible exact (.inl (by decide))
              · with_reducible exact (.inl (by decide))
        · split
          · with_reducible exact (.inl (by decide))
          · split
            · with_reducible exact (.inl (by decide))
            · split
              · split
                · with_reducible exact (.inl (by decide))
                · with_reducible exact (.inl (by decide))
              · with_reducible exact (.inl (by decide))

theorem State.refArrive_frame (s : Sys2Proof.Machine.State) (a1 : Sys2Proof.Machine.RefObs) : Frame 512 s (State.refArrive s a1) := by
  unfold State.refArrive
  dsimp only
  simp only [State.mk_make]
  with_reducible exact Frame.up9 (m := 512) (Frame.refl 512 _) (by decide)

theorem State.pairObserve_frame (s : Sys2Proof.Machine.State) (a1 : Nat) : Frame 66048 s (State.pairObserve s a1) := by
  unfold State.pairObserve
  dsimp only
  simp only [State.mk_make]
  split
  · with_reducible exact Frame.of (m := 66048) (State.refArrive_frame _ _) (Frame.up16 (m := 66048) (Frame.refl 66048 _) (by decide))
                     (by decide)
  · with_reducible exact Frame.refl 66048 _

theorem State.agreePulse_frame (s : Sys2Proof.Machine.State) (a1 : Sys2Proof.Machine.Agree) : Frame 66048 s (State.agreePulse s a1) := by
  unfold State.agreePulse
  dsimp only
  simp only [State.mk_make]
  split
  · with_reducible exact Frame.of (m := 66048) (State.pairObserve_frame _ _) (Frame.up16 (m := 66048) (Frame.refl 66048 _) (by decide))
                     (by decide)
  · with_reducible exact Frame.refl 66048 _

theorem State.agreedLearn_frame (s : Sys2Proof.Machine.State) (a1 : Sys2Proof.Machine.Agree) : Frame 65536 s (State.agreedLearn s a1) := by
  unfold State.agreedLearn
  dsimp only
  simp only [State.mk_make]
  with_reducible exact Frame.ite (m := 65536) (Frame.refl 65536 _) (Frame.up16 (m := 65536) (Frame.refl 65536 _) (by decide))

theorem State.commitLearn_frame (s : Sys2Proof.Machine.State) (a1 : Sys2Proof.Machine.Commit) : Frame 776542 s (State.commitLearn s a1) := by
  unfold State.commitLearn
  dsimp only
  simp only [State.mk_make]
  split
  · with_reducible exact Frame.refl 776542 _
  · split
    · with_reducible exact Frame.ite (m := 776542) (Frame.refl 776542 _) (Frame.of (m := 776542) (State.inc_frame _ _) (Frame.of
                       (m := 776542) (State.setSeq_frame _ _ _ _) (Frame.ite (m := 776542) (Frame.refl 776542 _) (Frame.mono (m := 776542)
                       (State.faulted_frame _ _ _ _) (by decide))) (by decide)) (by decide))
    · with_reducible refine Frame.mk1 (m := 776542) (Frame.ite (m := 776542) (Frame.mono (m := 776542) (State.setSeq_frame _ _ _ _)
                       (by decide)) (Frame.refl 776542 _)) (.inr rfl) (.inr rfl) (.inr rfl) (.inr rfl) (.inr rfl) (.inr rfl) (.inr rfl) (.inr rfl) (.inr rfl)
                       (.inr rfl) (.inr rfl) (.inr rfl) (.inr rfl) (.inr rfl) (.inr rfl) ?_ (.inr rfl) (.inr rfl) (.inr rfl)
      split
      · with_reducible exact (.inl (by decide))
      · with_reducible exact (.inl (by decide))

theorem State.agreeReceive_frame (s : Sys2Proof.Machine.State) (a1 : Sys2Proof.Machine.Agree) : Frame 777054 s (State.agreeReceive s a1) := by
  unfold State.agreeReceive
  dsimp only
  simp only [State.mk_make]
  with_reducible refine Frame.ite (m := 777054) (Frame.mk1 (m := 777054) (Frame.of (m := 777054) (State.agreeConfig_frame _ _) (Frame.of
                   (m := 777054) (State.agreePulse_frame _ _) (Frame.of (m := 777054) (State.agreedLearn_frame _ _) (Frame.foldl (m := 777054) (fun _ => fun
                   _ => Frame.mono (m := 777054) (State.commitLearn_frame _ _) (by decide)) (Frame.mono (m := 777054) (State.agreePeer_frame _ _)
                   (by decide))) (by decide)) (by decide)) (by decide)) (.inr rfl) (.inr rfl) (.inr rfl) (.inr rfl) (.inr rfl) (.inr rfl) (.inr rfl)
                   (.inr rfl) (.inr rfl) (.inr rfl) (.inr rfl) (.inr rfl) (.inr rfl) (.inr rfl) (.inr rfl) ?_ (.inr rfl) (.inr rfl) (.inr rfl)) (Frame.of
                   (m := 777054) (State.agreeConfig_frame _ _) (Frame.of (m := 777054) (State.agreePulse_frame _ _) (Frame.of (m := 777054)
                   (State.agreedLearn_frame _ _) (Frame.foldl (m := 777054) (fun _ => fun _ => Frame.mono (m := 777054) (State.commitLearn_frame _ _)
                   (by decide)) (Frame.mono (m := 777054) (State.agreePeer_frame _ _) (by decide))) (by decide)) (by decide)) (by decide))
  split
  · with_reducible exact (.inl (by decide))
  · with_reducible exact (.inl (by decide))

theorem State.anchorHold_frame (s : Sys2Proof.Machine.State) (a1 : Sys2Proof.Machine.Hold) : Frame 1024 s (State.anchorHold s a1) := by
  unfold State.anchorHold
  dsimp only
  simp only [State.mk_make]
  with_reducible exact Frame.up10 (m := 1024) (Frame.refl 1024 _) (by decide)

theorem State.announce_frame (s : Sys2Proof.Machine.State) (a1 : Sys2Proof.Machine.ReleaseWhy) : Frame 65538 s (State.announce s a1) := by
  unfold State.announce
  dsimp only
  simp only [State.mk_make]
  with_reducible exact Frame.ite (m := 65538) (Frame.refl 65538 _) (Frame.up16 (m := 65538) (Frame.mono (m := 65538) (State.setN_frame _ _
                   _) (by decide)) (by decide))

theorem State.committed_frame (s : Sys2Proof.Machine.State) (a1 : Sys2Proof.Machine.PtpStream) (a2 : Nat) (a3 : Nat) (a4 : Nat) : Frame 102418 s (State.committed s a1 a2 a3 a4) := by
  unfold State.committed
  dsimp only
  simp only [State.mk_make]
  with_reducible exact Frame.ite (m := 102418) (Frame.up16 (m := 102418) (Frame.mono (m := 102418) (State.setSeq_frame _ _ _ _) (by decide))
                   (by decide)) (Frame.mono (m := 102418) (State.setSeq_frame _ _ _ _) (by decide))

theorem State.markDue_frame (s : Sys2Proof.Machine.State) (a1 : Sys2Proof.Machine.PtpStream) (a2 : Nat) (a3 : Nat) : Frame 4096 s (State.markDue s a1 a2 a3) := by
  unfold State.markDue
  dsimp only
  simp only [State.mk_make]
  with_reducible exact Frame.up12 (m := 4096) (Frame.refl 4096 _) (by decide)

theorem State.newItem_frame (s : Sys2Proof.Machine.State) (a1 : Nat) (a2 : Nat) : Frame 36864 s (State.newItem s a1 a2).1 := by
  unfold State.newItem
  dsimp only
  simp only [State.mk_make]
  with_reducible exact Frame.mk1 (m := 36864) (Frame.refl 36864 _) (.inr rfl) (.inr rfl) (.inr rfl) (.inr rfl) (.inr rfl) (.inr rfl)
                   (.inr rfl) (.inr rfl) (.inr rfl) (.inr rfl) (.inr rfl) (.inl (by decide)) (.inr rfl) (.inr rfl) (.inl (by decide)) (.inr rfl) (.inr rfl)
                   (.inr rfl) (.inr rfl)

theorem State.pairSeq_frame (s : Sys2Proof.Machine.State) (a1 : Sys2Proof.Machine.PtpStream) (a2 : Nat) : Frame 65536 s (State.pairSeq s a1 a2).1 := by
  unfold State.pairSeq
  dsimp only
  simp only [State.mk_make]
  with_reducible exact Frame.up16 (m := 65536) (Frame.refl 65536 _) (by decide)

theorem State.release_frame (s : Sys2Proof.Machine.State) (a1 : Nat) (a2 : Nat) (a3 : Nat) (a4 : Nat) (a5 : Sys2Proof.Machine.TxFrame) : Frame 6146 s (State.release s a1 a2 a3 a4 a5) := by
  unfold State.release
  dsimp only
  simp only [State.mk_make]
  with_reducible exact Frame.ite (m := 6146) (Frame.mono (m := 6146) (State.inc_frame _ _) (by decide)) (Frame.of (m := 6146)
                   (State.enqueue_frame _ _ _) (Frame.up12 (m := 6146) (Frame.refl 6146 _) (by decide)) (by decide))

theorem State.withheld_frame (s : Sys2Proof.Machine.State) (a1 : Sys2Proof.Machine.PtpStream) (a2 : Nat) (a3 : Nat) : Frame 65536 s (State.withheld s a1 a2 a3) := by
  unfold State.withheld
  dsimp only
  simp only [State.mk_make]
  with_reducible exact Frame.ite (m := 65536) (Frame.up16 (m := 65536) (Frame.refl 65536 _) (by decide)) (Frame.refl 65536 _)

end Sys2Proof.Machine
end

