-- ==== Sys2Proof/Laws/Frames3.lean ====
section
/-!
SUPPORT. The frames of operations and commands, part 3.
-/

namespace Sys2Proof.Machine

theorem State.announceDue_frame (s : Sys2Proof.Machine.State) (a1 : Sys2Proof.Machine.PtpStream) : Frame 104466 s (State.announceDue s a1) := by
  unfold State.announceDue
  dsimp only
  split
  · with_reducible exact Frame.refl 104466 _
  · with_reducible refine Frame.ite (m := 104466) (Frame.refl 104466 _) (Frame.ite (m := 104466) (Frame.of (m := 104466)
                     (State.withheld_frame _ _ _ _) (Frame.of (m := 104466) (State.inc_frame _ _) (Frame.mono (m := 104466) (State.markDue_frame _ _ _ _)
                     (by decide)) (by decide)) (by decide)) ?_)
    split
    · with_reducible exact Frame.of (m := 104466) (State.withheld_frame _ _ _ _) (Frame.of (m := 104466) (State.pairSeq_frame _ _ _)
                       (Frame.mono (m := 104466) (State.markDue_frame _ _ _ _) (by decide)) (by decide)) (by decide)
    · with_reducible exact Frame.of (m := 104466) (State.committed_frame _ _ _ _ _) (Frame.of (m := 104466) (State.release_frame _ _ _ _ _
                       _) (Frame.of (m := 104466) (State.newItem_frame _ _ _) (Frame.of (m := 104466) (State.pairSeq_frame _ _ _) (Frame.mono (m := 104466)
                       (State.markDue_frame _ _ _ _) (by decide)) (by decide)) (by decide)) (by decide)) (by decide)

theorem State.aonLost_frame (s : Sys2Proof.Machine.State) : Frame 661834 s (State.aonLost s) := by
  unfold State.aonLost
  dsimp only
  simp only [State.mk_make]
  with_reducible exact Frame.of (m := 661834) (State.inc_frame _ _) (Frame.of (m := 661834) (State.setN_frame _ _ _) (Frame.of (m := 661834)
                   (State.setN_frame _ _ _) (Frame.of (m := 661834) (State.inc_frame _ _) (Frame.of (m := 661834) (State.inc_frame _ _) (Frame.of
                   (m := 661834) (State.setN_frame _ _ _) (Frame.of (m := 661834) (State.setO_frame _ _ _) (Frame.of (m := 661834) (State.setO_frame _ _ _)
                   (Frame.of (m := 661834) (State.haltUnits_frame _) (Frame.of (m := 661834) (State.bobHalt_frame _) (Frame.of (m := 661834)
                   (State.haltDump_frame _) (Frame.up6 (m := 661834) (Frame.refl 661834 _) (by decide)) (by decide)) (by decide)) (by decide)) (by decide))
                   (by decide)) (by decide)) (by decide)) (by decide)) (by decide)) (by decide)) (by decide)

theorem State.apllAt_frame (s : Sys2Proof.Machine.State) : Frame 514 s (State.apllAt s) := by
  unfold State.apllAt
  with_reducible refine Frame.ite (m := 514) (Frame.mono (m := 514) (State.aplltReact_frame _) (by decide)) ?_
  split
  · with_reducible exact Frame.mono (m := 514) (State.aplltSwitch_frame _ _) (by decide)
  · with_reducible exact Frame.refl 514 _

theorem State.formKeyframe_frame (s : Sys2Proof.Machine.State) : Frame 132112 s (State.formKeyframe s) := by
  unfold State.formKeyframe
  dsimp only
  simp only [State.mk_make]
  with_reducible refine Frame.mk1 (m := 132112) (Frame.mono (m := 132112) (State.drew_frame _) (by decide)) (.inr rfl) (.inr rfl) (.inr rfl)
                   (.inr rfl) (.inr rfl) (.inr rfl) (.inr rfl) (.inr rfl) (.inr rfl) (.inr rfl) (.inr rfl) (.inr rfl) (.inr rfl) (.inr rfl) (.inr rfl)
                   (.inr rfl) ?_ (.inr rfl) (.inr rfl)
  split
  · with_reducible exact (.inl (by decide))
  · with_reducible exact (.inl (by decide))

theorem State.recorded_frame (s : Sys2Proof.Machine.State) : Frame 131072 s (State.recorded s) := by
  unfold State.recorded
  dsimp only
  simp only [State.mk_make]
  with_reducible exact Frame.up17 (m := 131072) (Frame.refl 131072 _) (by decide)

theorem State.appendRecord_frame (s : Sys2Proof.Machine.State) : Frame 132122 s (State.appendRecord s) := by
  unfold State.appendRecord
  dsimp only
  simp only [State.mk_make]
  with_reducible refine Frame.ite (m := 132122) (Frame.refl 132122 _) (Frame.ite (m := 132122) (Frame.of (m := 132122)
                   (State.formKeyframe_frame _) (Frame.of (m := 132122) (State.recorded_frame _) ?_ (by decide)) (by decide)) (Frame.of (m := 132122)
                   (State.recorded_frame _) ?_ (by decide)))
  · split
    · with_reducible exact Frame.mono (m := 132122) (State.bobAppend_frame _ _ _) (by decide)
    · with_reducible exact Frame.refl 132122 _
    · with_reducible refine Frame.of (m := 132122) (State.bobAppend_frame _ _ _) (Frame.mk1 (m := 132122) (Frame.refl 132122 _) (.inr rfl)
                       (.inr rfl) (.inr rfl) (.inr rfl) (.inr rfl) (.inr rfl) (.inr rfl) (.inr rfl) (.inr rfl) (.inr rfl) (.inr rfl) (.inr rfl) (.inr rfl)
                       (.inr rfl) (.inr rfl) (.inr rfl) ?_ (.inr rfl) (.inr rfl)) (by decide)
      split
      · with_reducible exact (.inl (by decide))
      · with_reducible exact (.inr rfl)
  · split
    · with_reducible exact Frame.mono (m := 132122) (State.bobAppend_frame _ _ _) (by decide)
    · with_reducible exact Frame.refl 132122 _
    · with_reducible refine Frame.of (m := 132122) (State.bobAppend_frame _ _ _) (Frame.mk1 (m := 132122) (Frame.refl 132122 _) (.inr rfl)
                       (.inr rfl) (.inr rfl) (.inr rfl) (.inr rfl) (.inr rfl) (.inr rfl) (.inr rfl) (.inr rfl) (.inr rfl) (.inr rfl) (.inr rfl) (.inr rfl)
                       (.inr rfl) (.inr rfl) (.inr rfl) ?_ (.inr rfl) (.inr rfl)) (by decide)
      split
      · with_reducible exact (.inl (by decide))
      · with_reducible exact (.inr rfl)

theorem State.clearLeapPending_frame (s : Sys2Proof.Machine.State) : Frame 2 s (State.clearLeapPending s) := by
  unfold State.clearLeapPending
  with_reducible exact Frame.of (m := 2) (State.setO_frame _ _ _) (Frame.of (m := 2) (State.setO_frame _ _ _) (Frame.mono (m := 2)
                   (State.setO_frame _ _ _) (by decide)) (by decide)) (by decide)

theorem State.injArmNow_frame (s : Sys2Proof.Machine.State) (a1 : Sys2Proof.Machine.Injection) : Frame 66 s (State.injArmNow s a1) := by
  unfold State.injArmNow
  dsimp only
  simp only [State.mk_make]
  with_reducible exact Frame.of (m := 66) (State.setN_frame _ _ _) (Frame.up6 (m := 66) (Frame.refl 66 _) (by decide)) (by decide)

theorem State.injDisarm_frame (s : Sys2Proof.Machine.State) : Frame 66 s (State.injDisarm s) := by
  unfold State.injDisarm
  dsimp only
  simp only [State.mk_make]
  with_reducible exact Frame.of (m := 66) (State.setN_frame _ _ _) (Frame.up6 (m := 66) (Frame.refl 66 _) (by decide)) (by decide)

theorem State.journalTrigger_frame (s : Sys2Proof.Machine.State) : Frame 262144 s (State.journalTrigger s) := by
  unfold State.journalTrigger
  dsimp only
  simp only [State.mk_make]
  with_reducible exact Frame.up18 (m := 262144) (Frame.refl 262144 _) (by decide)

theorem State.setLeapPending_frame (s : Sys2Proof.Machine.State) (a1 : Int) (a2 : Int) (a3 : Int) : Frame 2 s (State.setLeapPending s a1 a2 a3) := by
  unfold State.setLeapPending
  dsimp only
  with_reducible exact Frame.of (m := 2) (State.setO_frame _ _ _) (Frame.of (m := 2) (State.setO_frame _ _ _) (Frame.mono (m := 2)
                   (State.setO_frame _ _ _) (by decide)) (by decide)) (by decide)

theorem State.twinEnter_frame (s : Sys2Proof.Machine.State) (a1 : Nat) : Frame 65538 s (State.twinEnter s a1) := by
  unfold State.twinEnter
  dsimp only
  simp only [State.mk_make]
  with_reducible exact Frame.up16 (m := 65538) (Frame.mono (m := 65538) (State.setN_frame _ _ _) (by decide)) (by decide)

theorem State.joinRefuse_frame (s : Sys2Proof.Machine.State) (a1 : Nat) : Frame 65538 s (State.joinRefuse s a1) := by
  unfold State.joinRefuse
  dsimp only
  simp only [State.mk_make]
  with_reducible exact Frame.up16 (m := 65538) (Frame.of (m := 65538) (State.setN_frame _ _ _) (Frame.of (m := 65538) (State.inc_frame _ _)
                   (Frame.mono (m := 65538) (State.twinEnter_frame _ _) (by decide)) (by decide)) (by decide)) (by decide)

theorem State.settleSeqs_frame (s : Sys2Proof.Machine.State) : Frame 102418 s (State.settleSeqs s) := by
  unfold State.settleSeqs
  with_reducible exact Frame.ite (m := 102418) (Frame.foldl (m := 102418) (fun _ => fun _ => Frame.mono (m := 102418) (State.seqTaken_frame
                   _ _) (by decide)) (Frame.refl 102418 _)) (Frame.refl 102418 _)

theorem State.twinAlone_frame (s : Sys2Proof.Machine.State) : Frame 103442 s (State.twinAlone s) := by
  unfold State.twinAlone
  dsimp only
  simp only [State.mk_make]
  with_reducible refine Frame.mk1 (m := 103442) (Frame.of (m := 103442) (State.setF_frame _ _ _) (Frame.of (m := 103442)
                   (State.twinEnter_frame _ _) (Frame.ite (m := 103442) (Frame.mk1 (m := 103442) (Frame.of (m := 103442) (State.adoptPlane_frame _)
                   (Frame.mono (m := 103442) (State.settleSeqs_frame _) (by decide)) (by decide)) (.inr rfl) (.inr rfl) (.inr rfl) (.inr rfl) (.inr rfl)
                   (.inr rfl) (.inr rfl) (.inr rfl) (.inr rfl) ?_ (.inr rfl) (.inr rfl) (.inr rfl) (.inr rfl) (.inr rfl) (.inr rfl) (.inr rfl) (.inr rfl)
                   (.inr rfl)) (Frame.mono (m := 103442) (State.settleSeqs_frame _) (by decide))) (by decide)) (by decide)) (.inr rfl) (.inr rfl) (.inr rfl)
                   (.inr rfl) (.inr rfl) (.inr rfl) (.inr rfl) (.inr rfl) (.inr rfl) (.inr rfl) (.inr rfl) (.inr rfl) (.inr rfl) (.inr rfl) (.inr rfl) ?_
                   (.inr rfl) (.inr rfl) (.inr rfl)
  · split
    · with_reducible exact (.inl (by decide))
    · with_reducible exact (.inl (by decide))
  · split
    · split
      · with_reducible exact (.inl (by decide))
      · with_reducible exact (.inl (by decide))
    · with_reducible exact (.inl (by decide))

theorem State.twinSend_frame (s : Sys2Proof.Machine.State) (a1 : Sys2Proof.Machine.TwinSend) : Frame 65536 s (State.twinSend s a1) := by
  unfold State.twinSend
  dsimp only
  simp only [State.mk_make]
  with_reducible exact Frame.up16 (m := 65536) (Frame.refl 65536 _) (by decide)

theorem State.leaveNow_frame (s : Sys2Proof.Machine.State) : Frame 103442 s (State.leaveNow s) := by
  unfold State.leaveNow
  dsimp only
  simp only [State.mk_make]
  with_reducible refine Frame.mk1 (m := 103442) (Frame.ite (m := 103442) (Frame.of (m := 103442) (State.twinAlone_frame _) (Frame.mono
                   (m := 103442) (State.twinSend_frame _ _) (by decide)) (by decide)) (Frame.ite (m := 103442) (Frame.mono (m := 103442)
                   (State.joinRefuse_frame _ _) (by decide)) (Frame.refl 103442 _))) (.inr rfl) (.inr rfl) (.inr rfl) (.inr rfl) (.inr rfl) (.inr rfl)
                   (.inr rfl) (.inr rfl) (.inr rfl) (.inr rfl) (.inr rfl) (.inr rfl) (.inr rfl) (.inr rfl) (.inr rfl) ?_ (.inr rfl) (.inr rfl) (.inr rfl)
  split
  · with_reducible exact (.inl (by decide))
  · split
    · with_reducible exact (.inl (by decide))
    · with_reducible exact (.inl (by decide))

theorem State.twinAct_frame (s : Sys2Proof.Machine.State) (a1 : Nat) : Frame 103442 s (State.twinAct s a1) := by
  unfold State.twinAct
  dsimp only
  simp only [State.mk_make]
  with_reducible exact Frame.ite (m := 103442) (Frame.refl 103442 _) (Frame.ite (m := 103442) (Frame.ite (m := 103442) (Frame.mono
                   (m := 103442) (State.announce_frame _ _) (by decide)) (Frame.refl 103442 _)) (Frame.ite (m := 103442) (Frame.ite (m := 103442) (Frame.up16
                   (m := 103442) (Frame.mono (m := 103442) (State.announce_frame _ _) (by decide)) (by decide)) (Frame.mono (m := 103442)
                   (State.leaveNow_frame _) (by decide))) (Frame.ite (m := 103442) (Frame.up16 (m := 103442) (Frame.refl 103442 _) (by decide)) (Frame.refl
                   103442 _))))

theorem State.fireDue_frame (s : Sys2Proof.Machine.State) (a1 : Sys2Proof.Machine.DueWrite) : Frame 373842 s (State.fireDue s a1) := by
  unfold State.fireDue
  dsimp only
  simp only [State.mk_make]
  split
  · with_reducible exact Frame.up4 (m := 373842) (Frame.refl 373842 _) (by decide)
  · with_reducible exact Frame.mono (m := 373842) (State.setLeapPending_frame _ _ _ _) (by decide)
  · with_reducible exact Frame.ite (m := 373842) (Frame.mono (m := 373842) (State.clearLeapPending_frame _) (by decide)) (Frame.refl 373842
                     _)
  · with_reducible exact Frame.mono (m := 373842) (State.addStep_frame _ _) (by decide)
  · with_reducible exact Frame.mono (m := 373842) (State.addStep_frame _ _) (by decide)
  · with_reducible exact Frame.up12 (m := 373842) (Frame.refl 373842 _) (by decide)
  · with_reducible exact Frame.mono (m := 373842) (State.injArmNow_frame _ _) (by decide)
  · with_reducible exact Frame.mono (m := 373842) (State.injDisarm_frame _) (by decide)
  · with_reducible exact Frame.mono (m := 373842) (State.twinAct_frame _ _) (by decide)
  · with_reducible exact Frame.mono (m := 373842) (State.journalTrigger_frame _) (by decide)
  · with_reducible exact Frame.up13 (m := 373842) (Frame.refl 373842 _) (by decide)

theorem State.flashStart_frame (s : Sys2Proof.Machine.State) (a1 : Sys2Proof.Machine.FlashCmd) : Frame 262150 s (State.flashStart s a1) := by
  unfold State.flashStart
  dsimp only
  simp only [State.mk_make]
  with_reducible exact Frame.ite (m := 262150) (Frame.of (m := 262150) (State.setN_frame _ _ _) (Frame.mono (m := 262150)
                   (State.setBlob_frame _ _ _) (by decide)) (by decide)) (Frame.of (m := 262150) (State.setN_frame _ _ _) (Frame.up18 (m := 262150)
                   (Frame.refl 262150 _) (by decide)) (by decide))

theorem State.flashCommand_frame (s : Sys2Proof.Machine.State) (a1 : Sys2Proof.Machine.FlashCmd) : Frame 262150 s (State.flashCommand s a1) := by
  unfold State.flashCommand
  dsimp only
  simp only [State.mk_make]
  with_reducible exact Frame.ite (m := 262150) (Frame.ite (m := 262150) (Frame.of (m := 262150) (State.inc_frame _ _) (Frame.mono
                   (m := 262150) (State.setN_frame _ _ _) (by decide)) (by decide)) (Frame.mono (m := 262150) (State.setN_frame _ _ _) (by decide)))
                   (Frame.ite (m := 262150) (Frame.of (m := 262150) (State.inc_frame _ _) (Frame.of (m := 262150) (State.setN_frame _ _ _) (Frame.up18
                   (m := 262150) (Frame.refl 262150 _) (by decide)) (by decide)) (by decide)) (Frame.mono (m := 262150) (State.flashStart_frame _ _)
                   (by decide)))

theorem State.setI2c_frame (s : Sys2Proof.Machine.State) (a1 : Nat) (a2 : Sys2Proof.Machine.I2cCtl) : Frame 524288 s (State.setI2c s a1 a2) := by
  unfold State.setI2c
  dsimp only
  simp only [State.mk_make]
  with_reducible exact Frame.up19 (m := 524288) (Frame.refl 524288 _) (by decide)

theorem State.i2cReset_frame (s : Sys2Proof.Machine.State) (a1 : Nat) (a2 : Sys2Proof.Machine.I2cLines) : Frame 524290 s (State.i2cReset s a1 a2) := by
  unfold State.i2cReset
  dsimp only
  split
  · with_reducible exact Frame.of (m := 524290) (State.setO_frame _ _ _) (Frame.mono (m := 524290) (State.setI2c_frame _ _ _) (by decide))
                     (by decide)
  · with_reducible exact Frame.of (m := 524290) (State.setO_frame _ _ _) (Frame.mono (m := 524290) (State.setI2c_frame _ _ _) (by decide))
                     (by decide)
  · with_reducible exact Frame.of (m := 524290) (State.setO_frame _ _ _) (Frame.mono (m := 524290) (State.setI2c_frame _ _ _) (by decide))
                     (by decide)

theorem State.i2cResult_frame (s : Sys2Proof.Machine.State) (a1 : Nat) (a2 : Nat) (a3 : Sys2Proof.Octets) : Frame 4 s (State.i2cResult s a1 a2 a3) := by
  unfold State.i2cResult
  with_reducible exact Frame.mono (m := 4) (State.setBlob_frame _ _ _) (by decide)

theorem State.i2cXfer_frame (s : Sys2Proof.Machine.State) (a1 : Nat) (a2 : Sys2Proof.Machine.I2cTrans) : Frame 524294 s (State.i2cXfer s a1 a2) := by
  unfold State.i2cXfer
  dsimp only
  with_reducible exact Frame.ite (m := 524294) (Frame.of (m := 524294) (State.i2cResult_frame _ _ _ _) (Frame.mono (m := 524294)
                   (State.inc_frame _ _) (by decide)) (by decide)) (Frame.of (m := 524294) (State.i2cResult_frame _ _ _ _) (Frame.mono (m := 524294)
                   (State.setI2c_frame _ _ _) (by decide)) (by decide))

theorem State.fillSlot_frame (s : Sys2Proof.Machine.State) (a1 : Nat) (a2 : Nat) (a3 : Nat) (a4 : Sys2Proof.Octets) (a5 : Sys2Proof.Octets) (a6 : Nat) : Frame 8196 s (State.fillSlot s a1 a2 a3 a4 a5 a6) := by
  unfold State.fillSlot
  dsimp only
  with_reducible exact Frame.mono (m := 8196) (State.putSlot_frame _ _ _) (by decide)

theorem State.reloadLanes_frame (s : Sys2Proof.Machine.State) (a1 : Nat) : Frame 12292 s (State.reloadLanes s a1) := by
  unfold State.reloadLanes
  dsimp only
  with_reducible exact Frame.foldl (m := 12292) (fun _ => fun _ => Frame.ite (m := 12292) (Frame.mono (m := 12292) (State.loadSa_frame _ _)
                   (by decide)) (Frame.refl 12292 _)) (Frame.refl 12292 _)

theorem State.keyWriteOne_frame (s : Sys2Proof.Machine.State) (a1 : Nat) (a2 : Sys2Proof.Machine.KeyWrite) : Frame 12294 s (State.keyWriteOne s a1 a2) := by
  unfold State.keyWriteOne
  dsimp only
  with_reducible exact Frame.ite (m := 12294) (Frame.of (m := 12294) (State.addJob_frame _ _) (Frame.of (m := 12294)
                   (State.reloadLanes_frame _ _) (Frame.ite (m := 12294) (Frame.of (m := 12294) (State.setSlot_frame _ _ _) (Frame.of (m := 12294)
                   (State.inc_frame _ _) (Frame.mono (m := 12294) (State.fillSlot_frame _ _ _ _ _ _ _) (by decide)) (by decide)) (by decide)) (Frame.of
                   (m := 12294) (State.inc_frame _ _) (Frame.mono (m := 12294) (State.fillSlot_frame _ _ _ _ _ _ _) (by decide)) (by decide))) (by decide))
                   (by decide)) (Frame.of (m := 12294) (State.reloadLanes_frame _ _) (Frame.ite (m := 12294) (Frame.of (m := 12294) (State.setSlot_frame _ _
                   _) (Frame.of (m := 12294) (State.inc_frame _ _) (Frame.mono (m := 12294) (State.fillSlot_frame _ _ _ _ _ _ _) (by decide)) (by decide))
                   (by decide)) (Frame.of (m := 12294) (State.inc_frame _ _) (Frame.mono (m := 12294) (State.fillSlot_frame _ _ _ _ _ _ _) (by decide))
                   (by decide))) (by decide))

theorem State.storeValue_frame (s : Sys2Proof.Machine.State) (a1 : Sys2Proof.Machine.ObjRow) (a2 : Nat) (a3 : Sys2Proof.Octets) : Frame 6 s (State.storeValue s a1 a2 a3) := by
  unfold State.storeValue
  with_reducible refine Frame.ite (m := 6) (Frame.mono (m := 6) (State.setBlob_frame _ _ _) (by decide)) ?_
  split
  · with_reducible exact Frame.mono (m := 6) (State.setO_frame _ _ _) (by decide)
  · with_reducible exact Frame.refl 6 _

theorem State.storeWrite_frame (s : Sys2Proof.Machine.State) (a1 : Sys2Proof.Machine.DictWrite) : Frame 6 s (State.storeWrite s a1) := by
  unfold State.storeWrite
  split
  · with_reducible exact Frame.mono (m := 6) (State.storeValue_frame _ _ _ _) (by decide)
  · with_reducible exact Frame.refl 6 _

theorem State.applyWrite_frame (s : Sys2Proof.Machine.State) (a1 : Sys2Proof.Machine.DictWrite) : Frame 1048534 s (State.applyWrite s a1) := by
  unfold State.applyWrite
  dsimp only
  split
  · with_reducible exact Frame.mono (m := 1048534) (State.fireDue_frame _ _) (by decide)
  · with_reducible refine Frame.ite (m := 1048534) (Frame.refl 1048534 _) (Frame.ite (m := 1048534) (Frame.mono (m := 1048534)
                     (State.keyWriteOne_frame _ _ _) (by decide)) (Frame.ite (m := 1048534) (Frame.mono (m := 1048534) (State.ackUpTo_frame _ _) (by decide))
                     (Frame.ite (m := 1048534) (Frame.mono (m := 1048534) (State.flashCommand_frame _ _) (by decide)) (Frame.ite (m := 1048534) ?_ (Frame.ite
                     (m := 1048534) (Frame.of (m := 1048534) (State.i2cReset_frame _ _ _) (Frame.mono (m := 1048534) (State.drew_frame _) (by decide))
                     (by decide)) (Frame.ite (m := 1048534) (Frame.mono (m := 1048534) (State.setO_frame _ _ _) (by decide)) (Frame.of (m := 1048534)
                     (State.afterWrite_frame _ _ _) (Frame.mono (m := 1048534) (State.storeWrite_frame _ _) (by decide)) (by decide))))))))
    split
    · with_reducible exact Frame.mono (m := 1048534) (State.i2cXfer_frame _ _ _) (by decide)
    · with_reducible exact Frame.refl 1048534 _

theorem State.applyBatch_frame (s : Sys2Proof.Machine.State) (a1 : Sys2Proof.Machine.Batch) : Frame 1048534 s (State.applyBatch s a1) := by
  unfold State.applyBatch
  dsimp only
  simp only [State.mk_make]
  with_reducible exact Frame.up17 (m := 1048534) (Frame.of (m := 1048534) (State.inc_frame _ _) (Frame.foldl (m := 1048534) (fun _ => fun _
                   => Frame.ite (m := 1048534) (Frame.of (m := 1048534) (State.setN_frame _ _ _) (Frame.mono (m := 1048534) (State.applyWrite_frame _ _)
                   (by decide)) (by decide)) (Frame.mono (m := 1048534) (State.applyWrite_frame _ _) (by decide))) (Frame.refl 1048534 _)) (by decide))
                   (by decide)

theorem State.discardEntry_frame (s : Sys2Proof.Machine.State) (a1 : Nat) (a2 : Nat) (a3 : Bool) : Frame 16450 s (State.discardEntry s a1 a2 a3) := by
  unfold State.discardEntry
  dsimp only
  simp only [State.mk_make]
  with_reducible refine Frame.of (m := 16450) (State.hostEvent_frame _ _) (Frame.of (m := 16450) (State.countOpen_frame _) (Frame.mk1
                   (m := 16450) (Frame.of (m := 16450) (State.inc_frame _ _) (Frame.mono (m := 16450) (State.inc_frame _ _) (by decide)) (by decide))
                   (.inr rfl) (.inr rfl) (.inr rfl) (.inr rfl) (.inr rfl) ?_ (.inr rfl) (.inr rfl) (.inr rfl) (.inr rfl) (.inr rfl) (.inr rfl) (.inr rfl)
                   (.inr rfl) (.inr rfl) (.inr rfl) (.inr rfl) (.inr rfl) (.inr rfl)) (by decide)) (by decide)
  split
  · with_reducible exact (.inl (by decide))
  · with_reducible exact (.inl (by decide))

theorem State.injConsume_frame (s : Sys2Proof.Machine.State) : Frame 66 s (State.injConsume s) := by
  unfold State.injConsume
  dsimp only
  simp only [State.mk_make]
  split
  · with_reducible exact Frame.refl 66 _
  · with_reducible refine Frame.of (m := 66) (State.setN_frame _ _ _) (Frame.of (m := 66) (State.inc_frame _ _) (Frame.mk1 (m := 66)
                     (Frame.refl 66 _) (.inr rfl) (.inr rfl) (.inr rfl) (.inr rfl) (.inr rfl) ?_ (.inr rfl) (.inr rfl) (.inr rfl) (.inr rfl) (.inr rfl)
                     (.inr rfl) (.inr rfl) (.inr rfl) (.inr rfl) (.inr rfl) (.inr rfl) (.inr rfl) (.inr rfl)) (by decide)) (by decide)
    split
    · with_reducible exact (.inl (by decide))
    · with_reducible exact (.inl (by decide))

theorem State.applySet_frame (s : Sys2Proof.Machine.State) (a1 : List Sys2Proof.Machine.Batch) (a2 : Bool) : Frame 1048542 s (State.applySet s a1 a2).1 := by
  unfold State.applySet
  dsimp only
  split
  · with_reducible exact Frame.refl 1048542 _
  · with_reducible exact Frame.iteFst (m := 1048542) (Frame.foldl (m := 1048542) (fun _ => fun _ => Frame.mono (m := 1048542)
                     (State.applyBatch_frame _ _) (by decide)) (Frame.refl 1048542 _)) (Frame.iteFst (m := 1048542) (Frame.foldl (m := 1048542) (fun _ => fun
                     _ => Frame.mono (m := 1048542) (State.inc_frame _ _) (by decide)) (Frame.of (m := 1048542) (State.recordFault_frame _ _ _ _ _ _)
                     (Frame.of (m := 1048542) (State.drew_frame _) (Frame.ite (m := 1048542) (Frame.mono (m := 1048542) (State.injConsume_frame _)
                     (by decide)) (Frame.refl 1048542 _)) (by decide)) (by decide))) (Frame.foldl (m := 1048542) (fun _ => fun _ => Frame.mono (m := 1048542)
                     (State.discardEntry_frame _ _ _ _) (by decide)) (Frame.of (m := 1048542) (State.recordFault_frame _ _ _ _ _ _) (Frame.of (m := 1048542)
                     (State.drew_frame _) (Frame.ite (m := 1048542) (Frame.mono (m := 1048542) (State.injConsume_frame _) (by decide)) (Frame.refl 1048542
                     _)) (by decide)) (by decide))))

theorem State.installSlots_frame (s : Sys2Proof.Machine.State) : Frame 77828 s (State.installSlots s) := by
  unfold State.installSlots
  dsimp only
  simp only [State.mk_make]
  with_reducible refine Frame.ite (m := 77828) (Frame.up16 (m := 77828) (Frame.refl 77828 _) (by decide)) (Frame.foldl (m := 77828) (fun _
                   => fun _ => ?_) (Frame.up16 (m := 77828) (Frame.refl 77828 _) (by decide)))
  split
  · with_reducible exact Frame.of (m := 77828) (State.reloadLanes_frame _ _) (Frame.mono (m := 77828) (State.fillSlot_frame _ _ _ _ _ _ _)
                     (by decide)) (by decide)
  · with_reducible exact Frame.refl 77828 _

theorem State.applyBatches_frame (s : Sys2Proof.Machine.State) (a1 : Bool) : Frame 1048542 s (State.applyBatches s a1) := by
  unfold State.applyBatches
  dsimp only
  simp only [State.mk_make]
  with_reducible exact Frame.ite (m := 1048542) (Frame.up14 (m := 1048542) (Frame.refl 1048542 _) (by decide)) (Frame.ite (m := 1048542)
                   (Frame.up14 (m := 1048542) (Frame.of (m := 1048542) (State.applySet_frame _ _ _) (Frame.of (m := 1048542) (State.installSlots_frame _)
                   (Frame.mk1 (m := 1048542) (Frame.refl 1048542 _) (.inr rfl) (.inr rfl) (.inr rfl) (.inr rfl) (.inr rfl) (.inr rfl) (.inr rfl) (.inr rfl)
                   (.inr rfl) (.inr rfl) (.inr rfl) (.inr rfl) (.inr rfl) (.inl (by decide)) (.inr rfl) (.inl (by decide)) (.inr rfl) (.inr rfl) (.inr rfl))
                   (by decide)) (by decide)) (by decide)) (Frame.of (m := 1048542) (State.applySet_frame _ _ _) (Frame.of (m := 1048542)
                   (State.installSlots_frame _) (Frame.mk1 (m := 1048542) (Frame.refl 1048542 _) (.inr rfl) (.inr rfl) (.inr rfl) (.inr rfl) (.inr rfl)
                   (.inr rfl) (.inr rfl) (.inr rfl) (.inr rfl) (.inr rfl) (.inr rfl) (.inr rfl) (.inr rfl) (.inl (by decide)) (.inr rfl) (.inl (by decide))
                   (.inr rfl) (.inr rfl) (.inr rfl)) (by decide)) (by decide)))

theorem State.applyDecision_frame (a0 : Sys2Proof.Machine.EpochWork) (s : Sys2Proof.Machine.State) (a2 : Sys2Proof.Machine.Decision) : Frame 1026 s (State.applyDecision a0 s a2) := by
  unfold State.applyDecision
  dsimp only
  with_reducible refine Frame.ite (m := 1026) (Frame.refl 1026 _) ?_
  split
  · with_reducible exact Frame.ite (m := 1026) (Frame.of (m := 1026) (State.setMember_frame _ _ _) (Frame.of (m := 1026) (State.setN_frame _
                     _ _) (Frame.ite (m := 1026) (Frame.of (m := 1026) (State.inc_frame _ _) (Frame.of (m := 1026) (State.setN_frame _ _ _) (Frame.mono
                     (m := 1026) (State.setMember_frame _ _ _) (by decide)) (by decide)) (by decide)) (Frame.of (m := 1026) (State.setN_frame _ _ _)
                     (Frame.mono (m := 1026) (State.setMember_frame _ _ _) (by decide)) (by decide))) (by decide)) (by decide)) (Frame.of (m := 1026)
                     (State.setN_frame _ _ _) (Frame.ite (m := 1026) (Frame.of (m := 1026) (State.inc_frame _ _) (Frame.of (m := 1026) (State.setN_frame _ _
                     _) (Frame.mono (m := 1026) (State.setMember_frame _ _ _) (by decide)) (by decide)) (by decide)) (Frame.of (m := 1026) (State.setN_frame
                     _ _ _) (Frame.mono (m := 1026) (State.setMember_frame _ _ _) (by decide)) (by decide))) (by decide))
  · with_reducible exact Frame.of (m := 1026) (State.setN_frame _ _ _) (Frame.ite (m := 1026) (Frame.of (m := 1026) (State.inc_frame _ _)
                     (Frame.of (m := 1026) (State.setN_frame _ _ _) (Frame.mono (m := 1026) (State.setMember_frame _ _ _) (by decide)) (by decide))
                     (by decide)) (Frame.of (m := 1026) (State.setN_frame _ _ _) (Frame.mono (m := 1026) (State.setMember_frame _ _ _) (by decide))
                     (by decide))) (by decide)

theorem State.applyImmediate_frame (s : Sys2Proof.Machine.State) (a1 : Bool) : Frame 1048542 s (State.applyImmediate s a1) := by
  unfold State.applyImmediate
  dsimp only
  simp only [State.mk_make]
  with_reducible exact Frame.ite (m := 1048542) (Frame.up14 (m := 1048542) (Frame.of (m := 1048542) (State.applySet_frame _ _ _) (Frame.up14
                   (m := 1048542) (Frame.refl 1048542 _) (by decide)) (by decide)) (by decide)) (Frame.of (m := 1048542) (State.applySet_frame _ _ _)
                   (Frame.up14 (m := 1048542) (Frame.refl 1048542 _) (by decide)) (by decide))

theorem State.showLeapTable_frame (s : Sys2Proof.Machine.State) : Frame 6 s (State.showLeapTable s) := by
  unfold State.showLeapTable
  with_reducible exact Frame.foldl (m := 6) (fun _ => fun _ => Frame.mono (m := 6) (State.setBlob_frame _ _ _) (by decide)) (Frame.mono
                   (m := 6) (State.setN_frame _ _ _) (by decide))

theorem State.applyLeap_frame (s : Sys2Proof.Machine.State) (a1 : Sys2Proof.Machine.LeapEntry) : Frame 38 s (State.applyLeap s a1) := by
  unfold State.applyLeap
  dsimp only
  simp only [State.mk_make]
  with_reducible exact Frame.of (m := 38) (State.showLeapTable_frame _) (Frame.of (m := 38) (State.clearLeapPending_frame _) (Frame.of
                   (m := 38) (State.setO_frame _ _ _) (Frame.up5 (m := 38) (Frame.refl 38 _) (by decide)) (by decide)) (by decide)) (by decide)

theorem State.atNext_frame {m : Nat} {r s : State} {f : State → State} (k : ∀ t, Frame m t (f t)) (h : Frame m r s) (hm : 18 ||| m = m) : Frame m r (s.atNext f) := by
  unfold State.atNext
  dsimp only
  simp only [State.mk_make]
  with_reducible refine Frame.ite (Frame.of (k _) (Frame.of (State.setO_frame _ _ _) (Frame.of (State.setO_frame _ _ _) (Frame.of
                   (State.setN_frame _ _ _) (Frame.mk1 (by assumption) (.inr rfl) (.inr rfl) (.inr rfl) ?_ (.inr rfl) (.inr rfl) (.inr rfl) (.inr rfl)
                   (.inr rfl) (.inr rfl) (.inr rfl) (.inr rfl) (.inr rfl) (.inr rfl) (.inr rfl) (.inr rfl) (.inr rfl) (.inr rfl) (.inr rfl)) ?_) ?_) ?_) ?_)
                   (Frame.of (State.setO_frame _ _ _) (Frame.of (State.setN_frame _ _ _) (Frame.of (State.setN_frame _ _ _) (Frame.mk1 (Frame.of (k _)
                   (Frame.of (State.setO_frame _ _ _) (Frame.of (State.setO_frame _ _ _) (Frame.of (State.setN_frame _ _ _) (Frame.mk1 (by assumption)
                   (.inr rfl) (.inr rfl) (.inr rfl) ?_ (.inr rfl) (.inr rfl) (.inr rfl) (.inr rfl) (.inr rfl) (.inr rfl) (.inr rfl) (.inr rfl) (.inr rfl)
                   (.inr rfl) (.inr rfl) (.inr rfl) (.inr rfl) (.inr rfl) (.inr rfl)) ?_) ?_) ?_) ?_) (.inr rfl) (.inr rfl) (.inr rfl) ?_ (.inr rfl)
                   (.inr rfl) (.inr rfl) (.inr rfl) (.inr rfl) (.inr rfl) (.inr rfl) (.inr rfl) (.inr rfl) (.inr rfl) (.inr rfl) (.inr rfl) (.inr rfl)
                   (.inr rfl) (.inr rfl)) ?_) ?_) ?_)
  · exact Frame.orBit hm rfl
  · exact Frame.orMask hm rfl
  · exact Frame.orMask hm rfl
  · exact Frame.orMask hm rfl
  · exact Nat.or_self m
  · exact Frame.orBit hm rfl
  · exact Frame.orMask hm rfl
  · exact Frame.orMask hm rfl
  · exact Frame.orMask hm rfl
  · exact Nat.or_self m
  · exact Frame.orBit hm rfl
  · exact Frame.orMask hm rfl
  · exact Frame.orMask hm rfl
  · exact Frame.orMask hm rfl

theorem State.autoAck_frame (s : Sys2Proof.Machine.State) : Frame 66 s (State.autoAck s) := by
  unfold State.autoAck
  dsimp only
  simp only [State.mk_make]
  with_reducible exact Frame.ite (m := 66) (Frame.refl 66 _) (Frame.of (m := 66) (State.countOpen_frame _) (Frame.up6 (m := 66) (Frame.refl
                   66 _) (by decide)) (by decide))

theorem State.avsRead_frame (s : Sys2Proof.Machine.State) (a1 : Option Nat) (a2 : Bool) : Frame 1005918 s (State.avsRead s a1 a2) := by
  unfold State.avsRead
  dsimp only
  simp only [State.mk_make]
  with_reducible refine Frame.ite (m := 1005918) (Frame.ite (m := 1005918) (Frame.mk1 (m := 1005918) ?_ (.inr rfl) (.inr rfl) (.inr rfl)
                   (.inr rfl) (.inr rfl) (.inr rfl) (.inr rfl) (.inr rfl) (.inr rfl) (.inr rfl) (.inr rfl) (.inr rfl) (.inr rfl) (.inr rfl) (.inr rfl)
                   (.inr rfl) (.inr rfl) ?_ (.inr rfl)) ?_) (Frame.of (m := 1005918) (State.faulted_frame _ _ _ _) (Frame.of (m := 1005918) (State.inc_frame
                   _ _) ?_ (by decide)) (by decide))
  · split
    · with_reducible exact Frame.mono (m := 1005918) (State.setN_frame _ _ _) (by decide)
    · with_reducible exact Frame.refl 1005918 _
  · split
    · split
      · with_reducible exact (.inl (by decide))
      · split
        · with_reducible exact (.inl (by decide))
        · with_reducible exact (.inl (by decide))
    · split
      · with_reducible exact (.inl (by decide))
      · split
        · with_reducible exact (.inl (by decide))
        · with_reducible exact (.inr rfl)
  · split
    · with_reducible exact Frame.mono (m := 1005918) (State.setN_frame _ _ _) (by decide)
    · with_reducible exact Frame.refl 1005918 _
  · split
    · with_reducible exact Frame.mono (m := 1005918) (State.setN_frame _ _ _) (by decide)
    · with_reducible exact Frame.refl 1005918 _

theorem State.avsStart_frame (s : Sys2Proof.Machine.State) (a1 : Option Nat) : Frame 1005918 s (State.avsStart s a1) := by
  unfold State.avsStart
  dsimp only
  simp only [State.mk_make]
  split
  · with_reducible refine Frame.of (m := 1005918) (State.setN_frame _ _ _) (Frame.mk1 (m := 1005918) (Frame.mono (m := 1005918)
                     (State.setN_frame _ _ _) (by decide)) (.inr rfl) (.inr rfl) (.inr rfl) (.inr rfl) (.inr rfl) (.inr rfl) (.inr rfl) (.inr rfl) (.inr rfl)
                     (.inr rfl) (.inr rfl) (.inr rfl) (.inr rfl) (.inr rfl) (.inr rfl) (.inr rfl) (.inr rfl) ?_ (.inr rfl)) (by decide)
    split
    · with_reducible exact (.inl (by decide))
    · with_reducible exact (.inl (by decide))
  · with_reducible refine Frame.of (m := 1005918) (State.faulted_frame _ _ _ _) (Frame.of (m := 1005918) (State.inc_frame _ _) (Frame.mk1
                     (m := 1005918) (Frame.mono (m := 1005918) (State.setN_frame _ _ _) (by decide)) (.inr rfl) (.inr rfl) (.inr rfl) (.inr rfl) (.inr rfl)
                     (.inr rfl) (.inr rfl) (.inr rfl) (.inr rfl) (.inr rfl) (.inr rfl) (.inr rfl) (.inr rfl) (.inr rfl) (.inr rfl) (.inr rfl) (.inr rfl) ?_
                     (.inr rfl)) (by decide)) (by decide)
    split
    · with_reducible exact (.inl (by decide))
    · with_reducible exact (.inl (by decide))

theorem State.banksWake_frame (s : Sys2Proof.Machine.State) : Frame 2 s (State.banksWake s) := by
  unfold State.banksWake
  with_reducible exact Frame.foldl (m := 2) (fun _ => fun _ => Frame.ite (m := 2) (Frame.mono (m := 2) (State.setO_frame _ _ _) (by decide))
                   (Frame.refl 2 _)) (Frame.refl 2 _)

theorem State.basisBoundary_frame (s : Sys2Proof.Machine.State) : Frame 514 s (State.basisBoundary s) := by
  unfold State.basisBoundary
  dsimp only
  with_reducible exact Frame.ite (m := 514) (Frame.refl 514 _) (Frame.foldl (m := 514) (fun _ => fun _ => Frame.ite (m := 514) (Frame.mono
                   (m := 514) (State.setRef_frame _ _ _) (by decide)) (Frame.refl 514 _)) (Frame.mono (m := 514) (State.setO_frame _ _ _) (by decide)))

theorem State.begin__frame (s : Sys2Proof.Machine.State) (a1 : Sys2Proof.Machine.Window) : Frame 16 s (State.begin_ s a1) := by
  unfold State.begin_
  dsimp only
  simp only [State.mk_make]
  with_reducible exact Frame.up4 (m := 16) (Frame.refl 16 _) (by decide)

theorem State.bobBad_frame (s : Sys2Proof.Machine.State) (a1 : Nat) : Frame 131074 s (State.bobBad s a1) := by
  unfold State.bobBad
  dsimp only
  simp only [State.mk_make]
  with_reducible exact Frame.of (m := 131074) (State.addN_frame _ _ _) (Frame.up17 (m := 131074) (Frame.refl 131074 _) (by decide))
                   (by decide)

theorem State.latchUnits_frame (s : Sys2Proof.Machine.State) : Frame 16 s (State.latchUnits s) := by
  unfold State.latchUnits
  dsimp only
  simp only [State.mk_make]
  with_reducible exact Frame.foldl (m := 16) (fun _ => fun _ => Frame.ite (m := 16) (Frame.up4 (m := 16) (Frame.refl 16 _) (by decide))
                   (Frame.refl 16 _)) (Frame.refl 16 _)

end Sys2Proof.Machine
end

