-- ==== Sys2Proof/Laws/Frames4.lean ====
section
/-!
SUPPORT. The frames of operations and commands, part 4.
-/

namespace Sys2Proof.Machine

theorem State.loomBoundary_frame (s : Sys2Proof.Machine.State) : Frame 18 s (State.loomBoundary s) := by
  unfold State.loomBoundary
  dsimp only
  with_reducible exact Frame.of (m := 18) (State.setF_frame _ _ _) (Frame.foldl (m := 18) (fun _ => fun _ => Frame.mono (m := 18)
                   (State.setN_frame _ _ _) (by decide)) (Frame.of (m := 18) (State.setN_frame _ _ _) (Frame.of (m := 18) (State.setN_frame _ _ _) (Frame.of
                   (m := 18) (State.setN_frame _ _ _) (Frame.of (m := 18) (State.setN_frame _ _ _) (Frame.of (m := 18) (State.setN_frame _ _ _) (Frame.foldl
                   (m := 18) (fun _ => fun _ => Frame.mono (m := 18) (State.setN_frame _ _ _) (by decide)) (Frame.mono (m := 18) (State.latchUnits_frame _)
                   (by decide))) (by decide)) (by decide)) (by decide)) (by decide)) (by decide))) (by decide)

theorem State.pllStart_frame (s : Sys2Proof.Machine.State) (a1 : Nat) : Frame 2 s (State.pllStart s a1) := by
  unfold State.pllStart
  with_reducible exact Frame.ite (m := 2) (Frame.mono (m := 2) (State.setO_frame _ _ _) (by decide)) (Frame.refl 2 _)

theorem State.recoveryRemask_frame (s : Sys2Proof.Machine.State) : Frame 8192 s (State.recoveryRemask s) := by
  unfold State.recoveryRemask
  dsimp only
  simp only [State.mk_make]
  with_reducible exact Frame.ite (m := 8192) (Frame.up13 (m := 8192) (Frame.refl 8192 _) (by decide)) (Frame.refl 8192 _)

theorem State.showMaster_frame (s : Sys2Proof.Machine.State) (a1 : Nat) : Frame 2 s (State.showMaster s a1) := by
  unfold State.showMaster
  dsimp only
  with_reducible exact Frame.mono (m := 2) (State.setN_frame _ _ _) (by decide)

theorem State.showKeys_frame (s : Sys2Proof.Machine.State) : Frame 8198 s (State.showKeys s) := by
  unfold State.showKeys
  dsimp only
  split
  · with_reducible refine Frame.foldl (m := 8198) (fun _ => fun _ => ?_) ?_
    · split
      · with_reducible exact Frame.ite (m := 8198) (Frame.refl 8198 _) (Frame.of (m := 8198) (State.showMaster_frame _ _) (Frame.mono
                         (m := 8198) (State.fillSlot_frame _ _ _ _ _ _ _) (by decide)) (by decide))
      · with_reducible exact Frame.refl 8198 _
    · split
      · with_reducible exact Frame.mono (m := 8198) (State.setN_frame _ _ _) (by decide)
      · with_reducible exact Frame.refl 8198 _
  · with_reducible exact Frame.refl 8198 _

theorem State.restoreKeys_frame (s : Sys2Proof.Machine.State) : Frame 12294 s (State.restoreKeys s) := by
  unfold State.restoreKeys
  dsimp only
  simp only [State.mk_make]
  split
  · with_reducible exact Frame.ite (m := 12294) (Frame.of (m := 12294) (State.showKeys_frame _) (Frame.of (m := 12294) (State.setF_frame _ _
                     _) (Frame.up12 (m := 12294) (Frame.refl 12294 _) (by decide)) (by decide)) (by decide)) (Frame.refl 12294 _)
  · with_reducible exact Frame.refl 12294 _

theorem State.snapshot_frame (s : Sys2Proof.Machine.State) : Frame 16384 s (State.snapshot s) := by
  unfold State.snapshot
  dsimp only
  simp only [State.mk_make]
  with_reducible exact Frame.up14 (m := 16384) (Frame.refl 16384 _) (by decide)

theorem State.commitBound_frame (s : Sys2Proof.Machine.State) : Frame 6 s (State.commitBound s).1 := by
  unfold State.commitBound
  dsimp only
  with_reducible refine Frame.of (m := 6) (State.showCeilings_frame _) (Frame.ite (m := 6) (Frame.of (m := 6) (State.inc_frame _ _) ?_
                   (by decide)) ?_) (by decide)
  · split
    · with_reducible exact Frame.of (m := 6) (State.setN_frame _ _ _) (Frame.of (m := 6) (State.setN_frame _ _ _) (Frame.of (m := 6)
                       (State.setN_frame _ _ _) (Frame.of (m := 6) (State.setBlob_frame _ _ _) (Frame.of (m := 6) (State.setN_frame _ _ _) (Frame.mono
                       (m := 6) (State.setN_frame _ _ _) (by decide)) (by decide)) (by decide)) (by decide)) (by decide)) (by decide)
    · with_reducible exact Frame.of (m := 6) (State.setBlob_frame _ _ _) (Frame.of (m := 6) (State.setN_frame _ _ _) (Frame.mono (m := 6)
                       (State.setN_frame _ _ _) (by decide)) (by decide)) (by decide)
  · split
    · with_reducible exact Frame.of (m := 6) (State.setN_frame _ _ _) (Frame.of (m := 6) (State.setN_frame _ _ _) (Frame.of (m := 6)
                       (State.setN_frame _ _ _) (Frame.of (m := 6) (State.setBlob_frame _ _ _) (Frame.of (m := 6) (State.setN_frame _ _ _) (Frame.mono
                       (m := 6) (State.setN_frame _ _ _) (by decide)) (by decide)) (by decide)) (by decide)) (by decide)) (by decide)
    · with_reducible exact Frame.of (m := 6) (State.setBlob_frame _ _ _) (Frame.of (m := 6) (State.setN_frame _ _ _) (Frame.mono (m := 6)
                       (State.setN_frame _ _ _) (by decide)) (by decide)) (by decide)

theorem State.publishTime_frame (s : Sys2Proof.Machine.State) : Frame 4 s (State.publishTime s) := by
  unfold State.publishTime
  with_reducible exact Frame.mono (m := 4) (State.setBlob_frame _ _ _) (by decide)

theorem State.inForce_frame (s : Sys2Proof.Machine.State) (a1 : Sys2Proof.Machine.TsState) : Frame 1046 s (State.inForce s a1) := by
  unfold State.inForce
  dsimp only
  simp only [State.mk_make]
  with_reducible exact Frame.of (m := 1046) (State.publishTime_frame _) (Frame.mk1 (m := 1046) (Frame.mono (m := 1046)
                   (State.commitBound_frame _) (by decide)) (.inr rfl) (.inr rfl) (.inr rfl) (.inl (by decide)) (.inr rfl) (.inr rfl) (.inr rfl) (.inr rfl)
                   (.inr rfl) (.inl (by decide)) (.inr rfl) (.inr rfl) (.inr rfl) (.inr rfl) (.inr rfl) (.inr rfl) (.inr rfl) (.inr rfl) (.inr rfl))
                   (by decide)

theorem State.startTicks_frame (s : Sys2Proof.Machine.State) : Frame 1046 s (State.startTicks s) := by
  unfold State.startTicks
  dsimp only
  simp only [State.mk_make]
  with_reducible exact Frame.of (m := 1046) (State.anchor_frame _ _) (Frame.of (m := 1046) (State.inForce_frame _ _) (Frame.of (m := 1046)
                   (State.setN_frame _ _ _) (Frame.of (m := 1046) (State.inc_frame _ _) (Frame.of (m := 1046) (State.setO_frame _ _ _) (Frame.of (m := 1046)
                   (State.setO_frame _ _ _) (Frame.of (m := 1046) (State.setO_frame _ _ _) (Frame.of (m := 1046) (State.setN_frame _ _ _) (Frame.of
                   (m := 1046) (State.setO_frame _ _ _) (Frame.up4 (m := 1046) (Frame.refl 1046 _) (by decide)) (by decide)) (by decide)) (by decide))
                   (by decide)) (by decide)) (by decide)) (by decide)) (by decide)) (by decide)

theorem State.firstCookieKey_frame (s : Sys2Proof.Machine.State) : Frame 12310 s (State.firstCookieKey s) := by
  unfold State.firstCookieKey
  dsimp only
  simp only [State.mk_make]
  with_reducible exact Frame.ite (m := 12310) (Frame.of (m := 12310) (State.showKeys_frame _) (Frame.up12 (m := 12310) (Frame.of
                   (m := 12310) (State.drew_frame _) (Frame.mono (m := 12310) (State.drew_frame _) (by decide)) (by decide)) (by decide)) (by decide))
                   (Frame.refl 12310 _)

theorem State.warmupKeys_frame (s : Sys2Proof.Machine.State) : Frame 12310 s (State.warmupKeys s) := by
  unfold State.warmupKeys
  dsimp only
  with_reducible exact Frame.of (m := 12310) (State.firstCookieKey_frame _) (Frame.of (m := 12310) (State.fillSlot_frame _ _ _ _ _ _ _)
                   (Frame.mono (m := 12310) (State.drew_frame _) (by decide)) (by decide)) (by decide)

theorem State.enterWarmup_frame (s : Sys2Proof.Machine.State) (a1 : Nat) : Frame 160854 s (State.enterWarmup s a1) := by
  unfold State.enterWarmup
  dsimp only
  with_reducible exact Frame.of (m := 160854) (State.snapshot_frame _) (Frame.of (m := 160854) (State.loomBoundary_frame _) (Frame.of
                   (m := 160854) (State.formKeyframe_frame _) (Frame.of (m := 160854) (State.setO_frame _ _ _) (Frame.of (m := 160854) (State.setN_frame _ _
                   _) (Frame.of (m := 160854) (State.pllStart_frame _ _) (Frame.of (m := 160854) (State.recoveryRemask_frame _) (Frame.of (m := 160854)
                   (State.warmupKeys_frame _) (Frame.of (m := 160854) (State.restoreKeys_frame _) (Frame.of (m := 160854) (State.startTicks_frame _)
                   (Frame.of (m := 160854) (State.setN_frame _ _ _) (Frame.mono (m := 160854) (State.changeMode_frame _ _) (by decide)) (by decide))
                   (by decide)) (by decide)) (by decide)) (by decide)) (by decide)) (by decide)) (by decide)) (by decide)) (by decide)) (by decide)

theorem State.bootDone_frame (s : Sys2Proof.Machine.State) (a1 : Nat) : Frame 422998 s (State.bootDone s a1) := by
  unfold State.bootDone
  dsimp only
  simp only [State.mk_make]
  with_reducible exact Frame.ite (m := 422998) (Frame.up18 (m := 422998) (Frame.mono (m := 422998) (State.setO_frame _ _ _) (by decide))
                   (by decide)) (Frame.of (m := 422998) (State.enterWarmup_frame _ _) (Frame.up18 (m := 422998) (Frame.mono (m := 422998) (State.setO_frame _
                   _ _) (by decide)) (by decide)) (by decide))

theorem State.bootKeys_frame (s : Sys2Proof.Machine.State) : Frame 8196 s (State.bootKeys s) := by
  unfold State.bootKeys
  dsimp only
  with_reducible exact Frame.of (m := 8196) (State.setBlob_frame _ _ _) (Frame.of (m := 8196) (State.setBlob_frame _ _ _) (Frame.of
                   (m := 8196) (State.fillSlot_frame _ _ _ _ _ _ _) (Frame.of (m := 8196) (State.fillSlot_frame _ _ _ _ _ _ _) (Frame.mono (m := 8196)
                   (State.fillSlot_frame _ _ _ _ _ _ _) (by decide)) (by decide)) (by decide)) (by decide)) (by decide)

theorem State.forceUnbounded_frame (s : Sys2Proof.Machine.State) : Frame 16 s (State.forceUnbounded s) := by
  unfold State.forceUnbounded
  dsimp only
  simp only [State.mk_make]
  with_reducible exact Frame.up4 (m := 16) (Frame.refl 16 _) (by decide)

theorem State.boundLost_frame (s : Sys2Proof.Machine.State) : Frame 22 s (State.boundLost s) := by
  unfold State.boundLost
  dsimp only
  simp only [State.mk_make]
  with_reducible refine Frame.ite (m := 22) (Frame.mono (m := 22) (State.forceUnbounded_frame _) (by decide)) (Frame.of (m := 22)
                   (State.publishTime_frame _) (Frame.of (m := 22) (State.showCeilings_frame _) (Frame.of (m := 22) (State.forceUnbounded_frame _) (Frame.mk1
                   (m := 22) (Frame.of (m := 22) (State.setBlob_frame _ _ _) (Frame.of (m := 22) (State.inc_frame _ _) (Frame.of (m := 22) (State.setO_frame
                   _ _ _) (Frame.mono (m := 22) (State.setN_frame _ _ _) (by decide)) (by decide)) (by decide)) (by decide)) (.inr rfl) (.inr rfl) (.inr rfl)
                   ?_ (.inr rfl) (.inr rfl) (.inr rfl) (.inr rfl) (.inr rfl) (.inr rfl) (.inr rfl) (.inr rfl) (.inr rfl) (.inr rfl) (.inr rfl) (.inr rfl)
                   (.inr rfl) (.inr rfl) (.inr rfl)) (by decide)) (by decide)) (by decide))
  split
  · with_reducible exact (.inl (by decide))
  · with_reducible exact (.inl (by decide))

theorem State.boundaryBatches_frame (s : Sys2Proof.Machine.State) (a1 : Bool) : Frame 1048542 s (State.boundaryBatches s a1) := by
  unfold State.boundaryBatches
  try dsimp only
  try simp only [State.mk_make]
  repeat' first
    | with_reducible apply Frame.refl
    | with_reducible assumption
    | with_reducible intro _
    | with_reducible apply Or.inr rfl
    | with_reducible apply Frame.mk1
    | with_reducible apply Frame.of (State.applyBatches_frame _ _)
    | with_reducible apply State.atNext_frame
    | with_reducible apply Frame.foldl
    | with_reducible apply Frame.foldlFst
    | with_reducible apply Frame.iteFst
    | with_reducible refine Frame.fst (by assumption) ?_
    | with_reducible apply Frame.ite
    | split
    | exact Or.inl (by decide)
    | decide


theorem State.fireActions_frame (s : Sys2Proof.Machine.State) : Frame 373842 s (State.fireActions s) := by
  unfold State.fireActions
  try dsimp only
  try simp only [State.mk_make]
  repeat' first
    | with_reducible apply Frame.refl
    | with_reducible assumption
    | with_reducible intro _
    | with_reducible apply Or.inr rfl
    | with_reducible apply Frame.mk1
    | with_reducible apply Frame.of (State.fireDue_frame _ _)
    | with_reducible apply State.atNext_frame
    | with_reducible apply Frame.foldl
    | with_reducible apply Frame.foldlFst
    | with_reducible apply Frame.iteFst
    | with_reducible refine Frame.fst (by assumption) ?_
    | with_reducible apply Frame.ite
    | split
    | exact Or.inl (by decide)
    | decide


theorem State.keyWritesApply_frame (s : Sys2Proof.Machine.State) : Frame 12294 s (State.keyWritesApply s) := by
  unfold State.keyWritesApply
  dsimp only
  simp only [State.mk_make]
  with_reducible exact Frame.foldl (m := 12294) (fun _ => fun _ => Frame.mono (m := 12294) (State.keyWriteOne_frame _ _ _) (by decide))
                   (Frame.up13 (m := 12294) (Frame.refl 12294 _) (by decide))

theorem State.boundaryApply_frame (s : Sys2Proof.Machine.State) : Frame 1048542 s (State.boundaryApply s) := by
  unfold State.boundaryApply
  dsimp only
  simp only [State.mk_make]
  with_reducible exact Frame.up13 (m := 1048542) (Frame.of (m := 1048542) (State.keyWritesApply_frame _) (Frame.of (m := 1048542)
                   (State.boundaryBatches_frame _ _) (Frame.mono (m := 1048542) (State.fireActions_frame _) (by decide)) (by decide)) (by decide))
                   (by decide)

theorem State.commitAll_frame (s : Sys2Proof.Machine.State) : Frame 130 s (State.commitAll s) := by
  unfold State.commitAll
  dsimp only
  with_reducible exact Frame.foldl (m := 130) (fun _ => fun _ => Frame.of (m := 130) (State.commitHeld_frame _ _ _) (Frame.ite (m := 130)
                   (Frame.refl 130 _) (Frame.mono (m := 130) (State.setPort_frame _ _ _) (by decide))) (by decide)) (Frame.refl 130 _)

theorem State.missedDues_frame (s : Sys2Proof.Machine.State) : Frame 69632 s (State.missedDues s) := by
  unfold State.missedDues
  dsimp only
  with_reducible refine Frame.ite (m := 69632) (Frame.foldl (m := 69632) (fun _ => fun _ => ?_) (Frame.refl 69632 _)) (Frame.refl 69632 _)
  split
  · with_reducible refine Frame.ite (m := 69632) (Frame.of (m := 69632) (State.withheld_frame _ _ _ _) (Frame.of (m := 69632)
                     (State.markDue_frame _ _ _ _) ?_ (by decide)) (by decide)) ?_
    · split
      · with_reducible exact Frame.ite (m := 69632) (Frame.of (m := 69632) (State.withheld_frame _ _ _ _) (Frame.mono (m := 69632)
                         (State.markDue_frame _ _ _ _) (by decide)) (by decide)) (Frame.refl 69632 _)
      · with_reducible exact Frame.refl 69632 _
    · split
      · with_reducible exact Frame.ite (m := 69632) (Frame.of (m := 69632) (State.withheld_frame _ _ _ _) (Frame.mono (m := 69632)
                         (State.markDue_frame _ _ _ _) (by decide)) (by decide)) (Frame.refl 69632 _)
      · with_reducible exact Frame.refl 69632 _
  · split
    · with_reducible exact Frame.ite (m := 69632) (Frame.of (m := 69632) (State.withheld_frame _ _ _ _) (Frame.mono (m := 69632)
                       (State.markDue_frame _ _ _ _) (by decide)) (by decide)) (Frame.refl 69632 _)
    · with_reducible exact Frame.refl 69632 _

theorem State.ppsInvalid_frame (s : Sys2Proof.Machine.State) (a1 : Nat) : Frame 512 s (State.ppsInvalid s a1) := by
  unfold State.ppsInvalid
  dsimp only
  split
  · with_reducible exact Frame.refl 512 _
  · with_reducible exact Frame.of (m := 512) (State.refArrive_frame _ _) (Frame.mono (m := 512) (State.setRef_frame _ _ _) (by decide))
                     (by decide)

theorem State.ppsNoMessage_frame (s : Sys2Proof.Machine.State) (a1 : Nat) : Frame 514 s (State.ppsNoMessage s a1) := by
  unfold State.ppsNoMessage
  with_reducible exact Frame.ite (m := 514) (Frame.of (m := 514) (State.ppsInvalid_frame _ _) (Frame.mono (m := 514) (State.inc_frame _ _)
                   (by decide)) (by decide)) (Frame.refl 514 _)

theorem State.ppsEdge_frame (s : Sys2Proof.Machine.State) (a1 : Nat) (a2 : Int) (a3 : Nat) : Frame 514 s (State.ppsEdge s a1 a2 a3) := by
  unfold State.ppsEdge
  dsimp only
  with_reducible refine Frame.foldl (m := 514) (fun _ => fun _ => ?_) (Frame.refl 514 _)
  split
  · with_reducible exact Frame.ite (m := 514) (Frame.of (m := 514) (State.setRef_frame _ _ _) (Frame.mono (m := 514)
                     (State.ppsNoMessage_frame _ _) (by decide)) (by decide)) (Frame.refl 514 _)
  · with_reducible exact Frame.refl 514 _

theorem State.ppsPortNews_frame (s : Sys2Proof.Machine.State) (a1 : Nat) : Frame 642 s (State.ppsPortNews s a1) := by
  unfold State.ppsPortNews
  dsimp only
  with_reducible exact Frame.ite (m := 642) (Frame.refl 642 _) (Frame.foldl (m := 642) (fun _ => fun _ => Frame.mono (m := 642)
                   (State.ppsEdge_frame _ _ _ _) (by decide)) (Frame.mono (m := 642) (State.setPort_frame _ _ _) (by decide)))

theorem State.ppsNews_frame (s : Sys2Proof.Machine.State) : Frame 642 s (State.ppsNews s) := by
  unfold State.ppsNews
  with_reducible exact Frame.foldl (m := 642) (fun _ => fun _ => Frame.mono (m := 642) (State.ppsPortNews_frame _ _) (by decide))
                   (Frame.refl 642 _)

theorem State.stageObs_frame (s : Sys2Proof.Machine.State) : Frame 131072 s (State.stageObs s) := by
  unfold State.stageObs
  dsimp only
  simp only [State.mk_make]
  with_reducible exact Frame.up17 (m := 131072) (Frame.refl 131072 _) (by decide)

theorem State.closeTick_frame (s : Sys2Proof.Machine.State) (a1 : Nat) (a2 : List Sys2Proof.Machine.WorkTally) : Frame 201346 s (State.closeTick s a1 a2) := by
  unfold State.closeTick
  dsimp only
  with_reducible exact Frame.of (m := 201346) (State.missedDues_frame _) (Frame.of (m := 201346) (State.stageObs_frame _) (Frame.of
                   (m := 201346) (State.ppsNews_frame _) (Frame.of (m := 201346) (State.commitAll_frame _) (Frame.foldl (m := 201346) (fun _ => fun _ =>
                   Frame.mono (m := 201346) (State.accountWork_frame _ _) (by decide)) (Frame.mono (m := 201346) (State.setN_frame _ _ _) (by decide)))
                   (by decide)) (by decide)) (by decide)) (by decide)

theorem State.journalBegin_frame (s : Sys2Proof.Machine.State) : Frame 262144 s (State.journalBegin s) := by
  unfold State.journalBegin
  dsimp only
  simp only [State.mk_make]
  split
  · with_reducible exact Frame.ite (m := 262144) (Frame.refl 262144 _) (Frame.up18 (m := 262144) (Frame.refl 262144 _) (by decide))
  · with_reducible exact Frame.refl 262144 _

theorem State.journalSnapshot_frame (s : Sys2Proof.Machine.State) : Frame 262144 s (State.journalSnapshot s) := by
  unfold State.journalSnapshot
  dsimp only
  simp only [State.mk_make]
  with_reducible exact Frame.ite (m := 262144) (Frame.ite (m := 262144) (Frame.of (m := 262144) (State.journalBegin_frame _) (Frame.up18
                   (m := 262144) (Frame.refl 262144 _) (by decide)) (by decide)) (Frame.up18 (m := 262144) (Frame.refl 262144 _) (by decide))) (Frame.refl
                   262144 _)

theorem State.planApply_frame (s : Sys2Proof.Machine.State) : Frame 262146 s (State.planApply s) := by
  unfold State.planApply
  dsimp only
  simp only [State.mk_make]
  split
  · with_reducible exact Frame.ite (m := 262146) (Frame.up18 (m := 262146) (Frame.foldl (m := 262146) (fun _ => fun _ => Frame.mono
                     (m := 262146) (State.setN_frame _ _ _) (by decide)) (Frame.of (m := 262146) (State.setN_frame _ _ _) (Frame.of (m := 262146)
                     (State.setN_frame _ _ _) (Frame.of (m := 262146) (State.setN_frame _ _ _) (Frame.of (m := 262146) (State.setN_frame _ _ _) (Frame.mono
                     (m := 262146) (State.setN_frame _ _ _) (by decide)) (by decide)) (by decide)) (by decide)) (by decide))) (by decide)) (Frame.refl 262146
                     _)
  · with_reducible exact Frame.refl 262146 _

theorem State.setReg_frame (s : Sys2Proof.Machine.State) (a1 : Nat) (a2 : Nat) (a3 : Nat) : Frame 16384 s (State.setReg s a1 a2 a3) := by
  unfold State.setReg
  dsimp only
  simp only [State.mk_make]
  with_reducible exact Frame.up14 (m := 16384) (Frame.refl 16384 _) (by decide)

theorem State.vector_frame (s : Sys2Proof.Machine.State) (a1 : Nat) (a2 : Nat) : Frame 16384 s (State.vector s a1 a2) := by
  unfold State.vector
  dsimp only
  simp only [State.mk_make]
  with_reducible exact Frame.ite (m := 16384) (Frame.mono (m := 16384) (State.setReg_frame _ _ _ _) (by decide)) (Frame.up14 (m := 16384)
                   (Frame.refl 16384 _) (by decide))

theorem State.recordSecond_frame (s : Sys2Proof.Machine.State) : Frame 147458 s (State.recordSecond s) := by
  unfold State.recordSecond
  dsimp only
  simp only [State.mk_make]
  with_reducible exact Frame.ite (m := 147458) (Frame.ite (m := 147458) (Frame.of (m := 147458) (State.vector_frame _ _ _) (Frame.up17
                   (m := 147458) (Frame.mono (m := 147458) (State.setN_frame _ _ _) (by decide)) (by decide)) (by decide)) (Frame.up17 (m := 147458)
                   (Frame.mono (m := 147458) (State.setN_frame _ _ _) (by decide)) (by decide))) (Frame.refl 147458 _)

theorem State.uartTick_frame (s : Sys2Proof.Machine.State) : Frame 524288 s (State.uartTick s) := by
  unfold State.uartTick
  dsimp only
  simp only [State.mk_make]
  with_reducible refine Frame.mk1 (m := 524288) (Frame.refl 524288 _) (.inr rfl) (.inr rfl) (.inr rfl) (.inr rfl) (.inr rfl) (.inr rfl)
                   (.inr rfl) (.inr rfl) (.inr rfl) (.inr rfl) (.inr rfl) (.inr rfl) (.inr rfl) (.inr rfl) (.inr rfl) (.inr rfl) (.inr rfl) (.inr rfl) ?_
  split
  · with_reducible exact (.inl (by decide))
  · with_reducible exact (.inl (by decide))

theorem State.keepAt_frame (s : Sys2Proof.Machine.State) : Frame 933970 s (State.keepAt s) := by
  unfold State.keepAt
  dsimp only
  simp only [State.mk_make]
  with_reducible exact Frame.up6 (m := 933970) (Frame.of (m := 933970) (State.loomBoundary_frame _) (Frame.of (m := 933970)
                   (State.uartTick_frame _) (Frame.of (m := 933970) (State.recordSecond_frame _) (Frame.of (m := 933970) (State.journalSnapshot_frame _)
                   (Frame.mono (m := 933970) (State.planApply_frame _) (by decide)) (by decide)) (by decide)) (by decide)) (by decide)) (by decide)

theorem State.keepMeas_frame (a0 : Sys2Proof.Machine.EpochWork) (s : Sys2Proof.Machine.State) (a2 : Nat) : Frame 1024 s (State.keepMeas a0 s a2) := by
  unfold State.keepMeas
  dsimp only
  split
  · with_reducible exact Frame.mono (m := 1024) (State.setMember_frame _ _ _) (by decide)
  · with_reducible exact Frame.mono (m := 1024) (State.setMember_frame _ _ _) (by decide)

theorem State.publishFreqUnc_frame (s : Sys2Proof.Machine.State) : Frame 2 s (State.publishFreqUnc s) := by
  unfold State.publishFreqUnc
  with_reducible exact Frame.mono (m := 2) (State.setN_frame _ _ _) (by decide)

theorem State.showEpoch_frame (s : Sys2Proof.Machine.State) (a1 : Sys2Proof.Machine.EpochWork) : Frame 2 s (State.showEpoch s a1) := by
  unfold State.showEpoch
  dsimp only
  with_reducible exact Frame.foldl (m := 2) (fun _ => fun _ => Frame.of (m := 2) (State.setO_frame _ _ _) (Frame.of (m := 2)
                   (State.setO_frame _ _ _) (Frame.mono (m := 2) (State.setO_frame _ _ _) (by decide)) (by decide)) (by decide)) (Frame.of (m := 2)
                   (State.setN_frame _ _ _) (Frame.of (m := 2) (State.setF_frame _ _ _) (Frame.foldl (m := 2) (fun _ => fun _ => Frame.mono (m := 2)
                   (State.setO_frame _ _ _) (by decide)) (Frame.foldl (m := 2) (fun _ => fun _ => Frame.mono (m := 2) (State.inc_frame _ _) (by decide))
                   (Frame.foldl (m := 2) (fun _ => fun _ => Frame.mono (m := 2) (State.setN_frame _ _ _) (by decide)) (Frame.refl 2 _)))) (by decide))
                   (by decide))

theorem State.startSegment_frame (s : Sys2Proof.Machine.State) (a1 : Nat) : Frame 2 s (State.startSegment s a1).1 := by
  unfold State.startSegment
  dsimp only
  with_reducible exact Frame.of (m := 2) (State.publishFreqUnc_frame _) (Frame.of (m := 2) (State.setN_frame _ _ _) (Frame.mono (m := 2)
                   (State.setN_frame _ _ _) (by decide)) (by decide)) (by decide)

theorem State.takeWeights_frame (s : Sys2Proof.Machine.State) (a1 : List (Nat × Sys2Proof.Octets) × List (Nat × Nat)) : Frame 1026 s (State.takeWeights s a1) := by
  unfold State.takeWeights
  dsimp only
  simp only [State.mk_make]
  with_reducible exact Frame.of (m := 1026) (State.inc_frame _ _) (Frame.up10 (m := 1026) (Frame.foldl (m := 1026) (fun _ => fun _ =>
                   Frame.mono (m := 1026) (State.setN_frame _ _ _) (by decide)) (Frame.refl 1026 _)) (by decide)) (by decide)

theorem State.publishModel_frame (s : Sys2Proof.Machine.State) (a1 : Sys2Proof.Machine.EpochWork) : Frame 1042 s (State.publishModel s a1) := by
  unfold State.publishModel
  dsimp only
  simp only [State.mk_make]
  with_reducible refine Frame.ite (m := 1042) (Frame.of (m := 1042) (State.setN_frame _ _ _) ?_ (by decide)) (Frame.of (m := 1042)
                   (State.publishFreqUnc_frame _) (Frame.of (m := 1042) (State.setN_frame _ _ _) ?_ (by decide)) (by decide))
  · split
    · with_reducible exact Frame.of (m := 1042) (State.takeWeights_frame _ _) (Frame.foldl (m := 1042) (fun _ => fun _ => Frame.mono
                       (m := 1042) (State.declare_frame _ _ _) (by decide)) (Frame.of (m := 1042) (State.showEpoch_frame _ _) (Frame.of (m := 1042)
                       (State.inc_frame _ _) (Frame.foldl (m := 1042) (fun _ => fun _ => Frame.mono (m := 1042) (State.applyDecision_frame _ _ _)
                       (by decide)) (Frame.foldl (m := 1042) (fun _ => fun _ => Frame.mono (m := 1042) (State.keepMeas_frame _ _ _) (by decide)) (Frame.up10
                       (m := 1042) (Frame.refl 1042 _) (by decide)))) (by decide)) (by decide))) (by decide)
    · with_reducible exact Frame.foldl (m := 1042) (fun _ => fun _ => Frame.mono (m := 1042) (State.declare_frame _ _ _) (by decide))
                       (Frame.of (m := 1042) (State.showEpoch_frame _ _) (Frame.of (m := 1042) (State.inc_frame _ _) (Frame.foldl (m := 1042) (fun _ => fun _
                       => Frame.mono (m := 1042) (State.applyDecision_frame _ _ _) (by decide)) (Frame.foldl (m := 1042) (fun _ => fun _ => Frame.mono
                       (m := 1042) (State.keepMeas_frame _ _ _) (by decide)) (Frame.up10 (m := 1042) (Frame.refl 1042 _) (by decide)))) (by decide))
                       (by decide))
  · split
    · with_reducible exact Frame.of (m := 1042) (State.takeWeights_frame _ _) (Frame.foldl (m := 1042) (fun _ => fun _ => Frame.mono
                       (m := 1042) (State.declare_frame _ _ _) (by decide)) (Frame.of (m := 1042) (State.showEpoch_frame _ _) (Frame.of (m := 1042)
                       (State.inc_frame _ _) (Frame.foldl (m := 1042) (fun _ => fun _ => Frame.mono (m := 1042) (State.applyDecision_frame _ _ _)
                       (by decide)) (Frame.foldl (m := 1042) (fun _ => fun _ => Frame.mono (m := 1042) (State.keepMeas_frame _ _ _) (by decide)) (Frame.up10
                       (m := 1042) (Frame.refl 1042 _) (by decide)))) (by decide)) (by decide))) (by decide)
    · with_reducible exact Frame.foldl (m := 1042) (fun _ => fun _ => Frame.mono (m := 1042) (State.declare_frame _ _ _) (by decide))
                       (Frame.of (m := 1042) (State.showEpoch_frame _ _) (Frame.of (m := 1042) (State.inc_frame _ _) (Frame.foldl (m := 1042) (fun _ => fun _
                       => Frame.mono (m := 1042) (State.applyDecision_frame _ _ _) (by decide)) (Frame.foldl (m := 1042) (fun _ => fun _ => Frame.mono
                       (m := 1042) (State.keepMeas_frame _ _ _) (by decide)) (Frame.up10 (m := 1042) (Frame.refl 1042 _) (by decide)))) (by decide))
                       (by decide))

theorem State.publishHold_frame (s : Sys2Proof.Machine.State) (a1 : Sys2Proof.Machine.EpochWork) (a2 : Sys2Proof.Machine.Hold) : Frame 1042 s (State.publishHold s a1 a2) := by
  unfold State.publishHold
  dsimp only
  simp only [State.mk_make]
  with_reducible refine Frame.ite (m := 1042) (Frame.of (m := 1042) (State.forceUnbounded_frame _) (Frame.mk1 (m := 1042) (Frame.iteFst
                   (m := 1042) (Frame.mono (m := 1042) (State.startSegment_frame _ _) (by decide)) (Frame.refl 1042 _)) (.inr rfl) (.inr rfl) (.inr rfl)
                   (.inr rfl) (.inr rfl) (.inr rfl) (.inr rfl) (.inr rfl) (.inr rfl) ?_ (.inr rfl) (.inr rfl) (.inr rfl) (.inr rfl) (.inr rfl) (.inr rfl)
                   (.inr rfl) (.inr rfl) (.inr rfl)) (by decide)) (Frame.mk1 (m := 1042) (Frame.iteFst (m := 1042) (Frame.mono (m := 1042)
                   (State.startSegment_frame _ _) (by decide)) (Frame.refl 1042 _)) (.inr rfl) (.inr rfl) (.inr rfl) (.inr rfl) (.inr rfl) (.inr rfl)
                   (.inr rfl) (.inr rfl) (.inr rfl) ?_ (.inr rfl) (.inr rfl) (.inr rfl) (.inr rfl) (.inr rfl) (.inr rfl) (.inr rfl) (.inr rfl) (.inr rfl))
  · split
    · with_reducible exact (.inl (by decide))
    · split
      · with_reducible exact (.inl (by decide))
      · with_reducible exact (.inl (by decide))
  · split
    · with_reducible exact (.inl (by decide))
    · split
      · with_reducible exact (.inl (by decide))
      · with_reducible exact (.inl (by decide))

theorem State.publishEpoch_frame (s : Sys2Proof.Machine.State) : Frame 1042 s (State.publishEpoch s) := by
  unfold State.publishEpoch
  dsimp only
  split
  · with_reducible exact Frame.refl 1042 _
  · with_reducible refine Frame.ite (m := 1042) (Frame.refl 1042 _) ?_
    split
    · with_reducible exact Frame.mono (m := 1042) (State.publishModel_frame _ _) (by decide)
    · with_reducible exact Frame.of (m := 1042) (State.publishHold_frame _ _ _) (Frame.mono (m := 1042) (State.publishModel_frame _ _)
                       (by decide)) (by decide)

theorem State.canopyBoundary_frame (s : Sys2Proof.Machine.State) : Frame 1042 s (State.canopyBoundary s) := by
  unfold State.canopyBoundary
  dsimp only
  simp only [State.mk_make]
  with_reducible refine Frame.ite (m := 1042) (Frame.of (m := 1042) (State.publishEpoch_frame _) (Frame.ite (m := 1042) (Frame.mk1
                   (m := 1042) (Frame.ite (m := 1042) (Frame.mk1 (m := 1042) (Frame.foldl (m := 1042) (fun _ => fun _ => Frame.mono (m := 1042)
                   (State.setMember_frame _ _ _) (by decide)) (Frame.ite (m := 1042) (Frame.up10 (m := 1042) (Frame.foldl (m := 1042) (fun _ => fun _ =>
                   Frame.ite (m := 1042) (Frame.refl 1042 _) (Frame.mono (m := 1042) (State.setMember_frame _ _ _) (by decide))) (Frame.refl 1042 _))
                   (by decide)) (Frame.foldl (m := 1042) (fun _ => fun _ => Frame.ite (m := 1042) (Frame.refl 1042 _) (Frame.mono (m := 1042)
                   (State.setMember_frame _ _ _) (by decide))) (Frame.refl 1042 _)))) (.inr rfl) (.inr rfl) (.inr rfl) (.inr rfl) (.inr rfl) (.inr rfl)
                   (.inr rfl) (.inr rfl) (.inr rfl) ?_ (.inr rfl) (.inr rfl) (.inr rfl) (.inr rfl) (.inr rfl) (.inr rfl) (.inr rfl) (.inr rfl) (.inr rfl))
                   (Frame.ite (m := 1042) (Frame.up10 (m := 1042) (Frame.foldl (m := 1042) (fun _ => fun _ => Frame.ite (m := 1042) (Frame.refl 1042 _)
                   (Frame.mono (m := 1042) (State.setMember_frame _ _ _) (by decide))) (Frame.refl 1042 _)) (by decide)) (Frame.foldl (m := 1042) (fun _ =>
                   fun _ => Frame.ite (m := 1042) (Frame.refl 1042 _) (Frame.mono (m := 1042) (State.setMember_frame _ _ _) (by decide))) (Frame.refl 1042
                   _)))) (.inr rfl) (.inr rfl) (.inr rfl) (.inr rfl) (.inr rfl) (.inr rfl) (.inr rfl) (.inr rfl) (.inr rfl) ?_ (.inr rfl) (.inr rfl)
                   (.inr rfl) (.inr rfl) (.inr rfl) (.inr rfl) (.inr rfl) (.inr rfl) (.inr rfl)) (Frame.ite (m := 1042) (Frame.mk1 (m := 1042) (Frame.foldl
                   (m := 1042) (fun _ => fun _ => Frame.mono (m := 1042) (State.setMember_frame _ _ _) (by decide)) (Frame.ite (m := 1042) (Frame.up10
                   (m := 1042) (Frame.foldl (m := 1042) (fun _ => fun _ => Frame.ite (m := 1042) (Frame.refl 1042 _) (Frame.mono (m := 1042)
                   (State.setMember_frame _ _ _) (by decide))) (Frame.refl 1042 _)) (by decide)) (Frame.foldl (m := 1042) (fun _ => fun _ => Frame.ite
                   (m := 1042) (Frame.refl 1042 _) (Frame.mono (m := 1042) (State.setMember_frame _ _ _) (by decide))) (Frame.refl 1042 _)))) (.inr rfl)
                   (.inr rfl) (.inr rfl) (.inr rfl) (.inr rfl) (.inr rfl) (.inr rfl) (.inr rfl) (.inr rfl) ?_ (.inr rfl) (.inr rfl) (.inr rfl) (.inr rfl)
                   (.inr rfl) (.inr rfl) (.inr rfl) (.inr rfl) (.inr rfl)) (Frame.ite (m := 1042) (Frame.up10 (m := 1042) (Frame.foldl (m := 1042) (fun _ =>
                   fun _ => Frame.ite (m := 1042) (Frame.refl 1042 _) (Frame.mono (m := 1042) (State.setMember_frame _ _ _) (by decide))) (Frame.refl 1042
                   _)) (by decide)) (Frame.foldl (m := 1042) (fun _ => fun _ => Frame.ite (m := 1042) (Frame.refl 1042 _) (Frame.mono (m := 1042)
                   (State.setMember_frame _ _ _) (by decide))) (Frame.refl 1042 _))))) (by decide)) (Frame.ite (m := 1042) (Frame.mk1 (m := 1042) (Frame.ite
                   (m := 1042) (Frame.mk1 (m := 1042) (Frame.foldl (m := 1042) (fun _ => fun _ => Frame.mono (m := 1042) (State.setMember_frame _ _ _)
                   (by decide)) (Frame.ite (m := 1042) (Frame.up10 (m := 1042) (Frame.foldl (m := 1042) (fun _ => fun _ => Frame.ite (m := 1042) (Frame.refl
                   1042 _) (Frame.mono (m := 1042) (State.setMember_frame _ _ _) (by decide))) (Frame.refl 1042 _)) (by decide)) (Frame.foldl (m := 1042)
                   (fun _ => fun _ => Frame.ite (m := 1042) (Frame.refl 1042 _) (Frame.mono (m := 1042) (State.setMember_frame _ _ _) (by decide)))
                   (Frame.refl 1042 _)))) (.inr rfl) (.inr rfl) (.inr rfl) (.inr rfl) (.inr rfl) (.inr rfl) (.inr rfl) (.inr rfl) (.inr rfl) ?_ (.inr rfl)
                   (.inr rfl) (.inr rfl) (.inr rfl) (.inr rfl) (.inr rfl) (.inr rfl) (.inr rfl) (.inr rfl)) (Frame.ite (m := 1042) (Frame.up10 (m := 1042)
                   (Frame.foldl (m := 1042) (fun _ => fun _ => Frame.ite (m := 1042) (Frame.refl 1042 _) (Frame.mono (m := 1042) (State.setMember_frame _ _
                   _) (by decide))) (Frame.refl 1042 _)) (by decide)) (Frame.foldl (m := 1042) (fun _ => fun _ => Frame.ite (m := 1042) (Frame.refl 1042 _)
                   (Frame.mono (m := 1042) (State.setMember_frame _ _ _) (by decide))) (Frame.refl 1042 _)))) (.inr rfl) (.inr rfl) (.inr rfl) (.inr rfl)
                   (.inr rfl) (.inr rfl) (.inr rfl) (.inr rfl) (.inr rfl) ?_ (.inr rfl) (.inr rfl) (.inr rfl) (.inr rfl) (.inr rfl) (.inr rfl) (.inr rfl)
                   (.inr rfl) (.inr rfl)) (Frame.ite (m := 1042) (Frame.mk1 (m := 1042) (Frame.foldl (m := 1042) (fun _ => fun _ => Frame.mono (m := 1042)
                   (State.setMember_frame _ _ _) (by decide)) (Frame.ite (m := 1042) (Frame.up10 (m := 1042) (Frame.foldl (m := 1042) (fun _ => fun _ =>
                   Frame.ite (m := 1042) (Frame.refl 1042 _) (Frame.mono (m := 1042) (State.setMember_frame _ _ _) (by decide))) (Frame.refl 1042 _))
                   (by decide)) (Frame.foldl (m := 1042) (fun _ => fun _ => Frame.ite (m := 1042) (Frame.refl 1042 _) (Frame.mono (m := 1042)
                   (State.setMember_frame _ _ _) (by decide))) (Frame.refl 1042 _)))) (.inr rfl) (.inr rfl) (.inr rfl) (.inr rfl) (.inr rfl) (.inr rfl)
                   (.inr rfl) (.inr rfl) (.inr rfl) ?_ (.inr rfl) (.inr rfl) (.inr rfl) (.inr rfl) (.inr rfl) (.inr rfl) (.inr rfl) (.inr rfl) (.inr rfl))
                   (Frame.ite (m := 1042) (Frame.up10 (m := 1042) (Frame.foldl (m := 1042) (fun _ => fun _ => Frame.ite (m := 1042) (Frame.refl 1042 _)
                   (Frame.mono (m := 1042) (State.setMember_frame _ _ _) (by decide))) (Frame.refl 1042 _)) (by decide)) (Frame.foldl (m := 1042) (fun _ =>
                   fun _ => Frame.ite (m := 1042) (Frame.refl 1042 _) (Frame.mono (m := 1042) (State.setMember_frame _ _ _) (by decide))) (Frame.refl 1042
                   _)))))
  · split
    · with_reducible exact (.inl (by decide))
    · with_reducible exact (.inl (by decide))
  · split
    · split
      · with_reducible exact (.inl (by decide))
      · with_reducible exact (.inl (by decide))
    · split
      · with_reducible exact (.inl (by decide))
      · with_reducible exact (.inl (by decide))
  · split
    · with_reducible exact (.inl (by decide))
    · with_reducible exact (.inl (by decide))
  · split
    · with_reducible exact (.inl (by decide))
    · with_reducible exact (.inl (by decide))
  · split
    · split
      · with_reducible exact (.inl (by decide))
      · with_reducible exact (.inl (by decide))
    · split
      · with_reducible exact (.inl (by decide))
      · with_reducible exact (.inl (by decide))
  · split
    · with_reducible exact (.inl (by decide))
    · with_reducible exact (.inl (by decide))

theorem State.canopySwitched_frame (s : Sys2Proof.Machine.State) (a1 : Int) (a2 : Int) : Frame 1024 s (State.canopySwitched s a1 a2) := by
  unfold State.canopySwitched
  dsimp only
  simp only [State.mk_make]
  with_reducible refine Frame.mk1 (m := 1024) (Frame.foldl (m := 1024) (fun _ => fun _ => Frame.mono (m := 1024) (State.setMember_frame _ _
                   _) (by decide)) (Frame.refl 1024 _)) (.inr rfl) (.inr rfl) (.inr rfl) (.inr rfl) (.inr rfl) (.inr rfl) (.inr rfl) (.inr rfl) (.inr rfl) ?_
                   (.inr rfl) (.inr rfl) (.inr rfl) (.inr rfl) (.inr rfl) (.inr rfl) (.inr rfl) (.inr rfl) (.inr rfl)
  split
  · with_reducible exact (.inl (by decide))
  · with_reducible exact (.inl (by decide))

theorem State.takeSwitched_frame (s : Sys2Proof.Machine.State) : Frame 1024 s (State.takeSwitched s) := by
  unfold State.takeSwitched
  split
  · with_reducible exact Frame.ite (m := 1024) (Frame.mono (m := 1024) (State.canopySwitched_frame _ _ _) (by decide)) (Frame.refl 1024 _)
  · with_reducible exact Frame.refl 1024 _

theorem State.unanchor_frame (s : Sys2Proof.Machine.State) : Frame 1024 s (State.unanchor s) := by
  unfold State.unanchor
  dsimp only
  simp only [State.mk_make]
  with_reducible exact Frame.up10 (m := 1024) (Frame.refl 1024 _) (by decide)

theorem State.canopyAt_frame (s : Sys2Proof.Machine.State) : Frame 1554 s (State.canopyAt s) := by
  unfold State.canopyAt
  dsimp only
  simp only [State.mk_make]
  with_reducible refine Frame.mk1 (m := 1554) (Frame.ite (m := 1554) (Frame.of (m := 1554) (State.takeSwitched_frame _) (Frame.ite
                   (m := 1554) (Frame.mono (m := 1554) (State.unanchor_frame _) (by decide)) (Frame.refl 1554 _)) (by decide)) (Frame.of (m := 1554)
                   (State.canopyBoundary_frame _) (Frame.of (m := 1554) (State.takeSwitched_frame _) (Frame.ite (m := 1554) (Frame.mono (m := 1554)
                   (State.unanchor_frame _) (by decide)) (Frame.refl 1554 _)) (by decide)) (by decide))) (.inr rfl) (.inr rfl) (.inr rfl) (.inr rfl)
                   (.inr rfl) (.inr rfl) (.inr rfl) (.inr rfl) ?_ (.inr rfl) (.inr rfl) (.inr rfl) (.inr rfl) (.inr rfl) (.inr rfl) (.inr rfl) (.inr rfl)
                   (.inr rfl) (.inr rfl)
  split
  · split
    · with_reducible exact (.inl (by decide))
    · with_reducible exact (.inl (by decide))
  · split
    · with_reducible exact (.inl (by decide))
    · with_reducible exact (.inl (by decide))

end Sys2Proof.Machine
end

