-- ==== Sys2Proof/Laws/Frames5.lean ====
section
/-!
SUPPORT. The frames of operations and commands, part 5.
-/

namespace Sys2Proof.Machine

theorem State.holdBegins_frame (s : Sys2Proof.Machine.State) : Frame 1024 s (State.holdBegins s) := by
  unfold State.holdBegins
  dsimp only
  simp only [State.mk_make]
  with_reducible exact Frame.up10 (m := 1024) (Frame.refl 1024 _) (by decide)

theorem State.setNext_frame (s : Sys2Proof.Machine.State) (a1 : Nat) (a2 : Nat) (a3 : Option (Nat × Nat × Nat)) (a4 : List Sys2Proof.Machine.Prov) (a5 : Nat) : Frame 1024 s (State.setNext s a1 a2 a3 a4 a5) := by
  unfold State.setNext
  dsimp only
  simp only [State.mk_make]
  with_reducible refine Frame.mk1 (m := 1024) (Frame.refl 1024 _) (.inr rfl) (.inr rfl) (.inr rfl) (.inr rfl) (.inr rfl) (.inr rfl)
                   (.inr rfl) (.inr rfl) (.inr rfl) ?_ (.inr rfl) (.inr rfl) (.inr rfl) (.inr rfl) (.inr rfl) (.inr rfl) (.inr rfl) (.inr rfl) (.inr rfl)
  split
  · with_reducible exact (.inl (by decide))
  · split
    · with_reducible exact (.inl (by decide))
    · with_reducible exact (.inl (by decide))

theorem State.setHold_frame (s : Sys2Proof.Machine.State) (a1 : Sys2Proof.Machine.Hold) (a2 : Nat) : Frame 1024 s (State.setHold s a1 a2) := by
  unfold State.setHold
  dsimp only
  simp only [State.mk_make]
  with_reducible refine Frame.of (m := 1024) (State.setNext_frame _ _ _ _ _ _) (Frame.mk1 (m := 1024) (Frame.refl 1024 _) (.inr rfl)
                   (.inr rfl) (.inr rfl) (.inr rfl) (.inr rfl) (.inr rfl) (.inr rfl) (.inr rfl) (.inr rfl) ?_ (.inr rfl) (.inr rfl) (.inr rfl) (.inr rfl)
                   (.inr rfl) (.inr rfl) (.inr rfl) (.inr rfl) (.inr rfl)) (by decide)
  split
  · with_reducible exact (.inl (by decide))
  · with_reducible exact (.inl (by decide))

theorem State.holdNow_frame (s : Sys2Proof.Machine.State) : Frame 1024 s (State.holdNow s) := by
  unfold State.holdNow
  split
  · with_reducible exact Frame.ite (m := 1024) (Frame.refl 1024 _) (Frame.mono (m := 1024) (State.setHold_frame _ _ _) (by decide))
  · with_reducible exact Frame.refl 1024 _

theorem State.enterHoldover_frame (s : Sys2Proof.Machine.State) (a1 : Nat) : Frame 1026 s (State.enterHoldover s a1) := by
  unfold State.enterHoldover
  dsimp only
  simp only [State.mk_make]
  with_reducible exact Frame.of (m := 1026) (State.anchorHold_frame _ _) (Frame.up10 (m := 1026) (Frame.of (m := 1026)
                   (State.startSegment_frame _ _) (Frame.mono (m := 1026) (State.setN_frame _ _ _) (by decide)) (by decide)) (by decide)) (by decide)

theorem State.leaveHoldover_frame (s : Sys2Proof.Machine.State) (a1 : Bool) : Frame 1026 s (State.leaveHoldover s a1) := by
  unfold State.leaveHoldover
  dsimp only
  simp only [State.mk_make]
  split
  · with_reducible exact Frame.refl 1026 _
  · with_reducible refine Frame.of (m := 1026) (State.setO_frame _ _ _) (Frame.mk1 (m := 1026) (Frame.refl 1026 _) (.inr rfl) (.inr rfl)
                     (.inr rfl) (.inr rfl) (.inr rfl) (.inr rfl) (.inr rfl) (.inr rfl) (.inr rfl) ?_ (.inr rfl) (.inr rfl) (.inr rfl) (.inr rfl) (.inr rfl)
                     (.inr rfl) (.inr rfl) (.inr rfl) (.inr rfl)) (by decide)
    split
    · with_reducible exact (.inl (by decide))
    · with_reducible exact (.inl (by decide))

theorem State.replayBoundary_frame (s : Sys2Proof.Machine.State) (a1 : Bool) : Frame 131074 s (State.replayBoundary s a1) := by
  unfold State.replayBoundary
  dsimp only
  simp only [State.mk_make]
  with_reducible exact Frame.ite (m := 131074) (Frame.ite (m := 131074) (Frame.refl 131074 _) (Frame.mono (m := 131074) (State.setO_frame _
                   _ _) (by decide))) (Frame.ite (m := 131074) (Frame.of (m := 131074) (State.showRing_frame _) (Frame.up17 (m := 131074) (Frame.mono
                   (m := 131074) (State.setO_frame _ _ _) (by decide)) (by decide)) (by decide)) (Frame.refl 131074 _))

theorem State.selectBoundary_frame (s : Sys2Proof.Machine.State) : Frame 514 s (State.selectBoundary s) := by
  unfold State.selectBoundary
  dsimp only
  simp only [State.mk_make]
  with_reducible exact Frame.ite (m := 514) (Frame.refl 514 _) (Frame.up9 (m := 514) (Frame.of (m := 514) (State.inc_frame _ _) (Frame.of
                   (m := 514) (State.setN_frame _ _ _) (Frame.mono (m := 514) (State.setO_frame _ _ _) (by decide)) (by decide)) (by decide)) (by decide))

theorem State.requalify_frame (s : Sys2Proof.Machine.State) : Frame 1538 s (State.requalify s) := by
  unfold State.requalify
  dsimp only
  simp only [State.mk_make]
  with_reducible exact Frame.of (m := 1538) (State.selectBoundary_frame _) (Frame.mk1 (m := 1538) (Frame.foldl (m := 1538) (fun _ => fun _
                   => Frame.mono (m := 1538) (State.declare_frame _ _ _) (by decide)) (Frame.foldl (m := 1538) (fun _ => fun _ => Frame.ite (m := 1538)
                   (Frame.refl 1538 _) (Frame.of (m := 1538) (State.refEnter_frame _ _ _) (Frame.mono (m := 1538) (State.setRef_frame _ _ _) (by decide))
                   (by decide))) (Frame.refl 1538 _))) (.inr rfl) (.inr rfl) (.inr rfl) (.inr rfl) (.inr rfl) (.inr rfl) (.inr rfl) (.inr rfl) (.inl
                   (by decide)) (.inl (by decide)) (.inr rfl) (.inr rfl) (.inr rfl) (.inr rfl) (.inr rfl) (.inr rfl) (.inr rfl) (.inr rfl) (.inr rfl))
                   (by decide)

theorem State.replayEnter_frame (s : Sys2Proof.Machine.State) : Frame 132882 s (State.replayEnter s) := by
  unfold State.replayEnter
  dsimp only
  simp only [State.mk_make]
  with_reducible exact Frame.of (m := 132882) (State.replayBoundary_frame _ _) (Frame.mk1 (m := 132882) (Frame.of (m := 132882)
                   (State.setO_frame _ _ _) (Frame.of (m := 132882) (State.setF_frame _ _ _) (Frame.of (m := 132882) (State.requalify_frame _) (Frame.mono
                   (m := 132882) (State.linksDown_frame _) (by decide)) (by decide)) (by decide)) (by decide)) (.inr rfl) (.inr rfl) (.inr rfl) (.inl
                   (by decide)) (.inr rfl) (.inr rfl) (.inr rfl) (.inr rfl) (.inr rfl) (.inl (by decide)) (.inr rfl) (.inr rfl) (.inr rfl) (.inr rfl)
                   (.inr rfl) (.inr rfl) (.inl (by decide)) (.inr rfl) (.inr rfl)) (by decide)

theorem State.replayEnd_frame (s : Sys2Proof.Machine.State) (a1 : Nat) (a2 : Nat) : Frame 2 s (State.replayEnd s a1 a2) := by
  unfold State.replayEnd
  with_reducible exact Frame.of (m := 2) (State.setN_frame _ _ _) (Frame.mono (m := 2) (State.setN_frame _ _ _) (by decide)) (by decide)

theorem State.replayLeave_frame (s : Sys2Proof.Machine.State) : Frame 132626 s (State.replayLeave s) := by
  unfold State.replayLeave
  dsimp only
  simp only [State.mk_make]
  with_reducible refine Frame.of (m := 132626) (State.formKeyframe_frame _) (Frame.of (m := 132626) (State.requalify_frame _) (Frame.of
                   (m := 132626) (State.setO_frame _ _ _) (Frame.mk1 (m := 132626) (Frame.ite (m := 132626) (Frame.mono (m := 132626) (State.setO_frame _ _
                   _) (by decide)) (Frame.mono (m := 132626) (State.replayEnd_frame _ _ _) (by decide))) (.inr rfl) (.inr rfl) (.inr rfl) (.inr rfl)
                   (.inr rfl) (.inr rfl) (.inr rfl) (.inr rfl) (.inr rfl) (.inr rfl) (.inr rfl) (.inr rfl) (.inr rfl) (.inr rfl) (.inr rfl) (.inr rfl) ?_
                   (.inr rfl) (.inr rfl)) (by decide)) (by decide)) (by decide)
  split
  · with_reducible exact (.inl (by decide))
  · with_reducible exact (.inl (by decide))

theorem State.enterMode_frame (s : Sys2Proof.Machine.State) (a1 : Int) (a2 : Nat) : Frame 157522 s (State.enterMode s a1 a2) := by
  unfold State.enterMode
  dsimp only
  with_reducible exact Frame.ite (m := 157522) (Frame.of (m := 157522) (State.enterHoldover_frame _ _) (Frame.of (m := 157522)
                   (State.changeMode_frame _ _) (Frame.ite (m := 157522) (Frame.mono (m := 157522) (State.leaveHoldover_frame _ _) (by decide)) (Frame.refl
                   157522 _)) (by decide)) (by decide)) (Frame.ite (m := 157522) (Frame.of (m := 157522) (State.recoveryRemask_frame _) (Frame.of
                   (m := 157522) (State.replayEnter_frame _) (Frame.of (m := 157522) (State.linksDown_frame _) (Frame.of (m := 157522)
                   (State.changeMode_frame _ _) (Frame.ite (m := 157522) (Frame.mono (m := 157522) (State.leaveHoldover_frame _ _) (by decide)) (Frame.refl
                   157522 _)) (by decide)) (by decide)) (by decide)) (by decide)) (Frame.ite (m := 157522) (Frame.of (m := 157522) (State.replayLeave_frame
                   _) (Frame.of (m := 157522) (State.changeMode_frame _ _) (Frame.ite (m := 157522) (Frame.mono (m := 157522) (State.leaveHoldover_frame _ _)
                   (by decide)) (Frame.refl 157522 _)) (by decide)) (by decide)) (Frame.of (m := 157522) (State.changeMode_frame _ _) (Frame.ite
                   (m := 157522) (Frame.mono (m := 157522) (State.leaveHoldover_frame _ _) (by decide)) (Frame.refl 157522 _)) (by decide))))

theorem State.judgeMode_frame (s : Sys2Proof.Machine.State) (a1 : Nat) : Frame 157522 s (State.judgeMode s a1) := by
  unfold State.judgeMode
  dsimp only
  simp only [State.mk_make]
  split
  · with_reducible exact Frame.of (m := 157522) (State.enterMode_frame _ _ _) (Frame.ite (m := 157522) (Frame.up4 (m := 157522) (Frame.refl
                     157522 _) (by decide)) (Frame.ite (m := 157522) (Frame.of (m := 157522) (State.setN_frame _ _ _) (Frame.up4 (m := 157522) (Frame.refl
                     157522 _) (by decide)) (by decide)) (Frame.of (m := 157522) (State.inc_frame _ _) (Frame.of (m := 157522) (State.setN_frame _ _ _)
                     (Frame.up4 (m := 157522) (Frame.refl 157522 _) (by decide)) (by decide)) (by decide)))) (by decide)
  · with_reducible exact Frame.ite (m := 157522) (Frame.of (m := 157522) (State.enterMode_frame _ _ _) (Frame.ite (m := 157522) (Frame.up4
                     (m := 157522) (Frame.refl 157522 _) (by decide)) (Frame.ite (m := 157522) (Frame.of (m := 157522) (State.setN_frame _ _ _) (Frame.up4
                     (m := 157522) (Frame.refl 157522 _) (by decide)) (by decide)) (Frame.of (m := 157522) (State.inc_frame _ _) (Frame.of (m := 157522)
                     (State.setN_frame _ _ _) (Frame.up4 (m := 157522) (Frame.refl 157522 _) (by decide)) (by decide)) (by decide)))) (by decide)) (Frame.ite
                     (m := 157522) (Frame.up4 (m := 157522) (Frame.refl 157522 _) (by decide)) (Frame.ite (m := 157522) (Frame.of (m := 157522)
                     (State.setN_frame _ _ _) (Frame.up4 (m := 157522) (Frame.refl 157522 _) (by decide)) (by decide)) (Frame.of (m := 157522)
                     (State.inc_frame _ _) (Frame.of (m := 157522) (State.setN_frame _ _ _) (Frame.up4 (m := 157522) (Frame.refl 157522 _) (by decide))
                     (by decide)) (by decide))))

theorem State.loCheck_frame (s : Sys2Proof.Machine.State) : Frame 18 s (State.loCheck s) := by
  unfold State.loCheck
  dsimp only
  simp only [State.mk_make]
  with_reducible refine Frame.mk1 (m := 18) (Frame.ite (m := 18) (Frame.mono (m := 18) (State.inc_frame _ _) (by decide)) (Frame.refl 18 _))
                   (.inr rfl) (.inr rfl) (.inr rfl) ?_ (.inr rfl) (.inr rfl) (.inr rfl) (.inr rfl) (.inr rfl) (.inr rfl) (.inr rfl) (.inr rfl) (.inr rfl)
                   (.inr rfl) (.inr rfl) (.inr rfl) (.inr rfl) (.inr rfl) (.inr rfl)
  split
  · with_reducible exact (.inl (by decide))
  · with_reducible exact (.inl (by decide))

theorem State.noteMoved_frame (s : Sys2Proof.Machine.State) : Frame 512 s (State.noteMoved s) := by
  unfold State.noteMoved
  dsimp only
  simp only [State.mk_make]
  with_reducible refine Frame.mk1 (m := 512) (Frame.refl 512 _) (.inr rfl) (.inr rfl) (.inr rfl) (.inr rfl) (.inr rfl) (.inr rfl) (.inr rfl)
                   (.inr rfl) ?_ (.inr rfl) (.inr rfl) (.inr rfl) (.inr rfl) (.inr rfl) (.inr rfl) (.inr rfl) (.inr rfl) (.inr rfl) (.inr rfl)
  split
  · split
    · split
      · with_reducible exact (.inl (by decide))
      · with_reducible exact (.inl (by decide))
    · with_reducible exact (.inl (by decide))
  · with_reducible exact (.inl (by decide))

theorem State.canopyStepped_frame (s : Sys2Proof.Machine.State) (a1 : Int) (a2 : Bool) : Frame 1024 s (State.canopyStepped s a1 a2) := by
  unfold State.canopyStepped
  dsimp only
  simp only [State.mk_make]
  with_reducible refine Frame.mk1 (m := 1024) (Frame.refl 1024 _) (.inr rfl) (.inr rfl) (.inr rfl) (.inr rfl) (.inr rfl) (.inr rfl)
                   (.inr rfl) (.inr rfl) (.inr rfl) ?_ (.inr rfl) (.inr rfl) (.inr rfl) (.inr rfl) (.inr rfl) (.inr rfl) (.inr rfl) (.inr rfl) (.inr rfl)
  split
  · with_reducible exact (.inl (by decide))
  · with_reducible exact (.inl (by decide))

theorem State.pulseStepped_frame (s : Sys2Proof.Machine.State) (a1 : Nat) (a2 : Int) : Frame 512 s (State.pulseStepped s a1 a2) := by
  unfold State.pulseStepped
  dsimp only
  with_reducible exact Frame.mono (m := 512) (State.setOut_frame _ _ _) (by decide)

theorem State.outsStepped_frame (s : Sys2Proof.Machine.State) (a1 : Int) : Frame 514 s (State.outsStepped s a1) := by
  unfold State.outsStepped
  dsimp only
  with_reducible exact Frame.foldl (m := 514) (fun _ => fun _ => Frame.ite (m := 514) (Frame.mono (m := 514) (State.slewOut_frame _ _ _)
                   (by decide)) (Frame.refl 514 _)) (Frame.foldl (m := 514) (fun _ => fun _ => Frame.mono (m := 514) (State.pulseStepped_frame _ _ _)
                   (by decide)) (Frame.refl 514 _))

theorem State.refsStepped_frame (s : Sys2Proof.Machine.State) (a1 : Int) : Frame 512 s (State.refsStepped s a1) := by
  unfold State.refsStepped
  dsimp only
  simp only [State.mk_make]
  with_reducible exact Frame.foldl (m := 512) (fun _ => fun _ => Frame.ite (m := 512) (Frame.refl 512 _) (Frame.mono (m := 512)
                   (State.setRef_frame _ _ _) (by decide))) (Frame.up9 (m := 512) (Frame.refl 512 _) (by decide))

theorem State.realigned_frame (s : Sys2Proof.Machine.State) : Frame 1538 s (State.realigned s) := by
  unfold State.realigned
  with_reducible exact Frame.ite (m := 1538) (Frame.of (m := 1538) (State.outsStepped_frame _ _) (Frame.of (m := 1538)
                   (State.canopyStepped_frame _ _ _) (Frame.mono (m := 1538) (State.refsStepped_frame _ _) (by decide)) (by decide)) (by decide)) (Frame.refl
                   1538 _)

theorem State.ppsBoundary_frame (s : Sys2Proof.Machine.State) (a1 : Nat) : Frame 514 s (State.ppsBoundary s a1) := by
  unfold State.ppsBoundary
  dsimp only
  with_reducible refine Frame.ite (m := 514) (Frame.refl 514 _) ?_
  split
  · with_reducible refine Frame.ite (m := 514) (Frame.of (m := 514) (State.refArrive_frame _ _) (Frame.of (m := 514) (State.setRef_frame _ _
                     _) ?_ (by decide)) (by decide)) ?_
    · split
      · with_reducible exact Frame.ite (m := 514) (Frame.mono (m := 514) (State.ppsNoMessage_frame _ _) (by decide)) (Frame.refl 514 _)
      · with_reducible exact Frame.refl 514 _
    · split
      · with_reducible exact Frame.ite (m := 514) (Frame.mono (m := 514) (State.ppsNoMessage_frame _ _) (by decide)) (Frame.refl 514 _)
      · with_reducible exact Frame.refl 514 _
  · split
    · with_reducible exact Frame.ite (m := 514) (Frame.mono (m := 514) (State.ppsNoMessage_frame _ _) (by decide)) (Frame.refl 514 _)
    · with_reducible exact Frame.refl 514 _

theorem State.refBoundaryT_frame (s : Sys2Proof.Machine.State) (a1 : Nat) : Frame 514 s (State.refBoundaryT s a1) := by
  unfold State.refBoundaryT
  dsimp only
  with_reducible exact Frame.ite (m := 514) (Frame.refl 514 _) (Frame.ite (m := 514) (Frame.of (m := 514) (State.setN_frame _ _ _)
                   (Frame.ite (m := 514) (Frame.ite (m := 514) (Frame.of (m := 514) (State.refEnter_frame _ _ _) (Frame.of (m := 514) (State.setRef_frame _ _
                   _) (Frame.mono (m := 514) (State.setRef_frame _ _ _) (by decide)) (by decide)) (by decide)) (Frame.mono (m := 514) (State.setRef_frame _ _
                   _) (by decide))) (Frame.ite (m := 514) (Frame.of (m := 514) (State.refEnter_frame _ _ _) (Frame.mono (m := 514) (State.setRef_frame _ _ _)
                   (by decide)) (by decide)) (Frame.ite (m := 514) (Frame.ite (m := 514) (Frame.of (m := 514) (State.refEnter_frame _ _ _) (Frame.of
                   (m := 514) (State.setRef_frame _ _ _) (Frame.mono (m := 514) (State.setRef_frame _ _ _) (by decide)) (by decide)) (by decide)) (Frame.mono
                   (m := 514) (State.setRef_frame _ _ _) (by decide))) (Frame.mono (m := 514) (State.setRef_frame _ _ _) (by decide))))) (by decide))
                   (Frame.of (m := 514) (State.setO_frame _ _ _) (Frame.ite (m := 514) (Frame.ite (m := 514) (Frame.of (m := 514) (State.refEnter_frame _ _
                   _) (Frame.of (m := 514) (State.setRef_frame _ _ _) (Frame.mono (m := 514) (State.setRef_frame _ _ _) (by decide)) (by decide))
                   (by decide)) (Frame.mono (m := 514) (State.setRef_frame _ _ _) (by decide))) (Frame.ite (m := 514) (Frame.of (m := 514)
                   (State.refEnter_frame _ _ _) (Frame.mono (m := 514) (State.setRef_frame _ _ _) (by decide)) (by decide)) (Frame.ite (m := 514) (Frame.ite
                   (m := 514) (Frame.of (m := 514) (State.refEnter_frame _ _ _) (Frame.of (m := 514) (State.setRef_frame _ _ _) (Frame.mono (m := 514)
                   (State.setRef_frame _ _ _) (by decide)) (by decide)) (by decide)) (Frame.mono (m := 514) (State.setRef_frame _ _ _) (by decide)))
                   (Frame.mono (m := 514) (State.setRef_frame _ _ _) (by decide))))) (by decide)))

theorem State.refIngest_frame (s : Sys2Proof.Machine.State) (a1 : Sys2Proof.Machine.RefObs) : Frame 514 s (State.refIngest s a1) := by
  unfold State.refIngest
  dsimp only
  simp only [State.mk_make]
  with_reducible refine Frame.ite (m := 514) (Frame.refl 514 _) ?_
  split
  · with_reducible refine Frame.ite (m := 514) (Frame.mono (m := 514) (State.setRef_frame _ _ _) (by decide)) (Frame.mk1 (m := 514)
                     (Frame.of (m := 514) (State.setN_frame _ _ _) (Frame.of (m := 514) (State.setN_frame _ _ _) (Frame.mono (m := 514) (State.setRef_frame _
                     _ _) (by decide)) (by decide)) (by decide)) (.inr rfl) (.inr rfl) (.inr rfl) (.inr rfl) (.inr rfl) (.inr rfl) (.inr rfl) (.inr rfl) ?_
                     (.inr rfl) (.inr rfl) (.inr rfl) (.inr rfl) (.inr rfl) (.inr rfl) (.inr rfl) (.inr rfl) (.inr rfl) (.inr rfl))
    split
    · split
      · with_reducible exact (.inl (by decide))
      · with_reducible exact (.inl (by decide))
      · with_reducible exact (.inl (by decide))
    · split
      · split
        · with_reducible exact (.inl (by decide))
        · with_reducible exact (.inl (by decide))
        · with_reducible exact (.inl (by decide))
      · split
        · with_reducible exact (.inl (by decide))
        · with_reducible exact (.inl (by decide))
        · with_reducible exact (.inl (by decide))
  · with_reducible exact Frame.mono (m := 514) (State.setRef_frame _ _ _) (by decide)

theorem State.silentBoundary_frame (s : Sys2Proof.Machine.State) (a1 : Nat) : Frame 512 s (State.silentBoundary s a1) := by
  unfold State.silentBoundary
  dsimp only
  with_reducible exact Frame.ite (m := 512) (Frame.refl 512 _) (Frame.ite (m := 512) (Frame.mono (m := 512) (State.refArrive_frame _ _)
                   (by decide)) (Frame.refl 512 _))

theorem State.refsBoundary_frame (s : Sys2Proof.Machine.State) : Frame 514 s (State.refsBoundary s) := by
  unfold State.refsBoundary
  dsimp only
  simp only [State.mk_make]
  with_reducible exact Frame.of (m := 514) (State.selectBoundary_frame _) (Frame.foldl (m := 514) (fun _ => fun _ => Frame.mono (m := 514)
                   (State.silentBoundary_frame _ _) (by decide)) (Frame.foldl (m := 514) (fun _ => fun _ => Frame.mono (m := 514) (State.ppsBoundary_frame _
                   _) (by decide)) (Frame.foldl (m := 514) (fun _ => fun _ => Frame.mono (m := 514) (State.refIngest_frame _ _) (by decide)) (Frame.up9
                   (m := 514) (Frame.foldl (m := 514) (fun _ => fun _ => Frame.mono (m := 514) (State.refBoundaryF_frame _ _) (by decide)) (Frame.foldl
                   (m := 514) (fun _ => fun _ => Frame.mono (m := 514) (State.refBoundaryT_frame _ _) (by decide)) (Frame.refl 514 _))) (by decide)))))
                   (by decide)

theorem State.refsAt_frame (s : Sys2Proof.Machine.State) : Frame 514 s (State.refsAt s) := by
  unfold State.refsAt
  dsimp only
  simp only [State.mk_make]
  with_reducible exact Frame.ite (m := 514) (Frame.up9 (m := 514) (Frame.foldl (m := 514) (fun _ => fun _ => Frame.mono (m := 514)
                   (State.refBoundaryF_frame _ _) (by decide)) (Frame.refl 514 _)) (by decide)) (Frame.mono (m := 514) (State.refsBoundary_frame _)
                   (by decide))

theorem State.openGate_frame (s : Sys2Proof.Machine.State) (a1 : Nat) : Frame 128 s (State.openGate s a1) := by
  unfold State.openGate
  dsimp only
  with_reducible exact Frame.mono (m := 128) (State.setPort_frame _ _ _) (by decide)

theorem State.portBoundary_frame (a0 : Int) (a1 : Bool) (a2 : Int) (s : Sys2Proof.Machine.State) (a4 : Nat) : Frame 128 s (State.portBoundary a0 a1 a2 s a4) := by
  unfold State.portBoundary
  dsimp only
  with_reducible exact Frame.ite (m := 128) (Frame.refl 128 _) (Frame.mono (m := 128) (State.setPort_frame _ _ _) (by decide))

theorem State.slidingFit_frame (s : Sys2Proof.Machine.State) (a1 : Nat) : Frame 128 s (State.slidingFit s a1) := by
  unfold State.slidingFit
  dsimp only
  with_reducible refine Frame.ite (m := 128) (Frame.refl 128 _) ?_
  split
  · with_reducible exact Frame.refl 128 _
  · split
    · with_reducible exact Frame.refl 128 _
    · with_reducible exact Frame.ite (m := 128) (Frame.refl 128 _) (Frame.mono (m := 128) (State.setPort_frame _ _ _) (by decide))

theorem State.markRecal_frame (s : Sys2Proof.Machine.State) (a1 : Nat) : Frame 128 s (State.markRecal s a1) := by
  unfold State.markRecal
  dsimp only
  with_reducible exact Frame.ite (m := 128) (Frame.mono (m := 128) (State.setStamper_frame _ _ _) (by decide)) (Frame.refl 128 _)

theorem State.stamperBoundary_frame (s : Sys2Proof.Machine.State) (a1 : Nat) : Frame 130 s (State.stamperBoundary s a1) := by
  unfold State.stamperBoundary
  dsimp only
  with_reducible exact Frame.ite (m := 130) (Frame.ite (m := 130) (Frame.mono (m := 130) (State.setStState_frame _ _ _) (by decide))
                   (Frame.refl 130 _)) (Frame.ite (m := 130) (Frame.ite (m := 130) (Frame.of (m := 130) (State.setPort_frame _ _ _) (Frame.of (m := 130)
                   (State.setStamper_frame _ _ _) (Frame.mono (m := 130) (State.setStState_frame _ _ _) (by decide)) (by decide)) (by decide)) (Frame.refl
                   130 _)) (Frame.mono (m := 130) (State.markRecal_frame _ _) (by decide)))

theorem State.stampBoundary_frame (s : Sys2Proof.Machine.State) (a1 : Int) (a2 : Int) : Frame 130 s (State.stampBoundary s a1 a2) := by
  unfold State.stampBoundary
  dsimp only
  simp only [State.mk_make]
  with_reducible exact Frame.foldl (m := 130) (fun _ => fun _ => Frame.mono (m := 130) (State.slidingFit_frame _ _) (by decide))
                   (Frame.foldl (m := 130) (fun _ => fun _ => Frame.ite (m := 130) (Frame.mono (m := 130) (State.openGate_frame _ _) (by decide)) (Frame.refl
                   130 _)) (Frame.foldl (m := 130) (fun _ => fun _ => Frame.mono (m := 130) (State.stamperBoundary_frame _ _) (by decide)) (Frame.ite
                   (m := 130) (Frame.foldl (m := 130) (fun _ => fun _ => Frame.mono (m := 130) (State.closeGate_frame _ _) (by decide)) (Frame.foldl
                   (m := 130) (fun _ => fun _ => Frame.mono (m := 130) (State.portBoundary_frame _ _ _ _ _) (by decide)) (Frame.up7 (m := 130) (Frame.refl
                   130 _) (by decide)))) (Frame.foldl (m := 130) (fun _ => fun _ => Frame.mono (m := 130) (State.portBoundary_frame _ _ _ _ _) (by decide))
                   (Frame.up7 (m := 130) (Frame.refl 130 _) (by decide))))))

theorem State.stepBoundary_frame (s : Sys2Proof.Machine.State) : Frame 1538 s (State.stepBoundary s).1 := by
  unfold State.stepBoundary
  dsimp only
  simp only [State.mk_make]
  split
  · with_reducible exact Frame.mono (m := 1538) (State.setO_frame _ _ _) (by decide)
  · split
    · with_reducible refine Frame.iteFst (m := 1538) ?_ (Frame.mono (m := 1538) (State.setN_frame _ _ _) (by decide))
      split
      · with_reducible exact Frame.mk1 (m := 1538) (Frame.mono (m := 1538) (State.setO_frame _ _ _) (by decide)) (.inr rfl) (.inr rfl)
                         (.inr rfl) (.inr rfl) (.inr rfl) (.inr rfl) (.inr rfl) (.inr rfl) (.inl (by decide)) (.inl (by decide)) (.inr rfl) (.inr rfl)
                         (.inr rfl) (.inr rfl) (.inr rfl) (.inr rfl) (.inr rfl) (.inr rfl) (.inr rfl)
      · with_reducible exact Frame.up9 (m := 1538) (Frame.mono (m := 1538) (State.setO_frame _ _ _) (by decide)) (by decide)
    · with_reducible exact Frame.mono (m := 1538) (State.setO_frame _ _ _) (by decide)
    · with_reducible exact Frame.iteFst (m := 1538) (Frame.up9 (m := 1538) (Frame.mono (m := 1538) (State.setN_frame _ _ _) (by decide))
                       (by decide)) (Frame.up9 (m := 1538) (Frame.mono (m := 1538) (State.setO_frame _ _ _) (by decide)) (by decide))
    · with_reducible exact Frame.iteFst (m := 1538) (Frame.up9 (m := 1538) (Frame.mono (m := 1538) (State.setO_frame _ _ _) (by decide))
                       (by decide)) (Frame.mono (m := 1538) (State.setN_frame _ _ _) (by decide))

theorem State.tickBegins_frame (s : Sys2Proof.Machine.State) (a1 : Nat) : Frame 157654 s (State.tickBegins s a1) := by
  unfold State.tickBegins
  dsimp only
  split
  · with_reducible exact Frame.of (m := 157654) (State.inForce_frame _ _) (Frame.of (m := 157654) (State.holdBegins_frame _) (Frame.of
                     (m := 157654) (State.holdNow_frame _) (Frame.ite (m := 157654) (Frame.of (m := 157654) (State.replayBoundary_frame _ _) (Frame.of
                     (m := 157654) (State.basisBoundary_frame _) (Frame.of (m := 157654) (State.judgeMode_frame _ _) (Frame.of (m := 157654)
                     (State.canopyAt_frame _) (Frame.of (m := 157654) (State.loCheck_frame _) (Frame.of (m := 157654) (State.realigned_frame _) (Frame.of
                     (m := 157654) (State.refsAt_frame _) (Frame.of (m := 157654) (State.noteMoved_frame _) (Frame.of (m := 157654)
                     (State.stampBoundary_frame _ _ _) (Frame.of (m := 157654) (State.advance_frame _ _) (Frame.mono (m := 157654) (State.stepBoundary_frame
                     _) (by decide)) (by decide)) (by decide)) (by decide)) (by decide)) (by decide)) (by decide)) (by decide)) (by decide)) (by decide))
                     (by decide)) (Frame.of (m := 157654) (State.basisBoundary_frame _) (Frame.of (m := 157654) (State.judgeMode_frame _ _) (Frame.of
                     (m := 157654) (State.canopyAt_frame _) (Frame.of (m := 157654) (State.loCheck_frame _) (Frame.of (m := 157654) (State.realigned_frame _)
                     (Frame.of (m := 157654) (State.refsAt_frame _) (Frame.of (m := 157654) (State.noteMoved_frame _) (Frame.of (m := 157654)
                     (State.stampBoundary_frame _ _ _) (Frame.of (m := 157654) (State.advance_frame _ _) (Frame.mono (m := 157654) (State.stepBoundary_frame
                     _) (by decide)) (by decide)) (by decide)) (by decide)) (by decide)) (by decide)) (by decide)) (by decide)) (by decide)) (by decide)))
                     (by decide)) (by decide)) (by decide)
  · with_reducible exact Frame.ite (m := 157654) (Frame.of (m := 157654) (State.replayBoundary_frame _ _) (Frame.of (m := 157654)
                     (State.basisBoundary_frame _) (Frame.of (m := 157654) (State.judgeMode_frame _ _) (Frame.of (m := 157654) (State.canopyAt_frame _)
                     (Frame.of (m := 157654) (State.loCheck_frame _) (Frame.of (m := 157654) (State.realigned_frame _) (Frame.of (m := 157654)
                     (State.refsAt_frame _) (Frame.of (m := 157654) (State.noteMoved_frame _) (Frame.of (m := 157654) (State.stampBoundary_frame _ _ _)
                     (Frame.of (m := 157654) (State.advance_frame _ _) (Frame.mono (m := 157654) (State.stepBoundary_frame _) (by decide)) (by decide))
                     (by decide)) (by decide)) (by decide)) (by decide)) (by decide)) (by decide)) (by decide)) (by decide)) (by decide)) (Frame.of
                     (m := 157654) (State.basisBoundary_frame _) (Frame.of (m := 157654) (State.judgeMode_frame _ _) (Frame.of (m := 157654)
                     (State.canopyAt_frame _) (Frame.of (m := 157654) (State.loCheck_frame _) (Frame.of (m := 157654) (State.realigned_frame _) (Frame.of
                     (m := 157654) (State.refsAt_frame _) (Frame.of (m := 157654) (State.noteMoved_frame _) (Frame.of (m := 157654)
                     (State.stampBoundary_frame _ _ _) (Frame.of (m := 157654) (State.advance_frame _ _) (Frame.mono (m := 157654) (State.stepBoundary_frame
                     _) (by decide)) (by decide)) (by decide)) (by decide)) (by decide)) (by decide)) (by decide)) (by decide)) (by decide)) (by decide))

theorem State.setClient_frame (s : Sys2Proof.Machine.State) (a1 : Nat) (a2 : Sys2Proof.Machine.Client) : Frame 4096 s (State.setClient s a1 a2) := by
  unfold State.setClient
  dsimp only
  simp only [State.mk_make]
  with_reducible exact Frame.up12 (m := 4096) (Frame.refl 4096 _) (by decide)

theorem State.clientEnter_frame (s : Sys2Proof.Machine.State) (a1 : Nat) (a2 : Nat) : Frame 4098 s (State.clientEnter s a1 a2) := by
  unfold State.clientEnter
  dsimp only
  with_reducible exact Frame.of (m := 4098) (State.setClient_frame _ _ _) (Frame.mono (m := 4098) (State.setN_frame _ _ _) (by decide))
                   (by decide)

theorem State.clientsBoundary_frame (s : Sys2Proof.Machine.State) : Frame 4098 s (State.clientsBoundary s) := by
  unfold State.clientsBoundary
  with_reducible exact Frame.foldl (m := 4098) (fun _ => fun _ => Frame.ite (m := 4098) (Frame.ite (m := 4098) (Frame.mono (m := 4098)
                   (State.clientEnter_frame _ _ _) (by decide)) (Frame.refl 4098 _)) (Frame.ite (m := 4098) (Frame.mono (m := 4098) (State.clientEnter_frame
                   _ _ _) (by decide)) (Frame.refl 4098 _))) (Frame.refl 4098 _)

theorem State.dropLate_frame (s : Sys2Proof.Machine.State) : Frame 2050 s (State.dropLate s) := by
  unfold State.dropLate
  dsimp only
  with_reducible exact Frame.foldl (m := 2050) (fun _ => fun _ => Frame.ite (m := 2050) (Frame.refl 2050 _) (Frame.of (m := 2050)
                   (State.addN_frame _ _ _) (Frame.of (m := 2050) (State.addN_frame _ _ _) (Frame.mono (m := 2050) (State.setMac_frame _ _ _) (by decide))
                   (by decide)) (by decide))) (Frame.refl 2050 _)

theorem State.gladeBoundary_frame (s : Sys2Proof.Machine.State) : Frame 258 s (State.gladeBoundary s) := by
  unfold State.gladeBoundary
  dsimp only
  simp only [State.mk_make]
  with_reducible exact Frame.ite (m := 258) (Frame.ite (m := 258) (Frame.up8 (m := 258) (Frame.mono (m := 258) (State.setO_frame _ _ _)
                   (by decide)) (by decide)) (Frame.refl 258 _)) (Frame.ite (m := 258) (Frame.refl 258 _) (Frame.mono (m := 258) (State.gladeOff_frame _)
                   (by decide)))

theorem State.countEngines_frame (s : Sys2Proof.Machine.State) (a1 : Nat) : Frame 2 s (State.countEngines s a1) := by
  unfold State.countEngines
  with_reducible exact Frame.mono (m := 2) (State.setN_frame _ _ _) (by decide)

theorem State.groveStop_frame (s : Sys2Proof.Machine.State) (a1 : Nat) : Frame 36866 s (State.groveStop s a1) := by
  unfold State.groveStop
  dsimp only
  simp only [State.mk_make]
  with_reducible exact Frame.mk1 (m := 36866) (Frame.of (m := 36866) (State.countEngines_frame _ _) (Frame.of (m := 36866) (State.setO_frame
                   _ _ _) (Frame.of (m := 36866) (State.setF_frame _ _ _) (Frame.foldl (m := 36866) (fun _ => fun _ => Frame.of (m := 36866)
                   (State.setO_frame _ _ _) (Frame.mono (m := 36866) (State.setO_frame _ _ _) (by decide)) (by decide)) (Frame.refl 36866 _)) (by decide))
                   (by decide)) (by decide)) (.inr rfl) (.inr rfl) (.inr rfl) (.inr rfl) (.inr rfl) (.inr rfl) (.inr rfl) (.inr rfl) (.inr rfl) (.inr rfl)
                   (.inr rfl) (.inl (by decide)) (.inr rfl) (.inr rfl) (.inl (by decide)) (.inr rfl) (.inr rfl) (.inr rfl) (.inr rfl)

theorem State.grovesOut_frame (s : Sys2Proof.Machine.State) : Frame 36930 s (State.grovesOut s) := by
  unfold State.grovesOut
  dsimp only
  simp only [State.mk_make]
  with_reducible exact Frame.foldl (m := 36930) (fun _ => fun _ => Frame.ite (m := 36930) (Frame.refl 36930 _) (Frame.up6 (m := 36930)
                   (Frame.of (m := 36930) (State.setO_frame _ _ _) (Frame.mono (m := 36930) (State.groveStop_frame _ _) (by decide)) (by decide))
                   (by decide))) (Frame.up6 (m := 36930) (Frame.refl 36930 _) (by decide))

theorem State.grovesReady_frame (s : Sys2Proof.Machine.State) : Frame 32786 s (State.grovesReady s) := by
  unfold State.grovesReady
  dsimp only
  simp only [State.mk_make]
  with_reducible exact Frame.foldl (m := 32786) (fun _ => fun _ => Frame.ite (m := 32786) (Frame.refl 32786 _) (Frame.ite (m := 32786)
                   (Frame.up4 (m := 32786) (Frame.of (m := 32786) (State.setO_frame _ _ _) (Frame.of (m := 32786) (State.countEngines_frame _ _) (Frame.foldl
                   (m := 32786) (fun _ => fun _ => Frame.ite (m := 32786) (Frame.of (m := 32786) (State.setN_frame _ _ _) (Frame.mono (m := 32786)
                   (State.setO_frame _ _ _) (by decide)) (by decide)) (Frame.of (m := 32786) (State.setF_frame _ _ _) (Frame.mono (m := 32786)
                   (State.setO_frame _ _ _) (by decide)) (by decide))) (Frame.refl 32786 _)) (by decide)) (by decide)) (by decide)) (Frame.of (m := 32786)
                   (State.setO_frame _ _ _) (Frame.of (m := 32786) (State.countEngines_frame _ _) (Frame.foldl (m := 32786) (fun _ => fun _ => Frame.ite
                   (m := 32786) (Frame.of (m := 32786) (State.setN_frame _ _ _) (Frame.mono (m := 32786) (State.setO_frame _ _ _) (by decide)) (by decide))
                   (Frame.of (m := 32786) (State.setF_frame _ _ _) (Frame.mono (m := 32786) (State.setO_frame _ _ _) (by decide)) (by decide))) (Frame.refl
                   32786 _)) (by decide)) (by decide)))) (Frame.up15 (m := 32786) (Frame.refl 32786 _) (by decide))

theorem State.rotateKeys_frame (s : Sys2Proof.Machine.State) (a1 : Sys2Proof.Octets) : Frame 290822 s (State.rotateKeys s a1) := by
  unfold State.rotateKeys
  dsimp only
  simp only [State.mk_make]
  with_reducible refine Frame.of (m := 290822) (State.hostEvent_frame _ _) (Frame.of (m := 290822) (State.showKeys_frame _) (Frame.of
                   (m := 290822) (State.inc_frame _ _) (Frame.mk1 (m := 290822) (Frame.refl 290822 _) (.inr rfl) (.inr rfl) (.inr rfl) (.inr rfl) (.inr rfl)
                   (.inr rfl) (.inr rfl) (.inr rfl) (.inr rfl) (.inr rfl) (.inr rfl) ?_ (.inr rfl) (.inr rfl) (.inr rfl) (.inr rfl) (.inr rfl) (.inl
                   (by decide)) (.inr rfl)) (by decide)) (by decide)) (by decide)
  split
  · split
    · with_reducible exact (.inl (by decide))
    · with_reducible exact (.inl (by decide))
  · split
    · with_reducible exact (.inl (by decide))
    · with_reducible exact (.inl (by decide))

theorem State.keyRotation_frame (s : Sys2Proof.Machine.State) : Frame 356374 s (State.keyRotation s) := by
  unfold State.keyRotation
  dsimp only
  simp only [State.mk_make]
  with_reducible refine Frame.ite (m := 356374) ?_ (Frame.ite (m := 356374) (Frame.of (m := 356374) (State.rotateKeys_frame _ _) (Frame.mono
                   (m := 356374) (State.drew_frame _) (by decide)) (by decide)) (Frame.refl 356374 _))
  split
  · with_reducible exact Frame.ite (m := 356374) (Frame.of (m := 356374) (State.rotateKeys_frame _ _) (Frame.up16 (m := 356374) (Frame.refl
                     356374 _) (by decide)) (by decide)) (Frame.refl 356374 _)
  · with_reducible exact Frame.refl 356374 _

theorem State.setRingReg_frame (s : Sys2Proof.Machine.State) (a1 : Nat) (a2 : Sys2Proof.Machine.RingKind) (a3 : Nat) (a4 : Nat) (a5 : Nat) : Frame 16384 s (State.setRingReg s a1 a2 a3 a4 a5) := by
  unfold State.setRingReg
  with_reducible exact Frame.mono (m := 16384) (State.setReg_frame _ _ _ _) (by decide)

theorem State.closeBatch_frame (s : Sys2Proof.Machine.State) (a1 : Nat) : Frame 18432 s (State.closeBatch s a1) := by
  unfold State.closeBatch
  dsimp only
  simp only [State.mk_make]
  split
  · with_reducible exact Frame.refl 18432 _
  · with_reducible refine Frame.ite (m := 18432) (Frame.refl 18432 _) (Frame.ite (m := 18432) (Frame.ite (m := 18432) (Frame.of (m := 18432)
                     (State.vector_frame _ _ _) (Frame.mk1 (m := 18432) (Frame.of (m := 18432) (State.setRingReg_frame _ _ _ _ _ _) (Frame.ite (m := 18432)
                     (Frame.up11 (m := 18432) (Frame.refl 18432 _) (by decide)) (Frame.up11 (m := 18432) (Frame.refl 18432 _) (by decide))) (by decide))
                     (.inr rfl) (.inr rfl) (.inr rfl) (.inr rfl) (.inr rfl) (.inr rfl) (.inr rfl) (.inr rfl) (.inr rfl) (.inr rfl) ?_ (.inr rfl) (.inr rfl)
                     (.inr rfl) (.inr rfl) (.inr rfl) (.inr rfl) (.inr rfl) (.inr rfl)) (by decide)) (Frame.mk1 (m := 18432) (Frame.of (m := 18432)
                     (State.setRingReg_frame _ _ _ _ _ _) (Frame.ite (m := 18432) (Frame.up11 (m := 18432) (Frame.refl 18432 _) (by decide)) (Frame.up11
                     (m := 18432) (Frame.refl 18432 _) (by decide))) (by decide)) (.inr rfl) (.inr rfl) (.inr rfl) (.inr rfl) (.inr rfl) (.inr rfl)
                     (.inr rfl) (.inr rfl) (.inr rfl) (.inr rfl) ?_ (.inr rfl) (.inr rfl) (.inr rfl) (.inr rfl) (.inr rfl) (.inr rfl) (.inr rfl) (.inr rfl)))
                     (Frame.ite (m := 18432) (Frame.up11 (m := 18432) (Frame.refl 18432 _) (by decide)) (Frame.up11 (m := 18432) (Frame.refl 18432 _)
                     (by decide))))
    · split
      · with_reducible exact (.inl (by decide))
      · with_reducible exact (.inl (by decide))
    · split
      · with_reducible exact (.inl (by decide))
      · with_reducible exact (.inl (by decide))

theorem State.esmcSend_frame (s : Sys2Proof.Machine.State) (a1 : Nat) (a2 : Bool) : Frame 2048 s (State.esmcSend s a1 a2) := by
  unfold State.esmcSend
  dsimp only
  with_reducible exact Frame.of (m := 2048) (State.enqueue_frame _ _ _) (Frame.mono (m := 2048) (State.setMac_frame _ _ _) (by decide))
                   (by decide)

theorem State.esmcBoundary_frame (s : Sys2Proof.Machine.State) (a1 : Nat) : Frame 2048 s (State.esmcBoundary s a1) := by
  unfold State.esmcBoundary
  split
  · with_reducible exact Frame.ite (m := 2048) (Frame.mono (m := 2048) (State.esmcSend_frame _ _ _) (by decide)) (Frame.refl 2048 _)
  · with_reducible exact Frame.refl 2048 _

end Sys2Proof.Machine
end

