-- ==== Sys2Proof/Laws/Frames6.lean ====
section
/-!
SUPPORT. The frames of operations and commands, part 6.
-/

namespace Sys2Proof.Machine

theorem State.netBoundary_frame (s : Sys2Proof.Machine.State) : Frame 18434 s (State.netBoundary s) := by
  unfold State.netBoundary
  dsimp only
  simp only [State.mk_make]
  with_reducible refine Frame.mk1 (m := 18434) (Frame.ite (m := 18434) (Frame.foldl (m := 18434) (fun _ => fun _ => Frame.mono (m := 18434)
                   (State.closeBatch_frame _ _) (by decide)) (Frame.foldl (m := 18434) (fun _ => fun _ => Frame.of (m := 18434) (State.esmcBoundary_frame _
                   _) (Frame.ite (m := 18434) (Frame.of (m := 18434) (State.setN_frame _ _ _) (Frame.ite (m := 18434) (Frame.mono (m := 18434)
                   (State.setMac_frame _ _ _) (by decide)) (Frame.refl 18434 _)) (by decide)) (Frame.ite (m := 18434) (Frame.mono (m := 18434)
                   (State.setMac_frame _ _ _) (by decide)) (Frame.refl 18434 _))) (by decide)) (Frame.refl 18434 _))) (Frame.foldl (m := 18434) (fun _ => fun
                   _ => Frame.of (m := 18434) (State.esmcBoundary_frame _ _) (Frame.ite (m := 18434) (Frame.of (m := 18434) (State.setN_frame _ _ _)
                   (Frame.ite (m := 18434) (Frame.mono (m := 18434) (State.setMac_frame _ _ _) (by decide)) (Frame.refl 18434 _)) (by decide)) (Frame.ite
                   (m := 18434) (Frame.mono (m := 18434) (State.setMac_frame _ _ _) (by decide)) (Frame.refl 18434 _))) (by decide)) (Frame.refl 18434 _)))
                   (.inr rfl) (.inr rfl) (.inr rfl) (.inr rfl) (.inr rfl) (.inr rfl) (.inr rfl) (.inr rfl) (.inr rfl) (.inr rfl) (.inr rfl) (.inr rfl)
                   (.inr rfl) ?_ (.inr rfl) (.inr rfl) (.inr rfl) (.inr rfl) (.inr rfl)
  split
  · split
    · split
      · with_reducible exact (.inl (by decide))
      · with_reducible exact (.inl (by decide))
    · with_reducible exact (.inl (by decide))
  · split
    · split
      · with_reducible exact (.inl (by decide))
      · with_reducible exact (.inl (by decide))
    · with_reducible exact (.inl (by decide))

theorem State.efcBoundary_frame (s : Sys2Proof.Machine.State) (a1 : Nat) (a2 : Option Int) : Frame 2 s (State.efcBoundary s a1 a2) := by
  unfold State.efcBoundary
  dsimp only
  with_reducible exact Frame.ite (m := 2) (Frame.of (m := 2) (State.setF_frame _ _ _) (Frame.mono (m := 2) (State.setO_frame _ _ _)
                   (by decide)) (by decide)) (Frame.ite (m := 2) (Frame.ite (m := 2) (Frame.mono (m := 2) (State.setO_frame _ _ _) (by decide)) (Frame.of
                   (m := 2) (State.setO_frame _ _ _) (Frame.mono (m := 2) (State.setO_frame _ _ _) (by decide)) (by decide))) (Frame.ite (m := 2) (Frame.of
                   (m := 2) (State.setO_frame _ _ _) (Frame.mono (m := 2) (State.setO_frame _ _ _) (by decide)) (by decide)) (Frame.ite (m := 2) (Frame.ite
                   (m := 2) (Frame.of (m := 2) (State.inc_frame _ _) (Frame.of (m := 2) (State.setF_frame _ _ _) (Frame.of (m := 2) (State.setO_frame _ _ _)
                   (Frame.mono (m := 2) (State.setO_frame _ _ _) (by decide)) (by decide)) (by decide)) (by decide)) (Frame.of (m := 2) (State.setF_frame _ _
                   _) (Frame.of (m := 2) (State.setO_frame _ _ _) (Frame.mono (m := 2) (State.setO_frame _ _ _) (by decide)) (by decide)) (by decide)))
                   (Frame.of (m := 2) (State.setF_frame _ _ _) (Frame.mono (m := 2) (State.setO_frame _ _ _) (by decide)) (by decide)))))

theorem State.steerApplied_frame (s : Sys2Proof.Machine.State) (a1 : Nat) (a2 : Int) : Frame 1024 s (State.steerApplied s a1 a2) := by
  unfold State.steerApplied
  dsimp only
  with_reducible exact Frame.ite (m := 1024) (Frame.refl 1024 _) (Frame.ite (m := 1024) (Frame.mono (m := 1024) (State.setMember_frame _ _
                   _) (by decide)) (Frame.mono (m := 1024) (State.setMember_frame _ _ _) (by decide)))

theorem State.efcTick_frame (s : Sys2Proof.Machine.State) (a1 : Nat) : Frame 1026 s (State.efcTick s a1) := by
  unfold State.efcTick
  dsimp only
  split
  · with_reducible exact Frame.mono (m := 1026) (State.efcBoundary_frame _ _ _) (by decide)
  · with_reducible exact Frame.ite (m := 1026) (Frame.mono (m := 1026) (State.efcBoundary_frame _ _ _) (by decide)) (Frame.of (m := 1026)
                     (State.steerApplied_frame _ _ _) (Frame.mono (m := 1026) (State.efcBoundary_frame _ _ _) (by decide)) (by decide))

theorem State.rampBoundary_frame (s : Sys2Proof.Machine.State) (a1 : Nat) : Frame 514 s (State.rampBoundary s a1) := by
  unfold State.rampBoundary
  dsimp only
  split
  · with_reducible exact Frame.refl 514 _
  · with_reducible exact Frame.of (m := 514) (State.setF_frame _ _ _) (Frame.of (m := 514) (State.setO_frame _ _ _) (Frame.mono (m := 514)
                     (State.setOut_frame _ _ _) (by decide)) (by decide)) (by decide)

theorem State.outDrive_frame (s : Sys2Proof.Machine.State) (a1 : Nat) : Frame 514 s (State.outDrive s a1) := by
  unfold State.outDrive
  dsimp only
  with_reducible exact Frame.ite (m := 514) (Frame.refl 514 _) (Frame.of (m := 514) (State.setOut_frame _ _ _) (Frame.mono (m := 514)
                   (State.rampBoundary_frame _ _) (by decide)) (by decide))

theorem State.outBoundary_frame (s : Sys2Proof.Machine.State) (a1 : Nat) : Frame 514 s (State.outBoundary s a1) := by
  unfold State.outBoundary
  dsimp only
  with_reducible exact Frame.ite (m := 514) (Frame.mono (m := 514) (State.outDrive_frame _ _) (by decide)) (Frame.of (m := 514)
                   (State.setF_frame _ _ _) (Frame.mono (m := 514) (State.outDrive_frame _ _) (by decide)) (by decide))

theorem State.synceBoundary_frame (s : Sys2Proof.Machine.State) (a1 : Nat → Nat) : Frame 514 s (State.synceBoundary s a1) := by
  unfold State.synceBoundary
  dsimp only
  simp only [State.mk_make]
  with_reducible refine Frame.mk1 (m := 514) (Frame.ite (m := 514) (Frame.refl 514 _) (Frame.mono (m := 514) (State.setN_frame _ _ _)
                   (by decide))) (.inr rfl) (.inr rfl) (.inr rfl) (.inr rfl) (.inr rfl) (.inr rfl) (.inr rfl) (.inr rfl) ?_ (.inr rfl) (.inr rfl) (.inr rfl)
                   (.inr rfl) (.inr rfl) (.inr rfl) (.inr rfl) (.inr rfl) (.inr rfl) (.inr rfl)
  split
  · split
    · split
      · split
        · split
          · split
            · with_reducible exact (.inl (by decide))
            · split
              · with_reducible exact (.inl (by decide))
              · with_reducible exact (.inl (by decide))
          · split
            · with_reducible exact (.inl (by decide))
            · split
              · with_reducible exact (.inl (by decide))
              · with_reducible exact (.inl (by decide))
        · split
          · split
            · with_reducible exact (.inl (by decide))
            · with_reducible exact (.inl (by decide))
          · split
            · split
              · with_reducible exact (.inl (by decide))
              · with_reducible exact (.inl (by decide))
            · split
              · with_reducible exact (.inl (by decide))
              · with_reducible exact (.inl (by decide))
      · split
        · split
          · split
            · with_reducible exact (.inl (by decide))
            · split
              · with_reducible exact (.inl (by decide))
              · with_reducible exact (.inl (by decide))
          · split
            · with_reducible exact (.inl (by decide))
            · split
              · with_reducible exact (.inl (by decide))
              · with_reducible exact (.inl (by decide))
        · split
          · split
            · with_reducible exact (.inl (by decide))
            · with_reducible exact (.inl (by decide))
          · split
            · split
              · with_reducible exact (.inl (by decide))
              · with_reducible exact (.inl (by decide))
            · split
              · with_reducible exact (.inl (by decide))
              · with_reducible exact (.inl (by decide))
    · split
      · split
        · split
          · split
            · with_reducible exact (.inl (by decide))
            · split
              · with_reducible exact (.inl (by decide))
              · with_reducible exact (.inl (by decide))
          · split
            · with_reducible exact (.inl (by decide))
            · split
              · with_reducible exact (.inl (by decide))
              · with_reducible exact (.inl (by decide))
        · split
          · split
            · with_reducible exact (.inl (by decide))
            · with_reducible exact (.inl (by decide))
          · split
            · split
              · with_reducible exact (.inl (by decide))
              · with_reducible exact (.inl (by decide))
            · split
              · with_reducible exact (.inl (by decide))
              · with_reducible exact (.inl (by decide))
      · split
        · split
          · split
            · with_reducible exact (.inl (by decide))
            · split
              · with_reducible exact (.inl (by decide))
              · with_reducible exact (.inl (by decide))
          · split
            · with_reducible exact (.inl (by decide))
            · split
              · with_reducible exact (.inl (by decide))
              · with_reducible exact (.inl (by decide))
        · split
          · split
            · with_reducible exact (.inl (by decide))
            · with_reducible exact (.inl (by decide))
          · split
            · split
              · with_reducible exact (.inl (by decide))
              · with_reducible exact (.inl (by decide))
            · split
              · with_reducible exact (.inl (by decide))
              · with_reducible exact (.inl (by decide))
  · split
    · split
      · split
        · split
          · split
            · with_reducible exact (.inl (by decide))
            · split
              · with_reducible exact (.inl (by decide))
              · with_reducible exact (.inl (by decide))
          · split
            · with_reducible exact (.inl (by decide))
            · split
              · with_reducible exact (.inl (by decide))
              · with_reducible exact (.inl (by decide))
        · split
          · split
            · with_reducible exact (.inl (by decide))
            · with_reducible exact (.inl (by decide))
          · split
            · split
              · with_reducible exact (.inl (by decide))
              · with_reducible exact (.inl (by decide))
            · split
              · with_reducible exact (.inl (by decide))
              · with_reducible exact (.inl (by decide))
      · split
        · split
          · split
            · with_reducible exact (.inl (by decide))
            · split
              · with_reducible exact (.inl (by decide))
              · with_reducible exact (.inl (by decide))
          · split
            · with_reducible exact (.inl (by decide))
            · split
              · with_reducible exact (.inl (by decide))
              · with_reducible exact (.inl (by decide))
        · split
          · split
            · with_reducible exact (.inl (by decide))
            · with_reducible exact (.inl (by decide))
          · split
            · split
              · with_reducible exact (.inl (by decide))
              · with_reducible exact (.inl (by decide))
            · split
              · with_reducible exact (.inl (by decide))
              · with_reducible exact (.inl (by decide))
    · split
      · split
        · split
          · split
            · with_reducible exact (.inl (by decide))
            · split
              · with_reducible exact (.inl (by decide))
              · with_reducible exact (.inl (by decide))
          · split
            · with_reducible exact (.inl (by decide))
            · split
              · with_reducible exact (.inl (by decide))
              · with_reducible exact (.inl (by decide))
        · split
          · split
            · with_reducible exact (.inl (by decide))
            · with_reducible exact (.inl (by decide))
          · split
            · split
              · with_reducible exact (.inl (by decide))
              · with_reducible exact (.inl (by decide))
            · split
              · with_reducible exact (.inl (by decide))
              · with_reducible exact (.inl (by decide))
      · split
        · split
          · split
            · with_reducible exact (.inl (by decide))
            · split
              · with_reducible exact (.inl (by decide))
              · with_reducible exact (.inl (by decide))
          · split
            · with_reducible exact (.inl (by decide))
            · split
              · with_reducible exact (.inl (by decide))
              · with_reducible exact (.inl (by decide))
        · split
          · split
            · with_reducible exact (.inl (by decide))
            · with_reducible exact (.inl (by decide))
          · split
            · split
              · with_reducible exact (.inl (by decide))
              · with_reducible exact (.inl (by decide))
            · split
              · with_reducible exact (.inl (by decide))
              · with_reducible exact (.inl (by decide))

theorem State.outputsAt_frame (s : Sys2Proof.Machine.State) : Frame 1538 s (State.outputsAt s) := by
  unfold State.outputsAt
  dsimp only
  with_reducible exact Frame.of (m := 1538) (State.synceBoundary_frame _ _) (Frame.foldl (m := 1538) (fun _ => fun _ => Frame.mono
                   (m := 1538) (State.efcTick_frame _ _) (by decide)) (Frame.foldl (m := 1538) (fun _ => fun _ => Frame.mono (m := 1538)
                   (State.outBoundary_frame _ _) (by decide)) (Frame.refl 1538 _))) (by decide)

theorem State.pruneKeys_frame (s : Sys2Proof.Machine.State) : Frame 4096 s (State.pruneKeys s) := by
  unfold State.pruneKeys
  dsimp only
  simp only [State.mk_make]
  with_reducible exact Frame.up12 (m := 4096) (Frame.refl 4096 _) (by decide)

theorem State.pruneLine_frame (s : Sys2Proof.Machine.State) (a1 : Nat) (a2 : Bool) : Frame 102418 s (State.pruneLine s a1 a2) := by
  unfold State.pruneLine
  dsimp only
  split
  · with_reducible exact Frame.refl 102418 _
  · with_reducible exact Frame.ite (m := 102418) (Frame.refl 102418 _) (Frame.ite (m := 102418) (Frame.of (m := 102418) (State.setN_frame _
                     _ _) (Frame.mono (m := 102418) (State.commitSession_frame _ _ _ _) (by decide)) (by decide)) (Frame.mono (m := 102418)
                     (State.commitSession_frame _ _ _ _) (by decide)))

theorem State.servBoundary_frame (s : Sys2Proof.Machine.State) : Frame 102418 s (State.servBoundary s) := by
  unfold State.servBoundary
  dsimp only
  simp only [State.mk_make]
  with_reducible refine Frame.up12 (m := 102418) (Frame.foldl (m := 102418) (fun _ => fun _ => Frame.ite (m := 102418) (Frame.up12
                   (m := 102418) (Frame.refl 102418 _) (by decide)) (Frame.ite (m := 102418) (Frame.up12 (m := 102418) (Frame.refl 102418 _) (by decide))
                   (Frame.refl 102418 _))) (Frame.foldl (m := 102418) (fun _ => fun _ => ?_) (Frame.refl 102418 _))) (by decide)
  split
  · with_reducible exact Frame.ite (m := 102418) (Frame.mono (m := 102418) (State.pruneLine_frame _ _ _) (by decide)) (Frame.refl 102418 _)
  · with_reducible exact Frame.refl 102418 _

theorem State.serviceBoundary_frame (s : Sys2Proof.Machine.State) : Frame 16402 s (State.serviceBoundary s) := by
  unfold State.serviceBoundary
  dsimp only
  simp only [State.mk_make]
  with_reducible refine Frame.ite (m := 16402) (Frame.of (m := 16402) (State.setN_frame _ _ _) (Frame.ite (m := 16402) (Frame.mk1
                   (m := 16402) (Frame.ite (m := 16402) (Frame.foldl (m := 16402) (fun _ => fun _ => Frame.ite (m := 16402) (Frame.mono (m := 16402)
                   (State.setO_frame _ _ _) (by decide)) (Frame.refl 16402 _)) (Frame.refl 16402 _)) (Frame.refl 16402 _)) (.inr rfl) (.inr rfl) (.inr rfl)
                   ?_ (.inr rfl) (.inr rfl) (.inr rfl) (.inr rfl) (.inr rfl) (.inr rfl) (.inr rfl) (.inr rfl) (.inr rfl) (.inr rfl) (.inr rfl) (.inr rfl)
                   (.inr rfl) (.inr rfl) (.inr rfl)) (Frame.of (m := 16402) (State.hostEvent_frame _ _) (Frame.of (m := 16402) (State.setF_frame _ _ _)
                   (Frame.mk1 (m := 16402) (Frame.ite (m := 16402) (Frame.foldl (m := 16402) (fun _ => fun _ => Frame.ite (m := 16402) (Frame.mono
                   (m := 16402) (State.setO_frame _ _ _) (by decide)) (Frame.refl 16402 _)) (Frame.refl 16402 _)) (Frame.refl 16402 _)) (.inr rfl) (.inr rfl)
                   (.inr rfl) ?_ (.inr rfl) (.inr rfl) (.inr rfl) (.inr rfl) (.inr rfl) (.inr rfl) (.inr rfl) (.inr rfl) (.inr rfl) (.inr rfl) (.inr rfl)
                   (.inr rfl) (.inr rfl) (.inr rfl) (.inr rfl)) (by decide)) (by decide))) (by decide)) (Frame.ite (m := 16402) (Frame.mk1 (m := 16402)
                   (Frame.ite (m := 16402) (Frame.foldl (m := 16402) (fun _ => fun _ => Frame.ite (m := 16402) (Frame.mono (m := 16402) (State.setO_frame _ _
                   _) (by decide)) (Frame.refl 16402 _)) (Frame.refl 16402 _)) (Frame.refl 16402 _)) (.inr rfl) (.inr rfl) (.inr rfl) ?_ (.inr rfl)
                   (.inr rfl) (.inr rfl) (.inr rfl) (.inr rfl) (.inr rfl) (.inr rfl) (.inr rfl) (.inr rfl) (.inr rfl) (.inr rfl) (.inr rfl) (.inr rfl)
                   (.inr rfl) (.inr rfl)) (Frame.of (m := 16402) (State.hostEvent_frame _ _) (Frame.of (m := 16402) (State.setF_frame _ _ _) (Frame.mk1
                   (m := 16402) (Frame.ite (m := 16402) (Frame.foldl (m := 16402) (fun _ => fun _ => Frame.ite (m := 16402) (Frame.mono (m := 16402)
                   (State.setO_frame _ _ _) (by decide)) (Frame.refl 16402 _)) (Frame.refl 16402 _)) (Frame.refl 16402 _)) (.inr rfl) (.inr rfl) (.inr rfl)
                   ?_ (.inr rfl) (.inr rfl) (.inr rfl) (.inr rfl) (.inr rfl) (.inr rfl) (.inr rfl) (.inr rfl) (.inr rfl) (.inr rfl) (.inr rfl) (.inr rfl)
                   (.inr rfl) (.inr rfl) (.inr rfl)) (by decide)) (by decide)))
  · split
    · split
      · with_reducible exact (.inl (by decide))
      · split
        · with_reducible exact (.inl (by decide))
        · with_reducible exact (.inl (by decide))
    · split
      · with_reducible exact (.inl (by decide))
      · split
        · with_reducible exact (.inl (by decide))
        · with_reducible exact (.inl (by decide))
  · split
    · split
      · with_reducible exact (.inl (by decide))
      · split
        · with_reducible exact (.inl (by decide))
        · with_reducible exact (.inl (by decide))
    · split
      · with_reducible exact (.inl (by decide))
      · split
        · with_reducible exact (.inl (by decide))
        · with_reducible exact (.inl (by decide))
  · split
    · split
      · with_reducible exact (.inl (by decide))
      · split
        · with_reducible exact (.inl (by decide))
        · with_reducible exact (.inl (by decide))
    · split
      · with_reducible exact (.inl (by decide))
      · split
        · with_reducible exact (.inl (by decide))
        · with_reducible exact (.inl (by decide))
  · split
    · split
      · with_reducible exact (.inl (by decide))
      · split
        · with_reducible exact (.inl (by decide))
        · with_reducible exact (.inl (by decide))
    · split
      · with_reducible exact (.inl (by decide))
      · split
        · with_reducible exact (.inl (by decide))
        · with_reducible exact (.inl (by decide))

theorem State.shuttleBoundary_frame (s : Sys2Proof.Machine.State) : Frame 32770 s (State.shuttleBoundary s) := by
  unfold State.shuttleBoundary
  dsimp only
  simp only [State.mk_make]
  with_reducible exact Frame.foldl (m := 32770) (fun _ => fun _ => Frame.ite (m := 32770) (Frame.ite (m := 32770) (Frame.of (m := 32770)
                   (State.setO_frame _ _ _) (Frame.ite (m := 32770) (Frame.refl 32770 _) (Frame.up15 (m := 32770) (Frame.refl 32770 _) (by decide)))
                   (by decide)) (Frame.ite (m := 32770) (Frame.refl 32770 _) (Frame.up15 (m := 32770) (Frame.refl 32770 _) (by decide)))) (Frame.ite
                   (m := 32770) (Frame.of (m := 32770) (State.setO_frame _ _ _) (Frame.ite (m := 32770) (Frame.refl 32770 _) (Frame.up15 (m := 32770)
                   (Frame.refl 32770 _) (by decide))) (by decide)) (Frame.ite (m := 32770) (Frame.refl 32770 _) (Frame.up15 (m := 32770) (Frame.refl 32770 _)
                   (by decide))))) (Frame.up15 (m := 32770) (Frame.refl 32770 _) (by decide))

theorem State.identityWatch_frame (s : Sys2Proof.Machine.State) : Frame 327680 s (State.identityWatch s) := by
  unfold State.identityWatch
  dsimp only
  simp only [State.mk_make]
  with_reducible exact Frame.ite (m := 327680) (Frame.refl 327680 _) (Frame.mk1 (m := 327680) (Frame.refl 327680 _) (.inr rfl) (.inr rfl)
                   (.inr rfl) (.inr rfl) (.inr rfl) (.inr rfl) (.inr rfl) (.inr rfl) (.inr rfl) (.inr rfl) (.inr rfl) (.inr rfl) (.inr rfl) (.inr rfl)
                   (.inr rfl) (.inl (by decide)) (.inr rfl) (.inl (by decide)) (.inr rfl))

theorem State.installCanopy_frame (s : Sys2Proof.Machine.State) (a1 : Sys2Proof.Machine.Bulk) : Frame 66562 s (State.installCanopy s a1) := by
  unfold State.installCanopy
  dsimp only
  simp only [State.mk_make]
  with_reducible exact Frame.mk1 (m := 66562) (Frame.foldl (m := 66562) (fun _ => fun _ => Frame.mono (m := 66562) (State.setO_frame _ _ _)
                   (by decide)) (Frame.refl 66562 _)) (.inr rfl) (.inr rfl) (.inr rfl) (.inr rfl) (.inr rfl) (.inr rfl) (.inr rfl) (.inr rfl) (.inr rfl)
                   (.inl (by decide)) (.inr rfl) (.inr rfl) (.inr rfl) (.inr rfl) (.inr rfl) (.inl (by decide)) (.inr rfl) (.inr rfl) (.inr rfl)

theorem State.countSessions_frame (s : Sys2Proof.Machine.State) : Frame 2 s (State.countSessions s) := by
  unfold State.countSessions
  with_reducible exact Frame.foldl (m := 2) (fun _ => fun _ => Frame.mono (m := 2) (State.setN_frame _ _ _) (by decide)) (Frame.refl 2 _)

theorem State.installSessions_frame (s : Sys2Proof.Machine.State) : Frame 69634 s (State.installSessions s) := by
  unfold State.installSessions
  dsimp only
  simp only [State.mk_make]
  with_reducible exact Frame.ite (m := 69634) (Frame.refl 69634 _) (Frame.of (m := 69634) (State.countSessions_frame _) (Frame.mk1
                   (m := 69634) (Frame.refl 69634 _) (.inr rfl) (.inr rfl) (.inr rfl) (.inr rfl) (.inr rfl) (.inr rfl) (.inr rfl) (.inr rfl) (.inr rfl)
                   (.inr rfl) (.inr rfl) (.inl (by decide)) (.inr rfl) (.inr rfl) (.inr rfl) (.inl (by decide)) (.inr rfl) (.inr rfl) (.inr rfl))
                   (by decide))

theorem State.releaseNow_frame (s : Sys2Proof.Machine.State) (a1 : Bool) : Frame 65538 s (State.releaseNow s a1) := by
  unfold State.releaseNow
  dsimp only
  simp only [State.mk_make]
  with_reducible exact Frame.ite (m := 65538) (Frame.of (m := 65538) (State.keepShadow_frame _) (Frame.up16 (m := 65538) (Frame.of
                   (m := 65538) (State.inc_frame _ _) (Frame.mono (m := 65538) (State.twinEnter_frame _ _) (by decide)) (by decide)) (by decide))
                   (by decide)) (Frame.up16 (m := 65538) (Frame.of (m := 65538) (State.inc_frame _ _) (Frame.mono (m := 65538) (State.twinEnter_frame _ _)
                   (by decide)) (by decide)) (by decide))

theorem State.ownerBoundary_frame (s : Sys2Proof.Machine.State) : Frame 65538 s (State.ownerBoundary s) := by
  unfold State.ownerBoundary
  dsimp only
  simp only [State.mk_make]
  with_reducible refine Frame.ite (m := 65538) (Frame.of (m := 65538) (State.releaseNow_frame _ _) (Frame.ite (m := 65538) (Frame.mono
                   (m := 65538) (State.setN_frame _ _ _) (by decide)) (Frame.refl 65538 _)) (by decide)) ?_
  split
  · with_reducible exact Frame.ite (m := 65538) (Frame.refl 65538 _) (Frame.ite (m := 65538) (Frame.of (m := 65538) (State.setN_frame _ _ _)
                     (Frame.mono (m := 65538) (State.releaseNow_frame _ _) (by decide)) (by decide)) (Frame.up16 (m := 65538) (Frame.mono (m := 65538)
                     (State.setN_frame _ _ _) (by decide)) (by decide)))
  · with_reducible refine Frame.ite (m := 65538) (Frame.of (m := 65538) (State.announce_frame _ _) (Frame.mk1 (m := 65538) (Frame.refl 65538
                     _) (.inr rfl) (.inr rfl) (.inr rfl) (.inr rfl) (.inr rfl) (.inr rfl) (.inr rfl) (.inr rfl) (.inr rfl) (.inr rfl) (.inr rfl) (.inr rfl)
                     (.inr rfl) (.inr rfl) (.inr rfl) ?_ (.inr rfl) (.inr rfl) (.inr rfl)) (by decide)) (Frame.ite (m := 65538) (Frame.of (m := 65538)
                     (State.announce_frame _ _) (Frame.mk1 (m := 65538) (Frame.refl 65538 _) (.inr rfl) (.inr rfl) (.inr rfl) (.inr rfl) (.inr rfl)
                     (.inr rfl) (.inr rfl) (.inr rfl) (.inr rfl) (.inr rfl) (.inr rfl) (.inr rfl) (.inr rfl) (.inr rfl) (.inr rfl) ?_ (.inr rfl) (.inr rfl)
                     (.inr rfl)) (by decide)) (Frame.mk1 (m := 65538) (Frame.refl 65538 _) (.inr rfl) (.inr rfl) (.inr rfl) (.inr rfl) (.inr rfl) (.inr rfl)
                     (.inr rfl) (.inr rfl) (.inr rfl) (.inr rfl) (.inr rfl) (.inr rfl) (.inr rfl) (.inr rfl) (.inr rfl) ?_ (.inr rfl) (.inr rfl) (.inr rfl)))
    · split
      · split
        · split
          · with_reducible exact (.inl (by decide))
          · with_reducible exact (.inl (by decide))
        · split
          · with_reducible exact (.inl (by decide))
          · with_reducible exact (.inl (by decide))
      · split
        · split
          · with_reducible exact (.inl (by decide))
          · with_reducible exact (.inl (by decide))
        · split
          · with_reducible exact (.inl (by decide))
          · with_reducible exact (.inl (by decide))
    · split
      · split
        · split
          · with_reducible exact (.inl (by decide))
          · with_reducible exact (.inl (by decide))
        · split
          · with_reducible exact (.inl (by decide))
          · with_reducible exact (.inl (by decide))
      · split
        · split
          · with_reducible exact (.inl (by decide))
          · with_reducible exact (.inl (by decide))
        · split
          · with_reducible exact (.inl (by decide))
          · with_reducible exact (.inl (by decide))
    · split
      · split
        · split
          · with_reducible exact (.inl (by decide))
          · with_reducible exact (.inl (by decide))
        · split
          · with_reducible exact (.inl (by decide))
          · with_reducible exact (.inl (by decide))
      · split
        · split
          · with_reducible exact (.inl (by decide))
          · with_reducible exact (.inl (by decide))
        · split
          · with_reducible exact (.inl (by decide))
          · with_reducible exact (.inl (by decide))

theorem State.publishOffset_frame (s : Sys2Proof.Machine.State) : Frame 65538 s (State.publishOffset s) := by
  unfold State.publishOffset
  dsimp only
  simp only [State.mk_make]
  with_reducible exact Frame.ite (m := 65538) (Frame.of (m := 65538) (State.setN_frame _ _ _) (Frame.up16 (m := 65538) (Frame.refl 65538 _)
                   (by decide)) (by decide)) (Frame.of (m := 65538) (State.setN_frame _ _ _) (Frame.of (m := 65538) (State.setO_frame _ _ _) (Frame.up16
                   (m := 65538) (Frame.refl 65538 _) (by decide)) (by decide)) (by decide))

theorem State.retireCharge_frame (s : Sys2Proof.Machine.State) : Frame 65536 s (State.retireCharge s) := by
  unfold State.retireCharge
  dsimp only
  simp only [State.mk_make]
  with_reducible exact Frame.ite (m := 65536) (Frame.refl 65536 _) (Frame.ite (m := 65536) (Frame.up16 (m := 65536) (Frame.refl 65536 _)
                   (by decide)) (Frame.refl 65536 _))

theorem State.takeNow_frame (s : Sys2Proof.Machine.State) : Frame 65538 s (State.takeNow s) := by
  unfold State.takeNow
  dsimp only
  simp only [State.mk_make]
  with_reducible exact Frame.up16 (m := 65538) (Frame.of (m := 65538) (State.setF_frame _ _ _) (Frame.of (m := 65538) (State.inc_frame _ _)
                   (Frame.mono (m := 65538) (State.twinEnter_frame _ _) (by decide)) (by decide)) (by decide)) (by decide)

theorem State.shadowBoundary_frame (s : Sys2Proof.Machine.State) : Frame 65538 s (State.shadowBoundary s) := by
  unfold State.shadowBoundary
  dsimp only
  simp only [State.mk_make]
  with_reducible exact Frame.ite (m := 65538) (Frame.mono (m := 65538) (State.takeNow_frame _) (by decide)) (Frame.ite (m := 65538)
                   (Frame.of (m := 65538) (State.twinEnter_frame _ _) (Frame.of (m := 65538) (State.setF_frame _ _ _) (Frame.up16 (m := 65538) (Frame.refl
                   65538 _) (by decide)) (by decide)) (by decide)) (Frame.ite (m := 65538) (Frame.of (m := 65538) (State.twinEnter_frame _ _) (Frame.of
                   (m := 65538) (State.setF_frame _ _ _) (Frame.up16 (m := 65538) (Frame.refl 65538 _) (by decide)) (by decide)) (by decide)) (Frame.of
                   (m := 65538) (State.setF_frame _ _ _) (Frame.up16 (m := 65538) (Frame.refl 65538 _) (by decide)) (by decide))))

theorem State.yethalDown_frame (s : Sys2Proof.Machine.State) : Frame 777566 s (State.yethalDown s) := by
  unfold State.yethalDown
  with_reducible exact Frame.of (m := 777566) (State.twinAlone_frame _) (Frame.mono (m := 777566) (State.faulted_frame _ _ _ _) (by decide))
                   (by decide)

theorem State.twinWatch_frame (s : Sys2Proof.Machine.State) (a1 : Bool) : Frame 1039710 s (State.twinWatch s a1) := by
  unfold State.twinWatch
  dsimp only
  simp only [State.mk_make]
  with_reducible refine Frame.ite (m := 1039710) (Frame.mk1 (m := 1039710) (Frame.of (m := 1039710) (State.setF_frame _ _ _) (Frame.mono
                   (m := 1039710) (State.identityWatch_frame _) (by decide)) (by decide)) (.inr rfl) (.inr rfl) (.inr rfl) (.inr rfl) (.inr rfl) (.inr rfl)
                   (.inr rfl) (.inr rfl) (.inr rfl) (.inr rfl) (.inr rfl) (.inr rfl) (.inr rfl) (.inr rfl) (.inr rfl) ?_ (.inr rfl) (.inr rfl) (.inr rfl))
                   (Frame.ite (m := 1039710) (Frame.of (m := 1039710) (State.yethalDown_frame _) (Frame.mk1 (m := 1039710) (Frame.of (m := 1039710)
                   (State.setF_frame _ _ _) (Frame.mono (m := 1039710) (State.identityWatch_frame _) (by decide)) (by decide)) (.inr rfl) (.inr rfl)
                   (.inr rfl) (.inr rfl) (.inr rfl) (.inr rfl) (.inr rfl) (.inr rfl) (.inr rfl) (.inr rfl) (.inr rfl) (.inr rfl) (.inr rfl) (.inr rfl)
                   (.inr rfl) ?_ (.inr rfl) (.inr rfl) (.inr rfl)) (by decide)) (Frame.ite (m := 1039710) (Frame.of (m := 1039710) (State.twinAlone_frame _)
                   (Frame.mk1 (m := 1039710) (Frame.of (m := 1039710) (State.setF_frame _ _ _) (Frame.mono (m := 1039710) (State.identityWatch_frame _)
                   (by decide)) (by decide)) (.inr rfl) (.inr rfl) (.inr rfl) (.inr rfl) (.inr rfl) (.inr rfl) (.inr rfl) (.inr rfl) (.inr rfl) (.inr rfl)
                   (.inr rfl) (.inr rfl) (.inr rfl) (.inr rfl) (.inr rfl) ?_ (.inr rfl) (.inr rfl) (.inr rfl)) (by decide)) (Frame.mk1 (m := 1039710)
                   (Frame.of (m := 1039710) (State.setF_frame _ _ _) (Frame.mono (m := 1039710) (State.identityWatch_frame _) (by decide)) (by decide))
                   (.inr rfl) (.inr rfl) (.inr rfl) (.inr rfl) (.inr rfl) (.inr rfl) (.inr rfl) (.inr rfl) (.inr rfl) (.inr rfl) (.inr rfl) (.inr rfl)
                   (.inr rfl) (.inr rfl) (.inr rfl) ?_ (.inr rfl) (.inr rfl) (.inr rfl))))
  · split
    · with_reducible exact (.inl (by decide))
    · with_reducible exact (.inl (by decide))
  · split
    · with_reducible exact (.inl (by decide))
    · with_reducible exact (.inl (by decide))
  · split
    · with_reducible exact (.inl (by decide))
    · with_reducible exact (.inl (by decide))
  · split
    · with_reducible exact (.inl (by decide))
    · with_reducible exact (.inl (by decide))

theorem State.apartBoundary_frame (s : Sys2Proof.Machine.State) : Frame 1039710 s (State.apartBoundary s) := by
  unfold State.apartBoundary
  dsimp only
  simp only [State.mk_make]
  with_reducible refine Frame.ite (m := 1039710) (Frame.of (m := 1039710) (State.twinSend_frame _ _) (Frame.mk1 (m := 1039710) (Frame.ite
                   (m := 1039710) (Frame.of (m := 1039710) (State.inc_frame _ _) (Frame.up16 (m := 1039710) (Frame.refl 1039710 _) (by decide)) (by decide))
                   (Frame.refl 1039710 _)) (.inr rfl) (.inr rfl) (.inr rfl) (.inr rfl) (.inr rfl) (.inr rfl) (.inr rfl) (.inr rfl) (.inr rfl) (.inr rfl)
                   (.inr rfl) (.inr rfl) (.inr rfl) (.inr rfl) (.inr rfl) ?_ (.inr rfl) (.inr rfl) (.inr rfl)) (by decide)) (Frame.ite (m := 1039710)
                   (Frame.of (m := 1039710) (State.inc_frame _ _) (Frame.up16 (m := 1039710) (Frame.refl 1039710 _) (by decide)) (by decide)) (Frame.refl
                   1039710 _))
  split
  · with_reducible exact (.inl (by decide))
  · with_reducible exact (.inl (by decide))

theorem State.joinedBoundary_frame (s : Sys2Proof.Machine.State) : Frame 1039710 s (State.joinedBoundary s) := by
  unfold State.joinedBoundary
  dsimp only
  simp only [State.mk_make]
  with_reducible refine Frame.mk1 (m := 1039710) (Frame.ite (m := 1039710) (Frame.of (m := 1039710) (State.leaveNow_frame _) ?_ (by decide))
                   ?_) (.inr rfl) (.inr rfl) (.inr rfl) (.inr rfl) (.inr rfl) (.inr rfl) (.inr rfl) (.inr rfl) (.inr rfl) (.inr rfl) (.inr rfl) (.inr rfl)
                   (.inr rfl) (.inr rfl) (.inr rfl) ?_ (.inr rfl) (.inr rfl) (.inr rfl)
  · split
    · with_reducible exact Frame.ite (m := 1039710) (Frame.of (m := 1039710) (State.installCanopy_frame _ _) (Frame.ite (m := 1039710)
                       (Frame.of (m := 1039710) (State.ownerBoundary_frame _) (Frame.of (m := 1039710) (State.retireCharge_frame _) (Frame.of (m := 1039710)
                       (State.installSessions_frame _) (Frame.mono (m := 1039710) (State.publishOffset_frame _) (by decide)) (by decide)) (by decide))
                       (by decide)) (Frame.of (m := 1039710) (State.shadowBoundary_frame _) (Frame.of (m := 1039710) (State.retireCharge_frame _) (Frame.of
                       (m := 1039710) (State.installSessions_frame _) (Frame.mono (m := 1039710) (State.publishOffset_frame _) (by decide)) (by decide))
                       (by decide)) (by decide))) (by decide)) (Frame.ite (m := 1039710) (Frame.of (m := 1039710) (State.ownerBoundary_frame _) (Frame.of
                       (m := 1039710) (State.retireCharge_frame _) (Frame.of (m := 1039710) (State.installSessions_frame _) (Frame.mono (m := 1039710)
                       (State.publishOffset_frame _) (by decide)) (by decide)) (by decide)) (by decide)) (Frame.of (m := 1039710) (State.shadowBoundary_frame
                       _) (Frame.of (m := 1039710) (State.retireCharge_frame _) (Frame.of (m := 1039710) (State.installSessions_frame _) (Frame.mono
                       (m := 1039710) (State.publishOffset_frame _) (by decide)) (by decide)) (by decide)) (by decide)))
    · with_reducible exact Frame.ite (m := 1039710) (Frame.of (m := 1039710) (State.ownerBoundary_frame _) (Frame.of (m := 1039710)
                       (State.retireCharge_frame _) (Frame.of (m := 1039710) (State.installSessions_frame _) (Frame.mono (m := 1039710)
                       (State.publishOffset_frame _) (by decide)) (by decide)) (by decide)) (by decide)) (Frame.of (m := 1039710) (State.shadowBoundary_frame
                       _) (Frame.of (m := 1039710) (State.retireCharge_frame _) (Frame.of (m := 1039710) (State.installSessions_frame _) (Frame.mono
                       (m := 1039710) (State.publishOffset_frame _) (by decide)) (by decide)) (by decide)) (by decide))
  · split
    · with_reducible exact Frame.ite (m := 1039710) (Frame.of (m := 1039710) (State.installCanopy_frame _ _) (Frame.ite (m := 1039710)
                       (Frame.of (m := 1039710) (State.ownerBoundary_frame _) (Frame.of (m := 1039710) (State.retireCharge_frame _) (Frame.of (m := 1039710)
                       (State.installSessions_frame _) (Frame.mono (m := 1039710) (State.publishOffset_frame _) (by decide)) (by decide)) (by decide))
                       (by decide)) (Frame.of (m := 1039710) (State.shadowBoundary_frame _) (Frame.of (m := 1039710) (State.retireCharge_frame _) (Frame.of
                       (m := 1039710) (State.installSessions_frame _) (Frame.mono (m := 1039710) (State.publishOffset_frame _) (by decide)) (by decide))
                       (by decide)) (by decide))) (by decide)) (Frame.ite (m := 1039710) (Frame.of (m := 1039710) (State.ownerBoundary_frame _) (Frame.of
                       (m := 1039710) (State.retireCharge_frame _) (Frame.of (m := 1039710) (State.installSessions_frame _) (Frame.mono (m := 1039710)
                       (State.publishOffset_frame _) (by decide)) (by decide)) (by decide)) (by decide)) (Frame.of (m := 1039710) (State.shadowBoundary_frame
                       _) (Frame.of (m := 1039710) (State.retireCharge_frame _) (Frame.of (m := 1039710) (State.installSessions_frame _) (Frame.mono
                       (m := 1039710) (State.publishOffset_frame _) (by decide)) (by decide)) (by decide)) (by decide)))
    · with_reducible exact Frame.ite (m := 1039710) (Frame.of (m := 1039710) (State.ownerBoundary_frame _) (Frame.of (m := 1039710)
                       (State.retireCharge_frame _) (Frame.of (m := 1039710) (State.installSessions_frame _) (Frame.mono (m := 1039710)
                       (State.publishOffset_frame _) (by decide)) (by decide)) (by decide)) (by decide)) (Frame.of (m := 1039710) (State.shadowBoundary_frame
                       _) (Frame.of (m := 1039710) (State.retireCharge_frame _) (Frame.of (m := 1039710) (State.installSessions_frame _) (Frame.mono
                       (m := 1039710) (State.publishOffset_frame _) (by decide)) (by decide)) (by decide)) (by decide))
  · split
    · split
      · split
        · split
          · with_reducible exact (.inl (by decide))
          · with_reducible exact (.inl (by decide))
        · split
          · with_reducible exact (.inl (by decide))
          · with_reducible exact (.inl (by decide))
      · split
        · split
          · with_reducible exact (.inl (by decide))
          · with_reducible exact (.inl (by decide))
        · split
          · with_reducible exact (.inl (by decide))
          · with_reducible exact (.inl (by decide))
    · split
      · split
        · with_reducible exact (.inl (by decide))
        · with_reducible exact (.inl (by decide))
      · split
        · with_reducible exact (.inl (by decide))
        · with_reducible exact (.inl (by decide))

theorem State.twinBoundary_frame (s : Sys2Proof.Machine.State) (a1 : Bool) : Frame 1039710 s (State.twinBoundary s a1) := by
  unfold State.twinBoundary
  dsimp only
  with_reducible exact Frame.ite (m := 1039710) (Frame.refl 1039710 _) (Frame.ite (m := 1039710) (Frame.of (m := 1039710)
                   (State.apartBoundary_frame _) (Frame.mono (m := 1039710) (State.twinWatch_frame _ _) (by decide)) (by decide)) (Frame.of (m := 1039710)
                   (State.joinedBoundary_frame _) (Frame.mono (m := 1039710) (State.twinWatch_frame _ _) (by decide)) (by decide)))

theorem State.unitsAt_frame (s : Sys2Proof.Machine.State) (a1 : Bool) : Frame 1048414 s (State.unitsAt s a1) := by
  unfold State.unitsAt
  dsimp only
  with_reducible exact Frame.of (m := 1048414) (State.keyRotation_frame _) (Frame.of (m := 1048414) (State.pruneKeys_frame _) (Frame.of
                   (m := 1048414) (State.twinBoundary_frame _ _) (Frame.of (m := 1048414) (State.shuttleBoundary_frame _) (Frame.of (m := 1048414)
                   (State.grovesOut_frame _) (Frame.of (m := 1048414) (State.grovesReady_frame _) (Frame.of (m := 1048414) (State.serviceBoundary_frame _)
                   (Frame.of (m := 1048414) (State.clientsBoundary_frame _) (Frame.of (m := 1048414) (State.servBoundary_frame _) (Frame.of (m := 1048414)
                   (State.netBoundary_frame _) (Frame.of (m := 1048414) (State.dropLate_frame _) (Frame.of (m := 1048414) (State.outputsAt_frame _) (Frame.of
                   (m := 1048414) (State.gladeBoundary_frame _) (Frame.mono (m := 1048414) (State.apllAt_frame _) (by decide)) (by decide)) (by decide))
                   (by decide)) (by decide)) (by decide)) (by decide)) (by decide)) (by decide)) (by decide)) (by decide)) (by decide)) (by decide))
                   (by decide)

theorem State.boundary_frame (s : Sys2Proof.Machine.State) (a1 : Nat) (a2 : Nat) (a3 : Bool) (a4 : List Sys2Proof.Machine.WorkTally) : Frame 1048542 s (State.boundary s a1 a2 a3 a4) := by
  unfold State.boundary
  dsimp only
  with_reducible exact Frame.ite (m := 1048542) (Frame.of (m := 1048542) (State.boundaryApply_frame _) (Frame.mono (m := 1048542)
                   (State.closeTick_frame _ _ _) (by decide)) (by decide)) (Frame.ite (m := 1048542) (Frame.of (m := 1048542) (State.unitsAt_frame _ _)
                   (Frame.of (m := 1048542) (State.setN_frame _ _ _) (Frame.of (m := 1048542) (State.tickBegins_frame _ _) (Frame.of (m := 1048542)
                   (State.boundaryApply_frame _) (Frame.mono (m := 1048542) (State.closeTick_frame _ _ _) (by decide)) (by decide)) (by decide)) (by decide))
                   (by decide)) (Frame.of (m := 1048542) (State.snapshot_frame _) (Frame.of (m := 1048542) (State.keepAt_frame _) (Frame.of (m := 1048542)
                   (State.unitsAt_frame _ _) (Frame.of (m := 1048542) (State.setN_frame _ _ _) (Frame.of (m := 1048542) (State.tickBegins_frame _ _)
                   (Frame.of (m := 1048542) (State.boundaryApply_frame _) (Frame.mono (m := 1048542) (State.closeTick_frame _ _ _) (by decide)) (by decide))
                   (by decide)) (by decide)) (by decide)) (by decide)) (by decide)))

theorem State.measureSkew_frame (s : Sys2Proof.Machine.State) (a1 : Nat) (a2 : List ((Nat × Nat) × Nat × Nat)) (a3 : Nat) : Frame 130 s (State.measureSkew s a1 a2 a3) := by
  unfold State.measureSkew
  dsimp only
  with_reducible exact Frame.ite (m := 130) (Frame.ite (m := 130) (Frame.of (m := 130) (State.setO_frame _ _ _) (Frame.mono (m := 130)
                   (State.setPort_frame _ _ _) (by decide)) (by decide)) (Frame.mono (m := 130) (State.setPort_frame _ _ _) (by decide))) (Frame.mono
                   (m := 130) (State.setPort_frame _ _ _) (by decide))

theorem State.stamperActive_frame (s : Sys2Proof.Machine.State) (a1 : Nat) : Frame 130 s (State.stamperActive s a1) := by
  unfold State.stamperActive
  with_reducible exact Frame.of (m := 130) (State.markRecal_frame _ _) (Frame.mono (m := 130) (State.setStState_frame _ _ _) (by decide))
                   (by decide)

theorem State.calibrated_frame (s : Sys2Proof.Machine.State) (a1 : Nat) (a2 : List ((Nat × Nat) × Nat × Nat)) : Frame 130 s (State.calibrated s a1 a2) := by
  unfold State.calibrated
  dsimp only
  with_reducible exact Frame.of (m := 130) (State.stamperActive_frame _ _) (Frame.ite (m := 130) (Frame.mono (m := 130)
                   (State.measureSkew_frame _ _ _ _) (by decide)) (Frame.mono (m := 130) (State.measureSkew_frame _ _ _ _) (by decide))) (by decide)

theorem State.cancelOne_frame (s : Sys2Proof.Machine.State) (a1 : Nat) (a2 : Sys2Proof.Machine.RxFrame) (a3 : Sys2Proof.Octets) (a4 : Sys2Proof.Octets) : Frame 102418 s (State.cancelOne s a1 a2 a3 a4).1 := by
  unfold State.cancelOne
  dsimp only
  split
  · with_reducible exact Frame.refl 102418 _
  · split
    · with_reducible exact Frame.refl 102418 _
    · with_reducible exact Frame.mono (m := 102418) (State.commitSession_frame _ _ _ _) (by decide)

theorem State.coastBound_frame (s : Sys2Proof.Machine.State) : Frame 1040 s (State.coastBound s) := by
  unfold State.coastBound
  dsimp only
  simp only [State.mk_make]
  with_reducible refine Frame.mk1 (m := 1040) (Frame.refl 1040 _) (.inr rfl) (.inr rfl) (.inr rfl) (.inl (by decide)) (.inr rfl) (.inr rfl)
                   (.inr rfl) (.inr rfl) (.inr rfl) ?_ (.inr rfl) (.inr rfl) (.inr rfl) (.inr rfl) (.inr rfl) (.inr rfl) (.inr rfl) (.inr rfl) (.inr rfl)
  split
  · split
    · split
      · split
        · with_reducible exact (.inl (by decide))
        · with_reducible exact (.inl (by decide))
      · split
        · with_reducible exact (.inl (by decide))
        · with_reducible exact (.inl (by decide))
    · split
      · split
        · with_reducible exact (.inl (by decide))
        · with_reducible exact (.inl (by decide))
      · split
        · with_reducible exact (.inl (by decide))
        · with_reducible exact (.inl (by decide))
  · split
    · split
      · split
        · with_reducible exact (.inl (by decide))
        · with_reducible exact (.inl (by decide))
      · split
        · with_reducible exact (.inl (by decide))
        · with_reducible exact (.inl (by decide))
    · split
      · split
        · with_reducible exact (.inl (by decide))
        · with_reducible exact (.inl (by decide))
      · split
        · with_reducible exact (.inl (by decide))
        · with_reducible exact (.inl (by decide))

theorem State.coreBound_frame (s : Sys2Proof.Machine.State) : Frame 1024 s (State.coreBound s) := by
  unfold State.coreBound
  dsimp only
  simp only [State.mk_make]
  with_reducible refine Frame.ite (m := 1024) (Frame.of (m := 1024) (State.setNext_frame _ _ _ _ _ _) (Frame.up10 (m := 1024) (Frame.refl
                   1024 _) (by decide)) (by decide)) (Frame.ite (m := 1024) ?_ ?_)
  · split
    · with_reducible exact Frame.of (m := 1024) (State.setNext_frame _ _ _ _ _ _) (Frame.up10 (m := 1024) (Frame.refl 1024 _) (by decide))
                       (by decide)
    · with_reducible exact Frame.of (m := 1024) (State.setHold_frame _ _ _) (Frame.up10 (m := 1024) (Frame.refl 1024 _) (by decide))
                       (by decide)
  · split
    · with_reducible exact Frame.of (m := 1024) (State.setNext_frame _ _ _ _ _ _) (Frame.up10 (m := 1024) (Frame.refl 1024 _) (by decide))
                       (by decide)
    · with_reducible exact Frame.of (m := 1024) (State.setNext_frame _ _ _ _ _ _) (Frame.up10 (m := 1024) (Frame.refl 1024 _) (by decide))
                       (by decide)

theorem State.discardEpoch_frame (s : Sys2Proof.Machine.State) : Frame 1026 s (State.discardEpoch s) := by
  unfold State.discardEpoch
  dsimp only
  simp only [State.mk_make]
  with_reducible refine Frame.ite (m := 1026) (Frame.of (m := 1026) (State.inc_frame _ _) (Frame.mk1 (m := 1026) (Frame.refl 1026 _)
                   (.inr rfl) (.inr rfl) (.inr rfl) (.inr rfl) (.inr rfl) (.inr rfl) (.inr rfl) (.inr rfl) (.inr rfl) ?_ (.inr rfl) (.inr rfl) (.inr rfl)
                   (.inr rfl) (.inr rfl) (.inr rfl) (.inr rfl) (.inr rfl) (.inr rfl)) (by decide)) (Frame.refl 1026 _)
  split
  · with_reducible exact (.inl (by decide))
  · with_reducible exact (.inl (by decide))

theorem State.setWork_frame (s : Sys2Proof.Machine.State) (a1 : Sys2Proof.Machine.EpochWork) : Frame 1024 s (State.setWork s a1) := by
  unfold State.setWork
  dsimp only
  simp only [State.mk_make]
  with_reducible exact Frame.up10 (m := 1024) (Frame.refl 1024 _) (by decide)

theorem State.slot0_frame (s : Sys2Proof.Machine.State) : Frame 1024 s (State.slot0 s) := by
  unfold State.slot0
  dsimp only
  simp only [State.mk_make]
  with_reducible exact Frame.up10 (m := 1024) (Frame.refl 1024 _) (by decide)

theorem State.decide1_frame (s : Sys2Proof.Machine.State) (a1 : Sys2Proof.Machine.EpochWork) (a2 : Nat) : Frame 1024 s (State.decide1 s a1 a2) := by
  unfold State.decide1
  dsimp only
  with_reducible refine Frame.ite (m := 1024) ?_ (Frame.ite (m := 1024) (Frame.ite (m := 1024) ?_ (Frame.ite (m := 1024) (Frame.ite
                   (m := 1024) ?_ (Frame.ite (m := 1024) ?_ ?_)) ?_)) (Frame.refl 1024 _))
  · split
    · with_reducible refine Frame.ite (m := 1024) ?_ (Frame.refl 1024 _)
      split
      · with_reducible refine Frame.of (m := 1024) (State.setWork_frame _ _) ?_ (by decide)
        split
        · with_reducible exact Frame.mono (m := 1024) (State.setWork_frame _ _) (by decide)
        · with_reducible exact Frame.refl 1024 _
      · split
        · with_reducible exact Frame.mono (m := 1024) (State.setWork_frame _ _) (by decide)
        · with_reducible exact Frame.refl 1024 _
    · with_reducible exact Frame.refl 1024 _
  · split
    · with_reducible exact Frame.mono (m := 1024) (State.setWork_frame _ _) (by decide)
    · with_reducible exact Frame.refl 1024 _
  · split
    · split
      · with_reducible refine Frame.of (m := 1024) (State.setWork_frame _ _) ?_ (by decide)
        split
        · with_reducible exact Frame.mono (m := 1024) (State.setWork_frame _ _) (by decide)
        · with_reducible exact Frame.refl 1024 _
      · split
        · with_reducible exact Frame.mono (m := 1024) (State.setWork_frame _ _) (by decide)
        · with_reducible exact Frame.refl 1024 _
    · split
      · with_reducible exact Frame.mono (m := 1024) (State.setWork_frame _ _) (by decide)
      · with_reducible exact Frame.refl 1024 _
  · split
    · with_reducible exact Frame.mono (m := 1024) (State.setWork_frame _ _) (by decide)
    · with_reducible exact Frame.refl 1024 _
  · split
    · with_reducible exact Frame.mono (m := 1024) (State.setWork_frame _ _) (by decide)
    · with_reducible exact Frame.refl 1024 _
  · split
    · with_reducible exact Frame.mono (m := 1024) (State.setWork_frame _ _) (by decide)
    · with_reducible exact Frame.refl 1024 _

theorem State.slot35_frame (s : Sys2Proof.Machine.State) : Frame 1024 s (State.slot35 s) := by
  unfold State.slot35
  dsimp only
  split
  · with_reducible exact Frame.refl 1024 _
  · split
    · with_reducible exact Frame.foldl (m := 1024) (fun _ => fun _ => Frame.mono (m := 1024) (State.decide1_frame _ _ _) (by decide))
                       (Frame.mono (m := 1024) (State.setWork_frame _ _) (by decide))
    · with_reducible exact Frame.of (m := 1024) (State.setWork_frame _ _) (Frame.foldl (m := 1024) (fun _ => fun _ => Frame.mono (m := 1024)
                       (State.decide1_frame _ _ _) (by decide)) (Frame.mono (m := 1024) (State.setWork_frame _ _) (by decide))) (by decide)

theorem State.memberFault_frame (s : Sys2Proof.Machine.State) (a1 : Nat) : Frame 743774 s (State.memberFault s a1) := by
  unfold State.memberFault
  dsimp only
  with_reducible exact Frame.ite (m := 743774) (Frame.refl 743774 _) (Frame.of (m := 743774) (State.faulted_frame _ _ _ _) (Frame.of
                   (m := 743774) (State.setN_frame _ _ _) (Frame.mono (m := 743774) (State.setO_frame _ _ _) (by decide)) (by decide)) (by decide))

theorem State.slotMember_frame (s : Sys2Proof.Machine.State) (a1 : Sys2Proof.Machine.EpochWork) (a2 : Nat) : Frame 744798 s (State.slotMember s a1 a2) := by
  unfold State.slotMember
  dsimp only
  with_reducible refine Frame.ite (m := 744798) (Frame.refl 744798 _) ?_
  split
  · with_reducible exact Frame.mono (m := 744798) (State.setWork_frame _ _) (by decide)
  · with_reducible exact Frame.ite (m := 744798) (Frame.refl 744798 _) (Frame.ite (m := 744798) (Frame.mono (m := 744798)
                     (State.memberFault_frame _ _) (by decide)) (Frame.ite (m := 744798) (Frame.mono (m := 744798) (State.setWork_frame _ _) (by decide))
                     (Frame.mono (m := 744798) (State.setWork_frame _ _) (by decide))))

theorem State.slotPairs_frame (s : Sys2Proof.Machine.State) (a1 : Sys2Proof.Machine.EpochWork) (a2 : Nat) : Frame 744798 s (State.slotPairs s a1 a2) := by
  unfold State.slotPairs
  dsimp only
  with_reducible refine Frame.ite (m := 744798) (Frame.refl 744798 _) ?_
  split
  · with_reducible exact Frame.refl 744798 _
  · with_reducible refine Frame.foldl (m := 744798) (fun _ => fun _ => ?_) (Frame.refl 744798 _)
    split
    · with_reducible exact Frame.refl 744798 _
    · split
      · with_reducible exact Frame.refl 744798 _
      · with_reducible exact Frame.ite (m := 744798) (Frame.of (m := 744798) (State.memberFault_frame _ _) (Frame.mono (m := 744798)
                         (State.memberFault_frame _ _) (by decide)) (by decide)) (Frame.ite (m := 744798) (Frame.mono (m := 744798) (State.setWork_frame _ _)
                         (by decide)) (Frame.mono (m := 744798) (State.setWork_frame _ _) (by decide)))

theorem State.slotPropagate_frame (s : Sys2Proof.Machine.State) (a1 : Sys2Proof.Machine.EpochWork) (a2 : Nat) : Frame 1024 s (State.slotPropagate s a1 a2) := by
  unfold State.slotPropagate
  dsimp only
  with_reducible exact Frame.ite (m := 1024) (Frame.refl 1024 _) (Frame.mono (m := 1024) (State.setWork_frame _ _) (by decide))

theorem State.slotReference_frame (s : Sys2Proof.Machine.State) (a1 : Sys2Proof.Machine.EpochWork) : Frame 1024 s (State.slotReference s a1) := by
  unfold State.slotReference
  dsimp only
  with_reducible exact Frame.ite (m := 1024) (Frame.ite (m := 1024) (Frame.refl 1024 _) (Frame.mono (m := 1024) (State.setWork_frame _ _)
                   (by decide))) (Frame.refl 1024 _)

theorem State.takePlaneStep_frame (s : Sys2Proof.Machine.State) (a1 : Sys2Proof.Machine.EpochWork) : Frame 1024 s (State.takePlaneStep s a1) := by
  unfold State.takePlaneStep
  dsimp only
  simp only [State.mk_make]
  split
  · with_reducible exact Frame.ite (m := 1024) (Frame.up10 (m := 1024) (Frame.refl 1024 _) (by decide)) (Frame.refl 1024 _)
  · with_reducible exact Frame.ite (m := 1024) (Frame.refl 1024 _) (Frame.up10 (m := 1024) (Frame.mono (m := 1024) (State.setWork_frame _ _)
                     (by decide)) (by decide))

theorem State.planeSaturated_frame (s : Sys2Proof.Machine.State) : Frame 744798 s (State.planeSaturated s) := by
  unfold State.planeSaturated
  dsimp only
  simp only [State.mk_make]
  with_reducible exact Frame.ite (m := 744798) (Frame.refl 744798 _) (Frame.of (m := 744798) (State.forceUnbounded_frame _) (Frame.of
                   (m := 744798) (State.faulted_frame _ _ _ _) (Frame.up10 (m := 744798) (Frame.refl 744798 _) (by decide)) (by decide)) (by decide))

theorem State.takeSaturation_frame (s : Sys2Proof.Machine.State) : Frame 744798 s (State.takeSaturation s) := by
  unfold State.takeSaturation
  dsimp only
  split
  · with_reducible exact Frame.refl 744798 _
  · with_reducible exact Frame.foldl (m := 744798) (fun _ => fun _ => Frame.ite (m := 744798) (Frame.mono (m := 744798)
                     (State.planeSaturated_frame _) (by decide)) (Frame.mono (m := 744798) (State.memberFault_frame _ _) (by decide))) (Frame.mono
                     (m := 744798) (State.setWork_frame _ _) (by decide))

theorem State.ensembleSlot_frame (s : Sys2Proof.Machine.State) : Frame 744798 s (State.ensembleSlot s) := by
  unfold State.ensembleSlot
  dsimp only
  with_reducible refine Frame.ite (m := 744798) (Frame.mono (m := 744798) (State.slot0_frame _) (by decide)) ?_
  split
  · with_reducible exact Frame.refl 744798 _
  · with_reducible refine Frame.of (m := 744798) (State.takeSaturation_frame _) (Frame.ite (m := 744798) (Frame.ite (m := 744798) ?_
                     (Frame.mono (m := 744798) (State.slotPropagate_frame _ _ _) (by decide))) (Frame.ite (m := 744798) (Frame.mono (m := 744798)
                     (State.slotReference_frame _ _) (by decide)) (Frame.ite (m := 744798) (Frame.ite (m := 744798) (Frame.of (m := 744798)
                     (State.slotPairs_frame _ _ _) (Frame.mono (m := 744798) (State.slotMember_frame _ _ _) (by decide)) (by decide)) (Frame.mono
                     (m := 744798) (State.slotMember_frame _ _ _) (by decide))) (Frame.ite (m := 744798) (Frame.mono (m := 744798) (State.slot35_frame _)
                     (by decide)) (Frame.ite (m := 744798) (Frame.mono (m := 744798) (State.setWork_frame _ _) (by decide)) (Frame.refl 744798 _))))))
                     (by decide)
    split
    · with_reducible exact Frame.of (m := 744798) (State.slotPropagate_frame _ _ _) (Frame.mono (m := 744798) (State.takePlaneStep_frame _
                       _) (by decide)) (by decide)
    · with_reducible exact Frame.mono (m := 744798) (State.takePlaneStep_frame _ _) (by decide)

theorem State.publishCoast_frame (s : Sys2Proof.Machine.State) : Frame 2 s (State.publishCoast s) := by
  unfold State.publishCoast
  with_reducible exact Frame.mono (m := 2) (State.setN_frame _ _ _) (by decide)

theorem State.requestFirst_frame (s : Sys2Proof.Machine.State) : Frame 744798 s (State.requestFirst s) := by
  unfold State.requestFirst
  dsimp only
  simp only [State.mk_make]
  with_reducible refine Frame.ite (m := 744798) (Frame.of (m := 744798) (State.planeSaturated_frame _) (Frame.mk1 (m := 744798) (Frame.refl
                   744798 _) (.inr rfl) (.inr rfl) (.inr rfl) (.inl (by decide)) (.inr rfl) (.inr rfl) (.inr rfl) (.inr rfl) (.inr rfl) ?_ (.inr rfl)
                   (.inr rfl) (.inr rfl) (.inr rfl) (.inr rfl) (.inr rfl) (.inr rfl) (.inr rfl) (.inr rfl)) (by decide)) (Frame.mk1 (m := 744798) (Frame.refl
                   744798 _) (.inr rfl) (.inr rfl) (.inr rfl) (.inl (by decide)) (.inr rfl) (.inr rfl) (.inr rfl) (.inr rfl) (.inr rfl) ?_ (.inr rfl)
                   (.inr rfl) (.inr rfl) (.inr rfl) (.inr rfl) (.inr rfl) (.inr rfl) (.inr rfl) (.inr rfl))
  · split
    · split
      · with_reducible exact (.inl (by decide))
      · with_reducible exact (.inl (by decide))
    · split
      · split
        · with_reducible exact (.inl (by decide))
        · with_reducible exact (.inl (by decide))
      · split
        · with_reducible exact (.inl (by decide))
        · with_reducible exact (.inl (by decide))
  · split
    · split
      · with_reducible exact (.inl (by decide))
      · with_reducible exact (.inl (by decide))
    · split
      · split
        · with_reducible exact (.inl (by decide))
        · with_reducible exact (.inl (by decide))
      · split
        · with_reducible exact (.inl (by decide))
        · with_reducible exact (.inl (by decide))

end Sys2Proof.Machine
end

