-- ==== Sys2Proof/Laws/Frames7.lean ====
section
/-!
SUPPORT. The frames of operations and commands, part 7.
-/

namespace Sys2Proof.Machine

theorem State.recordReturn_frame (s : Sys2Proof.Machine.State) (a1 : Int) : Frame 1026 s (State.recordReturn s a1) := by
  unfold State.recordReturn
  dsimp only
  simp only [State.mk_make]
  split
  · with_reducible exact Frame.refl 1026 _
  · with_reducible exact Frame.ite (m := 1026) (Frame.of (m := 1026) (State.inc_frame _ _) (Frame.of (m := 1026) (State.setO_frame _ _ _)
                     (Frame.up10 (m := 1026) (Frame.refl 1026 _) (by decide)) (by decide)) (by decide)) (Frame.of (m := 1026) (State.setO_frame _ _ _)
                     (Frame.up10 (m := 1026) (Frame.refl 1026 _) (by decide)) (by decide))

theorem State.servo_frame (s : Sys2Proof.Machine.State) (a1 : Nat) (a2 : Int) : Frame 744798 s (State.servo s a1 a2) := by
  unfold State.servo
  dsimp only
  simp only [State.mk_make]
  with_reducible refine Frame.ite (m := 744798) (Frame.of (m := 744798) (State.planeSaturated_frame _) (Frame.mk1 (m := 744798) (Frame.ite
                   (m := 744798) (Frame.of (m := 744798) (State.setO_frame _ _ _) (Frame.mono (m := 744798) (State.setO_frame _ _ _) (by decide))
                   (by decide)) (Frame.of (m := 744798) (State.inc_frame _ _) (Frame.of (m := 744798) (State.setO_frame _ _ _) (Frame.mono (m := 744798)
                   (State.setO_frame _ _ _) (by decide)) (by decide)) (by decide))) (.inr rfl) (.inr rfl) (.inr rfl) (.inr rfl) (.inr rfl) (.inr rfl)
                   (.inr rfl) (.inr rfl) (.inr rfl) ?_ (.inr rfl) (.inr rfl) (.inr rfl) (.inr rfl) (.inr rfl) (.inr rfl) (.inr rfl) (.inr rfl) (.inr rfl))
                   (by decide)) (Frame.mk1 (m := 744798) (Frame.ite (m := 744798) (Frame.of (m := 744798) (State.setO_frame _ _ _) (Frame.mono (m := 744798)
                   (State.setO_frame _ _ _) (by decide)) (by decide)) (Frame.of (m := 744798) (State.inc_frame _ _) (Frame.of (m := 744798) (State.setO_frame
                   _ _ _) (Frame.mono (m := 744798) (State.setO_frame _ _ _) (by decide)) (by decide)) (by decide))) (.inr rfl) (.inr rfl) (.inr rfl)
                   (.inr rfl) (.inr rfl) (.inr rfl) (.inr rfl) (.inr rfl) (.inr rfl) ?_ (.inr rfl) (.inr rfl) (.inr rfl) (.inr rfl) (.inr rfl) (.inr rfl)
                   (.inr rfl) (.inr rfl) (.inr rfl))
  · split
    · split
      · split
        · split
          · with_reducible exact (.inl (by decide))
          · with_reducible exact (.inl (by decide))
        · split
          · with_reducible exact (.inl (by decide))
          · with_reducible exact (.inl (by decide))
      · split
        · split
          · with_reducible exact (.inl (by decide))
          · with_reducible exact (.inl (by decide))
        · split
          · with_reducible exact (.inl (by decide))
          · with_reducible exact (.inl (by decide))
    · split
      · split
        · with_reducible exact (.inl (by decide))
        · with_reducible exact (.inl (by decide))
      · split
        · with_reducible exact (.inl (by decide))
        · with_reducible exact (.inl (by decide))
  · split
    · split
      · split
        · split
          · with_reducible exact (.inl (by decide))
          · with_reducible exact (.inl (by decide))
        · split
          · with_reducible exact (.inl (by decide))
          · with_reducible exact (.inl (by decide))
      · split
        · split
          · with_reducible exact (.inl (by decide))
          · with_reducible exact (.inl (by decide))
        · split
          · with_reducible exact (.inl (by decide))
          · with_reducible exact (.inl (by decide))
    · split
      · split
        · with_reducible exact (.inl (by decide))
        · with_reducible exact (.inl (by decide))
      · split
        · with_reducible exact (.inl (by decide))
        · with_reducible exact (.inl (by decide))

theorem State.servoTick_frame (s : Sys2Proof.Machine.State) : Frame 744798 s (State.servoTick s) := by
  unfold State.servoTick
  dsimp only
  simp only [State.mk_make]
  with_reducible refine Frame.ite (m := 744798) ?_ (Frame.ite (m := 744798) (Frame.of (m := 744798) (State.servo_frame _ _ _) (Frame.of
                   (m := 744798) (State.setO_frame _ _ _) (Frame.mk1 (m := 744798) (Frame.refl 744798 _) (.inr rfl) (.inr rfl) (.inr rfl) (.inr rfl)
                   (.inr rfl) (.inr rfl) (.inr rfl) (.inr rfl) (.inr rfl) ?_ (.inr rfl) (.inr rfl) (.inr rfl) (.inr rfl) (.inr rfl) (.inr rfl) (.inr rfl)
                   (.inr rfl) (.inr rfl)) (by decide)) (by decide)) (Frame.ite (m := 744798) ?_ (Frame.mk1 (m := 744798) (Frame.refl 744798 _) (.inr rfl)
                   (.inr rfl) (.inr rfl) (.inr rfl) (.inr rfl) (.inr rfl) (.inr rfl) (.inr rfl) (.inr rfl) ?_ (.inr rfl) (.inr rfl) (.inr rfl) (.inr rfl)
                   (.inr rfl) (.inr rfl) (.inr rfl) (.inr rfl) (.inr rfl))))
  · split
    · with_reducible refine Frame.ite (m := 744798) (Frame.of (m := 744798) (State.servo_frame _ _ _) (Frame.ite (m := 744798) (Frame.of
                       (m := 744798) (State.recordReturn_frame _ _) (Frame.mk1 (m := 744798) (Frame.refl 744798 _) (.inr rfl) (.inr rfl) (.inr rfl)
                       (.inr rfl) (.inr rfl) (.inr rfl) (.inr rfl) (.inr rfl) (.inr rfl) ?_ (.inr rfl) (.inr rfl) (.inr rfl) (.inr rfl) (.inr rfl) (.inr rfl)
                       (.inr rfl) (.inr rfl) (.inr rfl)) (by decide)) (Frame.mk1 (m := 744798) (Frame.refl 744798 _) (.inr rfl) (.inr rfl) (.inr rfl)
                       (.inr rfl) (.inr rfl) (.inr rfl) (.inr rfl) (.inr rfl) (.inr rfl) ?_ (.inr rfl) (.inr rfl) (.inr rfl) (.inr rfl) (.inr rfl) (.inr rfl)
                       (.inr rfl) (.inr rfl) (.inr rfl))) (by decide)) (Frame.mk1 (m := 744798) (Frame.refl 744798 _) (.inr rfl) (.inr rfl) (.inr rfl)
                       (.inr rfl) (.inr rfl) (.inr rfl) (.inr rfl) (.inr rfl) (.inr rfl) ?_ (.inr rfl) (.inr rfl) (.inr rfl) (.inr rfl) (.inr rfl) (.inr rfl)
                       (.inr rfl) (.inr rfl) (.inr rfl))
      · split
        · with_reducible exact (.inl (by decide))
        · with_reducible exact (.inl (by decide))
      · split
        · with_reducible exact (.inl (by decide))
        · with_reducible exact (.inl (by decide))
      · split
        · with_reducible exact (.inl (by decide))
        · with_reducible exact (.inl (by decide))
    · with_reducible refine Frame.mk1 (m := 744798) (Frame.refl 744798 _) (.inr rfl) (.inr rfl) (.inr rfl) (.inr rfl) (.inr rfl) (.inr rfl)
                       (.inr rfl) (.inr rfl) (.inr rfl) ?_ (.inr rfl) (.inr rfl) (.inr rfl) (.inr rfl) (.inr rfl) (.inr rfl) (.inr rfl) (.inr rfl) (.inr rfl)
      split
      · with_reducible exact (.inl (by decide))
      · with_reducible exact (.inl (by decide))
  · split
    · with_reducible exact (.inl (by decide))
    · with_reducible exact (.inl (by decide))
  · split
    · with_reducible refine Frame.of (m := 744798) (State.servo_frame _ _ _) (Frame.of (m := 744798) (State.recordReturn_frame _ _)
                       (Frame.mk1 (m := 744798) (Frame.refl 744798 _) (.inr rfl) (.inr rfl) (.inr rfl) (.inr rfl) (.inr rfl) (.inr rfl) (.inr rfl) (.inr rfl)
                       (.inr rfl) ?_ (.inr rfl) (.inr rfl) (.inr rfl) (.inr rfl) (.inr rfl) (.inr rfl) (.inr rfl) (.inr rfl) (.inr rfl)) (by decide))
                       (by decide)
      split
      · with_reducible exact (.inl (by decide))
      · with_reducible exact (.inl (by decide))
    · with_reducible refine Frame.mk1 (m := 744798) (Frame.refl 744798 _) (.inr rfl) (.inr rfl) (.inr rfl) (.inr rfl) (.inr rfl) (.inr rfl)
                       (.inr rfl) (.inr rfl) (.inr rfl) ?_ (.inr rfl) (.inr rfl) (.inr rfl) (.inr rfl) (.inr rfl) (.inr rfl) (.inr rfl) (.inr rfl) (.inr rfl)
      split
      · with_reducible exact (.inl (by decide))
      · with_reducible exact (.inl (by decide))
  · split
    · with_reducible exact (.inl (by decide))
    · with_reducible exact (.inl (by decide))

theorem State.takeObservations_frame (s : Sys2Proof.Machine.State) : Frame 1024 s (State.takeObservations s) := by
  unfold State.takeObservations
  dsimp only
  simp only [State.mk_make]
  with_reducible refine Frame.mk1 (m := 1024) (Frame.refl 1024 _) (.inr rfl) (.inr rfl) (.inr rfl) (.inr rfl) (.inr rfl) (.inr rfl)
                   (.inr rfl) (.inr rfl) (.inr rfl) ?_ (.inr rfl) (.inr rfl) (.inr rfl) (.inr rfl) (.inr rfl) (.inr rfl) (.inr rfl) (.inr rfl) (.inr rfl)
  split
  · split
    · split
      · split
        · split
          · with_reducible exact (.inl (by decide))
          · with_reducible exact (.inl (by decide))
        · split
          · with_reducible exact (.inl (by decide))
          · with_reducible exact (.inl (by decide))
      · split
        · with_reducible exact (.inl (by decide))
        · with_reducible exact (.inl (by decide))
    · split
      · split
        · split
          · with_reducible exact (.inl (by decide))
          · with_reducible exact (.inl (by decide))
        · split
          · with_reducible exact (.inl (by decide))
          · with_reducible exact (.inl (by decide))
      · split
        · with_reducible exact (.inl (by decide))
        · with_reducible exact (.inl (by decide))
  · split
    · split
      · split
        · split
          · with_reducible exact (.inl (by decide))
          · with_reducible exact (.inl (by decide))
        · split
          · with_reducible exact (.inl (by decide))
          · with_reducible exact (.inl (by decide))
      · split
        · with_reducible exact (.inl (by decide))
        · with_reducible exact (.inl (by decide))
    · split
      · split
        · split
          · with_reducible exact (.inl (by decide))
          · with_reducible exact (.inl (by decide))
        · split
          · with_reducible exact (.inl (by decide))
          · with_reducible exact (.inl (by decide))
      · split
        · with_reducible exact (.inl (by decide))
        · with_reducible exact (.inl (by decide))

theorem State.canopyInputs_frame (s : Sys2Proof.Machine.State) (a1 : Sys2Proof.Machine.TwinInputs) : Frame 744798 s (State.canopyInputs s a1) := by
  unfold State.canopyInputs
  dsimp only
  with_reducible refine Frame.of (m := 744798) (State.canopyBoundary_frame _) (Frame.of (m := 744798) (State.takeSwitched_frame _) ?_
                   (by decide)) (by decide)
  split
  · with_reducible exact Frame.of (m := 744798) (State.canopyStepped_frame _ _ _) (Frame.ite (m := 744798) (Frame.of (m := 744798)
                     (State.unanchor_frame _) (Frame.foldl (m := 744798) (fun _ => fun _ => Frame.mono (m := 744798) (State.steerApplied_frame _ _ _)
                     (by decide)) (Frame.mono (m := 744798) (State.takeLength_frame _ _ _) (by decide))) (by decide)) (Frame.foldl (m := 744798) (fun _ =>
                     fun _ => Frame.mono (m := 744798) (State.steerApplied_frame _ _ _) (by decide)) (Frame.mono (m := 744798) (State.takeLength_frame _ _ _)
                     (by decide)))) (by decide)
  · with_reducible exact Frame.ite (m := 744798) (Frame.of (m := 744798) (State.unanchor_frame _) (Frame.foldl (m := 744798) (fun _ => fun _
                     => Frame.mono (m := 744798) (State.steerApplied_frame _ _ _) (by decide)) (Frame.mono (m := 744798) (State.takeLength_frame _ _ _)
                     (by decide))) (by decide)) (Frame.foldl (m := 744798) (fun _ => fun _ => Frame.mono (m := 744798) (State.steerApplied_frame _ _ _)
                     (by decide)) (Frame.mono (m := 744798) (State.takeLength_frame _ _ _) (by decide)))

theorem State.holdoverMode_frame (s : Sys2Proof.Machine.State) (a1 : Sys2Proof.Machine.TwinInputs) (a2 : Bool) : Frame 744798 s (State.holdoverMode s a1 a2) := by
  unfold State.holdoverMode
  with_reducible exact Frame.of (m := 744798) (State.holdBegins_frame _) (Frame.of (m := 744798) (State.holdNow_frame _) (Frame.ite
                   (m := 744798) (Frame.mono (m := 744798) (State.enterHoldover_frame _ _) (by decide)) (Frame.ite (m := 744798) (Frame.mono (m := 744798)
                   (State.leaveHoldover_frame _ _) (by decide)) (Frame.refl 744798 _))) (by decide)) (by decide)

theorem State.canopyUpdate_frame (s : Sys2Proof.Machine.State) : Frame 744798 s (State.canopyUpdate s) := by
  unfold State.canopyUpdate
  dsimp only
  simp only [State.mk_make]
  with_reducible exact Frame.of (m := 744798) (State.coreBound_frame _) (Frame.of (m := 744798) (State.publishCoast_frame _) (Frame.of
                   (m := 744798) (State.ensembleSlot_frame _) (Frame.of (m := 744798) (State.servoTick_frame _) (Frame.ite (m := 744798) (Frame.of
                   (m := 744798) (State.requestFirst_frame _) (Frame.of (m := 744798) (State.takeObservations_frame _) (Frame.up4 (m := 744798) (Frame.refl
                   744798 _) (by decide)) (by decide)) (by decide)) (Frame.of (m := 744798) (State.takeObservations_frame _) (Frame.up4 (m := 744798)
                   (Frame.refl 744798 _) (by decide)) (by decide))) (by decide)) (by decide)) (by decide)) (by decide)

theorem State.canopyTick_frame (s : Sys2Proof.Machine.State) (a1 : Sys2Proof.Machine.TwinInputs) : Frame 744798 s (State.canopyTick s a1) := by
  unfold State.canopyTick
  dsimp only
  with_reducible exact Frame.ite (m := 744798) (Frame.of (m := 744798) (State.discardEpoch_frame _) (Frame.of (m := 744798)
                   (State.coastBound_frame _) (Frame.of (m := 744798) (State.holdoverMode_frame _ _ _) (Frame.mono (m := 744798) (State.canopyInputs_frame _
                   _) (by decide)) (by decide)) (by decide)) (by decide)) (Frame.of (m := 744798) (State.canopyUpdate_frame _) (Frame.of (m := 744798)
                   (State.holdoverMode_frame _ _ _) (Frame.mono (m := 744798) (State.canopyInputs_frame _ _) (by decide)) (by decide)) (by decide))

theorem State.toHost_frame (s : Sys2Proof.Machine.State) (a1 : Sys2Proof.Octets) : Frame 147456 s (State.toHost s a1) := by
  unfold State.toHost
  dsimp only
  simp only [State.mk_make]
  with_reducible exact Frame.ite (m := 147456) (Frame.of (m := 147456) (State.vector_frame _ _ _) (Frame.up17 (m := 147456) (Frame.mono
                   (m := 147456) (State.setReg_frame _ _ _ _) (by decide)) (by decide)) (by decide)) (Frame.up17 (m := 147456) (Frame.mono (m := 147456)
                   (State.setReg_frame _ _ _ _) (by decide)) (by decide))

theorem State.capGap_frame (s : Sys2Proof.Machine.State) (a1 : Nat) (a2 : Nat) (a3 : Nat) : Frame 147458 s (State.capGap s a1 a2 a3) := by
  unfold State.capGap
  dsimp only
  with_reducible exact Frame.of (m := 147458) (State.addN_frame _ _ _) (Frame.of (m := 147458) (State.inc_frame _ _) (Frame.mono
                   (m := 147458) (State.toHost_frame _ _) (by decide)) (by decide)) (by decide)

theorem State.captureCopy_frame (s : Sys2Proof.Machine.State) (a1 : Bool) : Frame 147458 s (State.captureCopy s a1) := by
  unfold State.captureCopy
  dsimp only
  simp only [State.mk_make]
  with_reducible refine Frame.ite (m := 147458) (Frame.refl 147458 _) (Frame.ite (m := 147458) ?_ ?_)
  · split
    · with_reducible exact Frame.ite (m := 147458) (Frame.up17 (m := 147458) (Frame.mono (m := 147458) (State.capGap_frame _ _ _ _)
                       (by decide)) (by decide)) (Frame.refl 147458 _)
    · with_reducible exact Frame.refl 147458 _
  · split
    · with_reducible refine Frame.of (m := 147458) (State.showRing_frame _) ?_ (by decide)
      split
      · with_reducible exact Frame.ite (m := 147458) (Frame.up17 (m := 147458) (Frame.mono (m := 147458) (State.capGap_frame _ _ _ _)
                         (by decide)) (by decide)) (Frame.refl 147458 _)
      · with_reducible exact Frame.refl 147458 _
    · with_reducible refine Frame.ite (m := 147458) (Frame.of (m := 147458) (State.showRing_frame _) ?_ (by decide)) (Frame.of (m := 147458)
                       (State.showRing_frame _) (Frame.mk1 (m := 147458) (Frame.ite (m := 147458) (Frame.of (m := 147458) (State.capGap_frame _ _ _ _) ?_
                       (by decide)) (Frame.of (m := 147458) (State.toHost_frame _ _) ?_ (by decide))) (.inr rfl) (.inr rfl) (.inr rfl) (.inr rfl) (.inr rfl)
                       (.inr rfl) (.inr rfl) (.inr rfl) (.inr rfl) (.inr rfl) (.inr rfl) (.inr rfl) (.inr rfl) (.inr rfl) (.inr rfl) (.inr rfl) ?_ (.inr rfl)
                       (.inr rfl)) (by decide))
      · split
        · with_reducible exact Frame.ite (m := 147458) (Frame.up17 (m := 147458) (Frame.mono (m := 147458) (State.capGap_frame _ _ _ _)
                           (by decide)) (by decide)) (Frame.refl 147458 _)
        · with_reducible exact Frame.refl 147458 _
      · split
        · with_reducible exact Frame.ite (m := 147458) (Frame.up17 (m := 147458) (Frame.mono (m := 147458) (State.capGap_frame _ _ _ _)
                           (by decide)) (by decide)) (Frame.refl 147458 _)
        · with_reducible exact Frame.refl 147458 _
      · split
        · with_reducible exact Frame.ite (m := 147458) (Frame.up17 (m := 147458) (Frame.mono (m := 147458) (State.capGap_frame _ _ _ _)
                           (by decide)) (by decide)) (Frame.refl 147458 _)
        · with_reducible exact Frame.refl 147458 _
      · split
        · split
          · split
            · with_reducible exact (.inl (by decide))
            · with_reducible exact (.inl (by decide))
          · with_reducible exact (.inl (by decide))
        · split
          · split
            · with_reducible exact (.inl (by decide))
            · with_reducible exact (.inl (by decide))
          · with_reducible exact (.inl (by decide))

theorem State.captureWrite_frame (s : Sys2Proof.Machine.State) (a1 : Nat) (a2 : Nat) : Frame 147458 s (State.captureWrite s a1 a2) := by
  unfold State.captureWrite
  dsimp only
  simp only [State.mk_make]
  with_reducible refine Frame.ite (m := 147458) (Frame.ite (m := 147458) (Frame.refl 147458 _) (Frame.mono (m := 147458) (State.setReg_frame
                   _ _ _ _) (by decide))) (Frame.ite (m := 147458) (Frame.ite (m := 147458) (Frame.refl 147458 _) (Frame.mono (m := 147458)
                   (State.setReg_frame _ _ _ _) (by decide))) (Frame.ite (m := 147458) (Frame.mono (m := 147458) (State.setReg_frame _ _ _ _) (by decide))
                   (Frame.ite (m := 147458) (Frame.ite (m := 147458) (Frame.of (m := 147458) (State.showRing_frame _) (Frame.mk1 (m := 147458) (Frame.of
                   (m := 147458) (State.setReg_frame _ _ _ _) (Frame.of (m := 147458) (State.setReg_frame _ _ _ _) (Frame.mono (m := 147458)
                   (State.setReg_frame _ _ _ _) (by decide)) (by decide)) (by decide)) (.inr rfl) (.inr rfl) (.inr rfl) (.inr rfl) (.inr rfl) (.inr rfl)
                   (.inr rfl) (.inr rfl) (.inr rfl) (.inr rfl) (.inr rfl) (.inr rfl) (.inr rfl) (.inr rfl) (.inr rfl) (.inr rfl) ?_ (.inr rfl) (.inr rfl))
                   (by decide)) (Frame.of (m := 147458) (State.showRing_frame _) (Frame.mono (m := 147458) (State.setReg_frame _ _ _ _) (by decide))
                   (by decide))) (Frame.ite (m := 147458) (Frame.ite (m := 147458) (Frame.of (m := 147458) (State.setReg_frame _ _ _ _) (Frame.of
                   (m := 147458) (State.setReg_frame _ _ _ _) (Frame.mono (m := 147458) (State.setReg_frame _ _ _ _) (by decide)) (by decide)) (by decide))
                   (Frame.ite (m := 147458) (Frame.of (m := 147458) (State.setO_frame _ _ _) (Frame.up17 (m := 147458) (Frame.mono (m := 147458)
                   (State.setReg_frame _ _ _ _) (by decide)) (by decide)) (by decide)) (Frame.mono (m := 147458) (State.setReg_frame _ _ _ _) (by decide))))
                   (Frame.refl 147458 _)))))
  split
  · with_reducible exact (.inl (by decide))
  · with_reducible exact (.inl (by decide))

theorem State.chanDone_frame (s : Sys2Proof.Machine.State) (a1 : Nat) (a2 : Nat) (a3 : Sys2Proof.Octets) : Frame 16386 s (State.chanDone s a1 a2 a3) := by
  unfold State.chanDone
  dsimp only
  with_reducible exact Frame.ite (m := 16386) (Frame.mono (m := 16386) (State.setChan__frame _ _ _) (by decide)) (Frame.ite (m := 16386)
                   (Frame.of (m := 16386) (State.vector_frame _ _ _) (Frame.of (m := 16386) (State.inc_frame _ _) (Frame.mono (m := 16386)
                   (State.setChan__frame _ _ _) (by decide)) (by decide)) (by decide)) (Frame.of (m := 16386) (State.inc_frame _ _) (Frame.mono (m := 16386)
                   (State.setChan__frame _ _ _) (by decide)) (by decide)))

theorem State.reply_frame (s : Sys2Proof.Machine.State) (a1 : Sys2Proof.Machine.MsgSource) (a2 : Nat) (a3 : Sys2Proof.Octets) : Frame 18434 s (State.reply s a1 a2 a3) := by
  unfold State.reply
  dsimp only
  simp only [State.mk_make]
  split
  · with_reducible exact Frame.mono (m := 18434) (State.chanDone_frame _ _ _ _) (by decide)
  · with_reducible exact Frame.up14 (m := 18434) (Frame.refl 18434 _) (by decide)
  · with_reducible exact Frame.of (m := 18434) (State.enqueue_frame _ _ _) (Frame.of (m := 18434) (State.inc_frame _ _) (Frame.up14
                     (m := 18434) (Frame.refl 18434 _) (by decide)) (by decide)) (by decide)
  · with_reducible exact Frame.up14 (m := 18434) (Frame.refl 18434 _) (by decide)

theorem State.vaultAnswer_frame (s : Sys2Proof.Machine.State) (a1 : Sys2Proof.Machine.VaultOp) (a2 : Sys2Proof.Machine.VaultMsg) (a3 : Nat) (a4 : Sys2Proof.Octets) : Frame 18434 s (State.vaultAnswer s a1 a2 a3 a4) := by
  unfold State.vaultAnswer
  with_reducible exact Frame.of (m := 18434) (State.reply_frame _ _ _ _) (Frame.mono (m := 18434) (State.inc_frame _ _) (by decide))
                   (by decide)

theorem State.chalIssue_frame (s : Sys2Proof.Machine.State) (a1 : Sys2Proof.Machine.VaultMsg) : Frame 26642 s (State.chalIssue s a1) := by
  unfold State.chalIssue
  dsimp only
  simp only [State.mk_make]
  with_reducible exact Frame.ite (m := 26642) (Frame.mono (m := 26642) (State.vaultAnswer_frame _ _ _ _ _) (by decide)) (Frame.ite
                   (m := 26642) (Frame.mono (m := 26642) (State.vaultAnswer_frame _ _ _ _ _) (by decide)) (Frame.ite (m := 26642) (Frame.mono (m := 26642)
                   (State.vaultAnswer_frame _ _ _ _ _) (by decide)) (Frame.of (m := 26642) (State.vaultAnswer_frame _ _ _ _ _) (Frame.of (m := 26642)
                   (State.inc_frame _ _) (Frame.up13 (m := 26642) (Frame.mono (m := 26642) (State.drew_frame _) (by decide)) (by decide)) (by decide))
                   (by decide))))

theorem State.pairProved_frame (s : Sys2Proof.Machine.State) (a1 : Sys2Proof.Machine.VaultMsg) (a2 : Nat) : Frame 65538 s (State.pairProved s a1 a2) := by
  unfold State.pairProved
  dsimp only
  simp only [State.mk_make]
  with_reducible exact Frame.ite (m := 65538) (Frame.up16 (m := 65538) (Frame.mono (m := 65538) (State.setN_frame _ _ _) (by decide))
                   (by decide)) (Frame.refl 65538 _)

theorem State.chalRespond_frame (s : Sys2Proof.Machine.State) (a1 : Sys2Proof.Machine.VaultMsg) : Frame 92162 s (State.chalRespond s a1) := by
  unfold State.chalRespond
  dsimp only
  simp only [State.mk_make]
  split
  · with_reducible exact Frame.ite (m := 92162) (Frame.of (m := 92162) (State.vaultAnswer_frame _ _ _ _ _) (Frame.mono (m := 92162)
                     (State.inc_frame _ _) (by decide)) (by decide)) (Frame.mono (m := 92162) (State.vaultAnswer_frame _ _ _ _ _) (by decide))
  · with_reducible exact Frame.ite (m := 92162) (Frame.of (m := 92162) (State.vaultAnswer_frame _ _ _ _ _) (Frame.of (m := 92162)
                     (State.inc_frame _ _) (Frame.up13 (m := 92162) (Frame.refl 92162 _) (by decide)) (by decide)) (by decide)) (Frame.ite (m := 92162)
                     (Frame.of (m := 92162) (State.vaultAnswer_frame _ _ _ _ _) (Frame.of (m := 92162) (State.inc_frame _ _) (Frame.up13 (m := 92162)
                     (Frame.refl 92162 _) (by decide)) (by decide)) (by decide)) (Frame.ite (m := 92162) (Frame.of (m := 92162) (State.pairProved_frame _ _
                     _) (Frame.of (m := 92162) (State.vaultAnswer_frame _ _ _ _ _) (Frame.of (m := 92162) (State.inc_frame _ _) (Frame.up13 (m := 92162)
                     (Frame.refl 92162 _) (by decide)) (by decide)) (by decide)) (by decide)) (Frame.of (m := 92162) (State.vaultAnswer_frame _ _ _ _ _)
                     (Frame.of (m := 92162) (State.inc_frame _ _) (Frame.up13 (m := 92162) (Frame.refl 92162 _) (by decide)) (by decide)) (by decide))))

theorem State.chanAdvance_frame (s : Sys2Proof.Machine.State) (a1 : Nat) (a2 : Nat) : Frame 256 s (State.chanAdvance s a1 a2) := by
  unfold State.chanAdvance
  dsimp only
  with_reducible exact Frame.mono (m := 256) (State.setChan_frame _ _ _) (by decide)

theorem State.chanBegin_frame (s : Sys2Proof.Machine.State) (a1 : Nat) : Frame 258 s (State.chanBegin s a1) := by
  unfold State.chanBegin
  dsimp only
  with_reducible refine Frame.ite (m := 258) (Frame.refl 258 _) ?_
  split
  · with_reducible exact Frame.of (m := 258) (State.chanEnter_frame _ _ _) (Frame.mono (m := 258) (State.setChan_frame _ _ _) (by decide))
                     (by decide)
  · with_reducible exact Frame.ite (m := 258) (Frame.refl 258 _) (Frame.mono (m := 258) (State.chanEnter_frame _ _ _) (by decide))

theorem State.chanAssignNow_frame (s : Sys2Proof.Machine.State) (a1 : Nat) (a2 : Nat × Nat × Nat × Nat) : Frame 262 s (State.chanAssignNow s a1 a2) := by
  unfold State.chanAssignNow
  dsimp only
  with_reducible exact Frame.ite (m := 262) (Frame.of (m := 262) (State.setBlob_frame _ _ _) (Frame.of (m := 262) (State.chanEnter_frame _ _
                   _) (Frame.mono (m := 262) (State.setChan_frame _ _ _) (by decide)) (by decide)) (by decide)) (Frame.of (m := 262) (State.chanBegin_frame _
                   _) (Frame.of (m := 262) (State.setBlob_frame _ _ _) (Frame.of (m := 262) (State.chanEnter_frame _ _ _) (Frame.mono (m := 262)
                   (State.setChan_frame _ _ _) (by decide)) (by decide)) (by decide)) (by decide))

theorem State.chanEpoch_frame (s : Sys2Proof.Machine.State) (a1 : Nat) : Frame 262 s (State.chanEpoch s a1) := by
  unfold State.chanEpoch
  dsimp only
  split
  · with_reducible exact Frame.of (m := 262) (State.chanAssignNow_frame _ _ _) (Frame.mono (m := 262) (State.setChan_frame _ _ _)
                     (by decide)) (by decide)
  · with_reducible exact Frame.ite (m := 262) (Frame.ite (m := 262) (Frame.ite (m := 262) (Frame.refl 262 _) (Frame.mono (m := 262)
                     (State.setChan_frame _ _ _) (by decide))) (Frame.of (m := 262) (State.chanBegin_frame _ _) (Frame.ite (m := 262) (Frame.refl 262 _)
                     (Frame.mono (m := 262) (State.setChan_frame _ _ _) (by decide))) (by decide))) (Frame.of (m := 262) (State.setChan_frame _ _ _)
                     (Frame.of (m := 262) (State.setChan_frame _ _ _) (Frame.ite (m := 262) (Frame.of (m := 262) (State.inc_frame _ _) (Frame.of (m := 262)
                     (State.setChan_frame _ _ _) (Frame.ite (m := 262) (Frame.mono (m := 262) (State.chanAdvance_frame _ _ _) (by decide)) (Frame.refl 262
                     _)) (by decide)) (by decide)) (Frame.of (m := 262) (State.setChan_frame _ _ _) (Frame.ite (m := 262) (Frame.mono (m := 262)
                     (State.chanAdvance_frame _ _ _) (by decide)) (Frame.refl 262 _)) (by decide))) (by decide)) (by decide))

theorem State.chanResets_frame (s : Sys2Proof.Machine.State) : Frame 24578 s (State.chanResets s) := by
  unfold State.chanResets
  dsimp only
  simp only [State.mk_make]
  with_reducible exact Frame.foldl (m := 24578) (fun _ => fun _ => Frame.ite (m := 24578) (Frame.refl 24578 _) (Frame.ite (m := 24578)
                   (Frame.ite (m := 24578) (Frame.of (m := 24578) (State.vector_frame _ _ _) (Frame.of (m := 24578) (State.inc_frame _ _) (Frame.of
                   (m := 24578) (State.setChan__frame _ _ _) (Frame.mk1 (m := 24578) (Frame.refl 24578 _) (.inr rfl) (.inr rfl) (.inr rfl) (.inr rfl)
                   (.inr rfl) (.inr rfl) (.inr rfl) (.inr rfl) (.inr rfl) (.inr rfl) (.inr rfl) (.inr rfl) (.inl (by decide)) (.inl (by decide)) (.inr rfl)
                   (.inr rfl) (.inr rfl) (.inr rfl) (.inr rfl)) (by decide)) (by decide)) (by decide)) (Frame.of (m := 24578) (State.inc_frame _ _) (Frame.of
                   (m := 24578) (State.setChan__frame _ _ _) (Frame.mk1 (m := 24578) (Frame.refl 24578 _) (.inr rfl) (.inr rfl) (.inr rfl) (.inr rfl)
                   (.inr rfl) (.inr rfl) (.inr rfl) (.inr rfl) (.inr rfl) (.inr rfl) (.inr rfl) (.inr rfl) (.inl (by decide)) (.inl (by decide)) (.inr rfl)
                   (.inr rfl) (.inr rfl) (.inr rfl) (.inr rfl)) (by decide)) (by decide))) (Frame.mono (m := 24578) (State.setChan__frame _ _ _)
                   (by decide)))) (Frame.refl 24578 _)

theorem State.chargeKept_frame (s : Sys2Proof.Machine.State) : Frame 1024 s (State.chargeKept s) := by
  unfold State.chargeKept
  dsimp only
  simp only [State.mk_make]
  with_reducible exact Frame.up10 (m := 1024) (Frame.refl 1024 _) (by decide)

theorem State.extendDigest_frame (s : Sys2Proof.Machine.State) (a1 : Sys2Proof.Octets) : Frame 4 s (State.extendDigest s a1) := by
  unfold State.extendDigest
  with_reducible exact Frame.mono (m := 4) (State.setBlob_frame _ _ _) (by decide)

theorem State.loadCosts_frame (s : Sys2Proof.Machine.State) (a1 : List Nat) : Frame 2 s (State.loadCosts s a1) := by
  unfold State.loadCosts
  with_reducible exact Frame.foldl (m := 2) (fun _ => fun _ => Frame.mono (m := 2) (State.setN_frame _ _ _) (by decide)) (Frame.refl 2 _)

theorem State.checkImages_frame (s : Sys2Proof.Machine.State) (a1 : Sys2Proof.Machine.BootRead) : Frame 1005918 s (State.checkImages s a1) := by
  unfold State.checkImages
  dsimp only
  simp only [State.mk_make]
  split
  · with_reducible exact Frame.mono (m := 1005918) (State.faulted_frame _ _ _ _) (by decide)
  · with_reducible exact Frame.ite (m := 1005918) (Frame.of (m := 1005918) (State.faulted_frame _ _ _ _) (Frame.of (m := 1005918)
                     (State.setO_frame _ _ _) (Frame.of (m := 1005918) (State.extendDigest_frame _ _) (Frame.mono (m := 1005918) (State.setN_frame _ _ _)
                     (by decide)) (by decide)) (by decide)) (by decide)) (Frame.ite (m := 1005918) (Frame.of (m := 1005918) (State.faulted_frame _ _ _ _)
                     (Frame.of (m := 1005918) (State.extendDigest_frame _ _) (Frame.of (m := 1005918) (State.setO_frame _ _ _) (Frame.of (m := 1005918)
                     (State.extendDigest_frame _ _) (Frame.mono (m := 1005918) (State.setN_frame _ _ _) (by decide)) (by decide)) (by decide)) (by decide))
                     (by decide)) (Frame.up18 (m := 1005918) (Frame.of (m := 1005918) (State.loadCosts_frame _ _) (Frame.of (m := 1005918)
                     (State.extendDigest_frame _ _) (Frame.of (m := 1005918) (State.extendDigest_frame _ _) (Frame.of (m := 1005918) (State.setO_frame _ _ _)
                     (Frame.of (m := 1005918) (State.extendDigest_frame _ _) (Frame.mono (m := 1005918) (State.setN_frame _ _ _) (by decide)) (by decide))
                     (by decide)) (by decide)) (by decide)) (by decide)) (by decide)))

theorem State.checkpoint_frame (s : Sys2Proof.Machine.State) (a1 : Nat) (a2 : Nat) : Frame 32776 s (State.checkpoint s a1 a2) := by
  unfold State.checkpoint
  dsimp only
  simp only [State.mk_make]
  with_reducible refine Frame.ite (m := 32776) (Frame.refl 32776 _) (Frame.mk1 (m := 32776) (Frame.mono (m := 32776) (State.writeBank_frame
                   _ _ _ _) (by decide)) (.inr rfl) (.inr rfl) (.inr rfl) (.inr rfl) (.inr rfl) (.inr rfl) (.inr rfl) (.inr rfl) (.inr rfl) (.inr rfl)
                   (.inr rfl) (.inr rfl) (.inr rfl) (.inr rfl) ?_ (.inr rfl) (.inr rfl) (.inr rfl) (.inr rfl))
  split
  · with_reducible exact (.inl (by decide))
  · with_reducible exact (.inl (by decide))

theorem State.checkpoints_frame (s : Sys2Proof.Machine.State) : Frame 36872 s (State.checkpoints s) := by
  unfold State.checkpoints
  dsimp only
  simp only [State.mk_make]
  with_reducible exact Frame.mk1 (m := 36872) (Frame.foldl (m := 36872) (fun _ => fun _ => Frame.ite (m := 36872) (Frame.foldl (m := 36872)
                   (fun _ => fun _ => Frame.mono (m := 36872) (State.checkpoint_frame _ _ _) (by decide)) (Frame.refl 36872 _)) (Frame.refl 36872 _))
                   (Frame.refl 36872 _)) (.inr rfl) (.inr rfl) (.inr rfl) (.inr rfl) (.inr rfl) (.inr rfl) (.inr rfl) (.inr rfl) (.inr rfl) (.inr rfl)
                   (.inr rfl) (.inl (by decide)) (.inr rfl) (.inr rfl) (.inl (by decide)) (.inr rfl) (.inr rfl) (.inr rfl) (.inr rfl)

theorem State.clientInvalid_frame (s : Sys2Proof.Machine.State) (a1 : Nat) : Frame 512 s (State.clientInvalid s a1) := by
  unfold State.clientInvalid
  with_reducible exact Frame.mono (m := 512) (State.refArrive_frame _ _) (by decide)

theorem State.clientBackoff_frame (s : Sys2Proof.Machine.State) (a1 : Nat) : Frame 4610 s (State.clientBackoff s a1) := by
  unfold State.clientBackoff
  with_reducible exact Frame.of (m := 4610) (State.clientInvalid_frame _ _) (Frame.mono (m := 4610) (State.clientEnter_frame _ _ _)
                   (by decide)) (by decide)

theorem State.clientAnnounce_frame (s : Sys2Proof.Machine.State) (a1 : Nat) (a2 : Sys2Proof.Octets) : Frame 4610 s (State.clientAnnounce s a1 a2) := by
  unfold State.clientAnnounce
  dsimp only
  with_reducible exact Frame.ite (m := 4610) (Frame.ite (m := 4610) (Frame.mono (m := 4610) (State.clientBackoff_frame _ _) (by decide))
                   (Frame.refl 4610 _)) (Frame.ite (m := 4610) (Frame.of (m := 4610) (State.setClient_frame _ _ _) (Frame.of (m := 4610) (State.setN_frame _
                   _ _) (Frame.ite (m := 4610) (Frame.mono (m := 4610) (State.setClient_frame _ _ _) (by decide)) (Frame.of (m := 4610)
                   (State.clientInvalid_frame _ _) (Frame.mono (m := 4610) (State.setClient_frame _ _ _) (by decide)) (by decide))) (by decide)) (by decide))
                   (Frame.ite (m := 4610) (Frame.mono (m := 4610) (State.setClient_frame _ _ _) (by decide)) (Frame.of (m := 4610) (State.clientInvalid_frame
                   _ _) (Frame.mono (m := 4610) (State.setClient_frame _ _ _) (by decide)) (by decide))))

theorem State.clientSend_frame (s : Sys2Proof.Machine.State) (a1 : Nat) (a2 : Sys2Proof.Octets) (a3 : Bool) : Frame 6144 s (State.clientSend s a1 a2 a3) := by
  unfold State.clientSend
  dsimp only
  simp only [State.mk_make]
  with_reducible refine Frame.of (m := 6144) (State.enqueue_frame _ _ _) (Frame.mk1 (m := 6144) (Frame.refl 6144 _) (.inr rfl) (.inr rfl)
                   (.inr rfl) (.inr rfl) (.inr rfl) (.inr rfl) (.inr rfl) (.inr rfl) (.inr rfl) (.inr rfl) (.inr rfl) ?_ (.inr rfl) (.inr rfl) (.inr rfl)
                   (.inr rfl) (.inr rfl) (.inr rfl) (.inr rfl)) (by decide)
  split
  · with_reducible exact (.inl (by decide))
  · with_reducible exact (.inl (by decide))

theorem State.clientDelayReq_frame (s : Sys2Proof.Machine.State) (a1 : Nat) : Frame 6144 s (State.clientDelayReq s a1) := by
  unfold State.clientDelayReq
  dsimp only
  split
  · with_reducible exact Frame.refl 6144 _
  · with_reducible exact Frame.of (m := 6144) (State.clientSend_frame _ _ _ _) (Frame.mono (m := 6144) (State.setClient_frame _ _ _)
                     (by decide)) (by decide)

theorem State.clientExchange_frame (s : Sys2Proof.Machine.State) (a1 : Nat) (a2 : Int) (a3 : Int) (a4 : Int) (a5 : Int) (a6 : Option Nat) : Frame 514 s (State.clientExchange s a1 a2 a3 a4 a5 a6) := by
  unfold State.clientExchange
  dsimp only
  with_reducible exact Frame.of (m := 514) (State.refArrive_frame _ _) (Frame.of (m := 514) (State.setRef_frame _ _ _) (Frame.of (m := 514)
                   (State.inc_frame _ _) (Frame.of (m := 514) (State.setO_frame _ _ _) (Frame.mono (m := 514) (State.setO_frame _ _ _) (by decide))
                   (by decide)) (by decide)) (by decide)) (by decide)

theorem State.clientGrants_frame (s : Sys2Proof.Machine.State) (a1 : Nat) (a2 : Sys2Proof.Octets) : Frame 4610 s (State.clientGrants s a1 a2) := by
  unfold State.clientGrants
  dsimp only
  with_reducible exact Frame.ite (m := 4610) (Frame.ite (m := 4610) (Frame.mono (m := 4610) (State.clientBackoff_frame _ _) (by decide))
                   (Frame.refl 4610 _)) (Frame.ite (m := 4610) (Frame.of (m := 4610) (State.setClient_frame _ _ _) (Frame.of (m := 4610) (State.setN_frame _
                   _ _) (Frame.mono (m := 4610) (State.setClient_frame _ _ _) (by decide)) (by decide)) (by decide)) (Frame.mono (m := 4610)
                   (State.setClient_frame _ _ _) (by decide)))

theorem State.clientSignal_frame (s : Sys2Proof.Machine.State) (a1 : Nat) (a2 : Sys2Proof.Octets) : Frame 6144 s (State.clientSignal s a1 a2) := by
  unfold State.clientSignal
  dsimp only
  split
  · with_reducible exact Frame.refl 6144 _
  · with_reducible exact Frame.of (m := 6144) (State.clientSend_frame _ _ _ _) (Frame.mono (m := 6144) (State.setClient_frame _ _ _)
                     (by decide)) (by decide)

theorem State.clientRenew_frame (s : Sys2Proof.Machine.State) (a1 : Nat) (a2 : Sys2Proof.Machine.GrantType) : Frame 6144 s (State.clientRenew s a1 a2) := by
  unfold State.clientRenew
  dsimp only
  with_reducible exact Frame.of (m := 6144) (State.clientSignal_frame _ _ _) (Frame.mono (m := 6144) (State.setClient_frame _ _ _)
                   (by decide)) (by decide)

theorem State.clientRequest_frame (s : Sys2Proof.Machine.State) (a1 : Nat) : Frame 6144 s (State.clientRequest s a1) := by
  unfold State.clientRequest
  dsimp only
  with_reducible exact Frame.of (m := 6144) (State.clientSignal_frame _ _ _) (Frame.mono (m := 6144) (State.setClient_frame _ _ _)
                   (by decide)) (by decide)

theorem State.clientRx_frame (s : Sys2Proof.Machine.State) (a1 : Nat) (a2 : Sys2Proof.Machine.RxFrame) : Frame 4610 s (State.clientRx s a1 a2) := by
  unfold State.clientRx
  dsimp only
  with_reducible refine Frame.ite (m := 4610) (Frame.mono (m := 4610) (State.clientInvalid_frame _ _) (by decide)) (Frame.ite (m := 4610)
                   (Frame.mono (m := 4610) (State.clientGrants_frame _ _ _) (by decide)) (Frame.ite (m := 4610) (Frame.mono (m := 4610)
                   (State.clientAnnounce_frame _ _ _) (by decide)) (Frame.ite (m := 4610) (Frame.refl 4610 _) (Frame.ite (m := 4610) (Frame.ite (m := 4610)
                   (Frame.mono (m := 4610) (State.setClient_frame _ _ _) (by decide)) ?_) (Frame.ite (m := 4610) (Frame.ite (m := 4610) (Frame.refl 4610 _)
                   ?_) (Frame.ite (m := 4610) (Frame.ite (m := 4610) (Frame.refl 4610 _) ?_) (Frame.refl 4610 _)))))))
  · split
    · with_reducible exact Frame.mono (m := 4610) (State.setClient_frame _ _ _) (by decide)
    · with_reducible exact Frame.mono (m := 4610) (State.inc_frame _ _) (by decide)
  · split
    · with_reducible exact Frame.mono (m := 4610) (State.setClient_frame _ _ _) (by decide)
    · with_reducible exact Frame.mono (m := 4610) (State.inc_frame _ _) (by decide)
  · split
    · with_reducible exact Frame.mono (m := 4610) (State.inc_frame _ _) (by decide)
    · with_reducible exact Frame.of (m := 4610) (State.clientExchange_frame _ _ _ _ _ _ _) (Frame.mono (m := 4610) (State.setClient_frame _
                       _ _) (by decide)) (by decide)
    · with_reducible exact Frame.refl 4610 _

theorem State.clockBack_frame (s : Sys2Proof.Machine.State) (a1 : Sys2Proof.Machine.ClockSource) : Frame 2 s (State.clockBack s a1) := by
  unfold State.clockBack
  with_reducible exact Frame.mono (m := 2) (State.setN_frame _ _ _) (by decide)

theorem State.stampTreeLost_frame (s : Sys2Proof.Machine.State) : Frame 130 s (State.stampTreeLost s) := by
  unfold State.stampTreeLost
  with_reducible exact Frame.foldl (m := 130) (fun _ => fun _ => Frame.of (m := 130) (State.gateFault_frame _ _) (Frame.mono (m := 130)
                   (State.gapMarker_frame _ _ _) (by decide)) (by decide)) (Frame.refl 130 _)

theorem State.stampersLost_frame (s : Sys2Proof.Machine.State) : Frame 130 s (State.stampersLost s) := by
  unfold State.stampersLost
  dsimp only
  simp only [State.mk_make]
  with_reducible exact Frame.up7 (m := 130) (Frame.foldl (m := 130) (fun _ => fun _ => Frame.of (m := 130) (State.setPort_frame _ _ _)
                   (Frame.of (m := 130) (State.gapMarker_frame _ _ _) (Frame.of (m := 130) (State.portOff_frame _ _) (Frame.mono (m := 130)
                   (State.commitHeld_frame _ _ _) (by decide)) (by decide)) (by decide)) (by decide)) (Frame.refl 130 _)) (by decide)

theorem State.lossReaction_frame (s : Sys2Proof.Machine.State) (a1 : Sys2Proof.Machine.ClockSource) : Frame 918 s (State.lossReaction s a1) := by
  unfold State.lossReaction
  dsimp only
  simp only [State.mk_make]
  split
  · split
    · with_reducible exact Frame.mk1 (m := 918) (Frame.of (m := 918) (State.boundLost_frame _) (Frame.mono (m := 918)
                       (State.stampersLost_frame _) (by decide)) (by decide)) (.inr rfl) (.inr rfl) (.inr rfl) (.inl (by decide)) (.inr rfl) (.inr rfl)
                       (.inr rfl) (.inr rfl) (.inl (by decide)) (.inr rfl) (.inr rfl) (.inr rfl) (.inr rfl) (.inr rfl) (.inr rfl) (.inr rfl) (.inr rfl)
                       (.inr rfl) (.inr rfl)
    · with_reducible exact Frame.foldl (m := 918) (fun _ => fun _ => Frame.mono (m := 918) (State.macDown_frame _ _) (by decide))
                       (Frame.refl 918 _)
    · with_reducible exact Frame.foldl (m := 918) (fun _ => fun _ => Frame.mono (m := 918) (State.macDown_frame _ _) (by decide))
                       (Frame.refl 918 _)
    · with_reducible exact Frame.of (m := 918) (State.setRef_frame _ _ _) (Frame.mono (m := 918) (State.gladeOff_frame _) (by decide))
                       (by decide)
    · with_reducible exact Frame.refl 918 _
  · with_reducible exact Frame.mono (m := 918) (State.macDown_frame _ _) (by decide)
  · with_reducible exact Frame.mono (m := 918) (State.stampTreeLost_frame _) (by decide)
  · with_reducible exact Frame.mono (m := 918) (State.setRef_frame _ _ _) (by decide)
  · with_reducible exact Frame.refl 918 _

theorem State.clockLost_frame (s : Sys2Proof.Machine.State) (a1 : Sys2Proof.Machine.ClockSource) : Frame 744414 s (State.clockLost s a1) := by
  unfold State.clockLost
  dsimp only
  split
  · with_reducible exact Frame.of (m := 744414) (State.faulted_frame _ _ _ _) (Frame.of (m := 744414) (State.lossReaction_frame _ _)
                     (Frame.of (m := 744414) (State.inc_frame _ _) (Frame.of (m := 744414) (State.setN_frame _ _ _) (Frame.mono (m := 744414)
                     (State.setN_frame _ _ _) (by decide)) (by decide)) (by decide)) (by decide)) (by decide)
  · with_reducible exact Frame.of (m := 744414) (State.lossReaction_frame _ _) (Frame.of (m := 744414) (State.inc_frame _ _) (Frame.of
                     (m := 744414) (State.setN_frame _ _ _) (Frame.mono (m := 744414) (State.setN_frame _ _ _) (by decide)) (by decide)) (by decide))
                     (by decide)

theorem State.clockReturned_frame (s : Sys2Proof.Machine.State) (a1 : Sys2Proof.Machine.ClockSource) : Frame 2 s (State.clockReturned s a1) := by
  unfold State.clockReturned
  dsimp only
  with_reducible exact Frame.ite (m := 2) (Frame.of (m := 2) (State.setN_frame _ _ _) (Frame.mono (m := 2) (State.clockBack_frame _ _)
                   (by decide)) (by decide)) (Frame.mono (m := 2) (State.clockBack_frame _ _) (by decide))

theorem State.closeLoops_frame (s : Sys2Proof.Machine.State) (a1 : Nat) (a2 : Nat) (a3 : Int) (a4 : List (Int × Int)) : Frame 256 s (State.closeLoops s a1 a2 a3 a4) := by
  unfold State.closeLoops
  dsimp only
  with_reducible exact Frame.mono (m := 256) (State.setChan_frame _ _ _) (by decide)

theorem State.restoreReplay_frame (s : Sys2Proof.Machine.State) : Frame 147458 s (State.restoreReplay s) := by
  unfold State.restoreReplay
  dsimp only
  simp only [State.mk_make]
  split
  · with_reducible exact Frame.refl 147458 _
  · with_reducible exact Frame.up17 (m := 147458) (Frame.of (m := 147458) (State.setReg_frame _ _ _ _) (Frame.of (m := 147458)
                     (State.setReg_frame _ _ _ _) (Frame.foldl (m := 147458) (fun _ => fun _ => Frame.mono (m := 147458) (State.setO_frame _ _ _)
                     (by decide)) (Frame.refl 147458 _)) (by decide)) (by decide)) (by decide)

theorem State.refsUndone_frame (s : Sys2Proof.Machine.State) : Frame 514 s (State.refsUndone s) := by
  unfold State.refsUndone
  dsimp only
  simp only [State.mk_make]
  with_reducible exact Frame.foldl (m := 514) (fun _ => fun _ => Frame.ite (m := 514) (Frame.refl 514 _) (Frame.of (m := 514)
                   (State.setO_frame _ _ _) (Frame.of (m := 514) (State.setO_frame _ _ _) (Frame.mono (m := 514) (State.setRef_frame _ _ _) (by decide))
                   (by decide)) (by decide))) (Frame.up9 (m := 514) (Frame.refl 514 _) (by decide))

theorem State.restoreW1_frame (s : Sys2Proof.Machine.State) : Frame 67094 s (State.restoreW1 s) := by
  unfold State.restoreW1
  dsimp only
  simp only [State.mk_make]
  split
  · with_reducible exact Frame.refl 67094 _
  · with_reducible refine Frame.mk1 (m := 67094) (Frame.mono (m := 67094) (State.refsUndone_frame _) (by decide)) (.inl (by decide)) (.inl
                     (by decide)) (.inr rfl) (.inl (by decide)) (.inr rfl) (.inr rfl) (.inr rfl) (.inr rfl) (.inr rfl) ?_ (.inr rfl) (.inr rfl) (.inr rfl)
                     (.inr rfl) (.inr rfl) (.inl (by decide)) (.inr rfl) (.inr rfl) (.inr rfl)
    split
    · split
      · with_reducible exact (.inl (by decide))
      · with_reducible exact (.inl (by decide))
    · split
      · with_reducible exact (.inl (by decide))
      · with_reducible exact (.inl (by decide))

theorem State.coastTick_frame (s : Sys2Proof.Machine.State) : Frame 214550 s (State.coastTick s) := by
  unfold State.coastTick
  with_reducible exact Frame.ite (m := 214550) (Frame.refl 214550 _) (Frame.ite (m := 214550) (Frame.of (m := 214550) (State.inc_frame _ _)
                   (Frame.of (m := 214550) (State.coastBound_frame _) (Frame.mono (m := 214550) (State.restoreReplay_frame _) (by decide)) (by decide))
                   (by decide)) (Frame.of (m := 214550) (State.inc_frame _ _) (Frame.of (m := 214550) (State.discardEpoch_frame _) (Frame.of (m := 214550)
                   (State.coastBound_frame _) (Frame.mono (m := 214550) (State.restoreW1_frame _) (by decide)) (by decide)) (by decide)) (by decide)))

theorem State.collectEngine_frame (s : Sys2Proof.Machine.State) : Frame 26630 s (State.collectEngine s) := by
  unfold State.collectEngine
  dsimp only
  simp only [State.mk_make]
  split
  · with_reducible refine Frame.ite (m := 26630) (Frame.refl 26630 _) ?_
    split
    · with_reducible refine Frame.of (m := 26630) (State.vaultAnswer_frame _ _ _ _ _) ?_ (by decide)
      split
      · with_reducible refine Frame.ite (m := 26630) (Frame.of (m := 26630) (State.setSlot_frame _ _ _) ?_ (by decide)) ?_
        · split
          · with_reducible exact Frame.of (m := 26630) (State.fillSlot_frame _ _ _ _ _ _ _) (Frame.of (m := 26630) (State.inc_frame _ _)
                             (Frame.up13 (m := 26630) (Frame.refl 26630 _) (by decide)) (by decide)) (by decide)
          · with_reducible exact Frame.of (m := 26630) (State.inc_frame _ _) (Frame.up13 (m := 26630) (Frame.refl 26630 _) (by decide))
                             (by decide)
        · split
          · with_reducible exact Frame.of (m := 26630) (State.fillSlot_frame _ _ _ _ _ _ _) (Frame.of (m := 26630) (State.inc_frame _ _)
                             (Frame.up13 (m := 26630) (Frame.refl 26630 _) (by decide)) (by decide)) (by decide)
          · with_reducible exact Frame.of (m := 26630) (State.inc_frame _ _) (Frame.up13 (m := 26630) (Frame.refl 26630 _) (by decide))
                             (by decide)
      · split
        · with_reducible exact Frame.of (m := 26630) (State.fillSlot_frame _ _ _ _ _ _ _) (Frame.of (m := 26630) (State.inc_frame _ _)
                           (Frame.up13 (m := 26630) (Frame.refl 26630 _) (by decide)) (by decide)) (by decide)
        · with_reducible exact Frame.of (m := 26630) (State.inc_frame _ _) (Frame.up13 (m := 26630) (Frame.refl 26630 _) (by decide))
                           (by decide)
    · split
      · with_reducible refine Frame.ite (m := 26630) (Frame.of (m := 26630) (State.setSlot_frame _ _ _) ?_ (by decide)) ?_
        · split
          · with_reducible exact Frame.of (m := 26630) (State.fillSlot_frame _ _ _ _ _ _ _) (Frame.of (m := 26630) (State.inc_frame _ _)
                             (Frame.up13 (m := 26630) (Frame.refl 26630 _) (by decide)) (by decide)) (by decide)
          · with_reducible exact Frame.of (m := 26630) (State.inc_frame _ _) (Frame.up13 (m := 26630) (Frame.refl 26630 _) (by decide))
                             (by decide)
        · split
          · with_reducible exact Frame.of (m := 26630) (State.fillSlot_frame _ _ _ _ _ _ _) (Frame.of (m := 26630) (State.inc_frame _ _)
                             (Frame.up13 (m := 26630) (Frame.refl 26630 _) (by decide)) (by decide)) (by decide)
          · with_reducible exact Frame.of (m := 26630) (State.inc_frame _ _) (Frame.up13 (m := 26630) (Frame.refl 26630 _) (by decide))
                             (by decide)
      · split
        · with_reducible exact Frame.of (m := 26630) (State.fillSlot_frame _ _ _ _ _ _ _) (Frame.of (m := 26630) (State.inc_frame _ _)
                           (Frame.up13 (m := 26630) (Frame.refl 26630 _) (by decide)) (by decide)) (by decide)
        · with_reducible exact Frame.of (m := 26630) (State.inc_frame _ _) (Frame.up13 (m := 26630) (Frame.refl 26630 _) (by decide))
                           (by decide)
  · with_reducible exact Frame.refl 26630 _

theorem State.commitLate_frame (s : Sys2Proof.Machine.State) (a1 : Nat) : Frame 130 s (State.commitLate s a1) := by
  unfold State.commitLate
  dsimp only
  with_reducible exact Frame.foldl (m := 130) (fun _ => fun _ => Frame.mono (m := 130) (State.commitStamp_frame _ _ _) (by decide))
                   (Frame.mono (m := 130) (State.setPort_frame _ _ _) (by decide))

end Sys2Proof.Machine
end

