-- ==== Sys2Proof/Laws/Frames8.lean ====
section
/-!
SUPPORT. The frames of operations and commands, part 8.
-/

namespace Sys2Proof.Machine

theorem State.discardShadow_frame (s : Sys2Proof.Machine.State) : Frame 65536 s (State.discardShadow s) := by
  unfold State.discardShadow
  dsimp only
  simp only [State.mk_make]
  with_reducible exact Frame.up16 (m := 65536) (Frame.refl 65536 _) (by decide)

theorem State.compareDigest_frame (s : Sys2Proof.Machine.State) (a1 : Sys2Proof.Machine.TwinInputs) : Frame 743774 s (State.compareDigest s a1) := by
  unfold State.compareDigest
  dsimp only
  simp only [State.mk_make]
  with_reducible refine Frame.ite (m := 743774) (Frame.refl 743774 _) ?_
  split
  · with_reducible exact Frame.refl 743774 _
  · with_reducible exact Frame.ite (m := 743774) (Frame.refl 743774 _) (Frame.ite (m := 743774) (Frame.up16 (m := 743774) (Frame.refl 743774
                     _) (by decide)) (Frame.of (m := 743774) (State.discardShadow_frame _) (Frame.of (m := 743774) (State.faulted_frame _ _ _ _) (Frame.mono
                     (m := 743774) (State.inc_frame _ _) (by decide)) (by decide)) (by decide)))

theorem State.pushDesc_frame (s : Sys2Proof.Machine.State) (a1 : Nat) (a2 : Sys2Proof.Octets) : Frame 18432 s (State.pushDesc s a1 a2) := by
  unfold State.pushDesc
  dsimp only
  simp only [State.mk_make]
  with_reducible refine Frame.ite (m := 18432) (Frame.of (m := 18432) (State.closeBatch_frame _ _) (Frame.mk1 (m := 18432) ?_ (.inr rfl)
                   (.inr rfl) (.inr rfl) (.inr rfl) (.inr rfl) (.inr rfl) (.inr rfl) (.inr rfl) (.inr rfl) (.inr rfl) ?_ (.inr rfl) (.inr rfl) (.inr rfl)
                   (.inr rfl) (.inr rfl) (.inr rfl) (.inr rfl) (.inr rfl)) (by decide)) (Frame.mk1 (m := 18432) ?_ (.inr rfl) (.inr rfl) (.inr rfl)
                   (.inr rfl) (.inr rfl) (.inr rfl) (.inr rfl) (.inr rfl) (.inr rfl) (.inr rfl) ?_ (.inr rfl) (.inr rfl) (.inr rfl) (.inr rfl) (.inr rfl)
                   (.inr rfl) (.inr rfl) (.inr rfl))
  · split
    · with_reducible exact Frame.ite (m := 18432) (Frame.mono (m := 18432) (State.closeBatch_frame _ _) (by decide)) (Frame.refl 18432 _)
    · with_reducible exact Frame.refl 18432 _
  · split
    · split
      · split
        · with_reducible exact (.inl (by decide))
        · with_reducible exact (.inl (by decide))
      · split
        · with_reducible exact (.inl (by decide))
        · with_reducible exact (.inl (by decide))
    · split
      · with_reducible exact (.inl (by decide))
      · with_reducible exact (.inl (by decide))
  · split
    · with_reducible exact Frame.ite (m := 18432) (Frame.mono (m := 18432) (State.closeBatch_frame _ _) (by decide)) (Frame.refl 18432 _)
    · with_reducible exact Frame.refl 18432 _
  · split
    · split
      · split
        · with_reducible exact (.inl (by decide))
        · with_reducible exact (.inl (by decide))
      · split
        · with_reducible exact (.inl (by decide))
        · with_reducible exact (.inl (by decide))
    · split
      · with_reducible exact (.inl (by decide))
      · with_reducible exact (.inl (by decide))

theorem State.complete_frame (s : Sys2Proof.Machine.State) (a1 : Nat) (a2 : Nat) (a3 : Nat) (a4 : Nat) (a5 : Nat) (a6 : Option Int) : Frame 18432 s (State.complete s a1 a2 a3 a4 a5 a6) := by
  unfold State.complete
  dsimp only
  with_reducible exact Frame.mono (m := 18432) (State.pushDesc_frame _ _ _) (by decide)

theorem State.completeOf_frame (s : Sys2Proof.Machine.State) (a1 : Nat) (a2 : Sys2Proof.Machine.TxFrame) (a3 : Nat) (a4 : Option Int) : Frame 18432 s (State.completeOf s a1 a2 a3 a4) := by
  unfold State.completeOf
  split
  · with_reducible exact Frame.mono (m := 18432) (State.complete_frame _ _ _ _ _ _ _) (by decide)
  · with_reducible exact Frame.refl 18432 _

theorem State.detected_frame (s : Sys2Proof.Machine.State) (a1 : Nat) (a2 : Sys2Proof.Machine.Snapshot) (a3 : Int) (a4 : Nat) : Frame 258 s (State.detected s a1 a2 a3 a4) := by
  unfold State.detected
  dsimp only
  with_reducible exact Frame.of (m := 258) (State.chanEnter_frame _ _ _) (Frame.of (m := 258) (State.chanAdvance_frame _ _ _) (Frame.mono
                   (m := 258) (State.setChan_frame _ _ _) (by decide)) (by decide)) (by decide)

theorem State.searchedIn_frame (s : Sys2Proof.Machine.State) (a1 : Nat) (a2 : Sys2Proof.Machine.Snapshot) : Frame 256 s (State.searchedIn s a1 a2) := by
  unfold State.searchedIn
  dsimp only
  with_reducible exact Frame.mono (m := 256) (State.setChan_frame _ _ _) (by decide)

theorem State.confirmEnds_frame (s : Sys2Proof.Machine.State) (a1 : Nat) (a2 : Sys2Proof.Machine.Snapshot) (a3 : Int × Nat) : Frame 258 s (State.confirmEnds s a1 a2 a3) := by
  unfold State.confirmEnds
  dsimp only
  with_reducible exact Frame.ite (m := 258) (Frame.of (m := 258) (State.detected_frame _ _ _ _ _) (Frame.of (m := 258) (State.inc_frame _ _)
                   (Frame.mono (m := 258) (State.searchedIn_frame _ _ _) (by decide)) (by decide)) (by decide)) (Frame.of (m := 258) (State.inc_frame _ _)
                   (Frame.of (m := 258) (State.setChan_frame _ _ _) (Frame.mono (m := 258) (State.searchedIn_frame _ _ _) (by decide)) (by decide))
                   (by decide))

theorem State.stepUnmeasured_frame (s : Sys2Proof.Machine.State) : Frame 1558 s (State.stepUnmeasured s) := by
  unfold State.stepUnmeasured
  dsimp only
  simp only [State.mk_make]
  with_reducible exact Frame.mk1 (m := 1558) (Frame.of (m := 1558) (State.boundLost_frame _) (Frame.mono (m := 1558) (State.inc_frame _ _)
                   (by decide)) (by decide)) (.inr rfl) (.inr rfl) (.inr rfl) (.inr rfl) (.inr rfl) (.inr rfl) (.inr rfl) (.inr rfl) (.inl (by decide)) (.inl
                   (by decide)) (.inr rfl) (.inr rfl) (.inr rfl) (.inr rfl) (.inr rfl) (.inr rfl) (.inr rfl) (.inr rfl) (.inr rfl)

theorem State.connect_frame (s : Sys2Proof.Machine.State) (a1 : Nat) (a2 : Int) (a3 : Nat) : Frame 1558 s (State.connect s a1 a2 a3) := by
  unfold State.connect
  dsimp only
  simp only [State.mk_make]
  split
  · with_reducible exact Frame.ite (m := 1558) (Frame.up9 (m := 1558) (Frame.of (m := 1558) (State.setN_frame _ _ _) (Frame.of (m := 1558)
                     (State.setO_frame _ _ _) (Frame.of (m := 1558) (State.setO_frame _ _ _) (Frame.of (m := 1558) (State.inc_frame _ _) (Frame.of
                     (m := 1558) (State.setN_frame _ _ _) (Frame.mono (m := 1558) (State.chargeKept_frame _) (by decide)) (by decide)) (by decide))
                     (by decide)) (by decide)) (by decide)) (by decide)) (Frame.of (m := 1558) (State.stepUnmeasured_frame _) (Frame.up9 (m := 1558)
                     (Frame.of (m := 1558) (State.setN_frame _ _ _) (Frame.of (m := 1558) (State.setO_frame _ _ _) (Frame.of (m := 1558) (State.inc_frame _
                     _) (Frame.of (m := 1558) (State.setN_frame _ _ _) (Frame.mono (m := 1558) (State.chargeKept_frame _) (by decide)) (by decide))
                     (by decide)) (by decide)) (by decide)) (by decide)) (by decide))
  · with_reducible exact Frame.of (m := 1558) (State.stepUnmeasured_frame _) (Frame.up9 (m := 1558) (Frame.of (m := 1558) (State.setN_frame
                     _ _ _) (Frame.of (m := 1558) (State.setO_frame _ _ _) (Frame.of (m := 1558) (State.inc_frame _ _) (Frame.of (m := 1558)
                     (State.setN_frame _ _ _) (Frame.mono (m := 1558) (State.chargeKept_frame _) (by decide)) (by decide)) (by decide)) (by decide))
                     (by decide)) (by decide)) (by decide)

theorem State.consistConflict_frame (s : Sys2Proof.Machine.State) (a1 : List (Nat × Nat)) (a2 : Nat → Nat → Nat × Nat) : Frame 514 s (State.consistConflict s a1 a2) := by
  unfold State.consistConflict
  dsimp only
  simp only [State.mk_make]
  with_reducible exact Frame.up9 (m := 514) (Frame.mono (m := 514) (State.setF_frame _ _ _) (by decide)) (by decide)

theorem State.consistency_frame (s : Sys2Proof.Machine.State) : Frame 514 s (State.consistency s) := by
  unfold State.consistency
  dsimp only
  simp only [State.mk_make]
  with_reducible refine Frame.ite (m := 514) (Frame.foldl (m := 514) (fun _ => fun _ => Frame.ite (m := 514) (Frame.refl 514 _) (Frame.mono
                   (m := 514) (State.setRef_frame _ _ _) (by decide))) (Frame.of (m := 514) (State.setF_frame _ _ _) (Frame.up9 (m := 514) (Frame.refl 514 _)
                   (by decide)) (by decide))) ?_
  split
  · with_reducible exact Frame.ite (m := 514) (Frame.of (m := 514) (State.inc_frame _ _) (Frame.of (m := 514) (State.setRef_frame _ _ _)
                     (Frame.foldl (m := 514) (fun _ => fun _ => Frame.ite (m := 514) (Frame.refl 514 _) (Frame.mono (m := 514) (State.setRef_frame _ _ _)
                     (by decide))) (Frame.of (m := 514) (State.setF_frame _ _ _) (Frame.up9 (m := 514) (Frame.refl 514 _) (by decide)) (by decide)))
                     (by decide)) (by decide)) (Frame.of (m := 514) (State.consistConflict_frame _ _ _) (Frame.foldl (m := 514) (fun _ => fun _ => Frame.ite
                     (m := 514) (Frame.refl 514 _) (Frame.mono (m := 514) (State.setRef_frame _ _ _) (by decide))) (Frame.of (m := 514) (State.setF_frame _ _
                     _) (Frame.up9 (m := 514) (Frame.refl 514 _) (by decide)) (by decide))) (by decide))
  · with_reducible exact Frame.of (m := 514) (State.consistConflict_frame _ _ _) (Frame.foldl (m := 514) (fun _ => fun _ => Frame.ite
                     (m := 514) (Frame.refl 514 _) (Frame.mono (m := 514) (State.setRef_frame _ _ _) (by decide))) (Frame.of (m := 514) (State.setF_frame _ _
                     _) (Frame.up9 (m := 514) (Frame.refl 514 _) (by decide)) (by decide))) (by decide)

theorem State.contention_frame (s : Sys2Proof.Machine.State) : Frame 65538 s (State.contention s) := by
  unfold State.contention
  dsimp only
  simp only [State.mk_make]
  with_reducible refine Frame.of (m := 65538) (State.inc_frame _ _) (Frame.mk1 (m := 65538) (Frame.refl 65538 _) (.inr rfl) (.inr rfl)
                   (.inr rfl) (.inr rfl) (.inr rfl) (.inr rfl) (.inr rfl) (.inr rfl) (.inr rfl) (.inr rfl) (.inr rfl) (.inr rfl) (.inr rfl) (.inr rfl)
                   (.inr rfl) ?_ (.inr rfl) (.inr rfl) (.inr rfl)) (by decide)
  split
  · split
    · with_reducible exact (.inl (by decide))
    · with_reducible exact (.inl (by decide))
  · with_reducible exact (.inl (by decide))

theorem State.correlate_frame (s : Sys2Proof.Machine.State) (a1 : Nat) : Frame 256 s (State.correlate s a1) := by
  unfold State.correlate
  dsimp only
  with_reducible exact Frame.mono (m := 256) (State.setChan_frame _ _ _) (by decide)

theorem State.correlateAll_frame (s : Sys2Proof.Machine.State) : Frame 256 s (State.correlateAll s) := by
  unfold State.correlateAll
  with_reducible exact State.forChans_frame (m := 256) (fun _ => fun _ => Frame.ite (m := 256) (Frame.mono (m := 256) (State.correlate_frame
                   _ _) (by decide)) (Frame.refl 256 _)) (Frame.refl 256 _)

theorem State.countEdge_frame (s : Sys2Proof.Machine.State) (a1 : Nat) : Frame 130 s (State.countEdge s a1) := by
  unfold State.countEdge
  dsimp only
  with_reducible exact Frame.ite (m := 130) (Frame.ite (m := 130) (Frame.mono (m := 130) (State.setN_frame _ _ _) (by decide)) (Frame.of
                   (m := 130) (State.setF_frame _ _ _) (Frame.mono (m := 130) (State.setN_frame _ _ _) (by decide)) (by decide))) (Frame.mono (m := 130)
                   (State.setPort_frame _ _ _) (by decide))

theorem State.countWriteBack_frame (s : Sys2Proof.Machine.State) (a1 : Nat) (a2 : Nat) : Frame 262144 s (State.countWriteBack s a1 a2) := by
  unfold State.countWriteBack
  dsimp only
  simp only [State.mk_make]
  with_reducible refine Frame.mk1 (m := 262144) (Frame.refl 262144 _) (.inr rfl) (.inr rfl) (.inr rfl) (.inr rfl) (.inr rfl) (.inr rfl)
                   (.inr rfl) (.inr rfl) (.inr rfl) (.inr rfl) (.inr rfl) (.inr rfl) (.inr rfl) (.inr rfl) (.inr rfl) (.inr rfl) (.inr rfl) ?_ (.inr rfl)
  split
  · split
    · with_reducible exact (.inl (by decide))
    · with_reducible exact (.inl (by decide))
  · split
    · with_reducible exact (.inl (by decide))
    · with_reducible exact (.inl (by decide))

theorem State.counterDump_frame (s : Sys2Proof.Machine.State) (a1 : Nat) : Frame 16384 s (State.counterDump s a1) := by
  unfold State.counterDump
  dsimp only
  simp only [State.mk_make]
  with_reducible exact Frame.of (m := 16384) (State.vector_frame _ _ _) (Frame.up14 (m := 16384) (Frame.of (m := 16384) (State.setReg_frame
                   _ _ _ _) (Frame.of (m := 16384) (State.setReg_frame _ _ _ _) (Frame.mono (m := 16384) (State.setReg_frame _ _ _ _) (by decide))
                   (by decide)) (by decide)) (by decide)) (by decide)

theorem State.hostDeliver_frame (s : Sys2Proof.Machine.State) (a1 : Nat) (a2 : Nat) (a3 : Nat) (a4 : Sys2Proof.Machine.Parsed) (a5 : Nat) (a6 : Nat) (a7 : Int) : Frame 18434 s (State.hostDeliver s a1 a2 a3 a4 a5 a6 a7) := by
  unfold State.hostDeliver
  dsimp only
  simp only [State.mk_make]
  split
  · with_reducible exact Frame.up11 (m := 18434) (Frame.mono (m := 18434) (State.inc_frame _ _) (by decide)) (by decide)
  · with_reducible exact Frame.of (m := 18434) (State.pushDesc_frame _ _ _) (Frame.mono (m := 18434) (State.setRingReg_frame _ _ _ _ _ _)
                     (by decide)) (by decide)

theorem State.defaultDeliver_frame (s : Sys2Proof.Machine.State) (a1 : Nat) (a2 : Nat) (a3 : Sys2Proof.Machine.Parsed) (a4 : Nat) (a5 : Nat) (a6 : Int) : Frame 18434 s (State.defaultDeliver s a1 a2 a3 a4 a5 a6) := by
  unfold State.defaultDeliver
  dsimp only
  with_reducible exact Frame.ite (m := 18434) (Frame.mono (m := 18434) (State.hostDeliver_frame _ _ _ _ _ _ _ _) (by decide)) (Frame.refl
                   18434 _)

theorem State.exactReserve_frame (s : Sys2Proof.Machine.State) (a1 : Nat) (a2 : Nat) (a3 : Int) (a4 : Int) : Frame 2 s (State.exactReserve s a1 a2 a3 a4).1 := by
  unfold State.exactReserve
  dsimp only
  with_reducible exact Frame.iteFst (m := 2) (Frame.mono (m := 2) (State.inc_frame _ _) (by decide)) (Frame.refl 2 _)

theorem State.itemDone_frame (s : Sys2Proof.Machine.State) (a1 : Nat) (a2 : Nat) : Frame 4096 s (State.itemDone s a1 a2) := by
  unfold State.itemDone
  dsimp only
  simp only [State.mk_make]
  with_reducible exact Frame.up12 (m := 4096) (Frame.refl 4096 _) (by decide)

theorem State.delayReq_frame (s : Sys2Proof.Machine.State) (a1 : Nat) (a2 : Nat) (a3 : Sys2Proof.Machine.RxFrame) (a4 : Int) : Frame 6146 s (State.delayReq s a1 a2 a3 a4) := by
  unfold State.delayReq
  dsimp only
  split
  · with_reducible exact Frame.mono (m := 6146) (State.itemDone_frame _ _ _) (by decide)
  · with_reducible refine Frame.ite (m := 6146) (Frame.of (m := 6146) (State.inc_frame _ _) (Frame.mono (m := 6146) (State.itemDone_frame _
                     _ _) (by decide)) (by decide)) (Frame.ite (m := 6146) (Frame.of (m := 6146) (State.inc_frame _ _) (Frame.mono (m := 6146)
                     (State.itemDone_frame _ _ _) (by decide)) (by decide)) (Frame.ite (m := 6146) (Frame.of (m := 6146) (State.inc_frame _ _) (Frame.mono
                     (m := 6146) (State.itemDone_frame _ _ _) (by decide)) (by decide)) (Frame.ite (m := 6146) (Frame.of (m := 6146) (State.inc_frame _ _)
                     (Frame.mono (m := 6146) (State.itemDone_frame _ _ _) (by decide)) (by decide)) ?_)))
    split
    · with_reducible exact Frame.mono (m := 6146) (State.itemDone_frame _ _ _) (by decide)
    · split
      · with_reducible exact Frame.of (m := 6146) (State.exactReserve_frame _ _ _ _ _) (Frame.mono (m := 6146) (State.itemDone_frame _ _ _)
                         (by decide)) (by decide)
      · with_reducible exact Frame.of (m := 6146) (State.release_frame _ _ _ _ _ _) (Frame.of (m := 6146) (State.exactReserve_frame _ _ _ _
                         _) (Frame.mono (m := 6146) (State.itemDone_frame _ _ _) (by decide)) (by decide)) (by decide)

theorem State.setNotices_frame (s : Sys2Proof.Machine.State) (a1 : Nat) (a2 : Sys2Proof.Machine.NoticeQueue) : Frame 16384 s (State.setNotices s a1 a2) := by
  unfold State.setNotices
  dsimp only
  simp only [State.mk_make]
  with_reducible exact Frame.up14 (m := 16384) (Frame.refl 16384 _) (by decide)

theorem State.deliverNotice_frame (s : Sys2Proof.Machine.State) (a1 : Nat) : Frame 16386 s (State.deliverNotice s a1) := by
  unfold State.deliverNotice
  dsimp only
  simp only [State.mk_make]
  split
  · with_reducible exact Frame.of (m := 16386) (State.vector_frame _ _ _) (Frame.up14 (m := 16386) (Frame.of (m := 16386)
                     (State.setChan__frame _ _ _) (Frame.mono (m := 16386) (State.setNotices_frame _ _ _) (by decide)) (by decide)) (by decide)) (by decide)
  · with_reducible exact Frame.refl 16386 _

theorem State.dequeue_frame (s : Sys2Proof.Machine.State) (a1 : Nat) (a2 : Nat) : Frame 2048 s (State.dequeue s a1 a2) := by
  unfold State.dequeue
  dsimp only
  with_reducible exact Frame.mono (m := 2048) (State.setMac_frame _ _ _) (by decide)

theorem State.placeRequest_frame (s : Sys2Proof.Machine.State) (a1 : Sys2Proof.Machine.MsgSource) (a2 : Sys2Proof.Octets) : Frame 16386 s (State.placeRequest s a1 a2) := by
  unfold State.placeRequest
  dsimp only
  split
  · with_reducible exact Frame.mono (m := 16386) (State.setChan__frame _ _ _) (by decide)
  · with_reducible exact Frame.refl 16386 _

theorem State.loomRefuse_frame (s : Sys2Proof.Machine.State) (a1 : Sys2Proof.Machine.LoomRes × Nat) : Frame 2 s (State.loomRefuse s a1) := by
  unfold State.loomRefuse
  with_reducible exact Frame.of (m := 2) (State.inc_frame _ _) (Frame.of (m := 2) (State.setN_frame _ _ _) (Frame.of (m := 2)
                   (State.setN_frame _ _ _) (Frame.mono (m := 2) (State.setN_frame _ _ _) (by decide)) (by decide)) (by decide)) (by decide)

theorem State.pendingConfig_frame (s : Sys2Proof.Machine.State) : Frame 6 s (State.pendingConfig s) := by
  unfold State.pendingConfig
  with_reducible exact Frame.foldl (m := 6) (fun _ => fun _ => Frame.ite (m := 6) (Frame.refl 6 _) (Frame.mono (m := 6)
                   (State.storeWrite_frame _ _) (by decide))) (Frame.refl 6 _)

theorem State.judgeBatch_frame (s : Sys2Proof.Machine.State) (a1 : Sys2Proof.Machine.DictMsg) : Frame 90118 s (State.judgeBatch s a1).1 := by
  unfold State.judgeBatch
  dsimp only
  with_reducible refine Frame.iteFst (m := 90118) (Frame.refl 90118 _) (Frame.iteFst (m := 90118) (Frame.ite (m := 90118) (Frame.of
                   (m := 90118) (State.inc_frame _ _) (Frame.of (m := 90118) (State.addN_frame _ _ _) (Frame.mono (m := 90118) (State.inc_frame _ _)
                   (by decide)) (by decide)) (by decide)) (Frame.of (m := 90118) (State.addN_frame _ _ _) (Frame.mono (m := 90118) (State.inc_frame _ _)
                   (by decide)) (by decide))) ?_)
  split
  · with_reducible exact Frame.ite (m := 90118) (Frame.of (m := 90118) (State.inc_frame _ _) (Frame.of (m := 90118) (State.addN_frame _ _ _)
                     (Frame.of (m := 90118) (State.inc_frame _ _) (Frame.mono (m := 90118) (State.loomRefuse_frame _ _) (by decide)) (by decide))
                     (by decide)) (by decide)) (Frame.of (m := 90118) (State.addN_frame _ _ _) (Frame.of (m := 90118) (State.inc_frame _ _) (Frame.mono
                     (m := 90118) (State.loomRefuse_frame _ _) (by decide)) (by decide)) (by decide))
  · with_reducible exact Frame.mono (m := 90118) (State.admitBatch_frame _ _ _) (by decide)

theorem State.serveMsg_frame (s : Sys2Proof.Machine.State) (a1 : Sys2Proof.Machine.DictMsg) : Frame 92166 s (State.serveMsg s a1) := by
  unfold State.serveMsg
  dsimp only
  with_reducible exact Frame.ite (m := 92166) (Frame.mono (m := 92166) (State.inc_frame _ _) (by decide)) (Frame.ite (m := 92166)
                   (Frame.mono (m := 92166) (State.reply_frame _ _ _ _) (by decide)) (Frame.ite (m := 92166) (Frame.mono (m := 92166) (State.reply_frame _ _
                   _ _) (by decide)) (Frame.of (m := 92166) (State.reply_frame _ _ _ _) (Frame.mono (m := 92166) (State.judgeBatch_frame _ _) (by decide))
                   (by decide))))

theorem State.servedOne_frame (s : Sys2Proof.Machine.State) (a1 : Sys2Proof.Machine.DictMsg) : Frame 16384 s (State.servedOne s a1) := by
  unfold State.servedOne
  dsimp only
  simp only [State.mk_make]
  with_reducible exact Frame.up14 (m := 16384) (Frame.refl 16384 _) (by decide)

theorem State.dictArrive_frame (s : Sys2Proof.Machine.State) (a1 : Sys2Proof.Machine.DictMsg) : Frame 1048542 s (State.dictArrive s a1) := by
  unfold State.dictArrive
  dsimp only
  simp only [State.mk_make]
  with_reducible refine Frame.ite (m := 1048542) (Frame.ite (m := 1048542) (Frame.of (m := 1048542) (State.placeRequest_frame _ _ _)
                   (Frame.mono (m := 1048542) (State.accept_frame _ _) (by decide)) (by decide)) (Frame.mono (m := 1048542) (State.accept_frame _ _)
                   (by decide))) (Frame.ite (m := 1048542) (Frame.of (m := 1048542) (State.serveMsg_frame _ _) (Frame.ite (m := 1048542) (Frame.of
                   (m := 1048542) (State.placeRequest_frame _ _ _) (Frame.mono (m := 1048542) (State.accept_frame _ _) (by decide)) (by decide)) (Frame.mono
                   (m := 1048542) (State.accept_frame _ _) (by decide))) (by decide)) (Frame.ite (m := 1048542) (Frame.of (m := 1048542)
                   (State.applyImmediate_frame _ _) (Frame.of (m := 1048542) (State.serveMsg_frame _ _) (Frame.of (m := 1048542) (State.servedOne_frame _ _)
                   (Frame.ite (m := 1048542) (Frame.of (m := 1048542) (State.placeRequest_frame _ _ _) (Frame.mono (m := 1048542) (State.accept_frame _ _)
                   (by decide)) (by decide)) (Frame.mono (m := 1048542) (State.accept_frame _ _) (by decide))) (by decide)) (by decide)) (by decide))
                   (Frame.mk1 (m := 1048542) (Frame.ite (m := 1048542) (Frame.of (m := 1048542) (State.placeRequest_frame _ _ _) (Frame.mono (m := 1048542)
                   (State.accept_frame _ _) (by decide)) (by decide)) (Frame.mono (m := 1048542) (State.accept_frame _ _) (by decide))) (.inr rfl) (.inr rfl)
                   (.inr rfl) (.inr rfl) (.inr rfl) (.inr rfl) (.inr rfl) (.inr rfl) (.inr rfl) (.inr rfl) (.inr rfl) (.inr rfl) (.inr rfl) ?_ (.inr rfl)
                   (.inr rfl) (.inr rfl) (.inr rfl) (.inr rfl))))
  split
  · with_reducible exact (.inl (by decide))
  · with_reducible exact (.inl (by decide))

theorem State.getLine_frame (s : Sys2Proof.Machine.State) (a1 : Nat) (a2 : Nat) : Frame 32786 s (State.getLine s a1 a2) := by
  unfold State.getLine
  dsimp only
  with_reducible refine Frame.ite (m := 32786) (Frame.of (m := 32786) (State.incHw_frame _ _) (Frame.mono (m := 32786)
                   (State.placeCopy_frame _ _ _ _) (by decide)) (by decide)) (Frame.of (m := 32786) (State.incHw_frame _ _) (Frame.of (m := 32786)
                   (State.setDir_frame _ _ _) (Frame.of (m := 32786) (State.placeCopy_frame _ _ _ _) ?_ (by decide)) (by decide)) (by decide))
  split
  · with_reducible exact Frame.mono (m := 32786) (State.putLine_frame _ _ _) (by decide)
  · with_reducible exact Frame.refl 32786 _

theorem State.dirServe_frame (s : Sys2Proof.Machine.State) (a1 : Nat) (a2 : List Sys2Proof.Machine.DirReq) : Frame 32786 s (State.dirServe s a1 a2) := by
  unfold State.dirServe
  dsimp only
  with_reducible exact Frame.foldl (m := 32786) (fun _ => fun _ => Frame.ite (m := 32786) (Frame.mono (m := 32786) (State.ownLine_frame _ _
                   _) (by decide)) (Frame.mono (m := 32786) (State.getLine_frame _ _ _) (by decide))) (Frame.foldl (m := 32786) (fun _ => fun _ => Frame.mono
                   (m := 32786) (State.putLine_frame _ _ _) (by decide)) (Frame.refl 32786 _))

theorem State.stamperFault_frame (s : Sys2Proof.Machine.State) (a1 : Nat) : Frame 743902 s (State.stamperFault s a1) := by
  unfold State.stamperFault
  with_reducible exact Frame.of (m := 743902) (State.portStop_frame _ _) (Frame.of (m := 743902) (State.faulted_frame _ _ _ _) (Frame.mono
                   (m := 743902) (State.stamperOut_frame _ _) (by decide)) (by decide)) (by decide)

theorem State.dllFail_frame (s : Sys2Proof.Machine.State) (a1 : Nat) : Frame 743902 s (State.dllFail s a1) := by
  unfold State.dllFail
  dsimp only
  with_reducible exact Frame.ite (m := 743902) (Frame.mono (m := 743902) (State.stamperFault_frame _ _) (by decide)) (Frame.mono
                   (m := 743902) (State.setStamper_frame _ _ _) (by decide))

theorem State.dllPass_frame (s : Sys2Proof.Machine.State) (a1 : Nat) (a2 : Int) : Frame 130 s (State.dllPass s a1 a2) := by
  unfold State.dllPass
  dsimp only
  with_reducible exact Frame.of (m := 130) (State.commitHeld_frame _ _ _) (Frame.of (m := 130) (State.setPort_frame _ _ _) (Frame.mono
                   (m := 130) (State.setStamper_frame _ _ _) (by decide)) (by decide)) (by decide)

theorem State.dllReads_frame (s : Sys2Proof.Machine.State) (a1 : Nat) : Frame 128 s (State.dllReads s a1) := by
  unfold State.dllReads
  dsimp only
  with_reducible exact Frame.of (m := 128) (State.setPort_frame _ _ _) (Frame.mono (m := 128) (State.setStamper_frame _ _ _) (by decide))
                   (by decide)

theorem State.drainLast_frame (s : Sys2Proof.Machine.State) : Frame 146 s (State.drainLast s) := by
  unfold State.drainLast
  dsimp only
  simp only [State.mk_make]
  with_reducible exact Frame.ite (m := 146) (Frame.of (m := 146) (State.setN_frame _ _ _) (Frame.of (m := 146) (State.addN_frame _ _ _)
                   (Frame.of (m := 146) (State.inc_frame _ _) (Frame.up4 (m := 146) (Frame.foldl (m := 146) (fun _ => fun _ => Frame.mono (m := 146)
                   (State.commitLate_frame _ _) (by decide)) (Frame.refl 146 _)) (by decide)) (by decide)) (by decide)) (by decide)) (Frame.foldl (m := 146)
                   (fun _ => fun _ => Frame.mono (m := 146) (State.commitLate_frame _ _) (by decide)) (Frame.refl 146 _))

theorem State.drainStamps_frame (s : Sys2Proof.Machine.State) : Frame 132 s (State.drainStamps s) := by
  unfold State.drainStamps
  dsimp only
  simp only [State.mk_make]
  split
  · with_reducible refine Frame.foldl (m := 132) (fun _ => fun _ => Frame.ite (m := 132) (Frame.mono (m := 132) (State.setBlob_frame _ _ _)
                     (by decide)) (Frame.refl 132 _)) (Frame.mk1 (m := 132) (Frame.refl 132 _) (.inr rfl) (.inr rfl) (.inr rfl) (.inr rfl) (.inr rfl)
                     (.inr rfl) ?_ (.inr rfl) (.inr rfl) (.inr rfl) (.inr rfl) (.inr rfl) (.inr rfl) (.inr rfl) (.inr rfl) (.inr rfl) (.inr rfl) (.inr rfl)
                     (.inr rfl))
    split
    · split
      · split
        · with_reducible exact (.inl (by decide))
        · with_reducible exact (.inl (by decide))
      · split
        · with_reducible exact (.inl (by decide))
        · with_reducible exact (.inl (by decide))
    · split
      · split
        · with_reducible exact (.inl (by decide))
        · with_reducible exact (.inl (by decide))
      · split
        · with_reducible exact (.inl (by decide))
        · with_reducible exact (.inl (by decide))
  · with_reducible exact Frame.refl 132 _

theorem State.driveEdge_frame (s : Sys2Proof.Machine.State) (a1 : Nat) (a2 : Nat) (a3 : Int) : Frame 744286 s (State.driveEdge s a1 a2 a3) := by
  unfold State.driveEdge
  dsimp only
  with_reducible exact Frame.ite (m := 744286) (Frame.mono (m := 744286) (State.setOut_frame _ _ _) (by decide)) (Frame.ite (m := 744286)
                   (Frame.mono (m := 744286) (State.setOut_frame _ _ _) (by decide)) (Frame.ite (m := 744286) (Frame.mono (m := 744286) (State.setOut_frame _
                   _ _) (by decide)) (Frame.ite (m := 744286) (Frame.mono (m := 744286) (State.setOut_frame _ _ _) (by decide)) (Frame.of (m := 744286)
                   (State.faulted_frame _ _ _ _) (Frame.of (m := 744286) (State.inc_frame _ _) (Frame.mono (m := 744286) (State.setOut_frame _ _ _)
                   (by decide)) (by decide)) (by decide)))))

theorem State.dropLane_frame (s : Sys2Proof.Machine.State) (a1 : Nat) (a2 : Nat) : Frame 4096 s (State.dropLane s a1 a2) := by
  unfold State.dropLane
  dsimp only
  simp only [State.mk_make]
  with_reducible exact Frame.up12 (m := 4096) (Frame.refl 4096 _) (by decide)

theorem State.dumpDiscard_frame (s : Sys2Proof.Machine.State) (a1 : Nat) : Frame 16384 s (State.dumpDiscard s a1) := by
  unfold State.dumpDiscard
  dsimp only
  simp only [State.mk_make]
  with_reducible exact Frame.ite (m := 16384) (Frame.refl 16384 _) (Frame.up14 (m := 16384) (Frame.of (m := 16384) (State.setReg_frame _ _ _
                   _) (Frame.of (m := 16384) (State.setReg_frame _ _ _ _) (Frame.mono (m := 16384) (State.setReg_frame _ _ _ _) (by decide)) (by decide))
                   (by decide)) (by decide))

theorem State.missStamp_frame (s : Sys2Proof.Machine.State) (a1 : Nat) (a2 : Bool) : Frame 130 s (State.missStamp s a1 a2) := by
  unfold State.missStamp
  dsimp only
  with_reducible exact Frame.of (m := 130) (State.commitHeld_frame _ _ _) (Frame.of (m := 130) (State.setPort_frame _ _ _) (Frame.ite
                   (m := 130) (Frame.mono (m := 130) (State.inc_frame _ _) (by decide)) (Frame.refl 130 _)) (by decide)) (by decide)

theorem State.parallelPair_frame (s : Sys2Proof.Machine.State) (a1 : Nat) (a2 : Sys2Proof.Machine.Capture) (a3 : Sys2Proof.Machine.Capture) : Frame 743902 s (State.parallelPair s a1 a2 a3) := by
  unfold State.parallelPair
  dsimp only
  with_reducible exact Frame.ite (m := 743902) (Frame.mono (m := 743902) (State.stamperFault_frame _ _) (by decide)) (Frame.ite
                   (m := 743902) (Frame.mono (m := 743902) (State.stamperFault_frame _ _) (by decide)) (Frame.ite (m := 743902) (Frame.refl 743902 _)
                   (Frame.ite (m := 743902) (Frame.mono (m := 743902) (State.setPort_frame _ _ _) (by decide)) (Frame.refl 743902 _))))

theorem State.stalledStamp_frame (s : Sys2Proof.Machine.State) (a1 : Nat) (a2 : Bool) : Frame 130 s (State.stalledStamp s a1 a2) := by
  unfold State.stalledStamp
  dsimp only
  with_reducible exact Frame.of (m := 130) (State.commitHeld_frame _ _ _) (Frame.of (m := 130) (State.gateFault_frame _ _) (Frame.mono
                   (m := 130) (State.setPort_frame _ _ _) (by decide)) (by decide)) (by decide)

theorem State.takeStamp_frame (s : Sys2Proof.Machine.State) (a1 : Nat) (a2 : Nat) (a3 : Int) (a4 : Sys2Proof.Machine.Capture) (a5 : Bool) (a6 : Bool) : Frame 743902 s (State.takeStamp s a1 a2 a3 a4 a5 a6) := by
  unfold State.takeStamp
  dsimp only
  with_reducible exact Frame.ite (m := 743902) (Frame.mono (m := 743902) (State.stamperFault_frame _ _) (by decide)) (Frame.ite
                   (m := 743902) (Frame.of (m := 743902) (State.setBlob_frame _ _ _) (Frame.mono (m := 743902) (State.setPort_frame _ _ _) (by decide))
                   (by decide)) (Frame.mono (m := 743902) (State.setPort_frame _ _ _) (by decide)))

theorem State.selectedEdge_frame (s : Sys2Proof.Machine.State) (a1 : Nat) (a2 : Int) (a3 : Sys2Proof.Machine.Capture) (a4 : Sys2Proof.Machine.Capture) (a5 : Bool) : Frame 743902 s (State.selectedEdge s a1 a2 a3 a4 a5) := by
  unfold State.selectedEdge
  dsimp only
  with_reducible exact Frame.ite (m := 743902) (Frame.ite (m := 743902) (Frame.of (m := 743902) (State.stalledStamp_frame _ _ _) (Frame.of
                   (m := 743902) (State.commitHeld_frame _ _ _) (Frame.mono (m := 743902) (State.setPort_frame _ _ _) (by decide)) (by decide)) (by decide))
                   (Frame.of (m := 743902) (State.commitHeld_frame _ _ _) (Frame.mono (m := 743902) (State.setPort_frame _ _ _) (by decide)) (by decide)))
                   (Frame.ite (m := 743902) (Frame.ite (m := 743902) (Frame.ite (m := 743902) (Frame.of (m := 743902) (State.takeStamp_frame _ _ _ _ _ _ _)
                   (Frame.of (m := 743902) (State.commitHeld_frame _ _ _) (Frame.mono (m := 743902) (State.setPort_frame _ _ _) (by decide)) (by decide))
                   (by decide)) (Frame.of (m := 743902) (State.takeStamp_frame _ _ _ _ _ _ _) (Frame.of (m := 743902) (State.commitHeld_frame _ _ _)
                   (Frame.mono (m := 743902) (State.setPort_frame _ _ _) (by decide)) (by decide)) (by decide))) (Frame.of (m := 743902)
                   (State.missStamp_frame _ _ _) (Frame.of (m := 743902) (State.commitHeld_frame _ _ _) (Frame.mono (m := 743902) (State.setPort_frame _ _ _)
                   (by decide)) (by decide)) (by decide))) (Frame.ite (m := 743902) (Frame.ite (m := 743902) (Frame.of (m := 743902)
                   (State.parallelPair_frame _ _ _ _) (Frame.ite (m := 743902) (Frame.of (m := 743902) (State.takeStamp_frame _ _ _ _ _ _ _) (Frame.of
                   (m := 743902) (State.commitHeld_frame _ _ _) (Frame.mono (m := 743902) (State.setPort_frame _ _ _) (by decide)) (by decide)) (by decide))
                   (Frame.of (m := 743902) (State.takeStamp_frame _ _ _ _ _ _ _) (Frame.of (m := 743902) (State.commitHeld_frame _ _ _) (Frame.mono
                   (m := 743902) (State.setPort_frame _ _ _) (by decide)) (by decide)) (by decide))) (by decide)) (Frame.of (m := 743902)
                   (State.missStamp_frame _ _ _) (Frame.of (m := 743902) (State.commitHeld_frame _ _ _) (Frame.mono (m := 743902) (State.setPort_frame _ _ _)
                   (by decide)) (by decide)) (by decide))) (Frame.of (m := 743902) (State.commitHeld_frame _ _ _) (Frame.mono (m := 743902)
                   (State.setPort_frame _ _ _) (by decide)) (by decide))))

theorem State.edge_frame (s : Sys2Proof.Machine.State) (a1 : Nat) (a2 : Int) (a3 : Sys2Proof.Machine.Capture) (a4 : Sys2Proof.Machine.Capture) : Frame 743902 s (State.edge s a1 a2 a3 a4) := by
  unfold State.edge
  dsimp only
  with_reducible exact Frame.ite (m := 743902) (Frame.mono (m := 743902) (State.drew_frame _) (by decide)) (Frame.ite (m := 743902)
                   (Frame.of (m := 743902) (State.selectedEdge_frame _ _ _ _ _ _) (Frame.of (m := 743902) (State.countEdge_frame _ _) (Frame.of (m := 743902)
                   (State.setPort_frame _ _ _) (Frame.ite (m := 743902) (Frame.mono (m := 743902) (State.drew_frame _) (by decide)) (Frame.refl 743902 _))
                   (by decide)) (by decide)) (by decide)) (Frame.of (m := 743902) (State.countEdge_frame _ _) (Frame.of (m := 743902) (State.setPort_frame _
                   _ _) (Frame.ite (m := 743902) (Frame.mono (m := 743902) (State.drew_frame _) (by decide)) (Frame.refl 743902 _)) (by decide))
                   (by decide)))

end Sys2Proof.Machine
end

