-- ==== Sys2Proof/Laws/Frames9.lean ====
section
/-!
SUPPORT. The frames of operations and commands, part 9.
-/

namespace Sys2Proof.Machine

theorem State.embLocked_frame (s : Sys2Proof.Machine.State) (a1 : Nat) : Frame 258 s (State.embLocked s a1) := by
  unfold State.embLocked
  dsimp only
  with_reducible exact Frame.of (m := 258) (State.setGlink_frame _ _ _) (Frame.mono (m := 258) (State.linkEnter_frame _ _ _) (by decide))
                   (by decide)

theorem State.endGate_frame (s : Sys2Proof.Machine.State) (a1 : Nat) : Frame 146 s (State.endGate s a1) := by
  unfold State.endGate
  dsimp only
  simp only [State.mk_make]
  split
  · with_reducible exact Frame.refl 146 _
  · split
    · with_reducible exact Frame.mono (m := 146) (State.commitLate_frame _ _) (by decide)
    · with_reducible exact Frame.of (m := 146) (State.setPort_frame _ _ _) (Frame.of (m := 146) (State.openGate_frame _ _) (Frame.ite
                       (m := 146) (Frame.ite (m := 146) (Frame.of (m := 146) (State.inc_frame _ _) (Frame.ite (m := 146) (Frame.of (m := 146)
                       (State.setPort_frame _ _ _) (Frame.up4 (m := 146) (Frame.mono (m := 146) (State.commitLate_frame _ _) (by decide)) (by decide))
                       (by decide)) (Frame.of (m := 146) (State.inc_frame _ _) (Frame.of (m := 146) (State.setPort_frame _ _ _) (Frame.up4 (m := 146)
                       (Frame.mono (m := 146) (State.commitLate_frame _ _) (by decide)) (by decide)) (by decide)) (by decide))) (by decide)) (Frame.ite
                       (m := 146) (Frame.of (m := 146) (State.setPort_frame _ _ _) (Frame.up4 (m := 146) (Frame.mono (m := 146) (State.commitLate_frame _ _)
                       (by decide)) (by decide)) (by decide)) (Frame.of (m := 146) (State.inc_frame _ _) (Frame.of (m := 146) (State.setPort_frame _ _ _)
                       (Frame.up4 (m := 146) (Frame.mono (m := 146) (State.commitLate_frame _ _) (by decide)) (by decide)) (by decide)) (by decide))))
                       (Frame.of (m := 146) (State.setPort_frame _ _ _) (Frame.up4 (m := 146) (Frame.mono (m := 146) (State.commitLate_frame _ _)
                       (by decide)) (by decide)) (by decide))) (by decide)) (by decide)

theorem State.laneDown_frame (s : Sys2Proof.Machine.State) (a1 : Nat) (a2 : Nat) (a3 : Bool) : Frame 32768 s (State.laneDown s a1 a2 a3) := by
  unfold State.laneDown
  dsimp only
  simp only [State.mk_make]
  with_reducible exact Frame.up15 (m := 32768) (Frame.refl 32768 _) (by decide)

theorem State.engineOut_frame (s : Sys2Proof.Machine.State) (a1 : Nat) (a2 : Nat) : Frame 776542 s (State.engineOut s a1 a2) := by
  unfold State.engineOut
  dsimp only
  simp only [State.mk_make]
  with_reducible refine Frame.ite (m := 776542) (Frame.refl 776542 _) (Frame.ite (m := 776542) (Frame.of (m := 776542)
                   (State.countEngines_frame _ _) (Frame.ite (m := 776542) (Frame.of (m := 776542) (State.setF_frame _ _ _) (Frame.of (m := 776542)
                   (State.setO_frame _ _ _) (Frame.mono (m := 776542) (State.setO_frame _ _ _) (by decide)) (by decide)) (by decide)) (Frame.of (m := 776542)
                   (State.setO_frame _ _ _) (Frame.mono (m := 776542) (State.setO_frame _ _ _) (by decide)) (by decide))) (by decide)) (Frame.ite
                   (m := 776542) (Frame.of (m := 776542) (State.groveFault_frame _ _) ?_ (by decide)) ?_))
  · split
    · with_reducible refine Frame.of (m := 776542) (State.laneDown_frame _ _ _ _) (Frame.of (m := 776542) (State.inc_frame _ _) (Frame.mk1
                       (m := 776542) (Frame.of (m := 776542) (State.setF_frame _ _ _) (Frame.of (m := 776542) (State.setN_frame _ _ _) (Frame.of
                       (m := 776542) (State.setO_frame _ _ _) (Frame.ite (m := 776542) (Frame.mk1 (m := 776542) (Frame.of (m := 776542)
                       (State.countEngines_frame _ _) (Frame.ite (m := 776542) (Frame.of (m := 776542) (State.setF_frame _ _ _) (Frame.of (m := 776542)
                       (State.setO_frame _ _ _) (Frame.mono (m := 776542) (State.setO_frame _ _ _) (by decide)) (by decide)) (by decide)) (Frame.of
                       (m := 776542) (State.setO_frame _ _ _) (Frame.mono (m := 776542) (State.setO_frame _ _ _) (by decide)) (by decide))) (by decide))
                       (.inr rfl) (.inr rfl) (.inr rfl) (.inr rfl) (.inr rfl) (.inr rfl) (.inr rfl) (.inr rfl) (.inr rfl) (.inr rfl) (.inr rfl) (.inr rfl)
                       (.inr rfl) (.inr rfl) ?_ (.inr rfl) (.inr rfl) (.inr rfl) (.inr rfl)) (Frame.of (m := 776542) (State.countEngines_frame _ _)
                       (Frame.ite (m := 776542) (Frame.of (m := 776542) (State.setF_frame _ _ _) (Frame.of (m := 776542) (State.setO_frame _ _ _) (Frame.mono
                       (m := 776542) (State.setO_frame _ _ _) (by decide)) (by decide)) (by decide)) (Frame.of (m := 776542) (State.setO_frame _ _ _)
                       (Frame.mono (m := 776542) (State.setO_frame _ _ _) (by decide)) (by decide))) (by decide))) (by decide)) (by decide)) (by decide))
                       (.inr rfl) (.inr rfl) (.inr rfl) (.inr rfl) (.inr rfl) (.inr rfl) (.inr rfl) (.inr rfl) (.inr rfl) (.inr rfl) (.inr rfl) (.inr rfl)
                       (.inr rfl) (.inr rfl) ?_ (.inr rfl) (.inr rfl) (.inr rfl) (.inr rfl)) (by decide)) (by decide)
      · split
        · with_reducible exact (.inl (by decide))
        · with_reducible exact (.inl (by decide))
      · split
        · split
          · with_reducible exact (.inl (by decide))
          · with_reducible exact (.inl (by decide))
        · split
          · with_reducible exact (.inl (by decide))
          · with_reducible exact (.inl (by decide))
    · with_reducible refine Frame.of (m := 776542) (State.laneDown_frame _ _ _ _) (Frame.of (m := 776542) (State.dropLane_frame _ _ _)
                       (Frame.ite (m := 776542) (Frame.mk1 (m := 776542) (Frame.of (m := 776542) (State.countEngines_frame _ _) (Frame.ite (m := 776542)
                       (Frame.of (m := 776542) (State.setF_frame _ _ _) (Frame.of (m := 776542) (State.setO_frame _ _ _) (Frame.mono (m := 776542)
                       (State.setO_frame _ _ _) (by decide)) (by decide)) (by decide)) (Frame.of (m := 776542) (State.setO_frame _ _ _) (Frame.mono
                       (m := 776542) (State.setO_frame _ _ _) (by decide)) (by decide))) (by decide)) (.inr rfl) (.inr rfl) (.inr rfl) (.inr rfl) (.inr rfl)
                       (.inr rfl) (.inr rfl) (.inr rfl) (.inr rfl) (.inr rfl) (.inr rfl) (.inr rfl) (.inr rfl) (.inr rfl) ?_ (.inr rfl) (.inr rfl) (.inr rfl)
                       (.inr rfl)) (Frame.of (m := 776542) (State.countEngines_frame _ _) (Frame.ite (m := 776542) (Frame.of (m := 776542) (State.setF_frame
                       _ _ _) (Frame.of (m := 776542) (State.setO_frame _ _ _) (Frame.mono (m := 776542) (State.setO_frame _ _ _) (by decide)) (by decide))
                       (by decide)) (Frame.of (m := 776542) (State.setO_frame _ _ _) (Frame.mono (m := 776542) (State.setO_frame _ _ _) (by decide))
                       (by decide))) (by decide))) (by decide)) (by decide)
      split
      · with_reducible exact (.inl (by decide))
      · with_reducible exact (.inl (by decide))
  · split
    · with_reducible refine Frame.of (m := 776542) (State.laneDown_frame _ _ _ _) (Frame.of (m := 776542) (State.inc_frame _ _) (Frame.mk1
                       (m := 776542) (Frame.of (m := 776542) (State.setF_frame _ _ _) (Frame.of (m := 776542) (State.setN_frame _ _ _) (Frame.of
                       (m := 776542) (State.setO_frame _ _ _) (Frame.ite (m := 776542) (Frame.mk1 (m := 776542) (Frame.of (m := 776542)
                       (State.countEngines_frame _ _) (Frame.ite (m := 776542) (Frame.of (m := 776542) (State.setF_frame _ _ _) (Frame.of (m := 776542)
                       (State.setO_frame _ _ _) (Frame.mono (m := 776542) (State.setO_frame _ _ _) (by decide)) (by decide)) (by decide)) (Frame.of
                       (m := 776542) (State.setO_frame _ _ _) (Frame.mono (m := 776542) (State.setO_frame _ _ _) (by decide)) (by decide))) (by decide))
                       (.inr rfl) (.inr rfl) (.inr rfl) (.inr rfl) (.inr rfl) (.inr rfl) (.inr rfl) (.inr rfl) (.inr rfl) (.inr rfl) (.inr rfl) (.inr rfl)
                       (.inr rfl) (.inr rfl) ?_ (.inr rfl) (.inr rfl) (.inr rfl) (.inr rfl)) (Frame.of (m := 776542) (State.countEngines_frame _ _)
                       (Frame.ite (m := 776542) (Frame.of (m := 776542) (State.setF_frame _ _ _) (Frame.of (m := 776542) (State.setO_frame _ _ _) (Frame.mono
                       (m := 776542) (State.setO_frame _ _ _) (by decide)) (by decide)) (by decide)) (Frame.of (m := 776542) (State.setO_frame _ _ _)
                       (Frame.mono (m := 776542) (State.setO_frame _ _ _) (by decide)) (by decide))) (by decide))) (by decide)) (by decide)) (by decide))
                       (.inr rfl) (.inr rfl) (.inr rfl) (.inr rfl) (.inr rfl) (.inr rfl) (.inr rfl) (.inr rfl) (.inr rfl) (.inr rfl) (.inr rfl) (.inr rfl)
                       (.inr rfl) (.inr rfl) ?_ (.inr rfl) (.inr rfl) (.inr rfl) (.inr rfl)) (by decide)) (by decide)
      · split
        · with_reducible exact (.inl (by decide))
        · with_reducible exact (.inl (by decide))
      · split
        · split
          · with_reducible exact (.inl (by decide))
          · with_reducible exact (.inl (by decide))
        · split
          · with_reducible exact (.inl (by decide))
          · with_reducible exact (.inl (by decide))
    · with_reducible refine Frame.of (m := 776542) (State.laneDown_frame _ _ _ _) (Frame.of (m := 776542) (State.dropLane_frame _ _ _)
                       (Frame.ite (m := 776542) (Frame.mk1 (m := 776542) (Frame.of (m := 776542) (State.countEngines_frame _ _) (Frame.ite (m := 776542)
                       (Frame.of (m := 776542) (State.setF_frame _ _ _) (Frame.of (m := 776542) (State.setO_frame _ _ _) (Frame.mono (m := 776542)
                       (State.setO_frame _ _ _) (by decide)) (by decide)) (by decide)) (Frame.of (m := 776542) (State.setO_frame _ _ _) (Frame.mono
                       (m := 776542) (State.setO_frame _ _ _) (by decide)) (by decide))) (by decide)) (.inr rfl) (.inr rfl) (.inr rfl) (.inr rfl) (.inr rfl)
                       (.inr rfl) (.inr rfl) (.inr rfl) (.inr rfl) (.inr rfl) (.inr rfl) (.inr rfl) (.inr rfl) (.inr rfl) ?_ (.inr rfl) (.inr rfl) (.inr rfl)
                       (.inr rfl)) (Frame.of (m := 776542) (State.countEngines_frame _ _) (Frame.ite (m := 776542) (Frame.of (m := 776542) (State.setF_frame
                       _ _ _) (Frame.of (m := 776542) (State.setO_frame _ _ _) (Frame.mono (m := 776542) (State.setO_frame _ _ _) (by decide)) (by decide))
                       (by decide)) (Frame.of (m := 776542) (State.setO_frame _ _ _) (Frame.mono (m := 776542) (State.setO_frame _ _ _) (by decide))
                       (by decide))) (by decide))) (by decide)) (by decide)
      split
      · with_reducible exact (.inl (by decide))
      · with_reducible exact (.inl (by decide))

theorem State.engineFail_frame (s : Sys2Proof.Machine.State) (a1 : Nat) (a2 : Nat) : Frame 776542 s (State.engineFail s a1 a2) := by
  unfold State.engineFail
  dsimp only
  with_reducible exact Frame.ite (m := 776542) (Frame.of (m := 776542) (State.engineOut_frame _ _ _) (Frame.mono (m := 776542)
                   (State.faulted_frame _ _ _ _) (by decide)) (by decide)) (Frame.refl 776542 _)

theorem State.ensembleLost_frame (s : Sys2Proof.Machine.State) : Frame 66578 s (State.ensembleLost s) := by
  unfold State.ensembleLost
  dsimp only
  simp only [State.mk_make]
  with_reducible exact Frame.ite (m := 66578) (Frame.of (m := 66578) (State.forceUnbounded_frame _) (Frame.mono (m := 66578)
                   (State.discardShadow_frame _) (by decide)) (by decide)) (Frame.of (m := 66578) (State.forceUnbounded_frame _) (Frame.of (m := 66578)
                   (State.unanchor_frame _) (Frame.up10 (m := 66578) (Frame.foldl (m := 66578) (fun _ => fun _ => Frame.mono (m := 66578)
                   (State.declare_frame _ _ _) (by decide)) (Frame.refl 66578 _)) (by decide)) (by decide)) (by decide))

theorem State.epochFalls_frame (s : Sys2Proof.Machine.State) (a1 : Sys2Proof.Machine.GladeEpoch) : Frame 258 s (State.epochFalls s a1) := by
  unfold State.epochFalls
  dsimp only
  simp only [State.mk_make]
  with_reducible refine Frame.mk1 (m := 258) (Frame.foldl (m := 258) (fun _ => fun _ => Frame.mono (m := 258) (State.inc_frame _ _)
                   (by decide)) (Frame.ite (m := 258) (Frame.mono (m := 258) (State.inc_frame _ _) (by decide)) (Frame.refl 258 _))) (.inr rfl) (.inr rfl)
                   (.inr rfl) (.inr rfl) (.inr rfl) (.inr rfl) (.inr rfl) ?_ (.inr rfl) (.inr rfl) (.inr rfl) (.inr rfl) (.inr rfl) (.inr rfl) (.inr rfl)
                   (.inr rfl) (.inr rfl) (.inr rfl) (.inr rfl)
  split
  · split
    · with_reducible exact (.inl (by decide))
    · with_reducible exact (.inl (by decide))
  · split
    · with_reducible exact (.inl (by decide))
    · with_reducible exact (.inl (by decide))

theorem State.expireCache_frame (s : Sys2Proof.Machine.State) : Frame 16384 s (State.expireCache s) := by
  unfold State.expireCache
  dsimp only
  simp only [State.mk_make]
  with_reducible exact Frame.up14 (m := 16384) (Frame.refl 16384 _) (by decide)

theorem State.memCe_frame (s : Sys2Proof.Machine.State) (a1 : Nat) (a2 : Nat) : Frame 1038686 s (State.memCe s a1 a2) := by
  unfold State.memCe
  dsimp only
  simp only [State.mk_make]
  with_reducible exact Frame.mk1 (m := 1038686) (Frame.of (m := 1038686) (State.faulted_frame _ _ _ _) (Frame.mono (m := 1038686)
                   (State.inc_frame _ _) (by decide)) (by decide)) (.inr rfl) (.inr rfl) (.inr rfl) (.inr rfl) (.inr rfl) (.inr rfl) (.inr rfl) (.inr rfl)
                   (.inr rfl) (.inr rfl) (.inr rfl) (.inr rfl) (.inr rfl) (.inr rfl) (.inl (by decide)) (.inr rfl) (.inr rfl) (.inl (by decide)) (.inr rfl)

theorem State.reedLost_frame (s : Sys2Proof.Machine.State) (a1 : Nat) : Frame 36866 s (State.reedLost s a1) := by
  unfold State.reedLost
  dsimp only
  simp only [State.mk_make]
  with_reducible exact Frame.mk1 (m := 36866) (Frame.mono (m := 36866) (State.addN_frame _ _ _) (by decide)) (.inr rfl) (.inr rfl)
                   (.inr rfl) (.inr rfl) (.inr rfl) (.inr rfl) (.inr rfl) (.inr rfl) (.inr rfl) (.inr rfl) (.inr rfl) (.inl (by decide)) (.inr rfl)
                   (.inr rfl) (.inl (by decide)) (.inr rfl) (.inr rfl) (.inr rfl) (.inr rfl)

theorem State.navPut_frame (s : Sys2Proof.Machine.State) (a1 : Nat) (a2 : Sys2Proof.Octets) : Frame 8 s (State.navPut s a1 a2) := by
  unfold State.navPut
  dsimp only
  with_reducible exact Frame.of (m := 8) (State.writeBank_frame _ _ _ _) (Frame.mono (m := 8) (State.writeBank_frame _ _ _ _) (by decide))
                   (by decide)

theorem State.navDiscard_frame (s : Sys2Proof.Machine.State) (a1 : Nat) : Frame 264 s (State.navDiscard s a1) := by
  unfold State.navDiscard
  dsimp only
  simp only [State.mk_make]
  split
  · with_reducible exact Frame.up8 (m := 264) (Frame.mono (m := 264) (State.navPut_frame _ _ _) (by decide)) (by decide)
  · with_reducible exact Frame.refl 264 _

theorem State.recallAll_frame (s : Sys2Proof.Machine.State) (a1 : Nat) : Frame 32768 s (State.recallAll s a1) := by
  unfold State.recallAll
  with_reducible exact Frame.of (m := 32768) (State.setDir_frame _ _ _) (Frame.foldl (m := 32768) (fun _ => fun _ => Frame.ite (m := 32768)
                   (Frame.mono (m := 32768) (State.dropCopy_frame _ _ _) (by decide)) (Frame.refl 32768 _)) (Frame.refl 32768 _)) (by decide)

theorem State.poisonLine_frame (s : Sys2Proof.Machine.State) (a1 : Nat) : Frame 102410 s (State.poisonLine s a1) := by
  unfold State.poisonLine
  dsimp only
  simp only [State.mk_make]
  split
  · with_reducible exact Frame.of (m := 102410) (State.inc_frame _ _) (Frame.of (m := 102410) (State.writeBank_frame _ _ _ _) (Frame.mono
                     (m := 102410) (State.recallAll_frame _ _) (by decide)) (by decide)) (by decide)
  · with_reducible exact Frame.of (m := 102410) (State.setN_frame _ _ _) (Frame.mk1 (m := 102410) (Frame.of (m := 102410) (State.inc_frame _
                     _) (Frame.of (m := 102410) (State.writeBank_frame _ _ _ _) (Frame.mono (m := 102410) (State.recallAll_frame _ _) (by decide))
                     (by decide)) (by decide)) (.inr rfl) (.inr rfl) (.inr rfl) (.inr rfl) (.inr rfl) (.inr rfl) (.inr rfl) (.inr rfl) (.inr rfl) (.inr rfl)
                     (.inr rfl) (.inl (by decide)) (.inr rfl) (.inr rfl) (.inr rfl) (.inl (by decide)) (.inr rfl) (.inr rfl) (.inr rfl)) (by decide)

theorem State.solutionLost_frame (s : Sys2Proof.Machine.State) : Frame 256 s (State.solutionLost s) := by
  unfold State.solutionLost
  dsimp only
  simp only [State.mk_make]
  with_reducible exact Frame.up8 (m := 256) (Frame.refl 256 _) (by decide)

theorem State.stampOverrun_frame (s : Sys2Proof.Machine.State) (a1 : Nat) : Frame 134 s (State.stampOverrun s a1) := by
  unfold State.stampOverrun
  dsimp only
  with_reducible exact Frame.of (m := 134) (State.drainStamps_frame _) (Frame.of (m := 134) (State.setPort_frame _ _ _) (Frame.ite
                   (m := 134) (Frame.mono (m := 134) (State.inc_frame _ _) (by decide)) (Frame.refl 134 _)) (by decide)) (by decide)

theorem State.ueReact_frame (s : Sys2Proof.Machine.State) (a1 : Nat) (a2 : Nat) (a3 : Option Nat) (a4 : Option Nat) : Frame 777694 s (State.ueReact s a1 a2 a3 a4) := by
  unfold State.ueReact
  dsimp only
  simp only [State.mk_make]
  with_reducible refine Frame.ite (m := 777694) (Frame.ite (m := 777694) (Frame.mk1 (m := 777694) (Frame.mono (m := 777694)
                   (State.groveFault_frame _ _) (by decide)) (.inr rfl) (.inr rfl) (.inr rfl) (.inr rfl) (.inr rfl) ?_ (.inr rfl) (.inr rfl) (.inr rfl)
                   (.inr rfl) (.inr rfl) (.inr rfl) (.inr rfl) (.inr rfl) (.inr rfl) (.inr rfl) (.inr rfl) (.inr rfl) (.inr rfl)) ?_) (Frame.ite
                   (m := 777694) (Frame.mono (m := 777694) (State.poisonLine_frame _ _) (by decide)) (Frame.ite (m := 777694) (Frame.mono (m := 777694)
                   (State.bobBad_frame _ _) (by decide)) (Frame.ite (m := 777694) (Frame.mono (m := 777694) (State.ensembleLost_frame _) (by decide))
                   (Frame.ite (m := 777694) (Frame.of (m := 777694) (State.navDiscard_frame _ _) (Frame.mono (m := 777694) (State.solutionLost_frame _)
                   (by decide)) (by decide)) ?_))))
  · split
    · with_reducible exact (.inr rfl)
    · with_reducible exact (.inl (by decide))
  · split
    · with_reducible exact Frame.mono (m := 777694) (State.engineFail_frame _ _ _) (by decide)
    · with_reducible exact Frame.refl 777694 _
  · split
    · with_reducible exact Frame.ite (m := 777694) (Frame.mono (m := 777694) (State.stampOverrun_frame _ _) (by decide)) (Frame.refl 777694
                       _)
    · with_reducible exact Frame.refl 777694 _

theorem State.memUe_frame (s : Sys2Proof.Machine.State) (a1 : Nat) (a2 : Nat) (a3 : Option Nat) (a4 : Option Nat) : Frame 777694 s (State.memUe s a1 a2 a3 a4) := by
  unfold State.memUe
  dsimp only
  simp only [State.mk_make]
  with_reducible exact Frame.ite (m := 777694) (Frame.of (m := 777694) (State.faulted_frame _ _ _ _) (Frame.up15 (m := 777694) (Frame.mono
                   (m := 777694) (State.inc_frame _ _) (by decide)) (by decide)) (by decide)) (Frame.ite (m := 777694) (Frame.of (m := 777694)
                   (State.reedLost_frame _ _) (Frame.of (m := 777694) (State.faulted_frame _ _ _ _) (Frame.mono (m := 777694) (State.inc_frame _ _)
                   (by decide)) (by decide)) (by decide)) (Frame.ite (m := 777694) (Frame.of (m := 777694) (State.faulted_frame _ _ _ _) (Frame.mono
                   (m := 777694) (State.inc_frame _ _) (by decide)) (by decide)) (Frame.ite (m := 777694) (Frame.of (m := 777694) (State.faulted_frame _ _ _
                   _) (Frame.mono (m := 777694) (State.inc_frame _ _) (by decide)) (by decide)) (Frame.of (m := 777694) (State.ueReact_frame _ _ _ _ _)
                   (Frame.of (m := 777694) (State.faulted_frame _ _ _ _) (Frame.mono (m := 777694) (State.inc_frame _ _) (by decide)) (by decide))
                   (by decide)))))

theorem State.refetch_frame (s : Sys2Proof.Machine.State) (a1 : Nat) (a2 : Nat) : Frame 32786 s (State.refetch s a1 a2) := by
  unfold State.refetch
  with_reducible exact Frame.ite (m := 32786) (Frame.of (m := 32786) (State.getLine_frame _ _ _) (Frame.mono (m := 32786)
                   (State.dropCopy_frame _ _ _) (by decide)) (by decide)) (Frame.refl 32786 _)

theorem State.remapWord_frame (s : Sys2Proof.Machine.State) (a1 : Nat) (a2 : Nat) : Frame 743774 s (State.remapWord s a1 a2) := by
  unfold State.remapWord
  dsimp only
  with_reducible refine Frame.ite (m := 743774) (Frame.of (m := 743774) (State.faulted_frame _ _ _ _) (Frame.mono (m := 743774)
                   (State.inc_frame _ _) (by decide)) (by decide)) ?_
  split
  · with_reducible exact Frame.refl 743774 _
  · with_reducible exact Frame.of (m := 743774) (State.faulted_frame _ _ _ _) (Frame.of (m := 743774) (State.writeWord_frame _ _ _ _)
                     (Frame.of (m := 743774) (State.setN_frame _ _ _) (Frame.mono (m := 743774) (State.setBlob_frame _ _ _) (by decide)) (by decide))
                     (by decide)) (by decide)

theorem State.slotFail_frame (s : Sys2Proof.Machine.State) (a1 : Nat) : Frame 8198 s (State.slotFail s a1) := by
  unfold State.slotFail
  dsimp only
  simp only [State.mk_make]
  with_reducible exact Frame.up13 (m := 8198) (Frame.of (m := 8198) (State.inc_frame _ _) (Frame.mono (m := 8198) (State.putSlot_frame _ _
                   _) (by decide)) (by decide)) (by decide)

theorem State.slotCheck_frame (s : Sys2Proof.Machine.State) (a1 : Nat) : Frame 1014110 s (State.slotCheck s a1) := by
  unfold State.slotCheck
  dsimp only
  simp only [State.mk_make]
  with_reducible refine Frame.ite (m := 1014110) ?_ (Frame.of (m := 1014110) (State.slotFail_frame _ _) (Frame.mono (m := 1014110)
                   (State.faulted_frame _ _ _ _) (by decide)) (by decide))
  split
  · with_reducible exact Frame.of (m := 1014110) (State.showKeys_frame _) (Frame.mk1 (m := 1014110) (Frame.of (m := 1014110)
                     (State.drew_frame _) (Frame.of (m := 1014110) (State.drew_frame _) (Frame.of (m := 1014110) (State.slotFail_frame _ _) (Frame.mono
                     (m := 1014110) (State.faulted_frame _ _ _ _) (by decide)) (by decide)) (by decide)) (by decide)) (.inr rfl) (.inr rfl) (.inr rfl)
                     (.inr rfl) (.inr rfl) (.inr rfl) (.inr rfl) (.inr rfl) (.inr rfl) (.inr rfl) (.inr rfl) (.inl (by decide)) (.inr rfl) (.inr rfl)
                     (.inr rfl) (.inr rfl) (.inr rfl) (.inl (by decide)) (.inr rfl)) (by decide)
  · with_reducible exact Frame.of (m := 1014110) (State.drew_frame _) (Frame.of (m := 1014110) (State.drew_frame _) (Frame.of (m := 1014110)
                     (State.slotFail_frame _ _) (Frame.mono (m := 1014110) (State.faulted_frame _ _ _ _) (by decide)) (by decide)) (by decide)) (by decide)

theorem State.zeroise_frame (s : Sys2Proof.Machine.State) : Frame 77830 s (State.zeroise s) := by
  unfold State.zeroise
  dsimp only
  simp only [State.mk_make]
  with_reducible exact Frame.of (m := 77830) (State.setN_frame _ _ _) (Frame.mk1 (m := 77830) (Frame.foldl (m := 77830) (fun _ => fun _ =>
                   Frame.ite (m := 77830) (Frame.refl 77830 _) (Frame.mono (m := 77830) (State.setSlot_frame _ _ _) (by decide))) (Frame.refl 77830 _))
                   (.inr rfl) (.inr rfl) (.inr rfl) (.inr rfl) (.inr rfl) (.inr rfl) (.inr rfl) (.inr rfl) (.inr rfl) (.inr rfl) (.inr rfl) (.inl
                   (by decide)) (.inl (by decide)) (.inr rfl) (.inr rfl) (.inl (by decide)) (.inr rfl) (.inr rfl) (.inr rfl)) (by decide)

theorem State.faultGroves_frame (s : Sys2Proof.Machine.State) (a1 : Sys2Proof.Machine.FaultOperand) : Frame 1048030 s (State.faultGroves s a1) := by
  unfold State.faultGroves
  dsimp only
  simp only [State.mk_make]
  split
  · with_reducible exact Frame.mono (m := 1048030) (State.slotCheck_frame _ _) (by decide)
  · with_reducible exact Frame.ite (m := 1048030) (Frame.of (m := 1048030) (State.aesOut_frame _ _ _) (Frame.mono (m := 1048030)
                     (State.raise_frame _ _ _ _) (by decide)) (by decide)) (Frame.mono (m := 1048030) (State.raise_frame _ _ _ _) (by decide))
  · with_reducible exact Frame.of (m := 1048030) (State.faulted_frame _ _ _ _) (Frame.of (m := 1048030) (State.inc_frame _ _) (Frame.up13
                     (m := 1048030) (Frame.refl 1048030 _) (by decide)) (by decide)) (by decide)
  · with_reducible exact Frame.of (m := 1048030) (State.faulted_frame _ _ _ _) (Frame.mono (m := 1048030) (State.zeroise_frame _)
                     (by decide)) (by decide)
  · with_reducible exact Frame.of (m := 1048030) (State.faulted_frame _ _ _ _) (Frame.mono (m := 1048030) (State.zeroise_frame _)
                     (by decide)) (by decide)
  · with_reducible exact Frame.mono (m := 1048030) (State.engineFail_frame _ _ _) (by decide)
  · with_reducible exact Frame.ite (m := 1048030) (Frame.of (m := 1048030) (State.engineOut_frame _ _ _) (Frame.mono (m := 1048030)
                     (State.raise_frame _ _ _ _) (by decide)) (by decide)) (Frame.mono (m := 1048030) (State.raise_frame _ _ _ _) (by decide))
  · with_reducible exact Frame.of (m := 1048030) (State.aesOut_frame _ _ _) (Frame.mono (m := 1048030) (State.faulted_frame _ _ _ _)
                     (by decide)) (by decide)
  · with_reducible exact Frame.mono (m := 1048030) (State.groveFault_frame _ _) (by decide)
  · with_reducible exact Frame.of (m := 1048030) (State.reedLost_frame _ _) (Frame.mono (m := 1048030) (State.faulted_frame _ _ _ _)
                     (by decide)) (by decide)
  · with_reducible exact Frame.up15 (m := 1048030) (Frame.mono (m := 1048030) (State.faulted_frame _ _ _ _) (by decide)) (by decide)
  · with_reducible exact Frame.mono (m := 1048030) (State.memCe_frame _ _ _) (by decide)
  · with_reducible exact Frame.mono (m := 1048030) (State.remapWord_frame _ _ _) (by decide)
  · with_reducible exact Frame.of (m := 1048030) (State.faulted_frame _ _ _ _) (Frame.mono (m := 1048030) (State.inc_frame _ _) (by decide))
                     (by decide)
  · with_reducible exact Frame.mono (m := 1048030) (State.memUe_frame _ _ _ _ _) (by decide)
  · with_reducible exact Frame.of (m := 1048030) (State.faulted_frame _ _ _ _) (Frame.mono (m := 1048030) (State.inc_frame _ _) (by decide))
                     (by decide)
  · with_reducible exact Frame.ite (m := 1048030) (Frame.of (m := 1048030) (State.poisonLine_frame _ _) (Frame.mono (m := 1048030)
                     (State.raise_frame _ _ _ _) (by decide)) (by decide)) (Frame.of (m := 1048030) (State.refetch_frame _ _ _) (Frame.mono (m := 1048030)
                     (State.raise_frame _ _ _ _) (by decide)) (by decide))
  · with_reducible exact Frame.mono (m := 1048030) (State.faulted_frame _ _ _ _) (by decide)

theorem State.steerFail_frame (s : Sys2Proof.Machine.State) (a1 : Nat) : Frame 744286 s (State.steerFail s a1) := by
  unfold State.steerFail
  dsimp only
  with_reducible exact Frame.ite (m := 744286) (Frame.of (m := 744286) (State.faulted_frame _ _ _ _) (Frame.of (m := 744286)
                   (State.setO_frame _ _ _) (Frame.of (m := 744286) (State.inc_frame _ _) (Frame.mono (m := 744286) (State.setDst_frame _ _ _) (by decide))
                   (by decide)) (by decide)) (by decide)) (Frame.of (m := 744286) (State.inc_frame _ _) (Frame.mono (m := 744286) (State.setDst_frame _ _ _)
                   (by decide)) (by decide))

theorem State.i2cFailed_frame (s : Sys2Proof.Machine.State) (a1 : Nat) (a2 : Sys2Proof.Machine.I2cTrans) (a3 : Nat) : Frame 744286 s (State.i2cFailed s a1 a2 a3) := by
  unfold State.i2cFailed
  split
  · with_reducible exact Frame.mono (m := 744286) (State.steerFail_frame _ _) (by decide)
  · with_reducible exact Frame.mono (m := 744286) (State.i2cResult_frame _ _ _ _) (by decide)

theorem State.i2cStuck_frame (s : Sys2Proof.Machine.State) (a1 : Nat) : Frame 744286 s (State.i2cStuck s a1) := by
  unfold State.i2cStuck
  dsimp only
  with_reducible exact Frame.of (m := 744286) (State.faulted_frame _ _ _ _) (Frame.of (m := 744286) (State.setO_frame _ _ _) (Frame.of
                   (m := 744286) (State.inc_frame _ _) (Frame.foldl (m := 744286) (fun _ => fun _ => Frame.of (m := 744286) (State.i2cFailed_frame _ _ _ _)
                   (Frame.mono (m := 744286) (State.inc_frame _ _) (by decide)) (by decide)) (Frame.mono (m := 744286) (State.setI2c_frame _ _ _)
                   (by decide))) (by decide)) (by decide)) (by decide)

theorem State.faultRest_frame (s : Sys2Proof.Machine.State) (a1 : Sys2Proof.Machine.FaultOperand) : Frame 744286 s (State.faultRest s a1) := by
  unfold State.faultRest
  dsimp only
  simp only [State.mk_make]
  split
  · with_reducible refine Frame.mk1 (m := 744286) (Frame.mono (m := 744286) (State.faulted_frame _ _ _ _) (by decide)) (.inr rfl) (.inr rfl)
                     (.inr rfl) (.inr rfl) (.inr rfl) (.inr rfl) (.inr rfl) (.inr rfl) (.inr rfl) (.inr rfl) (.inr rfl) (.inr rfl) (.inr rfl) ?_ (.inr rfl)
                     (.inr rfl) (.inr rfl) (.inr rfl) (.inr rfl)
    split
    · with_reducible exact (.inr rfl)
    · with_reducible exact (.inl (by decide))
  · with_reducible exact Frame.ite (m := 744286) (Frame.up16 (m := 744286) (Frame.refl 744286 _) (by decide)) (Frame.mono (m := 744286)
                     (State.faulted_frame _ _ _ _) (by decide))
  · with_reducible exact Frame.ite (m := 744286) (Frame.of (m := 744286) (State.discardShadow_frame _) (Frame.mono (m := 744286)
                     (State.faulted_frame _ _ _ _) (by decide)) (by decide)) (Frame.mono (m := 744286) (State.faulted_frame _ _ _ _) (by decide))
  · with_reducible exact Frame.mono (m := 744286) (State.i2cStuck_frame _ _) (by decide)
  · with_reducible exact Frame.mono (m := 744286) (State.faulted_frame _ _ _ _) (by decide)

theorem State.forcedMiss_frame (s : Sys2Proof.Machine.State) (a1 : Nat) (a2 : Bool) : Frame 744286 s (State.forcedMiss s a1 a2) := by
  unfold State.forcedMiss
  dsimp only
  with_reducible exact Frame.ite (m := 744286) (Frame.of (m := 744286) (State.faulted_frame _ _ _ _) (Frame.of (m := 744286)
                   (State.inc_frame _ _) (Frame.mono (m := 744286) (State.setOut_frame _ _ _) (by decide)) (by decide)) (by decide)) (Frame.mono
                   (m := 744286) (State.setOut_frame _ _ _) (by decide))

theorem State.tapParity_frame (s : Sys2Proof.Machine.State) (a1 : Nat) (a2 : List (Fin 9)) : Frame 743774 s (State.tapParity s a1 a2) := by
  unfold State.tapParity
  dsimp only
  with_reducible exact Frame.foldl (m := 743774) (fun _ => fun _ => Frame.ite (m := 743774) (Frame.refl 743774 _) (Frame.ite (m := 743774)
                   (Frame.of (m := 743774) (State.setChan_frame _ _ _) (Frame.of (m := 743774) (State.chanEnter_frame _ _ _) (Frame.mono (m := 743774)
                   (State.faulted_frame _ _ _ _) (by decide)) (by decide)) (by decide)) (Frame.of (m := 743774) (State.faulted_frame _ _ _ _) (Frame.of
                   (m := 743774) (State.setO_frame _ _ _) (Frame.of (m := 743774) (State.setF_frame _ _ _) (Frame.mono (m := 743774) (State.setChan_frame _ _
                   _) (by decide)) (by decide)) (by decide)) (by decide)))) (Frame.refl 743774 _)

theorem State.faultTiming_frame (s : Sys2Proof.Machine.State) (a1 : Sys2Proof.Machine.FaultOperand) (a2 : Option Nat) : Frame 745438 s (State.faultTiming s a1 a2) := by
  unfold State.faultTiming
  dsimp only
  simp only [State.mk_make]
  split
  · with_reducible exact Frame.of (m := 745438) (State.coastTick_frame _) (Frame.mono (m := 745438) (State.faulted_frame _ _ _ _)
                     (by decide)) (by decide)
  · with_reducible exact Frame.of (m := 745438) (State.coastTick_frame _) (Frame.mono (m := 745438) (State.faulted_frame _ _ _ _)
                     (by decide)) (by decide)
  · with_reducible exact Frame.mono (m := 745438) (State.tableReject_frame _ _) (by decide)
  · with_reducible exact Frame.ite (m := 745438) (Frame.mono (m := 745438) (State.stamperFault_frame _ _) (by decide)) (Frame.mono
                     (m := 745438) (State.faulted_frame _ _ _ _) (by decide))
  · with_reducible exact Frame.of (m := 745438) (State.faulted_frame _ _ _ _) (Frame.ite (m := 745438) (Frame.of (m := 745438)
                     (State.stamperOut_frame _ _) (Frame.ite (m := 745438) (Frame.mono (m := 745438) (State.stamperOut_frame _ _) (by decide)) (Frame.refl
                     745438 _)) (by decide)) (Frame.ite (m := 745438) (Frame.mono (m := 745438) (State.stamperOut_frame _ _) (by decide)) (Frame.refl 745438
                     _))) (by decide)
  · with_reducible exact Frame.of (m := 745438) (State.tapParity_frame _ _ _) (Frame.mono (m := 745438) (State.drew_frame _) (by decide))
                     (by decide)
  · with_reducible exact Frame.mono (m := 745438) (State.tapParity_frame _ _ _) (by decide)
  · with_reducible exact Frame.of (m := 745438) (State.solutionLost_frame _) (Frame.mono (m := 745438) (State.faulted_frame _ _ _ _)
                     (by decide)) (by decide)
  · with_reducible exact Frame.mono (m := 745438) (State.memberFault_frame _ _) (by decide)
  · with_reducible exact Frame.of (m := 745438) (State.forceUnbounded_frame _) (Frame.up10 (m := 745438) (Frame.mono (m := 745438)
                     (State.faulted_frame _ _ _ _) (by decide)) (by decide)) (by decide)
  · with_reducible exact Frame.mono (m := 745438) (State.forcedMiss_frame _ _ _) (by decide)
  · with_reducible exact Frame.of (m := 745438) (State.faulted_frame _ _ _ _) (Frame.of (m := 745438) (State.setO_frame _ _ _) (Frame.mono
                     (m := 745438) (State.setDst_frame _ _ _) (by decide)) (by decide)) (by decide)
  · with_reducible exact Frame.of (m := 745438) (State.faulted_frame _ _ _ _) (Frame.of (m := 745438) (State.setMac_frame _ _ _) (Frame.mono
                     (m := 745438) (State.inc_frame _ _) (by decide)) (by decide)) (by decide)
  · with_reducible exact Frame.mono (m := 745438) (State.faulted_frame _ _ _ _) (by decide)

theorem State.pllBypassOne_frame (s : Sys2Proof.Machine.State) (a1 : Nat) : Frame 744414 s (State.pllBypassOne s a1) := by
  unfold State.pllBypassOne
  dsimp only
  with_reducible refine Frame.ite (m := 744414) ?_ (Frame.ite (m := 744414) (Frame.of (m := 744414) (State.setO_frame _ _ _) (Frame.of
                   (m := 744414) (State.inc_frame _ _) (Frame.mono (m := 744414) (State.setO_frame _ _ _) (by decide)) (by decide)) (by decide)) (Frame.of
                   (m := 744414) (State.inc_frame _ _) (Frame.mono (m := 744414) (State.setO_frame _ _ _) (by decide)) (by decide)))
  split
  · with_reducible exact Frame.of (m := 744414) (State.clockLost_frame _ _) (Frame.ite (m := 744414) (Frame.of (m := 744414)
                     (State.setO_frame _ _ _) (Frame.of (m := 744414) (State.inc_frame _ _) (Frame.mono (m := 744414) (State.setO_frame _ _ _) (by decide))
                     (by decide)) (by decide)) (Frame.of (m := 744414) (State.inc_frame _ _) (Frame.mono (m := 744414) (State.setO_frame _ _ _) (by decide))
                     (by decide))) (by decide)
  · with_reducible exact Frame.ite (m := 744414) (Frame.of (m := 744414) (State.setO_frame _ _ _) (Frame.of (m := 744414) (State.inc_frame _
                     _) (Frame.mono (m := 744414) (State.setO_frame _ _ _) (by decide)) (by decide)) (by decide)) (Frame.of (m := 744414) (State.inc_frame _
                     _) (Frame.mono (m := 744414) (State.setO_frame _ _ _) (by decide)) (by decide))

theorem State.pllBypass_frame (s : Sys2Proof.Machine.State) (a1 : Nat) : Frame 744414 s (State.pllBypass s a1) := by
  unfold State.pllBypass
  dsimp only
  with_reducible exact Frame.ite (m := 744414) (Frame.foldl (m := 744414) (fun _ => fun _ => Frame.ite (m := 744414) (Frame.mono
                   (m := 744414) (State.pllBypassOne_frame _ _) (by decide)) (Frame.refl 744414 _)) (Frame.mono (m := 744414) (State.pllBypassOne_frame _ _)
                   (by decide))) (Frame.ite (m := 744414) (Frame.foldl (m := 744414) (fun _ => fun _ => Frame.ite (m := 744414) (Frame.mono (m := 744414)
                   (State.pllBypassOne_frame _ _) (by decide)) (Frame.refl 744414 _)) (Frame.mono (m := 744414) (State.pllBypassOne_frame _ _) (by decide)))
                   (Frame.mono (m := 744414) (State.pllBypassOne_frame _ _) (by decide)))

theorem State.reportClock_frame (s : Sys2Proof.Machine.State) (a1 : Sys2Proof.Machine.ClockSource) (a2 : Sys2Proof.Machine.FaultOperand) : Frame 744414 s (State.reportClock s a1 a2) := by
  unfold State.reportClock
  with_reducible refine Frame.ite (m := 744414) ?_ (Frame.mono (m := 744414) (State.faulted_frame _ _ _ _) (by decide))
  split
  · with_reducible exact Frame.ite (m := 744414) (Frame.mono (m := 744414) (State.pllBypass_frame _ _) (by decide)) (Frame.mono
                     (m := 744414) (State.clockLost_frame _ _) (by decide))
  · with_reducible exact Frame.mono (m := 744414) (State.clockLost_frame _ _) (by decide)

theorem State.faultReact_frame (s : Sys2Proof.Machine.State) (a1 : Sys2Proof.Machine.FaultOperand) (a2 : Option Nat) : Frame 1048542 s (State.faultReact s a1 a2) := by
  unfold State.faultReact
  dsimp only
  with_reducible exact Frame.ite (m := 1048542) (Frame.mono (m := 1048542) (State.reportClock_frame _ _ _) (by decide)) (Frame.ite
                   (m := 1048542) (Frame.mono (m := 1048542) (State.faultTiming_frame _ _ _) (by decide)) (Frame.ite (m := 1048542) (Frame.mono
                   (m := 1048542) (State.faultGroves_frame _ _) (by decide)) (Frame.mono (m := 1048542) (State.faultRest_frame _ _) (by decide))))

theorem State.feedPast_frame (s : Sys2Proof.Machine.State) (a1 : Sys2Proof.Machine.FeedRecord) : Frame 16384 s (State.feedPast s a1) := by
  unfold State.feedPast
  with_reducible exact Frame.mono (m := 16384) (State.setReg_frame _ _ _ _) (by decide)

theorem State.journalTables_frame (s : Sys2Proof.Machine.State) (a1 : Sys2Proof.Machine.Journal) : Frame 1005918 s (State.journalTables s a1) := by
  unfold State.journalTables
  dsimp only
  with_reducible exact Frame.ite (m := 1005918) (Frame.of (m := 1005918) (State.setO_frame _ _ _) (Frame.ite (m := 1005918) (Frame.foldl
                   (m := 1005918) (fun _ => fun _ => Frame.ite (m := 1005918) (Frame.refl 1005918 _) (Frame.mono (m := 1005918) (State.setBlob_frame _ _ _)
                   (by decide))) (Frame.foldl (m := 1005918) (fun _ => fun _ => Frame.of (m := 1005918) (State.setN_frame _ _ _) (Frame.mono (m := 1005918)
                   (State.setBlob_frame _ _ _) (by decide)) (by decide)) (Frame.refl 1005918 _))) (Frame.of (m := 1005918) (State.setO_frame _ _ _)
                   (Frame.foldl (m := 1005918) (fun _ => fun _ => Frame.ite (m := 1005918) (Frame.refl 1005918 _) (Frame.mono (m := 1005918)
                   (State.setBlob_frame _ _ _) (by decide))) (Frame.foldl (m := 1005918) (fun _ => fun _ => Frame.of (m := 1005918) (State.setN_frame _ _ _)
                   (Frame.mono (m := 1005918) (State.setBlob_frame _ _ _) (by decide)) (by decide)) (Frame.refl 1005918 _))) (by decide))) (by decide))
                   (Frame.ite (m := 1005918) (Frame.foldl (m := 1005918) (fun _ => fun _ => Frame.ite (m := 1005918) (Frame.refl 1005918 _) (Frame.mono
                   (m := 1005918) (State.setBlob_frame _ _ _) (by decide))) (Frame.foldl (m := 1005918) (fun _ => fun _ => Frame.of (m := 1005918)
                   (State.setN_frame _ _ _) (Frame.mono (m := 1005918) (State.setBlob_frame _ _ _) (by decide)) (by decide)) (Frame.refl 1005918 _)))
                   (Frame.of (m := 1005918) (State.setO_frame _ _ _) (Frame.foldl (m := 1005918) (fun _ => fun _ => Frame.ite (m := 1005918) (Frame.refl
                   1005918 _) (Frame.mono (m := 1005918) (State.setBlob_frame _ _ _) (by decide))) (Frame.foldl (m := 1005918) (fun _ => fun _ => Frame.of
                   (m := 1005918) (State.setN_frame _ _ _) (Frame.mono (m := 1005918) (State.setBlob_frame _ _ _) (by decide)) (by decide)) (Frame.refl
                   1005918 _))) (by decide)))

theorem State.journalValues_frame (s : Sys2Proof.Machine.State) (a1 : Sys2Proof.Machine.Journal) : Frame 1005918 s (State.journalValues s a1) := by
  unfold State.journalValues
  dsimp only
  simp only [State.mk_make]
  with_reducible refine Frame.mk1 (m := 1005918) ?_ (.inr rfl) (.inr rfl) (.inr rfl) (.inr rfl) (.inr rfl) (.inr rfl) (.inr rfl) ?_
                   (.inr rfl) (.inr rfl) (.inr rfl) (.inr rfl) (.inr rfl) (.inr rfl) (.inr rfl) (.inr rfl) (.inr rfl) ?_ (.inr rfl)
  · split
    · with_reducible exact Frame.of (m := 1005918) (State.setN_frame _ _ _) (Frame.of (m := 1005918) (State.setN_frame _ _ _) (Frame.of
                       (m := 1005918) (State.setN_frame _ _ _) (Frame.foldl (m := 1005918) (fun _ => fun _ => Frame.mono (m := 1005918) (State.setN_frame _ _
                       _) (by decide)) (Frame.ite (m := 1005918) (Frame.up16 (m := 1005918) (Frame.of (m := 1005918) (State.setN_frame _ _ _) (Frame.of
                       (m := 1005918) (State.setN_frame _ _ _) (Frame.mono (m := 1005918) (State.setN_frame _ _ _) (by decide)) (by decide)) (by decide))
                       (by decide)) (Frame.of (m := 1005918) (State.setN_frame _ _ _) (Frame.mono (m := 1005918) (State.setN_frame _ _ _) (by decide))
                       (by decide)))) (by decide)) (by decide)) (by decide)
    · with_reducible exact Frame.foldl (m := 1005918) (fun _ => fun _ => Frame.mono (m := 1005918) (State.setN_frame _ _ _) (by decide))
                       (Frame.ite (m := 1005918) (Frame.up16 (m := 1005918) (Frame.of (m := 1005918) (State.setN_frame _ _ _) (Frame.of (m := 1005918)
                       (State.setN_frame _ _ _) (Frame.mono (m := 1005918) (State.setN_frame _ _ _) (by decide)) (by decide)) (by decide)) (by decide))
                       (Frame.of (m := 1005918) (State.setN_frame _ _ _) (Frame.mono (m := 1005918) (State.setN_frame _ _ _) (by decide)) (by decide)))
  · split
    · split
      · split
        · with_reducible exact (.inl (by decide))
        · with_reducible exact (.inl (by decide))
      · split
        · with_reducible exact (.inl (by decide))
        · with_reducible exact (.inl (by decide))
    · split
      · split
        · with_reducible exact (.inl (by decide))
        · with_reducible exact (.inl (by decide))
      · split
        · with_reducible exact (.inl (by decide))
        · with_reducible exact (.inl (by decide))
  · split
    · split
      · with_reducible exact (.inl (by decide))
      · with_reducible exact (.inl (by decide))
    · split
      · with_reducible exact (.inl (by decide))
      · with_reducible exact (.inl (by decide))

theorem State.journalRead_frame (s : Sys2Proof.Machine.State) : Frame 1005918 s (State.journalRead s) := by
  unfold State.journalRead
  dsimp only
  split
  · with_reducible exact Frame.foldl (m := 1005918) (fun _ => fun _ => Frame.ite (m := 1005918) (Frame.of (m := 1005918)
                     (State.faulted_frame _ _ _ _) (Frame.mono (m := 1005918) (State.inc_frame _ _) (by decide)) (by decide)) (Frame.refl 1005918 _))
                     (Frame.refl 1005918 _)
  · with_reducible exact Frame.of (m := 1005918) (State.journalValues_frame _ _) (Frame.of (m := 1005918) (State.journalTables_frame _ _)
                     (Frame.of (m := 1005918) (State.setN_frame _ _ _) (Frame.of (m := 1005918) (State.setN_frame _ _ _) (Frame.foldl (m := 1005918) (fun _
                     => fun _ => Frame.ite (m := 1005918) (Frame.of (m := 1005918) (State.faulted_frame _ _ _ _) (Frame.mono (m := 1005918) (State.inc_frame
                     _ _) (by decide)) (by decide)) (Frame.refl 1005918 _)) (Frame.refl 1005918 _)) (by decide)) (by decide)) (by decide)) (by decide)

theorem State.mintJudge_frame (s : Sys2Proof.Machine.State) (a1 : Sys2Proof.Machine.MintMsg) : Frame 26626 s (State.mintJudge s a1) := by
  unfold State.mintJudge
  dsimp only
  simp only [State.mk_make]
  with_reducible exact Frame.ite (m := 26626) (Frame.up13 (m := 26626) (Frame.refl 26626 _) (by decide)) (Frame.ite (m := 26626) (Frame.mono
                   (m := 26626) (State.reply_frame _ _ _ _) (by decide)) (Frame.ite (m := 26626) (Frame.mono (m := 26626) (State.reply_frame _ _ _ _)
                   (by decide)) (Frame.ite (m := 26626) (Frame.mono (m := 26626) (State.reply_frame _ _ _ _) (by decide)) (Frame.ite (m := 26626) (Frame.mono
                   (m := 26626) (State.reply_frame _ _ _ _) (by decide)) (Frame.up13 (m := 26626) (Frame.refl 26626 _) (by decide))))))

theorem State.vaultJudge_frame (s : Sys2Proof.Machine.State) (a1 : Sys2Proof.Machine.VaultOp) (a2 : Sys2Proof.Machine.VaultMsg) : Frame 26626 s (State.vaultJudge s a1 a2) := by
  unfold State.vaultJudge
  dsimp only
  simp only [State.mk_make]
  with_reducible exact Frame.ite (m := 26626) (Frame.up13 (m := 26626) (Frame.refl 26626 _) (by decide)) (Frame.ite (m := 26626) (Frame.mono
                   (m := 26626) (State.reply_frame _ _ _ _) (by decide)) (Frame.ite (m := 26626) (Frame.mono (m := 26626) (State.reply_frame _ _ _ _)
                   (by decide)) (Frame.ite (m := 26626) (Frame.mono (m := 26626) (State.reply_frame _ _ _ _) (by decide)) (Frame.ite (m := 26626) (Frame.mono
                   (m := 26626) (State.reply_frame _ _ _ _) (by decide)) (Frame.ite (m := 26626) (Frame.mono (m := 26626) (State.reply_frame _ _ _ _)
                   (by decide)) (Frame.ite (m := 26626) (Frame.of (m := 26626) (State.reply_frame _ _ _ _) (Frame.mono (m := 26626) (State.inc_frame _ _)
                   (by decide)) (by decide)) (Frame.up13 (m := 26626) (Frame.refl 26626 _) (by decide))))))))

theorem State.serveHeld_frame (s : Sys2Proof.Machine.State) : Frame 92166 s (State.serveHeld s) := by
  unfold State.serveHeld
  dsimp only
  simp only [State.mk_make]
  with_reducible exact Frame.foldl (m := 92166) (fun _ => fun _ => Frame.ite (m := 92166) (Frame.mono (m := 92166) (State.chanDone_frame _ _
                   _ _) (by decide)) (Frame.refl 92166 _)) (Frame.foldl (m := 92166) (fun _ => fun _ => Frame.mono (m := 92166) (State.mintJudge_frame _ _)
                   (by decide)) (Frame.foldl (m := 92166) (fun _ => fun _ => Frame.mono (m := 92166) (State.vaultJudge_frame _ _ _) (by decide)) (Frame.foldl
                   (m := 92166) (fun _ => fun _ => Frame.mono (m := 92166) (State.serveMsg_frame _ _) (by decide)) (Frame.mk1 (m := 92166) (Frame.refl 92166
                   _) (.inr rfl) (.inr rfl) (.inr rfl) (.inr rfl) (.inr rfl) (.inr rfl) (.inr rfl) (.inr rfl) (.inr rfl) (.inr rfl) (.inr rfl) (.inr rfl)
                   (.inl (by decide)) (.inl (by decide)) (.inr rfl) (.inr rfl) (.inr rfl) (.inr rfl) (.inr rfl)))))

theorem State.filled_frame (s : Sys2Proof.Machine.State) (a1 : Sys2Proof.Machine.BootRead) : Frame 1014110 s (State.filled s a1) := by
  unfold State.filled
  dsimp only
  simp only [State.mk_make]
  with_reducible exact Frame.ite (m := 1014110) (Frame.of (m := 1014110) (State.serveHeld_frame _) (Frame.of (m := 1014110)
                   (State.checkImages_frame _ _) (Frame.of (m := 1014110) (State.avsStart_frame _ _) (Frame.of (m := 1014110) (State.journalRead_frame _)
                   (Frame.foldl (m := 1014110) (fun _ => fun _ => Frame.mono (m := 1014110) (State.setN_frame _ _ _) (by decide)) (Frame.mk1 (m := 1014110)
                   (Frame.mono (m := 1014110) (State.setN_frame _ _ _) (by decide)) (.inr rfl) (.inr rfl) (.inl (by decide)) (.inr rfl) (.inr rfl) (.inr rfl)
                   (.inr rfl) (.inr rfl) (.inr rfl) (.inr rfl) (.inr rfl) (.inr rfl) (.inr rfl) (.inr rfl) (.inr rfl) (.inr rfl) (.inr rfl) (.inl
                   (by decide)) (.inr rfl))) (by decide)) (by decide)) (by decide)) (by decide)) (Frame.of (m := 1014110) (State.checkImages_frame _ _)
                   (Frame.of (m := 1014110) (State.avsStart_frame _ _) (Frame.of (m := 1014110) (State.journalRead_frame _) (Frame.foldl (m := 1014110) (fun
                   _ => fun _ => Frame.mono (m := 1014110) (State.setN_frame _ _ _) (by decide)) (Frame.mk1 (m := 1014110) (Frame.mono (m := 1014110)
                   (State.setN_frame _ _ _) (by decide)) (.inr rfl) (.inr rfl) (.inl (by decide)) (.inr rfl) (.inr rfl) (.inr rfl) (.inr rfl) (.inr rfl)
                   (.inr rfl) (.inr rfl) (.inr rfl) (.inr rfl) (.inr rfl) (.inr rfl) (.inr rfl) (.inr rfl) (.inr rfl) (.inl (by decide)) (.inr rfl)))
                   (by decide)) (by decide)) (by decide))

theorem State.segmentOfTake_frame (s : Sys2Proof.Machine.State) : Frame 1026 s (State.segmentOfTake s) := by
  unfold State.segmentOfTake
  dsimp only
  split
  · with_reducible exact Frame.ite (m := 1026) (Frame.of (m := 1026) (State.anchorHold_frame _ _) (Frame.mono (m := 1026)
                     (State.startSegment_frame _ _) (by decide)) (by decide)) (Frame.refl 1026 _)
  · with_reducible exact Frame.refl 1026 _

theorem State.finishTake_frame (s : Sys2Proof.Machine.State) : Frame 66578 s (State.finishTake s) := by
  unfold State.finishTake
  dsimp only
  simp only [State.mk_make]
  with_reducible exact Frame.of (m := 66578) (State.segmentOfTake_frame _) (Frame.of (m := 66578) (State.canopyBoundary_frame _) (Frame.up16
                   (m := 66578) (Frame.mono (m := 66578) (State.adoptPlane_frame _) (by decide)) (by decide)) (by decide)) (by decide)

theorem State.flashAsk_frame (s : Sys2Proof.Machine.State) (a1 : Sys2Proof.Machine.FlashBy) (a2 : Sys2Proof.Machine.FlashCmd) : Frame 262150 s (State.flashAsk s a1 a2) := by
  unfold State.flashAsk
  dsimp only
  with_reducible exact Frame.ite (m := 262150) (Frame.mono (m := 262150) (State.flashCommand_frame _ _) (by decide)) (Frame.refl 262150 _)

theorem State.flashNext_frame (s : Sys2Proof.Machine.State) : Frame 262150 s (State.flashNext s) := by
  unfold State.flashNext
  dsimp only
  simp only [State.mk_make]
  split
  · with_reducible exact Frame.of (m := 262150) (State.flashStart_frame _ _) (Frame.up18 (m := 262150) (Frame.refl 262150 _) (by decide))
                     (by decide)
  · with_reducible exact Frame.refl 262150 _

theorem State.flashPut_frame (s : Sys2Proof.Machine.State) (a1 : Nat) (a2 : Nat) (a3 : Sys2Proof.Octets) : Frame 262144 s (State.flashPut s a1 a2 a3) := by
  induction a3 generalizing s a2 with
  | nil => exact Frame.refl _ _
  | cons v t ih =>
  unfold State.flashPut
  try dsimp only
  try simp only [State.mk_make]
  repeat' first
    | with_reducible apply Frame.refl
    | with_reducible assumption
    | with_reducible intro _
    | with_reducible apply Or.inr rfl
    | with_reducible apply Frame.mk1
    | with_reducible apply Frame.of (ih _ _)

    | with_reducible apply Frame.foldl
    | with_reducible apply Frame.foldlFst
    | with_reducible refine Frame.fst (by assumption) ?_
    | with_reducible apply Frame.ite
    | with_reducible apply Frame.iteFst
    | split
    | exact Or.inl (by decide)
    | decide


theorem State.flashDone_frame (s : Sys2Proof.Machine.State) (a1 : Sys2Proof.Machine.FlashCmd) (a2 : Bool) : Frame 262166 s (State.flashDone s a1 a2) := by
  unfold State.flashDone
  dsimp only
  simp only [State.mk_make]
  with_reducible refine Frame.ite (m := 262166) (Frame.of (m := 262166) (State.setN_frame _ _ _) (Frame.mk1 (m := 262166) (Frame.ite
                   (m := 262166) (Frame.mono (m := 262166) (State.flashPut_frame _ _ _ _) (by decide)) (Frame.of (m := 262166) (State.flashPut_frame _ _ _ _)
                   (Frame.mono (m := 262166) (State.drew_frame _) (by decide)) (by decide))) (.inr rfl) (.inr rfl) (.inr rfl) (.inr rfl) (.inr rfl)
                   (.inr rfl) (.inr rfl) (.inr rfl) (.inr rfl) (.inr rfl) (.inr rfl) (.inr rfl) (.inr rfl) (.inr rfl) (.inr rfl) (.inr rfl) (.inr rfl) ?_
                   (.inr rfl)) (by decide)) (Frame.ite (m := 262166) (Frame.of (m := 262166) (State.journalBegin_frame _) (Frame.of (m := 262166)
                   (State.setN_frame _ _ _) (Frame.mk1 (m := 262166) (Frame.ite (m := 262166) (Frame.mono (m := 262166) (State.flashPut_frame _ _ _ _)
                   (by decide)) (Frame.of (m := 262166) (State.flashPut_frame _ _ _ _) (Frame.mono (m := 262166) (State.drew_frame _) (by decide))
                   (by decide))) (.inr rfl) (.inr rfl) (.inr rfl) (.inr rfl) (.inr rfl) (.inr rfl) (.inr rfl) (.inr rfl) (.inr rfl) (.inr rfl) (.inr rfl)
                   (.inr rfl) (.inr rfl) (.inr rfl) (.inr rfl) (.inr rfl) (.inr rfl) ?_ (.inr rfl)) (by decide)) (by decide)) (Frame.of (m := 262166)
                   (State.flashNext_frame _) (Frame.of (m := 262166) (State.setN_frame _ _ _) (Frame.mk1 (m := 262166) (Frame.ite (m := 262166) (Frame.mono
                   (m := 262166) (State.flashPut_frame _ _ _ _) (by decide)) (Frame.of (m := 262166) (State.flashPut_frame _ _ _ _) (Frame.mono (m := 262166)
                   (State.drew_frame _) (by decide)) (by decide))) (.inr rfl) (.inr rfl) (.inr rfl) (.inr rfl) (.inr rfl) (.inr rfl) (.inr rfl) (.inr rfl)
                   (.inr rfl) (.inr rfl) (.inr rfl) (.inr rfl) (.inr rfl) (.inr rfl) (.inr rfl) (.inr rfl) (.inr rfl) ?_ (.inr rfl)) (by decide))
                   (by decide)))
  · split
    · split
      · with_reducible exact (.inl (by decide))
      · with_reducible exact (.inl (by decide))
    · with_reducible exact (.inl (by decide))
  · split
    · split
      · with_reducible exact (.inl (by decide))
      · with_reducible exact (.inl (by decide))
    · with_reducible exact (.inl (by decide))
  · split
    · split
      · with_reducible exact (.inl (by decide))
      · with_reducible exact (.inl (by decide))
    · with_reducible exact (.inl (by decide))

theorem State.journalFail_frame (s : Sys2Proof.Machine.State) (a1 : Sys2Proof.Machine.JournalWrite) : Frame 1005918 s (State.journalFail s a1) := by
  unfold State.journalFail
  dsimp only
  simp only [State.mk_make]
  with_reducible exact Frame.of (m := 1005918) (State.flashNext_frame _) (Frame.of (m := 1005918) (State.faulted_frame _ _ _ _) (Frame.of
                   (m := 1005918) (State.inc_frame _ _) (Frame.up18 (m := 1005918) (Frame.refl 1005918 _) (by decide)) (by decide)) (by decide)) (by decide)

theorem State.flashComplete_frame (s : Sys2Proof.Machine.State) (a1 : Bool) : Frame 1005918 s (State.flashComplete s a1) := by
  unfold State.flashComplete
  split
  · with_reducible exact Frame.mono (m := 1005918) (State.flashDone_frame _ _ _) (by decide)
  · with_reducible exact Frame.ite (m := 1005918) (Frame.mono (m := 1005918) (State.journalFail_frame _ _) (by decide)) (Frame.refl 1005918
                     _)
  · with_reducible exact Frame.refl 1005918 _

theorem State.followUpDue_frame (s : Sys2Proof.Machine.State) (a1 : Sys2Proof.Machine.PtpStream) : Frame 104450 s (State.followUpDue s a1) := by
  unfold State.followUpDue
  dsimp only
  simp only [State.mk_make]
  split
  · split
    · with_reducible refine Frame.ite (m := 104450) (Frame.refl 104450 _) (Frame.ite (m := 104450) (Frame.of (m := 104450) (State.inc_frame
                       _ _) (Frame.up12 (m := 104450) (Frame.refl 104450 _) (by decide)) (by decide)) ?_)
      split
      · with_reducible exact Frame.up12 (m := 104450) (Frame.refl 104450 _) (by decide)
      · with_reducible exact Frame.of (m := 104450) (State.release_frame _ _ _ _ _ _) (Frame.of (m := 104450) (State.newItem_frame _ _ _)
                         (Frame.up12 (m := 104450) (Frame.refl 104450 _) (by decide)) (by decide)) (by decide)
    · with_reducible exact Frame.refl 104450 _
  · split
    · with_reducible refine Frame.ite (m := 104450) (Frame.refl 104450 _) (Frame.ite (m := 104450) (Frame.of (m := 104450) (State.inc_frame
                       _ _) (Frame.up12 (m := 104450) (Frame.refl 104450 _) (by decide)) (by decide)) ?_)
      split
      · with_reducible exact Frame.up12 (m := 104450) (Frame.refl 104450 _) (by decide)
      · with_reducible exact Frame.ite (m := 104450) (Frame.up16 (m := 104450) (Frame.of (m := 104450) (State.release_frame _ _ _ _ _ _)
                         (Frame.of (m := 104450) (State.newItem_frame _ _ _) (Frame.up12 (m := 104450) (Frame.refl 104450 _) (by decide)) (by decide))
                         (by decide)) (by decide)) (Frame.of (m := 104450) (State.release_frame _ _ _ _ _ _) (Frame.of (m := 104450) (State.newItem_frame _ _
                         _) (Frame.up12 (m := 104450) (Frame.refl 104450 _) (by decide)) (by decide)) (by decide))
    · with_reducible exact Frame.refl 104450 _

end Sys2Proof.Machine
end

