-- ==== Sys2Proof/Laws/Frames10.lean ====
section
/-!
SUPPORT. The frames of operations and commands, part 10.
-/

namespace Sys2Proof.Machine

theorem State.queueNotice_frame (s : Sys2Proof.Machine.State) (a1 : Nat) (a2 : Sys2Proof.Machine.Notice) : Frame 16386 s (State.queueNotice s a1 a2) := by
  unfold State.queueNotice
  dsimp only
  with_reducible exact Frame.ite (m := 16386) (Frame.of (m := 16386) (State.inc_frame _ _) (Frame.mono (m := 16386) (State.addLost_frame _ _
                   _) (by decide)) (by decide)) (Frame.mono (m := 16386) (State.setNotices_frame _ _ _) (by decide))

theorem State.formNotices_frame (s : Sys2Proof.Machine.State) (a1 : Nat) : Frame 16402 s (State.formNotices s a1) := by
  unfold State.formNotices
  dsimp only
  simp only [State.mk_make]
  with_reducible refine Frame.foldl (m := 16402) (fun _ => fun _ => Frame.ite (m := 16402) (Frame.refl 16402 _) (Frame.foldl (m := 16402)
                   (fun _ => fun _ => Frame.foldl (m := 16402) (fun _ => fun _ => Frame.mono (m := 16402) (State.queueNotice_frame _ _ _) (by decide)) ?_)
                   (Frame.refl 16402 _))) (Frame.up14 (m := 16402) (Frame.refl 16402 _) (by decide))
  with_reducible apply Frame.foldlFst
  · with_reducible exact fun _ => fun _ => Frame.iteFst (m := 16402) (Frame.mono (m := 16402) (State.drew_frame _) (by decide)) (Frame.refl
                     16402 _)
  · with_reducible exact Frame.refl 16402 _

theorem State.forwardReceive_frame (s : Sys2Proof.Machine.State) (a1 : Sys2Proof.Machine.Forward) (a2 : Bool) : Frame 2050 s (State.forwardReceive s a1 a2) := by
  unfold State.forwardReceive
  dsimp only
  simp only [State.mk_make]
  with_reducible exact Frame.ite (m := 2050) (Frame.refl 2050 _) (Frame.ite (m := 2050) (Frame.mono (m := 2050) (State.inc_frame _ _)
                   (by decide)) (Frame.ite (m := 2050) (Frame.refl 2050 _) (Frame.up11 (m := 2050) (Frame.refl 2050 _) (by decide))))

theorem State.takeRed_frame (s : Sys2Proof.Machine.State) (a1 : Nat) : Frame 2 s (State.takeRed s a1).1 := by
  unfold State.takeRed
  dsimp only
  with_reducible exact Frame.mono (m := 2) (State.setN_frame _ _ _) (by decide)

theorem State.redundancy_frame (s : Sys2Proof.Machine.State) (a1 : Nat) (a2 : Sys2Proof.Machine.TxFrame) : Frame 2 s (State.redundancy s a1 a2).1 := by
  unfold State.redundancy
  dsimp only
  split
  · with_reducible exact Frame.refl 2 _
  · with_reducible refine Frame.iteFst (m := 2) ?_ ?_
    · split
      · with_reducible exact Frame.refl 2 _
      · with_reducible exact Frame.mono (m := 2) (State.takeRed_frame _ _) (by decide)
    · split
      · with_reducible exact Frame.refl 2 _
      · with_reducible exact Frame.mono (m := 2) (State.takeRed_frame _ _) (by decide)

theorem State.send_frame (s : Sys2Proof.Machine.State) (a1 : Nat) (a2 : Nat) (a3 : Sys2Proof.Machine.TxFrame) (a4 : Int) : Frame 743774 s (State.send s a1 a2 a3 a4) := by
  unfold State.send
  dsimp only
  simp only [State.mk_make]
  split
  · with_reducible refine Frame.ite (m := 743774) (Frame.of (m := 743774) (State.faulted_frame _ _ _ _) (Frame.of (m := 743774)
                     (State.setMac_frame _ _ _) (Frame.of (m := 743774) (State.inc_frame _ _) (Frame.of (m := 743774) (State.completeOf_frame _ _ _ _ _) ?_
                     (by decide)) (by decide)) (by decide)) (by decide)) (Frame.of (m := 743774) (State.completeOf_frame _ _ _ _ _) ?_ (by decide))
    · split
      · with_reducible refine Frame.mk1 (m := 743774) (Frame.of (m := 743774) (State.setMac_frame _ _ _) (Frame.of (m := 743774)
                         (State.addHw_frame _ _ _ _ _) (Frame.of (m := 743774) (State.addHw_frame _ _ _ _ _) (Frame.of (m := 743774) (State.redundancy_frame
                         _ _ _) (Frame.mono (m := 743774) (State.dequeue_frame _ _ _) (by decide)) (by decide)) (by decide)) (by decide)) (by decide))
                         (.inr rfl) (.inr rfl) (.inr rfl) (.inr rfl) (.inr rfl) (.inr rfl) (.inr rfl) (.inr rfl) (.inr rfl) (.inr rfl) (.inr rfl) ?_
                         (.inr rfl) (.inr rfl) (.inr rfl) (.inr rfl) (.inr rfl) (.inr rfl) (.inr rfl)
        split
        · with_reducible exact (.inl (by decide))
        · with_reducible exact (.inl (by decide))
      · with_reducible exact Frame.of (m := 743774) (State.setMac_frame _ _ _) (Frame.of (m := 743774) (State.addHw_frame _ _ _ _ _)
                         (Frame.of (m := 743774) (State.addHw_frame _ _ _ _ _) (Frame.of (m := 743774) (State.redundancy_frame _ _ _) (Frame.mono
                         (m := 743774) (State.dequeue_frame _ _ _) (by decide)) (by decide)) (by decide)) (by decide)) (by decide)
    · split
      · with_reducible refine Frame.mk1 (m := 743774) (Frame.of (m := 743774) (State.setMac_frame _ _ _) (Frame.of (m := 743774)
                         (State.addHw_frame _ _ _ _ _) (Frame.of (m := 743774) (State.addHw_frame _ _ _ _ _) (Frame.of (m := 743774) (State.redundancy_frame
                         _ _ _) (Frame.mono (m := 743774) (State.dequeue_frame _ _ _) (by decide)) (by decide)) (by decide)) (by decide)) (by decide))
                         (.inr rfl) (.inr rfl) (.inr rfl) (.inr rfl) (.inr rfl) (.inr rfl) (.inr rfl) (.inr rfl) (.inr rfl) (.inr rfl) (.inr rfl) ?_
                         (.inr rfl) (.inr rfl) (.inr rfl) (.inr rfl) (.inr rfl) (.inr rfl) (.inr rfl)
        split
        · with_reducible exact (.inl (by decide))
        · with_reducible exact (.inl (by decide))
      · with_reducible exact Frame.of (m := 743774) (State.setMac_frame _ _ _) (Frame.of (m := 743774) (State.addHw_frame _ _ _ _ _)
                         (Frame.of (m := 743774) (State.addHw_frame _ _ _ _ _) (Frame.of (m := 743774) (State.redundancy_frame _ _ _) (Frame.mono
                         (m := 743774) (State.dequeue_frame _ _ _) (by decide)) (by decide)) (by decide)) (by decide)) (by decide)
  · with_reducible refine Frame.of (m := 743774) (State.completeOf_frame _ _ _ _ _) ?_ (by decide)
    split
    · with_reducible refine Frame.mk1 (m := 743774) (Frame.of (m := 743774) (State.setMac_frame _ _ _) (Frame.of (m := 743774)
                       (State.addHw_frame _ _ _ _ _) (Frame.of (m := 743774) (State.addHw_frame _ _ _ _ _) (Frame.of (m := 743774) (State.redundancy_frame _
                       _ _) (Frame.mono (m := 743774) (State.dequeue_frame _ _ _) (by decide)) (by decide)) (by decide)) (by decide)) (by decide)) (.inr rfl)
                       (.inr rfl) (.inr rfl) (.inr rfl) (.inr rfl) (.inr rfl) (.inr rfl) (.inr rfl) (.inr rfl) (.inr rfl) (.inr rfl) ?_ (.inr rfl) (.inr rfl)
                       (.inr rfl) (.inr rfl) (.inr rfl) (.inr rfl) (.inr rfl)
      split
      · with_reducible exact (.inl (by decide))
      · with_reducible exact (.inl (by decide))
    · with_reducible exact Frame.of (m := 743774) (State.setMac_frame _ _ _) (Frame.of (m := 743774) (State.addHw_frame _ _ _ _ _) (Frame.of
                       (m := 743774) (State.addHw_frame _ _ _ _ _) (Frame.of (m := 743774) (State.redundancy_frame _ _ _) (Frame.mono (m := 743774)
                       (State.dequeue_frame _ _ _) (by decide)) (by decide)) (by decide)) (by decide)) (by decide)

theorem State.frameLaunch_frame (s : Sys2Proof.Machine.State) (a1 : Nat) (a2 : Nat) (a3 : Nat) : Frame 743774 s (State.frameLaunch s a1 a2 a3) := by
  unfold State.frameLaunch
  dsimp only
  split
  · with_reducible exact Frame.refl 743774 _
  · with_reducible refine Frame.ite (m := 743774) (Frame.refl 743774 _) (Frame.ite (m := 743774) (Frame.of (m := 743774)
                     (State.completeOf_frame _ _ _ _ _) (Frame.of (m := 743774) (State.inc_frame _ _) (Frame.mono (m := 743774) (State.dequeue_frame _ _ _)
                     (by decide)) (by decide)) (by decide)) (Frame.ite (m := 743774) ?_ (Frame.ite (m := 743774) (Frame.of (m := 743774) (State.inc_frame _
                     _) (Frame.mono (m := 743774) (State.dequeue_frame _ _ _) (by decide)) (by decide)) (Frame.ite (m := 743774) (Frame.of (m := 743774)
                     (State.inc_frame _ _) (Frame.mono (m := 743774) (State.dequeue_frame _ _ _) (by decide)) (by decide)) (Frame.mono (m := 743774)
                     (State.send_frame _ _ _ _ _) (by decide))))))
    split
    · with_reducible exact Frame.of (m := 743774) (State.inc_frame _ _) (Frame.mono (m := 743774) (State.dequeue_frame _ _ _) (by decide))
                       (by decide)
    · with_reducible exact Frame.of (m := 743774) (State.completeOf_frame _ _ _ _ _) (Frame.mono (m := 743774) (State.dequeue_frame _ _ _)
                       (by decide)) (by decide)

theorem State.runBucket_frame (s : Sys2Proof.Machine.State) (a1 : Nat) (a2 : Nat) (a3 : Nat) (a4 : Nat) : Frame 4096 s (State.runBucket s a1 a2 a3 a4).1 := by
  unfold State.runBucket
  dsimp only
  simp only [State.mk_make]
  with_reducible refine Frame.mk1 (m := 4096) (Frame.refl 4096 _) (.inr rfl) (.inr rfl) (.inr rfl) (.inr rfl) (.inr rfl) (.inr rfl)
                   (.inr rfl) (.inr rfl) (.inr rfl) (.inr rfl) (.inr rfl) ?_ (.inr rfl) (.inr rfl) (.inr rfl) (.inr rfl) (.inr rfl) (.inr rfl) (.inr rfl)
  split
  · split
    · with_reducible exact (.inl (by decide))
    · with_reducible exact (.inl (by decide))
  · split
    · with_reducible exact (.inl (by decide))
    · with_reducible exact (.inl (by decide))

theorem State.steer_frame (s : Sys2Proof.Machine.State) (a1 : Nat) (a2 : Sys2Proof.Machine.FrameClass) (a3 : Bool) (a4 : Option Nat) (a5 : Sys2Proof.Machine.Parsed) (a6 : Int) : Frame 6146 s (State.steer s a1 a2 a3 a4 a5 a6) := by
  unfold State.steer
  dsimp only
  simp only [State.mk_make]
  with_reducible refine Frame.ite (m := 6146) (Frame.ite (m := 6146) (Frame.mk1 (m := 6146) (Frame.refl 6146 _) (.inr rfl) (.inr rfl)
                   (.inr rfl) (.inr rfl) (.inr rfl) (.inr rfl) (.inr rfl) (.inr rfl) (.inr rfl) (.inr rfl) ?_ (.inr rfl) (.inr rfl) (.inr rfl) (.inr rfl)
                   (.inr rfl) (.inr rfl) (.inr rfl) (.inr rfl)) (Frame.mono (m := 6146) (State.inc_frame _ _) (by decide))) (Frame.ite (m := 6146) (Frame.ite
                   (m := 6146) (Frame.ite (m := 6146) (Frame.mk1 (m := 6146) (Frame.mono (m := 6146) (State.runBucket_frame _ _ _ _ _) (by decide))
                   (.inr rfl) (.inr rfl) (.inr rfl) (.inr rfl) (.inr rfl) (.inr rfl) (.inr rfl) (.inr rfl) (.inr rfl) (.inr rfl) ?_ (.inr rfl) (.inr rfl)
                   (.inr rfl) (.inr rfl) (.inr rfl) (.inr rfl) (.inr rfl) (.inr rfl)) (Frame.of (m := 6146) (State.inc_frame _ _) (Frame.mono (m := 6146)
                   (State.runBucket_frame _ _ _ _ _) (by decide)) (by decide))) (Frame.mk1 (m := 6146) (Frame.refl 6146 _) (.inr rfl) (.inr rfl) (.inr rfl)
                   (.inr rfl) (.inr rfl) (.inr rfl) (.inr rfl) (.inr rfl) (.inr rfl) (.inr rfl) ?_ (.inr rfl) (.inr rfl) (.inr rfl) (.inr rfl) (.inr rfl)
                   (.inr rfl) (.inr rfl) (.inr rfl))) (Frame.mono (m := 6146) (State.inc_frame _ _) (by decide)))
  · split
    · with_reducible exact (.inl (by decide))
    · with_reducible exact (.inl (by decide))
    · with_reducible exact (.inl (by decide))
  · split
    · with_reducible exact (.inl (by decide))
    · with_reducible exact (.inl (by decide))
    · with_reducible exact (.inl (by decide))
  · split
    · with_reducible exact (.inl (by decide))
    · with_reducible exact (.inl (by decide))
    · with_reducible exact (.inl (by decide))

theorem State.heddle_frame (s : Sys2Proof.Machine.State) (a1 : Nat) (a2 : Sys2Proof.Machine.Parsed) (a3 : Nat) (a4 : Int) : Frame 22530 s (State.heddle s a1 a2 a3 a4) := by
  unfold State.heddle
  dsimp only
  split
  · with_reducible refine Frame.of (m := 22530) (State.steer_frame _ _ _ _ _ _ _) ?_ (by decide)
    split
    · with_reducible exact Frame.mono (m := 22530) (State.inc_frame _ _) (by decide)
    · with_reducible exact Frame.refl 22530 _
  · split
    · with_reducible exact Frame.of (m := 22530) (State.defaultDeliver_frame _ _ _ _ _ _ _) (Frame.mono (m := 22530) (State.inc_frame _ _)
                       (by decide)) (by decide)
    · with_reducible refine Frame.ite (m := 22530) (Frame.of (m := 22530) (State.hostDeliver_frame _ _ _ _ _ _ _ _) (Frame.mono (m := 22530)
                       (State.inc_frame _ _) (by decide)) (by decide)) (Frame.ite (m := 22530) (Frame.mono (m := 22530) (State.inc_frame _ _) (by decide))
                       ?_)
      split
      · with_reducible exact Frame.of (m := 22530) (State.steer_frame _ _ _ _ _ _ _) (Frame.mono (m := 22530) (State.inc_frame _ _)
                         (by decide)) (by decide)
      · with_reducible exact Frame.of (m := 22530) (State.defaultDeliver_frame _ _ _ _ _ _ _) (Frame.mono (m := 22530) (State.inc_frame _ _)
                         (by decide)) (by decide)

theorem State.ndict_frame (s : Sys2Proof.Machine.State) (a1 : Nat) (a2 : Sys2Proof.Machine.Parsed) (a3 : Bool) (a4 : Nat) : Frame 16386 s (State.ndict s a1 a2 a3 a4) := by
  unfold State.ndict
  dsimp only
  simp only [State.mk_make]
  split
  · with_reducible exact Frame.mono (m := 16386) (State.inc_frame _ _) (by decide)
  · with_reducible exact Frame.up14 (m := 16386) (Frame.refl 16386 _) (by decide)

theorem State.frameReceive_frame (s : Sys2Proof.Machine.State) (a1 : Nat) (a2 : Sys2Proof.Octets) (a3 : Nat) (a4 : Sys2Proof.Machine.PhyErrors) : Frame 22530 s (State.frameReceive s a1 a2 a3 a4) := by
  unfold State.frameReceive
  dsimp only
  with_reducible exact Frame.ite (m := 22530) (Frame.of (m := 22530) (State.inc_frame _ _) (Frame.of (m := 22530) (State.addHw_frame _ _ _ _
                   _) (Frame.mono (m := 22530) (State.addHw_frame _ _ _ _ _) (by decide)) (by decide)) (by decide)) (Frame.ite (m := 22530) (Frame.of
                   (m := 22530) (State.inc_frame _ _) (Frame.of (m := 22530) (State.addHw_frame _ _ _ _ _) (Frame.mono (m := 22530) (State.addHw_frame _ _ _
                   _ _) (by decide)) (by decide)) (by decide)) (Frame.ite (m := 22530) (Frame.ite (m := 22530) (Frame.of (m := 22530)
                   (State.defaultDeliver_frame _ _ _ _ _ _ _) (Frame.ite (m := 22530) (Frame.of (m := 22530) (State.inc_frame _ _) (Frame.ite (m := 22530)
                   (Frame.of (m := 22530) (State.inc_frame _ _) (Frame.ite (m := 22530) (Frame.of (m := 22530) (State.inc_frame _ _) (Frame.ite (m := 22530)
                   (Frame.of (m := 22530) (State.inc_frame _ _) (Frame.of (m := 22530) (State.addHw_frame _ _ _ _ _) (Frame.mono (m := 22530)
                   (State.addHw_frame _ _ _ _ _) (by decide)) (by decide)) (by decide)) (Frame.of (m := 22530) (State.addHw_frame _ _ _ _ _) (Frame.mono
                   (m := 22530) (State.addHw_frame _ _ _ _ _) (by decide)) (by decide))) (by decide)) (Frame.ite (m := 22530) (Frame.of (m := 22530)
                   (State.inc_frame _ _) (Frame.of (m := 22530) (State.addHw_frame _ _ _ _ _) (Frame.mono (m := 22530) (State.addHw_frame _ _ _ _ _)
                   (by decide)) (by decide)) (by decide)) (Frame.of (m := 22530) (State.addHw_frame _ _ _ _ _) (Frame.mono (m := 22530) (State.addHw_frame _
                   _ _ _ _) (by decide)) (by decide)))) (by decide)) (Frame.ite (m := 22530) (Frame.of (m := 22530) (State.inc_frame _ _) (Frame.ite
                   (m := 22530) (Frame.of (m := 22530) (State.inc_frame _ _) (Frame.of (m := 22530) (State.addHw_frame _ _ _ _ _) (Frame.mono (m := 22530)
                   (State.addHw_frame _ _ _ _ _) (by decide)) (by decide)) (by decide)) (Frame.of (m := 22530) (State.addHw_frame _ _ _ _ _) (Frame.mono
                   (m := 22530) (State.addHw_frame _ _ _ _ _) (by decide)) (by decide))) (by decide)) (Frame.ite (m := 22530) (Frame.of (m := 22530)
                   (State.inc_frame _ _) (Frame.of (m := 22530) (State.addHw_frame _ _ _ _ _) (Frame.mono (m := 22530) (State.addHw_frame _ _ _ _ _)
                   (by decide)) (by decide)) (by decide)) (Frame.of (m := 22530) (State.addHw_frame _ _ _ _ _) (Frame.mono (m := 22530) (State.addHw_frame _
                   _ _ _ _) (by decide)) (by decide))))) (by decide)) (Frame.ite (m := 22530) (Frame.of (m := 22530) (State.inc_frame _ _) (Frame.ite
                   (m := 22530) (Frame.of (m := 22530) (State.inc_frame _ _) (Frame.ite (m := 22530) (Frame.of (m := 22530) (State.inc_frame _ _) (Frame.of
                   (m := 22530) (State.addHw_frame _ _ _ _ _) (Frame.mono (m := 22530) (State.addHw_frame _ _ _ _ _) (by decide)) (by decide)) (by decide))
                   (Frame.of (m := 22530) (State.addHw_frame _ _ _ _ _) (Frame.mono (m := 22530) (State.addHw_frame _ _ _ _ _) (by decide)) (by decide)))
                   (by decide)) (Frame.ite (m := 22530) (Frame.of (m := 22530) (State.inc_frame _ _) (Frame.of (m := 22530) (State.addHw_frame _ _ _ _ _)
                   (Frame.mono (m := 22530) (State.addHw_frame _ _ _ _ _) (by decide)) (by decide)) (by decide)) (Frame.of (m := 22530) (State.addHw_frame _
                   _ _ _ _) (Frame.mono (m := 22530) (State.addHw_frame _ _ _ _ _) (by decide)) (by decide)))) (by decide)) (Frame.ite (m := 22530) (Frame.of
                   (m := 22530) (State.inc_frame _ _) (Frame.ite (m := 22530) (Frame.of (m := 22530) (State.inc_frame _ _) (Frame.of (m := 22530)
                   (State.addHw_frame _ _ _ _ _) (Frame.mono (m := 22530) (State.addHw_frame _ _ _ _ _) (by decide)) (by decide)) (by decide)) (Frame.of
                   (m := 22530) (State.addHw_frame _ _ _ _ _) (Frame.mono (m := 22530) (State.addHw_frame _ _ _ _ _) (by decide)) (by decide))) (by decide))
                   (Frame.ite (m := 22530) (Frame.of (m := 22530) (State.inc_frame _ _) (Frame.of (m := 22530) (State.addHw_frame _ _ _ _ _) (Frame.mono
                   (m := 22530) (State.addHw_frame _ _ _ _ _) (by decide)) (by decide)) (by decide)) (Frame.of (m := 22530) (State.addHw_frame _ _ _ _ _)
                   (Frame.mono (m := 22530) (State.addHw_frame _ _ _ _ _) (by decide)) (by decide)))))) (by decide)) (Frame.ite (m := 22530) (Frame.of
                   (m := 22530) (State.inc_frame _ _) (Frame.ite (m := 22530) (Frame.of (m := 22530) (State.inc_frame _ _) (Frame.ite (m := 22530) (Frame.of
                   (m := 22530) (State.inc_frame _ _) (Frame.ite (m := 22530) (Frame.of (m := 22530) (State.inc_frame _ _) (Frame.of (m := 22530)
                   (State.addHw_frame _ _ _ _ _) (Frame.mono (m := 22530) (State.addHw_frame _ _ _ _ _) (by decide)) (by decide)) (by decide)) (Frame.of
                   (m := 22530) (State.addHw_frame _ _ _ _ _) (Frame.mono (m := 22530) (State.addHw_frame _ _ _ _ _) (by decide)) (by decide))) (by decide))
                   (Frame.ite (m := 22530) (Frame.of (m := 22530) (State.inc_frame _ _) (Frame.of (m := 22530) (State.addHw_frame _ _ _ _ _) (Frame.mono
                   (m := 22530) (State.addHw_frame _ _ _ _ _) (by decide)) (by decide)) (by decide)) (Frame.of (m := 22530) (State.addHw_frame _ _ _ _ _)
                   (Frame.mono (m := 22530) (State.addHw_frame _ _ _ _ _) (by decide)) (by decide)))) (by decide)) (Frame.ite (m := 22530) (Frame.of
                   (m := 22530) (State.inc_frame _ _) (Frame.ite (m := 22530) (Frame.of (m := 22530) (State.inc_frame _ _) (Frame.of (m := 22530)
                   (State.addHw_frame _ _ _ _ _) (Frame.mono (m := 22530) (State.addHw_frame _ _ _ _ _) (by decide)) (by decide)) (by decide)) (Frame.of
                   (m := 22530) (State.addHw_frame _ _ _ _ _) (Frame.mono (m := 22530) (State.addHw_frame _ _ _ _ _) (by decide)) (by decide))) (by decide))
                   (Frame.ite (m := 22530) (Frame.of (m := 22530) (State.inc_frame _ _) (Frame.of (m := 22530) (State.addHw_frame _ _ _ _ _) (Frame.mono
                   (m := 22530) (State.addHw_frame _ _ _ _ _) (by decide)) (by decide)) (by decide)) (Frame.of (m := 22530) (State.addHw_frame _ _ _ _ _)
                   (Frame.mono (m := 22530) (State.addHw_frame _ _ _ _ _) (by decide)) (by decide))))) (by decide)) (Frame.ite (m := 22530) (Frame.of
                   (m := 22530) (State.inc_frame _ _) (Frame.ite (m := 22530) (Frame.of (m := 22530) (State.inc_frame _ _) (Frame.ite (m := 22530) (Frame.of
                   (m := 22530) (State.inc_frame _ _) (Frame.of (m := 22530) (State.addHw_frame _ _ _ _ _) (Frame.mono (m := 22530) (State.addHw_frame _ _ _
                   _ _) (by decide)) (by decide)) (by decide)) (Frame.of (m := 22530) (State.addHw_frame _ _ _ _ _) (Frame.mono (m := 22530)
                   (State.addHw_frame _ _ _ _ _) (by decide)) (by decide))) (by decide)) (Frame.ite (m := 22530) (Frame.of (m := 22530) (State.inc_frame _ _)
                   (Frame.of (m := 22530) (State.addHw_frame _ _ _ _ _) (Frame.mono (m := 22530) (State.addHw_frame _ _ _ _ _) (by decide)) (by decide))
                   (by decide)) (Frame.of (m := 22530) (State.addHw_frame _ _ _ _ _) (Frame.mono (m := 22530) (State.addHw_frame _ _ _ _ _) (by decide))
                   (by decide)))) (by decide)) (Frame.ite (m := 22530) (Frame.of (m := 22530) (State.inc_frame _ _) (Frame.ite (m := 22530) (Frame.of
                   (m := 22530) (State.inc_frame _ _) (Frame.of (m := 22530) (State.addHw_frame _ _ _ _ _) (Frame.mono (m := 22530) (State.addHw_frame _ _ _
                   _ _) (by decide)) (by decide)) (by decide)) (Frame.of (m := 22530) (State.addHw_frame _ _ _ _ _) (Frame.mono (m := 22530)
                   (State.addHw_frame _ _ _ _ _) (by decide)) (by decide))) (by decide)) (Frame.ite (m := 22530) (Frame.of (m := 22530) (State.inc_frame _ _)
                   (Frame.of (m := 22530) (State.addHw_frame _ _ _ _ _) (Frame.mono (m := 22530) (State.addHw_frame _ _ _ _ _) (by decide)) (by decide))
                   (by decide)) (Frame.of (m := 22530) (State.addHw_frame _ _ _ _ _) (Frame.mono (m := 22530) (State.addHw_frame _ _ _ _ _) (by decide))
                   (by decide))))))) (Frame.ite (m := 22530) (Frame.of (m := 22530) (State.ndict_frame _ _ _ _ _) (Frame.of (m := 22530) (State.addHw_frame _
                   _ _ _ _) (Frame.mono (m := 22530) (State.addHw_frame _ _ _ _ _) (by decide)) (by decide)) (by decide)) (Frame.of (m := 22530)
                   (State.heddle_frame _ _ _ _ _) (Frame.of (m := 22530) (State.addHw_frame _ _ _ _ _) (Frame.mono (m := 22530) (State.addHw_frame _ _ _ _ _)
                   (by decide)) (by decide)) (by decide)))))

theorem State.ringOff_frame (s : Sys2Proof.Machine.State) (a1 : Nat) (a2 : Sys2Proof.Machine.RingKind) (a3 : Nat) : Frame 16384 s (State.ringOff s a1 a2 a3) := by
  unfold State.ringOff
  dsimp only
  with_reducible exact Frame.mono (m := 16384) (State.setRingReg_frame _ _ _ _ _ _) (by decide)

theorem State.functionReset_frame (s : Sys2Proof.Machine.State) (a1 : Nat) : Frame 16386 s (State.functionReset s a1) := by
  unfold State.functionReset
  dsimp only
  simp only [State.mk_make]
  with_reducible exact Frame.foldl (m := 16386) (fun _ => fun _ => Frame.ite (m := 16386) (Frame.of (m := 16386) (State.addLost_frame _ _ _)
                   (Frame.mono (m := 16386) (State.setNotices_frame _ _ _) (by decide)) (by decide)) (Frame.of (m := 16386) (State.setChan__frame _ _ _)
                   (Frame.of (m := 16386) (State.addLost_frame _ _ _) (Frame.mono (m := 16386) (State.setNotices_frame _ _ _) (by decide)) (by decide))
                   (by decide))) (Frame.of (m := 16386) (State.ringOff_frame _ _ _ _) (Frame.of (m := 16386) (State.ringOff_frame _ _ _ _) (Frame.foldl
                   (m := 16386) (fun _ => fun _ => Frame.of (m := 16386) (State.ringOff_frame _ _ _ _) (Frame.mono (m := 16386) (State.ringOff_frame _ _ _ _)
                   (by decide)) (by decide)) (Frame.of (m := 16386) (State.inc_frame _ _) (Frame.up14 (m := 16386) (Frame.refl 16386 _) (by decide))
                   (by decide))) (by decide)) (by decide))

theorem State.refGate_frame (s : Sys2Proof.Machine.State) (a1 : Nat) (a2 : Int) : Frame 514 s (State.refGate s a1 a2) := by
  unfold State.refGate
  dsimp only
  with_reducible exact Frame.ite (m := 514) (Frame.refl 514 _) (Frame.ite (m := 514) (Frame.ite (m := 514) (Frame.of (m := 514)
                   (State.refEnter_frame _ _ _) (Frame.mono (m := 514) (State.setO_frame _ _ _) (by decide)) (by decide)) (Frame.of (m := 514)
                   (State.setRef_frame _ _ _) (Frame.mono (m := 514) (State.setO_frame _ _ _) (by decide)) (by decide))) (Frame.ite (m := 514) (Frame.of
                   (m := 514) (State.refEnter_frame _ _ _) (Frame.mono (m := 514) (State.setO_frame _ _ _) (by decide)) (by decide)) (Frame.mono (m := 514)
                   (State.setO_frame _ _ _) (by decide))))

theorem State.gateClosed_frame (s : Sys2Proof.Machine.State) (a1 : Nat) : Frame 658 s (State.gateClosed s a1) := by
  unfold State.gateClosed
  dsimp only
  split
  · with_reducible exact Frame.of (m := 658) (State.aplltReact_frame _) (Frame.of (m := 658) (State.refBoundaryF_frame _ _) (Frame.ite
                     (m := 658) (Frame.of (m := 658) (State.refGate_frame _ _ _) (Frame.mono (m := 658) (State.endGate_frame _ _) (by decide)) (by decide))
                     (Frame.mono (m := 658) (State.endGate_frame _ _) (by decide))) (by decide)) (by decide)
  · with_reducible exact Frame.of (m := 658) (State.refBoundaryF_frame _ _) (Frame.mono (m := 658) (State.endGate_frame _ _) (by decide))
                     (by decide)

theorem State.gladeDump_frame (s : Sys2Proof.Machine.State) : Frame 256 s (State.gladeDump s) := by
  unfold State.gladeDump
  dsimp only
  simp only [State.mk_make]
  with_reducible refine Frame.ite (m := 256) (Frame.mk1 (m := 256) (Frame.refl 256 _) (.inr rfl) (.inr rfl) (.inr rfl) (.inr rfl) (.inr rfl)
                   (.inr rfl) (.inr rfl) ?_ (.inr rfl) (.inr rfl) (.inr rfl) (.inr rfl) (.inr rfl) (.inr rfl) (.inr rfl) (.inr rfl) (.inr rfl) (.inr rfl)
                   (.inr rfl)) (Frame.up8 (m := 256) (Frame.refl 256 _) (by decide))
  split
  · with_reducible exact (.inl (by decide))
  · with_reducible exact (.inl (by decide))

theorem State.gladeDumpMissing_frame (s : Sys2Proof.Machine.State) : Frame 256 s (State.gladeDumpMissing s) := by
  unfold State.gladeDumpMissing
  dsimp only
  simp only [State.mk_make]
  with_reducible exact Frame.up8 (m := 256) (Frame.refl 256 _) (by decide)

theorem State.showNotches_frame (s : Sys2Proof.Machine.State) (a1 : Nat) : Frame 6 s (State.showNotches s a1) := by
  unfold State.showNotches
  dsimp only
  with_reducible exact Frame.of (m := 6) (State.setBlob_frame _ _ _) (Frame.mono (m := 6) (State.setN_frame _ _ _) (by decide)) (by decide)

theorem State.notchesNow_frame (s : Sys2Proof.Machine.State) (a1 : Nat) : Frame 262 s (State.notchesNow s a1) := by
  unfold State.notchesNow
  dsimp only
  split
  · with_reducible exact Frame.ite (m := 262) (Frame.refl 262 _) (Frame.mono (m := 262) (State.showNotches_frame _ _) (by decide))
  · with_reducible exact Frame.of (m := 262) (State.showNotches_frame _ _) (Frame.mono (m := 262) (State.setStrm_frame _ _ _) (by decide))
                     (by decide)

theorem State.setSnap_frame (s : Sys2Proof.Machine.State) (a1 : Nat) (a2 : Nat) (a3 : Int) (a4 : Option Sys2Proof.Machine.Snapshot) : Frame 256 s (State.setSnap s a1 a2 a3 a4) := by
  unfold State.setSnap
  dsimp only
  simp only [State.mk_make]
  with_reducible exact Frame.up8 (m := 256) (Frame.refl 256 _) (by decide)

theorem State.snapEpoch_frame (s : Sys2Proof.Machine.State) (a1 : Nat) (a2 : Nat) (a3 : Int) : Frame 256 s (State.snapEpoch s a1 a2 a3) := by
  unfold State.snapEpoch
  dsimp only
  split
  · with_reducible exact Frame.ite (m := 256) (Frame.refl 256 _) (Frame.mono (m := 256) (State.setSnap_frame _ _ _ _ _) (by decide))
  · with_reducible exact Frame.ite (m := 256) (Frame.mono (m := 256) (State.setSnap_frame _ _ _ _ _) (by decide)) (Frame.ite (m := 256)
                     (Frame.mono (m := 256) (State.setSnap_frame _ _ _ _ _) (by decide)) (Frame.ite (m := 256) (Frame.mono (m := 256) (State.setSnap_frame _
                     _ _ _ _) (by decide)) (Frame.refl 256 _)))

theorem State.snapAll_frame (s : Sys2Proof.Machine.State) : Frame 256 s (State.snapAll s) := by
  unfold State.snapAll
  with_reducible exact Frame.foldl (m := 256) (fun _ => fun _ => Frame.foldl (m := 256) (fun _ => fun _ => Frame.ite (m := 256) (Frame.foldl
                   (m := 256) (fun _ => fun _ => Frame.mono (m := 256) (State.snapEpoch_frame _ _ _ _) (by decide)) (Frame.refl 256 _)) (Frame.mono
                   (m := 256) (State.snapEpoch_frame _ _ _ _) (by decide))) (Frame.refl 256 _)) (Frame.refl 256 _)

theorem State.streamEpoch_frame (s : Sys2Proof.Machine.State) (a1 : Nat) (a2 : List Sys2Proof.Octets) : Frame 274 s (State.streamEpoch s a1 a2) := by
  unfold State.streamEpoch
  dsimp only
  with_reducible exact Frame.ite (m := 274) (Frame.ite (m := 274) (Frame.mono (m := 274) (State.setStrm_frame _ _ _) (by decide))
                   (Frame.refl 274 _)) (Frame.ite (m := 274) (Frame.of (m := 274) (State.setO_frame _ _ _) (Frame.of (m := 274) (State.setStrm_frame _ _ _)
                   (Frame.ite (m := 274) (Frame.ite (m := 274) (Frame.of (m := 274) (State.inc_frame _ _) (Frame.of (m := 274) (State.addHwKey_frame _ _ _)
                   (Frame.of (m := 274) (State.addHwKey_frame _ _ _) (Frame.mono (m := 274) (State.setN_frame _ _ _) (by decide)) (by decide)) (by decide))
                   (by decide)) (Frame.of (m := 274) (State.addHwKey_frame _ _ _) (Frame.of (m := 274) (State.addHwKey_frame _ _ _) (Frame.mono (m := 274)
                   (State.setN_frame _ _ _) (by decide)) (by decide)) (by decide))) (Frame.of (m := 274) (State.setN_frame _ _ _) (Frame.ite (m := 274)
                   (Frame.of (m := 274) (State.inc_frame _ _) (Frame.of (m := 274) (State.addHwKey_frame _ _ _) (Frame.of (m := 274) (State.addHwKey_frame _
                   _ _) (Frame.mono (m := 274) (State.setN_frame _ _ _) (by decide)) (by decide)) (by decide)) (by decide)) (Frame.of (m := 274)
                   (State.addHwKey_frame _ _ _) (Frame.of (m := 274) (State.addHwKey_frame _ _ _) (Frame.mono (m := 274) (State.setN_frame _ _ _)
                   (by decide)) (by decide)) (by decide))) (by decide))) (by decide)) (by decide)) (Frame.of (m := 274) (State.setN_frame _ _ _) (Frame.of
                   (m := 274) (State.setStrm_frame _ _ _) (Frame.ite (m := 274) (Frame.ite (m := 274) (Frame.of (m := 274) (State.inc_frame _ _) (Frame.of
                   (m := 274) (State.addHwKey_frame _ _ _) (Frame.of (m := 274) (State.addHwKey_frame _ _ _) (Frame.mono (m := 274) (State.setN_frame _ _ _)
                   (by decide)) (by decide)) (by decide)) (by decide)) (Frame.of (m := 274) (State.addHwKey_frame _ _ _) (Frame.of (m := 274)
                   (State.addHwKey_frame _ _ _) (Frame.mono (m := 274) (State.setN_frame _ _ _) (by decide)) (by decide)) (by decide))) (Frame.of (m := 274)
                   (State.setN_frame _ _ _) (Frame.ite (m := 274) (Frame.of (m := 274) (State.inc_frame _ _) (Frame.of (m := 274) (State.addHwKey_frame _ _
                   _) (Frame.of (m := 274) (State.addHwKey_frame _ _ _) (Frame.mono (m := 274) (State.setN_frame _ _ _) (by decide)) (by decide))
                   (by decide)) (by decide)) (Frame.of (m := 274) (State.addHwKey_frame _ _ _) (Frame.of (m := 274) (State.addHwKey_frame _ _ _) (Frame.mono
                   (m := 274) (State.setN_frame _ _ _) (by decide)) (by decide)) (by decide))) (by decide))) (by decide)) (by decide)))

theorem State.gladeEpochPath_frame (s : Sys2Proof.Machine.State) (a1 : Sys2Proof.Machine.GladeEpoch) : Frame 278 s (State.gladeEpochPath s a1) := by
  unfold State.gladeEpochPath
  dsimp only
  simp only [State.mk_make]
  with_reducible exact Frame.ite (m := 278) (Frame.of (m := 278) (State.snapAll_frame _) (Frame.of (m := 278) (State.correlateAll_frame _)
                   (Frame.up8 (m := 278) (Frame.foldl (m := 278) (fun _ => fun _ => Frame.ite (m := 278) (Frame.mono (m := 278) (State.setGlink_frame _ _ _)
                   (by decide)) (Frame.refl 278 _)) (Frame.foldl (m := 278) (fun _ => fun _ => Frame.of (m := 278) (State.notchesNow_frame _ _) (Frame.mono
                   (m := 278) (State.streamEpoch_frame _ _ _) (by decide)) (by decide)) (Frame.foldl (m := 278) (fun _ => fun _ => Frame.mono (m := 278)
                   (State.chanEpoch_frame _ _) (by decide)) (Frame.mono (m := 278) (State.epochFalls_frame _ _) (by decide))))) (by decide)) (by decide))
                   (by decide)) (Frame.up8 (m := 278) (Frame.foldl (m := 278) (fun _ => fun _ => Frame.ite (m := 278) (Frame.mono (m := 278)
                   (State.setGlink_frame _ _ _) (by decide)) (Frame.refl 278 _)) (Frame.foldl (m := 278) (fun _ => fun _ => Frame.of (m := 278)
                   (State.notchesNow_frame _ _) (Frame.mono (m := 278) (State.streamEpoch_frame _ _ _) (by decide)) (by decide)) (Frame.foldl (m := 278) (fun
                   _ => fun _ => Frame.mono (m := 278) (State.chanEpoch_frame _ _) (by decide)) (Frame.mono (m := 278) (State.epochFalls_frame _ _)
                   (by decide))))) (by decide))

theorem State.gladeLinks_frame (s : Sys2Proof.Machine.State) : Frame 258 s (State.gladeLinks s) := by
  unfold State.gladeLinks
  dsimp only
  simp only [State.mk_make]
  with_reducible exact Frame.up8 (m := 258) (Frame.mono (m := 258) (State.setO_frame _ _ _) (by decide)) (by decide)

theorem State.gladeObs_frame (s : Sys2Proof.Machine.State) : Frame 514 s (State.gladeObs s) := by
  unfold State.gladeObs
  dsimp only
  split
  · with_reducible exact Frame.ite (m := 514) (Frame.mono (m := 514) (State.refIngest_frame _ _) (by decide)) (Frame.refl 514 _)
  · with_reducible exact Frame.mono (m := 514) (State.refIngest_frame _ _) (by decide)

theorem State.gladeRun_frame (s : Sys2Proof.Machine.State) : Frame 258 s (State.gladeRun s) := by
  unfold State.gladeRun
  dsimp only
  simp only [State.mk_make]
  with_reducible exact Frame.ite (m := 258) (Frame.ite (m := 258) (Frame.of (m := 258) (State.surveyRestart_frame _) (Frame.of (m := 258)
                   (State.setO_frame _ _ _) (Frame.up8 (m := 258) (Frame.mono (m := 258) (State.setO_frame _ _ _) (by decide)) (by decide)) (by decide))
                   (by decide)) (Frame.up8 (m := 258) (Frame.mono (m := 258) (State.setO_frame _ _ _) (by decide)) (by decide))) (Frame.refl 258 _)

theorem State.grantOne_frame (s : Sys2Proof.Machine.State) (a1 : Nat) (a2 : Nat) (a3 : Sys2Proof.Machine.RxFrame) (a4 : Sys2Proof.Octets) (a5 : Bool) (a6 : Sys2Proof.Octets) : Frame 102418 s (State.grantOne s a1 a2 a3 a4 a5 a6).1 := by
  unfold State.grantOne
  dsimp only
  with_reducible refine Frame.iteFst (m := 102418) (Frame.of (m := 102418) (State.inc_frame _ _) ?_ (by decide)) (Frame.iteFst (m := 102418)
                   (Frame.of (m := 102418) (State.inc_frame _ _) ?_ (by decide)) (Frame.iteFst (m := 102418) (Frame.of (m := 102418) (State.inc_frame _ _) ?_
                   (by decide)) ?_))
  · split
    · with_reducible exact Frame.mono (m := 102418) (State.pruneLine_frame _ _ _) (by decide)
    · with_reducible exact Frame.refl 102418 _
  · split
    · with_reducible exact Frame.mono (m := 102418) (State.pruneLine_frame _ _ _) (by decide)
    · with_reducible exact Frame.refl 102418 _
  · split
    · with_reducible exact Frame.mono (m := 102418) (State.pruneLine_frame _ _ _) (by decide)
    · with_reducible exact Frame.refl 102418 _
  · split
    · with_reducible refine Frame.of (m := 102418) (State.inc_frame _ _) ?_ (by decide)
      split
      · with_reducible exact Frame.mono (m := 102418) (State.pruneLine_frame _ _ _) (by decide)
      · with_reducible exact Frame.refl 102418 _
    · with_reducible refine Frame.ite (m := 102418) (Frame.of (m := 102418) (State.addN_frame _ _ _) (Frame.of (m := 102418)
                       (State.commitSession_frame _ _ _ _) ?_ (by decide)) (by decide)) (Frame.of (m := 102418) (State.commitSession_frame _ _ _ _) ?_
                       (by decide))
      · split
        · with_reducible exact Frame.mono (m := 102418) (State.pruneLine_frame _ _ _) (by decide)
        · with_reducible exact Frame.refl 102418 _
      · split
        · with_reducible exact Frame.mono (m := 102418) (State.pruneLine_frame _ _ _) (by decide)
        · with_reducible exact Frame.refl 102418 _

theorem State.groveStarting_frame (s : Sys2Proof.Machine.State) (a1 : Nat) : Frame 66 s (State.groveStarting s a1) := by
  unfold State.groveStarting
  dsimp only
  simp only [State.mk_make]
  with_reducible refine Frame.mk1 (m := 66) (Frame.ite (m := 66) (Frame.of (m := 66) (State.setO_frame _ _ _) (Frame.of (m := 66)
                   (State.countEngines_frame _ _) (Frame.of (m := 66) (State.setO_frame _ _ _) (Frame.foldl (m := 66) (fun _ => fun _ => Frame.of (m := 66)
                   (State.setO_frame _ _ _) (Frame.mono (m := 66) (State.setO_frame _ _ _) (by decide)) (by decide)) (Frame.refl 66 _)) (by decide))
                   (by decide)) (by decide)) (Frame.of (m := 66) (State.countEngines_frame _ _) (Frame.of (m := 66) (State.setO_frame _ _ _) (Frame.foldl
                   (m := 66) (fun _ => fun _ => Frame.of (m := 66) (State.setO_frame _ _ _) (Frame.mono (m := 66) (State.setO_frame _ _ _) (by decide))
                   (by decide)) (Frame.refl 66 _)) (by decide)) (by decide))) (.inr rfl) (.inr rfl) (.inr rfl) (.inr rfl) (.inr rfl) ?_ (.inr rfl) (.inr rfl)
                   (.inr rfl) (.inr rfl) (.inr rfl) (.inr rfl) (.inr rfl) (.inr rfl) (.inr rfl) (.inr rfl) (.inr rfl) (.inr rfl) (.inr rfl)
  split
  · with_reducible exact (.inl (by decide))
  · with_reducible exact (.inl (by decide))

theorem State.handOffGrove_frame (s : Sys2Proof.Machine.State) (a1 : List Sys2Proof.Machine.RxFrame) (a2 : Nat) : Frame 36866 s (State.handOffGrove s a1 a2) := by
  unfold State.handOffGrove
  dsimp only
  simp only [State.mk_make]
  with_reducible refine Frame.mk1 (m := 36866) ?_ (.inr rfl) (.inr rfl) (.inr rfl) (.inr rfl) (.inr rfl) (.inr rfl) (.inr rfl) (.inr rfl)
                   (.inr rfl) (.inr rfl) (.inr rfl) (.inl (by decide)) (.inr rfl) (.inr rfl) (.inl (by decide)) (.inr rfl) (.inr rfl) (.inr rfl) (.inr rfl)
  with_reducible apply Frame.foldlFst
  · with_reducible exact fun _ => fun _ => Frame.iteFst (m := 36866) (Frame.mono (m := 36866) (State.inc_frame _ _) (by decide))
                     (Frame.iteFst (m := 36866) (Frame.refl 36866 _) (Frame.iteFst (m := 36866) (Frame.refl 36866 _) (Frame.mono (m := 36866)
                     (State.inc_frame _ _) (by decide))))
  · with_reducible exact Frame.refl 36866 _

theorem State.handOff_frame (s : Sys2Proof.Machine.State) : Frame 38914 s (State.handOff s) := by
  unfold State.handOff
  dsimp only
  simp only [State.mk_make]
  with_reducible exact Frame.foldl (m := 38914) (fun _ => fun _ => Frame.mono (m := 38914) (State.handOffGrove_frame _ _ _) (by decide))
                   (Frame.mk1 (m := 38914) (Frame.refl 38914 _) (.inr rfl) (.inr rfl) (.inr rfl) (.inr rfl) (.inr rfl) (.inr rfl) (.inr rfl) (.inr rfl)
                   (.inr rfl) (.inr rfl) (.inl (by decide)) (.inl (by decide)) (.inr rfl) (.inr rfl) (.inr rfl) (.inr rfl) (.inr rfl) (.inr rfl) (.inr rfl))

theorem State.helloReceive_frame (s : Sys2Proof.Machine.State) (a1 : Sys2Proof.Machine.Hello) : Frame 65542 s (State.helloReceive s a1) := by
  unfold State.helloReceive
  dsimp only
  simp only [State.mk_make]
  with_reducible exact Frame.ite (m := 65542) (Frame.ite (m := 65542) (Frame.up16 (m := 65542) (Frame.refl 65542 _) (by decide)) (Frame.ite
                   (m := 65542) (Frame.mono (m := 65542) (State.joinRefuse_frame _ _) (by decide)) (Frame.refl 65542 _))) (Frame.ite (m := 65542) (Frame.refl
                   65542 _) (Frame.ite (m := 65542) (Frame.mono (m := 65542) (State.joinRefuse_frame _ _) (by decide)) (Frame.up16 (m := 65542) (Frame.of
                   (m := 65542) (State.setBlob_frame _ _ _) (Frame.mono (m := 65542) (State.twinEnter_frame _ _) (by decide)) (by decide)) (by decide))))

theorem State.hostTx_frame (s : Sys2Proof.Machine.State) (a1 : Nat) (a2 : Sys2Proof.Octets) (a3 : Sys2Proof.Octets) : Frame 18434 s (State.hostTx s a1 a2 a3) := by
  unfold State.hostTx
  dsimp only
  simp only [State.mk_make]
  with_reducible refine Frame.ite (m := 18434) (Frame.ite (m := 18434) (Frame.of (m := 18434) (State.complete_frame _ _ _ _ _ _ _)
                   (Frame.up11 (m := 18434) (Frame.mono (m := 18434) (State.setRingReg_frame _ _ _ _ _ _) (by decide)) (by decide)) (by decide)) (Frame.ite
                   (m := 18434) (Frame.of (m := 18434) (State.complete_frame _ _ _ _ _ _ _) (Frame.up11 (m := 18434) (Frame.mono (m := 18434)
                   (State.setRingReg_frame _ _ _ _ _ _) (by decide)) (by decide)) (by decide)) ?_)) (Frame.refl 18434 _)
  split
  · with_reducible exact Frame.of (m := 18434) (State.enqueue_frame _ _ _) (Frame.of (m := 18434) (State.enqueue_frame _ _ _) (Frame.of
                     (m := 18434) (State.takeRed_frame _ _) (Frame.up11 (m := 18434) (Frame.mono (m := 18434) (State.setRingReg_frame _ _ _ _ _ _)
                     (by decide)) (by decide)) (by decide)) (by decide)) (by decide)
  · with_reducible exact Frame.of (m := 18434) (State.enqueue_frame _ _ _) (Frame.up11 (m := 18434) (Frame.mono (m := 18434)
                     (State.setRingReg_frame _ _ _ _ _ _) (by decide)) (by decide)) (by decide)

theorem State.i2cAttempt_frame (s : Sys2Proof.Machine.State) (a1 : Nat) (a2 : Bool) : Frame 744286 s (State.i2cAttempt s a1 a2) := by
  unfold State.i2cAttempt
  dsimp only
  with_reducible exact Frame.ite (m := 744286) (Frame.ite (m := 744286) (Frame.of (m := 744286) (State.setO_frame _ _ _) (Frame.mono
                   (m := 744286) (State.setI2c_frame _ _ _) (by decide)) (by decide)) (Frame.ite (m := 744286) (Frame.mono (m := 744286) (State.setI2c_frame
                   _ _ _) (by decide)) (Frame.of (m := 744286) (State.i2cStuck_frame _ _) (Frame.mono (m := 744286) (State.setI2c_frame _ _ _) (by decide))
                   (by decide)))) (Frame.ite (m := 744286) (Frame.ite (m := 744286) (Frame.of (m := 744286) (State.setO_frame _ _ _) (Frame.mono
                   (m := 744286) (State.inc_frame _ _) (by decide)) (by decide)) (Frame.refl 744286 _)) (Frame.refl 744286 _))

theorem State.i2cFree_frame (s : Sys2Proof.Machine.State) (a1 : Nat) : Frame 524290 s (State.i2cFree s a1) := by
  unfold State.i2cFree
  dsimp only
  with_reducible exact Frame.of (m := 524290) (State.setO_frame _ _ _) (Frame.mono (m := 524290) (State.setI2c_frame _ _ _) (by decide))
                   (by decide)

theorem State.i2cBusFree_frame (s : Sys2Proof.Machine.State) (a1 : Nat) : Frame 744286 s (State.i2cBusFree s a1) := by
  unfold State.i2cBusFree
  dsimp only
  split
  · with_reducible exact Frame.refl 744286 _
  · with_reducible exact Frame.ite (m := 744286) (Frame.refl 744286 _) (Frame.ite (m := 744286) (Frame.of (m := 744286)
                     (State.i2cFailed_frame _ _ _ _) (Frame.of (m := 744286) (State.inc_frame _ _) (Frame.mono (m := 744286) (State.i2cFree_frame _ _)
                     (by decide)) (by decide)) (by decide)) (Frame.mono (m := 744286) (State.setI2c_frame _ _ _) (by decide)))

theorem State.steerDone_frame (s : Sys2Proof.Machine.State) (a1 : Nat) : Frame 512 s (State.steerDone s a1) := by
  unfold State.steerDone
  dsimp only
  with_reducible exact Frame.mono (m := 512) (State.setDst_frame _ _ _) (by decide)

theorem State.steerSent_frame (s : Sys2Proof.Machine.State) (a1 : Nat) : Frame 1536 s (State.steerSent s a1) := by
  unfold State.steerSent
  dsimp only
  split
  · with_reducible exact Frame.of (m := 1536) (State.steerApplied_frame _ _ _) (Frame.mono (m := 1536) (State.steerDone_frame _ _)
                     (by decide)) (by decide)
  · with_reducible exact Frame.mono (m := 1536) (State.steerDone_frame _ _) (by decide)

theorem State.i2cDone_frame (s : Sys2Proof.Machine.State) (a1 : Nat) (a2 : Sys2Proof.Machine.I2cEnd) : Frame 745310 s (State.i2cDone s a1 a2) := by
  unfold State.i2cDone
  dsimp only
  split
  · with_reducible exact Frame.refl 745310 _
  · with_reducible refine Frame.ite (m := 745310) (Frame.refl 745310 _) ?_
    split
    · with_reducible exact Frame.of (m := 745310) (State.steerSent_frame _ _) (Frame.mono (m := 745310) (State.i2cFree_frame _ _)
                       (by decide)) (by decide)
    · with_reducible exact Frame.of (m := 745310) (State.i2cResult_frame _ _ _ _) (Frame.mono (m := 745310) (State.i2cFree_frame _ _)
                       (by decide)) (by decide)
    · with_reducible exact Frame.of (m := 745310) (State.i2cFailed_frame _ _ _ _) (Frame.of (m := 745310) (State.inc_frame _ _) (Frame.mono
                       (m := 745310) (State.i2cFree_frame _ _) (by decide)) (by decide)) (by decide)
    · with_reducible exact Frame.of (m := 745310) (State.i2cFailed_frame _ _ _ _) (Frame.of (m := 745310) (State.inc_frame _ _) (Frame.mono
                       (m := 745310) (State.i2cFree_frame _ _) (by decide)) (by decide)) (by decide)

theorem State.i2cLost_frame (s : Sys2Proof.Machine.State) (a1 : Nat) : Frame 524290 s (State.i2cLost s a1) := by
  unfold State.i2cLost
  dsimp only
  with_reducible exact Frame.ite (m := 524290) (Frame.refl 524290 _) (Frame.of (m := 524290) (State.inc_frame _ _) (Frame.mono (m := 524290)
                   (State.setI2c_frame _ _ _) (by decide)) (by decide))

theorem State.i2cStart_frame (s : Sys2Proof.Machine.State) (a1 : Nat) : Frame 524290 s (State.i2cStart s a1) := by
  unfold State.i2cStart
  dsimp only
  with_reducible refine Frame.ite (m := 524290) (Frame.refl 524290 _) ?_
  split
  · with_reducible exact Frame.of (m := 524290) (State.setO_frame _ _ _) (Frame.mono (m := 524290) (State.setI2c_frame _ _ _) (by decide))
                     (by decide)
  · with_reducible exact Frame.of (m := 524290) (State.setO_frame _ _ _) (Frame.mono (m := 524290) (State.setI2c_frame _ _ _) (by decide))
                     (by decide)
  · with_reducible exact Frame.refl 524290 _

theorem State.i2cStretch_frame (s : Sys2Proof.Machine.State) (a1 : Nat) (a2 : Sys2Proof.Machine.I2cLines) : Frame 744286 s (State.i2cStretch s a1 a2) := by
  unfold State.i2cStretch
  split
  · with_reducible exact Frame.refl 744286 _
  · with_reducible exact Frame.of (m := 744286) (State.i2cReset_frame _ _ _) (Frame.of (m := 744286) (State.i2cFailed_frame _ _ _ _)
                     (Frame.mono (m := 744286) (State.i2cFree_frame _ _) (by decide)) (by decide)) (by decide)

theorem State.imageWrite_frame (s : Sys2Proof.Machine.State) (a1 : Sys2Proof.Machine.DictWrite) : Frame 1048534 s (State.imageWrite s a1) := by
  unfold State.imageWrite
  with_reducible exact Frame.ite (m := 1048534) (Frame.refl 1048534 _) (Frame.ite (m := 1048534) (Frame.mono (m := 1048534)
                   (State.applyWrite_frame _ _) (by decide)) (Frame.mono (m := 1048534) (State.storeWrite_frame _ _) (by decide)))

theorem State.stampRecord_frame (s : Sys2Proof.Machine.State) (a1 : Nat) (a2 : Nat) : Frame 16384 s (State.stampRecord s a1 a2) := by
  unfold State.stampRecord
  dsimp only
  simp only [State.mk_make]
  with_reducible exact Frame.ite (m := 16384) (Frame.ite (m := 16384) (Frame.of (m := 16384) (State.vector_frame _ _ _) (Frame.up14
                   (m := 16384) (Frame.mono (m := 16384) (State.setReg_frame _ _ _ _) (by decide)) (by decide)) (by decide)) (Frame.up14 (m := 16384)
                   (Frame.refl 16384 _) (by decide))) (Frame.refl 16384 _)

theorem State.ingest_frame (s : Sys2Proof.Machine.State) : Frame 56214 s (State.ingest s) := by
  unfold State.ingest
  dsimp only
  with_reducible refine Frame.of (m := 56214) (State.handOff_frame _) (Frame.of (m := 56214) (State.gladeDump_frame _) ?_ (by decide))
                   (by decide)
  split
  · with_reducible exact Frame.of (m := 56214) (State.stampRecord_frame _ _ _) (Frame.of (m := 56214) (State.stampRecord_frame _ _ _)
                     (Frame.of (m := 56214) (State.ppsNews_frame _) (Frame.of (m := 56214) (State.drainStamps_frame _) (Frame.mono (m := 56214)
                     (State.drainLast_frame _) (by decide)) (by decide)) (by decide)) (by decide)) (by decide)
  · with_reducible exact Frame.of (m := 56214) (State.ppsNews_frame _) (Frame.of (m := 56214) (State.drainStamps_frame _) (Frame.mono
                     (m := 56214) (State.drainLast_frame _) (by decide)) (by decide)) (by decide)

theorem State.initRun_frame (s : Sys2Proof.Machine.State) (a1 : Nat) (a2 : List Nat) : Frame 1006046 s (State.initRun s a1 a2) := by
  unfold State.initRun
  dsimp only
  with_reducible refine Frame.ite (m := 1006046) (Frame.of (m := 1006046) (State.setStamper_frame _ _ _) (Frame.of (m := 1006046)
                   (State.setStamper_frame _ _ _) (Frame.ite (m := 1006046) (Frame.mono (m := 1006046) (State.inc_frame _ _) (by decide)) (Frame.refl 1006046
                   _)) (by decide)) (by decide)) ?_
  split
  · with_reducible exact Frame.of (m := 1006046) (State.newTable_frame _ _ _ _) (Frame.of (m := 1006046) (State.setStamper_frame _ _ _)
                     (Frame.ite (m := 1006046) (Frame.mono (m := 1006046) (State.inc_frame _ _) (by decide)) (Frame.refl 1006046 _)) (by decide)) (by decide)
  · with_reducible exact Frame.of (m := 1006046) (State.tableReject_frame _ _) (Frame.of (m := 1006046) (State.setStamper_frame _ _ _)
                     (Frame.ite (m := 1006046) (Frame.mono (m := 1006046) (State.inc_frame _ _) (by decide)) (Frame.refl 1006046 _)) (by decide)) (by decide)

theorem State.inputConnected_frame (s : Sys2Proof.Machine.State) (a1 : Nat) (a2 : Nat) (a3 : Nat × Nat) : Frame 1558 s (State.inputConnected s a1 a2 a3) := by
  unfold State.inputConnected
  dsimp only
  simp only [State.mk_make]
  with_reducible exact Frame.up9 (m := 1558) (Frame.mono (m := 1558) (State.connect_frame _ _ _ _) (by decide)) (by decide)

theorem State.installBulk_frame (s : Sys2Proof.Machine.State) (a1 : Sys2Proof.Machine.Bulk) : Frame 1048534 s (State.installBulk s a1) := by
  unfold State.installBulk
  dsimp only
  simp only [State.mk_make]
  with_reducible exact Frame.of (m := 1048534) (State.installCanopy_frame _ _) (Frame.of (m := 1048534) (State.showKeys_frame _)
                   (Frame.foldl (m := 1048534) (fun _ => fun _ => Frame.mono (m := 1048534) (State.reloadLanes_frame _ _) (by decide)) (Frame.of
                   (m := 1048534) (State.countSessions_frame _) (Frame.up12 (m := 1048534) (Frame.foldl (m := 1048534) (fun _ => fun _ => Frame.mono
                   (m := 1048534) (State.applyWrite_frame _ _) (by decide)) (Frame.foldl (m := 1048534) (fun _ => fun _ => Frame.mono (m := 1048534)
                   (State.fillSlot_frame _ _ _ _ _ _ _) (by decide)) (Frame.refl 1048534 _))) (by decide)) (by decide))) (by decide)) (by decide)

theorem State.loopTransition_frame (s : Sys2Proof.Machine.State) (a1 : Nat) (a2 : Option Int) : Frame 258 s (State.loopTransition s a1 a2) := by
  unfold State.loopTransition
  dsimp only
  with_reducible refine Frame.ite (m := 258) (Frame.mono (m := 258) (State.chanEnter_frame _ _ _) (by decide)) (Frame.ite (m := 258)
                   (Frame.mono (m := 258) (State.chanEnter_frame _ _ _) (by decide)) ?_)
  split
  · with_reducible exact Frame.ite (m := 258) (Frame.mono (m := 258) (State.chanEnter_frame _ _ _) (by decide)) (Frame.refl 258 _)
  · with_reducible exact Frame.ite (m := 258) (Frame.mono (m := 258) (State.chanEnter_frame _ _ _) (by decide)) (Frame.ite (m := 258)
                     (Frame.of (m := 258) (State.setChan_frame _ _ _) (Frame.mono (m := 258) (State.chanEnter_frame _ _ _) (by decide)) (by decide))
                     (Frame.ite (m := 258) (Frame.mono (m := 258) (State.chanEnter_frame _ _ _) (by decide)) (Frame.refl 258 _)))

end Sys2Proof.Machine
end

