-- ==== Sys2Proof/Laws/Frames11.lean ====
section
/-!
SUPPORT. The frames of operations and commands, part 11.
-/

namespace Sys2Proof.Machine

theorem State.integrate_frame (s : Sys2Proof.Machine.State) (a1 : Nat) (a2 : Sys2Proof.Machine.TapSums) (a3 : Sys2Proof.Machine.Integration) : Frame 743774 s (State.integrate s a1 a2 a3) := by
  unfold State.integrate
  dsimp only
  with_reducible exact Frame.ite (m := 743774) (Frame.of (m := 743774) (State.tapParity_frame _ _ _) (Frame.of (m := 743774)
                   (State.loopTransition_frame _ _ _) (Frame.mono (m := 743774) (State.setChan_frame _ _ _) (by decide)) (by decide)) (by decide)) (Frame.of
                   (m := 743774) (State.tapParity_frame _ _ _) (Frame.of (m := 743774) (State.loopTransition_frame _ _ _) (Frame.of (m := 743774)
                   (State.setChan_frame _ _ _) (Frame.of (m := 743774) (State.closeLoops_frame _ _ _ _ _) (Frame.mono (m := 743774) (State.setChan_frame _ _
                   _) (by decide)) (by decide)) (by decide)) (by decide)) (by decide))

theorem State.integrationEnd_frame (s : Sys2Proof.Machine.State) (a1 : Nat) (a2 : Sys2Proof.Machine.Integration) : Frame 743774 s (State.integrationEnd s a1 a2) := by
  unfold State.integrationEnd
  dsimp only
  split
  · with_reducible exact Frame.of (m := 743774) (State.integrate_frame _ _ _ _) (Frame.mono (m := 743774) (State.setChan_frame _ _ _)
                     (by decide)) (by decide)
  · with_reducible exact Frame.refl 743774 _

theorem State.joinAs_frame (s : Sys2Proof.Machine.State) (a1 : Nat) (a2 : Bool) : Frame 65538 s (State.joinAs s a1 a2) := by
  unfold State.joinAs
  dsimp only
  simp only [State.mk_make]
  with_reducible exact Frame.up16 (m := 65538) (Frame.of (m := 65538) (State.setN_frame _ _ _) (Frame.of (m := 65538) (State.setN_frame _ _
                   _) (Frame.of (m := 65538) (State.inc_frame _ _) (Frame.mono (m := 65538) (State.twinEnter_frame _ _) (by decide)) (by decide))
                   (by decide)) (by decide)) (by decide)

theorem State.joinNow_frame (s : Sys2Proof.Machine.State) : Frame 1048534 s (State.joinNow s) := by
  unfold State.joinNow
  dsimp only
  simp only [State.mk_make]
  with_reducible refine Frame.ite (m := 1048534) (Frame.ite (m := 1048534) (Frame.mono (m := 1048534) (State.joinAs_frame _ _ _)
                   (by decide)) (Frame.of (m := 1048534) (State.inc_frame _ _) (Frame.up16 (m := 1048534) (Frame.mono (m := 1048534) (State.joinAs_frame _ _
                   _) (by decide)) (by decide)) (by decide))) ?_
  split
  · with_reducible exact Frame.refl 1048534 _
  · with_reducible exact Frame.ite (m := 1048534) (Frame.of (m := 1048534) (State.inc_frame _ _) (Frame.up16 (m := 1048534) (Frame.of
                     (m := 1048534) (State.joinAs_frame _ _ _) (Frame.mono (m := 1048534) (State.installBulk_frame _ _) (by decide)) (by decide))
                     (by decide)) (by decide)) (Frame.of (m := 1048534) (State.joinAs_frame _ _ _) (Frame.mono (m := 1048534) (State.installBulk_frame _ _)
                     (by decide)) (by decide))

theorem State.journalDone_frame (s : Sys2Proof.Machine.State) (a1 : Bool) : Frame 1005918 s (State.journalDone s a1) := by
  unfold State.journalDone
  dsimp only
  simp only [State.mk_make]
  split
  · with_reducible exact Frame.refl 1005918 _
  · with_reducible exact Frame.ite (m := 1005918) (Frame.refl 1005918 _) (Frame.ite (m := 1005918) (Frame.of (m := 1005918)
                     (State.flashNext_frame _) (Frame.of (m := 1005918) (State.inc_frame _ _) (Frame.of (m := 1005918) (State.setN_frame _ _ _) (Frame.of
                     (m := 1005918) (State.setN_frame _ _ _) (Frame.up18 (m := 1005918) (Frame.refl 1005918 _) (by decide)) (by decide)) (by decide))
                     (by decide)) (by decide)) (Frame.mono (m := 1005918) (State.journalFail_frame _ _) (by decide)))

theorem State.jtagDrive_frame (s : Sys2Proof.Machine.State) (a1 : Sys2Proof.Machine.Jtag) : Frame 524288 s (State.jtagDrive s a1) := by
  unfold State.jtagDrive
  dsimp only
  simp only [State.mk_make]
  with_reducible refine Frame.mk1 (m := 524288) (Frame.refl 524288 _) (.inr rfl) (.inr rfl) (.inr rfl) (.inr rfl) (.inr rfl) (.inr rfl)
                   (.inr rfl) (.inr rfl) (.inr rfl) (.inr rfl) (.inr rfl) (.inr rfl) (.inr rfl) (.inr rfl) (.inr rfl) (.inr rfl) (.inr rfl) (.inr rfl) ?_
  split
  · with_reducible exact (.inl (by decide))
  · with_reducible exact (.inl (by decide))

theorem State.keyWriteTake_frame (s : Sys2Proof.Machine.State) (a1 : Sys2Proof.Octets) : Frame 8196 s (State.keyWriteTake s a1) := by
  unfold State.keyWriteTake
  dsimp only
  simp only [State.mk_make]
  with_reducible refine Frame.of (m := 8196) (State.setSlot_frame _ _ _) (Frame.mk1 (m := 8196) (Frame.refl 8196 _) (.inr rfl) (.inr rfl)
                   (.inr rfl) (.inr rfl) (.inr rfl) (.inr rfl) (.inr rfl) (.inr rfl) (.inr rfl) (.inr rfl) (.inr rfl) (.inr rfl) ?_ (.inr rfl) (.inr rfl)
                   (.inr rfl) (.inr rfl) (.inr rfl) (.inr rfl)) (by decide)
  split
  · with_reducible exact (.inl (by decide))
  · with_reducible exact (.inl (by decide))

theorem State.keyframeMissed_frame (s : Sys2Proof.Machine.State) : Frame 131072 s (State.keyframeMissed s) := by
  unfold State.keyframeMissed
  dsimp only
  simp only [State.mk_make]
  with_reducible exact Frame.ite (m := 131072) (Frame.refl 131072 _) (Frame.up17 (m := 131072) (Frame.refl 131072 _) (by decide))

theorem State.lateDrop_frame (s : Sys2Proof.Machine.State) (a1 : Nat) (a2 : Nat) (a3 : Sys2Proof.Machine.TxFrame) : Frame 18434 s (State.lateDrop s a1 a2 a3) := by
  unfold State.lateDrop
  with_reducible exact Frame.of (m := 18434) (State.completeOf_frame _ _ _ _ _) (Frame.of (m := 18434) (State.inc_frame _ _) (Frame.mono
                   (m := 18434) (State.dequeue_frame _ _ _) (by decide)) (by decide)) (by decide)

theorem State.leapAnnounce_frame (s : Sys2Proof.Machine.State) (a1 : Nat) (a2 : Int) (a3 : Int) : Frame 34 s (State.leapAnnounce s a1 a2 a3) := by
  unfold State.leapAnnounce
  dsimp only
  simp only [State.mk_make]
  with_reducible refine Frame.ite (m := 34) ?_ (Frame.up5 (m := 34) (Frame.refl 34 _) (by decide))
  split
  · with_reducible exact Frame.of (m := 34) (State.setLeapPending_frame _ _ _ _) (Frame.up5 (m := 34) (Frame.refl 34 _) (by decide))
                     (by decide)
  · with_reducible exact Frame.ite (m := 34) (Frame.ite (m := 34) (Frame.up5 (m := 34) (Frame.refl 34 _) (by decide)) (Frame.of (m := 34)
                     (State.inc_frame _ _) (Frame.up5 (m := 34) (Frame.refl 34 _) (by decide)) (by decide))) (Frame.of (m := 34) (State.setLeapPending_frame
                     _ _ _ _) (Frame.up5 (m := 34) (Frame.refl 34 _) (by decide)) (by decide))

theorem State.linkData_frame (s : Sys2Proof.Machine.State) (a1 : Nat) (a2 : Nat) : Frame 258 s (State.linkData s a1 a2) := by
  unfold State.linkData
  dsimp only
  with_reducible exact Frame.of (m := 258) (State.gladeRun_frame _) (Frame.ite (m := 258) (Frame.of (m := 258) (State.setN_frame _ _ _)
                   (Frame.of (m := 258) (State.setGlink_frame _ _ _) (Frame.of (m := 258) (State.setN_frame _ _ _) (Frame.mono (m := 258)
                   (State.linkEnter_frame _ _ _) (by decide)) (by decide)) (by decide)) (by decide)) (Frame.ite (m := 258) (Frame.of (m := 258)
                   (State.setN_frame _ _ _) (Frame.mono (m := 258) (State.linkEnter_frame _ _ _) (by decide)) (by decide)) (Frame.of (m := 258)
                   (State.inc_frame _ _) (Frame.of (m := 258) (State.setN_frame _ _ _) (Frame.of (m := 258) (State.setGlink_frame _ _ _) (Frame.of (m := 258)
                   (State.setN_frame _ _ _) (Frame.mono (m := 258) (State.linkEnter_frame _ _ _) (by decide)) (by decide)) (by decide)) (by decide))
                   (by decide)))) (by decide)

theorem State.macEnterUp_frame (s : Sys2Proof.Machine.State) (a1 : Nat) : Frame 2066 s (State.macEnterUp s a1) := by
  unfold State.macEnterUp
  dsimp only
  with_reducible exact Frame.of (m := 2066) (State.drew_frame _) (Frame.of (m := 2066) (State.setMac_frame _ _ _) (Frame.of (m := 2066)
                   (State.setN_frame _ _ _) (Frame.mono (m := 2066) (State.setO_frame _ _ _) (by decide)) (by decide)) (by decide)) (by decide)

theorem State.prepareKey_frame (s : Sys2Proof.Machine.State) : Frame 65552 s (State.prepareKey s) := by
  unfold State.prepareKey
  dsimp only
  simp only [State.mk_make]
  with_reducible refine Frame.ite (m := 65552) (Frame.mk1 (m := 65552) (Frame.mono (m := 65552) (State.drew_frame _) (by decide)) (.inr rfl)
                   (.inr rfl) (.inr rfl) (.inr rfl) (.inr rfl) (.inr rfl) (.inr rfl) (.inr rfl) (.inr rfl) (.inr rfl) (.inr rfl) (.inr rfl) (.inr rfl)
                   (.inr rfl) (.inr rfl) ?_ (.inr rfl) (.inr rfl) (.inr rfl)) (Frame.refl 65552 _)
  split
  · with_reducible exact (.inl (by decide))
  · with_reducible exact (.inl (by decide))

theorem State.remapHard_frame (s : Sys2Proof.Machine.State) : Frame 776542 s (State.remapHard s) := by
  unfold State.remapHard
  dsimp only
  simp only [State.mk_make]
  with_reducible exact Frame.foldl (m := 776542) (fun _ => fun _ => Frame.mono (m := 776542) (State.remapWord_frame _ _ _) (by decide))
                   (Frame.up15 (m := 776542) (Frame.refl 776542 _) (by decide))

theorem State.replayBegin_frame (s : Sys2Proof.Machine.State) : Frame 2 s (State.replayBegin s) := by
  unfold State.replayBegin
  with_reducible exact Frame.ite (m := 2) (Frame.mono (m := 2) (State.setO_frame _ _ _) (by decide)) (Frame.refl 2 _)

theorem State.serveWaiting_frame (a0 : Nat) (s : Sys2Proof.Machine.State) : Frame 92166 s (State.serveWaiting a0 s) := by
  induction a0 generalizing s with
  | zero => exact Frame.refl _ _
  | succ n ih =>
  unfold State.serveWaiting
  try dsimp only
  try simp only [State.mk_make]
  repeat' first
    | with_reducible apply Frame.refl
    | with_reducible assumption
    | with_reducible intro _
    | with_reducible apply Or.inr rfl
    | with_reducible apply Frame.mk1
    | with_reducible apply Frame.of (ih _)
    | with_reducible apply Frame.of (State.servedOne_frame _ _)
    | with_reducible apply Frame.of (State.serveMsg_frame _ _)
    | with_reducible apply Frame.foldl
    | with_reducible apply Frame.foldlFst
    | with_reducible refine Frame.fst (by assumption) ?_
    | with_reducible apply Frame.ite
    | with_reducible apply Frame.iteFst
    | split
    | exact Or.inl (by decide)
    | decide


theorem State.sealCookie_frame (s : Sys2Proof.Machine.State) (a1 : Nat × Sys2Proof.Octets) (a2 : Sys2Proof.Octets) (a3 : Sys2Proof.Octets) : Frame 16 s (State.sealCookie s a1 a2 a3).1 := by
  unfold State.sealCookie
  dsimp only
  with_reducible exact Frame.mono (m := 16) (State.drew_frame _) (by decide)

theorem State.sealCookies_frame (a0 : Nat × Sys2Proof.Octets) (a1 : Sys2Proof.Octets) (a2 : Sys2Proof.Octets) (a3 : Nat) (s : Sys2Proof.Machine.State) : Frame 16 s (State.sealCookies a0 a1 a2 a3 s).1 := by
  induction a3 generalizing s with
  | zero => exact Frame.refl _ _
  | succ n ih =>
  unfold State.sealCookies
  try dsimp only
  try simp only [State.mk_make]
  repeat' first
    | with_reducible apply Frame.refl
    | with_reducible assumption
    | with_reducible intro _
    | with_reducible apply Or.inr rfl
    | with_reducible apply Frame.mk1
    | with_reducible apply Frame.of (ih _)
    | with_reducible apply Frame.of (State.sealCookie_frame _ _ _ _)
    | with_reducible apply Frame.foldl
    | with_reducible apply Frame.foldlFst
    | with_reducible refine Frame.fst (by assumption) ?_
    | with_reducible apply Frame.ite
    | with_reducible apply Frame.iteFst
    | split
    | exact Or.inl (by decide)
    | decide


theorem State.mintOne_frame (s : Sys2Proof.Machine.State) (a1 : Sys2Proof.Machine.MintMsg) : Frame 18450 s (State.mintOne s a1) := by
  unfold State.mintOne
  dsimp only
  split
  · with_reducible exact Frame.of (m := 18450) (State.reply_frame _ _ _ _) (Frame.of (m := 18450) (State.addN_frame _ _ _) (Frame.mono
                     (m := 18450) (State.sealCookies_frame _ _ _ _ _) (by decide)) (by decide)) (by decide)
  · with_reducible exact Frame.mono (m := 18450) (State.reply_frame _ _ _ _) (by decide)

theorem State.mintQueue_frame (s : Sys2Proof.Machine.State) (a1 : Nat) : Frame 26642 s (State.mintQueue s a1) := by
  unfold State.mintQueue
  dsimp only
  simp only [State.mk_make]
  with_reducible refine Frame.up13 (m := 26642) ?_ (by decide)
  with_reducible apply Frame.foldlFst
  · with_reducible exact fun _ => fun _ => Frame.iteFst (m := 26642) (Frame.refl 26642 _) (Frame.iteFst (m := 26642) (Frame.refl 26642 _)
                     (Frame.iteFst (m := 26642) (Frame.mono (m := 26642) (State.reply_frame _ _ _ _) (by decide)) (Frame.iteFst (m := 26642) (Frame.mono
                     (m := 26642) (State.mintOne_frame _ _) (by decide)) (Frame.refl 26642 _))))
  · with_reducible exact Frame.up13 (m := 26642) (Frame.refl 26642 _) (by decide)

theorem State.vaultDerive_frame (s : Sys2Proof.Machine.State) (a1 : Sys2Proof.Machine.VaultMsg) : Frame 26630 s (State.vaultDerive s a1) := by
  unfold State.vaultDerive
  dsimp only
  with_reducible exact Frame.ite (m := 26630) (Frame.mono (m := 26630) (State.vaultAnswer_frame _ _ _ _ _) (by decide)) (Frame.of
                   (m := 26630) (State.vaultAnswer_frame _ _ _ _ _) (Frame.mono (m := 26630) (State.fillSlot_frame _ _ _ _ _ _ _) (by decide)) (by decide))

theorem State.markServing_frame (s : Sys2Proof.Machine.State) (a1 : Sys2Proof.Machine.MsgSource) : Frame 16386 s (State.markServing s a1) := by
  unfold State.markServing
  dsimp only
  split
  · with_reducible exact Frame.mono (m := 16386) (State.setChan__frame _ _ _) (by decide)
  · with_reducible exact Frame.refl 16386 _

theorem State.vaultGenerate_frame (s : Sys2Proof.Machine.State) (a1 : Sys2Proof.Machine.VaultMsg) : Frame 26646 s (State.vaultGenerate s a1) := by
  unfold State.vaultGenerate
  dsimp only
  with_reducible exact Frame.ite (m := 26646) (Frame.mono (m := 26646) (State.vaultAnswer_frame _ _ _ _ _) (by decide)) (Frame.ite
                   (m := 26646) (Frame.mono (m := 26646) (State.vaultAnswer_frame _ _ _ _ _) (by decide)) (Frame.of (m := 26646) (State.markServing_frame _
                   _) (Frame.of (m := 26646) (State.addJob_frame _ _) (Frame.of (m := 26646) (State.fillSlot_frame _ _ _ _ _ _ _) (Frame.mono (m := 26646)
                   (State.drew_frame _) (by decide)) (by decide)) (by decide)) (by decide)))

theorem State.vaultProof_frame (s : Sys2Proof.Machine.State) (a1 : Sys2Proof.Machine.VaultMsg) : Frame 18434 s (State.vaultProof s a1) := by
  unfold State.vaultProof
  with_reducible exact Frame.ite (m := 18434) (Frame.mono (m := 18434) (State.vaultAnswer_frame _ _ _ _ _) (by decide)) (Frame.ite
                   (m := 18434) (Frame.mono (m := 18434) (State.vaultAnswer_frame _ _ _ _ _) (by decide)) (Frame.of (m := 18434) (State.vaultAnswer_frame _ _
                   _ _ _) (Frame.mono (m := 18434) (State.inc_frame _ _) (by decide)) (by decide)))

theorem State.vaultOne_frame (s : Sys2Proof.Machine.State) (a1 : Sys2Proof.Machine.VaultOp) (a2 : Sys2Proof.Machine.VaultMsg) : Frame 92182 s (State.vaultOne s a1 a2) := by
  unfold State.vaultOne
  split
  · with_reducible exact Frame.mono (m := 92182) (State.vaultProof_frame _ _) (by decide)
  · with_reducible exact Frame.mono (m := 92182) (State.chalIssue_frame _ _) (by decide)
  · with_reducible exact Frame.mono (m := 92182) (State.chalRespond_frame _ _) (by decide)
  · with_reducible exact Frame.mono (m := 92182) (State.vaultGenerate_frame _ _) (by decide)
  · with_reducible exact Frame.mono (m := 92182) (State.vaultDerive_frame _ _) (by decide)
  · with_reducible exact Frame.refl 92182 _

theorem State.vaultQueue_frame (s : Sys2Proof.Machine.State) (a1 : Nat) : Frame 92182 s (State.vaultQueue s a1).1 := by
  unfold State.vaultQueue
  dsimp only
  simp only [State.mk_make]
  with_reducible refine Frame.up13 (m := 92182) ?_ (by decide)
  with_reducible apply Frame.foldlFst
  · with_reducible exact fun _ => fun _ => Frame.iteFst (m := 92182) (Frame.refl 92182 _) (Frame.iteFst (m := 92182) (Frame.iteFst
                     (m := 92182) (Frame.mono (m := 92182) (State.vaultOne_frame _ _ _) (by decide)) (Frame.refl 92182 _)) (Frame.iteFst (m := 92182)
                     (Frame.mono (m := 92182) (State.vaultOne_frame _ _ _) (by decide)) (Frame.refl 92182 _)))
  · with_reducible exact Frame.up13 (m := 92182) (Frame.refl 92182 _) (by decide)

theorem State.vaultW3_frame (s : Sys2Proof.Machine.State) (a1 : Option Nat) : Frame 92182 s (State.vaultW3 s a1) := by
  unfold State.vaultW3
  dsimp only
  simp only [State.mk_make]
  with_reducible exact Frame.ite (m := 92182) (Frame.of (m := 92182) (State.mintQueue_frame _ _) (Frame.of (m := 92182)
                   (State.vaultQueue_frame _ _) (Frame.mono (m := 92182) (State.collectEngine_frame _) (by decide)) (by decide)) (by decide)) (Frame.ite
                   (m := 92182) (Frame.of (m := 92182) (State.inc_frame _ _) (Frame.up13 (m := 92182) (Frame.of (m := 92182) (State.mintQueue_frame _ _)
                   (Frame.of (m := 92182) (State.vaultQueue_frame _ _) (Frame.mono (m := 92182) (State.collectEngine_frame _) (by decide)) (by decide))
                   (by decide)) (by decide)) (by decide)) (Frame.up13 (m := 92182) (Frame.of (m := 92182) (State.mintQueue_frame _ _) (Frame.of (m := 92182)
                   (State.vaultQueue_frame _ _) (Frame.mono (m := 92182) (State.collectEngine_frame _) (by decide)) (by decide)) (by decide)) (by decide)))

theorem State.maintain_frame (s : Sys2Proof.Machine.State) (a1 : Bool) (a2 : Option Nat) : Frame 1048542 s (State.maintain s a1 a2) := by
  unfold State.maintain
  dsimp only
  simp only [State.mk_make]
  with_reducible exact Frame.ite (m := 1048542) (Frame.of (m := 1048542) (State.applyImmediate_frame _ _) (Frame.of (m := 1048542)
                   (State.serveWaiting_frame _ _) (Frame.of (m := 1048542) (State.remapHard_frame _) (Frame.of (m := 1048542) (State.checkpoints_frame _)
                   (Frame.of (m := 1048542) (State.vaultW3_frame _ _) (Frame.of (m := 1048542) (State.chanResets_frame _) (Frame.up14 (m := 1048542)
                   (Frame.refl 1048542 _) (by decide)) (by decide)) (by decide)) (by decide)) (by decide)) (by decide)) (by decide)) (Frame.of (m := 1048542)
                   (State.replayBegin_frame _) (Frame.of (m := 1048542) (State.appendRecord_frame _) (Frame.of (m := 1048542) (State.prepareKey_frame _)
                   (Frame.of (m := 1048542) (State.applyImmediate_frame _ _) (Frame.of (m := 1048542) (State.serveWaiting_frame _ _) (Frame.of (m := 1048542)
                   (State.remapHard_frame _) (Frame.of (m := 1048542) (State.checkpoints_frame _) (Frame.of (m := 1048542) (State.vaultW3_frame _ _)
                   (Frame.of (m := 1048542) (State.chanResets_frame _) (Frame.up14 (m := 1048542) (Frame.refl 1048542 _) (by decide)) (by decide))
                   (by decide)) (by decide)) (by decide)) (by decide)) (by decide)) (by decide)) (by decide)) (by decide))

theorem State.memCycle_frame (s : Sys2Proof.Machine.State) (a1 : Sys2Proof.Machine.MemCycle) : Frame 32778 s (State.memCycle s a1) := by
  unfold State.memCycle
  dsimp only
  simp only [State.mk_make]
  split
  · with_reducible exact Frame.refl 32778 _
  · with_reducible refine Frame.ite (m := 32778) ?_ (Frame.of (m := 32778) (State.addN_frame _ _ _) ?_ (by decide))
    · split
      · with_reducible refine Frame.ite (m := 32778) (Frame.mk1 (m := 32778) (Frame.refl 32778 _) (.inr rfl) (.inr rfl) (.inr rfl)
                         (.inr rfl) (.inr rfl) (.inr rfl) (.inr rfl) (.inr rfl) (.inr rfl) (.inr rfl) (.inr rfl) (.inr rfl) (.inr rfl) (.inr rfl) ?_
                         (.inr rfl) (.inr rfl) (.inr rfl) (.inr rfl)) (Frame.of (m := 32778) (State.writeWord_frame _ _ _ _) (Frame.mk1 (m := 32778)
                         (Frame.refl 32778 _) (.inr rfl) (.inr rfl) (.inr rfl) (.inr rfl) (.inr rfl) (.inr rfl) (.inr rfl) (.inr rfl) (.inr rfl) (.inr rfl)
                         (.inr rfl) (.inr rfl) (.inr rfl) (.inr rfl) ?_ (.inr rfl) (.inr rfl) (.inr rfl) (.inr rfl)) (by decide))
        · split
          · with_reducible exact (.inl (by decide))
          · with_reducible exact (.inl (by decide))
        · split
          · with_reducible exact (.inl (by decide))
          · with_reducible exact (.inl (by decide))
      · with_reducible refine Frame.mk1 (m := 32778) (Frame.refl 32778 _) (.inr rfl) (.inr rfl) (.inr rfl) (.inr rfl) (.inr rfl) (.inr rfl)
                         (.inr rfl) (.inr rfl) (.inr rfl) (.inr rfl) (.inr rfl) (.inr rfl) (.inr rfl) (.inr rfl) ?_ (.inr rfl) (.inr rfl) (.inr rfl)
                         (.inr rfl)
        split
        · with_reducible exact (.inl (by decide))
        · with_reducible exact (.inl (by decide))
    · split
      · with_reducible refine Frame.ite (m := 32778) (Frame.mk1 (m := 32778) (Frame.refl 32778 _) (.inr rfl) (.inr rfl) (.inr rfl)
                         (.inr rfl) (.inr rfl) (.inr rfl) (.inr rfl) (.inr rfl) (.inr rfl) (.inr rfl) (.inr rfl) (.inr rfl) (.inr rfl) (.inr rfl) ?_
                         (.inr rfl) (.inr rfl) (.inr rfl) (.inr rfl)) (Frame.of (m := 32778) (State.writeWord_frame _ _ _ _) (Frame.mk1 (m := 32778)
                         (Frame.refl 32778 _) (.inr rfl) (.inr rfl) (.inr rfl) (.inr rfl) (.inr rfl) (.inr rfl) (.inr rfl) (.inr rfl) (.inr rfl) (.inr rfl)
                         (.inr rfl) (.inr rfl) (.inr rfl) (.inr rfl) ?_ (.inr rfl) (.inr rfl) (.inr rfl) (.inr rfl)) (by decide))
        · split
          · with_reducible exact (.inl (by decide))
          · with_reducible exact (.inl (by decide))
        · split
          · with_reducible exact (.inl (by decide))
          · with_reducible exact (.inl (by decide))
      · with_reducible refine Frame.mk1 (m := 32778) (Frame.refl 32778 _) (.inr rfl) (.inr rfl) (.inr rfl) (.inr rfl) (.inr rfl) (.inr rfl)
                         (.inr rfl) (.inr rfl) (.inr rfl) (.inr rfl) (.inr rfl) (.inr rfl) (.inr rfl) (.inr rfl) ?_ (.inr rfl) (.inr rfl) (.inr rfl)
                         (.inr rfl)
        split
        · with_reducible exact (.inl (by decide))
        · with_reducible exact (.inl (by decide))

theorem State.memCycles_frame (s : Sys2Proof.Machine.State) (a1 : List Sys2Proof.Machine.MemCycle) : Frame 32778 s (State.memCycles s a1) := by
  unfold State.memCycles
  dsimp only
  simp only [State.mk_make]
  with_reducible exact Frame.foldl (m := 32778) (fun _ => fun _ => Frame.mono (m := 32778) (State.memCycle_frame _ _) (by decide))
                   (Frame.up15 (m := 32778) (Frame.refl 32778 _) (by decide))

theorem State.mgmtReceive_frame (s : Sys2Proof.Machine.State) (a1 : Sys2Proof.Machine.MgmtDatagram) : Frame 16386 s (State.mgmtReceive s a1) := by
  unfold State.mgmtReceive
  dsimp only
  simp only [State.mk_make]
  with_reducible refine Frame.ite (m := 16386) (Frame.mono (m := 16386) (State.expireCache_frame _) (by decide)) (Frame.ite (m := 16386)
                   (Frame.of (m := 16386) (State.inc_frame _ _) (Frame.mono (m := 16386) (State.expireCache_frame _) (by decide)) (by decide)) (Frame.ite
                   (m := 16386) (Frame.mono (m := 16386) (State.expireCache_frame _) (by decide)) (Frame.ite (m := 16386) (Frame.of (m := 16386)
                   (State.inc_frame _ _) (Frame.mono (m := 16386) (State.expireCache_frame _) (by decide)) (by decide)) (Frame.ite (m := 16386) (Frame.of
                   (m := 16386) (State.inc_frame _ _) (Frame.mono (m := 16386) (State.expireCache_frame _) (by decide)) (by decide)) ?_))))
  split
  · split
    · with_reducible exact Frame.up14 (m := 16386) (Frame.of (m := 16386) (State.inc_frame _ _) (Frame.mono (m := 16386)
                       (State.expireCache_frame _) (by decide)) (by decide)) (by decide)
    · with_reducible exact Frame.of (m := 16386) (State.inc_frame _ _) (Frame.mono (m := 16386) (State.expireCache_frame _) (by decide))
                       (by decide)
  · with_reducible refine Frame.ite (m := 16386) (Frame.of (m := 16386) (State.inc_frame _ _) (Frame.up14 (m := 16386) (Frame.mono
                     (m := 16386) (State.expireCache_frame _) (by decide)) (by decide)) (by decide)) ?_
    split
    · with_reducible exact Frame.of (m := 16386) (State.inc_frame _ _) (Frame.up14 (m := 16386) (Frame.of (m := 16386) (State.inc_frame _ _)
                       (Frame.up14 (m := 16386) (Frame.mono (m := 16386) (State.expireCache_frame _) (by decide)) (by decide)) (by decide)) (by decide))
                       (by decide)
    · with_reducible exact Frame.of (m := 16386) (State.inc_frame _ _) (Frame.mono (m := 16386) (State.expireCache_frame _) (by decide))
                       (by decide)

theorem State.mirror_frame (s : Sys2Proof.Machine.State) (a1 : Nat) (a2 : Sys2Proof.Machine.RxFrame) : Frame 65538 s (State.mirror s a1 a2) := by
  unfold State.mirror
  dsimp only
  simp only [State.mk_make]
  with_reducible exact Frame.ite (m := 65538) (Frame.of (m := 65538) (State.inc_frame _ _) (Frame.up16 (m := 65538) (Frame.refl 65538 _)
                   (by decide)) (by decide)) (Frame.refl 65538 _)

theorem State.resolveWeek_frame (s : Sys2Proof.Machine.State) : Frame 2 s (State.resolveWeek s) := by
  unfold State.resolveWeek
  dsimp only
  split
  · with_reducible exact Frame.ite (m := 2) (Frame.of (m := 2) (State.setN_frame _ _ _) (Frame.of (m := 2) (State.setN_frame _ _ _)
                     (Frame.ite (m := 2) (Frame.mono (m := 2) (State.inc_frame _ _) (by decide)) (Frame.refl 2 _)) (by decide)) (by decide)) (Frame.of
                     (m := 2) (State.setN_frame _ _ _) (Frame.of (m := 2) (State.setN_frame _ _ _) (Frame.ite (m := 2) (Frame.refl 2 _) (Frame.mono (m := 2)
                     (State.inc_frame _ _) (by decide))) (by decide)) (by decide))
  · split
    · with_reducible exact Frame.refl 2 _
    · split
      · with_reducible exact Frame.ite (m := 2) (Frame.of (m := 2) (State.setN_frame _ _ _) (Frame.mono (m := 2) (State.setN_frame _ _ _)
                         (by decide)) (by decide)) (Frame.of (m := 2) (State.setN_frame _ _ _) (Frame.mono (m := 2) (State.setN_frame _ _ _) (by decide))
                         (by decide))
      · with_reducible exact Frame.of (m := 2) (State.setN_frame _ _ _) (Frame.mono (m := 2) (State.setN_frame _ _ _) (by decide))
                         (by decide)

theorem State.weekField_frame (s : Sys2Proof.Machine.State) (a1 : Sys2Proof.Machine.WeekField) : Frame 258 s (State.weekField s a1) := by
  unfold State.weekField
  dsimp only
  simp only [State.mk_make]
  split
  · with_reducible exact Frame.ite (m := 258) (Frame.mono (m := 258) (State.inc_frame _ _) (by decide)) (Frame.of (m := 258)
                     (State.resolveWeek_frame _) (Frame.up8 (m := 258) (Frame.refl 258 _) (by decide)) (by decide))
  · with_reducible exact Frame.ite (m := 258) (Frame.mono (m := 258) (State.inc_frame _ _) (by decide)) (Frame.of (m := 258)
                     (State.resolveWeek_frame _) (Frame.up8 (m := 258) (Frame.refl 258 _) (by decide)) (by decide))
  · with_reducible exact Frame.ite (m := 258) (Frame.mono (m := 258) (State.inc_frame _ _) (by decide)) (Frame.of (m := 258)
                     (State.resolveWeek_frame _) (Frame.up8 (m := 258) (Frame.refl 258 _) (by decide)) (by decide))
  · with_reducible exact Frame.of (m := 258) (State.resolveWeek_frame _) (Frame.up8 (m := 258) (Frame.refl 258 _) (by decide)) (by decide)

theorem State.navFields_frame (s : Sys2Proof.Machine.State) (a1 : Nat) (a2 : Sys2Proof.Machine.NavUnit) : Frame 290 s (State.navFields s a1 a2) := by
  unfold State.navFields
  dsimp only
  simp only [State.mk_make]
  split
  · with_reducible refine Frame.mk1 (m := 290) ?_ (.inr rfl) (.inr rfl) (.inr rfl) (.inr rfl) (.inr rfl) (.inr rfl) (.inr rfl) ?_ (.inr rfl)
                     (.inr rfl) (.inr rfl) (.inr rfl) (.inr rfl) (.inr rfl) (.inr rfl) (.inr rfl) (.inr rfl) (.inr rfl) (.inr rfl)
    · split
      · with_reducible refine Frame.of (m := 290) (State.leapAnnounce_frame _ _ _ _) ?_ (by decide)
        split
        · with_reducible exact Frame.mono (m := 290) (State.weekField_frame _ _) (by decide)
        · with_reducible exact Frame.refl 290 _
      · split
        · with_reducible exact Frame.mono (m := 290) (State.weekField_frame _ _) (by decide)
        · with_reducible exact Frame.refl 290 _
    · split
      · split
        · with_reducible exact (.inl (by decide))
        · with_reducible exact (.inl (by decide))
      · split
        · with_reducible exact (.inl (by decide))
        · with_reducible exact (.inl (by decide))
  · split
    · with_reducible refine Frame.of (m := 290) (State.leapAnnounce_frame _ _ _ _) ?_ (by decide)
      split
      · with_reducible exact Frame.mono (m := 290) (State.weekField_frame _ _) (by decide)
      · with_reducible exact Frame.refl 290 _
    · split
      · with_reducible exact Frame.mono (m := 290) (State.weekField_frame _ _) (by decide)
      · with_reducible exact Frame.refl 290 _

theorem State.navWrite_frame (s : Sys2Proof.Machine.State) (a1 : Sys2Proof.Octets) : Frame 16650 s (State.navWrite s a1) := by
  unfold State.navWrite
  dsimp only
  simp only [State.mk_make]
  with_reducible exact Frame.ite (m := 16650) (Frame.of (m := 16650) (State.vector_frame _ _ _) (Frame.of (m := 16650) (State.vector_frame _
                   _ _) (Frame.ite (m := 16650) (Frame.up8 (m := 16650) (Frame.mono (m := 16650) (State.navPut_frame _ _ _) (by decide)) (by decide))
                   (Frame.of (m := 16650) (State.addN_frame _ _ _) (Frame.up8 (m := 16650) (Frame.mono (m := 16650) (State.navPut_frame _ _ _) (by decide))
                   (by decide)) (by decide))) (by decide)) (by decide)) (Frame.ite (m := 16650) (Frame.up8 (m := 16650) (Frame.mono (m := 16650)
                   (State.navPut_frame _ _ _) (by decide)) (by decide)) (Frame.of (m := 16650) (State.addN_frame _ _ _) (Frame.up8 (m := 16650) (Frame.mono
                   (m := 16650) (State.navPut_frame _ _ _) (by decide)) (by decide)) (by decide)))

theorem State.navUnit_frame (s : Sys2Proof.Machine.State) (a1 : Nat) (a2 : Sys2Proof.Machine.NavUnit) : Frame 16682 s (State.navUnit s a1 a2) := by
  unfold State.navUnit
  dsimp only
  with_reducible exact Frame.ite (m := 16682) (Frame.of (m := 16682) (State.inc_frame _ _) (Frame.mono (m := 16682) (State.setChan_frame _ _
                   _) (by decide)) (by decide)) (Frame.ite (m := 16682) (Frame.of (m := 16682) (State.inc_frame _ _) (Frame.mono (m := 16682)
                   (State.setChan_frame _ _ _) (by decide)) (by decide)) (Frame.ite (m := 16682) (Frame.of (m := 16682) (State.chanEnter_frame _ _ _)
                   (Frame.of (m := 16682) (State.navFields_frame _ _ _) (Frame.of (m := 16682) (State.navWrite_frame _ _) (Frame.of (m := 16682)
                   (State.inc_frame _ _) (Frame.mono (m := 16682) (State.setChan_frame _ _ _) (by decide)) (by decide)) (by decide)) (by decide))
                   (by decide)) (Frame.of (m := 16682) (State.navFields_frame _ _ _) (Frame.of (m := 16682) (State.navWrite_frame _ _) (Frame.of (m := 16682)
                   (State.inc_frame _ _) (Frame.mono (m := 16682) (State.setChan_frame _ _ _) (by decide)) (by decide)) (by decide)) (by decide))))

theorem State.notchAverage_frame (s : Sys2Proof.Machine.State) (a1 : Nat) (a2 : List Nat) : Frame 258 s (State.notchAverage s a1 a2) := by
  unfold State.notchAverage
  dsimp only
  with_reducible exact Frame.ite (m := 258) (Frame.mono (m := 258) (State.releaseNotches_frame _ _) (by decide)) (Frame.of (m := 258)
                   (State.addN_frame _ _ _) (Frame.of (m := 258) (State.addN_frame _ _ _) (Frame.mono (m := 258) (State.setStrm_frame _ _ _) (by decide))
                   (by decide)) (by decide))

theorem State.ntpRequest_frame (s : Sys2Proof.Machine.State) (a1 : Nat) (a2 : Nat) (a3 : Sys2Proof.Machine.RxFrame) (a4 : Int) : Frame 71682 s (State.ntpRequest s a1 a2 a3 a4) := by
  unfold State.ntpRequest
  dsimp only
  with_reducible refine Frame.ite (m := 71682) (Frame.of (m := 71682) (State.inc_frame _ _) (Frame.mono (m := 71682) (State.itemDone_frame _
                   _ _) (by decide)) (by decide)) (Frame.ite (m := 71682) (Frame.mono (m := 71682) (State.itemDone_frame _ _ _) (by decide)) (Frame.ite
                   (m := 71682) (Frame.of (m := 71682) (State.inc_frame _ _) (Frame.mono (m := 71682) (State.itemDone_frame _ _ _) (by decide)) (by decide))
                   ?_))
  split
  · with_reducible exact Frame.of (m := 71682) (State.exactReserve_frame _ _ _ _ _) (Frame.of (m := 71682) (State.mirror_frame _ _ _)
                     (Frame.mono (m := 71682) (State.itemDone_frame _ _ _) (by decide)) (by decide)) (by decide)
  · with_reducible exact Frame.ite (m := 71682) (Frame.of (m := 71682) (State.inc_frame _ _) (Frame.of (m := 71682) (State.mirror_frame _ _
                     _) (Frame.mono (m := 71682) (State.itemDone_frame _ _ _) (by decide)) (by decide)) (by decide)) (Frame.of (m := 71682) (State.inc_frame
                     _ _) (Frame.of (m := 71682) (State.release_frame _ _ _ _ _ _) (Frame.of (m := 71682) (State.exactReserve_frame _ _ _ _ _) (Frame.of
                     (m := 71682) (State.mirror_frame _ _ _) (Frame.mono (m := 71682) (State.itemDone_frame _ _ _) (by decide)) (by decide)) (by decide))
                     (by decide)) (by decide))

theorem State.ntsNak_frame (s : Sys2Proof.Machine.State) (a1 : Nat) (a2 : Nat) (a3 : Sys2Proof.Machine.RxFrame) (a4 : Sys2Proof.Octets) (a5 : Nat) : Frame 6146 s (State.ntsNak s a1 a2 a3 a4 a5) := by
  unfold State.ntsNak
  dsimp only
  with_reducible exact Frame.ite (m := 6146) (Frame.mono (m := 6146) (State.inc_frame _ _) (by decide)) (Frame.of (m := 6146)
                   (State.inc_frame _ _) (Frame.mono (m := 6146) (State.release_frame _ _ _ _ _ _) (by decide)) (by decide))

theorem State.ntsRequest_frame (s : Sys2Proof.Machine.State) (a1 : Nat) (a2 : Nat) (a3 : Sys2Proof.Machine.RxFrame) (a4 : Int) : Frame 71698 s (State.ntsRequest s a1 a2 a3 a4) := by
  unfold State.ntsRequest
  dsimp only
  split
  · with_reducible exact Frame.of (m := 71698) (State.inc_frame _ _) (Frame.mono (m := 71698) (State.itemDone_frame _ _ _) (by decide))
                     (by decide)
  · split
    · split
      · with_reducible exact Frame.of (m := 71698) (State.ntsNak_frame _ _ _ _ _ _) (Frame.mono (m := 71698) (State.itemDone_frame _ _ _)
                         (by decide)) (by decide)
      · with_reducible refine Frame.ite (m := 71698) (Frame.of (m := 71698) (State.ntsNak_frame _ _ _ _ _ _) (Frame.mono (m := 71698)
                         (State.itemDone_frame _ _ _) (by decide)) (by decide)) ?_
        split
        · with_reducible exact Frame.of (m := 71698) (State.ntsNak_frame _ _ _ _ _ _) (Frame.mono (m := 71698) (State.itemDone_frame _ _ _)
                           (by decide)) (by decide)
        · split
          · with_reducible exact Frame.of (m := 71698) (State.exactReserve_frame _ _ _ _ _) (Frame.of (m := 71698) (State.mirror_frame _ _
                             _) (Frame.mono (m := 71698) (State.itemDone_frame _ _ _) (by decide)) (by decide)) (by decide)
          · with_reducible exact Frame.ite (m := 71698) (Frame.of (m := 71698) (State.inc_frame _ _) (Frame.of (m := 71698)
                             (State.mirror_frame _ _ _) (Frame.mono (m := 71698) (State.itemDone_frame _ _ _) (by decide)) (by decide)) (by decide))
                             (Frame.of (m := 71698) (State.inc_frame _ _) (Frame.of (m := 71698) (State.release_frame _ _ _ _ _ _) (Frame.of (m := 71698)
                             (State.drew_frame _) (Frame.of (m := 71698) (State.sealCookies_frame _ _ _ _ _) (Frame.of (m := 71698) (State.exactReserve_frame
                             _ _ _ _ _) (Frame.of (m := 71698) (State.mirror_frame _ _ _) (Frame.mono (m := 71698) (State.itemDone_frame _ _ _) (by decide))
                             (by decide)) (by decide)) (by decide)) (by decide)) (by decide)) (by decide))
    · with_reducible exact Frame.of (m := 71698) (State.ntsNak_frame _ _ _ _ _ _) (Frame.mono (m := 71698) (State.itemDone_frame _ _ _)
                       (by decide)) (by decide)

theorem State.sendAgree_frame (s : Sys2Proof.Machine.State) (a1 : Bool) : Frame 65536 s (State.sendAgree s a1) := by
  unfold State.sendAgree
  dsimp only
  simp only [State.mk_make]
  with_reducible exact Frame.ite (m := 65536) (Frame.refl 65536 _) (Frame.up16 (m := 65536) (Frame.refl 65536 _) (by decide))

theorem State.unfinished_frame (s : Sys2Proof.Machine.State) (a1 : Sys2Proof.Machine.Unfinished) : Frame 778206 s (State.unfinished s a1).1 := by
  unfold State.unfinished
  dsimp only
  simp only [State.mk_make]
  split
  · with_reducible exact Frame.mono (m := 778206) (State.stampOverrun_frame _ _) (by decide)
  · with_reducible exact Frame.mono (m := 778206) (State.gladeDumpMissing_frame _) (by decide)
  · with_reducible exact Frame.up12 (m := 778206) (Frame.refl 778206 _) (by decide)
  · with_reducible exact Frame.of (m := 778206) (State.sendAgree_frame _ _) (Frame.up17 (m := 778206) (Frame.of (m := 778206)
                     (State.coastTick_frame _) (Frame.mono (m := 778206) (State.faulted_frame _ _ _ _) (by decide)) (by decide)) (by decide)) (by decide)
  · with_reducible exact Frame.up12 (m := 778206) (Frame.refl 778206 _) (by decide)
  · with_reducible exact Frame.of (m := 778206) (State.engineFail_frame _ _ _) (Frame.up15 (m := 778206) (Frame.refl 778206 _) (by decide))
                     (by decide)
  · with_reducible exact Frame.of (m := 778206) (State.inc_frame _ _) (Frame.up14 (m := 778206) (Frame.refl 778206 _) (by decide))
                     (by decide)
  · with_reducible exact Frame.of (m := 778206) (State.dumpDiscard_frame _ _) (Frame.mono (m := 778206) (State.dumpDiscard_frame _ _)
                     (by decide)) (by decide)
  · with_reducible exact Frame.refl 778206 _
  · with_reducible exact Frame.mono (m := 778206) (State.keyframeMissed_frame _) (by decide)

theorem State.overrun_frame (s : Sys2Proof.Machine.State) (a1 : Sys2Proof.Machine.Unfinished) : Frame 778206 s (State.overrun s a1) := by
  unfold State.overrun
  dsimp only
  simp only [State.mk_make]
  with_reducible exact Frame.of (m := 778206) (State.setN_frame _ _ _) (Frame.of (m := 778206) (State.addN_frame _ _ _) (Frame.ite
                   (m := 778206) (Frame.mono (m := 778206) (State.unfinished_frame _ _) (by decide)) (Frame.of (m := 778206) (State.inc_frame _ _) (Frame.up4
                   (m := 778206) (Frame.mono (m := 778206) (State.unfinished_frame _ _) (by decide)) (by decide)) (by decide))) (by decide)) (by decide)

theorem State.ownInLow_frame (s : Sys2Proof.Machine.State) : Frame 65538 s (State.ownInLow s) := by
  unfold State.ownInLow
  dsimp only
  simp only [State.mk_make]
  with_reducible exact Frame.up16 (m := 65538) (Frame.mono (m := 65538) (State.setF_frame _ _ _) (by decide)) (by decide)

theorem State.ownRecord_frame (s : Sys2Proof.Machine.State) (a1 : Nat) : Frame 65536 s (State.ownRecord s a1) := by
  unfold State.ownRecord
  dsimp only
  simp only [State.mk_make]
  split
  · with_reducible exact Frame.refl 65536 _
  · with_reducible refine Frame.ite (m := 65536) (Frame.refl 65536 _) (Frame.mk1 (m := 65536) (Frame.refl 65536 _) (.inr rfl) (.inr rfl)
                     (.inr rfl) (.inr rfl) (.inr rfl) (.inr rfl) (.inr rfl) (.inr rfl) (.inr rfl) (.inr rfl) (.inr rfl) (.inr rfl) (.inr rfl) (.inr rfl)
                     (.inr rfl) ?_ (.inr rfl) (.inr rfl) (.inr rfl))
    split
    · with_reducible exact (.inl (by decide))
    · with_reducible exact (.inl (by decide))

theorem State.pdelayReq_frame (s : Sys2Proof.Machine.State) (a1 : Nat) (a2 : Nat) (a3 : Sys2Proof.Machine.RxFrame) (a4 : Int) : Frame 6146 s (State.pdelayReq s a1 a2 a3 a4) := by
  unfold State.pdelayReq
  dsimp only
  simp only [State.mk_make]
  split
  · with_reducible exact Frame.mono (m := 6146) (State.itemDone_frame _ _ _) (by decide)
  · with_reducible refine Frame.ite (m := 6146) (Frame.of (m := 6146) (State.inc_frame _ _) (Frame.mono (m := 6146) (State.itemDone_frame _
                     _ _) (by decide)) (by decide)) (Frame.ite (m := 6146) (Frame.of (m := 6146) (State.inc_frame _ _) (Frame.mono (m := 6146)
                     (State.itemDone_frame _ _ _) (by decide)) (by decide)) (Frame.ite (m := 6146) (Frame.iteFst (m := 6146) (Frame.mono (m := 6146)
                     (State.itemDone_frame _ _ _) (by decide)) (Frame.of (m := 6146) (State.exactReserve_frame _ _ _ _ _) (Frame.mono (m := 6146)
                     (State.itemDone_frame _ _ _) (by decide)) (by decide))) (Frame.ite (m := 6146) (Frame.of (m := 6146) (State.inc_frame _ _) (Frame.mono
                     (m := 6146) (State.itemDone_frame _ _ _) (by decide)) (by decide)) ?_)))
    split
    · with_reducible exact Frame.mono (m := 6146) (State.itemDone_frame _ _ _) (by decide)
    · with_reducible refine Frame.ite (m := 6146) (Frame.mk1 (m := 6146) (Frame.of (m := 6146) (State.release_frame _ _ _ _ _ _)
                       (Frame.iteFst (m := 6146) (Frame.mono (m := 6146) (State.itemDone_frame _ _ _) (by decide)) (Frame.of (m := 6146)
                       (State.exactReserve_frame _ _ _ _ _) (Frame.mono (m := 6146) (State.itemDone_frame _ _ _) (by decide)) (by decide))) (by decide))
                       (.inr rfl) (.inr rfl) (.inr rfl) (.inr rfl) (.inr rfl) (.inr rfl) (.inr rfl) (.inr rfl) (.inr rfl) (.inr rfl) (.inr rfl) ?_ (.inr rfl)
                       (.inr rfl) (.inr rfl) (.inr rfl) (.inr rfl) (.inr rfl) (.inr rfl)) (Frame.of (m := 6146) (State.release_frame _ _ _ _ _ _)
                       (Frame.iteFst (m := 6146) (Frame.mono (m := 6146) (State.itemDone_frame _ _ _) (by decide)) (Frame.of (m := 6146)
                       (State.exactReserve_frame _ _ _ _ _) (Frame.mono (m := 6146) (State.itemDone_frame _ _ _) (by decide)) (by decide))) (by decide))
      split
      · split
        · split
          · split
            · with_reducible exact (.inl (by decide))
            · with_reducible exact (.inl (by decide))
          · split
            · with_reducible exact (.inl (by decide))
            · with_reducible exact (.inl (by decide))
        · split
          · split
            · with_reducible exact (.inl (by decide))
            · with_reducible exact (.inl (by decide))
          · split
            · with_reducible exact (.inl (by decide))
            · with_reducible exact (.inl (by decide))
      · split
        · split
          · split
            · split
              · split
                · with_reducible exact (.inl (by decide))
                · with_reducible exact (.inl (by decide))
              · split
                · with_reducible exact (.inl (by decide))
                · with_reducible exact (.inl (by decide))
            · split
              · split
                · with_reducible exact (.inl (by decide))
                · with_reducible exact (.inl (by decide))
              · split
                · with_reducible exact (.inl (by decide))
                · with_reducible exact (.inl (by decide))
          · split
            · split
              · split
                · with_reducible exact (.inl (by decide))
                · with_reducible exact (.inl (by decide))
              · split
                · with_reducible exact (.inl (by decide))
                · with_reducible exact (.inl (by decide))
            · split
              · split
                · with_reducible exact (.inl (by decide))
                · with_reducible exact (.inl (by decide))
              · split
                · with_reducible exact (.inl (by decide))
                · with_reducible exact (.inl (by decide))
        · split
          · split
            · split
              · split
                · with_reducible exact (.inl (by decide))
                · with_reducible exact (.inl (by decide))
              · split
                · with_reducible exact (.inl (by decide))
                · with_reducible exact (.inl (by decide))
            · split
              · split
                · with_reducible exact (.inl (by decide))
                · with_reducible exact (.inl (by decide))
              · split
                · with_reducible exact (.inl (by decide))
                · with_reducible exact (.inl (by decide))
          · split
            · split
              · split
                · with_reducible exact (.inl (by decide))
                · with_reducible exact (.inl (by decide))
              · split
                · with_reducible exact (.inl (by decide))
                · with_reducible exact (.inl (by decide))
            · split
              · split
                · with_reducible exact (.inl (by decide))
                · with_reducible exact (.inl (by decide))
              · split
                · with_reducible exact (.inl (by decide))
                · with_reducible exact (.inl (by decide))

theorem State.pdelayReqDue_frame (s : Sys2Proof.Machine.State) (a1 : Nat) (a2 : Nat) : Frame 104466 s (State.pdelayReqDue s a1 a2) := by
  unfold State.pdelayReqDue
  dsimp only
  simp only [State.mk_make]
  with_reducible refine Frame.ite (m := 104466) (Frame.refl 104466 _) ?_
  split
  · with_reducible exact Frame.mono (m := 104466) (State.markDue_frame _ _ _ _) (by decide)
  · with_reducible refine Frame.mk1 (m := 104466) (Frame.of (m := 104466) (State.setSeq_frame _ _ _ _) (Frame.of (m := 104466)
                     (State.release_frame _ _ _ _ _ _) (Frame.of (m := 104466) (State.newItem_frame _ _ _) (Frame.mono (m := 104466) (State.markDue_frame _ _
                     _ _) (by decide)) (by decide)) (by decide)) (by decide)) (.inr rfl) (.inr rfl) (.inr rfl) (.inr rfl) (.inr rfl) (.inr rfl) (.inr rfl)
                     (.inr rfl) (.inr rfl) (.inr rfl) (.inr rfl) ?_ (.inr rfl) (.inr rfl) (.inr rfl) (.inr rfl) (.inr rfl) (.inr rfl) (.inr rfl)
    split
    · with_reducible exact (.inl (by decide))
    · split
      · with_reducible exact (.inl (by decide))
      · with_reducible exact (.inl (by decide))

theorem State.pdelayRx_frame (s : Sys2Proof.Machine.State) (a1 : Sys2Proof.Machine.RxFrame) : Frame 4098 s (State.pdelayRx s a1) := by
  unfold State.pdelayRx
  dsimp only
  simp only [State.mk_make]
  split
  · with_reducible exact Frame.refl 4098 _
  · with_reducible refine Frame.ite (m := 4098) (Frame.mono (m := 4098) (State.inc_frame _ _) (by decide)) (Frame.ite (m := 4098)
                     (Frame.mono (m := 4098) (State.inc_frame _ _) (by decide)) (Frame.ite (m := 4098) (Frame.refl 4098 _) (Frame.ite (m := 4098) (Frame.ite
                     (m := 4098) ?_ ?_) ?_)))
    · split
      · with_reducible exact Frame.up12 (m := 4098) (Frame.refl 4098 _) (by decide)
      · with_reducible exact Frame.mono (m := 4098) (State.inc_frame _ _) (by decide)
    · split
      · with_reducible exact Frame.up12 (m := 4098) (Frame.refl 4098 _) (by decide)
      · with_reducible exact Frame.refl 4098 _
    · split
      · with_reducible exact Frame.up12 (m := 4098) (Frame.refl 4098 _) (by decide)
      · with_reducible exact Frame.mono (m := 4098) (State.inc_frame _ _) (by decide)
      · with_reducible exact Frame.refl 4098 _

theorem State.planChannels_frame (s : Sys2Proof.Machine.State) (a1 : List Sys2Proof.Machine.Visible) : Frame 256 s (State.planChannels s a1) := by
  unfold State.planChannels
  dsimp only
  simp only [State.mk_make]
  with_reducible refine Frame.up8 (m := 256) (Frame.foldl (m := 256) (fun _ => fun _ => ?_) (Frame.up8 (m := 256) (Frame.refl 256 _)
                   (by decide))) (by decide)
  split
  · with_reducible exact Frame.mono (m := 256) (State.chanPlan_frame _ _ _) (by decide)
  · with_reducible exact Frame.ite (m := 256) (Frame.refl 256 _) (Frame.mono (m := 256) (State.chanPlan_frame _ _ _) (by decide))

end Sys2Proof.Machine
end

