-- ==== Sys2Proof/Laws/Frames12.lean ====
section
/-!
SUPPORT. The frames of operations and commands, part 12.
-/

namespace Sys2Proof.Machine

theorem State.planCompute_frame (s : Sys2Proof.Machine.State) : Frame 262160 s (State.planCompute s).1 := by
  unfold State.planCompute
  dsimp only
  simp only [State.mk_make]
  with_reducible refine Frame.mk1 (m := 262160) (Frame.mono (m := 262160) (State.drew_frame _) (by decide)) (.inr rfl) (.inr rfl) (.inr rfl)
                   (.inr rfl) (.inr rfl) (.inr rfl) (.inr rfl) (.inr rfl) (.inr rfl) (.inr rfl) (.inr rfl) (.inr rfl) (.inr rfl) (.inr rfl) (.inr rfl)
                   (.inr rfl) (.inr rfl) ?_ (.inr rfl)
  split
  · with_reducible exact (.inl (by decide))
  · with_reducible exact (.inl (by decide))

theorem State.planSpares_frame (s : Sys2Proof.Machine.State) : Frame 32768 s (State.planSpares s) := by
  unfold State.planSpares
  dsimp only
  simp only [State.mk_make]
  with_reducible exact Frame.foldl (m := 32768) (fun _ => fun _ => Frame.ite (m := 32768) (Frame.up15 (m := 32768) (Frame.refl 32768 _)
                   (by decide)) (Frame.refl 32768 _)) (Frame.refl 32768 _)

theorem State.planComplete_frame (s : Sys2Proof.Machine.State) : Frame 294930 s (State.planComplete s) := by
  unfold State.planComplete
  dsimp only
  simp only [State.mk_make]
  with_reducible exact Frame.ite (m := 294930) (Frame.of (m := 294930) (State.journalTrigger_frame _) (Frame.of (m := 294930)
                   (State.inc_frame _ _) (Frame.of (m := 294930) (State.setO_frame _ _ _) (Frame.up18 (m := 294930) (Frame.of (m := 294930)
                   (State.planCompute_frame _) (Frame.mono (m := 294930) (State.planSpares_frame _) (by decide)) (by decide)) (by decide)) (by decide))
                   (by decide)) (by decide)) (Frame.refl 294930 _)

theorem State.planStart_frame (s : Sys2Proof.Machine.State) : Frame 262146 s (State.planStart s) := by
  unfold State.planStart
  dsimp only
  simp only [State.mk_make]
  with_reducible exact Frame.ite (m := 262146) (Frame.of (m := 262146) (State.setN_frame _ _ _) (Frame.up18 (m := 262146) (Frame.mono
                   (m := 262146) (State.setO_frame _ _ _) (by decide)) (by decide)) (by decide)) (Frame.refl 262146 _)

theorem State.posAdd_frame (s : Sys2Proof.Machine.State) (a1 : Sys2Proof.Machine.Solved) : Frame 256 s (State.posAdd s a1) := by
  unfold State.posAdd
  dsimp only
  simp only [State.mk_make]
  with_reducible exact Frame.ite (m := 256) (Frame.foldl (m := 256) (fun _ => fun _ => Frame.up8 (m := 256) (Frame.refl 256 _) (by decide))
                   (Frame.refl 256 _)) (Frame.refl 256 _)

theorem State.posBegin_frame (s : Sys2Proof.Machine.State) : Frame 256 s (State.posBegin s) := by
  unfold State.posBegin
  dsimp only
  simp only [State.mk_make]
  with_reducible exact Frame.up8 (m := 256) (Frame.refl 256 _) (by decide)

theorem State.postHeld_frame (s : Sys2Proof.Machine.State) : Frame 16386 s (State.postHeld s) := by
  unfold State.postHeld
  with_reducible refine Frame.foldl (m := 16386) (fun _ => fun _ => ?_) (Frame.refl 16386 _)
  split
  · with_reducible exact Frame.mono (m := 16386) (State.chanDone_frame _ _ _ _) (by decide)
  · with_reducible exact Frame.refl 16386 _

theorem State.project_frame (s : Sys2Proof.Machine.State) (a1 : Sys2Proof.Machine.TwinInputs) : Frame 67218 s (State.project s a1) := by
  unfold State.project
  dsimp only
  simp only [State.mk_make]
  with_reducible exact Frame.mk1 (m := 67218) (Frame.of (m := 67218) (State.setRef_frame _ _ _) (Frame.foldl (m := 67218) (fun _ => fun _ =>
                   Frame.mono (m := 67218) (State.setPort_frame _ _ _) (by decide)) (Frame.foldl (m := 67218) (fun _ => fun _ => Frame.mono (m := 67218)
                   (State.setO_frame _ _ _) (by decide)) (Frame.refl 67218 _))) (by decide)) (.inr rfl) (.inr rfl) (.inr rfl) (.inl (by decide)) (.inr rfl)
                   (.inr rfl) (.inl (by decide)) (.inr rfl) (.inl (by decide)) (.inl (by decide)) (.inr rfl) (.inr rfl) (.inr rfl) (.inr rfl) (.inr rfl)
                   (.inl (by decide)) (.inr rfl) (.inr rfl) (.inr rfl)

theorem State.putServoObjs_frame (s : Sys2Proof.Machine.State) (a1 : List (Nat × Int)) : Frame 2 s (State.putServoObjs s a1) := by
  unfold State.putServoObjs
  simp only [State.mk_make]
  with_reducible exact Frame.foldl (m := 2) (fun _ => fun _ => Frame.mono (m := 2) (State.setO_frame _ _ _) (by decide)) (Frame.up1 (m := 2)
                   (Frame.refl 2 _) (by decide))

theorem State.recalEnd_frame (s : Sys2Proof.Machine.State) (a1 : Nat) (a2 : List Nat) : Frame 1006046 s (State.recalEnd s a1 a2) := by
  unfold State.recalEnd
  dsimp only
  with_reducible exact Frame.ite (m := 1006046) (Frame.of (m := 1006046) (State.addRun_frame _ _ _) (Frame.ite (m := 1006046) (Frame.mono
                   (m := 1006046) (State.inc_frame _ _) (by decide)) (Frame.refl 1006046 _)) (by decide)) (Frame.of (m := 1006046) (State.stamperActive_frame
                   _ _) (Frame.of (m := 1006046) (State.measureSkew_frame _ _ _ _) (Frame.of (m := 1006046) (State.addRun_frame _ _ _) (Frame.ite
                   (m := 1006046) (Frame.mono (m := 1006046) (State.inc_frame _ _) (by decide)) (Frame.refl 1006046 _)) (by decide)) (by decide))
                   (by decide))

theorem State.recalStart_frame (s : Sys2Proof.Machine.State) (a1 : Nat) : Frame 130 s (State.recalStart s a1) := by
  unfold State.recalStart
  dsimp only
  with_reducible exact Frame.of (m := 130) (State.setPort_frame _ _ _) (Frame.of (m := 130) (State.setStamper_frame _ _ _) (Frame.mono
                   (m := 130) (State.setStState_frame _ _ _) (by decide)) (by decide)) (by decide)

theorem State.ringWrite_frame (s : Sys2Proof.Machine.State) (a1 : Nat) (a2 : Sys2Proof.Machine.RingKind) (a3 : Nat) (a4 : Nat) (a5 : Nat) : Frame 16384 s (State.ringWrite s a1 a2 a3 a4 a5) := by
  unfold State.ringWrite
  with_reducible exact Frame.ite (m := 16384) (Frame.ite (m := 16384) (Frame.refl 16384 _) (Frame.mono (m := 16384) (State.setRingReg_frame
                   _ _ _ _ _ _) (by decide))) (Frame.ite (m := 16384) (Frame.mono (m := 16384) (State.setRingReg_frame _ _ _ _ _ _) (by decide)) (Frame.ite
                   (m := 16384) (Frame.mono (m := 16384) (State.setRingReg_frame _ _ _ _ _ _) (by decide)) (Frame.refl 16384 _)))

theorem State.unmask_frame (s : Sys2Proof.Machine.State) (a1 : Nat) (a2 : Nat) : Frame 16384 s (State.unmask s a1 a2) := by
  unfold State.unmask
  dsimp only
  with_reducible exact Frame.ite (m := 16384) (Frame.of (m := 16384) (State.vector_frame _ _ _) (Frame.mono (m := 16384) (State.setReg_frame
                   _ _ _ _) (by decide)) (by decide)) (Frame.refl 16384 _)

theorem State.registerWrite_frame (s : Sys2Proof.Machine.State) (a1 : Nat) (a2 : Nat) (a3 : Nat) : Frame 147458 s (State.registerWrite s a1 a2 a3) := by
  unfold State.registerWrite
  dsimp only
  simp only [State.mk_make]
  with_reducible refine Frame.ite (m := 147458) ?_ (Frame.ite (m := 147458) (Frame.mono (m := 147458) (State.ringWrite_frame _ _ _ _ _ _)
                   (by decide)) (Frame.ite (m := 147458) (Frame.mono (m := 147458) (State.ringWrite_frame _ _ _ _ _ _) (by decide)) (Frame.ite (m := 147458)
                   (Frame.mono (m := 147458) (State.ringWrite_frame _ _ _ _ _ _) (by decide)) (Frame.ite (m := 147458) (Frame.mono (m := 147458)
                   (State.ringWrite_frame _ _ _ _ _ _) (by decide)) (Frame.ite (m := 147458) (Frame.mono (m := 147458) (State.captureWrite_frame _ _ _)
                   (by decide)) (Frame.ite (m := 147458) (Frame.of (m := 147458) (State.unmask_frame _ _ _) (Frame.mono (m := 147458) (State.setReg_frame _ _
                   _ _) (by decide)) (by decide)) (Frame.refl 147458 _)))))))
  split
  · with_reducible exact Frame.up14 (m := 147458) (Frame.refl 147458 _) (by decide)
  · with_reducible exact Frame.up14 (m := 147458) (Frame.refl 147458 _) (by decide)
  · with_reducible exact Frame.refl 147458 _

theorem State.released_frame (s : Sys2Proof.Machine.State) (a1 : Bool) (a2 : Nat) (a3 : Sys2Proof.Machine.I2cLines × Sys2Proof.Machine.I2cLines) : Frame 743774 s (State.released s a1 a2 a3) := by
  unfold State.released
  dsimp only
  simp only [State.mk_make]
  with_reducible exact Frame.ite (m := 743774) (Frame.of (m := 743774) (State.faulted_frame _ _ _ _) (Frame.of (m := 743774)
                   (State.i2cReset_frame _ _ _) (Frame.of (m := 743774) (State.i2cReset_frame _ _ _) (Frame.ite (m := 743774) (Frame.of (m := 743774)
                   (State.setN_frame _ _ _) (Frame.of (m := 743774) (State.pllStart_frame _ _) (Frame.of (m := 743774) (State.setO_frame _ _ _) (Frame.of
                   (m := 743774) (State.setN_frame _ _ _) (Frame.of (m := 743774) (State.setN_frame _ _ _) (Frame.of (m := 743774) (State.setF_frame _ _ _)
                   (Frame.of (m := 743774) (State.changeMode_frame _ _) (Frame.mk1 (m := 743774) (Frame.refl 743774 _) (.inr rfl) (.inr rfl) (.inr rfl) (.inl
                   (by decide)) (.inr rfl) (.inr rfl) (.inr rfl) (.inr rfl) (.inr rfl) (.inr rfl) (.inr rfl) (.inr rfl) (.inr rfl) (.inr rfl) (.inr rfl)
                   (.inr rfl) (.inr rfl) (.inr rfl) (.inl (by decide))) (by decide)) (by decide)) (by decide)) (by decide)) (by decide)) (by decide))
                   (by decide)) (Frame.of (m := 743774) (State.setN_frame _ _ _) (Frame.of (m := 743774) (State.setN_frame _ _ _) (Frame.of (m := 743774)
                   (State.pllStart_frame _ _) (Frame.of (m := 743774) (State.setO_frame _ _ _) (Frame.of (m := 743774) (State.setN_frame _ _ _) (Frame.of
                   (m := 743774) (State.setN_frame _ _ _) (Frame.of (m := 743774) (State.setF_frame _ _ _) (Frame.of (m := 743774) (State.changeMode_frame _
                   _) (Frame.mk1 (m := 743774) (Frame.refl 743774 _) (.inr rfl) (.inr rfl) (.inr rfl) (.inl (by decide)) (.inr rfl) (.inr rfl) (.inr rfl)
                   (.inr rfl) (.inr rfl) (.inr rfl) (.inr rfl) (.inr rfl) (.inr rfl) (.inr rfl) (.inr rfl) (.inr rfl) (.inr rfl) (.inr rfl) (.inl
                   (by decide))) (by decide)) (by decide)) (by decide)) (by decide)) (by decide)) (by decide)) (by decide)) (by decide))) (by decide))
                   (by decide)) (by decide)) (Frame.ite (m := 743774) (Frame.of (m := 743774) (State.faulted_frame _ _ _ _) (Frame.of (m := 743774)
                   (State.i2cReset_frame _ _ _) (Frame.of (m := 743774) (State.i2cReset_frame _ _ _) (Frame.ite (m := 743774) (Frame.of (m := 743774)
                   (State.setN_frame _ _ _) (Frame.of (m := 743774) (State.pllStart_frame _ _) (Frame.of (m := 743774) (State.setO_frame _ _ _) (Frame.of
                   (m := 743774) (State.setN_frame _ _ _) (Frame.of (m := 743774) (State.setN_frame _ _ _) (Frame.of (m := 743774) (State.setF_frame _ _ _)
                   (Frame.of (m := 743774) (State.changeMode_frame _ _) (Frame.mk1 (m := 743774) (Frame.refl 743774 _) (.inr rfl) (.inr rfl) (.inr rfl) (.inl
                   (by decide)) (.inr rfl) (.inr rfl) (.inr rfl) (.inr rfl) (.inr rfl) (.inr rfl) (.inr rfl) (.inr rfl) (.inr rfl) (.inr rfl) (.inr rfl)
                   (.inr rfl) (.inr rfl) (.inr rfl) (.inl (by decide))) (by decide)) (by decide)) (by decide)) (by decide)) (by decide)) (by decide))
                   (by decide)) (Frame.of (m := 743774) (State.setN_frame _ _ _) (Frame.of (m := 743774) (State.setN_frame _ _ _) (Frame.of (m := 743774)
                   (State.pllStart_frame _ _) (Frame.of (m := 743774) (State.setO_frame _ _ _) (Frame.of (m := 743774) (State.setN_frame _ _ _) (Frame.of
                   (m := 743774) (State.setN_frame _ _ _) (Frame.of (m := 743774) (State.setF_frame _ _ _) (Frame.of (m := 743774) (State.changeMode_frame _
                   _) (Frame.mk1 (m := 743774) (Frame.refl 743774 _) (.inr rfl) (.inr rfl) (.inr rfl) (.inl (by decide)) (.inr rfl) (.inr rfl) (.inr rfl)
                   (.inr rfl) (.inr rfl) (.inr rfl) (.inr rfl) (.inr rfl) (.inr rfl) (.inr rfl) (.inr rfl) (.inr rfl) (.inr rfl) (.inr rfl) (.inl
                   (by decide))) (by decide)) (by decide)) (by decide)) (by decide)) (by decide)) (by decide)) (by decide)) (by decide))) (by decide))
                   (by decide)) (by decide)) (Frame.of (m := 743774) (State.i2cReset_frame _ _ _) (Frame.of (m := 743774) (State.i2cReset_frame _ _ _)
                   (Frame.ite (m := 743774) (Frame.of (m := 743774) (State.setN_frame _ _ _) (Frame.of (m := 743774) (State.pllStart_frame _ _) (Frame.of
                   (m := 743774) (State.setO_frame _ _ _) (Frame.of (m := 743774) (State.setN_frame _ _ _) (Frame.of (m := 743774) (State.setN_frame _ _ _)
                   (Frame.of (m := 743774) (State.setF_frame _ _ _) (Frame.of (m := 743774) (State.changeMode_frame _ _) (Frame.mk1 (m := 743774) (Frame.refl
                   743774 _) (.inr rfl) (.inr rfl) (.inr rfl) (.inl (by decide)) (.inr rfl) (.inr rfl) (.inr rfl) (.inr rfl) (.inr rfl) (.inr rfl) (.inr rfl)
                   (.inr rfl) (.inr rfl) (.inr rfl) (.inr rfl) (.inr rfl) (.inr rfl) (.inr rfl) (.inl (by decide))) (by decide)) (by decide)) (by decide))
                   (by decide)) (by decide)) (by decide)) (by decide)) (Frame.of (m := 743774) (State.setN_frame _ _ _) (Frame.of (m := 743774)
                   (State.setN_frame _ _ _) (Frame.of (m := 743774) (State.pllStart_frame _ _) (Frame.of (m := 743774) (State.setO_frame _ _ _) (Frame.of
                   (m := 743774) (State.setN_frame _ _ _) (Frame.of (m := 743774) (State.setN_frame _ _ _) (Frame.of (m := 743774) (State.setF_frame _ _ _)
                   (Frame.of (m := 743774) (State.changeMode_frame _ _) (Frame.mk1 (m := 743774) (Frame.refl 743774 _) (.inr rfl) (.inr rfl) (.inr rfl) (.inl
                   (by decide)) (.inr rfl) (.inr rfl) (.inr rfl) (.inr rfl) (.inr rfl) (.inr rfl) (.inr rfl) (.inr rfl) (.inr rfl) (.inr rfl) (.inr rfl)
                   (.inr rfl) (.inr rfl) (.inr rfl) (.inl (by decide))) (by decide)) (by decide)) (by decide)) (by decide)) (by decide)) (by decide))
                   (by decide)) (by decide))) (by decide)) (by decide)))

theorem State.replayDiffer_frame (s : Sys2Proof.Machine.State) (a1 : Nat) : Frame 131074 s (State.replayDiffer s a1) := by
  unfold State.replayDiffer
  dsimp only
  simp only [State.mk_make]
  with_reducible refine Frame.mk1 (m := 131074) (Frame.ite (m := 131074) (Frame.mono (m := 131074) (State.inc_frame _ _) (by decide))
                   (Frame.of (m := 131074) (State.setN_frame _ _ _) (Frame.mono (m := 131074) (State.inc_frame _ _) (by decide)) (by decide))) (.inr rfl)
                   (.inr rfl) (.inr rfl) (.inr rfl) (.inr rfl) (.inr rfl) (.inr rfl) (.inr rfl) (.inr rfl) (.inr rfl) (.inr rfl) (.inr rfl) (.inr rfl)
                   (.inr rfl) (.inr rfl) (.inr rfl) ?_ (.inr rfl) (.inr rfl)
  split
  · with_reducible exact (.inl (by decide))
  · with_reducible exact (.inl (by decide))

theorem State.replayLoad_frame (s : Sys2Proof.Machine.State) (a1 : Sys2Proof.Machine.FeedRecord) : Frame 132102 s (State.replayLoad s a1) := by
  unfold State.replayLoad
  dsimp only
  simp only [State.mk_make]
  with_reducible exact Frame.ite (m := 132102) (Frame.refl 132102 _) (Frame.ite (m := 132102) (Frame.mono (m := 132102)
                   (State.replayEnd_frame _ _ _) (by decide)) (Frame.up17 (m := 132102) (Frame.mono (m := 132102) (State.replayEnd_frame _ _ _) (by decide))
                   (by decide)))

theorem State.replayOut_frame (s : Sys2Proof.Machine.State) (a1 : Sys2Proof.Octets) : Frame 147456 s (State.replayOut s a1) := by
  unfold State.replayOut
  dsimp only
  simp only [State.mk_make]
  with_reducible exact Frame.ite (m := 147456) (Frame.of (m := 147456) (State.toHost_frame _ _) (Frame.up17 (m := 147456) (Frame.refl 147456
                   _) (by decide)) (by decide)) (Frame.up17 (m := 147456) (Frame.refl 147456 _) (by decide))

theorem State.replayPast_frame (s : Sys2Proof.Machine.State) (a1 : Sys2Proof.Machine.CanopyImage) (a2 : Sys2Proof.Machine.FeedRecord) : Frame 147458 s (State.replayPast s a1 a2) := by
  unfold State.replayPast
  dsimp only
  simp only [State.mk_make]
  with_reducible exact Frame.ite (m := 147458) (Frame.of (m := 147458) (State.replayEnd_frame _ _ _) (Frame.of (m := 147458)
                   (State.inc_frame _ _) (Frame.of (m := 147458) (State.setN_frame _ _ _) (Frame.of (m := 147458) (State.feedPast_frame _ _) (Frame.up17
                   (m := 147458) (Frame.refl 147458 _) (by decide)) (by decide)) (by decide)) (by decide)) (by decide)) (Frame.of (m := 147458)
                   (State.inc_frame _ _) (Frame.of (m := 147458) (State.setN_frame _ _ _) (Frame.of (m := 147458) (State.feedPast_frame _ _) (Frame.up17
                   (m := 147458) (Frame.refl 147458 _) (by decide)) (by decide)) (by decide)) (by decide))

theorem State.unproject_frame (a0 : Sys2Proof.Machine.State) (s : Sys2Proof.Machine.State) (a2 : Sys2Proof.Machine.TwinInputs) : Frame 66194 s (State.unproject a0 s a2) := by
  unfold State.unproject
  dsimp only
  simp only [State.mk_make]
  with_reducible exact Frame.ite (m := 66194) (Frame.mk1 (m := 66194) (Frame.refl 66194 _) (.inr rfl) (.inr rfl) (.inr rfl) (.inl
                   (by decide)) (.inr rfl) (.inr rfl) (.inl (by decide)) (.inr rfl) (.inr rfl) (.inr rfl) (.inr rfl) (.inr rfl) (.inr rfl) (.inr rfl)
                   (.inr rfl) (.inl (by decide)) (.inr rfl) (.inr rfl) (.inr rfl)) (Frame.mk1 (m := 66194) (Frame.foldl (m := 66194) (fun _ => fun _ =>
                   Frame.mono (m := 66194) (State.setO_frame _ _ _) (by decide)) (Frame.refl 66194 _)) (.inr rfl) (.inr rfl) (.inr rfl) (.inl (by decide))
                   (.inr rfl) (.inr rfl) (.inl (by decide)) (.inr rfl) (.inl (by decide)) (.inr rfl) (.inr rfl) (.inr rfl) (.inr rfl) (.inr rfl) (.inr rfl)
                   (.inl (by decide)) (.inr rfl) (.inr rfl) (.inr rfl))

theorem State.replayRun_frame (s : Sys2Proof.Machine.State) (a1 : Sys2Proof.Machine.CanopyImage) (a2 : Sys2Proof.Machine.FeedRecord) : Frame 1048542 s (State.replayRun s a1 a2).1 := by
  unfold State.replayRun
  dsimp only
  simp only [State.mk_make]
  with_reducible exact Frame.of (m := 1048542) (State.canopyTick_frame _ _) (Frame.of (m := 1048542) (State.project_frame _ _) (Frame.foldl
                   (m := 1048542) (fun _ => fun _ => Frame.mono (m := 1048542) (State.imageWrite_frame _ _) (by decide)) (Frame.mk1 (m := 1048542)
                   (Frame.refl 1048542 _) (.inl (by decide)) (.inl (by decide)) (.inr rfl) (.inr rfl) (.inr rfl) (.inr rfl) (.inr rfl) (.inr rfl) (.inr rfl)
                   (.inl (by decide)) (.inr rfl) (.inr rfl) (.inr rfl) (.inr rfl) (.inr rfl) (.inr rfl) (.inr rfl) (.inr rfl) (.inr rfl))) (by decide))
                   (by decide)

theorem State.replayTick_frame (s : Sys2Proof.Machine.State) (a1 : Sys2Proof.Machine.FeedRecord) : Frame 1048542 s (State.replayTick s a1) := by
  unfold State.replayTick
  dsimp only
  split
  · with_reducible exact Frame.refl 1048542 _
  · with_reducible exact Frame.ite (m := 1048542) (Frame.mono (m := 1048542) (State.replayEnd_frame _ _ _) (by decide)) (Frame.ite
                     (m := 1048542) (Frame.mono (m := 1048542) (State.replayEnd_frame _ _ _) (by decide)) (Frame.ite (m := 1048542) (Frame.mono
                     (m := 1048542) (State.replayEnd_frame _ _ _) (by decide)) (Frame.ite (m := 1048542) (Frame.of (m := 1048542) (State.replayEnd_frame _ _
                     _) (Frame.ite (m := 1048542) (Frame.of (m := 1048542) (State.replayDiffer_frame _ _) (Frame.mono (m := 1048542) (State.replayOut_frame _
                     _) (by decide)) (by decide)) (Frame.mono (m := 1048542) (State.replayOut_frame _ _) (by decide))) (by decide)) (Frame.of (m := 1048542)
                     (State.replayPast_frame _ _ _) (Frame.ite (m := 1048542) (Frame.of (m := 1048542) (State.replayDiffer_frame _ _) (Frame.mono
                     (m := 1048542) (State.replayOut_frame _ _) (by decide)) (by decide)) (Frame.mono (m := 1048542) (State.replayOut_frame _ _)
                     (by decide))) (by decide)))))

theorem State.replayTicks_frame (s : Sys2Proof.Machine.State) (a1 : Nat) (a2 : List Sys2Proof.Machine.FeedRecord) : Frame 1048542 s (State.replayTicks s a1 a2) := by
  induction a2 generalizing s a1 with
  | nil => cases a1 <;> exact Frame.refl _ _
  | cons v t ih =>
  cases a1 with
  | zero => exact Frame.refl _ _
  | succ n =>
  unfold State.replayTicks
  try dsimp only
  try simp only [State.mk_make]
  repeat' first
    | with_reducible apply Frame.refl
    | with_reducible assumption
    | with_reducible intro _
    | with_reducible apply Or.inr rfl
    | with_reducible apply Frame.mk1
    | with_reducible apply Frame.of (ih _ _)
    | with_reducible apply Frame.of (State.replayTick_frame _ _)
    | with_reducible apply Frame.foldl
    | with_reducible apply Frame.foldlFst
    | with_reducible refine Frame.fst (by assumption) ?_
    | with_reducible apply Frame.ite
    | with_reducible apply Frame.iteFst
    | split
    | exact Or.inl (by decide)
    | decide


theorem State.saveReplay_frame (s : Sys2Proof.Machine.State) : Frame 131072 s (State.saveReplay s) := by
  unfold State.saveReplay
  dsimp only
  simp only [State.mk_make]
  with_reducible exact Frame.up17 (m := 131072) (Frame.refl 131072 _) (by decide)

theorem State.replayW1_frame (s : Sys2Proof.Machine.State) (a1 : List Sys2Proof.Machine.FeedRecord) : Frame 1048542 s (State.replayW1 s a1) := by
  unfold State.replayW1
  dsimp only
  with_reducible exact Frame.ite (m := 1048542) (Frame.ite (m := 1048542) (Frame.of (m := 1048542) (State.replayTicks_frame _ _ _) (Frame.of
                   (m := 1048542) (State.setO_frame _ _ _) (Frame.mono (m := 1048542) (State.saveReplay_frame _) (by decide)) (by decide)) (by decide))
                   (Frame.of (m := 1048542) (State.setO_frame _ _ _) (Frame.mono (m := 1048542) (State.saveReplay_frame _) (by decide)) (by decide)))
                   (Frame.mono (m := 1048542) (State.saveReplay_frame _) (by decide))

theorem State.replayW2_frame (s : Sys2Proof.Machine.State) (a1 : List Sys2Proof.Machine.FeedRecord) : Frame 1048542 s (State.replayW2 s a1) := by
  unfold State.replayW2
  with_reducible exact Frame.mono (m := 1048542) (State.replayTicks_frame _ _ _) (by decide)

theorem State.report_frame (s : Sys2Proof.Machine.State) (a1 : Sys2Proof.Machine.FaultOperand) : Frame 1048542 s (State.report s a1) := by
  unfold State.report
  dsimp only
  simp only [State.mk_make]
  with_reducible refine Frame.ite (m := 1048542) (Frame.refl 1048542 _) (Frame.ite (m := 1048542) (Frame.ite (m := 1048542) (Frame.mono
                   (m := 1048542) (State.injConsume_frame _) (by decide)) (Frame.refl 1048542 _)) (Frame.mk1 (m := 1048542) (Frame.of (m := 1048542)
                   (State.faultReact_frame _ _ _) (Frame.mk1 (m := 1048542) (Frame.ite (m := 1048542) (Frame.mono (m := 1048542) (State.injConsume_frame _)
                   (by decide)) (Frame.refl 1048542 _)) (.inr rfl) (.inr rfl) (.inr rfl) (.inr rfl) (.inr rfl) ?_ (.inr rfl) (.inr rfl) (.inr rfl) (.inr rfl)
                   (.inr rfl) (.inr rfl) (.inr rfl) (.inr rfl) (.inr rfl) (.inr rfl) (.inr rfl) (.inr rfl) (.inr rfl)) (by decide)) (.inr rfl) (.inr rfl)
                   (.inr rfl) (.inr rfl) (.inr rfl) ?_ (.inr rfl) (.inr rfl) (.inr rfl) (.inr rfl) (.inr rfl) (.inr rfl) (.inr rfl) (.inr rfl) (.inr rfl)
                   (.inr rfl) (.inr rfl) (.inr rfl) (.inr rfl)))
  · split
    · with_reducible exact (.inl (by decide))
    · with_reducible exact (.inl (by decide))
  · split
    · with_reducible exact (.inl (by decide))
    · with_reducible exact (.inl (by decide))

theorem State.ringStart_frame (s : Sys2Proof.Machine.State) (a1 : Nat) (a2 : Sys2Proof.Machine.RingKind) (a3 : Nat) (a4 : Bool) : Frame 16384 s (State.ringStart s a1 a2 a3 a4) := by
  unfold State.ringStart
  dsimp only
  with_reducible exact Frame.of (m := 16384) (State.setRingReg_frame _ _ _ _ _ _) (Frame.foldl (m := 16384) (fun _ => fun _ => Frame.mono
                   (m := 16384) (State.setRingReg_frame _ _ _ _ _ _) (by decide)) (Frame.refl 16384 _)) (by decide)

theorem State.runInputs_frame (s : Sys2Proof.Machine.State) (a1 : Sys2Proof.Machine.TwinInputs) : Frame 745438 s (State.runInputs s a1) := by
  unfold State.runInputs
  with_reducible exact Frame.of (m := 745438) (State.unproject_frame _ _ _) (Frame.of (m := 745438) (State.canopyTick_frame _ _) (Frame.mono
                   (m := 745438) (State.project_frame _ _) (by decide)) (by decide)) (by decide)

theorem State.saveW1_frame (s : Sys2Proof.Machine.State) : Frame 131072 s (State.saveW1 s) := by
  unfold State.saveW1
  dsimp only
  simp only [State.mk_make]
  with_reducible exact Frame.up17 (m := 131072) (Frame.refl 131072 _) (by decide)

theorem State.scrubStep_frame (s : Sys2Proof.Machine.State) (a1 : Nat) (a2 : Nat) : Frame 1039838 s (State.scrubStep s a1 a2) := by
  unfold State.scrubStep
  dsimp only
  simp only [State.mk_make]
  with_reducible refine Frame.ite (m := 1039838) (Frame.of (m := 1039838) (State.inc_frame _ _) (Frame.mk1 (m := 1039838) (Frame.refl
                   1039838 _) (.inr rfl) (.inr rfl) (.inr rfl) (.inr rfl) (.inr rfl) (.inr rfl) (.inr rfl) (.inr rfl) (.inr rfl) (.inr rfl) (.inr rfl)
                   (.inr rfl) (.inr rfl) (.inr rfl) ?_ (.inr rfl) (.inr rfl) (.inr rfl) (.inr rfl)) (by decide)) (Frame.mk1 (m := 1039838) (Frame.refl
                   1039838 _) (.inr rfl) (.inr rfl) (.inr rfl) (.inr rfl) (.inr rfl) (.inr rfl) (.inr rfl) (.inr rfl) (.inr rfl) (.inr rfl) (.inr rfl)
                   (.inr rfl) (.inr rfl) (.inr rfl) ?_ (.inr rfl) (.inr rfl) (.inr rfl) (.inr rfl))
  · split
    · split
      · with_reducible exact (.inl (by decide))
      · with_reducible exact (.inl (by decide))
    · split
      · with_reducible exact (.inl (by decide))
      · with_reducible exact (.inl (by decide))
  · split
    · split
      · with_reducible exact (.inl (by decide))
      · with_reducible exact (.inl (by decide))
    · split
      · with_reducible exact (.inl (by decide))
      · with_reducible exact (.inl (by decide))

theorem State.scrubFound_frame (s : Sys2Proof.Machine.State) (a1 : Nat) (a2 : Nat) (a3 : Sys2Proof.Machine.MemError) : Frame 1039838 s (State.scrubFound s a1 a2 a3) := by
  unfold State.scrubFound
  split
  · with_reducible exact Frame.refl 1039838 _
  · with_reducible exact Frame.mono (m := 1039838) (State.memCe_frame _ _ _) (by decide)
  · with_reducible exact Frame.mono (m := 1039838) (State.memUe_frame _ _ _ _ _) (by decide)

theorem State.scrubRead_frame (s : Sys2Proof.Machine.State) (a1 : Nat) (a2 : Sys2Proof.Machine.MemError) : Frame 1039838 s (State.scrubRead s a1 a2) := by
  unfold State.scrubRead
  dsimp only
  simp only [State.mk_make]
  with_reducible refine Frame.ite (m := 1039838) (Frame.refl 1039838 _) ?_
  split
  · with_reducible refine Frame.mk1 (m := 1039838) (Frame.of (m := 1039838) (State.scrubFound_frame _ _ _ _) (Frame.up6 (m := 1039838)
                     (Frame.of (m := 1039838) (State.drew_frame _) (Frame.of (m := 1039838) (State.injConsume_frame _) (Frame.mono (m := 1039838)
                     (State.scrubStep_frame _ _ _) (by decide)) (by decide)) (by decide)) (by decide)) (by decide)) (.inr rfl) (.inr rfl) (.inr rfl)
                     (.inr rfl) (.inr rfl) ?_ (.inr rfl) (.inr rfl) (.inr rfl) (.inr rfl) (.inr rfl) (.inr rfl) (.inr rfl) (.inr rfl) (.inr rfl) (.inr rfl)
                     (.inr rfl) (.inr rfl) (.inr rfl)
    split
    · with_reducible exact (.inl (by decide))
    · with_reducible exact (.inl (by decide))
  · with_reducible exact Frame.of (m := 1039838) (State.scrubFound_frame _ _ _ _) (Frame.mono (m := 1039838) (State.scrubStep_frame _ _ _)
                     (by decide)) (by decide)

theorem State.searchDone_frame (s : Sys2Proof.Machine.State) (a1 : Nat) (a2 : Sys2Proof.Machine.Snapshot) (a3 : Int) : Frame 262 s (State.searchDone s a1 a2 a3) := by
  unfold State.searchDone
  dsimp only
  simp only [State.mk_make]
  split
  · with_reducible exact Frame.mono (m := 262) (State.setChan_frame _ _ _) (by decide)
  · with_reducible exact Frame.ite (m := 262) (Frame.ite (m := 262) (Frame.of (m := 262) (State.setChan_frame _ _ _) (Frame.of (m := 262)
                     (State.chanEnter_frame _ _ _) (Frame.up8 (m := 262) (Frame.refl 262 _) (by decide)) (by decide)) (by decide)) (Frame.of (m := 262)
                     (State.setBlob_frame _ _ _) (Frame.of (m := 262) (State.setChan_frame _ _ _) (Frame.of (m := 262) (State.chanEnter_frame _ _ _)
                     (Frame.up8 (m := 262) (Frame.refl 262 _) (by decide)) (by decide)) (by decide)) (by decide))) (Frame.mono (m := 262)
                     (State.setChan_frame _ _ _) (by decide))

theorem State.searchEnds_frame (s : Sys2Proof.Machine.State) (a1 : Nat) (a2 : Sys2Proof.Machine.Snapshot) (a3 : Int) : Frame 262 s (State.searchEnds s a1 a2 a3) := by
  unfold State.searchEnds
  dsimp only
  with_reducible refine Frame.ite (m := 262) (Frame.ite (m := 262) (Frame.refl 262 _) (Frame.of (m := 262) (State.searchDone_frame _ _ _ _)
                   (Frame.of (m := 262) (State.searchedIn_frame _ _ _) (Frame.mono (m := 262) (State.inc_frame _ _) (by decide)) (by decide)) (by decide)))
                   (Frame.ite (m := 262) ?_ (Frame.refl 262 _))
  split
  · with_reducible exact Frame.ite (m := 262) (Frame.of (m := 262) (State.detected_frame _ _ _ _ _) (Frame.of (m := 262)
                     (State.searchedIn_frame _ _ _) (Frame.mono (m := 262) (State.inc_frame _ _) (by decide)) (by decide)) (by decide)) (Frame.of (m := 262)
                     (State.searchedIn_frame _ _ _) (Frame.mono (m := 262) (State.inc_frame _ _) (by decide)) (by decide))
  · with_reducible exact Frame.of (m := 262) (State.searchedIn_frame _ _ _) (Frame.mono (m := 262) (State.inc_frame _ _) (by decide))
                     (by decide)

theorem State.selftested_frame (s : Sys2Proof.Machine.State) (a1 : Nat) (a2 : List (Fin 17)) (a3 : Nat) : Frame 776542 s (State.selftested s a1 a2 a3) := by
  unfold State.selftested
  dsimp only
  simp only [State.mk_make]
  with_reducible exact Frame.ite (m := 776542) (Frame.of (m := 776542) (State.groveFault_frame _ _) (Frame.of (m := 776542)
                   (State.setN_frame _ _ _) (Frame.foldl (m := 776542) (fun _ => fun _ => Frame.ite (m := 776542) (Frame.refl 776542 _) (Frame.mono
                   (m := 776542) (State.setO_frame _ _ _) (by decide))) (Frame.refl 776542 _)) (by decide)) (by decide)) (Frame.up15 (m := 776542) (Frame.of
                   (m := 776542) (State.setN_frame _ _ _) (Frame.foldl (m := 776542) (fun _ => fun _ => Frame.ite (m := 776542) (Frame.refl 776542 _)
                   (Frame.mono (m := 776542) (State.setO_frame _ _ _) (by decide))) (Frame.refl 776542 _)) (by decide)) (by decide))

theorem State.sentinelTake_frame (s : Sys2Proof.Machine.State) (a1 : Sys2Proof.Machine.Sentinel) : Frame 262146 s (State.sentinelTake s a1) := by
  unfold State.sentinelTake
  dsimp only
  simp only [State.mk_make]
  with_reducible exact Frame.ite (m := 262146) (Frame.up18 (m := 262146) (Frame.mono (m := 262146) (State.setN_frame _ _ _) (by decide))
                   (by decide)) (Frame.refl 262146 _)

theorem State.withOwn_frame (s : Sys2Proof.Machine.State) (a1 : Sys2Proof.Machine.CanopyState) (a2 : List (Nat × Int)) : Frame 66562 s (State.withOwn s a1 a2) := by
  unfold State.withOwn
  dsimp only
  simp only [State.mk_make]
  with_reducible exact Frame.of (m := 66562) (State.putServoObjs_frame _ _) (Frame.mk1 (m := 66562) (Frame.refl 66562 _) (.inr rfl)
                   (.inr rfl) (.inr rfl) (.inr rfl) (.inr rfl) (.inr rfl) (.inr rfl) (.inr rfl) (.inr rfl) (.inl (by decide)) (.inr rfl) (.inr rfl)
                   (.inr rfl) (.inr rfl) (.inr rfl) (.inl (by decide)) (.inr rfl) (.inr rfl) (.inr rfl)) (by decide)

theorem State.withShadow_frame (s : Sys2Proof.Machine.State) (a1 : Int) : Frame 66562 s (State.withShadow s a1) := by
  unfold State.withShadow
  dsimp only
  simp only [State.mk_make]
  with_reducible exact Frame.of (m := 66562) (State.putServoObjs_frame _ _) (Frame.mk1 (m := 66562) (Frame.refl 66562 _) (.inr rfl)
                   (.inr rfl) (.inr rfl) (.inr rfl) (.inr rfl) (.inr rfl) (.inr rfl) (.inr rfl) (.inr rfl) (.inl (by decide)) (.inr rfl) (.inr rfl)
                   (.inr rfl) (.inr rfl) (.inr rfl) (.inl (by decide)) (.inr rfl) (.inr rfl) (.inr rfl)) (by decide)

theorem State.shadowTick_frame (s : Sys2Proof.Machine.State) : Frame 745438 s (State.shadowTick s) := by
  unfold State.shadowTick
  dsimp only
  simp only [State.mk_make]
  with_reducible exact Frame.ite (m := 745438) (Frame.up16 (m := 745438) (Frame.refl 745438 _) (by decide)) (Frame.ite (m := 745438)
                   (Frame.up16 (m := 745438) (Frame.refl 745438 _) (by decide)) (Frame.mk1 (m := 745438) (Frame.of (m := 745438) (State.withOwn_frame _ _ _)
                   (Frame.of (m := 745438) (State.compareDigest_frame _ _) (Frame.of (m := 745438) (State.runInputs_frame _ _) (Frame.mono (m := 745438)
                   (State.withShadow_frame _ _) (by decide)) (by decide)) (by decide)) (by decide)) (.inr rfl) (.inr rfl) (.inr rfl) (.inr rfl) (.inr rfl)
                   (.inr rfl) (.inr rfl) (.inr rfl) (.inr rfl) (.inr rfl) (.inr rfl) (.inr rfl) (.inr rfl) (.inr rfl) (.inr rfl) (.inl (by decide)) (.inl
                   (by decide)) (.inr rfl) (.inr rfl)))

theorem State.signaling_frame (s : Sys2Proof.Machine.State) (a1 : Nat) (a2 : Nat) (a3 : Sys2Proof.Machine.RxFrame) : Frame 104466 s (State.signaling s a1 a2 a3) := by
  unfold State.signaling
  dsimp only
  simp only [State.mk_make]
  split
  · with_reducible exact Frame.mono (m := 104466) (State.itemDone_frame _ _ _) (by decide)
  · with_reducible refine Frame.ite (m := 104466) (Frame.of (m := 104466) (State.inc_frame _ _) (Frame.up16 (m := 104466) (Frame.mono
                     (m := 104466) (State.itemDone_frame _ _ _) (by decide)) (by decide)) (by decide)) (Frame.ite (m := 104466) (Frame.of (m := 104466)
                     (State.inc_frame _ _) (Frame.mono (m := 104466) (State.itemDone_frame _ _ _) (by decide)) (by decide)) (Frame.ite (m := 104466)
                     (Frame.ite (m := 104466) (Frame.of (m := 104466) (State.itemDone_frame _ _ _) ?_ (by decide)) (Frame.of (m := 104466) (State.inc_frame _
                     _) (Frame.of (m := 104466) (State.itemDone_frame _ _ _) ?_ (by decide)) (by decide))) ?_))
    · with_reducible apply Frame.foldlFst
      · with_reducible exact fun _ => fun _ => Frame.iteFst (m := 104466) (Frame.mono (m := 104466) (State.grantOne_frame _ _ _ _ _ _ _)
                         (by decide)) (Frame.iteFst (m := 104466) (Frame.iteFst (m := 104466) (Frame.mono (m := 104466) (State.cancelOne_frame _ _ _ _ _)
                         (by decide)) (Frame.refl 104466 _)) (Frame.refl 104466 _))
      · with_reducible exact Frame.refl 104466 _
    · with_reducible apply Frame.foldlFst
      · with_reducible exact fun _ => fun _ => Frame.iteFst (m := 104466) (Frame.mono (m := 104466) (State.grantOne_frame _ _ _ _ _ _ _)
                         (by decide)) (Frame.iteFst (m := 104466) (Frame.iteFst (m := 104466) (Frame.mono (m := 104466) (State.cancelOne_frame _ _ _ _ _)
                         (by decide)) (Frame.refl 104466 _)) (Frame.refl 104466 _))
      · with_reducible exact Frame.refl 104466 _
    · split
      · split
        · split
          · with_reducible refine Frame.of (m := 104466) (State.commitSession_frame _ _ _ _) (Frame.ite (m := 104466) (Frame.of
                             (m := 104466) (State.itemDone_frame _ _ _) ?_ (by decide)) (Frame.of (m := 104466) (State.inc_frame _ _) (Frame.of (m := 104466)
                             (State.itemDone_frame _ _ _) ?_ (by decide)) (by decide))) (by decide)
            · with_reducible apply Frame.foldlFst
              · with_reducible exact fun _ => fun _ => Frame.iteFst (m := 104466) (Frame.mono (m := 104466) (State.grantOne_frame _ _ _ _ _
                                 _ _) (by decide)) (Frame.iteFst (m := 104466) (Frame.iteFst (m := 104466) (Frame.mono (m := 104466) (State.cancelOne_frame _
                                 _ _ _ _) (by decide)) (Frame.refl 104466 _)) (Frame.refl 104466 _))
              · with_reducible exact Frame.refl 104466 _
            · with_reducible apply Frame.foldlFst
              · with_reducible exact fun _ => fun _ => Frame.iteFst (m := 104466) (Frame.mono (m := 104466) (State.grantOne_frame _ _ _ _ _
                                 _ _) (by decide)) (Frame.iteFst (m := 104466) (Frame.iteFst (m := 104466) (Frame.mono (m := 104466) (State.cancelOne_frame _
                                 _ _ _ _) (by decide)) (Frame.refl 104466 _)) (Frame.refl 104466 _))
              · with_reducible exact Frame.refl 104466 _
          · with_reducible refine Frame.ite (m := 104466) (Frame.of (m := 104466) (State.itemDone_frame _ _ _) ?_ (by decide)) (Frame.of
                             (m := 104466) (State.inc_frame _ _) (Frame.of (m := 104466) (State.itemDone_frame _ _ _) ?_ (by decide)) (by decide))
            · with_reducible apply Frame.foldlFst
              · with_reducible exact fun _ => fun _ => Frame.iteFst (m := 104466) (Frame.mono (m := 104466) (State.grantOne_frame _ _ _ _ _
                                 _ _) (by decide)) (Frame.iteFst (m := 104466) (Frame.iteFst (m := 104466) (Frame.mono (m := 104466) (State.cancelOne_frame _
                                 _ _ _ _) (by decide)) (Frame.refl 104466 _)) (Frame.refl 104466 _))
              · with_reducible exact Frame.refl 104466 _
            · with_reducible apply Frame.foldlFst
              · with_reducible exact fun _ => fun _ => Frame.iteFst (m := 104466) (Frame.mono (m := 104466) (State.grantOne_frame _ _ _ _ _
                                 _ _) (by decide)) (Frame.iteFst (m := 104466) (Frame.iteFst (m := 104466) (Frame.mono (m := 104466) (State.cancelOne_frame _
                                 _ _ _ _) (by decide)) (Frame.refl 104466 _)) (Frame.refl 104466 _))
              · with_reducible exact Frame.refl 104466 _
        · with_reducible refine Frame.of (m := 104466) (State.drew_frame _) (Frame.ite (m := 104466) (Frame.of (m := 104466)
                           (State.itemDone_frame _ _ _) ?_ (by decide)) (Frame.of (m := 104466) (State.inc_frame _ _) (Frame.of (m := 104466)
                           (State.itemDone_frame _ _ _) ?_ (by decide)) (by decide))) (by decide)
          · with_reducible apply Frame.foldlFst
            · with_reducible exact fun _ => fun _ => Frame.iteFst (m := 104466) (Frame.mono (m := 104466) (State.grantOne_frame _ _ _ _ _ _
                               _) (by decide)) (Frame.iteFst (m := 104466) (Frame.iteFst (m := 104466) (Frame.mono (m := 104466) (State.cancelOne_frame _ _ _
                               _ _) (by decide)) (Frame.refl 104466 _)) (Frame.refl 104466 _))
            · with_reducible exact Frame.refl 104466 _
          · with_reducible apply Frame.foldlFst
            · with_reducible exact fun _ => fun _ => Frame.iteFst (m := 104466) (Frame.mono (m := 104466) (State.grantOne_frame _ _ _ _ _ _
                               _) (by decide)) (Frame.iteFst (m := 104466) (Frame.iteFst (m := 104466) (Frame.mono (m := 104466) (State.cancelOne_frame _ _ _
                               _ _) (by decide)) (Frame.refl 104466 _)) (Frame.refl 104466 _))
            · with_reducible exact Frame.refl 104466 _
      · with_reducible refine Frame.of (m := 104466) (State.release_frame _ _ _ _ _ _) ?_ (by decide)
        split
        · split
          · with_reducible refine Frame.of (m := 104466) (State.commitSession_frame _ _ _ _) (Frame.ite (m := 104466) (Frame.of
                             (m := 104466) (State.itemDone_frame _ _ _) ?_ (by decide)) (Frame.of (m := 104466) (State.inc_frame _ _) (Frame.of (m := 104466)
                             (State.itemDone_frame _ _ _) ?_ (by decide)) (by decide))) (by decide)
            · with_reducible apply Frame.foldlFst
              · with_reducible exact fun _ => fun _ => Frame.iteFst (m := 104466) (Frame.mono (m := 104466) (State.grantOne_frame _ _ _ _ _
                                 _ _) (by decide)) (Frame.iteFst (m := 104466) (Frame.iteFst (m := 104466) (Frame.mono (m := 104466) (State.cancelOne_frame _
                                 _ _ _ _) (by decide)) (Frame.refl 104466 _)) (Frame.refl 104466 _))
              · with_reducible exact Frame.refl 104466 _
            · with_reducible apply Frame.foldlFst
              · with_reducible exact fun _ => fun _ => Frame.iteFst (m := 104466) (Frame.mono (m := 104466) (State.grantOne_frame _ _ _ _ _
                                 _ _) (by decide)) (Frame.iteFst (m := 104466) (Frame.iteFst (m := 104466) (Frame.mono (m := 104466) (State.cancelOne_frame _
                                 _ _ _ _) (by decide)) (Frame.refl 104466 _)) (Frame.refl 104466 _))
              · with_reducible exact Frame.refl 104466 _
          · with_reducible refine Frame.ite (m := 104466) (Frame.of (m := 104466) (State.itemDone_frame _ _ _) ?_ (by decide)) (Frame.of
                             (m := 104466) (State.inc_frame _ _) (Frame.of (m := 104466) (State.itemDone_frame _ _ _) ?_ (by decide)) (by decide))
            · with_reducible apply Frame.foldlFst
              · with_reducible exact fun _ => fun _ => Frame.iteFst (m := 104466) (Frame.mono (m := 104466) (State.grantOne_frame _ _ _ _ _
                                 _ _) (by decide)) (Frame.iteFst (m := 104466) (Frame.iteFst (m := 104466) (Frame.mono (m := 104466) (State.cancelOne_frame _
                                 _ _ _ _) (by decide)) (Frame.refl 104466 _)) (Frame.refl 104466 _))
              · with_reducible exact Frame.refl 104466 _
            · with_reducible apply Frame.foldlFst
              · with_reducible exact fun _ => fun _ => Frame.iteFst (m := 104466) (Frame.mono (m := 104466) (State.grantOne_frame _ _ _ _ _
                                 _ _) (by decide)) (Frame.iteFst (m := 104466) (Frame.iteFst (m := 104466) (Frame.mono (m := 104466) (State.cancelOne_frame _
                                 _ _ _ _) (by decide)) (Frame.refl 104466 _)) (Frame.refl 104466 _))
              · with_reducible exact Frame.refl 104466 _
        · with_reducible refine Frame.of (m := 104466) (State.drew_frame _) (Frame.ite (m := 104466) (Frame.of (m := 104466)
                           (State.itemDone_frame _ _ _) ?_ (by decide)) (Frame.of (m := 104466) (State.inc_frame _ _) (Frame.of (m := 104466)
                           (State.itemDone_frame _ _ _) ?_ (by decide)) (by decide))) (by decide)
          · with_reducible apply Frame.foldlFst
            · with_reducible exact fun _ => fun _ => Frame.iteFst (m := 104466) (Frame.mono (m := 104466) (State.grantOne_frame _ _ _ _ _ _
                               _) (by decide)) (Frame.iteFst (m := 104466) (Frame.iteFst (m := 104466) (Frame.mono (m := 104466) (State.cancelOne_frame _ _ _
                               _ _) (by decide)) (Frame.refl 104466 _)) (Frame.refl 104466 _))
            · with_reducible exact Frame.refl 104466 _
          · with_reducible apply Frame.foldlFst
            · with_reducible exact fun _ => fun _ => Frame.iteFst (m := 104466) (Frame.mono (m := 104466) (State.grantOne_frame _ _ _ _ _ _
                               _) (by decide)) (Frame.iteFst (m := 104466) (Frame.iteFst (m := 104466) (Frame.mono (m := 104466) (State.cancelOne_frame _ _ _
                               _ _) (by decide)) (Frame.refl 104466 _)) (Frame.refl 104466 _))
            · with_reducible exact Frame.refl 104466 _

theorem State.smoothLeg_frame (s : Sys2Proof.Machine.State) (a1 : Bool) (a2 : Sys2Proof.Machine.Leg) : Frame 256 s (State.smoothLeg s a1 a2) := by
  unfold State.smoothLeg
  dsimp only
  with_reducible exact Frame.mono (m := 256) (State.setChan_frame _ _ _) (by decide)

theorem State.smoothPair_frame (s : Sys2Proof.Machine.State) (a1 : Sys2Proof.Machine.Measurement) : Frame 256 s (State.smoothPair s a1) := by
  unfold State.smoothPair
  dsimp only
  with_reducible exact Frame.foldl (m := 256) (fun _ => fun _ => Frame.mono (m := 256) (State.smoothLeg_frame _ _ _) (by decide)) (Frame.ite
                   (m := 256) (Frame.foldl (m := 256) (fun _ => fun _ => Frame.mono (m := 256) (State.setChan_frame _ _ _) (by decide)) (Frame.refl 256 _))
                   (Frame.refl 256 _))

theorem State.solTransition_frame (s : Sys2Proof.Machine.State) (a1 : Bool) (a2 : Bool) : Frame 258 s (State.solTransition s a1 a2) := by
  unfold State.solTransition
  dsimp only
  simp only [State.mk_make]
  with_reducible exact Frame.ite (m := 258) (Frame.ite (m := 258) (Frame.up8 (m := 258) (Frame.refl 258 _) (by decide)) (Frame.up8
                   (m := 258) (Frame.of (m := 258) (State.setO_frame _ _ _) (Frame.up8 (m := 258) (Frame.refl 258 _) (by decide)) (by decide)) (by decide)))
                   (Frame.ite (m := 258) (Frame.ite (m := 258) (Frame.up8 (m := 258) (Frame.of (m := 258) (State.setO_frame _ _ _) (Frame.up8 (m := 258)
                   (Frame.refl 258 _) (by decide)) (by decide)) (by decide)) (Frame.ite (m := 258) (Frame.of (m := 258) (State.inc_frame _ _) (Frame.up8
                   (m := 258) (Frame.of (m := 258) (State.setO_frame _ _ _) (Frame.up8 (m := 258) (Frame.refl 258 _) (by decide)) (by decide)) (by decide))
                   (by decide)) (Frame.ite (m := 258) (Frame.ite (m := 258) (Frame.up8 (m := 258) (Frame.refl 258 _) (by decide)) (Frame.up8 (m := 258)
                   (Frame.of (m := 258) (State.setO_frame _ _ _) (Frame.up8 (m := 258) (Frame.refl 258 _) (by decide)) (by decide)) (by decide))) (Frame.ite
                   (m := 258) (Frame.ite (m := 258) (Frame.up8 (m := 258) (Frame.of (m := 258) (State.setO_frame _ _ _) (Frame.up8 (m := 258) (Frame.refl 258
                   _) (by decide)) (by decide)) (by decide)) (Frame.up8 (m := 258) (Frame.refl 258 _) (by decide))) (Frame.ite (m := 258) (Frame.ite
                   (m := 258) (Frame.up8 (m := 258) (Frame.refl 258 _) (by decide)) (Frame.of (m := 258) (State.posBegin_frame _) (Frame.up8 (m := 258)
                   (Frame.of (m := 258) (State.setO_frame _ _ _) (Frame.up8 (m := 258) (Frame.refl 258 _) (by decide)) (by decide)) (by decide))
                   (by decide))) (Frame.ite (m := 258) (Frame.ite (m := 258) (Frame.up8 (m := 258) (Frame.of (m := 258) (State.setO_frame _ _ _) (Frame.up8
                   (m := 258) (Frame.refl 258 _) (by decide)) (by decide)) (by decide)) (Frame.up8 (m := 258) (Frame.refl 258 _) (by decide))) (Frame.up8
                   (m := 258) (Frame.refl 258 _) (by decide)))))))) (Frame.up8 (m := 258) (Frame.refl 258 _) (by decide)))

theorem State.solution_frame (s : Sys2Proof.Machine.State) (a1 : Sys2Proof.Machine.GladeEpoch) : Frame 262 s (State.solution s a1) := by
  unfold State.solution
  dsimp only
  simp only [State.mk_make]
  with_reducible refine Frame.mk1 (m := 262) (Frame.of (m := 262) (State.inc_frame _ _) (Frame.of (m := 262) (State.setBlob_frame _ _ _)
                   (Frame.of (m := 262) (State.posAdd_frame _ _) (Frame.of (m := 262) (State.solTransition_frame _ _ _) (Frame.ite (m := 262) (Frame.foldl
                   (m := 262) (fun _ => fun _ => Frame.mono (m := 262) (State.setO_frame _ _ _) (by decide)) (Frame.ite (m := 262) (Frame.of (m := 262)
                   (State.inc_frame _ _) (Frame.up8 (m := 262) (Frame.of (m := 262) (State.addN_frame _ _ _) (Frame.foldl (m := 262) (fun _ => fun _ =>
                   Frame.mono (m := 262) (State.smoothPair_frame _ _) (by decide)) (Frame.refl 262 _)) (by decide)) (by decide)) (by decide)) (Frame.up8
                   (m := 262) (Frame.of (m := 262) (State.addN_frame _ _ _) (Frame.foldl (m := 262) (fun _ => fun _ => Frame.mono (m := 262)
                   (State.smoothPair_frame _ _) (by decide)) (Frame.refl 262 _)) (by decide)) (by decide)))) (Frame.ite (m := 262) (Frame.of (m := 262)
                   (State.inc_frame _ _) (Frame.up8 (m := 262) (Frame.of (m := 262) (State.addN_frame _ _ _) (Frame.foldl (m := 262) (fun _ => fun _ =>
                   Frame.mono (m := 262) (State.smoothPair_frame _ _) (by decide)) (Frame.refl 262 _)) (by decide)) (by decide)) (by decide)) (Frame.up8
                   (m := 262) (Frame.of (m := 262) (State.addN_frame _ _ _) (Frame.foldl (m := 262) (fun _ => fun _ => Frame.mono (m := 262)
                   (State.smoothPair_frame _ _) (by decide)) (Frame.refl 262 _)) (by decide)) (by decide)))) (by decide)) (by decide)) (by decide))
                   (by decide)) (.inr rfl) (.inr rfl) (.inr rfl) (.inr rfl) (.inr rfl) (.inr rfl) (.inr rfl) ?_ (.inr rfl) (.inr rfl) (.inr rfl) (.inr rfl)
                   (.inr rfl) (.inr rfl) (.inr rfl) (.inr rfl) (.inr rfl) (.inr rfl) (.inr rfl)
  split
  · split
    · split
      · split
        · split
          · split
            · with_reducible exact (.inl (by decide))
            · with_reducible exact (.inl (by decide))
          · split
            · with_reducible exact (.inl (by decide))
            · with_reducible exact (.inl (by decide))
        · split
          · split
            · with_reducible exact (.inl (by decide))
            · with_reducible exact (.inl (by decide))
          · split
            · with_reducible exact (.inl (by decide))
            · with_reducible exact (.inl (by decide))
      · split
        · split
          · with_reducible exact (.inl (by decide))
          · with_reducible exact (.inl (by decide))
        · split
          · with_reducible exact (.inl (by decide))
          · with_reducible exact (.inl (by decide))
    · split
      · split
        · split
          · split
            · with_reducible exact (.inl (by decide))
            · with_reducible exact (.inl (by decide))
          · split
            · with_reducible exact (.inl (by decide))
            · with_reducible exact (.inl (by decide))
        · split
          · split
            · with_reducible exact (.inl (by decide))
            · with_reducible exact (.inl (by decide))
          · split
            · with_reducible exact (.inl (by decide))
            · with_reducible exact (.inl (by decide))
      · split
        · split
          · with_reducible exact (.inl (by decide))
          · with_reducible exact (.inl (by decide))
        · split
          · with_reducible exact (.inl (by decide))
          · with_reducible exact (.inl (by decide))
  · split
    · split
      · split
        · split
          · split
            · with_reducible exact (.inl (by decide))
            · with_reducible exact (.inl (by decide))
          · split
            · with_reducible exact (.inl (by decide))
            · with_reducible exact (.inl (by decide))
        · split
          · split
            · with_reducible exact (.inl (by decide))
            · with_reducible exact (.inl (by decide))
          · split
            · with_reducible exact (.inl (by decide))
            · with_reducible exact (.inl (by decide))
      · split
        · split
          · with_reducible exact (.inl (by decide))
          · with_reducible exact (.inl (by decide))
        · split
          · with_reducible exact (.inl (by decide))
          · with_reducible exact (.inl (by decide))
    · split
      · split
        · split
          · split
            · with_reducible exact (.inl (by decide))
            · with_reducible exact (.inl (by decide))
          · split
            · with_reducible exact (.inl (by decide))
            · with_reducible exact (.inl (by decide))
        · split
          · split
            · with_reducible exact (.inl (by decide))
            · with_reducible exact (.inl (by decide))
          · split
            · with_reducible exact (.inl (by decide))
            · with_reducible exact (.inl (by decide))
      · split
        · split
          · with_reducible exact (.inl (by decide))
          · with_reducible exact (.inl (by decide))
        · split
          · with_reducible exact (.inl (by decide))
          · with_reducible exact (.inl (by decide))

theorem State.solveOwn_frame (s : Sys2Proof.Machine.State) : Frame 744798 s (State.solveOwn s) := by
  unfold State.solveOwn
  dsimp only
  simp only [State.mk_make]
  with_reducible exact Frame.of (m := 744798) (State.coreBound_frame _) (Frame.of (m := 744798) (State.publishCoast_frame _) (Frame.of
                   (m := 744798) (State.ensembleSlot_frame _) (Frame.of (m := 744798) (State.servoTick_frame _) (Frame.ite (m := 744798) (Frame.of
                   (m := 744798) (State.requestFirst_frame _) (Frame.of (m := 744798) (State.takeObservations_frame _) (Frame.up4 (m := 744798) (Frame.refl
                   744798 _) (by decide)) (by decide)) (by decide)) (Frame.of (m := 744798) (State.takeObservations_frame _) (Frame.up4 (m := 744798)
                   (Frame.refl 744798 _) (by decide)) (by decide))) (by decide)) (by decide)) (by decide)) (by decide)

theorem State.solveShadow_frame (s : Sys2Proof.Machine.State) : Frame 745438 s (State.solveShadow s) := by
  unfold State.solveShadow
  dsimp only
  simp only [State.mk_make]
  with_reducible exact Frame.ite (m := 745438) (Frame.mono (m := 745438) (State.shadowTick_frame _) (by decide)) (Frame.of (m := 745438)
                   (State.coreBound_frame _) (Frame.of (m := 745438) (State.publishCoast_frame _) (Frame.of (m := 745438) (State.servoTick_frame _)
                   (Frame.ite (m := 745438) (Frame.of (m := 745438) (State.requestFirst_frame _) (Frame.of (m := 745438) (State.takeObservations_frame _)
                   (Frame.up4 (m := 745438) (Frame.foldl (m := 745438) (fun _ => fun _ => Frame.mono (m := 745438) (State.ownRecord_frame _ _) (by decide))
                   (Frame.mono (m := 745438) (State.shadowTick_frame _) (by decide))) (by decide)) (by decide)) (by decide)) (Frame.of (m := 745438)
                   (State.takeObservations_frame _) (Frame.up4 (m := 745438) (Frame.foldl (m := 745438) (fun _ => fun _ => Frame.mono (m := 745438)
                   (State.ownRecord_frame _ _) (by decide)) (Frame.mono (m := 745438) (State.shadowTick_frame _) (by decide))) (by decide)) (by decide)))
                   (by decide)) (by decide)) (by decide))

theorem State.solveTake_frame (s : Sys2Proof.Machine.State) : Frame 745438 s (State.solveTake s) := by
  unfold State.solveTake
  dsimp only
  simp only [State.mk_make]
  with_reducible exact Frame.ite (m := 745438) (Frame.mono (m := 745438) (State.shadowTick_frame _) (by decide)) (Frame.of (m := 745438)
                   (State.sendAgree_frame _ _) (Frame.up17 (m := 745438) (Frame.of (m := 745438) (State.coastTick_frame _) (Frame.of (m := 745438)
                   (State.saveW1_frame _) (Frame.of (m := 745438) (State.finishTake_frame _) (Frame.mono (m := 745438) (State.shadowTick_frame _)
                   (by decide)) (by decide)) (by decide)) (by decide)) (by decide)) (by decide))

theorem State.stage_frame (s : Sys2Proof.Machine.State) (a1 : Nat) (a2 : Sys2Proof.Octets) : Frame 131072 s (State.stage s a1 a2) := by
  unfold State.stage
  dsimp only
  simp only [State.mk_make]
  with_reducible exact Frame.ite (m := 131072) (Frame.refl 131072 _) (Frame.up17 (m := 131072) (Frame.refl 131072 _) (by decide))

theorem State.stageInputs_frame (s : Sys2Proof.Machine.State) : Frame 131072 s (State.stageInputs s) := by
  unfold State.stageInputs
  dsimp only
  simp only [State.mk_make]
  with_reducible refine Frame.mk1 (m := 131072) (Frame.of (m := 131072) (State.stage_frame _ _ _) (Frame.of (m := 131072) (State.stage_frame
                   _ _ _) (Frame.of (m := 131072) (State.stage_frame _ _ _) (Frame.mono (m := 131072) (State.stage_frame _ _ _) (by decide)) (by decide))
                   (by decide)) (by decide)) (.inr rfl) (.inr rfl) (.inr rfl) (.inr rfl) (.inr rfl) (.inr rfl) (.inr rfl) (.inr rfl) (.inr rfl) (.inr rfl)
                   (.inr rfl) (.inr rfl) (.inr rfl) (.inr rfl) (.inr rfl) (.inr rfl) ?_ (.inr rfl) (.inr rfl)
  split
  · with_reducible exact (.inl (by decide))
  · with_reducible exact (.inl (by decide))

theorem State.stageOutputs_frame (s : Sys2Proof.Machine.State) (a1 : Nat) (a2 : Bool) : Frame 131072 s (State.stageOutputs s a1 a2) := by
  unfold State.stageOutputs
  with_reducible exact Frame.of (m := 131072) (State.stage_frame _ _ _) (Frame.mono (m := 131072) (State.stage_frame _ _ _) (by decide))
                   (by decide)

theorem State.solve_frame (s : Sys2Proof.Machine.State) : Frame 745438 s (State.solve s) := by
  unfold State.solve
  dsimp only
  simp only [State.mk_make]
  with_reducible exact Frame.ite (m := 745438) (Frame.of (m := 745438) (State.solveTake_frame _) (Frame.of (m := 745438)
                   (State.stageInputs_frame _) (Frame.up16 (m := 745438) (Frame.of (m := 745438) (State.saveW1_frame _) (Frame.mono (m := 745438)
                   (State.gladeObs_frame _) (by decide)) (by decide)) (by decide)) (by decide)) (by decide)) (Frame.ite (m := 745438) (Frame.ite
                   (m := 745438) (Frame.of (m := 745438) (State.solveShadow_frame _) (Frame.of (m := 745438) (State.stageInputs_frame _) (Frame.up16
                   (m := 745438) (Frame.of (m := 745438) (State.saveW1_frame _) (Frame.mono (m := 745438) (State.gladeObs_frame _) (by decide)) (by decide))
                   (by decide)) (by decide)) (by decide)) (Frame.of (m := 745438) (State.solveOwn_frame _) (Frame.of (m := 745438) (State.stageInputs_frame
                   _) (Frame.up16 (m := 745438) (Frame.of (m := 745438) (State.saveW1_frame _) (Frame.mono (m := 745438) (State.gladeObs_frame _)
                   (by decide)) (by decide)) (by decide)) (by decide)) (by decide))) (Frame.of (m := 745438) (State.sendAgree_frame _ _) (Frame.of
                   (m := 745438) (State.stageOutputs_frame _ _ _) (Frame.ite (m := 745438) (Frame.of (m := 745438) (State.solveShadow_frame _) (Frame.of
                   (m := 745438) (State.stageInputs_frame _) (Frame.up16 (m := 745438) (Frame.of (m := 745438) (State.saveW1_frame _) (Frame.mono
                   (m := 745438) (State.gladeObs_frame _) (by decide)) (by decide)) (by decide)) (by decide)) (by decide)) (Frame.of (m := 745438)
                   (State.solveOwn_frame _) (Frame.of (m := 745438) (State.stageInputs_frame _) (Frame.up16 (m := 745438) (Frame.of (m := 745438)
                   (State.saveW1_frame _) (Frame.mono (m := 745438) (State.gladeObs_frame _) (by decide)) (by decide)) (by decide)) (by decide))
                   (by decide))) (by decide)) (by decide)))

end Sys2Proof.Machine
end

