-- ==== Sys2Proof/Laws/Frames13.lean ====
section
/-!
SUPPORT. The frames of operations and commands, part 13.
-/

namespace Sys2Proof.Machine

theorem State.spoofSecond_frame (s : Sys2Proof.Machine.State) (a1 : List Sys2Proof.Machine.SpoofSat) : Frame 258 s (State.spoofSecond s a1) := by
  unfold State.spoofSecond
  dsimp only
  simp only [State.mk_make]
  with_reducible refine Frame.ite (m := 258) (Frame.mk1 (m := 258) (Frame.of (m := 258) (State.setO_frame _ _ _) (Frame.of (m := 258)
                   (State.inc_frame _ _) (Frame.mk1 (m := 258) (Frame.ite (m := 258) (Frame.refl 258 _) (Frame.mono (m := 258) (State.spoofBreak_frame _)
                   (by decide))) (.inr rfl) (.inr rfl) (.inr rfl) (.inr rfl) (.inr rfl) (.inr rfl) (.inr rfl) ?_ (.inr rfl) (.inr rfl) (.inr rfl) (.inr rfl)
                   (.inr rfl) (.inr rfl) (.inr rfl) (.inr rfl) (.inr rfl) (.inr rfl) (.inr rfl)) (by decide)) (by decide)) (.inr rfl) (.inr rfl) (.inr rfl)
                   (.inr rfl) (.inr rfl) (.inr rfl) (.inr rfl) ?_ (.inr rfl) (.inr rfl) (.inr rfl) (.inr rfl) (.inr rfl) (.inr rfl) (.inr rfl) (.inr rfl)
                   (.inr rfl) (.inr rfl) (.inr rfl)) (Frame.ite (m := 258) (Frame.of (m := 258) (State.inc_frame _ _) (Frame.of (m := 258) (State.setF_frame
                   _ _ _) (Frame.mk1 (m := 258) (Frame.of (m := 258) (State.setO_frame _ _ _) (Frame.mk1 (m := 258) (Frame.ite (m := 258) (Frame.refl 258 _)
                   (Frame.mono (m := 258) (State.spoofBreak_frame _) (by decide))) (.inr rfl) (.inr rfl) (.inr rfl) (.inr rfl) (.inr rfl) (.inr rfl)
                   (.inr rfl) ?_ (.inr rfl) (.inr rfl) (.inr rfl) (.inr rfl) (.inr rfl) (.inr rfl) (.inr rfl) (.inr rfl) (.inr rfl) (.inr rfl) (.inr rfl))
                   (by decide)) (.inr rfl) (.inr rfl) (.inr rfl) (.inr rfl) (.inr rfl) (.inr rfl) (.inr rfl) ?_ (.inr rfl) (.inr rfl) (.inr rfl) (.inr rfl)
                   (.inr rfl) (.inr rfl) (.inr rfl) (.inr rfl) (.inr rfl) (.inr rfl) (.inr rfl)) (by decide)) (by decide)) (Frame.ite (m := 258) (Frame.of
                   (m := 258) (State.setF_frame _ _ _) (Frame.mk1 (m := 258) (Frame.of (m := 258) (State.setO_frame _ _ _) (Frame.mk1 (m := 258) (Frame.ite
                   (m := 258) (Frame.refl 258 _) (Frame.mono (m := 258) (State.spoofBreak_frame _) (by decide))) (.inr rfl) (.inr rfl) (.inr rfl) (.inr rfl)
                   (.inr rfl) (.inr rfl) (.inr rfl) ?_ (.inr rfl) (.inr rfl) (.inr rfl) (.inr rfl) (.inr rfl) (.inr rfl) (.inr rfl) (.inr rfl) (.inr rfl)
                   (.inr rfl) (.inr rfl)) (by decide)) (.inr rfl) (.inr rfl) (.inr rfl) (.inr rfl) (.inr rfl) (.inr rfl) (.inr rfl) ?_ (.inr rfl) (.inr rfl)
                   (.inr rfl) (.inr rfl) (.inr rfl) (.inr rfl) (.inr rfl) (.inr rfl) (.inr rfl) (.inr rfl) (.inr rfl)) (by decide)) (Frame.mk1 (m := 258)
                   (Frame.of (m := 258) (State.setO_frame _ _ _) (Frame.mk1 (m := 258) (Frame.ite (m := 258) (Frame.refl 258 _) (Frame.mono (m := 258)
                   (State.spoofBreak_frame _) (by decide))) (.inr rfl) (.inr rfl) (.inr rfl) (.inr rfl) (.inr rfl) (.inr rfl) (.inr rfl) ?_ (.inr rfl)
                   (.inr rfl) (.inr rfl) (.inr rfl) (.inr rfl) (.inr rfl) (.inr rfl) (.inr rfl) (.inr rfl) (.inr rfl) (.inr rfl)) (by decide)) (.inr rfl)
                   (.inr rfl) (.inr rfl) (.inr rfl) (.inr rfl) (.inr rfl) (.inr rfl) ?_ (.inr rfl) (.inr rfl) (.inr rfl) (.inr rfl) (.inr rfl) (.inr rfl)
                   (.inr rfl) (.inr rfl) (.inr rfl) (.inr rfl) (.inr rfl))))
  · split
    · with_reducible exact (.inl (by decide))
    · with_reducible exact (.inl (by decide))
  · split
    · with_reducible exact (.inl (by decide))
    · with_reducible exact (.inl (by decide))
  · split
    · with_reducible exact (.inl (by decide))
    · with_reducible exact (.inl (by decide))
  · split
    · split
      · split
        · with_reducible exact (.inl (by decide))
        · with_reducible exact (.inl (by decide))
      · split
        · with_reducible exact (.inl (by decide))
        · with_reducible exact (.inl (by decide))
    · split
      · split
        · with_reducible exact (.inl (by decide))
        · with_reducible exact (.inl (by decide))
      · split
        · with_reducible exact (.inl (by decide))
        · with_reducible exact (.inl (by decide))
  · split
    · with_reducible exact (.inl (by decide))
    · with_reducible exact (.inl (by decide))
  · split
    · split
      · split
        · with_reducible exact (.inl (by decide))
        · with_reducible exact (.inl (by decide))
      · split
        · with_reducible exact (.inl (by decide))
        · with_reducible exact (.inl (by decide))
    · split
      · split
        · with_reducible exact (.inl (by decide))
        · with_reducible exact (.inl (by decide))
      · split
        · with_reducible exact (.inl (by decide))
        · with_reducible exact (.inl (by decide))
  · split
    · with_reducible exact (.inl (by decide))
    · with_reducible exact (.inl (by decide))
  · split
    · split
      · split
        · with_reducible exact (.inl (by decide))
        · with_reducible exact (.inl (by decide))
      · split
        · with_reducible exact (.inl (by decide))
        · with_reducible exact (.inl (by decide))
    · split
      · split
        · with_reducible exact (.inl (by decide))
        · with_reducible exact (.inl (by decide))
      · split
        · with_reducible exact (.inl (by decide))
        · with_reducible exact (.inl (by decide))

theorem State.stamperRelock_frame (s : Sys2Proof.Machine.State) (a1 : Nat) : Frame 130 s (State.stamperRelock s a1) := by
  unfold State.stamperRelock
  dsimp only
  with_reducible exact Frame.of (m := 130) (State.setStamper_frame _ _ _) (Frame.mono (m := 130) (State.setStState_frame _ _ _) (by decide))
                   (by decide)

theorem State.stampersOff_frame (s : Sys2Proof.Machine.State) : Frame 130 s (State.stampersOff s) := by
  unfold State.stampersOff
  with_reducible exact Frame.foldl (m := 130) (fun _ => fun _ => Frame.mono (m := 130) (State.portOff_frame _ _) (by decide)) (Frame.refl
                   130 _)

theorem State.startEngine_frame (a0 : Nat) (s : Sys2Proof.Machine.State) : Frame 26626 s (State.startEngine a0 s) := by
  induction a0 generalizing s with
  | zero => exact Frame.refl _ _
  | succ n ih =>
  unfold State.startEngine
  try dsimp only
  try simp only [State.mk_make]
  repeat' first
    | with_reducible apply Frame.refl
    | with_reducible assumption
    | with_reducible intro _
    | with_reducible apply Or.inr rfl
    | with_reducible apply Frame.mk1
    | with_reducible apply Frame.of (ih _)
    | with_reducible apply Frame.of (State.markServing_frame _ _)
    | with_reducible apply Frame.of (State.vaultAnswer_frame _ _ _ _ _)
    | with_reducible apply Frame.foldl
    | with_reducible apply Frame.foldlFst
    | with_reducible refine Frame.fst (by assumption) ?_
    | with_reducible apply Frame.ite
    | with_reducible apply Frame.iteFst
    | split
    | exact Or.inl (by decide)
    | decide


theorem State.steerWrite_frame (s : Sys2Proof.Machine.State) (a1 : Nat) (a2 : Int) : Frame 745310 s (State.steerWrite s a1 a2) := by
  unfold State.steerWrite
  dsimp only
  with_reducible exact Frame.ite (m := 745310) (Frame.of (m := 745310) (State.steerSent_frame _ _) (Frame.mono (m := 745310)
                   (State.setDst_frame _ _ _) (by decide)) (by decide)) (Frame.ite (m := 745310) (Frame.of (m := 745310) (State.steerFail_frame _ _)
                   (Frame.of (m := 745310) (State.inc_frame _ _) (Frame.mono (m := 745310) (State.setDst_frame _ _ _) (by decide)) (by decide)) (by decide))
                   (Frame.of (m := 745310) (State.setI2c_frame _ _ _) (Frame.mono (m := 745310) (State.setDst_frame _ _ _) (by decide)) (by decide)))

theorem State.steerInterval_frame (s : Sys2Proof.Machine.State) (a1 : Nat) : Frame 745310 s (State.steerInterval s a1) := by
  unfold State.steerInterval
  dsimp only
  with_reducible exact Frame.ite (m := 745310) (Frame.refl 745310 _) (Frame.ite (m := 745310) (Frame.mono (m := 745310) (State.setDst_frame
                   _ _ _) (by decide)) (Frame.of (m := 745310) (State.steerWrite_frame _ _ _) (Frame.of (m := 745310) (State.setDst_frame _ _ _) (Frame.mono
                   (m := 745310) (State.setDst_frame _ _ _) (by decide)) (by decide)) (by decide)))

theorem State.stepLost_frame (s : Sys2Proof.Machine.State) : Frame 1558 s (State.stepLost s) := by
  unfold State.stepLost
  dsimp only
  simp only [State.mk_make]
  with_reducible exact Frame.up9 (m := 1558) (Frame.mono (m := 1558) (State.stepUnmeasured_frame _) (by decide)) (by decide)

theorem State.surveyDone_frame (s : Sys2Proof.Machine.State) (a1 : Sys2Proof.Machine.SurveyResult) : Frame 262406 s (State.surveyDone s a1) := by
  unfold State.surveyDone
  dsimp only
  simp only [State.mk_make]
  with_reducible refine Frame.mk1 (m := 262406) (Frame.of (m := 262406) (State.solCalChange_frame _) (Frame.of (m := 262406)
                   (State.setO_frame _ _ _) (Frame.of (m := 262406) (State.setO_frame _ _ _) (Frame.foldl (m := 262406) (fun _ => fun _ => Frame.mono
                   (m := 262406) (State.setBlob_frame _ _ _) (by decide)) (Frame.foldl (m := 262406) (fun _ => fun _ => ?_) (Frame.refl 262406 _)))
                   (by decide)) (by decide)) (by decide)) (.inr rfl) (.inr rfl) (.inr rfl) (.inr rfl) (.inr rfl) (.inr rfl) (.inr rfl) (.inl (by decide))
                   (.inr rfl) (.inr rfl) (.inr rfl) (.inr rfl) (.inr rfl) (.inr rfl) (.inr rfl) (.inr rfl) (.inr rfl) (.inl (by decide)) (.inr rfl)
  split
  · with_reducible exact Frame.ite (m := 262406) (Frame.mono (m := 262406) (State.setBlob_frame _ _ _) (by decide)) (Frame.refl 262406 _)
  · with_reducible exact Frame.refl 262406 _

theorem State.surveySecond_frame (s : Sys2Proof.Machine.State) (a1 : Sys2Proof.Machine.GladeEpoch) : Frame 258 s (State.surveySecond s a1) := by
  unfold State.surveySecond
  dsimp only
  simp only [State.mk_make]
  with_reducible exact Frame.ite (m := 258) (Frame.up8 (m := 258) (Frame.mono (m := 258) (State.inc_frame _ _) (by decide)) (by decide))
                   (Frame.refl 258 _)

theorem State.sweepOne_frame (s : Sys2Proof.Machine.State) : Frame 4096 s (State.sweepOne s) := by
  unfold State.sweepOne
  dsimp only
  simp only [State.mk_make]
  with_reducible refine Frame.mk1 (m := 4096) ?_ (.inr rfl) (.inr rfl) (.inr rfl) (.inr rfl) (.inr rfl) (.inr rfl) (.inr rfl) (.inr rfl)
                   (.inr rfl) (.inr rfl) (.inr rfl) ?_ (.inr rfl) (.inr rfl) (.inr rfl) (.inr rfl) (.inr rfl) (.inr rfl) (.inr rfl)
  · split
    · with_reducible exact Frame.mono (m := 4096) (State.runBucket_frame _ _ _ _ _) (by decide)
    · with_reducible exact Frame.refl 4096 _
  · split
    · with_reducible exact (.inl (by decide))
    · with_reducible exact (.inl (by decide))

theorem State.takeEfc_frame (s : Sys2Proof.Machine.State) (a1 : Nat) : Frame 2 s (State.takeEfc s a1) := by
  unfold State.takeEfc
  dsimp only
  split
  · with_reducible exact Frame.refl 2 _
  · with_reducible exact Frame.ite (m := 2) (Frame.of (m := 2) (State.setO_frame _ _ _) (Frame.mono (m := 2) (State.setO_frame _ _ _)
                     (by decide)) (by decide)) (Frame.refl 2 _)

theorem State.switchOwn_frame (s : Sys2Proof.Machine.State) (a1 : Nat) : Frame 66050 s (State.switchOwn s a1) := by
  unfold State.switchOwn
  dsimp only
  simp only [State.mk_make]
  split
  · with_reducible exact Frame.refl 66050 _
  · with_reducible exact Frame.ite (m := 66050) (Frame.foldl (m := 66050) (fun _ => fun _ => Frame.ite (m := 66050) (Frame.mono (m := 66050)
                     (State.setOut_frame _ _ _) (by decide)) (Frame.refl 66050 _)) (Frame.foldl (m := 66050) (fun _ => fun _ => Frame.mono (m := 66050)
                     (State.takeEfc_frame _ _) (by decide)) (Frame.of (m := 66050) (State.addN_frame _ _ _) (Frame.of (m := 66050) (State.setF_frame _ _ _)
                     (Frame.up16 (m := 66050) (Frame.refl 66050 _) (by decide)) (by decide)) (by decide)))) (Frame.ite (m := 66050) (Frame.of (m := 66050)
                     (State.addN_frame _ _ _) (Frame.of (m := 66050) (State.setF_frame _ _ _) (Frame.up16 (m := 66050) (Frame.refl 66050 _) (by decide))
                     (by decide)) (by decide)) (Frame.foldl (m := 66050) (fun _ => fun _ => Frame.mono (m := 66050) (State.setO_frame _ _ _) (by decide))
                     (Frame.foldl (m := 66050) (fun _ => fun _ => Frame.ite (m := 66050) (Frame.mono (m := 66050) (State.setOut_frame _ _ _) (by decide))
                     (Frame.refl 66050 _)) (Frame.of (m := 66050) (State.addN_frame _ _ _) (Frame.of (m := 66050) (State.setF_frame _ _ _) (Frame.up16
                     (m := 66050) (Frame.refl 66050 _) (by decide)) (by decide)) (by decide)))))

theorem State.syncQueue_frame (s : Sys2Proof.Machine.State) (a1 : Nat) (a2 : Nat) (a3 : Nat) (a4 : Nat) (a5 : Nat) (a6 : Int) (a7 : Int → Option Octets) (a8 : Int → Octets → Sys2Proof.Machine.TxFrame) : Frame 104466 s (State.syncQueue s a1 a2 a3 a4 a5 a6 a7 a8).1 := by
  unfold State.syncQueue
  split
  · with_reducible exact Frame.fst (by assumption) (Frame.mono (m := 104466) (State.exactReserve_frame _ _ _ _ _) (by decide))
  · split
    · with_reducible exact Frame.fst (by assumption) (Frame.mono (m := 104466) (State.exactReserve_frame _ _ _ _ _) (by decide))
    · with_reducible exact Frame.of (m := 104466) (State.release_frame _ _ _ _ _ _) (Frame.fst (by assumption) (Frame.mono (m := 104466)
                       (State.exactReserve_frame _ _ _ _ _) (by decide))) (by decide)

theorem State.syncDue_frame (s : Sys2Proof.Machine.State) (a1 : Sys2Proof.Machine.PtpStream) (a2 : Bool) (a3 : Int) : Frame 104466 s (State.syncDue s a1 a2 a3) := by
  unfold State.syncDue
  dsimp only
  split
  · with_reducible exact Frame.refl 104466 _
  · with_reducible refine Frame.ite (m := 104466) (Frame.refl 104466 _) (Frame.ite (m := 104466) (Frame.of (m := 104466)
                     (State.withheld_frame _ _ _ _) (Frame.of (m := 104466) (State.inc_frame _ _) (Frame.mono (m := 104466) (State.markDue_frame _ _ _ _)
                     (by decide)) (by decide)) (by decide)) ?_)
    split
    · with_reducible exact Frame.ite (m := 104466) (Frame.of (m := 104466) (State.committed_frame _ _ _ _ _) (Frame.of (m := 104466)
                       (State.takeRed_frame _ _) (Frame.iteFst (m := 104466) (Frame.of (m := 104466) (State.syncQueue_frame _ _ _ _ _ _ _ _ _) (Frame.of
                       (m := 104466) (State.syncQueue_frame _ _ _ _ _ _ _ _ _) (Frame.of (m := 104466) (State.newItem_frame _ _ _) (Frame.of (m := 104466)
                       (State.pairSeq_frame _ _ _) (Frame.mono (m := 104466) (State.markDue_frame _ _ _ _) (by decide)) (by decide)) (by decide))
                       (by decide)) (by decide)) (Frame.of (m := 104466) (State.inc_frame _ _) (Frame.of (m := 104466) (State.syncQueue_frame _ _ _ _ _ _ _ _
                       _) (Frame.of (m := 104466) (State.newItem_frame _ _ _) (Frame.of (m := 104466) (State.pairSeq_frame _ _ _) (Frame.mono (m := 104466)
                       (State.markDue_frame _ _ _ _) (by decide)) (by decide)) (by decide)) (by decide)) (by decide))) (by decide)) (by decide)) (Frame.of
                       (m := 104466) (State.withheld_frame _ _ _ _) (Frame.iteFst (m := 104466) (Frame.of (m := 104466) (State.syncQueue_frame _ _ _ _ _ _ _
                       _ _) (Frame.of (m := 104466) (State.syncQueue_frame _ _ _ _ _ _ _ _ _) (Frame.of (m := 104466) (State.newItem_frame _ _ _) (Frame.of
                       (m := 104466) (State.pairSeq_frame _ _ _) (Frame.mono (m := 104466) (State.markDue_frame _ _ _ _) (by decide)) (by decide))
                       (by decide)) (by decide)) (by decide)) (Frame.of (m := 104466) (State.inc_frame _ _) (Frame.of (m := 104466) (State.syncQueue_frame _
                       _ _ _ _ _ _ _ _) (Frame.of (m := 104466) (State.newItem_frame _ _ _) (Frame.of (m := 104466) (State.pairSeq_frame _ _ _) (Frame.mono
                       (m := 104466) (State.markDue_frame _ _ _ _) (by decide)) (by decide)) (by decide)) (by decide)) (by decide))) (by decide))
    · with_reducible exact Frame.ite (m := 104466) (Frame.of (m := 104466) (State.committed_frame _ _ _ _ _) (Frame.of (m := 104466)
                       (State.syncQueue_frame _ _ _ _ _ _ _ _ _) (Frame.of (m := 104466) (State.newItem_frame _ _ _) (Frame.of (m := 104466)
                       (State.pairSeq_frame _ _ _) (Frame.mono (m := 104466) (State.markDue_frame _ _ _ _) (by decide)) (by decide)) (by decide))
                       (by decide)) (by decide)) (Frame.of (m := 104466) (State.withheld_frame _ _ _ _) (Frame.of (m := 104466) (State.syncQueue_frame _ _ _
                       _ _ _ _ _ _) (Frame.of (m := 104466) (State.newItem_frame _ _ _) (Frame.of (m := 104466) (State.pairSeq_frame _ _ _) (Frame.mono
                       (m := 104466) (State.markDue_frame _ _ _ _) (by decide)) (by decide)) (by decide)) (by decide)) (by decide))

theorem State.takeoverDone_frame (s : Sys2Proof.Machine.State) (a1 : Nat) : Frame 36866 s (State.takeoverDone s a1) := by
  unfold State.takeoverDone
  dsimp only
  simp only [State.mk_make]
  split
  · with_reducible exact Frame.refl 36866 _
  · with_reducible exact Frame.ite (m := 36866) (Frame.up15 (m := 36866) (Frame.of (m := 36866) (State.addN_frame _ _ _) (Frame.of
                     (m := 36866) (State.countEngines_frame _ _) (Frame.of (m := 36866) (State.setO_frame _ _ _) (Frame.up15 (m := 36866) (Frame.refl 36866
                     _) (by decide)) (by decide)) (by decide)) (by decide)) (by decide)) (Frame.of (m := 36866) (State.laneDown_frame _ _ _ _) (Frame.of
                     (m := 36866) (State.dropLane_frame _ _ _) (Frame.of (m := 36866) (State.addN_frame _ _ _) (Frame.of (m := 36866)
                     (State.countEngines_frame _ _) (Frame.of (m := 36866) (State.setO_frame _ _ _) (Frame.up15 (m := 36866) (Frame.refl 36866 _)
                     (by decide)) (by decide)) (by decide)) (by decide)) (by decide)) (by decide))

theorem State.tamper_frame (s : Sys2Proof.Machine.State) : Frame 751966 s (State.tamper s) := by
  unfold State.tamper
  dsimp only
  simp only [State.mk_make]
  with_reducible exact Frame.ite (m := 751966) (Frame.of (m := 751966) (State.faulted_frame _ _ _ _) (Frame.up13 (m := 751966) (Frame.mono
                   (m := 751966) (State.zeroise_frame _) (by decide)) (by decide)) (by decide)) (Frame.up13 (m := 751966) (Frame.mono (m := 751966)
                   (State.zeroise_frame _) (by decide)) (by decide))

theorem State.targetRead_frame (s : Sys2Proof.Machine.State) (a1 : Nat) : Frame 524288 s (State.targetRead s a1) := by
  unfold State.targetRead
  dsimp only
  simp only [State.mk_make]
  with_reducible exact Frame.up19 (m := 524288) (Frame.refl 524288 _) (by decide)

theorem State.thermalRead_frame (s : Sys2Proof.Machine.State) (a1 : List Int) : Frame 1005918 s (State.thermalRead s a1) := by
  unfold State.thermalRead
  dsimp only
  simp only [State.mk_make]
  with_reducible refine Frame.ite (m := 1005918) (Frame.mk1 (m := 1005918) (Frame.of (m := 1005918) (State.setO_frame _ _ _) (Frame.of
                   (m := 1005918) (State.setO_frame _ _ _) (Frame.foldl (m := 1005918) (fun _ => fun _ => Frame.mono (m := 1005918) (State.setO_frame _ _ _)
                   (by decide)) (Frame.refl 1005918 _)) (by decide)) (by decide)) (.inr rfl) (.inr rfl) (.inr rfl) (.inr rfl) (.inr rfl) (.inr rfl)
                   (.inr rfl) (.inr rfl) (.inr rfl) (.inr rfl) (.inr rfl) (.inr rfl) (.inr rfl) (.inr rfl) (.inr rfl) (.inr rfl) (.inr rfl) ?_ (.inr rfl)) ?_
  · split
    · split
      · with_reducible exact (.inl (by decide))
      · with_reducible exact (.inl (by decide))
    · split
      · with_reducible exact (.inl (by decide))
      · with_reducible exact (.inl (by decide))
  · split
    · with_reducible refine Frame.ite (m := 1005918) (Frame.of (m := 1005918) (State.faulted_frame _ _ _ _) (Frame.of (m := 1005918)
                       (State.inc_frame _ _) (Frame.of (m := 1005918) (State.setO_frame _ _ _) (Frame.mk1 (m := 1005918) (Frame.of (m := 1005918)
                       (State.setO_frame _ _ _) (Frame.of (m := 1005918) (State.setO_frame _ _ _) (Frame.foldl (m := 1005918) (fun _ => fun _ => Frame.mono
                       (m := 1005918) (State.setO_frame _ _ _) (by decide)) (Frame.refl 1005918 _)) (by decide)) (by decide)) (.inr rfl) (.inr rfl)
                       (.inr rfl) (.inr rfl) (.inr rfl) (.inr rfl) (.inr rfl) (.inr rfl) (.inr rfl) (.inr rfl) (.inr rfl) (.inr rfl) (.inr rfl) (.inr rfl)
                       (.inr rfl) (.inr rfl) (.inr rfl) ?_ (.inr rfl)) (by decide)) (by decide)) (by decide)) (Frame.mk1 (m := 1005918) (Frame.of
                       (m := 1005918) (State.setO_frame _ _ _) (Frame.of (m := 1005918) (State.setO_frame _ _ _) (Frame.foldl (m := 1005918) (fun _ => fun _
                       => Frame.mono (m := 1005918) (State.setO_frame _ _ _) (by decide)) (Frame.refl 1005918 _)) (by decide)) (by decide)) (.inr rfl)
                       (.inr rfl) (.inr rfl) (.inr rfl) (.inr rfl) (.inr rfl) (.inr rfl) (.inr rfl) (.inr rfl) (.inr rfl) (.inr rfl) (.inr rfl) (.inr rfl)
                       (.inr rfl) (.inr rfl) (.inr rfl) (.inr rfl) ?_ (.inr rfl))
      · split
        · split
          · with_reducible exact (.inl (by decide))
          · with_reducible exact (.inl (by decide))
        · split
          · with_reducible exact (.inl (by decide))
          · with_reducible exact (.inl (by decide))
      · split
        · split
          · with_reducible exact (.inl (by decide))
          · with_reducible exact (.inl (by decide))
        · split
          · with_reducible exact (.inl (by decide))
          · with_reducible exact (.inl (by decide))
    · with_reducible refine Frame.ite (m := 1005918) (Frame.of (m := 1005918) (State.setO_frame _ _ _) (Frame.mk1 (m := 1005918) (Frame.of
                       (m := 1005918) (State.setO_frame _ _ _) (Frame.of (m := 1005918) (State.setO_frame _ _ _) (Frame.foldl (m := 1005918) (fun _ => fun _
                       => Frame.mono (m := 1005918) (State.setO_frame _ _ _) (by decide)) (Frame.refl 1005918 _)) (by decide)) (by decide)) (.inr rfl)
                       (.inr rfl) (.inr rfl) (.inr rfl) (.inr rfl) (.inr rfl) (.inr rfl) (.inr rfl) (.inr rfl) (.inr rfl) (.inr rfl) (.inr rfl) (.inr rfl)
                       (.inr rfl) (.inr rfl) (.inr rfl) (.inr rfl) ?_ (.inr rfl)) (by decide)) (Frame.mk1 (m := 1005918) (Frame.of (m := 1005918)
                       (State.setO_frame _ _ _) (Frame.of (m := 1005918) (State.setO_frame _ _ _) (Frame.foldl (m := 1005918) (fun _ => fun _ => Frame.mono
                       (m := 1005918) (State.setO_frame _ _ _) (by decide)) (Frame.refl 1005918 _)) (by decide)) (by decide)) (.inr rfl) (.inr rfl)
                       (.inr rfl) (.inr rfl) (.inr rfl) (.inr rfl) (.inr rfl) (.inr rfl) (.inr rfl) (.inr rfl) (.inr rfl) (.inr rfl) (.inr rfl) (.inr rfl)
                       (.inr rfl) (.inr rfl) (.inr rfl) ?_ (.inr rfl))
      · split
        · split
          · with_reducible exact (.inl (by decide))
          · with_reducible exact (.inl (by decide))
        · split
          · with_reducible exact (.inl (by decide))
          · with_reducible exact (.inl (by decide))
      · split
        · split
          · with_reducible exact (.inl (by decide))
          · with_reducible exact (.inl (by decide))
        · split
          · with_reducible exact (.inl (by decide))
          · with_reducible exact (.inl (by decide))
    · with_reducible refine Frame.mk1 (m := 1005918) (Frame.of (m := 1005918) (State.setO_frame _ _ _) (Frame.of (m := 1005918)
                       (State.setO_frame _ _ _) (Frame.foldl (m := 1005918) (fun _ => fun _ => Frame.mono (m := 1005918) (State.setO_frame _ _ _)
                       (by decide)) (Frame.refl 1005918 _)) (by decide)) (by decide)) (.inr rfl) (.inr rfl) (.inr rfl) (.inr rfl) (.inr rfl) (.inr rfl)
                       (.inr rfl) (.inr rfl) (.inr rfl) (.inr rfl) (.inr rfl) (.inr rfl) (.inr rfl) (.inr rfl) (.inr rfl) (.inr rfl) (.inr rfl) ?_ (.inr rfl)
      split
      · split
        · with_reducible exact (.inl (by decide))
        · with_reducible exact (.inl (by decide))
      · split
        · with_reducible exact (.inl (by decide))
        · with_reducible exact (.inl (by decide))

theorem State.thermalTrip_frame (s : Sys2Proof.Machine.State) (a1 : Nat) : Frame 1005918 s (State.thermalTrip s a1) := by
  unfold State.thermalTrip
  dsimp only
  simp only [State.mk_make]
  with_reducible exact Frame.ite (m := 1005918) (Frame.ite (m := 1005918) (Frame.up18 (m := 1005918) (Frame.refl 1005918 _) (by decide))
                   (Frame.refl 1005918 _)) (Frame.of (m := 1005918) (State.faulted_frame _ _ _ _) (Frame.up18 (m := 1005918) (Frame.refl 1005918 _)
                   (by decide)) (by decide))

theorem State.toReset_frame (s : Sys2Proof.Machine.State) (a1 : Bool) : Frame 1048574 s (State.toReset s a1) := by
  unfold State.toReset
  dsimp only
  simp only [State.mk_make]
  with_reducible refine Frame.ite (m := 1048574) (Frame.of (m := 1048574) (State.setN_frame _ _ _) (Frame.of (m := 1048574)
                   (State.setN_frame _ _ _) (Frame.mk1 (m := 1048574) (Frame.refl 1048574 _) (.inl (by decide)) (.inl (by decide)) (.inl (by decide)) ?_
                   (.inl (by decide)) (.inl (by decide)) (.inl (by decide)) (.inl (by decide)) (.inl (by decide)) (.inl (by decide)) (.inl (by decide)) (.inl
                   (by decide)) (.inl (by decide)) (.inl (by decide)) (.inl (by decide)) (.inl (by decide)) (.inl (by decide)) ?_ (.inl (by decide)))
                   (by decide)) (by decide)) (Frame.of (m := 1048574) (State.setN_frame _ _ _) (Frame.mk1 (m := 1048574) (Frame.refl 1048574 _) (.inl
                   (by decide)) (.inl (by decide)) (.inl (by decide)) ?_ (.inl (by decide)) (.inl (by decide)) (.inl (by decide)) (.inl (by decide)) (.inl
                   (by decide)) (.inl (by decide)) (.inl (by decide)) (.inl (by decide)) (.inl (by decide)) (.inl (by decide)) (.inl (by decide)) (.inl
                   (by decide)) (.inl (by decide)) ?_ (.inl (by decide))) (by decide))
  · split
    · with_reducible exact (.inl (by decide))
    · with_reducible exact (.inl (by decide))
  · split
    · split
      · split
        · with_reducible exact (.inl (by decide))
        · with_reducible exact (.inl (by decide))
      · split
        · with_reducible exact (.inl (by decide))
        · with_reducible exact (.inl (by decide))
    · split
      · with_reducible exact (.inl (by decide))
      · with_reducible exact (.inl (by decide))
  · split
    · with_reducible exact (.inl (by decide))
    · with_reducible exact (.inl (by decide))
  · split
    · split
      · split
        · with_reducible exact (.inl (by decide))
        · with_reducible exact (.inl (by decide))
      · split
        · with_reducible exact (.inl (by decide))
        · with_reducible exact (.inl (by decide))
    · split
      · with_reducible exact (.inl (by decide))
      · with_reducible exact (.inl (by decide))

theorem State.todJudge_frame (s : Sys2Proof.Machine.State) (a1 : Nat) (a2 : Sys2Proof.Octets) : Frame 514 s (State.todJudge s a1 a2) := by
  unfold State.todJudge
  dsimp only
  split
  · with_reducible exact Frame.of (m := 514) (State.ppsInvalid_frame _ _) (Frame.mono (m := 514) (State.inc_frame _ _) (by decide))
                     (by decide)
  · split
    · with_reducible exact Frame.refl 514 _
    · with_reducible exact Frame.ite (m := 514) (Frame.of (m := 514) (State.inc_frame _ _) (Frame.mono (m := 514) (State.setRef_frame _ _ _)
                       (by decide)) (by decide)) (Frame.of (m := 514) (State.refArrive_frame _ _) (Frame.mono (m := 514) (State.setRef_frame _ _ _)
                       (by decide)) (by decide))

theorem State.todArrive_frame (s : Sys2Proof.Machine.State) (a1 : Nat) (a2 : Sys2Proof.Octets) (a3 : Nat) : Frame 642 s (State.todArrive s a1 a2 a3) := by
  unfold State.todArrive
  with_reducible refine Frame.foldl (m := 642) (fun _ => fun _ => ?_) (Frame.mono (m := 642) (State.ppsNews_frame _) (by decide))
  split
  · with_reducible exact Frame.ite (m := 642) (Frame.ite (m := 642) (Frame.mono (m := 642) (State.todJudge_frame _ _ _) (by decide))
                     (Frame.mono (m := 642) (State.ppsNoMessage_frame _ _) (by decide))) (Frame.refl 642 _)
  · with_reducible exact Frame.refl 642 _

theorem State.twinLink_frame (s : Sys2Proof.Machine.State) : Frame 65554 s (State.twinLink s) := by
  unfold State.twinLink
  dsimp only
  simp only [State.mk_make]
  with_reducible exact Frame.of (m := 65554) (State.twinSend_frame _ _) (Frame.up16 (m := 65554) (Frame.of (m := 65554)
                   (State.twinEnter_frame _ _) (Frame.mono (m := 65554) (State.drew_frame _) (by decide)) (by decide)) (by decide)) (by decide)

theorem State.twpEdge_frame (s : Sys2Proof.Machine.State) (a1 : Int) (a2 : Sys2Proof.Machine.Capture) (a3 : Sys2Proof.Machine.Capture) : Frame 744414 s (State.twpEdge s a1 a2 a3) := by
  unfold State.twpEdge
  dsimp only
  simp only [State.mk_make]
  split
  · with_reducible exact Frame.mono (m := 744414) (State.edge_frame _ _ _ _ _) (by decide)
  · with_reducible exact Frame.ite (m := 744414) (Frame.mono (m := 744414) (State.edge_frame _ _ _ _ _) (by decide)) (Frame.of (m := 744414)
                     (State.pairObserve_frame _ _) (Frame.up16 (m := 744414) (Frame.mono (m := 744414) (State.edge_frame _ _ _ _ _) (by decide)) (by decide))
                     (by decide))

theorem State.unknownOp_frame (s : Sys2Proof.Machine.State) (a1 : Nat) (a2 : Nat) (a3 : Nat) : Frame 16386 s (State.unknownOp s a1 a2 a3) := by
  unfold State.unknownOp
  dsimp only
  with_reducible exact Frame.ite (m := 16386) (Frame.of (m := 16386) (State.chanDone_frame _ _ _ _) (Frame.mono (m := 16386)
                   (State.doorbell_frame _ _ _) (by decide)) (by decide)) (Frame.ite (m := 16386) (Frame.of (m := 16386) (State.setChan__frame _ _ _)
                   (Frame.mono (m := 16386) (State.doorbell_frame _ _ _) (by decide)) (by decide)) (Frame.mono (m := 16386) (State.doorbell_frame _ _ _)
                   (by decide)))

theorem State.unsupported_frame (s : Sys2Proof.Machine.State) (a1 : Nat) (a2 : Nat) (a3 : Sys2Proof.Machine.RxFrame) : Frame 4098 s (State.unsupported s a1 a2 a3) := by
  unfold State.unsupported
  split
  · with_reducible exact Frame.of (m := 4098) (State.inc_frame _ _) (Frame.mono (m := 4098) (State.itemDone_frame _ _ _) (by decide))
                     (by decide)
  · with_reducible exact Frame.mono (m := 4098) (State.itemDone_frame _ _ _) (by decide)

theorem State.vaultArrive_frame (s : Sys2Proof.Machine.State) (a1 : Sys2Proof.Machine.VaultOp) (a2 : Sys2Proof.Machine.VaultMsg) : Frame 26626 s (State.vaultArrive s a1 a2) := by
  unfold State.vaultArrive
  dsimp only
  with_reducible exact Frame.ite (m := 26626) (Frame.of (m := 26626) (State.vaultJudge_frame _ _ _) (Frame.of (m := 26626)
                   (State.placeRequest_frame _ _ _) (Frame.mono (m := 26626) (State.accept_frame _ _) (by decide)) (by decide)) (by decide)) (Frame.mono
                   (m := 26626) (State.accept_frame _ _) (by decide))

theorem State.vaultReady_frame (s : Sys2Proof.Machine.State) : Frame 8198 s (State.vaultReady s) := by
  unfold State.vaultReady
  dsimp only
  simp only [State.mk_make]
  with_reducible exact Frame.of (m := 8198) (State.setN_frame _ _ _) (Frame.of (m := 8198) (State.bootKeys_frame _) (Frame.of (m := 8198)
                   (State.inc_frame _ _) (Frame.up13 (m := 8198) (Frame.refl 8198 _) (by decide)) (by decide)) (by decide)) (by decide)

end Sys2Proof.Machine
end

