-- ==== Sys2Proof/Laws/Bobs0.lean ====
section
/-!
SUPPORT. The SRAM outside the bank of Bobbin under operations, part 0.
-/

namespace Sys2Proof.Machine

theorem State.bobAppend_bob {r : State} (s : Sys2Proof.Machine.State) (a1 : Sys2Proof.Machine.BobHead) (a2 : Sys2Proof.Octets) (h : Outside r s) : Outside r (State.bobAppend s a1 a2) := by
  unfold State.bobAppend
  dsimp only
  simp only [State.mk_make]
  with_reducible refine Outside.of (State.showRing_frame _) (Outside.ite (Outside.of (State.inc_frame _ _) (Outside.ite (Outside.of
                   (State.inc_frame _ _) (Outside.of (State.addN_frame _ _ _) (Outside.of (State.inc_frame _ _) (Outside.of (State.setN_frame _ _ _)
                   (Outside.mk1 (Outside.writeBank (Outside.of (State.ringTo_frame _ _) (Outside.ite (by assumption) (Outside.writeBank (by assumption)))
                   ?_))) ?_) ?_) ?_) ?_) (Outside.of (State.addN_frame _ _ _) (Outside.of (State.inc_frame _ _) (Outside.of (State.setN_frame _ _ _)
                   (Outside.mk1 (Outside.writeBank (Outside.of (State.ringTo_frame _ _) (Outside.ite (by assumption) (Outside.writeBank (by assumption)))
                   ?_))) ?_) ?_) ?_)) ?_) (Outside.ite (Outside.of (State.inc_frame _ _) (Outside.of (State.addN_frame _ _ _) (Outside.of (State.inc_frame _
                   _) (Outside.of (State.setN_frame _ _ _) (Outside.mk1 (Outside.writeBank (Outside.of (State.ringTo_frame _ _) (Outside.ite (by assumption)
                   (Outside.writeBank (by assumption))) ?_))) ?_) ?_) ?_) ?_) (Outside.of (State.addN_frame _ _ _) (Outside.of (State.inc_frame _ _)
                   (Outside.of (State.setN_frame _ _ _) (Outside.mk1 (Outside.writeBank (Outside.of (State.ringTo_frame _ _) (Outside.ite (by assumption)
                   (Outside.writeBank (by assumption))) ?_))) ?_) ?_) ?_))) ?_
  · rfl
  · rfl
  · rfl
  · rfl
  · rfl
  · rfl
  · rfl
  · rfl
  · rfl
  · rfl
  · rfl
  · rfl
  · rfl
  · rfl
  · rfl
  · rfl
  · rfl
  · rfl
  · rfl
  · rfl

theorem State.bobHalt_bob {r : State} (s : Sys2Proof.Machine.State) (h : Outside r s) : Outside r (State.bobHalt s) := by
  unfold State.bobHalt
  dsimp only
  simp only [State.mk_make]
  with_reducible exact Outside.ite (Outside.mk1 (State.bobAppend_bob _ _ _ (by assumption))) (by assumption)

theorem State.halt_bob {r : State} (s : Sys2Proof.Machine.State) (a1 : Sys2Proof.Machine.Report) (h : Outside r s) : Outside r (State.halt s a1) := by
  unfold State.halt
  dsimp only
  simp only [State.mk_make]
  with_reducible refine Outside.of (State.changeMode_frame _ _) (Outside.of (State.haltUnits_frame _) (State.bobHalt_bob _ (Outside.of
                   (State.haltDump_frame _) (Outside.mk1 (Outside.of (State.flushLog_frame _ _ _) (Outside.mk1 (by assumption)) ?_)) ?_)) ?_) ?_
  · rfl
  · rfl
  · rfl
  · rfl

theorem State.recordFault_bob {r : State} (s : Sys2Proof.Machine.State) (a1 : Nat) (a2 : Nat) (a3 : Nat) (a4 : Nat) (a5 : Bool) (h : Outside r s) : Outside r (State.recordFault s a1 a2 a3 a4 a5).1 := by
  unfold State.recordFault
  dsimp only
  simp only [State.mk_make]
  split
  · with_reducible exact (by assumption)
  · with_reducible refine Outside.iteFst (by assumption) (Outside.iteFst (State.halt_bob _ _ (Outside.of (State.hostEvent_frame _ _)
                     (Outside.of (State.countOpen_frame _) (Outside.mk1 (Outside.ite (Outside.of (State.inc_frame _ _) (Outside.ite (Outside.of
                     (State.inc_frame _ _) (Outside.of (State.inc_frame _ _) (by assumption) ?_) ?_) (Outside.of (State.inc_frame _ _) (by assumption) ?_))
                     ?_) (Outside.ite (Outside.of (State.inc_frame _ _) (Outside.of (State.inc_frame _ _) (by assumption) ?_) ?_) (Outside.of
                     (State.inc_frame _ _) (by assumption) ?_)))) ?_) ?_)) (Outside.of (State.hostEvent_frame _ _) (Outside.of (State.countOpen_frame _)
                     (Outside.mk1 (Outside.ite (Outside.of (State.inc_frame _ _) (Outside.ite (Outside.of (State.inc_frame _ _) (Outside.of (State.inc_frame
                     _ _) (by assumption) ?_) ?_) (Outside.of (State.inc_frame _ _) (by assumption) ?_)) ?_) (Outside.ite (Outside.of (State.inc_frame _ _)
                     (Outside.of (State.inc_frame _ _) (by assumption) ?_) ?_) (Outside.of (State.inc_frame _ _) (by assumption) ?_)))) ?_) ?_))
    · rfl
    · rfl
    · rfl
    · rfl
    · rfl
    · rfl
    · rfl
    · rfl
    · rfl
    · rfl
    · rfl
    · rfl
    · rfl
    · rfl
    · rfl
    · rfl
    · rfl
    · rfl

theorem State.raise_bob {r : State} (s : Sys2Proof.Machine.State) (a1 : Nat) (a2 : Nat) (a3 : Nat) (h : Outside r s) : Outside r (State.raise s a1 a2 a3).1 := by
  unfold State.raise
  split
  · with_reducible exact State.recordFault_bob _ _ _ _ _ _ (by assumption)
  · with_reducible refine State.recordFault_bob _ _ _ _ _ _ (Outside.of (State.drew_frame _) (by assumption) ?_)
    rfl

theorem State.faulted_bob {r : State} (s : Sys2Proof.Machine.State) (a1 : Nat) (a2 : Nat) (a3 : Nat) (h : Outside r s) : Outside r (State.faulted s a1 a2 a3) := by
  unfold State.faulted
  with_reducible exact State.raise_bob _ _ _ _ (by assumption)

theorem State.portStop_bob {r : State} (s : Sys2Proof.Machine.State) (a1 : Nat) (h : Outside r s) : Outside r (State.portStop s a1) := by
  unfold State.portStop
  dsimp only
  with_reducible exact Outside.ite (State.faulted_bob _ _ _ _ (by assumption)) (by assumption)

theorem State.tableReject_bob {r : State} (s : Sys2Proof.Machine.State) (a1 : Nat) (h : Outside r s) : Outside r (State.tableReject s a1) := by
  unfold State.tableReject
  dsimp only
  with_reducible refine Outside.ite (State.portStop_bob _ _ (Outside.of (State.stamperOut_frame _ _) (State.raise_bob _ _ _ _ (Outside.ite
                   (Outside.of (State.inc_frame _ _) (by assumption) ?_) (by assumption))) ?_)) (State.raise_bob _ _ _ _ (Outside.ite (Outside.of
                   (State.inc_frame _ _) (by assumption) ?_) (by assumption)))
  · rfl
  · rfl
  · rfl

theorem State.addRun_bob {r : State} (s : Sys2Proof.Machine.State) (a1 : Nat) (a2 : List Nat) (h : Outside r s) : Outside r (State.addRun s a1 a2) := by
  unfold State.addRun
  dsimp only
  split
  · with_reducible refine Outside.of (State.newTable_frame _ _ _ _) (by assumption) ?_
    rfl
  · with_reducible exact State.tableReject_bob _ _ (by assumption)

theorem State.groveFault_bob {r : State} (s : Sys2Proof.Machine.State) (a1 : Nat) (h : Outside r s) : Outside r (State.groveFault s a1) := by
  unfold State.groveFault
  dsimp only
  simp only [State.mk_make]
  with_reducible exact Outside.ite (by assumption) (Outside.mk1 (State.faulted_bob _ _ _ _ (by assumption)))

theorem State.aesOut_bob {r : State} (s : Sys2Proof.Machine.State) (a1 : Nat) (a2 : Nat) (h : Outside r s) : Outside r (State.aesOut s a1 a2) := by
  unfold State.aesOut
  dsimp only
  with_reducible refine Outside.ite (State.groveFault_bob _ _ (Outside.of (State.setN_frame _ _ _) (by assumption) ?_)) (Outside.of
                   (State.setN_frame _ _ _) (by assumption) ?_)
  · rfl
  · rfl

theorem State.agreeConfig_bob {r : State} (s : Sys2Proof.Machine.State) (a1 : Sys2Proof.Machine.Agree) (h : Outside r s) : Outside r (State.agreeConfig s a1) := by
  unfold State.agreeConfig
  dsimp only
  simp only [State.mk_make]
  with_reducible exact Outside.ite (State.faulted_bob _ _ _ _ (Outside.mk1 (by assumption))) (Outside.mk1 (by assumption))

theorem State.commitLearn_bob {r : State} (s : Sys2Proof.Machine.State) (a1 : Sys2Proof.Machine.Commit) (h : Outside r s) : Outside r (State.commitLearn s a1) := by
  unfold State.commitLearn
  dsimp only
  simp only [State.mk_make]
  split
  · with_reducible exact (by assumption)
  · split
    · with_reducible refine Outside.ite (by assumption) (Outside.of (State.inc_frame _ _) (Outside.of (State.setSeq_frame _ _ _ _)
                       (Outside.ite (by assumption) (State.faulted_bob _ _ _ _ (by assumption))) ?_) ?_)
      · rfl
      · rfl
    · with_reducible refine Outside.mk1 (Outside.ite (Outside.of (State.setSeq_frame _ _ _ _) (by assumption) ?_) (by assumption))
      rfl

theorem State.agreeReceive_bob {r : State} (s : Sys2Proof.Machine.State) (a1 : Sys2Proof.Machine.Agree) (h : Outside r s) : Outside r (State.agreeReceive s a1) := by
  unfold State.agreeReceive
  dsimp only
  simp only [State.mk_make]
  with_reducible refine Outside.ite (Outside.mk1 (State.agreeConfig_bob _ _ (Outside.of (State.agreePulse_frame _ _) (Outside.of
                   (State.agreedLearn_frame _ _) (Outside.foldl (fun _ _ _ => State.commitLearn_bob _ _ (by assumption)) (Outside.of (State.agreePeer_frame _
                   _) (by assumption) ?_)) ?_) ?_))) (State.agreeConfig_bob _ _ (Outside.of (State.agreePulse_frame _ _) (Outside.of (State.agreedLearn_frame
                   _ _) (Outside.foldl (fun _ _ _ => State.commitLearn_bob _ _ (by assumption)) (Outside.of (State.agreePeer_frame _ _) (by assumption) ?_))
                   ?_) ?_))
  · rfl
  · rfl
  · rfl
  · rfl
  · rfl
  · rfl

theorem State.aonLost_bob {r : State} (s : Sys2Proof.Machine.State) (h : Outside r s) : Outside r (State.aonLost s) := by
  unfold State.aonLost
  dsimp only
  simp only [State.mk_make]
  with_reducible refine Outside.of (State.inc_frame _ _) (Outside.of (State.setN_frame _ _ _) (Outside.of (State.setN_frame _ _ _)
                   (Outside.of (State.inc_frame _ _) (Outside.of (State.inc_frame _ _) (Outside.of (State.setN_frame _ _ _) (Outside.of (State.setO_frame _ _
                   _) (Outside.of (State.setO_frame _ _ _) (Outside.of (State.haltUnits_frame _) (State.bobHalt_bob _ (Outside.of (State.haltDump_frame _)
                   (Outside.mk1 (by assumption)) ?_)) ?_) ?_) ?_) ?_) ?_) ?_) ?_) ?_) ?_
  · rfl
  · rfl
  · rfl
  · rfl
  · rfl
  · rfl
  · rfl
  · rfl
  · rfl
  · rfl

theorem State.appendRecord_bob {r : State} (s : Sys2Proof.Machine.State) (h : Outside r s) : Outside r (State.appendRecord s) := by
  unfold State.appendRecord
  dsimp only
  simp only [State.mk_make]
  with_reducible refine Outside.ite (by assumption) (Outside.ite (Outside.of (State.formKeyframe_frame _) (Outside.of (State.recorded_frame
                   _) ?_ ?_) ?_) (Outside.of (State.recorded_frame _) ?_ ?_))
  · split
    · with_reducible exact State.bobAppend_bob _ _ _ (by assumption)
    · with_reducible exact (by assumption)
    · with_reducible exact State.bobAppend_bob _ _ _ (Outside.mk1 (by assumption))
  · rfl
  · rfl
  · split
    · with_reducible exact State.bobAppend_bob _ _ _ (by assumption)
    · with_reducible exact (by assumption)
    · with_reducible exact State.bobAppend_bob _ _ _ (Outside.mk1 (by assumption))
  · rfl

theorem State.applySet_bob {r : State} (s : Sys2Proof.Machine.State) (a1 : List Sys2Proof.Machine.Batch) (a2 : Bool) (h : Outside r s) : Outside r (State.applySet s a1 a2).1 := by
  unfold State.applySet
  dsimp only
  split
  · with_reducible exact (by assumption)
  · with_reducible refine Outside.iteFst (Outside.foldl (fun _ _ _ => Outside.of (State.applyBatch_frame _ _) (by assumption) ?_)
                     (by assumption)) (Outside.iteFst (Outside.foldl (fun _ _ _ => Outside.of (State.inc_frame _ _) (by assumption) ?_)
                     (State.recordFault_bob _ _ _ _ _ _ (Outside.of (State.drew_frame _) (Outside.ite (Outside.of (State.injConsume_frame _) (by assumption)
                     ?_) (by assumption)) ?_))) (Outside.foldl (fun _ _ _ => Outside.of (State.discardEntry_frame _ _ _ _) (by assumption) ?_)
                     (State.recordFault_bob _ _ _ _ _ _ (Outside.of (State.drew_frame _) (Outside.ite (Outside.of (State.injConsume_frame _) (by assumption)
                     ?_) (by assumption)) ?_))))
    · rfl
    · rfl
    · rfl
    · rfl
    · rfl
    · rfl
    · rfl

theorem State.applyBatches_bob {r : State} (s : Sys2Proof.Machine.State) (a1 : Bool) (h : Outside r s) : Outside r (State.applyBatches s a1) := by
  unfold State.applyBatches
  dsimp only
  simp only [State.mk_make]
  with_reducible refine Outside.ite (Outside.mk1 (by assumption)) (Outside.ite (Outside.mk1 (State.applySet_bob _ _ _ (Outside.of
                   (State.installSlots_frame _) (Outside.mk1 (by assumption)) ?_))) (State.applySet_bob _ _ _ (Outside.of (State.installSlots_frame _)
                   (Outside.mk1 (by assumption)) ?_)))
  · rfl
  · rfl

theorem State.applyImmediate_bob {r : State} (s : Sys2Proof.Machine.State) (a1 : Bool) (h : Outside r s) : Outside r (State.applyImmediate s a1) := by
  unfold State.applyImmediate
  dsimp only
  simp only [State.mk_make]
  with_reducible exact Outside.ite (Outside.mk1 (State.applySet_bob _ _ _ (Outside.mk1 (by assumption)))) (State.applySet_bob _ _ _
                   (Outside.mk1 (by assumption)))

theorem State.atNext_bob {r s : State} {f : State → State} (k : ∀ t, Outside r t → Outside r (f t)) (h : Outside r s) : Outside r (s.atNext f) := by
  unfold State.atNext
  dsimp only
  simp only [State.mk_make]
  have h2 : ∀ t, Outside r t → Outside r (f t) := k
  apply Outside.ite
  all_goals repeat' first
    | with_reducible assumption
    | with_reducible apply Outside.mk1
    | with_reducible apply h2
    | with_reducible apply Outside.of (State.setN_frame _ _ _)
    | with_reducible apply Outside.of (State.setO_frame _ _ _)
    | decide


theorem State.avsRead_bob {r : State} (s : Sys2Proof.Machine.State) (a1 : Option Nat) (a2 : Bool) (h : Outside r s) : Outside r (State.avsRead s a1 a2) := by
  unfold State.avsRead
  dsimp only
  simp only [State.mk_make]
  with_reducible refine Outside.ite (Outside.ite (Outside.mk1 ?_) ?_) (State.faulted_bob _ _ _ _ (Outside.of (State.inc_frame _ _) ?_ ?_))
  · split
    · with_reducible refine Outside.of (State.setN_frame _ _ _) (by assumption) ?_
      rfl
    · with_reducible exact (by assumption)
  · split
    · with_reducible refine Outside.of (State.setN_frame _ _ _) (by assumption) ?_
      rfl
    · with_reducible exact (by assumption)
  · split
    · with_reducible refine Outside.of (State.setN_frame _ _ _) (by assumption) ?_
      rfl
    · with_reducible exact (by assumption)
  · rfl

theorem State.avsStart_bob {r : State} (s : Sys2Proof.Machine.State) (a1 : Option Nat) (h : Outside r s) : Outside r (State.avsStart s a1) := by
  unfold State.avsStart
  dsimp only
  simp only [State.mk_make]
  split
  · with_reducible refine Outside.of (State.setN_frame _ _ _) (Outside.mk1 (Outside.of (State.setN_frame _ _ _) (by assumption) ?_)) ?_
    · rfl
    · rfl
  · with_reducible refine State.faulted_bob _ _ _ _ (Outside.of (State.inc_frame _ _) (Outside.mk1 (Outside.of (State.setN_frame _ _ _)
                     (by assumption) ?_)) ?_)
    · rfl
    · rfl

theorem State.boundaryBatches_bob {r : State} (s : Sys2Proof.Machine.State) (a1 : Bool) (h : Outside r s) : Outside r (State.boundaryBatches s a1) := by
  unfold State.boundaryBatches
  with_reducible exact State.atNext_bob (fun _ _ => State.applyBatches_bob _ _ (by assumption)) (by assumption)

theorem State.boundaryApply_bob {r : State} (s : Sys2Proof.Machine.State) (h : Outside r s) : Outside r (State.boundaryApply s) := by
  unfold State.boundaryApply
  dsimp only
  simp only [State.mk_make]
  with_reducible refine Outside.mk1 (Outside.of (State.keyWritesApply_frame _) (State.boundaryBatches_bob _ _ (Outside.of
                   (State.fireActions_frame _) (by assumption) ?_)) ?_)
  · rfl
  · rfl

theorem State.yethalDown_bob {r : State} (s : Sys2Proof.Machine.State) (h : Outside r s) : Outside r (State.yethalDown s) := by
  unfold State.yethalDown
  with_reducible refine Outside.of (State.twinAlone_frame _) (State.faulted_bob _ _ _ _ (by assumption)) ?_
  rfl

theorem State.twinWatch_bob {r : State} (s : Sys2Proof.Machine.State) (a1 : Bool) (h : Outside r s) : Outside r (State.twinWatch s a1) := by
  unfold State.twinWatch
  dsimp only
  simp only [State.mk_make]
  with_reducible refine Outside.ite (Outside.mk1 (Outside.of (State.setF_frame _ _ _) (Outside.of (State.identityWatch_frame _)
                   (by assumption) ?_) ?_)) (Outside.ite (State.yethalDown_bob _ (Outside.mk1 (Outside.of (State.setF_frame _ _ _) (Outside.of
                   (State.identityWatch_frame _) (by assumption) ?_) ?_))) (Outside.ite (Outside.of (State.twinAlone_frame _) (Outside.mk1 (Outside.of
                   (State.setF_frame _ _ _) (Outside.of (State.identityWatch_frame _) (by assumption) ?_) ?_)) ?_) (Outside.mk1 (Outside.of (State.setF_frame
                   _ _ _) (Outside.of (State.identityWatch_frame _) (by assumption) ?_) ?_))))
  · rfl
  · rfl
  · rfl
  · rfl
  · rfl
  · rfl
  · rfl
  · rfl
  · rfl

theorem State.apartBoundary_bob {r : State} (s : Sys2Proof.Machine.State) (h : Outside r s) : Outside r (State.apartBoundary s) := by
  unfold State.apartBoundary
  dsimp only
  simp only [State.mk_make]
  with_reducible refine Outside.ite (Outside.of (State.twinSend_frame _ _) (Outside.mk1 (Outside.ite (Outside.of (State.inc_frame _ _)
                   (Outside.mk1 (by assumption)) ?_) (by assumption))) ?_) (Outside.ite (Outside.of (State.inc_frame _ _) (Outside.mk1 (by assumption)) ?_)
                   (by assumption))
  · rfl
  · rfl
  · rfl

theorem State.joinedBoundary_bob {r : State} (s : Sys2Proof.Machine.State) (h : Outside r s) : Outside r (State.joinedBoundary s) := by
  unfold State.joinedBoundary
  dsimp only
  simp only [State.mk_make]
  with_reducible refine Outside.mk1 (Outside.ite (Outside.of (State.leaveNow_frame _) ?_ ?_) ?_)
  · split
    · with_reducible refine Outside.ite (Outside.of (State.installCanopy_frame _ _) (Outside.ite (Outside.of (State.ownerBoundary_frame _)
                       (Outside.of (State.retireCharge_frame _) (Outside.of (State.installSessions_frame _) (Outside.of (State.publishOffset_frame _)
                       (by assumption) ?_) ?_) ?_) ?_) (Outside.of (State.shadowBoundary_frame _) (Outside.of (State.retireCharge_frame _) (Outside.of
                       (State.installSessions_frame _) (Outside.of (State.publishOffset_frame _) (by assumption) ?_) ?_) ?_) ?_)) ?_) (Outside.ite
                       (Outside.of (State.ownerBoundary_frame _) (Outside.of (State.retireCharge_frame _) (Outside.of (State.installSessions_frame _)
                       (Outside.of (State.publishOffset_frame _) (by assumption) ?_) ?_) ?_) ?_) (Outside.of (State.shadowBoundary_frame _) (Outside.of
                       (State.retireCharge_frame _) (Outside.of (State.installSessions_frame _) (Outside.of (State.publishOffset_frame _) (by assumption) ?_)
                       ?_) ?_) ?_))
      · rfl
      · rfl
      · rfl
      · rfl
      · rfl
      · rfl
      · rfl
      · rfl
      · rfl
      · rfl
      · rfl
      · rfl
      · rfl
      · rfl
      · rfl
      · rfl
      · rfl
    · with_reducible refine Outside.ite (Outside.of (State.ownerBoundary_frame _) (Outside.of (State.retireCharge_frame _) (Outside.of
                       (State.installSessions_frame _) (Outside.of (State.publishOffset_frame _) (by assumption) ?_) ?_) ?_) ?_) (Outside.of
                       (State.shadowBoundary_frame _) (Outside.of (State.retireCharge_frame _) (Outside.of (State.installSessions_frame _) (Outside.of
                       (State.publishOffset_frame _) (by assumption) ?_) ?_) ?_) ?_)
      · rfl
      · rfl
      · rfl
      · rfl
      · rfl
      · rfl
      · rfl
      · rfl
  · rfl
  · split
    · with_reducible refine Outside.ite (Outside.of (State.installCanopy_frame _ _) (Outside.ite (Outside.of (State.ownerBoundary_frame _)
                       (Outside.of (State.retireCharge_frame _) (Outside.of (State.installSessions_frame _) (Outside.of (State.publishOffset_frame _)
                       (by assumption) ?_) ?_) ?_) ?_) (Outside.of (State.shadowBoundary_frame _) (Outside.of (State.retireCharge_frame _) (Outside.of
                       (State.installSessions_frame _) (Outside.of (State.publishOffset_frame _) (by assumption) ?_) ?_) ?_) ?_)) ?_) (Outside.ite
                       (Outside.of (State.ownerBoundary_frame _) (Outside.of (State.retireCharge_frame _) (Outside.of (State.installSessions_frame _)
                       (Outside.of (State.publishOffset_frame _) (by assumption) ?_) ?_) ?_) ?_) (Outside.of (State.shadowBoundary_frame _) (Outside.of
                       (State.retireCharge_frame _) (Outside.of (State.installSessions_frame _) (Outside.of (State.publishOffset_frame _) (by assumption) ?_)
                       ?_) ?_) ?_))
      · rfl
      · rfl
      · rfl
      · rfl
      · rfl
      · rfl
      · rfl
      · rfl
      · rfl
      · rfl
      · rfl
      · rfl
      · rfl
      · rfl
      · rfl
      · rfl
      · rfl
    · with_reducible refine Outside.ite (Outside.of (State.ownerBoundary_frame _) (Outside.of (State.retireCharge_frame _) (Outside.of
                       (State.installSessions_frame _) (Outside.of (State.publishOffset_frame _) (by assumption) ?_) ?_) ?_) ?_) (Outside.of
                       (State.shadowBoundary_frame _) (Outside.of (State.retireCharge_frame _) (Outside.of (State.installSessions_frame _) (Outside.of
                       (State.publishOffset_frame _) (by assumption) ?_) ?_) ?_) ?_)
      · rfl
      · rfl
      · rfl
      · rfl
      · rfl
      · rfl
      · rfl
      · rfl

theorem State.twinBoundary_bob {r : State} (s : Sys2Proof.Machine.State) (a1 : Bool) (h : Outside r s) : Outside r (State.twinBoundary s a1) := by
  unfold State.twinBoundary
  dsimp only
  with_reducible exact Outside.ite (by assumption) (Outside.ite (State.apartBoundary_bob _ (State.twinWatch_bob _ _ (by assumption)))
                   (State.joinedBoundary_bob _ (State.twinWatch_bob _ _ (by assumption))))

theorem State.unitsAt_bob {r : State} (s : Sys2Proof.Machine.State) (a1 : Bool) (h : Outside r s) : Outside r (State.unitsAt s a1) := by
  unfold State.unitsAt
  dsimp only
  with_reducible refine Outside.of (State.keyRotation_frame _) (Outside.of (State.pruneKeys_frame _) (State.twinBoundary_bob _ _ (Outside.of
                   (State.shuttleBoundary_frame _) (Outside.of (State.grovesOut_frame _) (Outside.of (State.grovesReady_frame _) (Outside.of
                   (State.serviceBoundary_frame _) (Outside.of (State.clientsBoundary_frame _) (Outside.of (State.servBoundary_frame _) (Outside.of
                   (State.netBoundary_frame _) (Outside.of (State.dropLate_frame _) (Outside.of (State.outputsAt_frame _) (Outside.of
                   (State.gladeBoundary_frame _) (Outside.of (State.apllAt_frame _) (by assumption) ?_) ?_) ?_) ?_) ?_) ?_) ?_) ?_) ?_) ?_) ?_)) ?_) ?_
  · rfl
  · rfl
  · rfl
  · rfl
  · rfl
  · rfl
  · rfl
  · rfl
  · rfl
  · rfl
  · rfl
  · rfl
  · rfl

theorem State.boundary_bob {r : State} (s : Sys2Proof.Machine.State) (a1 : Nat) (a2 : Nat) (a3 : Bool) (a4 : List Sys2Proof.Machine.WorkTally) (h : Outside r s) : Outside r (State.boundary s a1 a2 a3 a4) := by
  unfold State.boundary
  dsimp only
  with_reducible refine Outside.ite (State.boundaryApply_bob _ (Outside.of (State.closeTick_frame _ _ _) (by assumption) ?_)) (Outside.ite
                   (State.unitsAt_bob _ _ (Outside.of (State.setN_frame _ _ _) (Outside.of (State.tickBegins_frame _ _) (State.boundaryApply_bob _
                   (Outside.of (State.closeTick_frame _ _ _) (by assumption) ?_)) ?_) ?_)) (Outside.of (State.snapshot_frame _) (Outside.of
                   (State.keepAt_frame _) (State.unitsAt_bob _ _ (Outside.of (State.setN_frame _ _ _) (Outside.of (State.tickBegins_frame _ _)
                   (State.boundaryApply_bob _ (Outside.of (State.closeTick_frame _ _ _) (by assumption) ?_)) ?_) ?_)) ?_) ?_))
  · rfl
  · rfl
  · rfl
  · rfl
  · rfl
  · rfl
  · rfl
  · rfl
  · rfl

theorem State.memberFault_bob {r : State} (s : Sys2Proof.Machine.State) (a1 : Nat) (h : Outside r s) : Outside r (State.memberFault s a1) := by
  unfold State.memberFault
  dsimp only
  with_reducible refine Outside.ite (by assumption) (State.faulted_bob _ _ _ _ (Outside.of (State.setN_frame _ _ _) (Outside.of
                   (State.setO_frame _ _ _) (by assumption) ?_) ?_))
  · rfl
  · rfl

theorem State.slotMember_bob {r : State} (s : Sys2Proof.Machine.State) (a1 : Sys2Proof.Machine.EpochWork) (a2 : Nat) (h : Outside r s) : Outside r (State.slotMember s a1 a2) := by
  unfold State.slotMember
  dsimp only
  with_reducible refine Outside.ite (by assumption) ?_
  split
  · with_reducible refine Outside.of (State.setWork_frame _ _) (by assumption) ?_
    rfl
  · with_reducible refine Outside.ite (by assumption) (Outside.ite (State.memberFault_bob _ _ (by assumption)) (Outside.ite (Outside.of
                     (State.setWork_frame _ _) (by assumption) ?_) (Outside.of (State.setWork_frame _ _) (by assumption) ?_)))
    · rfl
    · rfl

theorem State.slotPairs_bob {r : State} (s : Sys2Proof.Machine.State) (a1 : Sys2Proof.Machine.EpochWork) (a2 : Nat) (h : Outside r s) : Outside r (State.slotPairs s a1 a2) := by
  unfold State.slotPairs
  dsimp only
  with_reducible refine Outside.ite (by assumption) ?_
  split
  · with_reducible exact (by assumption)
  · with_reducible refine Outside.foldl (fun _ _ _ => ?_) (by assumption)
    split
    · with_reducible exact (by assumption)
    · split
      · with_reducible exact (by assumption)
      · with_reducible refine Outside.ite (State.memberFault_bob _ _ (State.memberFault_bob _ _ (by assumption))) (Outside.ite (Outside.of
                         (State.setWork_frame _ _) (by assumption) ?_) (Outside.of (State.setWork_frame _ _) (by assumption) ?_))
        · rfl
        · rfl

theorem State.planeSaturated_bob {r : State} (s : Sys2Proof.Machine.State) (h : Outside r s) : Outside r (State.planeSaturated s) := by
  unfold State.planeSaturated
  dsimp only
  simp only [State.mk_make]
  with_reducible refine Outside.ite (by assumption) (Outside.of (State.forceUnbounded_frame _) (State.faulted_bob _ _ _ _ (Outside.mk1
                   (by assumption))) ?_)
  rfl

theorem State.takeSaturation_bob {r : State} (s : Sys2Proof.Machine.State) (h : Outside r s) : Outside r (State.takeSaturation s) := by
  unfold State.takeSaturation
  dsimp only
  split
  · with_reducible exact (by assumption)
  · with_reducible refine Outside.foldl (fun _ _ _ => Outside.ite (State.planeSaturated_bob _ (by assumption)) (State.memberFault_bob _ _
                     (by assumption))) (Outside.of (State.setWork_frame _ _) (by assumption) ?_)
    rfl

theorem State.ensembleSlot_bob {r : State} (s : Sys2Proof.Machine.State) (h : Outside r s) : Outside r (State.ensembleSlot s) := by
  unfold State.ensembleSlot
  dsimp only
  with_reducible refine Outside.ite (Outside.of (State.slot0_frame _) (by assumption) ?_) ?_
  · rfl
  · split
    · with_reducible exact (by assumption)
    · with_reducible refine State.takeSaturation_bob _ (Outside.ite (Outside.ite ?_ (Outside.of (State.slotPropagate_frame _ _ _)
                       (by assumption) ?_)) (Outside.ite (Outside.of (State.slotReference_frame _ _) (by assumption) ?_) (Outside.ite (Outside.ite
                       (State.slotPairs_bob _ _ _ (State.slotMember_bob _ _ _ (by assumption))) (State.slotMember_bob _ _ _ (by assumption))) (Outside.ite
                       (Outside.of (State.slot35_frame _) (by assumption) ?_) (Outside.ite (Outside.of (State.setWork_frame _ _) (by assumption) ?_)
                       (by assumption))))))
      · split
        · with_reducible refine Outside.of (State.slotPropagate_frame _ _ _) (Outside.of (State.takePlaneStep_frame _ _) (by assumption) ?_)
                           ?_
          · rfl
          · rfl
        · with_reducible refine Outside.of (State.takePlaneStep_frame _ _) (by assumption) ?_
          rfl
      · rfl
      · rfl
      · rfl
      · rfl

theorem State.requestFirst_bob {r : State} (s : Sys2Proof.Machine.State) (h : Outside r s) : Outside r (State.requestFirst s) := by
  unfold State.requestFirst
  dsimp only
  simp only [State.mk_make]
  with_reducible exact Outside.ite (State.planeSaturated_bob _ (Outside.mk1 (by assumption))) (Outside.mk1 (by assumption))

theorem State.servo_bob {r : State} (s : Sys2Proof.Machine.State) (a1 : Nat) (a2 : Int) (h : Outside r s) : Outside r (State.servo s a1 a2) := by
  unfold State.servo
  dsimp only
  simp only [State.mk_make]
  with_reducible refine Outside.ite (State.planeSaturated_bob _ (Outside.mk1 (Outside.ite (Outside.of (State.setO_frame _ _ _) (Outside.of
                   (State.setO_frame _ _ _) (by assumption) ?_) ?_) (Outside.of (State.inc_frame _ _) (Outside.of (State.setO_frame _ _ _) (Outside.of
                   (State.setO_frame _ _ _) (by assumption) ?_) ?_) ?_)))) (Outside.mk1 (Outside.ite (Outside.of (State.setO_frame _ _ _) (Outside.of
                   (State.setO_frame _ _ _) (by assumption) ?_) ?_) (Outside.of (State.inc_frame _ _) (Outside.of (State.setO_frame _ _ _) (Outside.of
                   (State.setO_frame _ _ _) (by assumption) ?_) ?_) ?_)))
  · rfl
  · rfl
  · rfl
  · rfl
  · rfl
  · rfl
  · rfl
  · rfl
  · rfl
  · rfl

theorem State.servoTick_bob {r : State} (s : Sys2Proof.Machine.State) (h : Outside r s) : Outside r (State.servoTick s) := by
  unfold State.servoTick
  dsimp only
  simp only [State.mk_make]
  with_reducible refine Outside.ite ?_ (Outside.ite (State.servo_bob _ _ _ (Outside.of (State.setO_frame _ _ _) (Outside.mk1
                   (by assumption)) ?_)) (Outside.ite ?_ (Outside.mk1 (by assumption))))
  · split
    · with_reducible refine Outside.ite (State.servo_bob _ _ _ (Outside.ite (Outside.of (State.recordReturn_frame _ _) (Outside.mk1
                       (by assumption)) ?_) (Outside.mk1 (by assumption)))) (Outside.mk1 (by assumption))
      rfl
    · with_reducible exact Outside.mk1 (by assumption)
  · rfl
  · split
    · with_reducible refine State.servo_bob _ _ _ (Outside.of (State.recordReturn_frame _ _) (Outside.mk1 (by assumption)) ?_)
      rfl
    · with_reducible exact Outside.mk1 (by assumption)

theorem State.canopyInputs_bob {r : State} (s : Sys2Proof.Machine.State) (a1 : Sys2Proof.Machine.TwinInputs) (h : Outside r s) : Outside r (State.canopyInputs s a1) := by
  unfold State.canopyInputs
  dsimp only
  with_reducible refine Outside.of (State.canopyBoundary_frame _) (Outside.of (State.takeSwitched_frame _) ?_ ?_) ?_
  · split
    · with_reducible refine Outside.of (State.canopyStepped_frame _ _ _) (Outside.ite (Outside.of (State.unanchor_frame _) (Outside.foldl
                       (fun _ _ _ => Outside.of (State.steerApplied_frame _ _ _) (by assumption) ?_) (Outside.of (State.takeLength_frame _ _ _)
                       (by assumption) ?_)) ?_) (Outside.foldl (fun _ _ _ => Outside.of (State.steerApplied_frame _ _ _) (by assumption) ?_) (Outside.of
                       (State.takeLength_frame _ _ _) (by assumption) ?_))) ?_
      · rfl
      · rfl
      · rfl
      · rfl
      · rfl
      · rfl
    · with_reducible refine Outside.ite (Outside.of (State.unanchor_frame _) (Outside.foldl (fun _ _ _ => Outside.of
                       (State.steerApplied_frame _ _ _) (by assumption) ?_) (Outside.of (State.takeLength_frame _ _ _) (by assumption) ?_)) ?_)
                       (Outside.foldl (fun _ _ _ => Outside.of (State.steerApplied_frame _ _ _) (by assumption) ?_) (Outside.of (State.takeLength_frame _ _
                       _) (by assumption) ?_))
      · rfl
      · rfl
      · rfl
      · rfl
      · rfl
  · rfl
  · rfl

theorem State.holdoverMode_bob {r : State} (s : Sys2Proof.Machine.State) (a1 : Sys2Proof.Machine.TwinInputs) (a2 : Bool) (h : Outside r s) : Outside r (State.holdoverMode s a1 a2) := by
  unfold State.holdoverMode
  with_reducible refine Outside.of (State.holdBegins_frame _) (Outside.of (State.holdNow_frame _) (Outside.ite (Outside.of
                   (State.enterHoldover_frame _ _) (by assumption) ?_) (Outside.ite (Outside.of (State.leaveHoldover_frame _ _) (by assumption) ?_)
                   (by assumption))) ?_) ?_
  · rfl
  · rfl
  · rfl
  · rfl

theorem State.canopyUpdate_bob {r : State} (s : Sys2Proof.Machine.State) (h : Outside r s) : Outside r (State.canopyUpdate s) := by
  unfold State.canopyUpdate
  dsimp only
  simp only [State.mk_make]
  with_reducible refine Outside.of (State.coreBound_frame _) (Outside.of (State.publishCoast_frame _) (State.ensembleSlot_bob _
                   (State.servoTick_bob _ (Outside.ite (State.requestFirst_bob _ (Outside.of (State.takeObservations_frame _) (Outside.mk1 (by assumption))
                   ?_)) (Outside.of (State.takeObservations_frame _) (Outside.mk1 (by assumption)) ?_)))) ?_) ?_
  · rfl
  · rfl
  · rfl
  · rfl

theorem State.canopyTick_bob {r : State} (s : Sys2Proof.Machine.State) (a1 : Sys2Proof.Machine.TwinInputs) (h : Outside r s) : Outside r (State.canopyTick s a1) := by
  unfold State.canopyTick
  dsimp only
  with_reducible refine Outside.ite (Outside.of (State.discardEpoch_frame _) (Outside.of (State.coastBound_frame _) (State.holdoverMode_bob
                   _ _ _ (State.canopyInputs_bob _ _ (by assumption))) ?_) ?_) (State.canopyUpdate_bob _ (State.holdoverMode_bob _ _ _
                   (State.canopyInputs_bob _ _ (by assumption))))
  · rfl
  · rfl

theorem State.checkImages_bob {r : State} (s : Sys2Proof.Machine.State) (a1 : Sys2Proof.Machine.BootRead) (h : Outside r s) : Outside r (State.checkImages s a1) := by
  unfold State.checkImages
  dsimp only
  simp only [State.mk_make]
  split
  · with_reducible exact State.faulted_bob _ _ _ _ (by assumption)
  · with_reducible refine Outside.ite (State.faulted_bob _ _ _ _ (Outside.of (State.setO_frame _ _ _) (Outside.of (State.extendDigest_frame
                     _ _) (Outside.of (State.setN_frame _ _ _) (by assumption) ?_) ?_) ?_)) (Outside.ite (State.faulted_bob _ _ _ _ (Outside.of
                     (State.extendDigest_frame _ _) (Outside.of (State.setO_frame _ _ _) (Outside.of (State.extendDigest_frame _ _) (Outside.of
                     (State.setN_frame _ _ _) (by assumption) ?_) ?_) ?_) ?_)) (Outside.mk1 (Outside.of (State.loadCosts_frame _ _) (Outside.of
                     (State.extendDigest_frame _ _) (Outside.of (State.extendDigest_frame _ _) (Outside.of (State.setO_frame _ _ _) (Outside.of
                     (State.extendDigest_frame _ _) (Outside.of (State.setN_frame _ _ _) (by assumption) ?_) ?_) ?_) ?_) ?_) ?_)))
    · rfl
    · rfl
    · rfl
    · rfl
    · rfl
    · rfl
    · rfl
    · rfl
    · rfl
    · rfl
    · rfl
    · rfl
    · rfl

theorem State.clockLost_bob {r : State} (s : Sys2Proof.Machine.State) (a1 : Sys2Proof.Machine.ClockSource) (h : Outside r s) : Outside r (State.clockLost s a1) := by
  unfold State.clockLost
  dsimp only
  split
  · with_reducible refine State.faulted_bob _ _ _ _ (Outside.of (State.lossReaction_frame _ _) (Outside.of (State.inc_frame _ _) (Outside.of
                     (State.setN_frame _ _ _) (Outside.of (State.setN_frame _ _ _) (by assumption) ?_) ?_) ?_) ?_)
    · rfl
    · rfl
    · rfl
    · rfl
  · with_reducible refine Outside.of (State.lossReaction_frame _ _) (Outside.of (State.inc_frame _ _) (Outside.of (State.setN_frame _ _ _)
                     (Outside.of (State.setN_frame _ _ _) (by assumption) ?_) ?_) ?_) ?_
    · rfl
    · rfl
    · rfl
    · rfl

theorem State.compareDigest_bob {r : State} (s : Sys2Proof.Machine.State) (a1 : Sys2Proof.Machine.TwinInputs) (h : Outside r s) : Outside r (State.compareDigest s a1) := by
  unfold State.compareDigest
  dsimp only
  simp only [State.mk_make]
  with_reducible refine Outside.ite (by assumption) ?_
  split
  · with_reducible exact (by assumption)
  · with_reducible refine Outside.ite (by assumption) (Outside.ite (Outside.mk1 (by assumption)) (Outside.of (State.discardShadow_frame _)
                     (State.faulted_bob _ _ _ _ (Outside.of (State.inc_frame _ _) (by assumption) ?_)) ?_))
    · rfl
    · rfl

theorem State.dictArrive_bob {r : State} (s : Sys2Proof.Machine.State) (a1 : Sys2Proof.Machine.DictMsg) (h : Outside r s) : Outside r (State.dictArrive s a1) := by
  unfold State.dictArrive
  dsimp only
  simp only [State.mk_make]
  with_reducible refine Outside.ite (Outside.ite (Outside.of (State.placeRequest_frame _ _ _) (Outside.of (State.accept_frame _ _)
                   (by assumption) ?_) ?_) (Outside.of (State.accept_frame _ _) (by assumption) ?_)) (Outside.ite (Outside.of (State.serveMsg_frame _ _)
                   (Outside.ite (Outside.of (State.placeRequest_frame _ _ _) (Outside.of (State.accept_frame _ _) (by assumption) ?_) ?_) (Outside.of
                   (State.accept_frame _ _) (by assumption) ?_)) ?_) (Outside.ite (State.applyImmediate_bob _ _ (Outside.of (State.serveMsg_frame _ _)
                   (Outside.of (State.servedOne_frame _ _) (Outside.ite (Outside.of (State.placeRequest_frame _ _ _) (Outside.of (State.accept_frame _ _)
                   (by assumption) ?_) ?_) (Outside.of (State.accept_frame _ _) (by assumption) ?_)) ?_) ?_)) (Outside.mk1 (Outside.ite (Outside.of
                   (State.placeRequest_frame _ _ _) (Outside.of (State.accept_frame _ _) (by assumption) ?_) ?_) (Outside.of (State.accept_frame _ _)
                   (by assumption) ?_)))))
  · rfl
  · rfl
  · rfl
  · rfl
  · rfl
  · rfl
  · rfl
  · rfl
  · rfl
  · rfl
  · rfl
  · rfl
  · rfl
  · rfl
  · rfl

theorem State.stamperFault_bob {r : State} (s : Sys2Proof.Machine.State) (a1 : Nat) (h : Outside r s) : Outside r (State.stamperFault s a1) := by
  unfold State.stamperFault
  with_reducible refine State.portStop_bob _ _ (State.faulted_bob _ _ _ _ (Outside.of (State.stamperOut_frame _ _) (by assumption) ?_))
  rfl

theorem State.dllFail_bob {r : State} (s : Sys2Proof.Machine.State) (a1 : Nat) (h : Outside r s) : Outside r (State.dllFail s a1) := by
  unfold State.dllFail
  dsimp only
  with_reducible refine Outside.ite (State.stamperFault_bob _ _ (by assumption)) (Outside.of (State.setStamper_frame _ _ _) (by assumption)
                   ?_)
  rfl

theorem State.driveEdge_bob {r : State} (s : Sys2Proof.Machine.State) (a1 : Nat) (a2 : Nat) (a3 : Int) (h : Outside r s) : Outside r (State.driveEdge s a1 a2 a3) := by
  unfold State.driveEdge
  dsimp only
  with_reducible refine Outside.ite (Outside.of (State.setOut_frame _ _ _) (by assumption) ?_) (Outside.ite (Outside.of (State.setOut_frame
                   _ _ _) (by assumption) ?_) (Outside.ite (Outside.of (State.setOut_frame _ _ _) (by assumption) ?_) (Outside.ite (Outside.of
                   (State.setOut_frame _ _ _) (by assumption) ?_) (State.faulted_bob _ _ _ _ (Outside.of (State.inc_frame _ _) (Outside.of
                   (State.setOut_frame _ _ _) (by assumption) ?_) ?_)))))
  · rfl
  · rfl
  · rfl
  · rfl
  · rfl
  · rfl

theorem State.parallelPair_bob {r : State} (s : Sys2Proof.Machine.State) (a1 : Nat) (a2 : Sys2Proof.Machine.Capture) (a3 : Sys2Proof.Machine.Capture) (h : Outside r s) : Outside r (State.parallelPair s a1 a2 a3) := by
  unfold State.parallelPair
  dsimp only
  with_reducible refine Outside.ite (State.stamperFault_bob _ _ (by assumption)) (Outside.ite (State.stamperFault_bob _ _ (by assumption))
                   (Outside.ite (by assumption) (Outside.ite (Outside.of (State.setPort_frame _ _ _) (by assumption) ?_) (by assumption))))
  rfl

theorem State.takeStamp_bob {r : State} (s : Sys2Proof.Machine.State) (a1 : Nat) (a2 : Nat) (a3 : Int) (a4 : Sys2Proof.Machine.Capture) (a5 : Bool) (a6 : Bool) (h : Outside r s) : Outside r (State.takeStamp s a1 a2 a3 a4 a5 a6) := by
  unfold State.takeStamp
  dsimp only
  with_reducible refine Outside.ite (State.stamperFault_bob _ _ (by assumption)) (Outside.ite (Outside.of (State.setBlob_frame _ _ _)
                   (Outside.of (State.setPort_frame _ _ _) (by assumption) ?_) ?_) (Outside.of (State.setPort_frame _ _ _) (by assumption) ?_))
  · rfl
  · rfl
  · rfl

theorem State.selectedEdge_bob {r : State} (s : Sys2Proof.Machine.State) (a1 : Nat) (a2 : Int) (a3 : Sys2Proof.Machine.Capture) (a4 : Sys2Proof.Machine.Capture) (a5 : Bool) (h : Outside r s) : Outside r (State.selectedEdge s a1 a2 a3 a4 a5) := by
  unfold State.selectedEdge
  dsimp only
  with_reducible refine Outside.ite (Outside.ite (Outside.of (State.stalledStamp_frame _ _ _) (Outside.of (State.commitHeld_frame _ _ _)
                   (Outside.of (State.setPort_frame _ _ _) (by assumption) ?_) ?_) ?_) (Outside.of (State.commitHeld_frame _ _ _) (Outside.of
                   (State.setPort_frame _ _ _) (by assumption) ?_) ?_)) (Outside.ite (Outside.ite (Outside.ite (State.takeStamp_bob _ _ _ _ _ _ _ (Outside.of
                   (State.commitHeld_frame _ _ _) (Outside.of (State.setPort_frame _ _ _) (by assumption) ?_) ?_)) (State.takeStamp_bob _ _ _ _ _ _ _
                   (Outside.of (State.commitHeld_frame _ _ _) (Outside.of (State.setPort_frame _ _ _) (by assumption) ?_) ?_))) (Outside.of
                   (State.missStamp_frame _ _ _) (Outside.of (State.commitHeld_frame _ _ _) (Outside.of (State.setPort_frame _ _ _) (by assumption) ?_) ?_)
                   ?_)) (Outside.ite (Outside.ite (State.parallelPair_bob _ _ _ _ (Outside.ite (State.takeStamp_bob _ _ _ _ _ _ _ (Outside.of
                   (State.commitHeld_frame _ _ _) (Outside.of (State.setPort_frame _ _ _) (by assumption) ?_) ?_)) (State.takeStamp_bob _ _ _ _ _ _ _
                   (Outside.of (State.commitHeld_frame _ _ _) (Outside.of (State.setPort_frame _ _ _) (by assumption) ?_) ?_)))) (Outside.of
                   (State.missStamp_frame _ _ _) (Outside.of (State.commitHeld_frame _ _ _) (Outside.of (State.setPort_frame _ _ _) (by assumption) ?_) ?_)
                   ?_)) (Outside.of (State.commitHeld_frame _ _ _) (Outside.of (State.setPort_frame _ _ _) (by assumption) ?_) ?_)))
  · rfl
  · rfl
  · rfl
  · rfl
  · rfl
  · rfl
  · rfl
  · rfl
  · rfl
  · rfl
  · rfl
  · rfl
  · rfl
  · rfl
  · rfl
  · rfl
  · rfl
  · rfl
  · rfl
  · rfl
  · rfl

theorem State.edge_bob {r : State} (s : Sys2Proof.Machine.State) (a1 : Nat) (a2 : Int) (a3 : Sys2Proof.Machine.Capture) (a4 : Sys2Proof.Machine.Capture) (h : Outside r s) : Outside r (State.edge s a1 a2 a3 a4) := by
  unfold State.edge
  dsimp only
  with_reducible refine Outside.ite (Outside.of (State.drew_frame _) (by assumption) ?_) (Outside.ite (State.selectedEdge_bob _ _ _ _ _ _
                   (Outside.of (State.countEdge_frame _ _) (Outside.of (State.setPort_frame _ _ _) (Outside.ite (Outside.of (State.drew_frame _)
                   (by assumption) ?_) (by assumption)) ?_) ?_)) (Outside.of (State.countEdge_frame _ _) (Outside.of (State.setPort_frame _ _ _) (Outside.ite
                   (Outside.of (State.drew_frame _) (by assumption) ?_) (by assumption)) ?_) ?_))
  · rfl
  · rfl
  · rfl
  · rfl
  · rfl
  · rfl
  · rfl

theorem State.engineOut_bob {r : State} (s : Sys2Proof.Machine.State) (a1 : Nat) (a2 : Nat) (h : Outside r s) : Outside r (State.engineOut s a1 a2) := by
  unfold State.engineOut
  dsimp only
  simp only [State.mk_make]
  with_reducible refine Outside.ite (by assumption) (Outside.ite (Outside.of (State.countEngines_frame _ _) (Outside.ite (Outside.of
                   (State.setF_frame _ _ _) (Outside.of (State.setO_frame _ _ _) (Outside.of (State.setO_frame _ _ _) (by assumption) ?_) ?_) ?_) (Outside.of
                   (State.setO_frame _ _ _) (Outside.of (State.setO_frame _ _ _) (by assumption) ?_) ?_)) ?_) (Outside.ite (State.groveFault_bob _ _ ?_) ?_))
  · rfl
  · rfl
  · rfl
  · rfl
  · rfl
  · rfl
  · split
    · with_reducible refine Outside.of (State.laneDown_frame _ _ _ _) (Outside.of (State.inc_frame _ _) (Outside.mk1 (Outside.of
                       (State.setF_frame _ _ _) (Outside.of (State.setN_frame _ _ _) (Outside.of (State.setO_frame _ _ _) (Outside.ite (Outside.mk1
                       (Outside.of (State.countEngines_frame _ _) (Outside.ite (Outside.of (State.setF_frame _ _ _) (Outside.of (State.setO_frame _ _ _)
                       (Outside.of (State.setO_frame _ _ _) (by assumption) ?_) ?_) ?_) (Outside.of (State.setO_frame _ _ _) (Outside.of (State.setO_frame _
                       _ _) (by assumption) ?_) ?_)) ?_)) (Outside.of (State.countEngines_frame _ _) (Outside.ite (Outside.of (State.setF_frame _ _ _)
                       (Outside.of (State.setO_frame _ _ _) (Outside.of (State.setO_frame _ _ _) (by assumption) ?_) ?_) ?_) (Outside.of (State.setO_frame _
                       _ _) (Outside.of (State.setO_frame _ _ _) (by assumption) ?_) ?_)) ?_)) ?_) ?_) ?_)) ?_) ?_
      · rfl
      · rfl
      · rfl
      · rfl
      · rfl
      · rfl
      · rfl
      · rfl
      · rfl
      · rfl
      · rfl
      · rfl
      · rfl
      · rfl
      · rfl
      · rfl
      · rfl
    · with_reducible refine Outside.of (State.laneDown_frame _ _ _ _) (Outside.of (State.dropLane_frame _ _ _) (Outside.ite (Outside.mk1
                       (Outside.of (State.countEngines_frame _ _) (Outside.ite (Outside.of (State.setF_frame _ _ _) (Outside.of (State.setO_frame _ _ _)
                       (Outside.of (State.setO_frame _ _ _) (by assumption) ?_) ?_) ?_) (Outside.of (State.setO_frame _ _ _) (Outside.of (State.setO_frame _
                       _ _) (by assumption) ?_) ?_)) ?_)) (Outside.of (State.countEngines_frame _ _) (Outside.ite (Outside.of (State.setF_frame _ _ _)
                       (Outside.of (State.setO_frame _ _ _) (Outside.of (State.setO_frame _ _ _) (by assumption) ?_) ?_) ?_) (Outside.of (State.setO_frame _
                       _ _) (Outside.of (State.setO_frame _ _ _) (by assumption) ?_) ?_)) ?_)) ?_) ?_
      · rfl
      · rfl
      · rfl
      · rfl
      · rfl
      · rfl
      · rfl
      · rfl
      · rfl
      · rfl
      · rfl
      · rfl
      · rfl
      · rfl
  · split
    · with_reducible refine Outside.of (State.laneDown_frame _ _ _ _) (Outside.of (State.inc_frame _ _) (Outside.mk1 (Outside.of
                       (State.setF_frame _ _ _) (Outside.of (State.setN_frame _ _ _) (Outside.of (State.setO_frame _ _ _) (Outside.ite (Outside.mk1
                       (Outside.of (State.countEngines_frame _ _) (Outside.ite (Outside.of (State.setF_frame _ _ _) (Outside.of (State.setO_frame _ _ _)
                       (Outside.of (State.setO_frame _ _ _) (by assumption) ?_) ?_) ?_) (Outside.of (State.setO_frame _ _ _) (Outside.of (State.setO_frame _
                       _ _) (by assumption) ?_) ?_)) ?_)) (Outside.of (State.countEngines_frame _ _) (Outside.ite (Outside.of (State.setF_frame _ _ _)
                       (Outside.of (State.setO_frame _ _ _) (Outside.of (State.setO_frame _ _ _) (by assumption) ?_) ?_) ?_) (Outside.of (State.setO_frame _
                       _ _) (Outside.of (State.setO_frame _ _ _) (by assumption) ?_) ?_)) ?_)) ?_) ?_) ?_)) ?_) ?_
      · rfl
      · rfl
      · rfl
      · rfl
      · rfl
      · rfl
      · rfl
      · rfl
      · rfl
      · rfl
      · rfl
      · rfl
      · rfl
      · rfl
      · rfl
      · rfl
      · rfl
    · with_reducible refine Outside.of (State.laneDown_frame _ _ _ _) (Outside.of (State.dropLane_frame _ _ _) (Outside.ite (Outside.mk1
                       (Outside.of (State.countEngines_frame _ _) (Outside.ite (Outside.of (State.setF_frame _ _ _) (Outside.of (State.setO_frame _ _ _)
                       (Outside.of (State.setO_frame _ _ _) (by assumption) ?_) ?_) ?_) (Outside.of (State.setO_frame _ _ _) (Outside.of (State.setO_frame _
                       _ _) (by assumption) ?_) ?_)) ?_)) (Outside.of (State.countEngines_frame _ _) (Outside.ite (Outside.of (State.setF_frame _ _ _)
                       (Outside.of (State.setO_frame _ _ _) (Outside.of (State.setO_frame _ _ _) (by assumption) ?_) ?_) ?_) (Outside.of (State.setO_frame _
                       _ _) (Outside.of (State.setO_frame _ _ _) (by assumption) ?_) ?_)) ?_)) ?_) ?_
      · rfl
      · rfl
      · rfl
      · rfl
      · rfl
      · rfl
      · rfl
      · rfl
      · rfl
      · rfl
      · rfl
      · rfl
      · rfl
      · rfl

end Sys2Proof.Machine
end

