-- ==== Sys2Proof/Laws/Bobs1.lean ====
section
/-!
SUPPORT. The SRAM outside the bank of Bobbin under operations, part 1.
-/

namespace Sys2Proof.Machine

theorem State.engineFail_bob {r : State} (s : Sys2Proof.Machine.State) (a1 : Nat) (a2 : Nat) (h : Outside r s) : Outside r (State.engineFail s a1 a2) := by
  unfold State.engineFail
  dsimp only
  with_reducible exact Outside.ite (State.engineOut_bob _ _ _ (State.faulted_bob _ _ _ _ (by assumption))) (by assumption)

theorem State.memCe_bob {r : State} (s : Sys2Proof.Machine.State) (a1 : Nat) (a2 : Nat) (h : Outside r s) : Outside r (State.memCe s a1 a2) := by
  unfold State.memCe
  dsimp only
  simp only [State.mk_make]
  with_reducible refine Outside.mk1 (State.faulted_bob _ _ _ _ (Outside.of (State.inc_frame _ _) (by assumption) ?_))
  rfl

theorem State.slotCheck_bob {r : State} (s : Sys2Proof.Machine.State) (a1 : Nat) (h : Outside r s) : Outside r (State.slotCheck s a1) := by
  unfold State.slotCheck
  dsimp only
  simp only [State.mk_make]
  with_reducible refine Outside.ite ?_ (Outside.of (State.slotFail_frame _ _) (State.faulted_bob _ _ _ _ (by assumption)) ?_)
  · split
    · with_reducible refine Outside.of (State.showKeys_frame _) (Outside.mk1 (Outside.of (State.drew_frame _) (Outside.of (State.drew_frame
                       _) (Outside.of (State.slotFail_frame _ _) (State.faulted_bob _ _ _ _ (by assumption)) ?_) ?_) ?_)) ?_
      · rfl
      · rfl
      · rfl
      · rfl
    · with_reducible refine Outside.of (State.drew_frame _) (Outside.of (State.drew_frame _) (Outside.of (State.slotFail_frame _ _)
                       (State.faulted_bob _ _ _ _ (by assumption)) ?_) ?_) ?_
      · rfl
      · rfl
      · rfl
  · rfl

theorem State.steerFail_bob {r : State} (s : Sys2Proof.Machine.State) (a1 : Nat) (h : Outside r s) : Outside r (State.steerFail s a1) := by
  unfold State.steerFail
  dsimp only
  with_reducible refine Outside.ite (State.faulted_bob _ _ _ _ (Outside.of (State.setO_frame _ _ _) (Outside.of (State.inc_frame _ _)
                   (Outside.of (State.setDst_frame _ _ _) (by assumption) ?_) ?_) ?_)) (Outside.of (State.inc_frame _ _) (Outside.of (State.setDst_frame _ _
                   _) (by assumption) ?_) ?_)
  · rfl
  · rfl
  · rfl
  · rfl
  · rfl

theorem State.i2cFailed_bob {r : State} (s : Sys2Proof.Machine.State) (a1 : Nat) (a2 : Sys2Proof.Machine.I2cTrans) (a3 : Nat) (h : Outside r s) : Outside r (State.i2cFailed s a1 a2 a3) := by
  unfold State.i2cFailed
  split
  · with_reducible exact State.steerFail_bob _ _ (by assumption)
  · with_reducible refine Outside.of (State.i2cResult_frame _ _ _ _) (by assumption) ?_
    rfl

theorem State.i2cStuck_bob {r : State} (s : Sys2Proof.Machine.State) (a1 : Nat) (h : Outside r s) : Outside r (State.i2cStuck s a1) := by
  unfold State.i2cStuck
  dsimp only
  with_reducible refine State.faulted_bob _ _ _ _ (Outside.of (State.setO_frame _ _ _) (Outside.of (State.inc_frame _ _) (Outside.foldl (fun
                   _ _ _ => State.i2cFailed_bob _ _ _ _ (Outside.of (State.inc_frame _ _) (by assumption) ?_)) (Outside.of (State.setI2c_frame _ _ _)
                   (by assumption) ?_)) ?_) ?_)
  · rfl
  · rfl
  · rfl
  · rfl

theorem State.faultRest_bob {r : State} (s : Sys2Proof.Machine.State) (a1 : Sys2Proof.Machine.FaultOperand) (h : Outside r s) : Outside r (State.faultRest s a1) := by
  unfold State.faultRest
  dsimp only
  simp only [State.mk_make]
  split
  · with_reducible exact Outside.mk1 (State.faulted_bob _ _ _ _ (by assumption))
  · with_reducible exact Outside.ite (Outside.mk1 (by assumption)) (State.faulted_bob _ _ _ _ (by assumption))
  · with_reducible refine Outside.ite (Outside.of (State.discardShadow_frame _) (State.faulted_bob _ _ _ _ (by assumption)) ?_)
                     (State.faulted_bob _ _ _ _ (by assumption))
    rfl
  · with_reducible exact State.i2cStuck_bob _ _ (by assumption)
  · with_reducible exact State.faulted_bob _ _ _ _ (by assumption)

theorem State.forcedMiss_bob {r : State} (s : Sys2Proof.Machine.State) (a1 : Nat) (a2 : Bool) (h : Outside r s) : Outside r (State.forcedMiss s a1 a2) := by
  unfold State.forcedMiss
  dsimp only
  with_reducible refine Outside.ite (State.faulted_bob _ _ _ _ (Outside.of (State.inc_frame _ _) (Outside.of (State.setOut_frame _ _ _)
                   (by assumption) ?_) ?_)) (Outside.of (State.setOut_frame _ _ _) (by assumption) ?_)
  · rfl
  · rfl
  · rfl

theorem State.tapParity_bob {r : State} (s : Sys2Proof.Machine.State) (a1 : Nat) (a2 : List (Fin 9)) (h : Outside r s) : Outside r (State.tapParity s a1 a2) := by
  unfold State.tapParity
  dsimp only
  with_reducible refine Outside.foldl (fun _ _ _ => Outside.ite (by assumption) (Outside.ite (Outside.of (State.setChan_frame _ _ _)
                   (Outside.of (State.chanEnter_frame _ _ _) (State.faulted_bob _ _ _ _ (by assumption)) ?_) ?_) (State.faulted_bob _ _ _ _ (Outside.of
                   (State.setO_frame _ _ _) (Outside.of (State.setF_frame _ _ _) (Outside.of (State.setChan_frame _ _ _) (by assumption) ?_) ?_) ?_))))
                   (by assumption)
  · rfl
  · rfl
  · rfl
  · rfl
  · rfl

theorem State.faultTiming_bob {r : State} (s : Sys2Proof.Machine.State) (a1 : Sys2Proof.Machine.FaultOperand) (a2 : Option Nat) (h : Outside r s) : Outside r (State.faultTiming s a1 a2) := by
  unfold State.faultTiming
  dsimp only
  simp only [State.mk_make]
  split
  · with_reducible refine Outside.of (State.coastTick_frame _) (State.faulted_bob _ _ _ _ (by assumption)) ?_
    rfl
  · with_reducible refine Outside.of (State.coastTick_frame _) (State.faulted_bob _ _ _ _ (by assumption)) ?_
    rfl
  · with_reducible exact State.tableReject_bob _ _ (by assumption)
  · with_reducible exact Outside.ite (State.stamperFault_bob _ _ (by assumption)) (State.faulted_bob _ _ _ _ (by assumption))
  · with_reducible refine State.faulted_bob _ _ _ _ (Outside.ite (Outside.of (State.stamperOut_frame _ _) (Outside.ite (Outside.of
                     (State.stamperOut_frame _ _) (by assumption) ?_) (by assumption)) ?_) (Outside.ite (Outside.of (State.stamperOut_frame _ _)
                     (by assumption) ?_) (by assumption)))
    · rfl
    · rfl
    · rfl
  · with_reducible refine State.tapParity_bob _ _ _ (Outside.of (State.drew_frame _) (by assumption) ?_)
    rfl
  · with_reducible exact State.tapParity_bob _ _ _ (by assumption)
  · with_reducible refine Outside.of (State.solutionLost_frame _) (State.faulted_bob _ _ _ _ (by assumption)) ?_
    rfl
  · with_reducible exact State.memberFault_bob _ _ (by assumption)
  · with_reducible refine Outside.of (State.forceUnbounded_frame _) (Outside.mk1 (State.faulted_bob _ _ _ _ (by assumption))) ?_
    rfl
  · with_reducible exact State.forcedMiss_bob _ _ _ (by assumption)
  · with_reducible refine State.faulted_bob _ _ _ _ (Outside.of (State.setO_frame _ _ _) (Outside.of (State.setDst_frame _ _ _)
                     (by assumption) ?_) ?_)
    · rfl
    · rfl
  · with_reducible refine State.faulted_bob _ _ _ _ (Outside.of (State.setMac_frame _ _ _) (Outside.of (State.inc_frame _ _) (by assumption)
                     ?_) ?_)
    · rfl
    · rfl
  · with_reducible exact State.faulted_bob _ _ _ _ (by assumption)

theorem State.pllBypassOne_bob {r : State} (s : Sys2Proof.Machine.State) (a1 : Nat) (h : Outside r s) : Outside r (State.pllBypassOne s a1) := by
  unfold State.pllBypassOne
  dsimp only
  with_reducible refine Outside.ite ?_ (Outside.ite (Outside.of (State.setO_frame _ _ _) (Outside.of (State.inc_frame _ _) (Outside.of
                   (State.setO_frame _ _ _) (by assumption) ?_) ?_) ?_) (Outside.of (State.inc_frame _ _) (Outside.of (State.setO_frame _ _ _)
                   (by assumption) ?_) ?_))
  · split
    · with_reducible refine State.clockLost_bob _ _ (Outside.ite (Outside.of (State.setO_frame _ _ _) (Outside.of (State.inc_frame _ _)
                       (Outside.of (State.setO_frame _ _ _) (by assumption) ?_) ?_) ?_) (Outside.of (State.inc_frame _ _) (Outside.of (State.setO_frame _ _
                       _) (by assumption) ?_) ?_))
      · rfl
      · rfl
      · rfl
      · rfl
      · rfl
    · with_reducible refine Outside.ite (Outside.of (State.setO_frame _ _ _) (Outside.of (State.inc_frame _ _) (Outside.of (State.setO_frame
                       _ _ _) (by assumption) ?_) ?_) ?_) (Outside.of (State.inc_frame _ _) (Outside.of (State.setO_frame _ _ _) (by assumption) ?_) ?_)
      · rfl
      · rfl
      · rfl
      · rfl
      · rfl
  · rfl
  · rfl
  · rfl
  · rfl
  · rfl

theorem State.pllBypass_bob {r : State} (s : Sys2Proof.Machine.State) (a1 : Nat) (h : Outside r s) : Outside r (State.pllBypass s a1) := by
  unfold State.pllBypass
  dsimp only
  with_reducible exact Outside.ite (Outside.foldl (fun _ _ _ => Outside.ite (State.pllBypassOne_bob _ _ (by assumption)) (by assumption))
                   (State.pllBypassOne_bob _ _ (by assumption))) (Outside.ite (Outside.foldl (fun _ _ _ => Outside.ite (State.pllBypassOne_bob _ _
                   (by assumption)) (by assumption)) (State.pllBypassOne_bob _ _ (by assumption))) (State.pllBypassOne_bob _ _ (by assumption)))

theorem State.reportClock_bob {r : State} (s : Sys2Proof.Machine.State) (a1 : Sys2Proof.Machine.ClockSource) (a2 : Sys2Proof.Machine.FaultOperand) (h : Outside r s) : Outside r (State.reportClock s a1 a2) := by
  unfold State.reportClock
  with_reducible refine Outside.ite ?_ (State.faulted_bob _ _ _ _ (by assumption))
  split
  · with_reducible exact Outside.ite (State.pllBypass_bob _ _ (by assumption)) (State.clockLost_bob _ _ (by assumption))
  · with_reducible exact State.clockLost_bob _ _ (by assumption)

theorem State.journalTables_bob {r : State} (s : Sys2Proof.Machine.State) (a1 : Sys2Proof.Machine.Journal) (h : Outside r s) : Outside r (State.journalTables s a1) := by
  unfold State.journalTables
  dsimp only
  with_reducible refine Outside.ite (Outside.of (State.setO_frame _ _ _) (Outside.ite (Outside.foldl (fun _ _ _ => Outside.ite
                   (by assumption) (Outside.of (State.setBlob_frame _ _ _) (by assumption) ?_)) (Outside.foldl (fun _ _ _ => Outside.of (State.setN_frame _ _
                   _) (Outside.of (State.setBlob_frame _ _ _) (by assumption) ?_) ?_) (by assumption))) (Outside.of (State.setO_frame _ _ _) (Outside.foldl
                   (fun _ _ _ => Outside.ite (by assumption) (Outside.of (State.setBlob_frame _ _ _) (by assumption) ?_)) (Outside.foldl (fun _ _ _ =>
                   Outside.of (State.setN_frame _ _ _) (Outside.of (State.setBlob_frame _ _ _) (by assumption) ?_) ?_) (by assumption))) ?_)) ?_)
                   (Outside.ite (Outside.foldl (fun _ _ _ => Outside.ite (by assumption) (Outside.of (State.setBlob_frame _ _ _) (by assumption) ?_))
                   (Outside.foldl (fun _ _ _ => Outside.of (State.setN_frame _ _ _) (Outside.of (State.setBlob_frame _ _ _) (by assumption) ?_) ?_)
                   (by assumption))) (Outside.of (State.setO_frame _ _ _) (Outside.foldl (fun _ _ _ => Outside.ite (by assumption) (Outside.of
                   (State.setBlob_frame _ _ _) (by assumption) ?_)) (Outside.foldl (fun _ _ _ => Outside.of (State.setN_frame _ _ _) (Outside.of
                   (State.setBlob_frame _ _ _) (by assumption) ?_) ?_) (by assumption))) ?_))
  · rfl
  · rfl
  · rfl
  · rfl
  · rfl
  · rfl
  · rfl
  · rfl
  · rfl
  · rfl
  · rfl
  · rfl
  · rfl
  · rfl
  · rfl

theorem State.journalValues_bob {r : State} (s : Sys2Proof.Machine.State) (a1 : Sys2Proof.Machine.Journal) (h : Outside r s) : Outside r (State.journalValues s a1) := by
  unfold State.journalValues
  dsimp only
  simp only [State.mk_make]
  with_reducible refine Outside.mk1 ?_
  split
  · with_reducible refine Outside.of (State.setN_frame _ _ _) (Outside.of (State.setN_frame _ _ _) (Outside.of (State.setN_frame _ _ _)
                     (Outside.foldl (fun _ _ _ => Outside.of (State.setN_frame _ _ _) (by assumption) ?_) (Outside.ite (Outside.mk1 (Outside.of
                     (State.setN_frame _ _ _) (Outside.of (State.setN_frame _ _ _) (Outside.of (State.setN_frame _ _ _) (by assumption) ?_) ?_) ?_))
                     (Outside.of (State.setN_frame _ _ _) (Outside.of (State.setN_frame _ _ _) (by assumption) ?_) ?_))) ?_) ?_) ?_
    · rfl
    · rfl
    · rfl
    · rfl
    · rfl
    · rfl
    · rfl
    · rfl
    · rfl
  · with_reducible refine Outside.foldl (fun _ _ _ => Outside.of (State.setN_frame _ _ _) (by assumption) ?_) (Outside.ite (Outside.mk1
                     (Outside.of (State.setN_frame _ _ _) (Outside.of (State.setN_frame _ _ _) (Outside.of (State.setN_frame _ _ _) (by assumption) ?_) ?_)
                     ?_)) (Outside.of (State.setN_frame _ _ _) (Outside.of (State.setN_frame _ _ _) (by assumption) ?_) ?_))
    · rfl
    · rfl
    · rfl
    · rfl
    · rfl
    · rfl

theorem State.journalRead_bob {r : State} (s : Sys2Proof.Machine.State) (h : Outside r s) : Outside r (State.journalRead s) := by
  unfold State.journalRead
  dsimp only
  split
  · with_reducible refine Outside.foldl (fun _ _ _ => Outside.ite (State.faulted_bob _ _ _ _ (Outside.of (State.inc_frame _ _)
                     (by assumption) ?_)) (by assumption)) (by assumption)
    rfl
  · with_reducible refine State.journalValues_bob _ _ (State.journalTables_bob _ _ (Outside.of (State.setN_frame _ _ _) (Outside.of
                     (State.setN_frame _ _ _) (Outside.foldl (fun _ _ _ => Outside.ite (State.faulted_bob _ _ _ _ (Outside.of (State.inc_frame _ _)
                     (by assumption) ?_)) (by assumption)) (by assumption)) ?_) ?_))
    · rfl
    · rfl
    · rfl

theorem State.journalFail_bob {r : State} (s : Sys2Proof.Machine.State) (a1 : Sys2Proof.Machine.JournalWrite) (h : Outside r s) : Outside r (State.journalFail s a1) := by
  unfold State.journalFail
  dsimp only
  simp only [State.mk_make]
  with_reducible refine Outside.of (State.flashNext_frame _) (State.faulted_bob _ _ _ _ (Outside.of (State.inc_frame _ _) (Outside.mk1
                   (by assumption)) ?_)) ?_
  · rfl
  · rfl

theorem State.flashComplete_bob {r : State} (s : Sys2Proof.Machine.State) (a1 : Bool) (h : Outside r s) : Outside r (State.flashComplete s a1) := by
  unfold State.flashComplete
  split
  · with_reducible refine Outside.of (State.flashDone_frame _ _ _) (by assumption) ?_
    rfl
  · with_reducible exact Outside.ite (State.journalFail_bob _ _ (by assumption)) (by assumption)
  · with_reducible exact (by assumption)

theorem State.send_bob {r : State} (s : Sys2Proof.Machine.State) (a1 : Nat) (a2 : Nat) (a3 : Sys2Proof.Machine.TxFrame) (a4 : Int) (h : Outside r s) : Outside r (State.send s a1 a2 a3 a4) := by
  unfold State.send
  dsimp only
  simp only [State.mk_make]
  split
  · with_reducible refine Outside.ite (State.faulted_bob _ _ _ _ (Outside.of (State.setMac_frame _ _ _) (Outside.of (State.inc_frame _ _)
                     (Outside.of (State.completeOf_frame _ _ _ _ _) ?_ ?_) ?_) ?_)) (Outside.of (State.completeOf_frame _ _ _ _ _) ?_ ?_)
    · split
      · with_reducible refine Outside.mk1 (Outside.of (State.setMac_frame _ _ _) (Outside.of (State.addHw_frame _ _ _ _ _) (Outside.of
                         (State.addHw_frame _ _ _ _ _) (Outside.of (State.redundancy_frame _ _ _) (Outside.of (State.dequeue_frame _ _ _) (by assumption) ?_)
                         ?_) ?_) ?_) ?_)
        · rfl
        · rfl
        · rfl
        · rfl
        · rfl
      · with_reducible refine Outside.of (State.setMac_frame _ _ _) (Outside.of (State.addHw_frame _ _ _ _ _) (Outside.of (State.addHw_frame
                         _ _ _ _ _) (Outside.of (State.redundancy_frame _ _ _) (Outside.of (State.dequeue_frame _ _ _) (by assumption) ?_) ?_) ?_) ?_) ?_
        · rfl
        · rfl
        · rfl
        · rfl
        · rfl
    · rfl
    · rfl
    · rfl
    · split
      · with_reducible refine Outside.mk1 (Outside.of (State.setMac_frame _ _ _) (Outside.of (State.addHw_frame _ _ _ _ _) (Outside.of
                         (State.addHw_frame _ _ _ _ _) (Outside.of (State.redundancy_frame _ _ _) (Outside.of (State.dequeue_frame _ _ _) (by assumption) ?_)
                         ?_) ?_) ?_) ?_)
        · rfl
        · rfl
        · rfl
        · rfl
        · rfl
      · with_reducible refine Outside.of (State.setMac_frame _ _ _) (Outside.of (State.addHw_frame _ _ _ _ _) (Outside.of (State.addHw_frame
                         _ _ _ _ _) (Outside.of (State.redundancy_frame _ _ _) (Outside.of (State.dequeue_frame _ _ _) (by assumption) ?_) ?_) ?_) ?_) ?_
        · rfl
        · rfl
        · rfl
        · rfl
        · rfl
    · rfl
  · with_reducible refine Outside.of (State.completeOf_frame _ _ _ _ _) ?_ ?_
    · split
      · with_reducible refine Outside.mk1 (Outside.of (State.setMac_frame _ _ _) (Outside.of (State.addHw_frame _ _ _ _ _) (Outside.of
                         (State.addHw_frame _ _ _ _ _) (Outside.of (State.redundancy_frame _ _ _) (Outside.of (State.dequeue_frame _ _ _) (by assumption) ?_)
                         ?_) ?_) ?_) ?_)
        · rfl
        · rfl
        · rfl
        · rfl
        · rfl
      · with_reducible refine Outside.of (State.setMac_frame _ _ _) (Outside.of (State.addHw_frame _ _ _ _ _) (Outside.of (State.addHw_frame
                         _ _ _ _ _) (Outside.of (State.redundancy_frame _ _ _) (Outside.of (State.dequeue_frame _ _ _) (by assumption) ?_) ?_) ?_) ?_) ?_
        · rfl
        · rfl
        · rfl
        · rfl
        · rfl
    · rfl

theorem State.frameLaunch_bob {r : State} (s : Sys2Proof.Machine.State) (a1 : Nat) (a2 : Nat) (a3 : Nat) (h : Outside r s) : Outside r (State.frameLaunch s a1 a2 a3) := by
  unfold State.frameLaunch
  dsimp only
  split
  · with_reducible exact (by assumption)
  · with_reducible refine Outside.ite (by assumption) (Outside.ite (Outside.of (State.completeOf_frame _ _ _ _ _) (Outside.of
                     (State.inc_frame _ _) (Outside.of (State.dequeue_frame _ _ _) (by assumption) ?_) ?_) ?_) (Outside.ite ?_ (Outside.ite (Outside.of
                     (State.inc_frame _ _) (Outside.of (State.dequeue_frame _ _ _) (by assumption) ?_) ?_) (Outside.ite (Outside.of (State.inc_frame _ _)
                     (Outside.of (State.dequeue_frame _ _ _) (by assumption) ?_) ?_) (State.send_bob _ _ _ _ _ (by assumption))))))
    · rfl
    · rfl
    · rfl
    · split
      · with_reducible refine Outside.of (State.inc_frame _ _) (Outside.of (State.dequeue_frame _ _ _) (by assumption) ?_) ?_
        · rfl
        · rfl
      · with_reducible refine Outside.of (State.completeOf_frame _ _ _ _ _) (Outside.of (State.dequeue_frame _ _ _) (by assumption) ?_) ?_
        · rfl
        · rfl
    · rfl
    · rfl
    · rfl
    · rfl

theorem State.i2cAttempt_bob {r : State} (s : Sys2Proof.Machine.State) (a1 : Nat) (a2 : Bool) (h : Outside r s) : Outside r (State.i2cAttempt s a1 a2) := by
  unfold State.i2cAttempt
  dsimp only
  with_reducible refine Outside.ite (Outside.ite (Outside.of (State.setO_frame _ _ _) (Outside.of (State.setI2c_frame _ _ _) (by assumption)
                   ?_) ?_) (Outside.ite (Outside.of (State.setI2c_frame _ _ _) (by assumption) ?_) (State.i2cStuck_bob _ _ (Outside.of (State.setI2c_frame _
                   _ _) (by assumption) ?_)))) (Outside.ite (Outside.ite (Outside.of (State.setO_frame _ _ _) (Outside.of (State.inc_frame _ _)
                   (by assumption) ?_) ?_) (by assumption)) (by assumption))
  · rfl
  · rfl
  · rfl
  · rfl
  · rfl
  · rfl

theorem State.i2cBusFree_bob {r : State} (s : Sys2Proof.Machine.State) (a1 : Nat) (h : Outside r s) : Outside r (State.i2cBusFree s a1) := by
  unfold State.i2cBusFree
  dsimp only
  split
  · with_reducible exact (by assumption)
  · with_reducible refine Outside.ite (by assumption) (Outside.ite (State.i2cFailed_bob _ _ _ _ (Outside.of (State.inc_frame _ _)
                     (Outside.of (State.i2cFree_frame _ _) (by assumption) ?_) ?_)) (Outside.of (State.setI2c_frame _ _ _) (by assumption) ?_))
    · rfl
    · rfl
    · rfl

theorem State.i2cDone_bob {r : State} (s : Sys2Proof.Machine.State) (a1 : Nat) (a2 : Sys2Proof.Machine.I2cEnd) (h : Outside r s) : Outside r (State.i2cDone s a1 a2) := by
  unfold State.i2cDone
  dsimp only
  split
  · with_reducible exact (by assumption)
  · with_reducible refine Outside.ite (by assumption) ?_
    split
    · with_reducible refine Outside.of (State.steerSent_frame _ _) (Outside.of (State.i2cFree_frame _ _) (by assumption) ?_) ?_
      · rfl
      · rfl
    · with_reducible refine Outside.of (State.i2cResult_frame _ _ _ _) (Outside.of (State.i2cFree_frame _ _) (by assumption) ?_) ?_
      · rfl
      · rfl
    · with_reducible refine State.i2cFailed_bob _ _ _ _ (Outside.of (State.inc_frame _ _) (Outside.of (State.i2cFree_frame _ _)
                       (by assumption) ?_) ?_)
      · rfl
      · rfl
    · with_reducible refine State.i2cFailed_bob _ _ _ _ (Outside.of (State.inc_frame _ _) (Outside.of (State.i2cFree_frame _ _)
                       (by assumption) ?_) ?_)
      · rfl
      · rfl

theorem State.i2cStretch_bob {r : State} (s : Sys2Proof.Machine.State) (a1 : Nat) (a2 : Sys2Proof.Machine.I2cLines) (h : Outside r s) : Outside r (State.i2cStretch s a1 a2) := by
  unfold State.i2cStretch
  split
  · with_reducible exact (by assumption)
  · with_reducible refine Outside.of (State.i2cReset_frame _ _ _) (State.i2cFailed_bob _ _ _ _ (Outside.of (State.i2cFree_frame _ _)
                     (by assumption) ?_)) ?_
    · rfl
    · rfl

theorem State.initRun_bob {r : State} (s : Sys2Proof.Machine.State) (a1 : Nat) (a2 : List Nat) (h : Outside r s) : Outside r (State.initRun s a1 a2) := by
  unfold State.initRun
  dsimp only
  with_reducible refine Outside.ite (Outside.of (State.setStamper_frame _ _ _) (Outside.of (State.setStamper_frame _ _ _) (Outside.ite
                   (Outside.of (State.inc_frame _ _) (by assumption) ?_) (by assumption)) ?_) ?_) ?_
  · rfl
  · rfl
  · rfl
  · split
    · with_reducible refine Outside.of (State.newTable_frame _ _ _ _) (Outside.of (State.setStamper_frame _ _ _) (Outside.ite (Outside.of
                       (State.inc_frame _ _) (by assumption) ?_) (by assumption)) ?_) ?_
      · rfl
      · rfl
      · rfl
    · with_reducible refine State.tableReject_bob _ _ (Outside.of (State.setStamper_frame _ _ _) (Outside.ite (Outside.of (State.inc_frame _
                       _) (by assumption) ?_) (by assumption)) ?_)
      · rfl
      · rfl

theorem State.integrate_bob {r : State} (s : Sys2Proof.Machine.State) (a1 : Nat) (a2 : Sys2Proof.Machine.TapSums) (a3 : Sys2Proof.Machine.Integration) (h : Outside r s) : Outside r (State.integrate s a1 a2 a3) := by
  unfold State.integrate
  dsimp only
  with_reducible refine Outside.ite (State.tapParity_bob _ _ _ (Outside.of (State.loopTransition_frame _ _ _) (Outside.of
                   (State.setChan_frame _ _ _) (by assumption) ?_) ?_)) (State.tapParity_bob _ _ _ (Outside.of (State.loopTransition_frame _ _ _) (Outside.of
                   (State.setChan_frame _ _ _) (Outside.of (State.closeLoops_frame _ _ _ _ _) (Outside.of (State.setChan_frame _ _ _) (by assumption) ?_) ?_)
                   ?_) ?_))
  · rfl
  · rfl
  · rfl
  · rfl
  · rfl
  · rfl

theorem State.integrationEnd_bob {r : State} (s : Sys2Proof.Machine.State) (a1 : Nat) (a2 : Sys2Proof.Machine.Integration) (h : Outside r s) : Outside r (State.integrationEnd s a1 a2) := by
  unfold State.integrationEnd
  dsimp only
  split
  · with_reducible refine State.integrate_bob _ _ _ _ (Outside.of (State.setChan_frame _ _ _) (by assumption) ?_)
    rfl
  · with_reducible exact (by assumption)

theorem State.journalDone_bob {r : State} (s : Sys2Proof.Machine.State) (a1 : Bool) (h : Outside r s) : Outside r (State.journalDone s a1) := by
  unfold State.journalDone
  dsimp only
  simp only [State.mk_make]
  split
  · with_reducible exact (by assumption)
  · with_reducible refine Outside.ite (by assumption) (Outside.ite (Outside.of (State.flashNext_frame _) (Outside.of (State.inc_frame _ _)
                     (Outside.of (State.setN_frame _ _ _) (Outside.of (State.setN_frame _ _ _) (Outside.mk1 (by assumption)) ?_) ?_) ?_) ?_)
                     (State.journalFail_bob _ _ (by assumption)))
    · rfl
    · rfl
    · rfl
    · rfl

theorem State.unfinished_bob {r : State} (s : Sys2Proof.Machine.State) (a1 : Sys2Proof.Machine.Unfinished) (h : Outside r s) : Outside r (State.unfinished s a1).1 := by
  unfold State.unfinished
  dsimp only
  simp only [State.mk_make]
  split
  · with_reducible refine Outside.of (State.stampOverrun_frame _ _) (by assumption) ?_
    rfl
  · with_reducible refine Outside.of (State.gladeDumpMissing_frame _) (by assumption) ?_
    rfl
  · with_reducible exact Outside.mk1 (by assumption)
  · with_reducible refine Outside.of (State.sendAgree_frame _ _) (Outside.mk1 (Outside.of (State.coastTick_frame _) (State.faulted_bob _ _ _
                     _ (by assumption)) ?_)) ?_
    · rfl
    · rfl
  · with_reducible exact Outside.mk1 (by assumption)
  · with_reducible exact State.engineFail_bob _ _ _ (Outside.mk1 (by assumption))
  · with_reducible refine Outside.of (State.inc_frame _ _) (Outside.mk1 (by assumption)) ?_
    rfl
  · with_reducible refine Outside.of (State.dumpDiscard_frame _ _) (Outside.of (State.dumpDiscard_frame _ _) (by assumption) ?_) ?_
    · rfl
    · rfl
  · with_reducible exact (by assumption)
  · with_reducible refine Outside.of (State.keyframeMissed_frame _) (by assumption) ?_
    rfl

theorem State.overrun_bob {r : State} (s : Sys2Proof.Machine.State) (a1 : Sys2Proof.Machine.Unfinished) (h : Outside r s) : Outside r (State.overrun s a1) := by
  unfold State.overrun
  dsimp only
  simp only [State.mk_make]
  with_reducible refine Outside.of (State.setN_frame _ _ _) (Outside.of (State.addN_frame _ _ _) (Outside.ite (State.unfinished_bob _ _
                   (by assumption)) (Outside.of (State.inc_frame _ _) (Outside.mk1 (State.unfinished_bob _ _ (by assumption))) ?_)) ?_) ?_
  · rfl
  · rfl
  · rfl

theorem State.recalEnd_bob {r : State} (s : Sys2Proof.Machine.State) (a1 : Nat) (a2 : List Nat) (h : Outside r s) : Outside r (State.recalEnd s a1 a2) := by
  unfold State.recalEnd
  dsimp only
  with_reducible refine Outside.ite (State.addRun_bob _ _ _ (Outside.ite (Outside.of (State.inc_frame _ _) (by assumption) ?_)
                   (by assumption))) (Outside.of (State.stamperActive_frame _ _) (Outside.of (State.measureSkew_frame _ _ _ _) (State.addRun_bob _ _ _
                   (Outside.ite (Outside.of (State.inc_frame _ _) (by assumption) ?_) (by assumption))) ?_) ?_)
  · rfl
  · rfl
  · rfl
  · rfl

theorem State.released_bob {r : State} (s : Sys2Proof.Machine.State) (a1 : Bool) (a2 : Nat) (a3 : Sys2Proof.Machine.I2cLines × Sys2Proof.Machine.I2cLines) (h : Outside r s) : Outside r (State.released s a1 a2 a3) := by
  unfold State.released
  dsimp only
  simp only [State.mk_make]
  with_reducible refine Outside.ite (State.faulted_bob _ _ _ _ (Outside.of (State.i2cReset_frame _ _ _) (Outside.of (State.i2cReset_frame _
                   _ _) (Outside.ite (Outside.of (State.setN_frame _ _ _) (Outside.of (State.pllStart_frame _ _) (Outside.of (State.setO_frame _ _ _)
                   (Outside.of (State.setN_frame _ _ _) (Outside.of (State.setN_frame _ _ _) (Outside.of (State.setF_frame _ _ _) (Outside.of
                   (State.changeMode_frame _ _) (Outside.mk1 (by assumption)) ?_) ?_) ?_) ?_) ?_) ?_) ?_) (Outside.of (State.setN_frame _ _ _) (Outside.of
                   (State.setN_frame _ _ _) (Outside.of (State.pllStart_frame _ _) (Outside.of (State.setO_frame _ _ _) (Outside.of (State.setN_frame _ _ _)
                   (Outside.of (State.setN_frame _ _ _) (Outside.of (State.setF_frame _ _ _) (Outside.of (State.changeMode_frame _ _) (Outside.mk1
                   (by assumption)) ?_) ?_) ?_) ?_) ?_) ?_) ?_) ?_)) ?_) ?_)) (Outside.ite (State.faulted_bob _ _ _ _ (Outside.of (State.i2cReset_frame _ _
                   _) (Outside.of (State.i2cReset_frame _ _ _) (Outside.ite (Outside.of (State.setN_frame _ _ _) (Outside.of (State.pllStart_frame _ _)
                   (Outside.of (State.setO_frame _ _ _) (Outside.of (State.setN_frame _ _ _) (Outside.of (State.setN_frame _ _ _) (Outside.of
                   (State.setF_frame _ _ _) (Outside.of (State.changeMode_frame _ _) (Outside.mk1 (by assumption)) ?_) ?_) ?_) ?_) ?_) ?_) ?_) (Outside.of
                   (State.setN_frame _ _ _) (Outside.of (State.setN_frame _ _ _) (Outside.of (State.pllStart_frame _ _) (Outside.of (State.setO_frame _ _ _)
                   (Outside.of (State.setN_frame _ _ _) (Outside.of (State.setN_frame _ _ _) (Outside.of (State.setF_frame _ _ _) (Outside.of
                   (State.changeMode_frame _ _) (Outside.mk1 (by assumption)) ?_) ?_) ?_) ?_) ?_) ?_) ?_) ?_)) ?_) ?_)) (Outside.of (State.i2cReset_frame _ _
                   _) (Outside.of (State.i2cReset_frame _ _ _) (Outside.ite (Outside.of (State.setN_frame _ _ _) (Outside.of (State.pllStart_frame _ _)
                   (Outside.of (State.setO_frame _ _ _) (Outside.of (State.setN_frame _ _ _) (Outside.of (State.setN_frame _ _ _) (Outside.of
                   (State.setF_frame _ _ _) (Outside.of (State.changeMode_frame _ _) (Outside.mk1 (by assumption)) ?_) ?_) ?_) ?_) ?_) ?_) ?_) (Outside.of
                   (State.setN_frame _ _ _) (Outside.of (State.setN_frame _ _ _) (Outside.of (State.pllStart_frame _ _) (Outside.of (State.setO_frame _ _ _)
                   (Outside.of (State.setN_frame _ _ _) (Outside.of (State.setN_frame _ _ _) (Outside.of (State.setF_frame _ _ _) (Outside.of
                   (State.changeMode_frame _ _) (Outside.mk1 (by assumption)) ?_) ?_) ?_) ?_) ?_) ?_) ?_) ?_)) ?_) ?_))
  · rfl
  · rfl
  · rfl
  · rfl
  · rfl
  · rfl
  · rfl
  · rfl
  · rfl
  · rfl
  · rfl
  · rfl
  · rfl
  · rfl
  · rfl
  · rfl
  · rfl
  · rfl
  · rfl
  · rfl
  · rfl
  · rfl
  · rfl
  · rfl
  · rfl
  · rfl
  · rfl
  · rfl
  · rfl
  · rfl
  · rfl
  · rfl
  · rfl
  · rfl
  · rfl
  · rfl
  · rfl
  · rfl
  · rfl
  · rfl
  · rfl
  · rfl
  · rfl
  · rfl
  · rfl
  · rfl
  · rfl
  · rfl
  · rfl
  · rfl
  · rfl

theorem State.replayRun_bob {r : State} (s : Sys2Proof.Machine.State) (a1 : Sys2Proof.Machine.CanopyImage) (a2 : Sys2Proof.Machine.FeedRecord) (h : Outside r s) : Outside r (State.replayRun s a1 a2).1 := by
  unfold State.replayRun
  dsimp only
  simp only [State.mk_make]
  with_reducible refine State.canopyTick_bob _ _ (Outside.of (State.project_frame _ _) (Outside.foldl (fun _ _ _ => Outside.of
                   (State.imageWrite_frame _ _) (by assumption) ?_) (Outside.mk1 (by assumption))) ?_)
  · rfl
  · rfl

theorem State.replayTick_bob {r : State} (s : Sys2Proof.Machine.State) (a1 : Sys2Proof.Machine.FeedRecord) (h : Outside r s) : Outside r (State.replayTick s a1) := by
  unfold State.replayTick
  dsimp only
  split
  · with_reducible exact (by assumption)
  · with_reducible refine Outside.ite (Outside.of (State.replayEnd_frame _ _ _) (by assumption) ?_) (Outside.ite (Outside.of
                     (State.replayEnd_frame _ _ _) (by assumption) ?_) (Outside.ite (Outside.of (State.replayEnd_frame _ _ _) (by assumption) ?_)
                     (Outside.ite (Outside.of (State.replayEnd_frame _ _ _) (Outside.ite (Outside.of (State.replayDiffer_frame _ _) (Outside.of
                     (State.replayOut_frame _ _) (by assumption) ?_) ?_) (Outside.of (State.replayOut_frame _ _) (by assumption) ?_)) ?_) (Outside.of
                     (State.replayPast_frame _ _ _) (Outside.ite (Outside.of (State.replayDiffer_frame _ _) (Outside.of (State.replayOut_frame _ _)
                     (by assumption) ?_) ?_) (Outside.of (State.replayOut_frame _ _) (by assumption) ?_)) ?_))))
    · rfl
    · rfl
    · rfl
    · rfl
    · rfl
    · rfl
    · rfl
    · rfl
    · rfl
    · rfl
    · rfl

theorem State.replayTicks_bob {r : State} (s : Sys2Proof.Machine.State) (a1 : Nat) (a2 : List Sys2Proof.Machine.FeedRecord) (h : Outside r s) : Outside r (State.replayTicks s a1 a2) := by
  induction a2 generalizing s a1 with
  | nil => cases a1 <;> exact h
  | cons v t ih =>
  cases a1 with
  | zero => exact h
  | succ n =>
  unfold State.replayTicks
  try dsimp only
  try simp only [State.mk_make]
  repeat' first
    | with_reducible assumption
    | with_reducible intro _ _ _
    | with_reducible intro _ _
    | with_reducible apply ih
    | with_reducible apply Outside.mk1
    | with_reducible apply State.replayTick_bob
    | with_reducible apply Outside.foldl
    | with_reducible apply Outside.foldlFst
    | with_reducible refine Outside.fst (by assumption) ?_
    | with_reducible apply Outside.ite
    | with_reducible apply Outside.iteFst
    | split
    | rfl
    | decide


theorem State.replayW1_bob {r : State} (s : Sys2Proof.Machine.State) (a1 : List Sys2Proof.Machine.FeedRecord) (h : Outside r s) : Outside r (State.replayW1 s a1) := by
  unfold State.replayW1
  dsimp only
  with_reducible refine Outside.ite (Outside.ite (State.replayTicks_bob _ _ _ (Outside.of (State.setO_frame _ _ _) (Outside.of
                   (State.saveReplay_frame _) (by assumption) ?_) ?_)) (Outside.of (State.setO_frame _ _ _) (Outside.of (State.saveReplay_frame _)
                   (by assumption) ?_) ?_)) (Outside.of (State.saveReplay_frame _) (by assumption) ?_)
  · rfl
  · rfl
  · rfl
  · rfl
  · rfl

theorem State.replayW2_bob {r : State} (s : Sys2Proof.Machine.State) (a1 : List Sys2Proof.Machine.FeedRecord) (h : Outside r s) : Outside r (State.replayW2 s a1) := by
  unfold State.replayW2
  with_reducible exact State.replayTicks_bob _ _ _ (by assumption)

theorem State.runInputs_bob {r : State} (s : Sys2Proof.Machine.State) (a1 : Sys2Proof.Machine.TwinInputs) (h : Outside r s) : Outside r (State.runInputs s a1) := by
  unfold State.runInputs
  with_reducible refine Outside.of (State.unproject_frame _ _ _) (State.canopyTick_bob _ _ (Outside.of (State.project_frame _ _)
                   (by assumption) ?_)) ?_
  · rfl
  · rfl

theorem State.selftested_bob {r : State} (s : Sys2Proof.Machine.State) (a1 : Nat) (a2 : List (Fin 17)) (a3 : Nat) (h : Outside r s) : Outside r (State.selftested s a1 a2 a3) := by
  unfold State.selftested
  dsimp only
  simp only [State.mk_make]
  with_reducible refine Outside.ite (State.groveFault_bob _ _ (Outside.of (State.setN_frame _ _ _) (Outside.foldl (fun _ _ _ => Outside.ite
                   (by assumption) (Outside.of (State.setO_frame _ _ _) (by assumption) ?_)) (by assumption)) ?_)) (Outside.mk1 (Outside.of (State.setN_frame
                   _ _ _) (Outside.foldl (fun _ _ _ => Outside.ite (by assumption) (Outside.of (State.setO_frame _ _ _) (by assumption) ?_)) (by assumption))
                   ?_))
  · rfl
  · rfl
  · rfl
  · rfl

theorem State.shadowTick_bob {r : State} (s : Sys2Proof.Machine.State) (h : Outside r s) : Outside r (State.shadowTick s) := by
  unfold State.shadowTick
  dsimp only
  simp only [State.mk_make]
  with_reducible refine Outside.ite (Outside.mk1 (by assumption)) (Outside.ite (Outside.mk1 (by assumption)) (Outside.mk1 (Outside.of
                   (State.withOwn_frame _ _ _) (State.compareDigest_bob _ _ (State.runInputs_bob _ _ (Outside.of (State.withShadow_frame _ _) (by assumption)
                   ?_))) ?_)))
  · rfl
  · rfl

theorem State.solveOwn_bob {r : State} (s : Sys2Proof.Machine.State) (h : Outside r s) : Outside r (State.solveOwn s) := by
  unfold State.solveOwn
  dsimp only
  simp only [State.mk_make]
  with_reducible refine Outside.of (State.coreBound_frame _) (Outside.of (State.publishCoast_frame _) (State.ensembleSlot_bob _
                   (State.servoTick_bob _ (Outside.ite (State.requestFirst_bob _ (Outside.of (State.takeObservations_frame _) (Outside.mk1 (by assumption))
                   ?_)) (Outside.of (State.takeObservations_frame _) (Outside.mk1 (by assumption)) ?_)))) ?_) ?_
  · rfl
  · rfl
  · rfl
  · rfl

theorem State.solveShadow_bob {r : State} (s : Sys2Proof.Machine.State) (h : Outside r s) : Outside r (State.solveShadow s) := by
  unfold State.solveShadow
  dsimp only
  simp only [State.mk_make]
  with_reducible refine Outside.ite (State.shadowTick_bob _ (by assumption)) (Outside.of (State.coreBound_frame _) (Outside.of
                   (State.publishCoast_frame _) (State.servoTick_bob _ (Outside.ite (State.requestFirst_bob _ (Outside.of (State.takeObservations_frame _)
                   (Outside.mk1 (Outside.foldl (fun _ _ _ => Outside.of (State.ownRecord_frame _ _) (by assumption) ?_) (State.shadowTick_bob _
                   (by assumption)))) ?_)) (Outside.of (State.takeObservations_frame _) (Outside.mk1 (Outside.foldl (fun _ _ _ => Outside.of
                   (State.ownRecord_frame _ _) (by assumption) ?_) (State.shadowTick_bob _ (by assumption)))) ?_))) ?_) ?_)
  · rfl
  · rfl
  · rfl
  · rfl
  · rfl
  · rfl

theorem State.solveTake_bob {r : State} (s : Sys2Proof.Machine.State) (h : Outside r s) : Outside r (State.solveTake s) := by
  unfold State.solveTake
  dsimp only
  simp only [State.mk_make]
  with_reducible refine Outside.ite (State.shadowTick_bob _ (by assumption)) (Outside.of (State.sendAgree_frame _ _) (Outside.mk1
                   (Outside.of (State.coastTick_frame _) (Outside.of (State.saveW1_frame _) (Outside.of (State.finishTake_frame _) (State.shadowTick_bob _
                   (by assumption)) ?_) ?_) ?_)) ?_)
  · rfl
  · rfl
  · rfl
  · rfl

theorem State.solve_bob {r : State} (s : Sys2Proof.Machine.State) (h : Outside r s) : Outside r (State.solve s) := by
  unfold State.solve
  dsimp only
  simp only [State.mk_make]
  with_reducible refine Outside.ite (State.solveTake_bob _ (Outside.of (State.stageInputs_frame _) (Outside.mk1 (Outside.of
                   (State.saveW1_frame _) (Outside.of (State.gladeObs_frame _) (by assumption) ?_) ?_)) ?_)) (Outside.ite (Outside.ite (State.solveShadow_bob
                   _ (Outside.of (State.stageInputs_frame _) (Outside.mk1 (Outside.of (State.saveW1_frame _) (Outside.of (State.gladeObs_frame _)
                   (by assumption) ?_) ?_)) ?_)) (State.solveOwn_bob _ (Outside.of (State.stageInputs_frame _) (Outside.mk1 (Outside.of (State.saveW1_frame
                   _) (Outside.of (State.gladeObs_frame _) (by assumption) ?_) ?_)) ?_))) (Outside.of (State.sendAgree_frame _ _) (Outside.of
                   (State.stageOutputs_frame _ _ _) (Outside.ite (State.solveShadow_bob _ (Outside.of (State.stageInputs_frame _) (Outside.mk1 (Outside.of
                   (State.saveW1_frame _) (Outside.of (State.gladeObs_frame _) (by assumption) ?_) ?_)) ?_)) (State.solveOwn_bob _ (Outside.of
                   (State.stageInputs_frame _) (Outside.mk1 (Outside.of (State.saveW1_frame _) (Outside.of (State.gladeObs_frame _) (by assumption) ?_) ?_))
                   ?_))) ?_) ?_))
  · rfl
  · rfl
  · rfl
  · rfl
  · rfl
  · rfl
  · rfl
  · rfl
  · rfl
  · rfl
  · rfl
  · rfl
  · rfl
  · rfl
  · rfl
  · rfl
  · rfl

theorem State.steerWrite_bob {r : State} (s : Sys2Proof.Machine.State) (a1 : Nat) (a2 : Int) (h : Outside r s) : Outside r (State.steerWrite s a1 a2) := by
  unfold State.steerWrite
  dsimp only
  with_reducible refine Outside.ite (Outside.of (State.steerSent_frame _ _) (Outside.of (State.setDst_frame _ _ _) (by assumption) ?_) ?_)
                   (Outside.ite (State.steerFail_bob _ _ (Outside.of (State.inc_frame _ _) (Outside.of (State.setDst_frame _ _ _) (by assumption) ?_) ?_))
                   (Outside.of (State.setI2c_frame _ _ _) (Outside.of (State.setDst_frame _ _ _) (by assumption) ?_) ?_))
  · rfl
  · rfl
  · rfl
  · rfl
  · rfl
  · rfl

theorem State.steerInterval_bob {r : State} (s : Sys2Proof.Machine.State) (a1 : Nat) (h : Outside r s) : Outside r (State.steerInterval s a1) := by
  unfold State.steerInterval
  dsimp only
  with_reducible refine Outside.ite (by assumption) (Outside.ite (Outside.of (State.setDst_frame _ _ _) (by assumption) ?_)
                   (State.steerWrite_bob _ _ _ (Outside.of (State.setDst_frame _ _ _) (Outside.of (State.setDst_frame _ _ _) (by assumption) ?_) ?_)))
  · rfl
  · rfl
  · rfl

theorem State.tamper_bob {r : State} (s : Sys2Proof.Machine.State) (h : Outside r s) : Outside r (State.tamper s) := by
  unfold State.tamper
  dsimp only
  simp only [State.mk_make]
  with_reducible refine Outside.ite (State.faulted_bob _ _ _ _ (Outside.mk1 (Outside.of (State.zeroise_frame _) (by assumption) ?_)))
                   (Outside.mk1 (Outside.of (State.zeroise_frame _) (by assumption) ?_))
  · rfl
  · rfl

theorem State.thermalRead_bob {r : State} (s : Sys2Proof.Machine.State) (a1 : List Int) (h : Outside r s) : Outside r (State.thermalRead s a1) := by
  unfold State.thermalRead
  dsimp only
  simp only [State.mk_make]
  with_reducible refine Outside.ite (Outside.mk1 (Outside.of (State.setO_frame _ _ _) (Outside.of (State.setO_frame _ _ _) (Outside.foldl
                   (fun _ _ _ => Outside.of (State.setO_frame _ _ _) (by assumption) ?_) (by assumption)) ?_) ?_)) ?_
  · rfl
  · rfl
  · rfl
  · split
    · with_reducible refine Outside.ite (State.faulted_bob _ _ _ _ (Outside.of (State.inc_frame _ _) (Outside.of (State.setO_frame _ _ _)
                       (Outside.mk1 (Outside.of (State.setO_frame _ _ _) (Outside.of (State.setO_frame _ _ _) (Outside.foldl (fun _ _ _ => Outside.of
                       (State.setO_frame _ _ _) (by assumption) ?_) (by assumption)) ?_) ?_)) ?_) ?_)) (Outside.mk1 (Outside.of (State.setO_frame _ _ _)
                       (Outside.of (State.setO_frame _ _ _) (Outside.foldl (fun _ _ _ => Outside.of (State.setO_frame _ _ _) (by assumption) ?_)
                       (by assumption)) ?_) ?_))
      · rfl
      · rfl
      · rfl
      · rfl
      · rfl
      · rfl
      · rfl
      · rfl
    · with_reducible refine Outside.ite (Outside.of (State.setO_frame _ _ _) (Outside.mk1 (Outside.of (State.setO_frame _ _ _) (Outside.of
                       (State.setO_frame _ _ _) (Outside.foldl (fun _ _ _ => Outside.of (State.setO_frame _ _ _) (by assumption) ?_) (by assumption)) ?_)
                       ?_)) ?_) (Outside.mk1 (Outside.of (State.setO_frame _ _ _) (Outside.of (State.setO_frame _ _ _) (Outside.foldl (fun _ _ _ =>
                       Outside.of (State.setO_frame _ _ _) (by assumption) ?_) (by assumption)) ?_) ?_))
      · rfl
      · rfl
      · rfl
      · rfl
      · rfl
      · rfl
      · rfl
    · with_reducible refine Outside.mk1 (Outside.of (State.setO_frame _ _ _) (Outside.of (State.setO_frame _ _ _) (Outside.foldl (fun _ _ _
                       => Outside.of (State.setO_frame _ _ _) (by assumption) ?_) (by assumption)) ?_) ?_)
      · rfl
      · rfl
      · rfl

theorem State.thermalTrip_bob {r : State} (s : Sys2Proof.Machine.State) (a1 : Nat) (h : Outside r s) : Outside r (State.thermalTrip s a1) := by
  unfold State.thermalTrip
  dsimp only
  simp only [State.mk_make]
  with_reducible exact Outside.ite (Outside.ite (Outside.mk1 (by assumption)) (by assumption)) (State.faulted_bob _ _ _ _ (Outside.mk1
                   (by assumption)))

theorem State.twpEdge_bob {r : State} (s : Sys2Proof.Machine.State) (a1 : Int) (a2 : Sys2Proof.Machine.Capture) (a3 : Sys2Proof.Machine.Capture) (h : Outside r s) : Outside r (State.twpEdge s a1 a2 a3) := by
  unfold State.twpEdge
  dsimp only
  simp only [State.mk_make]
  split
  · with_reducible exact State.edge_bob _ _ _ _ _ (by assumption)
  · with_reducible refine Outside.ite (State.edge_bob _ _ _ _ _ (by assumption)) (Outside.of (State.pairObserve_frame _ _) (Outside.mk1
                     (State.edge_bob _ _ _ _ _ (by assumption))) ?_)
    rfl

end Sys2Proof.Machine
end

