-- ==== Sys2Proof/Laws/Canon.lean ====
section
/-!
SUPPORT. The canonical form of the SRAM under the operations.
-/

namespace Sys2Proof.Machine

/-- The SRAM is in its canonical form. -/
def Canon (s : State) : Prop := Memory.wf s.mem = true

theorem Canon.mk1 {s : State} {x0 : List Instr} {x1 : Tbl Int} {x2 : Tbl Octets} {x4 : SysState} {x5 : LeapState} {x6 : FaultState} {x7 : StampState} {x8 : GladeState} {x9 : SynthState} {x10 : CanopyState} {x11 : NetState} {x12 : ServState} {x13 : VaultState} {x14 : HostState} {x15 : ShuttleState} {x16 : TwinState} {x17 : RecordState} {x18 : PowerState} {x19 : BusState} (h : Canon s) :
    Canon (State.make x0 x1 x2 s.mem x4 x5 x6 x7 x8 x9 x10 x11 x12 x13 x14 x15 x16 x17 x18 x19) := h

theorem Canon.of {k : Nat} {s t : State} (g : Frame k s t) (h : Canon s) (hm : k.testBit 3 = false) : Canon t := by
  unfold Canon at *
  rw [g.mem_eq hm]
  exact h

theorem Canon.foldl {α : Type} {f : State → α → State} {l : List α} {s : State} (k : ∀ t x, Canon t → Canon (f t x)) (h : Canon s) :
    Canon (l.foldl f s) := by
  induction l generalizing s with
  | nil => exact h
  | cons x l ih => exact ih (k s x h)

theorem Canon.foldlFst {α β : Type} {f : State × β → α → State × β} {l : List α} {p : State × β}
    (k : ∀ q x, Canon q.1 → Canon (f q x).1) (h : Canon p.1) : Canon (l.foldl f p).1 := by
  induction l generalizing p with
  | nil => exact h
  | cons x l ih => exact ih (k p x h)

theorem Canon.ite {a b : State} {c : Prop} {d : Decidable c} (h : Canon a) (k : Canon b) : Canon (if c then a else b) := by
  split <;> assumption

theorem Canon.iteFst {β : Type} {a b : State × β} {c : Prop} {d : Decidable c} (h : Canon a.1) (k : Canon b.1) :
    Canon (if c then a else b).1 := by
  split <;> assumption

theorem Canon.fst {α : Type} {a : State} {p : State × α} {b : α} (e : p = (a, b)) (h : Canon p.1) : Canon a := by
  rw [e] at h
  exact h

/-- A next state, if there is one, has a canonical SRAM. -/
def CanonO (o : Host.Outcome State Fault Refusal) : Prop := ∀ t, o = .next t → Canon t

theorem CanonO.next {s : State} (h : Canon s) : CanonO (.next s) := by
  intro t e
  cases e
  exact h

theorem CanonO.fault (f : Fault) : CanonO (.fault f) := by
  intro t e
  cases e

end Sys2Proof.Machine
end

