-- ==== Sys2Proof/Laws/Canons0.lean ====
section
/-!
SUPPORT. The canonical form of the SRAM under operations, part 0.
-/

namespace Sys2Proof.Machine

theorem State.writeByte_canon (s : Sys2Proof.Machine.State) (a1 : Nat) (a2 : Sys2Proof.Byte) (h : Canon s) : Canon (State.writeByte s a1 a2) := by
  exact State.wf_writeByte s a1 a2 h


theorem State.writeBytes_canon (s : Sys2Proof.Machine.State) (a1 : Nat) (a2 : Sys2Proof.Octets) (h : Canon s) : Canon (State.writeBytes s a1 a2) := by
  exact State.wf_writeBytes s a1 a2 h


theorem State.writeWord_canon (s : Sys2Proof.Machine.State) (a1 : Nat) (a2 : Nat) (a3 : Nat) (h : Canon s) : Canon (State.writeWord s a1 a2 a3) := by
  unfold State.writeWord
  with_reducible exact State.writeBytes_canon _ _ _ (by assumption)

theorem State.writeBank_canon (s : Sys2Proof.Machine.State) (a1 : Nat) (a2 : Nat) (a3 : Sys2Proof.Octets) (h : Canon s) : Canon (State.writeBank s a1 a2 a3) := by
  unfold State.writeBank
  with_reducible exact Canon.foldl (fun _ _ _ => Canon.ite (State.writeWord_canon _ _ _ _ (by assumption)) (by assumption)) (by assumption)

theorem State.bobAppend_canon (s : Sys2Proof.Machine.State) (a1 : Sys2Proof.Machine.BobHead) (a2 : Sys2Proof.Octets) (h : Canon s) : Canon (State.bobAppend s a1 a2) := by
  unfold State.bobAppend
  dsimp only
  simp only [State.mk_make]
  with_reducible refine Canon.of (State.showRing_frame _) (Canon.ite (Canon.of (State.inc_frame _ _) (Canon.ite (Canon.of (State.inc_frame _
                   _) (Canon.of (State.addN_frame _ _ _) (Canon.of (State.inc_frame _ _) (Canon.of (State.setN_frame _ _ _) (Canon.mk1 (State.writeBank_canon
                   _ _ _ _ (Canon.of (State.ringTo_frame _ _) (Canon.ite (by assumption) (State.writeBank_canon _ _ _ _ (by assumption))) ?_))) ?_) ?_) ?_)
                   ?_) (Canon.of (State.addN_frame _ _ _) (Canon.of (State.inc_frame _ _) (Canon.of (State.setN_frame _ _ _) (Canon.mk1
                   (State.writeBank_canon _ _ _ _ (Canon.of (State.ringTo_frame _ _) (Canon.ite (by assumption) (State.writeBank_canon _ _ _ _
                   (by assumption))) ?_))) ?_) ?_) ?_)) ?_) (Canon.ite (Canon.of (State.inc_frame _ _) (Canon.of (State.addN_frame _ _ _) (Canon.of
                   (State.inc_frame _ _) (Canon.of (State.setN_frame _ _ _) (Canon.mk1 (State.writeBank_canon _ _ _ _ (Canon.of (State.ringTo_frame _ _)
                   (Canon.ite (by assumption) (State.writeBank_canon _ _ _ _ (by assumption))) ?_))) ?_) ?_) ?_) ?_) (Canon.of (State.addN_frame _ _ _)
                   (Canon.of (State.inc_frame _ _) (Canon.of (State.setN_frame _ _ _) (Canon.mk1 (State.writeBank_canon _ _ _ _ (Canon.of (State.ringTo_frame
                   _ _) (Canon.ite (by assumption) (State.writeBank_canon _ _ _ _ (by assumption))) ?_))) ?_) ?_) ?_))) ?_
  · rfl
  · rfl
  · rfl
  · rfl
  · rfl
  · rfl
  · rfl
  · rfl
  · rfl
  · rfl
  · rfl
  · rfl
  · rfl
  · rfl
  · rfl
  · rfl
  · rfl
  · rfl
  · rfl
  · rfl

theorem State.bobHalt_canon (s : Sys2Proof.Machine.State) (h : Canon s) : Canon (State.bobHalt s) := by
  unfold State.bobHalt
  dsimp only
  simp only [State.mk_make]
  with_reducible exact Canon.ite (Canon.mk1 (State.bobAppend_canon _ _ _ (by assumption))) (by assumption)

theorem State.halt_canon (s : Sys2Proof.Machine.State) (a1 : Sys2Proof.Machine.Report) (h : Canon s) : Canon (State.halt s a1) := by
  unfold State.halt
  dsimp only
  simp only [State.mk_make]
  with_reducible refine Canon.of (State.changeMode_frame _ _) (Canon.of (State.haltUnits_frame _) (State.bobHalt_canon _ (Canon.of
                   (State.haltDump_frame _) (Canon.mk1 (Canon.of (State.flushLog_frame _ _ _) (Canon.mk1 (by assumption)) ?_)) ?_)) ?_) ?_
  · rfl
  · rfl
  · rfl
  · rfl

theorem State.recordFault_canon (s : Sys2Proof.Machine.State) (a1 : Nat) (a2 : Nat) (a3 : Nat) (a4 : Nat) (a5 : Bool) (h : Canon s) : Canon (State.recordFault s a1 a2 a3 a4 a5).1 := by
  unfold State.recordFault
  dsimp only
  simp only [State.mk_make]
  split
  · with_reducible exact (by assumption)
  · with_reducible refine Canon.iteFst (by assumption) (Canon.iteFst (State.halt_canon _ _ (Canon.of (State.hostEvent_frame _ _) (Canon.of
                     (State.countOpen_frame _) (Canon.mk1 (Canon.ite (Canon.of (State.inc_frame _ _) (Canon.ite (Canon.of (State.inc_frame _ _) (Canon.of
                     (State.inc_frame _ _) (by assumption) ?_) ?_) (Canon.of (State.inc_frame _ _) (by assumption) ?_)) ?_) (Canon.ite (Canon.of
                     (State.inc_frame _ _) (Canon.of (State.inc_frame _ _) (by assumption) ?_) ?_) (Canon.of (State.inc_frame _ _) (by assumption) ?_)))) ?_)
                     ?_)) (Canon.of (State.hostEvent_frame _ _) (Canon.of (State.countOpen_frame _) (Canon.mk1 (Canon.ite (Canon.of (State.inc_frame _ _)
                     (Canon.ite (Canon.of (State.inc_frame _ _) (Canon.of (State.inc_frame _ _) (by assumption) ?_) ?_) (Canon.of (State.inc_frame _ _)
                     (by assumption) ?_)) ?_) (Canon.ite (Canon.of (State.inc_frame _ _) (Canon.of (State.inc_frame _ _) (by assumption) ?_) ?_) (Canon.of
                     (State.inc_frame _ _) (by assumption) ?_)))) ?_) ?_))
    · rfl
    · rfl
    · rfl
    · rfl
    · rfl
    · rfl
    · rfl
    · rfl
    · rfl
    · rfl
    · rfl
    · rfl
    · rfl
    · rfl
    · rfl
    · rfl
    · rfl
    · rfl

theorem State.raise_canon (s : Sys2Proof.Machine.State) (a1 : Nat) (a2 : Nat) (a3 : Nat) (h : Canon s) : Canon (State.raise s a1 a2 a3).1 := by
  unfold State.raise
  split
  · with_reducible exact State.recordFault_canon _ _ _ _ _ _ (by assumption)
  · with_reducible refine State.recordFault_canon _ _ _ _ _ _ (Canon.of (State.drew_frame _) (by assumption) ?_)
    rfl

theorem State.faulted_canon (s : Sys2Proof.Machine.State) (a1 : Nat) (a2 : Nat) (a3 : Nat) (h : Canon s) : Canon (State.faulted s a1 a2 a3) := by
  unfold State.faulted
  with_reducible exact State.raise_canon _ _ _ _ (by assumption)

theorem State.portStop_canon (s : Sys2Proof.Machine.State) (a1 : Nat) (h : Canon s) : Canon (State.portStop s a1) := by
  unfold State.portStop
  dsimp only
  with_reducible exact Canon.ite (State.faulted_canon _ _ _ _ (by assumption)) (by assumption)

theorem State.tableReject_canon (s : Sys2Proof.Machine.State) (a1 : Nat) (h : Canon s) : Canon (State.tableReject s a1) := by
  unfold State.tableReject
  dsimp only
  with_reducible refine Canon.ite (State.portStop_canon _ _ (Canon.of (State.stamperOut_frame _ _) (State.raise_canon _ _ _ _ (Canon.ite
                   (Canon.of (State.inc_frame _ _) (by assumption) ?_) (by assumption))) ?_)) (State.raise_canon _ _ _ _ (Canon.ite (Canon.of
                   (State.inc_frame _ _) (by assumption) ?_) (by assumption)))
  · rfl
  · rfl
  · rfl

theorem State.addRun_canon (s : Sys2Proof.Machine.State) (a1 : Nat) (a2 : List Nat) (h : Canon s) : Canon (State.addRun s a1 a2) := by
  unfold State.addRun
  dsimp only
  split
  · with_reducible refine Canon.of (State.newTable_frame _ _ _ _) (by assumption) ?_
    rfl
  · with_reducible exact State.tableReject_canon _ _ (by assumption)

theorem State.groveFault_canon (s : Sys2Proof.Machine.State) (a1 : Nat) (h : Canon s) : Canon (State.groveFault s a1) := by
  unfold State.groveFault
  dsimp only
  simp only [State.mk_make]
  with_reducible exact Canon.ite (by assumption) (Canon.mk1 (State.faulted_canon _ _ _ _ (by assumption)))

theorem State.aesOut_canon (s : Sys2Proof.Machine.State) (a1 : Nat) (a2 : Nat) (h : Canon s) : Canon (State.aesOut s a1 a2) := by
  unfold State.aesOut
  dsimp only
  with_reducible refine Canon.ite (State.groveFault_canon _ _ (Canon.of (State.setN_frame _ _ _) (by assumption) ?_)) (Canon.of
                   (State.setN_frame _ _ _) (by assumption) ?_)
  · rfl
  · rfl

theorem State.agreeConfig_canon (s : Sys2Proof.Machine.State) (a1 : Sys2Proof.Machine.Agree) (h : Canon s) : Canon (State.agreeConfig s a1) := by
  unfold State.agreeConfig
  dsimp only
  simp only [State.mk_make]
  with_reducible exact Canon.ite (State.faulted_canon _ _ _ _ (Canon.mk1 (by assumption))) (Canon.mk1 (by assumption))

theorem State.commitLearn_canon (s : Sys2Proof.Machine.State) (a1 : Sys2Proof.Machine.Commit) (h : Canon s) : Canon (State.commitLearn s a1) := by
  unfold State.commitLearn
  dsimp only
  simp only [State.mk_make]
  split
  · with_reducible exact (by assumption)
  · split
    · with_reducible refine Canon.ite (by assumption) (Canon.of (State.inc_frame _ _) (Canon.of (State.setSeq_frame _ _ _ _) (Canon.ite
                       (by assumption) (State.faulted_canon _ _ _ _ (by assumption))) ?_) ?_)
      · rfl
      · rfl
    · with_reducible refine Canon.mk1 (Canon.ite (Canon.of (State.setSeq_frame _ _ _ _) (by assumption) ?_) (by assumption))
      rfl

theorem State.agreeReceive_canon (s : Sys2Proof.Machine.State) (a1 : Sys2Proof.Machine.Agree) (h : Canon s) : Canon (State.agreeReceive s a1) := by
  unfold State.agreeReceive
  dsimp only
  simp only [State.mk_make]
  with_reducible refine Canon.ite (Canon.mk1 (State.agreeConfig_canon _ _ (Canon.of (State.agreePulse_frame _ _) (Canon.of
                   (State.agreedLearn_frame _ _) (Canon.foldl (fun _ _ _ => State.commitLearn_canon _ _ (by assumption)) (Canon.of (State.agreePeer_frame _
                   _) (by assumption) ?_)) ?_) ?_))) (State.agreeConfig_canon _ _ (Canon.of (State.agreePulse_frame _ _) (Canon.of (State.agreedLearn_frame _
                   _) (Canon.foldl (fun _ _ _ => State.commitLearn_canon _ _ (by assumption)) (Canon.of (State.agreePeer_frame _ _) (by assumption) ?_)) ?_)
                   ?_))
  · rfl
  · rfl
  · rfl
  · rfl
  · rfl
  · rfl

theorem State.aonLost_canon (s : Sys2Proof.Machine.State) (h : Canon s) : Canon (State.aonLost s) := by
  unfold State.aonLost
  dsimp only
  simp only [State.mk_make]
  with_reducible refine Canon.of (State.inc_frame _ _) (Canon.of (State.setN_frame _ _ _) (Canon.of (State.setN_frame _ _ _) (Canon.of
                   (State.inc_frame _ _) (Canon.of (State.inc_frame _ _) (Canon.of (State.setN_frame _ _ _) (Canon.of (State.setO_frame _ _ _) (Canon.of
                   (State.setO_frame _ _ _) (Canon.of (State.haltUnits_frame _) (State.bobHalt_canon _ (Canon.of (State.haltDump_frame _) (Canon.mk1
                   (by assumption)) ?_)) ?_) ?_) ?_) ?_) ?_) ?_) ?_) ?_) ?_
  · rfl
  · rfl
  · rfl
  · rfl
  · rfl
  · rfl
  · rfl
  · rfl
  · rfl
  · rfl

theorem State.appendRecord_canon (s : Sys2Proof.Machine.State) (h : Canon s) : Canon (State.appendRecord s) := by
  unfold State.appendRecord
  dsimp only
  simp only [State.mk_make]
  with_reducible refine Canon.ite (by assumption) (Canon.ite (Canon.of (State.formKeyframe_frame _) (Canon.of (State.recorded_frame _) ?_
                   ?_) ?_) (Canon.of (State.recorded_frame _) ?_ ?_))
  · split
    · with_reducible exact State.bobAppend_canon _ _ _ (by assumption)
    · with_reducible exact (by assumption)
    · with_reducible exact State.bobAppend_canon _ _ _ (Canon.mk1 (by assumption))
  · rfl
  · rfl
  · split
    · with_reducible exact State.bobAppend_canon _ _ _ (by assumption)
    · with_reducible exact (by assumption)
    · with_reducible exact State.bobAppend_canon _ _ _ (Canon.mk1 (by assumption))
  · rfl

theorem State.applySet_canon (s : Sys2Proof.Machine.State) (a1 : List Sys2Proof.Machine.Batch) (a2 : Bool) (h : Canon s) : Canon (State.applySet s a1 a2).1 := by
  unfold State.applySet
  dsimp only
  split
  · with_reducible exact (by assumption)
  · with_reducible refine Canon.iteFst (Canon.foldl (fun _ _ _ => Canon.of (State.applyBatch_frame _ _) (by assumption) ?_) (by assumption))
                     (Canon.iteFst (Canon.foldl (fun _ _ _ => Canon.of (State.inc_frame _ _) (by assumption) ?_) (State.recordFault_canon _ _ _ _ _ _
                     (Canon.of (State.drew_frame _) (Canon.ite (Canon.of (State.injConsume_frame _) (by assumption) ?_) (by assumption)) ?_))) (Canon.foldl
                     (fun _ _ _ => Canon.of (State.discardEntry_frame _ _ _ _) (by assumption) ?_) (State.recordFault_canon _ _ _ _ _ _ (Canon.of
                     (State.drew_frame _) (Canon.ite (Canon.of (State.injConsume_frame _) (by assumption) ?_) (by assumption)) ?_))))
    · rfl
    · rfl
    · rfl
    · rfl
    · rfl
    · rfl
    · rfl

theorem State.applyBatches_canon (s : Sys2Proof.Machine.State) (a1 : Bool) (h : Canon s) : Canon (State.applyBatches s a1) := by
  unfold State.applyBatches
  dsimp only
  simp only [State.mk_make]
  with_reducible refine Canon.ite (Canon.mk1 (by assumption)) (Canon.ite (Canon.mk1 (State.applySet_canon _ _ _ (Canon.of
                   (State.installSlots_frame _) (Canon.mk1 (by assumption)) ?_))) (State.applySet_canon _ _ _ (Canon.of (State.installSlots_frame _)
                   (Canon.mk1 (by assumption)) ?_)))
  · rfl
  · rfl

theorem State.applyImmediate_canon (s : Sys2Proof.Machine.State) (a1 : Bool) (h : Canon s) : Canon (State.applyImmediate s a1) := by
  unfold State.applyImmediate
  dsimp only
  simp only [State.mk_make]
  with_reducible exact Canon.ite (Canon.mk1 (State.applySet_canon _ _ _ (Canon.mk1 (by assumption)))) (State.applySet_canon _ _ _ (Canon.mk1
                   (by assumption)))

theorem State.atNext_canon {s : State} {f : State → State} (k : ∀ t, Canon t → Canon (f t)) (h : Canon s) : Canon (s.atNext f) := by
  unfold State.atNext
  dsimp only
  simp only [State.mk_make]
  have h2 : ∀ t, Canon t → Canon (f t) := k
  apply Canon.ite
  all_goals repeat' first
    | with_reducible assumption
    | with_reducible apply Canon.mk1
    | with_reducible apply h2
    | with_reducible apply Canon.of (State.setN_frame _ _ _)
    | with_reducible apply Canon.of (State.setO_frame _ _ _)
    | decide


theorem State.avsRead_canon (s : Sys2Proof.Machine.State) (a1 : Option Nat) (a2 : Bool) (h : Canon s) : Canon (State.avsRead s a1 a2) := by
  unfold State.avsRead
  dsimp only
  simp only [State.mk_make]
  with_reducible refine Canon.ite (Canon.ite (Canon.mk1 ?_) ?_) (State.faulted_canon _ _ _ _ (Canon.of (State.inc_frame _ _) ?_ ?_))
  · split
    · with_reducible refine Canon.of (State.setN_frame _ _ _) (by assumption) ?_
      rfl
    · with_reducible exact (by assumption)
  · split
    · with_reducible refine Canon.of (State.setN_frame _ _ _) (by assumption) ?_
      rfl
    · with_reducible exact (by assumption)
  · split
    · with_reducible refine Canon.of (State.setN_frame _ _ _) (by assumption) ?_
      rfl
    · with_reducible exact (by assumption)
  · rfl

theorem State.avsStart_canon (s : Sys2Proof.Machine.State) (a1 : Option Nat) (h : Canon s) : Canon (State.avsStart s a1) := by
  unfold State.avsStart
  dsimp only
  simp only [State.mk_make]
  split
  · with_reducible refine Canon.of (State.setN_frame _ _ _) (Canon.mk1 (Canon.of (State.setN_frame _ _ _) (by assumption) ?_)) ?_
    · rfl
    · rfl
  · with_reducible refine State.faulted_canon _ _ _ _ (Canon.of (State.inc_frame _ _) (Canon.mk1 (Canon.of (State.setN_frame _ _ _)
                     (by assumption) ?_)) ?_)
    · rfl
    · rfl

theorem State.boundaryBatches_canon (s : Sys2Proof.Machine.State) (a1 : Bool) (h : Canon s) : Canon (State.boundaryBatches s a1) := by
  unfold State.boundaryBatches
  with_reducible exact State.atNext_canon (fun _ _ => State.applyBatches_canon _ _ (by assumption)) (by assumption)

theorem State.boundaryApply_canon (s : Sys2Proof.Machine.State) (h : Canon s) : Canon (State.boundaryApply s) := by
  unfold State.boundaryApply
  dsimp only
  simp only [State.mk_make]
  with_reducible refine Canon.mk1 (Canon.of (State.keyWritesApply_frame _) (State.boundaryBatches_canon _ _ (Canon.of
                   (State.fireActions_frame _) (by assumption) ?_)) ?_)
  · rfl
  · rfl

theorem State.yethalDown_canon (s : Sys2Proof.Machine.State) (h : Canon s) : Canon (State.yethalDown s) := by
  unfold State.yethalDown
  with_reducible refine Canon.of (State.twinAlone_frame _) (State.faulted_canon _ _ _ _ (by assumption)) ?_
  rfl

theorem State.twinWatch_canon (s : Sys2Proof.Machine.State) (a1 : Bool) (h : Canon s) : Canon (State.twinWatch s a1) := by
  unfold State.twinWatch
  dsimp only
  simp only [State.mk_make]
  with_reducible refine Canon.ite (Canon.mk1 (Canon.of (State.setF_frame _ _ _) (Canon.of (State.identityWatch_frame _) (by assumption) ?_)
                   ?_)) (Canon.ite (State.yethalDown_canon _ (Canon.mk1 (Canon.of (State.setF_frame _ _ _) (Canon.of (State.identityWatch_frame _)
                   (by assumption) ?_) ?_))) (Canon.ite (Canon.of (State.twinAlone_frame _) (Canon.mk1 (Canon.of (State.setF_frame _ _ _) (Canon.of
                   (State.identityWatch_frame _) (by assumption) ?_) ?_)) ?_) (Canon.mk1 (Canon.of (State.setF_frame _ _ _) (Canon.of
                   (State.identityWatch_frame _) (by assumption) ?_) ?_))))
  · rfl
  · rfl
  · rfl
  · rfl
  · rfl
  · rfl
  · rfl
  · rfl
  · rfl

theorem State.apartBoundary_canon (s : Sys2Proof.Machine.State) (h : Canon s) : Canon (State.apartBoundary s) := by
  unfold State.apartBoundary
  dsimp only
  simp only [State.mk_make]
  with_reducible refine Canon.ite (Canon.of (State.twinSend_frame _ _) (Canon.mk1 (Canon.ite (Canon.of (State.inc_frame _ _) (Canon.mk1
                   (by assumption)) ?_) (by assumption))) ?_) (Canon.ite (Canon.of (State.inc_frame _ _) (Canon.mk1 (by assumption)) ?_) (by assumption))
  · rfl
  · rfl
  · rfl

theorem State.joinedBoundary_canon (s : Sys2Proof.Machine.State) (h : Canon s) : Canon (State.joinedBoundary s) := by
  unfold State.joinedBoundary
  dsimp only
  simp only [State.mk_make]
  with_reducible refine Canon.mk1 (Canon.ite (Canon.of (State.leaveNow_frame _) ?_ ?_) ?_)
  · split
    · with_reducible refine Canon.ite (Canon.of (State.installCanopy_frame _ _) (Canon.ite (Canon.of (State.ownerBoundary_frame _) (Canon.of
                       (State.retireCharge_frame _) (Canon.of (State.installSessions_frame _) (Canon.of (State.publishOffset_frame _) (by assumption) ?_) ?_)
                       ?_) ?_) (Canon.of (State.shadowBoundary_frame _) (Canon.of (State.retireCharge_frame _) (Canon.of (State.installSessions_frame _)
                       (Canon.of (State.publishOffset_frame _) (by assumption) ?_) ?_) ?_) ?_)) ?_) (Canon.ite (Canon.of (State.ownerBoundary_frame _)
                       (Canon.of (State.retireCharge_frame _) (Canon.of (State.installSessions_frame _) (Canon.of (State.publishOffset_frame _)
                       (by assumption) ?_) ?_) ?_) ?_) (Canon.of (State.shadowBoundary_frame _) (Canon.of (State.retireCharge_frame _) (Canon.of
                       (State.installSessions_frame _) (Canon.of (State.publishOffset_frame _) (by assumption) ?_) ?_) ?_) ?_))
      · rfl
      · rfl
      · rfl
      · rfl
      · rfl
      · rfl
      · rfl
      · rfl
      · rfl
      · rfl
      · rfl
      · rfl
      · rfl
      · rfl
      · rfl
      · rfl
      · rfl
    · with_reducible refine Canon.ite (Canon.of (State.ownerBoundary_frame _) (Canon.of (State.retireCharge_frame _) (Canon.of
                       (State.installSessions_frame _) (Canon.of (State.publishOffset_frame _) (by assumption) ?_) ?_) ?_) ?_) (Canon.of
                       (State.shadowBoundary_frame _) (Canon.of (State.retireCharge_frame _) (Canon.of (State.installSessions_frame _) (Canon.of
                       (State.publishOffset_frame _) (by assumption) ?_) ?_) ?_) ?_)
      · rfl
      · rfl
      · rfl
      · rfl
      · rfl
      · rfl
      · rfl
      · rfl
  · rfl
  · split
    · with_reducible refine Canon.ite (Canon.of (State.installCanopy_frame _ _) (Canon.ite (Canon.of (State.ownerBoundary_frame _) (Canon.of
                       (State.retireCharge_frame _) (Canon.of (State.installSessions_frame _) (Canon.of (State.publishOffset_frame _) (by assumption) ?_) ?_)
                       ?_) ?_) (Canon.of (State.shadowBoundary_frame _) (Canon.of (State.retireCharge_frame _) (Canon.of (State.installSessions_frame _)
                       (Canon.of (State.publishOffset_frame _) (by assumption) ?_) ?_) ?_) ?_)) ?_) (Canon.ite (Canon.of (State.ownerBoundary_frame _)
                       (Canon.of (State.retireCharge_frame _) (Canon.of (State.installSessions_frame _) (Canon.of (State.publishOffset_frame _)
                       (by assumption) ?_) ?_) ?_) ?_) (Canon.of (State.shadowBoundary_frame _) (Canon.of (State.retireCharge_frame _) (Canon.of
                       (State.installSessions_frame _) (Canon.of (State.publishOffset_frame _) (by assumption) ?_) ?_) ?_) ?_))
      · rfl
      · rfl
      · rfl
      · rfl
      · rfl
      · rfl
      · rfl
      · rfl
      · rfl
      · rfl
      · rfl
      · rfl
      · rfl
      · rfl
      · rfl
      · rfl
      · rfl
    · with_reducible refine Canon.ite (Canon.of (State.ownerBoundary_frame _) (Canon.of (State.retireCharge_frame _) (Canon.of
                       (State.installSessions_frame _) (Canon.of (State.publishOffset_frame _) (by assumption) ?_) ?_) ?_) ?_) (Canon.of
                       (State.shadowBoundary_frame _) (Canon.of (State.retireCharge_frame _) (Canon.of (State.installSessions_frame _) (Canon.of
                       (State.publishOffset_frame _) (by assumption) ?_) ?_) ?_) ?_)
      · rfl
      · rfl
      · rfl
      · rfl
      · rfl
      · rfl
      · rfl
      · rfl

theorem State.twinBoundary_canon (s : Sys2Proof.Machine.State) (a1 : Bool) (h : Canon s) : Canon (State.twinBoundary s a1) := by
  unfold State.twinBoundary
  dsimp only
  with_reducible exact Canon.ite (by assumption) (Canon.ite (State.apartBoundary_canon _ (State.twinWatch_canon _ _ (by assumption)))
                   (State.joinedBoundary_canon _ (State.twinWatch_canon _ _ (by assumption))))

theorem State.unitsAt_canon (s : Sys2Proof.Machine.State) (a1 : Bool) (h : Canon s) : Canon (State.unitsAt s a1) := by
  unfold State.unitsAt
  dsimp only
  with_reducible refine Canon.of (State.keyRotation_frame _) (Canon.of (State.pruneKeys_frame _) (State.twinBoundary_canon _ _ (Canon.of
                   (State.shuttleBoundary_frame _) (Canon.of (State.grovesOut_frame _) (Canon.of (State.grovesReady_frame _) (Canon.of
                   (State.serviceBoundary_frame _) (Canon.of (State.clientsBoundary_frame _) (Canon.of (State.servBoundary_frame _) (Canon.of
                   (State.netBoundary_frame _) (Canon.of (State.dropLate_frame _) (Canon.of (State.outputsAt_frame _) (Canon.of (State.gladeBoundary_frame _)
                   (Canon.of (State.apllAt_frame _) (by assumption) ?_) ?_) ?_) ?_) ?_) ?_) ?_) ?_) ?_) ?_) ?_)) ?_) ?_
  · rfl
  · rfl
  · rfl
  · rfl
  · rfl
  · rfl
  · rfl
  · rfl
  · rfl
  · rfl
  · rfl
  · rfl
  · rfl

theorem State.boundary_canon (s : Sys2Proof.Machine.State) (a1 : Nat) (a2 : Nat) (a3 : Bool) (a4 : List Sys2Proof.Machine.WorkTally) (h : Canon s) : Canon (State.boundary s a1 a2 a3 a4) := by
  unfold State.boundary
  dsimp only
  with_reducible refine Canon.ite (State.boundaryApply_canon _ (Canon.of (State.closeTick_frame _ _ _) (by assumption) ?_)) (Canon.ite
                   (State.unitsAt_canon _ _ (Canon.of (State.setN_frame _ _ _) (Canon.of (State.tickBegins_frame _ _) (State.boundaryApply_canon _ (Canon.of
                   (State.closeTick_frame _ _ _) (by assumption) ?_)) ?_) ?_)) (Canon.of (State.snapshot_frame _) (Canon.of (State.keepAt_frame _)
                   (State.unitsAt_canon _ _ (Canon.of (State.setN_frame _ _ _) (Canon.of (State.tickBegins_frame _ _) (State.boundaryApply_canon _ (Canon.of
                   (State.closeTick_frame _ _ _) (by assumption) ?_)) ?_) ?_)) ?_) ?_))
  · rfl
  · rfl
  · rfl
  · rfl
  · rfl
  · rfl
  · rfl
  · rfl
  · rfl

theorem State.memberFault_canon (s : Sys2Proof.Machine.State) (a1 : Nat) (h : Canon s) : Canon (State.memberFault s a1) := by
  unfold State.memberFault
  dsimp only
  with_reducible refine Canon.ite (by assumption) (State.faulted_canon _ _ _ _ (Canon.of (State.setN_frame _ _ _) (Canon.of
                   (State.setO_frame _ _ _) (by assumption) ?_) ?_))
  · rfl
  · rfl

theorem State.slotMember_canon (s : Sys2Proof.Machine.State) (a1 : Sys2Proof.Machine.EpochWork) (a2 : Nat) (h : Canon s) : Canon (State.slotMember s a1 a2) := by
  unfold State.slotMember
  dsimp only
  with_reducible refine Canon.ite (by assumption) ?_
  split
  · with_reducible refine Canon.of (State.setWork_frame _ _) (by assumption) ?_
    rfl
  · with_reducible refine Canon.ite (by assumption) (Canon.ite (State.memberFault_canon _ _ (by assumption)) (Canon.ite (Canon.of
                     (State.setWork_frame _ _) (by assumption) ?_) (Canon.of (State.setWork_frame _ _) (by assumption) ?_)))
    · rfl
    · rfl

theorem State.slotPairs_canon (s : Sys2Proof.Machine.State) (a1 : Sys2Proof.Machine.EpochWork) (a2 : Nat) (h : Canon s) : Canon (State.slotPairs s a1 a2) := by
  unfold State.slotPairs
  dsimp only
  with_reducible refine Canon.ite (by assumption) ?_
  split
  · with_reducible exact (by assumption)
  · with_reducible refine Canon.foldl (fun _ _ _ => ?_) (by assumption)
    split
    · with_reducible exact (by assumption)
    · split
      · with_reducible exact (by assumption)
      · with_reducible refine Canon.ite (State.memberFault_canon _ _ (State.memberFault_canon _ _ (by assumption))) (Canon.ite (Canon.of
                         (State.setWork_frame _ _) (by assumption) ?_) (Canon.of (State.setWork_frame _ _) (by assumption) ?_))
        · rfl
        · rfl

theorem State.planeSaturated_canon (s : Sys2Proof.Machine.State) (h : Canon s) : Canon (State.planeSaturated s) := by
  unfold State.planeSaturated
  dsimp only
  simp only [State.mk_make]
  with_reducible refine Canon.ite (by assumption) (Canon.of (State.forceUnbounded_frame _) (State.faulted_canon _ _ _ _ (Canon.mk1
                   (by assumption))) ?_)
  rfl

theorem State.takeSaturation_canon (s : Sys2Proof.Machine.State) (h : Canon s) : Canon (State.takeSaturation s) := by
  unfold State.takeSaturation
  dsimp only
  split
  · with_reducible exact (by assumption)
  · with_reducible refine Canon.foldl (fun _ _ _ => Canon.ite (State.planeSaturated_canon _ (by assumption)) (State.memberFault_canon _ _
                     (by assumption))) (Canon.of (State.setWork_frame _ _) (by assumption) ?_)
    rfl

theorem State.ensembleSlot_canon (s : Sys2Proof.Machine.State) (h : Canon s) : Canon (State.ensembleSlot s) := by
  unfold State.ensembleSlot
  dsimp only
  with_reducible refine Canon.ite (Canon.of (State.slot0_frame _) (by assumption) ?_) ?_
  · rfl
  · split
    · with_reducible exact (by assumption)
    · with_reducible refine State.takeSaturation_canon _ (Canon.ite (Canon.ite ?_ (Canon.of (State.slotPropagate_frame _ _ _)
                       (by assumption) ?_)) (Canon.ite (Canon.of (State.slotReference_frame _ _) (by assumption) ?_) (Canon.ite (Canon.ite
                       (State.slotPairs_canon _ _ _ (State.slotMember_canon _ _ _ (by assumption))) (State.slotMember_canon _ _ _ (by assumption)))
                       (Canon.ite (Canon.of (State.slot35_frame _) (by assumption) ?_) (Canon.ite (Canon.of (State.setWork_frame _ _) (by assumption) ?_)
                       (by assumption))))))
      · split
        · with_reducible refine Canon.of (State.slotPropagate_frame _ _ _) (Canon.of (State.takePlaneStep_frame _ _) (by assumption) ?_) ?_
          · rfl
          · rfl
        · with_reducible refine Canon.of (State.takePlaneStep_frame _ _) (by assumption) ?_
          rfl
      · rfl
      · rfl
      · rfl
      · rfl

theorem State.requestFirst_canon (s : Sys2Proof.Machine.State) (h : Canon s) : Canon (State.requestFirst s) := by
  unfold State.requestFirst
  dsimp only
  simp only [State.mk_make]
  with_reducible exact Canon.ite (State.planeSaturated_canon _ (Canon.mk1 (by assumption))) (Canon.mk1 (by assumption))

theorem State.servo_canon (s : Sys2Proof.Machine.State) (a1 : Nat) (a2 : Int) (h : Canon s) : Canon (State.servo s a1 a2) := by
  unfold State.servo
  dsimp only
  simp only [State.mk_make]
  with_reducible refine Canon.ite (State.planeSaturated_canon _ (Canon.mk1 (Canon.ite (Canon.of (State.setO_frame _ _ _) (Canon.of
                   (State.setO_frame _ _ _) (by assumption) ?_) ?_) (Canon.of (State.inc_frame _ _) (Canon.of (State.setO_frame _ _ _) (Canon.of
                   (State.setO_frame _ _ _) (by assumption) ?_) ?_) ?_)))) (Canon.mk1 (Canon.ite (Canon.of (State.setO_frame _ _ _) (Canon.of
                   (State.setO_frame _ _ _) (by assumption) ?_) ?_) (Canon.of (State.inc_frame _ _) (Canon.of (State.setO_frame _ _ _) (Canon.of
                   (State.setO_frame _ _ _) (by assumption) ?_) ?_) ?_)))
  · rfl
  · rfl
  · rfl
  · rfl
  · rfl
  · rfl
  · rfl
  · rfl
  · rfl
  · rfl

theorem State.servoTick_canon (s : Sys2Proof.Machine.State) (h : Canon s) : Canon (State.servoTick s) := by
  unfold State.servoTick
  dsimp only
  simp only [State.mk_make]
  with_reducible refine Canon.ite ?_ (Canon.ite (State.servo_canon _ _ _ (Canon.of (State.setO_frame _ _ _) (Canon.mk1 (by assumption)) ?_))
                   (Canon.ite ?_ (Canon.mk1 (by assumption))))
  · split
    · with_reducible refine Canon.ite (State.servo_canon _ _ _ (Canon.ite (Canon.of (State.recordReturn_frame _ _) (Canon.mk1
                       (by assumption)) ?_) (Canon.mk1 (by assumption)))) (Canon.mk1 (by assumption))
      rfl
    · with_reducible exact Canon.mk1 (by assumption)
  · rfl
  · split
    · with_reducible refine State.servo_canon _ _ _ (Canon.of (State.recordReturn_frame _ _) (Canon.mk1 (by assumption)) ?_)
      rfl
    · with_reducible exact Canon.mk1 (by assumption)

theorem State.canopyInputs_canon (s : Sys2Proof.Machine.State) (a1 : Sys2Proof.Machine.TwinInputs) (h : Canon s) : Canon (State.canopyInputs s a1) := by
  unfold State.canopyInputs
  dsimp only
  with_reducible refine Canon.of (State.canopyBoundary_frame _) (Canon.of (State.takeSwitched_frame _) ?_ ?_) ?_
  · split
    · with_reducible refine Canon.of (State.canopyStepped_frame _ _ _) (Canon.ite (Canon.of (State.unanchor_frame _) (Canon.foldl (fun _ _ _
                       => Canon.of (State.steerApplied_frame _ _ _) (by assumption) ?_) (Canon.of (State.takeLength_frame _ _ _) (by assumption) ?_)) ?_)
                       (Canon.foldl (fun _ _ _ => Canon.of (State.steerApplied_frame _ _ _) (by assumption) ?_) (Canon.of (State.takeLength_frame _ _ _)
                       (by assumption) ?_))) ?_
      · rfl
      · rfl
      · rfl
      · rfl
      · rfl
      · rfl
    · with_reducible refine Canon.ite (Canon.of (State.unanchor_frame _) (Canon.foldl (fun _ _ _ => Canon.of (State.steerApplied_frame _ _
                       _) (by assumption) ?_) (Canon.of (State.takeLength_frame _ _ _) (by assumption) ?_)) ?_) (Canon.foldl (fun _ _ _ => Canon.of
                       (State.steerApplied_frame _ _ _) (by assumption) ?_) (Canon.of (State.takeLength_frame _ _ _) (by assumption) ?_))
      · rfl
      · rfl
      · rfl
      · rfl
      · rfl
  · rfl
  · rfl

theorem State.holdoverMode_canon (s : Sys2Proof.Machine.State) (a1 : Sys2Proof.Machine.TwinInputs) (a2 : Bool) (h : Canon s) : Canon (State.holdoverMode s a1 a2) := by
  unfold State.holdoverMode
  with_reducible refine Canon.of (State.holdBegins_frame _) (Canon.of (State.holdNow_frame _) (Canon.ite (Canon.of
                   (State.enterHoldover_frame _ _) (by assumption) ?_) (Canon.ite (Canon.of (State.leaveHoldover_frame _ _) (by assumption) ?_)
                   (by assumption))) ?_) ?_
  · rfl
  · rfl
  · rfl
  · rfl

theorem State.canopyUpdate_canon (s : Sys2Proof.Machine.State) (h : Canon s) : Canon (State.canopyUpdate s) := by
  unfold State.canopyUpdate
  dsimp only
  simp only [State.mk_make]
  with_reducible refine Canon.of (State.coreBound_frame _) (Canon.of (State.publishCoast_frame _) (State.ensembleSlot_canon _
                   (State.servoTick_canon _ (Canon.ite (State.requestFirst_canon _ (Canon.of (State.takeObservations_frame _) (Canon.mk1 (by assumption))
                   ?_)) (Canon.of (State.takeObservations_frame _) (Canon.mk1 (by assumption)) ?_)))) ?_) ?_
  · rfl
  · rfl
  · rfl
  · rfl

theorem State.canopyTick_canon (s : Sys2Proof.Machine.State) (a1 : Sys2Proof.Machine.TwinInputs) (h : Canon s) : Canon (State.canopyTick s a1) := by
  unfold State.canopyTick
  dsimp only
  with_reducible refine Canon.ite (Canon.of (State.discardEpoch_frame _) (Canon.of (State.coastBound_frame _) (State.holdoverMode_canon _ _
                   _ (State.canopyInputs_canon _ _ (by assumption))) ?_) ?_) (State.canopyUpdate_canon _ (State.holdoverMode_canon _ _ _
                   (State.canopyInputs_canon _ _ (by assumption))))
  · rfl
  · rfl

theorem State.checkImages_canon (s : Sys2Proof.Machine.State) (a1 : Sys2Proof.Machine.BootRead) (h : Canon s) : Canon (State.checkImages s a1) := by
  unfold State.checkImages
  dsimp only
  simp only [State.mk_make]
  split
  · with_reducible exact State.faulted_canon _ _ _ _ (by assumption)
  · with_reducible refine Canon.ite (State.faulted_canon _ _ _ _ (Canon.of (State.setO_frame _ _ _) (Canon.of (State.extendDigest_frame _ _)
                     (Canon.of (State.setN_frame _ _ _) (by assumption) ?_) ?_) ?_)) (Canon.ite (State.faulted_canon _ _ _ _ (Canon.of
                     (State.extendDigest_frame _ _) (Canon.of (State.setO_frame _ _ _) (Canon.of (State.extendDigest_frame _ _) (Canon.of (State.setN_frame _
                     _ _) (by assumption) ?_) ?_) ?_) ?_)) (Canon.mk1 (Canon.of (State.loadCosts_frame _ _) (Canon.of (State.extendDigest_frame _ _)
                     (Canon.of (State.extendDigest_frame _ _) (Canon.of (State.setO_frame _ _ _) (Canon.of (State.extendDigest_frame _ _) (Canon.of
                     (State.setN_frame _ _ _) (by assumption) ?_) ?_) ?_) ?_) ?_) ?_)))
    · rfl
    · rfl
    · rfl
    · rfl
    · rfl
    · rfl
    · rfl
    · rfl
    · rfl
    · rfl
    · rfl
    · rfl
    · rfl

theorem State.checkpoint_canon (s : Sys2Proof.Machine.State) (a1 : Nat) (a2 : Nat) (h : Canon s) : Canon (State.checkpoint s a1 a2) := by
  unfold State.checkpoint
  dsimp only
  simp only [State.mk_make]
  with_reducible exact Canon.ite (by assumption) (Canon.mk1 (State.writeBank_canon _ _ _ _ (by assumption)))

theorem State.checkpoints_canon (s : Sys2Proof.Machine.State) (h : Canon s) : Canon (State.checkpoints s) := by
  unfold State.checkpoints
  dsimp only
  simp only [State.mk_make]
  with_reducible exact Canon.mk1 (Canon.foldl (fun _ _ _ => Canon.ite (Canon.foldl (fun _ _ _ => State.checkpoint_canon _ _ _
                   (by assumption)) (by assumption)) (by assumption)) (by assumption))

theorem State.clockLost_canon (s : Sys2Proof.Machine.State) (a1 : Sys2Proof.Machine.ClockSource) (h : Canon s) : Canon (State.clockLost s a1) := by
  unfold State.clockLost
  dsimp only
  split
  · with_reducible refine State.faulted_canon _ _ _ _ (Canon.of (State.lossReaction_frame _ _) (Canon.of (State.inc_frame _ _) (Canon.of
                     (State.setN_frame _ _ _) (Canon.of (State.setN_frame _ _ _) (by assumption) ?_) ?_) ?_) ?_)
    · rfl
    · rfl
    · rfl
    · rfl
  · with_reducible refine Canon.of (State.lossReaction_frame _ _) (Canon.of (State.inc_frame _ _) (Canon.of (State.setN_frame _ _ _)
                     (Canon.of (State.setN_frame _ _ _) (by assumption) ?_) ?_) ?_) ?_
    · rfl
    · rfl
    · rfl
    · rfl

theorem State.compareDigest_canon (s : Sys2Proof.Machine.State) (a1 : Sys2Proof.Machine.TwinInputs) (h : Canon s) : Canon (State.compareDigest s a1) := by
  unfold State.compareDigest
  dsimp only
  simp only [State.mk_make]
  with_reducible refine Canon.ite (by assumption) ?_
  split
  · with_reducible exact (by assumption)
  · with_reducible refine Canon.ite (by assumption) (Canon.ite (Canon.mk1 (by assumption)) (Canon.of (State.discardShadow_frame _)
                     (State.faulted_canon _ _ _ _ (Canon.of (State.inc_frame _ _) (by assumption) ?_)) ?_))
    · rfl
    · rfl

theorem State.dictArrive_canon (s : Sys2Proof.Machine.State) (a1 : Sys2Proof.Machine.DictMsg) (h : Canon s) : Canon (State.dictArrive s a1) := by
  unfold State.dictArrive
  dsimp only
  simp only [State.mk_make]
  with_reducible refine Canon.ite (Canon.ite (Canon.of (State.placeRequest_frame _ _ _) (Canon.of (State.accept_frame _ _) (by assumption)
                   ?_) ?_) (Canon.of (State.accept_frame _ _) (by assumption) ?_)) (Canon.ite (Canon.of (State.serveMsg_frame _ _) (Canon.ite (Canon.of
                   (State.placeRequest_frame _ _ _) (Canon.of (State.accept_frame _ _) (by assumption) ?_) ?_) (Canon.of (State.accept_frame _ _)
                   (by assumption) ?_)) ?_) (Canon.ite (State.applyImmediate_canon _ _ (Canon.of (State.serveMsg_frame _ _) (Canon.of (State.servedOne_frame
                   _ _) (Canon.ite (Canon.of (State.placeRequest_frame _ _ _) (Canon.of (State.accept_frame _ _) (by assumption) ?_) ?_) (Canon.of
                   (State.accept_frame _ _) (by assumption) ?_)) ?_) ?_)) (Canon.mk1 (Canon.ite (Canon.of (State.placeRequest_frame _ _ _) (Canon.of
                   (State.accept_frame _ _) (by assumption) ?_) ?_) (Canon.of (State.accept_frame _ _) (by assumption) ?_)))))
  · rfl
  · rfl
  · rfl
  · rfl
  · rfl
  · rfl
  · rfl
  · rfl
  · rfl
  · rfl
  · rfl
  · rfl
  · rfl
  · rfl
  · rfl

theorem State.stamperFault_canon (s : Sys2Proof.Machine.State) (a1 : Nat) (h : Canon s) : Canon (State.stamperFault s a1) := by
  unfold State.stamperFault
  with_reducible refine State.portStop_canon _ _ (State.faulted_canon _ _ _ _ (Canon.of (State.stamperOut_frame _ _) (by assumption) ?_))
  rfl

theorem State.dllFail_canon (s : Sys2Proof.Machine.State) (a1 : Nat) (h : Canon s) : Canon (State.dllFail s a1) := by
  unfold State.dllFail
  dsimp only
  with_reducible refine Canon.ite (State.stamperFault_canon _ _ (by assumption)) (Canon.of (State.setStamper_frame _ _ _) (by assumption)
                   ?_)
  rfl

end Sys2Proof.Machine
end

