-- ==== Sys2Proof/Laws/Canons1.lean ====
section
/-!
SUPPORT. The canonical form of the SRAM under operations, part 1.
-/

namespace Sys2Proof.Machine

theorem State.driveEdge_canon (s : Sys2Proof.Machine.State) (a1 : Nat) (a2 : Nat) (a3 : Int) (h : Canon s) : Canon (State.driveEdge s a1 a2 a3) := by
  unfold State.driveEdge
  dsimp only
  with_reducible refine Canon.ite (Canon.of (State.setOut_frame _ _ _) (by assumption) ?_) (Canon.ite (Canon.of (State.setOut_frame _ _ _)
                   (by assumption) ?_) (Canon.ite (Canon.of (State.setOut_frame _ _ _) (by assumption) ?_) (Canon.ite (Canon.of (State.setOut_frame _ _ _)
                   (by assumption) ?_) (State.faulted_canon _ _ _ _ (Canon.of (State.inc_frame _ _) (Canon.of (State.setOut_frame _ _ _) (by assumption) ?_)
                   ?_)))))
  · rfl
  · rfl
  · rfl
  · rfl
  · rfl
  · rfl

theorem State.parallelPair_canon (s : Sys2Proof.Machine.State) (a1 : Nat) (a2 : Sys2Proof.Machine.Capture) (a3 : Sys2Proof.Machine.Capture) (h : Canon s) : Canon (State.parallelPair s a1 a2 a3) := by
  unfold State.parallelPair
  dsimp only
  with_reducible refine Canon.ite (State.stamperFault_canon _ _ (by assumption)) (Canon.ite (State.stamperFault_canon _ _ (by assumption))
                   (Canon.ite (by assumption) (Canon.ite (Canon.of (State.setPort_frame _ _ _) (by assumption) ?_) (by assumption))))
  rfl

theorem State.takeStamp_canon (s : Sys2Proof.Machine.State) (a1 : Nat) (a2 : Nat) (a3 : Int) (a4 : Sys2Proof.Machine.Capture) (a5 : Bool) (a6 : Bool) (h : Canon s) : Canon (State.takeStamp s a1 a2 a3 a4 a5 a6) := by
  unfold State.takeStamp
  dsimp only
  with_reducible refine Canon.ite (State.stamperFault_canon _ _ (by assumption)) (Canon.ite (Canon.of (State.setBlob_frame _ _ _) (Canon.of
                   (State.setPort_frame _ _ _) (by assumption) ?_) ?_) (Canon.of (State.setPort_frame _ _ _) (by assumption) ?_))
  · rfl
  · rfl
  · rfl

theorem State.selectedEdge_canon (s : Sys2Proof.Machine.State) (a1 : Nat) (a2 : Int) (a3 : Sys2Proof.Machine.Capture) (a4 : Sys2Proof.Machine.Capture) (a5 : Bool) (h : Canon s) : Canon (State.selectedEdge s a1 a2 a3 a4 a5) := by
  unfold State.selectedEdge
  dsimp only
  with_reducible refine Canon.ite (Canon.ite (Canon.of (State.stalledStamp_frame _ _ _) (Canon.of (State.commitHeld_frame _ _ _) (Canon.of
                   (State.setPort_frame _ _ _) (by assumption) ?_) ?_) ?_) (Canon.of (State.commitHeld_frame _ _ _) (Canon.of (State.setPort_frame _ _ _)
                   (by assumption) ?_) ?_)) (Canon.ite (Canon.ite (Canon.ite (State.takeStamp_canon _ _ _ _ _ _ _ (Canon.of (State.commitHeld_frame _ _ _)
                   (Canon.of (State.setPort_frame _ _ _) (by assumption) ?_) ?_)) (State.takeStamp_canon _ _ _ _ _ _ _ (Canon.of (State.commitHeld_frame _ _
                   _) (Canon.of (State.setPort_frame _ _ _) (by assumption) ?_) ?_))) (Canon.of (State.missStamp_frame _ _ _) (Canon.of
                   (State.commitHeld_frame _ _ _) (Canon.of (State.setPort_frame _ _ _) (by assumption) ?_) ?_) ?_)) (Canon.ite (Canon.ite
                   (State.parallelPair_canon _ _ _ _ (Canon.ite (State.takeStamp_canon _ _ _ _ _ _ _ (Canon.of (State.commitHeld_frame _ _ _) (Canon.of
                   (State.setPort_frame _ _ _) (by assumption) ?_) ?_)) (State.takeStamp_canon _ _ _ _ _ _ _ (Canon.of (State.commitHeld_frame _ _ _)
                   (Canon.of (State.setPort_frame _ _ _) (by assumption) ?_) ?_)))) (Canon.of (State.missStamp_frame _ _ _) (Canon.of (State.commitHeld_frame
                   _ _ _) (Canon.of (State.setPort_frame _ _ _) (by assumption) ?_) ?_) ?_)) (Canon.of (State.commitHeld_frame _ _ _) (Canon.of
                   (State.setPort_frame _ _ _) (by assumption) ?_) ?_)))
  · rfl
  · rfl
  · rfl
  · rfl
  · rfl
  · rfl
  · rfl
  · rfl
  · rfl
  · rfl
  · rfl
  · rfl
  · rfl
  · rfl
  · rfl
  · rfl
  · rfl
  · rfl
  · rfl
  · rfl
  · rfl

theorem State.edge_canon (s : Sys2Proof.Machine.State) (a1 : Nat) (a2 : Int) (a3 : Sys2Proof.Machine.Capture) (a4 : Sys2Proof.Machine.Capture) (h : Canon s) : Canon (State.edge s a1 a2 a3 a4) := by
  unfold State.edge
  dsimp only
  with_reducible refine Canon.ite (Canon.of (State.drew_frame _) (by assumption) ?_) (Canon.ite (State.selectedEdge_canon _ _ _ _ _ _
                   (Canon.of (State.countEdge_frame _ _) (Canon.of (State.setPort_frame _ _ _) (Canon.ite (Canon.of (State.drew_frame _) (by assumption) ?_)
                   (by assumption)) ?_) ?_)) (Canon.of (State.countEdge_frame _ _) (Canon.of (State.setPort_frame _ _ _) (Canon.ite (Canon.of
                   (State.drew_frame _) (by assumption) ?_) (by assumption)) ?_) ?_))
  · rfl
  · rfl
  · rfl
  · rfl
  · rfl
  · rfl
  · rfl

theorem State.engineOut_canon (s : Sys2Proof.Machine.State) (a1 : Nat) (a2 : Nat) (h : Canon s) : Canon (State.engineOut s a1 a2) := by
  unfold State.engineOut
  dsimp only
  simp only [State.mk_make]
  with_reducible refine Canon.ite (by assumption) (Canon.ite (Canon.of (State.countEngines_frame _ _) (Canon.ite (Canon.of (State.setF_frame
                   _ _ _) (Canon.of (State.setO_frame _ _ _) (Canon.of (State.setO_frame _ _ _) (by assumption) ?_) ?_) ?_) (Canon.of (State.setO_frame _ _
                   _) (Canon.of (State.setO_frame _ _ _) (by assumption) ?_) ?_)) ?_) (Canon.ite (State.groveFault_canon _ _ ?_) ?_))
  · rfl
  · rfl
  · rfl
  · rfl
  · rfl
  · rfl
  · split
    · with_reducible refine Canon.of (State.laneDown_frame _ _ _ _) (Canon.of (State.inc_frame _ _) (Canon.mk1 (Canon.of (State.setF_frame _
                       _ _) (Canon.of (State.setN_frame _ _ _) (Canon.of (State.setO_frame _ _ _) (Canon.ite (Canon.mk1 (Canon.of (State.countEngines_frame _
                       _) (Canon.ite (Canon.of (State.setF_frame _ _ _) (Canon.of (State.setO_frame _ _ _) (Canon.of (State.setO_frame _ _ _) (by assumption)
                       ?_) ?_) ?_) (Canon.of (State.setO_frame _ _ _) (Canon.of (State.setO_frame _ _ _) (by assumption) ?_) ?_)) ?_)) (Canon.of
                       (State.countEngines_frame _ _) (Canon.ite (Canon.of (State.setF_frame _ _ _) (Canon.of (State.setO_frame _ _ _) (Canon.of
                       (State.setO_frame _ _ _) (by assumption) ?_) ?_) ?_) (Canon.of (State.setO_frame _ _ _) (Canon.of (State.setO_frame _ _ _)
                       (by assumption) ?_) ?_)) ?_)) ?_) ?_) ?_)) ?_) ?_
      · rfl
      · rfl
      · rfl
      · rfl
      · rfl
      · rfl
      · rfl
      · rfl
      · rfl
      · rfl
      · rfl
      · rfl
      · rfl
      · rfl
      · rfl
      · rfl
      · rfl
    · with_reducible refine Canon.of (State.laneDown_frame _ _ _ _) (Canon.of (State.dropLane_frame _ _ _) (Canon.ite (Canon.mk1 (Canon.of
                       (State.countEngines_frame _ _) (Canon.ite (Canon.of (State.setF_frame _ _ _) (Canon.of (State.setO_frame _ _ _) (Canon.of
                       (State.setO_frame _ _ _) (by assumption) ?_) ?_) ?_) (Canon.of (State.setO_frame _ _ _) (Canon.of (State.setO_frame _ _ _)
                       (by assumption) ?_) ?_)) ?_)) (Canon.of (State.countEngines_frame _ _) (Canon.ite (Canon.of (State.setF_frame _ _ _) (Canon.of
                       (State.setO_frame _ _ _) (Canon.of (State.setO_frame _ _ _) (by assumption) ?_) ?_) ?_) (Canon.of (State.setO_frame _ _ _) (Canon.of
                       (State.setO_frame _ _ _) (by assumption) ?_) ?_)) ?_)) ?_) ?_
      · rfl
      · rfl
      · rfl
      · rfl
      · rfl
      · rfl
      · rfl
      · rfl
      · rfl
      · rfl
      · rfl
      · rfl
      · rfl
      · rfl
  · split
    · with_reducible refine Canon.of (State.laneDown_frame _ _ _ _) (Canon.of (State.inc_frame _ _) (Canon.mk1 (Canon.of (State.setF_frame _
                       _ _) (Canon.of (State.setN_frame _ _ _) (Canon.of (State.setO_frame _ _ _) (Canon.ite (Canon.mk1 (Canon.of (State.countEngines_frame _
                       _) (Canon.ite (Canon.of (State.setF_frame _ _ _) (Canon.of (State.setO_frame _ _ _) (Canon.of (State.setO_frame _ _ _) (by assumption)
                       ?_) ?_) ?_) (Canon.of (State.setO_frame _ _ _) (Canon.of (State.setO_frame _ _ _) (by assumption) ?_) ?_)) ?_)) (Canon.of
                       (State.countEngines_frame _ _) (Canon.ite (Canon.of (State.setF_frame _ _ _) (Canon.of (State.setO_frame _ _ _) (Canon.of
                       (State.setO_frame _ _ _) (by assumption) ?_) ?_) ?_) (Canon.of (State.setO_frame _ _ _) (Canon.of (State.setO_frame _ _ _)
                       (by assumption) ?_) ?_)) ?_)) ?_) ?_) ?_)) ?_) ?_
      · rfl
      · rfl
      · rfl
      · rfl
      · rfl
      · rfl
      · rfl
      · rfl
      · rfl
      · rfl
      · rfl
      · rfl
      · rfl
      · rfl
      · rfl
      · rfl
      · rfl
    · with_reducible refine Canon.of (State.laneDown_frame _ _ _ _) (Canon.of (State.dropLane_frame _ _ _) (Canon.ite (Canon.mk1 (Canon.of
                       (State.countEngines_frame _ _) (Canon.ite (Canon.of (State.setF_frame _ _ _) (Canon.of (State.setO_frame _ _ _) (Canon.of
                       (State.setO_frame _ _ _) (by assumption) ?_) ?_) ?_) (Canon.of (State.setO_frame _ _ _) (Canon.of (State.setO_frame _ _ _)
                       (by assumption) ?_) ?_)) ?_)) (Canon.of (State.countEngines_frame _ _) (Canon.ite (Canon.of (State.setF_frame _ _ _) (Canon.of
                       (State.setO_frame _ _ _) (Canon.of (State.setO_frame _ _ _) (by assumption) ?_) ?_) ?_) (Canon.of (State.setO_frame _ _ _) (Canon.of
                       (State.setO_frame _ _ _) (by assumption) ?_) ?_)) ?_)) ?_) ?_
      · rfl
      · rfl
      · rfl
      · rfl
      · rfl
      · rfl
      · rfl
      · rfl
      · rfl
      · rfl
      · rfl
      · rfl
      · rfl
      · rfl

theorem State.engineFail_canon (s : Sys2Proof.Machine.State) (a1 : Nat) (a2 : Nat) (h : Canon s) : Canon (State.engineFail s a1 a2) := by
  unfold State.engineFail
  dsimp only
  with_reducible exact Canon.ite (State.engineOut_canon _ _ _ (State.faulted_canon _ _ _ _ (by assumption))) (by assumption)

theorem State.memCe_canon (s : Sys2Proof.Machine.State) (a1 : Nat) (a2 : Nat) (h : Canon s) : Canon (State.memCe s a1 a2) := by
  unfold State.memCe
  dsimp only
  simp only [State.mk_make]
  with_reducible refine Canon.mk1 (State.faulted_canon _ _ _ _ (Canon.of (State.inc_frame _ _) (by assumption) ?_))
  rfl

theorem State.navPut_canon (s : Sys2Proof.Machine.State) (a1 : Nat) (a2 : Sys2Proof.Octets) (h : Canon s) : Canon (State.navPut s a1 a2) := by
  unfold State.navPut
  dsimp only
  with_reducible exact State.writeBank_canon _ _ _ _ (State.writeBank_canon _ _ _ _ (by assumption))

theorem State.navDiscard_canon (s : Sys2Proof.Machine.State) (a1 : Nat) (h : Canon s) : Canon (State.navDiscard s a1) := by
  unfold State.navDiscard
  dsimp only
  simp only [State.mk_make]
  split
  · with_reducible exact Canon.mk1 (State.navPut_canon _ _ _ (by assumption))
  · with_reducible exact (by assumption)

theorem State.poisonLine_canon (s : Sys2Proof.Machine.State) (a1 : Nat) (h : Canon s) : Canon (State.poisonLine s a1) := by
  unfold State.poisonLine
  dsimp only
  simp only [State.mk_make]
  split
  · with_reducible refine Canon.of (State.inc_frame _ _) (State.writeBank_canon _ _ _ _ (Canon.of (State.recallAll_frame _ _)
                     (by assumption) ?_)) ?_
    · rfl
    · rfl
  · with_reducible refine Canon.of (State.setN_frame _ _ _) (Canon.mk1 (Canon.of (State.inc_frame _ _) (State.writeBank_canon _ _ _ _
                     (Canon.of (State.recallAll_frame _ _) (by assumption) ?_)) ?_)) ?_
    · rfl
    · rfl
    · rfl

theorem State.ueReact_canon (s : Sys2Proof.Machine.State) (a1 : Nat) (a2 : Nat) (a3 : Option Nat) (a4 : Option Nat) (h : Canon s) : Canon (State.ueReact s a1 a2 a3 a4) := by
  unfold State.ueReact
  dsimp only
  simp only [State.mk_make]
  with_reducible refine Canon.ite (Canon.ite (Canon.mk1 (State.groveFault_canon _ _ (by assumption))) ?_) (Canon.ite (State.poisonLine_canon
                   _ _ (by assumption)) (Canon.ite (Canon.of (State.bobBad_frame _ _) (by assumption) ?_) (Canon.ite (Canon.of (State.ensembleLost_frame _)
                   (by assumption) ?_) (Canon.ite (State.navDiscard_canon _ _ (Canon.of (State.solutionLost_frame _) (by assumption) ?_)) ?_))))
  · split
    · with_reducible exact State.engineFail_canon _ _ _ (by assumption)
    · with_reducible exact (by assumption)
  · rfl
  · rfl
  · rfl
  · split
    · with_reducible refine Canon.ite (Canon.of (State.stampOverrun_frame _ _) (by assumption) ?_) (by assumption)
      rfl
    · with_reducible exact (by assumption)

theorem State.memUe_canon (s : Sys2Proof.Machine.State) (a1 : Nat) (a2 : Nat) (a3 : Option Nat) (a4 : Option Nat) (h : Canon s) : Canon (State.memUe s a1 a2 a3 a4) := by
  unfold State.memUe
  dsimp only
  simp only [State.mk_make]
  with_reducible refine Canon.ite (State.faulted_canon _ _ _ _ (Canon.mk1 (Canon.of (State.inc_frame _ _) (by assumption) ?_))) (Canon.ite
                   (Canon.of (State.reedLost_frame _ _) (State.faulted_canon _ _ _ _ (Canon.of (State.inc_frame _ _) (by assumption) ?_)) ?_) (Canon.ite
                   (State.faulted_canon _ _ _ _ (Canon.of (State.inc_frame _ _) (by assumption) ?_)) (Canon.ite (State.faulted_canon _ _ _ _ (Canon.of
                   (State.inc_frame _ _) (by assumption) ?_)) (State.ueReact_canon _ _ _ _ _ (State.faulted_canon _ _ _ _ (Canon.of (State.inc_frame _ _)
                   (by assumption) ?_))))))
  · rfl
  · rfl
  · rfl
  · rfl
  · rfl
  · rfl

theorem State.remapWord_canon (s : Sys2Proof.Machine.State) (a1 : Nat) (a2 : Nat) (h : Canon s) : Canon (State.remapWord s a1 a2) := by
  unfold State.remapWord
  dsimp only
  with_reducible refine Canon.ite (State.faulted_canon _ _ _ _ (Canon.of (State.inc_frame _ _) (by assumption) ?_)) ?_
  · rfl
  · split
    · with_reducible exact (by assumption)
    · with_reducible refine State.faulted_canon _ _ _ _ (State.writeWord_canon _ _ _ _ (Canon.of (State.setN_frame _ _ _) (Canon.of
                       (State.setBlob_frame _ _ _) (by assumption) ?_) ?_))
      · rfl
      · rfl

theorem State.slotCheck_canon (s : Sys2Proof.Machine.State) (a1 : Nat) (h : Canon s) : Canon (State.slotCheck s a1) := by
  unfold State.slotCheck
  dsimp only
  simp only [State.mk_make]
  with_reducible refine Canon.ite ?_ (Canon.of (State.slotFail_frame _ _) (State.faulted_canon _ _ _ _ (by assumption)) ?_)
  · split
    · with_reducible refine Canon.of (State.showKeys_frame _) (Canon.mk1 (Canon.of (State.drew_frame _) (Canon.of (State.drew_frame _)
                       (Canon.of (State.slotFail_frame _ _) (State.faulted_canon _ _ _ _ (by assumption)) ?_) ?_) ?_)) ?_
      · rfl
      · rfl
      · rfl
      · rfl
    · with_reducible refine Canon.of (State.drew_frame _) (Canon.of (State.drew_frame _) (Canon.of (State.slotFail_frame _ _)
                       (State.faulted_canon _ _ _ _ (by assumption)) ?_) ?_) ?_
      · rfl
      · rfl
      · rfl
  · rfl

theorem State.faultGroves_canon (s : Sys2Proof.Machine.State) (a1 : Sys2Proof.Machine.FaultOperand) (h : Canon s) : Canon (State.faultGroves s a1) := by
  unfold State.faultGroves
  dsimp only
  simp only [State.mk_make]
  split
  · with_reducible exact State.slotCheck_canon _ _ (by assumption)
  · with_reducible exact Canon.ite (State.aesOut_canon _ _ _ (State.raise_canon _ _ _ _ (by assumption))) (State.raise_canon _ _ _ _
                     (by assumption))
  · with_reducible refine State.faulted_canon _ _ _ _ (Canon.of (State.inc_frame _ _) (Canon.mk1 (by assumption)) ?_)
    rfl
  · with_reducible refine State.faulted_canon _ _ _ _ (Canon.of (State.zeroise_frame _) (by assumption) ?_)
    rfl
  · with_reducible refine State.faulted_canon _ _ _ _ (Canon.of (State.zeroise_frame _) (by assumption) ?_)
    rfl
  · with_reducible exact State.engineFail_canon _ _ _ (by assumption)
  · with_reducible exact Canon.ite (State.engineOut_canon _ _ _ (State.raise_canon _ _ _ _ (by assumption))) (State.raise_canon _ _ _ _
                     (by assumption))
  · with_reducible exact State.aesOut_canon _ _ _ (State.faulted_canon _ _ _ _ (by assumption))
  · with_reducible exact State.groveFault_canon _ _ (by assumption)
  · with_reducible refine Canon.of (State.reedLost_frame _ _) (State.faulted_canon _ _ _ _ (by assumption)) ?_
    rfl
  · with_reducible exact Canon.mk1 (State.faulted_canon _ _ _ _ (by assumption))
  · with_reducible exact State.memCe_canon _ _ _ (by assumption)
  · with_reducible exact State.remapWord_canon _ _ _ (by assumption)
  · with_reducible refine State.faulted_canon _ _ _ _ (Canon.of (State.inc_frame _ _) (by assumption) ?_)
    rfl
  · with_reducible exact State.memUe_canon _ _ _ _ _ (by assumption)
  · with_reducible refine State.faulted_canon _ _ _ _ (Canon.of (State.inc_frame _ _) (by assumption) ?_)
    rfl
  · with_reducible refine Canon.ite (State.poisonLine_canon _ _ (State.raise_canon _ _ _ _ (by assumption))) (Canon.of (State.refetch_frame
                     _ _ _) (State.raise_canon _ _ _ _ (by assumption)) ?_)
    rfl
  · with_reducible exact State.faulted_canon _ _ _ _ (by assumption)

theorem State.steerFail_canon (s : Sys2Proof.Machine.State) (a1 : Nat) (h : Canon s) : Canon (State.steerFail s a1) := by
  unfold State.steerFail
  dsimp only
  with_reducible refine Canon.ite (State.faulted_canon _ _ _ _ (Canon.of (State.setO_frame _ _ _) (Canon.of (State.inc_frame _ _) (Canon.of
                   (State.setDst_frame _ _ _) (by assumption) ?_) ?_) ?_)) (Canon.of (State.inc_frame _ _) (Canon.of (State.setDst_frame _ _ _)
                   (by assumption) ?_) ?_)
  · rfl
  · rfl
  · rfl
  · rfl
  · rfl

theorem State.i2cFailed_canon (s : Sys2Proof.Machine.State) (a1 : Nat) (a2 : Sys2Proof.Machine.I2cTrans) (a3 : Nat) (h : Canon s) : Canon (State.i2cFailed s a1 a2 a3) := by
  unfold State.i2cFailed
  split
  · with_reducible exact State.steerFail_canon _ _ (by assumption)
  · with_reducible refine Canon.of (State.i2cResult_frame _ _ _ _) (by assumption) ?_
    rfl

theorem State.i2cStuck_canon (s : Sys2Proof.Machine.State) (a1 : Nat) (h : Canon s) : Canon (State.i2cStuck s a1) := by
  unfold State.i2cStuck
  dsimp only
  with_reducible refine State.faulted_canon _ _ _ _ (Canon.of (State.setO_frame _ _ _) (Canon.of (State.inc_frame _ _) (Canon.foldl (fun _ _
                   _ => State.i2cFailed_canon _ _ _ _ (Canon.of (State.inc_frame _ _) (by assumption) ?_)) (Canon.of (State.setI2c_frame _ _ _)
                   (by assumption) ?_)) ?_) ?_)
  · rfl
  · rfl
  · rfl
  · rfl

theorem State.faultRest_canon (s : Sys2Proof.Machine.State) (a1 : Sys2Proof.Machine.FaultOperand) (h : Canon s) : Canon (State.faultRest s a1) := by
  unfold State.faultRest
  dsimp only
  simp only [State.mk_make]
  split
  · with_reducible exact Canon.mk1 (State.faulted_canon _ _ _ _ (by assumption))
  · with_reducible exact Canon.ite (Canon.mk1 (by assumption)) (State.faulted_canon _ _ _ _ (by assumption))
  · with_reducible refine Canon.ite (Canon.of (State.discardShadow_frame _) (State.faulted_canon _ _ _ _ (by assumption)) ?_)
                     (State.faulted_canon _ _ _ _ (by assumption))
    rfl
  · with_reducible exact State.i2cStuck_canon _ _ (by assumption)
  · with_reducible exact State.faulted_canon _ _ _ _ (by assumption)

theorem State.forcedMiss_canon (s : Sys2Proof.Machine.State) (a1 : Nat) (a2 : Bool) (h : Canon s) : Canon (State.forcedMiss s a1 a2) := by
  unfold State.forcedMiss
  dsimp only
  with_reducible refine Canon.ite (State.faulted_canon _ _ _ _ (Canon.of (State.inc_frame _ _) (Canon.of (State.setOut_frame _ _ _)
                   (by assumption) ?_) ?_)) (Canon.of (State.setOut_frame _ _ _) (by assumption) ?_)
  · rfl
  · rfl
  · rfl

theorem State.tapParity_canon (s : Sys2Proof.Machine.State) (a1 : Nat) (a2 : List (Fin 9)) (h : Canon s) : Canon (State.tapParity s a1 a2) := by
  unfold State.tapParity
  dsimp only
  with_reducible refine Canon.foldl (fun _ _ _ => Canon.ite (by assumption) (Canon.ite (Canon.of (State.setChan_frame _ _ _) (Canon.of
                   (State.chanEnter_frame _ _ _) (State.faulted_canon _ _ _ _ (by assumption)) ?_) ?_) (State.faulted_canon _ _ _ _ (Canon.of
                   (State.setO_frame _ _ _) (Canon.of (State.setF_frame _ _ _) (Canon.of (State.setChan_frame _ _ _) (by assumption) ?_) ?_) ?_))))
                   (by assumption)
  · rfl
  · rfl
  · rfl
  · rfl
  · rfl

theorem State.faultTiming_canon (s : Sys2Proof.Machine.State) (a1 : Sys2Proof.Machine.FaultOperand) (a2 : Option Nat) (h : Canon s) : Canon (State.faultTiming s a1 a2) := by
  unfold State.faultTiming
  dsimp only
  simp only [State.mk_make]
  split
  · with_reducible refine Canon.of (State.coastTick_frame _) (State.faulted_canon _ _ _ _ (by assumption)) ?_
    rfl
  · with_reducible refine Canon.of (State.coastTick_frame _) (State.faulted_canon _ _ _ _ (by assumption)) ?_
    rfl
  · with_reducible exact State.tableReject_canon _ _ (by assumption)
  · with_reducible exact Canon.ite (State.stamperFault_canon _ _ (by assumption)) (State.faulted_canon _ _ _ _ (by assumption))
  · with_reducible refine State.faulted_canon _ _ _ _ (Canon.ite (Canon.of (State.stamperOut_frame _ _) (Canon.ite (Canon.of
                     (State.stamperOut_frame _ _) (by assumption) ?_) (by assumption)) ?_) (Canon.ite (Canon.of (State.stamperOut_frame _ _) (by assumption)
                     ?_) (by assumption)))
    · rfl
    · rfl
    · rfl
  · with_reducible refine State.tapParity_canon _ _ _ (Canon.of (State.drew_frame _) (by assumption) ?_)
    rfl
  · with_reducible exact State.tapParity_canon _ _ _ (by assumption)
  · with_reducible refine Canon.of (State.solutionLost_frame _) (State.faulted_canon _ _ _ _ (by assumption)) ?_
    rfl
  · with_reducible exact State.memberFault_canon _ _ (by assumption)
  · with_reducible refine Canon.of (State.forceUnbounded_frame _) (Canon.mk1 (State.faulted_canon _ _ _ _ (by assumption))) ?_
    rfl
  · with_reducible exact State.forcedMiss_canon _ _ _ (by assumption)
  · with_reducible refine State.faulted_canon _ _ _ _ (Canon.of (State.setO_frame _ _ _) (Canon.of (State.setDst_frame _ _ _)
                     (by assumption) ?_) ?_)
    · rfl
    · rfl
  · with_reducible refine State.faulted_canon _ _ _ _ (Canon.of (State.setMac_frame _ _ _) (Canon.of (State.inc_frame _ _) (by assumption)
                     ?_) ?_)
    · rfl
    · rfl
  · with_reducible exact State.faulted_canon _ _ _ _ (by assumption)

theorem State.pllBypassOne_canon (s : Sys2Proof.Machine.State) (a1 : Nat) (h : Canon s) : Canon (State.pllBypassOne s a1) := by
  unfold State.pllBypassOne
  dsimp only
  with_reducible refine Canon.ite ?_ (Canon.ite (Canon.of (State.setO_frame _ _ _) (Canon.of (State.inc_frame _ _) (Canon.of
                   (State.setO_frame _ _ _) (by assumption) ?_) ?_) ?_) (Canon.of (State.inc_frame _ _) (Canon.of (State.setO_frame _ _ _) (by assumption)
                   ?_) ?_))
  · split
    · with_reducible refine State.clockLost_canon _ _ (Canon.ite (Canon.of (State.setO_frame _ _ _) (Canon.of (State.inc_frame _ _)
                       (Canon.of (State.setO_frame _ _ _) (by assumption) ?_) ?_) ?_) (Canon.of (State.inc_frame _ _) (Canon.of (State.setO_frame _ _ _)
                       (by assumption) ?_) ?_))
      · rfl
      · rfl
      · rfl
      · rfl
      · rfl
    · with_reducible refine Canon.ite (Canon.of (State.setO_frame _ _ _) (Canon.of (State.inc_frame _ _) (Canon.of (State.setO_frame _ _ _)
                       (by assumption) ?_) ?_) ?_) (Canon.of (State.inc_frame _ _) (Canon.of (State.setO_frame _ _ _) (by assumption) ?_) ?_)
      · rfl
      · rfl
      · rfl
      · rfl
      · rfl
  · rfl
  · rfl
  · rfl
  · rfl
  · rfl

theorem State.pllBypass_canon (s : Sys2Proof.Machine.State) (a1 : Nat) (h : Canon s) : Canon (State.pllBypass s a1) := by
  unfold State.pllBypass
  dsimp only
  with_reducible exact Canon.ite (Canon.foldl (fun _ _ _ => Canon.ite (State.pllBypassOne_canon _ _ (by assumption)) (by assumption))
                   (State.pllBypassOne_canon _ _ (by assumption))) (Canon.ite (Canon.foldl (fun _ _ _ => Canon.ite (State.pllBypassOne_canon _ _
                   (by assumption)) (by assumption)) (State.pllBypassOne_canon _ _ (by assumption))) (State.pllBypassOne_canon _ _ (by assumption)))

theorem State.reportClock_canon (s : Sys2Proof.Machine.State) (a1 : Sys2Proof.Machine.ClockSource) (a2 : Sys2Proof.Machine.FaultOperand) (h : Canon s) : Canon (State.reportClock s a1 a2) := by
  unfold State.reportClock
  with_reducible refine Canon.ite ?_ (State.faulted_canon _ _ _ _ (by assumption))
  split
  · with_reducible exact Canon.ite (State.pllBypass_canon _ _ (by assumption)) (State.clockLost_canon _ _ (by assumption))
  · with_reducible exact State.clockLost_canon _ _ (by assumption)

theorem State.faultReact_canon (s : Sys2Proof.Machine.State) (a1 : Sys2Proof.Machine.FaultOperand) (a2 : Option Nat) (h : Canon s) : Canon (State.faultReact s a1 a2) := by
  unfold State.faultReact
  dsimp only
  with_reducible exact Canon.ite (State.reportClock_canon _ _ _ (by assumption)) (Canon.ite (State.faultTiming_canon _ _ _ (by assumption))
                   (Canon.ite (State.faultGroves_canon _ _ (by assumption)) (State.faultRest_canon _ _ (by assumption))))

theorem State.journalTables_canon (s : Sys2Proof.Machine.State) (a1 : Sys2Proof.Machine.Journal) (h : Canon s) : Canon (State.journalTables s a1) := by
  unfold State.journalTables
  dsimp only
  with_reducible refine Canon.ite (Canon.of (State.setO_frame _ _ _) (Canon.ite (Canon.foldl (fun _ _ _ => Canon.ite (by assumption)
                   (Canon.of (State.setBlob_frame _ _ _) (by assumption) ?_)) (Canon.foldl (fun _ _ _ => Canon.of (State.setN_frame _ _ _) (Canon.of
                   (State.setBlob_frame _ _ _) (by assumption) ?_) ?_) (by assumption))) (Canon.of (State.setO_frame _ _ _) (Canon.foldl (fun _ _ _ =>
                   Canon.ite (by assumption) (Canon.of (State.setBlob_frame _ _ _) (by assumption) ?_)) (Canon.foldl (fun _ _ _ => Canon.of (State.setN_frame
                   _ _ _) (Canon.of (State.setBlob_frame _ _ _) (by assumption) ?_) ?_) (by assumption))) ?_)) ?_) (Canon.ite (Canon.foldl (fun _ _ _ =>
                   Canon.ite (by assumption) (Canon.of (State.setBlob_frame _ _ _) (by assumption) ?_)) (Canon.foldl (fun _ _ _ => Canon.of (State.setN_frame
                   _ _ _) (Canon.of (State.setBlob_frame _ _ _) (by assumption) ?_) ?_) (by assumption))) (Canon.of (State.setO_frame _ _ _) (Canon.foldl
                   (fun _ _ _ => Canon.ite (by assumption) (Canon.of (State.setBlob_frame _ _ _) (by assumption) ?_)) (Canon.foldl (fun _ _ _ => Canon.of
                   (State.setN_frame _ _ _) (Canon.of (State.setBlob_frame _ _ _) (by assumption) ?_) ?_) (by assumption))) ?_))
  · rfl
  · rfl
  · rfl
  · rfl
  · rfl
  · rfl
  · rfl
  · rfl
  · rfl
  · rfl
  · rfl
  · rfl
  · rfl
  · rfl
  · rfl

theorem State.journalValues_canon (s : Sys2Proof.Machine.State) (a1 : Sys2Proof.Machine.Journal) (h : Canon s) : Canon (State.journalValues s a1) := by
  unfold State.journalValues
  dsimp only
  simp only [State.mk_make]
  with_reducible refine Canon.mk1 ?_
  split
  · with_reducible refine Canon.of (State.setN_frame _ _ _) (Canon.of (State.setN_frame _ _ _) (Canon.of (State.setN_frame _ _ _)
                     (Canon.foldl (fun _ _ _ => Canon.of (State.setN_frame _ _ _) (by assumption) ?_) (Canon.ite (Canon.mk1 (Canon.of (State.setN_frame _ _
                     _) (Canon.of (State.setN_frame _ _ _) (Canon.of (State.setN_frame _ _ _) (by assumption) ?_) ?_) ?_)) (Canon.of (State.setN_frame _ _ _)
                     (Canon.of (State.setN_frame _ _ _) (by assumption) ?_) ?_))) ?_) ?_) ?_
    · rfl
    · rfl
    · rfl
    · rfl
    · rfl
    · rfl
    · rfl
    · rfl
    · rfl
  · with_reducible refine Canon.foldl (fun _ _ _ => Canon.of (State.setN_frame _ _ _) (by assumption) ?_) (Canon.ite (Canon.mk1 (Canon.of
                     (State.setN_frame _ _ _) (Canon.of (State.setN_frame _ _ _) (Canon.of (State.setN_frame _ _ _) (by assumption) ?_) ?_) ?_)) (Canon.of
                     (State.setN_frame _ _ _) (Canon.of (State.setN_frame _ _ _) (by assumption) ?_) ?_))
    · rfl
    · rfl
    · rfl
    · rfl
    · rfl
    · rfl

theorem State.journalRead_canon (s : Sys2Proof.Machine.State) (h : Canon s) : Canon (State.journalRead s) := by
  unfold State.journalRead
  dsimp only
  split
  · with_reducible refine Canon.foldl (fun _ _ _ => Canon.ite (State.faulted_canon _ _ _ _ (Canon.of (State.inc_frame _ _) (by assumption)
                     ?_)) (by assumption)) (by assumption)
    rfl
  · with_reducible refine State.journalValues_canon _ _ (State.journalTables_canon _ _ (Canon.of (State.setN_frame _ _ _) (Canon.of
                     (State.setN_frame _ _ _) (Canon.foldl (fun _ _ _ => Canon.ite (State.faulted_canon _ _ _ _ (Canon.of (State.inc_frame _ _)
                     (by assumption) ?_)) (by assumption)) (by assumption)) ?_) ?_))
    · rfl
    · rfl
    · rfl

theorem State.filled_canon (s : Sys2Proof.Machine.State) (a1 : Sys2Proof.Machine.BootRead) (h : Canon s) : Canon (State.filled s a1) := by
  unfold State.filled
  dsimp only
  simp only [State.mk_make]
  with_reducible refine Canon.ite (Canon.of (State.serveHeld_frame _) (State.checkImages_canon _ _ (State.avsStart_canon _ _
                   (State.journalRead_canon _ (Canon.foldl (fun _ _ _ => Canon.of (State.setN_frame _ _ _) (by assumption) ?_) ?_)))) ?_)
                   (State.checkImages_canon _ _ (State.avsStart_canon _ _ (State.journalRead_canon _ (Canon.foldl (fun _ _ _ => Canon.of (State.setN_frame _
                   _ _) (by assumption) ?_) ?_))))
  · rfl
  · rfl
  · rfl
  · rfl
  · rfl

theorem State.journalFail_canon (s : Sys2Proof.Machine.State) (a1 : Sys2Proof.Machine.JournalWrite) (h : Canon s) : Canon (State.journalFail s a1) := by
  unfold State.journalFail
  dsimp only
  simp only [State.mk_make]
  with_reducible refine Canon.of (State.flashNext_frame _) (State.faulted_canon _ _ _ _ (Canon.of (State.inc_frame _ _) (Canon.mk1
                   (by assumption)) ?_)) ?_
  · rfl
  · rfl

theorem State.flashComplete_canon (s : Sys2Proof.Machine.State) (a1 : Bool) (h : Canon s) : Canon (State.flashComplete s a1) := by
  unfold State.flashComplete
  split
  · with_reducible refine Canon.of (State.flashDone_frame _ _ _) (by assumption) ?_
    rfl
  · with_reducible exact Canon.ite (State.journalFail_canon _ _ (by assumption)) (by assumption)
  · with_reducible exact (by assumption)

theorem State.send_canon (s : Sys2Proof.Machine.State) (a1 : Nat) (a2 : Nat) (a3 : Sys2Proof.Machine.TxFrame) (a4 : Int) (h : Canon s) : Canon (State.send s a1 a2 a3 a4) := by
  unfold State.send
  dsimp only
  simp only [State.mk_make]
  split
  · with_reducible refine Canon.ite (State.faulted_canon _ _ _ _ (Canon.of (State.setMac_frame _ _ _) (Canon.of (State.inc_frame _ _)
                     (Canon.of (State.completeOf_frame _ _ _ _ _) ?_ ?_) ?_) ?_)) (Canon.of (State.completeOf_frame _ _ _ _ _) ?_ ?_)
    · split
      · with_reducible refine Canon.mk1 (Canon.of (State.setMac_frame _ _ _) (Canon.of (State.addHw_frame _ _ _ _ _) (Canon.of
                         (State.addHw_frame _ _ _ _ _) (Canon.of (State.redundancy_frame _ _ _) (Canon.of (State.dequeue_frame _ _ _) (by assumption) ?_) ?_)
                         ?_) ?_) ?_)
        · rfl
        · rfl
        · rfl
        · rfl
        · rfl
      · with_reducible refine Canon.of (State.setMac_frame _ _ _) (Canon.of (State.addHw_frame _ _ _ _ _) (Canon.of (State.addHw_frame _ _ _
                         _ _) (Canon.of (State.redundancy_frame _ _ _) (Canon.of (State.dequeue_frame _ _ _) (by assumption) ?_) ?_) ?_) ?_) ?_
        · rfl
        · rfl
        · rfl
        · rfl
        · rfl
    · rfl
    · rfl
    · rfl
    · split
      · with_reducible refine Canon.mk1 (Canon.of (State.setMac_frame _ _ _) (Canon.of (State.addHw_frame _ _ _ _ _) (Canon.of
                         (State.addHw_frame _ _ _ _ _) (Canon.of (State.redundancy_frame _ _ _) (Canon.of (State.dequeue_frame _ _ _) (by assumption) ?_) ?_)
                         ?_) ?_) ?_)
        · rfl
        · rfl
        · rfl
        · rfl
        · rfl
      · with_reducible refine Canon.of (State.setMac_frame _ _ _) (Canon.of (State.addHw_frame _ _ _ _ _) (Canon.of (State.addHw_frame _ _ _
                         _ _) (Canon.of (State.redundancy_frame _ _ _) (Canon.of (State.dequeue_frame _ _ _) (by assumption) ?_) ?_) ?_) ?_) ?_
        · rfl
        · rfl
        · rfl
        · rfl
        · rfl
    · rfl
  · with_reducible refine Canon.of (State.completeOf_frame _ _ _ _ _) ?_ ?_
    · split
      · with_reducible refine Canon.mk1 (Canon.of (State.setMac_frame _ _ _) (Canon.of (State.addHw_frame _ _ _ _ _) (Canon.of
                         (State.addHw_frame _ _ _ _ _) (Canon.of (State.redundancy_frame _ _ _) (Canon.of (State.dequeue_frame _ _ _) (by assumption) ?_) ?_)
                         ?_) ?_) ?_)
        · rfl
        · rfl
        · rfl
        · rfl
        · rfl
      · with_reducible refine Canon.of (State.setMac_frame _ _ _) (Canon.of (State.addHw_frame _ _ _ _ _) (Canon.of (State.addHw_frame _ _ _
                         _ _) (Canon.of (State.redundancy_frame _ _ _) (Canon.of (State.dequeue_frame _ _ _) (by assumption) ?_) ?_) ?_) ?_) ?_
        · rfl
        · rfl
        · rfl
        · rfl
        · rfl
    · rfl

theorem State.frameLaunch_canon (s : Sys2Proof.Machine.State) (a1 : Nat) (a2 : Nat) (a3 : Nat) (h : Canon s) : Canon (State.frameLaunch s a1 a2 a3) := by
  unfold State.frameLaunch
  dsimp only
  split
  · with_reducible exact (by assumption)
  · with_reducible refine Canon.ite (by assumption) (Canon.ite (Canon.of (State.completeOf_frame _ _ _ _ _) (Canon.of (State.inc_frame _ _)
                     (Canon.of (State.dequeue_frame _ _ _) (by assumption) ?_) ?_) ?_) (Canon.ite ?_ (Canon.ite (Canon.of (State.inc_frame _ _) (Canon.of
                     (State.dequeue_frame _ _ _) (by assumption) ?_) ?_) (Canon.ite (Canon.of (State.inc_frame _ _) (Canon.of (State.dequeue_frame _ _ _)
                     (by assumption) ?_) ?_) (State.send_canon _ _ _ _ _ (by assumption))))))
    · rfl
    · rfl
    · rfl
    · split
      · with_reducible refine Canon.of (State.inc_frame _ _) (Canon.of (State.dequeue_frame _ _ _) (by assumption) ?_) ?_
        · rfl
        · rfl
      · with_reducible refine Canon.of (State.completeOf_frame _ _ _ _ _) (Canon.of (State.dequeue_frame _ _ _) (by assumption) ?_) ?_
        · rfl
        · rfl
    · rfl
    · rfl
    · rfl
    · rfl

theorem State.i2cAttempt_canon (s : Sys2Proof.Machine.State) (a1 : Nat) (a2 : Bool) (h : Canon s) : Canon (State.i2cAttempt s a1 a2) := by
  unfold State.i2cAttempt
  dsimp only
  with_reducible refine Canon.ite (Canon.ite (Canon.of (State.setO_frame _ _ _) (Canon.of (State.setI2c_frame _ _ _) (by assumption) ?_) ?_)
                   (Canon.ite (Canon.of (State.setI2c_frame _ _ _) (by assumption) ?_) (State.i2cStuck_canon _ _ (Canon.of (State.setI2c_frame _ _ _)
                   (by assumption) ?_)))) (Canon.ite (Canon.ite (Canon.of (State.setO_frame _ _ _) (Canon.of (State.inc_frame _ _) (by assumption) ?_) ?_)
                   (by assumption)) (by assumption))
  · rfl
  · rfl
  · rfl
  · rfl
  · rfl
  · rfl

theorem State.i2cBusFree_canon (s : Sys2Proof.Machine.State) (a1 : Nat) (h : Canon s) : Canon (State.i2cBusFree s a1) := by
  unfold State.i2cBusFree
  dsimp only
  split
  · with_reducible exact (by assumption)
  · with_reducible refine Canon.ite (by assumption) (Canon.ite (State.i2cFailed_canon _ _ _ _ (Canon.of (State.inc_frame _ _) (Canon.of
                     (State.i2cFree_frame _ _) (by assumption) ?_) ?_)) (Canon.of (State.setI2c_frame _ _ _) (by assumption) ?_))
    · rfl
    · rfl
    · rfl

theorem State.i2cDone_canon (s : Sys2Proof.Machine.State) (a1 : Nat) (a2 : Sys2Proof.Machine.I2cEnd) (h : Canon s) : Canon (State.i2cDone s a1 a2) := by
  unfold State.i2cDone
  dsimp only
  split
  · with_reducible exact (by assumption)
  · with_reducible refine Canon.ite (by assumption) ?_
    split
    · with_reducible refine Canon.of (State.steerSent_frame _ _) (Canon.of (State.i2cFree_frame _ _) (by assumption) ?_) ?_
      · rfl
      · rfl
    · with_reducible refine Canon.of (State.i2cResult_frame _ _ _ _) (Canon.of (State.i2cFree_frame _ _) (by assumption) ?_) ?_
      · rfl
      · rfl
    · with_reducible refine State.i2cFailed_canon _ _ _ _ (Canon.of (State.inc_frame _ _) (Canon.of (State.i2cFree_frame _ _)
                       (by assumption) ?_) ?_)
      · rfl
      · rfl
    · with_reducible refine State.i2cFailed_canon _ _ _ _ (Canon.of (State.inc_frame _ _) (Canon.of (State.i2cFree_frame _ _)
                       (by assumption) ?_) ?_)
      · rfl
      · rfl

theorem State.i2cStretch_canon (s : Sys2Proof.Machine.State) (a1 : Nat) (a2 : Sys2Proof.Machine.I2cLines) (h : Canon s) : Canon (State.i2cStretch s a1 a2) := by
  unfold State.i2cStretch
  split
  · with_reducible exact (by assumption)
  · with_reducible refine Canon.of (State.i2cReset_frame _ _ _) (State.i2cFailed_canon _ _ _ _ (Canon.of (State.i2cFree_frame _ _)
                     (by assumption) ?_)) ?_
    · rfl
    · rfl

theorem State.initRun_canon (s : Sys2Proof.Machine.State) (a1 : Nat) (a2 : List Nat) (h : Canon s) : Canon (State.initRun s a1 a2) := by
  unfold State.initRun
  dsimp only
  with_reducible refine Canon.ite (Canon.of (State.setStamper_frame _ _ _) (Canon.of (State.setStamper_frame _ _ _) (Canon.ite (Canon.of
                   (State.inc_frame _ _) (by assumption) ?_) (by assumption)) ?_) ?_) ?_
  · rfl
  · rfl
  · rfl
  · split
    · with_reducible refine Canon.of (State.newTable_frame _ _ _ _) (Canon.of (State.setStamper_frame _ _ _) (Canon.ite (Canon.of
                       (State.inc_frame _ _) (by assumption) ?_) (by assumption)) ?_) ?_
      · rfl
      · rfl
      · rfl
    · with_reducible refine State.tableReject_canon _ _ (Canon.of (State.setStamper_frame _ _ _) (Canon.ite (Canon.of (State.inc_frame _ _)
                       (by assumption) ?_) (by assumption)) ?_)
      · rfl
      · rfl

theorem State.integrate_canon (s : Sys2Proof.Machine.State) (a1 : Nat) (a2 : Sys2Proof.Machine.TapSums) (a3 : Sys2Proof.Machine.Integration) (h : Canon s) : Canon (State.integrate s a1 a2 a3) := by
  unfold State.integrate
  dsimp only
  with_reducible refine Canon.ite (State.tapParity_canon _ _ _ (Canon.of (State.loopTransition_frame _ _ _) (Canon.of (State.setChan_frame _
                   _ _) (by assumption) ?_) ?_)) (State.tapParity_canon _ _ _ (Canon.of (State.loopTransition_frame _ _ _) (Canon.of (State.setChan_frame _ _
                   _) (Canon.of (State.closeLoops_frame _ _ _ _ _) (Canon.of (State.setChan_frame _ _ _) (by assumption) ?_) ?_) ?_) ?_))
  · rfl
  · rfl
  · rfl
  · rfl
  · rfl
  · rfl

theorem State.integrationEnd_canon (s : Sys2Proof.Machine.State) (a1 : Nat) (a2 : Sys2Proof.Machine.Integration) (h : Canon s) : Canon (State.integrationEnd s a1 a2) := by
  unfold State.integrationEnd
  dsimp only
  split
  · with_reducible refine State.integrate_canon _ _ _ _ (Canon.of (State.setChan_frame _ _ _) (by assumption) ?_)
    rfl
  · with_reducible exact (by assumption)

theorem State.journalDone_canon (s : Sys2Proof.Machine.State) (a1 : Bool) (h : Canon s) : Canon (State.journalDone s a1) := by
  unfold State.journalDone
  dsimp only
  simp only [State.mk_make]
  split
  · with_reducible exact (by assumption)
  · with_reducible refine Canon.ite (by assumption) (Canon.ite (Canon.of (State.flashNext_frame _) (Canon.of (State.inc_frame _ _) (Canon.of
                     (State.setN_frame _ _ _) (Canon.of (State.setN_frame _ _ _) (Canon.mk1 (by assumption)) ?_) ?_) ?_) ?_) (State.journalFail_canon _ _
                     (by assumption)))
    · rfl
    · rfl
    · rfl
    · rfl

theorem State.remapHard_canon (s : Sys2Proof.Machine.State) (h : Canon s) : Canon (State.remapHard s) := by
  unfold State.remapHard
  dsimp only
  simp only [State.mk_make]
  with_reducible exact Canon.foldl (fun _ _ _ => State.remapWord_canon _ _ _ (by assumption)) (Canon.mk1 (by assumption))

theorem State.maintain_canon (s : Sys2Proof.Machine.State) (a1 : Bool) (a2 : Option Nat) (h : Canon s) : Canon (State.maintain s a1 a2) := by
  unfold State.maintain
  dsimp only
  simp only [State.mk_make]
  with_reducible refine Canon.ite (State.applyImmediate_canon _ _ (Canon.of (State.serveWaiting_frame _ _) (State.remapHard_canon _
                   (State.checkpoints_canon _ (Canon.of (State.vaultW3_frame _ _) (Canon.of (State.chanResets_frame _) (Canon.mk1 (by assumption)) ?_) ?_)))
                   ?_)) (Canon.of (State.replayBegin_frame _) (State.appendRecord_canon _ (Canon.of (State.prepareKey_frame _) (State.applyImmediate_canon _
                   _ (Canon.of (State.serveWaiting_frame _ _) (State.remapHard_canon _ (State.checkpoints_canon _ (Canon.of (State.vaultW3_frame _ _)
                   (Canon.of (State.chanResets_frame _) (Canon.mk1 (by assumption)) ?_) ?_))) ?_)) ?_)) ?_)
  · rfl
  · rfl
  · rfl
  · rfl
  · rfl
  · rfl
  · rfl
  · rfl

theorem State.memCycle_canon (s : Sys2Proof.Machine.State) (a1 : Sys2Proof.Machine.MemCycle) (h : Canon s) : Canon (State.memCycle s a1) := by
  unfold State.memCycle
  dsimp only
  simp only [State.mk_make]
  split
  · with_reducible exact (by assumption)
  · with_reducible refine Canon.ite ?_ (Canon.of (State.addN_frame _ _ _) ?_ ?_)
    · split
      · with_reducible exact Canon.ite (Canon.mk1 (by assumption)) (State.writeWord_canon _ _ _ _ (Canon.mk1 (by assumption)))
      · with_reducible exact Canon.mk1 (by assumption)
    · split
      · with_reducible exact Canon.ite (Canon.mk1 (by assumption)) (State.writeWord_canon _ _ _ _ (Canon.mk1 (by assumption)))
      · with_reducible exact Canon.mk1 (by assumption)
    · rfl

theorem State.memCycles_canon (s : Sys2Proof.Machine.State) (a1 : List Sys2Proof.Machine.MemCycle) (h : Canon s) : Canon (State.memCycles s a1) := by
  unfold State.memCycles
  dsimp only
  simp only [State.mk_make]
  with_reducible exact Canon.foldl (fun _ _ _ => State.memCycle_canon _ _ (by assumption)) (Canon.mk1 (by assumption))

theorem State.navWrite_canon (s : Sys2Proof.Machine.State) (a1 : Sys2Proof.Octets) (h : Canon s) : Canon (State.navWrite s a1) := by
  unfold State.navWrite
  dsimp only
  simp only [State.mk_make]
  with_reducible refine Canon.ite (Canon.of (State.vector_frame _ _ _) (Canon.of (State.vector_frame _ _ _) (Canon.ite (Canon.mk1
                   (State.navPut_canon _ _ _ (by assumption))) (Canon.of (State.addN_frame _ _ _) (Canon.mk1 (State.navPut_canon _ _ _ (by assumption))) ?_))
                   ?_) ?_) (Canon.ite (Canon.mk1 (State.navPut_canon _ _ _ (by assumption))) (Canon.of (State.addN_frame _ _ _) (Canon.mk1
                   (State.navPut_canon _ _ _ (by assumption))) ?_))
  · rfl
  · rfl
  · rfl
  · rfl

theorem State.navUnit_canon (s : Sys2Proof.Machine.State) (a1 : Nat) (a2 : Sys2Proof.Machine.NavUnit) (h : Canon s) : Canon (State.navUnit s a1 a2) := by
  unfold State.navUnit
  dsimp only
  with_reducible refine Canon.ite (Canon.of (State.inc_frame _ _) (Canon.of (State.setChan_frame _ _ _) (by assumption) ?_) ?_) (Canon.ite
                   (Canon.of (State.inc_frame _ _) (Canon.of (State.setChan_frame _ _ _) (by assumption) ?_) ?_) (Canon.ite (Canon.of (State.chanEnter_frame
                   _ _ _) (Canon.of (State.navFields_frame _ _ _) (State.navWrite_canon _ _ (Canon.of (State.inc_frame _ _) (Canon.of (State.setChan_frame _
                   _ _) (by assumption) ?_) ?_)) ?_) ?_) (Canon.of (State.navFields_frame _ _ _) (State.navWrite_canon _ _ (Canon.of (State.inc_frame _ _)
                   (Canon.of (State.setChan_frame _ _ _) (by assumption) ?_) ?_)) ?_)))
  · rfl
  · rfl
  · rfl
  · rfl
  · rfl
  · rfl
  · rfl
  · rfl
  · rfl
  · rfl
  · rfl

theorem State.unfinished_canon (s : Sys2Proof.Machine.State) (a1 : Sys2Proof.Machine.Unfinished) (h : Canon s) : Canon (State.unfinished s a1).1 := by
  unfold State.unfinished
  dsimp only
  simp only [State.mk_make]
  split
  · with_reducible refine Canon.of (State.stampOverrun_frame _ _) (by assumption) ?_
    rfl
  · with_reducible refine Canon.of (State.gladeDumpMissing_frame _) (by assumption) ?_
    rfl
  · with_reducible exact Canon.mk1 (by assumption)
  · with_reducible refine Canon.of (State.sendAgree_frame _ _) (Canon.mk1 (Canon.of (State.coastTick_frame _) (State.faulted_canon _ _ _ _
                     (by assumption)) ?_)) ?_
    · rfl
    · rfl
  · with_reducible exact Canon.mk1 (by assumption)
  · with_reducible exact State.engineFail_canon _ _ _ (Canon.mk1 (by assumption))
  · with_reducible refine Canon.of (State.inc_frame _ _) (Canon.mk1 (by assumption)) ?_
    rfl
  · with_reducible refine Canon.of (State.dumpDiscard_frame _ _) (Canon.of (State.dumpDiscard_frame _ _) (by assumption) ?_) ?_
    · rfl
    · rfl
  · with_reducible exact (by assumption)
  · with_reducible refine Canon.of (State.keyframeMissed_frame _) (by assumption) ?_
    rfl

theorem State.overrun_canon (s : Sys2Proof.Machine.State) (a1 : Sys2Proof.Machine.Unfinished) (h : Canon s) : Canon (State.overrun s a1) := by
  unfold State.overrun
  dsimp only
  simp only [State.mk_make]
  with_reducible refine Canon.of (State.setN_frame _ _ _) (Canon.of (State.addN_frame _ _ _) (Canon.ite (State.unfinished_canon _ _
                   (by assumption)) (Canon.of (State.inc_frame _ _) (Canon.mk1 (State.unfinished_canon _ _ (by assumption))) ?_)) ?_) ?_
  · rfl
  · rfl
  · rfl

theorem State.recalEnd_canon (s : Sys2Proof.Machine.State) (a1 : Nat) (a2 : List Nat) (h : Canon s) : Canon (State.recalEnd s a1 a2) := by
  unfold State.recalEnd
  dsimp only
  with_reducible refine Canon.ite (State.addRun_canon _ _ _ (Canon.ite (Canon.of (State.inc_frame _ _) (by assumption) ?_) (by assumption)))
                   (Canon.of (State.stamperActive_frame _ _) (Canon.of (State.measureSkew_frame _ _ _ _) (State.addRun_canon _ _ _ (Canon.ite (Canon.of
                   (State.inc_frame _ _) (by assumption) ?_) (by assumption))) ?_) ?_)
  · rfl
  · rfl
  · rfl
  · rfl

end Sys2Proof.Machine
end

