-- ==== Sys2Proof/Laws/Canons2.lean ====
section
/-!
SUPPORT. The canonical form of the SRAM under operations, part 2.
-/

namespace Sys2Proof.Machine

theorem State.released_canon (s : Sys2Proof.Machine.State) (a1 : Bool) (a2 : Nat) (a3 : Sys2Proof.Machine.I2cLines × Sys2Proof.Machine.I2cLines) (h : Canon s) : Canon (State.released s a1 a2 a3) := by
  unfold State.released
  dsimp only
  simp only [State.mk_make]
  with_reducible refine Canon.ite (State.faulted_canon _ _ _ _ (Canon.of (State.i2cReset_frame _ _ _) (Canon.of (State.i2cReset_frame _ _ _)
                   (Canon.ite (Canon.of (State.setN_frame _ _ _) (Canon.of (State.pllStart_frame _ _) (Canon.of (State.setO_frame _ _ _) (Canon.of
                   (State.setN_frame _ _ _) (Canon.of (State.setN_frame _ _ _) (Canon.of (State.setF_frame _ _ _) (Canon.of (State.changeMode_frame _ _)
                   (Canon.mk1 (by assumption)) ?_) ?_) ?_) ?_) ?_) ?_) ?_) (Canon.of (State.setN_frame _ _ _) (Canon.of (State.setN_frame _ _ _) (Canon.of
                   (State.pllStart_frame _ _) (Canon.of (State.setO_frame _ _ _) (Canon.of (State.setN_frame _ _ _) (Canon.of (State.setN_frame _ _ _)
                   (Canon.of (State.setF_frame _ _ _) (Canon.of (State.changeMode_frame _ _) (Canon.mk1 (by assumption)) ?_) ?_) ?_) ?_) ?_) ?_) ?_) ?_)) ?_)
                   ?_)) (Canon.ite (State.faulted_canon _ _ _ _ (Canon.of (State.i2cReset_frame _ _ _) (Canon.of (State.i2cReset_frame _ _ _) (Canon.ite
                   (Canon.of (State.setN_frame _ _ _) (Canon.of (State.pllStart_frame _ _) (Canon.of (State.setO_frame _ _ _) (Canon.of (State.setN_frame _ _
                   _) (Canon.of (State.setN_frame _ _ _) (Canon.of (State.setF_frame _ _ _) (Canon.of (State.changeMode_frame _ _) (Canon.mk1
                   (by assumption)) ?_) ?_) ?_) ?_) ?_) ?_) ?_) (Canon.of (State.setN_frame _ _ _) (Canon.of (State.setN_frame _ _ _) (Canon.of
                   (State.pllStart_frame _ _) (Canon.of (State.setO_frame _ _ _) (Canon.of (State.setN_frame _ _ _) (Canon.of (State.setN_frame _ _ _)
                   (Canon.of (State.setF_frame _ _ _) (Canon.of (State.changeMode_frame _ _) (Canon.mk1 (by assumption)) ?_) ?_) ?_) ?_) ?_) ?_) ?_) ?_)) ?_)
                   ?_)) (Canon.of (State.i2cReset_frame _ _ _) (Canon.of (State.i2cReset_frame _ _ _) (Canon.ite (Canon.of (State.setN_frame _ _ _) (Canon.of
                   (State.pllStart_frame _ _) (Canon.of (State.setO_frame _ _ _) (Canon.of (State.setN_frame _ _ _) (Canon.of (State.setN_frame _ _ _)
                   (Canon.of (State.setF_frame _ _ _) (Canon.of (State.changeMode_frame _ _) (Canon.mk1 (by assumption)) ?_) ?_) ?_) ?_) ?_) ?_) ?_)
                   (Canon.of (State.setN_frame _ _ _) (Canon.of (State.setN_frame _ _ _) (Canon.of (State.pllStart_frame _ _) (Canon.of (State.setO_frame _ _
                   _) (Canon.of (State.setN_frame _ _ _) (Canon.of (State.setN_frame _ _ _) (Canon.of (State.setF_frame _ _ _) (Canon.of
                   (State.changeMode_frame _ _) (Canon.mk1 (by assumption)) ?_) ?_) ?_) ?_) ?_) ?_) ?_) ?_)) ?_) ?_))
  · rfl
  · rfl
  · rfl
  · rfl
  · rfl
  · rfl
  · rfl
  · rfl
  · rfl
  · rfl
  · rfl
  · rfl
  · rfl
  · rfl
  · rfl
  · rfl
  · rfl
  · rfl
  · rfl
  · rfl
  · rfl
  · rfl
  · rfl
  · rfl
  · rfl
  · rfl
  · rfl
  · rfl
  · rfl
  · rfl
  · rfl
  · rfl
  · rfl
  · rfl
  · rfl
  · rfl
  · rfl
  · rfl
  · rfl
  · rfl
  · rfl
  · rfl
  · rfl
  · rfl
  · rfl
  · rfl
  · rfl
  · rfl
  · rfl
  · rfl
  · rfl

theorem State.replayRun_canon (s : Sys2Proof.Machine.State) (a1 : Sys2Proof.Machine.CanopyImage) (a2 : Sys2Proof.Machine.FeedRecord) (h : Canon s) : Canon (State.replayRun s a1 a2).1 := by
  unfold State.replayRun
  dsimp only
  simp only [State.mk_make]
  with_reducible refine State.canopyTick_canon _ _ (Canon.of (State.project_frame _ _) (Canon.foldl (fun _ _ _ => Canon.of
                   (State.imageWrite_frame _ _) (by assumption) ?_) (Canon.mk1 (by assumption))) ?_)
  · rfl
  · rfl

theorem State.replayTick_canon (s : Sys2Proof.Machine.State) (a1 : Sys2Proof.Machine.FeedRecord) (h : Canon s) : Canon (State.replayTick s a1) := by
  unfold State.replayTick
  dsimp only
  split
  · with_reducible exact (by assumption)
  · with_reducible refine Canon.ite (Canon.of (State.replayEnd_frame _ _ _) (by assumption) ?_) (Canon.ite (Canon.of (State.replayEnd_frame
                     _ _ _) (by assumption) ?_) (Canon.ite (Canon.of (State.replayEnd_frame _ _ _) (by assumption) ?_) (Canon.ite (Canon.of
                     (State.replayEnd_frame _ _ _) (Canon.ite (Canon.of (State.replayDiffer_frame _ _) (Canon.of (State.replayOut_frame _ _) (by assumption)
                     ?_) ?_) (Canon.of (State.replayOut_frame _ _) (by assumption) ?_)) ?_) (Canon.of (State.replayPast_frame _ _ _) (Canon.ite (Canon.of
                     (State.replayDiffer_frame _ _) (Canon.of (State.replayOut_frame _ _) (by assumption) ?_) ?_) (Canon.of (State.replayOut_frame _ _)
                     (by assumption) ?_)) ?_))))
    · rfl
    · rfl
    · rfl
    · rfl
    · rfl
    · rfl
    · rfl
    · rfl
    · rfl
    · rfl
    · rfl

theorem State.replayTicks_canon (s : Sys2Proof.Machine.State) (a1 : Nat) (a2 : List Sys2Proof.Machine.FeedRecord) (h : Canon s) : Canon (State.replayTicks s a1 a2) := by
  induction a2 generalizing s a1 with
  | nil => cases a1 <;> exact h
  | cons v t ih =>
  cases a1 with
  | zero => exact h
  | succ n =>
  unfold State.replayTicks
  try dsimp only
  try simp only [State.mk_make]
  repeat' first
    | with_reducible assumption
    | with_reducible intro _ _ _
    | with_reducible intro _ _
    | with_reducible apply ih
    | with_reducible apply Canon.mk1
    | with_reducible apply State.replayTick_canon
    | with_reducible apply Canon.foldl
    | with_reducible apply Canon.foldlFst
    | with_reducible refine Canon.fst (by assumption) ?_
    | with_reducible apply Canon.ite
    | with_reducible apply Canon.iteFst
    | split
    | rfl
    | decide


theorem State.replayW1_canon (s : Sys2Proof.Machine.State) (a1 : List Sys2Proof.Machine.FeedRecord) (h : Canon s) : Canon (State.replayW1 s a1) := by
  unfold State.replayW1
  dsimp only
  with_reducible refine Canon.ite (Canon.ite (State.replayTicks_canon _ _ _ (Canon.of (State.setO_frame _ _ _) (Canon.of
                   (State.saveReplay_frame _) (by assumption) ?_) ?_)) (Canon.of (State.setO_frame _ _ _) (Canon.of (State.saveReplay_frame _)
                   (by assumption) ?_) ?_)) (Canon.of (State.saveReplay_frame _) (by assumption) ?_)
  · rfl
  · rfl
  · rfl
  · rfl
  · rfl

theorem State.replayW2_canon (s : Sys2Proof.Machine.State) (a1 : List Sys2Proof.Machine.FeedRecord) (h : Canon s) : Canon (State.replayW2 s a1) := by
  unfold State.replayW2
  with_reducible exact State.replayTicks_canon _ _ _ (by assumption)

theorem State.report_canon (s : Sys2Proof.Machine.State) (a1 : Sys2Proof.Machine.FaultOperand) (h : Canon s) : Canon (State.report s a1) := by
  unfold State.report
  dsimp only
  simp only [State.mk_make]
  with_reducible refine Canon.ite (by assumption) (Canon.ite (Canon.ite (Canon.of (State.injConsume_frame _) (by assumption) ?_)
                   (by assumption)) (Canon.mk1 (State.faultReact_canon _ _ _ (Canon.mk1 (Canon.ite (Canon.of (State.injConsume_frame _) (by assumption) ?_)
                   (by assumption))))))
  · rfl
  · rfl

theorem State.runInputs_canon (s : Sys2Proof.Machine.State) (a1 : Sys2Proof.Machine.TwinInputs) (h : Canon s) : Canon (State.runInputs s a1) := by
  unfold State.runInputs
  with_reducible refine Canon.of (State.unproject_frame _ _ _) (State.canopyTick_canon _ _ (Canon.of (State.project_frame _ _)
                   (by assumption) ?_)) ?_
  · rfl
  · rfl

theorem State.scrubStep_canon (s : Sys2Proof.Machine.State) (a1 : Nat) (a2 : Nat) (h : Canon s) : Canon (State.scrubStep s a1 a2) := by
  unfold State.scrubStep
  dsimp only
  simp only [State.mk_make]
  with_reducible refine Canon.ite (Canon.of (State.inc_frame _ _) (Canon.mk1 (by assumption)) ?_) (Canon.mk1 (by assumption))
  rfl

theorem State.scrubFound_canon (s : Sys2Proof.Machine.State) (a1 : Nat) (a2 : Nat) (a3 : Sys2Proof.Machine.MemError) (h : Canon s) : Canon (State.scrubFound s a1 a2 a3) := by
  unfold State.scrubFound
  split
  · with_reducible exact (by assumption)
  · with_reducible exact State.memCe_canon _ _ _ (by assumption)
  · with_reducible exact State.memUe_canon _ _ _ _ _ (by assumption)

theorem State.scrubRead_canon (s : Sys2Proof.Machine.State) (a1 : Nat) (a2 : Sys2Proof.Machine.MemError) (h : Canon s) : Canon (State.scrubRead s a1 a2) := by
  unfold State.scrubRead
  dsimp only
  simp only [State.mk_make]
  with_reducible refine Canon.ite (by assumption) ?_
  split
  · with_reducible refine Canon.mk1 (State.scrubFound_canon _ _ _ _ (Canon.mk1 (Canon.of (State.drew_frame _) (Canon.of
                     (State.injConsume_frame _) (State.scrubStep_canon _ _ _ (by assumption)) ?_) ?_)))
    · rfl
    · rfl
  · with_reducible exact State.scrubFound_canon _ _ _ _ (State.scrubStep_canon _ _ _ (by assumption))

theorem State.selftested_canon (s : Sys2Proof.Machine.State) (a1 : Nat) (a2 : List (Fin 17)) (a3 : Nat) (h : Canon s) : Canon (State.selftested s a1 a2 a3) := by
  unfold State.selftested
  dsimp only
  simp only [State.mk_make]
  with_reducible refine Canon.ite (State.groveFault_canon _ _ (Canon.of (State.setN_frame _ _ _) (Canon.foldl (fun _ _ _ => Canon.ite
                   (by assumption) (Canon.of (State.setO_frame _ _ _) (by assumption) ?_)) (by assumption)) ?_)) (Canon.mk1 (Canon.of (State.setN_frame _ _
                   _) (Canon.foldl (fun _ _ _ => Canon.ite (by assumption) (Canon.of (State.setO_frame _ _ _) (by assumption) ?_)) (by assumption)) ?_))
  · rfl
  · rfl
  · rfl
  · rfl

theorem State.shadowTick_canon (s : Sys2Proof.Machine.State) (h : Canon s) : Canon (State.shadowTick s) := by
  unfold State.shadowTick
  dsimp only
  simp only [State.mk_make]
  with_reducible refine Canon.ite (Canon.mk1 (by assumption)) (Canon.ite (Canon.mk1 (by assumption)) (Canon.mk1 (Canon.of
                   (State.withOwn_frame _ _ _) (State.compareDigest_canon _ _ (State.runInputs_canon _ _ (Canon.of (State.withShadow_frame _ _)
                   (by assumption) ?_))) ?_)))
  · rfl
  · rfl

theorem State.solveOwn_canon (s : Sys2Proof.Machine.State) (h : Canon s) : Canon (State.solveOwn s) := by
  unfold State.solveOwn
  dsimp only
  simp only [State.mk_make]
  with_reducible refine Canon.of (State.coreBound_frame _) (Canon.of (State.publishCoast_frame _) (State.ensembleSlot_canon _
                   (State.servoTick_canon _ (Canon.ite (State.requestFirst_canon _ (Canon.of (State.takeObservations_frame _) (Canon.mk1 (by assumption))
                   ?_)) (Canon.of (State.takeObservations_frame _) (Canon.mk1 (by assumption)) ?_)))) ?_) ?_
  · rfl
  · rfl
  · rfl
  · rfl

theorem State.solveShadow_canon (s : Sys2Proof.Machine.State) (h : Canon s) : Canon (State.solveShadow s) := by
  unfold State.solveShadow
  dsimp only
  simp only [State.mk_make]
  with_reducible refine Canon.ite (State.shadowTick_canon _ (by assumption)) (Canon.of (State.coreBound_frame _) (Canon.of
                   (State.publishCoast_frame _) (State.servoTick_canon _ (Canon.ite (State.requestFirst_canon _ (Canon.of (State.takeObservations_frame _)
                   (Canon.mk1 (Canon.foldl (fun _ _ _ => Canon.of (State.ownRecord_frame _ _) (by assumption) ?_) (State.shadowTick_canon _
                   (by assumption)))) ?_)) (Canon.of (State.takeObservations_frame _) (Canon.mk1 (Canon.foldl (fun _ _ _ => Canon.of (State.ownRecord_frame _
                   _) (by assumption) ?_) (State.shadowTick_canon _ (by assumption)))) ?_))) ?_) ?_)
  · rfl
  · rfl
  · rfl
  · rfl
  · rfl
  · rfl

theorem State.solveTake_canon (s : Sys2Proof.Machine.State) (h : Canon s) : Canon (State.solveTake s) := by
  unfold State.solveTake
  dsimp only
  simp only [State.mk_make]
  with_reducible refine Canon.ite (State.shadowTick_canon _ (by assumption)) (Canon.of (State.sendAgree_frame _ _) (Canon.mk1 (Canon.of
                   (State.coastTick_frame _) (Canon.of (State.saveW1_frame _) (Canon.of (State.finishTake_frame _) (State.shadowTick_canon _ (by assumption))
                   ?_) ?_) ?_)) ?_)
  · rfl
  · rfl
  · rfl
  · rfl

theorem State.solve_canon (s : Sys2Proof.Machine.State) (h : Canon s) : Canon (State.solve s) := by
  unfold State.solve
  dsimp only
  simp only [State.mk_make]
  with_reducible refine Canon.ite (State.solveTake_canon _ (Canon.of (State.stageInputs_frame _) (Canon.mk1 (Canon.of (State.saveW1_frame _)
                   (Canon.of (State.gladeObs_frame _) (by assumption) ?_) ?_)) ?_)) (Canon.ite (Canon.ite (State.solveShadow_canon _ (Canon.of
                   (State.stageInputs_frame _) (Canon.mk1 (Canon.of (State.saveW1_frame _) (Canon.of (State.gladeObs_frame _) (by assumption) ?_) ?_)) ?_))
                   (State.solveOwn_canon _ (Canon.of (State.stageInputs_frame _) (Canon.mk1 (Canon.of (State.saveW1_frame _) (Canon.of (State.gladeObs_frame
                   _) (by assumption) ?_) ?_)) ?_))) (Canon.of (State.sendAgree_frame _ _) (Canon.of (State.stageOutputs_frame _ _ _) (Canon.ite
                   (State.solveShadow_canon _ (Canon.of (State.stageInputs_frame _) (Canon.mk1 (Canon.of (State.saveW1_frame _) (Canon.of
                   (State.gladeObs_frame _) (by assumption) ?_) ?_)) ?_)) (State.solveOwn_canon _ (Canon.of (State.stageInputs_frame _) (Canon.mk1 (Canon.of
                   (State.saveW1_frame _) (Canon.of (State.gladeObs_frame _) (by assumption) ?_) ?_)) ?_))) ?_) ?_))
  · rfl
  · rfl
  · rfl
  · rfl
  · rfl
  · rfl
  · rfl
  · rfl
  · rfl
  · rfl
  · rfl
  · rfl
  · rfl
  · rfl
  · rfl
  · rfl
  · rfl

theorem State.steerWrite_canon (s : Sys2Proof.Machine.State) (a1 : Nat) (a2 : Int) (h : Canon s) : Canon (State.steerWrite s a1 a2) := by
  unfold State.steerWrite
  dsimp only
  with_reducible refine Canon.ite (Canon.of (State.steerSent_frame _ _) (Canon.of (State.setDst_frame _ _ _) (by assumption) ?_) ?_)
                   (Canon.ite (State.steerFail_canon _ _ (Canon.of (State.inc_frame _ _) (Canon.of (State.setDst_frame _ _ _) (by assumption) ?_) ?_))
                   (Canon.of (State.setI2c_frame _ _ _) (Canon.of (State.setDst_frame _ _ _) (by assumption) ?_) ?_))
  · rfl
  · rfl
  · rfl
  · rfl
  · rfl
  · rfl

theorem State.steerInterval_canon (s : Sys2Proof.Machine.State) (a1 : Nat) (h : Canon s) : Canon (State.steerInterval s a1) := by
  unfold State.steerInterval
  dsimp only
  with_reducible refine Canon.ite (by assumption) (Canon.ite (Canon.of (State.setDst_frame _ _ _) (by assumption) ?_)
                   (State.steerWrite_canon _ _ _ (Canon.of (State.setDst_frame _ _ _) (Canon.of (State.setDst_frame _ _ _) (by assumption) ?_) ?_)))
  · rfl
  · rfl
  · rfl

theorem State.tamper_canon (s : Sys2Proof.Machine.State) (h : Canon s) : Canon (State.tamper s) := by
  unfold State.tamper
  dsimp only
  simp only [State.mk_make]
  with_reducible refine Canon.ite (State.faulted_canon _ _ _ _ (Canon.mk1 (Canon.of (State.zeroise_frame _) (by assumption) ?_))) (Canon.mk1
                   (Canon.of (State.zeroise_frame _) (by assumption) ?_))
  · rfl
  · rfl

theorem State.thermalRead_canon (s : Sys2Proof.Machine.State) (a1 : List Int) (h : Canon s) : Canon (State.thermalRead s a1) := by
  unfold State.thermalRead
  dsimp only
  simp only [State.mk_make]
  with_reducible refine Canon.ite (Canon.mk1 (Canon.of (State.setO_frame _ _ _) (Canon.of (State.setO_frame _ _ _) (Canon.foldl (fun _ _ _
                   => Canon.of (State.setO_frame _ _ _) (by assumption) ?_) (by assumption)) ?_) ?_)) ?_
  · rfl
  · rfl
  · rfl
  · split
    · with_reducible refine Canon.ite (State.faulted_canon _ _ _ _ (Canon.of (State.inc_frame _ _) (Canon.of (State.setO_frame _ _ _)
                       (Canon.mk1 (Canon.of (State.setO_frame _ _ _) (Canon.of (State.setO_frame _ _ _) (Canon.foldl (fun _ _ _ => Canon.of (State.setO_frame
                       _ _ _) (by assumption) ?_) (by assumption)) ?_) ?_)) ?_) ?_)) (Canon.mk1 (Canon.of (State.setO_frame _ _ _) (Canon.of
                       (State.setO_frame _ _ _) (Canon.foldl (fun _ _ _ => Canon.of (State.setO_frame _ _ _) (by assumption) ?_) (by assumption)) ?_) ?_))
      · rfl
      · rfl
      · rfl
      · rfl
      · rfl
      · rfl
      · rfl
      · rfl
    · with_reducible refine Canon.ite (Canon.of (State.setO_frame _ _ _) (Canon.mk1 (Canon.of (State.setO_frame _ _ _) (Canon.of
                       (State.setO_frame _ _ _) (Canon.foldl (fun _ _ _ => Canon.of (State.setO_frame _ _ _) (by assumption) ?_) (by assumption)) ?_) ?_))
                       ?_) (Canon.mk1 (Canon.of (State.setO_frame _ _ _) (Canon.of (State.setO_frame _ _ _) (Canon.foldl (fun _ _ _ => Canon.of
                       (State.setO_frame _ _ _) (by assumption) ?_) (by assumption)) ?_) ?_))
      · rfl
      · rfl
      · rfl
      · rfl
      · rfl
      · rfl
      · rfl
    · with_reducible refine Canon.mk1 (Canon.of (State.setO_frame _ _ _) (Canon.of (State.setO_frame _ _ _) (Canon.foldl (fun _ _ _ =>
                       Canon.of (State.setO_frame _ _ _) (by assumption) ?_) (by assumption)) ?_) ?_)
      · rfl
      · rfl
      · rfl

theorem State.thermalTrip_canon (s : Sys2Proof.Machine.State) (a1 : Nat) (h : Canon s) : Canon (State.thermalTrip s a1) := by
  unfold State.thermalTrip
  dsimp only
  simp only [State.mk_make]
  with_reducible exact Canon.ite (Canon.ite (Canon.mk1 (by assumption)) (by assumption)) (State.faulted_canon _ _ _ _ (Canon.mk1
                   (by assumption)))

theorem State.twpEdge_canon (s : Sys2Proof.Machine.State) (a1 : Int) (a2 : Sys2Proof.Machine.Capture) (a3 : Sys2Proof.Machine.Capture) (h : Canon s) : Canon (State.twpEdge s a1 a2 a3) := by
  unfold State.twpEdge
  dsimp only
  simp only [State.mk_make]
  split
  · with_reducible exact State.edge_canon _ _ _ _ _ (by assumption)
  · with_reducible refine Canon.ite (State.edge_canon _ _ _ _ _ (by assumption)) (Canon.of (State.pairObserve_frame _ _) (Canon.mk1
                     (State.edge_canon _ _ _ _ _ (by assumption))) ?_)
    rfl

end Sys2Proof.Machine
end

