-- ==== Sys2Proof/Laws/Halted.lean ====
section
/-!
SUPPORT. The mode HALTED under the operations: how "the mode is HALTED" is carried on.
-/

namespace Sys2Proof.Machine

/-- The mode is HALTED. -/
def Halted (s : State) : Prop := s.mode = mHalted

theorem Halted.mk1 {s : State} {x0 : List Instr} {x2 : Tbl Octets} {x3 : List Host.Cell} {x4 : SysState} {x5 : LeapState} {x6 : FaultState} {x7 : StampState} {x8 : GladeState} {x9 : SynthState} {x10 : CanopyState} {x11 : NetState} {x12 : ServState} {x13 : VaultState} {x14 : HostState} {x15 : ShuttleState} {x16 : TwinState} {x17 : RecordState} {x18 : PowerState} {x19 : BusState} (h : Halted s) :
    Halted (State.make x0 s.obj x2 x3 x4 x5 x6 x7 x8 x9 x10 x11 x12 x13 x14 x15 x16 x17 x18 x19) := h

theorem Halted.setO {s : State} {k : Nat} {v : Int} (h : Halted s) (hk : k ≠ Obj.modeCurrent) : Halted (s.setO k v) := by
  unfold Halted State.mode State.o State.setO at *
  simpa [Sparse.get_put_ne _ _ _ hk.symm] using h

theorem Halted.setN {s : State} {k v : Nat} (h : Halted s) (hk : k ≠ Obj.modeCurrent) : Halted (s.setN k v) := h.setO hk

theorem Halted.setF {s : State} {k : Nat} {v : Bool} (h : Halted s) (hk : k ≠ Obj.modeCurrent) : Halted (s.setF k v) := h.setO hk

theorem Halted.addN {s : State} {k v : Nat} (h : Halted s) (hk : k ≠ Obj.modeCurrent) : Halted (s.addN k v) := h.setO hk

theorem Halted.inc {s : State} {k : Nat} (h : Halted s) (hk : k ≠ Obj.modeCurrent) : Halted (s.inc k) := h.setO hk

/-- Writing HALTED. -/
theorem Halted.set (s : State) : Halted (s.setO Obj.modeCurrent mHalted) := State.o_setO_self _ _ _

/-- Entering HALTED. -/
theorem Halted.changeMode (s : State) : Halted (s.changeMode mHalted) := by
  have key : ∀ t : State, t.o Obj.modeCurrent = mHalted → Halted ((t.holdEvent 0x0002 (s.mode.toNat * 256 + mHalted.toNat) 0).hostEvent .modeChange) := by
    intro t ht
    have e : ((t.holdEvent 0x0002 (s.mode.toNat * 256 + mHalted.toNat) 0).hostEvent .modeChange).obj = t.obj := by
      unfold State.hostEvent State.holdEvent
      split <;> rfl
    exact (State.o_congr e _).trans ht
  apply key
  rw [State.o_inc, if_neg (by decide), State.o_setN, if_neg (by decide), State.o_setO_self]

/-- What a filter keeps reads as before. -/
theorem Sparse.lookup_filter {α : Type} (t : Tbl α) (q : Nat → Bool) (k : Nat) (h : q k = true) :
    (t.filter fun p => q p.1).lookup k = t.lookup k := by
  induction t with
  | nil => rfl
  | cons p t ih =>
    obtain ⟨a, b⟩ := p
    rw [List.filter_cons]
    split
    · rw [List.lookup_cons, List.lookup_cons, ih]
    · rename_i hq
      have : (k == a) = false := by
        rw [beq_eq_false_iff_ne]
        rintro rfl
        exact hq h
      rw [ih, List.lookup_cons, this]

theorem Halted.of {k : Nat} {s t : State} (g : Frame k s t) (h : Halted s) (hm : k.testBit 1 = false) : Halted t := by
  unfold Halted State.mode State.o at *
  rw [g.obj_eq hm]
  exact h

theorem Halted.foldl {α : Type} {f : State → α → State} {l : List α} {s : State} (k : ∀ t x, Halted t → Halted (f t x)) (h : Halted s) :
    Halted (l.foldl f s) := by
  induction l generalizing s with
  | nil => exact h
  | cons x l ih => exact ih (k s x h)

theorem Halted.foldlFst {α β : Type} {f : State × β → α → State × β} {l : List α} {p : State × β}
    (k : ∀ q x, Halted q.1 → Halted (f q x).1) (h : Halted p.1) : Halted (l.foldl f p).1 := by
  induction l generalizing p with
  | nil => exact h
  | cons x l ih => exact ih (k p x h)

theorem Halted.ite {a b : State} {c : Prop} {d : Decidable c} (h : Halted a) (k : Halted b) : Halted (if c then a else b) := by
  split <;> assumption

theorem Halted.iteFst {β : Type} {a b : State × β} {c : Prop} {d : Decidable c} (h : Halted a.1) (k : Halted b.1) :
    Halted (if c then a else b).1 := by
  split <;> assumption

theorem Halted.fst {α : Type} {a : State} {p : State × α} {b : α} (e : p = (a, b)) (h : Halted p.1) : Halted a := by
  rw [e] at h
  exact h

/-- A next state, if there is one, is HALTED. -/
def HaltedO (o : Host.Outcome State Fault Refusal) : Prop := ∀ t, o = .next t → Halted t

theorem HaltedO.next {s : State} (h : Halted s) : HaltedO (.next s) := by
  intro t e
  cases e
  exact h

theorem HaltedO.fault (f : Fault) : HaltedO (.fault f) := by
  intro t e
  cases e

theorem Halted.running {s : State} (h : Halted s) : s.running = false := by
  unfold State.running
  rw [show s.mode = 7 from h]
  rfl

theorem Halted.alive {s : State} (h : Halted s) : s.alive = false := by
  unfold State.alive
  rw [show s.mode = 7 from h]
  rfl

end Sys2Proof.Machine
end

