-- ==== Sys2Proof/Laws/Halts0.lean ====
section
/-!
SUPPORT. HALTED under operations, part 0.
-/

namespace Sys2Proof.Machine

set_option linter.unusedSimpArgs false

theorem State.setChan__halted (s : Sys2Proof.Machine.State) (a1 : Nat) (a2 : Sys2Proof.Machine.Channel) (h : Halted s) : Halted (State.setChan_ s a1 a2) := by
  unfold State.setChan_
  dsimp only
  simp only [State.mk_make]
  with_reducible refine Halted.setN (Halted.mk1 (by assumption)) ?_
  (simp only [Obj.mbxState, Obj.modeCurrent, ne_eq]; omega)

theorem State.doorbell_halted (s : Sys2Proof.Machine.State) (a1 : Nat) (a2 : Nat) (h : Halted s) : Halted (State.doorbell s a1 a2).1 := by
  unfold State.doorbell
  dsimp only
  with_reducible refine Halted.iteFst (by assumption) (Halted.iteFst ?_ (State.setChan__halted _ _ _ (by assumption)))
  with_reducible apply Halted.inc
  · with_reducible exact State.setChan__halted _ _ _ (by assumption)
  · (simp only [Obj.mbxOverruns, Obj.modeCurrent, ne_eq]; omega)

theorem State.accept_halted (s : Sys2Proof.Machine.State) (a1 : Sys2Proof.Machine.MsgSource) (h : Halted s) : Halted (State.accept s a1).1 := by
  unfold State.accept
  split
  · with_reducible exact State.doorbell_halted _ _ _ (by assumption)
  · with_reducible exact (by assumption)
  · with_reducible exact (by assumption)
  · with_reducible exact (by assumption)

theorem State.addHw_halted (s : Sys2Proof.Machine.State) (a1 : Nat) (a2 : Nat) (a3 : Nat) (a4 : Nat) (hk : a1 ≠ Obj.modeCurrent) (hw : a3 ≠ Obj.modeCurrent) (h : Halted s) : Halted (State.addHw s a1 a2 a3 a4) := by
  unfold State.addHw
  dsimp only
  with_reducible exact Halted.ite (Halted.setN (by assumption) (by assumption)) (Halted.setN (Halted.setN (by assumption) (by assumption))
                   (by assumption))

theorem State.accountWork_halted (s : Sys2Proof.Machine.State) (a1 : Sys2Proof.Machine.WorkTally) (h : Halted s) : Halted (State.accountWork s a1) := by
  unfold State.accountWork
  dsimp only
  with_reducible refine State.addHw_halted _ _ _ _ _ ?_ ?_ (State.addHw_halted _ _ _ _ _ ?_ ?_ (State.addHw_halted _ _ _ _ _ ?_ ?_
                   (State.addHw_halted _ _ _ _ _ ?_ ?_ (State.addHw_halted _ _ _ _ _ ?_ ?_ (by assumption)))))
  · (simp only [Obj.waCount, Obj.waWrapped, Obj.modeCurrent, ne_eq]; omega)
  · (simp only [Obj.waCount, Obj.waWrapped, Obj.modeCurrent, ne_eq]; omega)
  · (simp only [Obj.waCount, Obj.waWrapped, Obj.modeCurrent, ne_eq]; omega)
  · (simp only [Obj.waCount, Obj.waWrapped, Obj.modeCurrent, ne_eq]; omega)
  · (simp only [Obj.waCount, Obj.waWrapped, Obj.modeCurrent, ne_eq]; omega)
  · (simp only [Obj.waCount, Obj.waWrapped, Obj.modeCurrent, ne_eq]; omega)
  · (simp only [Obj.waCount, Obj.waWrapped, Obj.modeCurrent, ne_eq]; omega)
  · (simp only [Obj.waCount, Obj.waWrapped, Obj.modeCurrent, ne_eq]; omega)
  · (simp only [Obj.waCount, Obj.waWrapped, Obj.modeCurrent, ne_eq]; omega)
  · (simp only [Obj.waCount, Obj.waWrapped, Obj.modeCurrent, ne_eq]; omega)

theorem State.countOpen_halted (s : Sys2Proof.Machine.State) (h : Halted s) : Halted (State.countOpen s) := by
  unfold State.countOpen
  with_reducible exact Halted.setN (Halted.setN (by assumption) (by decide)) (by decide)

theorem State.ackUpTo_halted (s : Sys2Proof.Machine.State) (a1 : Nat) (h : Halted s) : Halted (State.ackUpTo s a1) := by
  unfold State.ackUpTo
  dsimp only
  simp only [State.mk_make]
  with_reducible refine Halted.of (State.holdEvent_frame _ _ _ _) (State.countOpen_halted _ (Halted.mk1 (by assumption))) ?_
  rfl

theorem State.aplltSwitch_halted (s : Sys2Proof.Machine.State) (a1 : Nat) (h : Halted s) : Halted (State.aplltSwitch s a1) := by
  unfold State.aplltSwitch
  dsimp only
  simp only [State.mk_make]
  with_reducible refine Halted.mk1 ?_
  with_reducible apply Halted.setO
  · with_reducible exact (by assumption)
  · with_reducible exact (by decide)

theorem State.aplltReact_halted (s : Sys2Proof.Machine.State) (h : Halted s) : Halted (State.aplltReact s) := by
  unfold State.aplltReact
  split
  · with_reducible exact State.aplltSwitch_halted _ _ (by assumption)
  · with_reducible exact (by assumption)

theorem State.refEnter_halted (s : Sys2Proof.Machine.State) (a1 : Nat) (a2 : Int) (h : Halted s) : Halted (State.refEnter s a1 a2) := by
  unfold State.refEnter
  dsimp only
  with_reducible apply Halted.setO
  · with_reducible refine Halted.ite ?_ (by assumption)
    with_reducible apply Halted.inc
    · with_reducible exact (by assumption)
    · (simp only [Obj.refDisqualifications, Obj.refState, Obj.modeCurrent, ne_eq]; omega)
  · (simp only [Obj.refDisqualifications, Obj.refState, Obj.modeCurrent, ne_eq]; omega)

theorem State.refBoundaryF_halted (s : Sys2Proof.Machine.State) (a1 : Nat) (h : Halted s) : Halted (State.refBoundaryF s a1) := by
  unfold State.refBoundaryF
  dsimp only
  simp only [State.mk_make]
  with_reducible exact Halted.ite (Halted.ite (Halted.mk1 (State.refEnter_halted _ _ _ (by assumption))) (State.refEnter_halted _ _ _
                   (by assumption))) (by assumption)

theorem State.activityEnd_halted (s : Sys2Proof.Machine.State) (a1 : Nat) (h : Halted s) : Halted (State.activityEnd s a1) := by
  unfold State.activityEnd
  dsimp only
  with_reducible refine Halted.ite (State.aplltReact_halted _ (Halted.ite (Halted.of (State.setRef_frame _ _ _) (by assumption) ?_)
                   (State.refEnter_halted _ _ _ (Halted.of (State.setRef_frame _ _ _) (by assumption) ?_)))) (Halted.ite (State.refEnter_halted _ _ _
                   (Halted.of (State.setRef_frame _ _ _) (Halted.of (State.setRef_frame _ _ _) (by assumption) ?_) ?_)) (State.refBoundaryF_halted _ _
                   (Halted.of (State.setRef_frame _ _ _) (by assumption) ?_)))
  · rfl
  · rfl
  · rfl
  · rfl
  · rfl

theorem State.addHwKey_halted (s : Sys2Proof.Machine.State) (a1 : Nat) (a2 : Nat) (hk : a1 ≠ Obj.modeCurrent) (h : Halted s) : Halted (State.addHwKey s a1 a2) := by
  unfold State.addHwKey
  dsimp only
  simp only [State.mk_make]
  with_reducible exact Halted.ite (Halted.setN (by assumption) (by assumption)) (Halted.mk1 (Halted.setN (by assumption) (by assumption)))

theorem State.newTable_halted (s : Sys2Proof.Machine.State) (a1 : Nat) (a2 : List (List Nat)) (a3 : List Nat) (h : Halted s) : Halted (State.newTable s a1 a2 a3) := by
  unfold State.newTable
  dsimp only
  simp only [State.mk_make]
  with_reducible refine Halted.ite (Halted.setN (Halted.mk1 (Halted.of (State.setStamper_frame _ _ _) (by assumption) ?_)) ?_) (Halted.mk1
                   (Halted.of (State.setStamper_frame _ _ _) (by assumption) ?_))
  · rfl
  · (simp only [Obj.stamperCalId, Obj.modeCurrent, ne_eq]; omega)
  · rfl

theorem State.showRing_halted (s : Sys2Proof.Machine.State) (h : Halted s) : Halted (State.showRing s) := by
  unfold State.showRing
  dsimp only
  with_reducible exact Halted.setN (Halted.setN (by assumption) (by decide)) (by decide)

theorem State.bobAppend_halted (s : Sys2Proof.Machine.State) (a1 : Sys2Proof.Machine.BobHead) (a2 : Sys2Proof.Octets) (h : Halted s) : Halted (State.bobAppend s a1 a2) := by
  unfold State.bobAppend
  dsimp only
  simp only [State.mk_make]
  with_reducible refine State.showRing_halted _ (Halted.ite ?_ (Halted.ite ?_ ?_))
  · with_reducible apply Halted.inc
    · with_reducible refine Halted.ite ?_ ?_
      · with_reducible apply Halted.inc
        · with_reducible apply Halted.addN
          · with_reducible apply Halted.inc
            · with_reducible refine Halted.setN (Halted.mk1 (Halted.of (State.writeBank_frame _ _ _ _) (Halted.of (State.ringTo_frame _ _)
                               (Halted.ite (by assumption) (Halted.of (State.writeBank_frame _ _ _ _) (by assumption) ?_)) ?_) ?_)) (by decide)
              · rfl
              · rfl
              · rfl
            · with_reducible exact (by decide)
          · with_reducible exact (by decide)
        · with_reducible exact (by decide)
      · with_reducible apply Halted.addN
        · with_reducible apply Halted.inc
          · with_reducible refine Halted.setN (Halted.mk1 (Halted.of (State.writeBank_frame _ _ _ _) (Halted.of (State.ringTo_frame _ _)
                             (Halted.ite (by assumption) (Halted.of (State.writeBank_frame _ _ _ _) (by assumption) ?_)) ?_) ?_)) (by decide)
            · rfl
            · rfl
            · rfl
          · with_reducible exact (by decide)
        · with_reducible exact (by decide)
    · with_reducible exact (by decide)
  · with_reducible apply Halted.inc
    · with_reducible apply Halted.addN
      · with_reducible apply Halted.inc
        · with_reducible refine Halted.setN (Halted.mk1 (Halted.of (State.writeBank_frame _ _ _ _) (Halted.of (State.ringTo_frame _ _)
                           (Halted.ite (by assumption) (Halted.of (State.writeBank_frame _ _ _ _) (by assumption) ?_)) ?_) ?_)) (by decide)
          · rfl
          · rfl
          · rfl
        · with_reducible exact (by decide)
      · with_reducible exact (by decide)
    · with_reducible exact (by decide)
  · with_reducible apply Halted.addN
    · with_reducible apply Halted.inc
      · with_reducible refine Halted.setN (Halted.mk1 (Halted.of (State.writeBank_frame _ _ _ _) (Halted.of (State.ringTo_frame _ _)
                         (Halted.ite (by assumption) (Halted.of (State.writeBank_frame _ _ _ _) (by assumption) ?_)) ?_) ?_)) (by decide)
        · rfl
        · rfl
        · rfl
      · with_reducible exact (by decide)
    · with_reducible exact (by decide)

theorem State.bobHalt_halted (s : Sys2Proof.Machine.State) (h : Halted s) : Halted (State.bobHalt s) := by
  unfold State.bobHalt
  dsimp only
  simp only [State.mk_make]
  with_reducible exact Halted.ite (Halted.mk1 (State.bobAppend_halted _ _ _ (by assumption))) (by assumption)

theorem State.dropReports_halted (s : Sys2Proof.Machine.State) (a1 : List Sys2Proof.Machine.Report) (h : Halted s) : Halted (State.dropReports s a1) := by
  unfold State.dropReports
  dsimp only
  simp only [State.mk_make]
  with_reducible refine State.countOpen_halted _ (Halted.mk1 ?_)
  with_reducible apply Halted.addN
  · with_reducible exact (by assumption)
  · with_reducible exact (by decide)

theorem State.uartLine_halted (s : Sys2Proof.Machine.State) (a1 : Nat) (a2 : Sys2Proof.Machine.Report) (h : Halted s) : Halted (State.uartLine s a1 a2) := by
  unfold State.uartLine
  dsimp only
  simp only [State.mk_make]
  with_reducible refine Halted.ite (Halted.ite (Halted.mk1 (by assumption)) ?_) (by assumption)
  with_reducible apply Halted.inc
  · with_reducible exact (by assumption)
  · with_reducible exact (by decide)

theorem State.logEntry_halted (s : Sys2Proof.Machine.State) (a1 : Sys2Proof.Machine.Report) (h : Halted s) : Halted (State.logEntry s a1) := by
  unfold State.logEntry
  dsimp only
  simp only [State.mk_make]
  with_reducible refine State.uartLine_halted _ _ _ (Halted.setN (Halted.mk1 (Halted.ite (Halted.mk1 ?_) (Halted.mk1 (Halted.of
                   (State.setBlob_frame _ _ _) (by assumption) ?_)))) (by decide))
  · with_reducible apply Halted.inc
    · with_reducible refine Halted.of (State.setBlob_frame _ _ _) (by assumption) ?_
      rfl
    · with_reducible exact (by decide)
  · rfl

theorem State.logEntries_halted (s : Sys2Proof.Machine.State) (a1 : List Sys2Proof.Machine.Report) (h : Halted s) : Halted (State.logEntries s a1) := by
  unfold State.logEntries
  with_reducible exact Halted.foldl (fun _ _ _ => State.logEntry_halted _ _ (by assumption)) (by assumption)

theorem State.flushLog_halted (s : Sys2Proof.Machine.State) (a1 : Nat) (a2 : Bool) (h : Halted s) : Halted (State.flushLog s a1 a2) := by
  unfold State.flushLog
  dsimp only
  simp only [State.mk_make]
  with_reducible exact Halted.foldl (fun _ _ _ => State.dropReports_halted _ _ (State.logEntries_halted _ _ (by assumption))) (Halted.mk1
                   (by assumption))

theorem State.chanEnter_halted (s : Sys2Proof.Machine.State) (a1 : Nat) (a2 : Nat) (h : Halted s) : Halted (State.chanEnter s a1 a2) := by
  unfold State.chanEnter
  dsimp only
  with_reducible refine Halted.ite ?_ (Halted.setN (Halted.of (State.setChan_frame _ _ _) (by assumption) ?_) ?_)
  · with_reducible apply Halted.inc
    · with_reducible refine Halted.setN (Halted.of (State.setChan_frame _ _ _) (by assumption) ?_) ?_
      · rfl
      · (simp only [Obj.chLosses, Obj.chState, Obj.modeCurrent, ne_eq]; omega)
    · (simp only [Obj.chLosses, Obj.chState, Obj.modeCurrent, ne_eq]; omega)
  · rfl
  · (simp only [Obj.chLosses, Obj.chState, Obj.modeCurrent, ne_eq]; omega)

theorem State.chanLose_halted (s : Sys2Proof.Machine.State) (a1 : Nat) (h : Halted s) : Halted (State.chanLose s a1) := by
  unfold State.chanLose
  dsimp only
  with_reducible exact Halted.ite (State.chanEnter_halted _ _ _ (by assumption)) (by assumption)

theorem State.linkChannelsLost_halted (s : Sys2Proof.Machine.State) (a1 : Nat) (h : Halted s) : Halted (State.linkChannelsLost s a1) := by
  unfold State.linkChannelsLost
  unfold State.forChans
  with_reducible exact Halted.foldl (fun _ _ _ => Halted.ite (State.chanLose_halted _ _ (by assumption)) (by assumption)) (by assumption)

theorem State.linkEnter_halted (s : Sys2Proof.Machine.State) (a1 : Nat) (a2 : Nat) (h : Halted s) : Halted (State.linkEnter s a1 a2) := by
  unfold State.linkEnter
  dsimp only
  with_reducible refine Halted.ite (State.linkChannelsLost_halted _ _ (Halted.foldl (fun _ _ _ => Halted.of (State.setStrm_frame _ _ _)
                   (by assumption) ?_) (Halted.ite ?_ (Halted.ite (Halted.of (State.linkStarts_frame _ _) (Halted.setN (Halted.of (State.setGlink_frame _ _
                   _) (by assumption) ?_) ?_) ?_) (Halted.setN (Halted.of (State.setGlink_frame _ _ _) (by assumption) ?_) ?_))))) (Halted.ite ?_ (Halted.ite
                   (Halted.of (State.linkStarts_frame _ _) (Halted.setN (Halted.of (State.setGlink_frame _ _ _) (by assumption) ?_) ?_) ?_) (Halted.setN
                   (Halted.of (State.setGlink_frame _ _ _) (by assumption) ?_) ?_)))
  · rfl
  · with_reducible apply Halted.inc
    · with_reducible refine Halted.setN (Halted.of (State.setGlink_frame _ _ _) (by assumption) ?_) ?_
      · rfl
      · (simp only [Obj.linkRestarts, Obj.linkState, Obj.modeCurrent, ne_eq]; omega)
    · (simp only [Obj.linkRestarts, Obj.linkState, Obj.modeCurrent, ne_eq]; omega)
  · rfl
  · (simp only [Obj.linkRestarts, Obj.linkState, Obj.modeCurrent, ne_eq]; omega)
  · rfl
  · rfl
  · (simp only [Obj.linkRestarts, Obj.linkState, Obj.modeCurrent, ne_eq]; omega)
  · with_reducible apply Halted.inc
    · with_reducible refine Halted.setN (Halted.of (State.setGlink_frame _ _ _) (by assumption) ?_) ?_
      · rfl
      · (simp only [Obj.linkRestarts, Obj.linkState, Obj.modeCurrent, ne_eq]; omega)
    · (simp only [Obj.linkRestarts, Obj.linkState, Obj.modeCurrent, ne_eq]; omega)
  · rfl
  · (simp only [Obj.linkRestarts, Obj.linkState, Obj.modeCurrent, ne_eq]; omega)
  · rfl
  · rfl
  · (simp only [Obj.linkRestarts, Obj.linkState, Obj.modeCurrent, ne_eq]; omega)

theorem State.linksDown_halted (s : Sys2Proof.Machine.State) (h : Halted s) : Halted (State.linksDown s) := by
  unfold State.linksDown
  with_reducible exact Halted.foldl (fun _ _ _ => Halted.ite (by assumption) (State.linkEnter_halted _ _ _ (by assumption))) (by assumption)

theorem State.surveyRestart_halted (s : Sys2Proof.Machine.State) (h : Halted s) : Halted (State.surveyRestart s) := by
  unfold State.surveyRestart
  dsimp only
  simp only [State.mk_make]
  with_reducible refine Halted.mk1 ?_
  with_reducible apply Halted.setO
  · with_reducible exact (by assumption)
  · with_reducible exact (by decide)

theorem State.gladeOff_halted (s : Sys2Proof.Machine.State) (h : Halted s) : Halted (State.gladeOff s) := by
  unfold State.gladeOff
  dsimp only
  unfold State.forChans
  with_reducible refine Halted.ite (by assumption) (Halted.ite ?_ (Halted.of (State.dropRecord_frame _) (Halted.of (State.spoofBreak_frame
                   _) (Halted.ite (State.surveyRestart_halted _ (Halted.foldl (fun _ _ _ => Halted.ite (by assumption) (State.chanEnter_halted _ _ _
                   (by assumption))) (State.linksDown_halted _ ?_))) (Halted.foldl (fun _ _ _ => Halted.ite (by assumption) (State.chanEnter_halted _ _ _
                   (by assumption))) (State.linksDown_halted _ ?_))) ?_) ?_))
  · with_reducible apply Halted.setO
    · with_reducible refine Halted.of (State.dropRecord_frame _) (Halted.of (State.spoofBreak_frame _) (Halted.ite
                       (State.surveyRestart_halted _ (Halted.foldl (fun _ _ _ => Halted.ite (by assumption) (State.chanEnter_halted _ _ _ (by assumption)))
                       (State.linksDown_halted _ ?_))) (Halted.foldl (fun _ _ _ => Halted.ite (by assumption) (State.chanEnter_halted _ _ _ (by assumption)))
                       (State.linksDown_halted _ ?_))) ?_) ?_
      · with_reducible apply Halted.setO
        · with_reducible exact (by assumption)
        · with_reducible exact (by decide)
      · with_reducible apply Halted.setO
        · with_reducible exact (by assumption)
        · with_reducible exact (by decide)
      · rfl
      · rfl
    · with_reducible exact (by decide)
  · with_reducible apply Halted.setO
    · with_reducible exact (by assumption)
    · with_reducible exact (by decide)
  · with_reducible apply Halted.setO
    · with_reducible exact (by assumption)
    · with_reducible exact (by decide)
  · rfl
  · rfl

theorem State.i2cRelease_halted (s : Sys2Proof.Machine.State) (a1 : Nat) (h : Halted s) : Halted (State.i2cRelease s a1) := by
  unfold State.i2cRelease
  dsimp only
  simp only [State.mk_make]
  with_reducible refine Halted.ite ?_ (Halted.mk1 (by assumption))
  with_reducible apply Halted.setO
  · with_reducible exact Halted.mk1 (by assumption)
  · (simp only [Obj.i2cBusState, Obj.modeCurrent, ne_eq]; omega)

theorem State.macDown_halted (s : Sys2Proof.Machine.State) (a1 : Nat) (h : Halted s) : Halted (State.macDown s a1) := by
  unfold State.macDown
  with_reducible refine Halted.ite (by assumption) ?_
  with_reducible apply Halted.setO
  · with_reducible refine Halted.ite ?_ (by assumption)
    with_reducible apply Halted.inc
    · with_reducible exact (by assumption)
    · (simp only [Obj.npLinkDowns, Obj.npLinkState, Obj.modeCurrent, ne_eq]; omega)
  · (simp only [Obj.npLinkDowns, Obj.npLinkState, Obj.modeCurrent, ne_eq]; omega)

theorem State.haltUnits_halted (s : Sys2Proof.Machine.State) (h : Halted s) : Halted (State.haltUnits s) := by
  have h1 : Halted ((List.range 16).foldl State.macDown s.gladeOff) :=
    Halted.foldl (fun t x ht => State.macDown_halted t x ht) (State.gladeOff_halted s h)
  unfold State.haltUnits
  apply Halted.foldl (fun t x ht => State.i2cRelease_halted t x ht)
  apply Halted.setO _ (by decide)
  unfold Halted State.mode State.o Sparse.get at *
  dsimp only
  rw [Sparse.lookup_filter _ (fun k => !haltedOff k) _ (by decide)]
  exact h1


theorem State.halt_halted (s : Sys2Proof.Machine.State) (a1 : Sys2Proof.Machine.Report) (h : Halted s) : Halted (State.halt s a1) := by
  unfold State.halt
  dsimp only
  simp only [State.mk_make]
  exact Halted.changeMode _

theorem State.recordFault_halted (s : Sys2Proof.Machine.State) (a1 : Nat) (a2 : Nat) (a3 : Nat) (a4 : Nat) (a5 : Bool) (h : Halted s) : Halted (State.recordFault s a1 a2 a3 a4 a5).1 := by
  unfold State.recordFault
  dsimp only
  simp only [State.mk_make]
  split
  · with_reducible exact (by assumption)
  · with_reducible refine Halted.iteFst (by assumption) (Halted.iteFst (State.halt_halted _ _ (Halted.of (State.hostEvent_frame _ _)
                     (State.countOpen_halted _ (Halted.mk1 (Halted.ite ?_ (Halted.ite ?_ ?_)))) ?_)) (Halted.of (State.hostEvent_frame _ _)
                     (State.countOpen_halted _ (Halted.mk1 (Halted.ite ?_ (Halted.ite ?_ ?_)))) ?_))
    · with_reducible apply Halted.inc
      · with_reducible refine Halted.ite ?_ ?_
        · with_reducible apply Halted.inc
          · with_reducible apply Halted.inc
            · with_reducible exact (by assumption)
            · (simp only [Obj.ackHoldTicks, Obj.escalationsCu, Obj.faultCodeCount, Obj.faultTotal, Obj.injArm, Obj.twinOwn, Obj.modeCurrent, ne_eq]; omega)
          · split
            · (simp only [Obj.ackHoldTicks, Obj.escalationsCu, Obj.faultCodeCount, Obj.faultTotal, Obj.injArm, Obj.twinOwn, Obj.modeCurrent, ne_eq]; omega)
            · (simp only [Obj.ackHoldTicks, Obj.escalationsCu, Obj.faultCodeCount, Obj.faultTotal, Obj.injArm, Obj.twinOwn, Obj.modeCurrent, ne_eq]; omega)
        · with_reducible apply Halted.inc
          · with_reducible exact (by assumption)
          · (simp only [Obj.ackHoldTicks, Obj.escalationsCu, Obj.faultCodeCount, Obj.faultTotal, Obj.injArm, Obj.twinOwn, Obj.modeCurrent, ne_eq]; omega)
      · with_reducible exact (by decide)
    · with_reducible apply Halted.inc
      · with_reducible apply Halted.inc
        · with_reducible exact (by assumption)
        · (simp only [Obj.ackHoldTicks, Obj.escalationsCu, Obj.faultCodeCount, Obj.faultTotal, Obj.injArm, Obj.twinOwn, Obj.modeCurrent, ne_eq]; omega)
      · split
        · (simp only [Obj.ackHoldTicks, Obj.escalationsCu, Obj.faultCodeCount, Obj.faultTotal, Obj.injArm, Obj.twinOwn, Obj.modeCurrent, ne_eq]; omega)
        · (simp only [Obj.ackHoldTicks, Obj.escalationsCu, Obj.faultCodeCount, Obj.faultTotal, Obj.injArm, Obj.twinOwn, Obj.modeCurrent, ne_eq]; omega)
    · with_reducible apply Halted.inc
      · with_reducible exact (by assumption)
      · (simp only [Obj.ackHoldTicks, Obj.escalationsCu, Obj.faultCodeCount, Obj.faultTotal, Obj.injArm, Obj.twinOwn, Obj.modeCurrent, ne_eq]; omega)
    · rfl
    · with_reducible apply Halted.inc
      · with_reducible refine Halted.ite ?_ ?_
        · with_reducible apply Halted.inc
          · with_reducible apply Halted.inc
            · with_reducible exact (by assumption)
            · (simp only [Obj.ackHoldTicks, Obj.escalationsCu, Obj.faultCodeCount, Obj.faultTotal, Obj.injArm, Obj.twinOwn, Obj.modeCurrent, ne_eq]; omega)
          · split
            · (simp only [Obj.ackHoldTicks, Obj.escalationsCu, Obj.faultCodeCount, Obj.faultTotal, Obj.injArm, Obj.twinOwn, Obj.modeCurrent, ne_eq]; omega)
            · (simp only [Obj.ackHoldTicks, Obj.escalationsCu, Obj.faultCodeCount, Obj.faultTotal, Obj.injArm, Obj.twinOwn, Obj.modeCurrent, ne_eq]; omega)
        · with_reducible apply Halted.inc
          · with_reducible exact (by assumption)
          · (simp only [Obj.ackHoldTicks, Obj.escalationsCu, Obj.faultCodeCount, Obj.faultTotal, Obj.injArm, Obj.twinOwn, Obj.modeCurrent, ne_eq]; omega)
      · with_reducible exact (by decide)
    · with_reducible apply Halted.inc
      · with_reducible apply Halted.inc
        · with_reducible exact (by assumption)
        · (simp only [Obj.ackHoldTicks, Obj.escalationsCu, Obj.faultCodeCount, Obj.faultTotal, Obj.injArm, Obj.twinOwn, Obj.modeCurrent, ne_eq]; omega)
      · split
        · (simp only [Obj.ackHoldTicks, Obj.escalationsCu, Obj.faultCodeCount, Obj.faultTotal, Obj.injArm, Obj.twinOwn, Obj.modeCurrent, ne_eq]; omega)
        · (simp only [Obj.ackHoldTicks, Obj.escalationsCu, Obj.faultCodeCount, Obj.faultTotal, Obj.injArm, Obj.twinOwn, Obj.modeCurrent, ne_eq]; omega)
    · with_reducible apply Halted.inc
      · with_reducible exact (by assumption)
      · (simp only [Obj.ackHoldTicks, Obj.escalationsCu, Obj.faultCodeCount, Obj.faultTotal, Obj.injArm, Obj.twinOwn, Obj.modeCurrent, ne_eq]; omega)
    · rfl

theorem State.raise_halted (s : Sys2Proof.Machine.State) (a1 : Nat) (a2 : Nat) (a3 : Nat) (h : Halted s) : Halted (State.raise s a1 a2 a3).1 := by
  unfold State.raise
  split
  · with_reducible exact State.recordFault_halted _ _ _ _ _ _ (by assumption)
  · with_reducible refine State.recordFault_halted _ _ _ _ _ _ (Halted.of (State.drew_frame _) (by assumption) ?_)
    rfl

theorem State.faulted_halted (s : Sys2Proof.Machine.State) (a1 : Nat) (a2 : Nat) (a3 : Nat) (h : Halted s) : Halted (State.faulted s a1 a2 a3) := by
  unfold State.faulted
  with_reducible exact State.raise_halted _ _ _ _ (by assumption)

theorem State.portStop_halted (s : Sys2Proof.Machine.State) (a1 : Nat) (h : Halted s) : Halted (State.portStop s a1) := by
  unfold State.portStop
  dsimp only
  with_reducible exact Halted.ite (State.faulted_halted _ _ _ _ (by assumption)) (by assumption)

theorem State.gapMarker_halted (s : Sys2Proof.Machine.State) (a1 : Nat) (a2 : Bool) (h : Halted s) : Halted (State.gapMarker s a1 a2) := by
  unfold State.gapMarker
  dsimp only
  with_reducible refine Halted.ite (by assumption) (Halted.ite (by assumption) ?_)
  with_reducible apply Halted.inc
  · with_reducible refine Halted.of (State.setPort_frame _ _ _) (Halted.of (State.setCoderHist_frame _ _ _ _) (Halted.of
                     (State.setBlock_frame _ _ _ _) (by assumption) ?_) ?_) ?_
    · rfl
    · rfl
    · rfl
  · (simp only [Obj.tpGapMarkers, Obj.modeCurrent, ne_eq]; omega)

theorem State.codeStamp_halted (s : Sys2Proof.Machine.State) (a1 : Nat) (a2 : Sys2Proof.Machine.Stamp) (h : Halted s) : Halted (State.codeStamp s a1 a2) := by
  unfold State.codeStamp
  dsimp only
  with_reducible refine Halted.ite (Halted.of (State.setBlock_frame _ _ _ _) ?_ ?_) (Halted.ite ?_ (Halted.of (State.setCoderHist_frame _ _
                   _ _) (Halted.of (State.setBlock_frame _ _ _ _) (State.gapMarker_halted _ _ _ ?_) ?_) ?_))
  · with_reducible apply Halted.inc
    · with_reducible exact (by assumption)
    · (simp only [Obj.tpRawCapDrops, Obj.tpRawEscapes, Obj.modeCurrent, ne_eq]; omega)
  · rfl
  · split
    · with_reducible apply Halted.inc
      · with_reducible refine Halted.of (State.setCoderHist_frame _ _ _ _) (Halted.of (State.setPort_frame _ _ _) (Halted.of
                         (State.setBlock_frame _ _ _ _) (by assumption) ?_) ?_) ?_
        · rfl
        · rfl
        · rfl
      · (simp only [Obj.tpRawCapDrops, Obj.tpRawEscapes, Obj.modeCurrent, ne_eq]; omega)
    · with_reducible refine Halted.of (State.setCoderHist_frame _ _ _ _) (Halted.of (State.setPort_frame _ _ _) (Halted.of
                       (State.setBlock_frame _ _ _ _) (by assumption) ?_) ?_) ?_
      · rfl
      · rfl
      · rfl
  · with_reducible apply Halted.inc
    · with_reducible exact (by assumption)
    · (simp only [Obj.tpRawCapDrops, Obj.tpRawEscapes, Obj.modeCurrent, ne_eq]; omega)
  · rfl
  · rfl

theorem State.commitStamp_halted (s : Sys2Proof.Machine.State) (a1 : Nat) (a2 : Sys2Proof.Machine.HeldStamp) (h : Halted s) : Halted (State.commitStamp s a1 a2) := by
  unfold State.commitStamp
  dsimp only
  with_reducible refine Halted.ite (Halted.ite (State.gapMarker_halted _ _ _ (by assumption)) (by assumption)) (Halted.ite
                   (State.codeStamp_halted _ _ _ (Halted.of (State.setPort_frame _ _ _) (by assumption) ?_)) (Halted.of (State.setPort_frame _ _ _)
                   (by assumption) ?_))
  · rfl
  · rfl

theorem State.commitHeld_halted (s : Sys2Proof.Machine.State) (a1 : Nat) (a2 : Bool) (h : Halted s) : Halted (State.commitHeld s a1 a2) := by
  unfold State.commitHeld
  dsimp only
  with_reducible refine Halted.foldl (fun _ _ _ => State.commitStamp_halted _ _ _ (by assumption)) (Halted.of (State.setPort_frame _ _ _)
                   (by assumption) ?_)
  rfl

theorem State.discardUnverified_halted (s : Sys2Proof.Machine.State) (a1 : Nat) (h : Halted s) : Halted (State.discardUnverified s a1) := by
  unfold State.discardUnverified
  dsimp only
  with_reducible refine State.commitHeld_halted _ _ _ (Halted.of (State.gateFault_frame _ _) (Halted.of (State.setPort_frame _ _ _)
                   (by assumption) ?_) ?_)
  · rfl
  · rfl

theorem State.setStState_halted (s : Sys2Proof.Machine.State) (a1 : Nat) (a2 : Nat) (h : Halted s) : Halted (State.setStState s a1 a2) := by
  unfold State.setStState
  dsimp only
  with_reducible refine Halted.ite (Halted.setN (Halted.of (State.setStamper_frame _ _ _) (by assumption) ?_) ?_) (Halted.of
                   (State.setStamper_frame _ _ _) (by assumption) ?_)
  · rfl
  · (simp only [Obj.stamperState, Obj.modeCurrent, ne_eq]; omega)
  · rfl

theorem State.stamperOut_halted (s : Sys2Proof.Machine.State) (a1 : Nat) (h : Halted s) : Halted (State.stamperOut s a1) := by
  unfold State.stamperOut
  dsimp only
  with_reducible refine State.discardUnverified_halted _ _ (Halted.ite ?_ (Halted.of (State.setStamper_frame _ _ _) (State.setStState_halted
                   _ _ _ (by assumption)) ?_))
  · with_reducible apply Halted.inc
    · with_reducible refine Halted.of (State.setStamper_frame _ _ _) (State.setStState_halted _ _ _ (by assumption)) ?_
      rfl
    · (simp only [Obj.stamperFaults, Obj.modeCurrent, ne_eq]; omega)
  · rfl

theorem State.tableReject_halted (s : Sys2Proof.Machine.State) (a1 : Nat) (h : Halted s) : Halted (State.tableReject s a1) := by
  unfold State.tableReject
  dsimp only
  with_reducible refine Halted.ite (State.portStop_halted _ _ (State.stamperOut_halted _ _ (State.raise_halted _ _ _ _ (Halted.ite ?_
                   (by assumption))))) (State.raise_halted _ _ _ _ (Halted.ite ?_ (by assumption)))
  · with_reducible apply Halted.inc
    · with_reducible exact (by assumption)
    · (simp only [Obj.stamperTableRejects, Obj.modeCurrent, ne_eq]; omega)
  · with_reducible apply Halted.inc
    · with_reducible exact (by assumption)
    · (simp only [Obj.stamperTableRejects, Obj.modeCurrent, ne_eq]; omega)

theorem State.addRun_halted (s : Sys2Proof.Machine.State) (a1 : Nat) (a2 : List Nat) (h : Halted s) : Halted (State.addRun s a1 a2) := by
  unfold State.addRun
  dsimp only
  split
  · with_reducible exact State.newTable_halted _ _ _ _ (by assumption)
  · with_reducible exact State.tableReject_halted _ _ (by assumption)

theorem State.addStep_halted (s : Sys2Proof.Machine.State) (a1 : Int) (h : Halted s) : Halted (State.addStep s a1) := by
  unfold State.addStep
  dsimp only
  simp only [State.mk_make]
  with_reducible refine Halted.ite (by assumption) ?_
  with_reducible apply Halted.inc
  · with_reducible exact Halted.mk1 (by assumption)
  · with_reducible exact (by decide)

theorem State.anchor_halted (s : Sys2Proof.Machine.State) (a1 : Option (Nat × Nat)) (h : Halted s) : Halted (State.anchor s a1) := by
  unfold State.anchor
  dsimp only
  with_reducible refine Halted.of (State.setBlob_frame _ _ _) (Halted.setN (Halted.setN ?_ (by decide)) (by decide)) ?_
  · split
    · with_reducible exact Halted.setN (Halted.setN (Halted.setN (Halted.setN (by assumption) (by decide)) (by decide)) (by decide))
                       (by decide)
    · with_reducible exact (by assumption)
  · rfl

theorem State.advance_halted (s : Sys2Proof.Machine.State) (a1 : Int) (h : Halted s) : Halted (State.advance s a1) := by
  unfold State.advance
  dsimp only
  simp only [State.mk_make]
  with_reducible refine Halted.ite (State.anchor_halted _ _ ?_) (State.anchor_halted _ _ (Halted.ite ?_ ?_))
  · with_reducible apply Halted.setF
    · with_reducible apply Halted.inc
      · with_reducible refine Halted.ite ?_ ?_
        · with_reducible apply Halted.setO
          · with_reducible apply Halted.setF
            · with_reducible refine Halted.setN ?_ (by decide)
              with_reducible apply Halted.setO
              · with_reducible apply Halted.setO
                · with_reducible apply Halted.setO
                  · with_reducible refine Halted.setN (Halted.mk1 (Halted.of (State.takeLength_frame _ _ _) (by assumption) ?_)) (by decide)
                    rfl
                  · with_reducible exact (by decide)
                · with_reducible exact (by decide)
              · with_reducible exact (by decide)
            · with_reducible exact (by decide)
          · with_reducible exact (by decide)
        · with_reducible apply Halted.inc
          · with_reducible apply Halted.setO
            · with_reducible apply Halted.setF
              · with_reducible refine Halted.setN ?_ (by decide)
                with_reducible apply Halted.setO
                · with_reducible apply Halted.setO
                  · with_reducible apply Halted.setO
                    · with_reducible refine Halted.setN (Halted.mk1 (Halted.of (State.takeLength_frame _ _ _) (by assumption) ?_))
                                       (by decide)
                      rfl
                    · with_reducible exact (by decide)
                  · with_reducible exact (by decide)
                · with_reducible exact (by decide)
              · with_reducible exact (by decide)
            · with_reducible exact (by decide)
          · with_reducible exact (by decide)
      · with_reducible exact (by decide)
    · with_reducible exact (by decide)
  · with_reducible apply Halted.setO
    · with_reducible apply Halted.setF
      · with_reducible refine Halted.setN ?_ (by decide)
        with_reducible apply Halted.setO
        · with_reducible apply Halted.setO
          · with_reducible apply Halted.setO
            · with_reducible refine Halted.setN (Halted.mk1 (Halted.of (State.takeLength_frame _ _ _) (by assumption) ?_)) (by decide)
              rfl
            · with_reducible exact (by decide)
          · with_reducible exact (by decide)
        · with_reducible exact (by decide)
      · with_reducible exact (by decide)
    · with_reducible exact (by decide)
  · with_reducible apply Halted.inc
    · with_reducible apply Halted.setO
      · with_reducible apply Halted.setF
        · with_reducible refine Halted.setN ?_ (by decide)
          with_reducible apply Halted.setO
          · with_reducible apply Halted.setO
            · with_reducible apply Halted.setO
              · with_reducible refine Halted.setN (Halted.mk1 (Halted.of (State.takeLength_frame _ _ _) (by assumption) ?_)) (by decide)
                rfl
              · with_reducible exact (by decide)
            · with_reducible exact (by decide)
          · with_reducible exact (by decide)
        · with_reducible exact (by decide)
      · with_reducible exact (by decide)
    · with_reducible exact (by decide)

theorem State.groveFault_halted (s : Sys2Proof.Machine.State) (a1 : Nat) (h : Halted s) : Halted (State.groveFault s a1) := by
  unfold State.groveFault
  dsimp only
  simp only [State.mk_make]
  with_reducible exact Halted.ite (by assumption) (Halted.mk1 (State.faulted_halted _ _ _ _ (by assumption)))

end Sys2Proof.Machine
end

