-- ==== Sys2Proof/Laws/Halts1.lean ====
section
/-!
SUPPORT. HALTED under operations, part 1.
-/

namespace Sys2Proof.Machine

set_option linter.unusedSimpArgs false

theorem State.aesOut_halted (s : Sys2Proof.Machine.State) (a1 : Nat) (a2 : Nat) (h : Halted s) : Halted (State.aesOut s a1 a2) := by
  unfold State.aesOut
  dsimp only
  with_reducible refine Halted.ite (State.groveFault_halted _ _ (Halted.setN (by assumption) ?_)) (Halted.setN (by assumption) ?_)
  · (simp only [Obj.aesLaneState, Obj.modeCurrent, ne_eq]; omega)
  · (simp only [Obj.aesLaneState, Obj.modeCurrent, ne_eq]; omega)

theorem State.deriveLaneRate_halted (s : Sys2Proof.Machine.State) (h : Halted s) : Halted (State.deriveLaneRate s) := by
  unfold State.deriveLaneRate
  dsimp only
  split
  · with_reducible apply Halted.setO
    · with_reducible exact (by assumption)
    · with_reducible exact (by decide)
  · with_reducible exact (by assumption)

theorem State.deriveRaw_halted (s : Sys2Proof.Machine.State) (a1 : Nat) (h : Halted s) : Halted (State.deriveRaw s a1) := by
  unfold State.deriveRaw
  dsimp only
  with_reducible refine Halted.setN (Halted.setN (by assumption) ?_) ?_
  · (simp only [Obj.tpRawCharge, Obj.tpRawDivider, Obj.tpRawK, Obj.tpRawMode, Obj.tpRawRate, Obj.modeCurrent, ne_eq]; omega)
  · (simp only [Obj.tpRawCharge, Obj.tpRawDivider, Obj.tpRawK, Obj.tpRawMode, Obj.tpRawRate, Obj.modeCurrent, ne_eq]; omega)

theorem State.portChanged_halted (a0 : Sys2Proof.Machine.State) (s : Sys2Proof.Machine.State) (a2 : Nat) (a3 : Bool) (a4 : Bool) (h : Halted s) : Halted (State.portChanged a0 s a2 a3 a4) := by
  unfold State.portChanged
  dsimp only
  with_reducible refine State.deriveRaw_halted _ _ (Halted.ite (Halted.of (State.resetHist_frame _ _ _) (Halted.ite (Halted.of
                   (State.closeGate_frame _ _) (by assumption) ?_) (by assumption)) ?_) (Halted.ite (Halted.of (State.closeGate_frame _ _) (by assumption)
                   ?_) (by assumption)))
  · rfl
  · rfl
  · rfl

theorem State.stamperOff_halted (s : Sys2Proof.Machine.State) (a1 : Nat) (h : Halted s) : Halted (State.stamperOff s a1) := by
  unfold State.stamperOff
  dsimp only
  with_reducible refine Halted.ite (by assumption) (Halted.of (State.resetHist_frame _ _ _) (Halted.of (State.setStamper_frame _ _ _)
                   (State.setStState_halted _ _ _ (by assumption)) ?_) ?_)
  · rfl
  · rfl

theorem State.portOff_halted (s : Sys2Proof.Machine.State) (a1 : Nat) (h : Halted s) : Halted (State.portOff s a1) := by
  unfold State.portOff
  with_reducible exact State.stamperOff_halted _ _ (State.stamperOff_halted _ _ (by assumption))

theorem State.solCalChange_halted (s : Sys2Proof.Machine.State) (h : Halted s) : Halted (State.solCalChange s) := by
  unfold State.solCalChange
  dsimp only
  simp only [State.mk_make]
  with_reducible exact Halted.mk1 (Halted.setN (by assumption) (by decide))

theorem State.positionWritten_halted (s : Sys2Proof.Machine.State) (h : Halted s) : Halted (State.positionWritten s) := by
  unfold State.positionWritten
  dsimp only
  simp only [State.mk_make]
  with_reducible refine Halted.ite (Halted.ite (State.surveyRestart_halted _ ?_) ?_) ?_
  · with_reducible apply Halted.setO
    · with_reducible exact Halted.mk1 (State.solCalChange_halted _ (by assumption))
    · with_reducible exact (by decide)
  · with_reducible apply Halted.setO
    · with_reducible exact Halted.mk1 (State.solCalChange_halted _ (by assumption))
    · with_reducible exact (by decide)
  · with_reducible apply Halted.setO
    · with_reducible exact Halted.mk1 (State.solCalChange_halted _ (by assumption))
    · with_reducible exact (by decide)

theorem State.afterInput_halted (a0 : Sys2Proof.Machine.State) (s : Sys2Proof.Machine.State) (a2 : Nat) (a3 : Nat) (h : Halted s) : Halted (State.afterInput a0 s a2 a3) := by
  unfold State.afterInput
  dsimp only
  with_reducible refine Halted.ite (Halted.ite (State.portOff_halted _ _ (by assumption)) (by assumption)) (Halted.ite
                   (State.portChanged_halted _ _ _ _ _ (by assumption)) (Halted.ite (Halted.ite (by assumption) (State.gladeOff_halted _ (by assumption)))
                   (Halted.ite (State.linksDown_halted _ (State.deriveLaneRate_halted _ (by assumption))) (Halted.ite (Halted.ite (State.linkEnter_halted _ _
                   _ (State.deriveLaneRate_halted _ (by assumption))) (Halted.ite (Halted.of (State.linkStarts_frame _ _) (State.deriveLaneRate_halted _
                   (by assumption)) ?_) (State.deriveLaneRate_halted _ (by assumption)))) (Halted.ite (Halted.ite (by assumption) (Halted.of
                   (State.releaseNotches_frame _ _) (by assumption) ?_)) (Halted.ite (Halted.of (State.chanPlan_frame _ _ _) (by assumption) ?_) (Halted.ite
                   (State.solCalChange_halted _ (by assumption)) (Halted.ite (Halted.ite (State.positionWritten_halted _ (by assumption))
                   (State.solCalChange_halted _ (by assumption))) (Halted.ite (State.positionWritten_halted _ (by assumption)) (Halted.ite (Halted.ite
                   (Halted.of (State.spoofBreak_frame _) ?_ ?_) (by assumption)) (by assumption)))))))))))
  · rfl
  · rfl
  · rfl
  · with_reducible apply Halted.setF
    · with_reducible exact (by assumption)
    · with_reducible exact (by decide)
  · rfl

theorem State.incHw_halted (s : Sys2Proof.Machine.State) (a1 : Nat) (hk : a1 ≠ Obj.modeCurrent) (h : Halted s) : Halted (State.incHw s a1) := by
  unfold State.incHw
  with_reducible exact State.addHwKey_halted _ _ _ (by assumption) (by assumption)

theorem State.ownLine_halted (s : Sys2Proof.Machine.State) (a1 : Nat) (a2 : Nat) (h : Halted s) : Halted (State.ownLine s a1 a2) := by
  unfold State.ownLine
  dsimp only
  split
  · with_reducible refine Halted.ite (State.incHw_halted _ _ ?_ (Halted.of (State.placeCopy_frame _ _ _ _) (by assumption) ?_))
                     (State.incHw_halted _ _ ?_ (Halted.of (State.setDir_frame _ _ _) (Halted.of (State.placeCopy_frame _ _ _ _) (Halted.of
                     (State.putLine_frame _ _ _) (by assumption) ?_) ?_) ?_))
    · (simp only [Obj.cacheHits, Obj.cacheMisses, Obj.modeCurrent, ne_eq]; omega)
    · rfl
    · (simp only [Obj.cacheHits, Obj.cacheMisses, Obj.modeCurrent, ne_eq]; omega)
    · rfl
    · rfl
    · rfl
  · with_reducible refine State.incHw_halted _ _ ?_ (Halted.of (State.setDir_frame _ _ _) (Halted.of (State.placeCopy_frame _ _ _ _)
                     (Halted.foldl (fun _ _ _ => Halted.of (State.dropCopy_frame _ _ _) (by assumption) ?_) (by assumption)) ?_) ?_)
    · split
      · (simp only [Obj.cacheHits, Obj.cacheMisses, Obj.modeCurrent, ne_eq]; omega)
      · (simp only [Obj.cacheHits, Obj.cacheMisses, Obj.modeCurrent, ne_eq]; omega)
    · rfl
    · rfl
    · rfl
  · with_reducible refine State.incHw_halted _ _ ?_ (Halted.of (State.setDir_frame _ _ _) (Halted.of (State.placeCopy_frame _ _ _ _)
                     (by assumption) ?_) ?_)
    · (simp only [Obj.cacheHits, Obj.cacheMisses, Obj.modeCurrent, ne_eq]; omega)
    · rfl
    · rfl

theorem State.commitSession_halted (s : Sys2Proof.Machine.State) (a1 : Nat) (a2 : Nat) (a3 : Option Sys2Proof.Machine.Session) (h : Halted s) : Halted (State.commitSession s a1 a2 a3) := by
  unfold State.commitSession
  with_reducible refine Halted.of (State.setSession_frame _ _ _) (State.ownLine_halted _ _ _ (by assumption)) ?_
  rfl

theorem State.instanceOff_halted (s : Sys2Proof.Machine.State) (a1 : Sys2Proof.Machine.PtpCfg) (a2 : Nat) (h : Halted s) : Halted (State.instanceOff s a1 a2) := by
  unfold State.instanceOff
  dsimp only
  with_reducible refine Halted.foldl (fun _ _ _ => ?_) (by assumption)
  split
  · with_reducible refine Halted.ite (Halted.setN (State.commitSession_halted _ _ _ _ (Halted.ite (Halted.ite ?_ ?_) (by assumption))) ?_)
                     (by assumption)
    · split
      · with_reducible refine Halted.of (State.enqueue_frame _ _ _) (by assumption) ?_
        rfl
      · with_reducible exact (by assumption)
    · with_reducible apply Halted.inc
      · with_reducible exact (by assumption)
      · with_reducible exact (by decide)
    · (simp only [Obj.ceilingDrops, Obj.groveState, Obj.ptpUnicastSessions, Obj.modeCurrent, ne_eq]; omega)
  · with_reducible exact (by assumption)

theorem State.declare_halted (s : Sys2Proof.Machine.State) (a1 : Nat) (a2 : Sys2Proof.Octets) (h : Halted s) : Halted (State.declare s a1 a2) := by
  unfold State.declare
  dsimp only
  simp only [State.mk_make]
  with_reducible refine Halted.setN ?_ (by decide)
  with_reducible apply Halted.setO
  · with_reducible apply Halted.setO
    · with_reducible refine Halted.of (State.setMember_frame _ _ _) (Halted.mk1 (by assumption)) ?_
      rfl
    · (simp only [Obj.ensActiveCount, Obj.ensMemberAdmitElapsed, Obj.ensMemberState, Obj.modeCurrent, ne_eq]; omega)
  · (simp only [Obj.ensActiveCount, Obj.ensMemberAdmitElapsed, Obj.ensMemberState, Obj.modeCurrent, ne_eq]; omega)

theorem State.memberCfgWritten_halted (s : Sys2Proof.Machine.State) (a1 : Nat) (h : Halted s) : Halted (State.memberCfgWritten s a1) := by
  unfold State.memberCfgWritten
  dsimp only
  with_reducible refine Halted.ite (Halted.of (State.setMember_frame _ _ _) (by assumption) ?_) (State.declare_halted _ _ _ (by assumption))
  rfl

theorem State.npModeWritten_halted (s : Sys2Proof.Machine.State) (a1 : Nat) (a2 : Bool) (h : Halted s) : Halted (State.npModeWritten s a1 a2) := by
  unfold State.npModeWritten
  dsimp only
  with_reducible refine Halted.foldl (fun _ _ _ => Halted.setN (Halted.of (State.setMac_frame _ _ _) (Halted.ite (State.macDown_halted _ _
                   (by assumption)) (by assumption)) ?_) ?_) (by assumption)
  · rfl
  · (simp only [Obj.npTsUncPs, Obj.modeCurrent, ne_eq]; omega)

theorem State.slewOut_halted (s : Sys2Proof.Machine.State) (a1 : Nat) (a2 : Int) (h : Halted s) : Halted (State.slewOut s a1 a2) := by
  unfold State.slewOut
  dsimp only
  with_reducible apply Halted.setF
  · with_reducible apply Halted.setO
    · with_reducible refine Halted.of (State.setOut_frame _ _ _) (by assumption) ?_
      rfl
    · (simp only [Obj.outRampActive, Obj.outRampOffset, Obj.outSlewAccel, Obj.outSlewMax, Obj.modeCurrent, ne_eq]; omega)
  · (simp only [Obj.outRampActive, Obj.outRampOffset, Obj.outSlewAccel, Obj.outSlewMax, Obj.modeCurrent, ne_eq]; omega)

theorem State.outMoved_halted (a0 : Sys2Proof.Machine.State) (s : Sys2Proof.Machine.State) (a2 : Nat) (h : Halted s) : Halted (State.outMoved a0 s a2) := by
  unfold State.outMoved
  dsimp only
  with_reducible exact Halted.ite (State.slewOut_halted _ _ _ (by assumption)) (by assumption)

theorem State.rampWritten_halted (s : Sys2Proof.Machine.State) (a1 : Nat) (h : Halted s) : Halted (State.rampWritten s a1) := by
  unfold State.rampWritten
  dsimp only
  with_reducible apply Halted.setF
  · with_reducible refine Halted.of (State.setOut_frame _ _ _) (by assumption) ?_
    rfl
  · (simp only [Obj.outRampActive, Obj.outRampProfile, Obj.modeCurrent, ne_eq]; omega)

theorem State.refPriorityWritten_halted (s : Sys2Proof.Machine.State) (a1 : Nat) (h : Halted s) : Halted (State.refPriorityWritten s a1) := by
  unfold State.refPriorityWritten
  with_reducible refine Halted.ite (Halted.ite (by assumption) ?_) (Halted.ite ?_ (by assumption))
  · with_reducible apply Halted.setO
    · with_reducible apply Halted.setO
      · with_reducible refine Halted.of (State.setRef_frame _ _ _) (by assumption) ?_
        rfl
      · (simp only [Obj.refPriority, Obj.refState, Obj.refWtrRemaining, Obj.modeCurrent, ne_eq]; omega)
    · (simp only [Obj.refPriority, Obj.refState, Obj.refWtrRemaining, Obj.modeCurrent, ne_eq]; omega)
  · with_reducible apply Halted.setO
    · with_reducible refine Halted.of (State.setRef_frame _ _ _) (by assumption) ?_
      rfl
    · (simp only [Obj.refPriority, Obj.refState, Obj.refWtrRemaining, Obj.modeCurrent, ne_eq]; omega)

theorem State.afterService_halted (a0 : Sys2Proof.Machine.State) (s : Sys2Proof.Machine.State) (a2 : Nat) (a3 : Nat) (h : Halted s) : Halted (State.afterService a0 s a2 a3) := by
  unfold State.afterService
  dsimp only
  simp only [State.mk_make]
  with_reducible refine Halted.ite (State.refPriorityWritten_halted _ _ (by assumption)) (Halted.ite (Halted.of (State.setRef_frame _ _ _)
                   (by assumption) ?_) (Halted.ite (Halted.ite (by assumption) (Halted.mk1 (by assumption))) (Halted.ite ?_ (Halted.ite (Halted.of
                   (State.outModeWritten_frame _ _) (by assumption) ?_) (Halted.ite (State.rampWritten_halted _ _ (by assumption)) (Halted.ite
                   (State.outMoved_halted _ _ _ (by assumption)) (Halted.ite (State.memberCfgWritten_halted _ _ (by assumption)) (Halted.ite
                   (State.npModeWritten_halted _ _ _ (by assumption)) (Halted.ite (Halted.of (State.fillBuckets_frame _) (by assumption) ?_) (Halted.ite
                   (Halted.of (State.bucketChanged_frame _ _ _) (by assumption) ?_) (Halted.ite (Halted.mk1 (by assumption)) (Halted.ite (Halted.ite
                   (State.instanceOff_halted _ _ _ (by assumption)) (by assumption)) (Halted.ite (Halted.of (State.loadSa_frame _ _) (by assumption) ?_)
                   (Halted.ite (Halted.setN (by assumption) (by decide)) (Halted.ite (Halted.ite (Halted.mk1 ?_) (by assumption))
                   (by assumption))))))))))))))))
  · rfl
  · with_reducible apply Halted.setO
    · with_reducible refine Halted.of (State.setDst_frame _ _ _) (by assumption) ?_
      rfl
    · (simp only [Obj.dsteerCfg, Obj.dsteerState, Obj.ndictRate, Obj.replayStartTick, Obj.replayState, Obj.rlSeed, Obj.synceTxSource, Obj.twinCalId, Obj.modeCurrent, ne_eq]; omega)
  · rfl
  · rfl
  · rfl
  · rfl
  · with_reducible apply Halted.setO
    · with_reducible exact (by assumption)
    · with_reducible exact (by decide)

theorem State.boundKWritten_halted (s : Sys2Proof.Machine.State) (h : Halted s) : Halted (State.boundKWritten s) := by
  unfold State.boundKWritten
  with_reducible refine Halted.foldl (fun _ _ _ => Halted.ite (by assumption) (Halted.setN (by assumption) ?_)) (by assumption)
  (simp only [Obj.refBoundPs, Obj.refRandU, Obj.modeCurrent, ne_eq]; omega)

theorem State.showCeilings_halted (s : Sys2Proof.Machine.State) (h : Halted s) : Halted (State.showCeilings s) := by
  unfold State.showCeilings
  with_reducible apply Halted.setF
  · with_reducible apply Halted.setF
    · with_reducible apply Halted.setF
      · with_reducible exact (by assumption)
      · with_reducible exact (by decide)
    · with_reducible exact (by decide)
  · with_reducible exact (by decide)

theorem State.afterWrite_halted (a0 : Sys2Proof.Machine.State) (s : Sys2Proof.Machine.State) (a2 : Nat) (h : Halted s) : Halted (State.afterWrite a0 s a2) := by
  unfold State.afterWrite
  dsimp only
  with_reducible exact Halted.ite (Halted.setN (State.afterService_halted _ _ _ _ (State.afterInput_halted _ _ _ _ (Halted.ite
                   (State.boundKWritten_halted _ (by assumption)) (by assumption)))) (by decide)) (Halted.ite (State.showCeilings_halted _
                   (State.afterService_halted _ _ _ _ (State.afterInput_halted _ _ _ _ (Halted.ite (State.boundKWritten_halted _ (by assumption))
                   (by assumption))))) (State.afterService_halted _ _ _ _ (State.afterInput_halted _ _ _ _ (Halted.ite (State.boundKWritten_halted _
                   (by assumption)) (by assumption)))))

theorem State.ageSecond_halted (s : Sys2Proof.Machine.State) (h : Halted s) : Halted (State.ageSecond s) := by
  unfold State.ageSecond
  dsimp only
  simp only [State.mk_make]
  with_reducible exact Halted.mk1 (Halted.setN (Halted.setN (by assumption) (by decide)) (by decide))

theorem State.agreeConfig_halted (s : Sys2Proof.Machine.State) (a1 : Sys2Proof.Machine.Agree) (h : Halted s) : Halted (State.agreeConfig s a1) := by
  unfold State.agreeConfig
  dsimp only
  simp only [State.mk_make]
  with_reducible exact Halted.ite (State.faulted_halted _ _ _ _ (Halted.mk1 (by assumption))) (Halted.mk1 (by assumption))

theorem State.setSeq_halted (s : Sys2Proof.Machine.State) (a1 : Sys2Proof.Machine.PtpStream) (a2 : Nat) (a3 : Nat) (h : Halted s) : Halted (State.setSeq s a1 a2 a3) := by
  unfold State.setSeq
  dsimp only
  simp only [State.mk_make]
  split
  · split
    · with_reducible exact State.commitSession_halted _ _ _ _ (by assumption)
    · with_reducible exact (by assumption)
  · with_reducible exact Halted.mk1 (by assumption)

theorem State.seqTaken_halted (s : Sys2Proof.Machine.State) (a1 : Sys2Proof.Machine.Commit) (h : Halted s) : Halted (State.seqTaken s a1) := by
  unfold State.seqTaken
  split
  · with_reducible exact State.setSeq_halted _ _ _ _ (by assumption)
  · with_reducible exact (by assumption)

theorem State.agreePeer_halted (s : Sys2Proof.Machine.State) (a1 : Sys2Proof.Machine.Agree) (h : Halted s) : Halted (State.agreePeer s a1) := by
  unfold State.agreePeer
  dsimp only
  simp only [State.mk_make]
  with_reducible refine Halted.mk1 (Halted.ite (Halted.foldl (fun _ _ _ => State.seqTaken_halted _ _ (by assumption)) (Halted.ite (Halted.of
                   (State.keepShadow_frame _) (by assumption) ?_) (by assumption))) (Halted.ite (Halted.of (State.keepShadow_frame _) (by assumption) ?_)
                   (by assumption)))
  · rfl
  · rfl

theorem State.commitLearn_halted (s : Sys2Proof.Machine.State) (a1 : Sys2Proof.Machine.Commit) (h : Halted s) : Halted (State.commitLearn s a1) := by
  unfold State.commitLearn
  dsimp only
  simp only [State.mk_make]
  split
  · with_reducible exact (by assumption)
  · split
    · with_reducible refine Halted.ite (by assumption) ?_
      with_reducible apply Halted.inc
      · with_reducible exact State.setSeq_halted _ _ _ _ (Halted.ite (by assumption) (State.faulted_halted _ _ _ _ (by assumption)))
      · with_reducible exact (by decide)
    · with_reducible exact Halted.mk1 (Halted.ite (State.setSeq_halted _ _ _ _ (by assumption)) (by assumption))

theorem State.agreeReceive_halted (s : Sys2Proof.Machine.State) (a1 : Sys2Proof.Machine.Agree) (h : Halted s) : Halted (State.agreeReceive s a1) := by
  unfold State.agreeReceive
  dsimp only
  simp only [State.mk_make]
  with_reducible refine Halted.ite (Halted.mk1 (State.agreeConfig_halted _ _ (Halted.of (State.agreePulse_frame _ _) (Halted.of
                   (State.agreedLearn_frame _ _) (Halted.foldl (fun _ _ _ => State.commitLearn_halted _ _ (by assumption)) (State.agreePeer_halted _ _
                   (by assumption))) ?_) ?_))) (State.agreeConfig_halted _ _ (Halted.of (State.agreePulse_frame _ _) (Halted.of (State.agreedLearn_frame _ _)
                   (Halted.foldl (fun _ _ _ => State.commitLearn_halted _ _ (by assumption)) (State.agreePeer_halted _ _ (by assumption))) ?_) ?_))
  · rfl
  · rfl
  · rfl
  · rfl

theorem State.announce_halted (s : Sys2Proof.Machine.State) (a1 : Sys2Proof.Machine.ReleaseWhy) (h : Halted s) : Halted (State.announce s a1) := by
  unfold State.announce
  dsimp only
  simp only [State.mk_make]
  with_reducible exact Halted.ite (by assumption) (Halted.mk1 (Halted.setN (by assumption) (by decide)))

theorem State.committed_halted (s : Sys2Proof.Machine.State) (a1 : Sys2Proof.Machine.PtpStream) (a2 : Nat) (a3 : Nat) (a4 : Nat) (h : Halted s) : Halted (State.committed s a1 a2 a3 a4) := by
  unfold State.committed
  dsimp only
  simp only [State.mk_make]
  with_reducible exact Halted.ite (Halted.mk1 (State.setSeq_halted _ _ _ _ (by assumption))) (State.setSeq_halted _ _ _ _ (by assumption))

theorem State.release_halted (s : Sys2Proof.Machine.State) (a1 : Nat) (a2 : Nat) (a3 : Nat) (a4 : Nat) (a5 : Sys2Proof.Machine.TxFrame) (h : Halted s) : Halted (State.release s a1 a2 a3 a4 a5) := by
  unfold State.release
  dsimp only
  simp only [State.mk_make]
  with_reducible refine Halted.ite ?_ (Halted.of (State.enqueue_frame _ _ _) (Halted.mk1 (by assumption)) ?_)
  · with_reducible apply Halted.inc
    · with_reducible exact (by assumption)
    · (simp only [Obj.reedDupBlocked, Obj.modeCurrent, ne_eq]; omega)
  · rfl

theorem State.announceDue_halted (s : Sys2Proof.Machine.State) (a1 : Sys2Proof.Machine.PtpStream) (h : Halted s) : Halted (State.announceDue s a1) := by
  unfold State.announceDue
  dsimp only
  split
  · with_reducible exact (by assumption)
  · with_reducible refine Halted.ite (by assumption) (Halted.ite (Halted.of (State.withheld_frame _ _ _ _) ?_ ?_) ?_)
    · with_reducible apply Halted.inc
      · with_reducible refine Halted.of (State.markDue_frame _ _ _ _) (by assumption) ?_
        rfl
      · with_reducible exact (by decide)
    · rfl
    · split
      · with_reducible refine Halted.of (State.withheld_frame _ _ _ _) (Halted.of (State.pairSeq_frame _ _ _) (Halted.of
                         (State.markDue_frame _ _ _ _) (by assumption) ?_) ?_) ?_
        · rfl
        · rfl
        · rfl
      · with_reducible refine State.committed_halted _ _ _ _ _ (State.release_halted _ _ _ _ _ _ (Halted.of (State.newItem_frame _ _ _)
                         (Halted.of (State.pairSeq_frame _ _ _) (Halted.of (State.markDue_frame _ _ _ _) (by assumption) ?_) ?_) ?_))
        · rfl
        · rfl
        · rfl

theorem State.aonLost_halted (s : Sys2Proof.Machine.State) (h : Halted s) : Halted (State.aonLost s) := by
  unfold State.aonLost
  dsimp only
  simp only [State.mk_make]
  with_reducible apply Halted.inc
  · with_reducible refine Halted.setN (Halted.setN ?_ (by decide)) (by decide)
    with_reducible apply Halted.inc
    · with_reducible apply Halted.inc
      · with_reducible refine Halted.setN ?_ (by decide)
        with_reducible exact Halted.set _
      · with_reducible exact (by decide)
    · with_reducible exact (by decide)
  · with_reducible exact (by decide)

theorem State.apllAt_halted (s : Sys2Proof.Machine.State) (h : Halted s) : Halted (State.apllAt s) := by
  unfold State.apllAt
  with_reducible refine Halted.ite (State.aplltReact_halted _ (by assumption)) ?_
  split
  · with_reducible exact State.aplltSwitch_halted _ _ (by assumption)
  · with_reducible exact (by assumption)

theorem State.appendRecord_halted (s : Sys2Proof.Machine.State) (h : Halted s) : Halted (State.appendRecord s) := by
  unfold State.appendRecord
  dsimp only
  simp only [State.mk_make]
  with_reducible refine Halted.ite (by assumption) (Halted.ite (Halted.of (State.formKeyframe_frame _) (Halted.of (State.recorded_frame _)
                   ?_ ?_) ?_) (Halted.of (State.recorded_frame _) ?_ ?_))
  · split
    · with_reducible exact State.bobAppend_halted _ _ _ (by assumption)
    · with_reducible exact (by assumption)
    · with_reducible exact State.bobAppend_halted _ _ _ (Halted.mk1 (by assumption))
  · rfl
  · rfl
  · split
    · with_reducible exact State.bobAppend_halted _ _ _ (by assumption)
    · with_reducible exact (by assumption)
    · with_reducible exact State.bobAppend_halted _ _ _ (Halted.mk1 (by assumption))
  · rfl

theorem State.clearLeapPending_halted (s : Sys2Proof.Machine.State) (h : Halted s) : Halted (State.clearLeapPending s) := by
  unfold State.clearLeapPending
  with_reducible apply Halted.setO
  · with_reducible apply Halted.setO
    · with_reducible apply Halted.setO
      · with_reducible exact (by assumption)
      · with_reducible exact (by decide)
    · with_reducible exact (by decide)
  · with_reducible exact (by decide)

theorem State.injArmNow_halted (s : Sys2Proof.Machine.State) (a1 : Sys2Proof.Machine.Injection) (h : Halted s) : Halted (State.injArmNow s a1) := by
  unfold State.injArmNow
  dsimp only
  simp only [State.mk_make]
  with_reducible exact Halted.setN (Halted.mk1 (by assumption)) (by decide)

theorem State.injDisarm_halted (s : Sys2Proof.Machine.State) (h : Halted s) : Halted (State.injDisarm s) := by
  unfold State.injDisarm
  dsimp only
  simp only [State.mk_make]
  with_reducible exact Halted.setN (Halted.mk1 (by assumption)) (by decide)

theorem State.setLeapPending_halted (s : Sys2Proof.Machine.State) (a1 : Int) (a2 : Int) (a3 : Int) (h : Halted s) : Halted (State.setLeapPending s a1 a2 a3) := by
  unfold State.setLeapPending
  dsimp only
  with_reducible apply Halted.setO
  · with_reducible apply Halted.setO
    · with_reducible apply Halted.setO
      · with_reducible exact (by assumption)
      · with_reducible exact (by decide)
    · with_reducible exact (by decide)
  · with_reducible exact (by decide)

theorem State.twinEnter_halted (s : Sys2Proof.Machine.State) (a1 : Nat) (h : Halted s) : Halted (State.twinEnter s a1) := by
  unfold State.twinEnter
  dsimp only
  simp only [State.mk_make]
  with_reducible exact Halted.mk1 (Halted.setN (by assumption) (by decide))

theorem State.joinRefuse_halted (s : Sys2Proof.Machine.State) (a1 : Nat) (h : Halted s) : Halted (State.joinRefuse s a1) := by
  unfold State.joinRefuse
  dsimp only
  simp only [State.mk_make]
  with_reducible refine Halted.mk1 (Halted.setN ?_ (by decide))
  with_reducible apply Halted.inc
  · with_reducible exact State.twinEnter_halted _ _ (by assumption)
  · with_reducible exact (by decide)

theorem State.settleSeqs_halted (s : Sys2Proof.Machine.State) (h : Halted s) : Halted (State.settleSeqs s) := by
  unfold State.settleSeqs
  with_reducible exact Halted.ite (Halted.foldl (fun _ _ _ => State.seqTaken_halted _ _ (by assumption)) (by assumption)) (by assumption)

theorem State.twinAlone_halted (s : Sys2Proof.Machine.State) (h : Halted s) : Halted (State.twinAlone s) := by
  unfold State.twinAlone
  dsimp only
  simp only [State.mk_make]
  with_reducible refine Halted.mk1 ?_
  with_reducible apply Halted.setF
  · with_reducible refine State.twinEnter_halted _ _ (Halted.ite (Halted.mk1 (Halted.of (State.adoptPlane_frame _) (State.settleSeqs_halted
                     _ (by assumption)) ?_)) (State.settleSeqs_halted _ (by assumption)))
    rfl
  · with_reducible exact (by decide)

theorem State.leaveNow_halted (s : Sys2Proof.Machine.State) (h : Halted s) : Halted (State.leaveNow s) := by
  unfold State.leaveNow
  dsimp only
  simp only [State.mk_make]
  with_reducible refine Halted.mk1 (Halted.ite (State.twinAlone_halted _ (Halted.of (State.twinSend_frame _ _) (by assumption) ?_))
                   (Halted.ite (State.joinRefuse_halted _ _ (by assumption)) (by assumption)))
  rfl

theorem State.twinAct_halted (s : Sys2Proof.Machine.State) (a1 : Nat) (h : Halted s) : Halted (State.twinAct s a1) := by
  unfold State.twinAct
  dsimp only
  simp only [State.mk_make]
  with_reducible exact Halted.ite (by assumption) (Halted.ite (Halted.ite (State.announce_halted _ _ (by assumption)) (by assumption))
                   (Halted.ite (Halted.ite (Halted.mk1 (State.announce_halted _ _ (by assumption))) (State.leaveNow_halted _ (by assumption))) (Halted.ite
                   (Halted.mk1 (by assumption)) (by assumption))))

theorem State.fireDue_halted (s : Sys2Proof.Machine.State) (a1 : Sys2Proof.Machine.DueWrite) (h : Halted s) : Halted (State.fireDue s a1) := by
  unfold State.fireDue
  dsimp only
  simp only [State.mk_make]
  split
  · with_reducible exact Halted.mk1 (by assumption)
  · with_reducible exact State.setLeapPending_halted _ _ _ _ (by assumption)
  · with_reducible exact Halted.ite (State.clearLeapPending_halted _ (by assumption)) (by assumption)
  · with_reducible exact State.addStep_halted _ _ (by assumption)
  · with_reducible exact State.addStep_halted _ _ (by assumption)
  · with_reducible exact Halted.mk1 (by assumption)
  · with_reducible exact State.injArmNow_halted _ _ (by assumption)
  · with_reducible exact State.injDisarm_halted _ (by assumption)
  · with_reducible exact State.twinAct_halted _ _ (by assumption)
  · with_reducible refine Halted.of (State.journalTrigger_frame _) (by assumption) ?_
    rfl
  · with_reducible exact Halted.mk1 (by assumption)

theorem State.flashStart_halted (s : Sys2Proof.Machine.State) (a1 : Sys2Proof.Machine.FlashCmd) (h : Halted s) : Halted (State.flashStart s a1) := by
  unfold State.flashStart
  dsimp only
  simp only [State.mk_make]
  with_reducible refine Halted.ite (Halted.setN (Halted.of (State.setBlob_frame _ _ _) (by assumption) ?_) (by decide)) (Halted.setN
                   (Halted.mk1 (by assumption)) (by decide))
  rfl

end Sys2Proof.Machine
end

