-- ==== Sys2Proof/Laws/Halts2.lean ====
section
/-!
SUPPORT. HALTED under operations, part 2.
-/

namespace Sys2Proof.Machine

set_option linter.unusedSimpArgs false

theorem State.flashCommand_halted (s : Sys2Proof.Machine.State) (a1 : Sys2Proof.Machine.FlashCmd) (h : Halted s) : Halted (State.flashCommand s a1) := by
  unfold State.flashCommand
  dsimp only
  simp only [State.mk_make]
  with_reducible refine Halted.ite (Halted.ite ?_ (Halted.setN (by assumption) (by decide))) (Halted.ite ?_ (State.flashStart_halted _ _
                   (by assumption)))
  · with_reducible apply Halted.inc
    · with_reducible exact Halted.setN (by assumption) (by decide)
    · with_reducible exact (by decide)
  · with_reducible apply Halted.inc
    · with_reducible exact Halted.setN (Halted.mk1 (by assumption)) (by decide)
    · with_reducible exact (by decide)

theorem State.i2cReset_halted (s : Sys2Proof.Machine.State) (a1 : Nat) (a2 : Sys2Proof.Machine.I2cLines) (h : Halted s) : Halted (State.i2cReset s a1 a2) := by
  unfold State.i2cReset
  dsimp only
  split
  · with_reducible apply Halted.setO
    · with_reducible refine Halted.of (State.setI2c_frame _ _ _) (by assumption) ?_
      rfl
    · (simp only [Obj.i2cBusState, Obj.modeCurrent, ne_eq]; omega)
  · with_reducible apply Halted.setO
    · with_reducible refine Halted.of (State.setI2c_frame _ _ _) (by assumption) ?_
      rfl
    · (simp only [Obj.i2cBusState, Obj.modeCurrent, ne_eq]; omega)
  · with_reducible apply Halted.setO
    · with_reducible refine Halted.of (State.setI2c_frame _ _ _) (by assumption) ?_
      rfl
    · (simp only [Obj.i2cBusState, Obj.modeCurrent, ne_eq]; omega)

theorem State.i2cXfer_halted (s : Sys2Proof.Machine.State) (a1 : Nat) (a2 : Sys2Proof.Machine.I2cTrans) (h : Halted s) : Halted (State.i2cXfer s a1 a2) := by
  unfold State.i2cXfer
  dsimp only
  with_reducible refine Halted.ite (Halted.of (State.i2cResult_frame _ _ _ _) ?_ ?_) (Halted.of (State.i2cResult_frame _ _ _ _) (Halted.of
                   (State.setI2c_frame _ _ _) (by assumption) ?_) ?_)
  · with_reducible apply Halted.inc
    · with_reducible exact (by assumption)
    · (simp only [Obj.i2cBusState, Obj.i2cDropped, Obj.modeCurrent, ne_eq]; omega)
  · rfl
  · rfl
  · rfl

theorem State.keyWriteOne_halted (s : Sys2Proof.Machine.State) (a1 : Nat) (a2 : Sys2Proof.Machine.KeyWrite) (h : Halted s) : Halted (State.keyWriteOne s a1 a2) := by
  unfold State.keyWriteOne
  dsimp only
  with_reducible refine Halted.ite (Halted.of (State.addJob_frame _ _) (Halted.of (State.reloadLanes_frame _ _) (Halted.ite (Halted.of
                   (State.setSlot_frame _ _ _) ?_ ?_) ?_) ?_) ?_) (Halted.of (State.reloadLanes_frame _ _) (Halted.ite (Halted.of (State.setSlot_frame _ _ _)
                   ?_ ?_) ?_) ?_)
  · with_reducible apply Halted.inc
    · with_reducible refine Halted.of (State.fillSlot_frame _ _ _ _ _ _ _) (by assumption) ?_
      rfl
    · with_reducible exact (by decide)
  · rfl
  · with_reducible apply Halted.inc
    · with_reducible refine Halted.of (State.fillSlot_frame _ _ _ _ _ _ _) (by assumption) ?_
      rfl
    · with_reducible exact (by decide)
  · rfl
  · rfl
  · with_reducible apply Halted.inc
    · with_reducible refine Halted.of (State.fillSlot_frame _ _ _ _ _ _ _) (by assumption) ?_
      rfl
    · with_reducible exact (by decide)
  · rfl
  · with_reducible apply Halted.inc
    · with_reducible refine Halted.of (State.fillSlot_frame _ _ _ _ _ _ _) (by assumption) ?_
      rfl
    · with_reducible exact (by decide)
  · rfl

theorem State.discardEntry_halted (s : Sys2Proof.Machine.State) (a1 : Nat) (a2 : Nat) (a3 : Bool) (h : Halted s) : Halted (State.discardEntry s a1 a2 a3) := by
  unfold State.discardEntry
  dsimp only
  simp only [State.mk_make]
  with_reducible refine Halted.of (State.hostEvent_frame _ _) (State.countOpen_halted _ (Halted.mk1 ?_)) ?_
  · with_reducible apply Halted.inc
    · with_reducible apply Halted.inc
      · with_reducible exact (by assumption)
      · with_reducible exact (by decide)
    · with_reducible exact (by decide)
  · rfl

theorem State.injConsume_halted (s : Sys2Proof.Machine.State) (h : Halted s) : Halted (State.injConsume s) := by
  unfold State.injConsume
  dsimp only
  simp only [State.mk_make]
  split
  · with_reducible exact (by assumption)
  · with_reducible refine Halted.setN ?_ (by decide)
    with_reducible apply Halted.inc
    · with_reducible exact Halted.mk1 (by assumption)
    · with_reducible exact (by decide)

theorem State.applyDecision_halted (a0 : Sys2Proof.Machine.EpochWork) (s : Sys2Proof.Machine.State) (a2 : Sys2Proof.Machine.Decision) (h : Halted s) : Halted (State.applyDecision a0 s a2) := by
  unfold State.applyDecision
  dsimp only
  with_reducible refine Halted.ite (by assumption) ?_
  split
  · with_reducible refine Halted.ite (Halted.of (State.setMember_frame _ _ _) (Halted.setN (Halted.ite ?_ (Halted.setN (Halted.of
                     (State.setMember_frame _ _ _) (by assumption) ?_) ?_)) ?_) ?_) (Halted.setN (Halted.ite ?_ (Halted.setN (Halted.of
                     (State.setMember_frame _ _ _) (by assumption) ?_) ?_)) ?_)
    · with_reducible apply Halted.inc
      · with_reducible refine Halted.setN (Halted.of (State.setMember_frame _ _ _) (by assumption) ?_) ?_
        · rfl
        · (simp only [Obj.ensMemberAdmitElapsed, Obj.ensMemberEjections, Obj.ensMemberState, Obj.modeCurrent, ne_eq]; omega)
      · (simp only [Obj.ensMemberAdmitElapsed, Obj.ensMemberEjections, Obj.ensMemberState, Obj.modeCurrent, ne_eq]; omega)
    · rfl
    · (simp only [Obj.ensMemberAdmitElapsed, Obj.ensMemberEjections, Obj.ensMemberState, Obj.modeCurrent, ne_eq]; omega)
    · (simp only [Obj.ensMemberAdmitElapsed, Obj.ensMemberEjections, Obj.ensMemberState, Obj.modeCurrent, ne_eq]; omega)
    · rfl
    · with_reducible apply Halted.inc
      · with_reducible refine Halted.setN (Halted.of (State.setMember_frame _ _ _) (by assumption) ?_) ?_
        · rfl
        · (simp only [Obj.ensMemberAdmitElapsed, Obj.ensMemberEjections, Obj.ensMemberState, Obj.modeCurrent, ne_eq]; omega)
      · (simp only [Obj.ensMemberAdmitElapsed, Obj.ensMemberEjections, Obj.ensMemberState, Obj.modeCurrent, ne_eq]; omega)
    · rfl
    · (simp only [Obj.ensMemberAdmitElapsed, Obj.ensMemberEjections, Obj.ensMemberState, Obj.modeCurrent, ne_eq]; omega)
    · (simp only [Obj.ensMemberAdmitElapsed, Obj.ensMemberEjections, Obj.ensMemberState, Obj.modeCurrent, ne_eq]; omega)
  · with_reducible refine Halted.setN (Halted.ite ?_ (Halted.setN (Halted.of (State.setMember_frame _ _ _) (by assumption) ?_) ?_)) ?_
    · with_reducible apply Halted.inc
      · with_reducible refine Halted.setN (Halted.of (State.setMember_frame _ _ _) (by assumption) ?_) ?_
        · rfl
        · (simp only [Obj.ensMemberAdmitElapsed, Obj.ensMemberEjections, Obj.ensMemberState, Obj.modeCurrent, ne_eq]; omega)
      · (simp only [Obj.ensMemberAdmitElapsed, Obj.ensMemberEjections, Obj.ensMemberState, Obj.modeCurrent, ne_eq]; omega)
    · rfl
    · (simp only [Obj.ensMemberAdmitElapsed, Obj.ensMemberEjections, Obj.ensMemberState, Obj.modeCurrent, ne_eq]; omega)
    · (simp only [Obj.ensMemberAdmitElapsed, Obj.ensMemberEjections, Obj.ensMemberState, Obj.modeCurrent, ne_eq]; omega)

theorem State.showLeapTable_halted (s : Sys2Proof.Machine.State) (h : Halted s) : Halted (State.showLeapTable s) := by
  unfold State.showLeapTable
  with_reducible refine Halted.foldl (fun _ _ _ => Halted.of (State.setBlob_frame _ _ _) (by assumption) ?_) (Halted.setN (by assumption)
                   (by decide))
  rfl

theorem State.applyLeap_halted (s : Sys2Proof.Machine.State) (a1 : Sys2Proof.Machine.LeapEntry) (h : Halted s) : Halted (State.applyLeap s a1) := by
  unfold State.applyLeap
  dsimp only
  simp only [State.mk_make]
  with_reducible refine State.showLeapTable_halted _ (State.clearLeapPending_halted _ ?_)
  with_reducible apply Halted.setO
  · with_reducible exact Halted.mk1 (by assumption)
  · with_reducible exact (by decide)

theorem State.atNext_halted {s : State} {f : State → State} (k : ∀ t, Halted t → Halted (f t)) (h : Halted s) : Halted (s.atNext f) := by
  unfold State.atNext
  dsimp only
  simp only [State.mk_make]
  have h2 : ∀ t, Halted t → Halted (f t) := k
  apply Halted.ite
  all_goals repeat' first
    | with_reducible assumption
    | with_reducible apply Halted.mk1
    | with_reducible apply h2
    | with_reducible apply Halted.setN
    | with_reducible apply Halted.setO
    | decide


theorem State.autoAck_halted (s : Sys2Proof.Machine.State) (h : Halted s) : Halted (State.autoAck s) := by
  unfold State.autoAck
  dsimp only
  simp only [State.mk_make]
  with_reducible exact Halted.ite (by assumption) (State.countOpen_halted _ (Halted.mk1 (by assumption)))

theorem State.avsRead_halted (s : Sys2Proof.Machine.State) (a1 : Option Nat) (a2 : Bool) (h : Halted s) : Halted (State.avsRead s a1 a2) := by
  unfold State.avsRead
  dsimp only
  simp only [State.mk_make]
  with_reducible refine Halted.ite (Halted.ite (Halted.mk1 ?_) ?_) (State.faulted_halted _ _ _ _ ?_)
  · split
    · with_reducible exact Halted.setN (by assumption) (by decide)
    · with_reducible exact (by assumption)
  · split
    · with_reducible exact Halted.setN (by assumption) (by decide)
    · with_reducible exact (by assumption)
  · with_reducible apply Halted.inc
    · split
      · with_reducible exact Halted.setN (by assumption) (by decide)
      · with_reducible exact (by assumption)
    · with_reducible exact (by decide)

theorem State.avsStart_halted (s : Sys2Proof.Machine.State) (a1 : Option Nat) (h : Halted s) : Halted (State.avsStart s a1) := by
  unfold State.avsStart
  dsimp only
  simp only [State.mk_make]
  split
  · with_reducible exact Halted.setN (Halted.mk1 (Halted.setN (by assumption) (by decide))) (by decide)
  · with_reducible refine State.faulted_halted _ _ _ _ ?_
    with_reducible apply Halted.inc
    · with_reducible exact Halted.mk1 (Halted.setN (by assumption) (by decide))
    · with_reducible exact (by decide)

theorem State.banksWake_halted (s : Sys2Proof.Machine.State) (h : Halted s) : Halted (State.banksWake s) := by
  unfold State.banksWake
  with_reducible refine Halted.foldl (fun _ _ _ => Halted.ite ?_ (by assumption)) (by assumption)
  with_reducible apply Halted.setO
  · with_reducible exact (by assumption)
  · (simp only [Obj.memRetention, Obj.modeCurrent, ne_eq]; omega)

theorem State.basisBoundary_halted (s : Sys2Proof.Machine.State) (h : Halted s) : Halted (State.basisBoundary s) := by
  unfold State.basisBoundary
  dsimp only
  with_reducible refine Halted.ite (by assumption) (Halted.foldl (fun _ _ _ => Halted.ite (Halted.of (State.setRef_frame _ _ _)
                   (by assumption) ?_) (by assumption)) ?_)
  · rfl
  · with_reducible apply Halted.setO
    · with_reducible exact (by assumption)
    · with_reducible exact (by decide)

theorem State.bobBad_halted (s : Sys2Proof.Machine.State) (a1 : Nat) (h : Halted s) : Halted (State.bobBad s a1) := by
  unfold State.bobBad
  dsimp only
  simp only [State.mk_make]
  with_reducible apply Halted.addN
  · with_reducible exact Halted.mk1 (by assumption)
  · with_reducible exact (by decide)

theorem State.loomBoundary_halted (s : Sys2Proof.Machine.State) (h : Halted s) : Halted (State.loomBoundary s) := by
  unfold State.loomBoundary
  dsimp only
  with_reducible apply Halted.setF
  · with_reducible refine Halted.foldl (fun _ _ _ => Halted.setN (by assumption) ?_) (Halted.setN (Halted.setN (Halted.setN (Halted.setN
                     (Halted.setN (Halted.foldl (fun _ _ _ => Halted.setN (by assumption) ?_) (Halted.of (State.latchUnits_frame _) (by assumption) ?_))
                     (by decide)) (by decide)) (by decide)) (by decide)) (by decide))
    · (simp only [Obj.capNts, Obj.costCanopyW1, Obj.costForesterW1, Obj.costVaultW3, Obj.loadPm, Obj.mirrorAllowance, Obj.slackEffectivePm, Obj.slackFloorPm, Obj.slackPlanPm, Obj.slackShortfall, Obj.modeCurrent, ne_eq]; omega)
    · (simp only [Obj.capNts, Obj.costCanopyW1, Obj.costForesterW1, Obj.costVaultW3, Obj.loadPm, Obj.mirrorAllowance, Obj.slackEffectivePm, Obj.slackFloorPm, Obj.slackPlanPm, Obj.slackShortfall, Obj.modeCurrent, ne_eq]; omega)
    · rfl
  · with_reducible exact (by decide)

theorem State.pllStart_halted (s : Sys2Proof.Machine.State) (a1 : Nat) (h : Halted s) : Halted (State.pllStart s a1) := by
  unfold State.pllStart
  with_reducible refine Halted.ite ?_ (by assumption)
  with_reducible apply Halted.setO
  · with_reducible exact (by assumption)
  · (simp only [Obj.apllState, Obj.modeCurrent, ne_eq]; omega)

theorem State.showMaster_halted (s : Sys2Proof.Machine.State) (a1 : Nat) (h : Halted s) : Halted (State.showMaster s a1) := by
  unfold State.showMaster
  dsimp only
  with_reducible refine Halted.setN (by assumption) ?_
  (simp only [Obj.ntsMasterSlot, Obj.modeCurrent, ne_eq]; omega)

theorem State.showKeys_halted (s : Sys2Proof.Machine.State) (h : Halted s) : Halted (State.showKeys s) := by
  unfold State.showKeys
  dsimp only
  split
  · with_reducible refine Halted.foldl (fun _ _ _ => ?_) ?_
    · split
      · with_reducible refine Halted.ite (by assumption) (State.showMaster_halted _ _ (Halted.of (State.fillSlot_frame _ _ _ _ _ _ _)
                         (by assumption) ?_))
        rfl
      · with_reducible exact (by assumption)
    · split
      · with_reducible exact Halted.setN (by assumption) (by decide)
      · with_reducible exact (by assumption)
  · with_reducible exact (by assumption)

theorem State.restoreKeys_halted (s : Sys2Proof.Machine.State) (h : Halted s) : Halted (State.restoreKeys s) := by
  unfold State.restoreKeys
  dsimp only
  simp only [State.mk_make]
  split
  · with_reducible refine Halted.ite (State.showKeys_halted _ ?_) (by assumption)
    with_reducible apply Halted.setF
    · with_reducible exact Halted.mk1 (by assumption)
    · with_reducible exact (by decide)
  · with_reducible exact (by assumption)

theorem State.commitBound_halted (s : Sys2Proof.Machine.State) (h : Halted s) : Halted (State.commitBound s).1 := by
  unfold State.commitBound
  dsimp only
  with_reducible refine State.showCeilings_halted _ (Halted.ite ?_ ?_)
  · with_reducible apply Halted.inc
    · split
      · with_reducible refine Halted.setN (Halted.setN (Halted.setN (Halted.of (State.setBlob_frame _ _ _) (Halted.setN (Halted.setN
                         (by assumption) (by decide)) (by decide)) ?_) (by decide)) (by decide)) (by decide)
        rfl
      · with_reducible refine Halted.of (State.setBlob_frame _ _ _) (Halted.setN (Halted.setN (by assumption) (by decide)) (by decide)) ?_
        rfl
    · with_reducible exact (by decide)
  · split
    · with_reducible refine Halted.setN (Halted.setN (Halted.setN (Halted.of (State.setBlob_frame _ _ _) (Halted.setN (Halted.setN
                       (by assumption) (by decide)) (by decide)) ?_) (by decide)) (by decide)) (by decide)
      rfl
    · with_reducible refine Halted.of (State.setBlob_frame _ _ _) (Halted.setN (Halted.setN (by assumption) (by decide)) (by decide)) ?_
      rfl

theorem State.inForce_halted (s : Sys2Proof.Machine.State) (a1 : Sys2Proof.Machine.TsState) (h : Halted s) : Halted (State.inForce s a1) := by
  unfold State.inForce
  dsimp only
  simp only [State.mk_make]
  with_reducible refine Halted.of (State.publishTime_frame _) (Halted.mk1 (State.commitBound_halted _ (by assumption))) ?_
  rfl

theorem State.startTicks_halted (s : Sys2Proof.Machine.State) (h : Halted s) : Halted (State.startTicks s) := by
  unfold State.startTicks
  dsimp only
  simp only [State.mk_make]
  with_reducible refine State.anchor_halted _ _ (State.inForce_halted _ _ (Halted.setN ?_ (by decide)))
  with_reducible apply Halted.inc
  · with_reducible apply Halted.setO
    · with_reducible apply Halted.setO
      · with_reducible apply Halted.setO
        · with_reducible refine Halted.setN ?_ (by decide)
          with_reducible apply Halted.setO
          · with_reducible exact Halted.mk1 (by assumption)
          · with_reducible exact (by decide)
        · with_reducible exact (by decide)
      · with_reducible exact (by decide)
    · with_reducible exact (by decide)
  · with_reducible exact (by decide)

theorem State.firstCookieKey_halted (s : Sys2Proof.Machine.State) (h : Halted s) : Halted (State.firstCookieKey s) := by
  unfold State.firstCookieKey
  dsimp only
  simp only [State.mk_make]
  with_reducible refine Halted.ite (State.showKeys_halted _ (Halted.mk1 (Halted.of (State.drew_frame _) (Halted.of (State.drew_frame _)
                   (by assumption) ?_) ?_))) (by assumption)
  · rfl
  · rfl

theorem State.warmupKeys_halted (s : Sys2Proof.Machine.State) (h : Halted s) : Halted (State.warmupKeys s) := by
  unfold State.warmupKeys
  dsimp only
  with_reducible refine State.firstCookieKey_halted _ (Halted.of (State.fillSlot_frame _ _ _ _ _ _ _) (Halted.of (State.drew_frame _)
                   (by assumption) ?_) ?_)
  · rfl
  · rfl

theorem State.boundLost_halted (s : Sys2Proof.Machine.State) (h : Halted s) : Halted (State.boundLost s) := by
  unfold State.boundLost
  dsimp only
  simp only [State.mk_make]
  with_reducible refine Halted.ite (Halted.of (State.forceUnbounded_frame _) (by assumption) ?_) (Halted.of (State.publishTime_frame _)
                   (State.showCeilings_halted _ (Halted.of (State.forceUnbounded_frame _) (Halted.mk1 (Halted.of (State.setBlob_frame _ _ _) ?_ ?_)) ?_)) ?_)
  · rfl
  · with_reducible apply Halted.inc
    · with_reducible apply Halted.setO
      · with_reducible exact Halted.setN (by assumption) (by decide)
      · with_reducible exact (by decide)
    · with_reducible exact (by decide)
  · rfl
  · rfl
  · rfl

theorem State.fireActions_halted (s : Sys2Proof.Machine.State) (h : Halted s) : Halted (State.fireActions s) := by
  unfold State.fireActions
  dsimp only
  simp only [State.mk_make]
  with_reducible exact State.atNext_halted (fun _ _ => Halted.foldl (fun _ _ _ => State.fireDue_halted _ _ (by assumption)) (by assumption))
                   (Halted.mk1 (by assumption))

theorem State.keyWritesApply_halted (s : Sys2Proof.Machine.State) (h : Halted s) : Halted (State.keyWritesApply s) := by
  unfold State.keyWritesApply
  dsimp only
  simp only [State.mk_make]
  with_reducible exact Halted.foldl (fun _ _ _ => State.keyWriteOne_halted _ _ _ (by assumption)) (Halted.mk1 (by assumption))

theorem State.commitAll_halted (s : Sys2Proof.Machine.State) (h : Halted s) : Halted (State.commitAll s) := by
  unfold State.commitAll
  dsimp only
  with_reducible refine Halted.foldl (fun _ _ _ => State.commitHeld_halted _ _ _ (Halted.ite (by assumption) (Halted.of (State.setPort_frame
                   _ _ _) (by assumption) ?_))) (by assumption)
  rfl

theorem State.ppsNoMessage_halted (s : Sys2Proof.Machine.State) (a1 : Nat) (h : Halted s) : Halted (State.ppsNoMessage s a1) := by
  unfold State.ppsNoMessage
  with_reducible refine Halted.ite (Halted.of (State.ppsInvalid_frame _ _) ?_ ?_) (by assumption)
  · with_reducible apply Halted.inc
    · with_reducible exact (by assumption)
    · (simp only [Obj.refTodInvalid, Obj.modeCurrent, ne_eq]; omega)
  · rfl

theorem State.ppsEdge_halted (s : Sys2Proof.Machine.State) (a1 : Nat) (a2 : Int) (a3 : Nat) (h : Halted s) : Halted (State.ppsEdge s a1 a2 a3) := by
  unfold State.ppsEdge
  dsimp only
  with_reducible refine Halted.foldl (fun _ _ _ => ?_) (by assumption)
  split
  · with_reducible refine Halted.ite (Halted.of (State.setRef_frame _ _ _) (State.ppsNoMessage_halted _ _ (by assumption)) ?_)
                     (by assumption)
    rfl
  · with_reducible exact (by assumption)

theorem State.ppsPortNews_halted (s : Sys2Proof.Machine.State) (a1 : Nat) (h : Halted s) : Halted (State.ppsPortNews s a1) := by
  unfold State.ppsPortNews
  dsimp only
  with_reducible refine Halted.ite (by assumption) (Halted.foldl (fun _ _ _ => State.ppsEdge_halted _ _ _ _ (by assumption)) (Halted.of
                   (State.setPort_frame _ _ _) (by assumption) ?_))
  rfl

theorem State.ppsNews_halted (s : Sys2Proof.Machine.State) (h : Halted s) : Halted (State.ppsNews s) := by
  unfold State.ppsNews
  with_reducible exact Halted.foldl (fun _ _ _ => State.ppsPortNews_halted _ _ (by assumption)) (by assumption)

theorem State.closeTick_halted (s : Sys2Proof.Machine.State) (a1 : Nat) (a2 : List Sys2Proof.Machine.WorkTally) (h : Halted s) : Halted (State.closeTick s a1 a2) := by
  unfold State.closeTick
  dsimp only
  with_reducible refine Halted.of (State.missedDues_frame _) (Halted.of (State.stageObs_frame _) (State.ppsNews_halted _
                   (State.commitAll_halted _ (Halted.foldl (fun _ _ _ => State.accountWork_halted _ _ (by assumption)) (Halted.setN (by assumption)
                   (by decide))))) ?_) ?_
  · rfl
  · rfl

theorem State.planApply_halted (s : Sys2Proof.Machine.State) (h : Halted s) : Halted (State.planApply s) := by
  unfold State.planApply
  dsimp only
  simp only [State.mk_make]
  split
  · with_reducible refine Halted.ite (Halted.mk1 (Halted.foldl (fun _ _ _ => Halted.setN (by assumption) ?_) (Halted.setN (Halted.setN
                     (Halted.setN (Halted.setN (Halted.setN (by assumption) (by decide)) (by decide)) (by decide)) (by decide)) (by decide))))
                     (by assumption)
    (simp only [Obj.marginLimiter, Obj.marginRemainDays, Obj.scrubPassLog2, Obj.slackPlanPm, Obj.tpRecalIntervalS, Obj.vcoreTargetMv, Obj.modeCurrent, ne_eq]; omega)
  · with_reducible exact (by assumption)

theorem State.recordSecond_halted (s : Sys2Proof.Machine.State) (h : Halted s) : Halted (State.recordSecond s) := by
  unfold State.recordSecond
  dsimp only
  simp only [State.mk_make]
  with_reducible refine Halted.ite (Halted.ite (Halted.of (State.vector_frame _ _ _) (Halted.mk1 (Halted.setN (by assumption) (by decide)))
                   ?_) (Halted.mk1 (Halted.setN (by assumption) (by decide)))) (by assumption)
  rfl

theorem State.keepAt_halted (s : Sys2Proof.Machine.State) (h : Halted s) : Halted (State.keepAt s) := by
  unfold State.keepAt
  dsimp only
  simp only [State.mk_make]
  with_reducible refine Halted.mk1 (State.loomBoundary_halted _ (Halted.of (State.uartTick_frame _) (State.recordSecond_halted _ (Halted.of
                   (State.journalSnapshot_frame _) (State.planApply_halted _ (by assumption)) ?_)) ?_))
  · rfl
  · rfl

theorem State.publishFreqUnc_halted (s : Sys2Proof.Machine.State) (h : Halted s) : Halted (State.publishFreqUnc s) := by
  unfold State.publishFreqUnc
  with_reducible exact Halted.setN (by assumption) (by decide)

theorem State.showEpoch_halted (s : Sys2Proof.Machine.State) (a1 : Sys2Proof.Machine.EpochWork) (h : Halted s) : Halted (State.showEpoch s a1) := by
  unfold State.showEpoch
  dsimp only
  with_reducible refine Halted.foldl (fun _ _ _ => ?_) (Halted.setN ?_ (by decide))
  · with_reducible apply Halted.setO
    · with_reducible apply Halted.setO
      · with_reducible apply Halted.setO
        · with_reducible exact (by assumption)
        · (simp only [Obj.ensConflict, Obj.ensMemberDrift, Obj.ensMemberFreq, Obj.ensMemberMissed, Obj.ensMemberNis, Obj.ensMemberPhase, Obj.ensMemberSteerY, Obj.ensStateDigest, Obj.modeCurrent, ne_eq]; omega)
      · (simp only [Obj.ensConflict, Obj.ensMemberDrift, Obj.ensMemberFreq, Obj.ensMemberMissed, Obj.ensMemberNis, Obj.ensMemberPhase, Obj.ensMemberSteerY, Obj.ensStateDigest, Obj.modeCurrent, ne_eq]; omega)
    · (simp only [Obj.ensConflict, Obj.ensMemberDrift, Obj.ensMemberFreq, Obj.ensMemberMissed, Obj.ensMemberNis, Obj.ensMemberPhase, Obj.ensMemberSteerY, Obj.ensStateDigest, Obj.modeCurrent, ne_eq]; omega)
  · with_reducible apply Halted.setF
    · with_reducible refine Halted.foldl (fun _ _ _ => ?_) (Halted.foldl (fun _ _ _ => ?_) (Halted.foldl (fun _ _ _ => Halted.setN
                       (by assumption) ?_) (by assumption)))
      · with_reducible apply Halted.setO
        · with_reducible exact (by assumption)
        · (simp only [Obj.ensConflict, Obj.ensMemberDrift, Obj.ensMemberFreq, Obj.ensMemberMissed, Obj.ensMemberNis, Obj.ensMemberPhase, Obj.ensMemberSteerY, Obj.ensStateDigest, Obj.modeCurrent, ne_eq]; omega)
      · with_reducible apply Halted.inc
        · with_reducible exact (by assumption)
        · (simp only [Obj.ensConflict, Obj.ensMemberDrift, Obj.ensMemberFreq, Obj.ensMemberMissed, Obj.ensMemberNis, Obj.ensMemberPhase, Obj.ensMemberSteerY, Obj.ensStateDigest, Obj.modeCurrent, ne_eq]; omega)
      · (simp only [Obj.ensConflict, Obj.ensMemberDrift, Obj.ensMemberFreq, Obj.ensMemberMissed, Obj.ensMemberNis, Obj.ensMemberPhase, Obj.ensMemberSteerY, Obj.ensStateDigest, Obj.modeCurrent, ne_eq]; omega)
    · with_reducible exact (by decide)

theorem State.startSegment_halted (s : Sys2Proof.Machine.State) (a1 : Nat) (h : Halted s) : Halted (State.startSegment s a1).1 := by
  unfold State.startSegment
  dsimp only
  with_reducible exact State.publishFreqUnc_halted _ (Halted.setN (Halted.setN (by assumption) (by decide)) (by decide))

theorem State.takeWeights_halted (s : Sys2Proof.Machine.State) (a1 : List (Nat × Sys2Proof.Octets) × List (Nat × Nat)) (h : Halted s) : Halted (State.takeWeights s a1) := by
  unfold State.takeWeights
  dsimp only
  simp only [State.mk_make]
  with_reducible apply Halted.inc
  · with_reducible refine Halted.mk1 (Halted.foldl (fun _ _ _ => Halted.setN (by assumption) ?_) (by assumption))
    (simp only [Obj.ensMemberWeight, Obj.ensReweights, Obj.modeCurrent, ne_eq]; omega)
  · with_reducible exact (by decide)

theorem State.publishModel_halted (s : Sys2Proof.Machine.State) (a1 : Sys2Proof.Machine.EpochWork) (h : Halted s) : Halted (State.publishModel s a1) := by
  unfold State.publishModel
  dsimp only
  simp only [State.mk_make]
  with_reducible refine Halted.ite (Halted.setN ?_ (by decide)) (State.publishFreqUnc_halted _ (Halted.setN ?_ (by decide)))
  · split
    · with_reducible refine State.takeWeights_halted _ _ (Halted.foldl (fun _ _ _ => State.declare_halted _ _ _ (by assumption))
                       (State.showEpoch_halted _ _ ?_))
      with_reducible apply Halted.inc
      · with_reducible refine Halted.foldl (fun _ _ _ => State.applyDecision_halted _ _ _ (by assumption)) (Halted.foldl (fun _ _ _ =>
                         Halted.of (State.keepMeas_frame _ _ _) (by assumption) ?_) (Halted.mk1 (by assumption)))
        rfl
      · with_reducible exact (by decide)
    · with_reducible refine Halted.foldl (fun _ _ _ => State.declare_halted _ _ _ (by assumption)) (State.showEpoch_halted _ _ ?_)
      with_reducible apply Halted.inc
      · with_reducible refine Halted.foldl (fun _ _ _ => State.applyDecision_halted _ _ _ (by assumption)) (Halted.foldl (fun _ _ _ =>
                         Halted.of (State.keepMeas_frame _ _ _) (by assumption) ?_) (Halted.mk1 (by assumption)))
        rfl
      · with_reducible exact (by decide)
  · split
    · with_reducible refine State.takeWeights_halted _ _ (Halted.foldl (fun _ _ _ => State.declare_halted _ _ _ (by assumption))
                       (State.showEpoch_halted _ _ ?_))
      with_reducible apply Halted.inc
      · with_reducible refine Halted.foldl (fun _ _ _ => State.applyDecision_halted _ _ _ (by assumption)) (Halted.foldl (fun _ _ _ =>
                         Halted.of (State.keepMeas_frame _ _ _) (by assumption) ?_) (Halted.mk1 (by assumption)))
        rfl
      · with_reducible exact (by decide)
    · with_reducible refine Halted.foldl (fun _ _ _ => State.declare_halted _ _ _ (by assumption)) (State.showEpoch_halted _ _ ?_)
      with_reducible apply Halted.inc
      · with_reducible refine Halted.foldl (fun _ _ _ => State.applyDecision_halted _ _ _ (by assumption)) (Halted.foldl (fun _ _ _ =>
                         Halted.of (State.keepMeas_frame _ _ _) (by assumption) ?_) (Halted.mk1 (by assumption)))
        rfl
      · with_reducible exact (by decide)

theorem State.publishHold_halted (s : Sys2Proof.Machine.State) (a1 : Sys2Proof.Machine.EpochWork) (a2 : Sys2Proof.Machine.Hold) (h : Halted s) : Halted (State.publishHold s a1 a2) := by
  unfold State.publishHold
  dsimp only
  simp only [State.mk_make]
  with_reducible refine Halted.ite (Halted.of (State.forceUnbounded_frame _) (Halted.mk1 (Halted.iteFst (State.startSegment_halted _ _
                   (by assumption)) (by assumption))) ?_) (Halted.mk1 (Halted.iteFst (State.startSegment_halted _ _ (by assumption)) (by assumption)))
  rfl

theorem State.publishEpoch_halted (s : Sys2Proof.Machine.State) (h : Halted s) : Halted (State.publishEpoch s) := by
  unfold State.publishEpoch
  dsimp only
  split
  · with_reducible exact (by assumption)
  · with_reducible refine Halted.ite (by assumption) ?_
    split
    · with_reducible exact State.publishModel_halted _ _ (by assumption)
    · with_reducible exact State.publishHold_halted _ _ _ (State.publishModel_halted _ _ (by assumption))

theorem State.canopyBoundary_halted (s : Sys2Proof.Machine.State) (h : Halted s) : Halted (State.canopyBoundary s) := by
  unfold State.canopyBoundary
  dsimp only
  simp only [State.mk_make]
  with_reducible refine Halted.ite (State.publishEpoch_halted _ (Halted.ite (Halted.mk1 (Halted.ite (Halted.mk1 (Halted.foldl (fun _ _ _ =>
                   Halted.of (State.setMember_frame _ _ _) (by assumption) ?_) (Halted.ite (Halted.mk1 (Halted.foldl (fun _ _ _ => Halted.ite (by assumption)
                   (Halted.of (State.setMember_frame _ _ _) (by assumption) ?_)) (by assumption))) (Halted.foldl (fun _ _ _ => Halted.ite (by assumption)
                   (Halted.of (State.setMember_frame _ _ _) (by assumption) ?_)) (by assumption))))) (Halted.ite (Halted.mk1 (Halted.foldl (fun _ _ _ =>
                   Halted.ite (by assumption) (Halted.of (State.setMember_frame _ _ _) (by assumption) ?_)) (by assumption))) (Halted.foldl (fun _ _ _ =>
                   Halted.ite (by assumption) (Halted.of (State.setMember_frame _ _ _) (by assumption) ?_)) (by assumption))))) (Halted.ite (Halted.mk1
                   (Halted.foldl (fun _ _ _ => Halted.of (State.setMember_frame _ _ _) (by assumption) ?_) (Halted.ite (Halted.mk1 (Halted.foldl (fun _ _ _
                   => Halted.ite (by assumption) (Halted.of (State.setMember_frame _ _ _) (by assumption) ?_)) (by assumption))) (Halted.foldl (fun _ _ _ =>
                   Halted.ite (by assumption) (Halted.of (State.setMember_frame _ _ _) (by assumption) ?_)) (by assumption))))) (Halted.ite (Halted.mk1
                   (Halted.foldl (fun _ _ _ => Halted.ite (by assumption) (Halted.of (State.setMember_frame _ _ _) (by assumption) ?_)) (by assumption)))
                   (Halted.foldl (fun _ _ _ => Halted.ite (by assumption) (Halted.of (State.setMember_frame _ _ _) (by assumption) ?_)) (by assumption))))))
                   (Halted.ite (Halted.mk1 (Halted.ite (Halted.mk1 (Halted.foldl (fun _ _ _ => Halted.of (State.setMember_frame _ _ _) (by assumption) ?_)
                   (Halted.ite (Halted.mk1 (Halted.foldl (fun _ _ _ => Halted.ite (by assumption) (Halted.of (State.setMember_frame _ _ _) (by assumption)
                   ?_)) (by assumption))) (Halted.foldl (fun _ _ _ => Halted.ite (by assumption) (Halted.of (State.setMember_frame _ _ _) (by assumption)
                   ?_)) (by assumption))))) (Halted.ite (Halted.mk1 (Halted.foldl (fun _ _ _ => Halted.ite (by assumption) (Halted.of (State.setMember_frame
                   _ _ _) (by assumption) ?_)) (by assumption))) (Halted.foldl (fun _ _ _ => Halted.ite (by assumption) (Halted.of (State.setMember_frame _ _
                   _) (by assumption) ?_)) (by assumption))))) (Halted.ite (Halted.mk1 (Halted.foldl (fun _ _ _ => Halted.of (State.setMember_frame _ _ _)
                   (by assumption) ?_) (Halted.ite (Halted.mk1 (Halted.foldl (fun _ _ _ => Halted.ite (by assumption) (Halted.of (State.setMember_frame _ _
                   _) (by assumption) ?_)) (by assumption))) (Halted.foldl (fun _ _ _ => Halted.ite (by assumption) (Halted.of (State.setMember_frame _ _ _)
                   (by assumption) ?_)) (by assumption))))) (Halted.ite (Halted.mk1 (Halted.foldl (fun _ _ _ => Halted.ite (by assumption) (Halted.of
                   (State.setMember_frame _ _ _) (by assumption) ?_)) (by assumption))) (Halted.foldl (fun _ _ _ => Halted.ite (by assumption) (Halted.of
                   (State.setMember_frame _ _ _) (by assumption) ?_)) (by assumption)))))
  · rfl
  · rfl
  · rfl
  · rfl
  · rfl
  · rfl
  · rfl
  · rfl
  · rfl
  · rfl
  · rfl
  · rfl
  · rfl
  · rfl
  · rfl
  · rfl
  · rfl
  · rfl
  · rfl
  · rfl

theorem State.canopyAt_halted (s : Sys2Proof.Machine.State) (h : Halted s) : Halted (State.canopyAt s) := by
  unfold State.canopyAt
  dsimp only
  simp only [State.mk_make]
  with_reducible refine Halted.mk1 (Halted.ite (Halted.of (State.takeSwitched_frame _) (Halted.ite (Halted.of (State.unanchor_frame _)
                   (by assumption) ?_) (by assumption)) ?_) (State.canopyBoundary_halted _ (Halted.of (State.takeSwitched_frame _) (Halted.ite (Halted.of
                   (State.unanchor_frame _) (by assumption) ?_) (by assumption)) ?_)))
  · rfl
  · rfl
  · rfl
  · rfl

theorem State.enterHoldover_halted (s : Sys2Proof.Machine.State) (a1 : Nat) (h : Halted s) : Halted (State.enterHoldover s a1) := by
  unfold State.enterHoldover
  dsimp only
  simp only [State.mk_make]
  with_reducible refine Halted.of (State.anchorHold_frame _ _) (Halted.mk1 (State.startSegment_halted _ _ (Halted.setN (by assumption)
                   (by decide)))) ?_
  rfl

theorem State.leaveHoldover_halted (s : Sys2Proof.Machine.State) (a1 : Bool) (h : Halted s) : Halted (State.leaveHoldover s a1) := by
  unfold State.leaveHoldover
  dsimp only
  simp only [State.mk_make]
  split
  · with_reducible exact (by assumption)
  · with_reducible apply Halted.setO
    · with_reducible exact Halted.mk1 (by assumption)
    · with_reducible exact (by decide)

theorem State.replayBoundary_halted (s : Sys2Proof.Machine.State) (a1 : Bool) (h : Halted s) : Halted (State.replayBoundary s a1) := by
  unfold State.replayBoundary
  dsimp only
  simp only [State.mk_make]
  with_reducible refine Halted.ite (Halted.ite (by assumption) ?_) (Halted.ite (State.showRing_halted _ (Halted.mk1 ?_)) (by assumption))
  · with_reducible apply Halted.setO
    · with_reducible exact (by assumption)
    · with_reducible exact (by decide)
  · with_reducible apply Halted.setO
    · with_reducible exact (by assumption)
    · with_reducible exact (by decide)

theorem State.selectBoundary_halted (s : Sys2Proof.Machine.State) (h : Halted s) : Halted (State.selectBoundary s) := by
  unfold State.selectBoundary
  dsimp only
  simp only [State.mk_make]
  with_reducible refine Halted.ite (by assumption) (Halted.mk1 ?_)
  with_reducible apply Halted.inc
  · with_reducible refine Halted.setN ?_ (by decide)
    with_reducible apply Halted.setO
    · with_reducible exact (by assumption)
    · with_reducible exact (by decide)
  · with_reducible exact (by decide)

theorem State.requalify_halted (s : Sys2Proof.Machine.State) (h : Halted s) : Halted (State.requalify s) := by
  unfold State.requalify
  dsimp only
  simp only [State.mk_make]
  with_reducible refine State.selectBoundary_halted _ (Halted.mk1 (Halted.foldl (fun _ _ _ => State.declare_halted _ _ _ (by assumption))
                   (Halted.foldl (fun _ _ _ => Halted.ite (by assumption) (State.refEnter_halted _ _ _ (Halted.of (State.setRef_frame _ _ _) (by assumption)
                   ?_))) (by assumption))))
  rfl

end Sys2Proof.Machine
end

