-- ==== Sys2Proof/Laws/Halts3.lean ====
section
/-!
SUPPORT. HALTED under operations, part 3.
-/

namespace Sys2Proof.Machine

set_option linter.unusedSimpArgs false

theorem State.replayEnter_halted (s : Sys2Proof.Machine.State) (h : Halted s) : Halted (State.replayEnter s) := by
  unfold State.replayEnter
  dsimp only
  simp only [State.mk_make]
  with_reducible refine State.replayBoundary_halted _ _ (Halted.mk1 ?_)
  with_reducible apply Halted.setO
  · with_reducible apply Halted.setF
    · with_reducible exact State.requalify_halted _ (State.linksDown_halted _ (by assumption))
    · with_reducible exact (by decide)
  · with_reducible exact (by decide)

theorem State.replayEnd_halted (s : Sys2Proof.Machine.State) (a1 : Nat) (a2 : Nat) (h : Halted s) : Halted (State.replayEnd s a1 a2) := by
  unfold State.replayEnd
  with_reducible exact Halted.setN (Halted.setN (by assumption) (by decide)) (by decide)

theorem State.replayLeave_halted (s : Sys2Proof.Machine.State) (h : Halted s) : Halted (State.replayLeave s) := by
  unfold State.replayLeave
  dsimp only
  simp only [State.mk_make]
  with_reducible refine Halted.of (State.formKeyframe_frame _) (State.requalify_halted _ ?_) ?_
  · with_reducible apply Halted.setO
    · with_reducible refine Halted.mk1 (Halted.ite ?_ (State.replayEnd_halted _ _ _ (by assumption)))
      with_reducible apply Halted.setO
      · with_reducible exact (by assumption)
      · with_reducible exact (by decide)
    · with_reducible exact (by decide)
  · rfl

theorem State.loCheck_halted (s : Sys2Proof.Machine.State) (h : Halted s) : Halted (State.loCheck s) := by
  unfold State.loCheck
  dsimp only
  simp only [State.mk_make]
  with_reducible refine Halted.mk1 (Halted.ite ?_ (by assumption))
  with_reducible apply Halted.inc
  · with_reducible exact (by assumption)
  · with_reducible exact (by decide)

theorem State.outsStepped_halted (s : Sys2Proof.Machine.State) (a1 : Int) (h : Halted s) : Halted (State.outsStepped s a1) := by
  unfold State.outsStepped
  dsimp only
  with_reducible refine Halted.foldl (fun _ _ _ => Halted.ite (State.slewOut_halted _ _ _ (by assumption)) (by assumption)) (Halted.foldl
                   (fun _ _ _ => Halted.of (State.pulseStepped_frame _ _ _) (by assumption) ?_) (by assumption))
  rfl

theorem State.realigned_halted (s : Sys2Proof.Machine.State) (h : Halted s) : Halted (State.realigned s) := by
  unfold State.realigned
  with_reducible refine Halted.ite (State.outsStepped_halted _ _ (Halted.of (State.canopyStepped_frame _ _ _) (Halted.of
                   (State.refsStepped_frame _ _) (by assumption) ?_) ?_)) (by assumption)
  · rfl
  · rfl

theorem State.ppsBoundary_halted (s : Sys2Proof.Machine.State) (a1 : Nat) (h : Halted s) : Halted (State.ppsBoundary s a1) := by
  unfold State.ppsBoundary
  dsimp only
  with_reducible refine Halted.ite (by assumption) ?_
  split
  · with_reducible refine Halted.ite (Halted.of (State.refArrive_frame _ _) (Halted.of (State.setRef_frame _ _ _) ?_ ?_) ?_) ?_
    · split
      · with_reducible exact Halted.ite (State.ppsNoMessage_halted _ _ (by assumption)) (by assumption)
      · with_reducible exact (by assumption)
    · rfl
    · rfl
    · split
      · with_reducible exact Halted.ite (State.ppsNoMessage_halted _ _ (by assumption)) (by assumption)
      · with_reducible exact (by assumption)
  · split
    · with_reducible exact Halted.ite (State.ppsNoMessage_halted _ _ (by assumption)) (by assumption)
    · with_reducible exact (by assumption)

theorem State.refBoundaryT_halted (s : Sys2Proof.Machine.State) (a1 : Nat) (h : Halted s) : Halted (State.refBoundaryT s a1) := by
  unfold State.refBoundaryT
  dsimp only
  with_reducible refine Halted.ite (by assumption) (Halted.ite (Halted.setN (Halted.ite (Halted.ite (State.refEnter_halted _ _ _ (Halted.of
                   (State.setRef_frame _ _ _) (Halted.of (State.setRef_frame _ _ _) (by assumption) ?_) ?_)) (Halted.of (State.setRef_frame _ _ _)
                   (by assumption) ?_)) (Halted.ite (State.refEnter_halted _ _ _ (Halted.of (State.setRef_frame _ _ _) (by assumption) ?_)) (Halted.ite
                   (Halted.ite (State.refEnter_halted _ _ _ (Halted.of (State.setRef_frame _ _ _) (Halted.of (State.setRef_frame _ _ _) (by assumption) ?_)
                   ?_)) (Halted.of (State.setRef_frame _ _ _) (by assumption) ?_)) (Halted.of (State.setRef_frame _ _ _) (by assumption) ?_)))) ?_) ?_)
  · rfl
  · rfl
  · rfl
  · rfl
  · rfl
  · rfl
  · rfl
  · rfl
  · (simp only [Obj.refFirstS, Obj.refWtrRemaining, Obj.refWtrS, Obj.modeCurrent, ne_eq]; omega)
  · with_reducible apply Halted.setO
    · with_reducible refine Halted.ite (Halted.ite (State.refEnter_halted _ _ _ (Halted.of (State.setRef_frame _ _ _) (Halted.of
                       (State.setRef_frame _ _ _) (by assumption) ?_) ?_)) (Halted.of (State.setRef_frame _ _ _) (by assumption) ?_)) (Halted.ite
                       (State.refEnter_halted _ _ _ (Halted.of (State.setRef_frame _ _ _) (by assumption) ?_)) (Halted.ite (Halted.ite (State.refEnter_halted
                       _ _ _ (Halted.of (State.setRef_frame _ _ _) (Halted.of (State.setRef_frame _ _ _) (by assumption) ?_) ?_)) (Halted.of
                       (State.setRef_frame _ _ _) (by assumption) ?_)) (Halted.of (State.setRef_frame _ _ _) (by assumption) ?_)))
      · rfl
      · rfl
      · rfl
      · rfl
      · rfl
      · rfl
      · rfl
      · rfl
    · (simp only [Obj.refFirstS, Obj.refWtrRemaining, Obj.refWtrS, Obj.modeCurrent, ne_eq]; omega)

theorem State.refIngest_halted (s : Sys2Proof.Machine.State) (a1 : Sys2Proof.Machine.RefObs) (h : Halted s) : Halted (State.refIngest s a1) := by
  unfold State.refIngest
  dsimp only
  simp only [State.mk_make]
  with_reducible refine Halted.ite (by assumption) ?_
  split
  · with_reducible refine Halted.ite (Halted.of (State.setRef_frame _ _ _) (by assumption) ?_) (Halted.mk1 (Halted.setN (Halted.setN
                     (Halted.of (State.setRef_frame _ _ _) (by assumption) ?_) ?_) ?_))
    · rfl
    · rfl
    · (simp only [Obj.refBoundPs, Obj.refRandU, Obj.modeCurrent, ne_eq]; omega)
    · (simp only [Obj.refBoundPs, Obj.refRandU, Obj.modeCurrent, ne_eq]; omega)
  · with_reducible refine Halted.of (State.setRef_frame _ _ _) (by assumption) ?_
    rfl

theorem State.refsBoundary_halted (s : Sys2Proof.Machine.State) (h : Halted s) : Halted (State.refsBoundary s) := by
  unfold State.refsBoundary
  dsimp only
  simp only [State.mk_make]
  with_reducible refine State.selectBoundary_halted _ (Halted.foldl (fun _ _ _ => Halted.of (State.silentBoundary_frame _ _) (by assumption)
                   ?_) (Halted.foldl (fun _ _ _ => State.ppsBoundary_halted _ _ (by assumption)) (Halted.foldl (fun _ _ _ => State.refIngest_halted _ _
                   (by assumption)) (Halted.mk1 (Halted.foldl (fun _ _ _ => State.refBoundaryF_halted _ _ (by assumption)) (Halted.foldl (fun _ _ _ =>
                   State.refBoundaryT_halted _ _ (by assumption)) (by assumption)))))))
  rfl

theorem State.refsAt_halted (s : Sys2Proof.Machine.State) (h : Halted s) : Halted (State.refsAt s) := by
  unfold State.refsAt
  dsimp only
  simp only [State.mk_make]
  with_reducible exact Halted.ite (Halted.mk1 (Halted.foldl (fun _ _ _ => State.refBoundaryF_halted _ _ (by assumption)) (by assumption)))
                   (State.refsBoundary_halted _ (by assumption))

theorem State.stamperBoundary_halted (s : Sys2Proof.Machine.State) (a1 : Nat) (h : Halted s) : Halted (State.stamperBoundary s a1) := by
  unfold State.stamperBoundary
  dsimp only
  with_reducible refine Halted.ite (Halted.ite (State.setStState_halted _ _ _ (by assumption)) (by assumption)) (Halted.ite (Halted.ite
                   (Halted.of (State.setPort_frame _ _ _) (Halted.of (State.setStamper_frame _ _ _) (State.setStState_halted _ _ _ (by assumption)) ?_) ?_)
                   (by assumption)) (Halted.of (State.markRecal_frame _ _) (by assumption) ?_))
  · rfl
  · rfl
  · rfl

theorem State.stampBoundary_halted (s : Sys2Proof.Machine.State) (a1 : Int) (a2 : Int) (h : Halted s) : Halted (State.stampBoundary s a1 a2) := by
  unfold State.stampBoundary
  dsimp only
  simp only [State.mk_make]
  with_reducible refine Halted.foldl (fun _ _ _ => Halted.of (State.slidingFit_frame _ _) (by assumption) ?_) (Halted.foldl (fun _ _ _ =>
                   Halted.ite (Halted.of (State.openGate_frame _ _) (by assumption) ?_) (by assumption)) (Halted.foldl (fun _ _ _ =>
                   State.stamperBoundary_halted _ _ (by assumption)) (Halted.ite (Halted.foldl (fun _ _ _ => Halted.of (State.closeGate_frame _ _)
                   (by assumption) ?_) (Halted.foldl (fun _ _ _ => Halted.of (State.portBoundary_frame _ _ _ _ _) (by assumption) ?_) (Halted.mk1
                   (by assumption)))) (Halted.foldl (fun _ _ _ => Halted.of (State.portBoundary_frame _ _ _ _ _) (by assumption) ?_) (Halted.mk1
                   (by assumption))))))
  · rfl
  · rfl
  · rfl
  · rfl
  · rfl

theorem State.stepBoundary_halted (s : Sys2Proof.Machine.State) (h : Halted s) : Halted (State.stepBoundary s).1 := by
  unfold State.stepBoundary
  dsimp only
  simp only [State.mk_make]
  split
  · with_reducible apply Halted.setO
    · with_reducible exact (by assumption)
    · with_reducible exact (by decide)
  · split
    · with_reducible refine Halted.iteFst ?_ (Halted.setN (by assumption) (by decide))
      split
      · with_reducible refine Halted.mk1 ?_
        with_reducible apply Halted.setO
        · with_reducible exact (by assumption)
        · with_reducible exact (by decide)
      · with_reducible refine Halted.mk1 ?_
        with_reducible apply Halted.setO
        · with_reducible exact (by assumption)
        · with_reducible exact (by decide)
    · with_reducible apply Halted.setO
      · with_reducible exact (by assumption)
      · with_reducible exact (by decide)
    · with_reducible refine Halted.iteFst (Halted.mk1 (Halted.setN (by assumption) (by decide))) (Halted.mk1 ?_)
      with_reducible apply Halted.setO
      · with_reducible exact (by assumption)
      · with_reducible exact (by decide)
    · with_reducible refine Halted.iteFst (Halted.mk1 ?_) (Halted.setN (by assumption) (by decide))
      with_reducible apply Halted.setO
      · with_reducible exact (by assumption)
      · with_reducible exact (by decide)

theorem State.clientEnter_halted (s : Sys2Proof.Machine.State) (a1 : Nat) (a2 : Nat) (h : Halted s) : Halted (State.clientEnter s a1 a2) := by
  unfold State.clientEnter
  dsimp only
  with_reducible refine Halted.of (State.setClient_frame _ _ _) (Halted.setN (by assumption) ?_) ?_
  · (simp only [Obj.ptpClientState, Obj.modeCurrent, ne_eq]; omega)
  · rfl

theorem State.clientsBoundary_halted (s : Sys2Proof.Machine.State) (h : Halted s) : Halted (State.clientsBoundary s) := by
  unfold State.clientsBoundary
  with_reducible exact Halted.foldl (fun _ _ _ => Halted.ite (Halted.ite (State.clientEnter_halted _ _ _ (by assumption)) (by assumption))
                   (Halted.ite (State.clientEnter_halted _ _ _ (by assumption)) (by assumption))) (by assumption)

theorem State.dropLate_halted (s : Sys2Proof.Machine.State) (h : Halted s) : Halted (State.dropLate s) := by
  unfold State.dropLate
  dsimp only
  with_reducible refine Halted.foldl (fun _ _ _ => Halted.ite (by assumption) ?_) (by assumption)
  with_reducible apply Halted.addN
  · with_reducible apply Halted.addN
    · with_reducible refine Halted.of (State.setMac_frame _ _ _) (by assumption) ?_
      rfl
    · with_reducible exact (by decide)
  · (simp only [Obj.npExactMissed, Obj.txLateDrops, Obj.modeCurrent, ne_eq]; omega)

theorem State.gladeBoundary_halted (s : Sys2Proof.Machine.State) (h : Halted s) : Halted (State.gladeBoundary s) := by
  unfold State.gladeBoundary
  dsimp only
  simp only [State.mk_make]
  with_reducible refine Halted.ite (Halted.ite (Halted.mk1 ?_) (by assumption)) (Halted.ite (by assumption) (State.gladeOff_halted _
                   (by assumption)))
  with_reducible apply Halted.setO
  · with_reducible exact (by assumption)
  · with_reducible exact (by decide)

theorem State.countEngines_halted (s : Sys2Proof.Machine.State) (a1 : Nat) (h : Halted s) : Halted (State.countEngines s a1) := by
  unfold State.countEngines
  with_reducible refine Halted.setN (by assumption) ?_
  (simp only [Obj.groveActiveEngines, Obj.modeCurrent, ne_eq]; omega)

theorem State.groveStop_halted (s : Sys2Proof.Machine.State) (a1 : Nat) (h : Halted s) : Halted (State.groveStop s a1) := by
  unfold State.groveStop
  dsimp only
  simp only [State.mk_make]
  with_reducible refine Halted.mk1 (State.countEngines_halted _ _ ?_)
  with_reducible apply Halted.setO
  · with_reducible apply Halted.setF
    · with_reducible refine Halted.foldl (fun _ _ _ => ?_) (by assumption)
      with_reducible apply Halted.setO
      · with_reducible apply Halted.setO
        · with_reducible exact (by assumption)
        · (simp only [Obj.aesLaneState, Obj.engineLane, Obj.engineState, Obj.groveSpareAvailable, Obj.modeCurrent, ne_eq]; omega)
      · (simp only [Obj.aesLaneState, Obj.engineLane, Obj.engineState, Obj.groveSpareAvailable, Obj.modeCurrent, ne_eq]; omega)
    · (simp only [Obj.aesLaneState, Obj.engineLane, Obj.engineState, Obj.groveSpareAvailable, Obj.modeCurrent, ne_eq]; omega)
  · (simp only [Obj.aesLaneState, Obj.engineLane, Obj.engineState, Obj.groveSpareAvailable, Obj.modeCurrent, ne_eq]; omega)

theorem State.grovesOut_halted (s : Sys2Proof.Machine.State) (h : Halted s) : Halted (State.grovesOut s) := by
  unfold State.grovesOut
  dsimp only
  simp only [State.mk_make]
  with_reducible refine Halted.foldl (fun _ _ _ => Halted.ite (by assumption) (Halted.mk1 ?_)) (Halted.mk1 (by assumption))
  with_reducible apply Halted.setO
  · with_reducible exact State.groveStop_halted _ _ (by assumption)
  · (simp only [Obj.groveState, Obj.modeCurrent, ne_eq]; omega)

theorem State.grovesReady_halted (s : Sys2Proof.Machine.State) (h : Halted s) : Halted (State.grovesReady s) := by
  unfold State.grovesReady
  dsimp only
  simp only [State.mk_make]
  with_reducible refine Halted.foldl (fun _ _ _ => Halted.ite (by assumption) (Halted.ite (Halted.mk1 ?_) ?_)) (Halted.mk1 (by assumption))
  · with_reducible apply Halted.setO
    · with_reducible refine State.countEngines_halted _ _ (Halted.foldl (fun _ _ _ => Halted.ite (Halted.setN ?_ ?_) ?_) (by assumption))
      · with_reducible apply Halted.setO
        · with_reducible exact (by assumption)
        · (simp only [Obj.engineLane, Obj.engineState, Obj.groveSpareAvailable, Obj.groveState, Obj.serviceAllowed, Obj.modeCurrent, ne_eq]; omega)
      · (simp only [Obj.engineLane, Obj.engineState, Obj.groveSpareAvailable, Obj.groveState, Obj.serviceAllowed, Obj.modeCurrent, ne_eq]; omega)
      · with_reducible apply Halted.setF
        · with_reducible apply Halted.setO
          · with_reducible exact (by assumption)
          · (simp only [Obj.engineLane, Obj.engineState, Obj.groveSpareAvailable, Obj.groveState, Obj.serviceAllowed, Obj.modeCurrent, ne_eq]; omega)
        · (simp only [Obj.engineLane, Obj.engineState, Obj.groveSpareAvailable, Obj.groveState, Obj.serviceAllowed, Obj.modeCurrent, ne_eq]; omega)
    · (simp only [Obj.engineLane, Obj.engineState, Obj.groveSpareAvailable, Obj.groveState, Obj.serviceAllowed, Obj.modeCurrent, ne_eq]; omega)
  · with_reducible apply Halted.setO
    · with_reducible refine State.countEngines_halted _ _ (Halted.foldl (fun _ _ _ => Halted.ite (Halted.setN ?_ ?_) ?_) (by assumption))
      · with_reducible apply Halted.setO
        · with_reducible exact (by assumption)
        · (simp only [Obj.engineLane, Obj.engineState, Obj.groveSpareAvailable, Obj.groveState, Obj.serviceAllowed, Obj.modeCurrent, ne_eq]; omega)
      · (simp only [Obj.engineLane, Obj.engineState, Obj.groveSpareAvailable, Obj.groveState, Obj.serviceAllowed, Obj.modeCurrent, ne_eq]; omega)
      · with_reducible apply Halted.setF
        · with_reducible apply Halted.setO
          · with_reducible exact (by assumption)
          · (simp only [Obj.engineLane, Obj.engineState, Obj.groveSpareAvailable, Obj.groveState, Obj.serviceAllowed, Obj.modeCurrent, ne_eq]; omega)
        · (simp only [Obj.engineLane, Obj.engineState, Obj.groveSpareAvailable, Obj.groveState, Obj.serviceAllowed, Obj.modeCurrent, ne_eq]; omega)
    · (simp only [Obj.engineLane, Obj.engineState, Obj.groveSpareAvailable, Obj.groveState, Obj.serviceAllowed, Obj.modeCurrent, ne_eq]; omega)

theorem State.rotateKeys_halted (s : Sys2Proof.Machine.State) (a1 : Sys2Proof.Octets) (h : Halted s) : Halted (State.rotateKeys s a1) := by
  unfold State.rotateKeys
  dsimp only
  simp only [State.mk_make]
  with_reducible refine Halted.of (State.hostEvent_frame _ _) (State.showKeys_halted _ ?_) ?_
  · with_reducible apply Halted.inc
    · with_reducible exact Halted.mk1 (by assumption)
    · with_reducible exact (by decide)
  · rfl

theorem State.keyRotation_halted (s : Sys2Proof.Machine.State) (h : Halted s) : Halted (State.keyRotation s) := by
  unfold State.keyRotation
  dsimp only
  simp only [State.mk_make]
  with_reducible refine Halted.ite ?_ (Halted.ite (State.rotateKeys_halted _ _ (Halted.of (State.drew_frame _) (by assumption) ?_))
                   (by assumption))
  · split
    · with_reducible exact Halted.ite (State.rotateKeys_halted _ _ (Halted.mk1 (by assumption))) (by assumption)
    · with_reducible exact (by assumption)
  · rfl

theorem State.netBoundary_halted (s : Sys2Proof.Machine.State) (h : Halted s) : Halted (State.netBoundary s) := by
  unfold State.netBoundary
  dsimp only
  simp only [State.mk_make]
  with_reducible refine Halted.mk1 (Halted.ite (Halted.foldl (fun _ _ _ => Halted.of (State.closeBatch_frame _ _) (by assumption) ?_)
                   (Halted.foldl (fun _ _ _ => Halted.of (State.esmcBoundary_frame _ _) (Halted.ite (Halted.setN (Halted.ite (Halted.of (State.setMac_frame _
                   _ _) (by assumption) ?_) (by assumption)) ?_) (Halted.ite (Halted.of (State.setMac_frame _ _ _) (by assumption) ?_) (by assumption))) ?_)
                   (by assumption))) (Halted.foldl (fun _ _ _ => Halted.of (State.esmcBoundary_frame _ _) (Halted.ite (Halted.setN (Halted.ite (Halted.of
                   (State.setMac_frame _ _ _) (by assumption) ?_) (by assumption)) ?_) (Halted.ite (Halted.of (State.setMac_frame _ _ _) (by assumption) ?_)
                   (by assumption))) ?_) (by assumption)))
  · rfl
  · rfl
  · (simp only [Obj.esmcRxSsm, Obj.groveState, Obj.ndictRate, Obj.modeCurrent, ne_eq]; omega)
  · rfl
  · rfl
  · rfl
  · (simp only [Obj.esmcRxSsm, Obj.groveState, Obj.ndictRate, Obj.modeCurrent, ne_eq]; omega)
  · rfl
  · rfl

theorem State.efcBoundary_halted (s : Sys2Proof.Machine.State) (a1 : Nat) (a2 : Option Int) (h : Halted s) : Halted (State.efcBoundary s a1 a2) := by
  unfold State.efcBoundary
  dsimp only
  with_reducible refine Halted.ite ?_ (Halted.ite (Halted.ite ?_ ?_) (Halted.ite ?_ (Halted.ite (Halted.ite ?_ ?_) ?_)))
  · with_reducible apply Halted.setF
    · with_reducible apply Halted.setO
      · with_reducible exact (by assumption)
      · (simp only [Obj.efcCentre, Obj.efcCode, Obj.efcGain, Obj.efcInitCode, Obj.efcLimitTicks, Obj.efcLimited, Obj.efcMinmax, Obj.efcSlew, Obj.efcState, Obj.modeCurrent, ne_eq]; omega)
    · (simp only [Obj.efcCentre, Obj.efcCode, Obj.efcGain, Obj.efcInitCode, Obj.efcLimitTicks, Obj.efcLimited, Obj.efcMinmax, Obj.efcSlew, Obj.efcState, Obj.modeCurrent, ne_eq]; omega)
  · with_reducible apply Halted.setO
    · with_reducible exact (by assumption)
    · (simp only [Obj.efcCentre, Obj.efcCode, Obj.efcGain, Obj.efcInitCode, Obj.efcLimitTicks, Obj.efcLimited, Obj.efcMinmax, Obj.efcSlew, Obj.efcState, Obj.modeCurrent, ne_eq]; omega)
  · with_reducible apply Halted.setO
    · with_reducible apply Halted.setO
      · with_reducible exact (by assumption)
      · (simp only [Obj.efcCentre, Obj.efcCode, Obj.efcGain, Obj.efcInitCode, Obj.efcLimitTicks, Obj.efcLimited, Obj.efcMinmax, Obj.efcSlew, Obj.efcState, Obj.modeCurrent, ne_eq]; omega)
    · (simp only [Obj.efcCentre, Obj.efcCode, Obj.efcGain, Obj.efcInitCode, Obj.efcLimitTicks, Obj.efcLimited, Obj.efcMinmax, Obj.efcSlew, Obj.efcState, Obj.modeCurrent, ne_eq]; omega)
  · with_reducible apply Halted.setO
    · with_reducible apply Halted.setO
      · with_reducible exact (by assumption)
      · (simp only [Obj.efcCentre, Obj.efcCode, Obj.efcGain, Obj.efcInitCode, Obj.efcLimitTicks, Obj.efcLimited, Obj.efcMinmax, Obj.efcSlew, Obj.efcState, Obj.modeCurrent, ne_eq]; omega)
    · (simp only [Obj.efcCentre, Obj.efcCode, Obj.efcGain, Obj.efcInitCode, Obj.efcLimitTicks, Obj.efcLimited, Obj.efcMinmax, Obj.efcSlew, Obj.efcState, Obj.modeCurrent, ne_eq]; omega)
  · with_reducible apply Halted.inc
    · with_reducible apply Halted.setF
      · with_reducible apply Halted.setO
        · with_reducible apply Halted.setO
          · with_reducible exact (by assumption)
          · (simp only [Obj.efcCentre, Obj.efcCode, Obj.efcGain, Obj.efcInitCode, Obj.efcLimitTicks, Obj.efcLimited, Obj.efcMinmax, Obj.efcSlew, Obj.efcState, Obj.modeCurrent, ne_eq]; omega)
        · (simp only [Obj.efcCentre, Obj.efcCode, Obj.efcGain, Obj.efcInitCode, Obj.efcLimitTicks, Obj.efcLimited, Obj.efcMinmax, Obj.efcSlew, Obj.efcState, Obj.modeCurrent, ne_eq]; omega)
      · (simp only [Obj.efcCentre, Obj.efcCode, Obj.efcGain, Obj.efcInitCode, Obj.efcLimitTicks, Obj.efcLimited, Obj.efcMinmax, Obj.efcSlew, Obj.efcState, Obj.modeCurrent, ne_eq]; omega)
    · (simp only [Obj.efcCentre, Obj.efcCode, Obj.efcGain, Obj.efcInitCode, Obj.efcLimitTicks, Obj.efcLimited, Obj.efcMinmax, Obj.efcSlew, Obj.efcState, Obj.modeCurrent, ne_eq]; omega)
  · with_reducible apply Halted.setF
    · with_reducible apply Halted.setO
      · with_reducible apply Halted.setO
        · with_reducible exact (by assumption)
        · (simp only [Obj.efcCentre, Obj.efcCode, Obj.efcGain, Obj.efcInitCode, Obj.efcLimitTicks, Obj.efcLimited, Obj.efcMinmax, Obj.efcSlew, Obj.efcState, Obj.modeCurrent, ne_eq]; omega)
      · (simp only [Obj.efcCentre, Obj.efcCode, Obj.efcGain, Obj.efcInitCode, Obj.efcLimitTicks, Obj.efcLimited, Obj.efcMinmax, Obj.efcSlew, Obj.efcState, Obj.modeCurrent, ne_eq]; omega)
    · (simp only [Obj.efcCentre, Obj.efcCode, Obj.efcGain, Obj.efcInitCode, Obj.efcLimitTicks, Obj.efcLimited, Obj.efcMinmax, Obj.efcSlew, Obj.efcState, Obj.modeCurrent, ne_eq]; omega)
  · with_reducible apply Halted.setF
    · with_reducible apply Halted.setO
      · with_reducible exact (by assumption)
      · (simp only [Obj.efcCentre, Obj.efcCode, Obj.efcGain, Obj.efcInitCode, Obj.efcLimitTicks, Obj.efcLimited, Obj.efcMinmax, Obj.efcSlew, Obj.efcState, Obj.modeCurrent, ne_eq]; omega)
    · (simp only [Obj.efcCentre, Obj.efcCode, Obj.efcGain, Obj.efcInitCode, Obj.efcLimitTicks, Obj.efcLimited, Obj.efcMinmax, Obj.efcSlew, Obj.efcState, Obj.modeCurrent, ne_eq]; omega)

theorem State.efcTick_halted (s : Sys2Proof.Machine.State) (a1 : Nat) (h : Halted s) : Halted (State.efcTick s a1) := by
  unfold State.efcTick
  dsimp only
  split
  · with_reducible exact State.efcBoundary_halted _ _ _ (by assumption)
  · with_reducible refine Halted.ite (State.efcBoundary_halted _ _ _ (by assumption)) (Halted.of (State.steerApplied_frame _ _ _)
                     (State.efcBoundary_halted _ _ _ (by assumption)) ?_)
    rfl

theorem State.rampBoundary_halted (s : Sys2Proof.Machine.State) (a1 : Nat) (h : Halted s) : Halted (State.rampBoundary s a1) := by
  unfold State.rampBoundary
  dsimp only
  split
  · with_reducible exact (by assumption)
  · with_reducible apply Halted.setF
    · with_reducible apply Halted.setO
      · with_reducible refine Halted.of (State.setOut_frame _ _ _) (by assumption) ?_
        rfl
      · (simp only [Obj.outRampActive, Obj.outRampOffset, Obj.modeCurrent, ne_eq]; omega)
    · (simp only [Obj.outRampActive, Obj.outRampOffset, Obj.modeCurrent, ne_eq]; omega)

theorem State.outDrive_halted (s : Sys2Proof.Machine.State) (a1 : Nat) (h : Halted s) : Halted (State.outDrive s a1) := by
  unfold State.outDrive
  dsimp only
  with_reducible refine Halted.ite (by assumption) (Halted.of (State.setOut_frame _ _ _) (State.rampBoundary_halted _ _ (by assumption)) ?_)
  rfl

theorem State.outBoundary_halted (s : Sys2Proof.Machine.State) (a1 : Nat) (h : Halted s) : Halted (State.outBoundary s a1) := by
  unfold State.outBoundary
  dsimp only
  with_reducible refine Halted.ite (State.outDrive_halted _ _ (by assumption)) ?_
  with_reducible apply Halted.setF
  · with_reducible exact State.outDrive_halted _ _ (by assumption)
  · (simp only [Obj.outUnverified, Obj.tpRole, Obj.modeCurrent, ne_eq]; omega)

theorem State.synceBoundary_halted (s : Sys2Proof.Machine.State) (a1 : Nat → Nat) (h : Halted s) : Halted (State.synceBoundary s a1) := by
  unfold State.synceBoundary
  dsimp only
  simp only [State.mk_make]
  with_reducible exact Halted.mk1 (Halted.ite (by assumption) (Halted.setN (by assumption) (by decide)))

theorem State.outputsAt_halted (s : Sys2Proof.Machine.State) (h : Halted s) : Halted (State.outputsAt s) := by
  unfold State.outputsAt
  dsimp only
  with_reducible exact State.synceBoundary_halted _ _ (Halted.foldl (fun _ _ _ => State.efcTick_halted _ _ (by assumption)) (Halted.foldl
                   (fun _ _ _ => State.outBoundary_halted _ _ (by assumption)) (by assumption)))

theorem State.pruneLine_halted (s : Sys2Proof.Machine.State) (a1 : Nat) (a2 : Bool) (h : Halted s) : Halted (State.pruneLine s a1 a2) := by
  unfold State.pruneLine
  dsimp only
  split
  · with_reducible exact (by assumption)
  · with_reducible refine Halted.ite (by assumption) (Halted.ite (Halted.setN (State.commitSession_halted _ _ _ _ (by assumption)) ?_)
                     (State.commitSession_halted _ _ _ _ (by assumption)))
    (simp only [Obj.ptpUnicastSessions, Obj.modeCurrent, ne_eq]; omega)

theorem State.servBoundary_halted (s : Sys2Proof.Machine.State) (h : Halted s) : Halted (State.servBoundary s) := by
  unfold State.servBoundary
  dsimp only
  simp only [State.mk_make]
  with_reducible refine Halted.mk1 (Halted.foldl (fun _ _ _ => Halted.ite (Halted.mk1 (by assumption)) (Halted.ite (Halted.mk1
                   (by assumption)) (by assumption))) (Halted.foldl (fun _ _ _ => ?_) (by assumption)))
  split
  · with_reducible exact Halted.ite (State.pruneLine_halted _ _ _ (by assumption)) (by assumption)
  · with_reducible exact (by assumption)

theorem State.serviceBoundary_halted (s : Sys2Proof.Machine.State) (h : Halted s) : Halted (State.serviceBoundary s) := by
  unfold State.serviceBoundary
  dsimp only
  simp only [State.mk_make]
  with_reducible refine Halted.ite (Halted.setN (Halted.ite (Halted.mk1 (Halted.ite (Halted.foldl (fun _ _ _ => Halted.ite ?_
                   (by assumption)) (by assumption)) (by assumption))) (Halted.of (State.hostEvent_frame _ _) ?_ ?_)) (by decide)) (Halted.ite (Halted.mk1
                   (Halted.ite (Halted.foldl (fun _ _ _ => Halted.ite ?_ (by assumption)) (by assumption)) (by assumption))) (Halted.of
                   (State.hostEvent_frame _ _) ?_ ?_))
  · with_reducible apply Halted.setO
    · with_reducible exact (by assumption)
    · (simp only [Obj.groveState, Obj.serviceAllowed, Obj.serviceAllowedTick, Obj.modeCurrent, ne_eq]; omega)
  · with_reducible apply Halted.setF
    · with_reducible refine Halted.mk1 (Halted.ite (Halted.foldl (fun _ _ _ => Halted.ite ?_ (by assumption)) (by assumption))
                       (by assumption))
      with_reducible apply Halted.setO
      · with_reducible exact (by assumption)
      · (simp only [Obj.groveState, Obj.serviceAllowed, Obj.serviceAllowedTick, Obj.modeCurrent, ne_eq]; omega)
    · with_reducible exact (by decide)
  · rfl
  · with_reducible apply Halted.setO
    · with_reducible exact (by assumption)
    · (simp only [Obj.groveState, Obj.serviceAllowed, Obj.serviceAllowedTick, Obj.modeCurrent, ne_eq]; omega)
  · with_reducible apply Halted.setF
    · with_reducible refine Halted.mk1 (Halted.ite (Halted.foldl (fun _ _ _ => Halted.ite ?_ (by assumption)) (by assumption))
                       (by assumption))
      with_reducible apply Halted.setO
      · with_reducible exact (by assumption)
      · (simp only [Obj.groveState, Obj.serviceAllowed, Obj.serviceAllowedTick, Obj.modeCurrent, ne_eq]; omega)
    · with_reducible exact (by decide)
  · rfl

theorem State.shuttleBoundary_halted (s : Sys2Proof.Machine.State) (h : Halted s) : Halted (State.shuttleBoundary s) := by
  unfold State.shuttleBoundary
  dsimp only
  simp only [State.mk_make]
  with_reducible refine Halted.foldl (fun _ _ _ => Halted.ite (Halted.ite ?_ (Halted.ite (by assumption) (Halted.mk1 (by assumption))))
                   (Halted.ite ?_ (Halted.ite (by assumption) (Halted.mk1 (by assumption))))) (Halted.mk1 (by assumption))
  · with_reducible apply Halted.setO
    · with_reducible exact Halted.ite (by assumption) (Halted.mk1 (by assumption))
    · (simp only [Obj.gladeState, Obj.groveState, Obj.memRetainEnable, Obj.memRetention, Obj.modeCurrent, ne_eq]; omega)
  · with_reducible apply Halted.setO
    · with_reducible exact Halted.ite (by assumption) (Halted.mk1 (by assumption))
    · (simp only [Obj.gladeState, Obj.groveState, Obj.memRetainEnable, Obj.memRetention, Obj.modeCurrent, ne_eq]; omega)

theorem State.countSessions_halted (s : Sys2Proof.Machine.State) (h : Halted s) : Halted (State.countSessions s) := by
  unfold State.countSessions
  with_reducible refine Halted.foldl (fun _ _ _ => Halted.setN (by assumption) ?_) (by assumption)
  (simp only [Obj.ptpUnicastSessions, Obj.modeCurrent, ne_eq]; omega)

theorem State.installSessions_halted (s : Sys2Proof.Machine.State) (h : Halted s) : Halted (State.installSessions s) := by
  unfold State.installSessions
  dsimp only
  simp only [State.mk_make]
  with_reducible exact Halted.ite (by assumption) (State.countSessions_halted _ (Halted.mk1 (by assumption)))

theorem State.releaseNow_halted (s : Sys2Proof.Machine.State) (a1 : Bool) (h : Halted s) : Halted (State.releaseNow s a1) := by
  unfold State.releaseNow
  dsimp only
  simp only [State.mk_make]
  with_reducible refine Halted.ite (Halted.of (State.keepShadow_frame _) (Halted.mk1 ?_) ?_) (Halted.mk1 ?_)
  · with_reducible apply Halted.inc
    · with_reducible exact State.twinEnter_halted _ _ (by assumption)
    · with_reducible exact (by decide)
  · rfl
  · with_reducible apply Halted.inc
    · with_reducible exact State.twinEnter_halted _ _ (by assumption)
    · with_reducible exact (by decide)

theorem State.ownerBoundary_halted (s : Sys2Proof.Machine.State) (h : Halted s) : Halted (State.ownerBoundary s) := by
  unfold State.ownerBoundary
  dsimp only
  simp only [State.mk_make]
  with_reducible refine Halted.ite (State.releaseNow_halted _ _ (Halted.ite (Halted.setN (by assumption) (by decide)) (by assumption))) ?_
  split
  · with_reducible exact Halted.ite (by assumption) (Halted.ite (Halted.setN (State.releaseNow_halted _ _ (by assumption)) (by decide))
                     (Halted.mk1 (Halted.setN (by assumption) (by decide))))
  · with_reducible exact Halted.ite (State.announce_halted _ _ (Halted.mk1 (by assumption))) (Halted.ite (State.announce_halted _ _
                     (Halted.mk1 (by assumption))) (Halted.mk1 (by assumption)))

theorem State.publishOffset_halted (s : Sys2Proof.Machine.State) (h : Halted s) : Halted (State.publishOffset s) := by
  unfold State.publishOffset
  dsimp only
  simp only [State.mk_make]
  with_reducible refine Halted.ite (Halted.setN (Halted.mk1 (by assumption)) (by decide)) (Halted.setN ?_ (by decide))
  with_reducible apply Halted.setO
  · with_reducible exact Halted.mk1 (by assumption)
  · with_reducible exact (by decide)

theorem State.takeNow_halted (s : Sys2Proof.Machine.State) (h : Halted s) : Halted (State.takeNow s) := by
  unfold State.takeNow
  dsimp only
  simp only [State.mk_make]
  with_reducible refine Halted.mk1 ?_
  with_reducible apply Halted.setF
  · with_reducible apply Halted.inc
    · with_reducible exact State.twinEnter_halted _ _ (by assumption)
    · with_reducible exact (by decide)
  · with_reducible exact (by decide)

theorem State.shadowBoundary_halted (s : Sys2Proof.Machine.State) (h : Halted s) : Halted (State.shadowBoundary s) := by
  unfold State.shadowBoundary
  dsimp only
  simp only [State.mk_make]
  with_reducible refine Halted.ite (State.takeNow_halted _ (by assumption)) (Halted.ite (State.twinEnter_halted _ _ ?_) (Halted.ite
                   (State.twinEnter_halted _ _ ?_) ?_))
  · with_reducible apply Halted.setF
    · with_reducible exact Halted.mk1 (by assumption)
    · with_reducible exact (by decide)
  · with_reducible apply Halted.setF
    · with_reducible exact Halted.mk1 (by assumption)
    · with_reducible exact (by decide)
  · with_reducible apply Halted.setF
    · with_reducible exact Halted.mk1 (by assumption)
    · with_reducible exact (by decide)

theorem State.yethalDown_halted (s : Sys2Proof.Machine.State) (h : Halted s) : Halted (State.yethalDown s) := by
  unfold State.yethalDown
  with_reducible exact State.twinAlone_halted _ (State.faulted_halted _ _ _ _ (by assumption))

theorem State.measureSkew_halted (s : Sys2Proof.Machine.State) (a1 : Nat) (a2 : List ((Nat × Nat) × Nat × Nat)) (a3 : Nat) (h : Halted s) : Halted (State.measureSkew s a1 a2 a3) := by
  unfold State.measureSkew
  dsimp only
  with_reducible refine Halted.ite (Halted.ite ?_ (Halted.of (State.setPort_frame _ _ _) (by assumption) ?_)) (Halted.of
                   (State.setPort_frame _ _ _) (by assumption) ?_)
  · with_reducible apply Halted.setO
    · with_reducible refine Halted.of (State.setPort_frame _ _ _) (by assumption) ?_
      rfl
    · (simp only [Obj.tpSkewB, Obj.modeCurrent, ne_eq]; omega)
  · rfl
  · rfl

theorem State.stamperActive_halted (s : Sys2Proof.Machine.State) (a1 : Nat) (h : Halted s) : Halted (State.stamperActive s a1) := by
  unfold State.stamperActive
  with_reducible refine Halted.of (State.markRecal_frame _ _) (State.setStState_halted _ _ _ (by assumption)) ?_
  rfl

theorem State.calibrated_halted (s : Sys2Proof.Machine.State) (a1 : Nat) (a2 : List ((Nat × Nat) × Nat × Nat)) (h : Halted s) : Halted (State.calibrated s a1 a2) := by
  unfold State.calibrated
  dsimp only
  with_reducible exact State.stamperActive_halted _ _ (Halted.ite (State.measureSkew_halted _ _ _ _ (by assumption))
                   (State.measureSkew_halted _ _ _ _ (by assumption)))

theorem State.cancelOne_halted (s : Sys2Proof.Machine.State) (a1 : Nat) (a2 : Sys2Proof.Machine.RxFrame) (a3 : Sys2Proof.Octets) (a4 : Sys2Proof.Octets) (h : Halted s) : Halted (State.cancelOne s a1 a2 a3 a4).1 := by
  unfold State.cancelOne
  dsimp only
  split
  · with_reducible exact (by assumption)
  · split
    · with_reducible exact (by assumption)
    · with_reducible exact State.commitSession_halted _ _ _ _ (by assumption)

theorem State.discardEpoch_halted (s : Sys2Proof.Machine.State) (h : Halted s) : Halted (State.discardEpoch s) := by
  unfold State.discardEpoch
  dsimp only
  simp only [State.mk_make]
  with_reducible refine Halted.ite ?_ (by assumption)
  with_reducible apply Halted.inc
  · with_reducible exact Halted.mk1 (by assumption)
  · with_reducible exact (by decide)

theorem State.memberFault_halted (s : Sys2Proof.Machine.State) (a1 : Nat) (h : Halted s) : Halted (State.memberFault s a1) := by
  unfold State.memberFault
  dsimp only
  with_reducible refine Halted.ite (by assumption) (State.faulted_halted _ _ _ _ (Halted.setN ?_ (by decide)))
  with_reducible apply Halted.setO
  · with_reducible exact (by assumption)
  · (simp only [Obj.ensActiveCount, Obj.ensMemberState, Obj.modeCurrent, ne_eq]; omega)

end Sys2Proof.Machine
end

