-- ==== Sys2Proof/Laws/Halts4.lean ====
section
/-!
SUPPORT. HALTED under operations, part 4.
-/

namespace Sys2Proof.Machine

set_option linter.unusedSimpArgs false

theorem State.slotMember_halted (s : Sys2Proof.Machine.State) (a1 : Sys2Proof.Machine.EpochWork) (a2 : Nat) (h : Halted s) : Halted (State.slotMember s a1 a2) := by
  unfold State.slotMember
  dsimp only
  with_reducible refine Halted.ite (by assumption) ?_
  split
  · with_reducible refine Halted.of (State.setWork_frame _ _) (by assumption) ?_
    rfl
  · with_reducible refine Halted.ite (by assumption) (Halted.ite (State.memberFault_halted _ _ (by assumption)) (Halted.ite (Halted.of
                     (State.setWork_frame _ _) (by assumption) ?_) (Halted.of (State.setWork_frame _ _) (by assumption) ?_)))
    · rfl
    · rfl

theorem State.slotPairs_halted (s : Sys2Proof.Machine.State) (a1 : Sys2Proof.Machine.EpochWork) (a2 : Nat) (h : Halted s) : Halted (State.slotPairs s a1 a2) := by
  unfold State.slotPairs
  dsimp only
  with_reducible refine Halted.ite (by assumption) ?_
  split
  · with_reducible exact (by assumption)
  · with_reducible refine Halted.foldl (fun _ _ _ => ?_) (by assumption)
    split
    · with_reducible exact (by assumption)
    · split
      · with_reducible exact (by assumption)
      · with_reducible refine Halted.ite (State.memberFault_halted _ _ (State.memberFault_halted _ _ (by assumption))) (Halted.ite
                         (Halted.of (State.setWork_frame _ _) (by assumption) ?_) (Halted.of (State.setWork_frame _ _) (by assumption) ?_))
        · rfl
        · rfl

theorem State.planeSaturated_halted (s : Sys2Proof.Machine.State) (h : Halted s) : Halted (State.planeSaturated s) := by
  unfold State.planeSaturated
  dsimp only
  simp only [State.mk_make]
  with_reducible refine Halted.ite (by assumption) (Halted.of (State.forceUnbounded_frame _) (State.faulted_halted _ _ _ _ (Halted.mk1
                   (by assumption))) ?_)
  rfl

theorem State.takeSaturation_halted (s : Sys2Proof.Machine.State) (h : Halted s) : Halted (State.takeSaturation s) := by
  unfold State.takeSaturation
  dsimp only
  split
  · with_reducible exact (by assumption)
  · with_reducible refine Halted.foldl (fun _ _ _ => Halted.ite (State.planeSaturated_halted _ (by assumption)) (State.memberFault_halted _
                     _ (by assumption))) (Halted.of (State.setWork_frame _ _) (by assumption) ?_)
    rfl

theorem State.ensembleSlot_halted (s : Sys2Proof.Machine.State) (h : Halted s) : Halted (State.ensembleSlot s) := by
  unfold State.ensembleSlot
  dsimp only
  with_reducible refine Halted.ite (Halted.of (State.slot0_frame _) (by assumption) ?_) ?_
  · rfl
  · split
    · with_reducible exact (by assumption)
    · with_reducible refine State.takeSaturation_halted _ (Halted.ite (Halted.ite ?_ (Halted.of (State.slotPropagate_frame _ _ _)
                       (by assumption) ?_)) (Halted.ite (Halted.of (State.slotReference_frame _ _) (by assumption) ?_) (Halted.ite (Halted.ite
                       (State.slotPairs_halted _ _ _ (State.slotMember_halted _ _ _ (by assumption))) (State.slotMember_halted _ _ _ (by assumption)))
                       (Halted.ite (Halted.of (State.slot35_frame _) (by assumption) ?_) (Halted.ite (Halted.of (State.setWork_frame _ _) (by assumption) ?_)
                       (by assumption))))))
      · split
        · with_reducible refine Halted.of (State.slotPropagate_frame _ _ _) (Halted.of (State.takePlaneStep_frame _ _) (by assumption) ?_)
                           ?_
          · rfl
          · rfl
        · with_reducible refine Halted.of (State.takePlaneStep_frame _ _) (by assumption) ?_
          rfl
      · rfl
      · rfl
      · rfl
      · rfl

theorem State.publishCoast_halted (s : Sys2Proof.Machine.State) (h : Halted s) : Halted (State.publishCoast s) := by
  unfold State.publishCoast
  with_reducible exact Halted.setN (by assumption) (by decide)

theorem State.requestFirst_halted (s : Sys2Proof.Machine.State) (h : Halted s) : Halted (State.requestFirst s) := by
  unfold State.requestFirst
  dsimp only
  simp only [State.mk_make]
  with_reducible exact Halted.ite (State.planeSaturated_halted _ (Halted.mk1 (by assumption))) (Halted.mk1 (by assumption))

theorem State.recordReturn_halted (s : Sys2Proof.Machine.State) (a1 : Int) (h : Halted s) : Halted (State.recordReturn s a1) := by
  unfold State.recordReturn
  dsimp only
  simp only [State.mk_make]
  split
  · with_reducible exact (by assumption)
  · with_reducible refine Halted.ite ?_ ?_
    · with_reducible apply Halted.inc
      · with_reducible apply Halted.setO
        · with_reducible exact Halted.mk1 (by assumption)
        · with_reducible exact (by decide)
      · with_reducible exact (by decide)
    · with_reducible apply Halted.setO
      · with_reducible exact Halted.mk1 (by assumption)
      · with_reducible exact (by decide)

theorem State.servo_halted (s : Sys2Proof.Machine.State) (a1 : Nat) (a2 : Int) (h : Halted s) : Halted (State.servo s a1 a2) := by
  unfold State.servo
  dsimp only
  simp only [State.mk_make]
  with_reducible refine Halted.ite (State.planeSaturated_halted _ (Halted.mk1 (Halted.ite ?_ ?_))) (Halted.mk1 (Halted.ite ?_ ?_))
  · with_reducible apply Halted.setO
    · with_reducible apply Halted.setO
      · with_reducible exact (by assumption)
      · with_reducible exact (by decide)
    · with_reducible exact (by decide)
  · with_reducible apply Halted.inc
    · with_reducible apply Halted.setO
      · with_reducible apply Halted.setO
        · with_reducible exact (by assumption)
        · with_reducible exact (by decide)
      · with_reducible exact (by decide)
    · with_reducible exact (by decide)
  · with_reducible apply Halted.setO
    · with_reducible apply Halted.setO
      · with_reducible exact (by assumption)
      · with_reducible exact (by decide)
    · with_reducible exact (by decide)
  · with_reducible apply Halted.inc
    · with_reducible apply Halted.setO
      · with_reducible apply Halted.setO
        · with_reducible exact (by assumption)
        · with_reducible exact (by decide)
      · with_reducible exact (by decide)
    · with_reducible exact (by decide)

theorem State.servoTick_halted (s : Sys2Proof.Machine.State) (h : Halted s) : Halted (State.servoTick s) := by
  unfold State.servoTick
  dsimp only
  simp only [State.mk_make]
  with_reducible refine Halted.ite ?_ (Halted.ite (State.servo_halted _ _ _ ?_) (Halted.ite ?_ (Halted.mk1 (by assumption))))
  · split
    · with_reducible exact Halted.ite (State.servo_halted _ _ _ (Halted.ite (State.recordReturn_halted _ _ (Halted.mk1 (by assumption)))
                       (Halted.mk1 (by assumption)))) (Halted.mk1 (by assumption))
    · with_reducible exact Halted.mk1 (by assumption)
  · with_reducible apply Halted.setO
    · with_reducible exact Halted.mk1 (by assumption)
    · with_reducible exact (by decide)
  · split
    · with_reducible exact State.servo_halted _ _ _ (State.recordReturn_halted _ _ (Halted.mk1 (by assumption)))
    · with_reducible exact Halted.mk1 (by assumption)

theorem State.canopyInputs_halted (s : Sys2Proof.Machine.State) (a1 : Sys2Proof.Machine.TwinInputs) (h : Halted s) : Halted (State.canopyInputs s a1) := by
  unfold State.canopyInputs
  dsimp only
  with_reducible refine State.canopyBoundary_halted _ (Halted.of (State.takeSwitched_frame _) ?_ ?_)
  · split
    · with_reducible refine Halted.of (State.canopyStepped_frame _ _ _) (Halted.ite (Halted.of (State.unanchor_frame _) (Halted.foldl (fun _
                       _ _ => Halted.of (State.steerApplied_frame _ _ _) (by assumption) ?_) (Halted.of (State.takeLength_frame _ _ _) (by assumption) ?_))
                       ?_) (Halted.foldl (fun _ _ _ => Halted.of (State.steerApplied_frame _ _ _) (by assumption) ?_) (Halted.of (State.takeLength_frame _ _
                       _) (by assumption) ?_))) ?_
      · rfl
      · rfl
      · rfl
      · rfl
      · rfl
      · rfl
    · with_reducible refine Halted.ite (Halted.of (State.unanchor_frame _) (Halted.foldl (fun _ _ _ => Halted.of (State.steerApplied_frame _
                       _ _) (by assumption) ?_) (Halted.of (State.takeLength_frame _ _ _) (by assumption) ?_)) ?_) (Halted.foldl (fun _ _ _ => Halted.of
                       (State.steerApplied_frame _ _ _) (by assumption) ?_) (Halted.of (State.takeLength_frame _ _ _) (by assumption) ?_))
      · rfl
      · rfl
      · rfl
      · rfl
      · rfl
  · rfl

theorem State.holdoverMode_halted (s : Sys2Proof.Machine.State) (a1 : Sys2Proof.Machine.TwinInputs) (a2 : Bool) (h : Halted s) : Halted (State.holdoverMode s a1 a2) := by
  unfold State.holdoverMode
  with_reducible refine Halted.of (State.holdBegins_frame _) (Halted.of (State.holdNow_frame _) (Halted.ite (State.enterHoldover_halted _ _
                   (by assumption)) (Halted.ite (State.leaveHoldover_halted _ _ (by assumption)) (by assumption))) ?_) ?_
  · rfl
  · rfl

theorem State.canopyUpdate_halted (s : Sys2Proof.Machine.State) (h : Halted s) : Halted (State.canopyUpdate s) := by
  unfold State.canopyUpdate
  dsimp only
  simp only [State.mk_make]
  with_reducible refine Halted.of (State.coreBound_frame _) (State.publishCoast_halted _ (State.ensembleSlot_halted _
                   (State.servoTick_halted _ (Halted.ite (State.requestFirst_halted _ (Halted.of (State.takeObservations_frame _) (Halted.mk1
                   (by assumption)) ?_)) (Halted.of (State.takeObservations_frame _) (Halted.mk1 (by assumption)) ?_))))) ?_
  · rfl
  · rfl
  · rfl

theorem State.canopyTick_halted (s : Sys2Proof.Machine.State) (a1 : Sys2Proof.Machine.TwinInputs) (h : Halted s) : Halted (State.canopyTick s a1) := by
  unfold State.canopyTick
  dsimp only
  with_reducible refine Halted.ite (State.discardEpoch_halted _ (Halted.of (State.coastBound_frame _) (State.holdoverMode_halted _ _ _
                   (State.canopyInputs_halted _ _ (by assumption))) ?_)) (State.canopyUpdate_halted _ (State.holdoverMode_halted _ _ _
                   (State.canopyInputs_halted _ _ (by assumption))))
  rfl

theorem State.capGap_halted (s : Sys2Proof.Machine.State) (a1 : Nat) (a2 : Nat) (a3 : Nat) (h : Halted s) : Halted (State.capGap s a1 a2 a3) := by
  unfold State.capGap
  dsimp only
  with_reducible apply Halted.addN
  · with_reducible apply Halted.inc
    · with_reducible refine Halted.of (State.toHost_frame _ _) (by assumption) ?_
      rfl
    · with_reducible exact (by decide)
  · with_reducible exact (by decide)

theorem State.captureCopy_halted (s : Sys2Proof.Machine.State) (a1 : Bool) (h : Halted s) : Halted (State.captureCopy s a1) := by
  unfold State.captureCopy
  dsimp only
  simp only [State.mk_make]
  with_reducible refine Halted.ite (by assumption) (Halted.ite ?_ ?_)
  · split
    · with_reducible exact Halted.ite (Halted.mk1 (State.capGap_halted _ _ _ _ (by assumption))) (by assumption)
    · with_reducible exact (by assumption)
  · split
    · with_reducible refine State.showRing_halted _ ?_
      split
      · with_reducible exact Halted.ite (Halted.mk1 (State.capGap_halted _ _ _ _ (by assumption))) (by assumption)
      · with_reducible exact (by assumption)
    · with_reducible refine Halted.ite (State.showRing_halted _ ?_) (State.showRing_halted _ (Halted.mk1 (Halted.ite (State.capGap_halted _
                       _ _ _ ?_) (Halted.of (State.toHost_frame _ _) ?_ ?_))))
      · split
        · with_reducible exact Halted.ite (Halted.mk1 (State.capGap_halted _ _ _ _ (by assumption))) (by assumption)
        · with_reducible exact (by assumption)
      · split
        · with_reducible exact Halted.ite (Halted.mk1 (State.capGap_halted _ _ _ _ (by assumption))) (by assumption)
        · with_reducible exact (by assumption)
      · split
        · with_reducible exact Halted.ite (Halted.mk1 (State.capGap_halted _ _ _ _ (by assumption))) (by assumption)
        · with_reducible exact (by assumption)
      · rfl

theorem State.captureWrite_halted (s : Sys2Proof.Machine.State) (a1 : Nat) (a2 : Nat) (h : Halted s) : Halted (State.captureWrite s a1 a2) := by
  unfold State.captureWrite
  dsimp only
  simp only [State.mk_make]
  with_reducible refine Halted.ite (Halted.ite (by assumption) (Halted.of (State.setReg_frame _ _ _ _) (by assumption) ?_)) (Halted.ite
                   (Halted.ite (by assumption) (Halted.of (State.setReg_frame _ _ _ _) (by assumption) ?_)) (Halted.ite (Halted.of (State.setReg_frame _ _ _
                   _) (by assumption) ?_) (Halted.ite (Halted.ite (State.showRing_halted _ (Halted.mk1 (Halted.of (State.setReg_frame _ _ _ _) (Halted.of
                   (State.setReg_frame _ _ _ _) (Halted.of (State.setReg_frame _ _ _ _) (by assumption) ?_) ?_) ?_))) (State.showRing_halted _ (Halted.of
                   (State.setReg_frame _ _ _ _) (by assumption) ?_))) (Halted.ite (Halted.ite (Halted.of (State.setReg_frame _ _ _ _) (Halted.of
                   (State.setReg_frame _ _ _ _) (Halted.of (State.setReg_frame _ _ _ _) (by assumption) ?_) ?_) ?_) (Halted.ite ?_ (Halted.of
                   (State.setReg_frame _ _ _ _) (by assumption) ?_))) (by assumption)))))
  · rfl
  · rfl
  · rfl
  · rfl
  · rfl
  · rfl
  · rfl
  · rfl
  · rfl
  · rfl
  · with_reducible apply Halted.setO
    · with_reducible refine Halted.mk1 (Halted.of (State.setReg_frame _ _ _ _) (by assumption) ?_)
      rfl
    · with_reducible exact (by decide)
  · rfl

theorem State.chanDone_halted (s : Sys2Proof.Machine.State) (a1 : Nat) (a2 : Nat) (a3 : Sys2Proof.Octets) (h : Halted s) : Halted (State.chanDone s a1 a2 a3) := by
  unfold State.chanDone
  dsimp only
  with_reducible refine Halted.ite (State.setChan__halted _ _ _ (by assumption)) (Halted.ite (Halted.of (State.vector_frame _ _ _) ?_ ?_)
                   ?_)
  · with_reducible apply Halted.inc
    · with_reducible exact State.setChan__halted _ _ _ (by assumption)
    · (simp only [Obj.mbxMessages, Obj.modeCurrent, ne_eq]; omega)
  · rfl
  · with_reducible apply Halted.inc
    · with_reducible exact State.setChan__halted _ _ _ (by assumption)
    · (simp only [Obj.mbxMessages, Obj.modeCurrent, ne_eq]; omega)

theorem State.reply_halted (s : Sys2Proof.Machine.State) (a1 : Sys2Proof.Machine.MsgSource) (a2 : Nat) (a3 : Sys2Proof.Octets) (h : Halted s) : Halted (State.reply s a1 a2 a3) := by
  unfold State.reply
  dsimp only
  simp only [State.mk_make]
  split
  · with_reducible exact State.chanDone_halted _ _ _ _ (by assumption)
  · with_reducible exact Halted.mk1 (by assumption)
  · with_reducible refine Halted.of (State.enqueue_frame _ _ _) ?_ ?_
    · with_reducible apply Halted.inc
      · with_reducible exact Halted.mk1 (by assumption)
      · with_reducible exact (by decide)
    · rfl
  · with_reducible exact Halted.mk1 (by assumption)

theorem State.vaultAnswer_halted (s : Sys2Proof.Machine.State) (a1 : Sys2Proof.Machine.VaultOp) (a2 : Sys2Proof.Machine.VaultMsg) (a3 : Nat) (a4 : Sys2Proof.Octets) (h : Halted s) : Halted (State.vaultAnswer s a1 a2 a3 a4) := by
  unfold State.vaultAnswer
  with_reducible refine State.reply_halted _ _ _ _ ?_
  with_reducible apply Halted.inc
  · with_reducible exact (by assumption)
  · with_reducible exact (by decide)

theorem State.chalIssue_halted (s : Sys2Proof.Machine.State) (a1 : Sys2Proof.Machine.VaultMsg) (h : Halted s) : Halted (State.chalIssue s a1) := by
  unfold State.chalIssue
  dsimp only
  simp only [State.mk_make]
  with_reducible refine Halted.ite (State.vaultAnswer_halted _ _ _ _ _ (by assumption)) (Halted.ite (State.vaultAnswer_halted _ _ _ _ _
                   (by assumption)) (Halted.ite (State.vaultAnswer_halted _ _ _ _ _ (by assumption)) (State.vaultAnswer_halted _ _ _ _ _ ?_)))
  with_reducible apply Halted.inc
  · with_reducible refine Halted.mk1 (Halted.of (State.drew_frame _) (by assumption) ?_)
    rfl
  · with_reducible exact (by decide)

theorem State.pairProved_halted (s : Sys2Proof.Machine.State) (a1 : Sys2Proof.Machine.VaultMsg) (a2 : Nat) (h : Halted s) : Halted (State.pairProved s a1 a2) := by
  unfold State.pairProved
  dsimp only
  simp only [State.mk_make]
  with_reducible exact Halted.ite (Halted.mk1 (Halted.setN (by assumption) (by decide))) (by assumption)

theorem State.chalRespond_halted (s : Sys2Proof.Machine.State) (a1 : Sys2Proof.Machine.VaultMsg) (h : Halted s) : Halted (State.chalRespond s a1) := by
  unfold State.chalRespond
  dsimp only
  simp only [State.mk_make]
  split
  · with_reducible refine Halted.ite (State.vaultAnswer_halted _ _ _ _ _ ?_) (State.vaultAnswer_halted _ _ _ _ _ (by assumption))
    with_reducible apply Halted.inc
    · with_reducible exact (by assumption)
    · with_reducible exact (by decide)
  · with_reducible refine Halted.ite (State.vaultAnswer_halted _ _ _ _ _ ?_) (Halted.ite (State.vaultAnswer_halted _ _ _ _ _ ?_) (Halted.ite
                     (State.pairProved_halted _ _ _ (State.vaultAnswer_halted _ _ _ _ _ ?_)) (State.vaultAnswer_halted _ _ _ _ _ ?_)))
    · with_reducible apply Halted.inc
      · with_reducible exact Halted.mk1 (by assumption)
      · with_reducible exact (by decide)
    · with_reducible apply Halted.inc
      · with_reducible exact Halted.mk1 (by assumption)
      · with_reducible exact (by decide)
    · with_reducible apply Halted.inc
      · with_reducible exact Halted.mk1 (by assumption)
      · with_reducible exact (by decide)
    · with_reducible apply Halted.inc
      · with_reducible exact Halted.mk1 (by assumption)
      · with_reducible exact (by decide)

theorem State.chanBegin_halted (s : Sys2Proof.Machine.State) (a1 : Nat) (h : Halted s) : Halted (State.chanBegin s a1) := by
  unfold State.chanBegin
  dsimp only
  with_reducible refine Halted.ite (by assumption) ?_
  split
  · with_reducible refine State.chanEnter_halted _ _ _ (Halted.of (State.setChan_frame _ _ _) (by assumption) ?_)
    rfl
  · with_reducible exact Halted.ite (by assumption) (State.chanEnter_halted _ _ _ (by assumption))

theorem State.chanAssignNow_halted (s : Sys2Proof.Machine.State) (a1 : Nat) (a2 : Nat × Nat × Nat × Nat) (h : Halted s) : Halted (State.chanAssignNow s a1 a2) := by
  unfold State.chanAssignNow
  dsimp only
  with_reducible refine Halted.ite (Halted.of (State.setBlob_frame _ _ _) (State.chanEnter_halted _ _ _ (Halted.of (State.setChan_frame _ _
                   _) (by assumption) ?_)) ?_) (State.chanBegin_halted _ _ (Halted.of (State.setBlob_frame _ _ _) (State.chanEnter_halted _ _ _ (Halted.of
                   (State.setChan_frame _ _ _) (by assumption) ?_)) ?_))
  · rfl
  · rfl
  · rfl
  · rfl

theorem State.chanEpoch_halted (s : Sys2Proof.Machine.State) (a1 : Nat) (h : Halted s) : Halted (State.chanEpoch s a1) := by
  unfold State.chanEpoch
  dsimp only
  split
  · with_reducible refine State.chanAssignNow_halted _ _ _ (Halted.of (State.setChan_frame _ _ _) (by assumption) ?_)
    rfl
  · with_reducible refine Halted.ite (Halted.ite (Halted.ite (by assumption) (Halted.of (State.setChan_frame _ _ _) (by assumption) ?_))
                     (State.chanBegin_halted _ _ (Halted.ite (by assumption) (Halted.of (State.setChan_frame _ _ _) (by assumption) ?_)))) (Halted.of
                     (State.setChan_frame _ _ _) (Halted.of (State.setChan_frame _ _ _) (Halted.ite ?_ (Halted.of (State.setChan_frame _ _ _) (Halted.ite
                     (Halted.of (State.chanAdvance_frame _ _ _) (by assumption) ?_) (by assumption)) ?_)) ?_) ?_)
    · rfl
    · rfl
    · with_reducible apply Halted.inc
      · with_reducible refine Halted.of (State.setChan_frame _ _ _) (Halted.ite (Halted.of (State.chanAdvance_frame _ _ _) (by assumption)
                         ?_) (by assumption)) ?_
        · rfl
        · rfl
      · (simp only [Obj.chSlips, Obj.modeCurrent, ne_eq]; omega)
    · rfl
    · rfl
    · rfl
    · rfl

theorem State.chanResets_halted (s : Sys2Proof.Machine.State) (h : Halted s) : Halted (State.chanResets s) := by
  unfold State.chanResets
  dsimp only
  simp only [State.mk_make]
  with_reducible refine Halted.foldl (fun _ _ _ => Halted.ite (by assumption) (Halted.ite (Halted.ite (Halted.of (State.vector_frame _ _ _)
                   ?_ ?_) ?_) (State.setChan__halted _ _ _ (by assumption)))) (by assumption)
  · with_reducible apply Halted.inc
    · with_reducible exact State.setChan__halted _ _ _ (Halted.mk1 (by assumption))
    · (simp only [Obj.mbxAbandoned, Obj.modeCurrent, ne_eq]; omega)
  · rfl
  · with_reducible apply Halted.inc
    · with_reducible exact State.setChan__halted _ _ _ (Halted.mk1 (by assumption))
    · (simp only [Obj.mbxAbandoned, Obj.modeCurrent, ne_eq]; omega)

theorem State.loadCosts_halted (s : Sys2Proof.Machine.State) (a1 : List Nat) (h : Halted s) : Halted (State.loadCosts s a1) := by
  unfold State.loadCosts
  with_reducible refine Halted.foldl (fun _ _ _ => Halted.setN (by assumption) ?_) (by assumption)
  (simp only [Obj.costEngineFixed, Obj.modeCurrent, ne_eq]; omega)

theorem State.checkImages_halted (s : Sys2Proof.Machine.State) (a1 : Sys2Proof.Machine.BootRead) (h : Halted s) : Halted (State.checkImages s a1) := by
  unfold State.checkImages
  dsimp only
  simp only [State.mk_make]
  split
  · with_reducible exact State.faulted_halted _ _ _ _ (by assumption)
  · with_reducible refine Halted.ite (State.faulted_halted _ _ _ _ ?_) (Halted.ite (State.faulted_halted _ _ _ _ (Halted.of
                     (State.extendDigest_frame _ _) ?_ ?_)) (Halted.mk1 (State.loadCosts_halted _ _ (Halted.of (State.extendDigest_frame _ _) (Halted.of
                     (State.extendDigest_frame _ _) ?_ ?_) ?_))))
    · with_reducible apply Halted.setO
      · with_reducible refine Halted.of (State.extendDigest_frame _ _) (Halted.setN (by assumption) (by decide)) ?_
        rfl
      · with_reducible exact (by decide)
    · with_reducible apply Halted.setO
      · with_reducible refine Halted.of (State.extendDigest_frame _ _) (Halted.setN (by assumption) (by decide)) ?_
        rfl
      · with_reducible exact (by decide)
    · rfl
    · with_reducible apply Halted.setO
      · with_reducible refine Halted.of (State.extendDigest_frame _ _) (Halted.setN (by assumption) (by decide)) ?_
        rfl
      · with_reducible exact (by decide)
    · rfl
    · rfl

theorem State.clientBackoff_halted (s : Sys2Proof.Machine.State) (a1 : Nat) (h : Halted s) : Halted (State.clientBackoff s a1) := by
  unfold State.clientBackoff
  with_reducible refine Halted.of (State.clientInvalid_frame _ _) (State.clientEnter_halted _ _ _ (by assumption)) ?_
  rfl

theorem State.clientAnnounce_halted (s : Sys2Proof.Machine.State) (a1 : Nat) (a2 : Sys2Proof.Octets) (h : Halted s) : Halted (State.clientAnnounce s a1 a2) := by
  unfold State.clientAnnounce
  dsimp only
  with_reducible refine Halted.ite (Halted.ite (State.clientBackoff_halted _ _ (by assumption)) (by assumption)) (Halted.ite (Halted.of
                   (State.setClient_frame _ _ _) (Halted.setN (Halted.ite (Halted.of (State.setClient_frame _ _ _) (by assumption) ?_) (Halted.of
                   (State.clientInvalid_frame _ _) (Halted.of (State.setClient_frame _ _ _) (by assumption) ?_) ?_)) ?_) ?_) (Halted.ite (Halted.of
                   (State.setClient_frame _ _ _) (by assumption) ?_) (Halted.of (State.clientInvalid_frame _ _) (Halted.of (State.setClient_frame _ _ _)
                   (by assumption) ?_) ?_)))
  · rfl
  · rfl
  · rfl
  · (simp only [Obj.ptpClientState, Obj.modeCurrent, ne_eq]; omega)
  · rfl
  · rfl
  · rfl
  · rfl

theorem State.clientExchange_halted (s : Sys2Proof.Machine.State) (a1 : Nat) (a2 : Int) (a3 : Int) (a4 : Int) (a5 : Int) (a6 : Option Nat) (h : Halted s) : Halted (State.clientExchange s a1 a2 a3 a4 a5 a6) := by
  unfold State.clientExchange
  dsimp only
  with_reducible refine Halted.of (State.refArrive_frame _ _) (Halted.of (State.setRef_frame _ _ _) ?_ ?_) ?_
  · with_reducible apply Halted.inc
    · with_reducible apply Halted.setO
      · with_reducible apply Halted.setO
        · with_reducible exact (by assumption)
        · (simp only [Obj.boundCalId, Obj.npDelayAsymPs, Obj.ptpClientExchanges, Obj.ptpClientMpd, Obj.ptpClientOffset, Obj.refSysPs, Obj.modeCurrent, ne_eq]; omega)
      · (simp only [Obj.boundCalId, Obj.npDelayAsymPs, Obj.ptpClientExchanges, Obj.ptpClientMpd, Obj.ptpClientOffset, Obj.refSysPs, Obj.modeCurrent, ne_eq]; omega)
    · (simp only [Obj.boundCalId, Obj.npDelayAsymPs, Obj.ptpClientExchanges, Obj.ptpClientMpd, Obj.ptpClientOffset, Obj.refSysPs, Obj.modeCurrent, ne_eq]; omega)
  · rfl
  · rfl

theorem State.clientGrants_halted (s : Sys2Proof.Machine.State) (a1 : Nat) (a2 : Sys2Proof.Octets) (h : Halted s) : Halted (State.clientGrants s a1 a2) := by
  unfold State.clientGrants
  dsimp only
  with_reducible refine Halted.ite (Halted.ite (State.clientBackoff_halted _ _ (by assumption)) (by assumption)) (Halted.ite (Halted.of
                   (State.setClient_frame _ _ _) (Halted.setN (Halted.of (State.setClient_frame _ _ _) (by assumption) ?_) ?_) ?_) (Halted.of
                   (State.setClient_frame _ _ _) (by assumption) ?_))
  · rfl
  · (simp only [Obj.ptpClientState, Obj.modeCurrent, ne_eq]; omega)
  · rfl
  · rfl

theorem State.clientRx_halted (s : Sys2Proof.Machine.State) (a1 : Nat) (a2 : Sys2Proof.Machine.RxFrame) (h : Halted s) : Halted (State.clientRx s a1 a2) := by
  unfold State.clientRx
  dsimp only
  with_reducible refine Halted.ite (Halted.of (State.clientInvalid_frame _ _) (by assumption) ?_) (Halted.ite (State.clientGrants_halted _ _
                   _ (by assumption)) (Halted.ite (State.clientAnnounce_halted _ _ _ (by assumption)) (Halted.ite (by assumption) (Halted.ite (Halted.ite
                   (Halted.of (State.setClient_frame _ _ _) (by assumption) ?_) ?_) (Halted.ite (Halted.ite (by assumption) ?_) (Halted.ite (Halted.ite
                   (by assumption) ?_) (by assumption)))))))
  · rfl
  · rfl
  · split
    · with_reducible refine Halted.of (State.setClient_frame _ _ _) (by assumption) ?_
      rfl
    · with_reducible apply Halted.inc
      · with_reducible exact (by assumption)
      · with_reducible exact (by decide)
  · split
    · with_reducible refine Halted.of (State.setClient_frame _ _ _) (by assumption) ?_
      rfl
    · with_reducible apply Halted.inc
      · with_reducible exact (by assumption)
      · with_reducible exact (by decide)
  · split
    · with_reducible apply Halted.inc
      · with_reducible exact (by assumption)
      · with_reducible exact (by decide)
    · with_reducible refine State.clientExchange_halted _ _ _ _ _ _ _ (Halted.of (State.setClient_frame _ _ _) (by assumption) ?_)
      rfl
    · with_reducible exact (by assumption)

theorem State.clockBack_halted (s : Sys2Proof.Machine.State) (a1 : Sys2Proof.Machine.ClockSource) (h : Halted s) : Halted (State.clockBack s a1) := by
  unfold State.clockBack
  with_reducible exact Halted.setN (by assumption) (by decide)

theorem State.stampTreeLost_halted (s : Sys2Proof.Machine.State) (h : Halted s) : Halted (State.stampTreeLost s) := by
  unfold State.stampTreeLost
  with_reducible refine Halted.foldl (fun _ _ _ => Halted.of (State.gateFault_frame _ _) (State.gapMarker_halted _ _ _ (by assumption)) ?_)
                   (by assumption)
  rfl

theorem State.stampersLost_halted (s : Sys2Proof.Machine.State) (h : Halted s) : Halted (State.stampersLost s) := by
  unfold State.stampersLost
  dsimp only
  simp only [State.mk_make]
  with_reducible refine Halted.mk1 (Halted.foldl (fun _ _ _ => Halted.of (State.setPort_frame _ _ _) (State.gapMarker_halted _ _ _
                   (State.portOff_halted _ _ (State.commitHeld_halted _ _ _ (by assumption)))) ?_) (by assumption))
  rfl

theorem State.lossReaction_halted (s : Sys2Proof.Machine.State) (a1 : Sys2Proof.Machine.ClockSource) (h : Halted s) : Halted (State.lossReaction s a1) := by
  unfold State.lossReaction
  dsimp only
  simp only [State.mk_make]
  split
  · split
    · with_reducible exact Halted.mk1 (State.boundLost_halted _ (State.stampersLost_halted _ (by assumption)))
    · with_reducible exact Halted.foldl (fun _ _ _ => State.macDown_halted _ _ (by assumption)) (by assumption)
    · with_reducible exact Halted.foldl (fun _ _ _ => State.macDown_halted _ _ (by assumption)) (by assumption)
    · with_reducible refine Halted.of (State.setRef_frame _ _ _) (State.gladeOff_halted _ (by assumption)) ?_
      rfl
    · with_reducible exact (by assumption)
  · with_reducible exact State.macDown_halted _ _ (by assumption)
  · with_reducible exact State.stampTreeLost_halted _ (by assumption)
  · with_reducible refine Halted.of (State.setRef_frame _ _ _) (by assumption) ?_
    rfl
  · with_reducible exact (by assumption)

theorem State.clockLost_halted (s : Sys2Proof.Machine.State) (a1 : Sys2Proof.Machine.ClockSource) (h : Halted s) : Halted (State.clockLost s a1) := by
  unfold State.clockLost
  dsimp only
  split
  · with_reducible refine State.faulted_halted _ _ _ _ (State.lossReaction_halted _ _ ?_)
    with_reducible apply Halted.inc
    · with_reducible exact Halted.setN (Halted.setN (by assumption) (by decide)) (by decide)
    · with_reducible exact (by decide)
  · with_reducible refine State.lossReaction_halted _ _ ?_
    with_reducible apply Halted.inc
    · with_reducible exact Halted.setN (Halted.setN (by assumption) (by decide)) (by decide)
    · with_reducible exact (by decide)

theorem State.clockReturned_halted (s : Sys2Proof.Machine.State) (a1 : Sys2Proof.Machine.ClockSource) (h : Halted s) : Halted (State.clockReturned s a1) := by
  unfold State.clockReturned
  dsimp only
  with_reducible exact Halted.ite (Halted.setN (State.clockBack_halted _ _ (by assumption)) (by decide)) (State.clockBack_halted _ _
                   (by assumption))

theorem State.refsUndone_halted (s : Sys2Proof.Machine.State) (h : Halted s) : Halted (State.refsUndone s) := by
  unfold State.refsUndone
  dsimp only
  simp only [State.mk_make]
  with_reducible refine Halted.foldl (fun _ _ _ => Halted.ite (by assumption) ?_) (Halted.mk1 (by assumption))
  with_reducible apply Halted.setO
  · with_reducible apply Halted.setO
    · with_reducible refine Halted.of (State.setRef_frame _ _ _) (by assumption) ?_
      rfl
    · (simp only [Obj.refBoundPs, Obj.refRandU, Obj.modeCurrent, ne_eq]; omega)
  · (simp only [Obj.refBoundPs, Obj.refRandU, Obj.modeCurrent, ne_eq]; omega)

theorem State.collectEngine_halted (s : Sys2Proof.Machine.State) (h : Halted s) : Halted (State.collectEngine s) := by
  unfold State.collectEngine
  dsimp only
  simp only [State.mk_make]
  split
  · with_reducible refine Halted.ite (by assumption) ?_
    split
    · with_reducible refine State.vaultAnswer_halted _ _ _ _ _ ?_
      split
      · with_reducible refine Halted.ite (Halted.of (State.setSlot_frame _ _ _) ?_ ?_) ?_
        · split
          · with_reducible refine Halted.of (State.fillSlot_frame _ _ _ _ _ _ _) ?_ ?_
            · with_reducible apply Halted.inc
              · with_reducible exact Halted.mk1 (by assumption)
              · split
                · with_reducible exact (by decide)
                · split
                  · with_reducible exact (by decide)
                  · (simp only [Obj.pkOutcomes, Obj.modeCurrent, ne_eq]; omega)
            · rfl
          · with_reducible apply Halted.inc
            · with_reducible exact Halted.mk1 (by assumption)
            · split
              · with_reducible exact (by decide)
              · split
                · with_reducible exact (by decide)
                · (simp only [Obj.pkOutcomes, Obj.modeCurrent, ne_eq]; omega)
        · rfl
        · split
          · with_reducible refine Halted.of (State.fillSlot_frame _ _ _ _ _ _ _) ?_ ?_
            · with_reducible apply Halted.inc
              · with_reducible exact Halted.mk1 (by assumption)
              · split
                · with_reducible exact (by decide)
                · split
                  · with_reducible exact (by decide)
                  · (simp only [Obj.pkOutcomes, Obj.modeCurrent, ne_eq]; omega)
            · rfl
          · with_reducible apply Halted.inc
            · with_reducible exact Halted.mk1 (by assumption)
            · split
              · with_reducible exact (by decide)
              · split
                · with_reducible exact (by decide)
                · (simp only [Obj.pkOutcomes, Obj.modeCurrent, ne_eq]; omega)
      · split
        · with_reducible refine Halted.of (State.fillSlot_frame _ _ _ _ _ _ _) ?_ ?_
          · with_reducible apply Halted.inc
            · with_reducible exact Halted.mk1 (by assumption)
            · split
              · with_reducible exact (by decide)
              · split
                · with_reducible exact (by decide)
                · (simp only [Obj.pkOutcomes, Obj.modeCurrent, ne_eq]; omega)
          · rfl
        · with_reducible apply Halted.inc
          · with_reducible exact Halted.mk1 (by assumption)
          · split
            · with_reducible exact (by decide)
            · split
              · with_reducible exact (by decide)
              · (simp only [Obj.pkOutcomes, Obj.modeCurrent, ne_eq]; omega)
    · split
      · with_reducible refine Halted.ite (Halted.of (State.setSlot_frame _ _ _) ?_ ?_) ?_
        · split
          · with_reducible refine Halted.of (State.fillSlot_frame _ _ _ _ _ _ _) ?_ ?_
            · with_reducible apply Halted.inc
              · with_reducible exact Halted.mk1 (by assumption)
              · split
                · with_reducible exact (by decide)
                · split
                  · with_reducible exact (by decide)
                  · (simp only [Obj.pkOutcomes, Obj.modeCurrent, ne_eq]; omega)
            · rfl
          · with_reducible apply Halted.inc
            · with_reducible exact Halted.mk1 (by assumption)
            · split
              · with_reducible exact (by decide)
              · split
                · with_reducible exact (by decide)
                · (simp only [Obj.pkOutcomes, Obj.modeCurrent, ne_eq]; omega)
        · rfl
        · split
          · with_reducible refine Halted.of (State.fillSlot_frame _ _ _ _ _ _ _) ?_ ?_
            · with_reducible apply Halted.inc
              · with_reducible exact Halted.mk1 (by assumption)
              · split
                · with_reducible exact (by decide)
                · split
                  · with_reducible exact (by decide)
                  · (simp only [Obj.pkOutcomes, Obj.modeCurrent, ne_eq]; omega)
            · rfl
          · with_reducible apply Halted.inc
            · with_reducible exact Halted.mk1 (by assumption)
            · split
              · with_reducible exact (by decide)
              · split
                · with_reducible exact (by decide)
                · (simp only [Obj.pkOutcomes, Obj.modeCurrent, ne_eq]; omega)
      · split
        · with_reducible refine Halted.of (State.fillSlot_frame _ _ _ _ _ _ _) ?_ ?_
          · with_reducible apply Halted.inc
            · with_reducible exact Halted.mk1 (by assumption)
            · split
              · with_reducible exact (by decide)
              · split
                · with_reducible exact (by decide)
                · (simp only [Obj.pkOutcomes, Obj.modeCurrent, ne_eq]; omega)
          · rfl
        · with_reducible apply Halted.inc
          · with_reducible exact Halted.mk1 (by assumption)
          · split
            · with_reducible exact (by decide)
            · split
              · with_reducible exact (by decide)
              · (simp only [Obj.pkOutcomes, Obj.modeCurrent, ne_eq]; omega)
  · with_reducible exact (by assumption)

theorem State.commitLate_halted (s : Sys2Proof.Machine.State) (a1 : Nat) (h : Halted s) : Halted (State.commitLate s a1) := by
  unfold State.commitLate
  dsimp only
  with_reducible refine Halted.foldl (fun _ _ _ => State.commitStamp_halted _ _ _ (by assumption)) (Halted.of (State.setPort_frame _ _ _)
                   (by assumption) ?_)
  rfl

theorem State.compareDigest_halted (s : Sys2Proof.Machine.State) (a1 : Sys2Proof.Machine.TwinInputs) (h : Halted s) : Halted (State.compareDigest s a1) := by
  unfold State.compareDigest
  dsimp only
  simp only [State.mk_make]
  with_reducible refine Halted.ite (by assumption) ?_
  split
  · with_reducible exact (by assumption)
  · with_reducible refine Halted.ite (by assumption) (Halted.ite (Halted.mk1 (by assumption)) (Halted.of (State.discardShadow_frame _)
                     (State.faulted_halted _ _ _ _ ?_) ?_))
    · with_reducible apply Halted.inc
      · with_reducible exact (by assumption)
      · with_reducible exact (by decide)
    · rfl

theorem State.detected_halted (s : Sys2Proof.Machine.State) (a1 : Nat) (a2 : Sys2Proof.Machine.Snapshot) (a3 : Int) (a4 : Nat) (h : Halted s) : Halted (State.detected s a1 a2 a3 a4) := by
  unfold State.detected
  dsimp only
  with_reducible refine State.chanEnter_halted _ _ _ (Halted.of (State.chanAdvance_frame _ _ _) (Halted.of (State.setChan_frame _ _ _)
                   (by assumption) ?_) ?_)
  · rfl
  · rfl

theorem State.confirmEnds_halted (s : Sys2Proof.Machine.State) (a1 : Nat) (a2 : Sys2Proof.Machine.Snapshot) (a3 : Int × Nat) (h : Halted s) : Halted (State.confirmEnds s a1 a2 a3) := by
  unfold State.confirmEnds
  dsimp only
  with_reducible refine Halted.ite (State.detected_halted _ _ _ _ _ ?_) ?_
  · with_reducible apply Halted.inc
    · with_reducible refine Halted.of (State.searchedIn_frame _ _ _) (by assumption) ?_
      rfl
    · with_reducible exact (by decide)
  · with_reducible apply Halted.inc
    · with_reducible refine Halted.of (State.setChan_frame _ _ _) (Halted.of (State.searchedIn_frame _ _ _) (by assumption) ?_) ?_
      · rfl
      · rfl
    · with_reducible exact (by decide)

theorem State.stepUnmeasured_halted (s : Sys2Proof.Machine.State) (h : Halted s) : Halted (State.stepUnmeasured s) := by
  unfold State.stepUnmeasured
  dsimp only
  simp only [State.mk_make]
  with_reducible refine Halted.mk1 (State.boundLost_halted _ ?_)
  with_reducible apply Halted.inc
  · with_reducible exact (by assumption)
  · with_reducible exact (by decide)

theorem State.connect_halted (s : Sys2Proof.Machine.State) (a1 : Nat) (a2 : Int) (a3 : Nat) (h : Halted s) : Halted (State.connect s a1 a2 a3) := by
  unfold State.connect
  dsimp only
  simp only [State.mk_make]
  split
  · with_reducible refine Halted.ite (Halted.mk1 (Halted.setN ?_ (by decide))) (State.stepUnmeasured_halted _ (Halted.mk1 (Halted.setN ?_
                     (by decide))))
    · with_reducible apply Halted.setO
      · with_reducible apply Halted.setO
        · with_reducible apply Halted.inc
          · with_reducible refine Halted.setN (Halted.of (State.chargeKept_frame _) (by assumption) ?_) (by decide)
            rfl
          · with_reducible exact (by decide)
        · with_reducible exact (by decide)
      · with_reducible exact (by decide)
    · with_reducible apply Halted.setO
      · with_reducible apply Halted.inc
        · with_reducible refine Halted.setN (Halted.of (State.chargeKept_frame _) (by assumption) ?_) (by decide)
          rfl
        · with_reducible exact (by decide)
      · with_reducible exact (by decide)
  · with_reducible refine State.stepUnmeasured_halted _ (Halted.mk1 (Halted.setN ?_ (by decide)))
    with_reducible apply Halted.setO
    · with_reducible apply Halted.inc
      · with_reducible refine Halted.setN (Halted.of (State.chargeKept_frame _) (by assumption) ?_) (by decide)
        rfl
      · with_reducible exact (by decide)
    · with_reducible exact (by decide)

theorem State.consistConflict_halted (s : Sys2Proof.Machine.State) (a1 : List (Nat × Nat)) (a2 : Nat → Nat → Nat × Nat) (h : Halted s) : Halted (State.consistConflict s a1 a2) := by
  unfold State.consistConflict
  dsimp only
  simp only [State.mk_make]
  with_reducible refine Halted.mk1 ?_
  with_reducible apply Halted.setF
  · with_reducible exact (by assumption)
  · with_reducible exact (by decide)

theorem State.consistency_halted (s : Sys2Proof.Machine.State) (h : Halted s) : Halted (State.consistency s) := by
  unfold State.consistency
  dsimp only
  simp only [State.mk_make]
  with_reducible refine Halted.ite (Halted.foldl (fun _ _ _ => Halted.ite (by assumption) (Halted.of (State.setRef_frame _ _ _)
                   (by assumption) ?_)) ?_) ?_
  · rfl
  · with_reducible apply Halted.setF
    · with_reducible exact Halted.mk1 (by assumption)
    · with_reducible exact (by decide)
  · split
    · with_reducible refine Halted.ite ?_ (State.consistConflict_halted _ _ _ (Halted.foldl (fun _ _ _ => Halted.ite (by assumption)
                       (Halted.of (State.setRef_frame _ _ _) (by assumption) ?_)) ?_))
      · with_reducible apply Halted.inc
        · with_reducible refine Halted.of (State.setRef_frame _ _ _) (Halted.foldl (fun _ _ _ => Halted.ite (by assumption) (Halted.of
                           (State.setRef_frame _ _ _) (by assumption) ?_)) ?_) ?_
          · rfl
          · with_reducible apply Halted.setF
            · with_reducible exact Halted.mk1 (by assumption)
            · with_reducible exact (by decide)
          · rfl
        · (simp only [Obj.refBoundPs, Obj.refConflict, Obj.refConsistFails, Obj.refConsistMarginPs, Obj.modeCurrent, ne_eq]; omega)
      · rfl
      · with_reducible apply Halted.setF
        · with_reducible exact Halted.mk1 (by assumption)
        · with_reducible exact (by decide)
    · with_reducible refine State.consistConflict_halted _ _ _ (Halted.foldl (fun _ _ _ => Halted.ite (by assumption) (Halted.of
                       (State.setRef_frame _ _ _) (by assumption) ?_)) ?_)
      · rfl
      · with_reducible apply Halted.setF
        · with_reducible exact Halted.mk1 (by assumption)
        · with_reducible exact (by decide)

theorem State.contention_halted (s : Sys2Proof.Machine.State) (h : Halted s) : Halted (State.contention s) := by
  unfold State.contention
  dsimp only
  simp only [State.mk_make]
  with_reducible apply Halted.inc
  · with_reducible exact Halted.mk1 (by assumption)
  · with_reducible exact (by decide)

theorem State.countEdge_halted (s : Sys2Proof.Machine.State) (a1 : Nat) (h : Halted s) : Halted (State.countEdge s a1) := by
  unfold State.countEdge
  dsimp only
  with_reducible refine Halted.ite (Halted.ite (Halted.setN (by assumption) ?_) ?_) (Halted.of (State.setPort_frame _ _ _) (by assumption)
                   ?_)
  · (simp only [Obj.tpEdges, Obj.tpEdgesWrapped, Obj.modeCurrent, ne_eq]; omega)
  · with_reducible apply Halted.setF
    · with_reducible refine Halted.setN (by assumption) ?_
      (simp only [Obj.tpEdges, Obj.tpEdgesWrapped, Obj.modeCurrent, ne_eq]; omega)
    · (simp only [Obj.tpEdges, Obj.tpEdgesWrapped, Obj.modeCurrent, ne_eq]; omega)
  · rfl

theorem State.hostDeliver_halted (s : Sys2Proof.Machine.State) (a1 : Nat) (a2 : Nat) (a3 : Nat) (a4 : Sys2Proof.Machine.Parsed) (a5 : Nat) (a6 : Nat) (a7 : Int) (h : Halted s) : Halted (State.hostDeliver s a1 a2 a3 a4 a5 a6 a7) := by
  unfold State.hostDeliver
  dsimp only
  simp only [State.mk_make]
  split
  · with_reducible refine Halted.mk1 ?_
    with_reducible apply Halted.inc
    · with_reducible exact (by assumption)
    · (simp only [Obj.npRxRingDrops, Obj.modeCurrent, ne_eq]; omega)
  · with_reducible refine Halted.of (State.pushDesc_frame _ _ _) (Halted.of (State.setRingReg_frame _ _ _ _ _ _) (by assumption) ?_) ?_
    · rfl
    · rfl

end Sys2Proof.Machine
end

