-- ==== Sys2Proof/Laws/Halts5.lean ====
section
/-!
SUPPORT. HALTED under operations, part 5.
-/

namespace Sys2Proof.Machine

set_option linter.unusedSimpArgs false

theorem State.defaultDeliver_halted (s : Sys2Proof.Machine.State) (a1 : Nat) (a2 : Nat) (a3 : Sys2Proof.Machine.Parsed) (a4 : Nat) (a5 : Nat) (a6 : Int) (h : Halted s) : Halted (State.defaultDeliver s a1 a2 a3 a4 a5 a6) := by
  unfold State.defaultDeliver
  dsimp only
  with_reducible exact Halted.ite (State.hostDeliver_halted _ _ _ _ _ _ _ _ (by assumption)) (by assumption)

theorem State.exactReserve_halted (s : Sys2Proof.Machine.State) (a1 : Nat) (a2 : Nat) (a3 : Int) (a4 : Int) (h : Halted s) : Halted (State.exactReserve s a1 a2 a3 a4).1 := by
  unfold State.exactReserve
  dsimp only
  with_reducible refine Halted.iteFst ?_ (by assumption)
  with_reducible apply Halted.inc
  · with_reducible exact (by assumption)
  · (simp only [Obj.npExactRefused, Obj.modeCurrent, ne_eq]; omega)

theorem State.delayReq_halted (s : Sys2Proof.Machine.State) (a1 : Nat) (a2 : Nat) (a3 : Sys2Proof.Machine.RxFrame) (a4 : Int) (h : Halted s) : Halted (State.delayReq s a1 a2 a3 a4) := by
  unfold State.delayReq
  dsimp only
  split
  · with_reducible refine Halted.of (State.itemDone_frame _ _ _) (by assumption) ?_
    rfl
  · with_reducible refine Halted.ite ?_ (Halted.ite ?_ (Halted.ite ?_ (Halted.ite ?_ ?_)))
    · with_reducible apply Halted.inc
      · with_reducible refine Halted.of (State.itemDone_frame _ _ _) (by assumption) ?_
        rfl
      · (simp only [Obj.ceilingDrops, Obj.ptpAuthFail, Obj.ptpNoGrantDrops, Obj.ptpUnsupported, Obj.modeCurrent, ne_eq]; omega)
    · with_reducible apply Halted.inc
      · with_reducible refine Halted.of (State.itemDone_frame _ _ _) (by assumption) ?_
        rfl
      · (simp only [Obj.ceilingDrops, Obj.ptpAuthFail, Obj.ptpNoGrantDrops, Obj.ptpUnsupported, Obj.modeCurrent, ne_eq]; omega)
    · with_reducible apply Halted.inc
      · with_reducible refine Halted.of (State.itemDone_frame _ _ _) (by assumption) ?_
        rfl
      · (simp only [Obj.ceilingDrops, Obj.ptpAuthFail, Obj.ptpNoGrantDrops, Obj.ptpUnsupported, Obj.modeCurrent, ne_eq]; omega)
    · with_reducible apply Halted.inc
      · with_reducible refine Halted.of (State.itemDone_frame _ _ _) (by assumption) ?_
        rfl
      · with_reducible exact (by decide)
    · split
      · with_reducible refine Halted.of (State.itemDone_frame _ _ _) (by assumption) ?_
        rfl
      · split
        · with_reducible refine State.exactReserve_halted _ _ _ _ _ (Halted.of (State.itemDone_frame _ _ _) (by assumption) ?_)
          rfl
        · with_reducible refine State.release_halted _ _ _ _ _ _ (State.exactReserve_halted _ _ _ _ _ (Halted.of (State.itemDone_frame _ _
                           _) (by assumption) ?_))
          rfl

theorem State.deliverNotice_halted (s : Sys2Proof.Machine.State) (a1 : Nat) (h : Halted s) : Halted (State.deliverNotice s a1) := by
  unfold State.deliverNotice
  dsimp only
  simp only [State.mk_make]
  split
  · with_reducible refine Halted.of (State.vector_frame _ _ _) (Halted.mk1 (State.setChan__halted _ _ _ (Halted.of (State.setNotices_frame _
                     _ _) (by assumption) ?_))) ?_
    · rfl
    · rfl
  · with_reducible exact (by assumption)

theorem State.placeRequest_halted (s : Sys2Proof.Machine.State) (a1 : Sys2Proof.Machine.MsgSource) (a2 : Sys2Proof.Octets) (h : Halted s) : Halted (State.placeRequest s a1 a2) := by
  unfold State.placeRequest
  dsimp only
  split
  · with_reducible exact State.setChan__halted _ _ _ (by assumption)
  · with_reducible exact (by assumption)

theorem State.loomRefuse_halted (s : Sys2Proof.Machine.State) (a1 : Sys2Proof.Machine.LoomRes × Nat) (h : Halted s) : Halted (State.loomRefuse s a1) := by
  unfold State.loomRefuse
  with_reducible apply Halted.inc
  · with_reducible exact Halted.setN (Halted.setN (Halted.setN (by assumption) (by decide)) (by decide)) (by decide)
  · with_reducible exact (by decide)

theorem State.judgeBatch_halted (s : Sys2Proof.Machine.State) (a1 : Sys2Proof.Machine.DictMsg) (h : Halted s) : Halted (State.judgeBatch s a1).1 := by
  unfold State.judgeBatch
  dsimp only
  with_reducible refine Halted.iteFst (by assumption) (Halted.iteFst (Halted.ite ?_ ?_) ?_)
  · with_reducible apply Halted.inc
    · with_reducible apply Halted.addN
      · with_reducible apply Halted.inc
        · with_reducible exact (by assumption)
        · with_reducible exact (by decide)
      · with_reducible exact (by decide)
    · with_reducible exact (by decide)
  · with_reducible apply Halted.addN
    · with_reducible apply Halted.inc
      · with_reducible exact (by assumption)
      · with_reducible exact (by decide)
    · with_reducible exact (by decide)
  · split
    · with_reducible refine Halted.ite ?_ ?_
      · with_reducible apply Halted.inc
        · with_reducible apply Halted.addN
          · with_reducible apply Halted.inc
            · with_reducible exact State.loomRefuse_halted _ _ (by assumption)
            · with_reducible exact (by decide)
          · with_reducible exact (by decide)
        · with_reducible exact (by decide)
      · with_reducible apply Halted.addN
        · with_reducible apply Halted.inc
          · with_reducible exact State.loomRefuse_halted _ _ (by assumption)
          · with_reducible exact (by decide)
        · with_reducible exact (by decide)
    · with_reducible refine Halted.of (State.admitBatch_frame _ _ _) (by assumption) ?_
      rfl

theorem State.serveMsg_halted (s : Sys2Proof.Machine.State) (a1 : Sys2Proof.Machine.DictMsg) (h : Halted s) : Halted (State.serveMsg s a1) := by
  unfold State.serveMsg
  dsimp only
  with_reducible refine Halted.ite ?_ (Halted.ite (State.reply_halted _ _ _ _ (by assumption)) (Halted.ite (State.reply_halted _ _ _ _
                   (by assumption)) (State.reply_halted _ _ _ _ (State.judgeBatch_halted _ _ (by assumption)))))
  with_reducible apply Halted.inc
  · with_reducible exact (by assumption)
  · with_reducible exact (by decide)

theorem State.getLine_halted (s : Sys2Proof.Machine.State) (a1 : Nat) (a2 : Nat) (h : Halted s) : Halted (State.getLine s a1 a2) := by
  unfold State.getLine
  dsimp only
  with_reducible refine Halted.ite (State.incHw_halted _ _ ?_ (Halted.of (State.placeCopy_frame _ _ _ _) (by assumption) ?_))
                   (State.incHw_halted _ _ ?_ (Halted.of (State.setDir_frame _ _ _) (Halted.of (State.placeCopy_frame _ _ _ _) ?_ ?_) ?_))
  · (simp only [Obj.cacheHits, Obj.cacheMisses, Obj.modeCurrent, ne_eq]; omega)
  · rfl
  · (simp only [Obj.cacheHits, Obj.cacheMisses, Obj.modeCurrent, ne_eq]; omega)
  · split
    · with_reducible refine Halted.of (State.putLine_frame _ _ _) (by assumption) ?_
      rfl
    · with_reducible exact (by assumption)
  · rfl
  · rfl

theorem State.dirServe_halted (s : Sys2Proof.Machine.State) (a1 : Nat) (a2 : List Sys2Proof.Machine.DirReq) (h : Halted s) : Halted (State.dirServe s a1 a2) := by
  unfold State.dirServe
  dsimp only
  with_reducible refine Halted.foldl (fun _ _ _ => Halted.ite (State.ownLine_halted _ _ _ (by assumption)) (State.getLine_halted _ _ _
                   (by assumption))) (Halted.foldl (fun _ _ _ => Halted.of (State.putLine_frame _ _ _) (by assumption) ?_) (by assumption))
  rfl

theorem State.stamperFault_halted (s : Sys2Proof.Machine.State) (a1 : Nat) (h : Halted s) : Halted (State.stamperFault s a1) := by
  unfold State.stamperFault
  with_reducible exact State.portStop_halted _ _ (State.faulted_halted _ _ _ _ (State.stamperOut_halted _ _ (by assumption)))

theorem State.dllFail_halted (s : Sys2Proof.Machine.State) (a1 : Nat) (h : Halted s) : Halted (State.dllFail s a1) := by
  unfold State.dllFail
  dsimp only
  with_reducible refine Halted.ite (State.stamperFault_halted _ _ (by assumption)) (Halted.of (State.setStamper_frame _ _ _) (by assumption)
                   ?_)
  rfl

theorem State.dllPass_halted (s : Sys2Proof.Machine.State) (a1 : Nat) (a2 : Int) (h : Halted s) : Halted (State.dllPass s a1 a2) := by
  unfold State.dllPass
  dsimp only
  with_reducible refine State.commitHeld_halted _ _ _ (Halted.of (State.setPort_frame _ _ _) (Halted.of (State.setStamper_frame _ _ _)
                   (by assumption) ?_) ?_)
  · rfl
  · rfl

theorem State.drainLast_halted (s : Sys2Proof.Machine.State) (h : Halted s) : Halted (State.drainLast s) := by
  unfold State.drainLast
  dsimp only
  simp only [State.mk_make]
  with_reducible refine Halted.ite (Halted.setN ?_ (by decide)) (Halted.foldl (fun _ _ _ => State.commitLate_halted _ _ (by assumption))
                   (by assumption))
  with_reducible apply Halted.addN
  · with_reducible apply Halted.inc
    · with_reducible exact Halted.mk1 (Halted.foldl (fun _ _ _ => State.commitLate_halted _ _ (by assumption)) (by assumption))
    · with_reducible exact (by decide)
  · with_reducible exact (by decide)

theorem State.driveEdge_halted (s : Sys2Proof.Machine.State) (a1 : Nat) (a2 : Nat) (a3 : Int) (h : Halted s) : Halted (State.driveEdge s a1 a2 a3) := by
  unfold State.driveEdge
  dsimp only
  with_reducible refine Halted.ite (Halted.of (State.setOut_frame _ _ _) (by assumption) ?_) (Halted.ite (Halted.of (State.setOut_frame _ _
                   _) (by assumption) ?_) (Halted.ite (Halted.of (State.setOut_frame _ _ _) (by assumption) ?_) (Halted.ite (Halted.of (State.setOut_frame _
                   _ _) (by assumption) ?_) (State.faulted_halted _ _ _ _ ?_))))
  · rfl
  · rfl
  · rfl
  · rfl
  · with_reducible apply Halted.inc
    · with_reducible refine Halted.of (State.setOut_frame _ _ _) (by assumption) ?_
      rfl
    · (simp only [Obj.outHighTime, Obj.outPlaceFaults, Obj.outPlaceTolPs, Obj.outUnverified, Obj.modeCurrent, ne_eq]; omega)

theorem State.missStamp_halted (s : Sys2Proof.Machine.State) (a1 : Nat) (a2 : Bool) (h : Halted s) : Halted (State.missStamp s a1 a2) := by
  unfold State.missStamp
  dsimp only
  with_reducible refine State.commitHeld_halted _ _ _ (Halted.of (State.setPort_frame _ _ _) (Halted.ite ?_ (by assumption)) ?_)
  · with_reducible apply Halted.inc
    · with_reducible exact (by assumption)
    · (simp only [Obj.tpMissedStamps, Obj.modeCurrent, ne_eq]; omega)
  · rfl

theorem State.parallelPair_halted (s : Sys2Proof.Machine.State) (a1 : Nat) (a2 : Sys2Proof.Machine.Capture) (a3 : Sys2Proof.Machine.Capture) (h : Halted s) : Halted (State.parallelPair s a1 a2 a3) := by
  unfold State.parallelPair
  dsimp only
  with_reducible refine Halted.ite (State.stamperFault_halted _ _ (by assumption)) (Halted.ite (State.stamperFault_halted _ _
                   (by assumption)) (Halted.ite (by assumption) (Halted.ite (Halted.of (State.setPort_frame _ _ _) (by assumption) ?_) (by assumption))))
  rfl

theorem State.stalledStamp_halted (s : Sys2Proof.Machine.State) (a1 : Nat) (a2 : Bool) (h : Halted s) : Halted (State.stalledStamp s a1 a2) := by
  unfold State.stalledStamp
  dsimp only
  with_reducible refine State.commitHeld_halted _ _ _ (Halted.of (State.gateFault_frame _ _) (Halted.of (State.setPort_frame _ _ _)
                   (by assumption) ?_) ?_)
  · rfl
  · rfl

theorem State.takeStamp_halted (s : Sys2Proof.Machine.State) (a1 : Nat) (a2 : Nat) (a3 : Int) (a4 : Sys2Proof.Machine.Capture) (a5 : Bool) (a6 : Bool) (h : Halted s) : Halted (State.takeStamp s a1 a2 a3 a4 a5 a6) := by
  unfold State.takeStamp
  dsimp only
  with_reducible refine Halted.ite (State.stamperFault_halted _ _ (by assumption)) (Halted.ite (Halted.of (State.setBlob_frame _ _ _)
                   (Halted.of (State.setPort_frame _ _ _) (by assumption) ?_) ?_) (Halted.of (State.setPort_frame _ _ _) (by assumption) ?_))
  · rfl
  · rfl
  · rfl

theorem State.selectedEdge_halted (s : Sys2Proof.Machine.State) (a1 : Nat) (a2 : Int) (a3 : Sys2Proof.Machine.Capture) (a4 : Sys2Proof.Machine.Capture) (a5 : Bool) (h : Halted s) : Halted (State.selectedEdge s a1 a2 a3 a4 a5) := by
  unfold State.selectedEdge
  dsimp only
  with_reducible refine Halted.ite (Halted.ite (State.stalledStamp_halted _ _ _ (State.commitHeld_halted _ _ _ (Halted.of
                   (State.setPort_frame _ _ _) (by assumption) ?_))) (State.commitHeld_halted _ _ _ (Halted.of (State.setPort_frame _ _ _) (by assumption)
                   ?_))) (Halted.ite (Halted.ite (Halted.ite (State.takeStamp_halted _ _ _ _ _ _ _ (State.commitHeld_halted _ _ _ (Halted.of
                   (State.setPort_frame _ _ _) (by assumption) ?_))) (State.takeStamp_halted _ _ _ _ _ _ _ (State.commitHeld_halted _ _ _ (Halted.of
                   (State.setPort_frame _ _ _) (by assumption) ?_)))) (State.missStamp_halted _ _ _ (State.commitHeld_halted _ _ _ (Halted.of
                   (State.setPort_frame _ _ _) (by assumption) ?_)))) (Halted.ite (Halted.ite (State.parallelPair_halted _ _ _ _ (Halted.ite
                   (State.takeStamp_halted _ _ _ _ _ _ _ (State.commitHeld_halted _ _ _ (Halted.of (State.setPort_frame _ _ _) (by assumption) ?_)))
                   (State.takeStamp_halted _ _ _ _ _ _ _ (State.commitHeld_halted _ _ _ (Halted.of (State.setPort_frame _ _ _) (by assumption) ?_)))))
                   (State.missStamp_halted _ _ _ (State.commitHeld_halted _ _ _ (Halted.of (State.setPort_frame _ _ _) (by assumption) ?_))))
                   (State.commitHeld_halted _ _ _ (Halted.of (State.setPort_frame _ _ _) (by assumption) ?_))))
  · rfl
  · rfl
  · rfl
  · rfl
  · rfl
  · rfl
  · rfl
  · rfl
  · rfl

theorem State.edge_halted (s : Sys2Proof.Machine.State) (a1 : Nat) (a2 : Int) (a3 : Sys2Proof.Machine.Capture) (a4 : Sys2Proof.Machine.Capture) (h : Halted s) : Halted (State.edge s a1 a2 a3 a4) := by
  unfold State.edge
  dsimp only
  with_reducible refine Halted.ite (Halted.of (State.drew_frame _) (by assumption) ?_) (Halted.ite (State.selectedEdge_halted _ _ _ _ _ _
                   (State.countEdge_halted _ _ (Halted.of (State.setPort_frame _ _ _) (Halted.ite (Halted.of (State.drew_frame _) (by assumption) ?_)
                   (by assumption)) ?_))) (State.countEdge_halted _ _ (Halted.of (State.setPort_frame _ _ _) (Halted.ite (Halted.of (State.drew_frame _)
                   (by assumption) ?_) (by assumption)) ?_)))
  · rfl
  · rfl
  · rfl
  · rfl
  · rfl

theorem State.embLocked_halted (s : Sys2Proof.Machine.State) (a1 : Nat) (h : Halted s) : Halted (State.embLocked s a1) := by
  unfold State.embLocked
  dsimp only
  with_reducible refine Halted.of (State.setGlink_frame _ _ _) (State.linkEnter_halted _ _ _ (by assumption)) ?_
  rfl

theorem State.endGate_halted (s : Sys2Proof.Machine.State) (a1 : Nat) (h : Halted s) : Halted (State.endGate s a1) := by
  unfold State.endGate
  dsimp only
  simp only [State.mk_make]
  split
  · with_reducible exact (by assumption)
  · split
    · with_reducible exact State.commitLate_halted _ _ (by assumption)
    · with_reducible refine Halted.of (State.setPort_frame _ _ _) (Halted.of (State.openGate_frame _ _) (Halted.ite (Halted.ite ?_
                       (Halted.ite (Halted.of (State.setPort_frame _ _ _) (Halted.mk1 (State.commitLate_halted _ _ (by assumption))) ?_) ?_)) (Halted.of
                       (State.setPort_frame _ _ _) (Halted.mk1 (State.commitLate_halted _ _ (by assumption))) ?_)) ?_) ?_
      · with_reducible apply Halted.inc
        · with_reducible refine Halted.ite (Halted.of (State.setPort_frame _ _ _) (Halted.mk1 (State.commitLate_halted _ _ (by assumption)))
                           ?_) ?_
          · rfl
          · with_reducible apply Halted.inc
            · with_reducible refine Halted.of (State.setPort_frame _ _ _) (Halted.mk1 (State.commitLate_halted _ _ (by assumption))) ?_
              rfl
            · (simp only [Obj.tpRangeExceeded, Obj.tpRegInvalid, Obj.modeCurrent, ne_eq]; omega)
        · (simp only [Obj.tpRangeExceeded, Obj.tpRegInvalid, Obj.modeCurrent, ne_eq]; omega)
      · rfl
      · with_reducible apply Halted.inc
        · with_reducible refine Halted.of (State.setPort_frame _ _ _) (Halted.mk1 (State.commitLate_halted _ _ (by assumption))) ?_
          rfl
        · (simp only [Obj.tpRangeExceeded, Obj.tpRegInvalid, Obj.modeCurrent, ne_eq]; omega)
      · rfl
      · rfl
      · rfl

theorem State.engineOut_halted (s : Sys2Proof.Machine.State) (a1 : Nat) (a2 : Nat) (h : Halted s) : Halted (State.engineOut s a1 a2) := by
  unfold State.engineOut
  dsimp only
  simp only [State.mk_make]
  with_reducible refine Halted.ite (by assumption) (Halted.ite (State.countEngines_halted _ _ (Halted.ite ?_ ?_)) (Halted.ite
                   (State.groveFault_halted _ _ ?_) ?_))
  · with_reducible apply Halted.setF
    · with_reducible apply Halted.setO
      · with_reducible apply Halted.setO
        · with_reducible exact (by assumption)
        · (simp only [Obj.engineLane, Obj.engineState, Obj.groveFailovers, Obj.groveSpareAvailable, Obj.modeCurrent, ne_eq]; omega)
      · (simp only [Obj.engineLane, Obj.engineState, Obj.groveFailovers, Obj.groveSpareAvailable, Obj.modeCurrent, ne_eq]; omega)
    · (simp only [Obj.engineLane, Obj.engineState, Obj.groveFailovers, Obj.groveSpareAvailable, Obj.modeCurrent, ne_eq]; omega)
  · with_reducible apply Halted.setO
    · with_reducible apply Halted.setO
      · with_reducible exact (by assumption)
      · (simp only [Obj.engineLane, Obj.engineState, Obj.groveFailovers, Obj.groveSpareAvailable, Obj.modeCurrent, ne_eq]; omega)
    · (simp only [Obj.engineLane, Obj.engineState, Obj.groveFailovers, Obj.groveSpareAvailable, Obj.modeCurrent, ne_eq]; omega)
  · split
    · with_reducible refine Halted.of (State.laneDown_frame _ _ _ _) ?_ ?_
      · with_reducible apply Halted.inc
        · with_reducible refine Halted.mk1 ?_
          with_reducible apply Halted.setF
          · with_reducible refine Halted.setN ?_ ?_
            · with_reducible apply Halted.setO
              · with_reducible refine Halted.ite (Halted.mk1 (State.countEngines_halted _ _ (Halted.ite ?_ ?_))) (State.countEngines_halted
                                 _ _ (Halted.ite ?_ ?_))
                · with_reducible apply Halted.setF
                  · with_reducible apply Halted.setO
                    · with_reducible apply Halted.setO
                      · with_reducible exact (by assumption)
                      · (simp only [Obj.engineLane, Obj.engineState, Obj.groveFailovers, Obj.groveSpareAvailable, Obj.modeCurrent, ne_eq]; omega)
                    · (simp only [Obj.engineLane, Obj.engineState, Obj.groveFailovers, Obj.groveSpareAvailable, Obj.modeCurrent, ne_eq]; omega)
                  · (simp only [Obj.engineLane, Obj.engineState, Obj.groveFailovers, Obj.groveSpareAvailable, Obj.modeCurrent, ne_eq]; omega)
                · with_reducible apply Halted.setO
                  · with_reducible apply Halted.setO
                    · with_reducible exact (by assumption)
                    · (simp only [Obj.engineLane, Obj.engineState, Obj.groveFailovers, Obj.groveSpareAvailable, Obj.modeCurrent, ne_eq]; omega)
                  · (simp only [Obj.engineLane, Obj.engineState, Obj.groveFailovers, Obj.groveSpareAvailable, Obj.modeCurrent, ne_eq]; omega)
                · with_reducible apply Halted.setF
                  · with_reducible apply Halted.setO
                    · with_reducible apply Halted.setO
                      · with_reducible exact (by assumption)
                      · (simp only [Obj.engineLane, Obj.engineState, Obj.groveFailovers, Obj.groveSpareAvailable, Obj.modeCurrent, ne_eq]; omega)
                    · (simp only [Obj.engineLane, Obj.engineState, Obj.groveFailovers, Obj.groveSpareAvailable, Obj.modeCurrent, ne_eq]; omega)
                  · (simp only [Obj.engineLane, Obj.engineState, Obj.groveFailovers, Obj.groveSpareAvailable, Obj.modeCurrent, ne_eq]; omega)
                · with_reducible apply Halted.setO
                  · with_reducible apply Halted.setO
                    · with_reducible exact (by assumption)
                    · (simp only [Obj.engineLane, Obj.engineState, Obj.groveFailovers, Obj.groveSpareAvailable, Obj.modeCurrent, ne_eq]; omega)
                  · (simp only [Obj.engineLane, Obj.engineState, Obj.groveFailovers, Obj.groveSpareAvailable, Obj.modeCurrent, ne_eq]; omega)
              · (simp only [Obj.engineLane, Obj.engineState, Obj.groveFailovers, Obj.groveSpareAvailable, Obj.modeCurrent, ne_eq]; omega)
            · (simp only [Obj.engineLane, Obj.engineState, Obj.groveFailovers, Obj.groveSpareAvailable, Obj.modeCurrent, ne_eq]; omega)
          · (simp only [Obj.engineLane, Obj.engineState, Obj.groveFailovers, Obj.groveSpareAvailable, Obj.modeCurrent, ne_eq]; omega)
        · (simp only [Obj.engineLane, Obj.engineState, Obj.groveFailovers, Obj.groveSpareAvailable, Obj.modeCurrent, ne_eq]; omega)
      · rfl
    · with_reducible refine Halted.of (State.laneDown_frame _ _ _ _) (Halted.of (State.dropLane_frame _ _ _) (Halted.ite (Halted.mk1
                       (State.countEngines_halted _ _ (Halted.ite ?_ ?_))) (State.countEngines_halted _ _ (Halted.ite ?_ ?_))) ?_) ?_
      · with_reducible apply Halted.setF
        · with_reducible apply Halted.setO
          · with_reducible apply Halted.setO
            · with_reducible exact (by assumption)
            · (simp only [Obj.engineLane, Obj.engineState, Obj.groveFailovers, Obj.groveSpareAvailable, Obj.modeCurrent, ne_eq]; omega)
          · (simp only [Obj.engineLane, Obj.engineState, Obj.groveFailovers, Obj.groveSpareAvailable, Obj.modeCurrent, ne_eq]; omega)
        · (simp only [Obj.engineLane, Obj.engineState, Obj.groveFailovers, Obj.groveSpareAvailable, Obj.modeCurrent, ne_eq]; omega)
      · with_reducible apply Halted.setO
        · with_reducible apply Halted.setO
          · with_reducible exact (by assumption)
          · (simp only [Obj.engineLane, Obj.engineState, Obj.groveFailovers, Obj.groveSpareAvailable, Obj.modeCurrent, ne_eq]; omega)
        · (simp only [Obj.engineLane, Obj.engineState, Obj.groveFailovers, Obj.groveSpareAvailable, Obj.modeCurrent, ne_eq]; omega)
      · with_reducible apply Halted.setF
        · with_reducible apply Halted.setO
          · with_reducible apply Halted.setO
            · with_reducible exact (by assumption)
            · (simp only [Obj.engineLane, Obj.engineState, Obj.groveFailovers, Obj.groveSpareAvailable, Obj.modeCurrent, ne_eq]; omega)
          · (simp only [Obj.engineLane, Obj.engineState, Obj.groveFailovers, Obj.groveSpareAvailable, Obj.modeCurrent, ne_eq]; omega)
        · (simp only [Obj.engineLane, Obj.engineState, Obj.groveFailovers, Obj.groveSpareAvailable, Obj.modeCurrent, ne_eq]; omega)
      · with_reducible apply Halted.setO
        · with_reducible apply Halted.setO
          · with_reducible exact (by assumption)
          · (simp only [Obj.engineLane, Obj.engineState, Obj.groveFailovers, Obj.groveSpareAvailable, Obj.modeCurrent, ne_eq]; omega)
        · (simp only [Obj.engineLane, Obj.engineState, Obj.groveFailovers, Obj.groveSpareAvailable, Obj.modeCurrent, ne_eq]; omega)
      · rfl
      · rfl
  · split
    · with_reducible refine Halted.of (State.laneDown_frame _ _ _ _) ?_ ?_
      · with_reducible apply Halted.inc
        · with_reducible refine Halted.mk1 ?_
          with_reducible apply Halted.setF
          · with_reducible refine Halted.setN ?_ ?_
            · with_reducible apply Halted.setO
              · with_reducible refine Halted.ite (Halted.mk1 (State.countEngines_halted _ _ (Halted.ite ?_ ?_))) (State.countEngines_halted
                                 _ _ (Halted.ite ?_ ?_))
                · with_reducible apply Halted.setF
                  · with_reducible apply Halted.setO
                    · with_reducible apply Halted.setO
                      · with_reducible exact (by assumption)
                      · (simp only [Obj.engineLane, Obj.engineState, Obj.groveFailovers, Obj.groveSpareAvailable, Obj.modeCurrent, ne_eq]; omega)
                    · (simp only [Obj.engineLane, Obj.engineState, Obj.groveFailovers, Obj.groveSpareAvailable, Obj.modeCurrent, ne_eq]; omega)
                  · (simp only [Obj.engineLane, Obj.engineState, Obj.groveFailovers, Obj.groveSpareAvailable, Obj.modeCurrent, ne_eq]; omega)
                · with_reducible apply Halted.setO
                  · with_reducible apply Halted.setO
                    · with_reducible exact (by assumption)
                    · (simp only [Obj.engineLane, Obj.engineState, Obj.groveFailovers, Obj.groveSpareAvailable, Obj.modeCurrent, ne_eq]; omega)
                  · (simp only [Obj.engineLane, Obj.engineState, Obj.groveFailovers, Obj.groveSpareAvailable, Obj.modeCurrent, ne_eq]; omega)
                · with_reducible apply Halted.setF
                  · with_reducible apply Halted.setO
                    · with_reducible apply Halted.setO
                      · with_reducible exact (by assumption)
                      · (simp only [Obj.engineLane, Obj.engineState, Obj.groveFailovers, Obj.groveSpareAvailable, Obj.modeCurrent, ne_eq]; omega)
                    · (simp only [Obj.engineLane, Obj.engineState, Obj.groveFailovers, Obj.groveSpareAvailable, Obj.modeCurrent, ne_eq]; omega)
                  · (simp only [Obj.engineLane, Obj.engineState, Obj.groveFailovers, Obj.groveSpareAvailable, Obj.modeCurrent, ne_eq]; omega)
                · with_reducible apply Halted.setO
                  · with_reducible apply Halted.setO
                    · with_reducible exact (by assumption)
                    · (simp only [Obj.engineLane, Obj.engineState, Obj.groveFailovers, Obj.groveSpareAvailable, Obj.modeCurrent, ne_eq]; omega)
                  · (simp only [Obj.engineLane, Obj.engineState, Obj.groveFailovers, Obj.groveSpareAvailable, Obj.modeCurrent, ne_eq]; omega)
              · (simp only [Obj.engineLane, Obj.engineState, Obj.groveFailovers, Obj.groveSpareAvailable, Obj.modeCurrent, ne_eq]; omega)
            · (simp only [Obj.engineLane, Obj.engineState, Obj.groveFailovers, Obj.groveSpareAvailable, Obj.modeCurrent, ne_eq]; omega)
          · (simp only [Obj.engineLane, Obj.engineState, Obj.groveFailovers, Obj.groveSpareAvailable, Obj.modeCurrent, ne_eq]; omega)
        · (simp only [Obj.engineLane, Obj.engineState, Obj.groveFailovers, Obj.groveSpareAvailable, Obj.modeCurrent, ne_eq]; omega)
      · rfl
    · with_reducible refine Halted.of (State.laneDown_frame _ _ _ _) (Halted.of (State.dropLane_frame _ _ _) (Halted.ite (Halted.mk1
                       (State.countEngines_halted _ _ (Halted.ite ?_ ?_))) (State.countEngines_halted _ _ (Halted.ite ?_ ?_))) ?_) ?_
      · with_reducible apply Halted.setF
        · with_reducible apply Halted.setO
          · with_reducible apply Halted.setO
            · with_reducible exact (by assumption)
            · (simp only [Obj.engineLane, Obj.engineState, Obj.groveFailovers, Obj.groveSpareAvailable, Obj.modeCurrent, ne_eq]; omega)
          · (simp only [Obj.engineLane, Obj.engineState, Obj.groveFailovers, Obj.groveSpareAvailable, Obj.modeCurrent, ne_eq]; omega)
        · (simp only [Obj.engineLane, Obj.engineState, Obj.groveFailovers, Obj.groveSpareAvailable, Obj.modeCurrent, ne_eq]; omega)
      · with_reducible apply Halted.setO
        · with_reducible apply Halted.setO
          · with_reducible exact (by assumption)
          · (simp only [Obj.engineLane, Obj.engineState, Obj.groveFailovers, Obj.groveSpareAvailable, Obj.modeCurrent, ne_eq]; omega)
        · (simp only [Obj.engineLane, Obj.engineState, Obj.groveFailovers, Obj.groveSpareAvailable, Obj.modeCurrent, ne_eq]; omega)
      · with_reducible apply Halted.setF
        · with_reducible apply Halted.setO
          · with_reducible apply Halted.setO
            · with_reducible exact (by assumption)
            · (simp only [Obj.engineLane, Obj.engineState, Obj.groveFailovers, Obj.groveSpareAvailable, Obj.modeCurrent, ne_eq]; omega)
          · (simp only [Obj.engineLane, Obj.engineState, Obj.groveFailovers, Obj.groveSpareAvailable, Obj.modeCurrent, ne_eq]; omega)
        · (simp only [Obj.engineLane, Obj.engineState, Obj.groveFailovers, Obj.groveSpareAvailable, Obj.modeCurrent, ne_eq]; omega)
      · with_reducible apply Halted.setO
        · with_reducible apply Halted.setO
          · with_reducible exact (by assumption)
          · (simp only [Obj.engineLane, Obj.engineState, Obj.groveFailovers, Obj.groveSpareAvailable, Obj.modeCurrent, ne_eq]; omega)
        · (simp only [Obj.engineLane, Obj.engineState, Obj.groveFailovers, Obj.groveSpareAvailable, Obj.modeCurrent, ne_eq]; omega)
      · rfl
      · rfl

theorem State.engineFail_halted (s : Sys2Proof.Machine.State) (a1 : Nat) (a2 : Nat) (h : Halted s) : Halted (State.engineFail s a1 a2) := by
  unfold State.engineFail
  dsimp only
  with_reducible exact Halted.ite (State.engineOut_halted _ _ _ (State.faulted_halted _ _ _ _ (by assumption))) (by assumption)

theorem State.ensembleLost_halted (s : Sys2Proof.Machine.State) (h : Halted s) : Halted (State.ensembleLost s) := by
  unfold State.ensembleLost
  dsimp only
  simp only [State.mk_make]
  with_reducible refine Halted.ite (Halted.of (State.forceUnbounded_frame _) (Halted.of (State.discardShadow_frame _) (by assumption) ?_)
                   ?_) (Halted.of (State.forceUnbounded_frame _) (Halted.of (State.unanchor_frame _) (Halted.mk1 (Halted.foldl (fun _ _ _ =>
                   State.declare_halted _ _ _ (by assumption)) (by assumption))) ?_) ?_)
  · rfl
  · rfl
  · rfl
  · rfl

theorem State.epochFalls_halted (s : Sys2Proof.Machine.State) (a1 : Sys2Proof.Machine.GladeEpoch) (h : Halted s) : Halted (State.epochFalls s a1) := by
  unfold State.epochFalls
  dsimp only
  simp only [State.mk_make]
  with_reducible refine Halted.mk1 (Halted.foldl (fun _ _ _ => ?_) (Halted.ite ?_ (by assumption)))
  · with_reducible apply Halted.inc
    · with_reducible exact (by assumption)
    · (simp only [Obj.gladeEpochCount, Obj.gladeState, Obj.linkSysrefErrors, Obj.modeCurrent, ne_eq]; omega)
  · with_reducible apply Halted.inc
    · with_reducible exact (by assumption)
    · with_reducible exact (by decide)

theorem State.memCe_halted (s : Sys2Proof.Machine.State) (a1 : Nat) (a2 : Nat) (h : Halted s) : Halted (State.memCe s a1 a2) := by
  unfold State.memCe
  dsimp only
  simp only [State.mk_make]
  with_reducible refine Halted.mk1 (State.faulted_halted _ _ _ _ ?_)
  with_reducible apply Halted.inc
  · with_reducible exact (by assumption)
  · (simp only [Obj.memCeCount, Obj.modeCurrent, ne_eq]; omega)

theorem State.reedLost_halted (s : Sys2Proof.Machine.State) (a1 : Nat) (h : Halted s) : Halted (State.reedLost s a1) := by
  unfold State.reedLost
  dsimp only
  simp only [State.mk_make]
  with_reducible refine Halted.mk1 ?_
  with_reducible apply Halted.addN
  · with_reducible exact (by assumption)
  · (simp only [Obj.failoverDrops, Obj.modeCurrent, ne_eq]; omega)

theorem State.poisonLine_halted (s : Sys2Proof.Machine.State) (a1 : Nat) (h : Halted s) : Halted (State.poisonLine s a1) := by
  unfold State.poisonLine
  dsimp only
  simp only [State.mk_make]
  split
  · with_reducible apply Halted.inc
    · with_reducible refine Halted.of (State.writeBank_frame _ _ _ _) (Halted.of (State.recallAll_frame _ _) (by assumption) ?_) ?_
      · rfl
      · rfl
    · with_reducible exact (by decide)
  · with_reducible refine Halted.setN (Halted.mk1 ?_) ?_
    · with_reducible apply Halted.inc
      · with_reducible refine Halted.of (State.writeBank_frame _ _ _ _) (Halted.of (State.recallAll_frame _ _) (by assumption) ?_) ?_
        · rfl
        · rfl
      · with_reducible exact (by decide)
    · (simp only [Obj.ptpUnicastSessions, Obj.sessionPoisoned, Obj.modeCurrent, ne_eq]; omega)

theorem State.stampOverrun_halted (s : Sys2Proof.Machine.State) (a1 : Nat) (h : Halted s) : Halted (State.stampOverrun s a1) := by
  unfold State.stampOverrun
  dsimp only
  with_reducible refine Halted.of (State.drainStamps_frame _) (Halted.of (State.setPort_frame _ _ _) (Halted.ite ?_ (by assumption)) ?_) ?_
  · with_reducible apply Halted.inc
    · with_reducible exact (by assumption)
    · (simp only [Obj.tpGapMarkers, Obj.modeCurrent, ne_eq]; omega)
  · rfl
  · rfl

theorem State.ueReact_halted (s : Sys2Proof.Machine.State) (a1 : Nat) (a2 : Nat) (a3 : Option Nat) (a4 : Option Nat) (h : Halted s) : Halted (State.ueReact s a1 a2 a3 a4) := by
  unfold State.ueReact
  dsimp only
  simp only [State.mk_make]
  with_reducible refine Halted.ite (Halted.ite (Halted.mk1 (State.groveFault_halted _ _ (by assumption))) ?_) (Halted.ite
                   (State.poisonLine_halted _ _ (by assumption)) (Halted.ite (State.bobBad_halted _ _ (by assumption)) (Halted.ite (State.ensembleLost_halted
                   _ (by assumption)) (Halted.ite (Halted.of (State.navDiscard_frame _ _) (Halted.of (State.solutionLost_frame _) (by assumption) ?_) ?_)
                   ?_))))
  · split
    · with_reducible exact State.engineFail_halted _ _ _ (by assumption)
    · with_reducible exact (by assumption)
  · rfl
  · rfl
  · split
    · with_reducible exact Halted.ite (State.stampOverrun_halted _ _ (by assumption)) (by assumption)
    · with_reducible exact (by assumption)

theorem State.memUe_halted (s : Sys2Proof.Machine.State) (a1 : Nat) (a2 : Nat) (a3 : Option Nat) (a4 : Option Nat) (h : Halted s) : Halted (State.memUe s a1 a2 a3 a4) := by
  unfold State.memUe
  dsimp only
  simp only [State.mk_make]
  with_reducible refine Halted.ite (State.faulted_halted _ _ _ _ (Halted.mk1 ?_)) (Halted.ite (State.reedLost_halted _ _
                   (State.faulted_halted _ _ _ _ ?_)) (Halted.ite (State.faulted_halted _ _ _ _ ?_) (Halted.ite (State.faulted_halted _ _ _ _ ?_)
                   (State.ueReact_halted _ _ _ _ _ (State.faulted_halted _ _ _ _ ?_)))))
  · with_reducible apply Halted.inc
    · with_reducible exact (by assumption)
    · (simp only [Obj.memUeCount, Obj.modeCurrent, ne_eq]; omega)
  · with_reducible apply Halted.inc
    · with_reducible exact (by assumption)
    · (simp only [Obj.memUeCount, Obj.modeCurrent, ne_eq]; omega)
  · with_reducible apply Halted.inc
    · with_reducible exact (by assumption)
    · (simp only [Obj.memUeCount, Obj.modeCurrent, ne_eq]; omega)
  · with_reducible apply Halted.inc
    · with_reducible exact (by assumption)
    · (simp only [Obj.memUeCount, Obj.modeCurrent, ne_eq]; omega)
  · with_reducible apply Halted.inc
    · with_reducible exact (by assumption)
    · (simp only [Obj.memUeCount, Obj.modeCurrent, ne_eq]; omega)

theorem State.refetch_halted (s : Sys2Proof.Machine.State) (a1 : Nat) (a2 : Nat) (h : Halted s) : Halted (State.refetch s a1 a2) := by
  unfold State.refetch
  with_reducible refine Halted.ite (State.getLine_halted _ _ _ (Halted.of (State.dropCopy_frame _ _ _) (by assumption) ?_)) (by assumption)
  rfl

theorem State.remapWord_halted (s : Sys2Proof.Machine.State) (a1 : Nat) (a2 : Nat) (h : Halted s) : Halted (State.remapWord s a1 a2) := by
  unfold State.remapWord
  dsimp only
  with_reducible refine Halted.ite (State.faulted_halted _ _ _ _ ?_) ?_
  · with_reducible apply Halted.inc
    · with_reducible exact (by assumption)
    · (simp only [Obj.memHardUnremapped, Obj.memRemapTable, Obj.memRemapUsed, Obj.modeCurrent, ne_eq]; omega)
  · split
    · with_reducible exact (by assumption)
    · with_reducible refine State.faulted_halted _ _ _ _ (Halted.of (State.writeWord_frame _ _ _ _) (Halted.setN (Halted.of
                       (State.setBlob_frame _ _ _) (by assumption) ?_) ?_) ?_)
      · rfl
      · (simp only [Obj.memHardUnremapped, Obj.memRemapTable, Obj.memRemapUsed, Obj.modeCurrent, ne_eq]; omega)
      · rfl

theorem State.slotFail_halted (s : Sys2Proof.Machine.State) (a1 : Nat) (h : Halted s) : Halted (State.slotFail s a1) := by
  unfold State.slotFail
  dsimp only
  simp only [State.mk_make]
  with_reducible refine Halted.mk1 ?_
  with_reducible apply Halted.inc
  · with_reducible refine Halted.of (State.putSlot_frame _ _ _) (by assumption) ?_
    rfl
  · with_reducible exact (by decide)

theorem State.slotCheck_halted (s : Sys2Proof.Machine.State) (a1 : Nat) (h : Halted s) : Halted (State.slotCheck s a1) := by
  unfold State.slotCheck
  dsimp only
  simp only [State.mk_make]
  with_reducible refine Halted.ite ?_ (State.slotFail_halted _ _ (State.faulted_halted _ _ _ _ (by assumption)))
  split
  · with_reducible refine State.showKeys_halted _ (Halted.mk1 (Halted.of (State.drew_frame _) (Halted.of (State.drew_frame _)
                     (State.slotFail_halted _ _ (State.faulted_halted _ _ _ _ (by assumption))) ?_) ?_))
    · rfl
    · rfl
  · with_reducible refine Halted.of (State.drew_frame _) (Halted.of (State.drew_frame _) (State.slotFail_halted _ _ (State.faulted_halted _
                     _ _ _ (by assumption))) ?_) ?_
    · rfl
    · rfl

theorem State.zeroise_halted (s : Sys2Proof.Machine.State) (h : Halted s) : Halted (State.zeroise s) := by
  unfold State.zeroise
  dsimp only
  simp only [State.mk_make]
  with_reducible refine Halted.setN (Halted.mk1 (Halted.foldl (fun _ _ _ => Halted.ite (by assumption) (Halted.of (State.setSlot_frame _ _
                   _) (by assumption) ?_)) (by assumption))) (by decide)
  rfl

theorem State.faultGroves_halted (s : Sys2Proof.Machine.State) (a1 : Sys2Proof.Machine.FaultOperand) (h : Halted s) : Halted (State.faultGroves s a1) := by
  unfold State.faultGroves
  dsimp only
  simp only [State.mk_make]
  split
  · with_reducible exact State.slotCheck_halted _ _ (by assumption)
  · with_reducible exact Halted.ite (State.aesOut_halted _ _ _ (State.raise_halted _ _ _ _ (by assumption))) (State.raise_halted _ _ _ _
                     (by assumption))
  · with_reducible refine State.faulted_halted _ _ _ _ ?_
    with_reducible apply Halted.inc
    · with_reducible exact Halted.mk1 (by assumption)
    · with_reducible exact (by decide)
  · with_reducible exact State.faulted_halted _ _ _ _ (State.zeroise_halted _ (by assumption))
  · with_reducible exact State.faulted_halted _ _ _ _ (State.zeroise_halted _ (by assumption))
  · with_reducible exact State.engineFail_halted _ _ _ (by assumption)
  · with_reducible exact Halted.ite (State.engineOut_halted _ _ _ (State.raise_halted _ _ _ _ (by assumption))) (State.raise_halted _ _ _ _
                     (by assumption))
  · with_reducible exact State.aesOut_halted _ _ _ (State.faulted_halted _ _ _ _ (by assumption))
  · with_reducible exact State.groveFault_halted _ _ (by assumption)
  · with_reducible exact State.reedLost_halted _ _ (State.faulted_halted _ _ _ _ (by assumption))
  · with_reducible exact Halted.mk1 (State.faulted_halted _ _ _ _ (by assumption))
  · with_reducible exact State.memCe_halted _ _ _ (by assumption)
  · with_reducible exact State.remapWord_halted _ _ _ (by assumption)
  · with_reducible refine State.faulted_halted _ _ _ _ ?_
    with_reducible apply Halted.inc
    · with_reducible exact (by assumption)
    · (simp only [Obj.entropyFails, Obj.memHardUnremapped, Obj.memUeCount, Obj.modeCurrent, ne_eq]; omega)
  · with_reducible exact State.memUe_halted _ _ _ _ _ (by assumption)
  · with_reducible refine State.faulted_halted _ _ _ _ ?_
    with_reducible apply Halted.inc
    · with_reducible exact (by assumption)
    · with_reducible exact (by decide)
  · with_reducible exact Halted.ite (State.poisonLine_halted _ _ (State.raise_halted _ _ _ _ (by assumption))) (State.refetch_halted _ _ _
                     (State.raise_halted _ _ _ _ (by assumption)))
  · with_reducible exact State.faulted_halted _ _ _ _ (by assumption)

theorem State.steerFail_halted (s : Sys2Proof.Machine.State) (a1 : Nat) (h : Halted s) : Halted (State.steerFail s a1) := by
  unfold State.steerFail
  dsimp only
  with_reducible refine Halted.ite (State.faulted_halted _ _ _ _ ?_) ?_
  · with_reducible apply Halted.setO
    · with_reducible apply Halted.inc
      · with_reducible refine Halted.of (State.setDst_frame _ _ _) (by assumption) ?_
        rfl
      · (simp only [Obj.dsteerFails, Obj.dsteerState, Obj.modeCurrent, ne_eq]; omega)
    · (simp only [Obj.dsteerFails, Obj.dsteerState, Obj.modeCurrent, ne_eq]; omega)
  · with_reducible apply Halted.inc
    · with_reducible refine Halted.of (State.setDst_frame _ _ _) (by assumption) ?_
      rfl
    · (simp only [Obj.dsteerFails, Obj.dsteerState, Obj.modeCurrent, ne_eq]; omega)

theorem State.i2cFailed_halted (s : Sys2Proof.Machine.State) (a1 : Nat) (a2 : Sys2Proof.Machine.I2cTrans) (a3 : Nat) (h : Halted s) : Halted (State.i2cFailed s a1 a2 a3) := by
  unfold State.i2cFailed
  split
  · with_reducible exact State.steerFail_halted _ _ (by assumption)
  · with_reducible refine Halted.of (State.i2cResult_frame _ _ _ _) (by assumption) ?_
    rfl

theorem State.i2cStuck_halted (s : Sys2Proof.Machine.State) (a1 : Nat) (h : Halted s) : Halted (State.i2cStuck s a1) := by
  unfold State.i2cStuck
  dsimp only
  with_reducible refine State.faulted_halted _ _ _ _ ?_
  with_reducible apply Halted.setO
  · with_reducible apply Halted.inc
    · with_reducible refine Halted.foldl (fun _ _ _ => State.i2cFailed_halted _ _ _ _ ?_) (Halted.of (State.setI2c_frame _ _ _)
                       (by assumption) ?_)
      · with_reducible apply Halted.inc
        · with_reducible exact (by assumption)
        · (simp only [Obj.i2cBusState, Obj.i2cDropped, Obj.i2cStuckEvents, Obj.modeCurrent, ne_eq]; omega)
      · rfl
    · (simp only [Obj.i2cBusState, Obj.i2cDropped, Obj.i2cStuckEvents, Obj.modeCurrent, ne_eq]; omega)
  · (simp only [Obj.i2cBusState, Obj.i2cDropped, Obj.i2cStuckEvents, Obj.modeCurrent, ne_eq]; omega)

theorem State.faultRest_halted (s : Sys2Proof.Machine.State) (a1 : Sys2Proof.Machine.FaultOperand) (h : Halted s) : Halted (State.faultRest s a1) := by
  unfold State.faultRest
  dsimp only
  simp only [State.mk_make]
  split
  · with_reducible exact Halted.mk1 (State.faulted_halted _ _ _ _ (by assumption))
  · with_reducible exact Halted.ite (Halted.mk1 (by assumption)) (State.faulted_halted _ _ _ _ (by assumption))
  · with_reducible refine Halted.ite (Halted.of (State.discardShadow_frame _) (State.faulted_halted _ _ _ _ (by assumption)) ?_)
                     (State.faulted_halted _ _ _ _ (by assumption))
    rfl
  · with_reducible exact State.i2cStuck_halted _ _ (by assumption)
  · with_reducible exact State.faulted_halted _ _ _ _ (by assumption)

theorem State.forcedMiss_halted (s : Sys2Proof.Machine.State) (a1 : Nat) (a2 : Bool) (h : Halted s) : Halted (State.forcedMiss s a1 a2) := by
  unfold State.forcedMiss
  dsimp only
  with_reducible refine Halted.ite (State.faulted_halted _ _ _ _ ?_) (Halted.of (State.setOut_frame _ _ _) (by assumption) ?_)
  · with_reducible apply Halted.inc
    · with_reducible refine Halted.of (State.setOut_frame _ _ _) (by assumption) ?_
      rfl
    · (simp only [Obj.outPlaceFaults, Obj.modeCurrent, ne_eq]; omega)
  · rfl

theorem State.tapParity_halted (s : Sys2Proof.Machine.State) (a1 : Nat) (a2 : List (Fin 9)) (h : Halted s) : Halted (State.tapParity s a1 a2) := by
  unfold State.tapParity
  dsimp only
  with_reducible refine Halted.foldl (fun _ _ _ => Halted.ite (by assumption) (Halted.ite (Halted.of (State.setChan_frame _ _ _)
                   (State.chanEnter_halted _ _ _ (State.faulted_halted _ _ _ _ (by assumption))) ?_) (State.faulted_halted _ _ _ _ ?_))) (by assumption)
  · rfl
  · with_reducible apply Halted.setO
    · with_reducible apply Halted.setF
      · with_reducible refine Halted.of (State.setChan_frame _ _ _) (by assumption) ?_
        rfl
      · (simp only [Obj.chSpareOffset, Obj.chTapSpared, Obj.modeCurrent, ne_eq]; omega)
    · (simp only [Obj.chSpareOffset, Obj.chTapSpared, Obj.modeCurrent, ne_eq]; omega)

theorem State.pllBypassOne_halted (s : Sys2Proof.Machine.State) (a1 : Nat) (h : Halted s) : Halted (State.pllBypassOne s a1) := by
  unfold State.pllBypassOne
  dsimp only
  with_reducible refine Halted.ite ?_ (Halted.ite ?_ ?_)
  · split
    · with_reducible refine State.clockLost_halted _ _ (Halted.ite ?_ ?_)
      · with_reducible apply Halted.setO
        · with_reducible apply Halted.inc
          · with_reducible apply Halted.setO
            · with_reducible exact (by assumption)
            · (simp only [Obj.apllBypassCount, Obj.apllState, Obj.aplltSource, Obj.modeCurrent, ne_eq]; omega)
          · (simp only [Obj.apllBypassCount, Obj.apllState, Obj.aplltSource, Obj.modeCurrent, ne_eq]; omega)
        · with_reducible exact (by decide)
      · with_reducible apply Halted.inc
        · with_reducible apply Halted.setO
          · with_reducible exact (by assumption)
          · (simp only [Obj.apllBypassCount, Obj.apllState, Obj.aplltSource, Obj.modeCurrent, ne_eq]; omega)
        · (simp only [Obj.apllBypassCount, Obj.apllState, Obj.aplltSource, Obj.modeCurrent, ne_eq]; omega)
    · with_reducible refine Halted.ite ?_ ?_
      · with_reducible apply Halted.setO
        · with_reducible apply Halted.inc
          · with_reducible apply Halted.setO
            · with_reducible exact (by assumption)
            · (simp only [Obj.apllBypassCount, Obj.apllState, Obj.aplltSource, Obj.modeCurrent, ne_eq]; omega)
          · (simp only [Obj.apllBypassCount, Obj.apllState, Obj.aplltSource, Obj.modeCurrent, ne_eq]; omega)
        · with_reducible exact (by decide)
      · with_reducible apply Halted.inc
        · with_reducible apply Halted.setO
          · with_reducible exact (by assumption)
          · (simp only [Obj.apllBypassCount, Obj.apllState, Obj.aplltSource, Obj.modeCurrent, ne_eq]; omega)
        · (simp only [Obj.apllBypassCount, Obj.apllState, Obj.aplltSource, Obj.modeCurrent, ne_eq]; omega)
  · with_reducible apply Halted.setO
    · with_reducible apply Halted.inc
      · with_reducible apply Halted.setO
        · with_reducible exact (by assumption)
        · (simp only [Obj.apllBypassCount, Obj.apllState, Obj.aplltSource, Obj.modeCurrent, ne_eq]; omega)
      · (simp only [Obj.apllBypassCount, Obj.apllState, Obj.aplltSource, Obj.modeCurrent, ne_eq]; omega)
    · with_reducible exact (by decide)
  · with_reducible apply Halted.inc
    · with_reducible apply Halted.setO
      · with_reducible exact (by assumption)
      · (simp only [Obj.apllBypassCount, Obj.apllState, Obj.aplltSource, Obj.modeCurrent, ne_eq]; omega)
    · (simp only [Obj.apllBypassCount, Obj.apllState, Obj.aplltSource, Obj.modeCurrent, ne_eq]; omega)

theorem State.pllBypass_halted (s : Sys2Proof.Machine.State) (a1 : Nat) (h : Halted s) : Halted (State.pllBypass s a1) := by
  unfold State.pllBypass
  dsimp only
  with_reducible exact Halted.ite (Halted.foldl (fun _ _ _ => Halted.ite (State.pllBypassOne_halted _ _ (by assumption)) (by assumption))
                   (State.pllBypassOne_halted _ _ (by assumption))) (Halted.ite (Halted.foldl (fun _ _ _ => Halted.ite (State.pllBypassOne_halted _ _
                   (by assumption)) (by assumption)) (State.pllBypassOne_halted _ _ (by assumption))) (State.pllBypassOne_halted _ _ (by assumption)))

theorem State.reportClock_halted (s : Sys2Proof.Machine.State) (a1 : Sys2Proof.Machine.ClockSource) (a2 : Sys2Proof.Machine.FaultOperand) (h : Halted s) : Halted (State.reportClock s a1 a2) := by
  unfold State.reportClock
  with_reducible refine Halted.ite ?_ (State.faulted_halted _ _ _ _ (by assumption))
  split
  · with_reducible exact Halted.ite (State.pllBypass_halted _ _ (by assumption)) (State.clockLost_halted _ _ (by assumption))
  · with_reducible exact State.clockLost_halted _ _ (by assumption)

theorem State.journalTables_halted (s : Sys2Proof.Machine.State) (a1 : Sys2Proof.Machine.Journal) (h : Halted s) : Halted (State.journalTables s a1) := by
  unfold State.journalTables
  dsimp only
  with_reducible refine Halted.ite ?_ (Halted.ite (Halted.foldl (fun _ _ _ => Halted.ite (by assumption) (Halted.of (State.setBlob_frame _ _
                   _) (by assumption) ?_)) (Halted.foldl (fun _ _ _ => Halted.setN (Halted.of (State.setBlob_frame _ _ _) (by assumption) ?_) ?_)
                   (by assumption))) ?_)
  · with_reducible apply Halted.setO
    · with_reducible refine Halted.ite (Halted.foldl (fun _ _ _ => Halted.ite (by assumption) (Halted.of (State.setBlob_frame _ _ _)
                       (by assumption) ?_)) (Halted.foldl (fun _ _ _ => Halted.setN (Halted.of (State.setBlob_frame _ _ _) (by assumption) ?_) ?_)
                       (by assumption))) ?_
      · rfl
      · rfl
      · (simp only [Obj.ageEqHours, Obj.baseline, Obj.journalSeq, Obj.journalSlot, Obj.journalTornSlots, Obj.lifeUsedPm, Obj.memRemapTable, Obj.memRemapUsed, Obj.posEcef, Obj.posMode, Obj.roDegradation, Obj.scrubPassLog2, Obj.slackPlanPm, Obj.solState, Obj.twinEnable, Obj.twinPairIdentity, Obj.vcoreTargetMv, Obj.modeCurrent, ne_eq]; omega)
      · with_reducible apply Halted.setO
        · with_reducible refine Halted.foldl (fun _ _ _ => Halted.ite (by assumption) (Halted.of (State.setBlob_frame _ _ _) (by assumption)
                           ?_)) (Halted.foldl (fun _ _ _ => Halted.setN (Halted.of (State.setBlob_frame _ _ _) (by assumption) ?_) ?_) (by assumption))
          · rfl
          · rfl
          · (simp only [Obj.ageEqHours, Obj.baseline, Obj.journalSeq, Obj.journalSlot, Obj.journalTornSlots, Obj.lifeUsedPm, Obj.memRemapTable, Obj.memRemapUsed, Obj.posEcef, Obj.posMode, Obj.roDegradation, Obj.scrubPassLog2, Obj.slackPlanPm, Obj.solState, Obj.twinEnable, Obj.twinPairIdentity, Obj.vcoreTargetMv, Obj.modeCurrent, ne_eq]; omega)
        · with_reducible exact (by decide)
    · with_reducible exact (by decide)
  · rfl
  · rfl
  · (simp only [Obj.ageEqHours, Obj.baseline, Obj.journalSeq, Obj.journalSlot, Obj.journalTornSlots, Obj.lifeUsedPm, Obj.memRemapTable, Obj.memRemapUsed, Obj.posEcef, Obj.posMode, Obj.roDegradation, Obj.scrubPassLog2, Obj.slackPlanPm, Obj.solState, Obj.twinEnable, Obj.twinPairIdentity, Obj.vcoreTargetMv, Obj.modeCurrent, ne_eq]; omega)
  · with_reducible apply Halted.setO
    · with_reducible refine Halted.foldl (fun _ _ _ => Halted.ite (by assumption) (Halted.of (State.setBlob_frame _ _ _) (by assumption)
                       ?_)) (Halted.foldl (fun _ _ _ => Halted.setN (Halted.of (State.setBlob_frame _ _ _) (by assumption) ?_) ?_) (by assumption))
      · rfl
      · rfl
      · (simp only [Obj.ageEqHours, Obj.baseline, Obj.journalSeq, Obj.journalSlot, Obj.journalTornSlots, Obj.lifeUsedPm, Obj.memRemapTable, Obj.memRemapUsed, Obj.posEcef, Obj.posMode, Obj.roDegradation, Obj.scrubPassLog2, Obj.slackPlanPm, Obj.solState, Obj.twinEnable, Obj.twinPairIdentity, Obj.vcoreTargetMv, Obj.modeCurrent, ne_eq]; omega)
    · with_reducible exact (by decide)

theorem State.journalValues_halted (s : Sys2Proof.Machine.State) (a1 : Sys2Proof.Machine.Journal) (h : Halted s) : Halted (State.journalValues s a1) := by
  unfold State.journalValues
  dsimp only
  simp only [State.mk_make]
  with_reducible refine Halted.mk1 ?_
  split
  · with_reducible refine Halted.setN (Halted.setN (Halted.setN (Halted.foldl (fun _ _ _ => Halted.setN (by assumption) ?_) (Halted.ite
                     (Halted.mk1 (Halted.setN (Halted.setN (Halted.setN (by assumption) (by decide)) (by decide)) (by decide))) (Halted.setN (Halted.setN
                     (by assumption) (by decide)) (by decide)))) (by decide)) (by decide)) (by decide)
    (simp only [Obj.ageEqHours, Obj.baseline, Obj.journalSeq, Obj.journalSlot, Obj.journalTornSlots, Obj.lifeUsedPm, Obj.memRemapTable, Obj.memRemapUsed, Obj.posEcef, Obj.posMode, Obj.roDegradation, Obj.scrubPassLog2, Obj.slackPlanPm, Obj.solState, Obj.twinEnable, Obj.twinPairIdentity, Obj.vcoreTargetMv, Obj.modeCurrent, ne_eq]; omega)
  · with_reducible refine Halted.foldl (fun _ _ _ => Halted.setN (by assumption) ?_) (Halted.ite (Halted.mk1 (Halted.setN (Halted.setN
                     (Halted.setN (by assumption) (by decide)) (by decide)) (by decide))) (Halted.setN (Halted.setN (by assumption) (by decide))
                     (by decide)))
    (simp only [Obj.ageEqHours, Obj.baseline, Obj.journalSeq, Obj.journalSlot, Obj.journalTornSlots, Obj.lifeUsedPm, Obj.memRemapTable, Obj.memRemapUsed, Obj.posEcef, Obj.posMode, Obj.roDegradation, Obj.scrubPassLog2, Obj.slackPlanPm, Obj.solState, Obj.twinEnable, Obj.twinPairIdentity, Obj.vcoreTargetMv, Obj.modeCurrent, ne_eq]; omega)

theorem State.journalRead_halted (s : Sys2Proof.Machine.State) (h : Halted s) : Halted (State.journalRead s) := by
  unfold State.journalRead
  dsimp only
  split
  · with_reducible refine Halted.foldl (fun _ _ _ => Halted.ite (State.faulted_halted _ _ _ _ ?_) (by assumption)) (by assumption)
    with_reducible apply Halted.inc
    · with_reducible exact (by assumption)
    · with_reducible exact (by decide)
  · with_reducible refine State.journalValues_halted _ _ (State.journalTables_halted _ _ (Halted.setN (Halted.setN (Halted.foldl (fun _ _ _
                     => Halted.ite (State.faulted_halted _ _ _ _ ?_) (by assumption)) (by assumption)) (by decide)) (by decide)))
    with_reducible apply Halted.inc
    · with_reducible exact (by assumption)
    · with_reducible exact (by decide)

theorem State.mintJudge_halted (s : Sys2Proof.Machine.State) (a1 : Sys2Proof.Machine.MintMsg) (h : Halted s) : Halted (State.mintJudge s a1) := by
  unfold State.mintJudge
  dsimp only
  simp only [State.mk_make]
  with_reducible exact Halted.ite (Halted.mk1 (by assumption)) (Halted.ite (State.reply_halted _ _ _ _ (by assumption)) (Halted.ite
                   (State.reply_halted _ _ _ _ (by assumption)) (Halted.ite (State.reply_halted _ _ _ _ (by assumption)) (Halted.ite (State.reply_halted _ _
                   _ _ (by assumption)) (Halted.mk1 (by assumption))))))

end Sys2Proof.Machine
end

