-- ==== Sys2Proof/Laws/Halts6.lean ====
section
/-!
SUPPORT. HALTED under operations, part 6.
-/

namespace Sys2Proof.Machine

set_option linter.unusedSimpArgs false

theorem State.vaultJudge_halted (s : Sys2Proof.Machine.State) (a1 : Sys2Proof.Machine.VaultOp) (a2 : Sys2Proof.Machine.VaultMsg) (h : Halted s) : Halted (State.vaultJudge s a1 a2) := by
  unfold State.vaultJudge
  dsimp only
  simp only [State.mk_make]
  with_reducible refine Halted.ite (Halted.mk1 (by assumption)) (Halted.ite (State.reply_halted _ _ _ _ (by assumption)) (Halted.ite
                   (State.reply_halted _ _ _ _ (by assumption)) (Halted.ite (State.reply_halted _ _ _ _ (by assumption)) (Halted.ite (State.reply_halted _ _
                   _ _ (by assumption)) (Halted.ite (State.reply_halted _ _ _ _ (by assumption)) (Halted.ite (State.reply_halted _ _ _ _ ?_) (Halted.mk1
                   (by assumption))))))))
  with_reducible apply Halted.inc
  · with_reducible exact (by assumption)
  · with_reducible exact (by decide)

theorem State.serveHeld_halted (s : Sys2Proof.Machine.State) (h : Halted s) : Halted (State.serveHeld s) := by
  unfold State.serveHeld
  dsimp only
  simp only [State.mk_make]
  with_reducible exact Halted.foldl (fun _ _ _ => Halted.ite (State.chanDone_halted _ _ _ _ (by assumption)) (by assumption)) (Halted.foldl
                   (fun _ _ _ => State.mintJudge_halted _ _ (by assumption)) (Halted.foldl (fun _ _ _ => State.vaultJudge_halted _ _ _ (by assumption))
                   (Halted.foldl (fun _ _ _ => State.serveMsg_halted _ _ (by assumption)) (Halted.mk1 (by assumption)))))

theorem State.filled_halted (s : Sys2Proof.Machine.State) (a1 : Sys2Proof.Machine.BootRead) (h : Halted s) : Halted (State.filled s a1) := by
  unfold State.filled
  dsimp only
  simp only [State.mk_make]
  with_reducible refine Halted.ite (State.serveHeld_halted _ (State.checkImages_halted _ _ (State.avsStart_halted _ _
                   (State.journalRead_halted _ (Halted.foldl (fun _ _ _ => Halted.setN (by assumption) ?_) (Halted.mk1 (Halted.setN (by assumption)
                   (by decide)))))))) (State.checkImages_halted _ _ (State.avsStart_halted _ _ (State.journalRead_halted _ (Halted.foldl (fun _ _ _ =>
                   Halted.setN (by assumption) ?_) (Halted.mk1 (Halted.setN (by assumption) (by decide)))))))
  · (simp only [Obj.fillTimeUs, Obj.qspiJedecId, Obj.modeCurrent, ne_eq]; omega)
  · (simp only [Obj.fillTimeUs, Obj.qspiJedecId, Obj.modeCurrent, ne_eq]; omega)

theorem State.segmentOfTake_halted (s : Sys2Proof.Machine.State) (h : Halted s) : Halted (State.segmentOfTake s) := by
  unfold State.segmentOfTake
  dsimp only
  split
  · with_reducible refine Halted.ite (Halted.of (State.anchorHold_frame _ _) (State.startSegment_halted _ _ (by assumption)) ?_)
                     (by assumption)
    rfl
  · with_reducible exact (by assumption)

theorem State.finishTake_halted (s : Sys2Proof.Machine.State) (h : Halted s) : Halted (State.finishTake s) := by
  unfold State.finishTake
  dsimp only
  simp only [State.mk_make]
  with_reducible refine State.segmentOfTake_halted _ (State.canopyBoundary_halted _ (Halted.mk1 (Halted.of (State.adoptPlane_frame _)
                   (by assumption) ?_)))
  rfl

theorem State.flashAsk_halted (s : Sys2Proof.Machine.State) (a1 : Sys2Proof.Machine.FlashBy) (a2 : Sys2Proof.Machine.FlashCmd) (h : Halted s) : Halted (State.flashAsk s a1 a2) := by
  unfold State.flashAsk
  dsimp only
  with_reducible exact Halted.ite (State.flashCommand_halted _ _ (by assumption)) (by assumption)

theorem State.flashNext_halted (s : Sys2Proof.Machine.State) (h : Halted s) : Halted (State.flashNext s) := by
  unfold State.flashNext
  dsimp only
  simp only [State.mk_make]
  split
  · with_reducible exact State.flashStart_halted _ _ (Halted.mk1 (by assumption))
  · with_reducible exact (by assumption)

theorem State.flashDone_halted (s : Sys2Proof.Machine.State) (a1 : Sys2Proof.Machine.FlashCmd) (a2 : Bool) (h : Halted s) : Halted (State.flashDone s a1 a2) := by
  unfold State.flashDone
  dsimp only
  simp only [State.mk_make]
  with_reducible refine Halted.ite (Halted.setN (Halted.mk1 (Halted.ite (Halted.of (State.flashPut_frame _ _ _ _) (by assumption) ?_)
                   (Halted.of (State.flashPut_frame _ _ _ _) (Halted.of (State.drew_frame _) (by assumption) ?_) ?_))) (by decide)) (Halted.ite (Halted.of
                   (State.journalBegin_frame _) (Halted.setN (Halted.mk1 (Halted.ite (Halted.of (State.flashPut_frame _ _ _ _) (by assumption) ?_) (Halted.of
                   (State.flashPut_frame _ _ _ _) (Halted.of (State.drew_frame _) (by assumption) ?_) ?_))) (by decide)) ?_) (State.flashNext_halted _
                   (Halted.setN (Halted.mk1 (Halted.ite (Halted.of (State.flashPut_frame _ _ _ _) (by assumption) ?_) (Halted.of (State.flashPut_frame _ _ _
                   _) (Halted.of (State.drew_frame _) (by assumption) ?_) ?_))) (by decide))))
  · rfl
  · rfl
  · rfl
  · rfl
  · rfl
  · rfl
  · rfl
  · rfl
  · rfl
  · rfl

theorem State.journalFail_halted (s : Sys2Proof.Machine.State) (a1 : Sys2Proof.Machine.JournalWrite) (h : Halted s) : Halted (State.journalFail s a1) := by
  unfold State.journalFail
  dsimp only
  simp only [State.mk_make]
  with_reducible refine State.flashNext_halted _ (State.faulted_halted _ _ _ _ ?_)
  with_reducible apply Halted.inc
  · with_reducible exact Halted.mk1 (by assumption)
  · with_reducible exact (by decide)

theorem State.flashComplete_halted (s : Sys2Proof.Machine.State) (a1 : Bool) (h : Halted s) : Halted (State.flashComplete s a1) := by
  unfold State.flashComplete
  split
  · with_reducible exact State.flashDone_halted _ _ _ (by assumption)
  · with_reducible exact Halted.ite (State.journalFail_halted _ _ (by assumption)) (by assumption)
  · with_reducible exact (by assumption)

theorem State.followUpDue_halted (s : Sys2Proof.Machine.State) (a1 : Sys2Proof.Machine.PtpStream) (h : Halted s) : Halted (State.followUpDue s a1) := by
  unfold State.followUpDue
  dsimp only
  simp only [State.mk_make]
  split
  · split
    · with_reducible refine Halted.ite (by assumption) (Halted.ite ?_ ?_)
      · with_reducible apply Halted.inc
        · with_reducible exact Halted.mk1 (by assumption)
        · with_reducible exact (by decide)
      · split
        · with_reducible exact Halted.mk1 (by assumption)
        · with_reducible refine State.release_halted _ _ _ _ _ _ (Halted.of (State.newItem_frame _ _ _) (Halted.mk1 (by assumption)) ?_)
          rfl
    · with_reducible exact (by assumption)
  · split
    · with_reducible refine Halted.ite (by assumption) (Halted.ite ?_ ?_)
      · with_reducible apply Halted.inc
        · with_reducible exact Halted.mk1 (by assumption)
        · with_reducible exact (by decide)
      · split
        · with_reducible exact Halted.mk1 (by assumption)
        · with_reducible refine Halted.ite (Halted.mk1 (State.release_halted _ _ _ _ _ _ (Halted.of (State.newItem_frame _ _ _) (Halted.mk1
                           (by assumption)) ?_))) (State.release_halted _ _ _ _ _ _ (Halted.of (State.newItem_frame _ _ _) (Halted.mk1 (by assumption)) ?_))
          · rfl
          · rfl
    · with_reducible exact (by assumption)

theorem State.queueNotice_halted (s : Sys2Proof.Machine.State) (a1 : Nat) (a2 : Sys2Proof.Machine.Notice) (h : Halted s) : Halted (State.queueNotice s a1 a2) := by
  unfold State.queueNotice
  dsimp only
  with_reducible refine Halted.ite ?_ (Halted.of (State.setNotices_frame _ _ _) (by assumption) ?_)
  · with_reducible apply Halted.inc
    · with_reducible refine Halted.of (State.addLost_frame _ _ _) (by assumption) ?_
      rfl
    · (simp only [Obj.d2hDrops, Obj.modeCurrent, ne_eq]; omega)
  · rfl

theorem State.formNotices_halted (s : Sys2Proof.Machine.State) (a1 : Nat) (h : Halted s) : Halted (State.formNotices s a1) := by
  unfold State.formNotices
  dsimp only
  simp only [State.mk_make]
  with_reducible refine Halted.foldl (fun _ _ _ => Halted.ite (by assumption) (Halted.foldl (fun _ _ _ => Halted.foldl (fun _ _ _ =>
                   State.queueNotice_halted _ _ _ (by assumption)) (Halted.foldlFst (fun _ _ _ => Halted.iteFst (Halted.of (State.drew_frame _)
                   (by assumption) ?_) (by assumption)) (by assumption))) (by assumption))) (Halted.mk1 (by assumption))
  rfl

theorem State.forwardReceive_halted (s : Sys2Proof.Machine.State) (a1 : Sys2Proof.Machine.Forward) (a2 : Bool) (h : Halted s) : Halted (State.forwardReceive s a1 a2) := by
  unfold State.forwardReceive
  dsimp only
  simp only [State.mk_make]
  with_reducible refine Halted.ite (by assumption) (Halted.ite ?_ (Halted.ite (by assumption) (Halted.mk1 (by assumption))))
  with_reducible apply Halted.inc
  · with_reducible exact (by assumption)
  · with_reducible exact (by decide)

theorem State.takeRed_halted (s : Sys2Proof.Machine.State) (a1 : Nat) (h : Halted s) : Halted (State.takeRed s a1).1 := by
  unfold State.takeRed
  dsimp only
  with_reducible refine Halted.setN (by assumption) ?_
  (simp only [Obj.redSeq, Obj.modeCurrent, ne_eq]; omega)

theorem State.redundancy_halted (s : Sys2Proof.Machine.State) (a1 : Nat) (a2 : Sys2Proof.Machine.TxFrame) (h : Halted s) : Halted (State.redundancy s a1 a2).1 := by
  unfold State.redundancy
  dsimp only
  split
  · with_reducible exact (by assumption)
  · with_reducible refine Halted.iteFst ?_ ?_
    · split
      · with_reducible exact (by assumption)
      · with_reducible exact State.takeRed_halted _ _ (by assumption)
    · split
      · with_reducible exact (by assumption)
      · with_reducible exact State.takeRed_halted _ _ (by assumption)

theorem State.send_halted (s : Sys2Proof.Machine.State) (a1 : Nat) (a2 : Nat) (a3 : Sys2Proof.Machine.TxFrame) (a4 : Int) (h : Halted s) : Halted (State.send s a1 a2 a3 a4) := by
  unfold State.send
  dsimp only
  simp only [State.mk_make]
  split
  · with_reducible refine Halted.ite (State.faulted_halted _ _ _ _ (Halted.of (State.setMac_frame _ _ _) ?_ ?_)) (Halted.of
                     (State.completeOf_frame _ _ _ _ _) ?_ ?_)
    · with_reducible apply Halted.inc
      · with_reducible refine Halted.of (State.completeOf_frame _ _ _ _ _) ?_ ?_
        · split
          · with_reducible refine Halted.mk1 (Halted.of (State.setMac_frame _ _ _) (State.addHw_halted _ _ _ _ _ ?_ ?_ (State.addHw_halted _
                             _ _ _ _ ?_ ?_ (State.redundancy_halted _ _ _ (Halted.of (State.dequeue_frame _ _ _) (by assumption) ?_)))) ?_)
            · (simp only [Obj.npExactTolPs, Obj.npExactVerifyFaults, Obj.npHwWrapped, Obj.npTxFrames, Obj.npTxOctets, Obj.modeCurrent, ne_eq]; omega)
            · (simp only [Obj.npExactTolPs, Obj.npExactVerifyFaults, Obj.npHwWrapped, Obj.npTxFrames, Obj.npTxOctets, Obj.modeCurrent, ne_eq]; omega)
            · (simp only [Obj.npExactTolPs, Obj.npExactVerifyFaults, Obj.npHwWrapped, Obj.npTxFrames, Obj.npTxOctets, Obj.modeCurrent, ne_eq]; omega)
            · (simp only [Obj.npExactTolPs, Obj.npExactVerifyFaults, Obj.npHwWrapped, Obj.npTxFrames, Obj.npTxOctets, Obj.modeCurrent, ne_eq]; omega)
            · rfl
            · rfl
          · with_reducible refine Halted.of (State.setMac_frame _ _ _) (State.addHw_halted _ _ _ _ _ ?_ ?_ (State.addHw_halted _ _ _ _ _ ?_
                             ?_ (State.redundancy_halted _ _ _ (Halted.of (State.dequeue_frame _ _ _) (by assumption) ?_)))) ?_
            · (simp only [Obj.npExactTolPs, Obj.npExactVerifyFaults, Obj.npHwWrapped, Obj.npTxFrames, Obj.npTxOctets, Obj.modeCurrent, ne_eq]; omega)
            · (simp only [Obj.npExactTolPs, Obj.npExactVerifyFaults, Obj.npHwWrapped, Obj.npTxFrames, Obj.npTxOctets, Obj.modeCurrent, ne_eq]; omega)
            · (simp only [Obj.npExactTolPs, Obj.npExactVerifyFaults, Obj.npHwWrapped, Obj.npTxFrames, Obj.npTxOctets, Obj.modeCurrent, ne_eq]; omega)
            · (simp only [Obj.npExactTolPs, Obj.npExactVerifyFaults, Obj.npHwWrapped, Obj.npTxFrames, Obj.npTxOctets, Obj.modeCurrent, ne_eq]; omega)
            · rfl
            · rfl
        · rfl
      · (simp only [Obj.npExactTolPs, Obj.npExactVerifyFaults, Obj.npHwWrapped, Obj.npTxFrames, Obj.npTxOctets, Obj.modeCurrent, ne_eq]; omega)
    · rfl
    · split
      · with_reducible refine Halted.mk1 (Halted.of (State.setMac_frame _ _ _) (State.addHw_halted _ _ _ _ _ ?_ ?_ (State.addHw_halted _ _ _
                         _ _ ?_ ?_ (State.redundancy_halted _ _ _ (Halted.of (State.dequeue_frame _ _ _) (by assumption) ?_)))) ?_)
        · (simp only [Obj.npExactTolPs, Obj.npExactVerifyFaults, Obj.npHwWrapped, Obj.npTxFrames, Obj.npTxOctets, Obj.modeCurrent, ne_eq]; omega)
        · (simp only [Obj.npExactTolPs, Obj.npExactVerifyFaults, Obj.npHwWrapped, Obj.npTxFrames, Obj.npTxOctets, Obj.modeCurrent, ne_eq]; omega)
        · (simp only [Obj.npExactTolPs, Obj.npExactVerifyFaults, Obj.npHwWrapped, Obj.npTxFrames, Obj.npTxOctets, Obj.modeCurrent, ne_eq]; omega)
        · (simp only [Obj.npExactTolPs, Obj.npExactVerifyFaults, Obj.npHwWrapped, Obj.npTxFrames, Obj.npTxOctets, Obj.modeCurrent, ne_eq]; omega)
        · rfl
        · rfl
      · with_reducible refine Halted.of (State.setMac_frame _ _ _) (State.addHw_halted _ _ _ _ _ ?_ ?_ (State.addHw_halted _ _ _ _ _ ?_ ?_
                         (State.redundancy_halted _ _ _ (Halted.of (State.dequeue_frame _ _ _) (by assumption) ?_)))) ?_
        · (simp only [Obj.npExactTolPs, Obj.npExactVerifyFaults, Obj.npHwWrapped, Obj.npTxFrames, Obj.npTxOctets, Obj.modeCurrent, ne_eq]; omega)
        · (simp only [Obj.npExactTolPs, Obj.npExactVerifyFaults, Obj.npHwWrapped, Obj.npTxFrames, Obj.npTxOctets, Obj.modeCurrent, ne_eq]; omega)
        · (simp only [Obj.npExactTolPs, Obj.npExactVerifyFaults, Obj.npHwWrapped, Obj.npTxFrames, Obj.npTxOctets, Obj.modeCurrent, ne_eq]; omega)
        · (simp only [Obj.npExactTolPs, Obj.npExactVerifyFaults, Obj.npHwWrapped, Obj.npTxFrames, Obj.npTxOctets, Obj.modeCurrent, ne_eq]; omega)
        · rfl
        · rfl
    · rfl
  · with_reducible refine Halted.of (State.completeOf_frame _ _ _ _ _) ?_ ?_
    · split
      · with_reducible refine Halted.mk1 (Halted.of (State.setMac_frame _ _ _) (State.addHw_halted _ _ _ _ _ ?_ ?_ (State.addHw_halted _ _ _
                         _ _ ?_ ?_ (State.redundancy_halted _ _ _ (Halted.of (State.dequeue_frame _ _ _) (by assumption) ?_)))) ?_)
        · (simp only [Obj.npExactTolPs, Obj.npExactVerifyFaults, Obj.npHwWrapped, Obj.npTxFrames, Obj.npTxOctets, Obj.modeCurrent, ne_eq]; omega)
        · (simp only [Obj.npExactTolPs, Obj.npExactVerifyFaults, Obj.npHwWrapped, Obj.npTxFrames, Obj.npTxOctets, Obj.modeCurrent, ne_eq]; omega)
        · (simp only [Obj.npExactTolPs, Obj.npExactVerifyFaults, Obj.npHwWrapped, Obj.npTxFrames, Obj.npTxOctets, Obj.modeCurrent, ne_eq]; omega)
        · (simp only [Obj.npExactTolPs, Obj.npExactVerifyFaults, Obj.npHwWrapped, Obj.npTxFrames, Obj.npTxOctets, Obj.modeCurrent, ne_eq]; omega)
        · rfl
        · rfl
      · with_reducible refine Halted.of (State.setMac_frame _ _ _) (State.addHw_halted _ _ _ _ _ ?_ ?_ (State.addHw_halted _ _ _ _ _ ?_ ?_
                         (State.redundancy_halted _ _ _ (Halted.of (State.dequeue_frame _ _ _) (by assumption) ?_)))) ?_
        · (simp only [Obj.npExactTolPs, Obj.npExactVerifyFaults, Obj.npHwWrapped, Obj.npTxFrames, Obj.npTxOctets, Obj.modeCurrent, ne_eq]; omega)
        · (simp only [Obj.npExactTolPs, Obj.npExactVerifyFaults, Obj.npHwWrapped, Obj.npTxFrames, Obj.npTxOctets, Obj.modeCurrent, ne_eq]; omega)
        · (simp only [Obj.npExactTolPs, Obj.npExactVerifyFaults, Obj.npHwWrapped, Obj.npTxFrames, Obj.npTxOctets, Obj.modeCurrent, ne_eq]; omega)
        · (simp only [Obj.npExactTolPs, Obj.npExactVerifyFaults, Obj.npHwWrapped, Obj.npTxFrames, Obj.npTxOctets, Obj.modeCurrent, ne_eq]; omega)
        · rfl
        · rfl
    · rfl

theorem State.frameLaunch_halted (s : Sys2Proof.Machine.State) (a1 : Nat) (a2 : Nat) (a3 : Nat) (h : Halted s) : Halted (State.frameLaunch s a1 a2 a3) := by
  unfold State.frameLaunch
  dsimp only
  split
  · with_reducible exact (by assumption)
  · with_reducible refine Halted.ite (by assumption) (Halted.ite (Halted.of (State.completeOf_frame _ _ _ _ _) ?_ ?_) (Halted.ite ?_
                     (Halted.ite ?_ (Halted.ite ?_ (State.send_halted _ _ _ _ _ (by assumption))))))
    · with_reducible apply Halted.inc
      · with_reducible refine Halted.of (State.dequeue_frame _ _ _) (by assumption) ?_
        rfl
      · (simp only [Obj.ceilingDrops, Obj.npExactMissed, Obj.npLaunchLateDrops, Obj.npTxDelayPs, Obj.modeCurrent, ne_eq]; omega)
    · rfl
    · split
      · with_reducible apply Halted.inc
        · with_reducible refine Halted.of (State.dequeue_frame _ _ _) (by assumption) ?_
          rfl
        · (simp only [Obj.ceilingDrops, Obj.npExactMissed, Obj.npLaunchLateDrops, Obj.npTxDelayPs, Obj.modeCurrent, ne_eq]; omega)
      · with_reducible refine Halted.of (State.completeOf_frame _ _ _ _ _) (Halted.of (State.dequeue_frame _ _ _) (by assumption) ?_) ?_
        · rfl
        · rfl
    · with_reducible apply Halted.inc
      · with_reducible refine Halted.of (State.dequeue_frame _ _ _) (by assumption) ?_
        rfl
      · (simp only [Obj.ceilingDrops, Obj.npExactMissed, Obj.npLaunchLateDrops, Obj.npTxDelayPs, Obj.modeCurrent, ne_eq]; omega)
    · with_reducible apply Halted.inc
      · with_reducible refine Halted.of (State.dequeue_frame _ _ _) (by assumption) ?_
        rfl
      · (simp only [Obj.ceilingDrops, Obj.npExactMissed, Obj.npLaunchLateDrops, Obj.npTxDelayPs, Obj.modeCurrent, ne_eq]; omega)

theorem State.steer_halted (s : Sys2Proof.Machine.State) (a1 : Nat) (a2 : Sys2Proof.Machine.FrameClass) (a3 : Bool) (a4 : Option Nat) (a5 : Sys2Proof.Machine.Parsed) (a6 : Int) (h : Halted s) : Halted (State.steer s a1 a2 a3 a4 a5 a6) := by
  unfold State.steer
  dsimp only
  simp only [State.mk_make]
  with_reducible refine Halted.ite (Halted.ite (Halted.mk1 (by assumption)) ?_) (Halted.ite (Halted.ite (Halted.ite (Halted.mk1 (Halted.of
                   (State.runBucket_frame _ _ _ _ _) (by assumption) ?_)) ?_) (Halted.mk1 (by assumption))) ?_)
  · with_reducible apply Halted.inc
    · with_reducible exact (by assumption)
    · with_reducible exact (by decide)
  · rfl
  · with_reducible apply Halted.inc
    · with_reducible refine Halted.of (State.runBucket_frame _ _ _ _ _) (by assumption) ?_
      rfl
    · (simp only [Obj.groveState, Obj.preServiceDrops, Obj.rlDrops, Obj.serviceAllowed, Obj.modeCurrent, ne_eq]; omega)
  · with_reducible apply Halted.inc
    · with_reducible exact (by assumption)
    · with_reducible exact (by decide)

theorem State.heddle_halted (s : Sys2Proof.Machine.State) (a1 : Nat) (a2 : Sys2Proof.Machine.Parsed) (a3 : Nat) (a4 : Int) (h : Halted s) : Halted (State.heddle s a1 a2 a3 a4) := by
  unfold State.heddle
  dsimp only
  split
  · with_reducible refine State.steer_halted _ _ _ _ _ _ _ ?_
    split
    · with_reducible apply Halted.inc
      · with_reducible exact (by assumption)
      · (simp only [Obj.heddleNoRule, Obj.heddleRule, Obj.heddleRuleHits, Obj.modeCurrent, ne_eq]; omega)
    · with_reducible exact (by assumption)
  · split
    · with_reducible refine State.defaultDeliver_halted _ _ _ _ _ _ _ ?_
      with_reducible apply Halted.inc
      · with_reducible exact (by assumption)
      · with_reducible exact (by decide)
    · with_reducible refine Halted.ite (State.hostDeliver_halted _ _ _ _ _ _ _ _ ?_) (Halted.ite ?_ ?_)
      · with_reducible apply Halted.inc
        · with_reducible exact (by assumption)
        · (simp only [Obj.heddleNoRule, Obj.heddleRule, Obj.heddleRuleHits, Obj.modeCurrent, ne_eq]; omega)
      · with_reducible apply Halted.inc
        · with_reducible exact (by assumption)
        · (simp only [Obj.heddleNoRule, Obj.heddleRule, Obj.heddleRuleHits, Obj.modeCurrent, ne_eq]; omega)
      · split
        · with_reducible refine State.steer_halted _ _ _ _ _ _ _ ?_
          with_reducible apply Halted.inc
          · with_reducible exact (by assumption)
          · (simp only [Obj.heddleNoRule, Obj.heddleRule, Obj.heddleRuleHits, Obj.modeCurrent, ne_eq]; omega)
        · with_reducible refine State.defaultDeliver_halted _ _ _ _ _ _ _ ?_
          with_reducible apply Halted.inc
          · with_reducible exact (by assumption)
          · (simp only [Obj.heddleNoRule, Obj.heddleRule, Obj.heddleRuleHits, Obj.modeCurrent, ne_eq]; omega)

theorem State.ndict_halted (s : Sys2Proof.Machine.State) (a1 : Nat) (a2 : Sys2Proof.Machine.Parsed) (a3 : Bool) (a4 : Nat) (h : Halted s) : Halted (State.ndict s a1 a2 a3 a4) := by
  unfold State.ndict
  dsimp only
  simp only [State.mk_make]
  split
  · with_reducible apply Halted.inc
    · with_reducible exact (by assumption)
    · with_reducible exact (by decide)
  · with_reducible exact Halted.mk1 (by assumption)

theorem State.frameReceive_halted (s : Sys2Proof.Machine.State) (a1 : Nat) (a2 : Sys2Proof.Octets) (a3 : Nat) (a4 : Sys2Proof.Machine.PhyErrors) (h : Halted s) : Halted (State.frameReceive s a1 a2 a3 a4) := by
  unfold State.frameReceive
  dsimp only
  with_reducible refine Halted.ite ?_ (Halted.ite ?_ (Halted.ite (Halted.ite (State.defaultDeliver_halted _ _ _ _ _ _ _ (Halted.ite ?_
                   (Halted.ite ?_ (Halted.ite ?_ (Halted.ite ?_ (State.addHw_halted _ _ _ _ _ ?_ ?_ (State.addHw_halted _ _ _ _ _ ?_ ?_
                   (by assumption)))))))) (Halted.ite ?_ (Halted.ite ?_ (Halted.ite ?_ (Halted.ite ?_ (State.addHw_halted _ _ _ _ _ ?_ ?_ (State.addHw_halted
                   _ _ _ _ _ ?_ ?_ (by assumption)))))))) (Halted.ite (State.ndict_halted _ _ _ _ _ (State.addHw_halted _ _ _ _ _ ?_ ?_ (State.addHw_halted _
                   _ _ _ _ ?_ ?_ (by assumption)))) (State.heddle_halted _ _ _ _ _ (State.addHw_halted _ _ _ _ _ ?_ ?_ (State.addHw_halted _ _ _ _ _ ?_ ?_
                   (by assumption)))))))
  · with_reducible apply Halted.inc
    · with_reducible refine State.addHw_halted _ _ _ _ _ ?_ ?_ (State.addHw_halted _ _ _ _ _ ?_ ?_ (by assumption))
      · (simp only [Obj.npDeliverErrored, Obj.npHwWrapped, Obj.npMaxFrame, Obj.npRxDelayPs, Obj.npRxErrFcs, Obj.npRxErrL3l4, Obj.npRxErrPhy, Obj.npRxErrSize, Obj.npRxFrames, Obj.npRxModeDrops, Obj.npRxNoMatch, Obj.npRxOctets, Obj.modeCurrent, ne_eq]; omega)
      · (simp only [Obj.npDeliverErrored, Obj.npHwWrapped, Obj.npMaxFrame, Obj.npRxDelayPs, Obj.npRxErrFcs, Obj.npRxErrL3l4, Obj.npRxErrPhy, Obj.npRxErrSize, Obj.npRxFrames, Obj.npRxModeDrops, Obj.npRxNoMatch, Obj.npRxOctets, Obj.modeCurrent, ne_eq]; omega)
      · (simp only [Obj.npDeliverErrored, Obj.npHwWrapped, Obj.npMaxFrame, Obj.npRxDelayPs, Obj.npRxErrFcs, Obj.npRxErrL3l4, Obj.npRxErrPhy, Obj.npRxErrSize, Obj.npRxFrames, Obj.npRxModeDrops, Obj.npRxNoMatch, Obj.npRxOctets, Obj.modeCurrent, ne_eq]; omega)
      · (simp only [Obj.npDeliverErrored, Obj.npHwWrapped, Obj.npMaxFrame, Obj.npRxDelayPs, Obj.npRxErrFcs, Obj.npRxErrL3l4, Obj.npRxErrPhy, Obj.npRxErrSize, Obj.npRxFrames, Obj.npRxModeDrops, Obj.npRxNoMatch, Obj.npRxOctets, Obj.modeCurrent, ne_eq]; omega)
    · (simp only [Obj.npDeliverErrored, Obj.npHwWrapped, Obj.npMaxFrame, Obj.npRxDelayPs, Obj.npRxErrFcs, Obj.npRxErrL3l4, Obj.npRxErrPhy, Obj.npRxErrSize, Obj.npRxFrames, Obj.npRxModeDrops, Obj.npRxNoMatch, Obj.npRxOctets, Obj.modeCurrent, ne_eq]; omega)
  · with_reducible apply Halted.inc
    · with_reducible refine State.addHw_halted _ _ _ _ _ ?_ ?_ (State.addHw_halted _ _ _ _ _ ?_ ?_ (by assumption))
      · (simp only [Obj.npDeliverErrored, Obj.npHwWrapped, Obj.npMaxFrame, Obj.npRxDelayPs, Obj.npRxErrFcs, Obj.npRxErrL3l4, Obj.npRxErrPhy, Obj.npRxErrSize, Obj.npRxFrames, Obj.npRxModeDrops, Obj.npRxNoMatch, Obj.npRxOctets, Obj.modeCurrent, ne_eq]; omega)
      · (simp only [Obj.npDeliverErrored, Obj.npHwWrapped, Obj.npMaxFrame, Obj.npRxDelayPs, Obj.npRxErrFcs, Obj.npRxErrL3l4, Obj.npRxErrPhy, Obj.npRxErrSize, Obj.npRxFrames, Obj.npRxModeDrops, Obj.npRxNoMatch, Obj.npRxOctets, Obj.modeCurrent, ne_eq]; omega)
      · (simp only [Obj.npDeliverErrored, Obj.npHwWrapped, Obj.npMaxFrame, Obj.npRxDelayPs, Obj.npRxErrFcs, Obj.npRxErrL3l4, Obj.npRxErrPhy, Obj.npRxErrSize, Obj.npRxFrames, Obj.npRxModeDrops, Obj.npRxNoMatch, Obj.npRxOctets, Obj.modeCurrent, ne_eq]; omega)
      · (simp only [Obj.npDeliverErrored, Obj.npHwWrapped, Obj.npMaxFrame, Obj.npRxDelayPs, Obj.npRxErrFcs, Obj.npRxErrL3l4, Obj.npRxErrPhy, Obj.npRxErrSize, Obj.npRxFrames, Obj.npRxModeDrops, Obj.npRxNoMatch, Obj.npRxOctets, Obj.modeCurrent, ne_eq]; omega)
    · (simp only [Obj.npDeliverErrored, Obj.npHwWrapped, Obj.npMaxFrame, Obj.npRxDelayPs, Obj.npRxErrFcs, Obj.npRxErrL3l4, Obj.npRxErrPhy, Obj.npRxErrSize, Obj.npRxFrames, Obj.npRxModeDrops, Obj.npRxNoMatch, Obj.npRxOctets, Obj.modeCurrent, ne_eq]; omega)
  · with_reducible apply Halted.inc
    · with_reducible refine Halted.ite ?_ (Halted.ite ?_ (Halted.ite ?_ (State.addHw_halted _ _ _ _ _ ?_ ?_ (State.addHw_halted _ _ _ _ _ ?_
                       ?_ (by assumption)))))
      · with_reducible apply Halted.inc
        · with_reducible refine Halted.ite ?_ (Halted.ite ?_ (State.addHw_halted _ _ _ _ _ ?_ ?_ (State.addHw_halted _ _ _ _ _ ?_ ?_
                           (by assumption))))
          · with_reducible apply Halted.inc
            · with_reducible refine Halted.ite ?_ (State.addHw_halted _ _ _ _ _ ?_ ?_ (State.addHw_halted _ _ _ _ _ ?_ ?_ (by assumption)))
              · with_reducible apply Halted.inc
                · with_reducible refine State.addHw_halted _ _ _ _ _ ?_ ?_ (State.addHw_halted _ _ _ _ _ ?_ ?_ (by assumption))
                  · (simp only [Obj.npDeliverErrored, Obj.npHwWrapped, Obj.npMaxFrame, Obj.npRxDelayPs, Obj.npRxErrFcs, Obj.npRxErrL3l4, Obj.npRxErrPhy, Obj.npRxErrSize, Obj.npRxFrames, Obj.npRxModeDrops, Obj.npRxNoMatch, Obj.npRxOctets, Obj.modeCurrent, ne_eq]; omega)
                  · (simp only [Obj.npDeliverErrored, Obj.npHwWrapped, Obj.npMaxFrame, Obj.npRxDelayPs, Obj.npRxErrFcs, Obj.npRxErrL3l4, Obj.npRxErrPhy, Obj.npRxErrSize, Obj.npRxFrames, Obj.npRxModeDrops, Obj.npRxNoMatch, Obj.npRxOctets, Obj.modeCurrent, ne_eq]; omega)
                  · (simp only [Obj.npDeliverErrored, Obj.npHwWrapped, Obj.npMaxFrame, Obj.npRxDelayPs, Obj.npRxErrFcs, Obj.npRxErrL3l4, Obj.npRxErrPhy, Obj.npRxErrSize, Obj.npRxFrames, Obj.npRxModeDrops, Obj.npRxNoMatch, Obj.npRxOctets, Obj.modeCurrent, ne_eq]; omega)
                  · (simp only [Obj.npDeliverErrored, Obj.npHwWrapped, Obj.npMaxFrame, Obj.npRxDelayPs, Obj.npRxErrFcs, Obj.npRxErrL3l4, Obj.npRxErrPhy, Obj.npRxErrSize, Obj.npRxFrames, Obj.npRxModeDrops, Obj.npRxNoMatch, Obj.npRxOctets, Obj.modeCurrent, ne_eq]; omega)
                · (simp only [Obj.npDeliverErrored, Obj.npHwWrapped, Obj.npMaxFrame, Obj.npRxDelayPs, Obj.npRxErrFcs, Obj.npRxErrL3l4, Obj.npRxErrPhy, Obj.npRxErrSize, Obj.npRxFrames, Obj.npRxModeDrops, Obj.npRxNoMatch, Obj.npRxOctets, Obj.modeCurrent, ne_eq]; omega)
              · (simp only [Obj.npDeliverErrored, Obj.npHwWrapped, Obj.npMaxFrame, Obj.npRxDelayPs, Obj.npRxErrFcs, Obj.npRxErrL3l4, Obj.npRxErrPhy, Obj.npRxErrSize, Obj.npRxFrames, Obj.npRxModeDrops, Obj.npRxNoMatch, Obj.npRxOctets, Obj.modeCurrent, ne_eq]; omega)
              · (simp only [Obj.npDeliverErrored, Obj.npHwWrapped, Obj.npMaxFrame, Obj.npRxDelayPs, Obj.npRxErrFcs, Obj.npRxErrL3l4, Obj.npRxErrPhy, Obj.npRxErrSize, Obj.npRxFrames, Obj.npRxModeDrops, Obj.npRxNoMatch, Obj.npRxOctets, Obj.modeCurrent, ne_eq]; omega)
              · (simp only [Obj.npDeliverErrored, Obj.npHwWrapped, Obj.npMaxFrame, Obj.npRxDelayPs, Obj.npRxErrFcs, Obj.npRxErrL3l4, Obj.npRxErrPhy, Obj.npRxErrSize, Obj.npRxFrames, Obj.npRxModeDrops, Obj.npRxNoMatch, Obj.npRxOctets, Obj.modeCurrent, ne_eq]; omega)
              · (simp only [Obj.npDeliverErrored, Obj.npHwWrapped, Obj.npMaxFrame, Obj.npRxDelayPs, Obj.npRxErrFcs, Obj.npRxErrL3l4, Obj.npRxErrPhy, Obj.npRxErrSize, Obj.npRxFrames, Obj.npRxModeDrops, Obj.npRxNoMatch, Obj.npRxOctets, Obj.modeCurrent, ne_eq]; omega)
            · (simp only [Obj.npDeliverErrored, Obj.npHwWrapped, Obj.npMaxFrame, Obj.npRxDelayPs, Obj.npRxErrFcs, Obj.npRxErrL3l4, Obj.npRxErrPhy, Obj.npRxErrSize, Obj.npRxFrames, Obj.npRxModeDrops, Obj.npRxNoMatch, Obj.npRxOctets, Obj.modeCurrent, ne_eq]; omega)
          · with_reducible apply Halted.inc
            · with_reducible refine State.addHw_halted _ _ _ _ _ ?_ ?_ (State.addHw_halted _ _ _ _ _ ?_ ?_ (by assumption))
              · (simp only [Obj.npDeliverErrored, Obj.npHwWrapped, Obj.npMaxFrame, Obj.npRxDelayPs, Obj.npRxErrFcs, Obj.npRxErrL3l4, Obj.npRxErrPhy, Obj.npRxErrSize, Obj.npRxFrames, Obj.npRxModeDrops, Obj.npRxNoMatch, Obj.npRxOctets, Obj.modeCurrent, ne_eq]; omega)
              · (simp only [Obj.npDeliverErrored, Obj.npHwWrapped, Obj.npMaxFrame, Obj.npRxDelayPs, Obj.npRxErrFcs, Obj.npRxErrL3l4, Obj.npRxErrPhy, Obj.npRxErrSize, Obj.npRxFrames, Obj.npRxModeDrops, Obj.npRxNoMatch, Obj.npRxOctets, Obj.modeCurrent, ne_eq]; omega)
              · (simp only [Obj.npDeliverErrored, Obj.npHwWrapped, Obj.npMaxFrame, Obj.npRxDelayPs, Obj.npRxErrFcs, Obj.npRxErrL3l4, Obj.npRxErrPhy, Obj.npRxErrSize, Obj.npRxFrames, Obj.npRxModeDrops, Obj.npRxNoMatch, Obj.npRxOctets, Obj.modeCurrent, ne_eq]; omega)
              · (simp only [Obj.npDeliverErrored, Obj.npHwWrapped, Obj.npMaxFrame, Obj.npRxDelayPs, Obj.npRxErrFcs, Obj.npRxErrL3l4, Obj.npRxErrPhy, Obj.npRxErrSize, Obj.npRxFrames, Obj.npRxModeDrops, Obj.npRxNoMatch, Obj.npRxOctets, Obj.modeCurrent, ne_eq]; omega)
            · (simp only [Obj.npDeliverErrored, Obj.npHwWrapped, Obj.npMaxFrame, Obj.npRxDelayPs, Obj.npRxErrFcs, Obj.npRxErrL3l4, Obj.npRxErrPhy, Obj.npRxErrSize, Obj.npRxFrames, Obj.npRxModeDrops, Obj.npRxNoMatch, Obj.npRxOctets, Obj.modeCurrent, ne_eq]; omega)
          · (simp only [Obj.npDeliverErrored, Obj.npHwWrapped, Obj.npMaxFrame, Obj.npRxDelayPs, Obj.npRxErrFcs, Obj.npRxErrL3l4, Obj.npRxErrPhy, Obj.npRxErrSize, Obj.npRxFrames, Obj.npRxModeDrops, Obj.npRxNoMatch, Obj.npRxOctets, Obj.modeCurrent, ne_eq]; omega)
          · (simp only [Obj.npDeliverErrored, Obj.npHwWrapped, Obj.npMaxFrame, Obj.npRxDelayPs, Obj.npRxErrFcs, Obj.npRxErrL3l4, Obj.npRxErrPhy, Obj.npRxErrSize, Obj.npRxFrames, Obj.npRxModeDrops, Obj.npRxNoMatch, Obj.npRxOctets, Obj.modeCurrent, ne_eq]; omega)
          · (simp only [Obj.npDeliverErrored, Obj.npHwWrapped, Obj.npMaxFrame, Obj.npRxDelayPs, Obj.npRxErrFcs, Obj.npRxErrL3l4, Obj.npRxErrPhy, Obj.npRxErrSize, Obj.npRxFrames, Obj.npRxModeDrops, Obj.npRxNoMatch, Obj.npRxOctets, Obj.modeCurrent, ne_eq]; omega)
          · (simp only [Obj.npDeliverErrored, Obj.npHwWrapped, Obj.npMaxFrame, Obj.npRxDelayPs, Obj.npRxErrFcs, Obj.npRxErrL3l4, Obj.npRxErrPhy, Obj.npRxErrSize, Obj.npRxFrames, Obj.npRxModeDrops, Obj.npRxNoMatch, Obj.npRxOctets, Obj.modeCurrent, ne_eq]; omega)
        · (simp only [Obj.npDeliverErrored, Obj.npHwWrapped, Obj.npMaxFrame, Obj.npRxDelayPs, Obj.npRxErrFcs, Obj.npRxErrL3l4, Obj.npRxErrPhy, Obj.npRxErrSize, Obj.npRxFrames, Obj.npRxModeDrops, Obj.npRxNoMatch, Obj.npRxOctets, Obj.modeCurrent, ne_eq]; omega)
      · with_reducible apply Halted.inc
        · with_reducible refine Halted.ite ?_ (State.addHw_halted _ _ _ _ _ ?_ ?_ (State.addHw_halted _ _ _ _ _ ?_ ?_ (by assumption)))
          · with_reducible apply Halted.inc
            · with_reducible refine State.addHw_halted _ _ _ _ _ ?_ ?_ (State.addHw_halted _ _ _ _ _ ?_ ?_ (by assumption))
              · (simp only [Obj.npDeliverErrored, Obj.npHwWrapped, Obj.npMaxFrame, Obj.npRxDelayPs, Obj.npRxErrFcs, Obj.npRxErrL3l4, Obj.npRxErrPhy, Obj.npRxErrSize, Obj.npRxFrames, Obj.npRxModeDrops, Obj.npRxNoMatch, Obj.npRxOctets, Obj.modeCurrent, ne_eq]; omega)
              · (simp only [Obj.npDeliverErrored, Obj.npHwWrapped, Obj.npMaxFrame, Obj.npRxDelayPs, Obj.npRxErrFcs, Obj.npRxErrL3l4, Obj.npRxErrPhy, Obj.npRxErrSize, Obj.npRxFrames, Obj.npRxModeDrops, Obj.npRxNoMatch, Obj.npRxOctets, Obj.modeCurrent, ne_eq]; omega)
              · (simp only [Obj.npDeliverErrored, Obj.npHwWrapped, Obj.npMaxFrame, Obj.npRxDelayPs, Obj.npRxErrFcs, Obj.npRxErrL3l4, Obj.npRxErrPhy, Obj.npRxErrSize, Obj.npRxFrames, Obj.npRxModeDrops, Obj.npRxNoMatch, Obj.npRxOctets, Obj.modeCurrent, ne_eq]; omega)
              · (simp only [Obj.npDeliverErrored, Obj.npHwWrapped, Obj.npMaxFrame, Obj.npRxDelayPs, Obj.npRxErrFcs, Obj.npRxErrL3l4, Obj.npRxErrPhy, Obj.npRxErrSize, Obj.npRxFrames, Obj.npRxModeDrops, Obj.npRxNoMatch, Obj.npRxOctets, Obj.modeCurrent, ne_eq]; omega)
            · (simp only [Obj.npDeliverErrored, Obj.npHwWrapped, Obj.npMaxFrame, Obj.npRxDelayPs, Obj.npRxErrFcs, Obj.npRxErrL3l4, Obj.npRxErrPhy, Obj.npRxErrSize, Obj.npRxFrames, Obj.npRxModeDrops, Obj.npRxNoMatch, Obj.npRxOctets, Obj.modeCurrent, ne_eq]; omega)
          · (simp only [Obj.npDeliverErrored, Obj.npHwWrapped, Obj.npMaxFrame, Obj.npRxDelayPs, Obj.npRxErrFcs, Obj.npRxErrL3l4, Obj.npRxErrPhy, Obj.npRxErrSize, Obj.npRxFrames, Obj.npRxModeDrops, Obj.npRxNoMatch, Obj.npRxOctets, Obj.modeCurrent, ne_eq]; omega)
          · (simp only [Obj.npDeliverErrored, Obj.npHwWrapped, Obj.npMaxFrame, Obj.npRxDelayPs, Obj.npRxErrFcs, Obj.npRxErrL3l4, Obj.npRxErrPhy, Obj.npRxErrSize, Obj.npRxFrames, Obj.npRxModeDrops, Obj.npRxNoMatch, Obj.npRxOctets, Obj.modeCurrent, ne_eq]; omega)
          · (simp only [Obj.npDeliverErrored, Obj.npHwWrapped, Obj.npMaxFrame, Obj.npRxDelayPs, Obj.npRxErrFcs, Obj.npRxErrL3l4, Obj.npRxErrPhy, Obj.npRxErrSize, Obj.npRxFrames, Obj.npRxModeDrops, Obj.npRxNoMatch, Obj.npRxOctets, Obj.modeCurrent, ne_eq]; omega)
          · (simp only [Obj.npDeliverErrored, Obj.npHwWrapped, Obj.npMaxFrame, Obj.npRxDelayPs, Obj.npRxErrFcs, Obj.npRxErrL3l4, Obj.npRxErrPhy, Obj.npRxErrSize, Obj.npRxFrames, Obj.npRxModeDrops, Obj.npRxNoMatch, Obj.npRxOctets, Obj.modeCurrent, ne_eq]; omega)
        · (simp only [Obj.npDeliverErrored, Obj.npHwWrapped, Obj.npMaxFrame, Obj.npRxDelayPs, Obj.npRxErrFcs, Obj.npRxErrL3l4, Obj.npRxErrPhy, Obj.npRxErrSize, Obj.npRxFrames, Obj.npRxModeDrops, Obj.npRxNoMatch, Obj.npRxOctets, Obj.modeCurrent, ne_eq]; omega)
      · with_reducible apply Halted.inc
        · with_reducible refine State.addHw_halted _ _ _ _ _ ?_ ?_ (State.addHw_halted _ _ _ _ _ ?_ ?_ (by assumption))
          · (simp only [Obj.npDeliverErrored, Obj.npHwWrapped, Obj.npMaxFrame, Obj.npRxDelayPs, Obj.npRxErrFcs, Obj.npRxErrL3l4, Obj.npRxErrPhy, Obj.npRxErrSize, Obj.npRxFrames, Obj.npRxModeDrops, Obj.npRxNoMatch, Obj.npRxOctets, Obj.modeCurrent, ne_eq]; omega)
          · (simp only [Obj.npDeliverErrored, Obj.npHwWrapped, Obj.npMaxFrame, Obj.npRxDelayPs, Obj.npRxErrFcs, Obj.npRxErrL3l4, Obj.npRxErrPhy, Obj.npRxErrSize, Obj.npRxFrames, Obj.npRxModeDrops, Obj.npRxNoMatch, Obj.npRxOctets, Obj.modeCurrent, ne_eq]; omega)
          · (simp only [Obj.npDeliverErrored, Obj.npHwWrapped, Obj.npMaxFrame, Obj.npRxDelayPs, Obj.npRxErrFcs, Obj.npRxErrL3l4, Obj.npRxErrPhy, Obj.npRxErrSize, Obj.npRxFrames, Obj.npRxModeDrops, Obj.npRxNoMatch, Obj.npRxOctets, Obj.modeCurrent, ne_eq]; omega)
          · (simp only [Obj.npDeliverErrored, Obj.npHwWrapped, Obj.npMaxFrame, Obj.npRxDelayPs, Obj.npRxErrFcs, Obj.npRxErrL3l4, Obj.npRxErrPhy, Obj.npRxErrSize, Obj.npRxFrames, Obj.npRxModeDrops, Obj.npRxNoMatch, Obj.npRxOctets, Obj.modeCurrent, ne_eq]; omega)
        · (simp only [Obj.npDeliverErrored, Obj.npHwWrapped, Obj.npMaxFrame, Obj.npRxDelayPs, Obj.npRxErrFcs, Obj.npRxErrL3l4, Obj.npRxErrPhy, Obj.npRxErrSize, Obj.npRxFrames, Obj.npRxModeDrops, Obj.npRxNoMatch, Obj.npRxOctets, Obj.modeCurrent, ne_eq]; omega)
      · (simp only [Obj.npDeliverErrored, Obj.npHwWrapped, Obj.npMaxFrame, Obj.npRxDelayPs, Obj.npRxErrFcs, Obj.npRxErrL3l4, Obj.npRxErrPhy, Obj.npRxErrSize, Obj.npRxFrames, Obj.npRxModeDrops, Obj.npRxNoMatch, Obj.npRxOctets, Obj.modeCurrent, ne_eq]; omega)
      · (simp only [Obj.npDeliverErrored, Obj.npHwWrapped, Obj.npMaxFrame, Obj.npRxDelayPs, Obj.npRxErrFcs, Obj.npRxErrL3l4, Obj.npRxErrPhy, Obj.npRxErrSize, Obj.npRxFrames, Obj.npRxModeDrops, Obj.npRxNoMatch, Obj.npRxOctets, Obj.modeCurrent, ne_eq]; omega)
      · (simp only [Obj.npDeliverErrored, Obj.npHwWrapped, Obj.npMaxFrame, Obj.npRxDelayPs, Obj.npRxErrFcs, Obj.npRxErrL3l4, Obj.npRxErrPhy, Obj.npRxErrSize, Obj.npRxFrames, Obj.npRxModeDrops, Obj.npRxNoMatch, Obj.npRxOctets, Obj.modeCurrent, ne_eq]; omega)
      · (simp only [Obj.npDeliverErrored, Obj.npHwWrapped, Obj.npMaxFrame, Obj.npRxDelayPs, Obj.npRxErrFcs, Obj.npRxErrL3l4, Obj.npRxErrPhy, Obj.npRxErrSize, Obj.npRxFrames, Obj.npRxModeDrops, Obj.npRxNoMatch, Obj.npRxOctets, Obj.modeCurrent, ne_eq]; omega)
    · (simp only [Obj.npDeliverErrored, Obj.npHwWrapped, Obj.npMaxFrame, Obj.npRxDelayPs, Obj.npRxErrFcs, Obj.npRxErrL3l4, Obj.npRxErrPhy, Obj.npRxErrSize, Obj.npRxFrames, Obj.npRxModeDrops, Obj.npRxNoMatch, Obj.npRxOctets, Obj.modeCurrent, ne_eq]; omega)
  · with_reducible apply Halted.inc
    · with_reducible refine Halted.ite ?_ (Halted.ite ?_ (State.addHw_halted _ _ _ _ _ ?_ ?_ (State.addHw_halted _ _ _ _ _ ?_ ?_
                       (by assumption))))
      · with_reducible apply Halted.inc
        · with_reducible refine Halted.ite ?_ (State.addHw_halted _ _ _ _ _ ?_ ?_ (State.addHw_halted _ _ _ _ _ ?_ ?_ (by assumption)))
          · with_reducible apply Halted.inc
            · with_reducible refine State.addHw_halted _ _ _ _ _ ?_ ?_ (State.addHw_halted _ _ _ _ _ ?_ ?_ (by assumption))
              · (simp only [Obj.npDeliverErrored, Obj.npHwWrapped, Obj.npMaxFrame, Obj.npRxDelayPs, Obj.npRxErrFcs, Obj.npRxErrL3l4, Obj.npRxErrPhy, Obj.npRxErrSize, Obj.npRxFrames, Obj.npRxModeDrops, Obj.npRxNoMatch, Obj.npRxOctets, Obj.modeCurrent, ne_eq]; omega)
              · (simp only [Obj.npDeliverErrored, Obj.npHwWrapped, Obj.npMaxFrame, Obj.npRxDelayPs, Obj.npRxErrFcs, Obj.npRxErrL3l4, Obj.npRxErrPhy, Obj.npRxErrSize, Obj.npRxFrames, Obj.npRxModeDrops, Obj.npRxNoMatch, Obj.npRxOctets, Obj.modeCurrent, ne_eq]; omega)
              · (simp only [Obj.npDeliverErrored, Obj.npHwWrapped, Obj.npMaxFrame, Obj.npRxDelayPs, Obj.npRxErrFcs, Obj.npRxErrL3l4, Obj.npRxErrPhy, Obj.npRxErrSize, Obj.npRxFrames, Obj.npRxModeDrops, Obj.npRxNoMatch, Obj.npRxOctets, Obj.modeCurrent, ne_eq]; omega)
              · (simp only [Obj.npDeliverErrored, Obj.npHwWrapped, Obj.npMaxFrame, Obj.npRxDelayPs, Obj.npRxErrFcs, Obj.npRxErrL3l4, Obj.npRxErrPhy, Obj.npRxErrSize, Obj.npRxFrames, Obj.npRxModeDrops, Obj.npRxNoMatch, Obj.npRxOctets, Obj.modeCurrent, ne_eq]; omega)
            · (simp only [Obj.npDeliverErrored, Obj.npHwWrapped, Obj.npMaxFrame, Obj.npRxDelayPs, Obj.npRxErrFcs, Obj.npRxErrL3l4, Obj.npRxErrPhy, Obj.npRxErrSize, Obj.npRxFrames, Obj.npRxModeDrops, Obj.npRxNoMatch, Obj.npRxOctets, Obj.modeCurrent, ne_eq]; omega)
          · (simp only [Obj.npDeliverErrored, Obj.npHwWrapped, Obj.npMaxFrame, Obj.npRxDelayPs, Obj.npRxErrFcs, Obj.npRxErrL3l4, Obj.npRxErrPhy, Obj.npRxErrSize, Obj.npRxFrames, Obj.npRxModeDrops, Obj.npRxNoMatch, Obj.npRxOctets, Obj.modeCurrent, ne_eq]; omega)
          · (simp only [Obj.npDeliverErrored, Obj.npHwWrapped, Obj.npMaxFrame, Obj.npRxDelayPs, Obj.npRxErrFcs, Obj.npRxErrL3l4, Obj.npRxErrPhy, Obj.npRxErrSize, Obj.npRxFrames, Obj.npRxModeDrops, Obj.npRxNoMatch, Obj.npRxOctets, Obj.modeCurrent, ne_eq]; omega)
          · (simp only [Obj.npDeliverErrored, Obj.npHwWrapped, Obj.npMaxFrame, Obj.npRxDelayPs, Obj.npRxErrFcs, Obj.npRxErrL3l4, Obj.npRxErrPhy, Obj.npRxErrSize, Obj.npRxFrames, Obj.npRxModeDrops, Obj.npRxNoMatch, Obj.npRxOctets, Obj.modeCurrent, ne_eq]; omega)
          · (simp only [Obj.npDeliverErrored, Obj.npHwWrapped, Obj.npMaxFrame, Obj.npRxDelayPs, Obj.npRxErrFcs, Obj.npRxErrL3l4, Obj.npRxErrPhy, Obj.npRxErrSize, Obj.npRxFrames, Obj.npRxModeDrops, Obj.npRxNoMatch, Obj.npRxOctets, Obj.modeCurrent, ne_eq]; omega)
        · (simp only [Obj.npDeliverErrored, Obj.npHwWrapped, Obj.npMaxFrame, Obj.npRxDelayPs, Obj.npRxErrFcs, Obj.npRxErrL3l4, Obj.npRxErrPhy, Obj.npRxErrSize, Obj.npRxFrames, Obj.npRxModeDrops, Obj.npRxNoMatch, Obj.npRxOctets, Obj.modeCurrent, ne_eq]; omega)
      · with_reducible apply Halted.inc
        · with_reducible refine State.addHw_halted _ _ _ _ _ ?_ ?_ (State.addHw_halted _ _ _ _ _ ?_ ?_ (by assumption))
          · (simp only [Obj.npDeliverErrored, Obj.npHwWrapped, Obj.npMaxFrame, Obj.npRxDelayPs, Obj.npRxErrFcs, Obj.npRxErrL3l4, Obj.npRxErrPhy, Obj.npRxErrSize, Obj.npRxFrames, Obj.npRxModeDrops, Obj.npRxNoMatch, Obj.npRxOctets, Obj.modeCurrent, ne_eq]; omega)
          · (simp only [Obj.npDeliverErrored, Obj.npHwWrapped, Obj.npMaxFrame, Obj.npRxDelayPs, Obj.npRxErrFcs, Obj.npRxErrL3l4, Obj.npRxErrPhy, Obj.npRxErrSize, Obj.npRxFrames, Obj.npRxModeDrops, Obj.npRxNoMatch, Obj.npRxOctets, Obj.modeCurrent, ne_eq]; omega)
          · (simp only [Obj.npDeliverErrored, Obj.npHwWrapped, Obj.npMaxFrame, Obj.npRxDelayPs, Obj.npRxErrFcs, Obj.npRxErrL3l4, Obj.npRxErrPhy, Obj.npRxErrSize, Obj.npRxFrames, Obj.npRxModeDrops, Obj.npRxNoMatch, Obj.npRxOctets, Obj.modeCurrent, ne_eq]; omega)
          · (simp only [Obj.npDeliverErrored, Obj.npHwWrapped, Obj.npMaxFrame, Obj.npRxDelayPs, Obj.npRxErrFcs, Obj.npRxErrL3l4, Obj.npRxErrPhy, Obj.npRxErrSize, Obj.npRxFrames, Obj.npRxModeDrops, Obj.npRxNoMatch, Obj.npRxOctets, Obj.modeCurrent, ne_eq]; omega)
        · (simp only [Obj.npDeliverErrored, Obj.npHwWrapped, Obj.npMaxFrame, Obj.npRxDelayPs, Obj.npRxErrFcs, Obj.npRxErrL3l4, Obj.npRxErrPhy, Obj.npRxErrSize, Obj.npRxFrames, Obj.npRxModeDrops, Obj.npRxNoMatch, Obj.npRxOctets, Obj.modeCurrent, ne_eq]; omega)
      · (simp only [Obj.npDeliverErrored, Obj.npHwWrapped, Obj.npMaxFrame, Obj.npRxDelayPs, Obj.npRxErrFcs, Obj.npRxErrL3l4, Obj.npRxErrPhy, Obj.npRxErrSize, Obj.npRxFrames, Obj.npRxModeDrops, Obj.npRxNoMatch, Obj.npRxOctets, Obj.modeCurrent, ne_eq]; omega)
      · (simp only [Obj.npDeliverErrored, Obj.npHwWrapped, Obj.npMaxFrame, Obj.npRxDelayPs, Obj.npRxErrFcs, Obj.npRxErrL3l4, Obj.npRxErrPhy, Obj.npRxErrSize, Obj.npRxFrames, Obj.npRxModeDrops, Obj.npRxNoMatch, Obj.npRxOctets, Obj.modeCurrent, ne_eq]; omega)
      · (simp only [Obj.npDeliverErrored, Obj.npHwWrapped, Obj.npMaxFrame, Obj.npRxDelayPs, Obj.npRxErrFcs, Obj.npRxErrL3l4, Obj.npRxErrPhy, Obj.npRxErrSize, Obj.npRxFrames, Obj.npRxModeDrops, Obj.npRxNoMatch, Obj.npRxOctets, Obj.modeCurrent, ne_eq]; omega)
      · (simp only [Obj.npDeliverErrored, Obj.npHwWrapped, Obj.npMaxFrame, Obj.npRxDelayPs, Obj.npRxErrFcs, Obj.npRxErrL3l4, Obj.npRxErrPhy, Obj.npRxErrSize, Obj.npRxFrames, Obj.npRxModeDrops, Obj.npRxNoMatch, Obj.npRxOctets, Obj.modeCurrent, ne_eq]; omega)
    · (simp only [Obj.npDeliverErrored, Obj.npHwWrapped, Obj.npMaxFrame, Obj.npRxDelayPs, Obj.npRxErrFcs, Obj.npRxErrL3l4, Obj.npRxErrPhy, Obj.npRxErrSize, Obj.npRxFrames, Obj.npRxModeDrops, Obj.npRxNoMatch, Obj.npRxOctets, Obj.modeCurrent, ne_eq]; omega)
  · with_reducible apply Halted.inc
    · with_reducible refine Halted.ite ?_ (State.addHw_halted _ _ _ _ _ ?_ ?_ (State.addHw_halted _ _ _ _ _ ?_ ?_ (by assumption)))
      · with_reducible apply Halted.inc
        · with_reducible refine State.addHw_halted _ _ _ _ _ ?_ ?_ (State.addHw_halted _ _ _ _ _ ?_ ?_ (by assumption))
          · (simp only [Obj.npDeliverErrored, Obj.npHwWrapped, Obj.npMaxFrame, Obj.npRxDelayPs, Obj.npRxErrFcs, Obj.npRxErrL3l4, Obj.npRxErrPhy, Obj.npRxErrSize, Obj.npRxFrames, Obj.npRxModeDrops, Obj.npRxNoMatch, Obj.npRxOctets, Obj.modeCurrent, ne_eq]; omega)
          · (simp only [Obj.npDeliverErrored, Obj.npHwWrapped, Obj.npMaxFrame, Obj.npRxDelayPs, Obj.npRxErrFcs, Obj.npRxErrL3l4, Obj.npRxErrPhy, Obj.npRxErrSize, Obj.npRxFrames, Obj.npRxModeDrops, Obj.npRxNoMatch, Obj.npRxOctets, Obj.modeCurrent, ne_eq]; omega)
          · (simp only [Obj.npDeliverErrored, Obj.npHwWrapped, Obj.npMaxFrame, Obj.npRxDelayPs, Obj.npRxErrFcs, Obj.npRxErrL3l4, Obj.npRxErrPhy, Obj.npRxErrSize, Obj.npRxFrames, Obj.npRxModeDrops, Obj.npRxNoMatch, Obj.npRxOctets, Obj.modeCurrent, ne_eq]; omega)
          · (simp only [Obj.npDeliverErrored, Obj.npHwWrapped, Obj.npMaxFrame, Obj.npRxDelayPs, Obj.npRxErrFcs, Obj.npRxErrL3l4, Obj.npRxErrPhy, Obj.npRxErrSize, Obj.npRxFrames, Obj.npRxModeDrops, Obj.npRxNoMatch, Obj.npRxOctets, Obj.modeCurrent, ne_eq]; omega)
        · (simp only [Obj.npDeliverErrored, Obj.npHwWrapped, Obj.npMaxFrame, Obj.npRxDelayPs, Obj.npRxErrFcs, Obj.npRxErrL3l4, Obj.npRxErrPhy, Obj.npRxErrSize, Obj.npRxFrames, Obj.npRxModeDrops, Obj.npRxNoMatch, Obj.npRxOctets, Obj.modeCurrent, ne_eq]; omega)
      · (simp only [Obj.npDeliverErrored, Obj.npHwWrapped, Obj.npMaxFrame, Obj.npRxDelayPs, Obj.npRxErrFcs, Obj.npRxErrL3l4, Obj.npRxErrPhy, Obj.npRxErrSize, Obj.npRxFrames, Obj.npRxModeDrops, Obj.npRxNoMatch, Obj.npRxOctets, Obj.modeCurrent, ne_eq]; omega)
      · (simp only [Obj.npDeliverErrored, Obj.npHwWrapped, Obj.npMaxFrame, Obj.npRxDelayPs, Obj.npRxErrFcs, Obj.npRxErrL3l4, Obj.npRxErrPhy, Obj.npRxErrSize, Obj.npRxFrames, Obj.npRxModeDrops, Obj.npRxNoMatch, Obj.npRxOctets, Obj.modeCurrent, ne_eq]; omega)
      · (simp only [Obj.npDeliverErrored, Obj.npHwWrapped, Obj.npMaxFrame, Obj.npRxDelayPs, Obj.npRxErrFcs, Obj.npRxErrL3l4, Obj.npRxErrPhy, Obj.npRxErrSize, Obj.npRxFrames, Obj.npRxModeDrops, Obj.npRxNoMatch, Obj.npRxOctets, Obj.modeCurrent, ne_eq]; omega)
      · (simp only [Obj.npDeliverErrored, Obj.npHwWrapped, Obj.npMaxFrame, Obj.npRxDelayPs, Obj.npRxErrFcs, Obj.npRxErrL3l4, Obj.npRxErrPhy, Obj.npRxErrSize, Obj.npRxFrames, Obj.npRxModeDrops, Obj.npRxNoMatch, Obj.npRxOctets, Obj.modeCurrent, ne_eq]; omega)
    · (simp only [Obj.npDeliverErrored, Obj.npHwWrapped, Obj.npMaxFrame, Obj.npRxDelayPs, Obj.npRxErrFcs, Obj.npRxErrL3l4, Obj.npRxErrPhy, Obj.npRxErrSize, Obj.npRxFrames, Obj.npRxModeDrops, Obj.npRxNoMatch, Obj.npRxOctets, Obj.modeCurrent, ne_eq]; omega)
  · with_reducible apply Halted.inc
    · with_reducible refine State.addHw_halted _ _ _ _ _ ?_ ?_ (State.addHw_halted _ _ _ _ _ ?_ ?_ (by assumption))
      · (simp only [Obj.npDeliverErrored, Obj.npHwWrapped, Obj.npMaxFrame, Obj.npRxDelayPs, Obj.npRxErrFcs, Obj.npRxErrL3l4, Obj.npRxErrPhy, Obj.npRxErrSize, Obj.npRxFrames, Obj.npRxModeDrops, Obj.npRxNoMatch, Obj.npRxOctets, Obj.modeCurrent, ne_eq]; omega)
      · (simp only [Obj.npDeliverErrored, Obj.npHwWrapped, Obj.npMaxFrame, Obj.npRxDelayPs, Obj.npRxErrFcs, Obj.npRxErrL3l4, Obj.npRxErrPhy, Obj.npRxErrSize, Obj.npRxFrames, Obj.npRxModeDrops, Obj.npRxNoMatch, Obj.npRxOctets, Obj.modeCurrent, ne_eq]; omega)
      · (simp only [Obj.npDeliverErrored, Obj.npHwWrapped, Obj.npMaxFrame, Obj.npRxDelayPs, Obj.npRxErrFcs, Obj.npRxErrL3l4, Obj.npRxErrPhy, Obj.npRxErrSize, Obj.npRxFrames, Obj.npRxModeDrops, Obj.npRxNoMatch, Obj.npRxOctets, Obj.modeCurrent, ne_eq]; omega)
      · (simp only [Obj.npDeliverErrored, Obj.npHwWrapped, Obj.npMaxFrame, Obj.npRxDelayPs, Obj.npRxErrFcs, Obj.npRxErrL3l4, Obj.npRxErrPhy, Obj.npRxErrSize, Obj.npRxFrames, Obj.npRxModeDrops, Obj.npRxNoMatch, Obj.npRxOctets, Obj.modeCurrent, ne_eq]; omega)
    · (simp only [Obj.npDeliverErrored, Obj.npHwWrapped, Obj.npMaxFrame, Obj.npRxDelayPs, Obj.npRxErrFcs, Obj.npRxErrL3l4, Obj.npRxErrPhy, Obj.npRxErrSize, Obj.npRxFrames, Obj.npRxModeDrops, Obj.npRxNoMatch, Obj.npRxOctets, Obj.modeCurrent, ne_eq]; omega)
  · (simp only [Obj.npDeliverErrored, Obj.npHwWrapped, Obj.npMaxFrame, Obj.npRxDelayPs, Obj.npRxErrFcs, Obj.npRxErrL3l4, Obj.npRxErrPhy, Obj.npRxErrSize, Obj.npRxFrames, Obj.npRxModeDrops, Obj.npRxNoMatch, Obj.npRxOctets, Obj.modeCurrent, ne_eq]; omega)
  · (simp only [Obj.npDeliverErrored, Obj.npHwWrapped, Obj.npMaxFrame, Obj.npRxDelayPs, Obj.npRxErrFcs, Obj.npRxErrL3l4, Obj.npRxErrPhy, Obj.npRxErrSize, Obj.npRxFrames, Obj.npRxModeDrops, Obj.npRxNoMatch, Obj.npRxOctets, Obj.modeCurrent, ne_eq]; omega)
  · (simp only [Obj.npDeliverErrored, Obj.npHwWrapped, Obj.npMaxFrame, Obj.npRxDelayPs, Obj.npRxErrFcs, Obj.npRxErrL3l4, Obj.npRxErrPhy, Obj.npRxErrSize, Obj.npRxFrames, Obj.npRxModeDrops, Obj.npRxNoMatch, Obj.npRxOctets, Obj.modeCurrent, ne_eq]; omega)
  · (simp only [Obj.npDeliverErrored, Obj.npHwWrapped, Obj.npMaxFrame, Obj.npRxDelayPs, Obj.npRxErrFcs, Obj.npRxErrL3l4, Obj.npRxErrPhy, Obj.npRxErrSize, Obj.npRxFrames, Obj.npRxModeDrops, Obj.npRxNoMatch, Obj.npRxOctets, Obj.modeCurrent, ne_eq]; omega)
  · with_reducible apply Halted.inc
    · with_reducible refine Halted.ite ?_ (Halted.ite ?_ (Halted.ite ?_ (State.addHw_halted _ _ _ _ _ ?_ ?_ (State.addHw_halted _ _ _ _ _ ?_
                       ?_ (by assumption)))))
      · with_reducible apply Halted.inc
        · with_reducible refine Halted.ite ?_ (Halted.ite ?_ (State.addHw_halted _ _ _ _ _ ?_ ?_ (State.addHw_halted _ _ _ _ _ ?_ ?_
                           (by assumption))))
          · with_reducible apply Halted.inc
            · with_reducible refine Halted.ite ?_ (State.addHw_halted _ _ _ _ _ ?_ ?_ (State.addHw_halted _ _ _ _ _ ?_ ?_ (by assumption)))
              · with_reducible apply Halted.inc
                · with_reducible refine State.addHw_halted _ _ _ _ _ ?_ ?_ (State.addHw_halted _ _ _ _ _ ?_ ?_ (by assumption))
                  · (simp only [Obj.npDeliverErrored, Obj.npHwWrapped, Obj.npMaxFrame, Obj.npRxDelayPs, Obj.npRxErrFcs, Obj.npRxErrL3l4, Obj.npRxErrPhy, Obj.npRxErrSize, Obj.npRxFrames, Obj.npRxModeDrops, Obj.npRxNoMatch, Obj.npRxOctets, Obj.modeCurrent, ne_eq]; omega)
                  · (simp only [Obj.npDeliverErrored, Obj.npHwWrapped, Obj.npMaxFrame, Obj.npRxDelayPs, Obj.npRxErrFcs, Obj.npRxErrL3l4, Obj.npRxErrPhy, Obj.npRxErrSize, Obj.npRxFrames, Obj.npRxModeDrops, Obj.npRxNoMatch, Obj.npRxOctets, Obj.modeCurrent, ne_eq]; omega)
                  · (simp only [Obj.npDeliverErrored, Obj.npHwWrapped, Obj.npMaxFrame, Obj.npRxDelayPs, Obj.npRxErrFcs, Obj.npRxErrL3l4, Obj.npRxErrPhy, Obj.npRxErrSize, Obj.npRxFrames, Obj.npRxModeDrops, Obj.npRxNoMatch, Obj.npRxOctets, Obj.modeCurrent, ne_eq]; omega)
                  · (simp only [Obj.npDeliverErrored, Obj.npHwWrapped, Obj.npMaxFrame, Obj.npRxDelayPs, Obj.npRxErrFcs, Obj.npRxErrL3l4, Obj.npRxErrPhy, Obj.npRxErrSize, Obj.npRxFrames, Obj.npRxModeDrops, Obj.npRxNoMatch, Obj.npRxOctets, Obj.modeCurrent, ne_eq]; omega)
                · (simp only [Obj.npDeliverErrored, Obj.npHwWrapped, Obj.npMaxFrame, Obj.npRxDelayPs, Obj.npRxErrFcs, Obj.npRxErrL3l4, Obj.npRxErrPhy, Obj.npRxErrSize, Obj.npRxFrames, Obj.npRxModeDrops, Obj.npRxNoMatch, Obj.npRxOctets, Obj.modeCurrent, ne_eq]; omega)
              · (simp only [Obj.npDeliverErrored, Obj.npHwWrapped, Obj.npMaxFrame, Obj.npRxDelayPs, Obj.npRxErrFcs, Obj.npRxErrL3l4, Obj.npRxErrPhy, Obj.npRxErrSize, Obj.npRxFrames, Obj.npRxModeDrops, Obj.npRxNoMatch, Obj.npRxOctets, Obj.modeCurrent, ne_eq]; omega)
              · (simp only [Obj.npDeliverErrored, Obj.npHwWrapped, Obj.npMaxFrame, Obj.npRxDelayPs, Obj.npRxErrFcs, Obj.npRxErrL3l4, Obj.npRxErrPhy, Obj.npRxErrSize, Obj.npRxFrames, Obj.npRxModeDrops, Obj.npRxNoMatch, Obj.npRxOctets, Obj.modeCurrent, ne_eq]; omega)
              · (simp only [Obj.npDeliverErrored, Obj.npHwWrapped, Obj.npMaxFrame, Obj.npRxDelayPs, Obj.npRxErrFcs, Obj.npRxErrL3l4, Obj.npRxErrPhy, Obj.npRxErrSize, Obj.npRxFrames, Obj.npRxModeDrops, Obj.npRxNoMatch, Obj.npRxOctets, Obj.modeCurrent, ne_eq]; omega)
              · (simp only [Obj.npDeliverErrored, Obj.npHwWrapped, Obj.npMaxFrame, Obj.npRxDelayPs, Obj.npRxErrFcs, Obj.npRxErrL3l4, Obj.npRxErrPhy, Obj.npRxErrSize, Obj.npRxFrames, Obj.npRxModeDrops, Obj.npRxNoMatch, Obj.npRxOctets, Obj.modeCurrent, ne_eq]; omega)
            · (simp only [Obj.npDeliverErrored, Obj.npHwWrapped, Obj.npMaxFrame, Obj.npRxDelayPs, Obj.npRxErrFcs, Obj.npRxErrL3l4, Obj.npRxErrPhy, Obj.npRxErrSize, Obj.npRxFrames, Obj.npRxModeDrops, Obj.npRxNoMatch, Obj.npRxOctets, Obj.modeCurrent, ne_eq]; omega)
          · with_reducible apply Halted.inc
            · with_reducible refine State.addHw_halted _ _ _ _ _ ?_ ?_ (State.addHw_halted _ _ _ _ _ ?_ ?_ (by assumption))
              · (simp only [Obj.npDeliverErrored, Obj.npHwWrapped, Obj.npMaxFrame, Obj.npRxDelayPs, Obj.npRxErrFcs, Obj.npRxErrL3l4, Obj.npRxErrPhy, Obj.npRxErrSize, Obj.npRxFrames, Obj.npRxModeDrops, Obj.npRxNoMatch, Obj.npRxOctets, Obj.modeCurrent, ne_eq]; omega)
              · (simp only [Obj.npDeliverErrored, Obj.npHwWrapped, Obj.npMaxFrame, Obj.npRxDelayPs, Obj.npRxErrFcs, Obj.npRxErrL3l4, Obj.npRxErrPhy, Obj.npRxErrSize, Obj.npRxFrames, Obj.npRxModeDrops, Obj.npRxNoMatch, Obj.npRxOctets, Obj.modeCurrent, ne_eq]; omega)
              · (simp only [Obj.npDeliverErrored, Obj.npHwWrapped, Obj.npMaxFrame, Obj.npRxDelayPs, Obj.npRxErrFcs, Obj.npRxErrL3l4, Obj.npRxErrPhy, Obj.npRxErrSize, Obj.npRxFrames, Obj.npRxModeDrops, Obj.npRxNoMatch, Obj.npRxOctets, Obj.modeCurrent, ne_eq]; omega)
              · (simp only [Obj.npDeliverErrored, Obj.npHwWrapped, Obj.npMaxFrame, Obj.npRxDelayPs, Obj.npRxErrFcs, Obj.npRxErrL3l4, Obj.npRxErrPhy, Obj.npRxErrSize, Obj.npRxFrames, Obj.npRxModeDrops, Obj.npRxNoMatch, Obj.npRxOctets, Obj.modeCurrent, ne_eq]; omega)
            · (simp only [Obj.npDeliverErrored, Obj.npHwWrapped, Obj.npMaxFrame, Obj.npRxDelayPs, Obj.npRxErrFcs, Obj.npRxErrL3l4, Obj.npRxErrPhy, Obj.npRxErrSize, Obj.npRxFrames, Obj.npRxModeDrops, Obj.npRxNoMatch, Obj.npRxOctets, Obj.modeCurrent, ne_eq]; omega)
          · (simp only [Obj.npDeliverErrored, Obj.npHwWrapped, Obj.npMaxFrame, Obj.npRxDelayPs, Obj.npRxErrFcs, Obj.npRxErrL3l4, Obj.npRxErrPhy, Obj.npRxErrSize, Obj.npRxFrames, Obj.npRxModeDrops, Obj.npRxNoMatch, Obj.npRxOctets, Obj.modeCurrent, ne_eq]; omega)
          · (simp only [Obj.npDeliverErrored, Obj.npHwWrapped, Obj.npMaxFrame, Obj.npRxDelayPs, Obj.npRxErrFcs, Obj.npRxErrL3l4, Obj.npRxErrPhy, Obj.npRxErrSize, Obj.npRxFrames, Obj.npRxModeDrops, Obj.npRxNoMatch, Obj.npRxOctets, Obj.modeCurrent, ne_eq]; omega)
          · (simp only [Obj.npDeliverErrored, Obj.npHwWrapped, Obj.npMaxFrame, Obj.npRxDelayPs, Obj.npRxErrFcs, Obj.npRxErrL3l4, Obj.npRxErrPhy, Obj.npRxErrSize, Obj.npRxFrames, Obj.npRxModeDrops, Obj.npRxNoMatch, Obj.npRxOctets, Obj.modeCurrent, ne_eq]; omega)
          · (simp only [Obj.npDeliverErrored, Obj.npHwWrapped, Obj.npMaxFrame, Obj.npRxDelayPs, Obj.npRxErrFcs, Obj.npRxErrL3l4, Obj.npRxErrPhy, Obj.npRxErrSize, Obj.npRxFrames, Obj.npRxModeDrops, Obj.npRxNoMatch, Obj.npRxOctets, Obj.modeCurrent, ne_eq]; omega)
        · (simp only [Obj.npDeliverErrored, Obj.npHwWrapped, Obj.npMaxFrame, Obj.npRxDelayPs, Obj.npRxErrFcs, Obj.npRxErrL3l4, Obj.npRxErrPhy, Obj.npRxErrSize, Obj.npRxFrames, Obj.npRxModeDrops, Obj.npRxNoMatch, Obj.npRxOctets, Obj.modeCurrent, ne_eq]; omega)
      · with_reducible apply Halted.inc
        · with_reducible refine Halted.ite ?_ (State.addHw_halted _ _ _ _ _ ?_ ?_ (State.addHw_halted _ _ _ _ _ ?_ ?_ (by assumption)))
          · with_reducible apply Halted.inc
            · with_reducible refine State.addHw_halted _ _ _ _ _ ?_ ?_ (State.addHw_halted _ _ _ _ _ ?_ ?_ (by assumption))
              · (simp only [Obj.npDeliverErrored, Obj.npHwWrapped, Obj.npMaxFrame, Obj.npRxDelayPs, Obj.npRxErrFcs, Obj.npRxErrL3l4, Obj.npRxErrPhy, Obj.npRxErrSize, Obj.npRxFrames, Obj.npRxModeDrops, Obj.npRxNoMatch, Obj.npRxOctets, Obj.modeCurrent, ne_eq]; omega)
              · (simp only [Obj.npDeliverErrored, Obj.npHwWrapped, Obj.npMaxFrame, Obj.npRxDelayPs, Obj.npRxErrFcs, Obj.npRxErrL3l4, Obj.npRxErrPhy, Obj.npRxErrSize, Obj.npRxFrames, Obj.npRxModeDrops, Obj.npRxNoMatch, Obj.npRxOctets, Obj.modeCurrent, ne_eq]; omega)
              · (simp only [Obj.npDeliverErrored, Obj.npHwWrapped, Obj.npMaxFrame, Obj.npRxDelayPs, Obj.npRxErrFcs, Obj.npRxErrL3l4, Obj.npRxErrPhy, Obj.npRxErrSize, Obj.npRxFrames, Obj.npRxModeDrops, Obj.npRxNoMatch, Obj.npRxOctets, Obj.modeCurrent, ne_eq]; omega)
              · (simp only [Obj.npDeliverErrored, Obj.npHwWrapped, Obj.npMaxFrame, Obj.npRxDelayPs, Obj.npRxErrFcs, Obj.npRxErrL3l4, Obj.npRxErrPhy, Obj.npRxErrSize, Obj.npRxFrames, Obj.npRxModeDrops, Obj.npRxNoMatch, Obj.npRxOctets, Obj.modeCurrent, ne_eq]; omega)
            · (simp only [Obj.npDeliverErrored, Obj.npHwWrapped, Obj.npMaxFrame, Obj.npRxDelayPs, Obj.npRxErrFcs, Obj.npRxErrL3l4, Obj.npRxErrPhy, Obj.npRxErrSize, Obj.npRxFrames, Obj.npRxModeDrops, Obj.npRxNoMatch, Obj.npRxOctets, Obj.modeCurrent, ne_eq]; omega)
          · (simp only [Obj.npDeliverErrored, Obj.npHwWrapped, Obj.npMaxFrame, Obj.npRxDelayPs, Obj.npRxErrFcs, Obj.npRxErrL3l4, Obj.npRxErrPhy, Obj.npRxErrSize, Obj.npRxFrames, Obj.npRxModeDrops, Obj.npRxNoMatch, Obj.npRxOctets, Obj.modeCurrent, ne_eq]; omega)
          · (simp only [Obj.npDeliverErrored, Obj.npHwWrapped, Obj.npMaxFrame, Obj.npRxDelayPs, Obj.npRxErrFcs, Obj.npRxErrL3l4, Obj.npRxErrPhy, Obj.npRxErrSize, Obj.npRxFrames, Obj.npRxModeDrops, Obj.npRxNoMatch, Obj.npRxOctets, Obj.modeCurrent, ne_eq]; omega)
          · (simp only [Obj.npDeliverErrored, Obj.npHwWrapped, Obj.npMaxFrame, Obj.npRxDelayPs, Obj.npRxErrFcs, Obj.npRxErrL3l4, Obj.npRxErrPhy, Obj.npRxErrSize, Obj.npRxFrames, Obj.npRxModeDrops, Obj.npRxNoMatch, Obj.npRxOctets, Obj.modeCurrent, ne_eq]; omega)
          · (simp only [Obj.npDeliverErrored, Obj.npHwWrapped, Obj.npMaxFrame, Obj.npRxDelayPs, Obj.npRxErrFcs, Obj.npRxErrL3l4, Obj.npRxErrPhy, Obj.npRxErrSize, Obj.npRxFrames, Obj.npRxModeDrops, Obj.npRxNoMatch, Obj.npRxOctets, Obj.modeCurrent, ne_eq]; omega)
        · (simp only [Obj.npDeliverErrored, Obj.npHwWrapped, Obj.npMaxFrame, Obj.npRxDelayPs, Obj.npRxErrFcs, Obj.npRxErrL3l4, Obj.npRxErrPhy, Obj.npRxErrSize, Obj.npRxFrames, Obj.npRxModeDrops, Obj.npRxNoMatch, Obj.npRxOctets, Obj.modeCurrent, ne_eq]; omega)
      · with_reducible apply Halted.inc
        · with_reducible refine State.addHw_halted _ _ _ _ _ ?_ ?_ (State.addHw_halted _ _ _ _ _ ?_ ?_ (by assumption))
          · (simp only [Obj.npDeliverErrored, Obj.npHwWrapped, Obj.npMaxFrame, Obj.npRxDelayPs, Obj.npRxErrFcs, Obj.npRxErrL3l4, Obj.npRxErrPhy, Obj.npRxErrSize, Obj.npRxFrames, Obj.npRxModeDrops, Obj.npRxNoMatch, Obj.npRxOctets, Obj.modeCurrent, ne_eq]; omega)
          · (simp only [Obj.npDeliverErrored, Obj.npHwWrapped, Obj.npMaxFrame, Obj.npRxDelayPs, Obj.npRxErrFcs, Obj.npRxErrL3l4, Obj.npRxErrPhy, Obj.npRxErrSize, Obj.npRxFrames, Obj.npRxModeDrops, Obj.npRxNoMatch, Obj.npRxOctets, Obj.modeCurrent, ne_eq]; omega)
          · (simp only [Obj.npDeliverErrored, Obj.npHwWrapped, Obj.npMaxFrame, Obj.npRxDelayPs, Obj.npRxErrFcs, Obj.npRxErrL3l4, Obj.npRxErrPhy, Obj.npRxErrSize, Obj.npRxFrames, Obj.npRxModeDrops, Obj.npRxNoMatch, Obj.npRxOctets, Obj.modeCurrent, ne_eq]; omega)
          · (simp only [Obj.npDeliverErrored, Obj.npHwWrapped, Obj.npMaxFrame, Obj.npRxDelayPs, Obj.npRxErrFcs, Obj.npRxErrL3l4, Obj.npRxErrPhy, Obj.npRxErrSize, Obj.npRxFrames, Obj.npRxModeDrops, Obj.npRxNoMatch, Obj.npRxOctets, Obj.modeCurrent, ne_eq]; omega)
        · (simp only [Obj.npDeliverErrored, Obj.npHwWrapped, Obj.npMaxFrame, Obj.npRxDelayPs, Obj.npRxErrFcs, Obj.npRxErrL3l4, Obj.npRxErrPhy, Obj.npRxErrSize, Obj.npRxFrames, Obj.npRxModeDrops, Obj.npRxNoMatch, Obj.npRxOctets, Obj.modeCurrent, ne_eq]; omega)
      · (simp only [Obj.npDeliverErrored, Obj.npHwWrapped, Obj.npMaxFrame, Obj.npRxDelayPs, Obj.npRxErrFcs, Obj.npRxErrL3l4, Obj.npRxErrPhy, Obj.npRxErrSize, Obj.npRxFrames, Obj.npRxModeDrops, Obj.npRxNoMatch, Obj.npRxOctets, Obj.modeCurrent, ne_eq]; omega)
      · (simp only [Obj.npDeliverErrored, Obj.npHwWrapped, Obj.npMaxFrame, Obj.npRxDelayPs, Obj.npRxErrFcs, Obj.npRxErrL3l4, Obj.npRxErrPhy, Obj.npRxErrSize, Obj.npRxFrames, Obj.npRxModeDrops, Obj.npRxNoMatch, Obj.npRxOctets, Obj.modeCurrent, ne_eq]; omega)
      · (simp only [Obj.npDeliverErrored, Obj.npHwWrapped, Obj.npMaxFrame, Obj.npRxDelayPs, Obj.npRxErrFcs, Obj.npRxErrL3l4, Obj.npRxErrPhy, Obj.npRxErrSize, Obj.npRxFrames, Obj.npRxModeDrops, Obj.npRxNoMatch, Obj.npRxOctets, Obj.modeCurrent, ne_eq]; omega)
      · (simp only [Obj.npDeliverErrored, Obj.npHwWrapped, Obj.npMaxFrame, Obj.npRxDelayPs, Obj.npRxErrFcs, Obj.npRxErrL3l4, Obj.npRxErrPhy, Obj.npRxErrSize, Obj.npRxFrames, Obj.npRxModeDrops, Obj.npRxNoMatch, Obj.npRxOctets, Obj.modeCurrent, ne_eq]; omega)
    · (simp only [Obj.npDeliverErrored, Obj.npHwWrapped, Obj.npMaxFrame, Obj.npRxDelayPs, Obj.npRxErrFcs, Obj.npRxErrL3l4, Obj.npRxErrPhy, Obj.npRxErrSize, Obj.npRxFrames, Obj.npRxModeDrops, Obj.npRxNoMatch, Obj.npRxOctets, Obj.modeCurrent, ne_eq]; omega)
  · with_reducible apply Halted.inc
    · with_reducible refine Halted.ite ?_ (Halted.ite ?_ (State.addHw_halted _ _ _ _ _ ?_ ?_ (State.addHw_halted _ _ _ _ _ ?_ ?_
                       (by assumption))))
      · with_reducible apply Halted.inc
        · with_reducible refine Halted.ite ?_ (State.addHw_halted _ _ _ _ _ ?_ ?_ (State.addHw_halted _ _ _ _ _ ?_ ?_ (by assumption)))
          · with_reducible apply Halted.inc
            · with_reducible refine State.addHw_halted _ _ _ _ _ ?_ ?_ (State.addHw_halted _ _ _ _ _ ?_ ?_ (by assumption))
              · (simp only [Obj.npDeliverErrored, Obj.npHwWrapped, Obj.npMaxFrame, Obj.npRxDelayPs, Obj.npRxErrFcs, Obj.npRxErrL3l4, Obj.npRxErrPhy, Obj.npRxErrSize, Obj.npRxFrames, Obj.npRxModeDrops, Obj.npRxNoMatch, Obj.npRxOctets, Obj.modeCurrent, ne_eq]; omega)
              · (simp only [Obj.npDeliverErrored, Obj.npHwWrapped, Obj.npMaxFrame, Obj.npRxDelayPs, Obj.npRxErrFcs, Obj.npRxErrL3l4, Obj.npRxErrPhy, Obj.npRxErrSize, Obj.npRxFrames, Obj.npRxModeDrops, Obj.npRxNoMatch, Obj.npRxOctets, Obj.modeCurrent, ne_eq]; omega)
              · (simp only [Obj.npDeliverErrored, Obj.npHwWrapped, Obj.npMaxFrame, Obj.npRxDelayPs, Obj.npRxErrFcs, Obj.npRxErrL3l4, Obj.npRxErrPhy, Obj.npRxErrSize, Obj.npRxFrames, Obj.npRxModeDrops, Obj.npRxNoMatch, Obj.npRxOctets, Obj.modeCurrent, ne_eq]; omega)
              · (simp only [Obj.npDeliverErrored, Obj.npHwWrapped, Obj.npMaxFrame, Obj.npRxDelayPs, Obj.npRxErrFcs, Obj.npRxErrL3l4, Obj.npRxErrPhy, Obj.npRxErrSize, Obj.npRxFrames, Obj.npRxModeDrops, Obj.npRxNoMatch, Obj.npRxOctets, Obj.modeCurrent, ne_eq]; omega)
            · (simp only [Obj.npDeliverErrored, Obj.npHwWrapped, Obj.npMaxFrame, Obj.npRxDelayPs, Obj.npRxErrFcs, Obj.npRxErrL3l4, Obj.npRxErrPhy, Obj.npRxErrSize, Obj.npRxFrames, Obj.npRxModeDrops, Obj.npRxNoMatch, Obj.npRxOctets, Obj.modeCurrent, ne_eq]; omega)
          · (simp only [Obj.npDeliverErrored, Obj.npHwWrapped, Obj.npMaxFrame, Obj.npRxDelayPs, Obj.npRxErrFcs, Obj.npRxErrL3l4, Obj.npRxErrPhy, Obj.npRxErrSize, Obj.npRxFrames, Obj.npRxModeDrops, Obj.npRxNoMatch, Obj.npRxOctets, Obj.modeCurrent, ne_eq]; omega)
          · (simp only [Obj.npDeliverErrored, Obj.npHwWrapped, Obj.npMaxFrame, Obj.npRxDelayPs, Obj.npRxErrFcs, Obj.npRxErrL3l4, Obj.npRxErrPhy, Obj.npRxErrSize, Obj.npRxFrames, Obj.npRxModeDrops, Obj.npRxNoMatch, Obj.npRxOctets, Obj.modeCurrent, ne_eq]; omega)
          · (simp only [Obj.npDeliverErrored, Obj.npHwWrapped, Obj.npMaxFrame, Obj.npRxDelayPs, Obj.npRxErrFcs, Obj.npRxErrL3l4, Obj.npRxErrPhy, Obj.npRxErrSize, Obj.npRxFrames, Obj.npRxModeDrops, Obj.npRxNoMatch, Obj.npRxOctets, Obj.modeCurrent, ne_eq]; omega)
          · (simp only [Obj.npDeliverErrored, Obj.npHwWrapped, Obj.npMaxFrame, Obj.npRxDelayPs, Obj.npRxErrFcs, Obj.npRxErrL3l4, Obj.npRxErrPhy, Obj.npRxErrSize, Obj.npRxFrames, Obj.npRxModeDrops, Obj.npRxNoMatch, Obj.npRxOctets, Obj.modeCurrent, ne_eq]; omega)
        · (simp only [Obj.npDeliverErrored, Obj.npHwWrapped, Obj.npMaxFrame, Obj.npRxDelayPs, Obj.npRxErrFcs, Obj.npRxErrL3l4, Obj.npRxErrPhy, Obj.npRxErrSize, Obj.npRxFrames, Obj.npRxModeDrops, Obj.npRxNoMatch, Obj.npRxOctets, Obj.modeCurrent, ne_eq]; omega)
      · with_reducible apply Halted.inc
        · with_reducible refine State.addHw_halted _ _ _ _ _ ?_ ?_ (State.addHw_halted _ _ _ _ _ ?_ ?_ (by assumption))
          · (simp only [Obj.npDeliverErrored, Obj.npHwWrapped, Obj.npMaxFrame, Obj.npRxDelayPs, Obj.npRxErrFcs, Obj.npRxErrL3l4, Obj.npRxErrPhy, Obj.npRxErrSize, Obj.npRxFrames, Obj.npRxModeDrops, Obj.npRxNoMatch, Obj.npRxOctets, Obj.modeCurrent, ne_eq]; omega)
          · (simp only [Obj.npDeliverErrored, Obj.npHwWrapped, Obj.npMaxFrame, Obj.npRxDelayPs, Obj.npRxErrFcs, Obj.npRxErrL3l4, Obj.npRxErrPhy, Obj.npRxErrSize, Obj.npRxFrames, Obj.npRxModeDrops, Obj.npRxNoMatch, Obj.npRxOctets, Obj.modeCurrent, ne_eq]; omega)
          · (simp only [Obj.npDeliverErrored, Obj.npHwWrapped, Obj.npMaxFrame, Obj.npRxDelayPs, Obj.npRxErrFcs, Obj.npRxErrL3l4, Obj.npRxErrPhy, Obj.npRxErrSize, Obj.npRxFrames, Obj.npRxModeDrops, Obj.npRxNoMatch, Obj.npRxOctets, Obj.modeCurrent, ne_eq]; omega)
          · (simp only [Obj.npDeliverErrored, Obj.npHwWrapped, Obj.npMaxFrame, Obj.npRxDelayPs, Obj.npRxErrFcs, Obj.npRxErrL3l4, Obj.npRxErrPhy, Obj.npRxErrSize, Obj.npRxFrames, Obj.npRxModeDrops, Obj.npRxNoMatch, Obj.npRxOctets, Obj.modeCurrent, ne_eq]; omega)
        · (simp only [Obj.npDeliverErrored, Obj.npHwWrapped, Obj.npMaxFrame, Obj.npRxDelayPs, Obj.npRxErrFcs, Obj.npRxErrL3l4, Obj.npRxErrPhy, Obj.npRxErrSize, Obj.npRxFrames, Obj.npRxModeDrops, Obj.npRxNoMatch, Obj.npRxOctets, Obj.modeCurrent, ne_eq]; omega)
      · (simp only [Obj.npDeliverErrored, Obj.npHwWrapped, Obj.npMaxFrame, Obj.npRxDelayPs, Obj.npRxErrFcs, Obj.npRxErrL3l4, Obj.npRxErrPhy, Obj.npRxErrSize, Obj.npRxFrames, Obj.npRxModeDrops, Obj.npRxNoMatch, Obj.npRxOctets, Obj.modeCurrent, ne_eq]; omega)
      · (simp only [Obj.npDeliverErrored, Obj.npHwWrapped, Obj.npMaxFrame, Obj.npRxDelayPs, Obj.npRxErrFcs, Obj.npRxErrL3l4, Obj.npRxErrPhy, Obj.npRxErrSize, Obj.npRxFrames, Obj.npRxModeDrops, Obj.npRxNoMatch, Obj.npRxOctets, Obj.modeCurrent, ne_eq]; omega)
      · (simp only [Obj.npDeliverErrored, Obj.npHwWrapped, Obj.npMaxFrame, Obj.npRxDelayPs, Obj.npRxErrFcs, Obj.npRxErrL3l4, Obj.npRxErrPhy, Obj.npRxErrSize, Obj.npRxFrames, Obj.npRxModeDrops, Obj.npRxNoMatch, Obj.npRxOctets, Obj.modeCurrent, ne_eq]; omega)
      · (simp only [Obj.npDeliverErrored, Obj.npHwWrapped, Obj.npMaxFrame, Obj.npRxDelayPs, Obj.npRxErrFcs, Obj.npRxErrL3l4, Obj.npRxErrPhy, Obj.npRxErrSize, Obj.npRxFrames, Obj.npRxModeDrops, Obj.npRxNoMatch, Obj.npRxOctets, Obj.modeCurrent, ne_eq]; omega)
    · (simp only [Obj.npDeliverErrored, Obj.npHwWrapped, Obj.npMaxFrame, Obj.npRxDelayPs, Obj.npRxErrFcs, Obj.npRxErrL3l4, Obj.npRxErrPhy, Obj.npRxErrSize, Obj.npRxFrames, Obj.npRxModeDrops, Obj.npRxNoMatch, Obj.npRxOctets, Obj.modeCurrent, ne_eq]; omega)
  · with_reducible apply Halted.inc
    · with_reducible refine Halted.ite ?_ (State.addHw_halted _ _ _ _ _ ?_ ?_ (State.addHw_halted _ _ _ _ _ ?_ ?_ (by assumption)))
      · with_reducible apply Halted.inc
        · with_reducible refine State.addHw_halted _ _ _ _ _ ?_ ?_ (State.addHw_halted _ _ _ _ _ ?_ ?_ (by assumption))
          · (simp only [Obj.npDeliverErrored, Obj.npHwWrapped, Obj.npMaxFrame, Obj.npRxDelayPs, Obj.npRxErrFcs, Obj.npRxErrL3l4, Obj.npRxErrPhy, Obj.npRxErrSize, Obj.npRxFrames, Obj.npRxModeDrops, Obj.npRxNoMatch, Obj.npRxOctets, Obj.modeCurrent, ne_eq]; omega)
          · (simp only [Obj.npDeliverErrored, Obj.npHwWrapped, Obj.npMaxFrame, Obj.npRxDelayPs, Obj.npRxErrFcs, Obj.npRxErrL3l4, Obj.npRxErrPhy, Obj.npRxErrSize, Obj.npRxFrames, Obj.npRxModeDrops, Obj.npRxNoMatch, Obj.npRxOctets, Obj.modeCurrent, ne_eq]; omega)
          · (simp only [Obj.npDeliverErrored, Obj.npHwWrapped, Obj.npMaxFrame, Obj.npRxDelayPs, Obj.npRxErrFcs, Obj.npRxErrL3l4, Obj.npRxErrPhy, Obj.npRxErrSize, Obj.npRxFrames, Obj.npRxModeDrops, Obj.npRxNoMatch, Obj.npRxOctets, Obj.modeCurrent, ne_eq]; omega)
          · (simp only [Obj.npDeliverErrored, Obj.npHwWrapped, Obj.npMaxFrame, Obj.npRxDelayPs, Obj.npRxErrFcs, Obj.npRxErrL3l4, Obj.npRxErrPhy, Obj.npRxErrSize, Obj.npRxFrames, Obj.npRxModeDrops, Obj.npRxNoMatch, Obj.npRxOctets, Obj.modeCurrent, ne_eq]; omega)
        · (simp only [Obj.npDeliverErrored, Obj.npHwWrapped, Obj.npMaxFrame, Obj.npRxDelayPs, Obj.npRxErrFcs, Obj.npRxErrL3l4, Obj.npRxErrPhy, Obj.npRxErrSize, Obj.npRxFrames, Obj.npRxModeDrops, Obj.npRxNoMatch, Obj.npRxOctets, Obj.modeCurrent, ne_eq]; omega)
      · (simp only [Obj.npDeliverErrored, Obj.npHwWrapped, Obj.npMaxFrame, Obj.npRxDelayPs, Obj.npRxErrFcs, Obj.npRxErrL3l4, Obj.npRxErrPhy, Obj.npRxErrSize, Obj.npRxFrames, Obj.npRxModeDrops, Obj.npRxNoMatch, Obj.npRxOctets, Obj.modeCurrent, ne_eq]; omega)
      · (simp only [Obj.npDeliverErrored, Obj.npHwWrapped, Obj.npMaxFrame, Obj.npRxDelayPs, Obj.npRxErrFcs, Obj.npRxErrL3l4, Obj.npRxErrPhy, Obj.npRxErrSize, Obj.npRxFrames, Obj.npRxModeDrops, Obj.npRxNoMatch, Obj.npRxOctets, Obj.modeCurrent, ne_eq]; omega)
      · (simp only [Obj.npDeliverErrored, Obj.npHwWrapped, Obj.npMaxFrame, Obj.npRxDelayPs, Obj.npRxErrFcs, Obj.npRxErrL3l4, Obj.npRxErrPhy, Obj.npRxErrSize, Obj.npRxFrames, Obj.npRxModeDrops, Obj.npRxNoMatch, Obj.npRxOctets, Obj.modeCurrent, ne_eq]; omega)
      · (simp only [Obj.npDeliverErrored, Obj.npHwWrapped, Obj.npMaxFrame, Obj.npRxDelayPs, Obj.npRxErrFcs, Obj.npRxErrL3l4, Obj.npRxErrPhy, Obj.npRxErrSize, Obj.npRxFrames, Obj.npRxModeDrops, Obj.npRxNoMatch, Obj.npRxOctets, Obj.modeCurrent, ne_eq]; omega)
    · (simp only [Obj.npDeliverErrored, Obj.npHwWrapped, Obj.npMaxFrame, Obj.npRxDelayPs, Obj.npRxErrFcs, Obj.npRxErrL3l4, Obj.npRxErrPhy, Obj.npRxErrSize, Obj.npRxFrames, Obj.npRxModeDrops, Obj.npRxNoMatch, Obj.npRxOctets, Obj.modeCurrent, ne_eq]; omega)
  · with_reducible apply Halted.inc
    · with_reducible refine State.addHw_halted _ _ _ _ _ ?_ ?_ (State.addHw_halted _ _ _ _ _ ?_ ?_ (by assumption))
      · (simp only [Obj.npDeliverErrored, Obj.npHwWrapped, Obj.npMaxFrame, Obj.npRxDelayPs, Obj.npRxErrFcs, Obj.npRxErrL3l4, Obj.npRxErrPhy, Obj.npRxErrSize, Obj.npRxFrames, Obj.npRxModeDrops, Obj.npRxNoMatch, Obj.npRxOctets, Obj.modeCurrent, ne_eq]; omega)
      · (simp only [Obj.npDeliverErrored, Obj.npHwWrapped, Obj.npMaxFrame, Obj.npRxDelayPs, Obj.npRxErrFcs, Obj.npRxErrL3l4, Obj.npRxErrPhy, Obj.npRxErrSize, Obj.npRxFrames, Obj.npRxModeDrops, Obj.npRxNoMatch, Obj.npRxOctets, Obj.modeCurrent, ne_eq]; omega)
      · (simp only [Obj.npDeliverErrored, Obj.npHwWrapped, Obj.npMaxFrame, Obj.npRxDelayPs, Obj.npRxErrFcs, Obj.npRxErrL3l4, Obj.npRxErrPhy, Obj.npRxErrSize, Obj.npRxFrames, Obj.npRxModeDrops, Obj.npRxNoMatch, Obj.npRxOctets, Obj.modeCurrent, ne_eq]; omega)
      · (simp only [Obj.npDeliverErrored, Obj.npHwWrapped, Obj.npMaxFrame, Obj.npRxDelayPs, Obj.npRxErrFcs, Obj.npRxErrL3l4, Obj.npRxErrPhy, Obj.npRxErrSize, Obj.npRxFrames, Obj.npRxModeDrops, Obj.npRxNoMatch, Obj.npRxOctets, Obj.modeCurrent, ne_eq]; omega)
    · (simp only [Obj.npDeliverErrored, Obj.npHwWrapped, Obj.npMaxFrame, Obj.npRxDelayPs, Obj.npRxErrFcs, Obj.npRxErrL3l4, Obj.npRxErrPhy, Obj.npRxErrSize, Obj.npRxFrames, Obj.npRxModeDrops, Obj.npRxNoMatch, Obj.npRxOctets, Obj.modeCurrent, ne_eq]; omega)
  · (simp only [Obj.npDeliverErrored, Obj.npHwWrapped, Obj.npMaxFrame, Obj.npRxDelayPs, Obj.npRxErrFcs, Obj.npRxErrL3l4, Obj.npRxErrPhy, Obj.npRxErrSize, Obj.npRxFrames, Obj.npRxModeDrops, Obj.npRxNoMatch, Obj.npRxOctets, Obj.modeCurrent, ne_eq]; omega)
  · (simp only [Obj.npDeliverErrored, Obj.npHwWrapped, Obj.npMaxFrame, Obj.npRxDelayPs, Obj.npRxErrFcs, Obj.npRxErrL3l4, Obj.npRxErrPhy, Obj.npRxErrSize, Obj.npRxFrames, Obj.npRxModeDrops, Obj.npRxNoMatch, Obj.npRxOctets, Obj.modeCurrent, ne_eq]; omega)
  · (simp only [Obj.npDeliverErrored, Obj.npHwWrapped, Obj.npMaxFrame, Obj.npRxDelayPs, Obj.npRxErrFcs, Obj.npRxErrL3l4, Obj.npRxErrPhy, Obj.npRxErrSize, Obj.npRxFrames, Obj.npRxModeDrops, Obj.npRxNoMatch, Obj.npRxOctets, Obj.modeCurrent, ne_eq]; omega)
  · (simp only [Obj.npDeliverErrored, Obj.npHwWrapped, Obj.npMaxFrame, Obj.npRxDelayPs, Obj.npRxErrFcs, Obj.npRxErrL3l4, Obj.npRxErrPhy, Obj.npRxErrSize, Obj.npRxFrames, Obj.npRxModeDrops, Obj.npRxNoMatch, Obj.npRxOctets, Obj.modeCurrent, ne_eq]; omega)
  · (simp only [Obj.npDeliverErrored, Obj.npHwWrapped, Obj.npMaxFrame, Obj.npRxDelayPs, Obj.npRxErrFcs, Obj.npRxErrL3l4, Obj.npRxErrPhy, Obj.npRxErrSize, Obj.npRxFrames, Obj.npRxModeDrops, Obj.npRxNoMatch, Obj.npRxOctets, Obj.modeCurrent, ne_eq]; omega)
  · (simp only [Obj.npDeliverErrored, Obj.npHwWrapped, Obj.npMaxFrame, Obj.npRxDelayPs, Obj.npRxErrFcs, Obj.npRxErrL3l4, Obj.npRxErrPhy, Obj.npRxErrSize, Obj.npRxFrames, Obj.npRxModeDrops, Obj.npRxNoMatch, Obj.npRxOctets, Obj.modeCurrent, ne_eq]; omega)
  · (simp only [Obj.npDeliverErrored, Obj.npHwWrapped, Obj.npMaxFrame, Obj.npRxDelayPs, Obj.npRxErrFcs, Obj.npRxErrL3l4, Obj.npRxErrPhy, Obj.npRxErrSize, Obj.npRxFrames, Obj.npRxModeDrops, Obj.npRxNoMatch, Obj.npRxOctets, Obj.modeCurrent, ne_eq]; omega)
  · (simp only [Obj.npDeliverErrored, Obj.npHwWrapped, Obj.npMaxFrame, Obj.npRxDelayPs, Obj.npRxErrFcs, Obj.npRxErrL3l4, Obj.npRxErrPhy, Obj.npRxErrSize, Obj.npRxFrames, Obj.npRxModeDrops, Obj.npRxNoMatch, Obj.npRxOctets, Obj.modeCurrent, ne_eq]; omega)
  · (simp only [Obj.npDeliverErrored, Obj.npHwWrapped, Obj.npMaxFrame, Obj.npRxDelayPs, Obj.npRxErrFcs, Obj.npRxErrL3l4, Obj.npRxErrPhy, Obj.npRxErrSize, Obj.npRxFrames, Obj.npRxModeDrops, Obj.npRxNoMatch, Obj.npRxOctets, Obj.modeCurrent, ne_eq]; omega)
  · (simp only [Obj.npDeliverErrored, Obj.npHwWrapped, Obj.npMaxFrame, Obj.npRxDelayPs, Obj.npRxErrFcs, Obj.npRxErrL3l4, Obj.npRxErrPhy, Obj.npRxErrSize, Obj.npRxFrames, Obj.npRxModeDrops, Obj.npRxNoMatch, Obj.npRxOctets, Obj.modeCurrent, ne_eq]; omega)
  · (simp only [Obj.npDeliverErrored, Obj.npHwWrapped, Obj.npMaxFrame, Obj.npRxDelayPs, Obj.npRxErrFcs, Obj.npRxErrL3l4, Obj.npRxErrPhy, Obj.npRxErrSize, Obj.npRxFrames, Obj.npRxModeDrops, Obj.npRxNoMatch, Obj.npRxOctets, Obj.modeCurrent, ne_eq]; omega)
  · (simp only [Obj.npDeliverErrored, Obj.npHwWrapped, Obj.npMaxFrame, Obj.npRxDelayPs, Obj.npRxErrFcs, Obj.npRxErrL3l4, Obj.npRxErrPhy, Obj.npRxErrSize, Obj.npRxFrames, Obj.npRxModeDrops, Obj.npRxNoMatch, Obj.npRxOctets, Obj.modeCurrent, ne_eq]; omega)

theorem State.functionReset_halted (s : Sys2Proof.Machine.State) (a1 : Nat) (h : Halted s) : Halted (State.functionReset s a1) := by
  unfold State.functionReset
  dsimp only
  simp only [State.mk_make]
  with_reducible refine Halted.foldl (fun _ _ _ => Halted.ite (Halted.of (State.addLost_frame _ _ _) (Halted.of (State.setNotices_frame _ _
                   _) (by assumption) ?_) ?_) (State.setChan__halted _ _ _ (Halted.of (State.addLost_frame _ _ _) (Halted.of (State.setNotices_frame _ _ _)
                   (by assumption) ?_) ?_))) (Halted.of (State.ringOff_frame _ _ _ _) (Halted.of (State.ringOff_frame _ _ _ _) (Halted.foldl (fun _ _ _ =>
                   Halted.of (State.ringOff_frame _ _ _ _) (Halted.of (State.ringOff_frame _ _ _ _) (by assumption) ?_) ?_) ?_) ?_) ?_)
  · rfl
  · rfl
  · rfl
  · rfl
  · rfl
  · rfl
  · with_reducible apply Halted.inc
    · with_reducible exact Halted.mk1 (by assumption)
    · with_reducible exact (by decide)
  · rfl
  · rfl

theorem State.refGate_halted (s : Sys2Proof.Machine.State) (a1 : Nat) (a2 : Int) (h : Halted s) : Halted (State.refGate s a1 a2) := by
  unfold State.refGate
  dsimp only
  with_reducible refine Halted.ite (by assumption) (Halted.ite (Halted.ite (State.refEnter_halted _ _ _ ?_) (Halted.of (State.setRef_frame _
                   _ _) ?_ ?_)) (Halted.ite (State.refEnter_halted _ _ _ ?_) ?_))
  · with_reducible apply Halted.setO
    · with_reducible exact (by assumption)
    · (simp only [Obj.refAcceptLimit, Obj.refFreqOffset, Obj.refRejectLimit, Obj.modeCurrent, ne_eq]; omega)
  · with_reducible apply Halted.setO
    · with_reducible exact (by assumption)
    · (simp only [Obj.refAcceptLimit, Obj.refFreqOffset, Obj.refRejectLimit, Obj.modeCurrent, ne_eq]; omega)
  · rfl
  · with_reducible apply Halted.setO
    · with_reducible exact (by assumption)
    · (simp only [Obj.refAcceptLimit, Obj.refFreqOffset, Obj.refRejectLimit, Obj.modeCurrent, ne_eq]; omega)
  · with_reducible apply Halted.setO
    · with_reducible exact (by assumption)
    · (simp only [Obj.refAcceptLimit, Obj.refFreqOffset, Obj.refRejectLimit, Obj.modeCurrent, ne_eq]; omega)

theorem State.gateClosed_halted (s : Sys2Proof.Machine.State) (a1 : Nat) (h : Halted s) : Halted (State.gateClosed s a1) := by
  unfold State.gateClosed
  dsimp only
  split
  · with_reducible exact State.aplltReact_halted _ (State.refBoundaryF_halted _ _ (Halted.ite (State.refGate_halted _ _ _
                     (State.endGate_halted _ _ (by assumption))) (State.endGate_halted _ _ (by assumption))))
  · with_reducible exact State.refBoundaryF_halted _ _ (State.endGate_halted _ _ (by assumption))

theorem State.showNotches_halted (s : Sys2Proof.Machine.State) (a1 : Nat) (h : Halted s) : Halted (State.showNotches s a1) := by
  unfold State.showNotches
  dsimp only
  with_reducible refine Halted.of (State.setBlob_frame _ _ _) (Halted.setN (by assumption) ?_) ?_
  · (simp only [Obj.notchActive, Obj.notchFreq, Obj.modeCurrent, ne_eq]; omega)
  · rfl

theorem State.notchesNow_halted (s : Sys2Proof.Machine.State) (a1 : Nat) (h : Halted s) : Halted (State.notchesNow s a1) := by
  unfold State.notchesNow
  dsimp only
  split
  · with_reducible exact Halted.ite (by assumption) (State.showNotches_halted _ _ (by assumption))
  · with_reducible refine State.showNotches_halted _ _ (Halted.of (State.setStrm_frame _ _ _) (by assumption) ?_)
    rfl

theorem State.streamEpoch_halted (s : Sys2Proof.Machine.State) (a1 : Nat) (a2 : List Sys2Proof.Octets) (h : Halted s) : Halted (State.streamEpoch s a1 a2) := by
  unfold State.streamEpoch
  dsimp only
  with_reducible refine Halted.ite (Halted.ite (Halted.of (State.setStrm_frame _ _ _) (by assumption) ?_) (by assumption)) (Halted.ite ?_
                   (Halted.setN (Halted.of (State.setStrm_frame _ _ _) (Halted.ite (Halted.ite ?_ (State.addHwKey_halted _ _ _ ?_ (State.addHwKey_halted _ _
                   _ ?_ (Halted.setN (by assumption) ?_)))) (Halted.setN (Halted.ite ?_ (State.addHwKey_halted _ _ _ ?_ (State.addHwKey_halted _ _ _ ?_
                   (Halted.setN (by assumption) ?_)))) ?_)) ?_) ?_))
  · rfl
  · with_reducible apply Halted.setO
    · with_reducible refine Halted.of (State.setStrm_frame _ _ _) (Halted.ite (Halted.ite ?_ (State.addHwKey_halted _ _ _ ?_
                       (State.addHwKey_halted _ _ _ ?_ (Halted.setN (by assumption) ?_)))) (Halted.setN (Halted.ite ?_ (State.addHwKey_halted _ _ _ ?_
                       (State.addHwKey_halted _ _ _ ?_ (Halted.setN (by assumption) ?_)))) ?_)) ?_
      · with_reducible apply Halted.inc
        · with_reducible refine State.addHwKey_halted _ _ _ ?_ (State.addHwKey_halted _ _ _ ?_ (Halted.setN (by assumption) ?_))
          · (simp only [Obj.blankDuty, Obj.blankDutyMax, Obj.blankK, Obj.blankPost, Obj.blankPre, Obj.blankSamples, Obj.jammedEpochs, Obj.linkBands, Obj.linkState, Obj.notchR, Obj.reqFixedStep, Obj.reqMode, Obj.reqRatio, Obj.reqStep, Obj.sampleDivider, Obj.streamClipped, Obj.streamRms, Obj.modeCurrent, ne_eq]; omega)
          · (simp only [Obj.blankDuty, Obj.blankDutyMax, Obj.blankK, Obj.blankPost, Obj.blankPre, Obj.blankSamples, Obj.jammedEpochs, Obj.linkBands, Obj.linkState, Obj.notchR, Obj.reqFixedStep, Obj.reqMode, Obj.reqRatio, Obj.reqStep, Obj.sampleDivider, Obj.streamClipped, Obj.streamRms, Obj.modeCurrent, ne_eq]; omega)
          · (simp only [Obj.blankDuty, Obj.blankDutyMax, Obj.blankK, Obj.blankPost, Obj.blankPre, Obj.blankSamples, Obj.jammedEpochs, Obj.linkBands, Obj.linkState, Obj.notchR, Obj.reqFixedStep, Obj.reqMode, Obj.reqRatio, Obj.reqStep, Obj.sampleDivider, Obj.streamClipped, Obj.streamRms, Obj.modeCurrent, ne_eq]; omega)
        · (simp only [Obj.blankDuty, Obj.blankDutyMax, Obj.blankK, Obj.blankPost, Obj.blankPre, Obj.blankSamples, Obj.jammedEpochs, Obj.linkBands, Obj.linkState, Obj.notchR, Obj.reqFixedStep, Obj.reqMode, Obj.reqRatio, Obj.reqStep, Obj.sampleDivider, Obj.streamClipped, Obj.streamRms, Obj.modeCurrent, ne_eq]; omega)
      · (simp only [Obj.blankDuty, Obj.blankDutyMax, Obj.blankK, Obj.blankPost, Obj.blankPre, Obj.blankSamples, Obj.jammedEpochs, Obj.linkBands, Obj.linkState, Obj.notchR, Obj.reqFixedStep, Obj.reqMode, Obj.reqRatio, Obj.reqStep, Obj.sampleDivider, Obj.streamClipped, Obj.streamRms, Obj.modeCurrent, ne_eq]; omega)
      · (simp only [Obj.blankDuty, Obj.blankDutyMax, Obj.blankK, Obj.blankPost, Obj.blankPre, Obj.blankSamples, Obj.jammedEpochs, Obj.linkBands, Obj.linkState, Obj.notchR, Obj.reqFixedStep, Obj.reqMode, Obj.reqRatio, Obj.reqStep, Obj.sampleDivider, Obj.streamClipped, Obj.streamRms, Obj.modeCurrent, ne_eq]; omega)
      · (simp only [Obj.blankDuty, Obj.blankDutyMax, Obj.blankK, Obj.blankPost, Obj.blankPre, Obj.blankSamples, Obj.jammedEpochs, Obj.linkBands, Obj.linkState, Obj.notchR, Obj.reqFixedStep, Obj.reqMode, Obj.reqRatio, Obj.reqStep, Obj.sampleDivider, Obj.streamClipped, Obj.streamRms, Obj.modeCurrent, ne_eq]; omega)
      · with_reducible apply Halted.inc
        · with_reducible refine State.addHwKey_halted _ _ _ ?_ (State.addHwKey_halted _ _ _ ?_ (Halted.setN (by assumption) ?_))
          · (simp only [Obj.blankDuty, Obj.blankDutyMax, Obj.blankK, Obj.blankPost, Obj.blankPre, Obj.blankSamples, Obj.jammedEpochs, Obj.linkBands, Obj.linkState, Obj.notchR, Obj.reqFixedStep, Obj.reqMode, Obj.reqRatio, Obj.reqStep, Obj.sampleDivider, Obj.streamClipped, Obj.streamRms, Obj.modeCurrent, ne_eq]; omega)
          · (simp only [Obj.blankDuty, Obj.blankDutyMax, Obj.blankK, Obj.blankPost, Obj.blankPre, Obj.blankSamples, Obj.jammedEpochs, Obj.linkBands, Obj.linkState, Obj.notchR, Obj.reqFixedStep, Obj.reqMode, Obj.reqRatio, Obj.reqStep, Obj.sampleDivider, Obj.streamClipped, Obj.streamRms, Obj.modeCurrent, ne_eq]; omega)
          · (simp only [Obj.blankDuty, Obj.blankDutyMax, Obj.blankK, Obj.blankPost, Obj.blankPre, Obj.blankSamples, Obj.jammedEpochs, Obj.linkBands, Obj.linkState, Obj.notchR, Obj.reqFixedStep, Obj.reqMode, Obj.reqRatio, Obj.reqStep, Obj.sampleDivider, Obj.streamClipped, Obj.streamRms, Obj.modeCurrent, ne_eq]; omega)
        · (simp only [Obj.blankDuty, Obj.blankDutyMax, Obj.blankK, Obj.blankPost, Obj.blankPre, Obj.blankSamples, Obj.jammedEpochs, Obj.linkBands, Obj.linkState, Obj.notchR, Obj.reqFixedStep, Obj.reqMode, Obj.reqRatio, Obj.reqStep, Obj.sampleDivider, Obj.streamClipped, Obj.streamRms, Obj.modeCurrent, ne_eq]; omega)
      · (simp only [Obj.blankDuty, Obj.blankDutyMax, Obj.blankK, Obj.blankPost, Obj.blankPre, Obj.blankSamples, Obj.jammedEpochs, Obj.linkBands, Obj.linkState, Obj.notchR, Obj.reqFixedStep, Obj.reqMode, Obj.reqRatio, Obj.reqStep, Obj.sampleDivider, Obj.streamClipped, Obj.streamRms, Obj.modeCurrent, ne_eq]; omega)
      · (simp only [Obj.blankDuty, Obj.blankDutyMax, Obj.blankK, Obj.blankPost, Obj.blankPre, Obj.blankSamples, Obj.jammedEpochs, Obj.linkBands, Obj.linkState, Obj.notchR, Obj.reqFixedStep, Obj.reqMode, Obj.reqRatio, Obj.reqStep, Obj.sampleDivider, Obj.streamClipped, Obj.streamRms, Obj.modeCurrent, ne_eq]; omega)
      · (simp only [Obj.blankDuty, Obj.blankDutyMax, Obj.blankK, Obj.blankPost, Obj.blankPre, Obj.blankSamples, Obj.jammedEpochs, Obj.linkBands, Obj.linkState, Obj.notchR, Obj.reqFixedStep, Obj.reqMode, Obj.reqRatio, Obj.reqStep, Obj.sampleDivider, Obj.streamClipped, Obj.streamRms, Obj.modeCurrent, ne_eq]; omega)
      · (simp only [Obj.blankDuty, Obj.blankDutyMax, Obj.blankK, Obj.blankPost, Obj.blankPre, Obj.blankSamples, Obj.jammedEpochs, Obj.linkBands, Obj.linkState, Obj.notchR, Obj.reqFixedStep, Obj.reqMode, Obj.reqRatio, Obj.reqStep, Obj.sampleDivider, Obj.streamClipped, Obj.streamRms, Obj.modeCurrent, ne_eq]; omega)
      · rfl
    · (simp only [Obj.blankDuty, Obj.blankDutyMax, Obj.blankK, Obj.blankPost, Obj.blankPre, Obj.blankSamples, Obj.jammedEpochs, Obj.linkBands, Obj.linkState, Obj.notchR, Obj.reqFixedStep, Obj.reqMode, Obj.reqRatio, Obj.reqStep, Obj.sampleDivider, Obj.streamClipped, Obj.streamRms, Obj.modeCurrent, ne_eq]; omega)
  · with_reducible apply Halted.inc
    · with_reducible refine State.addHwKey_halted _ _ _ ?_ (State.addHwKey_halted _ _ _ ?_ (Halted.setN (by assumption) ?_))
      · (simp only [Obj.blankDuty, Obj.blankDutyMax, Obj.blankK, Obj.blankPost, Obj.blankPre, Obj.blankSamples, Obj.jammedEpochs, Obj.linkBands, Obj.linkState, Obj.notchR, Obj.reqFixedStep, Obj.reqMode, Obj.reqRatio, Obj.reqStep, Obj.sampleDivider, Obj.streamClipped, Obj.streamRms, Obj.modeCurrent, ne_eq]; omega)
      · (simp only [Obj.blankDuty, Obj.blankDutyMax, Obj.blankK, Obj.blankPost, Obj.blankPre, Obj.blankSamples, Obj.jammedEpochs, Obj.linkBands, Obj.linkState, Obj.notchR, Obj.reqFixedStep, Obj.reqMode, Obj.reqRatio, Obj.reqStep, Obj.sampleDivider, Obj.streamClipped, Obj.streamRms, Obj.modeCurrent, ne_eq]; omega)
      · (simp only [Obj.blankDuty, Obj.blankDutyMax, Obj.blankK, Obj.blankPost, Obj.blankPre, Obj.blankSamples, Obj.jammedEpochs, Obj.linkBands, Obj.linkState, Obj.notchR, Obj.reqFixedStep, Obj.reqMode, Obj.reqRatio, Obj.reqStep, Obj.sampleDivider, Obj.streamClipped, Obj.streamRms, Obj.modeCurrent, ne_eq]; omega)
    · (simp only [Obj.blankDuty, Obj.blankDutyMax, Obj.blankK, Obj.blankPost, Obj.blankPre, Obj.blankSamples, Obj.jammedEpochs, Obj.linkBands, Obj.linkState, Obj.notchR, Obj.reqFixedStep, Obj.reqMode, Obj.reqRatio, Obj.reqStep, Obj.sampleDivider, Obj.streamClipped, Obj.streamRms, Obj.modeCurrent, ne_eq]; omega)
  · (simp only [Obj.blankDuty, Obj.blankDutyMax, Obj.blankK, Obj.blankPost, Obj.blankPre, Obj.blankSamples, Obj.jammedEpochs, Obj.linkBands, Obj.linkState, Obj.notchR, Obj.reqFixedStep, Obj.reqMode, Obj.reqRatio, Obj.reqStep, Obj.sampleDivider, Obj.streamClipped, Obj.streamRms, Obj.modeCurrent, ne_eq]; omega)
  · (simp only [Obj.blankDuty, Obj.blankDutyMax, Obj.blankK, Obj.blankPost, Obj.blankPre, Obj.blankSamples, Obj.jammedEpochs, Obj.linkBands, Obj.linkState, Obj.notchR, Obj.reqFixedStep, Obj.reqMode, Obj.reqRatio, Obj.reqStep, Obj.sampleDivider, Obj.streamClipped, Obj.streamRms, Obj.modeCurrent, ne_eq]; omega)
  · (simp only [Obj.blankDuty, Obj.blankDutyMax, Obj.blankK, Obj.blankPost, Obj.blankPre, Obj.blankSamples, Obj.jammedEpochs, Obj.linkBands, Obj.linkState, Obj.notchR, Obj.reqFixedStep, Obj.reqMode, Obj.reqRatio, Obj.reqStep, Obj.sampleDivider, Obj.streamClipped, Obj.streamRms, Obj.modeCurrent, ne_eq]; omega)
  · with_reducible apply Halted.inc
    · with_reducible refine State.addHwKey_halted _ _ _ ?_ (State.addHwKey_halted _ _ _ ?_ (Halted.setN (by assumption) ?_))
      · (simp only [Obj.blankDuty, Obj.blankDutyMax, Obj.blankK, Obj.blankPost, Obj.blankPre, Obj.blankSamples, Obj.jammedEpochs, Obj.linkBands, Obj.linkState, Obj.notchR, Obj.reqFixedStep, Obj.reqMode, Obj.reqRatio, Obj.reqStep, Obj.sampleDivider, Obj.streamClipped, Obj.streamRms, Obj.modeCurrent, ne_eq]; omega)
      · (simp only [Obj.blankDuty, Obj.blankDutyMax, Obj.blankK, Obj.blankPost, Obj.blankPre, Obj.blankSamples, Obj.jammedEpochs, Obj.linkBands, Obj.linkState, Obj.notchR, Obj.reqFixedStep, Obj.reqMode, Obj.reqRatio, Obj.reqStep, Obj.sampleDivider, Obj.streamClipped, Obj.streamRms, Obj.modeCurrent, ne_eq]; omega)
      · (simp only [Obj.blankDuty, Obj.blankDutyMax, Obj.blankK, Obj.blankPost, Obj.blankPre, Obj.blankSamples, Obj.jammedEpochs, Obj.linkBands, Obj.linkState, Obj.notchR, Obj.reqFixedStep, Obj.reqMode, Obj.reqRatio, Obj.reqStep, Obj.sampleDivider, Obj.streamClipped, Obj.streamRms, Obj.modeCurrent, ne_eq]; omega)
    · (simp only [Obj.blankDuty, Obj.blankDutyMax, Obj.blankK, Obj.blankPost, Obj.blankPre, Obj.blankSamples, Obj.jammedEpochs, Obj.linkBands, Obj.linkState, Obj.notchR, Obj.reqFixedStep, Obj.reqMode, Obj.reqRatio, Obj.reqStep, Obj.sampleDivider, Obj.streamClipped, Obj.streamRms, Obj.modeCurrent, ne_eq]; omega)
  · (simp only [Obj.blankDuty, Obj.blankDutyMax, Obj.blankK, Obj.blankPost, Obj.blankPre, Obj.blankSamples, Obj.jammedEpochs, Obj.linkBands, Obj.linkState, Obj.notchR, Obj.reqFixedStep, Obj.reqMode, Obj.reqRatio, Obj.reqStep, Obj.sampleDivider, Obj.streamClipped, Obj.streamRms, Obj.modeCurrent, ne_eq]; omega)
  · (simp only [Obj.blankDuty, Obj.blankDutyMax, Obj.blankK, Obj.blankPost, Obj.blankPre, Obj.blankSamples, Obj.jammedEpochs, Obj.linkBands, Obj.linkState, Obj.notchR, Obj.reqFixedStep, Obj.reqMode, Obj.reqRatio, Obj.reqStep, Obj.sampleDivider, Obj.streamClipped, Obj.streamRms, Obj.modeCurrent, ne_eq]; omega)
  · (simp only [Obj.blankDuty, Obj.blankDutyMax, Obj.blankK, Obj.blankPost, Obj.blankPre, Obj.blankSamples, Obj.jammedEpochs, Obj.linkBands, Obj.linkState, Obj.notchR, Obj.reqFixedStep, Obj.reqMode, Obj.reqRatio, Obj.reqStep, Obj.sampleDivider, Obj.streamClipped, Obj.streamRms, Obj.modeCurrent, ne_eq]; omega)
  · (simp only [Obj.blankDuty, Obj.blankDutyMax, Obj.blankK, Obj.blankPost, Obj.blankPre, Obj.blankSamples, Obj.jammedEpochs, Obj.linkBands, Obj.linkState, Obj.notchR, Obj.reqFixedStep, Obj.reqMode, Obj.reqRatio, Obj.reqStep, Obj.sampleDivider, Obj.streamClipped, Obj.streamRms, Obj.modeCurrent, ne_eq]; omega)
  · rfl
  · (simp only [Obj.blankDuty, Obj.blankDutyMax, Obj.blankK, Obj.blankPost, Obj.blankPre, Obj.blankSamples, Obj.jammedEpochs, Obj.linkBands, Obj.linkState, Obj.notchR, Obj.reqFixedStep, Obj.reqMode, Obj.reqRatio, Obj.reqStep, Obj.sampleDivider, Obj.streamClipped, Obj.streamRms, Obj.modeCurrent, ne_eq]; omega)

theorem State.gladeEpochPath_halted (s : Sys2Proof.Machine.State) (a1 : Sys2Proof.Machine.GladeEpoch) (h : Halted s) : Halted (State.gladeEpochPath s a1) := by
  unfold State.gladeEpochPath
  dsimp only
  simp only [State.mk_make]
  with_reducible refine Halted.ite (Halted.of (State.snapAll_frame _) (Halted.of (State.correlateAll_frame _) (Halted.mk1 (Halted.foldl (fun
                   _ _ _ => Halted.ite (Halted.of (State.setGlink_frame _ _ _) (by assumption) ?_) (by assumption)) (Halted.foldl (fun _ _ _ =>
                   State.notchesNow_halted _ _ (State.streamEpoch_halted _ _ _ (by assumption))) (Halted.foldl (fun _ _ _ => State.chanEpoch_halted _ _
                   (by assumption)) (State.epochFalls_halted _ _ (by assumption)))))) ?_) ?_) (Halted.mk1 (Halted.foldl (fun _ _ _ => Halted.ite (Halted.of
                   (State.setGlink_frame _ _ _) (by assumption) ?_) (by assumption)) (Halted.foldl (fun _ _ _ => State.notchesNow_halted _ _
                   (State.streamEpoch_halted _ _ _ (by assumption))) (Halted.foldl (fun _ _ _ => State.chanEpoch_halted _ _ (by assumption))
                   (State.epochFalls_halted _ _ (by assumption))))))
  · rfl
  · rfl
  · rfl
  · rfl

theorem State.gladeLinks_halted (s : Sys2Proof.Machine.State) (h : Halted s) : Halted (State.gladeLinks s) := by
  unfold State.gladeLinks
  dsimp only
  simp only [State.mk_make]
  with_reducible refine Halted.mk1 ?_
  with_reducible apply Halted.setO
  · with_reducible exact (by assumption)
  · with_reducible exact (by decide)

theorem State.gladeObs_halted (s : Sys2Proof.Machine.State) (h : Halted s) : Halted (State.gladeObs s) := by
  unfold State.gladeObs
  dsimp only
  split
  · with_reducible exact Halted.ite (State.refIngest_halted _ _ (by assumption)) (by assumption)
  · with_reducible exact State.refIngest_halted _ _ (by assumption)

theorem State.gladeRun_halted (s : Sys2Proof.Machine.State) (h : Halted s) : Halted (State.gladeRun s) := by
  unfold State.gladeRun
  dsimp only
  simp only [State.mk_make]
  with_reducible refine Halted.ite (Halted.ite (State.surveyRestart_halted _ ?_) (Halted.mk1 ?_)) (by assumption)
  · with_reducible apply Halted.setO
    · with_reducible refine Halted.mk1 ?_
      with_reducible apply Halted.setO
      · with_reducible exact (by assumption)
      · with_reducible exact (by decide)
    · with_reducible exact (by decide)
  · with_reducible apply Halted.setO
    · with_reducible exact (by assumption)
    · with_reducible exact (by decide)

theorem State.grantOne_halted (s : Sys2Proof.Machine.State) (a1 : Nat) (a2 : Nat) (a3 : Sys2Proof.Machine.RxFrame) (a4 : Sys2Proof.Octets) (a5 : Bool) (a6 : Sys2Proof.Octets) (h : Halted s) : Halted (State.grantOne s a1 a2 a3 a4 a5 a6).1 := by
  unfold State.grantOne
  dsimp only
  with_reducible refine Halted.iteFst ?_ (Halted.iteFst ?_ (Halted.iteFst ?_ ?_))
  · with_reducible apply Halted.inc
    · split
      · with_reducible exact State.pruneLine_halted _ _ _ (by assumption)
      · with_reducible exact (by assumption)
    · with_reducible exact (by decide)
  · with_reducible apply Halted.inc
    · split
      · with_reducible exact State.pruneLine_halted _ _ _ (by assumption)
      · with_reducible exact (by assumption)
    · with_reducible exact (by decide)
  · with_reducible apply Halted.inc
    · split
      · with_reducible exact State.pruneLine_halted _ _ _ (by assumption)
      · with_reducible exact (by assumption)
    · with_reducible exact (by decide)
  · split
    · with_reducible apply Halted.inc
      · split
        · with_reducible exact State.pruneLine_halted _ _ _ (by assumption)
        · with_reducible exact (by assumption)
      · with_reducible exact (by decide)
    · with_reducible refine Halted.ite ?_ (State.commitSession_halted _ _ _ _ ?_)
      · with_reducible apply Halted.addN
        · with_reducible refine State.commitSession_halted _ _ _ _ ?_
          split
          · with_reducible exact State.pruneLine_halted _ _ _ (by assumption)
          · with_reducible exact (by assumption)
        · (simp only [Obj.ptpGrantDenied, Obj.ptpUnicastSessions, Obj.modeCurrent, ne_eq]; omega)
      · split
        · with_reducible exact State.pruneLine_halted _ _ _ (by assumption)
        · with_reducible exact (by assumption)

theorem State.groveStarting_halted (s : Sys2Proof.Machine.State) (a1 : Nat) (h : Halted s) : Halted (State.groveStarting s a1) := by
  unfold State.groveStarting
  dsimp only
  simp only [State.mk_make]
  with_reducible refine Halted.mk1 (Halted.ite ?_ (State.countEngines_halted _ _ ?_))
  · with_reducible apply Halted.setO
    · with_reducible refine State.countEngines_halted _ _ ?_
      with_reducible apply Halted.setO
      · with_reducible refine Halted.foldl (fun _ _ _ => ?_) (by assumption)
        with_reducible apply Halted.setO
        · with_reducible apply Halted.setO
          · with_reducible exact (by assumption)
          · (simp only [Obj.engineLane, Obj.engineState, Obj.groveState, Obj.memRetention, Obj.modeCurrent, ne_eq]; omega)
        · (simp only [Obj.engineLane, Obj.engineState, Obj.groveState, Obj.memRetention, Obj.modeCurrent, ne_eq]; omega)
      · (simp only [Obj.engineLane, Obj.engineState, Obj.groveState, Obj.memRetention, Obj.modeCurrent, ne_eq]; omega)
    · (simp only [Obj.engineLane, Obj.engineState, Obj.groveState, Obj.memRetention, Obj.modeCurrent, ne_eq]; omega)
  · with_reducible apply Halted.setO
    · with_reducible refine Halted.foldl (fun _ _ _ => ?_) (by assumption)
      with_reducible apply Halted.setO
      · with_reducible apply Halted.setO
        · with_reducible exact (by assumption)
        · (simp only [Obj.engineLane, Obj.engineState, Obj.groveState, Obj.memRetention, Obj.modeCurrent, ne_eq]; omega)
      · (simp only [Obj.engineLane, Obj.engineState, Obj.groveState, Obj.memRetention, Obj.modeCurrent, ne_eq]; omega)
    · (simp only [Obj.engineLane, Obj.engineState, Obj.groveState, Obj.memRetention, Obj.modeCurrent, ne_eq]; omega)

theorem State.handOffGrove_halted (s : Sys2Proof.Machine.State) (a1 : List Sys2Proof.Machine.RxFrame) (a2 : Nat) (h : Halted s) : Halted (State.handOffGrove s a1 a2) := by
  unfold State.handOffGrove
  dsimp only
  simp only [State.mk_make]
  with_reducible refine Halted.mk1 (Halted.foldlFst (fun _ _ _ => Halted.iteFst ?_ (Halted.iteFst (by assumption) (Halted.iteFst
                   (by assumption) ?_))) (by assumption))
  · with_reducible apply Halted.inc
    · with_reducible exact (by assumption)
    · with_reducible exact (by decide)
  · with_reducible apply Halted.inc
    · with_reducible exact (by assumption)
    · with_reducible exact (by decide)

theorem State.handOff_halted (s : Sys2Proof.Machine.State) (h : Halted s) : Halted (State.handOff s) := by
  unfold State.handOff
  dsimp only
  simp only [State.mk_make]
  with_reducible exact Halted.foldl (fun _ _ _ => State.handOffGrove_halted _ _ _ (by assumption)) (Halted.mk1 (by assumption))

theorem State.helloReceive_halted (s : Sys2Proof.Machine.State) (a1 : Sys2Proof.Machine.Hello) (h : Halted s) : Halted (State.helloReceive s a1) := by
  unfold State.helloReceive
  dsimp only
  simp only [State.mk_make]
  with_reducible refine Halted.ite (Halted.ite (Halted.mk1 (by assumption)) (Halted.ite (State.joinRefuse_halted _ _ (by assumption))
                   (by assumption))) (Halted.ite (by assumption) (Halted.ite (State.joinRefuse_halted _ _ (by assumption)) (Halted.mk1 (Halted.of
                   (State.setBlob_frame _ _ _) (State.twinEnter_halted _ _ (by assumption)) ?_))))
  rfl

theorem State.hostTx_halted (s : Sys2Proof.Machine.State) (a1 : Nat) (a2 : Sys2Proof.Octets) (a3 : Sys2Proof.Octets) (h : Halted s) : Halted (State.hostTx s a1 a2 a3) := by
  unfold State.hostTx
  dsimp only
  simp only [State.mk_make]
  with_reducible refine Halted.ite (Halted.ite (Halted.of (State.complete_frame _ _ _ _ _ _ _) (Halted.mk1 (Halted.of
                   (State.setRingReg_frame _ _ _ _ _ _) (by assumption) ?_)) ?_) (Halted.ite (Halted.of (State.complete_frame _ _ _ _ _ _ _) (Halted.mk1
                   (Halted.of (State.setRingReg_frame _ _ _ _ _ _) (by assumption) ?_)) ?_) ?_)) (by assumption)
  · rfl
  · rfl
  · rfl
  · rfl
  · split
    · with_reducible refine Halted.of (State.enqueue_frame _ _ _) (Halted.of (State.enqueue_frame _ _ _) (State.takeRed_halted _ _
                       (Halted.mk1 (Halted.of (State.setRingReg_frame _ _ _ _ _ _) (by assumption) ?_))) ?_) ?_
      · rfl
      · rfl
      · rfl
    · with_reducible refine Halted.of (State.enqueue_frame _ _ _) (Halted.mk1 (Halted.of (State.setRingReg_frame _ _ _ _ _ _)
                       (by assumption) ?_)) ?_
      · rfl
      · rfl

theorem State.i2cAttempt_halted (s : Sys2Proof.Machine.State) (a1 : Nat) (a2 : Bool) (h : Halted s) : Halted (State.i2cAttempt s a1 a2) := by
  unfold State.i2cAttempt
  dsimp only
  with_reducible refine Halted.ite (Halted.ite ?_ (Halted.ite (Halted.of (State.setI2c_frame _ _ _) (by assumption) ?_)
                   (State.i2cStuck_halted _ _ (Halted.of (State.setI2c_frame _ _ _) (by assumption) ?_)))) (Halted.ite (Halted.ite ?_ (by assumption))
                   (by assumption))
  · with_reducible apply Halted.setO
    · with_reducible refine Halted.of (State.setI2c_frame _ _ _) (by assumption) ?_
      rfl
    · (simp only [Obj.i2cBusState, Obj.i2cRecoveries, Obj.modeCurrent, ne_eq]; omega)
  · rfl
  · rfl
  · with_reducible apply Halted.setO
    · with_reducible apply Halted.inc
      · with_reducible exact (by assumption)
      · (simp only [Obj.i2cBusState, Obj.i2cRecoveries, Obj.modeCurrent, ne_eq]; omega)
    · (simp only [Obj.i2cBusState, Obj.i2cRecoveries, Obj.modeCurrent, ne_eq]; omega)

theorem State.i2cFree_halted (s : Sys2Proof.Machine.State) (a1 : Nat) (h : Halted s) : Halted (State.i2cFree s a1) := by
  unfold State.i2cFree
  dsimp only
  with_reducible apply Halted.setO
  · with_reducible refine Halted.of (State.setI2c_frame _ _ _) (by assumption) ?_
    rfl
  · (simp only [Obj.i2cBusState, Obj.modeCurrent, ne_eq]; omega)

theorem State.i2cBusFree_halted (s : Sys2Proof.Machine.State) (a1 : Nat) (h : Halted s) : Halted (State.i2cBusFree s a1) := by
  unfold State.i2cBusFree
  dsimp only
  split
  · with_reducible exact (by assumption)
  · with_reducible refine Halted.ite (by assumption) (Halted.ite (State.i2cFailed_halted _ _ _ _ ?_) (Halted.of (State.setI2c_frame _ _ _)
                     (by assumption) ?_))
    · with_reducible apply Halted.inc
      · with_reducible exact State.i2cFree_halted _ _ (by assumption)
      · (simp only [Obj.i2cDropped, Obj.modeCurrent, ne_eq]; omega)
    · rfl

theorem State.i2cDone_halted (s : Sys2Proof.Machine.State) (a1 : Nat) (a2 : Sys2Proof.Machine.I2cEnd) (h : Halted s) : Halted (State.i2cDone s a1 a2) := by
  unfold State.i2cDone
  dsimp only
  split
  · with_reducible exact (by assumption)
  · with_reducible refine Halted.ite (by assumption) ?_
    split
    · with_reducible refine Halted.of (State.steerSent_frame _ _) (State.i2cFree_halted _ _ (by assumption)) ?_
      rfl
    · with_reducible refine Halted.of (State.i2cResult_frame _ _ _ _) (State.i2cFree_halted _ _ (by assumption)) ?_
      rfl
    · with_reducible refine State.i2cFailed_halted _ _ _ _ ?_
      with_reducible apply Halted.inc
      · with_reducible exact State.i2cFree_halted _ _ (by assumption)
      · (simp only [Obj.i2cNacks, Obj.modeCurrent, ne_eq]; omega)
    · with_reducible refine State.i2cFailed_halted _ _ _ _ ?_
      with_reducible apply Halted.inc
      · with_reducible exact State.i2cFree_halted _ _ (by assumption)
      · (simp only [Obj.i2cNacks, Obj.modeCurrent, ne_eq]; omega)

theorem State.i2cLost_halted (s : Sys2Proof.Machine.State) (a1 : Nat) (h : Halted s) : Halted (State.i2cLost s a1) := by
  unfold State.i2cLost
  dsimp only
  with_reducible refine Halted.ite (by assumption) ?_
  with_reducible apply Halted.inc
  · with_reducible refine Halted.of (State.setI2c_frame _ _ _) (by assumption) ?_
    rfl
  · (simp only [Obj.i2cArbLost, Obj.modeCurrent, ne_eq]; omega)

theorem State.i2cStart_halted (s : Sys2Proof.Machine.State) (a1 : Nat) (h : Halted s) : Halted (State.i2cStart s a1) := by
  unfold State.i2cStart
  dsimp only
  with_reducible refine Halted.ite (by assumption) ?_
  split
  · with_reducible apply Halted.setO
    · with_reducible refine Halted.of (State.setI2c_frame _ _ _) (by assumption) ?_
      rfl
    · (simp only [Obj.i2cBusState, Obj.modeCurrent, ne_eq]; omega)
  · with_reducible apply Halted.setO
    · with_reducible refine Halted.of (State.setI2c_frame _ _ _) (by assumption) ?_
      rfl
    · (simp only [Obj.i2cBusState, Obj.modeCurrent, ne_eq]; omega)
  · with_reducible exact (by assumption)

theorem State.i2cStretch_halted (s : Sys2Proof.Machine.State) (a1 : Nat) (a2 : Sys2Proof.Machine.I2cLines) (h : Halted s) : Halted (State.i2cStretch s a1 a2) := by
  unfold State.i2cStretch
  split
  · with_reducible exact (by assumption)
  · with_reducible exact State.i2cReset_halted _ _ _ (State.i2cFailed_halted _ _ _ _ (State.i2cFree_halted _ _ (by assumption)))

theorem State.ingest_halted (s : Sys2Proof.Machine.State) (h : Halted s) : Halted (State.ingest s) := by
  unfold State.ingest
  dsimp only
  with_reducible refine State.handOff_halted _ (Halted.of (State.gladeDump_frame _) ?_ ?_)
  · split
    · with_reducible refine Halted.of (State.stampRecord_frame _ _ _) (Halted.of (State.stampRecord_frame _ _ _) (State.ppsNews_halted _
                       (Halted.of (State.drainStamps_frame _) (State.drainLast_halted _ (by assumption)) ?_)) ?_) ?_
      · rfl
      · rfl
      · rfl
    · with_reducible refine State.ppsNews_halted _ (Halted.of (State.drainStamps_frame _) (State.drainLast_halted _ (by assumption)) ?_)
      rfl
  · rfl

theorem State.initRun_halted (s : Sys2Proof.Machine.State) (a1 : Nat) (a2 : List Nat) (h : Halted s) : Halted (State.initRun s a1 a2) := by
  unfold State.initRun
  dsimp only
  with_reducible refine Halted.ite (Halted.of (State.setStamper_frame _ _ _) (Halted.of (State.setStamper_frame _ _ _) (Halted.ite ?_
                   (by assumption)) ?_) ?_) ?_
  · with_reducible apply Halted.inc
    · with_reducible exact (by assumption)
    · (simp only [Obj.stamperRecals, Obj.modeCurrent, ne_eq]; omega)
  · rfl
  · rfl
  · split
    · with_reducible refine State.newTable_halted _ _ _ _ (Halted.of (State.setStamper_frame _ _ _) (Halted.ite ?_ (by assumption)) ?_)
      · with_reducible apply Halted.inc
        · with_reducible exact (by assumption)
        · (simp only [Obj.stamperRecals, Obj.modeCurrent, ne_eq]; omega)
      · rfl
    · with_reducible refine State.tableReject_halted _ _ (Halted.of (State.setStamper_frame _ _ _) (Halted.ite ?_ (by assumption)) ?_)
      · with_reducible apply Halted.inc
        · with_reducible exact (by assumption)
        · (simp only [Obj.stamperRecals, Obj.modeCurrent, ne_eq]; omega)
      · rfl

theorem State.inputConnected_halted (s : Sys2Proof.Machine.State) (a1 : Nat) (a2 : Nat) (a3 : Nat × Nat) (h : Halted s) : Halted (State.inputConnected s a1 a2 a3) := by
  unfold State.inputConnected
  dsimp only
  simp only [State.mk_make]
  with_reducible exact Halted.mk1 (State.connect_halted _ _ _ _ (by assumption))

theorem State.loopTransition_halted (s : Sys2Proof.Machine.State) (a1 : Nat) (a2 : Option Int) (h : Halted s) : Halted (State.loopTransition s a1 a2) := by
  unfold State.loopTransition
  dsimp only
  with_reducible refine Halted.ite (State.chanEnter_halted _ _ _ (by assumption)) (Halted.ite (State.chanEnter_halted _ _ _ (by assumption))
                   ?_)
  split
  · with_reducible exact Halted.ite (State.chanEnter_halted _ _ _ (by assumption)) (by assumption)
  · with_reducible refine Halted.ite (State.chanEnter_halted _ _ _ (by assumption)) (Halted.ite (Halted.of (State.setChan_frame _ _ _)
                     (State.chanEnter_halted _ _ _ (by assumption)) ?_) (Halted.ite (State.chanEnter_halted _ _ _ (by assumption)) (by assumption)))
    rfl

theorem State.integrate_halted (s : Sys2Proof.Machine.State) (a1 : Nat) (a2 : Sys2Proof.Machine.TapSums) (a3 : Sys2Proof.Machine.Integration) (h : Halted s) : Halted (State.integrate s a1 a2 a3) := by
  unfold State.integrate
  dsimp only
  with_reducible refine Halted.ite (State.tapParity_halted _ _ _ (State.loopTransition_halted _ _ _ (Halted.of (State.setChan_frame _ _ _)
                   (by assumption) ?_))) (State.tapParity_halted _ _ _ (State.loopTransition_halted _ _ _ (Halted.of (State.setChan_frame _ _ _) (Halted.of
                   (State.closeLoops_frame _ _ _ _ _) (Halted.of (State.setChan_frame _ _ _) (by assumption) ?_) ?_) ?_)))
  · rfl
  · rfl
  · rfl
  · rfl

end Sys2Proof.Machine
end

