-- ==== Sys2Proof/Laws/Halts7.lean ====
section
/-!
SUPPORT. HALTED under operations, part 7.
-/

namespace Sys2Proof.Machine

set_option linter.unusedSimpArgs false

theorem State.integrationEnd_halted (s : Sys2Proof.Machine.State) (a1 : Nat) (a2 : Sys2Proof.Machine.Integration) (h : Halted s) : Halted (State.integrationEnd s a1 a2) := by
  unfold State.integrationEnd
  dsimp only
  split
  · with_reducible refine State.integrate_halted _ _ _ _ (Halted.of (State.setChan_frame _ _ _) (by assumption) ?_)
    rfl
  · with_reducible exact (by assumption)

theorem State.joinAs_halted (s : Sys2Proof.Machine.State) (a1 : Nat) (a2 : Bool) (h : Halted s) : Halted (State.joinAs s a1 a2) := by
  unfold State.joinAs
  dsimp only
  simp only [State.mk_make]
  with_reducible refine Halted.mk1 (Halted.setN (Halted.setN ?_ (by decide)) (by decide))
  with_reducible apply Halted.inc
  · with_reducible exact State.twinEnter_halted _ _ (by assumption)
  · with_reducible exact (by decide)

theorem State.journalDone_halted (s : Sys2Proof.Machine.State) (a1 : Bool) (h : Halted s) : Halted (State.journalDone s a1) := by
  unfold State.journalDone
  dsimp only
  simp only [State.mk_make]
  split
  · with_reducible exact (by assumption)
  · with_reducible refine Halted.ite (by assumption) (Halted.ite (State.flashNext_halted _ ?_) (State.journalFail_halted _ _
                     (by assumption)))
    with_reducible apply Halted.inc
    · with_reducible exact Halted.setN (Halted.setN (Halted.mk1 (by assumption)) (by decide)) (by decide)
    · with_reducible exact (by decide)

theorem State.lateDrop_halted (s : Sys2Proof.Machine.State) (a1 : Nat) (a2 : Nat) (a3 : Sys2Proof.Machine.TxFrame) (h : Halted s) : Halted (State.lateDrop s a1 a2 a3) := by
  unfold State.lateDrop
  with_reducible refine Halted.of (State.completeOf_frame _ _ _ _ _) ?_ ?_
  · with_reducible apply Halted.inc
    · with_reducible refine Halted.of (State.dequeue_frame _ _ _) (by assumption) ?_
      rfl
    · (simp only [Obj.npLaunchLateDrops, Obj.modeCurrent, ne_eq]; omega)
  · rfl

theorem State.leapAnnounce_halted (s : Sys2Proof.Machine.State) (a1 : Nat) (a2 : Int) (a3 : Int) (h : Halted s) : Halted (State.leapAnnounce s a1 a2 a3) := by
  unfold State.leapAnnounce
  dsimp only
  simp only [State.mk_make]
  with_reducible refine Halted.ite ?_ (Halted.mk1 (by assumption))
  split
  · with_reducible exact State.setLeapPending_halted _ _ _ _ (Halted.mk1 (by assumption))
  · with_reducible refine Halted.ite (Halted.ite (Halted.mk1 (by assumption)) ?_) (State.setLeapPending_halted _ _ _ _ (Halted.mk1
                     (by assumption)))
    with_reducible apply Halted.inc
    · with_reducible exact Halted.mk1 (by assumption)
    · with_reducible exact (by decide)

theorem State.linkData_halted (s : Sys2Proof.Machine.State) (a1 : Nat) (a2 : Nat) (h : Halted s) : Halted (State.linkData s a1 a2) := by
  unfold State.linkData
  dsimp only
  with_reducible refine State.gladeRun_halted _ (Halted.ite (Halted.setN (Halted.of (State.setGlink_frame _ _ _) (Halted.setN
                   (State.linkEnter_halted _ _ _ (by assumption)) ?_) ?_) ?_) (Halted.ite (Halted.setN (State.linkEnter_halted _ _ _ (by assumption)) ?_)
                   ?_))
  · (simp only [Obj.linkLatChanges, Obj.linkLatRef, Obj.linkLatency, Obj.modeCurrent, ne_eq]; omega)
  · rfl
  · (simp only [Obj.linkLatChanges, Obj.linkLatRef, Obj.linkLatency, Obj.modeCurrent, ne_eq]; omega)
  · (simp only [Obj.linkLatChanges, Obj.linkLatRef, Obj.linkLatency, Obj.modeCurrent, ne_eq]; omega)
  · with_reducible apply Halted.inc
    · with_reducible refine Halted.setN (Halted.of (State.setGlink_frame _ _ _) (Halted.setN (State.linkEnter_halted _ _ _ (by assumption))
                       ?_) ?_) ?_
      · (simp only [Obj.linkLatChanges, Obj.linkLatRef, Obj.linkLatency, Obj.modeCurrent, ne_eq]; omega)
      · rfl
      · (simp only [Obj.linkLatChanges, Obj.linkLatRef, Obj.linkLatency, Obj.modeCurrent, ne_eq]; omega)
    · (simp only [Obj.linkLatChanges, Obj.linkLatRef, Obj.linkLatency, Obj.modeCurrent, ne_eq]; omega)

theorem State.macEnterUp_halted (s : Sys2Proof.Machine.State) (a1 : Nat) (h : Halted s) : Halted (State.macEnterUp s a1) := by
  unfold State.macEnterUp
  dsimp only
  with_reducible refine Halted.of (State.drew_frame _) (Halted.of (State.setMac_frame _ _ _) (Halted.setN ?_ ?_) ?_) ?_
  · with_reducible apply Halted.setO
    · with_reducible exact (by assumption)
    · (simp only [Obj.esmcRxSsm, Obj.npLinkState, Obj.modeCurrent, ne_eq]; omega)
  · (simp only [Obj.esmcRxSsm, Obj.npLinkState, Obj.modeCurrent, ne_eq]; omega)
  · rfl
  · rfl

theorem State.remapHard_halted (s : Sys2Proof.Machine.State) (h : Halted s) : Halted (State.remapHard s) := by
  unfold State.remapHard
  dsimp only
  simp only [State.mk_make]
  with_reducible exact Halted.foldl (fun _ _ _ => State.remapWord_halted _ _ _ (by assumption)) (Halted.mk1 (by assumption))

theorem State.replayBegin_halted (s : Sys2Proof.Machine.State) (h : Halted s) : Halted (State.replayBegin s) := by
  unfold State.replayBegin
  with_reducible refine Halted.ite ?_ (by assumption)
  with_reducible apply Halted.setO
  · with_reducible exact (by assumption)
  · with_reducible exact (by decide)

theorem State.serveWaiting_halted (a0 : Nat) (s : Sys2Proof.Machine.State) (h : Halted s) : Halted (State.serveWaiting a0 s) := by
  induction a0 generalizing s with
  | zero => exact h
  | succ n ih =>
  unfold State.serveWaiting
  try dsimp only
  try simp only [State.mk_make]
  repeat' first
    | with_reducible assumption
    | with_reducible intro _ _ _
    | with_reducible intro _ _
    | with_reducible apply ih
    | with_reducible apply Halted.mk1
    | with_reducible apply Halted.of (State.servedOne_frame _ _)
    | with_reducible apply State.serveMsg_halted
    | with_reducible apply Halted.foldl
    | with_reducible apply Halted.foldlFst
    | with_reducible refine Halted.fst (by assumption) ?_
    | with_reducible apply Halted.ite
    | with_reducible apply Halted.iteFst
    | split
    | rfl
    | decide
    | (simp only [Obj.modeCurrent, ne_eq]; omega)


theorem State.mintOne_halted (s : Sys2Proof.Machine.State) (a1 : Sys2Proof.Machine.MintMsg) (h : Halted s) : Halted (State.mintOne s a1) := by
  unfold State.mintOne
  dsimp only
  split
  · with_reducible refine State.reply_halted _ _ _ _ ?_
    with_reducible apply Halted.addN
    · with_reducible refine Halted.of (State.sealCookies_frame _ _ _ _ _) (by assumption) ?_
      rfl
    · with_reducible exact (by decide)
  · with_reducible exact State.reply_halted _ _ _ _ (by assumption)

theorem State.mintQueue_halted (s : Sys2Proof.Machine.State) (a1 : Nat) (h : Halted s) : Halted (State.mintQueue s a1) := by
  unfold State.mintQueue
  dsimp only
  simp only [State.mk_make]
  with_reducible exact Halted.mk1 (Halted.foldlFst (fun _ _ _ => Halted.iteFst (by assumption) (Halted.iteFst (by assumption) (Halted.iteFst
                   (State.reply_halted _ _ _ _ (by assumption)) (Halted.iteFst (State.mintOne_halted _ _ (by assumption)) (by assumption))))) (Halted.mk1
                   (by assumption)))

theorem State.vaultDerive_halted (s : Sys2Proof.Machine.State) (a1 : Sys2Proof.Machine.VaultMsg) (h : Halted s) : Halted (State.vaultDerive s a1) := by
  unfold State.vaultDerive
  dsimp only
  with_reducible refine Halted.ite (State.vaultAnswer_halted _ _ _ _ _ (by assumption)) (State.vaultAnswer_halted _ _ _ _ _ (Halted.of
                   (State.fillSlot_frame _ _ _ _ _ _ _) (by assumption) ?_))
  rfl

theorem State.markServing_halted (s : Sys2Proof.Machine.State) (a1 : Sys2Proof.Machine.MsgSource) (h : Halted s) : Halted (State.markServing s a1) := by
  unfold State.markServing
  dsimp only
  split
  · with_reducible exact State.setChan__halted _ _ _ (by assumption)
  · with_reducible exact (by assumption)

theorem State.vaultGenerate_halted (s : Sys2Proof.Machine.State) (a1 : Sys2Proof.Machine.VaultMsg) (h : Halted s) : Halted (State.vaultGenerate s a1) := by
  unfold State.vaultGenerate
  dsimp only
  with_reducible refine Halted.ite (State.vaultAnswer_halted _ _ _ _ _ (by assumption)) (Halted.ite (State.vaultAnswer_halted _ _ _ _ _
                   (by assumption)) (State.markServing_halted _ _ (Halted.of (State.addJob_frame _ _) (Halted.of (State.fillSlot_frame _ _ _ _ _ _ _)
                   (Halted.of (State.drew_frame _) (by assumption) ?_) ?_) ?_)))
  · rfl
  · rfl
  · rfl

theorem State.vaultProof_halted (s : Sys2Proof.Machine.State) (a1 : Sys2Proof.Machine.VaultMsg) (h : Halted s) : Halted (State.vaultProof s a1) := by
  unfold State.vaultProof
  with_reducible refine Halted.ite (State.vaultAnswer_halted _ _ _ _ _ (by assumption)) (Halted.ite (State.vaultAnswer_halted _ _ _ _ _
                   (by assumption)) (State.vaultAnswer_halted _ _ _ _ _ ?_))
  with_reducible apply Halted.inc
  · with_reducible exact (by assumption)
  · with_reducible exact (by decide)

theorem State.vaultOne_halted (s : Sys2Proof.Machine.State) (a1 : Sys2Proof.Machine.VaultOp) (a2 : Sys2Proof.Machine.VaultMsg) (h : Halted s) : Halted (State.vaultOne s a1 a2) := by
  unfold State.vaultOne
  split
  · with_reducible exact State.vaultProof_halted _ _ (by assumption)
  · with_reducible exact State.chalIssue_halted _ _ (by assumption)
  · with_reducible exact State.chalRespond_halted _ _ (by assumption)
  · with_reducible exact State.vaultGenerate_halted _ _ (by assumption)
  · with_reducible exact State.vaultDerive_halted _ _ (by assumption)
  · with_reducible exact (by assumption)

theorem State.vaultQueue_halted (s : Sys2Proof.Machine.State) (a1 : Nat) (h : Halted s) : Halted (State.vaultQueue s a1).1 := by
  unfold State.vaultQueue
  dsimp only
  simp only [State.mk_make]
  with_reducible exact Halted.mk1 (Halted.foldlFst (fun _ _ _ => Halted.iteFst (by assumption) (Halted.iteFst (Halted.iteFst
                   (State.vaultOne_halted _ _ _ (by assumption)) (by assumption)) (Halted.iteFst (State.vaultOne_halted _ _ _ (by assumption))
                   (by assumption)))) (Halted.mk1 (by assumption)))

theorem State.vaultW3_halted (s : Sys2Proof.Machine.State) (a1 : Option Nat) (h : Halted s) : Halted (State.vaultW3 s a1) := by
  unfold State.vaultW3
  dsimp only
  simp only [State.mk_make]
  with_reducible refine Halted.ite (State.mintQueue_halted _ _ (State.vaultQueue_halted _ _ (State.collectEngine_halted _ (by assumption))))
                   (Halted.ite ?_ (Halted.mk1 (State.mintQueue_halted _ _ (State.vaultQueue_halted _ _ (State.collectEngine_halted _ (by assumption))))))
  with_reducible apply Halted.inc
  · with_reducible exact Halted.mk1 (State.mintQueue_halted _ _ (State.vaultQueue_halted _ _ (State.collectEngine_halted _
                     (by assumption))))
  · with_reducible exact (by decide)

theorem State.memCycle_halted (s : Sys2Proof.Machine.State) (a1 : Sys2Proof.Machine.MemCycle) (h : Halted s) : Halted (State.memCycle s a1) := by
  unfold State.memCycle
  dsimp only
  simp only [State.mk_make]
  split
  · with_reducible exact (by assumption)
  · with_reducible refine Halted.ite ?_ ?_
    · split
      · with_reducible refine Halted.ite (Halted.mk1 (by assumption)) (Halted.of (State.writeWord_frame _ _ _ _) (Halted.mk1
                         (by assumption)) ?_)
        rfl
      · with_reducible exact Halted.mk1 (by assumption)
    · with_reducible apply Halted.addN
      · split
        · with_reducible refine Halted.ite (Halted.mk1 (by assumption)) (Halted.of (State.writeWord_frame _ _ _ _) (Halted.mk1
                           (by assumption)) ?_)
          rfl
        · with_reducible exact Halted.mk1 (by assumption)
      · (simp only [Obj.memCollisions, Obj.modeCurrent, ne_eq]; omega)

theorem State.memCycles_halted (s : Sys2Proof.Machine.State) (a1 : List Sys2Proof.Machine.MemCycle) (h : Halted s) : Halted (State.memCycles s a1) := by
  unfold State.memCycles
  dsimp only
  simp only [State.mk_make]
  with_reducible exact Halted.foldl (fun _ _ _ => State.memCycle_halted _ _ (by assumption)) (Halted.mk1 (by assumption))

theorem State.mgmtReceive_halted (s : Sys2Proof.Machine.State) (a1 : Sys2Proof.Machine.MgmtDatagram) (h : Halted s) : Halted (State.mgmtReceive s a1) := by
  unfold State.mgmtReceive
  dsimp only
  simp only [State.mk_make]
  with_reducible refine Halted.ite (Halted.of (State.expireCache_frame _) (by assumption) ?_) (Halted.ite ?_ (Halted.ite (Halted.of
                   (State.expireCache_frame _) (by assumption) ?_) (Halted.ite ?_ (Halted.ite ?_ ?_))))
  · rfl
  · with_reducible apply Halted.inc
    · with_reducible refine Halted.of (State.expireCache_frame _) (by assumption) ?_
      rfl
    · with_reducible exact (by decide)
  · rfl
  · with_reducible apply Halted.inc
    · with_reducible refine Halted.of (State.expireCache_frame _) (by assumption) ?_
      rfl
    · with_reducible exact (by decide)
  · with_reducible apply Halted.inc
    · with_reducible refine Halted.of (State.expireCache_frame _) (by assumption) ?_
      rfl
    · with_reducible exact (by decide)
  · split
    · split
      · with_reducible refine Halted.mk1 ?_
        with_reducible apply Halted.inc
        · with_reducible refine Halted.of (State.expireCache_frame _) (by assumption) ?_
          rfl
        · with_reducible exact (by decide)
      · with_reducible apply Halted.inc
        · with_reducible refine Halted.of (State.expireCache_frame _) (by assumption) ?_
          rfl
        · with_reducible exact (by decide)
    · with_reducible refine Halted.ite ?_ ?_
      · with_reducible apply Halted.inc
        · with_reducible refine Halted.mk1 (Halted.of (State.expireCache_frame _) (by assumption) ?_)
          rfl
        · with_reducible exact (by decide)
      · split
        · with_reducible apply Halted.inc
          · with_reducible refine Halted.mk1 ?_
            with_reducible apply Halted.inc
            · with_reducible refine Halted.mk1 (Halted.of (State.expireCache_frame _) (by assumption) ?_)
              rfl
            · with_reducible exact (by decide)
          · with_reducible exact (by decide)
        · with_reducible apply Halted.inc
          · with_reducible refine Halted.of (State.expireCache_frame _) (by assumption) ?_
            rfl
          · with_reducible exact (by decide)

theorem State.mirror_halted (s : Sys2Proof.Machine.State) (a1 : Nat) (a2 : Sys2Proof.Machine.RxFrame) (h : Halted s) : Halted (State.mirror s a1 a2) := by
  unfold State.mirror
  dsimp only
  simp only [State.mk_make]
  with_reducible refine Halted.ite ?_ (by assumption)
  with_reducible apply Halted.inc
  · with_reducible exact Halted.mk1 (by assumption)
  · with_reducible exact (by decide)

theorem State.resolveWeek_halted (s : Sys2Proof.Machine.State) (h : Halted s) : Halted (State.resolveWeek s) := by
  unfold State.resolveWeek
  dsimp only
  split
  · with_reducible refine Halted.ite (Halted.setN (Halted.setN (Halted.ite ?_ (by assumption)) (by decide)) (by decide)) (Halted.setN
                     (Halted.setN (Halted.ite (by assumption) ?_) (by decide)) (by decide))
    · with_reducible apply Halted.inc
      · with_reducible exact (by assumption)
      · with_reducible exact (by decide)
    · with_reducible apply Halted.inc
      · with_reducible exact (by assumption)
      · with_reducible exact (by decide)
  · split
    · with_reducible exact (by assumption)
    · split
      · with_reducible exact Halted.ite (Halted.setN (Halted.setN (by assumption) (by decide)) (by decide)) (Halted.setN (Halted.setN
                         (by assumption) (by decide)) (by decide))
      · with_reducible exact Halted.setN (Halted.setN (by assumption) (by decide)) (by decide)

theorem State.weekField_halted (s : Sys2Proof.Machine.State) (a1 : Sys2Proof.Machine.WeekField) (h : Halted s) : Halted (State.weekField s a1) := by
  unfold State.weekField
  dsimp only
  simp only [State.mk_make]
  split
  · with_reducible refine Halted.ite ?_ (State.resolveWeek_halted _ (Halted.mk1 (by assumption)))
    with_reducible apply Halted.inc
    · with_reducible exact (by assumption)
    · with_reducible exact (by decide)
  · with_reducible refine Halted.ite ?_ (State.resolveWeek_halted _ (Halted.mk1 (by assumption)))
    with_reducible apply Halted.inc
    · with_reducible exact (by assumption)
    · with_reducible exact (by decide)
  · with_reducible refine Halted.ite ?_ (State.resolveWeek_halted _ (Halted.mk1 (by assumption)))
    with_reducible apply Halted.inc
    · with_reducible exact (by assumption)
    · with_reducible exact (by decide)
  · with_reducible exact State.resolveWeek_halted _ (Halted.mk1 (by assumption))

theorem State.navFields_halted (s : Sys2Proof.Machine.State) (a1 : Nat) (a2 : Sys2Proof.Machine.NavUnit) (h : Halted s) : Halted (State.navFields s a1 a2) := by
  unfold State.navFields
  dsimp only
  simp only [State.mk_make]
  split
  · with_reducible refine Halted.mk1 ?_
    split
    · with_reducible refine State.leapAnnounce_halted _ _ _ _ ?_
      split
      · with_reducible exact State.weekField_halted _ _ (by assumption)
      · with_reducible exact (by assumption)
    · split
      · with_reducible exact State.weekField_halted _ _ (by assumption)
      · with_reducible exact (by assumption)
  · split
    · with_reducible refine State.leapAnnounce_halted _ _ _ _ ?_
      split
      · with_reducible exact State.weekField_halted _ _ (by assumption)
      · with_reducible exact (by assumption)
    · split
      · with_reducible exact State.weekField_halted _ _ (by assumption)
      · with_reducible exact (by assumption)

theorem State.navWrite_halted (s : Sys2Proof.Machine.State) (a1 : Sys2Proof.Octets) (h : Halted s) : Halted (State.navWrite s a1) := by
  unfold State.navWrite
  dsimp only
  simp only [State.mk_make]
  with_reducible refine Halted.ite (Halted.of (State.vector_frame _ _ _) (Halted.of (State.vector_frame _ _ _) (Halted.ite (Halted.mk1
                   (Halted.of (State.navPut_frame _ _ _) (by assumption) ?_)) ?_) ?_) ?_) (Halted.ite (Halted.mk1 (Halted.of (State.navPut_frame _ _ _)
                   (by assumption) ?_)) ?_)
  · rfl
  · with_reducible apply Halted.addN
    · with_reducible refine Halted.mk1 (Halted.of (State.navPut_frame _ _ _) (by assumption) ?_)
      rfl
    · with_reducible exact (by decide)
  · rfl
  · rfl
  · rfl
  · with_reducible apply Halted.addN
    · with_reducible refine Halted.mk1 (Halted.of (State.navPut_frame _ _ _) (by assumption) ?_)
      rfl
    · with_reducible exact (by decide)

theorem State.navUnit_halted (s : Sys2Proof.Machine.State) (a1 : Nat) (a2 : Sys2Proof.Machine.NavUnit) (h : Halted s) : Halted (State.navUnit s a1 a2) := by
  unfold State.navUnit
  dsimp only
  with_reducible refine Halted.ite ?_ (Halted.ite ?_ (Halted.ite (State.chanEnter_halted _ _ _ (State.navFields_halted _ _ _
                   (State.navWrite_halted _ _ ?_))) (State.navFields_halted _ _ _ (State.navWrite_halted _ _ ?_))))
  · with_reducible apply Halted.inc
    · with_reducible refine Halted.of (State.setChan_frame _ _ _) (by assumption) ?_
      rfl
    · (simp only [Obj.navCheckFail, Obj.navDelivered, Obj.navUnchecked, Obj.modeCurrent, ne_eq]; omega)
  · with_reducible apply Halted.inc
    · with_reducible refine Halted.of (State.setChan_frame _ _ _) (by assumption) ?_
      rfl
    · (simp only [Obj.navCheckFail, Obj.navDelivered, Obj.navUnchecked, Obj.modeCurrent, ne_eq]; omega)
  · with_reducible apply Halted.inc
    · with_reducible refine Halted.of (State.setChan_frame _ _ _) (by assumption) ?_
      rfl
    · (simp only [Obj.navCheckFail, Obj.navDelivered, Obj.navUnchecked, Obj.modeCurrent, ne_eq]; omega)
  · with_reducible apply Halted.inc
    · with_reducible refine Halted.of (State.setChan_frame _ _ _) (by assumption) ?_
      rfl
    · (simp only [Obj.navCheckFail, Obj.navDelivered, Obj.navUnchecked, Obj.modeCurrent, ne_eq]; omega)

theorem State.notchAverage_halted (s : Sys2Proof.Machine.State) (a1 : Nat) (a2 : List Nat) (h : Halted s) : Halted (State.notchAverage s a1 a2) := by
  unfold State.notchAverage
  dsimp only
  with_reducible refine Halted.ite (Halted.of (State.releaseNotches_frame _ _) (by assumption) ?_) ?_
  · rfl
  · with_reducible apply Halted.addN
    · with_reducible apply Halted.addN
      · with_reducible refine Halted.of (State.setStrm_frame _ _ _) (by assumption) ?_
        rfl
      · (simp only [Obj.notchAssigns, Obj.notchDetectDb, Obj.notchEnable, Obj.notchOverflows, Obj.sampleDivider, Obj.modeCurrent, ne_eq]; omega)
    · (simp only [Obj.notchAssigns, Obj.notchDetectDb, Obj.notchEnable, Obj.notchOverflows, Obj.sampleDivider, Obj.modeCurrent, ne_eq]; omega)

theorem State.ntpRequest_halted (s : Sys2Proof.Machine.State) (a1 : Nat) (a2 : Nat) (a3 : Sys2Proof.Machine.RxFrame) (a4 : Int) (h : Halted s) : Halted (State.ntpRequest s a1 a2 a3 a4) := by
  unfold State.ntpRequest
  dsimp only
  with_reducible refine Halted.ite ?_ (Halted.ite (Halted.of (State.itemDone_frame _ _ _) (by assumption) ?_) (Halted.ite ?_ ?_))
  · with_reducible apply Halted.inc
    · with_reducible refine Halted.of (State.itemDone_frame _ _ _) (by assumption) ?_
      rfl
    · with_reducible exact (by decide)
  · rfl
  · with_reducible apply Halted.inc
    · with_reducible refine Halted.of (State.itemDone_frame _ _ _) (by assumption) ?_
      rfl
    · with_reducible exact (by decide)
  · split
    · with_reducible refine State.exactReserve_halted _ _ _ _ _ (State.mirror_halted _ _ _ (Halted.of (State.itemDone_frame _ _ _)
                       (by assumption) ?_))
      rfl
    · with_reducible refine Halted.ite ?_ ?_
      · with_reducible apply Halted.inc
        · with_reducible refine State.mirror_halted _ _ _ (Halted.of (State.itemDone_frame _ _ _) (by assumption) ?_)
          rfl
        · with_reducible exact (by decide)
      · with_reducible apply Halted.inc
        · with_reducible refine State.release_halted _ _ _ _ _ _ (State.exactReserve_halted _ _ _ _ _ (State.mirror_halted _ _ _ (Halted.of
                           (State.itemDone_frame _ _ _) (by assumption) ?_)))
          rfl
        · with_reducible exact (by decide)

theorem State.ntsNak_halted (s : Sys2Proof.Machine.State) (a1 : Nat) (a2 : Nat) (a3 : Sys2Proof.Machine.RxFrame) (a4 : Sys2Proof.Octets) (a5 : Nat) (h : Halted s) : Halted (State.ntsNak s a1 a2 a3 a4 a5) := by
  unfold State.ntsNak
  dsimp only
  with_reducible refine Halted.ite ?_ ?_
  · with_reducible apply Halted.inc
    · with_reducible exact (by assumption)
    · with_reducible exact (by decide)
  · with_reducible apply Halted.inc
    · with_reducible exact State.release_halted _ _ _ _ _ _ (by assumption)
    · (simp only [Obj.ceilingDrops, Obj.ceilingOk, Obj.ntsNaks, Obj.modeCurrent, ne_eq]; omega)

theorem State.ntsRequest_halted (s : Sys2Proof.Machine.State) (a1 : Nat) (a2 : Nat) (a3 : Sys2Proof.Machine.RxFrame) (a4 : Int) (h : Halted s) : Halted (State.ntsRequest s a1 a2 a3 a4) := by
  unfold State.ntsRequest
  dsimp only
  split
  · with_reducible apply Halted.inc
    · with_reducible refine Halted.of (State.itemDone_frame _ _ _) (by assumption) ?_
      rfl
    · with_reducible exact (by decide)
  · split
    · split
      · with_reducible refine State.ntsNak_halted _ _ _ _ _ _ (Halted.of (State.itemDone_frame _ _ _) (by assumption) ?_)
        rfl
      · with_reducible refine Halted.ite (State.ntsNak_halted _ _ _ _ _ _ (Halted.of (State.itemDone_frame _ _ _) (by assumption) ?_)) ?_
        · rfl
        · split
          · with_reducible refine State.ntsNak_halted _ _ _ _ _ _ (Halted.of (State.itemDone_frame _ _ _) (by assumption) ?_)
            rfl
          · split
            · with_reducible refine State.exactReserve_halted _ _ _ _ _ (State.mirror_halted _ _ _ (Halted.of (State.itemDone_frame _ _ _)
                               (by assumption) ?_))
              rfl
            · with_reducible refine Halted.ite ?_ ?_
              · with_reducible apply Halted.inc
                · with_reducible refine State.mirror_halted _ _ _ (Halted.of (State.itemDone_frame _ _ _) (by assumption) ?_)
                  rfl
                · with_reducible exact (by decide)
              · with_reducible apply Halted.inc
                · with_reducible refine State.release_halted _ _ _ _ _ _ (Halted.of (State.drew_frame _) (Halted.of (State.sealCookies_frame
                                   _ _ _ _ _) (State.exactReserve_halted _ _ _ _ _ (State.mirror_halted _ _ _ (Halted.of (State.itemDone_frame _ _ _)
                                   (by assumption) ?_))) ?_) ?_)
                  · rfl
                  · rfl
                  · rfl
                · with_reducible exact (by decide)
    · with_reducible refine State.ntsNak_halted _ _ _ _ _ _ (Halted.of (State.itemDone_frame _ _ _) (by assumption) ?_)
      rfl

theorem State.ownInLow_halted (s : Sys2Proof.Machine.State) (h : Halted s) : Halted (State.ownInLow s) := by
  unfold State.ownInLow
  dsimp only
  simp only [State.mk_make]
  with_reducible refine Halted.mk1 ?_
  with_reducible apply Halted.setF
  · with_reducible exact (by assumption)
  · with_reducible exact (by decide)

theorem State.pdelayReq_halted (s : Sys2Proof.Machine.State) (a1 : Nat) (a2 : Nat) (a3 : Sys2Proof.Machine.RxFrame) (a4 : Int) (h : Halted s) : Halted (State.pdelayReq s a1 a2 a3 a4) := by
  unfold State.pdelayReq
  dsimp only
  simp only [State.mk_make]
  split
  · with_reducible refine Halted.of (State.itemDone_frame _ _ _) (by assumption) ?_
    rfl
  · with_reducible refine Halted.ite ?_ (Halted.ite ?_ (Halted.ite (Halted.iteFst (Halted.of (State.itemDone_frame _ _ _) (by assumption)
                     ?_) (State.exactReserve_halted _ _ _ _ _ (Halted.of (State.itemDone_frame _ _ _) (by assumption) ?_))) (Halted.ite ?_ ?_)))
    · with_reducible apply Halted.inc
      · with_reducible refine Halted.of (State.itemDone_frame _ _ _) (by assumption) ?_
        rfl
      · (simp only [Obj.boundTlvEnable, Obj.ceilingDrops, Obj.ptpAuthFail, Obj.ptpUnsupported, Obj.modeCurrent, ne_eq]; omega)
    · with_reducible apply Halted.inc
      · with_reducible refine Halted.of (State.itemDone_frame _ _ _) (by assumption) ?_
        rfl
      · (simp only [Obj.boundTlvEnable, Obj.ceilingDrops, Obj.ptpAuthFail, Obj.ptpUnsupported, Obj.modeCurrent, ne_eq]; omega)
    · rfl
    · rfl
    · with_reducible apply Halted.inc
      · with_reducible refine Halted.of (State.itemDone_frame _ _ _) (by assumption) ?_
        rfl
      · with_reducible exact (by decide)
    · split
      · with_reducible refine Halted.of (State.itemDone_frame _ _ _) (by assumption) ?_
        rfl
      · with_reducible refine Halted.ite (Halted.mk1 (State.release_halted _ _ _ _ _ _ (Halted.iteFst (Halted.of (State.itemDone_frame _ _
                         _) (by assumption) ?_) (State.exactReserve_halted _ _ _ _ _ (Halted.of (State.itemDone_frame _ _ _) (by assumption) ?_)))))
                         (State.release_halted _ _ _ _ _ _ (Halted.iteFst (Halted.of (State.itemDone_frame _ _ _) (by assumption) ?_)
                         (State.exactReserve_halted _ _ _ _ _ (Halted.of (State.itemDone_frame _ _ _) (by assumption) ?_))))
        · rfl
        · rfl
        · rfl
        · rfl

theorem State.pdelayReqDue_halted (s : Sys2Proof.Machine.State) (a1 : Nat) (a2 : Nat) (h : Halted s) : Halted (State.pdelayReqDue s a1 a2) := by
  unfold State.pdelayReqDue
  dsimp only
  simp only [State.mk_make]
  with_reducible refine Halted.ite (by assumption) ?_
  split
  · with_reducible refine Halted.of (State.markDue_frame _ _ _ _) (by assumption) ?_
    rfl
  · with_reducible refine Halted.mk1 (State.setSeq_halted _ _ _ _ (State.release_halted _ _ _ _ _ _ (Halted.of (State.newItem_frame _ _ _)
                     (Halted.of (State.markDue_frame _ _ _ _) (by assumption) ?_) ?_)))
    · rfl
    · rfl

theorem State.pdelayRx_halted (s : Sys2Proof.Machine.State) (a1 : Sys2Proof.Machine.RxFrame) (h : Halted s) : Halted (State.pdelayRx s a1) := by
  unfold State.pdelayRx
  dsimp only
  simp only [State.mk_make]
  split
  · with_reducible exact (by assumption)
  · with_reducible refine Halted.ite ?_ (Halted.ite ?_ (Halted.ite (by assumption) (Halted.ite (Halted.ite ?_ ?_) ?_)))
    · with_reducible apply Halted.inc
      · with_reducible exact (by assumption)
      · (simp only [Obj.ptpAuthFail, Obj.ptpUnsupported, Obj.timeInputMalformed, Obj.modeCurrent, ne_eq]; omega)
    · with_reducible apply Halted.inc
      · with_reducible exact (by assumption)
      · (simp only [Obj.ptpAuthFail, Obj.ptpUnsupported, Obj.timeInputMalformed, Obj.modeCurrent, ne_eq]; omega)
    · split
      · with_reducible exact Halted.mk1 (by assumption)
      · with_reducible apply Halted.inc
        · with_reducible exact (by assumption)
        · with_reducible exact (by decide)
    · split
      · with_reducible exact Halted.mk1 (by assumption)
      · with_reducible exact (by assumption)
    · split
      · with_reducible exact Halted.mk1 (by assumption)
      · with_reducible apply Halted.inc
        · with_reducible exact (by assumption)
        · with_reducible exact (by decide)
      · with_reducible exact (by assumption)

theorem State.planComplete_halted (s : Sys2Proof.Machine.State) (h : Halted s) : Halted (State.planComplete s) := by
  unfold State.planComplete
  dsimp only
  simp only [State.mk_make]
  with_reducible refine Halted.ite (Halted.of (State.journalTrigger_frame _) ?_ ?_) (by assumption)
  · with_reducible apply Halted.inc
    · with_reducible apply Halted.setO
      · with_reducible refine Halted.mk1 (Halted.of (State.planCompute_frame _) (Halted.of (State.planSpares_frame _) (by assumption) ?_)
                         ?_)
        · rfl
        · rfl
      · with_reducible exact (by decide)
    · with_reducible exact (by decide)
  · rfl

theorem State.planStart_halted (s : Sys2Proof.Machine.State) (h : Halted s) : Halted (State.planStart s) := by
  unfold State.planStart
  dsimp only
  simp only [State.mk_make]
  with_reducible refine Halted.ite (Halted.setN (Halted.mk1 ?_) (by decide)) (by assumption)
  with_reducible apply Halted.setO
  · with_reducible exact (by assumption)
  · with_reducible exact (by decide)

theorem State.postHeld_halted (s : Sys2Proof.Machine.State) (h : Halted s) : Halted (State.postHeld s) := by
  unfold State.postHeld
  with_reducible refine Halted.foldl (fun _ _ _ => ?_) (by assumption)
  split
  · with_reducible exact State.chanDone_halted _ _ _ _ (by assumption)
  · with_reducible exact (by assumption)

theorem State.recalEnd_halted (s : Sys2Proof.Machine.State) (a1 : Nat) (a2 : List Nat) (h : Halted s) : Halted (State.recalEnd s a1 a2) := by
  unfold State.recalEnd
  dsimp only
  with_reducible refine Halted.ite (State.addRun_halted _ _ _ (Halted.ite ?_ (by assumption))) (State.stamperActive_halted _ _
                   (State.measureSkew_halted _ _ _ _ (State.addRun_halted _ _ _ (Halted.ite ?_ (by assumption)))))
  · with_reducible apply Halted.inc
    · with_reducible exact (by assumption)
    · (simp only [Obj.stamperRecals, Obj.modeCurrent, ne_eq]; omega)
  · with_reducible apply Halted.inc
    · with_reducible exact (by assumption)
    · (simp only [Obj.stamperRecals, Obj.modeCurrent, ne_eq]; omega)

theorem State.recalStart_halted (s : Sys2Proof.Machine.State) (a1 : Nat) (h : Halted s) : Halted (State.recalStart s a1) := by
  unfold State.recalStart
  dsimp only
  with_reducible refine Halted.of (State.setPort_frame _ _ _) (Halted.of (State.setStamper_frame _ _ _) (State.setStState_halted _ _ _
                   (by assumption)) ?_) ?_
  · rfl
  · rfl

theorem State.registerWrite_halted (s : Sys2Proof.Machine.State) (a1 : Nat) (a2 : Nat) (a3 : Nat) (h : Halted s) : Halted (State.registerWrite s a1 a2 a3) := by
  unfold State.registerWrite
  dsimp only
  simp only [State.mk_make]
  with_reducible refine Halted.ite ?_ (Halted.ite (Halted.of (State.ringWrite_frame _ _ _ _ _ _) (by assumption) ?_) (Halted.ite (Halted.of
                   (State.ringWrite_frame _ _ _ _ _ _) (by assumption) ?_) (Halted.ite (Halted.of (State.ringWrite_frame _ _ _ _ _ _) (by assumption) ?_)
                   (Halted.ite (Halted.of (State.ringWrite_frame _ _ _ _ _ _) (by assumption) ?_) (Halted.ite (State.captureWrite_halted _ _ _
                   (by assumption)) (Halted.ite (Halted.of (State.unmask_frame _ _ _) (Halted.of (State.setReg_frame _ _ _ _) (by assumption) ?_) ?_)
                   (by assumption)))))))
  · split
    · with_reducible exact Halted.mk1 (by assumption)
    · with_reducible exact Halted.mk1 (by assumption)
    · with_reducible exact (by assumption)
  · rfl
  · rfl
  · rfl
  · rfl
  · rfl
  · rfl

theorem State.replayDiffer_halted (s : Sys2Proof.Machine.State) (a1 : Nat) (h : Halted s) : Halted (State.replayDiffer s a1) := by
  unfold State.replayDiffer
  dsimp only
  simp only [State.mk_make]
  with_reducible refine Halted.mk1 (Halted.ite ?_ (Halted.setN ?_ (by decide)))
  · with_reducible apply Halted.inc
    · with_reducible exact (by assumption)
    · with_reducible exact (by decide)
  · with_reducible apply Halted.inc
    · with_reducible exact (by assumption)
    · with_reducible exact (by decide)

theorem State.replayLoad_halted (s : Sys2Proof.Machine.State) (a1 : Sys2Proof.Machine.FeedRecord) (h : Halted s) : Halted (State.replayLoad s a1) := by
  unfold State.replayLoad
  dsimp only
  simp only [State.mk_make]
  with_reducible exact Halted.ite (by assumption) (Halted.ite (State.replayEnd_halted _ _ _ (by assumption)) (Halted.mk1
                   (State.replayEnd_halted _ _ _ (by assumption))))

theorem State.replayPast_halted (s : Sys2Proof.Machine.State) (a1 : Sys2Proof.Machine.CanopyImage) (a2 : Sys2Proof.Machine.FeedRecord) (h : Halted s) : Halted (State.replayPast s a1 a2) := by
  unfold State.replayPast
  dsimp only
  simp only [State.mk_make]
  with_reducible refine Halted.ite (State.replayEnd_halted _ _ _ ?_) ?_
  · with_reducible apply Halted.inc
    · with_reducible refine Halted.setN (Halted.of (State.feedPast_frame _ _) (Halted.mk1 (by assumption)) ?_) (by decide)
      rfl
    · with_reducible exact (by decide)
  · with_reducible apply Halted.inc
    · with_reducible refine Halted.setN (Halted.of (State.feedPast_frame _ _) (Halted.mk1 (by assumption)) ?_) (by decide)
      rfl
    · with_reducible exact (by decide)

theorem State.replayTick_halted (s : Sys2Proof.Machine.State) (a1 : Sys2Proof.Machine.FeedRecord) (h : Halted s) : Halted (State.replayTick s a1) := by
  unfold State.replayTick
  dsimp only
  split
  · with_reducible exact (by assumption)
  · with_reducible refine Halted.ite (State.replayEnd_halted _ _ _ (by assumption)) (Halted.ite (State.replayEnd_halted _ _ _
                     (by assumption)) (Halted.ite (State.replayEnd_halted _ _ _ (by assumption)) (Halted.ite (State.replayEnd_halted _ _ _ (Halted.ite
                     (State.replayDiffer_halted _ _ (Halted.of (State.replayOut_frame _ _) (by assumption) ?_)) (Halted.of (State.replayOut_frame _ _)
                     (by assumption) ?_))) (State.replayPast_halted _ _ _ (Halted.ite (State.replayDiffer_halted _ _ (Halted.of (State.replayOut_frame _ _)
                     (by assumption) ?_)) (Halted.of (State.replayOut_frame _ _) (by assumption) ?_))))))
    · rfl
    · rfl
    · rfl
    · rfl

theorem State.scrubStep_halted (s : Sys2Proof.Machine.State) (a1 : Nat) (a2 : Nat) (h : Halted s) : Halted (State.scrubStep s a1 a2) := by
  unfold State.scrubStep
  dsimp only
  simp only [State.mk_make]
  with_reducible refine Halted.ite ?_ (Halted.mk1 (by assumption))
  with_reducible apply Halted.inc
  · with_reducible exact Halted.mk1 (by assumption)
  · (simp only [Obj.memRetention, Obj.memScrubPasses, Obj.modeCurrent, ne_eq]; omega)

theorem State.scrubFound_halted (s : Sys2Proof.Machine.State) (a1 : Nat) (a2 : Nat) (a3 : Sys2Proof.Machine.MemError) (h : Halted s) : Halted (State.scrubFound s a1 a2 a3) := by
  unfold State.scrubFound
  split
  · with_reducible exact (by assumption)
  · with_reducible exact State.memCe_halted _ _ _ (by assumption)
  · with_reducible exact State.memUe_halted _ _ _ _ _ (by assumption)

theorem State.scrubRead_halted (s : Sys2Proof.Machine.State) (a1 : Nat) (a2 : Sys2Proof.Machine.MemError) (h : Halted s) : Halted (State.scrubRead s a1 a2) := by
  unfold State.scrubRead
  dsimp only
  simp only [State.mk_make]
  with_reducible refine Halted.ite (by assumption) ?_
  split
  · with_reducible refine Halted.mk1 (State.scrubFound_halted _ _ _ _ (Halted.mk1 (Halted.of (State.drew_frame _) (State.injConsume_halted _
                     (State.scrubStep_halted _ _ _ (by assumption))) ?_)))
    rfl
  · with_reducible exact State.scrubFound_halted _ _ _ _ (State.scrubStep_halted _ _ _ (by assumption))

theorem State.searchDone_halted (s : Sys2Proof.Machine.State) (a1 : Nat) (a2 : Sys2Proof.Machine.Snapshot) (a3 : Int) (h : Halted s) : Halted (State.searchDone s a1 a2 a3) := by
  unfold State.searchDone
  dsimp only
  simp only [State.mk_make]
  split
  · with_reducible refine Halted.of (State.setChan_frame _ _ _) (by assumption) ?_
    rfl
  · with_reducible refine Halted.ite (Halted.ite (Halted.of (State.setChan_frame _ _ _) (State.chanEnter_halted _ _ _ (Halted.mk1
                     (by assumption))) ?_) (Halted.of (State.setBlob_frame _ _ _) (Halted.of (State.setChan_frame _ _ _) (State.chanEnter_halted _ _ _
                     (Halted.mk1 (by assumption))) ?_) ?_)) (Halted.of (State.setChan_frame _ _ _) (by assumption) ?_)
    · rfl
    · rfl
    · rfl
    · rfl

theorem State.searchEnds_halted (s : Sys2Proof.Machine.State) (a1 : Nat) (a2 : Sys2Proof.Machine.Snapshot) (a3 : Int) (h : Halted s) : Halted (State.searchEnds s a1 a2 a3) := by
  unfold State.searchEnds
  dsimp only
  with_reducible refine Halted.ite (Halted.ite (by assumption) (State.searchDone_halted _ _ _ _ (Halted.of (State.searchedIn_frame _ _ _) ?_
                   ?_))) (Halted.ite ?_ (by assumption))
  · with_reducible apply Halted.inc
    · with_reducible exact (by assumption)
    · with_reducible exact (by decide)
  · rfl
  · split
    · with_reducible refine Halted.ite (State.detected_halted _ _ _ _ _ (Halted.of (State.searchedIn_frame _ _ _) ?_ ?_)) (Halted.of
                       (State.searchedIn_frame _ _ _) ?_ ?_)
      · with_reducible apply Halted.inc
        · with_reducible exact (by assumption)
        · with_reducible exact (by decide)
      · rfl
      · with_reducible apply Halted.inc
        · with_reducible exact (by assumption)
        · with_reducible exact (by decide)
      · rfl
    · with_reducible refine Halted.of (State.searchedIn_frame _ _ _) ?_ ?_
      · with_reducible apply Halted.inc
        · with_reducible exact (by assumption)
        · with_reducible exact (by decide)
      · rfl

theorem State.selftested_halted (s : Sys2Proof.Machine.State) (a1 : Nat) (a2 : List (Fin 17)) (a3 : Nat) (h : Halted s) : Halted (State.selftested s a1 a2 a3) := by
  unfold State.selftested
  dsimp only
  simp only [State.mk_make]
  with_reducible refine Halted.ite (State.groveFault_halted _ _ (Halted.setN (Halted.foldl (fun _ _ _ => Halted.ite (by assumption) ?_)
                   (by assumption)) ?_)) (Halted.mk1 (Halted.setN (Halted.foldl (fun _ _ _ => Halted.ite (by assumption) ?_) (by assumption)) ?_))
  · with_reducible apply Halted.setO
    · with_reducible exact (by assumption)
    · (simp only [Obj.aesLaneState, Obj.engineState, Obj.modeCurrent, ne_eq]; omega)
  · (simp only [Obj.aesLaneState, Obj.engineState, Obj.modeCurrent, ne_eq]; omega)
  · with_reducible apply Halted.setO
    · with_reducible exact (by assumption)
    · (simp only [Obj.aesLaneState, Obj.engineState, Obj.modeCurrent, ne_eq]; omega)
  · (simp only [Obj.aesLaneState, Obj.engineState, Obj.modeCurrent, ne_eq]; omega)

end Sys2Proof.Machine
end

