-- ==== Sys2Proof/Laws/Halts8.lean ====
section
/-!
SUPPORT. HALTED under operations, part 8.
-/

namespace Sys2Proof.Machine

set_option linter.unusedSimpArgs false

theorem State.sentinelTake_halted (s : Sys2Proof.Machine.State) (a1 : Sys2Proof.Machine.Sentinel) (h : Halted s) : Halted (State.sentinelTake s a1) := by
  unfold State.sentinelTake
  have hr := h.running
  split
  dsimp only
  rw [if_neg]
  · exact h
  · simp [hr]


theorem State.signaling_halted (s : Sys2Proof.Machine.State) (a1 : Nat) (a2 : Nat) (a3 : Sys2Proof.Machine.RxFrame) (h : Halted s) : Halted (State.signaling s a1 a2 a3) := by
  unfold State.signaling
  dsimp only
  simp only [State.mk_make]
  split
  · with_reducible refine Halted.of (State.itemDone_frame _ _ _) (by assumption) ?_
    rfl
  · with_reducible refine Halted.ite ?_ (Halted.ite ?_ (Halted.ite (Halted.ite (Halted.of (State.itemDone_frame _ _ _) (Halted.foldlFst (fun
                     _ _ _ => Halted.iteFst (State.grantOne_halted _ _ _ _ _ _ _ (by assumption)) (Halted.iteFst (Halted.iteFst (State.cancelOne_halted _ _ _
                     _ _ (by assumption)) (by assumption)) (by assumption))) (by assumption)) ?_) ?_) ?_))
    · with_reducible apply Halted.inc
      · with_reducible refine Halted.mk1 (Halted.of (State.itemDone_frame _ _ _) (by assumption) ?_)
        rfl
      · with_reducible exact (by decide)
    · with_reducible apply Halted.inc
      · with_reducible refine Halted.of (State.itemDone_frame _ _ _) (by assumption) ?_
        rfl
      · with_reducible exact (by decide)
    · rfl
    · with_reducible apply Halted.inc
      · with_reducible refine Halted.of (State.itemDone_frame _ _ _) (Halted.foldlFst (fun _ _ _ => Halted.iteFst (State.grantOne_halted _ _
                         _ _ _ _ _ (by assumption)) (Halted.iteFst (Halted.iteFst (State.cancelOne_halted _ _ _ _ _ (by assumption)) (by assumption))
                         (by assumption))) (by assumption)) ?_
        rfl
      · (simp only [Obj.ceilingDrops, Obj.ptpAuthFail, Obj.twinForwarded, Obj.twinOwn, Obj.modeCurrent, ne_eq]; omega)
    · split
      · split
        · split
          · with_reducible refine State.commitSession_halted _ _ _ _ (Halted.ite (Halted.of (State.itemDone_frame _ _ _) (Halted.foldlFst
                             (fun _ _ _ => Halted.iteFst (State.grantOne_halted _ _ _ _ _ _ _ (by assumption)) (Halted.iteFst (Halted.iteFst
                             (State.cancelOne_halted _ _ _ _ _ (by assumption)) (by assumption)) (by assumption))) (by assumption)) ?_) ?_)
            · rfl
            · with_reducible apply Halted.inc
              · with_reducible refine Halted.of (State.itemDone_frame _ _ _) (Halted.foldlFst (fun _ _ _ => Halted.iteFst
                                 (State.grantOne_halted _ _ _ _ _ _ _ (by assumption)) (Halted.iteFst (Halted.iteFst (State.cancelOne_halted _ _ _ _ _
                                 (by assumption)) (by assumption)) (by assumption))) (by assumption)) ?_
                rfl
              · (simp only [Obj.ceilingDrops, Obj.ptpAuthFail, Obj.twinForwarded, Obj.twinOwn, Obj.modeCurrent, ne_eq]; omega)
          · with_reducible refine Halted.ite (Halted.of (State.itemDone_frame _ _ _) (Halted.foldlFst (fun _ _ _ => Halted.iteFst
                             (State.grantOne_halted _ _ _ _ _ _ _ (by assumption)) (Halted.iteFst (Halted.iteFst (State.cancelOne_halted _ _ _ _ _
                             (by assumption)) (by assumption)) (by assumption))) (by assumption)) ?_) ?_
            · rfl
            · with_reducible apply Halted.inc
              · with_reducible refine Halted.of (State.itemDone_frame _ _ _) (Halted.foldlFst (fun _ _ _ => Halted.iteFst
                                 (State.grantOne_halted _ _ _ _ _ _ _ (by assumption)) (Halted.iteFst (Halted.iteFst (State.cancelOne_halted _ _ _ _ _
                                 (by assumption)) (by assumption)) (by assumption))) (by assumption)) ?_
                rfl
              · (simp only [Obj.ceilingDrops, Obj.ptpAuthFail, Obj.twinForwarded, Obj.twinOwn, Obj.modeCurrent, ne_eq]; omega)
        · with_reducible refine Halted.of (State.drew_frame _) (Halted.ite (Halted.of (State.itemDone_frame _ _ _) (Halted.foldlFst (fun _ _
                           _ => Halted.iteFst (State.grantOne_halted _ _ _ _ _ _ _ (by assumption)) (Halted.iteFst (Halted.iteFst (State.cancelOne_halted _ _
                           _ _ _ (by assumption)) (by assumption)) (by assumption))) (by assumption)) ?_) ?_) ?_
          · rfl
          · with_reducible apply Halted.inc
            · with_reducible refine Halted.of (State.itemDone_frame _ _ _) (Halted.foldlFst (fun _ _ _ => Halted.iteFst
                               (State.grantOne_halted _ _ _ _ _ _ _ (by assumption)) (Halted.iteFst (Halted.iteFst (State.cancelOne_halted _ _ _ _ _
                               (by assumption)) (by assumption)) (by assumption))) (by assumption)) ?_
              rfl
            · (simp only [Obj.ceilingDrops, Obj.ptpAuthFail, Obj.twinForwarded, Obj.twinOwn, Obj.modeCurrent, ne_eq]; omega)
          · rfl
      · with_reducible refine State.release_halted _ _ _ _ _ _ ?_
        split
        · split
          · with_reducible refine State.commitSession_halted _ _ _ _ (Halted.ite (Halted.of (State.itemDone_frame _ _ _) (Halted.foldlFst
                             (fun _ _ _ => Halted.iteFst (State.grantOne_halted _ _ _ _ _ _ _ (by assumption)) (Halted.iteFst (Halted.iteFst
                             (State.cancelOne_halted _ _ _ _ _ (by assumption)) (by assumption)) (by assumption))) (by assumption)) ?_) ?_)
            · rfl
            · with_reducible apply Halted.inc
              · with_reducible refine Halted.of (State.itemDone_frame _ _ _) (Halted.foldlFst (fun _ _ _ => Halted.iteFst
                                 (State.grantOne_halted _ _ _ _ _ _ _ (by assumption)) (Halted.iteFst (Halted.iteFst (State.cancelOne_halted _ _ _ _ _
                                 (by assumption)) (by assumption)) (by assumption))) (by assumption)) ?_
                rfl
              · (simp only [Obj.ceilingDrops, Obj.ptpAuthFail, Obj.twinForwarded, Obj.twinOwn, Obj.modeCurrent, ne_eq]; omega)
          · with_reducible refine Halted.ite (Halted.of (State.itemDone_frame _ _ _) (Halted.foldlFst (fun _ _ _ => Halted.iteFst
                             (State.grantOne_halted _ _ _ _ _ _ _ (by assumption)) (Halted.iteFst (Halted.iteFst (State.cancelOne_halted _ _ _ _ _
                             (by assumption)) (by assumption)) (by assumption))) (by assumption)) ?_) ?_
            · rfl
            · with_reducible apply Halted.inc
              · with_reducible refine Halted.of (State.itemDone_frame _ _ _) (Halted.foldlFst (fun _ _ _ => Halted.iteFst
                                 (State.grantOne_halted _ _ _ _ _ _ _ (by assumption)) (Halted.iteFst (Halted.iteFst (State.cancelOne_halted _ _ _ _ _
                                 (by assumption)) (by assumption)) (by assumption))) (by assumption)) ?_
                rfl
              · (simp only [Obj.ceilingDrops, Obj.ptpAuthFail, Obj.twinForwarded, Obj.twinOwn, Obj.modeCurrent, ne_eq]; omega)
        · with_reducible refine Halted.of (State.drew_frame _) (Halted.ite (Halted.of (State.itemDone_frame _ _ _) (Halted.foldlFst (fun _ _
                           _ => Halted.iteFst (State.grantOne_halted _ _ _ _ _ _ _ (by assumption)) (Halted.iteFst (Halted.iteFst (State.cancelOne_halted _ _
                           _ _ _ (by assumption)) (by assumption)) (by assumption))) (by assumption)) ?_) ?_) ?_
          · rfl
          · with_reducible apply Halted.inc
            · with_reducible refine Halted.of (State.itemDone_frame _ _ _) (Halted.foldlFst (fun _ _ _ => Halted.iteFst
                               (State.grantOne_halted _ _ _ _ _ _ _ (by assumption)) (Halted.iteFst (Halted.iteFst (State.cancelOne_halted _ _ _ _ _
                               (by assumption)) (by assumption)) (by assumption))) (by assumption)) ?_
              rfl
            · (simp only [Obj.ceilingDrops, Obj.ptpAuthFail, Obj.twinForwarded, Obj.twinOwn, Obj.modeCurrent, ne_eq]; omega)
          · rfl

theorem State.solTransition_halted (s : Sys2Proof.Machine.State) (a1 : Bool) (a2 : Bool) (h : Halted s) : Halted (State.solTransition s a1 a2) := by
  unfold State.solTransition
  dsimp only
  simp only [State.mk_make]
  with_reducible refine Halted.ite (Halted.ite (Halted.mk1 (by assumption)) (Halted.mk1 ?_)) (Halted.ite (Halted.ite (Halted.mk1 ?_)
                   (Halted.ite ?_ (Halted.ite (Halted.ite (Halted.mk1 (by assumption)) (Halted.mk1 ?_)) (Halted.ite (Halted.ite (Halted.mk1 ?_) (Halted.mk1
                   (by assumption))) (Halted.ite (Halted.ite (Halted.mk1 (by assumption)) (Halted.of (State.posBegin_frame _) (Halted.mk1 ?_) ?_))
                   (Halted.ite (Halted.ite (Halted.mk1 ?_) (Halted.mk1 (by assumption))) (Halted.mk1 (by assumption)))))))) (Halted.mk1 (by assumption)))
  · with_reducible apply Halted.setO
    · with_reducible exact Halted.mk1 (by assumption)
    · with_reducible exact (by decide)
  · with_reducible apply Halted.setO
    · with_reducible exact Halted.mk1 (by assumption)
    · with_reducible exact (by decide)
  · with_reducible apply Halted.inc
    · with_reducible refine Halted.mk1 ?_
      with_reducible apply Halted.setO
      · with_reducible exact Halted.mk1 (by assumption)
      · with_reducible exact (by decide)
    · with_reducible exact (by decide)
  · with_reducible apply Halted.setO
    · with_reducible exact Halted.mk1 (by assumption)
    · with_reducible exact (by decide)
  · with_reducible apply Halted.setO
    · with_reducible exact Halted.mk1 (by assumption)
    · with_reducible exact (by decide)
  · with_reducible apply Halted.setO
    · with_reducible exact Halted.mk1 (by assumption)
    · with_reducible exact (by decide)
  · rfl
  · with_reducible apply Halted.setO
    · with_reducible exact Halted.mk1 (by assumption)
    · with_reducible exact (by decide)

theorem State.solution_halted (s : Sys2Proof.Machine.State) (a1 : Sys2Proof.Machine.GladeEpoch) (h : Halted s) : Halted (State.solution s a1) := by
  unfold State.solution
  dsimp only
  simp only [State.mk_make]
  with_reducible refine Halted.mk1 ?_
  with_reducible apply Halted.inc
  · with_reducible refine Halted.of (State.setBlob_frame _ _ _) (Halted.of (State.posAdd_frame _ _) (State.solTransition_halted _ _ _
                     (Halted.ite (Halted.foldl (fun _ _ _ => ?_) (Halted.ite ?_ (Halted.mk1 ?_))) (Halted.ite ?_ (Halted.mk1 ?_)))) ?_) ?_
    · with_reducible apply Halted.setO
      · with_reducible exact (by assumption)
      · (simp only [Obj.gladeEpochCount, Obj.raimExclusions, Obj.raimFailEpochs, Obj.raimMaxExclude, Obj.raimZ, Obj.realisationUncPs, Obj.solEpochsInvalid, Obj.solEpochsValid, Obj.solIsbMode, Obj.solLast, Obj.solRefSystem, Obj.solState, Obj.systemBiasEst, Obj.taiUtcOffset, Obj.timeRealisation, Obj.modeCurrent, ne_eq]; omega)
    · with_reducible apply Halted.inc
      · with_reducible refine Halted.mk1 ?_
        with_reducible apply Halted.addN
        · with_reducible refine Halted.foldl (fun _ _ _ => Halted.of (State.smoothPair_frame _ _) (by assumption) ?_) (by assumption)
          rfl
        · with_reducible exact (by decide)
      · with_reducible exact (by decide)
    · with_reducible apply Halted.addN
      · with_reducible refine Halted.foldl (fun _ _ _ => Halted.of (State.smoothPair_frame _ _) (by assumption) ?_) (by assumption)
        rfl
      · with_reducible exact (by decide)
    · with_reducible apply Halted.inc
      · with_reducible refine Halted.mk1 ?_
        with_reducible apply Halted.addN
        · with_reducible refine Halted.foldl (fun _ _ _ => Halted.of (State.smoothPair_frame _ _) (by assumption) ?_) (by assumption)
          rfl
        · with_reducible exact (by decide)
      · with_reducible exact (by decide)
    · with_reducible apply Halted.addN
      · with_reducible refine Halted.foldl (fun _ _ _ => Halted.of (State.smoothPair_frame _ _) (by assumption) ?_) (by assumption)
        rfl
      · with_reducible exact (by decide)
    · rfl
    · rfl
  · split
    · split
      · split
        · with_reducible exact (by decide)
        · with_reducible exact (by decide)
      · split
        · with_reducible exact (by decide)
        · with_reducible exact (by decide)
    · split
      · split
        · with_reducible exact (by decide)
        · with_reducible exact (by decide)
      · split
        · with_reducible exact (by decide)
        · with_reducible exact (by decide)

theorem State.solveOwn_halted (s : Sys2Proof.Machine.State) (h : Halted s) : Halted (State.solveOwn s) := by
  unfold State.solveOwn
  dsimp only
  simp only [State.mk_make]
  with_reducible refine Halted.of (State.coreBound_frame _) (State.publishCoast_halted _ (State.ensembleSlot_halted _
                   (State.servoTick_halted _ (Halted.ite (State.requestFirst_halted _ (Halted.of (State.takeObservations_frame _) (Halted.mk1
                   (by assumption)) ?_)) (Halted.of (State.takeObservations_frame _) (Halted.mk1 (by assumption)) ?_))))) ?_
  · rfl
  · rfl
  · rfl

theorem State.spoofSecond_halted (s : Sys2Proof.Machine.State) (a1 : List Sys2Proof.Machine.SpoofSat) (h : Halted s) : Halted (State.spoofSecond s a1) := by
  unfold State.spoofSecond
  dsimp only
  simp only [State.mk_make]
  with_reducible refine Halted.ite (Halted.mk1 ?_) (Halted.ite ?_ (Halted.ite ?_ (Halted.mk1 ?_)))
  · with_reducible apply Halted.setO
    · with_reducible apply Halted.inc
      · with_reducible refine Halted.mk1 (Halted.ite (by assumption) (Halted.of (State.spoofBreak_frame _) (by assumption) ?_))
        rfl
      · with_reducible exact (by decide)
    · with_reducible exact (by decide)
  · with_reducible apply Halted.inc
    · with_reducible apply Halted.setF
      · with_reducible refine Halted.mk1 ?_
        with_reducible apply Halted.setO
        · with_reducible refine Halted.mk1 (Halted.ite (by assumption) (Halted.of (State.spoofBreak_frame _) (by assumption) ?_))
          rfl
        · with_reducible exact (by decide)
      · with_reducible exact (by decide)
    · with_reducible exact (by decide)
  · with_reducible apply Halted.setF
    · with_reducible refine Halted.mk1 ?_
      with_reducible apply Halted.setO
      · with_reducible refine Halted.mk1 (Halted.ite (by assumption) (Halted.of (State.spoofBreak_frame _) (by assumption) ?_))
        rfl
      · with_reducible exact (by decide)
    · with_reducible exact (by decide)
  · with_reducible apply Halted.setO
    · with_reducible refine Halted.mk1 (Halted.ite (by assumption) (Halted.of (State.spoofBreak_frame _) (by assumption) ?_))
      rfl
    · with_reducible exact (by decide)

theorem State.stamperRelock_halted (s : Sys2Proof.Machine.State) (a1 : Nat) (h : Halted s) : Halted (State.stamperRelock s a1) := by
  unfold State.stamperRelock
  dsimp only
  with_reducible refine Halted.of (State.setStamper_frame _ _ _) (State.setStState_halted _ _ _ (by assumption)) ?_
  rfl

theorem State.stampersOff_halted (s : Sys2Proof.Machine.State) (h : Halted s) : Halted (State.stampersOff s) := by
  unfold State.stampersOff
  with_reducible exact Halted.foldl (fun _ _ _ => State.portOff_halted _ _ (by assumption)) (by assumption)

theorem State.startEngine_halted (a0 : Nat) (s : Sys2Proof.Machine.State) (h : Halted s) : Halted (State.startEngine a0 s) := by
  induction a0 generalizing s with
  | zero => exact h
  | succ n ih =>
  unfold State.startEngine
  try dsimp only
  try simp only [State.mk_make]
  repeat' first
    | with_reducible assumption
    | with_reducible intro _ _ _
    | with_reducible intro _ _
    | with_reducible apply ih
    | with_reducible apply Halted.mk1
    | with_reducible apply State.markServing_halted
    | with_reducible apply State.vaultAnswer_halted
    | with_reducible apply Halted.foldl
    | with_reducible apply Halted.foldlFst
    | with_reducible refine Halted.fst (by assumption) ?_
    | with_reducible apply Halted.ite
    | with_reducible apply Halted.iteFst
    | split
    | rfl
    | decide
    | (simp only [Obj.modeCurrent, ne_eq]; omega)


theorem State.steerWrite_halted (s : Sys2Proof.Machine.State) (a1 : Nat) (a2 : Int) (h : Halted s) : Halted (State.steerWrite s a1 a2) := by
  unfold State.steerWrite
  dsimp only
  with_reducible refine Halted.ite (Halted.of (State.steerSent_frame _ _) (Halted.of (State.setDst_frame _ _ _) (by assumption) ?_) ?_)
                   (Halted.ite (State.steerFail_halted _ _ ?_) (Halted.of (State.setI2c_frame _ _ _) (Halted.of (State.setDst_frame _ _ _) (by assumption)
                   ?_) ?_))
  · rfl
  · rfl
  · with_reducible apply Halted.inc
    · with_reducible refine Halted.of (State.setDst_frame _ _ _) (by assumption) ?_
      rfl
    · (simp only [Obj.dsteerCfg, Obj.i2cBusState, Obj.i2cDropped, Obj.modeCurrent, ne_eq]; omega)
  · rfl
  · rfl

theorem State.steerInterval_halted (s : Sys2Proof.Machine.State) (a1 : Nat) (h : Halted s) : Halted (State.steerInterval s a1) := by
  unfold State.steerInterval
  dsimp only
  with_reducible refine Halted.ite (by assumption) (Halted.ite (Halted.of (State.setDst_frame _ _ _) (by assumption) ?_)
                   (State.steerWrite_halted _ _ _ (Halted.of (State.setDst_frame _ _ _) (Halted.of (State.setDst_frame _ _ _) (by assumption) ?_) ?_)))
  · rfl
  · rfl
  · rfl

theorem State.stepLost_halted (s : Sys2Proof.Machine.State) (h : Halted s) : Halted (State.stepLost s) := by
  unfold State.stepLost
  dsimp only
  simp only [State.mk_make]
  with_reducible exact Halted.mk1 (State.stepUnmeasured_halted _ (by assumption))

theorem State.surveyDone_halted (s : Sys2Proof.Machine.State) (a1 : Sys2Proof.Machine.SurveyResult) (h : Halted s) : Halted (State.surveyDone s a1) := by
  unfold State.surveyDone
  dsimp only
  simp only [State.mk_make]
  with_reducible refine Halted.mk1 (State.solCalChange_halted _ ?_)
  with_reducible apply Halted.setO
  · with_reducible apply Halted.setO
    · with_reducible refine Halted.foldl (fun _ _ _ => Halted.of (State.setBlob_frame _ _ _) (by assumption) ?_) (Halted.foldl (fun _ _ _ =>
                       ?_) (by assumption))
      · rfl
      · split
        · with_reducible refine Halted.ite (Halted.of (State.setBlob_frame _ _ _) (by assumption) ?_) (by assumption)
          rfl
        · with_reducible exact (by assumption)
    · with_reducible exact (by decide)
  · with_reducible exact (by decide)

theorem State.surveySecond_halted (s : Sys2Proof.Machine.State) (a1 : Sys2Proof.Machine.GladeEpoch) (h : Halted s) : Halted (State.surveySecond s a1) := by
  unfold State.surveySecond
  dsimp only
  simp only [State.mk_make]
  with_reducible refine Halted.ite (Halted.mk1 ?_) (by assumption)
  with_reducible apply Halted.inc
  · with_reducible exact (by assumption)
  · with_reducible exact (by decide)

theorem State.takeEfc_halted (s : Sys2Proof.Machine.State) (a1 : Nat) (h : Halted s) : Halted (State.takeEfc s a1) := by
  unfold State.takeEfc
  dsimp only
  split
  · with_reducible exact (by assumption)
  · with_reducible refine Halted.ite ?_ (by assumption)
    with_reducible apply Halted.setO
    · with_reducible apply Halted.setO
      · with_reducible exact (by assumption)
      · (simp only [Obj.efcCentre, Obj.efcCode, Obj.efcGain, Obj.efcMinmax, Obj.efcState, Obj.ensMemberSteerY, Obj.modeCurrent, ne_eq]; omega)
    · (simp only [Obj.efcCentre, Obj.efcCode, Obj.efcGain, Obj.efcMinmax, Obj.efcState, Obj.ensMemberSteerY, Obj.modeCurrent, ne_eq]; omega)

theorem State.switchOwn_halted (s : Sys2Proof.Machine.State) (a1 : Nat) (h : Halted s) : Halted (State.switchOwn s a1) := by
  unfold State.switchOwn
  dsimp only
  simp only [State.mk_make]
  split
  · with_reducible exact (by assumption)
  · with_reducible refine Halted.ite (Halted.foldl (fun _ _ _ => Halted.ite (Halted.of (State.setOut_frame _ _ _) (by assumption) ?_)
                     (by assumption)) (Halted.foldl (fun _ _ _ => State.takeEfc_halted _ _ (by assumption)) ?_)) (Halted.ite ?_ (Halted.foldl (fun _ _ _ =>
                     ?_) (Halted.foldl (fun _ _ _ => Halted.ite (Halted.of (State.setOut_frame _ _ _) (by assumption) ?_) (by assumption)) ?_)))
    · rfl
    · with_reducible apply Halted.addN
      · with_reducible apply Halted.setF
        · with_reducible exact Halted.mk1 (by assumption)
        · with_reducible exact (by decide)
      · with_reducible exact (by decide)
    · with_reducible apply Halted.addN
      · with_reducible apply Halted.setF
        · with_reducible exact Halted.mk1 (by assumption)
        · with_reducible exact (by decide)
      · with_reducible exact (by decide)
    · with_reducible apply Halted.setO
      · with_reducible exact (by assumption)
      · (simp only [Obj.efcState, Obj.twinOwn, Obj.twinRunts, Obj.modeCurrent, ne_eq]; omega)
    · rfl
    · with_reducible apply Halted.addN
      · with_reducible apply Halted.setF
        · with_reducible exact Halted.mk1 (by assumption)
        · with_reducible exact (by decide)
      · with_reducible exact (by decide)

theorem State.syncQueue_halted (s : Sys2Proof.Machine.State) (a1 : Nat) (a2 : Nat) (a3 : Nat) (a4 : Nat) (a5 : Nat) (a6 : Int) (a7 : Int → Option Octets) (a8 : Int → Octets → Sys2Proof.Machine.TxFrame) (h : Halted s) : Halted (State.syncQueue s a1 a2 a3 a4 a5 a6 a7 a8).1 := by
  unfold State.syncQueue
  split
  · with_reducible exact Halted.fst (by assumption) (State.exactReserve_halted _ _ _ _ _ (by assumption))
  · split
    · with_reducible exact Halted.fst (by assumption) (State.exactReserve_halted _ _ _ _ _ (by assumption))
    · with_reducible exact State.release_halted _ _ _ _ _ _ (Halted.fst (by assumption) (State.exactReserve_halted _ _ _ _ _
                       (by assumption)))

theorem State.syncDue_halted (s : Sys2Proof.Machine.State) (a1 : Sys2Proof.Machine.PtpStream) (a2 : Bool) (a3 : Int) (h : Halted s) : Halted (State.syncDue s a1 a2 a3) := by
  unfold State.syncDue
  dsimp only
  split
  · with_reducible exact (by assumption)
  · with_reducible refine Halted.ite (by assumption) (Halted.ite (Halted.of (State.withheld_frame _ _ _ _) ?_ ?_) ?_)
    · with_reducible apply Halted.inc
      · with_reducible refine Halted.of (State.markDue_frame _ _ _ _) (by assumption) ?_
        rfl
      · with_reducible exact (by decide)
    · rfl
    · split
      · with_reducible refine Halted.ite (State.committed_halted _ _ _ _ _ (State.takeRed_halted _ _ (Halted.iteFst (State.syncQueue_halted
                         _ _ _ _ _ _ _ _ _ (State.syncQueue_halted _ _ _ _ _ _ _ _ _ (Halted.of (State.newItem_frame _ _ _) (Halted.of (State.pairSeq_frame _
                         _ _) (Halted.of (State.markDue_frame _ _ _ _) (by assumption) ?_) ?_) ?_))) ?_))) (Halted.of (State.withheld_frame _ _ _ _)
                         (Halted.iteFst (State.syncQueue_halted _ _ _ _ _ _ _ _ _ (State.syncQueue_halted _ _ _ _ _ _ _ _ _ (Halted.of (State.newItem_frame _
                         _ _) (Halted.of (State.pairSeq_frame _ _ _) (Halted.of (State.markDue_frame _ _ _ _) (by assumption) ?_) ?_) ?_))) ?_) ?_)
        · rfl
        · rfl
        · rfl
        · with_reducible apply Halted.inc
          · with_reducible refine State.syncQueue_halted _ _ _ _ _ _ _ _ _ (Halted.of (State.newItem_frame _ _ _) (Halted.of
                             (State.pairSeq_frame _ _ _) (Halted.of (State.markDue_frame _ _ _ _) (by assumption) ?_) ?_) ?_)
            · rfl
            · rfl
            · rfl
          · with_reducible exact (by decide)
        · rfl
        · rfl
        · rfl
        · with_reducible apply Halted.inc
          · with_reducible refine State.syncQueue_halted _ _ _ _ _ _ _ _ _ (Halted.of (State.newItem_frame _ _ _) (Halted.of
                             (State.pairSeq_frame _ _ _) (Halted.of (State.markDue_frame _ _ _ _) (by assumption) ?_) ?_) ?_)
            · rfl
            · rfl
            · rfl
          · with_reducible exact (by decide)
        · rfl
      · with_reducible refine Halted.ite (State.committed_halted _ _ _ _ _ (State.syncQueue_halted _ _ _ _ _ _ _ _ _ (Halted.of
                         (State.newItem_frame _ _ _) (Halted.of (State.pairSeq_frame _ _ _) (Halted.of (State.markDue_frame _ _ _ _) (by assumption) ?_) ?_)
                         ?_))) (Halted.of (State.withheld_frame _ _ _ _) (State.syncQueue_halted _ _ _ _ _ _ _ _ _ (Halted.of (State.newItem_frame _ _ _)
                         (Halted.of (State.pairSeq_frame _ _ _) (Halted.of (State.markDue_frame _ _ _ _) (by assumption) ?_) ?_) ?_)) ?_)
        · rfl
        · rfl
        · rfl
        · rfl
        · rfl
        · rfl
        · rfl

theorem State.takeoverDone_halted (s : Sys2Proof.Machine.State) (a1 : Nat) (h : Halted s) : Halted (State.takeoverDone s a1) := by
  unfold State.takeoverDone
  dsimp only
  simp only [State.mk_make]
  split
  · with_reducible exact (by assumption)
  · with_reducible refine Halted.ite (Halted.mk1 ?_) (Halted.of (State.laneDown_frame _ _ _ _) (Halted.of (State.dropLane_frame _ _ _) ?_
                     ?_) ?_)
    · with_reducible apply Halted.addN
      · with_reducible refine State.countEngines_halted _ _ ?_
        with_reducible apply Halted.setO
        · with_reducible exact Halted.mk1 (by assumption)
        · (simp only [Obj.engineState, Obj.failoverDrops, Obj.reedSkips, Obj.modeCurrent, ne_eq]; omega)
      · (simp only [Obj.engineState, Obj.failoverDrops, Obj.reedSkips, Obj.modeCurrent, ne_eq]; omega)
    · with_reducible apply Halted.addN
      · with_reducible refine State.countEngines_halted _ _ ?_
        with_reducible apply Halted.setO
        · with_reducible exact Halted.mk1 (by assumption)
        · (simp only [Obj.engineState, Obj.failoverDrops, Obj.reedSkips, Obj.modeCurrent, ne_eq]; omega)
      · (simp only [Obj.engineState, Obj.failoverDrops, Obj.reedSkips, Obj.modeCurrent, ne_eq]; omega)
    · rfl
    · rfl

theorem State.tamper_halted (s : Sys2Proof.Machine.State) (h : Halted s) : Halted (State.tamper s) := by
  unfold State.tamper
  dsimp only
  simp only [State.mk_make]
  with_reducible exact Halted.ite (State.faulted_halted _ _ _ _ (Halted.mk1 (State.zeroise_halted _ (by assumption)))) (Halted.mk1
                   (State.zeroise_halted _ (by assumption)))

theorem State.thermalRead_halted (s : Sys2Proof.Machine.State) (a1 : List Int) (h : Halted s) : Halted (State.thermalRead s a1) := by
  unfold State.thermalRead
  dsimp only
  simp only [State.mk_make]
  with_reducible refine Halted.ite (Halted.mk1 ?_) ?_
  · with_reducible apply Halted.setO
    · with_reducible apply Halted.setO
      · with_reducible refine Halted.foldl (fun _ _ _ => ?_) (by assumption)
        with_reducible apply Halted.setO
        · with_reducible exact (by assumption)
        · (simp only [Obj.thermalState, Obj.thermalWarnings, Obj.tjMax, Obj.tjPeak, Obj.tjSensor, Obj.modeCurrent, ne_eq]; omega)
      · with_reducible exact (by decide)
    · with_reducible exact (by decide)
  · split
    · with_reducible refine Halted.ite (State.faulted_halted _ _ _ _ ?_) (Halted.mk1 ?_)
      · with_reducible apply Halted.inc
        · with_reducible apply Halted.setO
          · with_reducible refine Halted.mk1 ?_
            with_reducible apply Halted.setO
            · with_reducible apply Halted.setO
              · with_reducible refine Halted.foldl (fun _ _ _ => ?_) (by assumption)
                with_reducible apply Halted.setO
                · with_reducible exact (by assumption)
                · (simp only [Obj.thermalState, Obj.thermalWarnings, Obj.tjMax, Obj.tjPeak, Obj.tjSensor, Obj.modeCurrent, ne_eq]; omega)
              · with_reducible exact (by decide)
            · with_reducible exact (by decide)
          · with_reducible exact (by decide)
        · with_reducible exact (by decide)
      · with_reducible apply Halted.setO
        · with_reducible apply Halted.setO
          · with_reducible refine Halted.foldl (fun _ _ _ => ?_) (by assumption)
            with_reducible apply Halted.setO
            · with_reducible exact (by assumption)
            · (simp only [Obj.thermalState, Obj.thermalWarnings, Obj.tjMax, Obj.tjPeak, Obj.tjSensor, Obj.modeCurrent, ne_eq]; omega)
          · with_reducible exact (by decide)
        · with_reducible exact (by decide)
    · with_reducible refine Halted.ite ?_ (Halted.mk1 ?_)
      · with_reducible apply Halted.setO
        · with_reducible refine Halted.mk1 ?_
          with_reducible apply Halted.setO
          · with_reducible apply Halted.setO
            · with_reducible refine Halted.foldl (fun _ _ _ => ?_) (by assumption)
              with_reducible apply Halted.setO
              · with_reducible exact (by assumption)
              · (simp only [Obj.thermalState, Obj.thermalWarnings, Obj.tjMax, Obj.tjPeak, Obj.tjSensor, Obj.modeCurrent, ne_eq]; omega)
            · with_reducible exact (by decide)
          · with_reducible exact (by decide)
        · with_reducible exact (by decide)
      · with_reducible apply Halted.setO
        · with_reducible apply Halted.setO
          · with_reducible refine Halted.foldl (fun _ _ _ => ?_) (by assumption)
            with_reducible apply Halted.setO
            · with_reducible exact (by assumption)
            · (simp only [Obj.thermalState, Obj.thermalWarnings, Obj.tjMax, Obj.tjPeak, Obj.tjSensor, Obj.modeCurrent, ne_eq]; omega)
          · with_reducible exact (by decide)
        · with_reducible exact (by decide)
    · with_reducible refine Halted.mk1 ?_
      with_reducible apply Halted.setO
      · with_reducible apply Halted.setO
        · with_reducible refine Halted.foldl (fun _ _ _ => ?_) (by assumption)
          with_reducible apply Halted.setO
          · with_reducible exact (by assumption)
          · (simp only [Obj.thermalState, Obj.thermalWarnings, Obj.tjMax, Obj.tjPeak, Obj.tjSensor, Obj.modeCurrent, ne_eq]; omega)
        · with_reducible exact (by decide)
      · with_reducible exact (by decide)

theorem State.thermalTrip_halted (s : Sys2Proof.Machine.State) (a1 : Nat) (h : Halted s) : Halted (State.thermalTrip s a1) := by
  unfold State.thermalTrip
  dsimp only
  simp only [State.mk_make]
  with_reducible exact Halted.ite (Halted.ite (Halted.mk1 (by assumption)) (by assumption)) (State.faulted_halted _ _ _ _ (Halted.mk1
                   (by assumption)))

theorem State.todJudge_halted (s : Sys2Proof.Machine.State) (a1 : Nat) (a2 : Sys2Proof.Octets) (h : Halted s) : Halted (State.todJudge s a1 a2) := by
  unfold State.todJudge
  dsimp only
  split
  · with_reducible refine Halted.of (State.ppsInvalid_frame _ _) ?_ ?_
    · with_reducible apply Halted.inc
      · with_reducible exact (by assumption)
      · (simp only [Obj.refDelayPs, Obj.refPpsWindowNs, Obj.refSysPs, Obj.refTodInvalid, Obj.stamperCalId, Obj.timeInputMalformed, Obj.timescaleSet, Obj.modeCurrent, ne_eq]; omega)
    · rfl
  · split
    · with_reducible exact (by assumption)
    · with_reducible refine Halted.ite ?_ (Halted.of (State.refArrive_frame _ _) (Halted.of (State.setRef_frame _ _ _) (by assumption) ?_)
                       ?_)
      · with_reducible apply Halted.inc
        · with_reducible refine Halted.of (State.setRef_frame _ _ _) (by assumption) ?_
          rfl
        · with_reducible exact (by decide)
      · rfl
      · rfl

theorem State.todArrive_halted (s : Sys2Proof.Machine.State) (a1 : Nat) (a2 : Sys2Proof.Octets) (a3 : Nat) (h : Halted s) : Halted (State.todArrive s a1 a2 a3) := by
  unfold State.todArrive
  with_reducible refine Halted.foldl (fun _ _ _ => ?_) (State.ppsNews_halted _ (by assumption))
  split
  · with_reducible exact Halted.ite (Halted.ite (State.todJudge_halted _ _ _ (by assumption)) (State.ppsNoMessage_halted _ _
                     (by assumption))) (by assumption)
  · with_reducible exact (by assumption)

theorem State.twinLink_halted (s : Sys2Proof.Machine.State) (h : Halted s) : Halted (State.twinLink s) := by
  unfold State.twinLink
  dsimp only
  simp only [State.mk_make]
  with_reducible refine Halted.of (State.twinSend_frame _ _) (Halted.mk1 (State.twinEnter_halted _ _ (Halted.of (State.drew_frame _)
                   (by assumption) ?_))) ?_
  · rfl
  · rfl

theorem State.twpEdge_halted (s : Sys2Proof.Machine.State) (a1 : Int) (a2 : Sys2Proof.Machine.Capture) (a3 : Sys2Proof.Machine.Capture) (h : Halted s) : Halted (State.twpEdge s a1 a2 a3) := by
  unfold State.twpEdge
  dsimp only
  simp only [State.mk_make]
  split
  · with_reducible exact State.edge_halted _ _ _ _ _ (by assumption)
  · with_reducible refine Halted.ite (State.edge_halted _ _ _ _ _ (by assumption)) (Halted.of (State.pairObserve_frame _ _) (Halted.mk1
                     (State.edge_halted _ _ _ _ _ (by assumption))) ?_)
    rfl

theorem State.unknownOp_halted (s : Sys2Proof.Machine.State) (a1 : Nat) (a2 : Nat) (a3 : Nat) (h : Halted s) : Halted (State.unknownOp s a1 a2 a3) := by
  unfold State.unknownOp
  dsimp only
  with_reducible exact Halted.ite (State.chanDone_halted _ _ _ _ (State.doorbell_halted _ _ _ (by assumption))) (Halted.ite
                   (State.setChan__halted _ _ _ (State.doorbell_halted _ _ _ (by assumption))) (State.doorbell_halted _ _ _ (by assumption)))

theorem State.unsupported_halted (s : Sys2Proof.Machine.State) (a1 : Nat) (a2 : Nat) (a3 : Sys2Proof.Machine.RxFrame) (h : Halted s) : Halted (State.unsupported s a1 a2 a3) := by
  unfold State.unsupported
  split
  · with_reducible apply Halted.inc
    · with_reducible refine Halted.of (State.itemDone_frame _ _ _) (by assumption) ?_
      rfl
    · (simp only [Obj.ptpUnsupported, Obj.modeCurrent, ne_eq]; omega)
  · with_reducible refine Halted.of (State.itemDone_frame _ _ _) (by assumption) ?_
    rfl

theorem State.vaultArrive_halted (s : Sys2Proof.Machine.State) (a1 : Sys2Proof.Machine.VaultOp) (a2 : Sys2Proof.Machine.VaultMsg) (h : Halted s) : Halted (State.vaultArrive s a1 a2) := by
  unfold State.vaultArrive
  dsimp only
  with_reducible exact Halted.ite (State.vaultJudge_halted _ _ _ (State.placeRequest_halted _ _ _ (State.accept_halted _ _
                   (by assumption)))) (State.accept_halted _ _ (by assumption))

theorem State.vaultReady_halted (s : Sys2Proof.Machine.State) (h : Halted s) : Halted (State.vaultReady s) := by
  unfold State.vaultReady
  dsimp only
  simp only [State.mk_make]
  with_reducible refine Halted.setN (Halted.of (State.bootKeys_frame _) ?_ ?_) (by decide)
  · with_reducible apply Halted.inc
    · with_reducible exact Halted.mk1 (by assumption)
    · with_reducible exact (by decide)
  · rfl

end Sys2Proof.Machine
end

