-- ==== Sys2Proof/Laws/MemCycle.lean ====
section
/-!
SUPPORT. The memory cycles of W2 (R370, R371) with no request.
-/

namespace Sys2Proof.Machine

/-- With no request, the memory cycles leave all but the list of responses. -/
theorem State.memCycles_nil (s : State) : State.memCycles s [] = { s with shuttle := { s.shuttle with responses := [] } } := rfl

end Sys2Proof.Machine
end

