-- ==== Sys2Proof/Laws/Search.lean ====
section
/-!
SUPPORT. What a search of a snapshot finds (R134, R135): the strongest cell is the largest, and two snapshots with a known outcome.
-/

open Sys2Proof Sys2Proof.Machine

namespace Sys2Proof.Laws

/-- The scan for the strongest cell keeps the largest value seen. -/
theorem strongest_go (t : List (Nat × Int × Nat)) (b : Nat × Int × Nat) :
    b.1 ≤ (t.foldl (fun b x => if b.1 < x.1 then x else b) b).1 ∧
    ∀ x ∈ t, x.1 ≤ (t.foldl (fun b x => if b.1 < x.1 then x else b) b).1 := by
  induction t generalizing b with
  | nil => simp
  | cons y t ih =>
    obtain ⟨h1, h2⟩ := ih (if b.1 < y.1 then y else b)
    have h3 : b.1 ≤ (if b.1 < y.1 then y else b).1 ∧ y.1 ≤ (if b.1 < y.1 then y else b).1 := by split <;> omega
    exact ⟨Nat.le_trans h3.1 h1, fun x hx => by
      rcases List.mem_cons.1 hx with rfl | hx
      · exact Nat.le_trans h3.2 h1
      · exact h2 x hx⟩

/-- No cell is stronger than the strongest one. -/
theorem strongest_ge {l : List (Nat × Int × Nat)} {x : Nat × Int × Nat} (h : x ∈ l) : x.1 ≤ (strongest l).1 := by
  cases l with
  | nil => cases h
  | cons y t =>
    rcases List.mem_cons.1 h with rfl | h
    · exact (strongest_go t _).1
    · exact (strongest_go t _).2 x h

/-- One sample of unit size gives the coherent sum of a cell without delay unit size. -/
theorem acqSum_unit (g sv : Nat) (hz : Int) : (acqSum g sv [(1, 0)] hz 0 0).1 * (acqSum g sv [(1, 0)] hz 0 0).1 = fpOne * fpOne := by
  have hlen : ∃ n, acqLen g = n + 1 := by unfold acqLen acqRate; split <;> exact ⟨_, rfl⟩
  obtain ⟨n, hn⟩ := hlen
  have rest : ∀ (f : Nat → Int × Int → Int × Int) (l : List Nat) (a : Int × Int), (∀ i ∈ l, f i a = a) →
      l.foldl (fun a i => f i a) a = a := by
    intro f l a h
    induction l with
    | nil => rfl
    | cons i l ih => rw [List.foldl_cons, h i (List.mem_cons_self ..)]; exact ih fun j hj => h j (List.mem_cons_of_mem _ hj)
  have hc : fpCosTurn 0 = fpOne := by decide +kernel
  unfold acqSum
  simp only [hn, List.range_succ_eq_map, List.foldl_cons]
  rw [rest]
  · simp [hc]
    split <;> simp [Int.neg_mul_neg]
  · intro i hi
    obtain ⟨j, -, rfl⟩ := List.mem_map.1 hi
    simp

/-- That cell is not zero. -/
theorem acqCell_unit (g sv : Nat) (hz : Int) : 0 < acqCell g sv 1 [(1, 0)] hz 0 := by
  have h := acqSum_unit g sv hz
  have hp : (0 : Int) < fpOne := by decide
  have h2 : 0 ≤ (acqSum g sv [(1, 0)] hz 0 0).2 * (acqSum g sv [(1, 0)] hz 0 0).2 := by
    rcases Int.le_total 0 (acqSum g sv [(1, 0)] hz 0 0).2 with a | a
    · exact Int.mul_nonneg a a
    · exact Int.mul_nonneg_of_nonpos_of_nonpos a a
  simp [acqCell, sumN]
  refine Int.lt_of_lt_of_le hp ?_
  exact (Int.le_ediv_iff_mul_le hp).2 (by omega)

/-- With a threshold of 0 a snapshot with one sample of unit size is a detection. -/
theorem searchWins_unit (s : State) (c : Nat) (x : Snapshot) (d : Int) (hx : x.samples = [(1, 0)]) (ht : s.n Obj.acqThresh = 0) (hk : s.n Obj.acqK = 1) :
    (s.searchWins c x d).isSome = true := by
  have hb : ∃ hz, hz ∈ s.searchBins c d := by
    unfold State.searchBins dopplerBins
    simp only []
    split <;> exact ⟨_, List.mem_map.2 ⟨0, List.mem_range.2 (by omega), rfl⟩⟩
  obtain ⟨hz, hb⟩ := hb
  have hm : (acqCell (s.chanSignal c) (s.chanSv c) 1 [(1, 0)] hz 0, hz, 0) ∈
      acqCells (s.chanSignal c) (s.chanSv c) (s.n Obj.acqK) x.samples (s.searchBins c d) := by
    rw [hx, hk]
    exact List.mem_flatten.2 ⟨_, List.mem_map.2 ⟨hz, hb, rfl⟩,
      List.mem_map.2 ⟨0, List.mem_range.2 (by unfold acqLen acqRate; split <;> decide), rfl⟩⟩
  have := Nat.lt_of_lt_of_le (acqCell_unit (s.chanSignal c) (s.chanSv c) hz) (strongest_ge hm)
  unfold State.searchWins State.searchResult
  simp [State.detects, ht, this]

/-- And its second dwell confirms the cell without delay. -/
theorem confirms_unit (s : State) (c : Nat) (x : Snapshot) (hx : x.samples = [(1, 0)]) (ht : s.n Obj.acqThresh = 0) (hk : s.n Obj.acqK = 1) :
    s.confirms c x 0 0 = true := by
  simp [State.confirms, State.detects, ht, hk, hx, acqCell_unit]

/-- With ACQ_K 0 no cell is confirmed. -/
theorem confirms_none (s : State) (c : Nat) (x : Snapshot) (hk : s.n Obj.acqK = 0) : s.confirms c x 0 0 = false := by
  simp [State.confirms, State.detects, hk, acqCell, sumN]

/-- With ACQ_K 0 no search detects. -/
theorem searchWins_none (s : State) (c : Nat) (x : Snapshot) (d : Int) (hk : s.n Obj.acqK = 0) : s.searchWins c x d = none := by
  have : (s.searchResult c x (s.searchBins c d)).1.1 = 0 := by
    unfold State.searchResult
    simp only [hk]
    have go : ∀ (t : List (Nat × Int × Nat)) (b : Nat × Int × Nat), b.1 = 0 → (∀ x ∈ t, x.1 = 0) →
        (t.foldl (fun b x => if b.1 < x.1 then x else b) b).1 = 0 := by
      intro t
      induction t with
      | nil => exact fun b h _ => h
      | cons y t ih =>
        intro b h h2
        rw [List.foldl_cons]
        exact ih _ (by split <;> simp_all) fun x hx => h2 x (List.mem_cons_of_mem _ hx)
    have all : ∀ y ∈ acqCells (s.chanSignal c) (s.chanSv c) 0 x.samples (s.searchBins c d), y.1 = 0 := by
      intro y hy
      obtain ⟨l, hl, hy⟩ := List.mem_flatten.1 hy
      obtain ⟨hz, -, rfl⟩ := List.mem_map.1 hl
      obtain ⟨tau, -, rfl⟩ := List.mem_map.1 hy
      simp [acqCell, sumN]
    generalize acqCells (s.chanSignal c) (s.chanSv c) 0 x.samples (s.searchBins c d) = l at all
    cases l with
    | nil => rfl
    | cons y t => exact go t y (all y (List.mem_cons_self ..)) fun x hx => all x (List.mem_cons_of_mem _ hx)
  simp [State.searchWins, State.detects, this]

end Sys2Proof.Laws
end

