-- ==== Sys2Proof/Machine/Pins.lean ====
section
/-!
DEFINITION. What the device does with its pins, read from the state: timing ports, TWP_OUT, EFC, network and Yethal lanes, GNSS,
ALIVE, OWN_OUT, flash selects, UART and GPIO (R31, R32, R123, R193, R395, R425, R426, R497, R506, R508).  No pin has a state of its
own: a pin follows the registers and the mode.
-/

namespace Sys2Proof.Machine

/-- What an output pin does. -/
inductive PinDrive where
  /-- High-impedance, with the pull of the pin. -/
  | undriven
  /-- A SerDes transmitter at electrical idle. -/
  | idle
  /-- A MAC that sends idles, or remote-fault sequences (R248). -/
  | idles
  | remoteFault
  | low
  | high
  /-- Edges, symbols or a code as its unit gives them. -/
  | active
  deriving DecidableEq, Repr

namespace State

/-- The modes in which no unit drives the outside but the Forester's side: RESET, BOOT and HALTED (R31, R497). -/
def pinsQuiet (s : State) : Bool := s.mode == mReset || s.mode == mBoot || s.mode == mHalted

/-- A timing port set as an output, at device time `t` of the tick (2^-20 ns): high-impedance where the mode or the interlock says so, low
without OSY; a ToD line; else high from an edge until OUT_HIGH_TIME has passed, whatever stops the edges (R31, R32, R36, R186, R188, R425). -/
def timingPin (s : State) (p : Nat) (t : Int) : PinDrive :=
  if s.o (Obj.tpRole p) ≠ 2 ∨ s.pinsQuiet = true ∨ s.interlockOpen = false then .undriven
  else if s.pll 5 ≠ 2 then .low
  else if s.o (Obj.outMode p) = 3 then (if s.inService && s.bound != unbounded then .active else .low)
  else match (s.out p).pulse with
    | some w => if w.1 ≤ t ∧ t < w.2 then .high else .low
    | none => .low

/-- TWP_OUT: driven by a unit in a joined state whether or not it holds OWN (R426). -/
def twpPin (s : State) : PinDrive := if s.pinsQuiet || !s.joined then .undriven else .active

/-- An EFC output: the stream of its code, but high-impedance in HIGHZ (R31, R193). -/
def efcPin (s : State) (k : Nat) : PinDrive :=
  if s.pinsQuiet || !s.interlockOpen || s.o (Obj.efcState k) == 0 then .undriven else .active

/-- The transmitter of a network lane: at electrical idle in the quiet modes, while its PLL is not locked and where no MAC uses it;
else what its MAC sends: nothing in DOWN, idles in ALIGNED, remote faults in FAULT (R31, R36, R245, R248).
(Log entry 109, DESIGN CHOICE) -/
def lanePin (s : State) (l : Nat) : PinDrive :=
  let m := s.laneMac l
  if s.pinsQuiet || s.pll (if l < 8 then 2 else 3) != 2 || !s.macUsed m then .idle
  else match s.n (Obj.npLinkState m) with
    | 0 => .idle
    | 2 => .idles
    | 4 => .remoteFault
    | _ => .active

/-- The Yethal transmitters: at electrical idle in the quiet modes, without TWIN_ENABLE and while their PLL is lost (R36, R412, R497). -/
def yethalPin (s : State) : PinDrive :=
  if s.pinsQuiet || !s.flag Obj.twinEnable || !s.clockPresent .yethalPll then .idle else .active

/-- The management transmitter: at electrical idle in the quiet modes and while its PLL is lost (R36, R497). -/
def mgmtPin (s : State) : PinDrive := if s.pinsQuiet || !s.clockPresent .mgmtPll then .idle else .active

/-- The bus lines of an I2C controller: released but for the transaction in progress (R497). -/
def i2cPin (s : State) (k : Nat) : PinDrive := if s.o (Obj.i2cBusState k) = 1 ∨ s.o (Obj.i2cBusState k) = 2 then .active else .undriven

/-- GNSS_DCLK0–3: from CLOCKS on (R123, R497). -/
def gnssClockPin (s : State) : PinDrive := if s.pinsQuiet || s.o Obj.gladeState == 0 then .undriven else .active

/-- GNSS_SYSREF: an edge at every epoch, or in the gapped mode the burst at a link start (R119). -/
def sysrefPin (s : State) : PinDrive :=
  if s.pinsQuiet || s.o Obj.gladeState == 0 then .undriven
  else if s.o Obj.sysrefMode == 0 || s.glade.sysrefLeft != 0 then .active else .low

/-- GNSS_FE_EN of an antenna: asserted from CLOCKS on, for antennas with a band enabled (R123, R497). -/
def frontEndPin (s : State) (a : Nat) : PinDrive :=
  if !s.pinsQuiet && s.o Obj.gladeState != 0 && s.n (Obj.linkBands a) != 0 then .high else .low

/-- ALIVE: low in RESET and BOOT, then its level; HALTED stops it at the last one (R395). -/
def alivePin (s : State) : PinDrive :=
  if s.mode != mReset && s.mode != mBoot && s.flag Obj.aliveLevel then .high else .low

/-- OWN_OUT: high while OWN is held, else high-impedance (R425). -/
def ownPin (s : State) : PinDrive :=
  if s.flag Obj.twinEnable && s.flag Obj.twinOwn && !s.pinsQuiet then .high else .undriven

/-- The select of a flash: high-impedance in RESET, low while its command runs, else high (R396, R497). -/
def flashPin (s : State) (cs : Nat) : PinDrive :=
  if s.mode == mReset then .undriven
  else match s.power.command with
    | some c => if c.cs = cs then .low else .high
    | none => .high

/-- UART_TX: high-impedance in RESET, mark while no line is sent, else its lines (R497, R507). -/
def uartPin (s : State) : PinDrive := if s.mode == mReset then .undriven else if s.bus.uart.isEmpty then .high else .active

/-- A DS channel names BUS 2, so GPIO28–GPIO31 are its SPI (R194, R508). -/
def steerSpi (s : State) : Bool :=
  (List.range 4).any fun k => let b := s.blob (Obj.dsteerCfg k); !allZero b && octetAt b 0 == 2

/-- A GPIO: an input in RESET; SPI while a DS channel uses it; else an input or its level, which HALTED holds (R497, R508). -/
def gpioPin (s : State) (k : Nat) : PinDrive :=
  if s.mode == mReset then .undriven
  else if decide (28 ≤ k) && s.steerSpi then .active
  else if bitOf (s.n Obj.gpioDir) k then (if bitOf (s.n Obj.gpioOut) k then .high else .low)
  else .undriven

end State

end Sys2Proof.Machine
end

