-- ==== Sys2Proof/WellFormed.lean ====
section
/-!
DEFINITION. Well-formed commands: operands that fit the widths and lengths that the manual gives them.  The
meanings are total and do not rest on this; it names the commands that the block's environment can send.
-/

namespace Sys2Proof

open Sys2Proof.Machine

/-- A value of a signed 16-bit field. -/
def Width.i16 (v : Int) : Bool := decide (-32768 ≤ v ∧ v ≤ 32767)

/-- A value of a signed 64-bit field. -/
def Width.i64 (v : Int) : Bool := decide (-2 ^ 63 ≤ v ∧ v < 2 ^ 63)

/-- A value of an unsigned 64-bit field, held as an integer. -/
def Width.u64 (v : Int) : Bool := decide (0 ≤ v ∧ v < 2 ^ 64)

/-- A value of an unsigned 64-bit field. -/
def Width.n64 (v : Nat) : Bool := decide (v < 2 ^ 64)

/-- The operands of a command fit their widths: LEAP_ENTRY_WRITE (R84), DLL_UPDATE (R92), code-density hits and the check train
(R93, R94), NOTCH power (R126), TIMESCALE_STEP (R207), BAR0 registers (R346), descriptors (R353), KEY_WRITE (R308), a cycle of a
tick's windows (R41), a word of a bank (R369), FAULT_ACK (R389), a report's fields (R385), INJ_REQUEST (R407), a page of flash
(R470), the eight sensors (R478). -/
def Instr.wellFormed (i : Instr) : Bool :=
  match i with
  | .resetRelease _ _ _ _ => true
  | .pwrOkFall => true
  | .resetNAssert => true
  | .fillComplete _ => true
  | .vaultInitComplete _ => true
  | .bootThermalRecheck _ => true
  | .bootComplete _ => true
  | .tickBoundary _ _ _ work => decide (work.length ≤ 272)
  | .w0Ingest => true
  | .w1Solve _ => true
  | .w2Serve _ cycles => cycles.all fun c => decide (c.sub.val < subBanks c.bank) && c.requests.all fun r =>
      decide (r.word < bankWords c.bank) && decide (r.word % subBanks c.bank = c.sub.val) && decide (r.port < memPorts c.bank) &&
        (match r.write with | some v => decide (v < 2 ^ 64) | none => true)
  | .w3Maintain _ => true
  | .windowOverrun _ => true
  | .shuttleClockEnable _ => true
  | .shuttleClockGate _ => true
  | .enterReplay _ => true
  | .exitReplay _ => true
  | .lossOfClock _ => true
  | .groveStart _ => true
  | .engineSelftestComplete _ _ _ => true
  | .groveRampSlot _ => true
  | .leapEntryWrite _ e newOffset => Width.u64 e && Width.i16 newOffset
  | .leapEntryCancel _ => true
  | .leapApply => true
  | .smearWindowStart => true
  | .smearWindowEnd => true
  | .edgeArrival _ _ _ _ => true
  | .dllUpdate _ error _ => Width.i64 error
  | .codeDensityRunStart _ => true
  | .codeDensityRunEnd _ hits => decide (hits.length ≤ 512)
  | .stamperLockTimeout _ => true
  | .calInitComplete _ train => train.all fun x => decide (x.1.2 < 512 ∧ x.2.2 < 512)
  | .stamperFaultRetry _ => true
  | .gateEnd _ => true
  | .jesdSyncHeaderLock _ => true
  | .jesdEmbLock _ => true
  | .linkDataEntry _ _ => true
  | .linkProgressTimeout _ => true
  | .linkFaultDetect _ _ => true
  | .linkFaultRestart _ => true
  | .multiblockCrcFail _ => true
  | .gladeLinkStart => true
  | .gladeEpoch _ => true
  | .notchAverageEnd _ _ _ => true
  | .acqSearchComplete _ predicted => Width.i64 predicted
  | .acqConfirmComplete _ _ => true
  | .coherentIntegrationEnd _ _ => true
  | .chPullInTimeout _ => true
  | .chLostTimeout _ => true
  | .channelPlan vis => decide (vis.length ≤ 65536)
  | .navUnitDecode _ _ => true
  | .surveyComplete _ => true
  | .surveyTimeout => true
  | .positionCheck _ => true
  | .spoofCheck _ => true
  | .refAbsentTimeout _ => true
  | .classFActivityWindow _ => true
  | .consistencyCheck => true
  | .aplltMissingEdge => true
  | .aplltInputConnect plane _ => decide (plane < 256)
  | .apllLock _ => true
  | .apllLossOfLock _ => true
  | .apllAcquireTimeout _ => true
  | .aplltRelockTimeout => true
  | .apllBypassRetry _ => true
  | .stepMeasure => true
  | .outputEdge _ _ _ => true
  | .dsteerInterval _ => true
  | .timescaleStep _ ns => Width.i64 ns
  | .timescaleStepToRef _ => true
  | .holdMaxExpire => true
  | .todMessageSend _ => true
  | .todMessageReceive _ _ _ => true
  | .npLinkSignal _ => true
  | .npLinkAligned _ => true
  | .npAlignTimeout _ => true
  | .npLinkUp _ => true
  | .npLinkFault _ => true
  | .npFaultClear _ => true
  | .npLinkDown _ => true
  | .frameReceive _ _ _ _ => true
  | .hostBatchClose _ _ _ => true
  | .frameLaunch _ _ _ => true
  | .hostTxDescriptor _ desc _ => desc.length == 32
  | .hostFrameLate _ _ _ => true
  | .esmcInfoPdu _ => true
  | .esmcRxExpire _ => true
  | .heddleSweep => true
  | .ntpRequest _ _ _ => true
  | .ntsRequest _ _ _ => true
  | .ptpDelayReq _ _ _ => true
  | .ptpPdelayReq _ _ _ => true
  | .ptpGrantRequest _ _ => true
  | .ptpGrantCancel _ _ => true
  | .ptpGrantExpire _ => true
  | .ptpSyncDue _ _ _ => true
  | .ptpFollowUpDue _ => true
  | .ptpAnnounceDue _ => true
  | .ptpPdelayReqDue _ _ => true
  | .ptpClientRx _ _ => true
  | .clientRequestDue _ _ => true
  | .clientGrantRenew _ _ => true
  | .clientBackoffExpire _ => true
  | .clientAnnounceTimeout _ => true
  | .esmcPduReceive _ _ => true
  | .ntsKeyRotation => true
  | .ntsRotateNow _ => true
  | .ntsMintRequest _ => true
  | .keyWrite _ blob => decide (blob.length ≤ 128)
  | .keyWriteApply => true
  | .remaskRequest _ => true
  | .entropyHealthFail => true
  | .entropyRestartPass => true
  | .pkSign _ => true
  | .pkVerify _ => true
  | .pkEcdh _ => true
  | .generate _ => true
  | .derive _ => true
  | .proof _ => true
  | .chalIssue _ => true
  | .chalRespond _ => true
  | .attest _ => true
  | .pkEngineStart => true
  | .pkEngineComplete => true
  | .tamperEvent => true
  | .tamperFuseProgrammed => true
  | .dictRead _ => true
  | .dictWrite _ => true
  | .dictDescribe _ => true
  | .dictBatchApply _ => true
  | .mbxUnknownOp _ _ _ => true
  | .mgmtRequestReceive _ => true
  | .mgmtCacheExpiry => true
  | .mgmtArpNd target => target.length == 4 || target.length == 16
  | .pcieLinkUp _ _ => true
  | .pcieLinkDown => true
  | .pcieFlr _ => true
  | .chanReset _ => true
  | .d2hAck _ _ => true
  | .d2hNoticeDeliver _ => true
  | .ringEnable _ _ _ _ => true
  | .ringConsumerWrite _ _ _ off value => decide (off < 65536 ∧ value < 2 ^ 32)
  | .tickLoRead _ => true
  | .counterDump _ => true
  | .registerWrite _ _ _ => true
  | .engineFail _ _ => true
  | .engineWatchdogExpire _ _ => true
  | .takeoverLoadComplete _ => true
  | .aesJob _ _ cycle _ _ _ => decide (cycle < 155000)
  | .memWriteBack bank word _ => decide (word < bankWords bank.val)
  | .memReread bank word _ => decide (word < bankWords bank.val)
  | .scrubRead _ _ => true
  | .scrubPassLate _ => true
  | .dirGets _ _ _ => true
  | .dirGetm _ _ _ => true
  | .dirPutm _ _ => true
  | .faultReport f => decide (f.code < 65536 ∧ f.source < 65536)
  | .aonClockLoss => true
  | .eventLogWrite => true
  | .faultAutoAck => true
  | .faultAck _ v => Width.n64 v
  | .groveRetryExpire _ => true
  | .aliveToggle => true
  | .injRequest _ blob => blob.length == 16
  | .injCancel _ => true
  | .twinLinkDetect => true
  | .twinJoinTimeout => true
  | .twinJoinRetry => true
  | .twinHelloReceive _ => true
  | .twinBulkReceive _ => true
  | .twinJoinBoundary => true
  | .twinAgreeReceive _ _ => true
  | .twinAgreeDeadline => true
  | .twinUrgentReceive at_ _ => Width.n64 at_
  | .twinForwardReceive _ _ => true
  | .twpPulseDrive => true
  | .twpEdgeReceive _ _ _ => true
  | .ownSwitchInstant _ => true
  | .ownInFall => true
  | .ownContention => true
  | .coldTake => true
  | .twinHandover _ => true
  | .twinLeave _ => true
  | .twinRejoin _ => true
  | .captureCopy _ => true
  | .replayLoad _ => true
  | .flashRead _ _ _ => true
  | .flashProgram _ _ _ data => decide (1 ≤ data.length ∧ data.length ≤ 256)
  | .flashSectorErase _ _ _ => true
  | .flashBlockErase _ _ _ => true
  | .flashCommandComplete _ => true
  | .journalIntervalExpire => true
  | .journalNow _ => true
  | .journalWriteComplete _ => true
  | .avsReadback _ => true
  | .pmbusAlert _ => true
  | .thermalSensorRead t => t.length == 8 && t.all Width.i16
  | .thermalTrip _ => true
  | .sentinelMeasure _ => true
  | .selvagePlanStart => true
  | .selvagePlanComplete => true
  | .ageUpdate => true
  | .i2cXfer _ _ _ => true
  | .i2cTransactionStart _ => true
  | .i2cTransactionDone _ _ => true
  | .i2cArbitrationLost _ => true
  | .i2cBusFree _ => true
  | .i2cStretchTimeout _ _ => true
  | .i2cBusReset _ _ _ => true
  | .i2cRecoveryAttempt _ _ => true
  | .i2cTargetSetOffset _ => true
  | .i2cTargetRead _ => true
  | .jtagBypass => true
  | .jtagIdcode => true
  | .jtagSamplePreload _ => true
  | .jtagExtest => true
  | .jtagExtestPulse => true
  | .jtagExtestTrain => true
  | .clockReturn _ => true
  | .yethalAlignmentLoss => true
  | .twinStateTransferRequest => true

end Sys2Proof
end

