-- ==== Sys2Proof/Tests/Slice0.lean ====
section
/-!
SUPPORT. The model's own tests: a state and operands that meet the hypotheses of each statement, a term that each check of WellFormed
refuses, and a few single steps.
-/

open Sys2Proof Sys2Proof.Machine Sys2Proof.Laws

namespace Sys2Proof.Tests

/-- The state after reset with some objects set. -/
def st (l : List (Nat × Int)) : State := l.foldl (fun s x => s.setO x.1 x.2) State.reset

/-- A message from the other unit of the pair. -/
def src : MsgSource := { carrier := .yethal, tick := 0, subtick := 0, late := false, seq := 0, len := 0 }

/-- A message in mailbox 0. -/
def mail : MsgSource := { carrier := .mailbox 0, tick := 0, subtick := 0, late := false, seq := 1, len := 0 }

/-- A unit of navigation data that failed its check. -/
def nav : NavUnit := ⟨[], false, 0, 0, none, none, none⟩

/-- A start of HOLDOVER at tick 0. -/
def hold : Hold := ⟨0, { start := 0, base := 0, pyy := 0, pyd := 0, pdd := 0 }, 0, 0, 0, 0, 0, 0, 0⟩

/-- A complete snapshot of one sample. -/
def snap : Snapshot := ⟨0, 0, [(1, 0)]⟩

/-- In RUN, with that snapshot of the first stream in the signal 0x01 and one channel. -/
def searching (l : List (Nat × Int)) (c : Nat) (v : TrackChannel) : State :=
  { st ((Obj.gladeState, 3) :: l) with glade := { snaps := [(State.snapKey 0 1 0, some snap)], channels := [(c, v)] } }

/-- A frame of a class with a payload, for grove 0. -/
def rx (cls : FrameClass) (payload : Octets) : RxFrame := ⟨0, cls, 0, 0, 0, 0, { ip := 4, payload := payload }, none, none⟩

/-- A frame of the host that waits to be sent. -/
def tx : TxFrame := { queue := 0, kind := .host 0 0 false, len := 60 }

/-- A read of the catalogue over the management port. -/
def datagram : MgmtDatagram := ⟨zeros 16, 1 :: zeros 15, 9, false, false, 47300, 0x4F44, 1, 0, 1, true⟩

/-- A management port that answers at one IPv6 address, with other octets set. -/
def managed (l : List (Nat × Octets)) : State :=
  { st [(Obj.modeCurrent, 4), (Obj.apllState 2, 2), (Obj.cdStatus, 2 ^ 40 - 1)] with
    host := { mgmtUp := true }, blobs := l ++ [(Obj.mgmtIpv6, 1 :: zeros 15)] }

/-- A hello of the other unit. -/
def hello (leaving : Bool) : Hello := ⟨zeros 16, [], [], [], [], [], [], false, 0, 0, false, 4, [], leaving⟩

/-- A bulk state whose proof was or was not right. -/
def bulk (attested : Bool) : Bulk := ⟨attested, [], [], [], [], [], [], {}, [], 0, 0, 8192⟩

/-- A record to replay. -/
def feed : FeedRecord :=
  { crcOk := false, version := 1, flags := 32, len := 0, tick := 0, microcode := 0, digest := 0, image := none,
    inputs := { coast := false, mode := 4, sel := 0, index := 0,
                state := { tick := 0, time := 0, plane := 0, len := 0, rateY := 0, bound := 0, source := 0 }, ingested := [], fits := [] },
    dict := [], output := [], ensDigest := none }

/-- A journal with nothing in it. -/
def journal : Journal := ⟨1, 0, 0, [], [], [], 0, [], 0, 0, none, [], []⟩

/-- A unicast session whose announce grant has run out. -/
def session : Session := ⟨0, [], [], 0, 0, [], [], 4, some { start := 0, dur := 0, log := 0 }, none, none, 0, 0, 0⟩

/-- In TRACK with nothing bound, no PPS reference has a port. -/
theorem unbound : ∀ x, x < 0x20 → 0x10 ≤ x → State.ppsBinding (State.ppsNews (st [(Obj.modeCurrent, 4)])) x = none := by
  have h : State.ppsNews (st [(Obj.modeCurrent, 4)]) = st [(Obj.modeCurrent, 4)] := by decide +kernel
  rw [h]
  decide

/-- A record that a replay begins with. -/
def loadable : FeedRecord :=
  let s := st [(Obj.replayState, 1)]
  { feed with crcOk := true, image := some ⟨{}, [], []⟩, microcode := s.n Obj.ensMicrocodeId, digest := s.imageDigest ⟨{}, [], []⟩ }

/-- The hypotheses of each clause of StepRunsTheFrontCommand are met together. -/
theorem witness_StepRunsTheFrontCommand :
    (∃ (c : Instr) (rest : List Instr) (s : State), s.pending = c :: rest) :=
  ⟨.tamperEvent, [], { State.reset with pending := [.tamperEvent] }, by decide⟩

/-- The hypotheses of each clause of StepIdlesOnAnEmptyQueue are met together. -/
theorem witness_StepIdlesOnAnEmptyQueue :
    (∃ (s : State), s.pending = []) :=
  ⟨State.reset, by decide⟩

/-- The hypotheses of each clause of EveryCommandAnswers are met together. -/
theorem witness_EveryCommandAnswers :
    (∃ (c : Instr), (∀ bank word value, c = .memWriteBack bank word value → word < bankWords bank) ∧ (∀ bank word still, c = .memReread bank word still →
      word < bankWords bank)) :=
  ⟨.memWriteBack 0 0 0, by intro b w v h; injection h with h1 h2; subst h1 h2; decide, by intro b w v h; cases h⟩

/-- The hypotheses of each clause of AbsentWordsFault are met together. -/
theorem witness_AbsentWordsFault :
    (∃ (bank : Fin 21) (word : Nat), bankWords bank.val ≤ word) ∧
    (∃ (bank : Fin 21) (word : Nat), bankWords bank.val ≤ word) :=
  ⟨⟨0, bankWords 0, by decide⟩,
    ⟨20, bankWords 20, by decide⟩⟩

/-- The hypotheses of each clause of CommandsKeepTheQueue are met together. -/
theorem witness_CommandsKeepTheQueue :
    (∃ (c : Instr) (s : State) (t : State), exec c s = .next t) :=
  ⟨.tamperEvent, { State.reset with pending := [.tamperEvent] }, _, rfl⟩

/-- The hypotheses of each clause of StepsKeepMemoryCanonical are met together. -/
theorem witness_StepsKeepMemoryCanonical :
    (∃ (s : State) (t : State), Safety.memCanonical s ∧ Sys2Proof.Machine.step s = .next t) :=
  ⟨{ State.reset with mem := [⟨8, 1⟩], pending := [.tamperEvent] }, _, by unfold Safety.memCanonical; decide, rfl⟩

/-- The hypotheses of each clause of HaltedIsLeftOnlyByPower are met together. -/
theorem witness_HaltedIsLeftOnlyByPower :
    (∃ (c : Instr) (s : State) (t : State), s.mode = mHalted ∧ c ≠ .pwrOkFall ∧ exec c s = .next t) ∧
    (∃ (s : State), s.mode = mHalted) ∧
    (∃ (s : State), s.mode = mHalted) :=
  ⟨⟨.resetNAssert, (st [(Obj.modeCurrent, 7)]), _, by decide, by decide, rfl⟩,
    ⟨(st [(Obj.modeCurrent, 7)]), by decide⟩,
    ⟨(st [(Obj.modeCurrent, 7)]), by decide⟩⟩

/-- The hypotheses of each clause of OnlyBobbinWritesMemory are met together. -/
theorem witness_OnlyBobbinWritesMemory :
    (∃ (c : Instr) (s : State) (t : State) (a : Nat), exec c s = .next t ∧ (∀ b, c ≠ .fillComplete b) ∧ c ≠ .pwrOkFall ∧ c ≠ .resetNAssert ∧ (∀ b w v, c ≠
      .memWriteBack b w v) ∧ (∀ x, c ≠ .w3Maintain x) ∧ (∀ b x, c ≠ .scrubRead b x) ∧ (∀ f, c ≠ .faultReport f) ∧ (∀ k u, c ≠ .navUnitDecode k u) ∧ (∀ feed
      cycles, c = .w2Serve feed cycles → cycles = []) ∧ ¬ Safety.inBank 17 a) :=
  ⟨.tamperEvent, (st [(Obj.modeCurrent, 4)]), _, 0, rfl, by simp, by simp, by simp, by simp, by simp, by simp, by simp, by simp, by simp,
    by unfold Safety.inBank; decide⟩

/-- The hypotheses of each clause of ModeCommandsFrame are met together. -/
theorem witness_ModeCommandsFrame :
    (∃ (c : Instr) (s : State) (t : State), Safety.family c = .modes ∧ exec c s = .next t) :=
  ⟨.resetNAssert, (st [(Obj.modeCurrent, 4)]), _, by decide, rfl⟩

/-- The hypotheses of each clause of StampAndRadioCommandsFrame are met together. -/
theorem witness_StampAndRadioCommandsFrame :
    (∃ (c : Instr) (s : State) (t : State), (Safety.family c = .stamping ∨ Safety.family c = .radio) ∧ exec c s = .next t) :=
  ⟨.surveyTimeout, (st [(Obj.modeCurrent, 4)]), _, by decide, rfl⟩

/-- The hypotheses of each clause of TimingCommandsFrame are met together. -/
theorem witness_TimingCommandsFrame :
    (∃ (c : Instr) (s : State) (t : State), Safety.family c = .timing ∧ exec c s = .next t) :=
  ⟨.consistencyCheck, (st [(Obj.modeCurrent, 4)]), _, by decide, rfl⟩

/-- The hypotheses of each clause of NetworkCommandsFrame are met together. -/
theorem witness_NetworkCommandsFrame :
    (∃ (c : Instr) (s : State) (t : State), Safety.family c = .network ∧ exec c s = .next t) :=
  ⟨.heddleSweep, (st [(Obj.modeCurrent, 4)]), _, by decide, rfl⟩

/-- The hypotheses of each clause of ServiceCommandsFrame are met together. -/
theorem witness_ServiceCommandsFrame :
    (∃ (c : Instr) (s : State) (t : State), Safety.family c = .services ∧ exec c s = .next t) :=
  ⟨.ntsKeyRotation, { st [(Obj.modeCurrent, 4)] with sys := { window := .w3 } }, _, by decide, rfl⟩

/-- The hypotheses of each clause of VaultCommandsFrame are met together. -/
theorem witness_VaultCommandsFrame :
    (∃ (c : Instr) (s : State) (t : State), Safety.family c = .vault ∧ exec c s = .next t) :=
  ⟨.tamperEvent, (st [(Obj.modeCurrent, 4)]), _, by decide, rfl⟩

/-- The hypotheses of each clause of HostCommandsFrame are met together. -/
theorem witness_HostCommandsFrame :
    (∃ (c : Instr) (s : State) (t : State), Safety.family c = .host ∧ exec c s = .next t) :=
  ⟨.pcieLinkDown, (st [(Obj.modeCurrent, 4), (Obj.pcieLink, 20), (Obj.cdStatus, 2 ^ 40 - 1)]), _, by decide, rfl⟩

/-- The hypotheses of each clause of ShuttleCommandsFrame are met together. -/
theorem witness_ShuttleCommandsFrame :
    (∃ (c : Instr) (s : State) (t : State), Safety.family c = .shuttle ∧ exec c s = .next t) :=
  ⟨.groveStart 0, (st [(Obj.modeCurrent, 2)]), _, by decide, rfl⟩

/-- The hypotheses of each clause of FaultAndTwinCommandsFrame are met together. -/
theorem witness_FaultAndTwinCommandsFrame :
    (∃ (c : Instr) (s : State) (t : State), (Safety.family c = .faults ∨ Safety.family c = .twin) ∧ exec c s = .next t) :=
  ⟨.ownInFall, (st [(Obj.modeCurrent, 4)]), _, by decide, rfl⟩

/-- The hypotheses of each clause of StorageAndBusCommandsFrame are met together. -/
theorem witness_StorageAndBusCommandsFrame :
    (∃ (c : Instr) (s : State) (t : State), (Safety.family c = .storage ∨ Safety.family c = .sideBuses) ∧ exec c s = .next t) :=
  ⟨.jtagIdcode, (st [(Obj.modeCurrent, 4)]), _, by decide, rfl⟩

/-- The hypotheses of each clause of ResetCommandsComplete are met together. -/
theorem witness_ResetCommandsComplete :
    (∃ (s : State), s.mode ≠ mHalted) ∧
    (∃ (s : State), s.mode = mReset) ∧
    (∃ (s : State), s.power.command = none) ∧
    (∃ (s : State), s.mode ≠ mHalted ∧ s.power.command = none ∧ s.vault.tampered = false) ∧
    (∃ (s : State), s.mode ≠ mHalted) ∧
    (∃ (s : State), s.mode = mHalted) ∧
    (∃ (s : State), s.mode = mReset ∧ s.vault.tampered = false ∧ s.power.tripLatch = false) ∧
    (∃ (s : State), s.mode = mReset ∧ s.fault.frozen = false ∧ s.fault.context = none ∧ (s.vault.tampered = true ∨ s.power.tripLatch = true)) :=
  ⟨⟨(st [(Obj.modeCurrent, 4)]), by decide⟩,
    ⟨(st [(Obj.modeCurrent, 0)]), by decide⟩,
    ⟨{ State.reset with power := { command := none } }, by decide⟩,
    ⟨{ st [(Obj.modeCurrent, 4)] with power := { command := none }, vault := { tampered := false } }, by decide⟩,
    ⟨(st [(Obj.modeCurrent, 4)]), by decide⟩,
    ⟨(st [(Obj.modeCurrent, 7)]), by decide⟩,
    ⟨{ st [(Obj.modeCurrent, 0)] with vault := { tampered := false }, power := { tripLatch := false } }, by decide⟩,
    ⟨{ st [(Obj.modeCurrent, 0)] with fault := { frozen := false, context := none }, vault := { tampered := true }, power := { tripLatch := true } }, by
      decide⟩⟩

/-- The hypotheses of each clause of BootCommandsComplete are met together. -/
theorem witness_BootCommandsComplete :
    (∃ (s : State), s.mode ≠ mHalted) ∧
    (∃ (s : State), s.mode = mReset ∧ s.vault.tampered = false ∧ s.power.tripLatch = false) ∧
    (∃ (s : State), s.mode = mBoot ∧ s.power.loaded = false) ∧
    (∃ (s : State), s.mode = mBoot ∧ s.o Obj.vaultState = 1 ∧ s.vault.tampered = false) ∧
    (∃ (s : State), s.mode = mBoot ∧ s.o Obj.vaultState = 1 ∧ s.vault.tampered = true) ∧
    (∃ (s : State), s.mode = mBoot ∧ s.o Obj.vaultState = 1) ∧
    (∃ (s : State), s.mode = mBoot ∧ s.power.loaded = true ∧ s.o Obj.vaultState = 2 ∧ s.power.held = false ∧ s.o Obj.tjMax < 1840) ∧
    (∃ (s : State), s.mode = mBoot ∧ s.power.held = true ∧ s.o Obj.tjMax < 1840) ∧
    (∃ (s : State), s.mode = mBoot ∧ s.power.loaded = false) ∧
    (∃ (s : State), s.mode = mBoot ∧ s.o Obj.vaultState = 1 ∧ s.vault.tampered = false) ∧
    (∃ (s : State), s.mode = mBoot ∧ s.o Obj.vaultState = 1 ∧ s.fault.frozen = false ∧ s.fault.context = none) ∧
    (∃ (s : State), s.mode = mBoot ∧ s.power.loaded = true ∧ s.o Obj.vaultState = 2 ∧ s.power.held = false ∧ s.o Obj.tjMax < 1840) ∧
    (∃ (s : State), s.mode = mBoot ∧ s.power.loaded = true ∧ s.o Obj.vaultState = 2 ∧ s.power.held = false ∧ 1840 ≤ s.o Obj.tjMax) ∧
    (∃ (s : State), s.mode = mBoot ∧ s.power.held = true ∧ s.o Obj.tjMax < 1840) ∧
    (∃ (s : State), s.mode = mBoot ∧ s.power.held = true ∧ 1840 ≤ s.o Obj.tjMax) :=
  ⟨⟨(st [(Obj.modeCurrent, 4)]), by decide⟩,
    ⟨{ st [(Obj.modeCurrent, 0)] with vault := { tampered := false }, power := { tripLatch := false } }, by decide⟩,
    ⟨{ st [(Obj.modeCurrent, 1)] with power := { loaded := false } }, by decide⟩,
    ⟨{ st [(Obj.modeCurrent, 1), (Obj.vaultState, 1)] with vault := { tampered := false } }, by decide⟩,
    ⟨{ st [(Obj.modeCurrent, 1), (Obj.vaultState, 1)] with vault := { tampered := true } }, by decide⟩,
    ⟨(st [(Obj.modeCurrent, 1), (Obj.vaultState, 1)]), by decide⟩,
    ⟨{ st [(Obj.modeCurrent, 1), (Obj.vaultState, 2), (Obj.tjMax, 1839)] with power := { loaded := true, held := false } }, by decide⟩,
    ⟨{ st [(Obj.modeCurrent, 1), (Obj.tjMax, 1839)] with power := { held := true } }, by decide⟩,
    ⟨{ st [(Obj.modeCurrent, 1)] with power := { loaded := false } }, by decide⟩,
    ⟨{ st [(Obj.modeCurrent, 1), (Obj.vaultState, 1)] with vault := { tampered := false } }, by decide⟩,
    ⟨{ st [(Obj.modeCurrent, 1), (Obj.vaultState, 1)] with fault := { frozen := false, context := none } }, by decide⟩,
    ⟨{ st [(Obj.modeCurrent, 1), (Obj.vaultState, 2), (Obj.tjMax, 1839)] with power := { loaded := true, held := false } }, by decide⟩,
    ⟨{ st [(Obj.modeCurrent, 1), (Obj.vaultState, 2), (Obj.tjMax, 1840)] with power := { loaded := true, held := false } }, by decide⟩,
    ⟨{ st [(Obj.modeCurrent, 1), (Obj.tjMax, 1839)] with power := { held := true } }, by decide⟩,
    ⟨{ st [(Obj.modeCurrent, 1), (Obj.tjMax, 1840)] with power := { held := true } }, by decide⟩⟩

/-- The hypotheses of each clause of TickCommandsComplete are met together. -/
theorem witness_TickCommandsComplete :
    (∃ (s : State), s.running = true) ∧
    (∃ (s : State), s.running = true ∧ s.sys.window.rank < 1) ∧
    (∃ (work : Unfinished) (s : State), s.running = true ∧ s.sys.window = work.window) ∧
    (∃ (s : State), s.running = true) ∧
    (∃ (s : State), s.running = true ∧ s.sys.window.rank < 1) ∧
    (∃ (s : State), s.running = true ∧ s.sys.window.rank < 2 ∧ s.mode ≠ mReplay) ∧
    (∃ (s : State), s.running = true ∧ s.sys.window.rank < 2 ∧ s.mode = mReplay) ∧
    (∃ (s : State), s.running = true ∧ s.sys.window.rank < 3 ∧ s.mode ≠ mReplay) ∧
    (∃ (s : State), s.running = true ∧ s.sys.window.rank < 3 ∧ s.mode = mReplay) ∧
    (∃ (s : State), s.running = true ∧ s.sys.window.rank < 4) ∧
    (∃ (work : Unfinished) (s : State), s.running = true ∧ s.sys.window = work.window) :=
  ⟨⟨(st [(Obj.modeCurrent, 4)]), by decide⟩,
    ⟨(st [(Obj.modeCurrent, 4)]), by decide⟩,
    ⟨.batch, { st [(Obj.modeCurrent, 4)] with sys := { window := .w3 } }, by decide⟩,
    ⟨(st [(Obj.modeCurrent, 4)]), by decide⟩,
    ⟨(st [(Obj.modeCurrent, 4)]), by decide⟩,
    ⟨{ st [(Obj.modeCurrent, 4)] with sys := { window := .w0 } }, by decide⟩,
    ⟨{ st [(Obj.modeCurrent, 6)] with sys := { window := .w0 } }, by decide⟩,
    ⟨{ st [(Obj.modeCurrent, 4)] with sys := { window := .w1 } }, by decide⟩,
    ⟨{ st [(Obj.modeCurrent, 6)] with sys := { window := .w1 } }, by decide⟩,
    ⟨{ st [(Obj.modeCurrent, 4)] with sys := { window := .w2 } }, by decide⟩,
    ⟨.batch, { st [(Obj.modeCurrent, 4)] with sys := { window := .w3 } }, by decide⟩⟩

/-- The hypotheses of each clause of ClockCommandsComplete are met together. -/
theorem witness_ClockCommandsComplete :
    (∃ (g : Fin 16) (s : State), s.running = true ∧ s.sys.window = .w1 ∧ 1 ≤ s.o (Obj.groveState g) ∧ s.o (Obj.groveState g) ≤ 3 ∧ g.val ∉
      s.shuttle.clocked) ∧
    (∃ (s : State), s.running = true ∧ s.sys.window = .w3) ∧
    (∃ (s : State), s.running = true ∧ s.sys.window ≠ .w3) ∧
    (∃ (s : State), s.running = true ∧ s.sys.window = .w3) ∧
    (∃ (s : State), s.running = true ∧ s.sys.window ≠ .w3) ∧
    (∃ (s : State), s.running = true ∧ s.sys.window = .w3) ∧
    (∃ (cls : PortClass), cls ≠ .hostH) ∧
    (∃ (n : Fin 4) (s : State), s.alive = true ∧ s.clockPresent (.clkIn n) = true) ∧
    (∃ (c : ClockSource) (s : State), s.alive = true ∧ s.clockPresent c = true ∧ (∀ k, c ≠ .apll k)) ∧
    (∃ (k : Fin 6) (s : State), s.alive = true ∧ s.clockPresent (.apll k) = true ∧ (s.pll k = 2 ∨ s.pll k = 4 ∨ s.pll k = 5)) ∧
    (∃ (c : ClockSource) (s : State), s.alive = true ∧ (∀ k, c ≠ .apll k) ∧ (c = .pcie → s.power.filled = true) ∧ s.pll 0 ≠ 1) ∧
    (∃ (c : ClockSource) (s : State), s.alive = true ∧ (∀ k, c ≠ .apll k) ∧ (c = .pcie → s.power.filled = true) ∧ s.pll 0 = 1 ∧ s.n Obj.aplltSource = 255) :=
  ⟨⟨15, { st [(Obj.modeCurrent, 4), (Obj.groveState 15, 3)] with sys := { window := .w1 } }, by decide⟩,
    ⟨{ st [(Obj.modeCurrent, 4)] with sys := { window := .w3 } }, by decide⟩,
    ⟨(st [(Obj.modeCurrent, 4)]), by decide⟩,
    ⟨{ st [(Obj.modeCurrent, 4)] with sys := { window := .w3 } }, by decide⟩,
    ⟨(st [(Obj.modeCurrent, 4)]), by decide⟩,
    ⟨{ st [(Obj.modeCurrent, 4)] with sys := { window := .w3 } }, by decide⟩,
    ⟨.hosth, by decide⟩,
    ⟨3, (st [(Obj.modeCurrent, 4), (Obj.cdStatus, 16)]), by decide⟩,
    ⟨.clkIn 3, (st [(Obj.modeCurrent, 4), (Obj.cdStatus, 16)]), by decide, by decide, by simp⟩,
    ⟨5, (st [(Obj.modeCurrent, 4), (Obj.apllState 5, 5), (Obj.cdStatus, 256)]), by decide⟩,
    ⟨.clkIn 0, (st [(Obj.modeCurrent, 4), (Obj.apllState 0, 2)]), by decide, by simp, by decide⟩,
    ⟨.clkIn 0, (st [(Obj.modeCurrent, 4), (Obj.apllState 0, 1), (Obj.aplltSource, 255)]), by decide, by simp, by decide, by decide⟩⟩

/-- The hypotheses of each clause of LeapCommandsComplete are met together. -/
theorem witness_LeapCommandsComplete :
    (∃ (cls : PortClass) (e : Int) (newOffset : Int) (s : State), s.running = true ∧ (cls = .hostH ∨ cls = .mgmtM) ∧ s.leapEntryOk e newOffset = true ∧
      s.sys.window ≠ .w3) ∧
    (∃ (cls : PortClass) (e : Int) (newOffset : Int) (s : State), s.running = true ∧ (cls = .hostH ∨ cls = .mgmtM) ∧ s.leapEntryOk e newOffset = true ∧
      s.sys.window = .w3) ∧
    (∃ (cls : PortClass) (e : Int) (newOffset : Int) (s : State), (s.leapEntryOk e newOffset = false ∨ (cls ≠ .hostH ∧ cls ≠ .mgmtM))) ∧
    (∃ (cls : PortClass) (s : State), s.running = true ∧ (cls = .hostH ∨ cls = .mgmtM) ∧ s.sys.window ≠ .w3) ∧
    (∃ (cls : PortClass) (s : State), s.running = true ∧ (cls = .hostH ∨ cls = .mgmtM) ∧ s.sys.window = .w3) ∧
    (∃ (p : LeapEntry) (s : State), s.running = true ∧ s.leapPending = some p ∧ p.e ≤ s.second) ∧
    (∃ (p : LeapEntry) (s : State), s.running = true ∧ s.leapPending = some p ∧ p.e ≤ s.second) ∧
    (∃ (s : State), s.running = true ∧ (s.smearEntry s.timeNow).isSome = true) ∧
    (∃ (s : State), s.running = true ∧ (s.smearEntry s.timeNow).isNone = true) :=
  ⟨⟨.hostH, 2678437, 38, (st [(Obj.modeCurrent, 4), (Obj.taiUtcOffset, 37)]), by decide⟩,
    ⟨.mgmtM, 2678437, 38, { st [(Obj.modeCurrent, 4), (Obj.taiUtcOffset, 37)] with sys := { window := .w3 } }, by decide⟩,
    ⟨.hostH, 0, 38, State.reset, by decide⟩,
    ⟨.hostH, (st [(Obj.modeCurrent, 4)]), by decide⟩,
    ⟨.hostH, { st [(Obj.modeCurrent, 4)] with sys := { window := .w3 } }, by decide⟩,
    ⟨⟨0, 38, 37⟩, (st [(Obj.modeCurrent, 4), (Obj.taiUtcOffset, 37), (Obj.leapPending, 1)]), by decide⟩,
    ⟨⟨5, 38, 37⟩, (st [(Obj.modeCurrent, 4), (Obj.taiUtcOffset, 37), (Obj.leapPending, 1), (Obj.leapPendingE, 5), (Obj.timeNow, 5 * secondUnits)]), by
      decide⟩,
    ⟨(st [(Obj.modeCurrent, 4), (Obj.smearLengthS, 86400), (Obj.taiUtcOffset, 37), (Obj.leapPending, 1), (Obj.leapPendingE, 5)]), by decide⟩,
    ⟨(st [(Obj.modeCurrent, 4)]), by decide⟩⟩

/-- A flat histogram, whose table `buildTable` builds. -/
theorem foldl_ones (n k : Nat) : (List.replicate n 1).foldl (· + ·) k = k + n := by
  induction n generalizing k with
  | zero => rfl
  | succ n ih => rw [List.replicate_succ, List.foldl_cons, ih]; omega

theorem sumN_ones (n : Nat) : sumN (List.replicate n 1) = n := (foldl_ones n 0).trans (Nat.zero_add n)

theorem flat_column (n c : Nat) (h : c < n) : sumN ([List.replicate n 1].map fun l => l.getD c 0) = 1 := by
  simp [sumN, h]

theorem flat_sum (n : Nat) : ((List.range n).map fun c => sumN ([List.replicate n 1].map fun l => l.getD c 0)) = List.replicate n 1 := by
  rw [List.map_congr_left (g := fun _ => 1) fun c hc => flat_column n c (List.mem_range.mp hc), List.map_const', List.length_range]

theorem flat_wide : ∀ x ∈ List.replicate 512 1, decide (190 * 512 ≤ x * 390625 ∧ x * 390625 ≤ 3050 * 512) = true := by
  intro x hx
  rw [List.eq_of_mem_replicate hx]
  decide

theorem buildTable_flat : (State.buildTable [List.replicate 512 1]).isSome = true := by
  unfold State.buildTable
  simp only [flat_sum, sumN_ones, List.all_eq_true.mpr flat_wide]
  decide

/-- The hypotheses of each clause of StampCommandsComplete are met together. -/
theorem witness_StampCommandsComplete :
    (∃ (p : Fin 84) (s : State), s.running = true ∧ s.portOn p = true) ∧
    (∃ (p : Fin 84) (time : Nat) (s : State), s.running = true ∧ s.portOn p = true ∧ (s.port p).fresh = [] ∧ (∀ l, (s.port p).lastEdge = some l → l +
      1310720 ≤ time) ∧ p.val < 64 ∧ (s.n (Obj.tpEdges p) + 1) % 2 ^ 48 % max 1 (s.portDivider p) ≠ 0) ∧
    (∃ (k : Fin 170) (error : Int) (s : State), s.running = true ∧ s.stState k ≠ 0 ∧ error.natAbs ≤ 3200) ∧
    (∃ (k : Fin 170) (error : Int) (s : State), s.running = true ∧ s.stState k ≠ 0 ∧ error.natAbs ≤ 3200 ∧ (s.port (k / 2)).held = []) ∧
    (∃ (k : Fin 170) (error : Int) (s : State), s.running = true ∧ (s.stState k = 1 ∨ s.stState k = 5) ∧ 3200 < error.natAbs) ∧
    (∃ (k : Fin 170) (error : Int) (s : State), s.running = true ∧ (s.stState k = 2 ∨ s.stState k = 3 ∨ s.stState k = 4) ∧ 3200 < error.natAbs) ∧
    (∃ (k : Fin 170) (s : State), s.running = true ∧ s.stActive k = true ∧ s.stActive (State.twinOf k) = true ∧ (s.recalDue k = true ∨ (s.stamper
      k).deferred = true)) ∧
    (∃ (k : Fin 170) (s : State), s.running = true ∧ s.stState k = 2) ∧
    (∃ (k : Fin 170) (s : State), s.running = true ∧ s.stState k = 2 ∧ (s.stamper k).hists.length < 15) ∧
    (∃ (k : Fin 170) (s : State), s.running = true ∧ s.stState k = 4 ∧ (s.stamper k).entry + 4 ≤ s.age) ∧
    (∃ (k : Fin 170) (hits : List Nat) (table : List Nat) (s : State), s.running = true ∧ s.stState k = 4 ∧ (s.stamper k).entry + 4 ≤ s.age ∧
      State.buildTable ((hits :: (s.stamper k).hists).take 16) = some table) ∧
    (∃ (k : Fin 170) (s : State), s.running = true ∧ s.stState k = 1 ∧ (s.stamper k).locked = false ∧ (s.stamper k).entry + 64 ≤ s.age) ∧
    (∃ (k : Fin 170) (s : State), s.running = true ∧ s.stState k = 2 ∧ 16 ≤ (s.stamper k).runs ∧ (s.stamper k).entry + 72 ≤ s.age) ∧
    (∃ (k : Fin 170) (s : State), s.running = true ∧ s.stState k = 5 ∧ (s.stamper k).entry + 8192 ≤ s.age ∧ s.portOn (k / 2) = true) ∧
    (∃ (p : Fin 84) (s : State), s.running = true ∧ s.gateDue p = true) :=
  ⟨⟨0, (st [(Obj.modeCurrent, 4), (Obj.tpRole 0, 1)]), by decide⟩,
    ⟨0, 0, st [(Obj.modeCurrent, 4), (Obj.tpRole 0, 1), (Obj.tpStampDivider 0, 2)], by decide, by decide, by decide, (fun l h => nomatch (show none = some l from h)), by decide, by decide⟩,
    ⟨128, 3200, { st [(Obj.modeCurrent, 4)] with stamp := { stampers := [(128, { state := 3 })] } }, by decide⟩,
    ⟨127, -3200, (st [(Obj.modeCurrent, 4), (Obj.stamperState 127, 3)]), by decide⟩,
    ⟨0, 3201, (st [(Obj.modeCurrent, 4), (Obj.stamperState 0, 1)]), by decide⟩,
    ⟨2, -3201, st [(Obj.modeCurrent, 4), (Obj.stamperState 2, 3)], by decide⟩,
    ⟨2, { st [(Obj.modeCurrent, 4), (Obj.stamperState 2, 3), (Obj.stamperState 3, 3)] with stamp := { stampers := [(2, { deferred := true })] } }, by
      decide⟩,
    ⟨2, st [(Obj.modeCurrent, 4), (Obj.stamperState 2, 2)], by decide⟩,
    ⟨2, { st [(Obj.modeCurrent, 4), (Obj.stamperState 2, 2)] with stamp := { stampers := [(2, { hists := List.replicate 14 [] })] } }, by decide⟩,
    ⟨0, { st [(Obj.modeCurrent, 4), (Obj.stamperState 0, 4)] with sys := { warmupTick := 4 } }, by decide⟩,
    ⟨0, List.replicate 512 1, (State.buildTable [List.replicate 512 1]).get buildTable_flat, { st [(Obj.modeCurrent, 4), (Obj.stamperState 0,
      4)] with sys := { warmupTick := 4 } }, by decide, by decide, by decide, (Option.some_get _).symm⟩,
    ⟨0, { st [(Obj.modeCurrent, 4), (Obj.stamperState 0, 1)] with sys := { warmupTick := 64 } }, by decide⟩,
    ⟨0, { st [(Obj.modeCurrent, 4), (Obj.stamperState 0,
      2)] with sys := { warmupTick := 72 }, stamp := { stampers := [(0, { state := 2, runs := 16 })] } }, by decide⟩,
    ⟨0, { st [(Obj.modeCurrent, 4), (Obj.stamperState 0, 5), (Obj.tpRole 0, 1)] with sys := { warmupTick := 8192 } }, by decide⟩,
    ⟨64, { st [(Obj.modeCurrent, 4)] with sys := { warmupTick := 1 }, stamp := { ports := [(64, { gate := some { closing := true } })] } }, by decide⟩⟩

/-- The hypotheses of each clause of LinkCommandsComplete are met together. -/
theorem witness_LinkCommandsComplete :
    (∃ (a : Fin 4) (s : State), s.gladeLinking = true ∧ s.n (Obj.linkState a) = 0 ∧ s.n (Obj.linkBands a) ≠ 0) ∧
    (∃ (a : Fin 4) (s : State), s.gladeLinking = true ∧ s.n (Obj.linkState a) = 1) ∧
    (∃ (a : Fin 4) (s : State), s.gladeLinking = true ∧ s.n (Obj.linkState a) = 2) ∧
    (∃ (a : Fin 4) (s : State), (s.n (Obj.linkState a) = 1 ∨ s.n (Obj.linkState a) = 2) ∧ (s.glink a).entry + 81 ≤ s.age) ∧
    (∃ (a : Fin 4) (why : LinkFault) (s : State), s.n (Obj.linkState a) = 3 ∧ (why = .crc → 8 ≤ (s.glink a).bad.length)) ∧
    (∃ (a : Fin 4) (s : State), s.n (Obj.linkState a) = 4 ∧ (s.glink a).entry + 81 ≤ s.age) ∧
    (∃ (a : Fin 4) (s : State), s.n (Obj.linkState a) = 3 ∧ (s.glink a).bad.length < 7) ∧
    (∃ (a : Fin 4) (s : State), s.n (Obj.linkState a) = 3 ∧ 7 ≤ (s.glink a).bad.length) ∧
    (∃ (s : State), s.o Obj.gladeState = 1 ∧ s.glade.entry * 1000 + s.n Obj.feSettleMs * 8192 ≤ (s.age + 1) * 1000) ∧
    (∃ (s : State), s.glade.epochAge ≠ some s.age ∧ s.o Obj.gladeState = 3) ∧
    (∃ (s : State), s.glade.epochAge ≠ some s.age ∧ s.o Obj.gladeState ≠ 3) ∧
    (∃ (s : State), s.glade.epochAge = some s.age) ∧
    (∃ (s : State), s.glade.epochAge ≠ some s.age) ∧
    (∃ (k : Fin 12) (s : State), (s.strm k).average = none) ∧
    (∃ (k : Fin 12) (power : List Nat) (s : State), (s.strm k).average = some power) :=
  ⟨⟨0, (st [(Obj.gladeState, 2), (Obj.linkState 0, 0), (Obj.linkBands 0, 1)]), by decide⟩,
    ⟨0, (st [(Obj.gladeState, 2), (Obj.linkState 0, 1)]), by decide⟩,
    ⟨0, (st [(Obj.gladeState, 2), (Obj.linkState 0, 2)]), by decide⟩,
    ⟨0, { st [(Obj.linkState 0, 1)] with sys := { warmupTick := 81 } }, by decide⟩,
    ⟨0, .crc, { st [(Obj.linkState 0, 3)] with glade := { links := [(0, { bad := List.replicate 8 (0, 0) })] } }, by decide⟩,
    ⟨0, { st [(Obj.linkState 0, 4)] with sys := { warmupTick := 81 } }, by decide⟩,
    ⟨0, (st [(Obj.linkState 0, 3)]), by decide⟩,
    ⟨0, { st [(Obj.linkState 0, 3)] with glade := { links := [(0, { bad := List.replicate 7 (0, 0) })] } }, by decide⟩,
    ⟨{ st [(Obj.gladeState, 1), (Obj.feSettleMs, 1000)] with sys := { warmupTick := 8191 } }, by decide⟩,
    ⟨(st [(Obj.gladeState, 3)]), by decide⟩,
    ⟨(st [(Obj.gladeState, 2)]), by decide⟩,
    ⟨{ State.reset with glade := { epochAge := some 0 } }, by decide⟩,
    ⟨(st [(Obj.gladeState, 2)]), by decide⟩,
    ⟨11, State.reset, by decide⟩,
    ⟨0, [], { State.reset with glade := { streams := [(0, { average := some [] })] } }, by decide⟩⟩

/-- The hypotheses of each clause of ChannelCommandsComplete are met together. -/
theorem witness_ChannelCommandsComplete :
    (∃ (c : Fin 256) (x : Snapshot) (s : State), s.o Obj.gladeState = 3 ∧ s.chanSnap c = some x ∧ s.chanState c = 1 ∧ (s.chan c).confirming = none) ∧
    (∃ (c : Fin 256) (d : Int) (x : Snapshot) (cell : Int × Nat) (s : State), s.o Obj.gladeState = 3 ∧ s.chanSnap c = some x ∧ s.chanState c = 1 ∧ (s.chan
      c).confirming = none ∧ ((s.inc Obj.acqSearches).searchedIn c x).searchWins c x d = some cell) ∧
    (∃ (c : Fin 256) (d : Int) (x : Snapshot) (s : State), s.o Obj.gladeState = 3 ∧ s.chanSnap c = some x ∧ s.chanState c = 1 ∧ (s.chan c).confirming =
      none ∧ ((s.inc Obj.acqSearches).searchedIn c x).searchWins c x d = none ∧ (s.chan c).windows < 2) ∧
    (∃ (c : Fin 256) (d : Int) (x : Snapshot) (s : State), s.o Obj.gladeState = 3 ∧ s.chanSnap c = some x ∧ s.chanState c = 1 ∧ (s.chan c).confirming =
      none ∧ ((s.inc Obj.acqSearches).searchedIn c x).searchWins c x d = none ∧ 2 ≤ (s.chan c).windows) ∧
    (∃ (c : Fin 256) (d : Int) (x : Snapshot) (cell : Int × Nat) (s : State), s.o Obj.gladeState = 3 ∧ s.chanSnap c = some x ∧ s.chanState c = 6 ∧ ((s.inc
      Obj.acqSearches).searchedIn c x).searchWins c x d = some cell ∧ s.age < (s.chan c).entry + 81920) ∧
    (∃ (c : Fin 256) (x : Snapshot) (cell : Int × Nat) (s : State), s.o Obj.gladeState = 3 ∧ s.chanSnap c = some x ∧ s.chanState c = 1 ∧ (s.chan
      c).confirming = some cell ∧ s.confirms c x cell.1 cell.2 = true) ∧
    (∃ (c : Fin 256) (x : Snapshot) (cell : Int × Nat) (s : State), s.o Obj.gladeState = 3 ∧ s.chanSnap c = some x ∧ s.chanState c = 1 ∧ (s.chan
      c).confirming = some cell ∧ s.confirms c x cell.1 cell.2 = true) ∧
    (∃ (c : Fin 256) (x : Snapshot) (cell : Int × Nat) (s : State), s.o Obj.gladeState = 3 ∧ s.chanSnap c = some x ∧ s.chanState c = 1 ∧ (s.chan
      c).confirming = some cell ∧ s.confirms c x cell.1 cell.2 = false) ∧
    (∃ (c : Fin 256) (s : State), s.o Obj.gladeState = 3 ∧ 2 ≤ s.chanState c ∧ s.chanState c ≤ 5) ∧
    (∃ (c : Fin 256) (s : State), s.chanState c = 2 ∧ (s.chan c).entry + 4096 ≤ s.age) ∧
    (∃ (c : Fin 256) (s : State), s.chanState c = 6 ∧ (s.chan c).entry + 81920 ≤ s.age) ∧
    (∃ (s : State), s.o Obj.gladeState = 3 ∧ s.o Obj.planMode = 0 ∧ s.index = 0) ∧
    (∃ (c : Fin 256) (s : State), s.o Obj.gladeState = 3 ∧ 3 ≤ s.chanState c ∧ s.chanState c ≤ 5 ∧ s.chanSignal c ≠ 0x21) ∧
    (∃ (c : Fin 256) (u : NavUnit) (s : State), s.o Obj.gladeState = 3 ∧ 3 ≤ s.chanState c ∧ s.chanState c ≤ 5 ∧ s.chanSignal c ≠ 0x21 ∧ s.chanSignal c ≠
      1 ∧ unitOk (s.chanSignal c) ((s.chan c).lnavPrev.getD (false, false)) (unitBits (s.chanSignal c) u.symbols).1 = false) :=
  ⟨⟨0, snap, searching [(Obj.chState 0, 1)] 0 { asg := (1, 0, 0) }, by decide⟩,
    ⟨255, 0, snap, _, searching [(Obj.chState 255, 1), (Obj.acqThresh, 0), (Obj.acqK, 1)] 255 { asg := (1, 0, 0) }, by decide, by decide, by decide,
      by decide, (Option.some_get (searchWins_unit _ 255 _ _ rfl (by decide) (by decide))).symm⟩,
    ⟨0, 0, snap, searching [(Obj.chState 0, 1), (Obj.acqK, 0)] 0 { asg := (1, 0, 0), windows := 1 }, by decide, by decide, by decide, by decide,
      searchWins_none _ _ _ _ (by decide), by decide⟩,
    ⟨0, 0, snap, searching [(Obj.chState 0, 1), (Obj.acqK, 0)] 0 { asg := (1, 0, 0), windows := 2 }, by decide, by decide, by decide, by decide,
      searchWins_none _ _ _ _ (by decide), by decide⟩,
    ⟨0, 0, snap, _, { searching [(Obj.chState 0, 6), (Obj.acqThresh, 0), (Obj.acqK, 1)] 0 { asg := (1, 0, 0) } with sys := { warmupTick := 81919 } },
      by decide, by decide, by decide, (Option.some_get (searchWins_unit _ 0 _ _ rfl (by decide) (by decide))).symm, by decide⟩,
    ⟨0, snap, (0, 0), searching [(Obj.chState 0, 1), (Obj.acqThresh, 0), (Obj.acqK, 1)] 0 { asg := (1, 0, 0), confirming := some (0, 0) }, by decide,
      by decide, by decide, by decide, confirms_unit _ _ _ rfl (by decide) (by decide)⟩,
    ⟨0, snap, (0, 0), searching [(Obj.chState 0, 1), (Obj.acqThresh, 0), (Obj.acqK, 1)] 0 { asg := (1, 0, 0), confirming := some (0, 0) }, by decide,
      by decide, by decide, by decide, confirms_unit _ _ _ rfl (by decide) (by decide)⟩,
    ⟨0, snap, (0, 0), searching [(Obj.chState 0, 1), (Obj.acqK, 0)] 0 { asg := (1, 0, 0), confirming := some (0, 0) }, by decide, by decide, by decide,
      by decide, confirms_none _ _ _ (by decide)⟩,
    ⟨0, (st [(Obj.gladeState, 3), (Obj.chState 0, 5)]), by decide⟩,
    ⟨0, { st [(Obj.chState 0, 2)] with sys := { warmupTick := 4096 } }, by decide⟩,
    ⟨0, { st [(Obj.chState 0, 6)] with sys := { warmupTick := 81920 } }, by decide⟩,
    ⟨(st [(Obj.gladeState, 3), (Obj.planMode, 0)]), by decide⟩,
    ⟨0, (st [(Obj.gladeState, 3), (Obj.chState 0, 5)]), by decide⟩,
    ⟨0, nav, (st [(Obj.gladeState, 3), (Obj.chState 0, 3)]), by decide⟩⟩

/-- The hypotheses of each clause of SolutionCommandsComplete are met together. -/
theorem witness_SolutionCommandsComplete :
    (∃ (s : State), s.o Obj.solState = 1 ∧ s.n Obj.surveyMinS ≤ s.n Obj.surveyElapsedS ∧ s.surveyMet s.surveyResult = true) ∧
    (∃ (s : State), s.o Obj.solState = 1 ∧ (s.n Obj.surveyElapsedS < s.n Obj.surveyMinS ∨ s.surveyMet s.surveyResult = false)) ∧
    (∃ (s : State), s.o Obj.solState = 1 ∧ 4 * s.n Obj.surveyMinS ≤ s.n Obj.surveyElapsedS) ∧
    (∃ (s : State), (s.o Obj.solState = 3 ∨ s.o Obj.solState = 4) ∧ s.glade.posSince + 1000000 ≤ s.n Obj.gladeEpochCount ∧ (s.glade.posSums.any fun p =>
      State.posMoved (s.n Obj.posTolMm : Nat) p.2) = true) ∧
    (∃ (s : State), (s.o Obj.solState = 3 ∨ s.o Obj.solState = 4) ∧ s.glade.posSince + 1000000 ≤ s.n Obj.gladeEpochCount ∧ (s.glade.posSums.any fun p =>
      State.posMoved (s.n Obj.posTolMm : Nat) p.2) = false) ∧
    (∃ (s : State), s.o Obj.gladeState = 3 ∧ s.o Obj.spoofMode ≠ 0 ∧ s.n Obj.gladeEpochCount % 1000 = 0 ∧ s.glade.spoofAt ≠ some (s.n
      Obj.gladeEpochCount)) ∧
    (∃ (l : List SpoofSat) (s : State), s.o Obj.gladeState = 3 ∧ s.o Obj.spoofMode ≠ 0 ∧ s.n Obj.gladeEpochCount % 1000 = 0 ∧ s.glade.spoofAt ≠ some (s.n
      Obj.gladeEpochCount) ∧ (([1, 2, 3].map (s.spoofTerms l)).flatten).length < s.n Obj.spoofMinTerms) :=
  ⟨⟨st [(Obj.solState, 1), (Obj.surveyMinS, 60), (Obj.surveyElapsedS, 60), (Obj.linkBands 0, 0), (Obj.linkBands 1, 0), (Obj.linkBands 2, 0),
      (Obj.linkBands 3, 0)], by decide +kernel⟩,
    ⟨(st [(Obj.solState, 1), (Obj.surveyMinS, 60), (Obj.surveyElapsedS, 59)]), by decide, .inl (by decide)⟩,
    ⟨(st [(Obj.solState, 1), (Obj.surveyMinS, 60), (Obj.surveyElapsedS, 240)]), by decide⟩,
    ⟨{ st [(Obj.solState, 3), (Obj.posTolMm, 100), (Obj.gladeEpochCount,
      1000000)] with glade := { posSums := [(0, ⟨[1000, 0, 0, 1000, 0, 1000], [101000, 0, 0]⟩)] } }, by decide +kernel⟩,
    ⟨{ st [(Obj.solState, 4), (Obj.posTolMm, 100), (Obj.gladeEpochCount,
      1000000)] with glade := { posSums := [(0, ⟨[1000, 0, 0, 1000, 0, 1000], [100000, 0, 0]⟩)] } }, by decide +kernel⟩,
    ⟨(st [(Obj.gladeState, 3), (Obj.gladeEpochCount, 1000), (Obj.spoofMode, 1)]), by decide⟩,
    ⟨[], (st [(Obj.gladeState, 3), (Obj.gladeEpochCount, 1000), (Obj.spoofMode, 1), (Obj.spoofMinTerms, 1)]), by decide⟩⟩

/-- The hypotheses of each clause of ReferenceCommandsComplete are met together. -/
theorem witness_ReferenceCommandsComplete :
    (∃ (id : Fin 256) (a : Nat) (s : State), s.running = true ∧ classT id = true ∧ 2 ≤ s.refSt id ∧ (s.ref id).absentFrom = some a ∧ a + s.n
      (Obj.refAbsentS id) * 8192 < s.age) ∧
    (∃ (id : Fin 256) (s : State), s.running = true ∧ classF id = true ∧ 1 ≤ s.refSt id ∧ (s.ref id).winStart + s.activityTicks id ≤ s.age) ∧
    (∃ (id : Fin 256) (s : State), s.running = true ∧ classF id = true ∧ 2 ≤ s.refSt id ∧ (s.ref id).winStart + s.activityTicks id ≤ s.age ∧ s.portEdges
      (monitorPort id) = (s.ref id).winCount ∧ s.portEdges (monitorPort id) < 2 ^ 48 ∧ 1 < 2 ^ 20 * 1000000000 * s.activityTicks id / (s.portPeriod
      (monitorPort id) * 8192)) ∧
    (∃ (s : State), s.running = true ∧ s.index = 0) ∧
    (∃ (cls : PortClass) (s : State), s.running = true ∧ s.mode ≠ mReplay ∧ (cls = .hostH ∨ cls = .mgmtM) ∧ s.sys.window ≠ .w3) ∧
    (∃ (cls : PortClass) (s : State), s.running = true ∧ s.mode ≠ mReplay ∧ (cls = .hostH ∨ cls = .mgmtM) ∧ s.sys.window = .w3) ∧
    (∃ (cls : PortClass) (s : State), s.running = true ∧ s.mode ≠ mReplay ∧ (cls = .hostH ∨ cls = .mgmtM) ∧ s.o Obj.selTCurrent ≠ 0 ∧ s.sys.window ≠ .w3) ∧
    (∃ (cls : PortClass) (s : State), s.running = true ∧ s.mode ≠ mReplay ∧ (cls = .hostH ∨ cls = .mgmtM) ∧ s.o Obj.selTCurrent ≠ 0 ∧ s.sys.window = .w3) ∧
    (∃ (h : Hold) (s : State), s.canopy.hold = some h ∧ s.mode = mHoldover ∧ s.o Obj.ensHoldMaxS ≠ 0 ∧ s.n Obj.ensHoldMaxS * 8192 ≤ s.age - h.entry) ∧
    (∃ (port : Fin 64) (n : Nat) (x : Int) (s : State), s.inService = true ∧ s.o (Obj.outMode port) = 3 ∧ s.o (Obj.tpRole port) = 2 ∧ s.n (Obj.outTodPair
      port) < 64 ∧ s.interlockOpen = true ∧ (s.out (s.n (Obj.outTodPair port))).last = some (n, x) ∧ (s.out port).todFor ≠ some n) ∧
    (∃ (port : Fin 64) (s : State), s.running = true ∧ (∀ id, 0x10 ≤ id → id < 0x20 → ∀ a b, s.ppsNews.ppsBinding id = some (a, b) → b ≠ port.val)) ∧
    (∃ (s : State), s.running = true) :=
  ⟨⟨1, 0, { st [(Obj.modeCurrent, 4), (Obj.refState 1, 2), (Obj.refAbsentS 1,
      1)] with sys := { warmupTick := 8193 }, synth := { refs := [(1, { absentFrom := some 0 })] } }, by decide⟩,
    ⟨0x40, { st [(Obj.modeCurrent, 4), (Obj.refState 0x40, 1)] with sys := { warmupTick := 131073 } }, by decide⟩,
    ⟨0x40, { st [(Obj.modeCurrent, 4), (Obj.refState 0x40, 2)] with sys := { warmupTick := 131073 } }, by decide +kernel⟩,
    ⟨(st [(Obj.modeCurrent, 4)]), by decide⟩,
    ⟨.hostH, (st [(Obj.modeCurrent, 4)]), by decide⟩,
    ⟨.hostH, { st [(Obj.modeCurrent, 4)] with sys := { window := .w3 } }, by decide⟩,
    ⟨.hostH, (st [(Obj.modeCurrent, 4), (Obj.selTCurrent, 1)]), by decide⟩,
    ⟨.hostH, { st [(Obj.modeCurrent, 4), (Obj.selTCurrent, 1)] with sys := { window := .w3 } }, by decide⟩,
    ⟨hold, { st [(Obj.modeCurrent, 5), (Obj.ensHoldMaxS, 1)] with canopy := { hold := some hold }, sys := { warmupTick := 8192 } }, by decide⟩,
    ⟨0, 5, 0, { st [(Obj.modeCurrent, 4), (Obj.outMode 0, 3), (Obj.tpRole 0, 2), (Obj.outTodPair 0, 1), (Obj.twinEnable,
      0)] with synth := { outs := [(1, { last := some (5, 0) })] } }, by decide⟩,
    ⟨0, (st [(Obj.modeCurrent, 4)]), by decide, fun id h1 h2 a b h => absurd ((unbound id h2 h1).symm.trans h) (by simp)⟩,
    ⟨(st [(Obj.modeCurrent, 4)]), by decide⟩⟩

/-- The hypotheses of each clause of PllCommandsComplete are met together. -/
theorem witness_PllCommandsComplete :
    (∃ (n : Nat) (s : State), s.pll 0 = 2 ∧ s.aplltCandidates.find? (fun n => n != s.n Obj.aplltSource) = some n) ∧
    (∃ (s : State), s.pll 0 = 2 ∧ s.aplltCandidates.find? (fun n => n != s.n Obj.aplltSource) = none) ∧
    (∃ (s : State), (s.pll 0 = 4 ∨ s.pll 0 = 5)) ∧
    (∃ (n : Nat) (khz : Nat) (d : Nat × Nat) (s : State), s.synth.pendingInput = some n ∧ aplltDividers khz = some d ∧ (s.pll 0 = 4 ∨ s.pll 0 = 5)) ∧
    (∃ (n : Nat) (khz : Nat) (d : Nat × Nat) (s : State), s.synth.pendingInput = some n ∧ aplltDividers khz = some d ∧ (s.pll 0 = 4 ∨ s.pll 0 = 5)) ∧
    (∃ (khz : Nat) (d : Nat × Nat) (s : State), s.pll 0 = 1 ∧ aplltDividers khz = some d) ∧
    (∃ (khz : Nat), aplltDividers khz = none) ∧
    (∃ (s : State), s.pll 5 = 1) ∧
    (∃ (khz : Nat) (d : Nat × Nat) (s : State), s.pll 0 = 5 ∧ s.synth.pendingInput = none ∧ aplltDividers khz = some d) ∧
    (∃ (k : Fin 6) (s : State), k ≠ 0 ∧ k ≠ 2 ∧ k ≠ 5 ∧ s.pll k = 1) ∧
    (∃ (s : State), s.pll 2 = 1) ∧
    (∃ (k : Fin 6) (s : State), s.pll k = 2) ∧
    (∃ (k : Fin 6) (s : State), k ≠ 0 ∧ k ≠ 5 ∧ s.pll k = 1) ∧
    (∃ (k : Fin 6) (s : State), s.pll k = 1) ∧
    (∃ (s : State), (s.pll 0 = 4 ∨ s.pll 0 = 5)) ∧
    (∃ (s : State), s.pll 1 = 3 ∧ bitOf (s.n Obj.cdStatus) 0 = true) ∧
    (∃ (s : State), s.pll 0 = 3 ∧ s.aplltAcquire.isSome = true) ∧
    (∃ (k : Fin 6) (s : State), (k = 2 ∨ k = 3) ∧ s.pll k = 3 ∧ s.pll 5 = 2) ∧
    (∃ (k : Fin 6) (s : State), (k = 4 ∨ k = 5) ∧ s.pll k = 3 ∧ (s.pll 0 = 2 ∨ s.pll 0 = 4 ∨ s.pll 0 = 5)) ∧
    (∃ (p : PlaneStep) (s : State), s.running = true ∧ s.synth.step = some p ∧ p.phase = .predicted ∧ p.applied + 64 ≤ s.age ∧ p.predicted = none) ∧
    (∃ (p : PlaneStep) (x : Int × Int) (s : State), s.running = true ∧ s.synth.step = some p ∧ p.phase = .predicted ∧ p.applied + 64 ≤ s.age ∧ p.predicted
      = some x ∧ (s.port (64 + p.input)).sliding = none) ∧
    (∃ (p : PlaneStep) (sp : Int) (y : Int) (f : Fit) (at_ : Nat) (s : State), s.running = true ∧ s.synth.step = some p ∧ p.phase = .predicted ∧ p.applied
      + 64 ≤ s.age ∧ p.predicted = some (sp, y) ∧ (s.port (64 + p.input)).sliding = some (f, at_) ∧ s.age ≤ at_ + 1) ∧
    (∃ (port : Fin 64) (n : Nat) (s : State), (s.out port).driving = true ∧ s.outAllowed port = true ∧ (s.out port).startAt ≤ s.edgeTarget port n * 4096 ∧
      s.edgeFree port n = true) ∧
    (∃ (port : Fin 64) (n : Nat) (s : State), (s.out port).driving = true ∧ s.outAllowed port = true ∧ (s.out port).startAt ≤ s.edgeTarget port n * 4096 ∧
      s.edgeFree port n = true ∧ s.flag (Obj.outUnverified port) = false ∧ (s.out port).edges < 1024) ∧
    (∃ (s : State), s.running = true ∧ s.sys.window = .w3) :=
  ⟨⟨1, (st [(Obj.apllState 0, 2), (Obj.aplltSource, 0), (Obj.refState 0x41, 4), (Obj.aplltPriority 1, 1)]), by decide⟩,
    ⟨(st [(Obj.apllState 0, 2), (Obj.aplltSource, 0)]), by decide⟩,
    ⟨(st [(Obj.apllState 0, 4)]), by decide⟩,
    ⟨0, 10000, (1, 256), { st [(Obj.apllState 0, 4)] with synth := { pendingInput := some 0 } }, by decide⟩,
    ⟨1, 100000, (5, 128), { st [(Obj.apllState 0, 4)] with synth := { pendingInput := some 1 } }, by decide⟩,
    ⟨100000, (5, 128), (st [(Obj.apllState 0, 1)]), by decide⟩,
    ⟨0, by decide⟩,
    ⟨(st [(Obj.apllState 5, 1)]), by decide⟩,
    ⟨100000, (5, 128), { st [(Obj.apllState 0, 5)] with synth := { pendingInput := none } }, by decide⟩,
    ⟨1, (st [(Obj.apllState 1, 1)]), by decide⟩,
    ⟨(st [(Obj.apllState 2, 1), (Obj.cdStatus, 2 ^ 40 - 1)]), by decide⟩,
    ⟨0, (st [(Obj.apllState 0, 2)]), by decide⟩,
    ⟨4, (st [(Obj.apllState 4, 1)]), by decide⟩,
    ⟨0, (st [(Obj.apllState 0, 1)]), by decide⟩,
    ⟨(st [(Obj.apllState 0, 4)]), by decide⟩,
    ⟨(st [(Obj.apllState 1, 3), (Obj.cdStatus, 1)]), by decide⟩,
    ⟨(st [(Obj.apllState 0, 3), (Obj.cdStatus, 2), (Obj.aplltPriority 0, 1)]), by decide⟩,
    ⟨2, (st [(Obj.apllState 2, 3), (Obj.apllState 5, 2), (Obj.cdStatus, 2 ^ 40 - 1)]), by decide⟩,
    ⟨4, (st [(Obj.apllState 4, 3), (Obj.apllState 0, 5)]), by decide⟩,
    ⟨{ input := 0, phase := .predicted }, { st [(Obj.modeCurrent,
      4)] with synth := { step := some { input := 0, phase := .predicted } }, sys := { warmupTick := 64 } }, by decide⟩,
    ⟨{ input := 3, phase := .predicted, predicted := some (5, 0) }, (5, 0), { st [(Obj.modeCurrent,
      4)] with synth := { step := some { input := 3, phase := .predicted, predicted := some (5, 0) } }, sys := { warmupTick := 64 } }, by decide⟩,
    ⟨{ input := 3, phase := .predicted, predicted := some (0, 0) }, 0, 0, {}, 63, { st [(Obj.modeCurrent,
      4)] with synth := { step := some { input := 3, phase := .predicted, predicted := some (0, 0) } }, sys := { warmupTick := 64 }, stamp := { ports := [(67, { sliding := some ({}, 63) })] } },
      by decide⟩,
    ⟨0, 1, { st [(Obj.modeCurrent, 4), (Obj.tpRole 0, 2), (Obj.outMode 0, 2), (Obj.boundNow, 1000), (Obj.apllState 5, 2), (Obj.ceilingOut, 100000),
      (Obj.outPeriod 0, 1000), (Obj.twinEnable, 0)] with synth := { outs := [(0, { driving := true, startAt := 4096000 })] } }, by decide⟩,
    ⟨0, 1, { st [(Obj.outUnverified 0, 0), (Obj.modeCurrent, 4), (Obj.tpRole 0, 2), (Obj.outMode 0, 2), (Obj.boundNow, 1000), (Obj.apllState 5, 2),
      (Obj.ceilingOut, 100000), (Obj.outPeriod 0, 1000), (Obj.twinEnable,
      0)] with synth := { outs := [(0, { driving := true, startAt := 4096000, edges := 1023 })] } }, by decide⟩,
    ⟨{ st [(Obj.modeCurrent, 4)] with sys := { window := .w3 } }, by decide⟩⟩

/-- The hypotheses of each clause of MacLinkCommandsComplete are met together. -/
theorem witness_MacLinkCommandsComplete :
    (∃ (m : Fin 16) (s : State), s.running = true ∧ s.macUsed m = true ∧ s.o (Obj.apllState (State.macApll m)) = 2 ∧ s.o (Obj.npLinkState m) = 0) ∧
    (∃ (m : Fin 16) (s : State), s.macUsed m = true ∧ s.o (Obj.npLinkState m) = 1) ∧
    (∃ (m : Fin 16) (s : State), s.o (Obj.npLinkState m) = 1) ∧
    (∃ (m : Fin 16) (s : State), s.macUsed m = true ∧ s.o (Obj.npLinkState m) = 2) ∧
    (∃ (m : Fin 16) (s : State), (s.o (Obj.npLinkState m) = 2 ∨ s.o (Obj.npLinkState m) = 3)) ∧
    (∃ (m : Fin 16) (s : State), s.o (Obj.npLinkState m) = 4) ∧
    (∃ (m : Fin 16) (s : State), s.o (Obj.npLinkState m) = 3) ∧
    (∃ (m : Fin 16) (s : State), s.o (Obj.npLinkState m) ≠ 3 ∧ s.o (Obj.npLinkState m) ≠ 0) :=
  ⟨⟨0, (st [(Obj.modeCurrent, 4), (Obj.npMode 0, 2), (Obj.apllState (State.macApll 0), 2), (Obj.npLinkState 0, 0)]), by decide⟩,
    ⟨0, (st [(Obj.npMode 0, 2), (Obj.npLinkState 0, 1)]), by decide⟩,
    ⟨0, (st [(Obj.npLinkState 0, 1)]), by decide⟩,
    ⟨0, (st [(Obj.npMode 0, 2), (Obj.npLinkState 0, 2)]), by decide⟩,
    ⟨0, (st [(Obj.npLinkState 0, 2)]), by decide⟩,
    ⟨0, (st [(Obj.npLinkState 0, 4)]), by decide⟩,
    ⟨0, (st [(Obj.npLinkState 0, 3)]), by decide⟩,
    ⟨0, (st [(Obj.npLinkState 0, 1)]), by decide⟩⟩

/-- The hypotheses of each clause of FrameCommandsComplete are met together. -/
theorem witness_FrameCommandsComplete :
    (∃ (m : Fin 16) (s : State), s.running = true ∧ s.macUp m = true) ∧
    (∃ (m : Fin 16) (frame : Octets) (s : State), s.running = true ∧ s.macUp m = true ∧ s.destOk m (parseFrame frame).dst = false) ∧
    (∃ (completion : Bool) (ring : Fin 16) (m : Fin 16) (b : RxBatch) (s : State), Sparse.get (fun _ => none) s.net.batches ((if completion then 256 else
      0) + 16 * ring.val + m.val) = some b ∧ s.batchDue b = true) ∧
    (∃ (completion : Bool) (ring : Fin 16) (m : Fin 16) (b : RxBatch) (s : State), Sparse.get (fun _ => none) s.net.batches ((if completion then 256 else
      0) + 16 * ring.val + m.val) = some b ∧ s.batchDue b = true ∧ (completion = true → s.pcieUp = true)) ∧
    (∃ (s : State), s.running = true) ∧
    (∃ (m : Fin 16) (q : Fin 8) (capture : Nat) (i : Nat) (f : TxFrame) (s : State), s.running = true ∧ s.macUp m = true ∧ s.nextOf m q (s.deviceTime
      capture + psUnits (s.o (Obj.npTxDelayPs m))) = some (i, f) ∧ s.canStart m f (s.deviceTime capture + psUnits (s.o (Obj.npTxDelayPs m))) = true ∧ (∀ k,
      k < 8 → q.val < k → s.nextOf m k (s.deviceTime capture + psUnits (s.o (Obj.npTxDelayPs m))) = none) ∧ State.launchLate f (s.deviceTime capture +
      psUnits (s.o (Obj.npTxDelayPs m))) = false ∧ s.exactPast m f (s.deviceTime capture + psUnits (s.o (Obj.npTxDelayPs m))) = false ∧ s.boundGone f =
      false ∧ s.mayLeave f = true) ∧
    (∃ (ring : Fin 16) (desc : Octets) (s : State), s.running = true ∧ s.pcieUp = true ∧ s.ringOn (ring / 8) .tx (ring % 8) = true ∧ State.used (s.ringReg
      (ring / 8) .tx (ring % 8) 0x0C) (s.ringReg (ring / 8) .tx (ring % 8) 0x10) ≠ 0 ∧ 48 * (Sparse.get (fun _ => 0) s.net.outstanding ring + 1) ≤
      s.txCplFree (ring / 8) (ring % 8) ∧ octetAt desc 11 ≤ 5 ∧ octetAt desc 10 ≤ 15 ∧ 60 ≤ fieldN desc 8 2 ∧ fieldN desc 8 2 + 4 ≤ s.n (Obj.npMaxFrame
      (octetAt desc 10)) ∧ s.macUp (octetAt desc 10) = true ∧ bitOf (octetAt desc 24) 1 = false) ∧
    (∃ (m : Fin 16) (pos : Nat) (now : Int) (f : TxFrame) (s : State), (s.mac m).queue[pos]? = some f ∧ State.launchLate f now = true) ∧
    (∃ (m : Fin 16) (pos : Nat) (now : Int) (f : TxFrame) (s : State), (s.mac m).queue[pos]? = some f ∧ State.launchLate f now = true) ∧
    (∃ (m : Fin 16) (s : State), s.running = true ∧ s.macUp m = true ∧ s.flag (Obj.esmcEnable m) = true ∧ s.index = 8 * m.val) ∧
    (∃ (m : Fin 16) (s : State), s.running = true ∧ s.macUp m = true ∧ s.n (Obj.esmcRxSsm m) ≠ 0xF0 ∧ s.o (Obj.groveState (s.groveOf m .esmc {})) = 3 ∧
      (s.mac m).esmcRx + 40960 ≤ s.age) ∧
    (∃ (s : State), s.running = true) :=
  ⟨⟨0, (st [(Obj.modeCurrent, 4), (Obj.npLinkState 0, 3), (Obj.npMode 0, 2)]), by decide⟩,
    ⟨0, zeros 60, { st [(Obj.modeCurrent, 4), (Obj.npLinkState 0, 3), (Obj.npMode 0, 2)] with blobs := [(Obj.npMacTable 0, zeros 128)] }, by decide⟩,
    ⟨false, 0, 0, ⟨0, 0, 0, false, []⟩, { State.reset with sys := { warmupTick := 3 }, net := { batches := [(0, some ⟨0, 0, 0, false, []⟩)] } }, by
      decide⟩,
    ⟨false, 0, 0, ⟨0, 0, 0, false, []⟩, { State.reset with sys := { warmupTick := 3 }, net := { batches := [(0, some ⟨0, 0, 0, false, []⟩)] } }, by
      decide⟩,
    ⟨(st [(Obj.modeCurrent, 4)]), by decide⟩,
    ⟨0, 0, 0, 0, tx, { st [(Obj.modeCurrent, 4), (Obj.npLinkState 0, 3), (Obj.npMode 0, 2)] with net := { macs := [(0, { queue := [tx] })] } }, by decide⟩,
    ⟨0, [0, 0, 0, 0, 0, 0, 0, 0, 0, 60, 0, 5], { st [(Obj.modeCurrent, 4), (Obj.pcieLink, 20), (Obj.npMaxFrame 0, 1518), (Obj.npMode 0, 2),
      (Obj.npLinkState 0, 3), (Obj.cdStatus, 2 ^ 40 - 1)] with host := { regs := [(9228, 1), (9260, 1)] } }, by decide⟩,
    ⟨0, 0, 3 * nsUnits, { tx with launch := 1, lateMax := 1 }, {
      State.reset with net := { macs := [(0, { queue := [{ tx with launch := 1, lateMax := 1 }] })] } }, by decide⟩,
    ⟨0, 0, 3 * nsUnits, { tx with launch := 1, lateMax := 1 }, {
      State.reset with net := { macs := [(0, { queue := [{ tx with launch := 1, lateMax := 1 }] })] } }, by decide⟩,
    ⟨0, (st [(Obj.modeCurrent, 4), (Obj.npLinkState 0, 3), (Obj.npMode 0, 2), (Obj.esmcEnable 0, 1)]), by decide⟩,
    ⟨0, { st [(Obj.modeCurrent, 4), (Obj.npLinkState 0, 3), (Obj.npMode 0, 2), (Obj.esmcRxSsm 0, 4), (Obj.groveState 5,
      3)] with sys := { warmupTick := 40960 } }, by decide +kernel⟩,
    ⟨(st [(Obj.modeCurrent, 4)]), by decide⟩⟩

/-- The hypotheses of each clause of RequestCommandsComplete are met together. -/
theorem witness_RequestCommandsComplete :
    (∃ (g : Fin 16) (n : Fin 8192) (f : RxFrame) (s : State), s.item g n = some f ∧ s.servesItem g f = true ∧ f.cls = .ntp) ∧
    (∃ (g : Fin 16) (n : Fin 8192) (f : RxFrame) (s : State), s.item g n = some f ∧ s.servesItem g f = true ∧ f.cls = .ntp ∧ ntpValid f.p.payload = false) ∧
    (∃ (g : Fin 16) (n : Fin 8192) (f : RxFrame) (s : State), s.item g n = some f ∧ s.servesItem g f = true ∧ f.cls = .ntp ∧ ntpValid f.p.payload = true ∧
      s.flag Obj.timescaleSet = false) ∧
    (∃ (g : Fin 16) (n : Fin 8192) (f : RxFrame) (s : State), s.item g n = some f ∧ s.servesItem g f = true ∧ f.cls = .ntp ∧ ntpValid f.p.payload = true ∧
      s.flag Obj.timescaleSet = true ∧ (s.itemDone g n).ntpPlaced f.p.payload = false) ∧
    (∃ (g : Fin 16) (n : Fin 8192) (f : RxFrame) (s : State), s.item g n = some f ∧ s.servesItem g f = true ∧ f.cls = .ntp ∧ ntpValid f.p.payload = true ∧
      s.flag Obj.timescaleSet = true ∧ (s.itemDone g n).ntpPlaced f.p.payload = true ∧ s.joined = false) ∧
    (∃ (g : Fin 16) (n : Fin 8192) (f : RxFrame) (s : State), s.item g n = some f ∧ s.servesItem g f = true ∧ f.cls = .nts) ∧
    (∃ (g : Fin 16) (n : Fin 8192) (f : RxFrame) (s : State), s.item g n = some f ∧ s.serves g = true ∧ f.cls = .ptpEvent ∧ octetAt f.p.payload 0 % 16 = 1
      ∧ f.session = none) ∧
    (∃ (g : Fin 16) (n : Fin 8192) (f : RxFrame) (i : Nat) (s : State), s.item g n = some f ∧ s.serves g = true ∧ f.cls = .ptpEvent ∧ octetAt f.p.payload
      0 % 16 = 1 ∧ f.session = none ∧ s.instOf f = some i ∧ bitOf (s.inst i).flags 3 = false ∧ (s.inst i).p2p = false ∧ bitOf (fieldN f.p.payload 6 2) 10 =
      false ∧ groupAddr f.p = true ∧ s.belowCeiling 0 (boundSum [(s.coreOf [f.tick]).bound, 1, s.portTerm f.mac]) = true) ∧
    (∃ (g : Fin 16) (n : Fin 8192) (f : RxFrame) (s : State), s.item g n = some f ∧ s.serves g = true ∧ f.cls = .ptpEvent ∧ octetAt f.p.payload 0 % 16 = 2
      ∧ f.session = none) ∧
    (∃ (g : Fin 16) (n : Fin 8192) (f : RxFrame) (i : Nat) (s : State), s.item g n = some f ∧ s.serves g = true ∧ f.cls = .ptpEvent ∧ octetAt f.p.payload
      0 % 16 = 2 ∧ f.session = none ∧ s.instOf f = some i ∧ bitOf (s.inst i).flags 3 = false ∧ (s.inst i).p2p = true ∧ bitOf (s.inst i).flags 0 = true ∧
      s.belowCeiling 0 (boundSum [(s.coreOf [f.tick]).bound, 1, s.portTerm f.mac]) = true) ∧
    (∃ (g : Fin 16) (n : Fin 8192) (f : RxFrame) (s : State), s.item g n = some f ∧ s.serves g = true ∧ f.cls = .ptpGeneral ∧ octetAt f.p.payload 0 % 16 =
      12 ∧ f.session = none ∧ (tlvsOf f.p.payload).any (fun t => t.2.1 == 4) = true) ∧
    (∃ (g : Fin 16) (n : Fin 8192) (f : RxFrame) (s : State), s.item g n = some f ∧ s.serves g = true ∧ f.cls = .ptpGeneral ∧ octetAt f.p.payload 0 % 16 =
      12 ∧ f.session = none ∧ (tlvsOf f.p.payload).any (fun t => t.2.1 == 6 || t.2.1 == 4) = true) ∧
    (∃ (g : Fin 16) (n : Fin 8192) (f : RxFrame) (i : Nat) (s : State), s.item g n = some f ∧ s.serves g = true ∧ f.cls = .ptpGeneral ∧ octetAt
      f.p.payload 0 % 16 ≠ 12 ∧ octetAt f.p.payload 0 % 16 ≠ 10 ∧ f.session = none ∧ s.instOf f = some i) ∧
    (∃ (s : State), s.running = true) ∧
    (∃ (line : Fin 262144) (v : Session) (s : State), s.running = true ∧ s.session line = some v ∧ (∀ x, v.announce = some x → x.start + x.dur * 8192 <
      s.age) ∧ (∀ x, v.sync = some x → x.start + x.dur * 8192 < s.age) ∧ (∀ x, v.delay = some x → x.start + x.dur * 8192 < s.age) ∧ (v.announce.isSome =
      true ∨ v.sync.isSome = true ∨ v.delay.isSome = true)) ∧
    (∃ (g : Fin 16) (n : Fin 8192) (f : RxFrame) (s : State), s.item g n = some f ∧ s.serves g = true ∧ f.cls = .esmc ∧ octets f.p.payload 1 3 = [0x00,
      0x19, 0xA7] ∧ fieldN f.p.payload 4 2 = 1 ∧ octetAt f.p.payload 10 = 1 ∧ fieldN f.p.payload 11 2 = 4) ∧
    (∃ (g : Fin 16) (n : Fin 8192) (f : RxFrame) (c : Nat) (s : State), s.item g n = some f ∧ f.session = some c ∧ s.works g = true) ∧
    (∃ (g : Fin 16) (n : Fin 8192) (f : RxFrame) (s : State), s.item g n = some f ∧ f.session = none ∧ s.serves g = true ∧ (f.cls = .ptpEvent ∧ octetAt
      f.p.payload 0 % 16 = 3 ∨ f.cls = .ptpGeneral ∧ octetAt f.p.payload 0 % 16 = 10)) :=
  ⟨⟨0, 0, rx .ntp (zeros 48), { st [(Obj.modeCurrent, 4), (Obj.groveState 0,
      3)] with sys := { window := .w2 }, serv := { items := [(0, [(0, rx .ntp (zeros 48))])] } }, by decide⟩,
    ⟨0, 0, rx .ntp (zeros 48), { st [(Obj.modeCurrent, 4), (Obj.groveState 0,
      3)] with sys := { window := .w2 }, serv := { items := [(0, [(0, rx .ntp (zeros 48))])] } }, by decide⟩,
    ⟨0, 0, rx .ntp (35 :: zeros 47), { st [(Obj.modeCurrent, 4), (Obj.groveState 0,
      3)] with sys := { window := .w2 }, serv := { items := [(0, [(0, rx .ntp (35 :: zeros 47))])] } }, by decide⟩,
    ⟨0, 0, rx .ntp (35 :: (zeros 39 ++ [3, 170, 126, 91, 0, 0, 0, 0])),
      { st [(Obj.modeCurrent, 4), (Obj.groveState 0, 3), (Obj.timescaleSet, 1)] with
        sys := { window := .w2 }, serv := { items := [(0, [(0, rx .ntp (35 :: (zeros 39 ++ [3, 170, 126, 91, 0, 0, 0, 0])))])] } }, by decide⟩,
    ⟨0, 0, rx .ntp (35 :: zeros 47), { st [(Obj.modeCurrent, 4), (Obj.groveState 0, 3), (Obj.taiUtcOffset, 37), (Obj.timescaleSet,
      1)] with sys := { window := .w2 }, serv := { items := [(0, [(0, rx .ntp (35 :: zeros 47))])] } }, by decide⟩,
    ⟨0, 0, rx .nts (zeros 48), { st [(Obj.modeCurrent, 4), (Obj.groveState 0,
      3)] with sys := { window := .w2 }, serv := { items := [(0, [(0, rx .nts (zeros 48))])] } }, by decide⟩,
    ⟨0, 0, rx .ptpEvent ([1, 0, 0, 44] ++ zeros 40), { st [(Obj.modeCurrent, 4), (Obj.groveState 0,
      3)] with sys := { window := .w2 }, serv := { items := [(0, [(0, rx .ptpEvent ([1, 0, 0, 44] ++ zeros 40))])] } }, by decide⟩,
    ⟨0, 0, { rx .ptpEvent ([1, 0, 0, 44] ++ zeros 40) with p := { ip := 4, dst := [1], payload := [1, 0, 0, 44] ++ zeros 40 } }, 0, { st
      [(Obj.modeCurrent, 4), (Obj.groveState 0, 3), (Obj.ceilingPtp,
      100)] with sys := { window := .w2, history := [{ tick := 0, time := 0, plane := 0, len := 0, rateY := 0, bound := 5, source := 0 }] }, serv := { items := [(0, [(0, { rx .ptpEvent ([1, 0, 0, 44] ++ zeros 40) with p := { ip := 4, dst := [1], payload := [1, 0, 0, 44] ++ zeros 40 } })])] }, blobs := [(Obj.ptpInstanceCfg 0, [1, 0, 1, 0, 255, 255, 0, 0, 0])] },
      by decide⟩,
    ⟨0, 0, rx .ptpEvent ([2, 0, 0, 54] ++ zeros 50), { st [(Obj.modeCurrent, 4), (Obj.groveState 0,
      3)] with sys := { window := .w2 }, serv := { items := [(0, [(0, rx .ptpEvent ([2, 0, 0, 54] ++ zeros 50))])] } }, by decide⟩,
    ⟨0, 0, rx .ptpEvent ([2, 0, 0, 54] ++ zeros 50), 0, { st [(Obj.modeCurrent, 4), (Obj.groveState 0, 3), (Obj.ceilingPtp,
      100)] with sys := { window := .w2, history := [{ tick := 0, time := 0, plane := 0, len := 0, rateY := 0, bound := 5, source := 0 }] }, serv := { items := [(0, [(0, rx .ptpEvent ([2, 0, 0, 54] ++ zeros 50))])] }, blobs := [(Obj.ptpInstanceCfg 0, [2, 0, 1, 5, 255, 255, 0, 0, 0])] },
      by decide⟩,
    ⟨0, 0, rx .ptpGeneral ([12, 0, 0, 54] ++ zeros 40 ++ [0, 4, 0, 6, 0, 0, 0, 0, 0, 0]), { st [(Obj.modeCurrent, 4), (Obj.groveState 0,
      3)] with sys := { window := .w2 }, serv := { items := [(0, [(0, rx .ptpGeneral ([12, 0, 0, 54] ++ zeros 40 ++ [0, 4, 0, 6, 0, 0, 0, 0, 0, 0]))])] } },
      by decide⟩,
    ⟨0, 0, rx .ptpGeneral ([12, 0, 0, 54] ++ zeros 40 ++ [0, 6, 0, 6, 0, 0, 0, 0, 0, 0]), { st [(Obj.modeCurrent, 4), (Obj.groveState 0,
      3)] with sys := { window := .w2 }, serv := { items := [(0, [(0, rx .ptpGeneral ([12, 0, 0, 54] ++ zeros 40 ++ [0, 6, 0, 6, 0, 0, 0, 0, 0, 0]))])] } },
      by decide⟩,
    ⟨0, 0, rx .ptpGeneral ([11, 0, 0, 64] ++ zeros 60), 0, { st [(Obj.modeCurrent, 4), (Obj.groveState 0,
      3)] with sys := { window := .w2 }, serv := { items := [(0, [(0, rx .ptpGeneral ([11, 0, 0, 64] ++ zeros 60))])] }, blobs := [(Obj.ptpInstanceCfg 0, [1, 0, 1, 0, 255, 255, 0, 0, 0])] },
      by decide⟩,
    ⟨(st [(Obj.modeCurrent, 4)]), by decide⟩,
    ⟨262143, session, { st [(Obj.modeCurrent, 4)] with sys := { warmupTick := 1 }, serv := { sessions := [(262143, some session)] } }, by decide⟩,
    ⟨0, 0, rx .esmc ([10, 0x00, 0x19, 0xA7, 0, 1, 0, 0, 0, 0, 1, 0, 4, 2]), { st [(Obj.modeCurrent, 4), (Obj.groveState 0,
      3)] with sys := { window := .w2 }, serv := { items := [(0, [(0, rx .esmc ([10, 0x00, 0x19, 0xA7, 0, 1, 0, 0, 0, 0, 1, 0, 4, 2]))])] } }, by decide⟩,
    ⟨0, 0, { rx .ptpEvent [] with session := some 3 }, 3, { st [(Obj.modeCurrent, 4), (Obj.groveState 0,
      2)] with serv := { items := [(0, [(0, { rx .ptpEvent [] with session := some 3 })])] }, sys := { window := .w2 } }, by decide⟩,
    ⟨0, 0, rx .ptpEvent ([3, 0, 0, 54] ++ zeros 50), { st [(Obj.modeCurrent, 4), (Obj.groveState 0,
      3)] with sys := { window := .w2 }, serv := { items := [(0, [(0, rx .ptpEvent ([3, 0, 0, 54] ++ zeros 50))])] } }, by decide⟩⟩

/-- The hypotheses of each clause of SentMessageCommandsComplete are met together. -/
theorem witness_SentMessageCommandsComplete :
    (∃ (x : PtpStream) (i : Nat) (m : Nat) (g : Nat) (per : Nat) (phase : Nat) (v : Option Session) (s : State), s.streamOf x false = some (i, m, g, v,
      per, phase) ∧ s.serves g = true ∧ s.laneUp g (State.streamKey x) = true ∧ s.svcOn 0 = true ∧ s.macUp m = true ∧ (s.inst i).p2p = false ∧ (State.gridNo
      s.sys.nextTime + per - phase % per) % per = 0 ∧ s.doneDue x 0 (State.gridNo s.sys.nextTime) = false) ∧
    (∃ (x : PtpStream) (d : Departed) (i : Nat) (m : Nat) (g : Nat) (per : Nat) (phase : Nat) (v : Option Session) (s : State), (∀ i m, x ≠ .peer i m) ∧
      s.serv.departed.find? (fun d => d.kind == 0 && d.key == State.streamKey x) = some d ∧ s.streamOf x false = some (i, m, g, v, per, phase) ∧ s.serves g
      = true ∧ s.laneUp g (State.streamKey x) = true ∧ s.svcOn 0 = true ∧ s.macUp m = true) ∧
    (∃ (i : Fin 16) (m : Fin 16) (d : Departed) (o : OwedFollowUp) (s : State), ((s.serv.departed.filter fun d => d.kind == 1 && d.key % 256 == 16 * i.val
      + m.val).findSome? fun d => (s.serv.owed.find? fun o => o.key == d.key && o.tick == d.tick).map fun o => (d, o)) = some (d, o) ∧ s.serves i = true ∧
      s.laneUp i (State.streamKey (.peer i m)) = true ∧ s.macUp m = true) ∧
    (∃ (x : PtpStream) (i : Nat) (m : Nat) (g : Nat) (per : Nat) (phase : Nat) (v : Option Session) (s : State), s.streamOf x true = some (i, m, g, v,
      per, phase) ∧ s.serves g = true ∧ s.laneUp g (State.streamKey x) = true ∧ s.svcOn 0 = true ∧ s.macUp m = true ∧ (State.gridNo s.timeNow + per - phase
      % per) % per = 0 ∧ s.doneDue x 11 (State.gridNo s.timeNow) = false) ∧
    (∃ (i : Fin 16) (m : Fin 16) (s : State), s.serves i = true ∧ s.laneUp i (State.streamKey (.peer i m)) = true ∧ s.svcOn 0 = true ∧ (s.inst i).p2p =
      true ∧ bitOf (s.inst i).macs m = true ∧ s.macUp m = true ∧ State.gridNo s.timeNow % 8192 = 0 ∧ s.doneDue (.peer i m) 2 (State.gridNo s.timeNow) =
      false) ∧
    (∃ (c : Fin 24) (s : State), s.clientWorks c = true ∧ s.delayReqDue c = true ∧ s.clientRoom c true = true ∧ (s.client c).sentDelay ≠ s.age + 1) ∧
    (∃ (c : Fin 24) (s : State), s.clientWorks c = true ∧ s.cst c = 1 ∧ (s.ccfg c).mode = 1 ∧ s.clientRoom c false = true ∧ (s.client c).sentSignal ≠
      s.age + 1) ∧
    (∃ (c : Fin 24) (t : GrantType) (x : Grant) (s : State), s.clientWorks c = true ∧ s.clientRoom c false = true ∧ s.cst c = 2 ∧ (s.ccfg c).mode = 1 ∧
      x.start + x.dur * 4096 ≤ s.age ∧ Sparse.get (fun _ => 0) (s.client c).sentRenewal t.code ≠ s.age + 1 ∧ (t = .announce → (s.client c).announce = some
      x) ∧ (t = .sync → (s.client c).sync = some x) ∧ (t = .delayResp → (s.client c).delay = some x)) ∧
    (∃ (c : Fin 24) (s : State), s.cst c = 3 ∧ (s.client c).since + 491520 ≤ s.age) ∧
    (∃ (c : Fin 24) (s : State), s.cst c = 2 ∧ (s.client c).lastAnnounce + 3 * State.period (s.client c).logAnnounce ≤ s.age) ∧
    (∃ (c : Fin 24) (x : Grant) (s : State), s.cst c = 2 ∧ (s.ccfg c).mode = 1 ∧ s.grantLive x = false ∧ ((s.client c).announce = some x ∨ (s.client
      c).sync = some x ∨ (s.client c).delay = some x)) :=
  ⟨⟨.multi 0 0, 0, 0, 0, 8192, 0, none, { st [(Obj.modeCurrent, 4), (Obj.groveState 0, 3), (Obj.svcEnable, 511), (Obj.npLinkState 0, 3), (Obj.npMode 0,
      2)] with sys := { window := .w2 }, blobs := [(Obj.ptpInstanceCfg 0, [1, 0, 1, 2, 255, 255, 0, 0, 0])] }, rfl, by decide⟩,
    ⟨.multi 0 0, ⟨0, 0, 0, 0⟩, 0, 0, 0, 8192, 0, none, { st [(Obj.modeCurrent, 4), (Obj.groveState 0, 3), (Obj.svcEnable, 511), (Obj.npLinkState 0, 3),
      (Obj.npMode 0,
      2)] with sys := { window := .w2 }, serv := { departed := [⟨0, 0, 0, 0⟩] }, blobs := [(Obj.ptpInstanceCfg 0, [1, 0, 1, 2, 255, 255, 0, 0, 0])] }, by
      simp, rfl, rfl, by decide⟩,
    ⟨0, 0, ⟨1, 0, 0, 0⟩, ⟨0, 0, tx, 0⟩, { st [(Obj.modeCurrent, 4), (Obj.groveState 0, 3), (Obj.npLinkState 0, 3), (Obj.npMode 0,
      2)] with sys := { window := .w2 }, serv := { departed := [⟨1, 0, 0, 0⟩], owed := [⟨0, 0, tx, 0⟩] } }, by decide⟩,
    ⟨.multi 0 0, 0, 0, 0, 8192, 0, none, { st [(Obj.modeCurrent, 4), (Obj.groveState 0, 3), (Obj.svcEnable, 511), (Obj.npLinkState 0, 3), (Obj.npMode 0,
      2)] with sys := { window := .w2 }, blobs := [(Obj.ptpInstanceCfg 0, [1, 0, 1, 2, 255, 255, 0, 0, 0])] }, rfl, by decide⟩,
    ⟨0, 0, { st [(Obj.modeCurrent, 4), (Obj.groveState 0, 3), (Obj.svcEnable, 511), (Obj.npLinkState 0, 3), (Obj.npMode 0,
      2)] with sys := { window := .w2 }, blobs := [(Obj.ptpInstanceCfg 0, [2, 0, 1, 2, 255, 255, 0, 0, 0])] }, by decide⟩,
    ⟨8, { st [(Obj.modeCurrent, 4), (Obj.groveState 8, 3), (Obj.npMode 0, 2), (Obj.npLinkState 0, 3), (Obj.ptpClientState 8,
      2)] with sys := { window := .w2 } }, by decide⟩,
    ⟨8, { st [(Obj.ptpClientState 8, 1), (Obj.modeCurrent, 4), (Obj.groveState 8, 3), (Obj.npMode 0, 2), (Obj.npLinkState 0,
      3)] with sys := { window := .w2 }, blobs := [(Obj.ptpClientCfg 8, [0, 0, 0, 1])] }, by decide⟩,
    ⟨8, .sync, { start := 0, dur := 1, log := 0 }, { st [(Obj.ptpClientState 8, 2), (Obj.modeCurrent, 4), (Obj.groveState 8, 3), (Obj.npMode 0, 2),
      (Obj.npLinkState 0,
      3)] with sys := { window := .w2, warmupTick := 4096 }, serv := { clients := [(8, { sync := some { start := 0, dur := 1, log := 0 } })] }, blobs := [(Obj.ptpClientCfg 8, [0, 0, 0, 1])] },
      by decide⟩,
    ⟨23, { st [(Obj.ptpClientState 23, 3)] with sys := { warmupTick := 491520 } }, by decide⟩,
    ⟨0, { st [(Obj.ptpClientState 0, 2)] with sys := { warmupTick := 49152 } }, by decide⟩,
    ⟨0, { start := 0, dur := 0, log := 0 }, { st [(Obj.ptpClientState 0,
      2)] with serv := { clients := [(0, { sync := some { start := 0, dur := 0, log := 0 } })] }, blobs := [(Obj.ptpClientCfg 0, [0, 0, 0, 1])] }, by
      decide⟩⟩

/-- The hypotheses of each clause of KeyCommandsComplete are met together. -/
theorem witness_KeyCommandsComplete :
    (∃ (s : State), s.running = true) ∧
    (∃ (s : State), s.running = true ∧ s.sys.window ≠ .w3) ∧
    (∃ (s : State), s.running = true ∧ s.sys.window = .w3) ∧
    (∃ (m : MintMsg) (s : State), (State.chanOf m.src).isSome = true ∧ (s.accept m.src).2 = true) ∧
    (∃ (m : MintMsg) (k : Nat) (s : State) (u : State) (v : State), State.chanOf m.src = some k ∧ s.accept m.src = (v, true) ∧ v.placeRequest m.src
      (mintRequest m) = u ∧ k < 8 ∧ u.isMint k = true ∧ u.running = true ∧ lenAgrees m.src 80 = true) ∧
    (∃ (blob : Octets) (s : State), s.running = true ∧ s.o Obj.vaultState = 2 ∧ s.joined = false ∧ keyWriteOk blob = true) ∧
    (∃ (blob : Octets) (s : State), s.running = true ∧ s.o Obj.vaultState = 2 ∧ s.joined = false ∧ keyWriteOk blob = false) ∧
    (∃ (cls : PortClass), cls ≠ .hostH) ∧
    (∃ (s : State), s.running = true ∧ s.sys.window = .w3) ∧
    (∃ (s : State), (s.mode = mWarmup ∨ s.mode = mReplay) ∧ s.sys.window ≠ .w3) ∧
    (∃ (s : State), (s.mode = mWarmup ∨ s.mode = mReplay) ∧ s.sys.window = .w3) ∧
    (∃ (s : State), s.alive = true) ∧
    (∃ (s : State), s.sys.pwrOk = true) ∧
    (∃ (s : State), s.sys.pwrOk = true ∧ s.alive = true ∧ s.fault.frozen = false ∧ s.fault.context = none) ∧
    (∃ (s : State), s.sys.pwrOk = true ∧ s.alive = false) ∧
    (∃ (s : State), s.vault.fuseDue = true ∧ s.sys.pwrOk = true) :=
  ⟨⟨(st [(Obj.modeCurrent, 4)]), by decide⟩,
    ⟨(st [(Obj.modeCurrent, 4)]), by decide⟩,
    ⟨{ st [(Obj.modeCurrent, 4)] with sys := { window := .w3 } }, by decide⟩,
    ⟨{ src := ⟨.mailbox 0, 0, 0, false, 1, 80, [], []⟩, count := 1, aead := 15, tag := 0, c2s := [], s2c := [] }, (st [(Obj.pcieLink, 20), (Obj.cdStatus,
      2 ^ 40 - 1)]), by decide⟩,
    ⟨{ src := ⟨.mailbox 0, 0, 0, false, 1, 80, [], []⟩, count := 1, aead := 15, tag := 0, c2s := [], s2c := [] }, 0, (st [(Obj.modeCurrent, 4),
      (Obj.pcieLink, 20), (Obj.ntsMintChannel, 0), (Obj.cdStatus, 2 ^ 40 - 1)]), _, _, rfl, rfl, rfl, by decide⟩,
    ⟨[0x10, 1] ++ zeros 6, (st [(Obj.modeCurrent, 4), (Obj.vaultState, 2)]), by decide⟩,
    ⟨[0, 1] ++ zeros 6, (st [(Obj.modeCurrent, 4), (Obj.vaultState, 2)]), by decide⟩,
    ⟨.mgmtM, by decide⟩,
    ⟨{ st [(Obj.modeCurrent, 4)] with sys := { window := .w3 } }, by decide⟩,
    ⟨(st [(Obj.modeCurrent, 2)]), by decide⟩,
    ⟨{ st [(Obj.modeCurrent, 2)] with sys := { window := .w3 } }, by decide⟩,
    ⟨(st [(Obj.modeCurrent, 4)]), by decide⟩,
    ⟨{ State.reset with sys := { pwrOk := true } }, by decide⟩,
    ⟨{ st [(Obj.modeCurrent, 4)] with sys := { pwrOk := true }, fault := { frozen := false, context := none } }, by decide⟩,
    ⟨{ State.reset with sys := { pwrOk := true } }, by decide⟩,
    ⟨{ State.reset with vault := { fuseDue := true }, sys := { pwrOk := true } }, by decide⟩⟩

/-- The hypotheses of each clause of VaultOperationsComplete are met together. -/
theorem witness_VaultOperationsComplete :
    (∃ (m : VaultMsg) (s : State), (s.accept m.src).2 = true) ∧
    (∃ (op : VaultOp) (m : VaultMsg) (s : State) (u : State) (v : State) (c : Instr), s.accept m.src = (v, true) ∧ v.placeRequest m.src (vaultRequest op
      m) = u ∧ u.running = true ∧ (∀ k, State.chanOf m.src = some k → u.isMint k = false) ∧ m.src.carrier.cls ∈ opClasses op ∧ u.o Obj.vaultState = 2 ∧
      State.bodyOk op m = true ∧ lenAgrees m.src (16 + m.body.length) = true ∧ u.vault.queue.length < 256 ∧ (op = .sign ∧ c = .pkSign m ∨ op = .verify ∧ c =
      .pkVerify m ∨ op = .ecdh ∧ c = .pkEcdh m ∨ op = .generate ∧ c = .generate m ∨ op = .derive ∧ c = .derive m ∨ op = .proof ∧ c = .proof m ∨ op =
      .chalIssue ∧ c = .chalIssue m ∨ op = .chalRespond ∧ c = .chalRespond m ∨ op = .attest ∧ c = .attest m)) ∧
    (∃ (s : State), s.sys.window = .w3 ∧ s.vault.engine = none ∧ s.o Obj.vaultState = 2) ∧
    (∃ (j : PkJob) (s : State), s.vault.engine = some j) :=
  ⟨⟨{ src := src, slot := 0x50, alg := 0, tag := 0, dst := 0, body := [] }, (st [(Obj.twinState, 3), (Obj.cdStatus, 2 ^ 40 - 1)]), by decide⟩,
    ⟨.generate, { src := (⟨.mailbox 0, 0, 0, false, 1, 16, [], []⟩ : MsgSource), slot := 0x50, alg := 0, tag := 0, dst := 0, body := [] }, (st
      [(Obj.modeCurrent, 4), (Obj.pcieLink, 20), (Obj.vaultState, 2), (Obj.ntsMintChannel, 255), (Obj.cdStatus, 2 ^ 40 - 1)]), _, _, .generate
      { src := (⟨.mailbox 0, 0, 0, false, 1, 16, [], []⟩ : MsgSource), slot := 0x50, alg := 0, tag := 0, dst := 0, body := [] }, rfl, rfl, by decide,
      fun k h => by cases h; decide, by decide, by decide, by decide, by decide, by decide, by decide⟩,
    ⟨{ st [(Obj.vaultState, 2)] with sys := { window := .w3 }, vault := { engine := none } }, by decide⟩,
    ⟨{ msg := none, slot := 0, cycles := 0, code := 0, body := [] }, {
      State.reset with vault := { engine := some ({ msg := none, slot := 0, cycles := 0, code := 0, body := [] }) } }, by decide⟩⟩

/-- The hypotheses of each clause of DictionaryCommandsComplete are met together. -/
theorem witness_DictionaryCommandsComplete :
    (∃ (k : Fin 16) (op : Fin 65536) (s : State), opServed (s.isMint k) op = false) ∧
    (∃ (m : DictMsg) (s : State) (u : State) (c : Instr), (s.accept m.src).2 = true ∧ (s.accept m.src).1.placeRequest m.src (State.requestOctets m) = u ∧
      u.mode ≠ mBoot ∧ u.sys.window ≠ .w3 ∧ (c = .dictRead m ∨ c = .dictWrite m ∨ c = .dictDescribe m)) ∧
    (∃ (m : DictMsg) (s : State) (u : State) (c : Instr), (s.accept m.src).2 = true ∧ (s.accept m.src).1.placeRequest m.src (State.requestOctets m) = u ∧
      u.mode = mBoot ∧ u.power.loaded = true ∧ (c = .dictRead m ∨ c = .dictWrite m ∨ c = .dictDescribe m)) ∧
    (∃ (m : DictMsg) (s : State) (u : State) (c : Instr), (s.accept m.src).2 = true ∧ (s.accept m.src).1.placeRequest m.src (State.requestOctets m) = u ∧
      u.running = true ∧ u.sys.window = .w3 ∧ m.src.late = false ∧ u.host.waiting = [] ∧ u.canServe m = true ∧ (c = .dictRead m ∨ c = .dictWrite m ∨ c =
      .dictDescribe m)) ∧
    (∃ (s : State), s.running = true ∧ s.sys.window = .w3) ∧
    (∃ (k : Fin 16) (op : Fin 65536) (s : State), opServed (s.isMint k) op = false ∧ s.pcieUp = true ∧ (s.chan_ k).phase = .idle ∧ s.running = true) ∧
    (∃ (k : Fin 16) (op : Fin 65536) (s : State), opServed (s.isMint k) op = false ∧ s.pcieUp = true ∧ (s.chan_ k).phase ≠ .idle) :=
  ⟨⟨0, 0, State.reset, by decide⟩,
    ⟨⟨src, 0, []⟩, (st [(Obj.modeCurrent, 4), (Obj.twinState, 5), (Obj.cdStatus, 2 ^ 40 - 1)]), _, .dictRead ⟨src, 0, []⟩, by decide, rfl,
      by decide⟩,
    ⟨⟨src, 0, []⟩, { st [(Obj.modeCurrent, 1), (Obj.twinState, 5), (Obj.cdStatus, 2 ^ 40 - 1)] with power := { loaded := true } }, _, .dictRead
      ⟨src, 0, []⟩, by decide, rfl, by decide⟩,
    ⟨⟨src, 0, []⟩, { st [(Obj.modeCurrent, 4), (Obj.twinState, 5), (Obj.cdStatus, 2 ^ 40 - 1)] with sys := { window := .w3 } }, _, .dictRead ⟨src, 0, []⟩,
      by decide, rfl, by decide⟩,
    ⟨{ st [(Obj.modeCurrent, 4)] with sys := { window := .w3 } }, by decide⟩,
    ⟨0, 0, (st [(Obj.pcieLink, 20), (Obj.modeCurrent, 4), (Obj.cdStatus, 2 ^ 40 - 1)]), by decide⟩,
    ⟨0, 0, { st [(Obj.pcieLink, 20), (Obj.cdStatus, 2 ^ 40 - 1)] with host := { chans := [(0, { phase := .serving })] } }, by decide⟩⟩

/-- The hypotheses of each clause of ManagementCommandsComplete are met together. -/
theorem witness_ManagementCommandsComplete :
    (∃ (d : MgmtDatagram) (s : State), s.mgmtOn = true ∧ d.tagged = false ∧ s.mgmtAddress d.dst = true ∧ d.fragment = true) ∧
    (∃ (d : MgmtDatagram) (s : State), s.mgmtOn = true ∧ d.tagged = false ∧ s.mgmtAddress d.dst = true ∧ d.fragment = false ∧ d.dstPort = 47300 ∧
      s.allowed d.addr = false) ∧
    (∃ (d : MgmtDatagram) (s : State), s.mgmtOn = true ∧ d.tagged = false ∧ s.mgmtAddress d.dst = true ∧ d.fragment = false ∧ d.dstPort = 47300 ∧
      s.allowed d.addr = true ∧ d.magic = 0x4F44 ∧ d.version = 1 ∧ d.complete = true ∧ (d.op = 1 ∨ (0x0206 ≤ d.op ∧ d.op ≤ 0x0209)) ∧ (∀ e ∈
      s.expireCache.host.cache, ¬(e.addr = d.addr ∧ e.port = d.port ∧ e.transaction = d.transaction)) ∧ s.expireCache.host.cache.length < 4096) ∧
    (∃ (target : Octets) (s : State), s.mgmtOn = true ∧ target.length = 4 ∧ target = octets (s.blob Obj.mgmtIpv4) 0 4 ∧ target ≠ zeros 4) ∧
    (∃ (target : Octets) (s : State), s.mgmtOn = true ∧ target.length = 16 ∧ target = octets (s.blob Obj.mgmtIpv6) 0 16 ∧ target ≠ zeros 16) :=
  ⟨⟨{ datagram with fragment := true }, managed [], by decide⟩,
    ⟨datagram, managed [(Obj.mgmtAllow, List.replicate 16 255 ++ [128, 1])], by decide⟩,
    ⟨datagram, managed [], by decide⟩,
    ⟨[10, 0, 0, 1], managed [(Obj.mgmtIpv4, [10, 0, 0, 1])], by decide⟩,
    ⟨1 :: zeros 15, managed [], by decide⟩⟩

/-- The hypotheses of each clause of PcieCommandsComplete are met together. -/
theorem witness_PcieCommandsComplete :
    (∃ (rate : Fin 6) (width : Fin 16) (s : State), s.mode ≠ mReset ∧ s.power.filled = true ∧ rate.val ≠ 0 ∧ (width.val = 1 ∨ width.val = 2 ∨ width.val =
      4 ∨ width.val = 8) ∧ bitOf (s.n Obj.cdStatus) 35 = true) ∧
    (∃ (rate : Fin 6) (width : Fin 16) (s : State), s.mode ≠ mReset ∧ s.power.filled = true ∧ rate.val ≠ 0 ∧ (width.val = 1 ∨ width.val = 2 ∨ width.val =
      4 ∨ width.val = 8) ∧ bitOf (s.n Obj.cdStatus) 35 = true ∧ (∀ k, k < 16 → (s.chan_ k).held = none)) ∧
    (∃ (s : State), s.pcieUp = true) ∧
    (∃ (s : State), s.pcieUp = true) ∧
    (∃ (s : State), s.pcieUp = true) ∧
    (∃ (k : Fin 16) (s : State), s.pcieUp = true ∧ (s.chan_ k).phase ≠ .idle) ∧
    (∃ (k : Fin 16) (seq : Fin 65536) (x : Nat × Notice) (s : State), s.pcieUp = true ∧ (s.notices k).out = some (seq.val, x)) ∧
    (∃ (s : State), s.pcieUp = true ∧ s.alive = true) ∧
    (∃ (k : Fin 16) (x : Notice) (rest : List Notice) (s : State), s.pcieUp = true ∧ s.alive = true ∧ (s.notices k).out = none ∧ (s.notices k).queued = x
      :: rest) ∧
    (∃ (fn : Fin 2) (kind : RingKind) (ring : Fin 8) (s : State), s.pcieUp = true ∧ s.ringOn fn kind ring = false ∧ fn.val ∉ s.host.stopped) ∧
    (∃ (fn : Fin 2) (kind : RingKind) (ring : Fin 8) (s : State), s.pcieUp = true ∧ s.ringOn fn kind ring = false ∧ fn.val ∉ s.host.stopped) ∧
    (∃ (kind : RingKind) (off : Nat) (s : State), s.pcieUp = true ∧ off ∈ kind.hostPointers) ∧
    (∃ (s : State), s.pcieUp = true) ∧
    (∃ (fn : Fin 2) (s : State), s.running = true ∧ s.pcieUp = true ∧ s.ringOn fn .dump 0 = true ∧ s.tick % max 64 (s.reg fn 0x300C) = 0) ∧
    (∃ (s : State), s.pcieUp = true) ∧
    (∃ (off : Fin 65536) (s : State), s.pcieUp = true ∧ 0x4000 ≤ off.val ∧ off.val < 0x4400) :=
  ⟨⟨5, 8, { st [(Obj.modeCurrent, 1), (Obj.cdStatus, 2 ^ 35)] with power := { filled := true } }, by decide⟩,
    ⟨5, 8, { st [(Obj.modeCurrent, 1), (Obj.cdStatus, 2 ^ 35)] with power := { filled := true } }, by decide⟩,
    ⟨(st [(Obj.pcieLink, 20), (Obj.cdStatus, 2 ^ 40 - 1)]), by decide⟩,
    ⟨(st [(Obj.pcieLink, 20), (Obj.cdStatus, 2 ^ 40 - 1)]), by decide⟩,
    ⟨(st [(Obj.pcieLink, 20), (Obj.cdStatus, 2 ^ 40 - 1)]), by decide⟩,
    ⟨15, { st [(Obj.pcieLink, 20), (Obj.cdStatus, 2 ^ 40 - 1)] with host := { chans := [(15, { phase := .serving })] } }, by decide⟩,
    ⟨15, 7, (0, ⟨0, []⟩), { st [(Obj.pcieLink, 20), (Obj.cdStatus, 2 ^ 40 - 1)] with host := { notices := [(15, { out := some (7, (0, ⟨0, []⟩)) })] } },
      by decide⟩,
    ⟨(st [(Obj.pcieLink, 20), (Obj.modeCurrent, 4), (Obj.cdStatus, 2 ^ 40 - 1)]), by decide⟩,
    ⟨15, ⟨0, []⟩, [], { st [(Obj.pcieLink, 20), (Obj.modeCurrent, 4), (Obj.cdStatus, 2 ^ 40 -
      1)] with host := { notices := [(15, { queued := [⟨0, []⟩] })] } }, by decide⟩,
    ⟨0, .rx, 0, (st [(Obj.pcieLink, 20), (Obj.cdStatus, 2 ^ 40 - 1)]), by decide⟩,
    ⟨0, .rx, 0, (st [(Obj.pcieLink, 20), (Obj.cdStatus, 2 ^ 40 - 1)]), by decide⟩,
    ⟨.rx, 0x24, (st [(Obj.pcieLink, 20), (Obj.cdStatus, 2 ^ 40 - 1)]), by decide⟩,
    ⟨(st [(Obj.pcieLink, 20), (Obj.cdStatus, 2 ^ 40 - 1)]), by decide⟩,
    ⟨0, { st [(Obj.modeCurrent, 4), (Obj.pcieLink, 20), (Obj.tickCount, 64), (Obj.cdStatus, 2 ^ 40 - 1)] with host := { regs := [(0x3020, 1)] } }, by
      decide⟩,
    ⟨(st [(Obj.pcieLink, 20), (Obj.cdStatus, 2 ^ 40 - 1)]), by decide⟩,
    ⟨0x4000, (st [(Obj.pcieLink, 20), (Obj.cdStatus, 2 ^ 40 - 1)]), by decide⟩⟩

/-- The hypotheses of each clause of MemoryCommandsComplete are met together. -/
theorem witness_MemoryCommandsComplete :
    (∃ (bank : Fin 21) (word : Nat) (s : State), word < bankWords bank.val ∧ (bank.val, word) ∈ s.shuttle.writeBacks) ∧
    (∃ (bank : Fin 21) (word : Nat) (s : State), word < bankWords bank.val ∧ (bank.val, word) ∈ s.shuttle.rereads) ∧
    (∃ (bank : Fin 21) (s : State), s.alive = true ∧ s.o (Obj.memRetention bank) = 0 ∧ s.fault.context = none ∧ s.injAims 0x01 bank (some (Sparse.get (fun
      _ => 0) s.shuttle.scrubAt bank)) = none) ∧
    (∃ (s : State), s.alive = true) ∧
    (∃ (bank : Fin 21) (s : State), Sparse.get (fun _ => 0) s.shuttle.scrubAt bank ≠ 0 ∧ Sparse.get (fun _ => 0) s.shuttle.scrubStart bank + 2 ^ s.n
      Obj.scrubPassLog2 + Sparse.get (fun _ => 0) s.shuttle.scrubPaused bank ≤ s.age ∧ bank.val ∉ s.shuttle.scrubLate) :=
  ⟨⟨20, bankWords 20 - 1, { State.reset with shuttle := { writeBacks := [(20, bankWords 20 - 1)] } }, by decide⟩,
    ⟨20, bankWords 20 - 1, { State.reset with shuttle := { rereads := [(20, bankWords 20 - 1)] } }, by decide⟩,
    ⟨20, { st [(Obj.modeCurrent, 4), (Obj.memRetention 20, 0)] with fault := { context := none } }, by decide⟩,
    ⟨(st [(Obj.modeCurrent, 4)]), by decide⟩,
    ⟨20, { st [(Obj.scrubPassLog2, 4)] with sys := { warmupTick := 16 }, shuttle := { scrubAt := [(20, 1)] } }, by decide⟩⟩

/-- The hypotheses of each clause of MergedWrites are met together. -/
theorem witness_MergedWrites :
    (∃ (s : State) (b : Fin 21) (sub : Fin 32) (w : Nat) (p : Nat) (q : Nat) (v : Nat), w < bankWords b.val ∧ w % subBanks b.val = sub.val ∧ p < q ∧ q <
      procPorts b.val ∧ (b.val < 16 → 0x20000 ≤ w) ∧ (∀ x ∈ s.shuttle.writeBacks, x.1 = b.val → x.2 % subBanks b.val ≠ sub.val) ∧ v < 2 ^ 64) :=
  ⟨(st [(Obj.tickCount, 5)]), 0, 0, 0x20000, 3, 4, 2, by decide⟩

/-- The hypotheses of each clause of DirectoryCommandsComplete are met together. -/
theorem witness_DirectoryCommandsComplete :
    (∃ (line : Fin 262144) (g : Fin 16) (s : State), s.dirOf line = .uncached ∧ (∀ x ∈ s.cacheSet g line, x.1 ≠ line.val)) ∧
    (∃ (line : Fin 262144) (s : State), s.dirOf line = .uncached) ∧
    (∃ (line : Fin 262144) (g : Fin 16) (s : State), s.dirOf line = .owned g) ∧
    (∃ (line : Fin 262144) (g : Fin 16) (s : State), (∀ h, s.dirOf line = .owned h → h ≠ g.val)) :=
  ⟨⟨262143, 0, State.reset, by decide⟩,
    ⟨0, State.reset, by decide⟩,
    ⟨262143, 15, { State.reset with shuttle := { dir := [(262143, .owned 15)] } }, by decide⟩,
    ⟨0, 14, { State.reset with shuttle := { dir := [(0, .owned 15)] } }, fun h e => by cases e; decide⟩⟩

/-- The hypotheses of each clause of GroveCommandsComplete are met together. -/
theorem witness_GroveCommandsComplete :
    (∃ (g : Fin 16) (s : State), s.mode = mWarmup ∧ s.age = 64 * g.val ∧ s.o (Obj.groveState g) = 0) ∧
    (∃ (g : Fin 16) (s : State), s.o (Obj.groveState g) = 1) ∧
    (∃ (g : Fin 16) (passed : List (Fin 17)) (aes : Fin 4) (s : State), s.o (Obj.groveState g) = 1 ∧ passed ≠ [] ∧ aes.val ≠ 0) ∧
    (∃ (g : Fin 16) (s : State), Sparse.get (fun _ => none) s.sys.rampWait g.val = some 0 ∧ s.flag Obj.serviceAllowed = true ∧ s.o (Obj.groveState g) = 2) ∧
    (∃ (g : Fin 16) (a : Nat) (s : State), 2 ≤ s.mode ∧ s.mode ≤ 5 ∧ (∀ b, s.fault.lastStart = some b → b + 64 ≤ s.age) ∧ s.o (Obj.groveState g) = 4 ∧
      g.val ∉ s.fault.firmwareOut ∧ s.n (Obj.groveRetries g) < s.n Obj.groveRetryMax ∧ Sparse.get (fun _ => none) s.fault.outSince g.val = some a ∧ a + 8192
      * s.n Obj.groveRetryS ≤ s.age ∧ (∀ k, k < g.val → s.o (Obj.groveState k) ≠ 4)) ∧
    (∃ (g : Fin 16) (e : Fin 17) (s : State), (s.eng g e = 2 ∨ s.eng g e = 3 ∨ s.eng g e = 4)) ∧
    (∃ (g : Fin 16) (e : Fin 17) (s : State), s.eng g e = 2 ∧ s.laneItems g (s.n (Obj.engineLane g e)) ≠ []) ∧
    (∃ (g : Fin 16) (x : Takeover) (s : State), Sparse.get (fun _ => none) s.shuttle.takeovers g.val = some x) ∧
    (∃ (g : Fin 16) (e : Fin 17) (cycle : Nat) (l : Nat) (start : Nat) (s : State), s.sys.window = .w2 ∧ s.eng g e = 2 ∧ s.aesPick g cycle = some (l,
      start) ∧ s.injAims 0x09 (2 * g + l) none = none ∧ s.injAims 0x0A (2 * g + l) none = none) :=
  ⟨⟨15, { st [(Obj.modeCurrent, 2), (Obj.groveState 15, 0)] with sys := { warmupTick := 960 } }, by decide⟩,
    ⟨0, (st [(Obj.groveState 0, 1)]), by decide⟩,
    ⟨15, [16], 3, (st [(Obj.groveState 15, 1)]), by decide⟩,
    ⟨15, { st [(Obj.serviceAllowed, 1), (Obj.groveState 15, 2)] with sys := { rampWait := [(15, some 0)] } }, by decide⟩,
    ⟨0, 0, { st [(Obj.modeCurrent, 2), (Obj.groveState 0, 4), (Obj.groveRetries 0, 2), (Obj.groveRetryMax, 3), (Obj.groveRetryS,
      1)] with sys := { warmupTick := 8192 }, fault := { outSince := [(0, some 0)] } }, by decide, by decide, (nofun), by decide, by decide, by decide, by
      decide, by decide, fun k h => absurd h (Nat.not_lt_zero k)⟩,
    ⟨15, 16, (st [(Obj.engineState 15 16, 4)]), by decide⟩,
    ⟨0, 16, { st [(Obj.engineState 0 16, 2), (Obj.engineLane 0 16, 0)] with serv := { items := [(0, [(0, rx .ntp [])])] } }, by decide⟩,
    ⟨15, ⟨0, 0, 0, false, 0⟩, { State.reset with shuttle := { takeovers := [(15, some ⟨0, 0, 0, false, 0⟩)] } }, by decide⟩,
    ⟨0, 0, 9, 1, 9, { st [(Obj.engineState 0 0, 2), (Obj.aesLaneState 0, 2)] with sys := { window := .w2 } }, by decide⟩⟩

/-- The hypotheses of each clause of FaultCommandsComplete are met together. -/
theorem witness_FaultCommandsComplete :
    (∃ (f : FaultOperand) (s : State), s.alive = true ∧ State.sourceOk f = true ∧ f.code ≠ 0 ∧ f.code ≠ 0x0203 ∧ f.code ≠ 0x0B03 ∧ f.injected = false) ∧
    (∃ (f : FaultOperand) (s : State), s.alive = true ∧ f.code = 0x0E06 ∧ f.injected = false ∧ s.fault.frozen = false ∧ (∀ u ∈ s.fault.unacked, u.code /
      256 ≠ 0x0E)) ∧
    (∃ (s : State), s.alive = true) ∧
    (∃ (s : State), s.alive = true) ∧
    (∃ (s : State), s.running = true) ∧
    (∃ (cls : PortClass) (v : Nat) (s : State), s.running = true ∧ (cls = .hostH ∨ cls = .mgmtM) ∧ v < s.n Obj.evtlogNextSeq) ∧
    (∃ (s : State), s.running = true ∧ s.fault.aliveCount ≠ 0 ∧ s.fault.aliveCount % 8 = 0) ∧
    (∃ (blob : Octets) (s : State), s.running = true ∧ blob.length = 16 ∧ s.sys.window ≠ .w3 ∧ State.injPairOk (injOf blob).checker (injOf blob).mode
      (injOf blob).count (injOf blob).inst = true ∧ s.injAllowed (injOf blob).checker (injOf blob).inst = true) ∧
    (∃ (blob : Octets) (s : State), s.running = true ∧ blob.length = 16 ∧ s.sys.window = .w3 ∧ State.injPairOk (injOf blob).checker (injOf blob).mode
      (injOf blob).count (injOf blob).inst = true ∧ s.injAllowed (injOf blob).checker (injOf blob).inst = true) ∧
    (∃ (blob : Octets) (s : State), s.running = true ∧ blob.length = 16 ∧ State.injPairOk (injOf blob).checker (injOf blob).mode (injOf blob).count (injOf
      blob).inst = true ∧ s.injAllowed (injOf blob).checker (injOf blob).inst = false) ∧
    (∃ (s : State), s.running = true ∧ s.sys.window ≠ .w3) ∧
    (∃ (s : State), s.running = true ∧ s.sys.window = .w3) :=
  ⟨⟨⟨0x0E06, 0, 0, 0, false⟩, (st [(Obj.modeCurrent, 1)]), by decide⟩,
    ⟨⟨0x0E06, 0, 0, 0, false⟩, { st [(Obj.modeCurrent, 1)] with fault := { frozen := false } }, by decide⟩,
    ⟨(st [(Obj.modeCurrent, 4)]), by decide⟩,
    ⟨(st [(Obj.modeCurrent, 4)]), by decide⟩,
    ⟨(st [(Obj.modeCurrent, 4)]), by decide⟩,
    ⟨.mgmtM, 0, (st [(Obj.modeCurrent, 4), (Obj.evtlogNextSeq, 1)]), by decide⟩,
    ⟨{ st [(Obj.modeCurrent, 4)] with fault := { aliveCount := 8 } }, by decide⟩,
    ⟨[8, 1, 0, 1] ++ zeros 12, (st [(Obj.modeCurrent, 3)]), by decide⟩,
    ⟨[8, 1, 0, 1] ++ zeros 12, { st [(Obj.modeCurrent, 3)] with sys := { window := .w3 } }, by decide⟩,
    ⟨[8, 1, 0, 1] ++ zeros 12, (st [(Obj.modeCurrent, 4), (Obj.injArm, 0)]), by decide⟩,
    ⟨(st [(Obj.modeCurrent, 4)]), by decide⟩,
    ⟨{ st [(Obj.modeCurrent, 4)] with sys := { window := .w3 } }, by decide⟩⟩

/-- The hypotheses of each clause of TwinJoinCommandsComplete are met together. -/
theorem witness_TwinJoinCommandsComplete :
    (∃ (s : State), s.o Obj.twinState = 1 ∧ 2 ≤ s.mode ∧ s.mode ≤ 5 ∧ s.twin.left = false ∧ s.twin.retryAt ≤ s.age) ∧
    (∃ (s : State) (c : Instr), s.o Obj.twinState = 1 ∧ 2 ≤ s.mode ∧ s.mode ≤ 5 ∧ s.twin.left = false ∧ s.twin.retryAt ≤ s.age ∧ (c = .twinLinkDetect ∨ c
      = .twinJoinRetry)) ∧
    (∃ (s : State), 2 ≤ s.o Obj.twinState ∧ s.o Obj.twinState ≤ 4 ∧ s.twin.since + 81920 ≤ s.age) ∧
    (∃ (s : State), 2 ≤ s.o Obj.twinState ∧ s.o Obj.twinState ≤ 4 ∧ s.twin.since + 81920 ≤ s.age) ∧
    (∃ (h : Hello) (s : State), s.yethalClocked = true ∧ h.leaving = false ∧ s.o Obj.twinState = 2) ∧
    (∃ (h : Hello) (s : State), s.yethalClocked = true ∧ h.leaving = true ∧ s.joined = true) ∧
    (∃ (b : Bulk) (s : State), s.yethalClocked = true ∧ s.o Obj.twinState = 4 ∧ s.twin.elect = false ∧ b.attested = true) ∧
    (∃ (b : Bulk) (s : State), s.yethalClocked = true ∧ s.o Obj.twinState = 4 ∧ s.twin.elect = false ∧ b.attested = false) ∧
    (∃ (j : Nat) (s : State), s.twin.joinAt = some j ∧ s.running = true ∧ s.o Obj.twinState = 4 ∧ j ≤ s.tick ∧ s.index = 0) ∧
    (∃ (s : State), s.joined = true) ∧
    (∃ (s : State), 2 ≤ s.o Obj.twinState ∧ s.o Obj.twinState ≤ 4) :=
  ⟨⟨{ st [(Obj.twinState, 1), (Obj.modeCurrent, 4), (Obj.cdStatus, 2 ^ 40 - 1)] with twin := { left := false } }, by decide⟩,
    ⟨{ st [(Obj.twinState, 1), (Obj.modeCurrent, 2), (Obj.cdStatus, 2 ^ 40 - 1)] with twin := { left := false } }, .twinJoinRetry, by decide⟩,
    ⟨{ st [(Obj.twinState, 2), (Obj.cdStatus, 2 ^ 40 - 1)] with sys := { warmupTick := 81920 } }, by decide⟩,
    ⟨{ st [(Obj.twinState, 4), (Obj.cdStatus, 2 ^ 40 - 1)] with sys := { warmupTick := 81920 } }, by decide⟩,
    ⟨hello false, (st [(Obj.twinState, 2), (Obj.cdStatus, 2 ^ 40 - 1)]), by decide⟩,
    ⟨hello true, (st [(Obj.twinState, 5), (Obj.cdStatus, 2 ^ 40 - 1)]), by decide⟩,
    ⟨bulk true, { st [(Obj.twinState, 4), (Obj.cdStatus, 2 ^ 40 - 1)] with twin := { elect := false } }, by decide⟩,
    ⟨bulk false, { st [(Obj.twinState, 4), (Obj.cdStatus, 2 ^ 40 - 1)] with twin := { elect := false } }, by decide⟩,
    ⟨0, { st [(Obj.modeCurrent, 4), (Obj.twinState, 4), (Obj.tickIndex, 0), (Obj.cdStatus, 2 ^ 40 - 1)] with twin := { joinAt := some 0 } }, by decide⟩,
    ⟨(st [(Obj.twinState, 5), (Obj.cdStatus, 2 ^ 40 - 1)]), by decide⟩,
    ⟨(st [(Obj.twinState, 4), (Obj.cdStatus, 2 ^ 40 - 1)]), by decide⟩⟩

/-- The hypotheses of each clause of TwinTickCommandsComplete are met together. -/
theorem witness_TwinTickCommandsComplete :
    (∃ (s : State), s.yethalClocked = true ∧ s.joined = true) ∧
    (∃ (s : State), s.joined = true ∧ s.twin.gotAgree = false) ∧
    (∃ (s : State), s.yethalClocked = true ∧ s.joined = true ∧ s.flag Obj.twinOwn = false) ∧
    (∃ (s : State), s.yethalClocked = true ∧ s.joined = true ∧ s.flag Obj.twinOwn = false) ∧
    (∃ (s : State), s.yethalClocked = true ∧ s.joined = true) ∧
    (∃ (f : Forward) (s : State), s.yethalClocked = true ∧ s.joined = true ∧ (f.signaling = false ∨ s.flag Obj.twinOwn = true)) ∧
    (∃ (s : State), s.joined = true ∧ s.index % 8 = 0) ∧
    (∃ (s : State), s.joined = true) ∧
    (∃ (s : State), s.joined = true ∧ s.twin.master = true) :=
  ⟨⟨(st [(Obj.twinState, 5), (Obj.cdStatus, 2 ^ 40 - 1)]), by decide⟩,
    ⟨{ st [(Obj.twinState, 5), (Obj.cdStatus, 2 ^ 40 - 1)] with twin := { gotAgree := false } }, by decide⟩,
    ⟨(st [(Obj.twinState, 5), (Obj.twinOwn, 0), (Obj.cdStatus, 2 ^ 40 - 1)]), by decide⟩,
    ⟨(st [(Obj.twinState, 5), (Obj.twinOwn, 0), (Obj.cdStatus, 2 ^ 40 - 1)]), by decide⟩,
    ⟨(st [(Obj.twinState, 5), (Obj.cdStatus, 2 ^ 40 - 1)]), by decide⟩,
    ⟨⟨rx .ntp [], 0, 0, true⟩, (st [(Obj.twinState, 5), (Obj.twinOwn, 1), (Obj.cdStatus, 2 ^ 40 - 1)]), by decide⟩,
    ⟨(st [(Obj.twinState, 5), (Obj.tickIndex, 8), (Obj.cdStatus, 2 ^ 40 - 1)]), by decide⟩,
    ⟨(st [(Obj.twinState, 5), (Obj.cdStatus, 2 ^ 40 - 1)]), by decide⟩,
    ⟨{ st [(Obj.twinState, 5), (Obj.cdStatus, 2 ^ 40 - 1)] with twin := { master := true } }, by decide⟩⟩

/-- The hypotheses of each clause of TwinOwnCommandsComplete are met together. -/
theorem witness_TwinOwnCommandsComplete :
    (∃ (s : State), s.twin.switching = none) ∧
    (∃ (s : State), s.twin.switching = some true ∧ s.joined = false) ∧
    (∃ (s : State), s.twin.switching = some false) ∧
    (∃ (s : State), s.twin.switching = some true ∧ s.joined = true) ∧
    (∃ (s : State), s.flag Obj.twinEnable = true ∧ s.flag Obj.twinOwn = true ∧ s.flag Obj.twinOwnIn = true) ∧
    (∃ (a : Nat) (s : State), s.o Obj.twinState = 1 ∧ s.inService = true ∧ s.flag Obj.twinOwn = false ∧ s.twin.switching = none ∧ s.twin.lowSince = some a
      ∧ (s.n Obj.twinAloneTakeMs + (if s.flag Obj.twinPreferred then 0 else 1000)) * 8192 ≤ (s.age - a) * 1000) ∧
    (∃ (cls : PortClass) (s : State), s.running = true ∧ (cls = .hostH ∨ cls = .mgmtM) ∧ s.actionRefused 1 = false) ∧
    (∃ (cls : PortClass) (s : State), s.running = true ∧ (cls = .hostH ∨ cls = .mgmtM) ∧ s.actionRefused 2 = false) ∧
    (∃ (cls : PortClass) (s : State), s.running = true ∧ (cls = .hostH ∨ cls = .mgmtM)) :=
  ⟨⟨{ State.reset with twin := { switching := none } }, by decide⟩,
    ⟨{ State.reset with twin := { switching := some true } }, by decide⟩,
    ⟨{ State.reset with twin := { switching := some false } }, by decide⟩,
    ⟨{ st [(Obj.twinState, 5), (Obj.cdStatus, 2 ^ 40 - 1)] with twin := { switching := some true } }, by decide⟩,
    ⟨(st [(Obj.twinEnable, 1), (Obj.twinOwn, 1), (Obj.twinOwnIn, 1)]), by decide⟩,
    ⟨0, { st [(Obj.twinState, 1), (Obj.modeCurrent, 4), (Obj.twinOwn, 0), (Obj.twinAloneTakeMs, 1000), (Obj.twinPreferred, 1), (Obj.cdStatus, 2 ^ 40 -
      1)] with twin := { switching := none, lowSince := some 0 }, sys := { warmupTick := 8192 } }, by decide⟩,
    ⟨.mgmtM, (st [(Obj.modeCurrent, 4)]), by decide⟩,
    ⟨.hostH, (st [(Obj.modeCurrent, 4)]), by decide⟩,
    ⟨.hostH, (st [(Obj.modeCurrent, 4)]), by decide⟩⟩

/-- The hypotheses of each clause of StorageCommandsComplete are met together. -/
theorem witness_StorageCommandsComplete :
    (∃ (e : BobEntry) (s : State), s.capOn = true ∧ s.pcieUp = true ∧ s.o Obj.replayState ≠ 4 ∧ s.record.gap = none ∧ s.record.entries.find? (fun e =>
      decide (s.record.capPos ≤ e.pos)) = some e ∧ e.bad = false ∧ e.len ≤ s.capRoom) ∧
    (∃ (r : FeedRecord) (s : State), s.o Obj.replayState = 1 ∧ s.inFeed r = true ∧ s.loadStatus r ≠ 0) ∧
    (∃ (r : FeedRecord) (s : State), s.o Obj.replayState = 1 ∧ s.inFeed r = true ∧ s.loadStatus r = 0) ∧
    (∃ (who : FlashBy) (s : State), (who = .host true ∧ s.running = true ∧ s.o Obj.flashStatus ≠ 1 ∨ who = .forester ∧ s.alive = true ∧ s.power.command =
      none ∧ s.power.queued = none) ∧ s.power.write = none) ∧
    (∃ (who : FlashBy) (data : Octets) (s : State), 1 ≤ data.length ∧ data.length ≤ 256 ∧ (who = .host true ∧ s.running = true ∧ s.o Obj.flashStatus ≠ 1 ∨
      who = .forester ∧ s.alive = true ∧ s.power.command = none ∧ s.power.queued = none) ∧ s.power.write = none) ∧
    (∃ (who : FlashBy) (s : State), (who = .host true ∧ s.running = true ∧ s.o Obj.flashStatus ≠ 1 ∨ who = .forester ∧ s.alive = true ∧ s.power.command =
      none ∧ s.power.queued = none) ∧ s.power.write = none) ∧
    (∃ (who : FlashBy) (s : State), (who = .host true ∧ s.running = true ∧ s.o Obj.flashStatus ≠ 1 ∨ who = .forester ∧ s.alive = true ∧ s.power.command =
      none ∧ s.power.queued = none) ∧ s.power.write = none) ∧
    (∃ (c : FlashCmd) (s : State), s.power.command = some c) ∧
    (∃ (s : State), s.running = true ∧ s.power.lastWrite + s.n Obj.journalIntervalS * 8192 ≤ s.age) ∧
    (∃ (cls : PortClass) (s : State), s.running = true ∧ (cls = .hostH ∨ cls = .mgmtM)) ∧
    (∃ (w : JournalWrite) (s : State), s.power.write = some w ∧ w.started = true ∧ s.running = true) ∧
    (∃ (w : JournalWrite) (s : State), s.power.write = some w ∧ w.started = true ∧ s.running = true) :=
  ⟨⟨⟨0, 4096, 0, 0, false⟩, { st [(Obj.pcieLink, 20), (Obj.cdStatus, 2 ^ 40 -
      1)] with record := { gap := none, entries := [⟨0, 4096, 0, 0, false⟩] }, host := { regs := [(0x3814, 1), (0x3808, 20)] } }, by decide⟩,
    ⟨feed, (st [(Obj.replayState, 1)]), by decide⟩,
    ⟨loadable, (st [(Obj.replayState, 1)]), by decide, by decide, by simp [State.loadStatus, loadable]; decide⟩,
    ⟨.host true, { st [(Obj.modeCurrent, 4)] with power := { write := none } }, by decide⟩,
    ⟨.host true, [1], { st [(Obj.modeCurrent, 4)] with power := { write := none } }, by decide⟩,
    ⟨.host true, { st [(Obj.modeCurrent, 4)] with power := { write := none } }, by decide⟩,
    ⟨.host true, { st [(Obj.modeCurrent, 4)] with power := { write := none } }, by decide⟩,
    ⟨⟨1, 0, 0, []⟩, { State.reset with power := { command := some ⟨1, 0, 0, []⟩ } }, by decide⟩,
    ⟨{ st [(Obj.modeCurrent, 4), (Obj.journalIntervalS, 1)] with sys := { warmupTick := 8192 } }, by decide⟩,
    ⟨.hostH, (st [(Obj.modeCurrent, 4)]), by decide⟩,
    ⟨{ slot := 1, body := journal, started := true }, { st [(Obj.modeCurrent,
      4)] with power := { write := some { slot := 1, body := journal, started := true } } }, by decide⟩,
    ⟨{ slot := 1, body := journal, started := true }, { st [(Obj.modeCurrent,
      4)] with power := { write := some { slot := 1, body := journal, started := true } } }, by decide⟩⟩

/-- The hypotheses of each clause of SupplyCommandsComplete are met together. -/
theorem witness_SupplyCommandsComplete :
    (∃ (mv : Fin 65536) (s : State), s.running = true ∧ mv.val ≤ s.power.vout + 10 ∧ s.power.vout ≤ mv.val + 10) ∧
    (∃ (s : State), s.running = true) ∧
    (∃ (mv : Fin 65536) (s : State), s.running = true ∧ mv.val ≤ s.power.vout + 10 ∧ s.power.vout ≤ mv.val + 10) ∧
    (∃ (c : Instr) (s : State), s.running = true ∧ (c = .avsReadback none ∨ c = .pmbusAlert none)) ∧
    (∃ (l : List Int) (s : State), s.mode = mBoot ∧ l.length = 8 ∧ (∀ x ∈ l, -32768 ≤ x ∧ x ≤ 32767)) ∧
    (∃ (l : List Int) (s : State), s.mode ≠ mReset ∧ l.length = 8 ∧ (∀ x ∈ l, -32768 ≤ x ∧ x ≤ 32767)) ∧
    (∃ (s : State), s.mode = mReset ∧ s.sys.pwrOk = true) ∧
    (∃ (s : State), s.alive = true ∧ s.fault.frozen = false ∧ s.fault.context = none) ∧
    (∃ (x : Sentinel) (s : State), s.running = true ∧ s.sys.window = .w3 ∧ Sparse.get (fun _ => none) s.power.sentAt (State.sentinelOf x).1 = none) ∧
    (∃ (s : State), s.running = true ∧ s.index = 0 ∧ s.power.planStart = none ∧ s.o Obj.selvageState = 0) ∧
    (∃ (s : State), s.running = true ∧ s.o Obj.selvageState = 1) ∧
    (∃ (s : State), s.running = true) :=
  ⟨⟨760, { st [(Obj.modeCurrent, 4)] with power := { vout := 750 } }, by decide⟩,
    ⟨(st [(Obj.modeCurrent, 4)]), by decide⟩,
    ⟨740, { st [(Obj.modeCurrent, 4)] with power := { vout := 750 } }, by decide⟩,
    ⟨.avsReadback none, (st [(Obj.modeCurrent, 4)]), by decide⟩,
    ⟨[-32768, 32767, 0, 0, 0, 0, 0, 0], (st [(Obj.modeCurrent, 1)]), by decide⟩,
    ⟨[-32768, 32767, 0, 0, 0, 0, 0, 0], (st [(Obj.modeCurrent, 7)]), by decide⟩,
    ⟨{ st [(Obj.modeCurrent, 0)] with sys := { pwrOk := true } }, by decide⟩,
    ⟨{ st [(Obj.modeCurrent, 4)] with fault := { frozen := false, context := none } }, by decide⟩,
    ⟨.eye 15 65535, { st [(Obj.modeCurrent, 4)] with sys := { window := .w3 } }, by decide⟩,
    ⟨{ st [(Obj.modeCurrent, 4), (Obj.selvageState, 0)] with power := { planStart := none } }, by decide⟩,
    ⟨(st [(Obj.modeCurrent, 4), (Obj.selvageState, 1)]), by decide⟩,
    ⟨(st [(Obj.modeCurrent, 4)]), by decide⟩⟩

/-- The hypotheses of each clause of I2cCommandsComplete are met together. -/
theorem witness_I2cCommandsComplete :
    (∃ (cls : PortClass) (k : Fin 2) (blob : Octets) (x : I2cTrans) (s : State), s.running = true ∧ (cls = .hostH ∨ cls = .mgmtM) ∧ State.i2cParse blob =
      some x ∧ s.o (Obj.i2cBusState k) ≠ 3) ∧
    (∃ (cls : PortClass) (k : Fin 2) (blob : Octets) (x : I2cTrans) (s : State), s.running = true ∧ (cls = .hostH ∨ cls = .mgmtM) ∧ State.i2cParse blob =
      some x ∧ s.o (Obj.i2cBusState k) = 3) ∧
    (∃ (k : Fin 2) (x : I2cTrans) (rest : List I2cTrans) (s : State), s.alive = true ∧ (s.i2c k).current = none ∧ s.o (Obj.i2cBusState k) = 0 ∧ (s.i2c
      k).steerQ = [] ∧ (s.i2c k).hostQ = x :: rest) ∧
    (∃ (k : Fin 2) (x : I2cTrans) (rest : List I2cTrans) (s : State), s.alive = true ∧ (s.i2c k).current = none ∧ s.o (Obj.i2cBusState k) = 0 ∧ (s.i2c
      k).steerQ = x :: rest) ∧
    (∃ (s : State), s.alive = true) ∧
    (∃ (s : State), s.running = true) ∧
    (∃ (k : Fin 2) (x : I2cTrans) (s : State), s.alive = true ∧ (s.i2c k).current = some x ∧ (s.i2c k).waitFree = false ∧ x.steer = none) ∧
    (∃ (k : Fin 2) (x : I2cTrans) (s : State), s.alive = true ∧ (s.i2c k).current = some x ∧ (s.i2c k).waitFree = false) ∧
    (∃ (k : Fin 2) (x : I2cTrans) (s : State), s.alive = true ∧ (s.i2c k).current = some x ∧ (s.i2c k).waitFree = true ∧ (s.i2c k).losses < 4) ∧
    (∃ (k : Fin 2) (x : I2cTrans) (s : State), s.alive = true ∧ (s.i2c k).current = some x ∧ (s.i2c k).waitFree = true ∧ 4 ≤ (s.i2c k).losses ∧ x.steer =
      none) ∧
    (∃ (k : Fin 2) (x : I2cTrans) (s : State), s.alive = true ∧ (s.i2c k).current = some x ∧ x.steer = none) ∧
    (∃ (s : State), s.running = true) ∧
    (∃ (k : Fin 2) (s : State), s.alive = true ∧ s.o (Obj.i2cBusState k) = 2) ∧
    (∃ (k : Fin 2) (s : State), s.alive = true ∧ s.o (Obj.i2cBusState k) = 3) ∧
    (∃ (k : Fin 2) (s : State), s.alive = true ∧ s.o (Obj.i2cBusState k) = 2 ∧ (s.i2c k).attempts < 7) ∧
    (∃ (s : State), s.mode ≠ mReset) ∧
    (∃ (s : State), s.mode ≠ mReset) :=
  ⟨⟨.mgmtM, 1, 0x50 :: zeros 7, ⟨0x50, 0, 0, false, [], none⟩, (st [(Obj.modeCurrent, 4)]), by decide⟩,
    ⟨.mgmtM, 1, 0x50 :: zeros 7, ⟨0x50, 0, 0, false, [], none⟩, (st [(Obj.modeCurrent, 4), (Obj.i2cBusState 1, 3)]), by decide⟩,
    ⟨1, ⟨0x50, 0, 0, false, [], none⟩, [], { st [(Obj.modeCurrent, 4), (Obj.i2cBusState 1,
      0)] with bus := { i2c := [(1, { hostQ := [⟨0x50, 0, 0, false, [], none⟩] })] } }, by decide⟩,
    ⟨1, ⟨0x50, 0, 0, false, [], some 3⟩, [], { st [(Obj.modeCurrent, 4), (Obj.i2cBusState 1,
      0)] with bus := { i2c := [(1, { steerQ := [⟨0x50, 0, 0, false, [], some 3⟩] })] } }, by decide⟩,
    ⟨(st [(Obj.modeCurrent, 4)]), by decide⟩,
    ⟨(st [(Obj.modeCurrent, 4)]), by decide⟩,
    ⟨1, ⟨0x50, 0, 0, false, [], none⟩, { st [(Obj.modeCurrent, 4)] with bus := { i2c := [(1, { current := some ⟨0x50, 0, 0, false, [], none⟩ })] } }, by
      decide⟩,
    ⟨1, ⟨0x50, 0, 0, false, [], some 3⟩, { st [(Obj.modeCurrent, 4)] with bus := { i2c := [(1, { current := some ⟨0x50, 0, 0, false, [], some 3⟩ })] } },
      by decide⟩,
    ⟨1, ⟨0x50, 0, 0, false, [], none⟩, { st [(Obj.modeCurrent,
      4)] with bus := { i2c := [(1, { current := some ⟨0x50, 0, 0, false, [], none⟩, waitFree := true, losses := 3 })] } }, by decide⟩,
    ⟨1, ⟨0x50, 0, 0, false, [], none⟩, { st [(Obj.modeCurrent,
      4)] with bus := { i2c := [(1, { current := some ⟨0x50, 0, 0, false, [], none⟩, waitFree := true, losses := 4 })] } }, by decide⟩,
    ⟨1, ⟨0x50, 0, 0, false, [], none⟩, { st [(Obj.modeCurrent, 4)] with bus := { i2c := [(1, { current := some ⟨0x50, 0, 0, false, [], none⟩ })] } }, by
      decide⟩,
    ⟨(st [(Obj.modeCurrent, 4)]), by decide⟩,
    ⟨0, (st [(Obj.modeCurrent, 4), (Obj.i2cBusState 0, 2)]), by decide⟩,
    ⟨0, (st [(Obj.modeCurrent, 4), (Obj.i2cBusState 0, 3)]), by decide⟩,
    ⟨1, { st [(Obj.modeCurrent, 4), (Obj.i2cBusState 1, 2)] with bus := { i2c := [(1, { attempts := 6 })] } }, by decide⟩,
    ⟨(st [(Obj.modeCurrent, 4)]), by decide⟩,
    ⟨(st [(Obj.modeCurrent, 4)]), by decide⟩⟩

/-- The hypotheses of each clause of JtagCommandsComplete are met together. -/
theorem witness_JtagCommandsComplete :
    (∃ (s : State), s.mode = mReset ∧ s.sys.pwrOk = true) ∧
    (∃ (s : State), (s.mode ≠ mReset ∨ s.sys.pwrOk = false)) :=
  ⟨⟨{ st [(Obj.modeCurrent, 0)] with sys := { pwrOk := true } }, by decide⟩,
    ⟨(st [(Obj.modeCurrent, 4)]), by decide⟩⟩

/-- The hypotheses of each clause of TickIndexOfATime are met together. -/
theorem witness_TickIndexOfATime :
    (∃ (ns : Nat) (frac : Nat), ns < 1000000000 ∧ frac < 4294967296) ∧
    (∃ (i : Nat), i < 8192) ∧
    (∃ (i : Nat), i < 8192) :=
  ⟨⟨999999999, 4294967295, by decide⟩,
    ⟨8191, by decide⟩,
    ⟨8191, by decide⟩⟩

/-- The hypotheses of each clause of ContinuousNanoseconds are met together. -/
theorem witness_ContinuousNanoseconds :
    (∃ (ns : Nat) (frac : Nat), ns < 1000000000 ∧ frac < 4294967296) :=
  ⟨999999999, 4294967295, by decide⟩

/-- The hypotheses of each clause of Time80Carries are met together. -/
theorem witness_Time80Carries :
    (∃ (ns : Nat) (frac : Nat) (n : Nat) (f : Nat), ns < 1000000000 ∧ frac < 4294967296 ∧ n < 1000000000 ∧ f < 4294967296) :=
  ⟨999999999, 4294967295, 999999999, 4294967295, by decide⟩

/-- The hypotheses of each clause of TicksAdvance are met together. -/
theorem witness_TicksAdvance :
    (∃ (s : State), s.sys.step = none) ∧
    (∃ (p : StepRequest) (s : State), s.sys.step = some p) :=
  ⟨⟨{ State.reset with sys := { step := none } }, by decide⟩,
    ⟨⟨-5, true⟩, { State.reset with sys := { step := some ⟨-5, true⟩ } }, by decide⟩⟩

/-- The hypotheses of each clause of GrovesStartInTheirSlots are met together. -/
theorem witness_GrovesStartInTheirSlots :
    (∃ (g : Fin 16) (s : State), s.mode = mWarmup ∧ s.o (Obj.groveState g) = 0 ∧ s.age = 64 * g.val) ∧
    (∃ (g : Fin 16) (s : State), s.mode = mWarmup ∧ s.age ≠ 64 * g.val) :=
  ⟨⟨15, { st [(Obj.modeCurrent, 2), (Obj.groveState 15, 0)] with sys := { warmupTick := 960 } }, by decide⟩,
    ⟨15, { st [(Obj.modeCurrent, 2)] with sys := { warmupTick := 959 } }, by decide⟩⟩

/-- The hypotheses of each clause of OwnerElect are met together. -/
theorem witness_OwnerElect :
    (∃ (s : State) (h : Hello), s.flag Obj.twinOwn = false ∧ h.own = true) ∧
    (∃ (s : State) (h : Hello), s.flag Obj.twinOwn = h.own ∧ s.flag Obj.twinPreferred = true ∧ h.preferred = false) ∧
    (∃ (s : State) (h : Hello), s.flag Obj.twinOwn = h.own ∧ s.flag Obj.twinPreferred = false ∧ h.preferred = true) ∧
    (∃ (s : State) (h : Hello), s.flag Obj.twinOwn = h.own ∧ s.flag Obj.twinPreferred = h.preferred) :=
  ⟨⟨(st [(Obj.twinOwn, 0)]), { hello false with own := true }, by decide⟩,
    ⟨(st [(Obj.twinPreferred, 1), (Obj.twinOwn, 1)]), { hello false with own := true }, by decide⟩,
    ⟨(st [(Obj.twinPreferred, 0), (Obj.twinOwn, 0)]), { hello false with preferred := true }, by decide⟩,
    ⟨(st [(Obj.twinOwn, 0), (Obj.twinPreferred, 0)]), hello false, by decide⟩⟩

/-- The hypotheses of each clause of FaultNoticeValue are met together. -/
theorem witness_FaultNoticeValue :
    (∃ (s : State) (i : Nat) (q : Nat) (r : Report), (s.fault.log.find? fun x => x.2.ident == i) = some (q, r) ∧ r.code < 2 ^ 16 ∧ r.cls < 2 ^ 8 ∧ r.flags
      < 2 ^ 8 ∧ r.source < 2 ^ 16) :=
  ⟨{ State.reset with fault := { log := [(70000, ⟨3, 0x0E06, 2, 0, 0, 0, 0, 0⟩)] } }, 3, 70000, ⟨3, 0x0E06, 2, 0, 0, 0, 0, 0⟩, by decide⟩

/-- The hypotheses of each clause of FatalFaultsHalt are met together. -/
theorem witness_FatalFaultsHalt :
    (∃ (code : Nat) (row : FaultRow) (s : State), faultRow code = some row ∧ row.cls = 3 ∧ s.mode ≠ mHalted ∧ s.fault.frozen = false) :=
  ⟨0x0202, ⟨0x0202, 3, false, 1⟩, { st [(Obj.modeCurrent, 4)] with fault := { frozen := false } }, by decide⟩

/-! ### Terms that the checks of WellFormed refuse -/

theorem test_wf_leap_offset : (Instr.leapEntryWrite .hostH 2678437 32768).wellFormed = false := by decide
theorem test_wf_leap_instant : (Instr.leapEntryWrite .hostH (-1) 38).wellFormed = false := by decide
theorem test_wf_dll_error : (Instr.dllUpdate 0 (2 ^ 63) 0).wellFormed = false := by decide
theorem test_wf_code_density : (Instr.codeDensityRunEnd 0 (List.replicate 513 0)).wellFormed = false := by decide +kernel
theorem test_wf_check_train : (Instr.calInitComplete 0 [((0, 512), (0, 0))]).wellFormed = false := by decide
theorem test_wf_doppler : (Instr.acqSearchComplete 0 (2 ^ 63)).wellFormed = false := by decide
theorem test_wf_plane : (Instr.aplltInputConnect 256 10000).wellFormed = false := by decide
theorem test_wf_step : (Instr.timescaleStep .hostH (2 ^ 63)).wellFormed = false := by decide
theorem test_wf_descriptor : (Instr.hostTxDescriptor 0 [] []).wellFormed = false := by decide
theorem test_wf_key_write : (Instr.keyWrite .hostH (List.replicate 129 0)).wellFormed = false := by decide +kernel
theorem test_wf_arp_target : (Instr.mgmtArpNd [1, 2]).wellFormed = false := by decide
theorem test_wf_ring_value : (Instr.ringConsumerWrite 0 .rx 0 0 (2 ^ 32)).wellFormed = false := by decide
theorem test_wf_aes_cycle : (Instr.aesJob 0 0 155000 false false false).wellFormed = false := by decide
theorem test_wf_write_back : (Instr.memWriteBack 0 (bankWords 0) 0).wellFormed = false := by decide
theorem test_wf_reread : (Instr.memReread 20 (bankWords 20) true).wellFormed = false := by decide
theorem test_wf_fault_code : (Instr.faultReport ⟨65536, 0, 0, 0, false⟩).wellFormed = false := by decide
theorem test_wf_fault_ack : (Instr.faultAck .hostH (2 ^ 64)).wellFormed = false := by decide
theorem test_wf_injection : (Instr.injRequest .hostH [1]).wellFormed = false := by decide
theorem test_wf_urgent : (Instr.twinUrgentReceive (2 ^ 64) true).wellFormed = false := by decide
theorem test_wf_page : (Instr.flashProgram .forester 0 0 []).wellFormed = false := by decide
theorem test_wf_sensors : (Instr.thermalSensorRead [0, 0]).wellFormed = false := by decide
theorem test_wf_tally : (Instr.tickBoundary 0 0 false (List.replicate 273 ⟨0, 0, 0, 0, 0, 0, 0⟩)).wellFormed = false := by decide +kernel
theorem test_wf_cycle : (Instr.w2Serve [] [⟨0, 8, []⟩]).wellFormed = false := by decide
theorem test_wf_accepts : (Instr.leapEntryWrite .hostH 2678437 38).wellFormed = true := by decide

/-! ### Single steps -/

/-- What a command leaves, for a test of one field of it. -/
def after (c : Instr) (s : State) : Option State := match step { s with pending := [c] } with
  | .next t => some t
  | _ => none

/-- R27: RESET_N rising with PWR_OK high leads from RESET to BOOT. -/
theorem test_release_boots : (after (.resetRelease false 0 .high .high) State.reset).map State.mode = some mBoot := by decide +kernel

/-- R30: RESET_N has no effect in HALTED. -/
theorem test_halted_ignores_reset : (after .resetNAssert (st [(Obj.modeCurrent, 7)])).map State.mode = some mHalted := by decide +kernel

/-- R56: in WARMUP grove 2 starts at WARMUP tick 128. -/
theorem test_grove_slot : (after (.groveStart 2) { st [(Obj.modeCurrent, 2)] with sys := { warmupTick := 128 } }).map
    (fun s => s.o (Obj.groveState 2)) = some 1 := by decide +kernel

/-- R56: and not a tick later. -/
theorem test_grove_slot_missed : (after (.groveStart 2) { st [(Obj.modeCurrent, 2)] with sys := { warmupTick := 129 } }).map
    (fun s => s.o (Obj.groveState 2)) = some 0 := by decide +kernel

/-- R348: a doorbell while the last message is in service counts an overrun. -/
theorem test_overrun : (after (.dictRead ⟨mail, 0, []⟩) { st [(Obj.modeCurrent, 4), (Obj.pcieLink, 20), (Obj.cdStatus, 2 ^ 35)] with
    host := { chans := [(0, { phase := .serving })] } }).map (fun s => s.o (Obj.mbxOverruns 0)) = some 1 := by decide +kernel

/-- R346: reading TICK_LO latches the high half of TICK_COUNT. -/
theorem test_tick_hi : (after (.tickLoRead 1) (st [(Obj.pcieLink, 20), (Obj.cdStatus, 2 ^ 35), (Obj.tickCount, 5 * 2 ^ 32 + 7)])).map
    (fun s => Sparse.get (fun _ => 0) s.host.tickHi 1) = some 5 := by decide +kernel

/-- R371: a read merged with two writes answers the value from before the cycle, and the higher port's write collides. -/
theorem test_merged : (State.memCycle State.reset ⟨18, 2, [⟨1, 2, some 9⟩, ⟨0, 2, some 7⟩]⟩).shuttle.responses.map MemResponse.collision = [true, false] := by
  decide +kernel

/-- A word that its bank does not have is a fault (R369). -/
theorem test_absent_word : step { State.reset with pending := [.memWriteBack 0 (bankWords 0) 0] } = .fault (.noSuchWord 0 (bankWords 0)) := rfl

/-- An empty queue idles. -/
theorem test_idle : step State.reset = .next State.reset := by rfl

/-- No row of the table gives bits. -/
theorem test_no_bits : decodeTableWord 16 0 = none ∧ State.reset.withFetchWord 16 0 = State.reset := by decide

end Sys2Proof.Tests
end

section
/-!
SUPPORT. The commands of modes, reset, BOOT and clocks: their footprints, the mode HALTED under every command, and what the resets, the
release, BOOT and the clock commands answer.
-/

namespace Sys2Proof.Machine

/-! ### Masks and parts of the state -/

/-- The bit of a part of the state in the masks of `Frame`. -/
def Safety.Part.bit : Safety.Part → Nat
  | .queue => 0
  | .objects => 1
  | .blobs => 2
  | .memory => 3
  | .sys => 4
  | .leap => 5
  | .fault => 6
  | .stamp => 7
  | .glade => 8
  | .synth => 9
  | .canopy => 10
  | .net => 11
  | .serv => 12
  | .vault => 13
  | .host => 14
  | .shuttle => 15
  | .twin => 16
  | .record => 17
  | .power => 18
  | .bus => 19

theorem Safety.Part.bit_injective : Function.Injective Safety.Part.bit := by
  intro p q
  cases p <;> cases q <;> simp [Safety.Part.bit]

/-- The mask of `Frame` that stands for a list of parts. -/
def partsMask : List Safety.Part → Nat
  | [] => 0
  | p :: ps => 2 ^ p.bit ||| partsMask ps

theorem testBit_partsMask (ps : List Safety.Part) (p : Safety.Part) : (partsMask ps).testBit p.bit = decide (p ∈ ps) := by
  induction ps with
  | nil => simp [partsMask]
  | cons q ps ih =>
    simp only [partsMask, Nat.testBit_or, Nat.testBit_two_pow, ih, Safety.Part.bit_injective.eq_iff, List.mem_cons, Bool.decide_or, eq_comm]

/-- A part whose bit the mask of a frame leaves clear is the same. -/
theorem Frame.same {m : Nat} {s t : State} (h : Frame m s t) (p : Safety.Part) (hp : m.testBit p.bit = false) : Safety.same p s t := by
  cases p with
  | queue => exact h.pending_eq hp
  | objects => exact h.obj_eq hp
  | blobs => exact h.blobs_eq hp
  | memory => exact fun a => by rw [State.readByte, h.mem_eq hp, State.readByte]
  | sys => exact h.sys_eq hp
  | leap => exact h.leap_eq hp
  | fault => exact h.fault_eq hp
  | stamp => exact h.stamp_eq hp
  | glade => exact h.glade_eq hp
  | synth => exact h.synth_eq hp
  | canopy => exact h.canopy_eq hp
  | net => exact h.net_eq hp
  | serv => exact h.serv_eq hp
  | vault => exact h.vault_eq hp
  | host => exact h.host_eq hp
  | shuttle => exact h.shuttle_eq hp
  | twin => exact h.twin_eq hp
  | record => exact h.record_eq hp
  | power => exact h.power_eq hp
  | bus => exact h.bus_eq hp

/-- A frame whose mask stands for a list of parts leaves the others. -/
theorem Frame.onlyChanges {ps : List Safety.Part} {s t : State} (h : Frame (partsMask ps) s t) : Safety.onlyChanges ps s t :=
  fun p hp => h.same p (by rw [testBit_partsMask, decide_eq_false hp])

/-! ### The footprints of the commands of modes, ticks, clocks and leap seconds -/

/-- A command that answers the state as it is, where its condition does not hold. -/
theorem FrameO.ite_next {m : Nat} {s a : State} {c : Prop} {d : Decidable c} (h : Frame m s a) :
    FrameO m s (if c then .next a else .next s) := by
  split
  · exact .next h
  · exact .next (.refl m s)

theorem execResetNAssert_frame (s : State) : FrameO 1048574 s (execResetNAssert s) := by
  unfold execResetNAssert
  split
  · exact .next (.refl _ _)
  · exact .next (State.toReset_frame _ _)

theorem execW0Ingest_frame (s : State) : FrameO 56214 s (execW0Ingest s) :=
  .ite_next (.of (State.ingest_frame _) ((State.begin__frame _ _).mono rfl) rfl)

theorem execW3Maintain_frame (x : W3Work) (s : State) : FrameO 1048542 s (execW3Maintain x s) :=
  .ite_next (.of (State.maintain_frame _ _ _) ((State.begin__frame _ _).mono rfl) rfl)

theorem execLeapApply_frame (s : State) : FrameO 38 s (execLeapApply s) := by
  unfold execLeapApply
  split
  · exact .ite_next (State.applyLeap_frame _ _)
  · exact .next (.refl _ _)

theorem execLossOfClock_frame (c : ClockSource) (s : State) : FrameO 744414 s (execLossOfClock c s) := by
  unfold execLossOfClock
  split
  · split
    · split
      · exact .next (State.pllBypass_frame _ _)
      · exact .next (State.clockLost_frame _ _)
    · exact .next (State.clockLost_frame _ _)
  · exact .next (.refl _ _)

theorem execClockReturn_frame (c : ClockSource) (s : State) : FrameO 2 s (execClockReturn c s) := by
  unfold execClockReturn
  split
  · exact .next (.refl _ _)
  · exact .ite_next (State.clockReturned_frame _ _)
  · exact .ite_next (State.clockReturned_frame _ _)

theorem execW1Solve_frame (feed : List FeedRecord) (s : State) : FrameO 1048542 s (execW1Solve feed s) := by
  refine .ite_next (Frame.ite ?_ ?_)
  · exact .of (State.replayW1_frame _ _) ((State.begin__frame _ _).mono rfl) rfl
  · exact .of (State.solve_frame _) ((State.begin__frame _ _).mono rfl) rfl

theorem execW2Serve_frame (feed : List FeedRecord) (cycles : List MemCycle) (s : State) : FrameO 1048542 s (execW2Serve feed cycles s) := by
  have served : Frame 1048542 s ((s.begin_ .w2).banksWake.memCycles cycles) :=
    .of (State.memCycles_frame _ _) (.of (State.banksWake_frame _) ((State.begin__frame _ _).mono rfl) rfl) rfl
  exact .ite_next (Frame.ite (.of (State.replayW2_frame _ _) served rfl) served)

/-- A frame of a command inside the mask of its footprint. -/
theorem FrameO.footprint {k : Nat} {c : Instr} {s : State} (h : FrameO k s (exec c s))
    (hk : k ||| partsMask (Safety.footprint c) = partsMask (Safety.footprint c) := by rw [Safety.footprint]; decide) :
    FrameO (partsMask (Safety.footprint c)) s (exec c s) := h.of (.refl _ _) hk

/-- Each command of modes, ticks, clocks and leap seconds keeps its footprint. -/
theorem modeCommand_frame (c : Instr) (s : State) (hc : Safety.family c = .modes) :
    FrameO (partsMask (Safety.footprint c)) s (exec c s) := by
  cases c with
  | resetRelease => exact FrameO.footprint (.ite_next (State.released_frame _ _ _ _))
  | pwrOkFall => exact FrameO.footprint (.next (State.toReset_frame _ _))
  | resetNAssert => exact FrameO.footprint (execResetNAssert_frame _)
  | fillComplete => exact FrameO.footprint (.ite_next (State.filled_frame _ _))
  | bootThermalRecheck => exact FrameO.footprint (.ite_next (State.bootDone_frame _ _))
  | bootComplete => exact FrameO.footprint (.ite_next (State.bootDone_frame _ _))
  | tickBoundary => exact FrameO.footprint (.ite_next (State.boundary_frame _ _ _ _ _))
  | w0Ingest => exact FrameO.footprint (execW0Ingest_frame _)
  | w1Solve => exact FrameO.footprint (execW1Solve_frame _ _)
  | w2Serve => exact FrameO.footprint (execW2Serve_frame _ _ _)
  | w3Maintain => exact FrameO.footprint (execW3Maintain_frame _ _)
  | windowOverrun => exact FrameO.footprint (.ite_next (State.overrun_frame _ _))
  | shuttleClockEnable => exact FrameO.footprint (k := 32768) (.ite_next (.up15 (.refl _ _) rfl))
  | shuttleClockGate => exact FrameO.footprint (k := 32768) (.ite_next (.up15 (.refl _ _) rfl))
  | enterReplay => exact FrameO.footprint (.ite_next (State.addDue_frame _ _ _))
  | exitReplay => exact FrameO.footprint (.ite_next (State.addDue_frame _ _ _))
  | lossOfClock => exact FrameO.footprint (execLossOfClock_frame _ _)
  | leapEntryWrite => exact FrameO.footprint (.ite_next (State.addDue_frame _ _ _))
  | leapEntryCancel => exact FrameO.footprint (.ite_next (State.addDue_frame _ _ _))
  | leapApply => exact FrameO.footprint (execLeapApply_frame _)
  | smearWindowStart => exact FrameO.footprint (.ite_next (State.setF_frame _ _ _))
  | smearWindowEnd => exact FrameO.footprint (.ite_next (State.setF_frame _ _ _))
  | clockReturn => exact FrameO.footprint (execClockReturn_frame _ _)
  | _ => cases hc

/-- Settles O11: the frame of each command lies inside its footprint. -/
theorem modeCommandsFrame : Obligations.ModeCommandsFrame :=
  fun c s t hc ht => (modeCommand_frame c s hc t ht).onlyChanges

/-! ### HALTED under a command -/

theorem HaltedO.ite {o p : Host.Outcome State Fault Refusal} {c : Prop} {d : Decidable c} (h : HaltedO o) (k : HaltedO p) :
    HaltedO (if c then o else p) := by
  split <;> assumption

/-- A command whose condition does not hold. -/
theorem HaltedO.off {o p : Host.Outcome State Fault Refusal} {c : Prop} {d : Decidable c} (hc : ¬ c) (h : HaltedO p) :
    HaltedO (if c then o else p) := by
  rwa [if_neg hc]

/-- A command whose condition holds. -/
theorem HaltedO.on {o p : Host.Outcome State Fault Refusal} {c : Prop} {d : Decidable c} (hc : c) (h : HaltedO o) :
    HaltedO (if c then o else p) := by
  rwa [if_pos hc]

theorem Halted.mode_ne {s : State} (h : Halted s) {m : Int} (hm : m ≠ mHalted) : s.mode ≠ m := fun e => hm (e.symm.trans h)

theorem Halted.mayBegin {s : State} (h : Halted s) (w : Window) : s.mayBegin w = false := by
  rw [State.mayBegin, h.running, Bool.false_and]

theorem Halted.inService {s : State} (h : Halted s) : s.inService = false := by
  unfold State.inService
  rw [show s.mode = 7 from h]
  rfl

section
variable {s : State}

theorem execMultiblockCrcFail_halted (x : BadBlock) (h : Halted s) : HaltedO (execMultiblockCrcFail x s) := by
  unfold execMultiblockCrcFail
  refine .ite (.next ?_) (.next h)
  have counted : Halted ((s.setGlink x.link { s.glink x.link with bad := (s.glink x.link).bad ++ [(x.lane.val, x.block)] }).inc
      (Obj.linkCrcErrors x.link)) :=
    (Halted.of (State.setGlink_frame _ _ _) h rfl).inc (by simp only [Obj.linkCrcErrors, Obj.modeCurrent, ne_eq]; omega)
  exact .ite (State.linkEnter_halted _ _ _ counted) counted

theorem execGladeEpoch_halted (e : GladeEpoch) (h : Halted s) : HaltedO (execGladeEpoch e s) :=
  .ite (.next h) (.ite (.next (State.surveySecond_halted _ _ (State.solution_halted _ _ (State.gladeEpochPath_halted _ _ h))))
    (.next (State.gladeEpochPath_halted _ _ h)))

theorem execNotchAverageEnd_halted (k : Fin 12) (x y : Unit) (h : Halted s) : HaltedO (execNotchAverageEnd k x y s) := by
  unfold execNotchAverageEnd
  split
  · exact .next (State.notchAverage_halted _ _ _ (.of (State.setStrm_frame _ _ _) h rfl))
  · exact .next h

theorem execAcqSearchComplete_halted (c : Fin 256) (predicted : Int) (h : Halted s) : HaltedO (execAcqSearchComplete c predicted s) := by
  unfold execAcqSearchComplete
  split
  · exact .ite (.next (State.searchEnds_halted _ _ _ _ h)) (.next h)
  · exact .next h

theorem execAcqConfirmComplete_halted (c : Fin 256) (x : Unit) (h : Halted s) : HaltedO (execAcqConfirmComplete c x s) := by
  unfold execAcqConfirmComplete
  split
  · exact .ite (.next (State.confirmEnds_halted _ _ _ _ h)) (.next h)
  · exact .next h

theorem Halted.setPll (h : Halted s) (k : Fin 6) (v : Int) : Halted (s.setO (Obj.apllState k) v) :=
  h.setO (by simp only [Obj.apllState, Obj.modeCurrent, ne_eq]; omega)

theorem execAplltMissingEdge_halted (h : Halted s) : HaltedO (execAplltMissingEdge s) := by
  unfold execAplltMissingEdge
  refine .ite ?_ (.ite (.next (State.pllBypass_halted _ _ h)) (.next h))
  dsimp only
  split
  · exact .next (h.setPll 0 4)
  · exact .next (State.pllBypass_halted _ _ h)

theorem execAplltInputConnect_halted (plane khz : Nat) (h : Halted s) : HaltedO (execAplltInputConnect plane khz s) := by
  unfold execAplltInputConnect
  split
  · exact .ite (.next (State.inputConnected_halted _ _ _ _ h)) (.next h)
  · exact .next h

theorem execApllLock_halted (x : PllLock) (h : Halted s) : HaltedO (execApllLock x s) := by
  unfold execApllLock
  refine .ite (.next h) (.ite ?_ (.ite (.next (h.setPll 0 2)) (.next h)))
  have locked := State.clockBack_halted _ (.apll x.pll) (h.setPll x.pll 2)
  dsimp only
  split
  · exact .next (State.pllStart_halted _ _ (State.pllStart_halted _ _ locked))
  · exact .next locked
  · exact .next (State.pllStart_halted _ _ (State.pllStart_halted _ _ locked))
  · exact .next locked

theorem execApllBypassRetry_halted (k : Fin 6) (h : Halted s) : HaltedO (execApllBypassRetry k s) :=
  .ite (.next (.ite ((h.setPll k 1).setN (by decide)) (h.setPll k 1))) (.next h)

theorem execStepMeasure_halted (h : Halted s) : HaltedO (execStepMeasure s) := by
  unfold execStepMeasure
  split
  · exact .off (by simp [h.running]) (.next h)
  · exact .next h

theorem execHoldMaxExpire_halted (h : Halted s) : HaltedO (execHoldMaxExpire s) := by
  unfold execHoldMaxExpire
  split
  · exact .off (fun hc => h.mode_ne (by decide) hc.1) (.next h)
  · exact .next h

theorem Halted.setLink (h : Halted s) (m : Fin 16) (v : Int) : Halted (s.setO (Obj.npLinkState m) v) :=
  h.setO (by simp only [Obj.npLinkState, Obj.modeCurrent, ne_eq]; omega)

theorem execHostBatchClose_halted (completion : Bool) (ring m : Fin 16) (h : Halted s) : HaltedO (execHostBatchClose completion ring m s) := by
  unfold execHostBatchClose
  dsimp only
  split
  · exact .ite (.next (.of (State.closeBatch_frame _ _) h rfl)) (.next h)
  · exact .next h

theorem execHostFrameLate_halted (m : Fin 16) (pos : Nat) (now : Int) (h : Halted s) : HaltedO (execHostFrameLate m pos now s) := by
  unfold execHostFrameLate
  split
  · exact .ite (.next (State.lateDrop_halted _ _ _ _ h)) (.next h)
  · exact .next h

theorem execNtpRequest_halted (g : Fin 16) (n : Fin 8192) (now : Int) (h : Halted s) : HaltedO (execNtpRequest g n now s) := by
  unfold execNtpRequest
  split
  · exact .ite (.next (State.ntpRequest_halted _ _ _ _ _ h)) (.next h)
  · exact .next h

theorem execNtsRequest_halted (g : Fin 16) (n : Fin 8192) (now : Int) (h : Halted s) : HaltedO (execNtsRequest g n now s) := by
  unfold execNtsRequest
  split
  · exact .ite (.next (State.ntsRequest_halted _ _ _ _ _ h)) (.next h)
  · exact .next h

theorem execPtpDelayReq_halted (g : Fin 16) (n : Fin 8192) (now : Int) (h : Halted s) : HaltedO (execPtpDelayReq g n now s) := by
  unfold execPtpDelayReq
  split
  · exact .ite (.next (State.delayReq_halted _ _ _ _ _ h)) (.next h)
  · exact .next h

theorem execPtpPdelayReq_halted (g : Fin 16) (n : Fin 8192) (now : Int) (h : Halted s) : HaltedO (execPtpPdelayReq g n now s) := by
  unfold execPtpPdelayReq
  split
  · exact .ite (.next (State.pdelayReq_halted _ _ _ _ _ h)) (.next h)
  · exact .next h

theorem execPtpGrantRequest_halted (g : Fin 16) (n : Fin 8192) (h : Halted s) : HaltedO (execPtpGrantRequest g n s) := by
  unfold execPtpGrantRequest
  split
  · exact .ite (.next (State.signaling_halted _ _ _ _ h)) (.next h)
  · exact .next h

theorem execPtpGrantCancel_halted (g : Fin 16) (n : Fin 8192) (h : Halted s) : HaltedO (execPtpGrantCancel g n s) := by
  unfold execPtpGrantCancel
  split
  · exact .ite (.ite (.next (State.signaling_halted _ _ _ _ h)) (.ite (.next h) (.next (State.unsupported_halted _ _ _ _ h)))) (.next h)
  · exact .next h

theorem execPtpClientRx_halted (g : Fin 16) (n : Fin 8192) (h : Halted s) : HaltedO (execPtpClientRx g n s) := by
  unfold execPtpClientRx
  split
  · have taken : Halted (s.itemDone g n) := .of (State.itemDone_frame _ _ _) h rfl
    split
    · exact .ite (.next (State.clientRx_halted _ _ _ taken)) (.next h)
    · exact .ite (.next (State.pdelayRx_halted _ _ taken)) (.next h)
  · exact .next h

theorem execEsmcPduReceive_halted (g : Fin 16) (n : Fin 8192) (h : Halted s) : HaltedO (execEsmcPduReceive g n s) := by
  unfold execEsmcPduReceive
  split
  next f _ =>
    have taken : Halted (s.itemDone g n) := .of (State.itemDone_frame _ _ _) h rfl
    have quality (v : Nat) : Halted ((s.itemDone g n).setN (Obj.esmcRxSsm f.mac) v) :=
      taken.setN (by simp only [Obj.esmcRxSsm, Obj.modeCurrent, ne_eq]; omega)
    exact .ite (.ite (.next (.of (State.setMac_frame _ _ _) (quality _) rfl)) (.next taken)) (.next h)
  · exact .next h

theorem execClientRequestDue_halted (c : Fin 24) (msg : ClientMsg) (h : Halted s) : HaltedO (execClientRequestDue c msg s) := by
  unfold execClientRequestDue
  refine .ite (.next h) ?_
  cases msg with
  | delayReq => exact .ite (.next (.of (State.clientDelayReq_frame _ _) h rfl)) (.next h)
  | signaling => exact .ite (.next (.of (State.clientRequest_frame _ _) h rfl)) (.next h)

theorem execNtsMintRequest_halted (m : MintMsg) (h : Halted s) : HaltedO (execNtsMintRequest m s) := by
  unfold execNtsMintRequest
  split
  · exact .next h
  · have taken := State.accept_halted _ m.src h
    exact .next (.ite (State.mintJudge_halted _ _ (State.placeRequest_halted _ _ _ taken)) taken)

theorem execD2hAck_halted (k : Fin 16) (seq : Fin 65536) (h : Halted s) : HaltedO (execD2hAck k seq s) := by
  unfold execD2hAck
  dsimp only
  split
  · exact .ite (.next (.of (State.setNotices_frame _ _ _) h rfl)) (.next h)
  · exact .next h

theorem execKeyWrite_halted (cls : PortClass) (blob : Octets) (h : Halted s) : HaltedO (execKeyWrite cls blob s) :=
  .on (.inr (.inl h.running)) (.next h)

theorem execVaultInitComplete_halted (failed : Option (Fin 4)) (h : Halted s) : HaltedO (execVaultInitComplete failed s) :=
  .on (.inl (h.mode_ne (by decide))) (.next h)

theorem execTwinBulkReceive_halted (b : Bulk) (h : Halted s) : HaltedO (execTwinBulkReceive b s) :=
  .ite (.next h) (.ite (.ite (.next (State.joinRefuse_halted _ _ h)) (.ite (.next (State.joinRefuse_halted _ _ h)) (.next h)))
    (.ite (.next h) (.next h)))

theorem execColdTake_halted (h : Halted s) : HaltedO (execColdTake s) := by
  unfold execColdTake
  dsimp only
  split
  · exact .off (by simp [h.inService]) (.next h)
  · exact .next h

theorem execGroveRampSlot_halted (g : Fin 16) (h : Halted s) : HaltedO (execGroveRampSlot g s) :=
  .ite (.ite (.next (Halted.setO (s := { s with sys := { s.sys with
      rampWait := Sparse.put (fun _ => none) s.sys.rampWait g.val none } }) h
    (by simp only [Obj.groveState, Obj.modeCurrent, ne_eq]; omega))) (.next h)) (.next h)

theorem execMemWriteBack_halted (bank : Fin 21) (word : Nat) (value : Fin 18446744073709551616) (h : Halted s) :
    HaltedO (execMemWriteBack bank word value s) := by
  refine .ite (.fault _) (.ite (.next ?_) (.next h))
  exact .of (State.countWriteBack_frame _ _ _) (.of (State.writeWord_frame _ _ _ _) h rfl) rfl

theorem execMemReread_halted (bank : Fin 21) (word : Nat) (still : Bool) (h : Halted s) : HaltedO (execMemReread bank word still s) :=
  .ite (.fault _) (.ite (.next h) (.next h))

theorem execClockReturn_halted (c : ClockSource) (h : Halted s) : HaltedO (execClockReturn c s) := by
  unfold execClockReturn
  split
  · exact .next h
  · exact .off (by simp [h.alive]) (.next h)
  · exact .off (by simp [h.alive]) (.next h)

theorem execLeapApply_halted (h : Halted s) : HaltedO (execLeapApply s) := by
  unfold execLeapApply
  split
  · exact .off (by simp [h.running]) (.next h)
  · exact .next h

theorem execTwinJoinBoundary_halted (h : Halted s) : HaltedO (execTwinJoinBoundary s) := by
  unfold execTwinJoinBoundary
  split
  · exact .off (by simp [h.running]) (.next h)
  · exact .next h

theorem execAesJob_halted (g : Fin 16) (e : Fin 17) (cycle : Nat) (nts parity fail : Bool) (h : Halted s) :
    HaltedO (execAesJob g e cycle nts parity fail s) := by
  unfold execAesJob
  refine .ite (.next h) ?_
  split
  · exact .next h
  · extract_lets k hitP s1 hitF s2 ctx clear
    have h1 : Halted s1 := .ite (State.injConsume_halted _ h) h
    have h2 : Halted s2 := .ite (State.injConsume_halted _ h1) h1
    split
    next s3 out1 e3 =>
      have h3 : Halted s3 := .fst e3 (.iteFst (State.raise_halted _ _ _ _ h2) h2)
      extract_lets s4 s5
      have h4 : Halted s4 := .ite (State.aesOut_halted _ _ _ h3) h3
      have h5 : Halted s5 := .ite (State.aesOut_halted _ _ _ (State.faulted_halted _ _ _ _ h4)) h4
      exact .next (.of (State.aesServe_frame _ _ _ _ _) h5 rfl)

/-- In HALTED a report is not taken (R398). -/
theorem State.report_halted (f : FaultOperand) (h : Halted s) : Halted (s.report f) := by
  unfold State.report
  rw [if_pos (by simp [h.alive])]
  exact h

/-- In HALTED a dictionary message waits (R348). -/
theorem State.dictArrive_halted (m : DictMsg) (h : Halted s) : Halted (s.dictArrive m) := by
  unfold State.dictArrive
  dsimp only
  have taken := State.accept_halted _ m.src h
  have placed : Halted (if (s.accept m.src).2 then (s.accept m.src).1.placeRequest m.src (State.requestOctets m) else (s.accept m.src).1) :=
    .ite (State.placeRequest_halted _ _ _ taken) taken
  refine .ite placed ?_
  rw [if_neg (by simp [placed.mode_ne (m := mBoot) (by decide)]), if_neg (by simp [placed.running])]
  exact placed

/-- HALTED is kept by every command but PWR_OK_FALL (R30, R398): a command's condition fails there, or its work keeps the mode. -/
theorem exec_halted (c : Instr) (h : Halted s) (hc : c ≠ .pwrOkFall) : HaltedO (exec c s) := by
  cases c with
  | pwrOkFall => exact absurd rfl hc
  | resetNAssert => exact .on (c := s.mode = mHalted) h (.next h)
  -- the commands of RESET, BOOT, WARMUP and service
  | resetRelease => exact .off (c := s.mode = mReset) (h.mode_ne (by decide)) (.next h)
  | fillComplete | bootThermalRecheck | bootComplete | groveStart =>
    exact .off (fun e => h.mode_ne (by decide) e.1) (.next h)
  | remaskRequest => exact .off (fun e => e.2.elim (h.mode_ne (by decide)) (h.mode_ne (by decide))) (.next h)
  | vaultInitComplete => exact execVaultInitComplete_halted _ h
  | holdMaxExpire => exact execHoldMaxExpire_halted h
  | todMessageSend => exact .off (by simp [h.inService]) (.next h)
  | coldTake => exact execColdTake_halted h
  | twinLinkDetect | twinJoinRetry => exact .off (fun e => absurd e.2.2.1 (by rw [show s.mode = 7 from h]; decide)) (.next h)
  | groveRetryExpire => exact .off (by simp [show s.mode = 7 from h]) (.next h)
  -- the windows and the commands of a device with ticks
  | w0Ingest | w1Solve | w2Serve | w3Maintain => exact .off (by simp [h.mayBegin]) (.next h)
  | tickBoundary | heddleSweep | ntsKeyRotation | ptpGrantExpire | frameLaunch | todMessageReceive | avsReadback | pmbusAlert | ageUpdate
  | faultAutoAck => exact .off (c := s.running = true) (by simp [h.running]) (.next h)
  | windowOverrun | shuttleClockEnable | shuttleClockGate | enterReplay | exitReplay | leapEntryWrite | leapEntryCancel | smearWindowStart
  | smearWindowEnd | codeDensityRunStart | stamperLockTimeout | calInitComplete | stamperFaultRetry | edgeArrival | gateEnd | refAbsentTimeout
  | classFActivityWindow | consistencyCheck | timescaleStep | timescaleStepToRef | npLinkSignal | frameReceive | esmcInfoPdu | esmcRxExpire
  | ntsRotateNow | keyWriteApply | counterDump | dsteerInterval | i2cXfer | i2cBusReset | dictBatchApply | journalIntervalExpire | journalNow
  | faultAck | aliveToggle | injCancel | twinHandover | twinLeave | twinRejoin => exact .off (by simp [h.running]) (.next h)
  | dllUpdate => exact .on (.inr (by simp [h.running])) (.next h)
  | codeDensityRunEnd => exact .off (by simp [h.running]) (.off (by simp [h.running]) (.next h))
  | injRequest => exact .on (by simp [h.running]) (.next h)
  | leapApply => exact execLeapApply_halted h
  | stepMeasure => exact execStepMeasure_halted h
  | keyWrite => exact execKeyWrite_halted _ _ h
  | twinJoinBoundary => exact execTwinJoinBoundary_halted h
  -- the commands of a device that runs the Forester
  | i2cTransactionStart | i2cTransactionDone | i2cArbitrationLost | i2cBusFree | i2cStretchTimeout | i2cRecoveryAttempt | scrubRead | aonClockLoss
  | eventLogWrite => exact .off (c := s.alive = true) (by simp [h.alive]) (.next h)
  | lossOfClock | d2hNoticeDeliver => exact .off (by simp [h.alive]) (.next h)
  | entropyHealthFail => exact .on (by simp [h.alive]) (.next h)
  | clockReturn => exact execClockReturn_halted _ h
  | faultReport => exact .next (State.report_halted _ h)
  -- Glade
  | jesdSyncHeaderLock | linkProgressTimeout | linkFaultDetect | linkFaultRestart => exact .ite (.next (State.linkEnter_halted _ _ _ h)) (.next h)
  | jesdEmbLock => exact .ite (.next (State.embLocked_halted _ _ h)) (.next h)
  | linkDataEntry => exact .ite (.next (State.linkData_halted _ _ _ h)) (.next h)
  | multiblockCrcFail => exact execMultiblockCrcFail_halted _ h
  | gladeLinkStart => exact .ite (.next (State.gladeLinks_halted _ h)) (.next h)
  | gladeEpoch => exact execGladeEpoch_halted _ h
  | notchAverageEnd => exact execNotchAverageEnd_halted _ () () h
  | acqSearchComplete => exact execAcqSearchComplete_halted _ _ h
  | acqConfirmComplete => exact execAcqConfirmComplete_halted _ () h
  | coherentIntegrationEnd => exact .ite (.next (State.integrationEnd_halted _ _ _ h)) (.next h)
  | chPullInTimeout | chLostTimeout => exact .ite (.next (State.chanEnter_halted _ _ _ h)) (.next h)
  | channelPlan => exact .ite (.next (.of (State.planChannels_frame _ _) h rfl)) (.next h)
  | navUnitDecode => exact .ite (.next (State.navUnit_halted _ _ _ h)) (.next h)
  | surveyComplete => exact .ite (.next (State.surveyDone_halted _ _ h)) (.next h)
  | surveyTimeout => exact .ite (.next ((State.surveyRestart_halted _ h).inc (by decide))) (.next h)
  | positionCheck => exact .ite (.next h) (.next h)
  | spoofCheck => exact .ite (.next (State.spoofSecond_halted _ _ h)) (.next h)
  -- the PLLs and the outputs
  | aplltMissingEdge => exact execAplltMissingEdge_halted h
  | aplltInputConnect => exact execAplltInputConnect_halted _ _ h
  | apllLock => exact execApllLock_halted _ h
  | apllLossOfLock | apllAcquireTimeout | aplltRelockTimeout => exact .ite (.next (State.pllBypass_halted _ _ h)) (.next h)
  | apllBypassRetry => exact execApllBypassRetry_halted _ h
  | outputEdge => exact .ite (.next (State.driveEdge_halted _ _ _ _ h)) (.next h)
  -- the network
  | npLinkAligned m | npAlignTimeout m | npLinkFault m | npFaultClear m => exact .ite (.next (h.setLink m _)) (.next h)
  | npLinkUp => exact .ite (.next (State.macEnterUp_halted _ _ h)) (.next h)
  | npLinkDown => exact .next (State.macDown_halted _ _ h)
  | hostBatchClose => exact execHostBatchClose_halted _ _ _ h
  | hostTxDescriptor => exact .next (State.hostTx_halted _ _ _ _ h)
  | hostFrameLate => exact execHostFrameLate_halted _ _ _ h
  -- the time services
  | ntpRequest => exact execNtpRequest_halted _ _ _ h
  | ntsRequest => exact execNtsRequest_halted _ _ _ h
  | ptpDelayReq => exact execPtpDelayReq_halted _ _ _ h
  | ptpPdelayReq => exact execPtpPdelayReq_halted _ _ _ h
  | ptpGrantRequest => exact execPtpGrantRequest_halted _ _ h
  | ptpGrantCancel => exact execPtpGrantCancel_halted _ _ h
  | ptpSyncDue => exact .next (State.syncDue_halted _ _ _ _ h)
  | ptpFollowUpDue => exact .next (State.followUpDue_halted _ _ h)
  | ptpAnnounceDue => exact .next (State.announceDue_halted _ _ h)
  | ptpPdelayReqDue => exact .next (State.pdelayReqDue_halted _ _ _ h)
  | ptpClientRx => exact execPtpClientRx_halted _ _ h
  | clientRequestDue => exact execClientRequestDue_halted _ _ h
  | clientGrantRenew => exact .ite (.next (.of (State.clientRenew_frame _ _ _) h rfl)) (.next h)
  | clientBackoffExpire | clientAnnounceTimeout => exact .ite (.next (State.clientEnter_halted _ _ _ h)) (.next h)
  | esmcPduReceive => exact execEsmcPduReceive_halted _ _ h
  -- the vault
  | ntsMintRequest => exact execNtsMintRequest_halted _ h
  | entropyRestartPass | pkEngineComplete => exact .next h
  | pkSign | pkVerify | pkEcdh | generate | derive | proof | chalIssue | chalRespond | attest => exact .next (State.vaultArrive_halted _ _ _ h)
  | pkEngineStart => exact .ite (.next (State.startEngine_halted _ _ h)) (.next h)
  | tamperEvent => exact .ite (.next (State.tamper_halted _ h)) (.next h)
  | tamperFuseProgrammed => exact .ite (.next (Halted.setN h (by decide))) (.next h)
  -- the host
  | dictRead | dictWrite | dictDescribe => exact .next (State.dictArrive_halted _ h)
  | mbxUnknownOp => exact .ite (.next h) (.next (State.unknownOp_halted _ _ _ _ h))
  | mgmtRequestReceive => exact .next (State.mgmtReceive_halted _ _ h)
  | mgmtCacheExpiry => exact .next (.of (State.expireCache_frame _) h rfl)
  | mgmtArpNd | tickLoRead => exact .ite (.next h) (.next h)
  | pcieLinkUp => exact .ite (.next (State.postHeld_halted _ (h.setN (by decide)))) (.next h)
  | pcieLinkDown => exact .ite (.next ((h.setN (by decide)).inc (by decide))) (.next h)
  | pcieFlr => exact .ite (.next (State.functionReset_halted _ _ h)) (.next h)
  | chanReset => exact .ite (.next (State.setChan__halted _ _ _ h)) (.next h)
  | d2hAck => exact execD2hAck_halted _ _ h
  | ringEnable => exact .ite (.next (.of (State.ringStart_frame _ _ _ _ _) h rfl)) (.next h)
  | ringConsumerWrite => exact .ite (.next (.of (State.setRingReg_frame _ _ _ _ _ _) h rfl)) (.next h)
  | registerWrite => exact .ite (.next (State.registerWrite_halted _ _ _ _ h)) (.next h)
  -- groves and memory
  | engineFail => exact .next (State.engineFail_halted _ _ _ h)
  | engineWatchdogExpire => exact .ite (.next (State.engineFail_halted _ _ _ h)) (.next h)
  | takeoverLoadComplete => exact .next (State.takeoverDone_halted _ _ h)
  | engineSelftestComplete => exact .ite (.next (State.selftested_halted _ _ _ _ h)) (.next h)
  | groveRampSlot => exact execGroveRampSlot_halted _ h
  | aesJob => exact execAesJob_halted _ _ _ _ _ _ h
  | memWriteBack => exact execMemWriteBack_halted _ _ _ h
  | memReread => exact execMemReread_halted _ _ _ h
  | scrubPassLate => exact .ite (.next (Halted.inc h (by simp only [Obj.memScrubLate, Obj.modeCurrent, ne_eq]; omega))) (.next h)
  | dirGets | dirGetm => exact .next (State.dirServe_halted _ _ _ h)
  | dirPutm => exact .next (.of (State.putLine_frame _ _ _) h rfl)
  -- the twin
  | twinJoinTimeout => exact .ite (.next (State.joinRefuse_halted _ _ h)) (.next h)
  | twinHelloReceive => exact .ite (.next (State.helloReceive_halted _ _ h)) (.next h)
  | twinBulkReceive => exact execTwinBulkReceive_halted _ h
  | twinAgreeReceive => exact .ite (.next (State.agreeReceive_halted _ _ h)) (.next h)
  | twinAgreeDeadline => exact .ite (.next (Halted.inc h (by decide))) (.next h)
  | yethalAlignmentLoss => exact .ite (.next h) (.ite (.next (State.joinRefuse_halted _ _ h)) (.next h))
  | twinUrgentReceive | twpPulseDrive => exact .ite (.next h) (.next h)
  | twinForwardReceive => exact .ite (.next (State.forwardReceive_halted _ _ _ h)) (.next h)
  | twpEdgeReceive => exact .ite (.next (State.twpEdge_halted _ _ _ _ h)) (.next h)
  | ownSwitchInstant => exact .next (State.switchOwn_halted _ _ h)
  | ownInFall => exact .next (State.ownInLow_halted _ h)
  | ownContention => exact .ite (.next (State.contention_halted _ h)) (.next h)
  | twinStateTransferRequest => exact .ite (.next (.of (State.twinSend_frame _ _) h rfl)) (.next h)
  -- records, flash, the supply and temperature
  | captureCopy => exact .next (State.captureCopy_halted _ _ h)
  | replayLoad => exact .next (State.replayLoad_halted _ _ h)
  | flashRead | flashSectorErase | flashBlockErase => exact .next (State.flashAsk_halted _ _ _ h)
  | flashProgram => exact .ite (.next (State.flashAsk_halted _ _ _ h)) (.next h)
  | flashCommandComplete => exact .next (State.flashComplete_halted _ _ h)
  | journalWriteComplete => exact .next (State.journalDone_halted _ _ h)
  | thermalSensorRead => exact .ite (.next (State.thermalRead_halted _ _ h)) (.next h)
  | thermalTrip => exact .next (State.thermalTrip_halted _ _ h)
  | sentinelMeasure => exact .next (State.sentinelTake_halted _ _ h)
  | selvagePlanStart => exact .next (State.planStart_halted _ h)
  | selvagePlanComplete => exact .next (State.planComplete_halted _ h)
  -- the side buses
  | i2cTargetSetOffset => exact .ite (.next h) (.next h)
  | i2cTargetRead => exact .ite (.next h) (.next (.of (State.targetRead_frame _ _) h rfl))
  | jtagBypass | jtagIdcode | jtagSamplePreload => exact .next h
  | jtagExtest | jtagExtestPulse | jtagExtestTrain => exact .next (.of (State.jtagDrive_frame _ _) h rfl)
end

/-! ### Faults of class F -/

/-- A fault of class F enters HALTED where the records are not frozen (R384, R386). -/
theorem State.recordFault_classF {s : State} {code : Nat} {row : FaultRow} (source detail subtick : Nat) (injected : Bool)
    (hrow : faultRow code = some row) (hcls : row.cls = 3) (hesc : row.esc = false) (hm : s.mode ≠ mHalted) (hf : s.fault.frozen = false) :
    Halted (s.recordFault code source detail subtick injected).1 := by
  unfold State.recordFault
  rw [hrow]
  dsimp only
  rw [if_neg (by simp [hm, hf]), if_pos (by simp [hesc, hcls])]
  exact Halted.changeMode _

theorem State.faulted_classF {s : State} {code : Nat} {row : FaultRow} (source detail : Nat)
    (hrow : faultRow code = some row) (hcls : row.cls = 3) (hesc : row.esc = false) (hm : s.mode ≠ mHalted) (hf : s.fault.frozen = false) :
    Halted (s.faulted code source detail) := by
  unfold State.faulted State.raise
  split
  · exact State.recordFault_classF _ _ _ _ hrow hcls hesc hm hf
  · exact State.recordFault_classF _ _ _ _ hrow hcls hesc hm hf

/-! ### A change of mode -/

namespace State

@[simp] theorem holdEvent_obj (s : State) (code detail subtick : Nat) : (s.holdEvent code detail subtick).obj = s.obj := by
  unfold holdEvent
  split <;> rfl

@[simp] theorem holdEvent_frozen (s : State) (code detail subtick : Nat) : (s.holdEvent code detail subtick).fault.frozen = s.fault.frozen := by
  unfold holdEvent
  split <;> rfl

theorem changeMode_mode (s : State) (m : Int) : (s.changeMode m).mode = m := by
  have key : (s.changeMode m).obj = ((((s.setO Obj.modePrevious s.mode).setO Obj.modeCurrent m).setN Obj.modeEntryTick s.tick).inc
      Obj.modeTransitions).obj := holdEvent_obj _ _ _ _
  rw [mode, o_congr key, o_inc, if_neg (by decide), o_setN, if_neg (by decide), o_setO_self]

theorem changeMode_frozen (s : State) (m : Int) : (s.changeMode m).fault.frozen = s.fault.frozen := holdEvent_frozen _ _ _ _

/-! ### The reset entered (R27, R37) -/

/-- What an object reads once the reset is entered. -/
theorem toReset_o (s : State) (pwrOk : Bool) (k : Nat) :
    (s.toReset pwrOk).o k = if (pwrOk && s.vault.tampered) = true ∧ k = Obj.vaultState then 3
      else if k = Obj.tamperCount then (s.n Obj.tamperCount : Int) else objDefault k := by
  unfold toReset
  dsimp only
  split
  next h =>
    rw [o_setN, o_setN]
    simp only [h, true_and]
    rfl
  next h =>
    rw [o_setN, if_neg fun e : _ ∧ _ => h e.1]
    rfl

theorem toReset_o_tamperCount (s : State) (pwrOk : Bool) : (s.toReset pwrOk).o Obj.tamperCount = s.n Obj.tamperCount := by
  rw [toReset_o, if_neg fun e => absurd e.2 (by decide), if_pos rfl]

/-- Outside the queue, the objects, the clocks and latches, the vault and the supply, the reset entered is the state of power-up. -/
theorem toReset_frame_reset (s : State) (pwrOk : Bool) : Frame 270355 State.reset (s.toReset pwrOk) := by
  unfold toReset
  dsimp only
  split <;>
    exact .intro (.inl rfl) (.inl rfl) (.inr rfl) (.inr rfl) (.inl rfl) (.inr rfl) (.inr rfl) (.inr rfl) (.inr rfl) (.inr rfl) (.inr rfl)
      (.inr rfl) (.inr rfl) (.inl rfl) (.inr rfl) (.inr rfl) (.inr rfl) (.inr rfl) (.inl rfl) (.inr rfl)

theorem toReset_pending (s : State) (pwrOk : Bool) : (s.toReset pwrOk).pending = s.pending := by
  unfold toReset
  dsimp only
  split <;> rfl

theorem toReset_pwrOk (s : State) (pwrOk : Bool) : (s.toReset pwrOk).sys.pwrOk = pwrOk := by
  unfold toReset
  dsimp only
  split <;> rfl

theorem toReset_tampered (s : State) (pwrOk : Bool) : (s.toReset pwrOk).vault.tampered = (pwrOk && s.vault.tampered) := by
  unfold toReset
  dsimp only
  split <;> rfl

theorem toReset_tripLatch (s : State) (pwrOk : Bool) : (s.toReset pwrOk).power.tripLatch = (pwrOk && s.power.tripLatch) := by
  unfold toReset
  dsimp only
  split <;> rfl

theorem toReset_mode (s : State) (pwrOk : Bool) : (s.toReset pwrOk).mode = mReset := by
  rw [mode, toReset_o, if_neg fun e => absurd e.2 (by decide), if_neg (by decide)]
  rfl

theorem toReset_blob (s : State) (pwrOk : Bool) (k : Nat) : (s.toReset pwrOk).blob k = blobDefault k := by
  rw [blob, (s.toReset_frame_reset pwrOk).blobs_eq rfl]
  rfl

theorem toReset_mem (s : State) (pwrOk : Bool) : (s.toReset pwrOk).mem = [] := (s.toReset_frame_reset pwrOk).mem_eq rfl

/-- The slots of the journal after a cut: one that was being written is torn (R486). -/
def cutSlots (s : State) : List JournalSlot := match s.power.write with
  | some w => if w.started then setAt s.power.slots w.slot .torn else s.power.slots
  | none => s.power.slots

/-- The reset entered with no flash command to cut and no tamper to keep. -/
theorem toReset_eq {s : State} {pwrOk : Bool} (hc : s.power.command = none) (ht : (pwrOk && s.vault.tampered) = false) :
    s.toReset pwrOk = State.setN { State.reset with
      pending := s.pending
      sys := { State.reset.sys with pwrOk := pwrOk, free := s.sys.free }
      vault := { State.reset.vault with fuseDue := pwrOk && s.vault.fuseDue }
      power := { State.reset.power with
        slots := s.cutSlots, flash := s.power.flash, tripLatch := pwrOk && s.power.tripLatch, trippedBy := s.power.trippedBy } }
      Obj.tamperCount (s.n Obj.tamperCount) := by
  unfold toReset
  rw [hc, ht]
  rfl

/-! ### The reset released (R27, R315, R323, R479, R498) -/

/-- PWR_OK and RESET_N both high, the test port in BYPASS. -/
def pinsHigh (s : State) : State :=
  { s with sys := { s.sys with pwrOk := true, resetN := true }, bus := { s.bus with jtag := .bypass } }

/-- BOOT begun and the straps sampled: the first part of `released`. -/
def strapped (s : State) (twinEn : Bool) (avsAddr : Nat) : State :=
  ((((s.pinsHigh.changeMode mBoot).setF Obj.twinEnable twinEn).setN Obj.avsAddr avsAddr).setN Obj.twinState (if twinEn then 1 else 0)).setO
    Obj.xipCs0 1

/-- The reset released, up to the report of a latch: APLL-S acquiring, the vault in INIT, the side buses reset. -/
def unlatched (s : State) (twinEn : Bool) (avsAddr : Nat) (lines : I2cLines × I2cLines) : State :=
  let s1 := s.strapped twinEn avsAddr
  let s2 := (s1.pllStart 1).setN Obj.cdStatus (setBit (setBit (s1.n Obj.cdStatus) 0) 5)
  ((if s2.vault.tampered then s2 else s2.setN Obj.vaultState 1).i2cReset 0 lines.1).i2cReset 1 lines.2

theorem released_eq (s : State) (twinEn : Bool) (avsAddr : Nat) (lines : I2cLines × I2cLines) :
    s.released twinEn avsAddr lines =
      let s3 := s.unlatched twinEn avsAddr lines
      if s3.vault.tampered then s3.faulted 0x0805 0 0
      else if s3.power.tripLatch then s3.faulted 0x0E02 s3.power.trippedBy 0
      else s3 := rfl

section
variable (s : State) (twinEn : Bool) (avsAddr : Nat) (lines : I2cLines × I2cLines)

theorem strapped_mode : (s.strapped twinEn avsAddr).mode = mBoot := by
  unfold strapped
  rw [mode, o_setO_ne _ _ (by decide), o_setN, if_neg (by decide), o_setN, if_neg (by decide), o_setF, if_neg (by decide)]
  exact changeMode_mode _ _

theorem strapped_twinEnable : (s.strapped twinEn avsAddr).flag Obj.twinEnable = twinEn := by
  unfold strapped flag
  rw [o_setO_ne _ _ (by decide), o_setN, if_neg (by decide), o_setN, if_neg (by decide), o_setF, if_pos rfl]
  cases twinEn <;> rfl

theorem strapped_avsAddr : (s.strapped twinEn avsAddr).o Obj.avsAddr = avsAddr := by
  unfold strapped
  rw [o_setO_ne _ _ (by decide), o_setN, if_neg (by decide), o_setN, if_pos rfl]

theorem strapped_twinState : (s.strapped twinEn avsAddr).o Obj.twinState = if twinEn then 1 else 0 := by
  unfold strapped
  rw [o_setO_ne _ _ (by decide), o_setN, if_pos rfl]
  cases twinEn <;> rfl

theorem strapped_frame : Frame 16450 s.pinsHigh (s.strapped twinEn avsAddr) :=
  .of (setO_frame _ _ _) (.of (setN_frame _ _ _) (.of (setN_frame _ _ _) (.of (setF_frame _ _ _) (changeMode_frame _ _) rfl) rfl) rfl) rfl

theorem i2cReset_o (k : Nat) (l : I2cLines) {j : Nat} (hj : j ≠ Obj.i2cBusState k) : (s.i2cReset k l).o j = s.o j := by
  unfold i2cReset
  cases l <;> exact o_setO_ne _ _ hj

theorem pllStart_o (k : Nat) {j : Nat} (hj : j ≠ Obj.apllState k) : (s.pllStart k).o j = s.o j := by
  unfold pllStart
  split
  · exact o_setO_ne _ _ hj
  · rfl

/-- What the release writes after the straps. -/
theorem unlatched_o {j : Nat} (hj : j ∉ [Obj.i2cBusState 1, Obj.i2cBusState 0, Obj.vaultState, Obj.cdStatus, Obj.apllState 1]) :
    (s.unlatched twinEn avsAddr lines).o j = (s.strapped twinEn avsAddr).o j := by
  simp only [List.mem_cons, List.not_mem_nil, or_false, not_or] at hj
  obtain ⟨h1, h0, hv, hc, hp⟩ := hj
  have status (v : Nat) : (((s.strapped twinEn avsAddr).pllStart 1).setN Obj.cdStatus v).o j = (s.strapped twinEn avsAddr).o j := by
    rw [o_setN, if_neg hc, pllStart_o _ _ hp]
  unfold unlatched
  dsimp only
  rw [i2cReset_o _ _ _ h1, i2cReset_o _ _ _ h0]
  split
  · exact status _
  · rw [o_setN, if_neg hv, status]

theorem unlatched_vaultState (h : s.vault.tampered = false) : (s.unlatched twinEn avsAddr lines).o Obj.vaultState = 1 := by
  have kept : ((s.strapped twinEn avsAddr).pllStart 1).vault = s.vault :=
    ((pllStart_frame _ _).vault_eq rfl).trans ((strapped_frame s _ _).vault_eq rfl)
  unfold unlatched
  dsimp only
  rw [i2cReset_o _ _ _ (by decide), i2cReset_o _ _ _ (by decide), if_neg (by rw [setN_vault, kept, h]; decide), o_setN, if_pos rfl]
  rfl

theorem unlatched_frame_strapped : Frame 524290 (s.strapped twinEn avsAddr) (s.unlatched twinEn avsAddr lines) :=
  .of (i2cReset_frame _ _ _) (.of (i2cReset_frame _ _ _) (.ite
    (.of (setN_frame _ _ _) ((pllStart_frame _ _).mono rfl) rfl)
    (.of (setN_frame _ _ _) (.of (setN_frame _ _ _) ((pllStart_frame _ _).mono rfl) rfl) rfl)) rfl) rfl

theorem unlatched_frame : Frame 540738 s.pinsHigh (s.unlatched twinEn avsAddr lines) :=
  .of (unlatched_frame_strapped _ _ _ _) ((strapped_frame _ _ _).mono rfl) rfl

theorem unlatched_mode : (s.unlatched twinEn avsAddr lines).mode = mBoot :=
  (unlatched_o _ _ _ _ (by decide)).trans (strapped_mode _ _ _)

theorem unlatched_vault : (s.unlatched twinEn avsAddr lines).vault = s.vault := (unlatched_frame s _ _ _).vault_eq rfl

theorem unlatched_power : (s.unlatched twinEn avsAddr lines).power = s.power := (unlatched_frame s _ _ _).power_eq rfl

theorem unlatched_frozen : (s.unlatched twinEn avsAddr lines).fault.frozen = s.fault.frozen :=
  (congrArg FaultState.frozen ((unlatched_frame_strapped s _ _ _).fault_eq rfl)).trans (changeMode_frozen s.pinsHigh _)

variable {s}

theorem released_of_unlatched (ht : s.vault.tampered = false) (hl : s.power.tripLatch = false) :
    s.released twinEn avsAddr lines = s.unlatched twinEn avsAddr lines := by
  rw [released_eq]
  dsimp only
  rw [unlatched_vault, unlatched_power, ht, hl]
  rfl

/-- A tamper or a trip still latched at the release enters HALTED at once (R323, R479). -/
theorem released_halted_of_latch (hf : s.fault.frozen = false) (h : s.vault.tampered = true ∨ s.power.tripLatch = true) :
    Halted (s.released twinEn avsAddr lines) := by
  have boot : (s.unlatched twinEn avsAddr lines).mode ≠ mHalted := by
    rw [unlatched_mode]
    decide
  have unfrozen : (s.unlatched twinEn avsAddr lines).fault.frozen = false := (unlatched_frozen _ _ _ _).trans hf
  rw [released_eq]
  dsimp only
  split
  · exact faulted_classF _ _ (row := ⟨0x0805, 3, false, 1⟩) rfl rfl rfl boot unfrozen
  next hn =>
    rw [unlatched_vault] at hn
    rw [if_pos (by rw [unlatched_power]; exact h.resolve_left hn)]
    exact faulted_classF _ _ (row := ⟨0x0E02, 3, false, 1⟩) rfl rfl rfl boot unfrozen
end

end State

/-- Settles O9. -/
theorem haltedIsLeftOnlyByPower : Obligations.HaltedIsLeftOnlyByPower :=
  ⟨fun c _ t h hc ht => exec_halted c h hc t ht, fun _ h => if_pos h, fun s _ => ⟨_, rfl, s.toReset_mode _⟩⟩

/-- Settles O21: the reset entered is the state of power-up but for what `toReset_o` and the latches keep. -/
theorem resetCommandsComplete : Obligations.ResetCommandsComplete := by
  have resetN (s : State) (h : s.mode ≠ mHalted) : exec .resetNAssert s = .next (s.toReset s.sys.pwrOk) := if_neg h
  have release (twinEn : Bool) (avsAddr : Fin 8) (a b : I2cLines) (s : State) (h : s.mode = mReset) :
      exec (.resetRelease twinEn avsAddr a b) s = .next (s.released twinEn avsAddr.val (a, b)) := if_pos h
  refine ⟨fun _ => rfl, resetN, release, fun s hc => ?_, fun s hm hc ht => ?_, fun s => ?_, fun s hm => ?_, fun _ h => if_pos h,
    fun twinEn avsAddr a b s hm ht hl => ?_, fun twinEn avsAddr a b s hm hf _ h => ?_⟩
  · exact congrArg _ (State.toReset_eq hc rfl)
  · exact (resetN s hm).trans (congrArg _ (State.toReset_eq hc (by rw [ht, Bool.and_false])))
  · have fresh := s.toReset_frame_reset false
    refine ⟨_, rfl, s.toReset_mode _, s.toReset_pending _, s.toReset_mem _, s.toReset_o_tamperCount _, fun k hk => ?_, s.toReset_blob _,
      s.toReset_pwrOk _, s.toReset_tampered _, s.toReset_tripLatch _, fresh.leap_eq rfl, fresh.fault_eq rfl, fresh.stamp_eq rfl,
      fresh.glade_eq rfl, fresh.synth_eq rfl, fresh.canopy_eq rfl, fresh.net_eq rfl, fresh.serv_eq rfl, fresh.host_eq rfl,
      fresh.shuttle_eq rfl, fresh.twin_eq rfl, fresh.record_eq rfl, fresh.bus_eq rfl⟩
    rw [State.toReset_o, if_neg fun e => Bool.noConfusion e.1, if_neg hk]
  · have fresh := s.toReset_frame_reset s.sys.pwrOk
    refine ⟨_, resetN s hm, s.toReset_mode _, s.toReset_pending _, s.toReset_mem _, s.toReset_o_tamperCount _, fun k hk hv => ?_,
      s.toReset_blob _, s.toReset_pwrOk _, fresh.leap_eq rfl, fresh.fault_eq rfl, fresh.stamp_eq rfl, fresh.glade_eq rfl,
      fresh.synth_eq rfl, fresh.canopy_eq rfl, fresh.net_eq rfl, fresh.serv_eq rfl, fresh.host_eq rfl, fresh.shuttle_eq rfl,
      fresh.twin_eq rfl, fresh.record_eq rfl, fresh.bus_eq rfl⟩
    rw [State.toReset_o, if_neg fun e => hv e.2, if_neg hk]
  · rw [release twinEn avsAddr a b s hm, State.released_of_unlatched _ _ _ ht hl]
    have pins := s.unlatched_frame twinEn avsAddr.val (a, b)
    have read {j : Nat} := s.unlatched_o twinEn avsAddr.val (a, b) (j := j)
    refine ⟨_, rfl, s.unlatched_mode _ _ _, ?_, ?_, s.unlatched_vaultState _ _ _ ht, (read (by decide)).trans (s.strapped_avsAddr _ _),
      ?_, (read (by decide)).trans (s.strapped_twinState _ _), pins.mem_eq rfl, pins.pending_eq rfl⟩
    · exact congrArg SysState.pwrOk (pins.sys_eq rfl)
    · exact congrArg SysState.resetN (pins.sys_eq rfl)
    · rw [State.flag, read (by decide)]
      exact s.strapped_twinEnable _ _
  · exact ⟨_, release twinEn avsAddr a b s hm, State.released_halted_of_latch _ _ _ hf h⟩


/-! ### BOOT (R315, R372, R467, R468, R480) -/

namespace State

/-- Images of which a copy was read and that pass are loaded (R467, R468). -/
theorem checkImages_loaded (s : State) {b : BootRead} (hc : b.copy.isSome = true) (hs : b.shuttleOk = true) (hm : b.microcodeOk = true) :
    (s.checkImages b).power.loaded = true := by
  obtain ⟨c, hc⟩ := Option.isSome_iff_exists.mp hc
  unfold checkImages
  rw [hc]
  dsimp only
  rw [if_neg (by simp [hs]), if_neg (by simp [hm])]

theorem filled_loaded (s : State) {b : BootRead} (hc : b.copy.isSome = true) (hs : b.shuttleOk = true) (hm : b.microcodeOk = true) :
    (s.filled b).power.loaded = true := by
  unfold filled
  dsimp only
  split
  · rw [(serveHeld_frame _).power_eq rfl]
    exact checkImages_loaded _ hc hs hm
  · exact checkImages_loaded _ hc hs hm

/-- What an object reads once the vault is zeroised (R324). -/
theorem zeroise_o (s : State) {k : Nat} (hk : k ≠ Obj.vaultState) : s.zeroise.o k = s.o k := by
  have cleared (l : List Nat) : Frame 8196 s (l.foldl (fun s k =>
      if (s.slot k).content.isEmpty && (s.slot k).state == 0 then s else s.setSlot k { gen := genGone (s.slot k) }) s) :=
    .foldl (fun _ _ => .ite (.refl _ _) (setSlot_frame _ _ _)) (.refl _ _)
  unfold zeroise
  generalize List.range 96 = slots
  dsimp only
  rw [o_setN, if_neg hk]
  exact o_congr ((cleared slots).obj_eq rfl) k

/-- A vault self-test that fails enters HALTED (R315). -/
theorem zeroise_faulted_halted {s : State} (source : Nat) (hm : s.mode = mBoot) (hf : s.fault.frozen = false) :
    Halted (s.zeroise.faulted 0x0804 source 0) := by
  have mode_eq : s.zeroise.mode = mBoot := (zeroise_o s (by decide)).trans hm
  refine faulted_classF _ _ (row := ⟨0x0804, 3, false, 1⟩) rfl rfl rfl ?_ ?_
  · rw [mode_eq]
    decide
  · rw [(zeroise_frame s).fault_eq rfl, hf]

theorem vaultReady_o (s : State) {k : Nat} (hk : k ≠ Obj.vaultState) : s.vaultReady.o k = (s.inc Obj.remaskPasses).o k := by
  unfold vaultReady
  dsimp only
  rw [o_setN, if_neg hk]
  exact o_congr ((bootKeys_frame _).obj_eq rfl) k

theorem vaultReady_vaultState (s : State) : s.vaultReady.o Obj.vaultState = 2 := o_setO_self _ _ _

theorem fillSlot_recovery (s : State) (k type origin : Nat) (content pub : Octets) (keyId : Nat) :
    (s.fillSlot k type origin content pub keyId).vault.recovery = s.vault.recovery := rfl

theorem vaultReady_recovery (s : State) : s.vaultReady.vault.recovery = false := by
  unfold vaultReady bootKeys
  dsimp only [setN_vault, setBlob_vault, fillSlot_recovery]
  rfl

/-- Below 115 °C the end of BOOT enters WARMUP (R27, R480). -/
theorem bootDone_cool {s : State} (us : Nat) (h : s.o Obj.tjMax < 1840) :
    s.bootDone us = State.enterWarmup { s.setO Obj.thermalState 0 with power := { s.power with held := false } } us :=
  if_neg (Int.not_le.mpr h)

/-- From 115 °C on BOOT is held (R480). -/
theorem bootDone_hot {s : State} (us : Nat) (h : 1840 ≤ s.o Obj.tjMax) :
    s.bootDone us = { s.setO Obj.thermalState 2 with power := { s.power with held := true } } := if_pos h

theorem enterWarmup_held (s : State) (us : Nat) : (s.enterWarmup us).power.held = s.power.held :=
  congrArg PowerState.held ((enterWarmup_frame s us).power_eq rfl)

/-- The dictionary shown to the host after entry to WARMUP is the dictionary (R334). -/
theorem enterWarmup_snapshot (s : State) (us : Nat) :
    (s.enterWarmup us).host.snapObj = (s.enterWarmup us).obj ∧ (s.enterWarmup us).host.snapBlobs = (s.enterWarmup us).blobs := ⟨rfl, rfl⟩

end State

/-- Settles O22. -/
theorem bootCommandsComplete : Obligations.BootCommandsComplete := by
  have fill (b : BootRead) (s : State) (hm : s.mode = mBoot) (hl : s.power.loaded = false) :
      exec (.fillComplete b) s = .next (s.filled b) := if_pos ⟨hm, hl⟩
  have failed (u : Fin 4) (s : State) (hm : s.mode = mBoot) (hv : s.o Obj.vaultState = 1) :
      exec (.vaultInitComplete (some u)) s = .next (s.zeroise.faulted 0x0804 u.val 0) := if_neg fun e => e.elim (· hm) (· hv)
  have passed (s : State) (hm : s.mode = mBoot) (hv : s.o Obj.vaultState = 1) :
      exec (.vaultInitComplete none) s = if s.vault.tampered then .next s.zeroise else .next s.vaultReady :=
    if_neg fun e => e.elim (· hm) (· hv)
  have ready (s : State) (hm : s.mode = mBoot) (hv : s.o Obj.vaultState = 1) (ht : s.vault.tampered = false) :
      exec (.vaultInitComplete none) s = .next s.vaultReady := (passed s hm hv).trans (if_neg (by simp [ht]))
  have complete (us : Fin 4294967296) (s : State) (hm : s.mode = mBoot) (hl : s.power.loaded = true) (hv : s.o Obj.vaultState = 2)
      (hh : s.power.held = false) : exec (.bootComplete us) s = .next (s.bootDone us.val) := if_pos ⟨hm, hl, hv, hh⟩
  have recheck (us : Fin 4294967296) (s : State) (hm : s.mode = mBoot) (hh : s.power.held = true) :
      exec (.bootThermalRecheck us) s = .next (s.bootDone us.val) := if_pos ⟨hm, hh⟩
  refine ⟨fun s => ⟨_, rfl, s.toReset_mode _, s.toReset_mem _, s.toReset_pending _⟩,
    fun s hm => ⟨_, if_neg hm, s.toReset_mode _, s.toReset_mem _, s.toReset_pending _⟩,
    fun twinEn avsAddr a b s hm ht hl => ?_, fill, ready, fun s hm hv ht => (passed s hm hv).trans (if_pos ht), failed,
    fun us s hm hl hv hh hj => ?_, fun us s hm hh hj => ?_, fun b s hm hl => ?_, fun s hm hv ht => ?_, fun u s hm hv hf _ => ?_,
    fun us s hm hl hv hh hj => ?_, fun us s hm hl hv hh hj => ?_, fun us s hm hh hj => ?_, fun us s hm hh hj => ?_⟩
  · exact ⟨_, (if_pos hm).trans (congrArg _ (State.released_of_unlatched _ _ _ ht hl)), s.unlatched_mode _ _ _,
      (s.unlatched_frame _ _ _).mem_eq rfl, (s.unlatched_frame _ _ _).pending_eq rfl⟩
  · rw [complete us s hm hl hv hh, State.bootDone_cool _ hj]
  · rw [recheck us s hm hh, State.bootDone_cool _ hj]
  · exact ⟨_, fill b s hm hl, (s.filled_frame b).pending_eq rfl, s.filled_loaded⟩
  · exact ⟨_, ready s hm hv ht, s.vaultReady_vaultState, (s.vaultReady_o (by decide)).trans (State.o_setO_self _ _ _),
      (s.vaultReady_o (by decide)).trans ((State.o_setO_ne _ _ (by decide)).trans hm), s.vaultReady_recovery⟩
  · exact ⟨_, failed u s hm hv, State.zeroise_faulted_halted _ hm hf⟩
  · rw [complete us s hm hl hv hh, State.bootDone_cool _ hj]
    have warm := State.enterWarmup_frame { s.setO Obj.thermalState 0 with power := { s.power with held := false } } us.val
    exact ⟨_, rfl, State.enterWarmup_held _ _, warm.mem_eq rfl, rfl, rfl, warm.pending_eq rfl⟩
  · rw [complete us s hm hl hv hh, State.bootDone_hot _ hj]
  · rw [recheck us s hm hh, State.bootDone_cool _ hj]
    have warm := State.enterWarmup_frame { s.setO Obj.thermalState 0 with power := { s.power with held := false } } us.val
    exact ⟨_, rfl, State.enterWarmup_held _ _, warm.mem_eq rfl, rfl⟩
  · rw [recheck us s hm hh, State.bootDone_hot _ hj]

/-! ### Clocks (R36, R43) -/

theorem State.clockBack_pll (s : State) (c : ClockSource) (k : Nat) : (s.clockBack c).pll k = s.pll k :=
  State.o_setO_ne _ _ (by simp only [Obj.apllState, Obj.cdStatus, ne_eq]; omega)

theorem State.clockBack_cdStatus (s : State) (c : ClockSource) : (s.clockBack c).n Obj.cdStatus = c.domains.foldl setBit (s.n Obj.cdStatus) :=
  congrArg Int.toNat (State.o_setO_self _ _ _)

/-- Where APLL-T does not acquire, a clock that returns sets the bits of its domains. -/
theorem State.clockReturned_of_pll_ne {s : State} (c : ClockSource) (h : s.pll 0 ≠ 1) : s.clockReturned c = s.clockBack c :=
  if_neg fun e => h ((s.clockBack_pll c 0).symm.trans e.1)

/-- APLL-T acquiring without a source takes one when a clock returns (R177). -/
theorem State.clockReturned_of_acquiring {s : State} (c : ClockSource) (h : s.pll 0 = 1) (hs : s.n Obj.aplltSource = 255) :
    s.clockReturned c = (s.clockBack c).setN Obj.aplltSource ((s.clockBack c).aplltAcquire.getD 255) :=
  if_pos ⟨(s.clockBack_pll c 0).trans h, (congrArg Int.toNat (State.o_setO_ne _ _ (by decide))).trans hs⟩

/-- CLOCK_RETURN of a source that is no PLL (of the PCIe clock: once the fill ended). -/
theorem exec_clockReturn {c : ClockSource} {s : State} (ha : s.alive = true) (hc : ∀ k, c ≠ .apll k) (hp : c = .pcie → s.power.filled = true) :
    exec (.clockReturn c) s = .next (s.clockReturned c) := by
  show execClockReturn c s = _
  unfold execClockReturn
  split
  next k => exact absurd rfl (hc k)
  · rw [if_pos (by rw [ha, hp rfl]; rfl)]
  · rw [if_pos ha]

/-- LOSS_OF_CLOCK of a source that is present and no PLL. -/
theorem exec_lossOfClock {c : ClockSource} {s : State} (ha : s.alive = true) (hp : s.clockPresent c = true) (hc : ∀ k, c ≠ .apll k) :
    exec (.lossOfClock c) s = .next (s.clockLost c) := by
  show execLossOfClock c s = _
  unfold execLossOfClock
  rw [if_pos (by rw [ha, hp]; rfl)]
  split
  next k => exact absurd rfl (hc k)
  · rfl

theorem State.addDue_of_ne {s : State} (second : Bool) (w : DueWrite) (h : s.sys.window ≠ .w3) :
    s.addDue second w = { s with sys := { s.sys with due := s.sys.due ++ [⟨1, second, w⟩] } } := by
  rw [State.addDue, if_neg h]

theorem State.addDue_of_w3 {s : State} (second : Bool) (w : DueWrite) (h : s.sys.window = .w3) :
    s.addDue second w = { s with sys := { s.sys with due := s.sys.due ++ [⟨2, second, w⟩] } } := by
  rw [State.addDue, if_pos h]

/-- Settles O24. -/
theorem clockCommandsComplete : Obligations.ClockCommandsComplete := by
  have enter (s : State) (hr : s.running = true) : exec (.enterReplay .hostH) s = .next (s.addDue false (.modeRequest 1)) :=
    if_pos (by rw [hr]; rfl)
  have leave (s : State) (hr : s.running = true) : exec (.exitReplay .hostH) s = .next (s.addDue false (.modeRequest 2)) :=
    if_pos (by rw [hr]; rfl)
  refine ⟨fun g s hr hw h1 h3 hn => if_pos ?_, fun g s hr hw => if_pos (by rw [hr, hw]; rfl), fun s hr hw => ?_, fun s hr hw => ?_,
    fun s hr hw => ?_, fun s hr hw => ?_, fun cls s hcls => ?_, fun n s ha hp => exec_lossOfClock ha hp nofun,
    fun c s ha hp hc => exec_lossOfClock ha hp hc, fun k s ha hp hk => ?_, fun c s ha hc hp h0 => ?_, fun c s ha hc hp h0 hs => ?_,
    fun _ _ => rfl⟩
  · simp [hr, hw, h1, h3, hn]
  · rw [enter s hr, State.addDue_of_ne _ _ hw]
  · rw [enter s hr, State.addDue_of_w3 _ _ hw]
  · rw [leave s hr, State.addDue_of_ne _ _ hw]
  · rw [leave s hr, State.addDue_of_w3 _ _ hw]
  · exact ⟨if_neg (by simp [hcls]), if_neg (by simp [hcls])⟩
  · exact (if_pos (by rw [ha, hp]; rfl)).trans (if_pos hk)
  · rw [exec_clockReturn ha hc hp, State.clockReturned_of_pll_ne c h0]
    rfl
  · rw [exec_clockReturn ha hc hp, State.clockReturned_of_acquiring c h0 hs]
    refine ⟨_, rfl, ?_, fun k hk ha => ?_, rfl, rfl⟩
    · exact (congrArg Int.toNat (State.o_setO_ne _ _ (by decide))).trans (s.clockBack_cdStatus c)
    · exact (State.o_setO_ne _ _ ha).trans (State.o_setO_ne _ _ hk)

/-! ### The state held in reset -/

/-- Settles O3. -/
theorem resetHoldsDefaults : Obligations.ResetHoldsDefaults :=
  ⟨rfl, rfl, rfl, fun _ => rfl, fun _ => rfl, fun _ => rfl, rfl⟩

end Sys2Proof.Machine
end

section
/-!
SUPPORT. Device time read by its fields SECONDS, NANOSECONDS and FRACTION (R63 to R67): the fields, the tick index and the continuous nanosecond
count of secs × 1 s + ns × 1 ns + frac, and the NANOSECONDS octets of an encoded TIME80.
-/

namespace Sys2Proof.Machine

/-! ### Octet strings -/

theorem length_toBE (n v : Nat) : (toBE n v).length = n := by
  induction n with
  | zero => rfl
  | succ n ih => rw [toBE, List.length_cons, ih]

/-- What the fold over the octets `b` starts from counts `256 ^ b.length` times. -/
theorem beNat_foldl (b : Octets) (k : Nat) : b.foldl (fun a x => a * 256 + x.toNat) k = k * 256 ^ b.length + beNat b := by
  induction b generalizing k with
  | nil => exact (Nat.mul_one k).symm
  | cons x b ih =>
    rw [beNat, List.foldl_cons, List.foldl_cons, ih, ih (0 * 256 + x.toNat), List.length_cons, Nat.pow_succ', Nat.zero_mul, Nat.zero_add,
      Nat.add_mul, Nat.mul_assoc, Nat.add_assoc]

/-- Most significant octet first: the first octet is the high one. -/
theorem beNat_cons (x : Byte) (b : Octets) : beNat (x :: b) = x.toNat * 256 ^ b.length + beNat b := by
  rw [beNat, List.foldl_cons, beNat_foldl, Nat.zero_mul, Nat.zero_add]

theorem beNat_toBE (n v : Nat) : beNat (toBE n v) = v % 256 ^ n := by
  induction n with
  | zero => exact (Nat.mod_one v).symm
  | succ n ih =>
    rw [toBE, beNat_cons, length_toBE, ih, BitVec.toNat_ofNat, Nat.mod_pow_succ (b := 256), Nat.mul_comm, Nat.add_comm]

/-- A field that stands between two others is read back whole. -/
theorem octets_middle (a b c : Octets) : octets (a ++ b ++ c) a.length b.length = b := by
  simp [octets]

/-! ### The fields of a device time -/

theorem timeNanos_nonneg (t : Int) : 0 ≤ timeNanos t := by
  simp only [timeNanos, secondUnits, nsUnits]
  omega

theorem timeNanos_lt (t : Int) : timeNanos t < 1000000000 := by
  simp only [timeNanos, secondUnits, nsUnits]
  omega

theorem fieldN_encTime80_nanos (t : Int) : fieldN (encTime80 t) 6 4 = (timeNanos t).toNat := by
  have hlt := timeNanos_lt t
  have hfield : octets (encTime80 t) 6 4 = toBE 4 (timeNanos t).toNat := by
    have hmid := octets_middle (toBE 6 (timeSeconds t).toNat) (toBE 4 (timeNanos t).toNat) (toBE 4 (timeFraction t).toNat)
    rwa [length_toBE, length_toBE] at hmid
  rw [fieldN, hfield, beNat_toBE]
  exact Nat.mod_eq_of_lt (by omega)

section Fields
variable (secs : Int) {ns frac : Nat}

theorem timeFraction_fields (hf : frac < 4294967296) : timeFraction (secs * secondUnits + ns * nsUnits + frac) = frac := by
  simp only [timeFraction, secondUnits, nsUnits]
  omega

variable (hn : ns < 1000000000) (hf : frac < 4294967296)
include hn hf

theorem timeSeconds_fields : timeSeconds (secs * secondUnits + ns * nsUnits + frac) = secs := by
  simp only [timeSeconds, secondUnits, nsUnits]
  omega

theorem timeNanos_fields : timeNanos (secs * secondUnits + ns * nsUnits + frac) = ns := by
  simp only [timeNanos, secondUnits, nsUnits]
  omega

end Fields

/-! ### The continuous nanosecond count -/

/-- The division by one nanosecond drops the fraction. -/
theorem ediv_nsUnits_fields (secs : Int) {ns frac : Nat} (hf : frac < 4294967296) :
    (secs * secondUnits + ns * nsUnits + frac) / nsUnits = secs * 1000000000 + ns := by
  simp only [secondUnits, nsUnits]
  omega

/-- Settles O54. -/
theorem continuousNanoseconds : Obligations.ContinuousNanoseconds := by
  intro secs ns frac _ hf
  rw [timeCns, ediv_nsUnits_fields secs hf]
  omega

/-! ### The tick index -/

theorem timeIndex_secs_add (secs : Int) {r : Int} (h0 : 0 ≤ r) (hr : r < secondUnits) :
    timeIndex (secs * secondUnits + r) = r * 8192 / secondUnits := by
  rw [timeIndex, Int.mul_add_emod_self_right, Int.emod_eq_of_lt h0 hr]

/-- A second is 8,192 ticks, so the index counts whole ticks. -/
theorem mul_8192_ediv_secondUnits (r : Int) : r * 8192 / secondUnits = r / tickUnits :=
  Int.mul_ediv_mul_of_pos_left r tickUnits (by decide)

/-- Every time of tick `i` of a second has index `i`, from the boundary that begins the tick up to, and without, the next one. -/
theorem timeIndex_in_tick (secs : Int) {i : Nat} {r : Int} (hi : i < 8192) (h0 : i * tickUnits ≤ r) (h1 : r < (i + 1) * tickUnits) :
    timeIndex (secs * secondUnits + r) = i := by
  simp only [tickUnits] at h0 h1
  rw [timeIndex_secs_add secs (by omega) (by rw [secondUnits]; omega), mul_8192_ediv_secondUnits, tickUnits]
  omega

/-- Settles O53: the two ends of a tick are the two ends of the span of `timeIndex_in_tick`. -/
theorem tickIndexOfATime : Obligations.TickIndexOfATime := by
  refine ⟨fun secs ns frac hn hf => ?_, fun secs i hi => ?_, fun secs i hi => ?_⟩
  · have h0 : 0 ≤ (ns : Int) * nsUnits + frac := by
      simp only [nsUnits]
      omega
    have hlt : (ns : Int) * nsUnits + frac < secondUnits := by
      simp only [nsUnits, secondUnits]
      omega
    rw [Int.add_assoc, timeIndex_secs_add secs h0 hlt]
    simp only [nsUnits, secondUnits]
    omega
  · exact timeIndex_in_tick secs hi (Int.le_refl _) (by simp only [tickUnits]; omega)
  · rw [Int.add_sub_assoc]
    exact timeIndex_in_tick secs hi (by simp only [tickUnits]; omega) (Int.sub_one_lt_of_le (Int.le_refl _))

/-! ### Carries -/

/-- A sum of two device times brought to fields: FRACTION carries `(frac + f) / 2^32` into NANOSECONDS first, then `c` seconds' worth of
nanoseconds leave NANOSECONDS for SECONDS. -/
theorem add_fields_eq (secs : Int) {ns frac n f k c : Nat} (hk : k + c * 1000000000 = ns + n + (frac + f) / 4294967296) :
    (secs * secondUnits + ns * nsUnits + frac) + (n * nsUnits + f) =
      (secs + c) * secondUnits + k * nsUnits + ((frac + f) % 4294967296 : Nat) := by
  simp only [secondUnits, nsUnits]
  omega

/-- Settles O55: the sum is brought to fields by `add_fields_eq`, with one second carried or none, and read back. -/
theorem time80Carries : Obligations.Time80Carries := by
  refine ⟨fun t => ⟨timeNanos_lt t, timeNanos_nonneg t, ?_⟩, fun secs ns frac n f hn _ hn' _ => ?_⟩
  · have hlt := timeNanos_lt t
    rw [fieldN_encTime80_nanos]
    omega
  · intro t m
    have hfrac : (frac + f) % 4294967296 < 4294967296 := Nat.mod_lt _ (by decide)
    refine ⟨?_, fun hm => ?_, fun hm => ?_⟩
    · rw [show t = _ from add_fields_eq secs (c := 0) (Nat.add_zero m)]
      exact timeFraction_fields _ hfrac
    · rw [show t = _ from add_fields_eq secs (c := 0) (Nat.add_zero m)]
      exact ⟨(timeSeconds_fields _ hm hfrac).trans (Int.add_zero _), timeNanos_fields _ hm hfrac⟩
    · have hk : m - 1000000000 < 1000000000 := by omega
      rw [show t = _ from add_fields_eq secs (c := 1) (k := m - 1000000000) (by omega)]
      exact ⟨timeSeconds_fields _ hk hfrac, (timeNanos_fields _ hk hfrac).trans (Int.ofNat_sub hm)⟩

end Sys2Proof.Machine
end

section
/-!
SUPPORT. The commands of stamping and the radio: their footprints.
-/

namespace Sys2Proof.Machine

section
variable (s : State)

/-- Between ±4 taps a check verifies captures, beyond them it fails (R92): both after the bias code and the reads. -/
theorem execDllUpdate_frame (k : Fin 170) (error : Int) (code : Fin 4096) : FrameO 743902 s (execDllUpdate k error code s) := by
  have read : Frame 743902 s ((if k.val < 128 then s.setN (Obj.stamperDllCode k) code else s).dllReads k) :=
    .of (State.dllReads_frame _ _) (.ite ((State.setN_frame _ _ _).mono rfl) (.refl _ _)) rfl
  unfold execDllUpdate
  dsimp only
  split
  · exact .next (.refl _ _)
  · split
    · exact .next (.of (State.dllFail_frame _ _) read rfl)
    · exact .next (.of (State.dllPass_frame _ _ _) read rfl)

theorem execCodeDensityRunEnd_frame (k : Fin 170) (hits : List Nat) : FrameO 1006046 s (execCodeDensityRunEnd k hits s) := by
  unfold execCodeDensityRunEnd
  dsimp only
  split
  · exact .next (State.recalEnd_frame _ _ _)
  · exact .ite_next (State.initRun_frame _ _ _)

theorem execMultiblockCrcFail_frame (x : BadBlock) : FrameO 258 s (execMultiblockCrcFail x s) := by
  have counted : Frame 258 s ((s.setGlink x.link { s.glink x.link with bad := (s.glink x.link).bad ++ [(x.lane.val, x.block)] }).inc
      (Obj.linkCrcErrors x.link)) := .of (State.inc_frame _ _) ((State.setGlink_frame _ _ _).mono rfl) rfl
  exact .ite_next (.ite (.of (State.linkEnter_frame _ _ _) counted rfl) counted)

/-- An epoch of the streams and channels, and in RUN the solution and the second of a survey after it. -/
theorem execGladeEpoch_frame (e : GladeEpoch) : FrameO 278 s (execGladeEpoch e s) := by
  have path := State.gladeEpochPath_frame s e
  unfold execGladeEpoch
  split
  · exact .next (.refl _ _)
  · split
    · exact .next (.of (State.surveySecond_frame _ _) (.of (State.solution_frame _ _) path rfl) rfl)
    · exact .next path

theorem execNotchAverageEnd_frame (k : Fin 12) (x y : Unit) : FrameO 258 s (execNotchAverageEnd k x y s) := by
  unfold execNotchAverageEnd
  split
  · exact .next (.of (State.notchAverage_frame _ _ _) ((State.setStrm_frame _ _ _).mono rfl) rfl)
  · exact .next (.refl _ _)

theorem execAcqSearchComplete_frame (c : Fin 256) (predicted : Int) : FrameO 262 s (execAcqSearchComplete c predicted s) := by
  unfold execAcqSearchComplete
  split
  · exact .ite_next (State.searchEnds_frame _ _ _ _)
  · exact .next (.refl _ _)

theorem execAcqConfirmComplete_frame (c : Fin 256) (x : Unit) : FrameO 258 s (execAcqConfirmComplete c x s) := by
  unfold execAcqConfirmComplete
  split
  · exact .ite_next (State.confirmEnds_frame _ _ _ _)
  · exact .next (.refl _ _)

end

/-- Each command of stamping keeps its footprint. -/
theorem stampingCommand_frame (c : Instr) (s : State) (hc : Safety.family c = .stamping) :
    FrameO (partsMask (Safety.footprint c)) s (exec c s) := by
  cases c with
  | dllUpdate => exact FrameO.footprint (execDllUpdate_frame _ _ _ _)
  | codeDensityRunStart => exact FrameO.footprint (.ite_next (State.recalStart_frame _ _))
  | codeDensityRunEnd => exact FrameO.footprint (execCodeDensityRunEnd_frame _ _ _)
  | stamperLockTimeout => exact FrameO.footprint (.ite_next (State.stamperFault_frame _ _))
  | calInitComplete => exact FrameO.footprint (.ite_next (State.calibrated_frame _ _ _))
  | stamperFaultRetry => exact FrameO.footprint (.ite_next (State.stamperRelock_frame _ _))
  | _ => cases hc

/-- Each command of the radio keeps its footprint. -/
theorem radioCommand_frame (c : Instr) (s : State) (hc : Safety.family c = .radio) :
    FrameO (partsMask (Safety.footprint c)) s (exec c s) := by
  cases c with
  | jesdSyncHeaderLock | linkProgressTimeout | linkFaultDetect | linkFaultRestart =>
    exact FrameO.footprint (.ite_next (State.linkEnter_frame _ _ _))
  | jesdEmbLock => exact FrameO.footprint (.ite_next (State.embLocked_frame _ _))
  | linkDataEntry => exact FrameO.footprint (.ite_next (State.linkData_frame _ _ _))
  | multiblockCrcFail => exact FrameO.footprint (execMultiblockCrcFail_frame _ _)
  | gladeLinkStart => exact FrameO.footprint (.ite_next (State.gladeLinks_frame _))
  | gladeEpoch => exact FrameO.footprint (execGladeEpoch_frame _ _)
  | notchAverageEnd => exact FrameO.footprint (execNotchAverageEnd_frame _ _ () ())
  | acqSearchComplete => exact FrameO.footprint (execAcqSearchComplete_frame _ _ _)
  | acqConfirmComplete => exact FrameO.footprint (execAcqConfirmComplete_frame _ _ ())
  | coherentIntegrationEnd => exact FrameO.footprint (.ite_next (State.integrationEnd_frame _ _ _))
  | chPullInTimeout | chLostTimeout => exact FrameO.footprint (.ite_next (State.chanEnter_frame _ _ _))
  | channelPlan => exact FrameO.footprint (.ite_next (State.planChannels_frame _ _))
  | navUnitDecode => exact FrameO.footprint (.ite_next (State.navUnit_frame _ _ _))
  | surveyComplete => exact FrameO.footprint (.ite_next (State.surveyDone_frame _ _))
  | surveyTimeout => exact FrameO.footprint (.ite_next (.of (State.inc_frame _ _) (State.surveyRestart_frame _) rfl))
  | positionCheck => exact FrameO.footprint (k := 256) (.ite_next (.up8 (.refl _ _) rfl))
  | spoofCheck => exact FrameO.footprint (.ite_next (State.spoofSecond_frame _ _))
  | _ => cases hc

/-- Settles O12: the frame of each command lies inside its footprint. -/
theorem stampAndRadioCommandsFrame : Obligations.StampAndRadioCommandsFrame :=
  fun c s t hc ht => (hc.elim (stampingCommand_frame c s) (radioCommand_frame c s) t ht).onlyChanges

end Sys2Proof.Machine
end

section
/-!
SUPPORT. Stamping: ports and stampers read after a write, the stamper states, the calibration runs, the DLL updates and the counted edges, and
what the commands of stamping answer (R87 to R108).
-/

namespace Sys2Proof.Machine

namespace State

/-! ### Ports and stampers read after a write -/

section
variable (s : State)

@[simp] theorem port_setPort_self (p : Nat) (v : StampPort) : (s.setPort p v).port p = v := Sparse.get_put_self _ _ _ _

@[simp] theorem stamper_setPort (p : Nat) (v : StampPort) (k : Nat) : (s.setPort p v).stamper k = s.stamper k := rfl

@[simp] theorem setPort_obj (p : Nat) (v : StampPort) : (s.setPort p v).obj = s.obj := rfl

@[simp] theorem stamper_setStamper_self (k : Nat) (v : Stamper) : (s.setStamper k v).stamper k = v := Sparse.get_put_self _ _ _ _

@[simp] theorem port_setStamper (k : Nat) (v : Stamper) (p : Nat) : (s.setStamper k v).port p = s.port p := rfl

@[simp] theorem setStamper_obj (k : Nat) (v : Stamper) : (s.setStamper k v).obj = s.obj := rfl
end

/-- Ports are read from the component `stamp` alone. -/
theorem port_congr {s t : State} (h : s.stamp = t.stamp) (p : Nat) : s.port p = t.port p := by
  rw [port, port, h]

/-- Stampers are read from the component `stamp` alone. -/
theorem stamper_congr {s t : State} (h : s.stamp = t.stamp) (k : Nat) : s.stamper k = t.stamper k := by
  rw [stamper, stamper, h]

/-- The state code of a stamper is read from its object, or from the stamper where it has none (R95). -/
theorem stState_congr {s t : State} {k : Nat} (ho : s.o (Obj.stamperState k) = t.o (Obj.stamperState k))
    (hv : (s.stamper k).state = (t.stamper k).state) : s.stState k = t.stState k := by
  rw [stState, stState, n, n, ho, hv]

/-! ### Stamper states (R95, R96) -/

section
variable (s : State) (k c : Nat)

@[simp] theorem stamper_setStState :
    (s.setStState k c).stamper k = { s.stamper k with entry := s.age, state := if k < 128 then 0 else c } := by
  unfold setStState
  dsimp only
  split
  · exact stamper_setStamper_self _ _ _
  · exact stamper_setStamper_self _ _ _

@[simp] theorem stState_setStState : (s.setStState k c).stState k = c := by
  unfold stState
  split
  next hk => rw [setStState, if_pos hk, n, o_setN, if_pos rfl, Int.toNat_natCast]
  next hk => rw [stamper_setStState, if_neg hk]

variable {s k c} in
/-- What a stamper that entered a state is in, once what remains is written (R95). -/
theorem stState_of_entered {t : State} (ho : t.obj = (s.setStState k c).obj) (hv : (t.stamper k).state = if k < 128 then 0 else c) :
    t.stState k = c :=
  (stState_congr (o_congr ho _) (by rw [hv, stamper_setStState])).trans (stState_setStState s k c)

@[simp] theorem stamper_markRecal : (s.markRecal k).stamper k =
    { s.stamper k with deferred := (s.stActive k && s.recalDue k) || (s.stamper k).deferred } := by
  unfold markRecal
  split
  next h => rw [stamper_setStamper_self, h, Bool.true_or]
  next h => rw [eq_false_of_ne_true h, Bool.false_or]

@[simp] theorem markRecal_obj : (s.markRecal k).obj = s.obj := by
  unfold markRecal
  split <;> rfl

theorem stState_stamperActive : (s.stamperActive k).stState k = 3 :=
  stState_of_entered (markRecal_obj _ _) (by rw [stamperActive, stamper_markRecal, stamper_setStState])

/-- A stamper that takes up its duty keeps its calibration. -/
theorem stamper_stamperActive : ∃ d, (s.stamperActive k).stamper k =
    { s.stamper k with entry := s.age, state := if k < 128 then 0 else 3, deferred := d } :=
  ⟨_, by rw [stamperActive, stamper_markRecal, stamper_setStState]⟩
end

section
variable (s : State) (k : Nat)

theorem stamper_recalStart : (s.recalStart k).stamper k =
    { s.stamper k with entry := s.age, state := if k < 128 then 0 else 4, deferred := false } := by
  rw [recalStart, stamper_setPort, stamper_setStamper_self, stamper_setStState]

theorem stState_recalStart : (s.recalStart k).stState k = 4 := stState_of_entered (s := s) rfl (by rw [stamper_recalStart])

theorem stamper_stamperRelock : (s.stamperRelock k).stamper k =
    { s.stamper k with entry := s.age, state := if k < 128 then 0 else 1, locked := false, run := 0, hists := [] } := by
  rw [stamperRelock, stamper_setStamper_self, stamper_setStState]

theorem stState_stamperRelock : (s.stamperRelock k).stState k = 1 := stState_of_entered (s := s) rfl (by rw [stamper_stamperRelock])
end

/-! ### Calibration (R93, R94) -/

section
variable (s : State)

@[simp] theorem stamper_measureSkew (p : Nat) (pairs : List ((Nat × Nat) × (Nat × Nat))) (needed k : Nat) :
    (s.measureSkew p pairs needed).stamper k = s.stamper k := by
  unfold measureSkew
  split
  · dsimp only
    split <;> rfl
  · rfl

theorem calibrated_entry (k : Nat) (train : List ((Nat × Nat) × (Nat × Nat))) : ((s.calibrated k train).stamper k).entry = s.age := by
  have entered (p : Nat) (pairs : List ((Nat × Nat) × (Nat × Nat))) (needed : Nat) :
      (((s.measureSkew p pairs needed).stamperActive k).stamper k).entry = s.age := by
    obtain ⟨_, active⟩ := stamper_stamperActive (s.measureSkew p pairs needed) k
    rw [active]
    exact congrArg SysState.warmupTick ((measureSkew_frame s p pairs needed).sys_eq rfl)
  unfold calibrated
  dsimp only
  split
  · exact entered _ _ _
  · exact entered _ _ _

variable (k : Nat) (hists : List (List Nat)) (table : List Nat)

@[simp] theorem stamper_newTable : (s.newTable k hists table).stamper k = { s.stamper k with table := table, hists := hists } := by
  unfold newTable
  dsimp only
  split
  · exact stamper_setStamper_self _ _ _
  · exact stamper_setStamper_self _ _ _

theorem newTable_o {j : Nat} (hj : j ≠ Obj.stamperCalId k) : (s.newTable k hists table).o j = s.o j := by
  unfold newTable
  dsimp only
  split
  · exact o_setO_ne _ _ hj
  · rfl

theorem stState_newTable : (s.newTable k hists table).stState k = s.stState k :=
  stState_congr (newTable_o _ _ _ _ (by simp only [Obj.stamperState, Obj.stamperCalId, ne_eq]; omega)) (by rw [stamper_newTable])

end

/-- A code-density run of a stamper with an object is counted (R93): the first part of `initRun` and `recalEnd`. -/
def runCounted (s : State) (k : Nat) : State := if k < 128 then s.inc (Obj.stamperRecals k) else s

section
variable (s : State) (k : Nat)

theorem runCounted_frame : Frame 2 s (s.runCounted k) := .ite (inc_frame _ _) (.refl _ _)

theorem runCounted_o_ne {j : Nat} (hj : j ≠ Obj.stamperRecals k) : (s.runCounted k).o j = s.o j := by
  unfold runCounted
  split
  · rw [o_inc, if_neg hj]
  · rfl

theorem runCounted_o_stamperRecals (hk : k < 128) : (s.runCounted k).o (Obj.stamperRecals k) = s.o (Obj.stamperRecals k) + 1 := by
  rw [runCounted, if_pos hk, o_inc, if_pos rfl]

@[simp] theorem stamper_runCounted (j : Nat) : (s.runCounted k).stamper j = s.stamper j :=
  stamper_congr ((runCounted_frame s k).stamp_eq rfl) j

theorem stState_runCounted : (s.runCounted k).stState k = s.stState k :=
  stState_congr (runCounted_o_ne _ _ (by simp only [Obj.stamperState, Obj.stamperRecals, ne_eq]; omega)) (by rw [stamper_runCounted])

variable {s k} {hits : List Nat}

/-- A run of CAL_INIT before the store holds 16 (R93). -/
theorem initRun_of_short (h : (s.stamper k).hists.length < 15) : s.initRun k hits =
    ((s.runCounted k).setStamper k { s.stamper k with runs := (s.stamper k).runs + 1 }).setStamper k
      { s.stamper k with runs := (s.stamper k).runs + 1, hists := hits :: (s.stamper k).hists } := by
  have store : (hits :: (s.stamper k).hists).take 16 = hits :: (s.stamper k).hists :=
    List.take_of_length_le (by rw [List.length_cons]; omega)
  unfold initRun
  dsimp only
  rw [← runCounted, stamper_runCounted, store, if_pos (by rw [List.length_cons]; omega), stamper_setStamper_self]

/-- A re-calibration run whose table can be built (R93, R94). -/
theorem recalEnd_of_table {table : List Nat} (hc : s.stState k = 4)
    (ht : buildTable ((hits :: (s.stamper k).hists).take 16) = some table) :
    ∃ pairs, s.recalEnd k hits = (((s.runCounted k).newTable k ((hits :: (s.stamper k).hists).take 16) table).measureSkew
      (k / 2) pairs 1024).stamperActive k := by
  have built : (s.runCounted k).addRun k hits = (s.runCounted k).newTable k ((hits :: (s.stamper k).hists).take 16) table := by
    unfold addRun
    dsimp only
    rw [stamper_runCounted, ht]
  unfold recalEnd
  dsimp only
  rw [← runCounted, built, if_neg (by rw [stState_newTable, stState_runCounted, hc]; decide)]
  exact ⟨_, rfl⟩
end

/-! ### DLL updates (R92, R95, R111) -/

@[simp] theorem fifoDrain_held (v : StampPort) (t : Int) : (fifoDrain v t).held = v.held := by
  unfold fifoDrain
  split
  · rfl
  · dsimp only
    split <;> rfl

/-- The bias code of a stamper with an object is taken (R92): the first part of `execDllUpdate`. -/
def codeTaken (s : State) (k code : Nat) : State := if k < 128 then s.setN (Obj.stamperDllCode k) code else s

section
variable (s : State) (k code : Nat)

theorem codeTaken_frame : Frame 2 s (s.codeTaken k code) := .ite (setN_frame _ _ _) (.refl _ _)

theorem codeTaken_o_ne {j : Nat} (hj : j ≠ Obj.stamperDllCode k) : (s.codeTaken k code).o j = s.o j := by
  unfold codeTaken
  split
  · exact o_setO_ne _ _ hj
  · rfl

theorem codeTaken_n_stamperDllCode (hk : k < 128) : (s.codeTaken k code).n (Obj.stamperDllCode k) = code := by
  rw [codeTaken, if_pos hk, n, o_setN, if_pos rfl, Int.toNat_natCast]

@[simp] theorem stamper_codeTaken (j : Nat) : (s.codeTaken k code).stamper j = s.stamper j :=
  stamper_congr ((codeTaken_frame s k code).stamp_eq rfl) j

@[simp] theorem port_codeTaken (p : Nat) : (s.codeTaken k code).port p = s.port p :=
  port_congr ((codeTaken_frame s k code).stamp_eq rfl) p

theorem stState_codeTaken : (s.codeTaken k code).stState k = s.stState k :=
  stState_congr (codeTaken_o_ne _ _ _ (by simp only [Obj.stamperState, Obj.stamperDllCode, ne_eq]; omega)) (by rw [stamper_codeTaken])

theorem stamper_dllReads : ∃ at_, (s.dllReads k).stamper k = { s.stamper k with dllAt := at_ } := ⟨_, stamper_setStamper_self _ _ _⟩

theorem dllReads_held : ((s.dllReads k).port (k / 2)).held = (s.port (k / 2)).held := by
  rw [dllReads, port_setPort_self, fifoDrain_held]

theorem stState_dllReads : (s.dllReads k).stState k = s.stState k := by
  obtain ⟨_, read⟩ := stamper_dllReads s k
  exact stState_congr rfl (by rw [read])
end

/-- The state in which a DLL update is checked: the code taken and the FIFO read (R92, R111). -/
def dllTaken (s : State) (k code : Nat) : State := (s.codeTaken k code).dllReads k

section
variable (s : State) (k code : Nat)

theorem dllTaken_frame : Frame 130 s (s.dllTaken k code) :=
  .of (dllReads_frame _ _) ((codeTaken_frame _ _ _).mono rfl) rfl

theorem stState_dllTaken : (s.dllTaken k code).stState k = s.stState k := (stState_dllReads _ _).trans (stState_codeTaken _ _ _)

theorem dllTaken_held : ((s.dllTaken k code).port (k / 2)).held = (s.port (k / 2)).held := by
  rw [dllTaken, dllReads_held, port_codeTaken]

theorem stamper_dllTaken : ∃ at_, (s.dllTaken k code).stamper k = { s.stamper k with dllAt := at_ } := by
  obtain ⟨at_, read⟩ := stamper_dllReads (s.codeTaken k code) k
  exact ⟨at_, by rw [dllTaken, read, stamper_codeTaken]⟩
end

section
variable {s : State}

/-- With nothing held on a port nothing is committed (R111). -/
theorem commitHeld_of_held_nil {p : Nat} (h : (s.port p).held = []) : s.commitHeld p false = s.setPort p { s.port p with held := [] } := by
  unfold commitHeld
  simp [h]

/-- A passing check with no capture to verify counts toward the lock alone (R92). -/
theorem dllPass_of_held_nil {k : Nat} {error : Int} (h : (s.port (k / 2)).held = []) :
    (s.dllPass k error).obj = s.obj ∧
    ((s.dllPass k error).stamper k).run = (if error.natAbs ≤ 800 then min 8192 ((s.stamper k).run + 1) else 0) ∧
    ((s.dllPass k error).stamper k).locked = ((s.stamper k).locked || decide (8192 ≤ ((s.dllPass k error).stamper k).run)) := by
  unfold dllPass
  dsimp only
  rw [commitHeld_of_held_nil (by simp [h])]
  simp

theorem dllFail_of_idle {k : Nat} (hc : s.stState k = 1 ∨ s.stState k = 5) :
    s.dllFail k = s.setStamper k { s.stamper k with run := 0, locked := false } :=
  if_neg (by omega)

theorem dllFail_of_stIn {k : Nat} (hc : s.stState k = 2 ∨ s.stState k = 3 ∨ s.stState k = 4) : s.dllFail k = s.stamperFault k :=
  if_pos hc
end

/-! ### Edges (R87, R88) -/

section
variable {s : State} {p : Nat} {t : Int} {a b : Capture}

theorem ppsPortNews_of_fresh_nil (h : (s.port p).fresh = []) : s.ppsPortNews p = s := if_pos (by rw [h]; rfl)

theorem countEdge_stamp (hp : p < 64) : (s.countEdge p).stamp = s.stamp := by
  unfold countEdge
  rw [if_pos hp]
  dsimp only
  split <;> rfl

theorem countEdge_tpEdges (hp : p < 64) : (s.countEdge p).n (Obj.tpEdges p) = (s.n (Obj.tpEdges p) + 1) % 2 ^ 48 := by
  have counted : (s.setN (Obj.tpEdges p) ((s.n (Obj.tpEdges p) + 1) % 2 ^ 48)).n (Obj.tpEdges p) = (s.n (Obj.tpEdges p) + 1) % 2 ^ 48 := by
    rw [n, o_setN, if_pos rfl, Int.toNat_natCast]
  unfold countEdge
  rw [if_pos hp]
  dsimp only
  split
  · exact counted
  · rw [n, o_setF, if_neg (by simp only [Obj.tpEdges, Obj.tpEdgesWrapped]; omega)]
    exact counted

theorem countEdge_o_ne (hp : p < 64) {k : Nat} (hk : k ≠ Obj.tpEdges p) (hw : k ≠ Obj.tpEdgesWrapped p) : (s.countEdge p).o k = s.o k := by
  unfold countEdge
  rw [if_pos hp]
  dsimp only
  split
  · rw [o_setN, if_neg hk]
  · rw [o_setF, if_neg hw, o_setN, if_neg hk]

theorem countEdge_portDivider (hp : p < 64) : (s.countEdge p).portDivider p = s.portDivider p := by
  have kept := countEdge_o_ne (s := s) hp (k := Obj.tpStampDivider p)
    (by simp only [Obj.tpStampDivider, Obj.tpEdges, ne_eq]; omega) (by simp only [Obj.tpStampDivider, Obj.tpEdgesWrapped, ne_eq]; omega)
  rw [portDivider, portDivider, if_pos hp, if_pos hp, n, n, kept]

/-- The test of `edge`: an edge less than 1.25 ns after the last one of the port (R87). -/
def edgeNear (s : State) (p : Nat) (t : Int) : Bool := match (s.port p).lastEdge with
  | some l => decide (t < l + 1310720)
  | none => false

/-- An edge noted as the last of its port and counted: what `edge` does before the selection (R87). -/
def edgeCounted (s : State) (p : Nat) (t : Int) : State := (s.setPort p { s.port p with lastEdge := some t }).countEdge p

theorem edge_eq : s.edge p t a b =
    if s.edgeNear p t && Config.freeNat s.sys.free % 2 == 0 then s.drew
    else
      let s1 := (if s.edgeNear p t then s.drew else s).edgeCounted p t
      let d := max 1 (s1.portDivider p)
      if s1.portEdges p % d = 0 then
        s1.selectedEdge p t a b (s1.portRaw p && (s1.portEdges p / d) % (max 1 (s1.n (Obj.tpRawDivider p))) == 0)
      else s1 := rfl

theorem edgeNear_eq_false (hl : ∀ l, (s.port p).lastEdge = some l → l + 1310720 ≤ t) : s.edgeNear p t = false := by
  unfold edgeNear
  split
  next l h => exact decide_eq_false (Int.not_lt.mpr (hl l h))
  · rfl

theorem edgeCounted_portEdges (hp : p < 64) : (s.edgeCounted p t).portEdges p = (s.n (Obj.tpEdges p) + 1) % 2 ^ 48 := by
  rw [portEdges, if_pos hp]
  exact countEdge_tpEdges hp

theorem edgeCounted_fresh (hp : p < 64) : ((s.edgeCounted p t).port p).fresh = (s.port p).fresh := by
  rw [edgeCounted, port_congr (countEdge_stamp hp), port_setPort_self]

/-- An edge 1.25 ns or more after the last that is not selected is counted and no more (R87, R88). -/
theorem edge_of_unselected (hp : p < 64) (hl : ∀ l, (s.port p).lastEdge = some l → l + 1310720 ≤ t)
    (hd : (s.n (Obj.tpEdges p) + 1) % 2 ^ 48 % max 1 (s.portDivider p) ≠ 0) : s.edge p t a b = s.edgeCounted p t := by
  have divider : (s.edgeCounted p t).portDivider p = s.portDivider p := countEdge_portDivider hp
  simp only [edge_eq, edgeNear_eq_false hl, Bool.false_and, Bool.false_eq_true, if_false, divider, edgeCounted_portEdges hp, if_neg hd]
end

end State

/-! ### The commands of stamping -/

section
variable {s : State}

theorem exec_edgeArrival {p : Fin 84} (time : Nat) (a b : Capture) (hr : s.running = true) (hp : s.portOn p = true) :
    exec (.edgeArrival p time a b) s = .next ((s.edge p time a b).ppsPortNews p) := if_pos (by rw [hr, hp]; rfl)

variable {k : Fin 170}

/-- A DLL update of a stamper in use is judged once its code and the reads are taken. -/
theorem exec_dllUpdate (error : Int) (code : Fin 4096) (hr : s.running = true) (hc : s.stState k ≠ 0) :
    exec (.dllUpdate k error code) s =
      if 3200 < error.natAbs then .next ((s.dllTaken k code).dllFail k) else .next ((s.dllTaken k code).dllPass k error) :=
  if_neg (by simp [hr, hc])

/-- A check within ±4 taps on a port with nothing held (R92). -/
theorem exec_dllUpdate_pass_held_nil (error : Int) (code : Fin 4096) (hr : s.running = true) (hc : s.stState k ≠ 0)
    (he : error.natAbs ≤ 3200) (hh : (s.port (k / 2)).held = []) : ∃ t, exec (.dllUpdate k error code) s = .next t ∧
      (t.stamper k).run = (if error.natAbs ≤ 800 then min 8192 ((s.stamper k).run + 1) else 0) ∧
      (t.stamper k).locked = ((s.stamper k).locked || decide (8192 ≤ (t.stamper k).run)) ∧
      (k.val < 128 → t.n (Obj.stamperDllCode k) = code.val) ∧ (∀ j, j ≠ Obj.stamperDllCode k → t.o j = s.o j) ∧
      t.mem = s.mem ∧ t.sys = s.sys := by
  obtain ⟨_, taken⟩ := s.stamper_dllTaken k code
  obtain ⟨obj_eq, run_eq, locked_eq⟩ := State.dllPass_of_held_nil (error := error) ((s.dllTaken_held k code).trans hh)
  have kept : Frame 130 s ((s.dllTaken k code).dllPass k error) := .of (State.dllPass_frame _ _ _) (s.dllTaken_frame k code) rfl
  refine ⟨_, (exec_dllUpdate error code hr hc).trans (if_neg (Nat.not_lt.mpr he)), ?_, ?_, fun hk => ?_, fun j hj => ?_,
    kept.mem_eq rfl, kept.sys_eq rfl⟩
  · rw [run_eq, taken]
  · rw [locked_eq, taken]
  · exact (congrArg Int.toNat (State.o_congr obj_eq _)).trans (s.codeTaken_n_stamperDllCode k code hk)
  · exact (State.o_congr obj_eq j).trans (s.codeTaken_o_ne k code hj)

/-- A check beyond ±4 taps of a stamper in LOCK or FAULT (R92). -/
theorem exec_dllUpdate_fail_idle {error : Int} (code : Fin 4096) (hr : s.running = true) (hc : s.stState k = 1 ∨ s.stState k = 5)
    (he : 3200 < error.natAbs) : ∃ t, exec (.dllUpdate k error code) s = .next t ∧ (t.stamper k).run = 0 ∧
      (t.stamper k).locked = false ∧ (k.val < 128 → t.n (Obj.stamperDllCode k) = code.val) ∧
      (∀ j, j ≠ Obj.stamperDllCode k → t.o j = s.o j) ∧ t.mem = s.mem ∧ t.sys = s.sys := by
  have idle := State.dllFail_of_idle (s := s.dllTaken k code) (k := k) (by rwa [State.stState_dllTaken])
  have kept := s.dllTaken_frame k code
  refine ⟨_, (exec_dllUpdate error code hr (by omega)).trans ((if_pos he).trans (congrArg _ idle)), ?_, ?_, fun hk => ?_, fun j hj => ?_,
    kept.mem_eq rfl, kept.sys_eq rfl⟩
  · rw [State.stamper_setStamper_self]
  · rw [State.stamper_setStamper_self]
  · exact (congrArg Int.toNat (State.o_congr (State.setStamper_obj _ _ _) _)).trans (s.codeTaken_n_stamperDllCode k code hk)
  · exact (State.o_congr (State.setStamper_obj _ _ _) j).trans (s.codeTaken_o_ne k code hj)

theorem exec_codeDensityRunEnd_of_recal (hits : List Nat) (hr : s.running = true) (hc : s.stState k = 4)
    (he : (s.stamper k).entry + 4 ≤ s.age) : exec (.codeDensityRunEnd k hits) s = .next (s.recalEnd k hits) :=
  if_pos (by simp [hr, hc, he])

theorem exec_codeDensityRunEnd_of_init (hits : List Nat) (hr : s.running = true) (hc : s.stState k = 2) :
    exec (.codeDensityRunEnd k hits) s = .next (s.initRun k hits) :=
  (if_neg (by simp [hc])).trans (if_pos (by simp [hr, hc]))

end

/-- Settles O26. -/
theorem stampCommandsComplete : Obligations.StampCommandsComplete := by
  refine ⟨fun p time a b s => exec_edgeArrival time a b, fun p time a b s hr hp hf hl h64 hd => ?_,
    fun k error code s hr hc he => (exec_dllUpdate error code hr hc).trans (if_neg (Nat.not_lt.mpr he)),
    fun k error code s => exec_dllUpdate_pass_held_nil error code,
    fun k error code s => exec_dllUpdate_fail_idle code, fun k error code s hr hc he => ?_,
    fun k s hr ha hb hd => ?_, fun k hits s => exec_codeDensityRunEnd_of_init hits, fun k hits s hr hc hh => ?_,
    fun k hits s => exec_codeDensityRunEnd_of_recal hits, fun k hits table s hr hc he ht => ?_, fun k s hr hc hl he => ?_,
    fun k train s hr hc h16 he => ?_, fun k s hr hc he hp => ?_, fun p s hr hg => ?_⟩
  · have counted : (s.edge p time a b).ppsPortNews p = s.edgeCounted p time := by
      rw [State.edge_of_unselected h64 hl hd]
      exact State.ppsPortNews_of_fresh_nil (by rw [State.edgeCounted_fresh h64, hf])
    have kept : Frame 130 s (s.edgeCounted p time) := .of (State.countEdge_frame _ _) ((State.setPort_frame _ _ _).mono rfl) rfl
    exact ⟨_, (exec_edgeArrival time a b hr hp).trans (congrArg _ counted), State.countEdge_tpEdges h64,
      fun k => State.countEdge_o_ne h64, kept.mem_eq rfl, kept.sys_eq rfl⟩
  · rw [exec_dllUpdate error code hr (by omega), if_pos he, State.dllFail_of_stIn (by rwa [State.stState_dllTaken])]
    rfl
  · have kept := State.recalStart_frame s k
    refine ⟨if_pos ?_, s.stState_recalStart k, ?_, ?_, ?_, kept.sys_eq rfl, kept.mem_eq rfl⟩
    · simp [hr, ha, hb, hd]
    · rw [State.stamper_recalStart]
    · rw [State.stamper_recalStart]
    · exact congrArg StampPort.pairs (State.port_setPort_self _ _ _)
  · rw [exec_codeDensityRunEnd_of_init hits hr hc, State.initRun_of_short hh]
    have kept := s.runCounted_frame k
    refine ⟨_, rfl, ?_, ?_, s.runCounted_o_stamperRecals k, fun j => s.runCounted_o_ne k, kept.mem_eq rfl, kept.sys_eq rfl⟩
    · rw [State.stamper_setStamper_self]
    · rw [State.stamper_setStamper_self]
  · obtain ⟨pairs, built⟩ := State.recalEnd_of_table hc ht
    refine ⟨_, (exec_codeDensityRunEnd_of_recal hits hr hc he).trans (congrArg _ built), State.stState_stamperActive _ _, ?_⟩
    obtain ⟨_, active⟩ := State.stamper_stamperActive (((s.runCounted k).newTable k ((hits :: (s.stamper k).hists).take 16) table).measureSkew
      (k / 2) pairs 1024) k
    have table_frame : Frame 262274 s ((s.runCounted k).newTable k ((hits :: (s.stamper k).hists).take 16) table) :=
      .of (State.newTable_frame _ _ _ _) ((s.runCounted_frame k).mono rfl) rfl
    have kept := Frame.of (State.stamperActive_frame _ k) (.of (State.measureSkew_frame _ (k / 2) pairs 1024) table_frame rfl) rfl
    rw [active, State.stamper_measureSkew, State.stamper_newTable]
    exact ⟨rfl, rfl, kept.mem_eq rfl, kept.sys_eq rfl⟩
  · exact if_pos (by simp [hr, hc, hl, he])
  · have kept := State.calibrated_frame s k train
    refine ⟨if_pos ?_, State.stState_stamperActive _ _, s.calibrated_entry k train, kept.sys_eq rfl, kept.mem_eq rfl⟩
    simp [hr, hc, h16, he]
  · have kept := State.stamperRelock_frame s k
    refine ⟨if_pos ?_, s.stState_stamperRelock k, ?_, ?_, ?_, ?_, kept.sys_eq rfl, kept.mem_eq rfl⟩
    · simp [hr, hc, he, hp]
    all_goals rw [State.stamper_stamperRelock]
  · exact ⟨if_pos (by rw [hr, hg]; rfl), (State.gateClosed_frame s p).mem_eq rfl⟩

end Sys2Proof.Machine
end

section
/-!
SUPPORT. The SRAM outside Bobbin's bank under every command.
-/

namespace Sys2Proof.Machine

/-! ### Octets outside Bobbin's bank -/

/-- The commands that may write the SRAM outside Bobbin's bank (R145, R364, R369, R372 to R376). -/
def writesOutsideBobbin : Instr → Prop
  | .fillComplete _ | .pwrOkFall | .resetNAssert | .memWriteBack _ _ _ | .w3Maintain _ | .scrubRead _ _ | .faultReport _ | .navUnitDecode _ _ => True
  | .w2Serve _ cycles => cycles ≠ []
  | _ => False

theorem Outside.refl (s : State) : Outside s s := fun _ _ => rfl

theorem Outside.trans {r s t : State} (h : Outside r s) (k : Outside s t) : Outside r t := fun a ha => (k a ha).trans (h a ha)

/-- A frame that leaves out the SRAM keeps every octet of it. -/
theorem Outside.of_frame {m : Nat} {s t : State} (h : Frame m s t) (hm : m.testBit 3 = false) : Outside s t := .of h (.refl s) hm

/-- A change of other components keeps every octet of the SRAM. -/
theorem Outside.of_mem_eq {s t : State} (h : t.mem = s.mem) : Outside s t := fun a _ => by rw [State.readByte, h, State.readByte]

/-- A command whose footprint leaves out the SRAM keeps every octet of it. -/
theorem FrameO.outside {c : Instr} {s : State} (h : FrameO (partsMask (Safety.footprint c)) s (exec c s))
    (hc : Safety.Part.memory ∉ Safety.footprint c) : OutsideO s (exec c s) :=
  fun t ht => .of_frame (h t ht) ((testBit_partsMask _ .memory).trans (decide_eq_false hc))

theorem OutsideO.ite {r : State} {o p : Host.Outcome State Fault Refusal} {c : Prop} {d : Decidable c} (h : OutsideO r o) (k : OutsideO r p) :
    OutsideO r (if c then o else p) := by
  split <;> assumption

/-- A command that leaves the state as it is. -/
theorem OutsideO.idle (s : State) : OutsideO s (.next s) := .next (.refl s)

/-- A command that answers the state as it is, where its condition does not hold. -/
theorem OutsideO.ite_next {s a : State} {c : Prop} {d : Decidable c} (h : Outside s a) : OutsideO s (if c then .next a else .next s) :=
  .ite (.next h) (.idle s)

/-! ### Commands with several branches -/

section
variable (s : State)

theorem execW1Solve_outside (feed : List FeedRecord) : OutsideO s (execW1Solve feed s) :=
  .ite_next (.ite (State.replayW1_bob _ _ (.of_frame (State.begin__frame _ _) rfl)) (State.solve_bob _ (.of_frame (State.begin__frame _ _) rfl)))

/-- With no request of a master in it, the memory cycles of W2 write nothing (R370). -/
theorem State.memCycles_nil_outside : Outside s (s.memCycles []) := by
  rw [State.memCycles_nil]
  exact .of_mem_eq rfl

theorem execW2Serve_nil_outside (feed : List FeedRecord) : OutsideO s (execW2Serve feed [] s) := by
  have woken : Outside s (s.begin_ .w2).banksWake := .of (State.banksWake_frame _) (.of_frame (State.begin__frame _ _) rfl) rfl
  have served : Outside s ((s.begin_ .w2).banksWake.memCycles []) := woken.trans (State.memCycles_nil_outside _)
  exact .ite_next (Outside.ite (State.replayW2_bob _ _ served) served)

theorem execLossOfClock_outside (c : ClockSource) : OutsideO s (execLossOfClock c s) := by
  unfold execLossOfClock
  split
  · split
    · exact .ite (.next (State.pllBypass_bob _ _ (.refl s))) (.next (State.clockLost_bob _ _ (.refl s)))
    · exact .next (State.clockLost_bob _ _ (.refl s))
  · exact .idle s

theorem execDllUpdate_outside (k : Fin 170) (error : Int) (code : Fin 4096) : OutsideO s (execDllUpdate k error code s) := by
  have read : Outside s ((if k.val < 128 then s.setN (Obj.stamperDllCode k) code else s).dllReads k) :=
    .of (State.dllReads_frame _ _) (.ite (.of_frame (State.setN_frame _ _ _) rfl) (.refl s)) rfl
  exact .ite (.idle s) (.ite (.next (State.dllFail_bob _ _ read)) (.next (.of (State.dllPass_frame _ _ _) read rfl)))

theorem execCodeDensityRunEnd_outside (k : Fin 170) (hits : List Nat) : OutsideO s (execCodeDensityRunEnd k hits s) :=
  .ite (.next (State.recalEnd_bob _ _ _ (.refl s))) (.ite_next (State.initRun_bob _ _ _ (.refl s)))

theorem execAplltMissingEdge_outside : OutsideO s (execAplltMissingEdge s) := by
  unfold execAplltMissingEdge
  refine .ite ?_ (.ite_next (State.pllBypass_bob _ _ (.refl s)))
  dsimp only
  split
  · exact .next (.of_mem_eq rfl)
  · exact .next (State.pllBypass_bob _ _ (.refl s))

theorem execAplltInputConnect_outside (plane khz : Nat) : OutsideO s (execAplltInputConnect plane khz s) := by
  unfold execAplltInputConnect
  split
  · exact .ite_next (.of_frame (State.inputConnected_frame _ _ _ _) rfl)
  · exact .idle s

theorem execApllLock_outside (x : PllLock) : OutsideO s (execApllLock x s) := by
  have locked : Outside s ((s.setO (Obj.apllState x.pll) 2).clockBack (.apll x.pll)) :=
    .of (State.clockBack_frame _ _) (.of_frame (State.setO_frame _ _ _) rfl) rfl
  have started {t : State} (h : t.mem = ((s.setO (Obj.apllState x.pll) 2).clockBack (.apll x.pll)).mem) (j k : Nat) :
      Outside s ((t.pllStart j).pllStart k) :=
    .of (State.pllStart_frame _ _) (.of (State.pllStart_frame _ _) (locked.trans (.of_mem_eq h)) rfl) rfl
  unfold execApllLock
  refine .ite (.idle s) (.ite ?_ (.ite_next (.of_mem_eq rfl)))
  dsimp only
  split
  · exact .next (started (by rfl) 4 5)
  · exact .next locked
  · exact .next (started (by rfl) 2 3)
  · exact .next locked

theorem execStepMeasure_outside : OutsideO s (execStepMeasure s) := by
  unfold execStepMeasure
  split
  · refine .ite ?_ (.idle s)
    split
    · exact .ite (.next (.of_mem_eq rfl)) (.next (.of_frame (State.stepLost_frame _) rfl))
    · exact .next (.of_frame (State.stepLost_frame _) rfl)
    · exact .next (.of_mem_eq rfl)
  · exact .idle s

theorem execHoldMaxExpire_outside : OutsideO s (execHoldMaxExpire s) := by
  unfold execHoldMaxExpire
  split
  · exact .ite_next (.of_frame (State.forceUnbounded_frame _) rfl)
  · exact .idle s

theorem execTodMessageSend_outside (p : Fin 64) : OutsideO s (execTodMessageSend p s) := by
  unfold execTodMessageSend
  refine .ite ?_ (.idle s)
  split
  · exact .ite (.idle s) (.next (.of_frame (State.setOut_frame _ _ _) rfl))
  · exact .idle s

theorem execHostBatchClose_outside (completion : Bool) (ring m : Fin 16) : OutsideO s (execHostBatchClose completion ring m s) := by
  unfold execHostBatchClose
  extract_lets key
  split
  · exact .ite_next (.of_frame (State.closeBatch_frame _ _) rfl)
  · exact .idle s

theorem execHostFrameLate_outside (m : Fin 16) (pos : Nat) (now : Int) : OutsideO s (execHostFrameLate m pos now s) := by
  unfold execHostFrameLate
  split
  · exact .ite_next (.of_frame (State.lateDrop_frame _ _ _ _) rfl)
  · exact .idle s

/-- A command of a frame that waits at its place in the queue of a grove. -/
theorem OutsideO.item {g n : Nat} {f : RxFrame → Host.Outcome State Fault Refusal} (h : ∀ x, OutsideO s (f x)) :
    OutsideO s (match s.item g n with | some x => f x | none => .next s) := by
  split
  · exact h _
  · exact .idle s

theorem execPtpGrantCancel_outside (g : Fin 16) (n : Fin 8192) : OutsideO s (execPtpGrantCancel g n s) :=
  .item s fun _ => .ite (.ite (.next (.of_frame (State.signaling_frame _ _ _ _) rfl))
    (.ite (.idle s) (.next (.of_frame (State.unsupported_frame _ _ _ _) rfl)))) (.idle s)

theorem execPtpClientRx_outside (g : Fin 16) (n : Fin 8192) : OutsideO s (execPtpClientRx g n s) := by
  have taken : Outside s (s.itemDone g n) := .of_frame (State.itemDone_frame _ _ _) rfl
  refine .item s fun f => ?_
  dsimp only
  split
  · exact .ite_next (.of (State.clientRx_frame _ _ _) taken rfl)
  · exact .ite_next (.of (State.pdelayRx_frame _ _) taken rfl)

theorem execEsmcPduReceive_outside (g : Fin 16) (n : Fin 8192) : OutsideO s (execEsmcPduReceive g n s) := by
  have taken : Outside s (s.itemDone g n) := .of_frame (State.itemDone_frame _ _ _) rfl
  refine .item s fun f => .ite (.ite (.next ?_) (.next taken)) (.idle s)
  exact .of (State.setMac_frame _ _ _) (.of (State.setN_frame _ _ _) taken rfl) rfl

theorem execClientRequestDue_outside (c : Fin 24) (msg : ClientMsg) : OutsideO s (execClientRequestDue c msg s) := by
  refine .ite (.idle s) ?_
  cases msg with
  | delayReq => exact .ite_next (.of_frame (State.clientDelayReq_frame _ _) rfl)
  | signaling => exact .ite_next (.of_frame (State.clientRequest_frame _ _) rfl)

theorem execNtsMintRequest_outside (m : MintMsg) : OutsideO s (execNtsMintRequest m s) := by
  unfold execNtsMintRequest
  split
  · exact .idle s
  · have taken : Outside s (s.accept m.src).1 := .of_frame (State.accept_frame _ _) rfl
    exact .next (.ite (.of (State.mintJudge_frame _ _) (.of (State.placeRequest_frame _ _ _) taken rfl) rfl) taken)

theorem execKeyWrite_outside (cls : PortClass) (blob : Octets) : OutsideO s (execKeyWrite cls blob s) :=
  .ite (.idle s) (.ite (.idle s) (.ite (.next (.of_frame (State.keyWriteTake_frame _ _) rfl)) (.next (.of_frame (State.inc_frame _ _) rfl))))

theorem execEntropyHealthFail_outside : OutsideO s (execEntropyHealthFail s) :=
  .ite (.idle s) (.next (State.faulted_bob _ _ _ _ (.of_mem_eq rfl)))

theorem execVaultInitComplete_outside (failed : Option (Fin 4)) : OutsideO s (execVaultInitComplete failed s) := by
  refine .ite (.idle s) ?_
  cases failed with
  | some u => exact .next (State.faulted_bob _ _ _ _ (.of_frame (State.zeroise_frame _) rfl))
  | none => exact .ite (.next (.of_frame (State.zeroise_frame _) rfl)) (.next (.of_frame (State.vaultReady_frame _) rfl))

theorem execD2hAck_outside (k : Fin 16) (seq : Fin 65536) : OutsideO s (execD2hAck k seq s) := by
  unfold execD2hAck
  dsimp only
  split
  · exact .ite_next (.of_frame (State.setNotices_frame _ _ _) rfl)
  · exact .idle s

theorem execMemReread_outside (bank : Fin 21) (word : Nat) (still : Bool) : OutsideO s (execMemReread bank word still s) :=
  .ite (.fault _) (.ite_next (.of_mem_eq rfl))

theorem execAesJob_outside (g : Fin 16) (e : Fin 17) (cycle : Nat) (nts parity fail : Bool) :
    OutsideO s (execAesJob g e cycle nts parity fail s) := by
  unfold execAesJob
  refine .ite (.idle s) ?_
  split
  · exact .idle s
  · extract_lets k hitP s1 hitF s2 ctx clear
    have h1 : Outside s s1 := .ite (.of_frame (State.injConsume_frame _) rfl) (.refl s)
    have h2 : Outside s s2 := .ite (.of (State.injConsume_frame _) h1 rfl) h1
    split
    next s3 out1 e3 =>
      have h3 : Outside s s3 := .fst e3 (.iteFst (State.raise_bob _ _ _ _ h2) h2)
      extract_lets s4 s5
      have h4 : Outside s s4 := .ite (State.aesOut_bob _ _ _ h3) h3
      have h5 : Outside s s5 := .ite (State.aesOut_bob _ _ _ (State.faulted_bob _ _ _ _ h4)) h4
      exact .next (.of (State.aesServe_frame _ _ _ _ _) h5 rfl)

theorem execI2cXfer_outside (cls : PortClass) (ctl : Fin 2) (blob : Octets) : OutsideO s (execI2cXfer cls ctl blob s) := by
  refine .ite ?_ (.idle s)
  split
  · exact .next (.of_frame (State.i2cXfer_frame _ _ _) rfl)
  · exact .idle s

theorem execTwinJoinBoundary_outside : OutsideO s (execTwinJoinBoundary s) := by
  unfold execTwinJoinBoundary
  split
  · exact .ite_next (.of_frame (State.joinNow_frame _) rfl)
  · exact .idle s

theorem execTwinBulkReceive_outside (b : Bulk) : OutsideO s (execTwinBulkReceive b s) :=
  .ite (.idle s) (.ite (.ite (.next (.of_frame (State.joinRefuse_frame _ _) rfl)) (.ite (.next (.of_frame (State.joinRefuse_frame _ _) rfl))
    (.next (.of_mem_eq rfl)))) (.ite_next (.of_mem_eq rfl)))

theorem execYethalAlignmentLoss_outside : OutsideO s (execYethalAlignmentLoss s) :=
  .ite (.next (.of_mem_eq rfl)) (.ite_next (.of_frame (State.joinRefuse_frame _ _) rfl))

theorem execColdTake_outside : OutsideO s (execColdTake s) := by
  unfold execColdTake
  dsimp only
  split
  · exact .ite_next (.of_mem_eq rfl)
  · exact .idle s

theorem execInjRequest_outside (cls : PortClass) (blob : Octets) : OutsideO s (execInjRequest cls blob s) :=
  .ite (.idle s) (.ite (.next (.of_frame (State.addDue_frame _ _ _) rfl)) (.next (.of_frame (State.inc_frame _ _) rfl)))

theorem execGroveRampSlot_outside (g : Fin 16) : OutsideO s (execGroveRampSlot g s) :=
  .ite (.ite (.next (.of_mem_eq rfl)) (.next (.of_mem_eq rfl))) (.idle s)

end

/-! ### Every command -/

/-- Every command that does not write the SRAM outside Bobbin's bank leaves every octet there: its frame leaves out the SRAM, or it writes
Bobbin's records alone (R145, R364, R369, R372 to R376). -/
theorem exec_outside (c : Instr) (s : State) (hc : ¬ writesOutsideBobbin c) : OutsideO s (exec c s) := by
  cases c with
  | fillComplete | pwrOkFall | resetNAssert | memWriteBack | w3Maintain | scrubRead | faultReport | navUnitDecode => exact absurd trivial hc
  | w2Serve feed cycles =>
    obtain rfl : cycles = [] := Classical.not_not.mp hc
    exact execW2Serve_nil_outside s feed
  -- reset, BOOT, ticks, windows and clocks
  | resetRelease => exact .ite_next (State.released_bob _ _ _ _ (.refl s))
  | bootThermalRecheck | bootComplete | w0Ingest | shuttleClockEnable | shuttleClockGate | enterReplay | exitReplay | leapEntryWrite
  | leapEntryCancel | leapApply | smearWindowStart | smearWindowEnd | clockReturn =>
    exact FrameO.outside (modeCommand_frame _ s rfl) (by simp [Safety.footprint])
  | tickBoundary => exact .ite_next (State.boundary_bob _ _ _ _ _ (.refl s))
  | w1Solve => exact execW1Solve_outside s _
  | windowOverrun => exact .ite_next (State.overrun_bob _ _ (.refl s))
  | lossOfClock => exact execLossOfClock_outside s _
  -- stamping
  | edgeArrival => exact .ite_next (.of (State.ppsPortNews_frame _ _) (State.edge_bob _ _ _ _ _ (.refl s)) rfl)
  | dllUpdate => exact execDllUpdate_outside s _ _ _
  | codeDensityRunEnd => exact execCodeDensityRunEnd_outside s _ _
  | stamperLockTimeout => exact .ite_next (State.stamperFault_bob _ _ (.refl s))
  | codeDensityRunStart | calInitComplete | stamperFaultRetry => exact FrameO.outside (stampingCommand_frame _ s rfl) (by simp [Safety.footprint])
  | gateEnd => exact .ite_next (.of_frame (State.gateClosed_frame _ _) rfl)
  -- the radio
  | jesdSyncHeaderLock | jesdEmbLock | linkDataEntry | linkProgressTimeout | linkFaultDetect | linkFaultRestart | multiblockCrcFail
  | gladeLinkStart | gladeEpoch | notchAverageEnd | acqSearchComplete | acqConfirmComplete | chPullInTimeout | chLostTimeout | channelPlan
  | surveyComplete | surveyTimeout | positionCheck | spoofCheck => exact FrameO.outside (radioCommand_frame _ s rfl) (by simp [Safety.footprint])
  | coherentIntegrationEnd => exact .ite_next (State.integrationEnd_bob _ _ _ (.refl s))
  -- references, PLLs and outputs
  | refAbsentTimeout => exact .ite_next (.of_frame (State.setRef_frame _ _ _) rfl)
  | classFActivityWindow => exact .ite_next (.of_frame (State.activityEnd_frame _ _) rfl)
  | consistencyCheck => exact .ite_next (.of_frame (State.consistency_frame _) rfl)
  | aplltMissingEdge => exact execAplltMissingEdge_outside s
  | aplltInputConnect => exact execAplltInputConnect_outside s _ _
  | apllLock => exact execApllLock_outside s _
  | apllLossOfLock | apllAcquireTimeout | aplltRelockTimeout => exact .ite_next (State.pllBypass_bob _ _ (.refl s))
  | apllBypassRetry => exact .ite_next (.ite (.of_mem_eq rfl) (.of_mem_eq rfl))
  | stepMeasure => exact execStepMeasure_outside s
  | outputEdge => exact .ite_next (State.driveEdge_bob _ _ _ _ (.refl s))
  | timescaleStep | timescaleStepToRef => exact .ite_next (.of_frame (State.addDue_frame _ _ _) rfl)
  | holdMaxExpire => exact execHoldMaxExpire_outside s
  | todMessageSend => exact execTodMessageSend_outside s _
  | todMessageReceive => exact .ite_next (.of_frame (State.todArrive_frame _ _ _ _) rfl)
  -- the network
  | npLinkSignal | npLinkAligned | npAlignTimeout | npLinkFault | npFaultClear => exact .ite_next (.of_frame (State.setO_frame _ _ _) rfl)
  | npLinkUp => exact .ite_next (.of_frame (State.macEnterUp_frame _ _) rfl)
  | npLinkDown => exact .next (.of_frame (State.macDown_frame _ _) rfl)
  | frameReceive => exact .ite_next (.of_frame (State.frameReceive_frame _ _ _ _ _) rfl)
  | hostBatchClose => exact execHostBatchClose_outside s _ _ _
  | frameLaunch => exact .ite_next (State.frameLaunch_bob _ _ _ _ (.refl s))
  | hostTxDescriptor => exact .next (.of_frame (State.hostTx_frame _ _ _ _) rfl)
  | hostFrameLate => exact execHostFrameLate_outside s _ _ _
  | esmcInfoPdu => exact .ite_next (.of_frame (State.esmcSend_frame _ _ _) rfl)
  | esmcRxExpire => exact .ite_next (.of_mem_eq rfl)
  | heddleSweep => exact .ite_next (.of_frame (State.sweepOne_frame _) rfl)
  -- the time services
  | ntpRequest => exact .item s fun _ => .ite_next (.of_frame (State.ntpRequest_frame _ _ _ _ _) rfl)
  | ntsRequest => exact .item s fun _ => .ite_next (.of_frame (State.ntsRequest_frame _ _ _ _ _) rfl)
  | ptpDelayReq => exact .item s fun _ => .ite_next (.of_frame (State.delayReq_frame _ _ _ _ _) rfl)
  | ptpPdelayReq => exact .item s fun _ => .ite_next (.of_frame (State.pdelayReq_frame _ _ _ _ _) rfl)
  | ptpGrantRequest => exact .item s fun _ => .ite_next (.of_frame (State.signaling_frame _ _ _ _) rfl)
  | ptpGrantCancel => exact execPtpGrantCancel_outside s _ _
  | ptpGrantExpire => exact .ite_next (.of_frame (State.pruneLine_frame _ _ _) rfl)
  | ptpSyncDue => exact .next (.of_frame (State.syncDue_frame _ _ _ _) rfl)
  | ptpFollowUpDue => exact .next (.of_frame (State.followUpDue_frame _ _) rfl)
  | ptpAnnounceDue => exact .next (.of_frame (State.announceDue_frame _ _) rfl)
  | ptpPdelayReqDue => exact .next (.of_frame (State.pdelayReqDue_frame _ _ _) rfl)
  | ptpClientRx => exact execPtpClientRx_outside s _ _
  | clientRequestDue => exact execClientRequestDue_outside s _ _
  | clientGrantRenew => exact .ite_next (.of_frame (State.clientRenew_frame _ _ _) rfl)
  | clientBackoffExpire | clientAnnounceTimeout => exact .ite_next (.of_frame (State.clientEnter_frame _ _ _) rfl)
  | esmcPduReceive => exact execEsmcPduReceive_outside s _ _
  | ntsKeyRotation => exact .ite_next (.of_frame (State.keyRotation_frame _) rfl)
  | ntsRotateNow => exact .ite_next (.of_frame (State.addDue_frame _ _ _) rfl)
  -- the vault
  | vaultInitComplete => exact execVaultInitComplete_outside s _
  | ntsMintRequest => exact execNtsMintRequest_outside s _
  | keyWrite => exact execKeyWrite_outside s _ _
  | keyWriteApply => exact .ite_next (.of_frame (State.keyWritesApply_frame _) rfl)
  | remaskRequest => exact .ite_next (.of_frame (State.addDue_frame _ _ _) rfl)
  | entropyHealthFail => exact execEntropyHealthFail_outside s
  | entropyRestartPass | pkEngineComplete => exact .next (.of_mem_eq rfl)
  | pkSign | pkVerify | pkEcdh | generate | derive | proof | chalIssue | chalRespond | attest =>
    exact .next (.of_frame (State.vaultArrive_frame _ _ _) rfl)
  | pkEngineStart => exact .ite_next (.of_frame (State.startEngine_frame _ _) rfl)
  | tamperEvent => exact .ite_next (State.tamper_bob _ (.refl s))
  | tamperFuseProgrammed => exact .ite_next (.of_mem_eq rfl)
  -- the host
  | dictRead | dictWrite | dictDescribe => exact .next (State.dictArrive_bob _ _ (.refl s))
  | dictBatchApply => exact .ite_next (State.boundaryBatches_bob _ _ (.refl s))
  | mbxUnknownOp => exact .ite (.idle s) (.next (.of_frame (State.unknownOp_frame _ _ _ _) rfl))
  | mgmtRequestReceive => exact .next (.of_frame (State.mgmtReceive_frame _ _) rfl)
  | mgmtCacheExpiry => exact .next (.of_frame (State.expireCache_frame _) rfl)
  | mgmtArpNd | tickLoRead => exact .ite_next (.of_mem_eq rfl)
  | pcieLinkUp => exact .ite_next (.of (State.postHeld_frame _) (.of_frame (State.setN_frame _ _ _) rfl) rfl)
  | pcieLinkDown => exact .ite_next (.of_mem_eq rfl)
  | pcieFlr => exact .ite_next (.of_frame (State.functionReset_frame _ _) rfl)
  | chanReset => exact .ite_next (.of_frame (State.setChan__frame _ _ _) rfl)
  | d2hAck => exact execD2hAck_outside s _ _
  | d2hNoticeDeliver => exact .ite_next (.of_frame (State.deliverNotice_frame _ _) rfl)
  | ringEnable => exact .ite_next (.of_frame (State.ringStart_frame _ _ _ _ _) rfl)
  | ringConsumerWrite => exact .ite_next (.of_frame (State.setRingReg_frame _ _ _ _ _ _) rfl)
  | counterDump => exact .ite_next (.of_frame (State.counterDump_frame _ _) rfl)
  | registerWrite => exact .ite_next (.of_frame (State.registerWrite_frame _ _ _ _) rfl)
  -- groves and memory
  | groveStart => exact .ite_next (.of_frame (State.groveStarting_frame _ _) rfl)
  | engineSelftestComplete => exact .ite_next (State.selftested_bob _ _ _ _ (.refl s))
  | groveRampSlot => exact execGroveRampSlot_outside s _
  | groveRetryExpire => exact .ite_next (.of (State.groveStarting_frame _ _) (.of_frame (State.inc_frame _ _) rfl) rfl)
  | engineFail => exact .next (State.engineFail_bob _ _ _ (.refl s))
  | engineWatchdogExpire => exact .ite_next (State.engineFail_bob _ _ _ (.refl s))
  | takeoverLoadComplete => exact .next (.of_frame (State.takeoverDone_frame _ _) rfl)
  | aesJob => exact execAesJob_outside s _ _ _ _ _ _
  | memReread => exact execMemReread_outside s _ _ _
  | scrubPassLate => exact .ite_next (.of_mem_eq rfl)
  | dirGets | dirGetm => exact .next (.of_frame (State.dirServe_frame _ _ _) rfl)
  | dirPutm => exact .next (.of_frame (State.putLine_frame _ _ _) rfl)
  -- faults
  | aonClockLoss => exact .ite_next (State.aonLost_bob _ (.refl s))
  | eventLogWrite => exact .ite_next (.of (State.formNotices_frame _ _) (.of_frame (State.flushLog_frame _ _ _) rfl) rfl)
  | faultAutoAck => exact .ite_next (.of_frame (State.autoAck_frame _) rfl)
  | faultAck => exact .ite_next (.of_frame (State.ackUpTo_frame _ _) rfl)
  | aliveToggle => exact .ite_next (.of_frame (State.setF_frame _ _ _) rfl)
  | injRequest => exact execInjRequest_outside s _ _
  | injCancel => exact .ite_next (.of_frame (State.addDue_frame _ _ _) rfl)
  -- the twin
  | twinLinkDetect | twinJoinRetry => exact .ite_next (.of_frame (State.twinLink_frame _) rfl)
  | twinJoinTimeout => exact .ite_next (.of_frame (State.joinRefuse_frame _ _) rfl)
  | twinHelloReceive => exact .ite_next (.of_frame (State.helloReceive_frame _ _) rfl)
  | twinBulkReceive => exact execTwinBulkReceive_outside s _
  | twinJoinBoundary => exact execTwinJoinBoundary_outside s
  | twinAgreeReceive => exact .ite_next (State.agreeReceive_bob _ _ (.refl s))
  | twinAgreeDeadline | twinUrgentReceive | twpPulseDrive => exact .ite_next (.of_mem_eq rfl)
  | twinForwardReceive => exact .ite_next (.of_frame (State.forwardReceive_frame _ _ _) rfl)
  | twpEdgeReceive => exact .ite_next (State.twpEdge_bob _ _ _ _ (.refl s))
  | ownSwitchInstant => exact .next (.of_frame (State.switchOwn_frame _ _) rfl)
  | ownInFall => exact .next (.of_frame (State.ownInLow_frame _) rfl)
  | ownContention => exact .ite_next (.of_frame (State.contention_frame _) rfl)
  | coldTake => exact execColdTake_outside s
  | twinHandover | twinLeave | twinRejoin => exact .ite_next (.of_frame (State.addDue_frame _ _ _) rfl)
  | yethalAlignmentLoss => exact execYethalAlignmentLoss_outside s
  | twinStateTransferRequest => exact .ite_next (.of_frame (State.twinSend_frame _ _) rfl)
  -- records, flash, the supply and temperature
  | captureCopy => exact .next (.of_frame (State.captureCopy_frame _ _) rfl)
  | replayLoad => exact .next (.of_frame (State.replayLoad_frame _ _) rfl)
  | flashRead | flashSectorErase | flashBlockErase => exact .next (.of_frame (State.flashAsk_frame _ _ _) rfl)
  | flashProgram => exact .ite_next (.of_frame (State.flashAsk_frame _ _ _) rfl)
  | flashCommandComplete => exact .next (State.flashComplete_bob _ _ (.refl s))
  | journalIntervalExpire => exact .ite_next (.of_frame (State.journalTrigger_frame _) rfl)
  | journalNow => exact .ite_next (.of_frame (State.addDue_frame _ _ _) rfl)
  | journalWriteComplete => exact .next (State.journalDone_bob _ _ (.refl s))
  | avsReadback | pmbusAlert => exact .ite_next (State.avsRead_bob _ _ _ (.refl s))
  | thermalSensorRead => exact .ite_next (State.thermalRead_bob _ _ (.refl s))
  | thermalTrip => exact .next (State.thermalTrip_bob _ _ (.refl s))
  | sentinelMeasure => exact .next (.of_frame (State.sentinelTake_frame _ _) rfl)
  | selvagePlanStart => exact .next (.of_frame (State.planStart_frame _) rfl)
  | selvagePlanComplete => exact .next (.of_frame (State.planComplete_frame _) rfl)
  | ageUpdate => exact .ite_next (.of_frame (State.ageSecond_frame _) rfl)
  -- the side buses
  | dsteerInterval => exact .ite_next (State.steerInterval_bob _ _ (.refl s))
  | i2cXfer => exact execI2cXfer_outside s _ _ _
  | i2cTransactionStart => exact .ite_next (.of_frame (State.i2cStart_frame _ _) rfl)
  | i2cTransactionDone => exact .ite_next (State.i2cDone_bob _ _ _ (.refl s))
  | i2cArbitrationLost => exact .ite_next (.of_frame (State.i2cLost_frame _ _) rfl)
  | i2cBusFree => exact .ite_next (State.i2cBusFree_bob _ _ (.refl s))
  | i2cStretchTimeout => exact .ite_next (State.i2cStretch_bob _ _ _ (.refl s))
  | i2cBusReset => exact .ite_next (.of_frame (State.i2cReset_frame _ _ _) rfl)
  | i2cRecoveryAttempt => exact .ite_next (State.i2cAttempt_bob _ _ _ (.refl s))
  | i2cTargetSetOffset => exact .ite (.idle s) (.next (.of_mem_eq rfl))
  | i2cTargetRead => exact .ite (.idle s) (.next (.of_frame (State.targetRead_frame _ _) rfl))
  | jtagBypass | jtagIdcode | jtagSamplePreload => exact .next (.of_mem_eq rfl)
  | jtagExtest | jtagExtestPulse | jtagExtestTrain => exact .next (.of_frame (State.jtagDrive_frame _ _) rfl)

/-- Settles O10. -/
theorem onlyBobbinWritesMemory : Obligations.OnlyBobbinWritesMemory := by
  intro c s t ht hfill hpwr hreset hwrite hw3 hscrub hreport hnav hserve
  refine exec_outside c s ?_ t ht
  intro hc
  cases c with
  | fillComplete b => exact hfill b rfl
  | pwrOkFall => exact hpwr rfl
  | resetNAssert => exact hreset rfl
  | memWriteBack b w v => exact hwrite b w v rfl
  | w3Maintain x => exact hw3 x rfl
  | scrubRead b x => exact hscrub b x rfl
  | faultReport f => exact hreport f rfl
  | navUnitDecode k u => exact hnav k u rfl
  | w2Serve feed cycles => exact hc (hserve feed cycles rfl)
  | _ => exact hc

end Sys2Proof.Machine
end

section
/-!
SUPPORT. The links of Glade: a link that enters a state, and what the commands of the links, of the epoch and of the notches answer (R119 to R131).
-/

namespace Sys2Proof.Machine

namespace State

/-! ### Links and streams read after a write -/

section
variable (s : State)

@[simp] theorem glink_setGlink_self (a : Nat) (v : GladeLink) : (s.setGlink a v).glink a = v := Sparse.get_put_self _ _ _ _

@[simp] theorem setGlink_obj (a : Nat) (v : GladeLink) : (s.setGlink a v).obj = s.obj := rfl

/-- A count read after it was set. -/
theorem n_setN_self (k v : Nat) : (s.setN k v).n k = v := congrArg Int.toNat (o_setO_self s k v)

/-! ### A link enters a state (R119, R120) -/

/-- A link that starts changes no object. -/
@[simp] theorem linkStarts_obj (a : Nat) : (s.linkStarts a).obj = s.obj := by
  unfold linkStarts
  split <;> rfl

/-- The burst of SYSREF edges of a link that starts leaves the links. -/
theorem glink_linkStarts (a j : Nat) : (s.linkStarts a).glink j = s.glink j := by
  unfold linkStarts
  split <;> rfl
end

section
variable {s : State} {a : Nat} (h : s.n (Obj.linkState a) ≠ 3) (code : Nat)
include h

/-- A link outside DATA enters a state without a loss of its streams and channels (R120, R141). -/
theorem linkEnter_of_not_data : s.linkEnter a code =
    let placed := (s.setGlink a { s.glink a with entry := s.age, bad := [], whole := false }).setN (Obj.linkState a) code
    if code = 4 then placed.inc (Obj.linkRestarts a) else if code = 0 then placed.linkStarts a else placed :=
  if_neg fun hd => h hd.1

/-- The objects of a link that enters a state from outside DATA: its state, and in FAULT the count of its restarts. -/
theorem linkEnter_obj : (s.linkEnter a code).obj =
    (if code = 4 then (s.setN (Obj.linkState a) code).inc (Obj.linkRestarts a) else s.setN (Obj.linkState a) code).obj := by
  rw [linkEnter_of_not_data h]
  dsimp only
  split
  · rfl
  · split
    · exact linkStarts_obj _ _
    · rfl

theorem linkEnter_n_linkState : (s.linkEnter a code).n (Obj.linkState a) = code := by
  refine (congrArg Int.toNat (o_congr (linkEnter_obj h code) _)).trans ?_
  split
  · exact (congrArg Int.toNat (o_setO_ne _ _ (by simp only [Obj.linkState, Obj.linkRestarts, ne_eq]; omega))).trans (n_setN_self _ _ _)
  · exact n_setN_self _ _ _

/-- The time of entry of a link runs from the tick of its entry. -/
theorem linkEnter_entry : ((s.linkEnter a code).glink a).entry = s.age := by
  have placed : ((s.setGlink a { s.glink a with entry := s.age, bad := [], whole := false }).glink a).entry = s.age := by
    rw [glink_setGlink_self]
  rw [linkEnter_of_not_data h]
  dsimp only
  split
  · exact placed
  · split
    · rw [glink_linkStarts]
      exact placed
    · exact placed

/-- But for FAULT, a link that enters a state changes no object but its state. -/
theorem linkEnter_o_ne {code : Nat} (hc : code ≠ 4) {k : Nat} (hk : k ≠ Obj.linkState a) : (s.linkEnter a code).o k = s.o k := by
  rw [o_congr (linkEnter_obj h code), if_neg hc]
  exact o_setO_ne s _ hk

/-- A link that enters FAULT counts a restart (R120). -/
theorem linkEnter_fault_o_linkRestarts : (s.linkEnter a 4).o (Obj.linkRestarts a) = s.o (Obj.linkRestarts a) + 1 := by
  rw [o_congr (linkEnter_obj h 4), if_pos rfl, o_inc, if_pos rfl, o_setN, if_neg (by simp only [Obj.linkState, Obj.linkRestarts]; omega)]

/-- A link that enters FAULT changes no object but its state and the count of its restarts. -/
theorem linkEnter_fault_o_ne {k : Nat} (hk : k ≠ Obj.linkState a) (hr : k ≠ Obj.linkRestarts a) : (s.linkEnter a 4).o k = s.o k := by
  rw [o_congr (linkEnter_obj h 4), if_pos rfl, o_inc, if_neg hr, o_setN, if_neg hk]
end

/-- The time of entry of EMB_LOCK is that of SH_LOCK (R120). -/
theorem embLocked_entry (s : State) (a : Nat) : ((s.embLocked a).glink a).entry = (s.glink a).entry := by
  rw [embLocked, glink_setGlink_self]

/-- The objects of a link in EMB_LOCK are those of its entry. -/
theorem embLocked_obj (s : State) (a : Nat) : (s.embLocked a).obj = (s.linkEnter a 2).obj := setGlink_obj _ _ _

end State

/-! ### The commands of the links, of the epoch and of the notches -/

section
variable {s : State}

/-- A multiblock that fails in DATA is counted; the eighth of an epoch takes the link to FAULT (R120, R122). -/
theorem exec_multiblockCrcFail_of_data {a : Fin 4} (lane : Fin 4) (block : Nat) (hd : s.n (Obj.linkState a) = 3) :
    exec (.multiblockCrcFail ⟨a, lane, block⟩) s =
      let counted := (s.setGlink a { s.glink a with bad := (s.glink a).bad ++ [(lane.val, block)] }).inc (Obj.linkCrcErrors a)
      .next (if 7 ≤ (s.glink a).bad.length then counted.linkEnter a 4 else counted) :=
  if_pos (by simp [hd])

/-- An epoch once a tick (R131): the path of the streams and channels, and in RUN the solution and the second of a survey. -/
theorem exec_gladeEpoch_of_new (e : GladeEpoch) (ha : s.glade.epochAge ≠ some s.age) :
    exec (.gladeEpoch e) s =
      if s.o Obj.gladeState == 3 then .next (((s.gladeEpochPath e).solution e).surveySecond e) else .next (s.gladeEpochPath e) :=
  if_neg ha

/-- An epoch keeps the SRAM, the vault, the ensemble and the groves. -/
theorem exec_gladeEpoch_keeps (e : GladeEpoch) (ha : s.glade.epochAge ≠ some s.age) : ∃ t, exec (.gladeEpoch e) s = .next t ∧
    t.mem = s.mem ∧ t.vault = s.vault ∧ t.canopy = s.canopy ∧ t.shuttle = s.shuttle := by
  have answers : ∃ t, exec (.gladeEpoch e) s = .next t := by
    rw [exec_gladeEpoch_of_new e ha]
    split
    · exact ⟨_, rfl⟩
    · exact ⟨_, rfl⟩
  obtain ⟨t, ht⟩ := answers
  have kept : Frame 278 s t := execGladeEpoch_frame s e t ht
  exact ⟨t, ht, kept.mem_eq rfl, kept.vault_eq rfl, kept.canopy_eq rfl, kept.shuttle_eq rfl⟩

/-- A link in DATA with a fault of its own, or with 8 bad multiblocks of the epoch, goes to FAULT (R120). -/
theorem exec_linkFaultDetect_of_data {a : Fin 4} {why : LinkFault} (hd : s.n (Obj.linkState a) = 3)
    (hw : why = .crc → 8 ≤ (s.glink a).bad.length) : exec (.linkFaultDetect a why) s = .next (s.linkEnter a 4) := by
  cases why with
  | crc => exact if_pos (by simp [hd, hw rfl])
  | syncHeaders | bufferSlip => exact if_pos (by simp [hd])

/-- A completed average of a stream is taken (R126). -/
theorem exec_notchAverageEnd_of_some {k : Fin 12} {power : List Nat} (h : (s.strm k).average = some power) :
    exec (.notchAverageEnd k () ()) s = .next ((s.setStrm k { s.strm k with average := none }).notchAverage k power) := by
  show execNotchAverageEnd k () () s = _
  rw [execNotchAverageEnd, h]

theorem exec_notchAverageEnd_of_none {k : Fin 12} (h : (s.strm k).average = none) : exec (.notchAverageEnd k () ()) s = .next s := by
  show execNotchAverageEnd k () () s = _
  rw [execNotchAverageEnd, h]
end

/-- Settles O27. -/
theorem linkCommandsComplete : Obligations.LinkCommandsComplete := by
  refine ⟨fun a s hg hs hb => ?_, fun a s hg hs => ?_, fun a latency s hg hs => if_pos (by simp [hg, hs]), fun a s hs he => ?_,
    fun a why s hs hw => exec_linkFaultDetect_of_data hs hw, fun a s hs he => ?_, fun a lane block s hs hb => ?_, fun a lane block s hs hb => ?_,
    fun s hs he => if_pos (by simp [hs, he]), fun e s ha hs => ?_, fun e s ha hs => ?_, fun e s ha => if_pos ha,
    fun e s => exec_gladeEpoch_keeps e, fun k s => exec_notchAverageEnd_of_none, fun k power s => exec_notchAverageEnd_of_some⟩
  · have down : s.n (Obj.linkState a) ≠ 3 := by omega
    have kept := State.linkEnter_frame s a 1
    refine ⟨if_pos (by simp [hg, hs, hb]), State.linkEnter_n_linkState down 1, State.linkEnter_entry down 1,
      fun k => State.linkEnter_o_ne down (by decide), kept.mem_eq rfl, kept.sys_eq rfl⟩
  · have locking : s.n (Obj.linkState a) ≠ 3 := by omega
    have kept := State.embLocked_frame s a
    have objects := State.o_congr (State.embLocked_obj s a)
    refine ⟨if_pos (by simp [hg, hs]), ?_, s.embLocked_entry a, fun k hk => ?_, kept.mem_eq rfl, kept.sys_eq rfl⟩
    · exact (congrArg Int.toNat (objects _)).trans (State.linkEnter_n_linkState locking 2)
    · exact (objects k).trans (State.linkEnter_o_ne locking (by decide) hk)
  · have locking : s.n (Obj.linkState a) ≠ 3 := by omega
    refine ⟨if_pos (by simp [hs, he]), State.linkEnter_n_linkState locking 4, State.linkEnter_fault_o_linkRestarts locking,
      fun k => State.linkEnter_fault_o_ne locking, (State.linkEnter_frame s a 4).mem_eq rfl⟩
  · have failed : s.n (Obj.linkState a) ≠ 3 := by omega
    refine ⟨if_pos (by simp [hs, he]), State.linkEnter_n_linkState failed 0, fun k => State.linkEnter_o_ne failed (by decide),
      (State.linkEnter_frame s a 0).mem_eq rfl⟩
  · rw [exec_multiblockCrcFail_of_data lane block hs]
    exact congrArg _ (if_neg (by omega))
  · rw [exec_multiblockCrcFail_of_data lane block hs]
    exact congrArg _ (if_pos hb)
  · exact (exec_gladeEpoch_of_new e ha).trans (if_pos (by simp [hs]))
  · exact (exec_gladeEpoch_of_new e ha).trans (if_neg (by simp [hs]))

end Sys2Proof.Machine
end

section
/-!
SUPPORT. The channels of Glade: a channel that enters a state, and what the commands of search, tracking, planning and the navigation units answer
(R134 to R144).
-/

namespace Sys2Proof.Machine

namespace State

/-! ### Channels read after a write -/

section
variable (s : State) (c : Nat)

@[simp] theorem chan_setChan_self (v : TrackChannel) : (s.setChan c v).chan c = v := Sparse.get_put_self _ _ _ _

@[simp] theorem setChan_obj (v : TrackChannel) : (s.setChan c v).obj = s.obj := rfl

@[simp] theorem chan_setN (k v : Nat) : (s.setN k v).chan c = s.chan c := rfl

@[simp] theorem chan_inc (k : Nat) : (s.inc k).chan c = s.chan c := rfl

/-- The state code of a channel is read from the objects alone (R141). -/
theorem chanState_congr {s t : State} (h : s.obj = t.obj) (c : Nat) : s.chanState c = t.chanState c := congrArg Int.toNat (o_congr h _)

/-- An object of a lower index than the states of the channels is none of them. -/
theorem ne_chState_of_lt {k : Nat} (hk : k < Obj.chState 0) : k ≠ Obj.chState c := by
  simp only [Obj.chState] at hk ⊢
  omega

/-- A count that is not the state of the channel leaves it. -/
theorem chanState_inc {k : Nat} (hk : k ≠ Obj.chState c) : (s.inc k).chanState c = s.chanState c :=
  congrArg Int.toNat (o_setO_ne s _ hk.symm)

/-! ### A channel enters a state (R141) -/

/-- But for LOST, a channel that enters a state is written with the tick of its entry, and its state code is set. -/
theorem exists_chanEnter_eq {code : Nat} (hc : code ≠ 6) :
    ∃ v : TrackChannel, v.entry = s.age ∧ s.chanEnter c code = (s.setChan c v).setN (Obj.chState c) code := by
  unfold chanEnter
  extract_lets v st fresh begun held kept s1
  have hbegun : begun.entry = s.age := by
    unfold begun
    split <;> rfl
  have hheld : held.entry = s.age := by
    unfold held
    split <;> exact hbegun
  have hkept : kept.entry = s.age := by
    unfold kept
    split <;> exact hheld
  exact ⟨kept, hkept, if_neg hc⟩

theorem chanEnter_obj {code : Nat} (hc : code ≠ 6) : (s.chanEnter c code).obj = (s.setN (Obj.chState c) code).obj := by
  obtain ⟨v, -, entered⟩ := s.exists_chanEnter_eq c hc
  rw [entered]
  rfl

theorem chanState_chanEnter {code : Nat} (hc : code ≠ 6) : (s.chanEnter c code).chanState c = code :=
  (chanState_congr (chanEnter_obj s c hc) c).trans (n_setN_self _ _ _)

theorem chanEnter_o_ne {code : Nat} (hc : code ≠ 6) {k : Nat} (hk : k ≠ Obj.chState c) : (s.chanEnter c code).o k = s.o k :=
  (o_congr (chanEnter_obj s c hc) k).trans (o_setO_ne s _ hk)

/-- The time of entry of a channel runs from the tick of its entry. -/
theorem chanEnter_entry {code : Nat} (hc : code ≠ 6) : ((s.chanEnter c code).chan c).entry = s.age := by
  obtain ⟨v, hv, entered⟩ := s.exists_chanEnter_eq c hc
  rw [entered, chan_setN, chan_setChan_self, hv]

/-- A channel that enters a state, but for LOST, leaves the pairs that are not to be searched. -/
theorem chanEnter_banned {code : Nat} (hc : code ≠ 6) : (s.chanEnter c code).glade.banned = s.glade.banned := by
  obtain ⟨v, -, entered⟩ := s.exists_chanEnter_eq c hc
  rw [entered]
  rfl

end

/-! ### Searches of a channel in SEARCH (R135, R141) -/

/-- The pair of a channel is not to be searched for 60 s (R141). -/
def pairBanned (s : State) (c : Nat) : State :=
  { s with glade := { s.glade with banned := s.glade.banned ++ [((s.chan c).asg.1, (s.chan c).asg.2.1, (s.chan c).asg.2.2, s.age + 60 * 8192)] } }

section
variable {s : State} {c : Nat} {x : Snapshot} {predicted : Int}

/-- A search that a cell wins notes it for confirmation. -/
theorem searchDone_of_win {cell : Int × Nat} (h : s.searchWins c x predicted = some cell) :
    s.searchDone c x predicted = s.setChan c { s.chan c with confirming := some cell } := by
  rw [searchDone, h]

/-- One of the first two windows without a cell is counted. -/
theorem searchDone_of_window (h : s.searchWins c x predicted = none) (hw : (s.chan c).windows < 2) :
    s.searchDone c x predicted = s.setChan c { s.chan c with windows := (s.chan c).windows + 1 } := by
  rw [searchDone, h]
  exact if_neg (by omega)

/-- The third window without a cell: the pair is banned, and the channel goes to IDLE, where a pinned one keeps its assignment (R141, R143). -/
theorem searchDone_of_third (h : s.searchWins c x predicted = none) (hw : 2 ≤ (s.chan c).windows) : s.searchDone c x predicted =
    let idle := (s.pairBanned c).chanEnter c 0
    if s.chanPinned c then idle.setChan c { idle.chan c with windows := 0 }
    else (idle.setChan c { idle.chan c with windows := 0, asg := (0, 0, 0) }).setBlob (Obj.chAssign c) (zeros 4) := by
  rw [searchDone, h]
  exact if_pos (by omega)

/-- After the third window the channel is IDLE with no window searched, and its pair is banned. -/
theorem searchDone_of_third_keeps (h : s.searchWins c x predicted = none) (hw : 2 ≤ (s.chan c).windows) :
    (s.searchDone c x predicted).obj = (s.setN (Obj.chState c) 0).obj ∧ ((s.searchDone c x predicted).chan c).windows = 0 ∧
      (s.searchDone c x predicted).glade.banned = (s.pairBanned c).glade.banned := by
  have objects : ((s.pairBanned c).chanEnter c 0).obj = (s.setN (Obj.chState c) 0).obj := chanEnter_obj (s.pairBanned c) c (by decide)
  have banned : ((s.pairBanned c).chanEnter c 0).glade.banned = (s.pairBanned c).glade.banned := chanEnter_banned _ c (by decide)
  rw [searchDone_of_third h hw]
  extract_lets idle
  split
  · exact ⟨objects, congrArg TrackChannel.windows (chan_setChan_self idle c _), banned⟩
  · exact ⟨objects, congrArg TrackChannel.windows (chan_setChan_self idle c _), banned⟩
end

/-! ### Detections (R135) -/

section
variable (s : State) (c : Nat) (x : Snapshot) (hz : Int) (tau : Nat)

/-- A detection changes no object but the state of its channel. -/
theorem detected_obj : (s.detected c x hz tau).obj = (s.setN (Obj.chState c) 2).obj := chanEnter_obj _ c (by decide)

theorem chanState_detected : (s.detected c x hz tau).chanState c = 2 := chanState_chanEnter _ c (by decide)

theorem detected_entry : ((s.detected c x hz tau).chan c).entry = s.age := chanEnter_entry _ c (by decide)

/-- A channel searched in a snapshot notes its epoch. -/
@[simp] theorem chan_searchedIn : (s.searchedIn c x).chan c = { s.chan c with searched := some x.epoch } := chan_setChan_self _ _ _
end

end State

/-! ### The commands of search and tracking -/

section
variable {s : State} {c : Fin 256} {x : Snapshot}

theorem exec_acqSearchComplete_of_run (predicted : Int) (hg : s.o Obj.gladeState = 3) (hx : s.chanSnap c = some x) :
    exec (.acqSearchComplete c predicted) s = .next (s.searchEnds c x predicted) := by
  show execAcqSearchComplete c predicted s = _
  rw [execAcqSearchComplete, hx]
  exact if_pos (by simp [hg])

/-- A search of a channel in SEARCH with no cell to confirm is counted and done. -/
theorem exec_acqSearchComplete_of_search (predicted : Int) (hg : s.o Obj.gladeState = 3) (hx : s.chanSnap c = some x) (hs : s.chanState c = 1)
    (hc : (s.chan c).confirming = none) :
    exec (.acqSearchComplete c predicted) s = .next (((s.inc Obj.acqSearches).searchedIn c x).searchDone c x predicted) := by
  refine (exec_acqSearchComplete_of_run predicted hg hx).trans (congrArg _ ?_)
  exact (if_pos hs).trans (if_neg (by simp [hc]))

/-- A winning cell of a LOST channel, before its 10 s are over, is a detection (R141). -/
theorem exec_acqSearchComplete_of_lost {predicted : Int} {cell : Int × Nat} (hg : s.o Obj.gladeState = 3) (hx : s.chanSnap c = some x)
    (hs : s.chanState c = 6) (hw : ((s.inc Obj.acqSearches).searchedIn c x).searchWins c x predicted = some cell)
    (he : s.age < (s.chan c).entry + 81920) :
    exec (.acqSearchComplete c predicted) s = .next (((s.inc Obj.acqSearches).searchedIn c x).detected c x cell.1 cell.2) := by
  have entry : (((s.inc Obj.acqSearches).searchedIn c x).chan c).entry = (s.chan c).entry := by rw [State.chan_searchedIn, State.chan_inc]
  refine (exec_acqSearchComplete_of_run predicted hg hx).trans (congrArg _ ?_)
  refine (if_neg (by omega)).trans ((if_pos hs).trans ?_)
  rw [hw]
  exact if_pos (entry.symm ▸ he)

theorem exec_acqConfirmComplete_of_search {cell : Int × Nat} (hg : s.o Obj.gladeState = 3) (hx : s.chanSnap c = some x) (hs : s.chanState c = 1)
    (hc : (s.chan c).confirming = some cell) : exec (.acqConfirmComplete c ()) s = .next (s.confirmEnds c x cell) := by
  show execAcqConfirmComplete c () s = _
  rw [execAcqConfirmComplete, hx, hc]
  exact if_pos (by simp [hg, hs])

/-- A cell that confirms counts a detection (R135). -/
theorem exec_acqConfirmComplete_of_confirms {cell : Int × Nat} (hg : s.o Obj.gladeState = 3) (hx : s.chanSnap c = some x) (hs : s.chanState c = 1)
    (hc : (s.chan c).confirming = some cell) (hw : s.confirms c x cell.1 cell.2 = true) :
    exec (.acqConfirmComplete c ()) s = .next (((s.searchedIn c x).inc Obj.acqDetections).detected c x cell.1 cell.2) :=
  (exec_acqConfirmComplete_of_search hg hx hs hc).trans (congrArg _ (if_pos hw))

/-- A cell that does not confirm is a false alarm (R135). -/
theorem exec_acqConfirmComplete_of_false_alarm {cell : Int × Nat} (hg : s.o Obj.gladeState = 3) (hx : s.chanSnap c = some x)
    (hs : s.chanState c = 1) (hc : (s.chan c).confirming = some cell) (hw : s.confirms c x cell.1 cell.2 = false) :
    exec (.acqConfirmComplete c ()) s =
      .next (((s.searchedIn c x).setChan c { (s.searchedIn c x).chan c with confirming := none }).inc Obj.acqFalseAlarms) :=
  (exec_acqConfirmComplete_of_search hg hx hs hc).trans (congrArg _ (if_neg (by simp [hw])))

/-- A unit of a signal but 1 that fails its check is counted, and the channel has no last unit (R144). -/
theorem State.navUnit_of_failed {u : NavUnit} (h1 : s.chanSignal c ≠ 1)
    (hu : unitOk (s.chanSignal c) ((s.chan c).lnavPrev.getD (false, false)) (unitBits (s.chanSignal c) u.symbols).1 = false) :
    s.navUnit c u = (s.setChan c { s.chan c with lnavPrev := none }).inc (Obj.navCheckFail (s.chanSignal c)) :=
  (if_neg fun e => h1 e.1).trans (if_pos (by simp [hu]))

/-- A channel that enters SEARCH keeps every object but its state, the SRAM and the clocks. -/
theorem State.chanEnter_search_keeps (s : State) (c : Nat) : (s.chanEnter c 1).chanState c = 1 ∧ ((s.chanEnter c 1).chan c).entry = s.age ∧
    (∀ k, k ≠ Obj.chState c → (s.chanEnter c 1).o k = s.o k) ∧ (s.chanEnter c 1).mem = s.mem ∧ (s.chanEnter c 1).sys = s.sys :=
  have kept := State.chanEnter_frame s c 1
  ⟨s.chanState_chanEnter c (by decide), s.chanEnter_entry c (by decide), fun _ => s.chanEnter_o_ne c (by decide), kept.mem_eq rfl,
    kept.sys_eq rfl⟩
end

/-- Settles O28. -/
theorem channelCommandsComplete : Obligations.ChannelCommandsComplete := by
  refine ⟨fun c d x s => exec_acqSearchComplete_of_search d, fun c d x cell s hg hx hs hc hw => ?_, fun c d x s hg hx hs hc hw h2 => ?_,
    fun c d x s hg hx hs hc hw h2 => ?_, fun c d x cell s => exec_acqSearchComplete_of_lost, fun c x cell s => exec_acqConfirmComplete_of_confirms,
    fun c x cell s hg hx hs hc hw => ?_, fun c x cell s hg hx hs hc hw => ?_, fun c x s hg h2 h5 => if_pos (by simp [hg, h2, h5]),
    fun c s hs he => ⟨if_pos (by simp [hs, he]), s.chanEnter_search_keeps c⟩,
    fun c s hs he => ⟨if_pos (by simp [hs, he]), s.chanEnter_search_keeps c⟩,
    fun vis s hg hp hi => if_pos (by simp [hg, hp, hi]), fun c u s hg h3 h5 hn => if_pos (by simp [hg, h3, h5, hn]),
    fun c u s hg h3 h5 hn h1 hu => ?_⟩
  · refine ⟨_, (exec_acqSearchComplete_of_search d hg hx hs hc).trans (congrArg _ (State.searchDone_of_win hw)), ?_, ?_, ?_, fun k hk => ?_, rfl⟩
    · exact State.o_setO_self _ _ _
    · rw [State.chan_setChan_self]
    · rw [State.chan_setChan_self, State.chan_searchedIn]
    · exact State.o_setO_ne _ _ hk
  · have h2' : (((s.inc Obj.acqSearches).searchedIn c x).chan c).windows < 2 := by rwa [State.chan_searchedIn, State.chan_inc]
    refine ⟨_, (exec_acqSearchComplete_of_search d hg hx hs hc).trans (congrArg _ (State.searchDone_of_window hw h2')), ?_, ?_, ?_, rfl, rfl⟩
    · exact (s.chanState_inc c (State.ne_chState_of_lt c (by decide))).trans hs
    · rw [State.chan_setChan_self, State.chan_searchedIn, State.chan_inc]
    · exact State.o_setO_self _ _ _
  · have h2' : 2 ≤ (((s.inc Obj.acqSearches).searchedIn c x).chan c).windows := by rwa [State.chan_searchedIn, State.chan_inc]
    obtain ⟨objects, windows, banned⟩ := State.searchDone_of_third_keeps hw h2'
    have kept := State.searchDone_frame ((s.inc Obj.acqSearches).searchedIn c x) c x d
    refine ⟨_, exec_acqSearchComplete_of_search d hg hx hs hc, ?_, windows, ?_, kept.mem_eq rfl, ?_⟩
    · exact (State.chanState_congr objects c).trans (State.n_setN_self _ _ _)
    · exact (State.o_congr objects _).trans ((State.o_setO_ne _ _ (State.ne_chState_of_lt c (by decide))).trans (State.o_setO_self _ _ _))
    · rw [banned, State.pairBanned, State.chan_searchedIn]
      rfl
  · have kept := State.detected_frame ((s.searchedIn c x).inc Obj.acqDetections) c x cell.1 cell.2
    refine ⟨_, exec_acqConfirmComplete_of_confirms hg hx hs hc hw, State.chanState_detected _ _ _ _ _, ?_, State.detected_entry _ _ _ _ _,
      kept.mem_eq rfl⟩
    refine (State.o_congr (State.detected_obj _ _ _ _ _) _).trans ((State.o_setO_ne _ _ ?_).trans (State.o_setO_self _ _ _))
    exact State.ne_chState_of_lt c (by decide)
  · refine ⟨_, exec_acqConfirmComplete_of_false_alarm hg hx hs hc hw, ?_, ?_, State.o_setO_self _ _ _, fun k hk => State.o_setO_ne _ _ hk, rfl⟩
    · exact (State.chanState_inc _ c (State.ne_chState_of_lt c (by decide))).trans hs
    · rw [State.chan_inc, State.chan_setChan_self]
  · exact (if_pos (by simp [hg, h3, h5, hn])).trans (congrArg _ (State.navUnit_of_failed h1 hu))

end Sys2Proof.Machine
end

section
/-!
SUPPORT. The timing solution of Glade: what the survey, the position check and the spoofing check answer (R149, R158 to R160, R162).
-/

namespace Sys2Proof.Machine

namespace State

/-! ### The survey (R149, R163) -/

section
variable (s : State)

/-- A new calibration record changes no object but its count. -/
theorem o_solCalChange_ne {k : Nat} (hk : k ≠ Obj.solCalId) : s.solCalChange.o k = s.o k := o_setO_ne s _ hk

/-- The last objects that a completed survey writes are POS_MODE, SOL_STATE and SOL_CAL_ID. -/
theorem exists_surveyDone_obj (r : SurveyResult) :
    ∃ written : State, (s.surveyDone r).obj = ((written.setO Obj.posMode 0).setO Obj.solState 2).solCalChange.obj := ⟨_, rfl⟩

/-- A completed survey leaves the solution in NO_TIME. -/
theorem surveyDone_o_solState (r : SurveyResult) : (s.surveyDone r).o Obj.solState = 2 := by
  obtain ⟨written, objects⟩ := s.exists_surveyDone_obj r
  rw [o_congr objects, o_solCalChange_ne _ (by decide), o_setO_self]

/-- After a completed survey the positions are fixed: POS_MODE is 0. -/
theorem surveyDone_o_posMode (r : SurveyResult) : (s.surveyDone r).o Obj.posMode = 0 := by
  obtain ⟨written, objects⟩ := s.exists_surveyDone_obj r
  rw [o_congr objects, o_solCalChange_ne _ (by decide), o_setO_ne _ _ (by decide), o_setO_self]

/-- A survey that starts over changes no object but its elapsed time. -/
theorem surveyRestart_obj : s.surveyRestart.obj = (s.setO Obj.surveyElapsedS 0).obj := rfl

/-- A survey that fails starts over and is counted, and changes no other object. -/
theorem o_failedSurvey (k : Nat) : (s.surveyRestart.inc Obj.surveyFails).o k =
    if k = Obj.surveyFails then s.o Obj.surveyFails + 1 else if k = Obj.surveyElapsedS then 0 else s.o k := by
  rw [o_inc, o_congr s.surveyRestart_obj, o_congr s.surveyRestart_obj, o_setO_ne s _ (by decide), o_setO]
end

/-! ### The spoofing check (R159, R160) -/

/-- The state in which a second of the check is judged: a second without a check breaks the runs, and the epoch is noted (R160). -/
def spoofJoined (s : State) : State :=
  let joined := if s.glade.spoofAt.map (· + 1000) = some (s.n Obj.gladeEpochCount) then s else s.spoofBreak
  { joined with glade := { joined.glade with spoofAt := some (s.n Obj.gladeEpochCount) } }

section
variable {s : State} {l : List SpoofSat}

theorem spoofJoined_obj : s.spoofJoined.obj = s.obj := by
  unfold spoofJoined
  extract_lets joined
  show joined.obj = s.obj
  unfold joined
  split <;> rfl

/-- The terms of a second depend neither on the runs of the check nor on the epoch of the last one. -/
theorem spoofTerms_spoofJoined : s.spoofJoined.spoofTerms l = s.spoofTerms l := by
  unfold spoofJoined
  split <;> rfl

/-- A second with too few terms is counted, has no metric and breaks the runs of raise and clear (R159, R160). -/
theorem spoofSecond_of_few (hl : (([1, 2, 3].map (s.spoofTerms l)).flatten).length < s.n Obj.spoofMinTerms) : s.spoofSecond l =
    let counted := (s.spoofJoined.inc Obj.spoofUnavailSeconds).setO Obj.spoofMetric (-2147483648)
    { counted with glade := { counted.glade with raiseRun := 0, clearRun := 0, unavailRun := counted.glade.unavailRun + 1 } } := by
  have few : (([1, 2, 3].map (s.spoofJoined.spoofTerms l)).flatten).length < s.spoofJoined.n Obj.spoofMinTerms := by
    rwa [spoofTerms_spoofJoined, n, o_congr spoofJoined_obj]
  exact if_pos few

/-- A second with too few terms changes no object but SPOOF_UNAVAIL_SECONDS and SPOOF_METRIC. -/
theorem spoofSecond_o_of_few (hl : (([1, 2, 3].map (s.spoofTerms l)).flatten).length < s.n Obj.spoofMinTerms) (k : Nat) :
    (s.spoofSecond l).o k = if k = Obj.spoofMetric then -2147483648 else
      if k = Obj.spoofUnavailSeconds then s.o Obj.spoofUnavailSeconds + 1 else s.o k := by
  rw [spoofSecond_of_few hl]
  refine (o_setO (s.spoofJoined.inc Obj.spoofUnavailSeconds) Obj.spoofMetric k (-2147483648)).trans ?_
  rw [o_inc, o_congr spoofJoined_obj, o_congr spoofJoined_obj]
end

end State

/-! ### The commands of the solution -/

section
variable {s : State}

/-- A survey after its time completes with an estimate within the limits (R149). -/
theorem exec_surveyComplete_of_met (hs : s.o Obj.solState = 1) (ht : s.n Obj.surveyMinS ≤ s.n Obj.surveyElapsedS)
    (hm : s.surveyMet s.surveyResult = true) : exec (.surveyComplete ()) s = .next (s.surveyDone s.surveyResult) :=
  if_pos (by simp [hs, ht, hm])

/-- A survey before its time, or with an estimate outside the limits, goes on. -/
theorem exec_surveyComplete_of_not_met (h : s.n Obj.surveyElapsedS < s.n Obj.surveyMinS ∨ s.surveyMet s.surveyResult = false) :
    exec (.surveyComplete ()) s = .next s := by
  refine if_neg fun complete => ?_
  obtain ⟨timely, met⟩ := Bool.and_eq_true_iff.mp complete
  obtain early | outside := h
  · exact absurd (of_decide_eq_true (Bool.and_eq_true_iff.mp timely).2) (Nat.not_le.mpr early)
  · exact Bool.false_ne_true (outside.symm.trans met)

/-- 1,000,000 epochs after the last check, the sums are judged and start anew (R158). -/
theorem exec_positionCheck_of_due (hs : s.o Obj.solState = 3 ∨ s.o Obj.solState = 4)
    (hd : s.glade.posSince + 1000000 ≤ s.n Obj.gladeEpochCount) :
    exec (.positionCheck (s.n Obj.gladeEpochCount)) s = .next { s with glade := { s.glade with
      suspect := s.glade.suspect || s.glade.posSums.any fun p => State.posMoved (s.n Obj.posTolMm : Nat) p.2
      posSums := [], posSince := s.n Obj.gladeEpochCount } } :=
  if_pos (by simp [hs, hd])

/-- Once at an epoch of RUN that ends a second, the spoofing check is made (R159). -/
theorem exec_spoofCheck_of_due (l : List SpoofSat) (hg : s.o Obj.gladeState = 3) (hm : s.o Obj.spoofMode ≠ 0)
    (hc : s.n Obj.gladeEpochCount % 1000 = 0) (ha : s.glade.spoofAt ≠ some (s.n Obj.gladeEpochCount)) :
    exec (.spoofCheck l) s = .next (s.spoofSecond l) :=
  if_pos (by simp [hg, hm, hc, ha])
end

/-- Settles O29. -/
theorem solutionCommandsComplete : Obligations.SolutionCommandsComplete := by
  refine ⟨fun s hs ht hm => ?_, fun s _ => exec_surveyComplete_of_not_met, fun s hs ht => ?_, fun s hs hd hb => ?_, fun s hs hd hb => ?_,
    fun l s => exec_spoofCheck_of_due l, fun l s hg hm hc ha hl => ?_⟩
  · have kept := State.surveyDone_frame s s.surveyResult
    exact ⟨_, exec_surveyComplete_of_met hs ht hm, rfl, s.surveyDone_o_solState _, s.surveyDone_o_posMode _, rfl, rfl, kept.mem_eq rfl,
      kept.sys_eq rfl⟩
  · refine ⟨_, if_pos (by simp [hs, ht]), ?_, ?_, rfl, fun k he hf => ?_, rfl, rfl⟩
    · rw [s.o_failedSurvey, if_neg (by decide), if_pos rfl]
    · rw [s.o_failedSurvey, if_pos rfl]
    · rw [s.o_failedSurvey, if_neg hf, if_neg he]
  · rw [exec_positionCheck_of_due hs hd, hb, Bool.or_true]
  · rw [exec_positionCheck_of_due hs hd, hb, Bool.or_false]
  · have objects := State.spoofSecond_o_of_few hl
    refine ⟨_, exec_spoofCheck_of_due l hg hm hc ha, ?_, ?_, (State.spoofSecond_frame s l).mem_eq rfl⟩
    · rw [objects, if_neg (by decide), if_pos rfl]
    · rw [objects, if_pos rfl]

end Sys2Proof.Machine
end

section
/-!
SUPPORT. The commands of references, PLLs and outputs: their footprints.
-/

namespace Sys2Proof.Machine

/-- A frame carried on by an update of the system and the references. -/
theorem Frame.upSysSynth {m : Nat} {r s : State} {x : SysState} {y : SynthState} (h : Frame m r s) (hx : m.testBit 4 = true)
    (hy : m.testBit 9 = true) : Frame m r { s with sys := x, synth := y } :=
  have first : Frame m r { s with sys := x } := .up4 h hx
  .up9 first hy

/-- A frame carried on by an update of the references and the ensemble. -/
theorem Frame.upSynthCanopy {m : Nat} {r s : State} {x : SynthState} {y : CanopyState} (h : Frame m r s) (hx : m.testBit 9 = true)
    (hy : m.testBit 10 = true) : Frame m r { s with synth := x, canopy := y } :=
  have first : Frame m r { s with synth := x } := .up9 h hx
  .up10 first hy

section
variable (s : State)

theorem execEdgeArrival_frame (port : Fin 84) (time : Nat) (a b : Capture) : FrameO 744414 s (execEdgeArrival port time a b s) :=
  .ite_next (.of (State.ppsPortNews_frame _ _) ((State.edge_frame _ _ _ _ _).mono rfl) rfl)

/-- A missing edge holds for the next candidate; without one, or during a switch, it ends in BYPASS (R179). -/
theorem execAplltMissingEdge_frame : FrameO 744414 s (execAplltMissingEdge s) := by
  have bypassed : Frame 744414 s (s.pllBypass 0) := s.pllBypass_frame 0
  unfold execAplltMissingEdge
  split
  · dsimp only
    split
    · exact .next (.up9 ((State.setO_frame _ _ _).mono rfl) rfl)
    · exact .next bypassed
  · exact .ite_next bypassed

theorem execAplltInputConnect_frame (plane khz : Nat) : FrameO 1558 s (execAplltInputConnect plane khz s) := by
  unfold execAplltInputConnect
  split
  · exact .ite_next (State.inputConnected_frame _ _ _ _)
  · exact .next (.refl _ _)

/-- A PLL that locks is marked and its clock is back; what else it writes is the lock age and the dividers of APLL-T, or the management port of
APLL-N0, and the PLLs that it starts are marked (R184, R339). -/
theorem execApllLock_frame (x : PllLock) : FrameO 16914 s (execApllLock x s) := by
  have locked : Frame 16914 s ((s.setO (Obj.apllState x.pll) 2).clockBack (.apll x.pll)) :=
    .of (State.clockBack_frame _ _) ((State.setO_frame _ _ _).mono rfl) rfl
  have started {t : State} (h : Frame 16914 s t) (j k : Nat) : Frame 16914 s ((t.pllStart j).pllStart k) :=
    .of (State.pllStart_frame _ _) (.of (State.pllStart_frame _ _) h rfl) rfl
  unfold execApllLock
  split
  · exact .next (.refl _ _)
  · split
    · dsimp only
      split
      · exact .next (started (.upSysSynth locked rfl rfl) 4 5)
      · exact .next (.up14 locked rfl)
      · exact .next (started locked 2 3)
      · exact .next locked
    · exact .ite_next (.up9 ((State.setO_frame _ _ _).mono rfl) rfl)

theorem execApllBypassRetry_frame (k : Fin 6) : FrameO 2 s (execApllBypassRetry k s) := by
  have acquiring : Frame 2 s (s.setO (Obj.apllState k) 1) := State.setO_frame _ _ _
  exact .ite_next (.ite (.of (State.setN_frame _ _ _) acquiring rfl) acquiring)

/-- A step is measured, lost, or ended where it had no prediction (R180 to R182). -/
theorem execStepMeasure_frame : FrameO 1558 s (execStepMeasure s) := by
  have lost : Frame 1558 s s.stepLost := s.stepLost_frame
  unfold execStepMeasure
  split
  · split
    · split
      · split
        · exact .next (.upSynthCanopy ((State.setO_frame _ _ _).mono rfl) rfl rfl)
        · exact .next lost
      · exact .next lost
      · exact .next (.up9 (.refl _ _) rfl)
    · exact .next (.refl _ _)
  · exact .next (.refl _ _)

theorem execHoldMaxExpire_frame : FrameO 16 s (execHoldMaxExpire s) := by
  unfold execHoldMaxExpire
  split
  · exact .ite_next s.forceUnbounded_frame
  · exact .next (.refl _ _)

theorem execTodMessageSend_frame (port : Fin 64) : FrameO 512 s (execTodMessageSend port s) := by
  unfold execTodMessageSend
  dsimp only
  split
  · split
    · split
      · exact .next (.refl _ _)
      · exact .next (State.setOut_frame _ _ _)
    · exact .next (.refl _ _)
  · exact .next (.refl _ _)

end

/-- Each command of references, PLLs and outputs keeps its footprint. -/
theorem timingCommand_frame (c : Instr) (s : State) (hc : Safety.family c = .timing) :
    FrameO (partsMask (Safety.footprint c)) s (exec c s) := by
  cases c with
  | edgeArrival => exact FrameO.footprint (execEdgeArrival_frame _ _ _ _ _)
  | gateEnd => exact FrameO.footprint (.ite_next (State.gateClosed_frame _ _))
  | refAbsentTimeout => exact FrameO.footprint (.ite_next (State.setRef_frame _ _ _))
  | classFActivityWindow => exact FrameO.footprint (.ite_next (State.activityEnd_frame _ _))
  | consistencyCheck => exact FrameO.footprint (.ite_next (State.consistency_frame _))
  | aplltMissingEdge => exact FrameO.footprint (execAplltMissingEdge_frame _)
  | aplltInputConnect => exact FrameO.footprint (execAplltInputConnect_frame _ _ _)
  | apllLock => exact FrameO.footprint (execApllLock_frame _ _)
  | apllLossOfLock | apllAcquireTimeout | aplltRelockTimeout => exact FrameO.footprint (.ite_next (State.pllBypass_frame _ _))
  | apllBypassRetry => exact FrameO.footprint (execApllBypassRetry_frame _ _)
  | stepMeasure => exact FrameO.footprint (execStepMeasure_frame _)
  | outputEdge => exact FrameO.footprint (.ite_next (State.driveEdge_frame _ _ _ _))
  | timescaleStep | timescaleStepToRef => exact FrameO.footprint (.ite_next (State.addDue_frame _ _ _))
  | holdMaxExpire => exact FrameO.footprint (execHoldMaxExpire_frame _)
  | todMessageSend => exact FrameO.footprint (execTodMessageSend_frame _ _)
  | todMessageReceive => exact FrameO.footprint (.ite_next (State.todArrive_frame _ _ _ _))
  | _ => cases hc

/-- Settles O13: the frame of each command lies inside its footprint. -/
theorem timingCommandsFrame : Obligations.TimingCommandsFrame :=
  fun c s t hc ht => (timingCommand_frame c s hc t ht).onlyChanges

end Sys2Proof.Machine
end

section
/-!
SUPPORT. The PLLs, the switch of APLL-T and the outputs: the states of the PLLs after a lock and a start, what a connection of APLL-T leaves, and what
the commands answer (R177 to R188, R339).
-/

namespace Sys2Proof.Machine

namespace State

/-! ### The states of the PLLs (R184) -/

section
variable (s : State)

theorem pll_setO_apllState (j k : Nat) (v : Int) : (s.setO (Obj.apllState k) v).pll j = if j = k then v else s.pll j := by
  rw [pll, o_setO, pll]
  simp only [Obj.apllState, Nat.add_left_cancel_iff]

/-- A PLL that is started acquires where it was OFF. -/
theorem pll_pllStart (j k : Nat) : (s.pllStart k).pll j = if j = k ∧ s.pll k = 0 then 1 else s.pll j := by
  unfold pllStart
  split
  next off => rw [pll_setO_apllState]; simp only [off, and_true]
  next on => rw [if_neg fun h => on h.2]

/-- A PLL that is LOCKED, with its clock back. -/
def pllLocked (k : Fin 6) : State := (s.setO (Obj.apllState k) 2).clockBack (.apll k)

theorem pllLocked_frame (k : Fin 6) : Frame 2 s (s.pllLocked k) := .of (clockBack_frame _ _) (setO_frame _ _ _) rfl

theorem pll_pllLocked (j : Nat) (k : Fin 6) : (s.pllLocked k).pll j = if j = k then 2 else s.pll j :=
  (clockBack_pll _ _ _).trans (pll_setO_apllState _ _ _ _)

/-- APLL-T that locks starts its lock age and takes the dividers of its input (R19, R184). -/
def aplltLocked (d : Nat × Nat) : State :=
  { s.pllLocked 0 with sys := { s.sys with sinceLock := some 0 }, synth := { s.synth with dividers := d } }

end

/-! ### A PLL in BYPASS (R184) -/

section
variable {s : State} {k : Nat}

/-- A PLL that was not locked goes to BYPASS without a loss of clock. -/
theorem pllBypassOne_of_acquiring (hk : k ≠ 0) (h : s.pll k = 1) :
    s.pllBypassOne k = (s.setO (Obj.apllState k) 3).inc (Obj.apllBypassCount k) := by
  unfold pllBypassOne
  simp [h, hk]

/-- A PLL but APLL-T and APLL-O takes no other with it. -/
theorem pllBypass_of_leaf (h0 : k ≠ 0) (h5 : k ≠ 5) : s.pllBypass k = s.pllBypassOne k := (if_neg h0).trans (if_neg h5)

end

/-! ### A connection of APLL-T (R179 to R182) -/

/-- The objects that tell of the bound. -/
def boundObjects : List Nat :=
  [Obj.boundNow, Obj.boundSource, Obj.boundUnboundedTicks, Obj.ceilingOk 0, Obj.ceilingOk 1, Obj.ceilingOk 2]

section
variable (s : State)

theorem showCeilings_o {k : Nat} (hk : k ∉ boundObjects) : s.showCeilings.o k = s.o k := by
  simp only [boundObjects, List.mem_cons, not_or] at hk
  obtain ⟨-, -, -, ptp, ntp, nts, -⟩ := hk
  exact (o_setO_ne _ _ nts).trans ((o_setO_ne _ _ ntp).trans (o_setO_ne _ _ ptp))

/-- The loss of the bound changes no object but those that tell of it. -/
theorem boundLost_o {k : Nat} (hk : k ∉ boundObjects) : s.boundLost.o k = s.o k := by
  unfold boundLost
  split
  · rfl
  · extract_lets prov s1 hist
    have written : s1.o k = s.o k := by
      simp only [boundObjects, List.mem_cons, not_or] at hk
      obtain ⟨now, source, ticks, -⟩ := hk
      rw [o_congr (setBlob_obj _ _ _), o_inc, if_neg ticks, o_setO, if_neg source, o_setN, if_neg now]
    rw [o_congr ((publishTime_frame _).obj_eq rfl), showCeilings_o _ hk, ← written]
    rfl

/-- The objects that tell of the step of a switch, and those of the bound that it may lose. -/
def stepObjects : List Nat := Obj.stepPredicted :: Obj.stepChargePs :: Obj.stepUnmeasured :: boundObjects

theorem stepUnmeasured_o {k : Nat} (hk : k ∉ stepObjects) : s.stepUnmeasured.o k = s.o k := by
  simp only [stepObjects, List.mem_cons, not_or] at hk
  obtain ⟨-, -, unmeasured, bound⟩ := hk
  show (s.inc Obj.stepUnmeasured).boundLost.o k = s.o k
  rw [boundLost_o _ bound, o_inc, if_neg unmeasured]

theorem stepUnmeasured_pendingInput : s.stepUnmeasured.synth.pendingInput = s.synth.pendingInput := by
  show (s.inc Obj.stepUnmeasured).boundLost.synth.pendingInput = _
  rw [(boundLost_frame _).synth_eq rfl]
  rfl

/-- APLL-T in RELOCK on its new input, its plane step counted (R180). -/
def relocking (n : Nat) : State := ((s.chargeKept.setN Obj.aplltSource n).inc Obj.stepCount).setO (Obj.apllState 0) 5

/-- A connection with a prediction of the step, or without one, changes the same objects but for those of the step and of the bound; no input is
pending after it. -/
theorem connect_keeps (n : Nat) (x : Int) (period : Nat) :
    (∀ k, k ∉ stepObjects → (s.connect n x period).o k = (s.relocking n).o k) ∧ (s.connect n x period).synth.pendingInput = none := by
  unfold connect
  extract_lets old s1 monitorOn base put charge
  have relocks : s1 = s.relocking n := rfl
  have put_obj (t : State) (p : PlaneStep) : (put t p).obj = t.obj := rfl
  have put_pending (t : State) (p : PlaneStep) : (put t p).synth.pendingInput = none := rfl
  have charged (sp : Int) (t : State) (p : PlaneStep) {k : Nat} (hk : k ∉ stepObjects) : (put (charge sp t) p).o k = t.o k := by
    simp only [stepObjects, List.mem_cons, not_or] at hk
    obtain ⟨-, charge, -⟩ := hk
    rw [o_congr (put_obj _ _)]
    exact (o_setN _ _ _ _).trans (if_neg charge)
  clear_value put s1 charge
  have unmeasured : (∀ k, k ∉ stepObjects → (put (charge 0 s1) base).stepUnmeasured.o k = (s.relocking n).o k) ∧
      (put (charge 0 s1) base).stepUnmeasured.synth.pendingInput = none :=
    ⟨fun k hk => by rw [stepUnmeasured_o _ hk, charged 0 s1 base hk, relocks], (stepUnmeasured_pendingInput _).trans (put_pending _ _)⟩
  split
  · split
    · refine ⟨fun k hk => (charged _ _ _ hk).trans ?_, put_pending _ _⟩
      simp only [stepObjects, List.mem_cons, not_or] at hk
      obtain ⟨predicted, -⟩ := hk
      rw [o_setO_ne _ _ predicted, relocks]
    · exact unmeasured
  · exact unmeasured

/-- APLL-T connected to an input: it relocks on that input, with its dividers, and a plane step is counted (R179, R180). -/
theorem inputConnected_keeps (n plane : Nat) (d : Nat × Nat) :
    (s.inputConnected n plane d).pll 0 = 5 ∧ (s.inputConnected n plane d).o Obj.aplltSource = (n : Int) ∧
      (s.inputConnected n plane d).o Obj.stepCount = s.o Obj.stepCount + 1 ∧ (s.inputConnected n plane d).synth.pendingInput = none ∧
      (s.inputConnected n plane d).synth.dividers = d ∧ (s.inputConnected n plane d).mem = s.mem ∧
      (s.inputConnected n plane d).stamp = s.stamp := by
  obtain ⟨objects, pending⟩ := s.connect_keeps n plane (pfdPeriod d)
  have kept := s.inputConnected_frame n plane d
  refine ⟨?_, ?_, ?_, pending, rfl, kept.mem_eq rfl, kept.stamp_eq rfl⟩
  · exact (objects _ (by decide)).trans (o_setO_self _ _ _)
  · refine (objects _ (by decide)).trans ?_
    rw [relocking, o_setO, if_neg (by decide), o_inc, if_neg (by decide), o_setN, if_pos rfl]
  · refine (objects _ (by decide)).trans ?_
    rw [relocking, o_setO, if_neg (by decide), o_inc, if_pos rfl, o_setN, if_neg (by decide), o_congr (s.chargeKept_frame.obj_eq rfl)]
end

/-! ### Outputs (R186, R188) -/

@[simp] theorem out_setOut_self (s : State) (p : Nat) (v : OutPort) : (s.setOut p v).out p = v := Sparse.get_put_self _ _ _ _

/-- One of the first 1,024 edges of a verified port is noted with its target. -/
theorem exists_driveEdge_eq {s : State} {p : Nat} (n : Nat) (measured : Int) (hu : s.flag (Obj.outUnverified p) = false)
    (he : (s.out p).edges < 1024) : ∃ v : OutPort, s.driveEdge p n measured = s.setOut p v ∧ v.edges = (s.out p).edges + 1 ∧
      v.last = some (n, s.edgeTarget p n) := by
  unfold driveEdge
  extract_lets t v v1 err dev s1
  exact ⟨_, (if_neg (by simp [hu])).trans (if_pos he), rfl, rfl⟩

end State

/-! ### The commands of the PLLs and of the switch -/

section
variable {s : State}

/-- In LOCKED a missing edge starts a switch to the next candidate (R179). -/
theorem exec_aplltMissingEdge_of_candidate {n : Nat} (hl : s.pll 0 = 2)
    (hn : s.aplltCandidates.find? (fun n => n != s.n Obj.aplltSource) = some n) :
    exec .aplltMissingEdge s = .next { s.setO (Obj.apllState 0) 4 with synth := { s.synth with pendingInput := some n, planeMoved := true } } := by
  refine (if_pos (by simp [hl])).trans ?_
  dsimp only
  rw [hn]
  rfl

theorem exec_aplltMissingEdge_of_no_candidate (hl : s.pll 0 = 2)
    (hn : s.aplltCandidates.find? (fun n => n != s.n Obj.aplltSource) = none) : exec .aplltMissingEdge s = .next (s.pllBypass 0) := by
  refine (if_pos (by simp [hl])).trans ?_
  dsimp only
  rw [hn]

/-- In a switch a missing edge ends in BYPASS. -/
theorem exec_aplltMissingEdge_of_switch (h : s.pll 0 = 4 ∨ s.pll 0 = 5) : exec .aplltMissingEdge s = .next (s.pllBypass 0) :=
  (if_neg (by simp only [beq_iff_eq]; omega)).trans (if_pos (by simpa using h))

theorem exec_aplltInputConnect_of_pending {n plane khz : Nat} {d : Nat × Nat} (hp : s.synth.pendingInput = some n)
    (hd : aplltDividers khz = some d) (h : s.pll 0 = 4 ∨ s.pll 0 = 5) :
    exec (.aplltInputConnect plane khz) s = .next (s.inputConnected n plane d) := by
  show execAplltInputConnect plane khz s = _
  rw [execAplltInputConnect, hp, hd]
  exact if_pos h

/-- APLL_LOCK of APLL-T in ACQUIRING. -/
theorem exec_apllLock_aplltT {khz : Nat} {d : Nat × Nat} (ha : s.pll 0 = 1) (hd : aplltDividers khz = some d) :
    exec (.apllLock ⟨0, khz⟩) s = .next (((s.aplltLocked d).pllStart 4).pllStart 5) := by
  refine (if_neg (by simp [hd])).trans ((if_pos (by simp [ha])).trans ?_)
  show Host.Outcome.next (((s.aplltLocked ((aplltDividers khz).getD (1, 256))).pllStart 4).pllStart 5) = _
  rw [hd]
  rfl

theorem exec_apllLock_of_no_dividers {khz : Nat} (h : aplltDividers khz = none) : exec (.apllLock ⟨0, khz⟩) s = .next s :=
  if_pos (by simp [h])

/-- APLL_LOCK of APLL-O in ACQUIRING starts APLL-N0 and APLL-N1. -/
theorem exec_apllLock_apllO (khz : Nat) (h : s.pll 5 = 1) :
    exec (.apllLock ⟨5, khz⟩) s = .next (((s.pllLocked 5).pllStart 2).pllStart 3) :=
  if_pos (beq_iff_eq.mpr h)

/-- APLL_LOCK of APLL-N0 in ACQUIRING lets the management port serve (R339). -/
theorem exec_apllLock_apllN0 (khz : Nat) (h : s.pll 2 = 1) :
    exec (.apllLock ⟨2, khz⟩) s = .next { s.pllLocked 2 with host := { s.host with mgmtUp := true } } :=
  if_pos (beq_iff_eq.mpr h)

/-- APLL_LOCK of the others in ACQUIRING. -/
theorem exec_apllLock_leaf {k : Fin 6} (khz : Nat) (h0 : k ≠ 0) (h2 : k ≠ 2) (h5 : k ≠ 5) (h : s.pll k = 1) :
    exec (.apllLock ⟨k, khz⟩) s = .next (s.pllLocked k) := by
  have leaf : k = 1 ∨ k = 3 ∨ k = 4 := by omega
  obtain rfl | rfl | rfl := leaf
  · exact if_pos (beq_iff_eq.mpr h)
  · exact if_pos (beq_iff_eq.mpr h)
  · exact if_pos (beq_iff_eq.mpr h)

/-- APLL_LOCK of APLL-T in RELOCK with no input pending ends the switch (R179). -/
theorem exec_apllLock_of_relock {khz : Nat} {d : Nat × Nat} (h : s.pll 0 = 5) (hp : s.synth.pendingInput = none)
    (hd : aplltDividers khz = some d) : exec (.apllLock ⟨0, khz⟩) s = .next { s.setO (Obj.apllState 0) 2 with
      synth := { s.synth with step := s.synth.step.map fun p => { p with relocked := true } } } :=
  (if_neg (by simp [hd])).trans ((if_neg (by simp [h])).trans (if_pos (by simp [h, hp])))

theorem exec_apllLossOfLock_of_locked {k : Fin 6} (h : s.pll k = 2) : exec (.apllLossOfLock k) s = .next (s.pllBypass k) :=
  if_pos (by simp [h])

theorem exec_apllAcquireTimeout_of_acquiring {k : Fin 6} (h : s.pll k = 1) : exec (.apllAcquireTimeout k) s = .next (s.pllBypass k) :=
  if_pos (by simp [h])

/-- The source of a PLL is there (R184). -/
def State.pllSourced (s : State) (k : Fin 6) : Bool :=
  match k.val with
  | 0 => s.aplltAcquire.isSome
  | 1 => bitOf (s.n Obj.cdStatus) 0
  | 2 => s.pll 5 == 2
  | 3 => s.pll 5 == 2
  | _ => s.pll 0 == 2 || s.pll 0 == 4 || s.pll 0 == 5

/-- A PLL in BYPASS whose source is there acquires again; APLL-T takes the input that it acquires. -/
theorem exec_apllBypassRetry_of_sourced {k : Fin 6} (hb : s.pll k = 3) (h : s.pllSourced k = true) : exec (.apllBypassRetry k) s =
    .next (if k.val = 0 then (s.setO (Obj.apllState k) 1).setN Obj.aplltSource (s.aplltAcquire.getD 255) else s.setO (Obj.apllState k) 1) :=
  if_pos (Bool.and_eq_true_iff.mpr ⟨beq_iff_eq.mpr hb, h⟩)

/-! ### The command of the step -/

section
variable {p : PlaneStep} (hr : s.running = true) (hs : s.synth.step = some p) (hp : p.phase = .predicted) (ha : p.applied + 64 ≤ s.age)
include hr hs hp ha

/-- A step without a prediction ends (R182). -/
theorem exec_stepMeasure_of_unpredicted (h : p.predicted = none) :
    exec .stepMeasure s = .next { s with synth := { s.synth with step := none } } := by
  show execStepMeasure s = _
  rw [execStepMeasure, hs]
  dsimp only
  rw [if_pos ⟨hr, hp, ha⟩, h]

/-- A predicted step whose input has no fit stays unmeasured (R182). -/
theorem exec_stepMeasure_of_no_fit {x : Int × Int} (h : p.predicted = some x) (hf : (s.port (64 + p.input)).sliding = none) :
    exec .stepMeasure s = .next s.stepLost := by
  show execStepMeasure s = _
  rw [execStepMeasure, hs]
  dsimp only
  rw [if_pos ⟨hr, hp, ha⟩, h, hf]

/-- A predicted step whose input has a fit up to the last tick is measured, and its difference is to be slewed out (R180). -/
theorem exec_stepMeasure_of_fit {sp y : Int} {f : Fit} {at_ : Nat} (h : p.predicted = some (sp, y))
    (hf : (s.port (64 + p.input)).sliding = some (f, at_)) (hn : s.age ≤ at_ + 1) :
    ∃ (q : PlaneStep) (c : CanopyState), exec .stepMeasure s =
        .next { s.setO Obj.stepMeasured (sp + State.wrapPeriod (pfdPeriod s.synth.dividers)
          (s.lateness f (64 + p.input) p.at_ - p.before - sp)) with synth := { s.synth with step := some q }, canopy := c } ∧
      q.phase = .slewing ∧ c.planeStep.isSome = true := by
  refine ⟨?step, ?canopy, ?answer, ?slewing, ?measured⟩
  case answer =>
    show execStepMeasure s = _
    rw [execStepMeasure, hs]
    dsimp only
    rw [if_pos ⟨hr, hp, ha⟩, h, hf]
    exact if_pos hn
  case slewing => rfl
  case measured => rfl
end

/-! ### The command of an output's edge -/

theorem exec_outputEdge_of_free {port : Fin 64} {n : Nat} (measured : Int) (hd : (s.out port).driving = true) (ha : s.outAllowed port = true)
    (ht : (s.out port).startAt ≤ s.edgeTarget port n * 4096) (hf : s.edgeFree port n = true) :
    exec (.outputEdge port n measured) s = .next (s.driveEdge port n measured) :=
  if_pos (by simp [hd, ha, ht, hf])
end

/-- Settles O31. -/
theorem pllCommandsComplete : Obligations.PllCommandsComplete := by
  refine ⟨fun n s => exec_aplltMissingEdge_of_candidate, fun s => exec_aplltMissingEdge_of_no_candidate,
    fun s => exec_aplltMissingEdge_of_switch, fun n plane khz d s => exec_aplltInputConnect_of_pending,
    fun n plane khz d s hp hd h => ⟨_, exec_aplltInputConnect_of_pending hp hd h, s.inputConnected_keeps n plane d⟩,
    fun khz d s ha hd => ⟨_, exec_apllLock_aplltT ha hd, ?_⟩, fun khz s => exec_apllLock_of_no_dividers,
    fun khz s h => ⟨_, exec_apllLock_apllO khz h, ?_⟩, fun khz d s => exec_apllLock_of_relock, fun k khz s => exec_apllLock_leaf khz,
    fun khz s h => ⟨_, exec_apllLock_apllN0 khz h, rfl, rfl⟩, fun k s => exec_apllLossOfLock_of_locked, fun k s h0 h5 h => ?_,
    fun k s => exec_apllAcquireTimeout_of_acquiring, fun s h => if_pos (by simpa using h), fun s hb hx => exec_apllBypassRetry_of_sourced hb hx,
    fun s hb hx => exec_apllBypassRetry_of_sourced hb hx, fun k s hk hb hx => ?_, fun k s hk hb hx => ?_,
    fun p s => exec_stepMeasure_of_unpredicted, fun p x s hr hs hp ha => exec_stepMeasure_of_no_fit hr hs hp ha, fun p sp y f at_ s hr hs hp ha h hf hn => ?_,
    fun port n measured s => exec_outputEdge_of_free measured, fun port n measured s hd ha ht hf hu he => ?_,
    fun ds s hr hw => if_pos (by simp [hr, hw])⟩
  · have locked (k : Nat) : (s.aplltLocked d).pll k = if k = 0 then 2 else s.pll k := s.pll_pllLocked k 0
    have started : Frame 2 (s.aplltLocked d) (((s.aplltLocked d).pllStart 4).pllStart 5) :=
      .of (State.pllStart_frame _ _) (State.pllStart_frame _ _) rfl
    refine ⟨?_, started.sys_eq rfl, congrArg SynthState.dividers (started.synth_eq rfl), fun h4 => ?_, fun h5 => ?_, started.mem_eq rfl⟩
    · simp [State.pll_pllStart, locked]
    · simp [State.pll_pllStart, locked, h4]
    · simp [State.pll_pllStart, locked, h5]
  · have locked (k : Nat) : (s.pllLocked 5).pll k = if k = 5 then 2 else s.pll k := s.pll_pllLocked k 5
    have started : Frame 2 s (((s.pllLocked 5).pllStart 2).pllStart 3) :=
      .of (State.pllStart_frame _ _) (.of (State.pllStart_frame _ _) (s.pllLocked_frame 5) rfl) rfl
    refine ⟨?_, started.sys_eq rfl, fun h2 => ?_, fun h3 => ?_, started.mem_eq rfl⟩
    · simp [State.pll_pllStart, locked]
    · simp [State.pll_pllStart, locked, h2]
    · simp [State.pll_pllStart, locked, h3]
  · have other : k.val ≠ 0 ∧ k.val ≠ 5 := by omega
    rw [exec_apllAcquireTimeout_of_acquiring h, State.pllBypass_of_leaf other.1 other.2, State.pllBypassOne_of_acquiring other.1 h]
  · obtain rfl | rfl := hk
    · exact exec_apllBypassRetry_of_sourced hb (beq_iff_eq.mpr hx)
    · exact exec_apllBypassRetry_of_sourced hb (beq_iff_eq.mpr hx)
  · have sourced : (s.pll 0 == 2 || s.pll 0 == 4 || s.pll 0 == 5) = true := by simpa [or_assoc] using hx
    obtain rfl | rfl := hk
    · exact exec_apllBypassRetry_of_sourced hb sourced
    · exact exec_apllBypassRetry_of_sourced hb sourced
  · obtain ⟨q, c, answer, slewing, measured⟩ := exec_stepMeasure_of_fit hr hs hp ha h hf hn
    exact ⟨_, answer, State.o_setO_self _ _ _, congrArg some slewing, measured, fun k hk => State.o_setO_ne _ _ hk, rfl, rfl⟩
  · obtain ⟨v, driven, edges, last⟩ := State.exists_driveEdge_eq n measured hu he
    refine ⟨_, (exec_outputEdge_of_free measured hd ha ht hf).trans (congrArg _ driven), ?_, ?_, rfl, rfl, rfl⟩
    · rw [State.out_setOut_self, edges]
    · rw [State.out_setOut_self, last]

end Sys2Proof.Machine
end

section
/-!
SUPPORT. The commands of the network: their footprints, and what the commands of a MAC's link answer (R248).
-/

namespace Sys2Proof.Machine

/-! ### The footprints -/

section
variable (s : State)

theorem execHostBatchClose_frame (completion : Bool) (ring m : Fin 16) : FrameO 18432 s (execHostBatchClose completion ring m s) := by
  unfold execHostBatchClose
  extract_lets key
  split
  · exact .ite_next (State.closeBatch_frame _ _)
  · exact .next (.refl _ _)

theorem execHostFrameLate_frame (m : Fin 16) (pos : Nat) (now : Int) : FrameO 18434 s (execHostFrameLate m pos now s) := by
  unfold execHostFrameLate
  split
  · exact .ite_next (State.lateDrop_frame _ _ _ _)
  · exact .next (.refl _ _)

theorem execEsmcRxExpire_frame (m : Fin 16) : FrameO 2 s (execEsmcRxExpire m s) :=
  .ite_next (.of (State.inc_frame _ _) (State.setN_frame _ _ _) rfl)

end

/-- Each command of the network keeps its footprint. -/
theorem networkCommand_frame (c : Instr) (s : State) (hc : Safety.family c = .network) :
    FrameO (partsMask (Safety.footprint c)) s (exec c s) := by
  cases c with
  | npLinkSignal | npLinkAligned | npAlignTimeout | npLinkFault | npFaultClear => exact FrameO.footprint (.ite_next (State.setO_frame _ _ _))
  | npLinkUp => exact FrameO.footprint (.ite_next (State.macEnterUp_frame _ _))
  | npLinkDown => exact FrameO.footprint (.next (State.macDown_frame _ _))
  | frameReceive => exact FrameO.footprint (.ite_next (State.frameReceive_frame _ _ _ _ _))
  | hostBatchClose => exact FrameO.footprint (execHostBatchClose_frame _ _ _ _)
  | frameLaunch => exact FrameO.footprint (.ite_next (State.frameLaunch_frame _ _ _ _))
  | hostTxDescriptor => exact FrameO.footprint (.next (State.hostTx_frame _ _ _ _))
  | hostFrameLate => exact FrameO.footprint (execHostFrameLate_frame _ _ _ _)
  | esmcInfoPdu => exact FrameO.footprint (.ite_next (State.esmcSend_frame _ _ _))
  | esmcRxExpire => exact FrameO.footprint (execEsmcRxExpire_frame _ _)
  | heddleSweep => exact FrameO.footprint (.ite_next (State.sweepOne_frame _))
  | _ => cases hc

/-- Settles O14: the frame of each command lies inside its footprint. -/
theorem networkCommandsFrame : Obligations.NetworkCommandsFrame :=
  fun c s t hc ht => (networkCommand_frame c s hc t ht).onlyChanges

/-! ### The link of a MAC -/

namespace State

section
variable {s : State} {m : Nat}

theorem macEnterUp_o_npLinkState : (s.macEnterUp m).o (Obj.npLinkState m) = 3 := by
  show ((s.setO (Obj.npLinkState m) 3).setN (Obj.esmcRxSsm m) 0xFF).o (Obj.npLinkState m) = 3
  rw [o_setN, if_neg (by simp only [Obj.npLinkState, Obj.esmcRxSsm]; omega), o_setO_self]

/-- A link that goes DOWN from UP counts. -/
theorem macDown_of_up (h : s.o (Obj.npLinkState m) = 3) : s.macDown m = (s.inc (Obj.npLinkDowns m)).setO (Obj.npLinkState m) 0 := by
  rw [macDown, if_neg (by omega), if_pos h]

theorem macDown_of_not_up (h3 : s.o (Obj.npLinkState m) ≠ 3) (h0 : s.o (Obj.npLinkState m) ≠ 0) :
    s.macDown m = s.setO (Obj.npLinkState m) 0 := by
  rw [macDown, if_neg h0, if_neg h3]

end

end State

/-- Settles O32: each transition of R248 is the branch of its command whose condition holds. -/
theorem macLinkCommandsComplete : Obligations.MacLinkCommandsComplete := by
  refine ⟨fun m s hr hu ha hl => if_pos (by simp [hr, hu, ha, hl]), fun m s hu hl => if_pos (by simp [hu, hl]), fun m s hl => if_pos hl,
    fun m s hu hl => ⟨if_pos (by simp [hu, hl]), State.macEnterUp_o_npLinkState, ?_, ?_⟩, fun m s hl => if_pos hl, fun m s hl => if_pos hl,
    fun m s hl => congrArg Host.Outcome.next (State.macDown_of_up hl),
    fun m s h3 h0 => congrArg Host.Outcome.next (State.macDown_of_not_up h3 h0)⟩
  · exact (s.macEnterUp_frame m).mem_eq rfl
  · exact (s.macEnterUp_frame m).serv_eq rfl

end Sys2Proof.Machine
end

section
/-!
SUPPORT. Frames received and sent: the queue of a MAC and the batches of a ring after the shared operations, and what the commands of frames
answer (R253, R258 to R266, R274, R353).
-/

namespace Sys2Proof.Machine

namespace State

/-! ### A MAC after a write -/

/-- MACs are read from their table alone. -/
theorem mac_congr {s t : State} (h : s.net.macs = t.net.macs) (m : Nat) : s.mac m = t.mac m := by
  rw [mac, h, mac]

section
variable (s : State) (m : Nat)

@[simp] theorem mac_setMac_self (v : Mac) : (s.setMac m v).mac m = v := Sparse.get_put_self _ _ _ _

theorem mac_enqueue_self (f : TxFrame) :
    (s.enqueue m f).mac m = { s.mac m with queue := (s.mac m).queue ++ [{ f with queuedAt := s.age }] } := mac_setMac_self _ _ _

theorem length_queue_enqueue (f : TxFrame) : ((s.enqueue m f).mac m).queue.length = (s.mac m).queue.length + 1 := by
  rw [mac_enqueue_self, List.length_append, List.length_singleton]

theorem queue_dequeue (i : Nat) : ((s.dequeue m i).mac m).queue = (s.mac m).queue.eraseIdx i :=
  congrArg Mac.queue (mac_setMac_self _ _ _)

end

/-! ### Batches (R253, R353) -/

section
variable (s : State) (key : Nat)

/-- A batch stays only where there is none or a batch of completions waits for the link; else it is gone. No MAC changes. -/
theorem closeBatch_cases :
    (s.closeBatch key = s ∧ ∀ b, Sparse.get (fun _ => none) s.net.batches key = some b → 256 ≤ key ∧ s.pcieUp = false) ∨
    ((s.closeBatch key).net.batches = Sparse.put (fun _ => none) s.net.batches key none ∧ (s.closeBatch key).net.macs = s.net.macs) := by
  unfold closeBatch
  split
  next absent => exact .inl ⟨rfl, fun b hb => by rw [absent] at hb; cases hb⟩
  next b present =>
    extract_lets cpl ring fn r k lost rec_ net gone goneNet s0 wr s1 writtenNet s2
    have written : s1.net = s0.net := (setRingReg_frame _ _ _ _ _ _).net_eq rfl
    have ended : s0.net.batches = Sparse.put (fun _ => none) s.net.batches key none ∧ s0.net.macs = s.net.macs := by
      unfold s0
      split <;> exact ⟨rfl, rfl⟩
    have closed : s2.net.batches = Sparse.put (fun _ => none) s.net.batches key none ∧ s2.net.macs = s.net.macs := by
      show s1.net.batches = _ ∧ s1.net.macs = _
      rwa [written]
    split
    next waits =>
      refine .inl ⟨rfl, fun _ _ => ?_⟩
      simp only [Bool.and_eq_true, Bool.not_eq_true', cpl, decide_eq_true_eq] at waits
      exact ⟨waits.1.1, waits.2⟩
    next =>
      refine .inr ?_
      split
      · split
        · rwa [(vector_frame s2 _ _).net_eq rfl]
        · exact closed
      · exact ended

/-- With the link up, or for a receive ring, a batch that is closed is gone. -/
theorem batches_closeBatch {b : RxBatch} (hb : Sparse.get (fun _ => none) s.net.batches key = some b) (hl : 256 ≤ key → s.pcieUp = true) :
    Sparse.get (fun _ => none) (s.closeBatch key).net.batches key = none := by
  obtain ⟨-, waits⟩ | ⟨gone, -⟩ := s.closeBatch_cases key
  · obtain ⟨hk, down⟩ := waits b hb
    rw [hl hk] at down
    cases down
  · rw [gone, Sparse.get_put_self]

theorem closeBatch_macs : (s.closeBatch key).net.macs = s.net.macs := by
  obtain ⟨same, -⟩ | ⟨-, macs⟩ := s.closeBatch_cases key
  · rw [same]
  · exact macs

theorem pushDesc_macs (d : Octets) : (s.pushDesc key d).net.macs = s.net.macs := by
  unfold pushDesc
  extract_lets s1 b net s2
  have kept : s1.net.macs = s.net.macs := by
    unfold s1
    split
    · split
      · exact s.closeBatch_macs key
      · rfl
    · rfl
  split
  · exact (s2.closeBatch_macs key).trans kept
  · exact kept

theorem completeOf_macs (m : Nat) (f : TxFrame) (errors : Nat) (egress : Option Int) :
    (s.completeOf m f errors egress).net.macs = s.net.macs := by
  unfold completeOf
  split
  · exact pushDesc_macs _ _ _
  · rfl

end

/-! ### Transmission (R258 to R263) -/

section
variable {s : State} {m q capture i : Nat} {f : TxFrame} {t : Int}

/-- The frame that a queue offers at its egress leaves where nothing stands against it. -/
theorem frameLaunch_of_offered (ht : s.deviceTime capture + psUnits (s.o (Obj.npTxDelayPs m)) = t) (hu : s.macUp m = true)
    (hn : s.nextOf m q t = some (i, f)) (hc : s.canStart m f t = true) (hh : ∀ k, k < 8 → q < k → s.nextOf m k t = none)
    (hl : launchLate f t = false) (hx : s.exactPast m f t = false) (hb : s.boundGone f = false) (hm : s.mayLeave f = true) :
    s.frameLaunch m q capture = s.send m i (s.leaving f) t := by
  unfold frameLaunch
  rw [ht]
  extract_lets egress higher
  have none_higher : higher = false := List.any_eq_false.mpr fun k hk => by
    by_cases above : q < k
    · simp [egress, hh k (List.mem_range.mp hk) above]
    · simp [above]
  rw [hn]
  refine (if_neg ?_).trans ((if_neg ?_).trans ((if_neg ?_).trans ((if_neg ?_).trans (if_neg ?_))))
  · simp [egress, hc, none_higher]
  · simp [egress, hl]
  · simp [egress, hu, hx]
  · simp [hb]
  · simp [hm]

end

/-! ### Host frames (R263, R353) -/

section
variable (s : State) (ring : Nat)

/-- The next descriptor of a transmit ring is taken, and one completion is owed. -/
def fetched : State :=
  let taken := s.setRingReg (ring / 8) .tx (ring % 8) 0x10 (s.ringReg (ring / 8) .tx (ring % 8) 0x10 + 1)
  { taken with net := { taken.net with
    outstanding := Sparse.put (fun _ => 0) taken.net.outstanding ring (Sparse.get (fun _ => 0) s.net.outstanding ring + 1) } }

theorem fetched_frame : Frame 18432 s (s.fetched ring) := .up11 ((setRingReg_frame _ _ _ _ _ _).mono rfl) rfl

theorem fetched_outstanding : Sparse.get (fun _ => 0) (s.fetched ring).net.outstanding ring =
    Sparse.get (fun _ => 0) s.net.outstanding ring + 1 := by
  rw [fetched, Sparse.get_put_self]

theorem mac_fetched (m : Nat) : (s.fetched ring).mac m = s.mac m :=
  mac_congr (congrArg NetState.macs ((setRingReg_frame s _ _ _ _ _).net_eq rfl)) m

end

/-- The frame of a descriptor of a transmit ring (R263). -/
def hostFrame (s : State) (ring : Nat) (desc frame : Octets) : TxFrame where
  queue := octetAt desc 11
  kind := .host ring (s.ringReg (ring / 8) .tx (ring % 8) 0x10 % areaSize 6 16 (s.ringReg (ring / 8) .tx (ring % 8) 0x08))
    (bitOf (octetAt desc 24) 0)
  launch := fieldN desc 12 8
  lateMax := fieldN desc 20 4
  len := fieldN desc 8 2 + 4
  dst := octets frame 0 6
  src := octets frame 6 6
  tags := (parseFrame frame).tags
  etherType := (parseFrame frame).etherType
  body := padTo (fieldN desc 8 2) frame

/-- A descriptor that passes the tests of R263 and asks for no redundancy puts one frame on the queue of its MAC. -/
theorem hostTx_of_accepted {s : State} {ring : Nat} {desc : Octets} (frame : Octets) (hr : s.running = true) (hp : s.pcieUp = true)
    (ho : s.ringOn (ring / 8) .tx (ring % 8) = true)
    (hn : used (s.ringReg (ring / 8) .tx (ring % 8) 0x0C) (s.ringReg (ring / 8) .tx (ring % 8) 0x10) ≠ 0)
    (hc : 48 * (Sparse.get (fun _ => 0) s.net.outstanding ring + 1) ≤ s.txCplFree (ring / 8) (ring % 8)) (hq : octetAt desc 11 ≤ 5)
    (hm : octetAt desc 10 ≤ 15) (hl : 60 ≤ fieldN desc 8 2) (hx : fieldN desc 8 2 + 4 ≤ s.n (Obj.npMaxFrame (octetAt desc 10)))
    (hu : s.macUp (octetAt desc 10) = true) (hd : bitOf (octetAt desc 24) 1 = false) :
    s.hostTx ring desc frame = (s.fetched ring).enqueue (octetAt desc 10) (s.hostFrame ring desc frame) := by
  have mac : octetAt desc 10 % 16 = octetAt desc 10 := Nat.mod_eq_of_lt (by omega)
  have fetches : (s.running && s.pcieUp && s.ringOn (ring / 8) .tx (ring % 8) &&
      used (s.ringReg (ring / 8) .tx (ring % 8) 0x0C) (s.ringReg (ring / 8) .tx (ring % 8) 0x10) != 0 &&
      decide (48 * (Sparse.get (fun _ => 0) s.net.outstanding ring + 1) ≤ s.txCplFree (ring / 8) (ring % 8))) = true := by
    simp [hr, hp, ho, hn, hc]
  have fits : ¬ (5 < octetAt desc 11 ∨ 15 < octetAt desc 10 ∨ fieldN desc 8 2 < 60 ∨
      s.n (Obj.npMaxFrame (octetAt desc 10 % 16)) < fieldN desc 8 2 + 4) := by
    rw [mac]
    omega
  refine (if_pos fetches).trans ((if_neg fits).trans ((if_neg (by simp [hu])).trans ?_))
  dsimp only
  rw [hd]
  rfl

/-- A late frame is off its queue. -/
theorem queue_lateDrop (s : State) (m pos : Nat) (f : TxFrame) : ((s.lateDrop m pos f).mac m).queue = (s.mac m).queue.eraseIdx pos := by
  rw [lateDrop, mac_congr (completeOf_macs _ _ _ _ _)]
  exact s.queue_dequeue m pos

theorem o_lateDrop (s : State) (m pos : Nat) (f : TxFrame) (k : Nat) :
    (s.lateDrop m pos f).o k = if k = Obj.npLaunchLateDrops m then s.o (Obj.npLaunchLateDrops m) + 1 else s.o k := by
  rw [lateDrop, o_congr ((completeOf_frame _ _ _ _ _).obj_eq rfl), o_inc]
  rfl

/-! ### ESMC (R265) -/

theorem mac_esmcSend (s : State) (m : Nat) (event : Bool) :
    ((s.esmcSend m event).mac m).esmcSent = some (s.ssmSent m) ∧ ((s.esmcSend m event).mac m).queue.length = (s.mac m).queue.length + 1 := by
  unfold esmcSend
  extract_lets code f
  rw [length_queue_enqueue, mac_enqueue_self, mac_setMac_self]
  exact ⟨rfl, rfl⟩

/-! ### The sweep (R274) -/

theorem sweepOne_sweep (s : State) : s.sweepOne.serv.sweep = (s.serv.sweep + 1) % 4194304 := rfl

end State

/-! ### The commands of frames -/

section
variable {s : State}

theorem exec_frameReceive_of_up {m : Fin 16} (frame : Octets) (capture : Nat) (phy : PhyErrors) (hr : s.running = true) (hu : s.macUp m = true) :
    exec (.frameReceive m frame capture phy) s = .next (s.frameReceive m frame capture phy) := if_pos (by simp [hr, hu])

/-- The key of the batch of a receive ring, or of the completions of a transmit ring, for a MAC (R253). -/
def batchKey (completion : Bool) (ring m : Fin 16) : Nat := (if completion then 256 else 0) + 16 * ring.val + m.val

theorem completion_of_batchKey {completion : Bool} {ring m : Fin 16} (h : 256 ≤ batchKey completion ring m) : completion = true := by
  cases completion with
  | true => rfl
  | false =>
    have receive : batchKey false ring m = 0 + 16 * ring.val + m.val := rfl
    omega

theorem exec_hostBatchClose_of_due {completion : Bool} {ring m : Fin 16} {b : RxBatch}
    (hb : Sparse.get (fun _ => none) s.net.batches (batchKey completion ring m) = some b) (hd : s.batchDue b = true) :
    exec (.hostBatchClose completion ring m) s = .next (s.closeBatch (batchKey completion ring m)) := by
  show execHostBatchClose completion ring m s = _
  rw [batchKey] at *
  unfold execHostBatchClose
  dsimp only
  rw [hb]
  exact if_pos hd

theorem exec_frameLaunch_of_running (m : Fin 16) (q : Fin 8) (capture : Nat) (hr : s.running = true) :
    exec (.frameLaunch m q capture) s = .next (s.frameLaunch m q capture) := if_pos hr

theorem exec_hostFrameLate_of_late {m : Fin 16} {pos : Nat} {now : Int} {f : TxFrame} (hf : (s.mac m).queue[pos]? = some f)
    (hl : State.launchLate f now = true) : exec (.hostFrameLate m pos now) s = .next (s.lateDrop m pos f) := by
  show execHostFrameLate m pos now s = _
  rw [execHostFrameLate, hf]
  exact if_pos hl

end

/-- Settles O33: each command answers its operation, and the lemmas above say what that leaves. -/
theorem frameCommandsComplete : Obligations.FrameCommandsComplete := by
  refine ⟨fun m frame capture phy s => exec_frameReceive_of_up frame capture phy, fun m frame capture phy s hr hu hd => ?_,
    fun completion ring m b s => exec_hostBatchClose_of_due, fun completion ring m b s hb hd hl => ?_,
    fun m q capture s => exec_frameLaunch_of_running m q capture, fun m q capture i f s hr hu hn hc hh hl hx hb hm => ?_,
    fun ring desc frame s => rfl, fun ring desc frame s hr hp ho hn hc hq hm hl hx hu hd => ?_,
    fun m pos now f s => exec_hostFrameLate_of_late, fun m pos now f s hf hl => ?_, fun m s hr hu he hi => ?_,
    fun m s hr hu hx hg ha => if_pos (by simp [hr, hu, hx, hg, ha]), fun s hr => ?_⟩
  · refine (exec_frameReceive_of_up frame capture phy hr hu).trans (congrArg Host.Outcome.next ?_)
    exact if_pos (by simp [hd])
  · have kept := s.closeBatch_frame (batchKey completion ring m)
    exact ⟨_, exec_hostBatchClose_of_due hb hd, s.batches_closeBatch _ hb fun key => hl (completion_of_batchKey key), kept.obj_eq rfl,
      kept.sys_eq rfl, kept.mem_eq rfl⟩
  · exact (exec_frameLaunch_of_running m q capture hr).trans (congrArg Host.Outcome.next (State.frameLaunch_of_offered rfl hu hn hc hh hl hx hb hm))
  · have queued := State.hostTx_of_accepted frame hr hp ho hn hc hq hm hl hx hu hd
    have kept : Frame 18432 s ((s.fetched ring).enqueue (octetAt desc 10) (s.hostFrame ring desc frame)) :=
      .of (State.enqueue_frame _ _ _) (s.fetched_frame ring) rfl
    refine ⟨_, congrArg Host.Outcome.next queued, s.fetched_outstanding ring, ?_, kept.obj_eq rfl, kept.sys_eq rfl, kept.mem_eq rfl⟩
    rw [State.length_queue_enqueue, State.mac_fetched]
  · have kept := s.lateDrop_frame m pos f
    refine ⟨_, exec_hostFrameLate_of_late hf hl, s.queue_lateDrop m pos f, ?_, fun k hk => ?_, kept.sys_eq rfl, kept.mem_eq rfl⟩
    · rw [State.o_lateDrop, if_pos rfl]
    · rw [State.o_lateDrop, if_neg hk]
  · have kept := s.esmcSend_frame m false
    exact ⟨if_pos (by simp [hr, hu, he, hi]), (s.mac_esmcSend m false).1, (s.mac_esmcSend m false).2, kept.obj_eq rfl, kept.mem_eq rfl⟩
  · exact ⟨if_pos hr, s.sweepOne_sweep, s.sweepOne_frame.obj_eq rfl, s.sweepOne_frame.mem_eq rfl⟩

end Sys2Proof.Machine
end

section
/-!
SUPPORT. The commands of the time services and of the vault: their footprints.
-/

namespace Sys2Proof.Machine

section
variable (s : State)

/-! ### The time services -/

theorem execNtpRequest_frame (g : Fin 16) (n : Fin 8192) (now : Int) : FrameO 71682 s (execNtpRequest g n now s) := by
  unfold execNtpRequest
  split
  · exact .ite_next (State.ntpRequest_frame _ _ _ _ _)
  · exact .next (.refl _ _)

theorem execNtsRequest_frame (g : Fin 16) (n : Fin 8192) (now : Int) : FrameO 71698 s (execNtsRequest g n now s) := by
  unfold execNtsRequest
  split
  · exact .ite_next (State.ntsRequest_frame _ _ _ _ _)
  · exact .next (.refl _ _)

theorem execPtpDelayReq_frame (g : Fin 16) (n : Fin 8192) (now : Int) : FrameO 6146 s (execPtpDelayReq g n now s) := by
  unfold execPtpDelayReq
  split
  · exact .ite_next (State.delayReq_frame _ _ _ _ _)
  · exact .next (.refl _ _)

theorem execPtpPdelayReq_frame (g : Fin 16) (n : Fin 8192) (now : Int) : FrameO 6146 s (execPtpPdelayReq g n now s) := by
  unfold execPtpPdelayReq
  split
  · exact .ite_next (State.pdelayReq_frame _ _ _ _ _)
  · exact .next (.refl _ _)

theorem execPtpGrantRequest_frame (g : Fin 16) (n : Fin 8192) : FrameO 104466 s (execPtpGrantRequest g n s) := by
  unfold execPtpGrantRequest
  split
  · exact .ite_next (State.signaling_frame _ _ _ _)
  · exact .next (.refl _ _)

/-- A Signaling message cancels or requests grants, a Pdelay_Resp_Follow_Up is left to PTP_CLIENT_RX, and another message is
unsupported. -/
theorem execPtpGrantCancel_frame (g : Fin 16) (n : Fin 8192) : FrameO 104466 s (execPtpGrantCancel g n s) := by
  unfold execPtpGrantCancel
  split
  · dsimp only
    split
    · split
      · exact .next (State.signaling_frame _ _ _ _)
      · split
        · exact .next (.refl _ _)
        · exact .next ((State.unsupported_frame _ _ _ _).mono rfl)
    · exact .next (.refl _ _)
  · exact .next (.refl _ _)

/-- An item for a session goes to its client, another to the peer delay: both after the item is done. -/
theorem execPtpClientRx_frame (g : Fin 16) (n : Fin 8192) : FrameO 4610 s (execPtpClientRx g n s) := by
  have taken : Frame 4610 s (s.itemDone g n) := (State.itemDone_frame _ _ _).mono rfl
  unfold execPtpClientRx
  split
  · split
    · exact .ite_next (.of (State.clientRx_frame _ _ _) taken rfl)
    · exact .ite_next (.of (State.pdelayRx_frame _ _) taken rfl)
  · exact .next (.refl _ _)

theorem execClientRequestDue_frame (c : Fin 24) (msg : ClientMsg) : FrameO 6144 s (execClientRequestDue c msg s) := by
  unfold execClientRequestDue
  split
  · exact .next (.refl _ _)
  · cases msg with
    | delayReq => exact .ite_next (State.clientDelayReq_frame _ _)
    | signaling => exact .ite_next (State.clientRequest_frame _ _)

theorem execEsmcPduReceive_frame (g : Fin 16) (n : Fin 8192) : FrameO 6146 s (execEsmcPduReceive g n s) := by
  have taken : Frame 6146 s (s.itemDone g n) := (State.itemDone_frame _ _ _).mono rfl
  unfold execEsmcPduReceive
  split
  · dsimp only
    split
    · split
      · exact .next (.of (State.setMac_frame _ _ _) (.of (State.setN_frame _ _ _) taken rfl) rfl)
      · exact .next taken
    · exact .next (.refl _ _)
  · exact .next (.refl _ _)

/-! ### The vault -/

/-- Units that fail their test zeroise the vault and are reported; a tampered vault is zeroised; else it is READY (R315). -/
theorem execVaultInitComplete_frame (failed : Option (Fin 4)) : FrameO 751966 s (execVaultInitComplete failed s) := by
  have zeroised : Frame 751966 s s.zeroise := (State.zeroise_frame _).mono rfl
  unfold execVaultInitComplete
  split
  · exact .next (.refl _ _)
  · split
    · exact .next (.of (State.faulted_frame _ _ _ _) zeroised rfl)
    · split
      · exact .next zeroised
      · exact .next ((State.vaultReady_frame _).mono rfl)

theorem execNtsMintRequest_frame (m : MintMsg) : FrameO 26626 s (execNtsMintRequest m s) := by
  have taken : Frame 26626 s (s.accept m.src).1 := (State.accept_frame _ _).mono rfl
  unfold execNtsMintRequest
  split
  · exact .next (.refl _ _)
  · exact .next (.ite (.of (State.mintJudge_frame _ _) (.of (State.placeRequest_frame _ _ _) taken rfl) rfl) taken)

/-- A blob that is right is taken, another is counted (R308). -/
theorem execKeyWrite_frame (cls : PortClass) (blob : Octets) : FrameO 8198 s (execKeyWrite cls blob s) := by
  unfold execKeyWrite
  split
  · exact .next (.refl _ _)
  · split
    · exact .next (.refl _ _)
    · split
      · exact .next ((State.keyWriteTake_frame _ _).mono rfl)
      · exact .next ((State.inc_frame _ _).mono rfl)

theorem execEntropyHealthFail_frame : FrameO 751966 s (execEntropyHealthFail s) := by
  have noted : Frame 751966 s { s with vault := { s.vault with entropyFailed := true } } := .up13 (.refl _ _) rfl
  unfold execEntropyHealthFail
  split
  · exact .next (.refl _ _)
  · exact .next (.of (State.faulted_frame _ _ _ _) (.of (State.inc_frame _ _) noted rfl) rfl)

theorem execTamperFuseProgrammed_frame : FrameO 8194 s (execTamperFuseProgrammed s) := by
  have programmed : Frame 8194 s { s with vault := { s.vault with fuseDue := false } } := .up13 (.refl _ _) rfl
  exact .ite_next (.of (State.setN_frame _ _ _) programmed rfl)

end

/-- Each command of the time services keeps its footprint. -/
theorem serviceCommand_frame (c : Instr) (s : State) (hc : Safety.family c = .services) :
    FrameO (partsMask (Safety.footprint c)) s (exec c s) := by
  cases c with
  | ntpRequest => exact FrameO.footprint (execNtpRequest_frame _ _ _ _)
  | ntsRequest => exact FrameO.footprint (execNtsRequest_frame _ _ _ _)
  | ptpDelayReq => exact FrameO.footprint (execPtpDelayReq_frame _ _ _ _)
  | ptpPdelayReq => exact FrameO.footprint (execPtpPdelayReq_frame _ _ _ _)
  | ptpGrantRequest => exact FrameO.footprint (execPtpGrantRequest_frame _ _ _)
  | ptpGrantCancel => exact FrameO.footprint (execPtpGrantCancel_frame _ _ _)
  | ptpGrantExpire => exact FrameO.footprint (.ite_next (State.pruneLine_frame _ _ _))
  | ptpSyncDue => exact FrameO.footprint (.next (State.syncDue_frame _ _ _ _))
  | ptpFollowUpDue => exact FrameO.footprint (.next (State.followUpDue_frame _ _))
  | ptpAnnounceDue => exact FrameO.footprint (.next (State.announceDue_frame _ _))
  | ptpPdelayReqDue => exact FrameO.footprint (.next (State.pdelayReqDue_frame _ _ _))
  | ptpClientRx => exact FrameO.footprint (execPtpClientRx_frame _ _ _)
  | clientRequestDue => exact FrameO.footprint (execClientRequestDue_frame _ _ _)
  | clientGrantRenew => exact FrameO.footprint (.ite_next (State.clientRenew_frame _ _ _))
  | clientBackoffExpire | clientAnnounceTimeout => exact FrameO.footprint (.ite_next (State.clientEnter_frame _ _ _))
  | esmcPduReceive => exact FrameO.footprint (execEsmcPduReceive_frame _ _ _)
  | ntsKeyRotation => exact FrameO.footprint (.ite_next (State.keyRotation_frame _))
  | ntsRotateNow => exact FrameO.footprint (.ite_next (State.addDue_frame _ _ _))
  | _ => cases hc

/-- Each command of the vault keeps its footprint. -/
theorem vaultCommand_frame (c : Instr) (s : State) (hc : Safety.family c = .vault) :
    FrameO (partsMask (Safety.footprint c)) s (exec c s) := by
  cases c with
  | vaultInitComplete => exact FrameO.footprint (execVaultInitComplete_frame _ _)
  | ntsMintRequest => exact FrameO.footprint (execNtsMintRequest_frame _ _)
  | keyWrite => exact FrameO.footprint (execKeyWrite_frame _ _ _)
  | keyWriteApply => exact FrameO.footprint (.ite_next (State.keyWritesApply_frame _))
  | remaskRequest => exact FrameO.footprint (.ite_next (State.addDue_frame _ _ _))
  | entropyHealthFail => exact FrameO.footprint (execEntropyHealthFail_frame _)
  | entropyRestartPass | pkEngineComplete => exact FrameO.footprint (k := 8192) (.next (.up13 (.refl _ _) rfl))
  | pkSign | pkVerify | pkEcdh | generate | derive | proof | chalIssue | chalRespond | attest =>
    exact FrameO.footprint (.next (State.vaultArrive_frame _ _ _))
  | pkEngineStart => exact FrameO.footprint (.ite_next (State.startEngine_frame _ _))
  | tamperEvent => exact FrameO.footprint (.ite_next (State.tamper_frame _))
  | tamperFuseProgrammed => exact FrameO.footprint (execTamperFuseProgrammed_frame _)
  | _ => cases hc

/-- Settles O15: the frame of each command lies inside its footprint. -/
theorem serviceCommandsFrame : Obligations.ServiceCommandsFrame :=
  fun c s t hc ht => (serviceCommand_frame c s hc t ht).onlyChanges

/-- Settles O16: the frame of each command lies inside its footprint. -/
theorem vaultCommandsFrame : Obligations.VaultCommandsFrame :=
  fun c s t hc ht => (vaultCommand_frame c s hc t ht).onlyChanges

end Sys2Proof.Machine
end

section
/-!
SUPPORT. The messages that the device sends of itself: the due instants after the shared operations, and what the due instants of streams and the
client sessions answer (R270, R279 to R282, R289, R291).
-/

namespace Sys2Proof.Machine

namespace State

/-! ### What the shared operations leave (R282, R362, R365) -/

section
variable (s : State)

/-- Of the services, a release writes the Reed journal alone. -/
theorem release_serv (g n bit m : Nat) (f : TxFrame) : ∃ reed, (s.release g n bit m f).serv = { s.serv with reed := reed } := by
  unfold release
  dsimp only
  split
  · exact ⟨_, rfl⟩
  · exact ⟨_, rfl⟩

/-- The next originated item of a grove is not copied out yet: its bit of the first copy in the Reed journal is clear (R365). -/
def nextFresh (g : Nat) : Prop := bitOf (Sparse.get (fun _ => 0) s.serv.reed (g * 8192 + Sparse.get (fun _ => 0) s.serv.nextItem g % 8192)) 0 = false

/-- An originated item that is not copied out yet puts its frame on the queue. -/
theorem length_queue_release_newItem {g m : Nat} (stream : Nat) (f : TxFrame) (h : s.nextFresh g) :
    (((s.newItem g stream).1.release g (s.newItem g stream).2 0 m f).mac m).queue.length = (s.mac m).queue.length + 1 := by
  unfold release
  dsimp only
  rw [if_neg (by simp [newItem, show _ = false from h]), length_queue_enqueue]
  rfl

theorem not_mem_departed_release (g n bit m : Nat) (f : TxFrame) {d : Departed} (h : d ∉ s.serv.departed) :
    d ∉ (s.release g n bit m f).serv.departed := by
  obtain ⟨reed, kept⟩ := s.release_serv g n bit m f
  rwa [kept]

theorem not_mem_owed_release (g n bit m : Nat) (f : TxFrame) {o : OwedFollowUp} (h : o ∉ s.serv.owed) :
    o ∉ (s.release g n bit m f).serv.owed := by
  obtain ⟨reed, kept⟩ := s.release_serv g n bit m f
  rwa [kept]

/-- Of the services, a sequence number written is in the session or in the table of the multicast streams (R282). -/
theorem setSeq_serv (x : PtpStream) (type v : Nat) : ∃ sessions seqs, (s.setSeq x type v).serv = { s.serv with sessions, seqs } := by
  cases x with
  | multi i m => exact ⟨_, _, rfl⟩
  | peer i m => exact ⟨_, _, rfl⟩
  | uni l =>
    unfold setSeq
    dsimp only
    split
    next e _ =>
      have owned : (s.ownLine e.grove l).serv = s.serv := (s.ownLine_frame _ _).serv_eq rfl
      rw [commitSession, setSession, owned]
      exact ⟨_, _, rfl⟩
    next => exact ⟨_, _, rfl⟩

@[simp] theorem mac_update_serv (x : ServState) (m : Nat) : State.mac { s with serv := x } m = s.mac m := rfl

@[simp] theorem mac_update_twin (x : TwinState) (m : Nat) : State.mac { s with twin := x } m = s.mac m := rfl

theorem mac_setSeq (x : PtpStream) (type v m : Nat) : (s.setSeq x type v).mac m = s.mac m :=
  mac_congr (congrArg NetState.macs ((s.setSeq_frame x type v).net_eq rfl)) m

theorem mac_committed (x : PtpStream) (type seq due m : Nat) : (s.committed x type seq due).mac m = s.mac m :=
  mac_congr (congrArg NetState.macs ((s.committed_frame x type seq due).net_eq rfl)) m

/-- Only an authentication TLV keeps a message from being finished (R286). -/
theorem keyed_of_finish_eq_none {c : PtpCfg} {body tlvs : Octets} (h : s.finish (authOf c) body tlvs = none) : bitOf c.flags 3 = true := by
  cases hk : bitOf c.flags 3 with
  | true => rfl
  | false =>
    rw [authOf, hk] at h
    cases h

end

/-! ### The last due instants (R280, R282) -/

/-- The streams' instants are done in `s` as in `r`. -/
def SameDues (r s : State) : Prop := s.serv.lastDue = r.serv.lastDue

section
variable {r s : State}

theorem SameDues.refl (s : State) : SameDues s s := rfl

theorem SameDues.inc (h : SameDues r s) (k : Nat) : SameDues r (s.inc k) := h

theorem SameDues.pairSeq (h : SameDues r s) (x : PtpStream) (type : Nat) : SameDues r (s.pairSeq x type).1 := h

theorem SameDues.newItem (h : SameDues r s) (g stream : Nat) : SameDues r (s.newItem g stream).1 := h

theorem SameDues.takeRed (h : SameDues r s) (k : Nat) : SameDues r (s.takeRed k).1 := h

theorem SameDues.update_pdelay (h : SameDues r s) (x : Tbl PeerDelay) : SameDues r { s with serv := { s.serv with pdelay := x } } := h

theorem SameDues.withheld (h : SameDues r s) (x : PtpStream) (type due : Nat) : SameDues r (s.withheld x type due) :=
  (congrArg ServState.lastDue ((s.withheld_frame x type due).serv_eq rfl)).trans h

theorem SameDues.release (h : SameDues r s) (g n bit m : Nat) (f : TxFrame) : SameDues r (s.release g n bit m f) := by
  obtain ⟨reed, kept⟩ := s.release_serv g n bit m f
  exact (congrArg ServState.lastDue kept).trans h

theorem SameDues.setSeq (h : SameDues r s) (x : PtpStream) (type v : Nat) : SameDues r (s.setSeq x type v) := by
  obtain ⟨sessions, seqs, kept⟩ := s.setSeq_serv x type v
  exact (congrArg ServState.lastDue kept).trans h

theorem SameDues.ite {a b : State} {c : Prop} {d : Decidable c} (h : SameDues r a) (k : SameDues r b) : SameDues r (if c then a else b) := by
  split <;> assumption

theorem SameDues.iteFst {β : Type} {a b : State × β} {c : Prop} {d : Decidable c} (h : SameDues r a.1) (k : SameDues r b.1) :
    SameDues r (if c then a else b).1 := by
  split <;> assumption

theorem SameDues.committed (h : SameDues r s) (x : PtpStream) (type seq due : Nat) : SameDues r (s.committed x type seq due) :=
  .ite (a := { s.setSeq x type (seq + 1) with twin := _ }) (h.setSeq _ _ _) (h.setSeq _ _ _)

theorem SameDues.syncQueue (h : SameDues r s) (g n bit m len : Nat) (now : Int) (build : Int → Option Octets) (frame : Int → Octets → TxFrame) :
    SameDues r (s.syncQueue g n bit m len now build frame).1 := by
  have reserved : SameDues r (s.exactReserve m len s.sys.nextTime now).1 :=
    (congrArg ServState.lastDue ((s.exactReserve_frame m len s.sys.nextTime now).serv_eq rfl)).trans h
  unfold State.syncQueue
  split
  next s1 e => rwa [e] at reserved
  next s1 d e =>
    rw [e] at reserved
    split
    · exact reserved
    · exact reserved.release _ _ _ _ _

/-- An instant that was marked is done. -/
theorem SameDues.doneDue_of_marked {x : PtpStream} {type grid : Nat} (h : SameDues (r.markDue x type grid) s) : s.doneDue x type grid = true := by
  unfold doneDue
  rw [h]
  simp [markDue]

end

/-! ### The instants of a stream (R279, R282) -/

section
variable {s : State} {x : PtpStream} {i m g per phase : Nat} {v : Option Session}

/-- A Sync at or over its ceiling is counted and withheld; below it, it is sent or withheld: all once its instant is marked. -/
theorem syncDue_of_due (dup : Bool) (now : Int) (hx : s.streamOf x false = some (i, m, g, v, per, phase)) (hg : s.serves g = true)
    (hl : s.laneUp g (streamKey x) = true) (hv : s.svcOn 0 = true) (hm : s.macUp m = true) (hp : (s.inst i).p2p = false)
    (ht : (gridNo s.sys.nextTime + per - phase % per) % per = 0) (hd : s.doneDue x 0 (gridNo s.sys.nextTime) = false) :
    SameDues (s.markDue x 0 (gridNo s.sys.nextTime)) (s.syncDue x dup now) ∧
    (s.belowCeiling 0 (boundSum [(s.pairCore (s.coreOf [s.tick + 1])).bound, 1, s.portTerm m]) = false →
      s.syncDue x dup now = ((s.markDue x 0 (gridNo s.sys.nextTime)).inc (Obj.ceilingDrops 0)).withheld x 0 (s.tick + 1)) := by
  unfold syncDue
  rw [hx]
  dsimp only
  rw [if_neg (by simp [hg, hl, hv, hm, hp, ht, hd])]
  refine ⟨.ite (.withheld (.inc (.refl _) _) _ _ _) ?_, fun hb => if_pos (by simp [hb])⟩
  have numbered := ((SameDues.refl (s.markDue x 0 (gridNo s.sys.nextTime))).pairSeq x 0).newItem g (streamKey x)
  split
  · refine .ite (.committed (.takeRed ?copied _) _ _ _ _) (.withheld ?copied _ _ _)
    exact .iteFst (.syncQueue (numbered.syncQueue _ _ _ _ _ _ _ _) _ _ _ _ _ _ _ _) (.inc (numbered.syncQueue _ _ _ _ _ _ _ _) _)
  · exact .ite (.committed (numbered.syncQueue _ _ _ _ _ _ _ _) _ _ _ _) (.withheld (numbered.syncQueue _ _ _ _ _ _ _ _) _ _ _)

/-- An Announce of a due instant, once the instant is marked: at or over its ceiling it is counted and withheld, one that cannot be authenticated is
withheld, and another is released. -/
theorem announceDue_of_due (hx : s.streamOf x true = some (i, m, g, v, per, phase)) (hg : s.serves g = true)
    (hl : s.laneUp g (streamKey x) = true) (hv : s.svcOn 0 = true) (hm : s.macUp m = true)
    (ht : (gridNo s.timeNow + per - phase % per) % per = 0) (hd : s.doneDue x 11 (gridNo s.timeNow) = false) :
    SameDues (s.markDue x 11 (gridNo s.timeNow)) (s.announceDue x) ∧
    (s.belowCeiling 0 (s.pairCore (s.coreOf [s.tick])).bound = true → bitOf (s.inst i).flags 3 = false → s.nextFresh g →
      ((s.announceDue x).mac m).queue.length = (s.mac m).queue.length + 1) := by
  have marked := SameDues.refl (s.markDue x 11 (gridNo s.timeNow))
  unfold announceDue
  rw [hx]
  dsimp only
  rw [if_neg (by simp [hg, hl, hv, hm, ht, hd])]
  split
  next reached => exact ⟨.withheld (marked.inc _) _ _ _, fun hb => absurd reached (by simp [hb])⟩
  next =>
    split
    next unkeyed => exact ⟨.withheld (marked.pairSeq _ _) _ _ _, fun _ hk => absurd (s.keyed_of_finish_eq_none unkeyed) (by simp [hk])⟩
    next =>
      refine ⟨.committed (.release (.newItem (marked.pairSeq _ _) _ _) _ _ _ _ _) _ _ _ _, fun _ _ hr => ?_⟩
      rw [mac_committed, length_queue_release_newItem]
      · rfl
      · exact hr

/-- A follow-up whose Sync has departed takes the departure off: at or over the ceiling it is counted, one that cannot be authenticated goes no
further, and another is released. -/
theorem followUpDue_of_departed {d : Departed} (hpeer : ∀ i m, x ≠ .peer i m)
    (hf : s.serv.departed.find? (fun d => d.kind == 0 && d.key == streamKey x) = some d)
    (hx : s.streamOf x false = some (i, m, g, v, per, phase)) (hg : s.serves g = true) (hl : s.laneUp g (streamKey x) = true)
    (hv : s.svcOn 0 = true) (hm : s.macUp m = true) :
    d ∉ (s.followUpDue x).serv.departed ∧
    (s.belowCeiling 0 (boundSum [(s.pairCore (s.coreOf [d.tick])).bound, 1, s.portTerm m]) = true → bitOf (s.inst i).flags 3 = false →
      s.nextFresh g → ((s.followUpDue x).mac m).queue.length = (s.mac m).queue.length + 1) := by
  have taken : d ∉ s.serv.departed.filter (fun y => y != d) := by simp
  unfold followUpDue
  split
  next i' m' => exact absurd rfl (hpeer i' m')
  next =>
    rw [hf, hx]
    dsimp only
    rw [if_neg (by simp [hg, hl, hv, hm])]
    split
    next reached => exact ⟨taken, fun hb => absurd reached (by simp [hb])⟩
    next =>
      split
      next unkeyed => exact ⟨taken, fun _ hk => absurd (s.keyed_of_finish_eq_none unkeyed) (by simp [hk])⟩
      next =>
        split
        · refine ⟨not_mem_departed_release _ _ _ _ _ _ taken, fun _ _ hr => ?_⟩
          rw [mac_update_twin, length_queue_release_newItem]
          · rfl
          · exact hr
        · refine ⟨not_mem_departed_release _ _ _ _ _ _ taken, fun _ _ hr => ?_⟩
          rw [length_queue_release_newItem]
          · rfl
          · exact hr

end

/-! ### The instants of the peer delay (R281) -/

section
variable {s : State} {i m : Fin 16}

/-- A Pdelay_Resp_Follow_Up whose response has departed takes the departure and the owed message off, whether it is counted, goes no further or is
released. -/
theorem followUpDue_peer_of_departed {d : Departed} {o : OwedFollowUp}
    (ho : ((s.serv.departed.filter fun d => d.kind == 1 && d.key % 256 == 16 * i.val + m.val).findSome? fun d =>
      (s.serv.owed.find? fun o => o.key == d.key && o.tick == d.tick).map fun o => (d, o)) = some (d, o))
    (hg : s.serves i = true) (hl : s.laneUp i (streamKey (.peer i m)) = true) (hm : s.macUp m = true) :
    d ∉ (s.followUpDue (.peer i m)).serv.departed ∧ o ∉ (s.followUpDue (.peer i m)).serv.owed := by
  have taken : d ∉ s.serv.departed.filter (fun y => y != d) ∧ o ∉ s.serv.owed.filter (fun y => y != o) := by simp
  unfold followUpDue
  dsimp only
  rw [ho]
  dsimp only
  rw [if_neg (by simp [hg, hl, hm])]
  split
  · exact taken
  · split
    · exact taken
    · exact taken.imp (not_mem_departed_release _ _ _ _ _ _) (not_mem_owed_release _ _ _ _ _ _)

/-- A Pdelay_Req of a due instant, once the instant is marked: one that cannot be authenticated goes no further, and another is released, its
sequence number and its peer delay noted. -/
theorem pdelayReqDue_of_due (hg : s.serves i = true) (hl : s.laneUp i (streamKey (.peer i m)) = true) (hv : s.svcOn 0 = true)
    (hp : (s.inst i).p2p = true) (hb : bitOf (s.inst i).macs m = true) (hm : s.macUp m = true) (ht : gridNo s.timeNow % 8192 = 0)
    (hd : s.doneDue (.peer i m) 2 (gridNo s.timeNow) = false) :
    SameDues (s.markDue (.peer i m) 2 (gridNo s.timeNow)) (s.pdelayReqDue i m) ∧
    (bitOf (s.inst i).flags 3 = false → s.nextFresh i →
      ((s.pdelayReqDue i m).mac m).queue.length = (s.mac m).queue.length + 1) := by
  have stream : PtpStream.peer ⟨i % 16, Nat.mod_lt _ (by decide)⟩ ⟨m % 16, Nat.mod_lt _ (by decide)⟩ = .peer i m := by
    congr 1
    · exact Fin.ext (Nat.mod_eq_of_lt i.isLt)
    · exact Fin.ext (Nat.mod_eq_of_lt m.isLt)
  have marked := SameDues.refl (s.markDue (.peer i m) 2 (gridNo s.timeNow))
  unfold pdelayReqDue
  dsimp only
  rw [stream, if_neg (by simp [hg, hl, hv, hp, hb, hm, ht, hd])]
  split
  next unkeyed => exact ⟨marked, fun hk => absurd (s.keyed_of_finish_eq_none unkeyed) (by simp [hk])⟩
  next =>
    refine ⟨.update_pdelay (.setSeq (.release (marked.newItem _ _) _ _ _ _ _) _ _ _) _, fun _ hr => ?_⟩
    rw [mac_update_serv, mac_setSeq, length_queue_release_newItem]
    · rfl
    · exact hr

end

/-! ### A client session that enters a state (R289) -/

section
variable (s : State) (c code : Nat)

@[simp] theorem client_setClient_self (v : Client) : (s.setClient c v).client c = v := Sparse.get_put_self _ _ _ _

theorem cst_clientEnter : (s.clientEnter c code).cst c = code := n_setN_self _ _ _

theorem since_clientEnter : ((s.clientEnter c code).client c).since = s.age := by
  rw [clientEnter, client_setClient_self]
  split
  · rfl
  · rfl

theorem o_clientEnter {k : Nat} (hk : k ≠ Obj.ptpClientState c) : (s.clientEnter c code).o k = s.o k :=
  (o_setN s _ _ _).trans (if_neg hk)

end

end State

/-! ### The commands of a client session -/

section
variable {s : State} {c : Fin 24}

theorem exec_clientBackoffExpire_of_over (h3 : s.cst c = 3) (ha : (s.client c).since + 491520 ≤ s.age) :
    exec (.clientBackoffExpire c) s = .next (s.clientEnter c 1) := if_pos ⟨h3, ha⟩

/-- A session ACTIVE without Announce for three intervals goes back to REQUESTING. -/
theorem exec_clientAnnounceTimeout_of_silent (h2 : s.cst c = 2)
    (ha : (s.client c).lastAnnounce + 3 * State.period (s.client c).logAnnounce ≤ s.age) :
    exec (.clientAnnounceTimeout c) s = .next (s.clientEnter c 1) := if_pos ⟨h2, .inr ha⟩

/-- So does one of which a grant has run out. -/
theorem exec_clientAnnounceTimeout_of_lapsed {x : Grant} (h2 : s.cst c = 2) (hmode : (s.ccfg c).mode = 1) (hx : s.grantLive x = false)
    (hg : (s.client c).announce = some x ∨ (s.client c).sync = some x ∨ (s.client c).delay = some x) :
    exec (.clientAnnounceTimeout c) s = .next (s.clientEnter c 1) := by
  refine if_pos ⟨h2, .inl ?_⟩
  obtain hg | hg | hg := hg <;> simp [hmode, hg, hx]

theorem exec_clientGrantRenew_of_due {t : GrantType} {x : Grant} (hw : s.clientWorks c = true) (hr : s.clientRoom c false = true)
    (h2 : s.cst c = 2) (hmode : (s.ccfg c).mode = 1) (hx : x.start + x.dur * 4096 ≤ s.age)
    (hn : Sparse.get (fun _ => 0) (s.client c).sentRenewal t.code ≠ s.age + 1) (ha : t = .announce → (s.client c).announce = some x)
    (hs : t = .sync → (s.client c).sync = some x) (hd : t = .delayResp → (s.client c).delay = some x) :
    exec (.clientGrantRenew c t) s = .next (s.clientRenew c t) := by
  have due : s.renewalDue (some x) = true := decide_eq_true hx
  refine if_pos ?_
  cases t with
  | announce => simp [hw, hr, h2, hmode, ha rfl, due, hn]
  | sync => simp [hw, hr, h2, hmode, hs rfl, due, hn]
  | delayResp => simp [hw, hr, h2, hmode, hd rfl, due, hn]

end

/-- Settles O35: the lemmas above say what each due instant leaves, and the sessions' commands are the branches whose conditions hold. -/
theorem sentMessageCommandsComplete : Obligations.SentMessageCommandsComplete := by
  refine ⟨fun x dup now s => ⟨rfl, rfl, rfl⟩, fun i m s => rfl, fun x dup now i m g per phase v s hx hg hl hv hm hp ht hd => ?_,
    fun x d i m g per phase v s hpeer hf hx hg hl hv hm => ?_, fun i m d o s ho hg hl hm => ?_,
    fun x i m g per phase v s hx hg hl hv hm ht hd => ?_, fun i m s hg hl hv hp hb hm ht hd => ?_, fun c s hw hd hr hn => ?_,
    fun c s hw h1 hmode hr hn => ?_, fun c t x s hw hr h2 hmode hx hn ha hs hd => exec_clientGrantRenew_of_due hw hr h2 hmode hx hn ha hs hd,
    fun c s h3 ha => ⟨exec_clientBackoffExpire_of_over h3 ha, ?_⟩, fun c s h2 ha => ⟨exec_clientAnnounceTimeout_of_silent h2 ha, ?_⟩,
    fun c x s h2 hmode hx hg => exec_clientAnnounceTimeout_of_lapsed h2 hmode hx hg⟩
  · obtain ⟨marked, counted⟩ := State.syncDue_of_due dup now hx hg hl hv hm hp ht hd
    refine ⟨_, rfl, rfl, marked.doneDue_of_marked, (s.syncDue_frame x dup now).mem_eq rfl, fun hb => ?_⟩
    rw [counted hb, State.o_congr ((State.withheld_frame _ _ _ _).obj_eq rfl), State.o_inc, if_pos rfl]
    rfl
  · obtain ⟨taken, queued⟩ := State.followUpDue_of_departed hpeer hf hx hg hl hv hm
    exact ⟨_, rfl, rfl, taken, (s.followUpDue_frame x).mem_eq rfl, queued⟩
  · obtain ⟨taken, given⟩ := State.followUpDue_peer_of_departed ho hg hl hm
    exact ⟨_, rfl, rfl, taken, given, (s.followUpDue_frame _).mem_eq rfl⟩
  · obtain ⟨marked, queued⟩ := State.announceDue_of_due hx hg hl hv hm ht hd
    exact ⟨_, rfl, rfl, marked.doneDue_of_marked, (s.announceDue_frame x).mem_eq rfl, queued⟩
  · obtain ⟨marked, queued⟩ := State.pdelayReqDue_of_due hg hl hv hp hb hm ht hd
    exact ⟨_, rfl, rfl, marked.doneDue_of_marked, (s.pdelayReqDue_frame i m).mem_eq rfl, queued⟩
  · exact (if_neg (by simp [hw])).trans (if_pos (by simp [hd, hr, hn]))
  · refine (if_neg (by simp [hw])).trans ((if_pos ⟨h1, hmode, hn, hr⟩).trans ?_)
    simp [State.clientRequest]
  all_goals
    have entered := s.clientEnter_frame c 1
    exact ⟨s.cst_clientEnter c 1, s.since_clientEnter c 1, fun k hk => s.o_clientEnter c 1 hk, entered.mem_eq rfl, entered.sys_eq rfl,
      entered.net_eq rfl⟩

end Sys2Proof.Machine
end

section
/-!
SUPPORT. The nine vault operations as one family, and the queue that they join (R316 to R318); the public-key engine (R325).
-/

namespace Sys2Proof.Machine

/-- The command of a vault operation (R317). -/
def VaultOp.command (m : VaultMsg) : VaultOp → Instr
  | .sign => .pkSign m
  | .verify => .pkVerify m
  | .ecdh => .pkEcdh m
  | .generate => .generate m
  | .derive => .derive m
  | .proof => .proof m
  | .chalIssue => .chalIssue m
  | .chalRespond => .chalRespond m
  | .attest => .attest m

/-- Each vault operation is the arrival of its message. -/
theorem exec_vaultCommand (op : VaultOp) (m : VaultMsg) (s : State) : exec (op.command m) s = .next (s.vaultArrive op m) := by
  cases op <;> rfl

namespace State

section
variable {s : State} {op : VaultOp} {m : VaultMsg}

theorem serving_of_running (h : s.running = true) : s.serving = true := by
  rw [serving, h, Bool.true_or]

theorem vaultArrive_of_taken (h : (s.accept m.src).2 = true) :
    s.vaultArrive op m = ((s.accept m.src).1.placeRequest m.src (vaultRequest op m)).vaultJudge op m :=
  if_pos h

/-- A message that passes each test of R316 to R318 waits at the end of the queue. -/
theorem vaultJudge_of_admitted (running : s.running = true) (offMint : ∀ k, chanOf m.src = some k → s.isMint k = false)
    (listed : m.src.carrier.cls ∈ opClasses op) (ready : s.o Obj.vaultState = 2) (suits : bodyOk op m = true)
    (length : lenAgrees m.src (16 + m.body.length) = true) (room : s.vault.queue.length < 256) :
    s.vaultJudge op m = { s with vault := { s.vault with queue := s.vault.queue ++ [(op, m)] } } := by
  unfold vaultJudge
  dsimp only
  rw [if_neg (by simp [serving_of_running running]), if_neg (by split <;> simp [*]), if_neg (by simp [running]), if_neg (by simp [listed]),
    if_neg (by simp [ready]), if_neg (by simp [suits, length]), if_neg (by omega)]

end

end State

/-- A vault operation that its carrier takes is judged with its request in the channel. -/
theorem exec_vaultCommand_of_taken (op : VaultOp) {m : VaultMsg} {s : State} (h : (s.accept m.src).2 = true) :
    exec (op.command m) s = .next (((s.accept m.src).1.placeRequest m.src (vaultRequest op m)).vaultJudge op m) := by
  rw [exec_vaultCommand, State.vaultArrive_of_taken h]

theorem exec_pkEngineStart_of_free {s : State} (w3 : s.sys.window = .w3) (free : s.vault.engine = none) (ready : s.o Obj.vaultState = 2) :
    exec .pkEngineStart s = .next (State.startEngine (s.vault.queue.length + 1) s) :=
  if_pos ⟨w3, by rw [free, Option.isNone_none], ready⟩

theorem exec_pkEngineComplete_of_busy {s : State} {j : PkJob} (busy : s.vault.engine = some j) :
    exec .pkEngineComplete s = .next { s with vault := { s.vault with engine := some { j with done := true } } } := by
  show execPkEngineComplete s = _
  rw [execPkEngineComplete, busy, Option.map_some]

/-- Settles O37: the nine operations are one arrival, whose judgement queues the message once each test passes. -/
theorem vaultOperationsComplete : Obligations.VaultOperationsComplete := by
  refine ⟨fun m s taken => ?_, fun op m s u v accepted placed running offMint listed ready suits length room c isCommand => ?_,
    fun s w3 free ready => exec_pkEngineStart_of_free w3 free ready, fun j s busy => exec_pkEngineComplete_of_busy busy⟩
  · have judged (op : VaultOp) := exec_vaultCommand_of_taken op taken
    exact ⟨judged .sign, judged .verify, judged .ecdh, judged .generate, judged .derive, judged .proof, judged .chalIssue,
      judged .chalRespond, judged .attest⟩
  · have named : c = op.command m := by
      rcases isCommand with ⟨rfl, rfl⟩ | ⟨rfl, rfl⟩ | ⟨rfl, rfl⟩ | ⟨rfl, rfl⟩ | ⟨rfl, rfl⟩ | ⟨rfl, rfl⟩ | ⟨rfl, rfl⟩ | ⟨rfl, rfl⟩ | ⟨rfl, rfl⟩ <;>
        rfl
    rw [named, exec_vaultCommand_of_taken op (congrArg Prod.snd accepted), accepted, placed,
      State.vaultJudge_of_admitted running offMint listed ready suits length room]

end Sys2Proof.Machine
end

section
/-!
SUPPORT. The commands of the host: their footprints.
-/

namespace Sys2Proof.Machine

section
variable (s : State)

theorem execMbxUnknownOp_frame (k : Fin 16) (seq op : Fin 65536) : FrameO 16386 s (execMbxUnknownOp k seq op s) := by
  unfold execMbxUnknownOp
  split
  · exact .next (.refl _ _)
  · exact .next (State.unknownOp_frame _ _ _ _)

/-- An address of the port that was asked for is noted as answered (R339). -/
theorem execMgmtArpNd_frame (target : Octets) : FrameO 16384 s (execMgmtArpNd target s) := by
  have answered : Frame 16384 s { s with host := { s.host with arpAnswered := some target } } := .up14 (.refl _ _) rfl
  exact .ite_next answered

theorem execPcieLinkUp_frame (rate : Fin 6) (width : Fin 16) : FrameO 16386 s (execPcieLinkUp rate width s) :=
  .ite_next (.of (State.postHeld_frame _) ((State.setN_frame _ _ _).mono rfl) rfl)

theorem execPcieLinkDown_frame : FrameO 2 s (execPcieLinkDown s) :=
  .ite_next (.of (State.inc_frame _ _) (State.setN_frame _ _ _) rfl)

theorem execD2hAck_frame (k : Fin 16) (seq : Fin 65536) : FrameO 16384 s (execD2hAck k seq s) := by
  unfold execD2hAck
  dsimp only
  split
  · exact .ite_next (State.setNotices_frame _ _ _)
  · exact .next (.refl _ _)

/-- The high half of the tick count is latched (R346). -/
theorem execTickLoRead_frame (fn : Fin 2) : FrameO 16384 s (execTickLoRead fn s) := by
  have latched : Frame 16384 s { s with
      host := { s.host with tickHi := Sparse.put (fun _ => 0) s.host.tickHi fn (s.tick / 2 ^ 32 % 2 ^ 32) } } := .up14 (.refl _ _) rfl
  exact .ite_next latched

end

/-- Each command of the host keeps its footprint. -/
theorem hostCommand_frame (c : Instr) (s : State) (hc : Safety.family c = .host) :
    FrameO (partsMask (Safety.footprint c)) s (exec c s) := by
  cases c with
  | dictRead | dictWrite | dictDescribe => exact FrameO.footprint (.next (State.dictArrive_frame _ _))
  | dictBatchApply => exact FrameO.footprint (.ite_next (State.boundaryBatches_frame _ _))
  | mbxUnknownOp => exact FrameO.footprint (execMbxUnknownOp_frame _ _ _ _)
  | mgmtRequestReceive => exact FrameO.footprint (.next (State.mgmtReceive_frame _ _))
  | mgmtCacheExpiry => exact FrameO.footprint (.next (State.expireCache_frame _))
  | mgmtArpNd => exact FrameO.footprint (execMgmtArpNd_frame _ _)
  | pcieLinkUp => exact FrameO.footprint (execPcieLinkUp_frame _ _ _)
  | pcieLinkDown => exact FrameO.footprint (execPcieLinkDown_frame _)
  | pcieFlr => exact FrameO.footprint (.ite_next (State.functionReset_frame _ _))
  | chanReset => exact FrameO.footprint (.ite_next (State.setChan__frame _ _ _))
  | d2hAck => exact FrameO.footprint (execD2hAck_frame _ _ _)
  | d2hNoticeDeliver => exact FrameO.footprint (.ite_next (State.deliverNotice_frame _ _))
  | ringEnable => exact FrameO.footprint (.ite_next (State.ringStart_frame _ _ _ _ _))
  | ringConsumerWrite => exact FrameO.footprint (.ite_next (State.setRingReg_frame _ _ _ _ _ _))
  | tickLoRead => exact FrameO.footprint (execTickLoRead_frame _ _)
  | counterDump => exact FrameO.footprint (.ite_next (State.counterDump_frame _ _))
  | registerWrite => exact FrameO.footprint (.ite_next (State.registerWrite_frame _ _ _ _))
  | _ => cases hc

/-- Settles O17: the frame of each command lies inside its footprint. -/
theorem hostCommandsFrame : Obligations.HostCommandsFrame :=
  fun c s t hc ht => (hostCommand_frame c s hc t ht).onlyChanges

end Sys2Proof.Machine
end

section
/-!
SUPPORT. The mailbox channels and the dictionary: what a doorbell and the end of a message leave, and what a dictionary message
meets when it arrives (R333 to R336, R348).
-/

namespace Sys2Proof.Machine

namespace State

/-! ### A channel written (in a name, `mbx` is `chan_` and `setMbx` is `setChan_`) -/

section
variable (s : State) (k : Nat) (v : Channel)

@[simp] theorem mbx_setMbx_self : (s.setChan_ k v).chan_ k = v := Sparse.get_put_self _ _ _ _

@[simp] theorem mbx_inc (j : Nat) : (s.inc j).chan_ k = s.chan_ k := rfl

@[simp] theorem mbx_vector (fn j : Nat) : (s.vector fn j).chan_ k = s.chan_ k := by
  unfold vector
  split <;> rfl

/-- The objects but MBX_STATE stay. -/
theorem setMbx_o {j : Nat} (hj : j ≠ Obj.mbxState k) : (s.setChan_ k v).o j = s.o j := o_setO_ne _ _ hj

theorem setMbx_pcieUp : (s.setChan_ k v).pcieUp = s.pcieUp := by
  rw [pcieUp, n, setMbx_o, setMbx_o, pcieUp, n]
  all_goals
    simp only [Obj.cdStatus, Obj.pcieLink, Obj.mbxState, ne_eq]
    omega

theorem setMbx_running : (s.setChan_ k v).running = s.running := by
  rw [running, mode, setMbx_o, running, mode]
  simp only [Obj.modeCurrent, Obj.mbxState, ne_eq]
  omega

end

/-! ### A doorbell, and the end of a message (R348) -/

section
variable {s : State} {k : Nat}

/-- A message that waits in a channel after its doorbell. -/
def rung (s : State) (k seq : Nat) : State := s.setChan_ k { s.chan_ k with phase := .waiting, done := false, seq := seq }

theorem doorbell_of_idle (seq : Nat) (up : s.pcieUp = true) (idle : (s.chan_ k).phase = .idle) : s.doorbell k seq = (s.rung k seq, true) :=
  (if_neg (by simp [up])).trans (if_neg (not_not.mpr idle))

/-- A doorbell of a channel that is not idle is counted and not taken. -/
theorem doorbell_of_busy (seq : Nat) (up : s.pcieUp = true) (busy : (s.chan_ k).phase ≠ .idle) :
    s.doorbell k seq = ((s.setChan_ k { s.chan_ k with overrun := true }).inc (Obj.mbxOverruns k), false) :=
  (if_neg (by simp [up])).trans (if_pos busy)

/-- With the link up a message ends with its channel idle, DONE set and its sequence number acknowledged. -/
theorem mbx_chanDone_of_up (code : Nat) (reply : Octets) (up : s.pcieUp = true) :
    (s.chanDone k code reply).chan_ k = { s.chan_ k with
      phase := .idle, done := true, ackSeq := (s.chan_ k).seq, ackCode := code, rspLen := reply.length, reply := reply
      resetDue := false, held := none } := by
  unfold chanDone
  extract_lets c c1 s1
  have written : s1.chan_ k = c1 := s.mbx_setMbx_self k c1
  rw [if_neg (by simp [up])]
  split
  · exact (s1.mbx_vector k _ _).trans written
  · exact written

/-- An operation that the channel does not serve is answered at once on an idle channel, in a mode with ticks. -/
theorem unknownOp_of_idle (seq op : Nat) (up : s.pcieUp = true) (idle : (s.chan_ k).phase = .idle) (running : s.running = true) :
    s.unknownOp k seq op = (s.rung k seq).chanDone k (unknownCode k op) [] := by
  have serves : (s.rung k seq).serving = true := serving_of_running ((s.setMbx_running k _).trans running)
  unfold unknownOp
  rw [doorbell_of_idle seq up idle]
  exact if_pos serves

theorem unknownOp_of_busy (seq op : Nat) (up : s.pcieUp = true) (busy : (s.chan_ k).phase ≠ .idle) :
    s.unknownOp k seq op = (s.setChan_ k { s.chan_ k with overrun := true }).inc (Obj.mbxOverruns k) := by
  unfold unknownOp
  rw [doorbell_of_busy seq up busy]
  rfl

end

/-! ### The arrival of a dictionary message (R334, R336) -/

section
variable {s u : State} {m : DictMsg}

theorem mode_ne_mBoot_of_running (h : s.running = true) : s.mode ≠ mBoot := by
  have range := of_decide_eq_true h
  rw [mBoot]
  omega

section
variable (taken : (s.accept m.src).2 = true) (placed : (s.accept m.src).1.placeRequest m.src (requestOctets m) = u)
include taken placed

/-- Outside BOOT and before W3, a message that its carrier takes waits. -/
theorem dictArrive_of_before_w3 (mode : u.mode ≠ mBoot) (window : u.sys.window ≠ .w3) :
    s.dictArrive m = { u with host := { u.host with waiting := u.host.waiting ++ [m] } } := by
  unfold dictArrive
  simp [taken, placed, mode, window]

/-- In BOOT, with the images loaded, it is served at once. -/
theorem dictArrive_of_loaded (mode : u.mode = mBoot) (loaded : u.power.loaded = true) : s.dictArrive m = u.serveMsg m := by
  unfold dictArrive
  simp [taken, placed, mode, loaded]

/-- In W3, in time, with nothing before it and time left, it is served and its immediate writes apply. -/
theorem dictArrive_of_w3 (running : u.running = true) (window : u.sys.window = .w3) (inTime : m.src.late = false)
    (first : u.host.waiting = []) (fits : u.canServe m = true) :
    s.dictArrive m = ((u.servedOne m).serveMsg m).applyImmediate false := by
  unfold dictArrive
  simp [taken, placed, mode_ne_mBoot_of_running running, running, window, inTime, first, fits]

end
end

end State

/-! ### The commands of the dictionary -/

section
variable {s : State}

/-- The three dictionary commands are one arrival. -/
theorem exec_dictCommand {m : DictMsg} {c : Instr} (h : c = .dictRead m ∨ c = .dictWrite m ∨ c = .dictDescribe m) :
    exec c s = .next (s.dictArrive m) := by
  obtain rfl | rfl | rfl := h <;> rfl

theorem exec_dictBatchApply_of_w3 (bad : Bool) (running : s.running = true) (window : s.sys.window = .w3) :
    exec (.dictBatchApply bad) s = .next (s.boundaryBatches bad) :=
  if_pos (by simp [running, window])

theorem exec_mbxUnknownOp_of_unserved {k : Fin 16} {op : Fin 65536} (seq : Fin 65536) (h : opServed (s.isMint k) op = false) :
    exec (.mbxUnknownOp k seq op) s = .next (s.unknownOp k seq op) :=
  if_neg (by simp [h])

end

/-- Settles O38: the three messages are one arrival, judged by its carrier, mode and window; an operation not served ends at once or counts. -/
theorem dictionaryCommandsComplete : Obligations.DictionaryCommandsComplete := by
  refine ⟨fun m s => ⟨rfl, rfl, rfl⟩, fun k seq op s unserved => exec_mbxUnknownOp_of_unserved seq unserved,
    fun m s u taken placed mode window c hc => ?_, fun m s u taken placed mode loaded c hc => ?_,
    fun m s u taken placed running window inTime first fits c hc => ?_,
    fun bad s running window => exec_dictBatchApply_of_w3 bad running window, fun k seq op s unserved up idle running => ?_,
    fun k seq op s unserved up busy => ?_⟩
  · rw [exec_dictCommand hc, State.dictArrive_of_before_w3 taken placed mode window]
  · rw [exec_dictCommand hc, State.dictArrive_of_loaded taken placed mode loaded]
  · rw [exec_dictCommand hc, State.dictArrive_of_w3 taken placed running window inTime first fits]
  · have kept := s.unknownOp_frame k seq op
    have ended := (s.rung k seq).mbx_chanDone_of_up (unknownCode k op) [] (k := k) ((s.setMbx_pcieUp k _).trans up)
    rw [← State.unknownOp_of_idle seq op up idle running] at ended
    refine ⟨_, exec_mbxUnknownOp_of_unserved seq unserved, ?_, ?_, ?_, kept.mem_eq rfl, kept.sys_eq rfl⟩
    · rw [ended]
    · rw [ended]
    · rw [ended]
      exact congrArg Channel.seq (s.mbx_setMbx_self k _)
  · have kept := s.unknownOp_frame k seq op
    refine ⟨_, exec_mbxUnknownOp_of_unserved seq unserved, ?_, ?_, kept.mem_eq rfl, kept.sys_eq rfl⟩
    · rw [State.unknownOp_of_busy seq op up busy, State.mbx_inc, State.mbx_setMbx_self]
    · rw [State.unknownOp_of_busy seq op up busy, State.o_inc, if_pos rfl, State.setMbx_o]
      simp only [Obj.mbxOverruns, Obj.mbxState, ne_eq]
      omega

end Sys2Proof.Machine
end

section
/-!
SUPPORT. The management port: the tests that a datagram meets, and the addresses that the port answers for (R339 to R341).
-/

namespace Sys2Proof.Machine

namespace State

section
variable {s : State} {d : MgmtDatagram}

/-! ### The tests of a datagram, in their order -/

section
variable (on : s.mgmtOn = true) (untagged : d.tagged = false) (own : s.mgmtAddress d.dst = true)
include on untagged own

theorem mgmtReceive_addressed : ¬((!s.expireCache.mgmtOn || d.tagged || !s.expireCache.mgmtAddress d.dst) = true) := by
  have asBefore : s.expireCache.mgmtOn = s.mgmtOn ∧ s.expireCache.mgmtAddress d.dst = s.mgmtAddress d.dst := ⟨rfl, rfl⟩
  simp [asBefore, on, untagged, own]

theorem mgmtReceive_of_fragment (fragment : d.fragment = true) : s.mgmtReceive d = s.expireCache.inc Obj.mgmtMalformed :=
  (if_neg (mgmtReceive_addressed on untagged own)).trans (if_pos fragment)

section
variable (whole : d.fragment = false) (port : d.dstPort = 47300)
include whole port

/-- A datagram from an address that is not allowed is rejected. -/
theorem mgmtReceive_of_not_allowed (foreign : s.allowed d.addr = false) : s.mgmtReceive d = s.expireCache.inc Obj.mgmtRejectedSrc := by
  have rejected : (!s.expireCache.allowed d.addr) = true := congrArg not foreign
  exact (if_neg (mgmtReceive_addressed on untagged own)).trans ((if_neg (by simp [whole])).trans ((if_neg (not_not.mpr port)).trans
    (if_pos rejected)))

/-- A well-formed request whose transaction is not in the cache gets an entry there while there is room. -/
theorem mgmtReceive_of_fresh (allowed : s.allowed d.addr = true) (magic : d.magic = 0x4F44) (version : d.version = 1)
    (complete : d.complete = true) (op : d.op = 1 ∨ (0x0206 ≤ d.op ∧ d.op ≤ 0x0209))
    (fresh : ∀ e ∈ s.expireCache.host.cache, ¬(e.addr = d.addr ∧ e.port = d.port ∧ e.transaction = d.transaction))
    (room : s.expireCache.host.cache.length < 4096) :
    s.mgmtReceive d = State.inc { s with host := { s.host with
      cache := s.expireCache.host.cache ++ [⟨d.addr, d.port, d.transaction, none, []⟩] } } Obj.mgmtRequests := by
  have taken : ¬((!s.expireCache.allowed d.addr) = true) := Bool.eq_false_iff.mp (congrArg not allowed)
  have absent : s.expireCache.host.cache.find? (fun e => e.addr == d.addr && e.port == d.port && e.transaction == d.transaction) = none :=
    List.find?_eq_none.mpr fun e he => by simpa [and_assoc] using fresh e he
  refine (if_neg (mgmtReceive_addressed on untagged own)).trans ((if_neg (by simp [whole])).trans ((if_neg (not_not.mpr port)).trans
    ((if_neg taken).trans ((if_neg (by simpa [magic, version, complete] using or_iff_not_imp_left.mp op)).trans ?_))))
  dsimp only
  rw [absent]
  exact if_pos room

end
end

/-! ### The addresses of the port (R339) -/

theorem mgmtAddress_ipv4 (h : octets (s.blob Obj.mgmtIpv4) 0 4 ≠ zeros 4) :
    s.mgmtAddress (zeros 10 ++ [0xFF, 0xFF] ++ octets (s.blob Obj.mgmtIpv4) 0 4) = true := by
  unfold mgmtAddress
  simp [h]

theorem mgmtAddress_ipv6 (h : octets (s.blob Obj.mgmtIpv6) 0 16 ≠ zeros 16) :
    s.mgmtAddress (octets (s.blob Obj.mgmtIpv6) 0 16) = true := by
  unfold mgmtAddress
  simp [h]

end

end State

/-- An address of the port that was asked for, IPv4 mapped into 16 octets, is answered. -/
theorem exec_mgmtArpNd_of_own {s : State} {target : Octets} (on : s.mgmtOn = true)
    (own : s.mgmtAddress (if target.length = 4 then zeros 10 ++ [0xFF, 0xFF] ++ target else target) = true) :
    exec (.mgmtArpNd target) s = .next { s with host := { s.host with arpAnswered := some target } } :=
  if_pos (Bool.and_eq_true_iff.mpr ⟨on, own⟩)

/-- Settles O39: each clause is one branch of the tests of a datagram, of the expiry or of the addresses. -/
theorem managementCommandsComplete : Obligations.ManagementCommandsComplete := by
  refine ⟨fun d s on untagged own fragment => ?_, fun d s on untagged own whole port foreign => ?_,
    fun d s on untagged own whole port allowed magic version complete op fresh room => ?_, fun s => ?_,
    fun target s on length ipv4 set => exec_mgmtArpNd_of_own on ?_, fun target s on length ipv6 set => exec_mgmtArpNd_of_own on ?_⟩
  · exact congrArg _ (State.mgmtReceive_of_fragment on untagged own fragment)
  · exact congrArg _ (State.mgmtReceive_of_not_allowed on untagged own whole port foreign)
  · exact congrArg _ (State.mgmtReceive_of_fresh on untagged own whole port allowed magic version complete op fresh room)
  · refine congrArg (fun cache => Host.Outcome.next { s with host := { s.host with cache := cache } }) (List.filter_congr fun e _ => ?_)
    obtain ⟨addr, port, transaction, sent, reply⟩ := e
    cases sent <;> rfl
  · subst ipv4
    rw [if_pos length]
    exact State.mgmtAddress_ipv4 set
  · subst ipv6
    rw [if_neg (by omega)]
    exact State.mgmtAddress_ipv6 set

end Sys2Proof.Machine
end

section
/-!
SUPPORT. The delivery of a notice writes MBX_STATE of its channel again (R350): the refutation of the statement that it changes no object.
-/

namespace Sys2Proof.Machine

/-- A notice that is delivered writes its channel, and MBX_STATE with it: 1 for a busy channel, 2 for a reply ready, else 0. -/
theorem mbxState_of_d2hNoticeDeliver {s t : State} {k : Fin 16} {x : Notice} {rest : List Notice} (up : s.pcieUp = true) (alive : s.alive = true)
    (free : (s.notices k).out = none) (waiting : (s.notices k).queued = x :: rest) (h : exec (.d2hNoticeDeliver k) s = .next t) :
    t.o (Obj.mbxState k) = ((if (s.chan_ k).phase ≠ .idle then 1 else if (s.chan_ k).done then 2 else 0 : Nat) : Int) := by
  have delivered : exec (.d2hNoticeDeliver k) s = .next (s.deliverNotice k) := if_pos (by simp [up, alive])
  rw [delivered] at h
  obtain rfl := Host.Outcome.next.inj h
  unfold State.deliverNotice
  simp only [free, waiting]
  rw [State.o_congr ((State.vector_frame _ _ _).obj_eq rfl)]
  exact State.o_setO_self _ _ _

/-- Refutes O40: its clause on the notice delivered has the objects stay in every state, and in a state whose MBX_STATE says busy (1) while the
channel is idle, the delivery writes it to 0. -/
theorem not_pcieCommandsComplete : ¬ Obligations.PcieCommandsComplete := by
  intro h
  obtain ⟨-, -, -, -, -, -, -, -, deliver, -⟩ := h
  let s : State := {
    (((State.reset.setO Obj.modeCurrent 4).setO Obj.pcieLink 20).setO Obj.cdStatus (2 ^ 35)).setO (Obj.mbxState 0) 1 with
    host := { notices := [(0, { queued := [⟨0, []⟩] })] } }
  have up : s.pcieUp = true := by decide
  have alive : s.alive = true := by decide
  obtain ⟨t, answer, -, -, -, -, objects, -⟩ := deliver 0 ⟨0, []⟩ [] s up alive rfl rfl
  have written : t.o (Obj.mbxState 0) = 0 := mbxState_of_d2hNoticeDeliver up alive rfl rfl answer
  have stale : s.o (Obj.mbxState 0) = 1 := by decide
  rw [State.o_congr objects, stale] at written
  exact absurd written (by decide)

end Sys2Proof.Machine
end

section
/-!
SUPPORT. The commands of groves and memory, of faults and the twin, of records, flash and the supply, and of the side buses: their footprints,
and with them the footprint of every command.
-/

namespace Sys2Proof.Machine

/-- A frame carried on by the condition of a command. -/
theorem FrameO.ite {m : Nat} {r : State} {o p : Host.Outcome State Fault Refusal} {c : Prop} {d : Decidable c} (h : FrameO m r o)
    (k : FrameO m r p) : FrameO m r (if c then o else p) := by
  split <;> assumption

/-- A command that leaves the state as it is. -/
theorem FrameO.idle (m : Nat) (s : State) : FrameO m s (.next s) := .next (.refl m s)

section
variable (s : State)

/-! ### Groves and memory -/

theorem execGroveRampSlot_frame (g : Fin 16) : FrameO 18 s (execGroveRampSlot g s) := by
  have reached : Frame 18 s { s with sys := { s.sys with rampWait := Sparse.put (fun _ => none) s.sys.rampWait g.val none } } := .up4 (.refl _ _) rfl
  exact .ite (.ite (.next (.of (State.setO_frame _ _ _) reached rfl)) (.next reached)) (.idle _ s)

/-- An injection, a parity error and a failed share check come before the lane is served (R314, R368, R391). -/
theorem execAesJob_frame (g : Fin 16) (e : Fin 17) (cycle : Nat) (nts parity fail : Bool) :
    FrameO 776542 s (execAesJob g e cycle nts parity fail s) := by
  unfold execAesJob
  refine .ite (.idle _ s) ?_
  split
  · exact .idle _ s
  · extract_lets k hitP s1 hitF s2 ctx clear
    have h1 : Frame 776542 s s1 := .ite ((State.injConsume_frame _).mono rfl) (.refl _ _)
    have h2 : Frame 776542 s s2 := .ite (.of (State.injConsume_frame _) h1 rfl) h1
    have hctx (b : Bool) {t : State} (h : Frame 776542 s t) : Frame 776542 s (ctx b t) := .up6 h rfl
    have hclear {t : State} (h : Frame 776542 s t) : Frame 776542 s (clear t) := .up6 h rfl
    split
    next s3 out1 e3 =>
      have h3 : Frame 776542 s s3 := .fst e3 (.iteFst (hclear (.of (State.raise_frame _ _ _ _) (hctx hitP h2) rfl)) h2)
      extract_lets s4 s5
      have h4 : Frame 776542 s s4 := .ite (.of (State.aesOut_frame _ _ _) h3 rfl) h3
      have h5 : Frame 776542 s s5 :=
        .ite (hclear (.of (State.aesOut_frame _ _ _) (.of (State.faulted_frame _ _ _ _) (hctx hitF h4) rfl) rfl)) h4
      exact .next (.of (State.aesServe_frame _ _ _ _ _) h5 rfl)

theorem execMemWriteBack_frame (bank : Fin 21) (word : Nat) (value : Fin 18446744073709551616) :
    FrameO 294920 s (execMemWriteBack bank word value s) := by
  refine .ite (.fault _ _ _) (.ite_next ?_)
  exact .of (State.countWriteBack_frame _ _ _) (.of (State.writeWord_frame _ _ _ _) (.up15 (.refl _ s) rfl) rfl) rfl

theorem execMemReread_frame (bank : Fin 21) (word : Nat) (still : Bool) : FrameO 32768 s (execMemReread bank word still s) :=
  .ite (.fault _ _ _) (.ite_next (.up15 (.refl _ s) rfl))

/-! ### Faults and the twin -/

theorem execInjRequest_frame (cls : PortClass) (blob : Octets) : FrameO 18 s (execInjRequest cls blob s) :=
  .ite (.idle _ s) (.ite (.next ((State.addDue_frame _ _ _).mono rfl)) (.next ((State.inc_frame _ _).mono rfl)))

theorem execTwinBulkReceive_frame (b : Bulk) : FrameO 66562 s (execTwinBulkReceive b s) := by
  have refused (status : Nat) : Frame 66562 s (s.joinRefuse status) := (State.joinRefuse_frame _ _).mono rfl
  exact .ite (.idle _ s) (.ite (.ite (.next (refused 4)) (.ite (.next (refused 8)) (.next (.up16 (.refl _ s) rfl))))
    (.ite_next (.up16 (.refl _ s) rfl)))

theorem execTwinJoinBoundary_frame : FrameO 1048534 s (execTwinJoinBoundary s) := by
  unfold execTwinJoinBoundary
  split
  · exact .ite_next (State.joinNow_frame _)
  · exact .idle _ s

theorem execColdTake_frame : FrameO 65538 s (execColdTake s) := by
  unfold execColdTake
  dsimp only
  split
  · exact .ite_next (.of (State.inc_frame _ _) (.up16 (.refl _ s) rfl) rfl)
  · exact .idle _ s

theorem execYethalAlignmentLoss_frame : FrameO 65538 s (execYethalAlignmentLoss s) :=
  .ite (.next (.up16 (.refl _ s) rfl)) (.ite_next (State.joinRefuse_frame _ _))

/-! ### The side buses -/

theorem execI2cXfer_frame (cls : PortClass) (ctl : Fin 2) (blob : Octets) : FrameO 524294 s (execI2cXfer cls ctl blob s) := by
  refine .ite ?_ (.idle _ s)
  split
  · exact .next (State.i2cXfer_frame _ _ _)
  · exact .idle _ s

end

/-! ### Each family -/

/-- Each command of groves and memory keeps its footprint. -/
theorem shuttleCommand_frame (c : Instr) (s : State) (hc : Safety.family c = .shuttle) :
    FrameO (partsMask (Safety.footprint c)) s (exec c s) := by
  cases c with
  | groveStart => exact FrameO.footprint (.ite_next (State.groveStarting_frame _ _))
  | engineSelftestComplete => exact FrameO.footprint (.ite_next (State.selftested_frame _ _ _ _))
  | groveRampSlot => exact FrameO.footprint (execGroveRampSlot_frame _ _)
  | groveRetryExpire => exact FrameO.footprint (k := 66) (.ite_next (.of (State.groveStarting_frame _ _) ((State.inc_frame _ _).mono rfl) rfl))
  | engineFail => exact FrameO.footprint (.next (State.engineFail_frame _ _ _))
  | engineWatchdogExpire => exact FrameO.footprint (.ite_next (State.engineFail_frame _ _ _))
  | takeoverLoadComplete => exact FrameO.footprint (.next (State.takeoverDone_frame _ _))
  | aesJob => exact FrameO.footprint (execAesJob_frame _ _ _ _ _ _ _)
  | memWriteBack => exact FrameO.footprint (execMemWriteBack_frame _ _ _ _)
  | memReread => exact FrameO.footprint (execMemReread_frame _ _ _ _)
  | scrubRead => exact FrameO.footprint (.ite_next (State.scrubRead_frame _ _ _))
  | scrubPassLate => exact FrameO.footprint (k := 32770) (.ite_next (.of (State.inc_frame _ _) (.up15 (.refl _ s) rfl) rfl))
  | dirGets | dirGetm => exact FrameO.footprint (.next (State.dirServe_frame _ _ _))
  | dirPutm => exact FrameO.footprint (.next (State.putLine_frame _ _ _))
  | _ => cases hc

/-- Each command of faults keeps its footprint. -/
theorem faultCommand_frame (c : Instr) (s : State) (hc : Safety.family c = .faults) :
    FrameO (partsMask (Safety.footprint c)) s (exec c s) := by
  cases c with
  | faultReport => exact FrameO.footprint (.next (State.report_frame _ _))
  | aonClockLoss => exact FrameO.footprint (.ite_next (State.aonLost_frame _))
  | eventLogWrite =>
    exact FrameO.footprint (k := 540758) (.ite_next (.of (State.formNotices_frame _ _) ((State.flushLog_frame _ _ _).mono rfl) rfl))
  | faultAutoAck => exact FrameO.footprint (.ite_next (State.autoAck_frame _))
  | faultAck => exact FrameO.footprint (.ite_next (State.ackUpTo_frame _ _))
  | aliveToggle => exact FrameO.footprint (.ite_next (State.setF_frame _ _ _))
  | injRequest => exact FrameO.footprint (execInjRequest_frame _ _ _)
  | injCancel => exact FrameO.footprint (.ite_next (State.addDue_frame _ _ _))
  | _ => cases hc

/-- Each command of the twin keeps its footprint. -/
theorem twinCommand_frame (c : Instr) (s : State) (hc : Safety.family c = .twin) :
    FrameO (partsMask (Safety.footprint c)) s (exec c s) := by
  cases c with
  | twinLinkDetect | twinJoinRetry => exact FrameO.footprint (.ite_next (State.twinLink_frame _))
  | twinJoinTimeout => exact FrameO.footprint (.ite_next (State.joinRefuse_frame _ _))
  | twinHelloReceive => exact FrameO.footprint (.ite_next (State.helloReceive_frame _ _))
  | twinBulkReceive => exact FrameO.footprint (execTwinBulkReceive_frame _ _)
  | twinJoinBoundary => exact FrameO.footprint (execTwinJoinBoundary_frame _)
  | twinAgreeReceive => exact FrameO.footprint (.ite_next (State.agreeReceive_frame _ _))
  | twinAgreeDeadline => exact FrameO.footprint (k := 65538) (.ite_next (.of (State.inc_frame _ _) (.up16 (.refl _ s) rfl) rfl))
  | twinUrgentReceive | twpPulseDrive => exact FrameO.footprint (k := 65536) (.ite_next (.up16 (.refl _ s) rfl))
  | twinForwardReceive => exact FrameO.footprint (.ite_next (State.forwardReceive_frame _ _ _))
  | twpEdgeReceive => exact FrameO.footprint (.ite_next (State.twpEdge_frame _ _ _ _))
  | ownSwitchInstant => exact FrameO.footprint (.next (State.switchOwn_frame _ _))
  | ownInFall => exact FrameO.footprint (.next (State.ownInLow_frame _))
  | ownContention => exact FrameO.footprint (.ite_next (State.contention_frame _))
  | coldTake => exact FrameO.footprint (execColdTake_frame _)
  | twinHandover | twinLeave | twinRejoin => exact FrameO.footprint (.ite_next (State.addDue_frame _ _ _))
  | yethalAlignmentLoss => exact FrameO.footprint (execYethalAlignmentLoss_frame _)
  | twinStateTransferRequest => exact FrameO.footprint (.ite_next (State.twinSend_frame _ _))
  | _ => cases hc

/-- Each command of records, flash and the supply keeps its footprint. -/
theorem storageCommand_frame (c : Instr) (s : State) (hc : Safety.family c = .storage) :
    FrameO (partsMask (Safety.footprint c)) s (exec c s) := by
  cases c with
  | captureCopy => exact FrameO.footprint (.next (State.captureCopy_frame _ _))
  | replayLoad => exact FrameO.footprint (.next (State.replayLoad_frame _ _))
  | flashRead | flashSectorErase | flashBlockErase => exact FrameO.footprint (.next (State.flashAsk_frame _ _ _))
  | flashProgram => exact FrameO.footprint (.ite_next (State.flashAsk_frame _ _ _))
  | flashCommandComplete => exact FrameO.footprint (.next (State.flashComplete_frame _ _))
  | journalIntervalExpire => exact FrameO.footprint (.ite_next (State.journalTrigger_frame _))
  | journalNow => exact FrameO.footprint (.ite_next (State.addDue_frame _ _ _))
  | journalWriteComplete => exact FrameO.footprint (.next (State.journalDone_frame _ _))
  | avsReadback | pmbusAlert => exact FrameO.footprint (.ite_next (State.avsRead_frame _ _ _))
  | thermalSensorRead => exact FrameO.footprint (.ite_next (State.thermalRead_frame _ _))
  | thermalTrip => exact FrameO.footprint (.next (State.thermalTrip_frame _ _))
  | sentinelMeasure => exact FrameO.footprint (.next (State.sentinelTake_frame _ _))
  | selvagePlanStart => exact FrameO.footprint (.next (State.planStart_frame _))
  | selvagePlanComplete => exact FrameO.footprint (.next (State.planComplete_frame _))
  | ageUpdate => exact FrameO.footprint (.ite_next (State.ageSecond_frame _))
  | _ => cases hc

/-- Each command of the side buses keeps its footprint. -/
theorem sideBusCommand_frame (c : Instr) (s : State) (hc : Safety.family c = .sideBuses) :
    FrameO (partsMask (Safety.footprint c)) s (exec c s) := by
  cases c with
  | dsteerInterval => exact FrameO.footprint (.ite_next (State.steerInterval_frame _ _))
  | i2cXfer => exact FrameO.footprint (execI2cXfer_frame _ _ _ _)
  | i2cTransactionStart => exact FrameO.footprint (.ite_next (State.i2cStart_frame _ _))
  | i2cTransactionDone => exact FrameO.footprint (.ite_next (State.i2cDone_frame _ _ _))
  | i2cArbitrationLost => exact FrameO.footprint (.ite_next (State.i2cLost_frame _ _))
  | i2cBusFree => exact FrameO.footprint (.ite_next (State.i2cBusFree_frame _ _))
  | i2cStretchTimeout => exact FrameO.footprint (.ite_next (State.i2cStretch_frame _ _ _))
  | i2cBusReset => exact FrameO.footprint (.ite_next (State.i2cReset_frame _ _ _))
  | i2cRecoveryAttempt => exact FrameO.footprint (.ite_next (State.i2cAttempt_frame _ _ _))
  | i2cTargetSetOffset => exact FrameO.footprint (k := 524288) (.ite (.idle _ s) (.next (.up19 (.refl _ s) rfl)))
  | i2cTargetRead => exact FrameO.footprint (.ite (.idle _ s) (.next (State.targetRead_frame _ _)))
  | jtagBypass | jtagIdcode | jtagSamplePreload => exact FrameO.footprint (k := 524288) (.next (.up19 (.refl _ s) rfl))
  | jtagExtest | jtagExtestPulse | jtagExtestTrain => exact FrameO.footprint (.next (State.jtagDrive_frame _ _))
  | _ => cases hc

/-- Settles O19: the frame of each command lies inside its footprint. -/
theorem faultAndTwinCommandsFrame : Obligations.FaultAndTwinCommandsFrame :=
  fun c s t hc ht => (hc.elim (faultCommand_frame c s) (twinCommand_frame c s) t ht).onlyChanges

/-- Settles O20: the frame of each command lies inside its footprint. -/
theorem storageAndBusCommandsFrame : Obligations.StorageAndBusCommandsFrame :=
  fun c s t hc ht => (hc.elim (storageCommand_frame c s) (sideBusCommand_frame c s) t ht).onlyChanges

/-! ### Every command -/

/-- Each command keeps its footprint. -/
theorem exec_frame (c : Instr) (s : State) : FrameO (partsMask (Safety.footprint c)) s (exec c s) := by
  cases hc : Safety.family c with
  | modes => exact modeCommand_frame c s hc
  | stamping => exact stampingCommand_frame c s hc
  | radio => exact radioCommand_frame c s hc
  | timing => exact timingCommand_frame c s hc
  | network => exact networkCommand_frame c s hc
  | services => exact serviceCommand_frame c s hc
  | vault => exact vaultCommand_frame c s hc
  | host => exact hostCommand_frame c s hc
  | shuttle => exact shuttleCommand_frame c s hc
  | faults => exact faultCommand_frame c s hc
  | twin => exact twinCommand_frame c s hc
  | storage => exact storageCommand_frame c s hc
  | sideBuses => exact sideBusCommand_frame c s hc

/-- No footprint holds the queue. -/
theorem queue_not_mem_footprint (c : Instr) : Safety.Part.queue ∉ Safety.footprint c := by
  cases c <;> simp [Safety.footprint]

/-- Settles O7: the queue is in no footprint. -/
theorem commandsKeepTheQueue : Obligations.CommandsKeepTheQueue :=
  fun c s t ht => (exec_frame c s t ht).same .queue ((testBit_partsMask _ .queue).trans (decide_eq_false (queue_not_mem_footprint c)))

end Sys2Proof.Machine
end

section
/-!
SUPPORT. Rules over every command: the queue and the step, the answer of every command, and the canonical form of the SRAM.
-/

namespace Sys2Proof.Machine

/-- Settles O1. -/
theorem stepRunsTheFrontCommand : Obligations.StepRunsTheFrontCommand := by
  intro c rest s h
  unfold step
  rw [h]

/-- Settles O2. -/
theorem stepIdlesOnAnEmptyQueue : Obligations.StepIdlesOnAnEmptyQueue := by
  intro s h
  unfold step
  rw [h]

/-- Settles O4: no octet is listed and no command waits. -/
theorem resetMeetsInvariants : Obligations.ResetMeetsInvariants := ⟨rfl, rfl⟩

/-- Settles O6: the test of the word comes first in both commands. -/
theorem absentWordsFault : Obligations.AbsentWordsFault :=
  ⟨fun _ _ _ _ absent => if_pos absent, fun _ _ _ _ absent => if_pos absent⟩

/-! ### The answer of a command -/

/-- A command answers a next state. -/
def Answers (o : Host.Outcome State Fault Refusal) : Prop := ∃ t, o = .next t

theorem Answers.next (s : State) : Answers (.next s) := ⟨s, rfl⟩

theorem Answers.ite {o p : Host.Outcome State Fault Refusal} {c : Prop} {d : Decidable c} (h : Answers o) (k : Answers p) :
    Answers (if c then o else p) := by
  split <;> assumption

theorem Answers.ite_next {s t : State} {c : Prop} {d : Decidable c} : Answers (if c then .next s else .next t) := .ite (.next s) (.next t)

/-- A command for a word that its bank has. -/
theorem Answers.of_lt {w n : Nat} {o p : Host.Outcome State Fault Refusal} (h : w < n) (k : Answers p) : Answers (if n ≤ w then o else p) := by
  rwa [if_neg (Nat.not_le.mpr h)]

section
variable (s : State)

/-- A command of a frame that waits at its place in the queue of a grove. -/
theorem Answers.item {g n : Nat} {f : RxFrame → Host.Outcome State Fault Refusal} (h : ∀ x, Answers (f x)) :
    Answers (match s.item g n with | some x => f x | none => .next s) := by
  split
  · exact h _
  · exact .next s

theorem execVaultInitComplete_answers (failed : Option (Fin 4)) : Answers (execVaultInitComplete failed s) := by
  refine .ite (.next s) ?_
  cases failed with
  | some u => exact .next _
  | none => exact .ite_next

theorem execLossOfClock_answers (c : ClockSource) : Answers (execLossOfClock c s) := by
  refine .ite ?_ (.next s)
  cases c with
  | apll k => exact .ite_next
  | _ => exact .next _

theorem execClockReturn_answers (c : ClockSource) : Answers (execClockReturn c s) := by
  cases c with
  | apll k => exact .next s
  | _ => exact .ite_next

theorem execLeapApply_answers : Answers (execLeapApply s) := by
  unfold execLeapApply
  split
  · exact .ite_next
  · exact .next s

theorem execNotchAverageEnd_answers (k : Fin 12) (x y : Unit) : Answers (execNotchAverageEnd k x y s) := by
  unfold execNotchAverageEnd
  split <;> exact .next _

theorem execAcqSearchComplete_answers (c : Fin 256) (predicted : Int) : Answers (execAcqSearchComplete c predicted s) := by
  unfold execAcqSearchComplete
  split
  · exact .ite_next
  · exact .next s

theorem execAcqConfirmComplete_answers (c : Fin 256) (x : Unit) : Answers (execAcqConfirmComplete c x s) := by
  unfold execAcqConfirmComplete
  split
  · exact .ite_next
  · exact .next s

theorem execAplltMissingEdge_answers : Answers (execAplltMissingEdge s) := by
  refine .ite ?_ .ite_next
  dsimp only
  split <;> exact .next _

theorem execAplltInputConnect_answers (plane khz : Nat) : Answers (execAplltInputConnect plane khz s) := by
  unfold execAplltInputConnect
  split
  · exact .ite_next
  · exact .next s

theorem execApllLock_answers (x : PllLock) : Answers (execApllLock x s) := by
  refine .ite (.next s) (.ite ?_ .ite_next)
  dsimp only
  split <;> exact .next _

theorem execStepMeasure_answers : Answers (execStepMeasure s) := by
  unfold execStepMeasure
  split
  · refine .ite ?_ (.next s)
    split
    · exact .ite_next
    · exact .next _
    · exact .next _
  · exact .next s

theorem execHoldMaxExpire_answers : Answers (execHoldMaxExpire s) := by
  unfold execHoldMaxExpire
  split
  · exact .ite_next
  · exact .next s

theorem execTodMessageSend_answers (p : Fin 64) : Answers (execTodMessageSend p s) := by
  refine .ite ?_ (.next s)
  split
  · exact .ite_next
  · exact .next s

theorem execHostBatchClose_answers (completion : Bool) (ring m : Fin 16) : Answers (execHostBatchClose completion ring m s) := by
  unfold execHostBatchClose
  dsimp only
  split
  · exact .ite_next
  · exact .next s

theorem execHostFrameLate_answers (m : Fin 16) (pos : Nat) (now : Int) : Answers (execHostFrameLate m pos now s) := by
  unfold execHostFrameLate
  split
  · exact .ite_next
  · exact .next s

theorem execPtpClientRx_answers (g : Fin 16) (n : Fin 8192) : Answers (execPtpClientRx g n s) := by
  refine .item s fun f => ?_
  dsimp only
  split <;> exact .ite_next

theorem execClientRequestDue_answers (c : Fin 24) (msg : ClientMsg) : Answers (execClientRequestDue c msg s) := by
  refine .ite (.next s) ?_
  cases msg <;> exact .ite_next

theorem execNtsMintRequest_answers (m : MintMsg) : Answers (execNtsMintRequest m s) := by
  unfold execNtsMintRequest
  split <;> exact .next _

theorem execD2hAck_answers (k : Fin 16) (seq : Fin 65536) : Answers (execD2hAck k seq s) := by
  unfold execD2hAck
  dsimp only
  split
  · exact .ite_next
  · exact .next s

theorem execAesJob_answers (g : Fin 16) (e : Fin 17) (cycle : Nat) (nts parity fail : Bool) : Answers (execAesJob g e cycle nts parity fail s) := by
  refine .ite (.next s) ?_
  split
  · exact .next s
  · exact .next _

theorem execTwinJoinBoundary_answers : Answers (execTwinJoinBoundary s) := by
  unfold execTwinJoinBoundary
  split
  · exact .ite_next
  · exact .next s

theorem execColdTake_answers : Answers (execColdTake s) := by
  unfold execColdTake
  dsimp only
  split
  · exact .ite_next
  · exact .next s

theorem execI2cXfer_answers (cls : PortClass) (ctl : Fin 2) (blob : Octets) : Answers (execI2cXfer cls ctl blob s) := by
  refine .ite ?_ (.next s)
  split <;> exact .next _

end

/-- Settles O5: a command is one effect, or one where its condition holds; the two that can fault do so for an absent word alone. -/
theorem everyCommandAnswers : Obligations.EveryCommandAnswers := by
  intro c s written reread
  change Answers (exec c s)
  cases c with
  | memWriteBack bank word value => exact .of_lt (written _ _ _ rfl) .ite_next
  | memReread bank word still => exact .of_lt (reread _ _ _ rfl) .ite_next
  -- one effect
  | pwrOkFall | npLinkDown | hostTxDescriptor | ptpSyncDue | ptpFollowUpDue | ptpAnnounceDue | ptpPdelayReqDue | entropyRestartPass | pkSign
  | pkVerify | pkEcdh | generate | derive | proof | chalIssue | chalRespond | attest | pkEngineComplete | dictRead | dictWrite | dictDescribe
  | mgmtRequestReceive | mgmtCacheExpiry | engineFail | takeoverLoadComplete | dirGets | dirGetm | dirPutm | faultReport | ownSwitchInstant
  | ownInFall | captureCopy | replayLoad | flashRead | flashSectorErase | flashBlockErase | flashCommandComplete | journalWriteComplete
  | thermalTrip | sentinelMeasure | selvagePlanStart | selvagePlanComplete | jtagBypass | jtagIdcode | jtagSamplePreload | jtagExtest
  | jtagExtestPulse | jtagExtestTrain => exact .next _
  -- several conditions
  | dllUpdate | codeDensityRunEnd | gladeEpoch | injRequest | yethalAlignmentLoss => exact .ite (.next _) .ite_next
  | keyWrite => exact .ite (.next s) (.ite (.next s) .ite_next)
  | groveRampSlot => exact .ite .ite_next (.next s)
  | twinBulkReceive => exact .ite (.next s) (.ite (.ite (.next _) .ite_next) .ite_next)
  | ntpRequest | ntsRequest | ptpDelayReq | ptpPdelayReq | ptpGrantRequest => exact .item s fun _ => .ite_next
  | ptpGrantCancel => exact .item s fun _ => .ite (.ite (.next _) .ite_next) (.next s)
  | esmcPduReceive => exact .item s fun _ => .ite .ite_next (.next s)
  -- a case of an operand or of the state
  | vaultInitComplete => exact execVaultInitComplete_answers s _
  | lossOfClock => exact execLossOfClock_answers s _
  | clockReturn => exact execClockReturn_answers s _
  | leapApply => exact execLeapApply_answers s
  | notchAverageEnd => exact execNotchAverageEnd_answers s _ () ()
  | acqSearchComplete => exact execAcqSearchComplete_answers s _ _
  | acqConfirmComplete => exact execAcqConfirmComplete_answers s _ ()
  | aplltMissingEdge => exact execAplltMissingEdge_answers s
  | aplltInputConnect => exact execAplltInputConnect_answers s _ _
  | apllLock => exact execApllLock_answers s _
  | stepMeasure => exact execStepMeasure_answers s
  | holdMaxExpire => exact execHoldMaxExpire_answers s
  | todMessageSend => exact execTodMessageSend_answers s _
  | hostBatchClose => exact execHostBatchClose_answers s _ _ _
  | hostFrameLate => exact execHostFrameLate_answers s _ _ _
  | ptpClientRx => exact execPtpClientRx_answers s _ _
  | clientRequestDue => exact execClientRequestDue_answers s _ _
  | ntsMintRequest => exact execNtsMintRequest_answers s _
  | d2hAck => exact execD2hAck_answers s _ _
  | aesJob => exact execAesJob_answers s _ _ _ _ _ _
  | twinJoinBoundary => exact execTwinJoinBoundary_answers s
  | coldTake => exact execColdTake_answers s
  | i2cXfer => exact execI2cXfer_answers s _ _ _
  -- one condition
  | _ => exact .ite_next

/-! ### The canonical form of the SRAM -/

theorem CanonO.ite {o p : Host.Outcome State Fault Refusal} {c : Prop} {d : Decidable c} (h : CanonO o) (k : CanonO p) :
    CanonO (if c then o else p) := by
  split <;> assumption

/-- A command whose footprint leaves out the SRAM keeps its canonical form. -/
theorem Canon.exec_of_not_mem {c : Instr} {s : State} (h : Canon s) (hc : Safety.Part.memory ∉ Safety.footprint c) : CanonO (exec c s) :=
  fun t ht => .of (exec_frame c s t ht) h ((testBit_partsMask _ .memory).trans (decide_eq_false hc))

/-- The reset lists no octet (R372). -/
theorem State.toReset_canon (s : State) (pwrOk : Bool) : Canon (s.toReset pwrOk) := by
  rw [Canon, State.toReset_mem]
  rfl

section
variable {s : State} (h : Canon s)
include h

/-- A command that answers the state as it is, where its condition does not hold. -/
theorem CanonO.ite_next {a : State} {c : Prop} {d : Decidable c} (k : Canon a) : CanonO (if c then .next a else .next s) := .ite (.next k) (.next h)

theorem Canon.begin_ (w : Window) : Canon (s.begin_ w) := .of (State.begin__frame _ _) h rfl

theorem execW1Solve_canon (feed : List FeedRecord) : CanonO (execW1Solve feed s) :=
  .ite_next h (.ite (State.replayW1_canon _ _ (h.begin_ .w1)) (State.solve_canon _ (h.begin_ .w1)))

theorem execW2Serve_canon (feed : List FeedRecord) (cycles : List MemCycle) : CanonO (execW2Serve feed cycles s) := by
  have served : Canon ((s.begin_ .w2).banksWake.memCycles cycles) :=
    State.memCycles_canon _ _ (.of (State.banksWake_frame _) (h.begin_ .w2) rfl)
  exact .ite_next h (.ite (State.replayW2_canon _ _ served) served)

theorem execVaultInitComplete_canon (failed : Option (Fin 4)) : CanonO (execVaultInitComplete failed s) := by
  have zeroised : Canon s.zeroise := .of (State.zeroise_frame _) h rfl
  refine .ite (.next h) ?_
  cases failed with
  | some u => exact .next (State.faulted_canon _ _ _ _ zeroised)
  | none => exact .ite (.next zeroised) (.next (.of (State.vaultReady_frame _) h rfl))

theorem execLossOfClock_canon (c : ClockSource) : CanonO (execLossOfClock c s) := by
  refine .ite ?_ (.next h)
  cases c with
  | apll k => exact .ite (.next (State.pllBypass_canon _ _ h)) (.next (State.clockLost_canon _ _ h))
  | _ => exact .next (State.clockLost_canon _ _ h)

theorem execDllUpdate_canon (k : Fin 170) (error : Int) (code : Fin 4096) : CanonO (execDllUpdate k error code s) := by
  have read : Canon ((if k.val < 128 then s.setN (Obj.stamperDllCode k) code else s).dllReads k) :=
    .of (State.dllReads_frame _ _) (.ite (.of (State.setN_frame _ _ _) h rfl) h) rfl
  exact .ite (.next h) (.ite (.next (State.dllFail_canon _ _ read)) (.next (.of (State.dllPass_frame _ _ _) read rfl)))

theorem execCodeDensityRunEnd_canon (k : Fin 170) (hits : List Nat) : CanonO (execCodeDensityRunEnd k hits s) :=
  .ite (.next (State.recalEnd_canon _ _ _ h)) (.ite_next h (State.initRun_canon _ _ _ h))

theorem execAplltMissingEdge_canon : CanonO (execAplltMissingEdge s) := by
  refine .ite ?_ (.ite_next h (State.pllBypass_canon _ _ h))
  dsimp only
  split
  · exact .next h
  · exact .next (State.pllBypass_canon _ _ h)

theorem execAesJob_canon (g : Fin 16) (e : Fin 17) (cycle : Nat) (nts parity fail : Bool) : CanonO (execAesJob g e cycle nts parity fail s) := by
  refine .ite (.next h) ?_
  split
  · exact .next h
  · extract_lets k hitP s1 hitF s2 ctx clear
    have h1 : Canon s1 := .ite (.of (State.injConsume_frame _) h rfl) h
    have h2 : Canon s2 := .ite (.of (State.injConsume_frame _) h1 rfl) h1
    split
    next s3 out1 e3 =>
      have h3 : Canon s3 := .fst e3 (.iteFst (State.raise_canon _ _ _ _ h2) h2)
      extract_lets s4 s5
      have h4 : Canon s4 := .ite (State.aesOut_canon _ _ _ h3) h3
      have h5 : Canon s5 := .ite (State.aesOut_canon _ _ _ (State.faulted_canon _ _ _ _ h4)) h4
      exact .next (.of (State.aesServe_frame _ _ _ _ _) h5 rfl)

theorem execMemWriteBack_canon (bank : Fin 21) (word : Nat) (value : Fin 18446744073709551616) : CanonO (execMemWriteBack bank word value s) :=
  .ite (.fault _) (.ite_next h (.of (State.countWriteBack_frame _ _ _) (State.writeWord_canon _ _ _ _ h) rfl))

/-- Every command keeps the canonical form: its footprint leaves out the SRAM, or what it writes is written octet by octet (R372). -/
theorem exec_canon (c : Instr) : CanonO (exec c s) := by
  cases c with
  -- reset, BOOT, ticks, windows and clocks
  | pwrOkFall => exact .next (State.toReset_canon _ _)
  | resetNAssert => exact .ite (.next h) (.next (State.toReset_canon _ _))
  | resetRelease => exact .ite_next h (State.released_canon _ _ _ _ h)
  | fillComplete => exact .ite_next h (State.filled_canon _ _ h)
  | vaultInitComplete => exact execVaultInitComplete_canon h _
  | tickBoundary => exact .ite_next h (State.boundary_canon _ _ _ _ _ h)
  | w1Solve => exact execW1Solve_canon h _
  | w2Serve => exact execW2Serve_canon h _ _
  | w3Maintain => exact .ite_next h (State.maintain_canon _ _ _ (h.begin_ .w3))
  | windowOverrun => exact .ite_next h (State.overrun_canon _ _ h)
  | lossOfClock => exact execLossOfClock_canon h _
  -- stamping, the radio, PLLs and outputs
  | edgeArrival => exact .ite_next h (.of (State.ppsPortNews_frame _ _) (State.edge_canon _ _ _ _ _ h) rfl)
  | dllUpdate => exact execDllUpdate_canon h _ _ _
  | codeDensityRunEnd => exact execCodeDensityRunEnd_canon h _ _
  | stamperLockTimeout => exact .ite_next h (State.stamperFault_canon _ _ h)
  | coherentIntegrationEnd => exact .ite_next h (State.integrationEnd_canon _ _ _ h)
  | navUnitDecode => exact .ite_next h (State.navUnit_canon _ _ _ h)
  | aplltMissingEdge => exact execAplltMissingEdge_canon h
  | apllLossOfLock | apllAcquireTimeout | aplltRelockTimeout => exact .ite_next h (State.pllBypass_canon _ _ h)
  | outputEdge => exact .ite_next h (State.driveEdge_canon _ _ _ _ h)
  | dsteerInterval => exact .ite_next h (State.steerInterval_canon _ _ h)
  -- the network, the vault and the host
  | frameLaunch => exact .ite_next h (State.frameLaunch_canon _ _ _ _ h)
  | entropyHealthFail => exact .ite (.next h) (.next (State.faulted_canon _ _ _ _ h))
  | tamperEvent => exact .ite_next h (State.tamper_canon _ h)
  | dictRead | dictWrite | dictDescribe => exact .next (State.dictArrive_canon _ _ h)
  | dictBatchApply => exact .ite_next h (State.boundaryBatches_canon _ _ h)
  -- groves, memory and faults
  | engineSelftestComplete => exact .ite_next h (State.selftested_canon _ _ _ _ h)
  | engineFail => exact .next (State.engineFail_canon _ _ _ h)
  | engineWatchdogExpire => exact .ite_next h (State.engineFail_canon _ _ _ h)
  | aesJob => exact execAesJob_canon h _ _ _ _ _ _
  | memWriteBack => exact execMemWriteBack_canon h _ _ _
  | scrubRead => exact .ite_next h (State.scrubRead_canon _ _ _ h)
  | faultReport => exact .next (State.report_canon _ _ h)
  | aonClockLoss => exact .ite_next h (State.aonLost_canon _ h)
  -- the twin
  | twinAgreeReceive => exact .ite_next h (State.agreeReceive_canon _ _ h)
  | twpEdgeReceive => exact .ite_next h (State.twpEdge_canon _ _ _ _ h)
  -- flash, the supply, temperature and the side buses
  | flashCommandComplete => exact .next (State.flashComplete_canon _ _ h)
  | journalWriteComplete => exact .next (State.journalDone_canon _ _ h)
  | avsReadback | pmbusAlert => exact .ite_next h (State.avsRead_canon _ _ _ h)
  | thermalSensorRead => exact .ite_next h (State.thermalRead_canon _ _ h)
  | thermalTrip => exact .next (State.thermalTrip_canon _ _ h)
  | i2cTransactionDone => exact .ite_next h (State.i2cDone_canon _ _ _ h)
  | i2cBusFree => exact .ite_next h (State.i2cBusFree_canon _ _ h)
  | i2cStretchTimeout => exact .ite_next h (State.i2cStretch_canon _ _ _ h)
  | i2cRecoveryAttempt => exact .ite_next h (State.i2cAttempt_canon _ _ _ h)
  | _ => exact h.exec_of_not_mem (by simp [Safety.footprint])

end

/-- Settles O8: a step runs a command, on a state with the same SRAM, or leaves the state as it is. -/
theorem stepsKeepMemoryCanonical : Obligations.StepsKeepMemoryCanonical := by
  intro s t h ht
  cases waiting : s.pending with
  | nil =>
    rw [stepIdlesOnAnEmptyQueue s waiting] at ht
    exact Host.Outcome.next.inj ht ▸ h
  | cons c rest =>
    rw [stepRunsTheFrontCommand c rest s waiting] at ht
    exact exec_canon (s := { s with pending := rest }) h c t ht

end Sys2Proof.Machine
end

section
/-!
SUPPORT. Memory and the session directory: octets read after a write, and what write-backs, re-reads, the scrubber and the memory cycles answer
(R369 to R377); the counter of the directory that wraps (R82, R379).
-/

namespace Sys2Proof.Machine

namespace State

/-! ### Octets read after a write -/

/-- Octets just written read as written. -/
theorem readByte_writeBytes_add (s : State) (a : Nat) (l : Octets) {i : Nat} (hi : i < l.length) :
    (s.writeBytes a l).readByte (a + i) = l.getD i 0 := by
  induction l generalizing s a i with
  | nil => exact absurd hi (Nat.not_lt_zero i)
  | cons v l ih =>
    change ((s.writeByte a v).writeBytes (a + 1) l).readByte (a + i) = (v :: l).getD i 0
    cases i with
    | zero => exact (readByte_writeBytes_ne _ _ _ _ (Or.inl (Nat.lt_succ_self a))).trans (readByte_writeByte_self s a v)
    | succ i =>
      rw [show a + (i + 1) = a + 1 + i by omega]
      exact ih _ _ (Nat.lt_of_succ_lt_succ hi)

/-- The SRAM is read from the component `mem` alone. -/
theorem readByte_congr {s t : State} (h : s.mem = t.mem) (a : Nat) : s.readByte a = t.readByte a := by
  rw [readByte, h, readByte]

/-- A word just written reads octet by octet as written. -/
theorem readByte_writeWord_add (s : State) (b w v : Nat) {i : Nat} (hi : i < 8) :
    (s.writeWord b w v).readByte (s.wordAddr b w + i) = (toBE 8 v).getD i 0 :=
  readByte_writeBytes_add s _ _ (by rwa [length_toBE])

/-- Octets outside a word just written read as before. -/
theorem readByte_writeWord_ne (s : State) (b w v : Nat) {a : Nat} (ha : a < s.wordAddr b w ∨ s.wordAddr b w + 8 ≤ a) :
    (s.writeWord b w v).readByte a = s.readByte a :=
  readByte_writeBytes_ne s _ _ _ (by rwa [length_toBE])

/-! ### The commands of memory checking -/

/-- A word that waited for its write-back now waits for its re-read (R373). -/
def writtenBack (s : State) (b w : Nat) : State :=
  { s with shuttle := { s.shuttle with writeBacks := s.shuttle.writeBacks.erase (b, w), rereads := s.shuttle.rereads ++ [(b, w)] } }

/-- A scrub read that finds no error and meets no injection is the scrubber's step (R376). -/
theorem scrubRead_of_clean {s : State} {b : Nat} (awake : s.o (Obj.memRetention b) = 0)
    (aimed : s.injAims 0x01 b (some (Sparse.get (fun _ => 0) s.shuttle.scrubAt b)) = none) :
    s.scrubRead b .none = s.scrubStep b (Sparse.get (fun _ => 0) s.shuttle.scrubAt b) := by
  have kept (w : Nat) : (s.scrubStep b w).fault = s.fault := by
    unfold scrubStep
    dsimp only
    split <;> rfl
  have aimed' : (s.scrubStep b (Sparse.get (fun _ => 0) s.shuttle.scrubAt b)).injAims 0x01 b
      (some (Sparse.get (fun _ => 0) s.shuttle.scrubAt b)) = none := by
    rwa [injAims, kept]
  unfold scrubRead
  rw [if_neg (not_not.mpr awake)]
  dsimp only
  rw [aimed']
  rfl

/-- The scrubber's step moves to the next word of the bank, or to word 0 after the last (R376). -/
theorem scrubAt_scrubStep (s : State) (b w : Nat) :
    Sparse.get (fun _ => 0) (s.scrubStep b w).shuttle.scrubAt b = if bankWords b ≤ w + 1 then 0 else w + 1 := by
  have moved : (s.scrubStep b w).shuttle.scrubAt =
      Sparse.put (fun _ => 0) s.shuttle.scrubAt b (if decide (bankWords b ≤ w + 1) = true then 0 else w + 1) := by
    unfold scrubStep
    dsimp only
    split <;> rfl
  rw [moved, Sparse.get_put_self]
  simp only [decide_eq_true_eq]

/-- The scrubber's step writes objects and its own registers alone. -/
theorem scrubStep_frame_counted (s : State) (b w : Nat) : Frame 32770 s (s.scrubStep b w) := by
  unfold scrubStep
  dsimp only
  split
  · exact .of (State.inc_frame _ _) (.up15 (.refl _ s) rfl) rfl
  · exact .up15 (.refl _ s) rfl

end State

section
variable {s : State}

theorem exec_memWriteBack_of_waiting {bank : Fin 21} {word : Nat} (value : Fin 18446744073709551616) (present : word < bankWords bank)
    (waiting : (bank.val, word) ∈ s.shuttle.writeBacks) :
    exec (.memWriteBack bank word value) s = .next (((s.writtenBack bank word).writeWord bank word value).countWriteBack bank word) :=
  (if_neg (Nat.not_le.mpr present)).trans (if_pos (List.contains_iff_mem.mpr waiting))

/-- The list of hard words after a re-read (R374). -/
def hardAfter (s : State) (b w : Nat) (still : Bool) : List (Nat × Nat) :=
  if still && !s.shuttle.hard.contains (b, w) then s.shuttle.hard ++ [(b, w)] else s.shuttle.hard

theorem exec_memReread_of_waiting {bank : Fin 21} {word : Nat} (still : Bool) (present : word < bankWords bank)
    (waiting : (bank.val, word) ∈ s.shuttle.rereads) :
    exec (.memReread bank word still) s = .next { s with shuttle := { s.shuttle with
      rereads := s.shuttle.rereads.erase (bank.val, word), hard := hardAfter s bank word still } } :=
  (if_neg (Nat.not_le.mpr present)).trans (if_pos (List.contains_iff_mem.mpr waiting))

/-- A word written back changes nothing but the SRAM and the planner's counts. -/
theorem State.writeWord_countWriteBack_frame (s : State) (b w v : Nat) : Frame 262152 s ((s.writeWord b w v).countWriteBack b w) :=
  .of (State.countWriteBack_frame _ _ _) ((State.writeWord_frame _ _ _ _).mono rfl) rfl

theorem mem_hardAfter (s : State) (b w : Nat) : (b, w) ∈ hardAfter s b w true := by
  unfold hardAfter
  split
  · simp
  next known => simpa using known

end

/-- Settles O41: a write-back is one word written, a re-read moves between lists, and a clean scrub read is one step of the scrubber. -/
theorem memoryCommandsComplete : Obligations.MemoryCommandsComplete := by
  refine ⟨fun bank word value s present waiting => ?_, fun bank word still s present waiting => ?_, fun bank s alive awake _ aimed => ?_,
    fun bank found s alive => if_pos alive, fun bank s begun due fresh => ?_⟩
  · have stored := (s.writtenBack bank word).writeWord_countWriteBack_frame bank word value
    refine ⟨_, exec_memWriteBack_of_waiting value present waiting, fun i hi => ?_, fun a ha => ?_, ?_, ?_, stored.obj_eq rfl,
      stored.blobs_eq rfl, stored.sys_eq rfl⟩
    · exact State.readByte_writeWord_add (s.writtenBack bank word) bank word value hi
    · exact State.readByte_writeWord_ne (s.writtenBack bank word) bank word value ha
    · exact congrArg ShuttleState.writeBacks (stored.shuttle_eq rfl)
    · rw [stored.shuttle_eq rfl]
      exact List.mem_append_right _ (List.mem_singleton_self _)
  · refine ⟨_, exec_memReread_of_waiting still present waiting, rfl, fun hard => ?_, fun soft => ?_, fun _ => rfl, rfl, rfl⟩
    · rw [hard]
      exact mem_hardAfter s bank word
    · rw [soft]
      rfl
  · have step := s.scrubStep_frame_counted bank (Sparse.get (fun _ => 0) s.shuttle.scrubAt bank)
    refine ⟨_, if_pos alive, ?_, fun a => ?_, ?_⟩ <;> rw [State.scrubRead_of_clean awake aimed]
    · exact State.scrubAt_scrubStep s bank _
    · exact State.readByte_congr (step.mem_eq rfl) a
    · exact step.sys_eq rfl
  · exact if_pos ⟨begun, due, by simpa using fresh⟩

/-! ### A retained bank (R377) -/

/-- A retained bank serves no master. -/
theorem State.memCycle_of_retained {s : State} {c : MemCycle} (retained : s.o (Obj.memRetention c.bank.val) ≠ 0) : s.memCycle c = s := by
  have served : s.memServed c = [] := if_pos retained
  unfold State.memCycle
  dsimp only
  rw [served]

/-- Refutes O42: nothing in it keeps the bank out of retention, and a bank in retention (here bank 18) serves neither of the two writes (R377). -/
theorem not_mergedWrites : ¬ Obligations.MergedWrites := by
  intro h
  let s : State := State.reset.setO (Obj.memRetention 18) 1
  have idle : s.memCycle ⟨18, 0, [⟨1, 0, some 0⟩, ⟨0, 0, some 1⟩]⟩ = s := State.memCycle_of_retained (by decide)
  obtain ⟨-, -, answered⟩ := h s 18 0 0 0 1 0 1 (by decide) (by decide) (by decide) (by decide) (by decide) (fun _ hx => nomatch hx) (by decide)
  rw [idle] at answered
  exact absurd (congrArg List.length answered) (by decide)

/-! ### The session directory (R378, R379) -/

/-- A request for a line alone that the grove does not hold and the directory lists nowhere: the grove shares it, and a miss is counted (R379). -/
theorem exec_dirGets_of_miss {line : Fin 262144} {g : Fin 16} {s : State} (absent : ∀ x ∈ s.cacheSet g line, x.1 ≠ line.val)
    (unlisted : s.dirOf line = .uncached) :
    exec (.dirGets line g []) s = .next (((s.placeCopy g line false).setDir line (.shared [g.val])).incHw (Obj.cacheMisses g)) := by
  have missed : ((s.cacheSet g line).any fun x => x.1 == line.val) = false := by simpa using absent
  change Host.Outcome.next (s.getLine g line) = _
  unfold State.getLine
  simp [missed, unlisted]

/-- A 48-bit counter of the directory at its largest value is noted as wrapped (R82). -/
theorem State.wrapped_incHw {s : State} {k : Nat} (full : s.n k = 2 ^ 48 - 1) (first : k ∉ s.sys.wrapped) :
    (s.incHw k).sys.wrapped = s.sys.wrapped ++ [k] := by
  have passed : ¬ (s.n k + 1 < 2 ^ 48 ∨ ((s.setN k ((s.n k + 1) % 2 ^ 48)).sys.wrapped.contains k) = true) := by
    rw [full]
    simpa using first
  unfold State.incHw State.addHwKey
  dsimp only
  rw [if_neg passed]
  rfl

/-- Refutes O43: its clause on a miss has the system registers stay in every state, and where CACHE_MISSES stands at 2^48 − 1 the miss marks the
counter as wrapped (R82). -/
theorem not_directoryCommandsComplete : ¬ Obligations.DirectoryCommandsComplete := by
  intro h
  obtain ⟨-, -, miss, -⟩ := h
  let s : State := State.reset.setO (Obj.cacheMisses 0) (2 ^ 48 - 1)
  have absent : ∀ x ∈ s.cacheSet (0 : Fin 16) (0 : Fin 262144), x.1 ≠ (0 : Fin 262144).val := fun _ hx => absurd hx List.not_mem_nil
  obtain ⟨t, answer, -, -, -, -, same⟩ := miss 0 0 s rfl absent
  rw [exec_dirGets_of_miss absent rfl] at answer
  obtain rfl := Host.Outcome.next.inj answer
  have wrapped := State.wrapped_incHw (s := (s.placeCopy 0 0 false).setDir 0 (.shared [0])) (k := Obj.cacheMisses 0) (by decide) (by decide)
  exact absurd ((congrArg SysState.wrapped same).symm.trans wrapped) (by decide)

end Sys2Proof.Machine
end

section
/-!
SUPPORT. Entry to HALTED (R386, R395 to R397): what it keeps of the mode and of the fatal record; notices of faults, and what the commands of
faults answer (R384 to R409).
-/

namespace Sys2Proof.Machine

/-! ### An object kept -/

/-- An object reads in a state as it reads in `r`. -/
def KeepsObj (k : Nat) (r s : State) : Prop := s.o k = r.o k

section
variable {k : Nat} {r s : State}

theorem KeepsObj.refl (k : Nat) (s : State) : KeepsObj k s s := rfl

theorem KeepsObj.of {m : Nat} {t : State} (g : Frame m s t) (h : KeepsObj k r s) (hm : m.testBit 1 = false) : KeepsObj k r t :=
  (State.o_congr (g.obj_eq hm) k).trans h

theorem KeepsObj.setO (h : KeepsObj k r s) {j : Nat} (hj : k ≠ j) (v : Int) : KeepsObj k r (s.setO j v) := (State.o_setO_ne s v hj).trans h

theorem KeepsObj.setN (h : KeepsObj k r s) {j : Nat} (hj : k ≠ j) (v : Nat) : KeepsObj k r (s.setN j v) := h.setO hj v

theorem KeepsObj.addN (h : KeepsObj k r s) {j : Nat} (hj : k ≠ j) (d : Nat) : KeepsObj k r (s.addN j d) := h.setO hj _

theorem KeepsObj.inc (h : KeepsObj k r s) {j : Nat} (hj : k ≠ j) : KeepsObj k r (s.inc j) := h.addN hj 1

theorem KeepsObj.ite {a b : State} {c : Prop} {d : Decidable c} (h : KeepsObj k r a) (g : KeepsObj k r b) : KeepsObj k r (if c then a else b) := by
  split <;> assumption

theorem KeepsObj.foldl {α : Type} {f : State → α → State} {l : List α} (g : ∀ t x, KeepsObj k r t → KeepsObj k r (f t x)) (h : KeepsObj k r s) :
    KeepsObj k r (l.foldl f s) := by
  induction l generalizing s with
  | nil => exact h
  | cons x l ih => exact ih (g s x h)

end

/-- MODE_CURRENT reads in a state as it reads in `r`. -/
abbrev KeepsMode (r s : State) : Prop := KeepsObj Obj.modeCurrent r s

namespace KeepsMode

section
variable {r s : State} (h : KeepsMode r s)
include h

/-! ### The log and the ring -/

theorem uartLine (seq : Nat) (x : Report) : KeepsMode r (s.uartLine seq x) := .ite (.ite h (h.inc (by decide))) h

theorem logEntry (x : Report) : KeepsMode r (s.logEntry x) := by
  refine uartLine (KeepsObj.setN ?_ (by decide) _) _ _
  exact .ite (h.inc (j := Obj.evtlogOverwritten) (by decide)) h

theorem countOpen : KeepsMode r s.countOpen := (h.setN (by decide) _).setN (by decide) _

theorem dropReports (l : List Report) : KeepsMode r (s.dropReports l) := countOpen (h.addN (j := Obj.evtlogDropped) (by decide) _)

theorem flushLog (before : Nat) (all : Bool) : KeepsMode r (s.flushLog before all) :=
  .foldl (fun _ x g => dropReports (.foldl (fun _ y g => logEntry g y) g) x.2) h

theorem showRing : KeepsMode r s.showRing := (h.setN (by decide) _).setN (by decide) _

theorem bobAppend (x : BobHead) (body : Octets) : KeepsMode r (s.bobAppend x body) := by
  unfold State.bobAppend
  extract_lets c wr room pad padding padded pos s1 s2 e rest s3 s4 s5
  have h2 : KeepsMode r s2 := .of (State.writeBank_frame _ _ _ _) (.of (State.ringTo_frame _ _) (.ite h (.of (State.writeBank_frame _ _ _ _) h rfl)) rfl) rfl
  have h3 : KeepsMode r s3 := h2
  have h4 : KeepsMode r s4 := ((KeepsObj.setN h3 (by decide) _).inc (by decide)).addN (by decide) _
  have h5 : KeepsMode r s5 := .ite (h4.inc (by decide)) h4
  exact showRing (.ite (h5.inc (by decide)) h5)

theorem bobHalt : KeepsMode r s.bobHalt := .ite (bobAppend h _ _) h

/-! ### The units -/

theorem chanEnter (c code : Nat) : KeepsMode r (s.chanEnter c code) := by
  have entered (v : TrackChannel) : KeepsMode r ((s.setChan c v).setN (Obj.chState c) code) :=
    KeepsObj.setN (.of (State.setChan_frame _ _ _) h rfl) (by simp only [Obj.chState, Obj.modeCurrent, ne_eq]; omega) _
  exact .ite ((entered _).inc (by simp only [Obj.chLosses, Obj.modeCurrent, ne_eq]; omega)) (entered _)

theorem linkEnter (a code : Nat) : KeepsMode r (s.linkEnter a code) := by
  have entered (v : GladeLink) : KeepsMode r ((s.setGlink a v).setN (Obj.linkState a) code) :=
    KeepsObj.setN (.of (State.setGlink_frame _ _ _) h rfl) (by simp only [Obj.linkState, Obj.modeCurrent, ne_eq]; omega) _
  have begun (v : GladeLink) : KeepsMode r (((s.setGlink a v).setN (Obj.linkState a) code).linkStarts a) := .ite (entered v) (entered v)
  have counted (v : GladeLink) : KeepsMode r (((s.setGlink a v).setN (Obj.linkState a) code).inc (Obj.linkRestarts a)) :=
    (entered v).inc (by simp only [Obj.linkRestarts, Obj.modeCurrent, ne_eq]; omega)
  have lost {t : State} (g : KeepsMode r t) : KeepsMode r (t.linkChannelsLost a) :=
    .foldl (fun _ _ g => .ite (.ite (chanEnter g _ _) g) g) g
  exact .ite (lost (.foldl (fun _ _ g => .of (State.setStrm_frame _ _ _) g rfl) (.ite (counted _) (.ite (begun _) (entered _)))))
    (.ite (counted _) (.ite (begun _) (entered _)))

theorem linksDown : KeepsMode r s.linksDown := .foldl (fun _ _ g => .ite g (linkEnter g _ _)) h

theorem surveyRestart : KeepsMode r s.surveyRestart := h.setO (j := Obj.surveyElapsedS) (by decide) 0

theorem gladeOff : KeepsMode r s.gladeOff := by
  have off : KeepsMode r (s.setO Obj.gladeState 0) := h.setO (by decide) 0
  have lost {t : State} (g : KeepsMode r t) : KeepsMode r (t.forChans fun s c => let st := s.chanState c; if st = 0 ∨ st = 6 then s else s.chanEnter c 6) :=
    .foldl (fun _ _ g => .ite g (chanEnter g _ _)) g
  have ended {t : State} (g : KeepsMode r t) : KeepsMode r (if t.o Obj.solState = 1 then t.surveyRestart else t).spoofBreak.dropRecord :=
    .of (State.dropRecord_frame _) (.of (State.spoofBreak_frame _) (.ite (surveyRestart g) g) rfl) rfl
  have waits {t : State} (g : KeepsMode r t) : KeepsMode r (if t.o Obj.solState = 3 ∨ t.o Obj.solState = 4 then t.setO Obj.solState 2 else t) :=
    .ite (g.setO (by decide) _) g
  exact .ite h (waits (ended (lost (linksDown off))))

theorem macDown (m : Nat) : KeepsMode r (s.macDown m) := by
  have counted : KeepsMode r (s.inc (Obj.npLinkDowns m)) := h.inc (by simp only [Obj.npLinkDowns, Obj.modeCurrent, ne_eq]; omega)
  exact .ite h (KeepsObj.setO (.ite counted h) (by simp only [Obj.npLinkState, Obj.modeCurrent, ne_eq]; omega) _)

theorem i2cRelease (k : Nat) : KeepsMode r (s.i2cRelease k) :=
  .ite (KeepsObj.setO (s := { s with bus := _ }) h (by simp only [Obj.i2cBusState, Obj.modeCurrent, ne_eq]; omega) _) h

theorem haltUnits : KeepsMode r s.haltUnits := by
  have stopped : KeepsMode r ((List.range 16).foldl State.macDown s.gladeOff) := .foldl (fun _ m g => macDown g m) (gladeOff h)
  unfold State.haltUnits
  refine .foldl (fun _ k g => i2cRelease g k) (KeepsObj.setO ?_ (by decide) 3)
  unfold KeepsMode KeepsObj State.o Sparse.get at stopped
  unfold KeepsObj State.o Sparse.get
  dsimp only
  rw [Sparse.lookup_filter _ (fun k => !State.haltedOff k) _ (by decide)]
  exact stopped

end

end KeepsMode

/-! ### Entry to HALTED (R386, R395 to R397) -/

namespace State

theorem i2cRelease_bobState (s : State) (k : Nat) : KeepsObj Obj.bobState s (s.i2cRelease k) :=
  .ite (KeepsObj.setO (s := { s with bus := _ }) rfl (by simp only [Obj.i2cBusState, Obj.bobState, ne_eq]; omega) _) rfl

theorem haltUnits_bobState (s : State) : s.haltUnits.o Obj.bobState = 3 :=
  (KeepsObj.foldl (k := Obj.bobState) (fun t k g => (i2cRelease_bobState t k).trans g) rfl).trans (o_setO_self _ _ _)

/-- What the stop of the units, the capture of the last record and the console's dump keep of a state. -/
theorem halting_keeps (s : State) : KeepsMode s s.haltDump.bobHalt.haltUnits ∧ s.haltDump.bobHalt.haltUnits.o Obj.bobState = 3 ∧
    s.haltDump.bobHalt.haltUnits.fault = s.fault ∧ s.haltDump.bobHalt.haltUnits.sys = s.sys := by
  have dumped := haltDump_frame s
  have captured := bobHalt_frame s.haltDump
  have stopped := haltUnits_frame s.haltDump.bobHalt
  refine ⟨KeepsMode.haltUnits (KeepsMode.bobHalt (.of dumped (.refl _ s) rfl)), haltUnits_bobState _, ?_, ?_⟩
  · rw [stopped.fault_eq rfl, captured.fault_eq rfl, dumped.fault_eq rfl]
  · rw [stopped.sys_eq rfl, captured.sys_eq rfl, dumped.sys_eq rfl]

theorem holdEvent_fatal (s : State) (code detail subtick : Nat) : (s.holdEvent code detail subtick).fault.fatal = s.fault.fatal := by
  unfold holdEvent
  split <;> rfl

theorem changeMode_fatal (s : State) (m : Int) : (s.changeMode m).fault.fatal = s.fault.fatal := holdEvent_fatal _ _ _ _

theorem changeMode_o (s : State) (m : Int) (k : Nat) :
    (s.changeMode m).o k = ((((s.setO Obj.modePrevious s.mode).setO Obj.modeCurrent m).setN Obj.modeEntryTick s.tick).inc Obj.modeTransitions).o k :=
  o_congr (holdEvent_obj _ _ _ _) k

theorem changeMode_modePrevious (s : State) (m : Int) : (s.changeMode m).o Obj.modePrevious = s.mode := by
  rw [changeMode_o, o_inc, if_neg (by decide), o_setN, if_neg (by decide), o_setO_ne _ _ (by decide), o_setO_self]

theorem changeMode_bobState (s : State) (m : Int) : KeepsObj Obj.bobState s (s.changeMode m) :=
  (changeMode_o s m _).trans ((((KeepsObj.refl _ s).setO (by decide) _).setO (by decide) _).setN (by decide) _ |>.inc (by decide))

/-- Entry to HALTED keeps the mode it comes from and the record of the fault. -/
theorem halt_registers (s : State) (r : Report) : (s.halt r).mode = mHalted ∧ (s.halt r).fault.frozen = true ∧
    (s.halt r).fault.fatal = ⟨r.code, r.source, r.tick, r.subtick, r.flags⟩ ∧ (s.halt r).o Obj.modePrevious = s.mode ∧ (s.halt r).o Obj.bobState = 3 := by
  unfold halt
  extract_lets first _ written regs _ frozen
  have hmode : KeepsMode s frozen := KeepsMode.flushLog (s := { s with fault := { s.fault with held := first } }) rfl 0 true
  obtain ⟨kept, hbob, hfault, -⟩ := halting_keeps frozen
  refine ⟨changeMode_mode _ _, (changeMode_frozen _ _).trans ?_, (changeMode_fatal _ _).trans ?_, (changeMode_modePrevious _ _).trans ?_,
    (changeMode_bobState _ _).trans hbob⟩
  · rw [hfault]
  · rw [hfault]
  · exact kept.trans hmode

/-- What the record of a fault leaves to its class: its counts, the entry held for the log, and nothing else of the mode, the memory and the ticks. -/
structure Recorded (code source cls : Nat) (s : State) (r : Report) (t : State) : Prop where
  code_eq : r.code = code
  source_eq : r.source = source
  tick_eq : r.tick = s.tick
  mode_eq : t.mode = s.mode
  codeCount : t.o (Obj.faultCodeCount code) = s.o (Obj.faultCodeCount code) + 1
  total : cls ≤ 2 → t.o (Obj.faultTotal (cls - 1)) = s.o (Obj.faultTotal (cls - 1)) + 1
  held : t.fault.held = s.fault.held ++ [r]
  mem_eq : t.mem = s.mem
  sys_eq : t.sys = s.sys

/-- A fault that is not escalated keeps the class of its row; class F enters HALTED (R384, R392). -/
theorem recordFault_of_first {s : State} {code : Nat} {row : FaultRow} (source detail subtick : Nat) (injected : Bool) (hrow : faultRow code = some row)
    (hm : s.mode ≠ mHalted) (hf : s.fault.frozen = false)
    (hfirst : (row.esc && s.fault.unacked.any fun u => u.cls == row.cls && u.code / 256 == code / 256 && u.source == source &&
      (match faultRow u.code with | some r => r.esc | none => false)) = false) :
    ∃ (r : Report) (t : State), Recorded code source row.cls s r t ∧
      s.recordFault code source detail subtick injected = if row.cls = 3 then (t.halt r, 3) else (t, row.cls) := by
  unfold recordFault
  rw [hrow]
  dsimp -zeta only
  rw [if_neg (by simp [hm, hf])]
  extract_lets again toF suppressed cls releases flags r s1 s2 s3 opened _ _ s4 s5
  have hagain : again = false := hfirst
  have hcls : cls = row.cls := by simp [cls, hagain]
  have h3 : s3 = s2 := if_neg (by simp [hagain])
  have one (k : Nat) (h1 : k ≠ Obj.faultUnackedC) (h2 : k ≠ Obj.faultUnackedU) : s5.o k = s2.o k := by
    have h4 : s4.o k = s3.o k := rfl
    rw [h3] at h4
    exact (o_setO_ne _ _ h2).trans ((o_setO_ne _ _ h1).trans h4)
  have frame : Frame 2 s s2 := .ite (.of (inc_frame _ _) (inc_frame _ _) rfl) (inc_frame _ _)
  have hs2 : s2 = if row.cls ≤ 2 then s1.inc (Obj.faultTotal (row.cls - 1)) else s1 := by unfold s2; rw [hcls]
  have s1_o (k : Nat) : s1.o k = if k = Obj.faultCodeCount code then s.o (Obj.faultCodeCount code) + 1 else s.o k := o_inc _ _ _
  refine ⟨r, s5, ⟨rfl, rfl, rfl, ?_, ?_, fun hle => ?_, ?_, ?_, ?_⟩, by rw [hcls]⟩
  · have hne : Obj.modeCurrent ≠ Obj.faultCodeCount code := by simp only [Obj.modeCurrent, Obj.faultCodeCount, ne_eq]; omega
    have hne' : Obj.modeCurrent ≠ Obj.faultTotal (row.cls - 1) := by simp only [Obj.modeCurrent, Obj.faultTotal, ne_eq]; omega
    refine (one _ (by decide) (by decide)).trans ?_
    rw [hs2]
    exact KeepsObj.ite (((KeepsObj.refl _ s).inc hne).inc hne') ((KeepsObj.refl _ s).inc hne)
  · have hone := one (Obj.faultCodeCount code) (by simp only [Obj.faultCodeCount, Obj.faultUnackedC, ne_eq]; omega)
      (by simp only [Obj.faultCodeCount, Obj.faultUnackedU, ne_eq]; omega)
    rw [hone, hs2]
    split
    next hle => rw [o_inc, if_neg (by simp only [Obj.faultCodeCount, Obj.faultTotal]; omega), s1_o, if_pos rfl]
    next => rw [s1_o, if_pos rfl]
  · have hone := one (Obj.faultTotal (row.cls - 1)) (by simp only [Obj.faultTotal, Obj.faultUnackedC, ne_eq]; omega)
      (by simp only [Obj.faultTotal, Obj.faultUnackedU, ne_eq]; omega)
    rw [hone, hs2, if_pos hle, o_inc, if_pos rfl, s1_o, if_neg (by simp only [Obj.faultCodeCount, Obj.faultTotal]; omega)]
  · have h4 : s4.fault.held = s2.fault.held ++ [r] := congrArg (fun t : State => t.fault.held ++ [r]) h3
    exact h4.trans (by rw [frame.fault_eq rfl])
  · exact (congrArg State.mem h3).trans (frame.mem_eq rfl)
  · exact (congrArg State.sys h3).trans (frame.sys_eq rfl)

/-- Each fault of the list with class F is not escalated: there is no class above (R391). -/
theorem esc_of_classF {code : Nat} {row : FaultRow} (hrow : faultRow code = some row) (hcls : row.cls = 3) : row.esc = false := by
  have all : ∀ row ∈ faultList, row.cls = 3 → row.esc = false := by decide
  exact all row (List.mem_of_find?_eq_some hrow) hcls

/-- A fault found, where its entry is not escalated: it is recorded at the sub-tick of its context, or at one drawn. -/
theorem raise_of_first {s : State} {code : Nat} {row : FaultRow} (source detail : Nat) (hrow : faultRow code = some row)
    (hm : s.mode ≠ mHalted) (hf : s.fault.frozen = false)
    (hfirst : (row.esc && s.fault.unacked.any fun u => u.cls == row.cls && u.code / 256 == code / 256 && u.source == source &&
      (match faultRow u.code with | some r => r.esc | none => false)) = false) :
    ∃ (r : Report) (t : State), Recorded code source row.cls (if s.fault.context.isSome then s else s.drew) r t ∧
      s.faulted code source detail = if row.cls = 3 then t.halt r else t := by
  unfold faulted raise
  cases hc : s.fault.context with
  | some x =>
    obtain ⟨r, t, hrec, heq⟩ := recordFault_of_first source detail x.1 x.2 hrow hm hf hfirst
    refine ⟨r, t, hrec, ?_⟩
    dsimp only
    rw [heq]
    split <;> rfl
  | none =>
    obtain ⟨r, t, hrec, heq⟩ := recordFault_of_first (s := s.drew) source detail (Config.freeSubtick s.sys.free) false hrow hm hf hfirst
    refine ⟨r, t, hrec, ?_⟩
    dsimp only
    rw [heq]
    split <;> rfl

end State

/-- Settles O60. Class F is never escalated, so the fault halts with its own record. -/
theorem fatalFaultsHalt : Obligations.FatalFaultsHalt := by
  unfold Obligations.FatalFaultsHalt
  intro code source detail row s hrow hcls hm hf
  obtain ⟨r, t, hrec, heq⟩ := State.raise_of_first source detail hrow hm hf (by simp [State.esc_of_classF hrow hcls])
  obtain ⟨hmode, hfrozen, hfatal, hprev, hbob⟩ := State.halt_registers t r
  have htick : (if s.fault.context.isSome then s else s.drew).tick = s.tick := by split <;> rfl
  have hs : (if s.fault.context.isSome then s else s.drew).mode = s.mode := by split <;> rfl
  rw [heq, if_pos hcls, hfatal, hprev, hrec.mode_eq, hs]
  exact ⟨hmode, hfrozen, hrec.code_eq, hrec.source_eq, hrec.tick_eq.trans htick, rfl, hbob⟩

/-! ### Notices of faults (R388) -/

/-- Settles O59. The fields of the notice are the digits of one number. -/
theorem faultNoticeValue : Obligations.FaultNoticeValue := by
  unfold Obligations.FaultNoticeValue
  intro s i q r hlog hcode hcls hflags hsource v
  have hentry : s.eventEntry (.faultRaised i) = (1, r.code * 2 ^ 48 + r.cls * 2 ^ 40 + r.flags * 2 ^ 32 + r.source * 2 ^ 16 + q % 2 ^ 16) := by
    unfold State.eventEntry
    dsimp only
    rw [hlog]
  have hv : v = r.code * 2 ^ 48 + r.cls * 2 ^ 40 + r.flags * 2 ^ 32 + r.source * 2 ^ 16 + q % 2 ^ 16 := congrArg Prod.snd hentry
  rw [hv, hentry]
  refine ⟨rfl, ?_⟩
  omega

/-! ### What the commands of faults answer (R384 to R409) -/

namespace State

variable {s : State}

theorem mode_ne_halted (h : s.alive = true) : s.mode ≠ mHalted := by
  simp only [alive, decide_eq_true_eq] at h
  unfold mHalted
  omega

/-- A report that is not injected, of a code that the device does not raise itself, is answered by its unit. -/
theorem report_of_real {f : FaultOperand} (h : s.alive = true) (hsrc : sourceOk f = true) (h0 : f.code ≠ 0) (h2 : f.code ≠ 0x0203)
    (hb : f.code ≠ 0x0B03) (hinj : f.injected = false) :
    s.report f = let u := faultReact { s with fault := { s.fault with context := some (f.subtick, false) } } f none
      { u with fault := { u.fault with context := none } } := by
  unfold report
  rw [if_neg (by simp [h, hsrc, h2, hb, hinj])]
  simp only [hinj, Bool.false_eq_true, if_false, if_neg h0]

/-- A fault of a side bus that has no reaction of its own is recorded alone. -/
theorem faultReact_0E06 {f : FaultOperand} (tap : Option Nat) (hcode : f.code = 0x0E06) : s.faultReact f tap = s.faulted 0x0E06 f.source 0 := by
  unfold faultReact faultRest
  simp [hcode]

/-- The loss of the AON clock writes objects alone once the units have stopped. -/
theorem aonLost_stopped (s : State) :
    Frame 2 (haltUnits (bobHalt (haltDump { s with fault := { s.fault with frozen := true, held := [], fatal := { code := 0x0203, source := 5 } } }))) s.aonLost := by
  unfold aonLost
  extract_lets old _ s1 s2 st
  have moved : Frame 2 s1.haltDump.bobHalt.haltUnits s2 :=
    .of (inc_frame _ _) (.of (setN_frame _ _ _) (.of (setO_frame _ _ _) (setO_frame _ _ _) rfl) rfl) rfl
  exact .of (inc_frame _ _) (.of (setN_frame _ _ _) (.of (setN_frame _ _ _) (.of (inc_frame _ _) moved rfl) rfl) rfl) rfl

theorem aonLost_fault (s : State) : s.aonLost.fault = { s.fault with frozen := true, held := [], fatal := { code := 0x0203, source := 5 } } := by
  obtain ⟨-, -, hfault, -⟩ := halting_keeps { s with fault := { s.fault with frozen := true, held := [], fatal := { code := 0x0203, source := 5 } } }
  exact (s.aonLost_stopped.fault_eq rfl).trans hfault

theorem aonLost_sys (s : State) : s.aonLost.sys = s.sys := s.aonLost_frame.sys_eq rfl

/-- What the loss of the AON clock writes after it has set the mode. -/
theorem aonLost_keeps {k : Nat} (h : k = Obj.modeCurrent ∨ k = Obj.modePrevious) : ∃ t : State,
    KeepsObj k ((t.setO Obj.modePrevious s.mode).setO Obj.modeCurrent mHalted) s.aonLost := by
  unfold aonLost
  extract_lets old _ s1 s2 st
  have hne (j : Nat) (h1 : Obj.modeCurrent ≠ j) (h2 : Obj.modePrevious ≠ j) : k ≠ j := by rintro rfl; exact h.elim h1.symm h2.symm
  have moved (r : State) : KeepsObj k r ((r.setN Obj.modeEntryTick s.tick).inc Obj.modeTransitions) :=
    ((KeepsObj.refl k r).setN (hne _ (by decide) (by decide)) _).inc (hne _ (by decide) (by decide))
  have counted : KeepsObj k s2 (s2.inc (Obj.faultCodeCount 0x0203)) := (KeepsObj.refl k s2).inc (hne _ (by decide) (by decide))
  have cleared := (counted.setN (hne Obj.cdStatus (by decide) (by decide)) st).setN (hne Obj.cdLostSticky (by decide) (by decide))
    (setBit (s2.n Obj.cdLostSticky) 5)
  exact ⟨_, (cleared.inc (hne _ (by decide) (by decide))).trans (moved _)⟩

theorem aonLost_mode (s : State) : s.aonLost.mode = mHalted := by
  obtain ⟨t, ht⟩ := aonLost_keeps (s := s) (k := Obj.modeCurrent) (.inl rfl)
  exact ht.trans (o_setO_self _ _ _)

theorem aonLost_modePrevious (s : State) : s.aonLost.o Obj.modePrevious = s.mode := by
  obtain ⟨t, ht⟩ := aonLost_keeps (s := s) (k := Obj.modePrevious) (.inr rfl)
  exact (ht.trans (o_setO_ne _ _ (by decide))).trans (o_setO_self _ _ _)

theorem autoAck_unacked (s : State) :
    s.autoAck.fault.unacked = s.fault.unacked.filter fun u => !(decide (u.due ≤ s.tick) && !bitOf (s.n Obj.ackPolicy) (u.cls - 1)) := by
  unfold autoAck
  extract_lets policy left
  split
  next h => exact (List.filter_eq_self.mpr (List.length_filter_eq_length_iff.mp h)).symm
  next => rfl

theorem autoAck_log (s : State) : s.autoAck.fault.log = s.fault.log := by
  unfold autoAck
  extract_lets policy left
  split <;> rfl

end State

/-- A report of code 0x0E06, where no record of its group is open: counts and an entry, and no mode changed (R384, R391, R392). -/
theorem exec_faultReport_0E06 {f : FaultOperand} {s : State} (h : s.alive = true) (hcode : f.code = 0x0E06) (hinj : f.injected = false)
    (hf : s.fault.frozen = false) (hopen : ∀ u ∈ s.fault.unacked, u.code / 256 ≠ 0x0E) :
    ∃ t, exec (.faultReport f) s = .next t ∧ t.o (Obj.faultCodeCount 0x0E06) = s.o (Obj.faultCodeCount 0x0E06) + 1 ∧
      t.o (Obj.faultTotal 1) = s.o (Obj.faultTotal 1) + 1 ∧ t.fault.held.length = s.fault.held.length + 1 ∧ t.mode = s.mode ∧
      t.mem = s.mem ∧ t.sys = s.sys := by
  have hanswer := State.report_of_real h (by simp [State.sourceOk, hcode]) (by simp [hcode]) (by simp [hcode]) (by simp [hcode]) hinj
  rw [State.faultReact_0E06 none hcode] at hanswer
  let c : State := { s with fault := { s.fault with context := some (f.subtick, false) } }
  have hrow : faultRow 0x0E06 = some ⟨0x0E06, 2, true, 0⟩ := by decide
  have hfirst (u : OpenRecord) (hu : u ∈ c.fault.unacked) : ¬ u.code / 256 = 0x0E06 / 256 := hopen u hu
  obtain ⟨r, t, hrec, heq⟩ := State.raise_of_first (s := c) f.source 0 hrow (State.mode_ne_halted h) hf (by
    rw [Bool.true_and, List.any_eq_false]
    intro u hu
    simp [hfirst u hu])
  rw [if_neg (by decide)] at heq
  refine ⟨{ c.faulted 0x0E06 f.source 0 with fault := { (c.faulted 0x0E06 f.source 0).fault with context := none } },
    congrArg Host.Outcome.next hanswer, ?_⟩
  rw [heq]
  exact ⟨hrec.codeCount, hrec.total (by decide), by simp [hrec.held, c], hrec.mode_eq, hrec.mem_eq, hrec.sys_eq⟩

/-- A request that fits its checker waits for its boundary where the mode and the arming allow it (R406, R407). -/
theorem exec_injRequest_of_allowed {blob : Octets} {s : State} (h : s.running = true) (hlen : blob.length = 16)
    (hpair : State.injPairOk (injOf blob).checker (injOf blob).mode (injOf blob).count (injOf blob).inst = true)
    (hallow : s.injAllowed (injOf blob).checker (injOf blob).inst = true) :
    exec (.injRequest .hostH blob) s = .next (s.addDue false (.arm (injOf blob))) := by
  change execInjRequest .hostH blob s = _
  unfold execInjRequest
  simp only [h, hlen, hpair, hallow]
  rfl

theorem exec_injRequest_of_refused {blob : Octets} {s : State} (h : s.running = true) (hlen : blob.length = 16)
    (hpair : State.injPairOk (injOf blob).checker (injOf blob).mode (injOf blob).count (injOf blob).inst = true)
    (hallow : s.injAllowed (injOf blob).checker (injOf blob).inst = false) :
    exec (.injRequest .hostH blob) s = .next (s.inc Obj.injRefused) := by
  change execInjRequest .hostH blob s = _
  unfold execInjRequest
  simp only [h, hlen, hpair, hallow]
  rfl

theorem exec_injCancel {s : State} (h : s.running = true) : exec (.injCancel .hostH) s = .next (s.addDue false .disarm) :=
  if_pos (by rw [h]; rfl)

/-- Settles O45, each clause from the answer of its command. -/
theorem faultCommandsComplete : Obligations.FaultCommandsComplete := by
  unfold Obligations.FaultCommandsComplete
  refine ⟨?_, ?_, ?_, ?_, ?_, ?_, ?_, ?_, ?_, ?_, ?_, ?_⟩
  · intro f s h hsrc h0 h2 hb hinj
    exact ⟨_, rfl, congrArg Host.Outcome.next (State.report_of_real h hsrc h0 h2 hb hinj)⟩
  · intro f s h hcode hinj hf hopen
    exact exec_faultReport_0E06 h hcode hinj hf hopen
  · intro s h
    refine ⟨if_pos h, s.aonLost_mode, ?_, ?_, ?_, s.aonLost_modePrevious, s.aonLost_sys⟩ <;> rw [State.aonLost_fault]
  · exact fun s h => if_pos h
  · intro s h
    exact ⟨if_pos h, s.autoAck_unacked, s.autoAck_frame.mem_eq rfl, s.autoAck_frame.sys_eq rfl, s.autoAck_log⟩
  · intro cls v s h hcls hv
    exact if_pos (by rcases hcls with rfl | rfl <;> simp [h, hv])
  · intro s h h0 h8
    exact if_pos (by simp [h, h0, h8])
  · intro blob s h hlen hw hpair hallow
    rw [exec_injRequest_of_allowed h hlen hpair hallow, State.addDue_of_ne _ _ hw]
  · intro blob s h hlen hw hpair hallow
    rw [exec_injRequest_of_allowed h hlen hpair hallow, State.addDue_of_w3 _ _ hw]
  · intro blob s h hlen hpair hallow
    exact exec_injRequest_of_refused h hlen hpair hallow
  · intro s h hw
    rw [exec_injCancel h, State.addDue_of_ne _ _ hw]
  · intro s h hw
    rw [exec_injCancel h, State.addDue_of_w3 _ _ hw]

end Sys2Proof.Machine
end

section
/-!
SUPPORT. The twin: who is elected (R416), how a pair joins and what a join that ends leaves behind (R414, R415, R423), and a tick of a joined
pair (R419, R420, R423, R434 to R436).
-/

namespace Sys2Proof.Machine

/-! ### The owner-elect (R416) -/

/-- Settles O58. Each test decides where the two units differ in it. -/
theorem ownerElect : Obligations.OwnerElect := by
  unfold Obligations.OwnerElect
  intro s h
  unfold State.electBy
  refine ⟨fun hown hpeer => ?_, fun hown hpeer => ?_, fun hown hmine hpeer => ?_, fun hown hmine hpeer => ?_, fun hown hpref => ?_⟩
  · rw [if_pos (by simp [hown, hpeer]), hown]
  · rw [if_pos (by simp [hown, hpeer]), hown]
  · rw [if_neg (by simp [hown]), if_pos (by simp [hmine, hpeer]), hmine]
  · rw [if_neg (by simp [hown]), if_pos (by simp [hmine, hpeer]), hmine]
  · rw [if_neg (by simp [hown]), if_neg (by simp [hpref])]

namespace State

variable {s : State}

/-! ### Joining the pair -/

@[simp] theorem twinEnter_twinState (s : State) (st : Nat) : (s.twinEnter st).o Obj.twinState = st := o_setO_self s Obj.twinState st

theorem twinEnter_o (s : State) (st : Nat) {k : Nat} (h : k ≠ Obj.twinState) : (s.twinEnter st).o k = s.o k := o_setO_ne s st h

theorem twinLink_twinState (s : State) : s.twinLink.o Obj.twinState = 2 := twinEnter_twinState s.drew 2

theorem twinLink_o (s : State) {k : Nat} (h : k ≠ Obj.twinState) : s.twinLink.o k = s.o k := twinEnter_o s.drew 2 h

theorem joinRefuse_twinState (s : State) (status : Nat) : (s.joinRefuse status).o Obj.twinState = 1 :=
  (o_setO_ne _ _ (by decide)).trans ((o_setO_ne _ _ (by decide)).trans (twinEnter_twinState s 1))

theorem joinRefuse_twinJoinRefused (s : State) (status : Nat) : (s.joinRefuse status).o Obj.twinJoinRefused = s.o Obj.twinJoinRefused + 1 :=
  calc (s.joinRefuse status).o Obj.twinJoinRefused
    _ = ((s.twinEnter 1).inc Obj.twinJoinRefused).o Obj.twinJoinRefused := o_setO_ne _ _ (by decide)
    _ = (s.twinEnter 1).o Obj.twinJoinRefused + 1 := o_setO_self _ _ _
    _ = s.o Obj.twinJoinRefused + 1 := by rw [twinEnter_o s 1 (by decide)]

theorem joinRefuse_twinJoinStatus (s : State) (status : Nat) : (s.joinRefuse status).o Obj.twinJoinStatus = status := o_setO_self _ _ _

theorem joinRefuse_retryAt (s : State) (status : Nat) : (s.joinRefuse status).twin.retryAt = s.age + 81920 := rfl

/-- Who is elected hangs on OWN, TWIN_PREFERRED and SERIAL alone. -/
theorem electBy_congr {t : State} (h : Hello) (hown : t.o Obj.twinOwn = s.o Obj.twinOwn) (hpref : t.o Obj.twinPreferred = s.o Obj.twinPreferred)
    (hserial : t.blob Obj.serial = s.blob Obj.serial) : t.electBy h = s.electBy h := by
  unfold electBy flag
  rw [hown, hpref, hserial]

/-- A hello in LINKING: AUTH of the peer that passes every check, a refusal of any other (R415, R416). -/
theorem helloReceive_of_linking {h : Hello} (hl : h.leaving = false) (hst : s.o Obj.twinState = 2) :
    (s.helloStatus h = 0 → (s.helloReceive h).o Obj.twinState = 3 ∧ (s.helloReceive h).blob Obj.twinPeerSerial = h.serial ∧
      (s.helloReceive h).twin.hello = some h ∧ (s.helloReceive h).twin.elect = s.electBy h ∧ (s.helloReceive h).mem = s.mem ∧
      (s.helloReceive h).sys = s.sys) ∧
    (s.helloStatus h ≠ 0 → s.helloReceive h = s.joinRefuse (s.helloStatus h)) := by
  unfold helloReceive
  rw [if_neg (by simp [hl]), if_neg (by simp [hst])]
  refine ⟨fun h0 => ?_, fun h0 => if_pos h0⟩
  rw [if_neg (by simp [h0])]
  refine ⟨twinEnter_twinState s 3, blob_setBlob_self _ _ _, rfl, ?_, rfl, rfl⟩
  exact electBy_congr h (twinEnter_o s 3 (by decide)) (twinEnter_o s 3 (by decide)) (blob_setBlob_ne _ _ (by decide))

end State

/-- Settles O46, each clause from the answer of its command. -/
theorem twinJoinCommandsComplete : Obligations.TwinJoinCommandsComplete := by
  unfold Obligations.TwinJoinCommandsComplete
  refine ⟨?_, ?_, ?_, ?_, ?_, ?_, ?_, ?_, ?_, ?_, ?_⟩
  · intro s h1 h2 h5 hleft hretry
    exact ⟨if_pos ⟨h1, h2, h5, hleft, hretry⟩, if_pos ⟨h1, h2, h5, hleft, hretry⟩⟩
  · intro s h1 h2 h5 hleft hretry c hc
    have hanswer : exec c s = .next s.twinLink := by
      rcases hc with rfl | rfl <;> exact if_pos ⟨h1, h2, h5, hleft, hretry⟩
    exact ⟨_, hanswer, s.twinLink_twinState, rfl, rfl, rfl, rfl, fun k hk => s.twinLink_o hk, rfl⟩
  · exact fun s h2 h4 hsince => if_pos ⟨h2, h4, hsince⟩
  · intro s h2 h4 hsince
    refine ⟨_, if_pos ⟨h2, h4, hsince⟩, s.joinRefuse_twinState _, s.joinRefuse_twinJoinRefused _, fun h => ?_, fun h => ?_, s.joinRefuse_retryAt _,
      rfl, rfl⟩
    · rw [State.joinRefuse_twinJoinStatus, if_pos h, Nat.cast_ofNat]
    · rw [State.joinRefuse_twinJoinStatus, if_neg (by rw [h]; decide), if_pos h, Nat.cast_ofNat]
  · exact fun h s hc hl hst => ⟨_, if_pos hc, State.helloReceive_of_linking hl hst⟩
  · intro h s hc hl hj
    exact (if_pos hc).trans (congrArg Host.Outcome.next ((if_pos hl).trans (if_pos hj)))
  · intro b s hc hst helect hatt
    have hanswer : exec (.twinBulkReceive b) s = if s.bulkDigest b ≠ b.digest then .next (s.joinRefuse 8)
        else .next { s with twin := { s.twin with bulkDue := some b, joinAt := some b.boundary } } :=
      (if_neg (by simp [hc])).trans ((if_pos ⟨hst, helect⟩).trans (if_neg (by simp [hatt])))
    rw [hanswer, ite_not, apply_ite Host.Outcome.next]
  · intro b s hc hst helect hatt
    exact (if_neg (by simp [hc])).trans ((if_pos ⟨hst, helect⟩).trans (if_pos (by simp [hatt])))
  · intro j s hj hrun hst hle h0
    change execTwinJoinBoundary s = _
    unfold execTwinJoinBoundary
    rw [hj]
    exact if_pos ⟨hrun, hst, hle, h0⟩
  · exact fun s hj => if_pos hj
  · intro s h2 h4
    have hj : ¬ s.joined = true := by simp only [State.joined, decide_eq_true_eq]; omega
    exact (if_neg hj).trans (if_pos ⟨h2, h4⟩)

/-! ### A tick of a joined pair -/

/-- Settles O47, each clause from the answer of its command. -/
theorem twinTickCommandsComplete : Obligations.TwinTickCommandsComplete := by
  unfold Obligations.TwinTickCommandsComplete
  refine ⟨?_, ?_, ?_, ?_, ?_, ?_, ?_, ?_, ?_, ?_⟩
  · exact fun a s hc hj => if_pos (by simp [hc, hj])
  · exact fun a s => if_neg (by simp)
  · exact fun s hj hgot => if_pos (by simp [hj, hgot])
  · exact fun w s hc hj hown => if_pos (by simp [hc, hj, hown])
  · exact fun w s hc hj hown => if_pos (by simp [hc, hj, hown])
  · intro f s hc hj
    exact (if_pos hc).trans (congrArg Host.Outcome.next ((if_neg (by simp [hj])).trans (if_pos rfl)))
  · intro f s hc hj hsig
    have hown : ¬ (f.signaling && !s.flag Obj.twinOwn) = true := by rcases hsig with h | h <;> simp [h]
    exact (if_pos hc).trans (congrArg Host.Outcome.next ((if_neg (by simp [hj])).trans ((if_neg (by simp)).trans (if_neg hown))))
  · exact fun s hj h8 => if_pos (by simp [hj, h8])
  · exact fun time a b s hj => if_pos hj
  · exact fun s hj hm => if_pos (by simp [hj, hm])

end Sys2Proof.Machine
end

section
/-!
SUPPORT. Storage and supply: the record that capture copies (R451, R452), the flash and its commands (R470, R506), the read-back of the core
voltage (R472), the temperature sensors (R478), and the second of ageing (R484).
-/

namespace Sys2Proof.Machine

namespace State

variable {s : State}

/-! ### Capture -/

theorem toHost_copied (s : State) (l : Octets) : (s.toHost l).record = { s.record with copied := l } := by
  unfold toHost
  extract_lets wr now _ _ s1
  split
  · exact (vector_frame s1 0 35).record_eq rfl
  · rfl

/-- Capture copies the next record of the ring and moves past it (R452). -/
theorem captureCopy_of_room {e : BobEntry} (hon : s.capOn = true) (hup : s.pcieUp = true) (hreplay : s.o Obj.replayState ≠ 4) (hgap : s.record.gap = none)
    (hnext : s.record.entries.find? (fun e => decide (s.record.capPos ≤ e.pos)) = some e) (hbad : e.bad = false) (hroom : e.len ≤ s.capRoom) :
    s.captureCopy false = let r := ((List.range (e.len / 8)).map fun i => toBE 8 (s.readWord 17 ((e.pos % bobRing) / 8 + i))).flatten
      { s.toHost r with record := { (s.toHost r).record with capPos := e.pos + e.len } }.showRing := by
  unfold captureCopy
  rw [if_neg (by simp [hon, hup, hreplay]), hgap]
  dsimp only
  rw [if_neg (by simp [hgap]), hnext]
  simp only [hbad, Bool.or_self, Bool.false_eq_true, if_false]
  rw [if_neg (by omega)]

theorem captureCopy_complete {e : BobEntry} (hon : s.capOn = true) (hup : s.pcieUp = true) (hreplay : s.o Obj.replayState ≠ 4)
    (hgap : s.record.gap = none) (hnext : s.record.entries.find? (fun e => decide (s.record.capPos ≤ e.pos)) = some e) (hbad : e.bad = false)
    (hroom : e.len ≤ s.capRoom) : (s.captureCopy false).record.capPos = e.pos + e.len ∧
      (s.captureCopy false).record.copied = ((List.range (e.len / 8)).map fun i => toBE 8 (s.readWord 17 ((e.pos % bobRing) / 8 + i))).flatten ∧
      (s.captureCopy false).mem = s.mem ∧ (s.captureCopy false).sys = s.sys := by
  rw [captureCopy_of_room hon hup hreplay hgap hnext hbad hroom]
  extract_lets r
  have frame := toHost_frame s r
  refine ⟨rfl, ?_, frame.mem_eq rfl, frame.sys_eq rfl⟩
  exact congrArg RecordState.copied (toHost_copied s r)

/-! ### Flash -/

/-- Who may ask for a flash command at all (R470). -/
theorem flashAsk_of_free {who : FlashBy} {c : FlashCmd} (h : who = .host true ∧ s.running = true ∧ s.o Obj.flashStatus ≠ 1 ∨
    who = .forester ∧ s.alive = true ∧ s.power.command = none ∧ s.power.queued = none) : s.flashAsk who c = s.flashCommand c := by
  obtain ⟨rfl, hrun, hst⟩ | ⟨rfl, halive, hcmd, hqueued⟩ := h
  · exact if_pos (by simp [hrun, hst])
  · exact if_pos (by simp [halive, hcmd, hqueued])

theorem flashCommand_of_idle (c : FlashCmd) (h : s.power.write = none) :
    s.flashCommand c = if s.flashRefusal c = 0 then s.flashStart c else s.flashCommand c := by
  split
  next h0 =>
    unfold flashCommand
    extract_lets r
    rw [if_neg (by simp [r, h0]), if_neg (by simp [h])]
  next => rfl

/-- A flash command asked for, with no journal write begun: it starts or is refused (R470, R506). -/
theorem flashAsk_of_idle {who : FlashBy} {c : FlashCmd} (h : who = .host true ∧ s.running = true ∧ s.o Obj.flashStatus ≠ 1 ∨
    who = .forester ∧ s.alive = true ∧ s.power.command = none ∧ s.power.queued = none) (hw : s.power.write = none) :
    s.flashAsk who c = if s.flashRefusal c = 0 then s.flashStart c else s.flashCommand c :=
  (flashAsk_of_free h).trans (flashCommand_of_idle c hw)

end State

/-- Settles O49, each clause from the answer of its command. -/
theorem storageCommandsComplete : Obligations.StorageCommandsComplete := by
  unfold Obligations.StorageCommandsComplete
  refine ⟨?_, ?_, ?_, ?_, ?_, ?_, ?_, ?_, ?_, ?_, ?_, ?_, ?_⟩
  · exact fun e s hon hup hreplay hgap hnext hbad hroom => ⟨_, rfl, State.captureCopy_complete hon hup hreplay hgap hnext hbad hroom⟩
  · exact fun bad s => rfl
  · intro r s h1 hfeed hst
    exact congrArg Host.Outcome.next ((if_neg (by simp [h1, hfeed])).trans (if_pos hst))
  · intro r s h1 hfeed hst
    exact congrArg Host.Outcome.next ((if_neg (by simp [h1, hfeed])).trans (if_neg (by simp [hst])))
  · exact fun who cs addr s hwho hw => congrArg Host.Outcome.next (State.flashAsk_of_idle hwho hw)
  · exact fun who cs addr data s hlo hhi hwho hw => (if_pos ⟨hlo, hhi⟩).trans (congrArg Host.Outcome.next (State.flashAsk_of_idle hwho hw))
  · exact fun who cs addr s hwho hw => congrArg Host.Outcome.next (State.flashAsk_of_idle hwho hw)
  · exact fun who cs addr s hwho hw => congrArg Host.Outcome.next (State.flashAsk_of_idle hwho hw)
  · intro ok c s hc
    change Host.Outcome.next (s.flashComplete ok) = _
    rw [State.flashComplete, hc]
  · exact fun s hrun hle => if_pos (by simp [hrun, hle])
  · intro cls s hrun hcls
    exact if_pos (by rcases hcls with rfl | rfl <;> simp [hrun])
  · intro w s hw hstarted hrun
    change Host.Outcome.next (s.journalDone true) = _
    rw [State.journalDone, hw]
    dsimp only
    rw [if_neg (by simp [hstarted, hrun]), if_pos rfl]
  · intro w s hw hstarted hrun
    change Host.Outcome.next (s.journalDone false) = _
    rw [State.journalDone, hw]
    dsimp only
    rw [if_neg (by simp [hstarted, hrun]), if_neg (by simp)]

namespace State

variable {s : State}

/-! ### The core voltage (R472, R505) -/

/-- The voltage commanded after a read-back within 10 mV: a step of at most 5 mV to the target. -/
def steppedVout (v target : Nat) : Nat := if v < target then min target (v + 5) else if target < v then max target (v - 5) else v

theorem steppedVout_near (v target : Nat) : steppedVout v target ≤ v + 5 ∧ v ≤ steppedVout v target + 5 := by
  unfold steppedVout
  split
  · omega
  · split <;> omega

/-- What a read-back within 10 mV of the commanded voltage does (R472). -/
theorem avsRead_of_near {x : Nat} (second : Bool) (hx : x ≤ s.power.vout + 10) (hv : s.power.vout ≤ x + 10) :
    s.avsRead (some x) second = if second then { s.setN Obj.vcoreMeasuredMv x with power := { s.power with
      vout := steppedVout s.power.vout ((s.setN Obj.vcoreMeasuredMv x).n Obj.vcoreTargetMv) } } else s.setN Obj.vcoreMeasuredMv x :=
  if_pos (decide_eq_true ⟨hx, hv⟩)

theorem avsRead_none (s : State) (second : Bool) : s.avsRead none second = (s.inc Obj.avsFails).faulted 0x0E06 0 0 := by
  simp [avsRead]

/-! ### Temperature (R478, R479) -/

/-- The sensors read, one object each from sensor `j` on. -/
theorem foldl_tjSensor_o (s : State) (j : Nat) (l : List Int) (k : Nat) :
    (((List.range' j l.length).zip l).foldl (fun (s : State) x => s.setO (Obj.tjSensor x.1) x.2) s).o k =
      if Obj.tjSensor j ≤ k ∧ k < Obj.tjSensor j + l.length then l.getD (k - Obj.tjSensor j) 0 else s.o k := by
  induction l generalizing s j with
  | nil => exact (if_neg (by simp)).symm
  | cons x l ih =>
    have hnext : Obj.tjSensor (j + 1) = Obj.tjSensor j + 1 := rfl
    rw [List.length_cons, List.range'_succ, List.zip_cons_cons, List.foldl_cons, ih, o_setO, hnext]
    by_cases hk : k = Obj.tjSensor j
    · rw [if_neg (by omega), if_pos hk, if_pos (by omega), hk, Nat.sub_self, List.getD_cons_zero]
    · rw [if_neg hk]
      by_cases hin : Obj.tjSensor j + 1 ≤ k ∧ k < Obj.tjSensor j + 1 + l.length
      · have hsub : k - Obj.tjSensor j = k - (Obj.tjSensor j + 1) + 1 := by omega
        rw [if_pos hin, if_pos (by omega), hsub, List.getD_cons_succ]
      · rw [if_neg hin, if_neg (by omega)]

/-- The eight sensors as they are read. -/
def sensed (s : State) (l : List Int) : State := (enum l).foldl (fun s x => s.setO (Obj.tjSensor x.1) x.2) s

theorem sensed_o {l : List Int} (h : l.length = 8) (k : Nat) :
    (s.sensed l).o k = if Obj.tjSensor 0 ≤ k ∧ k < Obj.tjSensor 0 + 8 then l.getD (k - Obj.tjSensor 0) 0 else s.o k := by
  rw [← h, ← foldl_tjSensor_o s 0 l k, sensed, enum, List.range_eq_range']

theorem sensed_frame (s : State) (l : List Int) : Frame 2 s (s.sensed l) := .foldl (fun _ _ => setO_frame _ _ _) (.refl _ _)

/-- In a mode without ticks a reading sets the sensors, Tj and its peak and no more (R478). -/
theorem thermalRead_of_not_running {l : List Int} (hl : l.length = 8) (h : s.running = false) :
    (∀ k, (s.thermalRead l).o k = (((s.sensed l).setO Obj.tjMax (l.foldl max (l.headD 0))).setO Obj.tjPeak
      (max (l.foldl max (l.headD 0)) (s.o Obj.tjPeak))).o k) ∧ (s.thermalRead l).mem = s.mem ∧ (s.thermalRead l).sys = s.sys := by
  unfold thermalRead
  extract_lets tj s1 s2 hot cool _ s3
  have frame : Frame 2 s s2 := .of (setO_frame _ _ _) (.of (setO_frame _ _ _) (sensed_frame s l) rfl) rfl
  have hmode : s3.mode = s.mode := by
    have hs2 : s2.o Obj.modeCurrent = (s.sensed l).o Obj.modeCurrent := (o_setO_ne _ _ (by decide)).trans (o_setO_ne _ _ (by decide))
    exact hs2.trans ((sensed_o hl _).trans (if_neg (by decide)))
  have hrun : s3.running = false := by
    unfold running at h ⊢
    rw [hmode, h]
  have hpeak : s1.o Obj.tjPeak = s.o Obj.tjPeak := (sensed_o hl _).trans (if_neg (by decide))
  rw [if_pos (by simp [hrun])]
  refine ⟨fun k => ?_, frame.mem_eq rfl, frame.sys_eq rfl⟩
  rw [← hpeak]
  rfl

theorem thermalRead_complete {l : List Int} (hl : l.length = 8) (h : s.running = false) :
    (s.thermalRead l).o Obj.tjMax = l.foldl max (l.headD 0) ∧ (s.thermalRead l).o Obj.tjPeak = max (l.foldl max (l.headD 0)) (s.o Obj.tjPeak) ∧
    (∀ k, k < 8 → (s.thermalRead l).o (Obj.tjSensor k) = l.getD k 0) ∧ (s.thermalRead l).mem = s.mem ∧ (s.thermalRead l).sys = s.sys := by
  obtain ⟨hobj, hmem, hsys⟩ := thermalRead_of_not_running hl h
  refine ⟨?_, ?_, fun k hk => ?_, hmem, hsys⟩
  · rw [hobj, o_setO_ne _ _ (by decide), o_setO_self]
  · rw [hobj, o_setO_self]
  · have hpeak : Obj.tjSensor k ≠ Obj.tjPeak := by simp only [Obj.tjSensor, Obj.tjPeak, ne_eq]; omega
    have hmax : Obj.tjSensor k ≠ Obj.tjMax := by simp only [Obj.tjSensor, Obj.tjMax, ne_eq]; omega
    have hin : Obj.tjSensor 0 ≤ Obj.tjSensor k ∧ Obj.tjSensor k < Obj.tjSensor 0 + 8 := by simp only [Obj.tjSensor]; omega
    rw [hobj, o_setO_ne _ _ hpeak, o_setO_ne _ _ hmax, sensed_o hl, if_pos hin, show Obj.tjSensor k - Obj.tjSensor 0 = k by simp [Obj.tjSensor]]

/-- A trip of a live device halts it (R479). -/
theorem thermalTrip_halts (k : Nat) (h : s.alive = true) (hf : s.fault.frozen = false) : (s.thermalTrip k).mode = mHalted := by
  have hne : s.mode ≠ mReset := by
    simp only [alive, decide_eq_true_eq] at h
    unfold mReset
    omega
  have hrow : faultRow 0x0E02 = some ⟨0x0E02, 3, false, 1⟩ := by decide
  unfold thermalTrip
  rw [if_neg hne]
  exact faulted_classF _ _ hrow rfl rfl (mode_ne_halted h) hf

/-! ### Ageing (R481 to R484) -/

theorem sentinelTake_first {x : Sentinel} (hrun : s.running = true) (hw : s.sys.window = .w3)
    (hnone : Sparse.get (fun _ => none) s.power.sentAt (sentinelOf x).1 = none) :
    s.sentinelTake x = { s.setN (sentinelOf x).1 (sentinelOf x).2.1 with power := { s.power with
      sentAt := Sparse.put (fun _ => none) s.power.sentAt (sentinelOf x).1 (some s.age) } } := by
  unfold sentinelTake
  dsimp only
  rw [hnone]
  exact if_pos (by simp [hrun, hw])

theorem planStart_first (hrun : s.running = true) (h0 : s.index = 0) (hnone : s.power.planStart = none) (hst : s.o Obj.selvageState = 0) :
    s.planStart = ({ s.setO Obj.selvageState 1 with power := { s.power with planStart := some s.age } } : State).setN Obj.lastPlanTick s.tick := by
  unfold planStart
  rw [hnone]
  exact if_pos (by simp [hrun, h0, hst])

/-- A plan that completes: SELVAGE idle again, the plan kept and a journal write due (R482). -/
theorem planComplete_complete (hrun : s.running = true) (hst : s.o Obj.selvageState = 1) : s.planComplete.o Obj.selvageState = 0 ∧
    s.planComplete.power.planDone.isSome = true ∧ s.planComplete.power.journalDue = true ∧ s.planComplete.mem = s.mem := by
  refine ⟨?_, ?_, ?_, s.planComplete_frame.mem_eq rfl⟩ <;> rw [planComplete, if_pos ⟨hst, hrun⟩]
  · exact (o_setO_ne _ _ (by decide)).trans (o_setO_self _ _ _)
  · rfl
  · rfl

/-- The hours after a second of ageing. -/
def agedHours (s : State) : Nat := s.n Obj.ageEqHours + ((s.power.ageRest + ageStep (s.o Obj.tjMax)) / fpOne).toNat

theorem ageSecond_ageEqHours (s : State) : s.ageSecond.n Obj.ageEqHours = s.agedHours :=
  congrArg Int.toNat ((o_setO_ne _ _ (by decide)).trans (o_setO_self _ _ _))

theorem ageSecond_lifeUsedPm (s : State) : s.ageSecond.n Obj.lifeUsedPm = s.agedHours * 1000 / (219150 * 65536) :=
  congrArg Int.toNat (o_setO_self _ _ _)

end State

/-- Settles O50, each clause from the answer of its command. -/
theorem supplyCommandsComplete : Obligations.SupplyCommandsComplete := by
  unfold Obligations.SupplyCommandsComplete
  refine ⟨?_, ?_, ?_, ?_, ?_, ?_, ?_, ?_, ?_, ?_, ?_, ?_⟩
  · exact fun mv s hrun hx hv => (if_pos hrun).trans (congrArg Host.Outcome.next (State.avsRead_of_near false hx hv))
  · exact fun mv s hrun => if_pos hrun
  · intro mv s hrun hx hv
    obtain ⟨hup, hdown⟩ := State.steppedVout_near s.power.vout ((s.setN Obj.vcoreMeasuredMv mv.val).n Obj.vcoreTargetMv)
    exact ⟨_, (if_pos hrun).trans (congrArg Host.Outcome.next (State.avsRead_of_near true hx hv)), State.o_setO_self _ _ _,
      fun k hk => State.o_setO_ne _ _ hk, hup, hdown, rfl, rfl⟩
  · intro c s hrun hc
    rcases hc with rfl | rfl <;> exact (if_pos hrun).trans (congrArg Host.Outcome.next (s.avsRead_none _))
  · intro l s hmode hl hall
    have hrun : s.running = false := by simp [State.running, hmode, mBoot]
    have hanswer : exec (.thermalSensorRead l) s = .next (s.thermalRead l) := if_pos ⟨by rw [hmode]; decide, hl, by simpa using hall⟩
    exact ⟨_, hanswer, State.thermalRead_complete hl hrun⟩
  · exact fun l s hmode hl hall => if_pos ⟨hmode, hl, by simpa using hall⟩
  · exact fun k s hmode hok => congrArg Host.Outcome.next ((if_pos hmode).trans (if_pos hok))
  · exact fun k s h hf _ => ⟨_, rfl, State.thermalTrip_halts k.val h hf⟩
  · exact fun x s hrun hw hnone => congrArg Host.Outcome.next (State.sentinelTake_first hrun hw hnone)
  · exact fun s hrun h0 hnone hst => congrArg Host.Outcome.next (State.planStart_first hrun h0 hnone hst)
  · exact fun s hrun hst => ⟨rfl, State.planComplete_complete hrun hst⟩
  · intro s hrun
    refine ⟨if_pos hrun, ?_, ?_, s.ageSecond_frame.mem_eq rfl, s.ageSecond_frame.sys_eq rfl⟩
    · rw [State.ageSecond_ageEqHours]
      exact Nat.le_add_right _ _
    · rw [State.ageSecond_lifeUsedPm, State.ageSecond_ageEqHours]

end Sys2Proof.Machine
end

section
/-!
SUPPORT. The tick: what the boundary shows, what its windows keep (R38, R41, R43, R52, R53, R334), leap entries (R76 to R78, R84), and the
frame of the commands of groves and memory.
-/

namespace Sys2Proof.Machine

/-- Settles O18: the frame of each command lies inside its footprint. -/
theorem shuttleCommandsFrame : Obligations.ShuttleCommandsFrame :=
  fun c s t hc ht => (shuttleCommand_frame c s hc t ht).onlyChanges

/-! ### The boundary and the windows (R38, R41, R52, R334) -/

namespace State

/-- The dictionary that the host reads is the dictionary as it stands (R334). -/
def Shown (s : State) : Prop := s.host.snapObj = s.obj ∧ s.host.snapBlobs = s.blobs

section
variable (s : State)

theorem snapshot_shown : s.snapshot.Shown := ⟨rfl, rfl⟩

/-- A boundary ends with the dictionary shown, unless the device halts in it. -/
theorem boundary_shown (cycles gpio : Nat) (ownIn : Bool) (work : List WorkTally) :
    (s.boundary cycles gpio ownIn work).mode ≠ mHalted → (s.boundary cycles gpio ownIn work).Shown := by
  unfold boundary
  extract_lets _ closed begun units
  split
  next halted => exact fun h => absurd halted h
  next =>
    split
    next halted => exact fun h => absurd halted h
    next => exact fun _ => snapshot_shown _

/-- The banks that wake keep the mode: only their retention is written. -/
theorem banksWake_mode : KeepsMode s s.banksWake := by
  refine KeepsObj.foldl (fun t b h => .ite (h.setO ?_ 0) h) (.refl _ s)
  simp only [Obj.memRetention, Obj.modeCurrent, ne_eq]
  omega

/-- The requests of one cycle of a sub-bank keep the mode: of the objects, only collisions are counted (R371). -/
theorem memCycle_mode (c : MemCycle) : KeepsMode s (s.memCycle c) := by
  unfold memCycle
  split
  · exact .refl _ s
  · extract_lets _ _ writers fixed answers _ s1 s2
    have h2 : KeepsMode s s2 := by
      unfold s2
      clear_value writers
      cases writers with
      | nil => exact .refl _ s
      | cons w _ => exact .ite (.refl _ s) (.of (writeWord_frame _ _ _ _) (.refl _ s) rfl)
    exact .ite h2 (h2.addN (by simp only [Obj.modeCurrent, Obj.memCollisions, ne_eq]; omega) _)

theorem memCycles_mode (cycles : List MemCycle) : KeepsMode s (s.memCycles cycles) := by
  have begun : KeepsMode s { s with shuttle := { s.shuttle with responses := [] } } := rfl
  unfold memCycles
  exact .foldl (fun t c h => (memCycle_mode t c).trans h) begun

theorem memCycles_nil_mem : (s.memCycles []).mem = s.mem := by
  have answered := congrArg State.mem s.memCycles_nil
  exact answered

/-- The requests that masters bring into W2 keep the mode, the tick and the services, and without one the memory too (R370, R371). -/
theorem memCycles_banksWake_keeps (cycles : List MemCycle) : KeepsMode s (s.banksWake.memCycles cycles) ∧
    (s.banksWake.memCycles cycles).sys = s.sys ∧ (s.banksWake.memCycles cycles).serv = s.serv ∧
    (cycles = [] → (s.banksWake.memCycles cycles).mem = s.mem) := by
  have woken := s.banksWake_frame
  have served := s.banksWake.memCycles_frame cycles
  refine ⟨(s.banksWake.memCycles_mode cycles).trans s.banksWake_mode, (served.sys_eq rfl).trans (woken.sys_eq rfl),
    (served.serv_eq rfl).trans (woken.serv_eq rfl), ?_⟩
  rintro rfl
  exact (memCycles_nil_mem _).trans (woken.mem_eq rfl)

/-- An overrun is noted with the tick in which it happened (R52). -/
theorem overrun_overrunLastTick (work : Unfinished) : (s.overrun work).o Obj.overrunLastTick = ((s.overrun work).tick : Int) := by
  unfold overrun
  extract_lets _
  split
  next s1 dropped _ =>
    extract_lets _ s2
    have kept : KeepsObj Obj.tickCount s2 ((s2.addN Obj.overrunItemsDropped dropped).setN Obj.overrunLastTick s2.tick) :=
      ((KeepsObj.refl _ s2).addN (by decide) _).setN (by decide) _
    rw [o_setN, if_pos rfl]
    exact congrArg (fun v : Int => (v.toNat : Int)) kept.symm

end

theorem mayBegin_of_earlier {s : State} (w : Window) (hrun : s.running = true) (h : s.sys.window.rank < w.rank) : s.mayBegin w = true := by
  simp [mayBegin, hrun, h]

end State

section
variable {s : State} (feed : List FeedRecord) (cycles : List MemCycle)

/-- W2 outside REPLAY: the banks wake and the masters' requests are served. -/
theorem exec_w2Serve_of_live (h : s.mayBegin .w2 = true) (hmode : s.mode ≠ mReplay) :
    exec (.w2Serve feed cycles) s = .next ((s.begin_ .w2).banksWake.memCycles cycles) := by
  have kept := ((s.begin_ .w2).memCycles_banksWake_keeps cycles).1
  exact (if_pos h).trans (congrArg Host.Outcome.next (if_neg fun e => hmode (kept.symm.trans e)))

/-- W2 in REPLAY serves the replay after them (R457). -/
theorem exec_w2Serve_of_replay (h : s.mayBegin .w2 = true) (hmode : s.mode = mReplay) :
    exec (.w2Serve feed cycles) s = .next (((s.begin_ .w2).banksWake.memCycles cycles).replayW2 feed) := by
  have kept := ((s.begin_ .w2).memCycles_banksWake_keeps cycles).1
  exact (if_pos h).trans (congrArg Host.Outcome.next (if_pos (kept.trans hmode)))

end

/-- Settles O23: the boundary and each window that may begin answer their work; what that work keeps is said by its frame and the lemmas above. -/
theorem tickCommandsComplete : Obligations.TickCommandsComplete := by
  have bounded (cycles gpio : Fin 4294967296) (ownIn : Bool) (work : List WorkTally) (s : State) (hrun : s.running = true) :
      exec (.tickBoundary cycles gpio ownIn work) s = .next (s.boundary cycles.val gpio.val ownIn work) := if_pos hrun
  have ingested (s : State) (hrun : s.running = true) (hw : s.sys.window.rank < 1) : exec .w0Ingest s = .next (s.begin_ .w0).ingest :=
    if_pos (State.mayBegin_of_earlier .w0 hrun hw)
  have overran (work : Unfinished) (s : State) (hrun : s.running = true) (hw : s.sys.window = work.window) :
      exec (.windowOverrun work) s = .next (s.overrun work) := if_pos (by simp [hrun, hw])
  refine ⟨bounded, ingested, overran, fun cycles gpio ownIn work s hrun => ?_, fun s hrun hw => ?_, fun feed s hrun hw hmode => ?_,
    fun feed s hrun hw hmode => ?_, fun feed cycles s hrun hw hmode => ?_,
    fun feed cycles s hrun hw hmode => exec_w2Serve_of_replay feed cycles (State.mayBegin_of_earlier .w2 hrun hw) hmode,
    fun bad keys s hrun hw => if_pos (State.mayBegin_of_earlier .w3 hrun hw), fun work s hrun hw => ?_⟩
  · exact ⟨_, bounded cycles gpio ownIn work s hrun, (s.boundary_frame _ _ _ _).pending_eq rfl, s.boundary_shown _ _ _ _⟩
  · have kept := (s.begin_ .w0).ingest_frame
    exact ⟨_, ingested s hrun hw, kept.mem_eq rfl, kept.canopy_eq rfl, kept.vault_eq rfl, kept.record_eq rfl⟩
  · exact (if_pos (State.mayBegin_of_earlier .w1 hrun hw)).trans (congrArg Host.Outcome.next (if_neg hmode))
  · exact (if_pos (State.mayBegin_of_earlier .w1 hrun hw)).trans (congrArg Host.Outcome.next (if_pos hmode))
  · obtain ⟨-, kept⟩ := (s.begin_ .w2).memCycles_banksWake_keeps cycles
    exact ⟨_, exec_w2Serve_of_live feed cycles (State.mayBegin_of_earlier .w2 hrun hw) hmode, kept⟩
  · exact ⟨_, overran work s hrun hw, s.overrun_overrunLastTick work, (s.overrun_frame work).pending_eq rfl⟩

/-! ### Leap entries (R76 to R78, R84) -/

namespace State

section
variable (s : State)

/-- The table shown writes its count and the octets of its entries alone (R84). -/
theorem showLeapTable_o {k : Nat} (hk : k ≠ Obj.leapTableCount) : s.showLeapTable.o k = s.o k := by
  have shown : Frame 4 (s.setN Obj.leapTableCount s.leap.table.length) s.showLeapTable := .foldl (fun t _ => setBlob_frame t _ _) (.refl _ _)
  rw [o_congr (shown.obj_eq rfl), o_setN, if_neg hk]

theorem applyLeap_o (p : LeapEntry) {k : Nat} (hk : k ≠ Obj.leapTableCount) :
    (s.applyLeap p).o k = ((s.setO Obj.taiUtcOffset p.newOffset).clearLeapPending).o k := showLeapTable_o _ hk

theorem applyLeap_leap (p : LeapEntry) : (s.applyLeap p).leap =
    { s.leap with table := (s.leap.table ++ [p]).drop (s.leap.table.length - 63), justApplied := some p } :=
  (showLeapTable_frame _).leap_eq rfl

/-- An entry applied gives its offset, and none is pending (R77). -/
theorem applyLeap_registers (p : LeapEntry) : (s.applyLeap p).o Obj.taiUtcOffset = p.newOffset ∧ (s.applyLeap p).o Obj.leapPending = 0 ∧
    (s.applyLeap p).o Obj.leapPendingE = 0 ∧ (s.applyLeap p).o Obj.leapSource = 0 := by
  refine ⟨?_, ?_, ?_, ?_⟩ <;> rw [applyLeap_o s p (by decide), clearLeapPending] <;> simp only [o_setO] <;> rfl

end
end State

section
variable {s : State}

theorem exec_leapEntryWrite_of_ok {cls : PortClass} {e newOffset : Int} (hrun : s.running = true) (hcls : cls = .hostH ∨ cls = .mgmtM)
    (hok : s.leapEntryOk e newOffset = true) : exec (.leapEntryWrite cls e newOffset) s = .next (s.addDue true (.leapEntry e newOffset)) :=
  if_pos (by simp [hrun, hcls, hok])

theorem exec_leapEntryCancel {cls : PortClass} (hrun : s.running = true) (hcls : cls = .hostH ∨ cls = .mgmtM) :
    exec (.leapEntryCancel cls) s = .next (s.addDue true .leapCancel) := if_pos (by simp [hrun, hcls])

theorem exec_leapApply_of_due {p : LeapEntry} (hrun : s.running = true) (hp : s.leapPending = some p) (he : p.e ≤ s.second) :
    exec .leapApply s = .next (s.applyLeap p) := by
  change execLeapApply s = _
  unfold execLeapApply
  rw [hp]
  exact if_pos ⟨hrun, he⟩

end

/-- Settles O25: the writes wait as `addDue` says, and the entry applies as the lemmas above say. -/
theorem leapCommandsComplete : Obligations.LeapCommandsComplete := by
  refine ⟨fun cls e newOffset s hrun hcls hok hw => ?_, fun cls e newOffset s hrun hcls hok hw => ?_, fun cls e newOffset s hno => if_neg ?_,
    fun cls s hrun hcls hw => ?_, fun cls s hrun hcls hw => ?_, fun p s hrun hp he => exec_leapApply_of_due hrun hp he,
    fun p s hrun hp he => ?_, fun s hrun hin => if_pos (by simp [hrun, hin]), fun s hrun hout => if_pos (by simp [hrun, hout])⟩
  · rw [exec_leapEntryWrite_of_ok hrun hcls hok, State.addDue_of_ne _ _ hw]
  · rw [exec_leapEntryWrite_of_ok hrun hcls hok, State.addDue_of_w3 _ _ hw]
  · obtain hok | ⟨hh, hm⟩ := hno
    · simp [hok]
    · simp [hh, hm]
  · rw [exec_leapEntryCancel hrun hcls, State.addDue_of_ne _ _ hw]
  · rw [exec_leapEntryCancel hrun hcls, State.addDue_of_w3 _ _ hw]
  · obtain ⟨hoffset, hpending, he', hsource⟩ := s.applyLeap_registers p
    have kept := s.applyLeap_frame p
    refine ⟨_, exec_leapApply_of_due hrun hp he, hoffset, hpending, he', hsource, ?_, ?_, kept.mem_eq rfl, kept.sys_eq rfl⟩
    · rw [State.applyLeap_leap]
    · rw [State.applyLeap_leap]

end Sys2Proof.Machine
end

section
/-!
SUPPORT. A new tick: what a boundary leaves of the tick that begins, and what a realignment adds (R38 to R40).
-/

namespace Sys2Proof.Machine

namespace State

/-- The step of device time that the next boundary takes (R40, R207). -/
def stepDelta (s : State) : Int := match s.sys.step with | some p => p.delta | none => 0

/-- The objects of the anchor record (R70). -/
def anchorKeys : List Nat := [Obj.anchorGen, Obj.anchorValidFrom, Obj.prevAnchorTick, Obj.prevAnchorCns, Obj.anchorTick, Obj.anchorCns]

/-- The tick that `t` has begun after `s`: its count, its device time, its index and the work of no window yet (R38 to R40). -/
structure Begun (s t : State) : Prop where
  tick : t.tick = s.nextTick
  time : t.timeNow = s.sys.nextTime + s.stepDelta
  index : t.o Obj.tickIndex = timeIndex (s.sys.nextTime + s.stepDelta)
  age : t.age = s.age + 1
  window : t.sys.window = .none
  realign : t.sys.realignTick = s.sys.step.isSome

/-- A tick begun stays as begun where its objects and the tick's component stay. -/
theorem Begun.keep {s t u : State} (h : Begun s t) (hobj : ∀ k, k = Obj.tickCount ∨ k = Obj.timeNow ∨ k = Obj.tickIndex → KeepsObj k t u)
    (hsys : u.sys = t.sys) : Begun s u where
  tick := (congrArg Int.toNat (hobj _ (.inl rfl))).trans h.tick
  time := (hobj _ (.inr (.inl rfl))).trans h.time
  index := (hobj _ (.inr (.inr rfl))).trans h.index
  age := (congrArg SysState.warmupTick hsys).trans h.age
  window := (congrArg SysState.window hsys).trans h.window
  realign := (congrArg SysState.realignTick hsys).trans h.realign

section
variable (s : State)

/-- The anchor record writes its own objects alone. -/
theorem anchor_keeps (prev : Option (Nat × Nat)) {k : Nat} (hk : k ∉ anchorKeys) : KeepsObj k s (s.anchor prev) := by
  simp only [anchorKeys, List.mem_cons, List.not_mem_nil, or_false, not_or] at hk
  obtain ⟨hgen, hfrom, hprevTick, hprevCns, htick, hcns⟩ := hk
  unfold anchor
  extract_lets _ _ s1 s2
  have h1 : KeepsObj k s s1 := by
    unfold s1
    split
    · exact ((((KeepsObj.refl k s).setN hgen _).setN hfrom _).setN hprevTick _).setN hprevCns _
    · exact .refl k s
  exact .of (setBlob_frame _ _ _) ((h1.setN htick _).setN hcns _) rfl

/-- A boundary begins the tick, counts a realignment where a step was requested, and takes the anchor (R40, R70). -/
theorem advance_begun (shift : Int) : ∃ (t : State) (prev : Nat × Nat), Begun s t ∧ t.o Obj.tickRealignments = s.o Obj.tickRealignments ∧
    s.advance shift = if s.sys.step.isSome then ((t.inc Obj.tickRealignments).setF Obj.timescaleSet true).anchor (some prev)
      else t.anchor none := by
  unfold advance
  extract_lets old realign delta t count first locked span wasXo prev plane cycles
  have hlength := s.takeLength_frame (!locked) span
  split
  next s1 len hs1 =>
  rw [hs1] at hlength
  extract_lets now _ _ s2 s3 s4 s5
  have h34 {k : Nat} (hsource : k ≠ Obj.tickSource) (hrate : k ≠ Obj.servoRateY) : KeepsObj k s3 s4 :=
    ((KeepsObj.refl k s3).setO hsource _).setO hrate _
  have h35 {k : Nat} (hsource : k ≠ Obj.tickSource) (hrate : k ≠ Obj.servoRateY) (hxo : k ≠ Obj.tickXoCount) : KeepsObj k s3 s5 :=
    .ite (h34 hsource hrate) ((h34 hsource hrate).inc hxo)
  have hsys : s5.sys = s2.sys := by
    have h23 : Frame 2 s2 s3 := .of (setN_frame _ _ _) (.of (setO_frame _ _ _) (.of (setO_frame _ _ _) (.of (setO_frame _ _ _)
      (setN_frame _ _ _) rfl) rfl) rfl) rfl
    have h24 : Frame 2 s2 s4 := .of (setO_frame _ _ _) (.of (setF_frame _ _ _) h23 rfl) rfl
    have h25 : Frame 2 s2 s5 := .ite h24 (.of (inc_frame _ _) h24 rfl)
    exact h25.sys_eq rfl
  have written (k : Nat) : s3.o k = if k = Obj.tickLengthCycles then (cycles : Int) else if k = Obj.timeNow then t else
      if k = Obj.tickCountOffset then (count : Int) - t / tickUnits else if k = Obj.tickIndex then timeIndex t else
      if k = Obj.tickCount then (count : Int) else s.o k := by
    have kept : s2.o k = s.o k := o_congr (hlength.obj_eq rfl) k
    rw [← kept]
    simp only [s3, o_setN, o_setO]
  refine ⟨s5, prev, ⟨?_, ?_, ?_, ?_, congrArg SysState.window hsys, congrArg SysState.realignTick hsys⟩, ?_, rfl⟩
  · exact congrArg Int.toNat ((h35 (by decide) (by decide) (by decide)).trans (written Obj.tickCount))
  · exact (h35 (by decide) (by decide) (by decide)).trans (written Obj.timeNow)
  · exact (h35 (by decide) (by decide) (by decide)).trans (written Obj.tickIndex)
  · exact (congrArg SysState.warmupTick hsys).trans (congrArg (fun x : SysState => x.warmupTick + 1) (hlength.sys_eq rfl))
  · exact (h35 (by decide) (by decide) (by decide)).trans (written Obj.tickRealignments)

/-- A boundary without a step requested begins the tick, and one with a step also makes it a realignment (R39, R40). -/
theorem advance_registers (shift : Int) : Begun s (s.advance shift) ∧
    (s.sys.step.isSome = true → (s.advance shift).flag Obj.timescaleSet = true ∧
      (s.advance shift).o Obj.tickRealignments = s.o Obj.tickRealignments + 1) := by
  obtain ⟨t, prev, begun, counted, hadvance⟩ := s.advance_begun shift
  rw [hadvance]
  split
  next =>
    have hsys : (((t.inc Obj.tickRealignments).setF Obj.timescaleSet true).anchor (some prev)).sys = t.sys :=
      ((anchor_frame _ _).sys_eq rfl).trans (((setF_frame _ _ _).sys_eq rfl).trans ((inc_frame t _).sys_eq rfl))
    refine ⟨begun.keep (fun k hk => ?_) hsys, fun _ => ⟨?_, ?_⟩⟩
    · have set : KeepsObj k t ((t.inc Obj.tickRealignments).setF Obj.timescaleSet true) :=
        ((KeepsObj.refl k t).inc (by rintro rfl; revert hk; decide)).setO (by rintro rfl; revert hk; decide) _
      exact (anchor_keeps _ _ (by rcases hk with rfl | rfl | rfl <;> decide)).trans set
    · exact congrArg (fun v : Int => v != 0) ((anchor_keeps _ _ (by decide)).trans (o_setO_self _ _ _))
    · refine ((anchor_keeps _ _ (by decide)).trans ?_).trans (congrArg (· + 1) counted)
      rw [o_setF, if_neg (by decide), o_inc, if_pos rfl]
  next hno => exact ⟨begun.keep (fun k hk => anchor_keeps _ _ (by rcases hk with rfl | rfl | rfl <;> decide)) ((anchor_frame _ _).sys_eq rfl),
    fun h => absurd h hno⟩

end
end State

/-- Settles O56: a tick begun has its count, time and index, and a realignment counts one (`advance_registers`). -/
theorem ticksAdvance : Obligations.TicksAdvance := by
  refine ⟨fun shift s hstep => ?_, fun shift p s hstep => ?_⟩
  · obtain ⟨⟨htick, htime, hindex, hage, hwindow, hrealign⟩, -⟩ := s.advance_registers shift
    have hdelta : s.stepDelta = 0 := by rw [State.stepDelta, hstep]
    rw [hdelta, add_zero] at htime hindex
    rw [hstep] at hrealign
    exact ⟨htick, htime, hindex, hage, hwindow, hrealign⟩
  · obtain ⟨⟨htick, htime, hindex, hage, -, hrealign⟩, hset⟩ := s.advance_registers shift
    have hdelta : s.stepDelta = p.delta := by rw [State.stepDelta, hstep]
    rw [hdelta] at htime hindex
    rw [hstep] at hrealign hset
    obtain ⟨hflag, hcounted⟩ := hset rfl
    refine ⟨fun hlater => htick.trans ?_, fun hfirst => htick.trans ?_, htime, hindex, hage, hrealign, hflag, hcounted⟩
    · simp [State.nextTick, hlater]
    · simp [State.nextTick, hfirst, hstep]

end Sys2Proof.Machine
end

section
/-!
SUPPORT. Groves and their engines: a grove that starts, self-tests that end, a takeover that completes, and the commands of groves (R55 to R57,
R360 to R368, R393).
-/

namespace Sys2Proof.Machine

/-! ### Folds over the units -/

/-- What one element of a list brings about in a fold and no later element undoes holds at its end. -/
theorem foldl_establishes {α : Type} {P : State → Prop} {f : State → α → State} {l : List α} {s : State} {x : α} (hx : x ∈ l)
    (hit : ∀ t, P (f t x)) (keep : ∀ t y, P t → P (f t y)) : P (l.foldl f s) := by
  obtain ⟨front, rest, rfl⟩ := List.append_of_mem hx
  rw [List.foldl_append, List.foldl_cons]
  exact List.foldlRecOn rest f (hit _) fun t h y _ => keep t y h

/-- An object that is written with the value it has keeps it. -/
theorem State.o_setO_of_eq {s : State} {j : Nat} {v : Int} (h : s.o j = v) (k : Nat) : (s.setO k v).o j = v := by
  rw [o_setO]
  split
  · rfl
  · exact h

namespace State

section
variable (s : State) (g : Nat)

/-! ### A grove that starts (R55, R360, R393) -/

/-- A start writes the engines of its grove, their count, its state and the retention of its bank. -/
theorem groveStarting_keeps {k : Nat} (hengine : ∀ e, k ≠ Obj.engineState g e ∧ k ≠ Obj.engineLane g e)
    (hcount : k ≠ Obj.groveActiveEngines g) (hgrove : k ≠ Obj.groveState g) (hbank : k ≠ Obj.memRetention g) :
    KeepsObj k s (s.groveStarting g) := by
  unfold groveStarting
  extract_lets s1 s2 s3
  have h1 : KeepsObj k s s1 := .foldl (fun _ e h => (h.setO (hengine e).1 1).setO (hengine e).2 255) (.refl k s)
  have h2 : KeepsObj k s s2 := (h1.setO hgrove 1).setN hcount _
  exact KeepsObj.ite (h2.setO hbank 1) h2

theorem groveStarting_groveState : (s.groveStarting g).o (Obj.groveState g) = 1 := by
  have counted (t : State) : (((t.setO (Obj.groveState g) 1).countEngines g).o (Obj.groveState g)) = 1 := by
    rw [countEngines, o_setN, if_neg (by simp only [Obj.groveState, Obj.groveActiveEngines]; omega), o_setO_self]
  have slept (t : State) : ((t.setO (Obj.groveState g) 1).countEngines g |>.setO (Obj.memRetention g) 1).o (Obj.groveState g) = 1 := by
    rw [o_setO_ne _ _ (by simp only [Obj.groveState, Obj.memRetention, ne_eq]; omega), counted]
  unfold groveStarting
  extract_lets s1 s2 s3
  change s3.o _ = 1
  unfold s3
  split
  · exact slept s1
  · exact counted s1

theorem groveStarting_lastStart : (s.groveStarting g).fault.lastStart = some s.age := by
  have kept : (s.groveStarting g).age = s.age := congrArg SysState.warmupTick ((s.groveStarting_frame g).sys_eq rfl)
  exact congrArg some kept

/-! ### Self-tests that end (R360) -/

/-- The engines of a list of those that passed. -/
def enginesPassed (passed : List (Fin 17)) : List Nat := (List.range 17).filter fun e => passed.any fun p => p.val == e

theorem mem_enginesPassed (passed : List (Fin 17)) (e : Nat) : e ∈ enginesPassed passed ↔ e < 17 ∧ ∃ p ∈ passed, p.val = e := by
  simp [enginesPassed]

theorem enginesPassed_ne_nil {passed : List (Fin 17)} (h : passed ≠ []) : enginesPassed passed ≠ [] := by
  obtain ⟨p, hp⟩ := List.exists_mem_of_ne_nil passed h
  exact List.ne_nil_of_mem ((mem_enginesPassed passed p).mpr ⟨p.isLt, p, hp, rfl⟩)

/-- The engines of a grove whose self-test failed, out of service. -/
def failEngines (pass : List Nat) : State :=
  (List.range 17).foldl (fun s e => if pass.contains e then s else s.setO (Obj.engineState g e) 5) s

theorem failEngines_frame (pass : List Nat) : Frame 2 s (s.failEngines g pass) :=
  .foldl (fun t _ => .ite (.refl _ t) (setO_frame _ _ _)) (.refl _ s)

theorem failEngines_engineState {pass : List Nat} {e : Nat} (he : e < 17) (hfail : e ∉ pass) :
    (s.failEngines g pass).o (Obj.engineState g e) = 5 := by
  refine foldl_establishes (P := fun t => t.o (Obj.engineState g e) = 5) (List.mem_range.mpr he) (fun t => ?_) (fun t y h => ?_)
  · rw [if_neg (by simpa using hfail), o_setO_self]
  · split
    · exact h
    · exact o_setO_of_eq h _

theorem failEngines_keeps (pass : List Nat) {k : Nat} (hk : ∀ e, k ≠ Obj.engineState g e) : KeepsObj k s (s.failEngines g pass) :=
  .foldl (fun _ e h => .ite h (h.setO (hk e) 5)) (.refl k s)

/-- The engines of a grove that wait for it to be READY. -/
def awaitReady (pass : List Nat) : State :=
  { s with shuttle := { s.shuttle with ready := (s.shuttle.ready.filter fun x => x.1 != g) ++ [(g, pass)] } }

/-- With an engine and an AES lane passed, the lanes are as tested and the engines that passed wait for the grove to be READY. -/
theorem selftested_of_passed {passed : List (Fin 17)} {aes : Nat} (hp : passed ≠ []) (ha : aes ≠ 0) : s.selftested g passed aes =
    ((s.failEngines g (enginesPassed passed)).setN (Obj.aesLaneState g) aes).awaitReady g (enginesPassed passed) := by
  have some_passed : ¬((enginesPassed passed).isEmpty || aes == 0) = true := by simp [enginesPassed_ne_nil hp, ha]
  exact if_neg some_passed

/-! ### A takeover that completes (R367) -/

/-- The spare that has loaded is ACTIVE and no takeover of its grove goes on, whichever way the lane's items went. -/
theorem takeoverDone_of_some {x : Takeover} (hx : Sparse.get (fun _ => none) s.shuttle.takeovers g = some x) :
    (s.takeoverDone g).o (Obj.engineState g x.spare) = 2 ∧ Sparse.get (fun _ => none) (s.takeoverDone g).shuttle.takeovers g = none := by
  have ended (t : State) : ((t.setO (Obj.engineState g x.spare) 2).countEngines g).o (Obj.engineState g x.spare) = 2 := by
    rw [countEngines, o_setN, if_neg (by simp only [Obj.engineState, Obj.groveActiveEngines]; omega), o_setO_self]
  unfold takeoverDone
  split
  next hno => exact absurd (hx.symm.trans hno) (by simp)
  next y hy =>
    obtain rfl : x = y := Option.some.inj (hx.symm.trans hy)
    extract_lets _ s1 s2 s3 _ dropped
    have h2 : Sparse.get (fun _ => none) s2.shuttle.takeovers g = none :=
      (congrArg (fun t : ShuttleState => Sparse.get (fun _ => none) t.takeovers g)
        (((countEngines_frame _ _).shuttle_eq rfl).trans ((setO_frame s1 _ _).shuttle_eq rfl))).trans
          (Sparse.get_put_self (fun _ => none) s.shuttle.takeovers g none)
    have h3 (k d : Nat) : Sparse.get (fun _ => none) (s2.addN k d).shuttle.takeovers g = none :=
      (congrArg (fun t : ShuttleState => Sparse.get (fun _ => none) t.takeovers g) ((addN_frame _ _ _).shuttle_eq rfl)).trans h2
    split
    · refine ⟨?_, h3 (Obj.reedSkips g) (s2.reedSkips g x.lane)⟩
      change s3.o _ = 2
      rw [o_addN, if_neg (by simp only [Obj.engineState, Obj.reedSkips]; omega)]
      exact ended s1
    · refine ⟨?_, h3 (Obj.failoverDrops g) dropped⟩
      change (s2.addN (Obj.failoverDrops g) dropped).o _ = 2
      rw [o_addN, if_neg (by simp only [Obj.engineState, Obj.failoverDrops]; omega)]
      exact ended s1

end

/-! ### A job of an AES lane (R368) -/

theorem aesServe_of_pick {s : State} {g e cycle cost l start : Nat} (h : s.aesPick g cycle = some (l, start)) :
    s.aesServe g e cycle cost = { s with shuttle := { s.shuttle with
      aesFree := Sparse.put (fun _ => 0) s.shuttle.aesFree (2 * g + l) (start + cost)
      aesServed := Sparse.put (fun _ => none) s.shuttle.aesServed (2 * g + l) (some e) } } := by
  unfold aesServe
  rw [h]

/-! ### WARMUP (R27, R56) -/

/-- Transition 5 waits for the PLLs, the groves and WARMUP_MIN_S (R27). -/
theorem warmupDone_iff {s : State} : s.warmupDone = true ↔ s.mode = mWarmup ∧ (∀ k, k < 6 → s.pll k = 2) ∧
    (∀ g, g < 16 → 2 ≤ s.o (Obj.groveState g)) ∧ ∃ n, s.sys.sinceLock = some n ∧ s.n Obj.warmupMinS * 8192 < n := by
  unfold warmupDone
  cases hs : s.sys.sinceLock <;> simp [List.all_eq_true, and_assoc]

end State

section
variable {s : State} {g : Fin 16}

theorem exec_groveStart_of_slot (hmode : s.mode = mWarmup) (hage : s.age = 64 * g.val) (hoff : s.o (Obj.groveState g) = 0) :
    exec (.groveStart g) s = .next (s.groveStarting g) := if_pos ⟨hmode, hage, hoff⟩

theorem exec_groveRampSlot_of_due (hslot : Sparse.get (fun _ => none) s.sys.rampWait g.val = some 0) (hallowed : s.flag Obj.serviceAllowed = true)
    (hready : s.o (Obj.groveState g) = 2) : exec (.groveRampSlot g) s = .next (State.setO { s with
      sys := { s.sys with rampWait := Sparse.put (fun _ => none) s.sys.rampWait g.val none } } (Obj.groveState g) 3) :=
  (if_pos hslot).trans (if_pos (Bool.and_eq_true_iff.mpr ⟨hallowed, beq_iff_eq.mpr hready⟩))

/-- A grove OUT starts again once its retry time is over, where it has retries left, no grove before it is OUT, and no other started within 64 ticks
(R393). -/
theorem exec_groveRetryExpire_of_due {a : Nat} (hmode : 2 ≤ s.mode ∧ s.mode ≤ 5)
    (hfree : ∀ b, s.fault.lastStart = some b → b + 64 ≤ s.age) (hout : s.o (Obj.groveState g) = 4) (hfirm : g.val ∉ s.fault.firmwareOut)
    (hleft : s.n (Obj.groveRetries g) < s.n Obj.groveRetryMax)
    (hsince : Sparse.get (fun _ => none) s.fault.outSince g.val = some a) (hage : a + 8192 * s.n Obj.groveRetryS ≤ s.age)
    (hfirst : ∀ k, k < g.val → s.o (Obj.groveState k) ≠ 4) :
    exec (.groveRetryExpire g) s = .next ((s.inc (Obj.groveRetries g)).groveStarting g) := by
  change execGroveRetryExpire g s = _
  unfold execGroveRetryExpire
  extract_lets due free
  have hdue : due g.val = true := by simp [due, hout, hfirm, hleft, hsince, hage]
  have hfree' : free = true := by
    unfold free
    split
    next b hb => exact decide_eq_true (hfree b hb)
    next => rfl
  have hnone : (List.range g.val).any due = false := by
    rw [List.any_eq_false]
    intro k hk
    simp [due, hfirst k (List.mem_range.mp hk)]
  exact if_pos (by simp [hmode, hfree', hdue, hnone])

theorem State.engineFail_of_in {e : Nat} (h : s.eng g e = 2 ∨ s.eng g e = 3 ∨ s.eng g e = 4) :
    s.engineFail g e = (s.faulted 0x0901 (17 * g + e) 0).engineOut g e := if_pos (by simpa [or_assoc] using h)

/-- A job of an engine that finds a lane, with no error in the lane's key register or its check. -/
theorem exec_aesJob_of_pick {e : Fin 17} {cycle l start : Nat} (nts : Bool) (hw : s.sys.window = .w2) (he : s.eng g e = 2)
    (hpick : s.aesPick g cycle = some (l, start)) (hkey : s.injAims 0x09 (2 * g + l) none = none) (hcheck : s.injAims 0x0A (2 * g + l) none = none) :
    exec (.aesJob g e cycle nts false false) s = .next (s.aesServe g e cycle (s.n (if nts then Obj.costNtsAes else Obj.costPtpEventAes))) := by
  change execAesJob g e cycle nts false false s = _
  unfold execAesJob
  extract_lets cost
  rw [if_neg (by simp [hw, he]), hpick]
  simp [hkey, hcheck, cost]

end

/-- Settles O57: the slot is the condition of the command, and the transition's conditions are those of R27. -/
theorem grovesStartInTheirSlots : Obligations.GrovesStartInTheirSlots :=
  ⟨fun g s hmode hoff hage => ⟨_, exec_groveStart_of_slot hmode hage hoff, s.groveStarting_groveState g⟩,
    fun _ _ _ hage => if_neg fun h => hage h.2.1, fun _ => State.warmupDone_iff⟩

/-- Settles O44: each command in its place answers its operation, and the lemmas above say what that leaves. -/
theorem groveCommandsComplete : Obligations.GroveCommandsComplete := by
  refine ⟨fun g s hmode hage hoff => ?_, fun g passed aes s h => if_pos h, fun g passed aes s h hp ha => ?_,
    fun g s hslot hallowed hready => exec_groveRampSlot_of_due hslot hallowed hready,
    fun g a s hlow hhigh hfree hout hfirm hleft hsince hage hfirst => ?_, fun g e s h => congrArg Host.Outcome.next (State.engineFail_of_in h),
    fun g e s h hitems => ?_, fun _ _ => rfl, fun g x s hx => ?_, fun g e cycle nts l start s hw he hpick hkey hcheck => ?_⟩
  · have kept := s.groveStarting_frame g
    exact ⟨exec_groveStart_of_slot hmode hage hoff, s.groveStarting_groveState g, s.groveStarting_lastStart g, kept.sys_eq rfl, kept.mem_eq rfl⟩
  · have kept := s.failEngines_frame g (State.enginesPassed passed)
    refine ⟨_, (if_pos h).trans (congrArg Host.Outcome.next (s.selftested_of_passed g hp ha)), ?_, ?_, fun e he hfail => ?_,
      ⟨State.enginesPassed passed, ?_, State.mem_enginesPassed passed⟩, kept.sys_eq rfl, kept.mem_eq rfl⟩
    · exact State.o_setO_self _ _ _
    · refine (State.o_setO_ne _ _ ?_).trans ((s.failEngines_keeps g _ fun e => ?_).trans h)
      · simp only [Obj.groveState, Obj.aesLaneState, ne_eq]; omega
      · simp only [Obj.groveState, Obj.engineState, ne_eq]; omega
    · refine (State.o_setO_ne _ _ ?_).trans (s.failEngines_engineState g he fun hin => ?_)
      · simp only [Obj.engineState, Obj.aesLaneState, ne_eq]; omega
      · obtain ⟨-, p, hp, hpe⟩ := (State.mem_enginesPassed passed e).mp hin
        exact hfail p hp hpe
    · exact List.mem_append_right _ (List.mem_singleton.mpr rfl)
  · have kept := (s.inc (Obj.groveRetries g)).groveStarting_frame g
    refine ⟨exec_groveRetryExpire_of_due ⟨hlow, hhigh⟩ hfree hout hfirm hleft hsince hage hfirst, State.groveStarting_groveState _ g, ?_,
      State.groveStarting_lastStart _ g, kept.sys_eq rfl, kept.mem_eq rfl⟩
    refine (State.groveStarting_keeps _ g (fun e => ?_) ?_ ?_ ?_).trans ((State.o_inc _ _ _).trans (if_pos rfl))
    all_goals simp only [Obj.groveRetries, Obj.engineState, Obj.engineLane, Obj.groveActiveEngines, Obj.groveState, Obj.memRetention, ne_eq]; omega
  · exact (if_pos ⟨h, by simpa using hitems⟩).trans (congrArg Host.Outcome.next (State.engineFail_of_in (.inl h)))
  · have kept := s.takeoverDone_frame g
    obtain ⟨hspare, hended⟩ := s.takeoverDone_of_some g hx
    exact ⟨_, rfl, hspare, hended, kept.sys_eq rfl, kept.mem_eq rfl⟩
  · rw [exec_aesJob_of_pick nts hw he hpick hkey hcheck, State.aesServe_of_pick hpick]

end Sys2Proof.Machine
end

section
/-!
SUPPORT. Ownership of the pair: what the instant of a switch leaves, OWN_IN falling and contention (R425 to R429, R436, R437).
-/

namespace Sys2Proof.Machine

theorem KeepsObj.foldl_range {k n : Nat} {r s : State} {f : State → Nat → State} (g : ∀ t x, x < n → KeepsObj k r t → KeepsObj k r (f t x))
    (h : KeepsObj k r s) : KeepsObj k r ((List.range n).foldl f s) :=
  List.foldlRecOn _ _ h fun t ht x hx => g t x (List.mem_range.mp hx) ht

namespace State

section
variable (s : State)

/-- A switch of OWN that ends: no switch is pending, OWN is as decided, and the pulses cut are counted (R427). -/
def ownDecided (take : Bool) (cut : Nat) : State :=
  (State.setF { s with twin := { s.twin with switching := none } } Obj.twinOwn take).addN Obj.twinRunts cut

theorem ownDecided_joined (take : Bool) (cut : Nat) : (s.ownDecided take cut).joined = s.joined := by
  have kept : (s.ownDecided take cut).o Obj.twinState = s.o Obj.twinState := by
    rw [ownDecided, o_addN, if_neg (by decide), o_setF, if_neg (by decide)]
    rfl
  rw [joined, joined, kept]

theorem ownDecided_flag (take : Bool) (cut : Nat) : (s.ownDecided take cut).flag Obj.twinOwn = take := by
  rw [flag, ownDecided, o_addN, if_neg (by decide), o_setF, if_pos rfl]
  cases take <;> rfl

theorem ownDecided_switching (take : Bool) (cut : Nat) : (s.ownDecided take cut).twin.switching = none :=
  congrArg TwinState.switching (((addN_frame _ _ _).twin_eq rfl).trans ((setF_frame _ _ _).twin_eq rfl))

/-- The outputs that the unit gives up drive no more (R427). -/
def releaseOutputs : State :=
  (List.range 64).foldl (fun s p => if (s.out p).driving then s.setOut p { s.out p with driving := false } else s) s

/-- The unit that has given OWN up: its outputs drive no more and its EFC outputs are off (R425, R427). -/
def ownReleased : State := (List.range 4).foldl (fun s k => s.setO (Obj.efcState k) 0) s.releaseOutputs

/-- The unit that has taken OWN: its EFC outputs steer and the outputs allowed drive from the tick's start (R425). -/
def ownTaken : State :=
  (List.range 64).foldl (fun s p => if s.outAllowed p then s.setOut p { s.out p with driving := true, startAt := s.timeNow } else s)
    ((List.range 4).foldl takeEfc s)

/-- What the instant of a switch does: a take of a joined unit takes the outputs, one of another changes OWN alone, a release gives them up. -/
theorem switchOwn_of_some {take : Bool} (h : s.twin.switching = some take) (cut : Nat) : s.switchOwn cut =
    if take && s.joined then (s.ownDecided take cut).ownTaken else if take then s.ownDecided take cut else (s.ownDecided take cut).ownReleased := by
  rw [← ownDecided_joined s take cut]
  unfold switchOwn
  rw [h]
  rfl

theorem switchOwn_of_none (h : s.twin.switching = none) (cut : Nat) : s.switchOwn cut = s := by
  unfold switchOwn
  rw [h]

theorem releaseOutputs_frame : Frame 512 s s.releaseOutputs := .foldl (fun t _ => .ite (setOut_frame _ _ _) (.refl _ t)) (.refl _ s)

theorem ownReleased_frame : Frame 514 s s.ownReleased :=
  .foldl (fun _ _ => .mono (setO_frame _ _ _) rfl) (.mono s.releaseOutputs_frame rfl)

theorem ownTaken_frame : Frame 514 s s.ownTaken :=
  .foldl (fun t _ => .ite (.mono (setOut_frame _ _ _) rfl) (.refl _ t)) (.foldl (fun t k => .mono (takeEfc_frame t k) rfl) (.refl _ s))

theorem out_setOut (p q : Nat) (v : OutPort) : (s.setOut q v).out p = if p = q then v else s.out p := by
  split
  next h => exact h ▸ out_setOut_self s p v
  next h => exact Sparse.get_put_ne _ _ _ h

theorem releaseOutputs_driving {p : Nat} (hp : p < 64) : (s.releaseOutputs.out p).driving = false := by
  refine foldl_establishes (P := fun t => (t.out p).driving = false) (List.mem_range.mpr hp) (fun t => ?_) (fun t q h => ?_)
  · split
    · rw [out_setOut_self]
    next hoff => exact Bool.eq_false_iff.mpr hoff
  · split
    · rw [out_setOut]
      split
      · rfl
      · exact h
    · exact h

theorem ownReleased_driving {p : Nat} (hp : p < 64) : (s.ownReleased.out p).driving = false := by
  have kept : Frame 2 s.releaseOutputs s.ownReleased := .foldl (fun _ _ => setO_frame _ _ _) (.refl _ _)
  have same : s.ownReleased.out p = s.releaseOutputs.out p :=
    congrArg (fun y : SynthState => Sparse.get (fun _ => ({} : OutPort)) y.outs p) (kept.synth_eq rfl)
  rw [same, s.releaseOutputs_driving hp]

theorem ownReleased_efcState {k : Nat} (hk : k < 4) : s.ownReleased.o (Obj.efcState k) = 0 :=
  foldl_establishes (P := fun t => t.o (Obj.efcState k) = 0) (List.mem_range.mpr hk) (fun _ => o_setO_self _ _ _) (fun _ _ h => o_setO_of_eq h _)

theorem ownReleased_twinOwn : KeepsObj Obj.twinOwn s s.ownReleased :=
  .foldl_range (fun _ k hk h => h.setO (by simp only [Obj.twinOwn, Obj.efcState, ne_eq]; omega) 0) (.of s.releaseOutputs_frame (.refl _ s) rfl)

theorem takeEfc_twinOwn {k : Nat} (hk : k < 4) : KeepsObj Obj.twinOwn s (s.takeEfc k) := by
  unfold takeEfc
  split
  · exact .refl _ s
  next m _ =>
    refine KeepsObj.ite (((KeepsObj.refl _ s).setO ?_ _).setO ?_ _) (.refl _ s)
    all_goals simp only [Obj.twinOwn, Obj.efcState, Obj.efcCode, ne_eq]; omega

theorem ownTaken_twinOwn : KeepsObj Obj.twinOwn s s.ownTaken :=
  .foldl (fun _ _ h => .ite (.of (setOut_frame _ _ _) h rfl) h) (.foldl_range (fun _ _ hk h => (State.takeEfc_twinOwn _ hk).trans h) (.refl _ s))

/-! ### Contention (R428) -/

/-- Where the units differ in preference, or the peer is not heard, contention makes the unit that is not preferred release. -/
theorem contention_releaseDue (hpeer : s.twin.peer = none ∨ ∃ a, s.twin.peer = some a ∧ a.preferred ≠ s.flag Obj.twinPreferred)
    (hmine : s.flag Obj.twinPreferred = false) : s.contention.twin.releaseDue = true := by
  unfold contention
  extract_lets mine out
  have hout : out = true := by
    unfold out
    obtain hnone | ⟨a, ha, hne⟩ := hpeer
    · rw [hnone]
      exact congrArg (!·) hmine
    · rw [ha]
      exact (if_neg hne).trans (congrArg (!·) hmine)
  change (s.twin.releaseDue || out) = true
  rw [hout, Bool.or_true]

end
end State

section
variable {s : State}

theorem exec_coldTake_of_due {a : Nat} (hstate : s.o Obj.twinState = 1) (hserv : s.inService = true) (hown : s.flag Obj.twinOwn = false)
    (hsw : s.twin.switching = none) (hlow : s.twin.lowSince = some a)
    (hage : (s.n Obj.twinAloneTakeMs + (if s.flag Obj.twinPreferred then 0 else 1000)) * 8192 ≤ (s.age - a) * 1000) :
    exec .coldTake s = .next (State.inc { s with twin := { s.twin with switching := some true, master := true } } Obj.twinColdTakes) := by
  change execColdTake s = _
  unfold execColdTake
  rw [hlow]
  exact if_pos ⟨hstate, hserv, hown, hsw, hage⟩

end

/-- Settles O48: a switch ends as `switchOwn_of_some` says, and what each way of ending leaves is said by the lemmas above. -/
theorem twinOwnCommandsComplete : Obligations.TwinOwnCommandsComplete := by
  refine ⟨fun cut s hno => congrArg Host.Outcome.next (s.switchOwn_of_none hno cut), fun _ _ => rfl, fun cut s hsw halone => ?_,
    fun cut s hsw => ?_, fun cut s hsw hjoined => ?_, fun s => ?_, fun s henable hown hin => ?_,
    fun a s hstate hserv hown hsw hlow hage => exec_coldTake_of_due hstate hserv hown hsw hlow hage,
    fun cls s hrun hcls hok => if_pos ?_, fun cls s hrun hcls hok => if_pos ?_, fun cls s hrun hcls => if_pos ?_, fun _ _ => rfl⟩
  · refine congrArg Host.Outcome.next ((s.switchOwn_of_some hsw cut).trans ?_)
    rw [halone]
    rfl
  · have ended : s.switchOwn cut = (s.ownDecided false cut).ownReleased := s.switchOwn_of_some hsw cut
    have kept := (s.ownDecided false cut).ownReleased_frame
    have whole := s.switchOwn_frame cut
    refine ⟨_, rfl, ?_, fun p hp => ?_, fun k hk => ?_, ?_, whole.mem_eq rfl, whole.sys_eq rfl⟩
    all_goals rw [ended]
    · exact (congrArg (fun v : Int => v != 0) (State.ownReleased_twinOwn _)).trans (s.ownDecided_flag false cut)
    · exact State.ownReleased_driving _ hp
    · exact State.ownReleased_efcState _ hk
    · exact (congrArg TwinState.switching (kept.twin_eq rfl)).trans (s.ownDecided_switching false cut)
  · have ended : s.switchOwn cut = (s.ownDecided true cut).ownTaken := by
      rw [s.switchOwn_of_some hsw cut, hjoined]
      rfl
    have kept := (s.ownDecided true cut).ownTaken_frame
    have whole := s.switchOwn_frame cut
    refine ⟨_, rfl, ?_, ?_, whole.mem_eq rfl, whole.sys_eq rfl⟩
    all_goals rw [ended]
    · exact (congrArg (fun v : Int => v != 0) (State.ownTaken_twinOwn _)).trans (s.ownDecided_flag true cut)
    · exact (congrArg TwinState.switching (kept.twin_eq rfl)).trans (s.ownDecided_switching true cut)
  · have kept := s.ownInLow_frame
    refine ⟨rfl, ?_, rfl, fun hstandby hpeer => ?_, fun k hk => State.o_setO_ne s 0 hk, kept.mem_eq rfl, kept.sys_eq rfl⟩
    · exact congrArg (fun v : Int => v != 0) (State.o_setO_self s Obj.twinOwnIn 0)
    · have hstate : (s.setF Obj.twinOwnIn false).o Obj.twinState = 6 := (State.o_setO_ne _ _ (by decide)).trans hstandby
      change (s.twin.takeDue || ((s.setF Obj.twinOwnIn false).o Obj.twinState == 6 && s.twin.peerRelease.isNone)) = true
      simp [hstate, hpeer]
  · have kept := s.contention_frame
    refine ⟨if_pos (by simp [henable, hown, hin]), ?_, s.contention_releaseDue, fun k hk => State.o_setO_ne _ _ hk, kept.mem_eq rfl,
      kept.sys_eq rfl⟩
    exact (State.o_inc _ _ _).trans (if_pos rfl)
  · simp [hrun, hcls, hok]
  · simp [hrun, hcls, hok]
  · simp [hrun, hcls]

end Sys2Proof.Machine
end

section
/-!
SUPPORT. References, steps of the timescale and ToD: the activity window of a class F reference, and the commands in their places (R170 to R174, R207,
R219, R241, R242).
-/

namespace Sys2Proof.Machine

section
variable {s : State}

/-! ### References (R170 to R173) -/

theorem exec_refAbsentTimeout_of_absent {id : Fin 256} {a : Nat} (hrun : s.running = true) (hcls : classT id = true) (hst : 2 ≤ s.refSt id)
    (habsent : (s.ref id).absentFrom = some a) (hage : a + s.n (Obj.refAbsentS id) * 8192 < s.age) :
    exec (.refAbsentTimeout id) s = .next (s.setRef id { s.ref id with failNext := true }) := by
  refine if_pos ?_
  rw [habsent]
  simp [hrun, hcls, hst, hage]

theorem exec_classFActivityWindow_of_due {id : Fin 256} (hrun : s.running = true) (hcls : classF id = true) (hst : 1 ≤ s.refSt id)
    (hage : (s.ref id).winStart + s.activityTicks id ≤ s.age) : exec (.classFActivityWindow id) s = .next (s.activityEnd id) :=
  if_pos (by simp [hrun, hcls, hst, hage])

/-- Without one edge in the window, where more than one was due, the reference is LISTED again and the PLLs react (R172). -/
theorem State.activityEnd_of_silent {id : Nat} (hst : 2 ≤ s.refSt id) (hsilent : s.portEdges (monitorPort id) = (s.ref id).winCount)
    (hdue : 1 < 2 ^ 20 * 1000000000 * s.activityTicks id / (s.portPeriod (monitorPort id) * 8192)) : s.activityEnd id =
      ((s.setRef id { s.ref id with winStart := s.age, winCount := s.portEdges (monitorPort id) }).refEnter id 1).aplltReact := by
  unfold activityEnd
  extract_lets p w r count num den active _ s1
  have hcount : count = 0 := by
    unfold count
    rw [show s.portEdges p = r.winCount from hsilent]
    omega
  have hlow : ¬num / den - 1 ≤ count := by
    rw [hcount]
    have hdue' : 1 < num / den := hdue
    omega
  have hinactive : (!active) = true := by simp [active, hlow]
  rw [if_pos hinactive, if_neg (by omega)]

/-! ### Steps of the timescale, HOLDOVER (R60, R207, R219) -/

theorem exec_timescaleStep {cls : PortClass} (ns : Int) (hrun : s.running = true) (hmode : s.mode ≠ mReplay)
    (hcls : cls = .hostH ∨ cls = .mgmtM) : exec (.timescaleStep cls ns) s = .next (s.addDue false (.step ns)) :=
  if_pos (by simp [hrun, hmode, hcls])

theorem exec_timescaleStepToRef {cls : PortClass} (hrun : s.running = true) (hmode : s.mode ≠ mReplay) (hcls : cls = .hostH ∨ cls = .mgmtM)
    (hsel : s.o Obj.selTCurrent ≠ 0) : exec (.timescaleStepToRef cls) s = .next (s.addDue false .stepToRef) :=
  if_pos (by simp [hrun, hmode, hcls, hsel])

theorem exec_holdMaxExpire_of_due {h : Hold} (hhold : s.canopy.hold = some h) (hmode : s.mode = mHoldover) (hmax : s.o Obj.ensHoldMaxS ≠ 0)
    (hage : s.n Obj.ensHoldMaxS * 8192 ≤ s.age - h.entry) :
    exec .holdMaxExpire s = .next { s with sys := { s.sys with forceUnbounded := true } } := by
  change execHoldMaxExpire s = _
  unfold execHoldMaxExpire
  rw [hhold]
  exact if_pos ⟨hmode, hmax, hage⟩

/-! ### ToD (R241, R242) -/

theorem exec_todMessageSend_of_edge {port : Fin 64} {n : Nat} {x : Int} (hserv : s.inService = true) (hmode : s.o (Obj.outMode port) = 3)
    (hrole : s.o (Obj.tpRole port) = 2) (hpair : s.n (Obj.outTodPair port) < 64) (hlock : s.interlockOpen = true)
    (hlast : (s.out (s.n (Obj.outTodPair port))).last = some (n, x)) (hnew : (s.out port).todFor ≠ some n) :
    exec (.todMessageSend port) s =
      .next (s.setOut port { s.out port with todFor := some n, tod := s.todMessage (s.n (Obj.outTodPair port)) }) := by
  change execTodMessageSend port s = _
  unfold execTodMessageSend
  extract_lets pair v
  rw [if_pos (by simp [hserv, hmode, hrole, hlock, show pair < 64 from hpair]), hlast]
  exact if_neg hnew

/-- A message on a port that no PPS reference is bound to brings nothing but the news of the ports (R242). -/
theorem State.todArrive_of_unbound {port : Nat} (message : Octets) (endNs : Nat)
    (hfree : ∀ id, 0x10 ≤ id → id < 0x20 → ∀ a b, s.ppsNews.ppsBinding id = some (a, b) → b ≠ port) :
    s.todArrive port message endNs = s.ppsNews := by
  unfold todArrive
  refine List.foldlRecOn (motive := fun t => t = s.ppsNews) _ _ rfl ?_
  intro t ht id hid
  rw [ht]
  obtain ⟨n, hn, rfl⟩ := List.mem_map.mp hid
  have hlt := List.mem_range.mp hn
  split
  next a b hbind => exact if_neg fun hhit => hfree (n + 0x10) (by omega) (by omega) a b hbind hhit.1
  next => rfl

end

/-- Settles O30, each clause from the answer of its command. -/
theorem referenceCommandsComplete : Obligations.ReferenceCommandsComplete := by
  refine ⟨fun id a s hrun hcls hst habsent hage => exec_refAbsentTimeout_of_absent hrun hcls hst habsent hage,
    fun id s hrun hcls hst hage => ?_, fun id s hrun hcls hst hage hsilent _ hdue => ?_, fun s hrun hindex => if_pos (by simp [hrun, hindex]),
    fun cls ns s hrun hmode hcls hw => ?_, fun cls ns s hrun hmode hcls hw => ?_, fun cls s hrun hmode hcls hsel hw => ?_,
    fun cls s hrun hmode hcls hsel hw => ?_, fun h s hhold hmode hmax hage => exec_holdMaxExpire_of_due hhold hmode hmax hage,
    fun port n x s hserv hmode hrole hpair hlock hlast hnew => exec_todMessageSend_of_edge hserv hmode hrole hpair hlock hlast hnew,
    fun port message endNs s hrun hfree => ?_, fun port message endNs s hrun => ?_⟩
  · have kept := s.activityEnd_frame id
    exact ⟨exec_classFActivityWindow_of_due hrun hcls hst hage, kept.mem_eq rfl, kept.sys_eq rfl, kept.stamp_eq rfl⟩
  · rw [exec_classFActivityWindow_of_due hrun hcls (by omega) hage, State.activityEnd_of_silent hst hsilent hdue]
  · rw [exec_timescaleStep ns hrun hmode hcls, State.addDue_of_ne _ _ hw]
  · rw [exec_timescaleStep ns hrun hmode hcls, State.addDue_of_w3 _ _ hw]
  · rw [exec_timescaleStepToRef hrun hmode hcls hsel, State.addDue_of_ne _ _ hw]
  · rw [exec_timescaleStepToRef hrun hmode hcls hsel, State.addDue_of_w3 _ _ hw]
  · exact (if_pos hrun).trans (congrArg Host.Outcome.next (State.todArrive_of_unbound message endNs hfree))
  · have kept := s.todArrive_frame port message endNs
    exact ⟨if_pos hrun, kept.sys_eq rfl, kept.mem_eq rfl⟩

end Sys2Proof.Machine
end

section
/-!
SUPPORT. Keys: mint requests that their carrier takes, key writes, and what tamper leaves (R296 to R302, R308, R309, R312, R313, R323, R324).
-/

namespace Sys2Proof.Machine

namespace State

section
variable (s : State)

/-! ### Minting (R301, R302) -/

/-- A mint request whose channel and length are right waits, whether or not the device serves its channels. -/
theorem mintJudge_of_right {m : MintMsg} {k : Nat} (hchan : chanOf m.src = some k) (hk : k < 8) (hmint : s.isMint k = true)
    (hrun : s.running = true) (hlen : lenAgrees m.src 80 = true) :
    s.mintJudge m = { s with vault := { s.vault with mints := s.vault.mints ++ [m] } } := by
  have hserv : s.serving = true := by simp [serving, hrun]
  unfold mintJudge
  rw [hchan]
  simp [hserv, hk, hmint, hrun, hlen]

/-! ### Tamper (R323, R324) -/

/-- A tamper latched, its fuse due. -/
def latchTamper : State := { s with vault := { s.vault with tampered := true, fuseDue := true } }

theorem latchTamper_obj : s.latchTamper.obj = s.obj := rfl

theorem latchTamper_frame : Frame 8192 s s.latchTamper := .up13 (.refl _ s) rfl

theorem latchTamper_mode : s.zeroise.latchTamper.mode = s.mode := (o_congr (latchTamper_obj _) _).trans (s.zeroise_o (by decide))

theorem latchTamper_alive : s.zeroise.latchTamper.alive = s.alive := by rw [alive, alive, latchTamper_mode]

theorem tamper_eq : s.tamper = if s.zeroise.latchTamper.alive then s.zeroise.latchTamper.faulted 0x0805 0 0 else s.zeroise.latchTamper := rfl

theorem tamper_of_alive (h : s.alive = true) : s.tamper = s.zeroise.latchTamper.faulted 0x0805 0 0 := by
  rw [tamper_eq, latchTamper_alive, if_pos h]

theorem tamper_of_not_alive (h : s.alive = false) : s.tamper = s.zeroise.latchTamper := by
  rw [tamper_eq, latchTamper_alive, if_neg (Bool.eq_false_iff.mp h)]

/-- Tamper of a live device whose fault records are not frozen halts it. -/
theorem tamper_of_alive_halted (h : s.alive = true) (hf : s.fault.frozen = false) : Halted s.tamper := by
  rw [tamper_of_alive s h]
  refine faulted_classF _ _ (row := ⟨0x0805, 3, false, 1⟩) rfl rfl rfl ?_ ?_
  · rw [latchTamper_mode]
    exact mode_ne_halted h
  · exact (congrArg FaultState.frozen (((latchTamper_frame _).fault_eq rfl).trans (s.zeroise_frame.fault_eq rfl))).trans hf

end
end State

section
variable {s : State}

theorem exec_ntsRotateNow (hrun : s.running = true) : exec (.ntsRotateNow .hostH) s = .next (s.addDue true .rotateNow) := if_pos ⟨rfl, hrun⟩

theorem exec_ntsMintRequest_of_took {m : MintMsg} (hchan : (State.chanOf m.src).isSome = true) (htook : (s.accept m.src).2 = true) :
    exec (.ntsMintRequest m) s = .next (((s.accept m.src).1.placeRequest m.src (mintRequest m)).mintJudge m) := by
  obtain ⟨k, hk⟩ := Option.isSome_iff_exists.mp hchan
  change execNtsMintRequest m s = _
  unfold execNtsMintRequest
  rw [hk]
  exact congrArg Host.Outcome.next (if_pos htook)

theorem exec_keyWrite_of_owner {blob : Octets} (hrun : s.running = true) (hready : s.o Obj.vaultState = 2) (halone : s.joined = false) :
    exec (.keyWrite .hostH blob) s = if keyWriteOk blob then .next (s.keyWriteTake blob) else .next (s.inc Obj.keyWriteRefused) :=
  (if_neg (by simp [hrun, hready])).trans (if_neg (by simp [halone]))

theorem exec_remaskRequest (hmode : s.mode = mWarmup ∨ s.mode = mReplay) : exec (.remaskRequest .hostH) s = .next (s.addDue false .remask) :=
  if_pos ⟨rfl, hmode⟩

theorem exec_tamperEvent (hpwr : s.sys.pwrOk = true) : exec .tamperEvent s = .next s.tamper := if_pos hpwr

end

/-- Settles O36, each clause from the answer of its command; a tamper's are `tamper_of_alive` and `tamper_of_not_alive`. -/
theorem keyCommandsComplete : Obligations.KeyCommandsComplete := by
  refine ⟨fun s hrun => if_pos hrun, fun s hrun hw => ?_, fun s hrun hw => ?_, fun m s hchan htook => exec_ntsMintRequest_of_took hchan htook,
    fun m k s u v hchan haccept hplace hk hmint hrun hlen => ?_, fun blob s hrun hready halone hok => ?_,
    fun blob s hrun hready halone hbad => ?_, fun cls blob s hcls => if_pos (.inl hcls), fun s hrun hw => if_pos (by simp [hrun, hw]),
    fun s hmode hw => ?_, fun s hmode hw => ?_, fun s halive => if_neg (by simp [halive]), fun _ => rfl, fun s hpwr => exec_tamperEvent hpwr,
    fun s hpwr halive hfree _ => ?_, fun s hpwr hdead => ?_, fun s hdue hpwr => if_pos (by simp [hdue, hpwr])⟩
  · rw [exec_ntsRotateNow hrun, State.addDue_of_ne _ _ hw]
  · rw [exec_ntsRotateNow hrun, State.addDue_of_w3 _ _ hw]
  · rw [exec_ntsMintRequest_of_took (Option.isSome_iff_exists.mpr ⟨k, hchan⟩) (congrArg Prod.snd haccept), haccept]
    dsimp only
    rw [hplace, u.mintJudge_of_right hchan hk hmint hrun hlen]
  · rw [exec_keyWrite_of_owner hrun hready halone, if_pos hok]
  · rw [exec_keyWrite_of_owner hrun hready halone, if_neg (Bool.eq_false_iff.mp hbad)]
  · rw [exec_remaskRequest hmode, State.addDue_of_ne _ _ hw]
  · rw [exec_remaskRequest hmode, State.addDue_of_w3 _ _ hw]
  · have kept : s.tamper.vault = s.zeroise.latchTamper.vault := by
      rw [s.tamper_of_alive halive]
      exact (State.faulted_frame _ _ _ _).vault_eq rfl
    exact ⟨_, exec_tamperEvent hpwr, s.tamper_of_alive_halted halive hfree, congrArg VaultState.tampered kept, congrArg VaultState.fuseDue kept⟩
  · rw [exec_tamperEvent hpwr, s.tamper_of_not_alive hdead]
    exact ⟨_, rfl, s.latchTamper_mode, rfl, rfl, ((State.latchTamper_frame _).mem_eq rfl).trans (s.zeroise_frame.mem_eq rfl)⟩

end Sys2Proof.Machine
end

section
/-!
SUPPORT. Requests for the time services: what the answer to an item leaves, and the commands of items in their places (R265, R266, R276, R281, R283,
R285, R290 to R294).
-/

namespace Sys2Proof.Machine

namespace State

/-! ### The shared operations of an answer (R268, R272, R363, R365) -/

/-- Item `n` is not among the items of grove `g`. -/
def ItemGone (g n : Nat) (t : State) : Prop := ∀ x ∈ Sparse.get (fun _ => []) t.serv.items g, x.1 ≠ n

section
variable (s : State) {g n m : Nat}

theorem ItemGone.of_items {t : State} (h : ItemGone g n s) (hitems : t.serv.items = s.serv.items) : ItemGone g n t := by
  unfold ItemGone
  rw [hitems]
  exact h

theorem itemDone_gone (g n : Nat) : ItemGone g n (s.itemDone g n) := by
  have left : Sparse.get (fun _ => []) (s.itemDone g n).serv.items g = (Sparse.get (fun _ => []) s.serv.items g).filter fun x => x.1 != n :=
    Sparse.get_put_self _ _ _ _
  intro x hx
  rw [left] at hx
  simpa using (List.mem_filter.mp hx).2

theorem release_items (g n bit m : Nat) (f : TxFrame) : (s.release g n bit m f).serv.items = s.serv.items := by
  obtain ⟨reed, kept⟩ := s.release_serv g n bit m f
  rw [kept]

/-- The state with a bit of an item's word in the Reed journal set (R363). -/
def copiedOut (g n bit : Nat) : State := { s with serv := { s.serv with
  reed := Sparse.put (fun _ => 0) s.serv.reed (g * 8192 + n % 8192) (setBit (Sparse.get (fun _ => 0) s.serv.reed (g * 8192 + n % 8192)) bit) } }

/-- An item that is not copied out yet is released: the Reed journal says so, and its frame is queued. -/
theorem release_of_fresh {bit : Nat} (f : TxFrame) (h : bitOf (Sparse.get (fun _ => 0) s.serv.reed (g * 8192 + n % 8192)) bit = false) :
    s.release g n bit m f = (s.copiedOut g n bit).enqueue m f := if_neg (Bool.eq_false_iff.mp h)

theorem length_queue_release_of_fresh {bit : Nat} (f : TxFrame)
    (h : bitOf (Sparse.get (fun _ => 0) s.serv.reed (g * 8192 + n % 8192)) bit = false) :
    ((s.release g n bit m f).mac m).queue.length = (s.mac m).queue.length + 1 := by
  rw [release_of_fresh s f h, length_queue_enqueue]
  rfl

theorem release_o_of_fresh {bit : Nat} (f : TxFrame) (h : bitOf (Sparse.get (fun _ => 0) s.serv.reed (g * 8192 + n % 8192)) bit = false) (k : Nat) :
    (s.release g n bit m f).o k = s.o k := by
  rw [release_of_fresh s f h]
  exact o_congr ((enqueue_frame _ _ _).obj_eq rfl) k

/-- Of the objects, a release writes the count of blocked items alone. -/
theorem release_keeps {k : Nat} (bit m : Nat) (f : TxFrame) (hk : k ≠ Obj.reedDupBlocked g) : KeepsObj k s (s.release g n bit m f) := by
  have queued : KeepsObj k s ((s.copiedOut g n bit).enqueue m f) := .of (enqueue_frame _ _ _) (.refl k s) rfl
  exact .ite ((KeepsObj.refl k s).inc hk) queued

/-- An EXACT departure is refused and counted, or it is reserved and changes nothing (R268). -/
theorem exactReserve_cases (m len : Nat) (launch now : Int) : s.exactReserve m len launch now = (s.inc (Obj.npExactRefused m), none) ∨
    ∃ d, s.exactReserve m len launch now = (s, some d) := by
  unfold exactReserve
  extract_lets d
  split
  · exact .inl rfl
  · exact .inr ⟨d, rfl⟩

theorem exactReserve_of_none {m len : Nat} {launch now : Int} {u : State} (h : s.exactReserve m len launch now = (u, none)) :
    u = s.inc (Obj.npExactRefused m) := by
  obtain hrefused | ⟨d, hreserved⟩ := s.exactReserve_cases m len launch now
  · exact (congrArg Prod.fst (hrefused.symm.trans h)).symm
  · cases hreserved.symm.trans h

theorem exactReserve_of_some {m len : Nat} {launch now d : Int} {u : State} (h : s.exactReserve m len launch now = (u, some d)) : u = s := by
  obtain hrefused | ⟨d, hreserved⟩ := s.exactReserve_cases m len launch now
  · cases hrefused.symm.trans h
  · exact (congrArg Prod.fst (hreserved.symm.trans h)).symm

theorem mirror_of_alone (bit : Nat) (f : RxFrame) (h : s.joined = false) : s.mirror bit f = s := if_neg (by simp [h])

end

/-! ### The answer to an NTP request (R292, R293) -/

section
variable (s : State) (g n : Nat) (f : RxFrame) (now : Int)

theorem ntpRequest_of_invalid (hbad : ntpValid f.p.payload = false) : s.ntpRequest g n f now = (s.itemDone g n).inc Obj.ntpMalformed :=
  if_pos (by simp [hbad])

theorem ntpRequest_of_unset (hok : ntpValid f.p.payload = true) (hset : s.flag Obj.timescaleSet = false) :
    s.ntpRequest g n f now = s.itemDone g n := (if_neg (by simp [hok])).trans (if_pos (by simp [hset]))

theorem ntpRequest_of_misplaced (hok : ntpValid f.p.payload = true) (hset : s.flag Obj.timescaleSet = true)
    (hplace : (s.itemDone g n).ntpPlaced f.p.payload = false) : s.ntpRequest g n f now = (s.itemDone g n).inc Obj.timeInputMalformed :=
  (if_neg (by simp [hok])).trans ((if_neg (by simp [hset])).trans (if_pos (by simp [hplace])))

/-- The departure that an NTP answer asks for: 600 ns after its queueing (R293). -/
def ntpReserve : State × Option Int := (s.itemDone g n).exactReserve f.mac
  (max 64 (headLen (if f.p.ip = 4 then 1 else 2) f.p.tags.length + 52)) (now + 600 * nsUnits) now

/-- The bound of an NTP answer that leaves at `d` is below the ceiling (R239). -/
def ntpBelow (d : Int) : Bool := s.belowCeiling 1 (s.ntpBound f d (bitOf (s.n Obj.smearEnable) 0)).1

/-- A placed request of an ALONE unit is answered where its departure is reserved and its bound below the ceiling; otherwise a count says why not. -/
theorem ntpRequest_of_placed (hok : ntpValid f.p.payload = true) (hset : s.flag Obj.timescaleSet = true)
    (hplace : (s.itemDone g n).ntpPlaced f.p.payload = true) (halone : s.joined = false) :
    (∃ r, s.ntpRequest g n f now = ((s.itemDone g n).release g n 0 f.mac r).inc Obj.ntpResponses) ∨
    ((∀ u d, s.ntpReserve g n f now = (u, some d) → s.ntpBelow f d = false) ∧ ∃ k, s.ntpRequest g n f now = (s.itemDone g n).inc k) := by
  unfold ntpRequest
  extract_lets s0 b s1 smear len
  have h1 : s1 = s0 := mirror_of_alone _ _ _ halone
  rw [if_neg (by simp [b, hok]), if_neg (by simp [hset]), if_neg (by simp [s0, b, hplace]), h1]
  obtain hrefused | ⟨d, hreserved⟩ := s0.exactReserve_cases f.mac len (now + 600 * nsUnits) now
  · refine .inr ⟨fun u d h => ?_, Obj.npExactRefused f.mac, ?_⟩
    · exact absurd (hrefused.symm.trans h) (by simp)
    · rw [hrefused]
  · rw [hreserved]
    dsimp only
    split
    next hover =>
      refine .inr ⟨fun u x h => ?_, Obj.ceilingDrops 1, rfl⟩
      obtain rfl : d = x := Option.some.inj (congrArg Prod.snd (hreserved.symm.trans h))
      exact (Bool.not_eq_true' _).mp hover
    next => exact .inl ⟨_, rfl⟩

end

/-! ### The answers to Delay_Req and Pdelay_Req (R281) -/

section
variable (s : State) (g n : Nat) (f : RxFrame) (now : Int)

/-- `t` answers item `n` of `s` on a MAC: a frame is released for the item, or the refusal of its EXACT departure is counted. -/
def Answered (m : Nat) (s t : State) : Prop := (∃ r, t = s.release g n 0 m r) ∨ t = s.inc (Obj.npExactRefused m)

/-- Instances without a key answer a group Delay_Req where the bound is below the ceiling. -/
theorem delayReq_of_group {i : Nat} (hinst : s.instOf f = some i) (hkey : bitOf (s.inst i).flags 3 = false) (hp2p : (s.inst i).p2p = false)
    (huni : bitOf (fieldN f.p.payload 6 2) 10 = false) (hgroup : groupAddr f.p = true)
    (hbelow : s.belowCeiling 0 (boundSum [(s.coreOf [f.tick]).bound, 1, s.portTerm f.mac]) = true) :
    Answered g n f.mac (s.itemDone g n) (s.delayReq g n f now) := by
  have hcheck : s.authCheck i f.p.payload = true := by simp [authCheck, hkey]
  unfold delayReq
  extract_lets s0 b uni core e
  split
  next hno => exact absurd (hinst.symm.trans hno) (by simp)
  next j hj =>
    obtain rfl : i = j := Option.some.inj (hinst.symm.trans hj)
    extract_lets c granted
    rw [if_neg (by simp [b, hcheck]), if_neg (by simp [c, hp2p]), if_neg (by simp [uni, b, huni, hgroup]), if_neg (by simp [e, core, hbelow])]
    split
    next ts fr _ =>
    extract_lets body
    split
    next hunkeyed => exact absurd (s.keyed_of_finish_eq_none hunkeyed) (by simp [c, hkey])
    next m _ =>
      extract_lets r r1
      split
      next s1 od hs1 =>
        cases od with
        | none => exact .inr (s0.exactReserve_of_none hs1)
        | some t =>
          rw [s0.exactReserve_of_some hs1]
          exact .inl ⟨_, rfl⟩

/-- The state with a follow-up owed (R281). -/
def addOwed (o : OwedFollowUp) : State := { s with serv := { s.serv with owed := s.serv.owed ++ [o] } }

/-- Two-step instances without a key release the answer to a Pdelay_Req, and owe its follow-up. -/
theorem pdelayReq_of_twoStep {i : Nat} (hinst : s.instOf f = some i) (hkey : bitOf (s.inst i).flags 3 = false) (hp2p : (s.inst i).p2p = true)
    (htwo : bitOf (s.inst i).flags 0 = true) (hbelow : s.belowCeiling 0 (boundSum [(s.coreOf [f.tick]).bound, 1, s.portTerm f.mac]) = true) :
    ∃ r frame, s.pdelayReq g n f now = ((s.itemDone g n).release g n 0 f.mac r).addOwed
      ⟨16 * i + f.mac + 256 * (8192 * g + n), s.tick, frame, f.mac⟩ := by
  have hcheck : s.authCheck i f.p.payload = true := by simp [authCheck, hkey]
  unfold pdelayReq
  extract_lets s0 b
  split
  next hno => exact absurd (hinst.symm.trans hno) (by simp)
  next j hj =>
    obtain rfl : i = j := Option.some.inj (hinst.symm.trans hj)
    extract_lets c two sdo d key fu r2 r3 owed
    have htwo' : two = true := htwo
    rw [if_neg (by simp [b, hcheck]), if_neg (by simp [c, hp2p])]
    split
    next s1 od hs1 =>
    obtain ⟨hs, hod⟩ := Prod.mk.inj ((if_pos htwo').symm.trans hs1)
    rw [← hs, ← hod]
    extract_lets ticks core e
    rw [if_neg (by simp [htwo']), if_neg (by simp [e, core, ticks, hbelow])]
    split
    next ts fr _ =>
    extract_lets body
    split
    next hunkeyed => exact absurd (s.keyed_of_finish_eq_none hunkeyed) (by simp [c, hkey])
    next m _ =>
      extract_lets r r1 s2
      rw [if_pos htwo']
      exact ⟨_, _, rfl⟩

end

/-! ### Grants that run out (R285) -/

/-- A session line whose grants have all run out is given up. -/
theorem pruneLine_of_runOut {s : State} {l : Nat} {v : Session} (hv : s.session l = some v)
    (hannounce : ∀ x, v.announce = some x → x.start + x.dur * 8192 < s.age) (hsync : ∀ x, v.sync = some x → x.start + x.dur * 8192 < s.age)
    (hdelay : ∀ x, v.delay = some x → x.start + x.dur * 8192 < s.age)
    (hsome : v.announce.isSome = true ∨ v.sync.isSome = true ∨ v.delay.isSome = true) : s.pruneLine l false =
      (s.commitSession v.grove l none).setN (Obj.ptpUnicastSessions v.inst) (s.n (Obj.ptpUnicastSessions v.inst) - 1) := by
  unfold pruneLine
  split
  next hno => exact absurd (hv.symm.trans hno) (by simp)
  next u hu =>
    obtain rfl : v = u := Option.some.inj (hv.symm.trans hu)
    extract_lets keep w
    have hkeep (t : Nat) {g : Option Grant} (h : ∀ x, g = some x → x.start + x.dur * 8192 < s.age) : keep t g = none := by
      cases g with
      | none => rfl
      | some x =>
        have hover := h x rfl
        have hdead : s.grantLive x = false := decide_eq_false (by omega)
        have hlate : ¬s.age = x.start + x.dur * 8192 := by omega
        simp [keep, hdead, hlate]
    have hw : w = { v with announce := none, sync := none, delay := none } := by
      simp only [w, hkeep 11 hannounce, hkeep 0 hsync, hkeep 9 hdelay]
    have hne : w ≠ v := by
      intro h
      rw [← h, hw] at hsome
      simp at hsome
    rw [if_neg hne, hw]
    rfl

/-- An item not copied out yet is not copied out yet once it is done. -/
theorem itemDone_fresh {s : State} {g : Nat} {n : Fin 8192} (h : bitOf (Sparse.get (fun _ => 0) s.serv.reed (g * 8192 + n)) 0 = false) :
    bitOf (Sparse.get (fun _ => 0) (s.itemDone g n).serv.reed (g * 8192 + n % 8192)) 0 = false := by
  rw [Nat.mod_eq_of_lt n.isLt]
  exact h

theorem ItemGone.answered {s t : State} {g n m : Nat} (h : Answered g n m (s.itemDone g n) t) : ItemGone g n t := by
  obtain ⟨r, rfl⟩ | rfl := h
  · exact (s.itemDone_gone g n).of_items _ (release_items _ g n 0 m r)
  · exact (s.itemDone_gone g n).of_items _ rfl

/-- An answer counts no ceiling drop. -/
theorem Answered.ceilingDrops {s t : State} {g n m : Nat} (h : Answered g n m s t) (hg : g < 16) :
    t.o (Obj.ceilingDrops 0) = s.o (Obj.ceilingDrops 0) := by
  obtain ⟨r, rfl⟩ | rfl := h
  · exact s.release_keeps 0 m r (by simp only [Obj.ceilingDrops, Obj.reedDupBlocked, ne_eq]; omega)
  · exact (KeepsObj.refl _ s).inc (by simp only [Obj.ceilingDrops, Obj.npExactRefused, ne_eq]; omega)

/-- An answer to an item not copied out yet is queued, unless its departure is refused and that counted. -/
theorem Answered.queued {s t : State} {g n m : Nat} (h : Answered g n m s t)
    (hfresh : bitOf (Sparse.get (fun _ => 0) s.serv.reed (g * 8192 + n % 8192)) 0 = false)
    (hgranted : t.o (Obj.npExactRefused m) = s.o (Obj.npExactRefused m)) : (t.mac m).queue.length = (s.mac m).queue.length + 1 := by
  obtain ⟨r, rfl⟩ | rfl := h
  · exact s.length_queue_release_of_fresh r hfresh
  · rw [o_inc, if_pos rfl] at hgranted
    omega

end State

/-! ### The commands of items -/

section
variable {g : Fin 16} {n : Fin 8192} {f : RxFrame} {s : State} (now : Int)

theorem exec_ntpRequest_of_item (hitem : s.item g n = some f) (hserv : s.servesItem g f = true) (hcls : f.cls = .ntp) :
    exec (.ntpRequest g n now) s = .next (s.ntpRequest g n f now) := by
  change execNtpRequest g n now s = _
  unfold execNtpRequest
  rw [hitem]
  exact if_pos (by simp [hserv, hcls])

theorem exec_ntsRequest_of_item (hitem : s.item g n = some f) (hserv : s.servesItem g f = true) (hcls : f.cls = .nts) :
    exec (.ntsRequest g n now) s = .next (s.ntsRequest g n f now) := by
  change execNtsRequest g n now s = _
  unfold execNtsRequest
  rw [hitem]
  exact if_pos (by simp [hserv, hcls])

theorem exec_ptpDelayReq_of_item (hitem : s.item g n = some f) (hserv : s.serves g = true) (hcls : f.cls = .ptpEvent)
    (htype : octetAt f.p.payload 0 % 16 = 1) (hsess : f.session = none) : exec (.ptpDelayReq g n now) s = .next (s.delayReq g n f now) := by
  change execPtpDelayReq g n now s = _
  unfold execPtpDelayReq
  rw [hitem]
  exact if_pos (by simp [hserv, hcls, htype, hsess])

theorem exec_ptpPdelayReq_of_item (hitem : s.item g n = some f) (hserv : s.serves g = true) (hcls : f.cls = .ptpEvent)
    (htype : octetAt f.p.payload 0 % 16 = 2) (hsess : f.session = none) : exec (.ptpPdelayReq g n now) s = .next (s.pdelayReq g n f now) := by
  change execPtpPdelayReq g n now s = _
  unfold execPtpPdelayReq
  rw [hitem]
  exact if_pos (by simp [hserv, hcls, htype, hsess])

theorem exec_ptpGrantRequest_of_item (hitem : s.item g n = some f) (hserv : s.serves g = true) (hcls : f.cls = .ptpGeneral)
    (htype : octetAt f.p.payload 0 % 16 = 12) (hsess : f.session = none) (hreq : (tlvsOf f.p.payload).any (fun t => t.2.1 == 4) = true) :
    exec (.ptpGrantRequest g n) s = .next (s.signaling g n f) := by
  change execPtpGrantRequest g n s = _
  unfold execPtpGrantRequest
  rw [hitem]
  exact if_pos (by rw [hreq]; simp [hserv, hcls, htype, hsess])

/-- PTP_GRANT_CANCEL takes a Signaling message with a cancel or a request, and drops one of a type that none of the instances uses. -/
theorem exec_ptpGrantCancel_of_item (hitem : s.item g n = some f) (hserv : s.serves g = true) (hcls : f.cls = .ptpGeneral)
    (hsess : f.session = none) : exec (.ptpGrantCancel g n) s =
      if octetAt f.p.payload 0 % 16 = 12 ∧ (tlvsOf f.p.payload).any (fun t => t.2.1 == 6 || t.2.1 == 4) = true then .next (s.signaling g n f)
      else if octetAt f.p.payload 0 % 16 = 10 then .next s else .next (s.unsupported g n f) := by
  change execPtpGrantCancel g n s = _
  unfold execPtpGrantCancel
  rw [hitem]
  exact if_pos (by simp [hserv, hcls, hsess])

theorem State.unsupported_of_inst {i : Nat} (hinst : s.instOf f = some i) :
    s.unsupported g n f = (s.itemDone g n).inc (Obj.ptpUnsupported i) := by
  unfold unsupported
  rw [hinst]

/-- ESMC_PDU_RECEIVE takes the SSM and the instant of an information PDU (R266). -/
theorem exec_esmcPduReceive_of_item (hitem : s.item g n = some f) (hserv : s.serves g = true) (hcls : f.cls = .esmc)
    (hoid : octets f.p.payload 1 3 = [0x00, 0x19, 0xA7]) (hsub : fieldN f.p.payload 4 2 = 1) (htlv : octetAt f.p.payload 10 = 1)
    (hlen : fieldN f.p.payload 11 2 = 4) : exec (.esmcPduReceive g n) s =
      .next (((s.itemDone g n).setN (Obj.esmcRxSsm f.mac) (octetAt f.p.payload 13 % 16)).setMac f.mac { s.mac f.mac with esmcRx := s.age }) := by
  change execEsmcPduReceive g n s = _
  unfold execEsmcPduReceive
  rw [hitem]
  exact (if_pos (by simp [hserv, hcls])).trans (if_pos ⟨hoid, hsub, htlv, hlen⟩)

theorem exec_ptpClientRx_of_session {c : Nat} (hitem : s.item g n = some f) (hsess : f.session = some c) (hworks : s.works g = true) :
    exec (.ptpClientRx g n) s = .next ((s.itemDone g n).clientRx c f) := by
  change execPtpClientRx g n s = _
  unfold execPtpClientRx
  rw [hitem]
  dsimp only
  rw [hsess]
  exact if_pos hworks

theorem exec_ptpClientRx_of_pdelay (hitem : s.item g n = some f) (hsess : f.session = none) (hserv : s.serves g = true)
    (hresp : f.cls = .ptpEvent ∧ octetAt f.p.payload 0 % 16 = 3 ∨ f.cls = .ptpGeneral ∧ octetAt f.p.payload 0 % 16 = 10) :
    exec (.ptpClientRx g n) s = .next ((s.itemDone g n).pdelayRx f) := by
  change execPtpClientRx g n s = _
  unfold execPtpClientRx
  rw [hitem]
  dsimp only
  rw [hsess]
  exact if_pos (by simp [hserv, hresp])

end

/-- Settles O34: each command takes its item, and what its answer leaves is said by the lemmas above. -/
theorem requestCommandsComplete : Obligations.RequestCommandsComplete := by
  refine ⟨fun g n now f s hitem hserv hcls => exec_ntpRequest_of_item now hitem hserv hcls,
    fun g n now f s hitem hserv hcls hbad => ?_, fun g n now f s hitem hserv hcls hok hunset => ?_,
    fun g n now f s hitem hserv hcls hok hset hmis => ?_, fun g n now f s hitem hserv hcls hok hset hplace halone => ?_,
    fun g n now f s hitem hserv hcls => exec_ntsRequest_of_item now hitem hserv hcls,
    fun g n now f s hitem hserv hcls htype hsess => exec_ptpDelayReq_of_item now hitem hserv hcls htype hsess,
    fun g n now f i s hitem hserv hcls htype hsess hinst hkey hp2p huni hgroup hbelow => ?_,
    fun g n now f s hitem hserv hcls htype hsess => exec_ptpPdelayReq_of_item now hitem hserv hcls htype hsess,
    fun g n now f i s hitem hserv hcls htype hsess hinst hkey hp2p htwo hbelow => ?_,
    fun g n f s hitem hserv hcls htype hsess hreq => exec_ptpGrantRequest_of_item hitem hserv hcls htype hsess hreq,
    fun g n f s hitem hserv hcls htype hsess hcancel => ?_, fun g n f i s hitem hserv hcls hsig hresp hsess hinst => ?_,
    fun line s hrun => if_pos hrun, fun line v s hrun hv hannounce hsync hdelay hsome => ?_,
    fun g n f s hitem hserv hcls hoid hsub htlv hlen => exec_esmcPduReceive_of_item hitem hserv hcls hoid hsub htlv hlen,
    fun g n f c s hitem hsess hworks => exec_ptpClientRx_of_session hitem hsess hworks,
    fun g n f s hitem hsess hserv hresp => exec_ptpClientRx_of_pdelay hitem hsess hserv hresp⟩
  · rw [exec_ntpRequest_of_item now hitem hserv hcls, s.ntpRequest_of_invalid g n f now hbad]
  · rw [exec_ntpRequest_of_item now hitem hserv hcls, s.ntpRequest_of_unset g n f now hok hunset]
  · rw [exec_ntpRequest_of_item now hitem hserv hcls, s.ntpRequest_of_misplaced g n f now hok hset hmis]
  · refine ⟨_, exec_ntpRequest_of_item now hitem hserv hcls, ?_, (s.ntpRequest_frame g n f now).mem_eq rfl, fun u d hreserve hbelow hfresh => ?_⟩
    all_goals obtain ⟨r, hanswer⟩ | ⟨hno, k, hcount⟩ := s.ntpRequest_of_placed g n f now hok hset hplace halone
    · rw [hanswer]
      exact (s.itemDone_gone g n).of_items _ (State.release_items _ g n 0 f.mac r)
    · rw [hcount]
      exact (s.itemDone_gone g n).of_items _ rfl
    · rw [hanswer]
      refine ⟨?_, (s.itemDone g n).length_queue_release_of_fresh r (State.itemDone_fresh hfresh)⟩
      rw [State.o_inc, if_pos rfl, State.release_o_of_fresh _ r (State.itemDone_fresh hfresh)]
      rfl
    · exact absurd hbelow (Bool.eq_false_iff.mp (hno u d hreserve))
  · have answered := s.delayReq_of_group g n f now hinst hkey hp2p huni hgroup hbelow
    exact ⟨_, exec_ptpDelayReq_of_item now hitem hserv hcls htype hsess, State.ItemGone.answered answered,
      (s.delayReq_frame g n f now).mem_eq rfl, answered.ceilingDrops g.isLt,
      fun hgranted hfresh => answered.queued (State.itemDone_fresh hfresh) hgranted⟩
  · obtain ⟨r, frame, hanswer⟩ := s.pdelayReq_of_twoStep g n f now hinst hkey hp2p htwo hbelow
    have kept := s.pdelayReq_frame g n f now
    refine ⟨_, exec_ptpPdelayReq_of_item now hitem hserv hcls htype hsess, ?_, kept.mem_eq rfl, kept.sys_eq rfl, ?_, fun hfresh => ?_⟩
    all_goals rw [hanswer]
    · exact (s.itemDone_gone g n).of_items _ (State.release_items _ g n 0 f.mac r)
    · exact ⟨_, List.mem_append_right _ (List.mem_singleton.mpr rfl), rfl, rfl⟩
    · exact (s.itemDone g n).length_queue_release_of_fresh r (State.itemDone_fresh hfresh)
  · rw [exec_ptpGrantCancel_of_item hitem hserv hcls hsess, if_pos ⟨htype, hcancel⟩]
  · rw [exec_ptpGrantCancel_of_item hitem hserv hcls hsess, if_neg fun h => hsig h.1, if_neg hresp, State.unsupported_of_inst hinst]
  · exact (if_pos hrun).trans (congrArg Host.Outcome.next (State.pruneLine_of_runOut hv hannounce hsync hdelay hsome))

end Sys2Proof.Machine
end
